-- ==== Sys2Proof/Word.lean ====
section
/-! DEFINITION. The plain data words of the model: bytes, 32-bit lanes, 64-bit scalar words, and the sparse
map that holds every large table of the tile as plain data.

The spec stores every multi-byte field little-endian (R2).  Counts, sizes, ticks, indices and register fields
that the spec only compares, adds and counts are natural numbers; what a core computes with is a bit vector. -/

namespace Sys2Proof

/-- One byte. -/
abbrev Byte := BitVec 8

/-- One 32-bit lane of a V register: FP32, BF16 in bits [31:16], or INT32 (Table 5-1, R191). -/
abbrev Lane := BitVec 32

/-- One 64-bit S register (Table 5-1). -/
abbrev SWord := BitVec 64

/-- A string of octets, first octet first. -/
abbrev Octets := List Byte

/-- A sparse table: pairs of a key and a value, keys strictly rising, absent keys hold the table's default.
The named operations over it are in `Machine/Ops.lean`. -/
abbrev SMap (α : Type) := List (Nat × α)

/-- A byte-addressed store: `Host.Cell` pairs in rising order, unlisted bytes read as 0. -/
abbrev ByteStore := List Host.Cell

end Sys2Proof
end

