-- ==== Sys2Proof/Values.lean ====
section
/-! DEFINITION. The operand types of the commands: messages, images, records and headers as the spec lays them out.
The commands themselves are in `Syntax.lean`. -/

namespace Sys2Proof

/-! ### Transfers and messages (chapter 15) -/

/-- Transfer header of Table 15-1, with the UCIe module it arrived on, and the descriptor reads that resolving its message's handle makes (R44, R47, R64):
the index of each with the 512 octets that the read delivers. -/
structure Transfer where
  /-- UCIe module 0-7 that carried it -/
  ucie : Nat
  /-- `t_kind`: 1 MSG, 2 WRITE, 3 READ_REQ, 4 READ_DATA, 5 HEARTBEAT, 6 CTRL_READ, 7 CTRL_DATA -/
  kind : Nat
  station : Nat
  len : Nat
  tag : Nat
  addr : Nat
  descs : List (Nat × Octets) := []
deriving DecidableEq, Repr

/-- Message header of Table 15-6 (`m_type` is the body's constructor). `res1` and `res4` are the reserved
fields at 0x01 and 0x04, which R3 makes range violations when they are not 0. -/
structure MsgHdr where
  station : Nat
  len : Nat
  seq : Nat
  handle : Nat
  res1 : Nat
  res4 : Nat
deriving DecidableEq, Repr

/-- HELLO body, Table 15-7. -/
structure HelloBody where
  majorLo : Nat
  majorHi : Nat
  minor : Nat
  hbTicks : Nat
  features : Nat
  cqBase : Nat
  eqBase : Nat
  hbAddr : Nat
  cqLog2 : Nat
  eqLog2 : Nat
  res42 : Nat
deriving DecidableEq, Repr

/-- RING_NAME body, Table 15-7. -/
structure RingNameBody where
  base : Nat
  log2 : Nat
  res21 : Nat
  cons : Nat
deriving DecidableEq, Repr

/-- OBJ_READ and OBJ_WRITE body, Table 15-7. -/
structure ObjBody where
  index : Nat
  sub : Nat
  res1B : Nat
  len : Nat
  addr : Nat
  value : Octets
deriving DecidableEq, Repr

/-- OPEN body, Table 15-9. -/
structure OpenBody where
  tenant : Nat
  half : Nat
  revive : Nat
  parkClass : Nat
  model : Nat
  draftModel : Nat
  draftOn : Bool
  includeStop : Bool
  res1C : Nat
  draftLen : Nat
  ringLog2 : Nat
  stopSet : Nat
  maxPositions : Nat
  maxNew : Nat
  pfx : Nat
  ringBase : Nat
  genSeed : Nat
  temperature : Lane
  topK : Nat
  topP : Lane
  grammar : Nat
  /-- the four bindings `o_binding`, each laid out as Table 10-7 -/
  bindings : List Nat
deriving DecidableEq, Repr

/-- Input body of APPEND, RESUME and PREFIX_REGISTER, Table 15-10. -/
structure InputBody where
  cls : Nat
  final : Bool
  draftReset : Bool
  byRef : Bool
  res18 : Nat
  model : Nat
  res19 : Nat
  tenant : Nat
  waitTag : Nat
  bytes : Nat
  res24 : Nat
  addr : Nat
  data : Octets
deriving DecidableEq, Repr

/-- CHECKPOINT body, Table 15-7. -/
structure CheckpointBody where
  id : Nat
  frame : Nat
deriving DecidableEq, Repr

/-- SEARCH body, Table 15-7 (`s_op` is the constructor: 1 QUERY, 2 INSERT, 3 DELETE). -/
structure SearchBody where
  index : Nat
  k : Nat
  beam : Nat
  prefetch : Nat
  res1F : Nat
  visitLimit : Nat
  res24 : Nat
  vecAddr : Nat
  resultAddr : Nat
  id : Nat
  res3D : Nat
  /-- the vector's bytes once fetched (R494) -/
  data : Octets
deriving DecidableEq, Repr

/-- The message types of Table 15-8. -/
inductive MsgBody where
  | hello (b : HelloBody)
  | goodbye
  | ringName (b : RingNameBody)
  | objRead (b : ObjBody)
  | objWrite (b : ObjBody)
  | openSession (b : OpenBody)
  | close
  | append (b : InputBody)
  | resume (b : InputBody)
  | cancel
  | park
  | revive
  | prefixRegister (b : InputBody)
  | prefixRelease
  | checkpoint (b : CheckpointBody)
  | query (b : SearchBody)
  | insert (b : SearchBody)
  | delete (b : SearchBody)
  /-- a code that Table 15-8 does not list, or SEARCH (0x21) with an operation that Table 15-7 does not list -/
  | unlisted (type : Nat)
deriving DecidableEq, Repr

/-- One host message: header and body. -/
structure Msg where
  hdr : MsgHdr
  body : MsgBody
deriving DecidableEq, Repr

/-! ### Moves (chapter 3) -/

/-- Move descriptor of Table 3-8; `op` is the constructor of the command that carries it. -/
structure MoveDesc where
  op : Nat
  event : Bool
  ownerCheck : Bool
  fence : Bool
  retag : Bool
  useDeadline : Bool
  keepShadow : Bool
  count : Nat
  owner : Nat
  src : Nat
  dst : Nat
  newOwner : Nat
  firstBlock : Nat
  lastBlock : Nat
  layerFirst : Nat
  layerLast : Nat
  deadline : Nat
  eventObj : Nat
  station : Nat
  tag : Nat
  fill : Nat
deriving DecidableEq, Repr

/-- What the memory answered when a moved tile was read (R96, R100, R107, R122). -/
inductive TileRead where
  /-- the tile read and its CRC-32C checked -/
  | ok
  /-- the first read failed and a rebuild from parity, or a valid shadow, delivered the tile -/
  | repaired
  /-- the tile could not be read or rebuilt -/
  | lost
deriving DecidableEq, Repr

/-- An extent record of `stn_t3_extent`, 16 bytes (R120). -/
structure ExtentRec where
  base : Nat
  slots : Nat
  kind : Nat
  shared : Nat
  latencyUs : Nat
deriving DecidableEq, Repr

/-! ### Traverses and slot lists (chapter 4) -/

/-- The traverse header of Table 4-1, less its reserved fields (R138). -/
structure TrvHeader where
  magic : Nat
  fmtMajor : Nat
  fmtMinor : Nat
  fmtRequired : Nat
  fmtOptional : Nat
  groupIdentity : Nat
  imageDigest : Nat
  groupSize : Nat
  position : Nat
  solo : Bool
  bucketed : Bool
  buckets : Nat
  modelMask : Nat
  frameTicks : Nat
  runTicks : Nat
  rows : Nat
  maxRowNew : Nat
  maxRowPositions : Nat
  kvPageBudget : Nat
  kvTier : Nat
  variants : Nat
  holdWindow : Nat
  holdLead : Nat
  maskBudget : Nat
  cowAllowance : Nat
  bucketMargin : Nat
  clusterMask : Nat
  sectOffset : Nat
  sectCount : Nat
  keySlot : Nat
  sigOffset : Nat
  hdrCrc : Nat
deriving DecidableEq, Repr

/-- One wait point of a WAIT_POINTS section (R162). -/
structure WaitPoint where
  tag : Nat
  queue : Nat
  decisionTick : Nat
  /-- the point waits for a traverse search (R163) -/
  search : Bool
  /-- for a group object, which `tag` names and queue 0xFF marks (R359): the condition of its WAIT (0 count, 1 event, 2 round) and its operand -/
  cond : Nat
  operand : Nat
deriving DecidableEq, Repr

/-- One bucket of BUCKET_TABLE: context cap, first row, row count (Table 4-3). -/
structure BucketRec where
  cap : Nat
  firstRow : Nat
  rowCount : Nat
deriving DecidableEq, Repr

/-- One class 0 move of MOVE_PROGRAM with its issue tick and queue (Table 4-3). -/
structure ProgMove where
  issueTick : Nat
  queue : Nat
  desc : MoveDesc
deriving DecidableEq, Repr

/-- One gather record, Table 6-4. -/
structure GatherRec where
  issueTick : Nat
  rowFirst : Nat
  rowCount : Nat
  layer : Nat
  group : Nat
  k : Bool
  v : Bool
  chunk : Nat
  queue : Nat
  dst : Nat
  tag : Nat
  slots : Nat
deriving DecidableEq, Repr

/-- One append table entry, Table 6-3. -/
structure AppendRec where
  cycle : Nat
  src : Nat
  row : Nat
  layer : Nat
  group : Nat
  kv : Nat
  echo : Bool
  first : Nat
  count : Nat
deriving DecidableEq, Repr

/-- One synchronisation object of SYNC_TABLE, Table 10-2 (R348): its number, type, group flag, persistence, value, parties and
the two counts of a closure. -/
structure SyncInit where
  obj : Nat
  type : Nat
  group : Bool
  persist : Bool
  value : Nat
  parties : Nat
  cntEven : Nat
  cntOdd : Nat
deriving DecidableEq, Repr

/-- Associative entry, Table 9-1. -/
structure CamEntry where
  value : Nat
  care : Nat
  result : Nat
  order : Nat
deriving DecidableEq, Repr

/-- The embedding gather of a model slot (R242): the schedule tick at which it is issued, its class 0 queue and tag, where the tiles of the first
new position of the first row land and how many tile slots a position takes, and the layer, group and first locator of the embedding's tiles. -/
structure EmbedBind where
  issueTick : Nat
  queue : Nat
  tag : Nat
  dst : Nat
  layer : Nat
  group : Nat
  first : Nat
  /-- tiles of 32 token rows: ⌈width ÷ 128⌉ -/
  tiles : Nat
deriving DecidableEq, Repr

/-- Where the masks of a model's grammar rows go (R274): class 0 queue and tag, T0 address of row 0's first slot, and tile slots a row. -/
structure MaskBind where
  queue : Nat
  tag : Nat
  dst : Nat
  slots : Nat
deriving DecidableEq, Repr

/-- One MODEL_BIND entry: shape and stream data of a model slot (Table 4-3, R236, R242, R246, R248, R274). -/
structure ModelBind where
  slot : Nat
  layers : Nat
  kvGroups : Nat
  digest : Nat
  attnChunkBlocks : Nat
  t2StreamRate : Nat
  /-- entries of the engine's TRAVERSE table (Table 9-2) -/
  cams : List CamEntry
  embed : Option EmbedBind
  masks : Option MaskBind
deriving DecidableEq, Repr

/-- One search table entry, Table 9-3: the cluster whose image carries it, its cycle, key source, destination and tag. -/
structure SearchRec where
  cluster : Nat
  cycle : Nat
  key : Nat
  dst : Nat
  tag : Nat
deriving DecidableEq, Repr

/-- The append and search tables that an image carries for one cluster (R223, R323). -/
structure ClusterTables where
  cluster : Nat
  appends : List AppendRec
  searches : List SearchRec
deriving DecidableEq, Repr

/-- One image of the binary: a CLUSTER_IMAGE or a DEGRADED_IMAGE, where its section lies, and the tables of its clusters (R139, Table 4-3). -/
structure ImageRec where
  /-- true: CLUSTER_IMAGE; false: DEGRADED_IMAGE -/
  whole : Bool
  variant : Nat
  index : Nat
  offset : Nat
  length : Nat
  tables : List ClusterTables
deriving DecidableEq, Repr

/-- One section table entry, Table 4-2. -/
structure SectRec where
  type : Nat
  variant : Nat
  index : Nat
  offset : Nat
  length : Nat
  crc : Nat
deriving DecidableEq, Repr

/-- A traverse binary as LOAD reads it from the image's octets: the header, the section table and the sections (R138, R139). -/
structure TrvImage where
  hdr : TrvHeader
  sects : List SectRec
  images : List ImageRec
  moves : List ProgMove
  gathers : List GatherRec
  waits : List WaitPoint
  bucketTable : List BucketRec
  /-- FRAME_TABLE: frame length per core-count variant (key = core count) and, at key 16 + group position, degraded images -/
  frameTable : List (Nat × Nat)
  syncs : List SyncInit
  binds : List ModelBind
deriving DecidableEq, Repr

/-- Slot list row entry, Table 4-8. -/
structure RowEntry where
  sid : Nat
  home : Nat
  bucket : Nat
  work : Nat
  cont : Bool
  span : Nat
  part : Nat
  ctxAtTakeover : Nat
deriving DecidableEq, Repr

/-- Slot list, Tables 4-7 and 4-8. -/
structure SlotList where
  seq : Nat
  takeover : Nat
  issued : Nat
  trvId : Nat
  master : Nat
  rows : List RowEntry
deriving DecidableEq, Repr

/-- A candidate for rows of a slot list that another member ranked (R390): its tag, home position, session number, half, kind of work,
context and new positions. -/
structure RowCand where
  vfinish : Nat
  home : Nat
  sid : Nat
  half : Nat
  work : Nat
  ctx : Nat
  nw : Nat
deriving DecidableEq, Repr

/-- What a row's home device sends of it before a boundary (R157): the session, whether the row was masked, the positions it kept (tokens accepted),
whether a stop ended its turn, and its mask and new positions in the next frame. -/
structure RowOutcome where
  home : Nat
  sid : Nat
  masked : Bool
  kept : Nat
  stopped : Bool
  /-- the session's pages are freed -/
  gone : Bool
  nextMasked : Bool
  nextNew : Nat
deriving DecidableEq, Repr

/-- A hold request (R162-R165). -/
structure HoldRequest where
  position : Nat
  ticks : Nat
  cause : Nat
  queue : Nat
  tag : Nat
deriving DecidableEq, Repr

/-! ### Core operations (chapter 5) -/

/-- Where and when a core operation issues: the global core number, and the schedule cycles that have passed
since the core's previous operation (0: the same bundle). -/
structure Issue where
  core : Nat
  delta : Nat
deriving DecidableEq, Repr

/-- A vector operation's predicate: register and negation (Table 5-3). -/
structure VPred where
  p : Nat
  neg : Bool
deriving DecidableEq, Repr

/-- The type field of the vector slot (Table 5-3, bits [29:28]). -/
inductive VType where
  | fp32
  | bf16
  | int32
  | res
deriving DecidableEq, Repr

/-- Comparison chosen by the modifier of FCMP. -/
inductive FRel where
  | eq
  | ne
  | lt
  | le
  | gt
  | ge
deriving DecidableEq, Repr

/-- What TBL reads (Table 5-4). -/
inductive TblField where
  | ctx
  | new
  | bucket
  | live
deriving DecidableEq, Repr

/-- What STATUS reads (Table 5-4). -/
inductive StatusSel where
  | cycle
  | coreNumber
  | sticky
deriving DecidableEq, Repr

/-- The fault detections of Table 5-8. -/
inductive CoreFault where
  | sramCe
  | sramUe
  | parity
  | bundleCheck
  | residue
  | watchdog
  | scheduleFault
  | bist
deriving DecidableEq, Repr

/-! ### Text objects (chapter 7) -/

/-- Token table entry, Table 7-2, with the token's bytes from the string pool. -/
structure TokenRec where
  bytes : Octets
  special : Bool
  visible : Bool
  fallback : Bool
deriving DecidableEq, Repr

/-- A dictionary as its image gives it (Tables 7-1 to 7-3); `digest` is SHAKE256-256 over the image, as a number. -/
structure DictImage where
  digest : Nat
  vocab : Nat
  byteBase : Nat
  specFirst : Nat
  specCount : Nat
  eos : Nat
  maxLen : Nat
  shards : Nat
  /-- shard of the entries that begin with each byte -/
  shardMap : List Nat
  tokens : List TokenRec
  /-- bytes of each trie shard, as they are copied into a text cluster's store -/
  shardBytes : List Octets
deriving DecidableEq, Repr

/-- State entry of a grammar program, Table 7-6. -/
structure GState where
  edgeFirst : Nat
  edgeCount : Nat
  cmask : Nat
  classed : Bool
deriving DecidableEq, Repr

/-- Class-mask entry, Table 7-6: numbers of masks. -/
structure GClassMask where
  full : Nat
  draft : Nat
  push : Nat
deriving DecidableEq, Repr

/-- Edge entry, Table 7-6. -/
structure GEdge where
  lo : Nat
  hi : Nat
  target : Nat
  action : Nat
  push : Nat
deriving DecidableEq, Repr

/-- A grammar program as its image gives it (Tables 7-5 and 7-6); a mask is its list of u32 words (R271). -/
structure GrammarImage where
  digest : Nat
  dictDigest : Nat
  vocab : Nat
  classes : Nat
  start : Nat
  turnReset : Bool
  maxDepth : Nat
  states : List GState
  cmasks : List GClassMask
  edges : List GEdge
  masks : List (List Nat)
  maskOffset : Nat
deriving DecidableEq, Repr

/-- One stop string of a stop set (R280): kind 1 TOOL_CALL, 2 END_TURN, and its bytes. -/
structure StopString where
  kind : Nat
  bytes : Octets
deriving DecidableEq, Repr

/-! ### Models and search (chapters 6 and 9) -/

/-- One node of a vector index with its vector: Table 9-5. -/
structure VxNode where
  id : Nat
  live : Bool
  tomb : Bool
  tombSeq : Nat
  insEpoch : Nat
  nbrs : List Nat
  vec : List Lane
deriving DecidableEq, Repr

/-! ### Management (chapter 16) -/

/-- Who wrote an object, and how the completion of the write goes back: a station with its message's sequence, an
Opdun association with its request number, index and subindex, the legacy mailbox with its command and sequence, or the
device itself. -/
inductive Writer where
  | station (st seq : Nat)
  | opdun (assoc req index sub : Nat)
  | legacy (cmd seq : Nat)
  | device
deriving DecidableEq, Repr

/-- Opdun header of Table 16-4 with what R522 checks of the datagram that carried it. -/
structure OpdunHdr where
  linkLocal : Bool
  hopLimit : Nat
  /-- the client's IPv6 interface identifier and UDP port -/
  client : Nat
  port : Nat
  more : Bool
  res01 : Nat
  len : Nat
  assoc : Nat
  req : Nat
  index : Nat
  sub : Nat
  frag : Nat
  status : Nat
  res12 : Nat
deriving DecidableEq, Repr

/-- Legacy mailbox block of Table 16-9 (`lm_cmd` is the constructor) with R522's datagram checks and its data. -/
structure MailBlock where
  linkLocal : Bool
  hopLimit : Nat
  seq : Nat
  len : Nat
  arg0 : Nat
  arg1 : Nat
  status : Nat
  resD : Nat
  data : Octets
deriving DecidableEq, Repr

/-- What the checks of R542 find in a firmware image: the header and its body digest read right, the signature over the
header verifies under Pycor's key, and the version and security version the header carries. -/
structure FwImage where
  headerOk : Bool
  digestOk : Bool
  sigOk : Bool
  version : Nat
  svn : Nat
  digest : Nat
deriving DecidableEq, Repr

/-! ### Power (chapter 17) -/

/-- One reading of the sensors (R536): the 64 junction sensors of half 0 then those of half 1, the eight stacks, and the management diodes of the
two dies, in steps of 0.25 °C; the backup cell in 1/65,536 V. -/
structure Sensors where
  junctions : List Int
  stackTemps : List Int
  diode0 : Int
  diode1 : Int
  vbat : Nat
deriving DecidableEq, Repr

/-- Tile power in 1/65,536 W (R561): in this tick, and its mean over the last 25 ticks and over the last second. -/
structure PowerReading where
  now : Nat
  mean25 : Nat
  mean1s : Nat
deriving DecidableEq, Repr

/-- The supplies whose monitors R580 names. -/
inductive Supply where
  | vddCore (half : Nat)
  | vaux
  | hbm
  | ddr5
  | serdes
  | ucie
deriving DecidableEq, Repr

/-! ### Fabric and plat (chapter 14) -/

/-- Device entry of Table 14-10; `links` are the sixteen `d_link` words. -/
structure PlatDevice where
  device : Nat
  state : Nat
  identity : Nat
  links : List Nat
deriving DecidableEq, Repr

/-- Slice entry of Table 14-10. -/
structure PlatSlice where
  slice : Nat
  benchmark : Nat
  size : Nat
  hops : Nat
  syncTicks : Nat
  takeover : Nat
  trv : Nat
deriving DecidableEq, Repr

/-- Assignment entry of Table 14-10. -/
structure PlatAssign where
  slice : Nat
  device : Nat
  position : Nat
  ports : Nat
  channels : Nat
  clusters : Nat
deriving DecidableEq, Repr

/-- Hand-over entry of Table 14-10. -/
structure PlatHandover where
  slice : Nat
  fromDev : Nat
  toDev : Nat
  fromHalf : Nat
  toHalf : Nat
deriving DecidableEq, Repr

/-- Plat image (Tables 14-9 and 14-10); `formOk` stands for the magic, the CRC and the reserved fields. -/
structure PlatImage where
  formOk : Bool
  major : Nat
  required : Nat
  optional : Nat
  epoch : Nat
  domain : Nat
  ballot : Nat
  devices : List PlatDevice
  slices : List PlatSlice
  assigns : List PlatAssign
  handovers : List PlatHandover
deriving DecidableEq, Repr

/-- Header of a routed message (Table 14-2), its type being the command; `ok` stands for its CRC. -/
structure FabHdr where
  ok : Bool
  ttl : Nat
  res : Nat
  len : Nat
  src : Nat
  dst : Nat
  epoch : Nat
  tag : Nat
  slice : Nat
deriving DecidableEq, Repr

/-- LINK_PARAM block, Table 14-5. -/
structure LinkParam where
  majorLo : Nat
  majorHi : Nat
  minor : Nat
  features : Nat
  device : Nat
  port : Nat
  width : Nat
  isMember : Bool
  role : Nat
  domain : Nat
  epoch : Nat
  identity : Nat
deriving DecidableEq, Repr

/-- HEARTBEAT control block (R465). -/
structure FabHeartbeat where
  device : Nat
  epoch : Nat
  coordinator : Nat
  datum : Nat
  ports : Nat
  majority : Bool
deriving DecidableEq, Repr

/-- What a sender's request of a routed message asks, where the receiver's answer names it (R474). -/
structure RouteEntry where
  handle : Nat
  station : Nat
  device : Nat
  sid : Nat
deriving DecidableEq, Repr

/-- An update of a group object that another member issued (R354): operation 0 ADD, 1 SET, 2 CLEAR, 3 ARRIVE. -/
structure GroupSync where
  obj : Nat
  op : Nat
  operand : Nat
deriving DecidableEq, Repr

end Sys2Proof
end

