-- ==== Sys2Proof/Machine/Parts/FieldBook.lean ====
section
/-! DEFINITION. State of the field book, the witness, the channels and stacks, and the error recorder (chapter 12). -/

namespace Sys2Proof.Machine

/-- Record bodies of Table 12-4. -/
inductive RecBody where
  | accept (seq msgType cls : Nat) (final draftReset heldPending : Bool) (policy msgLen toolHead toolTail : Nat)
      (marker : Octets) (msg : Msg)
  | step (frame trv count drafts accepted flags stop grState kvWritten inputThrough : Nat) (toks : List Nat)
  | deliver (chDelivered ringWrite ringRead : Nat)
  | park (tier tiles first last : Nat)
  | revive (method tiers tiles positions trv : Nat)
  | cancel (policy chDelivered : Nat)
  | close (reason cause chDelivered : Nat)
  | config (index sub source writer : Nat) (value : Octets)
deriving DecidableEq, Repr

/-- One field-book record (Table 12-3) and where its copies stand. -/
structure Rec where
  pos : Nat
  copied : Bool
  sid : Nat
  station : Nat
  tick : Nat
  chain : Nat
  body : RecBody
  /-- JOURNAL tile that holds the record's first part, numbered from 1 in order of use -/
  tile : Nat
  /-- 0 in the open write batch, 1 in a closed batch, 2 durable on the tile's own copies (R403) -/
  stage : Nat
deriving DecidableEq, Repr

/-- What proceeds when a record becomes durable (R10, R402, R403). -/
inductive DurEffect where
  /-- return acceptance of the message with this station and sequence -/
  | acceptance (st seq : Nat)
  /-- post the ring entries of the session's step, then append its DELIVER record -/
  | ringEntries (sid chFrom chTo : Nat)
  /-- start the session's revival (R129) -/
  | startRevive (sid : Nat)
  /-- free the pages of a session under an IMMEDIATE cancel (R76, R78) -/
  | freeCancelled (sid : Nat)
deriving DecidableEq, Repr

/-- An effect that waits for a position to be durable. -/
structure DurWait where
  pos : Nat
  effect : DurEffect
deriving DecidableEq, Repr

/-- One half's field book (R395-R397). -/
structure Book where
  /-- ascending position -/
  recs : List Rec
  /-- next sequence number, kept in the always-on domain -/
  next : Nat
  /-- newest tile's number, its bytes in use, and the tiles in use -/
  headTile : Nat
  fill : Nat
  used : Nat
  waits : List DurWait
  /-- tick of the last batch close -/
  lastClose : Nat
  recoverFrom : Nat
  /-- the mirror of this book is absent (R407) -/
  mirrorAbsent : Bool
  /-- lowest live position last told to the witness (R410) -/
  trimmed : Nat
  /-- `fb_tiles_h0` or `fb_tiles_h1` as the last power-on took it (Table 12-11) -/
  tiles : Nat
deriving DecidableEq, Repr

/-- Witness state besides its objects (R404-R406). -/
structure WitnessSt where
  /-- highest position of each half's book that the witness holds durable -/
  ack0 : Nat
  ack1 : Nat
  /-- position reached by an establishing or catching-up copy, each half -/
  copy0 : Nat
  copy1 : Nat
  copyDone : Bool
  lastProbe : Nat
  /-- outstanding append: tick it was sent, none when none is out -/
  sentAt : Option Nat
  /-- tiles written so far to the circular log of a HOST witness's extent (R405) -/
  hostTiles : Nat
deriving DecidableEq, Repr

/-- Sequence window of one station (R408): the sequences accepted among the 4,096 below the highest, each with its ACCEPT position. -/
structure SeqWindow where
  high : Nat
  set : SMap Nat
deriving DecidableEq, Repr

/-- One DDR5 channel's failure bookkeeping (R421-R423). -/
structure ChannelSt where
  /-- rows whose reads still failed after the retry, with the tick of each -/
  ueRows : List (Nat × Nat)
  retrainsFailed : Nat
  replaced : Bool
  /-- what a rebuild has regenerated, in hundredths of an octet; none when none runs -/
  rebuildPos : Option Nat
deriving DecidableEq, Repr

/-- Error entry, Table 12-10. -/
structure ErrEntry where
  tick : Nat
  source : Nat
  cls : Nat
  coalesced : Bool
  first : Bool
  cause : Nat
  count : Nat
  seq : Nat
  lastTick : Nat
  body : Octets
deriving DecidableEq, Repr

/-- Coalescing slot of one source (R432). -/
structure CoalSlot where
  cls : Nat
  cause : Nat
  start : Nat
  suppressed : Nat
  last : Nat
deriving DecidableEq, Repr

/-- One source's captures, total and coalescing slot (R432). -/
structure ErrSource where
  first : Option ErrEntry
  recent : Option ErrEntry
  total : Nat
  slot : Option CoalSlot
deriving DecidableEq, Repr

/-- The error recorder (R431-R435). -/
structure ErrRecorder where
  sources : SMap ErrSource
  /-- report queues of half 0 and half 1, at most 64 entries, oldest first -/
  queue0 : List ErrEntry
  queue1 : List ErrEntry
  /-- reports half 1 keeps while the Chain is down, at most 256 -/
  kept : List ErrEntry
  /-- the SRAM ring, oldest unread first, at most 4,096 -/
  ring : List ErrEntry
  /-- spill log, oldest tile first, 64 entries each -/
  spill : List ErrEntry
  seq : Nat
deriving DecidableEq, Repr

/-- State of chapter 12 that is no object of the dictionary. -/
structure FieldBookSt where
  book0 : Book
  book1 : Book
  witness : WitnessSt
  windows : SMap SeqWindow
  /-- DDR5 channels by half × 12 + channel -/
  channels : SMap ChannelSt
  /-- halves lost or fenced (R425) -/
  half0Lost : Bool
  half1Lost : Bool
  chainDown : Bool
  err : ErrRecorder
deriving DecidableEq, Repr

end Sys2Proof.Machine
end

