-- ==== Sys2Proof/Machine/Parts/Search.lean ====
section
/-! DEFINITION. State of the associative engine and of the vector indexes (chapter 9). -/

namespace Sys2Proof.Machine

/-- The regions of a half's engine in force, in entries (R314): rules, traverse, prefix handles, session handles. -/
structure CamRegions where
  rule : Nat
  gap : Nat
  trv : Nat
  pfx : Nat
  hnd : Nat
deriving DecidableEq, Repr

/-- A search admitted and waiting (R315): requester 0-255 a cluster, 256 station intake; key; cluster-store destination. -/
structure CamWait where
  requester : Nat
  key : Nat
  dst : Nat
  tag : Nat
deriving DecidableEq, Repr

/-- One half's associative engine. -/
structure CamHalf where
  /-- valid entries by address; the T2 copy of R317 holds the same -/
  entries : SMap CamEntry
  /-- what an entry that is not valid still holds: a removal clears `valid` alone (R319) -/
  stale : SMap CamEntry
  /-- status of the table manager's last insertion or removal (R318, R319) -/
  tableStatus : Nat
  regions : CamRegions
  waiting : List CamWait
  /-- admissions in the current 64 cc window, of traverse searches and of others -/
  winTrv : Nat
  winOther : Nat
  /-- throttle n (R325) and power cap c (R327) -/
  n : Nat
  cap : Nat
  /-- last result delivered (R312) -/
  lastResult : Nat
deriving DecidableEq, Repr

/-- A query waiting in its half, or a SEARCH whose vector is being fetched (R334, R494): its station and sequence, its index, the pin of a
running query, and the bytes that have arrived by offset. -/
structure VxOp where
  st : Nat
  seq : Nat
  index : Nat
  body : SearchBody
  /-- pinned epoch and delete sequence of a running query (R335); none for an insert -/
  pin : Option (Nat × Nat)
  parts : SMap Octets
deriving DecidableEq, Repr

/-- An insert accepted and not yet visible (R340): its slot, whose message it is, and whether it is linked. -/
structure VxInsert where
  slot : Nat
  st : Nat
  seq : Nat
  pos : Nat
  linked : Bool
deriving DecidableEq, Repr

/-- An entry of an identifier map: identifier, state (1 live, 2 tombstone) and slot (R331). -/
structure VxMapEntry where
  id : Nat
  state : Nat
  slot : Nat
deriving DecidableEq, Repr

/-- An index's identifier map (R331): hash seed, buckets of four entries, and the entries that are not empty by place. -/
structure VxMap where
  seed : Nat
  buckets : Nat
  entries : SMap VxMapEntry
deriving DecidableEq, Repr

/-- One vector index besides its objects (R329-R344). -/
structure VxIndex where
  /-- incremented at each CREATE or LOAD of the slot -/
  generation : Nat
  /-- addresses of its VECTOR, NEIGHBOUR and map tiles, in this order (R330, R331) -/
  tiles : List Nat
  /-- the identifier map -/
  map : VxMap
  /-- nodes by slot; a slot not listed is free -/
  nodes : SMap VxNode
  /-- inserts in acceptance order -/
  inserts : List VxInsert
  /-- lists staged for the next epoch, in staging order -/
  edits : List (Nat × List Nat)
  /-- slots to retire at the next advance -/
  retire : List Nat
  /-- the running repair sweep: the delete sequence at its start and its next slot -/
  sweep : Option (Nat × Nat)
  /-- tick at which an advance began to wait for running queries -/
  advancing : Option Nat
  /-- a DROP waits for the running queries -/
  dropping : Bool
deriving DecidableEq, Repr

/-- State of chapter 9 that is no object of the dictionary. -/
structure SearchSt where
  cam0 : CamHalf
  cam1 : CamHalf
  vx : SMap VxIndex
  /-- queries waiting, in acceptance order -/
  queries : List VxOp
  /-- running queries, and inserts whose vectors are being fetched -/
  running : List VxOp
deriving DecidableEq, Repr

end Sys2Proof.Machine
end

