-- ==== Sys2Proof/Machine/Parts/Stations.lean ====
section
/-! DEFINITION. State of the UCIe modules and the stations (chapter 15): attachment, intake and credits, rings, the
ordered write stream and outstanding host reads. -/

namespace Sys2Proof.Machine

/-- One UCIe module (R482-R484, R555). -/
structure UcieModule where
  /-- 0 down, 1 training, 2 up, 3 up and asleep in L1 -/
  state : Nat
  /-- GT/s and lanes reached by training -/
  rate : Nat
  width : Nat
  /-- tick of the last training start or of link down -/
  since : Nat
  /-- tick of the last use by an ATTACHED station -/
  lastUse : Nat
deriving DecidableEq, Repr

/-- Completion entry, Table 15-11. -/
structure Completion where
  seq : Nat
  status : Nat
  msg : Nat
  phase : Nat
  reviveDemoted : Bool
  offset : Nat
  credits : Nat
  result : Nat
  pos : Nat
deriving DecidableEq, Repr

/-- Event entry, Table 15-12. -/
structure EventEntry where
  code : Nat
  phase : Nat
  lost : Bool
  seq : Nat
  handle : Nat
  arg0 : Nat
  arg1 : Nat
deriving DecidableEq, Repr

/-- Ring entry of Table 8-3 with its text, inline or in its slot. -/
structure RingEntry where
  sid : Nat
  entry : Nat
  chainage : Nat
  token : Nat
  flags : Nat
  phase : Nat
  /-- matched stop string, 0xFF none -/
  stopIndex : Nat
  bytes : Octets
  /-- host address of the entry's text slot; 0 while its text is inline -/
  textAddr : Nat
deriving DecidableEq, Repr

/-- One neighbour of a query result (Table 9-8): identifier and its distance. -/
structure QueryHit where
  id : Nat
  dist : Lane
deriving DecidableEq, Repr

/-- What a WRITE transfer carries. -/
inductive WriteBody where
  | completion (c : Completion)
  | event (e : EventEntry)
  | ring (e : RingEntry)
  /-- text slot of a ring entry with TEXT_EXT, written before it (R303) -/
  | ringText (text : Octets)
  | heartbeat (tick time state count : Nat)
  | object (value : Octets)
  /-- a query's result block (Table 9-8) -/
  | query (epoch delSeq visits : Nat) (truncated : Bool) (hits : List QueryHit)
  /-- the 4,352 octets of a JOURNAL tile of the witness extent (R405) -/
  | journal (tile : Octets)
  | flush
deriving DecidableEq, Repr

/-- One write of a station's ordered write stream (R502). -/
structure HostWrite where
  addr : Nat
  body : WriteBody
  /-- issued on the current module and not yet acknowledged -/
  issued : Bool
deriving DecidableEq, Repr

/-- What an outstanding READ_REQ is for. -/
inductive ReadUse where
  | input (seq : Nat) (offset : Nat)
  | cqHeader
  | eqHeader
  | vector (seq : Nat)
deriving DecidableEq, Repr

/-- An outstanding READ_REQ (R487). -/
structure ReadReq where
  addr : Nat
  len : Nat
  tick : Nat
  use : ReadUse
deriving DecidableEq, Repr

/-- Where a message stands in intake. -/
inductive IntakeStage where
  /-- awaiting a ring header that may free a completion entry (R496, R497) -/
  | entry
  /-- in the control stage, not yet decided -/
  | fresh
  /-- awaiting referenced bytes (R494) -/
  | fetching
  /-- through the control stage, awaiting the traffic stage behind an earlier message (R377) -/
  | behind
  /-- deferred by its buckets or by HOLD_INTAKE (R376, R406) -/
  | deferred
  /-- accepted at this position, awaiting durability (R10) -/
  | accepted (pos : Nat)
  /-- in operation: a SEARCH, a relayed message, a GOODBYE or a write that another row completes (R498) -/
  | working
  /-- decided, its completion held back by the order of R498: status, offset, result, position, demotion -/
  | decided (status offset result pos : Nat) (demoted : Bool)
deriving DecidableEq, Repr

/-- One message held in a station's intake buffer (R495). -/
structure Intake where
  msg : Msg
  module : Nat
  credits : Nat
  tick : Nat
  /-- tick at which it was first deferred -/
  deferTick : Nat
  privileged : Bool
  stage : IntakeStage
  /-- result fields of its completion once known -/
  result : Nat
  demoted : Bool
  /-- it has left intake and its credits have returned (R495) -/
  returned : Bool
  /-- its place among the station's acceptances, 0 for no acceptance (R498) -/
  order : Nat
  /-- half that R36 chose as it left its range check (R384) -/
  half : Nat
deriving DecidableEq, Repr

/-- A ring kept for a station: base, size, kept consumer index and next entry (R497). -/
structure HostRing where
  base : Nat
  log2 : Nat
  cons : Nat
  write : Nat
deriving DecidableEq, Repr

/-- One station. -/
structure Station where
  /-- Table 15-4: 0 DETACHED, 1 ATTACHED, 2 LOST, 3 MISMATCH -/
  state : Nat
  module : Nat
  helloStatus : Nat
  major : Nat
  minor : Nat
  features : Nat
  hbTicks : Nat
  hbAddr : Nat
  hbCount : Nat
  hbLast : Nat
  /-- tick of the last arrival, and whole intervals missed since -/
  lastArrival : Nat
  missed : Nat
  cq : HostRing
  eq : HostRing
  /-- free intake credits of 64 bytes, and the credits of the whole buffer -/
  credits : Nat
  creditsMax : Nat
  /-- messages in intake, in order of arrival -/
  intake : List Intake
  /-- completion entries taken by messages in intake (R496) -/
  cqTaken : Nat
  eventSeq : Nat
  /-- events kept while the ring has no room, at most 64, oldest first (R501) -/
  kept : List EventEntry
  lostFlag : Bool
  /-- the ordered write stream, oldest first (R502) -/
  out : List HostWrite
  /-- CTRL_DATA answers sent, newest first: tag and bytes -/
  ctrlOut : List (Nat × Octets)
  reads : SMap ReadReq
  nextTag : Nat
  /-- `stn_field_book` and `stn_cancel_policy` as sampled at the last frame boundary (R27) -/
  fbMode : Nat
  cancelPolicy : Nat
  /-- acceptances so far (R498) -/
  accepts : Nat
  /-- a GOODBYE waits for earlier messages (R499): its sequence -/
  leaving : Option Nat
deriving DecidableEq, Repr

/-- State of chapter 15 that is no object of the dictionary. -/
structure StationsSt where
  modules : SMap UcieModule
  st : SMap Station
  /-- intake in service (start-up step 8, R572), and HELLOs held until then -/
  inService : Bool
  heldHellos : List (Nat × Msg)
deriving DecidableEq, Repr

end Sys2Proof.Machine
end

