-- ==== Sys2Proof/Machine/Parts/Sessions.lean ====
section
/-! DEFINITION. Sessions and prefixes (chapter 2), with the page table (chapter 6), the text state (chapter 7) and the
generation state (chapter 8) that each descriptor holds. -/

namespace Sys2Proof.Machine

/-- States of Table 2-5, with `free` for a free descriptor. -/
inductive SState where
  | free
  | opened
  | queued
  | active
  | waiting
  | parkedWarm
  | parkedCold
  | reviving
  | cancelling
  | grammarDead
  | closed
  | failed
deriving DecidableEq, Repr

/-- Leaf entry of Table 6-2. Tile addresses are u64 (Table 3-6). -/
structure PtEntry where
  primary : Nat
  t2Copy : Nat
deriving DecidableEq, Repr

/-- Page table: the root of Table 6-1 and the leaf entries that are not at their reset value, by
((block × 256 + layer) × 32 + group) × 2 + kv. -/
structure PageTable where
  model : Nat
  groups : Nat
  layers : Nat
  blocks : Nat
  sharedBlocks : Nat
  prefixSid : Nat
  kvWritten : Nat
  /-- addresses of the page-table tiles: 0 the root, 1 its extension, 2 + 2 × lg + h the directory of half h of the blocks of layer group lg, and
  1,024 × (lg + 1) + j the leaf of its blocks 4j to 4j + 3 (R212-R216) -/
  tiles : SMap Nat
  entries : SMap PtEntry
deriving DecidableEq, Repr

/-- One accepted input record that waits to be tokenized: class, final mark, its bytes, the RESUME or APPEND that brought it,
and its truncation settings (R53, R267). -/
structure InputRec where
  cls : Nat
  final : Bool
  draftReset : Bool
  /-- the turn during which it was accepted still runs -/
  pending : Bool
  /-- it was held as pending input (R53) -/
  held : Bool
  pos : Nat
  bytes : Octets
  toolHead : Nat
  toolTail : Nat
  marker : Octets
deriving DecidableEq, Repr

/-- Binding of a synchronisation object, Table 10-7 and the `sync_` fields of Table 2-3. -/
structure Binding where
  obj : Nat
  flags : Nat
  saved : Nat
  /-- name the OPEN bound, and the operand of its kind -/
  name : Nat
  /-- tick from which a gate has been unmet -/
  since : Option Nat
deriving DecidableEq, Repr

/-- The session descriptor of Table 2-3 and what Detrum keeps beside it for the session: its tokens, its input queue
and its issued rows. Fields named as the table names them. -/
structure Session where
  handle : Nat
  index : Nat
  generation : Nat
  station : Nat
  half : Nat
  tenant : Nat
  state : SState
  priorState : SState
  ringHold : Bool
  suppressing : Bool
  reviveDemoted : Bool
  cancelAtBoundary : Bool
  closePending : Bool
  inputFinal : Bool
  /-- a turn is due: final input has been taken that no ended turn has answered (R53, R54) -/
  turnDue : Bool
  waitOpen : Bool
  isPrefix : Bool
  prefixReleased : Bool
  pendingInput : Bool
  fbMode : Nat
  cancelPolicy : Nat
  revivePolicy : Nat
  parkClass : Nat
  model : Nat
  draftModel : Nat
  draftOn : Bool
  maxPositions : Nat
  prefixSid : Nat
  prefixPositions : Nat
  waitTag : Nat
  tilesT1 : Nat
  tilesT2 : Nat
  tilesT3 : Nat
  tilesT4 : Nat
  tilesTotal : Nat
  refs : Nat
  chAccepted : Nat
  chProduced : Nat
  chDelivered : Nat
  journalPos : Nat
  ringBase : Nat
  ringWrite : Nat
  ringRead : Nat
  ringLog2 : Nat
  waitDeadline : Nat
  lastActive : Nat
  vfinish : Nat
  slotFrame : Nat
  row : Nat
  bucket : Nat
  rows : Nat
  cntInvalidUtf8 : Nat
  cntReviveLate : Nat
  cntCopyFirst : Nat
  cntTruncated : Nat
  bindings : List Binding
  temperature : Lane
  topK : Nat
  topP : Lane
  draftLen : Nat
  draftLenOpen : Nat
  rejConsec : Nat
  rejWindow : Nat
  draftStopped : Bool
  genSeed : Nat
  /-- full-rejection history of the last 256 steps, newest first -/
  rejBitmap : List Bool
  maxNew : Nat
  newCount : Nat
  grammarId : Nat
  grFlags : Nat
  grState : Nat
  /-- pushdown stack, top first; the inline ten are its first ten, the rest are spilled at `grSpill` -/
  grStack : List Nat
  grSpill : Nat
  /-- lookahead bytes, incomplete UTF-8 bytes and the class of the held bytes -/
  tkLook : Octets
  tkUtf8 : Octets
  tkFlags : Nat
  /-- stop set of the session, 1 more than its number, 0 none; and the T2 address at which it stood compiled at the OPEN (R280) -/
  stopSet : Nat
  stopAddr : Nat
  stopState : Nat
  includeStop : Bool
  /-- held-back bytes -/
  hold : Octets
  /-- tokens by chainage: input and generated -/
  tokens : SMap Nat
  /-- chainages that generated tokens took, with the ring flags each carries -/
  generated : SMap Nat
  inputs : List InputRec
  /-- RAW tiles of the input queue in order, and the chainage of their first entry (R267) -/
  queue : List Nat
  queueFrom : Nat
  pt : PageTable
  /-- tick at which the session entered its state, and at which it became PARKED_WARM -/
  stateSince : Nat
  warmSince : Nat
  /-- parking under way: target tier, 7 for eviction -/
  parking : Option Nat
  /-- blocks that a rebuild or resurvey must recompute: first and last -/
  rebuild : Option (Nat × Nat)
  rebuildMethod : Nat
  /-- next position to recompute, where it lies beyond the start of those blocks -/
  rebuildPos : Nat
  recomputed : Nat
  reviveTiers : Nat
  /-- frames for which issued slot lists name the session -/
  named : List Nat
  /-- frame in which it reached CLOSED -/
  closedFrame : Nat
  failCause : Nat
  /-- a cancel's pages wait for the CANCEL record at this position -/
  cancelPos : Option Nat
  /-- input tokens the turn discarded at `max_positions` (R584), and the STEP record due for a turn that got no row -/
  discarded : Nat
  maxPosDue : Bool
  /-- RING_NAME that takes effect at the next boundary: base, log2, consumer index -/
  ringRename : Option (Nat × Nat × Nat)
  /-- lists issued in frames before this one name rows that RING_HOLD masks (R305) -/
  ringMask : Nat
  /-- adoption or restore set RING_HOLD (R426, R449) -/
  adoptedHold : Bool
  /-- entries of kept tokens that wait for their STEP record to be durable, in chainage order; entry numbers and phases are given when
  they are posted (R402) -/
  outbox : List RingEntry
  /-- the last entries posted, at most a ring's worth: what its STEP records give again (R306, R413, R504) -/
  posted : List RingEntry
  /-- steps whose DELIVER record waits for their entries to be posted, oldest first: the chainage after each and `ring_write` after its entries (R306) -/
  deliverDue : List (Nat × Nat)
  /-- the tokens of this turn are regenerated by an ACCEPT_ONLY replay (R307) -/
  regen : Bool
  /-- no token of the turn is kept yet (TURN_FIRST) -/
  turnFirst : Bool
  /-- positions whose prefill applies a DRAFT_RESET and those whose prefill reports a truncation, and whether one waits for the next input position
  (R269, R299) -/
  resetAt : List Nat
  resetNext : Bool
  truncAt : List Nat
  truncNext : Bool
  hashMember : Bool
  /-- its reference to the prefix has been given back (R66) -/
  refGone : Bool
  /-- a CANCEL accepted in the tick in which the next frame begins: it belongs to that frame (R77) -/
  cancelLater : Bool
  /-- the prefix that it shares had not been prefilled at OPEN: its shared blocks and tail block are due (R62, R65) -/
  prefixDue : Bool
  /-- the prefix's tail block was lost when its copy was due: the copy is made once the block stands again (R65) -/
  tailDue : Bool
  /-- tag and deadline of its last tool call's wait, for a replay that goes back to it (R69, R72) -/
  lastWait : Option (Nat × Nat)
  /-- grammar state and stack before the first token of the turn that kept one last, and its generated tokens are drawn again from its last input
  on (R88) -/
  turnGr : Nat
  turnStack : List Nat
  rewound : Bool
  /-- session number that its tiles in a hand-over's lease still bear as their owner (R37, R473) -/
  movedFrom : Nat
  /-- a prefix's handle as PREFIX_REGISTER returned it, which it keeps where it takes another session number (R37, R60) -/
  pfxHandle : Nat
deriving DecidableEq, Repr

/-- Bucket of the handle hash table: four entries (handle, sid, station, slot_state), Table 2-2. -/
structure HashEntry where
  handle : Nat
  sid : Nat
  station : Nat
  slotState : Nat
deriving DecidableEq, Repr

/-- A half's hash table (R42, R43): the buckets that hold an entry that is not empty, and its counts. -/
structure HashTable where
  seed : Nat
  buckets : SMap (List HashEntry)
  live : Nat
  tombs : Nat
deriving DecidableEq, Repr

/-- State of chapter 2 that is no object of the dictionary. -/
structure SessionsSt where
  /-- descriptors that are not free, by session index -/
  tab : SMap Session
  /-- page tables of sessions of other members that have rows in the group, each as a descriptor of its own (R228) -/
  far : SMap Session
  /-- generation that each index takes next; absent: 0 -/
  gens : SMap Nat
  hash0 : HashTable
  hash1 : HashTable
  /-- HANDLE_CAM_FULL, HANDLE_STALE, DESC_CRC and MODEL_ABSENT counters of half 0 and half 1 -/
  handleCamFull : List Nat
  handleStale : List Nat
  descCrc : List Nat
  modelAbsent : List Nat
deriving DecidableEq, Repr

end Sys2Proof.Machine
end

