-- ==== Sys2Proof/Machine/Parts/Sync.lean ====
section
/-! DEFINITION. State of the synchronisation objects (chapter 10). -/

namespace Sys2Proof.Machine

/-- Types of R348. -/
inductive SyncType where
  | free
  | counter
  | event
  | closure
deriving DecidableEq, Repr

/-- Object state, Table 10-1; `o_waiters` is computed from the waits and the gates. -/
structure SyncObj where
  type : SyncType
  group : Bool
  persist : Bool
  owner : Nat
  value : Nat
  parties : Nat
  cntEven : Nat
  cntOdd : Nat
deriving DecidableEq, Repr

/-- What an update does to an object (Table 10-3). -/
inductive SyncOp where
  | add
  | set
  | clear
  | arrive
deriving DecidableEq, Repr

/-- A group update on its way: it takes effect on every member at its tick (R354). -/
structure GroupUpdate where
  tick : Nat
  obj : Nat
  op : SyncOp
  operand : Nat
deriving DecidableEq, Repr

/-- A WAIT that is not satisfied yet: core, object, condition (0 count, 1 event, 2 round), operand, S register of the outcome, and the
tick at which it times out. -/
structure SyncWait where
  core : Nat
  obj : Nat
  cond : Nat
  operand : Nat
  reg : Nat
  deadline : Nat
deriving DecidableEq, Repr

/-- What stood in an object before the core operations of one schedule cycle took effect on it, and those operations (R353, R355). -/
structure SyncPast where
  cycle : Nat
  before : SyncObj
  ops : List (SyncOp × Nat)
deriving DecidableEq, Repr

/-- State of chapter 10 that is no object of the dictionary. -/
structure SyncSt where
  /-- objects that are not FREE -/
  objs : SMap SyncObj
  /-- sync mirror, as of the last frame start or write-through (R369, R370) -/
  mirror : SMap SyncObj
  /-- names: station × 1,024 + name to object -/
  names : SMap Nat
  updates : List GroupUpdate
  /-- this frame's core operations by object, latest cycle first -/
  past : SMap (List SyncPast)
  waits : List SyncWait
deriving DecidableEq, Repr

end Sys2Proof.Machine
end

