-- ==== Sys2Proof/Machine/Parts/Tiers.lean ====
section
/-! DEFINITION. Tiles, move queues and snapshots (chapter 3), and model slots (chapter 6). -/

namespace Sys2Proof.Machine

/-- A tile with its sidecar (Table 3-2).  `crc` is not stored: it is computed over the bytes and right by construction;
a read that fails its check comes as `TileRead` of the command.  Payload and scale bytes not listed are 0. -/
structure Tile where
  fmtMajor : Nat
  fmtMinor : Nat
  fmtRequired : Nat
  fmtOptional : Nat
  kind : Nat
  elem : Nat
  sharedRo : Bool
  snapPending : Bool
  owner : Nat
  layer : Nat
  group : Nat
  kv : Nat
  locator : Nat
  valid : Nat
  cowEpoch : Nat
  writer : Nat
  scales : ByteStore
  payload : ByteStore
deriving DecidableEq, Repr

/-- What a tile that a gather asked for is (R233, R242, R274): a key/value tile of a row, by the session's index, its leaf key and the row; or a weight tile or
a mask tile. -/
inductive Gathered where
  | kv (index key row : Nat)
  | weight
deriving DecidableEq, Repr

/-- A move descriptor in its queue: its tiles, how many have started, have ended and have landed, and its worst status; `lastTick` is the tick at
which the last tile landed.  `keys` are the leaf entries
that a block operation still has to carry, in its order (R117). -/
structure QDesc where
  desc : MoveDesc
  total : Nat
  keys : List Nat
  started : Nat
  landed : Nat
  done : Nat
  status : Nat
  lastTick : Nat
  startTick : Nat
  /-- the gather that the descriptor belongs to -/
  gather : Option Gathered
deriving DecidableEq, Repr

/-- Move completion record, Table 3-9. -/
structure MoveDone where
  tag : Nat
  status : Nat
  queue : Nat
  tilesDone : Nat
  tick : Nat
deriving DecidableEq, Repr

/-- A copy that a snapshot has taken (R134, R442): the address it was taken from, the tile as it stood there, and the slot of T1 or T2 that holds it as
a SNAPSHOT tile (NONE where no slot was free). -/
structure Staged where
  source : Nat
  slot : Nat
  tile : Tile
deriving DecidableEq, Repr

/-- One half's move engines (R111-R119). -/
structure MoveEngines where
  /-- queues 0-63, each oldest first, at most 256 -/
  queues : SMap (List QDesc)
  /-- completion log, oldest unread first -/
  log : List MoveDone
  /-- stripe-update intent list (R106): the stripes of which a partial update has written its data and not yet its parity, each with what the parity
  slot holds meanwhile -/
  intents : SMap Octets
  /-- snapshot running: epoch; none when none runs -/
  snapshot : Option Nat
  epoch : Nat
  /-- the staging pool, overflow copies among it, in the order of the copies (R442) -/
  snapTiles : List Staged
  /-- tiles freed while pending, by address, as they stood when they were freed (R135) -/
  freed : SMap Tile
  /-- descriptor, journal, vector and neighbour tiles and the sync mirror that the running snapshot has still to copy, with their addresses, as the
  boundary that began it left them (R132, R133) -/
  sysPending : List (Nat × Tile)
  /-- shadows of blocks in order of their revival tick: (sid, block) -/
  shadows : List (Nat × Nat)
  /-- descriptors whose producers found their queue full and wait, oldest first (R114) -/
  waiting : List (Nat × MoveDesc × Option Gathered)
deriving DecidableEq, Repr

/-- Model slot contents besides its objects: tiles of the load under way or loaded, by tile address, newest first, and the home tier that the
load took (R27, R244). -/
structure ModelSlot where
  tiles : List Nat
  loadWriter : Option Writer
  home : Nat
deriving DecidableEq, Repr

/-- State of chapters 3 and 6 that is no object of the dictionary. -/
structure TiersSt where
  /-- tiles by u64 tile address; an address not listed is a free slot -/
  tiles : SMap Tile
  eng0 : MoveEngines
  eng1 : MoveEngines
  models : SMap ModelSlot
  /-- frame in which T1_EXHAUSTED was last counted, each half -/
  exhausted : List Nat
deriving DecidableEq, Repr

end Sys2Proof.Machine
end

