-- ==== Sys2Proof/Machine/Parts/Checkpoint.lean ====
section
/-! DEFINITION. State of checkpoints and restore (chapter 13), and what a checkpoint holds. -/

namespace Sys2Proof.Machine

/-- Catalogue entry, Table 13-1, less `cc_crc`, which its octets carry. -/
structure CatEntry where
  id : Nat
  frame : Nat
  /-- 0 EMPTY, 1 WRITING, 2 COMPLETE, 3 ABORTED -/
  state : Nat
  producer : Nat
  position : Nat
  tiles : Nat
  first : Nat
  member : Nat
  group : Nat
  tai : Nat
  seq : Nat
deriving DecidableEq, Repr

/-- A vector index in a shard: its slot, its shape and state objects by subindex, and its contents. -/
structure CkIndex where
  index : Nat
  objs : List (Nat × Nat)
  body : VxIndex
deriving DecidableEq, Repr

/-- One shard (Tables 13-2, 13-3): its header, with `sh_crc` as it stands there, and its contents. -/
structure CkShard where
  magic : Nat
  major : Nat
  minor : Nat
  id : Nat
  frame : Nat
  trv : Nat
  position : Nat
  half : Nat
  epoch : Nat
  crc : Nat
  sessions : List Session
  tiles : List (Nat × Tile)
  vx : List CkIndex
  recs : List Rec
  sync : SMap SyncObj
deriving DecidableEq, Repr

/-- Shard entry of a member manifest (Table 13-5). -/
structure ManShard where
  half : Nat
  tiles : Nat
  sessions : Nat
  first : Nat
  digest : Octets
deriving DecidableEq, Repr

/-- Member entry of a group manifest (Table 13-5). -/
structure ManMember where
  position : Nat
  manifest : Nat
  signer : Octets
  digest : Octets
deriving DecidableEq, Repr

/-- A manifest (Tables 13-4, 13-5), member or group: its fixed part with `m_crc` as it stands there, its entries, its key and its signature. -/
structure Manifest where
  magic : Nat
  major : Nat
  minor : Nat
  required : Nat
  optional : Nat
  kind : Nat
  producer : Nat
  groupSize : Nat
  position : Nat
  id : Nat
  frame : Nat
  tick : Nat
  tai : Nat
  trv : Nat
  platEpoch : Nat
  signer : Octets
  v0 : Nat
  v1 : Nat
  sessions : Nat
  keyOffset : Nat
  sigOffset : Nat
  crc : Nat
  shards : List ManShard
  members : List ManMember
  /-- kind (1 model, 2 dictionary, 3 grammar), slot, digest -/
  binds : List (Nat × Nat × Octets)
  key : Octets
  sig : Octets
deriving DecidableEq, Repr

/-- One member: its manifest and its shards. -/
structure CkMember where
  manifest : Manifest
  shards : List CkShard
deriving DecidableEq, Repr

/-- A checkpoint set: the group manifest and its members. -/
structure CkSet where
  group : Manifest
  members : List CkMember
deriving DecidableEq, Repr

/-- A checkpoint that is requested or running: who asked (none: an Opdun client), the set as it fills, and how far it is. -/
structure CkRun where
  requester : Option Nat
  id : Nat
  frame : Nat
  started : Bool
  set : CkSet
  /-- shards written: half 0, half 1 -/
  done0 : Bool
  done1 : Bool
deriving DecidableEq, Repr

/-- State of chapter 13 that is no object of the dictionary. -/
structure CheckpointSt where
  /-- the two copies of the catalogue (R438) -/
  catA : List CatEntry
  catB : List CatEntry
  run : Option CkRun
  /-- checkpoints that this tile has written to its store -/
  stored : List CkSet
  /-- a restore asks the witness to be established again at the next boundary (R449) -/
  witnessAgain : Bool
deriving DecidableEq, Repr

end Sys2Proof.Machine
end

