-- ==== Sys2Proof/Machine/Parts/Fabric.lean ====
section
/-! DEFINITION. State of the fabric, the plat and the leases (chapter 14). -/

namespace Sys2Proof.Machine

/-- A T2 lease (R477): held as lessee or as lessor, with its peer, kind (0 PARK, 1 HANDOVER, 2 WITNESS, 3 STORE) and tiles. -/
structure Lease where
  lessee : Bool
  peer : Nat
  kind : Nat
  tiles : Nat
  /-- recalled at this tick; the lessee must move its tiles out -/
  recalled : Option Nat
  /-- the peer is LOST and the lease is kept (R478) -/
  kept : Bool
deriving DecidableEq, Repr

/-- One fabric port besides its objects (R460-R465). -/
structure FabPort where
  /-- lanes the port runs or trains, as `fab_quad_mode` stood at its training -/
  lanes : List Nat
  /-- step of Table 14-4 under way; 0 none -/
  step : Nat
  /-- tick at which the step began or the port went DOWN -/
  since : Nat
  /-- LINK_PARAM exchanges tried -/
  attempts : Nat
  params : Option LinkParam
  /-- ECHO round trips in cc -/
  echoes : List Nat
  /-- agreed minor and features -/
  minor : Nat
  features : Nat
  /-- status of the last training, FAB_DOMAIN or VERSION_MISMATCH (R461, R462) -/
  status : Nat
  lastHb : Nat
  missed : Nat
  lastSent : Nat
  peerHb : Option FabHeartbeat
  /-- next `cw_seq` to send, and codewords sent and not acknowledged, at most 512 (R463) -/
  txNext : Nat
  txKept : List Nat
  /-- next in-order `cw_seq`, and whether later codewords are discarded until a replay -/
  rxNext : Nat
  discarding : Bool
  /-- control blocks sent, newest first: code of Table 14-1 and its sequence -/
  sent : List (Nat × Nat)
  /-- the last HEARTBEAT block sent (R465) -/
  sentHb : Option FabHeartbeat
deriving DecidableEq, Repr

/-- Bodies of routed messages (Table 14-3). -/
inductive FabBody where
  | sessionMsg (st : Nat) (m : Msg)
  | sessionReply (st : Nat) (c : Completion)
  | ringWrite (st addr : Nat) (e : RingEntry)
  | eventRelay (st : Nat) (e : EventEntry)
  | leaseRequest (kind tiles : Nat)
  | leaseGrant (lease kind tiles : Nat)
  | leaseRecall (lease : Nat)
  | leaseRelease (lease : Nat)
  | t4Read (lease off count : Nat)
  | t4Data (lease off : Nat) (tiles : List Tile)
  | t4Write (lease off : Nat) (tiles : List Tile)
  | t4Done (lease status : Nat)
  | witnessAppend (recs : List Rec)
  | witnessDurable (pos : Nat)
  | witnessTrim (pos : Nat)
  | platPropose (ballot : Nat) (img : PlatImage)
  | platAccept (epoch ballot : Nat) (prior : Option PlatImage)
  | platCommit (img : PlatImage)
  | platJoin (device majorLo majorHi minor features identity : Nat)
  | platFetch (epoch : Nat)
  | platImage (img : PlatImage)
  | peerReport (devices : List Nat)
  | handover (x : Session) (recs : List Rec)
  | drain (sessions : Nat)
  | handoverAck
  | moved (device epoch : Nat)
  | refused (status : Nat)
deriving DecidableEq, Repr

/-- A routed message sent: destination, port (16: no route), epoch, tag, slice and body; one that is forwarded keeps its header. -/
structure FabOut where
  dst : Nat
  port : Nat
  fwd : Option FabHdr
  epoch : Nat
  tag : Nat
  slice : Nat
  body : FabBody
deriving DecidableEq, Repr

/-- A routed request held for a later epoch or for a hand-over's end (R474). -/
structure HeldReq where
  hdr : FabHdr
  arrival : Nat
  body : FabBody
deriving DecidableEq, Repr

/-- A proposal that this device coordinates (R469, R470). -/
structure PlatVote where
  img : PlatImage
  ballot : Nat
  started : Nat
  /-- devices that accepted -/
  accepted : List Nat
  writer : Option Writer
deriving DecidableEq, Repr

/-- A hand-over as the old owner (R473). -/
structure HandoverOut where
  slice : Nat
  toDev : Nat
  fromHalf : Nat
  /-- session numbers that move -/
  sids : List Nat
  lease : Nat
  /-- the lease and the HANDOVER messages have gone, and the new owner has acknowledged -/
  gone : Bool
  acked : Bool
  /-- tick at which DRAIN was sent -/
  drainTick : Option Nat
  /-- page-table tiles of the sessions that have gone, which the lease still lends -/
  ptTiles : List Nat
deriving DecidableEq, Repr

/-- A hand-over as the new owner (R473, R476). -/
structure HandoverIn where
  slice : Nat
  fromDev : Nat
  toHalf : Nat
  /-- tick of the takeover boundary -/
  started : Nat
  lease : Nat
  /-- session numbers received, those that they bore before, and the highest position that their records took -/
  got : List Nat
  olds : SMap Nat
  pos : Nat
  /-- sharing sessions received and the number that their prefix bore before (R63) -/
  shares : List (Nat × Nat)
  /-- sessions the DRAIN counts -/
  drained : Option Nat
  acked : Bool
deriving DecidableEq, Repr

/-- State of chapter 14 that is no object of the dictionary. -/
structure FabricSt where
  ports : SMap FabPort
  /-- codewords that failed on each lane in the current heartbeat interval (R464) -/
  laneFails : SMap Nat
  /-- leases by peer × 65,536 + lease number -/
  leases : SMap Lease
  nextLease : Nat
  /-- the committed plat -/
  plat : Option PlatImage
  /-- the plat before it, in effect for slices whose takeover has not come (R471) -/
  prev : Option PlatImage
  /-- tick at which STANDALONE was written to `composition`, while the device waits to leave (R472) -/
  leaving : Option Nat
  vote : Option PlatVote
  round : Nat
  /-- proposal for the next epoch accepted by this member, with its ballot -/
  accepted : Option (Nat × PlatImage)
  /-- devices whose JOIN waits for the next epoch, and reports of unreachable devices with their tick -/
  joins : List (Nat × Nat)
  /-- versions that joined devices advertised: lowest and highest plat major, and features (R23, R472) -/
  vers : SMap (Nat × Nat × Nat)
  reports : List (Nat × Nat)
  /-- devices of which stations have heard PEER_ABSENT and no PEER_PRESENT since (R466) -/
  absent : List Nat
  outs : List HandoverOut
  ins : List HandoverIn
  held : List HeldReq
  /-- routed messages sent, newest first -/
  sent : List FabOut
  route : List RouteEntry
  /-- host tiles of stations whose sessions run here (R475) -/
  remote : SMap Nat
  /-- tiles held in leases that this device lends, by (peer × 65,536 + lease) × 2^32 + offset -/
  leaseTiles : SMap Tile
  /-- records this device holds as a witness, by witnessed device (R479) -/
  witnessed : SMap (List Rec)
  /-- tags and statuses of the T4 transfers that have been answered, newest first -/
  t4In : List (Nat × Nat)
deriving DecidableEq, Repr

end Sys2Proof.Machine
end

