-- ==== Sys2Proof/Syntax.lean ====
section
/-! DEFINITION. The commands of the block: one constructor for each row of spec/opcode_table.json.  Their operand types are in
`Values.lean` and in the parts of the state that a command carries whole. -/

namespace Sys2Proof

open Sys2Proof.Machine

/-- The commands. -/
inductive Instr where
  /-- DATUM_TICK (R4) -/
  | datumTick
  /-- FRAME_BOUNDARY (R150) -/
  | frameBoundary (descs : List (Nat × Octets)) (cons : List (Nat × Nat)) (outs : List RowOutcome)
  /-- PARK_TIMER (R123) -/
  | parkTimer (sid : Nat)
  /-- WAIT_EXPIRED (R71) -/
  | waitExpired (sid : Nat)
  /-- GATE_EXPIRY (R366) -/
  | gateExpiry (sid : Nat) (k : Nat)
  /-- MSG_TRANSFER (R495) -/
  | msgTransfer (t : Transfer) (m : Msg)
  /-- CTRL_READ (R487) -/
  | ctrlRead (t : Transfer)
  /-- READ_DATA (R487) -/
  | readData (t : Transfer) (data : Octets)
  /-- HOST_READ_TIMEOUT (R487) -/
  | hostReadTimeout (st : Nat) (tag : Nat)
  /-- REFERENCED_BYTES_ARRIVED (R494) -/
  | referencedBytesArrived (st : Nat) (seq : Nat)
  /-- UCIE_HEARTBEAT (R508) -/
  | ucieHeartbeat (t : Transfer)
  /-- HEARTBEAT_BLOCK_WRITE (R508) -/
  | heartbeatBlockWrite (st : Nat)
  /-- STATION_HEARTBEAT_LOSS (R508) -/
  | stationHeartbeatLoss (st : Nat)
  /-- UCIE_LINK_DOWN (R484) -/
  | ucieLinkDown (m : Nat)
  /-- UCIE_TRAINING_DONE (R482) -/
  | ucieTrainingDone (m : Nat) (rate : Nat) (width : Nat)
  /-- UCIE_TRAIN_RETRY (R483) -/
  | ucieTrainRetry (m : Nat)
  /-- UCIE_TRAIN_FAIL (R483) -/
  | ucieTrainFail (m : Nat)
  /-- WRITE_POSTED (R502) -/
  | writePosted (st : Nat)
  /-- HELLO (R490) -/
  | hello (t : Transfer) (h : MsgHdr) (b : HelloBody)
  /-- GOODBYE (R499) -/
  | goodbye (t : Transfer) (h : MsgHdr)
  /-- RING_NAME (R504) -/
  | ringName (t : Transfer) (h : MsgHdr) (b : RingNameBody)
  /-- OBJ_READ (R505) -/
  | objRead (t : Transfer) (h : MsgHdr) (b : ObjBody)
  /-- OBJ_WRITE (R505) -/
  | objWrite (t : Transfer) (h : MsgHdr) (b : ObjBody)
  /-- OPEN (R36) -/
  | openSession (t : Transfer) (h : MsgHdr) (b : OpenBody)
  /-- CLOSE (R51) -/
  | close (t : Transfer) (h : MsgHdr)
  /-- APPEND (R53) -/
  | append (t : Transfer) (h : MsgHdr) (b : InputBody)
  /-- RESUME (R70) -/
  | resume (t : Transfer) (h : MsgHdr) (b : InputBody)
  /-- CANCEL (R76) -/
  | cancel (t : Transfer) (h : MsgHdr)
  /-- PARK (R74) -/
  | park (t : Transfer) (h : MsgHdr)
  /-- REVIVE (R74) -/
  | revive (t : Transfer) (h : MsgHdr)
  /-- PREFIX_REGISTER (R60) -/
  | prefixRegister (t : Transfer) (h : MsgHdr) (b : InputBody)
  /-- PREFIX_RELEASE (R66) -/
  | prefixRelease (t : Transfer) (h : MsgHdr)
  /-- CHECKPOINT (R440) -/
  | checkpoint (t : Transfer) (h : MsgHdr) (b : CheckpointBody)
  /-- QUERY (R333) -/
  | query (t : Transfer) (h : MsgHdr) (b : SearchBody)
  /-- INSERT (R340) -/
  | insert (t : Transfer) (h : MsgHdr) (b : SearchBody)
  /-- DELETE (R342) -/
  | delete (t : Transfer) (h : MsgHdr) (b : SearchBody)
  /-- DEFERRED_MESSAGE_PASS (R376) -/
  | deferredMessagePass (st : Nat) (seq : Nat)
  /-- DEFER_EXPIRY (R376) -/
  | deferExpiry (st : Nat) (seq : Nat)
  /-- ACCEPT_DURABLE (R10) -/
  | acceptDurable (half : Nat) (pos : Nat)
  /-- JOURNAL_BATCH_CLOSE (R403) -/
  | journalBatchClose (half : Nat)
  /-- RECORD_DURABLE (R403) -/
  | recordDurable (half : Nat) (flushed : Nat)
  /-- BUCKET_TICK (R379) -/
  | bucketTick
  /-- TOKENIZE_RECORD (R265) -/
  | tokenizeRecord (sid : Nat)
  /-- TEXT_WORK_START (R257) -/
  | textWorkStart (half : Nat)
  /-- REVIVE_READY (R85) -/
  | reviveReady (sid : Nat)
  /-- PRESSURE_PARK (R125) -/
  | pressurePark (half : Nat)
  /-- SHADOW_RECLAIM (R109) -/
  | shadowReclaim (half : Nat)
  /-- HASH_TABLE_REBUILD (R43) -/
  | hashTableRebuild (half : Nat)
  /-- MOVE_ENGINE_GRANT (R113) -/
  | moveEngineGrant (half : Nat) (idle : Nat)
  /-- COPY (R116) -/
  | copy (half : Nat) (queue : Nat) (d : MoveDesc) (reads : List TileRead)
  /-- MOVE (R116) -/
  | move (half : Nat) (queue : Nat) (d : MoveDesc) (reads : List TileRead)
  /-- FILL (R116) -/
  | fill (half : Nat) (queue : Nat) (d : MoveDesc) (reads : List TileRead)
  /-- VERIFY (R116) -/
  | verify (half : Nat) (queue : Nat) (d : MoveDesc) (reads : List TileRead)
  /-- PARK_BLOCKS (R117) -/
  | parkBlocks (half : Nat) (queue : Nat) (d : MoveDesc) (reads : List TileRead)
  /-- REVIVE_BLOCKS (R117) -/
  | reviveBlocks (half : Nat) (queue : Nat) (d : MoveDesc) (reads : List TileRead)
  /-- DESCRIPTOR_WITHDRAW (R119) -/
  | descriptorWithdraw (half : Nat) (queue : Nat) (tag : Nat)
  /-- TILE_LANDED (R117) -/
  | tileLanded (half : Nat) (queue : Nat) (r : TileRead)
  /-- MOVE_COMPLETION (R119) -/
  | moveCompletion (half : Nat) (queue : Nat)
  /-- T3_T4_TIMEOUT (R122) -/
  | t3T4Timeout (half : Nat) (queue : Nat)
  /-- PARTIAL_UPDATE (R105) -/
  | partialUpdate (half : Nat) (row : Nat) (d : Nat) (payload : Octets) (parity : Bool)
  /-- SNAPSHOT_COPY (R133) -/
  | snapshotCopy (half : Nat)
  /-- COPY_FIRST (R134) -/
  | copyFirst (a : Nat) (payload : Octets)
  /-- MOVE_COMPLETION_LOG_READ (R137) -/
  | moveCompletionLogRead (w : Writer) (half : Nat)
  /-- STN_T3_EXTENT_WRITE (R120) -/
  | stnT3ExtentWrite (w : Writer) (st : Nat) (e : Nat) (v : Octets)
  /-- TRV_LOAD (R141) -/
  | trvLoad (w : Writer) (tt : Nat)
  /-- TRV_LOAD_DONE (R141) -/
  | trvLoadDone (tt : Nat) (img : Option Octets)
  /-- ACTIVATE (R144) -/
  | activate (w : Writer) (tt : Nat) (agreed : Bool)
  /-- UNLOAD (R143) -/
  | unload (w : Writer) (tt : Nat)
  /-- SLOT_LIST_ISSUE (R155) -/
  | slotListIssue (takeover : Nat) (others : List RowCand)
  /-- SLOT_LIST_RECEIVE (R156) -/
  | slotListReceive (l : Octets)
  /-- SLOT_LIST_DECISION (R156) -/
  | slotListDecision (takeover : Nat) (others : Bool) (v : Option (Nat × Nat))
  /-- HOLD_WINDOW_END (R162) -/
  | holdWindowEnd (ests : List (Nat × Nat × Nat)) (copies : Nat) (wake : Nat) (replay : Nat)
  /-- HOLD_REQUEST (R164) -/
  | holdRequest (windowEnd : Nat) (others : List HoldRequest)
  /-- HOLD_START (R164) -/
  | holdStart
  /-- HOLD_END (R164) -/
  | holdEnd
  /-- HOLD_LOG_READ (R172) -/
  | holdLogRead (w : Writer)
  /-- FAULT_NOTICE (R168) -/
  | faultNotice (position : Nat) (tick : Nat) (len : Nat)
  /-- DATUM_LOCK (R148) -/
  | datumLock (counter : Nat) (beyond : Nat)
  /-- DATUM_LOCKED (R149) -/
  | datumLocked (err : Int)
  /-- DATUM_LOCK_FAIL (R149) -/
  | datumLockFail
  /-- DATUM_HOLDOVER (R149) -/
  | datumHoldover (signalLost : Bool) (err : Int)
  /-- HOLDOVER_TIMEOUT (R149) -/
  | holdoverTimeout
  /-- BENCHMARK_TAKEOVER (R149) -/
  | benchmarkTakeover (lost : List Nat)
  /-- MOVE_PROGRAM_ISSUE (R139) -/
  | moveProgramIssue (n : Nat) (reads : List TileRead)
  /-- GATHER_RECORD (R233) -/
  | gatherRecord (n : Nat) (reads : List TileRead)
  /-- APPEND_ENTRY (R224) -/
  | appendEntry (cluster : Nat) (n : Nat)
  /-- TRAVERSE_SEARCH (R323) -/
  | traverseSearch (n : Nat)
  /-- SCRUB (R204) -/
  | scrub (found : List (Nat × Bool × Bool))
  /-- CORE_FAULT_DETECT (R205) -/
  | coreFaultDetect (core : Nat) (inCluster : Bool) (f : CoreFault)
  /-- ADD (R183) -/
  | add (a : Issue) (sd : Nat) (sa : Nat) (sb : Nat)
  /-- SUB (R183) -/
  | sub (a : Issue) (sd : Nat) (sa : Nat) (sb : Nat)
  /-- AND (R183) -/
  | and (a : Issue) (sd : Nat) (sa : Nat) (sb : Nat)
  /-- OR (R183) -/
  | or (a : Issue) (sd : Nat) (sa : Nat) (sb : Nat)
  /-- XOR (R183) -/
  | xor (a : Issue) (sd : Nat) (sa : Nat) (sb : Nat)
  /-- SHL (R183) -/
  | shl (a : Issue) (sd : Nat) (sa : Nat) (sb : Nat)
  /-- SHR (R183) -/
  | shr (a : Issue) (sd : Nat) (sa : Nat) (sb : Nat)
  /-- SAR (R183) -/
  | sar (a : Issue) (sd : Nat) (sa : Nat) (sb : Nat)
  /-- LI (R183) -/
  | li (a : Issue) (sd : Nat) (imm : BitVec 23)
  /-- MOV (R183) -/
  | mov (a : Issue) (sd : Nat) (sa : Nat)
  /-- MUL (R183) -/
  | mul (a : Issue) (sd : Nat) (sa : Nat) (sb : Nat)
  /-- MULH (R183) -/
  | mulh (a : Issue) (sd : Nat) (sa : Nat) (sb : Nat)
  /-- EQ (R183) -/
  | eq (a : Issue) (pd : Nat) (sa : Nat) (sb : Nat)
  /-- NE (R183) -/
  | ne (a : Issue) (pd : Nat) (sa : Nat) (sb : Nat)
  /-- LT (R183) -/
  | lt (a : Issue) (pd : Nat) (sa : Nat) (sb : Nat)
  /-- LTU (R183) -/
  | ltu (a : Issue) (pd : Nat) (sa : Nat) (sb : Nat)
  /-- GE (R183) -/
  | ge (a : Issue) (pd : Nat) (sa : Nat) (sb : Nat)
  /-- GEU (R183) -/
  | geu (a : Issue) (pd : Nat) (sa : Nat) (sb : Nat)
  /-- PRED_AND (R183) -/
  | predAnd (a : Issue) (pd : Nat) (pa : Nat) (pb : Nat)
  /-- PRED_OR (R183) -/
  | predOr (a : Issue) (pd : Nat) (pa : Nat) (pb : Nat)
  /-- PRED_NOT (R183) -/
  | predNot (a : Issue) (pd : Nat) (pa : Nat)
  /-- LOOP (R187) -/
  | loop (a : Issue) (count : Nat)
  /-- ENDLOOP (R187) -/
  | endloop (a : Issue)
  /-- TBL (R183) -/
  | tbl (a : Issue) (sd : Nat) (sa : Nat) (fld : TblField)
  /-- STATUS (R183) -/
  | status (a : Issue) (sd : Nat) (sel : StatusSel)
  /-- FADD (R192) -/
  | fadd (a : Issue) (t : VType) (vd : Nat) (va : Nat) (vb : Nat) (vp : VPred)
  /-- FSUB (R192) -/
  | fsub (a : Issue) (t : VType) (vd : Nat) (va : Nat) (vb : Nat) (vp : VPred)
  /-- FMUL (R193) -/
  | fmul (a : Issue) (t : VType) (vd : Nat) (va : Nat) (vb : Nat) (vp : VPred)
  /-- FMA (R192) -/
  | fma (a : Issue) (t : VType) (vd : Nat) (va : Nat) (vb : Nat) (vc : Nat) (vp : VPred)
  /-- FMS (R192) -/
  | fms (a : Issue) (t : VType) (vd : Nat) (va : Nat) (vb : Nat) (vc : Nat) (vp : VPred)
  /-- FMIN (R193) -/
  | fmin (a : Issue) (t : VType) (vd : Nat) (va : Nat) (vb : Nat) (vp : VPred)
  /-- FMAX (R193) -/
  | fmax (a : Issue) (t : VType) (vd : Nat) (va : Nat) (vb : Nat) (vp : VPred)
  /-- FABS (R183) -/
  | fabs (a : Issue) (t : VType) (vd : Nat) (va : Nat) (vp : VPred)
  /-- FNEG (R183) -/
  | fneg (a : Issue) (t : VType) (vd : Nat) (va : Nat) (vp : VPred)
  /-- FCMP (R183) -/
  | fcmp (a : Issue) (t : VType) (r : FRel) (pd : Nat) (va : Nat) (vb : Nat) (vp : VPred)
  /-- VINT_ADD (R183) -/
  | vintAdd (a : Issue) (vd : Nat) (va : Nat) (vb : Nat) (vp : VPred)
  /-- VINT_SUB (R183) -/
  | vintSub (a : Issue) (vd : Nat) (va : Nat) (vb : Nat) (vp : VPred)
  /-- VINT_AND (R183) -/
  | vintAnd (a : Issue) (vd : Nat) (va : Nat) (vb : Nat) (vp : VPred)
  /-- VINT_OR (R183) -/
  | vintOr (a : Issue) (vd : Nat) (va : Nat) (vb : Nat) (vp : VPred)
  /-- VINT_XOR (R183) -/
  | vintXor (a : Issue) (vd : Nat) (va : Nat) (vb : Nat) (vp : VPred)
  /-- VINT_SHL (R183) -/
  | vintShl (a : Issue) (vd : Nat) (va : Nat) (vb : Nat) (vp : VPred)
  /-- VINT_SHR (R183) -/
  | vintShr (a : Issue) (vd : Nat) (va : Nat) (vb : Nat) (vp : VPred)
  /-- VINT_SAR (R183) -/
  | vintSar (a : Issue) (vd : Nat) (va : Nat) (vb : Nat) (vp : VPred)
  /-- ROTL (R183) -/
  | rotl (a : Issue) (vd : Nat) (va : Nat) (vb : Nat) (vp : VPred)
  /-- MULLO (R183) -/
  | mullo (a : Issue) (vd : Nat) (va : Nat) (vb : Nat) (vp : VPred)
  /-- MULHI (R183) -/
  | mulhi (a : Issue) (vd : Nat) (va : Nat) (vb : Nat) (vp : VPred)
  /-- CVT_FP32_BF16 (R194) -/
  | cvtFp32Bf16 (a : Issue) (vd : Nat) (va : Nat) (vp : VPred)
  /-- CVT_BF16_FP32 (R194) -/
  | cvtBf16Fp32 (a : Issue) (vd : Nat) (va : Nat) (vp : VPred)
  /-- CVT_FP32_INT32 (R194) -/
  | cvtFp32Int32 (a : Issue) (vd : Nat) (va : Nat) (vp : VPred)
  /-- CVT_INT32_FP32 (R194) -/
  | cvtInt32Fp32 (a : Issue) (vd : Nat) (va : Nat) (vp : VPred)
  /-- MXPACK (R195) -/
  | mxpack (a : Issue) (fmt : Nat) (vd : Nat) (va : Nat) (vp : VPred)
  /-- MXUNPACK (R195) -/
  | mxunpack (a : Issue) (fmt : Nat) (vd : Nat) (va : Nat) (vp : VPred)
  /-- EXP2 (R198) -/
  | exp2 (a : Issue) (vd : Nat) (va : Nat) (vp : VPred)
  /-- RCP (R198) -/
  | rcp (a : Issue) (vd : Nat) (va : Nat) (vp : VPred)
  /-- RSQ (R198) -/
  | rsq (a : Issue) (vd : Nat) (va : Nat) (vp : VPred)
  /-- RSUM (R196) -/
  | rsum (a : Issue) (vd : Nat) (va : Nat) (vp : VPred)
  /-- RMAX (R196) -/
  | rmax (a : Issue) (vd : Nat) (va : Nat) (vp : VPred)
  /-- RMIN (R196) -/
  | rmin (a : Issue) (vd : Nat) (va : Nat) (vp : VPred)
  /-- LANE_SHUFFLE (R183) -/
  | laneShuffle (a : Issue) (vd : Nat) (va : Nat) (vb : Nat) (vp : VPred)
  /-- LANE_BROADCAST (R183) -/
  | laneBroadcast (a : Issue) (vd : Nat) (va : Nat) (lane : Nat) (vp : VPred)
  /-- VMSEL (R203) -/
  | vmsel (a : Issue) (vd : Nat) (va : Nat) (sb : Nat) (vp : VPred)
  /-- VMPOP (R203) -/
  | vmpop (a : Issue) (sd : Nat) (sa : Nat) (sb : Nat)
  /-- MMA (R189) -/
  | mma (a : Issue) (fmt : Nat) (acc : Nat) (zero : Bool) (abuf : Nat) (bbuf : Nat) (rp : Nat)
  /-- MRD (R190) -/
  | mrd (a : Issue) (vd : Nat) (acc : Nat) (p : Nat)
  /-- MZERO (R183) -/
  | mzero (a : Issue) (acc : Nat)
  /-- LD (R178) -/
  | ld (a : Issue) (vd : Nat) (base : Nat) (off : BitVec 32)
  /-- ST (R178) -/
  | st (a : Issue) (vs : Nat) (base : Nat) (off : BitVec 32)
  /-- LDS (R178) -/
  | lds (a : Issue) (sd : Nat) (base : Nat) (off : BitVec 32)
  /-- STS (R178) -/
  | sts (a : Issue) (ss : Nat) (base : Nat) (off : BitVec 32)
  /-- CLD (R179) -/
  | cld (a : Issue) (sdst : Nat) (base : Nat) (off : BitVec 32)
  /-- CST (R179) -/
  | cst (a : Issue) (ssrc : Nat) (base : Nat) (off : BitVec 32)
  /-- MLD_A (R188) -/
  | mldA (a : Issue) (fmt : Nat) (b : Nat) (base : Nat) (off : BitVec 32)
  /-- MLD_B (R188) -/
  | mldB (a : Issue) (fmt : Nat) (b : Nat) (base : Nat) (off : BitVec 32)
  /-- MLD_VT (R190) -/
  | mldVt (a : Issue) (e5m2 : Bool) (b : Nat) (base : Nat) (off : BitVec 32) (phi : Bool) (dblk : Nat)
  /-- PUT (R184) -/
  | put (a : Issue) (sdst : Nat) (base : Nat) (off : BitVec 32)
  /-- TWALK (R202) -/
  | twalk (a : Issue) (sd : Nat) (snode : Nat) (sbyte : Nat)
  /-- SYNC_ADD (R351) -/
  | syncAdd (a : Issue) (obj : Nat) (rs : Nat)
  /-- SET (R351) -/
  | syncSet (a : Issue) (obj : Nat)
  /-- CLEAR (R351) -/
  | syncClear (a : Issue) (obj : Nat)
  /-- WAIT_COUNT (R351) -/
  | waitCount (a : Issue) (obj : Nat) (rs : Nat)
  /-- WAIT_EVENT (R351) -/
  | waitEvent (a : Issue) (obj : Nat) (rs : Nat)
  /-- WAIT_ROUND (R358) -/
  | waitRound (a : Issue) (obj : Nat) (rs : Nat)
  /-- ARRIVE (R356) -/
  | arrive (a : Issue) (obj : Nat) (rs : Nat)
  /-- SYNC_WAIT_TIMEOUT (R360) -/
  | syncWaitTimeout (core : Nat)
  /-- GROUP_SYNC_UPDATE (R354) -/
  | groupSyncUpdate (others : List GroupSync)
  /-- STN_SYNC_DEFINE (R363) -/
  | stnSyncDefine (w : Writer) (st : Nat) (name : Nat) (type : Nat) (half : Nat) (operand : Nat)
  /-- STN_SYNC_DELETE (R368) -/
  | stnSyncDelete (w : Writer) (st : Nat) (name : Nat)
  /-- STN_SYNC_ADD (R363) -/
  | stnSyncAdd (w : Writer) (st : Nat) (name : Nat) (amount : Nat)
  /-- STN_SYNC_SET (R363) -/
  | stnSyncSet (w : Writer) (st : Nat) (name : Nat)
  /-- STN_SYNC_CLEAR (R363) -/
  | stnSyncClear (w : Writer) (st : Nat) (name : Nat)
  /-- STN_SYNC_ARRIVE (R363) -/
  | stnSyncArrive (w : Writer) (st : Nat) (name : Nat) (round : Nat)
  /-- MDL_LOAD (R247) -/
  | mdlLoad (w : Writer) (mm : Nat) (vocab : Nat)
  /-- MDL_LOAD_DONE (R247) -/
  | mdlLoadDone (mm : Nat) (img : Option Octets)
  /-- MDL_UNLOAD (R248) -/
  | mdlUnload (w : Writer) (mm : Nat)
  /-- DICT_LOAD (R255) -/
  | dictLoad (w : Writer) (dd : Nat) (img : Option Octets)
  /-- DICT_UNLOAD (R255) -/
  | dictUnload (w : Writer) (dd : Nat)
  /-- GP_LOAD (R272) -/
  | gpLoad (w : Writer) (gg : Nat) (img : Option Octets)
  /-- GP_UNLOAD (R272) -/
  | gpUnload (w : Writer) (gg : Nat)
  /-- STOP_SET_WRITE (R280) -/
  | stopSetWrite (w : Writer) (st : Nat) (k : Nat) (v : Octets)
  /-- CAM_SEARCH (R312) -/
  | camSearch (half : Nat) (key : Nat) (parity : Bool)
  /-- CAM_INSERT (R319) -/
  | camInsert (half : Nat) (table : Nat) (key : Nat) (result : Nat)
  /-- CAM_REMOVE (R319) -/
  | camRemove (half : Nat) (table : Nat) (key : Nat)
  /-- ORDERED_INSERT (R320) -/
  | orderedInsert (half : Nat) (e : CamEntry)
  /-- SEARCH_WINDOW (R325) -/
  | searchWindow (half : Nat)
  /-- THROTTLE_UPDATE (R325) -/
  | throttleUpdate (half : Nat) (quarters : Int)
  /-- CREATE (R329) -/
  | create (w : Writer) (ii : Nat)
  /-- VX_LOAD (R344) -/
  | vxLoad (w : Writer) (ii : Nat) (img : Option Octets)
  /-- DROP (R344) -/
  | drop (w : Writer) (ii : Nat)
  /-- VX_QUERY_START (R336) -/
  | vxQueryStart (half : Nat)
  /-- INSERT_LINK (R340) -/
  | insertLink (ii : Nat)
  /-- EPOCH_ADVANCE (R341) -/
  | epochAdvance (ii : Nat)
  /-- REPAIR_SWEEP (R343) -/
  | repairSweep (ii : Nat) (count : Nat)
  /-- AR_INSERT (R386) -/
  | arInsert (w : Writer) (v : Octets)
  /-- AR_REMOVE (R386) -/
  | arRemove (w : Writer) (id : Nat)
  /-- GL_COMMIT (R392) -/
  | glCommit (w : Writer) (half : Nat)
  /-- GATE_LIST_ENTRY (R391) -/
  | gateListEntry (half : Nat)
  /-- BUCKET_WRITE (R381) -/
  | bucketWrite (w : Writer) (st : Option Nat) (res : Nat) (burst : Bool) (v : Nat)
  /-- COMPACTION (R410) -/
  | compaction (half : Nat)
  /-- WITNESS_LAPSE (R406) -/
  | witnessLapse (absent : Bool)
  /-- WITNESS_PROBE (R406) -/
  | witnessProbe (answered : Bool)
  /-- WITNESS_COPY_DONE (R406) -/
  | witnessCopyDone
  /-- CHANNEL_FAILED (R421) -/
  | channelFailed (c : Nat) (why : Nat) (row : Nat)
  /-- DECLARE_FAILED (R421) -/
  | declareFailed (w : Writer) (c : Nat)
  /-- RETRAIN (R423) -/
  | retrain (w : Writer) (c : Nat)
  /-- REBUILD (R423) -/
  | rebuild (w : Writer) (c : Nat)
  /-- CHANNEL_REBUILD_DONE (R423) -/
  | channelRebuildDone (c : Nat)
  /-- STACK_FAILED (R424) -/
  | stackFailed (k : Nat)
  /-- CHAIN_HEARTBEAT_LOSS (R420) -/
  | chainHeartbeatLoss (cons : List (Nat × Nat))
  /-- HALF_LOST (R425) -/
  | halfLost (h : Nat) (cons : List (Nat × Nat))
  /-- ADOPT (R426) -/
  | adopt (w : Writer) (tiles : Option Octets)
  /-- ERROR_RECORDER_TAKE (R433) -/
  | errorRecorderTake (half : Nat)
  /-- COALESCE_FLUSH (R432) -/
  | coalesceFlush (src : Nat)
  /-- ERR_READ (R434) -/
  | errRead (w : Writer)
  /-- ERR_CLEAR (R432) -/
  | errClear (w : Writer) (src : Nat)
  /-- CK_CHECKPOINT (R440) -/
  | ckCheckpoint (w : Writer)
  /-- ABORT (R447) -/
  | abort (w : Writer)
  /-- SHARD_WRITE (R442) -/
  | shardWrite (half : Nat) (count : Nat)
  /-- MANIFEST_WRITE (R445) -/
  | manifestWrite (others : List ManMember) (group : Option Manifest)
  /-- CHECKPOINT_COMPLETE (R447) -/
  | checkpointComplete
  /-- RESTORE (R448) -/
  | restore (w : Writer) (found : List CkSet)
  /-- CODEWORD_FEC_FAIL (R463) -/
  | codewordFecFail (port : Nat) (lane : Nat) (seq : Nat)
  /-- ACK (R463) -/
  | ack (port : Nat) (seq : Nat)
  /-- NAK (R463) -/
  | nak (port : Nat) (seq : Nat)
  /-- LINK_PARAM (R460) -/
  | linkParam (port : Nat) (lp : LinkParam)
  /-- ECHO (R460) -/
  | echo (port : Nat) (rtt : Nat)
  /-- PORT_TRAINING_TIMEOUT (R460) -/
  | portTrainingTimeout (port : Nat) (step : Nat) (began : Nat)
  /-- PORT_RETRAIN (R460) -/
  | portRetrain (port : Nat)
  /-- PORT_UP (R461) -/
  | portUp (port : Nat) (peerLatency : Nat)
  /-- LOSS_OF_SIGNAL (R464) -/
  | lossOfSignal (lane : Nat)
  /-- LANE_FAILED (R464) -/
  | laneFailed (lane : Nat)
  /-- HEARTBEAT (R465) -/
  | heartbeat (port : Nat) (rx : Option FabHeartbeat)
  /-- PORT_HEARTBEAT_LOSS (R465) -/
  | portHeartbeatLoss (port : Nat)
  /-- SESSION_MSG (R475) -/
  | sessionMsg (h : FabHdr) (st : Nat) (m : Msg)
  /-- SESSION_REPLY (R475) -/
  | sessionReply (h : FabHdr) (st : Nat) (c : Completion)
  /-- RING_WRITE (R475) -/
  | ringWrite (h : FabHdr) (st : Nat) (addr : Nat) (e : RingEntry)
  /-- EVENT_RELAY (R475) -/
  | eventRelay (h : FabHdr) (st : Nat) (e : EventEntry)
  /-- LEASE_REQUEST (R477) -/
  | leaseRequest (h : FabHdr) (kind : Nat) (tiles : Nat)
  /-- LEASE_GRANT (R477) -/
  | leaseGrant (h : FabHdr) (lease : Nat) (kind : Nat) (tiles : Nat)
  /-- LEASE_RECALL (R478) -/
  | leaseRecall (h : FabHdr) (lease : Nat)
  /-- LEASE_RELEASE (R478) -/
  | leaseRelease (h : FabHdr) (lease : Nat)
  /-- T4_READ (R478) -/
  | t4Read (h : FabHdr) (lease : Nat) (off : Nat) (count : Nat)
  /-- T4_DATA (R478) -/
  | t4Data (h : FabHdr) (lease : Nat) (off : Nat) (tiles : List Tile)
  /-- T4_WRITE (R478) -/
  | t4Write (h : FabHdr) (lease : Nat) (off : Nat) (tiles : List Tile)
  /-- T4_DONE (R478) -/
  | t4Done (h : FabHdr) (lease : Nat) (status : Nat)
  /-- WITNESS_APPEND (R479) -/
  | witnessAppend (h : FabHdr) (recs : List Rec)
  /-- WITNESS_DURABLE (R479) -/
  | witnessDurable (h : FabHdr) (pos : Nat)
  /-- WITNESS_TRIM (R479) -/
  | witnessTrim (h : FabHdr) (pos : Nat)
  /-- PROPOSE (R469) -/
  | propose (w : Writer) (img : Option PlatImage)
  /-- PLAT_PROPOSE (R469) -/
  | platPropose (h : FabHdr) (ballot : Nat) (img : PlatImage)
  /-- PLAT_ACCEPT (R470) -/
  | platAccept (h : FabHdr) (epoch : Nat) (ballot : Nat) (prior : Option PlatImage)
  /-- PLAT_COMMIT (R470) -/
  | platCommit (h : FabHdr) (img : PlatImage)
  /-- PLAT_VOTE_TIMEOUT (R470) -/
  | platVoteTimeout
  /-- PLAT_JOIN (R472) -/
  | platJoin (h : FabHdr) (device : Nat) (majorLo : Nat) (majorHi : Nat) (minor : Nat) (features : Nat) (identity : Nat)
  /-- PLAT_FETCH (R470) -/
  | platFetch (h : FabHdr) (epoch : Nat)
  /-- PLAT_IMAGE (R470) -/
  | platImage (h : FabHdr) (img : PlatImage)
  /-- PEER_REPORT (R466) -/
  | peerReport (h : FabHdr) (devices : List Nat)
  /-- HANDOVER (R473) -/
  | handover (h : FabHdr) (x : Session) (recs : List Rec)
  /-- DRAIN (R473) -/
  | drain (h : FabHdr) (sessions : Nat)
  /-- HANDOVER_ACK (R473) -/
  | handoverAck (h : FabHdr)
  /-- MOVED (R474) -/
  | moved (h : FabHdr) (device : Nat) (epoch : Nat)
  /-- PLAT_DRAIN_TIMEOUT (R476) -/
  | platDrainTimeout
  /-- PLAT_EPOCH_STALE (R474) -/
  | platEpochStale
  /-- HANDOVER_PULL (R476) -/
  | handoverPull
  /-- RELEASE (R478) -/
  | release (w : Writer) (lease : Nat)
  /-- COMPOSITION_WRITE (R472) -/
  | compositionWrite (w : Writer) (v : Nat)
  /-- ASSOCIATE (R523) -/
  | associate (f : OpdunHdr) (majLo : Nat) (majHi : Nat) (minor : Nat) (feat : Nat)
  /-- OD_READ (R522) -/
  | odRead (f : OpdunHdr)
  /-- OD_WRITE (R522) -/
  | odWrite (f : OpdunHdr) (v : Octets)
  /-- PRESENT (R529) -/
  | present (f : OpdunHdr) (part : Octets)
  /-- OD_RELEASE (R523) -/
  | odRelease (f : OpdunHdr)
  /-- DISCOVER (R523) -/
  | discover (f : OpdunHdr)
  /-- OPDUN_IDLE_TIMEOUT (R523) -/
  | opdunIdleTimeout (a : Nat)
  /-- OPDUN_FRAGMENT_TIMEOUT (R524) -/
  | opdunFragmentTimeout (a : Nat)
  /-- GET_ID (R534) -/
  | getId (m : MailBlock)
  /-- GET_VERSION (R534) -/
  | getVersion (m : MailBlock)
  /-- GET_TEMP (R534) -/
  | getTemp (m : MailBlock)
  /-- GET_POWER (R534) -/
  | getPower (m : MailBlock)
  /-- READ_LOG (R534) -/
  | readLog (m : MailBlock)
  /-- CLEAR_LOG (R534) -/
  | clearLog (m : MailBlock)
  /-- READ_REG (R535) -/
  | readReg (m : MailBlock)
  /-- WRITE_REG (R535) -/
  | writeReg (m : MailBlock)
  /-- FW_CHUNK (R534) -/
  | fwChunk (m : MailBlock)
  /-- FW_VERIFY (R534) -/
  | fwVerify (m : MailBlock)
  /-- FW_COMMIT (R534) -/
  | fwCommit (m : MailBlock)
  /-- GET_FENCE (R534) -/
  | getFence (m : MailBlock)
  /-- GET_PLAT (R534) -/
  | getPlat (m : MailBlock)
  /-- STN_CAP_STAGE (R529) -/
  | stnCapStage (w : Writer) (ss : Nat) (part : Octets)
  /-- TK_COMMIT (R532) -/
  | tkCommit (w : Writer) (k : Nat)
  /-- TK_CLEAR (R532) -/
  | tkClear (w : Writer) (k : Nat)
  /-- STAGE (R546) -/
  | stage (w : Writer) (img : Option Octets)
  /-- FW_CHUNK_WRITE (R546) -/
  | fwChunkWrite (w : Writer) (v : Octets)
  /-- FW_CMD_VERIFY (R546) -/
  | fwCmdVerify (w : Writer)
  /-- FW_ACTIVATE (R546) -/
  | fwActivate (w : Writer)
  /-- CONFIRM (R546) -/
  | confirm (w : Writer)
  /-- ERASE (R546) -/
  | erase (w : Writer)
  /-- FW_TRIAL_TIMEOUT (R546) -/
  | fwTrialTimeout
  /-- ATT_NONCE_WRITE (R545) -/
  | attNonceWrite (w : Writer) (nonce : Octets)
  /-- ATTEST_READY (R545) -/
  | attestReady
  /-- CAL_SET (R539) -/
  | calSet (w : Writer) (v : Nat)
  /-- CALENDAR_SECOND (R538) -/
  | calendarSecond
  /-- PERSIST_PROGRAMMED (R518) -/
  | persistProgrammed (ok : Bool)
  /-- OBJECT_WRITE (R516) -/
  | objectWrite (w : Writer) (index : Nat) (sub : Nat) (v : Octets)
  /-- FENCE_CORE (R207) -/
  | fenceCore (w : Writer) (core : Nat)
  /-- FENCE_CLUSTER (R207) -/
  | fenceCluster (w : Writer) (core : Nat)
  /-- CLEAR_CLUSTER (R207) -/
  | clearCluster (w : Writer) (core : Nat)
  /-- CLUSTER_SELF_TEST_DONE (R207) -/
  | clusterSelfTestDone (cluster : Nat) (pass : Bool)
  /-- DEEP_SLEEP (R556) -/
  | deepSleep (w : Writer)
  /-- AUTONOMOUS_DEEP_SLEEP (R556) -/
  | autonomousDeepSleep
  /-- DEEP_SLEEP_WAKE (R558) -/
  | deepSleepWake (cause : Nat) (pin : Nat)
  /-- WARM_RESET (R566) -/
  | warmReset (w : Writer)
  /-- RESET_HALF0 (R570) -/
  | resetHalf0 (w : Writer)
  /-- RESET_HALF1 (R570) -/
  | resetHalf1 (w : Writer)
  /-- WAKE_WINDOW (R559) -/
  | wakeWindow (half : Nat)
  /-- CLUSTER_WAKE_DONE (R552) -/
  | clusterWakeDone (n : Nat)
  /-- POWER_GOVERNOR_TICK (R562) -/
  | powerGovernorTick (r : PowerReading)
  /-- THERMAL_CHECK (R563) -/
  | thermalCheck (x : Sensors)
  /-- THERMAL_TRIP (R563) -/
  | thermalTrip
  /-- HW_TRIP (R563) -/
  | hwTrip
  /-- POWER_ON (R566) -/
  | powerOn
  /-- RESET_N (R566) -/
  | resetN
  /-- STRAP_SAMPLE (R574) -/
  | strapSample (levels : Nat)
  /-- STAKE_SLOT (R575) -/
  | stakeSlot
  /-- SUPPLY_FAULT (R580) -/
  | supplyFault (x : Supply) (cons : List (Nat × Nat))
  /-- CORE_VOLTAGE_STEP (R581) -/
  | coreVoltageStep (half : Nat) (up : Bool)
  /-- HOLDOVER_RELOCK (R149) -/
  | holdoverRelock (err : Int)
  /-- MANAGEMENT_WATCHDOG (R566) -/
  | managementWatchdog
  /-- UCIE_MODULE_SLEEP (R555) -/
  | ucieModuleSleep (m : Nat)
  /-- PIN_GLITCH (R573) -/
  | pinGlitch (resetN : Bool)
  /-- CHAIN_RETURN (R431) -/
  | chainReturn
  /-- NEIGHBOUR_DISCOVERY (R521) -/
  | neighbourDiscovery
  /-- CALENDAR_OSCILLATOR_STOPPED (R539) -/
  | calendarOscillatorStopped
  /-- INTAKE_IN_SERVICE (R572) -/
  | intakeInService
deriving DecidableEq, Repr

end Sys2Proof
end

