-- ==== Sys2Proof/Decode.lean ====
section
/-! DEFINITION. The command that a word spells. spec/opcode_table.json gives no row of this block any bits: its commands arrive as host
transfers, object writes, datagrams, link blocks and events, whose fields are the constructors' operands. -/

namespace Sys2Proof

/-- The command spelled by a word of the table's bits: none, since no row gives bits. -/
def decodeTableWord (_nbits _w : Nat) : Option Instr := none

end Sys2Proof
end

