-- ==== Sys2Proof/Config.lean ====
section
/-! DEFINITION. What an implementation of Detrum fixes and the spec leaves open.  The `opaque` constants are free values:
nothing can be proved of what they answer, so a claim holds whatever they are.  Each is named in the assumption log. -/

namespace Sys2Proof.Config

/-- A free choice where the spec lets Detrum pick (free index, free slot, entropy draw): applied to the plain counter
`State.free`, which every use advances (log entry 5). -/
opaque pick : Nat → Nat

/-- SHAKE256 of a string of octets, truncated to the given number of octets (R520, R541, R544); the function is FIPS 202's and is
not computed by the model (log entry 6). -/
opaque shake256 : Octets → Nat → Octets

/-- ML-DSA-65 verification of a signature under a key and a context (R531): key, context, message, signature (log entry 6). -/
opaque mldsaVerify : Octets → String → Octets → Octets → Bool

/-- ML-DSA-65 signature by the identity key under a context (R531, R545): context, message, counter (log entry 6). -/
opaque mldsaSign : String → Octets → Nat → Octets

/-- The part's own identity public key, certificate and helper-data digest (R520, R541; log entry 6). -/
opaque idPublicKey : Octets
opaque idCertificate : Octets
opaque helperDigest : Octets

/-- The logits a traverse leaves at one position: a function of the traverse identity, the model slot and the tokens of the context
before the position (R151, R208), for each token of the vocabulary (log entry 12). -/
opaque logit : Nat → Nat → List Nat → Nat → Lane

/-- Results the spec does not state: a scalar shift by 64 or more, and the high half of a product whose signs it does not give
(log entry 13). -/
opaque shiftBeyond : Nat → SWord → SWord → SWord
opaque mulhSigned : Bool

/-- A lane result the spec does not state: operation code and operands (log entry 13). -/
opaque laneOpen : Nat → Lane → Lane → Lane → Lane

/-- A comparison of the spec's FCMP with a NaN operand, and the minimum of no lanes (log entry 13). -/
opaque nanCompare : Nat → Lane → Lane → Bool
opaque emptyMin : Lane

/-- What TBL reads for a row outside the traverse's rows, and the word in which STATUS gives the sticky flags (log entry 13). -/
opaque tblOutside : Nat → Nat → SWord
opaque stickyWord : Bool → Bool → Bool → SWord

/-- What `witness_status` holds after a mode change with an unusable extent: the spec says REFUSED and gives no status code of that name
(R405, R511; log entry 17). -/
opaque witnessRefused : Nat

/-- Header of the firmware image that the part was shipped with in slot A: the spec leaves its values open (R520; log entry 18). -/
opaque fwVersion : Nat
opaque fwSvn : Nat
opaque fwDigest : Nat

/-- What the staged bytes of a firmware slot hold: header, its signature, body, the digest and the version and security version that the header carries; none
where they hold no header. The spec does not lay the header out (R542; log entry 176). -/
opaque fwParse : List Host.Cell → Option (Octets × Octets × Octets × Octets × Nat × Nat)

/-- Pycor's firmware key, whose fingerprint the boot ROM holds (Table 16-8; log entry 18). -/
opaque fwKey : Octets

/-- Frequencies in kHz of the clock domains whose frequency the spec does not state, by clock number (R551; log entry 19). -/
opaque clockKhz : Nat → Nat

/-- The parity field `par` of an associative entry with this value, care, result and order: the spec gives its width, not its code (Table 9-1;
log entry 20). -/
opaque camParity : Nat → Nat → Nat → Nat → Nat

/-- Octets of a compiled stop set (R280): the spec gives the automaton no layout (log entry 149). -/
opaque stopImage : Octets → Octets

/-- Number that a compiled stop set gives the state of its automaton with these bytes held, where it holds any (R281; log entry 149). -/
opaque stopNode : List StopString → Octets → Nat

/-- Sections of a traverse binary whose octets the spec does not lay out (Table 4-3; log entry 156): the fixed descriptors of MOVE_PROGRAM, each with its
issue tick, its queue and its 64 octets, and the octets of the gather records that follow them; the wait points; the buckets; the frame lengths; the
MODEL_BIND entries. -/
opaque moveSection : Octets → List (Nat × Nat × Octets) × Octets
opaque waitSection : Octets → List WaitPoint
opaque bucketSection : Octets → List BucketRec
opaque frameSection : Octets → List (Nat × Nat)
opaque bindSection : Octets → List ModelBind

/-- What a CLUSTER_IMAGE or DEGRADED_IMAGE holds for the cluster at a position of its group: the bundles of its 8 cores, and the octets of its append
table and search table.  The spec gives their order and not where each ends (R223, R323; log entry 156). -/
opaque clusterSection : Octets → Nat → List Octets × Octets × Octets

/-- Epoch, delete sequence and entry node of a vector index whose tiles LOAD has copied (R344): the tiles hold none of them and the spec gives no value, so
that they are free (log entry 172). -/
opaque vxLoaded : Octets → Nat × Nat × Nat

/-- Tile address at which a half keeps a tile of the system region, by kind and number: the spec gives none (R102, R444; log entry 175). -/
opaque systemTile : Nat → Nat → Nat → Nat

/-- Slots of one HBM channel: 384 GB over 256 channels in slots of 4,352 bytes (Table 3-1, R92, R98; log entry 7). -/
def t1SlotsPerChannel : Nat := 344669

/-- Rows of one DDR5 channel: 512 GB modules in rows of 4,352 bytes (R101, Table 3-1; log entry 7). -/
def t2RowsPerChannel : Nat := 117647058

/-- Session indices of one half (R33). -/
def indicesPerHalf : Nat := 8388608

/-- Entries of one half's associative engine (R310). -/
def camEntriesPerHalf : Nat := 524288

end Sys2Proof.Config
end

