-- ==== Sys2Proof/Machine/Numerics.lean ====
section
/-! DEFINITION. The numerics of chapter 5, bit for bit: exact dyadic values, one rounding into each format (R191-R195), the reduction
tree (R196), and EXP2, RCP and RSQ (R198). -/

namespace Sys2Proof.Machine

/-! ### Exact values -/

/-- The value m × 2^e. -/
structure Dy where
  m : Int
  e : Int
deriving DecidableEq, Repr

/-- Exact sum. -/
def Dy.add (x y : Dy) : Dy :=
  if x.e ≤ y.e then ⟨x.m + y.m * 2 ^ (y.e - x.e).toNat, x.e⟩ else ⟨x.m * 2 ^ (x.e - y.e).toNat + y.m, y.e⟩

/-- Exact product. -/
def Dy.mul (x y : Dy) : Dy := ⟨x.m * y.m, x.e + y.e⟩

/-- Exact negation. -/
def Dy.neg (x : Dy) : Dy := ⟨-x.m, x.e⟩

/-- Exact scaling by a power of two. -/
def Dy.scale (x : Dy) (k : Int) : Dy := ⟨x.m, x.e + k⟩

/-- x < y. -/
def Dy.lt (x y : Dy) : Bool := decide ((x.add y.neg).m < 0)

/-- Largest integer at or below the value. -/
def Dy.floor (x : Dy) : Int := if 0 ≤ x.e then x.m * 2 ^ x.e.toNat else x.m / 2 ^ (-x.e).toNat

/-- Quotient of naturals, ties to even. -/
def divEven (a b : Nat) : Nat :=
  let q := a / b
  let r := a % b
  if b < 2 * r || (2 * r == b && q % 2 == 1) then q + 1 else q

/-- Number of bits of a natural. -/
def bitLen (n : Nat) : Nat := if n = 0 then 0 else Nat.log2 n + 1

/-- Magnitude code of |x| rounded once, ties to even, into a format of `p` significand bits whose smallest subnormal is 2^qmin.
Codes run on through subnormals and normals; the caller compares the code with the format's largest. -/
def roundMag (p : Nat) (qmin : Int) (x : Dy) : Nat :=
  let a := x.m.natAbs
  if a = 0 then 0
  else
    let top : Int := x.e + bitLen a - 1
    let q : Int := max qmin (top - (p - 1 : Nat))
    let n := if q ≤ x.e then a * 2 ^ (x.e - q).toNat else divEven a (2 ^ (q - x.e).toNat)
    (q - qmin).toNat * 2 ^ (p - 1) + n

/-! ### FP32 and BF16 lanes -/

/-- What a floating-point encoding holds. -/
inductive FVal where
  | nan
  | inf (neg : Bool)
  /-- a finite value; the sign tells the zeros apart -/
  | fin (neg : Bool) (x : Dy)
deriving DecidableEq, Repr

/-- Sticky flags an operation raises (R192). -/
structure Sticky where
  ovf : Bool
  nan : Bool
  sat : Bool
deriving DecidableEq, Repr

/-- No flag. -/
def Sticky.none : Sticky := ⟨false, false, false⟩

/-- Flags of two operations. -/
def Sticky.or (a b : Sticky) : Sticky := ⟨a.ovf || b.ovf, a.nan || b.nan, a.sat || b.sat⟩

/-- Canonical NaN and infinities of FP32 (Table 5-7). -/
def f32NaN : Lane := 0x7FC00000
def f32Inf (neg : Bool) : Lane := if neg then 0xFF800000 else 0x7F800000

/-- Read an FP32 encoding. -/
def f32 (l : Lane) : FVal :=
  let n := l.toNat
  let s := n / 2 ^ 31 == 1
  let ex : Nat := n / 2 ^ 23 % 256
  let fr : Nat := n % 2 ^ 23
  let sg (m : Nat) : Int := if s then -(m : Int) else m
  if ex == 255 then (if fr == 0 then .inf s else .nan)
  else if ex == 0 then .fin s ⟨sg fr, -149⟩
  else .fin s ⟨sg (2 ^ 23 + fr), (ex : Int) - 150⟩

/-- Read the BF16 value that a lane holds in bits [31:16]. -/
def bf16 (l : Lane) : FVal := f32 (BitVec.ofNat 32 (l.toNat / 65536 * 65536))

/-- Destination formats of a lane operation. -/
inductive FFmt where
  | f32
  | bf16
deriving DecidableEq, Repr

/-- Read a lane in a format. -/
def readLane (t : FFmt) (l : Lane) : FVal :=
  match t with
  | .f32 => f32 l
  | .bf16 => bf16 l

/-- Encode a finite exact value with the sign its zero takes: one rounding, overflow to infinity (R192, R193). -/
def packLane (t : FFmt) (neg : Bool) (x : Dy) : Lane × Sticky :=
  let s := if x.m = 0 then neg else decide (x.m < 0)
  let sb := if s then 2 ^ 31 else 0
  match t with
  | .f32 =>
    let c := roundMag 24 (-149) x
    if 0x7F800000 ≤ c then (f32Inf s, ⟨true, false, false⟩) else (BitVec.ofNat 32 (sb + c), .none)
  | .bf16 =>
    let c := roundMag 8 (-133) x
    if 0x7F80 ≤ c then (f32Inf s, ⟨true, false, false⟩) else (BitVec.ofNat 32 (sb + c * 65536), .none)

/-- Encode any value. Every NaN result sets the NaN flag, one that only passes a NaN operand on as well (log entry 160). -/
def packF (t : FFmt) : FVal → Lane × Sticky
  | .nan => (f32NaN, ⟨false, true, false⟩)
  | .inf s => (f32Inf s, .none)
  | .fin s x => packLane t s x

/-- The exact sum of two values; an exact zero is +0 (R193). -/
def addV : FVal → FVal → FVal
  | .nan, _ => .nan
  | _, .nan => .nan
  | .inf a, .inf b => if a == b then .inf a else .nan
  | .inf a, _ => .inf a
  | _, .inf b => .inf b
  | .fin _ x, .fin _ y => .fin false (x.add y)

/-- Negation of a value; a NaN stays. -/
def negV : FVal → FVal
  | .nan => .nan
  | .inf a => .inf (!a)
  | .fin s x => .fin (!s) x.neg

/-- The exact product; a zero takes the exclusive OR of the signs (R193). -/
def mulV : FVal → FVal → FVal
  | .nan, _ => .nan
  | _, .nan => .nan
  | .inf a, .inf b => .inf (a != b)
  | .inf a, .fin s x => if x.m = 0 then .nan else .inf (a != s)
  | .fin s x, .inf b => if x.m = 0 then .nan else .inf (s != b)
  | .fin s x, .fin r y => .fin (s != r) (x.mul y)

/-- FADD, FSUB, FMUL, FMA and FMS of one lane. -/
def fadd (t : FFmt) (a b : Lane) : Lane × Sticky := packF t (addV (readLane t a) (readLane t b))
def fsub (t : FFmt) (a b : Lane) : Lane × Sticky := packF t (addV (readLane t a) (negV (readLane t b)))
def fmul (t : FFmt) (a b : Lane) : Lane × Sticky := packF t (mulV (readLane t a) (readLane t b))
def fma (t : FFmt) (a b c : Lane) : Lane × Sticky := packF t (addV (mulV (readLane t a) (readLane t b)) (readLane t c))
def fms (t : FFmt) (a b c : Lane) : Lane × Sticky :=
  packF t (addV (mulV (readLane t a) (readLane t b)) (negV (readLane t c)))

/-- Order of two values that are no NaN, −0 below +0: x < y. -/
def ltV (zeroSigned : Bool) : FVal → FVal → Bool
  | .inf true, .inf true => false
  | .inf true, _ => true
  | _, .inf true => false
  | .inf false, _ => false
  | _, .inf false => true
  | .fin s x, .fin r y => if x.m = 0 ∧ y.m = 0 then zeroSigned && s && !r else x.lt y
  | _, _ => false

/-- Equality of two values that are no NaN. -/
def eqV : FVal → FVal → Bool
  | .inf a, .inf b => a == b
  | .fin _ x, .fin _ y => decide ((x.add y.neg).m = 0)
  | _, _ => false

/-- A value is NaN. -/
def isNaN : FVal → Bool
  | .nan => true
  | _ => false

/-- FMIN and FMAX (R193). -/
def fmin (t : FFmt) (a b : Lane) : Lane × Sticky :=
  let x := readLane t a
  let y := readLane t b
  if isNaN x || isNaN y then packF t .nan else packF t (if ltV true y x then y else x)
def fmax (t : FFmt) (a b : Lane) : Lane × Sticky :=
  let x := readLane t a
  let y := readLane t b
  if isNaN x || isNaN y then packF t .nan else packF t (if ltV true x y then y else x)

/-- FABS and FNEG: a NaN gives the canonical NaN (R193). -/
def fabs (t : FFmt) (a : Lane) : Lane × Sticky :=
  packF t (match readLane t a with
    | .nan => .nan
    | .inf _ => .inf false
    | .fin _ x => .fin false ⟨x.m.natAbs, x.e⟩)
def fneg (t : FFmt) (a : Lane) : Lane × Sticky := packF t (negV (readLane t a))

/-- A comparison with a NaN operand is not stated (log entry 13). -/
def fcmp (t : FFmt) (r : FRel) (a b : Lane) : Bool :=
  let x := readLane t a
  let y := readLane t b
  if isNaN x || isNaN y then Config.nanCompare (match r with
    | .eq => 0
    | .ne => 1
    | .lt => 2
    | .le => 3
    | .gt => 4
    | .ge => 5) a b
  else match r with
    | .eq => eqV x y
    | .ne => !eqV x y
    | .lt => ltV false x y
    | .le => ltV false x y || eqV x y
    | .gt => ltV false y x
    | .ge => ltV false y x || eqV x y

/-! ### Conversions (R194) -/

/-- FP32 to BF16 and back. -/
def cvtToBf16 (a : Lane) : Lane × Sticky := packF .bf16 (f32 a)
def cvtFromBf16 (a : Lane) : Lane × Sticky := packF .f32 (bf16 a)

/-- Integer nearest to an exact value, ties to even. -/
def roundInt (x : Dy) : Int :=
  if 0 ≤ x.e then x.m * 2 ^ x.e.toNat
  else
    let n : Int := divEven x.m.natAbs (2 ^ (-x.e).toNat)
    if x.m < 0 then -n else n

/-- FP32 to INT32: ties to even, saturating; a NaN gives 0 and sets the NaN flag. -/
def cvtToInt (a : Lane) : Lane × Sticky :=
  match f32 a with
  | .nan => (0, ⟨false, true, false⟩)
  | .inf s => (if s then 0x80000000 else 0x7FFFFFFF, .none)
  | .fin _ x => (BitVec.ofInt 32 (max (-2147483648) (min 2147483647 (roundInt x))), .none)

/-- INT32 to FP32. -/
def cvtFromInt (a : Lane) : Lane × Sticky := packLane .f32 false ⟨a.toInt, 0⟩

/-! ### MX formats (Table 5-7, R195) -/

/-- Significand bits, exponent of the smallest subnormal, largest finite code and emax of an MX element format; codes of Table 3-4. -/
def mxShape : Nat → Nat × Int × Nat × Int
  | 1 => (4, -9, 0x7E, 8)
  | 2 => (3, -16, 0x7B, 15)
  | 3 => (3, -4, 0x1F, 4)
  | 4 => (4, -3, 0x1F, 2)
  | _ => (2, -1, 0x7, 2)

/-- Bits of an element of a format. -/
def mxBits : Nat → Nat
  | 1 => 8
  | 2 => 8
  | 3 => 6
  | 4 => 6
  | 5 => 4
  | 7 => 16
  | _ => 8

/-- Value of an element code. -/
def mxVal (fmt code : Nat) : FVal :=
  if fmt == 6 || fmt == 9 then .fin false ⟨(BitVec.ofNat 8 code).toInt, if fmt == 6 then -6 else 0⟩
  else if fmt == 7 then f32 (BitVec.ofNat 32 (code * 65536))
  else
    let (p, qmin, _, _) := mxShape fmt
    let bits := mxBits fmt
    let s := code / 2 ^ (bits - 1) % 2 == 1
    let mag := code % 2 ^ (bits - 1)
    let ex := mag / 2 ^ (p - 1)
    let fr := mag % 2 ^ (p - 1)
    if fmt == 1 && mag == 0x7F then .nan
    else if fmt == 2 && decide (0x7C < mag) then .nan
    else if fmt == 2 && mag == 0x7C then .inf s
    else
      let m : Nat := if ex == 0 then fr else 2 ^ (p - 1) + fr
      let e : Int := qmin + (if ex == 0 then 0 else (ex : Int) - 1)
      .fin s ⟨if s then -(m : Int) else m, e⟩

/-- `round_to_fmt`: ties to even and the saturation of R194. -/
def mxRound (fmt : Nat) (v : FVal) : Nat :=
  match v with
  | .nan => 0
  | .inf s =>
    if fmt == 6 then (if s then 0x81 else 0x7F)
    else
      let (_, _, big, _) := mxShape fmt
      (if s then 2 ^ (mxBits fmt - 1) else 0) + (if fmt == 2 then 0x7C else big)
  | .fin s x =>
    if fmt == 6 then
      (BitVec.ofInt 8 (max (-127) (min 127 (roundInt (x.scale 6))))).toNat
    else
      let (p, qmin, big, _) := mxShape fmt
      (if s || decide (x.m < 0) then 2 ^ (mxBits fmt - 1) else 0) + min big (roundMag p qmin x)

/-- `floor_log2` of a finite value that is not 0. -/
def floorLog2 (x : Dy) : Int := x.e + bitLen x.m.natAbs - 1

/-- `mx_encode`: the scale code and the element codes of 32 FP32 lanes. -/
def mxEncode (fmt : Nat) (v : List Lane) : Nat × List Nat :=
  let xs := v.map f32
  if xs.any isNaN then (0xFF, v.map (fun _ => 0))
  else
    let amax : Dy := xs.foldl (fun a x => match x with
      | .fin _ d => if a.lt ⟨d.m.natAbs, d.e⟩ then ⟨d.m.natAbs, d.e⟩ else a
      | _ => a) ⟨0, 0⟩
    let emax : Int := if fmt == 6 then 0 else (mxShape fmt).2.2.2
    let e : Int := if amax.m = 0 then -127 else max (-127) (min 127 (floorLog2 amax - emax))
    ((e + 127).toNat, xs.map (fun x => mxRound fmt (match x with
      | .fin s d => .fin s (d.scale (-e))
      | w => w)))

/-- One lane of MXUNPACK. -/
def mxDecode (fmt scale code : Nat) : Lane × Sticky :=
  if scale == 0xFF then packF .f32 .nan
  else packF .f32 (match mxVal fmt code with
    | .fin s d => .fin s (d.scale ((scale : Int) - 127))
    | w => w)

/-! ### The reduction tree (R196) -/

/-- Largest power of two below n, for n at least 2. -/
def pow2Below (n : Nat) : Nat := 2 ^ Nat.log2 (n - 1)

/-- The tree over the live values; fuel bounds its depth. -/
def treeFold (op : Lane → Lane → Lane × Sticky) (empty : Lane) : Nat → List Lane → Lane × Sticky
  | 0, l => (l.headD empty, .none)
  | f + 1, l =>
    match l with
    | [] => (empty, .none)
    | [x] => (x, .none)
    | _ =>
      let h := pow2Below l.length
      let (x, a) := treeFold op empty f (l.take h)
      let (y, b) := treeFold op empty f (l.drop h)
      let (z, c) := op x y
      (z, (a.or b).or c)

/-! ### Tables of R198 -/

/-- Largest n below 2^(f + 1) built bit by bit from the top such that `ok n`. -/
def largestNat (ok : Nat → Bool) : Nat → Nat → Nat
  | 0, acc => acc
  | f + 1, acc => if ok (acc + 2 ^ f) then largestNat ok f (acc + 2 ^ f) else largestNat ok f acc

/-- Lane of n × 2^e for a 24-bit n. -/
def laneOf (n : Nat) (e : Int) : Lane := (packLane .f32 false ⟨n, e⟩).1

/-- `t2[i]`: nearest FP32 to 2^(i/64). The n sought is the largest with (2n − 1)^64 at most 2^(64 × 24 + i). -/
def t2Tab (i : Nat) : Lane := laneOf (largestNat (fun n => decide ((2 * n - 1) ^ 64 ≤ 2 ^ (1536 + i))) 24 0) (-23)

/-- `trcp[i]`: nearest FP32 to 256 ÷ (257 + 2i). -/
def trcpTab (i : Nat) : Lane := laneOf (largestNat (fun n => decide ((2 * n - 1) * (257 + 2 * i) ≤ 2 ^ 25 * 256)) 24 0) (-24)

/-- `trsq[i]`: nearest FP32 to the root of 128 ÷ (129 + 2i) for i below 64, of 64 ÷ (129 + 2j) for i = 64 + j. -/
def trsqTab (i : Nat) : Lane :=
  if i < 64 then laneOf (largestNat (fun n => decide ((2 * n - 1) ^ 2 * (129 + 2 * i) ≤ 2 ^ 50 * 128)) 24 0) (-24)
  else laneOf (largestNat (fun n => decide ((2 * n - 1) ^ 2 * (129 + 2 * (i - 64)) ≤ 2 ^ 50 * 64)) 24 0) (-24)

/-- The exact value of a finite lane, 0 for the others. -/
def dyOf (l : Lane) : Dy :=
  match f32 l with
  | .fin _ x => x
  | _ => ⟨0, 0⟩

/-- `scale_round(y, k)`. -/
def scaleRound (y : Lane) (k : Int) : Lane × Sticky :=
  match f32 y with
  | .fin s x => packLane .f32 s (x.scale k)
  | v => packF .f32 v

/-- EXP2. -/
def exp2 (a : Lane) : Lane × Sticky :=
  match f32 a with
  | .nan => packF .f32 .nan
  | .inf s => (if s then 0 else f32Inf false, .none)
  | .fin _ x =>
    if !x.lt ⟨128, 0⟩ then (f32Inf false, ⟨true, false, false⟩)
    else if x.lt ⟨-150, 0⟩ then (0, .none)
    else
      let n := (x.scale 6).floor
      let i := (n % 64).toNat
      let k := n / 64
      let f := (packLane .f32 false (x.add ⟨-n, -6⟩)).1
      let q := (fmul .f32 (fma .f32 (fma .f32 0x3D635847 f 0x3E75FDF0).1 f 0x3F317218).1 f).1
      scaleRound (fma .f32 (t2Tab i) q (t2Tab i)).1 k

/-- Significand in [1, 2) as a lane, its top fraction bits, and the exponent of a positive finite value that is not 0. -/
def splitF (x : Dy) : Lane × Nat × Int :=
  let n := x.m.natAbs
  let l := bitLen n
  let m := n * 2 ^ (24 - l)
  (laneOf m (-23), m % 2 ^ 23, x.e + l - 1)

/-- RCP. -/
def rcp (a : Lane) : Lane × Sticky :=
  match f32 a with
  | .nan => packF .f32 .nan
  | .inf s => (if s then 0x80000000 else 0, .none)
  | .fin s x =>
    if x.m = 0 then (f32Inf s, .none)
    else
      let (m, fr, e) := splitF x
      let nm := (fneg .f32 m).1
      let y0 := trcpTab (fr / 2 ^ 16)
      let y1 := (fma .f32 y0 (fma .f32 nm y0 0x3F800000).1 y0).1
      let y2 := (fma .f32 y1 (fma .f32 nm y1 0x3F800000).1 y1).1
      let (r, fl) := scaleRound y2 (-e)
      (if s then r ^^^ 0x80000000 else r, fl)

/-- RSQ. -/
def rsq (a : Lane) : Lane × Sticky :=
  match f32 a with
  | .nan => packF .f32 .nan
  | .inf s => if s then packF .f32 .nan else (0, .none)
  | .fin s x =>
    if x.m = 0 then (f32Inf s, .none)
    else if s then packF .f32 .nan
    else
      let (m1, fr, e1) := splitF x
      let odd := e1 % 2 == 1
      let e := if odd then e1 - 1 else e1
      let m := if odd then (scaleRound m1 1).1 else m1
      let i := if odd then 64 + fr / 2 ^ 17 else fr / 2 ^ 17
      let nh := (fneg .f32 (fmul .f32 0x3F000000 m).1).1
      let step (y : Lane) : Lane := (fma .f32 y (fma .f32 nh (fmul .f32 y y).1 0x3F000000).1 y).1
      scaleRound (step (step (trsqTab i))) (-e / 2)

end Sys2Proof.Machine
end

