-- ==== Sys2Proof/Machine/Codes.lean ====
section
/-! DEFINITION. Status codes, event codes and causes (R511, R512): (chapter file << 8) | position among the rows of
kind Status, or of kind Event, of the table that lists the name. -/

namespace Sys2Proof.Machine

/-- Success (R511). -/
def St.OK : Nat := 0x0000

/-- OPEN names a live handle of the station (chapter 2, R511). -/
def St.HANDLE_IN_USE : Nat := 0x0201

/-- No live session has this handle at this station (chapter 2, R511). -/
def St.HANDLE_UNKNOWN : Nat := 0x0202

/-- No free descriptor in the half or halves allowed (chapter 2, R511). -/
def St.TABLE_FULL : Nat := 0x0203

/-- `stn_session_max` reached (chapter 2, R511). -/
def St.SESSION_LIMIT : Nat := 0x0204

/-- The message is not accepted in the session's state (chapter 2, R511). -/
def St.SESSION_STATE : Nat := 0x0205

/-- Prefix handle not live, released, or of another station (chapter 2, R511). -/
def St.PREFIX_UNKNOWN : Nat := 0x0206

/-- Prefix built for another model slot (chapter 2, R511). -/
def St.PREFIX_MODEL_MISMATCH : Nat := 0x0207

/-- `stn_prefix_max` reached (chapter 2, R511). -/
def St.PREFIX_LIMIT : Nat := 0x0208

/-- RESUME tag differs from `wait_tag` (chapter 2, R511). -/
def St.WAIT_TAG_MISMATCH : Nat := 0x0209

/-- OPEN names a prefix and the half that does not hold it (R63) (chapter 2, R511). -/
def St.PREFIX_HALF_MISMATCH : Nat := 0x020A

/-- Event: Session entered WAITING; carries `wait_tag` and `ch_produced` (chapter 2, R511). -/
def Ev.TOOL_CALL : Nat := 0x0201

/-- Event: Tool-call deadline passed (chapter 2, R511). -/
def Ev.WAIT_EXPIRED : Nat := 0x0202

/-- Event: Grammar allowed no token (chapter 2, R511). -/
def Ev.GRAMMAR_DEAD : Nat := 0x0203

/-- Event: Cancellation complete; carries `ch_delivered` (chapter 2, R511). -/
def Ev.CANCELLED : Nat := 0x0204

/-- Event: Session closed; carries `ch_delivered` (chapter 2, R511). -/
def Ev.CLOSED : Nat := 0x0205

/-- Event: State lost; carries cause (chapter 2, R511). -/
def Ev.FAILED : Nat := 0x0206

/-- Event: Input reached `max_positions`; the turn ended with no token (R584); carries `ch_accepted` and the input tokens discarded (chapter 2, R511). -/
def Ev.CONTEXT_FULL : Nat := 0x0207

/-- Magic, header CRC, digest or section CRC failed (chapter 4, R511). -/
def St.TRAVERSE_CORRUPT : Nat := 0x0401

/-- Signature did not verify under the named key (chapter 4, R511). -/
def St.TRAVERSE_SIGNATURE : Nat := 0x0402

/-- An image required by R140 is missing (chapter 4, R511). -/
def St.TRAVERSE_INCOMPLETE : Nat := 0x0403

/-- A header field is out of range (chapter 4, R511). -/
def St.TRAVERSE_RANGE : Nat := 0x0404

/-- Group size, position, composition or benchmark conflict (chapter 4, R511). -/
def St.TRAVERSE_GROUP_MISMATCH : Nat := 0x0405

/-- A cluster in the mask is outside the slice or fenced beyond its images (chapter 4, R511). -/
def St.TRAVERSE_CLUSTERS : Nat := 0x0406

/-- Command refused in the ACTIVE slot (chapter 4, R511). -/
def St.TRAVERSE_BUSY : Nat := 0x0407

/-- Activation frame fewer than 4 frames ahead (chapter 4, R511). -/
def St.TRAVERSE_ACTIVATE_LATE : Nat := 0x0408

/-- ACTIVATE of a slot that is EMPTY, LOADING or REFUSED (chapter 4, R511). -/
def St.TRAVERSE_NOT_LOADED : Nat := 0x0409

/-- Event: Acquisition failed within 10 ms (chapter 4, R511). -/
def Ev.DATUM_LOCK_FAIL : Nat := 0x0401

/-- Event: No image covers the fenced clusters; the traverse stopped (chapter 4, R511). -/
def Ev.DEGRADED_EXHAUSTED : Nat := 0x0402

/-- CLEAR_CLUSTER named a cluster used by an ACTIVE traverse (chapter 5, R511). -/
def St.FENCE_BUSY : Nat := 0x0501

/-- Event: A frame was voided by a transient fault; carries the core and the cause (chapter 5, R511). -/
def Ev.CORE_FAULT : Nat := 0x0501

/-- Event: A core was fenced; carries the global core number and the cause (chapter 5, R511). -/
def Ev.CORE_FENCED : Nat := 0x0502

/-- Event: A cluster was fenced; carries the cluster number and the cause (chapter 5, R511). -/
def Ev.CLUSTER_FENCED : Nat := 0x0503

/-- UNLOAD or shape write while the slot is in an ACTIVE traverse's `model_mask` (chapter 6, R511). -/
def St.MODEL_BUSY : Nat := 0x0601

/-- LOAD refused for shape before it starts: layers, groups or `mdl_max_positions` against a live session of the slot (R248); no LOADED bound dictionary or another vocabulary (R255); a draft slot against its main slot (R239) (chapter 6, R511). -/
def St.MODEL_SHAPE : Nat := 0x0602

/-- Loaded tiles do not match `mdl_digest` (chapter 6, R511). -/
def St.MODEL_CORRUPT : Nat := 0x0603

/-- A half's clusters of the slice have no DDR5 channel of that half for a T2-home model (chapter 6, R511). -/
def St.MODEL_SLICE_CHANNELS : Nat := 0x0604

/-- Dictionary image fails R251–R254 or its digest (chapter 7, R511). -/
def St.DICT_CORRUPT : Nat := 0x0701

/-- Command or binding change while a bound model slot is LOADED (chapter 7, R511). -/
def St.DICT_BUSY : Nat := 0x0702

/-- Shards of the loaded dictionaries exceed a half's text clusters (chapter 7, R511). -/
def St.DICT_NO_CLUSTERS : Nat := 0x0703

/-- Program fails its header, digest or the mask verification of R272 (chapter 7, R511). -/
def St.GRAMMAR_CORRUPT : Nat := 0x0704

/-- Command while a live session names the slot (chapter 7, R511). -/
def St.GRAMMAR_BUSY : Nat := 0x0705

/-- OPEN names an empty grammar slot or one of another station (chapter 7, R511). -/
def St.GRAMMAR_UNKNOWN : Nat := 0x0706

/-- Grammar slot built for another model slot (chapter 7, R511). -/
def St.GRAMMAR_MODEL_MISMATCH : Nat := 0x0707

/-- Stop-set write while a live session uses the set (chapter 7, R511). -/
def St.STOP_SET_BUSY : Nat := 0x0708

/-- Event: A TOOL record was truncated; carries the handle, N and the staged tokens kept, H + T (R269) (chapter 7, R511). -/
def Ev.INPUT_TRUNCATED : Nat := 0x0701

/-- OPEN names a draft slot whose `mdl_draft_of` is not the session's model slot (chapter 8, R511). -/
def St.DRAFT_MODEL_MISMATCH : Nat := 0x0801

/-- Event: Drafting stopped under R298; carries the handle and `ch_produced` (chapter 8, R511). -/
def Ev.DRAFT_STOPPED : Nat := 0x0801

/-- No invalid entry in the table's region (chapter 9, R511). -/
def St.CAM_TABLE_FULL : Nat := 0x0901

/-- Index empty, dropped, or not open to the station for the operation (chapter 9, R511). -/
def St.VX_INDEX_UNKNOWN : Nat := 0x0902

/-- Command or shape write to an index slot that is not EMPTY (chapter 9, R511). -/
def St.VX_INDEX_BUSY : Nat := 0x0903

/-- INSERT names an identifier in the map (chapter 9, R511). -/
def St.VX_ID_IN_USE : Nat := 0x0904

/-- DELETE names an identifier absent or already tombstoned (chapter 9, R511). -/
def St.VX_ID_UNKNOWN : Nat := 0x0905

/-- No free slot (chapter 9, R511). -/
def St.VX_FULL : Nat := 0x0906

/-- Non-finite element, or zero norm under COSINE (chapter 9, R511). -/
def St.VX_VECTOR_INVALID : Nat := 0x0907

/-- Load failed its tile checks or digest, or tiles lost beyond parity (chapter 9, R511). -/
def St.VX_CORRUPT : Nat := 0x0908

/-- Name not defined at the station (chapter 10, R511). -/
def St.SYNC_NAME_UNKNOWN : Nat := 0x0A01

/-- Define of a name already defined (chapter 10, R511). -/
def St.SYNC_NAME_IN_USE : Nat := 0x0A02

/-- `stn_sync_max` reached (chapter 10, R511). -/
def St.SYNC_LIMIT : Nat := 0x0A03

/-- No free station-pool object in the half or halves allowed (chapter 10, R511). -/
def St.SYNC_POOL_EMPTY : Nat := 0x0A04

/-- Delete of a bound name, or a range change that takes station objects (chapter 10, R511). -/
def St.SYNC_BUSY : Nat := 0x0A05

/-- Operation does not fit the object's type (chapter 10, R511). -/
def St.SYNC_INVALID : Nat := 0x0A06

/-- Arrival for a round other than n or n + 1; the event carries the handle and the name (chapter 10, R511). -/
def St.CLOSURE_OVERRUN : Nat := 0x0A07

/-- Event: Arrival for a round other than n or n + 1; the event carries the handle and the name (chapter 10, R511). -/
def Ev.CLOSURE_OVERRUN : Nat := 0x0A01

/-- Event: A session's gate expired; carries the handle and the name (chapter 10, R511). -/
def Ev.SYNC_TIMEOUT : Nat := 0x0A02

/-- Event: A station object could not be moved; carries the name (chapter 10, R511). -/
def Ev.SYNC_LOST : Nat := 0x0A03

/-- A bucket was non-conformant under REJECT, or a deferral expired (chapter 11, R511). -/
def St.RATE_LIMITED : Nat := 0x0B01

/-- An admission rule denied the message; carries `ar_rule_id` (chapter 11, R511). -/
def St.RULE_DENIED : Nat := 0x0B02

/-- Insert of a live rule identifier (chapter 11, R511). -/
def St.RULE_ID_IN_USE : Nat := 0x0B03

/-- Removal of an identifier that is not live (chapter 11, R511). -/
def St.RULE_ID_UNKNOWN : Nat := 0x0B04

/-- Takeover frame fewer than 4 frames ahead (chapter 11, R511). -/
def St.GATE_LIST_LATE : Nat := 0x0B05

/-- An entry breaks Table 11-4 (chapter 11, R511). -/
def St.GATE_LIST_INVALID : Nat := 0x0B06

/-- Sequence already accepted; carries the ACCEPT position (chapter 12, R511). -/
def St.ALREADY_ACCEPTED : Nat := 0x0C01

/-- Sequence below the window of R408 (chapter 12, R511). -/
def St.SEQ_STALE : Nat := 0x0C02

/-- The book's free tiles are down to the reserve of R411 (chapter 12, R511). -/
def St.FIELD_BOOK_FULL : Nat := 0x0C03

/-- Deferral expired under HOLD_INTAKE (chapter 12, R511). -/
def St.WITNESS_LAPSED : Nat := 0x0C04

/-- Adoption source failed its checks (chapter 12, R511). -/
def St.ADOPT_REFUSED : Nat := 0x0C05

/-- Channel command does not fit the channel's state (chapter 12, R511). -/
def St.T2_CHANNEL_BUSY : Nat := 0x0C06

/-- Event: Mirror absent, or witness not CURRENT (chapter 12, R511). -/
def Ev.FIELD_BOOK_DEGRADED : Nat := 0x0C01

/-- Event: Witness CURRENT and every mirror present (chapter 12, R511). -/
def Ev.FIELD_BOOK_RESTORED : Nat := 0x0C02

/-- Event: A DDR5 channel was declared failed (chapter 12, R511). -/
def Ev.CHANNEL_FAILED : Nat := 0x0C03

/-- Event: An HBM stack was declared failed (chapter 12, R511). -/
def Ev.STACK_FAILED : Nat := 0x0C04

/-- Event: A half was lost or fenced itself (chapter 12, R511). -/
def Ev.HALF_LOST : Nat := 0x0C05

/-- Event: No usable fallback traverse after a half was lost (chapter 12, R511). -/
def Ev.FALLBACK_ABSENT : Nat := 0x0C06

/-- Event: A rebuild completed; carries the handle and the positions recomputed (chapter 12, R511). -/
def Ev.SESSION_REBUILT : Nat := 0x0C07

/-- CHECKPOINT from a station that is not privileged (chapter 13, R511). -/
def St.CHECKPOINT_DENIED : Nat := 0x0D01

/-- Step fewer than 4 frames ahead (chapter 13, R511). -/
def St.CHECKPOINT_LATE : Nat := 0x0D02

/-- A checkpoint of the slice is pending or running (chapter 13, R511). -/
def St.CHECKPOINT_BUSY : Nat := 0x0D03

/-- `ck_store` names no usable store (chapter 13, R511). -/
def St.CHECKPOINT_NO_STORE : Nat := 0x0D04

/-- Live sessions, READY indexes or a running checkpoint in the slice (chapter 13, R511). -/
def St.RESTORE_BUSY : Nat := 0x0D05

/-- Catalogue, manifest magic or CRC failed (chapter 13, R511). -/
def St.RESTORE_CORRUPT : Nat := 0x0D06

/-- A signature failed or its key is not accepted (chapter 13, R511). -/
def St.RESTORE_SIGNATURE : Nat := 0x0D07

/-- Manifests or shard headers of different checkpoints or steps (chapter 13, R511). -/
def St.RESTORE_MISMATCH : Nat := 0x0D08

/-- No LOADED traverse of the checkpoint's identity and shape (chapter 13, R511). -/
def St.RESTORE_TRAVERSE : Nat := 0x0D09

/-- A bound slot is absent or has another digest, or an index slot is in use (chapter 13, R511). -/
def St.RESTORE_MODELS : Nat := 0x0D0A

/-- A shard digest or a tile check failed (chapter 13, R511). -/
def St.RESTORE_DIGEST : Nat := 0x0D0B

/-- Fallback found no checkpoint that verifies (chapter 13, R511). -/
def St.RESTORE_NONE : Nat := 0x0D0C

/-- Event: Carries the identifier and the step (chapter 13, R511). -/
def Ev.CHECKPOINT_COMPLETE : Nat := 0x0D01

/-- Event: Carries the identifier and the cause (chapter 13, R511). -/
def Ev.CHECKPOINT_ABORTED : Nat := 0x0D02

/-- Event: The group did not agree the step (chapter 13, R511). -/
def Ev.CHECKPOINT_WITHDRAWN : Nat := 0x0D03

/-- Event: A checkpoint was refused; carries its identifier, the shard and the status (chapter 13, R511). -/
def Ev.RESTORE_FALLBACK : Nat := 0x0D04

/-- Event: Carries the handle and the restored `ch_delivered` (chapter 13, R511). -/
def Ev.SESSION_RESTORED : Nat := 0x0D05

/-- A routed message failed its range check (chapter 14, R511). -/
def St.FAB_RANGE : Nat := 0x0E01

/-- Roles or domains of the two ends differ (chapter 14, R511). -/
def St.FAB_DOMAIN : Nat := 0x0E02

/-- Image fails R467, or a device number is in use (chapter 14, R511). -/
def St.PLAT_INVALID : Nat := 0x0E03

/-- Wrong epoch, or a takeover fewer than 4 frames ahead (chapter 14, R511). -/
def St.PLAT_LATE : Nat := 0x0E04

/-- LEAVE while assigned, or a proposal already pending (chapter 14, R511). -/
def St.PLAT_BUSY : Nat := 0x0E05

/-- No common plat protocol major (chapter 14, R511). -/
def St.PLAT_VERSION : Nat := 0x0E06

/-- No majority in time (chapter 14, R511). -/
def St.PLAT_VOTE_TIMEOUT : Nat := 0x0E07

/-- A request's epoch was not committed in time (chapter 14, R511). -/
def St.PLAT_EPOCH_STALE : Nat := 0x0E08

/-- No DRAIN within `plat_drain_ticks` (chapter 14, R511). -/
def St.PLAT_DRAIN_TIMEOUT : Nat := 0x0E09

/-- Lease beyond `t4_lend_max`, or lessee outside the slice (chapter 14, R511). -/
def St.LEASE_REFUSED : Nat := 0x0E0A

/-- Unknown lease or offset (chapter 14, R511). -/
def St.LEASE_UNKNOWN : Nat := 0x0E0B

/-- Event: A new epoch was committed; carries the epoch (chapter 14, R511). -/
def Ev.PLAT_CHANGED : Nat := 0x0E01

/-- Event: A device with a shared lease or group became unreachable (chapter 14, R511). -/
def Ev.PEER_ABSENT : Nat := 0x0E02

/-- Event: It became reachable again (chapter 14, R511). -/
def Ev.PEER_PRESENT : Nat := 0x0E03

/-- Event: A port runs on fewer lanes; carries the port and width (chapter 14, R511). -/
def Ev.LINK_NARROWED : Nat := 0x0E04

/-- A field is out of range (R21); `c_offset` names it (chapter 15, R511). -/
def St.FIELD_RANGE : Nat := 0x0F01

/-- No common major (R24) (chapter 15, R511). -/
def St.VERSION_MISMATCH : Nat := 0x0F02

/-- A stored format is refused (R25) (chapter 15, R511). -/
def St.FORMAT_VERSION : Nat := 0x0F03

/-- MSG beyond the free credits (chapter 15, R511). -/
def St.INTAKE_OVERFLOW : Nat := 0x0F04

/-- A READ_REQ went unanswered (R487) (chapter 15, R511). -/
def St.HOST_READ_FAILED : Nat := 0x0F05

/-- Object access not open to the station (chapter 15, R511). -/
def St.OBJECT_DENIED : Nat := 0x0F06

/-- No such index or subindex (chapter 15, R511). -/
def St.OBJECT_UNKNOWN : Nat := 0x0F07

/-- Extent change while it holds live tiles (R120) (chapter 15, R511). -/
def St.EXTENT_BUSY : Nat := 0x0F08

/-- Write through the legacy mailbox to a protected, sealed or plat object (chapter 16, R511). -/
def St.LEGACY_DENIED : Nat := 0x1001

/-- No held capability covers the write (chapter 16, R511). -/
def St.CAPABILITY_REQUIRED : Nat := 0x1002

/-- A check of steps 1–3 of Table 16-7 failed (chapter 16, R511). -/
def St.CAPABILITY_INVALID : Nat := 0x1003

/-- Outside its time bounds, or a span beyond `cap_max_life` (chapter 16, R511). -/
def St.CAPABILITY_EXPIRED : Nat := 0x1004

/-- Eight associations already held (chapter 16, R511). -/
def St.OPDUN_BUSY : Nat := 0x1005

/-- Fragment gap beyond `opdun_frag_ticks` (chapter 16, R511). -/
def St.OPDUN_FRAGMENT : Nat := 0x1006

/-- PERSIST record not programmed (chapter 16, R511). -/
def St.CONFIG_FLASH_FAIL : Nat := 0x1007

/-- Key command does not fit the slot, or an owner claim on an owned tile (chapter 16, R511). -/
def St.KEY_SLOT_STATE : Nat := 0x1008

/-- Image header or digest failed (chapter 16, R511). -/
def St.FW_CORRUPT : Nat := 0x1009

/-- Image signature failed (chapter 16, R511). -/
def St.FW_SIGNATURE : Nat := 0x100A

/-- `fw_svn` below the floor (chapter 16, R511). -/
def St.FW_ROLLBACK : Nat := 0x100B

/-- Command does not fit the slot state (chapter 16, R511). -/
def St.FW_STATE : Nat := 0x100C

/-- Nonce written while a report is being signed (chapter 16, R511). -/
def St.ATTEST_BUSY : Nat := 0x100D

/-- Event: Slot 0 changed; carries the new fingerprint's first 8 bytes (chapter 16, R511). -/
def Ev.OWNER_CHANGED : Nat := 0x1001

/-- Event: Carries the slot (chapter 16, R511). -/
def Ev.TRUSTED_KEY_CHANGED : Nat := 0x1002

/-- Event: Boot returned to the other slot; carries the slot (chapter 16, R511). -/
def Ev.FW_FALLBACK : Nat := 0x1003

/-- Event: The calendar lost its time (chapter 16, R511). -/
def Ev.CALENDAR_INVALID : Nat := 0x1004

/-- A power or reset command does not fit the tile's state (chapter 17, R511). -/
def St.POWER_BUSY : Nat := 0x1101

/-- Event: The tile is entering deep sleep (chapter 17, R511). -/
def Ev.DEEP_SLEEP_ENTER : Nat := 0x1101

/-- Event: Deep sleep ended or its entry was abandoned; carries `wake_cause` (chapter 17, R511). -/
def Ev.DEEP_SLEEP_EXIT : Nat := 0x1102

/-- Event: A junction exceeded 95 °C; carries the half and the sensor (chapter 17, R511). -/
def Ev.THERMAL_THROTTLE : Nat := 0x1103

/-- Event: The tile is held in warm reset for heat; carries the sensor (chapter 17, R511). -/
def Ev.THERMAL_TRIP : Nat := 0x1104

/-- Event: Every lever is applied and a limit still holds; carries the limit in W (chapter 17, R511). -/
def Ev.POWER_LIMITED : Nat := 0x1105

/-- Cause SRAM_CE (R512). -/
def Cause.SRAM_CE : Nat := 0x0581

/-- Cause SRAM_UE (R512). -/
def Cause.SRAM_UE : Nat := 0x0582

/-- Cause PARITY (R512). -/
def Cause.PARITY : Nat := 0x0583

/-- Cause BUNDLE_CHECK (R512). -/
def Cause.BUNDLE_CHECK : Nat := 0x0584

/-- Cause RESIDUE (R512). -/
def Cause.RESIDUE : Nat := 0x0585

/-- Cause WATCHDOG (R512). -/
def Cause.WATCHDOG : Nat := 0x0586

/-- Cause SCHEDULE_FAULT (R512). -/
def Cause.SCHEDULE_FAULT : Nat := 0x0587

/-- Cause BIST (R512). -/
def Cause.BIST : Nat := 0x0588

/-- Cause COMMANDED (R512). -/
def Cause.COMMANDED : Nat := 0x0589

/-- Cause UCIE_TRAIN_FAIL (R512). -/
def Cause.UCIE_TRAIN_FAIL : Nat := 0x0F81

/-- Cause UCIE_LINK_DOWN (R512). -/
def Cause.UCIE_LINK_DOWN : Nat := 0x0F82

/-- Cause TRANSFER_INVALID (R512). -/
def Cause.TRANSFER_INVALID : Nat := 0x0F83

/-- Cause CONS_INDEX_INVALID (R512). -/
def Cause.CONS_INDEX_INVALID : Nat := 0x0F84

end Sys2Proof.Machine
end

