-- ==== Sys2Proof/Machine/Parts/Dictionary.lean ====
section
/-! DEFINITION. The object dictionary's data (chapter 16): what a row of an object table says of its object, and the
dictionary's contents.

Scalar objects are held as the natural number of their little-endian encoding (Table 16-2), so an I32 is its two's
complement.  The keys of the maps are index × 256 + subindex (R514). -/

namespace Sys2Proof.Machine

/-- Data types of Table 16-2. -/
inductive ObjKind where
  | bool
  | u8
  | u16
  | u32
  | u64
  | i32
  | i64
  | q16
  | time
  | octets
deriving DecidableEq, Repr

/-- Access rights of R516. -/
inductive ObjAccess where
  | const
  | ro
  | wo
  | rw
  | rwf
deriving DecidableEq, Repr

/-- Protection classes of R519. -/
inductive ObjProt where
  | openWrite
  | guarded
  | sealedWrite
deriving DecidableEq, Repr

/-- The default an object takes: a number, the low digits of its index, those modulo 8, or 1 at the first index only. -/
inductive ObjDefault where
  | fixed (n : Nat)
  | index
  | indexMod8
  | firstOnly
deriving DecidableEq, Repr

/-- One row of an object table. `count` indices from `base` each hold the subindices `subLo` to `subHi`; `lo` and `hi` bound a
scalar's values or an OCTETS value's length, and `also` is one more value allowed. -/
structure ObjSpec where
  base : Nat
  count : Nat
  subLo : Nat
  subHi : Nat
  kind : ObjKind
  access : ObjAccess
  persist : Bool
  prot : ObjProt
  lo : Nat
  hi : Nat
  also : Option Nat
  dflt : ObjDefault
deriving DecidableEq, Repr

/-- A value of an object: a scalar's encoding or a string of octets. -/
inductive ObjVal where
  | num (n : Nat)
  | octets (o : Octets)
deriving DecidableEq, Repr

/-- A PERSIST write that waits for its flash record (R518): key, value, who wrote it and how its completion goes back. -/
structure PersistWait where
  key : Nat
  value : ObjVal
  since : Nat
  writer : Writer
deriving DecidableEq, Repr

/-- The dictionary (R514-R519). A key that is absent reads as its row's default. -/
structure Dict where
  /-- scalar objects -/
  od : SMap Nat
  /-- OCTETS and STRING objects -/
  strings : SMap Octets
  /-- values written to RWF objects that take effect at the next frame boundary (R516) -/
  rwf : SMap ObjVal
  /-- newest valid PERSIST record of each object in the configuration area (R518) -/
  flash : SMap ObjVal
  /-- PERSIST writes whose record is being programmed -/
  persistWaits : List PersistWait
deriving DecidableEq, Repr

end Sys2Proof.Machine
end

