-- ==== Sys2Proof/Machine/Objects.lean ====
section
/-! DEFINITION. The object dictionary's rows: one `ObjSpec` for every row of the spec's object tables (2-1, 3-13, 4-12,
5-9, 6-7, 7-8, 8-6, 9-10, 10-8, 11-6, 12-11, 13-10, 14-13, 15-15, 16-3, 16-13 and the tables of chapter 17), with
its index, subindex, type, access, persistence, protection, range and default as the row gives them.

The objects that 0x2200 shows of the tenant `tn_select` names are held per tenant at the model's own indices
0x12000 + tenant, which no 16-bit index reaches (`Ob.tn_weight`, `Ob.tn_step_rate` ...).
A default that the table leaves out is 0 (DESIGN CHOICE, log entry 3). -/

namespace Sys2Proof.Machine

/-- `id_vendor` (16, object 0x1000:01): STRING, CONST, default —. -/
def Ob.id_vendor : ObjSpec :=
  ⟨0x1000, 1, 1, 1, .octets, .const, false, .openWrite, 0, 255, none, .fixed 0⟩

/-- `id_product` (16, object 0x1000:02): STRING, CONST, default —. -/
def Ob.id_product : ObjSpec :=
  ⟨0x1000, 1, 2, 2, .octets, .const, false, .openWrite, 0, 255, none, .fixed 0⟩

/-- `id_part` (16, object 0x1000:03): U16, CONST, default —. -/
def Ob.id_part : ObjSpec :=
  ⟨0x1000, 1, 3, 3, .u16, .const, false, .openWrite, 0, 65535, none, .fixed 36900⟩

/-- `id_stepping` (16, object 0x1000:04): U8, CONST, default —. -/
def Ob.id_stepping : ObjSpec :=
  ⟨0x1000, 1, 4, 4, .u8, .const, false, .openWrite, 0, 255, none, .fixed 176⟩

/-- `id_fingerprint` (16, object 0x1000:05): OCTETS (32), RO, default —. -/
def Ob.id_fingerprint : ObjSpec :=
  ⟨0x1000, 1, 5, 5, .octets, .ro, false, .openWrite, 32, 32, none, .fixed 0⟩

/-- `id_public_key` (16, object 0x1000:06): OCTETS (1,952), RO, default —. -/
def Ob.id_public_key : ObjSpec :=
  ⟨0x1000, 1, 6, 6, .octets, .ro, false, .openWrite, 1952, 1952, none, .fixed 0⟩

/-- `id_certificate` (16, object 0x1000:07): OCTETS (0–4,096), RO, default —. -/
def Ob.id_certificate : ObjSpec :=
  ⟨0x1000, 1, 7, 7, .octets, .ro, false, .openWrite, 0, 4096, none, .fixed 0⟩

/-- `id_boot_count` (16, object 0x1000:08): U32, RO, default —. -/
def Ob.id_boot_count : ObjSpec :=
  ⟨0x1000, 1, 8, 8, .u32, .ro, false, .openWrite, 0, 4294967295, none, .fixed 0⟩

/-- `id_last_reset` (16, object 0x1000:09): U8, RO, default —. -/
def Ob.id_last_reset : ObjSpec :=
  ⟨0x1000, 1, 9, 9, .u8, .ro, false, .openWrite, 0, 255, none, .fixed 0⟩

/-- `fw_version` (16, object 0x1010:01): U32, RO, default —. -/
def Ob.fw_version : ObjSpec :=
  ⟨0x1010, 1, 1, 1, .u32, .ro, false, .openWrite, 0, 4294967295, none, .fixed 0⟩

/-- `fw_svn` (16, object 0x1010:02): U32, RO, default —. -/
def Ob.fw_svn : ObjSpec :=
  ⟨0x1010, 1, 2, 2, .u32, .ro, false, .openWrite, 0, 4294967295, none, .fixed 0⟩

/-- `rom_version` (16, object 0x1010:03): U32, CONST, default —. -/
def Ob.rom_version : ObjSpec :=
  ⟨0x1010, 1, 3, 3, .u32, .const, false, .openWrite, 0, 4294967295, none, .fixed 16777216⟩

/-- `witness_mode` (12, object 0x2040:01): U8, RWF, PERSIST, default 0. -/
def Ob.witness_mode : ObjSpec :=
  ⟨0x2040, 1, 1, 1, .u8, .rwf, true, .guarded, 0, 2, none, .fixed 0⟩

/-- `witness_peer` (12, object 0x2040:02): U32, RW, PERSIST, default 0. -/
def Ob.witness_peer : ObjSpec :=
  ⟨0x2040, 1, 2, 2, .u32, .rw, true, .guarded, 0, 4294967295, none, .fixed 0⟩

/-- `witness_extent` (12, object 0x2040:03): OCTETS (16), RW, PERSIST, default all zero. -/
def Ob.witness_extent : ObjSpec :=
  ⟨0x2040, 1, 3, 3, .octets, .rw, true, .guarded, 16, 16, none, .fixed 0⟩

/-- `witness_station` (12, object 0x2040:04): U16, RW, PERSIST, default 0. -/
def Ob.witness_station : ObjSpec :=
  ⟨0x2040, 1, 4, 4, .u16, .rw, true, .guarded, 0, 255, none, .fixed 0⟩

/-- `witness_timeout` (12, object 0x2040:05): U32, RW, PERSIST, default 2,500 (100 µs). -/
def Ob.witness_timeout : ObjSpec :=
  ⟨0x2040, 1, 5, 5, .u32, .rw, true, .guarded, 250, 250000, none, .fixed 2500⟩

/-- `witness_loss_action` (12, object 0x2040:06): U8, RW, PERSIST, default 0. -/
def Ob.witness_loss_action : ObjSpec :=
  ⟨0x2040, 1, 6, 6, .u8, .rw, true, .guarded, 0, 1, none, .fixed 0⟩

/-- `witness_state` (12, object 0x2040:07): U8, RO, VOLATILE, default 0. -/
def Ob.witness_state : ObjSpec :=
  ⟨0x2040, 1, 7, 7, .u8, .ro, false, .openWrite, 0, 255, none, .fixed 0⟩

/-- `rebuild_row_share` (12, object 0x2040:08): U8, RWF, PERSIST, default 25. -/
def Ob.rebuild_row_share : ObjSpec :=
  ⟨0x2040, 1, 8, 8, .u8, .rwf, true, .guarded, 0, 100, none, .fixed 25⟩

/-- `fallback_h0_lost` (12, object 0x2040:09): U8, RW, PERSIST, default 0xFF. -/
def Ob.fallback_h0_lost : ObjSpec :=
  ⟨0x2040, 1, 9, 9, .u8, .rw, true, .guarded, 0, 3, (some 255), .fixed 255⟩

/-- `fallback_h1_lost` (12, object 0x2040:0A): U8, RW, PERSIST, default 0xFF. -/
def Ob.fallback_h1_lost : ObjSpec :=
  ⟨0x2040, 1, 10, 10, .u8, .rw, true, .guarded, 0, 3, (some 255), .fixed 255⟩

/-- `witness_status` (12, object 0x2040:0B): U16, RO, VOLATILE, default 0. -/
def Ob.witness_status : ObjSpec :=
  ⟨0x2040, 1, 11, 11, .u16, .ro, false, .openWrite, 0, 65535, none, .fixed 0⟩

/-- `fb_tiles_h0` (12, object 0x2041:01): U32, RW, PERSIST, default 1,048,576. -/
def Ob.fb_tiles_h0 : ObjSpec :=
  ⟨0x2041, 1, 1, 1, .u32, .rw, true, .guarded, 65536, 16777216, none, .fixed 1048576⟩

/-- `fb_tiles_h1` (12, object 0x2041:02): U32, RW, PERSIST, default 1,048,576. -/
def Ob.fb_tiles_h1 : ObjSpec :=
  ⟨0x2041, 1, 2, 2, .u32, .rw, true, .guarded, 65536, 16777216, none, .fixed 1048576⟩

/-- `fb_used_h0` (12, object 0x2041:03): U32, RO, VOLATILE, default 0. -/
def Ob.fb_used_h0 : ObjSpec :=
  ⟨0x2041, 1, 3, 3, .u32, .ro, false, .openWrite, 0, 4294967295, none, .fixed 0⟩

/-- `fb_used_h1` (12, object 0x2041:04): U32, RO, VOLATILE, default 0. -/
def Ob.fb_used_h1 : ObjSpec :=
  ⟨0x2041, 1, 4, 4, .u32, .ro, false, .openWrite, 0, 4294967295, none, .fixed 0⟩

/-- `fb_pos_h0` (12, object 0x2041:05): U64, RO, VOLATILE, default —. -/
def Ob.fb_pos_h0 : ObjSpec :=
  ⟨0x2041, 1, 5, 5, .u64, .ro, false, .openWrite, 0, 18446744073709551615, none, .fixed 0⟩

/-- `fb_pos_h1` (12, object 0x2041:06): U64, RO, VOLATILE, default —. -/
def Ob.fb_pos_h1 : ObjSpec :=
  ⟨0x2041, 1, 6, 6, .u64, .ro, false, .openWrite, 0, 18446744073709551615, none, .fixed 0⟩

/-- `fb_degraded` (12, object 0x2041:07): U8, RO, VOLATILE, default 0. -/
def Ob.fb_degraded : ObjSpec :=
  ⟨0x2041, 1, 7, 7, .u8, .ro, false, .openWrite, 0, 255, none, .fixed 0⟩

/-- `fb_adopt_source` (12, object 0x2041:08): OCTETS (16), RW, VOLATILE, default all zero. -/
def Ob.fb_adopt_source : ObjSpec :=
  ⟨0x2041, 1, 8, 8, .octets, .rw, false, .guarded, 16, 16, none, .fixed 0⟩

/-- `fb_adopt_command` (12, object 0x2041:09): U8, WO, default —. -/
def Ob.fb_adopt_command : ObjSpec :=
  ⟨0x2041, 1, 9, 9, .u8, .wo, false, .guarded, 1, 1, none, .fixed 0⟩

/-- `fb_adopt_status` (12, object 0x2041:0A): U16, RO, VOLATILE, default 0. -/
def Ob.fb_adopt_status : ObjSpec :=
  ⟨0x2041, 1, 10, 10, .u16, .ro, false, .openWrite, 0, 65535, none, .fixed 0⟩

/-- `fb_adopt_device` (12, object 0x2041:0B): U16, RW, VOLATILE, default 0. -/
def Ob.fb_adopt_device : ObjSpec :=
  ⟨0x2041, 1, 11, 11, .u16, .rw, false, .guarded, 0, 511, none, .fixed 0⟩

/-- `mgmt_legacy` (16, object 0x2050:01): U8, RW, PERSIST, default 0. -/
def Ob.mgmt_legacy : ObjSpec :=
  ⟨0x2050, 1, 1, 1, .u8, .rw, true, .guarded, 0, 1, none, .fixed 0⟩

/-- `fn_node_base` (16, object 0x2050:02): U8, RW, PERSIST, default 0. -/
def Ob.fn_node_base : ObjSpec :=
  ⟨0x2050, 1, 2, 2, .u8, .rw, true, .guarded, 0, 30, none, .fixed 0⟩

/-- `fn_plca_count` (16, object 0x2050:03): U8, RW, PERSIST, default 8. -/
def Ob.fn_plca_count : ObjSpec :=
  ⟨0x2050, 1, 3, 3, .u8, .rw, true, .guarded, 2, 255, none, .fixed 8⟩

/-- `fn_mac` (16, object 0x2050:04): OCTETS (6), RO, VOLATILE, default —. -/
def Ob.fn_mac : ObjSpec :=
  ⟨0x2050, 1, 4, 4, .octets, .ro, false, .openWrite, 6, 6, none, .fixed 0⟩

/-- `opdun_idle_ticks` (16, object 0x2051:01): U64, RW, PERSIST, default 1,500,000,000 (60 s). -/
def Ob.opdun_idle_ticks : ObjSpec :=
  ⟨0x2051, 1, 1, 1, .u64, .rw, true, .openWrite, 25000000, 90000000000, none, .fixed 1500000000⟩

/-- `opdun_frag_ticks` (16, object 0x2051:02): U32, RW, PERSIST, default 250,000 (10 ms). -/
def Ob.opdun_frag_ticks : ObjSpec :=
  ⟨0x2051, 1, 2, 2, .u32, .rw, true, .openWrite, 25000, 2500000, none, .fixed 250000⟩

/-- `opdun_assocs` (16, object 0x2051:03): U8, RO, VOLATILE, default 0. -/
def Ob.opdun_assocs : ObjSpec :=
  ⟨0x2051, 1, 3, 3, .u8, .ro, false, .openWrite, 0, 255, none, .fixed 0⟩

/-- `cnt_legacy_ignored` (16, object 0x2051:04): U64, RO, VOLATILE, default 0. -/
def Ob.cnt_legacy_ignored : ObjSpec :=
  ⟨0x2051, 1, 4, 4, .u64, .ro, false, .openWrite, 0, 18446744073709551615, none, .fixed 0⟩

/-- `handle_cam_quota` (02, object 0x2060:01): U32, RWF, PERSIST, default 262,144. -/
def Ob.handle_cam_quota : ObjSpec :=
  ⟨0x2060, 1, 1, 1, .u32, .rwf, true, .openWrite, 0, 524288, none, .fixed 262144⟩

/-- `ck_store` (13, object 0x2070:01): OCTETS (16), RW, PERSIST, default all zero. -/
def Ob.ck_store : ObjSpec :=
  ⟨0x2070, 1, 1, 1, .octets, .rw, true, .guarded, 16, 16, none, .fixed 0⟩

/-- `ck_keep` (13, object 0x2070:02): U8, RW, PERSIST, default 2. -/
def Ob.ck_keep : ObjSpec :=
  ⟨0x2070, 1, 2, 2, .u8, .rw, true, .openWrite, 1, 16, none, .fixed 2⟩

/-- `ck_stage_tiles` (13, object 0x2070:03): U32, RWF, PERSIST, default 262,144. -/
def Ob.ck_stage_tiles : ObjSpec :=
  ⟨0x2070, 1, 3, 3, .u32, .rwf, true, .openWrite, 4096, 1048576, none, .fixed 262144⟩

/-- `ck_stage_reserve` (13, object 0x2070:04): U32, RWF, PERSIST, default 32,768. -/
def Ob.ck_stage_reserve : ObjSpec :=
  ⟨0x2070, 1, 4, 4, .u32, .rwf, true, .openWrite, 1024, 524288, none, .fixed 32768⟩

/-- `ck_command` (13, object 0x2070:05): U8, WO, default —. -/
def Ob.ck_command : ObjSpec :=
  ⟨0x2070, 1, 5, 5, .u8, .wo, false, .guarded, 1, 2, none, .fixed 0⟩

/-- `ck_id` (13, object 0x2070:06): U64, RW, VOLATILE, default 0. -/
def Ob.ck_id : ObjSpec :=
  ⟨0x2070, 1, 6, 6, .u64, .rw, false, .openWrite, 1, 18446744073709551615, none, .fixed 0⟩

/-- `ck_frame` (13, object 0x2070:07): U64, RW, VOLATILE, default 0. -/
def Ob.ck_frame : ObjSpec :=
  ⟨0x2070, 1, 7, 7, .u64, .rw, false, .openWrite, 0, 18446744073709551615, none, .fixed 0⟩

/-- `ck_status` (13, object 0x2070:08): U16, RO, VOLATILE, default 0. -/
def Ob.ck_status : ObjSpec :=
  ⟨0x2070, 1, 8, 8, .u16, .ro, false, .openWrite, 0, 65535, none, .fixed 0⟩

/-- `ck_state` (13, object 0x2070:09): U16, RO, VOLATILE, default 0. -/
def Ob.ck_state : ObjSpec :=
  ⟨0x2070, 1, 9, 9, .u16, .ro, false, .openWrite, 0, 65535, none, .fixed 0⟩

/-- `ck_progress` (13, object 0x2070:0A): U64, RO, VOLATILE, default 0. -/
def Ob.ck_progress : ObjSpec :=
  ⟨0x2070, 1, 10, 10, .u64, .ro, false, .openWrite, 0, 18446744073709551615, none, .fixed 0⟩

/-- `rs_source` (13, object 0x2071:01): U64, RW, VOLATILE, default 0. -/
def Ob.rs_source : ObjSpec :=
  ⟨0x2071, 1, 1, 1, .u64, .rw, false, .guarded, 0, 18446744073709551615, none, .fixed 0⟩

/-- `rs_command` (13, object 0x2071:02): U8, WO, default —. -/
def Ob.rs_command : ObjSpec :=
  ⟨0x2071, 1, 2, 2, .u8, .wo, false, .guarded, 1, 1, none, .fixed 0⟩

/-- `rs_status` (13, object 0x2071:03): U16, RO, VOLATILE, default 0. -/
def Ob.rs_status : ObjSpec :=
  ⟨0x2071, 1, 3, 3, .u16, .ro, false, .openWrite, 0, 65535, none, .fixed 0⟩

/-- `rs_refused` (13, object 0x2071:04): OCTETS (16), RO, VOLATILE, default all zero. -/
def Ob.rs_refused : ObjSpec :=
  ⟨0x2071, 1, 4, 4, .octets, .ro, false, .openWrite, 16, 16, none, .fixed 0⟩

/-- `rs_restored_id` (13, object 0x2071:05): U64, RO, VOLATILE, default 0. -/
def Ob.rs_restored_id : ObjSpec :=
  ⟨0x2071, 1, 5, 5, .u64, .ro, false, .openWrite, 0, 18446744073709551615, none, .fixed 0⟩

/-- `cal_time` (16, object 0x2080:01): TIME, RO, VOLATILE, default —. -/
def Ob.cal_time : ObjSpec :=
  ⟨0x2080, 1, 1, 1, .time, .ro, false, .openWrite, 0, 18446744073709551615, none, .fixed 0⟩

/-- `cal_set` (16, object 0x2080:02): TIME, WO, default —. -/
def Ob.cal_set : ObjSpec :=
  ⟨0x2080, 1, 2, 2, .time, .wo, false, .guarded, 0, 18446744073709551615, none, .fixed 0⟩

/-- `cal_valid` (16, object 0x2080:03): BOOL, RO, VOLATILE, default —. -/
def Ob.cal_valid : ObjSpec :=
  ⟨0x2080, 1, 3, 3, .bool, .ro, false, .openWrite, 0, 1, none, .fixed 0⟩

/-- `cal_anchor` (16, object 0x2080:04): OCTETS (24), RO, VOLATILE, default —. -/
def Ob.cal_anchor : ObjSpec :=
  ⟨0x2080, 1, 4, 4, .octets, .ro, false, .openWrite, 24, 24, none, .fixed 0⟩

/-- `cnt_cal_step` (16, object 0x2080:05): U64, RO, VOLATILE, default 0. -/
def Ob.cnt_cal_step : ObjSpec :=
  ⟨0x2080, 1, 5, 5, .u64, .ro, false, .openWrite, 0, 18446744073709551615, none, .fixed 0⟩

/-- `pk_open_t1` (03, object 0x21cc:01): U64, RW, PERSIST, default 25,000,000 (1 s). -/
def Ob.pk_open_t1 : ObjSpec :=
  ⟨0x2100, 16, 1, 1, .u64, .rw, true, .openWrite, 0, 281474976710655, none, .fixed 25000000⟩

/-- `pk_wait_t1` (03, object 0x21cc:02): U64, RW, PERSIST, default 2,500,000 (100 ms). -/
def Ob.pk_wait_t1 : ObjSpec :=
  ⟨0x2100, 16, 2, 2, .u64, .rw, true, .openWrite, 0, 281474976710655, none, .fixed 2500000⟩

/-- `pk_t2_dwell` (03, object 0x21cc:03): U64, RW, PERSIST, default 0. -/
def Ob.pk_t2_dwell : ObjSpec :=
  ⟨0x2100, 16, 3, 3, .u64, .rw, true, .openWrite, 0, 281474976710655, none, .fixed 0⟩

/-- `pk_lower` (03, object 0x21cc:04): U8, RW, PERSIST, default 0. -/
def Ob.pk_lower : ObjSpec :=
  ⟨0x2100, 16, 4, 4, .u8, .rw, true, .openWrite, 0, 1, none, .fixed 0⟩

/-- `pk_t3_station` (03, object 0x21cc:05): U16, RW, PERSIST, default 0xFFFF. -/
def Ob.pk_t3_station : ObjSpec :=
  ⟨0x2100, 16, 5, 5, .u16, .rw, true, .openWrite, 0, 255, (some 65535), .fixed 65535⟩

/-- `pk_rank` (03, object 0x21cc:06): U8, RW, PERSIST, default cc. -/
def Ob.pk_rank : ObjSpec :=
  ⟨0x2100, 16, 6, 6, .u8, .rw, true, .openWrite, 0, 15, none, .index⟩

/-- `t1_low_water` (03, object 0x2110:01): U8, RWF, PERSIST, default 10. -/
def Ob.t1_low_water : ObjSpec :=
  ⟨0x2110, 1, 1, 1, .u8, .rwf, true, .openWrite, 1, 50, none, .fixed 10⟩

/-- `t1_high_water` (03, object 0x2110:02): U8, RWF, PERSIST, default 15. -/
def Ob.t1_high_water : ObjSpec :=
  ⟨0x2110, 1, 2, 2, .u8, .rwf, true, .openWrite, 0, 60, none, .fixed 15⟩

/-- `t2_low_water` (03, object 0x2110:03): U8, RWF, PERSIST, default 5. -/
def Ob.t2_low_water : ObjSpec :=
  ⟨0x2110, 1, 3, 3, .u8, .rwf, true, .openWrite, 1, 50, none, .fixed 5⟩

/-- `t2_high_water` (03, object 0x2110:04): U8, RWF, PERSIST, default 8. -/
def Ob.t2_high_water : ObjSpec :=
  ⟨0x2110, 1, 4, 4, .u8, .rwf, true, .openWrite, 0, 60, none, .fixed 8⟩

/-- `t3_timeout` (03, object 0x2110:05): U32, RW, PERSIST, default 250,000 (10 ms). -/
def Ob.t3_timeout : ObjSpec :=
  ⟨0x2110, 1, 5, 5, .u32, .rw, true, .openWrite, 2500, 25000000, none, .fixed 250000⟩

/-- `t4_timeout` (03, object 0x2110:06): U32, RW, PERSIST, default 125,000 (5 ms). -/
def Ob.t4_timeout : ObjSpec :=
  ⟨0x2110, 1, 6, 6, .u32, .rw, true, .openWrite, 2500, 25000000, none, .fixed 125000⟩

/-- `snap_epoch_h0` (03, object 0x2110:07): U16, RO, VOLATILE, default 0. -/
def Ob.snap_epoch_h0 : ObjSpec :=
  ⟨0x2110, 1, 7, 7, .u16, .ro, false, .openWrite, 0, 65535, none, .fixed 0⟩

/-- `snap_epoch_h1` (03, object 0x2110:08): U16, RO, VOLATILE, default 0. -/
def Ob.snap_epoch_h1 : ObjSpec :=
  ⟨0x2110, 1, 8, 8, .u16, .ro, false, .openWrite, 0, 65535, none, .fixed 0⟩

/-- `t1_slots_free` (03, object 0x2110:09): U64, RO, VOLATILE, default —. -/
def Ob.t1_slots_free : ObjSpec :=
  ⟨0x2110, 1, 9, 9, .u64, .ro, false, .openWrite, 0, 18446744073709551615, none, .fixed 0⟩

/-- `t2_system_rows` (03, object 0x2110:0A): U32, RO, VOLATILE, default —. -/
def Ob.t2_system_rows : ObjSpec :=
  ⟨0x2110, 1, 10, 10, .u32, .ro, false, .openWrite, 0, 4294967295, none, .fixed 0⟩

/-- `gl_entries` (11, object 0x212h:01): OCTETS (16–1,024), RW, VOLATILE, default empty. -/
def Ob.gl_entries : ObjSpec :=
  ⟨0x2120, 2, 1, 1, .octets, .rw, false, .guarded, 16, 1024, none, .fixed 0⟩

/-- `gl_takeover` (11, object 0x212h:02): U64, RW, VOLATILE, default 0. -/
def Ob.gl_takeover : ObjSpec :=
  ⟨0x2120, 2, 2, 2, .u64, .rw, false, .guarded, 0, 18446744073709551615, none, .fixed 0⟩

/-- `gl_command` (11, object 0x212h:03): U8, WO, default —. -/
def Ob.gl_command : ObjSpec :=
  ⟨0x2120, 2, 3, 3, .u8, .wo, false, .guarded, 1, 1, none, .fixed 0⟩

/-- `gl_status` (11, object 0x212h:04): U16, RO, VOLATILE, default 0. -/
def Ob.gl_status : ObjSpec :=
  ⟨0x2120, 2, 4, 4, .u16, .ro, false, .openWrite, 0, 65535, none, .fixed 0⟩

/-- `v_time` (11, object 0x212h:05): U64, RO, VOLATILE, default 0. -/
def Ob.v_time : ObjSpec :=
  ⟨0x2120, 2, 5, 5, .u64, .ro, false, .openWrite, 0, 18446744073709551615, none, .fixed 0⟩

/-- `t2_channel_state` (12, object 0x2130:01-18): U8, RO, VOLATILE, default 0. -/
def Ob.t2_channel_state : ObjSpec :=
  ⟨0x2130, 1, 1, 24, .u8, .ro, false, .openWrite, 0, 255, none, .fixed 0⟩

/-- `t2_channel_command` (12, object 0x2131:01): U16, WO, default —. -/
def Ob.t2_channel_command : ObjSpec :=
  ⟨0x2131, 1, 1, 1, .u16, .wo, false, .guarded, 0, 65535, none, .fixed 0⟩

/-- `t2_rebuild_share` (12, object 0x2131:02): U8, RW, PERSIST, default 25. -/
def Ob.t2_rebuild_share : ObjSpec :=
  ⟨0x2131, 1, 2, 2, .u8, .rw, true, .openWrite, 1, 100, none, .fixed 25⟩

/-- `t2_rebuild_pos` (12, object 0x2131:03): U64, RO, VOLATILE, default all ones. -/
def Ob.t2_rebuild_pos : ObjSpec :=
  ⟨0x2131, 1, 3, 3, .u64, .ro, false, .openWrite, 0, 18446744073709551615, none, .fixed 18446744073709551615⟩

/-- `t2_channel_status` (12, object 0x2131:04): U16, RO, VOLATILE, default 0. -/
def Ob.t2_channel_status : ObjSpec :=
  ⟨0x2131, 1, 4, 4, .u16, .ro, false, .openWrite, 0, 65535, none, .fixed 0⟩

/-- `ue_rows_limit` (12, object 0x2131:05): U16, RW, PERSIST, default 16. -/
def Ob.ue_rows_limit : ObjSpec :=
  ⟨0x2131, 1, 5, 5, .u16, .rw, true, .openWrite, 1, 1024, none, .fixed 16⟩

/-- `ue_window` (12, object 0x2131:06): U64, RW, PERSIST, default 25,000,000 (1 s). -/
def Ob.ue_window : ObjSpec :=
  ⟨0x2131, 1, 6, 6, .u64, .rw, true, .openWrite, 25000, 2500000000, none, .fixed 25000000⟩

/-- `t1_stack_state` (12, object 0x2132:01-08): U8, RO, VOLATILE, default 0. -/
def Ob.t1_stack_state : ObjSpec :=
  ⟨0x2132, 1, 1, 8, .u8, .ro, false, .openWrite, 0, 255, none, .fixed 0⟩

/-- `tn_select` (11, object 0x2200:01): U16, RW, VOLATILE, default 0. -/
def Ob.tn_select : ObjSpec :=
  ⟨0x2200, 1, 1, 1, .u16, .rw, false, .openWrite, 0, 4095, none, .fixed 0⟩

/-- `tn_weight` (11, object 0x2200:02): U16, RWF, PERSIST, default 1. -/
def Ob.tn_weight : ObjSpec :=
  ⟨0x12000, 4096, 2, 2, .u16, .rwf, true, .guarded, 1, 65535, none, .fixed 1⟩

/-- `ar_insert` (11, object 0x2210:01): OCTETS (40), WO, default —. -/
def Ob.ar_insert : ObjSpec :=
  ⟨0x2210, 1, 1, 1, .octets, .wo, false, .guarded, 40, 40, none, .fixed 0⟩

/-- `ar_remove` (11, object 0x2210:02): U16, WO, default —. -/
def Ob.ar_remove : ObjSpec :=
  ⟨0x2210, 1, 2, 2, .u16, .wo, false, .guarded, 1, 65535, none, .fixed 0⟩

/-- `ar_status` (11, object 0x2210:03): U16, RO, VOLATILE, default 0. -/
def Ob.ar_status : ObjSpec :=
  ⟨0x2210, 1, 3, 3, .u16, .ro, false, .openWrite, 0, 65535, none, .fixed 0⟩

/-- `stn_privileged` (15, object 0x31ss:01): BOOL, RW, PERSIST, default 1 for ss = 0x00; else 0. -/
def Ob.stn_privileged : ObjSpec :=
  ⟨0x3100, 256, 1, 1, .bool, .rw, true, .guarded, 0, 1, none, .firstOnly⟩

/-- `stn_field_book` (15, object 0x31ss:02): U8, RW, PERSIST, default 0. -/
def Ob.stn_field_book : ObjSpec :=
  ⟨0x3100, 256, 2, 2, .u8, .rw, true, .guarded, 0, 2, none, .fixed 0⟩

/-- `stn_cancel_policy` (15, object 0x31ss:03): U8, RW, PERSIST, default 0. -/
def Ob.stn_cancel_policy : ObjSpec :=
  ⟨0x3100, 256, 3, 3, .u8, .rw, true, .guarded, 0, 1, none, .fixed 0⟩

/-- `stn_revive_default` (15, object 0x31ss:04): U8, RW, PERSIST, default 0. -/
def Ob.stn_revive_default : ObjSpec :=
  ⟨0x3100, 256, 4, 4, .u8, .rw, true, .guarded, 0, 1, none, .fixed 0⟩

/-- `stn_session_max` (02, object 0x31ss:05): U32, RW, PERSIST, default 1,048,576. -/
def Ob.stn_session_max : ObjSpec :=
  ⟨0x3100, 256, 5, 5, .u32, .rw, true, .openWrite, 0, 16777216, none, .fixed 1048576⟩

/-- `stn_prefix_max` (02, object 0x31ss:06): U32, RW, PERSIST, default 4,096. -/
def Ob.stn_prefix_max : ObjSpec :=
  ⟨0x3100, 256, 6, 6, .u32, .rw, true, .openWrite, 0, 65536, none, .fixed 4096⟩

/-- `stn_wait_ticks` (02, object 0x31ss:07): U64, RW, PERSIST, default 90,000,000,000 (1 hour). -/
def Ob.stn_wait_ticks : ObjSpec :=
  ⟨0x3100, 256, 7, 7, .u64, .rw, true, .openWrite, 0, 281474976710655, none, .fixed 90000000000⟩

/-- `stn_seq_high` (12, object 0x31ss:08): U64, RO, VOLATILE, default 0. -/
def Ob.stn_seq_high : ObjSpec :=
  ⟨0x3100, 256, 8, 8, .u64, .ro, false, .openWrite, 0, 18446744073709551615, none, .fixed 0⟩

/-- `stn_slice` (14, object 0x31ss:09): U16, RW, PERSIST, default 0. -/
def Ob.stn_slice : ObjSpec :=
  ⟨0x3100, 256, 9, 9, .u16, .rw, true, .openWrite, 0, 255, none, .fixed 0⟩

/-- `stn_module` (15, object 0x31ss:0A): U8, RW, PERSIST, default ss mod 8. -/
def Ob.stn_module : ObjSpec :=
  ⟨0x3100, 256, 10, 10, .u8, .rw, true, .guarded, 0, 7, none, .indexMod8⟩

/-- `stn_intake_kib` (15, object 0x31ss:0B): U16, RW, PERSIST, default 64. -/
def Ob.stn_intake_kib : ObjSpec :=
  ⟨0x3100, 256, 11, 11, .u16, .rw, true, .openWrite, 4, 256, none, .fixed 64⟩

/-- `stn_host_read_ticks` (15, object 0x31ss:0C): U32, RW, PERSIST, default 2,500 (100 µs). -/
def Ob.stn_host_read_ticks : ObjSpec :=
  ⟨0x3100, 256, 12, 12, .u32, .rw, true, .openWrite, 250, 250000, none, .fixed 2500⟩

/-- `stn_state` (15, object 0x31ss:0D): U8, RO, VOLATILE, default 0. -/
def Ob.stn_state : ObjSpec :=
  ⟨0x3100, 256, 13, 13, .u8, .ro, false, .openWrite, 0, 255, none, .fixed 0⟩

/-- `stn_cnt_intake_drop` (15, object 0x31ss:0E): U64, RO, VOLATILE, default 0. -/
def Ob.stn_cnt_intake_drop : ObjSpec :=
  ⟨0x3100, 256, 14, 14, .u64, .ro, false, .openWrite, 0, 18446744073709551615, none, .fixed 0⟩

/-- `stn_cnt_events_lost` (15, object 0x31ss:0F): U64, RO, VOLATILE, default 0. -/
def Ob.stn_cnt_events_lost : ObjSpec :=
  ⟨0x3100, 256, 15, 15, .u64, .ro, false, .openWrite, 0, 18446744073709551615, none, .fixed 0⟩

/-- `stn_cnt_hb_missed` (15, object 0x31ss:10): U64, RO, VOLATILE, default 0. -/
def Ob.stn_cnt_hb_missed : ObjSpec :=
  ⟨0x3100, 256, 16, 16, .u64, .ro, false, .openWrite, 0, 18446744073709551615, none, .fixed 0⟩

/-- `stn_t3_extent` (03, object 0x32ss:01-10): OCTETS (16), RW, VOLATILE, default all zero. -/
def Ob.stn_t3_extent : ObjSpec :=
  ⟨0x3200, 256, 1, 16, .octets, .rw, false, .openWrite, 16, 16, none, .fixed 0⟩

/-- `stn_tool_head` (07, object 0x33ss:01): U32, RW, PERSIST, default 8,192. -/
def Ob.stn_tool_head : ObjSpec :=
  ⟨0x3300, 256, 1, 1, .u32, .rw, true, .openWrite, 0, 1048576, none, .fixed 8192⟩

/-- `stn_tool_tail` (07, object 0x33ss:02): U32, RW, PERSIST, default 8,192. -/
def Ob.stn_tool_tail : ObjSpec :=
  ⟨0x3300, 256, 2, 2, .u32, .rw, true, .openWrite, 0, 1048576, none, .fixed 8192⟩

/-- `stn_tool_marker` (07, object 0x33ss:03): OCTETS (65), RW, PERSIST, default all zero. -/
def Ob.stn_tool_marker : ObjSpec :=
  ⟨0x3300, 256, 3, 3, .octets, .rw, true, .openWrite, 65, 65, none, .fixed 0⟩

/-- `stn_sync_max` (10, object 0x34ss:01): U16, RW, PERSIST, default 64. -/
def Ob.stn_sync_max : ObjSpec :=
  ⟨0x3400, 256, 1, 1, .u16, .rw, true, .openWrite, 0, 1024, none, .fixed 64⟩

/-- `stn_sync_define` (10, object 0x34ss:02): OCTETS (8), WO, default —. -/
def Ob.stn_sync_define : ObjSpec :=
  ⟨0x3400, 256, 2, 2, .octets, .wo, false, .openWrite, 8, 8, none, .fixed 0⟩

/-- `stn_sync_op` (10, object 0x34ss:03): OCTETS (8), WO, default —. -/
def Ob.stn_sync_op : ObjSpec :=
  ⟨0x3400, 256, 3, 3, .octets, .wo, false, .openWrite, 8, 8, none, .fixed 0⟩

/-- `stn_sync_select` (10, object 0x34ss:04): U16, RW, VOLATILE, default 0. -/
def Ob.stn_sync_select : ObjSpec :=
  ⟨0x3400, 256, 4, 4, .u16, .rw, false, .openWrite, 0, 1023, none, .fixed 0⟩

/-- `stn_sync_state` (10, object 0x34ss:05): OCTETS (16), RO, VOLATILE, default —. -/
def Ob.stn_sync_state : ObjSpec :=
  ⟨0x3400, 256, 5, 5, .octets, .ro, false, .openWrite, 16, 16, none, .fixed 0⟩

/-- `stn_sync_gate_ticks` (10, object 0x34ss:06): U64, RW, PERSIST, default 90,000,000,000 (1 hour). -/
def Ob.stn_sync_gate_ticks : ObjSpec :=
  ⟨0x3400, 256, 6, 6, .u64, .rw, true, .openWrite, 1, 281474976710655, none, .fixed 90000000000⟩

/-- `stn_sync_status` (10, object 0x34ss:07): U16, RO, VOLATILE, default 0. -/
def Ob.stn_sync_status : ObjSpec :=
  ⟨0x3400, 256, 7, 7, .u16, .ro, false, .openWrite, 0, 65535, none, .fixed 0⟩

/-- `stn_tenant_first` (11, object 0x35ss:01): U16, RW, PERSIST, default ss. -/
def Ob.stn_tenant_first : ObjSpec :=
  ⟨0x3500, 256, 1, 1, .u16, .rw, true, .openWrite, 0, 4095, none, .index⟩

/-- `stn_tenant_count` (11, object 0x35ss:02): U16, RW, PERSIST, default 1. -/
def Ob.stn_tenant_count : ObjSpec :=
  ⟨0x3500, 256, 2, 2, .u16, .rw, true, .openWrite, 1, 4096, none, .fixed 1⟩

/-- `stn_defer_ticks` (11, object 0x35ss:03): U32, RW, PERSIST, default 250,000 (10 ms). -/
def Ob.stn_defer_ticks : ObjSpec :=
  ⟨0x3500, 256, 3, 3, .u32, .rw, true, .openWrite, 1, 25000000, none, .fixed 250000⟩

/-- `stn_step_rate` (11, object 0x35ss:10): U32, RW, PERSIST, default 0xFFFFFFFF. -/
def Ob.stn_step_rate : ObjSpec :=
  ⟨0x3500, 256, 16, 16, .u32, .rw, true, .openWrite, 0, 4294967295, none, .fixed 4294967295⟩

/-- `stn_step_burst` (11, object 0x35ss:11): U32, RW, PERSIST, default 0xFFFFFFFF. -/
def Ob.stn_step_burst : ObjSpec :=
  ⟨0x3500, 256, 17, 17, .u32, .rw, true, .openWrite, 0, 4294967295, none, .fixed 4294967295⟩

/-- `stn_step_action` (11, object 0x35ss:12): U8, RW, PERSIST, default 0. -/
def Ob.stn_step_action : ObjSpec :=
  ⟨0x3500, 256, 18, 18, .u8, .rw, true, .openWrite, 0, 1, none, .fixed 0⟩

/-- `stn_step_level` (11, object 0x35ss:13): I64, RO, VOLATILE, default Burst (R381); 0 while unlimited. -/
def Ob.stn_step_level : ObjSpec :=
  ⟨0x3500, 256, 19, 19, .i64, .ro, false, .openWrite, 0, 18446744073709551615, none, .fixed 0⟩

/-- `stn_revive_rate` (11, object 0x35ss:14): U32, RW, PERSIST, default 0xFFFFFFFF. -/
def Ob.stn_revive_rate : ObjSpec :=
  ⟨0x3500, 256, 20, 20, .u32, .rw, true, .openWrite, 0, 4294967295, none, .fixed 4294967295⟩

/-- `stn_revive_burst` (11, object 0x35ss:15): U32, RW, PERSIST, default 0xFFFFFFFF. -/
def Ob.stn_revive_burst : ObjSpec :=
  ⟨0x3500, 256, 21, 21, .u32, .rw, true, .openWrite, 0, 4294967295, none, .fixed 4294967295⟩

/-- `stn_revive_level` (11, object 0x35ss:16): I64, RO, VOLATILE, default As `stn_step_level`. -/
def Ob.stn_revive_level : ObjSpec :=
  ⟨0x3500, 256, 22, 22, .i64, .ro, false, .openWrite, 0, 18446744073709551615, none, .fixed 0⟩

/-- `stn_park_rate` (11, object 0x35ss:17): U32, RW, PERSIST, default 0xFFFFFFFF. -/
def Ob.stn_park_rate : ObjSpec :=
  ⟨0x3500, 256, 23, 23, .u32, .rw, true, .openWrite, 0, 4294967295, none, .fixed 4294967295⟩

/-- `stn_park_burst` (11, object 0x35ss:18): U32, RW, PERSIST, default 0xFFFFFFFF. -/
def Ob.stn_park_burst : ObjSpec :=
  ⟨0x3500, 256, 24, 24, .u32, .rw, true, .openWrite, 0, 4294967295, none, .fixed 4294967295⟩

/-- `stn_park_level` (11, object 0x35ss:19): I64, RO, VOLATILE, default As `stn_step_level`. -/
def Ob.stn_park_level : ObjSpec :=
  ⟨0x3500, 256, 25, 25, .i64, .ro, false, .openWrite, 0, 18446744073709551615, none, .fixed 0⟩

/-- `stn_query_rate` (11, object 0x35ss:1A): U32, RW, PERSIST, default 0xFFFFFFFF. -/
def Ob.stn_query_rate : ObjSpec :=
  ⟨0x3500, 256, 26, 26, .u32, .rw, true, .openWrite, 0, 4294967295, none, .fixed 4294967295⟩

/-- `stn_query_burst` (11, object 0x35ss:1B): U32, RW, PERSIST, default 0xFFFFFFFF. -/
def Ob.stn_query_burst : ObjSpec :=
  ⟨0x3500, 256, 27, 27, .u32, .rw, true, .openWrite, 0, 4294967295, none, .fixed 4294967295⟩

/-- `stn_query_action` (11, object 0x35ss:1C): U8, RW, PERSIST, default 0. -/
def Ob.stn_query_action : ObjSpec :=
  ⟨0x3500, 256, 28, 28, .u8, .rw, true, .openWrite, 0, 1, none, .fixed 0⟩

/-- `stn_query_level` (11, object 0x35ss:1D): I64, RO, VOLATILE, default As `stn_step_level`. -/
def Ob.stn_query_level : ObjSpec :=
  ⟨0x3500, 256, 29, 29, .i64, .ro, false, .openWrite, 0, 18446744073709551615, none, .fixed 0⟩

/-- `stn_cap_nonce` (16, object 0x36ss:01): OCTETS (16), RO, VOLATILE, default —. -/
def Ob.stn_cap_nonce : ObjSpec :=
  ⟨0x3600, 256, 1, 1, .octets, .ro, false, .openWrite, 16, 16, none, .fixed 0⟩

/-- `stn_cap_stage` (16, object 0x36ss:02): OCTETS (1–1,056), WO, default —. -/
def Ob.stn_cap_stage : ObjSpec :=
  ⟨0x3600, 256, 2, 2, .octets, .wo, false, .openWrite, 1, 1056, none, .fixed 0⟩

/-- `stn_cap_state` (16, object 0x36ss:03): U8, RO, VOLATILE, default 0. -/
def Ob.stn_cap_state : ObjSpec :=
  ⟨0x3600, 256, 3, 3, .u8, .ro, false, .openWrite, 0, 255, none, .fixed 0⟩

/-- `cnt_owner_tag_drop` (03, object 0x410h:01): U64, RO, VOLATILE, default 0. -/
def Ob.cnt_owner_tag_drop : ObjSpec :=
  ⟨0x4100, 2, 1, 1, .u64, .ro, false, .openWrite, 0, 18446744073709551615, none, .fixed 0⟩

/-- `cnt_copy_first` (03, object 0x410h:02): U64, RO, VOLATILE, default 0. -/
def Ob.cnt_copy_first : ObjSpec :=
  ⟨0x4100, 2, 2, 2, .u64, .ro, false, .openWrite, 0, 18446744073709551615, none, .fixed 0⟩

/-- `cnt_t1_fallback` (03, object 0x410h:03): U64, RO, VOLATILE, default 0. -/
def Ob.cnt_t1_fallback : ObjSpec :=
  ⟨0x4100, 2, 3, 3, .u64, .ro, false, .openWrite, 0, 18446744073709551615, none, .fixed 0⟩

/-- `cnt_parity_repair` (03, object 0x410h:04): U64, RO, VOLATILE, default 0. -/
def Ob.cnt_parity_repair : ObjSpec :=
  ⟨0x4100, 2, 4, 4, .u64, .ro, false, .openWrite, 0, 18446744073709551615, none, .fixed 0⟩

/-- `cnt_tile_lost` (03, object 0x410h:05): U64, RO, VOLATILE, default 0. -/
def Ob.cnt_tile_lost : ObjSpec :=
  ⟨0x4100, 2, 5, 5, .u64, .ro, false, .openWrite, 0, 18446744073709551615, none, .fixed 0⟩

/-- `cnt_format_version` (03, object 0x410h:06): U64, RO, VOLATILE, default 0. -/
def Ob.cnt_format_version : ObjSpec :=
  ⟨0x4100, 2, 6, 6, .u64, .ro, false, .openWrite, 0, 18446744073709551615, none, .fixed 0⟩

/-- `cnt_t3_t4_timeout` (03, object 0x410h:07): U64, RO, VOLATILE, default 0. -/
def Ob.cnt_t3_t4_timeout : ObjSpec :=
  ⟨0x4100, 2, 7, 7, .u64, .ro, false, .openWrite, 0, 18446744073709551615, none, .fixed 0⟩

/-- `cnt_shadow_reclaim` (03, object 0x410h:08): U64, RO, VOLATILE, default 0. -/
def Ob.cnt_shadow_reclaim : ObjSpec :=
  ⟨0x4100, 2, 8, 8, .u64, .ro, false, .openWrite, 0, 18446744073709551615, none, .fixed 0⟩

/-- `pad_tiles` (03, object 0x410h:09): U64, RO, VOLATILE, default 0. -/
def Ob.pad_tiles : ObjSpec :=
  ⟨0x4100, 2, 9, 9, .u64, .ro, false, .openWrite, 0, 18446744073709551615, none, .fixed 0⟩

/-- `cnt_pressure_park` (03, object 0x410h:0A): U64, RO, VOLATILE, default 0. -/
def Ob.cnt_pressure_park : ObjSpec :=
  ⟨0x4100, 2, 10, 10, .u64, .ro, false, .openWrite, 0, 18446744073709551615, none, .fixed 0⟩

/-- `cnt_t1_exhausted` (03, object 0x410h:0B): U64, RO, VOLATILE, default 0. -/
def Ob.cnt_t1_exhausted : ObjSpec :=
  ⟨0x4100, 2, 11, 11, .u64, .ro, false, .openWrite, 0, 18446744073709551615, none, .fixed 0⟩

/-- `cnt_queue_full` (03, object 0x410h:0C): U64, RO, VOLATILE, default 0. -/
def Ob.cnt_queue_full : ObjSpec :=
  ⟨0x4100, 2, 12, 12, .u64, .ro, false, .openWrite, 0, 18446744073709551615, none, .fixed 0⟩

/-- `cnt_deadline_miss` (03, object 0x410h:0D): U64, RO, VOLATILE, default 0. -/
def Ob.cnt_deadline_miss : ObjSpec :=
  ⟨0x4100, 2, 13, 13, .u64, .ro, false, .openWrite, 0, 18446744073709551615, none, .fixed 0⟩

/-- `move_completion_log` (03, object 0x410h:10): OCTETS (16), RO, VOLATILE, default —. -/
def Ob.move_completion_log : ObjSpec :=
  ⟨0x4100, 2, 16, 16, .octets, .ro, false, .openWrite, 16, 16, none, .fixed 0⟩

/-- `cnt_kv_appends` (06, object 0x412h:01): U64, RO, VOLATILE, default 0. -/
def Ob.cnt_kv_appends : ObjSpec :=
  ⟨0x4120, 2, 1, 1, .u64, .ro, false, .openWrite, 0, 18446744073709551615, none, .fixed 0⟩

/-- `cnt_kv_tiles_gathered` (06, object 0x412h:02): U64, RO, VOLATILE, default 0. -/
def Ob.cnt_kv_tiles_gathered : ObjSpec :=
  ⟨0x4120, 2, 2, 2, .u64, .ro, false, .openWrite, 0, 18446744073709551615, none, .fixed 0⟩

/-- `cnt_kv_blocks_skipped` (06, object 0x412h:03): U64, RO, VOLATILE, default 0. -/
def Ob.cnt_kv_blocks_skipped : ObjSpec :=
  ⟨0x4120, 2, 3, 3, .u64, .ro, false, .openWrite, 0, 18446744073709551615, none, .fixed 0⟩

/-- `cnt_kv_cleanup_rows` (06, object 0x412h:04): U64, RO, VOLATILE, default 0. -/
def Ob.cnt_kv_cleanup_rows : ObjSpec :=
  ⟨0x4120, 2, 4, 4, .u64, .ro, false, .openWrite, 0, 18446744073709551615, none, .fixed 0⟩

/-- `cnt_kv_blocks_returned` (06, object 0x412h:05): U64, RO, VOLATILE, default 0. -/
def Ob.cnt_kv_blocks_returned : ObjSpec :=
  ⟨0x4120, 2, 5, 5, .u64, .ro, false, .openWrite, 0, 18446744073709551615, none, .fixed 0⟩

/-- `cnt_kv_gather_fault` (06, object 0x412h:06): U64, RO, VOLATILE, default 0. -/
def Ob.cnt_kv_gather_fault : ObjSpec :=
  ⟨0x4120, 2, 6, 6, .u64, .ro, false, .openWrite, 0, 18446744073709551615, none, .fixed 0⟩

/-- `cnt_kv_blocks_allocated` (06, object 0x412h:07): U64, RO, VOLATILE, default 0. -/
def Ob.cnt_kv_blocks_allocated : ObjSpec :=
  ⟨0x4120, 2, 7, 7, .u64, .ro, false, .openWrite, 0, 18446744073709551615, none, .fixed 0⟩

/-- `pt_tiles` (06, object 0x412h:08): U64, RO, VOLATILE, default 0. -/
def Ob.pt_tiles : ObjSpec :=
  ⟨0x4120, 2, 8, 8, .u64, .ro, false, .openWrite, 0, 18446744073709551615, none, .fixed 0⟩

/-- `cnt_weight_shadow_reads` (06, object 0x412h:09): U64, RO, VOLATILE, default 0. -/
def Ob.cnt_weight_shadow_reads : ObjSpec :=
  ⟨0x4120, 2, 9, 9, .u64, .ro, false, .openWrite, 0, 18446744073709551615, none, .fixed 0⟩

/-- `cnt_tokens_drawn` (08, object 0x414h:01): U64, RO, VOLATILE, default 0. -/
def Ob.cnt_tokens_drawn : ObjSpec :=
  ⟨0x4140, 2, 1, 1, .u64, .ro, false, .openWrite, 0, 18446744073709551615, none, .fixed 0⟩

/-- `cnt_drafts_proposed` (08, object 0x414h:02): U64, RO, VOLATILE, default 0. -/
def Ob.cnt_drafts_proposed : ObjSpec :=
  ⟨0x4140, 2, 2, 2, .u64, .ro, false, .openWrite, 0, 18446744073709551615, none, .fixed 0⟩

/-- `cnt_drafts_accepted` (08, object 0x414h:03): U64, RO, VOLATILE, default 0. -/
def Ob.cnt_drafts_accepted : ObjSpec :=
  ⟨0x4140, 2, 3, 3, .u64, .ro, false, .openWrite, 0, 18446744073709551615, none, .fixed 0⟩

/-- `cnt_draft_full_reject` (08, object 0x414h:04): U64, RO, VOLATILE, default 0. -/
def Ob.cnt_draft_full_reject : ObjSpec :=
  ⟨0x4140, 2, 4, 4, .u64, .ro, false, .openWrite, 0, 18446744073709551615, none, .fixed 0⟩

/-- `cnt_draft_len_drop` (08, object 0x414h:05): U64, RO, VOLATILE, default 0. -/
def Ob.cnt_draft_len_drop : ObjSpec :=
  ⟨0x4140, 2, 5, 5, .u64, .ro, false, .openWrite, 0, 18446744073709551615, none, .fixed 0⟩

/-- `cnt_draft_stopped` (08, object 0x414h:06): U64, RO, VOLATILE, default 0. -/
def Ob.cnt_draft_stopped : ObjSpec :=
  ⟨0x4140, 2, 6, 6, .u64, .ro, false, .openWrite, 0, 18446744073709551615, none, .fixed 0⟩

/-- `cnt_draft_absent` (08, object 0x414h:07): U64, RO, VOLATILE, default 0. -/
def Ob.cnt_draft_absent : ObjSpec :=
  ⟨0x4140, 2, 7, 7, .u64, .ro, false, .openWrite, 0, 18446744073709551615, none, .fixed 0⟩

/-- `cnt_draft_discarded` (08, object 0x414h:08): U64, RO, VOLATILE, default 0. -/
def Ob.cnt_draft_discarded : ObjSpec :=
  ⟨0x4140, 2, 8, 8, .u64, .ro, false, .openWrite, 0, 18446744073709551615, none, .fixed 0⟩

/-- `cnt_logit_nan` (08, object 0x414h:09): U64, RO, VOLATILE, default 0. -/
def Ob.cnt_logit_nan : ObjSpec :=
  ⟨0x4140, 2, 9, 9, .u64, .ro, false, .openWrite, 0, 18446744073709551615, none, .fixed 0⟩

/-- `cnt_sample_degenerate` (08, object 0x414h:0A): U64, RO, VOLATILE, default 0. -/
def Ob.cnt_sample_degenerate : ObjSpec :=
  ⟨0x4140, 2, 10, 10, .u64, .ro, false, .openWrite, 0, 18446744073709551615, none, .fixed 0⟩

/-- `cnt_ring_entries` (08, object 0x414h:0B): U64, RO, VOLATILE, default 0. -/
def Ob.cnt_ring_entries : ObjSpec :=
  ⟨0x4140, 2, 11, 11, .u64, .ro, false, .openWrite, 0, 18446744073709551615, none, .fixed 0⟩

/-- `cnt_ring_text_ext` (08, object 0x414h:0C): U64, RO, VOLATILE, default 0. -/
def Ob.cnt_ring_text_ext : ObjSpec :=
  ⟨0x4140, 2, 12, 12, .u64, .ro, false, .openWrite, 0, 18446744073709551615, none, .fixed 0⟩

/-- `cnt_ring_hold` (08, object 0x414h:0D): U64, RO, VOLATILE, default 0. -/
def Ob.cnt_ring_hold : ObjSpec :=
  ⟨0x4140, 2, 13, 13, .u64, .ro, false, .openWrite, 0, 18446744073709551615, none, .fixed 0⟩

/-- `cnt_ring_suppressed` (08, object 0x414h:0E): U64, RO, VOLATILE, default 0. -/
def Ob.cnt_ring_suppressed : ObjSpec :=
  ⟨0x4140, 2, 14, 14, .u64, .ro, false, .openWrite, 0, 18446744073709551615, none, .fixed 0⟩

/-- `cnt_ring_regenerated` (08, object 0x414h:0F): U64, RO, VOLATILE, default 0. -/
def Ob.cnt_ring_regenerated : ObjSpec :=
  ⟨0x4140, 2, 15, 15, .u64, .ro, false, .openWrite, 0, 18446744073709551615, none, .fixed 0⟩

/-- `cnt_ring_index_invalid` (08, object 0x414h:10): U64, RO, VOLATILE, default 0. -/
def Ob.cnt_ring_index_invalid : ObjSpec :=
  ⟨0x4140, 2, 16, 16, .u64, .ro, false, .openWrite, 0, 18446744073709551615, none, .fixed 0⟩

/-- `cnt_hold_discarded` (08, object 0x414h:11): U64, RO, VOLATILE, default 0. -/
def Ob.cnt_hold_discarded : ObjSpec :=
  ⟨0x4140, 2, 17, 17, .u64, .ro, false, .openWrite, 0, 18446744073709551615, none, .fixed 0⟩

/-- `cnt_rate_limited` (11, object 0x415h:01): U64, RO, VOLATILE, default 0. -/
def Ob.cnt_rate_limited : ObjSpec :=
  ⟨0x4150, 2, 1, 1, .u64, .ro, false, .openWrite, 0, 18446744073709551615, none, .fixed 0⟩

/-- `cnt_defer_ticks` (11, object 0x415h:02): U64, RO, VOLATILE, default 0. -/
def Ob.cnt_defer_ticks : ObjSpec :=
  ⟨0x4150, 2, 2, 2, .u64, .ro, false, .openWrite, 0, 18446744073709551615, none, .fixed 0⟩

/-- `cnt_rule_denied` (11, object 0x415h:03): U64, RO, VOLATILE, default 0. -/
def Ob.cnt_rule_denied : ObjSpec :=
  ⟨0x4150, 2, 3, 3, .u64, .ro, false, .openWrite, 0, 18446744073709551615, none, .fixed 0⟩

/-- `cnt_step_deferred` (11, object 0x415h:04): U64, RO, VOLATILE, default 0. -/
def Ob.cnt_step_deferred : ObjSpec :=
  ⟨0x4150, 2, 4, 4, .u64, .ro, false, .openWrite, 0, 18446744073709551615, none, .fixed 0⟩

/-- `cnt_gate_takeovers` (11, object 0x415h:05): U64, RO, VOLATILE, default 0. -/
def Ob.cnt_gate_takeovers : ObjSpec :=
  ⟨0x4150, 2, 5, 5, .u64, .ro, false, .openWrite, 0, 18446744073709551615, none, .fixed 0⟩

/-- `cnt_fb_records` (12, object 0x416h:01): U64, RO, VOLATILE, default 0. -/
def Ob.cnt_fb_records : ObjSpec :=
  ⟨0x4160, 2, 1, 1, .u64, .ro, false, .openWrite, 0, 18446744073709551615, none, .fixed 0⟩

/-- `cnt_fb_bytes` (12, object 0x416h:02): U64, RO, VOLATILE, default 0. -/
def Ob.cnt_fb_bytes : ObjSpec :=
  ⟨0x4160, 2, 2, 2, .u64, .ro, false, .openWrite, 0, 18446744073709551615, none, .fixed 0⟩

/-- `cnt_fb_ack_max_ticks` (12, object 0x416h:03): U64, RO, VOLATILE, default 0. -/
def Ob.cnt_fb_ack_max_ticks : ObjSpec :=
  ⟨0x4160, 2, 3, 3, .u64, .ro, false, .openWrite, 0, 18446744073709551615, none, .fixed 0⟩

/-- `cnt_already_accepted` (12, object 0x416h:04): U64, RO, VOLATILE, default 0. -/
def Ob.cnt_already_accepted : ObjSpec :=
  ⟨0x4160, 2, 4, 4, .u64, .ro, false, .openWrite, 0, 18446744073709551615, none, .fixed 0⟩

/-- `cnt_records_replayed` (12, object 0x416h:05): U64, RO, VOLATILE, default 0. -/
def Ob.cnt_records_replayed : ObjSpec :=
  ⟨0x4160, 2, 5, 5, .u64, .ro, false, .openWrite, 0, 18446744073709551615, none, .fixed 0⟩

/-- `cnt_sessions_rebuilt` (12, object 0x416h:06): U64, RO, VOLATILE, default 0. -/
def Ob.cnt_sessions_rebuilt : ObjSpec :=
  ⟨0x4160, 2, 6, 6, .u64, .ro, false, .openWrite, 0, 18446744073709551615, none, .fixed 0⟩

/-- `cnt_positions_recomputed` (12, object 0x416h:07): U64, RO, VOLATILE, default 0. -/
def Ob.cnt_positions_recomputed : ObjSpec :=
  ⟨0x4160, 2, 7, 7, .u64, .ro, false, .openWrite, 0, 18446744073709551615, none, .fixed 0⟩

/-- `cnt_compaction_tiles` (12, object 0x416h:08): U64, RO, VOLATILE, default 0. -/
def Ob.cnt_compaction_tiles : ObjSpec :=
  ⟨0x4160, 2, 8, 8, .u64, .ro, false, .openWrite, 0, 18446744073709551615, none, .fixed 0⟩

/-- `cnt_fb_full` (12, object 0x416h:09): U64, RO, VOLATILE, default 0. -/
def Ob.cnt_fb_full : ObjSpec :=
  ⟨0x4160, 2, 9, 9, .u64, .ro, false, .openWrite, 0, 18446744073709551615, none, .fixed 0⟩

/-- `cnt_witness_lapse` (12, object 0x416h:0A): U64, RO, VOLATILE, default 0. -/
def Ob.cnt_witness_lapse : ObjSpec :=
  ⟨0x4160, 2, 10, 10, .u64, .ro, false, .openWrite, 0, 18446744073709551615, none, .fixed 0⟩

/-- `cnt_reads_reconstructed` (12, object 0x416h:0B): U64, RO, VOLATILE, default 0. -/
def Ob.cnt_reads_reconstructed : ObjSpec :=
  ⟨0x4160, 2, 11, 11, .u64, .ro, false, .openWrite, 0, 18446744073709551615, none, .fixed 0⟩

/-- `cnt_channel_failed` (12, object 0x416h:0C): U64, RO, VOLATILE, default 0. -/
def Ob.cnt_channel_failed : ObjSpec :=
  ⟨0x4160, 2, 12, 12, .u64, .ro, false, .openWrite, 0, 18446744073709551615, none, .fixed 0⟩

/-- `cnt_ck_tiles_written` (13, object 0x417h:01): U64, RO, VOLATILE, default 0. -/
def Ob.cnt_ck_tiles_written : ObjSpec :=
  ⟨0x4170, 2, 1, 1, .u64, .ro, false, .openWrite, 0, 18446744073709551615, none, .fixed 0⟩

/-- `cnt_ck_stage_full` (13, object 0x417h:02): U64, RO, VOLATILE, default 0. -/
def Ob.cnt_ck_stage_full : ObjSpec :=
  ⟨0x4170, 2, 2, 2, .u64, .ro, false, .openWrite, 0, 18446744073709551615, none, .fixed 0⟩

/-- `cnt_ck_aborted` (13, object 0x417h:03): U64, RO, VOLATILE, default 0. -/
def Ob.cnt_ck_aborted : ObjSpec :=
  ⟨0x4170, 2, 3, 3, .u64, .ro, false, .openWrite, 0, 18446744073709551615, none, .fixed 0⟩

/-- `cnt_restore_fallback` (13, object 0x417h:04): U64, RO, VOLATILE, default 0. -/
def Ob.cnt_restore_fallback : ObjSpec :=
  ⟨0x4170, 2, 4, 4, .u64, .ro, false, .openWrite, 0, 18446744073709551615, none, .fixed 0⟩

/-- `stn_cnt_drafts_proposed` (08, object 0x42ss:01): U64, RO, VOLATILE, default 0. -/
def Ob.stn_cnt_drafts_proposed : ObjSpec :=
  ⟨0x4200, 256, 1, 1, .u64, .ro, false, .openWrite, 0, 18446744073709551615, none, .fixed 0⟩

/-- `stn_cnt_drafts_accepted` (08, object 0x42ss:02): U64, RO, VOLATILE, default 0. -/
def Ob.stn_cnt_drafts_accepted : ObjSpec :=
  ⟨0x4200, 256, 2, 2, .u64, .ro, false, .openWrite, 0, 18446744073709551615, none, .fixed 0⟩

/-- `stn_cnt_draft_full_reject` (08, object 0x42ss:03): U64, RO, VOLATILE, default 0. -/
def Ob.stn_cnt_draft_full_reject : ObjSpec :=
  ⟨0x4200, 256, 3, 3, .u64, .ro, false, .openWrite, 0, 18446744073709551615, none, .fixed 0⟩

/-- `stn_cnt_draft_stopped` (08, object 0x42ss:04): U64, RO, VOLATILE, default 0. -/
def Ob.stn_cnt_draft_stopped : ObjSpec :=
  ⟨0x4200, 256, 4, 4, .u64, .ro, false, .openWrite, 0, 18446744073709551615, none, .fixed 0⟩

/-- `stn_cnt_ring_hold` (08, object 0x42ss:05): U64, RO, VOLATILE, default 0. -/
def Ob.stn_cnt_ring_hold : ObjSpec :=
  ⟨0x4200, 256, 5, 5, .u64, .ro, false, .openWrite, 0, 18446744073709551615, none, .fixed 0⟩

/-- `tj_sensor` (16, object 0x500h:01-40): Q16.16, RO, VOLATILE, default —. -/
def Ob.tj_sensor : ObjSpec :=
  ⟨0x5000, 2, 1, 64, .q16, .ro, false, .openWrite, 0, 4294967295, none, .fixed 0⟩

/-- `tj_max_h0` (16, object 0x5010:01): Q16.16, RO, VOLATILE, default —. -/
def Ob.tj_max_h0 : ObjSpec :=
  ⟨0x5010, 1, 1, 1, .q16, .ro, false, .openWrite, 0, 4294967295, none, .fixed 0⟩

/-- `tj_max_h1` (16, object 0x5010:02): Q16.16, RO, VOLATILE, default —. -/
def Ob.tj_max_h1 : ObjSpec :=
  ⟨0x5010, 1, 2, 2, .q16, .ro, false, .openWrite, 0, 4294967295, none, .fixed 0⟩

/-- `hbm_temp` (16, object 0x5010:03-0A): Q16.16, RO, VOLATILE, default —. -/
def Ob.hbm_temp : ObjSpec :=
  ⟨0x5010, 1, 3, 10, .q16, .ro, false, .openWrite, 0, 4294967295, none, .fixed 0⟩

/-- `mp_temp_h0` (16, object 0x5010:0B): Q16.16, RO, VOLATILE, default —. -/
def Ob.mp_temp_h0 : ObjSpec :=
  ⟨0x5010, 1, 11, 11, .q16, .ro, false, .openWrite, 0, 4294967295, none, .fixed 0⟩

/-- `mp_temp_h1` (16, object 0x5010:0C): Q16.16, RO, VOLATILE, default —. -/
def Ob.mp_temp_h1 : ObjSpec :=
  ⟨0x5010, 1, 12, 12, .q16, .ro, false, .openWrite, 0, 4294967295, none, .fixed 0⟩

/-- `tile_power` (16, object 0x5010:0D): Q16.16, RO, VOLATILE, default —. -/
def Ob.tile_power : ObjSpec :=
  ⟨0x5010, 1, 13, 13, .q16, .ro, false, .openWrite, 0, 4294967295, none, .fixed 0⟩

/-- `vbat` (16, object 0x5010:0E): Q16.16, RO, VOLATILE, default —. -/
def Ob.vbat : ObjSpec :=
  ⟨0x5010, 1, 14, 14, .q16, .ro, false, .openWrite, 0, 4294967295, none, .fixed 0⟩

/-- `err_coalesce_ticks` (12, object 0x6000:01): U32, RW, PERSIST, default 1,000. -/
def Ob.err_coalesce_ticks : ObjSpec :=
  ⟨0x6000, 1, 1, 1, .u32, .rw, true, .openWrite, 0, 1000000, none, .fixed 1000⟩

/-- `err_unread` (12, object 0x6000:02): U32, RO, VOLATILE, default 0. -/
def Ob.err_unread : ObjSpec :=
  ⟨0x6000, 1, 2, 2, .u32, .ro, false, .openWrite, 0, 4294967295, none, .fixed 0⟩

/-- `err_read` (12, object 0x6000:03): OCTETS (64), RO, VOLATILE, default —. -/
def Ob.err_read : ObjSpec :=
  ⟨0x6000, 1, 3, 3, .octets, .ro, false, .openWrite, 64, 64, none, .fixed 0⟩

/-- `err_spill_tiles` (12, object 0x6000:04): U32, RWF, PERSIST, default 16,384. -/
def Ob.err_spill_tiles : ObjSpec :=
  ⟨0x6000, 1, 4, 4, .u32, .rwf, true, .openWrite, 0, 262144, none, .fixed 16384⟩

/-- `err_dropped` (12, object 0x6010:01-08): U64, RO, VOLATILE, default 0. -/
def Ob.err_dropped : ObjSpec :=
  ⟨0x6010, 1, 1, 8, .u64, .ro, false, .openWrite, 0, 18446744073709551615, none, .fixed 0⟩

/-- `err_src_select` (12, object 0x6020:01): U16, RW, VOLATILE, default 0. -/
def Ob.err_src_select : ObjSpec :=
  ⟨0x6020, 1, 1, 1, .u16, .rw, false, .openWrite, 0, 1023, none, .fixed 0⟩

/-- `err_first` (12, object 0x6020:02): OCTETS (64), RO, VOLATILE, default all zero. -/
def Ob.err_first : ObjSpec :=
  ⟨0x6020, 1, 2, 2, .octets, .ro, false, .openWrite, 64, 64, none, .fixed 0⟩

/-- `err_recent` (12, object 0x6020:03): OCTETS (64), RO, VOLATILE, default all zero. -/
def Ob.err_recent : ObjSpec :=
  ⟨0x6020, 1, 3, 3, .octets, .ro, false, .openWrite, 64, 64, none, .fixed 0⟩

/-- `err_clear` (12, object 0x6020:04): U16, WO, default —. -/
def Ob.err_clear : ObjSpec :=
  ⟨0x6020, 1, 4, 4, .u16, .wo, false, .openWrite, 0, 1023, (some 65535), .fixed 0⟩

/-- `err_src_total` (12, object 0x6020:05): U64, RO, VOLATILE, default 0. -/
def Ob.err_src_total : ObjSpec :=
  ⟨0x6020, 1, 5, 5, .u64, .ro, false, .openWrite, 0, 18446744073709551615, none, .fixed 0⟩

/-- `sec_state` (16, object 0x7000:01): U8, RO, VOLATILE, default 0. -/
def Ob.sec_state : ObjSpec :=
  ⟨0x7000, 1, 1, 1, .u8, .ro, false, .openWrite, 0, 255, none, .fixed 0⟩

/-- `cap_max_life` (16, object 0x7000:02): U32, RW, PERSIST, default 3,600. -/
def Ob.cap_max_life : ObjSpec :=
  ⟨0x7000, 1, 2, 2, .u32, .rw, true, .sealedWrite, 60, 86400, none, .fixed 3600⟩

/-- `fw_source` (16, object 0x7010:01): OCTETS (16), RW, VOLATILE, default all zero. -/
def Ob.fw_source : ObjSpec :=
  ⟨0x7010, 1, 1, 1, .octets, .rw, false, .openWrite, 16, 16, none, .fixed 0⟩

/-- `fw_chunk` (16, object 0x7010:02): OCTETS (9–1,032), WO, default —. -/
def Ob.fw_chunk : ObjSpec :=
  ⟨0x7010, 1, 2, 2, .octets, .wo, false, .openWrite, 9, 1032, none, .fixed 0⟩

/-- `fw_command` (16, object 0x7010:03): U8, WO, default —. -/
def Ob.fw_command : ObjSpec :=
  ⟨0x7010, 1, 3, 3, .u8, .wo, false, .openWrite, 1, 5, none, .fixed 0⟩

/-- `fw_status` (16, object 0x7010:04): U16, RO, VOLATILE, default 0. -/
def Ob.fw_status : ObjSpec :=
  ⟨0x7010, 1, 4, 4, .u16, .ro, false, .openWrite, 0, 65535, none, .fixed 0⟩

/-- `fw_slot_state` (16, object 0x7010:05): U8, RO, VOLATILE, default —. -/
def Ob.fw_slot_state : ObjSpec :=
  ⟨0x7010, 1, 5, 5, .u8, .ro, false, .openWrite, 0, 255, none, .fixed 0⟩

/-- `fw_floor` (16, object 0x7010:06): U32, RO, PERSIST, default 0. -/
def Ob.fw_floor : ObjSpec :=
  ⟨0x7010, 1, 6, 6, .u32, .ro, true, .openWrite, 0, 4294967295, none, .fixed 0⟩

/-- `fw_trial_ticks` (16, object 0x7010:07): U32, RW, PERSIST, default 250,000,000 (10 s). -/
def Ob.fw_trial_ticks : ObjSpec :=
  ⟨0x7010, 1, 7, 7, .u32, .rw, true, .sealedWrite, 25000000, 1500000000, none, .fixed 250000000⟩

/-- `att_nonce` (16, object 0x7020:01): OCTETS (32), WO, default —. -/
def Ob.att_nonce : ObjSpec :=
  ⟨0x7020, 1, 1, 1, .octets, .wo, false, .openWrite, 32, 32, none, .fixed 0⟩

/-- `att_state` (16, object 0x7020:02): U8, RO, VOLATILE, default 0. -/
def Ob.att_state : ObjSpec :=
  ⟨0x7020, 1, 2, 2, .u8, .ro, false, .openWrite, 0, 255, none, .fixed 0⟩

/-- `att_report` (16, object 0x7020:03): OCTETS (3,821), RO, VOLATILE, default —. -/
def Ob.att_report : ObjSpec :=
  ⟨0x7020, 1, 3, 3, .octets, .ro, false, .openWrite, 3821, 3821, none, .fixed 0⟩

/-- `att_pcr` (16, object 0x7020:04): OCTETS (256), RO, VOLATILE, default —. -/
def Ob.att_pcr : ObjSpec :=
  ⟨0x7020, 1, 4, 4, .octets, .ro, false, .openWrite, 256, 256, none, .fixed 0⟩

/-- `mp_log_select` (16, object 0x7040:01): U32, RW, VOLATILE, default 0. -/
def Ob.mp_log_select : ObjSpec :=
  ⟨0x7040, 1, 1, 1, .u32, .rw, false, .openWrite, 0, 4294967295, none, .fixed 0⟩

/-- `mp_log_entry` (16, object 0x7040:02): OCTETS (64), RO, VOLATILE, default —. -/
def Ob.mp_log_entry : ObjSpec :=
  ⟨0x7040, 1, 2, 2, .octets, .ro, false, .openWrite, 64, 64, none, .fixed 0⟩

/-- `mp_log_next` (16, object 0x7040:03): U32, RO, VOLATILE, default 0. -/
def Ob.mp_log_next : ObjSpec :=
  ⟨0x7040, 1, 3, 3, .u32, .ro, false, .openWrite, 0, 4294967295, none, .fixed 0⟩

/-- `tk_key_lo` (16, object 0x71kk:01): OCTETS (976), WO, default —. -/
def Ob.tk_key_lo : ObjSpec :=
  ⟨0x7100, 16, 1, 1, .octets, .wo, false, .sealedWrite, 976, 976, none, .fixed 0⟩

/-- `tk_key_hi` (16, object 0x71kk:02): OCTETS (976), WO, default —. -/
def Ob.tk_key_hi : ObjSpec :=
  ⟨0x7100, 16, 2, 2, .octets, .wo, false, .sealedWrite, 976, 976, none, .fixed 0⟩

/-- `tk_purpose` (16, object 0x71kk:03): U8, RW, PERSIST, default 0. -/
def Ob.tk_purpose : ObjSpec :=
  ⟨0x7100, 16, 3, 3, .u8, .rw, true, .sealedWrite, 0, 15, none, .fixed 0⟩

/-- `tk_command` (16, object 0x71kk:04): U8, WO, default —. -/
def Ob.tk_command : ObjSpec :=
  ⟨0x7100, 16, 4, 4, .u8, .wo, false, .sealedWrite, 1, 2, none, .fixed 0⟩

/-- `tk_fingerprint` (16, object 0x71kk:05): OCTETS (32), RO, PERSIST, default all zero. -/
def Ob.tk_fingerprint : ObjSpec :=
  ⟨0x7100, 16, 5, 5, .octets, .ro, true, .openWrite, 32, 32, none, .fixed 0⟩

/-- `tk_state` (16, object 0x71kk:06): U8, RO, VOLATILE, default 0. -/
def Ob.tk_state : ObjSpec :=
  ⟨0x7100, 16, 6, 6, .u8, .ro, false, .openWrite, 0, 255, none, .fixed 0⟩

/-- `pd_select` (17, object 0x8001:01): U16, RW, VOLATILE, default 0. -/
def Ob.pd_select : ObjSpec :=
  ⟨0x8001, 1, 1, 1, .u16, .rw, false, .openWrite, 0, 605, none, .fixed 0⟩

/-- `pd_status` (17, object 0x8001:02): U8, RO, VOLATILE, default —. -/
def Ob.pd_status : ObjSpec :=
  ⟨0x8001, 1, 2, 2, .u8, .ro, false, .openWrite, 0, 255, none, .fixed 0⟩

/-- `cd_select` (17, object 0x8002:01): U16, RW, VOLATILE, default 0. -/
def Ob.cd_select : ObjSpec :=
  ⟨0x8002, 1, 1, 1, .u16, .rw, false, .openWrite, 0, 599, none, .fixed 0⟩

/-- `cd_freq_khz` (17, object 0x8002:02): U32, RO, VOLATILE, default —. -/
def Ob.cd_freq_khz : ObjSpec :=
  ⟨0x8002, 1, 2, 2, .u32, .ro, false, .openWrite, 0, 4294967295, none, .fixed 0⟩

/-- `cd_status` (17, object 0x8002:03): U8, RO, VOLATILE, default —. -/
def Ob.cd_status : ObjSpec :=
  ⟨0x8002, 1, 3, 3, .u8, .ro, false, .openWrite, 0, 255, none, .fixed 0⟩

/-- `half0_power_mode` (17, object 0x8010:01): U8, RWF, PERSIST, default 0. -/
def Ob.half0_power_mode : ObjSpec :=
  ⟨0x8010, 1, 1, 1, .u8, .rwf, true, .openWrite, 0, 1, none, .fixed 0⟩

/-- `half1_power_mode` (17, object 0x8010:02): U8, RWF, PERSIST, default 0. -/
def Ob.half1_power_mode : ObjSpec :=
  ⟨0x8010, 1, 2, 2, .u8, .rwf, true, .openWrite, 0, 1, none, .fixed 0⟩

/-- `cl_sleep_frames` (17, object 0x8010:03): U16, RWF, PERSIST, default 2. -/
def Ob.cl_sleep_frames : ObjSpec :=
  ⟨0x8010, 1, 3, 3, .u16, .rwf, true, .openWrite, 1, 65535, none, .fixed 2⟩

/-- `deep_sleep_ticks` (17, object 0x8010:04): U64, RW, PERSIST, default 0. -/
def Ob.deep_sleep_ticks : ObjSpec :=
  ⟨0x8010, 1, 4, 4, .u64, .rw, true, .openWrite, 25000000, 281474976710655, (some 0), .fixed 0⟩

/-- `tile_power_state` (17, object 0x8010:05): U8, RO, VOLATILE, default 0. -/
def Ob.tile_power_state : ObjSpec :=
  ⟨0x8010, 1, 5, 5, .u8, .ro, false, .openWrite, 0, 255, none, .fixed 0⟩

/-- `wake_cause` (17, object 0x8010:06): U8, RO, VOLATILE, default 0. -/
def Ob.wake_cause : ObjSpec :=
  ⟨0x8010, 1, 6, 6, .u8, .ro, false, .openWrite, 0, 255, none, .fixed 0⟩

/-- `cnt_sleep_aborted` (17, object 0x8010:07): U64, RO, VOLATILE, default 0. -/
def Ob.cnt_sleep_aborted : ObjSpec :=
  ⟨0x8010, 1, 7, 7, .u64, .ro, false, .openWrite, 0, 18446744073709551615, none, .fixed 0⟩

/-- `wake_max_per_us` (17, object 0x8020:01): U8, RWF, PERSIST, default 4. -/
def Ob.wake_max_per_us : ObjSpec :=
  ⟨0x8020, 1, 1, 1, .u8, .rwf, true, .guarded, 1, 16, none, .fixed 4⟩

/-- `wake_budget_h0` (17, object 0x8020:02): Q16.16, RWF, PERSIST, default 6.4. -/
def Ob.wake_budget_h0 : ObjSpec :=
  ⟨0x8020, 1, 2, 2, .q16, .rwf, true, .guarded, 104857, 6710886, none, .fixed 419430⟩

/-- `wake_budget_h1` (17, object 0x8020:03): Q16.16, RWF, PERSIST, default 6.4. -/
def Ob.wake_budget_h1 : ObjSpec :=
  ⟨0x8020, 1, 3, 3, .q16, .rwf, true, .guarded, 104857, 6710886, none, .fixed 419430⟩

/-- `wake_step` (17, object 0x8020:04): Q16.16, CONST, default —. -/
def Ob.wake_step : ObjSpec :=
  ⟨0x8020, 1, 4, 4, .q16, .const, false, .openWrite, 0, 4294967295, none, .fixed 104857⟩

/-- `pwr_limit_sustained` (17, object 0x8030:01): U16, RW, PERSIST, default 1,050. -/
def Ob.pwr_limit_sustained : ObjSpec :=
  ⟨0x8030, 1, 1, 1, .u16, .rw, true, .guarded, 700, 1050, none, .fixed 1050⟩

/-- `pwr_limit_peak` (17, object 0x8030:02): U16, RW, PERSIST, default 1,200. -/
def Ob.pwr_limit_peak : ObjSpec :=
  ⟨0x8030, 1, 2, 2, .u16, .rw, true, .guarded, 1050, 1200, none, .fixed 1200⟩

/-- `pwr_levers` (17, object 0x8030:03): U8, RO, VOLATILE, default 0. -/
def Ob.pwr_levers : ObjSpec :=
  ⟨0x8030, 1, 3, 3, .u8, .ro, false, .openWrite, 0, 255, none, .fixed 0⟩

/-- `thermal_state` (17, object 0x8030:04): U8, RO, VOLATILE, default 0. -/
def Ob.thermal_state : ObjSpec :=
  ⟨0x8030, 1, 4, 4, .u8, .ro, false, .openWrite, 0, 255, none, .fixed 0⟩

/-- `cnt_power_limited_ticks` (17, object 0x8030:05): U64, RO, VOLATILE, default 0. -/
def Ob.cnt_power_limited_ticks : ObjSpec :=
  ⟨0x8030, 1, 5, 5, .u64, .ro, false, .openWrite, 0, 18446744073709551615, none, .fixed 0⟩

/-- `cnt_thermal_throttle_ticks` (17, object 0x8030:06): U64, RO, VOLATILE, default 0. -/
def Ob.cnt_thermal_throttle_ticks : ObjSpec :=
  ⟨0x8030, 1, 6, 6, .u64, .ro, false, .openWrite, 0, 18446744073709551615, none, .fixed 0⟩

/-- `cnt_thermal_trip` (17, object 0x8030:07): U32, RO, VOLATILE, default 0. -/
def Ob.cnt_thermal_trip : ObjSpec :=
  ⟨0x8030, 1, 7, 7, .u32, .ro, false, .openWrite, 0, 4294967295, none, .fixed 0⟩

/-- `power_command` (17, object 0x8040:01): U8, WO, default —. -/
def Ob.power_command : ObjSpec :=
  ⟨0x8040, 1, 1, 1, .u8, .wo, false, .guarded, 1, 4, none, .fixed 0⟩

/-- `power_status` (17, object 0x8040:02): U16, RO, VOLATILE, default 0. -/
def Ob.power_status : ObjSpec :=
  ⟨0x8040, 1, 2, 2, .u16, .ro, false, .openWrite, 0, 65535, none, .fixed 0⟩

/-- `strap_value` (17, object 0x8050:01): U8, RO, VOLATILE, default —. -/
def Ob.strap_value : ObjSpec :=
  ⟨0x8050, 1, 1, 1, .u8, .ro, false, .openWrite, 0, 255, none, .fixed 0⟩

/-- `stake_wake_mask` (17, object 0x8050:02): U8, RW, PERSIST, default 0x01. -/
def Ob.stake_wake_mask : ObjSpec :=
  ⟨0x8050, 1, 2, 2, .u8, .rw, true, .guarded, 0, 255, none, .fixed 1⟩

/-- `stake_user` (17, object 0x8050:03): U8, RW, VOLATILE, default 0. -/
def Ob.stake_user : ObjSpec :=
  ⟨0x8050, 1, 3, 3, .u8, .rw, false, .openWrite, 0, 255, none, .fixed 0⟩

/-- `stake_pulse_frames` (17, object 0x8050:04): U16, RW, PERSIST, default 25. -/
def Ob.stake_pulse_frames : ObjSpec :=
  ⟨0x8050, 1, 4, 4, .u16, .rw, true, .openWrite, 1, 1000, none, .fixed 25⟩

/-- `cnt_glitch_reset_n` (17, object 0x8050:05): U32, RO, VOLATILE, default 0. -/
def Ob.cnt_glitch_reset_n : ObjSpec :=
  ⟨0x8050, 1, 5, 5, .u32, .ro, false, .openWrite, 0, 4294967295, none, .fixed 0⟩

/-- `cnt_glitch_stake` (17, object 0x8050:06): U32, RO, VOLATILE, default 0. -/
def Ob.cnt_glitch_stake : ObjSpec :=
  ⟨0x8050, 1, 6, 6, .u32, .ro, false, .openWrite, 0, 4294967295, none, .fixed 0⟩

/-- `cnt_cluster_wakes` (17, object 0x806h:01): U64, RO, VOLATILE, default 0. -/
def Ob.cnt_cluster_wakes : ObjSpec :=
  ⟨0x8060, 2, 1, 1, .u64, .ro, false, .openWrite, 0, 18446744073709551615, none, .fixed 0⟩

/-- `cnt_wake_deferred` (17, object 0x806h:02): U64, RO, VOLATILE, default 0. -/
def Ob.cnt_wake_deferred : ObjSpec :=
  ⟨0x8060, 2, 2, 2, .u64, .ro, false, .openWrite, 0, 18446744073709551615, none, .fixed 0⟩

/-- `cnt_cluster_sleeps` (17, object 0x806h:03): U64, RO, VOLATILE, default 0. -/
def Ob.cnt_cluster_sleeps : ObjSpec :=
  ⟨0x8060, 2, 3, 3, .u64, .ro, false, .openWrite, 0, 18446744073709551615, none, .fixed 0⟩

/-- `datum_counter` (04, object 0x9000:01): U64, RO, VOLATILE, default —. -/
def Ob.datum_counter : ObjSpec :=
  ⟨0x9000, 1, 1, 1, .u64, .ro, false, .openWrite, 0, 18446744073709551615, none, .fixed 0⟩

/-- `datum_state` (04, object 0x9000:02): U8, RO, VOLATILE, default 0. -/
def Ob.datum_state : ObjSpec :=
  ⟨0x9000, 1, 2, 2, .u8, .ro, false, .openWrite, 0, 255, none, .fixed 0⟩

/-- `datum_edge_err` (04, object 0x9000:03): I32, RO, VOLATILE, default 0. -/
def Ob.datum_edge_err : ObjSpec :=
  ⟨0x9000, 1, 3, 3, .i32, .ro, false, .openWrite, 0, 4294967295, none, .fixed 0⟩

/-- `group_position` (04, object 0x9000:04): U16, RO, VOLATILE, default 0. -/
def Ob.group_position : ObjSpec :=
  ⟨0x9000, 1, 4, 4, .u16, .ro, false, .openWrite, 0, 65535, none, .fixed 0⟩

/-- `benchmark_device` (04, object 0x9000:05): U16, RO, VOLATILE, default 0. -/
def Ob.benchmark_device : ObjSpec :=
  ⟨0x9000, 1, 5, 5, .u16, .ro, false, .openWrite, 0, 65535, none, .fixed 0⟩

/-- `up_port` (04, object 0x9000:06): U8, RO, VOLATILE, default 0xFF. -/
def Ob.up_port : ObjSpec :=
  ⟨0x9000, 1, 6, 6, .u8, .ro, false, .openWrite, 0, 255, none, .fixed 255⟩

/-- `frame_number` (04, object 0x9010:01): U64, RO, VOLATILE, default 0. -/
def Ob.frame_number : ObjSpec :=
  ⟨0x9010, 1, 1, 1, .u64, .ro, false, .openWrite, 0, 18446744073709551615, none, .fixed 0⟩

/-- `frame_start_tick` (04, object 0x9010:02): U64, RO, VOLATILE, default 0. -/
def Ob.frame_start_tick : ObjSpec :=
  ⟨0x9010, 1, 2, 2, .u64, .ro, false, .openWrite, 0, 18446744073709551615, none, .fixed 0⟩

/-- `frame_len_now` (04, object 0x9010:03): U32, RO, VOLATILE, default 0. -/
def Ob.frame_len_now : ObjSpec :=
  ⟨0x9010, 1, 3, 3, .u32, .ro, false, .openWrite, 0, 4294967295, none, .fixed 0⟩

/-- `hold_log` (04, object 0x9020:01): OCTETS (32), RO, VOLATILE, default —. -/
def Ob.hold_log : ObjSpec :=
  ⟨0x9020, 1, 1, 1, .octets, .ro, false, .openWrite, 32, 32, none, .fixed 0⟩

/-- `cnt_holds` (04, object 0x9030:01): U64, RO, VOLATILE, default 0. -/
def Ob.cnt_holds : ObjSpec :=
  ⟨0x9030, 1, 1, 1, .u64, .ro, false, .openWrite, 0, 18446744073709551615, none, .fixed 0⟩

/-- `cnt_held_ticks` (04, object 0x9030:02): U64, RO, VOLATILE, default 0. -/
def Ob.cnt_held_ticks : ObjSpec :=
  ⟨0x9030, 1, 2, 2, .u64, .ro, false, .openWrite, 0, 18446744073709551615, none, .fixed 0⟩

/-- `cnt_frame_overrun` (04, object 0x9030:03): U64, RO, VOLATILE, default 0. -/
def Ob.cnt_frame_overrun : ObjSpec :=
  ⟨0x9030, 1, 3, 3, .u64, .ro, false, .openWrite, 0, 18446744073709551615, none, .fixed 0⟩

/-- `cnt_slot_withdrawn` (04, object 0x9030:04): U64, RO, VOLATILE, default 0. -/
def Ob.cnt_slot_withdrawn : ObjSpec :=
  ⟨0x9030, 1, 4, 4, .u64, .ro, false, .openWrite, 0, 18446744073709551615, none, .fixed 0⟩

/-- `cnt_frame_void` (04, object 0x9030:05): U64, RO, VOLATILE, default 0. -/
def Ob.cnt_frame_void : ObjSpec :=
  ⟨0x9030, 1, 5, 5, .u64, .ro, false, .openWrite, 0, 18446744073709551615, none, .fixed 0⟩

/-- `cnt_variant_switch` (04, object 0x9030:06): U64, RO, VOLATILE, default 0. -/
def Ob.cnt_variant_switch : ObjSpec :=
  ⟨0x9030, 1, 6, 6, .u64, .ro, false, .openWrite, 0, 18446744073709551615, none, .fixed 0⟩

/-- `cnt_degraded_switch` (04, object 0x9030:07): U64, RO, VOLATILE, default 0. -/
def Ob.cnt_degraded_switch : ObjSpec :=
  ⟨0x9030, 1, 7, 7, .u64, .ro, false, .openWrite, 0, 18446744073709551615, none, .fixed 0⟩

/-- `cnt_bucket_overflow` (04, object 0x9030:08): U64, RO, VOLATILE, default 0. -/
def Ob.cnt_bucket_overflow : ObjSpec :=
  ⟨0x9030, 1, 8, 8, .u64, .ro, false, .openWrite, 0, 18446744073709551615, none, .fixed 0⟩

/-- `cnt_span_refused` (04, object 0x9030:09): U64, RO, VOLATILE, default 0. -/
def Ob.cnt_span_refused : ObjSpec :=
  ⟨0x9030, 1, 9, 9, .u64, .ro, false, .openWrite, 0, 18446744073709551615, none, .fixed 0⟩

/-- `cnt_datum_holdover` (04, object 0x9030:0A): U64, RO, VOLATILE, default 0. -/
def Ob.cnt_datum_holdover : ObjSpec :=
  ⟨0x9030, 1, 10, 10, .u64, .ro, false, .openWrite, 0, 18446744073709551615, none, .fixed 0⟩

/-- `composition` (14, object 0x9100:01): U8, RW, PERSIST, default 0. -/
def Ob.composition : ObjSpec :=
  ⟨0x9100, 1, 1, 1, .u8, .rw, true, .guarded, 0, 1, none, .fixed 0⟩

/-- `plat_device` (14, object 0x9100:02): U16, RW, PERSIST, default 0. -/
def Ob.plat_device : ObjSpec :=
  ⟨0x9100, 1, 2, 2, .u16, .rw, true, .guarded, 0, 511, none, .fixed 0⟩

/-- `plat_domain` (14, object 0x9100:03): U64, RW, PERSIST, default 0. -/
def Ob.plat_domain : ObjSpec :=
  ⟨0x9100, 1, 3, 3, .u64, .rw, true, .guarded, 0, 18446744073709551615, none, .fixed 0⟩

/-- `plat_epoch` (14, object 0x9100:04): U64, RO, VOLATILE, default 0. -/
def Ob.plat_epoch : ObjSpec :=
  ⟨0x9100, 1, 4, 4, .u64, .ro, false, .openWrite, 0, 18446744073709551615, none, .fixed 0⟩

/-- `plat_state` (14, object 0x9100:05): U8, RO, VOLATILE, default 0. -/
def Ob.plat_state : ObjSpec :=
  ⟨0x9100, 1, 5, 5, .u8, .ro, false, .openWrite, 0, 255, none, .fixed 0⟩

/-- `plat_coordinator` (14, object 0x9100:06): U16, RO, VOLATILE, default 0. -/
def Ob.plat_coordinator : ObjSpec :=
  ⟨0x9100, 1, 6, 6, .u16, .ro, false, .openWrite, 0, 65535, none, .fixed 0⟩

/-- `plat_members` (14, object 0x9100:07): U16, RO, VOLATILE, default 0. -/
def Ob.plat_members : ObjSpec :=
  ⟨0x9100, 1, 7, 7, .u16, .ro, false, .openWrite, 0, 65535, none, .fixed 0⟩

/-- `plat_source` (14, object 0x9101:01): OCTETS (16), RW, VOLATILE, default all zero. -/
def Ob.plat_source : ObjSpec :=
  ⟨0x9101, 1, 1, 1, .octets, .rw, false, .guarded, 16, 16, none, .fixed 0⟩

/-- `plat_command` (14, object 0x9101:02): U8, WO, default —. -/
def Ob.plat_command : ObjSpec :=
  ⟨0x9101, 1, 2, 2, .u8, .wo, false, .guarded, 1, 1, none, .fixed 0⟩

/-- `plat_status` (14, object 0x9101:03): U16, RO, VOLATILE, default 0. -/
def Ob.plat_status : ObjSpec :=
  ⟨0x9101, 1, 3, 3, .u16, .ro, false, .openWrite, 0, 65535, none, .fixed 0⟩

/-- `plat_vote_ticks` (14, object 0x9101:04): U32, RW, PERSIST, default 2,500 (100 µs). -/
def Ob.plat_vote_ticks : ObjSpec :=
  ⟨0x9101, 1, 4, 4, .u32, .rw, true, .openWrite, 250, 250000, none, .fixed 2500⟩

/-- `plat_drain_ticks` (14, object 0x9101:05): U32, RW, PERSIST, default 1,250,000 (50 ms). -/
def Ob.plat_drain_ticks : ObjSpec :=
  ⟨0x9101, 1, 5, 5, .u32, .rw, true, .openWrite, 250, 25000000, none, .fixed 1250000⟩

/-- `plat_read_offset` (14, object 0x9101:06): U32, RW, VOLATILE, default 0. -/
def Ob.plat_read_offset : ObjSpec :=
  ⟨0x9101, 1, 6, 6, .u32, .rw, false, .openWrite, 0, 4294967295, none, .fixed 0⟩

/-- `plat_read_data` (14, object 0x9101:07): OCTETS (64), RO, VOLATILE, default —. -/
def Ob.plat_read_data : ObjSpec :=
  ⟨0x9101, 1, 7, 7, .octets, .ro, false, .openWrite, 64, 64, none, .fixed 0⟩

/-- `port_state` (14, object 0x911p:01): U8, RO, VOLATILE, default 0. -/
def Ob.port_state : ObjSpec :=
  ⟨0x9110, 16, 1, 1, .u8, .ro, false, .openWrite, 0, 255, none, .fixed 0⟩

/-- `port_width` (14, object 0x911p:02): U8, RO, VOLATILE, default 0. -/
def Ob.port_width : ObjSpec :=
  ⟨0x9110, 16, 2, 2, .u8, .ro, false, .openWrite, 0, 255, none, .fixed 0⟩

/-- `port_peer` (14, object 0x911p:03): U32, RO, VOLATILE, default 0. -/
def Ob.port_peer : ObjSpec :=
  ⟨0x9110, 16, 3, 3, .u32, .ro, false, .openWrite, 0, 4294967295, none, .fixed 0⟩

/-- `port_latency_cc` (14, object 0x911p:04): U32, RO, VOLATILE, default 0. -/
def Ob.port_latency_cc : ObjSpec :=
  ⟨0x9110, 16, 4, 4, .u32, .ro, false, .openWrite, 0, 4294967295, none, .fixed 0⟩

/-- `port_role` (14, object 0x911p:05): U8, RW, PERSIST, default 1. -/
def Ob.port_role : ObjSpec :=
  ⟨0x9110, 16, 5, 5, .u8, .rw, true, .guarded, 0, 2, none, .fixed 1⟩

/-- `cnt_fec_corrected` (14, object 0x911p:06): U64, RO, VOLATILE, default 0. -/
def Ob.cnt_fec_corrected : ObjSpec :=
  ⟨0x9110, 16, 6, 6, .u64, .ro, false, .openWrite, 0, 18446744073709551615, none, .fixed 0⟩

/-- `cnt_fec_uncorrected` (14, object 0x911p:07): U64, RO, VOLATILE, default 0. -/
def Ob.cnt_fec_uncorrected : ObjSpec :=
  ⟨0x9110, 16, 7, 7, .u64, .ro, false, .openWrite, 0, 18446744073709551615, none, .fixed 0⟩

/-- `cnt_replays` (14, object 0x911p:08): U64, RO, VOLATILE, default 0. -/
def Ob.cnt_replays : ObjSpec :=
  ⟨0x9110, 16, 8, 8, .u64, .ro, false, .openWrite, 0, 18446744073709551615, none, .fixed 0⟩

/-- `cnt_hb_missed` (14, object 0x911p:09): U64, RO, VOLATILE, default 0. -/
def Ob.cnt_hb_missed : ObjSpec :=
  ⟨0x9110, 16, 9, 9, .u64, .ro, false, .openWrite, 0, 18446744073709551615, none, .fixed 0⟩

/-- `fab_quad_mode` (14, object 0x9120:01-08): U8, RW, PERSIST, default 0. -/
def Ob.fab_quad_mode : ObjSpec :=
  ⟨0x9120, 1, 1, 8, .u8, .rw, true, .guarded, 0, 1, none, .fixed 0⟩

/-- `fab_train_timeout` (14, object 0x9121:01): U32, RW, PERSIST, default 2,500,000 (100 ms). -/
def Ob.fab_train_timeout : ObjSpec :=
  ⟨0x9121, 1, 1, 1, .u32, .rw, true, .openWrite, 25000, 12500000, none, .fixed 2500000⟩

/-- `fab_retrain_ticks` (14, object 0x9121:02): U32, RW, PERSIST, default 25,000 (1 ms). -/
def Ob.fab_retrain_ticks : ObjSpec :=
  ⟨0x9121, 1, 2, 2, .u32, .rw, true, .openWrite, 2500, 25000000, none, .fixed 25000⟩

/-- `lane_state` (14, object 0x9130:01-20): U8, RO, VOLATILE, default 0. -/
def Ob.lane_state : ObjSpec :=
  ⟨0x9130, 1, 1, 32, .u8, .ro, false, .openWrite, 0, 255, none, .fixed 0⟩

/-- `t4_lend_max` (14, object 0x9140:01): U32, RW, PERSIST, default 16,777,216. -/
def Ob.t4_lend_max : ObjSpec :=
  ⟨0x9140, 1, 1, 1, .u32, .rw, true, .guarded, 0, 4294967295, none, .fixed 16777216⟩

/-- `t4_lease_grain` (14, object 0x9140:02): U32, RW, PERSIST, default 65,536. -/
def Ob.t4_lease_grain : ObjSpec :=
  ⟨0x9140, 1, 2, 2, .u32, .rw, true, .openWrite, 1024, 16777216, none, .fixed 65536⟩

/-- `handover_pull_share` (14, object 0x9140:03): U8, RW, PERSIST, default 25. -/
def Ob.handover_pull_share : ObjSpec :=
  ⟨0x9140, 1, 3, 3, .u8, .rw, true, .openWrite, 1, 100, none, .fixed 25⟩

/-- `fab_witness_serve` (14, object 0x9140:04): U32, RW, PERSIST, default 0. -/
def Ob.fab_witness_serve : ObjSpec :=
  ⟨0x9140, 1, 4, 4, .u32, .rw, true, .guarded, 0, 4294967295, none, .fixed 0⟩

/-- `t4_tiles_lent` (14, object 0x9140:05): U64, RO, VOLATILE, default 0. -/
def Ob.t4_tiles_lent : ObjSpec :=
  ⟨0x9140, 1, 5, 5, .u64, .ro, false, .openWrite, 0, 18446744073709551615, none, .fixed 0⟩

/-- `t4_tiles_borrowed` (14, object 0x9140:06): U64, RO, VOLATILE, default 0. -/
def Ob.t4_tiles_borrowed : ObjSpec :=
  ⟨0x9140, 1, 6, 6, .u64, .ro, false, .openWrite, 0, 18446744073709551615, none, .fixed 0⟩

/-- `fab_lease_command` (14, object 0x9140:07): U32, WO, default —. -/
def Ob.fab_lease_command : ObjSpec :=
  ⟨0x9140, 1, 7, 7, .u32, .wo, false, .guarded, 0, 4294967295, none, .fixed 0⟩

/-- `cnt_port_down` (14, object 0x918h:01): U64, RO, VOLATILE, default 0. -/
def Ob.cnt_port_down : ObjSpec :=
  ⟨0x9180, 2, 1, 1, .u64, .ro, false, .openWrite, 0, 18446744073709551615, none, .fixed 0⟩

/-- `cnt_lane_failed` (14, object 0x918h:02): U64, RO, VOLATILE, default 0. -/
def Ob.cnt_lane_failed : ObjSpec :=
  ⟨0x9180, 2, 2, 2, .u64, .ro, false, .openWrite, 0, 18446744073709551615, none, .fixed 0⟩

/-- `cnt_link_narrowed` (14, object 0x918h:03): U64, RO, VOLATILE, default 0. -/
def Ob.cnt_link_narrowed : ObjSpec :=
  ⟨0x9180, 2, 3, 3, .u64, .ro, false, .openWrite, 0, 18446744073709551615, none, .fixed 0⟩

/-- `cnt_ttl_drop` (14, object 0x918h:04): U64, RO, VOLATILE, default 0. -/
def Ob.cnt_ttl_drop : ObjSpec :=
  ⟨0x9180, 2, 4, 4, .u64, .ro, false, .openWrite, 0, 18446744073709551615, none, .fixed 0⟩

/-- `cnt_plat_moved` (14, object 0x918h:05): U64, RO, VOLATILE, default 0. -/
def Ob.cnt_plat_moved : ObjSpec :=
  ⟨0x9180, 2, 5, 5, .u64, .ro, false, .openWrite, 0, 18446744073709551615, none, .fixed 0⟩

/-- `cnt_handover_sessions` (14, object 0x918h:06): U64, RO, VOLATILE, default 0. -/
def Ob.cnt_handover_sessions : ObjSpec :=
  ⟨0x9180, 2, 6, 6, .u64, .ro, false, .openWrite, 0, 18446744073709551615, none, .fixed 0⟩

/-- `cnt_drain_timeout` (14, object 0x918h:07): U64, RO, VOLATILE, default 0. -/
def Ob.cnt_drain_timeout : ObjSpec :=
  ⟨0x9180, 2, 7, 7, .u64, .ro, false, .openWrite, 0, 18446744073709551615, none, .fixed 0⟩

/-- `cnt_plat_commits` (14, object 0x918h:08): U64, RO, VOLATILE, default 0. -/
def Ob.cnt_plat_commits : ObjSpec :=
  ⟨0x9180, 2, 8, 8, .u64, .ro, false, .openWrite, 0, 18446744073709551615, none, .fixed 0⟩

/-- `trv_source` (04, object 0x92tt:01): OCTETS (16), RW, VOLATILE, default all zero. -/
def Ob.trv_source : ObjSpec :=
  ⟨0x9200, 4, 1, 1, .octets, .rw, false, .guarded, 16, 16, none, .fixed 0⟩

/-- `trv_command` (04, object 0x92tt:02): U8, WO, default —. -/
def Ob.trv_command : ObjSpec :=
  ⟨0x9200, 4, 2, 2, .u8, .wo, false, .guarded, 1, 3, none, .fixed 0⟩

/-- `trv_state` (04, object 0x92tt:03): U8, RO, VOLATILE, default 0. -/
def Ob.trv_state : ObjSpec :=
  ⟨0x9200, 4, 3, 3, .u8, .ro, false, .openWrite, 0, 255, none, .fixed 0⟩

/-- `trv_identity` (04, object 0x92tt:04): OCTETS (32), RO, VOLATILE, default all zero. -/
def Ob.trv_identity : ObjSpec :=
  ⟨0x9200, 4, 4, 4, .octets, .ro, false, .openWrite, 32, 32, none, .fixed 0⟩

/-- `trv_status` (04, object 0x92tt:05): U16, RO, VOLATILE, default 0. -/
def Ob.trv_status : ObjSpec :=
  ⟨0x9200, 4, 5, 5, .u16, .ro, false, .openWrite, 0, 65535, none, .fixed 0⟩

/-- `trv_activate_frame` (04, object 0x92tt:06): U64, RW, VOLATILE, default 0. -/
def Ob.trv_activate_frame : ObjSpec :=
  ⟨0x9200, 4, 6, 6, .u64, .rw, false, .guarded, 0, 18446744073709551615, none, .fixed 0⟩

/-- `mdl_state` (06, object 0x93mm:01): U8, RO, VOLATILE, default 0. -/
def Ob.mdl_state : ObjSpec :=
  ⟨0x9300, 16, 1, 1, .u8, .ro, false, .openWrite, 0, 255, none, .fixed 0⟩

/-- `mdl_weight_home` (06, object 0x93mm:02): U8, RW, PERSIST, default 1. -/
def Ob.mdl_weight_home : ObjSpec :=
  ⟨0x9300, 16, 2, 2, .u8, .rw, true, .openWrite, 1, 2, none, .fixed 1⟩

/-- `mdl_source` (06, object 0x93mm:03): OCTETS (16), RW, VOLATILE, default all zero. -/
def Ob.mdl_source : ObjSpec :=
  ⟨0x9300, 16, 3, 3, .octets, .rw, false, .guarded, 16, 16, none, .fixed 0⟩

/-- `mdl_command` (06, object 0x93mm:04): U8, WO, default —. -/
def Ob.mdl_command : ObjSpec :=
  ⟨0x9300, 16, 4, 4, .u8, .wo, false, .guarded, 1, 2, none, .fixed 0⟩

/-- `mdl_status` (06, object 0x93mm:05): U16, RO, VOLATILE, default 0. -/
def Ob.mdl_status : ObjSpec :=
  ⟨0x9300, 16, 5, 5, .u16, .ro, false, .openWrite, 0, 65535, none, .fixed 0⟩

/-- `mdl_load_count` (06, object 0x93mm:06): U32, RO, VOLATILE, default 0. -/
def Ob.mdl_load_count : ObjSpec :=
  ⟨0x9300, 16, 6, 6, .u32, .ro, false, .openWrite, 0, 4294967295, none, .fixed 0⟩

/-- `mdl_digest` (06, object 0x93mm:07): OCTETS (32), RW, VOLATILE, default all zero. -/
def Ob.mdl_digest : ObjSpec :=
  ⟨0x9300, 16, 7, 7, .octets, .rw, false, .openWrite, 32, 32, none, .fixed 0⟩

/-- `mdl_layers` (06, object 0x93mm:08): U16, RW, PERSIST, default 1. -/
def Ob.mdl_layers : ObjSpec :=
  ⟨0x9300, 16, 8, 8, .u16, .rw, true, .openWrite, 1, 256, none, .fixed 1⟩

/-- `mdl_kv_groups` (06, object 0x93mm:09): U8, RW, PERSIST, default 1. -/
def Ob.mdl_kv_groups : ObjSpec :=
  ⟨0x9300, 16, 9, 9, .u8, .rw, true, .openWrite, 1, 32, none, .fixed 1⟩

/-- `mdl_kv_format` (06, object 0x93mm:0A): U8, RW, PERSIST, default 0x01. -/
def Ob.mdl_kv_format : ObjSpec :=
  ⟨0x9300, 16, 10, 10, .u8, .rw, true, .openWrite, 1, 2, none, .fixed 1⟩

/-- `mdl_window` (06, object 0x93mm:0B): U32, RW, PERSIST, default 0. -/
def Ob.mdl_window : ObjSpec :=
  ⟨0x9300, 16, 11, 11, .u32, .rw, true, .openWrite, 0, 131072, none, .fixed 0⟩

/-- `mdl_window_layers` (06, object 0x93mm:0C): OCTETS (32), RW, PERSIST, default all zero. -/
def Ob.mdl_window_layers : ObjSpec :=
  ⟨0x9300, 16, 12, 12, .octets, .rw, true, .openWrite, 32, 32, none, .fixed 0⟩

/-- `mdl_draft_of` (06, object 0x93mm:0D): U8, RW, PERSIST, default 0xFF. -/
def Ob.mdl_draft_of : ObjSpec :=
  ⟨0x9300, 16, 13, 13, .u8, .rw, true, .openWrite, 0, 15, (some 255), .fixed 255⟩

/-- `mdl_donor` (06, object 0x93mm:0E): OCTETS (256), RW, PERSIST, default all zero. -/
def Ob.mdl_donor : ObjSpec :=
  ⟨0x9300, 16, 14, 14, .octets, .rw, true, .openWrite, 256, 256, none, .fixed 0⟩

/-- `mdl_t2_stream_rate` (06, object 0x93mm:0F): U64, RO, VOLATILE, default 0. -/
def Ob.mdl_t2_stream_rate : ObjSpec :=
  ⟨0x9300, 16, 15, 15, .u64, .ro, false, .openWrite, 0, 18446744073709551615, none, .fixed 0⟩

/-- `mdl_max_positions` (06, object 0x93mm:10): U32, RW, PERSIST, default 131,072. -/
def Ob.mdl_max_positions : ObjSpec :=
  ⟨0x9300, 16, 16, 16, .u32, .rw, true, .openWrite, 1, 131072, none, .fixed 131072⟩

/-- `core_fence_map` (05, object 0x9400:01): OCTETS (512), RO, VOLATILE, default all zero. -/
def Ob.core_fence_map : ObjSpec :=
  ⟨0x9400, 1, 1, 1, .octets, .ro, false, .openWrite, 512, 512, none, .fixed 0⟩

/-- `cluster_fence_map` (05, object 0x9400:02): OCTETS (64), RO, VOLATILE, default all zero. -/
def Ob.cluster_fence_map : ObjSpec :=
  ⟨0x9400, 1, 2, 2, .octets, .ro, false, .openWrite, 64, 64, none, .fixed 0⟩

/-- `fence_window` (05, object 0x9400:03): U32, RW, PERSIST, default 1,000,000. -/
def Ob.fence_window : ObjSpec :=
  ⟨0x9400, 1, 3, 3, .u32, .rw, true, .openWrite, 1000, 100000000, none, .fixed 1000000⟩

/-- `fence_command` (05, object 0x9400:04): U32, WO, default —. -/
def Ob.fence_command : ObjSpec :=
  ⟨0x9400, 1, 4, 4, .u32, .wo, false, .guarded, 0, 4294967295, none, .fixed 0⟩

/-- `fence_status` (05, object 0x9400:05): U16, RO, VOLATILE, default 0. -/
def Ob.fence_status : ObjSpec :=
  ⟨0x9400, 1, 5, 5, .u16, .ro, false, .openWrite, 0, 65535, none, .fixed 0⟩

/-- `cnt_sram_ce` (05, object 0x9410:01): U64, RO, VOLATILE, default 0. -/
def Ob.cnt_sram_ce : ObjSpec :=
  ⟨0x9410, 1, 1, 1, .u64, .ro, false, .openWrite, 0, 18446744073709551615, none, .fixed 0⟩

/-- `cnt_sram_ue` (05, object 0x9410:02): U64, RO, VOLATILE, default 0. -/
def Ob.cnt_sram_ue : ObjSpec :=
  ⟨0x9410, 1, 2, 2, .u64, .ro, false, .openWrite, 0, 18446744073709551615, none, .fixed 0⟩

/-- `cnt_parity` (05, object 0x9410:03): U64, RO, VOLATILE, default 0. -/
def Ob.cnt_parity : ObjSpec :=
  ⟨0x9410, 1, 3, 3, .u64, .ro, false, .openWrite, 0, 18446744073709551615, none, .fixed 0⟩

/-- `cnt_bundle_check` (05, object 0x9410:04): U64, RO, VOLATILE, default 0. -/
def Ob.cnt_bundle_check : ObjSpec :=
  ⟨0x9410, 1, 4, 4, .u64, .ro, false, .openWrite, 0, 18446744073709551615, none, .fixed 0⟩

/-- `cnt_residue` (05, object 0x9410:05): U64, RO, VOLATILE, default 0. -/
def Ob.cnt_residue : ObjSpec :=
  ⟨0x9410, 1, 5, 5, .u64, .ro, false, .openWrite, 0, 18446744073709551615, none, .fixed 0⟩

/-- `cnt_watchdog` (05, object 0x9410:06): U64, RO, VOLATILE, default 0. -/
def Ob.cnt_watchdog : ObjSpec :=
  ⟨0x9410, 1, 6, 6, .u64, .ro, false, .openWrite, 0, 18446744073709551615, none, .fixed 0⟩

/-- `cnt_schedule_fault` (05, object 0x9410:07): U64, RO, VOLATILE, default 0. -/
def Ob.cnt_schedule_fault : ObjSpec :=
  ⟨0x9410, 1, 7, 7, .u64, .ro, false, .openWrite, 0, 18446744073709551615, none, .fixed 0⟩

/-- `cnt_core_fault` (05, object 0x9410:08): U64, RO, VOLATILE, default 0. -/
def Ob.cnt_core_fault : ObjSpec :=
  ⟨0x9410, 1, 8, 8, .u64, .ro, false, .openWrite, 0, 18446744073709551615, none, .fixed 0⟩

/-- `cnt_slot_void` (05, object 0x9410:09): U64, RO, VOLATILE, default 0. -/
def Ob.cnt_slot_void : ObjSpec :=
  ⟨0x9410, 1, 9, 9, .u64, .ro, false, .openWrite, 0, 18446744073709551615, none, .fixed 0⟩

/-- `cnt_cores_fenced` (05, object 0x9410:0A): U32, RO, VOLATILE, default 0. -/
def Ob.cnt_cores_fenced : ObjSpec :=
  ⟨0x9410, 1, 10, 10, .u32, .ro, false, .openWrite, 0, 4294967295, none, .fixed 0⟩

/-- `cnt_clusters_fenced` (05, object 0x9410:0B): U32, RO, VOLATILE, default 0. -/
def Ob.cnt_clusters_fenced : ObjSpec :=
  ⟨0x9410, 1, 11, 11, .u32, .ro, false, .openWrite, 0, 4294967295, none, .fixed 0⟩

/-- `sync_trv_per_cluster` (10, object 0x9500:01): U8, RWF, PERSIST, default 24. -/
def Ob.sync_trv_per_cluster : ObjSpec :=
  ⟨0x9500, 1, 1, 1, .u8, .rwf, true, .openWrite, 16, 32, none, .fixed 24⟩

/-- `sync_group_ticks` (10, object 0x9500:02): U16, RO, VOLATILE, default 0. -/
def Ob.sync_group_ticks : ObjSpec :=
  ⟨0x9500, 1, 2, 2, .u16, .ro, false, .openWrite, 0, 65535, none, .fixed 0⟩

/-- `sync_free_h0` (10, object 0x9500:03): U16, RO, VOLATILE, default —. -/
def Ob.sync_free_h0 : ObjSpec :=
  ⟨0x9500, 1, 3, 3, .u16, .ro, false, .openWrite, 0, 65535, none, .fixed 0⟩

/-- `sync_free_h1` (10, object 0x9500:04): U16, RO, VOLATILE, default —. -/
def Ob.sync_free_h1 : ObjSpec :=
  ⟨0x9500, 1, 4, 4, .u16, .ro, false, .openWrite, 0, 65535, none, .fixed 0⟩

/-- `cnt_sync_ops` (10, object 0x951h:01): U64, RO, VOLATILE, default 0. -/
def Ob.cnt_sync_ops : ObjSpec :=
  ⟨0x9510, 2, 1, 1, .u64, .ro, false, .openWrite, 0, 18446744073709551615, none, .fixed 0⟩

/-- `cnt_sync_timeouts` (10, object 0x951h:02): U64, RO, VOLATILE, default 0. -/
def Ob.cnt_sync_timeouts : ObjSpec :=
  ⟨0x9510, 2, 2, 2, .u64, .ro, false, .openWrite, 0, 18446744073709551615, none, .fixed 0⟩

/-- `cnt_closure_releases` (10, object 0x951h:03): U64, RO, VOLATILE, default 0. -/
def Ob.cnt_closure_releases : ObjSpec :=
  ⟨0x9510, 2, 3, 3, .u64, .ro, false, .openWrite, 0, 18446744073709551615, none, .fixed 0⟩

/-- `cnt_closure_overrun` (10, object 0x951h:04): U64, RO, VOLATILE, default 0. -/
def Ob.cnt_closure_overrun : ObjSpec :=
  ⟨0x9510, 2, 4, 4, .u64, .ro, false, .openWrite, 0, 18446744073709551615, none, .fixed 0⟩

/-- `cnt_closure_excess` (10, object 0x951h:05): U64, RO, VOLATILE, default 0. -/
def Ob.cnt_closure_excess : ObjSpec :=
  ⟨0x9510, 2, 5, 5, .u64, .ro, false, .openWrite, 0, 18446744073709551615, none, .fixed 0⟩

/-- `cnt_gate_expired` (10, object 0x951h:06): U64, RO, VOLATILE, default 0. -/
def Ob.cnt_gate_expired : ObjSpec :=
  ⟨0x9510, 2, 6, 6, .u64, .ro, false, .openWrite, 0, 18446744073709551615, none, .fixed 0⟩

/-- `cnt_sync_rehome` (10, object 0x951h:07): U64, RO, VOLATILE, default 0. -/
def Ob.cnt_sync_rehome : ObjSpec :=
  ⟨0x9510, 2, 7, 7, .u64, .ro, false, .openWrite, 0, 18446744073709551615, none, .fixed 0⟩

/-- `cnt_notify_suppressed` (10, object 0x951h:08): U64, RO, VOLATILE, default 0. -/
def Ob.cnt_notify_suppressed : ObjSpec :=
  ⟨0x9510, 2, 8, 8, .u64, .ro, false, .openWrite, 0, 18446744073709551615, none, .fixed 0⟩

/-- `search_throttle` (09, object 0xA010:01): U8, RW, PERSIST, default 0. -/
def Ob.search_throttle : ObjSpec :=
  ⟨0xA010, 1, 1, 1, .u8, .rw, true, .openWrite, 0, 1, none, .fixed 0⟩

/-- `search_trv_share` (09, object 0xA010:02): U8, RWF, PERSIST, default 4. -/
def Ob.search_trv_share : ObjSpec :=
  ⟨0xA010, 1, 2, 2, .u8, .rwf, true, .openWrite, 0, 16, none, .fixed 4⟩

/-- `search_rate_h0` (09, object 0xA010:03): U8, RO, VOLATILE, default 64. -/
def Ob.search_rate_h0 : ObjSpec :=
  ⟨0xA010, 1, 3, 3, .u8, .ro, false, .openWrite, 0, 255, none, .fixed 64⟩

/-- `search_rate_h1` (09, object 0xA010:04): U8, RO, VOLATILE, default 64. -/
def Ob.search_rate_h1 : ObjSpec :=
  ⟨0xA010, 1, 4, 4, .u8, .ro, false, .openWrite, 0, 255, none, .fixed 64⟩

/-- `cam_rule_entries` (09, object 0xA011:01): U32, RWF, PERSIST, default 8,192. -/
def Ob.cam_rule_entries : ObjSpec :=
  ⟨0xA011, 1, 1, 1, .u32, .rwf, true, .openWrite, 0, 131072, none, .fixed 8192⟩

/-- `cam_rule_gap` (09, object 0xA011:02): U16, RWF, PERSIST, default 32. -/
def Ob.cam_rule_gap : ObjSpec :=
  ⟨0xA011, 1, 2, 2, .u16, .rwf, true, .openWrite, 8, 256, none, .fixed 32⟩

/-- `cam_trv_entries` (09, object 0xA011:03): U32, RWF, PERSIST, default 4,096. -/
def Ob.cam_trv_entries : ObjSpec :=
  ⟨0xA011, 1, 3, 3, .u32, .rwf, true, .openWrite, 0, 65536, none, .fixed 4096⟩

/-- `cam_prefix_entries` (09, object 0xA011:04): U32, RWF, PERSIST, default 65,536. -/
def Ob.cam_prefix_entries : ObjSpec :=
  ⟨0xA011, 1, 4, 4, .u32, .rwf, true, .openWrite, 0, 262144, none, .fixed 65536⟩

/-- `cam_read_addr` (09, object 0xA012:01): U32, RW, VOLATILE, default 0. -/
def Ob.cam_read_addr : ObjSpec :=
  ⟨0xA012, 1, 1, 1, .u32, .rw, false, .openWrite, 0, 4294967295, none, .fixed 0⟩

/-- `cam_read_data` (09, object 0xA012:02): OCTETS (48), RO, VOLATILE, default —. -/
def Ob.cam_read_data : ObjSpec :=
  ⟨0xA012, 1, 2, 2, .octets, .ro, false, .openWrite, 48, 48, none, .fixed 0⟩

/-- `search_clusters` (09, object 0xA013:01): U8, RWF, PERSIST, default 16. -/
def Ob.search_clusters : ObjSpec :=
  ⟨0xA013, 1, 1, 1, .u8, .rwf, true, .openWrite, 0, 64, none, .fixed 16⟩

/-- `vx_state` (09, object 0xA1ii:01): U8, RO, VOLATILE, default 0. -/
def Ob.vx_state : ObjSpec :=
  ⟨0xA100, 256, 1, 1, .u8, .ro, false, .openWrite, 0, 255, none, .fixed 0⟩

/-- `vx_command` (09, object 0xA1ii:02): U8, WO, default —. -/
def Ob.vx_command : ObjSpec :=
  ⟨0xA100, 256, 2, 2, .u8, .wo, false, .guarded, 1, 3, none, .fixed 0⟩

/-- `vx_status` (09, object 0xA1ii:03): U16, RO, VOLATILE, default 0. -/
def Ob.vx_status : ObjSpec :=
  ⟨0xA100, 256, 3, 3, .u16, .ro, false, .openWrite, 0, 65535, none, .fixed 0⟩

/-- `vx_kind` (09, object 0xA1ii:04): U8, RW, VOLATILE, default 0. -/
def Ob.vx_kind : ObjSpec :=
  ⟨0xA100, 256, 4, 4, .u8, .rw, false, .openWrite, 0, 1, none, .fixed 0⟩

/-- `vx_metric` (09, object 0xA1ii:05): U8, RW, VOLATILE, default 0. -/
def Ob.vx_metric : ObjSpec :=
  ⟨0xA100, 256, 5, 5, .u8, .rw, false, .openWrite, 0, 2, none, .fixed 0⟩

/-- `vx_dims` (09, object 0xA1ii:06): U16, RW, VOLATILE, default 1,024. -/
def Ob.vx_dims : ObjSpec :=
  ⟨0xA100, 256, 6, 6, .u16, .rw, false, .openWrite, 16, 4096, none, .fixed 1024⟩

/-- `vx_degree` (09, object 0xA1ii:07): U8, RW, VOLATILE, default 32. -/
def Ob.vx_degree : ObjSpec :=
  ⟨0xA100, 256, 7, 7, .u8, .rw, false, .openWrite, 8, 64, none, .fixed 32⟩

/-- `vx_capacity` (09, object 0xA1ii:08): U32, RW, VOLATILE, default 1,048,576. -/
def Ob.vx_capacity : ObjSpec :=
  ⟨0xA100, 256, 8, 8, .u32, .rw, false, .openWrite, 1024, 4294967294, none, .fixed 1048576⟩

/-- `vx_half` (09, object 0xA1ii:09): U8, RW, VOLATILE, default 0. -/
def Ob.vx_half : ObjSpec :=
  ⟨0xA100, 256, 9, 9, .u8, .rw, false, .openWrite, 0, 1, none, .fixed 0⟩

/-- `vx_station` (09, object 0xA1ii:0A): U16, RW, VOLATILE, default 0xFFFF. -/
def Ob.vx_station : ObjSpec :=
  ⟨0xA100, 256, 10, 10, .u16, .rw, false, .openWrite, 0, 255, (some 65535), .fixed 65535⟩

/-- `vx_build_beam` (09, object 0xA1ii:0B): U16, RW, VOLATILE, default 128. -/
def Ob.vx_build_beam : ObjSpec :=
  ⟨0xA100, 256, 11, 11, .u16, .rw, false, .openWrite, 16, 1024, none, .fixed 128⟩

/-- `vx_advance_ticks` (09, object 0xA1ii:0C): U32, RW, VOLATILE, default 25,000. -/
def Ob.vx_advance_ticks : ObjSpec :=
  ⟨0xA100, 256, 12, 12, .u32, .rw, false, .openWrite, 250, 25000000, none, .fixed 25000⟩

/-- `vx_source` (09, object 0xA1ii:0D): OCTETS (16), RW, VOLATILE, default all zero. -/
def Ob.vx_source : ObjSpec :=
  ⟨0xA100, 256, 13, 13, .octets, .rw, false, .guarded, 16, 16, none, .fixed 0⟩

/-- `vx_digest` (09, object 0xA1ii:0E): OCTETS (32), RW, VOLATILE, default all zero. -/
def Ob.vx_digest : ObjSpec :=
  ⟨0xA100, 256, 14, 14, .octets, .rw, false, .openWrite, 32, 32, none, .fixed 0⟩

/-- `vx_epoch` (09, object 0xA1ii:0F): U32, RO, VOLATILE, default 0. -/
def Ob.vx_epoch : ObjSpec :=
  ⟨0xA100, 256, 15, 15, .u32, .ro, false, .openWrite, 0, 4294967295, none, .fixed 0⟩

/-- `vx_del_seq` (09, object 0xA1ii:10): U32, RO, VOLATILE, default 0. -/
def Ob.vx_del_seq : ObjSpec :=
  ⟨0xA100, 256, 16, 16, .u32, .ro, false, .openWrite, 0, 4294967295, none, .fixed 0⟩

/-- `vx_live` (09, object 0xA1ii:11): U64, RO, VOLATILE, default 0. -/
def Ob.vx_live : ObjSpec :=
  ⟨0xA100, 256, 17, 17, .u64, .ro, false, .openWrite, 0, 18446744073709551615, none, .fixed 0⟩

/-- `vx_entry` (09, object 0xA1ii:12): U32, RO, VOLATILE, default 0xFFFFFFFF. -/
def Ob.vx_entry : ObjSpec :=
  ⟨0xA100, 256, 18, 18, .u32, .ro, false, .openWrite, 0, 4294967295, none, .fixed 4294967295⟩

/-- `vx_sweep_pos` (09, object 0xA1ii:13): U32, RO, VOLATILE, default 0xFFFFFFFF. -/
def Ob.vx_sweep_pos : ObjSpec :=
  ⟨0xA100, 256, 19, 19, .u32, .ro, false, .openWrite, 0, 4294967295, none, .fixed 4294967295⟩

/-- `vx_journal_pos` (09, object 0xA1ii:14): U64, RO, VOLATILE, default 0. -/
def Ob.vx_journal_pos : ObjSpec :=
  ⟨0xA100, 256, 20, 20, .u64, .ro, false, .openWrite, 0, 18446744073709551615, none, .fixed 0⟩

/-- `cnt_cam_searches` (09, object 0xA20h:01): U64, RO, VOLATILE, default 0. -/
def Ob.cnt_cam_searches : ObjSpec :=
  ⟨0xA200, 2, 1, 1, .u64, .ro, false, .openWrite, 0, 18446744073709551615, none, .fixed 0⟩

/-- `cnt_cam_hits` (09, object 0xA20h:02): U64, RO, VOLATILE, default 0. -/
def Ob.cnt_cam_hits : ObjSpec :=
  ⟨0xA200, 2, 2, 2, .u64, .ro, false, .openWrite, 0, 18446744073709551615, none, .fixed 0⟩

/-- `cnt_cam_queue_full` (09, object 0xA20h:03): U64, RO, VOLATILE, default 0. -/
def Ob.cnt_cam_queue_full : ObjSpec :=
  ⟨0xA200, 2, 3, 3, .u64, .ro, false, .openWrite, 0, 18446744073709551615, none, .fixed 0⟩

/-- `cnt_cam_shift_writes` (09, object 0xA20h:04): U64, RO, VOLATILE, default 0. -/
def Ob.cnt_cam_shift_writes : ObjSpec :=
  ⟨0xA200, 2, 4, 4, .u64, .ro, false, .openWrite, 0, 18446744073709551615, none, .fixed 0⟩

/-- `cnt_cam_rebalance` (09, object 0xA20h:05): U64, RO, VOLATILE, default 0. -/
def Ob.cnt_cam_rebalance : ObjSpec :=
  ⟨0xA200, 2, 5, 5, .u64, .ro, false, .openWrite, 0, 18446744073709551615, none, .fixed 0⟩

/-- `cnt_cam_parity` (09, object 0xA20h:06): U64, RO, VOLATILE, default 0. -/
def Ob.cnt_cam_parity : ObjSpec :=
  ⟨0xA200, 2, 6, 6, .u64, .ro, false, .openWrite, 0, 18446744073709551615, none, .fixed 0⟩

/-- `cnt_search_throttle_windows` (09, object 0xA20h:07): U64, RO, VOLATILE, default 0. -/
def Ob.cnt_search_throttle_windows : ObjSpec :=
  ⟨0xA200, 2, 7, 7, .u64, .ro, false, .openWrite, 0, 18446744073709551615, none, .fixed 0⟩

/-- `cnt_vx_queries` (09, object 0xA20h:08): U64, RO, VOLATILE, default 0. -/
def Ob.cnt_vx_queries : ObjSpec :=
  ⟨0xA200, 2, 8, 8, .u64, .ro, false, .openWrite, 0, 18446744073709551615, none, .fixed 0⟩

/-- `cnt_vx_nodes_evaluated` (09, object 0xA20h:09): U64, RO, VOLATILE, default 0. -/
def Ob.cnt_vx_nodes_evaluated : ObjSpec :=
  ⟨0xA200, 2, 9, 9, .u64, .ro, false, .openWrite, 0, 18446744073709551615, none, .fixed 0⟩

/-- `cnt_vx_prefetch_tiles` (09, object 0xA20h:0A): U64, RO, VOLATILE, default 0. -/
def Ob.cnt_vx_prefetch_tiles : ObjSpec :=
  ⟨0xA200, 2, 10, 10, .u64, .ro, false, .openWrite, 0, 18446744073709551615, none, .fixed 0⟩

/-- `cnt_vx_stepping_stones` (09, object 0xA20h:0B): U64, RO, VOLATILE, default 0. -/
def Ob.cnt_vx_stepping_stones : ObjSpec :=
  ⟨0xA200, 2, 11, 11, .u64, .ro, false, .openWrite, 0, 18446744073709551615, none, .fixed 0⟩

/-- `cnt_vx_truncated` (09, object 0xA20h:0C): U64, RO, VOLATILE, default 0. -/
def Ob.cnt_vx_truncated : ObjSpec :=
  ⟨0xA200, 2, 12, 12, .u64, .ro, false, .openWrite, 0, 18446744073709551615, none, .fixed 0⟩

/-- `cnt_vx_retired` (09, object 0xA20h:0D): U64, RO, VOLATILE, default 0. -/
def Ob.cnt_vx_retired : ObjSpec :=
  ⟨0xA200, 2, 13, 13, .u64, .ro, false, .openWrite, 0, 18446744073709551615, none, .fixed 0⟩

/-- `cnt_vx_advance_stall` (09, object 0xA20h:0E): U64, RO, VOLATILE, default 0. -/
def Ob.cnt_vx_advance_stall : ObjSpec :=
  ⟨0xA200, 2, 14, 14, .u64, .ro, false, .openWrite, 0, 18446744073709551615, none, .fixed 0⟩

/-- `cnt_prefix_cam_full` (09, object 0xA20h:0F): U64, RO, VOLATILE, default 0. -/
def Ob.cnt_prefix_cam_full : ObjSpec :=
  ⟨0xA200, 2, 15, 15, .u64, .ro, false, .openWrite, 0, 18446744073709551615, none, .fixed 0⟩

/-- `dict_state` (07, object 0xB0dd:01): U8, RO, VOLATILE, default 0. -/
def Ob.dict_state : ObjSpec :=
  ⟨0xB000, 4, 1, 1, .u8, .ro, false, .openWrite, 0, 255, none, .fixed 0⟩

/-- `dict_source` (07, object 0xB0dd:02): OCTETS (16), RW, VOLATILE, default all zero. -/
def Ob.dict_source : ObjSpec :=
  ⟨0xB000, 4, 2, 2, .octets, .rw, false, .guarded, 16, 16, none, .fixed 0⟩

/-- `dict_command` (07, object 0xB0dd:03): U8, WO, default —. -/
def Ob.dict_command : ObjSpec :=
  ⟨0xB000, 4, 3, 3, .u8, .wo, false, .guarded, 1, 2, none, .fixed 0⟩

/-- `dict_status` (07, object 0xB0dd:04): U16, RO, VOLATILE, default 0. -/
def Ob.dict_status : ObjSpec :=
  ⟨0xB000, 4, 4, 4, .u16, .ro, false, .openWrite, 0, 65535, none, .fixed 0⟩

/-- `dict_digest` (07, object 0xB0dd:05): OCTETS (32), RW, VOLATILE, default all zero. -/
def Ob.dict_digest : ObjSpec :=
  ⟨0xB000, 4, 5, 5, .octets, .rw, false, .guarded, 32, 32, none, .fixed 0⟩

/-- `dict_models` (07, object 0xB0dd:06): U16, RW, PERSIST, default 0. -/
def Ob.dict_models : ObjSpec :=
  ⟨0xB000, 4, 6, 6, .u16, .rw, true, .openWrite, 0, 65535, none, .fixed 0⟩

/-- `stn_stop_set` (07, object 0xB1ss:01-10): OCTETS (0–1,056), RW, PERSIST, default empty. -/
def Ob.stn_stop_set : ObjSpec :=
  ⟨0xB100, 256, 1, 16, .octets, .rw, true, .openWrite, 0, 1056, none, .fixed 0⟩

/-- `gp_state` (07, object 0xB2gg:01): U8, RO, VOLATILE, default 0. -/
def Ob.gp_state : ObjSpec :=
  ⟨0xB200, 256, 1, 1, .u8, .ro, false, .openWrite, 0, 255, none, .fixed 0⟩

/-- `gp_source` (07, object 0xB2gg:02): OCTETS (16), RW, VOLATILE, default all zero. -/
def Ob.gp_source : ObjSpec :=
  ⟨0xB200, 256, 2, 2, .octets, .rw, false, .guarded, 16, 16, none, .fixed 0⟩

/-- `gp_command` (07, object 0xB2gg:03): U8, WO, default —. -/
def Ob.gp_command : ObjSpec :=
  ⟨0xB200, 256, 3, 3, .u8, .wo, false, .guarded, 1, 2, none, .fixed 0⟩

/-- `gp_status` (07, object 0xB2gg:04): U16, RO, VOLATILE, default 0. -/
def Ob.gp_status : ObjSpec :=
  ⟨0xB200, 256, 4, 4, .u16, .ro, false, .openWrite, 0, 65535, none, .fixed 0⟩

/-- `gp_digest` (07, object 0xB2gg:05): OCTETS (32), RW, VOLATILE, default all zero. -/
def Ob.gp_digest : ObjSpec :=
  ⟨0xB200, 256, 5, 5, .octets, .rw, false, .guarded, 32, 32, none, .fixed 0⟩

/-- `gp_model` (07, object 0xB2gg:06): U8, RW, VOLATILE, default 0. -/
def Ob.gp_model : ObjSpec :=
  ⟨0xB200, 256, 6, 6, .u8, .rw, false, .openWrite, 0, 15, none, .fixed 0⟩

/-- `gp_station` (07, object 0xB2gg:07): U16, RW, VOLATILE, default 0xFFFF. -/
def Ob.gp_station : ObjSpec :=
  ⟨0xB200, 256, 7, 7, .u16, .rw, false, .openWrite, 0, 255, (some 65535), .fixed 65535⟩

/-- `text_clusters` (07, object 0xB400:01): U8, RWF, PERSIST, default 16. -/
def Ob.text_clusters : ObjSpec :=
  ⟨0xB400, 1, 1, 1, .u8, .rwf, true, .openWrite, 8, 32, none, .fixed 16⟩

/-- `gr_cache_tiles` (07, object 0xB400:02): U32, RWF, PERSIST, default 16,384. -/
def Ob.gr_cache_tiles : ObjSpec :=
  ⟨0xB400, 1, 2, 2, .u32, .rwf, true, .openWrite, 0, 262144, none, .fixed 16384⟩

/-- `cnt_byte_fallback` (07, object 0xB41h:01): U64, RO, VOLATILE, default 0. -/
def Ob.cnt_byte_fallback : ObjSpec :=
  ⟨0xB410, 2, 1, 1, .u64, .ro, false, .openWrite, 0, 18446744073709551615, none, .fixed 0⟩

/-- `cnt_text_starved` (07, object 0xB41h:02): U64, RO, VOLATILE, default 0. -/
def Ob.cnt_text_starved : ObjSpec :=
  ⟨0xB410, 2, 2, 2, .u64, .ro, false, .openWrite, 0, 18446744073709551615, none, .fixed 0⟩

/-- `cnt_mask_cache_hit` (07, object 0xB41h:03): U64, RO, VOLATILE, default 0. -/
def Ob.cnt_mask_cache_hit : ObjSpec :=
  ⟨0xB410, 2, 3, 3, .u64, .ro, false, .openWrite, 0, 18446744073709551615, none, .fixed 0⟩

/-- `cnt_mask_cache_miss` (07, object 0xB41h:04): U64, RO, VOLATILE, default 0. -/
def Ob.cnt_mask_cache_miss : ObjSpec :=
  ⟨0xB410, 2, 4, 4, .u64, .ro, false, .openWrite, 0, 18446744073709551615, none, .fixed 0⟩

/-- `cnt_grammar_dead` (07, object 0xB41h:05): U64, RO, VOLATILE, default 0. -/
def Ob.cnt_grammar_dead : ObjSpec :=
  ⟨0xB410, 2, 5, 5, .u64, .ro, false, .openWrite, 0, 18446744073709551615, none, .fixed 0⟩

/-- `cnt_stop_matches` (07, object 0xB41h:06): U64, RO, VOLATILE, default 0. -/
def Ob.cnt_stop_matches : ObjSpec :=
  ⟨0xB410, 2, 6, 6, .u64, .ro, false, .openWrite, 0, 18446744073709551615, none, .fixed 0⟩

/-- `stn_cnt_invalid_utf8` (07, object 0xB6ss:01): U64, RO, VOLATILE, default 0. -/
def Ob.stn_cnt_invalid_utf8 : ObjSpec :=
  ⟨0xB600, 256, 1, 1, .u64, .ro, false, .openWrite, 0, 18446744073709551615, none, .fixed 0⟩

/-- `stn_cnt_truncated` (07, object 0xB6ss:02): U64, RO, VOLATILE, default 0. -/
def Ob.stn_cnt_truncated : ObjSpec :=
  ⟨0xB600, 256, 2, 2, .u64, .ro, false, .openWrite, 0, 18446744073709551615, none, .fixed 0⟩

/-- `stn_cnt_special_escaped` (07, object 0xB6ss:03): U64, RO, VOLATILE, default 0. -/
def Ob.stn_cnt_special_escaped : ObjSpec :=
  ⟨0xB600, 256, 3, 3, .u64, .ro, false, .openWrite, 0, 18446744073709551615, none, .fixed 0⟩

/-- `stn_cnt_grammar_dead` (07, object 0xB6ss:04): U64, RO, VOLATILE, default 0. -/
def Ob.stn_cnt_grammar_dead : ObjSpec :=
  ⟨0xB600, 256, 4, 4, .u64, .ro, false, .openWrite, 0, 18446744073709551615, none, .fixed 0⟩

/-- `tn_step_rate` (11, object 0x35ss:10): U32, RW, PERSIST, default 0xFFFFFFFF. -/
def Ob.tn_step_rate : ObjSpec :=
  ⟨0x12000, 4096, 16, 16, .u32, .rw, true, .openWrite, 0, 4294967295, none, .fixed 4294967295⟩

/-- `tn_step_burst` (11, object 0x35ss:11): U32, RW, PERSIST, default 0xFFFFFFFF. -/
def Ob.tn_step_burst : ObjSpec :=
  ⟨0x12000, 4096, 17, 17, .u32, .rw, true, .openWrite, 0, 4294967295, none, .fixed 4294967295⟩

/-- `tn_step_action` (11, object 0x35ss:12): U8, RW, PERSIST, default 0. -/
def Ob.tn_step_action : ObjSpec :=
  ⟨0x12000, 4096, 18, 18, .u8, .rw, true, .openWrite, 0, 1, none, .fixed 0⟩

/-- `tn_step_level` (11, object 0x35ss:13): I64, RO, VOLATILE, default Burst (R381); 0 while unlimited. -/
def Ob.tn_step_level : ObjSpec :=
  ⟨0x12000, 4096, 19, 19, .i64, .ro, false, .openWrite, 0, 18446744073709551615, none, .fixed 0⟩

/-- `tn_revive_rate` (11, object 0x35ss:14): U32, RW, PERSIST, default 0xFFFFFFFF. -/
def Ob.tn_revive_rate : ObjSpec :=
  ⟨0x12000, 4096, 20, 20, .u32, .rw, true, .openWrite, 0, 4294967295, none, .fixed 4294967295⟩

/-- `tn_revive_burst` (11, object 0x35ss:15): U32, RW, PERSIST, default 0xFFFFFFFF. -/
def Ob.tn_revive_burst : ObjSpec :=
  ⟨0x12000, 4096, 21, 21, .u32, .rw, true, .openWrite, 0, 4294967295, none, .fixed 4294967295⟩

/-- `tn_revive_level` (11, object 0x35ss:16): I64, RO, VOLATILE, default As `stn_step_level`. -/
def Ob.tn_revive_level : ObjSpec :=
  ⟨0x12000, 4096, 22, 22, .i64, .ro, false, .openWrite, 0, 18446744073709551615, none, .fixed 0⟩

/-- `tn_park_rate` (11, object 0x35ss:17): U32, RW, PERSIST, default 0xFFFFFFFF. -/
def Ob.tn_park_rate : ObjSpec :=
  ⟨0x12000, 4096, 23, 23, .u32, .rw, true, .openWrite, 0, 4294967295, none, .fixed 4294967295⟩

/-- `tn_park_burst` (11, object 0x35ss:18): U32, RW, PERSIST, default 0xFFFFFFFF. -/
def Ob.tn_park_burst : ObjSpec :=
  ⟨0x12000, 4096, 24, 24, .u32, .rw, true, .openWrite, 0, 4294967295, none, .fixed 4294967295⟩

/-- `tn_park_level` (11, object 0x35ss:19): I64, RO, VOLATILE, default As `stn_step_level`. -/
def Ob.tn_park_level : ObjSpec :=
  ⟨0x12000, 4096, 25, 25, .i64, .ro, false, .openWrite, 0, 18446744073709551615, none, .fixed 0⟩

/-- `tn_query_rate` (11, object 0x35ss:1A): U32, RW, PERSIST, default 0xFFFFFFFF. -/
def Ob.tn_query_rate : ObjSpec :=
  ⟨0x12000, 4096, 26, 26, .u32, .rw, true, .openWrite, 0, 4294967295, none, .fixed 4294967295⟩

/-- `tn_query_burst` (11, object 0x35ss:1B): U32, RW, PERSIST, default 0xFFFFFFFF. -/
def Ob.tn_query_burst : ObjSpec :=
  ⟨0x12000, 4096, 27, 27, .u32, .rw, true, .openWrite, 0, 4294967295, none, .fixed 4294967295⟩

/-- `tn_query_action` (11, object 0x35ss:1C): U8, RW, PERSIST, default 0. -/
def Ob.tn_query_action : ObjSpec :=
  ⟨0x12000, 4096, 28, 28, .u8, .rw, true, .openWrite, 0, 1, none, .fixed 0⟩

/-- `tn_query_level` (11, object 0x35ss:1D): I64, RO, VOLATILE, default As `stn_step_level`. -/
def Ob.tn_query_level : ObjSpec :=
  ⟨0x12000, 4096, 29, 29, .i64, .ro, false, .openWrite, 0, 18446744073709551615, none, .fixed 0⟩

/-- Rows 1 to 40 of the dictionary. -/
def objRows0 : List ObjSpec :=
  [Ob.id_vendor, Ob.id_product, Ob.id_part, Ob.id_stepping,
   Ob.id_fingerprint, Ob.id_public_key, Ob.id_certificate, Ob.id_boot_count,
   Ob.id_last_reset, Ob.fw_version, Ob.fw_svn, Ob.rom_version,
   Ob.witness_mode, Ob.witness_peer, Ob.witness_extent, Ob.witness_station,
   Ob.witness_timeout, Ob.witness_loss_action, Ob.witness_state, Ob.rebuild_row_share,
   Ob.fallback_h0_lost, Ob.fallback_h1_lost, Ob.witness_status, Ob.fb_tiles_h0,
   Ob.fb_tiles_h1, Ob.fb_used_h0, Ob.fb_used_h1, Ob.fb_pos_h0,
   Ob.fb_pos_h1, Ob.fb_degraded, Ob.fb_adopt_source, Ob.fb_adopt_command,
   Ob.fb_adopt_status, Ob.fb_adopt_device, Ob.mgmt_legacy, Ob.fn_node_base,
   Ob.fn_plca_count, Ob.fn_mac, Ob.opdun_idle_ticks, Ob.opdun_frag_ticks]

/-- Rows 41 to 80 of the dictionary. -/
def objRows1 : List ObjSpec :=
  [Ob.opdun_assocs, Ob.cnt_legacy_ignored, Ob.handle_cam_quota, Ob.ck_store,
   Ob.ck_keep, Ob.ck_stage_tiles, Ob.ck_stage_reserve, Ob.ck_command,
   Ob.ck_id, Ob.ck_frame, Ob.ck_status, Ob.ck_state,
   Ob.ck_progress, Ob.rs_source, Ob.rs_command, Ob.rs_status,
   Ob.rs_refused, Ob.rs_restored_id, Ob.cal_time, Ob.cal_set,
   Ob.cal_valid, Ob.cal_anchor, Ob.cnt_cal_step, Ob.pk_open_t1,
   Ob.pk_wait_t1, Ob.pk_t2_dwell, Ob.pk_lower, Ob.pk_t3_station,
   Ob.pk_rank, Ob.t1_low_water, Ob.t1_high_water, Ob.t2_low_water,
   Ob.t2_high_water, Ob.t3_timeout, Ob.t4_timeout, Ob.snap_epoch_h0,
   Ob.snap_epoch_h1, Ob.t1_slots_free, Ob.t2_system_rows, Ob.gl_entries]

/-- Rows 81 to 120 of the dictionary. -/
def objRows2 : List ObjSpec :=
  [Ob.gl_takeover, Ob.gl_command, Ob.gl_status, Ob.v_time,
   Ob.t2_channel_state, Ob.t2_channel_command, Ob.t2_rebuild_share, Ob.t2_rebuild_pos,
   Ob.t2_channel_status, Ob.ue_rows_limit, Ob.ue_window, Ob.t1_stack_state,
   Ob.tn_select, Ob.tn_weight, Ob.ar_insert, Ob.ar_remove,
   Ob.ar_status, Ob.stn_privileged, Ob.stn_field_book, Ob.stn_cancel_policy,
   Ob.stn_revive_default, Ob.stn_session_max, Ob.stn_prefix_max, Ob.stn_wait_ticks,
   Ob.stn_seq_high, Ob.stn_slice, Ob.stn_module, Ob.stn_intake_kib,
   Ob.stn_host_read_ticks, Ob.stn_state, Ob.stn_cnt_intake_drop, Ob.stn_cnt_events_lost,
   Ob.stn_cnt_hb_missed, Ob.stn_t3_extent, Ob.stn_tool_head, Ob.stn_tool_tail,
   Ob.stn_tool_marker, Ob.stn_sync_max, Ob.stn_sync_define, Ob.stn_sync_op]

/-- Rows 121 to 160 of the dictionary. -/
def objRows3 : List ObjSpec :=
  [Ob.stn_sync_select, Ob.stn_sync_state, Ob.stn_sync_gate_ticks, Ob.stn_sync_status,
   Ob.stn_tenant_first, Ob.stn_tenant_count, Ob.stn_defer_ticks, Ob.stn_step_rate,
   Ob.stn_step_burst, Ob.stn_step_action, Ob.stn_step_level, Ob.stn_revive_rate,
   Ob.stn_revive_burst, Ob.stn_revive_level, Ob.stn_park_rate, Ob.stn_park_burst,
   Ob.stn_park_level, Ob.stn_query_rate, Ob.stn_query_burst, Ob.stn_query_action,
   Ob.stn_query_level, Ob.stn_cap_nonce, Ob.stn_cap_stage, Ob.stn_cap_state,
   Ob.cnt_owner_tag_drop, Ob.cnt_copy_first, Ob.cnt_t1_fallback, Ob.cnt_parity_repair,
   Ob.cnt_tile_lost, Ob.cnt_format_version, Ob.cnt_t3_t4_timeout, Ob.cnt_shadow_reclaim,
   Ob.pad_tiles, Ob.cnt_pressure_park, Ob.cnt_t1_exhausted, Ob.cnt_queue_full,
   Ob.cnt_deadline_miss, Ob.move_completion_log, Ob.cnt_kv_appends, Ob.cnt_kv_tiles_gathered]

/-- Rows 161 to 200 of the dictionary. -/
def objRows4 : List ObjSpec :=
  [Ob.cnt_kv_blocks_skipped, Ob.cnt_kv_cleanup_rows, Ob.cnt_kv_blocks_returned, Ob.cnt_kv_gather_fault,
   Ob.cnt_kv_blocks_allocated, Ob.pt_tiles, Ob.cnt_weight_shadow_reads, Ob.cnt_tokens_drawn,
   Ob.cnt_drafts_proposed, Ob.cnt_drafts_accepted, Ob.cnt_draft_full_reject, Ob.cnt_draft_len_drop,
   Ob.cnt_draft_stopped, Ob.cnt_draft_absent, Ob.cnt_draft_discarded, Ob.cnt_logit_nan,
   Ob.cnt_sample_degenerate, Ob.cnt_ring_entries, Ob.cnt_ring_text_ext, Ob.cnt_ring_hold,
   Ob.cnt_ring_suppressed, Ob.cnt_ring_regenerated, Ob.cnt_ring_index_invalid, Ob.cnt_hold_discarded,
   Ob.cnt_rate_limited, Ob.cnt_defer_ticks, Ob.cnt_rule_denied, Ob.cnt_step_deferred,
   Ob.cnt_gate_takeovers, Ob.cnt_fb_records, Ob.cnt_fb_bytes, Ob.cnt_fb_ack_max_ticks,
   Ob.cnt_already_accepted, Ob.cnt_records_replayed, Ob.cnt_sessions_rebuilt, Ob.cnt_positions_recomputed,
   Ob.cnt_compaction_tiles, Ob.cnt_fb_full, Ob.cnt_witness_lapse, Ob.cnt_reads_reconstructed]

/-- Rows 201 to 240 of the dictionary. -/
def objRows5 : List ObjSpec :=
  [Ob.cnt_channel_failed, Ob.cnt_ck_tiles_written, Ob.cnt_ck_stage_full, Ob.cnt_ck_aborted,
   Ob.cnt_restore_fallback, Ob.stn_cnt_drafts_proposed, Ob.stn_cnt_drafts_accepted, Ob.stn_cnt_draft_full_reject,
   Ob.stn_cnt_draft_stopped, Ob.stn_cnt_ring_hold, Ob.tj_sensor, Ob.tj_max_h0,
   Ob.tj_max_h1, Ob.hbm_temp, Ob.mp_temp_h0, Ob.mp_temp_h1,
   Ob.tile_power, Ob.vbat, Ob.err_coalesce_ticks, Ob.err_unread,
   Ob.err_read, Ob.err_spill_tiles, Ob.err_dropped, Ob.err_src_select,
   Ob.err_first, Ob.err_recent, Ob.err_clear, Ob.err_src_total,
   Ob.sec_state, Ob.cap_max_life, Ob.fw_source, Ob.fw_chunk,
   Ob.fw_command, Ob.fw_status, Ob.fw_slot_state, Ob.fw_floor,
   Ob.fw_trial_ticks, Ob.att_nonce, Ob.att_state, Ob.att_report]

/-- Rows 241 to 280 of the dictionary. -/
def objRows6 : List ObjSpec :=
  [Ob.att_pcr, Ob.mp_log_select, Ob.mp_log_entry, Ob.mp_log_next,
   Ob.tk_key_lo, Ob.tk_key_hi, Ob.tk_purpose, Ob.tk_command,
   Ob.tk_fingerprint, Ob.tk_state, Ob.pd_select, Ob.pd_status,
   Ob.cd_select, Ob.cd_freq_khz, Ob.cd_status, Ob.half0_power_mode,
   Ob.half1_power_mode, Ob.cl_sleep_frames, Ob.deep_sleep_ticks, Ob.tile_power_state,
   Ob.wake_cause, Ob.cnt_sleep_aborted, Ob.wake_max_per_us, Ob.wake_budget_h0,
   Ob.wake_budget_h1, Ob.wake_step, Ob.pwr_limit_sustained, Ob.pwr_limit_peak,
   Ob.pwr_levers, Ob.thermal_state, Ob.cnt_power_limited_ticks, Ob.cnt_thermal_throttle_ticks,
   Ob.cnt_thermal_trip, Ob.power_command, Ob.power_status, Ob.strap_value,
   Ob.stake_wake_mask, Ob.stake_user, Ob.stake_pulse_frames, Ob.cnt_glitch_reset_n]

/-- Rows 281 to 320 of the dictionary. -/
def objRows7 : List ObjSpec :=
  [Ob.cnt_glitch_stake, Ob.cnt_cluster_wakes, Ob.cnt_wake_deferred, Ob.cnt_cluster_sleeps,
   Ob.datum_counter, Ob.datum_state, Ob.datum_edge_err, Ob.group_position,
   Ob.benchmark_device, Ob.up_port, Ob.frame_number, Ob.frame_start_tick,
   Ob.frame_len_now, Ob.hold_log, Ob.cnt_holds, Ob.cnt_held_ticks,
   Ob.cnt_frame_overrun, Ob.cnt_slot_withdrawn, Ob.cnt_frame_void, Ob.cnt_variant_switch,
   Ob.cnt_degraded_switch, Ob.cnt_bucket_overflow, Ob.cnt_span_refused, Ob.cnt_datum_holdover,
   Ob.composition, Ob.plat_device, Ob.plat_domain, Ob.plat_epoch,
   Ob.plat_state, Ob.plat_coordinator, Ob.plat_members, Ob.plat_source,
   Ob.plat_command, Ob.plat_status, Ob.plat_vote_ticks, Ob.plat_drain_ticks,
   Ob.plat_read_offset, Ob.plat_read_data, Ob.port_state, Ob.port_width]

/-- Rows 321 to 360 of the dictionary. -/
def objRows8 : List ObjSpec :=
  [Ob.port_peer, Ob.port_latency_cc, Ob.port_role, Ob.cnt_fec_corrected,
   Ob.cnt_fec_uncorrected, Ob.cnt_replays, Ob.cnt_hb_missed, Ob.fab_quad_mode,
   Ob.fab_train_timeout, Ob.fab_retrain_ticks, Ob.lane_state, Ob.t4_lend_max,
   Ob.t4_lease_grain, Ob.handover_pull_share, Ob.fab_witness_serve, Ob.t4_tiles_lent,
   Ob.t4_tiles_borrowed, Ob.fab_lease_command, Ob.cnt_port_down, Ob.cnt_lane_failed,
   Ob.cnt_link_narrowed, Ob.cnt_ttl_drop, Ob.cnt_plat_moved, Ob.cnt_handover_sessions,
   Ob.cnt_drain_timeout, Ob.cnt_plat_commits, Ob.trv_source, Ob.trv_command,
   Ob.trv_state, Ob.trv_identity, Ob.trv_status, Ob.trv_activate_frame,
   Ob.mdl_state, Ob.mdl_weight_home, Ob.mdl_source, Ob.mdl_command,
   Ob.mdl_status, Ob.mdl_load_count, Ob.mdl_digest, Ob.mdl_layers]

/-- Rows 361 to 400 of the dictionary. -/
def objRows9 : List ObjSpec :=
  [Ob.mdl_kv_groups, Ob.mdl_kv_format, Ob.mdl_window, Ob.mdl_window_layers,
   Ob.mdl_draft_of, Ob.mdl_donor, Ob.mdl_t2_stream_rate, Ob.mdl_max_positions,
   Ob.core_fence_map, Ob.cluster_fence_map, Ob.fence_window, Ob.fence_command,
   Ob.fence_status, Ob.cnt_sram_ce, Ob.cnt_sram_ue, Ob.cnt_parity,
   Ob.cnt_bundle_check, Ob.cnt_residue, Ob.cnt_watchdog, Ob.cnt_schedule_fault,
   Ob.cnt_core_fault, Ob.cnt_slot_void, Ob.cnt_cores_fenced, Ob.cnt_clusters_fenced,
   Ob.sync_trv_per_cluster, Ob.sync_group_ticks, Ob.sync_free_h0, Ob.sync_free_h1,
   Ob.cnt_sync_ops, Ob.cnt_sync_timeouts, Ob.cnt_closure_releases, Ob.cnt_closure_overrun,
   Ob.cnt_closure_excess, Ob.cnt_gate_expired, Ob.cnt_sync_rehome, Ob.cnt_notify_suppressed,
   Ob.search_throttle, Ob.search_trv_share, Ob.search_rate_h0, Ob.search_rate_h1]

/-- Rows 401 to 440 of the dictionary. -/
def objRows10 : List ObjSpec :=
  [Ob.cam_rule_entries, Ob.cam_rule_gap, Ob.cam_trv_entries, Ob.cam_prefix_entries,
   Ob.cam_read_addr, Ob.cam_read_data, Ob.search_clusters, Ob.vx_state,
   Ob.vx_command, Ob.vx_status, Ob.vx_kind, Ob.vx_metric,
   Ob.vx_dims, Ob.vx_degree, Ob.vx_capacity, Ob.vx_half,
   Ob.vx_station, Ob.vx_build_beam, Ob.vx_advance_ticks, Ob.vx_source,
   Ob.vx_digest, Ob.vx_epoch, Ob.vx_del_seq, Ob.vx_live,
   Ob.vx_entry, Ob.vx_sweep_pos, Ob.vx_journal_pos, Ob.cnt_cam_searches,
   Ob.cnt_cam_hits, Ob.cnt_cam_queue_full, Ob.cnt_cam_shift_writes, Ob.cnt_cam_rebalance,
   Ob.cnt_cam_parity, Ob.cnt_search_throttle_windows, Ob.cnt_vx_queries, Ob.cnt_vx_nodes_evaluated,
   Ob.cnt_vx_prefetch_tiles, Ob.cnt_vx_stepping_stones, Ob.cnt_vx_truncated, Ob.cnt_vx_retired]

/-- Rows 441 to 480 of the dictionary. -/
def objRows11 : List ObjSpec :=
  [Ob.cnt_vx_advance_stall, Ob.cnt_prefix_cam_full, Ob.dict_state, Ob.dict_source,
   Ob.dict_command, Ob.dict_status, Ob.dict_digest, Ob.dict_models,
   Ob.stn_stop_set, Ob.gp_state, Ob.gp_source, Ob.gp_command,
   Ob.gp_status, Ob.gp_digest, Ob.gp_model, Ob.gp_station,
   Ob.text_clusters, Ob.gr_cache_tiles, Ob.cnt_byte_fallback, Ob.cnt_text_starved,
   Ob.cnt_mask_cache_hit, Ob.cnt_mask_cache_miss, Ob.cnt_grammar_dead, Ob.cnt_stop_matches,
   Ob.stn_cnt_invalid_utf8, Ob.stn_cnt_truncated, Ob.stn_cnt_special_escaped, Ob.stn_cnt_grammar_dead,
   Ob.tn_step_rate, Ob.tn_step_burst, Ob.tn_step_action, Ob.tn_step_level,
   Ob.tn_revive_rate, Ob.tn_revive_burst, Ob.tn_revive_level, Ob.tn_park_rate,
   Ob.tn_park_burst, Ob.tn_park_level, Ob.tn_query_rate, Ob.tn_query_burst]

/-- Rows 481 to 482 of the dictionary. -/
def objRows12 : List ObjSpec :=
  [Ob.tn_query_action, Ob.tn_query_level]

/-- Every row of the object dictionary (Tables 16-3, 16-13 and the chapters' own). -/
def objTable : List ObjSpec :=
  objRows0 ++ objRows1 ++ objRows2 ++ objRows3 ++ objRows4 ++ objRows5 ++ objRows6 ++ objRows7 ++ objRows8 ++ objRows9 ++ objRows10 ++ objRows11 ++ objRows12

end Sys2Proof.Machine
end

