-- ==== Sys2Proof/Machine/Parts/Cores.lean ====
section
/-! DEFINITION. State of the cores and cluster stores (chapter 5). -/

namespace Sys2Proof.Machine

/-- A matrix operand buffer (Table 5-1): element format, its element octets and its scale octets. -/
structure OperandBuf where
  fmt : Nat
  elems : Octets
  scales : Octets
deriving DecidableEq, Repr

/-- What a write-back carries. -/
inductive WbVal where
  /-- scalar register -/
  | sreg (r : Nat) (v : SWord)
  /-- lanes of a vector register whose mask bit is 1 -/
  | vreg (r : Nat) (lanes : List Lane) (mask : BitVec 32)
  /-- bits of a predicate whose mask bit is 1 -/
  | preg (r : Nat) (v mask : BitVec 32)
  /-- an accumulator's rows in the mask, 256 values in row order -/
  | acc (a : Nat) (v : List Lane) (mask : BitVec 16)
  /-- an operand buffer: 0 MA0, 1 MA1, 2 MB0, 3 MB1 -/
  | buf (b : Nat) (v : OperandBuf)
  /-- bytes of the core store from an address -/
  | store (addr : Nat) (bytes : Octets)
deriving DecidableEq, Repr

/-- A result in flight: the schedule cycle in which it is written, the slot that issued it (R185), and its value. -/
structure WriteBack where
  cycle : Nat
  slot : Nat
  val : WbVal
deriving DecidableEq, Repr

/-- A write on its way to a cluster store: the cycle in which it lands, the core that sent it, address and bytes. -/
structure ClusterWrite where
  cycle : Nat
  core : Nat
  addr : Nat
  bytes : Octets
deriving DecidableEq, Repr

/-- What a read of a cluster store brings its core (R179, R202): the line at an address, for the core store at another; or the child of a trie node for a
byte, for an S register. -/
inductive ClusterFetch where
  | line (addr dst : Nat)
  | child (reg node byte : Nat)
deriving DecidableEq, Repr

/-- A read on its way to a cluster store: the cycle in which it reads, the core, and what it brings. -/
structure ClusterRead where
  cycle : Nat
  core : Nat
  fetch : ClusterFetch
deriving DecidableEq, Repr

/-- One core (Table 5-1, R177). Registers that are not listed hold 0. -/
structure Core where
  sregs : SMap SWord
  vregs : SMap (List Lane)
  pregs : SMap (BitVec 32)
  accs : SMap (List Lane)
  bufs : SMap OperandBuf
  store : ByteStore
  /-- schedule cycle of the operation issued last in this frame -/
  cycle : Nat
  /-- bundle issued last, by its number in the code region, and the one that follows it where a loop goes back (R175, R187) -/
  pc : Nat
  back : Option Nat
  /-- that bundle failed its check (R181, Table 5-8) -/
  bad : Bool
  /-- slots of that bundle whose operations have issued (R185) -/
  done : List Nat
  /-- loops in force, innermost first: remaining passes, and the bundle that begins the body (R187) -/
  loops : List (Nat × Nat)
  /-- cycle from which the MMA unit, and the operand-load unit, is free -/
  mmaFree : Nat
  opFree : Nat
  flight : List WriteBack
  /-- sticky flags of R192: overflow, NaN, saturation -/
  ovf : Bool
  nan : Bool
  sat : Bool
  /-- frame of the core's last fault (R205) -/
  lastFault : Option Nat
deriving DecidableEq, Repr

/-- State of chapter 5 that is no object of the dictionary. -/
structure CoresSt where
  /-- cores by global number 0-4,095; a core not listed is as after reset -/
  cores : SMap Core
  /-- cluster stores of 2 MiB by cluster 0-511 -/
  clusterStores : SMap ByteStore
  /-- writes on their way, by cluster -/
  clusterFlight : SMap (List ClusterWrite)
  /-- reads on their way, by cluster (R179) -/
  clusterReads : SMap (List ClusterRead)
  /-- schedule cycle of the frame's last issue (R174) -/
  now : Nat
  /-- cause of the last core fence of each cluster (R206) -/
  fencedFor : SMap Nat
  /-- frame of each cluster's last charged fault (R205) -/
  clusterFault : SMap Nat
  /-- clusters whose self-test runs (R207), and cores that wait for the next activation -/
  testing : List Nat
  rejoining : List Nat
  /-- schedule cycle at which the scrubber's pass began (R204) -/
  scrubbed : Nat
deriving DecidableEq, Repr

end Sys2Proof.Machine
end

