-- ==== Sys2Proof/Machine/Parts/Management.lean ====
section
/-! DEFINITION. State of the management processor (chapter 16): Opdun associations, held capabilities, trusted keys,
firmware slots, measurement, attestation, the management log and the calendar. -/

namespace Sys2Proof.Machine

/-- Capability body, Table 16-6, less the fields that its acceptance fixes. -/
structure Capability where
  tile : Octets
  holderKind : Nat
  keySlot : Nat
  rights : Nat
  holder : Nat
  nonce : Octets
  notBefore : Nat
  notAfter : Nat
  /-- ranges 0-7: lowest and highest index -/
  ranges : List (Nat × Nat)
deriving DecidableEq, Repr

/-- Reply to one Opdun request (R522-R525): type, request number, index, subindex, status and payload. -/
structure OpdunReply where
  kind : Nat
  assoc : Nat
  client : Nat
  port : Nat
  req : Nat
  index : Nat
  sub : Nat
  status : Nat
  payload : Octets
deriving DecidableEq, Repr

/-- A request of several fragments that is being assembled (R524). -/
structure FragBuf where
  req : Nat
  next : Nat
  bytes : Octets
  last : Nat
deriving DecidableEq, Repr

/-- One Opdun association (R523). -/
structure Assoc where
  client : Nat
  port : Nat
  major : Nat
  minor : Nat
  features : Nat
  nonce : Octets
  lastTick : Nat
  /-- replies to the last 16 request numbers, newest first (R525) -/
  replies : List OpdunReply
  cap : Option Capability
  frag : Option FragBuf
deriving DecidableEq, Repr

/-- Reply of the legacy mailbox (R533). -/
structure MailReply where
  cmd : Nat
  seq : Nat
  arg0 : Nat
  arg1 : Nat
  status : Nat
  data : Octets
deriving DecidableEq, Repr

/-- A station's staged capability bytes and the capability it holds (R529, R530). -/
structure StationCap where
  staged : Octets
  held : Option Capability
deriving DecidableEq, Repr

/-- One trusted-key slot (R532): halves staged, and the committed key. -/
structure KeySlot where
  lo : Option Octets
  hi : Option Octets
  key : Option Octets
deriving DecidableEq, Repr

/-- A firmware slot's content (R546): the bytes that STAGE copied or that chunks placed, and what the checks of R542 found in them. -/
structure FwSlot where
  /-- 0 EMPTY, 1 STAGING, 2 VERIFIED, 3 TRIAL, 4 CONFIRMED, 5 INVALID -/
  state : Nat
  image : Option FwImage
  bytes : ByteStore
deriving DecidableEq, Repr

/-- Management log entry, Table 16-12. -/
structure MpLogEntry where
  number : Nat
  code : Nat
  pcr : Nat
  source : Nat
  tick : Nat
  time : Nat
  arg : Nat
  digest : Octets
deriving DecidableEq, Repr

/-- Management state that is no object of the dictionary. -/
structure Mgmt where
  /-- associations by number 1-8 -/
  assocs : SMap Assoc
  /-- Opdun frames sent to the field network, newest first -/
  opdunOut : List OpdunReply
  /-- last mailbox command's reply (R533) -/
  mailLast : Option MailReply
  mailOut : List MailReply
  caps : SMap StationCap
  keys : SMap KeySlot
  slotA : FwSlot
  slotB : FwSlot
  /-- running slot: 0 A, 1 B; none in RECOVERY (R542) -/
  running : Option Nat
  /-- slot the boot record names, its trial count and its floor (R540, R543, R546) -/
  bootSlot : Nat
  trialCount : Nat
  bootFloor : Nat
  /-- the floor's copy in the calendar domain; none once VBAT was lost (R543) -/
  vbatFloor : Option Nat
  /-- tick at which the running TRIAL image started -/
  trialStart : Nat
  /-- measurement registers 0-7 (R544) -/
  pcrs : List Octets
  attNonce : Octets
  attStart : Nat
  attReport : Octets
  /-- newest first -/
  mpLog : List MpLogEntry
  mpLogNext : Nat
  /-- mapping (t_b, s_b, e_b) of R538 -/
  calTb : Nat
  calSb : Int
  calEb : Int
  /-- calendar value at its last second edge, and a value to take at the next one (R539) -/
  calendar : Nat
  calPending : Option (Nat × Writer)
  /-- neighbour-discovery answers sent (R521) -/
  ndAnswers : Nat
deriving DecidableEq, Repr

end Sys2Proof.Machine
end

