-- ==== Sys2Proof/Machine/Parts/Power.lean ====
section
/-! DEFINITION. State of power, resets and the pins (chapter 17) that is no object of the dictionary. -/

namespace Sys2Proof.Machine

/-- State of chapter 17. -/
structure PowerSt where
  /-- datum tick at which RESET_N last rose, or at which the last reset ended -/
  since : Nat
  /-- the straps of this start-up are latched (R574), and reserved straps or 0b01 start RECOVERY -/
  strapped : Bool
  /-- THERMAL_TRIP holds the tile in a warm reset (R563) -/
  held : Bool
  /-- HW_TRIP_N is asserted, latched until power-on -/
  hwTrip : Bool
  /-- consecutive ticks of each junction sensor at or above 110 °C, and of each stack at or above 105 °C -/
  tripRun : SMap Nat
  stackRun : SMap Nat
  /-- consecutive ticks whose 25-tick mean stands above the effective sustained limit (R561) -/
  overRun : Nat
  /-- limits that were reached and whose measure has not yet fallen below 97 % of them (R562): 0 sustained, 1 peak, 2 the run above
  the sustained limit -/
  limiting : List Nat
  /-- POWER_LIMITED was sent for the present excess -/
  told : Bool
  /-- consecutive boundaries at which each cluster was idle (R552) -/
  idle : SMap Nat
  /-- clusters in SLEEP, those waking with the tick at which the wake completes, and those that wait to enter SLEEP -/
  asleep : SMap Unit
  waking : SMap Nat
  sleeps : SMap Unit
  /-- wake requests already counted in WAKE_DEFERRED (R559) -/
  deferred : SMap Unit
  /-- pins that the tile drives low: bit n is STAKE[n] (R575) -/
  pins : Nat
  /-- LIVE toggle -/
  live : Bool
  /-- tick until which each pulse field is held: 0 plat change, 1 and 2 WAKE_DEFERRED of half 0 and 1, 3 hold with cause WAKE_DEFERRED -/
  pulses : SMap Nat
  /-- the last STAKE frame before deep sleep is being sent -/
  lastFrame : Bool
  /-- tick from which the conditions of deep sleep have held (R556) -/
  quietSince : Option Nat
  /-- earliest wait deadline or gate expiry recorded on entry (R557) -/
  deadline : Option Nat
  /-- VDD_CORE setpoints in mV (R581), each with the tick of its last step -/
  core0 : Nat
  core1 : Nat
  step0 : Nat
  step1 : Nat
  /-- traverse slot to activate again after a reset (R569) -/
  again : Option Nat
  /-- halves that were re-initialised and whose mirror copy is not complete (R570) -/
  copying : List Nat
deriving DecidableEq, Repr

end Sys2Proof.Machine
end

