-- ==== Sys2Proof/Machine/Parts/Shaping.lean ====
section
/-! DEFINITION. State of shaping (chapter 11): bucket levels, admission rules' identifiers, gate lists and virtual time. -/

namespace Sys2Proof.Machine

/-- Gate list entry, Table 11-4. -/
structure GateEntry where
  ticks : Nat
  openMask : Nat
deriving DecidableEq, Repr

/-- One half's gate list (R391, R392). -/
structure GateSt where
  active : List GateEntry
  /-- committed list and its takeover frame -/
  next : Option (Nat × List GateEntry)
  /-- entry in force and the ticks left to it -/
  index : Nat
  left : Nat
deriving DecidableEq, Repr

/-- Shaping state that is no object of the dictionary. Levels are in units × 65,536, by owner × 4 + resource, where owner s < 256 is a
station and 256 + t a tenant, and the resources are 0 STEP, 1 REVIVE, 2 PARK, 3 QUERY; a level that is absent stands at
its burst (R381). -/
structure ShapingSt where
  levels : SMap Int
  /-- debits summed in the current tick, applied at its end (R379) -/
  debits : SMap Nat
  /-- rates still in force of buckets whose rate a write of this tick changed (R381) -/
  rates : SMap Nat
  gate0 : GateSt
  gate1 : GateSt
  /-- virtual time of each half, Q40.24 -/
  v0 : Nat
  v1 : Nat
deriving DecidableEq, Repr

end Sys2Proof.Machine
end

