-- ==== Sys2Proof/Machine/Parts/Text.lean ====
section
/-! DEFINITION. State of the text path (chapter 7): dictionaries, grammar programs, mask caches and compiled stop sets. -/

namespace Sys2Proof.Machine

/-- A loaded grammar program and the model slot it was verified for (R272). -/
structure GrammarSlot where
  image : GrammarImage
  model : Nat
  /-- TEXT tiles that keep the program, in order -/
  tiles : List Nat
deriving DecidableEq, Repr

/-- A mask tile that a half's cache holds: the tick of its last use and the T1 slot that it stands in. -/
structure CachedMask where
  used : Nat
  slot : Nat
deriving DecidableEq, Repr

/-- State of chapter 7 that is no object of the dictionary. -/
structure TextSt where
  dicts : SMap DictImage
  grammars : SMap GrammarSlot
  /-- mask cache of each half, by the T2 address of the mask tile (R274) -/
  cache0 : SMap CachedMask
  cache1 : SMap CachedMask
  /-- T2 address of each compiled stop set, by 16 × station + set (R280) -/
  stops : SMap Nat
  /-- tick from which the text clusters of each half hold their shards (R257) -/
  ready0 : Option Nat
  ready1 : Option Nat
deriving DecidableEq, Repr

end Sys2Proof.Machine
end

