-- ==== Sys2Proof/Machine/Parts/Traverse.lean ====
section
/-! DEFINITION. State of traverses, frames, slot lists, the datum and holds (chapter 4). -/

namespace Sys2Proof.Machine

/-- One traverse slot besides its objects (R141-R144). -/
structure TrvSlot where
  image : Option TrvImage
  /-- frame at which a scheduled activation takes over -/
  activateAt : Option Nat
  /-- the group has agreed it (R144); true of a traverse that runs on one device -/
  agreed : Bool
  /-- RAW tiles of T2 that hold the image -/
  tiles : List Nat
deriving DecidableEq, Repr

/-- Hold log entry, Table 4-9. -/
structure HoldEntry where
  frame : Nat
  startTick : Nat
  schedTick : Nat
  length : Nat
  cause : Nat
  requesters : Nat
  position : Nat
  queue : Nat
  tag : Nat
deriving DecidableEq, Repr

/-- A hold that was decided and has not started: its schedule tick and what its log entry will say (R164, R165). -/
structure HoldPlan where
  sched : Nat
  length : Nat
  cause : Nat
  requesters : Nat
  position : Nat
  queue : Nat
  tag : Nat
deriving DecidableEq, Repr

/-- A slot list that has not taken over (R155, R156). -/
structure PendingList where
  list : SlotList
  /-- this member has acknowledged it -/
  acked : Bool
  committed : Bool
  /-- tags of its sessions (by index) and V of each half, as they stood before it was built (R390) -/
  tags : List (Nat × Nat)
  v0 : Nat
  v1 : Nat
deriving DecidableEq, Repr

/-- Lock-step blocks a device sends to its group (R157, R458). -/
inductive LockMsg where
  | slotList (l : Octets)
  | listAck (takeover : Nat)
  | decision (takeover : Nat) (commit : Bool) (v0 v1 : Nat)
  | holdRequest (r : HoldRequest)
  | hold (p : HoldPlan)
  | faultNotice (tick len : Nat)
  | groupUpdate (obj : Nat) (op : SyncOp) (operand tick : Nat)
  | activation (frame : Nat)
  | outcomes (frame : Nat) (l : List RowOutcome)
deriving DecidableEq, Repr

/-- A row of the frame's length table (R158): its entry and the values TBL reads. -/
structure RowNow where
  row : Nat
  entry : RowEntry
  ctx : Nat
  nw : Nat
  masked : Bool
  /-- kind of work that the row does in this frame (R152) -/
  kind : Nat
deriving DecidableEq, Repr

/-- State of chapter 4 that is no object of the dictionary. -/
structure TraverseSt where
  slots : SMap TrvSlot
  /-- slot of the ACTIVE traverse -/
  active : Option Nat
  /-- the traverse stopped at a boundary (R171) -/
  stopped : Bool
  /-- number of the next slot list the master issues -/
  listSeq : Nat
  /-- lists that have not taken over, by `takeover` -/
  lists : List PendingList
  inForce : Option SlotList
  /-- the frame's length table, rows in order -/
  rowTab : List RowNow
  /-- requests of the windows of this frame that have ended, by the schedule tick of their end (R162, R164) -/
  requests : SMap (List HoldRequest)
  /-- windows of this frame whose requests have been decided -/
  decided : List Nat
  /-- holds decided and not started, first to last -/
  plans : List HoldPlan
  /-- a hold has ended since the last window end: wait points that are still unmet request again (R164) -/
  again : Bool
  /-- hold in force: datum tick at which issue stopped, and its length -/
  held : Option (Nat × Nat)
  /-- ticks held in the current frame -/
  heldTicks : Nat
  /-- oldest unread first, at most 1,024 -/
  holdLog : List HoldEntry
  /-- frames that fault notices voided -/
  voidFrames : List Nat
  /-- (queue, tag) of the class 0 descriptors completed in this frame, and the moves and gathers of the program already issued -/
  met : List (Nat × Nat)
  issued : List Nat
  gathered : List Nat
  /-- (queue, tag) of the gathers of this frame that met a weight or mask tile that is lost (R243) -/
  spoiled : List (Nat × Nat)
  /-- next append entry of each cluster in this frame (R223) -/
  appended : SMap Nat
  /-- tags of traverse searches whose result is there (R163) -/
  found : List Nat
  /-- search table entries issued in this frame (R323) -/
  searched : List Nat
  /-- copy-first copies of this frame -/
  copies : Nat
  /-- state of the synchronisation objects at the frame's start (R168, R369) -/
  syncStart : SMap SyncObj
  /-- cores each cluster runs with, where not 8, and the fenced position of each degraded cluster group (R169) -/
  variants : SMap Nat
  degraded : SMap Nat
  /-- largest frame length that the members' notices name (R170) -/
  groupLen : Nat
  /-- a member's notice says that no image covers its loss, and the traverse stops at the boundary (R171) -/
  stopDue : Bool
  /-- group positions of members that are lost -/
  lostMembers : List Nat
  /-- row outcomes that other members' home devices sent, by frame: (frame, session number, positions kept) (R157, R158) -/
  outcomes : List (Nat × Nat × Nat)
  /-- mask and new positions of the next frame that they sent, by session number -/
  ahead : SMap (Bool × Nat)
  /-- lock-step blocks sent, newest first -/
  sent : List LockMsg
  /-- tick at which the datum state was entered (R149) -/
  datumSince : Nat
deriving DecidableEq, Repr

end Sys2Proof.Machine
end

