-- ==== Sys2Proof/Machine/State.lean ====
section
/-! DEFINITION. The state of the block: every register, queue, table and mode the spec gives the tile, held as plain data, the
queue of waiting commands, and the model's own counter of free values; the faults and refusals a step may end in; and
the state right after power-on reset. -/

namespace Sys2Proof.Machine

/-- Faults of a step. No command of the table faults: where the spec names an error, the command's effect on State reports
it (chapters 12, 15). -/
inductive Fault where
  /-- raised by no meaning: kept so that the type of outcomes is the block's own -/
  | none
deriving DecidableEq, Repr

/-- Refusals of a step. -/
inductive Refusal where
  /-- an instruction the model has not given its meaning: raised by `exec` only, safe -/
  | notModelled (mnemonic : String)
deriving DecidableEq, Repr

/-- The block's state. -/
structure State where
  /-- `datum_counter` (R147): ticks of 40 ns -/
  tick : Nat
  /-- `frame_number` and `frame_start_tick` (R150) -/
  frame : Nat
  frameStart : Nat

  /-- the object dictionary (chapter 16) -/
  dict : Dict
  /-- the management processor (chapter 16) -/
  mgmt : Mgmt
  /-- the field book, witness, channels and error recorder (chapter 12) -/
  fb : FieldBookSt
  /-- the UCIe modules and stations (chapter 15) -/
  stn : StationsSt
  /-- sessions and prefixes (chapter 2) -/
  ses : SessionsSt
  /-- tiles, move queues, model slots (chapters 3 and 6) -/
  tier : TiersSt
  /-- buckets, gate lists and virtual time (chapter 11) -/
  shape : ShapingSt
  /-- traverses, frames, the datum and holds (chapter 4) -/
  trv : TraverseSt
  /-- cores and cluster stores (chapter 5) -/
  core : CoresSt
  /-- dictionaries, grammars and stop sets (chapter 7) -/
  text : TextSt
  /-- the associative engine and vector indexes (chapter 9) -/
  srch : SearchSt
  /-- synchronisation objects (chapter 10) -/
  sync : SyncSt
  /-- checkpoints and restore (chapter 13) -/
  ck : CheckpointSt
  /-- ports, routes, plat, leases and hand-over (chapter 14) -/
  fab : FabricSt
  /-- power, sleep, reset and pins (chapter 17) -/
  pwr : PowerSt
  /-- commands that are waiting, first in, first out -/
  pending : List Instr
  /-- the model's own: how many free values have been drawn (log entry 5) -/
  free : Nat
deriving DecidableEq, Repr

/-! ### The state right after a power-on reset (R566, Table 17-10), before the straps are sampled -/

/-- A book with no record (R419): sequence numbers count from 1. -/
def bookEmpty : Book := ⟨[], 1, 0, 0, 0, [], 0, 1, false, 0, 1048576⟩

/-- A half's move engines at reset. -/
def enginesEmpty : MoveEngines := ⟨[], [], [], none, 0, [], [], [], [], []⟩

/-- A half's associative engine at reset: no valid entry, the default regions of R314, no throttle and no cap. -/
def camEmpty : CamHalf := ⟨[], [], 0, ⟨8192, 32, 4096, 65536, 262144⟩, [], 0, 0, 64, 64, 0⟩

/-- The clusters and the tile's power as a start-up finds them. -/
def powerEmpty : PowerSt :=
  ⟨0, false, false, false, [], [], 0, [], false, [], [], [], [], [], 0, false, [], false, none, none, 750, 750, 0, 0, none, []⟩

/-- Slot A holds the image that the part was shipped with, CONFIRMED (log entry 18). -/
def shippedImage : FwImage := ⟨true, true, true, Config.fwVersion, Config.fwSvn, Config.fwDigest⟩

/-- Management state at reset. -/
def mgmtEmpty : Mgmt :=
  ⟨[], [], none, [], [], [], ⟨4, some shippedImage, []⟩, ⟨0, none, []⟩, none, 0, 0, 0, some 0, 0, List.replicate 8 (List.replicate 32 0),
   List.replicate 32 0, 0, [], [], 0, 0, 0, 0, 0, none, 0⟩

/-- The machine right after a power-on reset: every object at its default, every table empty, the datum counter at 0, the straps not yet
sampled. The hash seeds are drawn (R43). -/
def State.reset : State :=
  { tick := 0, frame := 0, frameStart := 0, pending := ([] : List Instr), free := 2
    dict := ⟨[(0x1000 * 256 + 8, 1), (0x1000 * 256 + 9, 1), (0x2110 * 256 + 10, 554079), (0x7010 * 256 + 5, 4)], [], [], [], []⟩
    mgmt := mgmtEmpty
    fb := ⟨bookEmpty, bookEmpty, ⟨0, 0, 0, 0, false, 0, none, 0⟩, [], [], false, false, false, ⟨[], [], [], [], [], [], 0⟩⟩
    stn := ⟨[], [], false, []⟩
    ses := ⟨[], [], [], ⟨Config.pick 0, [], 0, 0⟩, ⟨Config.pick 1, [], 0, 0⟩, [0, 0], [0, 0], [0, 0], [0, 0]⟩
    tier := ⟨[], enginesEmpty, enginesEmpty, [], [0, 0]⟩
    shape := ⟨[], [], [], ⟨[], none, 0, 0⟩, ⟨[], none, 0, 0⟩, 0, 0⟩
    trv :=
      { slots := [], active := none, stopped := false, listSeq := 0, lists := [], inForce := none, rowTab := [], requests := [], decided := []
        plans := [], again := false, held := none, heldTicks := 0, holdLog := [], voidFrames := [], met := [], issued := [], gathered := [], spoiled := [], appended := []
        found := [], searched := [], copies := 0, syncStart := [], variants := [], degraded := [], groupLen := 0, stopDue := false, lostMembers := []
        outcomes := [], ahead := [], sent := [], datumSince := 0 }
    core := ⟨[], [], [], [], 0, [], [], [], [], 0⟩
    text := ⟨[], [], [], [], [], none, none⟩
    srch := ⟨camEmpty, camEmpty, [], [], []⟩
    sync := ⟨[], [], [], [], [], []⟩
    ck := ⟨[], [], none, [], false⟩
    fab := ⟨[], [], [], 0, none, none, none, none, 0, none, [], [], [], [], [], [], [], [], [], [], [], [], []⟩
    pwr := powerEmpty }

end Sys2Proof.Machine
end

