-- ==== Sys2Proof/Machine/Ops.lean ====
section
/-! DEFINITION. The named operations every meaning is written over: sparse maps, byte order, the object dictionary, TIME,
the stations' write streams, completions and events, error reports, field-book records and the management log. -/

namespace Sys2Proof.Machine

/-- What a meaning answers. -/
abbrev Out := Host.Outcome State Fault Refusal

/-! ### Sparse maps: keys strictly rising, no key twice -/

/-- The value at a key. -/
def mget {α : Type} : SMap α → Nat → Option α
  | [], _ => none
  | (k, v) :: r, n => if k = n then some v else mget r n

/-- Write a value at a key, keeping the keys rising. -/
def mput {α : Type} : SMap α → Nat → α → SMap α
  | [], n, x => [(n, x)]
  | (k, v) :: r, n, x =>
    if n < k then (n, x) :: (k, v) :: r
    else if n = k then (n, x) :: r
    else (k, v) :: mput r n x

/-- Remove a key. -/
def mdel {α : Type} : SMap α → Nat → SMap α
  | [], _ => []
  | (k, v) :: r, n => if k = n then mdel r n else (k, v) :: mdel r n

/-- Write a value in a map whose absent keys hold `d`: writing `d` removes the key. -/
def mputD {α : Type} [DecidableEq α] (d : α) (m : SMap α) (n : Nat) (x : α) : SMap α :=
  if x = d then mdel m n else mput m n x

/-- Keys strictly rising from a bound. -/
def mwfFrom {α : Type} : Nat → SMap α → Bool
  | _, [] => true
  | b, (k, _) :: r => decide (b ≤ k) && mwfFrom (k + 1) r

/-- Canonical form of a sparse map: keys strictly rising. -/
def mwf {α : Type} (m : SMap α) : Bool := mwfFrom 0 m

/-- First number at or after `n` that is no key, walking the rising keys. -/
def mfreeFrom {α : Type} : SMap α → Nat → Nat
  | [], n => n
  | (k, _) :: r, n => if k == n then mfreeFrom r (n + 1) else if n < k then n else mfreeFrom r n

/-- A free number below `bound`, looked for from `start` upward and then from 0; none when all are taken. -/
def mpickFree {α : Type} (m : SMap α) (start bound : Nat) : Option Nat :=
  let a := mfreeFrom m (start % (max bound 1))
  if a < bound then some a
  else
    let b := mfreeFrom m 0
    if b < bound then some b else none

/-- Replace the element at an index of a list. -/
def lset {α : Type} : List α → Nat → α → List α
  | [], _, _ => []
  | _ :: r, 0, x => x :: r
  | y :: r, n + 1, x => y :: lset r n x

/-- Add one to the element at an index. -/
def lbump (l : List Nat) (i : Nat) : List Nat := lset l i (l.getD i 0 + 1)

/-- Keep at most `n` elements, dropping the oldest (the head). -/
def keepLast {α : Type} (n : Nat) (l : List α) : List α := l.drop (l.length - n)

/-! ### Byte order (R2) and integers -/

/-- `n` octets of a number, least significant first. -/
def toLE : Nat → Nat → Octets
  | 0, _ => []
  | n + 1, v => BitVec.ofNat 8 v :: toLE n (v / 256)

/-- The number a little-endian string of octets spells. -/
def ofLE : Octets → Nat
  | [] => 0
  | b :: r => b.toNat + 256 * ofLE r

/-- Octets `lo` to `lo + n - 1` of a string. -/
def slice (o : Octets) (lo n : Nat) : Octets := (o.drop lo).take n

/-- Two's complement of an integer at a width. -/
def twos (bits : Nat) (i : Int) : Nat := (BitVec.ofInt bits i).toNat

/-- Signed reading of a number at a width. -/
def signed (bits n : Nat) : Int := (BitVec.ofNat bits n).toInt

/-- Bits `hi` to `lo` of a number. -/
def bitsOf (n hi lo : Nat) : Nat := n / 2 ^ lo % 2 ^ (hi + 1 - lo)

/-- Division rounded up. -/
def ceilDiv (a b : Nat) : Nat := (a + b - 1) / b

/-- One step of CRC-32C over a bit (reflected polynomial 0x82F63B78; log entry 8). -/
def crcBit (c : Nat) : Nat := if c % 2 == 1 then Nat.xor (c / 2) 0x82F63B78 else c / 2

/-- CRC-32C register after one octet. -/
def crcByte (c : Nat) (b : Byte) : Nat :=
  crcBit (crcBit (crcBit (crcBit (crcBit (crcBit (crcBit (crcBit (Nat.xor c b.toNat))))))))

/-- CRC-32C over octets from a start register value, complemented at the end. -/
def crc32c (start : Nat) (o : Octets) : Nat := Nat.xor (o.foldl crcByte start) 0xFFFFFFFF

/-- Draw one free value (log entry 5). -/
def State.draw (s : State) : Nat × State := (Config.pick s.free, { s with free := s.free + 1 })

/-- A fresh 16-byte nonce from the tile's entropy source (R523, R530). -/
def State.freshNonce (s : State) : Octets × State :=
  let (n, s) := s.draw
  (toLE 16 n, s)

/-! ### The object dictionary -/

/-- Key of an object: index × 256 + subindex (R514). -/
def objKey (o : ObjSpec) (i j : Nat) : Nat := (o.base + i) * 256 + o.subLo + j

/-- Default of a scalar object at its i-th index. -/
def objDefault (o : ObjSpec) (i : Nat) : Nat :=
  match o.dflt with
  | .fixed n => n
  | .index => i
  | .indexMod8 => i % 8
  | .firstOnly => if i == 0 then 1 else 0

/-- A scalar object's value: i-th index, j-th subindex of its row. -/
def State.objAt (s : State) (o : ObjSpec) (i j : Nat) : Nat := (mget s.dict.od (objKey o i j)).getD (objDefault o i)

/-- A scalar object's value at its i-th index. -/
def State.obj (s : State) (o : ObjSpec) (i : Nat) : Nat := s.objAt o i 0

/-- The composition in force is SLICE_MEMBER: written so, and a plat that this tile agreed to is committed (R27, Table 1-8); until then, and after it has
left the plat, the tile is STANDALONE. -/
def State.sliced (s : State) : Bool := s.obj Ob.composition 0 == 1 && s.fab.plat.isSome

/-- Set a scalar object. -/
def State.setObjAt (s : State) (o : ObjSpec) (i j v : Nat) : State :=
  { s with dict := { s.dict with od := mputD (objDefault o i) s.dict.od (objKey o i j) v } }

/-- Set a scalar object at its i-th index. -/
def State.setObj (s : State) (o : ObjSpec) (i v : Nat) : State := s.setObjAt o i 0 v

/-- Add to a counter object. -/
def State.addObj (s : State) (o : ObjSpec) (i n : Nat) : State := s.setObj o i (s.obj o i + n)

/-- Count one. -/
def State.bump (s : State) (o : ObjSpec) (i : Nat) : State := s.addObj o i 1

/-- Default of an OCTETS object: zeros where the row gives one length, empty where it gives a range. -/
def strDefault (o : ObjSpec) : Octets := if o.lo == o.hi then List.replicate o.lo 0 else []

/-- An OCTETS object's value. -/
def State.strAt (s : State) (o : ObjSpec) (i j : Nat) : Octets :=
  (mget s.dict.strings (objKey o i j)).getD (strDefault o)

/-- An OCTETS object's value at its i-th index. -/
def State.str (s : State) (o : ObjSpec) (i : Nat) : Octets := s.strAt o i 0

/-- Set an OCTETS object. -/
def State.setStrAt (s : State) (o : ObjSpec) (i j : Nat) (v : Octets) : State :=
  { s with dict := { s.dict with strings := mputD (strDefault o) s.dict.strings (objKey o i j) v } }

/-- Set an OCTETS object at its i-th index. -/
def State.setStr (s : State) (o : ObjSpec) (i : Nat) (v : Octets) : State := s.setStrAt o i 0 v

/-! ### TIME (R538) -/

/-- TIME at a datum tick: the mapping (t_b, s_b, e_b) of R538, the correction truncated toward zero. -/
def timeOf (m : Mgmt) (t : Nat) : Nat :=
  let dt : Nat := t - m.calTb
  let c : Int := Int.tdiv (m.calEb * (min dt 25000000 : Nat)) 25000000
  (m.calSb + (dt * 40 : Nat) + c).toNat

/-- TIME now. -/
def State.timeNow (s : State) : Nat := timeOf s.mgmt s.tick

/-! ### Error reports (R430-R434) -/

/-- Half whose report queue a source uses: half 1's own clusters, channels, stacks, modules and engines report through half 1. -/
def sourceHalf (src : Nat) : Nat :=
  if src < 0x200 then src / 256
  else if src < 0x218 then (src - 0x200) / 12
  else if src < 0x228 then (src - 0x220) / 4
  else if src < 0x250 then (src - 0x230) / 16
  else if src < 0x258 then (src - 0x250) / 4
  else if src < 0x25C then (src - 0x258) % 2
  else if src < 0x280 then (src - 0x260) / 16
  else if src < 0x286 then (src - 0x280) % 2
  else 0

/-- A source's captures and total, empty where it never reported. -/
def State.errSource (s : State) (src : Nat) : ErrSource :=
  (mget s.fb.err.sources src).getD ⟨none, none, 0, none⟩

/-- Store the error recorder. -/
def State.setErr (s : State) (e : ErrRecorder) : State := { s with fb := { s.fb with err := e } }

/-- Put an entry into its half's report queue of 64; a full queue drops it and counts its class. While the Chain is down half 1
keeps up to 256 entries (R431, R433). -/
def State.enqueueErr (s : State) (e : ErrEntry) : State :=
  let r := s.fb.err
  if sourceHalf e.source == 0 then
    if r.queue0.length < 64 then s.setErr { r with queue0 := r.queue0 ++ [e] }
    else s.setObjAt Ob.err_dropped 0 e.cls (s.objAt Ob.err_dropped 0 e.cls + 1)
  else if s.fb.chainDown then
    if r.kept.length < 256 then s.setErr { r with kept := r.kept ++ [e] }
    else s.setObjAt Ob.err_dropped 0 e.cls (s.objAt Ob.err_dropped 0 e.cls + 1)
  else if r.queue1.length < 64 then s.setErr { r with queue1 := r.queue1 ++ [e] }
  else s.setObjAt Ob.err_dropped 0 e.cls (s.objAt Ob.err_dropped 0 e.cls + 1)

/-- Flush a source's coalescing slot: the summary entry of what it suppressed (R432). -/
def State.flushErr (s : State) (src : Nat) : State :=
  let e := s.errSource src
  match e.slot with
  | none => s
  | some c =>
    let s := s.setErr { s.fb.err with sources := mput s.fb.err.sources src { e with slot := none } }
    if c.suppressed == 0 then s
    else s.enqueueErr ⟨c.start, src, c.cls, true, false, c.cause, c.suppressed, 0, c.last, []⟩

/-- One report (R432): captures, total, coalescing, queue. -/
def State.reportBody (s : State) (src cls cause : Nat) (body : Octets) : State :=
  let e := s.errSource src
  let isFirst := e.first.isNone
  let entry : ErrEntry := ⟨s.tick, src, cls, false, isFirst, cause, 1, 0, s.tick, body⟩
  let e1 : ErrSource := { e with first := some (e.first.getD entry), recent := some entry, total := e.total + 1 }
  let window := s.obj Ob.err_coalesce_ticks 0
  let put (s : State) (x : ErrSource) : State := s.setErr { s.fb.err with sources := mput s.fb.err.sources src x }
  match e1.slot with
  | some c =>
    if 0 < window ∧ c.cls = cls ∧ c.cause = cause ∧ s.tick - c.start < window then
      put s { e1 with slot := some { c with suppressed := c.suppressed + 1, last := s.tick } }
    else
      let s := ((put s e1).flushErr src).enqueueErr entry
      put s { (s.errSource src) with slot := some ⟨cls, cause, s.tick, 0, s.tick⟩ }
  | none =>
    let s := s.enqueueErr entry
    put s { e1 with slot := some ⟨cls, cause, s.tick, 0, s.tick⟩ }

/-- A report whose entry carries no source record. -/
def State.report (s : State) (src cls cause : Nat) : State := s.reportBody src cls cause []

/-- Report classes of R430. -/
def clsCorrected : Nat := 0
def clsUncorrected : Nat := 1
def clsPartFailed : Nat := 2
def clsTimeout : Nat := 3
def clsProtocol : Nat := 4
def clsSync : Nat := 5
def clsLogOverflow : Nat := 6
def clsNotice : Nat := 7

/-! ### Stations: write stream, events and completions (R496-R503) -/

/-- A station as it stands before its first HELLO (Table 15-2). -/
def stationInit (s : State) (n : Nat) : Station :=
  ⟨0, s.obj Ob.stn_module n, 0, 0, 0, 0, 0, 0, 0, 0, 0, 0, ⟨0, 0, 0, 0⟩, ⟨0, 0, 0, 0⟩,
   s.obj Ob.stn_intake_kib n * 16, s.obj Ob.stn_intake_kib n * 16, [], 0, 0, [], false, [], [], [], 0,
   s.obj Ob.stn_field_book n, s.obj Ob.stn_cancel_policy n, 0, none⟩

/-- A station's state. -/
def State.station (s : State) (n : Nat) : Station := (mget s.stn.st n).getD (stationInit s n)

/-- Store a station's state. -/
def State.setStation (s : State) (n : Nat) (x : Station) : State :=
  { s with stn := { s.stn with st := mput s.stn.st n x } }

/-- Set a station's Table 15-4 state, in its control area and in `stn_state`. -/
def State.setStationState (s : State) (n code : Nat) : State :=
  (s.setStation n { s.station n with state := code }).setObj Ob.stn_state n code

/-- Room of a ring (R497): 2^n less the entries written and not read. -/
def HostRing.room (r : HostRing) : Nat := 2 ^ r.log2 - (2 ^ 32 + r.write - r.cons) % 2 ^ 32

/-- Address of entry i of a ring: base + 64 + 32 × (i mod 2^n). -/
def HostRing.addr (r : HostRing) (i : Nat) : Nat := r.base + 64 + 32 * (i % 2 ^ r.log2)

/-- Phase bit of entry i: 1 xor bit n of i (R497). -/
def phaseBit (log2 i : Nat) : Nat := 1 - i / 2 ^ log2 % 2

/-- Append a write to a station's ordered write stream; it is issued at once while the station is ATTACHED (R502, R503). -/
def Station.push (x : Station) (addr : Nat) (b : WriteBody) : Station :=
  { x with out := x.out ++ [⟨addr, b, x.state == 1⟩] }

/-- Append a ring entry, after its text slot where it has one (R303). -/
def Station.pushRing (x : Station) (addr : Nat) (e : RingEntry) : Station :=
  (if e.flags % 2 == 1 then x.push e.textAddr (.ringText e.bytes) else x).push addr (.ring e)

/-- Post one event to a station (R501). -/
def Station.event (x : Station) (code handle a0 a1 : Nat) : Station × Bool :=
  if x.state = 1 ∧ x.kept = [] ∧ 0 < x.eq.room then
    let e : EventEntry := ⟨code, phaseBit x.eq.log2 x.eq.write, x.lostFlag, x.eventSeq, handle, a0, a1⟩
    ({ (x.push (x.eq.addr x.eq.write) (.event e)) with
        eq := { x.eq with write := (x.eq.write + 1) % 2 ^ 32 }, eventSeq := (x.eventSeq + 1) % 2 ^ 32, lostFlag := false }, true)
  else if x.kept.length < 64 then
    ({ x with kept := x.kept ++ [⟨code, 0, x.lostFlag, x.eventSeq, handle, a0, a1⟩],
              eventSeq := (x.eventSeq + 1) % 2 ^ 32, lostFlag := false }, true)
  else ({ x with lostFlag := true }, false)

/-- Send an event to one station; an event that is dropped counts in `stn_cnt_events_lost`. -/
def State.event (s : State) (n code handle a0 a1 : Nat) : State :=
  let (x, ok) := (s.station n).event code handle a0 a1
  let s := s.setStation n x
  if ok then s else s.bump Ob.stn_cnt_events_lost n

/-- Post kept events while the event ring has room (R501). -/
def Station.flushKept : Nat → Station → Station
  | 0, x => x
  | f + 1, x =>
    match x.kept with
    | [] => x
    | e :: r =>
      if x.state = 1 ∧ 0 < x.eq.room then
        Station.flushKept f
          { (x.push (x.eq.addr x.eq.write) (.event { e with phase := phaseBit x.eq.log2 x.eq.write })) with
              eq := { x.eq with write := (x.eq.write + 1) % 2 ^ 32 }, kept := r }
      else x

/-- Stations that are ATTACHED. -/
def State.attached (s : State) : List Nat := (s.stn.st.filter (fun p => p.2.state == 1)).map Prod.fst

/-- ANNOUNCE frames of a tile-wide event to every association that agreed the feature (R526): type 9, the event entry as payload. -/
def State.announce (s : State) (code a0 a1 : Nat) : State :=
  let body := toLE 8 code ++ toLE 8 0 ++ toLE 8 a0 ++ toLE 8 a1
  let frames := (s.mgmt.assocs.filter (fun p => p.2.features / 4 % 2 == 1)).map
    (fun p => (⟨9, p.1, p.2.client, p.2.port, 0, 0, 0, 0, body⟩ : OpdunReply))
  { s with mgmt := { s.mgmt with opdunOut := frames ++ s.mgmt.opdunOut } }

/-- A tile-wide event: to every ATTACHED station (R500) and, as an ANNOUNCE, to the associations that agreed it. -/
def State.tileEvent (s : State) (code a0 a1 : Nat) : State :=
  (s.attached.foldl (fun s n => s.event n code 0 a0 a1) s).announce code a0 a1

/-- Type code of a message, Table 15-8. -/
def msgType : MsgBody → Nat
  | .hello _ => 0x01
  | .goodbye => 0x02
  | .ringName _ => 0x03
  | .objRead _ => 0x04
  | .objWrite _ => 0x05
  | .openSession _ => 0x10
  | .close => 0x11
  | .append _ => 0x12
  | .resume _ => 0x13
  | .cancel => 0x14
  | .park => 0x15
  | .revive => 0x16
  | .prefixRegister _ => 0x17
  | .prefixRelease => 0x18
  | .checkpoint _ => 0x20
  | .query _ => 0x21
  | .insert _ => 0x21
  | .delete _ => 0x21
  | .unlisted t => t % 256

/-- What a completion reports besides its message. -/
structure Outcome where
  status : Nat
  offset : Nat
  result : Nat
  pos : Nat
  demoted : Bool
deriving DecidableEq, Repr

/-- A plain status. -/
def Outcome.of (status : Nat) : Outcome := ⟨status, 0, 0, 0, false⟩

/-- FIELD_RANGE at an offset (R21). -/
def Outcome.range (offset : Nat) : Outcome := ⟨St.FIELD_RANGE, offset, 0, 0, false⟩

/-- Post a completion entry (Table 15-11) to an ATTACHED station; after the station left ATTACHED it is discarded (R509). -/
def Station.complete (x : Station) (seq msg credits : Nat) (o : Outcome) : Station :=
  let x := { x with cqTaken := x.cqTaken - 1 }
  if x.state = 1 then
    let c : Completion := ⟨seq, o.status, msg, phaseBit x.cq.log2 x.cq.write, o.demoted, o.offset, credits, o.result, o.pos⟩
    { (x.push (x.cq.addr x.cq.write) (.completion c)) with cq := { x.cq with write := (x.cq.write + 1) % 2 ^ 32 } }
  else x

/-- A message is decided: accepted or refused, though its completion may still be owed. -/
def Intake.settled (e : Intake) : Bool :=
  match e.stage with
  | .accepted _ => true
  | .decided .. => true
  | _ => false

/-- A message with this sequence that is not decided. -/
def Intake.undecided (seq : Nat) (e : Intake) : Bool := e.msg.hdr.seq == seq && !e.settled

/-- The first message with this sequence that is in intake and not decided; a later one of the same sequence waits for it (R408). -/
def Station.find (x : Station) (seq : Nat) : Option Intake := x.intake.find? (Intake.undecided seq)

/-- Change the first message of a list that satisfies a test. -/
def onFirst (p : Intake → Bool) (f : Intake → Intake) : List Intake → List Intake
  | [] => []
  | e :: r => if p e then f e :: r else e :: onFirst p f r

/-- Replace the entry of a message that is not decided. -/
def State.setIntake (s : State) (n seq : Nat) (f : Intake → Intake) : State :=
  s.setStation n { s.station n with intake := onFirst (Intake.undecided seq) f (s.station n).intake }

/-- A message leaves intake: its credits return, once (R495). -/
def State.leaveIntake (s : State) (n seq : Nat) : State :=
  let x := s.station n
  match x.find seq with
  | none => s
  | some e =>
    if e.returned then s
    else (s.setStation n { x with credits := x.credits + e.credits }).setIntake n seq (fun e => { e with returned := true })

/-- A message is the station's next acceptance (R498). -/
def State.numberAccept (s : State) (n seq : Nat) : State :=
  let k := (s.station n).accepts + 1
  (s.setStation n { s.station n with accepts := k }).setIntake n seq (fun e => { e with order := k })

/-- A decided message whose completion nothing holds back: no earlier message of the station that names its handle, and no earlier
acceptance, is still to complete (R498). `earlier` are the messages before it, the latest first. -/
def readyFrom (all earlier : List Intake) : List Intake → Option Intake
  | [] => none
  | e :: r =>
    let owed := match e.stage with
      | .decided .. => true
      | _ => false
    if owed && !earlier.any (fun i => e.msg.hdr.handle != 0 && i.msg.hdr.handle == e.msg.hdr.handle)
        && (e.order == 0 || !all.any (fun i => i.order != 0 && decide (i.order < e.order))) then some e
    else readyFrom all (e :: earlier) r

/-- Post every completion that is owed and free to go. -/
def Station.release (x : Station) : Nat → Station
  | 0 => x
  | fuel + 1 =>
    match readyFrom x.intake [] x.intake with
    | none => x
    | some e =>
      match e.stage with
      | .decided st off res pos dem =>
        (({ x with intake := x.intake.erase e } : Station).complete e.msg.hdr.seq (msgType e.msg.body) e.credits ⟨st, off, res, pos, dem⟩).release fuel
      | _ => x

/-- A message that satisfies a test is decided with an outcome, and every completion that is then free to go is posted (R495, R498). -/
def State.settle (s : State) (n : Nat) (p : Intake → Bool) (o : Outcome) : State :=
  let x := s.station n
  s.setStation n (({ x with intake := onFirst p (fun e => { e with stage := .decided o.status o.offset o.result o.pos o.demoted }) x.intake }
    : Station).release x.intake.length)

/-- A message leaves intake decided, and its completion is posted (R495, R498). -/
def State.finishOne (s : State) (n seq : Nat) (o : Outcome) : State := (s.leaveIntake n seq).settle n (Intake.undecided seq) o

/-- Messages leave a station's intake without completions: their credits and completion entries return, and each is counted (R489, R509). -/
def State.dropIntake (s : State) (n : Nat) : State :=
  let x := s.station n
  let s := s.addObj Ob.stn_cnt_intake_drop n (x.intake.filter (fun e => !e.returned)).length
  s.setStation n { x with intake := [], credits := x.creditsMax, cqTaken := 0, leaving := none }

/-- GOODBYE completes once no earlier message remains; the station is then DETACHED (R499). -/
def State.goodbyeStep (s : State) (n : Nat) : State :=
  let x := s.station n
  match x.leaving, x.intake.head? with
  | some seq, some e =>
    if e.msg.hdr.seq == seq then ((s.finishOne n seq (Outcome.of St.OK)).dropIntake n).setStationState n 0 else s
  | _, _ => s

/-- A message leaves intake with its completion, and a GOODBYE that waited for it completes. -/
def State.finish (s : State) (n seq : Nat) (o : Outcome) : State := (s.finishOne n seq o).goodbyeStep n

/-- Station n is privileged (R506). -/
def State.privileged (s : State) (n : Nat) : Bool := s.obj Ob.stn_privileged n == 1

/-! ### Field-book records (R395-R404) -/

/-- Bytes of a message with what it names by reference: input, or the vector of an INSERT (R400, R494). -/
def msgBytes (m : Msg) : Nat :=
  m.hdr.len + (match m.body with
    | .append b => if b.byRef then b.bytes else 0
    | .resume b => if b.byRef then b.bytes else 0
    | .prefixRegister b => if b.byRef then b.bytes else 0
    | .insert b => b.data.length
    | _ => 0)

/-- Bytes of a record's body after the header, padded to 8 (Table 12-4). -/
def RecBody.bytes : RecBody → Nat
  | .accept _ _ _ _ _ _ _ msgLen _ _ marker _ => ceilDiv (0x20 + msgLen + marker.length) 8 * 8
  | .step _ _ _ _ _ _ _ _ _ _ toks => ceilDiv (0x28 + 4 * toks.length) 8 * 8
  | .deliver _ _ _ => 16
  | .park _ _ _ _ => 16
  | .revive _ _ _ _ _ => 48
  | .cancel _ _ => 16
  | .close _ _ _ => 16
  | .config _ _ _ _ value => ceilDiv (8 + value.length) 8 * 8

/-- Parts of a record whose body has this many bytes: at most 4,016 body bytes each beside the 48-byte header (R399). -/
def recParts (body : Nat) : Nat := max 1 (ceilDiv body 4016)

/-- Bytes of a whole record, headers included. -/
def recBytes (body : Nat) : Nat := body + 48 * recParts body

/-- Bytes that part i of a record takes. -/
def partBytes (body i : Nat) : Nat := 48 + min 4016 (body - 4016 * i)

/-- Lay a record's parts into tiles of 4,064 record bytes, no part crossing a tile (R397): tile number, fill and tiles used after. -/
def layParts : Nat → Nat → Nat → Nat × Nat × Nat → Nat × Nat × Nat
  | 0, _, _, p => p
  | f + 1, body, i, (tile, fill, used) =>
    let b := partBytes body i
    if fill + b ≤ 4064 then layParts f body (i + 1) (tile, fill + b, used)
    else layParts f body (i + 1) (tile + 1, b, used + 1)

/-- A half's field book. -/
def State.book (s : State) (half : Nat) : Book := if half == 0 then s.fb.book0 else s.fb.book1

/-- Store a half's field book and the gauges that show it. -/
def State.setBook (s : State) (half : Nat) (b : Book) : State :=
  if half == 0 then
    ({ s with fb := { s.fb with book0 := b } }).setObj Ob.fb_used_h0 0 b.used
  else
    ({ s with fb := { s.fb with book1 := b } }).setObj Ob.fb_used_h1 0 b.used

/-- Position of a sequence number of a half's book (R396). -/
def bookPos (half seq : Nat) : Nat := 2 ^ 63 * half + seq

/-- Half of a position. -/
def posHalf (pos : Nat) : Nat := pos / 2 ^ 63

/-- Append a record to a half's book: position, tiles, counters; it lies in the open write batch (R396, R397, R403). -/
def State.appendRec (s : State) (half sid station chain : Nat) (body : RecBody) : State × Nat :=
  let b := s.book half
  let pos := bookPos half b.next
  let n := body.bytes
  let (tile, fill, used) := layParts (recParts n) n 0 (b.headTile, if b.used == 0 then 4065 else b.fill, b.used)
  let r : Rec := ⟨pos, false, sid, station, s.tick, chain, body, tile, 0⟩
  let s := s.setBook half { b with recs := b.recs ++ [r], next := b.next + 1, headTile := tile, fill := fill, used := used }
  ((s.bump Ob.cnt_fb_records half).addObj Ob.cnt_fb_bytes half (recBytes n), pos)

/-- A record is written again in a half's book under a session number, with a new position and the tick of its event (R9, R426, R449, R473). -/
def State.recAgain (s : State) (half sid stage : Nat) (r : Rec) : State × Rec :=
  let (s, pos) := s.appendRec half sid r.station r.chain r.body
  let b := s.book half
  (s.setBook half { b with recs := b.recs.map (fun q => if q.pos == pos then { q with tick := r.tick, stage := stage } else q) },
   { r with pos := pos, sid := sid })

/-- CONFIG record of a write or command (R401): in half 0's book whatever the modes. -/
def State.configRec (s : State) (index sub source writer : Nat) (value : Octets) : State :=
  (s.appendRec 0 0xFFFFFFFF (if source == 0 then writer else 0xFFFF) 0 (.config index sub source writer value)).1

/-- Every copy an acknowledgement awaits holds the position (Table 12-5): the tile's own copies, and a CURRENT witness. -/
def State.durable (s : State) (pos : Nat) : Bool :=
  let h := posHalf pos
  let own := (s.book h).recs.all (fun r => r.pos != pos || r.stage == 2)
  let wit := s.obj Ob.witness_state 0 != 2 || pos ≤ (if h == 0 then s.fb.witness.ack0 else s.fb.witness.ack1)
  own && wit

/-! ### Management log and measurement (R537, R544) -/

/-- Write a management log entry: source 0 station, 1 Opdun, 2 legacy, 3 device; register 0xFF measures nothing. -/
def State.mpLogAdd (s : State) (code pcr source arg : Nat) (digest : Octets) : State :=
  let e : MpLogEntry := ⟨s.mgmt.mpLogNext, code, pcr, source, s.tick, s.timeNow, arg, digest⟩
  let s := { s with mgmt := { s.mgmt with mpLog := (e :: s.mgmt.mpLog).take 65536, mpLogNext := s.mgmt.mpLogNext + 1 } }
  s.setObj Ob.mp_log_next 0 s.mgmt.mpLogNext

/-- Extend measurement register r with a digest and log it (R544): P_r becomes SHAKE256-256(P_r ‖ u8(r) ‖ d). -/
def State.measure (s : State) (code r source arg : Nat) (d : Octets) : State :=
  let p := s.mgmt.pcrs.getD r []
  let p' := Config.shake256 (p ++ [BitVec.ofNat 8 r] ++ d) 32
  ({ s with mgmt := { s.mgmt with pcrs := lset s.mgmt.pcrs r p' } }).mpLogAdd code r source arg d

/-- Store power state. -/
def State.setPwr (s : State) (p : PowerSt) : State := { s with pwr := p }

/-- Hold a pulse field for `stake_pulse_frames` frames from the event (R575). -/
def State.pulse (s : State) (f : Nat) : State :=
  s.setPwr { s.pwr with pulses := mput s.pwr.pulses f (s.tick + s.obj Ob.stake_pulse_frames 0 * 1000) }

/-! ### Byte stores -/

/-- Canonical form of byte-addressed memory: addresses strictly rising, and no entry equal to the 0 that an unlisted address reads as. -/
def Memory.wf (b : ByteStore) : Bool := mwf b && b.all (fun p => p.2 != 0)

/-- Byte of a byte-addressed store; unlisted bytes are 0. -/
def bget (b : ByteStore) (a : Nat) : Byte := (mget b a).getD 0

/-- Write one byte, keeping the canonical form. -/
def bput (b : ByteStore) (a : Nat) (v : Byte) : ByteStore := mputD 0 b a v

/-- Write octets from an address up. -/
def bputs (b : ByteStore) (a : Nat) : Octets → ByteStore
  | [] => b
  | v :: r => bputs (bput b a v) (a + 1) r

/-- Read `n` octets from an address up. -/
def bgets (b : ByteStore) (a n : Nat) : Octets := (List.range n).map (fun i => bget b (a + i))

/-- Numbers 0 to n − 1 on which a state function is run in order. -/
def State.forN (n : Nat) (s : State) (f : State → Nat → State) : State := (List.range n).foldl f s

/-- Acceptances whose records are lost with a half's book are forgotten: their completions never come, and hold back no other. -/
def State.forgetOwed (s : State) (half : Nat) : State :=
  let gone (e : Intake) : Bool := match e.stage with
    | .accepted pos => posHalf pos == half
    | _ => false
  (s.stn.st.map Prod.fst).foldl (fun s n =>
    let x := s.station n
    let kept := x.intake.filter (fun e => !gone e)
    if kept.length == x.intake.length then s
    else s.setStation n (({ x with intake := kept, cqTaken := x.cqTaken - (x.intake.length - kept.length) } : Station).release kept.length)) s

end Sys2Proof.Machine
end

