-- ==== Sys2Proof/Machine/CoreBase.lean ====
section
/-! DEFINITION. A core's registers, its results in flight, the fence maps, and the accesses to cluster stores (Table 5-1, R176, R178-R180, R185, R202,
R206, R209). -/

namespace Sys2Proof.Machine

/-- A core as after reset. -/
def coreInit : Core := ⟨[], [], [], [], [], [], 0, 0, none, false, [], [], 0, 0, [], false, false, false, none⟩

/-- A core's state. -/
def State.coreAt (s : State) (k : Nat) : Core := (mget s.core.cores k).getD coreInit

/-- Store a core's state. -/
def State.setCore (s : State) (k : Nat) (c : Core) : State :=
  { s with core := { s.core with cores := mputD coreInit s.core.cores k c } }

/-- Bit n of an OCTETS map. -/
def mapBit (o : Octets) (n : Nat) : Bool := (o.getD (n / 8) 0).toNat / 2 ^ (n % 8) % 2 == 1

/-- Set or clear bit n of an OCTETS map. -/
def mapSet (o : Octets) (n : Nat) (v : Bool) : Octets :=
  let b := (o.getD (n / 8) 0).toNat
  let m := 2 ^ (n % 8)
  let b' := if v then Nat.lor b m else if b / m % 2 == 1 then b - m else b
  lset o (n / 8) (BitVec.ofNat 8 b')

/-- Core k, or its cluster, is fenced (R206, R209). -/
def State.coreFenced (s : State) (k : Nat) : Bool := mapBit (s.str Ob.core_fence_map 0) k || mapBit (s.str Ob.cluster_fence_map 0) (k / 8)

/-- Cluster is fenced. -/
def State.clusterFenced (s : State) (n : Nat) : Bool := mapBit (s.str Ob.cluster_fence_map 0) n

/-- Cluster n is in SLEEP, or waking from it (R552, R559). -/
def State.asleep (s : State) (n : Nat) : Bool := (mget s.pwr.asleep n).isSome

/-! ### Results in flight (R176, R178, R185) -/

/-- Register S0 reads as 0. -/
def Core.sreg (c : Core) (r : Nat) : SWord := if r == 0 then 0 else (mget c.sregs r).getD 0

/-- Lanes of a vector register. -/
def Core.vreg (c : Core) (r : Nat) : List Lane := (mget c.vregs r).getD (List.replicate 32 0)

/-- Predicate P0 reads as all ones. -/
def Core.preg (c : Core) (r : Nat) : BitVec 32 := if r == 0 then BitVec.allOnes 32 else (mget c.pregs r).getD 0

/-- An accumulator, 256 values in row order. -/
def Core.acc (c : Core) (a : Nat) : List Lane := (mget c.accs a).getD (List.replicate 256 0)

/-- Operand buffer: 0 MA0, 1 MA1, 2 MB0, 3 MB1. -/
def Core.buf (c : Core) (b : Nat) : OperandBuf := (mget c.bufs b).getD ⟨0, List.replicate 512 0, List.replicate 32 0⟩

/-- Lanes of `new` where the mask bit is 1, of `old` elsewhere. -/
def blend (mask : BitVec 32) (old new : List Lane) : List Lane :=
  (List.range 32).map (fun i => if mask.getLsbD i then new.getD i 0 else old.getD i 0)

/-- Write one result. S0 and P0 take nothing. -/
def Core.write (c : Core) : WbVal → Core
  | .sreg r v => if r == 0 then c else { c with sregs := mputD 0 c.sregs r v }
  | .vreg r l m => { c with vregs := mputD (List.replicate 32 0) c.vregs r (blend m (c.vreg r) l) }
  | .preg r v m => if r == 0 then c else { c with pregs := mputD 0 c.pregs r ((v &&& m) ||| (c.preg r &&& ~~~m)) }
  | .acc a v m =>
    let rows := (List.range 256).map (fun i => if m.getLsbD (i / 16) then v.getD i 0 else (c.acc a).getD i 0)
    { c with accs := mputD (List.replicate 256 0) c.accs a rows }
  | .buf b v => { c with bufs := mput c.bufs b v }
  | .store a bs => { c with store := (bs.zipIdx).foldl (fun m p => bput m ((a + p.2) % 131072) p.1) c.store }

/-- A result is a write to the core store. -/
def WbVal.isStore : WbVal → Bool
  | .store _ _ => true
  | _ => false

/-- Write every result that is due when an operation issues in cycle c: registers up to c, stores before c. -/
def Core.settle (x : Core) (c : Nat) : Core :=
  let due (w : WriteBack) : Bool := if w.val.isStore then decide (w.cycle < c) else decide (w.cycle ≤ c)
  (x.flight.filter due).foldl (fun y w => y.write w.val) { x with flight := x.flight.filter (fun w => !due w) }

/-- Put a result in flight, ordered by cycle and then slot (R185). -/
def insertWb (w : WriteBack) : List WriteBack → List WriteBack
  | [] => [w]
  | v :: r => if w.cycle < v.cycle || (w.cycle == v.cycle && decide (w.slot < v.slot)) then w :: v :: r else v :: insertWb w r

/-- A result of an operation that issues in this cycle. -/
def Core.result (x : Core) (slot latency : Nat) (v : WbVal) : Core :=
  { x with flight := insertWb ⟨x.cycle + latency, slot, v⟩ x.flight }

/-- Raise sticky flags, in the cycle in which the operation issues (log entry 161). -/
def Core.flags (x : Core) (f : Sticky) : Core := { x with ovf := x.ovf || f.ovf, nan := x.nan || f.nan, sat := x.sat || f.sat }

/-! ### Schedule time -/

/-- Ticks of the hold in force that have passed. -/
def State.holdElapsed (s : State) : Nat :=
  match s.trv.held with
  | none => 0
  | some (t, n) => min n (s.tick - t)

/-- Schedule tick now (R150). -/
def State.schedTick (s : State) : Nat := s.tick - s.frameStart - s.trv.heldTicks - s.holdElapsed

/-! ### Cluster stores (R179, R180, R184) -/

/-- A cluster's store. -/
def State.clusterStore (s : State) (c : Nat) : ByteStore := (mget s.core.clusterStores c).getD []

/-- Set a cluster's store. -/
def State.setClusterStore (s : State) (c : Nat) (b : ByteStore) : State :=
  { s with core := { s.core with clusterStores := mputD [] s.core.clusterStores c b } }

/-- Writes on their way to a cluster's store. -/
def State.inFlight (s : State) (n : Nat) : List ClusterWrite := (mget s.core.clusterFlight n).getD []

/-- Order writes by cycle, later-issued after earlier. -/
def insertCw (w : ClusterWrite) : List ClusterWrite → List ClusterWrite
  | [] => [w]
  | v :: r => if w.cycle < v.cycle then w :: v :: r else v :: insertCw w r

/-- Land every write of a cluster that is due before a cycle. -/
def State.clusterSettle (s : State) (n c : Nat) : State :=
  let l := s.inFlight n
  let due := l.filter (fun w => decide (w.cycle < c))
  if due.isEmpty then s
  else
    let b := due.foldl (fun b w => bputs b w.addr w.bytes) (s.clusterStore n)
    let s := s.setClusterStore n b
    { s with core := { s.core with clusterFlight := mputD [] s.core.clusterFlight n (l.filter (fun w => !decide (w.cycle < c))) } }

/-- Send bytes to a cluster's store; that of a fenced cluster takes none (R206). -/
def State.clusterSend (s : State) (n : Nat) (w : ClusterWrite) : State :=
  if s.clusterFenced n then s
  else { s with core := { s.core with clusterFlight := mput s.core.clusterFlight n (insertCw w (s.inFlight n)) } }

/-- Reads on their way to a cluster's store. -/
def State.reading (s : State) (n : Nat) : List ClusterRead := (mget s.core.clusterReads n).getD []

/-- Order reads by cycle, later-issued after earlier. -/
def insertCr (r : ClusterRead) : List ClusterRead → List ClusterRead
  | [] => [r]
  | v :: l => if r.cycle < v.cycle then r :: v :: l else v :: insertCr r l

/-- Ask for a read of a cluster's store. -/
def State.clusterAsk (s : State) (n : Nat) (r : ClusterRead) : State :=
  { s with core := { s.core with clusterReads := mput s.core.clusterReads n (insertCr r (s.reading n)) } }

/-- Entry of 8 bytes of a trie. -/
def trieEntry (b : ByteStore) (ad : Nat) : Nat := ofLE (bgets b ad 8)

/-- The edge for a byte in the node at an address (R253): dense nodes by index, sparse nodes by their sorted children. -/
def trieEdge (b : ByteStore) (node byte : Nat) : Option Nat :=
  let ad := node % 2097152
  if node / 2 ^ 31 % 2 == 1 then some (trieEntry b (ad + 8 * byte))
  else
    let n := trieEntry b ad % 16
    ((List.range n).map (fun i => trieEntry b (ad + 8 + 8 * i))).find? (fun e => e % 256 == byte)

/-- Result word of TWALK (R202). -/
def trieWord : Option Nat → Nat
  | none => 0xFFFFFFFF
  | some e =>
    let child := e / 2 ^ 32
    if child == 0xFFFFFFFF then 0xFFFFFFFF
    else child + 2 ^ 32 * (e / 256 % 2 ^ 20) + 2 ^ 52 * (e / 2 ^ 28 % 2)

/-- A result from a cluster store and the cycle in which it is written: the line 6 cc after the read, a trie's child 8 cc after it (R179, R202). -/
def ClusterRead.brings (r : ClusterRead) (b : ByteStore) : WriteBack :=
  match r.fetch with
  | .line ad dst => ⟨r.cycle + 6, 3, .store dst (bgets b ad 128)⟩
  | .child reg node byte => ⟨r.cycle + 8, 3, .sreg reg (BitVec.ofNat 64 (trieWord (trieEdge b node byte)))⟩

/-- One read takes place: it sees every write that landed in an earlier cycle, and its result goes on its way to its core. -/
def State.clusterFetch (s : State) (n : Nat) (r : ClusterRead) : State :=
  let s := s.clusterSettle n r.cycle
  let c := s.coreAt r.core
  s.setCore r.core { c with flight := insertWb (r.brings (s.clusterStore n)) c.flight }

/-- A cluster's store at a cycle: the reads up to it have taken place, and the writes before it have landed, each in its cycle (R179, R180). -/
def State.clusterAdvance (s : State) (n c : Nat) : State :=
  let l := s.reading n
  let due := l.filter (fun r => decide (r.cycle ≤ c))
  let s := if due.isEmpty then s
    else { s with core := { s.core with clusterReads := mputD [] s.core.clusterReads n (l.filter (fun r => !decide (r.cycle ≤ c))) } }
  (due.foldl (fun s r => s.clusterFetch n r) s).clusterSettle n c

/-- The schedule cycle in which a move engine or a search lands bytes now: the first of the schedule tick that no issue has passed (log entry 193). -/
def State.landCycle (s : State) : Nat := max s.core.now (60 * s.schedTick)

end Sys2Proof.Machine
end

