-- ==== Sys2Proof/Machine/Writes.lean ====
section
/-! DEFINITION. Who may write an object (R505, R519, R530), how a write completes (R515-R518, R583), and the shape every
command object's write shares. -/

namespace Sys2Proof.Machine

/-- Source code of a writer in CONFIG records and the management log (Tables 12-4, 16-12). -/
def writerSource : Writer → Nat
  | .station _ _ => 0
  | .opdun _ _ _ _ => 1
  | .legacy _ _ => 2
  | .device => 3

/-- Number of the writer in CONFIG records: station or Opdun client. -/
def writerNumber : Writer → Nat
  | .station st _ => st
  | .opdun a _ _ _ => a
  | .legacy _ _ => 0
  | .device => 0

/-- Keep an Opdun reply as sent, and among its association's last 16 (R525). -/
def State.opdunReply (s : State) (r : OpdunReply) : State :=
  let m := s.mgmt
  let assocs := match mget m.assocs r.assoc with
    | none => m.assocs
    | some a => mput m.assocs r.assoc { a with replies := (r :: a.replies).take 16 }
  { s with mgmt := { m with opdunOut := r :: m.opdunOut, assocs := assocs } }

/-- `lm_status` of a native status (R534). -/
def mailStatus (st : Nat) : Nat :=
  if st = St.OK then 0
  else if st = St.LEGACY_DENIED ∨ st = St.OBJECT_DENIED ∨ st = St.CAPABILITY_REQUIRED ∨ st = St.CAPABILITY_INVALID
      ∨ st = St.CAPABILITY_EXPIRED then 2
  else if st = St.OPDUN_BUSY ∨ st = St.ATTEST_BUSY ∨ st = St.FW_STATE then 3
  else if st = St.OBJECT_UNKNOWN then 4
  else 1

/-- Send a mailbox reply and keep it for a repeated `lm_seq` (R533). -/
def State.mailReply (s : State) (r : MailReply) : State :=
  { s with mgmt := { s.mgmt with mailLast := some r, mailOut := r :: s.mgmt.mailOut } }

/-- A station's window. -/
def State.window (s : State) (st : Nat) : SeqWindow := (mget s.fb.windows st).getD ⟨0, []⟩

/-- Enter an accepted sequence with its ACCEPT position; `stn_seq_high` follows. -/
def State.seqAdd (s : State) (st seq pos : Nat) : State :=
  let w := s.window st
  let high := max w.high seq
  let set := (mput w.set seq pos).filter (fun p => decide (high ≤ p.1 + 4096))
  ({ s with fb := { s.fb with windows := mput s.fb.windows st ⟨high, set⟩ } }).setObj Ob.stn_seq_high st high

/-- Wait for a position before an effect. -/
def State.waitDurable (s : State) (pos : Nat) (e : DurEffect) : State :=
  let h := posHalf pos
  let b := s.book h
  s.setBook h { b with waits := b.waits ++ [⟨pos, e⟩] }

/-- An accepted OBJ_WRITE: its ACCEPT record in half 0's book as the station's mode allows, its sequence, and its completion once the record is
durable, or at once under OFF (R10, R409). -/
def State.acceptWrite (s : State) (st seq : Nat) (o : Outcome) : State :=
  let x := s.station st
  match x.find seq with
  | none => s
  | some e =>
    match e.msg.body with
    | .objWrite _ =>
      if x.fbMode == 2 then ((s.seqAdd st seq 0).numberAccept st seq).finish st seq o
      else
        let (s, pos) := s.appendRec 0 0xFFFFFFFF st 0 (.accept seq (msgType e.msg.body) 3 false false false 0 (msgBytes e.msg) 0 0 [] e.msg)
        let s := (((s.seqAdd st seq pos).leaveIntake st seq).numberAccept st seq).setIntake st seq (fun i => { i with stage := .accepted pos, result := o.result })
        s.waitDurable pos (.acceptance st seq)
    | _ => s.finish st seq o

/-- A request of an association still waits for its record (R518): sent again, it is not carried out again (R525). -/
def State.opdunWaits (s : State) (a req : Nat) : Bool :=
  s.dict.persistWaits.any (fun p => match p.writer with
    | .opdun b q _ _ => a == b && req == q
    | _ => false)

/-- A mailbox command still waits for its record (R518): sent again, it is not carried out again (R533). -/
def State.mailWaits (s : State) (seq : Nat) : Bool :=
  s.dict.persistWaits.any (fun p => match p.writer with
    | .legacy _ n => seq == n
    | _ => false)

/-- A write or command completes with an outcome: a station's message finishes, an Opdun request is replied to, a mailbox
command answered. -/
def State.replyO (s : State) (w : Writer) (o : Outcome) : State :=
  match w with
  | .station st seq => if o.status = St.OK then s.acceptWrite st seq o else s.finish st seq o
  | .opdun a req index sub =>
    match mget s.mgmt.assocs a with
    | none => s
    | some x => s.opdunReply ⟨5, a, x.client, x.port, req, index, sub, o.status, []⟩
  | .legacy cmd seq =>
    s.mailReply ⟨cmd, seq, 0, if mailStatus o.status == 1 then o.status else 0, mailStatus o.status, []⟩
  | .device => s


/-! ### Rows of the object tables by index and subindex (R514, R515) -/

/-- The row that holds an index and subindex, with its place in the row. -/
def objFind (index sub : Nat) : Option (ObjSpec × Nat × Nat) :=
  (objTable.find? (fun (o : ObjSpec) => decide (o.base ≤ index ∧ index < o.base + o.count ∧ o.subLo ≤ sub ∧ sub ≤ o.subHi))).map
    (fun o => (o, index - o.base, sub - o.subLo))

/-- Offset of the field that a refused OBJ_WRITE violates: `ob_len` where its length does not fit the object, else `ob_value` (R21). -/
def writeOffset (b : ObjBody) : Nat :=
  match objFind (if b.index == 0x2200 && decide (2 ≤ b.sub) then 0x12000 else b.index) b.sub with
  | none => 0x20
  | some (o, _, _) =>
    let fits := match o.kind with
      | .octets => decide (o.lo ≤ b.len ∧ b.len ≤ o.hi)
      | .u8 => b.len == 1
      | .u16 => b.len == 2
      | .u32 => b.len == 4
      | .i32 => b.len == 4
      | .q16 => b.len == 4
      | _ => b.len == 8
    if fits then 0x20 else 0x1C

/-- Complete with a plain status; FIELD_RANGE names the field of a station's message. -/
def State.reply (s : State) (w : Writer) (st : Nat) : State :=
  match w with
  | .station n seq =>
    match (s.station n).find seq with
    | some e => match e.msg.body with
      | .objWrite b => s.replyO w (if st = St.FIELD_RANGE then Outcome.range (writeOffset b) else Outcome.of st)
      | _ => s.replyO w (Outcome.of st)
    | none => s.replyO w (Outcome.of st)
  | _ => s.replyO w (Outcome.of st)

/-- Put a value into an object, by its row. -/
def State.putObj (s : State) (o : ObjSpec) (i j : Nat) : ObjVal → State
  | .num n => s.setObjAt o i j n
  | .octets v => s.setStrAt o i j v

/-- Put a value by key: index × 256 + subindex. -/
def State.putKey (s : State) (key : Nat) (v : ObjVal) : State :=
  match objFind (key / 256) (key % 256) with
  | none => s
  | some (o, i, j) => s.putObj o i j v

/-! ### Capabilities (R529, R530) -/

/-- The capability a writer holds. -/
def State.heldCap (s : State) (w : Writer) : Option Capability :=
  match w with
  | .station st _ => (mget s.mgmt.caps st).bind (fun c => c.held)
  | .opdun a _ _ _ => (mget s.mgmt.assocs a).bind (fun x => x.cap)
  | .legacy _ _ => none
  | .device => none

/-- A held capability covers an index with a right (bit), within its time bounds while the calendar is valid (R530). -/
def State.capCovers (s : State) (w : Writer) (index bit : Nat) : Bool :=
  match s.heldCap w with
  | none => false
  | some c =>
    c.rights / 2 ^ bit % 2 == 1
    && c.ranges.any (fun r => decide (r.1 ≤ index ∧ index ≤ r.2))
    && (s.obj Ob.cal_valid 0 == 0 || decide (s.timeNow ≤ c.notAfter))

/-- Right a write of a sealed object needs (R530): 3 OWNER for slot 0, 2 FIRMWARE for ACTIVATE, CONFIRM and ERASE, else 1 SEALED. -/
def sealedRight (index sub : Nat) (value : Octets) : Nat :=
  if index == 0x7100 then 3
  else if index == 0x7010 && sub == 3 && decide (3 ≤ ofLE value ∧ ofLE value ≤ 5) then 2
  else 1

/-- Object of a station's own that a station without privilege may write (R505). -/
def ownWritable (st index sub : Nat) : Bool :=
  (index == 0x3200 + st && decide (1 ≤ sub ∧ sub ≤ 16))
  || (index == 0x3300 + st && decide (1 ≤ sub ∧ sub ≤ 3))
  || (index == 0xB100 + st && decide (1 ≤ sub ∧ sub ≤ 16))
  || (index == 0x3400 + st && decide (2 ≤ sub ∧ sub ≤ 4))

/-- Object a station without privilege may read (R505). -/
def ownReadable (st index : Nat) : Bool :=
  decide (0x1000 ≤ index ∧ index ≤ 0x1FFF)
  || [0x3100, 0x3200, 0x3300, 0x3400, 0x3500, 0x4200, 0xB100, 0xB600].any (fun b => index == b + st)

/-- Protection of one write (R505, R519, R530, R535): OK or the status that refuses it. -/
def State.protCheck (s : State) (w : Writer) (o : ObjSpec) (index sub : Nat) (value : Octets) : Nat :=
  let sealedNow := o.prot == .sealedWrite || (index == 0x7010 && sub == 3 && !decide (1 ≤ ofLE value ∧ ofLE value ≤ 2))
  let claim := index == 0x7100 && s.obj Ob.sec_state 0 == 0
  match w with
  | .device => St.OK
  | .legacy _ _ =>
    if sealedNow || o.prot == .guarded || decide (0x9100 ≤ index ∧ index ≤ 0x91FF) then St.LEGACY_DENIED else St.OK
  | .station st _ =>
    if !s.privileged st && !ownWritable st index sub then St.OBJECT_DENIED
    else if sealedNow && !(claim && s.privileged st) && !s.capCovers w index (sealedRight index sub value) then
      St.CAPABILITY_REQUIRED
    else St.OK
  | .opdun _ _ _ _ =>
    if sealedNow then
      if s.capCovers w index (sealedRight index sub value) then St.OK else St.CAPABILITY_REQUIRED
    else if o.prot == .guarded || (0x3100 ≤ index && index ≤ 0x31FF && sub == 1) then
      if s.capCovers w index 0 then St.OK else St.CAPABILITY_REQUIRED
    else St.OK

/-- Bytes of a scalar kind (Table 16-2); 0 for OCTETS. -/
def kindBytes : ObjKind → Nat
  | .bool => 1
  | .u8 => 1
  | .u16 => 2
  | .u32 => 4
  | .u64 => 8
  | .i32 => 4
  | .i64 => 8
  | .q16 => 4
  | .time => 8
  | .octets => 0

/-- The value's length fits the type and the value its row's range (R515, R21). -/
def rangeOk (o : ObjSpec) (value : Octets) : Bool :=
  match o.kind with
  | .octets => decide (o.lo ≤ value.length ∧ value.length ≤ o.hi)
  | k => value.length == kindBytes k && (decide (o.lo ≤ ofLE value ∧ ofLE value ≤ o.hi) || o.also == some (ofLE value))

/-- Every check of a write before it has any effect: access, protection, range (R21, R516, R519). -/
def State.writeCheck (s : State) (w : Writer) (o : ObjSpec) (index sub : Nat) (value : Octets) : Nat :=
  if o.access == .ro || o.access == .const then St.OBJECT_DENIED
  else
    let p := s.protCheck w o index sub value
    if p ≠ St.OK then p
    else if rangeOk o value then St.OK
    else St.FIELD_RANGE

/-- R401: a write to this index is journaled as CONFIG. -/
def configIndex (index : Nat) : Bool :=
  decide (0x2000 ≤ index ∧ index ≤ 0x3FFF) || decide (0x9000 ≤ index ∧ index ≤ 0x9FFF)
  || decide (0xB000 ≤ index ∧ index ≤ 0xBFFF)

/-- A command whose effect writes its own management log entry (R537, R544): `tk_command` and `fw_command`. -/
def logsItself (index sub : Nat) : Bool := (index == 0x7010 && sub == 3) || (index / 16 == 0x710 && sub == 4)

/-- Record an accepted write: CONFIG in the field book (R401), the management log for 0x7000-0x7FFF (R547). -/
def State.recordWrite (s : State) (w : Writer) (index sub : Nat) (value : Octets) (always : Bool) : State :=
  if configIndex index || always then s.configRec index sub (writerSource w) (writerNumber w) value
  else if decide (0x7000 ≤ index ∧ index ≤ 0x7FFF) && !logsItself index sub then s.mpLogAdd St.OK 0xFF (writerSource w) (writerNumber w) []
  else s

/-- A command object's write (R583): checks; a refusal before it starts completes with that status and the status object holds
it; a command that starts completes its write with OK.  `body` answers the state after the start, and OK or the refusal. -/
def State.command (s : State) (w : Writer) (o : ObjSpec) (i : Nat) (value : Octets) (status : Option ObjSpec)
    (body : State → State × Nat) : State :=
  let c := s.writeCheck w o (o.base + i) o.subLo value
  if c ≠ St.OK then s.reply w c
  else
    let (t, r) := body s
    if r = St.OK then (t.recordWrite w (o.base + i) o.subLo value false).reply w St.OK
    else
      let s := match status with
        | none => s
        | some so => s.setObj so i r
      s.reply w r

/-- A command object's write whose whole outcome is known within the write: the status object takes OK too. -/
def State.commandNow (s : State) (w : Writer) (o : ObjSpec) (i : Nat) (value : Octets) (status : ObjSpec)
    (body : State → State × Nat) : State :=
  s.command w o i value (some status) (fun s =>
    let (t, r) := body s
    if r = St.OK then (t.setObj status i St.OK, St.OK) else (s, r))

/-- A write that ends within the write (R583: `stn_sync_define`, `stn_sync_op`, `ar_insert`, `ar_remove`): its final status completes it and
the status object holds it. -/
def State.commandEnds (s : State) (w : Writer) (o : ObjSpec) (i : Nat) (value : Octets) (rangeGood : Bool) (status : ObjSpec) (si : Nat)
    (body : State → State × Nat) : State :=
  let c := s.writeCheck w o (o.base + i) o.subLo value
  if c ≠ St.OK then s.reply w c
  else if !rangeGood then s.reply w St.FIELD_RANGE
  else
    let (t, r) := body s
    let t := t.setObj status si r
    (if r = St.OK then t.recordWrite w (o.base + i) o.subLo value false else t).reply w r

end Sys2Proof.Machine
end

