-- ==== Sys2Proof/Machine/CamOps.lean ====
section
/-! DEFINITION. The associative engine's search, insertion, removal, ordered insertion and rebalance (R311-R322). -/

namespace Sys2Proof.Machine

/-- A half's engine. -/
def State.cam (s : State) (half : Nat) : CamHalf := if half == 0 then s.srch.cam0 else s.srch.cam1

/-- Store a half's engine. -/
def State.setCam (s : State) (half : Nat) (c : CamHalf) : State :=
  if half == 0 then { s with srch := { s.srch with cam0 := c } } else { s with srch := { s.srch with cam1 := c } }

/-- The valid entries become `m`; an entry that is no longer valid keeps what it held (R319). -/
def CamHalf.put (c : CamHalf) (m : SMap CamEntry) : CamHalf :=
  let left := (c.entries.filter (fun p => (mget m p.1).isNone)).foldl (fun (t : SMap CamEntry) p => mput t p.1 p.2) c.stale
  { c with entries := m, stale := left.filter (fun p => (mget m p.1).isNone) }

/-- Entry a of a half as `cam_read_data` gives it, and whether it is valid (Table 9-1). -/
def CamHalf.read (c : CamHalf) (a : Nat) : CamEntry × Bool :=
  match mget c.entries a with
  | some e => (e, true)
  | none => ((mget c.stale a).getD ⟨0, 0, 0, 0⟩, false)

/-- Store the status of the table manager's request. -/
def State.setCamStatus (s : State) (half status : Nat) : State := s.setCam half { s.cam half with tableStatus := status }

/-- Size that bounds the live entries of a region: the one in force, or a smaller one accepted and not yet in effect (R314). -/
def State.regionLimit (s : State) (o : ObjSpec) (now : Nat) : Nat :=
  match mget s.dict.rwf (objKey o 0 0) with
  | some (.num n) => min now n
  | _ => now

/-- Entry matches a key: ((value xor K) and care) is 0 (R312). -/
def camMatches (e : CamEntry) (key : Nat) : Bool := Nat.land (Nat.xor e.value key) e.care == 0

/-- Lowest matching address and its entry. -/
def camSearch (entries : SMap CamEntry) (key : Nat) : Option (Nat × CamEntry) :=
  entries.find? (fun p => camMatches p.2 key)

/-- Search result word of R312: result, address, HIT. -/
def camResult : Option (Nat × CamEntry) → Nat
  | none => 0
  | some (a, e) => 2 ^ 63 + 2 ^ 32 * a + e.result % 2 ^ 32

/-- Exact-match entry of an unordered table: table code in bits [127:120]. -/
def camExact (code low result : Nat) : CamEntry := ⟨2 ^ 120 * code + low, 2 ^ 128 - 1, result, 0⟩

/-- Base of each region (R314). -/
def CamRegions.trvBase (r : CamRegions) : Nat := r.rule
def CamRegions.pfxBase (r : CamRegions) : Nat := r.rule + r.trv
def CamRegions.hndBase (r : CamRegions) : Nat := r.rule + r.trv + r.pfx

/-- Insert into the lowest invalid entry of a region (R319). -/
def camInsert (entries : SMap CamEntry) (base len : Nat) (e : CamEntry) : Option (SMap CamEntry) :=
  let a := mfreeFrom entries base
  if a < base + len then some (mput entries a e) else none

/-- Remove the entries that hold this value word (R319). -/
def camRemove (entries : SMap CamEntry) (value : Nat) : SMap CamEntry := entries.filter (fun p => p.2.value != value)

/-! ### Ordered insertion (R320-R322) -/

/-- Entries of a region. -/
def camRegion (entries : SMap CamEntry) (base len : Nat) : SMap CamEntry :=
  entries.filter (fun p => decide (base ≤ p.1 ∧ p.1 < base + len))

/-- Lowest invalid address in [lo, hi). -/
def lowInvalid (entries : SMap CamEntry) (lo hi : Nat) : Option Nat :=
  let a := mfreeFrom entries lo
  if a < hi then some a else none

/-- Highest invalid address in [lo, hi). -/
def highInvalid (entries : SMap CamEntry) (lo : Nat) : Nat → Option Nat
  | 0 => none
  | h + 1 => if h < lo then none else if (mget entries h).isNone then some h else highInvalid entries lo h

/-- Move each of the entries [lo, hi) one address up, top first. -/
def shiftUp (entries : SMap CamEntry) (lo hi : Nat) : SMap CamEntry :=
  (List.range (hi - lo)).foldl (fun m i =>
    let a := hi - 1 - i
    match mget m a with
    | some e => mput m (a + 1) e
    | none => m) entries

/-- Move each of the entries (lo, hi] one address down, bottom first. -/
def shiftDown (entries : SMap CamEntry) (lo hi : Nat) : SMap CamEntry :=
  (List.range (hi - lo)).foldl (fun m i =>
    let a := lo + 1 + i
    match mget m a with
    | some e => mput m (a - 1) e
    | none => m) entries

/-- First valid address with a larger order, and the last valid address below it. -/
def orderPlace (region : SMap CamEntry) (base len order : Nat) : Nat × Option Nat :=
  let p := ((region.find? (fun e => decide (order < e.2.order))).map Prod.fst).getD (base + len)
  (p, ((region.filter (fun e => decide (e.1 < p))).getLast?).map Prod.fst)

/-- `ordered_insert` of R320: the entries after, and how many were shifted; none is RUN_FULL. -/
def orderedInsert (entries : SMap CamEntry) (base len g : Nat) (x : CamEntry) : Option (SMap CamEntry × Nat) :=
  let region := camRegion entries base len
  let (p, q) := orderPlace region base len x.order
  let q1 := match q with
    | none => base
    | some q => q + 1
  match lowInvalid entries q1 p with
  | some f => some (mput entries f x, 0)
  | none =>
    let runEnd (a : Nat) : Nat := min (base + len) (base + ((a - base) / g + 1) * g)
    match (if p < base + len then lowInvalid entries (p + 1) (runEnd p) else none) with
    | some f => some (mput (shiftUp entries p f) p x, f - p)
    | none =>
      match q with
      | none => none
      | some q =>
        match highInvalid entries (base + (q - base) / g * g) q with
        | some f => some (mput (shiftDown entries f q) q x, q - f)
        | none => none

/-- Rebalanced region (R322): the invalid entries stand one at the end of each run from the first run on, the rest at the end. -/
def camRebalance (entries : SMap CamEntry) (base len g : Nat) : SMap CamEntry :=
  let region := (camRegion entries base len).map Prod.snd
  let holes := len - region.length
  let others := entries.filter (fun p => !decide (base ≤ p.1 ∧ p.1 < base + len))
  let place (m : SMap CamEntry × Nat) (e : CamEntry) : SMap CamEntry × Nat :=
    let a := m.2
    let a := if (a - base) % g == g - 1 && decide ((a - base) / g < holes) then a + 1 else a
    (mput m.1 a e, a + 1)
  (region.foldl place (others, base)).1

/-- Shift from the nearest invalid entry of the region, the one above on a tie (R322). -/
def nearestInsert (entries : SMap CamEntry) (base len : Nat) (x : CamEntry) : Option (SMap CamEntry × Nat) :=
  let (p, q) := orderPlace (camRegion entries base len) base len x.order
  let up := lowInvalid entries p (base + len)
  let down := match q with
    | none => none
    | some q => (highInvalid entries base q).map (fun f => (f, q))
  match up, down with
  | some f, none => some (mput (shiftUp entries p f) p x, f - p)
  | some f, some (d, q) =>
    if f - p ≤ q - d then some (mput (shiftUp entries p f) p x, f - p)
    else some (mput (shiftDown entries d q) q x, q - d)
  | none, some (d, q) => some (mput (shiftDown entries d q) q x, q - d)
  | none, none => none

/-- Insert into a half's ordered table, rebalancing and repeating on RUN_FULL (R320, R322). None: CAM_TABLE_FULL. `cnt_cam_shift_writes` counts the
shifting writes, one for each entry moved, and none of the rebalance (DESIGN CHOICE, log entry 204). -/
def State.camOrdered (s : State) (half : Nat) (x : CamEntry) : Option State :=
  let c := s.cam half
  let r := c.regions
  let g := max 1 r.gap
  match orderedInsert c.entries 0 r.rule g x with
  | some (m, n) => some ((s.setCam half (c.put m)).addObj Ob.cnt_cam_shift_writes half n)
  | none =>
    let reb := camRebalance c.entries 0 r.rule g
    let s := s.bump Ob.cnt_cam_rebalance half
    match orderedInsert reb 0 r.rule g x <|> nearestInsert reb 0 r.rule x with
    | some (m, n) => some ((s.setCam half (c.put m)).addObj Ob.cnt_cam_shift_writes half n)
    | none => none

/-- Live admission rules of a half. -/
def State.ruleEntries (s : State) (half : Nat) : SMap CamEntry :=
  camRegion (s.cam half).entries 0 (s.cam half).regions.rule

/-- Key of the SESSION_HANDLE and PREFIX_HANDLE tables (Table 9-2). -/
def handleKey (st handle : Nat) : Nat := handle + 2 ^ 64 * st

/-- Resolve a handle in the engines of both halves (R40). -/
def State.camHandle (s : State) (st handle : Nat) : Option Nat :=
  let key := 1 * 2 ^ 120 + handleKey st handle
  ((camSearch (s.cam 0).entries key) <|> (camSearch (s.cam 1).entries key)).map (fun p => p.2.result)

/-- Resolve a prefix handle in the engines of both halves (R64). -/
def State.camPrefix (s : State) (st handle : Nat) : Option Nat :=
  let key := 2 * 2 ^ 120 + handleKey st handle
  ((camSearch (s.cam 0).entries key) <|> (camSearch (s.cam 1).entries key)).map (fun p => p.2.result)

/-- Remove a handle's entry from a half's engine (R41). -/
def State.camDropHandle (s : State) (half st handle : Nat) : State :=
  let c := s.cam half
  s.setCam half (c.put (camRemove c.entries (1 * 2 ^ 120 + handleKey st handle)))

/-- Codes of the logical tables (Table 9-2): the TRAVERSE table's entries. -/
def camIsTraverse (e : CamEntry) : Bool := e.value / 2 ^ 120 == 4

/-- The TRAVERSE entries of both halves go when no traverse is ACTIVE any more (R313). -/
def State.camNoTraverse (s : State) : State :=
  [0, 1].foldl (fun s h => s.setCam h ((s.cam h).put ((s.cam h).entries.filter (fun p => !camIsTraverse p.2)))) s

/-- Live entries of a half's TRAVERSE region. -/
def State.trvEntries (s : State) (half : Nat) : SMap CamEntry :=
  camRegion (s.cam half).entries (s.cam half).regions.trvBase (s.cam half).regions.trv

/-- Insert into the TRAVERSE region while it may take another entry (R314, R319); none: CAM_TABLE_FULL. -/
def State.camTrvInsert (s : State) (half : Nat) (e : CamEntry) : Option State :=
  let c := s.cam half
  if s.regionLimit Ob.cam_trv_entries c.regions.trv ≤ (s.trvEntries half).length then none
  else (camInsert c.entries c.regions.trvBase c.regions.trv e).map (fun m => s.setCam half (c.put m))

/-- Insert into the ADMISSION_RULE region while it may take another entry (R314, R320); none: CAM_TABLE_FULL. -/
def State.camRuleInsert (s : State) (half : Nat) (e : CamEntry) : Option State :=
  if s.regionLimit Ob.cam_rule_entries (s.cam half).regions.rule ≤ (s.ruleEntries half).length then none
  else s.camOrdered half e

/-- One search of a half that a message makes: of its handle, of its prefix or of the rules (R40, R64, R384). It takes an admission of the window and
counts; what it finds is what stands in the engine at its message, for waiting changes no result (R328). DEDUCED (log entry 205): its own wait in
the queue of R315 is not shown. -/
def State.camLook (s : State) (half key : Nat) : State :=
  let c := s.cam half
  let r := camSearch c.entries key
  let s := s.setCam half { c with winOther := c.winOther + 1, lastResult := camResult r }
  let s := s.bump Ob.cnt_cam_searches half
  if r.isSome then s.bump Ob.cnt_cam_hits half else s

/-- Search both halves at once (R40). -/
def State.camLookBoth (s : State) (key : Nat) : State := (s.camLook 0 key).camLook 1 key

end Sys2Proof.Machine
end

