-- ==== Sys2Proof/Machine/Layout.lean ====
section
/-! DEFINITION. Octet layouts of what Detrum keeps in T2 and writes to a host (R2): the session descriptor. Each is little-endian, its fields at the
offsets of the spec's table and its reserved bits 0. -/

namespace Sys2Proof.Machine

/-- Octets of a string, cut or filled with zeros to a length. -/
def fitOctets (n : Nat) (o : Octets) : Octets := (o ++ List.replicate n 0).take n

/-- A number from single bits, bit 0 first. -/
def ofBits : List Bool → Nat
  | [] => 0
  | b :: r => b.toNat + 2 * ofBits r

/-- State codes of Table 2-5. -/
def SState.code : SState → Nat
  | .free => 0
  | .opened => 1
  | .queued => 2
  | .active => 3
  | .waiting => 4
  | .parkedWarm => 5
  | .parkedCold => 6
  | .reviving => 7
  | .cancelling => 8
  | .grammarDead => 9
  | .closed => 10
  | .failed => 11

/-- Flags of Table 2-4. -/
def Session.flagBits (x : Session) : Nat :=
  ofBits [x.ringHold, x.suppressing, x.reviveDemoted, x.cancelAtBoundary, x.closePending, x.inputFinal, x.waitOpen, x.isPrefix,
    x.prefixReleased, x.pendingInput]

/-- One binding of Table 2-3; none is 0xFFFF. -/
def bindingBytes (b : Option Binding) : Octets :=
  match b with
  | none => toLE 2 0xFFFF ++ toLE 6 0
  | some b => toLE 2 b.obj ++ toLE 2 b.flags ++ toLE 4 b.saved

/-- Positions of a session: the larger of accepted and produced chainage (R49). -/
def Session.positions (x : Session) : Nat := max x.chAccepted x.chProduced

/-- The address NONE of Table 3-6. -/
def noTile : Nat := 0xE000000000000000

/-- Address of a page-table tile by its place; NONE where there is none. -/
def PageTable.tileOf (p : PageTable) (place : Nat) : Nat := (mget p.tiles place).getD noTile

/-- Address of the root (Table 2-3). -/
def PageTable.root (p : PageTable) : Nat := p.tileOf 0

/-- `spec_flags` of Table 2-3 and R298: bit 0 drafting stopped, bits [4:1] the draft length that the session opened with. -/
def Session.specFlags (x : Session) : Nat := x.draftStopped.toNat + 2 * (x.draftLenOpen % 16)

/-- Hash table entry, Table 2-2. -/
def HashEntry.bytes (e : HashEntry) : Octets := toLE 8 e.handle ++ toLE 4 e.sid ++ toLE 1 e.station ++ toLE 1 e.slotState ++ toLE 2 0

/-- Offsets 0x000 to 0x1FB of Table 2-3. -/
def Session.body (x : Session) : Octets :=
  toLE 8 x.handle ++ toLE 4 (2 ^ 24 * x.generation + x.index) ++ toLE 1 x.station ++ toLE 1 x.half ++ toLE 2 x.tenant
  ++ toLE 1 x.state.code ++ toLE 1 x.priorState.code ++ toLE 2 x.flagBits
  ++ toLE 4 (x.fbMode + 4 * x.cancelPolicy + 8 * x.revivePolicy + 16 * x.parkClass)
  ++ toLE 4 (x.model + 16 * x.draftModel + 256 * x.draftOn.toNat) ++ toLE 4 x.positions ++ toLE 4 x.maxPositions
  ++ toLE 4 x.prefixSid ++ toLE 4 x.prefixPositions ++ toLE 4 x.waitTag ++ toLE 8 x.pt.root
  ++ toLE 4 x.tilesT1 ++ toLE 4 x.tilesT2 ++ toLE 4 x.tilesT3 ++ toLE 4 x.tilesT4 ++ toLE 4 x.tilesTotal ++ toLE 4 x.refs
  ++ toLE 8 x.chAccepted ++ toLE 8 x.chProduced ++ toLE 8 x.chDelivered ++ toLE 8 x.journalPos ++ toLE 8 x.ringBase
  ++ toLE 4 x.ringWrite ++ toLE 4 x.ringRead ++ toLE 4 x.ringLog2 ++ toLE 4 0 ++ toLE 8 x.waitDeadline ++ toLE 8 x.lastActive
  ++ toLE 8 x.vfinish ++ toLE 8 x.slotFrame ++ toLE 2 x.row ++ toLE 1 x.bucket ++ toLE 1 x.rows ++ toLE 4 0
  ++ toLE 4 x.cntInvalidUtf8 ++ toLE 4 x.cntReviveLate ++ toLE 4 x.cntCopyFirst ++ toLE 4 x.cntTruncated
  ++ (List.range 4).flatMap (fun k => bindingBytes x.bindings[k]?)
  ++ toLE 4 x.temperature.toNat ++ toLE 4 x.topK ++ toLE 4 x.topP.toNat
  ++ toLE 1 x.draftLen ++ toLE 1 x.rejConsec ++ toLE 1 x.rejWindow ++ toLE 1 x.specFlags ++ toLE 8 x.genSeed
  ++ toLE 32 (ofBits x.rejBitmap) ++ toLE 4 x.maxNew ++ toLE 4 x.newCount ++ toLE 4 x.grammarId
  ++ toLE 2 x.grStack.length ++ toLE 2 x.grFlags ++ toLE 4 x.grState ++ toLE 4 0 ++ toLE 8 x.grSpill
  ++ (List.range 10).flatMap (fun k => toLE 4 ((x.grStack.take 10).reverse.getD k 0))
  ++ toLE 1 x.tkLook.length ++ toLE 1 x.tkUtf8.length ++ toLE 2 x.tkFlags ++ fitOctets 3 x.tkUtf8 ++ toLE 1 0 ++ fitOctets 64 x.tkLook
  ++ toLE 8 x.stopAddr ++ toLE 4 x.stopState ++ toLE 4 (x.hold.length + 256 * x.includeStop.toNat) ++ fitOctets 64 x.hold ++ toLE 4 0

/-- `desc_crc` (R45): CRC-32C over 0x000–0x1FB. -/
def Session.descCrc (x : Session) : Nat := crc32c 0xFFFFFFFF x.body

/-- The 512 octets of a descriptor (Table 2-3). -/
def Session.bytes (x : Session) : Octets := x.body ++ toLE 4 x.descCrc

/-- The check of R47 on the 512 octets that a read of a descriptor delivers. -/
def descReadOk (o : Octets) : Bool := o.length == 512 && crc32c 0xFFFFFFFF (o.take 508) == ofLE (o.drop 508)

end Sys2Proof.Machine
end

