-- ==== Sys2Proof/Machine/TileOps.lean ====
section
/-! DEFINITION. Tile addresses, placement in T1 and T2, allocation and freeing of tiles, extents, and page tables (R91-R110,
R120, R121, R135, R211-R218). -/

namespace Sys2Proof.Machine

/-- Tier code of a tile address. -/
def tierOf (a : Nat) : Nat := a / 2 ^ 61 % 8

/-- T0 address: half, cluster, 64-byte granule. -/
def t0Addr (half cluster granule : Nat) : Nat := 2 ^ 60 * half + 2 ^ 52 * cluster + granule * 2 ^ 6

/-- T1 address: half, stack, channel in the stack, slot. -/
def t1Addr (half stack ch slot : Nat) : Nat := 2 ^ 61 + 2 ^ 60 * half + 2 ^ 58 * stack + 2 ^ 53 * ch + slot

/-- T2 address: half, data index, stripe row. -/
def t2Addr (half d row : Nat) : Nat := 2 * 2 ^ 61 + 2 ^ 60 * half + 2 ^ 32 * d + row

/-- T3 address: lending station, extent, offset. -/
def t3Addr (st ext off : Nat) : Nat := 3 * 2 ^ 61 + 2 ^ 53 * st + 2 ^ 49 * ext + off

/-- T4 address: device, lease, offset. -/
def t4Addr (dev lease off : Nat) : Nat := 4 * 2 ^ 61 + 2 ^ 52 * dev + 2 ^ 36 * lease + off

/-- Half of a T0, T1 or T2 address. -/
def addrHalf (a : Nat) : Nat := a / 2 ^ 60 % 2

/-- Stack 0-7 of a T1 address, over both halves. -/
def addrStack (a : Nat) : Nat := addrHalf a * 4 + a / 2 ^ 58 % 4

/-- Stripe row and data index of a T2 address. -/
def addrRow (a : Nat) : Nat := a % 2 ^ 32
def addrData (a : Nat) : Nat := a / 2 ^ 32 % 16

/-- Channel that holds data slot d of stripe k (R101). -/
def t2Channel (k d : Nat) : Nat := (k % 12 + 1 + d) % 12

/-- Lending station and extent of a T3 address. -/
def addrStation (a : Nat) : Nat := a / 2 ^ 53 % 256
def addrExtent (a : Nat) : Nat := a / 2 ^ 49 % 16

/-- Bits that Table 3-6 does not list are 0 (R97). -/
def addrLegal (a : Nat) : Bool :=
  match tierOf a with
  | 0 => bitsOf a 51 21 == 0 && bitsOf a 5 0 == 0
  | 1 => bitsOf a 52 32 == 0
  | 2 => bitsOf a 59 36 == 0 && decide (addrData a ≤ 10)
  | 3 => bitsOf a 48 32 == 0
  | 4 => bitsOf a 35 32 == 0
  | 7 => a == noTile
  | _ => false

/-- Address of the tile after this one in a COPY, MOVE, FILL or VERIFY (R116). -/
def nextAddr (a : Nat) : Nat :=
  match tierOf a with
  | 0 => a + 68 * 64
  | 2 => if addrData a == 10 then t2Addr (addrHalf a) 0 (addrRow a + 1) else a + 2 ^ 32
  | _ => a + 1

/-- Address `n` tiles on. -/
def addrPlus : Nat → Nat → Nat
  | a, 0 => a
  | a, n + 1 => addrPlus (nextAddr a) n

/-- Sidecar and payload of a free slot (Table 3-2). -/
def freeTile : Tile := ⟨1, 0, 0, 0, 0, 0, false, false, 0xFFFFFFFF, 0, 0, 0, 0, 0, 0, 0, [], []⟩

/-- The tile at an address; a slot not listed is free. -/
def State.tileAt (s : State) (a : Nat) : Tile := (mget s.tier.tiles a).getD freeTile

/-- Store a tile. -/
def State.setTile (s : State) (a : Nat) (t : Tile) : State :=
  { s with tier := { s.tier with tiles := mputD freeTile s.tier.tiles a t } }

/-- Move engines of a half. -/
def State.eng (s : State) (half : Nat) : MoveEngines := if half == 0 then s.tier.eng0 else s.tier.eng1

/-- Store the move engines of a half. -/
def State.setEng (s : State) (half : Nat) (e : MoveEngines) : State :=
  if half == 0 then { s with tier := { s.tier with eng0 := e } } else { s with tier := { s.tier with eng1 := e } }

/-! ### Page tables (R211-R218) -/

/-- Key of a leaf entry. -/
def ptKey (block layer group kv : Nat) : Nat := ((block * 256 + layer) * 32 + group) * 2 + kv

/-- Block, layer, group and kv of a leaf entry's key. -/
def ptBlock (k : Nat) : Nat := k / 16384
def ptLayer (k : Nat) : Nat := k / 64 % 256
def ptGroup (k : Nat) : Nat := k / 2 % 32
def ptKv (k : Nat) : Nat := k % 2

/-- Leaf entry at its reset value (Table 6-2). -/
def ptNone : PtEntry := ⟨noTile, noTile⟩

/-- Leaf entry of a page table's own blocks. -/
def PageTable.at (p : PageTable) (k : Nat) : PtEntry := (mget p.entries k).getD ptNone

/-- Write a leaf entry. -/
def PageTable.put (p : PageTable) (k : Nat) (e : PtEntry) : PageTable := { p with entries := mputD ptNone p.entries k e }

/-- Kinds of tile a snapshot covers (R132): KV, VECTOR, NEIGHBOUR, DESC and JOURNAL tiles, and RAW tiles of a station, which are page tables and
input queues; a traverse image is none of them. -/
def inSnapshot (t : Tile) : Bool := [1, 3, 4, 5, 6].contains t.kind || (t.kind == 9 && decide (t.owner < 0xFFFF0000))

/-- The tile at an address is the spill tile of a session's grammar stack, which lies outside every snapshot (R132). -/
def State.isSpill (s : State) (a : Nat) : Bool :=
  (s.tileAt a).kind == 9 && (s.ses.tab.any (fun p => p.2.grSpill == a))

/-- The tile at a T2 address is a shadow: its session's leaf entry names another primary (R108, R132). -/
def State.isShadow (s : State) (a : Nat) : Bool :=
  let t := s.tileAt a
  tierOf a == 2 && t.kind == 1 && (match mget s.ses.tab (t.owner % 2 ^ 24) with
    | none => false
    | some x => 2 ^ 24 * x.generation + x.index == t.owner && (x.pt.at (ptKey (t.locator / 32) t.layer t.group t.kv)).primary != a)

/-- Half whose snapshot covers a tile: that of its address, or of its session where the address names no half. -/
def State.snapHalf (s : State) (a : Nat) : Nat :=
  if tierOf a ≤ 2 then addrHalf a
  else if (s.tileAt a).owner % 2 ^ 24 < Config.indicesPerHalf then 0 else 1

/-- A tile is pending for the snapshot its half runs (R133). -/
def State.pendingSnap (s : State) (a : Nat) : Bool :=
  let t := s.tileAt a
  match (s.eng (s.snapHalf a)).snapshot with
  | none => false
  | some e => (inSnapshot t && t.cowEpoch != e && !s.isShadow a && !s.isSpill a) || t.snapPending

/-! ### Free slots (R99, R135, R442) -/

/-- A free slot among `n` addresses from `lo`, looked for from a start. -/
def freeSlot (tiles : SMap Tile) (lo n start : Nat) : Option Nat :=
  let a := mfreeFrom tiles (lo + start % max n 1)
  if a < lo + n then some a
  else
    let b := mfreeFrom tiles lo
    if b < lo + n then some b else none

/-- A freed slot among `n` addresses from `lo` that a snapshot still needs (R135). -/
def pendingSlot (tiles : SMap Tile) (lo n : Nat) : Option Nat :=
  (tiles.find? (fun p => decide (lo ≤ p.1 ∧ p.1 < lo + n) && p.2.kind == 0 && p.2.snapPending)).map Prod.fst

/-- Channels tried for a tile: home, then ascending with wrap, each for a free slot, or for one that a snapshot still needs. A failed stack's channels
count as full (R99, R424). -/
def t1Try (s : State) (half start : Nat) (needed : Bool) : Nat → Nat → Option Nat
  | 0, _ => none
  | f + 1, c =>
    let c := c % 128
    if s.objAt Ob.t1_stack_state 0 (half * 4 + c / 32) == 1 then t1Try s half start needed f (c + 1)
    else
      let lo := t1Addr half (c / 32) (c % 32) 0
      match (if needed then pendingSlot s.tier.tiles lo Config.t1SlotsPerChannel else freeSlot s.tier.tiles lo Config.t1SlotsPerChannel start) with
      | some a => some a
      | none => t1Try s half start needed f (c + 1)

/-- The slot that a tile of home channel `c` takes: a free one of its channel or the next that has one, and one that a snapshot still needs only where no
channel has another (R99, R135; log entry 185). -/
def State.t1Slot (s : State) (half start c : Nat) : Option Nat :=
  match t1Try s half start false 128 c with
  | some a => some a
  | none => t1Try s half start true 128 c

/-- Rows of a half of T2 that hold a tile or a freed slot that a snapshot still needs, which are taken last (R135). -/
def State.listedRows (s : State) (half : Nat) : SMap Unit :=
  (s.tier.tiles.filter (fun p => tierOf p.1 == 2 && addrHalf p.1 == half)).foldl (fun m p => mput m (addrRow p.1) ()) []

/-- The slot that copy `n` of a half's snapshot takes (R98, R442): in T1, and where none is free there a free slot of the T2 tile pool. -/
def State.stageSlot (s : State) (half n : Nat) : Option Nat :=
  match t1Try s half 0 false 128 n with
  | some a => some a
  | none =>
    let row := mfreeFrom (s.listedRows half) (s.obj Ob.t2_system_rows 0)
    if row < Config.t2RowsPerChannel then some (t2Addr half 0 row) else none

/-- A copy goes to the snapshot target: a SNAPSHOT tile of the epoch and half (Table 3-3) in the staging pool, or outside it where the pool is full,
which is counted (R442). -/
def State.stage (s : State) (half a : Nat) (t : Tile) : State :=
  let e := s.eng half
  let s := if s.obj Ob.ck_stage_tiles 0 ≤ e.snapTiles.length then s.bump Ob.cnt_ck_stage_full half else s
  let slot := (s.stageSlot half e.snapTiles.length).getD noTile
  let s := s.setEng half { s.eng half with snapTiles := e.snapTiles ++ [⟨a, slot, t⟩] }
  if slot == noTile then s
  else s.setTile slot { t with kind := 7, owner := e.epoch + 65536 * half, snapPending := false, cowEpoch := e.epoch }

/-- Copy a pending tile to the snapshot target and mark it with the epoch (R133, R134). One that was freed meanwhile is copied as it stood (R135). -/
def State.snapCopy (s : State) (a : Nat) : State :=
  let h := s.snapHalf a
  match (s.eng h).snapshot with
  | none => s
  | some ep =>
    let t := s.tileAt a
    let s := s.stage h a ((mget (s.eng h).freed a).getD t)
    let s := s.setEng h { s.eng h with freed := mdel (s.eng h).freed a }
    s.setTile a (if t.snapPending then freeTile else { t with cowEpoch := ep })

/-- Session that a tile in use belongs to: the owner of a key/value tile, and the session whose page table or input queue the tile is part of. -/
def State.tileSess (s : State) (a : Nat) : Option Session :=
  let t := s.tileAt a
  if t.kind == 1 then (mget s.ses.tab (t.owner % 2 ^ 24)).filter (fun x => x.generation == t.owner / 2 ^ 24)
  else if t.kind == 9 then (s.ses.tab.find? (fun p => p.2.pt.tiles.any (fun q => q.2 == a) || p.2.queue.contains a)).map Prod.snd
  else none

/-- A copy-first counts in a session (R134). -/
def State.countCopy (s : State) (x : Option Session) : State :=
  match x with
  | none => s
  | some x => { s with ses := { s.ses with tab := mput s.ses.tab x.index { x with cntCopyFirst := x.cntCopyFirst + 1 } } }

/-- A write to a tile: a pending tile is copied first and the stall is counted, in its half and its session (R134). -/
def State.writeTile (s : State) (a : Nat) (t : Tile) : State :=
  if s.pendingSnap a then
    let h := s.snapHalf a
    let s := (((s.snapCopy a).bump Ob.cnt_copy_first h).countCopy (s.tileSess a))
    s.setTile a { t with cowEpoch := (s.eng h).epoch }
  else s.setTile a t

/-- Free a tile's slot: it carries owner 0xFFFFFFFF, and a tile a snapshot still needs stays listed with `snap_pending`, and is kept as it stood until
it is copied (R80, R135). -/
def State.freeTileAt (s : State) (a : Nat) : State :=
  if a == noTile then s
  else if s.pendingSnap a then
    let h := s.snapHalf a
    let t := s.tileAt a
    let s := if t.snapPending then s else s.setEng h { s.eng h with freed := mput (s.eng h).freed a t }
    s.setTile a { t with kind := 0, owner := 0xFFFFFFFF, snapPending := true }
  else s.setTile a freeTile

/-- Epoch a tile allocated now takes: the running snapshot's, else 0 (R133). -/
def State.allocEpoch (s : State) (half : Nat) : Nat := ((s.eng half).snapshot).getD 0

/-! ### T1 (R98, R99) -/

/-- Session seed of R98 and R103. -/
def sidSeed (sid : Nat) : Nat := Nat.xor (sid % 65536) (sid / 65536)

/-- Home channel of a key/value tile. -/
def kvHome (sid block groups ib : Nat) : Nat := (ib + block * 2 * groups + sidSeed sid) % 128

/-- In-block index of a tile. -/
def inBlock (groups layer group kv : Nat) : Nat := (layer * groups + group) * 2 + kv

/-- Allocate a T1 slot for a tile whose home channel is `c` and write the tile there. -/
def State.allocT1 (s : State) (half c : Nat) (t : Tile) : Option (Nat × State) :=
  let (n, s) := s.draw
  match s.t1Slot half n c with
  | none => none
  | some a =>
    let s := if (a / 2 ^ 53) % 128 == c % 128 then s else s.bump Ob.cnt_t1_fallback half
    some (a, s.writeTile a { t with cowEpoch := s.allocEpoch half })

/-- Free T1 slots of a half: those that neither a tile nor its staging pool takes (R442). -/
def State.t1Free (s : State) (half : Nat) : Nat :=
  let t1 := s.tier.tiles.filter (fun p => tierOf p.1 == 1 && addrHalf p.1 == half)
  128 * Config.t1SlotsPerChannel - max (s.obj Ob.ck_stage_tiles 0) (t1.filter (fun p => p.2.kind == 7)).length
    - (t1.filter (fun p => p.2.kind != 0 && p.2.kind != 7)).length

/-! ### T2 (R101-R104) -/

/-- Rows of a half that hold a tile. -/
def State.usedRows (s : State) (half : Nat) : SMap Unit :=
  (s.tier.tiles.filter (fun p => tierOf p.1 == 2 && addrHalf p.1 == half && p.2.kind != 0)).foldl (fun m p => mput m (addrRow p.1) ()) []

/-- Stripes of the system region of each half (R102): descriptor and hash tables, book and mirror, and the fixed allowance.
The tables are whole stripes of eleven slots: 4 GiB of descriptors in tiles of 4,096 payload bytes and 256 MiB of buckets. -/
def State.systemRows (s : State) : Nat :=
  ceilDiv 1048576 11 + ceilDiv 65536 11 + ceilDiv (s.obj Ob.fb_tiles_h0 0 + s.obj Ob.fb_tiles_h1 0) 11 + 262144

/-- Octets of a plat image (Tables 14-9, 14-10). -/
def platSize (p : PlatImage) : Nat := 64 + 80 * p.devices.length + 32 * p.slices.length + 96 * p.assigns.length + 16 * p.handovers.length

/-- Tiles of a half's fixed allowance in use (R102), but for text objects and input queues, which are tiles of their own here: its copy of the sync
mirror (32 tiles of 256 objects) and its intent list of 64-byte entries, and for half 0 the route table of 16-byte entries (R475), the committed plat
image and the error spill log. -/
def State.allowanceUsed (s : State) (half : Nat) : Nat :=
  32 + ceilDiv (64 * (s.eng half).intents.length) 4096
    + (if half == 0 then
        ceilDiv (16 * s.fab.route.length) 4096 + (s.fab.plat.map (fun p => ceilDiv (platSize p) 4096)).getD 0 + s.obj Ob.err_spill_tiles 0
      else 0)

/-- What a number has above another, 0 where it has nothing. -/
def excess (n k : Nat) : Nat := if n ≤ k then 0 else n - k

/-- Stripes of a half that are not the tile allocator's: those that spill from a full allowance of the system region (R102) and, by the parity of the lease
number, those lent. -/
def State.t2Reserved (s : State) (half : Nat) : Nat :=
  ceilDiv (excess (s.allowanceUsed half) (11 * 262144)) 11 + ((s.fab.leases.filter (fun p => !p.2.lessee && p.2.kind != 1 && p.1 % 2 == half)).map (fun p => ceilDiv p.2.tiles 11)).foldl (· + ·) 0

/-- A free stripe row of the tile pool. -/
def State.freeRow (s : State) (half : Nat) : Option (Nat × State) :=
  let (n, s) := s.draw
  let sys := s.obj Ob.t2_system_rows 0
  let rows := Config.t2RowsPerChannel - s.t2Reserved half
  let a := mfreeFrom (s.listedRows half) (sys + n % max 1 (rows - sys))
  if a < rows then some (a, s)
  else
    let b := mfreeFrom (s.listedRows half) sys
    if b < rows then some (b, s)
    else
      let c := mfreeFrom (s.usedRows half) sys
      if c < rows then some (c, s) else none

/-- Free tile-pool stripes of a half. -/
def State.t2Free (s : State) (half : Nat) : Nat :=
  Config.t2RowsPerChannel - s.obj Ob.t2_system_rows 0 - s.t2Reserved half
    - ((s.usedRows half).filter (fun p => decide (s.obj Ob.t2_system_rows 0 ≤ p.1))).length

/-- Allocate a T2 slot for one tile outside session blocks: data slot 0 of a stripe taken whole (R102). -/
def State.allocT2 (s : State) (half : Nat) (t : Tile) : Option (Nat × State) :=
  match s.freeRow half with
  | none => none
  | some (k, s) => some (t2Addr half 0 k, s.writeTile (t2Addr half 0 k) { t with cowEpoch := s.allocEpoch half })

/-- Slots of a half's system region from its first, each as the data index and row that hold it. -/
def sysSlot (half n : Nat) : Nat := t2Addr half (n % 11) (n / 11)

/-- Allocate a slot for a text object's or an input queue's tile: the lowest free one of the fixed allowance, and one of the tile pool where the allowance
is full (R102). -/
def State.allocSys (s : State) (half : Nat) (t : Tile) : Option (Nat × State) :=
  let rows := s.obj Ob.t2_system_rows 0
  let used := (s.tier.tiles.filter (fun p => tierOf p.1 == 2 && addrHalf p.1 == half && decide (addrRow p.1 < rows))).foldl (fun m p =>
    mput m (11 * addrRow p.1 + addrData p.1) ()) []
  let n := mfreeFrom used (11 * excess rows 262144 + s.allowanceUsed half)
  if n < 11 * rows then some (sysSlot half n, s.writeTile (sysSlot half n) { t with cowEpoch := s.allocEpoch half })
  else s.allocT2 half t

/-- Keep octets in new tiles of the system region, 4,096 to a tile, behind those of a list. -/
def State.keepSys (s : State) (half : Nat) (t : Tile) : Nat → Octets → List Nat → State × List Nat
  | 0, _, l => (s, l)
  | n + 1, o, l =>
    match s.allocSys half { t with payload := bputs [] 0 (o.take 4096) } with
    | none => (s, l)
    | some (a, s) => s.keepSys half t n (o.drop 4096) (l ++ [a])

/-- A text object is kept as TEXT tiles whose owner is its object index (R94, R255, R272), in half 0 (log entry 169). -/
def State.keepText (s : State) (owner : Nat) (o : Octets) : State × List Nat :=
  s.keepSys 0 { freeTile with kind := 8, owner := owner } (ceilDiv o.length 4096) o []

/-- The tiles of a text object are freed, its mirror in T1 among them. -/
def State.freeText (s : State) (owner : Nat) : State :=
  ((s.tier.tiles.filter (fun p => p.2.kind == 8 && p.2.owner == owner)).map Prod.fst).foldl (fun s a => s.freeTileAt a) s

/-- Stripe group and data index of a session's tile (R103). -/
def kvStripe (sid block ib tb : Nat) : Nat × Nat :=
  let sb := (tb + 10) / 11
  let grp := block * sb + ib / 11
  (grp, (ib % 11 + Nat.xor grp (sidSeed sid) % 11) % 11)

/-! ### T3 extents (R120, R121) -/

/-- Extent e of a station, none where its record is all zero. -/
def State.extent (s : State) (st e : Nat) : Option ExtentRec :=
  let o := s.strAt Ob.stn_t3_extent st e
  if ofLE o == 0 then none
  else some ⟨ofLE (slice o 0 8), ofLE (slice o 8 4), ofLE (slice o 12 1), ofLE (slice o 13 1), ofLE (slice o 14 2)⟩

/-- Some tile lies in an extent. -/
def State.extentLive (s : State) (st e : Nat) : Bool :=
  s.tier.tiles.any (fun p => tierOf p.1 == 3 && addrStation p.1 == st && addrExtent p.1 == e)

/-- Lender of a session's T3 tiles (R121): that of the tiles it has there, else the class's station, else the session's own. -/
def State.t3Lender (s : State) (x : Session) : Nat :=
  let l := s.obj Ob.pk_t3_station x.parkClass
  match x.pt.entries.find? (fun p => tierOf p.2.primary == 3) with
  | some p => addrStation p.2.primary
  | none => if l == 0xFFFF then x.station else l

/-- A free slot of an extent or lease: `n` slots from an address, those that a snapshot still needs taken last (R135). -/
def State.freeFrom (s : State) (lo n : Nat) : Option Nat :=
  let a := mfreeFrom s.tier.tiles lo
  if a < lo + n then some a
  else (s.tier.tiles.find? (fun p => decide (lo ≤ p.1 ∧ p.1 < lo + n) && p.2.kind == 0 && p.2.snapPending)).map Prod.fst

/-- Write a tile of a session into a slot allocated for it: it takes the running snapshot's epoch (R133). -/
def State.writeNew (s : State) (x : Session) (a : Nat) (t : Tile) : State := s.writeTile a { t with cowEpoch := s.allocEpoch x.half }

/-- A free T3 slot for a session with its lender. -/
def State.allocT3 (s : State) (x : Session) (t : Tile) : Option (Nat × State) :=
  let l := s.t3Lender x
  let ok (e : Nat) : Option Nat :=
    match s.extent l e with
    | none => none
    | some r => if l == x.station || (r.shared == 1 && s.privileged l) then s.freeFrom (t3Addr l e 0) r.slots else none
  match (List.range 16).findSome? ok with
  | none => none
  | some a => some (a, s.writeNew x a t)

/-- A free T4 slot in a lease this tile holds for parking (R477). -/
def State.allocT4 (s : State) (x : Session) (t : Tile) : Option (Nat × State) :=
  let ok (p : Nat × Lease) : Option Nat :=
    if p.2.lessee && p.2.kind == 0 && p.2.recalled.isNone then s.freeFrom (t4Addr (p.1 / 65536) (p.1 % 65536) 0) p.2.tiles else none
  match s.fab.leases.findSome? ok with
  | none => none
  | some a => some (a, s.writeNew x a t)

/-! ### Tiles of a page table (R212, R214) -/

/-- Layers per layer group (R212). -/
def lgLayers (groups : Nat) : Nat := 32 / max groups 1

/-- Layer groups of a model (R212). -/
def lgCount (layers groups : Nat) : Nat := ceilDiv layers (lgLayers groups)

/-- Page-table tiles that blocks `lo` to `hi` − 1 of a session need, by their place in the table: the root, its extension, and per layer group the
directories and the leaves of those blocks (R212, R214-R216). -/
def ptPlaces (layers groups lo hi : Nat) : List Nat :=
  let span (n : Nat) : List Nat := if lo < hi then (List.range ((hi - 1) / n + 1 - lo / n)).map (· + lo / n) else []
  [0] ++ (if 252 < lgCount layers groups then [1] else [])
    ++ (List.range (lgCount layers groups)).flatMap (fun lg =>
      (span 2048).map (fun h => 2 + 2 * lg + h) ++ (span 4).map (fun j => 1024 * (lg + 1) + j))

/-- Directory addresses of a layer group, as the root and its extension hold them (Table 6-1). -/
def PageTable.dirs (p : PageTable) (lg : Nat) : Octets := toLE 8 (p.tileOf (2 + 2 * lg)) ++ toLE 8 (p.tileOf (3 + 2 * lg))

/-- The root (Table 6-1): of the session numbered `sid`, whose prefix's root is at `above`. -/
def PageTable.rootOctets (p : PageTable) (sid above : Nat) : Octets :=
  toLE 4 sid ++ toLE 1 (p.model % 16) ++ toLE 1 p.groups ++ toLE 2 p.layers ++ toLE 1 (lgLayers p.groups) ++ toLE 1 (lgCount p.layers p.groups) ++ toLE 2 0
  ++ toLE 4 p.blocks ++ toLE 4 p.sharedBlocks ++ toLE 4 p.prefixSid ++ toLE 8 above ++ toLE 4 p.kvWritten ++ toLE 4 0 ++ toLE 8 (p.tileOf 1)
  ++ List.replicate 16 0 ++ (List.range 252).flatMap p.dirs

/-- The root extension (Table 6-1). -/
def PageTable.extOctets (p : PageTable) : Octets := (List.range 4).flatMap (fun k => p.dirs (252 + k))

/-- A directory (R216). -/
def PageTable.dirOctets (p : PageTable) (lg h : Nat) : Octets :=
  (List.range 512).flatMap (fun j => toLE 8 (p.tileOf (1024 * (lg + 1) + (512 * h + j))))

/-- A leaf (R216, Table 6-2): entry e of a block is that of a layer of the group, a key/value group and K or V; what lies beyond the model's layers is 0. -/
def PageTable.leafOctets (p : PageTable) (lg j : Nat) : Octets :=
  (List.range 4).flatMap (fun k => (List.range 64).flatMap (fun e =>
    let l := lg * lgLayers p.groups + e / (2 * max 1 p.groups)
    if e < lgLayers p.groups * 2 * p.groups ∧ l < p.layers then
      let v := p.at (ptKey (4 * j + k) l (e % (2 * max 1 p.groups) / 2) (e % 2))
      toLE 8 v.primary ++ toLE 8 v.t2Copy
    else List.replicate 16 0))

/-- Octets of a page-table tile by its place. -/
def PageTable.octets (p : PageTable) (sid above place : Nat) : Octets :=
  if place == 0 then p.rootOctets sid above
  else if place == 1 then p.extOctets
  else if place < 1024 then p.dirOctets ((place - 2) / 2) (place % 2)
  else p.leafOctets (place / 1024 - 1) (place % 1024)

/-- Octets from address 0 on as a byte-addressed store. -/
def storeOf (o : Octets) : ByteStore := (o.zipIdx.filter (fun p => p.1 != 0)).map (fun p => (p.2, p.1))

end Sys2Proof.Machine
end

