-- ==== Sys2Proof/Machine/SessOps.lean ====
section
/-! DEFINITION. Operations over sessions (chapter 2): the descriptor table, handle resolution and the hash tables, records and events of
a session, its tiles and blocks, and the state changes of Table 2-6. -/

namespace Sys2Proof.Machine

/-! ### Descriptors -/

/-- Session number: generation over index (R33). -/
def Session.sid (x : Session) : Nat := 2 ^ 24 * x.generation + x.index % 2 ^ 24

/-- Index of a session number. -/
def sidIndex (sid : Nat) : Nat := sid % 2 ^ 24

/-- Half that allocates an index (R33). -/
def indexHalf (i : Nat) : Nat := if i < Config.indicesPerHalf then 0 else 1

/-- Indices from here on are the model's own, for page tables of other members' sessions (R228). -/
def farBase : Nat := 2 ^ 40

/-- Index of the page table kept for a session of another member, by its home position and its session number there (R228). -/
def farIndex (home sid : Nat) : Nat := farBase + (farBase * home + sid % 2 ^ 32)

/-- Descriptor at an index; none is free. -/
def State.sess (s : State) (i : Nat) : Option Session := if i < farBase then mget s.ses.tab i else mget s.ses.far i

/-- Descriptor whose session number this is. -/
def State.bySid (s : State) (sid : Nat) : Option Session :=
  (s.sess (sidIndex sid)).bind (fun x => if x.sid == sid then some x else none)

/-- Store a descriptor. -/
def State.setSess (s : State) (x : Session) : State :=
  { s with ses := { s.ses with tab := if x.index < farBase then mput s.ses.tab x.index x else s.ses.tab
                               far := if x.index < farBase then s.ses.far else mput s.ses.far x.index x } }

/-- Change the descriptor at an index. -/
def State.modSess (s : State) (i : Nat) (f : Session → Session) : State :=
  match s.sess i with
  | none => s
  | some x => s.setSess (f x)

/-- Live (R50): any state of Table 2-5 but CLOSED. -/
def SState.live : SState → Bool
  | .free => false
  | .closed => false
  | _ => true

/-- Parked. -/
def SState.parked : SState → Bool
  | .parkedWarm => true
  | .parkedCold => true
  | _ => false

/-- Descriptors in index order. -/
def State.sessions (s : State) : List Session := s.ses.tab.map Prod.snd

/-- Free descriptors of a half (R36). -/
def State.freeDescs (s : State) (half : Nat) : Nat :=
  Config.indicesPerHalf - (s.ses.tab.filter (fun p => indexHalf p.1 == half)).length

/-- Half an OPEN or PREFIX_REGISTER under ANY takes: more free descriptors, half 0 on a tie (R36). -/
def State.anyHalf (s : State) : Nat := if s.freeDescs 1 > s.freeDescs 0 then 1 else 0

/-- Sessions of a station that are not CLOSED, prefixes apart (R38). -/
def State.stationSessions (s : State) (st : Nat) (prefixes : Bool) : Nat :=
  (s.sessions.filter (fun x => x.station == st && x.state.live && x.isPrefix == prefixes)).length

/-- Generation after `g` at an index (R34): index 0xFFFFFF never takes 0xFF. -/
def nextGen (i g : Nat) : Nat := if i == 0xFFFFFF && g == 0xFE then 0 else (g + 1) % 256

/-- Free index of a half, chosen freely among the free (R33, log entry 5), with its generation. -/
def State.takeIndex (s : State) (half : Nat) : Option (Nat × Nat × State) :=
  let (n, s) := s.draw
  let base := Config.indicesPerHalf * half
  let tab := s.ses.tab
  let a := mfreeFrom tab (base + n % Config.indicesPerHalf)
  let pickI := if a < Config.indicesPerHalf + base then some a
    else (let b := mfreeFrom tab base; if b < Config.indicesPerHalf + base then some b else none)
  pickI.map (fun i =>
    let g := (mget s.ses.gens i).getD 0
    (i, g, { s with ses := { s.ses with gens := mput s.ses.gens i (nextGen i g) } }))

/-! ### Hash tables (R42, R43) -/

/-- A half's hash table. -/
def State.hash (s : State) (half : Nat) : HashTable := if half == 0 then s.ses.hash0 else s.ses.hash1

/-- Store a half's hash table. -/
def State.setHash (s : State) (half : Nat) (h : HashTable) : State :=
  if half == 0 then { s with ses := { s.ses with hash0 := h } } else { s with ses := { s.ses with hash1 := h } }

/-- Buckets of a table (R42). -/
def hashBuckets : Nat := 4194304

/-- Home bucket: bits [21:0] of CRC-32C over the station byte and the handle, seeded with the half's hash seed (R43). -/
def homeBucket (seed st handle : Nat) : Nat := crc32c seed (toLE 1 st ++ toLE 8 handle) % hashBuckets

/-- A bucket's four entries. -/
def HashTable.bucket (h : HashTable) (b : Nat) : List HashEntry :=
  (mget h.buckets b).getD (List.replicate 4 ⟨0, 0xFFFFFFFF, 0, 0⟩)

/-- Probe for a live entry, ending at the first bucket that holds an empty entry. -/
def HashTable.look (h : HashTable) (st handle : Nat) : Nat → Nat → Option Nat
  | 0, _ => none
  | f + 1, b =>
    let es := h.bucket (b % hashBuckets)
    match es.find? (fun e => e.slotState == 1 && e.handle == handle && e.station == st) with
    | some e => some e.sid
    | none => if es.any (fun e => e.slotState == 0) then none else h.look st handle f (b + 1)

/-- Lookup of a handle in one table. Probing visits at most every bucket that is listed, and one more. -/
def HashTable.find (h : HashTable) (st handle : Nat) : Option Nat :=
  h.look st handle (h.buckets.length + 1) (homeBucket h.seed st handle)

/-- Write the first entry of a list that satisfies a test. -/
def replaceFirst (es : List HashEntry) (p : HashEntry → Bool) (x : HashEntry) : List HashEntry :=
  match es with
  | [] => []
  | e :: r => if p e then x :: r else e :: replaceFirst r p x

/-- Insert on the way into the first empty or tombstone entry. -/
def HashTable.insertAt (h : HashTable) (x : HashEntry) : Nat → Nat → HashTable
  | 0, _ => h
  | f + 1, b =>
    let b := b % hashBuckets
    let es := h.bucket b
    match es.find? (fun e => e.slotState != 1) with
    | none => h.insertAt x f (b + 1)
    | some e => { h with buckets := mput h.buckets b (replaceFirst es (fun e => e.slotState != 1) x), live := h.live + 1,
                         tombs := if e.slotState == 2 then h.tombs - 1 else h.tombs }

/-- Insert a session's handle. -/
def HashTable.add (h : HashTable) (st handle sid : Nat) : HashTable :=
  h.insertAt ⟨handle, sid, st, 1⟩ (h.buckets.length + 1) (homeBucket h.seed st handle)

/-- Removal writes a tombstone. -/
def HashTable.drop (h : HashTable) (st handle sid : Nat) : HashTable :=
  let isIt (e : HashEntry) : Bool := e.slotState == 1 && e.handle == handle && e.station == st && e.sid == sid
  if h.buckets.any (fun p => p.2.any isIt) then
    { h with buckets := h.buckets.map (fun p => (p.1, p.2.map (fun e => if isIt e then ⟨0, 0xFFFFFFFF, 0, 2⟩ else e))),
             live := h.live - 1, tombs := h.tombs + 1 }
  else h

/-- The table rebuilt without tombstones (R43). -/
def HashTable.rebuild (h : HashTable) : HashTable :=
  let es := (h.buckets.flatMap Prod.snd).filter (fun e => e.slotState == 1)
  es.foldl (fun t e => t.add e.station e.handle e.sid) ⟨h.seed, [], 0, 0⟩

/-! ### Handle resolution (R40-R44) -/

/-- Descriptor the number names, when its handle, station and generation match and it is live (R44). -/
def State.matching (s : State) (st handle sid : Nat) : Option Session :=
  (s.bySid sid).bind (fun x => if x.handle == handle && x.station == st && x.state.live && !x.isPrefix then some x else none)

/-- A handle stays in use through the tick in which its session reached CLOSED (R32). -/
def State.justClosed (s : State) (st handle : Nat) : Bool :=
  s.sessions.any (fun x => x.station == st && x.handle == handle && !x.isPrefix && x.state == .closed && x.stateSince == s.tick)

/-- Resolve by the hash tables of both halves alone. -/
def State.hashResolve (s : State) (st handle : Nat) : Option Session :=
  (((s.hash 0).find st handle).bind (s.matching st handle)) <|> (((s.hash 1).find st handle).bind (s.matching st handle))

/-- Resolve a handle (R40, R44): the associative engines of both halves, the descriptor's check, and the hash table; a stale entry counts. -/
def State.resolve (s : State) (st handle : Nat) : State × Option Session :=
  let found := s.camHandle st handle
  let s := s.camLookBoth (1 * 2 ^ 120 + handleKey st handle)
  match found with
  | none => (s, s.hashResolve st handle)
  | some sid =>
    match s.matching st handle sid with
    | some x => (s, some x)
    | none => ({ s with ses := { s.ses with handleStale := lbump s.ses.handleStale (indexHalf (sidIndex sid)) } },
               s.hashResolve st handle)

/-- PARKED_WARM session of a half whose handle is in the engine with the oldest `last_active` (R41); of several the one of the lowest index
(DESIGN CHOICE, log entry 188). -/
def State.displaced (s : State) (half : Nat) : Option Session :=
  let here := (s.sessions.filter (fun x => x.half == half && x.state == .parkedWarm
    && (s.cam half).entries.any (fun p => p.2.value == 1 * 2 ^ 120 + handleKey x.station x.handle)))
  here.foldl (fun b x => match b with
    | none => some x
    | some y => if x.lastActive < y.lastActive then some x else some y) none

/-- Enter a handle into its half's engine: lowest invalid entry, or at the quota in place of the displaced one (R41, R316). -/
def State.camAddHandle (s : State) (x : Session) : State :=
  let c := s.cam x.half
  let r := c.regions
  let e := camExact 1 (handleKey x.station x.handle) x.sid
  match camInsert c.entries r.hndBase r.hnd e with
  | some m => s.setCam x.half (c.put m)
  | none =>
    match s.displaced x.half with
    | some y =>
      let v := 1 * 2 ^ 120 + handleKey y.station y.handle
      s.setCam x.half (c.put (c.entries.map (fun p => if p.2.value == v then (p.1, e) else p)))
    | none => { s with ses := { s.ses with handleCamFull := lbump s.ses.handleCamFull x.half } }

/-- Enter a descriptor's handle into its half's hash table and engine: a prefix's while it is not released (R64), a session's in the states in which
the engine keeps it (R41). -/
def State.enterHandles (s : State) (y : Session) : State :=
  if y.isPrefix then
    if y.prefixReleased then s
    else
      let c := s.cam y.half
      match camInsert c.entries c.regions.pfxBase c.regions.pfx (camExact 2 (handleKey y.station y.pfxHandle) y.sid) with
      | some m => s.setCam y.half (c.put m)
      | none => s.bump Ob.cnt_prefix_cam_full y.half
  else
    let s := s.setHash y.half ((s.hash y.half).add y.station y.handle y.sid)
    if y.state == .parkedCold || y.state == .failed || y.state == .closed then s else s.camAddHandle y

/-- A session's handle leaves engine and hash table. -/
def State.dropHandle (s : State) (x : Session) : State :=
  let s := s.camDropHandle x.half x.station x.handle
  s.setHash x.half ((s.hash x.half).drop x.station x.handle x.sid)

/-! ### Records and events of a session (R49, R51) -/

/-- The mode journals this record: all under FULL; ACCEPT, CANCEL and CLOSE under ACCEPT_ONLY; none under OFF. -/
def recAllowed (mode : Nat) : RecBody → Bool
  | .accept _ _ _ _ _ _ _ _ _ _ _ _ => mode != 2
  | .cancel _ _ => mode != 2
  | .close _ _ _ => mode != 2
  | .config _ _ _ _ _ => true
  | _ => mode == 0

/-- Append a session's record as its mode allows; `journal_pos` follows it. Answers its position, 0 when none is written. -/
def State.srec (s : State) (i : Nat) (body : RecBody) : State × Nat :=
  match s.sess i with
  | none => (s, 0)
  | some x =>
    if recAllowed x.fbMode body then
      let (s, pos) := s.appendRec x.half x.sid x.station x.chProduced body
      (s.setSess { x with journalPos := pos }, pos)
    else (s, 0)

/-- Append a session's record, its position dropped. -/
def State.srec' (s : State) (i : Nat) (body : RecBody) : State := (s.srec i body).1

/-- Event of a session, to its station with its handle (R500). A prefix has no handle event but its station learns it by handle 0. -/
def State.sevent (s : State) (x : Session) (code a0 a1 : Nat) : State := s.event x.station code x.handle a0 a1

/-! ### Parking stops (R67, R73, R127) -/

/-- No further park move of a session starts: its PARK_BLOCKS descriptors end with the tiles that are in flight (R67, R73, R127). -/
def State.stopParks (s : State) (x : Session) : State :=
  let g := s.eng x.half
  let cut (d : QDesc) : QDesc := if d.desc.op == 5 && d.desc.owner == x.sid then
      { d with total := d.started, keys := d.keys.take (d.started - d.landed) } else d
  s.setEng x.half { g with queues := g.queues.map (fun p => (p.1, p.2.map cut)) }

/-- A session is needed: its own parking and that of the prefix it shares stop (R67, R127). -/
def State.stopParking (s : State) (i : Nat) : State :=
  match s.sess i with
  | none => s
  | some x =>
    match s.bySid x.prefixSid with
    | none => s.stopParks x
    | some p => (s.stopParks x).stopParks p

/-! ### Virtual time of the fair queue (R388, R389) -/

/-- Virtual time of a half. -/
def State.vTime (s : State) (half : Nat) : Nat := if half == 0 then s.shape.v0 else s.shape.v1

/-- Tag after entering the queue from idle (R388). -/
def State.wakeTag (s : State) (x : Session) : Nat :=
  let w := max 1 (s.obj Ob.tn_weight x.tenant)
  max x.vfinish (s.vTime x.half) + (2 ^ 24 + w - 1) / w

/-- Enter QUEUED from OPEN, WAITING, a parked state or REVIVING: the session wakes (R389), and its parking stops (R67, R73). -/
def State.toQueued (s : State) (i : Nat) : State :=
  (s.stopParking i).modSess i (fun x => { x with state := .queued, stateSince := s.tick, vfinish := s.wakeTag x })

/-! ### Tiles of a session -/

/-- Count one tile at an address in or out of a descriptor's tier counters. -/
def Session.tierCount (x : Session) (a : Nat) (add : Bool) : Session :=
  let f (n : Nat) : Nat := if add then n + 1 else n - 1
  match tierOf a with
  | 1 => { x with tilesT1 := f x.tilesT1 }
  | 2 => { x with tilesT2 := f x.tilesT2 }
  | 3 => { x with tilesT3 := f x.tilesT3 }
  | 4 => { x with tilesT4 := f x.tilesT4 }
  | _ => x

/-- Keys of every tile of block b in a page table, ascending in-block index. -/
def blockKeys (layers groups b : Nat) : List Nat :=
  (List.range layers).flatMap (fun l => (List.range groups).flatMap (fun g =>
    (List.range 2).map (fun kv => ptKey b l g kv)))

/-- Row of the stripe group that holds this tile, when another tile of the group is already placed (R103). -/
def stripeRow (x : Session) (b ib tb : Nat) (keys : List Nat) : Option Nat :=
  let grp := (kvStripe x.sid b ib tb).1
  (keys.zipIdx.findSome? (fun (k, j) =>
    if (kvStripe x.sid b j tb).1 == grp then
      let e := x.pt.at k
      if tierOf e.t2Copy == 2 then some (addrRow e.t2Copy) else none
    else none))

/-- T2 slot of a session's tile (R103): its stripe group's row, allocated when the group has none yet. -/
def State.allocKvT2 (s : State) (x : Session) (key : Nat) (t : Tile) : Option (Nat × State) :=
  let b := ptBlock key
  let tb := x.pt.layers * x.pt.groups * 2
  let ib := inBlock x.pt.groups (ptLayer key) (ptGroup key) (ptKv key)
  let d := (kvStripe x.sid b ib tb).2
  let put (s : State) (k : Nat) : Nat × State := (t2Addr x.half d k, s.writeTile (t2Addr x.half d k) { t with cowEpoch := s.allocEpoch x.half })
  match stripeRow x b ib tb (blockKeys x.pt.layers x.pt.groups b) with
  | some k => some (put s k)
  | none => (s.freeRow x.half).map (fun (k, s) => put s k)

/-- Allocate a slot for a session's tile in a tier and write the tile there. -/
def State.allocKv (s : State) (x : Session) (tier key : Nat) (t : Tile) : Option (Nat × State) :=
  match tier with
  | 1 => s.allocT1 x.half (kvHome x.sid (ptBlock key) x.pt.groups (inBlock x.pt.groups (ptLayer key) (ptGroup key) (ptKv key))) t
  | 2 => s.allocKvT2 x key t
  | 3 => s.allocT3 x t
  | 4 => s.allocT4 x t
  | _ => none

/-- A block's tiles that hold no page yet are allocated in a tier, empty (R219). False where a slot is missing. -/
def State.allocBlock (s : State) (i tier b : Nat) : State × Bool :=
  match s.sess i with
  | none => (s, false)
  | some x0 =>
    let fmt := s.obj Ob.mdl_kv_format x0.model
    let step (acc : State × Bool) (k : Nat) : State × Bool :=
      match acc.1.sess i with
      | none => acc
      | some x =>
        let t : Tile := { freeTile with kind := 1, elem := fmt, owner := x.sid, layer := ptLayer k, group := ptGroup k, kv := ptKv k,
                                        locator := 32 * b, sharedRo := x.isPrefix }
        match acc.1.allocKv x tier k t with
        | none => (acc.1, false)
        | some (a, s) =>
          let x := { (x.tierCount a true) with
                      tilesTotal := x.tilesTotal + 1
                      pt := { (x.pt.put k ⟨a, if tier == 2 then a else noTile⟩) with blocks := max x.pt.blocks (b + 1) } }
          (s.setSess x, acc.2)
    let (s, ok) := (blockKeys x0.pt.layers x0.pt.groups b).foldl step (s, true)
    (s.bump Ob.cnt_kv_blocks_allocated x0.half, ok)

/-- The tiles of a session's page table hold it: what it has changed of them is written, through the copy-first rule where a snapshot runs (R134, R214-R216;
a partial update of R105 and R106). -/
def State.syncPt (s : State) (i : Nat) : State :=
  match s.sess i with
  | none => s
  | some x =>
    let above := ((s.bySid x.pt.prefixSid).map (fun p => p.pt.root)).getD noTile
    x.pt.tiles.foldl (fun s p =>
      let o := storeOf (x.pt.octets x.sid above p.1)
      if (s.tileAt p.2).payload == o then s else s.writeTile p.2 { s.tileAt p.2 with payload := o }) s

/-- Page-table tiles are taken from the T2 tile pool as the table grows, owned by the session's station: none for blocks of a shared prefix, which lookups
never seek in the session's own leaves (R214, R217). Where no slot is free the place is filled when the table is written next (log entry 200). -/
def State.growPt (s : State) (i : Nat) : State :=
  match s.sess i with
  | none => s
  | some x =>
    let want := (ptPlaces x.pt.layers x.pt.groups x.pt.sharedBlocks x.pt.blocks).filter (fun k => (mget x.pt.tiles k).isNone)
    (want.foldl (fun s k =>
      match s.sess i with
      | none => s
      | some x =>
        match s.allocT2 x.half { freeTile with kind := 9, owner := x.station } with
        | none => s
        | some (a, s) => (s.setSess { x with pt := { x.pt with tiles := mput x.pt.tiles k a } }).bump Ob.pt_tiles x.half) s).syncPt i

/-- Free one tile of a session, primary and shadow. -/
def State.freeKv (s : State) (i key : Nat) : State :=
  match s.sess i with
  | none => s
  | some x =>
    let e := x.pt.at key
    let s := s.freeTileAt e.primary
    let s := if e.t2Copy == e.primary then s else s.freeTileAt e.t2Copy
    s.setSess { (x.tierCount e.primary false) with tilesTotal := x.tilesTotal - 1, pt := x.pt.put key ptNone }

/-- Free every key/value tile a session owns. -/
def State.freePages (s : State) (i : Nat) : State :=
  match s.sess i with
  | none => s
  | some x =>
    let s := x.pt.entries.foldl (fun s p => s.freeKv i p.1) s
    (s.modSess i (fun x => { x with tilesT1 := 0, tilesT2 := 0, tilesT3 := 0, tilesT4 := 0, tilesTotal := 0,
                                    pt := { x.pt with entries := [] } })).syncPt i

/-- Page-table tiles are freed when the index returns to the free list (R214). -/
def State.freePt (s : State) (i : Nat) : State :=
  match s.sess i with
  | none => s
  | some x =>
    let n := x.pt.tiles.length
    let s := x.pt.tiles.foldl (fun s p => s.freeTileAt p.2) s
    (s.setObj Ob.pt_tiles x.half (s.obj Ob.pt_tiles x.half - n)).modSess i (fun x => { x with pt := { x.pt with tiles := [] } })

/-! ### Input queues (R267) -/

/-- Accepted input tokens that no frame has consumed, by chainage. -/
def Session.queued (x : Session) : SMap Nat :=
  x.tokens.filter (fun p => decide (x.pt.kvWritten ≤ p.1 ∧ p.1 < x.chAccepted) && (mget x.generated p.1).isNone)

/-- The input queue holds the accepted tokens that no frame has consumed, 1,024 u32 entries to a RAW tile of the session's station in the system region:
tiles whose last token is consumed are freed, and new ones are taken at the end (R267). -/
def State.syncQueue (s : State) (i : Nat) : State :=
  match s.sess i with
  | none => s
  | some x =>
    let lo := (x.queued.head?.map Prod.fst).getD 0
    let hi := (x.queued.getLast?.map Prod.fst).getD 0
    let start := if x.queue.isEmpty then lo else x.queueFrom
    let gone := if x.queued.isEmpty then x.queue.length else (lo - start) / 1024
    let s := (x.queue.take gone).foldl (fun s a => s.freeTileAt a) s
    let start := start + 1024 * gone
    let kept := x.queue.drop gone
    let need := if x.queued.isEmpty then 0 else (hi - start) / 1024 + 1
    let (s, l) := s.keepSys x.half { freeTile with kind := 9, owner := x.station, locator := x.sid } (need - kept.length) [] kept
    let s := l.zipIdx.foldl (fun s p =>
      let first := start + 1024 * p.2
      let page := bputs [] 0 ((List.range 1024).flatMap (fun k => toLE 4 ((mget x.tokens (first + k)).getD 0)))
      if (s.tileAt p.1).payload == page then s else s.writeTile p.1 { s.tileAt p.1 with payload := page }) s
    s.modSess i (fun y => { y with queue := l, queueFrom := start })

/-- CLOSE, CANCEL and FAILED free the input queue (R267) and the spilled part of the grammar stack. -/
def State.freeQueue (s : State) (i : Nat) : State :=
  match s.sess i with
  | none => s
  | some x =>
    let s := x.queue.foldl (fun s a => s.freeTileAt a) s
    let s := if x.grFlags % 2 == 1 then s.freeTileAt x.grSpill else s
    s.modSess i (fun y => { y with queue := [], queueFrom := 0, grFlags := 0, grSpill := 0 })

/-- Entries of the grammar stack below the top ten lie in one RAW tile of the session's station, bottom entry first, while there are any (R273; log entry
170). -/
def State.spillStack (s : State) (i : Nat) : State :=
  match s.sess i with
  | none => s
  | some x =>
    let low := (x.grStack.drop 10).reverse
    if low.isEmpty then
      (if x.grFlags % 2 == 1 then (s.freeTileAt x.grSpill).modSess i (fun y => { y with grFlags := 0, grSpill := 0 }) else s)
    else
      let (s, a) := if x.grFlags % 2 == 1 then (s, x.grSpill)
        else match s.allocSys x.half { freeTile with kind := 9, owner := x.station, locator := x.sid } with
          | none => (s, noTile)
          | some (a, s) => (s, a)
      if a == noTile then s
      else (s.writeTile a { s.tileAt a with payload := bputs [] 0 (low.flatMap (toLE 4)) }).modSess i (fun y => { y with grFlags := 1, grSpill := a })

/-- Lookup through a session's page table (R217): address and expected owner. -/
def State.ptLookup (s : State) (x : Session) (b l g kv : Nat) : Nat × Nat :=
  if b < x.pt.sharedBlocks then
    match s.bySid x.pt.prefixSid with
    | none => (noTile, 0xFFFFFFFF)
    | some p => ((p.pt.at (ptKey b l g kv)).primary, p.sid)
  else ((x.pt.at (ptKey b l g kv)).primary, x.sid)

/-! ### The tier the traverse reads -/

/-- Header of the ACTIVE traverse. -/
def State.activeHdr (s : State) : Option TrvHeader :=
  s.trv.active.bind (fun n => (mget s.trv.slots n).bind (fun t => t.image.map (fun i => i.hdr)))

/-- Tier the loaded traverse reads key/value from; T1 where no traverse is loaded (R129, log entry 10). -/
def State.kvTier (s : State) : Nat := (s.activeHdr.map (fun h => h.kvTier)).getD 1

/-! ### Residency and parking states (Table 2-6, R58, R73) -/

/-- Tiles of a session that are evicted or unallocated below its kept extent. -/
def Session.evicted (x : Session) : Nat := x.tilesTotal - (x.tilesT1 + x.tilesT2 + x.tilesT3 + x.tilesT4)

/-- State that residency gives an idle or waiting session; a PARK record of the move goes with it (R73). Tiles in T4 count as tiles in T3 do (log
entry 146). -/
def State.residency (s : State) (i tier first last moved : Nat) : State :=
  match s.sess i with
  | none => s
  | some x =>
    let rec_ : RecBody := .park tier moved first last
    if x.state == .grammarDead then s.srec' i rec_
    else if x.state == .opened || x.state == .waiting || x.state == .parkedWarm then
      if 0 < x.tilesT3 + x.tilesT4 + x.evicted then
        let s := s.srec' i rec_
        let s := s.camDropHandle x.half x.station x.handle
        s.modSess i (fun y => { y with state := .parkedCold, stateSince := s.tick,
                                        priorState := if x.state == .parkedWarm then y.priorState else x.state })
      else if x.tilesT1 == 0 && x.state != .parkedWarm then
        (s.srec' i rec_).modSess i (fun y => { y with state := .parkedWarm, priorState := x.state, stateSince := s.tick, warmSince := s.tick })
      else s
    else s

/-- Mask every row of a session for this frame. -/
def State.maskRows (s : State) (sid : Nat) : State :=
  { s with trv := { s.trv with rowTab := s.trv.rowTab.map (fun r => if r.entry.sid == sid && r.entry.home == s.obj Ob.group_position 0 then { r with masked := true } else r) } }

/-! ### Endings -/

/-- FAILED causes of Table 12-9. -/
def causeDescCrc : Nat := 1
def causeStateLost : Nat := 2
def causeT3Lost : Nat := 3
def causeT4Lost : Nat := 4
def causePrefixLost : Nat := 5
def causeBookLost : Nat := 6

/-- A prefix with `refs` 0 that is released is freed (R66): its pages, its page table and its descriptor. -/
def State.freePrefixIfDone (s : State) (i : Nat) : State :=
  match s.sess i with
  | none => s
  | some p =>
    if p.isPrefix && p.prefixReleased && p.refs == 0 then
      (((s.freePages i).freeQueue i).modSess i (fun x => { x with state := .closed, stateSince := s.tick, closedFrame := s.frame }))
    else s

/-- A sharing session's end lowers its prefix's `refs`, once for each session (R66, R83). -/
def State.dropRef (s : State) (x : Session) : State :=
  if x.refGone then s
  else
    let s := s.modSess x.index (fun y => { y with refGone := true })
    match s.bySid x.prefixSid with
    | none => s
    | some p => (s.setSess { p with refs := p.refs - 1 }).freePrefixIfDone p.index

/-- Bound objects a live session unbinds are left to chapter 10; the session's rows and input go (R53, R55). -/
def Session.clearWork (x : Session) : Session :=
  { x with inputs := [], pendingInput := false, turnDue := false, hold := [], waitOpen := false, waitDeadline := 0, row := 0xFFFF,
           rows := 0, rebuild := none, parking := none, cancelAtBoundary := false, closePending := false, cancelLater := false, rewound := false }

/-- CLOSED (Table 2-6): its rows run masked (R55), CLOSE record, pages freed, handle dropped, event, prefix reference lowered. The reason: 1 CLOSE,
2 CANCEL. -/
def State.enterClosed (s : State) (i reason : Nat) : State :=
  match s.sess i with
  | none => s
  | some x =>
    let s := (s.maskRows x.sid).srec' i (.close reason 0 x.chDelivered)
    let s := ((s.freePages i).freeQueue i).dropHandle x
    let s := s.modSess i (fun y => { y.clearWork with state := .closed, stateSince := s.tick, closedFrame := s.frame })
    let s := s.sevent x (if reason == 2 then Ev.CANCELLED else Ev.CLOSED) x.chDelivered 0
    s.dropRef x

/-- One session becomes FAILED (R59): CLOSE record with the cause, event, tiles freed; the descriptor stays. -/
def State.failOne (s : State) (i cause : Nat) : State :=
  match s.sess i with
  | none => s
  | some x =>
    if x.state == .failed || !x.state.live then s
    else
      let s := s.srec' i (.close 3 cause x.chDelivered)
      let s := ((s.freePages i).freeQueue i).camDropHandle x.half x.station x.handle
      let s := s.modSess i (fun y => { y.clearWork with state := .failed, stateSince := s.tick, failCause := cause })
      let s := s.sevent x Ev.FAILED (0x0C80 + cause) x.chDelivered
      if x.isPrefix then s else s.dropRef x

/-- FAILED (R59); with a prefix every session that shares it fails (R68). -/
def State.enterFailed (s : State) (i cause : Nat) : State :=
  match s.sess i with
  | none => s
  | some x =>
    let sharers := if x.isPrefix && x.state.live && x.state != .failed then
        s.sessions.filter (fun y => !y.isPrefix && y.prefixSid == x.sid)
      else []
    sharers.foldl (fun s y => s.failOne y.index causePrefixLost) (s.failOne i cause)

/-- Under ACCEPT_ONLY the tokens generated after the last input record are in no record: a rebuild that reaches them drops them and their pages, and
generation runs again from that input, suppressed below `ch_delivered` (R88, R90, R307). Input that is not tokenized yet comes after them, so that it
waits as pending input does. -/
def State.rewind (s : State) (i : Nat) : State :=
  match s.sess i with
  | none => s
  | some x =>
    let k := x.chAccepted - 1
    let blocks := max (ceilDiv k 32) x.pt.sharedBlocks
    let listed := x.pt.entries.filter (fun p => decide (blocks ≤ ptBlock p.1))
    let held := (listed.filter (fun p => p.2.primary != noTile)).length
    let s := (listed.map Prod.fst).foldl (fun s key => s.freeKv i key) s
    (s.modSess i (fun y => { y with
      tilesTotal := y.tilesTotal - ((x.pt.blocks - blocks) * x.pt.layers * x.pt.groups * 2 - held)
      chProduced := y.chAccepted, suppressing := decide (y.chAccepted < y.chDelivered), turnDue := true, newCount := 0, hold := []
      stopState := 0, turnFirst := true, grState := y.turnGr, grStack := y.turnStack, rewound := true
      tokens := y.tokens.filter (fun p => decide (p.1 < y.chAccepted)), generated := y.generated.filter (fun p => decide (p.1 < y.chAccepted))
      outbox := [], pt := { y.pt with kvWritten := k, blocks := blocks }
      inputs := y.inputs.map (fun r => { r with pending := true, held := true }), pendingInput := y.pendingInput || !y.inputs.isEmpty
      rebuild := y.rebuild.bind (fun p => if p.1 < blocks then some (p.1, min p.2 (blocks - 1)) else none) })).spillStack i

/-- Blocks that hold a written position: those below lie in `pt_kv_written` (R89). -/
def Session.writtenBlocks (x : Session) : Nat := ceilDiv x.pt.kvWritten 32

/-- A rebuild of blocks up to one reaches the tokens that an ACCEPT_ONLY session generated after its last input record (R88). -/
def Session.reachesTurn (x : Session) (last : Nat) : Bool :=
  x.fbMode == 1 && !x.isPrefix && decide (0 < x.chAccepted ∧ x.chAccepted < x.chProduced ∧ x.chAccepted < 32 * (last + 1))

/-- Blocks first to last are to be recomputed, by the method of a REVIVE record (R86, R88, R89), as far as positions of them are written. -/
def State.toRebuild (s : State) (i first last method : Nat) : State :=
  match s.sess i with
  | none => s
  | some x =>
    if x.writtenBlocks ≤ first then s
    else
      let last := min last (x.writtenBlocks - 1)
      let (f, l) := match x.rebuild with
        | none => (first, last)
        | some (a, b) => (min a first, max b last)
      let s := s.setSess { x with rebuild := some (f, l), rebuildPos := 0, rebuildMethod := max x.rebuildMethod method }
      if x.reachesTurn l then s.rewind i else s

/-- REVIVING begins: the tiers that its REVIVE record names count from here (R85). -/
def Session.toReviving (x : Session) (tick : Nat) : Session := { x with state := .reviving, stateSince := tick, reviveTiers := 0 }

/-- Tiles of blocks first to last lost beyond parity (R89): rebuild by resurvey under FULL or ACCEPT_ONLY, else FAILED. An OPEN or WAITING session
revives for it (R79, R415), and its parking stops (R73); a parked one, which has evicted tiles now (R41, R73), is rebuilt when it revives (log entry
35). Blocks that hold no written position lose nothing. -/
def State.lostBlocks (s : State) (i first last cause : Nat) : State :=
  match s.sess i with
  | none => s
  | some x =>
    if !x.state.live || x.state == .failed || x.state == .cancelling || decide (x.writtenBlocks ≤ first) then s
    else if x.fbMode == 2 then s.enterFailed i cause
    else
      let s := s.toRebuild i first last 2
      if x.state == .opened || x.state == .waiting then
        (s.stopParking i).modSess i (fun y => { y.toReviving s.tick with priorState := y.state })
      else if x.state == .parkedWarm then
        (s.camDropHandle x.half x.station x.handle).modSess i (fun y => { y with state := .parkedCold, stateSince := s.tick })
      else s

/-- One tile of a session is lost: its slot and leaf entry go, and its block is rebuilt (R89, R107). One of a block that holds no written position is
allocated again with the next row (R219). -/
def State.loseKv (s : State) (i key cause : Nat) : State :=
  match s.sess i with
  | none => s
  | some x =>
    let e := x.pt.at key
    let s := (s.freeTileAt e.primary).bump Ob.cnt_tile_lost x.half
    let s := s.setSess { (x.tierCount e.primary false) with
      pt := x.pt.put key ptNone, tilesTotal := if x.writtenBlocks ≤ ptBlock key then x.tilesTotal - 1 else x.tilesTotal }
    (s.syncPt i).lostBlocks i (ptBlock key) (ptBlock key) cause

/-! ### Revival (R85, R86, R129, R131) -/

/-- Every tile of the session that is not evicted stands in the target tier, and nothing remains to be recomputed. -/
def Session.allIn (x : Session) (tier : Nat) : Bool :=
  x.rebuild.isNone && x.pt.entries.all (fun p => tierOf p.2.primary == tier || p.2.primary == noTile) && x.evicted == 0

/-- Every position of the prefix's input stands in its pages, or did before some were lost (R62). -/
def Session.prefilled (p : Session) : Bool := p.inputs.isEmpty && decide (p.chAccepted ≤ p.pt.kvWritten)

/-- The prefix a session shares is where the session needs it (R62, R67). -/
def State.prefixReady (s : State) (x : Session) : Bool :=
  match s.bySid x.prefixSid with
  | none => true
  | some p => p.allIn s.kvTier && p.state != .reviving && p.prefilled

/-- Nothing keeps a session's tiles from being parked: no issued list names it (R73), and the sessions that share a prefix are parked (R67). -/
def State.parkable (s : State) (x : Session) : Bool :=
  x.named.isEmpty
  && (!x.isPrefix || x.refs == 0
    || s.sessions.all (fun y => y.prefixSid != x.sid || !y.state.live || y.state.parked || y.state == .failed))

/-- Work waits for a session: accepted input or a final record (R53). -/
def Session.hasWork (x : Session) : Bool := x.turnDue || x.inputs.any (fun r => r.final && !r.pending)

/-- Revive-ready (Table 2-6): REVIVE record, then QUEUED with work or the prior state without. A rebuild also reports itself (R415). -/
def State.reviveReady (s : State) (i : Nat) : State :=
  match s.sess i with
  | none => s
  | some x =>
    if x.state == .reviving && x.allIn s.kvTier && s.prefixReady x then
      let trvId := (s.activeHdr.map (fun h => h.groupIdentity)).getD 0
      let s := s.srec' i (.revive x.rebuildMethod x.reviveTiers x.pt.entries.length x.recomputed trvId)
      let s := if x.rebuildMethod == 2 then
          ((s.sevent x Ev.SESSION_REBUILT x.recomputed 0).bump Ob.cnt_sessions_rebuilt x.half)
        else s
      let s := s.modSess i (fun y => { y with rebuildMethod := 0, recomputed := 0, reviveTiers := 0, lastActive := s.tick })
      if x.hasWork && !x.maxPosDue then s.toQueued i
      else s.modSess i (fun y => { y with state := y.priorState, stateSince := s.tick })
    else s

end Sys2Proof.Machine
end

