-- ==== Sys2Proof/Machine/ShapeOps.lean ====
section
/-! DEFINITION. Token buckets, admission rules and gate lists (R374-R392). -/

namespace Sys2Proof.Machine

/-- The four resources of Table 11-1: 0 STEP, 1 REVIVE, 2 PARK, 3 QUERY. Rate object of a station or tenant. -/
def rateSpec (tenant : Bool) : Nat → ObjSpec
  | 0 => if tenant then Ob.tn_step_rate else Ob.stn_step_rate
  | 1 => if tenant then Ob.tn_revive_rate else Ob.stn_revive_rate
  | 2 => if tenant then Ob.tn_park_rate else Ob.stn_park_rate
  | _ => if tenant then Ob.tn_query_rate else Ob.stn_query_rate

/-- Burst object of a resource. -/
def burstSpec (tenant : Bool) : Nat → ObjSpec
  | 0 => if tenant then Ob.tn_step_burst else Ob.stn_step_burst
  | 1 => if tenant then Ob.tn_revive_burst else Ob.stn_revive_burst
  | 2 => if tenant then Ob.tn_park_burst else Ob.stn_park_burst
  | _ => if tenant then Ob.tn_query_burst else Ob.stn_query_burst

/-- Action of a resource: 0 DEFER, 1 REJECT; only STEP and QUERY have REJECT (Table 11-1). -/
def State.bucketAction (s : State) (tenant : Bool) (n res : Nat) : Nat :=
  match res with
  | 0 => s.obj (if tenant then Ob.tn_step_action else Ob.stn_step_action) n
  | 3 => s.obj (if tenant then Ob.tn_query_action else Ob.stn_query_action) n
  | _ => 0

/-- Key of a bucket's level. -/
def bucketKey (tenant : Bool) (n res : Nat) : Nat := (if tenant then 256 + n else n) * 4 + res

/-- Rate in force of a bucket: a write takes effect at the start of the next tick (R381). -/
def State.rate (s : State) (tenant : Bool) (n res : Nat) : Nat :=
  (mget s.shape.rates (bucketKey tenant n res)).getD (s.obj (rateSpec tenant res) n)

/-- The bucket is unlimited (R378). -/
def State.unlimited (s : State) (tenant : Bool) (n res : Nat) : Bool := s.rate tenant n res == 0xFFFFFFFF

/-- Burst in units × 65,536. -/
def State.burst (s : State) (tenant : Bool) (n res : Nat) : Nat := s.obj (burstSpec tenant res) n * 256

/-- Level of a bucket, at its burst where it never moved; 0 while unlimited (R378, R381). -/
def State.level (s : State) (tenant : Bool) (n res : Nat) : Int :=
  if s.unlimited tenant n res then 0
  else (mget s.shape.levels (bucketKey tenant n res)).getD (s.burst tenant n res : Nat)

/-- Store a level. -/
def State.setLevel (s : State) (key : Nat) (v : Int) : State :=
  { s with shape := { s.shape with levels := mput s.shape.levels key v } }

/-- The bucket holds at least this many units (R379). -/
def State.conformant (s : State) (tenant : Bool) (n res units : Nat) : Bool :=
  s.unlimited tenant n res || decide (((units * 65536 : Nat) : Int) ≤ s.level tenant n res)

/-- Debit a bucket at once (grants, R380). -/
def State.debitNow (s : State) (tenant : Bool) (n res units : Nat) : State :=
  if s.unlimited tenant n res then s
  else s.setLevel (bucketKey tenant n res) (s.level tenant n res - (units * 65536 : Nat))

/-- Sum a debit for the end of the tick (R379). -/
def State.debitLater (s : State) (tenant : Bool) (n res units : Nat) : State :=
  if s.unlimited tenant n res then s
  else
    let k := bucketKey tenant n res
    { s with shape := { s.shape with debits := mput s.shape.debits k ((mget s.shape.debits k).getD 0 + units) } }

/-- What the buckets answer for a message of a station and tenant (R376, R379). -/
inductive Police where
  | pass
  | defer
  | reject
deriving DecidableEq, Repr

/-- Police one unit of a resource at intake against station and tenant, or the station alone. -/
def State.police (s : State) (st : Nat) (tenant : Option Nat) (res : Nat) : Police :=
  let a := s.conformant false st res 1
  let b := tenant.all (fun tn => s.conformant true tn res 1)
  if a && b then .pass
  else if (!a && s.bucketAction false st res == 1) || (!b && tenant.any (fun tn => s.bucketAction true tn res == 1)) then .reject
  else .defer

/-! ### Bucket writes and ticks (R379, R381) -/

/-- Buckets that have a stored level. -/
def bucketOfKey (k : Nat) : Bool × Nat × Nat :=
  let o := k / 4
  if o < 256 then (false, o, k % 4) else (true, o - 256, k % 4)

/-- One tick of one bucket: rate added, level capped at the burst. -/
def State.bucketStep (s : State) (k : Nat) : State :=
  let (t, n, r) := bucketOfKey k
  if s.unlimited t n r then { s with shape := { s.shape with levels := mdel s.shape.levels k } }
  else s.setLevel k (min (s.level t n r + (s.rate t n r : Nat)) (s.burst t n r : Nat))

/-- End-of-tick debits, then the next tick's start for every bucket (R379): the written rates come into force, and a bucket that one of them makes
limited starts at its burst (R381). -/
def State.bucketTick (s : State) : State :=
  let s := s.shape.debits.foldl (fun s p =>
    let (t, n, r) := bucketOfKey p.1
    s.setLevel p.1 (s.level t n r - (p.2 * 65536 : Nat))) s
  let old := s.shape.rates
  let s := { s with shape := { s.shape with debits := [], rates := [] } }
  let fresh := (old.filter (fun p =>
    let (t, n, r) := bucketOfKey p.1
    p.2 == 0xFFFFFFFF && !s.unlimited t n r)).map Prod.fst
  let s := fresh.foldl (fun s k =>
    let (t, n, r) := bucketOfKey k
    s.setLevel k (s.burst t n r : Nat)) s
  (s.shape.levels.map Prod.fst).foldl (fun s k => if fresh.contains k then s else s.bucketStep k) s

/-- A rate write: the rate it replaces stays in force to the end of the tick (R381). -/
def State.rateWritten (s : State) (tenant : Bool) (n res old : Nat) : State :=
  let k := bucketKey tenant n res
  if (mget s.shape.rates k).isSome then s else { s with shape := { s.shape with rates := mput s.shape.rates k old } }

/-- A burst write keeps the level that the bucket has, which the new burst caps at the next tick (R381). -/
def State.keepLevel (s : State) (tenant : Bool) (n res : Nat) : State :=
  if s.unlimited tenant n res then s else s.setLevel (bucketKey tenant n res) (s.level tenant n res)

/-! ### Admission rules (R384-R386) -/

/-- Key of Table 11-3. -/
def admissionKey (st tn model kind cls bytes : Nat) : Nat :=
  3 * 2 ^ 120 + st + tn * 2 ^ 8 + 2 ^ 20 * model + 2 ^ 24 * kind + 2 ^ 28 * cls + 2 ^ 32 * min bytes 0xFFFFFFFF

/-- First matching rule of the serving half: action and identifier; a miss allows. -/
def State.admission (s : State) (half key : Nat) : Nat × Nat :=
  match camSearch (s.ruleEntries half) key with
  | none => (0, 0)
  | some (_, e) => (e.result % 4, e.result / 65536)

/-- A rule with this identifier is live. -/
def State.ruleLive (s : State) (id : Nat) : Bool := (s.ruleEntries 0).any (fun p => p.2.result / 65536 == id)

/-- `ar_insert`: a 40-byte rule written to both halves (R386). -/
def State.ruleInsert (s : State) (v : Octets) : State × Nat :=
  let value := 3 * 2 ^ 120 + ofLE (slice v 0 15)
  let care := 255 * 2 ^ 120 + ofLE (slice v 16 15)
  let result := ofLE (slice v 32 4)
  let e : CamEntry := ⟨value, care, result, ofLE (slice v 36 4)⟩
  if s.ruleLive (result / 65536) then (s, St.RULE_ID_IN_USE)
  else match s.camRuleInsert 0 e with
    | none => (s, St.CAM_TABLE_FULL)
    | some s1 =>
      match s1.camRuleInsert 1 e with
      | none => (s, St.CAM_TABLE_FULL)
      | some s2 => (s2, St.OK)

/-- A rule's reserved result bits are 0 and its fields in range (R21, Table 11-3). -/
def ruleRange (v : Octets) : Bool :=
  let r := ofLE (slice v 32 4)
  r % 4 != 3 && r / 4 % 16384 == 0 && r / 65536 != 0

/-- `ar_remove` clears a rule in both halves (R386). -/
def State.ruleRemove (s : State) (id : Nat) : State × Nat :=
  if s.ruleLive id then
    let drop (c : CamHalf) : CamHalf :=
      c.put (c.entries.filter (fun p => !(decide (p.1 < c.regions.rule) && p.2.result / 65536 == id)))
    ((s.setCam 0 (drop (s.cam 0))).setCam 1 (drop (s.cam 1)), St.OK)
  else (s, St.RULE_ID_UNKNOWN)

/-! ### Gate lists (R391, R392) -/

/-- A half's gate state. -/
def State.gate (s : State) (half : Nat) : GateSt := if half == 0 then s.shape.gate0 else s.shape.gate1

/-- Store a half's gate state. -/
def State.setGate (s : State) (half : Nat) (g : GateSt) : State :=
  if half == 0 then { s with shape := { s.shape with gate0 := g } } else { s with shape := { s.shape with gate1 := g } }

/-- Queue 0-63 is open: class 0 always, else the bit of the entry in force; every queue until the first commit. -/
def State.gateOpen (s : State) (half q : Nat) : Bool :=
  if q < 16 then true
  else match (s.gate half).active[(s.gate half).index]? with
    | none => true
    | some e => e.openMask / 2 ^ (q - 16) % 2 == 1

/-- The entries an OCTETS value of gate entries spells (Table 11-4). -/
def gateEntries : Nat → Octets → List GateEntry
  | 0, _ => []
  | f + 1, o => if o.length < 16 then [] else ⟨ofLE (slice o 0 4), ofLE (slice o 8 6)⟩ :: gateEntries f (o.drop 16)

/-- Table 11-4 holds for every entry of a value: whole entries, ticks 1 to 1,250,000, reserved bits 0. -/
def gateValid : Nat → Octets → Bool
  | 0, _ => true
  | f + 1, o =>
    if o.isEmpty then true
    else decide (16 ≤ o.length) && decide (1 ≤ ofLE (slice o 0 4) ∧ ofLE (slice o 0 4) ≤ 1250000)
      && ofLE (slice o 4 4) == 0 && ofLE (slice o 14 2) == 0 && gateValid f (o.drop 16)

/-- COMMIT to `gl_command` (R392). -/
def State.gateCommit (s : State) (half : Nat) : State × Nat :=
  let o := s.str Ob.gl_entries half
  let f := s.obj Ob.gl_takeover half
  if f < s.frame + 4 then (s, St.GATE_LIST_LATE)
  else if o.isEmpty || !gateValid 65 o then (s, St.GATE_LIST_INVALID)
  else (s.setGate half { s.gate half with next := some (f, gateEntries 64 o) }, St.OK)

/-- At a frame's start the gate list begins at its first entry, and a committed list takes over at its frame (R391, R392). -/
def State.gateFrame (s : State) (half : Nat) : State :=
  let g := s.gate half
  let g := match g.next with
    | some (f, es) => if f ≤ s.frame then ({ g with active := es, next := none }, true) else (g, false)
    | none => (g, false)
  let left := ((g.1.active[0]?).map (fun e => e.ticks)).getD 0
  let s := s.setGate half { g.1 with index := 0, left := left }
  if g.2 then s.bump Ob.cnt_gate_takeovers half else s

/-- An entry's ticks run out: the next entry's mask applies; the last holds (R391). -/
def State.gateNext (s : State) (half : Nat) : State :=
  let g := s.gate half
  match g.active[g.index + 1]? with
  | none => s
  | some e => s.setGate half { g with index := g.index + 1, left := e.ticks }

end Sys2Proof.Machine
end

