-- ==== Sys2Proof/Machine/VxTiles.lean ====
section
/-! DEFINITION. The tiles of a vector index in T2: its VECTOR and NEIGHBOUR tiles, and the identifier map in RAW tiles (R330, R331, R344). -/

namespace Sys2Proof.Machine

/-- An index slot that was never created. -/
def vxEmpty : VxIndex := ⟨0, [], ⟨0, 0, []⟩, [], [], [], [], none, none, false⟩

/-- An index slot. -/
def State.vxAt (s : State) (ii : Nat) : VxIndex := (mget s.srch.vx ii).getD vxEmpty

/-- `n_ins_epoch` of a node that is pending. -/
def vxPending : Nat := 0xFFFFFFFF

/-! ### The identifier map (R331, R43) -/

/-- Home bucket of an identifier: bits [21:0] of CRC-32C over its five bytes, seeded with the half's hash seed, folded into the map's buckets (R43, R331;
log entry 208). -/
def VxMap.home (m : VxMap) (id : Nat) : Nat := crc32c m.seed (toLE 5 id) % 4194304 % max 1 m.buckets

/-- The four entries of a bucket with their places, none for an empty one. -/
def VxMap.bucket (m : VxMap) (b : Nat) : List (Nat × Option VxMapEntry) := (List.range 4).map (fun i => (4 * b + i, mget m.entries (4 * b + i)))

/-- Probe for an identifier: the place of its live entry, ending at the first bucket that holds an empty entry. -/
def VxMap.look (m : VxMap) (id : Nat) : Nat → Nat → Option (Nat × VxMapEntry)
  | 0, _ => none
  | f + 1, b =>
    let es := m.bucket (b % max 1 m.buckets)
    match es.findSome? (fun p => p.2.bind (fun e => if e.state == 1 && e.id == id then some (p.1, e) else none)) with
    | some r => some r
    | none => if es.any (fun p => p.2.isNone) then none else m.look id f (b + 1)

/-- Lookup of an identifier. Probing visits at most every bucket that is listed, and one more. -/
def VxMap.find (m : VxMap) (id : Nat) : Option (Nat × VxMapEntry) := m.look id (m.entries.length + 1) (m.home id)

/-- The place that an insertion takes: the first empty or tombstone entry on the way. -/
def VxMap.place (m : VxMap) : Nat → Nat → Option Nat
  | 0, _ => none
  | f + 1, b =>
    match (m.bucket (b % max 1 m.buckets)).find? (fun p => p.2.all (fun e => e.state != 1)) with
    | some p => some p.1
    | none => m.place f (b + 1)

/-- An identifier enters the map. -/
def VxMap.add (m : VxMap) (id slot : Nat) : VxMap :=
  match m.place (m.entries.length + 1) (m.home id) with
  | none => m
  | some k => { m with entries := mput m.entries k ⟨id, 1, slot⟩ }

/-- An identifier leaves the map: a tombstone stays. -/
def VxMap.drop (m : VxMap) (id : Nat) : VxMap :=
  match m.find id with
  | none => m
  | some (k, _) => { m with entries := mput m.entries k ⟨0, 2, 0⟩ }

/-- Octets of a map entry (R331). -/
def vxMapOctets : Option VxMapEntry → Octets
  | none => toLE 16 0
  | some e => toLE 5 e.id ++ toLE 3 0 ++ toLE 1 e.state ++ toLE 3 0 ++ toLE 4 e.slot

/-- The node that an identifier names (R331). -/
def vxFind (x : VxIndex) (id : Nat) : Option (Nat × VxNode) := (x.map.find id).bind (fun p => (mget x.nodes p.2.slot).map (fun n => (p.2.slot, n)))

/-! ### The tiles (R330) -/

/-- Bytes of a node record (R330). -/
def vxRecBytes (graph : Bool) (degree : Nat) : Nat := if graph then 16 + 4 * degree else 16

/-- Counts of an index's VECTOR, NEIGHBOUR and map tiles (R330, R331). -/
def vxVecCount (d cap : Nat) : Nat := if d ≤ 1024 then ceilDiv cap (1024 / max d 1) else cap * ceilDiv d 1024
def vxNodeCount (graph : Bool) (degree cap : Nat) : Nat := ceilDiv cap (4096 / vxRecBytes graph degree)
def vxMapCount (cap : Nat) : Nat := ceilDiv (2 * cap * 16) 4096

/-- Tiles of an index (R330, R331): vectors, node records, identifier map. -/
def vxTiles (graph : Bool) (d degree cap : Nat) : Nat := vxVecCount d cap + vxNodeCount graph degree cap + vxMapCount cap

/-- Node record of R330 (Table 9-5), padded to the index's record size. -/
def nodeOctets (n : VxNode) (size : Nat) : Octets :=
  fitOctets size (toLE 5 n.id ++ toLE 1 (n.live.toNat + 2 * n.tomb.toNat) ++ toLE 1 n.nbrs.length ++ toLE 1 0 ++ toLE 4 n.tombSeq ++ toLE 4 n.insEpoch
    ++ n.nbrs.flatMap (toLE 4))

/-- Owner tag of an index's VECTOR and NEIGHBOUR tiles (R330). -/
def vxOwner (ii generation : Nat) : Nat := (ii + 256 * generation) % 2 ^ 32

/-- NEIGHBOUR tile `k` of an index, and VECTOR tile `k`, as R330 lays them out. -/
def vxNodeTile (x : VxIndex) (owner size k : Nat) : Tile :=
  let per := 4096 / size
  { freeTile with
    kind := 4, owner := owner, locator := k * per, valid := per
    payload := bputs [] 0 ((List.range per).flatMap (fun j => match mget x.nodes (k * per + j) with
      | some n => nodeOctets n size
      | none => nodeOctets ⟨0, false, false, 0, vxPending, [], []⟩ size)) }
def vxVectorTile (x : VxIndex) (owner d k : Nat) : Tile :=
  let per := 1024 / max d 1
  let vec (n m off : Nat) : Octets := (((mget x.nodes n).map (fun q => (q.vec.drop off).take m)).getD []).flatMap (fun l => toLE 4 l.toNat)
  let parts := ceilDiv d 1024
  if d ≤ 1024 then
    { freeTile with kind := 3, elem := 0x08, owner := owner, locator := k * per, valid := per
                    payload := (List.range per).foldl (fun m j => bputs m (4 * d * j) (vec (k * per + j) d 0)) [] }
  else
    { freeTile with kind := 3, elem := 0x08, owner := owner, group := k % parts, locator := k / parts, valid := 1
                    payload := bputs [] 0 (vec (k / parts) 1024 (1024 * (k % parts))) }

/-- Map tile `k`: 256 entries, in a RAW tile of the index's station. -/
def vxMapTile (x : VxIndex) (station k : Nat) : Tile :=
  { freeTile with kind := 9, owner := station, payload := bputs [] 0 ((List.range 256).flatMap (fun j => vxMapOctets (mget x.map.entries (256 * k + j)))) }

/-- Layout of an index: its kind, dimension, degree, capacity and station. -/
structure VxLayout where
  ii : Nat
  graph : Bool
  d : Nat
  degree : Nat
  cap : Nat
  station : Nat
deriving DecidableEq, Repr

/-- Layout of index ii as its objects give it. -/
def State.vxLayout (s : State) (ii : Nat) : VxLayout :=
  ⟨ii, s.obj Ob.vx_kind ii == 1, s.obj Ob.vx_dims ii, s.obj Ob.vx_degree ii, s.obj Ob.vx_capacity ii, s.obj Ob.vx_station ii⟩

/-- Tiles of the layout. -/
def VxLayout.count (l : VxLayout) : Nat := vxTiles l.graph l.d l.degree l.cap

/-- Tile `k` of an index: VECTOR tiles, NEIGHBOUR tiles, map tiles. -/
def VxLayout.tile (l : VxLayout) (x : VxIndex) (k : Nat) : Tile :=
  let v := vxVecCount l.d l.cap
  let n := vxNodeCount l.graph l.degree l.cap
  if k < v then vxVectorTile x (vxOwner l.ii x.generation) l.d k
  else if k < v + n then vxNodeTile x (vxOwner l.ii x.generation) (vxRecBytes l.graph l.degree) (k - v)
  else vxMapTile x l.station (k - (v + n))

/-- Tiles that hold slot j: its vector's and its record's. -/
def VxLayout.ofSlot (l : VxLayout) (j : Nat) : List Nat :=
  let v := vxVecCount l.d l.cap
  (if l.d ≤ 1024 then [j / (1024 / max l.d 1)] else (List.range (ceilDiv l.d 1024)).map (fun p => j * ceilDiv l.d 1024 + p))
    ++ [v + j / (4096 / vxRecBytes l.graph l.degree)]

/-- Tiles that hold the entries of two maps that differ. -/
def VxLayout.ofMaps (l : VxLayout) (m n : VxMap) : List Nat :=
  let v := vxVecCount l.d l.cap + vxNodeCount l.graph l.degree l.cap
  ((m.entries.map Prod.fst ++ n.entries.map Prod.fst).filter (fun k => mget m.entries k != mget n.entries k)).map (fun k => v + k / 256)

/-- Whole stripes of a half's T2 tile pool for a list of tiles, eleven to a stripe: the addresses in order, as many as find a stripe (R102, R330). -/
def State.allocStripes (s : State) (half : Nat) (tiles : List Tile) : State × List Nat :=
  (List.range (ceilDiv tiles.length 11)).foldl (fun (a : State × List Nat) r =>
    match a.1.freeRow half with
    | none => a
    | some (row, s) =>
      let ts := (tiles.drop (11 * r)).take 11
      (ts.zipIdx.foldl (fun (s : State) p => s.writeTile (t2Addr half p.2 row) { p.1 with cowEpoch := s.allocEpoch half }) s,
       a.2 ++ (List.range ts.length).map (fun d => t2Addr half d row))) (s, [])

/-- Write tile `k` of an index where it stands: a partial update of its stripe (R105, R106, R134). -/
def State.vxWrite (s : State) (x : VxIndex) (l : VxLayout) (k : Nat) : State :=
  match x.tiles[k]? with
  | none => s
  | some a => s.writeTile a { l.tile x k with cowEpoch := (s.tileAt a).cowEpoch }

/-- Slots whose nodes differ between two tables. -/
def vxChanged (m n : SMap VxNode) : List Nat :=
  ((m.map Prod.fst ++ (n.map Prod.fst).filter (fun k => (mget m k).isNone)).filter (fun k => mget m k != mget n k))

/-- Store an index slot: the map follows the identifiers of the nodes, and every tile whose content changes is written (R330, R331). -/
def State.setVx (s : State) (ii : Nat) (x : VxIndex) : State :=
  let o := s.vxAt ii
  let id (m : SMap VxNode) (k : Nat) : Option Nat := (mget m k).map (fun n => n.id)
  let ks := vxChanged o.nodes x.nodes
  let moved := ks.filter (fun k => id o.nodes k != id x.nodes k)
  let map := (moved.filterMap (id o.nodes)).foldl VxMap.drop x.map
  let map := moved.foldl (fun (m : VxMap) k => match id x.nodes k with
    | some n => m.add n k
    | none => m) map
  let y := { x with map := map }
  let s := { s with srch := { s.srch with vx := mput s.srch.vx ii y } }
  if x.tiles.isEmpty then s
  else
    let l := s.vxLayout ii
    ((ks.flatMap l.ofSlot ++ l.ofMaps o.map map).eraseDups).foldl (fun s k => s.vxWrite y l k) s

/-- Take the tiles of a new index, with its records as they stand (R330): generation, empty map, whole stripes of its half. -/
def State.vxMake (s : State) (ii : Nat) (nodes : SMap VxNode) : State :=
  let l := s.vxLayout ii
  let h := s.obj Ob.vx_half ii
  let g := (s.vxAt ii).generation + 1
  let x : VxIndex := { vxEmpty with generation := g, map := ⟨if h == 0 then s.ses.hash0.seed else s.ses.hash1.seed, ceilDiv (2 * l.cap) 4, []⟩, nodes := nodes }
  let s := s.setVx ii x
  let y := s.vxAt ii
  let (s, a) := s.allocStripes h ((List.range l.count).map (l.tile y))
  { s with srch := { s.srch with vx := mput s.srch.vx ii { y with tiles := a } } }

/-- The tiles of an index go back to the pool, and with them what they hold (R344). -/
def State.vxFree (s : State) (ii : Nat) : State :=
  let x := s.vxAt ii
  x.tiles.foldl (fun s a => s.freeTileAt a) { s with srch := { s.srch with vx := mput s.srch.vx ii { vxEmpty with generation := x.generation } } }

/-- Everything of an index goes: tiles, map, pending inserts and the queries that wait for it (R344). -/
def State.vxClear (s : State) (ii status : Nat) : State :=
  let x := s.vxAt ii
  let s := s.vxFree ii
  let s := x.inserts.foldl (fun s i => s.finish i.st i.seq (Outcome.of status)) s
  let gone := s.srch.queries.filter (fun o => o.index == ii)
  let s := { s with srch := { s.srch with queries := s.srch.queries.filter (fun (o : VxOp) => o.index != ii) } }
  let s := gone.foldl (fun s o => s.finish o.st o.seq (Outcome.of status)) s
  ((((s.setObj Ob.vx_epoch ii 0).setObj Ob.vx_del_seq ii 0).setObj Ob.vx_live ii 0).setObj Ob.vx_entry ii 0xFFFFFFFF).setObj
    Ob.vx_sweep_pos ii 0xFFFFFFFF

/-- The tiles of an index are lost beyond parity (R344). -/
def State.vxLose (s : State) (ii : Nat) : State :=
  if s.obj Ob.vx_state ii == 2 then
    ((s.vxClear ii St.VX_CORRUPT).setObj Ob.vx_state ii 3).setObj Ob.vx_status ii St.VX_CORRUPT
  else s

/-- The index whose tile lies at an address. -/
def State.vxTileIndex (s : State) (a : Nat) : Option Nat := (s.srch.vx.find? (fun p => p.2.tiles.contains a)).map Prod.fst

end Sys2Proof.Machine
end

