-- ==== Sys2Proof/Machine/MoveOps.lean ====
section
/-! DEFINITION. Moves (R96, R105-R119, R134): what one tile of a descriptor does, posting, starting and landing. -/

namespace Sys2Proof.Machine

/-- Status codes of Table 3-10. -/
def mvOk : Nat := 0
def mvRepaired : Nat := 1
def mvOwnerDrop : Nat := 2
def mvDeadline : Nat := 3
def mvDestFull : Nat := 4
def mvT3Timeout : Nat := 5
def mvT4Timeout : Nat := 6
def mvFormat : Nat := 7
def mvLost : Nat := 8
def mvAborted : Nat := 9

/-- Sidecar bytes 0x00-0x3F of a tile (Table 3-2); `crc` is left to the reader of Table 3-2 and not stored. -/
def sidecarBytes (t : Tile) : Octets :=
  toLE 2 t.fmtMajor ++ toLE 2 t.fmtMinor ++ toLE 4 t.fmtRequired ++ toLE 4 t.fmtOptional
  ++ toLE 1 t.kind ++ toLE 1 t.elem ++ toLE 1 (t.sharedRo.toNat + 2 * t.snapPending.toNat) ++ toLE 1 0
  ++ toLE 4 t.owner ++ toLE 2 t.layer ++ toLE 1 t.group ++ toLE 1 t.kv ++ toLE 8 t.locator
  ++ toLE 2 t.valid ++ toLE 2 t.cowEpoch ++ toLE 4 t.writer ++ List.replicate 20 0

/-- The 4,096 payload octets of a tile and its 192 scale octets. -/
def payloadBytes (t : Tile) : Octets := bgets t.payload 0 4096
def scaleBytes (t : Tile) : Octets := bgets t.scales 0 192

/-- CRC-32C over payload, sidecar 0x00-0x3B and sidecar 0x40-0xFF (Table 3-2). -/
def tileCrc (t : Tile) : Nat := crc32c 0xFFFFFFFF (payloadBytes t ++ sidecarBytes t ++ scaleBytes t)

/-- Write a tile into a cluster store at a granule, payload first (R92). Zero bytes clear what stood there. -/
def storeTile (b : ByteStore) (granule : Nat) (t : Tile) : ByteStore :=
  let base := granule * 64
  let cleared := b.filter (fun p => !decide (base ≤ p.1 ∧ p.1 < base + 4352))
  let b1 := t.payload.foldl (fun m p => bput m (base + p.1) p.2) cleared
  let b2 := bputs b1 (base + 4096) (sidecarBytes t ++ toLE 4 (tileCrc t))
  t.scales.foldl (fun m p => bput m (base + 4096 + 0x40 + p.1) p.2) b2

/-- The tile that stands in a cluster store at a granule: payload, then sidecar (R92). -/
def loadTile (b : ByteStore) (granule : Nat) : Tile :=
  let base := granule * 64
  let part (lo n : Nat) : ByteStore := (b.filter (fun p => decide (lo ≤ p.1 ∧ p.1 < lo + n))).map (fun p => (p.1 - lo, p.2))
  let sc := bgets b (base + 4096) 64
  let num (off n : Nat) : Nat := ofLE (slice sc off n)
  { fmtMajor := num 0 2, fmtMinor := num 2 2, fmtRequired := num 4 4, fmtOptional := num 8 4, kind := num 0xC 1, elem := num 0xD 1, sharedRo := num 0xE 1 % 2 == 1
    snapPending := num 0xE 1 / 2 % 2 == 1, owner := num 0x10 4, layer := num 0x14 2, group := num 0x16 1, kv := num 0x17 1 % 2
    locator := num 0x18 8, valid := num 0x20 2, cowEpoch := num 0x22 2, writer := num 0x24 4
    scales := part (base + 4096 + 0x40) 192, payload := part base 4096 }

/-- The 4,352 octets of a tile in its slot: payload, then sidecar (R92, R93). -/
def tileOctets (t : Tile) : Octets := payloadBytes t ++ sidecarBytes t ++ toLE 4 (tileCrc t) ++ scaleBytes t

/-- A tile from its 4,352 octets, and whether its CRC agrees (R93, R96). -/
def parseTile (o : Octets) : Tile := loadTile (bputs [] 0 o) 0
def tileCrcOk (o : Octets) : Bool :=
  o.length == 4352 && crc32c 0xFFFFFFFF (o.take 4096 ++ slice o 4096 0x3C ++ o.drop 0x1040) == ofLE (slice o 0x103C 4)

/-- Its format is one that this device reads: any minor and any optional feature of major 1 (R25, R96). -/
def Tile.formatOk (t : Tile) : Bool := t.fmtMajor == 1 && t.fmtRequired == 0

/-! ### Parity in T2 (R101, R105, R106) -/

/-- The 4,352 octets of a slot: payload and sidecar (R92). -/
def slotBytes (t : Tile) : Octets := payloadBytes t ++ sidecarBytes t ++ toLE 4 (tileCrc t) ++ scaleBytes t

/-- Bytewise exclusive or. -/
def xorOctets (a b : Octets) : Octets := List.zipWith (fun x y => x ^^^ y) a b

/-- A data slot is padding (R104): it holds no tile, and a key/value tile stands in another slot of its stripe. -/
def State.isPadding (s : State) (half row d : Nat) : Bool :=
  (mget s.tier.tiles (t2Addr half d row)).isNone && (List.range 11).any (fun e => (s.tileAt (t2Addr half e row)).kind == 1)

/-- The 4,352 octets that a data slot of T2 holds: zeros where it is padding (R104), else its tile's. -/
def State.slotHolds (s : State) (half row d : Nat) : Octets :=
  if s.isPadding half row d then List.replicate 4352 0 else slotBytes (s.tileAt (t2Addr half d row))

/-- Exclusive or of the eleven data slots of a stripe over their full 4,352 bytes (R101). -/
def State.stripeXor (s : State) (half row : Nat) : Octets :=
  (List.range 11).foldl (fun o d => xorOctets o (s.slotHolds half row d)) (List.replicate 4352 0)

/-- What a stripe's parity slot holds: the exclusive or of its data slots (R101), but between the two writes of a partial update, which its
intent entry names (R105, R106). A write of data slots that a command completes in its own step makes and clears its entry there. -/
def State.paritySlot (s : State) (half row : Nat) : Octets := (mget (s.eng half).intents row).getD (s.stripeXor half row)

/-- A data slot as the other ten and the parity rebuild it (R107). -/
def State.rebuiltSlot (s : State) (half row d : Nat) : Octets :=
  ((List.range 11).filter (fun e => e != d)).foldl (fun o e => xorOctets o (s.slotHolds half row e)) (s.paritySlot half row)

/-- Global cluster of a T0 address. -/
def addrCluster (a : Nat) : Nat := addrHalf a * 256 + a / 2 ^ 52 % 256

/-- The tile that a source or destination address names: in a cluster store for T0, else in its slot. -/
def State.tileFrom (s : State) (a : Nat) : Tile :=
  if tierOf a == 0 then loadTile (s.clusterStore (addrCluster a)) (a / 64 % 2 ^ 15) else s.tileAt a

/-- Session that owns the key/value tile at an address, with the leaf key that names it. -/
def State.tileOwner (s : State) (a : Nat) : Option (Nat × Nat) :=
  let t := s.tileAt a
  if t.kind == 1 then
    (s.bySid t.owner).map (fun x => (x.index, ptKey (t.locator / 32) t.layer t.group t.kv))
  else none

/-- The shadow of a block goes when the block is written (R108). -/
def State.dropShadow (s : State) (i b : Nat) : State :=
  match s.sess i with
  | none => s
  | some x =>
    let g := s.eng x.half
    let s := s.setEng x.half { g with shadows := g.shadows.filter (fun p => p != (x.sid, b)) }
    let keys := (blockKeys x.pt.layers x.pt.groups b).filter (fun k =>
      (x.pt.at k).t2Copy != noTile && (x.pt.at k).t2Copy != (x.pt.at k).primary)
    keys.foldl (fun s k =>
      match s.sess i with
      | none => s
      | some x =>
        let e := x.pt.at k
        (s.freeTileAt e.t2Copy).setSess { x with pt := x.pt.put k { e with t2Copy := noTile } }) s

/-- A write to a slot drops the shadow of the key/value block that it writes to (R108). -/
def State.touchTile (s : State) (a : Nat) : State :=
  match s.tileOwner a with
  | none => s
  | some (i, k) => s.dropShadow i (ptBlock k)

/-- Half whose snapshot a tile belongs to when it stands at an address: that of the address, or of its session where the address names no half. -/
def homeHalf (a owner : Nat) : Nat := if tierOf a ≤ 2 then addrHalf a else if owner % 2 ^ 24 < Config.indicesPerHalf then 0 else 1

/-- Land a tile at an address: a cluster store for T0, else its slot through the copy-first rule, which the frame counts (R108, R134, R163). It takes
the epoch of a snapshot that runs, as a tile allocated meanwhile does (R133). A landing in a cluster store follows the cores' accesses of earlier cycles and the
reads of its own, and goes before the writes of its own (R180; log entry 193); a fenced cluster's store takes nothing (R206). -/
def State.landTile (s : State) (dst : Nat) (t : Tile) : State :=
  if tierOf dst == 0 then
    let n := addrCluster dst
    if s.clusterFenced n then s
    else
      let s := s.clusterAdvance n s.landCycle
      s.setClusterStore n (storeTile (s.clusterStore n) (dst / 64 % 2 ^ 15) t)
  else
    let s := if s.pendingSnap dst then { s with trv := { s.trv with copies := s.trv.copies + 1 } } else s
    (s.touchTile dst).writeTile dst { t with cowEpoch := s.allocEpoch (homeHalf dst t.owner) }

/-- A tile is lost beyond parity: a key/value tile's session rebuilds (R89), and a vector index becomes REFUSED (R344); any other tile's slot is freed. -/
def State.loseTile (s : State) (a cause : Nat) : State :=
  match s.tileOwner a with
  | some (i, k) => s.loseKv i k cause
  | none =>
    let s := match s.vxTileIndex a with
      | none => s
      | some ii => s.vxLose ii
    (s.freeTileAt a).bump Ob.cnt_tile_lost (addrHalf a)

/-- The model slot whose loaded weights carry an owner tag (Table 3-3): slot and load count. -/
def State.weightModel (s : State) (owner : Nat) : Option (Nat × ModelSlot) :=
  let m := owner % 16
  if s.obj Ob.mdl_state m == 2 && owner / 16 == s.obj Ob.mdl_load_count m then (mget s.tier.models m).map (fun x => (m, x)) else none

/-- Two weight tiles are copies of one: layer, matrix and number agree. -/
def Tile.sameWeight (t u : Tile) : Bool := t.layer == u.layer && t.group == u.group && t.locator == u.locator

/-- The other copy of the weight tile that a slot of a model ought to hold (R110, R243): a T2 tile of the model that has no copy left in the slot's
tier and half. -/
def State.weightCopy (s : State) (a owner : Nat) : Option Tile :=
  match s.weightModel owner with
  | none => none
  | some (_, x) =>
    let good := (x.tiles.filter (fun b => (s.tileAt b).kind == 2 && (s.tileAt b).owner == owner))
    let here := good.filter (fun b => tierOf b == tierOf a && (tierOf a == 1 || addrHalf b == addrHalf a))
    (good.find? (fun b => tierOf b == 2 && !here.any (fun c => (s.tileAt c).sameWeight (s.tileAt b)))).map s.tileAt

/-- A weight tile read from a T2 shadow counts (R110, R244). -/
def State.countShadow (s : State) (half a : Nat) (t : Tile) : State :=
  if t.kind == 2 && tierOf a == 2 && (s.weightModel t.owner).any (fun p => p.2.home == 1) then s.bump Ob.cnt_weight_shadow_reads half else s

/-- The valid T2 shadow of a T1 tile: of its leaf entry for key/value (R100, R108), of its matrix in the tile's own half for weights (R110). -/
def State.shadowOf (s : State) (a : Nat) : Option Nat :=
  let t := s.tileAt a
  if tierOf a != 1 then none
  else if t.kind == 2 then
    (s.tier.tiles.find? (fun p => tierOf p.1 == 2 && addrHalf p.1 == addrHalf a && p.2.kind == 2 && p.2.owner == t.owner && p.2.layer == t.layer
      && p.2.group == t.group && p.2.locator == t.locator)).map Prod.fst
  else match s.tileOwner a with
    | none => none
    | some (i, k) => (s.sess i).bind (fun x =>
        let e := x.pt.at k
        if e.primary == a && e.t2Copy != noTile then some e.t2Copy else none)

/-- A T2 slot lies on a channel that is FAILED, or is REBUILDING and not yet rebuilt as far as its row (R107, R423). -/
def State.channelOut (s : State) (a : Nat) : Bool :=
  let c := addrHalf a * 12 + t2Channel (addrRow a) (addrData a)
  let st := s.objAt Ob.t2_channel_state 0 c
  tierOf a == 2 && (st == 1 || (st == 2 && decide (s.obj Ob.t2_rebuild_pos 0 ≤ addrRow a)))

/-- What a read delivers (R96, R100, R107, R423): the tile and its status, or a lost tile. A slot on a failed channel is rebuilt from parity; a
T1 tile that cannot be read comes from its shadow; a stripe whose parity is not yet written cannot be rebuilt. -/
def State.readTile (s : State) (half src : Nat) (r : TileRead) (intoStore : Bool) : State × Option Tile × Nat :=
  let t := s.tileFrom src
  let lost : State × Option Tile × Nat := if tierOf src == 0 then (s, none, mvLost) else (s.loseTile src causeStateLost, none, mvLost)
  if intoStore && (t.fmtMajor != 1 || t.fmtRequired != 0) then (s.bump Ob.cnt_format_version half, none, mvFormat)
  else if tierOf src == 1 && r != .ok then
    (match s.shadowOf src with
    | some c => (s.countShadow half c (s.tileAt c), some { s.tileAt c with owner := t.owner }, mvRepaired)
    | none => lost)
  else if tierOf src == 2 && (s.channelOut src || r == .repaired) then
    (if r == .lost || (mget (s.eng (addrHalf src)).intents (addrRow src)).isSome then lost
    else (s.bump (if s.channelOut src then Ob.cnt_reads_reconstructed else Ob.cnt_parity_repair) half, some t, mvRepaired))
  else match r with
    | .ok => (if intoStore then s.countShadow half src t else s, some t, mvOk)
    | .repaired => if tierOf src == 3 then lost else (s, some t, mvRepaired)
    | .lost => lost

/-- One end of a descriptor is an address that its half's engines reach: a legal form (R97), its first and last tile in a tier, and in T0 to T2 the
half's own (R6). -/
def endOk (half a count : Nat) : Bool :=
  let ok (a : Nat) : Bool := addrLegal a && decide (tierOf a ≤ 4) && (decide (2 < tierOf a) || addrHalf a == half)
  ok a && ok (addrPlus a (count - 1))

/-- Ranges of a move descriptor (R21, R97, Table 3-8): one that fails has no effect. -/
def State.descOk (s : State) (half : Nat) (d : MoveDesc) : Bool :=
  decide (1 ≤ d.op ∧ d.op ≤ 6) && decide (d.owner < 2 ^ 32 ∧ d.newOwner < 2 ^ 32 ∧ d.firstBlock < 2 ^ 32 ∧ d.lastBlock < 2 ^ 32
    ∧ d.layerFirst < 2 ^ 16 ∧ d.layerLast < 2 ^ 16 ∧ d.deadline < 2 ^ 64 ∧ d.eventObj < 2 ^ 16 ∧ d.station < 2 ^ 16 ∧ d.tag < 2 ^ 32 ∧ d.fill < 2 ^ 32)
  && (if 5 ≤ d.op then
      d.count == 0 && d.src == 0 && d.dst % 2 ^ 61 == 0 && decide (1 ≤ tierOf d.dst ∧ tierOf d.dst ≤ 4) && d.dst < 2 ^ 64
        && ((s.bySid d.owner).all (fun x => x.half == half))
    else
      decide (1 ≤ d.count ∧ d.count ≤ 4096) && decide (d.src < 2 ^ 64 ∧ d.dst < 2 ^ 64)
        && (if d.op == 3 then d.src == 0 else endOk half d.src d.count) && (d.op == 4 || endOk half d.dst d.count))

/-- One tile of a COPY, MOVE, FILL or VERIFY (R80, R96, R116, R118): tile k of the descriptor. A cluster store has no slots and so no destination
sidecar to check. -/
def State.carryTile (s : State) (half : Nat) (d : MoveDesc) (k : Nat) (r : TileRead) : State × Nat :=
  let src := addrPlus d.src k
  let dst := addrPlus d.dst k
  let there := (s.tileAt dst).owner
  let retag (t : Tile) : Tile := if d.retag then { t with owner := d.newOwner } else t
  if d.ownerCheck && d.op == 1 && tierOf dst == 0 && (s.tileFrom src).owner != d.owner && (s.weightModel d.owner).isSome then
    -- a weight tile with the wrong owner is lost for its model, and comes back from its other copy (R243)
    let s := s.bump Ob.cnt_tile_lost half
    match s.weightCopy src d.owner with
    | none => (s, mvLost)
    | some t => ((s.writeTile src t).landTile dst (retag t), mvRepaired)
  else if d.ownerCheck && ((d.op != 3 && (s.tileFrom src).owner != d.owner)
      || (d.op != 4 && tierOf dst != 0 && there != 0xFFFFFFFF && there != d.owner)) then
    (s.bump Ob.cnt_owner_tag_drop half, mvOwnerDrop)
  else if d.op == 3 then
    (s.landTile dst (retag { s.tileFrom dst with kind := 9, payload := bputs [] 0 ((List.range 1024).flatMap (fun _ => toLE 4 d.fill)) }), mvOk)
  else
    let (s, t, st) := s.readTile half src r (d.op == 4 || tierOf dst == 0)
    match t with
    | none => (s, st)
    | some t =>
      if d.op == 4 then (s, st)
      else
        let s := s.landTile dst (retag t)
        (if d.op == 2 && tierOf src != 0 then s.freeTileAt src else s, st)

/-- Every tile of a block is full (R108). -/
def State.blockFull (s : State) (x : Session) (b : Nat) : Bool :=
  (blockKeys x.pt.layers x.pt.groups b).all (fun k => (s.tileAt (x.pt.at k).primary).valid == 32)

/-- A session whose pages a cancel or an end has freed: what a move still carries for it is dropped by owner tag (R80, R82). -/
def SState.gone : SState → Bool
  | .cancelling => true
  | .closed => true
  | .failed => true
  | .free => true
  | _ => false

/-- One tile of a block operation moves to the target tier (R108, R109, R117, R118, R218): land and check, switch the entry, free the source. A
tile that still bears the number its session had elsewhere takes the present one (R37). -/
def State.shiftKv (s : State) (i key target : Nat) (d : MoveDesc) (r : TileRead) : State × Nat :=
  match s.sess i with
  | none => (s, mvOwnerDrop)
  | some x =>
    let e := x.pt.at key
    let b := ptBlock key
    if e.primary == noTile then (if x.state.gone then (s.bump Ob.cnt_owner_tag_drop x.half, mvOwnerDrop) else (s, mvLost))
    else if tierOf e.primary == target then (s, mvOk)
    else if target == 2 && tierOf e.primary == 1 && e.t2Copy != noTile then
      -- a block with a valid shadow frees its T1 slot without a write, and its stripes are no shadow any longer (R108, R124)
      let s := s.freeTileAt e.primary
      let g := s.eng x.half
      let s := s.setEng x.half { g with shadows := g.shadows.filter (fun p => p != (x.sid, b)) }
      (s.setSess { ((x.tierCount e.primary false).tierCount e.t2Copy true) with pt := x.pt.put key ⟨e.t2Copy, e.t2Copy⟩ }, mvOk)
    else if (s.tileAt e.primary).owner != x.sid && (s.tileAt e.primary).owner != x.movedFrom then (s.bump Ob.cnt_owner_tag_drop x.half, mvOwnerDrop)
    else
      let shadow := d.keepShadow && tierOf e.primary == 2 && s.blockFull x b
      let (s, t, st) := s.readTile x.half e.primary r false
      match t with
      | none => (s, st)
      | some t =>
        match s.allocKv x target key { t with owner := if d.retag then d.newOwner else x.sid } with
        | none => (s, mvDestFull)
        | some (a, s) =>
          let copy := if target == 2 then a else if shadow then e.primary else noTile
          let s := if shadow then s else s.freeTileAt e.primary
          let y := (s.sess i).getD x
          let g := s.eng x.half
          let s := if shadow then
              s.setEng x.half { g with shadows := g.shadows.filter (fun p => p != (x.sid, b)) ++ [(x.sid, b)] }
            else s
          (s.setSess { ((y.tierCount e.primary false).tierCount a true) with
              pt := y.pt.put key ⟨a, copy⟩
              reviveTiers := if d.op == 6 then Nat.lor y.reviveTiers (2 ^ tierOf e.primary) else y.reviveTiers }, st)

/-- Evict one block (R75): every tile of it is freed and its entries hold NONE. -/
def State.evictBlock (s : State) (i b : Nat) : State :=
  match s.sess i with
  | none => s
  | some x =>
    ((blockKeys x.pt.layers x.pt.groups b).foldl (fun s k =>
      match s.sess i with
      | none => s
      | some x =>
        let e := x.pt.at k
        if e.primary == noTile then s
        else
          let s := s.freeTileAt e.primary
          let s := if e.t2Copy == e.primary then s else s.freeTileAt e.t2Copy
          s.setSess { (x.tierCount e.primary false) with pt := x.pt.put k ptNone }) s).syncPt i

/-! ### Queues -/

/-- Queue of a half, oldest descriptor first. -/
def State.queue (s : State) (half q : Nat) : List QDesc := (mget (s.eng half).queues q).getD []

/-- Store a queue. -/
def State.setQueue (s : State) (half q : Nat) (l : List QDesc) : State :=
  let e := s.eng half
  s.setEng half { e with queues := mputD [] e.queues q l }

/-- Leaf keys a block operation carries, PARK_BLOCKS from the highest block, REVIVE_BLOCKS from the lowest (R117). -/
def State.blockOpKeys (s : State) (d : MoveDesc) : List Nat :=
  match s.bySid d.owner with
  | none => []
  | some x =>
    let target := tierOf d.dst
    let inRange (p : Nat × PtEntry) : Bool :=
      decide (d.firstBlock ≤ ptBlock p.1 ∧ ptBlock p.1 ≤ d.lastBlock ∧ d.layerFirst ≤ ptLayer p.1 ∧ ptLayer p.1 ≤ d.layerLast)
      && tierOf p.2.primary != target && p.2.primary != noTile
    let ks := (x.pt.entries.filter inRange).map Prod.fst
    if d.op == 5 then
      let blocks := (List.range (d.lastBlock + 1 - d.firstBlock)).reverse.map (fun b => b + d.firstBlock)
      blocks.flatMap (fun b => ks.filter (fun k => ptBlock k == b))
    else ks

/-- Put a descriptor into its queue. -/
def State.enqueue (s : State) (half q : Nat) (d : MoveDesc) (g : Option Gathered) : State :=
  let keys := if d.op == 5 || d.op == 6 then s.blockOpKeys d else []
  let total := if d.op == 5 || d.op == 6 then keys.length else d.count
  s.setQueue half q (s.queue half q ++ [⟨d, total, keys, 0, 0, 0, mvOk, s.tick, s.tick, g⟩])

/-- Post a descriptor to its queue of 256; a full queue makes its producer wait, counted in QUEUE_FULL (R114). -/
def State.postMove (s : State) (half q : Nat) (d : MoveDesc) (j : Option Gathered) : State × Bool :=
  if 256 ≤ (s.queue half q).length then
    let g := s.eng half
    ((s.setEng half { g with waiting := g.waiting ++ [(q, d, j)] }).bump Ob.cnt_queue_full half, false)
  else (s.enqueue half q d j, true)

/-- A queue that has room again takes the descriptor whose producer has waited longest (R114). -/
def State.admitWaiting (s : State) (half q : Nat) : State :=
  let g := s.eng half
  match g.waiting.find? (fun w => w.1 == q) with
  | none => s
  | some w => if 256 ≤ (s.queue half q).length then s else (s.setEng half { g with waiting := g.waiting.erase w }).enqueue half q w.2.1 w.2.2

/-- Post a block operation that the tile itself produces; its tiles start at MOVE_ENGINE_GRANT. -/
def State.produce (s : State) (half q : Nat) (d : MoveDesc) : State := (s.postMove half q d none).1

/-- A block-operation descriptor over blocks of a session. -/
def blockDesc (op target : Nat) (x : Session) (keep : Bool) (first last : Nat) : MoveDesc :=
  ⟨op, true, false, false, false, false, keep, 0, x.sid, 0, 2 ^ 61 * target, 0, first, last, 0, 255, 0, 0xFFFF, x.station, x.sid, 0⟩

/-- Index of the descriptor of a queue whose next tile may start (R114): the first with tiles left, if no fence holds it back. -/
def startable : List QDesc → Bool → Option Nat
  | [], _ => none
  | x :: r, clear =>
    if x.started < x.total then (if x.desc.fence && !clear then none else some 0)
    else (startable r (clear && x.landed == x.total)).map (· + 1)

/-- Tenant that a descriptor debits (R380): that of the session a block operation names. -/
def State.moveTenant (s : State) (d : MoveDesc) : Option Nat :=
  if d.op == 5 || d.op == 6 then (s.bySid d.owner).map (fun x => x.tenant) else none

/-- A power lever gates a class: 3, 2 and 1 by bits 2, 3 and 4 of `pwr_levers` (R562). -/
def State.leverGated (s : State) (cls : Nat) : Bool := decide (1 ≤ cls) && s.obj Ob.pwr_levers 0 / 2 ^ (5 - cls) % 2 == 1

/-- Some class 3 queue of a half may be served: its gate is open and no power lever gates the class (R112, R391, R562). -/
def State.backgroundOpen (s : State) (half : Nat) : Bool :=
  !s.leverGated 3 && (List.range 16).any (fun k => s.gateOpen half (48 + k))

/-- Queue q may be served now (R15, R380, R391, R562): its gate is open, no power lever gates its class, its buckets hold a unit and a tile can
start. -/
def State.eligible (s : State) (half q : Nat) : Bool :=
  match startable (s.queue half q) true with
  | none => false
  | some n =>
    match (s.queue half q)[n]? with
    | none => false
    | some x =>
      let cls := q / 16
      s.gateOpen half q && !s.leverGated cls &&
        (if cls == 1 || cls == 2 then
          (x.desc.station == 0xFFFF
            || (s.conformant false x.desc.station cls 1
                && (match s.moveTenant x.desc with
                    | none => true
                    | some t => s.conformant true t cls 1)))
        else true)

/-- Queues of a class in the grant order of R12 at a tick. -/
def classOrder (cls tick : Nat) : List Nat :=
  ((List.range 64).map (fun k => (tick % 64 + k) % 64)).filter (fun q => q / 16 == cls)

/-- Highest class of a half with an eligible queue (R15). -/
def State.topClass (s : State) (half : Nat) : Option Nat :=
  (List.range 4).find? (fun c => (classOrder c s.tick).any (fun q => s.eligible half q))

/-- Debit a grant's buckets (R380). -/
def State.debitGrant (s : State) (q : Nat) (d : MoveDesc) : State :=
  let cls := q / 16
  if (cls == 1 || cls == 2) && d.station != 0xFFFF then
    let s := s.debitNow false d.station cls 1
    match s.moveTenant d with
    | none => s
    | some t => s.debitNow true t cls 1
  else s

/-- Start one tile of a queue. -/
def State.startTile (s : State) (half q : Nat) : State :=
  match startable (s.queue half q) true with
  | none => s
  | some n =>
    match (s.queue half q)[n]? with
    | none => s
    | some x =>
      (s.setQueue half q (lset (s.queue half q) n { x with started := x.started + 1, startTick := if x.started == 0 then s.tick else x.startTick })).debitGrant q x.desc

/-- Idle, waiting or parked: the states whose tiles parking moves (R124, R127). -/
def SState.idle : SState → Bool
  | .opened => true
  | .waiting => true
  | .parkedWarm => true
  | .parkedCold => true
  | .grammarDead => true
  | _ => false

/-- One tile of a block operation lands. A park tile that was in flight when its session's work came is brought back (R127), but for one that
leaves in a hand-over (R473). -/
def State.landBlock (s : State) (half : Nat) (d : MoveDesc) (key moved : Nat) (r : TileRead) : State × Nat :=
  match s.bySid d.owner with
  | none => (s.bump Ob.cnt_owner_tag_drop half, mvOwnerDrop)
  | some y =>
    let (s, st) := s.shiftKv y.index key (tierOf d.dst) d r
    let s := s.syncPt y.index
    if d.op != 5 then (s, st)
    else if s.fab.outs.any (fun o => o.sids.contains y.sid) then
      ((if y.state.idle && y.state != .grammarDead then s.residency y.index (tierOf d.dst) d.firstBlock d.lastBlock moved else s), st)
    else if !y.state.idle || !s.parkable y then
      ((if y.state.gone then s else s.produce half (16 + y.station % 16) (blockDesc 6 s.kvTier y true (ptBlock key) (ptBlock key))), st)
    else ((if y.state == .grammarDead then s else s.residency y.index (tierOf d.dst) d.firstBlock d.lastBlock moved), st)

/-- The rows of another member's session are masked here (R235). -/
def State.maskFar (s : State) (i : Nat) : State :=
  { s with trv := { s.trv with rowTab := s.trv.rowTab.map (fun r => if farIndex r.entry.home r.entry.sid == i then { r with masked := true } else r) } }

/-- A gathered tile cannot be used: the row is masked, the session rebuilds, KV_GATHER_FAULT (R235). -/
def State.gatherFault (s : State) (x : Session) (b : Nat) : State :=
  let s := s.bump Ob.cnt_kv_gather_fault x.half
  if farBase ≤ x.index then s.maskFar x.index
  else
  let s := s.maskRows x.sid
  if b < x.pt.sharedBlocks then
    match s.bySid x.pt.prefixSid with
    | none => s.lostBlocks x.index b b causeStateLost
    | some p => s.lostBlocks p.index b b causeStateLost
  else s.lostBlocks x.index b b causeStateLost

/-- A gathered key/value tile lands where its row is still live: it is checked against its owner and as a read (R235). -/
def State.landGather (s : State) (d : MoveDesc) (i key row : Nat) (r : TileRead) : State × Nat :=
  match s.sess i, s.trv.rowTab.any (fun t => t.row == row && !t.masked) with
  | some x, true =>
    if (s.tileAt d.src).owner != d.owner then (s.gatherFault x (ptBlock key), mvOwnerDrop)
    else
      let (s, t, st) := s.readTile x.half d.src r true
      match t with
      | none => (s.gatherFault ((s.sess i).getD x) (ptBlock key), st)
      | some t => ((s.landTile d.dst t).bump Ob.cnt_kv_tiles_gathered x.half, st)
  | _, _ => (s, mvOwnerDrop)

/-- Tiles of a gather that have still to land, in a queue or before it. -/
def State.gatherLeft (s : State) (q tag : Nat) : Bool :=
  [0, 1].any (fun h => (s.queue h q).any (fun d => d.gather.isSome && d.desc.tag == tag && decide (d.landed < d.total))
    || (s.eng h).waiting.any (fun w => w.1 == q && w.2.2.isSome && w.2.1.tag == tag))

/-- A gather's tag is complete just when no tile of it has still to land (R234), and no weight tile of it is missing (R243). -/
def State.gatherMet (s : State) (q tag : Nat) : State :=
  let met := s.trv.met.filter (fun p => p != (q, tag))
  { s with trv := { s.trv with met := if s.gatherLeft q tag || s.trv.spoiled.contains (q, tag) then met else met ++ [(q, tag)] } }

/-- Descriptors of gathers that stand at the head of their queue leave it once their tile has landed: a gather has no completion but that of its tag
(R234). -/
def State.retireGathers (s : State) (half q : Nat) : Nat → State
  | 0 => s
  | f + 1 =>
    match s.queue half q with
    | [] => s
    | d :: rest =>
      if d.gather.isSome && d.landed == d.total then ((s.setQueue half q rest).admitWaiting half q).retireGathers half q f else s

/-- A started tile of a descriptor lands, as its operation or its gather has it. -/
def State.landKind (s : State) (half q : Nat) (x : QDesc) (r : TileRead) : State × Nat :=
  let d := x.desc
  if d.op == 5 || d.op == 6 then
    match x.keys with
    | [] => (s, mvOk)
    | k :: _ => s.landBlock half d k (x.done + 1) r
  else match x.gather with
    | some (.kv i key row) => s.landGather d i key row r
    | some .weight =>
      let (s, st) := s.carryTile half d x.landed r
      (if st == mvLost then { s with trv := { s.trv with spoiled := s.trv.spoiled ++ [(q, d.tag)] } } else s, st)
    | none => s.carryTile half d x.landed r

/-- One started tile of descriptor n of a queue lands (R117, R118, R119). The worst of two statuses is the one of the larger code (log entry 150). -/
def State.landOne (s : State) (half q n : Nat) (r : TileRead) : State :=
  match (s.queue half q)[n]? with
  | none => s
  | some x =>
    if x.landed < x.started then
      let (s, st) := s.landKind half q x r
      let there : Bool := decide (st ≤ mvRepaired)
      let s := s.setQueue half q (lset (s.queue half q) n
        { x with keys := x.keys.tail, landed := x.landed + 1, done := x.done + there.toNat, status := max x.status st
                 lastTick := if there then s.tick else x.lastTick })
      if x.gather.isSome then (s.gatherMet q x.desc.tag).retireGathers half q 256 else s
    else s

/-- Queue q gets an engine in a cycle (R12, R15): it may be served, and no queue of a higher class may. A class has 16 queues and a half 16 engines,
so that every eligible queue of the class gets one when all are idle, and R12 gives them in its order. -/
def State.granted (s : State) (half q : Nat) : Bool := s.eligible half q && s.topClass half == some (q / 16)

/-- Carry the tiles of descriptor n of a queue, each with what the memory answers for it (an answer not given is ok), for as long as the queue is
granted an engine for the next: its class, gates and buckets are looked at again for every tile (R15). -/
def State.landAll (s : State) (half q n : Nat) : Nat → List TileRead → State
  | 0, _ => s
  | f + 1, rs =>
    if s.granted half q then ((s.startTile half q).landOne half q n (rs.headD .ok)).landAll half q n f rs.tail else s

/-- Neither end of a descriptor lies in a lease, whose tiles cross the fabric (R478). -/
def State.localEnds (s : State) (d : MoveDesc) : Bool :=
  tierOf d.dst != 4 && (if d.op == 5 || d.op == 6 then
      (s.blockOpKeys d).all (fun k => tierOf (((s.bySid d.owner).map (fun x => (x.pt.at k).primary)).getD noTile) != 4)
    else tierOf d.src != 4)

/-- Half and queue of a descriptor exist. -/
def queueOk (half queue : Nat) : Bool := decide (half < 2) && decide (queue < 64)

/-- Post a descriptor in range (R21; one out of range has no effect), of a gather or none, and where it is the one that may start next (R114), carry its
tiles for as long as its queue is served (R15); the rest starts at MOVE_ENGINE_GRANT. Its completion is MOVE_COMPLETION's. -/
def State.runJob (s : State) (half q : Nat) (d : MoveDesc) (g : Option Gathered) (reads : List TileRead) : State :=
  if queueOk half q && s.descOk half d then
    let (s, ok) := s.postMove half q d g
    let n := (s.queue half q).length - 1
    if ok && startable (s.queue half q) true == some n && s.localEnds d then s.landAll half q n (((s.queue half q)[n]?).elim 0 (fun x => x.total)) reads
    else s
  else s

/-- Post and carry a descriptor that belongs to no gather. -/
def State.runMove (s : State) (half q : Nat) (d : MoveDesc) (reads : List TileRead) : State := s.runJob half q d none reads

/-- A class 0 COPY of one tile for a gather (R233, R242), with the owner that the tile ought to carry. -/
def gatherDesc (src dst owner tag : Nat) : MoveDesc :=
  ⟨1, false, true, false, false, false, false, 1, owner, src, dst, 0, 0, 0, 0, 0, 0, 0xFFFF, 0xFFFF, tag, 0⟩

/-- The same T0 address in a half. -/
def inHalf (half a : Nat) : Nat := a - 2 ^ 60 * addrHalf a + 2 ^ 60 * half

/-- Nothing streams across a boundary (R241): the descriptors of the traverse's queues go, queue 15 of the copies apart. -/
def State.dropStreams (s : State) : State :=
  [0, 1].foldl (fun s h =>
    let g := s.eng h
    s.setEng h { g with queues := g.queues.filter (fun p => decide (15 ≤ p.1)), waiting := g.waiting.filter (fun w => decide (15 ≤ w.1)) }) s

/-- Half whose engines carry a descriptor of a traverse: that of the session of a block operation, else the one that an end of it in T0 to T2 names,
the destination's first; half 0 where neither names one (log entry 184). -/
def State.descHalf (s : State) (d : MoveDesc) : Nat :=
  if d.op == 5 || d.op == 6 then ((s.bySid d.owner).map (fun x => x.half)).getD 0
  else if d.op != 4 && tierOf d.dst ≤ 2 then addrHalf d.dst
  else if tierOf d.src ≤ 2 then addrHalf d.src else 0

/-- A completion enters the half's log of 4,096; a full log loses its oldest and reports LOG_OVERFLOW (R119, R137, R435). -/
def State.logMove (s : State) (half : Nat) (m : MoveDone) : State :=
  let e := s.eng half
  let s' := s.setEng half { e with log := keepLast 4096 (e.log ++ [m]) }
  if 4096 ≤ e.log.length then s'.report (0x280 + half) clsLogOverflow 0x381 else s'

end Sys2Proof.Machine
end

