-- ==== Sys2Proof/Machine/Binary.lean ====
section
/-! DEFINITION. Octet layouts that images carry: the traverse binary (Tables 4-1, 4-2, 3-8, 6-3, 6-4, 9-3, 10-2), the bundle (Tables 5-2, 5-3) and the
slot list (Tables 4-7, 4-8). -/

namespace Sys2Proof.Machine

/-- Field of `n` octets at an offset, little-endian (R2). -/
def octField (o : Octets) (off n : Nat) : Nat := ofLE (slice o off n)

/-- CRC-32C of octets (log entry 8). -/
def crcOf (o : Octets) : Nat := crc32c 0xFFFFFFFF o

/-- Entries of `size` octets, first to last. -/
def records (size : Nat) (o : Octets) : List Octets := (List.range (o.length / size)).map (fun k => slice o (size * k) size)

/-! ### The traverse binary -/

/-- Header of a traverse binary (Table 4-1). -/
def parseTrvHeader (o : Octets) : TrvHeader where
  magic := octField o 0x000 4
  fmtMajor := octField o 0x004 2
  fmtMinor := octField o 0x006 2
  fmtRequired := octField o 0x008 4
  fmtOptional := octField o 0x00C 4
  groupIdentity := octField o 0x010 32
  imageDigest := octField o 0x030 32
  groupSize := octField o 0x050 2
  position := octField o 0x052 2
  solo := octField o 0x054 1 % 2 == 1
  bucketed := octField o 0x054 1 / 2 % 2 == 1
  buckets := octField o 0x055 1
  modelMask := octField o 0x056 2
  frameTicks := octField o 0x058 4
  runTicks := octField o 0x05C 4
  rows := octField o 0x060 2
  maxRowNew := octField o 0x062 2
  maxRowPositions := octField o 0x064 4
  kvPageBudget := octField o 0x068 4
  kvTier := octField o 0x06C 1
  variants := octField o 0x06D 1
  holdWindow := octField o 0x06E 2
  holdLead := octField o 0x070 2
  maskBudget := octField o 0x072 2
  cowAllowance := octField o 0x074 4
  bucketMargin := octField o 0x078 4
  clusterMask := octField o 0x080 64
  sectOffset := octField o 0x0C0 8
  sectCount := octField o 0x0C8 4
  keySlot := octField o 0x0CC 4
  sigOffset := octField o 0x0D0 8
  hdrCrc := octField o 0x1FC 4

/-- Section table entry (Table 4-2). -/
def parseSect (o : Octets) : SectRec :=
  ⟨octField o 0 2, octField o 2 2, octField o 4 4, octField o 8 8, octField o 0x10 8, octField o 0x18 4⟩

/-- The section table, as far as the image holds it. -/
def parseSects (o : Octets) (h : TrvHeader) : List SectRec :=
  ((records 32 (o.drop h.sectOffset)).take h.sectCount).map parseSect

/-- Octets of a section. -/
def sectOctets (o : Octets) (x : SectRec) : Octets := slice o x.offset x.length

/-- Move descriptor (Table 3-8). One whose reserved bits are not 0 reads as operation 0, a reserved code, so that its range check fails (R21). -/
def parseMove (o : Octets) : MoveDesc :=
  let f := octField o 0 2
  { op := if f / 2 ^ 14 == 0 && octField o 0x3C 4 == 0 then f % 256 else 0, event := f / 2 ^ 8 % 2 == 1, ownerCheck := f / 2 ^ 9 % 2 == 1, fence := f / 2 ^ 10 % 2 == 1, retag := f / 2 ^ 11 % 2 == 1
    useDeadline := f / 2 ^ 12 % 2 == 1, keepShadow := f / 2 ^ 13 % 2 == 1, count := octField o 2 2, owner := octField o 4 4, src := octField o 8 8
    dst := octField o 0x10 8, newOwner := octField o 0x18 4, firstBlock := octField o 0x1C 4, lastBlock := octField o 0x20 4
    layerFirst := octField o 0x24 2, layerLast := octField o 0x26 2, deadline := octField o 0x28 8, eventObj := octField o 0x30 2
    station := octField o 0x32 2, tag := octField o 0x34 4, fill := octField o 0x38 4 }

/-- Gather record (Table 6-4). -/
def parseGather (o : Octets) : GatherRec :=
  ⟨octField o 0 4, octField o 4 2, octField o 6 2, octField o 8 2, octField o 0xA 1, octField o 0xB 1 % 2 == 1, octField o 0xB 1 / 2 % 2 == 1,
   octField o 0xC 2, octField o 0xE 1, octField o 0x10 8, octField o 0x18 4, octField o 0x1C 2⟩

/-- Append table entry (Table 6-3). -/
def parseAppend (o : Octets) : AppendRec :=
  let w := octField o 0xC 4
  ⟨octField o 0 4, octField o 4 2, octField o 6 2, octField o 8 2, octField o 0xA 1, octField o 0xB 1 % 2, octField o 0xB 1 / 2 % 2 == 1, w % 2 ^ 12,
   w / 2 ^ 12 % 2 ^ 13⟩

/-- Search table entry of a cluster (Table 9-3). -/
def parseSearchRec (n : Nat) (o : Octets) : SearchRec := ⟨n, octField o 0 4, octField o 4 4 % 2 ^ 21, octField o 8 4 % 2 ^ 21, octField o 0xC 4⟩

/-- SYNC_TABLE entry (Table 10-2). -/
def parseSync (o : Octets) : SyncInit :=
  let f := octField o 2 1
  ⟨octField o 0 2, f % 4, f / 4 % 2 == 1, f / 8 % 2 == 1, octField o 4 4, octField o 8 2, octField o 0xA 2, octField o 0xC 2⟩

/-- Sections of a type. -/
def sectsOf (l : List SectRec) (type : Nat) : List SectRec := l.filter (fun x => x.type == type)

/-- Tables that an image carries for the cluster at position `p` of a group whose first cluster is `g`. -/
def parseTables (o : Octets) (g p : Nat) : ClusterTables :=
  let t := Config.clusterSection o p
  ⟨g + p, (records 16 t.2.1).map parseAppend, (records 16 t.2.2).map (parseSearchRec (g + p))⟩

/-- A CLUSTER_IMAGE section serves the cluster that `index` names (Table 4-2). -/
def parseWhole (o : Octets) (x : SectRec) : ImageRec :=
  ⟨true, x.variant, x.index, x.offset, x.length, [parseTables (sectOctets o x) (x.index / 8 * 8) (x.index % 8)]⟩

/-- A DEGRADED_IMAGE section serves the clusters of the group that `index` names, but for the one at position `variant`. -/
def parseDegraded (o : Octets) (x : SectRec) : ImageRec :=
  ⟨false, x.variant, x.index, x.offset, x.length,
   ((List.range 8).filter (fun p => p != x.variant)).map (fun p => parseTables (sectOctets o x) (8 * x.index) p)⟩

/-- A traverse binary from its octets (R138, R139). -/
def parseTrv (o : Octets) : TrvImage :=
  let h := parseTrvHeader o
  let l := parseSects o h
  let all (type : Nat) : List Octets := (sectsOf l type).map (sectOctets o)
  let prog := (all 3).map Config.moveSection
  { hdr := h
    sects := l
    images := (sectsOf l 1).map (parseWhole o) ++ (sectsOf l 2).map (parseDegraded o)
    moves := prog.flatMap (fun p => p.1.map (fun m => (⟨m.1, m.2.1, parseMove m.2.2⟩ : ProgMove)))
    gathers := prog.flatMap (fun p => (records 32 p.2).map parseGather)
    waits := (all 4).flatMap Config.waitSection
    bucketTable := (all 5).flatMap Config.bucketSection
    frameTable := (all 6).flatMap Config.frameSection
    syncs := (all 7).flatMap (fun s => (records 16 s).map parseSync)
    binds := (all 8).flatMap Config.bindSection }

/-! ### Bundles (R181, R182) -/

/-- Slot and class of a core operation (Table 5-4), and the fields of its slot that its operands give (Table 5-3): lowest bit, width and value of each. -/
structure OpUnit where
  slot : Nat
  cls : Nat
  fields : List (Nat × Nat × Nat) := []
deriving DecidableEq, Repr

/-- The unit with an operation's operand fields. -/
def OpUnit.takes (u : OpUnit) (l : List (Nat × Nat × Nat)) : OpUnit := { u with fields := l }

/-- A bundle (Table 5-2). -/
structure Bundle where
  slots : Nat
  idle : Nat
  scalar : Nat
  vector : Nat
  matrix : Nat
  ldst : Nat
  movesync : Nat
  check : Nat
deriving DecidableEq, Repr

/-- A bundle from its 32 octets. -/
def parseBundle (o : Octets) : Bundle :=
  ⟨octField o 0 1 % 32, octField o 0 1 / 32, octField o 1 6, octField o 7 8, octField o 0xF 5, octField o 0x14 7, octField o 0x1B 4, octField o 0x1F 1⟩

/-- XOR of octets. -/
def xorAll (o : Octets) : Nat := o.foldl (fun n b => Nat.xor n b.toNat) 0

/-- The check byte of a bundle agrees with its other octets. -/
def bundleOk (o : Octets) : Bool := xorAll (o.take 31) == octField o 0x1F 1

/-- A slot is present. -/
def Bundle.has (b : Bundle) (slot : Nat) : Bool := b.slots / 2 ^ slot % 2 == 1

/-- Field of a slot (Table 5-2). -/
def Bundle.slot (b : Bundle) : Nat → Nat
  | 0 => b.scalar
  | 1 => b.vector
  | 2 => b.matrix
  | 3 => b.ldst
  | _ => b.movesync

/-- Class of a slot's operation: the top four bits of its field (Table 5-3). -/
def Bundle.cls (b : Bundle) : Nat → Nat
  | 0 => b.scalar / 2 ^ 44
  | 1 => b.vector / 2 ^ 60
  | 2 => b.matrix / 2 ^ 36
  | 3 => b.ldst / 2 ^ 52
  | _ => b.movesync / 2 ^ 28

/-- The bundle carries an operation of this slot and class with these operand fields. The numbers of the operations within a class are not given (log
entry 192). -/
def Bundle.carries (b : Bundle) (u : OpUnit) : Bool :=
  b.has u.slot && b.cls u.slot == u.cls && u.fields.all (fun f => b.slot u.slot / 2 ^ f.1 % 2 ^ f.2.1 == f.2.2)

/-- Slots of a bundle that are present and not among those given. -/
def Bundle.left (b : Bundle) (done : List Nat) : Nat := ((List.range 5).filter (fun k => b.has k && !done.contains k)).length

/-- Synchronisation object that the bundle's move/sync slot names. -/
def Bundle.syncObj (b : Bundle) : Option Nat := if b.has 4 then some (b.movesync / 2 ^ 10 % 2 ^ 14) else none

/-! ### Slot lists (R154) -/

/-- A slot list header without its CRC (Table 4-7). -/
def listHeader (l : SlotList) : Octets :=
  toLE 8 l.seq ++ toLE 8 l.takeover ++ toLE 8 l.issued ++ toLE 8 l.trvId ++ toLE 2 l.rows.length ++ toLE 2 l.master ++ toLE 4 0
    ++ List.replicate 0x14 0

/-- A row entry (Table 4-8). -/
def rowOctets (r : RowEntry) : Octets :=
  toLE 4 r.sid ++ toLE 2 r.home ++ toLE 1 r.bucket ++ toLE 1 (r.work % 4 + (if r.cont then 4 else 0)) ++ toLE 2 r.span ++ toLE 2 r.part
    ++ toLE 4 r.ctxAtTakeover

/-- CRC of a slot list: over the header's octets 0x00–0x3B and every entry. -/
def listCrc (l : SlotList) : Nat := crcOf (listHeader l ++ l.rows.flatMap rowOctets)

/-- A slot list as it travels. -/
def listOctets (l : SlotList) : Octets := listHeader l ++ toLE 4 (listCrc l) ++ l.rows.flatMap rowOctets

/-- Row entry from its 16 octets. -/
def parseRowEntry (o : Octets) : RowEntry :=
  let f := octField o 7 1
  ⟨octField o 0 4, octField o 4 2, octField o 6 1, f % 4, f / 4 % 2 == 1, octField o 8 2, octField o 0xA 2, octField o 0xC 4⟩

/-- A slot list from its octets; none where its length or its CRC is wrong. -/
def parseSlotList (o : Octets) : Option SlotList :=
  let rows := (records 16 (o.drop 64)).map parseRowEntry
  if o.length == 64 + 16 * octField o 0x20 2 && crcOf (o.take 0x3C ++ o.drop 64) == octField o 0x3C 4 then
    some ⟨octField o 0 8, octField o 8 8, octField o 0x10 8, octField o 0x18 8, octField o 0x22 2, rows⟩
  else none

end Sys2Proof.Machine
end

