-- ==== Sys2Proof/Machine/MsgOctets.lean ====
section
/-! DEFINITION. Octet layouts of the host interface (R2, R485, R493): messages (Tables 15-6 to 15-10) both ways, and what Detrum writes to a host
(Tables 8-3, 9-8, 15-1, 15-11 to 15-13). -/

namespace Sys2Proof.Machine

/-- Bit `k` of a number. -/
def bitOf (n k : Nat) : Bool := n / 2 ^ k % 2 == 1

/-- Octets filled with zeros to a multiple of 8. -/
def padTo8 (o : Octets) : Octets := fitOctets (ceilDiv o.length 8 * 8) o

/-! ### Messages -/

/-- Bodies of Tables 15-7, 15-9 and 15-10. Bytes that a message names by reference stand where inline bytes stand (R494). -/
def bodyOctets : MsgBody → Octets
  | .hello b =>
    toLE 2 b.majorLo ++ toLE 2 b.majorHi ++ toLE 2 b.minor ++ toLE 2 b.hbTicks ++ toLE 8 b.features ++ toLE 8 b.cqBase ++ toLE 8 b.eqBase
    ++ toLE 8 b.hbAddr ++ toLE 1 b.cqLog2 ++ toLE 1 b.eqLog2 ++ toLE 6 b.res42
  | .ringName b => toLE 8 b.base ++ toLE 1 b.log2 ++ toLE 3 b.res21 ++ toLE 4 b.cons
  | .objRead b => toLE 2 b.index ++ toLE 1 b.sub ++ toLE 1 b.res1B ++ toLE 4 b.len ++ toLE 8 b.addr
  | .objWrite b => toLE 2 b.index ++ toLE 1 b.sub ++ toLE 1 b.res1B ++ toLE 4 b.len ++ b.value
  | .openSession b =>
    toLE 2 b.tenant ++ toLE 1 (b.half + 4 * b.revive + 16 * b.parkClass) ++ toLE 1 (b.model + 16 * b.draftModel)
    ++ toLE 1 (b.draftOn.toNat + 2 * b.includeStop.toNat + 4 * b.res1C) ++ toLE 1 b.draftLen ++ toLE 1 b.ringLog2 ++ toLE 1 b.stopSet
    ++ toLE 4 b.maxPositions ++ toLE 4 b.maxNew ++ toLE 8 b.pfx ++ toLE 8 b.ringBase ++ toLE 8 b.genSeed ++ toLE 4 b.temperature.toNat
    ++ toLE 4 b.topK ++ toLE 4 b.topP.toNat ++ toLE 4 b.grammar ++ (List.range 4).flatMap (fun k => toLE 8 (b.bindings.getD k 0xFFFF))
  | .append b => input b
  | .resume b => input b
  | .prefixRegister b => input b
  | .checkpoint b => toLE 8 b.id ++ toLE 8 b.frame
  | .query b => search 1 b
  | .insert b => search 2 b
  | .delete b => search 3 b
  | .unlisted _ => []
  | .goodbye => []
  | .close => []
  | .cancel => []
  | .park => []
  | .revive => []
  | .prefixRelease => []
where
  /-- Input body. -/
  input (b : InputBody) : Octets :=
    toLE 1 (b.cls + 4 * b.final.toNat + 8 * b.draftReset.toNat + 16 * b.byRef.toNat + 32 * b.res18) ++ toLE 1 (b.model + 16 * b.res19)
    ++ toLE 2 b.tenant ++ toLE 4 b.waitTag ++ toLE 4 b.bytes ++ toLE 4 b.res24 ++ toLE 8 b.addr ++ b.data
  /-- SEARCH body. -/
  search (op : Nat) (b : SearchBody) : Octets :=
    toLE 1 op ++ toLE 1 b.index ++ toLE 2 b.k ++ toLE 2 b.beam ++ toLE 1 b.prefetch ++ toLE 1 b.res1F ++ toLE 4 b.visitLimit ++ toLE 4 b.res24
    ++ toLE 8 b.vecAddr ++ toLE 8 b.resultAddr ++ toLE 5 b.id ++ toLE 3 b.res3D ++ b.data

/-- A message: the header of Table 15-6 and its body. -/
def msgOctets (m : Msg) : Octets :=
  padTo8 (toLE 1 (msgType m.body) ++ toLE 1 m.hdr.res1 ++ toLE 2 m.hdr.len ++ toLE 4 m.hdr.res4 ++ toLE 8 m.hdr.seq ++ toLE 8 m.hdr.handle
    ++ bodyOctets m.body)

/-- Input body from a message's octets (Table 15-10). -/
def parseInput (o : Octets) : InputBody :=
  let f := octField o 0x18 1
  { cls := f % 4, final := bitOf f 2, draftReset := bitOf f 3, byRef := bitOf f 4, res18 := f / 32, model := octField o 0x19 1 % 16
    res19 := octField o 0x19 1 / 16, tenant := octField o 0x1A 2, waitTag := octField o 0x1C 4, bytes := octField o 0x20 4
    res24 := octField o 0x24 4, addr := octField o 0x28 8, data := slice o 0x30 (octField o 0x20 4) }

/-- SEARCH body (Table 15-7). -/
def parseSearch (o : Octets) : SearchBody :=
  { index := octField o 0x19 1, k := octField o 0x1A 2, beam := octField o 0x1C 2, prefetch := octField o 0x1E 1, res1F := octField o 0x1F 1
    visitLimit := octField o 0x20 4, res24 := octField o 0x24 4, vecAddr := octField o 0x28 8, resultAddr := octField o 0x30 8
    id := octField o 0x38 5, res3D := octField o 0x3D 3, data := o.drop 0x40 }

/-- OPEN body (Table 15-9). -/
def parseOpen (o : Octets) : OpenBody :=
  let a := octField o 0x1A 1
  let c := octField o 0x1C 1
  { tenant := octField o 0x18 2, half := a % 4, revive := a / 4 % 4, parkClass := a / 16, model := octField o 0x1B 1 % 16
    draftModel := octField o 0x1B 1 / 16, draftOn := bitOf c 0, includeStop := bitOf c 1, res1C := c / 4, draftLen := octField o 0x1D 1
    ringLog2 := octField o 0x1E 1, stopSet := octField o 0x1F 1, maxPositions := octField o 0x20 4, maxNew := octField o 0x24 4
    pfx := octField o 0x28 8, ringBase := octField o 0x30 8, genSeed := octField o 0x38 8, temperature := BitVec.ofNat 32 (octField o 0x40 4)
    topK := octField o 0x44 4, topP := BitVec.ofNat 32 (octField o 0x48 4), grammar := octField o 0x4C 4
    bindings := (List.range 4).map (fun k => octField o (0x50 + 8 * k) 8) }

/-- HELLO body (Table 15-7). -/
def parseHello (o : Octets) : HelloBody :=
  { majorLo := octField o 0x18 2, majorHi := octField o 0x1A 2, minor := octField o 0x1C 2, hbTicks := octField o 0x1E 2
    features := octField o 0x20 8, cqBase := octField o 0x28 8, eqBase := octField o 0x30 8, hbAddr := octField o 0x38 8
    cqLog2 := octField o 0x40 1, eqLog2 := octField o 0x41 1, res42 := octField o 0x42 6 }

/-- OBJ_READ or OBJ_WRITE body (Table 15-7). -/
def parseObj (o : Octets) (read : Bool) : ObjBody :=
  { index := octField o 0x18 2, sub := octField o 0x1A 1, res1B := octField o 0x1B 1, len := octField o 0x1C 4
    addr := if read then octField o 0x20 8 else 0, value := if read then [] else slice o 0x20 (octField o 0x1C 4) }

/-- The body that a type code names (Table 15-8); none for a code that no row has. -/
def parseBody (code : Nat) (o : Octets) : Option MsgBody :=
  match code with
  | 0x01 => some (.hello (parseHello o))
  | 0x02 => some .goodbye
  | 0x03 => some (.ringName ⟨octField o 0x18 8, octField o 0x20 1, octField o 0x21 3, octField o 0x24 4⟩)
  | 0x04 => some (.objRead (parseObj o true))
  | 0x05 => some (.objWrite (parseObj o false))
  | 0x10 => some (.openSession (parseOpen o))
  | 0x11 => some .close
  | 0x12 => some (.append (parseInput o))
  | 0x13 => some (.resume (parseInput o))
  | 0x14 => some .cancel
  | 0x15 => some .park
  | 0x16 => some .revive
  | 0x17 => some (.prefixRegister (parseInput o))
  | 0x18 => some .prefixRelease
  | 0x20 => some (.checkpoint ⟨octField o 0x18 8, octField o 0x20 8⟩)
  | 0x21 => match octField o 0x18 1 with
    | 1 => some (.query (parseSearch o))
    | 2 => some (.insert (parseSearch o))
    | 3 => some (.delete (parseSearch o))
    | _ => none
  | _ => none

/-- A message of a station from its octets; none where its type is no row of Table 15-8. -/
def parseMsg (station : Nat) (o : Octets) : Option Msg :=
  (parseBody (octField o 0 1) o).map (fun b => ⟨⟨station, octField o 2 2, octField o 8 8, octField o 0x10 8, octField o 1 1, octField o 4 4⟩, b⟩)

/-! ### What Detrum writes to a host -/

/-- Completion entry (Table 15-11). -/
def completionOctets (c : Completion) : Octets :=
  toLE 8 c.seq ++ toLE 2 c.status ++ toLE 1 c.msg ++ toLE 1 (c.phase + 2 * c.reviveDemoted.toNat) ++ toLE 2 c.offset ++ toLE 2 c.credits
  ++ toLE 8 c.result ++ toLE 8 c.pos

/-- Event entry (Table 15-12). -/
def eventOctets (e : EventEntry) : Octets :=
  toLE 2 e.code ++ toLE 1 (e.phase + 2 * e.lost.toNat) ++ toLE 1 0 ++ toLE 4 e.seq ++ toLE 8 e.handle ++ toLE 8 e.arg0 ++ toLE 8 e.arg1

/-- Ring entry (Table 8-3): its text inline, or the address of its text slot. -/
def ringOctets (e : RingEntry) : Octets :=
  toLE 8 e.chainage ++ toLE 4 (e.token % 2 ^ 20) ++ toLE 2 e.flags ++ toLE 1 (e.bytes.length % 128 + 128 * e.phase) ++ toLE 1 e.stopIndex
  ++ (if e.flags % 2 == 1 then toLE 8 e.textAddr ++ toLE 8 0 else fitOctets 16 e.bytes)

/-- Heartbeat block (Table 15-13). -/
def heartbeatOctets (tick time state count : Nat) : Octets :=
  toLE 8 tick ++ toLE 8 time ++ toLE 1 state ++ toLE 3 0 ++ toLE 4 count ++ toLE 40 0

/-- Query result (Table 9-8). -/
def queryOctets (epoch delSeq visits : Nat) (truncated : Bool) (hits : List QueryHit) : Octets :=
  toLE 4 epoch ++ toLE 4 delSeq ++ toLE 2 hits.length ++ toLE 2 truncated.toNat ++ toLE 4 visits ++ toLE 16 0
  ++ hits.flatMap (fun h => toLE 8 (h.id % 2 ^ 40) ++ toLE 4 h.dist.toNat ++ toLE 4 0)

/-- Header of a transfer (Table 15-1). -/
def transferHdr (kind station len tag addr : Nat) : Octets := toLE 1 kind ++ toLE 1 station ++ toLE 2 len ++ toLE 4 tag ++ toLE 8 addr

/-- WRITE transfers of octets at an address: at most 4,096 octets each, filled to a multiple of 8 (R485). -/
def writeTransfers (station addr : Nat) (o : Octets) : List Octets :=
  (List.range (ceilDiv o.length 4096)).map (fun k =>
    let p := padTo8 (slice o (4096 * k) 4096)
    transferHdr 2 station p.length 0 (addr + 4096 * k) ++ p)

end Sys2Proof.Machine
end

