-- ==== Sys2Proof/Machine/RecordOctets.lean ====
section
/-! DEFINITION. Octet layouts of the field book (R397-R400): records, their parts and JOURNAL tiles, both ways. -/

namespace Sys2Proof.Machine

/-- Type code of a record (Table 12-3). -/
def RecBody.code : RecBody → Nat
  | .accept .. => 1
  | .step .. => 2
  | .deliver .. => 3
  | .park .. => 4
  | .revive .. => 5
  | .cancel .. => 6
  | .close .. => 7
  | .config .. => 8

/-- Body of a record (Table 12-4), filled with zeros to a multiple of 8. -/
def RecBody.octets : RecBody → Octets
  | .accept seq code cls final dr held policy len th tt marker m =>
    padTo8 (toLE 8 seq ++ toLE 1 code ++ toLE 1 cls ++ toLE 1 (ofBits [final, dr, held]) ++ toLE 1 policy ++ toLE 4 len ++ toLE 4 th ++ toLE 4 tt
      ++ toLE 1 marker.length ++ toLE 7 0 ++ fitOctets len (msgOctets m) ++ marker)
  | .step frame trv count drafts accepted flags stop gr kv through toks =>
    padTo8 (toLE 8 frame ++ toLE 8 trv ++ toLE 2 count ++ toLE 1 drafts ++ toLE 1 accepted ++ toLE 2 flags ++ toLE 1 stop ++ toLE 1 0 ++ toLE 4 gr
      ++ toLE 4 kv ++ toLE 8 through ++ toks.flatMap (toLE 4))
  | .deliver cd rw rr => toLE 8 cd ++ toLE 4 rw ++ toLE 4 rr
  | .park tier tiles first last => toLE 4 tier ++ toLE 4 tiles ++ toLE 4 first ++ toLE 4 last
  | .revive method tiers tiles positions trv => toLE 1 method ++ toLE 3 tiers ++ toLE 4 tiles ++ toLE 8 positions ++ toLE 32 trv
  | .cancel policy cd => toLE 8 policy ++ toLE 8 cd
  | .close reason cause cd => toLE 1 reason ++ toLE 7 cause ++ toLE 8 cd
  | .config index sub source writer value => padTo8 (toLE 2 index ++ toLE 1 sub ++ toLE 1 source ++ toLE 2 writer ++ toLE 2 value.length ++ value)

/-- Part `k` of a record (Table 12-3): `r_crc` covers the part with its own field 0. -/
def Rec.part (r : Rec) (k : Nat) : Octets :=
  let body := r.body.octets
  let data := slice body (4016 * k) 4016
  let pre := toLE 1 r.body.code ++ toLE 1 r.copied.toNat ++ toLE 2 (48 + data.length) ++ toLE 2 k ++ toLE 2 (recParts body.length) ++ toLE 4 r.sid
    ++ toLE 2 r.station ++ toLE 2 0 ++ toLE 8 r.pos ++ toLE 8 r.tick ++ toLE 8 r.chain
  pre ++ toLE 4 (crcOf (pre ++ toLE 8 0 ++ data)) ++ toLE 4 0 ++ data

/-- Every part of a record, with its position. -/
def Rec.parts (r : Rec) : List (Nat × Octets) := (List.range (recParts r.body.octets.length)).map (fun k => (r.pos, r.part k))

/-- A JOURNAL tile's payload (Table 12-1): version 1.0, no feature bits. -/
def tileOfParts (tick : Nat) (l : List (Nat × Octets)) : Octets :=
  fitOctets 4096 (toLE 2 1 ++ toLE 2 0 ++ toLE 4 0 ++ toLE 4 0 ++ toLE 2 l.length ++ toLE 2 0 ++ toLE 8 ((l.head?.map Prod.fst).getD 0)
    ++ toLE 8 tick ++ l.flatMap Prod.snd)

/-- Parts gathered into tiles in order, none crossing a tile (R397): the tiles that are full, and the parts of the one that fills. -/
def packParts (tick : Nat) : List (Nat × Octets) → List (Nat × Octets) → List Octets
  | cur, [] => if cur.isEmpty then [] else [tileOfParts tick cur]
  | cur, p :: r =>
    if ((cur.map (fun q => q.2.length)).foldl (· + ·) 0) + p.2.length ≤ 4064 then packParts tick (cur ++ [p]) r
    else tileOfParts tick cur :: packParts tick [p] r

/-- Payloads of the JOURNAL tiles that hold records, closed at a tick. -/
def journalTiles (tick : Nat) (rs : List Rec) : List Octets := packParts tick [] (rs.flatMap Rec.parts)

/-- A JOURNAL tile of a half's book in its 4,352 octets (Table 3-3, R92). -/
def journalTile (half : Nat) (payload : Octets) : Octets := tileOctets { freeTile with kind := 6, owner := half, payload := bputs [] 0 payload }

/-! ### Reading a book -/

/-- A tile's header passes (R25, R398): major 1 and no required bit, since 1.0 defines none. -/
def journalHdrOk (o : Octets) : Bool := octField o 0 2 == 1 && octField o 4 4 == 0

/-- A part passes: its length and CRC. -/
def partOk (o : Octets) : Bool :=
  let n := octField o 2 2
  decide (48 ≤ n ∧ n ≤ 4064) && n % 8 == 0 && o.length == n && octField o 0x28 4 == crcOf (o.take 0x28 ++ toLE 8 0 ++ o.drop 0x30)

/-- The parts that begin in a tile, `n` of them; none where one fails its checks. -/
def tileParts : Nat → Octets → Option (List Octets)
  | 0, _ => some []
  | n + 1, o =>
    let p := o.take (octField o 2 2)
    if partOk p then (tileParts n (o.drop p.length)).map (fun l => p :: l) else none

/-- A record's body from its octets (Table 12-4). -/
def parseRecBody (code station : Nat) (o : Octets) : Option RecBody :=
  match code with
  | 1 =>
    let f := octField o 0xA 1
    let len := octField o 0xC 4
    (parseMsg station (slice o 0x20 len)).map (fun m => .accept (octField o 0 8) (octField o 8 1) (octField o 9 1 % 4) (bitOf f 0) (bitOf f 1)
      (bitOf f 2) (octField o 0xB 1 % 32) len (octField o 0x10 4) (octField o 0x14 4) (slice o (0x20 + len) (octField o 0x18 1)) m)
  | 2 =>
    let n := octField o 0x10 2
    some (.step (octField o 0 8) (octField o 8 8) n (octField o 0x12 1) (octField o 0x13 1) (octField o 0x14 2 % 2 ^ 11) (octField o 0x16 1)
      (octField o 0x18 4) (octField o 0x1C 4) (octField o 0x20 8) ((List.range n).map (fun i => octField o (0x28 + 4 * i) 4)))
  | 3 => some (.deliver (octField o 0 8) (octField o 8 4) (octField o 0xC 4))
  | 4 => some (.park (octField o 0 1) (octField o 4 4) (octField o 8 4) (octField o 0xC 4))
  | 5 => some (.revive (octField o 0 1) (octField o 1 1) (octField o 4 4) (octField o 8 4) (octField o 0x10 32))
  | 6 => some (.cancel (octField o 0 1) (octField o 8 8))
  | 7 => some (.close (octField o 0 1) (octField o 1 1) (octField o 8 8))
  | 8 => some (.config (octField o 0 2) (octField o 2 1) (octField o 3 1) (octField o 4 2) (slice o 8 (octField o 6 2)))
  | _ => none

/-- The record whose first part this is, its body gathered from every part of its position; none where a part is missing or its body is no row of
Table 12-4. -/
def parseRec (parts : List Octets) (p : Octets) : Option Rec :=
  let pos := octField p 0x10 8
  let n := octField p 6 2
  let at' (k : Nat) : Option Octets := parts.find? (fun q => octField q 0x10 8 == pos && octField q 4 2 == k)
  if (List.range n).all (fun k => (at' k).isSome) then
    (parseRecBody (octField p 0 1) (octField p 0xC 2) ((List.range n).flatMap (fun k => ((at' k).getD []).drop 0x30))).map (fun b =>
      ⟨pos, octField p 1 1 % 2 == 1, octField p 8 4, octField p 0xC 2, octField p 0x18 8, octField p 0x20 8, b, 1, 2⟩)
  else none

/-- Every element is there. -/
def allSome {α : Type} : List (Option α) → Option (List α)
  | [] => some []
  | x :: r => match x, allSome r with
    | some a, some l => some (a :: l)
    | _, _ => none

/-- A record in its place by position; a copy of the same position gives way to it. -/
def insertRec (r : Rec) : List Rec → List Rec
  | [] => [r]
  | q :: l => if q.pos == r.pos then r :: l else if r.pos < q.pos then r :: q :: l else q :: insertRec r l

/-- The records of a book's copy from its tiles' payloads, by position; none where a tile, a part or a record fails its checks (R398). -/
def parseBook (o : Octets) : Option (List Rec) :=
  let tiles := records 4096 o
  if o.length % 4096 != 0 || !tiles.all journalHdrOk then none
  else match allSome (tiles.map (fun t => tileParts (octField t 0xC 2) (t.drop 0x20))) with
    | none => none
    | some ps =>
      let parts := ps.flatten
      (allSome ((parts.filter (fun p => octField p 4 2 == 0)).map (parseRec parts))).map (fun rs => rs.foldl (fun l r => insertRec r l) [])

/-! ### Writes to a host -/

/-- Octets of a write (R2); a flush has no payload. -/
def WriteBody.octets : WriteBody → Octets
  | .completion c => completionOctets c
  | .event e => eventOctets e
  | .ring e => ringOctets e
  | .ringText t => t
  | .heartbeat t time state count => heartbeatOctets t time state count
  | .object v => v
  | .query e d v t hits => queryOctets e d v t hits
  | .journal o => o
  | .flush => []

end Sys2Proof.Machine
end

