-- ==== Sys2Proof/Machine/SyncOps.lean ====
section
/-! DEFINITION. Synchronisation objects: updates, closures, waits, records, station names and session bindings (R347-R371). -/

namespace Sys2Proof.Machine

/-- A FREE object (Table 10-1). -/
def freeSync : SyncObj := ⟨.free, false, false, 0xFFFF, 0, 0, 0, 0⟩

/-- An object's state. -/
def State.syncObj (s : State) (n : Nat) : SyncObj := (mget s.sync.objs n).getD freeSync

/-- Set an object's state; a station object is written through to the mirror (R370). -/
def State.setSync (s : State) (n : Nat) (o : SyncObj) : State :=
  let objs := mputD freeSync s.sync.objs n o
  let mirror := if o.owner < 0x100 || (s.syncObj n).owner < 0x100 then mputD freeSync s.sync.mirror n o else s.sync.mirror
  { s with sync := { s.sync with objs := objs, mirror := mirror } }

/-- The sync mirror records the object: a station's, or a traverse's whose state carries across frames (R369, R370). -/
def SyncObj.mirrored (o : SyncObj) : Bool := decide (o.owner < 0x100) || (o.persist && decide (0xFF00 ≤ o.owner ∧ o.owner < 0xFFFE))

/-- Half of an object: that of its cluster n ÷ 32. -/
def syncHalf (n : Nat) : Nat := n / 8192

/-- Object n lies in the traverse range (R347). -/
def State.trvRange (s : State) (n : Nat) : Bool := decide (n % 32 < s.obj Ob.sync_trv_per_cluster 0)

/-- Type of a code. -/
def syncTypeOf : Nat → SyncType
  | 1 => .counter
  | 2 => .event
  | 3 => .closure
  | _ => .free

/-- Code of a type. -/
def syncTypeCode : SyncType → Nat
  | .free => 0
  | .counter => 1
  | .event => 2
  | .closure => 3

/-- `e_cause` codes of Table 10-6. -/
def syncTimeoutCause : Nat := 1
def syncOverrunCause : Nat := 2
def syncScheduleCause : Nat := 3
def syncExcessCause : Nat := 4
def syncLostCause : Nat := 5

/-- Error-ring cause of an `e_cause` (R512): its status or event code, or 0x80 + value in this chapter. -/
def syncErrCause : Nat → Nat
  | 1 => Ev.SYNC_TIMEOUT
  | 2 => St.CLOSURE_OVERRUN
  | 3 => Cause.SCHEDULE_FAULT
  | 4 => 0x0A84
  | 5 => Ev.SYNC_LOST
  | _ => 0

/-- Synchronisation error record (Table 10-6) in the error ring, from the half of the object (R361). -/
def State.syncError (s : State) (n cause kind waiter name sid expected : Nat) : State :=
  let observed := (s.syncObj n).value
  let body := toLE 8 s.tick ++ toLE 2 n ++ toLE 1 cause ++ toLE 1 kind ++ toLE 2 waiter ++ toLE 2 name ++ toLE 4 sid
    ++ toLE 4 expected ++ toLE 4 observed ++ toLE 2 (s.obj Ob.group_position 0) ++ toLE 2 0
  s.reportBody (0x25A + syncHalf n) clsSync (syncErrCause cause) body

/-- Difference of two u32 values read as an i32 (R351). -/
def diff32 (a b : Nat) : Int := (BitVec.ofNat 32 a - BitVec.ofNat 32 b).toInt

/-- Arrivals counted of a round's parity. -/
def SyncObj.cnt (o : SyncObj) (r : Nat) : Nat := if r % 2 == 0 then o.cntEven else o.cntOdd

/-- Set the count of a round's parity, stored as u16. -/
def SyncObj.setCnt (o : SyncObj) (r v : Nat) : SyncObj :=
  if r % 2 == 0 then { o with cntEven := v % 65536 } else { o with cntOdd := v % 65536 }

/-- One cycle of a closure with these arrivals (R356): the object after, the refused rounds, whether a round was released and whether
its count was in excess. -/
def closureCycle (o : SyncObj) (arr : List Nat) : SyncObj × List Nat × Bool × Bool :=
  let n := o.value
  let accepted := arr.filter (fun r => decide ((2 ^ 32 + r - n) % 2 ^ 32 ≤ 1))
  let refused := arr.filter (fun r => !decide ((2 ^ 32 + r - n) % 2 ^ 32 ≤ 1))
  let o := accepted.foldl (fun o r => o.setCnt r (o.cnt r + 1)) o
  if o.parties ≤ o.cnt n then
    ({ (o.setCnt n 0) with value := (n + 1) % 2 ^ 32 }, refused, true, decide (o.parties < o.cnt n))
  else (o, refused, false, false)

/-- A wait's condition on an object (Table 10-3, R358): none while it is not met, 0 SATISFIED, 2 CLOSURE_OVERRUN, 3 SYNC_INVALID. -/
def waitOutcome (o : SyncObj) (cond operand : Nat) : Option Nat :=
  match cond, o.type with
  | 0, .counter => if 0 ≤ diff32 o.value operand then some 0 else none
  | 1, .event => if o.value % 2 == 1 then some 0 else none
  | 2, .closure =>
    if 0 < diff32 o.value operand then some 0
    else if 2 ≤ (2 ^ 32 + operand - o.value) % 2 ^ 32 then some 2
    else none
  | _, _ => some 3

/-- A WAIT's outcome goes into bits [63:56] of its operand register (R351). -/
def State.putOutcome (s : State) (core reg out : Nat) : State :=
  let c := s.coreAt core
  s.setCore core (c.write (.sreg reg (BitVec.ofNat 64 ((c.sreg reg).toNat % 2 ^ 56 + 2 ^ 56 * out))))

/-- Waits on an object that its new state satisfies, or that its new state refuses, complete (R358, R360). -/
def State.wakeWaits (s : State) (n : Nat) : State :=
  let done (w : SyncWait) : Bool := w.obj == n && (waitOutcome (s.syncObj n) w.cond w.operand).isSome
  let s' := (s.sync.waits.filter done).foldl (fun t w =>
    match waitOutcome (s.syncObj n) w.cond w.operand with
    | none => t
    | some k =>
      let t := if k == 2 then t.syncError n syncOverrunCause 0 w.core 0xFFFF 0xFFFFFFFF w.operand else t
      t.putOutcome w.core w.reg k) s
  { s' with sync := { s'.sync with waits := s.sync.waits.filter (fun w => !done w) } }

/-- An operation fits an object's type (R352). -/
def opFits : SyncOp → SyncType → Bool
  | .add, .counter => true
  | .set, .event => true
  | .clear, .event => true
  | .arrive, .closure => true
  | _, _ => false

/-- The state an object takes when these operations take effect on it together in one cycle (R355, R356): adds sum, SET stands over
CLEAR, arrivals count together; and whether a round was in excess. -/
def syncTogether (o : SyncObj) (ops : List (SyncOp × Nat)) : SyncObj × Bool :=
  match o.type with
  | .counter => ({ o with value := (o.value + (ops.map Prod.snd).foldl (· + ·) 0) % 2 ^ 32 }, false)
  | .event =>
    ({ o with value := if ops.any (fun p => p.1 == .set) then 1 else if ops.any (fun p => p.1 == .clear) then 0 else o.value }, false)
  | .closure =>
    let (o', _, _, exc) := closureCycle o (ops.map (fun p => p.2 % 2 ^ 32))
    (o', exc)
  | .free => (o, false)

/-- A round of a closure refuses an arrival (R356). -/
def arrivalRefused (o : SyncObj) (r : Nat) : Bool := decide (1 < (2 ^ 32 + r % 2 ^ 32 - o.value) % 2 ^ 32)

/-- Release the rounds whose counts are already complete, one a cycle (R356), and count those in excess. -/
def settleRounds : Nat → SyncObj → SyncObj × Nat
  | 0, o => (o, 0)
  | f + 1, o =>
    let (o', _, rel, exc) := closureCycle o []
    if rel && o.type == .closure then
      let (o'', n) := settleRounds f o'
      (o'', n + exc.toNat)
    else (o, 0)

/-- Operations take effect together in one cycle, with the releases of the cycles after it (R355, R356): the object after, the rounds released,
and the rounds in excess. -/
def syncTurn (o : SyncObj) (ops : List (SyncOp × Nat)) : SyncObj × Nat × Nat :=
  let (o1, exc) := syncTogether o ops
  let (o2, n) := settleRounds 2 o1
  (o2, if o.type == .closure then (2 ^ 32 + o2.value - o.value) % 2 ^ 32 else 0, exc.toNat + n)

/-- An object after the operations of several cycles, earliest first, each with the state it found (R353, R355). -/
def syncReplay (o : SyncObj) : List SyncPast → List SyncPast × SyncObj × Nat × Nat
  | [] => ([], o, 0, 0)
  | p :: r =>
    let (o1, rel, exc) := syncTurn o p.ops
    let (l, o2, rel', exc') := syncReplay o1 r
    ({ p with before := o } :: l, o2, rel + rel', exc + exc')

/-- What an operation of schedule cycle `c` joins: the state that cycle found, its operations so far, and the later cycles, earliest first. -/
def State.syncPlace (s : State) (n c : Nat) : SyncObj × List (SyncOp × Nat) × List SyncPast :=
  let hist := (mget s.sync.past n).getD []
  let late := (hist.filter (fun p => decide (c < p.cycle))).reverse
  match hist.find? (fun p => p.cycle == c), late with
  | some p, _ => (p.before, p.ops, late)
  | none, p :: _ => (p.before, [], late)
  | none, [] => (s.syncObj n, [], [])

/-- An operation takes effect on an object in schedule cycle `c`, together with the others of that cycle and before those of every later one
(R16, R353, R355, R356). `who` is what the record of an excess or a refusal names: the kind of the participant and its three numbers. -/
def State.syncCycleFor (s : State) (n c : Nat) (op : SyncOp) (operand : Nat) (who : Nat × Nat × Nat × Nat) : State :=
  let h := syncHalf n
  let (before, ops, late) := s.syncPlace n c
  let early := ((mget s.sync.past n).getD []).filter (fun p => decide (p.cycle < c))
  let (hist, o', rel, exc) := syncReplay before (⟨c, before, ops ++ [(op, operand)]⟩ :: late)
  let (_, _, rel', exc') := syncReplay before (⟨c, before, ops⟩ :: late)
  let s := (s.setSync n o').bump Ob.cnt_sync_ops h
  let s := s.addObj Ob.cnt_closure_releases h (rel - rel')
  let s := if exc' < exc then (s.syncError n syncExcessCause who.1 who.2.1 who.2.2.1 who.2.2.2 operand).bump Ob.cnt_closure_excess h else s
  let s := if op == .arrive && arrivalRefused before operand then
      (s.syncError n syncOverrunCause who.1 who.2.1 who.2.2.1 who.2.2.2 operand).bump Ob.cnt_closure_overrun h
    else s
  let s := { s with sync := { s.sync with past := mput s.sync.past n (hist.reverse ++ early) } }
  s.wakeWaits n

/-- An operation of a core or an engine, which its number alone names. -/
def State.syncCycle (s : State) (n c : Nat) (op : SyncOp) (operand who : Nat) : State := s.syncCycleFor n c op operand (0, who, 0xFFFF, 0xFFFFFFFF)

/-- An arrival of cycle `c` is refused: its round is neither the open one nor the next at the start of that cycle (R355, R356). -/
def State.syncRefuses (s : State) (n c : Nat) (op : SyncOp) (operand : Nat) : Bool := op == .arrive && arrivalRefused (s.syncPlace n c).1 operand

/-- The state in which a WAIT that issues in cycle `c` finds an object: before every operation of a later cycle (R353, R355). -/
def State.syncSeen (s : State) (n c : Nat) : SyncObj :=
  ((((mget s.sync.past n).getD []).filter (fun p => decide (c < p.cycle))).getLast?.map (fun p => p.before)).getD (s.syncObj n)

/-- Schedule cycle in which the current tick begins: its place in the frame, whatever holds have passed (R354, log entry 154). -/
def State.syncNow (s : State) : Nat := (s.tick - s.frameStart - s.trv.heldTicks) * 60

/-- Signal an object that an engine names at completion of its work (R119): ADD 1 to a counter, SET an event, arrive at the open
round of a closure (log entry 11). -/
def State.syncSignal (s : State) (n : Nat) : State :=
  if n == 0xFFFF then s
  else match (s.syncObj n).type with
    | .counter => s.syncCycle n s.syncNow .add 1 0xFFFF
    | .event => s.syncCycle n s.syncNow .set 0 0xFFFF
    | .closure => s.syncCycle n s.syncNow .arrive (s.syncObj n).value 0xFFFF
    | .free => s

/-! ### Station names (R362, R363, R368) -/

/-- Key of a station's name. -/
def nameKey (st name : Nat) : Nat := st * 1024 + name

/-- Object that a station's name maps to. -/
def State.syncName (s : State) (st name : Nat) : Option Nat := if name < 1024 then mget s.sync.names (nameKey st name) else none

/-- Free station-pool objects of a half, ascending. -/
def State.freePool (s : State) (half : Nat) : List Nat :=
  ((List.range 256).flatMap (fun c => (List.range 32).map (fun k => half * 8192 + c * 32 + k))).filter
    (fun n => !s.trvRange n && (s.syncObj n).type == .free
      && !(ofLE (s.str Ob.cluster_fence_map 0) / 2 ^ (n / 32) % 2 == 1))

/-- A live session of the station binds the name (R368). -/
def State.nameBound (s : State) (st name : Nat) : Bool :=
  s.sessions.any (fun x => x.state.live && x.station == st && x.bindings.any (fun b => b.name == name && b.flags % 4 != 0))

/-- Names a station has defined. -/
def State.namesOf (s : State) (st : Nat) : Nat := (s.sync.names.filter (fun p => p.1 / 1024 == st)).length

/-- `stn_sync_define` defines a name (R363). -/
def State.syncDefine (s : State) (st name type half operand : Nat) : State × Nat :=
  let f0 := s.freePool 0
  let f1 := s.freePool 1
  let h := if half == 2 then (if f0.length < f1.length then 1 else 0) else half
  if (s.syncName st name).isSome then (s, St.SYNC_NAME_IN_USE)
  else if s.obj Ob.stn_sync_max st ≤ s.namesOf st then (s, St.SYNC_LIMIT)
  else match (if h == 0 then f0 else f1).head? with
    | none => (s, St.SYNC_POOL_EMPTY)
    | some n =>
      let o : SyncObj := match type with
        | 1 => ⟨.counter, false, false, st, operand, 0, 0, 0⟩
        | 2 => ⟨.event, false, false, st, operand % 2, 0, 0, 0⟩
        | _ => ⟨.closure, false, false, st, 0, operand, 0, 0⟩
      let s := { s with sync := { s.sync with names := mput s.sync.names (nameKey st name) n } }
      (s.setSync n o, St.OK)

/-- `stn_sync_define` with type 0 deletes a name (R363, R368). -/
def State.syncDelete (s : State) (st name : Nat) : State × Nat :=
  match s.syncName st name with
  | none => (s, St.SYNC_NAME_UNKNOWN)
  | some n =>
    if s.nameBound st name then (s, St.SYNC_BUSY)
    else
      let s := s.setSync n freeSync
      ({ s with sync := { s.sync with names := mdel s.sync.names (nameKey st name), mirror := mdel s.sync.mirror n } }, St.OK)

/-- `stn_sync_op` applies an operation to a name (R363), together with what else its cycle brings (R16); a refused ARRIVE writes its record. -/
def State.syncStationOp (s : State) (st name : Nat) (op : SyncOp) (operand : Nat) : State × Nat :=
  match s.syncName st name with
  | none => (s, St.SYNC_NAME_UNKNOWN)
  | some n =>
    if !opFits op (s.syncObj n).type then (s, St.SYNC_INVALID)
    else
      (s.syncCycleFor n s.syncNow op operand (2, st, name, 0xFFFFFFFF),
       if s.syncRefuses n s.syncNow op operand then St.CLOSURE_OVERRUN else St.OK)

/-! ### Bindings (R364-R367) -/

/-- A binding word of an OPEN (Table 10-7). -/
def bindingOf (s : State) (st w : Nat) : Binding :=
  let kind := w / 2 ^ 16 % 4
  if kind == 0 then ⟨0xFFFF, 0, 0, 0xFFFF, none⟩
  else ⟨(s.syncName st (w % 65536)).getD 0xFFFF, w / 2 ^ 16 % 8, w / 2 ^ 32, w % 65536, none⟩

/-- A binding word is in range (R364): its unused form, or a GATE or NOTIFY on a name the station has defined. -/
def State.bindingOk (s : State) (st w : Nat) : Bool :=
  let kind := w / 2 ^ 16 % 4
  if kind == 0 then decide (w / 2 ^ 16 = 0) && (w % 65536 == 0xFFFF || w % 65536 == 0)
  else kind != 3 && w / 2 ^ 19 % 2 ^ 13 == 0 && (s.syncName st (w % 65536)).isSome

/-- Object a binding names now. -/
def State.boundObj (s : State) (x : Session) (b : Binding) : SyncObj := s.syncObj ((s.syncName x.station b.name).getD 0xFFFF)

/-- A gate's condition holds (R365). -/
def State.gateMet (s : State) (x : Session) (b : Binding) : Bool :=
  if b.flags % 4 != 1 then true
  else match (s.boundObj x b).type with
    | .counter => decide (0 ≤ diff32 (s.boundObj x b).value b.saved)
    | .event => (s.boundObj x b).value % 2 == 1
    | .closure => decide (0 < diff32 (s.boundObj x b).value b.saved)
    | .free => false

/-- Every gate of a session is met or passed. `since` holding the turn's mark `some 0` says that the gate was passed (R366). -/
def State.gatesMet (s : State) (x : Session) : Bool := x.bindings.all (fun b => b.since == some 0 || s.gateMet x b)

/-- A closure gate's target rises by one when the list that names its session is issued (R365). -/
def State.gateAdvance (s : State) (x : Session) : Session :=
  { x with bindings := x.bindings.map (fun b =>
      if b.flags % 4 == 1 && (s.boundObj x b).type == .closure then { b with saved := (b.saved + 1) % 2 ^ 32 } else b) }

/-- NOTIFY bindings act at the boundary of the token that ends a turn (R367); those of one boundary act together (R16). -/
def State.notifyAll (s : State) (i : Nat) (suppressed : Bool) : State :=
  match s.sess i with
  | none => s
  | some x =>
    x.bindings.zipIdx.foldl (fun s (b, k) =>
      if b.flags % 4 != 2 then s
      else if suppressed then s.bump Ob.cnt_notify_suppressed x.half
      else match s.syncName x.station b.name with
        | none => s
        | some n =>
          let act (op : SyncOp) (operand : Nat) : State := s.syncCycleFor n s.syncNow op operand (1, x.station, b.name, x.sid)
          match (s.syncObj n).type with
          | .counter => act .add b.saved
          | .event => act .set 0
          | .closure =>
            if s.syncRefuses n s.syncNow .arrive b.saved then (act .arrive b.saved).sevent x Ev.CLOSURE_OVERRUN b.name 0
            else (act .arrive b.saved).modSess i (fun y => { y with bindings := lset y.bindings k { b with saved := (b.saved + 1) % 2 ^ 32 } })
          | .free => s) s

end Sys2Proof.Machine
end

