-- ==== Sys2Proof/Machine/CoreOps.lean ====
section
/-! DEFINITION. The core and cluster stores (R177-R180, R184). -/

namespace Sys2Proof.Machine

/-! ### Stores -/

/-- Core-store address: base + sign-extended offset, aligned, wrapping modulo 131,072 (R177, R178). -/
def coreAddr (base : SWord) (off : BitVec 32) (align : Nat) : Nat :=
  (base + off.signExtend 64).toNat % 131072 / align * align

/-- Bytes of the core store. -/
def Core.bytes (c : Core) (a n : Nat) : Octets := (List.range n).map (fun i => bget c.store ((a + i) % 131072))

/-- Cluster-store address: 21 bits, line aligned (R178, R179). -/
def clusterAddr (base : SWord) (off : BitVec 32) : Nat := (base + off.signExtend 64).toNat % 2097152 / 128 * 128

/-- Wait of a cluster-store access (`cs_latency` of R179 less its 6 cc). -/
def csWait (k c addr : Nat) : Nat := (addr / 128 % 16 / 2 + 8 - (k + c) % 8) % 8

/-- Distance of two numbers around a ring. -/
def ringDist (n a b : Nat) : Nat := min ((a + n - b) % n) ((b + n - a) % n)

/-- Hops between two clusters of one half (R7): groups stand on a torus of 4 rows and 8 columns, row by row (log entry 15). -/
def clusterHops (m n : Nat) : Nat :=
  let g := m % 256 / 8
  let h := n % 256 / 8
  1 + ringDist 4 (g / 8) (h / 8) + ringDist 8 (g % 8) (h % 8)

/-- Network latency of Table 5-5 from a core's cluster to another. -/
def netLatency (m n : Nat) : Nat :=
  if m == n then 6 else if m / 256 == n / 256 then 18 + 4 * (clusterHops m n - 1) else 60

/-- Words of a lane list as octets, and back. -/
def lanesToBytes (l : List Lane) : Octets := l.flatMap (fun x => toLE 4 x.toNat)
def bytesToLanes (o : Octets) : List Lane := (List.range 32).map (fun i => BitVec.ofNat 32 (ofLE (slice o (4 * i) 4)))

end Sys2Proof.Machine
end

