-- ==== Sys2Proof/Machine/Security.lean ====
section
/-! DEFINITION. Capabilities, trusted keys, firmware slots, attestation and the calendar (R527-R546). -/

namespace Sys2Proof.Machine

/-- `id_fingerprint`: SHAKE256-256 of the identity public key (Table 16-3). -/
def idFingerprint : Octets := Config.shake256 Config.idPublicKey 32

/-- A trusted-key slot, empty where it was never written. -/
def State.keySlot (s : State) (k : Nat) : KeySlot := (mget s.mgmt.keys k).getD ⟨none, none, none⟩

/-- Store a trusted-key slot. -/
def State.setKeySlot (s : State) (k : Nat) (x : KeySlot) : State :=
  { s with mgmt := { s.mgmt with keys := mput s.mgmt.keys k x } }

/-- Parse a capability of 3,437 bytes (Table 16-6). -/
def parseCap (o : Octets) : Capability :=
  ⟨slice o 8 32, ofLE (slice o 0x28 1), ofLE (slice o 0x29 1), ofLE (slice o 0x2A 2), ofLE (slice o 0x30 8), slice o 0x38 16,
   ofLE (slice o 0x48 8), ofLE (slice o 0x50 8),
   (List.range 8).map (fun j => (ofLE (slice o (0x58 + 4 * j) 2), ofLE (slice o (0x5A + 4 * j) 2)))⟩

/-- The reserved fields of a capability body are 0 (R3). -/
def capReserved (o : Octets) : Bool :=
  ofLE (slice o 0x2A 2) / 16 == 0 && ofLE (slice o 0x2C 4) == 0 && ofLE (slice o 0x78 8) == 0

/-- The checks of Table 16-7, in order: OK or the status of the first that fails. -/
def State.capCheck (s : State) (o : Octets) (holderKind holder : Nat) (nonce : Octets) : Nat :=
  let c := parseCap o
  let key := s.keySlot c.keySlot
  let purpose := s.obj Ob.tk_purpose c.keySlot
  let needsOwner := c.rights / 8 % 2 == 1
    || c.ranges.any (fun r => decide (r.1 ≤ r.2 ∧ r.1 ≤ 0x710F ∧ 0x7100 ≤ r.2))
  if o.length ≠ 3437 ∨ ofLE (slice o 0 4) ≠ 0x50414343 ∨ !capReserved o then St.CAPABILITY_INVALID
  else if ofLE (slice o 4 2) ≠ 1 then St.FORMAT_VERSION
  else if c.tile ≠ idFingerprint ∨ c.holderKind ≠ holderKind ∨ c.holder ≠ holder ∨ c.nonce ≠ nonce then
    St.CAPABILITY_INVALID
  else if key.key = none ∨ 15 < c.keySlot ∨ purpose % 4 = 0 ∨ (needsOwner = true ∧ c.keySlot ≠ 0)
      ∨ !Config.mldsaVerify (key.key.getD []) "DTRM-CAP-1" (slice o 0 128) (o.drop 128) then St.CAPABILITY_INVALID
  else if s.obj Ob.cal_valid 0 = 1 ∧ (s.timeNow < c.notBefore ∨ c.notAfter < s.timeNow
      ∨ s.obj Ob.cap_max_life 0 * 1000000000 < c.notAfter - c.notBefore) then St.CAPABILITY_EXPIRED
  else St.OK

/-- Log an accepted or refused capability (R537), extending register 6 when it is accepted (R544). -/
def State.capLog (s : State) (st source arg : Nat) (o : Octets) : State :=
  if st = St.OK then s.measure st 6 source arg (Config.shake256 (slice o 0 128) 32) else s.mpLogAdd st 0xFF source arg []

/-- A privileged station stages capability bytes (R529): at 3,437 bytes they are checked, and the nonce changes (R530). -/
def State.capStage (s : State) (w : Writer) (ss : Nat) (part : Octets) : State :=
  let c := (mget s.mgmt.caps ss).getD ⟨[], none⟩
  let staged := c.staged ++ part
  let put (s : State) (x : StationCap) : State := { s with mgmt := { s.mgmt with caps := mput s.mgmt.caps ss x } }
  if staged.length < 3437 then ((put s { c with staged := staged }).setObj Ob.stn_cap_state ss 1)
  else
    let st := s.capCheck staged 2 ss (s.str Ob.stn_cap_nonce ss)
    let (nonce, s) := s.freshNonce
    let s := (s.setStr Ob.stn_cap_nonce ss nonce).capLog st (writerSource w) ss staged
    if st = St.OK then (put s ⟨[], some (parseCap staged)⟩).setObj Ob.stn_cap_state ss 2
    else (put s { c with staged := [] }).setObj Ob.stn_cap_state ss 3

/-- COMMIT of a trusted-key slot (R527, R532). -/
def State.keyCommit (s : State) (w : Writer) (k : Nat) : State × Nat :=
  let x := s.keySlot k
  let purpose := s.obj Ob.tk_purpose k
  match x.lo, x.hi with
  | some lo, some hi =>
    if purpose % 2 = 1 ∧ k ≠ 0 then (s, St.KEY_SLOT_STATE)
    else
      let key := lo ++ hi
      let fp := Config.shake256 key 32
      let s := s.setKeySlot k ⟨none, none, some key⟩
      let s := (s.setStr Ob.tk_fingerprint k fp).setObj Ob.tk_state k 2
      let s := (s.measure Ev.TRUSTED_KEY_CHANGED 3 (writerSource w) k fp).tileEvent Ev.TRUSTED_KEY_CHANGED k 0
      if k == 0 then
        let s := s.setObj Ob.sec_state 0 1
        ((s.measure Ev.OWNER_CHANGED 7 (writerSource w) k fp).tileEvent Ev.OWNER_CHANGED (ofLE (slice fp 0 8)) 0, St.OK)
      else (s, St.OK)
  | _, _ => (s, St.KEY_SLOT_STATE)

/-- CLEAR of a trusted-key slot (R532); clearing slot 0 ends ownership (R527). -/
def State.keyClear (s : State) (w : Writer) (k : Nat) : State × Nat :=
  let zero := List.replicate 32 (0 : Byte)
  let owned : Bool := k == 0 && (s.keySlot 0).key.isSome
  let s := s.setKeySlot k ⟨none, none, none⟩
  let s := (s.setStr Ob.tk_fingerprint k zero).setObj Ob.tk_state k 0
  let s := (s.measure Ev.TRUSTED_KEY_CHANGED 3 (writerSource w) k zero).tileEvent Ev.TRUSTED_KEY_CHANGED k 0
  if owned then
    let s := s.setObj Ob.sec_state 0 0
    ((s.measure Ev.OWNER_CHANGED 7 (writerSource w) k zero).tileEvent Ev.OWNER_CHANGED 0 0, St.OK)
  else (s, St.OK)

/-- A half of a public key is written; the slot is STAGED until COMMIT unless it is ACTIVE (R532). -/
def State.keyHalf (s : State) (k : Nat) (isHi : Bool) (v : Octets) : State :=
  let x := s.keySlot k
  let s := s.setKeySlot k (if isHi then { x with hi := some v } else { x with lo := some v })
  if s.obj Ob.tk_state k == 0 then s.setObj Ob.tk_state k 1 else s

/-! ### Firmware slots (R542-R546) -/

/-- The slot that is not running: 0 A, 1 B. In RECOVERY no image runs, and slot B is the one written (log entry 9). -/
def State.spareSlot (s : State) : Nat :=
  match s.mgmt.running with
  | some r => 1 - r
  | none => 1

/-- A firmware slot. -/
def State.fwSlot (s : State) (n : Nat) : FwSlot := if n == 0 then s.mgmt.slotA else s.mgmt.slotB

/-- Store a firmware slot and `fw_slot_state`. -/
def State.setFwSlot (s : State) (n : Nat) (x : FwSlot) : State :=
  let m := if n == 0 then { s.mgmt with slotA := x } else { s.mgmt with slotB := x }
  ({ s with mgmt := m }).setObj Ob.fw_slot_state 0 (m.slotA.state + 16 * m.slotB.state)

/-- The floor in force: the larger of the boot record's and the VBAT copy's (R543). -/
def State.floorNow (s : State) : Nat := max s.mgmt.bootFloor (s.mgmt.vbatFloor.getD 0)

/-- The checks of R542 over an image: OK or the status that makes its slot INVALID. -/
def State.fwCheck (s : State) (img : FwImage) : Nat :=
  if !img.headerOk || !img.digestOk then St.FW_CORRUPT
  else if !img.sigOk then St.FW_SIGNATURE
  else if img.svn < s.floorNow then St.FW_ROLLBACK
  else St.OK

/-- What the checks of R542 find in the bytes of a slot (Table 16-8). -/
def fwImageOf (b : ByteStore) : Option FwImage :=
  (Config.fwParse b).map (fun p =>
    ⟨true, Config.shake256 p.2.2.1 64 == p.2.2.2.1, Config.mldsaVerify Config.fwKey "DTRM-FW-1" p.1 p.2.1, p.2.2.2.2.1, p.2.2.2.2.2, ofLE p.2.2.2.1⟩)

/-- STAGE copies an image into the slot that is not running; a source that cannot be read leaves it empty. -/
def State.fwStage (s : State) (src : Nat) (o : Option Octets) : State × Nat :=
  (((s.setFwSlot s.spareSlot ⟨1, none, bputs [] 0 (o.getD [])⟩).setObj Ob.fw_status 0 St.OK).mpLogAdd St.OK 0xFF src s.spareSlot [], St.OK)

/-- `fw_chunk` places data at an offset of the slot that is not running, which is then STAGING. -/
def State.fwChunk (s : State) (v : Octets) : State × Nat :=
  let x := s.fwSlot s.spareSlot
  (s.setFwSlot s.spareSlot ⟨1, none, bputs (if x.state == 1 then x.bytes else []) (ofLE (slice v 0 8)) (v.drop 8)⟩, St.OK)

/-- VERIFY the staged bytes: VERIFIED, or INVALID with the check's status (R546). -/
def State.fwVerify (s : State) (src : Nat) : State × Nat :=
  let n := s.spareSlot
  let x := s.fwSlot n
  if x.state ≠ 1 then (s, St.FW_STATE)
  else
    let img := fwImageOf x.bytes
    let st := match img with
      | none => St.FW_CORRUPT
      | some i => s.fwCheck i
    let s := s.setFwSlot n { x with image := img, state := if st = St.OK then 2 else 5 }
    ((s.setObj Ob.fw_status 0 st).mpLogAdd st 0xFF src n [], St.OK)

/-- ACTIVATE makes a VERIFIED slot the boot choice with a trial count of 3 (R546). -/
def State.fwActivate (s : State) (src : Nat) : State × Nat :=
  let n := s.spareSlot
  let x := s.fwSlot n
  if x.state ≠ 2 then (s, St.FW_STATE)
  else
    let s := s.setFwSlot n { x with state := 3 }
    let s := { s with mgmt := { s.mgmt with bootSlot := n, trialCount := 3 } }
    ((s.setObj Ob.fw_status 0 St.OK).mpLogAdd St.OK 0xFF src n [], St.OK)

/-- CONFIRM the running slot and raise the floor to its `fw_svn` (R543, R546). -/
def State.fwConfirm (s : State) (src : Nat) : State × Nat :=
  match s.mgmt.running with
  | none => (s, St.FW_STATE)
  | some n =>
    let x := s.fwSlot n
    if x.state ≠ 3 then (s, St.FW_STATE)
    else
      let svn := s.obj Ob.fw_svn 0
      let fl := max s.floorNow svn
      let s := s.setFwSlot n { x with state := 4 }
      let s := { s with mgmt := { s.mgmt with bootFloor := fl, vbatFloor := some fl, trialCount := 0 } }
      (((s.setObj Ob.fw_floor 0 fl).setObj Ob.fw_status 0 St.OK).mpLogAdd St.OK 0xFF src n [], St.OK)

/-- ERASE empties the slot that is not running; a running RECOVERY has no image to keep (R546). -/
def State.fwErase (s : State) (src : Nat) : State × Nat :=
  let s := s.setFwSlot s.spareSlot ⟨0, none, []⟩
  ((s.setObj Ob.fw_status 0 St.OK).mpLogAdd St.OK 0xFF src s.spareSlot [], St.OK)

/-! ### Attestation (R545) -/

/-- The first 512 bytes of the report, Table 16-16. -/
def State.attestBody (s : State) : Octets :=
  let owner := if s.obj Ob.sec_state 0 == 0 then List.replicate 32 0 else s.str Ob.tk_fingerprint 0
  let flags := s.mgmt.running.getD 0 + (if s.mgmt.vbatFloor.isSome then 2 else 0) + 4 * s.obj Ob.cal_valid 0
  toLE 4 0x54544144 ++ toLE 2 1 ++ toLE 2 0 ++ s.mgmt.attNonce ++ idFingerprint ++ owner ++ toLE 8 s.tick ++ toLE 8 s.timeNow
    ++ toLE 4 (s.obj Ob.id_boot_count 0) ++ toLE 4 (s.obj Ob.fw_svn 0) ++ toLE 4 s.floorNow ++ toLE 1 flags
    ++ List.replicate 0x7B 0 ++ (List.range 8).flatMap (fun r => s.mgmt.pcrs.getD r (List.replicate 32 0))

/-- A nonce starts a report unless one is being signed. -/
def State.attNonce (s : State) (v : Octets) : State × Nat :=
  if s.obj Ob.att_state 0 == 1 then (s, St.ATTEST_BUSY)
  else (({ s with mgmt := { s.mgmt with attNonce := v, attStart := s.tick } }).setObj Ob.att_state 0 1, St.OK)

/-- Signing completes (within 2 ms): the report is READY. -/
def State.attReady (s : State) : State :=
  if s.obj Ob.att_state 0 == 1 then
    let body := s.attestBody
    let s := { s with mgmt := { s.mgmt with attReport := body ++ Config.mldsaSign "DTRM-ATT-1" body s.free }, free := s.free + 1 }
    s.setObj Ob.att_state 0 2
  else s

/-! ### Calendar (R538, R539) -/

/-- The calendar second edge: a value set by `cal_set` steps the mapping; otherwise `anchor` of R538 steps forward or slews. -/
def State.calendarEdge (s : State) : State :=
  let m := s.mgmt
  match m.calPending with
  | some (v, w) =>
    let old := s.timeNow
    let s := { s with mgmt := { m with calendar := v, calPending := none, calTb := s.tick, calSb := v, calEb := 0 } }
    let s := ((s.bump Ob.cnt_cal_step 0).setObj Ob.cal_valid 0 1)
    s.measure St.OK 7 (writerSource w) old (toLE 8 old ++ toLE 8 v)
  | none =>
    let cal := m.calendar + 1000000000
    let now := timeOf m s.tick
    let err : Int := (cal : Int) - now
    if 100000 < err then
      (({ s with mgmt := { m with calendar := cal, calTb := s.tick, calSb := cal, calEb := 0 } }).bump Ob.cnt_cal_step 0).mpLogAdd St.OK 0xFF 3 now []
    else
      { s with mgmt := { m with calendar := cal, calTb := s.tick, calSb := now, calEb := max (-100000) (min 100000 err) } }

/-- The calendar lost its time (R539). -/
def State.calendarLost (s : State) : State :=
  (({ s with mgmt := { s.mgmt with calendar := 0 } }).setObj Ob.cal_valid 0 0).tileEvent Ev.CALENDAR_INVALID 0 0

end Sys2Proof.Machine
end

