-- ==== Sys2Proof/Machine/TrvOps.lean ====
section
/-! DEFINITION. Operations over traverses (chapter 4) and fencing (R205-R207): slots and their load checks, schedule time, void frames,
fault notices and images, and what fencing a core or cluster does. -/

namespace Sys2Proof.Machine

/-! ### Slots, the active traverse and schedule time -/

/-- A traverse slot that holds nothing. -/
def trvEmpty : TrvSlot := ⟨none, none, false, []⟩

/-- A traverse slot. -/
def State.trvSlot (s : State) (t : Nat) : TrvSlot := (mget s.trv.slots t).getD trvEmpty

/-- Store a traverse slot. -/
def State.setTrvSlot (s : State) (t : Nat) (x : TrvSlot) : State :=
  { s with trv := { s.trv with slots := mputD trvEmpty s.trv.slots t x } }

/-- Image of the ACTIVE traverse. -/
def State.activeImage (s : State) : Option TrvImage := s.trv.active.bind (fun t => (s.trvSlot t).image)

/-- Image of a traverse whose activation is scheduled. -/
def State.comingImage (s : State) : Option TrvImage := (s.trv.slots.find? (fun p => p.2.activateAt.isSome)).bind (fun p => p.2.image)

/-- Image of the traverse by which this tile stands in a group: the ACTIVE one, else one that is to be activated (R146). -/
def State.groupImage (s : State) : Option TrvImage :=
  match s.activeImage with
  | some i => if s.trv.stopped then s.comingImage else some i
  | none => s.comingImage

/-- A traverse runs on a group of more than one device. -/
def imageGrouped (i : TrvImage) : Bool := decide (1 < i.hdr.groupSize)

/-- The tile's traverse runs on a group of more than one device. -/
def State.grouped (s : State) : Bool := s.groupImage.any imageGrouped

/-- Group position of the benchmark device of a traverse: the lowest that is not lost (R146, R149). -/
def State.masterOf (s : State) (i : TrvImage) : Nat := ((List.range i.hdr.groupSize).find? (fun p => !s.trv.lostMembers.contains p)).getD 0

/-- Group position of this tile (R146). -/
def State.groupPos (s : State) : Nat := (s.groupImage.map (fun i => i.hdr.position)).getD (s.obj Ob.group_position 0)

/-- Group position of the benchmark device. -/
def State.masterPos (s : State) : Nat := (s.groupImage.map s.masterOf).getD 0

/-- The tile decides for the group of a traverse, or the traverse runs on it alone (R146). -/
def State.masters (s : State) (i : TrvImage) : Bool := !imageGrouped i || i.hdr.position == s.masterOf i

/-- The tile decides for its group, or it runs alone (R146). -/
def State.isMaster (s : State) : Bool :=
  match s.groupImage with
  | none => true
  | some i => s.masters i

/-- The datum lets the tile run a traverse (R147, R149): any traverse of one device; of a group, only at the benchmark device and on a member that is
LOCKED, or in the HOLDOVER that changes no frame. -/
def State.datumRuns (s : State) (i : TrvImage) : Bool :=
  s.masters i || s.obj Ob.datum_state 0 == 2 || s.obj Ob.datum_state 0 == 3

/-- Header of the traverse that runs frames: none on a slice that has run none, or whose traverse stopped, or whose datum does not let it run (R145,
R149, R171). -/
def State.runningHdr (s : State) : Option TrvHeader :=
  if s.trv.stopped then none else s.activeImage.bind (fun i => if s.datumRuns i then some i.hdr else none)

/-- Header of the ACTIVE traverse, whether or not its datum lets it run: none once it has stopped (R171). -/
def State.activeRun (s : State) : Option TrvHeader := if s.trv.stopped then none else s.activeImage.map (fun i => i.hdr)

/-- The ACTIVE traverse stops (R171): its slot is LOADED again, and frames are counted without bundles. -/
def State.stopTraverse (s : State) : State :=
  let s := match s.trv.active with
    | some t => s.setObj Ob.trv_state t 2
    | none => s
  ({ s with trv := { s.trv with stopped := true } } : State).camNoTraverse

/-- Length of the current frame: the length in force, or 25,000 ticks of an idle frame (R145, R170). -/
def State.frameLen (s : State) : Nat := if s.obj Ob.frame_len_now 0 == 0 then 25000 else s.obj Ob.frame_len_now 0

/-- Tick at which the current frame ends (R166). -/
def State.frameEnd (s : State) : Nat :=
  s.frameStart + max s.frameLen (match s.runningHdr with
    | none => 0
    | some h => h.runTicks + s.trv.heldTicks)

/-- Tick at which the current frame will end, once the hold in force has run its length. -/
def State.frameEndDue (s : State) : Nat :=
  s.frameStart + max s.frameLen (match s.runningHdr with
    | none => 0
    | some h => h.runTicks + s.trv.heldTicks + (s.trv.held.map Prod.snd).getD 0)

/-- Row r of the running frame. -/
def State.rowNow (s : State) (r : Nat) : Option RowNow := s.trv.rowTab.find? (fun x => x.row == r)

/-- Cluster n is in a traverse's mask. -/
def hdrUses (h : TrvHeader) (n : Nat) : Bool := h.clusterMask / 2 ^ n % 2 == 1

/-- Cluster n runs the traverse now: it is in the mask, and the run phase has not ended (R145, R150). -/
def State.inRun (s : State) (n : Nat) : Bool :=
  match s.runningHdr with
  | none => false
  | some h => hdrUses h n && decide (s.schedTick < h.runTicks)

/-- Cluster n runs service code of text or search (R256, R334): it is one of the highest-numbered clusters of its half that are not fenced. Within a run
phase it is the traverse's (R257). Its service code is not held as bundles: its operations come as rows (log entry 164). -/
def State.serviceCluster (s : State) (n : Nat) : Bool :=
  !s.clusterFenced n
  && decide (((List.range (255 - n % 256)).filter (fun k => !s.clusterFenced (n + 1 + k))).length
      < s.obj Ob.text_clusters 0 + s.obj Ob.search_clusters 0)

/-- Images of the running traverse that cluster n takes (R169): the degraded image of its group where a cluster of it is lost, else the CLUSTER_IMAGE for
its cores. -/
def State.imageOf (s : State) (i : TrvImage) (n : Nat) : Option ImageRec :=
  match mget s.trv.degraded (n / 8) with
  | some p => i.images.find? (fun r => !r.whole && r.variant == p && r.index == n / 8)
  | none => i.images.find? (fun r => r.whole && r.variant == (mget s.trv.variants n).getD 8 && r.index == n)

/-- Append and search tables of cluster n in the image it runs. -/
def State.tablesOf (s : State) (i : TrvImage) (n : Nat) : ClusterTables :=
  ((s.imageOf i n).bind (fun r => r.tables.find? (fun t => t.cluster == n))).getD ⟨n, [], []⟩

/-- Search entries of the clusters in force, in cluster order (R323). -/
def State.searchesOf (s : State) (i : TrvImage) : List SearchRec :=
  ((List.range 512).filter (hdrUses i.hdr)).flatMap (fun n => (s.tablesOf i n).searches)

/-- Send a lock-step block to the group. -/
def State.lockSend (s : State) (m : LockMsg) : State := { s with trv := { s.trv with sent := m :: s.trv.sent } }

/-! ### Load checks (R140-R142, R236, R350, Table 4-4) -/

/-- Cluster groups that hold a cluster of the mask. -/
def hdrGroups (h : TrvHeader) : List Nat :=
  (List.range 64).filter (fun g => (List.range 8).any (fun p => hdrUses h (8 * g + p)))

/-- R140. -/
def trvComplete (i : TrvImage) : Bool :=
  (List.range 512).all (fun n => !hdrUses i.hdr n || i.images.any (fun r => r.whole && r.variant == 8 && r.index == n))
  && (hdrGroups i.hdr).all (fun g => (List.range 8).all (fun p => i.images.any (fun r => !r.whole && r.variant == p && r.index == g)))

/-- Synchronisation objects that the code of an image section names (R350): the move/sync slots of its bundles. -/
def codeObjects (o : Octets) (p : Nat) : List Nat :=
  ((Config.clusterSection o p).1.flatMap (records 32)).filterMap (fun b => (parseBundle b).syncObj)

/-- Every object that the code names is listed in SYNC_TABLE (R350). -/
def codeListed (o : Octets) (i : TrvImage) : Bool :=
  i.images.all (fun r => r.tables.all (fun t =>
    (codeObjects (slice o r.offset r.length) (t.cluster % 8)).all (fun n => i.syncs.any (fun y => y.obj == n))))

/-- Every header field in its range (Table 4-1), SOLO with one device, R236 and R350. -/
def trvFieldsOk (trvPerCluster : Nat) (i : TrvImage) : Bool :=
  let h := i.hdr
  decide (1 ≤ h.groupSize ∧ h.groupSize ≤ 512 ∧ h.position < h.groupSize)
  && (!h.solo || h.groupSize == 1)
  && decide (1 ≤ h.buckets ∧ h.buckets ≤ 16) && (h.bucketed || h.buckets == 1)
  && decide (2500 ≤ h.frameTicks ∧ h.frameTicks ≤ 1250000) && decide (h.runTicks + 2 * h.holdLead ≤ h.frameTicks)
  && decide (1 ≤ h.rows ∧ h.rows ≤ 4096) && decide (1 ≤ h.maxRowNew ∧ h.maxRowNew ≤ 4096) && h.maxRowPositions % 32 == 0
  && decide (1 ≤ h.kvTier ∧ h.kvTier ≤ 2) && decide (16 ≤ h.variants ∧ h.variants < 32)
  && decide (16 ≤ h.holdWindow ∧ h.holdWindow ≤ 1024) && decide (8 ≤ h.holdLead ∧ h.holdLead ≤ 4096)
  && i.binds.all (fun b => decide (1 ≤ b.attnChunkBlocks ∧ b.attnChunkBlocks ≤ 256)
      && h.maxRowPositions % (32 * b.attnChunkBlocks) == 0)
  && i.syncs.all (fun y => decide (y.obj < 16384) && decide (y.obj % 32 < trvPerCluster) && decide (1 ≤ y.type ∧ y.type ≤ 3)
      && (!y.group || (!h.solo && decide (1 < h.groupSize))))

/-- Device of this tile in the plat. -/
def State.device (s : State) : Nat := s.obj Ob.plat_device 0

/-- The committed plat is in effect for a slice: its takeover has come, or nothing stood before it (R471). -/
def State.platInEffect (s : State) (n : Nat) : Bool :=
  match s.fab.plat with
  | none => false
  | some p =>
    s.fab.prev.isNone || (match p.slices.find? (fun x => x.slice == n) with
      | none => true
      | some x => decide (x.takeover ≤ s.frame))

/-- Assignments in effect, of every device (R471). -/
def State.allAssigns (s : State) : List PlatAssign :=
  let now := ((s.fab.plat.map (fun p => p.assigns)).getD []).filter (fun a => s.platInEffect a.slice)
  now ++ ((s.fab.prev.map (fun p => p.assigns)).getD []).filter (fun a => !s.platInEffect a.slice)

/-- This device's assignments in effect. -/
def State.assigns (s : State) : List PlatAssign := s.allAssigns.filter (fun a => a.device == s.device)

/-- Slice entry in effect. -/
def State.sliceRow (s : State) (n : Nat) : Option PlatSlice :=
  (if s.platInEffect n then s.fab.plat else s.fab.prev).bind (fun p => p.slices.find? (fun x => x.slice == n))

/-- Benchmark device of the slice in which a multi-device traverse stands (R147): that of the plat's slice of its size and position. -/
def State.benchmarkOf (s : State) (h : TrvHeader) : Option Nat :=
  ((s.assigns.filter (fun a => a.position == h.position)).filterMap (fun a => s.sliceRow a.slice)).findSome? (fun x =>
    if x.size == h.groupSize then some x.benchmark else none)

/-- Benchmark devices of the multi-device traverses that the tile's other slots hold LOADED or ACTIVE. -/
def State.benchmarksHeld (s : State) (tt : Nat) : List Nat :=
  (s.trv.slots.filter (fun p => p.1 != tt && (s.obj Ob.trv_state p.1 == 2 || s.obj Ob.trv_state p.1 == 3))).filterMap (fun p =>
    p.2.image.bind (fun i => if imageGrouped i then s.benchmarkOf i.hdr else none))

/-- Check 7: a group of more than one device needs SLICE_MEMBER, an assignment of this position in a slice of that size, and no second benchmark device;
a group of one stands at position 0 (R30, R146, R147). -/
def State.groupFits (s : State) (tt : Nat) (h : TrvHeader) : Bool :=
  if h.groupSize == 1 then h.position == 0
  else s.sliced
    && (match s.benchmarkOf h with
      | none => false
      | some b => (s.benchmarksHeld tt).all (fun d => d == b))

/-- Clusters of the slice that would run this traverse: under STANDALONE every cluster of the tile. -/
def State.sliceClusters (s : State) (h : TrvHeader) : Nat :=
  if !s.sliced then 2 ^ 512 - 1
  else match s.assigns.find? (fun a => h.groupSize == 1 || a.position == h.position) with
    | some a => a.clusters
    | none => 2 ^ 512 - 1

/-- Fenced cores of a cluster. -/
def State.fencedCores (s : State) (n : Nat) : Nat :=
  ((List.range 8).filter (fun k => mapBit (s.str Ob.core_fence_map 0) (8 * n + k))).length

/-- A cluster of the mask is lost to its images: fenced, or with cores fenced that no variant covers (R169). -/
def State.clusterOut (s : State) (i : TrvImage) (n : Nat) : Bool :=
  s.clusterFenced n || decide (4 < s.fencedCores n)
  || (decide (0 < s.fencedCores n)
      && !i.images.any (fun r => r.whole && r.variant == 8 - s.fencedCores n && r.index == n))

/-- Check 8 (R141): the mask lies in the slice, and no cluster group has lost more than one of its clusters. -/
def State.clustersFit (s : State) (i : TrvImage) : Bool :=
  Nat.land i.hdr.clusterMask (s.sliceClusters i.hdr) == i.hdr.clusterMask
  && (hdrGroups i.hdr).all (fun g =>
      decide (((List.range 8).filter (fun p => hdrUses i.hdr (8 * g + p) && s.clusterOut i (8 * g + p))).length ≤ 1))

/-- The key slot verifies for a purpose bit (R532). -/
def State.keyServes (s : State) (k bit : Nat) : Bool :=
  decide (k ≤ 15) && s.obj Ob.tk_state k == 2 && s.obj Ob.tk_purpose k / 2 ^ bit % 2 == 1

/-- The signature over octets 0 to `sig_offset` − 1 verifies under the key that the header names, which serves TRAVERSE (Table 4-4, Table 16-8). -/
def State.trvSigned (s : State) (o : Octets) (h : TrvHeader) : Bool :=
  s.keyServes h.keySlot 2
  && Config.mldsaVerify ((s.keySlot h.keySlot).key.getD []) "DTRM-TRV-1" (o.take h.sigOffset) (slice o h.sigOffset 3309)

/-- Every section lies in the image and carries its CRC (Table 4-2). -/
def sectionsOk (o : Octets) (h : TrvHeader) (l : List SectRec) : Bool :=
  l.length == h.sectCount
  && l.all (fun x => decide (x.offset + x.length ≤ o.length) && crcOf (sectOctets o x) == x.crc)

/-- The checks of Table 4-4 in order, on the image as it lies in its RAW tiles. -/
def State.trvCheck (s : State) (tt : Nat) (o : Octets) : Nat :=
  let h := parseTrvHeader o
  let i := parseTrv o
  if h.magic ≠ 0x56544454 ∨ o.length < 512 ∨ h.hdrCrc ≠ crcOf (o.take 0x1FC) then St.TRAVERSE_CORRUPT
  else if h.fmtMajor ≠ 2 ∨ h.fmtRequired ≠ 0 then St.FORMAT_VERSION
  else if !s.trvSigned o h then St.TRAVERSE_SIGNATURE
  else if Config.shake256 (slice o 0x200 (h.sigOffset - 0x200)) 32 ≠ slice o 0x30 32 ∨ sectionsOk o h i.sects = false then St.TRAVERSE_CORRUPT
  else if !trvComplete i then St.TRAVERSE_INCOMPLETE
  else if !trvFieldsOk (s.obj Ob.sync_trv_per_cluster 0) i || !codeListed o i then St.TRAVERSE_RANGE
  else if !s.groupFits tt h then St.TRAVERSE_GROUP_MISMATCH
  else if !s.clustersFit i then St.TRAVERSE_CLUSTERS
  else St.OK

/-- Searches of an image that a window of 64 cycles from c on holds. -/
def windowSearches (c : Nat) (r : ImageRec) : Nat :=
  ((r.tables.flatMap (fun t => t.searches)).filter (fun d => decide (c ≤ d.cycle ∧ d.cycle < c + 64))).length

/-- Most searches that a cluster group puts into the window from c on, whichever of its images are in force (R169): each cluster runs the CLUSTER_IMAGE for
its cores, or all of them the DEGRADED_IMAGE for a lost position. -/
def groupSearches (i : TrvImage) (c g : Nat) : Nat :=
  let most (l : List ImageRec) : Nat := (l.map (windowSearches c)).foldl max 0
  max (((List.range 8).map (fun p => most (i.images.filter (fun r => r.whole && r.index == 8 * g + p)))).foldl (· + ·) 0)
    (most (i.images.filter (fun r => !r.whole && r.index == g)))

/-- Any 64-cycle window of a half's searches holds at most the reserved share (R326), whichever images are in force (DEDUCED, log entry 207). -/
def searchShareOk (i : TrvImage) (share : Nat) : Bool :=
  let starts := i.images.flatMap (fun r => r.tables.flatMap (fun t => t.searches.map (fun d => d.cycle)))
  let groups := (i.images.map (fun r => if r.whole then r.index / 8 else r.index)).eraseDups
  starts.all (fun c => [0, 1].all (fun h =>
    decide (((groups.filter (fun g => g / 32 == h)).map (groupSearches i c)).foldl (· + ·) 0 ≤ share)))

/-- A traverse's MODEL_BIND agrees with the LOADED slots it names (R248). -/
def State.bindsOk (s : State) (i : TrvImage) : Bool :=
  i.binds.all (fun b => s.obj Ob.mdl_state b.slot != 2
    || (s.obj Ob.mdl_layers b.slot == b.layers && s.obj Ob.mdl_kv_groups b.slot == b.kvGroups
        && ofLE (s.str Ob.mdl_digest b.slot) == b.digest))

/-! ### RAW tiles of an image -/

/-- Allocate RAW tiles in T2 under an owner, over both halves in turn: the tiles in order, as many as find a slot (R94, R141). -/
def State.allocRaw (s : State) (kind owner : Nat) : Nat → List Nat → State × List Nat
  | 0, l => (s, l)
  | n + 1, l =>
    match s.allocT2 (l.length % 2) { freeTile with kind := kind, owner := owner } with
    | none => (s, l)
    | some (a, s) => s.allocRaw kind owner n (l ++ [a])

/-- Copy an image's octets into its RAW tiles, 4,096 to a tile. -/
def State.fillRaw (s : State) : List Nat → Octets → State
  | [], _ => s
  | a :: r, o => (s.writeTile a { s.tileAt a with payload := bputs [] 0 (o.take 4096) }).fillRaw r (o.drop 4096)

/-- Octets of an image as its RAW tiles hold them. -/
def State.rawOctets (s : State) (l : List Nat) : Octets := l.flatMap (fun a => bgets (s.tileAt a).payload 0 4096)

/-- Octets of part of an image. -/
def State.rawSlice (s : State) (l : List Nat) (off n : Nat) : Octets :=
  slice (s.rawOctets ((l.drop (off / 4096)).take (ceilDiv (off % 4096 + n) 4096))) (off % 4096) n

/-- Free a list of tiles. -/
def State.freeAll (s : State) (l : List Nat) : State := l.foldl (fun s a => s.freeTileAt a) s

/-! ### Void frames (R168) -/

/-- Frame that a detection at a tick voids: the frame it lies in, or the next when it lies in the last `hold_lead` ticks. -/
def State.voidAt (s : State) (t : Nat) : Nat :=
  let lead := (s.runningHdr.map (fun h => h.holdLead)).getD 0
  if t < s.frameStart then s.frame
  else if t + lead < s.frameEnd then s.frame
  else s.frame + 1

/-- Void the frame of a detection tick. On idle frames nothing runs and nothing is voided. -/
def State.voidFrame (s : State) (t : Nat) : State :=
  let f := s.voidAt t
  if s.runningHdr.isNone || s.trv.voidFrames.contains f then s
  else { s with trv := { s.trv with voidFrames := s.trv.voidFrames ++ [f] } }

/-- Length that an image of the frame table needs, at least `frame_ticks`. -/
def tableLen (i : TrvImage) (key : Nat) : Nat :=
  max i.hdr.frameTicks (((i.frameTable.find? (fun p => p.1 == key)).map Prod.snd).getD 0)

/-- Frame length this member's images need now (R170). -/
def State.ownLen (s : State) (i : TrvImage) : Nat :=
  let v := (List.range 512).foldl (fun m n =>
    if hdrUses i.hdr n && !s.clusterOut i n then max m (tableLen i (8 - s.fencedCores n)) else m) i.hdr.frameTicks
  (hdrGroups i.hdr).foldl (fun m g => (List.range 8).foldl (fun m p =>
    if hdrUses i.hdr (8 * g + p) && s.clusterOut i (8 * g + p) then max m (tableLen i (16 + p)) else m) m) v

/-! ### Fencing (R205-R207, R370) -/

/-- Cause codes of Table 5-8. -/
def faultCause : CoreFault → Nat
  | .sramCe => Cause.SRAM_CE
  | .sramUe => Cause.SRAM_UE
  | .parity => Cause.PARITY
  | .bundleCheck => Cause.BUNDLE_CHECK
  | .residue => Cause.RESIDUE
  | .watchdog => Cause.WATCHDOG
  | .scheduleFault => Cause.SCHEDULE_FAULT
  | .bist => Cause.BIST

/-- Counter of a detection, where it has one. -/
def faultCounter : CoreFault → Option ObjSpec
  | .sramCe => some Ob.cnt_sram_ce
  | .sramUe => some Ob.cnt_sram_ue
  | .parity => some Ob.cnt_parity
  | .bundleCheck => some Ob.cnt_bundle_check
  | .residue => some Ob.cnt_residue
  | .watchdog => some Ob.cnt_watchdog
  | .scheduleFault => some Ob.cnt_schedule_fault
  | .bist => none

/-- Move one station object off a fenced cluster (R370): lowest free object of its half, else of the other, with its state from the
mirror; otherwise the name is lost, and gates on it expire. -/
def State.rehome (s : State) (n : Nat) : State :=
  match s.sync.names.find? (fun p => p.2 == n) with
  | none => s
  | some (key, _) =>
    let h := syncHalf n
    let st := key / 1024
    let o := (mget s.sync.mirror n).getD freeSync
    match (s.freePool h ++ s.freePool (1 - h)).head? with
    | some m =>
      let s := { s with sync := { s.sync with names := mput s.sync.names key m } }
      ((s.setSync n freeSync).setSync m o).bump Ob.cnt_sync_rehome h
    | none =>
      let s := s.setSync n freeSync
      let s := { s with sync := { s.sync with names := mdel s.sync.names key } }
      ((s.syncError 0xFFFF syncLostCause 2 st (key % 1024) 0xFFFFFFFF 0)).event st Ev.SYNC_LOST 0 (key % 1024) 0

/-- A core as after reset, but for the frame of its last fault (R205). -/
def State.clearCore (s : State) (k : Nat) : State := s.setCore k { coreInit with lastFault := (s.coreAt k).lastFault }

/-- A cluster starts again: its cores and its stores are as after reset, what was on its way to them is gone, and its station objects move (R206, R207,
R370). -/
def State.clusterCleared (s : State) (n : Nat) : State :=
  let s := (List.range 8).foldl (fun s k => s.clearCore (8 * n + k)) s
  let s := s.setClusterStore n []
  let s := { s with core := { s.core with clusterFlight := mdel s.core.clusterFlight n, clusterReads := mdel s.core.clusterReads n },
                    sync := { s.sync with waits := s.sync.waits.filter (fun w => w.core / 8 != n) } }
  (List.range 32).foldl (fun s k => s.rehome (32 * n + k)) s

/-- Fence a cluster (R206): its power domain goes off, its stores' contents go, its station objects move. -/
def State.fenceCluster (s : State) (n cause : Nat) : State :=
  if s.clusterFenced n then s
  else
    let s := s.setStr Ob.cluster_fence_map 0 (mapSet (s.str Ob.cluster_fence_map 0) n true)
    let s := (s.bump Ob.cnt_clusters_fenced 0).clusterCleared n
    let s := { s with text := { s.text with ready0 := if n < 256 then none else s.text.ready0, ready1 := if n < 256 then s.text.ready1 else none } }
    let s := { s with pwr := { s.pwr with asleep := mdel s.pwr.asleep n, waking := mdel s.pwr.waking n, sleeps := mdel s.pwr.sleeps n,
                                          deferred := mdel s.pwr.deferred n } }
    (s.tileEvent Ev.CLUSTER_FENCED n cause).report n clsPartFailed cause

/-- Fence a core (R206): its store's contents go; a cluster that has lost four cores is fenced whole. -/
def State.fenceCore (s : State) (k cause : Nat) : State :=
  if s.coreFenced k then s
  else if 4 ≤ s.fencedCores (k / 8) then s.fenceCluster (k / 8) cause
  else
    let s := s.setStr Ob.core_fence_map 0 (mapSet (s.str Ob.core_fence_map 0) k true)
    let s := (s.bump Ob.cnt_cores_fenced 0).clearCore k
    let s := { s with
      core := { s.core with fencedFor := mput s.core.fencedFor (k / 8) cause
                            clusterReads := mputD [] s.core.clusterReads (k / 8) ((s.reading (k / 8)).filter (fun r => r.core != k)) }
      sync := { s.sync with waits := s.sync.waits.filter (fun w => w.core != k) } }
    (s.tileEvent Ev.CORE_FENCED k cause).report (k / 8) clsPartFailed cause

/-- No image of the traverse covers the clusters that are lost: two of one group (R171). -/
def State.exhausted (s : State) (i : TrvImage) : Bool :=
  (hdrGroups i.hdr).any (fun g => decide (1 < ((List.range 8).filter (fun p => hdrUses i.hdr (8 * g + p) && s.clusterOut i (8 * g + p))).length))

/-- Length of a notice that names none: no image covers the member's loss (R171; log entry 191). -/
def noLength : Nat := 0xFFFFFFFF

/-- Tell the group of a fence (R168, R170, R171). -/
def State.noticeFault (s : State) : State :=
  if s.grouped then
    let len := (s.activeImage.map (fun i => if s.exhausted i then noLength else s.ownLen i)).getD 0
    s.lockSend (.faultNotice s.tick len)
  else s

/-- Every detection but a corrected error (R205): the frame is void on every member, CORE_FAULT counts, and the error is reported. -/
def State.detected (s : State) (n cause : Nat) : State := ((s.voidFrame s.tick).bump Ob.cnt_core_fault 0).report n clsUncorrected cause

/-- A detection of Table 5-8 in a core, or, of SRAM_UE and SCHEDULE_FAULT, charged to its cluster (R204, R205). -/
def State.detect (s : State) (k : Nat) (inCluster : Bool) (f : CoreFault) : State :=
  let s := match faultCounter f with
    | none => s
    | some o => s.bump o 0
  match f with
  | .sramCe => s
  | _ =>
    let cause := faultCause f
    let n := k / 8
    let window := s.obj Ob.fence_window 0
    let recent : Option Nat → Bool := fun p => p.any (fun g => decide (s.frame - g ≤ window))
    let s := s.detected n cause
    if inCluster && (f == .sramUe || f == .scheduleFault) then
      let again : Bool := recent (mget s.core.clusterFault n)
      let s := { s with core := { s.core with clusterFault := mput s.core.clusterFault n s.frame } }
      if again then (s.fenceCluster n cause).noticeFault else (s.tileEvent Ev.CORE_FAULT k cause).noticeFault
    else
      let c := s.coreAt k
      let again : Bool := recent c.lastFault
      let s := s.setCore k { c with lastFault := some s.frame }
      if again || f == .watchdog || f == .bist then (s.fenceCore k cause).noticeFault
      else (s.tileEvent Ev.CORE_FAULT k cause).noticeFault

end Sys2Proof.Machine
end

