-- ==== Sys2Proof/Machine/Intake.lean ====
section
/-! DEFINITION. What happens to a message in intake: range checks, sequence window, admission rules, buckets, acceptance
(R10, R21, R374-R377, R408, R489-R499) and the effects of the session messages (Tables 2-6 and 2-7). -/

namespace Sys2Proof.Machine

/-! ### Range checks (R3, R21, R29, R31, R287, R364, R382, R493) -/

/-- First test of a list that fails: its offset. -/
def firstBad : List (Nat × Bool) → Option Nat
  | [] => none
  | (off, ok) :: r => if ok then firstBad r else some off

/-- A handle that OPEN may carry (R31). -/
def handleOk (h : Nat) : Bool := h != 0 && h != 0xFFFFFFFFFFFFFFFF

/-- Tenant a station may name (R382). -/
def State.tenantOk (s : State) (st t : Nat) : Bool :=
  decide (s.obj Ob.stn_tenant_first st ≤ t ∧ t < s.obj Ob.stn_tenant_first st + s.obj Ob.stn_tenant_count st)

/-- `temperature` of Table 8-1: ±0, or 0.015625 to 64.0, as an F32 encoding. -/
def temperatureOk (t : Lane) : Bool :=
  let n := t.toNat
  n == 0 || n == 0x80000000 || decide (0x3C800000 ≤ n ∧ n ≤ 0x42800000)

/-- `top_p` of Table 8-1: 2^−24 to 1.0. -/
def topPOk (t : Lane) : Bool := decide (0x33800000 ≤ t.toNat ∧ t.toNat ≤ 0x3F800000)

/-- OPEN body (Table 15-9). -/
def State.openRange (s : State) (st : Nat) (b : OpenBody) : List (Nat × Bool) :=
  [(0x18, s.tenantOk st b.tenant), (0x1A, decide (b.half ≤ 2 ∧ b.revive ≤ 2 ∧ b.parkClass ≤ 15)),
   (0x1B, decide (b.model ≤ 15 ∧ b.draftModel ≤ 15)), (0x1C, b.res1C == 0),
   (0x1D, !b.draftOn || decide (1 ≤ b.draftLen ∧ b.draftLen ≤ 8)),
   (0x1E, decide (6 ≤ b.ringLog2 ∧ b.ringLog2 ≤ 20)), (0x1F, decide (b.stopSet ≤ 15) || b.stopSet == 0xFF),
   (0x20, decide (1 ≤ b.maxPositions ∧ b.maxPositions ≤ min 131072 (s.obj Ob.mdl_max_positions b.model))),
   (0x24, decide (b.maxNew ≤ b.maxPositions)), (0x30, b.ringBase % 64 == 0 && b.ringBase != 0),
   (0x40, temperatureOk b.temperature), (0x44, decide (b.topK ≤ 4096)), (0x48, topPOk b.topP),
   (0x4C, decide (b.grammar ≤ 256))]
  ++ b.bindings.zipIdx.map (fun (w, k) => (0x50 + 8 * k, s.bindingOk st w))

/-- Input body (Table 15-10). `kind` 0 APPEND, 1 RESUME, 2 PREFIX_REGISTER. SYSTEM needs privilege (R29). -/
def State.inputRange (s : State) (st : Nat) (priv : Bool) (h : MsgHdr) (b : InputBody) (kind : Nat) : List (Nat × Bool) :=
  [(0x18, decide (b.cls ≤ 2) && (b.cls != 2 || priv) && b.res18 == 0),
   (0x19, (if kind == 2 then decide (b.model ≤ 15) else b.model == 0) && b.res19 == 0),
   (0x1A, if kind == 2 then s.tenantOk st b.tenant else b.tenant == 0),
   (0x1C, kind == 1 || b.waitTag == 0),
   (0x20, if b.byRef then decide (1 ≤ b.bytes ∧ b.bytes ≤ 16777216) else decide (b.bytes ≤ h.len - 0x30)),
   (0x24, b.res24 == 0), (0x28, if b.byRef then b.addr % 64 == 0 else b.addr == 0)]

/-- SEARCH body (Table 15-7): operation 1 QUERY with the ranges of Table 9-7, which a FLAT index checks only for k and the addresses (R333),
2 INSERT, 3 DELETE. -/
def State.searchRange (s : State) (b : SearchBody) (op : Nat) : List (Nat × Bool) :=
  let graph := s.obj Ob.vx_kind b.index == 1
  [(0x1A, if op == 1 then decide (1 ≤ b.k ∧ b.k ≤ 1024) else b.k == 0),
   (0x1C, if op == 1 then !graph || decide (b.k ≤ b.beam ∧ b.beam ≤ 4096) else b.beam == 0),
   (0x1E, if op == 1 then !graph || decide (b.prefetch ≤ min b.beam 64) else b.prefetch == 0), (0x1F, b.res1F == 0),
   (0x20, if op == 1 then !graph || decide (1 ≤ b.visitLimit ∧ b.visitLimit ≤ 1048576) else b.visitLimit == 0), (0x24, b.res24 == 0),
   (0x28, if op == 1 then b.vecAddr % 64 == 0 else op == 2 || b.vecAddr == 0),
   (0x30, if op == 1 then b.resultAddr % 64 == 0 else b.resultAddr == 0),
   (0x38, (op != 1 || b.id == 0) && decide (b.id < 2 ^ 40) && b.res3D == 0)]

/-- Every range check of a message: the offset of the first violating field (R21). A type that Table 15-8 does not list is a violation at offset 0,
an operation of SEARCH that Table 15-7 does not list one at 0x18. A message that needs a feature outside the agreed
word is a violation at offset 0 (R492). -/
def State.msgRange (s : State) (st : Nat) (priv : Bool) (m : Msg) : Option Nat :=
  let x := s.station st
  let feat (n : Nat) : Bool := x.features / 2 ^ n % 2 == 1
  let need : Bool := match m.body with
    | .objRead _ => feat 2
    | .objWrite _ => feat 2
    | .ringName _ => feat 3
    | .query _ => feat 1
    | .insert _ => feat 1
    | .delete _ => feat 1
    | .append b => !b.byRef || feat 0
    | .resume b => !b.byRef || feat 0
    | .prefixRegister b => !b.byRef || feat 0
    | .unlisted t => t % 256 == 0x21
    | _ => true
  let named : Bool := match m.body with
    | .openSession _ => handleOk m.hdr.handle
    | .hello _ => m.hdr.handle == 0
    | .goodbye => m.hdr.handle == 0
    | .objRead _ => m.hdr.handle == 0
    | .objWrite _ => m.hdr.handle == 0
    | .prefixRegister _ => m.hdr.handle == 0
    | .checkpoint _ => m.hdr.handle == 0
    | .query _ => m.hdr.handle == 0
    | .insert _ => m.hdr.handle == 0
    | .delete _ => m.hdr.handle == 0
    | _ => true
  let body : List (Nat × Bool) := match m.body with
    | .openSession b => s.openRange st b
    | .append b => s.inputRange st priv m.hdr b 0
    | .resume b => s.inputRange st priv m.hdr b 1
    | .prefixRegister b => s.inputRange st priv m.hdr b 2
    | .hello b =>
      [(0x1E, decide (250 ≤ b.hbTicks ∧ b.hbTicks ≤ 25000)), (0x28, b.cqBase % 64 == 0), (0x30, b.eqBase % 64 == 0),
       (0x38, b.hbAddr % 64 == 0),
       (0x40, decide (8 ≤ b.cqLog2 ∧ b.cqLog2 ≤ 16) && decide (s.obj Ob.stn_intake_kib st * 16 ≤ 2 ^ b.cqLog2)),
       (0x41, decide (8 ≤ b.eqLog2 ∧ b.eqLog2 ≤ 16)), (0x42, b.res42 == 0)]
    | .ringName b => [(0x18, b.base % 64 == 0 && b.base != 0), (0x20, decide (6 ≤ b.log2 ∧ b.log2 ≤ 20)), (0x21, b.res21 == 0)]
    | .objRead b => [(0x1B, b.res1B == 0), (0x1C, b.len == 0), (0x20, b.addr % 64 == 0)]
    | .objWrite b => [(0x1B, b.res1B == 0), (0x1C, decide (1 ≤ b.len ∧ b.len ≤ 1056))]
    | .checkpoint b => [(0x18, b.id != 0)]
    | .query b => s.searchRange b 1
    | .insert b => s.searchRange b 2
    | .delete b => s.searchRange b 3
    | .unlisted t => if t % 256 == 0x21 then [(0x18, false)] else []
    | _ => []
  firstBad ([(0x00, need), (0x01, m.hdr.res1 == 0), (0x02, decide (24 ≤ m.hdr.len ∧ m.hdr.len ≤ 4096) && m.hdr.len % 8 == 0),
    (0x04, m.hdr.res4 == 0), (0x10, named)] ++ body)

/-! ### Sequence window (R408) -/

/-- Message types whose sequence takes part in the window: those that journal an ACCEPT record (Table 15-8, R409). -/
def windowed : MsgBody → Bool
  | .hello _ => false
  | .goodbye => false
  | .ringName _ => false
  | .objRead _ => false
  | .query _ => false
  | _ => true

/-- What the window says of a sequence: none lets it through. -/
def State.seqCheck (s : State) (st seq : Nat) : Option Outcome :=
  let w := s.window st
  match mget w.set seq with
  | some pos => some ⟨St.ALREADY_ACCEPTED, 0, 0, pos, false⟩
  | none => if seq + 4096 < w.high then some (Outcome.of St.SEQ_STALE) else none

/-! ### Acceptance (R10, R399, R409) -/

/-- Tiles of a half's book that are free, and its reserve of one sixty-fourth (R411). -/
def State.bookTiles (s : State) (half : Nat) : Nat := (s.book half).tiles

/-- An ACCEPT record must be refused with FIELD_BOOK_FULL (R411). -/
def State.bookFull (s : State) (half : Nat) : Bool :=
  decide (s.bookTiles half - (s.book half).used ≤ s.bookTiles half / 64)

/-- HOLD_INTAKE holds messages that need an ACCEPT record while the witness is LAPSED (R406). -/
def State.intakeHeld (s : State) : Bool := s.obj Ob.witness_state 0 == 3 && s.obj Ob.witness_loss_action 0 == 1

/-- Class, final, DRAFT_RESET flags and byte count of a message's input: class 3 is no input. -/
def inputOf : MsgBody → Nat × Bool × Bool × Nat
  | .append b => (b.cls, b.final, b.draftReset, b.bytes)
  | .resume b => (b.cls, true, b.draftReset, b.bytes)
  | .prefixRegister b => (b.cls, true, b.draftReset, b.bytes)
  | _ => (3, false, false, 0)

/-- Accept a message of a station (R10): its ACCEPT record under the mode, its sequence, and its completion, at once under OFF or
when the record is durable. Answers the ACCEPT position, 0 under OFF. -/
def State.accept (s : State) (st : Nat) (e : Intake) (mode half sid policy : Nat) (held : Bool) (result : Nat) (demoted : Bool) :
    State × Nat :=
  let seq := e.msg.hdr.seq
  if mode == 2 then
    let s := (s.seqAdd st seq 0).numberAccept st seq
    (s.finish st seq ⟨St.OK, 0, result, 0, demoted⟩, 0)
  else
    let (cls, final, dr, _) := inputOf e.msg.body
    let tool := cls == 1
    let marker := if tool then slice (s.str Ob.stn_tool_marker st) 1 (ofLE (slice (s.str Ob.stn_tool_marker st) 0 1)) else []
    let chain := ((s.bySid sid).map (fun x => x.chProduced)).getD 0
    let body : RecBody := .accept seq (msgType e.msg.body) cls final dr held policy (msgBytes e.msg) (if tool then s.obj Ob.stn_tool_head st else 0)
      (if tool then s.obj Ob.stn_tool_tail st else 0) marker e.msg
    let (s, pos) := s.appendRec half sid st chain body
    let s := if sid == 0xFFFFFFFF then s else s.modSess (sidIndex sid) (fun x => { x with journalPos := pos })
    let s := ((s.seqAdd st seq pos).leaveIntake st seq).numberAccept st seq
    let s := s.setIntake st seq (fun i => { i with stage := .accepted pos, result := result, demoted := demoted })
    (s.waitDurable pos (.acceptance st seq), pos)

/-- Post an accepted message's completion once its record is durable (R10). -/
def State.completeAccept (s : State) (st seq pos : Nat) : State :=
  let mine (e : Intake) : Bool := e.msg.hdr.seq == seq && e.stage == .accepted pos
  match (s.station st).intake.find? mine with
  | none => s
  | some e => (s.settle st mine ⟨St.OK, 0, e.result, pos, e.demoted⟩).goodbyeStep st

/-! ### Table 2-7 -/

/-- Entries of Table 2-7. -/
inductive Verdict where
  | accept
  | hold
  | noEffect
  | wrongState
  | unknown
deriving DecidableEq, Repr

/-- Messages of Table 2-7, in its column order. -/
inductive SessMsg where
  | append
  | resume
  | cancel
  | close
  | park
  | revive
deriving DecidableEq, Repr

/-- Table 2-7. While CANCEL_AT_BOUNDARY is set, or a CANCEL waits for its frame to begin (R77), the session answers as
CANCELLING (R76). -/
def verdict (x : Session) (m : SessMsg) : Verdict :=
  if x.cancelAtBoundary || x.cancelLater then .wrongState
  else match x.state, m with
    | .free, _ => .unknown
    | .closed, _ => .unknown
    | .cancelling, _ => .wrongState
    | .failed, .cancel => .accept
    | .failed, .close => .accept
    | .failed, _ => .wrongState
    | _, .cancel => .accept
    | _, .close => .accept
    | .opened, .append => .accept
    | .opened, .resume => .wrongState
    | .opened, .park => .accept
    | .opened, .revive => .noEffect
    | .waiting, .append => .wrongState
    | .waiting, .resume => .accept
    | .waiting, .park => .accept
    | .waiting, .revive => .noEffect
    | .grammarDead, .park => .accept
    | .grammarDead, .revive => .noEffect
    | .grammarDead, _ => .wrongState
    | .reviving, .append => if x.hasWork then .hold else .accept
    | .reviving, .resume => if x.waitOpen then .accept else .wrongState
    | .reviving, _ => .noEffect
    | .parkedWarm, .append => if x.waitOpen then .wrongState else .accept
    | .parkedWarm, .resume => if x.waitOpen then .accept else .wrongState
    | .parkedWarm, .park => .noEffect
    | .parkedWarm, .revive => .accept
    | .parkedCold, .append => if x.waitOpen then .wrongState else .accept
    | .parkedCold, .resume => if x.waitOpen then .accept else .wrongState
    | .parkedCold, .park => .noEffect
    | .parkedCold, .revive => .accept
    | _, .append => .hold
    | _, .resume => .wrongState
    | _, _ => .noEffect

/-! ### Moves a session asks for -/

/-- Own blocks of a session with a tile that is evicted or lost, first and last (R75, R86). -/
def Session.missing (x : Session) : Option (Nat × Nat) :=
  let gone := ((List.range (x.pt.blocks - x.pt.sharedBlocks)).map (· + x.pt.sharedBlocks)).filter (fun b =>
    (blockKeys x.pt.layers x.pt.groups b).any (fun k => (x.pt.at k).primary == noTile))
  match gone with
  | [] => none
  | b :: r => some (b, (r.getLast?).getD b)

/-- One session whose revive starts (R85, R86, R129): evicted blocks are to be recomputed, and blocks elsewhere are moved. -/
def State.reviveOne (s : State) (i : Nat) : State :=
  match s.sess i with
  | none => s
  | some x =>
    let s := match x.missing with
      | none => s
      | some (f, l) => s.toRebuild i f l 1
    match s.sess i with
    | none => s
    | some x =>
      if x.pt.entries.all (fun p => tierOf p.2.primary == s.kvTier || p.2.primary == noTile) then s
      else s.produce x.half (16 + x.station % 16) (blockDesc 6 s.kvTier x true 0 (x.pt.blocks - 1))

/-- REVIVE_BLOCKS for the whole session, and for the prefix it shares, on the station's class 1 queue (R67, R129); their parking stops. Evicted
blocks are to be recomputed (R86). -/
def State.startRevive (s : State) (i : Nat) : State :=
  match s.sess i with
  | none => s
  | some x =>
    let s := s.stopParking i
    let s := match s.bySid x.prefixSid with
      | none => s
      | some p => if p.allIn s.kvTier then s
        else (s.modSess p.index (fun y => if y.state.parked then y.toReviving s.tick else y)).reviveOne p.index
    s.reviveOne i

/-- PARK_BLOCKS for the whole session on the station's class 2 queue (R124). A session that an issued list names is not parked (R73): the parking
asked for is given up, not kept for later (log entry 147). -/
def State.startPark (s : State) (i target : Nat) : State :=
  match s.sess i with
  | none => s
  | some x =>
    if !s.parkable x then s
    else
      let s := s.setSess { x with parking := some target }
      s.produce x.half (32 + x.station % 16) (blockDesc 5 target x false x.pt.sharedBlocks (x.pt.blocks - 1))

/-! ### Effects of the session messages -/

/-- Input record of an accepted message. -/
def State.inputRec (s : State) (st : Nat) (b : InputBody) (final held : Bool) (pos : Nat) : InputRec :=
  let m := s.str Ob.stn_tool_marker st
  ⟨b.cls, final, b.draftReset, held, held, pos, b.data.take b.bytes, s.obj Ob.stn_tool_head st, s.obj Ob.stn_tool_tail st, slice m 1 (ofLE (slice m 0 1))⟩

/-- A turn starts: the detokenizer and stop automaton are empty, the turn's count is 0, and the grammar returns to its start where
`turn_reset` says so (R273, R284). -/
def State.turnStart (s : State) (i : Nat) : State :=
  (s.modSess i (fun y =>
    let y := { y with stopState := 0, hold := [], newCount := 0, turnFirst := true,
                      bindings := y.bindings.map (fun b => { b with since := none }) }
    match (if y.grammarId == 0 then none else mget s.text.grammars (y.grammarId - 1)) with
    | none => y
    | some g => if g.image.turnReset then { y with grState := g.image.start, grStack := [] } else y)).spillStack i

/-- A session that work or a REVIVE makes REVIVING or brings back to the tier revives once the ACCEPT record at a position is durable (R129). -/
def State.reviveAt (s : State) (i sid pos : Nat) : State := if pos == 0 then s.startRevive i else s.waitDurable pos (.startRevive sid)

/-- Work arrived for a session: the state of Table 2-6. Final input with no chainage left does not queue it (R584); where the prefix it shares has not been
prefilled, that is known when it joins it. -/
def State.workArrived (s : State) (i pos : Nat) : State :=
  match s.sess i with
  | none => s
  | some x =>
    let s := s.stopParking i
    if !x.prefixDue && decide (x.maxPositions ≤ max x.chAccepted x.chProduced) then
      let s := s.modSess i (fun y => { y with maxPosDue := true, turnDue := true })
      if x.state.parked || x.state == .reviving then s.modSess i (fun y => { y with priorState := .opened })
      else s.modSess i (fun y => { y with state := .opened })
    else
      let s := (s.modSess i (fun y => { y with turnDue := true, lastActive := s.tick, discarded := 0 })).turnStart i
      if x.state.parked then (s.modSess i (fun y => y.toReviving s.tick)).reviveAt i x.sid pos
      else if x.state == .reviving then s
      else if x.state == .waiting || s.prefixReady x then
        let s := s.toQueued i
        if x.allIn s.kvTier && s.prefixReady x then s else s.reviveAt i x.sid pos
      else s.reviveAt i x.sid pos

/-- Its revival will draw the last turn's tokens again (R88). -/
def Session.willRewind (x : Session) : Bool := x.missing.any (fun p => x.reachesTurn p.2) || x.rebuild.any (fun p => x.reachesTurn p.2)

/-- APPEND and RESUME once their state and tag have passed (R53, R54, R70). While a turn is generated again, or must be, its tokens come first (R88), and
the input is held as pending input is; final input revives the session for it. -/
def State.takeInput (s : State) (st : Nat) (e : Intake) (x : Session) (b : InputBody) (final held : Bool) : State :=
  let held := held || x.rewound || x.willRewind
  let (s, pos) := s.accept st e x.fbMode x.half x.sid 0 held 0 false
  let s := s.modSess x.index (fun y => { y with
    inputs := y.inputs ++ [s.inputRec st b final held pos]
    pendingInput := y.pendingInput || held
    inputFinal := final
    lastActive := s.tick })
  if final && !held then s.workArrived x.index pos
  else if final && x.state.parked then ((s.stopParking x.index).modSess x.index (fun y => y.toReviving s.tick)).reviveAt x.index x.sid pos
  else s

/-- CANCEL (R76-R78, R82): CANCEL record; at once under IMMEDIATE, with the frame's rows masked, at the boundary under STEP_BOUNDARY. A CLOSE that
waits for the boundary gives way to it (log entry 148). -/
def State.cancelSession (s : State) (i : Nat) : State :=
  match s.sess i with
  | none => s
  | some x =>
    let (s, pos) := s.srec i (.cancel x.cancelPolicy x.chDelivered)
    if x.cancelPolicy == 1 then s.modSess i (fun y => { y with cancelAtBoundary := true, closePending := false, cancelPos := some pos })
    else
      let s := (s.maskRows x.sid).modSess i (fun y => { y with
        state := .cancelling, stateSince := s.tick, inputs := [], pendingInput := false, closePending := false, hold := [], cancelPos := some pos })
      let s := s.freeQueue i
      if pos == 0 then s.freePages i else s.waitDurable pos (.freeCancelled x.sid)

/-- Grammar, model and draft checks of an OPEN (R239, R273, R287). -/
def State.openModels (s : State) (st : Nat) (b : OpenBody) : Nat :=
  let g := b.grammar - 1
  let main := b.model
  let d := b.draftModel
  let donors := (s.str Ob.mdl_donor d).take (s.obj Ob.mdl_layers d)
  if b.grammar != 0 && (s.obj Ob.gp_state g != 2
      || (s.obj Ob.gp_station g != 0xFFFF && s.obj Ob.gp_station g != st)) then St.GRAMMAR_UNKNOWN
  else if b.grammar != 0 && ((mget s.text.grammars g).map (fun x => x.model)) != some main then St.GRAMMAR_MODEL_MISMATCH
  else if b.draftOn && (s.obj Ob.mdl_draft_of d != main || s.obj Ob.mdl_kv_groups d != s.obj Ob.mdl_kv_groups main
      || donors.any (fun l => decide (s.obj Ob.mdl_layers main ≤ l.toNat))) then St.DRAFT_MODEL_MISMATCH
  else St.OK

/-- Descriptor of a prefix handle (R60, R64): the session number of bits [31:0], with the PREFIX flag, the station and the generation. -/
def State.prefixBy (s : State) (st handle : Nat) : Option Session :=
  if handle / 2 ^ 40 != 0 || handle / 2 ^ 32 % 256 != st then none
  else (s.bySid ((s.camPrefix st handle).getD (handle % 2 ^ 32))).bind (fun p =>
    if p.isPrefix && p.station == st && p.state.live then some p else none)

/-- A descriptor as an OPEN allocates it (Table 2-3), less what the OPEN names. -/
def newSession (i g st half tick : Nat) (p : PageTable) : Session :=
  { handle := 0, index := i, generation := g, station := st, half := half, tenant := 0, state := .opened, priorState := .opened,
    ringHold := false, suppressing := false, reviveDemoted := false, cancelAtBoundary := false, closePending := false,
    inputFinal := false, turnDue := false, waitOpen := false, isPrefix := false, prefixReleased := false, pendingInput := false, fbMode := 0,
    cancelPolicy := 0, revivePolicy := 0, parkClass := 0, model := 0, draftModel := 0, draftOn := false, maxPositions := 0,
    prefixSid := 0xFFFFFFFF, prefixPositions := 0, waitTag := 0, tilesT1 := 0, tilesT2 := 0, tilesT3 := 0, tilesT4 := 0,
    tilesTotal := 0, refs := 0, chAccepted := 0, chProduced := 0, chDelivered := 0, journalPos := 0, ringBase := 0, ringWrite := 0,
    ringRead := 0, ringLog2 := 0, waitDeadline := 0, lastActive := tick, vfinish := 0, slotFrame := 0, row := 0xFFFF, bucket := 0, rows := 0,
    cntInvalidUtf8 := 0, cntReviveLate := 0, cntCopyFirst := 0, cntTruncated := 0, bindings := [], temperature := 0, topK := 0,
    topP := 0x3F800000, draftLen := 0, draftLenOpen := 0, rejConsec := 0, rejWindow := 0, draftStopped := false, genSeed := 0,
    rejBitmap := [], maxNew := 0, newCount := 0, grammarId := 0, grFlags := 0, grState := 0, grStack := [], grSpill := 0, tkLook := [],
    tkUtf8 := [], tkFlags := 0, stopSet := 0, stopAddr := 0, stopState := 0, includeStop := false, hold := [], tokens := [], generated := [], inputs := [], queue := [], queueFrom := 0,
    pt := p, stateSince := tick, warmSince := 0, parking := none, rebuild := none, rebuildMethod := 0, rebuildPos := 0, recomputed := 0, reviveTiers := 0,
    posted := [], named := [], closedFrame := 0, failCause := 0, cancelPos := none, discarded := 0, maxPosDue := false, ringRename := none, ringMask := 0,
    adoptedHold := false, outbox := [], deliverDue := [], regen := false, turnFirst := true, resetAt := [], resetNext := false, truncAt := [],
    truncNext := false, hashMember := true, refGone := false, cancelLater := false, prefixDue := false, tailDue := false, lastWait := none, turnGr := 0, turnStack := [],
    rewound := false, movedFrom := 0xFFFFFFFF, pfxHandle := 0 }

/-- Effective cancel policy of a station at OPEN: as it stood at the last boundary (R27, R28), STEP_BOUNDARY only while it is privileged (R29). -/
def State.cancelPolicyOf (s : State) (st : Nat) : Nat := if s.privileged st then (s.station st).cancelPolicy else 0

/-- Page table of a new session (Table 6-1). -/
def State.newPt (s : State) (model : Nat) (p : Option Session) : PageTable :=
  let pos := (p.map (fun p => if p.prefilled then p.chAccepted else 0)).getD 0
  ⟨model, s.obj Ob.mdl_kv_groups model, s.obj Ob.mdl_layers model, ceilDiv pos 32, pos / 32,
   (p.map Session.sid).getD 0xFFFFFFFF, pos, [], []⟩

/-- Every tile of the prefix's partial tail block stands, with every position of it written (R65). -/
def Session.tailHere (p : Session) : Bool :=
  p.rebuild.isNone && (blockKeys p.pt.layers p.pt.groups (p.chAccepted / 32)).all (fun k => (p.pt.at k).primary != noTile)

/-- The prefix's partial tail block is copied into the page that the session has for it (R65). -/
def State.fillTail (s : State) (i : Nat) (p : Session) : State :=
  match s.sess i with
  | none => s
  | some x =>
    (blockKeys x.pt.layers x.pt.groups (p.chAccepted / 32)).foldl (fun s k =>
      let src := s.tileAt (p.pt.at k).primary
      let dst := (x.pt.at k).primary
      let t := s.tileAt dst
      s.writeTile dst { t with payload := src.payload, scales := src.scales, valid := src.valid, writer := src.writer }) s

/-- The prefix's partial tail block is copied into a page the session owns (R65): at once, or, where tiles of the block are lost, once it stands
again. -/
def State.copyTail (s : State) (i : Nat) (p : Session) : State :=
  if p.chAccepted % 32 == 0 then s
  else
    let (s, _) := s.allocBlock i s.kvTier (p.chAccepted / 32)
    if p.tailHere then s.fillTail i p else s.modSess i (fun x => { x with tailDue := true })

/-- Descriptor of an accepted OPEN (Table 2-3): its index, generation and half, the prefix it shares, and its policies. -/
def State.openedSession (s : State) (i g st half handle : Nat) (b : OpenBody) (p : Option Session) (mode cancel revive : Nat)
    (demoted : Bool) : Session :=
  let pos := (p.map (fun p => if p.prefilled then p.chAccepted else 0)).getD 0
  { newSession i g st half s.tick (s.newPt b.model p) with
    handle := handle, tenant := b.tenant, fbMode := mode, cancelPolicy := cancel
    revivePolicy := revive, reviveDemoted := demoted, parkClass := b.parkClass, model := b.model
    draftModel := b.draftModel, draftOn := b.draftOn, maxPositions := b.maxPositions
    prefixSid := (p.map Session.sid).getD 0xFFFFFFFF, prefixPositions := pos, prefixDue := p.any (fun p => !p.prefilled), chAccepted := pos, chProduced := pos, chDelivered := pos
    ringBase := b.ringBase, ringLog2 := b.ringLog2, bindings := b.bindings.map (bindingOf s st), temperature := b.temperature
    topK := b.topK, topP := b.topP, draftLen := b.draftLen, draftLenOpen := b.draftLen, genSeed := b.genSeed, maxNew := b.maxNew
    grammarId := b.grammar
    turnGr := if b.grammar == 0 then 0 else ((mget s.text.grammars (b.grammar - 1)).map (fun q => q.image.start)).getD 0
    grState := if b.grammar == 0 then 0 else ((mget s.text.grammars (b.grammar - 1)).map (fun q => q.image.start)).getD 0
    stopSet := if b.stopSet == 0xFF then 0 else b.stopSet + 1
    stopAddr := if b.stopSet == 0xFF then 0 else (mget s.text.stops (16 * st + b.stopSet)).getD 0, includeStop := b.includeStop }

/-- The prefix that a session shares has been prefilled since its OPEN: the session takes its positions, its whole blocks and a copy of its tail
block (R62, R65). Final input that waits has no chainage left where the prefix reaches `max_positions` (R584). -/
def State.joinPrefix (s : State) (i : Nat) (p : Session) : State :=
  let pos := p.chAccepted
  let s := s.modSess i (fun x => { x with
    prefixDue := false, prefixPositions := pos, chAccepted := pos, chProduced := pos, chDelivered := pos
    maxPosDue := x.maxPosDue || (x.turnDue && decide (x.maxPositions ≤ pos))
    pt := { x.pt with blocks := ceilDiv pos 32, sharedBlocks := pos / 32, kvWritten := pos } })
  (s.copyTail i p).growPt i

/-- Sessions whose prefix has been prefilled join it, and those whose copy of its tail block was due get it (R62, R65). -/
def State.joinSharers (s : State) : State :=
  (s.ses.tab.map Prod.fst).foldl (fun s i => match s.sess i with
    | none => s
    | some x => match s.bySid x.prefixSid with
      | none => s
      | some p =>
        if !x.state.live || !p.prefilled then s
        else if x.prefixDue then s.joinPrefix i p
        else if x.tailDue && p.tailHere then (s.fillTail i p).modSess i (fun y => { y with tailDue := false })
        else s) s

/-- Descriptor of an accepted PREFIX_REGISTER (R60). -/
def State.prefixSession (s : State) (i g st half mode : Nat) (b : InputBody) : Session :=
  { newSession i g st half s.tick (s.newPt b.model none) with
    isPrefix := true, tenant := b.tenant, fbMode := mode, model := b.model
    maxPositions := min 131072 (s.obj Ob.mdl_max_positions b.model) }

/-- The search for the prefix that an OPEN names, of both halves (R64, R315). -/
def State.prefixLook (s : State) (st pfx : Nat) : State := if pfx == 0 then s else s.camLookBoth (2 * 2 ^ 120 + handleKey st pfx)

/-- OPEN (R31-R38, R45, R62-R66, R84, R88): checks in turn, then the descriptor, its page table and its handle. The order of the checks is the
model's choice (log entry 34): the handle, the station's limit, the prefix, its model, its half, the models and grammar, a free descriptor. Handle 0 in
`pfx` names no prefix, so that no OPEN can name the prefix of station 0 whose session number is 0 (log entry 189). -/
def State.openMsg (s : State) (st : Nat) (e : Intake) (b : OpenBody) (half : Nat) : State :=
  let refuse (s : State) (c : Nat) : State := s.finish st e.msg.hdr.seq (Outcome.of c)
  let (s, old) := s.resolve st e.msg.hdr.handle
  let p := if b.pfx == 0 then none else s.prefixBy st b.pfx
  let s := s.prefixLook st b.pfx
  if old.isSome || s.justClosed st e.msg.hdr.handle then refuse s St.HANDLE_IN_USE
  else if s.obj Ob.stn_session_max st ≤ s.stationSessions st false then refuse s St.SESSION_LIMIT
  else if b.pfx != 0 && (p.all (fun p => p.prefixReleased || p.state == .failed)) then refuse s St.PREFIX_UNKNOWN
  else if b.pfx != 0 && (p.map (fun p => p.model)) != some b.model then refuse s St.PREFIX_MODEL_MISMATCH
  else if b.pfx != 0 && b.half != 2 && (p.map (fun p => p.half)) != some b.half then refuse s St.PREFIX_HALF_MISMATCH
  else if s.openModels st b != St.OK then refuse s (s.openModels st b)
  else match s.takeIndex half with
    | none => refuse s St.TABLE_FULL
    | some (i, g, s) =>
      let asked := if b.revive == 0 then s.obj Ob.stn_revive_default st else b.revive - 1
      let mode := (s.station st).fbMode
      let demoted := mode == 2 && asked == 1
      let x := s.openedSession i g st half e.msg.hdr.handle b p mode (s.cancelPolicyOf st) (if demoted then 0 else asked) demoted
      let s := s.setSess x
      let s := match p with
        | none => s
        | some p =>
          let s := (s.setSess { p with refs := p.refs + 1 }).stopParks p
          if p.prefilled then s.copyTail i p else s
      let s := s.growPt i
      let s := s.setHash half ((s.hash half).add st x.handle x.sid)
      let s := s.camAddHandle x
      let policy := mode + 4 * x.cancelPolicy + 8 * x.revivePolicy + (if b.half == 2 && b.pfx == 0 then 16 else 0)
      (s.accept st e mode half x.sid policy false 0 demoted).1

/-- PREFIX_REGISTER (R60, R63, R64): the prefix's descriptor, its handle as the result, its input to be prefilled. Beyond `stn_prefix_max` it is refused
with PREFIX_LIMIT, also where no descriptor is free (DESIGN CHOICE, log entry 34). -/
def State.prefixRegisterMsg (s : State) (st : Nat) (e : Intake) (b : InputBody) (half : Nat) : State :=
  let refuse (s : State) (c : Nat) : State := s.finish st e.msg.hdr.seq (Outcome.of c)
  if s.obj Ob.stn_prefix_max st ≤ s.stationSessions st true then refuse s St.PREFIX_LIMIT
  else match s.takeIndex half with
    | none => refuse s St.TABLE_FULL
    | some (i, g, s) =>
      let mode := (s.station st).fbMode
      let x := s.prefixSession i g st half mode b
      let h := x.sid + 2 ^ 32 * st
      let x := { x with pfxHandle := h }
      let s := ((s.setSess x).growPt i).enterHandles x
      let a := s.accept st e mode half x.sid 0 false h false
      let input := a.1.inputRec st b true false a.2
      (a.1.modSess i (fun y => { y with inputs := [input], inputFinal := true, turnDue := true })).toQueued i

/-- PREFIX_RELEASE (R66). -/
def State.prefixReleaseMsg (s : State) (st : Nat) (e : Intake) : State :=
  let found := s.prefixBy st e.msg.hdr.handle
  let s := s.camLookBoth (2 * 2 ^ 120 + handleKey st e.msg.hdr.handle)
  match found with
  | none => s.finish st e.msg.hdr.seq (Outcome.of St.PREFIX_UNKNOWN)
  | some p =>
    if p.prefixReleased then s.finish st e.msg.hdr.seq (Outcome.of St.PREFIX_UNKNOWN)
    else
      let (s, _) := s.accept st e p.fbMode p.half p.sid 0 false 0 false
      let s := s.modSess p.index (fun y => { y with prefixReleased := true })
      let c := s.cam p.half
      let s := s.setCam p.half (c.put (camRemove c.entries (2 * 2 ^ 120 + handleKey st e.msg.hdr.handle)))
      s.freePrefixIfDone p.index

/-- A message that names a session: resolved, judged by Table 2-7, and carried out. -/
def State.sessionMsg (s : State) (st : Nat) (e : Intake) (m : SessMsg) (go : State → Session → Verdict → State) : State :=
  let (s, x) := s.resolve st e.msg.hdr.handle
  match x with
  | none => s.finish st e.msg.hdr.seq (Outcome.of St.HANDLE_UNKNOWN)
  | some x =>
    match verdict x m with
    | .unknown => s.finish st e.msg.hdr.seq (Outcome.of St.HANDLE_UNKNOWN)
    | .wrongState => s.finish st e.msg.hdr.seq (Outcome.of St.SESSION_STATE)
    | v => go s x v

/-- APPEND (R53, Table 2-7). -/
def State.appendMsg (s : State) (st : Nat) (e : Intake) (b : InputBody) : State :=
  s.sessionMsg st e .append (fun s x v => s.takeInput st e x b b.final (v == .hold))

/-- RESUME (R70): the tag must match. -/
def State.resumeMsg (s : State) (st : Nat) (e : Intake) (b : InputBody) : State :=
  s.sessionMsg st e .resume (fun s x _ =>
    if b.waitTag != x.waitTag then s.finish st e.msg.hdr.seq (Outcome.of St.WAIT_TAG_MISMATCH)
    else
      let s := s.modSess x.index (fun y => { y with waitOpen := false, waitDeadline := 0 })
      s.takeInput st e { x with waitOpen := false } b true false)

/-- CANCEL (R76). One served in the tick in which the frame ends belongs to the frame that begins there (R77): it takes effect once the boundary
has been taken. -/
def State.cancelMsg (s : State) (st : Nat) (e : Intake) : State :=
  s.sessionMsg st e .cancel (fun s x _ =>
    let s := (s.accept st e x.fbMode x.half x.sid 0 false 0 false).1
    if decide (s.frameEnd ≤ s.tick) && s.trv.held.isNone then s.modSess x.index (fun y => { y with cancelLater := true })
    else s.cancelSession x.index)

/-- CLOSE (R51, R55): at the end of the frame for an ACTIVE session, else at once. -/
def State.closeMsg (s : State) (st : Nat) (e : Intake) : State :=
  s.sessionMsg st e .close (fun s x _ =>
    let s := (s.accept st e x.fbMode x.half x.sid 0 false 0 false).1
    if x.state == .active then s.modSess x.index (fun y => { y with closePending := true })
    else s.enterClosed x.index 1)

/-- PARK (R74): a hint. -/
def State.parkMsg (s : State) (st : Nat) (e : Intake) : State :=
  s.sessionMsg st e .park (fun s x v =>
    let s := (s.accept st e x.fbMode x.half x.sid 0 false 0 false).1
    if v == .accept then s.startPark x.index 2 else s)

/-- REVIVE (R74): a hint. -/
def State.reviveMsg (s : State) (st : Nat) (e : Intake) : State :=
  s.sessionMsg st e .revive (fun s x v =>
    let (s, pos) := s.accept st e x.fbMode x.half x.sid 0 false 0 false
    if v == .accept then
      ((s.stopParking x.index).modSess x.index (fun y => { y.toReviving s.tick with lastActive := s.tick })).reviveAt x.index x.sid pos
    else s)

/-! ### HELLO, GOODBYE and RING_NAME (R490-R499, R504) -/

/-- Module a station uses: the one asked for if UP, else the next UP module of its half, else the lowest of the other (R484). -/
def State.pickModule (s : State) (want : Nat) : Option Nat :=
  let up (m : Nat) : Bool := match mget s.stn.modules m with
    | none => false
    | some x => decide (2 ≤ x.state)
  let h := want / 4
  (((List.range 4).map (fun i => h * 4 + (want + i) % 4)).find? up) <|> (((List.range 4).map (fun i => (1 - h) * 4 + i)).find? up)

/-- Unacknowledged writes are sent again, first and in their order (R502, R503). -/
def Station.reissue (x : Station) : Station := { x with out := x.out.map (fun w => { w with issued := x.state == 1 }) }

/-- HELLO (R23, R490-R492). -/
def State.helloMsg (s : State) (st : Nat) (e : Intake) (b : HelloBody) : State :=
  let x := s.station st
  let seq := e.msg.hdr.seq
  if b.majorLo ≤ 3 && decide (3 ≤ b.majorHi) then
    match s.pickModule (s.obj Ob.stn_module st) with
    | none => s
    | some m =>
      let kib := s.obj Ob.stn_intake_kib st * 16
      let used := ((x.intake.filter (fun i => !i.returned)).map (fun i => i.credits)).foldl (· + ·) 0
      let attached := x.state == 1
      let y : Station := { x with
        state := 1, module := m, helloStatus := St.OK, major := 3, minor := 0, features := Nat.land b.features 0xF
        hbTicks := b.hbTicks, hbAddr := b.hbAddr, hbCount := 0, hbLast := s.tick, lastArrival := s.tick, missed := 0
        cq := ⟨b.cqBase, b.cqLog2, 0, 0⟩, eq := ⟨b.eqBase, b.eqLog2, 0, 0⟩
        credits := kib - used, creditsMax := kib, cqTaken := if attached then x.intake.length else 1
        intake := if attached then x.intake else x.intake.filter (fun i => i.msg.hdr.seq == seq) }
      let y := (y.reissue).flushKept 64
      let s := (s.setStation st y).setStationState st 1
      let s := { s with mgmt := { s.mgmt with caps := mdel s.mgmt.caps st } }
      let (nonce, s) := s.freshNonce
      let s := (s.setStr Ob.stn_cap_nonce st nonce).setObj Ob.stn_cap_state st 0
      s.finish st seq ⟨St.OK, 0, s.obj Ob.id_last_reset 0 + 2 ^ 32 * s.obj Ob.id_boot_count 0, 0, false⟩
  else
    let s := s.setStation st { x with helloStatus := St.VERSION_MISMATCH }
    if x.state == 1 then s.finish st seq (Outcome.of St.VERSION_MISMATCH)
    else
      let x := s.station st
      (s.setStation st { x with intake := x.intake.filter (fun i => i.msg.hdr.seq != seq) }).setStationState st 3

/-- RING_NAME (R504): takes effect at the next frame boundary. -/
def State.ringNameMsg (s : State) (st : Nat) (e : Intake) (b : RingNameBody) : State :=
  let (s, x) := s.resolve st e.msg.hdr.handle
  match x with
  | none => s.finish st e.msg.hdr.seq (Outcome.of St.HANDLE_UNKNOWN)
  | some x =>
    let behind := (2 ^ 32 + x.ringWrite - b.cons) % 2 ^ 32
    if x.state == .cancelling || x.cancelAtBoundary then s.finish st e.msg.hdr.seq (Outcome.of St.SESSION_STATE)
    else if x.fbMode == 0 && decide (2 ^ b.log2 < behind) then s.finish st e.msg.hdr.seq (Outcome.range 0x24)
    else
      (s.modSess x.index (fun y => { y with ringRename := some (b.base, b.log2, b.cons) })).finish st e.msg.hdr.seq (Outcome.of St.OK)

/-! ### Traffic stage (R374-R377, R384, R385) -/

/-- What rules and buckets judge a message by: its serving half, its tenant where one is known, its model and its kind (R375, R384). -/
structure Traffic where
  half : Nat
  tenant : Option Nat
  model : Nat
  kind : Nat
deriving DecidableEq, Repr

/-- How rules and buckets judge a message; none for a message that they do not judge (R375, R384). A message whose handle this tile does not
resolve is judged with tenant and model 0 and by the station's bucket alone. -/
def State.traffic (s : State) (st : Nat) (e : Intake) : Option Traffic :=
  let byHandle (kind : Nat) : Option Traffic :=
    match (s.resolve st e.msg.hdr.handle).2 with
    | none => some ⟨e.half, none, 0, kind⟩
    | some x => some ⟨x.half, some x.tenant, x.model, kind⟩
  match e.msg.body with
  | .openSession b =>
    let h := match (if b.pfx == 0 then none else s.prefixBy st b.pfx) with
      | some p => p.half
      | none => if b.half == 2 then e.half else b.half
    some ⟨h, some b.tenant, b.model, 1⟩
  | .append _ => byHandle 2
  | .resume _ => byHandle 3
  | .revive => byHandle 4
  | .prefixRegister b => some ⟨e.half, some b.tenant, b.model, 5⟩
  | .query b => some ⟨s.obj Ob.vx_half b.index, some (s.obj Ob.stn_tenant_first st), 0xF, 6⟩
  | .insert b => some ⟨s.obj Ob.vx_half b.index, some (s.obj Ob.stn_tenant_first st), 0xF, 6⟩
  | .delete b => some ⟨s.obj Ob.vx_half b.index, some (s.obj Ob.stn_tenant_first st), 0xF, 6⟩
  | _ => none

/-- What the traffic stage answers: pass, wait, or refuse with an outcome. -/
inductive TrafficSays where
  | pass
  | wait
  | refuse (o : Outcome) (counter : ObjSpec)
deriving DecidableEq, Repr

/-- Key by which the rules judge a message (R384). -/
def ruleKey (st : Nat) (e : Intake) (t : Traffic) : Nat :=
  admissionKey st (if t.kind == 6 then 0xFFF else t.tenant.getD 0) t.model t.kind (inputOf e.msg.body).1 (inputOf e.msg.body).2.2.2

/-- The search of the rules that judging a message makes in its half's engine (R315, R384). -/
def State.ruleLook (s : State) (st : Nat) (e : Intake) : State :=
  match s.traffic st e with
  | none => s
  | some t => s.camLook t.half (ruleKey st e t)

/-- Rules, then buckets (R374-R376, R385). FORCE_DEFER makes non-conformance wait whatever the actions. -/
def State.trafficStage (s : State) (st : Nat) (e : Intake) : TrafficSays :=
  match s.traffic st e with
  | none => .pass
  | some t =>
    let (act, id) := s.admission t.half (ruleKey st e t)
    if act == 1 then .refuse ⟨St.RULE_DENIED, 0, id, 0, false⟩ Ob.cnt_rule_denied
    else if t.kind == 1 then .pass
    else match s.police st t.tenant (if t.kind == 6 then 3 else 0) with
      | .pass => .pass
      | .defer => .wait
      | .reject => if act == 2 then .wait else .refuse (Outcome.of St.RATE_LIMITED) Ob.cnt_rate_limited

/-- A message is policed: later policed messages wait behind a deferred one (R377). -/
def policed : MsgBody → Bool
  | .append _ => true
  | .resume _ => true
  | .revive => true
  | .prefixRegister _ => true
  | .query _ => true
  | .insert _ => true
  | .delete _ => true
  | _ => false

/-- An earlier policed message of the station is still deferred or awaiting bytes (R377, R494). -/
def Station.blocked (x : Station) (seq : Nat) : Bool :=
  (x.intake.takeWhile (fun e => !e.undecided seq)).any (fun e =>
    policed e.msg.body && (match e.stage with
      | .deferred => true
      | .behind => true
      | .fetching => true
      | _ => false))

/-- Serving half of a message's counters (R384). -/
def State.servingHalf (s : State) (st : Nat) (e : Intake) : Nat := ((s.traffic st e).map (fun t => t.half)).getD 0

/-- The buckets of a deferred message are conformant (R376). -/
def State.bucketsPass (s : State) (st : Nat) (e : Intake) : Bool :=
  match s.traffic st e with
  | none => true
  | some t => s.police st t.tenant (if t.kind == 6 then 3 else 0) == .pass

/-- Every tick that a message spends deferred by its buckets is counted (R376). -/
def State.countDeferred (s : State) : State :=
  s.stn.st.foldl (fun s p => (p.2.intake.filter (fun e => e.stage == .deferred && !s.bucketsPass p.1 e)).foldl
    (fun s e => s.bump Ob.cnt_defer_ticks (s.servingHalf p.1 e)) s) s

end Sys2Proof.Machine
end

