-- ==== Sys2Proof/Machine/Routes.lean ====
section
/-! DEFINITION. Ports, lanes and routes over the fabric (R456, R459-R466). -/

namespace Sys2Proof.Machine

/-! ### Ports (R456, R460-R465) -/

/-- A port that has done nothing yet. -/
def portInit : FabPort := ⟨[], 0, 0, 0, none, [], 0, 0, 0, 0, 0, 0, none, 0, [], 0, false, [], none⟩

/-- Port p. -/
def State.port (s : State) (p : Nat) : FabPort := (mget s.fab.ports p).getD portInit

/-- Store port p. -/
def State.setPort (s : State) (p : Nat) (x : FabPort) : State := { s with fab := { s.fab with ports := mput s.fab.ports p x } }

/-- Half of a port and of a lane. -/
def portHalf (p : Nat) : Nat := p / 8

/-- Lanes of a port under `fab_quad_mode`; none where the port does not exist (R456). -/
def State.portLanes (s : State) (p : Nat) : List Nat :=
  if s.objAt Ob.fab_quad_mode 0 (p / 2) == 1 then
    if p % 2 == 0 then [4 * (p / 2), 4 * (p / 2) + 1, 4 * (p / 2) + 2, 4 * (p / 2) + 3] else []
  else [2 * p, 2 * p + 1]

/-- A port that carries traffic: UP or NARROW. -/
def State.portUp (s : State) (p : Nat) : Bool := s.obj Ob.port_state p == 2 || s.obj Ob.port_state p == 3

/-- Device at the other end of an UP port. -/
def State.portPeer (s : State) (p : Nat) : Nat := s.obj Ob.port_peer p % 512

/-- A lane's state. -/
def State.lane (s : State) (l : Nat) : Nat := s.objAt Ob.lane_state 0 l
def State.setLane (s : State) (l v : Nat) : State := s.setObjAt Ob.lane_state 0 l v

/-- A report whose cause the spec does not number: an open value. -/
def State.reportOpen (s : State) (src cls : Nat) : State :=
  let (c, s) := s.draw
  s.report src cls (c % 65536)

/-- Reports of a port's failure from each of its lane sources (R460). -/
def State.portReport (s : State) (p cls : Nat) : State := (s.port p).lanes.foldl (fun s l => s.reportOpen (0x230 + l) cls) s

/-! ### Routes (R459, R466) -/

/-- Devices next to one in the committed plat. -/
def platNext (p : PlatImage) (d : Nat) : List Nat :=
  match p.devices.find? (fun x => x.device == d) with
  | none => []
  | some x => (x.links.filter (fun l => decide (32768 ≤ l))).map (fun l => l % 512)

/-- Distance from a set of devices to one, counted up from `n`, never through `avoid`; every turn adds devices, so their number bounds the fuel. -/
def platDist (p : PlatImage) (avoid dst : Nat) : Nat → Nat → List Nat → Option Nat
  | 0, _, _ => none
  | f + 1, n, seen =>
    if seen.contains dst then some n
    else
      let more := (seen.flatMap (platNext p)).foldl (fun l d => if l.contains d || d == avoid then l else d :: l) seen
      if more.length == seen.length then none else platDist p avoid dst f (n + 1) more

/-- Hops from this device beyond the first, and the port, of a shortest path to a device: the lowest port among equals (R459). The path leaves
through no port of `but`. -/
def State.bestRouteBut (s : State) (but : List Nat) (dst : Nat) : Option (Nat × Nat) :=
  let dist (p : Nat) : Option Nat :=
    if but.contains p || !s.portUp p || s.obj Ob.port_role p != 1 then none
    else if s.portPeer p == dst then some 0
    else s.fab.plat.bind (fun img => platDist img s.device dst (img.devices.length + 1) 0 [s.portPeer p])
  ((List.range 16).foldl (fun (best : Option (Nat × Nat)) p =>
    match dist p, best with
    | none, b => b
    | some n, none => some (n, p)
    | some n, some (m, q) => if n < m then some (n, p) else some (m, q)) none)

/-- A shortest path to a device over any port. -/
def State.bestRoute (s : State) (dst : Nat) : Option (Nat × Nat) := s.bestRouteBut [] dst

/-- Port of the next shortest path to a device where one port is out (R149). -/
def State.routeBut (s : State) (up dst : Nat) : Option Nat := (s.bestRouteBut [up] dst).map Prod.snd

/-- Port on a shortest path to a device, the lowest among equals (R459). -/
def State.route (s : State) (dst : Nat) : Option Nat := (s.bestRoute dst).map Prod.snd

end Sys2Proof.Machine
end

