-- ==== Sys2Proof/Machine/Lists.lean ====
section
/-! DEFINITION. Building and carrying slot lists (R130, R152-R161, R238, R387-R390, R427): who is eligible, where rows fit, and what issue and
withdrawal do. -/

namespace Sys2Proof.Machine

/-! ### A session's next row (R152, R295, R305, R584) -/

/-- Kind of work of a session's next row: 0 decode, 1 prefill, 2 resurvey (R152). -/
def Session.work (x : Session) : Nat :=
  if x.rebuild.isSome then 2 else if x.chProduced < x.chAccepted then 1 else 0

/-- First position that a row of this kind computes. -/
def Session.rowCtx (x : Session) : Nat :=
  match x.rebuild with
  | some (f, _) => max x.rebuildPos (32 * f)
  | none => x.pt.kvWritten

/-- The draft slot is usable: LOADED and in the traverse's `model_mask` (R300). -/
def State.draftUsable (s : State) (h : TrvHeader) (x : Session) : Bool :=
  s.obj Ob.mdl_state x.draftModel == 2 && h.modelMask / 2 ^ x.draftModel % 2 == 1

/-- k of R295. -/
def State.draftK (s : State) (h : TrvHeader) (x : Session) : Nat :=
  if !x.draftOn || x.draftStopped || !s.draftUsable h x then 0
  else
    let k := min x.draftLen (min (h.maxRowNew - 1) (x.maxPositions - x.chProduced - 1))
    if x.maxNew == 0 then k else min k (x.maxNew - x.newCount - 1)

/-- New positions of a session's next row (R152). A resurvey row stops at the written context and, where it can, at a whole block. -/
def State.rowNew (s : State) (h : TrvHeader) (x : Session) : Nat :=
  match x.rebuild with
  | some (_, l) =>
    let n := min h.maxRowNew (min (32 * (l + 1)) x.pt.kvWritten - x.rowCtx)
    if 32 ≤ n ∧ x.rowCtx + n < x.pt.kvWritten then n / 32 * 32 else n
  | none => if x.work == 1 then min h.maxRowNew (x.chAccepted - x.pt.kvWritten) else 1 + s.draftK h x

/-- Free entries of a session's output ring. -/
def Session.ringRoom (x : Session) : Nat := 2 ^ x.ringLog2 - (2 ^ 32 + x.ringWrite - x.ringRead) % 2 ^ 32 - x.outbox.length

/-- Room a row needs (R305): k + 1 for a decode row, 1 for a prefill row whose frame draws its token, none for a row that keeps no token at
or above `ch_delivered`. -/
def State.ringNeed (s : State) (h : TrvHeader) (x : Session) : Nat :=
  if x.isPrefix || x.work == 2 then 0
  else if x.work == 1 then
    (if x.pt.kvWritten + s.rowNew h x < x.chAccepted || x.maxPositions ≤ x.chAccepted || x.chAccepted < x.chDelivered then 0 else 1)
  else s.draftK h x + 1 - (x.chDelivered - x.chProduced)

/-- The ring has room for the row; while its station is not ATTACHED, none that needs room has it (R503). -/
def State.ringFits (s : State) (h : TrvHeader) (x : Session) : Bool :=
  s.ringNeed h x == 0 || ((s.station x.station).state == 1 && decide (s.ringNeed h x ≤ x.ringRoom))

/-! ### Revive estimate (R130) -/

/-- Bandwidth of a tier per half in bytes a tick: 8.192 TB/s, 1,228.8 GB/s, 1,024 GB/s and 800 GB/s (Table 1-1, Table 3-1). -/
def tierBytesPerTick : Nat → Nat
  | 1 => 327680
  | 2 => 49152
  | 3 => 40960
  | _ => 32000

/-- Hops beyond the first to the farthest device that holds T4 tiles of a session. -/
def State.farHops (s : State) (x : Session) : Nat :=
  ((x.pt.entries.filter (fun p => tierOf p.2.primary == 4)).map (fun p =>
    ((s.bestRoute (p.2.primary / 2 ^ 52 % 2 ^ 9)).map Prod.fst).getD 0)).foldl max 0

/-- Latency of Table 3-11 in ticks from a tier to the target tier; `hops` beyond the first add 300 ns each. The table gives no T2 to T2 move, which
takes nothing (log entry 153). -/
def tierLatency (t target hops : Nat) : Nat :=
  match t, target with
  | 1, 1 => 30
  | 1, _ => 40
  | 2, 1 => 35
  | 2, _ => 0
  | 3, 1 => 60
  | 3, _ => 65
  | _, 1 => 50 + ceilDiv (15 * hops) 2
  | _, _ => 55 + ceilDiv (15 * hops) 2

/-- Ticks that a tier's tiles take, with the largest latency that the extents that hold tiles of T3 declare (R130): none where the bucket's rate
is 0. -/
def State.tierTicks (s : State) (x : Session) (t n : Nat) : Option Nat :=
  let r := s.obj Ob.stn_revive_rate x.station
  let bw := ceilDiv (n * 4352) (tierBytesPerTick t)
  let lat := tierLatency t s.kvTier (if t == 4 then s.farHops x else 0)
  let ext := if t == 3 then
      ((x.pt.entries.filter (fun p => tierOf p.2.primary == 3)).filterMap (fun p =>
        (s.extent (addrStation p.2.primary) (addrExtent p.2.primary)).map (fun v => v.latencyUs * 25))).foldl max 0
    else 0
  if n == 0 then some 0
  else if r == 0xFFFFFFFF then some (bw + lat + ext)
  else if r == 0 then none
  else some (max bw (ceilDiv (n * 65536) r) + lat + ext)

/-- Estimate of the tick at which a session's tiles stand in the key/value tier (R130), over every tier that holds tiles; none when they never will. -/
def State.reviveEstimate (s : State) (x : Session) : Option Nat :=
  if x.allIn s.kvTier then some s.tick
  else
    match s.tierTicks x 1 x.tilesT1, s.tierTicks x 2 x.tilesT2, s.tierTicks x 3 x.tilesT3, s.tierTicks x 4 x.tilesT4 with
    | some a, some b, some c, some d => some (s.tick + max (max a b) (max c d))
    | _, _, _, _ => none

/-! ### Candidates and rows -/

/-- Image of the traverse that runs a frame: one that an activation schedules by then, else the ACTIVE one. -/
def State.imageFor (s : State) (f : Nat) : Option TrvImage :=
  match s.trv.slots.find? (fun p => p.2.activateAt.any (fun a => decide (a ≤ f))) with
  | some (_, t) => t.image
  | none => if s.trv.stopped then none else s.activeImage

/-- A list for a frame is in time: at or before the start of the frame four before it (R155). -/
def State.listTimely (s : State) (f : Nat) : Bool :=
  decide (s.frame + 4 < f) || (s.frame + 4 == f && s.tick == s.frameStart)

/-- Tick at which a frame ahead begins, as far as the running frame knows: its end with every tick held, those of the hold in force among them, and
the frames between at the present frame length. -/
def State.frameBegins (s : State) (f : Nat) : Nat :=
  if f ≤ s.frame then s.frameStart else s.frameEndDue + s.frameLen * (f - s.frame - 1)

/-- The decision tick of a frame's list or activation has come: `hold_lead` ticks before the frame begins (R156). -/
def State.decisionDue (s : State) (i : TrvImage) (f : Nat) : Bool := decide (s.frameBegins f ≤ s.tick + i.hdr.holdLead)

/-- A LOADED dictionary is bound to the model slot (R259). -/
def State.dictFor (s : State) (model : Nat) : Option (Nat × DictImage) :=
  s.text.dicts.find? (fun p => s.obj Ob.dict_state p.1 == 2 && s.obj Ob.dict_models p.1 / 2 ^ model % 2 == 1)

/-- Every record accepted so far is tokenized (R259). Held records of a turn not yet begun do not count. -/
def Session.tokenized (x : Session) : Bool := x.inputs.all (fun r => r.pending)

/-- The session's model slot is LOADED and the traverse runs it (R57). -/
def State.modelReady (s : State) (h : TrvHeader) (x : Session) : Bool :=
  s.obj Ob.mdl_state x.model == 2 && h.modelMask / 2 ^ x.model % 2 == 1

/-- A session that wants rows (R79, Table 2-5): QUEUED, or ACTIVE, or REVIVING with blocks to be recomputed or with work (R86, R89, R130). -/
def Session.wantsRows (x : Session) : Bool :=
  !x.cancelAtBoundary && !x.closePending && (x.state == .queued || x.state == .active || (x.state == .reviving && (x.rebuild.isSome || x.hasWork)))

/-- A hand-over moves the session away, and it is no longer scheduled (R473). -/
def State.handingOver (s : State) (x : Session) : Bool := s.fab.outs.any (fun o => o.sids.contains x.sid)

/-- Eligible under R387, less its buckets and rows: gates, ring, input, model and revive estimate. -/
def State.eligibleFor (s : State) (h : TrvHeader) (takeoverTick : Nat) (x : Session) : Bool :=
  x.wantsRows && !s.handingOver x && !x.ringHold && s.modelReady h x && x.tokenized && decide (0 < s.rowNew h x)
  && (x.rebuild.isSome || s.prefixReady x)
  && (x.state == .active || x.rebuild.isSome || s.gatesMet x)
  && s.ringFits h x
  && (x.rebuild.isSome || (match s.reviveEstimate x with
    | none => false
    | some t => decide (t < takeoverTick)))

/-- Order of the fair queue: (`vfinish`, home position, session number) (R387). -/
def candBefore (a b : RowCand) : Bool :=
  a.vfinish < b.vfinish || (a.vfinish == b.vfinish && (a.home < b.home || (a.home == b.home && decide (a.sid < b.sid))))

/-- Insert a candidate in that order. -/
def insertCand (c : RowCand) : List RowCand → List RowCand
  | [] => [c]
  | d :: r => if candBefore c d then c :: d :: r else d :: insertCand c r

/-- Candidate of a session. -/
def State.candOf (s : State) (h : TrvHeader) (x : Session) : RowCand :=
  ⟨x.vfinish, s.groupPos, x.sid, x.half, x.work, x.rowCtx, s.rowNew h x⟩

/-- The buckets of an image with their numbers, by ascending cap (R159); LENGTH_TABLE has one, without a cap. -/
def imageBuckets (i : TrvImage) : List (Nat × BucketRec) :=
  if i.hdr.bucketed then
    let rec ins (p : Nat × BucketRec) : List (Nat × BucketRec) → List (Nat × BucketRec)
      | [] => [p]
      | q :: r => if p.2.cap < q.2.cap then p :: q :: r else q :: ins p r
    (i.bucketTable.zipIdx.map (fun (b, k) => (k, b))).foldl (fun l p => ins p l) []
  else [(0, ⟨2 ^ 64, 0, i.hdr.rows⟩)]

/-- Rows of a bucket that belong to a half: first row and count (R238). -/
def halfRows (b : BucketRec) (half : Nat) : Nat × Nat :=
  let h0 := (b.rowCount + 1) / 2
  if half == 0 then (b.firstRow, h0) else (b.firstRow + h0, b.rowCount - h0)

/-- First run of `span` free rows among `n` rows from `lo`. -/
def freeRun (taken : List Nat) (lo n span : Nat) : Option Nat :=
  ((List.range (n + 1 - span)).map (· + lo)).find? (fun r => (List.range span).all (fun k => !taken.contains (r + k)))

/-- Bucket and first row that a candidate takes, with its span (R159, R161): none when it must wait, span 256 when it is too long. -/
def chooseRows (i : TrvImage) (taken : List Nat) (c : RowCand) : Option (Nat × Nat) × Nat :=
  let need := c.ctx + c.nw + (if i.hdr.bucketed then i.hdr.bucketMargin else 0)
  let span := max 1 (ceilDiv need (max 1 i.hdr.maxRowPositions))
  if 255 < span then (none, 256)
  else
    ((imageBuckets i).findSome? (fun (k, b) =>
      if b.cap < need then none
      else
        let (lo, n) := halfRows b c.half
        if n < span then none else (freeRun taken lo n span).map (fun r => (k, r))), span)

/-- A list under construction. -/
structure ListPlan where
  entries : List (Nat × RowEntry)
  /-- units of STEP buckets reserved: (tenant?, owner) to rows -/
  reserved : List (Bool × Nat × Nat)
  tiles : Nat
  v0 : Nat
  v1 : Nat
  /-- sessions placed, with their tags after -/
  placed : List (Nat × Nat)
  spanRefused : Nat
  /-- passed over for a STEP bucket, in half 0 and half 1 -/
  late0 : Nat
  late1 : Nat
deriving DecidableEq, Repr

/-- Rows reserved of a bucket's owner. -/
def ListPlan.reservedOf (p : ListPlan) (tenant : Bool) (n : Nat) : Nat :=
  ((p.reserved.filter (fun r => r.1 == tenant && r.2.1 == n)).map (fun r => r.2.2)).foldl (· + ·) 0

/-- Key/value tiles that a row may newly allocate in its first frame. -/
def newTiles (x : Session) (c : RowCand) : Nat :=
  (ceilDiv (c.ctx + c.nw) 32 - x.pt.blocks) * x.pt.layers * x.pt.groups * 2

/-- Key/value tiles that a row homed on another member may newly allocate here in its first frame (R153, R228): beyond the blocks that its page table
here holds, where it has one (log entry 168). -/
def State.farTiles (s : State) (i : TrvImage) (home sid ctx nw : Nat) : Nat :=
  let m := ((i.binds.head?).map (fun b => b.slot)).getD 0
  let t : Nat × Nat × Nat := match s.sess (farIndex home sid) with
    | some x => (x.pt.blocks, x.pt.layers, x.pt.groups)
    | none => (0, s.obj Ob.mdl_layers m, s.obj Ob.mdl_kv_groups m)
  (ceilDiv (ctx + nw) 32 - t.1) * t.2.1 * t.2.2 * 2

/-- Row entries of a placed candidate (Table 4-8). -/
def entriesOf (c : RowCand) (bucket first span : Nat) : List (Nat × RowEntry) :=
  (List.range span).map (fun k => (first + k, ⟨c.sid, c.home, bucket, c.work, k != 0, if k == 0 then span else 0, k, c.ctx⟩))

/-- Offer rows to one candidate (R387, R388). `fair` is false for the rebuild share of R427: no policing and no tag. `limit` is the
number of rows that share may take, counted in `entries`. -/
def State.offer (s : State) (i : TrvImage) (fair : Bool) (limit : Nat) (p : ListPlan) (c : RowCand) : ListPlan :=
  if p.entries.any (fun e => e.2.sid == c.sid && e.2.home == c.home) then p
  else match chooseRows i (p.entries.map Prod.fst) c with
    | (none, span) => if span == 256 then { p with spanRefused := p.spanRefused + 1 } else p
    | (some (k, r), span) =>
      let own := if c.home == s.groupPos then s.bySid c.sid else none
      let steps : Bool := match own with
        | none => true
        | some x =>
          s.conformant false x.station 0 (p.reservedOf false x.station + span)
            && s.conformant true x.tenant 0 (p.reservedOf true x.tenant + span)
      let tiles := match own with
        | none => s.farTiles i c.home c.sid c.ctx c.nw
        | some x => newTiles x c
      if fair && !steps then (if c.half == 0 then { p with late0 := p.late0 + 1 } else { p with late1 := p.late1 + 1 })
      else if !fair && limit < p.entries.length + span then p
      else if i.hdr.kvPageBudget < p.tiles + tiles then p
      else
        let w := max 1 (match own with
          | none => 1
          | some x => s.obj Ob.tn_weight x.tenant)
        let v := if c.half == 0 then p.v0 else p.v1
        let v' := if fair then max v c.vfinish else v
        { p with
          entries := p.entries ++ entriesOf c k r span
          reserved := match own with
            | none => p.reserved
            | some x => if fair then (false, x.station, span) :: (true, x.tenant, span) :: p.reserved else p.reserved
          tiles := p.tiles + tiles
          v0 := if c.half == 0 then v' else p.v0
          v1 := if c.half == 0 then p.v1 else v'
          placed := match own with
            | none => p.placed
            | some x => p.placed ++ [(x.index, if fair then c.vfinish + (2 ^ 24 * span + w - 1) / w else c.vfinish)] }

/-- Rows of a half in an image. -/
def rowsOfHalf (i : TrvImage) (half : Nat) : Nat :=
  ((imageBuckets i).map (fun p => (halfRows p.2 half).2)).foldl (· + ·) 0

/-- Sessions that rebuild after a loss (R89), apart from the recomputation that a RESURVEY policy asks for (R86). -/
def Session.rebuilding (x : Session) : Bool := x.rebuild.isSome && (x.revivePolicy != 1 || x.rebuildMethod == 2)

/-- Build a slot list for a frame from this tile's sessions and the candidates of the other members (R387, R390, R427). -/
def State.buildList (s : State) (i : TrvImage) (takeover : Nat) (others : List RowCand) : ListPlan :=
  let tt := s.frameBegins takeover
  let mine := (s.sessions.filter (fun x => s.eligibleFor i.hdr tt x)).map (fun x => (x, s.candOf i.hdr x))
  let share := s.obj Ob.rebuild_row_share 0
  let reb := (mine.filter (fun p => p.1.rebuilding && decide (0 < share))).map Prod.snd
  let reb := reb.foldl (fun l c => insertCand { c with vfinish := 0, home := 0 } l) []
  let fair := ((mine.map Prod.snd) ++ others).foldl (fun l c => insertCand c l) []
  let p0 : ListPlan := ⟨[], [], 0, s.shape.v0, s.shape.v1, [], 0, 0, 0⟩
  let p1 := [0, 1].foldl (fun p h =>
    let cs := reb.filter (fun c => c.half == h)
    let base := p.entries.length
    cs.foldl (fun p c => s.offer i false (base + rowsOfHalf i h * share / 100) p
      ((((s.bySid c.sid).map (fun x => s.candOf i.hdr x)).getD c))) p) p0
  fair.foldl (fun p c => s.offer i true 0 p c) p1

/-- Key/value tiles that a session may newly allocate up to and in the frame in which a list takes over, as it advances by its present rows in every frame
until then (R153; log entry 50). -/
def State.tilesUntil (s : State) (h : TrvHeader) (frames : Nat) (x : Session) : Nat :=
  newTiles x { s.candOf h x with nw := s.rowNew h x * frames }

/-- Sessions of a half that rows may advance until a list has taken over: those it names and those that the lists before it name. -/
def State.advancing (s : State) (p : ListPlan) (half : Nat) : List Session :=
  s.sessions.filter (fun x => x.half == half && (p.placed.any (fun q => q.1 == x.index) || x.state == .active || !x.named.isEmpty))

/-- New tiles of a plan's rows of sessions homed elsewhere, in the half whose tier holds them here (R153, R228): each as the running list advances it
until then, and in the list's first frame. -/
def State.farNeed (s : State) (i : TrvImage) (takeover : Nat) (p : ListPlan) (half : Nat) : List Nat :=
  (p.entries.filter (fun e => e.2.home != s.groupPos && !e.2.cont && indexHalf (sidIndex e.2.sid) == half)).map (fun e =>
    let n := if e.2.work == 0 then 1 else i.hdr.maxRowNew
    let frames := if s.trv.rowTab.any (fun r => r.entry.sid == e.2.sid && r.entry.home == e.2.home) then takeover + 1 - s.frame else 1
    s.farTiles i e.2.home e.2.sid e.2.ctxAtTakeover (n * frames))

/-- The free slots of the key/value tier of a half cover the new tiles of every frame up to the list's first (R126, R153). -/
def State.halfCovers (s : State) (i : TrvImage) (takeover : Nat) (p : ListPlan) (h : Nat) : Bool :=
  let need := (s.advancing p h).map (fun x =>
    s.tilesUntil i.hdr (if x.state == .active || !x.named.isEmpty then takeover + 1 - s.frame else 1) x) ++ s.farNeed i takeover p h
  decide (need.foldl (· + ·) 0 ≤ (if i.hdr.kvTier == 1 then s.t1Free h else 11 * s.t2Free h))

/-- They do in both halves. -/
def State.slotsCover (s : State) (i : TrvImage) (takeover : Nat) (p : ListPlan) : Bool :=
  s.halfCovers i takeover p 0 && s.halfCovers i takeover p 1

/-- Row entry of an empty row. -/
def emptyRow : RowEntry := ⟨0xFFFFFFFF, 0, 0, 0, false, 0, 0, 0⟩

/-- Number under which a traverse's lists name it: bits [63:0] of `group_identity`. -/
def trvIdOf (h : TrvHeader) : Nat := h.groupIdentity % 2 ^ 64

/-- Sessions that a list names on this tile. -/
def State.namedBy (s : State) (l : SlotList) : List Session :=
  ((l.rows.filter (fun r => r.sid != 0xFFFFFFFF && !r.cont && r.home == s.groupPos)).filterMap (fun r => s.bySid r.sid))

/-- Each session that a list names keeps its frame, so that it is not parked (R73). -/
def State.nameAll (s : State) (l : SlotList) : State :=
  (s.namedBy l).foldl (fun s x => s.modSess x.index (fun y => { y with named := y.named ++ [l.takeover] })) s

/-- A list's frame leaves the sessions it names. -/
def State.unnameAll (s : State) (l : SlotList) : State :=
  (s.namedBy l).foldl (fun s x => s.modSess x.index (fun y => { y with named := y.named.erase l.takeover })) s

/-- A pending list is withdrawn (R144, R156, R390): its sessions stay QUEUED with the tags of before. -/
def State.withdraw (s : State) (p : PendingList) : State :=
  let s := { s with trv := { s.trv with lists := s.trv.lists.erase p }, shape := { s.shape with v0 := p.v0, v1 := p.v1 } }
  let s := p.tags.foldl (fun s q => s.modSess q.1 (fun y => { y with vfinish := q.2 })) s
  s.unnameAll p.list

/-- QUEUED sessions whose output rings lack room for a step set RING_HOLD and are not assigned rows (R46, R56, R305). -/
def State.holdRings (s : State) (h : TrvHeader) : State :=
  (s.sessions.filter (fun x => x.state == .queued && !x.ringHold && x.tokenized && s.modelReady h x && !s.ringFits h x)).foldl (fun s x =>
    ((s.modSess x.index (fun y => { y with ringHold := true, ringMask := s.frame + 1 })).bump Ob.cnt_ring_hold x.half).bump Ob.stn_cnt_ring_hold x.station) s

/-- Sessions placed in a list, with their tags after: gates advance, bindings begin and the tags move on (R365, R388). -/
def State.claimRows (s : State) (placed : List (Nat × Nat)) : State :=
  placed.foldl (fun s q => s.modSess q.1 (fun x =>
    let y := if x.state != .active && x.rebuild.isNone then s.gateAdvance x else x
    { y with vfinish := q.2, bindings := if x.rebuild.isNone then
        y.bindings.map (fun b => if b.flags % 4 == 1 then { b with since := some 0 } else b) else y.bindings })) s

/-- This member's sessions in the master's list, with their tags after (R388, R390); the rebuild share of R427 moves no tag. -/
def State.placedBy (s : State) (l : SlotList) : List (Nat × Nat) :=
  (l.rows.filter (fun r => r.sid != 0xFFFFFFFF && !r.cont && r.home == s.groupPos)).filterMap (fun r =>
    (s.bySid r.sid).map (fun x =>
      let w := max 1 (s.obj Ob.tn_weight x.tenant)
      (x.index, if x.rebuilding && decide (0 < s.obj Ob.rebuild_row_share 0) then x.vfinish else x.vfinish + (2 ^ 24 * r.span + w - 1) / w)))

/-- Issue a slot list for a frame (R153, R155, R156, R365, R387). -/
def State.issueList (s : State) (takeover : Nat) (others : List RowCand) : State :=
  match s.imageFor takeover with
  | none => s
  | some i =>
    let absent := s.sessions.filter (fun x => x.wantsRows && !s.modelReady i.hdr x)
    let s := absent.foldl (fun s x => { s with ses := { s.ses with modelAbsent := lbump s.ses.modelAbsent x.half } }) s
    let s := s.holdRings i.hdr
    let p := s.buildList i takeover others
    let s := ((s.addObj Ob.cnt_span_refused 0 p.spanRefused).addObj Ob.cnt_step_deferred 0 p.late0).addObj Ob.cnt_step_deferred 1 p.late1
    if !s.slotsCover i takeover p then
      [0, 1].foldl (fun s h =>
        if s.tier.exhausted.getD h 0 == s.frame + 1 || s.halfCovers i takeover p h then s
        else
          ({ s with tier := { s.tier with exhausted := lset s.tier.exhausted h (s.frame + 1) } } : State).bump Ob.cnt_t1_exhausted h) s
    else
      let rows := (List.range i.hdr.rows).map (fun r => ((p.entries.find? (fun e => e.1 == r)).map Prod.snd).getD emptyRow)
      let l : SlotList := ⟨s.trv.listSeq, takeover, s.frame, trvIdOf i.hdr, i.hdr.position, rows⟩
      let tags := p.placed.filterMap (fun q => (s.sess q.1).map (fun x => (q.1, x.vfinish)))
      let pl : PendingList := ⟨l, true, false, tags, s.shape.v0, s.shape.v1⟩
      let s := { s with trv := { s.trv with lists := s.trv.lists ++ [pl], listSeq := s.trv.listSeq + 1 }
                        shape := { s.shape with v0 := p.v0, v1 := p.v1 } }
      let s := s.claimRows p.placed
      if imageGrouped i then (s.nameAll l).lockSend (.slotList (listOctets l)) else s.nameAll l

end Sys2Proof.Machine
end

