-- ==== Sys2Proof/Machine/Traverses.lean ====
section
/-! DEFINITION. The traverse, slot-list, hold, datum and fence rows (chapters 4 and 5). -/

namespace Sys2Proof.Machine

/-! ### Traverse slots (R141-R144) -/

/-- State of a traverse slot: 0 EMPTY, 1 LOADING, 2 LOADED, 3 ACTIVE, 4 REFUSED. -/
def State.trvState (s : State) (t : Nat) : Nat := s.obj Ob.trv_state t

/-- TRV_LOAD (R141, R143): RAW tiles of T2 are taken for the image; the copy and the checks end with TRV_LOAD_DONE. -/
def execTrvLoad (w : Writer) (tt : Nat) (s : State) : Out :=
  .next (s.command w Ob.trv_command tt [1] (some Ob.trv_status) (fun s =>
    if s.trvState tt == 1 || s.trvState tt == 3 then (s, St.TRAVERSE_BUSY)
    else
      let s := s.freeAll (s.trvSlot tt).tiles
      let (s, l) := s.allocRaw 9 (0xFFFF0000 + tt) (ofLE (Sys2Proof.Machine.slice (s.str Ob.trv_source tt) 8 4)) []
      ((s.setTrvSlot tt { trvEmpty with tiles := l }).setObj Ob.trv_state tt 1, St.OK)))

/-- TRV_LOAD_DONE (R141, Table 4-4): the image's octets stand in the slot's RAW tiles and are checked there: LOADED with the identity, or REFUSED with
the status of the first check that fails. `img`: what the source gave, none where it could not be read. A REFUSED image keeps its tiles until the next
LOAD or UNLOAD (log entry 157); the status of a source that cannot be read is the model's choice (DESIGN CHOICE, log entry 145). -/
def execTrvLoadDone (tt : Nat) (img : Option Octets) (s : State) : Out :=
  .next (if s.trvState tt != 1 then s
    else match img with
      | none => (s.setObj Ob.trv_status tt St.TRAVERSE_CORRUPT).setObj Ob.trv_state tt 4
      | some o =>
        let l := (s.trvSlot tt).tiles
        let s := s.fillRaw l o
        let o := s.rawOctets l
        let st := s.trvCheck tt o
        let s := s.setObj Ob.trv_status tt st
        if st = St.OK then
          ((s.setTrvSlot tt { s.trvSlot tt with image := some (parseTrv o) }).setObj Ob.trv_state tt 2).setStr Ob.trv_identity tt
            (toLE 32 (parseTrvHeader o).groupIdentity)
        else s.setObj Ob.trv_state tt 4)

/-- ACTIVATE (R143-R145, R248, R326, R544): the takeover is scheduled, lists of the outgoing traverse from its frame on are withdrawn, and
the identity is measured. `held`: every member of the group holds the identity LOADED. The group agrees the frame as it agrees a slot list. -/
def execActivate (w : Writer) (tt : Nat) (held : Bool) (s : State) : Out :=
  .next (s.commandNow w Ob.trv_command tt [2] Ob.trv_status (fun s =>
    let f := s.obj Ob.trv_activate_frame tt
    if s.trvState tt == 3 then (s, St.TRAVERSE_BUSY)
    else if s.trvState tt != 2 then (s, St.TRAVERSE_NOT_LOADED)
    else match (s.trvSlot tt).image with
      | none => (s, St.TRAVERSE_NOT_LOADED)
      | some i =>
        if f < s.frame + 4 then (s, St.TRAVERSE_ACTIVATE_LATE)
        else if !searchShareOk i (s.obj Ob.search_trv_share 0) || !s.bindsOk i then (s, St.TRAVERSE_RANGE)
        else if imageGrouped i && !held then (s, St.TRAVERSE_GROUP_MISMATCH)
        else
          let s := (s.trv.slots.map Prod.fst).foldl (fun s k => s.setTrvSlot k { s.trvSlot k with activateAt := none, agreed := false }) s
          let s := s.setTrvSlot tt { s.trvSlot tt with activateAt := some f, agreed := !imageGrouped i }
          let s := (s.trv.lists.filter (fun p => decide (f ≤ p.list.takeover) && p.list.trvId != trvIdOf i.hdr)).foldl State.withdraw s
          let s := s.measure St.OK 4 (writerSource w) tt (toLE 32 i.hdr.groupIdentity)
          (if imageGrouped i then s.lockSend (.activation f) else s, St.OK)))

/-- UNLOAD (R143). -/
def execUnload (w : Writer) (tt : Nat) (s : State) : Out :=
  .next (s.commandNow w Ob.trv_command tt [3] Ob.trv_status (fun s =>
    if s.trvState tt == 1 || s.trvState tt == 3 then (s, St.TRAVERSE_BUSY)
    else
      let s := s.freeAll (s.trvSlot tt).tiles
      let s := { s with trv := { s.trv with active := if s.trv.active == some tt then none else s.trv.active } }
      (((s.setTrvSlot tt trvEmpty).setObj Ob.trv_state tt 0).setStr Ob.trv_identity tt (List.replicate 32 0), St.OK)))

/-! ### Slot lists (R153-R157) -/

/-- A list for this frame is pending. -/
def State.hasList (s : State) (f : Nat) : Bool := s.trv.lists.any (fun p => p.list.takeover == f)

/-- SLOT_LIST_ISSUE: the master issues a list at or before the start of the frame four before its takeover, acknowledging it itself. -/
def execSlotListIssue (takeover : Nat) (others : List RowCand) (s : State) : Out :=
  .next (match s.imageFor takeover with
    | none => s
    | some i => if s.masters i && s.listTimely takeover && !s.hasList takeover then s.issueList takeover others else s)

/-- Range of a received list: one entry per row, bucket and span in range, continuation rows after their lead row. -/
def listInRange (l : SlotList) (h : TrvHeader) : Bool :=
  l.rows.length == h.rows
  && l.rows.all (fun r => decide (r.work < 3) && decide (r.bucket < h.buckets)
      && (r.sid == 0xFFFFFFFF || (if r.cont then r.span == 0 && decide (0 < r.part) else decide (1 ≤ r.span ∧ r.span ≤ 255) && r.part == 0)))

/-- SLOT_LIST_RECEIVE: a member checks a list's CRC and range, sets up its rows and acknowledges it; a late list or one of a traverse that is neither
active nor activating is not acknowledged (R155, R156). -/
def execSlotListReceive (o : Octets) (s : State) : Out :=
  .next (match parseSlotList o with
    | none => s
    | some l =>
      match s.imageFor l.takeover with
      | none => s
      | some i =>
        if s.listTimely l.takeover && l.trvId == trvIdOf i.hdr && listInRange l i.hdr && !s.hasList l.takeover && imageGrouped i
            && !s.masters i then
          let placed := s.placedBy l
          let tags := placed.filterMap (fun q => (s.sess q.1).map (fun x => (q.1, x.vfinish)))
          let pl : PendingList := ⟨l, true, false, tags, s.shape.v0, s.shape.v1⟩
          let s := { s with trv := { s.trv with lists := s.trv.lists ++ [pl] } }.claimRows placed
          (s.nameAll l).lockSend (.listAck l.takeover)
        else s)

/-- Agree, or withdraw, the activation of a frame (R144, R156). -/
def State.decideActivation (s : State) (f : Nat) (go : Bool) : State :=
  match s.trv.slots.find? (fun p => p.2.activateAt == some f && !p.2.agreed) with
  | none => s
  | some (t, x) => s.setTrvSlot t (if go then { x with agreed := true } else { x with activateAt := none })

/-- Agree, or withdraw, the list of a frame. -/
def State.decideList (s : State) (f : Nat) (go : Bool) : State :=
  match s.trv.lists.find? (fun p => p.list.takeover == f && !p.committed) with
  | none => s
  | some p =>
    if p.acked && go then
      { s with trv := { s.trv with lists := s.trv.lists.map (fun q => if q == p then { q with committed := true } else q) } }
    else (s.withdraw p).bump Ob.cnt_slot_withdrawn 0

/-- V of each half as the master's COMMIT carries it (R390). -/
def State.takeV (s : State) (v : Option (Nat × Nat)) : State :=
  match v with
  | none => s
  | some p => { s with shape := { s.shape with v0 := p.1, v1 := p.2 } }

/-- SLOT_LIST_DECISION, from the decision tick on: COMMIT of a frame's list and activation when every present member has acknowledged, else WITHDRAW (R390: the COMMIT carries V, `v` at a member).
`others`: the other members have, or, at a member, the master's COMMIT arrived; a traverse of one device needs only its own acknowledgement. -/
def execSlotListDecision (takeover : Nat) (others : Bool) (v : Option (Nat × Nat)) (s : State) : Out :=
  .next (match s.imageFor takeover with
    | none => s
    | some i =>
      if !s.decisionDue i takeover then s
      else
        let go := others || !imageGrouped i
        let due : Bool := s.trv.lists.any (fun p => p.list.takeover == takeover && !p.committed)
          || s.trv.slots.any (fun p => p.2.activateAt == some takeover && !p.2.agreed)
        let s := if due && imageGrouped i && s.masters i then s.lockSend (.decision takeover go s.shape.v0 s.shape.v1) else s
        let s := if due && go && imageGrouped i && !s.masters i then s.takeV v else s
        (s.decideList takeover go).decideActivation takeover go)

/-! ### Group-wide holds (R162-R167) -/

/-- Causes of Table 4-9. -/
def holdLateMove : Nat := 1
def holdCopyFirst : Nat := 2
def holdWake : Nat := 3
def holdReplay : Nat := 4
def holdSearch : Nat := 5

/-- The wait point is met: its search's result is there, its group object holds what its WAIT asks for (R359), or its descriptor has completed. -/
def State.pointMet (s : State) (p : WaitPoint) : Bool :=
  if p.search then s.trv.found.contains p.tag
  else if p.queue == 0xFF then waitOutcome (s.syncObj p.tag) p.cond p.operand == some 0
  else s.trv.met.contains (p.queue, p.tag)

/-- Cause of an unmet wait point (R162, R163, R359). -/
def pointCause (p : WaitPoint) : Nat := if p.search then holdSearch else if p.queue == 0xFF then holdReplay else holdLateMove

/-- A cluster that the traverse uses wakes, or waits for its wake (R163). -/
def State.wakeLate (s : State) (h : TrvHeader) : Bool :=
  (s.pwr.waking.map Prod.fst ++ s.pwr.deferred.map Prod.fst).any (hdrUses h)

/-- HOLD_WINDOW_END: at the end of a window, its wait points that are unmet request a hold for their estimated remaining ticks (queue, tag, ticks), at
least 1, those of earlier windows too where a hold has ended since; so do copy-first copies beyond the allowance, a cluster that wakes late and a replay
on a fabric link, whose remaining ticks the other operands give. -/
def execHoldWindowEnd (ests : List (Nat × Nat × Nat)) (copies wake replay : Nat) (s : State) : Out :=
  .next (match s.activeImage, s.runningHdr with
    | some i, some h =>
      let e := s.schedTick
      if e == 0 || e % max 1 h.holdWindow != 0 || s.trv.held.isSome || (mget s.trv.requests e).isSome then s
      else
        let pos := s.groupPos
        let unmet := i.waits.filter (fun p => decide (p.decisionTick < e) && (s.trv.again || decide (e ≤ p.decisionTick + h.holdWindow))
          && !s.pointMet p)
        let est (p : WaitPoint) : Nat := ((ests.find? (fun e => e.1 == p.queue && e.2.1 == p.tag)).map (fun e => e.2.2)).getD 0
        let late := unmet.map (fun p => (⟨pos, max 1 (est p), pointCause p, if pointCause p == holdLateMove then p.queue else 0xFF,
          if pointCause p == holdLateMove then p.tag else 0⟩ : HoldRequest))
        let side (b : Bool) (n c : Nat) : List HoldRequest := if b && decide (0 < n) then [⟨pos, n, c, 0xFF, 0⟩] else []
        let all := late ++ side (decide (h.cowAllowance < s.trv.copies)) copies holdCopyFirst ++ side (s.wakeLate h) wake holdWake
          ++ side s.grouped replay holdReplay
        let s := { s with trv := { s.trv with requests := mput s.trv.requests e all, again := false } }
        if s.isMaster then s else all.foldl (fun s r => s.lockSend (.holdRequest r)) s
    | _, _ => s)

/-- The request that names a hold: the largest, at the lowest position among equals (R165), and among equals of one member the first (log entry 158). -/
def topRequest : List HoldRequest → Option HoldRequest
  | [] => none
  | r :: l =>
    match topRequest l with
    | none => some r
    | some t => if r.ticks < t.ticks || (r.ticks == t.ticks && decide (t.position < r.position)) then some t else some r

/-- HOLD_REQUEST: one hold is decided for the window that ended at a schedule tick, from this tile's requests and the other members', at most 25,000
ticks, from `hold_lead` ticks after the window's end. The benchmark device decides and broadcasts it; on another member it is the broadcast, and
`others` are the requests that it was decided from. -/
def execHoldRequest (windowEnd : Nat) (others : List HoldRequest) (s : State) : Out :=
  .next (match s.runningHdr with
    | none => s
    | some h =>
      let all := if s.isMaster then (mget s.trv.requests windowEnd).getD [] ++ others else others
      match topRequest all with
      | none => s
      | some r =>
        if windowEnd % max 1 h.holdWindow != 0 || s.trv.decided.contains windowEnd || decide (windowEnd + h.holdLead < s.schedTick) then s
        else
          let n := ((all.map (fun q => q.position)).eraseDups).length
          let p : HoldPlan := ⟨windowEnd + h.holdLead, min 25000 r.ticks, r.cause, min 255 n, r.position, r.queue, r.tag⟩
          let s := { s with trv := { s.trv with decided := s.trv.decided ++ [windowEnd], plans := s.trv.plans ++ [p] } }
          if s.grouped && s.isMaster then s.lockSend (.hold p) else s)

/-- A hold log entry; a full log of 1,024 loses its oldest and reports LOG_OVERFLOW (R172, R435). -/
def State.logHold (s : State) (e : HoldEntry) : State :=
  let full := decide (1024 ≤ s.trv.holdLog.length)
  let s := { s with trv := { s.trv with holdLog := keepLast 1024 (s.trv.holdLog ++ [e]) } }
  if full then s.report 0x287 clsLogOverflow 0x481 else s

/-- HOLD_START: at schedule tick s every core stops issue, and the hold is logged. -/
def execHoldStart (s : State) : Out :=
  .next (match s.trv.plans with
    | [] => s
    | p :: rest =>
      if s.trv.held.isNone && decide (p.sched ≤ s.schedTick) then
        let e : HoldEntry := ⟨s.frame, s.tick, s.schedTick, p.length, p.cause, p.requesters, p.position, p.queue, p.tag⟩
        let s := { s with trv := { s.trv with plans := rest, held := some (s.tick, p.length) } }
        let s := (s.logHold e).bump Ob.cnt_holds 0
        if p.cause == 3 then s.pulse 3 else s
      else s)

/-- HOLD_END: after the hold's length in datum ticks, issue resumes. -/
def execHoldEnd (s : State) : Out :=
  .next (match s.trv.held with
    | none => s
    | some (t, n) =>
      if t + n ≤ s.tick then
        ({ s with trv := { s.trv with held := none, heldTicks := s.trv.heldTicks + n, again := true } } : State).addObj Ob.cnt_held_ticks 0 n
      else s)

/-! ### Fault notices and the datum (R148, R149, R168) -/

/-- FAULT_NOTICE of another member: its detection tick voids the same frame here, and its frame length counts for the group; the length of a member that
no image covers stops the traverse at the boundary (R168, R170, R171). -/
def execFaultNotice (position tick len : Nat) (s : State) : Out :=
  .next (if s.grouped && position != s.groupPos then
      let s := s.voidFrame tick
      if len == noLength then { s with trv := { s.trv with stopDue := true } }
      else { s with trv := { s.trv with groupLen := max s.trv.groupLen len } }
    else s)

/-- Datum states of Table 4-6. -/
def State.datumState (s : State) : Nat := s.obj Ob.datum_state 0

/-- Enter a datum state. -/
def State.setDatum (s : State) (v : Nat) : State :=
  ({ s with trv := { s.trv with datumSince := s.tick } } : State).setObj Ob.datum_state 0 v

/-- Benchmark device of the group that this tile joins: of a multi-device traverse it holds, else of its first slice (R146, R147). -/
def State.joinBenchmark (s : State) : Option Nat :=
  match s.benchmarksHeld 4 with
  | b :: _ => some b
  | [] => (s.assigns.filterMap (fun a => s.sliceRow a.slice)).head?.map (fun x => x.benchmark)

/-- The datum counter takes a value: idle frames follow the counter (R145), a slice whose traverse has stopped counting idle frames from now on (DESIGN
CHOICE, log entry 197), and a traverse of one device keeps its place in its frame (R147). -/
def State.setDatumTick (s : State) (t : Nat) : State :=
  if s.runningHdr.isNone then { s with tick := t, frame := t / 25000, frameStart := t / 25000 * 25000 }
  else
    { s with tick := t, frameStart := t - (s.tick - s.frameStart),
             trv := { s.trv with held := s.trv.held.map (fun p => (t - (s.tick - p.1), p.2)) } }

/-- DATUM_LOCK (R148): a SLICE_MEMBER that joins a group sets its counter to the benchmark device's value plus the fixed latency that its up-port measured
in cycles, and, over several hops, that of the links beyond it. The up-port is that of the shortest path. -/
def execDatumLock (counter beyond : Nat) (s : State) : Out :=
  .next (if s.obj Ob.composition 0 == 1 && s.datumState == 0 then
      match s.joinBenchmark.bind s.route with
      | none => s
      | some p =>
        let t := (counter + (s.obj Ob.port_latency_cc p + beyond) / 60) % 2 ^ 64
        ((s.setDatumTick t).setDatum 1).setObj Ob.up_port 0 p
    else s)

/-- DATUM_LOCKED: 10,000 consecutive ticks within 5 ns. -/
def execDatumLocked (err : Int) (s : State) : Out :=
  .next (if s.datumState == 1 && decide (s.trv.datumSince + 10000 ≤ s.tick) && decide (-5000 ≤ err ∧ err ≤ 5000) then
      (s.setDatum 2).setObj Ob.datum_edge_err 0 (twos 32 err)
    else s)

/-- DATUM_LOCK_FAIL: 10 ms without that. -/
def execDatumLockFail (s : State) : Out :=
  .next (if s.datumState == 1 && decide (s.trv.datumSince + 250000 ≤ s.tick) then
      (s.setDatum 0).tileEvent Ev.DATUM_LOCK_FAIL 0 0
    else s)

/-- DATUM_HOLDOVER: the up-port's signal is lost, or the edge error is above 10 ns; the up-port moves to the next shortest path, none where no other is
left. -/
def execDatumHoldover (signalLost : Bool) (err : Int) (s : State) : Out :=
  .next (if s.datumState == 2 && (signalLost || decide (err < -10000 ∨ 10000 < err)) then
      let up := s.obj Ob.up_port 0
      let next := (s.joinBenchmark.bind (fun b => s.routeBut up b)).getD 0xFF
      (((s.setDatum 3).setObj Ob.datum_edge_err 0 (twos 32 err)).setObj Ob.up_port 0 next).bump Ob.cnt_datum_holdover 0
    else s)

/-- HOLDOVER_RELOCK: within 30 µs. -/
def execHoldoverRelock (err : Int) (s : State) : Out :=
  .next (if s.datumState == 3 && decide (s.tick ≤ s.trv.datumSince + 750) then
      (s.setDatum 2).setObj Ob.datum_edge_err 0 (twos 32 err)
    else s)

/-- Every cluster of the running traverse's mask sleeps (R553). -/
def State.allAsleep (s : State) : Bool :=
  match s.runningHdr with
  | none => false
  | some h => (List.range 512).all (fun n => !hdrUses h n || s.asleep n)

/-! ### Faults and fences (R204-R207) -/

/-- SCRUB (R204): a pass over every store; `found` are the errors it meets: core, in its cluster's store, uncorrectable. -/
def execScrub (found : List (Nat × Bool × Bool)) (s : State) : Out :=
  let s := { s with core := { s.core with scrubbed := s.schedTick } }
  .next (found.foldl (fun s e => s.detect e.1 e.2.1 (if e.2.2 then .sramUe else .sramCe)) s)

/-- CORE_FAULT_DETECT (R205). -/
def execCoreFaultDetect (core : Nat) (inCluster : Bool) (f : CoreFault) (s : State) : Out :=
  .next (if core < 4096 then s.detect core inCluster f else s)

/-- FENCE_CORE (R207): a detection with cause COMMANDED; the fence takes effect at once. -/
def execFenceCore (w : Writer) (core : Nat) (s : State) : Out :=
  .next (s.commandNow w Ob.fence_command 0 (toLE 4 (core % 4096 + 0x1000)) Ob.fence_status (fun s =>
    ((((s.voidFrame s.tick).bump Ob.cnt_core_fault 0).fenceCore (core % 4096) Cause.COMMANDED).noticeFault, St.OK)))

/-- FENCE_CLUSTER (R207). -/
def execFenceCluster (w : Writer) (core : Nat) (s : State) : Out :=
  .next (s.commandNow w Ob.fence_command 0 (toLE 4 (core % 4096 + 0x2000)) Ob.fence_status (fun s =>
    ((((s.voidFrame s.tick).bump Ob.cnt_core_fault 0).fenceCluster (core % 4096 / 8) Cause.COMMANDED).noticeFault, St.OK)))

/-- CLEAR_CLUSTER (R207): reset and self-test of a cluster that no ACTIVE traverse uses. Of one with nothing fenced it does nothing (DESIGN CHOICE, log
entry 196). -/
def execClearCluster (w : Writer) (core : Nat) (s : State) : Out :=
  .next (s.commandNow w Ob.fence_command 0 (toLE 4 (core % 4096 + 0x3000)) Ob.fence_status (fun s =>
    let n := core % 4096 / 8
    if (s.activeRun.any (fun h => hdrUses h n)) then (s, St.FENCE_BUSY)
    else if s.clusterFenced n || decide (0 < s.fencedCores n) then
      let s := s.clusterCleared n
      ({ s with core := { s.core with testing := (s.core.testing ++ [n]).eraseDups } }, St.OK)
    else (s, St.OK)))

/-- CLUSTER_SELF_TEST_DONE (R205, R207): a cluster that passes is unfenced, its cores joining again at the next activation; one that fails is a
detection, and stays fenced, with cause BIST. -/
def execClusterSelfTestDone (cluster : Nat) (pass : Bool) (s : State) : Out :=
  .next (if s.core.testing.contains cluster && !s.asleep cluster then
      let s := { s with core := { s.core with testing := s.core.testing.erase cluster } }
      if pass then
        let cores := (List.range 8).map (fun k => 8 * cluster + k)
        let n := s.fencedCores cluster
        let s := if s.clusterFenced cluster then s.setObj Ob.cnt_clusters_fenced 0 (s.obj Ob.cnt_clusters_fenced 0 - 1) else s
        let s := s.setObj Ob.cnt_cores_fenced 0 (s.obj Ob.cnt_cores_fenced 0 - n)
        let s := s.setStr Ob.cluster_fence_map 0 (mapSet (s.str Ob.cluster_fence_map 0) cluster false)
        let s := cores.foldl (fun s k => s.setStr Ob.core_fence_map 0 (mapSet (s.str Ob.core_fence_map 0) k false)) s
        { s with core := { s.core with rejoining := (s.core.rejoining ++ cores).eraseDups } }
      else
        let s := s.detected cluster Cause.BIST
        if s.clusterFenced cluster then
          ((s.tileEvent Ev.CLUSTER_FENCED cluster Cause.BIST).report cluster clsPartFailed Cause.BIST).noticeFault
        else (s.fenceCluster cluster Cause.BIST).noticeFault
    else s)

end Sys2Proof.Machine
end

