-- ==== Sys2Proof/Machine/Models.lean ====
section
/-! DEFINITION. The key/value path and the model slots (chapter 6): block allocation, the append and gather units, cleanup, and loading a
model. -/

namespace Sys2Proof.Machine

/-! ### Rows of the frame (R158, R229) -/

/-- `row_live` of R158. -/
def rowLive (r : RowNow) : Bool := r.entry.sid != 0xFFFFFFFF && !r.masked

/-- Blocks one row covers: `max_row_positions` ÷ 32. -/
def partBlocks (h : TrvHeader) : Nat := h.maxRowPositions / 32

/-- `block_live` of R158. -/
def blockLive (h : TrvHeader) (r : RowNow) (b : Nat) : Bool :=
  let lo := r.entry.part * partBlocks h
  decide (b * 32 < r.ctx + r.nw ∧ lo ≤ b ∧ b < lo + partBlocks h)

/-- Layer l of a model slot is windowed. -/
def State.windowed (s : State) (m l : Nat) : Bool :=
  s.obj Ob.mdl_window m != 0 && mapBit (s.str Ob.mdl_window_layers m) l

/-- `block_loaded` of R229. -/
def State.blockLoaded (s : State) (h : TrvHeader) (r : RowNow) (m b l : Nat) : Bool :=
  rowLive r && decide (0 < r.nw) && decide (b * 32 ≤ r.ctx + r.nw - 1)
  && !(s.windowed m l && decide (b * 32 + 31 + s.obj Ob.mdl_window m ≤ r.ctx))
  && blockLive h r b

/-- `block_gathered` of R229. -/
def State.blockGathered (s : State) (h : TrvHeader) (r : RowNow) (m b l : Nat) : Bool :=
  s.blockLoaded h r m b l && decide (b * 32 < r.ctx)

/-- Session of a row: this tile's own, or what it keeps of another member's (R228). -/
def State.rowSess (s : State) (e : RowEntry) : Option Session :=
  if e.home == s.groupPos then s.bySid e.sid else s.sess (farIndex e.home e.sid)

/-! ### Allocation and cleanup (R219, R221, R222) -/

/-- Tiles of a block that hold no page are allocated, in the key/value tier: again where they were lost or evicted (R86, R89), `fresh` where they count as
new ones (R219). -/
def State.allocMissing (s : State) (i b : Nat) (fresh : Bool) : State :=
  match s.sess i with
  | none => s
  | some x0 =>
    ((blockKeys x0.pt.layers x0.pt.groups b).filter (fun q => (x0.pt.at q).primary == noTile)).foldl (fun s q =>
      match s.sess i with
      | none => s
      | some x =>
        let t : Tile := { freeTile with kind := 1, elem := s.obj Ob.mdl_kv_format x.model, owner := x.sid, layer := ptLayer q,
                                        group := ptGroup q, kv := ptKv q, locator := 32 * b, sharedRo := x.isPrefix }
        match s.allocKv x s.kvTier q t with
        | none => s
        | some (a, s) =>
          s.setSess { (x.tierCount a true) with
            tilesTotal := if fresh then x.tilesTotal + 1 else x.tilesTotal, pt := x.pt.put q ⟨a, if s.kvTier == 2 then a else noTile⟩ }) s

/-- Allocate every block that positions below `e` need beyond `pt_blocks` (R219), and what was lost of allocated blocks that hold no position yet. -/
def State.allocTo (s : State) (i e : Nat) : State :=
  match s.sess i with
  | none => s
  | some x =>
    let first := x.pt.blocks
    let w := x.writtenBlocks
    let s := (List.range (first - w)).foldl (fun s k => s.allocMissing i (w + k) true) s
    let s := (List.range (ceilDiv e 32 - first)).foldl (fun s k => (s.allocBlock i s.kvTier (first + k)).1) s
    s.growPt i

/-- Blocks of a rebuild that hold no page are allocated again, in the key/value tier (R86, R89). -/
def State.allocRebuild (s : State) (i lo hi : Nat) : State :=
  (List.range (hi + 1 - lo)).foldl (fun s k => s.allocMissing i (lo + k) false) s

/-- Zero the payload and scale rows of one tile from a row up, and set `valid` (R221). -/
def Tile.cutRows (t : Tile) (n : Nat) : Tile :=
  { t with valid := n, payload := t.payload.filter (fun p => decide (p.1 < 128 * n)), scales := t.scales.filter (fun p => decide (p.1 < 4 * n)) }

/-- A block is freed: its tiles and its entries. -/
def State.freeBlock (s : State) (i b : Nat) : State :=
  match s.sess i with
  | none => s
  | some x =>
    let s := (blockKeys x.pt.layers x.pt.groups b).foldl (fun s k => s.freeKv i k) s
    s.bump Ob.cnt_kv_blocks_returned x.half

/-- Boundary cleanup of R221: `pt_kv_written` becomes `kept`, the rows of the positions written beyond it are cleared, the tail tiles take their `valid`, and
blocks that keep no position go. A position has a row in every tile of its block. -/
def State.kvCleanup (s : State) (i kept written : Nat) : State :=
  match s.sess i with
  | none => s
  | some x =>
    let blocks := max (ceilDiv kept 32) x.pt.sharedBlocks
    let s := (List.range (x.pt.blocks - blocks)).foldl (fun s k => s.freeBlock i (blocks + k)) s
    let s := s.modSess i (fun x => { x with pt := { x.pt with kvWritten := kept, blocks := min x.pt.blocks blocks } })
    let s := s.addObj Ob.cnt_kv_cleanup_rows x.half ((written - kept) * (2 * x.pt.layers * x.pt.groups))
    let b := (kept - 1) / 32
    let s := match s.sess i with
      | none => s
      | some x =>
        if kept == 0 || b < x.pt.sharedBlocks || x.pt.blocks ≤ b then s
        else
          (blockKeys x.pt.layers x.pt.groups b).foldl (fun s k =>
            let a := (x.pt.at k).primary
            let t := s.tileAt a
            if a == noTile || t.cutRows (kept - 32 * b) == t then s else (s.touchTile a).writeTile a (t.cutRows (kept - 32 * b))) s
    s.syncPt i

/-! ### The append unit (R223-R227) -/

/-- Octets of 128 values converted to the model's format: 128 element octets and 4 scale octets. -/
def kvConvert (fmt : Nat) (v : List Lane) : Octets × Octets :=
  let blocks := (List.range 4).map (fun j => mxEncode fmt ((v.drop (32 * j)).take 32))
  (blocks.flatMap (fun b => b.2.map (BitVec.ofNat 8)), blocks.map (fun b => BitVec.ofNat 8 b.1))

/-- One new position of an append entry (R224-R226): convert, check the owner, write the tile row, echo; where the owner is another, nothing is written. -/
def State.appendOne (s : State) (cluster : Nat) (e : AppendRec) (r : RowNow) (x : Session) (i : Nat) : State :=
  let p := r.ctx + i
  let src := e.src * 128 + 512 * (i - e.first)
  let store := s.clusterStore cluster
  let vals := (List.range 128).map (fun j => (BitVec.ofNat 32 (ofLE (bgets store (src + 4 * j) 4)) : Lane))
  let (el, sc) := kvConvert (s.obj Ob.mdl_kv_format x.model) vals
  let a := (x.pt.at (ptKey (p / 32) e.layer e.group e.kv)).primary
  let t := s.tileAt a
  if a == noTile || t.owner != x.sid then s.bump Ob.cnt_owner_tag_drop x.half
  else
    let s :=
      let t' : Tile := { t with payload := bputs t.payload (p % 32 * 128) el, scales := bputs t.scales (p % 32 * 4) sc
                                valid := max t.valid (p % 32 + 1), writer := ((s.activeHdr.map trvIdOf).getD 0) % 2 ^ 32 }
      let s := s.dropShadow x.index (p / 32)
      let s := if s.pendingSnap a then { s with trv := { s.trv with copies := s.trv.copies + 1 } } else s
      (s.writeTile a t').bump Ob.cnt_kv_appends x.half
    if e.echo then s.setClusterStore cluster (bputs (s.clusterStore cluster) src (el ++ sc)) else s

/-- APPEND_ENTRY (R223-R226): entry `n` of the append table of a cluster's image, from its cycle on; the unit works the table in order, each entry once a
frame. -/
def execAppendEntry (cluster n : Nat) (s : State) : Out :=
  .next (match s.runningHdr, s.activeImage.bind (fun i => (s.tablesOf i cluster).appends[n]?) with
    | some _, some e =>
      if cluster < 512 && !s.clusterFenced cluster && !s.asleep cluster && decide (e.cycle < 60 * (s.schedTick + 1))
          && decide ((mget s.trv.appended cluster).getD 0 ≤ n) then
        let s : State := { s with trv := { s.trv with appended := mput s.trv.appended cluster (n + 1) } }
        match s.rowNow e.row with
        | none => s
        | some r =>
          if !rowLive r then s
          else match s.rowSess r.entry with
            | none => s
            | some _ =>
              let s := s.clusterAdvance cluster e.cycle
              (List.range e.count).foldl (fun s k =>
                let i := e.first + k
                match s.rowSess r.entry with
                | none => s.bump Ob.cnt_owner_tag_drop 0
                | some x => if i < r.nw then s.appendOne cluster e r x i else s) s
      else s
    | _, _ => s)

/-! ### The gather unit (R233-R235) -/

/-- Blocks of a chunk that a row gathers in a layer, ascending (R234, R236). -/
def State.chunkBlocks (s : State) (i : TrvImage) (r : RowNow) (m l chunk : Nat) : List Nat :=
  let c := ((i.binds.find? (fun b => b.slot == m)).map (fun b => b.attnChunkBlocks)).getD 1
  let lo := r.entry.part * partBlocks i.hdr + chunk * c
  ((List.range c).map (· + lo)).filter (fun b => s.blockGathered i.hdr r m b l)

/-- One tile of a gather record, by block, K or V and slot: a class 0 COPY of one tile, or a fault where the row has no such tile (R233, R235). -/
def State.gatherTile (s : State) (g : GatherRec) (row x : Nat) (job : Nat × Nat × Nat) (r : TileRead) : State :=
  match s.sess x with
  | none => s
  | some x =>
    let key := ptKey job.1 g.layer g.group job.2.1
    let (a, owner) := s.ptLookup x job.1 g.layer g.group job.2.1
    if a == noTile then s.gatherFault x job.1
    else s.runJob x.half g.queue (gatherDesc a job.2.2 owner g.tag) (some (.kv x.index key row)) [r]

/-- GATHER_RECORD (R233-R235): record `n` of the running traverse, once a frame at its issue tick; `reads` answer its tiles in order. A block that the
record's chunk holds of a row and that R229 does not load counts once for the record in KV_BLOCKS_SKIPPED (DESIGN CHOICE, log entry 199: R229 does not say
what a skipped block is counted per). A slot in the other half is no end of a descriptor of the row's half (R6; log entry 187). -/
def execGatherRecord (n : Nat) (reads : List TileRead) (s : State) : Out :=
  .next (match s.runningHdr, s.activeImage with
    | some _, some i =>
      match i.gathers[n]? with
      | none => s
      | some g =>
        if decide (g.issueTick ≤ s.schedTick) && !s.trv.gathered.contains n then
          let s := { s with trv := { s.trv with gathered := s.trv.gathered ++ [n] } }
          let kinds := (if g.k then [0] else []) ++ (if g.v then [1] else [])
          let job (r : RowNow) (x : Session) : List (Nat × Nat × Nat) :=
            ((s.chunkBlocks i r x.model g.layer g.chunk).flatMap (fun b => kinds.map (fun kv => (b, kv)))).zipIdx.map
              (fun (p, k) => (p.1, p.2, addrPlus g.dst ((r.row - g.rowFirst) * g.slots + k)))
          let rows := s.trv.rowTab.filter (fun r => decide (g.rowFirst ≤ r.row ∧ r.row < g.rowFirst + g.rowCount) && rowLive r)
          let (s, _) := rows.foldl (fun (acc : State × List TileRead) r =>
            match acc.1.rowSess r.entry with
            | none => acc
            | some x =>
              let jobs := job r x
              let span := partBlocks i.hdr
              let c := ((i.binds.find? (fun b => b.slot == x.model)).map (fun b => b.attnChunkBlocks)).getD 1
              let inChunk := ((List.range c).map (· + (r.entry.part * span + g.chunk * c))).filter (fun b => blockLive i.hdr r b)
              let skipped := (inChunk.filter (fun b => !s.blockLoaded i.hdr r x.model b g.layer)).length
              let s0 := acc.1.addObj Ob.cnt_kv_blocks_skipped x.half skipped
              jobs.foldl (fun (acc : State × List TileRead) j =>
                match acc.1.rowNow r.row with
                | some r' =>
                  if rowLive r' then
                    (acc.1.gatherTile g r.row x.index j (acc.2.headD .ok), acc.2.tail)
                  else (acc.1, acc.2.tail)
                | none => acc) (s0, acc.2)) (s, reads)
          s.gatherMet g.queue g.tag
        else s
    | _, _ => s)

/-! ### Model slots (R239, R244-R248, R255) -/

/-- Slot m lies in `model_mask` of the ACTIVE traverse. -/
def State.modelInUse (s : State) (m : Nat) : Bool :=
  match s.activeRun with
  | none => false
  | some h => h.modelMask / 2 ^ m % 2 == 1

/-- A write of a shape object of a slot in use is refused with MODEL_BUSY (R248). -/
def shapeObject (index sub : Nat) : Bool :=
  decide (0x9300 ≤ index ∧ index ≤ 0x930F) && (decide (8 ≤ sub ∧ sub ≤ 14) || sub == 16)

/-- Shape checks of a LOAD (R239, R248, R255). `vocab` is the vocabulary that the model's source carries. -/
def State.modelShapeOk (s : State) (m vocab : Nat) : Bool :=
  let live := s.sessions.filter (fun x => x.state.live && x.model == m)
  let main := s.obj Ob.mdl_draft_of m
  live.all (fun x => x.pt.layers == s.obj Ob.mdl_layers m && x.pt.groups == s.obj Ob.mdl_kv_groups m
      && decide (x.maxPositions ≤ s.obj Ob.mdl_max_positions m))
  && (match s.dictFor m with
      | none => false
      | some (_, d) => d.vocab == vocab)
  && (main == 0xFF || (s.obj Ob.mdl_kv_groups m == s.obj Ob.mdl_kv_groups main
      && ((s.str Ob.mdl_donor m).take (s.obj Ob.mdl_layers m)).all (fun l => decide (l.toNat < s.obj Ob.mdl_layers main))))

/-- Each half whose clusters this tile's slice uses has a DDR5 channel of that half in the slice (R245). -/
def State.sliceChannelsOk (s : State) (m : Nat) : Bool :=
  s.obj Ob.mdl_weight_home m != 2 || !s.sliced
  || (let all := s.assigns
      let cl := (all.map (fun a => a.clusters)).foldl Nat.lor 0
      let ch := (all.map (fun a => a.channels)).foldl Nat.lor 0
      [0, 1].all (fun h => cl / 2 ^ (256 * h) % 2 ^ 256 == 0 || ch / 2 ^ (12 * h) % 2 ^ 12 != 0))

/-- Model slot contents. -/
def State.modelSlot (s : State) (m : Nat) : ModelSlot := (mget s.tier.models m).getD ⟨[], none, 0⟩

/-- Store them. -/
def State.setModelSlot (s : State) (m : Nat) (x : ModelSlot) : State :=
  { s with tier := { s.tier with models := mput s.tier.models m x } }

/-- MDL_LOAD (R247, R248): checked before it starts; then the old weights go, the slot is LOADING and the load count rises. `vocab` is the
vocabulary of the model at the source. -/
def execMdlLoad (w : Writer) (mm vocab : Nat) (s : State) : Out :=
  .next (s.command w Ob.mdl_command mm [1] (some Ob.mdl_status) (fun s =>
    if s.modelInUse mm || s.obj Ob.mdl_state mm == 1 then (s, St.MODEL_BUSY)
    else if !s.modelShapeOk mm vocab then (s, St.MODEL_SHAPE)
    else if !s.sliceChannelsOk mm then (s, St.MODEL_SLICE_CHANNELS)
    else
      let s := s.freeAll (s.modelSlot mm).tiles
      let s := s.setModelSlot mm ⟨[], some w, s.obj Ob.mdl_weight_home mm⟩
      ((s.setObj Ob.mdl_state mm 1).setObj Ob.mdl_load_count mm ((s.obj Ob.mdl_load_count mm + 1) % 2 ^ 28), St.OK)))

/-- DDR5 channels of a half that may hold a T2-home model's tiles (R245): those of the tile's slice under SLICE_MEMBER, else all. -/
def State.weightChannel (s : State) (home half c : Nat) : Bool :=
  home != 2 || !s.sliced
    || ((s.assigns.map (fun a => a.channels)).foldl Nat.lor 0) / 2 ^ (12 * half + c) % 2 == 1

/-- The first free stripe row from `k` on, below `bound`, that has a slot where `on` allows one; a row of which it allows none is passed. -/
def firstRow (taken : SMap Unit) (on : Nat → Option Nat) (bound : Nat) : Nat → Nat → Option (Nat × Nat)
  | 0, _ => none
  | f + 1, k =>
    let k := mfreeFrom taken k
    if k < bound then
      match on k with
      | some d => some (k, d)
      | none => firstRow taken on bound f (k + 1)
    else none

/-- The next T2 slot of a model in a half, in stripe order (R244, R245): the data slot after the last one placed, else the first of a free stripe,
on a channel that may hold it. The search for a free stripe starts at a row drawn as every other one's does, and goes on from the first (R103). -/
def State.weightSlot (s : State) (mm half : Nat) : Option (Nat × State) :=
  let x := s.modelSlot mm
  let on (lo k : Nat) : Option Nat := ((List.range (11 - lo)).map (· + lo)).find? (fun d => s.weightChannel x.home half (t2Channel k d))
  match (x.tiles.find? (fun a => tierOf a == 2 && addrHalf a == half)).bind (fun a =>
      (on (addrData a + 1) (addrRow a)).map (fun d => t2Addr half d (addrRow a))) with
  | some a => some (a, s)
  | none =>
    let (n, s) := s.draw
    let first := s.obj Ob.t2_system_rows 0
    let bound := Config.t2RowsPerChannel - s.t2Reserved half
    let taken := s.listedRows half
    let from_ (k : Nat) : Option (Nat × Nat) := firstRow taken (on 0) bound (taken.length + 2) k
    match from_ (first + n % max 1 (bound - first)) with
    | some (k, d) => some (t2Addr half d k, s)
    | none =>
      match from_ first with
      | some (k, d) => some (t2Addr half d k, s)
      | none => (firstRow (s.usedRows half) (on 0) bound ((s.usedRows half).length + 2) first).map (fun p => (t2Addr half p.2 p.1, s))

/-- A weight tile of a model has come to a slot. -/
def State.keepWeight (s : State) (mm a : Nat) : State := s.setModelSlot mm { s.modelSlot mm with tiles := a :: (s.modelSlot mm).tiles }

/-- One weight tile in its home tier (R93–R95, R244): T1 of half n mod 2 with a T2 shadow in each half, or T2 of each half; retagged (R247). -/
def State.placeWeight (s : State) (mm : Nat) (t : Tile) : State × Bool :=
  let tile : Tile := { t with kind := 2, owner := mm + 16 * s.obj Ob.mdl_load_count mm, snapPending := false, writer := 0, cowEpoch := 0 }
  let inT2 (acc : State × Bool) (h : Nat) : State × Bool :=
    match acc.1.weightSlot mm h with
    | none => (acc.1, false)
    | some (a, s) => ((s.writeTile a { tile with cowEpoch := s.allocEpoch h }).keepWeight mm a, acc.2)
  let (s, ok) := [0, 1].foldl inT2 (s, true)
  if (s.modelSlot mm).home == 1 then
    match s.allocT1 (t.locator % 2) ((t.locator + 7 * t.layer) % 128) tile with
    | none => (s, false)
    | some (a, s) => (s.keepWeight mm a, ok)
  else (s, ok)

/-- The tiles of a source are checked and placed one after another; the first that fails decides (R247). A tile for which its home tier has no slot fails
as one that cannot be copied (DESIGN CHOICE, log entry 198: R247 names no status for a full tier). -/
def State.loadWeights (s : State) (mm : Nat) : List Octets → State × Nat
  | [] => (s, St.OK)
  | t :: r =>
    if !tileCrcOk t then (s, St.MODEL_CORRUPT)
    else if !(parseTile t).formatOk then (s, St.FORMAT_VERSION)
    else
      match s.placeWeight mm (parseTile t) with
      | (s, false) => (s, St.MODEL_CORRUPT)
      | (s, true) => s.loadWeights mm r

/-- MDL_LOAD_DONE (R247): `img` is what the source's tiles hold, up to the first that could not be read (none: not even the first could). Every tile passes
R96 and lands, and the digest over all of them agrees: LOADED; otherwise the tiles go and the slot is REFUSED. -/
def execMdlLoadDone (mm : Nat) (img : Option Octets) (s : State) : Out :=
  .next (if s.obj Ob.mdl_state mm != 1 || (s.modelSlot mm).loadWriter.isNone then s
    else
      let o := img.getD []
      let (s, st) := s.loadWeights mm (records 4352 o)
      let st := if st == St.OK && (img.isNone || o.length != 4352 * ofLE (slice (s.str Ob.mdl_source mm) 8 4)
          || Config.shake256 o 32 != s.str Ob.mdl_digest mm) then St.MODEL_CORRUPT else st
      if st == St.OK then
        ((s.setModelSlot mm { s.modelSlot mm with loadWriter := none }).setObj Ob.mdl_state mm 2).setObj Ob.mdl_status mm St.OK
      else
        let s := s.freeAll (s.modelSlot mm).tiles
        ((s.setModelSlot mm ⟨[], none, 0⟩).setObj Ob.mdl_state mm 3).setObj Ob.mdl_status mm st)

/-- MDL_UNLOAD (R248): the weights go and the slot is EMPTY. -/
def execMdlUnload (w : Writer) (mm : Nat) (s : State) : Out :=
  .next (s.commandNow w Ob.mdl_command mm [2] Ob.mdl_status (fun s =>
    if s.modelInUse mm || s.obj Ob.mdl_state mm == 1 then (s, St.MODEL_BUSY)
    else
      let s := s.freeAll (s.modelSlot mm).tiles
      ((s.setModelSlot mm ⟨[], none, 0⟩).setObj Ob.mdl_state mm 0, St.OK)))

end Sys2Proof.Machine
end

