-- ==== Sys2Proof/Machine/TextBinary.lean ====
section
/-! DEFINITION. Octet layouts of the text objects: the dictionary image (Tables 7-1 to 7-3) and the grammar program (Tables 7-5 and 7-6), with the
byte-level rules that LOAD checks. -/

namespace Sys2Proof.Machine

/-! ### Dictionary images (R251-R255) -/

/-- Token table entry (Table 7-2), with its bytes from the string pool. -/
def parseToken (pool : Octets) (o : Octets) : TokenRec :=
  let f := octField o 5 1
  ⟨slice pool (octField o 0 4) (octField o 4 1 % 128), f % 2 == 1, f / 2 % 2 == 1, f / 4 % 2 == 1⟩

/-- A dictionary image from its octets. -/
def parseDict (o : Octets) : DictImage :=
  let vocab := octField o 0x010 4
  let pool := slice o (octField o 0x030 8) (octField o 0x038 8)
  let n := octField o 0x025 1
  { digest := ofLE (Config.shake256 o 32)
    vocab := vocab
    byteBase := octField o 0x014 4
    specFirst := octField o 0x018 4
    specCount := octField o 0x01C 4
    eos := octField o 0x020 4
    maxLen := octField o 0x024 1
    shards := n
    shardMap := (slice o 0x0A0 256).map BitVec.toNat
    tokens := ((records 8 (o.drop (octField o 0x028 8))).take vocab).map (parseToken pool)
    shardBytes := (List.range (min n 8)).map (fun k => slice o (octField o (0x040 + 8 * k) 8) (octField o (0x080 + 4 * k) 4)) }

/-- `magic` and `hdr_crc` of a dictionary. -/
def dictMagicOk (o : Octets) : Bool := decide (512 ≤ o.length) && octField o 0 4 == 0x54434944 && crcOf (o.take 508) == octField o 0x1FC 4

/-- Major 1 and no required feature (R25). -/
def formatOk (o : Octets) : Bool := octField o 4 2 == 1 && octField o 8 4 == 0

/-- An edge entry's octets (Table 7-3): byte, token, whether one ends there, child. -/
structure TrieEdge where
  byte : Nat
  token : Nat
  hasToken : Bool
  child : Nat
deriving DecidableEq, Repr

/-- An edge entry; none where reserved bits are set. -/
def parseEdge (o : Octets) : Option TrieEdge :=
  let w := octField o 0 4
  if w / 2 ^ 29 == 0 then some ⟨w % 256, w / 2 ^ 8 % 2 ^ 20, w / 2 ^ 28 % 2 == 1, octField o 4 4⟩ else none

/-- Edges of a node, each with the byte it serves; none where the node breaks R253. -/
def trieNode (shard : Octets) (node : Nat) : Option (List TrieEdge) :=
  if 2 ^ 31 ≤ node then
    let off := node - 2 ^ 31
    if off % 2048 != 0 || decide (shard.length < off + 2048) then none
    else ((records 8 (slice shard off 2048)).zipIdx.mapM (fun p => (parseEdge p.1).map (fun e => { e with byte := p.2 }))).map
      (fun l => l.filter (fun e => e.child != 0xFFFFFFFF || e.hasToken))
  else
    let n := octField (slice shard node 8) 0 8
    if node % 8 != 0 || n == 0 || decide (15 < n) || decide (128 < node % 128 + 8 * (n + 1)) || decide (shard.length < node + 8 * (n + 1)) then none
    else
      match (records 8 (slice shard (node + 8) (8 * n))).mapM parseEdge with
      | none => none
      | some l => if (l.zip l.tail).all (fun p => decide (p.1.byte < p.2.byte)) then some l else none

/-- Entries of the trie below a node: the bytes of each and its token; none where a node breaks R253 or an entry is too long. -/
def trieEntries (shard : Octets) : Nat → Nat → Octets → Option (List (Octets × Nat))
  | 0, _, _ => none
  | f + 1, node, pre =>
    match trieNode shard node with
    | none => none
    | some es =>
      es.foldl (fun acc e =>
        let path := pre ++ [BitVec.ofNat 8 e.byte]
        let here := if e.hasToken then [(path, e.token)] else []
        if e.child == 0xFFFFFFFF then (if e.hasToken then none else acc)
        else if e.child == 0xFFFFFFFE then acc.map (fun l => l ++ here)
        else match acc, trieEntries shard f e.child path with
          | some l, some r => some (l ++ here ++ r)
          | _, _ => none) (some [])

/-- Tokens whose bytes the trie holds: ordinary and special tokens with bytes (R254), with their numbers. -/
def trieTokens (d : DictImage) : List (Nat × TokenRec) :=
  (d.tokens.zipIdx.map (fun (t, n) => (n, t))).filter (fun p => !p.2.fallback && !p.2.bytes.isEmpty)

/-- R253 and R254: the tries hold every ordinary and every special token with bytes exactly once, in the shard of its first byte, and nothing else. -/
def triesOk (d : DictImage) : Bool :=
  match (d.shardBytes.zipIdx.mapM (fun p => (trieEntries p.1 d.maxLen (2 ^ 31) []).map (fun l => l.map (fun e => (p.2, e))))) with
  | none => false
  | some ls =>
    let all := ls.flatMap id
    all.length == (trieTokens d).length
      && all.all (fun e => decide (e.2.1.length ≤ d.maxLen) && d.shardMap.getD ((e.2.1.headD 0).toNat) 8 == e.1)
      && (trieTokens d).all (fun t => all.any (fun e => e.2.2 == t.1 && e.2.1 == t.2.bytes))

/-- Fields of R251 and R252 in range. -/
def dictFieldsOk (d : DictImage) : Bool :=
  decide (512 ≤ d.vocab ∧ d.vocab ≤ 1048576) && decide (d.specCount ≤ 65536) && decide (1 ≤ d.maxLen ∧ d.maxLen ≤ 64)
  && decide (1 ≤ d.shards ∧ d.shards ≤ 8) && d.tokens.length == d.vocab && d.shardBytes.length == d.shards
  && d.shardMap.all (fun k => decide (k < d.shards)) && d.shardBytes.all (fun o => decide (o.length ≤ 1572864))
  && decide (d.specFirst ≤ d.eos ∧ d.eos < d.specFirst + d.specCount) && decide (d.byteBase + 256 ≤ d.vocab)
  && decide (d.specFirst + d.specCount ≤ d.vocab)
  && d.tokens.zipIdx.all (fun (t, n) =>
      t.special == decide (d.specFirst ≤ n ∧ n < d.specFirst + d.specCount)
      && t.fallback == decide (d.byteBase ≤ n ∧ n < d.byteBase + 256) && decide (t.bytes.length ≤ 64) && !(t.special && t.fallback)
      && (!t.fallback || t.bytes.length == 1) && (t.fallback || decide (t.bytes.length ≤ d.maxLen)))

/-- Reserved octets and the places of a dictionary's parts (Tables 7-1 and 7-2). -/
def dictPlacesOk (o : Octets) : Bool :=
  octField o 0x026 2 == 0 && (slice o 0x1A0 0x5C).all (fun b => b == 0)
  && decide (octField o 0x028 8 + 8 * octField o 0x010 4 ≤ o.length) && decide (octField o 0x030 8 + octField o 0x038 8 ≤ o.length)
  && (List.range (min 8 (octField o 0x025 1))).all (fun k =>
      decide (octField o (0x040 + 8 * k) 8 + octField o (0x080 + 4 * k) 4 ≤ o.length))
  && ((records 8 (o.drop (octField o 0x028 8))).take (octField o 0x010 4)).all (fun t =>
      decide (octField t 4 1 ≤ 64) && decide (octField t 5 1 < 8) && octField t 6 2 == 0
      && decide (octField t 0 4 + octField t 4 1 ≤ octField o 0x038 8))

/-- Every rule of R251 to R254. -/
def dictRulesOk (o : Octets) : Bool := dictPlacesOk o && dictFieldsOk (parseDict o) && triesOk (parseDict o)

/-! ### Grammar programs (R270-R272) -/

/-- A grammar program from its octets. -/
def parseGrammar (o : Octets) : GrammarImage :=
  let vocab := octField o 0x10 4
  let size := 4096 * ((vocab + 32767) / 32768)
  let f := octField o 0x18 4
  { digest := ofLE (Config.shake256 o 32)
    dictDigest := octField o 0x48 32
    vocab := vocab
    classes := octField o 0x17 1
    start := f % 2 ^ 24
    turnReset := f / 2 ^ 24 % 2 == 1
    maxDepth := octField o 0x1C 2
    states := ((records 16 (o.drop (octField o 0x28 8))).take (octField o 0x14 4 % 2 ^ 24)).map (fun r =>
      ⟨octField r 0 4, octField r 4 4, octField r 8 4, octField r 0xC 4 % 2 == 1⟩)
    cmasks := (records 12 (slice o (octField o 0x30 8) (octField o 0x38 8 - octField o 0x30 8))).map (fun r =>
      ⟨octField r 0 4, octField r 4 4, octField r 8 4⟩)
    edges := ((records 16 (o.drop (octField o 0x38 8))).take (octField o 0x24 4)).map (fun r =>
      ⟨octField r 0 4 % 2 ^ 20, octField r 4 4 % 2 ^ 20, octField r 8 4 % 2 ^ 24, octField r 8 4 / 2 ^ 24 % 4, octField r 0xC 4⟩)
    masks := (List.range (octField o 0x20 4)).map (fun k =>
      (records 4 (slice o (octField o 0x40 8 + size * k) size)).map (fun w => octField w 0 4))
    maskOffset := octField o 0x40 8 }

/-- `magic` and `hdr_crc` of a grammar program. -/
def grammarMagicOk (o : Octets) : Bool := decide (128 ≤ o.length) && octField o 0 4 == 0x4D524752 && crcOf (o.take 124) == octField o 0x7C 4

/-- The parts of a program lie within it, and its masks in whole tiles. -/
def grammarPlacesOk (o : Octets) : Bool :=
  let g := parseGrammar o
  octField o 0x18 4 / 2 ^ 25 == 0 && octField o 0x1E 2 == 0 && (slice o 0x68 0x14).all (fun b => b == 0)
  && g.states.length == octField o 0x14 4 % 2 ^ 24 && g.edges.length == octField o 0x24 4 && g.masks.length == octField o 0x20 4
  && decide (octField o 0x30 8 ≤ octField o 0x38 8) && g.maskOffset % 4096 == 0
  && g.masks.all (fun m => m.length == 1024 * ((g.vocab + 32767) / 32768))

end Sys2Proof.Machine
end

