-- ==== Sys2Proof/Machine/TextOps.lean ====
section
/-! DEFINITION. Text operations (chapter 7): UTF-8 checking, greedy longest match, truncation, grammar masks and advance, the detokenizer
and stop strings. -/

namespace Sys2Proof.Machine

/-! ### UTF-8 (R262, R263) -/

/-- Ranges of the continuation bytes that a lead byte takes; none for a byte that begins no sequence. -/
def leadRanges (b : Nat) : Option (List (Nat × Nat)) :=
  if b < 0x80 then some []
  else if 0xC2 ≤ b ∧ b ≤ 0xDF then some [(0x80, 0xBF)]
  else if b = 0xE0 then some [(0xA0, 0xBF), (0x80, 0xBF)]
  else if b = 0xED then some [(0x80, 0x9F), (0x80, 0xBF)]
  else if 0xE1 ≤ b ∧ b ≤ 0xEF then some [(0x80, 0xBF), (0x80, 0xBF)]
  else if b = 0xF0 then some [(0x90, 0xBF), (0x80, 0xBF), (0x80, 0xBF)]
  else if b = 0xF4 then some [(0x80, 0x8F), (0x80, 0xBF), (0x80, 0xBF)]
  else if 0xF1 ≤ b ∧ b ≤ 0xF3 then some [(0x80, 0xBF), (0x80, 0xBF), (0x80, 0xBF)]
  else none

/-- How the bytes after a lead meet its ranges. -/
inductive SeqEnd where
  | full
  | broken
  | short
deriving DecidableEq, Repr

/-- Match continuation bytes. -/
def seqEnd : List (Nat × Nat) → Octets → SeqEnd
  | [], _ => .full
  | _ :: _, [] => .short
  | (lo, hi) :: rs, b :: bs => if lo ≤ b.toNat ∧ b.toNat ≤ hi then seqEnd rs bs else .broken

/-- Check bytes: each with its offending mark, and the incomplete tail that is held unless the record is flushed. -/
def utf8Check (flush : Bool) : Nat → Octets → List (Byte × Bool) × Octets
  | 0, _ => ([], [])
  | _, [] => ([], [])
  | f + 1, b :: r =>
    let bad : List (Byte × Bool) × Octets :=
      let (l, t) := utf8Check flush f r
      ((b, true) :: l, t)
    match leadRanges b.toNat with
    | none => bad
    | some rs =>
      match seqEnd rs r with
      | .full =>
        let (l, t) := utf8Check flush f (r.drop rs.length)
        ((b, false) :: (r.take rs.length).map (fun c => (c, false)) ++ l, t)
      | .broken => bad
      | .short => if flush then bad else ([], b :: r)

/-! ### Greedy longest match (R265, R266) -/

/-- A walk of a shard's trie over the bytes of `w` from a node (R202, R265): whether it reaches their end at a node that still has children, and the longest
entry that it passes, of those that are allowed and of all, each with its length and token. -/
def trieWalk (shard : ByteStore) (allowed : Nat → Bool) : Octets → Nat → Nat → Option (Nat × Nat) → Option (Nat × Nat) →
    Bool × Option (Nat × Nat) × Option (Nat × Nat)
  | [], _, _, best, any => (true, best, any)
  | b :: r, node, n, best, any =>
    let v := trieWord (trieEdge shard node b.toNat)
    let child := v % 2 ^ 32
    if child == 0xFFFFFFFF then (false, best, any)
    else
      let tok := v / 2 ^ 32 % 2 ^ 20
      let hit : Bool := v / 2 ^ 52 % 2 == 1
      let any := if hit then some (n + 1, tok) else any
      let best := if hit && allowed tok then some (n + 1, tok) else best
      if child == 0xFFFFFFFE then (false, best, any) else trieWalk shard allowed r child (n + 1) best any

/-- A special token's number. -/
def isSpecial (d : DictImage) (t : Nat) : Bool := decide (d.specFirst ≤ t ∧ t < d.specFirst + d.specCount)

/-- The walk from the root of the shard that serves the first byte. -/
def dictWalk (d : DictImage) (special : Bool) (w : Octets) : Bool × Option (Nat × Nat) × Option (Nat × Nat) :=
  let shard := d.shardBytes.getD (d.shardMap.getD ((w.headD 0).toNat) 8) []
  trieWalk (storeOf shard) (fun t => special || !isSpecial d t) w (2 ^ 31) 0 none none

/-- What matching gives: tokens, bytes held, byte-fallback tokens, offending bytes among them, and special tokens passed over. -/
structure MatchOut where
  toks : List Nat
  held : Octets
  fallback : Nat
  offending : Nat
  escaped : Nat
deriving DecidableEq, Repr

/-- Bytes up to the first offending one. -/
def cleanRun (b : List (Byte × Bool)) : Octets := (b.takeWhile (fun p => !p.2)).map Prod.fst

/-- `tokenize` of R265. -/
def matchBytes (d : DictImage) (flush special : Bool) : Nat → List (Byte × Bool) → MatchOut
  | 0, _ => ⟨[], [], 0, 0, 0⟩
  | _, [] => ⟨[], [], 0, 0, 0⟩
  | f + 1, (b, off) :: r =>
    let all := (b, off) :: r
    if off then
      let m := matchBytes d flush special f r
      { m with toks := (d.byteBase + b.toNat) :: m.toks, fallback := m.fallback + 1, offending := m.offending + 1 }
    else
      let w := cleanRun all
      let (stillOpen, best, any) := dictWalk d special w
      if w.length == all.length && stillOpen && !flush then ⟨[], w, 0, 0, 0⟩
      else
        let esc := (!special && any.any (fun p => isSpecial d p.2)).toNat
        match best with
        | none =>
          let m := matchBytes d flush special f r
          { m with toks := (d.byteBase + b.toNat) :: m.toks, fallback := m.fallback + 1, escaped := m.escaped + esc }
        | some (n, t) =>
          let m := matchBytes d flush special f (all.drop n)
          { m with toks := t :: m.toks, escaped := m.escaped + esc }

/-- Check and match bytes under a class: lookahead and incomplete tail, then the new bytes. Answers the tokens and what stays held. -/
def tokenizeBytes (d : DictImage) (look utf8 : Octets) (new : Octets) (flush special : Bool) : MatchOut × Octets :=
  let bytes := utf8 ++ new
  let (l, tail) := utf8Check flush bytes.length bytes
  let all := look.map (fun c => (c, false)) ++ l
  (matchBytes d flush special all.length all, tail)

/-! ### Input records (R260-R269, R584) -/

/-- Tokens of a session by its carry and a record: each takes the next input chainage, or is discarded at `max_positions` (R267, R584). -/
def State.emitTokens (s : State) (i : Nat) (toks : List Nat) : State :=
  s.modSess i (fun x =>
    let base := x.positions
    let room := x.maxPositions - base
    let kept := toks.take room
    { x with tokens := (kept.zipIdx).foldl (fun m p => mput m (base + p.2) p.1) x.tokens
             chAccepted := if kept.isEmpty then x.chAccepted else base + kept.length
             discarded := x.discarded + (toks.length - kept.length) })

/-- Count what a match of an input record found (R264, R266). -/
def State.countMatch (s : State) (i : Nat) (m : MatchOut) : State :=
  match s.sess i with
  | none => s
  | some x =>
    let s := s.setSess { x with cntInvalidUtf8 := x.cntInvalidUtf8 + m.offending }
    ((s.addObj Ob.stn_cnt_invalid_utf8 x.station m.offending).addObj Ob.cnt_byte_fallback x.half m.fallback).addObj
      Ob.stn_cnt_special_escaped x.station m.escaped

/-- A DRAFT_RESET and a truncation show at the record's last position, `first` being its first; one that made no position passes them forward to the next
input position produced (R269, R299). -/
def State.markInput (s : State) (i : Nat) (first : Nat) (reset trunc : Bool) : State :=
  s.modSess i (fun x =>
    if first < x.chAccepted then
      { x with resetAt := x.resetAt ++ (if x.resetNext then [first] else []) ++ (if reset then [x.chAccepted - 1] else []), resetNext := false
               truncAt := x.truncAt ++ (if x.truncNext then [first] else []) ++ (if trunc then [x.chAccepted - 1] else []), truncNext := false }
    else { x with resetNext := x.resetNext || reset, truncNext := x.truncNext || trunc })

/-- A prefill up to position `hi` passes the marks below it (R269, R299): a DRAFT_RESET re-enables drafting, and a truncation is answered, for the STEP
record's flag. -/
def Session.passMarks (x : Session) (hi : Nat) : Session × Bool :=
  let y : Session := { x with resetAt := x.resetAt.filter (fun p => decide (hi ≤ p)), truncAt := x.truncAt.filter (fun p => decide (hi ≤ p)) }
  (if x.resetAt.any (fun p => decide (p < hi)) then
      { y with draftStopped := false, draftLen := x.draftLenOpen, rejConsec := 0, rejWindow := 0, rejBitmap := [] }
    else y, x.truncAt.any (fun p => decide (p < hi)))

/-- Tokenize one accepted record of a session with a dictionary. -/
def State.tokenizeRec (s : State) (i : Nat) (d : DictImage) (r : InputRec) : State :=
  match s.sess i with
  | none => s
  | some x0 =>
    let cls := x0.tkFlags % 4
    -- a record of another class flushes the carry under the held class (R261)
    let s :=
      if cls != r.cls && (!x0.tkLook.isEmpty || !x0.tkUtf8.isEmpty) then
        let (m, _) := tokenizeBytes d x0.tkLook x0.tkUtf8 [] true (cls == 2)
        let s := ((s.emitTokens i m.toks).markInput i x0.positions false false).countMatch i m
        s.modSess i (fun x => { x with tkLook := [], tkUtf8 := [] })
      else s
    match s.sess i with
    | none => s
    | some x =>
      let first := x.positions
      let flush := r.final || r.cls == 1
      let (m, tail) := tokenizeBytes d x.tkLook x.tkUtf8 r.bytes flush (r.cls == 2)
      let s := (s.modSess i (fun x => { x with tkLook := m.held, tkUtf8 := tail, tkFlags := r.cls })).countMatch i m
      let n := m.toks.length
      let ht := r.toolHead + r.toolTail
      let cut := r.cls == 1 && decide (ht < n)
      let toks := if cut then
          m.toks.take r.toolHead ++ (tokenizeBytes d [] [] r.marker true false).1.toks ++ m.toks.drop (n - r.toolTail)
        else m.toks
      let s := s.emitTokens i toks
      let s := if cut then
          match s.sess i with
          | none => s
          | some y =>
            (((s.setSess { y with cntTruncated := y.cntTruncated + 1 }).bump Ob.stn_cnt_truncated y.station).sevent y
              Ev.INPUT_TRUNCATED n ht)
        else s
      (s.markInput i first r.draftReset cut).syncQueue i

/-- Text clusters of a half: the highest-numbered that are not fenced. -/
def State.textClusters (s : State) (half : Nat) : List Nat :=
  (((List.range 256).reverse.map (fun c => 256 * half + c)).filter (fun n => !s.clusterFenced n)).take (s.obj Ob.text_clusters 0)

/-- Tick at which the run phase of the frame and its holds end, the hold in force among them (R150, R164). -/
def State.runEnd (s : State) (h : TrvHeader) : Nat := s.frameStart + h.runTicks + s.trv.heldTicks + (s.trv.held.map Prod.snd).getD 0

/-- The ACTIVE traverse runs on clusters of a half. -/
def hdrUsesHalf (h : TrvHeader) (half : Nat) : Bool := h.clusterMask / 2 ^ (256 * half) % 2 ^ 256 != 0

/-- Text work runs on a half now (R257): without a break where no ACTIVE traverse runs there, else from the end of the run phase, in a frame whose slack is
124 ticks or more, until 60 ticks before the boundary. -/
def State.textOpen (s : State) (half : Nat) : Bool :=
  match s.runningHdr with
  | none => true
  | some h => !hdrUsesHalf h half
      || (decide (s.runEnd h ≤ s.tick) && decide (s.runEnd h + 124 ≤ s.frameEnd) && decide (s.tick + 60 ≤ s.frameEnd))

/-- The text clusters of a half hold the shards of the LOADED dictionaries now (R257). -/
def State.textReady (s : State) (half : Nat) : Bool :=
  (if half == 0 then s.text.ready0 else s.text.ready1).any (fun t => decide (t ≤ s.tick))

/-- When the text clusters of a half hold their shards. -/
def State.setReady (s : State) (half : Nat) (t : Option Nat) : State :=
  if half == 0 then { s with text := { s.text with ready0 := t } } else { s with text := { s.text with ready1 := t } }

/-- TOKENIZE_RECORD (R257-R259, R265): the oldest record of a session that may be tokenized, with the LOADED dictionary bound to its model
slot, on a half with a text cluster that is awake (R554), at a time that text work has and with the shards in place; records held for the next turn wait until it begins (R53). -/
def execTokenizeRecord (sid : Nat) (s : State) : Out :=
  .next (match s.bySid sid with
    | none => s
    | some x =>
      match x.inputs, s.dictFor x.model with
      | r :: rest, some (_, d) =>
        if r.pending || x.prefixDue || !x.state.live || (s.textClusters x.half).all s.asleep || !s.textOpen x.half || !s.textReady x.half then s
        else
          let s := s.setSess { x with inputs := rest }
          let s := s.tokenizeRec x.index d r
          s.modSess x.index (fun y => { y with pendingInput := y.inputs.any (fun q => q.held) })
      | _, _ => s)

/-! ### Text clusters and dictionaries (R255-R257) -/

/-- Shards of the LOADED dictionaries in slot order. -/
def State.loadedShards (s : State) : List Octets :=
  (s.text.dicts.filter (fun p => s.obj Ob.dict_state p.1 == 2)).flatMap (fun p => p.2.shardBytes)

/-- TEXT_WORK_START (R257): on a half whose run phase and holds have ended each text cluster takes its shard, which is in place after the 64 ticks that
R257 allows (log entry 201); a frame whose slack leaves less than 124 ticks starves. -/
def execTextWorkStart (half : Nat) (s : State) : Out :=
  .next (if half < 2 then
      if s.runningHdr.any (fun h => hdrUsesHalf h half && decide (s.tick < s.runEnd h)) then s
      else if s.runningHdr.any (fun h => hdrUsesHalf h half && decide (s.frameEnd < s.runEnd h + 124)) then s.bump Ob.cnt_text_starved half
      else
        ((((s.textClusters half).filter (fun n => !s.asleep n)).zip s.loadedShards).foldl (fun s p =>
          let kept := (s.clusterStore p.1).filter (fun q => decide (0x180000 ≤ q.1))
          s.setClusterStore p.1 (bputs kept 0 (p.2.take 0x180000))) s).setReady half (some (s.tick + 64))
    else s)

/-- A model slot bound to the dictionary is LOADED. -/
def State.dictBusy (s : State) (dd models : Nat) : Bool :=
  (List.range 16).any (fun m => (s.obj Ob.dict_models dd / 2 ^ m % 2 == 1 || models / 2 ^ m % 2 == 1) && s.obj Ob.mdl_state m == 2)

/-- Text clusters that each half provides (R256). -/
def State.textRoom (s : State) : Nat := min (s.textClusters 0).length (s.textClusters 1).length

/-- The shards of a dictionary are mirrored in T1 of each half, for loading into cluster stores (R255). -/
def State.mirrorShards (s : State) (owner : Nat) (d : DictImage) : State :=
  [0, 1].foldl (fun s h => d.shardBytes.foldl (fun s o =>
    (List.range (ceilDiv o.length 4096)).foldl (fun s k =>
      match s.allocT1 h k { freeTile with kind := 8, owner := owner, payload := bputs [] 0 (slice o (4096 * k) 4096) } with
      | none => s
      | some (_, s) => s) s) s) s

/-- The checks of R255 and R256 on a dictionary image, in order. DESIGN CHOICE (log entry 202): the spec does not place the check of R256 among those of
R255; it is made after them, of a load that has started, so that it leaves the slot REFUSED. -/
def State.dictCheck (s : State) (dd : Nat) (o : Octets) : Nat :=
  let others := (s.text.dicts.filter (fun p => p.1 != dd && s.obj Ob.dict_state p.1 == 2)).map (fun p => p.2.shards)
  if !dictMagicOk o then St.DICT_CORRUPT
  else if !formatOk o then St.FORMAT_VERSION
  else if Config.shake256 o 32 ≠ s.str Ob.dict_digest dd ∨ dictRulesOk o = false then St.DICT_CORRUPT
  else if s.textRoom < others.foldl (· + ·) 0 + (parseDict o).shards then St.DICT_NO_CLUSTERS
  else St.OK

/-- A dictionary slot without its image and its tiles. -/
def State.dropDict (s : State) (dd : Nat) : State :=
  let s := s.freeText (0xB000 + dd)
  { s with text := { s.text with dicts := mdel s.text.dicts dd, ready0 := none, ready1 := none } }

/-- A checked image is kept, as TEXT tiles and as its mirror in T1 (R255). -/
def State.keepDict (s : State) (dd : Nat) (o : Octets) : State :=
  let s := ((s.keepText (0xB000 + dd) o).1).mirrorShards (0xB000 + dd) (parseDict o)
  { s with text := { s.text with dicts := mput s.text.dicts dd (parseDict o), ready0 := none, ready1 := none } }

/-- DICT_LOAD (R255, R256): the write completes once the load has started; its end shows in `dict_status` and `dict_state`. -/
def execDictLoad (w : Writer) (dd : Nat) (img : Option Octets) (s : State) : Out :=
  .next (s.command w Ob.dict_command dd [1] (some Ob.dict_status) (fun s =>
    if s.dictBusy dd 0 then (s, St.DICT_BUSY)
    else
      let st := (img.map (s.dictCheck dd)).getD St.DICT_CORRUPT
      let s := s.dropDict dd
      let s := if st = St.OK then s.keepDict dd (img.getD []) else s
      ((s.setObj Ob.dict_state dd (if st = St.OK then 2 else 3)).setObj Ob.dict_status dd st, St.OK)))

/-- DICT_UNLOAD (R255). -/
def execDictUnload (w : Writer) (dd : Nat) (s : State) : Out :=
  .next (s.commandNow w Ob.dict_command dd [2] Ob.dict_status (fun s =>
    if s.dictBusy dd 0 then (s, St.DICT_BUSY)
    else ((s.dropDict dd).setObj Ob.dict_state dd 0, St.OK)))

/-! ### Grammar programs (R270-R278) -/

/-- Bit t of a mask. -/
def maskBitOf (m : List Nat) (t : Nat) : Bool := m.getD (t / 32) 0 / 2 ^ (t % 32) % 2 == 1

/-- Mask number n of a program. -/
def gMask (g : GrammarImage) (n : Nat) : List Nat := g.masks.getD n []

/-- State n of a program. -/
def gState (g : GrammarImage) (n : Nat) : GState := g.states.getD n ⟨0, 0, 0, false⟩

/-- Edges of a state. -/
def gEdges (g : GrammarImage) (st : Nat) : List GEdge := (g.edges.drop (gState g st).edgeFirst).take (gState g st).edgeCount

/-- Class-mask entry of a state under a stack. -/
def gMaskEntry (g : GrammarImage) (st : Nat) (stack : List Nat) : GClassMask :=
  let cls := match stack with
    | [] => 0
    | top :: _ => top / 2 ^ 24
  g.cmasks.getD ((gState g st).cmask + (if (gState g st).classed then cls else 0)) ⟨0, 0, 0⟩

/-- Token t is allowed (R275). -/
def gAllows (g : GrammarImage) (st : Nat) (stack : List Nat) (draft : Bool) (t : Nat) : Bool :=
  let e := gMaskEntry g st stack
  maskBitOf (gMask g (if draft then e.draft else e.full)) t
    && !(stack.length == g.maxDepth && maskBitOf (gMask g e.push) t)

/-- The edge of a state that holds a token. -/
def gEdge (g : GrammarImage) (st t : Nat) : Option GEdge := (gEdges g st).find? (fun e => decide (e.lo ≤ t ∧ t ≤ e.hi))

/-- Advance by a kept token (R276). -/
def gAdvance (g : GrammarImage) (st : Nat) (stack : List Nat) (t : Nat) : Nat × List Nat :=
  match gEdge g st t with
  | none => (st, stack)
  | some e =>
    match e.action with
    | 1 => (e.target, e.push :: stack)
    | 2 => (match stack with
      | [] => (st, [])
      | top :: r => (top % 2 ^ 24, r))
    | _ => (e.target, stack)

/-- The mask verification of R272, in full. -/
def grammarOk (g : GrammarImage) : Bool :=
  decide (1 ≤ g.states.length ∧ g.states.length ≤ 16777215) && decide (1 ≤ g.classes ∧ g.classes ≤ 255) && decide (g.start < g.states.length)
  && decide (1 ≤ g.maxDepth ∧ g.maxDepth ≤ 1034)
  && g.masks.all (fun m => (List.range (ceilDiv g.vocab 32768 * 32768)).all (fun t => decide (t < g.vocab) || !maskBitOf m t))
  && (List.range g.states.length).all (fun st =>
      let x := gState g st
      let es := gEdges g st
      let acts (t : Nat) : List GEdge := es.filter (fun e => decide (e.lo ≤ t ∧ t ≤ e.hi))
      (List.range (if x.classed then g.classes + 1 else 1)).all (fun c =>
        let e := g.cmasks.getD (x.cmask + c) ⟨0, 0, 0⟩
        (List.range g.vocab).all (fun t =>
          let f := maskBitOf (gMask g e.full) t
          (!f || (acts t).length == 1)
          && !(c == 0 && f && (acts t).any (fun a => a.action == 2))
          && (!maskBitOf (gMask g e.draft) t || f)
          && maskBitOf (gMask g e.push) t == (f && (acts t).any (fun a => a.action == 1)))))

/-- A live session names the grammar slot. -/
def State.grammarBusy (s : State) (gg : Nat) : Bool := s.sessions.any (fun x => x.state.live && x.grammarId == gg + 1)

/-- The checks of R272 on a program, in order: any failure ends the load with GRAMMAR_CORRUPT. -/
def State.grammarCheck (s : State) (gg : Nat) (o : Octets) : Nat :=
  let g := parseGrammar o
  if grammarMagicOk o = false ∨ formatOk o = false then St.GRAMMAR_CORRUPT
  else if Config.shake256 o 32 ≠ s.str Ob.gp_digest gg ∨ grammarPlacesOk o = false ∨ grammarOk g = false then St.GRAMMAR_CORRUPT
  else match s.dictFor (s.obj Ob.gp_model gg) with
    | none => St.GRAMMAR_CORRUPT
    | some (_, d) => if d.digest = g.dictDigest ∧ d.vocab = g.vocab then St.OK else St.GRAMMAR_CORRUPT

/-! ### The mask cache (R274) -/

/-- Mask cache of a half. -/
def State.maskCache (s : State) (half : Nat) : SMap CachedMask := if half == 0 then s.text.cache0 else s.text.cache1

/-- Store it. -/
def State.setMaskCache (s : State) (half : Nat) (m : SMap CachedMask) : State :=
  if half == 0 then { s with text := { s.text with cache0 := m } } else { s with text := { s.text with cache1 := m } }

/-- A mask tile leaves a half's cache: its T1 slot is free. -/
def State.uncache (s : State) (half a : Nat) : State :=
  match mget (s.maskCache half) a with
  | none => s
  | some c => (s.setMaskCache half (mdel (s.maskCache half) a)).freeTileAt c.slot

/-- Least recently used tile of a mask cache, the lower address among equals. -/
def cacheOldest (m : SMap CachedMask) : Option Nat :=
  (m.foldl (fun (best : Option (Nat × CachedMask)) p =>
    match best with
    | none => some p
    | some q => if p.2.used < q.2.used then some p else some q) none).map Prod.fst

/-- A half's cache gives up its oldest tiles until it holds fewer than `n`. -/
def State.trimCache (s : State) (half n : Nat) : Nat → State
  | 0 => s
  | f + 1 =>
    if (s.maskCache half).length < n then s
    else match cacheOldest (s.maskCache half) with
      | none => s
      | some a => (s.uncache half a).trimCache half n f

/-- A mask tile is read through a half's cache of `gr_cache_tiles` tiles in T1: hit or miss (R274; log entry 171). Answers the slot that the half reads it
from, none where the cache has no room for it. -/
def State.cacheTile (s : State) (half a : Nat) : State × Option Nat :=
  match mget (s.maskCache half) a with
  | some c => ((s.setMaskCache half (mput (s.maskCache half) a { c with used := s.tick })).bump Ob.cnt_mask_cache_hit half, some c.slot)
  | none =>
    let s := s.bump Ob.cnt_mask_cache_miss half
    let cap := s.obj Ob.gr_cache_tiles 0
    if cap == 0 then (s, none)
    else
      let s := s.trimCache half cap ((s.maskCache half).length)
      match s.allocT1 half (a % 128) (s.tileAt a) with
      | none => (s, none)
      | some (b, s) => (s.setMaskCache half (mput (s.maskCache half) a ⟨s.tick, b⟩), some b)

/-- A grammar slot without its program and its tiles, cached ones among them. -/
def State.dropGrammar (s : State) (gg : Nat) : State :=
  let gone := ((mget s.text.grammars gg).map (fun g => g.tiles)).getD []
  let s := s.freeText (0xB200 + gg)
  let s := [0, 1].foldl (fun s h => gone.foldl (fun s a => s.uncache h a) s) s
  { s with text := { s.text with grammars := mdel s.text.grammars gg } }

/-- A verified program is kept as TEXT tiles, with the model slot it was verified for (R272). -/
def State.keepGrammar (s : State) (gg : Nat) (o : Octets) : State :=
  let (s, l) := s.keepText (0xB200 + gg) o
  { s with text := { s.text with grammars := mput s.text.grammars gg ⟨parseGrammar o, s.obj Ob.gp_model gg, l⟩ } }

/-- GP_LOAD (R272). -/
def execGpLoad (w : Writer) (gg : Nat) (img : Option Octets) (s : State) : Out :=
  .next (s.command w Ob.gp_command gg [1] (some Ob.gp_status) (fun s =>
    if s.grammarBusy gg then (s, St.GRAMMAR_BUSY)
    else
      let st := (img.map (s.grammarCheck gg)).getD St.GRAMMAR_CORRUPT
      let s := s.dropGrammar gg
      let s := if st = St.OK then s.keepGrammar gg (img.getD []) else s
      ((s.setObj Ob.gp_state gg (if st = St.OK then 2 else 3)).setObj Ob.gp_status gg st, St.OK)))

/-- GP_UNLOAD (R272). -/
def execGpUnload (w : Writer) (gg : Nat) (s : State) : Out :=
  .next (s.commandNow w Ob.gp_command gg [2] Ob.gp_status (fun s =>
    if s.grammarBusy gg then (s, St.GRAMMAR_BUSY)
    else ((s.dropGrammar gg).setObj Ob.gp_state gg 0, St.OK)))

/-- Numbers of the masks that a position of a grammar row reads, at a state with a stack (R275). -/
def maskNumbers (g : GrammarImage) (st : Nat) (stack : List Nat) (draft : Bool) : List Nat :=
  let e := gMaskEntry g st stack
  (if draft then e.draft else e.full) :: (if stack.length == g.maxDepth then [e.push] else [])

/-- Mask tiles that a grammar row's positions read, in order, each position with its state, its stack and whether it is a draft's (R274). -/
def GrammarSlot.maskTiles (g : GrammarSlot) (path : List (Nat × List Nat × Bool)) : List Nat :=
  let size := (g.image.vocab + 32767) / 32768
  (path.flatMap (fun p => maskNumbers g.image p.1 p.2.1 p.2.2)).flatMap (fun n => (g.tiles.drop (g.image.maskOffset / 4096 + size * n)).take size)

/-! ### Detokenizer and stop strings (R279-R283) -/

/-- Bytes that a kept token gives (R279). -/
def tokenBytes (d : DictImage) (t : Nat) : Octets :=
  if d.byteBase ≤ t ∧ t < d.byteBase + 256 then [BitVec.ofNat 8 (t - d.byteBase)]
  else match d.tokens[t]? with
    | none => []
    | some r => if r.special && !r.visible then [] else r.bytes

/-- The stop string that ends here: the longest, the lower index among equals (R281). -/
def stopHere (ss : List StopString) (out : Octets) : Option (Nat × StopString) :=
  (ss.zipIdx.map (fun (x, n) => (n, x))).foldl (fun best p =>
    if p.2.bytes.length ≤ out.length && out.drop (out.length - p.2.bytes.length) == p.2.bytes then
      match best with
      | none => some p
      | some q => if q.2.bytes.length < p.2.bytes.length then some p else some q
    else best) none

/-- Length of the longest suffix that is a proper prefix of a stop string (R281). -/
def stopDepth (ss : List StopString) (out : Octets) : Nat :=
  ((List.range (out.length + 1)).reverse.find? (fun n =>
    ss.any (fun x => decide (n < x.bytes.length) && x.bytes.take n == out.drop (out.length - n)))).getD 0

/-- `detok` of R282 over a token's bytes: what is released, the hold after, and the matched string. -/
def detokBytes (ss : List StopString) (incl : Bool) : Octets → Octets → Octets → Octets × Octets × Option (Nat × StopString)
  | [], hold, out => (out, hold, none)
  | b :: r, hold, out =>
    let h := hold ++ [b]
    match stopHere ss h with
    | some (n, x) =>
      let l := x.bytes.length
      (out ++ h.take (h.length - l) ++ (if incl then h.drop (h.length - l) else []), [], some (n, x))
    | none =>
      let d := stopDepth ss h
      detokBytes ss incl r (h.drop (h.length - d)) (out ++ h.take (h.length - d))

/-- The stop strings of a stop-set object: each a kind byte, a length byte of 1 to 64 and the string; none where the encoding is another (R280). -/
def parseStops : Nat → Octets → Option (List StopString)
  | _, [] => some []
  | f + 1, k :: l :: r =>
    let n := l.toNat
    if decide (k.toNat = 1 ∨ k.toNat = 2) && decide (1 ≤ n ∧ n ≤ 64 ∧ n ≤ r.length) then
      (parseStops f (r.drop n)).map (fun t => ⟨k.toNat, r.take n⟩ :: t)
    else none
  | _, _ => none

/-- The object is the one of this row. -/
def ObjSpec.is (o x : ObjSpec) : Bool := o.base == x.base && o.subLo == x.subLo

/-- A station's stop set k is compiled from its object into a TEXT tile, or deleted (R280): what stood there before goes. The form that a set compiles to is
not printed, so that the octets of its tile are open (log entries 67 and 149). -/
def State.compileStop (s : State) (st k : Nat) (v : Octets) : State :=
  let key := 16 * st + k
  let s := match mget s.text.stops key with
    | none => s
    | some a => s.freeTileAt a
  let s := { s with text := { s.text with stops := mdel s.text.stops key } }
  if v.isEmpty then s
  else match s.allocSys 0 { freeTile with kind := 8, owner := 0xB100 + st, payload := bputs [] 0 (fitOctets 4096 (Config.stopImage v)) } with
    | none => s
    | some (a, s) => { s with text := { s.text with stops := mput s.text.stops key a } }

/-- Stop set k of a station as compiled from its object. -/
def State.stopSet (s : State) (st k : Nat) : List StopString := (parseStops 16 (s.strAt Ob.stn_stop_set st k)).getD []

/-- Stop strings of a session. -/
def State.stopsOf (s : State) (x : Session) : List StopString :=
  if x.stopSet == 0 then [] else s.stopSet x.station (x.stopSet - 1)

end Sys2Proof.Machine
end

