-- ==== Sys2Proof/Machine/Gen.lean ====
section
/-! DEFINITION. Generation (chapter 8): the generator, greedy and sampled choice, drafting and verification (R287-R300). -/

namespace Sys2Proof.Machine

/-! ### The generator (R289) -/

/-- `mix64`. -/
def mix64 (x : SWord) : SWord :=
  let x := (x ^^^ (x >>> 30)) * 0xBF58476D1CE4E5B9
  let x := (x ^^^ (x >>> 27)) * 0x94D049BB133111EB
  x ^^^ (x >>> 31)

/-- `gen_u`: lanes 0 MAIN, 1 DRAFT, 2 ACCEPT, 3 RESIDUAL. -/
def genU (seed c lane : Nat) : Lane :=
  let s : SWord := BitVec.ofNat 64 seed
  let x := mix64 (s ^^^ (BitVec.ofNat 64 c * 0x9E3779B97F4A7C15) ^^^ (BitVec.ofNat 64 lane <<< 56))
  let x := mix64 (x ^^^ s)
  laneOf (x >>> 40).toNat (-24)

/-! ### Arithmetic over lanes -/

def addL (a b : Lane) : Lane := (fadd .f32 a b).1
def subL (a b : Lane) : Lane := (fsub .f32 a b).1
def mulL (a b : Lane) : Lane := (fmul .f32 a b).1

/-- a < b and a ≤ b of two lanes that are no NaN. -/
def ltL (a b : Lane) : Bool := fcmp .f32 .lt a b
def leL (a b : Lane) : Bool := fcmp .f32 .le a b

/-- A lane that is a NaN, −∞ or +∞. -/
def nanL (a : Lane) : Bool := isNaN (f32 a)
def negInfL (a : Lane) : Bool := a == 0xFF800000
def posInfL (a : Lane) : Bool := a == 0x7F800000

/-- Chunks of 32 token numbers. -/
def chunks32 {α : Type} : Nat → List α → List (List α)
  | 0, _ => []
  | f + 1, l => if l.isEmpty then [] else l.take 32 :: chunks32 f (l.drop 32)

/-- `tree_sum` of a chunk. -/
def treeSum (l : List Lane) : Lane := (treeFold (fadd .f32) 0 l.length l).1

/-- `total` of R292. -/
def totalL (w : List Lane) : Lane := ((chunks32 w.length w).map treeSum).foldl addL 0

/-! ### Choice (R291-R294) -/

/-- Logits of one position after the mask: by token number, none where the mask excludes the token. -/
abbrev Masked := List (Option Lane)

/-- NaN logits among the allowed. -/
def nanCount (l : Masked) : Nat := (l.filter (fun x => x.any nanL)).length

/-- Lowest allowed token: the choice of R294. -/
def lowestAllowed (l : Masked) : Option Nat :=
  (l.zipIdx.find? (fun (x, _) => x.isSome)).map Prod.snd

/-- Greedy choice (R291): none where no candidate remains. −0 and +0 are equal logits. -/
def greedy (l : Masked) : Option Nat :=
  (l.zipIdx.foldl (fun (best : Option (Lane × Nat)) (x, t) =>
    match x with
    | none => best
    | some v =>
      if nanL v || negInfL v then best
      else match best with
        | none => some (v, t)
        | some (b, _) => if ltL b v then some (v, t) else best) none).map Prod.snd

/-- Insert a candidate into `order`: descending z, then ascending token number. -/
def insertOrd (c : Nat × Lane) : List (Nat × Lane) → List (Nat × Lane)
  | [] => [c]
  | d :: r => if ltL d.2 c.2 || (!ltL c.2 d.2 && decide (c.1 < d.1)) then c :: d :: r else d :: insertOrd c r

/-- Tokens of the leading set whose weights reach the threshold, at most the first 4,096 (R292). -/
def topSet (thr : Lane) : Nat → Lane → List (Nat × Lane) → List Nat
  | 0, _, _ => []
  | _, _, [] => []
  | f + 1, c, (t, w) :: r =>
    let c := addL c w
    if leL thr c then [t] else t :: topSet thr f c r

/-- `weights` of R292: none where no candidate remains. -/
def weights (temperature : Lane) (topK : Nat) (topP : Lane) (l : Masked) : Option (List Lane) :=
  let kt := mulL 0x3FB8AA3B (rcp temperature).1
  let z := l.map (fun x => x.map (fun v => mulL v kt))
  let cand := (z.zipIdx.filterMap (fun (x, t) => x.bind (fun v => if nanL v || negInfL v then none else some (t, v))))
  let n := l.length
  let spread (f : Nat → Lane) : List Lane := (List.range n).map f
  if cand.isEmpty then none
  else if cand.any (fun c => posInfL c.2) then
    some (spread (fun t => if cand.any (fun c => c.1 == t && posInfL c.2) then 0x3F800000 else 0))
  else
    let ord := cand.foldl (fun o c => insertOrd c o) []
    let ord := if topK == 0 then ord else ord.take topK
    let m := (treeFold (fmax .f32) 0xFF800000 ord.length ((cand.filter (fun c => ord.any (fun o => o.1 == c.1))).map Prod.snd)).1
    let wOf (v : Lane) : Lane := (exp2 (subL v m)).1
    let w := spread (fun t => match ord.find? (fun o => o.1 == t) with
      | none => 0
      | some o => wOf o.2)
    if ltL topP 0x3F800000 then
      let keep := topSet (mulL topP (totalL w)) 4096 0 (ord.map (fun o => (o.1, wOf o.2)))
      some (w.zipIdx.map (fun (x, t) => if keep.contains t then x else 0))
    else some w

/-- Running totals of the chunks. -/
def runTotals : Lane → List Lane → List Lane
  | _, [] => []
  | s, c :: r => addL s c :: runTotals (addL s c) r

/-- The token of a chunk at which the running total passes the target, else its last with a weight. -/
def drawIn (target : Lane) : Lane → Nat → List (Nat × Lane) → Nat
  | _, last, [] => last
  | c, last, (t, w) :: r =>
    if ltL 0 w then
      let c := addL c w
      if ltL target c then t else drawIn target c t r
    else drawIn target c last r

/-- `draw` of R293. -/
def drawTok (w : List Lane) (u : Lane) : Nat :=
  let ch := chunks32 w.length (w.zipIdx.map (fun (x, t) => (t, x)))
  let cs := ch.map (fun c => treeSum (c.map Prod.snd))
  let r := runTotals 0 cs
  let target := mulL u (r.getLastD 0)
  let j := match r.zipIdx.find? (fun (x, _) => ltL target x) with
    | some (_, j) => j
    | none => ((cs.zipIdx.filter (fun (x, _) => ltL 0 x)).getLast?.map Prod.snd).getD 0
  drawIn target (if j == 0 then 0 else r.getD (j - 1) 0) 0 (ch.getD j [])

/-! ### A session's positions -/

/-- What choosing at a position needs of a session, and the counts it raises. -/
structure Choice where
  tok : Nat
  /-- no candidate remained (R294) -/
  degenerate : Bool
  nan : Nat
deriving DecidableEq, Repr

/-- Greedy sessions (R288). -/
def Session.isGreedy (x : Session) : Bool := x.temperature == 0 || x.temperature == 0x80000000

/-- Choose at a position with a lane; none where the mask allows no token. -/
def Session.choose (x : Session) (l : Masked) (c lane : Nat) : Option Choice :=
  match lowestAllowed l with
  | none => none
  | some low =>
    if x.isGreedy then
      match greedy l with
      | some t => some ⟨t, false, nanCount l⟩
      | none => some ⟨low, true, nanCount l⟩
    else
      match weights x.temperature x.topK x.topP l with
      | some w => some ⟨drawTok w (genU x.genSeed c lane), false, nanCount l⟩
      | none => some ⟨low, true, nanCount l⟩

/-- Program of a session's grammar. -/
def State.grammarOf (s : State) (x : Session) : Option GrammarImage :=
  if x.grammarId == 0 then none else (mget s.text.grammars (x.grammarId - 1)).map (fun g => g.image)

/-- Tokens of a session's context below a chainage, its prefix's first. -/
def State.context (s : State) (x : Session) (c : Nat) : List Nat :=
  let own := (x.tokens.filter (fun p => decide (p.1 < c))).map Prod.snd
  match s.bySid x.prefixSid with
  | none => own
  | some p => (p.tokens.filter (fun q => decide (q.1 < x.prefixPositions))).map Prod.snd ++ own

/-- Masked logits of a position: model slot, tokens before it, grammar state (R275). -/
def State.maskedLogits (s : State) (vocab slot : Nat) (ctx : List Nat) (g : Option GrammarImage) (st : Nat) (stack : List Nat)
    (draft : Bool) : Masked :=
  let id := (s.activeHdr.map trvIdOf).getD 0
  (List.range vocab).map (fun t =>
    match g with
    | none => some (Config.logit id slot ctx t)
    | some p => if gAllows p st stack draft t then some (Config.logit id slot ctx t) else none)

/-- A POP draft token whose return state has an empty `m_full` is discarded (R277). -/
def popDead (g : GrammarImage) (st : Nat) (stack : List Nat) (t : Nat) : Bool :=
  match gEdge g st t, stack with
  | some e, top :: r =>
    e.action == 2 && !((List.range g.vocab).any (fun u => gAllows g (top % 2 ^ 24) r false u))
  | _, _ => false

/-- One draft position: its token, whether it was degenerate, its draft logits. -/
structure Draft where
  tok : Nat
  degenerate : Bool
  logits : Masked
  nan : Nat
deriving DecidableEq, Repr

/-- What the draft model chooses for at most `k` positions (R277, R295): the chain ends before a POP token that is discarded, which is the last one here,
marked as not proposed. -/
def State.draftTries (s : State) (x : Session) (vocab : Nat) (g : Option GrammarImage) : Nat → Nat → List Nat → Nat → List Nat → List (Draft × Bool)
  | 0, _, _, _, _ => []
  | k + 1, c, ctx, st, stack =>
    let l := s.maskedLogits vocab x.draftModel ctx g st stack true
    match x.choose l c 1 with
    | none => []
    | some ch =>
      let d : Draft := ⟨ch.tok, ch.degenerate, l, ch.nan⟩
      match g with
      | none => (d, true) :: s.draftTries x vocab g k (c + 1) (ctx ++ [ch.tok]) st stack
      | some p =>
        if popDead p st stack ch.tok then [(d, false)]
        else
          let (st', stack') := gAdvance p st stack ch.tok
          (d, true) :: s.draftTries x vocab g k (c + 1) (ctx ++ [ch.tok]) st' stack'

/-- The draft chain (R277, R295): the tokens that are proposed. -/
def State.draftChain (s : State) (x : Session) (vocab : Nat) (g : Option GrammarImage) (k c : Nat) (ctx : List Nat) (st : Nat) (stack : List Nat) : List Draft :=
  ((s.draftTries x vocab g k c ctx st stack).filter Prod.snd).map Prod.fst

/-- `verify` of R296 for one draft token: accepted, and the token that stands there. -/
def Session.verify (x : Session) (c : Nat) (d : Draft) (main : Masked) : Bool × Choice :=
  match lowestAllowed main with
  | none => (false, ⟨d.tok, true, 0⟩)
  | some low =>
    if x.isGreedy then
      match greedy main with
      | some t => (t == d.tok, ⟨t, false, nanCount main⟩)
      | none => (low == d.tok, ⟨low, true, nanCount main⟩)
    else
      match weights x.temperature x.topK x.topP main with
      | none => (low == d.tok, ⟨low, true, nanCount main⟩)
      | some pw =>
        let qw := if d.degenerate then (List.range main.length).map (fun t => if t == d.tok then (0x3F800000 : Lane) else 0)
          else (weights x.temperature x.topK x.topP d.logits).getD []
        let sp := totalL pw
        let sq := totalL qw
        let u := genU x.genSeed c 2
        if ltL (mulL (mulL u (qw.getD d.tok 0)) sp) (mulL (pw.getD d.tok 0) sq) then (true, ⟨d.tok, false, nanCount main⟩)
        else
          let r := (pw.zip qw).map (fun (p, q) => (fmax .f32 0 (subL (mulL p sq) (mulL q sp))).1)
          let t := if r.all (fun v => v == 0 || v == 0x80000000) then drawTok pw (genU x.genSeed c 3) else drawTok r (genU x.genSeed c 3)
          (false, ⟨t, false, nanCount main⟩)

/-- Tokens a step keeps before the turn's end is judged: each with whether it is an accepted draft. -/
structure StepOut where
  toks : List (Nat × Bool)
  drafts : Nat
  accepted : Nat
  nan : Nat
  degenerate : Nat
deriving DecidableEq, Repr

/-- Verification over the drafts, then the main model's own token (R296). -/
def State.verifyAll (s : State) (x : Session) (vocab : Nat) (g : Option GrammarImage) : List Draft → Nat → List Nat → Nat → List Nat → StepOut
  | [], c, ctx, st, stack =>
    match x.choose (s.maskedLogits vocab x.model ctx g st stack false) c 0 with
    | none => ⟨[], 0, 0, 0, 0⟩
    | some ch => ⟨[(ch.tok, false)], 0, 0, ch.nan, ch.degenerate.toNat⟩
  | d :: r, c, ctx, st, stack =>
    let (ok, ch) := x.verify c d (s.maskedLogits vocab x.model ctx g st stack false)
    if ok then
      let (st', stack') := match g with
        | none => (st, stack)
        | some p => gAdvance p st stack d.tok
      let o := s.verifyAll x vocab g r (c + 1) (ctx ++ [d.tok]) st' stack'
      { o with toks := (d.tok, true) :: o.toks, accepted := o.accepted + 1, nan := o.nan + ch.nan,
               degenerate := o.degenerate + ch.degenerate.toNat }
    else ⟨[(ch.tok, false)], 0, 0, ch.nan, ch.degenerate.toNat⟩

/-- Grammar states of a step's positions, from a state on: after each of a list of tokens (R276). -/
def grammarPath (g : GrammarImage) : List Nat → Nat → List Nat → List (Nat × List Nat)
  | [], st, stack => [(st, stack)]
  | t :: r, st, stack => (st, stack) :: grammarPath g r (gAdvance g st stack t).1 (gAdvance g st stack t).2

/-- Mask tiles of a step's positions, in order (R274): the draft model's where it is asked for a token, then the main model's at each position of the draft
chain. -/
def State.stepMasks (s : State) (x : Session) (g : GrammarSlot) (vocab k : Nat) : List Nat :=
  let ds := s.draftChain x vocab (some g.image) k x.positions (s.context x x.positions) x.grState x.grStack
  let path := grammarPath g.image (ds.map (fun d => d.tok)) x.grState x.grStack
  g.maskTiles ((path.take (min k path.length)).map (fun p => (p.1, p.2, true)) ++ path.map (fun p => (p.1, p.2, false)))

/-- A step's tokens (R291-R296), NaN logits and degenerate choices counted of a draft that is discarded too: none where the first position's mask allows no token (R278). `k` is 0 for a prefill row. -/
def State.stepTokens (s : State) (x : Session) (vocab k : Nat) : Option StepOut :=
  let g := s.grammarOf x
  let c := x.positions
  let ctx := s.context x c
  let main := s.maskedLogits vocab x.model ctx g x.grState x.grStack false
  if (lowestAllowed main).isNone then none
  else
    let tries := (s.draftTries x vocab g k c ctx x.grState x.grStack).map Prod.fst
    let ds := s.draftChain x vocab g k c ctx x.grState x.grStack
    let o := s.verifyAll x vocab g ds c ctx x.grState x.grStack
    some { o with drafts := ds.length, nan := o.nan + (tries.map (fun d => d.nan)).foldl (· + ·) 0,
                  degenerate := o.degenerate + (tries.filter (fun d => d.degenerate)).length }

end Sys2Proof.Machine
end

