-- ==== Sys2Proof/Machine/SearchOps.lean ====
section
/-! DEFINITION. Vector indexes (R329-R344): distances, the beam search, neighbour selection, the message operations QUERY, INSERT and
DELETE, epochs and the repair sweep. -/

namespace Sys2Proof.Machine

/-! ### Distances (R332) -/

/-- One accumulator lane: elements t, t + 32, ... in ascending order. -/
def distLane (l2 : Bool) (q v : List Lane) (t n : Nat) : Lane :=
  (List.range n).foldl (fun acc i =>
    let a := q.getD (32 * i + t) 0
    let b := v.getD (32 * i + t) 0
    if l2 then
      let x := (fsub .f32 a b).1
      (fma .f32 x x acc).1
    else (fma .f32 a b acc).1) 0

/-- `dist` of R332: metric 0 L2, 1 IP, 2 COSINE. -/
def vxDist (metric : Nat) (q v : List Lane) : Lane :=
  let d := q.length
  let s := treeSum ((List.range (min d 32)).map (fun t => distLane (metric == 0) q v t (ceilDiv (d - t) 32)))
  if metric == 0 then s else (fneg .f32 s).1

/-- A distance is nearer than another; one that is NaN compares as the spec leaves open (log entry 13). -/
def nearer (a b : Lane) : Bool :=
  if isNaN (f32 a) || isNaN (f32 b) then Config.nanCompare 9 a b else ltV false (f32 a) (f32 b)

/-- Order of beam and result lists: ascending (distance, identifier) (R336). -/
def hitBefore (a b : Lane × Nat) : Bool := nearer a.1 b.1 || (!nearer b.1 a.1 && decide (a.2 < b.2))

/-- Insert in order, before the first entry that comes after. -/
def insertBy {α : Type} (before : α → α → Bool) (x : α) : List α → List α
  | [] => [x]
  | y :: r => if before x y then x :: y :: r else y :: insertBy before x r

/-- A stored vector or query under the index's metric: normalised under COSINE, none for one that R332 refuses. -/
def vxPrepare (metric : Nat) (v : List Lane) : Option (List Lane) :=
  let finite (l : Lane) : Bool := match f32 l with
    | .fin _ _ => true
    | _ => false
  if !v.all finite then none
  else if metric != 2 then some v
  else
    let s2 := vxDist 0 v (List.replicate v.length 0)
    if (s2.toNat % 2 ^ 31) == 0 then none
    else
      let r := (rsq s2).1
      some (v.map (fun l => (fmul .f32 l r).1))

/-! ### Index state -/

/-- Visible at an epoch, and excluded from results at a delete sequence (R335). -/
def vxVisible (e : Nat) (n : VxNode) : Bool := n.live && decide (n.insEpoch ≤ e)
def vxExcluded (d : Nat) (n : VxNode) : Bool := n.tomb && decide (n.tombSeq ≤ d)

/-- A node from its record and its vector. -/
def parseNode (o : Octets) (v : List Lane) : VxNode :=
  let f := octField o 5 1
  ⟨octField o 0 5, f % 2 == 1, f / 2 % 2 == 1, octField o 8 4, octField o 0xC 4,
   (List.range (octField o 6 1)).map (fun i => octField o (0x10 + 4 * i) 4), v⟩

/-- Vector of a slot from an index's VECTOR tiles in order. -/
def tilesVector (d : Nat) (vs : List Octets) (n : Nat) : List Lane :=
  let o := if d ≤ 1024 then
      let per := 1024 / max d 1
      slice (vs.getD (n / per) []) (4 * d * (n % per)) (4 * d)
    else ((vs.drop (n * ceilDiv d 1024)).take (ceilDiv d 1024)).flatMap (fun t => t.take 4096)
  (List.range d).map (fun i => BitVec.ofNat 32 (octField o (4 * i) 4))

/-- Nodes that the tiles of a source hold: its VECTOR and its NEIGHBOUR tiles, each in order (R330, R344). -/
def parseVx (graph : Bool) (d degree cap : Nat) (o : Octets) : SMap VxNode :=
  let ts := records 4352 o
  let vs := ts.filter (fun t => (parseTile t).kind == 3)
  let size := vxRecBytes graph degree
  let recs := (ts.filter (fun t => (parseTile t).kind == 4)).flatMap (fun t => (records size (t.take 4096)).take (4096 / size))
  ((recs.take cap).zipIdx.filter (fun p => octField p.1 5 1 % 2 == 1)).foldl (fun m p =>
    mput m p.2 (parseNode p.1 (tilesVector d vs p.2))) []

/-- Tiles that hold slot x's record (even keys) and vector (odd keys). -/
def vxRecTile (graph : Bool) (degree x : Nat) : Nat := 2 * (x / (4096 / vxRecBytes graph degree))
def vxVecTiles (d x : Nat) : List Nat :=
  if d ≤ 1024 then [2 * (x / (1024 / max d 1)) + 1]
  else (List.range (ceilDiv d 1024)).map (fun p => 2 * (x * ceilDiv d 1024 + p) + 1)

/-! ### The beam search (R336-R338) -/

/-- A beam entry. -/
structure BeamEntry where
  dl : Lane
  id : Nat
  slot : Nat
  done : Bool
deriving DecidableEq, Repr

/-- What a query holds while it runs. -/
structure QueryRun where
  beam : List BeamEntry
  res : List (Lane × Nat)
  seen : List Nat
  visits : Nat
  trunc : Bool
  /-- expansions of excluded nodes -/
  stones : Nat
  /-- tiles prefetched -/
  tiles : List Nat
deriving DecidableEq, Repr

/-- Parameters of a query and of the index it walks. -/
structure QueryParams where
  metric : Nat
  d : Nat
  degree : Nat
  e : Nat
  s : Nat
  k : Nat
  bw : Nat
  pf : Nat
  limit : Nat
deriving DecidableEq, Repr

/-- Tiles the prefetch asks for after an evaluation (R337): the record tiles of the unexpanded entries among the first `pf` of the beam,
and the vector tiles of their unseen neighbours. -/
def prefetch (p : QueryParams) (nodes : SMap VxNode) (q : QueryRun) : QueryRun :=
  let want := ((q.beam.take p.pf).filter (fun b => !b.done)).flatMap (fun b =>
    vxRecTile true p.degree b.slot ::
      ((((mget nodes b.slot).map (fun n => n.nbrs)).getD []).filter (fun n => !q.seen.contains n)).flatMap (vxVecTiles p.d))
  { q with tiles := want.foldl (fun l t => if l.contains t then l else t :: l) q.tiles }

/-- `eval` of R336. -/
def vxEval (p : QueryParams) (nodes : SMap VxNode) (qv : List Lane) (q : QueryRun) (x : Nat) : QueryRun :=
  match mget nodes x with
  | none => q
  | some n =>
    if !vxVisible p.e n || q.seen.contains x then q
    else if q.visits == p.limit then { q with trunc := true }
    else
      let dl := vxDist p.metric qv n.vec
      let beam := (insertBy (fun a b => hitBefore (a.dl, a.id) (b.dl, b.id)) ⟨dl, n.id, x, false⟩ q.beam).take p.bw
      let res := if vxExcluded p.s n then q.res else (insertBy hitBefore (dl, n.id) q.res).take p.k
      prefetch p nodes { q with beam := beam, res := res, seen := x :: q.seen, visits := q.visits + 1 }

/-- The loop of R336; every turn marks one entry done, so the fuel is the number of nodes. -/
def vxLoop (p : QueryParams) (nodes : SMap VxNode) (qv : List Lane) : Nat → QueryRun → QueryRun
  | 0, q => q
  | f + 1, q =>
    match q.beam.find? (fun b => !b.done) with
    | none => q
    | some c =>
      let q := { q with beam := q.beam.map (fun b => if b.slot == c.slot then { b with done := true } else b) }
      match mget nodes c.slot with
      | none => vxLoop p nodes qv f q
      | some n =>
        let q := if vxExcluded p.s n then { q with stones := q.stones + 1 } else q
        vxLoop p nodes qv f (n.nbrs.foldl (vxEval p nodes qv) q)

/-- A GRAPH query from the entry (R336). -/
def vxGraph (p : QueryParams) (nodes : SMap VxNode) (entry : Nat) (qv : List Lane) : QueryRun :=
  vxLoop p nodes qv (nodes.length + 1) (vxEval p nodes qv ⟨[], [], [], 0, false, 0, []⟩ entry)

/-- A FLAT query (R338). -/
def vxFlat (p : QueryParams) (nodes : SMap VxNode) (qv : List Lane) : QueryRun :=
  nodes.foldl (fun (q : QueryRun) (x : Nat × VxNode) =>
    if vxVisible p.e x.2 then
      let dl := vxDist p.metric qv x.2.vec
      { q with visits := q.visits + 1,
               res := if vxExcluded p.s x.2 then q.res else (insertBy hitBefore (dl, x.2.id) q.res).take p.k }
    else q) ⟨[], [], [], 0, false, 0, []⟩

/-! ### Neighbour selection (R340) -/

/-- `select` of R340 over candidates with their vectors. -/
def vxSelect (metric deg : Nat) (xv : List Lane) (cand : List (Nat × List Lane)) : List Nat :=
  let split := cand.foldl (fun (a : List (Nat × List Lane) × List Nat) c =>
    if deg ≤ a.1.length then a
    else if a.1.all (fun n => !nearer (vxDist metric n.2 c.2) (vxDist metric xv c.2)) then (a.1 ++ [c], a.2)
    else (a.1, a.2 ++ [c.1])) ([], [])
  (split.1.map Prod.fst ++ split.2).take deg

/-- Candidates in ascending (distance to a vector, identifier). -/
def vxOrder (metric : Nat) (nodes : SMap VxNode) (v : List Lane) (slots : List Nat) : List (Nat × List Lane) :=
  let found := slots.filterMap (fun x => (mget nodes x).map (fun n => (x, n)))
  let sorted := found.foldl (fun (l : List ((Lane × Nat) × Nat × List Lane)) p =>
    insertBy (fun a b => hitBefore a.1 b.1) ((vxDist metric v p.2.vec, p.2.id), p.1, p.2.vec) l) []
  sorted.map Prod.snd

/-- A node's list as it stands staged for the next epoch. -/
def vxStaged (x : VxIndex) (n : Nat) : List Nat :=
  match (x.edits.filter (fun p => p.1 == n)).getLast? with
  | some p => p.2
  | none => ((mget x.nodes n).map (fun r => r.nbrs)).getD []

/-! ### Shape of an index -/

/-- The index is a GRAPH. -/
def State.vxGraphKind (s : State) (ii : Nat) : Bool := s.obj Ob.vx_kind ii == 1

/-- Parameters of a walk of index ii at a pin. -/
def State.vxParams (s : State) (ii e d k bw pf limit : Nat) : QueryParams :=
  ⟨s.obj Ob.vx_metric ii, s.obj Ob.vx_dims ii, s.obj Ob.vx_degree ii, e, d, k, bw, pf, limit⟩

/-- Lanes of fetched bytes, little-endian. -/
def lanesOf (d : Nat) (o : Octets) : List Lane := (List.range d).map (fun i => BitVec.ofNat 32 (ofLE (slice o (4 * i) 4)))

/-- A station may query an index (R329); an operation that writes needs its owner, or privilege for a shared index. Only of an index that it may use does
it learn that the index is corrupt (R507). -/
def State.vxOpen (s : State) (st ii : Nat) (write : Bool) : Nat :=
  let own := s.obj Ob.vx_station ii
  if !(own == st || (own == 0xFFFF && (!write || s.privileged st))) then St.VX_INDEX_UNKNOWN
  else if s.obj Ob.vx_state ii == 3 then St.VX_CORRUPT
  else if s.obj Ob.vx_state ii != 2 || (s.vxAt ii).dropping then St.VX_INDEX_UNKNOWN
  else St.OK

/-! ### Host reads (R487, R494) -/

/-- Issue READ_REQs of up to 4,096 bytes for `len` bytes at a host address, in address order. -/
def Station.fetch (x : Station) (tick addr len : Nat) (use : Nat → ReadUse) : Station :=
  (List.range (ceilDiv len 4096)).foldl (fun (x : Station) i =>
    { x with reads := mput x.reads x.nextTag ⟨addr + 4096 * i, min 4096 (len - 4096 * i), tick, use (4096 * i)⟩
             nextTag := x.nextTag + 1 }) x

/-- Fetch the vector of a SEARCH. -/
def State.fetchVector (s : State) (o : VxOp) : State :=
  s.setStation o.st ((s.station o.st).fetch s.tick o.body.vecAddr (4 * s.obj Ob.vx_dims o.index) (fun _ => .vector o.seq))

/-! ### Messages (R333, R340, R342) -/

/-- QUERY: queued in the index's half (R334). -/
def State.queryMsg (s : State) (st : Nat) (e : Intake) (b : SearchBody) : State :=
  let c := s.vxOpen st b.index false
  if c != St.OK then s.finish st e.msg.hdr.seq (Outcome.of c)
  else
    let s := (s.leaveIntake st e.msg.hdr.seq).setIntake st e.msg.hdr.seq (fun i => { i with stage := .working })
    { s with srch := { s.srch with queries := s.srch.queries ++ [⟨st, e.msg.hdr.seq, b.index, b, none, []⟩] } }

/-- INSERT: its vector is fetched (R494), then checked and staged (`State.vxInsert`). -/
def State.insertMsg (s : State) (st : Nat) (e : Intake) (b : SearchBody) : State :=
  let c := s.vxOpen st b.index true
  if c != St.OK then s.finish st e.msg.hdr.seq (Outcome.of c)
  else
    let s := (s.leaveIntake st e.msg.hdr.seq).setIntake st e.msg.hdr.seq (fun i => { i with stage := .working })
    let o : VxOp := ⟨st, e.msg.hdr.seq, b.index, b, none, []⟩
    ({ s with srch := { s.srch with running := s.srch.running ++ [o] } } : State).fetchVector o

/-- Stage an insert at a slot (R340). -/
def State.vxStage (s : State) (ii st seq pos id : Nat) (v : List Lane) : State :=
  let x := s.vxAt ii
  let slot := mfreeFrom x.nodes 0
  (s.setVx ii { x with
    nodes := mput x.nodes slot ⟨id, true, false, 0, vxPending, [], v⟩
    inserts := x.inserts ++ [⟨slot, st, seq, pos, !s.vxGraphKind ii⟩] }).setObj Ob.vx_journal_pos ii pos

/-- A record of a SEARCH: the station's mode says whether it is journaled (R409). -/
def State.searchRecord (s : State) (st : Nat) (e : Intake) (ii : Nat) : State × Nat :=
  let mode := (s.station st).fbMode
  let seq := e.msg.hdr.seq
  if mode == 2 then (s.seqAdd st seq 0, 0)
  else
    let body : RecBody := .accept seq (msgType e.msg.body) 3 false false false mode (msgBytes e.msg) 0 0 [] e.msg
    let (s, pos) := s.appendRec (s.obj Ob.vx_half ii) 0xFFFFFFFF st 0 body
    (s.seqAdd st seq pos, pos)

/-- Complete a SEARCH with a result once its record is durable. -/
def State.searchDone (s : State) (st seq pos result : Nat) : State :=
  if pos == 0 || s.durable pos then s.finish st seq ⟨St.OK, 0, result, pos, false⟩
  else (s.setIntake st seq (fun i => { i with stage := .accepted pos, result := result })).waitDurable pos (.acceptance st seq)

/-- An INSERT whose vector has arrived. -/
def State.vxInsert (s : State) (o : VxOp) (data : Octets) : State :=
  let x := s.vxAt o.index
  let refuse (c : Nat) : State := s.finish o.st o.seq (Outcome.of c)
  let c := s.vxOpen o.st o.index true
  if c != St.OK then refuse c
  else if (vxFind x o.body.id).isSome then refuse St.VX_ID_IN_USE
  else if s.obj Ob.vx_capacity o.index ≤ mfreeFrom x.nodes 0 then refuse St.VX_FULL
  else match vxPrepare (s.obj Ob.vx_metric o.index) (lanesOf (s.obj Ob.vx_dims o.index) data) with
    | none => refuse St.VX_VECTOR_INVALID
    | some v =>
      match (s.station o.st).find o.seq with
      | none => s
      | some e =>
        let e : Intake := { e with msg := { e.msg with body := .insert { o.body with data := data } } }
        let (s, pos) := s.searchRecord o.st e o.index
        s.vxStage o.index o.st o.seq pos o.body.id v

/-- Tombstone a node, or retire one whose insert is pending (R342). The delete sequence is the answer. -/
def State.vxDelete (s : State) (ii slot pos : Nat) (n : VxNode) : State × Nat :=
  let seq := (s.obj Ob.vx_del_seq ii + 1) % 2 ^ 32
  let s := (s.setObj Ob.vx_del_seq ii seq).setObj Ob.vx_journal_pos ii pos
  let x := s.vxAt ii
  let x := { x with nodes := mput x.nodes slot { n with tomb := true, tombSeq := seq } }
  if n.insEpoch == vxPending then
    let gone := x.inserts.filter (fun i => i.slot == slot)
    let s := s.setVx ii { x with
      inserts := x.inserts.filter (fun i => i.slot != slot)
      edits := (x.edits.filter (fun p => p.1 != slot)).map (fun p => (p.1, p.2.filter (fun n => n != slot)))
      retire := x.retire ++ [slot] }
    (gone.foldl (fun s i => s.finish i.st i.seq (Outcome.of St.VX_ID_UNKNOWN)) s, seq)
  else ((s.setVx ii x).setObj Ob.vx_live ii (s.obj Ob.vx_live ii - 1), seq)

/-- DELETE (R342). -/
def State.deleteMsg (s : State) (st : Nat) (e : Intake) (b : SearchBody) : State :=
  let refuse (c : Nat) : State := s.finish st e.msg.hdr.seq (Outcome.of c)
  let c := s.vxOpen st b.index true
  if c != St.OK then refuse c
  else match vxFind (s.vxAt b.index) b.id with
    | none => refuse St.VX_ID_UNKNOWN
    | some (slot, n) =>
      if n.tomb then refuse St.VX_ID_UNKNOWN
      else
        let (s, pos) := s.searchRecord st e b.index
        let (s, seq) := s.vxDelete b.index slot pos n
        s.searchDone st e.msg.hdr.seq pos seq

/-! ### Epochs and the repair sweep (R341, R343) -/

/-- Staged work: linked inserts, repair edits or retirements. -/
def vxHasWork (x : VxIndex) : Bool := x.inserts.any (fun i => i.linked) || !x.edits.isEmpty || !x.retire.isEmpty

/-- Queries of an index that are running. -/
def State.vxRunning (s : State) (ii : Nat) : Bool := s.srch.running.any (fun o => o.index == ii && o.pin.isSome)

/-- Write the staged records, make the new nodes visible, retire, and set the epoch (R341, R343). -/
def State.vxAdvance (s : State) (ii : Nat) : State :=
  let x := s.vxAt ii
  let h := s.obj Ob.vx_half ii
  let e := s.obj Ob.vx_epoch ii + 1
  let linked := x.inserts.filter (fun i => i.linked)
  let nodes := x.edits.foldl (fun (m : SMap VxNode) p => match mget m p.1 with
    | some n => mput m p.1 { n with nbrs := p.2 }
    | none => m) x.nodes
  let nodes := linked.foldl (fun (m : SMap VxNode) i => match mget m i.slot with
    | some n => mput m i.slot { n with insEpoch := e }
    | none => m) nodes
  let kept := x.retire.foldl (fun (m : SMap VxNode) a => mdel m a) nodes
  let old := s.obj Ob.vx_entry ii
  let entry :=
    if x.retire.contains old then
      match mget nodes old with
      | none => 0xFFFFFFFF
      | some n =>
        let live := n.nbrs.filter (fun a => ((mget kept a).map (fun m => m.live && !m.tomb)).getD false)
        ((vxOrder (s.obj Ob.vx_metric ii) kept n.vec live).head?.map Prod.fst).getD 0xFFFFFFFF
    else old
  let entry := if entry == 0xFFFFFFFF && s.vxGraphKind ii then (linked.head?.map (fun i => i.slot)).getD entry else entry
  let waits := s.srch.queries.any (fun o => o.index == ii)
  let s := match x.advancing with
    | some t => if waits then s.addObj Ob.cnt_vx_advance_stall h (s.tick - t) else s
    | none => s
  let tombs := kept.any (fun p => p.2.tomb && p.2.insEpoch != vxPending)
  let sweep : Option (Nat × Nat) := if x.sweep.isNone && tombs then some (s.obj Ob.vx_del_seq ii, 0) else x.sweep
  let s := s.setVx ii { x with
    nodes := kept, inserts := x.inserts.filter (fun i => !i.linked), edits := [], retire := [], advancing := none, sweep := sweep }
  let s := (((s.setObj Ob.vx_epoch ii (e % 2 ^ 32)).setObj Ob.vx_entry ii entry).setObj Ob.vx_sweep_pos ii
    ((sweep.map Prod.snd).getD 0xFFFFFFFF)).addObj Ob.cnt_vx_retired h x.retire.length
  let s := s.setObj Ob.vx_live ii ((kept.filter (fun p => vxVisible e p.2 && !p.2.tomb)).length)
  linked.foldl (fun s i => s.searchDone i.st i.seq i.pos e) s

/-- DROP once no query runs. -/
def State.vxDropNow (s : State) (ii : Nat) : State :=
  (((s.vxClear ii St.VX_INDEX_UNKNOWN).setObj Ob.vx_state ii 0).setObj Ob.vx_journal_pos ii 0).setObj Ob.vx_status ii St.OK

/-- What a query's end lets proceed: a DROP or an advance that waited (R341, R344). -/
def State.vxSettle (s : State) (ii : Nat) : State :=
  let x := s.vxAt ii
  if s.vxRunning ii then s
  else if x.dropping then s.vxDropNow ii
  else if x.advancing.isSome then s.vxAdvance ii
  else s

/-- A running query whose vector has arrived: the search, the result block and the completion (R336-R339). -/
def State.vxAnswer (s : State) (o : VxOp) (e d : Nat) (data : Octets) : State :=
  let ii := o.index
  let h := s.obj Ob.vx_half ii
  let x := s.vxAt ii
  if s.obj Ob.vx_state ii != 2 then
    s.finish o.st o.seq (Outcome.of (if s.obj Ob.vx_state ii == 3 then St.VX_CORRUPT else St.VX_INDEX_UNKNOWN))
  else match vxPrepare (s.obj Ob.vx_metric ii) (lanesOf (s.obj Ob.vx_dims ii) data) with
    | none => s.finish o.st o.seq (Outcome.of St.VX_VECTOR_INVALID)
    | some qv =>
      let p := s.vxParams ii e d o.body.k o.body.beam o.body.prefetch o.body.visitLimit
      let q := if s.vxGraphKind ii then vxGraph p x.nodes (s.obj Ob.vx_entry ii) qv else vxFlat p x.nodes qv
      let s := ((s.addObj Ob.cnt_vx_nodes_evaluated h q.visits).addObj Ob.cnt_vx_prefetch_tiles h q.tiles.length).addObj
        Ob.cnt_vx_stepping_stones h q.stones
      let s := if q.trunc then s.bump Ob.cnt_vx_truncated h else s
      let s := s.debitNow false o.st 1 q.tiles.length
      let hits : List QueryHit := q.res.map (fun r => ⟨r.2, r.1⟩)
      let s := s.setStation o.st ((s.station o.st).push o.body.resultAddr (.query e d q.visits q.trunc hits))
      s.finish o.st o.seq ⟨St.OK, 0, hits.length, 0, false⟩

/-- Bytes of a SEARCH's vector arrive at an offset; with the last the operation goes on. -/
def State.vectorArrived (s : State) (st seq off : Nat) (data : Octets) : State :=
  match s.srch.running.find? (fun o => o.st == st && o.seq == seq) with
  | none => s
  | some o =>
    let o' : VxOp := { o with parts := mput o.parts off data }
    let all := o'.parts.flatMap (fun p => p.2)
    if all.length < 4 * s.obj Ob.vx_dims o.index then
      { s with srch := { s.srch with running := s.srch.running.map (fun (r : VxOp) => if r == o then o' else r) } }
    else
      let s := { s with srch := { s.srch with running := s.srch.running.erase o } }
      match o.pin with
      | none => s.vxInsert o' all
      | some (e, d) => (s.vxAnswer o' e d all).vxSettle o.index

/-- A SEARCH's vector read failed (R487). -/
def State.vectorFailed (s : State) (st seq : Nat) : State :=
  match s.srch.running.find? (fun o => o.st == st && o.seq == seq) with
  | none => s
  | some o =>
    (({ s with srch := { s.srch with running := s.srch.running.erase o } } : State).finish st seq
      (Outcome.of St.HOST_READ_FAILED)).vxSettle o.index

/-! ### Replay (R409, R412) -/

/-- After a reset that keeps T2: operations in flight are gone, and inserts not yet visible are linked again from their records; a
staged node whose record is not durable is discarded. -/
def State.vxReset (s : State) (half : Nat) : State :=
  let s := { s with srch := { s.srch with
    queries := s.srch.queries.filter (fun (o : VxOp) => s.obj Ob.vx_half o.index != half)
    running := s.srch.running.filter (fun (o : VxOp) => s.obj Ob.vx_half o.index != half) } }
  (s.srch.vx.filter (fun p => s.obj Ob.vx_half p.1 == half)).foldl (fun s p =>
    let x := p.2
    let keep := x.inserts.filter (fun i => i.pos != 0 && s.durable i.pos)
    let gone := x.inserts.filter (fun i => !(i.pos != 0 && s.durable i.pos))
    s.setVx p.1 { x with
      nodes := gone.foldl (fun (m : SMap VxNode) i => mdel m i.slot) x.nodes
      inserts := keep.map (fun (i : VxInsert) => { i with linked := !s.vxGraphKind p.1 })
      edits := [], sweep := none, advancing := none }) s

/-- An INSERT or DELETE record above the index's position is applied again (R409). -/
def State.vxReplay (s : State) (r : Rec) : State :=
  match r.body with
  | .accept seq _ _ _ _ _ _ _ _ _ _ m =>
    match m.body with
    | .insert b =>
      if s.obj Ob.vx_state b.index != 2 || r.pos ≤ s.obj Ob.vx_journal_pos b.index then s
      else match vxPrepare (s.obj Ob.vx_metric b.index) (lanesOf (s.obj Ob.vx_dims b.index) b.data) with
        | none => s
        | some v => if (vxFind (s.vxAt b.index) b.id).isSome then s else s.vxStage b.index r.station seq r.pos b.id v
    | .delete b =>
      if s.obj Ob.vx_state b.index != 2 || r.pos ≤ s.obj Ob.vx_journal_pos b.index then s
      else match vxFind (s.vxAt b.index) b.id with
        | none => s
        | some (slot, n) => if n.tomb then s else (s.vxDelete b.index slot r.pos n).1
    | _ => s
  | _ => s

end Sys2Proof.Machine
end

