-- ==== Sys2Proof/Machine/CkOctets.lean ====
section
/-! DEFINITION. Octet layouts of a checkpoint (R438, R444-R446): catalogue entries, shards with their digest, and manifests with their signature. -/

namespace Sys2Proof.Machine

/-- Catalogue entry in its 64 octets (Table 13-1). -/
def catOctets (e : CatEntry) : Octets :=
  let o := toLE 8 e.id ++ toLE 8 e.frame ++ toLE 1 e.state ++ toLE 1 e.producer ++ toLE 2 e.position ++ toLE 4 e.tiles ++ toLE 8 e.first
    ++ toLE 8 e.member ++ toLE 8 e.group ++ toLE 8 e.tai ++ toLE 4 e.seq
  o ++ toLE 4 (crcOf o)

/-! ### Shards (Tables 13-2, 13-3, R444) -/

/-- A RAW tile with a payload. -/
def rawTile (payload : Octets) : Tile := { freeTile with kind := 9, payload := bputs [] 0 payload }

/-- DESC tile `k` of a half: its live descriptors at their places (Table 3-5), the first index it holds and how many are live (Table 3-2). -/
def descTile (half k : Nat) (xs : List Session) : Tile :=
  { freeTile with kind := 5, owner := half, locator := 8 * k, valid := (xs.filter (fun x => x.index / 8 == k)).length, payload := xs.foldl (fun m x => if x.index / 8 == k then bputs m (512 * (x.index % 8)) x.bytes else m) [] }

/-- Numbers of the DESC tiles that hold a live descriptor. -/
def descTiles (xs : List Session) : List Nat := (xs.foldl (fun (m : SMap Unit) x => mput m (x.index / 8) ()) []).map Prod.fst

/-- State of an object in 16 octets (Table 10-1); a record holds no waiters. -/
def syncOctets (x : SyncObj) : Octets :=
  toLE 1 ((match x.type with
    | .free => 0
    | .counter => 1
    | .event => 2
    | .closure => 3) + 4 * x.group.toNat + 8 * x.persist.toNat) ++ toLE 1 0 ++ toLE 2 x.owner ++ toLE 4 x.value ++ toLE 2 x.parties ++ toLE 2 x.cntEven
    ++ toLE 2 x.cntOdd ++ toLE 2 0

/-- Tile `k` of 32 of a half's sync mirror: 256 objects of 16 octets each. -/
def syncTile (half k : Nat) (l : SMap SyncObj) : Tile :=
  rawTile ((List.range 256).flatMap (fun j => match mget l (8192 * half + 256 * k + j) with
    | some x => syncOctets x
    | none => toLE 16 0xFFFF0000))

/-- An object of an index in a shard. -/
def CkIndex.obj (v : CkIndex) (o : ObjSpec) : Nat := ((v.objs.find? (fun p => p.1 == o.subLo)).map Prod.snd).getD 0

/-- Tiles of a shard that Detrum keeps in tables of its own, with their original addresses: descriptors, live records and the sync mirror. Where the
system region holds theirs is a free value (log entry 175). -/
def CkShard.sys (h : CkShard) : List (Nat × Tile) :=
  let at' (kind : Nat) (l : List Tile) : List (Nat × Tile) := l.zipIdx.map (fun p => (Config.systemTile h.half kind p.2, p.1))
  at' 5 ((descTiles h.sessions).map (fun k => descTile h.half k h.sessions))
    ++ at' 6 ((journalTiles 0 h.recs).map (fun p => { freeTile with kind := 6, owner := h.half, payload := bputs [] 0 p }))
    ++ at' 9 ((List.range 32).map (fun k => syncTile h.half k h.sync))

/-- Data tiles of a shard with their original addresses, in the order in which they left the staging pool (R444). -/
def CkShard.data (h : CkShard) : List (Nat × Tile) := h.tiles

/-- Fixed part of a shard header before its CRC (Table 13-3). -/
def CkShard.hdr (h : CkShard) : Octets :=
  let n := h.data.length
  toLE 4 h.magic ++ toLE 2 h.major ++ toLE 2 h.minor ++ toLE 8 h.id ++ toLE 8 h.frame ++ toLE 8 h.trv ++ toLE 2 h.position ++ toLE 1 h.half ++ toLE 1 0
    ++ toLE 2 h.epoch ++ toLE 2 0 ++ toLE 4 n ++ toLE 4 (ceilDiv n 512)

/-- Index tile `j` of a shard: the original addresses of its data tiles (R444). -/
def indexTile (addrs : List Nat) (j : Nat) : Tile :=
  rawTile ((List.range 512).flatMap (fun i => toLE 8 (addrs.getD (512 * j + i) noTile)))

/-- Every tile of a shard in stored order: header, index tiles, data tiles. -/
def CkShard.stored (h : CkShard) : List Tile :=
  let d := h.data
  rawTile (h.hdr ++ toLE 4 h.crc) :: (List.range (ceilDiv d.length 512)).map (indexTile (d.map Prod.fst)) ++ d.map Prod.snd

/-- Shard digest (R444). -/
def CkShard.digest (h : CkShard) : Octets := Config.shake256 (h.stored.flatMap tileOctets) 32

/-- A tile of one of the shard's vector indexes. -/
def CkShard.vxTile (h : CkShard) (t : Tile) : Bool :=
  (t.kind == 3 || t.kind == 4) && h.vx.any (fun v => t.owner == vxOwner v.index v.body.generation)

/-- Every data tile passes R96, and the tiles are those of Table 13-2: key/value and RAW tiles, those of the shard's indexes, and exactly the descriptors,
records and mirror that the shard's tables hold. -/
def CkShard.tilesOk (h : CkShard) : Bool :=
  h.tiles.all (fun p => p.2.formatOk && (p.2.kind == 1 || p.2.kind == 9 || h.vxTile p.2 || h.sys.contains p)) && h.sys.all (fun p => h.tiles.contains p)

/-! ### Manifests (Tables 13-4, 13-5, R445, R446) -/

/-- An offset raised to a multiple of 8. -/
def to8 (n : Nat) : Nat := ceilDiv n 8 * 8

/-- Entries of a manifest and its binds. -/
def Manifest.entries (m : Manifest) : Octets :=
  m.shards.flatMap (fun e => toLE 4 e.half ++ toLE 4 e.tiles ++ toLE 4 e.sessions ++ toLE 4 0 ++ toLE 8 e.first ++ fitOctets 32 e.digest ++ toLE 8 0)
    ++ m.members.flatMap (fun e => toLE 8 e.position ++ toLE 8 e.manifest ++ fitOctets 32 e.signer ++ fitOctets 32 e.digest)
    ++ m.binds.flatMap (fun b => toLE 1 b.1 ++ toLE 7 b.2.1 ++ fitOctets 32 b.2.2)

/-- Fixed part before its CRC. -/
def Manifest.hdr (m : Manifest) : Octets :=
  toLE 4 m.magic ++ toLE 2 m.major ++ toLE 2 m.minor ++ toLE 4 m.required ++ toLE 4 m.optional ++ toLE 1 m.kind ++ toLE 1 m.producer
    ++ toLE 2 m.groupSize ++ toLE 4 m.position ++ toLE 8 m.id ++ toLE 8 m.frame ++ toLE 8 m.tick ++ toLE 8 m.tai ++ toLE 32 m.trv ++ toLE 8 m.platEpoch
    ++ fitOctets 32 m.signer ++ toLE 8 m.v0 ++ toLE 8 m.v1 ++ toLE 4 (m.shards.length + m.members.length) ++ toLE 4 m.binds.length ++ toLE 4 m.sessions
    ++ toLE 4 m.keyOffset ++ toLE 4 m.sigOffset ++ toLE 88 0

/-- The bytes that the signature covers. -/
def Manifest.signed (m : Manifest) : Octets :=
  fitOctets m.sigOffset (fitOctets m.keyOffset (m.hdr ++ toLE 4 m.crc ++ m.entries) ++ m.key)

/-- The whole manifest. -/
def Manifest.octets (m : Manifest) : Octets := m.signed ++ m.sig

/-- A manifest with its key, its offsets, its CRC and its signature (R446). -/
def Manifest.close (m : Manifest) (n : Nat) : Manifest :=
  let k := to8 (0x100 + m.entries.length)
  let m : Manifest := { m with key := Config.idPublicKey, signer := idFingerprint, keyOffset := k, sigOffset := to8 (k + 1952) }
  let m : Manifest := { m with crc := crcOf m.hdr }
  { m with sig := Config.mldsaSign "DTRM-CKP-1" m.signed n }

/-- Step 2 of Table 13-6: magic, CRC and version. -/
def Manifest.form (m : Manifest) : Option Nat :=
  if m.magic != 0x4E414D43 || m.crc != crcOf m.hdr then some St.RESTORE_CORRUPT
  else if m.major != 1 || m.required != 0 then some St.FORMAT_VERSION
  else none

/-- The signature verifies under the manifest's own key, whose fingerprint is its signer. -/
def Manifest.verified (m : Manifest) : Bool :=
  m.signer == Config.shake256 m.key 32 && Config.mldsaVerify m.key "DTRM-CKP-1" m.signed m.sig

/-- Digest of a member manifest, signature included. -/
def Manifest.digest (m : Manifest) : Octets := Config.shake256 m.octets 32

end Sys2Proof.Machine
end

