-- ==== Sys2Proof/Machine/FrameOps.lean ====
section
/-! DEFINITION. What a frame boundary does (R51, R79, R81, R150, R168-R171, R219-R222, R297-R308, R367, R369, R402, R584): the step of each row, the
ends of turns, cancels and closes, and the start of the next frame. -/

namespace Sys2Proof.Machine

/-! ### Ring entries (R302, R303, R306) -/

/-- A session's entry as its next ring entry, and the session with it posted. -/
def Session.post (y : Session) (e : RingEntry) : Session × RingEntry :=
  let e' : RingEntry := { e with
    entry := y.ringWrite, phase := phaseBit y.ringLog2 y.ringWrite
    textAddr := if e.flags % 2 == 1 then y.ringBase + 64 + 32 * 2 ^ y.ringLog2 + 128 * (y.ringWrite % 2 ^ y.ringLog2) else 0 }
  ({ y with ringWrite := (y.ringWrite + 1) % 2 ^ 32, outbox := y.outbox.erase e, posted := keepLast (2 ^ y.ringLog2) (y.posted ++ [e']) }, e')

/-- A session as R402 leaves it once it has completed for the frame: every entry is posted. -/
def Session.delivered (x : Session) : Session :=
  let y := x.outbox.foldl (fun y e => (y.post e).1) x
  { y with chDelivered := y.posted.foldl (fun m e => max m (e.chainage + 1)) y.chDelivered, outbox := [], deliverDue := [] }

/-- Post one waiting entry of a session as its next ring entry. -/
def State.postEntry (s : State) (i : Nat) (e : RingEntry) : State :=
  match s.sess i with
  | none => s
  | some y =>
    let (y', e') := y.post e
    let s := s.setStation y.station ((s.station y.station).pushRing (y.ringBase + 64 + 32 * (y.ringWrite % 2 ^ y.ringLog2)) e')
    let s := s.setSess y'
    let s := s.bump Ob.cnt_ring_entries y.half
    let s := if e.flags % 2 == 1 then s.bump Ob.cnt_ring_text_ext y.half else s
    if e.flags / 512 % 2 == 1 then s.bump Ob.cnt_ring_regenerated y.half else s

/-- DELIVER record of a step, after whose entries `ring_write` stood at `rw` (R306). -/
def State.deliverRec (s : State) (i rw : Nat) : State :=
  match s.sess i with
  | none => s
  | some y => s.srec' i (.deliver y.chDelivered rw y.ringRead)

/-- Ring entries of a session that its station's write stream still holds. -/
def State.entriesOut (s : State) (x : Session) : Bool :=
  (s.station x.station).out.any (fun w => match w.body with
    | .ring e => e.sid == x.sid
    | _ => false)

/-- Once every entry of a step is posted (R502), its DELIVER record is written (R306, R402); after the last one a CLOSE that waited follows. -/
def State.settleRing (s : State) (sid : Nat) : State :=
  match s.bySid sid with
  | none => s
  | some x =>
    let idle : Bool := x.outbox.isEmpty && !s.entriesOut x
    let settled (p : Nat × Nat) : Bool := idle || decide (p.1 ≤ x.chDelivered)
    let done := x.deliverDue.takeWhile settled
    let s := s.setSess { x with deliverDue := x.deliverDue.dropWhile settled }
    let s := done.foldl (fun s p => s.deliverRec x.index p.2) s
    if idle && !done.isEmpty && x.closePending && x.state.live && x.state != .cancelling then s.enterClosed x.index 1 else s

/-- An entry is posted: `ch_delivered` advances past its token (R306). -/
def State.entryPosted (s : State) (e : RingEntry) : State :=
  match s.bySid e.sid with
  | none => s
  | some x => (s.setSess { x with chDelivered := max x.chDelivered (e.chainage + 1) }).settleRing e.sid

/-- Issue the entries of a step from one chainage up to another on the station's write stream (R303, R402). -/
def State.postRing (s : State) (sid lo hi : Nat) : State :=
  match s.bySid sid with
  | none => s
  | some x =>
    let s := (x.outbox.filter (fun e => decide (lo ≤ e.chainage ∧ e.chainage < hi))).foldl (fun s e => s.postEntry x.index e) s
    (s.modSess x.index (fun (y : Session) => { y with deliverDue := y.deliverDue ++ [(hi, y.ringWrite)] })).settleRing sid

/-! ### One kept token (R279-R283, R297, R302) -/

/-- A step's kept tokens so far. -/
structure KeepAcc where
  x : Session
  entries : List RingEntry
  /-- token codes of the STEP record -/
  codes : List Nat
  /-- entry flags of the token that ended the turn; 0 while it goes on -/
  ended : Nat
  stopIdx : Nat
  discarded : Nat
  suppressed : Nat
deriving DecidableEq, Repr

/-- Flag bits of Table 8-4 in force. -/
def flagSum (l : List (Bool × Nat)) : Nat := ((l.filter Prod.fst).map Prod.snd).foldl (· + ·) 0

/-- Keep one token, or discard it where the turn has ended. -/
def keepTok (d : Option DictImage) (ss : List StopString) (g : Option GrammarImage) (a : KeepAcc) (tk : Nat × Bool) : KeepAcc :=
  if a.ended != 0 then { a with discarded := a.discarded + 1 }
  else
    let x := a.x
    let c := x.positions
    let bytes := (d.map (fun d => tokenBytes d tk.1)).getD []
    let (out, hold, hit) := detokBytes ss x.includeStop bytes x.hold []
    let eos := d.any (fun d => d.eos == tk.1)
    let full := x.maxNew != 0 && decide (x.maxNew ≤ x.newCount + 1)
    let last := decide (x.maxPositions ≤ c + 1)
    let stopped := hit.isSome || eos
    let (out, hold) :=
      if hit.isSome then (out, hold)
      else if eos then (x.hold ++ (if x.includeStop then bytes else []), [])
      else if full || last then (out ++ hold, [])
      else (out, hold)
    let endFlags := flagSum [(stopped, 2), (hit.any (fun h => h.2.kind == 1), 4), (eos, 8), (stopped || full || last, 16),
      (!stopped && full, 32), (!stopped && !full && last, 64)]
    let ended : Bool := stopped || full || last
    let idx := match hit with
      | some (n, _) => n
      | none => 0xFF
    let flags := endFlags + flagSum [(decide (16 < out.length), 1), (tk.2, 128), (x.regen, 512), (x.turnFirst, 1024)]
    let e : RingEntry := ⟨x.sid, 0, c, tk.1, flags, 0, idx, out, 0⟩
    let supp := decide (c < x.chDelivered)
    let (st, stack) := match g with
      | none => (x.grState, x.grStack)
      | some g => gAdvance g x.grState x.grStack tk.1
    let y : Session := { x with tokens := mput x.tokens c tk.1, generated := mput x.generated c endFlags, chProduced := c + 1,
                                newCount := x.newCount + 1, grState := st, grStack := stack, hold := hold,
                                turnGr := if x.turnFirst then x.grState else x.turnGr, turnStack := if x.turnFirst then x.grStack else x.turnStack,
                                stopState := if hold.isEmpty then 0 else Config.stopNode ss hold, turnFirst := false,
                                suppressing := x.suppressing && decide (c + 1 < x.chDelivered) }
    { a with x := y, entries := if supp then a.entries else a.entries ++ [e],
             codes := a.codes ++ [tk.1 + (if tk.2 then 2 ^ 20 else 0)], ended := if ended then endFlags else 0, stopIdx := idx,
             suppressed := if supp then a.suppressed + 1 else a.suppressed }

/-- STEP flags (Table 12-4) that entry flags stand for. -/
def stepFlags (e : Nat) : Nat :=
  flagSum [(e / 16 % 2 == 1, 4), (e / 2 % 2 == 1, 8), (e / 4 % 2 == 1, 16), (e / 256 % 2 == 1, 64), (e / 32 % 2 == 1, 256),
    (e / 64 % 2 == 1, 512), (e / 8 % 2 == 1, 1024)]

/-- A STEP_BOUNDARY cancel flushes the hold into the step's last entry, which ends the turn (R308, R367). -/
def cancelFlush (a : KeepAcc) : KeepAcc :=
  match a.entries.reverse with
  | [] => a
  | e :: r =>
    let text := e.bytes ++ a.x.hold
    let keep := e.flags - e.flags % 2 - (if e.flags / 16 % 2 == 1 then 16 else 0)
    let e' : RingEntry := { e with bytes := text, flags := keep + 256 + 16 + (if 16 < text.length then 1 else 0) }
    { a with entries := (e' :: r).reverse, x := { a.x with hold := [] }, ended := if a.ended == 0 then 16 else a.ended }

/-! ### Draft fields (R298) -/

/-- Descriptor after a drafted step, and whether drafting stopped and whether the length dropped. -/
def draftUpdate (x : Session) (drafts accepted : Nat) : Session × Bool × Bool :=
  if drafts == 0 then (x, false, false)
  else
    let full := accepted == 0
    let bm := (full :: x.rejBitmap).take 256
    let win := (bm.filter id).length
    let drop := full && 4 ≤ x.rejConsec + 1
    let x : Session := { x with rejBitmap := bm, rejWindow := win, rejConsec := if full && !drop then x.rejConsec + 1 else 0,
                                draftLen := if drop then 1 else if accepted == drafts then min (x.draftLen + 1) x.draftLenOpen else x.draftLen }
    if 64 ≤ win then ({ x with draftStopped := true, rejConsec := 0, rejWindow := 0, rejBitmap := [] }, true, drop)
    else (x, false, drop)

/-! ### The end of a turn (R53, R69, R367, Table 2-6) -/

/-- Held records become input of the next turn; PENDING_INPUT stays until they have been tokenized (R53). The row is given back (Table 2-3). -/
def Session.unhold (x : Session) : Session :=
  { x with inputs := x.inputs.map (fun r => { r with pending := false }), row := 0xFFFF, rows := 0 }

/-- A turn that did not end on a TOOL_CALL stop: OPEN, or QUEUED with a final held record, unless no chainage is left for it (R53, R584). -/
def State.turnOver (s : State) (i : Nat) : State :=
  match s.sess i with
  | none => s
  | some x =>
    let final := x.inputs.any (fun r => r.pending && r.final)
    let s := s.setSess { x.unhold with turnDue := false, discarded := 0, regen := x.regen && final, rewound := false }
    if final && decide (x.maxPositions ≤ x.positions) then
      s.modSess i (fun y => { y with state := .opened, stateSince := s.tick, inputFinal := true, turnDue := true, maxPosDue := true })
    else if final then
      ((s.turnStart i).modSess i (fun y => { y with state := .opened, inputFinal := true, turnDue := true })).toQueued i
    else s.modSess i (fun y => { y with state := .opened, stateSince := s.tick })

/-- A turn ends at a boundary. `tool`: on a TOOL_CALL stop. -/
def State.turnEnd (s : State) (i : Nat) (tool : Bool) : State :=
  match s.sess i with
  | none => s
  | some x =>
    if x.cancelAtBoundary || x.closePending then s
    else if tool && !((x.regen || x.rewound) && x.inputs.any (fun r => r.pending && r.final)) then
      let wait := s.obj Ob.stn_wait_ticks x.station
      let deadline := if wait == 0 then 0 else s.frameEnd + wait
      let s := s.setSess { x.unhold with
        state := .waiting, stateSince := s.tick, waitOpen := true, waitTag := x.chProduced % 2 ^ 32, turnDue := false, discarded := 0, rewound := false
        regen := false, waitDeadline := deadline, lastWait := some (x.chProduced % 2 ^ 32, deadline) }
      s.sevent x Ev.TOOL_CALL (x.chProduced % 2 ^ 32) x.chProduced
    else s.turnOver i

/-! ### The step of one row (R291-R308, R402) -/

/-- Append the STEP record and let the entries and the DELIVER record follow when it is durable, or at once where it is not kept. -/
def State.stepAndPost (s : State) (i : Nat) (lo drafts accepted flags stop : Nat) (codes : List Nat) : State :=
  match s.sess i with
  | none => s
  | some x =>
    let id := (s.activeHdr.map trvIdOf).getD 0
    let (s, pos) := s.srec i (.step s.frame id codes.length drafts accepted flags stop x.grState x.pt.kvWritten
      (min x.chAccepted x.pt.kvWritten) codes)
    if pos == 0 then s.postRing x.sid lo x.chProduced else s.waitDurable pos (.ringEntries x.sid lo x.chProduced)

/-- A resurvey row: the positions are recomputed; when the last is, the rebuild ends (R86, R89, R415). -/
def State.endResurvey (s : State) (x : Session) (r : RowNow) : State :=
  let n := r.ctx + r.nw
  let stop := match x.rebuild with
    | none => 0
    | some (_, l) => min (32 * (l + 1)) x.pt.kvWritten
  let s := s.addObj Ob.cnt_positions_recomputed x.half r.nw
  let y : Session := { x with rebuildPos := n, recomputed := x.recomputed + r.nw }
  if n < stop then s.setSess y
  else
    let s := s.setSess { y with rebuild := none, rebuildPos := 0, row := 0xFFFF, rows := 0 }
    if x.state == .reviving then s
    else
      let id := (s.activeHdr.map (fun h => h.groupIdentity)).getD 0
      let s := s.srec' x.index (.revive x.rebuildMethod x.reviveTiers 0 y.recomputed id)
      let s := if x.rebuildMethod == 2 then (s.sevent x Ev.SESSION_REBUILT y.recomputed 0).bump Ob.cnt_sessions_rebuilt x.half else s
      s.modSess x.index (fun z => { z with rebuildMethod := 0, recomputed := 0, reviveTiers := 0 })

/-- The grammar allows no token at the step's first position (R278, R58): a STEP record alone goes with GRAMMAR_DEAD (Table 2-6). -/
def State.endDead (s : State) (x : Session) (r : RowNow) (kept flags : Nat) : State :=
  let i := x.index
  let s := s.kvCleanup i kept (r.ctx + r.nw)
  let s := (s.bump Ob.stn_cnt_grammar_dead x.station).bump Ob.cnt_grammar_dead x.half
  if x.cancelAtBoundary || x.closePending then s.stepAndPost i x.chProduced 0 0 (flags + 2) 0xFF []
  else
    let id := (s.activeHdr.map trvIdOf).getD 0
    let s := s.srec' i (.step s.frame id 0 0 0 (flags + 2) 0xFF x.grState kept (min x.chAccepted kept) [])
    (s.modSess i (fun y => { y with state := .grammarDead, stateSince := s.tick, row := 0xFFFF, rows := 0 })).sevent x Ev.GRAMMAR_DEAD
      x.chProduced 0

/-- Counters of a sampled step, and the event of a stopped draft. -/
def State.sampleCounts (s : State) (x y : Session) (o : StepOut) (a : KeepAcc) (stopped drop : Bool) : State :=
  let s := ((s.addObj Ob.cnt_tokens_drawn x.half a.codes.length).addObj Ob.cnt_drafts_proposed x.half o.drafts).addObj
    Ob.cnt_drafts_accepted x.half o.accepted
  let s := (s.addObj Ob.stn_cnt_drafts_proposed x.station o.drafts).addObj Ob.stn_cnt_drafts_accepted x.station o.accepted
  let s := if 0 < o.drafts ∧ o.accepted = 0 then
      (s.bump Ob.cnt_draft_full_reject x.half).bump Ob.stn_cnt_draft_full_reject x.station
    else s
  let s := if drop then s.bump Ob.cnt_draft_len_drop x.half else s
  let s := if stopped then
      ((s.bump Ob.cnt_draft_stopped x.half).bump Ob.stn_cnt_draft_stopped x.station).sevent x Ev.DRAFT_STOPPED y.chProduced 0
    else s
  let s := ((s.addObj Ob.cnt_draft_discarded x.half a.discarded).addObj Ob.cnt_logit_nan x.half o.nan).addObj
    Ob.cnt_sample_degenerate x.half o.degenerate
  let s := (s.addObj Ob.cnt_ring_suppressed x.half a.suppressed)
  if a.stopIdx == 0xFF then s else s.bump Ob.cnt_stop_matches x.half

/-- A step that samples: `kept0` positions of the row are kept before its tokens count, `k` drafts may be proposed. -/
def State.endSample (s : State) (x : Session) (r : RowNow) (k : Nat) (prefill : Bool) (flags : Nat) : State :=
  let i := x.index
  let written := r.ctx + r.nw
  let d := s.dictFor x.model
  match s.stepTokens x ((d.map (fun p => p.2.vocab)).getD 0) k with
  | none => s.endDead x r (if prefill then written else r.ctx + 1) flags
  | some o =>
    let a := o.toks.foldl (keepTok (d.map Prod.snd) (s.stopsOf x) (s.grammarOf x)) ⟨x, [], [], 0, 0xFF, 0, 0⟩
    let a := if x.cancelAtBoundary then cancelFlush a else a
    let (y, stopped, drop) := draftUpdate a.x o.drafts o.accepted
    let lo := x.positions
    let s := s.setSess { y with outbox := y.outbox ++ a.entries }
    let s := s.kvCleanup i (if prefill then written else r.ctx + a.codes.length) written
    let s := s.sampleCounts x y o a stopped drop
    let last := (a.entries.getLast?.map (fun e => e.flags)).getD a.ended
    let s := s.stepAndPost i lo o.drafts o.accepted (flags + stepFlags last) a.stopIdx a.codes
    if a.ended == 0 then s
    else
      let s := s.notifyAll i (decide (y.chProduced ≤ y.chDelivered))
      s.turnEnd i (a.ended / 4 % 2 == 1)

/-- A prefill row: its positions stand; the last input position draws a token, ends a prefix's prefill, or meets `max_positions` (R268, R299,
R584). -/
def State.endPrefill (s : State) (x : Session) (r : RowNow) : State :=
  let i := x.index
  let e := r.ctx + r.nw
  let (y, cut) := x.passMarks e
  let flags := cut.toNat
  let s := (s.setSess y).kvCleanup i e e
  let y := (s.sess i).getD y
  if e < x.chAccepted then s.stepAndPost i x.chProduced 0 0 flags 0xFF []
  else if x.isPrefix then
    (s.stepAndPost i x.chProduced 0 0 flags 0xFF []).modSess i (fun z => { z with state := .opened, stateSince := s.tick, turnDue := false, row := 0xFFFF, rows := 0 })
  else if x.maxPositions ≤ x.chAccepted then
    let s := s.stepAndPost i x.chProduced 0 0 (flags + 4 + 512) 0xFF []
    let s := s.sevent x Ev.CONTEXT_FULL x.chAccepted x.discarded
    if x.cancelAtBoundary || x.closePending then s else s.turnOver i
  else s.endSample y r 0 true flags

/-- One lead row of the frame that ends. -/
def State.endRow (s : State) (h : TrvHeader) (r : RowNow) : State :=
  match if r.entry.home == s.groupPos then s.bySid r.entry.sid else none with
  | none => s
  | some x =>
    if r.nw == 0 then s
    else if r.masked then
      (if x.state.live && x.state != .cancelling && decide (x.pt.kvWritten < x.pt.blocks * 32) then
        s.kvCleanup x.index x.pt.kvWritten x.pt.kvWritten
      else s)
    else if x.state == .cancelling || !x.state.live || x.state == .failed then s
    else
      let x : Session := { x with lastActive := s.tick }
      let s := s.setSess x
      if r.kind == 2 then (if x.rebuild.isSome then s.endResurvey x r else s)
      else
        let s := if x.chProduced < x.chAccepted then s.endPrefill x r
          else
            let s := if x.draftOn && !x.draftStopped && !s.draftUsable h x then s.bump Ob.cnt_draft_absent x.half else s
            s.endSample x r (s.draftK h x) false 0
        (s.syncQueue x.index).spillStack x.index

/-! ### Void frames and images (R168-R171) -/

/-- The sequencer of cluster n places the code of its image in the code regions of its cores (R175): the streams of the image, in order, go to the cores
that are not fenced. The step through the cluster store takes no time and leaves nothing there (log entry 165). -/
def State.placeCode (s : State) (tiles : List Nat) (i : TrvImage) (n : Nat) : State :=
  match s.imageOf i n with
  | none => s
  | some r =>
    let code := (Config.clusterSection (s.rawSlice tiles r.offset r.length) (n % 8)).1
    let live := ((List.range 8).map (fun k => 8 * n + k)).filter (fun k => !s.coreFenced k)
    live.zipIdx.foldl (fun s p =>
      let c := s.coreAt p.1
      s.setCore p.1 { c with store := bputs (c.store.filter (fun b => decide (b.1 < 0x18000))) 0x18000 ((code.getD p.2 []).take 32768)
                             pc := 0, back := none, bad := false }) s

/-- Code is placed for the clusters of the traverse whose image is not the one they ran before, `before` being none at an activation (R175). -/
def State.placeImages (s : State) (i : TrvImage) (before : Option State) : State :=
  let tiles := (s.trv.active.map (fun t => (s.trvSlot t).tiles)).getD []
  ((List.range 512).filter (fun n => hdrUses i.hdr n && before.all (fun b => b.imageOf i n != s.imageOf i n))).foldl (fun s n =>
    s.placeCode tiles i n) s

/-- Each cluster of the running traverse takes the image its fenced cores leave it; a lost cluster's group takes its degraded image, and a second
loss stops the traverse. Switches count when `count` is set. -/
def State.chooseImages (s0 : State) (i : TrvImage) (count : Bool) : State :=
  let s := s0
  let tick (s : State) (o : ObjSpec) : State := if count then s.bump o 0 else s
  let s := ((List.range 512).filter (hdrUses i.hdr)).foldl (fun s n =>
    let c := s.fencedCores n
    let s := if decide (0 < c) && s.clusterOut i n then s.fenceCluster n ((mget s.core.fencedFor n).getD Cause.COMMANDED) else s
    if s.clusterFenced n then
      match mget s.trv.degraded (n / 8) with
      | none => tick { s with trv := { s.trv with degraded := mput s.trv.degraded (n / 8) (n % 8) } } Ob.cnt_degraded_switch
      | some p =>
        if p == n % 8 || s.trv.stopped then s
        else s.stopTraverse.tileEvent Ev.DEGRADED_EXHAUSTED (n / 8) n
    else if 0 < c ∧ mget s.trv.variants n ≠ some (8 - c) then
      tick { s with trv := { s.trv with variants := mput s.trv.variants n (8 - c) } } Ob.cnt_variant_switch
    else s) s
  let s := s.placeImages i (if count then some s0 else none)
  s.setObj Ob.frame_len_now 0 (max i.hdr.frameTicks (max (s.ownLen i) s.trv.groupLen))

/-- A void frame ends (R168): synchronisation objects return, takeovers move one frame later, and the images switch. -/
def State.endVoid (s : State) (i : TrvImage) : State :=
  let late (f : Nat) : Nat := if s.frame < f then f + 1 else f
  let s := { s with trv := { s.trv with
      voidFrames := s.trv.voidFrames.erase s.frame
      lists := s.trv.lists.map (fun (p : PendingList) => { p with list := { p.list with takeover := late p.list.takeover } })
      slots := s.trv.slots.map (fun (p : Nat × TrvSlot) => (p.1, { p.2 with activateAt := p.2.activateAt.map late })) } }
  let s := { s with sync := { s.sync with objs := s.trv.syncStart, waits := [] } }
  let s := { s with ses := { s.ses with tab := s.ses.tab.map (fun (p : Nat × Session) => (p.1, { p.2 with named := p.2.named.map late })) } }
  let s := (s.bump Ob.cnt_frame_void 0).chooseImages i true
  if s.trv.stopDue && !s.trv.stopped then s.stopTraverse else s

/-! ### Cancels, closes and late steps at the boundary -/

/-- CLOSED for a session whose cancel has freed its pages (R78, R81). -/
def State.endCancelling (s : State) (x : Session) : State :=
  if x.state == .cancelling && x.pt.entries.isEmpty && x.cancelPos.all (fun p => p == 0 || s.durable p) then s.enterClosed x.index 2 else s

/-- A session with CANCEL_AT_BOUNDARY enters CANCELLING (R76, R81, R308). -/
def State.beginCancelling (s : State) (x : Session) : State :=
  if !x.cancelAtBoundary then s
  else
    let s := if x.hold.isEmpty then s else s.bump Ob.cnt_hold_discarded x.half
    let s := s.modSess x.index (fun y => { y with state := .cancelling, stateSince := s.tick, cancelAtBoundary := false, hold := [],
                                                  inputs := [], pendingInput := false })
    match x.cancelPos with
    | some p => if p == 0 || s.durable p then s.freePages x.index else s.waitDurable p (.freeCancelled x.sid)
    | none => s.freePages x.index

/-- The STEP record of a turn that got no row because no chainage was left (R584). -/
def State.maxPosStep (s : State) (x : Session) : State :=
  if x.maxPosDue && x.state.live && x.inputs.isEmpty then
    let s := s.modSess x.index (fun y => { y with maxPosDue := false, turnDue := false, discarded := 0 })
    let id := (s.activeHdr.map trvIdOf).getD 0
    let s := s.srec' x.index (.step s.frame id 0 0 0 516 0xFF x.grState x.pt.kvWritten (min x.chAccepted x.pt.kvWritten) [])
    s.sevent x Ev.CONTEXT_FULL x.chAccepted x.discarded
  else s

/-- A RING_NAME takes effect (R504). Under FULL the entries from the consumer index on are posted again. -/
def State.renameRing (s : State) (x : Session) : State :=
  match x.ringRename with
  | none => s
  | some (base, log2, cons) =>
    let wake := x.ringHold && x.adoptedHold
    let x1 : Session := { x with ringBase := base, ringLog2 := log2, ringRename := none, adoptedHold := false,
                                 ringHold := x.ringHold && !x.adoptedHold }
    let s :=
      if x.fbMode == 0 then
        let again := (2 ^ 32 + x.ringWrite - cons) % 2 ^ 32
        let es := x.posted.drop (x.posted.length - again)
        let s := s.setSess { x1 with ringRead := cons, ringWrite := cons, posted := [] }
        es.foldl (fun s e => s.postEntry x.index e) s
      else s.setSess { x1 with ringRead := cons, ringWrite := cons }
    if wake then s.modSess x.index (fun y => if y.state == .queued then { y with vfinish := s.wakeTag y } else y) else s

/-- An index whose quarantine ends returns to its half's free list (R35). -/
def State.freeIndex (s : State) (x : Session) : State :=
  if x.state == .closed && decide (x.closedFrame < s.frame) then
    let s := s.freePt x.index
    { s with ses := { s.ses with tab := mdel s.ses.tab x.index } }
  else s

/-! ### Consumer indices (R304, R305) -/

/-- Sessions whose `cons_index` the boundary reads: those that hold a row in the next frame or are held (R304). -/
def State.readsRing (s : State) (sid : Nat) : Bool :=
  (s.bySid sid).any (fun x => x.ringHold || x.named.contains (s.frame + 1)
    || s.trv.rowTab.any (fun r => r.entry.sid == sid && r.entry.home == s.groupPos))

/-- One `cons_index` read. -/
def State.readCons (s : State) (sid v : Nat) : State :=
  match s.bySid sid with
  | none => s
  | some x =>
    let d := (2 ^ 32 + v - x.ringRead) % 2 ^ 32
    if d ≤ (2 ^ 32 + x.ringWrite - x.ringRead) % 2 ^ 32 then s.setSess { x with ringRead := v % 2 ^ 32 }
    else if d ≤ 2 ^ x.ringLog2 then s.setSess { x with ringRead := x.ringWrite }
    else (s.bump Ob.cnt_ring_index_invalid x.half).report (0x300 + x.station) clsProtocol 0x0881

/-- RING_HOLD clears once the room covers a decode row and the station is ATTACHED, and the session wakes (R305, R503). -/
def State.clearHold (s : State) (x : Session) : State :=
  if !x.ringHold || x.adoptedHold || (s.station x.station).state != 1 then s
  else
    let k := (s.activeHdr.map (fun h => s.draftK h x)).getD 0
    if k + 1 - (x.chDelivered - x.chProduced) ≤ x.ringRoom then s.setSess { x with ringHold := false, vfinish := s.wakeTag x } else s

/-- Run a state function on every descriptor as it stands when its turn comes. -/
def State.eachSess (s : State) (f : State → Session → State) : State :=
  (s.ses.tab.map Prod.fst).foldl (fun s i => match s.sess i with
    | none => s
    | some x => f s x) s

/-- A CANCEL that was served in the tick in which the frame began takes effect (R77). -/
def State.cancelsLater (s : State) : State :=
  s.eachSess (fun s x => if x.cancelLater then (s.setSess { x with cancelLater := false }).cancelSession x.index else s)

/-- The frame that ends is void (R168). -/
def State.voidNow (s : State) : Bool := s.runningHdr.isSome && s.trv.voidFrames.contains s.frame

/-- The rows of the frame that ends: their steps, or the return of a void frame's synchronisation objects and its images. -/
def State.endRows (s : State) : State :=
  match s.runningHdr, s.activeImage with
  | some h, some i =>
    let s := if h.frameTicks < h.runTicks + s.trv.heldTicks then s.bump Ob.cnt_frame_overrun 0 else s
    if s.trv.voidFrames.contains s.frame then s.endVoid i
    else (s.trv.rowTab.filter (fun (r : RowNow) => !r.entry.cont)).foldl (fun s r => s.endRow h r) s
  | _, _ => s

/-- What the boundary does with the sessions; a void frame changes none of them (R168). `cons` gives what is read of each `cons_index` that R304 reads; one
that it does not name is read as it was read last. -/
def State.endSessions (s : State) (cons : List (Nat × Nat)) : State :=
  let s := s.eachSess State.endCancelling
  let s := s.eachSess (fun s x => if x.closePending && x.state != .cancelling && x.outbox.isEmpty && !s.entriesOut x then s.enterClosed x.index 1 else s)
  let s := s.eachSess State.beginCancelling
  let s := s.eachSess State.maxPosStep
  let s := s.eachSess State.renameRing
  let s := s.eachSess State.freeIndex
  let s := s.eachSess (fun s x =>
    if s.readsRing x.sid then s.readCons x.sid (((cons.find? (fun p => p.1 == x.sid)).map Prod.snd).getD x.ringRead) else s)
  let s := s.eachSess State.clearHold
  s.eachSess (fun s x => (s.syncPt x.index).spillStack x.index)

/-- A row outcome of another member's session reaches its page table here (R221, R228): the kept positions count, the blocks beyond them go, and all of
them go once its home device has freed its pages. -/
def State.farOutcome (s : State) (r : RowOutcome) : State :=
  let i := farIndex r.home r.sid
  match s.sess i with
  | none => s
  | some x =>
    if r.gone then
      let t := (s.freePages i).freePt i
      { t with ses := { t.ses with far := mdel t.ses.far i } }
    else
      let kept := if r.masked then x.pt.kvWritten else x.pt.kvWritten + r.kept
      s.kvCleanup i kept (max kept x.chAccepted)

/-- Outcomes that other members' home devices sent (R157): their rows' kept positions count from now on, and their next rows are known. Those of frames
before the list in force and every list that waits were built are dropped, but for the last four frames, in which a list yet to come may have been. -/
def State.takeOutcomes (s : State) (outs : List RowOutcome) : State :=
  let from' := ((s.trv.inForce.map (fun l => l.issued)).toList ++ s.trv.lists.map (fun p => p.list.issued)).foldl min (s.frame - 4)
  let s := { s with trv := { s.trv with
      outcomes := s.trv.outcomes.filter (fun p => decide (from' ≤ p.1)) ++ outs.map (fun r => (s.frame, farIndex r.home r.sid, r.kept))
      ahead := outs.foldl (fun m r => mput m (farIndex r.home r.sid) (r.nextMasked, r.nextNew)) [] } }
  outs.foldl (fun s r => if r.home == s.groupPos then s else s.farOutcome r) s

/-- What the boundary does for the frame that ends, up to the consumer reads. -/
def State.endFrame (s : State) (cons : List (Nat × Nat)) (outs : List RowOutcome) : State :=
  let void := s.voidNow
  let s := s.endRows
  let s := if void then s else (s.endSessions cons).takeOutcomes outs
  { s with stn := { s.stn with st := s.stn.st.map (fun (p : Nat × Station) => (p.1, { p.2 with
    fbMode := s.obj Ob.stn_field_book p.1, cancelPolicy := s.obj Ob.stn_cancel_policy p.1 })) } }

/-- Outcomes of this tile's rows of the frame that ended, with their rows of the next (R157): `s` before the boundary, `t` after it. -/
def rowOutcomes (s t : State) : List RowOutcome :=
  (s.trv.rowTab.filter (fun r => r.entry.sid != 0xFFFFFFFF && !r.entry.cont && r.entry.home == s.groupPos)).map (fun r =>
    let kept := if r.masked then none else (t.bySid r.entry.sid).map (fun x => x.pt.kvWritten - r.ctx)
    let next := t.trv.rowTab.find? (fun q => q.entry.sid == r.entry.sid && q.entry.home == r.entry.home && !q.entry.cont)
    ⟨r.entry.home, r.entry.sid, r.masked, kept.getD 0, !((t.bySid r.entry.sid).any (fun x => x.state == .active || x.state == .queued)),
     !((t.bySid r.entry.sid).any (fun x => x.state.live && x.state != .failed)),
     (next.map (fun q => q.masked)).getD true, (next.map (fun q => q.nw)).getD 0⟩)

/-! ### The next frame -/

/-- Write a SYNC_TABLE entry into its object. -/
def State.putSyncInit (s : State) (y : SyncInit) : State :=
  s.setSync y.obj ⟨syncTypeOf y.type, y.group, y.persist, 0xFF00 + s.trv.active.getD 0, y.value, y.parties, y.cntEven, y.cntOdd⟩

/-- Device of the benchmark position, where the plat names it. -/
def State.benchmarkDevice (s : State) : Nat :=
  let sl := ((s.assigns.find? (fun a => a.position == s.groupPos)).map (fun a => a.slice)).getD 0
  match s.allAssigns.find? (fun a => a.slice == sl && a.position == s.masterPos) with
  | some a => a.device
  | none => s.device

/-- A TRAVERSE entry as the table holds it: its table code compared exactly, no order (R313). -/
def camTrvEntry (e : CamEntry) : CamEntry :=
  { e with value := 4 * 2 ^ 120 + e.value % 2 ^ 120, care := 255 * 2 ^ 120 + e.care % 2 ^ 120, order := 0 }

/-- The TRAVERSE table of both halves holds what the ACTIVE traverse's MODEL_BIND sections give (R313); an entry that the region cannot take is refused
(R319). -/
def State.camTraverse (s : State) (i : TrvImage) : State :=
  (i.binds.flatMap (fun b => b.cams)).foldl (fun s e => [0, 1].foldl (fun s h =>
    match s.camTrvInsert h (camTrvEntry e) with
    | some t => t
    | none => s.setCamStatus h St.CAM_TABLE_FULL) s) s.camNoTraverse

/-- Regions as the objects now give them (R314). -/
def State.camRegionsNow (s : State) : CamRegions :=
  ⟨s.obj Ob.cam_rule_entries 0, s.obj Ob.cam_rule_gap 0, s.obj Ob.cam_trv_entries 0, s.obj Ob.cam_prefix_entries 0, s.obj Ob.handle_cam_quota 0⟩

/-- A region rebuilt from its T2 copy: entries in address order from the new base, those that no longer fit dropped. -/
def camMoved (entries : SMap CamEntry) (base len newBase newLen : Nat) : SMap CamEntry :=
  (((camRegion entries base len).map Prod.snd).take newLen).zipIdx.map (fun p => (newBase + p.2, p.1))

/-- A region change takes effect at a frame boundary: each region is rebuilt from the half's T2 copy of its table (R314, R320). -/
def State.camBoundary (s : State) : State :=
  [0, 1].foldl (fun s h =>
    let c := s.cam h
    let o := c.regions
    let n := s.camRegionsNow
    if o == n then s
    else
      let rules := camRebalance (camMoved c.entries 0 o.rule 0 n.rule) 0 n.rule (max 1 n.gap)
      let handles := camMoved c.entries o.pfxBase o.pfx n.pfxBase n.pfx ++ camMoved c.entries o.hndBase o.hnd n.hndBase n.hnd
      s.setCam h { c.put (rules ++ camMoved c.entries o.trvBase o.trv n.trvBase n.trv ++ handles) with regions := n }) s

/-- A scheduled activation takes over (R144, R145, R170, R207, R369); one that its group has not agreed by then is withdrawn. A
tile runs one traverse at a time (log entry 163). -/
def State.activate (s : State) : State :=
  match s.trv.slots.find? (fun p => p.2.activateAt.any (fun f => decide (f ≤ s.frame))) with
  | none => s
  | some (t, sl) =>
    match sl.image, sl.agreed with
    | some i, true =>
      let s := match s.trv.active with
        | some o => if o == t then s else s.setObj Ob.trv_state o 2
        | none => s
      let s := s.setTrvSlot t { sl with activateAt := none }
      let s := { s with trv := { s.trv with active := some t, stopped := false, variants := [], degraded := [], groupLen := 0, stopDue := false,
                                            lostMembers := [], inForce := none, rowTab := [] }
                        core := { s.core with rejoining := [] } }
      let s := (s.setObj Ob.trv_state t 3).setObj Ob.group_position 0 i.hdr.position
      let s := s.setObj Ob.benchmark_device 0 s.benchmarkDevice
      let s := s.chooseImages i false
      let s := i.syncs.foldl State.putSyncInit (s.camTraverse i)
      s.forN 16 (fun s m => s.setObj Ob.mdl_t2_stream_rate m
        (((i.binds.find? (fun b => b.slot == m)).map (fun b => b.t2StreamRate)).getD 0))
    | _, _ => s.setTrvSlot t { sl with activateAt := none }

/-- A list due without a decision (R156). Where the tile decides, that withdraws it; another member that holds neither COMMIT nor WITHDRAW is not present,
and runs no row until a committed list takes over (log entry 190). -/
def State.undecided (s : State) (p : PendingList) : State :=
  if s.isMaster then (s.withdraw p).bump Ob.cnt_slot_withdrawn 0
  else
    let s := match s.trv.inForce with
      | none => s
      | some l => s.unnameAll l
    (({ s with trv := { s.trv with inForce := none } } : State)).withdraw p

/-- The committed list of this frame takes over; of lists due and not decided R156 says what follows (R155, R156). -/
def State.takeList (s : State) : State :=
  let due := s.trv.lists.filter (fun p => decide (p.list.takeover ≤ s.frame))
  let s := (due.filter (fun p => !p.committed)).foldl State.undecided s
  (due.filter (fun p => p.committed)).foldl (fun s p =>
    let s := match s.trv.inForce with
      | none => s
      | some l => s.unnameAll l
    { s with trv := { s.trv with inForce := some p.list, lists := s.trv.lists.erase p } }) s

/-- Why a session's row of a list that was issued in a frame does not run, or its context and new positions; the session's fields follow (R11, R79, R160,
R305). -/
def State.placeRow (s : State) (i : TrvImage) (issued r : Nat) (e : RowEntry) : State × Option (Nat × Nat × Nat) :=
  match s.bySid e.sid with
  | none => (s, none)
  | some x =>
    let n := s.rowNew i.hdr x
    let back : Bool := x.state == .reviving && x.rebuild.isSome
    let runs : Bool := x.state == .queued || x.state == .active || back
    let cap := ((i.bucketTable[e.bucket]?).map (fun b => b.cap)).getD (2 ^ 64)
    let full : Bool := decide (min (if i.hdr.bucketed then cap else 2 ^ 64) (e.span * i.hdr.maxRowPositions) < x.rowCtx + n)
    let inPlace : Bool := x.pt.entries.all (fun p => tierOf p.2.primary == s.kvTier || p.2.primary == noTile) && s.prefixReady x
    if x.state == .reviving && !(back && inPlace) && !x.cancelAtBoundary then
      (s.setSess { x with cntReviveLate := x.cntReviveLate + 1 }, none)
    else if !runs || x.cancelAtBoundary || x.closePending || x.ringHold || decide (issued < x.ringMask) || !s.modelReady i.hdr x || !x.tokenized || n == 0
        || (x.state == .queued && x.rebuild.isNone && !s.gatesMet x) then (s, none)
    else if !inPlace then (s.setSess { x with cntReviveLate := x.cntReviveLate + 1 }, none)
    else if !s.ringFits i.hdr x then
      (((s.setSess { x with ringHold := true, ringMask := s.frame + 1, state := .queued, row := 0xFFFF, rows := 0 }).bump Ob.cnt_ring_hold x.half).bump Ob.stn_cnt_ring_hold x.station, none)
    else if full then ((s.setSess { x with state := if back then x.state else .queued, row := 0xFFFF, rows := 0 }).bump Ob.cnt_bucket_overflow 0, none)
    else
      let y : Session := { x with state := if back then x.state else .active
                                  stateSince := if x.state == .active || back then x.stateSince else s.tick
                                  slotFrame := s.frame, row := r, bucket := e.bucket, rows := e.span }
      let s := s.setSess y
      let s := if x.rebuilding then s
        else (s.debitLater false x.station 0 e.span).debitLater true x.tenant 0 e.span
      let s := match x.rebuild with
        | none => s.allocTo x.index (x.rowCtx + n)
        | some _ => s.allocRebuild x.index (x.rowCtx / 32) ((x.rowCtx + n - 1) / 32)
      (s, some (x.rowCtx, n, x.work))

/-- Row of another member's session (R157, R158): its context is the entry's and the positions kept since the list was built; mask and new positions are
those its home device sent, before that those of its kind of work. -/
def State.farRow (s : State) (i : TrvImage) (l : SlotList) (r : Nat) (e : RowEntry) : RowNow :=
  let k := farIndex e.home e.sid
  let ctx := ((s.trv.outcomes.filter (fun p => p.2.1 == k && decide (l.issued ≤ p.1))).map (fun p => p.2.2)).foldl (· + ·) e.ctxAtTakeover
  match mget s.trv.ahead k with
  | some (masked, n) => ⟨r, e, ctx, n, masked, e.work⟩
  | none => ⟨r, e, ctx, if e.work == 0 then 1 else i.hdr.maxRowNew, false, e.work⟩

/-- The page table that a member keeps for a row of another member's session (R228): of the layers and groups of the model that its image binds, in the
half of the session's index, allocated for the row's positions (R219). DEDUCED (log entry 168): the model is that of the traverse's first bind, and the table
shares no blocks with a prefix's, since neither is sent with a row. -/
def State.farPages (s : State) (i : TrvImage) (r : RowNow) : State :=
  let e := r.entry
  let k := farIndex e.home e.sid
  let stale := (s.ses.far.filter (fun p => p.1 / farBase == e.home + 1 && sidIndex p.1 == sidIndex e.sid && p.1 != k)).map Prod.fst
  let s := stale.foldl (fun s j => s.farOutcome ⟨e.home, j % 2 ^ 32, true, 0, true, true, true, 0⟩) s
  let m := ((i.binds.head?).map (fun b => b.slot)).getD 0
  let s := match s.sess k with
    | some _ => s
    | none => s.setSess { (newSession k (e.sid / 2 ^ 24) 0xFFFF (indexHalf (sidIndex e.sid)) s.tick
        ⟨m, s.obj Ob.mdl_kv_groups m, s.obj Ob.mdl_layers m, 0, 0, 0xFFFFFFFF, r.ctx, [], []⟩) with model := m }
  if !rowLive r then s
  else ((s.modSess k (fun x => { x with chAccepted := r.ctx + r.nw, pt := { x.pt with kvWritten := r.ctx } })).allocTo k (r.ctx + r.nw))

/-- The frame's length table (R158): every row of the list in force, own rows placed, rows of other members as their home device runs them. -/
def State.layRows (s : State) (i : TrvImage) (l : SlotList) : State :=
  let step (acc : State × List RowNow) (p : RowEntry × Nat) : State × List RowNow :=
    let (e, r) := p
    if e.sid == 0xFFFFFFFF then (acc.1, acc.2 ++ [⟨r, e, 0, 0, true, 0⟩])
    else if e.cont then
      let lead := acc.2.reverse.find? (fun q => q.entry.sid == e.sid && q.entry.home == e.home && !q.entry.cont)
      (acc.1, acc.2 ++ [⟨r, e, (lead.map (fun q => q.ctx)).getD 0, (lead.map (fun q => q.nw)).getD 0, (lead.map (fun q => q.masked)).getD true,
        (lead.map (fun q => q.kind)).getD 0⟩])
    else if e.home != acc.1.groupPos then
      let q := acc.1.farRow i l r e
      (acc.1.farPages i q, acc.2 ++ [q])
    else
      let (s, v) := acc.1.placeRow i l.issued r e
      match v with
      | none => (s, acc.2 ++ [⟨r, e, 0, 0, true, e.work⟩])
      | some (c, n, k) => (s, acc.2 ++ [⟨r, e, c, n, false, k⟩])
  let (s, tab) := l.rows.zipIdx.foldl step (s, [])
  { s with trv := { s.trv with rowTab := tab } }

/-- ACTIVE sessions that no row of the frame names go back to QUEUED, their tags unchanged (R389); no session without one holds a row (Table 2-3). -/
def State.backToQueue (s : State) : State :=
  s.eachSess (fun s x =>
    if s.trv.rowTab.any (fun r => r.entry.sid == x.sid && r.entry.home == s.groupPos && !r.masked) then s
    else if x.state == .active && !x.closePending then s.setSess { x with state := .queued, stateSince := s.tick, row := 0xFFFF, rows := 0 }
    else if x.row != 0xFFFF then s.setSess { x with row := 0xFFFF, rows := 0 }
    else s)

/-- Sessions whose work waited in OPEN for their prefix (R62): they join it, and are queued once their input is tokenized. -/
def State.queueSharers (s : State) : State :=
  s.joinSharers.eachSess (fun s x => if x.state == .opened && x.turnDue && !x.maxPosDue && x.tokenized && !x.isPrefix && s.prefixReady x then
    s.toQueued x.index else s)

/-- The cores of a new frame stand at its first cycle, everything issued in the last one written. -/
def State.resetCores (s : State) : State :=
  { s with core := { s.core with
      cores := s.core.cores.map (fun (p : Nat × Core) => (p.1, { (p.2.settle (2 ^ 64)) with cycle := 0, pc := 0, back := none, bad := false, done := [], loops := [], mmaFree := 0, opFree := 0 }))
      now := 0, scrubbed := 0 } }

/-- Every access on its way to a cluster store is made. -/
def State.clusterSettleAll (s : State) : State :=
  (s.core.clusterFlight.map Prod.fst ++ s.core.clusterReads.map Prod.fst).foldl (fun s n => s.clusterAdvance n (2 ^ 64)) s

/-- Drafts that a row may propose in its frame: none of a prefill row (R295). -/
def State.rowDrafts (s : State) (h : TrvHeader) (x : Session) : Nat := if x.chProduced < x.chAccepted then 0 else s.draftK h x

/-- A row draws a token in its frame: a decode row, or a prefill row that ends its session's input (R268, R299, R584). -/
def Session.drawsIn (x : Session) (r : RowNow) : Bool :=
  r.kind == 0 || (r.kind == 1 && decide (x.chAccepted ≤ r.ctx + r.nw) && !x.isPrefix && decide (x.chAccepted < x.maxPositions))

/-- One mask tile comes to a slot of a row, through the cache of the row's half (R274). -/
def State.bringMask (s : State) (half gg : Nat) (m : MaskBind) (a dst : Nat) : State :=
  match s.cacheTile half a with
  | (s, some b) => s.runJob half m.queue (gatherDesc b dst (0xB200 + gg) m.tag) (some .weight) []
  | (s, none) => s.landTile dst (s.tileAt a)

/-- The masks of a grammar row's positions, to the slots that MODEL_BIND reserves for the row, as many as it has (R274; log entry 171). -/
def State.rowMasks (s : State) (i : TrvImage) (r : RowNow) : State :=
  match (if r.entry.home == s.groupPos && rowLive r && !r.entry.cont then s.bySid r.entry.sid else none) with
  | none => s
  | some x =>
    match (if x.grammarId == 0 || !x.drawsIn r then none else mget s.text.grammars (x.grammarId - 1)), (i.binds.find? (fun b => b.slot == x.model)).bind (fun b => b.masks) with
    | some g, some m =>
      let tiles := s.stepMasks x g (((s.dictFor x.model).map (fun p => p.2.vocab)).getD 0) (s.rowDrafts i.hdr x)
      (tiles.take m.slots).zipIdx.foldl (fun s p => s.bringMask x.half (x.grammarId - 1) m p.1 (addrPlus (inHalf x.half m.dst) (r.row * m.slots + p.2))) s
    | some g, none =>
      (s.stepMasks x g (((s.dictFor x.model).map (fun p => p.2.vocab)).getD 0) (s.rowDrafts i.hdr x)).foldl (fun s a => (s.cacheTile x.half a).1) s
    | none, _ => s

/-- The masks of a frame's rows; a wait point for them is met once they are in place (R162, R274). -/
def State.frameMasks (s : State) (i : TrvImage) : State :=
  let cap := s.obj Ob.gr_cache_tiles 0
  let s := [0, 1].foldl (fun s h => s.trimCache h (cap + 1) ((s.maskCache h).length)) s
  let s := s.trv.rowTab.foldl (fun s r => s.rowMasks i r) s
  (i.binds.filterMap (fun b => b.masks)).foldl (fun s m => s.gatherMet m.queue m.tag) s

/-- The next frame begins at a tick (R144, R145, R150, R155, R158, R369, R391). -/
def State.startFrame (s : State) (e : Nat) : State :=
  let s := (s.clusterSettleAll).resetCores.dropStreams
  let s := { s with frame := s.frame + 1, frameStart := e }
  let s := { s with trv := { s.trv with heldTicks := 0, met := [], issued := [], gathered := [], spoiled := [], appended := [], found := [], searched := [], copies := 0, requests := [], decided := [], plans := [], again := false } }
  let s := (s.activate).takeList
  let s := s.queueSharers
  let s := match s.runningHdr, s.activeImage, s.trv.inForce with
    | some _, some i, some l =>
      ((i.syncs.filter (fun (y : SyncInit) => !y.persist)).foldl State.putSyncInit (s.layRows i l)).frameMasks i
    | _, _, _ => { s with trv := { s.trv with rowTab := [] } }
  let s := [0, 1].foldl (fun s h => if s.runningHdr.any (fun d => hdrUsesHalf d h) then s.setReady h none else s) s
  let s := s.backToQueue
  let s := { s with sync := { s.sync with past := [], mirror := s.sync.objs.filter (fun p => p.2.mirrored) }, trv := { s.trv with syncStart := s.sync.objs } }
  (s.gateFrame 0).gateFrame 1

/-- `recover_from` of both books: the position after the last record that every descriptor reflects (R402). -/
def State.markRecovered (s : State) : State :=
  [0, 1].foldl (fun s h =>
    let b := s.book h
    let low := (b.waits.map (fun w => w.pos % 2 ^ 63)).foldl min b.next
    s.setBook h { b with recoverFrom := low }) s

end Sys2Proof.Machine
end

