-- ==== Sys2Proof/Machine/CkOps.lean ====
section
/-! DEFINITION. Taking a checkpoint (R438-R447): the store and its catalogue, the request, the snapshot's start, and the end of a run. -/

namespace Sys2Proof.Machine

/-! ### Store and catalogue (R438, R439) -/

/-- `ck_store`: tile address, tiles and kind. -/
def State.ckStore (s : State) : Nat × Nat × Nat :=
  let v := s.str Ob.ck_store 0
  (ofLE (Sys2Proof.Machine.slice v 0 8), ofLE (Sys2Proof.Machine.slice v 8 4), ofLE (Sys2Proof.Machine.slice v 12 1))

/-- The store is a STORAGE extent of the host tier, or under SLICE_MEMBER a lease on a peer tile. -/
def State.ckStoreOk (s : State) : Bool :=
  let (a, n, kind) := s.ckStore
  64 ≤ n && (match kind with
    | 1 => tierOf a == 3 && (match s.extent (addrStation a) (addrExtent a) with
        | none => false
        | some r => r.kind == 2 && decide (a % 2 ^ 32 + n ≤ r.slots))
    | 2 => tierOf a == 4 && s.sliced && (match mget s.fab.leases (a / 2 ^ 52 % 2 ^ 9 * 65536 + a / 2 ^ 36 % 65536) with
        | none => false
        | some l => l.lessee && decide (a % 2 ^ 32 + n ≤ l.tiles))
    | _ => false)

/-- Write sequence of a copy: its highest `cc_seq`. -/
def catSeq (l : List CatEntry) : Nat := l.foldl (fun m e => max m e.seq) 0

/-- The catalogue as a reader takes it: the copy with the higher sequence. -/
def State.catalogue (s : State) : List CatEntry := if catSeq s.ck.catA < catSeq s.ck.catB then s.ck.catB else s.ck.catA

/-- Write the catalogue: the two copies alternate, every entry written carries the new sequence. -/
def State.setCatalogue (s : State) (l : List CatEntry) : State :=
  let toB := decide (catSeq s.ck.catB ≤ catSeq s.ck.catA)
  let n := max (catSeq s.ck.catA) (catSeq s.ck.catB) + 1
  let l := l.map (fun (e : CatEntry) => { e with seq := n })
  { s with ck := if toB then { s.ck with catB := l } else { s.ck with catA := l } }

/-- Change the entries of an identifier that are in a state. -/
def State.catMark (s : State) (id oldState : Nat) (f : CatEntry → CatEntry) : State :=
  s.setCatalogue (s.catalogue.map (fun e => if e.id == id && e.state == oldState then f e else e))

/-- A tile offset is taken by an entry. -/
def catCovers (l : List CatEntry) (lo n : Nat) : Option CatEntry :=
  l.find? (fun e => decide (e.first < lo + n ∧ lo < e.first + e.tiles))

/-- Lowest run of n free tiles below a size, from an offset; every turn passes one entry, so their number bounds the fuel. -/
def catRun (l : List CatEntry) (size n : Nat) : Nat → Nat → Option Nat
  | 0, _ => none
  | f + 1, lo =>
    if size < lo + n then none
    else match catCovers l lo n with
      | none => some lo
      | some e => catRun l size n f (e.first + e.tiles)

/-- Entry that R439 frees next: an ABORTED one, else the oldest COMPLETE one while more than `ck_keep` remain. -/
def catVictim (l : List CatEntry) (keep : Nat) : Option CatEntry :=
  match l.find? (fun e => e.state == 3) with
  | some e => some e
  | none =>
    let c := l.filter (fun e => e.state == 2)
    if c.length ≤ keep then none
    else (c.foldl (fun (m : Option CatEntry) e => match m with
      | none => some e
      | some x => if e.frame < x.frame then some e else some x) none)

/-- Allocate n tiles, freeing entries until a run and one of the 64 entries are there (R439). -/
def catAlloc (size keep n : Nat) : Nat → List CatEntry → Option (Nat × List CatEntry)
  | 0, _ => none
  | f + 1, l =>
    match (if l.length < 64 then catRun l size n (l.length + 1) 2 else none) with
    | some a => some (a, l)
    | none =>
      match catVictim l keep with
      | none => none
      | some e => catAlloc size keep n f (l.erase e)

/-! ### Live records (R410) -/

/-- A DELIVER, PARK or REVIVE record: the kinds that a later one of the kind supersedes. -/
def supersedable : RecBody → Nat
  | .deliver _ _ _ => 3
  | .park _ _ _ _ => 4
  | .revive _ _ _ _ _ => 5
  | _ => 0

/-- A STEP record whose tokens a later STEP record with MERGED holds (R410). -/
def mergedInto (r q : Rec) : Bool :=
  match r.body, q.body with
  | .step _ _ n _ _ _ _ _ _ _ _, .step _ _ m _ _ flags _ _ _ _ _ =>
    flags / 2 ^ 7 % 2 == 1 && decide (q.chain - m ≤ r.chain - n) && decide (r.chain ≤ q.chain)
  | _, _ => false

/-- A record is dead. -/
def State.deadRec (s : State) (rs : List Rec) (r : Rec) : Bool :=
  if r.sid == 0xFFFFFFFF then false
  else match s.bySid r.sid with
    | none => true
    | some x => decide (r.pos < x.journalPos)
        && rs.any (fun q => q.sid == r.sid && decide (r.pos < q.pos)
          && ((supersedable r.body != 0 && supersedable q.body == supersedable r.body) || mergedInto r q))

/-! ### Contents (R443-R445) -/

/-- Key/value, page-table and input-queue tiles of a half that a snapshot covers (R132): at its start, those that are pending. -/
def State.ckTiles (s : State) (half : Nat) : List Nat :=
  (s.tier.tiles.filter (fun p => s.snapHalf p.1 == half && tierOf p.1 != 0 && s.pendingSnap p.1)).map Prod.fst

/-- State objects of a vector index that a shard holds. -/
def vxObjects : List ObjSpec :=
  [Ob.vx_kind, Ob.vx_metric, Ob.vx_dims, Ob.vx_degree, Ob.vx_capacity, Ob.vx_half, Ob.vx_station, Ob.vx_build_beam, Ob.vx_advance_ticks, Ob.vx_epoch,
   Ob.vx_del_seq, Ob.vx_live, Ob.vx_entry, Ob.vx_journal_pos]

/-- Indexes of a half that are READY. -/
def State.ckIndexes (s : State) (half : Nat) : List CkIndex :=
  (s.srch.vx.filter (fun p => s.obj Ob.vx_half p.1 == half && s.obj Ob.vx_state p.1 == 2)).map (fun p =>
    ⟨p.1, vxObjects.map (fun o => (o.subLo, s.obj o p.1)), p.2⟩)

/-- Identity of the traverse that is ACTIVE, 0 where none is. -/
def State.ckTrv (s : State) : Nat := (s.activeHdr.map (fun h => h.groupIdentity)).getD 0

/-- The shard of a half as the boundary leaves it, every entry of the frame's steps posted (R441); its data tiles follow from the staging pool. -/
def State.ckShard (s : State) (half id frame : Nat) : CkShard :=
  { magic := 0x44524853, major := 1, minor := 0, id := id, frame := frame, trv := s.ckTrv % 2 ^ 64, position := s.obj Ob.group_position 0, half := half
    epoch := (s.eng half).epoch, crc := 0
    sessions := (s.sessions.filter (fun x => x.half == half && x.state.live)).map Session.delivered, tiles := [], vx := s.ckIndexes half, recs := (s.book half).recs.filter (fun r => !s.deadRec (s.book half).recs r)
    sync := s.sync.objs.filter (fun p => syncHalf p.1 == half && p.2.mirrored) }

/-- Slots that the live sessions of the tile name, with their digests (R445). -/
def State.ckBinds (s : State) : List (Nat × Nat × Octets) :=
  let live := s.sessions.filter (fun x => x.state.live)
  let models := (List.range 16).filter (fun m => live.any (fun x => x.model == m || (x.draftOn && x.draftModel == m)))
  let grams := (List.range 256).filter (fun g => live.any (fun x => x.grammarId == g + 1))
  models.map (fun m => (1, m, s.str Ob.mdl_digest m))
    ++ (models.filterMap (fun m => (s.dictFor m).map (fun d => (2, d.1, s.str Ob.dict_digest d.1))))
    ++ grams.map (fun g => (3, g, s.str Ob.gp_digest g))

/-- Devices of the group: 1 under STANDALONE or a solo traverse. -/
def State.groupSize (s : State) : Nat := if s.grouped then (s.activeHdr.map (fun h => h.groupSize)).getD 1 else 1

/-- Tiles of a shard: header, index tiles, data tiles, those of the snapshot included (Tables 13-2, 13-3). -/
def State.ckShardTiles (s : State) (h : CkShard) : Nat :=
  let data := h.sys.length + (s.ckTiles h.half).length
  1 + ceilDiv data 512 + data

/-- Tiles of a manifest with its key and signature (R445). -/
def manifestTiles (entries : Nat) : Nat := ceilDiv (ceilDiv (256 + entries) 8 * 8 + 1952 + 3309 + 7) 4096

/-! ### Requests (R440) -/

/-- The request of a checkpoint, judged: OK or the refusal. -/
def State.ckAsk (s : State) (frame : Nat) : Nat :=
  if frame < s.frame + 4 then St.CHECKPOINT_LATE
  else if s.ck.run.isSome then St.CHECKPOINT_BUSY
  else if !s.ckStoreOk then St.CHECKPOINT_NO_STORE
  else St.OK

/-- A manifest of this tile with no entries yet. -/
def State.manifest (s : State) (kind id frame : Nat) : Manifest :=
  { magic := 0x4E414D43, major := 1, minor := 0, required := 0, optional := 0, kind := kind, producer := 0, groupSize := s.groupSize
    position := if kind == 1 then s.obj Ob.group_position 0 else 0, id := id, frame := frame, tick := s.tick, tai := s.timeNow, trv := s.ckTrv
    platEpoch := s.obj Ob.plat_epoch 0, signer := [], v0 := s.shape.v0, v1 := s.shape.v1, sessions := 0, keyOffset := 0, sigOffset := 0, crc := 0
    shards := [], members := [], binds := [], key := [], sig := [] }

/-- A set with nothing in it yet. -/
def State.ckSet (s : State) (id frame : Nat) : CkSet := ⟨s.manifest 2 id frame, []⟩

/-- The request is taken: PENDING until its step. -/
def State.ckTake (s : State) (requester : Option Nat) (id frame : Nat) : State :=
  ({ s with ck := { s.ck with run := some ⟨requester, id, frame, false, s.ckSet id frame, false, false⟩ } } : State).setObj Ob.ck_state 0 1

/-- CHECKPOINT (R440): from a privileged station only. -/
def State.checkpointMsg (s : State) (st : Nat) (e : Intake) (b : CheckpointBody) : State :=
  let seq := e.msg.hdr.seq
  let c := if e.privileged then s.ckAsk b.frame else St.CHECKPOINT_DENIED
  if c != St.OK then s.finish st seq (Outcome.of c)
  else ((s.accept st e (s.station st).fbMode 0 0xFFFFFFFF (s.station st).fbMode false 0 false).1).ckTake (some st) b.id b.frame

/-- Tell the requester: a station its event, an Opdun client an announcement. -/
def State.ckTell (s : State) (r : CkRun) (code a0 a1 : Nat) : State :=
  match r.requester with
  | some n => s.event n code 0 a0 a1
  | none => s.announce code a0 a1

/-- A half's snapshot and its staging pool go: the slots of its copies are free, and slots that only the snapshot still needed are plain free ones. -/
def State.dropSnapshot (s : State) (half : Nat) : State :=
  let e := s.eng half
  let s := s.setEng half { e with snapshot := none, snapTiles := [], freed := [], sysPending := [] }
  let s := e.snapTiles.foldl (fun s c => if c.slot == noTile then s else s.setTile c.slot freeTile) s
  ((s.tier.tiles.filter (fun p => p.2.snapPending && p.2.kind == 0 && s.snapHalf p.1 == half)).map Prod.fst).foldl (fun s a => s.setTile a freeTile) s

/-- The snapshots of both halves go. -/
def State.dropSnapshots (s : State) : State := (s.dropSnapshot 0).dropSnapshot 1

/-- The checkpoint aborts (R447): its entry is ABORTED, the pools are emptied, and the requester hears the cause. -/
def State.ckAbort (s : State) (cause : Nat) : State :=
  match s.ck.run with
  | none => s
  | some r =>
    let s := { s with ck := { s.ck with run := none } }
    let s := (s.catMark r.id 1 (fun (e : CatEntry) => { e with state := 3 })).dropSnapshots
    let s := ((s.setObj Ob.ck_state 0 (5 + 256 * cause)).bump Ob.cnt_ck_aborted 0).bump Ob.cnt_ck_aborted 1
    s.ckTell r Ev.CHECKPOINT_ABORTED r.id (if cause == 2 then Ev.HALF_LOST else 0x0D80 + cause)

/-! ### The snapshot starts (R441) -/

/-- Next epoch: 1 to 65,535, then 1 again (R132). -/
def nextEpoch (e : Nat) : Nat := e % 65535 + 1

/-- The group agreed the step as it agrees a slot list (R440): the list that takes over at the step is committed. -/
def State.ckAgreed (s : State) (frame : Nat) : Bool :=
  !s.grouped || s.trv.lists.any (fun p => p.list.takeover == frame && p.committed)

/-- At the boundary that begins its frame a pending checkpoint takes the snapshot of each half (R439, R441). -/
def State.snapStart (s : State) : State :=
  match s.ck.run with
  | none => s
  | some r =>
    if r.started || s.frame + 1 < r.frame then s
    else if !s.ckAgreed r.frame then
      (({ s with ck := { s.ck with run := none } } : State).setObj Ob.ck_state 0 0).ckTell r Ev.CHECKPOINT_WITHDRAWN r.id r.frame
    else
      let begin1 (s : State) (h : Nat) : State :=
        let e := s.eng h
        s.setEng h { e with epoch := nextEpoch e.epoch, snapshot := some (nextEpoch e.epoch), snapTiles := [], freed := [], sysPending := [] }
      let t := begin1 (begin1 s 0) 1
      let h0 := t.ckShard 0 r.id r.frame
      let h1 := t.ckShard 1 r.id r.frame
      let binds := t.ckBinds
      let m := manifestTiles (128 + 40 * binds.length)
      let g := manifestTiles (80 * t.groupSize + 40 * binds.length)
      let shards := t.ckShardTiles h0 + t.ckShardTiles h1
      match catAlloc s.ckStore.2.1 (s.obj Ob.ck_keep 0) (shards + m + g) (s.catalogue.length + 1) s.catalogue with
      | none => s.ckAbort 7
      | some (a, l) =>
        let entry : CatEntry := ⟨r.id, r.frame, 1, 0, s.obj Ob.group_position 0, shards + m + g, a, a + shards, a + shards + m, s.timeNow, 0⟩
        let entryOf (h : CkShard) (first : Nat) : ManShard := ⟨h.half, t.ckShardTiles h, h.sessions.length, first, []⟩
        let own : Manifest := { t.manifest 1 r.id r.frame with
          binds := binds, sessions := h0.sessions.length + h1.sessions.length, shards := [entryOf h0 a, entryOf h1 (a + t.ckShardTiles h0)] }
        let set : CkSet := ⟨{ t.manifest 2 r.id r.frame with binds := binds }, [⟨own, [h0, h1]⟩]⟩
        let t := t.setCatalogue (l ++ [entry])
        let t := (t.setEng 0 { t.eng 0 with sysPending := h0.sys }).setEng 1 { t.eng 1 with sysPending := h1.sys }
        ({ t with ck := { t.ck with run := some { r with started := true, set := set } } } : State).setObj Ob.ck_state 0 2 |>.setObj
          Ob.ck_progress 0 0

end Sys2Proof.Machine
end

