-- ==== Sys2Proof/Machine/FabOps.lean ====
section
/-! DEFINITION. Ports and link training, routes, routed messages, the plat, leases and hand-over (chapter 14). -/

namespace Sys2Proof.Machine

/-- A device is reachable over UP ports (R466). -/
def State.reachable (s : State) (d : Nat) : Bool := d == s.device || (s.route d).isSome

/-- A device that is LOST, or that no route over UP ports reaches (R466). -/
def State.peerOut (s : State) (d : Nat) : Bool :=
  !s.reachable d || ((s.fab.plat.map (fun p => p.devices)).getD []).any (fun x => x.device == d && x.state == 2)

/-- Devices that share a lease or a traverse group with this one. -/
def State.peers (s : State) : List Nat :=
  (((s.fab.leases.map (fun p => p.2.peer)) ++ (s.allAssigns.filter (fun a => s.assigns.any (fun b => b.slice == a.slice))).map (fun a => a.device)).eraseDups).filter
    (fun d => d != s.device)

/-- PEER_ABSENT for each peer that can no longer be reached, PEER_PRESENT for each that can be again (R466). -/
def State.peersSeen (s : State) : State :=
  let gone := s.peers.filter (fun d => s.peerOut d && !s.fab.absent.contains d)
  let back := s.fab.absent.filter (fun d => !s.peerOut d)
  let s := { s with fab := { s.fab with absent := s.fab.absent.filter (fun d => s.peerOut d) ++ gone } }
  let s := gone.foldl (fun s d => s.tileEvent Ev.PEER_ABSENT d 0) s
  back.foldl (fun s d => s.tileEvent Ev.PEER_PRESENT d 0) s

/-! ### Sending routed messages (R458, R459) -/

/-- The committed epoch. -/
def State.platEpoch (s : State) : Nat := (s.fab.plat.map (fun p => p.epoch)).getD 0

/-- A codeword goes out on a port: the next sequence, kept for replay among the last 512 (R463). -/
def State.sendCodeword (s : State) (p : Nat) : State :=
  let x := s.port p
  s.setPort p { x with txNext := (x.txNext + 1) % 4096, txKept := keepLast 512 (x.txKept ++ [x.txNext]) }

/-- Send a routed message by a port. -/
def State.fabSendBy (s : State) (port dst slice tag : Nat) (body : FabBody) : State :=
  let s := if port < 16 then s.sendCodeword port else s
  { s with fab := { s.fab with sent := ⟨dst, port, none, s.platEpoch, tag, slice, body⟩ :: s.fab.sent } }

/-- Send a routed message on its shortest path; under STANDALONE witness traffic goes on the port `witness_peer` names (R479). -/
def State.fabSend (s : State) (dst slice : Nat) (body : FabBody) : State :=
  let port := if !s.sliced then s.obj Ob.witness_peer 0 / 65536 % 16 else (s.route dst).getD 16
  s.fabSendBy port dst slice (s.fab.sent.length % 2 ^ 32) body

/-- Answer a routed message: its tag goes back. -/
def State.fabReply (s : State) (h : FabHdr) (body : FabBody) : State :=
  let port := if !s.sliced then s.obj Ob.fab_witness_serve 0 / 65536 % 16 else (s.route h.src).getD 16
  s.fabSendBy port h.src h.slice h.tag body

/-- A header in its range (Table 14-2). -/
def hdrInRange (h : FabHdr) : Bool :=
  h.ok && h.res == 0 && decide (h.ttl ≤ 15 ∧ h.len ≤ 65504 ∧ h.src ≤ 511 ∧ h.dst ≤ 511) && (decide (h.slice ≤ 255) || h.slice == 0xFFFF)

/-- A routed message arrives (R458, R459, R474): a bad header is dropped, reported and answered where the type has a reply; one for another
device is forwarded with one hop less; one of a newer epoch is held where the type follows epochs; the rest take effect. -/
def State.routed (s : State) (h : FabHdr) (body : FabBody) (replies follows : Bool) (go : State → State) : State :=
  if !hdrInRange h then
    let s := s.reportOpen 0x284 clsProtocol
    if replies then s.fabReply h (.refused St.FAB_RANGE) else s
  else if h.dst != s.device then
    let half := portHalf ((s.route h.dst).getD 0)
    if h.ttl ≤ 1 then s.bump Ob.cnt_ttl_drop half
    else
      let p := (s.route h.dst).getD 16
      let s := if p < 16 then s.sendCodeword p else s
      { s with fab := { s.fab with sent := ⟨h.dst, p, some { h with ttl := h.ttl - 1 }, h.epoch, h.tag, h.slice, body⟩ :: s.fab.sent } }
  else if follows && decide (s.platEpoch < h.epoch) then
    { s with fab := { s.fab with held := s.fab.held ++ [⟨h, s.tick, body⟩] } }
  else go s

/-! ### The plat (R466-R472) -/

/-- Assignments of one device do not overlap. -/
def assignsApart : List PlatAssign → Bool
  | [] => true
  | a :: r =>
    r.all (fun b => a.device != b.device
      || (Nat.land a.clusters b.clusters == 0 && Nat.land a.channels b.channels == 0 && Nat.land a.ports b.ports == 0)) && assignsApart r

/-- A slice's assignments: distinct positions 0 to size − 1, position 0 the benchmark device. -/
def sliceValid (img : PlatImage) (x : PlatSlice) : Bool :=
  let a := img.assigns.filter (fun a => a.slice == x.slice)
  decide (1 ≤ x.size ∧ x.size ≤ 512) && a.length == x.size
  && (List.range x.size).all (fun p => (a.filter (fun b => b.position == p)).length == 1)
  && (a.map (fun b => b.device)).all (fun d => (a.filter (fun b => b.device == d)).length == 1)
  && a.any (fun b => b.position == 0 && b.device == x.benchmark)

/-- R467. A device that the image marks LOST keeps the assignments that it has (R426, R466; log entry 212). -/
def State.platValid (s : State) (img : PlatImage) : Bool :=
  let memberDev (d : Nat) : Bool := img.devices.any (fun x => x.device == d && x.state == 1)
  let lostDev (d : Nat) : Bool := img.devices.any (fun x => x.device == d && x.state == 2)
  let was := s.fab.plat
  img.formOk && img.major == 1 && img.required == 0 && decide (1 ≤ img.epoch) && img.domain == s.obj Ob.plat_domain 0
  && decide (1 ≤ img.devices.length ∧ img.devices.length ≤ 512 ∧ img.slices.length ≤ 256 ∧ img.assigns.length ≤ 8192
      ∧ img.handovers.length ≤ 1024)
  && assignsApart img.assigns && img.slices.all (sliceValid img)
  && img.slices.all (fun x => img.slices.all (fun y => x.benchmark == y.benchmark
      || !img.assigns.any (fun a => a.slice == x.slice && img.assigns.any (fun b => b.slice == y.slice && b.device == a.device))))
  && img.assigns.all (fun a => (memberDev a.device || (lostDev a.device && was.any (fun p => p.assigns.contains a))) && img.slices.any (fun x => x.slice == a.slice))
  && img.slices.all (fun x => memberDev x.benchmark
      || (lostDev x.benchmark && was.any (fun p => p.slices.any (fun y => y.slice == x.slice && y.benchmark == x.benchmark)))) && img.handovers.all (fun h => memberDev h.fromDev && memberDev h.toDev)

/-- MEMBER devices of a plat. -/
def platMembers (p : PlatImage) : List Nat := (p.devices.filter (fun d => d.state == 1)).map (fun d => d.device)

/-- A majority of m devices. -/
def majority (m : Nat) : Nat := m / 2 + 1

/-- MEMBER devices of the committed plat. -/
def State.members (s : State) : List Nat := (s.fab.plat.map platMembers).getD []

/-- This member is in contact with a majority (R468). -/
def State.hasMajority (s : State) : Bool :=
  decide (majority s.members.length ≤ (s.members.filter (fun d => s.reachable d)).length)

/-- The coordinator as this member sees it (R468). -/
def State.coordinator (s : State) : Option Nat :=
  if s.hasMajority then (s.members.filter (fun d => s.reachable d)).foldl (fun m d => some (match m with
    | none => d
    | some x => min x d)) none
  else none

/-- This device proposes (R469): it is the coordinator, or no plat is committed yet. -/
def State.isCoordinator (s : State) : Bool := s.coordinator == some s.device || s.fab.plat.isNone

/-- `plat_state`, `plat_coordinator` and `plat_members` follow the reachable devices (R468). -/
def State.platView (s : State) : State :=
  match s.fab.plat with
  | none => s.setObj Ob.plat_state 0 (if s.obj Ob.composition 0 == 1 then 1 else 0)
  | some p =>
    let me := ((p.devices.find? (fun d => d.device == s.device)).map (fun d => d.state)).getD 0
    let st := if me == 3 then 4 else if me == 0 then 1 else if s.hasMajority then 2 else 3
    ((s.setObj Ob.plat_state 0 st).setObj Ob.plat_members 0 s.members.length).setObj Ob.plat_coordinator 0 (s.coordinator.getD (s.obj Ob.plat_coordinator 0))

/-- Slices whose entry or assignments differ between two plats. -/
def changedSlices (old : Option PlatImage) (img : PlatImage) : List Nat :=
  let of (p : PlatImage) (n : Nat) : Option PlatSlice × List PlatAssign := (p.slices.find? (fun x => x.slice == n), p.assigns.filter (fun a => a.slice == n))
  (List.range 256).filter (fun n => match old with
    | none => false
    | some o => of o n != of img n)

/-- Not every changed slice takes over at least 4 frames ahead (R469); a first plat may take effect at once. -/
def State.takeoversLate (s : State) (img : PlatImage) : Bool :=
  let changed := changedSlices s.fab.plat img
  img.slices.any (fun x => decide (x.takeover < s.frame + 4) && (changed.contains x.slice || (s.fab.plat.isNone && x.takeover != 0)))

/-- The coordinator's checks of a proposal (R467, R469). -/
def State.proposalCheck (s : State) (img : PlatImage) : Nat :=
  if !s.platValid img then St.PLAT_INVALID
  else if img.epoch != s.platEpoch + 1 || s.takeoversLate img then St.PLAT_LATE
  else if s.fab.vote.isSome then St.PLAT_BUSY
  else St.OK

/-- No slice loses clusters that this member's ACTIVE traverse still uses (R469). -/
def State.keepsClusters (s : State) (img : PlatImage) : Bool :=
  match s.runningHdr with
  | none => true
  | some h => s.assigns.all (fun a => a.position != h.position || img.assigns.any (fun b =>
      b.slice == a.slice && b.device == a.device && Nat.land (Nat.land a.clusters h.clusterMask) b.clusters == Nat.land a.clusters h.clusterMask))

/-- Slices this device belongs to. -/
def State.ownSlices (s : State) (img : PlatImage) : List Nat := (img.assigns.filter (fun a => a.device == s.device)).map (fun a => a.slice)

/-- Tiles in leases of a device are lost (R122). -/
def State.loseLease (s : State) (key : Nat) : State :=
  let lo := t4Addr (key / 65536) (key % 65536) 0
  let n := ((mget s.fab.leases key).map (fun l => l.tiles)).getD 0
  (s.tier.tiles.filter (fun p => decide (lo ≤ p.1 ∧ p.1 < lo + n))).foldl (fun s p => s.loseTile p.1 causeT4Lost) s

/-- End a lease: its counters follow, and what the lessor held for it goes. -/
def State.dropLease (s : State) (key : Nat) : State :=
  match mget s.fab.leases key with
  | none => s
  | some l =>
    let o := if l.lessee then Ob.t4_tiles_borrowed else Ob.t4_tiles_lent
    let s := s.setObj o 0 (s.obj o 0 - l.tiles)
    { s with fab := { s.fab with
        leases := mdel s.fab.leases key
        leaseTiles := s.fab.leaseTiles.filter (fun (p : Nat × Tile) => p.1 / 2 ^ 32 != key || l.lessee) } }

/-- A device became LOST (R466, R478): its leases are freed, but for WITNESS and STORE leases it holds here; what was borrowed of it is lost;
its group positions are lost to the group. -/
def State.deviceLost (s : State) (d : Nat) : State :=
  let mine := s.fab.leases.filter (fun p => p.1 / 65536 == d)
  let hadGroup := s.allAssigns.any (fun a => a.device == d && s.assigns.any (fun b => b.slice == a.slice))
  let s := mine.foldl (fun s p =>
    if p.2.lessee then (s.loseLease p.1).dropLease p.1
    else if 2 ≤ p.2.kind then { s with fab := { s.fab with leases := mput s.fab.leases p.1 { p.2 with kept := true } } }
    else s.dropLease p.1) s
  let lost := (s.allAssigns.filter (fun a => a.device == d && s.assigns.any (fun b => b.slice == a.slice))).map (fun a => a.position)
  let s := { s with trv := { s.trv with lostMembers := lost.foldl (fun l p => if l.contains p then l else l ++ [p]) s.trv.lostMembers } }
  if hadGroup then s.ckAbort 6 else s

/-- Lists and activations of changed slices that name the takeover frame or a later one are withdrawn (R471). -/
def State.withdrawFrom (s : State) (f : Nat) : State :=
  let gone := s.trv.lists.filter (fun p => decide (f ≤ p.list.takeover))
  let s := gone.foldl (fun s p => (s.withdraw p).bump Ob.cnt_slot_withdrawn 0) s
  { s with trv := { s.trv with slots := s.trv.slots.map (fun (p : Nat × TrvSlot) =>
      (p.1, if p.2.activateAt.any (fun g => decide (f ≤ g)) then { p.2 with activateAt := none } else p.2)) } }

/-- A held request is answered with a status where nothing else answers it. -/
def State.refuseHeld (s : State) (h : HeldReq) (status : Nat) : State := s.fabReply h.hdr (.refused status)

/-- Commit an image as the next epoch (R470-R472): stations hear of it; lost devices, joins, departures and withdrawn lists follow; requests held
for it are applied by the caller. -/
def State.platAdopt (s : State) (img : PlatImage) : State :=
  let changed := changedSlices s.fab.plat img
  let own := s.ownSlices img ++ (s.assigns.map (fun a => a.slice))
  let lostNow := (img.devices.filter (fun d => d.state == 2)).map (fun d => d.device)
  let lostWas := ((s.fab.plat.map (fun p => p.devices)).getD []).filter (fun d => d.state == 2) |>.map (fun d => d.device)
  let mineGone := s.fab.plat.isSome && !img.devices.any (fun d => d.device == s.device)
  let s := { s with fab := { s.fab with
    plat := some img, prev := s.fab.plat.map (fun (p : PlatImage) => { p with assigns := s.allAssigns }), vote := none, round := 0, accepted := none
    joins := s.fab.joins.filter (fun (j : Nat × Nat) => !img.devices.any (fun d => d.device == j.1 && d.state == 1)) } }
  let s := s.setObj Ob.plat_epoch 0 img.epoch
  let s := ((lostNow.filter (fun d => !lostWas.contains d)).foldl State.deviceLost s.peersSeen).peersSeen
  let s := changed.foldl (fun s n =>
    if own.contains n then
      match img.slices.find? (fun x => x.slice == n) with
      | some x => (s.withdrawFrom x.takeover).ckAbort 4
      | none => s
    else s) s
  let s := (((s.tileEvent Ev.PLAT_CHANGED img.epoch 0).pulse 0).bump Ob.cnt_plat_commits 0).platView
  if mineGone && s.fab.leaving.isSome then
    let s := ({ s with fab := { s.fab with plat := none, prev := none, leaving := none } } : State)
    (((s.setObj Ob.composition 0 0).setObj Ob.plat_state 0 0).setObj Ob.plat_epoch 0 0).setObj Ob.plat_members 0 0
  else s

/-- The coordinator opens a vote on an image under its next ballot (R469); alone it commits at once. -/
def State.openVote (s : State) (img : PlatImage) (w : Option Writer) : State :=
  let round := s.fab.round + 1
  let ballot := round * 512 + s.device
  let img := { img with ballot := ballot }
  let others := (platMembers img ++ s.members).foldl (fun l d => if l.contains d || d == s.device then l else l ++ [d]) []
  let s := { s with fab := { s.fab with round := round, vote := some ⟨img, ballot, s.tick, [s.device], w⟩, accepted := some (ballot, img) } }
  let asked := s.members.filter (fun d => d != s.device)
  let s := asked.foldl (fun s d => s.fabSend d 0xFFFF (.platPropose ballot img)) s
  if majority s.members.length ≤ 1 then
    (others.foldl (fun s d => s.fabSend d 0xFFFF (.platCommit img)) s).platAdopt img
  else s

/-- A change that the coordinator itself proposes: the next epoch with changed devices (R466, R472). -/
def State.proposeDevices (s : State) (f : List PlatDevice → List PlatDevice) : State :=
  match s.fab.plat with
  | none => s
  | some p =>
    let img := { p with epoch := p.epoch + 1, devices := f p.devices, handovers := [], slices := p.slices.map (fun (x : PlatSlice) => { x with takeover := 0 }) }
    if s.fab.vote.isSome then s else s.openVote img none

/-- Feature bits of the plat protocol that this stepping defines: none (Table 14-9). -/
def platFeatureBits : Nat := 0

/-- The domain's plat major: the highest that every member supports, of which this stepping supports 1 (R23, R472). -/
def State.domainMajor (s : State) : Nat := s.fab.vers.foldl (fun m p => min m p.2.2.1) 1

/-- The domain's plat features: those of every member (R23, R472). -/
def State.domainFeatures (s : State) : Nat := s.fab.vers.foldl (fun f p => Nat.land f p.2.2.2) platFeatureBits

/-- The devices that wait to join are proposed for the next epoch (R472). -/
def State.admitJoins (s : State) : State :=
  if s.fab.joins.isEmpty then s
  else s.proposeDevices (fun ds => s.fab.joins.foldl (fun l (j : Nat × Nat) =>
    l.filter (fun (d : PlatDevice) => d.device != j.1) ++ [⟨j.1, 1, j.2, List.replicate 16 0⟩]) ds)

/-- Two devices share a slice. -/
def State.sharesSlice (s : State) (d : Nat) : Bool := s.allAssigns.any (fun a => a.device == d && s.assigns.any (fun b => b.slice == a.slice))

/-- Reported devices that no member has reached for 750 ticks are LOST in the next epoch (R466). -/
def State.markLost (s : State) : State :=
  let keep := s.fab.reports.filter (fun r => !s.reachable r.1)
  let due := (keep.filter (fun (r : Nat × Nat) => decide (r.2 + 750 ≤ s.tick) && s.members.contains r.1)).map Prod.fst
  let s := { s with fab := { s.fab with reports := keep } }
  if due.isEmpty || !s.isCoordinator then s
  else s.proposeDevices (fun ds => ds.map (fun (d : PlatDevice) => if due.contains d.device then { d with state := 2 } else d))

/-- The coordinator takes a report of devices from a member (R466, R476). A new owner that reports the old owner of a hand-over to it missed
its DRAIN, and that device is LOST in the next epoch. -/
def State.noteReport (s : State) (src : Nat) (devices : List Nat) : State :=
  if !s.isCoordinator then s
  else
    let late (d : Nat) : Bool := ((s.fab.plat.map (fun p => p.handovers)).getD []).any (fun h => h.fromDev == d && h.toDev == src)
    let (undrained, gone) := devices.partition late
    let reports := (gone.filter (fun d => !s.reachable d)).foldl (fun l d => if l.any (fun r => r.1 == d) then l else l ++ [(d, s.tick)]) s.fab.reports
    let s := ({ s with fab := { s.fab with reports := reports } } : State).markLost
    if undrained.isEmpty then s
    else s.proposeDevices (fun ds => ds.map (fun (d : PlatDevice) => if undrained.contains d.device then { d with state := 2 } else d))

/-- A member reports devices to the coordinator, which may be itself (R466, R476). -/
def State.reportPeers (s : State) (devices : List Nat) : State :=
  match s.coordinator with
  | some c => if c == s.device then s.noteReport s.device devices else s.fabSend c 0xFFFF (.peerReport devices)
  | none => s

/-- The HEARTBEAT block this device sends (R465): its number, epoch and coordinator, its datum's low bits, its UP ports, and whether it reaches a
majority. -/
def State.ownHeartbeat (s : State) : FabHeartbeat :=
  ⟨s.device, s.platEpoch, s.obj Ob.plat_coordinator 0, s.tick % 65536,
   (List.range 16).foldl (fun m p => if s.portUp p then m + 2 ^ p else m) 0, s.hasMajority⟩

/-! ### Sessions of stations elsewhere (R475) -/

/-- Where a session of a station runs when it is not here. -/
def State.routeOf (s : State) (st handle : Nat) : Option RouteEntry := s.fab.route.find? (fun r => r.station == st && r.handle == handle)

/-- Write a route entry. -/
def State.setRoute (s : State) (e : RouteEntry) : State :=
  { s with fab := { s.fab with route := e :: s.fab.route.filter (fun (r : RouteEntry) => r.station != e.station || r.handle != e.handle) } }

/-- Relay what the stations hosted elsewhere are owed: completions, events and ring entries go back by one route, in order. -/
def State.relayOut (s : State) : State :=
  s.fab.remote.foldl (fun s p =>
    let x := s.station p.1
    let s := x.out.foldl (fun s w => match w.body with
      | .completion c => s.fabSend p.2 0xFFFF (.sessionReply p.1 c)
      | .event e => s.fabSend p.2 0xFFFF (.eventRelay p.1 e)
      | .ring e => s.fabSend p.2 0xFFFF (.ringWrite p.1 w.addr e)
      | _ => s) s
    let s := s.setStation p.1 { s.station p.1 with out := [], eq := { (s.station p.1).eq with cons := (s.station p.1).eq.write } }
    x.out.foldl (fun s w => match w.body with
      | .ring e => s.entryPosted e
      | _ => s) s) s

/-- A station hosted elsewhere answers here through relays: it stands ATTACHED with rings that never fill. -/
def State.remoteStation (s : State) (st host : Nat) : State :=
  let x := s.station st
  let s := { s with fab := { s.fab with remote := mput s.fab.remote st host } }
  if x.state == 1 then s
  else s.setStation st { x with state := 1, cq := ⟨0, 16, 0, 0⟩, eq := ⟨0, 16, 0, 0⟩ }

/-! ### Hand-over (R473, R476) -/

/-- Sessions of a slice in a half. -/
def State.sliceSessions (s : State) (slice half : Nat) : List Session :=
  s.sessions.filter (fun x => x.half == half && x.state.live && s.obj Ob.stn_slice x.station == slice)

/-- A key/value tile of the session still stands in T1. -/
def Session.inT1 (x : Session) : Bool := x.pt.entries.any (fun p => tierOf p.2.primary == 1)

/-- A device's features as its port agreed them; with no port to it, all of Table 14-6. -/
def State.peerFeatures (s : State) (d : Nat) : Nat :=
  match (List.range 16).find? (fun p => s.portUp p && s.portPeer p == d) with
  | some p => (s.port p).features
  | none => 0xF

/-- Old owner: once the moved sessions' T1 tiles are parked, the lease, the HANDOVER messages and the DRAIN go (R473). Without
HANDOVER_LEASE the tiles themselves go. -/
def State.handoverGo (s : State) : State :=
  s.fab.outs.foldl (fun s o =>
    let xs := o.sids.filterMap (fun i => s.bySid i)
    if o.gone || xs.any Session.inT1 then s
    else
      let tiles := xs.flatMap (fun x => (x.pt.entries.map (fun p => p.2.primary)) ++ x.pt.tiles.map Prod.snd)
      let t2 := tiles.filter (fun a => tierOf a == 2)
      let size := t2.foldl (fun m a => max m (11 * addrRow a + addrData a + 1)) 0
      let leased := s.peerFeatures o.toDev / 8 % 2 == 1
      let key := o.toDev * 65536 + o.lease
      let s := { s with fab := { s.fab with leases := mput s.fab.leases key ⟨false, o.toDev, 1, size, none, false⟩ } }
      let s := s.addObj Ob.t4_tiles_lent 0 size
      let s := s.fabSend o.toDev o.slice (.leaseGrant o.lease 1 size)
      let s := if leased then s
        else t2.foldl (fun s a => s.fabSend o.toDev o.slice (.t4Write o.lease (11 * addrRow a + addrData a) [s.tileAt a])) s
      let s := xs.foldl (fun s x =>
        let recs := (s.book o.fromHalf).recs.filter (fun r => r.sid == x.sid && !s.deadRec (s.book o.fromHalf).recs r)
        (s.fabSend o.toDev o.slice (.handover x recs)).setRoute ⟨x.handle, x.station, o.toDev, x.sid⟩) s
      let s := s.fabSend o.toDev o.slice (.drain xs.length)
      { s with fab := { s.fab with outs := s.fab.outs.map (fun (q : HandoverOut) =>
          if q == o then { o with gone := true, drainTick := some s.tick } else q) } }) s

/-- At a slice's takeover boundary (R471, R473, R478): its sync delay, its hand-overs, and the recall of leases of devices that left the
slice. `f` is the frame that begins. -/
def State.platBoundary (s : State) (f : Nat) : State :=
  match s.fab.plat with
  | none => s
  | some img =>
    let due := img.slices.filter (fun x => x.takeover == f && f != 0)
    let s := due.foldl (fun s x =>
      let was := ((s.fab.prev.map (fun p => p.assigns)).getD []).filter (fun a => a.slice == x.slice)
      let now := img.assigns.filter (fun a => a.slice == x.slice)
      let s := if now.any (fun a => a.device == s.device) then s.setObj Ob.sync_group_ticks 0 x.syncTicks else s
      let s := (img.handovers.filter (fun h => h.slice == x.slice && h.fromDev == s.device)).foldl (fun s h =>
        let xs := s.sliceSessions h.slice h.fromHalf
        let s := { s with fab := { s.fab with
          outs := s.fab.outs ++ [⟨h.slice, h.toDev, h.fromHalf, xs.map (fun y => y.sid), s.fab.nextLease, false, false, none, []⟩]
          nextLease := (s.fab.nextLease + 1) % 65536 } }
        xs.foldl (fun s y => if y.inT1 then s.produce y.half (32 + y.station % 16) (blockDesc 5 2 y false 0 (y.pt.blocks - 1)) else s) s) s
      let s := (img.handovers.filter (fun h => h.slice == x.slice && h.toDev == s.device)).foldl (fun s h =>
        { s with fab := { s.fab with ins := s.fab.ins ++ [⟨h.slice, h.fromDev, h.toHalf, s.tick, 0, [], [], 0, [], none, false⟩] } }) s
      let left := (was.map (fun a => a.device)).filter (fun d => !now.any (fun a => a.device == d))
      (s.fab.leases.filter (fun p => !p.2.lessee && p.2.kind == 0 && left.contains p.2.peer && p.2.recalled.isNone)).foldl (fun s p =>
        ({ s with fab := { s.fab with leases := mput s.fab.leases p.1 { p.2 with recalled := some s.tick } } } : State).fabSend p.2.peer x.slice
          (.leaseRecall (p.1 % 65536))) s) s
    s.handoverGo

/-- Recalled leases whose time is over: what is left in them is lost (R122, R478). -/
def State.leaseExpire (s : State) : State :=
  (s.fab.leases.filter (fun p => p.2.lessee && p.2.recalled.any (fun t => decide (t + s.obj Ob.t4_timeout 0 < s.tick)))).foldl (fun s p =>
    (s.loseLease p.1).dropLease p.1) s

/-- New owner: with the DRAIN read, every session received and every record durable, the hand-over is acknowledged (R473). Answers those
hand-overs that are acknowledged now. -/
def State.handoverAck (s : State) : State × List HandoverIn :=
  let ready := s.fab.ins.filter (fun i => !i.acked && i.drained == some i.got.length && (i.pos == 0 || s.durable i.pos))
  (ready.foldl (fun s i =>
    ({ s with fab := { s.fab with ins := s.fab.ins.map (fun (j : HandoverIn) => if j == i then { i with acked := true } else j) } } : State).fabSend
      i.fromDev i.slice .handoverAck) s, ready)

/-- A received session takes the residency that its tiles in the lease give it (R73, R473): idle it is PARKED_COLD, and queued it must be
revived. -/
def receivedState (x : Session) (inT4 : Nat) : SState :=
  if inT4 == 0 then x.state
  else match x.state with
    | .opened => .parkedCold
    | .waiting => .parkedCold
    | .parkedWarm => .parkedCold
    | .queued => .reviving
    | .active => .reviving
    | c => c

/-- Sharing sessions that were received name their prefix by its new number (R63). -/
def State.joinShares (s : State) (shares : List (Nat × Nat)) (olds : SMap Nat) : State :=
  shares.foldl (fun s p =>
    match s.bySid p.1, mget olds p.2 with
    | some y, some n => s.setSess { y with prefixSid := n, pt := { y.pt with prefixSid := n } }
    | _, _ => s) s

/-- A session received from its old owner (R37, R473): a new index, its records with new positions, leaf entries in the lease, its handle. Its
prefix moves with it, and it names the prefix by the number that it takes here. -/
def State.receiveSession (s : State) (i : HandoverIn) (x : Session) (recs : List Rec) : State :=
  match s.takeIndex i.toHalf with
  | none => s
  | some (n, g, s) =>
    let lease := ((s.fab.leases.find? (fun p => p.2.lessee && p.2.kind == 1 && p.2.peer == i.fromDev)).map (fun p => p.1 % 65536)).getD 0
    let t4 (a : Nat) : Nat := if tierOf a == 2 then t4Addr i.fromDev lease (11 * addrRow a + addrData a) else a
    let entries := x.pt.entries.map (fun p => (p.1, (⟨t4 p.2.primary, noTile⟩ : PtEntry)))
    let inT4 := (entries.filter (fun p => tierOf p.2.primary == 4)).length
    let inT3 := (entries.filter (fun p => tierOf p.2.primary == 3)).length
    let st := receivedState x inT4
    let y : Session := { x with
      index := n, generation := g, half := i.toHalf, state := st, priorState := if st == .parkedCold && x.state != .parkedWarm then x.state else x.priorState
      row := 0xFFFF, rows := 0, slotFrame := 0, named := [], parking := none, tilesT1 := 0, tilesT2 := 0, tilesT3 := inT3, tilesT4 := inT4
      movedFrom := x.sid, prefixSid := 0xFFFFFFFF, queue := [], queueFrom := 0, grFlags := 0, grSpill := 0
      pt := { x.pt with entries := entries, tiles := x.pt.tiles.map (fun p => (p.1, t4 p.2)), prefixSid := 0xFFFFFFFF } }
    let s := ((s.setSess y).syncQueue n).spillStack n
    let (s, pos) := recs.foldl (fun (acc : State × Nat) r =>
      let (s, q) := acc.1.recAgain i.toHalf y.sid 0 r
      (s, q.pos)) (s, 0)
    let s := s.modSess n (fun y => { y with journalPos := pos })
    let s := s.enterHandles y
    let olds := mput i.olds x.sid y.sid
    let shares := if x.prefixSid == 0xFFFFFFFF then i.shares else i.shares ++ [(y.sid, x.prefixSid)]
    let s := { s with fab := { s.fab with ins := s.fab.ins.map (fun (j : HandoverIn) =>
        if j == i then { i with lease := lease, got := i.got ++ [y.sid], olds := olds, pos := max i.pos pos, shares := shares } else j) } }
    s.joinShares shares olds

/-- Old owner: the hand-over is acknowledged, and the sessions' records and descriptors go; the tiles that the lease lends stay (R473). -/
def State.freeMoved (s : State) (o : HandoverOut) : State :=
  let s := o.sids.foldl (fun s sid =>
    match s.bySid sid with
    | none => s
    | some x =>
      let s := (s.freeQueue x.index).dropHandle x
      { s with
        ses := { s.ses with tab := mdel s.ses.tab x.index }
        fab := { s.fab with outs := s.fab.outs.map (fun (q : HandoverOut) => if q.lease == o.lease then { q with ptTiles := q.ptTiles ++ x.pt.tiles.map Prod.snd } else q) } }) s
  let b := s.book o.fromHalf
  let s := s.setBook o.fromHalf { b with recs := b.recs.filter (fun (r : Rec) => !o.sids.contains r.sid) }
  let s := s.addObj Ob.cnt_handover_sessions o.fromHalf o.sids.length
  { s with fab := { s.fab with outs := s.fab.outs.map (fun (q : HandoverOut) => if q.lease == o.lease then { q with acked := true } else q) } }

end Sys2Proof.Machine
end

