-- ==== Sys2Proof/Machine/Search.lean ====
section
/-! DEFINITION. The rows of chapter 9: searches of the associative engine and their windows, table writes, and vector indexes. -/

namespace Sys2Proof.Machine

/-! ### Searches (R312, R315, R323-R328) -/

/-- Admissions allowed per window: n, capped under THERMAL+POWER_CAP (R327). -/
def State.searchAllowance (s : State) (half : Nat) : Nat :=
  let c := s.cam half
  if s.obj Ob.search_throttle 0 == 1 then max 16 (min c.n c.cap) else c.n

/-- Admissions reserved for traverse searches: while a traverse is ACTIVE whose images carry search tables on the half (R326). -/
def State.searchReserve (s : State) (half : Nat) : Nat :=
  match s.activeRun, s.activeImage with
  | none, _ => 0
  | _, none => 0
  | some _, some i => if (s.searchesOf i).any (fun r => r.cluster / 256 == half) then s.obj Ob.search_trv_share 0 else 0

/-- A search may enter the current window (R325, R326). Requesters below 256 are traverse searches of the half's clusters. -/
def State.searchFits (s : State) (half requester : Nat) : Bool :=
  let c := s.cam half
  let n := s.searchAllowance half
  if requester < 256 then decide (c.winTrv + c.winOther < n)
  else decide (c.winTrv + c.winOther < n) && decide (c.winOther < n - s.searchReserve half)

/-- Admit one search: the lowest matching entry as it stands, the counters, and the result where the requester takes it (R312, R323). -/
def State.searchAdmit (s : State) (half : Nat) (w : CamWait) : State :=
  let c := s.cam half
  let r := camSearch c.entries w.key
  let word := camResult r
  let s := s.setCam half (if w.requester < 256 then { c with winTrv := c.winTrv + 1, lastResult := word }
    else { c with winOther := c.winOther + 1, lastResult := word })
  let s := s.bump Ob.cnt_cam_searches half
  let s := if r.isSome then s.bump Ob.cnt_cam_hits half else s
  if w.requester < 256 then
    let cl := 256 * half + w.requester
    let s := s.clusterAdvance cl s.landCycle
    let s := if s.clusterFenced cl then s else s.setClusterStore cl (bputs (s.clusterStore cl) w.dst (toLE 8 word))
    { s with trv := { s.trv with found := w.tag :: s.trv.found } }
  else s

/-- A search asks for admission: admitted at once, or waiting behind the earlier ones of its requester and, but for a traverse search, behind all (R315,
R324). A requester that finds 1,024 waiting is counted, and waits all the same (R13). -/
def State.searchAsk (s : State) (half : Nat) (w : CamWait) : State :=
  let c := s.cam half
  if s.searchFits half w.requester && !c.waiting.any (fun x => decide (256 ≤ w.requester) || x.requester == w.requester) then s.searchAdmit half w
  else
    let ahead := c.waiting.filter (fun x => decide (x.requester < 256) || decide (256 ≤ w.requester))
    let behind := c.waiting.filter (fun x => decide (256 ≤ x.requester) && decide (w.requester < 256))
    let t := s.setCam half { c with waiting := ahead ++ [w] ++ behind }
    if c.waiting.length < 1024 then t else t.bump Ob.cnt_cam_queue_full half

/-- TRAVERSE_SEARCH (R323, R324): entry `n` of the running traverse's search tables, once a frame at its cycle. -/
def execTraverseSearch (n : Nat) (s : State) : Out :=
  .next (match s.runningHdr, s.activeImage.bind (fun i => (s.searchesOf i)[n]?) with
    | some _, some r =>
      if r.cluster < 512 && !s.clusterFenced r.cluster && !s.asleep r.cluster && decide (r.cycle < 60 * (s.schedTick + 1)) && !s.trv.searched.contains n then
        let s := { s with trv := { s.trv with searched := n :: s.trv.searched } }
        let s := s.clusterAdvance r.cluster r.cycle
        s.searchAsk (r.cluster / 256) ⟨r.cluster % 256, ofLE (bgets (s.clusterStore r.cluster) r.key 16), r.dst, r.tag⟩
      else s
    | _, _ => s)

/-- CAM_SEARCH (R311, R312, R315-R317): a key of the station intake or of another requester; `parity` says that an entry met on the way failed its
parity and was reloaded from the T2 copy. -/
def execCamSearch (half key : Nat) (parity : Bool) (s : State) : Out :=
  .next (if half < 2 then
      let s := if parity then s.bump Ob.cnt_cam_parity half else s
      s.searchAsk half ⟨256, key % 2 ^ 128, 0, 0⟩
    else s)

/-- Waiting searches in the order of R12 at this tick, oldest first within a requester. -/
def State.searchOrder (s : State) (l : List CamWait) : List CamWait :=
  let key (w : CamWait) : Nat := if w.requester < 256 then 0 else (w.requester + 257 - s.tick % 257) % 257 + 1
  l.foldl (fun o w => insertBy (fun a b => decide (key a < key b)) w o) []

/-- SEARCH_WINDOW (R325-R327): a new window of 64 cc opens and waiting searches enter it up to the allowance. -/
def execSearchWindow (half : Nat) (s : State) : Out :=
  .next (if half < 2 then
      let c := s.cam half
      let s := s.setCam half { c with winTrv := 0, winOther := 0, waiting := [] }
      let s := if c.n < 64 then s.bump Ob.cnt_search_throttle_windows half else s
      (s.searchOrder c.waiting).foldl (fun s w =>
        if s.searchFits half w.requester then s.searchAdmit half w
        else
          let c := s.cam half
          s.setCam half { c with waiting := c.waiting ++ [w] }) s
    else s)

/-- n of R325 from a junction temperature in steps of 0.25 °C. -/
def searchRate (quarters : Int) : Nat :=
  let m := quarters - 380
  if m ≤ 0 then 64
  else if 40 ≤ m then 16
  else 64 - 6 * m.toNat / 5

/-- THROTTLE_UPDATE (R325): the hottest associative-bank sensor of the half, in steps of 0.25 °C. -/
def execThrottleUpdate (half : Nat) (quarters : Int) (s : State) : Out :=
  .next (if half < 2 then
      let n := searchRate quarters
      (s.setCam half { s.cam half with n := n }).setObj (if half == 0 then Ob.search_rate_h0 else Ob.search_rate_h1) 0 n
    else s)

/-! ### Table writes (R313, R318-R322) -/

/-- CAM_INSERT (R319): the lowest invalid entry of the region of an unordered table: 1 SESSION_HANDLE (R41 where the region is full),
2 PREFIX_HANDLE, 4 TRAVERSE. -/
def execCamInsert (half table key result : Nat) (s : State) : Out :=
  .next (if half < 2 then
      let c := s.cam half
      let e := camExact table (key % 2 ^ 120) (result % 2 ^ 32)
      match table with
      | 1 =>
        match s.bySid result with
        | some x => if handleKey x.station x.handle == key && x.half == half then s.camAddHandle x else s
        | none => s
      | 2 =>
        match camInsert c.entries c.regions.pfxBase c.regions.pfx e with
        | some m => (s.setCam half (c.put m)).setCamStatus half St.OK
        | none => (s.bump Ob.cnt_prefix_cam_full half).setCamStatus half St.CAM_TABLE_FULL
      | 4 =>
        match s.camTrvInsert half e with
        | some t => t.setCamStatus half St.OK
        | none => s.setCamStatus half St.CAM_TABLE_FULL
      | _ => s
    else s)

/-- CAM_REMOVE (R319): the entry with this key of this table. -/
def execCamRemove (half table key : Nat) (s : State) : Out :=
  .next (if half < 2 then
      let c := s.cam half
      (s.setCam half (c.put (camRemove c.entries (2 ^ 120 * table + key % 2 ^ 120)))).setCamStatus half St.OK
    else s)

/-- ORDERED_INSERT (R314, R320-R322): into the ADMISSION_RULE region; a region without an invalid entry, or one that will shrink below it, refuses it. -/
def execOrderedInsert (half : Nat) (e : CamEntry) (s : State) : Out :=
  .next (if half < 2 then
      match s.camRuleInsert half { e with value := 3 * 2 ^ 120 + e.value % 2 ^ 120, care := 255 * 2 ^ 120 + e.care % 2 ^ 120 } with
      | some t => t.setCamStatus half St.OK
      | none => s.setCamStatus half St.CAM_TABLE_FULL
    else s)

/-! ### Vector indexes (R329, R330, R334-R344) -/

/-- CREATE (R329, R330): tiles are allocated, the generation increments. A pool without the stripes refuses it. -/
def execCreate (w : Writer) (ii : Nat) (s : State) : Out :=
  .next (if ii < 256 then
      s.commandNow w Ob.vx_command ii [1] Ob.vx_status (fun s =>
        if s.obj Ob.vx_state ii != 0 then (s, St.VX_INDEX_BUSY)
        else if s.t2Free (s.obj Ob.vx_half ii) < ceilDiv (s.vxLayout ii).count 11 then (s, St.VX_FULL)
        else ((s.vxMake ii []).setObj Ob.vx_state ii 2, St.OK))
    else s)

/-- VX_LOAD (R344): every tile passes R96 and the digest agrees, and the map follows from the records; else VX_CORRUPT. -/
def execVxLoad (w : Writer) (ii : Nat) (img : Option Octets) (s : State) : Out :=
  .next (if ii < 256 then
      s.command w Ob.vx_command ii [2] (some Ob.vx_status) (fun s =>
        let x := s.vxAt ii
        if s.obj Ob.vx_state ii != 0 then (s, St.VX_INDEX_BUSY)
        else if s.t2Free (s.obj Ob.vx_half ii) < ceilDiv (s.vxLayout ii).count 11 then (s, St.VX_FULL)
        else
          let bad := ((s.setVx ii { vxEmpty with generation := x.generation + 1 }).setObj Ob.vx_state ii 3).setObj Ob.vx_status ii St.VX_CORRUPT
          match img with
          | none => (bad, St.OK)
          | some o =>
            let nodes := parseVx (s.vxGraphKind ii) (s.obj Ob.vx_dims ii) (s.obj Ob.vx_degree ii) (s.obj Ob.vx_capacity ii) o
            let (e, d, entry) := Config.vxLoaded o
            if !(records 4352 o).all (fun t => tileCrcOk t && (parseTile t).formatOk) || o.length % 4352 != 0
                || Config.shake256 o 32 != s.str Ob.vx_digest ii then (bad, St.OK)
            else
              let s := s.vxMake ii nodes
              let s := ((s.setObj Ob.vx_epoch ii (e % 2 ^ 32)).setObj Ob.vx_del_seq ii (d % 2 ^ 32)).setObj Ob.vx_entry ii (entry % 2 ^ 32)
              let live := (nodes.filter (fun p => vxVisible (e % 2 ^ 32) p.2 && !p.2.tomb)).length
              (((s.setObj Ob.vx_live ii live).setObj Ob.vx_state ii 2).setObj Ob.vx_status ii St.OK, St.OK))
    else s)

/-- DROP (R344): waiting queries and inserts complete with VX_INDEX_UNKNOWN; running queries finish first. -/
def execDrop (w : Writer) (ii : Nat) (s : State) : Out :=
  .next (if ii < 256 then
      s.command w Ob.vx_command ii [3] (some Ob.vx_status) (fun s =>
        if s.obj Ob.vx_state ii == 0 || s.obj Ob.vx_state ii == 1 then (s, St.VX_INDEX_UNKNOWN)
        else
          let x := s.vxAt ii
          let gone := s.srch.queries.filter (fun o => o.index == ii)
          let s := { s with srch := { s.srch with queries := s.srch.queries.filter (fun (o : VxOp) => o.index != ii) } }
          let s := gone.foldl (fun s o => s.finish o.st o.seq (Outcome.of St.VX_INDEX_UNKNOWN)) s
          let s := x.inserts.foldl (fun s i => s.finish i.st i.seq (Outcome.of St.VX_INDEX_UNKNOWN)) s
          ((s.setVx ii { x with dropping := true, inserts := [], edits := [] }).vxSettle ii, St.OK))
    else s)

/-- Search clusters of a half (R334). -/
def State.searchClusters (s : State) (half : Nat) : List Nat :=
  (((List.range 256).reverse.map (fun c => 256 * half + c)).filter (fun n =>
    !s.clusterFenced n && !(s.textClusters half).contains n)).take (s.obj Ob.search_clusters 0)

/-- Search clusters of a half that serve now (R334): awake, and outside the ACTIVE traverse's clusters or in the time of text work. -/
def State.searchServes (s : State) (half : Nat) : Bool :=
  (s.searchClusters half).any (fun n => !s.asleep n && (!(s.runningHdr.any (fun h => h.clusterMask / 2 ^ n % 2 == 1)) || s.textOpen half))

/-- VX_QUERY_START (R334, R335, R341): on a half with a search cluster that is awake (R554), the oldest waiting query whose index is not about to
advance pins the epoch and the delete sequence, and its vector is fetched (R494). -/
def execVxQueryStart (half : Nat) (s : State) : Out :=
  .next (match s.srch.queries.find? (fun o => s.obj Ob.vx_half o.index == half && (s.vxAt o.index).advancing.isNone) with
    | none => s
    | some o =>
      if !s.searchServes half then s
      else
        let o' : VxOp := { o with pin := some (s.obj Ob.vx_epoch o.index, s.obj Ob.vx_del_seq o.index) }
        let s := { s with srch := { s.srch with queries := s.srch.queries.erase o, running := s.srch.running ++ [o'] } }
        (s.bump Ob.cnt_vx_queries half).fetchVector o')

/-- Lists that linking an insert stages: its own, and the reverse edges of the neighbours it keeps (R340). -/
def vxLinkEdits (metric degree : Nat) (x : VxIndex) (slot : Nat) (v : List Lane) (kept : List Nat) : List (Nat × List Nat) :=
  (kept.foldl (fun (x : VxIndex) n =>
    match mget x.nodes n with
    | none => x
    | some r =>
      let l := vxStaged x n
      let l' := if l.length < degree then l ++ [slot] else vxSelect metric degree r.vec (vxOrder metric x.nodes r.vec (l ++ [slot]))
      { x with edits := x.edits ++ [(n, l')] })
    { x with nodes := (match mget x.nodes slot with
        | some r => mput x.nodes slot { r with vec := v }
        | none => x.nodes), edits := x.edits ++ [(slot, kept)] }).edits

/-- INSERT_LINK (R340): the oldest insert of a GRAPH index that is not linked, after the queries that wait in the half, on a search
cluster that is awake. -/
def execInsertLink (ii : Nat) (s : State) : Out :=
  .next (let x := s.vxAt ii
    let h := s.obj Ob.vx_half ii
    match x.inserts.find? (fun i => !i.linked) with
    | none => s
    | some i =>
      if s.srch.queries.any (fun o => s.obj Ob.vx_half o.index == h) || !s.searchServes h || x.advancing.isSome then s
      else match mget x.nodes i.slot with
        | none => s
        | some n =>
          let beam := s.obj Ob.vx_build_beam ii
          let metric := s.obj Ob.vx_metric ii
          let p := s.vxParams ii (s.obj Ob.vx_epoch ii) (s.obj Ob.vx_del_seq ii) beam beam 0 (16 * beam)
          let q := vxGraph p x.nodes (s.obj Ob.vx_entry ii) n.vec
          let cand := q.seen.filter (fun a => ((mget x.nodes a).map (fun m => !vxExcluded p.s m)).getD false)
          let kept := vxSelect metric (s.obj Ob.vx_degree ii) n.vec (vxOrder metric x.nodes n.vec cand)
          s.setVx ii { x with
            inserts := x.inserts.map (fun (j : VxInsert) => if j.slot == i.slot then { j with linked := true } else j)
            edits := vxLinkEdits metric (s.obj Ob.vx_degree ii) x i.slot n.vec kept })

/-- EPOCH_ADVANCE (R341): at a multiple of `vx_advance_ticks` with staged work; it waits for the running queries. -/
def execEpochAdvance (ii : Nat) (s : State) : Out :=
  .next (let x := s.vxAt ii
    if s.obj Ob.vx_state ii == 2 && s.tick % max 1 (s.obj Ob.vx_advance_ticks ii) == 0 && vxHasWork x && x.advancing.isNone && !x.dropping then
      if s.vxRunning ii then s.setVx ii { x with advancing := some s.tick } else s.vxAdvance ii
    else s)

/-- One record of the sweep (R343): a list that names tombstoned nodes is staged without them, with their neighbours as candidates. -/
def vxSweepOne (metric degree bound : Nat) (x : VxIndex) (slot : Nat) (n : VxNode) : VxIndex :=
  let l := vxStaged x slot
  let dead (a : Nat) : Bool := ((mget x.nodes a).map (fun m => m.tomb && decide (m.tombSeq ≤ bound))).getD false
  let tomb (a : Nat) : Bool := ((mget x.nodes a).map (fun m => m.tomb)).getD true
  let named := l.filter dead
  if named.isEmpty then x
  else
    let more := named.flatMap (fun a => ((mget x.nodes a).map (fun m => m.nbrs)).getD [])
    let cand := (more.foldl (fun (u : List Nat) a => if u.contains a then u else u ++ [a]) l).filter (fun a => !tomb a)
    { x with edits := x.edits ++ [(slot, vxSelect metric degree n.vec (vxOrder metric x.nodes n.vec cand))] }

/-- REPAIR_SWEEP (R343): the running sweep reads the next `count` records in ascending slot order; at its end the tombstoned nodes it covers
are retired at the next advance. -/
def execRepairSweep (ii count : Nat) (s : State) : Out :=
  .next (let x := s.vxAt ii
    match x.sweep with
    | none => s
    | some (bound, pos) =>
      let todo := (x.nodes.filter (fun p => decide (pos ≤ p.1))).take count
      let x := todo.foldl (fun x p => vxSweepOne (s.obj Ob.vx_metric ii) (s.obj Ob.vx_degree ii) bound x p.1 p.2) x
      let next := match todo.getLast? with
        | some p => p.1 + 1
        | none => pos
      if x.nodes.any (fun p => decide (next ≤ p.1)) then
        (s.setVx ii { x with sweep := some (bound, next) }).setObj Ob.vx_sweep_pos ii next
      else
        let covered := (x.nodes.filter (fun p => p.2.tomb && p.2.insEpoch != vxPending && decide (p.2.tombSeq ≤ bound))).map Prod.fst
        (s.setVx ii { x with sweep := none, retire := x.retire ++ covered.filter (fun a => !x.retire.contains a) }).setObj
          Ob.vx_sweep_pos ii 0xFFFFFFFF)

end Sys2Proof.Machine
end

