-- ==== Sys2Proof/Machine/PowerOps.lean ====
section
/-! DEFINITION. Cluster sleep, the wake governor's requests, and deep sleep (R552-R560, R576). -/

namespace Sys2Proof.Machine

/-! ### Which clusters need to be awake (R552, R554) -/

/-- Some row of a list names a session. -/
def anyRow (l : SlotList) : Bool := l.rows.any (fun e => e.sid != 0xFFFFFFFF)

/-- Text work waits in a half: an accepted record that may be tokenized (R257). -/
def State.textWork (s : State) (half : Nat) : Bool :=
  s.sessions.any (fun x => x.half == half && x.state.live && x.inputs.any (fun r => !r.pending))

/-- Query work waits or runs in a half (R334): queries, and inserts that are not linked. -/
def State.queryWork (s : State) (half : Nat) : Bool :=
  (s.srch.queries ++ s.srch.running).any (fun o => s.obj Ob.vx_half o.index == half)
  || s.srch.vx.any (fun p => s.obj Ob.vx_half p.1 == half && p.2.inserts.any (fun i => !i.linked))

/-- Cluster n has text work or query work. -/
def State.hasWork (s : State) (n : Nat) : Bool :=
  let h := n / 256
  (s.textWork h && (s.textClusters h).contains n) || (s.queryWork h && (s.searchClusters h).contains n)

/-- The ACTIVE traverse uses cluster n. -/
def State.maskUses (s : State) (n : Nat) : Bool := (s.activeRun.map (fun h => hdrUses h n)).getD false

/-- Cluster n is idle in the frame (R552). -/
def State.clusterIdle (s : State) (n : Nat) : Bool :=
  !s.clusterFenced n && !s.hasWork n
  && (!s.maskUses n || !((s.trv.inForce.map anyRow).getD false))

/-- An acknowledged list or a pending activation needs cluster n (R552, R554). -/
def State.aheadNeeds (s : State) (n : Nat) : Bool :=
  (s.maskUses n && s.trv.lists.any (fun p => p.acked && anyRow p.list))
  || s.trv.slots.any (fun p => p.2.activateAt.isSome && (p.2.image.map (fun i => hdrUses i.hdr n)).getD false)

/-- Power mode of a half: 0 ALWAYS_ON, 1 AUTONOMOUS_SLEEP. -/
def State.powerMode (s : State) (half : Nat) : Nat := s.obj (if half == 0 then Ob.half0_power_mode else Ob.half1_power_mode) 0

/-- A sleeping cluster's wake is requested (R554), or its half no longer sleeps (R552). -/
def State.wakeWanted (s : State) (n : Nat) : Bool :=
  s.asleep n && (mget s.pwr.waking n).isNone
  && (s.powerMode (n / 256) == 0 || !s.clusterIdle n || s.aheadNeeds n || s.core.testing.contains n)

/-- Clusters of a half that want their wake, or that wait to sleep, in the order of R12 at this tick. -/
def State.wakeOrder (s : State) (half : Nat) (p : Nat → Bool) : List Nat :=
  ((List.range 256).map (fun k => 256 * half + (s.tick + k) % 256)).filter p

/-- n of R559: the most wakes and sleep entries of one window. -/
def State.wakeAllowance (s : State) (half : Nat) : Nat :=
  let budget := s.obj (if half == 0 then Ob.wake_budget_h0 else Ob.wake_budget_h1) 0
  min (s.obj Ob.wake_max_per_us 0) (budget / max 1 (s.obj Ob.wake_step 0))

/-- A cluster loses its cores and the bytes of its store below 0x180000 (R552). -/
def State.sleepCluster (s : State) (n : Nat) : State :=
  let s := (List.range 8).foldl (fun s k => s.clearCore (8 * n + k)) s
  let s := s.setClusterStore n ((s.clusterStore n).filter (fun p => decide (0x180000 ≤ p.1)))
  { s with core := { s.core with clusterFlight := mdel s.core.clusterFlight n, clusterReads := mdel s.core.clusterReads n }
           sync := { s.sync with waits := s.sync.waits.filter (fun w => w.core / 8 != n) }
           pwr := { s.pwr with asleep := mput s.pwr.asleep n (), waking := mdel s.pwr.waking n, sleeps := mdel s.pwr.sleeps n
                               deferred := mdel s.pwr.deferred n } }

/-- Idle boundaries are counted, and a cluster idle at `cl_sleep_frames` of them asks for SLEEP unless a list or an activation needs it (R552). -/
def State.sleepBoundary (s : State) : State :=
  s.forN 512 (fun s n =>
    if s.clusterIdle n && !s.asleep n then
      let k := (mget s.pwr.idle n).getD 0 + 1
      let want : Bool := s.powerMode (n / 256) == 1 && decide (s.obj Ob.cl_sleep_frames 0 < k) && !s.aheadNeeds n
      s.setPwr { s.pwr with
        idle := mput s.pwr.idle n k
        sleeps := if want then mput s.pwr.sleeps n () else mdel s.pwr.sleeps n }
    else s.setPwr { s.pwr with idle := mdel s.pwr.idle n, sleeps := mdel s.pwr.sleeps n })

/-! ### Deep sleep (R556-R558) -/

/-- A LOADED or ACTIVE traverse binds a model slot whose weights are at home in T2 (R555). -/
def State.bindsT2 (s : State) : Bool :=
  s.trv.slots.any (fun p => (s.obj Ob.trv_state p.1 == 2 || s.obj Ob.trv_state p.1 == 3)
    && (p.2.image.map (fun i => i.binds.any (fun b => (s.modelSlot b.slot).home == 2))).getD false)

/-- No message in any intake but the one that carries the command itself. -/
def State.intakeQuiet (s : State) (w : Writer) : Bool :=
  s.stn.heldHellos.isEmpty && s.stn.st.all (fun p => p.2.intake.all (fun e =>
    match w with
    | .station st seq => p.1 == st && e.msg.hdr.seq == seq
    | _ => false))

/-- The conditions of R556. -/
def State.deepReady (s : State) (w : Writer) : Bool :=
  s.activeRun.isNone && !s.bindsT2
  && s.sessions.all (fun x => !x.state.live || x.state.parked)
  && s.intakeQuiet w && s.ck.run.isNone
  && s.srch.vx.all (fun p => p.2.inserts.isEmpty && p.2.edits.isEmpty && p.2.retire.isEmpty && p.2.sweep.isNone)
  && (s.obj Ob.witness_state 0 == 0 || s.obj Ob.witness_state 0 == 2)
  && !s.sliced && s.obj Ob.fab_witness_serve 0 / 2 ^ 31 % 2 == 0

/-- `tile_power_state`. -/
def State.powerState (s : State) : Nat := s.obj Ob.tile_power_state 0

/-- The tile is in deep sleep. -/
def State.deep (s : State) : Bool := s.powerState == 2

/-- Earliest wait deadline or gate expiry of the sessions (R557). -/
def State.earliest (s : State) : Option Nat :=
  let ds := s.sessions.flatMap (fun x =>
    if !x.state.live then []
    else (if x.waitOpen && x.waitDeadline != 0 then [x.waitDeadline] else [])
      ++ (x.bindings.filter (fun b => b.flags % 4 == 1 && b.since != some 0)).map (fun _ => x.lastActive + s.obj Ob.stn_sync_gate_ticks x.station))
  match ds with
  | [] => none
  | d :: r => some (r.foldl min d)

/-- Entry into deep sleep begins (R557). -/
def State.enterDeep (s : State) : State :=
  let s := (s.setObj Ob.tile_power_state 0 1).tileEvent Ev.DEEP_SLEEP_ENTER 0 0
  s.setPwr { s.pwr with deadline := s.earliest, lastFrame := false, quietSince := none }

/-- The last STAKE frame has been sent: the domains sleep and every pin is released (R556, R576). -/
def State.deepNow (s : State) : State :=
  let s := ((List.range 512).filter (fun n => !s.clusterFenced n && !s.asleep n)).foldl State.sleepCluster s
  let s := { s with stn := { s.stn with modules := s.stn.modules.map (fun (p : Nat × UcieModule) =>
    (p.1, if p.2.state == 2 then { p.2 with state := 3 } else p.2)) } }
  (s.setPwr { s.pwr with pins := 0, lastFrame := false }).setObj Ob.tile_power_state 0 2

/-- Idle frames that passed while the tile slept are counted (R145). -/
def State.catchUp (s : State) : State :=
  let n := s.frameEnd - s.frameStart
  let k := (s.tick - s.frameStart) / max 1 n
  { s with frame := s.frame + k, frameStart := s.frameStart + k * n }

/-- A wake source ends deep sleep, or abandons its entry (R558): heartbeats resume from this tick. -/
def State.wakeBy (s : State) (cause : Nat) : State :=
  if s.powerState == 1 then
    let s := ((s.setObj Ob.tile_power_state 0 0).setObj Ob.wake_cause 0 cause).bump Ob.cnt_sleep_aborted 0
    (s.setPwr { s.pwr with lastFrame := false }).tileEvent Ev.DEEP_SLEEP_EXIT cause 0
  else if s.powerState == 2 then
    let s := ((s.catchUp).setObj Ob.tile_power_state 0 0).setObj Ob.wake_cause 0 cause
    let s := s.attached.foldl (fun s n => s.setStation n { s.station n with lastArrival := s.tick, hbLast := s.tick, missed := 0 }) s
    s.tileEvent Ev.DEEP_SLEEP_EXIT cause 0
  else s

/-- A transfer, an Opdun frame or a pin is a wake source only while the tile sleeps or enters sleep. -/
def State.arrivalWakes (s : State) (cause : Nat) : State := if s.powerState == 1 || s.powerState == 2 then s.wakeBy cause else s

/-- How long the conditions of deep sleep have held (R556), kept at each tick. -/
def State.quietTick (s : State) : State :=
  if s.powerState == 0 && s.powerMode 0 == 1 && s.powerMode 1 == 1 && s.deepReady .device then
    s.setPwr { s.pwr with quietSince := some (s.pwr.quietSince.getD s.tick) }
  else s.setPwr { s.pwr with quietSince := none }

end Sys2Proof.Machine
end

