-- ==== Sys2Proof/Machine/HostOps.lean ====
section
/-! DEFINITION. UCIe modules, arrivals and the loss of a station (R482-R484, R486, R508, R509). -/

namespace Sys2Proof.Machine

/-- A module as it stands with its power off. -/
def ucieOff : UcieModule := ⟨0, 0, 0, 0, 0⟩

/-- A module's state. -/
def State.ucie (s : State) (m : Nat) : UcieModule := (mget s.stn.modules m).getD ucieOff

/-- Store a module's state. -/
def State.setUcie (s : State) (m : Nat) (x : UcieModule) : State := { s with stn := { s.stn with modules := mput s.stn.modules m x } }

/-- A module counts as UP from successful training until link down; one in L1 is up (R483, R555). -/
def State.ucieUp (s : State) (m : Nat) : Bool := decide (2 ≤ (s.ucie m).state)

/-- Report source of a module (R430). -/
def ucieSource (m : Nat) : Nat := 0x250 + m

/-- Causes of this chapter without a field value, in order of first mention (R512). -/
def causeTrainFail : Nat := 0x0F81
def causeLinkDown : Nat := 0x0F82
def causeTransferInvalid : Nat := 0x0F83
def causeConsIndex : Nat := 0x0F84

/-- Whole heartbeat intervals that ended by a tick and in which nothing arrived, at most three, counted in `stn_cnt_hb_missed` (R508). An arrival
in the tick in which an interval ends falls within it (R19). -/
def State.countMissed (s : State) (n tick : Nat) : State :=
  let x := s.station n
  let m := min 3 ((tick - x.lastArrival) / max 1 x.hbTicks)
  (s.setStation n { x with missed := max x.missed m }).addObj Ob.stn_cnt_hb_missed n (m - x.missed)

/-- Any transfer from a station counts as its heartbeat (R508), and ends deep sleep (R558). -/
def State.arrived (s : State) (n m : Nat) : State :=
  let s := s.arrivalWakes 1
  let s := s.setUcie m { s.ucie m with lastUse := s.tick, state := 2 }
  if (s.station n).state == 1 then
    let s := s.countMissed n (s.tick - 1)
    s.setStation n { s.station n with lastArrival := s.tick, missed := 0 }
  else s

/-- Every tile in a station's extents is lost (R122). -/
def State.loseExtents (s : State) (n : Nat) : State :=
  (s.tier.tiles.filter (fun p => tierOf p.1 == 3 && addrStation p.1 == n)).foldl (fun s p => s.loseTile p.1 causeT3Lost) s

/-- A station becomes LOST: its intake is discarded and its extents are lost (R489, R509). -/
def State.stationLost (s : State) (n : Nat) : State :=
  let s := (s.dropIntake n).setStationState n 2
  let x := s.station n
  (s.setStation n { x with reads := [], out := x.out.map (fun (w : HostWrite) => { w with issued := false }) }).loseExtents n

/-- An ATTACHED station whose module went down moves to another, sending its unacknowledged writes again, or is LOST (R484, R502). -/
def State.stationMove (s : State) (n : Nat) : State :=
  let x := s.station n
  match s.pickModule x.module with
  | some m => s.setStation n ({ x with module := m } : Station).reissue
  | none => s.stationLost n

/-- A module leaves UP: ATTACHED stations that use it move. -/
def State.ucieDown (s : State) (m : Nat) : State :=
  let s := s.setUcie m { s.ucie m with state := 0, since := s.tick }
  (s.attached.filter (fun n => (s.station n).module == m)).foldl State.stationMove s

/-- What a transfer's header must be for the host to send it (R485, R486): kind MSG, READ_DATA, HEARTBEAT or CTRL_READ, and its length. -/
def transferOk (t : Transfer) : Bool := [1, 4, 5, 6].contains t.kind && decide (t.len ≤ 4096) && t.len % 8 == 0

/-- A transfer arrives on an UP module: an unknown kind or a length out of range is discarded and reported (R486); any other is its
station's heartbeat. `kind` is the kind the command stands for. -/
def State.transfer (s : State) (t : Transfer) (kind : Nat) (go : State → State) : State :=
  if !(decide (t.ucie < 8 ∧ t.station < 256) && s.ucieUp t.ucie) then s
  else if !transferOk t then s.report (ucieSource t.ucie) clsProtocol causeTransferInvalid
  else
    let s := s.arrived t.station t.ucie
    if t.kind == kind then go s else s

/-- The host's consumer index as read from a ring header is taken, or is ahead of the entries written (R497). -/
def HostRing.take (r : HostRing) (v : Nat) : Option HostRing :=
  if (2 ^ 32 + v - r.cons) % 2 ^ 32 ≤ (2 ^ 32 + r.write - r.cons) % 2 ^ 32 then some { r with cons := v % 2 ^ 32 } else none

/-- A read of a ring's header is outstanding. -/
def Station.reading (x : Station) (u : ReadUse) : Bool := x.reads.any (fun p => p.2.use == u)

/-- Issue the READ_REQ of one read. -/
def Station.readReq (x : Station) (tick addr len : Nat) (u : ReadUse) : Station :=
  { x with reads := mput x.reads x.nextTag ⟨addr, len, tick, u⟩, nextTag := x.nextTag + 1 }

/-- Read a ring's header unless a read of it is outstanding (R497). -/
def Station.readHeader (x : Station) (tick : Nat) (completion : Bool) : Station :=
  let u : ReadUse := if completion then .cqHeader else .eqHeader
  if x.reading u then x else x.readReq tick (if completion then x.cq.base else x.eq.base) 64 u

/-- Room for one more message's completion: the ring's room less the entries that messages in intake have taken (R496, R497). -/
def Station.entryRoom (x : Station) : Nat := x.cq.room - x.cqTaken

end Sys2Proof.Machine
end

