-- ==== Sys2Proof/Machine/Reads.lean ====
section
/-! DEFINITION. What an object reads as (R514-R516, R535): the values that are computed when they are read, the readable entries of the logs,
and the reply that carries a value. -/

namespace Sys2Proof.Machine

/-! ### Entries as octets -/

/-- Error ring entry, Table 12-10. -/
def errBytes (e : ErrEntry) : Octets :=
  toLE 8 e.tick ++ toLE 2 e.source ++ toLE 1 e.cls ++ toLE 1 ((if e.coalesced then 1 else 0) + (if e.first then 2 else 0)) ++ toLE 2 e.cause ++ toLE 2 0
    ++ toLE 4 e.count ++ toLE 4 e.seq ++ toLE 8 e.lastTick ++ (e.body ++ List.replicate 32 0).take 32

/-- Hold log entry, Table 4-9. -/
def holdBytes (e : HoldEntry) : Octets :=
  toLE 8 e.frame ++ toLE 8 e.startTick ++ toLE 4 e.schedTick ++ toLE 2 e.length ++ toLE 1 e.cause ++ toLE 1 e.requesters ++ toLE 2 e.position
    ++ toLE 1 e.queue ++ toLE 1 0 ++ toLE 4 e.tag

/-- Move completion record, Table 3-9. -/
def moveBytes (m : MoveDone) : Octets :=
  toLE 4 m.tag ++ toLE 1 m.status ++ toLE 1 m.queue ++ toLE 2 (min m.tilesDone 0xFFFF) ++ toLE 8 m.tick

/-- Management log entry, Table 16-12. -/
def mpLogBytes (e : MpLogEntry) : Octets :=
  toLE 4 e.number ++ toLE 2 e.code ++ toLE 1 e.pcr ++ toLE 1 e.source ++ toLE 8 e.tick ++ toLE 8 e.time ++ toLE 8 e.arg
    ++ (e.digest ++ List.replicate 32 0).take 32

/-- Associative entry, Table 9-1: what it holds, and whether it is valid. -/
def camBytes (p : CamEntry × Bool) : Octets :=
  let x := p.1
  toLE 16 x.value ++ toLE 16 x.care ++ toLE 4 x.result ++ toLE 4 x.order ++ toLE 4 (if p.2 then 1 else 0)
    ++ toLE 4 (Config.camParity x.value x.care x.result x.order)

/-- Synchronisation object, Table 10-1. -/
def syncBytes (o : SyncObj) (waiters : Nat) : Octets :=
  toLE 1 (syncTypeCode o.type + (if o.group then 4 else 0) + (if o.persist then 8 else 0)) ++ toLE 1 0 ++ toLE 2 o.owner ++ toLE 4 o.value
    ++ toLE 2 o.parties ++ toLE 2 o.cntEven ++ toLE 2 o.cntOdd ++ toLE 2 (min waiters 0xFFFF)

/-- The entries of a plat image, Table 14-10. -/
def platEntries (p : PlatImage) : Octets :=
  p.devices.flatMap (fun d => toLE 2 d.device ++ toLE 1 d.state ++ List.replicate 13 0 ++ toLE 32 d.identity
    ++ (List.range 16).flatMap (fun k => toLE 2 (d.links.getD k 0)))
  ++ p.slices.flatMap (fun x => toLE 2 x.slice ++ toLE 2 x.benchmark ++ toLE 2 x.size ++ toLE 1 x.hops ++ toLE 1 0 ++ toLE 2 x.syncTicks
    ++ List.replicate 6 0 ++ toLE 8 x.takeover ++ toLE 8 x.trv)
  ++ p.assigns.flatMap (fun a => toLE 2 a.slice ++ toLE 2 a.device ++ toLE 2 a.position ++ toLE 2 a.ports ++ toLE 4 a.channels ++ List.replicate 20 0
    ++ toLE 64 a.clusters)
  ++ p.handovers.flatMap (fun h => toLE 2 h.slice ++ toLE 2 h.fromDev ++ toLE 2 h.toDev ++ toLE 2 (h.fromHalf % 2 + 2 * (h.toHalf % 2)) ++ toLE 8 0)

/-- A plat image, Tables 14-9 and 14-10, with its CRC. -/
def platBytes (p : PlatImage) : Octets :=
  let hd := toLE 4 0x54414C50 ++ toLE 2 p.major ++ toLE 2 1 ++ toLE 4 p.required ++ toLE 4 p.optional ++ toLE 8 p.epoch ++ toLE 8 p.domain
    ++ toLE 2 p.devices.length ++ toLE 2 p.slices.length ++ toLE 2 p.assigns.length ++ toLE 2 p.handovers.length ++ toLE 4 p.ballot
    ++ List.replicate 16 0
  let es := platEntries p
  hd ++ toLE 4 (crc32c 0xFFFFFFFF (hd ++ toLE 4 0 ++ es)) ++ es

/-- Octets of a text. -/
def textOf (t : String) : Octets := t.toList.map (fun c => BitVec.ofNat 8 c.toNat)

/-! ### Gauges -/

/-- Waiters of an object (Table 10-1): core WAITs, and sessions that a GATE binding on it holds QUEUED. -/
def State.waiters (s : State) (n : Nat) : Nat :=
  (s.sync.waits.filter (fun w => w.obj == n)).length
  + (s.sessions.filter (fun x => x.state == .queued && x.bindings.any (fun b =>
      b.flags % 4 == 1 && b.since != some 0 && s.syncName x.station b.name == some n && !s.gateMet x b))).length

/-- Padding slots of a half's blocks in T2 (R104). -/
def State.padTiles (s : State) (half : Nat) : Nat :=
  ((s.sessions.filter (fun x => x.half == half)).map (fun x =>
    let tb := x.pt.layers * x.pt.groups * 2
    let blocks := ((x.pt.entries.filter (fun p => tierOf p.2.t2Copy == 2)).map (fun p => ptBlock p.1)).eraseDups
    blocks.length * (ceilDiv tb 11 * 11 - tb))).foldl (· + ·) 0

/-- Mirror and witness bits of `fb_degraded`. -/
def State.fbDegraded (s : State) : Nat :=
  let low (h : Nat) : Bool := decide ((s.book h).tiles * 9 < (s.book h).used * 10)
  (if (s.book 0).mirrorAbsent then 1 else 0) + (if (s.book 1).mirrorAbsent then 2 else 0) + (if s.obj Ob.witness_state 0 != 2 then 4 else 0)
    + (if low 0 then 8 else 0) + (if low 1 then 16 else 0)

/-! ### Power and clock domains (R549-R552, R555, Table 17-3) -/

/-- A live session is journaled and a witness serves it (R555). -/
def State.witnessDuty (s : State) : Bool :=
  s.obj Ob.witness_mode 0 != 0 && s.sessions.any (fun x => x.state.live && x.fbMode != 2)

/-- Half whose fabric engine reaches `witness_peer`. -/
def State.witnessHalf (s : State) : Nat :=
  let peer := s.obj Ob.witness_peer 0
  (if !s.sliced then peer / 65536 % 16 else (s.route (peer % 512)).getD 16) / 8

/-- `pd_status` of a power domain: 1 ON, 2 CLOCK_GATED, 3 SLEEP, 4 FENCED. -/
def State.domain (s : State) (n : Nat) : Nat :=
  let auto (h : Nat) : Bool := s.powerMode h == 1
  if n < 512 then
    if s.clusterFenced n then 4
    else if s.asleep n then 3
    else if s.powerMode (n / 256) == 0 && s.clusterIdle n then 2
    else 1
  else if decide (602 ≤ n) then 1
  else if 552 ≤ n ∧ n < 560 then (if (s.ucie (n - 552)).state == 3 then 3 else 1)
  else if s.deep then 3
  else if 536 ≤ n ∧ n < 544 then
    (if auto ((n - 536) / 4) && s.tier.tiles.all (fun p => tierOf p.1 != 1 || addrStack p.1 != n - 536) then 3 else 1)
  else if 544 ≤ n ∧ n < 552 then
    (if auto ((n - 544) / 4) && s.obj Ob.port_role (2 * (n - 544)) == 0 && s.obj Ob.port_role (2 * (n - 544) + 1) == 0 then 3 else 1)
  else if 564 ≤ n ∧ n < 596 then
    let h := (n - 564) / 16
    let b := (n - 564) % 16
    if auto h && (s.cam h).entries.all (fun p => p.1 / 32768 != b) then 3 else 1
  else if 600 ≤ n ∧ n < 602 then
    let h := n - 600
    if auto h && (List.range 8).all (fun k => s.obj Ob.port_state (8 * h + k) != 2 && s.obj Ob.port_state (8 * h + k) != 3)
      && !(s.witnessDuty && s.obj Ob.witness_mode 0 == 1 && s.witnessHalf == h) then 3 else 1
  else 1

/-- Power domain that feeds a clock domain (Table 17-1). -/
def clockPower (n : Nat) : Nat :=
  if n < 544 then n
  else if n < 576 then 544 + (n - 544) / 4
  else if n < 588 then n - 24
  else if n < 590 then 564 + 16 * (n - 588)
  else n + 6

/-- `cd_status`: 0 STOPPED, 2 RUNNING, 3 GATED. A half's associative engine runs while one of its banks does. -/
def State.clockStatus (s : State) (n : Nat) : Nat :=
  if 588 ≤ n ∧ n < 590 then
    (if (List.range 16).any (fun b => s.domain (564 + 16 * (n - 588) + b) == 1) then 2 else 0)
  else match s.domain (clockPower n) with
    | 1 => 2
    | 2 => 3
    | _ => 0

/-- `cd_freq_khz` (R551). -/
def State.clockFreq (s : State) (n : Nat) : Nat :=
  if s.clockStatus n == 0 then 0
  else if n < 512 then 1500000
  else if n == 597 then 100000
  else if n == 598 then 32
  else if n == 599 then 50000
  else Config.clockKhz n % 2 ^ 32

/-! ### Values computed when they are read -/

/-- A bucket level as it reads (R381). -/
def State.levelBytes (s : State) (tenant : Bool) (n res : Nat) : Octets := toLE 8 (twos 64 (s.level tenant n res))

/-- The objects whose value is computed, for the place (i, j) of an access in its row. -/
def State.computed (s : State) (i : Nat) : List (ObjSpec × Octets) :=
  let sel := s.obj Ob.err_src_select 0
  let src := s.errSource sel
  let zero64 : Octets := List.replicate 64 0
  let name := s.obj Ob.stn_sync_select i
  [(Ob.id_vendor, textOf "Pycor"), (Ob.id_product, textOf "Tilfy Detrum TD-9024"), (Ob.id_fingerprint, idFingerprint),
   (Ob.id_public_key, Config.idPublicKey), (Ob.id_certificate, Config.idCertificate),
   (Ob.fb_pos_h0, toLE 8 (bookPos 0 (s.book 0).next)), (Ob.fb_pos_h1, toLE 8 (bookPos 1 (s.book 1).next)), (Ob.fb_degraded, toLE 1 s.fbDegraded),
   (Ob.fn_mac, 2 :: idFingerprint.take 5), (Ob.opdun_assocs, toLE 1 s.mgmt.assocs.length), (Ob.cal_time, toLE 8 s.timeNow),
   (Ob.cal_anchor, toLE 8 s.mgmt.calTb ++ toLE 8 s.mgmt.calSb.toNat ++ toLE 8 (twos 64 s.mgmt.calEb)),
   (Ob.snap_epoch_h0, toLE 2 (s.eng 0).epoch), (Ob.snap_epoch_h1, toLE 2 (s.eng 1).epoch), (Ob.t1_slots_free, toLE 8 (s.t1Free 0 + s.t1Free 1)),
   (Ob.v_time, toLE 8 (s.vTime i)), (Ob.pad_tiles, toLE 8 (s.padTiles i)),
   (Ob.stn_step_level, s.levelBytes false i 0), (Ob.stn_revive_level, s.levelBytes false i 1), (Ob.stn_park_level, s.levelBytes false i 2),
   (Ob.stn_query_level, s.levelBytes false i 3), (Ob.tn_step_level, s.levelBytes true i 0), (Ob.tn_revive_level, s.levelBytes true i 1),
   (Ob.tn_park_level, s.levelBytes true i 2), (Ob.tn_query_level, s.levelBytes true i 3)]
  ++ [(Ob.stn_sync_state, match s.syncName i name with
        | some n => syncBytes (s.syncObj n) (s.waiters n)
        | none => syncBytes freeSync 0),
   (Ob.move_completion_log, match (s.eng i).log.head? with
        | some m => moveBytes m
        | none => List.replicate 16 0),
   (Ob.hold_log, match s.trv.holdLog.head? with
        | some e => holdBytes e
        | none => List.replicate 32 0),
   (Ob.err_unread, toLE 4 (s.fb.err.spill.length + s.fb.err.ring.length)),
   (Ob.err_read, match (s.fb.err.spill ++ s.fb.err.ring).head? with
        | some e => errBytes e
        | none => zero64),
   (Ob.err_first, (src.first.map errBytes).getD zero64), (Ob.err_recent, (src.recent.map errBytes).getD zero64), (Ob.err_src_total, toLE 8 src.total),
   (Ob.att_report, if s.mgmt.attReport.isEmpty then List.replicate 3821 0 else s.mgmt.attReport), (Ob.att_pcr, s.mgmt.pcrs.flatMap (fun p => p)),
   (Ob.mp_log_entry, match s.mgmt.mpLog.find? (fun e => e.number == s.obj Ob.mp_log_select 0) with
        | some e => mpLogBytes e
        | none => zero64),
   (Ob.pd_status, toLE 1 (s.domain (s.obj Ob.pd_select 0))), (Ob.cd_freq_khz, toLE 4 (s.clockFreq (s.obj Ob.cd_select 0))),
   (Ob.cd_status, toLE 1 (s.clockStatus (s.obj Ob.cd_select 0))),
   (Ob.datum_counter, toLE 8 s.tick), (Ob.frame_number, toLE 8 s.frame), (Ob.frame_start_tick, toLE 8 s.frameStart),
   (Ob.plat_read_data, (Sys2Proof.Machine.slice ((s.fab.plat.map platBytes).getD []) (s.obj Ob.plat_read_offset 0) 64 ++ zero64).take 64),
   (Ob.cam_read_data, camBytes ((s.cam (s.obj Ob.cam_read_addr 0 / 2 ^ 19 % 2)).read (s.obj Ob.cam_read_addr 0 % 2 ^ 19))),
   (Ob.sync_free_h0, toLE 2 (s.freePool 0).length), (Ob.sync_free_h1, toLE 2 (s.freePool 1).length)]

/-- Value of the object at the place (i, j) of a row: a written RWF value that waits for the boundary (R516), a computed value, or the stored one. -/
def State.readRow (s : State) (o : ObjSpec) (i j : Nat) : Octets :=
  match mget s.dict.rwf (objKey o i j) with
  | some (.num n) => toLE (kindBytes o.kind) n
  | some (.octets v) => v
  | none =>
    match (s.computed i).find? (fun p => p.1.base == o.base && p.1.subLo == o.subLo) with
    | some p => p.2
    | none =>
      if o.kind == .octets then s.strAt o i j else toLE (kindBytes o.kind) (s.objAt o i j)

/-- What a read of a log takes out of it (R137, R172, R434). -/
def State.popRow (s : State) (o : ObjSpec) (i : Nat) : State :=
  if o.base == Ob.move_completion_log.base && o.subLo == Ob.move_completion_log.subLo then
    s.setEng i { s.eng i with log := (s.eng i).log.drop 1 }
  else if o.base == Ob.hold_log.base && o.subLo == Ob.hold_log.subLo then { s with trv := { s.trv with holdLog := s.trv.holdLog.drop 1 } }
  else if o.base == Ob.err_read.base && o.subLo == Ob.err_read.subLo then
    let r := s.fb.err
    match r.spill with
    | _ :: q => s.setErr { r with spill := q }
    | [] => s.setErr { r with ring := r.ring.drop 1 }
  else s

/-! ### Access by index and subindex (R514-R516, R535) -/

/-- Target of a legacy register (Table 16-11). -/
def aliasOf : Nat → Option (ObjSpec × Nat)
  | 0x00 => some (Ob.id_part, 0)
  | 0x01 => some (Ob.id_stepping, 0)
  | 0x02 => some (Ob.fw_version, 0)
  | 0x10 => some (Ob.tj_max_h0, 0)
  | 0x11 => some (Ob.tj_max_h1, 0)
  | 0x20 => some (Ob.err_coalesce_ticks, 0)
  | 0x21 => some (Ob.err_unread, 0)
  | 0x30 => some (Ob.cnt_cores_fenced, 0)
  | 0x31 => some (Ob.cnt_clusters_fenced, 0)
  | 0x40 => some (Ob.plat_epoch, 0)
  | _ => none

/-- The row and place of an index and subindex. An index of 0x2200 from subindex 2 on is the tenant's that `tn_select` names, and 0xC0rr:01 is the
object that legacy register rr aliases. -/
def State.findObj (s : State) (index sub : Nat) : Option (ObjSpec × Nat × Nat) :=
  if 0x10000 ≤ index then none
  else if index == 0x2200 && decide (2 ≤ sub) then objFind (0x12000 + s.obj Ob.tn_select 0) sub
  else if index / 256 == 0xC0 then (if sub == 1 then (aliasOf (index % 256)).map (fun p => (p.1, p.2, 0)) else none)
  else objFind index sub

/-- Highest subindex of an index, none where the index does not exist (R514). -/
def subTop (index : Nat) : Option Nat :=
  if 0x10000 ≤ index then none
  else if index / 256 == 0xC0 then (aliasOf (index % 256)).map (fun _ => 1)
  else
    let rows := objTable.filter (fun (o : ObjSpec) => decide (o.base ≤ index ∧ index < o.base + o.count)
      || (index == 0x2200 && o.base == 0x12000))
    match rows.map (fun (o : ObjSpec) => o.subHi) with
    | [] => none
    | x :: r => some (r.foldl max x)

/-- The firmware is not running, and only identity, `fw_chunk` and `fw_command` are served (R542). -/
def State.recoveryShuts (s : State) (index sub : Nat) : Bool :=
  s.powerState == 4 && !(index == 0x1000 || index == 0x1010 || (index == 0x7010 && (sub == 2 || sub == 3)))

/-- A value seen through a legacy alias: U32, a temperature in steps of 0.25 °C (Table 16-11). -/
def aliasValue (index : Nat) (v : Octets) : Octets :=
  if index == 0xC010 || index == 0xC011 then toLE 4 (twos 32 (Int.fdiv (signed 32 (ofLE v)) 16384)) else toLE 4 (ofLE v)

/-- A read of an object: its status, its value, and the state after it. -/
def State.readObject (s : State) (w : Writer) (index sub : Nat) : Nat × Octets × State :=
  let denied : Bool := match w with
    | .station st _ => !s.privileged st && !ownReadable st index
    | _ => false
  if sub == 0 then
    match subTop index with
    | none => (St.OBJECT_UNKNOWN, [], s)
    | some n => if denied || s.recoveryShuts index sub then (St.OBJECT_DENIED, [], s) else (St.OK, toLE 1 n, s)
  else match s.findObj index sub with
    | none => (St.OBJECT_UNKNOWN, [], s)
    | some (o, i, j) =>
      if denied || s.recoveryShuts index sub || o.access == .wo then (St.OBJECT_DENIED, [], s)
      else
        let v := s.readRow o i j
        (St.OK, if index / 256 == 0xC0 then aliasValue index v else v, s.popRow o i)

/-- A read completes with its value: a station's at `ob_addr`, then its completion (R498); an Opdun client's in its REPLY (R523). -/
def State.replyValue (s : State) (w : Writer) (status : Nat) (v : Octets) : State :=
  match w with
  | .station st seq =>
    if status ≠ St.OK then s.reply w status
    else match (s.station st).find seq with
      | some e =>
        match e.msg.body with
        | .objRead b =>
          let s := s.setStation st ((s.station st).push b.addr (.object v))
          s.finish st seq ⟨St.OK, 0, v.length, 0, false⟩
        | _ => s
      | none => s
  | .opdun a req index sub =>
    match mget s.mgmt.assocs a with
    | none => s
    | some x => s.opdunReply ⟨5, a, x.client, x.port, req, index, sub, status, v⟩
  | .legacy _ _ => s.reply w status
  | .device => s

/-- Serve a read for whoever asked. -/
def State.serveRead (s : State) (w : Writer) (index sub : Nat) : State :=
  let (st, v, t) := s.readObject w index sub
  t.replyValue w st v

/-- Frames in which an Opdun reply travels (R524): fragment number, `od_more` and the bytes, at most 1,400 each. -/
def OpdunReply.frames (r : OpdunReply) : List (Nat × Bool × Octets) :=
  let n := max 1 (ceilDiv r.payload.length 1400)
  (List.range n).map (fun k => (k, decide (k + 1 < n), Sys2Proof.Machine.slice r.payload (1400 * k) 1400))

end Sys2Proof.Machine
end

