-- ==== Sys2Proof/Machine/Access.lean ====
section
/-! DEFINITION. Writes of objects that are no commands (R21, R401, R515-R519): the ranges that an object's row cannot say, what a write refuses for
the state it would disturb, PERSIST programming, and the effects that follow a write. -/

namespace Sys2Proof.Machine

/-- A scalar as written last: the value that waits for the boundary, or the one in force (R516). -/
def State.written (s : State) (o : ObjSpec) (i : Nat) : Nat :=
  match mget s.dict.rwf (objKey o i 0) with
  | some (.num n) => n
  | _ => s.obj o i

/-! ### Ranges and refusals of single objects -/

/-- Octets lo to lo + n - 1 of a value as a number. -/
def fieldAt (v : Octets) (lo n : Nat) : Nat := ofLE (slice v lo n)

/-- A source of an image, as `trv_source`: a T3 tile address, 1-1,048,576 tiles, reserved bytes 0. -/
def sourceOk (v : Octets) : Bool :=
  let n := fieldAt v 8 4
  tierOf (fieldAt v 0 8) == 3 && addrLegal (fieldAt v 0 8) && decide (1 ≤ n ∧ n ≤ 1048576) && fieldAt v 12 4 == 0

/-- An extent record (R120): all zero, or a base aligned to 4,096 bytes, kind MEMORY or STORAGE, and a SHARED byte of 0 or 1. -/
def extentOk (v : Octets) : Bool :=
  ofLE v == 0 || (fieldAt v 0 8 % 4096 == 0 && decide (1 ≤ fieldAt v 12 1 ∧ fieldAt v 12 1 ≤ 2) && decide (fieldAt v 13 1 ≤ 1))

/-- A store: bytes 0-7 a T3 or T4 address, 8-11 tiles, 12 its kind, 13-15 reserved; `host` is the kind that lies in T3. -/
def storeOk (v : Octets) (least host : Nat) : Bool :=
  let k := fieldAt v 12 1
  decide (least ≤ fieldAt v 8 4) && decide (1 ≤ k ∧ k ≤ 2) && tierOf (fieldAt v 0 8) == (if k == host then 3 else 4) && addrLegal (fieldAt v 0 8)
    && fieldAt v 13 3 == 0

/-- Only the bits of a device (8-0), a port (19-16) and the enable (31) are set. -/
def peerBits (n : Nat) : Bool := n == n % 512 + n / 65536 % 16 * 65536 + n / 2 ^ 31 * 2 ^ 31

/-- The bits of a scalar object whose other bits are reserved: those are ignored when written and read as 0 (R3). -/
def scalarMask (o : ObjSpec) : Option Nat :=
  ([(Ob.witness_peer, 0xF01FF), (Ob.cam_read_addr, 0xFFFFF), (Ob.fence_command, 0xFFFF), (Ob.stake_user, 0x7F)] : List (ObjSpec × Nat)).findSome?
    (fun p => if o.is p.1 then some p.2 else none)

/-- A scalar value less its reserved bits. -/
def unreserved (o : ObjSpec) (n : Nat) : Nat :=
  match scalarMask o with
  | some m => Nat.land n m
  | none => n

/-- Whole gate-list entries with their reserved fields 0 (R3, Table 11-4). -/
def gateEntriesOk (v : Octets) : Bool :=
  v.length % 16 == 0 && (List.range (v.length / 16)).all (fun k => fieldAt v (16 * k + 4) 4 == 0 && fieldAt v (16 * k + 14) 2 == 0)

/-- The four regions of the associative engine fit with one of them at n (R314). -/
def State.regionsFit (s : State) (o : ObjSpec) (n : Nat) : Bool :=
  let v (x : ObjSpec) : Nat := if o.is x then n else s.written x 0
  decide (v Ob.cam_rule_entries + v Ob.cam_trv_entries + v Ob.cam_prefix_entries + v Ob.handle_cam_quota ≤ Config.camEntriesPerHalf)

/-- Entries of the ACTIVE traverse's search table, the larger of the halves. -/
def State.trvTable (s : State) : Nat :=
  let n (h : Nat) : Nat := (camRegion (s.cam h).entries (s.cam h).regions.trvBase (s.cam h).regions.trv).length
  max (n 0) (n 1)

/-- A model slot that lies in the `model_mask` of the ACTIVE traverse (R248). -/
def State.modelMasked (s : State) (m : Nat) : Bool := (s.activeRun.map (fun h => h.modelMask / 2 ^ m % 2 == 1)).getD false

/-- Shape objects of a model slot (R248). -/
def shapeObjs : List ObjSpec :=
  [Ob.mdl_layers, Ob.mdl_kv_groups, Ob.mdl_kv_format, Ob.mdl_window, Ob.mdl_window_layers, Ob.mdl_draft_of, Ob.mdl_donor, Ob.mdl_max_positions]

/-- Configuration of a vector index (R345). -/
def vxObjs : List ObjSpec :=
  [Ob.vx_kind, Ob.vx_metric, Ob.vx_dims, Ob.vx_degree, Ob.vx_capacity, Ob.vx_half, Ob.vx_station, Ob.vx_build_beam, Ob.vx_advance_ticks]

/-- OK where the test holds, FIELD_RANGE elsewhere. -/
def inRange (ok : Bool) : Nat := if ok then St.OK else St.FIELD_RANGE

/-- The checks of a write beyond its row's type and bounds, by object: OK, or the status that refuses it. -/
def State.moreChecks (s : State) (i j : Nat) (v : Octets) : List (ObjSpec × Nat) :=
  let n := ofLE v
  [(Ob.fab_witness_serve, inRange (peerBits n)), (Ob.witness_extent, inRange (extentOk v)),
   (Ob.fb_adopt_source, inRange (storeOk v 0 2)), (Ob.ck_store, inRange (storeOk v 64 1)),
   (Ob.ck_stage_reserve, inRange (decide (n ≤ s.written Ob.ck_stage_tiles 0 / 2))),
   (Ob.t1_high_water, inRange (decide (s.written Ob.t1_low_water 0 < n))), (Ob.t2_high_water, inRange (decide (s.written Ob.t2_low_water 0 < n))),
   (Ob.gl_entries, inRange (gateEntriesOk v)), (Ob.stn_cancel_policy, inRange (n == 0 || s.privileged i)),
   (Ob.stn_tenant_first, inRange (decide (n + s.obj Ob.stn_tenant_count i ≤ 4096))),
   (Ob.stn_tenant_count, inRange (decide (s.obj Ob.stn_tenant_first i + n ≤ 4096))),
   (Ob.stn_tool_marker, inRange (decide (fieldAt v 0 1 ≤ 64))), (Ob.stn_sync_select, inRange (decide (n ≤ 1023))),
   (Ob.stn_t3_extent,
     if !extentOk v || (fieldAt v 13 1 == 1 && !s.privileged i) then St.FIELD_RANGE
     else if s.extentLive i j && s.strAt Ob.stn_t3_extent i j != v then St.EXTENT_BUSY
     else St.OK),
   (Ob.stn_stop_set,
     if (parseStops 16 v).isNone then St.FIELD_RANGE
     else if s.sessions.any (fun x => x.state.live && x.station == i && x.stopSet == j + 1) then St.STOP_SET_BUSY
     else St.OK)]
  ++ [(Ob.cam_rule_gap, inRange ([8, 16, 32, 64, 128, 256].contains n)),
   (Ob.cam_rule_entries,
     if !s.regionsFit Ob.cam_rule_entries n then St.FIELD_RANGE else if n < (s.ruleEntries 0).length then St.CAM_TABLE_FULL else St.OK),
   (Ob.cam_trv_entries, if !s.regionsFit Ob.cam_trv_entries n then St.FIELD_RANGE else if n < s.trvTable then St.CAM_TABLE_FULL else St.OK),
   (Ob.cam_prefix_entries, inRange (s.regionsFit Ob.cam_prefix_entries n)), (Ob.handle_cam_quota, inRange (s.regionsFit Ob.handle_cam_quota n)),
   (Ob.sync_trv_per_cluster, if s.sync.objs.any (fun p => decide (p.2.owner < 256 ∧ p.1 % 32 < n)) then St.SYNC_BUSY else St.OK),
   (Ob.dict_models,
     if (List.range 16).any (fun d => d != i && Nat.land (s.obj Ob.dict_models d) n != 0) then St.FIELD_RANGE
     else if s.dictBusy i n then St.DICT_BUSY
     else St.OK),
   (Ob.plat_read_offset, inRange (n % 64 == 0)),
   (Ob.fence_command, inRange (decide (1 ≤ n / 4096 % 16 ∧ n / 4096 % 16 ≤ 3))),
   (Ob.t2_channel_command, inRange (decide (n % 256 < 24) && decide (1 ≤ n / 256 ∧ n / 256 ≤ 3))),
   (Ob.fab_lease_command, inRange (n / 65536 == 1)),
   (Ob.stn_sync_define, inRange (fieldAt v 2 1 / 4 == 0)),
   (Ob.stn_sync_op, inRange (decide (1 ≤ fieldAt v 2 1 ∧ fieldAt v 2 1 ≤ 4) && fieldAt v 3 1 == 0)),
   (Ob.trv_source, inRange (sourceOk v)), (Ob.mdl_source, inRange (sourceOk v)), (Ob.vx_source, inRange (sourceOk v)),
   (Ob.dict_source, inRange (sourceOk v)), (Ob.gp_source, inRange (sourceOk v)), (Ob.plat_source, inRange (sourceOk v)),
   (Ob.fw_source, inRange (sourceOk v))]

/-- The further check of a write of one object. A dimension is a multiple of 16; an index that is not EMPTY keeps its configuration, and a model
slot of the ACTIVE traverse its shape. -/
def State.moreCheck (s : State) (o : ObjSpec) (i j : Nat) (v : Octets) : Nat :=
  if shapeObjs.any o.is && s.modelMasked i then St.MODEL_BUSY
  else if vxObjs.any o.is && o.is Ob.vx_dims && ofLE v % 16 != 0 then St.FIELD_RANGE
  else if vxObjs.any o.is && s.obj Ob.vx_state i != 0 then St.VX_INDEX_BUSY
  else match (s.moreChecks i j v).find? (fun p => o.is p.1) with
    | some p => p.2
    | none => St.OK

/-! ### Carrying a write out -/

/-- The value of a write, reserved bits of a scalar ignored (R3). -/
def objVal (o : ObjSpec) (v : Octets) : ObjVal := if o.kind == .octets then .octets v else .num (unreserved o (ofLE v))

/-- A resource and owner whose rate the row is: tenant or station, and the resource of Table 11-1. -/
def rateOf (o : ObjSpec) : Option (Bool × Nat) :=
  ([(false, 0), (false, 1), (false, 2), (false, 3), (true, 0), (true, 1), (true, 2), (true, 3)]).find? (fun p => o.is (rateSpec p.1 p.2))

/-- A resource and owner whose burst the row is. -/
def burstOf (o : ObjSpec) : Option (Bool × Nat) :=
  ([(false, 0), (false, 1), (false, 2), (false, 3), (true, 0), (true, 1), (true, 2), (true, 3)]).find? (fun p => o.is (burstSpec p.1 p.2))

/-- A value takes its place, with what follows it at once (R280, R381): a rate may make its bucket limited, a stop set is compiled. -/
def State.putValue (s : State) (o : ObjSpec) (i j : Nat) (v : ObjVal) : State :=
  let old := s.objAt o i j
  let s := match burstOf o with
    | some (t, r) => s.keepLevel t i r
    | none => s
  let s := s.putObj o i j v
  let s := match o.is Ob.stn_stop_set, v with
    | true, .octets w => s.compileStop i j w
    | _, _ => s
  match rateOf o with
  | some (t, r) => s.rateWritten t i r old
  | none => s

/-- A write that passed every check is carried out: an RWF value waits for the next boundary (R516), any other is in force; it is recorded. -/
def State.putWrite (s : State) (w : Writer) (o : ObjSpec) (i j index sub : Nat) (v : Octets) : State :=
  let s := if o.access == .rwf then { s with dict := { s.dict with rwf := mput s.dict.rwf (objKey o i j) (objVal o v) } }
    else s.putValue o i j (objVal o v)
  s.recordWrite w index sub v false

/-- A message that carries a write waits for it. -/
def State.working (s : State) (w : Writer) : State :=
  match w with
  | .station st seq => s.setIntake st seq (fun e => { e with stage := .working })
  | _ => s

/-- A write of an object that is no command (R516, R518): checked, then carried out, or for a PERSIST object once its record is programmed. -/
def State.plainWrite (s : State) (w : Writer) (o : ObjSpec) (i j index sub : Nat) (v : Octets) : State :=
  let c := s.writeCheck w o index sub v
  let c := if c = St.OK then s.moreCheck o i j v else c
  if c ≠ St.OK then s.reply w c
  else if o.persist then
    let s := { s with dict := { s.dict with persistWaits := s.dict.persistWaits ++ [(⟨objKey o i j, objVal o v, s.tick, w⟩ : PersistWait)] } }
    s.working w
  else (s.putWrite w o i j index sub v).reply w St.OK

/-- Index and subindex under which a key is written: the tenants' own indices show at 0x2200. -/
def keyIndex (key : Nat) : Nat := if 0x12000 ≤ key / 256 then 0x2200 else key / 256

/-- Octets of a value for its record. -/
def valBytes (o : ObjSpec) : ObjVal → Octets
  | .num n => toLE (kindBytes o.kind) n
  | .octets v => v

/-- The oldest waiting PERSIST write ends: its record is programmed and read back, and the write is carried out; or it is not, and the object keeps
its value (R518). What other objects and sessions say of it is checked again when its turn comes, writes before it being carried out by then (R255, R280, R314;
log entry 203). -/
def State.persistEnd (s : State) (ok : Bool) : State :=
  match s.dict.persistWaits with
  | [] => s
  | p :: r =>
    let s := { s with dict := { s.dict with persistWaits := r } }
    match objFind (p.key / 256) (p.key % 256) with
    | none => s
    | some (o, i, j) =>
      let v := valBytes o p.value
      if s.moreCheck o i j v ≠ St.OK then s.reply p.writer (s.moreCheck o i j v)
      else if ok then
        let s := { s with dict := { s.dict with flash := mput s.dict.flash p.key p.value } }
        (s.putWrite p.writer o i j (keyIndex p.key) (p.key % 256) v).reply p.writer St.OK
      else s.reply p.writer St.CONFIG_FLASH_FAIL

/-- A write of the object at an index and subindex, the row's own checks only. -/
def State.writeAt (s : State) (w : Writer) (index sub : Nat) (v : Octets) : State :=
  if sub == 0 then s.reply w (if (subTop index).isSome then St.OBJECT_DENIED else St.OBJECT_UNKNOWN)
  else match s.findObj index sub with
    | none => s.reply w St.OBJECT_UNKNOWN
    | some (o, i, j) =>
      if s.recoveryShuts index sub then s.reply w St.OBJECT_DENIED
      else s.plainWrite w o i j (if index / 256 == 0xC0 then o.base else index) (if index / 256 == 0xC0 then o.subLo else sub) v

/-- A CONFIG record is applied as its write was: nothing is checked again, and nothing is recorded (R412, R426). -/
def State.applyConfig (s : State) (index sub : Nat) (v : Octets) : State :=
  match s.findObj index sub with
  | none => s
  | some (o, i, j) => if o.access == .wo then s else s.putValue o i j (objVal o v)

/-! ### Rows -/

/-- MOVE_COMPLETION_LOG_READ (R137): returns and removes the oldest record of a half. -/
def execMoveCompletionLogRead (w : Writer) (half : Nat) (s : State) : Out :=
  .next (s.serveRead w (Ob.move_completion_log.base + half % 2) Ob.move_completion_log.subLo)

/-- HOLD_LOG_READ (R172): returns and removes the oldest entry. -/
def execHoldLogRead (w : Writer) (s : State) : Out := .next (s.serveRead w Ob.hold_log.base Ob.hold_log.subLo)

/-- ERR_READ (R434): returns and removes the oldest unread entry, from the spill log first. -/
def execErrRead (w : Writer) (s : State) : Out := .next (s.serveRead w Ob.err_read.base Ob.err_read.subLo)

/-- STN_T3_EXTENT_WRITE (R120): a station's extent e is lent, changed or removed. -/
def execStnT3ExtentWrite (w : Writer) (st e : Nat) (v : Octets) (s : State) : Out :=
  .next (s.writeAt w (Ob.stn_t3_extent.base + st % 256) (1 + e % 16) v)

/-- STOP_SET_WRITE (R280): a station's stop set k is compiled or deleted. -/
def execStopSetWrite (w : Writer) (st k : Nat) (v : Octets) (s : State) : Out :=
  .next (s.writeAt w (Ob.stn_stop_set.base + st % 256) (1 + k % 16) v)

/-- BUCKET_WRITE (R381): the rate or burst of a station's resource, or, with no station, of the tenant that `tn_select` names. -/
def execBucketWrite (w : Writer) (st : Option Nat) (res : Nat) (burst : Bool) (v : Nat) (s : State) : Out :=
  let sub := (if burst then burstSpec false res else rateSpec false res).subLo
  .next (match st with
    | some n => s.writeAt w (Ob.stn_step_rate.base + n % 256) sub (toLE 4 v)
    | none => s.writeAt w 0x2200 sub (toLE 4 v))

/-- PERSIST_PROGRAMMED (R518): the record of the oldest waiting PERSIST write is programmed and read back, or cannot be. -/
def execPersistProgrammed (ok : Bool) (s : State) : Out := .next (s.persistEnd ok)

end Sys2Proof.Machine
end

