-- ==== Sys2Proof/Machine/Replay.lean ====
section
/-! DEFINITION. Replay of the field book (R307, R412-R415): a descriptor rebuilt from its records, roll-forward after a reset that keeps T2, and
sessions rebuilt under new indices. -/

namespace Sys2Proof.Machine

/-- A record is part of a session's history. -/
def recOf (sid : Nat) (r : Rec) : Bool := r.sid == sid

/-- A session's durable records in the order they were written. -/
def State.recsOf (s : State) (half sid : Nat) : List Rec := ((s.book half).recs.filter (recOf sid)).filter (fun r => r.stage == 2)

/-- A session's records are written again under a new number in the book of the half that owns it now (R9), in their original order; the sequences of
its ACCEPT records stand at their new positions (R408). -/
def State.recsAgain (s : State) (half sid stage : Nat) (rs : List Rec) : State × List Rec :=
  rs.foldl (fun (acc : State × List Rec) r =>
    let (s, q) := acc.1.recAgain half sid stage r
    let s := match q.body with
      | .accept seq _ _ _ _ _ _ _ _ _ _ _ => s.seqAdd q.station seq q.pos
      | _ => s
    (s, acc.2 ++ [q])) (s, [])

/-- The sessions that share a prefix name it by the new number that it takes (R37, R63). -/
def State.renamePrefix (s : State) (old new : Nat) : State :=
  s.eachSess (fun s x => if x.prefixSid == old && old != 0xFFFFFFFF then
      s.setSess { x with prefixSid := new, pt := { x.pt with prefixSid := if x.pt.prefixSid == old then new else x.pt.prefixSid } }
    else s)

/-- Input of an ACCEPT record enters the session again (R53): tokenized at once where its dictionary is loaded. -/
def State.replayInput (s : State) (i : Nat) (r : InputRec) : State :=
  match s.sess i with
  | none => s
  | some x =>
    match r.pending || x.prefixDue, s.dictFor x.model with
    | false, some (_, d) => s.tokenizeRec i d r
    | _, _ => s.setSess { x with inputs := x.inputs ++ [r], pendingInput := x.pendingInput || r.pending }

/-- A replayed turn begins. -/
def State.replayTurn (s : State) (i : Nat) : State :=
  (s.turnStart i).modSess i (fun y => { y with turnDue := true, discarded := 0, waitOpen := false, waitDeadline := 0, state := .queued })

/-- Tokens of a STEP record, each with whether it was an accepted draft. -/
def stepCodes (codes : List Nat) : List (Nat × Bool) := codes.map (fun c => (c % 2 ^ 20, c / 2 ^ 20 % 2 == 1))

/-- `stn_wait_ticks` of a station as it stood at a tick, for a wait whose deadline is not kept (R72): the last CONFIG record of it up to then; where all of
them are later, the object's default; without any, its value (log entry 179). -/
def State.waitTicksAt (s : State) (st tick : Nat) : Nat :=
  let writes := ((s.book 0).recs ++ (s.book 1).recs).filterMap (fun r => match r.body with
    | .config index sub _ _ value => if index == 0x3100 + st && sub == 7 then some (r.tick, ofLE value) else none
    | _ => none)
  match (writes.filter (fun p => decide (p.1 ≤ tick))).foldl (fun (b : Option (Nat × Nat)) p => match b with
      | none => some p
      | some q => if q.1 ≤ p.1 then some p else some q) none with
  | some p => p.2
  | none => if writes.isEmpty then s.obj Ob.stn_wait_ticks st else 90000000000

/-- Apply one record to the descriptor at an index (R412). `regen`: an ACCEPT_ONLY replay, whose later input waits for the turn before it to be
generated again (R88). -/
def State.applyRec (s : State) (regen : Bool) (i : Nat) (r : Rec) : State :=
  match s.sess i with
  | none => s
  | some x =>
    let s := s.setSess { x with journalPos := r.pos }
    let wait (z : Session) : Nat :=
      match z.lastWait with
      | some (tag, t) => if tag == z.chProduced % 2 ^ 32 then t else (if s.waitTicksAt z.station r.tick == 0 then 0 else r.tick + s.waitTicksAt z.station r.tick)
      | none => if s.waitTicksAt z.station r.tick == 0 then 0 else r.tick + s.waitTicksAt z.station r.tick
    let input (b : InputBody) (final held : Bool) (th tt : Nat) (marker : Octets) : State :=
      let s := s.setSess { x with journalPos := r.pos, inputFinal := final }
      let late := regen && x.turnDue
      let q : InputRec := ⟨b.cls, final, b.draftReset, held || late, held || late, r.pos, b.data.take b.bytes, th, tt, marker⟩
      let s := s.replayInput i q
      if final && !(held || late) then s.replayTurn i else s
    match r.body with
    | .accept _ _ _ final _ held _ _ th tt marker m =>
      match m.body with
      | .append b => input b final held th tt marker
      | .resume b => input b true held th tt marker
      | .prefixRegister b => input b true false th tt marker
      | .prefixRelease => s.modSess i (fun y => { y with prefixReleased := true })
      | _ => s
    | .step _ _ _ drafts accepted flags _ grState kvWritten _ codes =>
      let a := (stepCodes codes).foldl (keepTok ((s.dictFor x.model).map Prod.snd) (s.stopsOf x) (s.grammarOf x))
        ⟨{ x with journalPos := r.pos, chProduced := if codes.isEmpty then x.chProduced else max x.chProduced (r.chain - codes.length) },
          [], [], 0, 0xFF, 0, 0⟩
      let a := if flags / 64 % 2 == 1 then cancelFlush a else a
      let (y, _, _) := draftUpdate a.x drafts accepted
      let y : Session := if x.chProduced < x.chAccepted then (y.passMarks kvWritten).1 else y
      let s := (s.addObj Ob.cnt_ring_suppressed x.half a.suppressed).setSess { y with outbox := y.outbox ++ a.entries, grState := grState, pt := { y.pt with kvWritten := kvWritten } }
      if flags / 2 % 2 == 1 then s.modSess i (fun z => { z with state := .grammarDead })
      else if flags / 32 % 2 == 1 then s.modSess i (fun z => { z with waitOpen := false, waitDeadline := 0, state := .opened })
      else if flags / 4 % 2 == 1 then
        if flags / 16 % 2 == 1 then
          s.modSess i (fun z => { z.unhold with state := .waiting, waitOpen := true, waitTag := z.chProduced % 2 ^ 32, turnDue := false
                                                waitDeadline := wait z })
        else if (((s.sess i).map (fun z => z.inputs)).getD []).any (fun q => q.pending && q.final) then
          let qs := ((s.sess i).map (fun z => z.inputs)).getD []
          let s := s.modSess i (fun z => { z with inputs := [], pendingInput := false, inputFinal := true })
          (qs.foldl (fun s q => s.replayInput i { q with pending := false }) s).replayTurn i
        else s.modSess i (fun z => { z.unhold with state := .opened, turnDue := false })
      else s
    | .deliver cd rw rr =>
      let s := s.addObj Ob.cnt_ring_suppressed x.half (x.outbox.filter (fun e => decide (e.chainage < cd))).length
      s.modSess i (fun z => { z with chDelivered := cd, ringWrite := rw, ringRead := rr, outbox := z.outbox.filter (fun e => decide (cd ≤ e.chainage)) })
    | .cancel policy _ =>
      if policy == 1 then s.modSess i (fun z => { z with cancelAtBoundary := true, cancelPos := some r.pos })
      else s.modSess i (fun z => { z with state := .cancelling, cancelPos := some r.pos, inputs := [], hold := [] })
    | .close reason cause _ =>
      s.modSess i (fun z => { z.clearWork with state := if reason == 3 then .failed else .closed, failCause := cause, closedFrame := s.frame })
    | _ => s

/-- The prefix as a session that shares it was opened on it: its input has been tokenized, so that its positions are known, whatever of its pages must be
recomputed (R37, R65). -/
def Session.asShared (p : Session) : Session :=
  if p.inputs.isEmpty then { p with pt := { p.pt with kvWritten := max p.chAccepted p.pt.kvWritten } } else p

/-- The descriptor that a session's first record, its OPEN or PREFIX_REGISTER, gives at an index. `shared` finds the prefix a handle names; a prefix's
record does not hold its mode. -/
def State.firstRec (s : State) (i g half mode : Nat) (shared : Nat → Option Session) (r : Rec) : Option Session :=
  match r.body with
  | .accept _ _ _ _ _ _ policy _ _ _ _ m =>
    match m.body with
    | .openSession b =>
      some (s.openedSession i g r.station half m.hdr.handle b (if b.pfx == 0 then none else (shared b.pfx).map Session.asShared) (policy % 4) (policy / 4 % 2)
        (policy / 8 % 2) false)
    | .prefixRegister b => some (s.prefixSession i g r.station half mode b)
    | _ => none
  | _ => none

/-- A rebuilt session that lives counts in its prefix's `refs`, once (R66, R83): its reference had gone, or it is adopted. -/
def State.takeRef (s : State) (i : Nat) (gone : Bool) : State :=
  match s.sess i with
  | none => s
  | some x =>
    if !gone || x.isPrefix then s
    else if !x.state.live || x.state == .failed then s.setSess { x with refGone := true }
    else match s.bySid x.prefixSid with
      | none => s
      | some p => s.setSess { p with refs := p.refs + 1 }

/-- A session's descriptor is rebuilt from its records in position order: what stands beside the records is kept from `old` (R412, R415). -/
def State.rebuildDesc (s : State) (old : Session) (i g half : Nat) (keepPages : Bool) (shared : Nat → Option Session) (rs : List Rec) : State :=
  match rs with
  | [] => s
  | r :: rest =>
    match s.firstRec i g half (if old.isPrefix then old.fbMode else (s.station r.station).fbMode) shared r with
    | none => s
    | some x =>
      let regen := x.fbMode == 1
      let pt := if keepPages then { old.pt with kvWritten := x.pt.kvWritten } else { x.pt with tiles := [] }
      let x : Session := { x with
        pt := pt
        tilesT1 := if keepPages then old.tilesT1 else 0, tilesT2 := if keepPages then old.tilesT2 else 0
        tilesT3 := if keepPages then old.tilesT3 else 0, tilesT4 := if keepPages then old.tilesT4 else 0
        tilesTotal := if keepPages then old.tilesTotal else 0
        refs := old.refs, vfinish := old.vfinish, lastWait := old.lastWait
        pfxHandle := if !x.isPrefix then 0 else if old.isPrefix then old.pfxHandle else r.sid + 2 ^ 32 * r.station 
        bindings := if old.bindings.isEmpty then x.bindings else old.bindings, regen := regen
        journalPos := r.pos }
      let s := s.setSess x
      let s := match r.body with
        | .accept _ _ _ _ _ _ _ _ _ _ _ m =>
          (match m.body with
          | .prefixRegister _ => s.applyRec regen i r
          | _ => s)
        | _ => s
      let s := rest.foldl (fun s r => s.applyRec regen i r) s
      let s := (s.takeRef i old.refGone).spillStack i
      s.addObj Ob.cnt_records_replayed half rs.length

/-- Entries from `ch_delivered` up to `ch_produced` are posted again under the same numbers, those that were issued and never posted first, then a
DELIVER record (R306, R413). -/
def State.repost (s : State) (i : Nat) : State :=
  match s.sess i with
  | none => s
  | some x =>
    let again := x.posted.filter (fun e => decide (x.chDelivered ≤ e.chainage))
    if x.adoptedHold || (again.isEmpty && x.fbMode != 0) then s
    else
      let y : Session := { x with
        outbox := again ++ x.outbox, posted := x.posted.filter (fun e => decide (e.chainage < x.chDelivered))
        ringWrite := (again.head?.map (fun e => e.entry)).getD x.ringWrite }
      (s.setSess y).postRing x.sid x.chDelivered x.chProduced

/-- `ch_delivered` and `ring_write` of a FULL session stand as its last durable DELIVER record has them, else as at its OPEN (R306). -/
def State.deliveredBack (s : State) (x : Session) : State :=
  let last := ((s.recsOf x.half x.sid).filterMap (fun r => match r.body with
    | .deliver cd rw _ => some (cd, rw)
    | _ => none)).getLast?
  match last with
  | some (cd, rw) => s.setSess { x with chDelivered := cd, ringWrite := rw, deliverDue := [] }
  | none => s.setSess { x with chDelivered := x.prefixPositions, ringWrite := 0, deliverDue := [] }

/-- Roll forward one half after a reset that keeps T2 (R412, R414): records that were not durable are gone, the sessions they concern under FULL
follow their durable records, a session whose OPEN was not durable is not there, and entries are posted again.
Records of vector indexes are applied as R409 says. -/
def State.rollForward (s : State) (half : Nat) : State :=
  let b := s.book half
  let lost := b.recs.filter (fun r => r.stage != 2)
  let kept := b.recs.filter (fun r => r.stage == 2)
  let s := (s.vxReset half).setBook half { b with recs := kept, waits := [] }
  let s := s.forgetOwed half
  let s := (kept.filter (fun r => r.sid == 0xFFFFFFFF)).foldl State.vxReplay s
  let s := s.eachSess (fun s x =>
    if x.half != half || !lost.any (recOf x.sid) then s
    else
      let rs := s.recsOf half x.sid
      if rs.isEmpty then
        let s := ((((s.freePages x.index).freeQueue x.index).freePt x.index).dropRef x).dropHandle x
        { s with ses := { s.ses with tab := mdel s.ses.tab x.index } }
      else if x.fbMode == 0 then
        (s.freeQueue x.index).rebuildDesc x x.index x.generation half true (fun h => s.prefixBy x.station h) rs
      else s)
  s.eachSess (fun s x =>
    if x.half == half && x.state.live then
      ((if x.fbMode == 0 then s.deliveredBack x else s).repost x.index).modSess x.index (fun y => { y with suppressing := y.fbMode == 1 && decide (y.chProduced < y.chDelivered) })
    else s)

/-- After a rebuild from records alone every position is recomputed, and the session revives (R89, R415): its tiles count as evicted until they are. `cons` is the consumer index that a
rebuilt ACCEPT_ONLY session's ring stands at (R307). -/
def State.reviveRebuilt (s : State) (i : Nat) (cons : Nat) : State :=
  match s.sess i with
  | none => s
  | some x =>
    if !x.state.live || x.state == .failed || x.state == .cancelling then s
    else
      let n := if x.regen then x.prefixPositions else x.pt.kvWritten
      let blocks := ceilDiv n 32
      let x : Session := { x with
        tilesTotal := (max blocks x.pt.sharedBlocks - x.pt.sharedBlocks) * x.pt.layers * x.pt.groups * 2, tailDue := false
        pt := { x.pt with kvWritten := n, blocks := max blocks x.pt.sharedBlocks, entries := [] }
        rebuildMethod := 2, rebuildPos := 0, recomputed := 0
        rebuild := if x.pt.sharedBlocks < blocks then some (x.pt.sharedBlocks, blocks - 1) else none
        priorState := if x.state == .waiting then .waiting else .opened
        state := if x.state == .grammarDead then .grammarDead else .reviving, stateSince := s.tick }
      let x : Session := if x.regen then { x with ringWrite := cons, ringRead := cons } else x
      (s.setSess x).growPt i

/-- A session of a lost half is rebuilt in the other under a new index (R37, R425); under OFF it fails (R418). Its records go with it into the book of
the half that owns it now, where its mirror's copies stand already (R9). Answers the new session number. -/
def State.moveRebuilt (s : State) (x : Session) (tgt : Nat) (rs : List Rec) (cons : Nat) (shared : Nat → Option Session) : State × Option Nat :=
  if x.fbMode == 2 || rs.isEmpty then (s.enterFailed x.index (if x.fbMode == 2 then causeStateLost else causeBookLost), none)
  else match s.takeIndex tgt with
    | none => (s.enterFailed x.index causeStateLost, none)
    | some (i, g, s) =>
      let sid := 2 ^ 24 * g + i
      let s := (s.freeQueue x.index).dropHandle x
      let s := { s with ses := { s.ses with tab := mdel s.ses.tab x.index } }
      let b := s.book x.half
      let s := s.setBook x.half { b with recs := b.recs.filter (fun r => r.sid != x.sid) }
      let (s, again) := s.recsAgain tgt sid 2 rs
      let s := s.rebuildDesc x i g tgt false shared again
      let s := match s.bySid sid with
        | none => s
        | some y => s.enterHandles y
      (((s.renamePrefix x.sid sid).reviveRebuilt i cons).repost i, some sid)

/-! ### Descriptor reads (R47) -/

/-- A session's records give its descriptor again after a failed check, and it revives from its first position (R47, R415). -/
def State.descAgain (s : State) (x : Session) : State :=
  let rs := s.recsOf x.half x.sid
  let s := (s.freePages x.index).freeQueue x.index
  let at' := x.ringRead
  ((s.rebuildDesc { x with pt := { x.pt with tiles := [] } } x.index x.generation x.half false (fun _ => s.bySid x.prefixSid) rs).reviveRebuilt x.index at').repost
    x.index

/-- A descriptor read from T2 (R47): one whose `desc_crc` does not check is counted, and rebuilt from the session's records under FULL; under ACCEPT_ONLY
and OFF the session fails. -/
def State.readDesc (s : State) (i : Nat) (o : Octets) : State :=
  match s.sess i with
  | none => s
  | some x =>
    if descReadOk o || !x.state.live || x.state == .failed then s
    else
      let s := { s with ses := { s.ses with descCrc := lbump s.ses.descCrc x.half } }
      if x.fbMode != 0 then s.enterFailed i causeDescCrc
      else if (s.recsOf x.half x.sid).isEmpty then s.enterFailed i causeBookLost
      else (s.freePt i).descAgain x

/-- Descriptor reads, each by its index with the octets that it delivers. -/
def State.readDescs (s : State) (l : List (Nat × Octets)) : State := l.foldl (fun s p => s.readDesc p.1 p.2) s

end Sys2Proof.Machine
end

