-- ==== Sys2Proof/Machine/Journal.lean ====
section
/-! DEFINITION. The field book, the witness, failed channels and stacks, and the error recorder (chapter 12). -/

namespace Sys2Proof.Machine

/-! ### What a durable record lets proceed (R10, R76, R129, R402) -/

/-- Run an effect that waited. -/
def State.runEffect (s : State) (pos : Nat) : DurEffect → State
  | .acceptance st seq => s.completeAccept st seq pos
  | .ringEntries sid lo hi => s.postRing sid lo hi
  | .startRevive sid => match s.bySid sid with
    | none => s
    | some x => if x.state == .reviving || x.state == .queued || x.state == .opened then s.startRevive x.index else s
  | .freeCancelled sid => match s.bySid sid with
    | none => s
    | some x => if x.state == .cancelling then s.freePages x.index else s

/-- An acceptance, which ACCEPT_DURABLE returns. -/
def DurEffect.isAccept : DurEffect → Bool
  | .acceptance _ _ => true
  | _ => false

/-- Run the waits of a half that are met and satisfy a test, in their order. -/
def State.runWaits (s : State) (half : Nat) (p : DurWait → Bool) : State :=
  let ready := ((s.book half).waits.filter (fun w => s.durable w.pos && p w))
  ready.foldl (fun s w =>
    let b := s.book half
    (s.setBook half { b with waits := b.waits.erase w }).runEffect w.pos w.effect) s

/-- The witness takes part in acknowledgements or is being brought up to date: new records are sent to it (R404, R406). -/
def State.witnessOn (s : State) : Bool :=
  let w := s.obj Ob.witness_state 0
  w == 2 || ((w == 1 || w == 4) && s.fb.witness.copyDone)

/-- Copy records to the witness device, a batch or one record an append (R479), or to the extent as the next
JOURNAL tiles of its circular log (R405): durability comes back with WITNESS_DURABLE or the extent's flush. -/
def State.toWitness (s : State) (rs : List Rec) : State :=
  if rs.isEmpty then s
  else
    let peer := s.obj Ob.witness_peer 0 % 512
    let s := if s.obj Ob.witness_mode 0 == 1 then
        if s.peerFeatures peer / 4 % 2 == 1 then s.fabSend peer 0xFFFF (.witnessAppend rs)
        else rs.foldl (fun s r => s.fabSend peer 0xFFFF (.witnessAppend [r])) s
      else
        let n := s.obj Ob.witness_station 0
        let ext := s.str Ob.witness_extent 0
        let slots := max 1 (ofLE (Sys2Proof.Machine.slice ext 8 4))
        let from' := s.fb.witness.hostTiles
        let tiles := journalTiles s.tick rs
        let x := tiles.zipIdx.foldl (fun (x : Station) (t : Octets × Nat) =>
          x.push (ofLE (Sys2Proof.Machine.slice ext 0 8) + 4352 * ((from' + t.2) % slots)) (.journal (journalTile (rs.head?.map (fun r => posHalf r.pos) |>.getD 0) t.1)))
          (s.station n)
        let s := { s with fb := { s.fb with witness := { s.fb.witness with hostTiles := from' + tiles.length } } }
        s.setStation n (x.push (ofLE (Sys2Proof.Machine.slice ext 0 8)) .flush)
    { s with fb := { s.fb with witness := { s.fb.witness with sentAt := some (s.fb.witness.sentAt.getD s.tick) } } }

/-- JOURNAL_BATCH_CLOSE (R403): every 4 ticks, or when a tile fills, the open batch closes and its copies are written. -/
def execJournalBatchClose (half : Nat) (s : State) : Out :=
  let b := s.book half
  let batch := b.recs.filter (fun r => r.stage == 0)
  let filled := batch.any (fun r => decide (r.tile < b.headTile))
  .next (if decide (half < 2) && !batch.isEmpty && (filled || decide (b.lastClose + 4 ≤ s.tick)) then
      let s := s.setBook half { b with recs := b.recs.map (fun r => if r.stage == 0 then { r with stage := 1 } else r), lastClose := s.tick }
      if s.witnessOn then s.toWitness batch else s
    else s)

/-! ### Compaction (R410) -/

/-- COMPACTION: the live records of the oldest tile are copied to the head of the book and the tile is freed; the witness learns the lowest live
position. -/
def execCompaction (half : Nat) (s : State) : Out :=
  let b := s.book half
  .next (match b.recs with
    | [] => s
    | r0 :: _ =>
      let old := (b.recs.map (fun r => r.tile)).foldl min r0.tile
      if half < 2 ∧ old < b.headTile ∧ b.recs.all (fun r => r.tile != old || r.stage == 2) then
        let live := b.recs.filter (fun r => !s.deadRec b.recs r)
        let moved := live.foldl (fun (acc : List Rec × Nat × Nat × Nat) r =>
          if r.tile == old then
            let n := r.body.bytes
            let p := layParts (recParts n) n 0 acc.2
            (acc.1 ++ [{ r with copied := true, tile := p.1 }], p)
          else (acc.1 ++ [r], acc.2)) ([], b.headTile, b.fill, b.used)
        let low := ((moved.1.map (fun r => r.pos)).head?).getD (bookPos half b.next)
        let s := s.setBook half { b with recs := moved.1, headTile := moved.2.1, fill := moved.2.2.1, used := moved.2.2.2 - 1, trimmed := low }
        let s := s.bump Ob.cnt_compaction_tiles half
        if s.obj Ob.witness_mode 0 == 1 then s.fabSend (s.obj Ob.witness_peer 0 % 512) 0xFFFF (.witnessTrim low) else s
      else s)

/-! ### The witness (R404-R406) -/

/-- The witness enters a state: FIELD_BOOK_DEGRADED in any but CURRENT (log entry 180); FIELD_BOOK_RESTORED on CURRENT with every mirror present (R406,
R437). -/
def State.enterWitness (s : State) (n : Nat) : State :=
  let s := s.setObj Ob.witness_state 0 n
  if n != 2 then s.tileEvent Ev.FIELD_BOOK_DEGRADED 0 0
  else if (s.book 0).mirrorAbsent || (s.book 1).mirrorAbsent then s
  else s.tileEvent Ev.FIELD_BOOK_RESTORED 0 0

/-- Store the witness bookkeeping. -/
def State.setWitness (s : State) (w : WitnessSt) : State := { s with fb := { s.fb with witness := w } }

/-- WITNESS_LAPSE: an acknowledgement is later than `witness_timeout`, or the peer or its link is gone. Under CONTINUE what waited for the
witness proceeds. -/
def execWitnessLapse (absent : Bool) (s : State) : Out :=
  let w := s.fb.witness
  let late : Bool := w.sentAt.any (fun t => decide (t + s.obj Ob.witness_timeout 0 < s.tick))
  .next (if s.obj Ob.witness_state 0 == 2 && (absent || late) then
      let s := s.setWitness { w with sentAt := none, lastProbe := s.tick, copyDone := false, copy0 := w.ack0, copy1 := w.ack1 }
      let s := (s.bump Ob.cnt_witness_lapse 0).enterWitness 3
      if s.obj Ob.witness_loss_action 0 == 0 then (s.runWaits 0 (fun _ => true)).runWaits 1 (fun _ => true)
      else (s.runWaits 0 (fun w => !w.effect.isAccept)).runWaits 1 (fun w => !w.effect.isAccept)
    else s)

/-- Highest durable position of a half's book on the tile's own copies. -/
def State.lastOwn (s : State) (half : Nat) : Nat := ((s.book half).recs.filter (fun r => r.stage == 2)).foldl (fun m r => max m r.pos) 0

/-- The durable records that a copy has not reached are sent to the witness (R406): every live one where it is established, those written since the
lapse where it catches up. -/
def State.copyWitness (s : State) : State :=
  let w := s.fb.witness
  let rs (h seen : Nat) : List Rec := (s.book h).recs.filter (fun r => r.stage == 2 && decide (seen < r.pos))
  let out := rs 0 w.copy0 ++ rs 1 w.copy1
  (s.setWitness { w with copy0 := max w.copy0 (s.lastOwn 0), copy1 := max w.copy1 (s.lastOwn 1) }).toWitness out

/-- WITNESS_PROBE: every 25,000 ticks while LAPSED; an answer starts CATCHING_UP. -/
def execWitnessProbe (answered : Bool) (s : State) : Out :=
  let w := s.fb.witness
  .next (if s.obj Ob.witness_state 0 == 3 && decide (w.lastProbe + 25000 ≤ s.tick) then
      let s := s.setWitness { w with lastProbe := s.tick }
      if answered then (s.enterWitness 4).copyWitness else s
    else s)

/-- The tile holds a WITNESS lease on its witness peer, where it needs one (R479). -/
def State.witnessLeased (s : State) : Bool :=
  s.obj Ob.witness_mode 0 != 1 || s.fab.leases.any (fun p => p.2.lessee && p.2.peer == s.obj Ob.witness_peer 0 % 512 && p.2.kind == 2)

/-- WITNESS_COPY_DONE: the copy that establishes or catches up the witness is complete, what became durable meanwhile follows it, and it is CURRENT at the
next boundary. -/
def execWitnessCopyDone (s : State) : Out :=
  let w := s.fb.witness
  .next (if (s.obj Ob.witness_state 0 == 1 || s.obj Ob.witness_state 0 == 4) && s.witnessLeased then
      (s.setWitness { w with copyDone := true, ack0 := max w.ack0 w.copy0, ack1 := max w.ack1 w.copy1 }).copyWitness
    else s)

/-- At a boundary a witness whose copy is complete becomes CURRENT (R406). -/
def State.witnessBoundary (s : State) : State :=
  if s.fb.witness.copyDone && (s.obj Ob.witness_state 0 == 1 || s.obj Ob.witness_state 0 == 4) then
    (s.setWitness { s.fb.witness with copyDone := false, sentAt := none }).enterWitness 2
  else s

/-- The witness peer will do (R479): a member of a slice of this tile, or, under STANDALONE, a device on a WITNESS port. -/
def State.witnessPeerOk (s : State) : Bool :=
  let w := s.obj Ob.witness_peer 0
  if s.sliced then s.members.contains (w % 512) && s.sharesSlice (w % 512)
  else s.obj Ob.port_role (w / 65536 % 16) == 2
/-- WITNESS leases that are no longer of use go back (R477). -/
def State.releaseWitness (s : State) : State :=
  let keep := s.obj Ob.witness_peer 0 % 512
  (s.fab.leases.filter (fun p => p.2.lessee && p.2.kind == 2 && (s.obj Ob.witness_mode 0 != 1 || p.2.peer != keep))).foldl (fun s p =>
    (s.fabSend p.2.peer 0xFFFF (.leaseRelease (p.1 % 65536))).dropLease p.1) s

/-- The witness is copied to; a peer first lends the tiles of both books (R479; log entry 211). -/
def State.establish (s : State) : State :=
  if s.witnessLeased then s.copyWitness
  else s.fabSend (s.obj Ob.witness_peer 0 % 512) 0xFFFF (.leaseRequest 2 ((s.book 0).tiles + (s.book 1).tiles))

/-- A mode taken at a boundary: NONE, or ESTABLISHING where its extent or its peer will do (R405, R406, R479). -/
def State.witnessMode (s : State) (old : Nat) : State :=
  let mode := s.obj Ob.witness_mode 0
  let n := s.obj Ob.witness_station 0
  let ext := s.str Ob.witness_extent 0
  let lent := (List.range 16).any (fun e => s.strAt Ob.stn_t3_extent n e == ext && ofLE ext != 0)
  if mode == old then s
  else if mode == 0 then ((s.enterWitness 0).setObj Ob.witness_status 0 St.OK).releaseWitness
  else if (mode == 2 && !(lent && ofLE (Sys2Proof.Machine.slice ext 12 1) == 2)) || (mode == 1 && !s.witnessPeerOk) then
    (((s.setObj Ob.witness_mode 0 0).enterWitness 0).setObj Ob.witness_status 0 Config.witnessRefused).releaseWitness
  else
    ((((s.enterWitness 1).setObj Ob.witness_status 0 St.OK).setWitness
      { s.fb.witness with copyDone := false, ack0 := 0, ack1 := 2 ^ 63, copy0 := 0, copy1 := 2 ^ 63, sentAt := none, hostTiles := 0 }).releaseWitness).establish

/-! ### DDR5 channels (R421-R423) -/

/-- State of channel c 0-23: 0 HEALTHY, 1 FAILED, 2 REBUILDING. -/
def State.t2State (s : State) (c : Nat) : Nat := s.objAt Ob.t2_channel_state 0 c

/-- Failure bookkeeping of a channel. -/
def State.channel (s : State) (c : Nat) : ChannelSt := (mget s.fb.channels c).getD ⟨[], 0, false, none⟩

/-- Store it. -/
def State.setChannel (s : State) (c : Nat) (x : ChannelSt) : State := { s with fb := { s.fb with channels := mput s.fb.channels c x } }

/-- Channel 0-23 of a T2 address. -/
def addrT2Channel (a : Nat) : Nat := addrHalf a * 12 + t2Channel (addrRow a) (addrData a)

/-- A T2 tile that parity no longer gives is lost (R422): a shadow goes, any other tile as R89. -/
def State.loseT2 (s : State) (a : Nat) : State :=
  match s.tileOwner a with
  | some (i, k) =>
    (match s.sess i with
    | none => s.freeTileAt a
    | some x =>
      if (x.pt.at k).primary == a then s.loseTile a causeStateLost
      else
        let s := s.freeTileAt a
        s.setSess { x with pt := x.pt.put k { x.pt.at k with t2Copy := noTile } })
  | none => s.loseTile a causeStateLost

/-- A channel does not give the slots of a row: it is FAILED, or REBUILDING and not as far as that row (R423). -/
def State.rowOut (s : State) (c row : Nat) : Bool := s.t2State c == 1 || (s.t2State c == 2 && decide (s.obj Ob.t2_rebuild_pos 0 ≤ row))

/-- The stripe of a T2 tile misses the tile's slot and another one (R422). -/
def State.stripeLost (s : State) (a : Nat) : Bool :=
  let c := addrT2Channel a
  s.rowOut c (addrRow a) && (List.range 12).any (fun k => addrHalf a * 12 + k != c && s.rowOut (addrHalf a * 12 + k) (addrRow a))

/-- The rebuild of a half's channel ends without success: the channel stays failed (R422). -/
def State.rebuildEnds (s : State) (h : Nat) : State :=
  match (List.range 12).find? (fun k => s.t2State (h * 12 + k) == 2) with
  | none => s
  | some k =>
    let s := s.setChannel (h * 12 + k) { s.channel (h * 12 + k) with replaced := false, rebuildPos := none }
    (s.setObjAt Ob.t2_channel_state 0 (h * 12 + k) 1).setObj Ob.t2_rebuild_pos 0 (2 ^ 64 - 1)

/-- A channel is declared failed (R421); with a second one of its half out, the stripes that miss two slots have lost their tiles, and both stay
failed (R422). -/
def State.failChannel (s : State) (c : Nat) : State :=
  if s.t2State c == 1 then s
  else
    let h := c / 12
    let s := if s.t2State c == 2 then s.rebuildEnds h else s
    let s := s.setObjAt Ob.t2_channel_state 0 c 1
    let s := s.setChannel c { s.channel c with replaced := false, rebuildPos := none }
    let s := ((s.bump Ob.cnt_channel_failed h).report (0x200 + c) clsPartFailed Ev.CHANNEL_FAILED).tileEvent Ev.CHANNEL_FAILED c 0
    let lost := (s.tier.tiles.filter (fun p => tierOf p.1 == 2 && addrHalf p.1 == h && p.2.kind != 0 && s.stripeLost p.1)).map Prod.fst
    (lost.foldl State.loseT2 s).rebuildEnds h

/-- CHANNEL_FAILED (R421): a retrain after a link error failed (0), the module signals shutdown (1), or a read of a row still failed after its
retry (2); the channel is declared failed at the third in a row, at once, or at `ue_rows_limit` rows within `ue_window`. A retrain that succeeds (3) ends a
row of failed ones. -/
def execChannelFailed (c why row : Nat) (s : State) : Out :=
  let x := s.channel c
  .next (if 24 ≤ c then s
    else match why with
      | 0 =>
        let s := s.setChannel c { x with retrainsFailed := x.retrainsFailed + 1 }
        if 3 ≤ x.retrainsFailed + 1 then s.failChannel c else s
      | 1 => s.failChannel c
      | 3 => s.setChannel c { x with retrainsFailed := 0 }
      | _ =>
        let rows := (row, s.tick) :: x.ueRows.filter (fun p => p.1 != row && decide (s.tick ≤ p.2 + s.obj Ob.ue_window 0))
        let s := s.setChannel c { x with ueRows := rows }
        if s.obj Ob.ue_rows_limit 0 ≤ rows.length then s.failChannel c else s)

/-- Encoding of a `t2_channel_command`. -/
def channelCmd (c op : Nat) : Octets := toLE 2 (c % 256 + op * 256)

/-- DECLARE_FAILED (R421). -/
def execDeclareFailed (w : Writer) (c : Nat) (s : State) : Out :=
  .next (s.commandNow w Ob.t2_channel_command 0 (channelCmd c 1) Ob.t2_channel_status (fun s =>
    if 24 ≤ c then (s, St.FIELD_RANGE) else if s.t2State c == 1 then (s, St.T2_CHANNEL_BUSY) else (s.failChannel c, St.OK)))

/-- RETRAIN (R423): the replaced module of a failed channel is brought up. -/
def execRetrain (w : Writer) (c : Nat) (s : State) : Out :=
  .next (s.commandNow w Ob.t2_channel_command 0 (channelCmd c 2) Ob.t2_channel_status (fun s =>
    if 24 ≤ c then (s, St.FIELD_RANGE)
    else if s.t2State c != 1 then (s, St.T2_CHANNEL_BUSY)
    else (s.setChannel c { s.channel c with replaced := true, retrainsFailed := 0, ueRows := [] }, St.OK)))

/-- REBUILD (R423): a channel brought up is regenerated row by row, unless another channel of its half is failed. -/
def execRebuild (w : Writer) (c : Nat) (s : State) : Out :=
  .next (s.command w Ob.t2_channel_command 0 (channelCmd c 3) (some Ob.t2_channel_status) (fun s =>
    let others := (List.range 12).any (fun k => c / 12 * 12 + k != c && s.t2State (c / 12 * 12 + k) != 0)
    if 24 ≤ c then (s, St.FIELD_RANGE)
    else if s.t2State c != 1 || !(s.channel c).replaced || others || s.obj Ob.t2_rebuild_pos 0 != 2 ^ 64 - 1 then (s, St.T2_CHANNEL_BUSY)
    else
      let s := s.setChannel c { s.channel c with rebuildPos := some 0 }
      ((s.setObjAt Ob.t2_channel_state 0 c 2).setObj Ob.t2_rebuild_pos 0 0, St.OK)))

/-- A tick of the rebuild that runs: `t2_rebuild_share` of a channel's 102.4 GB/s, 4,096 octets a tick, in rows of 4,352 octets (R423), while a
class 3 queue of the half may be served (R112). -/
def State.rebuildTick (s : State) : State :=
  match s.fb.channels.find? (fun p => p.2.rebuildPos.isSome) with
  | none => s
  | some (c, x) =>
    if !s.backgroundOpen (c / 12) then s
    else
    let n := x.rebuildPos.getD 0 + 4096 * s.obj Ob.t2_rebuild_share 0
    (s.setChannel c { x with rebuildPos := some n }).setObj Ob.t2_rebuild_pos 0 (min Config.t2RowsPerChannel (n / 435200))

/-- CHANNEL_REBUILD_DONE (R423): every row is regenerated, and the channel is HEALTHY. -/
def execChannelRebuildDone (c : Nat) (s : State) : Out :=
  .next (if s.t2State c == 2 then
      let s := s.setChannel c ⟨[], 0, false, none⟩
      ((s.setObjAt Ob.t2_channel_state 0 c 0).setObj Ob.t2_rebuild_pos 0 (2 ^ 64 - 1)).setObj Ob.t2_channel_status 0 St.OK
    else s)

/-! ### HBM stacks (R424) -/

/-- A weight tile of a failed stack is placed on another stack of its half from its T2 shadow (R100, R110, R424); without room for it there the
shadow alone holds it. -/
def State.weightAgain (s : State) (a : Nat) : State :=
  let put (s : State) (new : List Nat) : State :=
    { s with tier := { s.tier with models := s.tier.models.map (fun (p : Nat × ModelSlot) =>
        (p.1, if p.2.tiles.contains a then { p.2 with tiles := p.2.tiles.erase a ++ new } else p.2)) } }
  match s.shadowOf a with
  | none => put (s.freeTileAt a) []
  | some c =>
    let t := s.tileAt c
    match (s.freeTileAt a).allocT1 (addrHalf a) ((t.locator + 7 * t.layer) % 128) t with
    | none => put (s.freeTileAt a) []
    | some (b, s) => put s [b]

/-- One key/value tile of a failed stack: its shadow becomes its primary, or the tile is lost. Any other tile is read from its T2 shadow. -/
def State.leaveStack (s : State) (a : Nat) : State :=
  match s.tileOwner a with
  | some (i, k) =>
    (match s.sess i with
    | none => s.freeTileAt a
    | some x =>
      let e := x.pt.at k
      if e.primary == a && e.t2Copy != noTile then
        let s := s.freeTileAt a
        let g := s.eng x.half
        let s := s.setEng x.half { g with shadows := g.shadows.filter (fun p => p != (x.sid, ptBlock k)) }
        s.setSess { ((x.tierCount a false).tierCount e.t2Copy true) with pt := x.pt.put k ⟨e.t2Copy, e.t2Copy⟩ }
      else s.loseTile a causeStateLost)
  | none => if (s.tileAt a).kind == 2 then s.weightAgain a else s.freeTileAt a

/-- A stack fails (R424): the frame is void, shadows take over and return to T1 on the sessions' class 1 queues. -/
def State.stackFail (s : State) (k : Nat) : State :=
  if 8 ≤ k ∨ s.objAt Ob.t1_stack_state 0 k = 1 then s
  else
    let s := s.setObjAt Ob.t1_stack_state 0 k 1
    let s := ((s.voidFrame s.tick).report (0x220 + k) clsPartFailed Ev.STACK_FAILED).tileEvent Ev.STACK_FAILED k 0
    let s := s.noticeFault
    let here := (s.tier.tiles.map Prod.fst).filter (fun a => tierOf a == 1 && addrStack a == k)
    let hit := (here.filterMap (fun a => (s.tileOwner a).map Prod.fst)).eraseDups
    let s := here.foldl State.leaveStack s
    hit.foldl (fun s i =>
      match s.sess i with
      | none => s
      | some x =>
        if s.kvTier != 1 || !x.pt.entries.any (fun p => tierOf p.2.primary == 2) then s
        else match x.state with
          | .opened => (s.setSess { x.toReviving s.tick with priorState := .opened }).startRevive i
          | .waiting => (s.setSess { x.toReviving s.tick with priorState := .waiting }).startRevive i
          | .queued => s.startRevive i
          | .active => s.startRevive i
          | .reviving => s.startRevive i
          | _ => s) s

/-- STACK_FAILED (R424). -/
def execStackFailed (k : Nat) (s : State) : Out := .next (s.stackFail k)

/-! ### The error recorder (R431-R434) -/

/-- Entries that the spill log may hold. -/
def State.spillRoom (s : State) : Nat := s.obj Ob.err_spill_tiles 0 * 64

/-- The recorder takes one entry into the ring; beyond 3,072 unread the oldest 64 go to the spill log; with both full it is dropped. -/
def State.recordErr (s : State) (e : ErrEntry) : State :=
  let r := s.fb.err
  if 4096 ≤ r.ring.length then s.setObjAt Ob.err_dropped 0 e.cls (s.objAt Ob.err_dropped 0 e.cls + 1)
  else
    let ring := r.ring ++ [{ e with seq := r.seq }]
    let s := s.setErr { r with ring := ring, seq := (r.seq + 1) % 2 ^ 32 }
    if 3072 < ring.length ∧ r.spill.length + 64 ≤ s.spillRoom then
      s.setErr { s.fb.err with ring := ring.drop 64, spill := r.spill ++ ring.take 64 }
    else s

/-- Queued report that the recorder takes next: of the sources that ask, the first under R12 with N = 1,024 (log entry 174); a source's reports in order. -/
def nextReport (tick : Nat) (q : List ErrEntry) : Option ErrEntry :=
  let key (e : ErrEntry) : Nat := (e.source + 1024 - tick % 1024) % 1024
  q.foldl (fun (b : Option ErrEntry) e => match b with
    | none => some e
    | some x => if key e < key x then some e else some x) none

/-- ERROR_RECORDER_TAKE (R433): one entry from a half's report queue. -/
def execErrorRecorderTake (half : Nat) (s : State) : Out :=
  let r := s.fb.err
  .next (match nextReport s.tick (if half == 0 then r.queue0 else r.queue1) with
    | none => s
    | some e =>
      (s.setErr (if half == 0 then { r with queue0 := r.queue0.erase e } else { r with queue1 := r.queue1.erase e })).recordErr e)

/-- COALESCE_FLUSH (R432): a slot whose window has ended writes its summary. -/
def execCoalesceFlush (src : Nat) (s : State) : Out :=
  .next (match (s.errSource src).slot with
    | none => s
    | some c => if c.start + s.obj Ob.err_coalesce_ticks 0 ≤ s.tick then s.flushErr src else s)

/-- ERR_CLEAR (R432): the first-error capture of a source, or of all, is emptied. -/
def execErrClear (w : Writer) (src : Nat) (s : State) : Out :=
  .next (s.command w Ob.err_clear 0 (toLE 2 src) none (fun s =>
    (s.setErr { s.fb.err with sources := s.fb.err.sources.map (fun (p : Nat × ErrSource) =>
      if src == 0xFFFF || p.1 == src then (p.1, { p.2 with first := none }) else p) }, St.OK)))

end Sys2Proof.Machine
end

