-- ==== Sys2Proof/Machine/Moves.lean ====
section
/-! DEFINITION. Move engines, parking, revival and snapshots (chapter 3), and the bucket and gate rows of chapter 11. -/

namespace Sys2Proof.Machine

/-! ### Descriptors (R111-R119) -/

/-- Post a descriptor under its operation and carry it as far as its queue lets it. -/
def State.moveRow (s : State) (half queue op : Nat) (d : MoveDesc) (reads : List TileRead) : State := s.runMove half queue { d with op := op } reads

/-- COPY (R116). -/
def execCopy (half queue : Nat) (d : MoveDesc) (reads : List TileRead) (s : State) : Out := .next (s.moveRow half queue 1 d reads)

/-- MOVE (R116): the source is freed when the tile has landed. -/
def execMove (half queue : Nat) (d : MoveDesc) (reads : List TileRead) (s : State) : Out := .next (s.moveRow half queue 2 d reads)

/-- FILL (R116). -/
def execFill (half queue : Nat) (d : MoveDesc) (reads : List TileRead) (s : State) : Out := .next (s.moveRow half queue 3 d reads)

/-- VERIFY (R116). -/
def execVerify (half queue : Nat) (d : MoveDesc) (reads : List TileRead) (s : State) : Out := .next (s.moveRow half queue 4 d reads)

/-- PARK_BLOCKS (R117, R124). -/
def execParkBlocks (half queue : Nat) (d : MoveDesc) (reads : List TileRead) (s : State) : Out := .next (s.moveRow half queue 5 d reads)

/-- REVIVE_BLOCKS (R117, R129). -/
def execReviveBlocks (half queue : Nat) (d : MoveDesc) (reads : List TileRead) (s : State) : Out := .next (s.moveRow half queue 6 d reads)

/-- Address from which tile n of a queue's descriptor d moves. -/
def State.sourceOf (s : State) (d : QDesc) (n : Nat) : Nat :=
  if d.desc.op == 5 || d.desc.op == 6 then
    match d.keys[n - d.landed]? with
    | some k => ((s.bySid d.desc.owner).map (fun x => (x.pt.at k).primary)).getD noTile
    | none => noTile
  else addrPlus d.desc.src n

/-- A tile that lies in a lease and is not here yet is asked of its lessor (R473, R478). -/
def State.askT4 (s : State) (a : Nat) : State :=
  if tierOf a == 4 && (mget s.tier.tiles a).isNone then s.fabSend (a / 2 ^ 52 % 512) 0xFFFF (.t4Read (a / 2 ^ 36 % 65536) (a % 2 ^ 36) 1) else s

/-- The tile that a queue has just started is fetched where it lies in a lease. -/
def State.fetchT4 (s : State) (half q : Nat) : State :=
  ((s.queue half q).filter (fun d => decide (d.landed < d.started))).foldl (fun s d => s.askT4 (s.sourceOf d (d.started - 1))) s

/-- A tile that landed in a lease is written to its lessor (R478). -/
def State.storeT4 (s : State) (a : Nat) : State :=
  if tierOf a == 4 then s.fabSend (a / 2 ^ 52 % 512) 0xFFFF (.t4Write (a / 2 ^ 36 % 65536) (a % 2 ^ 36) [s.tileAt a]) else s

/-- MOVE_ENGINE_GRANT (R12, R15, R113): the idle engines go to the eligible queues of the highest class, one a queue, each starting a tile. -/
def execMoveEngineGrant (half idle : Nat) (s : State) : Out :=
  .next (match s.topClass half with
    | none => s
    | some c =>
      ((classOrder c s.tick).foldl (fun (acc : State × Nat) q =>
        if 0 < acc.2 && acc.1.eligible half q then ((acc.1.startTile half q).fetchT4 half q, acc.2 - 1) else acc) (s, min idle 16)).1)

/-- TILE_LANDED (R96, R117): the next started tile of a queue lands, checks and switches its entry. A tile of a lease
lands once its T4_DATA has come. -/
def execTileLanded (half queue : Nat) (r : TileRead) (s : State) : Out :=
  .next (if queueOk half queue then
      match (s.queue half queue).findIdx? (fun d => decide (d.landed < d.started)) with
      | none => s
      | some n =>
        match (s.queue half queue)[n]? with
        | none => s
        | some d =>
          let src := s.sourceOf d d.landed
          if r != .lost && tierOf src == 4 && (mget s.tier.tiles src).isNone then s
          else
            let t := s.landOne half queue n r
            if d.desc.op == 5 || d.desc.op == 6 then
              t.storeT4 ((t.bySid d.desc.owner).elim noTile (fun x => (x.pt.at (d.keys.headD 0)).primary))
            else if d.desc.op == 4 then t else t.storeT4 (addrPlus d.desc.dst d.landed)
    else s)

/-- A queue's oldest descriptor completes with a status (R119): its record, its object, and its wait point, which stays unmet for a weight tile that is
lost, so that the traverse holds (R243). -/
def State.completeHead (s : State) (half queue : Nat) (status : Nat) : State :=
  match s.queue half queue with
  | [] => s
  | d :: rest =>
    let s := (s.setQueue half queue rest).admitWaiting half queue
    let late := d.desc.useDeadline && decide (d.desc.deadline < d.lastTick)
    let s := if late then s.bump Ob.cnt_deadline_miss half else s
    let st := max status (if late then mvDeadline else mvOk)
    let tick := if d.done == 0 then s.tick else d.lastTick
    let s := if d.desc.event then s.logMove half ⟨d.desc.tag, st, queue, min 0xFFFF d.done, tick⟩ else s
    let s := s.syncSignal d.desc.eventObj
    let s := if queue < 16 && d.gather.isNone && !(st == mvLost && (s.weightModel d.desc.owner).isSome) then { s with trv := { s.trv with met := s.trv.met ++ [(queue, d.desc.tag)] } } else s
    if d.desc.op == 5 then
      match s.bySid d.desc.owner with
      | none => s
      | some x =>
        let s := s.setSess { x with parking := none }
        if x.state == .grammarDead then s.residency x.index (tierOf d.desc.dst) d.desc.firstBlock d.desc.lastBlock d.done else s
    else s

/-- MOVE_COMPLETION (R114, R119): the oldest descriptor of a queue whose last tile has landed completes with its tiles' worst status. -/
def execMoveCompletion (half queue : Nat) (s : State) : Out :=
  .next (match s.queue half queue with
    | [] => s
    | d :: _ => if queueOk half queue && d.total == d.landed then (s.completeHead half queue d.status).handoverGo else s)

/-- DESCRIPTOR_WITHDRAW (R119): the descriptor with this tag ends ABORTED with the tiles it has landed; its completion keeps its place. -/
def execDescriptorWithdraw (half queue tag : Nat) (s : State) : Out :=
  .next (match (s.queue half queue).findIdx? (fun d => d.desc.tag == tag && decide (d.landed < d.total)) with
    | none => s
    | some n =>
      match (s.queue half queue)[n]? with
      | none => s
      | some d =>
        let s := s.setQueue half queue (lset (s.queue half queue) n
          { d with total := d.landed, started := d.landed, keys := [], status := mvAborted })
        if n == 0 then s.completeHead half queue mvAborted else s)

/-- T3_T4_TIMEOUT (R122): the oldest descriptor of a queue has run past its tier's timeout: what it was reading there is lost, and it completes.
Every tile in that tier that it has still to land counts as read, those not started among them (log entry 151).
The timeout of a store that a checkpoint is written to aborts the checkpoint (R447). -/
def execT3T4Timeout (half queue : Nat) (s : State) : Out :=
  .next (if queue / 16 == 3 && s.ck.run.isSome then s.ckAbort 3 else match s.queue half queue with
    | [] => s
    | d :: _ =>
      let blockOp := d.desc.op == 5 || d.desc.op == 6
      let src (k : Nat) : Nat := if blockOp then
          ((s.bySid d.desc.owner).map (fun x => (x.pt.at k).primary)).getD noTile
        else addrPlus d.desc.src k
      let left := if blockOp then d.keys else (List.range (d.total - d.landed)).map (· + d.landed)
      let tiers := left.map (fun k => tierOf (src k))
      let tier := if tiers.contains 3 || tierOf d.desc.dst == 3 then 3 else if tiers.contains 4 || tierOf d.desc.dst == 4 then 4 else 0
      let limit := s.obj (if tier == 3 then Ob.t3_timeout else Ob.t4_timeout) 0
      if tier == 0 || !queueOk half queue || d.started == 0 || decide (s.tick ≤ d.startTick + limit) then s
      else
        let s := s.bump Ob.cnt_t3_t4_timeout half
        let s := left.foldl (fun s k => if tierOf (src k) == tier then
            s.loseTile (src k) (if tier == 3 then causeT3Lost else causeT4Lost)
          else s) s
        let st := if tier == 3 then mvT3Timeout else mvT4Timeout
        let s := s.setQueue half queue (lset (s.queue half queue) 0 { d with total := d.landed, started := d.landed, keys := [] })
        s.completeHead half queue (max d.status st))

/-! ### Stripes and shadows (R105, R106, R109) -/

/-- PARTIAL_UPDATE (R105, R106): first the intent entry names the stripe, which keeps the old parity, and the slot's data are written; then the parity
takes the exclusive or with old and new data, and the entry goes. -/
def execPartialUpdate (half row d : Nat) (payload : Octets) (parity : Bool) (s : State) : Out :=
  .next (if half < 2 ∧ d < 11 then
      let a := t2Addr half d row
      let e := s.eng half
      if parity then s.setEng half { e with intents := mdel e.intents row }
      else
        let s := s.setEng half { e with intents := mput e.intents row (s.paritySlot half row) }
        s.landTile a { s.tileAt a with kind := if (s.tileAt a).kind == 0 then 9 else (s.tileAt a).kind, payload := bputs [] 0 (payload.take 4096) }
    else s)

/-- Free tile-pool stripes of a half are below a percentage. -/
def State.t2Below (s : State) (half pct : Nat) : Bool :=
  decide (s.t2Free half * 100 < pct * (Config.t2RowsPerChannel - s.obj Ob.t2_system_rows 0))

/-- Free shadows, oldest revival first, until the free stripes reach the high water mark. -/
def State.reclaim (s : State) (half : Nat) : Nat → State
  | 0 => s
  | f + 1 =>
    let e := s.eng half
    match e.shadows with
    | [] => s
    | (sid, b) :: rest =>
      if s.t2Below half (s.obj Ob.t2_high_water 0) then
        let before := s.t2Free half
        let s := s.setEng half { e with shadows := rest }
        let s := match s.bySid sid with
          | none => s
          | some x => s.dropShadow x.index b
        (s.addObj Ob.cnt_shadow_reclaim half (s.t2Free half - before)).reclaim half f
      else s

/-- SHADOW_RECLAIM (R109, R112). -/
def execShadowReclaim (half : Nat) (s : State) : Out :=
  .next (if half < 2 && s.backgroundOpen half && s.t2Below half (s.obj Ob.t2_low_water 0) then s.reclaim half (s.eng half).shadows.length else s)

/-! ### Parking (R67, R73, R75, R123-R127) -/

/-- A session's pages may begin to be parked: nothing needs them (R67, R73) and they are not on their way already. -/
def State.mayPark (s : State) (x : Session) : Bool := s.parkable x && x.parking.isNone

/-- Tier a PARKED_WARM session under MOVE goes down to: T4 where the class says so and a lease is held, else T3. -/
def State.lowerTier (s : State) (x : Session) : Nat :=
  if s.obj Ob.pk_lower x.parkClass == 1 && s.sliced
    && s.fab.leases.any (fun p => p.2.lessee && p.2.kind == 0 && p.2.recalled.isNone) then 4 else 3

/-- Evict a session's own blocks from the highest down (R75). -/
def State.evictAll (s : State) (x : Session) : State :=
  let blocks := (List.range (x.pt.blocks - x.pt.sharedBlocks)).reverse.map (· + x.pt.sharedBlocks)
  let s := blocks.foldl (fun s b => s.evictBlock x.index b) s
  s.residency x.index 7 x.pt.sharedBlocks (x.pt.blocks - 1) x.pt.entries.length

/-- Slots that this tile may still fill in the leases it holds for parking. -/
def State.leaseLeft (s : State) : Nat :=
  (s.fab.leases.filter (fun p => p.2.lessee && p.2.kind == 0 && p.2.recalled.isNone)).foldl (fun n p =>
    let lo := t4Addr (p.1 / 65536) (p.1 % 65536) 0
    n + (p.2.tiles - (s.tier.tiles.filter (fun q => decide (lo ≤ q.1 ∧ q.1 < lo + p.2.tiles))).length)) 0

/-- Members of this tile's slices that it can reach. -/
def State.lenders (s : State) : List Nat := s.members.filter (fun d => d != s.device && s.sharesSlice d && s.reachable d)

/-- A parking lessee whose leases do not hold `n` more tiles asks a member of its slice for `t4_lease_grain` tiles (R477). Which member has the most
lendable tiles is not known here: any one of those it can reach (log entry 155). -/
def State.leaseRoom (s : State) (n : Nat) : State :=
  let near := s.lenders
  if n ≤ s.leaseLeft || near.isEmpty then s
  else
    let (k, s) := s.draw
    s.fabSend (near.getD (k % near.length) s.device) 0xFFFF (.leaseRequest 0 (s.obj Ob.t4_lease_grain 0))

/-- Move a PARKED_WARM session on: where its class says T4 and a member can lend, a lease is asked for
first, and the session goes to T3 when none was granted by the next time its timer is checked (R123, R477). -/
def State.parkLower (s : State) (x : Session) : State :=
  if x.revivePolicy == 1 && x.fbMode != 2 && !x.isPrefix then s.evictAll x
  else
    let t4 : Bool := s.obj Ob.pk_lower x.parkClass == 1 && s.sliced && !s.lenders.isEmpty
    let asked : Bool := s.fab.sent.any (fun o => match o.body with
      | .leaseRequest k _ => k == 0
      | _ => false)
    if t4 && s.lowerTier x == 3 && !asked then s.leaseRoom x.tilesT2
    else (if t4 then s.leaseRoom x.tilesT2 else s).startPark x.index (s.lowerTier x)

/-- PARK_TIMER (R123): a parking-class timer had run out at the boundary that began this frame, where timers are checked. -/
def execParkTimer (sid : Nat) (s : State) : Out :=
  .next (match s.bySid sid with
    | none => s
    | some x =>
      let due (since : Nat) (o : ObjSpec) : Bool := decide (since + s.obj o x.parkClass ≤ s.frameStart)
      if !s.mayPark x then s
      else match x.state with
        | .opened => if due x.lastActive Ob.pk_open_t1 && 0 < x.tilesT1 then s.startPark x.index 2 else s
        | .waiting => if due x.stateSince Ob.pk_wait_t1 && 0 < x.tilesT1 then s.startPark x.index 2 else s
        | .grammarDead => if due x.stateSince Ob.pk_open_t1 && 0 < x.tilesT1 then s.startPark x.index 2 else s
        | .parkedWarm => if s.obj Ob.pk_t2_dwell x.parkClass != 0 && due x.warmSince Ob.pk_t2_dwell then s.parkLower x else s
        | _ => s)

/-- Order of R125: rank, then oldest activity, then session number. -/
def State.parkBefore (s : State) (x y : Session) : Bool :=
  let rx := s.obj Ob.pk_rank x.parkClass
  let ry := s.obj Ob.pk_rank y.parkClass
  rx < ry || (rx == ry && (x.lastActive < y.lastActive || (x.lastActive == y.lastActive && decide (x.sid < y.sid))))

/-- Insert in that order. -/
def State.insertPark (s : State) (x : Session) : List Session → List Session
  | [] => [x]
  | y :: r => if s.parkBefore x y then x :: y :: r else y :: s.insertPark x r

/-- Candidates for parking in order. -/
def State.parkOrder (s : State) (l : List Session) : List Session := l.foldl (fun o x => s.insertPark x o) []

/-- Pressure on T1: below the low water mark the half parks idle sessions to T2 in parking order until T1 reaches its high mark. -/
def State.pressureT1 (s : State) (half : Nat) : State :=
  let total := 128 * Config.t1SlotsPerChannel
  let idle (x : Session) : Bool := x.half == half && (x.state == .opened || x.state == .waiting || x.state == .grammarDead) && s.mayPark x
    && decide (0 < x.tilesT1)
  if s.t1Free half * 100 < total * s.obj Ob.t1_low_water 0 then
    ((s.parkOrder (s.sessions.filter idle)).foldl (fun (acc : State × Nat) x =>
      if acc.2 * 100 < total * s.obj Ob.t1_high_water 0 then
        ((acc.1.startPark x.index 2).bump Ob.cnt_pressure_park half, acc.2 + x.tilesT1)
      else acc) (s, s.t1Free half)).1
  else s

/-- Pressure on T2: with no shadow left to reclaim, PARKED_WARM sessions park lower until T2 reaches its high mark. -/
def State.pressureT2 (s : State) (half : Nat) : State :=
  let rows := Config.t2RowsPerChannel - s.obj Ob.t2_system_rows 0
  if s.t2Below half (s.obj Ob.t2_low_water 0) && (s.eng half).shadows.isEmpty then
    ((s.parkOrder (s.sessions.filter (fun x => x.half == half && x.state == .parkedWarm && s.mayPark x))).foldl
      (fun (acc : State × Nat) x =>
        if acc.2 * 100 < s.obj Ob.t2_high_water 0 * rows then
          ((acc.1.parkLower x).bump Ob.cnt_pressure_park half, acc.2 + x.tilesT2 / 11)
        else acc) (s, s.t2Free half)).1
  else s

/-- PRESSURE_PARK (R125): idle sessions park early, in order, until the slots they give back reach the high water mark. -/
def execPressurePark (half : Nat) (s : State) : Out :=
  .next (if half < 2 then (s.pressureT1 half).pressureT2 half else s)

/-- REVIVE_READY (R67, R85, R86): the last tile is in place and the session leaves REVIVING; sessions that waited for a prefix are queued. -/
def execReviveReady (sid : Nat) (s : State) : Out :=
  .next (match s.bySid sid with
    | none => s
    | some x => (s.reviveReady x.index).queueSharers)

/-- HASH_TABLE_REBUILD (R43): tombstones exceed one eighth of the table's entries. -/
def execHashTableRebuild (half : Nat) (s : State) : Out :=
  .next (if half < 2 ∧ hashBuckets * 4 / 8 < (s.hash half).tombs then s.setHash half (s.hash half).rebuild else s)

/-- WAIT_EXPIRED (R71, R72): the tick of the deadline has ended without a matching RESUME, and the session table is in service. A session that is REVIVING then stays so, with OPEN to return
to (log entry 152). -/
def execWaitExpired (sid : Nat) (s : State) : Out :=
  .next (match s.bySid sid with
    | none => s
    | some x =>
      if x.waitOpen && x.waitDeadline != 0 && decide (x.waitDeadline < s.tick) && s.stn.inService then
        let s := s.setSess { x with waitOpen := false, waitDeadline := 0, priorState := .opened,
                                    state := if x.state == .waiting then .opened else x.state }
        let id := (s.activeHdr.map trvIdOf).getD 0
        let s := s.srec' x.index (.step s.frame id 0 0 0 32 0xFF x.grState x.pt.kvWritten (min x.chAccepted x.pt.kvWritten) [])
        s.sevent x Ev.WAIT_EXPIRED 0 0
      else s)

/-! ### Snapshots (R132-R136) -/

/-- Put a list among others by its takeover. -/
def insertList (l : SlotList) : List SlotList → List SlotList
  | [] => [l]
  | m :: r => if l.takeover < m.takeover then l :: m :: r else m :: insertList l r

/-- Tail-block tiles of the sessions that issued lists name, in takeover order (R133). -/
def State.tailTiles (s : State) (half : Nat) : List Nat :=
  let lists := (match s.trv.inForce with
    | none => []
    | some l => [l]) ++ (s.trv.lists.map (fun p => p.list)).foldl (fun ls l => insertList l ls) []
  (lists.flatMap (fun l => s.namedBy l)).flatMap (fun x =>
    if x.half == half && 0 < x.pt.blocks then
      (blockKeys x.pt.layers x.pt.groups (x.pt.blocks - 1)).map (fun k => (x.pt.at k).primary)
    else [])

/-- What the copier carries next: a tile in its slot, or one of the tables that Detrum keeps. -/
structure SnapNext where
  sys : Bool
  addr : Nat
deriving DecidableEq, Repr

/-- Sessions of a half that issued lists name. -/
def State.namedSessions (s : State) (half : Nat) : List Session :=
  let lists := s.trv.inForce.toList ++ s.trv.lists.map (fun p => p.list)
  (lists.flatMap (fun l => s.namedBy l)).filter (fun x => x.half == half)

/-- The tile the copier carries next (R133, R135): the tail blocks of the sessions that issued lists name, those sessions' descriptor tiles, tiles freed
while pending, and then every other by ascending address. -/
def State.nextSnap (s : State) (half : Nat) : Option SnapNext :=
  let pend (a : Nat) : Bool := a != noTile && s.snapHalf a == half && tierOf a != 0 && s.pendingSnap a
  let e := s.eng half
  let all := s.tier.tiles.map Prod.fst
  match (s.tailTiles half).find? pend with
  | some a => some ⟨false, a⟩
  | none =>
    match e.sysPending.find? (fun p => p.2.kind == 5 && (s.namedSessions half).any (fun x => x.index / 8 * 8 == p.2.locator)) with
    | some p => some ⟨true, p.1⟩
    | none =>
      match all.find? (fun a => pend a && (s.tileAt a).snapPending) with
      | some a => some ⟨false, a⟩
      | none =>
        let low := e.sysPending.foldl (fun (m : Option Nat) p => some (min (m.getD p.1) p.1)) none
        match all.find? pend, low with
        | some a, some b => if b < a then some ⟨true, b⟩ else some ⟨false, a⟩
        | some a, none => some ⟨false, a⟩
        | none, some b => some ⟨true, b⟩
        | none, none => none

/-- Copy the pending tile at an address of the system region or of an index. -/
def State.snapSys (s : State) (half a : Nat) : State :=
  let e := s.eng half
  match e.sysPending.find? (fun p => p.1 == a) with
  | none => s
  | some p => (s.setEng half { e with sysPending := e.sysPending.erase p }).stage half a p.2

/-- The copier carries one tile. -/
def State.copyNext (s : State) (half : Nat) (n : SnapNext) : State := if n.sys then s.snapSys half n.addr else s.snapCopy n.addr

/-- SNAPSHOT_COPY (R112, R133, R442): on a class 3 queue one pending tile goes to the staging pool while more than its reserve is free; the snapshot ends when no tile is
pending. -/
def execSnapshotCopy (half : Nat) (s : State) : Out :=
  .next (if (s.eng half).snapshot.isNone || !s.backgroundOpen half then s
    else match s.nextSnap half with
      | some n =>
        if (s.eng half).snapTiles.length + s.obj Ob.ck_stage_reserve 0 < s.obj Ob.ck_stage_tiles 0 then s.copyNext half n else s
      | none => s.setEng half { s.eng half with snapshot := none })

/-- Half whose snapshot has still to copy a tile of its tables at an address. -/
def State.sysHalf (s : State) (a : Nat) : Option Nat := [0, 1].find? (fun h => (s.eng h).sysPending.any (fun p => p.1 == a))

/-- Sessions whose descriptors a write of a descriptor tile changes. -/
def State.descChanged (s : State) (half a : Nat) (payload : Octets) : List Session :=
  match (s.eng half).sysPending.find? (fun p => p.1 == a && p.2.kind == 5) with
  | none => []
  | some p => s.sessions.filter (fun x => x.half == half && x.index / 8 * 8 == p.2.locator
      && bgets p.2.payload (512 * (x.index % 8)) 512 != slice payload (512 * (x.index % 8)) 512)

/-- COPY_FIRST (R134): a write to a pending tile has it copied first, counted and part of the frame's copies, and then proceeds. The tables of Detrum's own
(descriptors, journal, indexes, mirror) are written by the rows that change them, which come after. -/
def execCopyFirst (a : Nat) (payload : Octets) (s : State) : Out :=
  .next (match s.sysHalf a with
    | some h =>
      let t := (s.descChanged h a payload).foldl (fun (s : State) x => s.countCopy (s.sess x.index)) (s.snapSys h a)
      ({ t with trv := { t.trv with copies := t.trv.copies + 1 } } : State).bump Ob.cnt_copy_first h
    | none => if s.pendingSnap a then s.landTile a { s.tileAt a with payload := bputs [] 0 (payload.take 4096) } else s)

/-! ### Buckets, rules and gates (chapter 11) -/

/-- BUCKET_TICK (R376, R379, R381). -/
def execBucketTick (s : State) : Out := .next s.countDeferred.bucketTick

/-- AR_INSERT (R386): a write of a rule. -/
def execArInsert (w : Writer) (v : Octets) (s : State) : Out :=
  .next (s.commandEnds w Ob.ar_insert 0 v (ruleRange v) Ob.ar_status 0 (fun s => s.ruleInsert v))

/-- AR_REMOVE (R386). -/
def execArRemove (w : Writer) (id : Nat) (s : State) : Out :=
  .next (s.commandEnds w Ob.ar_remove 0 (toLE 2 id) true Ob.ar_status 0 (fun s => s.ruleRemove (id % 65536)))

/-- GL_COMMIT (R392). -/
def execGlCommit (w : Writer) (half : Nat) (s : State) : Out :=
  .next (s.commandNow w Ob.gl_command (half % 2) [1] Ob.gl_status (fun s => s.gateCommit (half % 2)))

/-- GATE_LIST_ENTRY (R391): the ticks of the entry in force have run out. -/
def execGateListEntry (half : Nat) (s : State) : Out :=
  let g := s.gate half
  let used := ((g.active.take (g.index + 1)).map (fun e => e.ticks)).foldl (· + ·) 0
  .next (if half < 2 ∧ s.frameStart + used ≤ s.tick then s.gateNext half else s)

end Sys2Proof.Machine
end

