-- ==== Sys2Proof/Machine/Checkpoint.lean ====
section
/-! DEFINITION. The rows of chapter 13: requests, the shard writer, manifests and the end of a checkpoint, and restore. -/

namespace Sys2Proof.Machine

/-- CK_CHECKPOINT (R440): CHECKPOINT written to `ck_command`; identifier and step are those of `ck_id` and `ck_frame`. -/
def execCkCheckpoint (w : Writer) (s : State) : Out :=
  .next (s.command w Ob.ck_command 0 [1] (some Ob.ck_status) (fun s =>
    let c := s.ckAsk (s.obj Ob.ck_frame 0)
    if s.obj Ob.ck_id 0 == 0 then (s, St.FIELD_RANGE)
    else if c != St.OK then (s, c)
    else
      let who := match w with
        | .station st _ => some st
        | _ => none
      ((s.ckTake who (s.obj Ob.ck_id 0) (s.obj Ob.ck_frame 0)), St.OK)))

/-- ABORT (R447): written to `ck_command`; where none is pending or running nothing changes. -/
def execAbort (w : Writer) (s : State) : Out :=
  .next (s.commandNow w Ob.ck_command 0 [2] Ob.ck_status (fun s => (s.ckAbort 5, St.OK)))

/-- The running set with a change of a half's shard. -/
def CkSet.modShard (x : CkSet) (half : Nat) (f : CkShard → CkShard) : CkSet :=
  { x with members := x.members.map (fun (m : CkMember) => { m with shards := m.shards.map (fun h => if h.half == half then f h else h) }) }

/-- SHARD_WRITE (R442, R444): the writer drains up to `count` tiles of a half's staging pool into its shard and frees their slots; with the snapshot over and the pool empty
the shard is complete, and its header and index tiles are written with its last data tile (log entry 209). -/
def execShardWrite (half count : Nat) (s : State) : Out :=
  .next (match s.ck.run with
    | none => s
    | some r =>
      if !r.started || 2 ≤ half then s
      else
        let e := s.eng half
        let out := e.snapTiles.take count
        let s := s.setEng half { e with snapTiles := e.snapTiles.drop count }
        let s := out.foldl (fun s c => if c.slot == noTile then s else s.setTile c.slot freeTile) s
        let s := (s.addObj Ob.cnt_ck_tiles_written half out.length).addObj Ob.ck_progress 0 out.length
        let set := r.set.modShard half (fun (h : CkShard) => { h with tiles := h.tiles ++ out.map (fun c => (c.source, c.tile)) })
        let done := (s.eng half).snapshot.isNone && (s.eng half).snapTiles.isEmpty
        let last : Bool := done && !(if half == 0 then r.done0 else r.done1)
        let head := if last then ((set.members.flatMap (fun m => m.shards)).find? (fun h => h.half == half)).map (fun h => 1 + ceilDiv h.data.length 512) |>.getD 0 else 0
        let s := (s.addObj Ob.cnt_ck_tiles_written half head).addObj Ob.ck_progress 0 head
        { s with ck := { s.ck with run := some { r with
            set := set
            done0 := r.done0 || (done && half == 0)
            done1 := r.done1 || (done && half == 1) } } })

/-- A complete shard: its header's CRC stands. -/
def CkShard.close (h : CkShard) : CkShard := { h with crc := crcOf h.hdr }

/-- The member manifest, signed once its shards are complete: each entry carries its shard's digest. -/
def State.memberManifest (s : State) (m : CkMember) : CkMember :=
  let shards := m.shards.map CkShard.close
  ⟨{ m.manifest with
      shards := m.manifest.shards.map (fun (e : ManShard) => match shards.find? (fun (h : CkShard) => h.half == e.half) with
        | some h => { e with tiles := h.stored.length, digest := h.digest }
        | none => e) }.close s.free, shards⟩

/-- Entry of a member manifest in the group manifest. -/
def memberEntry (m : Manifest) (offset : Nat) : ManMember := ⟨m.position, offset, m.signer, m.digest⟩

/-- MANIFEST_WRITE (R445, R446): both shards are complete, and the manifests are signed and written. `others`: the entries of the other members'
manifests on the benchmark device; `group`: at another member, the group manifest that the benchmark device sent. -/
def execManifestWrite (others : List ManMember) (group : Option Manifest) (s : State) : Out :=
  .next (match s.ck.run with
    | none => s
    | some r =>
      if r.done0 && r.done1 && s.obj Ob.ck_state 0 == 2 && (s.isMaster || group.isSome) then
        let ms := r.set.members.map s.memberManifest
        let at' := ((s.catalogue.find? (fun e => e.id == r.id && e.state == 1)).map (fun e => e.member)).getD 0
        let own : Manifest := { r.set.group with
          sessions := (ms.map (fun m => m.manifest.sessions)).foldl (· + ·) 0, members := ms.map (fun m => memberEntry m.manifest at') ++ others }
        let g := if s.isMaster then own.close (s.free + 1) else group.getD own
        let s := { s with ck := { s.ck with run := some { r with set := ⟨g, ms⟩ } }, free := s.free + 2 }
        s.setObj Ob.ck_state 0 3
      else s)

/-- CHECKPOINT_COMPLETE (R447): every member has written the group manifest's copy; the entry is COMPLETE and the requester hears of it. -/
def execCheckpointComplete (s : State) : Out :=
  .next (match s.ck.run with
    | none => s
    | some r =>
      if s.obj Ob.ck_state 0 == 3 then
        let s := { s with ck := { s.ck with run := none, stored := r.set :: s.ck.stored.filter (fun x => x.group.id != r.id || x.group.frame != r.frame) } }
        let s := (s.catMark r.id 1 (fun (e : CatEntry) => { e with state := 2 })).setObj Ob.ck_state 0 4
        s.ckTell r Ev.CHECKPOINT_COMPLETE r.id r.frame
      else s)

/-! ### Restore (R448-R451) -/

/-- Which part fails and with which status: position, half (0xFF a manifest), status. -/
abbrev CkFail := Nat × Nat × Nat

/-- Fingerprint of the identity key of the group's benchmark device, as the plat domain holds it. -/
def State.benchmarkKeys (s : State) : List Octets :=
  match s.fab.plat with
  | none => []
  | some p => (p.slices.filter (fun x => (s.ownSlices p).contains x.slice)).filterMap (fun x =>
      (p.devices.find? (fun d => d.device == x.benchmark)).map (fun d => toLE 32 d.identity))

/-- A key that signs a group manifest is accepted (R450). -/
def State.ckKeyOk (s : State) (signer : Octets) : Bool :=
  s.benchmarkKeys.contains signer || signer == idFingerprint
  || (List.range 16).any (fun k => s.obj Ob.tk_state k == 2 && s.obj Ob.tk_purpose k / 8 % 2 == 1 && s.str Ob.tk_fingerprint k == signer)

/-- A member manifest verifies, and the group manifest countersigns it (step 4 of Table 13-6). -/
def CkSet.countersigned (x : CkSet) (m : CkMember) : Bool :=
  m.manifest.verified && x.group.members.any (fun e => e.position == m.manifest.position && e.signer == m.manifest.signer && e.digest == m.manifest.digest)

/-- A shard is as its member manifest says, and its tiles pass (step 8). -/
def CkSet.intact (x : CkSet) (h : CkShard) : Bool :=
  h.tilesOk && x.members.any (fun m => m.manifest.position == h.position && m.manifest.shards.any (fun e => e.half == h.half && e.digest == h.digest))

/-- Shards in ascending (position, half). -/
def CkSet.shards (x : CkSet) : List CkShard :=
  (x.members.flatMap (fun m => m.shards)).foldl (fun l h =>
    insertBy (fun (a b : CkShard) => decide (a.position < b.position ∨ (a.position = b.position ∧ a.half < b.half))) h l) []

/-- A bind entry names a LOADED slot with the same digest. -/
def State.bindOk (s : State) (b : Nat × Nat × Octets) : Bool :=
  match b.1 with
  | 1 => s.obj Ob.mdl_state b.2.1 == 2 && s.str Ob.mdl_digest b.2.1 == b.2.2
  | 2 => s.obj Ob.dict_state b.2.1 == 2 && s.str Ob.dict_digest b.2.1 == b.2.2
  | 3 => s.obj Ob.gp_state b.2.1 == 2 && s.str Ob.gp_digest b.2.1 == b.2.2
  | _ => false

/-- Steps 2 to 8 of Table 13-6: the first that fails. A shard's own version is looked at with its header, at step 5 (Table 13-7; log entry 186). -/
def State.ckChecks (s : State) (cat : List CatEntry) (x : CkSet) : Option CkFail :=
  let g := x.group
  let manifest (st : Nat) : Option CkFail := some (s.obj Ob.group_position 0, 0xFF, st)
  let member (m : CkMember) (st : Nat) : CkFail := (m.manifest.position, 0xFF, st)
  let wrong (h : CkShard) : Bool := h.major != 1 || h.id != g.id || h.frame != g.frame || h.trv != g.trv % 2 ^ 64
  if !cat.any (fun e => e.id == g.id && e.frame == g.frame && e.state == 2) then manifest St.RESTORE_CORRUPT
  else match g.form.elim (x.members.findSome? (fun m => m.manifest.form.map (member m))) manifest with
    | some f => some f
    | none =>
      if !g.verified || !s.ckKeyOk g.signer then manifest St.RESTORE_SIGNATURE
      else match (x.members.find? (fun m => !x.countersigned m)).map (fun m => member m St.RESTORE_SIGNATURE)
          <|> (x.members.find? (fun m => m.manifest.id != g.id || m.manifest.frame != g.frame || m.manifest.trv != g.trv)).map (fun m => member m St.RESTORE_MISMATCH)
          <|> (x.shards.find? wrong).map (fun h => (h.position, h.half, if h.major == 1 then St.RESTORE_MISMATCH else St.FORMAT_VERSION)) with
        | some f => some f
        | none =>
          let loaded := s.trv.slots.any (fun p => decide (2 ≤ s.obj Ob.trv_state p.1 ∧ s.obj Ob.trv_state p.1 ≤ 3) && (match p.2.image with
            | none => false
            | some i => i.hdr.groupIdentity == g.trv && i.hdr.groupSize == g.groupSize))
          if !loaded then manifest St.RESTORE_TRAVERSE
          else if !(g :: x.members.map (fun m => m.manifest)).all (fun m => m.binds.all s.bindOk)
            || x.shards.any (fun h => h.vx.any (fun v => s.obj Ob.vx_state v.index != 0)) then manifest St.RESTORE_MODELS
          else match x.shards.find? (fun h => !x.intact h) with
            | some h => some (h.position, h.half, St.RESTORE_DIGEST)
            | none => none

/-- Status codes at which a restore with source 0 falls back: steps 2 to 5 and 8 (R451). -/
def ckFallsBack (st : Nat) : Bool :=
  [St.RESTORE_CORRUPT, St.FORMAT_VERSION, St.RESTORE_SIGNATURE, St.RESTORE_MISMATCH, St.RESTORE_DIGEST].contains st

/-- `rs_refused`. -/
def State.ckRefused (s : State) (id : Nat) (f : CkFail) : State :=
  s.setStr Ob.rs_refused 0 (toLE 8 id ++ toLE 2 f.1 ++ toLE 1 f.2.1 ++ toLE 2 f.2.2 ++ toLE 3 0)

/-- A restored session's key/value tiles go to the T2 tile pool, and its leaf entries follow; a tile that is not there is to be recomputed (R449). -/
def State.ckPlace (s : State) (i : Nat) (tiles : SMap Tile) : State :=
  match s.sess i with
  | none => s
  | some x =>
    let old := x.pt.entries
    let s := s.setSess { x with pt := { x.pt with entries := [], tiles := [] }, tilesT1 := 0, tilesT2 := 0, tilesT3 := 0, tilesT4 := 0 }
    let s := old.foldl (fun s p =>
      match s.sess i, mget tiles p.2.primary with
      | some y, some t =>
        match s.allocKvT2 y p.1 { t with cowEpoch := s.allocEpoch y.half } with
        | none => s
        | some (a, s) => s.modSess i (fun y => { (y.tierCount a true) with pt := y.pt.put p.1 ⟨a, a⟩ })
      | _, _ => s) s
    s.growPt i

/-- A tick of a descriptor rebased to the tick of the restore. -/
def rebase (now was t : Nat) : Nat := now + t - was

/-- State a restored session takes (R449). -/
def State.ckEnter (s : State) (i : Nat) : State :=
  match s.sess i with
  | none => s
  | some x =>
    let s := match x.state with
      | .cancelling => s.freePages i
      | .grammarDead => s
      | .failed => s
      | .parkedWarm => if x.hasWork then (s.modSess i (fun y => y.toReviving s.tick)).startRevive i else s
      | .parkedCold => if x.hasWork then (s.modSess i (fun y => y.toReviving s.tick)).startRevive i else s
      | _ =>
        if x.hasWork || x.state == SState.active || x.state == SState.queued || x.state == SState.reviving then
          (s.modSess i (fun y => y.toReviving s.tick)).startRevive i
        else s.modSess i (fun y => { y with state := .parkedWarm, stateSince := s.tick, warmSince := s.tick })
    s.sevent x Ev.SESSION_RESTORED x.chDelivered 0

/-- One descriptor of a shard, rebased, with its handle in hash table and engine. -/
def State.ckSession (s : State) (was : Nat) (tiles : SMap Tile) (x : Session) : State :=
  let r (t : Nat) : Nat := rebase s.tick was t
  let y : Session := { x with
    lastActive := r x.lastActive, waitDeadline := if x.waitDeadline == 0 then 0 else r x.waitDeadline, stateSince := r x.stateSince
    warmSince := r x.warmSince, slotFrame := 0, row := 0xFFFF, rows := 0, named := [], parking := none, ringHold := !x.isPrefix, adoptedHold := !x.isPrefix
    ringRename := none, outbox := [], cancelPos := x.cancelPos.map (fun _ => 0), queue := [], queueFrom := 0, grFlags := 0, grSpill := 0, lastWait := x.lastWait.map (fun p => (p.1, if p.2 == 0 then 0 else r p.2)) }
  ((((s.setSess y).ckPlace y.index tiles).syncQueue y.index).spillStack y.index).enterHandles y

/-- The records of a shard written afresh in their order, with the windows they imply and every journal position to match (R449). -/
def State.ckRecords (s : State) (h : CkShard) : State :=
  let s := h.recs.foldl (fun s r =>
    let (s, q) := s.recsAgain h.half r.sid 0 [r]
    let pos := ((q.head?).map (fun p => p.pos)).getD 0
    if r.sid == 0xFFFFFFFF then h.vx.foldl (fun s v => if r.pos ≤ v.obj Ob.vx_journal_pos then s.setObj Ob.vx_journal_pos v.index pos else s) s
    else s.modSess (sidIndex r.sid) (fun y => if y.sid == r.sid then { y with journalPos := pos } else y)) s
  s.setBook h.half { s.book h.half with recoverFrom := (s.book h.half).next }

/-- One vector index of a shard, READY, its tiles placed in T2 (Table 13-2). -/
def State.ckVx (s : State) (v : CkIndex) : State :=
  let s := vxObjects.foldl (fun s o => match v.objs.find? (fun p => p.1 == o.subLo) with
    | some p => s.setObj o v.index p.2
    | none => s) s
  let s := s.vxMake v.index v.body.nodes
  (s.setVx v.index { s.vxAt v.index with retire := v.body.retire }).setObj Ob.vx_state v.index 2

/-- Apply one shard (R449). -/
def State.ckApply (s : State) (x : CkSet) (h : CkShard) : State :=
  let tiles := h.tiles.foldl (fun (m : SMap Tile) p => mput m p.1 p.2) []
  let s := h.sessions.foldl (fun s y => s.ckSession x.group.tick tiles y) s
  let s := h.vx.foldl State.ckVx s
  let s := h.sync.foldl (fun (s : State) p => s.setSync p.1 p.2) s
  let s := { s with shape := if h.half == 0 then { s.shape with v0 := x.group.v0 } else { s.shape with v1 := x.group.v1 } }
  let s := s.ckRecords h
  h.sessions.foldl (fun s y => s.ckEnter y.index) s

/-- The shards of this tile's position are applied, the restore is recorded, and a configured witness is established again (R449). -/
def State.ckRestore (s : State) (w : Writer) (x : CkSet) : State :=
  let own := x.shards.filter (fun h => h.position == s.obj Ob.group_position 0)
  let s := own.foldl (fun s h => s.ckApply x h) s
  let s := s.configRec Ob.rs_command.base Ob.rs_command.subLo (writerSource w) (writerNumber w) [1]
  let s := { s with ck := { s.ck with witnessAgain := s.obj Ob.witness_mode 0 != 0 } }
  (s.setObj Ob.rs_restored_id 0 x.group.id).setObj Ob.rs_status 0 St.OK

/-- COMPLETE candidates from the newest step down. -/
def newestFirst (l : List CkSet) : List CkSet :=
  l.foldl (fun o x => insertBy (fun (a b : CkSet) => decide (b.group.frame < a.group.frame)) x o) []

/-- Candidates in turn (R451). -/
def State.ckTry (s : State) (w : Writer) (source : Nat) (cat : List CatEntry) : List CkSet → State
  | [] => s.setObj Ob.rs_status 0 St.RESTORE_NONE
  | x :: r =>
    match s.ckChecks cat x with
    | none => s.ckRestore w x
    | some f =>
      let s := s.ckRefused x.group.id f
      if source == 0 && ckFallsBack f.2.2 then
        let s := (s.bump Ob.cnt_restore_fallback 0).tileEvent Ev.RESTORE_FALLBACK x.group.id (f.1 + 2 ^ 16 * f.2.1 + 2 ^ 32 * f.2.2)
        s.ckTry w source cat r
      else s.setObj Ob.rs_status 0 f.2.2

/-- RESTORE (R448-R451): written to `rs_command`. `found` are sets that the store gives in place of, or beyond, those this tile wrote, with the
catalogue entries they stand under; checks run in turn, and the first set that passes is applied. -/
def execRestore (w : Writer) (found : List CkSet) (s : State) : Out :=
  .next (s.command w Ob.rs_command 0 [1] (some Ob.rs_status) (fun s =>
    let busy := s.sessions.any (fun x => x.state.live) || s.ck.run.any (fun r => r.started) || (List.range 256).any (fun ii => s.obj Ob.vx_state ii == 2)
    if busy then (s, St.RESTORE_BUSY)
    else
      let own := s.ck.stored.filter (fun x => !found.any (fun y => y.group.id == x.group.id && y.group.frame == x.group.frame)
        && s.catalogue.any (fun e => e.id == x.group.id && e.frame == x.group.frame && e.state == 2))
      let cat := s.catalogue ++ (found.filter (fun y => !s.catalogue.any (fun e => e.id == y.group.id && e.frame == y.group.frame))).map (fun y =>
        (⟨y.group.id, y.group.frame, 2, y.group.producer, s.obj Ob.group_position 0, 0, 0, 0, 0, y.group.tai, 0⟩ : CatEntry))
      let source := s.obj Ob.rs_source 0
      let all := newestFirst (own ++ found)
      if source == 0 then (s.ckTry w 0 cat all, St.OK)
      else match all.find? (fun x => x.group.id == source) with
        | some x => (s.ckTry w source cat [x], St.OK)
        | none => ((s.ckRefused source (s.obj Ob.group_position 0, 0xFF, St.RESTORE_CORRUPT)).setObj Ob.rs_status 0 St.RESTORE_CORRUPT, St.OK)))

end Sys2Proof.Machine
end

