-- ==== Sys2Proof/Machine/Fabric.lean ====
section
/-! DEFINITION. The rows of chapter 14: the link layer, relays, leases, witness traffic, plat agreement and hand-over. -/

namespace Sys2Proof.Machine

/-! ### The link layer (R460-R466) -/

/-- A port goes DOWN (R460, R464, R465): its objects, its lanes, what it kept for replay, and a report of the neighbour to the coordinator. -/
def State.portDown (s : State) (p : Nat) : State :=
  let x := s.port p
  let wasUp := s.portUp p
  let peer := s.portPeer p
  let s := x.lanes.foldl (fun s l => if s.lane l == 2 then s else s.setLane l 0) s
  let s := ((s.setObj Ob.port_state p 0).setObj Ob.port_width p 0).setPort p
    { portInit with lanes := x.lanes, since := s.tick, status := x.status, params := x.params }
  if !wasUp then s
  else
    let s := s.bump Ob.cnt_port_down (portHalf p)
    let s := s.platView
    let s := if s.fab.plat.isSome && !(List.range 16).any (fun q => s.portUp q && s.portPeer q == peer) then s.reportPeers [peer] else s
    s.peersSeen

/-- Lane n fails (R464). -/
def State.laneFail (s : State) (l : Nat) : State :=
  if s.lane l == 2 then s else (s.setLane l 2).bump Ob.cnt_lane_failed (l / 16)

/-- Port of a lane. -/
def State.laneOwner (s : State) (l : Nat) : Option Nat := (List.range 16).find? (fun p => (s.port p).lanes.contains l)

/-- CODEWORD_FEC_FAIL (R463, R464): a NAK goes out once, later codewords are discarded; more than 16 failures of a lane in one heartbeat interval
fail it. -/
def execCodewordFecFail (port lane seq : Nat) (s : State) : Out :=
  .next (if s.portUp port && (s.port port).lanes.contains lane then
      let x := s.port port
      let s := s.bump Ob.cnt_fec_uncorrected port
      let n := (mget s.fab.laneFails lane).getD 0 + 1
      let s := { s with fab := { s.fab with laneFails := mput s.fab.laneFails lane n } }
      let s := if x.discarding then s
        else s.setPort port { x with discarding := true, rxNext := seq % 4096, sent := (3, seq % 4096) :: x.sent }
      if 16 < n then s.laneFail lane else s
    else s)

/-- ACK (R463): what it acknowledges is no longer kept for replay. -/
def execAck (port seq : Nat) (s : State) : Out :=
  .next (let x := s.port port
    if s.portUp port && x.txKept.contains (seq % 4096) then
      s.setPort port { x with txKept := (x.txKept.dropWhile (fun q => q != seq % 4096)).drop 1 }
    else s)

/-- NAK (R463): the sender replays in order from the named sequence; one it no longer holds takes the port DOWN. -/
def execNak (port seq : Nat) (s : State) : Out :=
  .next (let x := s.port port
    if !s.portUp port then s
    else if x.txKept.contains (seq % 4096) then
      (s.setPort port { x with sent := ((x.txKept.dropWhile (fun q => q != seq % 4096)).map (fun q => (2, q))).reverse ++ x.sent }).bump
        Ob.cnt_replays port
    else s.portDown port)

/-- LINK_PARAM (R460-R462): step 3 of the training. A partner without major 1 holds the port in MISMATCH. -/
def execLinkParam (port : Nat) (lp : LinkParam) (s : State) : Out :=
  .next (let x := s.port port
    if s.obj Ob.port_state port != 1 || 4 ≤ x.step then s
    else if decide (2 ≤ lp.majorLo) || lp.majorHi == 0 then
      (s.setObj Ob.port_state port 4).setPort port { x with params := some lp, status := St.VERSION_MISMATCH, since := s.tick, step := 0 }
    else
      s.setPort port { x with
        params := some lp, step := 4, since := s.tick, minor := min lp.minor 2, features := Nat.land lp.features 0xF, echoes := []
        attempts := x.attempts + 1 })

/-- ECHO (R460): one of 16 round trips, in cc. -/
def execEcho (port rtt : Nat) (s : State) : Out :=
  .next (let x := s.port port
    if s.obj Ob.port_state port == 1 && x.step == 4 && decide (x.echoes.length < 16) then s.setPort port { x with echoes := x.echoes ++ [rtt] } else s)

/-- Timeout of a training step in ticks (Table 14-4); step 3 is tried three times. -/
def State.trainLimit (s : State) (step : Nat) : Nat :=
  match step with
  | 1 => s.obj Ob.fab_train_timeout 0
  | 2 => 25000
  | 3 => 3 * 2500
  | _ => 2500

/-- PORT_TRAINING_TIMEOUT (R22, R460): step `step`, which the port's lanes began at tick `began`, has run past its timeout; the port is DOWN and the
failure reported. Steps 1 to 3 end with the partner's LINK_PARAM, and step 4 begins with it. -/
def execPortTrainingTimeout (port step began : Nat) (s : State) : Out :=
  .next (let x := s.port port
    let now : Bool := if x.step == 4 then step == 4 && began == x.since else decide (1 ≤ step ∧ step ≤ 3 ∧ x.since ≤ began) && (step != 1 || began == x.since)
    if s.obj Ob.port_state port == 1 && now && decide (began + s.trainLimit step < s.tick) then (s.portReport port clsTimeout).portDown port else s)

/-- PORT_RETRAIN (R460, R462): a DOWN port retries, a port in MISMATCH once a second; the quad mode applies from here. -/
def execPortRetrain (port : Nat) (s : State) : Out :=
  .next (let x := s.port port
    let wait := if s.obj Ob.port_state port == 4 then 25000000 else s.obj Ob.fab_retrain_ticks 0
    let lanes := s.portLanes port
    if (s.obj Ob.port_state port == 0 || s.obj Ob.port_state port == 4) && s.obj Ob.port_role port != 0 && !lanes.isEmpty && decide (port < 16)
        && decide (x.since + wait ≤ s.tick) then
      let s := lanes.foldl (fun s l => s.setLane l 0) s
      (s.setObj Ob.port_state port 1).setPort port { portInit with lanes := lanes, step := 1, since := s.tick, params := x.params }
    else s)

/-- Median of the round trips: the mean of the middle two, rounded down. -/
def medianOf (l : List Nat) : Nat :=
  let o := l.foldl (fun o x => insertBy (fun a b => decide (a < b)) x o) []
  (o.getD ((o.length - 1) / 2) 0 + o.getD (o.length / 2) 0) / 2

/-- Both ends may run together (R461). -/
def State.portFits (s : State) (port : Nat) (lp : LinkParam) : Bool :=
  let role := s.obj Ob.port_role port
  let mem := s.obj Ob.composition 0 == 1
  lp.role == role && (match role with
    | 1 => mem == lp.isMember && (!mem || lp.domain == s.obj Ob.plat_domain 0)
    | 2 => !mem && !lp.isMember
    | _ => false)

/-- PORT_UP (R460, R461): after 16 echoes whose latency the other end confirms within 1 cc, the port is UP; on a role or domain mismatch it stays
DOWN with FAB_DOMAIN. -/
def execPortUp (port peerLatency : Nat) (s : State) : Out :=
  .next (let x := s.port port
    match x.params with
    | none => s
    | some lp =>
      if s.obj Ob.port_state port != 1 || x.step != 4 || x.echoes.length != 16 then s
      else
        let lat := medianOf x.echoes / 2
        if peerLatency + 1 < lat || lat + 1 < peerLatency then (s.portReport port clsProtocol).portDown port
        else if !s.portFits port lp then
          (s.setPort port { x with status := St.FAB_DOMAIN }).portReport port clsProtocol |>.portDown port
        else
          let good := x.lanes.filter (fun l => s.lane l != 2)
          let s := good.foldl (fun s l => s.setLane l 1) s
          let s := ((s.setObj Ob.port_state port (if good.length == x.lanes.length then 2 else 3)).setObj Ob.port_width port good.length).setObj
            Ob.port_peer port (lp.device % 512 + lp.port % 16 * 4096)
          let s := (s.setObj Ob.port_latency_cc port lat).setPort port { x with
            step := 0, status := St.OK, lastHb := s.tick, missed := 0, lastSent := s.tick }
          let s := if lp.epoch == 0 && s.fab.plat.isSome then
              (s.fab.leases.filter (fun p => p.2.peer == lp.device)).foldl (fun s p => (if p.2.lessee then s.loseLease p.1 else s).dropLease p.1) s
            else s
          s.platView.peersSeen)

/-- LOSS_OF_SIGNAL (R464): a lane has lost signal for 1 µs; with every lane of the port gone the port is DOWN at once. -/
def execLossOfSignal (lane : Nat) (s : State) : Out :=
  .next (if 32 ≤ lane then s
    else
      let s := s.laneFail lane
      match s.laneOwner lane with
      | none => s
      | some p => if s.obj Ob.port_state p != 0 && (s.port p).lanes.all (fun l => s.lane l == 2) then s.portDown p else s)

/-- LANE_FAILED (R464): the port of a failed lane retrains at the largest width its good lanes allow, or goes DOWN. -/
def execLaneFailed (lane : Nat) (s : State) : Out :=
  .next (match s.laneOwner lane with
    | none => s
    | some p =>
      let x := s.port p
      if s.lane lane != 2 || !s.portUp p then s
      else
        let good := (x.lanes.filter (fun l => s.lane l != 2)).length
        let width := if x.lanes.length == 4 && 2 ≤ good then 2 else min good 1
        if width == 0 || x.features / 2 % 2 == 0 then s.portDown p
        else
          let s := (s.setObj Ob.port_state p 3).setObj Ob.port_width p width
          (s.bump Ob.cnt_link_narrowed (portHalf p)).tileEvent Ev.LINK_NARROWED p width)

/-- HEARTBEAT (R465, R470, R472): none: one is sent every 250 ticks, and a new interval of codeword failures begins; some: one is read, and a
newer epoch in it is fetched or joined. -/
def execHeartbeat (port : Nat) (rx : Option FabHeartbeat) (s : State) : Out :=
  .next (let x := s.port port
    if !s.portUp port then s
    else match rx with
      | none =>
        if decide (x.lastSent + 250 ≤ s.tick) then
          let s := { s with fab := { s.fab with laneFails := s.fab.laneFails.filter (fun (p : Nat × Nat) => !x.lanes.contains p.1) } }
          (s.setPort port { x with lastSent := s.tick, sentHb := some s.ownHeartbeat, sent := (1, x.txNext) :: (2, x.rxNext) :: x.sent, txNext := (x.txNext + 1) % 4096
                                   txKept := keepLast 512 (x.txKept ++ [x.txNext]) }).markLost
        else s
      | some hb =>
        let s := s.setPort port { x with peerHb := some hb, lastHb := s.tick, missed := 0, discarding := false }
        let joining := s.obj Ob.composition 0 == 1 && s.fab.plat.isNone && hb.epoch != 0
        if joining then s.fabSendBy port hb.coordinator 0xFFFF (s.fab.sent.length % 2 ^ 32) (.platJoin s.device 1 1 1 platFeatureBits (ofLE idFingerprint))
        else if decide (s.platEpoch < hb.epoch) && s.fab.plat.isSome then s.fabSend hb.device 0xFFFF (.platFetch hb.epoch)
        else s)

/-- PORT_HEARTBEAT_LOSS (R465): missed intervals count; at the end of the third without a heartbeat the port is DOWN. -/
def execPortHeartbeatLoss (port : Nat) (s : State) : Out :=
  .next (let x := s.port port
    if !s.portUp port then s
    else
      let n := min 3 ((s.tick - x.lastHb) / 250)
      let s := (s.addObj Ob.cnt_hb_missed port (n - x.missed)).setPort port { x with missed := max n x.missed }
      if decide (x.lastHb + 750 < s.tick) then (s.portReport port clsTimeout).portDown port else s)

/-! ### Relays (R474, R475) -/

/-- A relayed message takes effect at the owner, or is sent on, or waits for a hand-over's end (Table 14-11). -/
def State.fabSession (s : State) (h : FabHdr) (st : Nat) (m : Msg) : State :=
  let waiting := s.fab.ins.any (fun i => i.slice == h.slice && !i.acked)
  let here := (s.resolve st m.hdr.handle).2
  let leaving := here.bind (fun x => s.fab.outs.find? (fun o => o.sids.contains x.sid && o.drainTick.any (fun t => decide (t < s.tick))))
  let moved (dev : Nat) : State := (s.bump Ob.cnt_plat_moved ((here.map (fun x => x.half)).getD 0)).fabReply h (.moved dev s.platEpoch)
  match leaving with
  | some o => moved o.toDev
  | none =>
    match here, s.routeOf st m.hdr.handle with
    | none, some r => if r.device == s.device then s else moved r.device
    | _, _ =>
      if waiting && here.all (fun x => s.fab.ins.any (fun i => i.got.contains x.sid && !i.acked)) then
        { s with fab := { s.fab with held := s.fab.held ++ [⟨h, s.tick, .sessionMsg st m⟩] } }
      else
        let s := s.remoteStation st h.src
        let e : Intake := ⟨m, 0, 0, s.tick, s.tick, false, .fresh, 0, false, false, 0, 0⟩
        let x := s.station st
        let s := s.setStation st { x with intake := x.intake.filter (fun i => !i.undecided m.hdr.seq) ++ [e] }
        let s := match s.seqCheck st m.hdr.seq with
          | some o => s.finish st m.hdr.seq o
          | none => match m.body with
            | .append b => s.appendMsg st e b
            | .resume b => s.resumeMsg st e b
            | .cancel => s.cancelMsg st e
            | .close => s.closeMsg st e
            | .park => s.parkMsg st e
            | .revive => s.reviveMsg st e
            | .ringName b => s.ringNameMsg st e b
            | _ => s.finish st m.hdr.seq (Outcome.of St.HANDLE_UNKNOWN)
        s.relayOut

/-- SESSION_MSG (R475). -/
def execSessionMsg (h : FabHdr) (st : Nat) (m : Msg) (s : State) : Out :=
  .next (s.routed h (.sessionMsg st m) true true (fun s => s.fabSession h st m))

/-- SESSION_REPLY (R475): the relayed completion is posted for the station's message. -/
def execSessionReply (h : FabHdr) (st : Nat) (c : Completion) (s : State) : Out :=
  .next (s.routed h (.sessionReply st c) false false (fun s =>
    let s := if c.status == St.OK && ((s.station st).find c.seq).any (fun e => windowed e.msg.body) then s.seqAdd st c.seq c.pos else s
    s.finish st c.seq ⟨c.status, c.offset, c.result, c.pos, c.reviveDemoted⟩))

/-- RING_WRITE (R475): a relayed ring entry goes onto the station's ordered write stream. -/
def execRingWrite (h : FabHdr) (st addr : Nat) (e : RingEntry) (s : State) : Out :=
  .next (s.routed h (.ringWrite st addr e) false false (fun s => s.setStation st ((s.station st).pushRing addr e)))

/-- EVENT_RELAY (R475): a relayed event is posted with the station's own sequence. -/
def execEventRelay (h : FabHdr) (st : Nat) (e : EventEntry) (s : State) : Out :=
  .next (s.routed h (.eventRelay st e) false false (fun s => s.event st e.code e.handle e.arg0 e.arg1))

/-! ### Leases and peer-tier moves (R477, R478) -/

/-- LEASE_REQUEST: granted within `t4_lend_max` to a device of the slice, else LEASE_REFUSED. A WITNESS lease under STANDALONE serves only the device
that `fab_witness_serve` names. -/
def execLeaseRequest (h : FabHdr) (kind tiles : Nat) (s : State) : Out :=
  .next (s.routed h (.leaseRequest kind tiles) true true (fun s =>
    let serve := s.obj Ob.fab_witness_serve 0
    let allowed := if s.sliced then s.sharesSlice h.src
      else kind == 2 && serve / 2 ^ 31 == 1 && serve % 512 == h.src
    let lent := s.obj Ob.t4_tiles_lent 0
    if !allowed || decide (s.obj Ob.t4_lend_max 0 < lent + tiles) || decide (11 * s.t2Free (s.fab.nextLease % 2) < tiles) then
      s.fabReply h (.refused St.LEASE_REFUSED)
    else
      let n := s.fab.nextLease
      let s := { s with fab := { s.fab with
        leases := mput s.fab.leases (h.src * 65536 + n) ⟨false, h.src, kind, tiles, none, false⟩, nextLease := (n + 1) % 65536 } }
      (s.setObj Ob.t4_tiles_lent 0 (lent + tiles)).fabReply h (.leaseGrant n kind tiles)))

/-- LEASE_GRANT: counted as borrowed; a WITNESS lease of the witness peer lets the copy begin that establishes it (R406, R479). -/
def execLeaseGrant (h : FabHdr) (lease kind tiles : Nat) (s : State) : Out :=
  .next (s.routed h (.leaseGrant lease kind tiles) false true (fun s =>
    let s := { s with fab := { s.fab with
      leases := mput s.fab.leases (h.src * 65536 + lease % 65536) ⟨true, h.src, kind, tiles, none, false⟩ } }
    let s := s.addObj Ob.t4_tiles_borrowed 0 tiles
    if kind == 2 && s.obj Ob.witness_state 0 == 1 && h.src == s.obj Ob.witness_peer 0 % 512 then s.copyWitness else s))

/-- LEASE_RECALL: the lessee moves its sessions' tiles back into its own T2; what is left after `t4_timeout` is lost. -/
def execLeaseRecall (h : FabHdr) (lease : Nat) (s : State) : Out :=
  .next (s.routed h (.leaseRecall lease) false true (fun s =>
    let key := h.src * 65536 + lease % 65536
    match mget s.fab.leases key with
    | none => s
    | some l =>
      if !l.lessee then s
      else
        let s := { s with fab := { s.fab with leases := mput s.fab.leases key { l with recalled := some s.tick } } }
        s.eachSess (fun s x =>
          if x.pt.entries.any (fun p => tierOf p.2.primary == 4 && decide (p.2.primary / 2 ^ 36 % 2 ^ 16 = lease % 65536
              ∧ p.2.primary / 2 ^ 52 % 512 = h.src)) then
            (s.postMove x.half (32 + x.station % 16) (blockDesc 6 2 x false 0 (x.pt.blocks - 1)) none).1
          else s)))

/-- LEASE_RELEASE: the lessor has its tiles back; after a hand-over the moved sessions' tiles are freed (R473, R476). -/
def execLeaseRelease (h : FabHdr) (lease : Nat) (s : State) : Out :=
  .next (s.routed h (.leaseRelease lease) false true (fun s =>
    let key := h.src * 65536 + lease % 65536
    match mget s.fab.leases key with
    | none => s
    | some l =>
      if l.lessee then s
      else
        let done := s.fab.outs.filter (fun o => o.toDev == h.src && o.lease == lease % 65536)
        let s := done.foldl (fun s o =>
          let s := ((s.tier.tiles.filter (fun p => tierOf p.1 == 2 && p.2.kind == 1 && o.sids.contains p.2.owner)).map Prod.fst).foldl
            (fun s a => s.freeTileAt a) s
          let s := o.ptTiles.foldl (fun s a => s.freeTileAt a) s
          let s := s.setObj Ob.pt_tiles o.fromHalf (s.obj Ob.pt_tiles o.fromHalf - o.ptTiles.length)
          { s with fab := { s.fab with outs := s.fab.outs.filter (fun (q : HandoverOut) => q != o) } }) s
        s.dropLease key))

/-- A leased tile as the lessor holds it: of a hand-over the tile at its T2 address, else what was written into the lease. -/
def State.leasedTile (s : State) (key off : Nat) (l : Lease) : Tile :=
  if l.kind == 1 then
    let half := ((s.fab.outs.find? (fun o => o.toDev == l.peer && o.lease == key % 65536)).map (fun o => o.fromHalf)).getD 0
    s.tileAt (t2Addr half (off % 11) (off / 11))
  else (mget s.fab.leaseTiles (2 ^ 32 * key + off)).getD freeTile

/-- T4_READ: the lessor answers with the tiles; an unknown lease or offset returns LEASE_UNKNOWN. While a kept lease's lessee is LOST any member
may read it. -/
def execT4Read (h : FabHdr) (lease off count : Nat) (s : State) : Out :=
  .next (s.routed h (.t4Read lease off count) true true (fun s =>
    let found := s.fab.leases.find? (fun p => !p.2.lessee && p.1 % 65536 == lease && (p.2.peer == h.src || p.2.kept))
    match found with
    | none => s.fabReply h (.refused St.LEASE_UNKNOWN)
    | some (key, l) =>
      if l.tiles < off + count then s.fabReply h (.refused St.LEASE_UNKNOWN)
      else s.fabReply h (.t4Data lease off ((List.range count).map (fun i => s.leasedTile key (off + i) l)))))

/-- T4_DATA: the tiles a lessee reads stand at their T4 addresses. -/
def execT4Data (h : FabHdr) (lease off : Nat) (tiles : List Tile) (s : State) : Out :=
  .next (s.routed h (.t4Data lease off tiles) false false (fun s =>
    let s := tiles.zipIdx.foldl (fun (s : State) p => s.setTile (t4Addr h.src (lease % 65536) (off + p.2)) p.1) s
    { s with fab := { s.fab with t4In := (h.tag, St.OK) :: s.fab.t4In } }))

/-- T4_WRITE: the lessor stores the tiles as they arrive and answers T4_DONE. -/
def execT4Write (h : FabHdr) (lease off : Nat) (tiles : List Tile) (s : State) : Out :=
  .next (s.routed h (.t4Write lease off tiles) true true (fun s =>
    let key := h.src * 65536 + lease % 65536
    match mget s.fab.leases key with
    | none => s.fabReply h (.refused St.LEASE_UNKNOWN)
    | some l =>
      if l.tiles < off + tiles.length then s.fabReply h (.refused St.LEASE_UNKNOWN)
      else if l.lessee then
        (tiles.zipIdx.foldl (fun (s : State) p => s.setTile (t4Addr h.src (lease % 65536) (off + p.2)) p.1) s).fabReply h (.t4Done lease St.OK)
      else
        let held := tiles.zipIdx.foldl (fun (m : SMap Tile) p => mput m (2 ^ 32 * key + off + p.2) p.1) s.fab.leaseTiles
        let s := { s with fab := { s.fab with leaseTiles := held } }
        s.fabReply h (.t4Done lease St.OK)))

/-- T4_DONE: a T4 write is complete; one that failed loses the tiles it carried. -/
def execT4Done (h : FabHdr) (lease status : Nat) (s : State) : Out :=
  .next (s.routed h (.t4Done lease status) false false (fun s =>
    let s := { s with fab := { s.fab with t4In := (h.tag, status) :: s.fab.t4In } }
    if status == St.OK then s
    else match s.fab.sent.find? (fun o => o.tag == h.tag && o.dst == h.src) with
      | some o => match o.body with
        | .t4Write l off tiles => (List.range tiles.length).foldl (fun s i => s.loseTile (t4Addr h.src l (off + i)) causeT4Lost) s
        | _ => s
      | none => s))

/-! ### Witness traffic (R479) -/

/-- WITNESS_APPEND: under the WITNESS lease that it lends the sender the witness stores the batch and answers with the highest position it holds. -/
def execWitnessAppend (h : FabHdr) (recs : List Rec) (s : State) : Out :=
  .next (s.routed h (.witnessAppend recs) true true (fun s =>
    let serve := s.obj Ob.fab_witness_serve 0
    let allowed := if s.sliced then s.sharesSlice h.src else serve / 2 ^ 31 == 1 && serve % 512 == h.src
    let lent := s.fab.leases.any (fun p => !p.2.lessee && p.2.peer == h.src && p.2.kind == 2)
    if !allowed || !lent then s.fabReply h (.refused St.LEASE_REFUSED)
    else
      let old := (mget s.fab.witnessed h.src).getD []
      let all := old ++ recs.filter (fun r => !old.any (fun q => q.pos == r.pos))
      let s := { s with fab := { s.fab with witnessed := mput s.fab.witnessed h.src all } }
      s.fabReply h (.witnessDurable (recs.foldl (fun m r => max m r.pos) 0))))

/-- WITNESS_DURABLE (R403, R479): what waited only for the witness proceeds; acceptances are returned by ACCEPT_DURABLE. -/
def execWitnessDurable (h : FabHdr) (pos : Nat) (s : State) : Out :=
  .next (s.routed h (.witnessDurable pos) false false (fun s =>
    if h.src != s.obj Ob.witness_peer 0 % 512 || s.obj Ob.witness_mode 0 != 1 then s
    else
      let w := s.fb.witness
      let half := posHalf pos
      let s := s.setWitness (if half == 0 then { w with ack0 := max w.ack0 pos, sentAt := none } else { w with ack1 := max w.ack1 pos, sentAt := none })
      s.runWaits half (fun x => !x.effect.isAccept)))

/-- WITNESS_TRIM (R410, R479): records below the lowest live position of their half go. -/
def execWitnessTrim (h : FabHdr) (pos : Nat) (s : State) : Out :=
  .next (s.routed h (.witnessTrim pos) false true (fun s =>
    let old := (mget s.fab.witnessed h.src).getD []
    let live := old.filter (fun r => posHalf r.pos != posHalf pos || decide (pos ≤ r.pos))
    { s with fab := { s.fab with witnessed := mput s.fab.witnessed h.src live } }))

/-! ### Plat agreement (R466-R472) -/

/-- Requests held for an epoch that is now committed take effect, in arrival order (R474). -/
def State.applyHeld (s : State) (ready : HeldReq → Bool) : State :=
  let go := s.fab.held.filter ready
  let s := { s with fab := { s.fab with held := s.fab.held.filter (fun (q : HeldReq) => !ready q) } }
  go.foldl (fun s q =>
    match (match q.body with
      | .sessionMsg st m => execSessionMsg q.hdr st m s
      | .leaseRequest k n => execLeaseRequest q.hdr k n s
      | .leaseGrant l k n => execLeaseGrant q.hdr l k n s
      | .leaseRecall l => execLeaseRecall q.hdr l s
      | .leaseRelease l => execLeaseRelease q.hdr l s
      | .t4Read l o n => execT4Read q.hdr l o n s
      | .t4Write l o ts => execT4Write q.hdr l o ts s
      | .witnessAppend rs => execWitnessAppend q.hdr rs s
      | .witnessTrim p => execWitnessTrim q.hdr p s
      | _ => .next s) with
    | .next t => t
    | _ => s) s

/-- A committed image is adopted, a device that is LEAVING is left out of the next one (R472), and the requests held for the epoch take effect. -/
def State.platCommitted (s : State) (img : PlatImage) : State :=
  let s := s.platAdopt img
  let s := if s.isCoordinator && img.devices.any (fun d => d.state == 3) then s.proposeDevices (fun ds => ds.filter (fun (d : PlatDevice) => d.state != 3))
    else s.admitJoins
  s.applyHeld (fun q => decide (q.hdr.epoch ≤ img.epoch) && (match q.body with
    | .sessionMsg _ _ => !s.fab.ins.any (fun i => i.slice == q.hdr.slice && !i.acked)
    | _ => true))

/-- PROPOSE (R469): PROPOSE written to `plat_command`; `img` is what `plat_source` gives. -/
def execPropose (w : Writer) (img : Option PlatImage) (s : State) : Out :=
  .next (s.command w Ob.plat_command 0 [1] (some Ob.plat_status) (fun s =>
    match img with
    | none => (s, St.PLAT_INVALID)
    | some img =>
      if s.isCoordinator then
        let c := s.proposalCheck img
        if c != St.OK then (s, c) else (s.openVote img (some w), St.OK)
      else if !s.platValid img then (s, St.PLAT_INVALID)
      else match s.coordinator with
        | none => (s, St.PLAT_BUSY)
        | some c => (s.fabSend c 0xFFFF (.platPropose 0 img), St.OK)))

/-- PLAT_PROPOSE (R469): a member accepts or ignores a ballot; ballot 0 is a proposal forwarded to the coordinator. -/
def execPlatPropose (h : FabHdr) (ballot : Nat) (img : PlatImage) (s : State) : Out :=
  .next (s.routed h (.platPropose ballot img) true false (fun s =>
    if ballot == 0 then
      let c := s.proposalCheck img
      if s.isCoordinator && c == St.OK then s.openVote img none else s.fabReply h (.refused c)
    else
      let prior := match s.fab.accepted with
        | some (b, i) => if i.epoch == img.epoch then some (b, i) else none
        | none => none
      if img.epoch != s.platEpoch + 1 || !s.platValid img || prior.any (fun p => decide (ballot < p.1)) || !s.hasMajority
          || !s.keepsClusters img then s
      else
        let s := { s with fab := { s.fab with accepted := some (ballot, img) } }
        s.fabReply h (.platAccept img.epoch ballot (prior.map Prod.snd))))

/-- Earliest takeover of a proposal's slices. -/
def firstTakeover (img : PlatImage) : Option Nat :=
  ((img.slices.filter (fun x => x.takeover != 0)).map (fun x => x.takeover)).foldl (fun m t => some (match m with
    | none => t
    | some x => min x t)) none

/-- PLAT_ACCEPT (R469, R470): counted; an earlier proposal a member accepted is proposed first; a majority commits. -/
def execPlatAccept (h : FabHdr) (epoch ballot : Nat) (prior : Option PlatImage) (s : State) : Out :=
  .next (s.routed h (.platAccept epoch ballot prior) false false (fun s =>
    match s.fab.vote with
    | none => s
    | some v =>
      if v.ballot != ballot || v.img.epoch != epoch || !s.members.contains h.src then s
      else match prior.filter (fun p => { p with ballot := 0 } != { v.img with ballot := 0 }) with
        | some p => s.openVote p v.writer
        | none =>
          let acc := if v.accepted.contains h.src then v.accepted else h.src :: v.accepted
          let s := { s with fab := { s.fab with vote := some { v with accepted := acc } } }
          let late := (firstTakeover v.img).any (fun t => decide (t - 1 ≤ s.frame))
          if majority s.members.length ≤ acc.length && !late && decide (s.tick ≤ v.started + s.obj Ob.plat_vote_ticks 0) then
            let all := (platMembers v.img ++ s.members).foldl (fun l d => if l.contains d || d == s.device then l else l ++ [d]) []
            let s := all.foldl (fun s d => s.fabSend d 0xFFFF (.platCommit v.img)) s
            (s.platCommitted v.img).setObj Ob.plat_status 0 St.OK
          else s))

/-- PLAT_COMMIT (R470): the image is adopted as the next epoch. -/
def execPlatCommit (h : FabHdr) (img : PlatImage) (s : State) : Out :=
  .next (s.routed h (.platCommit img) false false (fun s =>
    if s.platValid img && decide (s.platEpoch < img.epoch) then s.platCommitted img else s))

/-- A LEAVE that this device proposed is not committed in time: the proposal is over (R22, R470). -/
def State.leaveOver (s : State) : Bool :=
  let me := ((s.fab.plat.map (fun p => p.devices)).getD []).find? (fun d => d.device == s.device)
  s.fab.leaving.any (fun t => decide (t + s.obj Ob.plat_vote_ticks 0 < s.tick)) && me.any (fun d => d.state != 3)

/-- PLAT_VOTE_TIMEOUT (R22, R470): the vote is not decided in time, or not before the frame ahead of its earliest takeover; a LEAVE of this
device that has not been committed ends with it. -/
def execPlatVoteTimeout (s : State) : Out :=
  .next (let s := if s.leaveOver then ({ s with fab := { s.fab with leaving := none } } : State).setObj Ob.plat_status 0 St.PLAT_VOTE_TIMEOUT else s
    match s.fab.vote with
    | none => s
    | some v =>
      let late := (firstTakeover v.img).any (fun t => decide (t - 1 ≤ s.frame))
      if decide (v.started + s.obj Ob.plat_vote_ticks 0 < s.tick) || late then
        ({ s with fab := { s.fab with vote := none } } : State).setObj Ob.plat_status 0 St.PLAT_VOTE_TIMEOUT
      else s)

/-- PLAT_JOIN (R23, R472): the coordinator admits the device in the next epoch, or refuses it with PLAT_VERSION, where its range of majors leaves
out the domain's, or PLAT_INVALID. What the device advertises is kept: the domain runs what every member supports. -/
def execPlatJoin (h : FabHdr) (device majorLo majorHi minor features identity : Nat) (s : State) : Out :=
  .next (s.routed h (.platJoin device majorLo majorHi minor features identity) true false (fun s =>
    match s.fab.plat with
    | none => s
    | some p =>
      if !s.isCoordinator then s
      else if s.domainMajor < majorLo || majorHi < s.domainMajor then s.fabReply h (.refused St.PLAT_VERSION)
      else if 511 < device || p.devices.any (fun d => d.device == device && d.state == 1 && d.identity != identity) then
        s.fabReply h (.refused St.PLAT_INVALID)
      else
        let s := { s with fab := { s.fab with
          joins := s.fab.joins.filter (fun (j : Nat × Nat) => j.1 != device) ++ [(device, identity)], vers := mput s.fab.vers device (majorLo, majorHi, features) } }
        s.admitJoins))

/-- PLAT_FETCH (R470). -/
def execPlatFetch (h : FabHdr) (epoch : Nat) (s : State) : Out :=
  .next (s.routed h (.platFetch epoch) true false (fun s =>
    match s.fab.plat with
    | some p => if epoch ≤ p.epoch then s.fabReply h (.platImage p) else s
    | none => s))

/-- PLAT_IMAGE (R470): a fetched image of a newer epoch is adopted. -/
def execPlatImage (h : FabHdr) (img : PlatImage) (s : State) : Out :=
  .next (s.routed h (.platImage img) false false (fun s =>
    if s.platValid img && decide (s.platEpoch < img.epoch) then s.platCommitted img else s))

/-- PEER_REPORT (R466, R476). -/
def execPeerReport (h : FabHdr) (devices : List Nat) (s : State) : Out :=
  .next (s.routed h (.peerReport devices) false false (fun s => s.noteReport h.src devices))

/-! ### Hand-over (R473-R476) -/

/-- Hand-overs that can be acknowledged are; sessions with work revive, and what was held takes effect (R473, R474, R476). -/
def State.handoverDone (s : State) : State :=
  let (s, done) := s.handoverAck
  if done.isEmpty then s
  else
    let s := (done.flatMap (fun i => i.got)).foldl (fun s n =>
      match s.bySid n with
      | some y => if y.state == .reviving then s.startRevive y.index else s
      | none => s) s
    s.applyHeld (fun q => decide (q.hdr.epoch ≤ s.platEpoch) && done.any (fun i => i.slice == q.hdr.slice))

/-- HANDOVER (R473). -/
def execHandover (h : FabHdr) (x : Session) (recs : List Rec) (s : State) : Out :=
  .next (s.routed h (.handover x recs) false true (fun s =>
    match s.fab.ins.find? (fun i => i.slice == h.slice && i.fromDev == h.src && !i.acked) with
    | none => s
    | some i =>
      let s := if (mget s.fab.remote x.station).isNone then s.remoteStation x.station h.src else s
      s.receiveSession i x recs))

/-- DRAIN (R473). -/
def execDrain (h : FabHdr) (sessions : Nat) (s : State) : Out :=
  .next (s.routed h (.drain sessions) false true (fun s =>
    let s := { s with fab := { s.fab with ins := s.fab.ins.map (fun (i : HandoverIn) =>
      if i.slice == h.slice && i.fromDev == h.src && !i.acked then { i with drained := some sessions } else i) } }
    s.handoverDone))

/-- HANDOVER_ACK (R473). -/
def execHandoverAck (h : FabHdr) (s : State) : Out :=
  .next (s.routed h .handoverAck false true (fun s =>
    match s.fab.outs.find? (fun o => o.slice == h.slice && o.toDev == h.src && o.gone && !o.acked) with
    | none => s
    | some o => s.freeMoved o))

/-- MOVED (R474): the sender routes the request again, to the new owner. -/
def execMoved (h : FabHdr) (device epoch : Nat) (s : State) : Out :=
  .next (s.routed h (.moved device epoch) false false (fun s =>
    match s.fab.sent.find? (fun o => o.tag == h.tag && o.dst == h.src && o.fwd.isNone) with
    | none => s
    | some o => match o.body with
      | .sessionMsg st m =>
        let sid := ((s.routeOf st m.hdr.handle).map (fun r => r.sid)).getD 0xFFFFFFFF
        (s.setRoute ⟨m.hdr.handle, st, device, sid⟩).fabSend device o.slice (.sessionMsg st m)
      | _ => s))

/-- PLAT_DRAIN_TIMEOUT (R476): no DRAIN within `plat_drain_ticks` of the takeover boundary. -/
def execPlatDrainTimeout (s : State) : Out :=
  .next (let late := s.fab.ins.filter (fun i => i.drained.isNone && !i.acked && decide (i.started + s.obj Ob.plat_drain_ticks 0 < s.tick))
    late.foldl (fun s i =>
      let mine (q : HeldReq) : Bool := q.hdr.slice == i.slice && (match q.body with
        | .sessionMsg _ _ => true
        | _ => false)
      let s := (s.fab.held.filter mine).foldl (fun s q => s.refuseHeld q St.PLAT_DRAIN_TIMEOUT) s
      let s := { s with fab := { s.fab with held := s.fab.held.filter (fun (q : HeldReq) => !mine q), ins := s.fab.ins.filter (fun (j : HandoverIn) => j != i) } }
      (s.reportPeers [i.fromDev]).bump Ob.cnt_drain_timeout i.toHalf) s)

/-- PLAT_EPOCH_STALE (R474): requests of an epoch that was not committed within `plat_vote_ticks` of their arrival are refused. -/
def execPlatEpochStale (s : State) : Out :=
  .next (let stale (q : HeldReq) : Bool := decide (s.platEpoch < q.hdr.epoch) && decide (q.arrival + s.obj Ob.plat_vote_ticks 0 < s.tick)
    let gone := s.fab.held.filter stale
    let t := { s with fab := { s.fab with held := s.fab.held.filter (fun (q : HeldReq) => !stale q) } }
    gone.foldl (fun s q => s.refuseHeld q St.PLAT_EPOCH_STALE) t)

/-- A session's page-table tiles that lie in a lease move to its own T2. -/
def State.pullPt (s : State) (i : Nat) : State :=
  (s.modSess i (fun y => { y with pt := { y.pt with tiles := y.pt.tiles.filter (fun p => tierOf p.2 != 4) } })).growPt i

/-- HANDOVER_PULL (R476): the new owner pulls a session's leased tiles into its own T2 on class 3; with none left the lease is released. -/
def execHandoverPull (s : State) : Out :=
  .next (match s.fab.ins.find? (fun i => i.acked) with
    | none => s
    | some i =>
      let inLease (x : Session) : Bool := x.pt.entries.any (fun p => tierOf p.2.primary == 4
        && decide (p.2.primary / 2 ^ 36 % 2 ^ 16 = i.lease ∧ p.2.primary / 2 ^ 52 % 512 = i.fromDev))
      match (i.got.filterMap (fun n => s.bySid n)).find? inLease with
      | some x => (s.postMove x.half 48 (blockDesc 6 2 x false 0 (x.pt.blocks - 1)) none).1
      | none =>
        let s := { s with fab := { s.fab with ins := s.fab.ins.filter (fun (j : HandoverIn) => j != i) } }
        let s := i.got.foldl (fun s n => s.pullPt (sidIndex n)) s
        (s.fabSend i.fromDev i.slice (.leaseRelease i.lease)).dropLease (i.fromDev * 65536 + i.lease))

/-- RELEASE (R478): `fab_lease_command` frees a WITNESS or STORE lease that was kept for a LOST device. -/
def execRelease (w : Writer) (lease : Nat) (s : State) : Out :=
  .next (s.command w Ob.fab_lease_command 0 (toLE 4 (lease % 65536 + 65536)) none (fun s =>
    match s.fab.leases.find? (fun p => !p.2.lessee && p.1 % 65536 == lease % 65536 && p.2.kept) with
    | none => (s, St.LEASE_UNKNOWN)
    | some (key, l) =>
      let s := if l.kind == 2 then { s with fab := { s.fab with witnessed := mdel s.fab.witnessed l.peer } } else s
      (s.dropLease key, St.OK)))

/-- A device that wants to leave recalls what it lends, and moves what it borrows back into its own T2, or into T3 where the parking class sends it
(R472, R478). -/
def State.clearLeases (s : State) : State :=
  let s := (s.fab.leases.filter (fun p => !p.2.lessee && p.2.recalled.isNone && p.2.kind == 0)).foldl (fun s p =>
    ({ s with fab := { s.fab with leases := mput s.fab.leases p.1 { p.2 with recalled := some s.tick } } } : State).fabSend p.2.peer 0xFFFF
      (.leaseRecall (p.1 % 65536))) s
  s.eachSess (fun s x => if x.tilesT4 == 0 then s
    else s.produce x.half (32 + x.station % 16) (blockDesc 6 (if s.lowerTier x == 3 then 3 else 2) x false 0 (x.pt.blocks - 1)))

/-- COMPOSITION_WRITE (R472): STANDALONE makes a member propose LEAVE, refused with PLAT_BUSY while it is assigned or lends or borrows tiles;
SLICE_MEMBER makes it join. -/
def execCompositionWrite (w : Writer) (v : Nat) (s : State) : Out :=
  let owes : Bool := s.obj Ob.t4_tiles_lent 0 != 0 || s.obj Ob.t4_tiles_borrowed 0 != 0
  let t := s.command w Ob.composition 0 (toLE 1 v) none (fun s =>
    if v == 1 || s.fab.plat.isNone then (s.setObj Ob.composition 0 v |>.platView, St.OK)
    else if !s.assigns.isEmpty || owes then (s, St.PLAT_BUSY)
    else
      let s := { s with fab := { s.fab with leaving := some s.tick } }
      let leave (ds : List PlatDevice) : List PlatDevice := ds.map (fun d => if d.device == s.device then { d with state := 3 } else d)
      if s.isCoordinator then (s.proposeDevices leave, St.OK)
      else match s.coordinator, s.fab.plat with
        | some c, some p => (s.fabSend c 0xFFFF (.platPropose 0 { p with epoch := p.epoch + 1, devices := leave p.devices, handovers := [] }), St.OK)
        | _, _ => (s, St.OK))
  .next (if v == 0 && s.fab.plat.isSome && s.assigns.isEmpty && owes && s.writeCheck w Ob.composition 0x9100 1 (toLE 1 v) == St.OK then t.clearLeases
    else t)

/-! ### Members that are lost to the group (R149, R166, R447) -/

/-- HOLDOVER_TIMEOUT: no relock within 30 µs; the group treats the member as lost. -/
def execHoldoverTimeout (s : State) : Out :=
  .next (if s.datumState == 3 && decide (s.trv.datumSince + 750 ≤ s.tick) then
      let s := s.setDatum 0
      let s := ({ s with trv := { s.trv with lostMembers := (s.trv.lostMembers ++ [s.groupPos]).eraseDups } } : State).ckAbort 6
      if s.grouped then s.stopTraverse else s
    else s)

/-- BENCHMARK_TAKEOVER: the members at these positions are lost; the live member with the lowest position becomes the benchmark device. -/
def execBenchmarkTakeover (lost : List Nat) (s : State) : Out :=
  .next (if s.grouped then
      let s := { s with trv := { s.trv with lostMembers := (s.trv.lostMembers ++ lost).eraseDups } }
      let s := if lost.isEmpty then s else s.ckAbort 6
      let sl := ((s.assigns.find? (fun a => a.position == s.groupPos)).map (fun a => a.slice)).getD 0
      match s.allAssigns.find? (fun a => a.slice == sl && a.position == s.masterPos) with
      | some a => s.setObj Ob.benchmark_device 0 a.device
      | none => s
    else s)

end Sys2Proof.Machine
end

