-- ==== Sys2Proof/Machine/Durable.lean ====
section
/-! DEFINITION. What durability lets proceed (R10, R402, R403, R473). -/

namespace Sys2Proof.Machine

/-- ACCEPT_DURABLE (R10): the ACCEPT record at a position is durable on its copies, and acceptance is returned; the longest acknowledgement is
kept. -/
def execAcceptDurable (half pos : Nat) (s : State) : Out :=
  .next (if s.durable pos && (s.book half).waits.any (fun w => w.pos == pos && w.effect.isAccept) then
      let t := (((s.book half).recs.find? (fun r => r.pos == pos)).map (fun r => r.tick)).getD s.tick
      let s := s.setObj Ob.cnt_fb_ack_max_ticks half (max (s.obj Ob.cnt_fb_ack_max_ticks half) (s.tick - t))
      (s.runWaits half (fun w => w.pos == pos && w.effect.isAccept)).relayOut
    else s)

/-- RECORD_DURABLE (R403): the closed batches of a half are durable on primary and mirror, `flushed` is the highest position that a HOST witness's
flush covers, and what waited proceeds (acceptances are returned by ACCEPT_DURABLE). -/
def execRecordDurable (half flushed : Nat) (s : State) : Out :=
  let b := s.book half
  let s := s.setBook half { b with recs := b.recs.map (fun r => if r.stage == 1 then { r with stage := 2 } else r) }
  let w := s.fb.witness
  let s := if s.obj Ob.witness_mode 0 == 2 && s.obj Ob.witness_state 0 != 3 then
      { s with fb := { s.fb with witness := if half == 0 then { w with ack0 := max w.ack0 flushed, sentAt := if flushed == 0 then w.sentAt else none }
        else { w with ack1 := max w.ack1 flushed, sentAt := if flushed == 0 then w.sentAt else none } } }
    else s
  .next ((s.runWaits half (fun w => !w.effect.isAccept)).handoverDone.relayOut)

end Sys2Proof.Machine
end

