-- ==== Sys2Proof/Machine/Resets.lean ====
section
/-! DEFINITION. Resets and start-up (R540-R544, R566-R574, Table 17-10): what each kind of reset keeps, and how the tile comes up. -/

namespace Sys2Proof.Machine

/-! ### Objects that a reset keeps -/

/-- Counters, kept by a WARM reset and cleared by the others (Table 17-10). -/
def counterObjs : List ObjSpec :=
  [Ob.cnt_legacy_ignored, Ob.cnt_cal_step, Ob.stn_cnt_intake_drop, Ob.stn_cnt_events_lost, Ob.stn_cnt_hb_missed, Ob.cnt_owner_tag_drop, Ob.cnt_copy_first, Ob.cnt_t1_fallback,
   Ob.cnt_parity_repair, Ob.cnt_tile_lost, Ob.cnt_format_version, Ob.cnt_t3_t4_timeout, Ob.cnt_shadow_reclaim, Ob.cnt_pressure_park, Ob.cnt_t1_exhausted, Ob.cnt_queue_full,
   Ob.cnt_deadline_miss, Ob.cnt_kv_appends, Ob.cnt_kv_tiles_gathered, Ob.cnt_kv_blocks_skipped, Ob.cnt_kv_cleanup_rows, Ob.cnt_kv_blocks_returned, Ob.cnt_kv_gather_fault, Ob.cnt_kv_blocks_allocated]
  ++ [Ob.cnt_weight_shadow_reads, Ob.cnt_tokens_drawn, Ob.cnt_drafts_proposed, Ob.cnt_drafts_accepted, Ob.cnt_draft_full_reject, Ob.cnt_draft_len_drop, Ob.cnt_draft_stopped, Ob.cnt_draft_absent,
   Ob.cnt_draft_discarded, Ob.cnt_logit_nan, Ob.cnt_sample_degenerate, Ob.cnt_ring_entries, Ob.cnt_ring_text_ext, Ob.cnt_ring_hold, Ob.cnt_ring_suppressed, Ob.cnt_ring_regenerated,
   Ob.cnt_ring_index_invalid, Ob.cnt_hold_discarded, Ob.cnt_rate_limited, Ob.cnt_defer_ticks, Ob.cnt_rule_denied, Ob.cnt_step_deferred, Ob.cnt_gate_takeovers, Ob.cnt_fb_records]
  ++ [Ob.cnt_fb_bytes, Ob.cnt_fb_ack_max_ticks, Ob.cnt_already_accepted, Ob.cnt_records_replayed, Ob.cnt_sessions_rebuilt, Ob.cnt_positions_recomputed, Ob.cnt_compaction_tiles, Ob.cnt_fb_full,
   Ob.cnt_witness_lapse, Ob.cnt_reads_reconstructed, Ob.cnt_channel_failed, Ob.cnt_ck_tiles_written, Ob.cnt_ck_stage_full, Ob.cnt_ck_aborted, Ob.cnt_restore_fallback, Ob.stn_cnt_drafts_proposed,
   Ob.stn_cnt_drafts_accepted, Ob.stn_cnt_draft_full_reject, Ob.stn_cnt_draft_stopped, Ob.stn_cnt_ring_hold, Ob.cnt_sleep_aborted, Ob.cnt_power_limited_ticks, Ob.cnt_thermal_throttle_ticks, Ob.cnt_thermal_trip]
  ++ [Ob.cnt_glitch_reset_n, Ob.cnt_glitch_stake, Ob.cnt_cluster_wakes, Ob.cnt_wake_deferred, Ob.cnt_cluster_sleeps, Ob.cnt_holds, Ob.cnt_held_ticks, Ob.cnt_frame_overrun,
   Ob.cnt_slot_withdrawn, Ob.cnt_frame_void, Ob.cnt_variant_switch, Ob.cnt_degraded_switch, Ob.cnt_bucket_overflow, Ob.cnt_span_refused, Ob.cnt_datum_holdover, Ob.cnt_fec_corrected,
   Ob.cnt_fec_uncorrected, Ob.cnt_replays, Ob.cnt_hb_missed, Ob.cnt_port_down, Ob.cnt_lane_failed, Ob.cnt_link_narrowed, Ob.cnt_ttl_drop, Ob.cnt_plat_moved]
  ++ [Ob.cnt_handover_sessions, Ob.cnt_drain_timeout, Ob.cnt_plat_commits, Ob.cnt_sram_ce, Ob.cnt_sram_ue, Ob.cnt_parity, Ob.cnt_bundle_check, Ob.cnt_residue,
   Ob.cnt_watchdog, Ob.cnt_schedule_fault, Ob.cnt_core_fault, Ob.cnt_slot_void, Ob.cnt_sync_ops, Ob.cnt_sync_timeouts,
   Ob.cnt_closure_releases, Ob.cnt_closure_overrun, Ob.cnt_closure_excess, Ob.cnt_gate_expired, Ob.cnt_sync_rehome, Ob.cnt_notify_suppressed, Ob.cnt_cam_searches, Ob.cnt_cam_hits]
  ++ [Ob.cnt_cam_queue_full, Ob.cnt_cam_shift_writes, Ob.cnt_cam_rebalance, Ob.cnt_cam_parity, Ob.cnt_search_throttle_windows, Ob.cnt_vx_queries, Ob.cnt_vx_nodes_evaluated, Ob.cnt_vx_prefetch_tiles,
   Ob.cnt_vx_stepping_stones, Ob.cnt_vx_truncated, Ob.cnt_vx_retired, Ob.cnt_vx_advance_stall, Ob.cnt_prefix_cam_full, Ob.cnt_byte_fallback, Ob.cnt_text_starved, Ob.cnt_mask_cache_hit,
   Ob.cnt_mask_cache_miss, Ob.cnt_grammar_dead, Ob.cnt_stop_matches, Ob.stn_cnt_invalid_utf8, Ob.stn_cnt_truncated, Ob.stn_cnt_special_escaped, Ob.stn_cnt_grammar_dead, Ob.err_dropped]

/-- Counters of one half, by half. -/
def halfCounters : List ObjSpec :=
  [Ob.cnt_owner_tag_drop, Ob.cnt_copy_first, Ob.cnt_t1_fallback, Ob.cnt_parity_repair, Ob.cnt_tile_lost, Ob.cnt_format_version, Ob.cnt_t3_t4_timeout, Ob.cnt_shadow_reclaim,
   Ob.cnt_pressure_park, Ob.cnt_t1_exhausted, Ob.cnt_queue_full, Ob.cnt_deadline_miss, Ob.cnt_kv_appends, Ob.cnt_kv_tiles_gathered, Ob.cnt_kv_blocks_skipped, Ob.cnt_kv_cleanup_rows,
   Ob.cnt_kv_blocks_returned, Ob.cnt_kv_gather_fault, Ob.cnt_kv_blocks_allocated, Ob.cnt_weight_shadow_reads, Ob.cnt_tokens_drawn, Ob.cnt_drafts_proposed, Ob.cnt_drafts_accepted, Ob.cnt_draft_full_reject]
  ++ [Ob.cnt_draft_len_drop, Ob.cnt_draft_stopped, Ob.cnt_draft_absent, Ob.cnt_draft_discarded, Ob.cnt_logit_nan, Ob.cnt_sample_degenerate, Ob.cnt_ring_entries, Ob.cnt_ring_text_ext,
   Ob.cnt_ring_hold, Ob.cnt_ring_suppressed, Ob.cnt_ring_regenerated, Ob.cnt_ring_index_invalid, Ob.cnt_hold_discarded, Ob.cnt_rate_limited, Ob.cnt_defer_ticks, Ob.cnt_rule_denied,
   Ob.cnt_step_deferred, Ob.cnt_gate_takeovers, Ob.cnt_fb_records, Ob.cnt_fb_bytes, Ob.cnt_fb_ack_max_ticks, Ob.cnt_already_accepted, Ob.cnt_records_replayed, Ob.cnt_sessions_rebuilt]
  ++ [Ob.cnt_positions_recomputed, Ob.cnt_compaction_tiles, Ob.cnt_fb_full, Ob.cnt_witness_lapse, Ob.cnt_reads_reconstructed, Ob.cnt_channel_failed, Ob.cnt_ck_tiles_written, Ob.cnt_ck_stage_full,
   Ob.cnt_ck_aborted, Ob.cnt_restore_fallback, Ob.cnt_cluster_wakes, Ob.cnt_wake_deferred, Ob.cnt_cluster_sleeps, Ob.cnt_port_down, Ob.cnt_lane_failed, Ob.cnt_link_narrowed,
   Ob.cnt_ttl_drop, Ob.cnt_plat_moved, Ob.cnt_handover_sessions, Ob.cnt_drain_timeout, Ob.cnt_plat_commits, Ob.cnt_sync_ops, Ob.cnt_sync_timeouts, Ob.cnt_closure_releases]
  ++ [Ob.cnt_closure_overrun, Ob.cnt_closure_excess, Ob.cnt_gate_expired, Ob.cnt_sync_rehome, Ob.cnt_notify_suppressed, Ob.cnt_cam_searches, Ob.cnt_cam_hits, Ob.cnt_cam_queue_full,
   Ob.cnt_cam_shift_writes, Ob.cnt_cam_rebalance, Ob.cnt_cam_parity, Ob.cnt_search_throttle_windows, Ob.cnt_vx_queries, Ob.cnt_vx_nodes_evaluated, Ob.cnt_vx_prefetch_tiles, Ob.cnt_vx_stepping_stones,
   Ob.cnt_vx_truncated, Ob.cnt_vx_retired, Ob.cnt_vx_advance_stall, Ob.cnt_prefix_cam_full, Ob.cnt_byte_fallback, Ob.cnt_text_starved, Ob.cnt_mask_cache_hit, Ob.cnt_mask_cache_miss]
  ++ [Ob.cnt_grammar_dead, Ob.cnt_stop_matches]

/-- What every reset keeps beside the PERSIST objects: identity, calendar, firmware slots, keys, management log (Table 17-10). -/
def alwaysObjs : List ObjSpec :=
  [Ob.id_boot_count, Ob.id_last_reset, Ob.cal_valid, Ob.fw_floor, Ob.fw_slot_state, Ob.sec_state, Ob.tk_fingerprint, Ob.tk_state,
   Ob.mp_log_next]

/-- Objects of what stands in T2 or is measured afresh (R569, R477): slots, indexes, the plat, leases, capabilities and the sensors' readings. -/
def t2Objs : List ObjSpec :=
  [Ob.trv_state, Ob.trv_identity, Ob.mdl_state, Ob.mdl_load_count, Ob.mdl_digest, Ob.mdl_t2_stream_rate, Ob.vx_state, Ob.vx_kind,
   Ob.vx_metric, Ob.vx_dims, Ob.vx_degree, Ob.vx_capacity, Ob.vx_half, Ob.vx_station, Ob.vx_build_beam, Ob.vx_advance_ticks,
   Ob.vx_digest, Ob.vx_epoch, Ob.vx_del_seq, Ob.vx_live, Ob.vx_entry, Ob.vx_sweep_pos, Ob.vx_journal_pos, Ob.dict_state]
  ++ [Ob.dict_digest, Ob.gp_state, Ob.gp_digest, Ob.gp_model, Ob.gp_station, Ob.plat_device, Ob.plat_epoch, Ob.plat_state,
   Ob.plat_coordinator, Ob.plat_members, Ob.t4_tiles_lent, Ob.t4_tiles_borrowed, Ob.pt_tiles, Ob.pad_tiles, Ob.fb_used_h0, Ob.fb_used_h1,
   Ob.t2_system_rows, Ob.rs_restored_id, Ob.stn_cap_nonce,
   Ob.tj_sensor, Ob.tj_max_h0, Ob.tj_max_h1, Ob.hbm_temp, Ob.mp_temp_h0, Ob.mp_temp_h1, Ob.tile_power, Ob.vbat]


/-- The key lies in a row of the list. -/
def keyIn (l : List ObjSpec) (key : Nat) : Bool :=
  l.any (fun o => decide (o.base ≤ key / 256 ∧ key / 256 < o.base + o.count ∧ o.subLo ≤ key % 256 ∧ key % 256 ≤ o.subHi))

/-- Every object returns to its default but those kept, and each PERSIST object takes its newest record (R518, R566). -/
def State.resetObjects (s : State) (kept : List ObjSpec) : State :=
  let s := { s with dict := { s.dict with
    od := s.dict.od.filter (fun (p : Nat × Nat) => keyIn kept p.1)
    strings := s.dict.strings.filter (fun (p : Nat × Octets) => keyIn kept p.1)
    rwf := [], persistWaits := [] } }
  s.dict.flash.foldl (fun s p => s.putKey p.1 p.2) s

/-- The stop sets that persistence gives back are compiled again, where T2 was lost (R280). -/
def State.recompileStops (s : State) : State :=
  s.dict.flash.foldl (fun s p =>
    match objFind (p.1 / 256) (p.1 % 256), p.2 with
    | some (o, i, j), .octets v => if o.is Ob.stn_stop_set then s.compileStop i j v else s
    | _, _ => s) s

/-! ### Firmware and measurement (R540-R544) -/

/-- The configuration area as measured at boot. -/
def State.configArea (s : State) : Octets :=
  s.dict.flash.flatMap (fun p => toLE 4 p.1 ++ (match p.2 with
    | .num n => toLE 8 n
    | .octets o => o))

/-- The slot holds an image that passes the boot ROM's checks (R542). -/
def State.bootable (s : State) (n : Nat) : Bool :=
  let x := s.fwSlot n
  decide (2 ≤ x.state ∧ x.state ≤ 4) && (x.image.map (fun i => s.fwCheck i == St.OK)).getD false

/-- Log FW_FALLBACK and send it (R542, R546). -/
def State.fwFallback (s : State) (n : Nat) : State := (s.mpLogAdd Ev.FW_FALLBACK 0xFF 3 n []).tileEvent Ev.FW_FALLBACK n 0

/-- The slot runs: its header is reported, its digest measured into register 1, and a TRIAL image starts its time. -/
def State.runSlot (s : State) (n : Nat) : State :=
  let x := s.fwSlot n
  match x.image with
  | none => s
  | some i =>
    let m := s.mgmt
    let s := { s with mgmt := { m with running := some n, trialStart := s.tick,
                                       trialCount := if x.state == 3 then m.trialCount - 1 else m.trialCount } }
    let s := s.setObj Ob.sec_state 0 (if s.obj Ob.tk_state 0 == 2 then 1 else 0)
    ((s.setObj Ob.fw_version 0 i.version).setObj Ob.fw_svn 0 i.svn).measure St.OK 1 3 n (toLE 64 i.digest)

/-- No image runs (R542). -/
def State.recovery (s : State) : State :=
  let s := { s with mgmt := { s.mgmt with running := none } }
  ((((s.setObj Ob.fw_version 0 0).setObj Ob.fw_svn 0 0).setObj Ob.tile_power_state 0 4).setObj Ob.sec_state 0 2).mpLogAdd St.OK 0xFF 3 0xFF []

/-- The straps that were latched ask for RECOVERY (R574). -/
def State.strapRecovery (s : State) : Bool := s.obj Ob.strap_value 0 / 8 % 4 != 0

/-- The boot ROM (R542, R544, R546). `cold`: the measurement registers were cleared, so registers 0 and 2 are extended too. `recover`: the straps ask
for RECOVERY. -/
def State.boot (s : State) (cold recover : Bool) : State :=
  let s := if cold then
      (s.measure St.OK 0 3 0 (Config.shake256 (toLE 4 (s.obj Ob.rom_version 0) ++ Config.helperDigest) 32)).measure St.OK 2 3 0
        (Config.shake256 s.configArea 32)
    else s
  let s := s.setObj Ob.fw_floor 0 s.floorNow
  if recover then s.recovery
  else
    let n := s.mgmt.bootSlot
    let spent : Bool := (s.fwSlot n).state == 3 && s.mgmt.trialCount == 0
    let s := if spent then
        let s := s.setFwSlot n { s.fwSlot n with state := 5 }
        ({ s with mgmt := { s.mgmt with bootSlot := 1 - n } } : State).fwFallback n
      else s
    let n := s.mgmt.bootSlot
    if s.bootable n then s.runSlot n
    else if s.bootable (1 - n) then ((if spent then s else s.fwFallback n).runSlot (1 - n))
    else (if spent then s else s.fwFallback n).recovery

/-! ### What stood in T1, T2 and T3 (R110, R414, R569) -/

/-- Tiles of a tier are lost, those of T1 whose leaf entry holds a T2 copy excepted (R414). -/
def State.loseTier (s : State) (tier : Nat) : State :=
  ((s.tier.tiles.map Prod.fst).filter (fun a => tierOf a == tier)).foldl (fun s a => if tier == 1 then s.leaveStack a else s.loseTile a causeT3Lost) s

/-- A slot's state code after a reset that keeps T2: `ok` stays; anything else returns to EMPTY (R569). -/
def State.slotBack (s : State) (o : ObjSpec) (n ok : Nat) : State := if s.obj o n == ok then s else s.setObj o n 0

/-- Traverse slots after a reset: a LOADED or ACTIVE one stays LOADED, any other is EMPTY. -/
def State.traverseBack (s : State) (t : Nat) : State :=
  if s.obj Ob.trv_state t == 2 || s.obj Ob.trv_state t == 3 then (s.setObj Ob.trv_state t 2).setTrvSlot t { s.trvSlot t with activateAt := none, agreed := false }
  else
    let s := s.freeAll (s.trvSlot t).tiles
    ({ s with trv := { s.trv with slots := mdel s.trv.slots t } } : State).setObj Ob.trv_state t 0

/-- Model slots after a reset: a READY one keeps its tiles but those of T1, which reload; any other is EMPTY. -/
def State.modelBack (s : State) (m : Nat) : State :=
  if s.obj Ob.mdl_state m == 2 then
    let x := s.modelSlot m
    let s := s.setModelSlot m { x with tiles := x.tiles.filter (fun a => tierOf a != 1) }
    if x.home == 1 then s.setObj Ob.mdl_state m 1 else s
  else
    let s := s.freeAll (s.modelSlot m).tiles
    ({ s with tier := { s.tier with models := mdel s.tier.models m } } : State).setObj Ob.mdl_state m 0

/-- Vector index slots after a reset: a READY one stays, any other is EMPTY. -/
def State.indexBack (s : State) (v : Nat) : State :=
  if s.obj Ob.vx_state v == 2 then s
  else ({ s with srch := { s.srch with vx := mdel s.srch.vx v } } : State).setObj Ob.vx_state v 0

/-- Only the dictionaries and grammar programs whose slots are READY stay loaded; the mask caches and the shards in cluster stores are gone. -/
def State.textBack (s : State) : State :=
  { s with text := { s.text with dicts := s.text.dicts.filter (fun p => s.obj Ob.dict_state p.1 == 2)
                                 grammars := s.text.grammars.filter (fun p => s.obj Ob.gp_state p.1 == 2)
                                 cache0 := [], cache1 := [], ready0 := none, ready1 := none } }

/-- Traverse, model, dictionary, grammar and vector slots after a reset that keeps T2 (R569). -/
def State.slotsBack (s : State) : State :=
  let s := (s.forN 4 State.traverseBack).forN 16 State.modelBack
  let s := s.forN Ob.dict_state.count (fun s d => s.slotBack Ob.dict_state d 2)
  let s := s.forN Ob.gp_state.count (fun s g => s.slotBack Ob.gp_state g 2)
  (s.forN Ob.vx_state.count State.indexBack).textBack

/-- Weights at home in T1 are copied back from the shadow in their own half's T2, and their slots are LOADED (R110, R569). -/
def State.restoreModels (s : State) : State :=
  s.forN 16 (fun s m =>
    let x := s.modelSlot m
    if s.obj Ob.mdl_state m == 1 && x.loadWriter.isNone then
      let own := x.tiles.filter (fun a => tierOf a == 2 && addrHalf a == (s.tileAt a).locator % 2)
      let s := own.foldl (fun s a =>
        let t := s.tileAt a
        match s.allocT1 (t.locator % 2) ((t.locator + 7 * t.layer) % 128) t with
        | none => s
        | some (b, s) => s.setModelSlot m { s.modelSlot m with tiles := b :: (s.modelSlot m).tiles }) s
      s.setObj Ob.mdl_state m 2
    else s)

/-- Sessions as a reset finds them: no list names them, no row runs, a move under way starts again, what a session needs comes back from T2, and an
idle session whose T1 tiles are gone is parked (R73, R414). -/
def State.sessionsBack (s : State) : State :=
  let s := s.eachSess (fun s x => s.setSess { x with
    named := [], row := 0xFFFF, rows := 0, closedFrame := 0
    state := if x.state == .active then .queued else x.state
    stateSince := if x.state == .active then s.tick else x.stateSince })
  s.eachSess (fun s x =>
    if x.state == .reviving || x.state == .queued then s.startRevive x.index
    else if (x.state == .opened || x.state == .waiting) && s.kvTier == 1 && x.tilesT1 == 0 && decide (0 < x.tilesT2) then
      s.residency x.index 2 x.pt.sharedBlocks (x.pt.blocks - 1) 0
    else match x.parking with
      | none => s
      | some t => (s.setSess { x with parking := none }).startPark x.index t)

/-- Sequences that the ACCEPT records still give (R408). -/
def State.windowsBack (s : State) : State :=
  let held (p : Nat) : Bool := p != 0 && (s.book (posHalf p)).recs.any (fun r => r.pos == p)
  { s with fb := { s.fb with windows := s.fb.windows.map (fun (w : Nat × SeqWindow) =>
      let set := w.2.set.filter (fun q => held q.2)
      (w.1, { w.2 with set := set, high := (set.map Prod.fst).foldl max 0 })) } }

/-! ### Engines and the rest of a reset that keeps T2 -/

/-- Engines of a half with nothing queued; the intents have been repaired (R106). -/
def MoveEngines.cleared (e : MoveEngines) (keepLog : Bool) : MoveEngines :=
  { enginesEmpty with log := if keepLog then e.log else [], epoch := e.epoch }

/-- A half's associative engine, its tables kept in their T2 copies (R317) but for those of a traverse, which is no longer ACTIVE (R313), with nothing
waiting. -/
def CamHalf.cleared (c : CamHalf) : CamHalf := { camEmpty with entries := c.entries.filter (fun p => !camIsTraverse p.2), regions := c.regions }

/-- Synchronisation objects as the mirror holds them, those of the station pool (R369). -/
def State.syncBack (s : State) : State :=
  let keep := s.sync.mirror.filter (fun p => !s.trvRange p.1)
  { s with sync := { s.sync with objs := keep, mirror := keep, updates := [], past := [], waits := [] } }

/-- Frames after a reset: idle frames of 25,000 ticks (R145). -/
def State.framesBack (s : State) (keepLog : Bool) : State :=
  let f := s.tick / 25000
  { s with
    frame := f, frameStart := f * 25000
    trv := { s.trv with
      active := none, stopped := false, lists := [], inForce := none, rowTab := [], requests := [], decided := [], plans := [], again := false, held := none, heldTicks := 0
      holdLog := if keepLog then s.trv.holdLog else [], voidFrames := [], met := [], issued := [], gathered := [], found := [], searched := []
      copies := 0, syncStart := [], variants := [], degraded := [], groupLen := 0, lostMembers := [], outcomes := [], ahead := [], sent := [], datumSince := s.tick } }

/-- The error recorder after a reset: kept by WARM, its spill log alone by RESET_N (Table 17-10). -/
def ErrRecorder.afterReset (e : ErrRecorder) (kind : Nat) : ErrRecorder :=
  if kind == 3 then e else ⟨[], [], [], [], [], e.spill, 0⟩

/-- A RESET_N (2) or WARM (3) reset: T2 and what stands in it stay, T1 and the rest go (R566-R569). What recovery finds lost is told to the stations
once they are back (R501). -/
def State.restartKeep (s : State) (kind : Nat) : State :=
  let warm : Bool := kind == 3
  let active := if s.trv.stopped then none else s.trv.active
  let s := ({ s with stn := ⟨[], [], false, []⟩ } : State).ckAbort 1
  let s := s.trv.lists.foldl State.withdraw s
  let s := ((s.framesBack warm).loseTier 1).loseTier 3
  let s := (s.setEng 0 ((s.eng 0).cleared warm)).setEng 1 ((s.eng 1).cleared warm)
  let s := s.resetObjects (alwaysObjs ++ t2Objs ++ (if warm then Ob.strap_value :: counterObjs else []))
  let s := (s.setObj Ob.id_last_reset 0 kind).slotsBack
  let s := (s.setCam 0 (s.cam 0).cleared).setCam 1 (s.cam 1).cleared
  let s := { s with
    core := ⟨[], [], [], [], 0, [], [], [], [], 0⟩
    shape := ⟨[], [], [], ⟨[], none, 0, 0⟩, ⟨[], none, 0, 0⟩, 0, 0⟩
    ses := if warm then s.ses else { s.ses with handleCamFull := [0, 0], handleStale := [0, 0], descCrc := [0, 0], modelAbsent := [0, 0] }
    ck := { s.ck with witnessAgain := s.obj Ob.witness_mode 0 != 0 }
    fab := { s.fab with ports := [], laneFails := [], vote := none, joins := [], reports := [], absent := [], held := [], sent := [], t4In := [] }
    fb := { s.fb with witness := ⟨0, 0, 0, 0, false, 0, none, 0⟩, channels := [], half0Lost := false, half1Lost := false
                      err := s.fb.err.afterReset kind }
    mgmt := { s.mgmt with assocs := [], caps := [], mailLast := none, attNonce := List.replicate 32 0, attReport := []
                          pcrs := if warm then s.mgmt.pcrs else List.replicate 8 (List.replicate 32 0) }
    pwr := { powerEmpty with since := if warm then s.pwr.since else s.tick, hwTrip := s.pwr.hwTrip, again := active, strapped := warm } }
  let s := s.syncBack
  ((((s.rollForward 0).rollForward 1).windowsBack).sessionsBack)

/-- A WARM reset (R566): the firmware runs again at once, on the straps already taken. -/
def State.restartWarm (s : State) : State := (s.restartKeep 3).boot false s.strapRecovery

/-- A power-on reset (R566, R419, R539): everything but the calendar, the PERSIST objects, the keys, the firmware slots, the management log and what lies
outside the tile goes, and the datum counter starts from 0. -/
def State.restartPowerOn (s : State) : State :=
  let r := State.reset
  let m := s.mgmt
  let n := s.obj Ob.id_boot_count 0 + 1
  let t : State := { r with
    pending := s.pending, free := s.free + 2
    dict := { s.dict with persistWaits := [] }
    mgmt := { mgmtEmpty with
      keys := m.keys, slotA := m.slotA, slotB := m.slotB, bootSlot := m.bootSlot, trialCount := m.trialCount, bootFloor := m.bootFloor
      vbatFloor := m.vbatFloor, mpLog := m.mpLog, calTb := 0, calSb := m.calendar, calEb := 0, calendar := m.calendar, opdunOut := m.opdunOut
      mailOut := m.mailOut, ndAnswers := m.ndAnswers }
    ses := { r.ses with hash0 := { r.ses.hash0 with seed := Config.pick s.free }, hash1 := { r.ses.hash1 with seed := Config.pick (s.free + 1) } }
    ck := { r.ck with catA := s.ck.catA, catB := s.ck.catB, stored := s.ck.stored } }
  let t := t.resetObjects alwaysObjs
  let t := { t with fb := { t.fb with book0 := { bookEmpty with tiles := t.obj Ob.fb_tiles_h0 0 }
                                      book1 := { bookEmpty with tiles := t.obj Ob.fb_tiles_h1 0 } } }
  let t := (t.setObj Ob.t2_system_rows 0 t.systemRows).recompileStops
  ((t.setObj Ob.id_last_reset 0 1).setObj Ob.id_boot_count 0 n).setObj Ob.mp_log_next 0 0

/-! ### HALF h (R570) -/

/-- Half h owns a live session or lies in the mask of the ACTIVE traverse, and is not lost (R570). -/
def State.halfBusy (s : State) (h : Nat) : Bool :=
  let lost : Bool := if h == 0 then s.fb.half0Lost else s.fb.half1Lost
  let inMask : Bool := (s.activeRun.map (fun d => d.clusterMask / 2 ^ (256 * h) % 2 ^ 256 != 0)).getD false
  !lost && (s.sessions.any (fun x => x.half == h && x.state.live) || inMask)

/-- Counters of one half return to 0. -/
def State.clearHalfCounters (s : State) (h : Nat) : State := halfCounters.foldl (fun s o => s.setObj o h 0) s

/-- A tile of the half is gone; images and weights come back from the other half's copies (R110, R569). -/
def State.halfTiles (s : State) (h : Nat) : State :=
  ((s.tier.tiles.filter (fun p => (tierOf p.1 == 1 || tierOf p.1 == 2) && addrHalf p.1 == h && !(tierOf p.1 == 2 && (p.2.kind == 9 || p.2.kind == 2)))).map
    Prod.fst).foldl (fun s a => s.loseTile a causeStateLost) s

/-- The counts of fenced cores and clusters, as the maps stand. -/
def State.recountFences (s : State) : State :=
  (s.setObj Ob.cnt_cores_fenced 0 ((List.range 4096).filter (fun k => mapBit (s.str Ob.core_fence_map 0) k)).length).setObj Ob.cnt_clusters_fenced 0
    ((List.range 512).filter s.clusterFenced).length

/-- A HALF reset takes away what the half holds: its sessions, records, moves, weights and vector indexes. -/
def State.halfForgets (s : State) (h : Nat) : State :=
  let b := s.book h
  let s := s.halfTiles h
  let s := { s with ses := { s.ses with tab := s.ses.tab.filter (fun p => p.2.half != h) } }
  let s := s.setHash h { s.hash h with buckets := [], live := 0, tombs := 0 }
  let kept := b.recs.filter (fun r => s.sessions.any (fun x => x.half != h && x.sid == r.sid))
  let nb : Book := if kept.isEmpty then { bookEmpty with next := b.next, tiles := b.tiles } else { b with recs := kept, waits := [] }
  let s := ((s.setBook h nb).forgetOwed h).setBook (1 - h) { s.book (1 - h) with mirrorAbsent := true }
  let s := s.tileEvent Ev.FIELD_BOOK_DEGRADED 0 0
  let s := s.setEng h enginesEmpty
  let s := s.forN 16 (fun s m =>
    let x := s.modelSlot m
    if s.obj Ob.mdl_state m == 2 && x.home == 1 && x.tiles.any (fun a => (mget s.tier.tiles a).isNone) then
      (s.setModelSlot m { x with tiles := x.tiles.filter (fun a => tierOf a != 1) }).setObj Ob.mdl_state m 1
    else s)
  ((s.srch.vx.map Prod.fst).filter (fun v => s.obj Ob.vx_half v == h)).foldl State.vxLose s

/-- The half's engine, memory channels, counters and recorder entries start again. -/
def State.halfParts (s : State) (h : Nat) : State :=
  let other := s.cam (1 - h)
  let s := s.setCam h { camEmpty with regions := other.regions, entries := other.entries.filter (fun p => p.1 < other.regions.rule + other.regions.trv) }
  let s := (s.forN 12 (fun s c => (s.setObjAt Ob.t2_channel_state 0 (12 * h + c) 0).setChannel (12 * h + c) ⟨[], 0, false, none⟩)).forN 4
    (fun s k => s.setObjAt Ob.t1_stack_state 0 (4 * h + k) 0)
  let s := s.clearHalfCounters h
  let e := s.fb.err
  s.setErr { e with sources := e.sources.filter (fun p => sourceHalf p.1 != h)
                    queue0 := if h == 0 then [] else e.queue0, queue1 := if h == 1 then [] else e.queue1
                    ring := if h == 0 then [] else e.ring, spill := if h == 0 then [] else e.spill }

/-- Its clusters and synchronisation objects start again. -/
def State.halfClusters (s : State) (h : Nat) : State :=
  let mine (n : Nat) : Bool := n / 256 == h
  { s with
    core := { s.core with cores := s.core.cores.filter (fun p => !mine (p.1 / 8)), clusterStores := s.core.clusterStores.filter (fun p => !mine p.1)
                          clusterFlight := s.core.clusterFlight.filter (fun p => !mine p.1)
                          clusterReads := s.core.clusterReads.filter (fun p => !mine p.1) }
    sync := { s.sync with objs := s.sync.objs.filter (fun (p : Nat × SyncObj) => syncHalf p.1 != h) }
    trv := { s.trv with holdLog := if h == 0 then [] else s.trv.holdLog }
    fb := { s.fb with half0Lost := if h == 0 then false else s.fb.half0Lost, half1Lost := if h == 1 then false else s.fb.half1Lost }
    text := { s.text with cache0 := if h == 0 then [] else s.text.cache0, cache1 := if h == 1 then [] else s.text.cache1
                          ready0 := if h == 0 then none else s.text.ready0, ready1 := if h == 1 then none else s.text.ready1 }
    pwr := { s.pwr with asleep := s.pwr.asleep.filter (fun p => !mine p.1), waking := s.pwr.waking.filter (fun p => !mine p.1)
                        sleeps := s.pwr.sleeps.filter (fun p => !mine p.1), copying := (s.pwr.copying ++ [h]).eraseDups } }

/-- Its initial objects stand and its fences end. -/
def State.halfFences (s : State) (h : Nat) : State :=
  let s := (s.sync.mirror.filter (fun (p : Nat × SyncObj) => syncHalf p.1 == h && !s.trvRange p.1)).foldl (fun (s : State) p => s.setSync p.1 p.2) s
  let s := (List.range 256).foldl (fun s k =>
    let n := 256 * h + k
    let s := s.setStr Ob.cluster_fence_map 0 (mapSet (s.str Ob.cluster_fence_map 0) n false)
    (List.range 8).foldl (fun s j => s.setStr Ob.core_fence_map 0 (mapSet (s.str Ob.core_fence_map 0) (8 * n + j) false)) s) s
  (s.recountFences).setObj Ob.id_last_reset 0 4

/-- VOLATILE objects that a reset of half 0 returns to their defaults (R518): the writable ones but those of the slots, and what the last command of
each kind answered. -/
def halfObjs : List ObjSpec :=
  [Ob.fb_adopt_source, Ob.fb_adopt_device, Ob.fb_adopt_status, Ob.ck_id, Ob.ck_frame, Ob.ck_status, Ob.rs_source, Ob.rs_status, Ob.rs_refused, Ob.gl_entries,
   Ob.gl_takeover, Ob.gl_status, Ob.t2_channel_status, Ob.tn_select, Ob.ar_status, Ob.stn_t3_extent, Ob.stn_sync_select, Ob.stn_sync_status,
   Ob.err_src_select, Ob.fw_source, Ob.fw_status, Ob.att_state, Ob.mp_log_select, Ob.pd_select]
  ++ [Ob.cd_select, Ob.power_status, Ob.wake_cause, Ob.stake_user, Ob.plat_source, Ob.plat_status, Ob.plat_read_offset, Ob.trv_source, Ob.trv_status,
   Ob.trv_activate_frame, Ob.mdl_source, Ob.mdl_status, Ob.fence_status, Ob.cam_read_addr, Ob.vx_source, Ob.vx_status, Ob.dict_source, Ob.dict_status,
   Ob.gp_source, Ob.gp_status, Ob.witness_status, Ob.stn_cap_state]

/-- The management processor starts again with half 0 (R518, R566, R570): its objects return to their defaults or take their newest records, the
extents end with theirs, and what it held of clients, capabilities and reports is gone. -/
def State.managementAgain (s : State) : State :=
  let s := s.loseTier 3
  let s := { s with
    dict := { s.dict with od := s.dict.od.filter (fun (p : Nat × Nat) => !keyIn halfObjs p.1)
                          strings := s.dict.strings.filter (fun (p : Nat × Octets) => !keyIn halfObjs p.1), rwf := [], persistWaits := [] }
    mgmt := { s.mgmt with assocs := [], caps := [], mailLast := none, attNonce := List.replicate 32 0, attReport := [] }
    stn := { s.stn with heldHellos := [] } }
  (s.dict.flash.foldl (fun s p => s.putKey p.1 p.2) s).recompileStops

/-- A HALF reset: the half's T1 and T2 are re-initialised, and the other half's book is then copied into it as a mirror. Records of sessions that were
rebuilt in the other half stay in its mirror. -/
def State.restartHalf (s : State) (h : Nat) : State :=
  let s := (((s.halfForgets h).halfParts h).halfClusters h).halfFences h
  if h == 0 then
    let s := s.managementAgain
    let s := (s.stn.st.map Prod.fst).foldl (fun s n =>
      let s := (s.dropIntake n).setStationState n 0
      s.setStation n { s.station n with reads := [], out := (s.station n).out.map (fun (w : HostWrite) => { w with issued := false }) }) s
    s.boot false s.strapRecovery
  else s

/-- Every mirror is present again: FIELD_BOOK_RESTORED with a CURRENT witness (R407, R437). -/
def State.mirrorBack (s : State) : State := if s.obj Ob.witness_state 0 == 2 then s.tileEvent Ev.FIELD_BOOK_RESTORED 0 0 else s

/-- The mirror copies and the weights of re-initialised halves are complete: they end at the next boundary. -/
def State.copiesDone (s : State) : State :=
  let s := if s.pwr.copying.isEmpty then s
    else (s.pwr.copying.foldl (fun s h => s.setBook (1 - h) { s.book (1 - h) with mirrorAbsent := false }) s).mirrorBack
  let s := s.setPwr { s.pwr with copying := [] }
  if s.stn.inService then s.restoreModels else s

end Sys2Proof.Machine
end

