-- ==== Sys2Proof/Machine/Recovery.lean ====
section
/-! DEFINITION. Loss of a half, of the Chain and of a whole tile (R407, R415, R420, R425, R426, R431). -/

namespace Sys2Proof.Machine

/-! ### A half is lost (R425) -/

/-- Clusters of a half are fenced, without an event for each; their stores go, and the station objects in them move (R370). -/
def State.fenceHalf (s : State) (h : Nat) : State :=
  let mine (n : Nat) : Bool := n / 256 == h
  let s := (List.range 256).foldl (fun s k => s.setStr Ob.cluster_fence_map 0 (mapSet (s.str Ob.cluster_fence_map 0) (256 * h + k) true)) s
  let s := { s with
    core := { s.core with cores := s.core.cores.filter (fun p => !mine (p.1 / 8)), clusterStores := s.core.clusterStores.filter (fun p => !mine p.1)
                          clusterFlight := s.core.clusterFlight.filter (fun p => !mine p.1)
                          clusterReads := s.core.clusterReads.filter (fun p => !mine p.1) }
    pwr := { s.pwr with asleep := s.pwr.asleep.filter (fun p => !mine p.1), waking := s.pwr.waking.filter (fun p => !mine p.1)
                        sleeps := s.pwr.sleeps.filter (fun p => !mine p.1), deferred := s.pwr.deferred.filter (fun p => !mine p.1) }
    sync := { s.sync with waits := s.sync.waits.filter (fun w => !mine (w.core / 8)) } }
  let s := ((s.sync.objs.filter (fun (p : Nat × SyncObj) => syncHalf p.1 == h)).map Prod.fst).foldl State.rehome s
  s.recountFences

/-- Links of a half go down: its fabric ports, its UCIe modules, its DDR5 channels. -/
def State.cutHalf (s : State) (h : Nat) : State :=
  let s := s.forN 12 (fun s c => s.setObjAt Ob.t2_channel_state 0 (12 * h + c) 1)
  let s := s.forN 8 (fun s p => s.portDown (8 * h + p))
  s.forN 4 (fun s m => s.ucieDown (4 * h + m))

/-- What stood in the half's T1 and T2 is gone: tiles, and the parts of model slots among them. -/
def State.dropHalfTiles (s : State) (h : Nat) : State :=
  let gone (a : Nat) : Bool := (tierOf a == 1 || tierOf a == 2) && addrHalf a == h
  { s with tier := { s.tier with
      tiles := s.tier.tiles.filter (fun p => !gone p.1)
      models := s.tier.models.map (fun (p : Nat × ModelSlot) => (p.1, { p.2 with tiles := p.2.tiles.filter (fun a => !gone a) })) } }

/-- The live sessions of a half, prefixes first. -/
def State.halfSessions (s : State) (h : Nat) : List Session :=
  let xs := s.sessions.filter (fun x => x.half == h && x.state.live)
  xs.filter (fun x => x.isPrefix) ++ xs.filter (fun x => !x.isPrefix)

/-- Traverse slot to fall back on: LOADED, its clusters all in the surviving half (R425). -/
def State.fallbackSlot (s : State) (h : Nat) : Option Nat :=
  let t := s.obj (if h == 0 then Ob.fallback_h0_lost else Ob.fallback_h1_lost) 0
  let fits : Bool := ((s.trvSlot t).image.map (fun i => i.hdr.clusterMask / 2 ^ (256 * h) % 2 ^ 256 == 0)).getD false
  if t < 4 && s.obj Ob.trv_state t == 2 && fits then some t else none

/-- The sessions of a lost half move to the other, each rebuilt from its records (R427). -/
def State.rebuildAway (s : State) (h : Nat) (cons : List (Nat × Nat)) : State :=
  (s.halfSessions h).foldl (fun s x =>
    match s.sess x.index with
    | none => s
    | some y =>
      let at' := ((cons.find? (fun p => p.1 == y.sid)).map Prod.snd).getD y.ringRead
      (s.moveRebuilt y (1 - h) (s.recsOf h y.sid) at' (fun _ => s.bySid y.prefixSid)).1) s

/-- A half is lost: fenced, its sessions rebuilt in the other from its book's mirror, the fallback traverse activated at the boundary that ends the
void frame. `cons` gives the consumer index of each rebuilt session's ring. -/
def State.halfLost (s : State) (h : Nat) (cons : List (Nat × Nat)) : State :=
  let o := 1 - h
  let s := { s with fb := { s.fb with half0Lost := s.fb.half0Lost || h == 0, half1Lost := s.fb.half1Lost || h == 1 } }
  let s := s.ckAbort 2
  let s := s.trv.lists.foldl State.withdraw s
  let frame := s.voidAt s.tick
  let s := ((s.voidFrame s.tick).noticeFault).tileEvent Ev.HALF_LOST h 0
  let s := ((s.reportOpen (0x25A + h) clsPartFailed).fenceHalf h).cutHalf h
  let s := (s.setBook o { s.book o with mirrorAbsent := true }).tileEvent Ev.FIELD_BOOK_DEGRADED 0 0
  let b := s.book h
  let s := s.setBook h { b with recs := b.recs.filter (fun r => r.stage == 2), waits := [] }
  let s := s.forgetOwed h
  let s := s.rebuildAway h cons
  let s := (((s.srch.vx.map Prod.fst).filter (fun v => s.obj Ob.vx_half v == h)).foldl State.vxLose s).dropHalfTiles h
  let s := (s.setCam h { camEmpty with regions := (s.cam h).regions }).setEng h { enginesEmpty with epoch := (s.eng h).epoch }
  let s := if h == 0 then { s with mgmt := { s.mgmt with assocs := [] } } else s
  match s.fallbackSlot h with
  | some t => s.setTrvSlot t { s.trvSlot t with activateAt := some (frame + 1), agreed := true }
  | none => s.stopTraverse.tileEvent Ev.FALLBACK_ABSENT h 0

/-- HALF_LOST (R425): half h is lost while the other stands. -/
def execHalfLost (h : Nat) (cons : List (Nat × Nat)) (s : State) : Out :=
  .next (if h < 2 && !s.fb.half0Lost && !s.fb.half1Lost then s.halfLost h cons else s)

/-- CHAIN_HEARTBEAT_LOSS (R407, R420): three Chain heartbeats missed, or an uncorrectable Chain block; half 1 fences itself, and it is as lost. -/
def execChainHeartbeatLoss (cons : List (Nat × Nat)) (s : State) : Out :=
  .next (if s.fb.chainDown || s.fb.half0Lost then s
    else
      let s := { s with fb := { s.fb with chainDown := true } }
      if s.fb.half1Lost then s else s.halfLost 1 cons)

/-- CHAIN_RETURN (R407, R431): half 1 sends the reports it kept, and the mirrors are present again. -/
def execChainReturn (s : State) : Out :=
  .next (if s.fb.chainDown then
      let kept := s.fb.err.kept
      let s := ({ s with fb := { s.fb with chainDown := false } } : State).setErr { s.fb.err with kept := [] }
      let s := kept.foldl State.recordErr s
      ((s.setBook 0 { s.book 0 with mirrorAbsent := false }).setBook 1 { s.book 1 with mirrorAbsent := false }).mirrorBack
    else s)

/-! ### Adoption of a lost tile (R426) -/

/-- A page table with nothing in it. -/
def ptEmpty : PageTable := ⟨0, 0, 0, 0, 0, 0xFFFFFFFF, 0, [], []⟩

/-- One session of the lost tile is rebuilt here under a new number from its records, which are appended to this tile's book; it keeps RING_HOLD
until its station names its ring; a prefix has none. -/
def State.adoptSession (s : State) (rs : List Rec) : State :=
  match rs with
  | [] => s
  | r :: _ =>
    let h := posHalf r.pos
    match s.takeIndex h with
    | none => s
    | some (i, g, s) =>
      let sid := 2 ^ 24 * g + i
      let (s, again) := s.recsAgain h sid 0 rs
      let s := s.rebuildDesc { newSession i g r.station h s.tick ptEmpty with refGone := true } i g h false (fun hd => s.prefixBy r.station hd)
        (again.zip rs |>.map (fun p => { p.1 with sid := p.2.sid }))
      match s.sess i with
      | none => s
      | some _ =>
        let s := s.modSess i (fun y => { y with
          ringHold := !y.isPrefix, adoptedHold := !y.isPrefix, suppressing := y.fbMode == 1 && decide (y.chProduced < y.chDelivered) })
        let s := match s.bySid sid with
          | none => s
          | some y => s.enterHandles y
        s.reviveRebuilt i (((s.sess i).map (fun y => y.ringWrite)).getD 0)

/-- Session numbers in records, prefixes' first, each once. -/
def sidsOf (rs : List Rec) : List Nat :=
  let ids (p : Rec → Bool) : List Nat := ((rs.filter p).map (fun r => r.sid)).eraseDups
  let isPfx (r : Rec) : Bool := match r.body with
    | .accept _ _ _ _ _ _ _ _ _ _ _ m => (match m.body with
      | .prefixRegister _ => true
      | _ => false)
    | _ => false
  let pfx := ids isPfx
  pfx ++ (ids (fun r => r.sid != 0xFFFFFFFF)).filter (fun n => !pfx.contains n)

/-- The lost device's slices are asked for in the next epoch: its assignments become this device's. -/
def State.adoptSlices (s : State) : State :=
  let d := s.obj Ob.fb_adopt_device 0
  match s.fab.plat with
  | none => s
  | some p =>
    let img : PlatImage := { p with
      epoch := p.epoch + 1
      devices := p.devices.map (fun (x : PlatDevice) => if x.device == d then { x with state := 2 } else x)
      assigns := p.assigns.map (fun (a : PlatAssign) => if a.device == d then { a with device := s.device } else a)
      handovers := [] }
    if s.isCoordinator then (if s.fab.vote.isSome then s else s.openVote img none)
    else match s.coordinator with
      | none => s
      | some c => s.fabSend c 0xFFFF (.platPropose 0 img)

/-- The WITNESS and STORE leases that this tile has kept for the lost device are freed once the adoption is complete (R478). -/
def State.adoptLeases (s : State) : State :=
  let d := s.obj Ob.fb_adopt_device 0
  let s := (s.fab.leases.filter (fun p => !p.2.lessee && p.2.kept && p.2.peer == d)).foldl (fun s p => s.dropLease p.1) s
  { s with fab := { s.fab with witnessed := mdel s.fab.witnessed d } }

/-- The adoption: the records that are no session's, every session, the sequence windows, what the CONFIG records set, and the slice. -/
def State.adopt (s : State) (recs : List Rec) : State :=
  let others := recs.filter (fun r => r.sid == 0xFFFFFFFF)
  let s := (s.recsAgain 0 0xFFFFFFFF 0 others).1
  let s := (sidsOf recs).foldl (fun s n => s.adoptSession (recs.filter (fun r => r.sid == n))) s
  let s := others.foldl (fun s r =>
    match r.body with
    | .config index sub _ _ value => s.applyConfig index sub value
    | _ => s) s
  s.adoptSlices.adoptLeases

/-- ADOPT (R426): written to `fb_adopt_command`; `o` are the payloads of the JOURNAL tiles that a read of the witness copy delivers, none where it
cannot be read. Every tile, part and record is checked (R398). -/
def execAdopt (w : Writer) (o : Option Octets) (s : State) : Out :=
  .next (s.command w Ob.fb_adopt_command 0 [1] (some Ob.fb_adopt_status) (fun s =>
    match o.bind parseBook with
    | some recs => ((s.adopt recs).setObj Ob.fb_adopt_status 0 St.OK, St.OK)
    | none => (s.setObj Ob.fb_adopt_status 0 St.ADOPT_REFUSED, St.OK)))

end Sys2Proof.Machine
end

