-- ==== Sys2Proof/Machine/Power.lean ====
section
/-! DEFINITION. Meanings of the commands of chapter 17: deep sleep, the wake and power governors, thermal limits, resets, start-up, the STAKE pins
and the supplies. -/

namespace Sys2Proof.Machine

/-! ### The datum and deep sleep (R4, R556-R558) -/

/-- DATUM_TICK (R4, R147): the 64-bit counter advances, and what deep sleep waits for is timed. -/
def execDatumTick (s : State) : Out := .next (({ s with tick := (s.tick + 1) % 2 ^ 64 } : State).rebuildTick).quietTick

/-- A command of `power_command` that the tile's state must fit: refused with POWER_BUSY where it does not; else its write completes and it takes
effect (R583). -/
def State.powerCommand (s : State) (w : Writer) (code : Nat) (fits : Bool) (go : State → State) : State :=
  let c := s.writeCheck w Ob.power_command Ob.power_command.base Ob.power_command.subLo [BitVec.ofNat 8 code]
  if c ≠ St.OK then s.reply w c
  else if fits then go ((s.setObj Ob.power_status 0 St.OK).reply w St.OK)
  else (s.setObj Ob.power_status 0 St.POWER_BUSY).reply w St.POWER_BUSY

/-- DEEP_SLEEP (R556). -/
def execDeepSleep (w : Writer) (s : State) : Out :=
  .next (s.powerCommand w 1 (s.powerState == 0 && s.deepReady w) State.enterDeep)

/-- AUTONOMOUS_DEEP_SLEEP (R556): the conditions have held for `deep_sleep_ticks`. -/
def execAutonomousDeepSleep (s : State) : Out :=
  let held : Bool := match s.pwr.quietSince with
    | some t => decide (t + s.obj Ob.deep_sleep_ticks 0 ≤ s.tick)
    | none => false
  .next (if s.powerState == 0 && s.powerMode 0 == 1 && s.powerMode 1 == 1 && s.obj Ob.deep_sleep_ticks 0 != 0 && held && s.deepReady .device then
      s.enterDeep
    else s)

/-- DEEP_SLEEP_WAKE (R558): 1 UCIE, 2 OPDUN, 3 a STAKE pin of `stake_wake_mask`, 4 the recorded deadline less 20 ms. -/
def execDeepSleepWake (cause pin : Nat) (s : State) : Out :=
  let due : Bool := match cause with
    | 1 => true
    | 2 => true
    | 3 => decide (pin < 8) && s.obj Ob.stake_wake_mask 0 / 2 ^ pin % 2 == 1
    | 4 => match s.pwr.deadline with
      | some d => decide (d ≤ s.tick + 500000)
      | none => false
    | _ => false
  .next (if due then s.wakeBy cause else s)

/-! ### Wake governor (R552, R559) -/

/-- WAKE_WINDOW (R559): up to n wakes start in the order of R12, and sleep entries take what is left. -/
def execWakeWindow (half : Nat) (s : State) : Out :=
  .next (if half < 2 ∧ s.tick % 25 = 0 ∧ s.deep = false ∧ s.pwr.held = false then
      let n := if s.obj Ob.pwr_levers 0 / 2 % 2 == 1 then 0 else s.wakeAllowance half
      let wants := s.wakeOrder half s.wakeWanted
      let go := wants.take n
      let stay := (wants.drop n).filter (fun q => (mget s.pwr.deferred q).isNone)
      let s := s.setPwr { s.pwr with
        waking := go.foldl (fun m q => mput m q (s.tick + 50)) s.pwr.waking
        deferred := stay.foldl (fun m q => mput m q ()) s.pwr.deferred }
      let s := (s.addObj Ob.cnt_cluster_wakes half go.length).addObj Ob.cnt_wake_deferred half stay.length
      let s := if stay.isEmpty then s else s.pulse (1 + half)
      let down := (s.wakeOrder half (fun q => (mget s.pwr.sleeps q).isSome && !s.asleep q && s.clusterIdle q)).take (n - go.length)
      (down.foldl State.sleepCluster s).addObj Ob.cnt_cluster_sleeps half down.length
    else s)

/-- CLUSTER_WAKE_DONE (R552): 50 ticks after its admission. -/
def execClusterWakeDone (n : Nat) (s : State) : Out :=
  .next (match mget s.pwr.waking n with
    | some t =>
      if t ≤ s.tick then
        s.setPwr { s.pwr with waking := mdel s.pwr.waking n, asleep := mdel s.pwr.asleep n, deferred := mdel s.pwr.deferred n
                              idle := mdel s.pwr.idle n }
      else s
    | none => s)

/-! ### Power governor (R561, R562) -/

/-- Hottest junction sensor in 1/65,536 °C. -/
def State.hottest (s : State) : Int := max (signed 32 (s.obj Ob.tj_max_h0 0)) (signed 32 (s.obj Ob.tj_max_h1 0))

/-- Twenty times the effective sustained limit, in 1/65,536 W: the temperature above 95 °C, at most 10 °C, lowers it by 5 % a degree. -/
def State.sustained20 (s : State) : Nat :=
  let t := ((max 0 (min (10 * 65536) (s.hottest - 95 * 65536)) : Int)).toNat
  s.obj Ob.pwr_limit_sustained 0 * (20 * 65536 - t)

/-- Twenty times each limit and the measure against it: 0 the mean over 1 s, 1 the mean over 25 ticks against the peak, 2 that mean against the
sustained limit once a run has lasted 8 ms, and until it has fallen far enough (R562). -/
def State.limits (s : State) (r : PowerReading) : List (Nat × Nat × Nat) :=
  [(0, r.mean1s, s.sustained20), (1, r.mean25, s.obj Ob.pwr_limit_peak 0 * 65536 * 20)]
    ++ (if 200000 ≤ s.pwr.overRun || s.pwr.limiting.contains 2 then [(2, r.mean25, s.sustained20)] else [])

/-- One more lever (R562): the search caps first, under THERMAL+POWER_CAP, then wakes, then classes 3, 2 and 1. -/
def State.pullLever (s : State) : State :=
  let l := s.obj Ob.pwr_levers 0
  let cap := min (s.cam 0).cap (s.cam 1).cap
  if s.obj Ob.search_throttle 0 == 1 && decide (16 < cap) then
    ((s.setCam 0 { s.cam 0 with cap := max 16 (cap - 8) }).setCam 1 { s.cam 1 with cap := max 16 (cap - 8) }).setObj Ob.pwr_levers 0 (l / 2 * 2 + 1)
  else match [1, 2, 3, 4].find? (fun b => l / 2 ^ b % 2 == 0) with
    | some b => s.setObj Ob.pwr_levers 0 (l + 2 ^ b)
    | none => s

/-- Release one lever, in reverse order. -/
def State.releaseLever (s : State) : State :=
  let l := s.obj Ob.pwr_levers 0
  match [4, 3, 2, 1].find? (fun b => l / 2 ^ b % 2 == 1) with
  | some b => s.setObj Ob.pwr_levers 0 (l - 2 ^ b)
  | none =>
    let cap := min 64 (min (s.cam 0).cap (s.cam 1).cap + 8)
    if l % 2 == 0 then s
    else
      ((s.setCam 0 { s.cam 0 with cap := cap }).setCam 1 { s.cam 1 with cap := cap }).setObj Ob.pwr_levers 0 (if cap == 64 then l - 1 else l)

/-- Every lever is applied. -/
def State.leversOut (s : State) : Bool :=
  s.obj Ob.pwr_levers 0 / 2 == 15 && (s.obj Ob.search_throttle 0 == 0 || decide (min (s.cam 0).cap (s.cam 1).cap ≤ 16))

/-- POWER_GOVERNOR_TICK (R561, R562): the reading of this tick. -/
def execPowerGovernorTick (r : PowerReading) (s : State) : Out :=
  let s := s.setObj Ob.tile_power 0 (r.now % 2 ^ 32)
  let s := s.setPwr { s.pwr with overRun := if s.sustained20 < 20 * r.mean25 then s.pwr.overRun + 1 else 0 }
  let ls := s.limits r
  let reached := (ls.filter (fun x => decide (x.2.2 ≤ 20 * x.2.1))).map Prod.fst
  let kept := s.pwr.limiting.filter (fun i => ls.any (fun x => x.1 == i && decide (97 * x.2.2 ≤ 2000 * x.2.1)))
  let limiting := (kept ++ reached).eraseDups
  let out := s.leversOut
  let s := s.setPwr { s.pwr with limiting := limiting }
  let s := if limiting.isEmpty then (s.setPwr { s.pwr with told := false }).releaseLever else s.pullLever
  .next (match ls.find? (fun x => decide (x.2.2 < 20 * x.2.1)) with
    | some x =>
      if out then
        let s := s.bump Ob.cnt_power_limited_ticks 0
        if s.pwr.told then s else (s.setPwr { s.pwr with told := true }).tileEvent Ev.POWER_LIMITED (x.2.2 / 20 / 65536) 0
      else s
    | none => s)

/-! ### Thermal limits (R563) -/

/-- A reading in steps of 0.25 °C as a Q16.16 value. -/
def quarterQ (q : Int) : Nat := twos 32 (q * 16384)

/-- Highest of a list of readings; none is −273 °C. -/
def hottestOf (l : List Int) : Int := l.foldl max (-1092)

/-- Consecutive ticks of each junction sensor at or above 110 °C, this tick's readings counted (Table 17-7). -/
def State.tripRuns (s : State) (x : Sensors) : SMap Nat :=
  (x.junctions.take 128).zipIdx.filterMap (fun p => if 440 ≤ p.1 then some (p.2, (mget s.pwr.tripRun p.2).getD 0 + 1) else none)

/-- THERMAL_CHECK (R536, R563): the sensors of this tick. -/
def execThermalCheck (x : Sensors) (s : State) : Out :=
  let h0 := hottestOf (x.junctions.take 64)
  let h1 := hottestOf ((x.junctions.drop 64).take 64)
  let was := s.hottest
  let s := (x.junctions.take 128).zipIdx.foldl (fun (s : State) p => s.setObjAt Ob.tj_sensor (p.2 / 64) (p.2 % 64) (quarterQ p.1)) s
  let s := (s.setObj Ob.tj_max_h0 0 (quarterQ h0)).setObj Ob.tj_max_h1 0 (quarterQ h1)
  let s := (x.stackTemps.take 8).zipIdx.foldl (fun (s : State) p => s.setObjAt Ob.hbm_temp 0 p.2 (quarterQ p.1)) s
  let s := ((s.setObj Ob.mp_temp_h0 0 (quarterQ x.diode0)).setObj Ob.mp_temp_h1 0 (quarterQ x.diode1)).setObj Ob.vbat 0 (x.vbat % 2 ^ 32)
  let top := max h0 h1
  let hot : Bool := decide (380 < top)
  let s := if hot then
      let s := s.bump Ob.cnt_thermal_throttle_ticks 0
      if was ≤ 95 * 65536 then
        let k := x.junctions.idxOf top
        s.tileEvent Ev.THERMAL_THROTTLE (k / 64) (k % 64)
      else s
    else s
  let s := s.setObj Ob.thermal_state 0 (if s.pwr.held then 2 else if hot then 1 else 0)
  let runs := (x.stackTemps.take 8).zipIdx.map (fun p => (p.2, if 420 ≤ p.1 then (mget s.pwr.stackRun p.2).getD 0 + 1 else 0))
  let s := s.setPwr { s.pwr with tripRun := s.tripRuns x, stackRun := runs }
  let s := (runs.filter (fun p => p.2 == 25000)).foldl (fun s p => s.stackFail p.1) s
  .next (if s.pwr.held && !hot then
      ((s.setPwr { s.pwr with held := false }).setObj Ob.thermal_state 0 0).boot false s.strapRecovery
    else s)

/-- THERMAL_TRIP (R563): a sensor that has stood at 110 °C for 25 ticks holds the tile in a warm reset. -/
def execThermalTrip (s : State) : Out :=
  .next (match s.pwr.tripRun.find? (fun p => decide (25 ≤ p.2)) with
    | some p =>
      if s.pwr.held then s
      else
        let s := ((s.tileEvent Ev.THERMAL_TRIP p.1 0).bump Ob.cnt_thermal_trip 0).restartKeep 3
        (s.setPwr { s.pwr with held := true }).setObj Ob.thermal_state 0 2
    | none => s)

/-- HW_TRIP (R563): at 120 °C the comparator asserts HW_TRIP_N until power-on. -/
def execHwTrip (s : State) : Out :=
  .next (if 120 * 65536 ≤ s.hottest then s.setPwr { s.pwr with hwTrip := true } else s)

/-! ### Resets and start-up (R566-R574) -/

/-- POWER_ON (R566). -/
def execPowerOn (s : State) : Out := .next s.restartPowerOn

/-- RESET_N (R566, R568): the straps are sampled again before the boot ROM runs. -/
def execResetN (s : State) : Out := .next (s.restartKeep 2)

/-- WARM_RESET (R566). -/
def execWarmReset (w : Writer) (s : State) : Out := .next (s.powerCommand w 2 (!s.pwr.held) State.restartWarm)

/-- RESET_HALF0 (R570). -/
def execResetHalf0 (w : Writer) (s : State) : Out := .next (s.powerCommand w 3 (!s.halfBusy 0) (fun s => s.restartHalf 0))

/-- RESET_HALF1 (R570). -/
def execResetHalf1 (w : Writer) (s : State) : Out := .next (s.powerCommand w 4 (!s.halfBusy 1) (fun s => s.restartHalf 1))

/-- MANAGEMENT_WATCHDOG (R566): a warm reset. -/
def execManagementWatchdog (s : State) : Out := .next s.restartWarm

/-- STRAP_SAMPLE (R574, Table 17-13): 5,000 ticks after RESET_N rises the straps are latched; the tile position serves `plat_device` until it is first
written, and the boot source chooses RECOVERY. Bit n of `levels`: STAKE[n] is driven low. -/
def execStrapSample (levels : Nat) (s : State) : Out :=
  .next (if s.pwr.strapped = false ∧ s.pwr.since + 5000 ≤ s.tick then
      let v := levels % 256
      let src := v / 8 % 4
      let s := (s.setPwr { s.pwr with strapped := true }).setObj Ob.strap_value 0 v
      let s := if (mget s.dict.flash (objKey Ob.plat_device 0 0)).isNone then s.setObj Ob.plat_device 0 (v / 32) else s
      let s := if 2 ≤ src then s.report 0x287 clsProtocol 0x1181 else s
      s.boot true (src != 0)
    else s)

/-- PIN_GLITCH (R573): a pulse below its filter's width. -/
def execPinGlitch (resetN : Bool) (s : State) : Out := .next (s.bump (if resetN then Ob.cnt_glitch_reset_n else Ob.cnt_glitch_stake) 0)

/-! ### STAKE pins (R575-R577) -/

/-- A pulse field is still held. -/
def State.pulsing (s : State) (f : Nat) : Bool := (mget s.pwr.pulses f).any (fun t => decide (s.tick < t))

/-- Bits as a number, lowest first. -/
def packBits : List Bool → Nat
  | [] => 0
  | b :: r => (if b then 1 else 0) + 2 * packBits r

/-- STAKE[6:0] in slot n of a frame (Table 17-14). -/
def State.stakeField (s : State) : Nat → Nat
  | 0 => packBits [s.fb.err.sources.any (fun p => p.2.first.any (fun e => e.cls == clsUncorrected || e.cls == clsPartFailed)),
      s.fb.half0Lost, s.fb.half1Lost, (List.range 24).any (fun c => s.t2State c == 1), (List.range 8).any (fun k => s.objAt Ob.t1_stack_state 0 k == 1),
      ofLE (s.str Ob.core_fence_map 0) != 0 || ofLE (s.str Ob.cluster_fence_map 0) != 0, s.powerState == 4]
  | 1 => packBits [decide (95 * 65536 < s.hottest), decide (105 * 65536 ≤ s.hottest),
      (List.range 8).any (fun k => decide (95 * 65536 < signed 32 (s.objAt Ob.hbm_temp 0 k))), s.obj Ob.pwr_levers 0 != 0, s.pwr.held]
  | 2 => packBits [s.obj Ob.witness_state 0 != 2, s.obj Ob.witness_state 0 == 3, decide (8 ≤ s.fbDegraded)]
  | 3 => packBits [s.pulsing 0, s.obj Ob.plat_state 0 == 3, s.obj Ob.plat_state 0 == 2]
  | 4 => packBits [s.pulsing 1, s.pulsing 2, s.pulsing 3]
  | 5 => (if s.pwr.lastFrame then 2 else s.powerState % 8) + (if s.attached.isEmpty then 0 else 8) + s.obj Ob.id_last_reset 0 % 8 * 16
  | 6 => packBits [s.pwr.live, s.obj Ob.datum_state 0 == 2]
  | _ => s.obj Ob.stake_user 0 % 128

/-- STAKE_SLOT (R557, R575): the pins of the slot that begins at this tick; the last frame before deep sleep says DEEP_SLEEP, and the pins are then
released. -/
def execStakeSlot (s : State) : Out :=
  let slot := s.tick % 1000 / 125
  .next (if s.tick % 125 ≠ 0 ∨ s.deep ∨ s.tick - s.tick % 1000 < s.pwr.since + 5250 then s
    else if slot = 0 ∧ s.powerState = 1 ∧ s.pwr.lastFrame then s.deepNow
    else
      let s := if slot = 0 then s.setPwr { s.pwr with live := !s.pwr.live, lastFrame := s.powerState == 1 } else s
      s.setPwr { s.pwr with pins := s.stakeField slot + (if slot = 0 then 128 else 0) })

/-! ### Supplies and the modules' power (R555, R580, R581) -/

/-- SUPPLY_FAULT (R580). -/
def execSupplyFault (x : Supply) (cons : List (Nat × Nat)) (s : State) : Out :=
  .next (match x with
    | .vddCore h => if h < 2 && !s.fb.half0Lost && !s.fb.half1Lost then s.halfLost h cons else s
    | .vaux => s.restartPowerOn
    | .hbm => s.forN 8 State.stackFail
    | .ddr5 => s.forN 24 State.failChannel
    | .serdes => s.forN 16 (fun s p => (s.portReport p clsPartFailed).portDown p)
    | .ucie => s.forN 8 (fun s m => (s.reportOpen (ucieSource m) clsPartFailed).ucieDown m))

/-- A wake of the half was admitted in the window of this tick. -/
def State.wakeWindowBusy (s : State) (half : Nat) : Bool :=
  s.pwr.waking.any (fun p => p.1 / 256 == half && decide (s.tick - s.tick % 25 + 50 ≤ p.2))

/-- CORE_VOLTAGE_STEP (R581): 5 mV at most every 5 µs, within 0.65-0.85 V, never in a window that admits wakes. -/
def execCoreVoltageStep (half : Nat) (up : Bool) (s : State) : Out :=
  let v := if half == 0 then s.pwr.core0 else s.pwr.core1
  let t := if half == 0 then s.pwr.step0 else s.pwr.step1
  let v' := if up then v + 5 else v - 5
  .next (if half < 2 ∧ t + 125 ≤ s.tick ∧ 650 ≤ v' ∧ v' ≤ 850 ∧ s.wakeWindowBusy half = false then
      s.setPwr (if half == 0 then { s.pwr with core0 := v', step0 := s.tick } else { s.pwr with core1 := v', step1 := s.tick })
    else s)

/-- UCIE_MODULE_SLEEP (R555, Table 17-3): a module that no ATTACHED station uses has been idle for 1 ms and enters L1. -/
def execUcieModuleSleep (m : Nat) (s : State) : Out :=
  let x := s.ucie m
  .next (if m < 8 ∧ s.powerMode (m / 4) = 1 ∧ x.state = 2 ∧ x.lastUse + 25000 ≤ s.tick
      ∧ s.attached.all (fun n => (s.station n).module != m) then s.setUcie m { x with state := 3 }
    else s)

/-! ### The field network and the calendar's crystal (R521, R539) -/

/-- The management processor serves the field network. -/
def State.mgmtUp (s : State) : Bool := s.pwr.strapped && !s.pwr.held && !s.fb.half0Lost

/-- NEIGHBOUR_DISCOVERY (R521): answered. -/
def execNeighbourDiscovery (s : State) : Out :=
  .next (if s.mgmtUp then { s with mgmt := { s.mgmt with ndAnswers := s.mgmt.ndAnswers + 1 } } else s)

/-- CALENDAR_OSCILLATOR_STOPPED (R539). -/
def execCalendarOscillatorStopped (s : State) : Out := .next s.calendarLost

end Sys2Proof.Machine
end

