-- ==== Sys2Proof/Machine/Frame.lean ====
section
/-! DEFINITION. FRAME_BOUNDARY (R150): a step frame ends and the next one begins. -/

namespace Sys2Proof.Machine

/-- RWF writes take effect (R516); a new witness mode, or one that must be established again, follows (R405, R406, R449). -/
def State.takeRwf (s : State) : State :=
  let old := if s.ck.witnessAgain then 0 else s.obj Ob.witness_mode 0
  let ws := s.dict.rwf
  let s := { s with dict := { s.dict with rwf := [] }, ck := { s.ck with witnessAgain := false } }
  let s := ws.foldl (fun s p => match objFind (p.1 / 256) (p.1 % 256) with
    | none => s
    | some (o, i, j) => s.putValue o i j p.2) s
  s.witnessMode old

/-- What the boundary brings into force before the new frame starts: CAM images, witness mode, snapshots, the platform image. -/
def State.boundaryState (s : State) : State := (((s.camBoundary).witnessBoundary).snapStart).platBoundary (s.frame + 1)

/-- What follows the start of the new frame. -/
def State.boundaryTail (s : State) : State := ((((((s.cancelsLater).sleepBoundary).copiesDone).markRecovered).leaseExpire).handoverDone).relayOut

/-- The frame may end now: it is over, no hold is in force, and the tile runs. -/
def State.boundaryDue (s : State) : Bool :=
  decide (s.frameEnd ≤ s.tick) && s.trv.held.isNone && !s.deep && !s.pwr.held && s.pwr.strapped

/-- Everything a boundary does, in order; the next frame begins where this one ends, whatever its own length. -/
def State.boundary (s : State) (cons : List (Nat × Nat)) (outs : List RowOutcome) : State :=
  let t := ((((s.endFrame cons outs).takeRwf).boundaryState).startFrame s.frameEnd).boundaryTail
  if s.grouped && s.runningHdr.isSome then t.lockSend (.outcomes s.frame (rowOutcomes s t)) else t

/-- FRAME_BOUNDARY (R150). `descs`: descriptors that the boundary read from T2, by index, with the octets that the read delivered (R47); `cons`: the
consumer index read from each output ring that needs room, by session number (R303); `outs`: the row outcomes that the other members' home devices
sent before it (R157). -/
def execFrameBoundary (descs : List (Nat × Octets)) (cons : List (Nat × Nat)) (outs : List RowOutcome) (s : State) : Out :=
  .next (if s.boundaryDue then (s.readDescs descs).boundary cons outs else s)

end Sys2Proof.Machine
end

