-- ==== Sys2Proof/Machine/Keys.lean ====
section
/-! DEFINITION. Meanings of the security and calendar commands of chapter 16: capabilities, trusted keys, firmware slots, attestation and the
calendar's second. -/

namespace Sys2Proof.Machine

/-- A write of an object of chapter 16 that is no command object and acts at once: checked, carried out, recorded, completed. -/
def State.actingWrite (s : State) (w : Writer) (o : ObjSpec) (i : Nat) (v : Octets) (go : State → State × Nat) : State :=
  s.command w o i v none go

/-- STN_CAP_STAGE (R529): a privileged station stages capability bytes; verification starts at 3,437. -/
def execStnCapStage (w : Writer) (ss : Nat) (part : Octets) (s : State) : Out :=
  .next (s.actingWrite w Ob.stn_cap_stage (ss % 256) part (fun s => (s.capStage w (ss % 256) part, St.OK)))

/-- A claim of an OWNED tile (R527): COMMIT of slot 0 by a privileged station that holds no capability for it. -/
def State.lateClaim (s : State) (w : Writer) (k : Nat) : Bool :=
  match w with
  | .station st _ => k == 0 && s.privileged st && s.obj Ob.sec_state 0 == 1 && !s.capCovers w 0x7100 3
  | _ => false

/-- TK_COMMIT (R527, R532): activates a trusted-key slot. -/
def execTkCommit (w : Writer) (k : Nat) (s : State) : Out :=
  .next (if s.lateClaim w (k % 16) then s.reply w St.KEY_SLOT_STATE
    else s.command w Ob.tk_command (k % 16) [1] none (fun s => s.keyCommit w (k % 16)))

/-- TK_CLEAR (R527, R532): empties a trusted-key slot. -/
def execTkClear (w : Writer) (k : Nat) (s : State) : Out :=
  .next (s.command w Ob.tk_command (k % 16) [2] none (fun s => s.keyClear w (k % 16)))

/-- A command of `fw_command` (R546): `fw_status` holds a refusal, and at its end the outcome. -/
def State.fwCommand (s : State) (w : Writer) (code : Nat) (go : State → State × Nat) : State :=
  s.command w Ob.fw_command 0 [BitVec.ofNat 8 code] (some Ob.fw_status) go

/-- STAGE (R546): copies an image from `fw_source` into the slot that is not running; `o` is what a read of it delivers, none where it
cannot be read. -/
def execStage (w : Writer) (o : Option Octets) (s : State) : Out :=
  .next (s.fwCommand w 1 (fun s => s.fwStage (writerSource w) o))

/-- FW_CHUNK_WRITE (R546): places image data at an offset. -/
def execFwChunkWrite (w : Writer) (v : Octets) (s : State) : Out :=
  .next (s.actingWrite w Ob.fw_chunk 0 v (fun s => s.fwChunk v))

/-- FW_CMD_VERIFY (R542, R546): checks what was staged. -/
def execFwCmdVerify (w : Writer) (s : State) : Out :=
  .next (s.fwCommand w 2 (fun s => s.fwVerify (writerSource w)))

/-- FW_ACTIVATE (R546). -/
def execFwActivate (w : Writer) (s : State) : Out := .next (s.fwCommand w 3 (fun s => s.fwActivate (writerSource w)))

/-- CONFIRM (R543, R546). -/
def execConfirm (w : Writer) (s : State) : Out := .next (s.fwCommand w 4 (fun s => s.fwConfirm (writerSource w)))

/-- ERASE (R546). -/
def execErase (w : Writer) (s : State) : Out := .next (s.fwCommand w 5 (fun s => s.fwErase (writerSource w)))

/-- FW_TRIAL_TIMEOUT (R546): a TRIAL image that wrote no CONFIRM within `fw_trial_ticks` of its start makes the tile reset warm. -/
def execFwTrialTimeout (s : State) : Out :=
  .next (match s.mgmt.running with
    | some n =>
      if (s.fwSlot n).state = 3 ∧ s.mgmt.trialStart + s.obj Ob.fw_trial_ticks 0 ≤ s.tick ∧ s.pwr.held = false then s.restartWarm else s
    | none => s)

/-- ATT_NONCE_WRITE (R545): starts an attestation report. -/
def execAttNonceWrite (w : Writer) (nonce : Octets) (s : State) : Out :=
  .next (s.actingWrite w Ob.att_nonce 0 nonce (fun s => s.attNonce nonce))

/-- ATTEST_READY (R545): the report is signed within 2 ms. -/
def execAttestReady (s : State) : Out := .next s.attReady

/-- CAL_SET (R539): the calendar and the mapping step at the next second edge. -/
def execCalSet (w : Writer) (v : Nat) (s : State) : Out :=
  .next (s.actingWrite w Ob.cal_set 0 (toLE 8 v) (fun s => ({ s with mgmt := { s.mgmt with calPending := some (v % 2 ^ 64, w) } }, St.OK)))

/-- CALENDAR_SECOND (R538, R539): the datum is latched and the mapping anchored again. -/
def execCalendarSecond (s : State) : Out := .next s.calendarEdge

end Sys2Proof.Machine
end

