-- ==== Sys2Proof/Machine/Issue.lean ====
section
/-! DEFINITION. Issue of core operations (R164, R174, R181-R187, R206, R360, R552): which core issues, the bundle it fetches, and the shapes of scalar,
vector and predicate operations. -/

namespace Sys2Proof.Machine

/-! ### Bundles in the code region (R175, R177, R181) -/

/-- Octets of a bundle of the code region, which holds 1,024 of them from 0x18000 on. -/
def Core.bundleOctets (c : Core) (n : Nat) : Octets := bgets c.store (0x18000 + 32 * (n % 1024)) 32

/-- A bundle of the code region. -/
def Core.bundle (c : Core) (n : Nat) : Bundle := parseBundle (c.bundleOctets n)

/-- The bundle that issues `d` cycles after bundle `n`, `nxt` being the bundle that follows it, and how many slots' operations were passed on the way,
`left` being those of bundle n: a bundle issues in the cycle after the one before it and its idle cycles. A slot that is present and passed carries a
reserved class or operation (R185; log entry 192). No walk passes a bundle that fails its check. -/
def Core.walk (c : Core) : Nat → Nat → Nat → Nat → Nat → Option (Nat × Nat)
  | 0, _, _, _, _ => none
  | f + 1, n, left, nxt, d =>
    let g := 1 + (c.bundle n).idle
    if d == 0 then some (n, 0)
    else if d < g then none
    else if d == g then some (nxt, left)
    else if !bundleOk (c.bundleOctets nxt) then none
    else (c.walk f nxt ((c.bundle nxt).left []) (nxt + 1) (d - g)).map (fun p => (p.1, left + p.2))

/-- The bundle from which a core issues after a distance, and the void slots passed. -/
def Core.reach (c : Core) (d : Nat) : Option (Nat × Nat) :=
  c.walk (d + 1) c.pc (if c.bad then 0 else (c.bundle c.pc).left c.done) (c.back.getD (c.pc + 1)) d

/-- The bundle from which a core issues after a distance. -/
def Core.target (c : Core) (d : Nat) : Option Nat := (c.reach d).map Prod.fst

/-- The core in the cycle of an issue: its cycle moves on, and so does its bundle where it runs a traverse's code. -/
def Core.moved (c : Core) (d : Nat) (code : Bool) : Core :=
  if code && d != 0 then { c with cycle := c.cycle + d, pc := (c.target d).getD c.pc, back := none, bad := false, done := [] }
  else { c with cycle := c.cycle + d }

/-! ### Issue -/

/-- Cores issue: no hold is in force, the core is there, not fenced and not asleep, no WAIT stops its cluster, and its cluster runs the traverse or
service code (R145, R164, R206, R256, R334, R360, R552). -/
def State.issues (s : State) (k : Nat) : Bool :=
  s.trv.held.isNone && decide (k < 4096) && !s.coreFenced k && !s.asleep (k / 8) && !s.sync.waits.any (fun w => w.core / 8 == k / 8)
  && (s.inRun (k / 8) || s.serviceCluster (k / 8))

/-- Schedule cycle of an issue. -/
def State.issueCycle (s : State) (a : Issue) : Nat := (s.coreAt a.core).cycle + a.delta

/-- Cores issue in lockstep (R174): in a traverse in a cycle of the schedule tick that stands, none before one in which a core has issued; in service code
none before one in which a core of the cluster has. -/
def State.inStep (s : State) (a : Issue) : Bool :=
  let c := s.issueCycle a
  let n := a.core / 8
  if s.inRun n then decide (s.core.now ≤ c) && c / 60 == s.schedTick
  else (List.range 8).all (fun k => decide ((s.coreAt (8 * n + k)).cycle ≤ c))

/-- The bundle that an issue fetches fails its check (R181, Table 5-8). -/
def State.badBundle (s : State) (a : Issue) : Bool :=
  let c := s.coreAt a.core
  s.issues a.core && s.inStep a && s.inRun (a.core / 8) && !(c.bad && a.delta == 0)
  && (match c.target a.delta with
    | none => false
    | some n => !bundleOk (c.bundleOctets n))

/-- The bundle of an issue's cycle is sound and carries its operation, and its slot has not issued (R181, R182, R185). -/
def Core.offers (c : Core) (u : OpUnit) (d : Nat) : Bool :=
  !(c.bad && d == 0) && !(c.done.contains u.slot && d == 0) && (match c.target d with
    | none => false
    | some n => bundleOk (c.bundleOctets n) && (c.bundle n).carries u)

/-- An operation issues: its core does, in lockstep, and in a traverse the bundle of its cycle offers it. One of a bundle that fails its check has no
effect (log entry 166). -/
def State.admits (s : State) (u : OpUnit) (a : Issue) : Bool :=
  s.issues a.core && s.inStep a && (!s.inRun (a.core / 8) || (s.coreAt a.core).offers u a.delta)

/-- The state in the cycle of an issue, but for its core: accesses to its cluster's store up to that cycle are made, and slots passed on the way count
as void. -/
def State.cameTo (s : State) (a : Issue) : State :=
  let v := if s.inRun (a.core / 8) then (((s.coreAt a.core).reach a.delta).map Prod.snd).getD 0 else 0
  let now := if s.inRun (a.core / 8) then s.issueCycle a else s.core.now
  let t := s.clusterAdvance (a.core / 8) (s.issueCycle a)
  let t := { t with core := { t.core with now := now } }
  if v == 0 then t else t.addObj Ob.cnt_slot_void 0 v

/-- The core of an issue in the cycle in which it issues: its cycle has moved on by the issue's distance, and every result due by then stands in its
register or its store (R176, R178). -/
def State.issued (s : State) (a : Issue) : Core :=
  Core.settle (((s.cameTo a).coreAt a.core).moved a.delta (s.inRun (a.core / 8))) (s.issueCycle a)

/-- The state after an issue of a slot whose core becomes `c`. -/
def State.afterIssue (s : State) (a : Issue) (slot : Nat) (c : Core) : State :=
  (s.cameTo a).setCore a.core (if s.inRun (a.core / 8) then { c with done := slot :: c.done } else c)

/-- Issue one operation: the results due are written, and the operation acts on the core. A fetched bundle that fails its check is a detection of
Table 5-8; an operation that does not issue leaves the state as it is. -/
def State.issue (s : State) (u : OpUnit) (a : Issue) (f : Core → Core) : State :=
  if s.admits u a then s.afterIssue a u.slot (f (s.issued a))
  else if s.badBundle a then
    ((s.cameTo a).setCore a.core { s.issued a with bad := true }).detect a.core false .bundleCheck
  else s

/-- An operation that does not execute: SLOT_VOID (R185). -/
def State.slotVoid (s : State) (u : OpUnit) (a : Issue) : State :=
  if s.admits u a then (s.issue u a id).bump Ob.cnt_slot_void 0 else s.issue u a id

/-! ### Operand fields (Table 5-3) -/

/-- Scalar slot: sd, sa, sb and the immediate. The destination field names a predicate where the operation writes one (log entry 14). -/
def fSd (r : Nat) : Nat × Nat × Nat := (33, 5, r)
def fSa (r : Nat) : Nat × Nat × Nat := (28, 5, r)
def fSb (r : Nat) : Nat × Nat × Nat := (23, 5, r)
def fSimm (n : Nat) : Nat × Nat × Nat := (0, 23, n)

/-- Vector slot: vd, va, vb, vc and the type. -/
def fVd (r : Nat) : Nat × Nat × Nat := (49, 5, r)
def fVa (r : Nat) : Nat × Nat × Nat := (44, 5, r)
def fVb (r : Nat) : Nat × Nat × Nat := (39, 5, r)
def fVc (r : Nat) : Nat × Nat × Nat := (34, 5, r)
def fType : VType → Nat × Nat × Nat
  | .fp32 => (28, 2, 0)
  | .bf16 => (28, 2, 1)
  | .int32 => (28, 2, 2)
  | .res => (28, 2, 3)

/-- Predicate of a vector operation and its negation. -/
def fVp (p : VPred) : List (Nat × Nat × Nat) := [(31, 3, p.p), (30, 1, p.neg.toNat)]

/-- Matrix slot: format, accumulator, zero-init, buffers and row predicate. -/
def fFmt (n : Nat) : Nat × Nat × Nat := (28, 4, n)
def fAcc (n : Nat) : Nat × Nat × Nat := (26, 2, n)
def fZero (z : Bool) : Nat × Nat × Nat := (25, 1, z.toNat)
def fBufA (n : Nat) : Nat × Nat × Nat := (24, 1, n)
def fBufB (n : Nat) : Nat × Nat × Nat := (23, 1, n)
def fRp (n : Nat) : Nat × Nat × Nat := (20, 3, n)

/-- Load/store slot: data register or buffer, base and offset. -/
def fData (r : Nat) : Nat × Nat × Nat := (41, 5, r)
def fBase (r : Nat) : Nat × Nat × Nat := (36, 5, r)
def fOff (o : BitVec 32) : Nat × Nat × Nat := (0, 32, o.toNat)

/-- Move/sync slot: object and operand register. -/
def fObj (n : Nat) : Nat × Nat × Nat := (10, 14, n)
def fOs (r : Nat) : Nat × Nat × Nat := (5, 5, r)

/-- Units of Table 5-4. -/
def uAlu : OpUnit := ⟨0, 1, []⟩
def uMul : OpUnit := ⟨0, 2, []⟩
def uCmp : OpUnit := ⟨0, 3, []⟩
def uLoop : OpUnit := ⟨0, 4, []⟩
def uTable : OpUnit := ⟨0, 5, []⟩
def uStatus : OpUnit := ⟨0, 6, []⟩
def uFarith : OpUnit := ⟨1, 1, []⟩
def uFma : OpUnit := ⟨1, 2, []⟩
def uFcmp : OpUnit := ⟨1, 3, []⟩
def uInt : OpUnit := ⟨1, 4, []⟩
def uConv : OpUnit := ⟨1, 5, []⟩
def uSfu : OpUnit := ⟨1, 6, []⟩
def uRed : OpUnit := ⟨1, 7, []⟩
def uPerm : OpUnit := ⟨1, 8, []⟩
def uMask : OpUnit := ⟨1, 9, []⟩
def uMma : OpUnit := ⟨2, 1, []⟩
def uMrd : OpUnit := ⟨2, 2, []⟩
def uMzero : OpUnit := ⟨2, 3, []⟩
def uLine : OpUnit := ⟨3, 1, []⟩
def uWord : OpUnit := ⟨3, 2, []⟩
def uCluster : OpUnit := ⟨3, 3, []⟩
def uOperand : OpUnit := ⟨3, 4, []⟩
def uPut : OpUnit := ⟨3, 5, []⟩
def uTrie : OpUnit := ⟨3, 6, []⟩
def uSignal : OpUnit := ⟨4, 1, []⟩
def uWait : OpUnit := ⟨4, 2, []⟩
def uArrive : OpUnit := ⟨4, 3, []⟩

/-- Vector type of an operation that has FP32 and BF16 forms; type 3 is reserved. -/
def laneFmt : VType → Option FFmt
  | .fp32 => some .f32
  | .bf16 => some .bf16
  | _ => none

/-- Lanes that a predicate lets live. -/
def Core.liveMask (c : Core) (p : VPred) : BitVec 32 := if p.neg then ~~~(c.preg p.p) else c.preg p.p

/-- The number whose bit i is p i, for i below n. -/
def bitsUpTo (p : Nat → Bool) : Nat → Nat
  | 0 => 0
  | n + 1 => if p n then 2 ^ n + bitsUpTo p n else bitsUpTo p n

/-- The predicate whose bit i is p i. -/
def maskOf (p : Nat → Bool) : BitVec 32 := BitVec.ofNat 32 (bitsUpTo p 32)

/-- Flags of the live lanes. -/
def laneFlags (mask : BitVec 32) (l : List (Lane × Sticky)) : Sticky :=
  (l.zipIdx).foldl (fun f p => if mask.getLsbD p.2 then f.or p.1.2 else f) .none

/-- A lane-by-lane vector operation with its latency. -/
def Core.lanewise (c : Core) (vd : Nat) (vp : VPred) (latency : Nat) (f : Nat → Lane × Sticky) : Core :=
  let m := c.liveMask vp
  let rs := (List.range 32).map f
  (c.result 1 latency (.vreg vd (rs.map Prod.fst) m)).flags (laneFlags m rs)

/-- Lane i of a vector register. -/
def Core.lane (c : Core) (r i : Nat) : Lane := (c.vreg r).getD i 0

/-- Floating-point operation of two sources: FP32 and BF16 as their type says; on INT32 lanes its result is not stated
(log entry 13); type 3 is reserved. -/
def State.floatOp (s : State) (u : OpUnit) (a : Issue) (code latency : Nat) (t : VType) (vd va vb vc : Nat) (vp : VPred)
    (f : FFmt → Lane → Lane → Lane → Lane × Sticky) : State :=
  let u := u.takes (u.fields ++ fType t :: fVd vd :: fVa va :: fVp vp)
  match t with
  | .res => s.slotVoid u a
  | .int32 => s.issue u a (fun c => c.lanewise vd vp latency (fun i =>
      (Config.laneOpen code (c.lane va i) (c.lane vb i) (c.lane vc i), .none)))
  | .fp32 => s.issue u a (fun c => c.lanewise vd vp latency (fun i => f .f32 (c.lane va i) (c.lane vb i) (c.lane vc i)))
  | .bf16 => s.issue u a (fun c => c.lanewise vd vp latency (fun i => f .bf16 (c.lane va i) (c.lane vb i) (c.lane vc i)))

/-- Integer operation of two sources on 32-bit lanes. -/
def State.intOp (s : State) (a : Issue) (latency vd va vb : Nat) (vp : VPred) (f : Lane → Lane → Lane) : State :=
  s.issue (uInt.takes (fVd vd :: fVa va :: fVb vb :: fVp vp)) a (fun c => c.lanewise vd vp latency (fun i => (f (c.lane va i) (c.lane vb i), .none)))

/-- Scalar operation of two sources. -/
def State.scalarOp (s : State) (u : OpUnit) (a : Issue) (latency sd sa sb : Nat) (f : SWord → SWord → SWord) : State :=
  s.issue (u.takes [fSd sd, fSa sa, fSb sb]) a (fun c => c.result 0 latency (.sreg sd (f (c.sreg sa) (c.sreg sb))))

/-- Scalar comparison into a predicate: every bit takes the outcome (log entry 14). -/
def State.scalarCmp (s : State) (a : Issue) (pd sa sb : Nat) (f : SWord → SWord → Bool) : State :=
  s.issue (uCmp.takes [fSd pd, fSa sa, fSb sb]) a (fun c => c.result 0 1 (.preg pd (if f (c.sreg sa) (c.sreg sb) then BitVec.allOnes 32 else 0) (BitVec.allOnes 32)))

/-- Predicate operation. -/
def State.predOp (s : State) (a : Issue) (pd pa pb : Nat) (f : BitVec 32 → BitVec 32 → BitVec 32) : State :=
  s.issue (uCmp.takes [fSd pd, fSa pa, fSb pb]) a (fun c => c.result 0 1 (.preg pd (f (c.preg pa) (c.preg pb)) (BitVec.allOnes 32)))


end Sys2Proof.Machine
end

