-- ==== Sys2Proof/Machine/SyncCmds.lean ====
section
/-! DEFINITION. The synchronisation rows (chapter 10): SIGNAL, WAIT and ARRIVE of a core, their timeouts, group updates, station names, and
the expiry of a session's gate. -/

namespace Sys2Proof.Machine

/-- Low 32 bits of the operand register (R351). -/
def Core.operand (c : Core) (r : Nat) : Nat := (c.sreg r).toNat % 2 ^ 32

/-- Code of an operation in group updates. -/
def syncOpOf : Nat → SyncOp
  | 0 => .add
  | 1 => .set
  | 2 => .clear
  | _ => .arrive

/-- The core's cluster runs the traverse. -/
def State.inTraverse (s : State) (k : Nat) : Bool :=
  match s.runningHdr with
  | none => false
  | some h => hdrUses h (k / 8)

/-- Owner of the objects that a core may name (R348): its traverse's slot, or the service code. -/
def State.coreOwner (s : State) (k : Nat) : Nat :=
  if s.inTraverse k then 0xFF00 + s.trv.active.getD 0 else 0xFFFE

/-- An object as a core's operation finds it: one that is not its owner's is FREE to it (R348; log entry 173). -/
def State.syncFor (s : State) (k n : Nat) : SyncObj := if (s.syncObj n).owner == s.coreOwner k then s.syncObj n else freeSync

/-- A SIGNAL or ARRIVE of a core (R351-R354, R356): a FREE object or another type counts in SLOT_VOID; a group object's update waits for
tick t + D; any other takes effect after the latency of Table 10-4. -/
def State.signalOp (s : State) (u : OpUnit) (a : Issue) (n : Nat) (op : SyncOp) (operand : Core → Nat) : State :=
  if s.admits u a then
    let s := s.issue u a id
    let c := s.coreAt a.core
    let v := operand c
    if !opFits op (s.syncFor a.core n).type then s.bump Ob.cnt_slot_void 0
    else if (s.syncObj n).group then
      let t := s.tick + s.obj Ob.sync_group_ticks 0
      ({ s with sync := { s.sync with updates := s.sync.updates ++ [(⟨t, n, op, v⟩ : GroupUpdate)] } }).lockSend (.groupUpdate n op v t)
    else s.syncCycle n (c.cycle + netLatency (a.core / 8) (n / 32)) op v a.core
  else s.issue u a id

/-- SYNC_ADD: the operand, as an i32, is added to a COUNTER. -/
def execSyncAdd (a : Issue) (obj rs : Nat) (s : State) : Out := .next (s.signalOp (uSignal.takes [fObj obj, fOs rs]) a obj .add (fun c => c.operand rs))

/-- SET of an EVENT. -/
def execSyncSet (a : Issue) (obj : Nat) (s : State) : Out := .next (s.signalOp (uSignal.takes [fObj obj]) a obj .set (fun _ => 0))

/-- CLEAR of an EVENT. -/
def execSyncClear (a : Issue) (obj : Nat) (s : State) : Out := .next (s.signalOp (uSignal.takes [fObj obj]) a obj .clear (fun _ => 0))

/-- ARRIVE at a CLOSURE for the operand's round. -/
def execArrive (a : Issue) (obj rs : Nat) (s : State) : Out := .next (s.signalOp (uArrive.takes [fObj obj, fOs rs]) a obj .arrive (fun c => c.operand rs))

/-- Write a WAIT's outcome, 1 cc after its issue. -/
def State.waitDone (s : State) (k reg out : Nat) : State :=
  let c := s.coreAt k
  s.setCore k (c.result 4 1 (.sreg reg (BitVec.ofNat 64 ((c.sreg reg).toNat % 2 ^ 56 + 2 ^ 56 * out))))

/-- A WAIT of a core (R351, R352, R355, R358-R360): condition 0 count, 1 event, 2 round. Unsatisfied inside a traverse it is a
SCHEDULE_FAULT; in service code it polls, or stops its cluster until it is satisfied or times out. -/
def State.waitOp (s : State) (a : Issue) (n cond rs : Nat) : State :=
  let u := uWait.takes [fObj n, fOs rs]
  if s.admits u a then
    let s := s.issue u a id
    let c := s.coreAt a.core
    let v := c.operand rs
    let timeout := (c.sreg rs).toNat / 2 ^ 32 % 65536
    let unsatisfied (s : State) (k out cause : Nat) : State :=
      (((s.syncError n cause 0 k 0xFFFF 0xFFFFFFFF v).bump Ob.cnt_sync_timeouts (syncHalf n)).waitDone k rs out)
    match waitOutcome (if (s.syncFor a.core n).type == .free then freeSync else s.syncSeen n c.cycle) cond v with
    | some 3 => (s.bump Ob.cnt_slot_void 0).waitDone a.core rs 3
    | some 2 =>
      let s := (s.syncError n syncOverrunCause 0 a.core 0xFFFF 0xFFFFFFFF v).waitDone a.core rs 2
      if s.inTraverse a.core then s.detect a.core false .scheduleFault else s
    | some k => s.waitDone a.core rs k
    | none =>
      if s.inTraverse a.core then (unsatisfied s a.core 1 syncScheduleCause).detect a.core false .scheduleFault
      else if timeout == 0 then unsatisfied s a.core 1 syncTimeoutCause
      else { s with sync := { s.sync with waits := s.sync.waits ++ [⟨a.core, n, cond, v, rs, s.tick + timeout⟩] } }
  else s.issue u a id

/-- WAIT_COUNT. -/
def execWaitCount (a : Issue) (obj rs : Nat) (s : State) : Out := .next (s.waitOp a obj 0 rs)

/-- WAIT_EVENT. -/
def execWaitEvent (a : Issue) (obj rs : Nat) (s : State) : Out := .next (s.waitOp a obj 1 rs)

/-- WAIT_ROUND. -/
def execWaitRound (a : Issue) (obj rs : Nat) (s : State) : Out := .next (s.waitOp a obj 2 rs)

/-- SYNC_WAIT_TIMEOUT (R19, R360, R361): a WAIT of service code not satisfied by the end of the tick in which its timeout expires. -/
def execSyncWaitTimeout (core : Nat) (s : State) : Out :=
  .next (match s.sync.waits.find? (fun w => w.core == core && decide (w.deadline < s.tick)) with
    | none => s
    | some w =>
      let s := { s with sync := { s.sync with waits := s.sync.waits.erase w } }
      let s := (s.syncError w.obj syncTimeoutCause 0 core 0xFFFF 0xFFFFFFFF w.operand).bump Ob.cnt_sync_timeouts (syncHalf w.obj)
      s.putOutcome core w.reg 1)

/-- Updates of one object take effect together in cycle 0 of the tick (R354, R355); those that its type does not take have no effect. -/
def State.syncBatch (s : State) (n : Nat) (ops : List (SyncOp × Nat)) : State :=
  (ops.filter (fun p => opFits p.1 (s.syncObj n).type)).foldl (fun s p => s.syncCycle n s.syncNow p.1 p.2 0xFFFF) s

/-- GROUP_SYNC_UPDATE (R354): every update that is due, this member's and the others', takes effect in cycle 0 of the tick. -/
def execGroupSyncUpdate (others : List GroupSync) (s : State) : Out :=
  let due := s.sync.updates.filter (fun u => decide (u.tick ≤ s.tick))
  let all := due.map (fun u => (u.obj, u.op, u.operand)) ++ others.map (fun g => (g.obj, syncOpOf g.op, g.operand))
  let objs := (all.map (fun x => x.1)).eraseDups
  let s := { s with sync := { s.sync with updates := s.sync.updates.filter (fun u => !decide (u.tick ≤ s.tick)) } }
  .next (objs.foldl (fun s n => s.syncBatch n ((all.filter (fun x => x.1 == n)).map (fun x => (x.2.1, x.2.2)))) s)

/-- Value of `stn_sync_define` (Table 10-8). -/
def defineValue (name type half operand : Nat) : Octets := toLE 2 name ++ toLE 1 type ++ toLE 1 half ++ toLE 4 operand

/-- STN_SYNC_DEFINE (R362, R363): names above 1,023, types above 3, a half above 2 and parties outside 1-32,768 are out of range. -/
def execStnSyncDefine (w : Writer) (st name type half operand : Nat) (s : State) : Out :=
  .next (s.commandEnds w Ob.stn_sync_define st (defineValue name type half operand)
    (decide (name < 1024) && decide (1 ≤ type ∧ type ≤ 3) && decide (half ≤ 2)
      && (type != 3 || decide (1 ≤ operand ∧ operand ≤ 32768)) && (type != 2 || decide (operand ≤ 1)))
    Ob.stn_sync_status st (fun s => s.syncDefine st name type half operand))

/-- STN_SYNC_DELETE (R368). -/
def execStnSyncDelete (w : Writer) (st name : Nat) (s : State) : Out :=
  .next (s.commandEnds w Ob.stn_sync_define st (defineValue name 0 0 0) (decide (name < 1024)) Ob.stn_sync_status st
    (fun s => s.syncDelete st name))

/-- A write of `stn_sync_op` (R363). -/
def State.stationSync (s : State) (w : Writer) (st name : Nat) (code : Nat) (op : SyncOp) (operand : Nat) : State :=
  s.commandEnds w Ob.stn_sync_op st (toLE 2 name ++ toLE 1 code ++ toLE 1 0 ++ toLE 4 operand) true Ob.stn_sync_status st
    (fun s => s.syncStationOp st name op (operand % 2 ^ 32))

/-- STN_SYNC_ADD. -/
def execStnSyncAdd (w : Writer) (st name amount : Nat) (s : State) : Out := .next (s.stationSync w st name 1 .add amount)

/-- STN_SYNC_SET. -/
def execStnSyncSet (w : Writer) (st name : Nat) (s : State) : Out := .next (s.stationSync w st name 2 .set 0)

/-- STN_SYNC_CLEAR. -/
def execStnSyncClear (w : Writer) (st name : Nat) (s : State) : Out := .next (s.stationSync w st name 3 .clear 0)

/-- STN_SYNC_ARRIVE. -/
def execStnSyncArrive (w : Writer) (st name round : Nat) (s : State) : Out := .next (s.stationSync w st name 4 .arrive round)

/-- GATE_EXPIRY (R366, R370): binding k of a QUEUED session is unmet past its time, or its name is lost. PROCEED passes the gate for the
turn; CANCEL cancels the session. -/
def execGateExpiry (sid k : Nat) (s : State) : Out :=
  .next (match s.bySid sid with
    | none => s
    | some x =>
      match x.bindings[k]? with
      | none => s
      | some b =>
        let late := decide (x.lastActive + s.obj Ob.stn_sync_gate_ticks x.station < s.tick)
        if x.state == .queued && b.flags % 4 == 1 && b.since != some 0 && !s.gateMet x b
            && (late || (s.syncName x.station b.name).isNone) then
          let n := (s.syncName x.station b.name).getD 0xFFFF
          let s := s.syncError n syncTimeoutCause 1 x.station b.name x.sid b.saved
          let s := (s.sevent x Ev.SYNC_TIMEOUT b.name 0).bump Ob.cnt_gate_expired x.half
          if b.flags / 4 % 2 == 1 then s.cancelSession x.index
          else s.modSess x.index (fun y => { y with bindings := lset y.bindings k { b with since := some 0 } })
        else s)

end Sys2Proof.Machine
end

