-- ==== Sys2Proof/Machine/ObjWrites.lean ====
section
/-! DEFINITION. The write of any object (R514-R519, R583): commands by their objects, and plain objects. -/

namespace Sys2Proof.Machine

/-- The state a meaning answers. -/
def after (s : State) (o : Out) : State :=
  match o with
  | .next t => t
  | _ => s

/-- A synchronisation operation by its code in `stn_sync_op` (Table 10-8). -/
def stationOp (w : Writer) (st name code operand : Nat) (s : State) : Out :=
  match code with
  | 1 => execStnSyncAdd w st name operand s
  | 2 => execStnSyncSet w st name s
  | 3 => execStnSyncClear w st name s
  | _ => execStnSyncArrive w st name operand s

/-- Every member of the group must agree an ACTIVATE of this slot. -/
def State.groupAsked (s : State) (t : Nat) : Bool :=
  s.trvState t == 2 && ((s.trvSlot t).image.map (fun i => decide (1 < i.hdr.groupSize))).getD false

/-- Objects whose write is a command (R583) or acts at once: the meaning of each for the i-th index and a value. A command that needs what lies
outside the tile (an image, a peer's agreement) waits for its own row. -/
def State.commandOf (s : State) (w : Writer) (o : ObjSpec) (i : Nat) (v : Octets) : Option (State → Out) :=
  let n := unreserved o (ofLE v)
  let wait : State → Out := fun s => .next (s.working w)
  let pick (l : List (State → Out)) : State → Out := l.getD (n - 1) wait
  ([(Ob.trv_command, pick [execTrvLoad w i, if s.groupAsked i then wait else execActivate w i false, execUnload w i]),
    (Ob.mdl_command, pick [wait, execMdlUnload w i]), (Ob.dict_command, pick [wait, execDictUnload w i]),
    (Ob.gp_command, pick [wait, execGpUnload w i]), (Ob.vx_command, pick [execCreate w i, wait, execDrop w i]),
    (Ob.fence_command, if n / 4096 == 1 then execFenceCore w (n % 4096) else if n / 4096 == 2 then execFenceCluster w (n % 4096)
      else execClearCluster w (n % 4096)),
    (Ob.gl_command, execGlCommit w i), (Ob.ck_command, pick [execCkCheckpoint w, execAbort w]), (Ob.rs_command, wait),
    (Ob.fb_adopt_command, wait), (Ob.plat_command, wait),
    (Ob.t2_channel_command, if n / 256 == 1 then execDeclareFailed w (n % 256) else if n / 256 == 2 then execRetrain w (n % 256)
      else execRebuild w (n % 256)),
    (Ob.tk_command, pick [execTkCommit w i, execTkClear w i]),
    (Ob.fw_command, pick [wait, execFwCmdVerify w, execFwActivate w, execConfirm w, execErase w]),
    (Ob.power_command, pick [execDeepSleep w, execWarmReset w, execResetHalf0 w, execResetHalf1 w]),
    (Ob.fab_lease_command, execRelease w (n % 65536))] ++
   [(Ob.composition, execCompositionWrite w n),
    (Ob.stn_sync_define, if fieldAt v 2 1 == 0 then execStnSyncDelete w i (fieldAt v 0 2)
      else execStnSyncDefine w i (fieldAt v 0 2) (fieldAt v 2 1) (fieldAt v 3 1) (fieldAt v 4 4)),
    (Ob.stn_sync_op, stationOp w i (fieldAt v 0 2) (fieldAt v 2 1) (fieldAt v 4 4)),
    (Ob.ar_insert, execArInsert w v), (Ob.ar_remove, execArRemove w n), (Ob.err_clear, execErrClear w n),
    (Ob.stn_cap_stage, execStnCapStage w i v), (Ob.fw_chunk, execFwChunkWrite w v), (Ob.att_nonce, execAttNonceWrite w v),
    (Ob.cal_set, execCalSet w n),
    (Ob.tk_key_lo, fun s => .next (s.actingWrite w Ob.tk_key_lo i v (fun s => (s.keyHalf i false v, St.OK)))),
    (Ob.tk_key_hi, fun s => .next (s.actingWrite w Ob.tk_key_hi i v (fun s => (s.keyHalf i true v, St.OK))))]
   : List (ObjSpec × (State → Out))).findSome? (fun p => if o.is p.1 then some p.2 else none)

/-- A write of the object at an index and subindex, whatever the object is. -/
def State.writeObject (s : State) (w : Writer) (index sub : Nat) (v : Octets) : State :=
  match s.findObj index sub with
  | none => s.writeAt w index sub v
  | some (o, i, j) =>
    if s.recoveryShuts index sub then s.writeAt w index sub v
    else match s.commandOf w o i v with
      | none => s.writeAt w index sub v
      | some go =>
        let c := s.writeCheck w o index sub v
        let c := if c = St.OK then s.moreCheck o i j v else c
        if c = St.OK then after s (go s)
        else if o.is Ob.tk_command && ofLE v == 1 && s.lateClaim w i then s.reply w St.KEY_SLOT_STATE
        else s.reply w c

/-- OBJECT_WRITE (R516): a write to an object that has no row of its own takes effect under its access. -/
def execObjectWrite (w : Writer) (index sub : Nat) (v : Octets) (s : State) : Out := .next (s.writeObject w index sub v)

end Sys2Proof.Machine
end

