-- ==== Sys2Proof/Machine/Opdun.lean ====
section
/-! DEFINITION. Meanings of the field network's rows: Opdun (R521-R526, R529) and the legacy mailbox (R533-R535). -/

namespace Sys2Proof.Machine

/-! ### Datagrams (R522) -/

/-- What the tile sends, frame by frame (R2, R522, R524): the header of Table 16-4 before each frame's part of the payload. -/
def OpdunReply.octets (r : OpdunReply) : List Octets :=
  r.frames.map (fun p =>
    toLE 1 r.kind ++ toLE 1 p.2.1.toNat ++ toLE 2 p.2.2.length ++ toLE 4 r.assoc ++ toLE 4 r.req ++ toLE 2 r.index ++ toLE 1 r.sub
      ++ toLE 1 p.1 ++ toLE 2 r.status ++ toLE 2 0 ++ p.2.2)

/-- Header of a client's frame as the octets give it (Table 16-4), its sender's address apart. -/
def parseOpdunHdr (linkLocal : Bool) (hopLimit client port : Nat) (o : Octets) : OpdunHdr :=
  ⟨linkLocal, hopLimit, client, port, octField o 1 1 % 2 == 1, octField o 1 1 / 2, octField o 2 2, octField o 4 4, octField o 8 4, octField o 12 2,
    octField o 14 1, octField o 15 1, octField o 16 2, octField o 18 2⟩

/-- A datagram whose source is not link-local or whose hop limit is not 255 is dropped and reported; any other is a wake source and is served. -/
def State.datagram (s : State) (linkLocal : Bool) (hopLimit : Nat) (go : State → State) : State :=
  if !s.mgmtUp then s
  else if !linkLocal || hopLimit != 255 then s.reportOpen 0x289 clsProtocol
  else go (s.arrivalWakes 2)

/-- Replace an association. -/
def State.setAssoc (s : State) (a : Nat) (x : Assoc) : State := { s with mgmt := { s.mgmt with assocs := mput s.mgmt.assocs a x } }

/-- An association ends. -/
def State.endAssoc (s : State) (a : Nat) : State := { s with mgmt := { s.mgmt with assocs := mdel s.mgmt.assocs a } }

/-- A request of an association (R523, R525): one that it does not hold is dropped; a request number among its last 16 gets its reply again. -/
def State.request (s : State) (f : OpdunHdr) (go : State → Assoc → State) : State :=
  s.datagram f.linkLocal f.hopLimit (fun s =>
    match mget s.mgmt.assocs f.assoc with
    | none => s
    | some x =>
      if x.client != f.client then s
      else
        let x := { x with lastTick := s.tick, port := f.port }
        let s := s.setAssoc f.assoc x
        match x.replies.find? (fun r => r.req == f.req) with
        | some r => { s with mgmt := { s.mgmt with opdunOut := { r with port := f.port } :: s.mgmt.opdunOut } }
        | none => if s.opdunWaits f.assoc f.req then s else go s x)

/-- Writer and reply path of a request. -/
def odWriter (f : OpdunHdr) : Writer := .opdun f.assoc f.req f.index f.sub

/-- ASSOCIATE (R23, R523, Table 16-5). -/
def execAssociate (f : OpdunHdr) (majLo majHi minor feat : Nat) (s : State) : Out :=
  .next (s.datagram f.linkLocal f.hopLimit (fun s =>
    let answer (s : State) (a st : Nat) (body : Octets) : State := s.opdunReply ⟨2, a, f.client, f.port, f.req, f.index, f.sub, st, body⟩
    let major := min majHi 2
    if minor < 65536 ∧ 1 ≤ major ∧ majLo ≤ major then
      match mpickFree s.mgmt.assocs 1 9 with
      | some (a + 1) =>
        let (nonce, s) := s.freshNonce
        let feats := Nat.land feat (if major == 2 then 7 else 1)
        let s := s.setAssoc (a + 1) ⟨f.client, f.port, major, 0, feats, nonce, s.tick, [], none, none⟩
        answer s (a + 1) St.OK (toLE 2 major ++ toLE 2 0 ++ toLE 8 feats ++ nonce)
      | _ => answer s 0 St.OPDUN_BUSY []
    else answer s 0 St.VERSION_MISMATCH []))

/-- OD_READ (R515, R522). -/
def execOdRead (f : OpdunHdr) (s : State) : Out := .next (s.request f (fun s _ => s.serveRead (odWriter f) f.index f.sub))

/-- OD_WRITE (R522, R524): a value above 1,056 bytes is a range violation. -/
def execOdWrite (f : OpdunHdr) (v : Octets) (s : State) : Out :=
  .next (s.request f (fun s _ => if 1056 < v.length then s.reply (odWriter f) St.FIELD_RANGE else s.writeObject (odWriter f) f.index f.sub v))

/-- A whole capability of an association (R529, R530): checked, and the nonce changes. -/
def State.presented (s : State) (f : OpdunHdr) (x : Assoc) (o : Octets) : State :=
  let st := s.capCheck o 1 x.client x.nonce
  let (nonce, s) := s.freshNonce
  let s := s.setAssoc f.assoc { x with nonce := nonce, frag := none, cap := if st = St.OK then some (parseCap o) else x.cap }
  (s.capLog st 1 f.assoc o).reply (odWriter f) st

/-- A gap between fragments that is longer than `opdun_frag_ticks` (R19, R524). -/
def State.fragLate (s : State) (b : FragBuf) : Bool := decide (b.last + s.obj Ob.opdun_frag_ticks 0 < s.tick)

/-- A request in fragments is discarded with OPDUN_FRAGMENT (R524). -/
def State.fragDrop (s : State) (a : Nat) (x : Assoc) (b : FragBuf) : State :=
  (s.setAssoc a { x with frag := none }).reply (.opdun a b.req 0 0) St.OPDUN_FRAGMENT

/-- PRESENT (R524, R529): fragments from 0 on are assembled, and the last one completes the capability. Major 1, or an association without CAPABILITY,
refuses it; the status of that refusal is open. -/
def execPresent (f : OpdunHdr) (part : Octets) (s : State) : Out :=
  .next (s.request f (fun s x =>
    if x.features / 2 % 2 == 0 then
      let (c, s) := s.draw
      s.reply (odWriter f) (c % 65536)
    else
      match x.frag with
      | some b =>
        if b.req == f.req && s.fragLate b then s.fragDrop f.assoc x b
        else if b.req == f.req && f.frag == b.next then
          if f.more then s.setAssoc f.assoc { x with frag := some ⟨b.req, b.next + 1, b.bytes ++ part, s.tick⟩ }
          else s.presented f x (b.bytes ++ part)
        else if b.req != f.req && f.frag == 0 then
          if f.more then s.setAssoc f.assoc { x with frag := some ⟨f.req, 1, part, s.tick⟩ } else s.presented f x part
        else s
      | none =>
        if f.frag != 0 then s
        else if f.more then s.setAssoc f.assoc { x with frag := some ⟨f.req, 1, part, s.tick⟩ }
        else s.presented f x part))

/-- OD_RELEASE (R523): replied to, then the association and its capability end. -/
def execOdRelease (f : OpdunHdr) (s : State) : Out := .next (s.request f (fun s _ => (s.reply (odWriter f) St.OK).endAssoc f.assoc))

/-- Node of the field network (R521): `fn_node_base` × 8 and the three node bits of the straps. -/
def State.node (s : State) : Nat := s.obj Ob.fn_node_base 0 * 8 + s.obj Ob.strap_value 0 % 8

/-- DISCOVER (R523): answered without an association. -/
def execDiscover (f : OpdunHdr) (s : State) : Out :=
  .next (s.datagram f.linkLocal f.hopLimit (fun s =>
    s.opdunReply ⟨5, 0, f.client, f.port, f.req, f.index, f.sub, St.OK,
      idFingerprint ++ toLE 2 (s.obj Ob.id_part 0) ++ toLE 1 (s.obj Ob.id_stepping 0) ++ toLE 1 s.node⟩))

/-- OPDUN_IDLE_TIMEOUT (R523). -/
def execOpdunIdleTimeout (a : Nat) (s : State) : Out :=
  .next (match mget s.mgmt.assocs a with
    | some x => if x.lastTick + s.obj Ob.opdun_idle_ticks 0 < s.tick then s.endAssoc a else s
    | none => s)

/-- OPDUN_FRAGMENT_TIMEOUT (R524). -/
def execOpdunFragmentTimeout (a : Nat) (s : State) : Out :=
  .next (match mget s.mgmt.assocs a with
    | some x =>
      match x.frag with
      | some b => if s.fragLate b then s.fragDrop a x b else s
      | none => s
    | none => s)

/-! ### Legacy mailbox (R533-R535) -/

/-- The frame of a mailbox reply (R2, R533): the block of Table 16-9, then the data. -/
def MailReply.frame (r : MailReply) : Octets :=
  toLE 1 r.cmd ++ toLE 1 r.seq ++ toLE 2 r.data.length ++ toLE 4 r.arg0 ++ toLE 4 r.arg1 ++ toLE 1 r.status ++ toLE 3 0 ++ r.data

/-- A client's mailbox frame as the octets give it (Table 16-9); the first octet is its command. -/
def parseMailBlock (linkLocal : Bool) (hopLimit : Nat) (o : Octets) : MailBlock :=
  ⟨linkLocal, hopLimit, octField o 1 1, octField o 2 2, octField o 4 4, octField o 8 4, octField o 12 1, octField o 13 3, o.drop 16⟩

/-- A mailbox datagram (R533): under NATIVE it is discarded and counted; the number of the previous command gets that command's reply again. -/
def State.mailbox (s : State) (m : MailBlock) (cmd : Nat) (go : State → State) : State :=
  if s.mgmtUp && s.obj Ob.mgmt_legacy 0 == 0 then s.bump Ob.cnt_legacy_ignored 0
  else s.datagram m.linkLocal m.hopLimit (fun s =>
    if s.mailWaits m.seq then s
    else match s.mgmt.mailLast with
    | some r =>
      if r.seq == m.seq then { s with mgmt := { s.mgmt with mailOut := r :: s.mgmt.mailOut } }
      else if 256 < m.len then s.reply (.legacy cmd m.seq) St.FIELD_RANGE
      else go s
    | none => if 256 < m.len then s.reply (.legacy cmd m.seq) St.FIELD_RANGE else go s)

/-- Read objects in order and answer with what they hold, or with the status of the first that cannot be read (R534). -/
def State.mailRead (s : State) (cmd seq : Nat) (objs : List (Nat × Nat)) (form : List Octets → Nat × Nat × Octets) : State :=
  let w : Writer := .legacy cmd seq
  let (st, vs, s) := objs.foldl (fun (acc : Nat × List Octets × State) p =>
    if acc.1 ≠ St.OK then acc
    else
      let (st, v, t) := acc.2.2.readObject w p.1 p.2
      (st, acc.2.1 ++ [v], t)) (St.OK, [], s)
  if st ≠ St.OK then s.reply w st
  else
    let (a0, a1, d) := form vs
    s.mailReply ⟨cmd, seq, a0, a1, 0, d⟩

/-- The k-th value read, as a number. -/
def valueAt (vs : List Octets) (k : Nat) : Nat := ofLE (vs.getD k [])

/-- GET_ID. -/
def execGetId (m : MailBlock) (s : State) : Out :=
  .next (s.mailbox m 1 (fun s => s.mailRead 1 m.seq [(0x1000, 3), (0x1000, 4), (0x1000, 8)]
    (fun vs => (valueAt vs 0 + 65536 * valueAt vs 1, valueAt vs 2, []))))

/-- GET_VERSION. -/
def execGetVersion (m : MailBlock) (s : State) : Out :=
  .next (s.mailbox m 2 (fun s => s.mailRead 2 m.seq [(0x1010, 1), (0x1010, 2)] (fun vs => (valueAt vs 0, valueAt vs 1, []))))

/-- GET_TEMP: the diode of half `arg0`, in steps of 0.25 °C. -/
def execGetTemp (m : MailBlock) (s : State) : Out :=
  .next (s.mailbox m 3 (fun s =>
    if 2 ≤ m.arg0 then s.reply (.legacy 3 m.seq) St.FIELD_RANGE
    else s.mailRead 3 m.seq [(0x5010, 0x0B + m.arg0)] (fun vs => (twos 32 (Int.fdiv (signed 32 (valueAt vs 0)) 16384), 0, []))))

/-- GET_POWER: in mW. -/
def execGetPower (m : MailBlock) (s : State) : Out :=
  .next (s.mailbox m 4 (fun s => s.mailRead 4 m.seq [(0x5010, 0x0D)] (fun vs => (valueAt vs 0 * 1000 / 65536, 0, []))))

/-- READ_LOG: bytes 0x00-0x1F of the oldest unread error entry. -/
def execReadLog (m : MailBlock) (s : State) : Out :=
  .next (s.mailbox m 5 (fun s => s.mailRead 5 m.seq [(Ob.err_read.base, Ob.err_read.subLo)] (fun vs => (0, 0, (vs.getD 0 []).take 32))))

/-- CLEAR_LOG. -/
def execClearLog (m : MailBlock) (s : State) : Out :=
  .next (s.mailbox m 6 (fun s => s.writeObject (.legacy 6 m.seq) Ob.err_clear.base Ob.err_clear.subLo (toLE 2 m.arg0)))

/-- READ_REG: the alias of legacy register `arg0` (R535). -/
def execReadReg (m : MailBlock) (s : State) : Out :=
  .next (s.mailbox m 7 (fun s =>
    if 256 ≤ m.arg0 then s.reply (.legacy 7 m.seq) St.OBJECT_UNKNOWN
    else s.mailRead 7 m.seq [(0xC000 + m.arg0, 1)] (fun vs => (valueAt vs 0, 0, []))))

/-- WRITE_REG: `arg1` to the alias of legacy register `arg0` (R535). -/
def execWriteReg (m : MailBlock) (s : State) : Out :=
  .next (s.mailbox m 8 (fun s =>
    if 256 ≤ m.arg0 then s.reply (.legacy 8 m.seq) St.OBJECT_UNKNOWN
    else s.writeObject (.legacy 8 m.seq) (0xC000 + m.arg0) 1 (toLE 4 m.arg1)))

/-- FW_CHUNK: offset `arg0` and the data to `fw_chunk`. -/
def execFwChunk (m : MailBlock) (s : State) : Out :=
  .next (s.mailbox m 9 (fun s => s.writeObject (.legacy 9 m.seq) 0x7010 2 (toLE 8 m.arg0 ++ m.data)))

/-- FW_VERIFY: VERIFY to `fw_command`. -/
def execFwVerify (m : MailBlock) (s : State) : Out :=
  .next (s.mailbox m 10 (fun s => after s (execFwCmdVerify (.legacy 10 m.seq) s)))

/-- FW_COMMIT: ACTIVATE is sealed, and always LEGACY_DENIED. -/
def execFwCommit (m : MailBlock) (s : State) : Out :=
  .next (s.mailbox m 11 (fun s => s.writeObject (.legacy 11 m.seq) 0x7010 3 [3]))

/-- GET_FENCE. -/
def execGetFence (m : MailBlock) (s : State) : Out :=
  .next (s.mailbox m 12 (fun s => s.mailRead 12 m.seq [(Ob.cluster_fence_map.base, Ob.cluster_fence_map.subLo)] (fun vs => (0, 0, vs.getD 0 []))))

/-- GET_PLAT. -/
def execGetPlat (m : MailBlock) (s : State) : Out :=
  .next (s.mailbox m 13 (fun s => s.mailRead 13 m.seq [(Ob.plat_epoch.base, Ob.plat_epoch.subLo), (Ob.plat_state.base, Ob.plat_state.subLo)]
    (fun vs => (valueAt vs 0 % 2 ^ 32, valueAt vs 1, []))))

end Sys2Proof.Machine
end

