-- ==== Sys2Proof/Machine/HostMsgs.lean ====
section
/-! DEFINITION. Meanings of the host's transfers and messages (chapter 15): intake and credits, the control and traffic stages (R374-R377), referenced
bytes, the control area, and what each message type does. -/

namespace Sys2Proof.Machine

/-! ### Intake (R489, R495, R496, R572) -/

/-- A HELLO. -/
def isHello : MsgBody → Bool
  | .hello _ => true
  | _ => false

/-- A message goes into a station's intake, or is discarded and counted: before intake is in service (where a HELLO is held), from a station that is not
ATTACHED, or beyond the free credits; a message that finds no completion entry waits for one read of the ring's header. -/
def State.enterIntake (s : State) (st module len : Nat) (m : Msg) : State :=
  let x := s.station st
  let need := ceilDiv len 64
  let e : Intake := ⟨m, module, need, s.tick, s.tick, s.privileged st, .fresh, 0, false, false, 0, 0⟩
  if !s.stn.inService then
    if isHello m.body then { s with stn := { s.stn with heldHellos := s.stn.heldHellos ++ [(st, m)] } } else s.bump Ob.stn_cnt_intake_drop st
  else if x.state != 1 then
    if isHello m.body then s.setStation st { x with intake := x.intake ++ [e] } else s.bump Ob.stn_cnt_intake_drop st
  else if x.credits < need then
    let s := s.bump Ob.stn_cnt_intake_drop st
    if x.entryRoom == 0 then s
    else s.setStation st (({ x with cqTaken := x.cqTaken + 1 } : Station).complete m.hdr.seq (msgType m.body) 0 (Outcome.of St.INTAKE_OVERFLOW))
  else if x.entryRoom == 0 then
    s.setStation st (({ x with credits := x.credits - need, intake := x.intake ++ [{ e with stage := .entry }] } : Station).readHeader s.tick true)
  else s.setStation st { x with credits := x.credits - need, cqTaken := x.cqTaken + 1, intake := x.intake ++ [e] }

/-- A message whose ring's header was read takes an entry, or is discarded and counted (R496). -/
def State.takeEntry (s : State) (st : Nat) (e : Intake) : State :=
  let x := s.station st
  if x.entryRoom == 0 then
    (s.setStation st { x with credits := x.credits + e.credits, intake := x.intake.erase e }).bump Ob.stn_cnt_intake_drop st
  else s.setStation st { x with cqTaken := x.cqTaken + 1, intake := x.intake.map (fun i => if i == e then { i with stage := .fresh } else i) }

/-- Messages that waited for a completion entry, in order of arrival. -/
def State.entriesRead (s : State) (st : Nat) : State :=
  ((s.station st).intake.filter (fun e => e.stage == .entry)).foldl (fun s e => s.takeEntry st e) s

/-! ### What a message does once it has passed -/

/-- Half whose book takes a message's ACCEPT record, none for a message that needs none (R51, R409). -/
def State.recordHalf (s : State) (st : Nat) (e : Intake) : Option Nat :=
  let m := e.msg
  let mine (h : Nat) : Option Nat := if (s.station st).fbMode == 2 then none else some h
  let byHandle : Option Nat := match (s.resolve st m.hdr.handle).2 with
    | some x => if x.fbMode == 2 then none else some x.half
    | none => none
  match m.body with
  | .openSession _ => mine (s.servingHalf st e)
  | .prefixRegister _ => mine (s.servingHalf st e)
  | .objWrite _ => mine 0
  | .checkpoint _ => mine 0
  | .insert b => mine (s.obj Ob.vx_half b.index)
  | .delete b => mine (s.obj Ob.vx_half b.index)
  | .prefixRelease => match s.prefixBy st m.hdr.handle with
    | some p => if p.fbMode == 2 then none else some p.half
    | none => none
  | .append _ => byHandle
  | .resume _ => byHandle
  | .cancel => byHandle
  | .close => byHandle
  | .park => byHandle
  | .revive => byHandle
  | _ => none

/-- A message that names a session is relayed to the session's owner where only the route table knows its handle (R475). -/
def State.orRelay (s : State) (st : Nat) (e : Intake) (go : State → State) : State :=
  match (s.resolve st e.msg.hdr.handle).2, s.routeOf st e.msg.hdr.handle with
  | none, some r =>
    if r.device == s.device then go s
    else (s.setIntake st e.msg.hdr.seq (fun i => { i with stage := .working })).fabSend r.device (s.obj Ob.stn_slice st) (.sessionMsg st e.msg)
  | _, _ => go s

/-- An accepted SEARCH debits the QUERY buckets of its station and its tenant (R378, R494). -/
def State.searchDebit (s : State) (st ii : Nat) (write : Bool) : State :=
  if s.vxOpen st ii write == St.OK then (s.debitLater false st 3 1).debitLater true (s.obj Ob.stn_tenant_first st) 3 1 else s

/-- A message that passed every stage has its effect. -/
def State.effect (s : State) (st : Nat) (e : Intake) : State :=
  let w : Writer := .station st e.msg.hdr.seq
  match e.msg.body with
  | .hello b => s.helloMsg st e b
  | .goodbye => s
  | .ringName b => s.orRelay st e (fun s => s.ringNameMsg st e b)
  | .objRead b => s.serveRead w b.index b.sub
  | .objWrite b => s.writeObject w b.index b.sub (b.value.take b.len)
  | .openSession b => s.openMsg st e b (s.servingHalf st e)
  | .close => s.orRelay st e (fun s => s.closeMsg st e)
  | .append b => s.orRelay st e (fun s => s.appendMsg st e b)
  | .resume b => s.orRelay st e (fun s => s.resumeMsg st e b)
  | .cancel => s.orRelay st e (fun s => s.cancelMsg st e)
  | .park => s.orRelay st e (fun s => s.parkMsg st e)
  | .revive => s.orRelay st e (fun s => s.reviveMsg st e)
  | .prefixRegister b => s.prefixRegisterMsg st e b (s.servingHalf st e)
  | .prefixRelease => s.prefixReleaseMsg st e
  | .checkpoint b => s.checkpointMsg st e b
  | .query b => (s.searchDebit st b.index false).queryMsg st e b
  | .insert b => (s.searchDebit st b.index true).insertMsg st e b
  | .delete b => (s.searchDebit st b.index true).deleteMsg st e b
  | .unlisted _ => s

/-! ### The stages (R374-R377, R406, R408, R411) -/

/-- A message leaves intake with a refusal that a counter of its serving half counts. -/
def State.refuseCounted (s : State) (st : Nat) (e : Intake) (o : Outcome) (c : ObjSpec) : State :=
  (s.bump c (s.servingHalf st e)).finish st e.msg.hdr.seq o

/-- Acceptance once the rules and the buckets have passed: a full book refuses, HOLD_INTAKE holds, anything else has its effect. -/
def State.toAccept (s : State) (st : Nat) (e : Intake) : State :=
  match s.recordHalf st e with
  | none => s.effect st e
  | some h =>
    if s.bookFull h then (s.bump Ob.cnt_fb_full h).finish st e.msg.hdr.seq (Outcome.of St.FIELD_BOOK_FULL)
    else if s.intakeHeld then s.setIntake st e.msg.hdr.seq (fun i => { i with stage := .deferred, deferTick := s.tick })
    else s.effect st e

/-- The sequence window's answer to a message that takes part in it, counted (R408). -/
def State.windowSays (s : State) (st : Nat) (e : Intake) : Option Outcome :=
  if Sys2Proof.Machine.windowed e.msg.body then s.seqCheck st e.msg.hdr.seq else none

/-- A message that the window refuses: a duplicate counts. -/
def State.refuseSeq (s : State) (st : Nat) (e : Intake) (o : Outcome) : State :=
  if o.status == St.ALREADY_ACCEPTED then s.refuseCounted st e o Ob.cnt_already_accepted else s.finish st e.msg.hdr.seq o

/-- The traffic stage: rules, then buckets. -/
def State.admitEntry (s : State) (st : Nat) (e : Intake) : State :=
  match s.windowSays st e with
  | some o => s.refuseSeq st e o
  | none =>
    let verdict := s.trafficStage st e
    let s := s.ruleLook st e
    match verdict with
    | .refuse o c => s.refuseCounted st e o c
    | .wait => s.setIntake st e.msg.hdr.seq (fun i => { i with stage := .deferred, deferTick := s.tick })
    | .pass => s.toAccept st e

/-- The traffic stage, or a wait behind an earlier policed message (R377). -/
def State.intoTraffic (s : State) (st : Nat) (e : Intake) : State :=
  if policed e.msg.body && (s.station st).blocked e.msg.hdr.seq then s.setIntake st e.msg.hdr.seq (fun i => { i with stage := .behind })
  else s.admitEntry st e

/-- Referenced bytes of an input body: host address and count. -/
def byRefOf : MsgBody → Option (Nat × Nat)
  | .append b => if b.byRef then some (b.addr, b.bytes) else none
  | .resume b => if b.byRef then some (b.addr, b.bytes) else none
  | .prefixRegister b => if b.byRef then some (b.addr, b.bytes) else none
  | _ => none

/-- The control stage of one message (R10, R21, R408, R494): its fields, then HELLO and GOODBYE, the sequence window, and referenced bytes. -/
def State.serveOne (s : State) (st seq : Nat) : State :=
  match (s.station st).find seq with
  | none => s
  | some e =>
    if e.stage != .fresh || (s.station st).leaving.isSome then s
    else match s.msgRange st e.privileged e.msg with
      | some off => s.finish st seq (Outcome.range off)
      | none =>
        let s := s.setIntake st seq (fun i => { i with half := s.anyHalf })
        let e := { e with half := s.anyHalf }
        if isHello e.msg.body then s.effect st e
        else if e.msg.body == .goodbye then
          let s := s.setIntake st seq (fun i => { i with stage := .working })
          (s.setStation st { s.station st with leaving := some seq }).goodbyeStep st
        else match s.windowSays st e with
          | some o => s.refuseSeq st e o
          | none =>
            match byRefOf e.msg.body with
            | some (addr, n) =>
              let s := s.setIntake st seq (fun i => { i with stage := .fetching })
              s.setStation st ((s.station st).fetch s.tick addr n (fun off => .input seq off))
            | none => s.intoTraffic st e

/-- Every message of a station that is not yet decided, in order of arrival. -/
def State.serveFresh (s : State) (st : Nat) : State :=
  (((s.station st).intake.filter (fun e => e.stage == .fresh)).map (fun e => e.msg.hdr.seq)).foldl (fun s n => s.serveOne st n) s

/-- Messages that waited behind one that has gone, or for one of their own sequence, in order of arrival. -/
def State.unblock (s : State) (st : Nat) : State :=
  (((s.station st).intake.filter (fun e => e.stage == .behind)).foldl (fun s e =>
    if (s.station st).blocked e.msg.hdr.seq then s else s.admitEntry st e) s).serveFresh st

/-- A message arrives, unless intake holds it already, the descriptors that its handles name are read and checked (R44, R47, R64), and its station's
messages are served. -/
def State.hostMsg (s : State) (t : Transfer) (h : MsgHdr) (b : MsgBody) : State :=
  let m : Msg := ⟨h, b⟩
  let s := s.readDescs t.descs
  let s := if (s.station t.station).intake.any (fun e => e.msg == m && e.stage == .fresh) then s
    else s.transfer t 1 (fun s => s.enterIntake t.station t.ucie t.len m)
  s.serveFresh t.station

/-! ### Answers to READ_REQs (R487, R494, R497) -/

/-- Drop the outstanding reads of one use by a message. -/
def Station.dropReads (x : Station) (seq : Nat) : Station :=
  { x with reads := x.reads.filter (fun p => match p.2.use with
      | .input n _ => n != seq
      | .vector n => n != seq
      | _ => true) }

/-- A read has failed: the operation that needed it completes with HOST_READ_FAILED; messages that waited for a completion entry are discarded. -/
def State.readFailed (s : State) (st : Nat) (u : ReadUse) : State :=
  match u with
  | .input seq _ => ((s.setStation st ((s.station st).dropReads seq)).finish st seq (Outcome.of St.HOST_READ_FAILED)).unblock st
  | .vector seq => (s.setStation st ((s.station st).dropReads seq)).vectorFailed st seq
  | .cqHeader => s.entriesRead st
  | .eqHeader => s

/-- Bytes of an input body at an offset; they arrive in any order. -/
def putInput (off : Nat) (data : Octets) (b : InputBody) : InputBody :=
  { b with data := (b.data ++ List.replicate (off - b.data.length) 0).take off ++ data ++ b.data.drop (off + data.length) }

/-- Input bytes of a message. -/
def State.inputBytes (s : State) (st seq off : Nat) (data : Octets) : State :=
  s.setIntake st seq (fun e =>
    let body : MsgBody := match e.msg.body with
      | .append b => .append (putInput off data b)
      | .resume b => .resume (putInput off data b)
      | .prefixRegister b => .prefixRegister (putInput off data b)
      | b => b
    { e with msg := { e.msg with body := body } })

/-- A ring header's consumer index: taken, or ignored and reported (R497). -/
def State.headerRead (s : State) (st : Nat) (completion : Bool) (v : Nat) : State :=
  let x := s.station st
  match (if completion then x.cq else x.eq).take v with
  | none => s.report (0x300 + st) clsProtocol causeConsIndex
  | some r => s.setStation st (if completion then { x with cq := r } else ({ x with eq := r } : Station).flushKept 64)

/-- The vector's offset of a read: from the address the SEARCH names. -/
def State.vectorOffset (s : State) (st seq addr : Nat) : Nat :=
  match (s.station st).find seq with
  | none => 0
  | some e => match e.msg.body with
    | .query b => addr - b.vecAddr
    | .insert b => addr - b.vecAddr
    | _ => 0

/-- What an answered read is for. -/
def State.readTaken (s : State) (st : Nat) (r : ReadReq) (data : Octets) : State :=
  match r.use with
  | .input seq off => s.inputBytes st seq off data
  | .vector seq => s.vectorArrived st seq (s.vectorOffset st seq r.addr) data
  | .cqHeader => (s.headerRead st true (fieldAt data 0 4)).entriesRead st
  | .eqHeader => s.headerRead st false (fieldAt data 0 4)

/-- A read is past its time. -/
def State.readLate (s : State) (st : Nat) (r : ReadReq) : Bool := decide (r.tick + s.obj Ob.stn_host_read_ticks st < s.tick)

/-- READ_DATA (R487): the answer to an outstanding READ_REQ; a later one, or one of another length, is discarded and the read has failed. -/
def execReadData (t : Transfer) (data : Octets) (s : State) : Out :=
  .next (s.transfer t 4 (fun s =>
    let st := t.station
    match mget (s.station st).reads t.tag with
    | none => s
    | some r =>
      let late := s.readLate st r || data.length != r.len
      let s := s.setStation st { s.station st with reads := mdel (s.station st).reads t.tag }
      if late then s.readFailed st r.use else (s.readTaken st r data).serveFresh st))

/-- HOST_READ_TIMEOUT (R487). -/
def execHostReadTimeout (st tag : Nat) (s : State) : Out :=
  .next (match mget (s.station st).reads tag with
    | none => s
    | some r =>
      if s.readLate st r then (s.setStation st { s.station st with reads := mdel (s.station st).reads tag }).readFailed st r.use else s)

/-- REFERENCED_BYTES_ARRIVED (R494): the message's last byte is in, and it enters the traffic stage. -/
def execReferencedBytesArrived (st seq : Nat) (s : State) : Out :=
  .next (match (s.station st).find seq with
    | none => s
    | some e =>
      let out := (s.station st).reads.any (fun p => match p.2.use with
        | .input n _ => n == seq
        | _ => false)
      if e.stage == .fetching && !out then (s.intoTraffic st e).unblock st else s)

/-! ### Deferred messages (R376) -/

/-- DEFERRED_MESSAGE_PASS (R376): a deferred message whose buckets are conformant passes. -/
def execDeferredMessagePass (st seq : Nat) (s : State) : Out :=
  .next (match (s.station st).find seq with
    | none => s
    | some e =>
      if e.stage == .deferred && s.bucketsPass st e then
        match s.windowSays st e with
        | some o => (s.refuseSeq st e o).unblock st
        | none => (s.toAccept st e).unblock st
      else s)

/-- DEFER_EXPIRY (R19, R376, R406): refused once `stn_defer_ticks` have passed since it arrived; conformant in the expiry tick, it passes; one that
HOLD_INTAKE holds ends with WITNESS_LAPSED. -/
def execDeferExpiry (st seq : Nat) (s : State) : Out :=
  .next (match (s.station st).find seq with
    | none => s
    | some e =>
      if e.stage == .deferred && decide (e.tick + s.obj Ob.stn_defer_ticks st ≤ s.tick) then
        if !s.bucketsPass st e then (s.refuseCounted st e (Outcome.of St.RATE_LIMITED) Ob.cnt_rate_limited).unblock st
        else if (s.recordHalf st e).isSome && s.intakeHeld then
          (s.finish st e.msg.hdr.seq (Outcome.of St.WITNESS_LAPSED)).unblock st
        else s
      else s)

/-! ### Transfers -/

/-- MSG_TRANSFER (R485, R495, R496): a message arrives; its own row serves it, and a type that no row has is refused here (R21). -/
def execMsgTransfer (t : Transfer) (m : Msg) (s : State) : Out :=
  let u := s.transfer t 1 (fun s => s.enterIntake t.station t.ucie t.len m)
  .next (match m.body with
    | .unlisted _ => u.serveFresh t.station
    | _ => u)

/-- Control area of a station, Table 15-2. -/
def State.controlArea (s : State) (st : Nat) : Octets :=
  let x := s.station st
  let flags := (x.intake.filter (fun e => !e.returned)).length % 65536 + (if x.intake.any (fun e => e.stage == .deferred) then 65536 else 0)
    + (if x.intake.any (fun e => e.stage == .fetching) then 131072 else 0)
  toLE 2 (s.obj Ob.id_part 0) ++ toLE 1 (s.obj Ob.id_stepping 0) ++ toLE 1 st ++ toLE 2 3 ++ toLE 2 3 ++ toLE 2 0 ++ toLE 2 x.helloStatus
    ++ toLE 1 x.state ++ toLE 1 x.module ++ toLE 2 0 ++ toLE 8 0xF ++ toLE 4 flags ++ toLE 4 x.credits ++ toLE 8 (s.obj Ob.stn_seq_high st)
    ++ toLE 4 x.cq.write ++ toLE 4 x.eq.write ++ toLE 8 s.tick ++ toLE 4 (s.obj Ob.stn_cnt_events_lost st) ++ toLE 4 (s.obj Ob.stn_cnt_intake_drop st)

/-- CTRL_READ (R487, R488): answered in any station state; offsets beyond the table read as 0. -/
def execCtrlRead (t : Transfer) (s : State) : Out :=
  .next (s.transfer t 6 (fun s =>
    let x := s.station t.station
    let data := (Sys2Proof.Machine.slice (s.controlArea t.station) t.addr t.len ++ List.replicate t.len 0).take t.len
    s.setStation t.station { x with ctrlOut := (t.tag, data) :: x.ctrlOut }))

/-- INTAKE_IN_SERVICE (R569, R572): start-up step 8. HELLOs that arrived earlier are served, and a traverse that was ACTIVE is activated again. -/
def execIntakeInService (s : State) : Out :=
  .next (if !s.pwr.strapped || s.pwr.held || s.powerState == 4 || s.stn.inService then s
    else
      let hellos := s.stn.heldHellos
      let s := { s with stn := { s.stn with inService := true, heldHellos := [] } }
      let s := s.restoreModels
      let s := match s.pwr.again with
        | some t =>
          let s := s.setPwr { s.pwr with again := none }
          if s.obj Ob.trv_state t == 2 then s.setTrvSlot t { s.trvSlot t with activateAt := some (s.frame + 4), agreed := true } else s
        | none => s
      hellos.foldl (fun s p => (s.enterIntake p.1 0 p.2.hdr.len p.2).serveFresh p.1) s)

/-! ### Messages (Tables 15-7 to 15-10) -/

/-- HELLO (R490-R492). -/
def execHello (t : Transfer) (h : MsgHdr) (b : HelloBody) (s : State) : Out := .next (s.hostMsg t h (.hello b))

/-- GOODBYE (R499). -/
def execGoodbye (t : Transfer) (h : MsgHdr) (s : State) : Out := .next (s.hostMsg t h .goodbye)

/-- RING_NAME (R504). -/
def execRingName (t : Transfer) (h : MsgHdr) (b : RingNameBody) (s : State) : Out := .next (s.hostMsg t h (.ringName b))

/-- OBJ_READ (R498, R505). -/
def execObjRead (t : Transfer) (h : MsgHdr) (b : ObjBody) (s : State) : Out := .next (s.hostMsg t h (.objRead b))

/-- OBJ_WRITE (R409, R505). -/
def execObjWrite (t : Transfer) (h : MsgHdr) (b : ObjBody) (s : State) : Out := .next (s.hostMsg t h (.objWrite b))

/-- OPEN (R36-R41). -/
def execOpenSession (t : Transfer) (h : MsgHdr) (b : OpenBody) (s : State) : Out := .next (s.hostMsg t h (.openSession b))

/-- CLOSE (R51, R55). -/
def execClose (t : Transfer) (h : MsgHdr) (s : State) : Out := .next (s.hostMsg t h .close)

/-- APPEND (R53). -/
def execAppend (t : Transfer) (h : MsgHdr) (b : InputBody) (s : State) : Out := .next (s.hostMsg t h (.append b))

/-- RESUME (R70). -/
def execResume (t : Transfer) (h : MsgHdr) (b : InputBody) (s : State) : Out := .next (s.hostMsg t h (.resume b))

/-- CANCEL (R76). -/
def execCancel (t : Transfer) (h : MsgHdr) (s : State) : Out := .next (s.hostMsg t h .cancel)

/-- PARK (R74). -/
def execPark (t : Transfer) (h : MsgHdr) (s : State) : Out := .next (s.hostMsg t h .park)

/-- REVIVE (R74). -/
def execRevive (t : Transfer) (h : MsgHdr) (s : State) : Out := .next (s.hostMsg t h .revive)

/-- PREFIX_REGISTER (R60, R63, R64). -/
def execPrefixRegister (t : Transfer) (h : MsgHdr) (b : InputBody) (s : State) : Out := .next (s.hostMsg t h (.prefixRegister b))

/-- PREFIX_RELEASE (R66). -/
def execPrefixRelease (t : Transfer) (h : MsgHdr) (s : State) : Out := .next (s.hostMsg t h .prefixRelease)

/-- CHECKPOINT (R440). -/
def execCheckpoint (t : Transfer) (h : MsgHdr) (b : CheckpointBody) (s : State) : Out := .next (s.hostMsg t h (.checkpoint b))

/-- QUERY (R333). -/
def execQuery (t : Transfer) (h : MsgHdr) (b : SearchBody) (s : State) : Out := .next (s.hostMsg t h (.query b))

/-- INSERT (R340). -/
def execInsert (t : Transfer) (h : MsgHdr) (b : SearchBody) (s : State) : Out := .next (s.hostMsg t h (.insert b))

/-- DELETE (R342). -/
def execDelete (t : Transfer) (h : MsgHdr) (b : SearchBody) (s : State) : Out := .next (s.hostMsg t h (.delete b))

end Sys2Proof.Machine
end

