-- ==== Sys2Proof/Machine/LoadStore.lean ====
section
/-! DEFINITION. Loads and stores of a core, PUT and TWALK (R177-R179, R184, R202). -/

namespace Sys2Proof.Machine

/-- LD: 128 bytes of the core store into a V register, 2 cc. -/
def execLd (a : Issue) (vd base : Nat) (off : BitVec 32) (s : State) : Out :=
  .next (s.issue (uLine.takes [fData vd, fBase base, fOff off]) a (fun c =>
    c.result 3 2 (.vreg vd (bytesToLanes (c.bytes (coreAddr (c.sreg base) off 128) 128)) (BitVec.allOnes 32))))

/-- ST: 128 bytes of a V register into the core store. -/
def execSt (a : Issue) (vs base : Nat) (off : BitVec 32) (s : State) : Out :=
  .next (s.issue (uLine.takes [fData vs, fBase base, fOff off]) a (fun c => c.result 3 2 (.store (coreAddr (c.sreg base) off 128) (lanesToBytes (c.vreg vs)))))

/-- LDS: 8 bytes into an S register. -/
def execLds (a : Issue) (sd base : Nat) (off : BitVec 32) (s : State) : Out :=
  .next (s.issue (uWord.takes [fData sd, fBase base, fOff off]) a (fun c => c.result 3 2 (.sreg sd (BitVec.ofNat 64 (ofLE (c.bytes (coreAddr (c.sreg base) off 8) 8))))))

/-- STS: 8 bytes of an S register. -/
def execSts (a : Issue) (ss base : Nat) (off : BitVec 32) (s : State) : Out :=
  .next (s.issue (uWord.takes [fData ss, fBase base, fOff off]) a (fun c => c.result 3 2 (.store (coreAddr (c.sreg base) off 8) (toLE 8 (c.sreg ss).toNat))))

/-- CLD (R179): a line of the cluster store, read in the first cycle in which the core owns its bank, into the core store at the address
that an S register holds (log entry 14). -/
def execCld (a : Issue) (sdst base : Nat) (off : BitVec 32) (s : State) : Out :=
  let u := uCluster.takes [fData sdst, fBase base, fOff off]
  .next (if s.admits u a then
      let s := s.issue u a id
      let c := s.coreAt a.core
      let n := a.core / 8
      let ad := clusterAddr (c.sreg base) off
      s.clusterAsk n ⟨c.cycle + csWait (a.core % 8) c.cycle ad, a.core, .line ad (coreAddr (c.sreg sdst) 0 128)⟩
    else s.issue u a id)

/-- CST (R179): a line of the core store into the cluster store. -/
def execCst (a : Issue) (ssrc base : Nat) (off : BitVec 32) (s : State) : Out :=
  let u := uCluster.takes [fData ssrc, fBase base, fOff off]
  .next (if s.admits u a then
      let s := s.issue u a id
      let c := s.coreAt a.core
      let ad := clusterAddr (c.sreg base) off
      let w := csWait (a.core % 8) c.cycle ad
      s.clusterSend (a.core / 8) ⟨c.cycle + 6 + w, a.core, ad, c.bytes (coreAddr (c.sreg ssrc) 0 128) 128⟩
    else s.issue u a id)

/-- PUT (R184): a line of the core store to another cluster's store; an S register holds the address in bits [20:0] and the cluster in
bits [40:32] (log entry 14). -/
def execPut (a : Issue) (sdst base : Nat) (off : BitVec 32) (s : State) : Out :=
  let u := uPut.takes [fData sdst, fBase base, fOff off]
  .next (if s.admits u a then
      let s := s.issue u a id
      let c := s.coreAt a.core
      let d := (c.sreg sdst).toNat
      let n := d / 2 ^ 32 % 512
      s.clusterSend n ⟨c.cycle + netLatency (a.core / 8) n, a.core, d % 2097152 / 128 * 128,
        c.bytes (coreAddr (c.sreg base) off 128) 128⟩
    else s.issue u a id)

/-- TWALK (R202): one trie node for an input byte; cluster-store latency + 2 cc. The bank it waits for is that of the node's address, of a dense node too
(DESIGN CHOICE, log entry 195). -/
def execTwalk (a : Issue) (sd snode sbyte : Nat) (s : State) : Out :=
  let u := uTrie.takes [fData sd, fBase snode]
  .next (if s.admits u a then
      let s := s.issue u a id
      let c := s.coreAt a.core
      let n := a.core / 8
      let node := (c.sreg snode).toNat % 2 ^ 32
      s.clusterAsk n ⟨c.cycle + csWait (a.core % 8) c.cycle (node % 2097152), a.core, .child sd node ((c.sreg sbyte).toNat % 256)⟩
    else s.issue u a id)

end Sys2Proof.Machine
end

