-- ==== Sys2Proof/Machine/Matrix.lean ====
section
/-! DEFINITION. Matrix operations and operand loads (R188-R190). -/

namespace Sys2Proof.Machine

/-- Row of Table 5-6 that a format code names: K, blocks per row; none is a reserved format. -/
def mmaShape : Nat → Option (Nat × Nat)
  | 1 => some (32, 1)
  | 2 => some (32, 1)
  | 3 => some (32, 1)
  | 4 => some (32, 1)
  | 5 => some (64, 2)
  | 6 => some (32, 1)
  | 7 => some (16, 1)
  | 9 => some (32, 1)
  | _ => none

/-- Two element formats stand in one row of Table 5-6. -/
def sameRow (f g : Nat) : Bool := f == g || (decide (f ≤ 2) && decide (g ≤ 2)) || ([3, 4].contains f && [3, 4].contains g)

/-- Element code e of a packed string (R95). -/
def elemCode (fmt : Nat) (o : Octets) (e : Nat) : Nat :=
  let w := mxBits fmt
  let bit := w * e
  (ofLE (slice o (bit / 8) 3)) / 2 ^ (bit % 8) % 2 ^ w

/-- The exact sum of one block of row i of A and row j of B, or its special value (R189). -/
def blockSum (a b : OperandBuf) (k nb i j blk : Nat) : FVal :=
  let kb := k / nb
  let mx := decide (a.fmt ≤ 6)
  let sa := (a.scales.getD (i * nb + blk) 0).toNat
  let sb := (b.scales.getD (j * nb + blk) 0).toNat
  let prods := (List.range kb).map (fun t =>
    mulV (mxVal a.fmt (elemCode a.fmt a.elems (i * k + blk * kb + t))) (mxVal b.fmt (elemCode b.fmt b.elems (j * k + blk * kb + t))))
  if mx && (sa == 0xFF || sb == 0xFF) then .nan
  else match prods.foldl addV (.fin false ⟨0, 0⟩) with
    | .fin s x => .fin s (if mx then x.scale ((sa : Int) - 127 + ((sb : Int) - 127)) else x)
    | v => v

/-- One element of an MMA (R189): every block is added with one rounding; INT8 sums saturate. -/
def mmaElem (a b : OperandBuf) (k nb : Nat) (acc0 : Lane) (i j : Nat) : Lane × Sticky :=
  if a.fmt == 9 then
    let s : Int := (List.range k).foldl (fun n t =>
      n + (BitVec.ofNat 8 (elemCode 9 a.elems (i * k + t))).toInt * (BitVec.ofNat 8 (elemCode 9 b.elems (j * k + t))).toInt) 0
    let r := acc0.toInt + s
    if r < -2147483648 then (0x80000000, ⟨false, false, true⟩)
    else if 2147483647 < r then (0x7FFFFFFF, ⟨false, false, true⟩)
    else (BitVec.ofInt 32 r, .none)
  else
    (List.range nb).foldl (fun p blk =>
      let (v, f) := packF .f32 (addV (f32 p.1) (blockSum a b k nb i j blk))
      (v, p.2.or f)) (acc0, .none)

/-- MMA (R186, R188, R189): 68 cc, the unit is taken for 64. Buffers outside the named row of Table 5-6 give an open result
(log entry 13); a reserved format, and an issue to the occupied unit, do not execute (R185). -/
def execMma (a : Issue) (fmt acc : Nat) (zero : Bool) (abuf bbuf rp : Nat) (s : State) : Out :=
  let c := s.coreAt a.core
  let u := uMma.takes [fFmt fmt, fAcc acc, fZero zero, fBufA abuf, fBufB bbuf, fRp rp]
  .next (match mmaShape fmt with
    | none => s.slotVoid u a
    | some (k, nb) =>
      if s.admits u a && decide (c.cycle + a.delta < c.mmaFree) then s.slotVoid u a
      else s.issue u a (fun c =>
        let x := c.buf (abuf % 2)
        let y := c.buf (2 + bbuf % 2)
        let ok := sameRow fmt x.fmt && sameRow fmt y.fmt
        let mask := (c.preg rp).setWidth 16
        let rs := (List.range 256).map (fun n =>
          let old := if zero then 0 else (c.acc acc).getD n 0
          if ok then mmaElem x y k nb old (n / 16) (n % 16) else (Config.laneOpen 40 old (BitVec.ofNat 32 n) 0, Sticky.none))
        let fl := (rs.zipIdx).foldl (fun f p => if mask.getLsbD (p.2 / 16) then f.or p.1.2 else f) Sticky.none
        ({ c with mmaFree := c.cycle + 64 }.result 2 68 (.acc acc (rs.map Prod.fst) mask)).flags fl))

/-- MRD (R190): accumulator rows 2p and 2p + 1 into lanes 0-15 and 16-31. -/
def execMrd (a : Issue) (vd acc p : Nat) (s : State) : Out :=
  .next (s.issue (uMrd.takes [fAcc acc]) a (fun c =>
    c.result 2 3 (.vreg vd ((List.range 32).map (fun i => (c.acc acc).getD (32 * (p % 8) + i) 0)) (BitVec.allOnes 32))))

/-- MZERO clears an accumulator (R183). -/
def execMzero (a : Issue) (acc : Nat) (s : State) : Out :=
  .next (s.issue (uMzero.takes [fAcc acc]) a (fun c => c.result 2 1 (.acc acc (List.replicate 256 0) (BitVec.allOnes 16))))

/-- An operand load is refused while its unit is taken (R185). Its occupancy keeps out other operand loads only, not LD, ST, CLD or PUT of the same
slot (log entry 162). -/
def State.operandLoad (s : State) (a : Issue) (base : Nat) (off : BitVec 32) (occupy latency b : Nat) (f : Core → OperandBuf × Sticky) : State :=
  let c := s.coreAt a.core
  let u := uOperand.takes [fData (b % 2), fBase base, fOff off]
  if s.admits u a && decide (c.cycle + a.delta < c.opFree) then s.slotVoid u a
  else s.issue u a (fun c =>
    let (v, fl) := f c
    ({ c with opFree := c.cycle + occupy }.result 3 latency (.buf b v)).flags fl)

/-- The elements in 4 beats of 128 bytes, then the scales in one beat (R188). -/
def loadOperand (fmt base : Nat) (off : BitVec 32) (c : Core) : OperandBuf × Sticky :=
  let ad := coreAddr (c.sreg base) off 128
  (⟨fmt, c.bytes ad 512, c.bytes (ad + 512) 32⟩, .none)

/-- MLD.A (R188): 7 cc, the unit is taken for 5. -/
def execMldA (a : Issue) (fmt b base : Nat) (off : BitVec 32) (s : State) : Out :=
  .next (s.operandLoad a base off 5 7 (b % 2) (loadOperand fmt base off))

/-- MLD.B (R188). -/
def execMldB (a : Issue) (fmt b base : Nat) (off : BitVec 32) (s : State) : Out :=
  .next (s.operandLoad a base off 5 7 (2 + b % 2) (loadOperand fmt base off))

/-- One element of MLD.VT's fragment: element times scale, rounded once to BF16 with overflow to infinity (R190). -/
def vtElem (c : Core) (fmt ad p d : Nat) : Lane × Sticky :=
  let code := (bget c.store ((ad + p * 128 + d) % 131072)).toNat
  let sc := (bget c.store ((ad + 4096 + 0x40 + p * 4 + d / 32) % 131072)).toNat
  if sc == 0xFF then packF .bf16 .nan
  else packF .bf16 (match mxVal fmt code with
    | .fin s x => .fin s (x.scale ((sc : Int) - 127))
    | v => v)

/-- MLD.VT (R190): a BF16 B fragment from 16 positions of an MXFP8 value tile, 18 cc, the unit is taken for 16. `phi` chooses positions 0-15
or 16-31 and `dblk` is d0 ÷ 16. -/
def execMldVt (a : Issue) (e5m2 : Bool) (b base : Nat) (off : BitVec 32) (phi : Bool) (dblk : Nat) (s : State) : Out :=
  .next (s.operandLoad a base off 16 18 (2 + b % 2) (fun c =>
    let ad := coreAddr (c.sreg base) off 128
    let rs := (List.range 256).map (fun n =>
      vtElem c (if e5m2 then 2 else 1) ad ((if phi then 16 else 0) + n % 16) (dblk % 8 * 16 + n / 16))
    (⟨7, rs.flatMap (fun r => toLE 2 (r.1.toNat / 65536)), List.replicate 32 0⟩, rs.foldl (fun f r => f.or r.2) .none)))

end Sys2Proof.Machine
end

