-- ==== Sys2Proof/Machine/Program.lean ====
section
/-! DEFINITION. The traverse's move program (R139, R242, R553): its fixed class 0 descriptors, and the gather of embedding rows by token. -/

namespace Sys2Proof.Machine

/-! ### Embedding rows (R242) -/

/-- Tokens of a row's new positions, in order: those that stand in its session's context, and, for a decode row, its drafts (R295). -/
def State.rowTokens (s : State) (h : TrvHeader) (x : Session) (r : RowNow) : List Nat :=
  let known := (x.tokens.filter (fun p => decide (r.ctx ≤ p.1 ∧ p.1 < r.ctx + r.nw))).map Prod.snd
  let vocab := ((s.dictFor x.model).map (fun p => p.2.vocab)).getD 0
  let drafts := if r.kind == 0 then
      (s.draftChain x vocab (s.grammarOf x) (s.draftK h x) x.positions (s.context x x.positions) x.grState x.grStack).map (fun d => d.tok)
    else []
  (known ++ drafts).take r.nw

/-- The copy of a weight tile that a half's clusters read: their own half's, from T1 where one is there (R6, R244). -/
def State.weightAt (s : State) (m half layer group locator : Nat) : Option Nat :=
  let owner := m + 16 * s.obj Ob.mdl_load_count m
  let l := (((mget s.tier.models m).map (fun x => x.tiles)).getD []).filter (fun a =>
    let t := s.tileAt a
    addrHalf a == half && t.kind == 2 && t.owner == owner && t.layer == layer && t.group == group && t.locator == locator)
  match l.find? (fun a => tierOf a == 1) with
  | some a => some a
  | none => l.head?

/-- Address of a weight tile in a half: where no copy is left there, that is a TILE_LOST event of the model, and the other half's copy is written to a slot
of this one's T2 (R243). -/
def State.weightHere (s : State) (m half layer group locator : Nat) : State × Option Nat :=
  match s.weightAt m half layer group locator with
  | some a => (s, some a)
  | none =>
    let s := s.bump Ob.cnt_tile_lost half
    match s.weightAt m (1 - half) layer group locator, s.weightSlot m half with
    | some b, some (a, t) => ((t.writeTile a { t.tileAt b with cowEpoch := t.allocEpoch half }).keepWeight m a, some a)
    | _, _ => (s, none)

/-- The tiles that hold one token's embedding row go to their slots, each as a class 0 COPY of one tile (R242); the tag of a gather that finds no copy of one
stays unmet (R243). -/
def State.gatherToken (s : State) (b : ModelBind) (e : EmbedBind) (half tok dst : Nat) (reads : List TileRead) : State × List TileRead :=
  (List.range e.tiles).foldl (fun acc j =>
    match acc.1.weightHere b.slot half e.layer e.group (e.first + tok / 32 * e.tiles + j) with
    | (s, none) => ({ s with trv := { s.trv with spoiled := s.trv.spoiled ++ [(e.queue, e.tag)] } }, acc.2)
    | (s, some a) =>
      (s.runJob half e.queue (gatherDesc a (addrPlus dst j) (b.slot + 16 * s.obj Ob.mdl_load_count b.slot) e.tag) (some .weight) [acc.2.headD .ok], acc.2.tail))
    (s, reads)

/-- The embedding gather of a model: every new position of every live row of its sessions, rows and positions in order, each position in its own tile
slots in the half of its row (R6; log entries 159 and 187). -/
def State.gatherEmbed (s : State) (i : TrvImage) (b : ModelBind) (e : EmbedBind) (reads : List TileRead) : State :=
  let rows := s.trv.rowTab.filter (fun r => rowLive r && !r.entry.cont)
  let (s, _, _, _) := rows.foldl (fun (acc : State × List TileRead × Nat × Nat) r =>
    match acc.1.rowSess r.entry with
    | none => acc
    | some x =>
      if x.model != b.slot then acc
      else (acc.1.rowTokens i.hdr x r).foldl (fun acc t =>
        let (s, rs, n0, n1) := acc
        let n := if x.half == 0 then n0 else n1
        let (s, rs) := s.gatherToken b e x.half t (addrPlus (inHalf x.half e.dst) (n * e.tiles)) rs
        (s, rs, if x.half == 0 then n0 + 1 else n0, if x.half == 0 then n1 else n1 + 1)) acc) (s, reads, 0, 0)
  s.gatherMet e.queue e.tag

/-! ### The program -/

/-- Embedding gathers of an image, which follow its fixed descriptors in number. -/
def embeds (i : TrvImage) : List (ModelBind × EmbedBind) := i.binds.filterMap (fun b => b.embed.map (fun e => (b, e)))

/-- MOVE_PROGRAM_ISSUE (R139, R242, R553): class 0 descriptor `n` of the running traverse is issued at its issue tick, once a frame; the numbers after the
last descriptor are the embedding gathers of its models. -/
def execMoveProgramIssue (n : Nat) (reads : List TileRead) (s : State) : Out :=
  .next (match s.runningHdr, s.activeImage with
    | some _, some i =>
      let mark (s : State) : State := { s with trv := { s.trv with issued := s.trv.issued ++ [n] } }
      if s.trv.issued.contains n || s.allAsleep then s
      else match i.moves[n]?, (embeds i)[n - i.moves.length]? with
        | some m, _ =>
          if decide (m.issueTick ≤ s.schedTick) && decide (m.queue < 16) then (mark s).runMove (s.descHalf m.desc) m.queue m.desc reads else s
        | none, some (b, e) =>
          if decide (e.issueTick ≤ s.schedTick) && decide (e.queue < 15) then (mark s).gatherEmbed i b e reads else s
        | none, none => s
    | _, _ => s)

end Sys2Proof.Machine
end

