-- ==== Sys2Proof/Machine/Scalar.lean ====
section
/-! DEFINITION. Scalar operations of a core (Tables 5-3 and 5-4): one meaning for each row.  Immediates stand only where Table 5-4 names one (log
entry 14). -/

namespace Sys2Proof.Machine

/-- ADD (R183). -/
def execAdd (a : Issue) (sd sa sb : Nat) (s : State) : Out := .next (s.scalarOp uAlu a 1 sd sa sb (fun x y => x + y))

/-- SUB (R183). -/
def execSub (a : Issue) (sd sa sb : Nat) (s : State) : Out := .next (s.scalarOp uAlu a 1 sd sa sb (fun x y => x - y))

/-- AND (R183). -/
def execAnd (a : Issue) (sd sa sb : Nat) (s : State) : Out := .next (s.scalarOp uAlu a 1 sd sa sb (fun x y => x &&& y))

/-- OR (R183). -/
def execOr (a : Issue) (sd sa sb : Nat) (s : State) : Out := .next (s.scalarOp uAlu a 1 sd sa sb (fun x y => x ||| y))

/-- XOR (R183). -/
def execXor (a : Issue) (sd sa sb : Nat) (s : State) : Out := .next (s.scalarOp uAlu a 1 sd sa sb (fun x y => x ^^^ y))

/-- SHL (R183); a shift by 64 or more is not stated (log entry 13). -/
def execShl (a : Issue) (sd sa sb : Nat) (s : State) : Out := .next (s.scalarOp uAlu a 1 sd sa sb (fun x y => if y.toNat < 64 then x <<< y.toNat else Config.shiftBeyond 0 x y))

/-- SHR (R183); a shift by 64 or more is not stated (log entry 13). -/
def execShr (a : Issue) (sd sa sb : Nat) (s : State) : Out := .next (s.scalarOp uAlu a 1 sd sa sb (fun x y => if y.toNat < 64 then x >>> y.toNat else Config.shiftBeyond 1 x y))

/-- SAR (R183); a shift by 64 or more is not stated (log entry 13). -/
def execSar (a : Issue) (sd sa sb : Nat) (s : State) : Out := .next (s.scalarOp uAlu a 1 sd sa sb (fun x y => if y.toNat < 64 then x.sshiftRight y.toNat else Config.shiftBeyond 2 x y))

/-- LI: the sign-extended immediate of 23 bits (R182). -/
def execLi (a : Issue) (sd : Nat) (imm : BitVec 23) (s : State) : Out := .next (s.issue (uAlu.takes [fSd sd, fSimm imm.toNat]) a (fun c => c.result 0 1 (.sreg sd (imm.signExtend 64))))

/-- MOV (R183). -/
def execMov (a : Issue) (sd sa : Nat) (s : State) : Out := .next (s.issue (uAlu.takes [fSd sd, fSa sa]) a (fun c => c.result 0 1 (.sreg sd (c.sreg sa))))

/-- MUL: low half, 3 cc (R183). -/
def execMul (a : Issue) (sd sa sb : Nat) (s : State) : Out := .next (s.scalarOp uMul a 3 sd sa sb (fun x y => x * y))

/-- MULH: high half, 3 cc; the spec does not give the signs of the factors (log entry 13). -/
def execMulh (a : Issue) (sd sa sb : Nat) (s : State) : Out := .next (s.scalarOp uMul a 3 sd sa sb (fun x y =>
    if Config.mulhSigned then BitVec.ofInt 64 (x.toInt * y.toInt / 2 ^ 64) else BitVec.ofNat 64 (x.toNat * y.toNat / 2 ^ 64)))

/-- EQ into a predicate (R183). -/
def execEq (a : Issue) (pd sa sb : Nat) (s : State) : Out := .next (s.scalarCmp a pd sa sb (fun x y => x == y))

/-- NE into a predicate (R183). -/
def execNe (a : Issue) (pd sa sb : Nat) (s : State) : Out := .next (s.scalarCmp a pd sa sb (fun x y => x != y))

/-- LT into a predicate (R183). -/
def execLt (a : Issue) (pd sa sb : Nat) (s : State) : Out := .next (s.scalarCmp a pd sa sb (fun x y => x.slt y))

/-- LTU into a predicate (R183). -/
def execLtu (a : Issue) (pd sa sb : Nat) (s : State) : Out := .next (s.scalarCmp a pd sa sb (fun x y => x.ult y))

/-- GE into a predicate (R183). -/
def execGe (a : Issue) (pd sa sb : Nat) (s : State) : Out := .next (s.scalarCmp a pd sa sb (fun x y => !x.slt y))

/-- GEU into a predicate (R183). -/
def execGeu (a : Issue) (pd sa sb : Nat) (s : State) : Out := .next (s.scalarCmp a pd sa sb (fun x y => !x.ult y))

/-- Predicate AND (R183). -/
def execPredAnd (a : Issue) (pd pa pb : Nat) (s : State) : Out := .next (s.predOp a pd pa pb (fun x y => x &&& y))

/-- Predicate OR (R183). -/
def execPredOr (a : Issue) (pd pa pb : Nat) (s : State) : Out := .next (s.predOp a pd pa pb (fun x y => x ||| y))

/-- Predicate NOT (R183). -/
def execPredNot (a : Issue) (pd pa : Nat) (s : State) : Out :=
  .next (s.issue (uCmp.takes [fSd pd, fSa pa]) a (fun c => c.result 0 1 (.preg pd (~~~(c.preg pa)) (BitVec.allOnes 32))))

/-- LOOP (R187): the body begins at the next bundle; at a fifth level it is a reserved operation (R185). -/
def execLoop (a : Issue) (count : Nat) (s : State) : Out :=
  let u := uLoop.takes [fSimm count]
  .next (if s.admits u a && decide (4 ≤ (s.coreAt a.core).loops.length) then s.slotVoid u a
    else s.issue u a (fun c => { c with loops := (count, c.pc + 1) :: c.loops }))

/-- ENDLOOP (R187): one pass of the innermost loop ends and the body begins again; after its last pass the loop is left. -/
def execEndloop (a : Issue) (s : State) : Out :=
  .next (s.issue uLoop a (fun c => match c.loops with
    | [] => c
    | (n, b) :: r => if n ≤ 1 then { c with loops := r } else { c with loops := (n - 1, b) :: r, back := some b }))

/-- TBL (R158, R183): a field of the row whose number an S register holds; a row the table does not list is not stated
(log entry 13). -/
def execTbl (a : Issue) (sd sa : Nat) (fld : TblField) (s : State) : Out :=
  .next (s.issue (uTable.takes [fSd sd, fSa sa]) a (fun c =>
    let r := (c.sreg sa).toNat
    c.result 0 2 (.sreg sd (match s.rowNow r, fld with
      | some x, .ctx => BitVec.ofNat 64 x.ctx
      | some x, .new => BitVec.ofNat 64 x.nw
      | some x, .bucket => BitVec.ofNat 64 x.entry.bucket
      | some x, .live => if x.entry.sid != 0xFFFFFFFF && !x.masked then 1 else 0
      | none, .ctx => Config.tblOutside 0 r
      | none, .new => Config.tblOutside 1 r
      | none, .bucket => Config.tblOutside 2 r
      | none, .live => Config.tblOutside 3 r))))

/-- STATUS (R183, R192): the schedule cycle, the core number or the sticky flags, whose places in the word the spec does not give
(log entry 13). -/
def execStatus (a : Issue) (sd : Nat) (sel : StatusSel) (s : State) : Out :=
  .next (s.issue (uStatus.takes [fSd sd]) a (fun c => c.result 0 1 (.sreg sd (match sel with
    | .cycle => BitVec.ofNat 64 c.cycle
    | .coreNumber => BitVec.ofNat 64 a.core
    | .sticky => Config.stickyWord c.ovf c.nan c.sat))))

end Sys2Proof.Machine
end

