-- ==== Sys2Proof/Machine/Ucie.lean ====
section
/-! DEFINITION. Meanings of the commands of the UCIe modules, the heartbeats and the ordered write stream (R482-R484, R502, R508). -/

namespace Sys2Proof.Machine

/-- Rates a module trains to, GT/s (R482). -/
def ucieRates : List Nat := [32, 24, 16, 12, 8, 4]

/-- UCIE_TRAINING_DONE (R482, R483): a module in training reaches a rate and a width, and counts as UP. -/
def execUcieTrainingDone (m rate width : Nat) (s : State) : Out :=
  let x := s.ucie m
  .next (if m < 8 ∧ x.state = 1 ∧ s.tick ≤ x.since + 250000 ∧ ucieRates.contains rate ∧ (width = 64 ∨ width = 32) then
      s.setUcie m ⟨2, rate, width, s.tick, s.tick⟩
    else s)

/-- UCIE_TRAIN_RETRY (R483): a module that is down trains again 1 ms after it failed or went down. -/
def execUcieTrainRetry (m : Nat) (s : State) : Out :=
  let x := s.ucie m
  .next (if m < 8 ∧ x.state = 0 ∧ x.since + 25000 ≤ s.tick then s.setUcie m { x with state := 1, since := s.tick } else s)

/-- UCIE_TRAIN_FAIL (R483): training that took 10 ms has failed, and is reported. -/
def execUcieTrainFail (m : Nat) (s : State) : Out :=
  let x := s.ucie m
  .next (if m < 8 ∧ x.state = 1 ∧ x.since + 250000 ≤ s.tick then
      (s.setUcie m { x with state := 0, since := s.tick }).report (ucieSource m) clsTimeout causeTrainFail
    else s)

/-- UCIE_LINK_DOWN (R483, R484): an UP module goes down, which is reported; its stations move or are LOST. -/
def execUcieLinkDown (m : Nat) (s : State) : Out :=
  .next (if m < 8 ∧ s.ucieUp m then (s.report (ucieSource m) clsTimeout causeLinkDown).ucieDown m else s)

/-- UCIE_HEARTBEAT (R508). -/
def execUcieHeartbeat (t : Transfer) (s : State) : Out := .next (s.transfer t 5 (fun s => s))

/-- HEARTBEAT_BLOCK_WRITE (R508, Table 15-13): every `h_hb_ticks`; entries left unread have their ring's header read once in the interval
(R497). -/
def execHeartbeatBlockWrite (st : Nat) (s : State) : Out :=
  let x := s.station st
  .next (if x.state = 1 ∧ x.hbLast + x.hbTicks ≤ s.tick ∧ s.deep = false then
      let s := s.countMissed st s.tick
      let x := s.station st
      let x := { x with hbCount := x.hbCount + 1, hbLast := s.tick }
      let x := x.push x.hbAddr (.heartbeat s.tick s.timeNow x.state x.hbCount)
      let x := if x.cq.cons != x.cq.write then x.readHeader s.tick true else x
      let x := if x.eq.cons != x.eq.write then x.readHeader s.tick false else x
      s.setStation st x
    else s)

/-- STATION_HEARTBEAT_LOSS (R508): three whole intervals without an arrival. -/
def execStationHeartbeatLoss (st : Nat) (s : State) : Out :=
  let x := s.station st
  .next (if x.state = 1 ∧ x.lastArrival + 3 * x.hbTicks < s.tick ∧ s.deep = false then (s.countMissed st s.tick).stationLost st else s)

/-- WRITE_POSTED (R502, R306): the oldest issued write of a station is acknowledged; a ring entry's token is delivered. -/
def execWritePosted (st : Nat) (s : State) : Out :=
  let x := s.station st
  .next (match x.out with
    | w :: r =>
      if w.issued then
        let s := s.setStation st { x with out := r }
        match w.body with
        | .ring e => s.entryPosted e
        | _ => s
      else s
    | [] => s)

end Sys2Proof.Machine
end

