-- ==== Sys2Proof/Machine/Vector.lean ====
section
/-! DEFINITION. Vector operations of a core (R186, R191-R203): one meaning for each row. -/

namespace Sys2Proof.Machine

/-- FADD (R192, R193). -/
def execFadd (a : Issue) (t : VType) (vd va vb : Nat) (vp : VPred) (s : State) : Out := .next (s.floatOp (uFarith.takes [fVb vb]) a 0 3 t vd va vb 0 vp (fun f x y _ => fadd f x y))

/-- FSUB (R192, R193). -/
def execFsub (a : Issue) (t : VType) (vd va vb : Nat) (vp : VPred) (s : State) : Out := .next (s.floatOp (uFarith.takes [fVb vb]) a 1 3 t vd va vb 0 vp (fun f x y _ => fsub f x y))

/-- FMUL (R192, R193). -/
def execFmul (a : Issue) (t : VType) (vd va vb : Nat) (vp : VPred) (s : State) : Out := .next (s.floatOp (uFarith.takes [fVb vb]) a 2 3 t vd va vb 0 vp (fun f x y _ => fmul f x y))

/-- FMA, one rounding (R192, R193). -/
def execFma (a : Issue) (t : VType) (vd va vb vc : Nat) (vp : VPred) (s : State) : Out := .next (s.floatOp (uFma.takes [fVb vb, fVc vc]) a 3 4 t vd va vb vc vp (fun f x y z => fma f x y z))

/-- FMS, one rounding (R192, R193). -/
def execFms (a : Issue) (t : VType) (vd va vb vc : Nat) (vp : VPred) (s : State) : Out := .next (s.floatOp (uFma.takes [fVb vb, fVc vc]) a 4 4 t vd va vb vc vp (fun f x y z => fms f x y z))

/-- FMIN (R193). -/
def execFmin (a : Issue) (t : VType) (vd va vb : Nat) (vp : VPred) (s : State) : Out := .next (s.floatOp (uFcmp.takes [fVb vb]) a 5 2 t vd va vb 0 vp (fun f x y _ => fmin f x y))

/-- FMAX (R193). -/
def execFmax (a : Issue) (t : VType) (vd va vb : Nat) (vp : VPred) (s : State) : Out := .next (s.floatOp (uFcmp.takes [fVb vb]) a 6 2 t vd va vb 0 vp (fun f x y _ => fmax f x y))

/-- FABS (R193). -/
def execFabs (a : Issue) (t : VType) (vd va : Nat) (vp : VPred) (s : State) : Out := .next (s.floatOp uFcmp a 7 2 t vd va va 0 vp (fun f x _ _ => fabs f x))

/-- FNEG (R193). -/
def execFneg (a : Issue) (t : VType) (vd va : Nat) (vp : VPred) (s : State) : Out := .next (s.floatOp uFcmp a 8 2 t vd va va 0 vp (fun f x _ _ => fneg f x))

/-- FCMP into the live bits of a predicate (R183, R186); INT32 lanes and NaN operands are not stated (log entry 13). -/
def execFcmp (a : Issue) (t : VType) (r : FRel) (pd va vb : Nat) (vp : VPred) (s : State) : Out :=
  let u := uFcmp.takes (fType t :: fVd pd :: fVa va :: fVb vb :: fVp vp)
  .next (match t with
    | .res => s.slotVoid u a
    | _ => s.issue u a (fun c =>
      let cmp (x y : Lane) : Bool := match laneFmt t with
        | some f => fcmp f r x y
        | none => Config.nanCompare 6 x y
      c.result 1 2 (.preg pd (maskOf (fun i => cmp (c.lane va i) (c.lane vb i))) (c.liveMask vp))))

/-- Integer ADD on 32-bit lanes (R183). -/
def execVintAdd (a : Issue) (vd va vb : Nat) (vp : VPred) (s : State) : Out := .next (s.intOp a 1 vd va vb vp (fun x y => x + y))

/-- Integer SUB on 32-bit lanes (R183). -/
def execVintSub (a : Issue) (vd va vb : Nat) (vp : VPred) (s : State) : Out := .next (s.intOp a 1 vd va vb vp (fun x y => x - y))

/-- Integer AND on 32-bit lanes (R183). -/
def execVintAnd (a : Issue) (vd va vb : Nat) (vp : VPred) (s : State) : Out := .next (s.intOp a 1 vd va vb vp (fun x y => x &&& y))

/-- Integer OR on 32-bit lanes (R183). -/
def execVintOr (a : Issue) (vd va vb : Nat) (vp : VPred) (s : State) : Out := .next (s.intOp a 1 vd va vb vp (fun x y => x ||| y))

/-- Integer XOR on 32-bit lanes (R183). -/
def execVintXor (a : Issue) (vd va vb : Nat) (vp : VPred) (s : State) : Out := .next (s.intOp a 1 vd va vb vp (fun x y => x ^^^ y))

/-- Integer MULLO on 32-bit lanes (R183). -/
def execMullo (a : Issue) (vd va vb : Nat) (vp : VPred) (s : State) : Out := .next (s.intOp a 3 vd va vb vp (fun x y => x * y))

/-- Integer SHL; a shift by 32 or more is not stated (log entry 13). -/
def execVintShl (a : Issue) (vd va vb : Nat) (vp : VPred) (s : State) : Out := .next (s.intOp a 1 vd va vb vp (fun x y => if y.toNat < 32 then x <<< y.toNat else Config.laneOpen 20 x y 0))

/-- Integer SHR; a shift by 32 or more is not stated (log entry 13). -/
def execVintShr (a : Issue) (vd va vb : Nat) (vp : VPred) (s : State) : Out := .next (s.intOp a 1 vd va vb vp (fun x y => if y.toNat < 32 then x >>> y.toNat else Config.laneOpen 21 x y 0))

/-- Integer SAR; a shift by 32 or more is not stated (log entry 13). -/
def execVintSar (a : Issue) (vd va vb : Nat) (vp : VPred) (s : State) : Out := .next (s.intOp a 1 vd va vb vp (fun x y => if y.toNat < 32 then x.sshiftRight y.toNat else Config.laneOpen 22 x y 0))

/-- ROTL: rotation by the lane count modulo 32 (R183). -/
def execRotl (a : Issue) (vd va vb : Nat) (vp : VPred) (s : State) : Out := .next (s.intOp a 1 vd va vb vp (fun x y => x.rotateLeft (y.toNat % 32)))

/-- MULHI; the spec does not give the signs of the factors (log entry 13). -/
def execMulhi (a : Issue) (vd va vb : Nat) (vp : VPred) (s : State) : Out := .next (s.intOp a 3 vd va vb vp (fun x y =>
    if Config.mulhSigned then BitVec.ofInt 32 (x.toInt * y.toInt / 2 ^ 32) else BitVec.ofNat 32 (x.toNat * y.toNat / 2 ^ 32)))

/-- FP32 to BF16, overflow to infinity (R192, R194). -/
def execCvtFp32Bf16 (a : Issue) (vd va : Nat) (vp : VPred) (s : State) : Out := .next (s.issue (uConv.takes (fVd vd :: fVa va :: fVp vp)) a (fun c => c.lanewise vd vp 3 (fun i => cvtToBf16 (c.lane va i))))

/-- BF16 to FP32 (R194). -/
def execCvtBf16Fp32 (a : Issue) (vd va : Nat) (vp : VPred) (s : State) : Out := .next (s.issue (uConv.takes (fVd vd :: fVa va :: fVp vp)) a (fun c => c.lanewise vd vp 3 (fun i => cvtFromBf16 (c.lane va i))))

/-- FP32 to INT32 (R194). -/
def execCvtFp32Int32 (a : Issue) (vd va : Nat) (vp : VPred) (s : State) : Out := .next (s.issue (uConv.takes (fVd vd :: fVa va :: fVp vp)) a (fun c => c.lanewise vd vp 3 (fun i => cvtToInt (c.lane va i))))

/-- INT32 to FP32 (R194). -/
def execCvtInt32Fp32 (a : Issue) (vd va : Nat) (vp : VPred) (s : State) : Out := .next (s.issue (uConv.takes (fVd vd :: fVa va :: fVp vp)) a (fun c => c.lanewise vd vp 3 (fun i => cvtFromInt (c.lane va i))))

/-- MXPACK (R195): lane t takes element code t in bits [7:0] and the block's scale code in bits [15:8] (log entry 16). A format without MX
blocks is a reserved operation. -/
def execMxpack (a : Issue) (fmt vd va : Nat) (vp : VPred) (s : State) : Out :=
  .next (if 1 ≤ fmt ∧ fmt ≤ 6 then
      s.issue (uConv.takes (fVd vd :: fVa va :: fVp vp)) a (fun c =>
        let (sc, qs) := mxEncode fmt (c.vreg va)
        c.lanewise vd vp 6 (fun i => (BitVec.ofNat 32 (qs.getD i 0 + 256 * sc), .none)))
    else s.slotVoid (uConv.takes (fVd vd :: fVa va :: fVp vp)) a)

/-- MXUNPACK (R195): each lane's element under the block's scale. -/
def execMxunpack (a : Issue) (fmt vd va : Nat) (vp : VPred) (s : State) : Out :=
  .next (if 1 ≤ fmt ∧ fmt ≤ 6 then
      s.issue (uConv.takes (fVd vd :: fVa va :: fVp vp)) a (fun c => c.lanewise vd vp 6 (fun i =>
        mxDecode fmt ((c.lane va i).toNat / 256 % 256) ((c.lane va i).toNat % 2 ^ mxBits fmt)))
    else s.slotVoid (uConv.takes (fVd vd :: fVa va :: fVp vp)) a)

/-- EXP2 (R198), 10 cc. -/
def execExp2 (a : Issue) (vd va : Nat) (vp : VPred) (s : State) : Out := .next (s.issue (uSfu.takes (fVd vd :: fVa va :: fVp vp)) a (fun c => c.lanewise vd vp 10 (fun i => exp2 (c.lane va i))))

/-- RCP (R198), 12 cc. -/
def execRcp (a : Issue) (vd va : Nat) (vp : VPred) (s : State) : Out := .next (s.issue (uSfu.takes (fVd vd :: fVa va :: fVp vp)) a (fun c => c.lanewise vd vp 12 (fun i => rcp (c.lane va i))))

/-- RSQ (R198), 14 cc. -/
def execRsq (a : Issue) (vd va : Nat) (vp : VPred) (s : State) : Out := .next (s.issue (uSfu.takes (fVd vd :: fVa va :: fVp vp)) a (fun c => c.lanewise vd vp 14 (fun i => rsq (c.lane va i))))

/-- A reduction of live lanes: the tree of R196, and of one lane what R193 says of a result that receives it. -/
def reduceLanes (op : Lane → Lane → Lane × Sticky) (empty : Lane) (lone : Lane → Lane × Sticky) : List Lane → Lane × Sticky
  | [x] => lone x
  | l => treeFold op empty 6 l

/-- A reduction over the live lanes by the tree of R196; the result stands in lane 0 and the other lanes keep their values. -/
def State.reduceOp (s : State) (a : Issue) (vd va : Nat) (vp : VPred) (op : Lane → Lane → Lane × Sticky) (empty : Lane)
    (lone : Lane → Lane × Sticky) : State :=
  s.issue (uRed.takes (fVd vd :: fVa va :: fVp vp)) a (fun c =>
    let m := c.liveMask vp
    let live := ((List.range 32).filter (fun i => m.getLsbD i)).map (fun i => c.lane va i)
    let (r, f) := reduceLanes op empty lone live
    (c.result 1 6 (.vreg vd [r] 1)).flags f)

/-- RSUM; an empty sum is +0 (R196), and so is the sum of one lane of zero (R193). -/
def execRsum (a : Issue) (vd va : Nat) (vp : VPred) (s : State) : Out := .next (s.reduceOp a vd va vp (fadd .f32) 0 (fun x => fadd .f32 x 0))

/-- RMAX; an empty maximum is −∞ (R196). A zero keeps the sign that FMAX gives it (log entry 194). -/
def execRmax (a : Issue) (vd va : Nat) (vp : VPred) (s : State) : Out := .next (s.reduceOp a vd va vp (fmax .f32) (f32Inf true) (fun x => fmax .f32 x x))

/-- RMIN; an empty minimum is not stated (log entry 13). -/
def execRmin (a : Issue) (vd va : Nat) (vp : VPred) (s : State) : Out := .next (s.reduceOp a vd va vp (fmin .f32) Config.emptyMin (fun x => fmin .f32 x x))

/-- Lane shuffle by an index vector (R183); an index of 32 or more is not stated (log entry 13). -/
def execLaneShuffle (a : Issue) (vd va vb : Nat) (vp : VPred) (s : State) : Out :=
  .next (s.issue (uPerm.takes (fVd vd :: fVa va :: fVb vb :: fVp vp)) a (fun c => c.lanewise vd vp 2 (fun i =>
    let j := c.lane vb i
    (if j.toNat < 32 then c.lane va j.toNat else Config.laneOpen 30 (c.lane va i) j 0, .none))))

/-- Broadcast of a lane (R183). -/
def execLaneBroadcast (a : Issue) (vd va lane : Nat) (vp : VPred) (s : State) : Out :=
  .next (s.issue (uPerm.takes (fVd vd :: fVa va :: fVp vp)) a (fun c => c.lanewise vd vp 2 (fun _ => (c.lane va (lane % 32), .none))))

/-- VMSEL (R203): a lane whose bit of the allowed-token word is 0 becomes −∞. -/
def execVmsel (a : Issue) (vd va sb : Nat) (vp : VPred) (s : State) : Out :=
  .next (s.issue (uMask.takes (fVd vd :: fVa va :: fVb sb :: fVp vp)) a (fun c => c.lanewise vd vp 2 (fun i =>
    (if (c.sreg sb).getLsbD i then c.lane va i else f32Inf true, .none))))

/-- Ones among the low 32 bits of a word. -/
def ones32 (w : SWord) : Nat := ((List.range 32).filter (fun i => w.getLsbD i)).length

/-- VMPOP (R203): the population count of the AND of two 32-bit words is added to an S register. -/
def execVmpop (a : Issue) (sd sa sb : Nat) (s : State) : Out :=
  .next (s.issue (uMask.takes [fVd sd, fVa sa, fVb sb]) a (fun c => c.result 1 2 (.sreg sd (c.sreg sd + BitVec.ofNat 64 (ones32 (c.sreg sa &&& c.sreg sb))))))

end Sys2Proof.Machine
end

