-- ==== Sys2Proof/Machine/Dispatch.lean ====
section
/-! DEFINITION. The dispatch: one arm for each command, each the one direct call of its meaning. -/

namespace Sys2Proof.Machine

/-- The effect of a command on everything but the queue. -/
def exec (i : Instr) (s : State) : Host.Outcome State Fault Refusal :=
  match i with
  | .datumTick => Sys2Proof.Machine.execDatumTick s
  | .frameBoundary descs cons outs => Sys2Proof.Machine.execFrameBoundary descs cons outs s
  | .parkTimer sid => Sys2Proof.Machine.execParkTimer sid s
  | .waitExpired sid => Sys2Proof.Machine.execWaitExpired sid s
  | .gateExpiry sid k => Sys2Proof.Machine.execGateExpiry sid k s
  | .msgTransfer t m => Sys2Proof.Machine.execMsgTransfer t m s
  | .ctrlRead t => Sys2Proof.Machine.execCtrlRead t s
  | .readData t data => Sys2Proof.Machine.execReadData t data s
  | .hostReadTimeout st tag => Sys2Proof.Machine.execHostReadTimeout st tag s
  | .referencedBytesArrived st seq => Sys2Proof.Machine.execReferencedBytesArrived st seq s
  | .ucieHeartbeat t => Sys2Proof.Machine.execUcieHeartbeat t s
  | .heartbeatBlockWrite st => Sys2Proof.Machine.execHeartbeatBlockWrite st s
  | .stationHeartbeatLoss st => Sys2Proof.Machine.execStationHeartbeatLoss st s
  | .ucieLinkDown m => Sys2Proof.Machine.execUcieLinkDown m s
  | .ucieTrainingDone m rate width => Sys2Proof.Machine.execUcieTrainingDone m rate width s
  | .ucieTrainRetry m => Sys2Proof.Machine.execUcieTrainRetry m s
  | .ucieTrainFail m => Sys2Proof.Machine.execUcieTrainFail m s
  | .writePosted st => Sys2Proof.Machine.execWritePosted st s
  | .hello t h b => Sys2Proof.Machine.execHello t h b s
  | .goodbye t h => Sys2Proof.Machine.execGoodbye t h s
  | .ringName t h b => Sys2Proof.Machine.execRingName t h b s
  | .objRead t h b => Sys2Proof.Machine.execObjRead t h b s
  | .objWrite t h b => Sys2Proof.Machine.execObjWrite t h b s
  | .openSession t h b => Sys2Proof.Machine.execOpenSession t h b s
  | .close t h => Sys2Proof.Machine.execClose t h s
  | .append t h b => Sys2Proof.Machine.execAppend t h b s
  | .resume t h b => Sys2Proof.Machine.execResume t h b s
  | .cancel t h => Sys2Proof.Machine.execCancel t h s
  | .park t h => Sys2Proof.Machine.execPark t h s
  | .revive t h => Sys2Proof.Machine.execRevive t h s
  | .prefixRegister t h b => Sys2Proof.Machine.execPrefixRegister t h b s
  | .prefixRelease t h => Sys2Proof.Machine.execPrefixRelease t h s
  | .checkpoint t h b => Sys2Proof.Machine.execCheckpoint t h b s
  | .query t h b => Sys2Proof.Machine.execQuery t h b s
  | .insert t h b => Sys2Proof.Machine.execInsert t h b s
  | .delete t h b => Sys2Proof.Machine.execDelete t h b s
  | .deferredMessagePass st seq => Sys2Proof.Machine.execDeferredMessagePass st seq s
  | .deferExpiry st seq => Sys2Proof.Machine.execDeferExpiry st seq s
  | .acceptDurable half pos => Sys2Proof.Machine.execAcceptDurable half pos s
  | .journalBatchClose half => Sys2Proof.Machine.execJournalBatchClose half s
  | .recordDurable half flushed => Sys2Proof.Machine.execRecordDurable half flushed s
  | .bucketTick => Sys2Proof.Machine.execBucketTick s
  | .tokenizeRecord sid => Sys2Proof.Machine.execTokenizeRecord sid s
  | .textWorkStart half => Sys2Proof.Machine.execTextWorkStart half s
  | .reviveReady sid => Sys2Proof.Machine.execReviveReady sid s
  | .pressurePark half => Sys2Proof.Machine.execPressurePark half s
  | .shadowReclaim half => Sys2Proof.Machine.execShadowReclaim half s
  | .hashTableRebuild half => Sys2Proof.Machine.execHashTableRebuild half s
  | .moveEngineGrant half idle => Sys2Proof.Machine.execMoveEngineGrant half idle s
  | .copy half queue d reads => Sys2Proof.Machine.execCopy half queue d reads s
  | .move half queue d reads => Sys2Proof.Machine.execMove half queue d reads s
  | .fill half queue d reads => Sys2Proof.Machine.execFill half queue d reads s
  | .verify half queue d reads => Sys2Proof.Machine.execVerify half queue d reads s
  | .parkBlocks half queue d reads => Sys2Proof.Machine.execParkBlocks half queue d reads s
  | .reviveBlocks half queue d reads => Sys2Proof.Machine.execReviveBlocks half queue d reads s
  | .descriptorWithdraw half queue tag => Sys2Proof.Machine.execDescriptorWithdraw half queue tag s
  | .tileLanded half queue r => Sys2Proof.Machine.execTileLanded half queue r s
  | .moveCompletion half queue => Sys2Proof.Machine.execMoveCompletion half queue s
  | .t3T4Timeout half queue => Sys2Proof.Machine.execT3T4Timeout half queue s
  | .partialUpdate half row d payload parity => Sys2Proof.Machine.execPartialUpdate half row d payload parity s
  | .snapshotCopy half => Sys2Proof.Machine.execSnapshotCopy half s
  | .copyFirst a payload => Sys2Proof.Machine.execCopyFirst a payload s
  | .moveCompletionLogRead w half => Sys2Proof.Machine.execMoveCompletionLogRead w half s
  | .stnT3ExtentWrite w st e v => Sys2Proof.Machine.execStnT3ExtentWrite w st e v s
  | .trvLoad w tt => Sys2Proof.Machine.execTrvLoad w tt s
  | .trvLoadDone tt img => Sys2Proof.Machine.execTrvLoadDone tt img s
  | .activate w tt agreed => Sys2Proof.Machine.execActivate w tt agreed s
  | .unload w tt => Sys2Proof.Machine.execUnload w tt s
  | .slotListIssue takeover others => Sys2Proof.Machine.execSlotListIssue takeover others s
  | .slotListReceive l => Sys2Proof.Machine.execSlotListReceive l s
  | .slotListDecision takeover others v => Sys2Proof.Machine.execSlotListDecision takeover others v s
  | .holdWindowEnd ests copies wake replay => Sys2Proof.Machine.execHoldWindowEnd ests copies wake replay s
  | .holdRequest windowEnd others => Sys2Proof.Machine.execHoldRequest windowEnd others s
  | .holdStart => Sys2Proof.Machine.execHoldStart s
  | .holdEnd => Sys2Proof.Machine.execHoldEnd s
  | .holdLogRead w => Sys2Proof.Machine.execHoldLogRead w s
  | .faultNotice position tick len => Sys2Proof.Machine.execFaultNotice position tick len s
  | .datumLock counter beyond => Sys2Proof.Machine.execDatumLock counter beyond s
  | .datumLocked err => Sys2Proof.Machine.execDatumLocked err s
  | .datumLockFail => Sys2Proof.Machine.execDatumLockFail s
  | .datumHoldover signalLost err => Sys2Proof.Machine.execDatumHoldover signalLost err s
  | .holdoverTimeout => Sys2Proof.Machine.execHoldoverTimeout s
  | .benchmarkTakeover lost => Sys2Proof.Machine.execBenchmarkTakeover lost s
  | .moveProgramIssue n reads => Sys2Proof.Machine.execMoveProgramIssue n reads s
  | .gatherRecord n reads => Sys2Proof.Machine.execGatherRecord n reads s
  | .appendEntry cluster n => Sys2Proof.Machine.execAppendEntry cluster n s
  | .traverseSearch n => Sys2Proof.Machine.execTraverseSearch n s
  | .scrub found => Sys2Proof.Machine.execScrub found s
  | .coreFaultDetect core inCluster f => Sys2Proof.Machine.execCoreFaultDetect core inCluster f s
  | .add a sd sa sb => Sys2Proof.Machine.execAdd a sd sa sb s
  | .sub a sd sa sb => Sys2Proof.Machine.execSub a sd sa sb s
  | .and a sd sa sb => Sys2Proof.Machine.execAnd a sd sa sb s
  | .or a sd sa sb => Sys2Proof.Machine.execOr a sd sa sb s
  | .xor a sd sa sb => Sys2Proof.Machine.execXor a sd sa sb s
  | .shl a sd sa sb => Sys2Proof.Machine.execShl a sd sa sb s
  | .shr a sd sa sb => Sys2Proof.Machine.execShr a sd sa sb s
  | .sar a sd sa sb => Sys2Proof.Machine.execSar a sd sa sb s
  | .li a sd imm => Sys2Proof.Machine.execLi a sd imm s
  | .mov a sd sa => Sys2Proof.Machine.execMov a sd sa s
  | .mul a sd sa sb => Sys2Proof.Machine.execMul a sd sa sb s
  | .mulh a sd sa sb => Sys2Proof.Machine.execMulh a sd sa sb s
  | .eq a pd sa sb => Sys2Proof.Machine.execEq a pd sa sb s
  | .ne a pd sa sb => Sys2Proof.Machine.execNe a pd sa sb s
  | .lt a pd sa sb => Sys2Proof.Machine.execLt a pd sa sb s
  | .ltu a pd sa sb => Sys2Proof.Machine.execLtu a pd sa sb s
  | .ge a pd sa sb => Sys2Proof.Machine.execGe a pd sa sb s
  | .geu a pd sa sb => Sys2Proof.Machine.execGeu a pd sa sb s
  | .predAnd a pd pa pb => Sys2Proof.Machine.execPredAnd a pd pa pb s
  | .predOr a pd pa pb => Sys2Proof.Machine.execPredOr a pd pa pb s
  | .predNot a pd pa => Sys2Proof.Machine.execPredNot a pd pa s
  | .loop a count => Sys2Proof.Machine.execLoop a count s
  | .endloop a => Sys2Proof.Machine.execEndloop a s
  | .tbl a sd sa fld => Sys2Proof.Machine.execTbl a sd sa fld s
  | .status a sd sel => Sys2Proof.Machine.execStatus a sd sel s
  | .fadd a t vd va vb vp => Sys2Proof.Machine.execFadd a t vd va vb vp s
  | .fsub a t vd va vb vp => Sys2Proof.Machine.execFsub a t vd va vb vp s
  | .fmul a t vd va vb vp => Sys2Proof.Machine.execFmul a t vd va vb vp s
  | .fma a t vd va vb vc vp => Sys2Proof.Machine.execFma a t vd va vb vc vp s
  | .fms a t vd va vb vc vp => Sys2Proof.Machine.execFms a t vd va vb vc vp s
  | .fmin a t vd va vb vp => Sys2Proof.Machine.execFmin a t vd va vb vp s
  | .fmax a t vd va vb vp => Sys2Proof.Machine.execFmax a t vd va vb vp s
  | .fabs a t vd va vp => Sys2Proof.Machine.execFabs a t vd va vp s
  | .fneg a t vd va vp => Sys2Proof.Machine.execFneg a t vd va vp s
  | .fcmp a t r pd va vb vp => Sys2Proof.Machine.execFcmp a t r pd va vb vp s
  | .vintAdd a vd va vb vp => Sys2Proof.Machine.execVintAdd a vd va vb vp s
  | .vintSub a vd va vb vp => Sys2Proof.Machine.execVintSub a vd va vb vp s
  | .vintAnd a vd va vb vp => Sys2Proof.Machine.execVintAnd a vd va vb vp s
  | .vintOr a vd va vb vp => Sys2Proof.Machine.execVintOr a vd va vb vp s
  | .vintXor a vd va vb vp => Sys2Proof.Machine.execVintXor a vd va vb vp s
  | .vintShl a vd va vb vp => Sys2Proof.Machine.execVintShl a vd va vb vp s
  | .vintShr a vd va vb vp => Sys2Proof.Machine.execVintShr a vd va vb vp s
  | .vintSar a vd va vb vp => Sys2Proof.Machine.execVintSar a vd va vb vp s
  | .rotl a vd va vb vp => Sys2Proof.Machine.execRotl a vd va vb vp s
  | .mullo a vd va vb vp => Sys2Proof.Machine.execMullo a vd va vb vp s
  | .mulhi a vd va vb vp => Sys2Proof.Machine.execMulhi a vd va vb vp s
  | .cvtFp32Bf16 a vd va vp => Sys2Proof.Machine.execCvtFp32Bf16 a vd va vp s
  | .cvtBf16Fp32 a vd va vp => Sys2Proof.Machine.execCvtBf16Fp32 a vd va vp s
  | .cvtFp32Int32 a vd va vp => Sys2Proof.Machine.execCvtFp32Int32 a vd va vp s
  | .cvtInt32Fp32 a vd va vp => Sys2Proof.Machine.execCvtInt32Fp32 a vd va vp s
  | .mxpack a fmt vd va vp => Sys2Proof.Machine.execMxpack a fmt vd va vp s
  | .mxunpack a fmt vd va vp => Sys2Proof.Machine.execMxunpack a fmt vd va vp s
  | .exp2 a vd va vp => Sys2Proof.Machine.execExp2 a vd va vp s
  | .rcp a vd va vp => Sys2Proof.Machine.execRcp a vd va vp s
  | .rsq a vd va vp => Sys2Proof.Machine.execRsq a vd va vp s
  | .rsum a vd va vp => Sys2Proof.Machine.execRsum a vd va vp s
  | .rmax a vd va vp => Sys2Proof.Machine.execRmax a vd va vp s
  | .rmin a vd va vp => Sys2Proof.Machine.execRmin a vd va vp s
  | .laneShuffle a vd va vb vp => Sys2Proof.Machine.execLaneShuffle a vd va vb vp s
  | .laneBroadcast a vd va lane vp => Sys2Proof.Machine.execLaneBroadcast a vd va lane vp s
  | .vmsel a vd va sb vp => Sys2Proof.Machine.execVmsel a vd va sb vp s
  | .vmpop a sd sa sb => Sys2Proof.Machine.execVmpop a sd sa sb s
  | .mma a fmt acc zero abuf bbuf rp => Sys2Proof.Machine.execMma a fmt acc zero abuf bbuf rp s
  | .mrd a vd acc p => Sys2Proof.Machine.execMrd a vd acc p s
  | .mzero a acc => Sys2Proof.Machine.execMzero a acc s
  | .ld a vd base off => Sys2Proof.Machine.execLd a vd base off s
  | .st a vs base off => Sys2Proof.Machine.execSt a vs base off s
  | .lds a sd base off => Sys2Proof.Machine.execLds a sd base off s
  | .sts a ss base off => Sys2Proof.Machine.execSts a ss base off s
  | .cld a sdst base off => Sys2Proof.Machine.execCld a sdst base off s
  | .cst a ssrc base off => Sys2Proof.Machine.execCst a ssrc base off s
  | .mldA a fmt b base off => Sys2Proof.Machine.execMldA a fmt b base off s
  | .mldB a fmt b base off => Sys2Proof.Machine.execMldB a fmt b base off s
  | .mldVt a e5m2 b base off phi dblk => Sys2Proof.Machine.execMldVt a e5m2 b base off phi dblk s
  | .put a sdst base off => Sys2Proof.Machine.execPut a sdst base off s
  | .twalk a sd snode sbyte => Sys2Proof.Machine.execTwalk a sd snode sbyte s
  | .syncAdd a obj rs => Sys2Proof.Machine.execSyncAdd a obj rs s
  | .syncSet a obj => Sys2Proof.Machine.execSyncSet a obj s
  | .syncClear a obj => Sys2Proof.Machine.execSyncClear a obj s
  | .waitCount a obj rs => Sys2Proof.Machine.execWaitCount a obj rs s
  | .waitEvent a obj rs => Sys2Proof.Machine.execWaitEvent a obj rs s
  | .waitRound a obj rs => Sys2Proof.Machine.execWaitRound a obj rs s
  | .arrive a obj rs => Sys2Proof.Machine.execArrive a obj rs s
  | .syncWaitTimeout core => Sys2Proof.Machine.execSyncWaitTimeout core s
  | .groupSyncUpdate others => Sys2Proof.Machine.execGroupSyncUpdate others s
  | .stnSyncDefine w st name type half operand => Sys2Proof.Machine.execStnSyncDefine w st name type half operand s
  | .stnSyncDelete w st name => Sys2Proof.Machine.execStnSyncDelete w st name s
  | .stnSyncAdd w st name amount => Sys2Proof.Machine.execStnSyncAdd w st name amount s
  | .stnSyncSet w st name => Sys2Proof.Machine.execStnSyncSet w st name s
  | .stnSyncClear w st name => Sys2Proof.Machine.execStnSyncClear w st name s
  | .stnSyncArrive w st name round => Sys2Proof.Machine.execStnSyncArrive w st name round s
  | .mdlLoad w mm vocab => Sys2Proof.Machine.execMdlLoad w mm vocab s
  | .mdlLoadDone mm img => Sys2Proof.Machine.execMdlLoadDone mm img s
  | .mdlUnload w mm => Sys2Proof.Machine.execMdlUnload w mm s
  | .dictLoad w dd img => Sys2Proof.Machine.execDictLoad w dd img s
  | .dictUnload w dd => Sys2Proof.Machine.execDictUnload w dd s
  | .gpLoad w gg img => Sys2Proof.Machine.execGpLoad w gg img s
  | .gpUnload w gg => Sys2Proof.Machine.execGpUnload w gg s
  | .stopSetWrite w st k v => Sys2Proof.Machine.execStopSetWrite w st k v s
  | .camSearch half key parity => Sys2Proof.Machine.execCamSearch half key parity s
  | .camInsert half table key result => Sys2Proof.Machine.execCamInsert half table key result s
  | .camRemove half table key => Sys2Proof.Machine.execCamRemove half table key s
  | .orderedInsert half e => Sys2Proof.Machine.execOrderedInsert half e s
  | .searchWindow half => Sys2Proof.Machine.execSearchWindow half s
  | .throttleUpdate half quarters => Sys2Proof.Machine.execThrottleUpdate half quarters s
  | .create w ii => Sys2Proof.Machine.execCreate w ii s
  | .vxLoad w ii img => Sys2Proof.Machine.execVxLoad w ii img s
  | .drop w ii => Sys2Proof.Machine.execDrop w ii s
  | .vxQueryStart half => Sys2Proof.Machine.execVxQueryStart half s
  | .insertLink ii => Sys2Proof.Machine.execInsertLink ii s
  | .epochAdvance ii => Sys2Proof.Machine.execEpochAdvance ii s
  | .repairSweep ii count => Sys2Proof.Machine.execRepairSweep ii count s
  | .arInsert w v => Sys2Proof.Machine.execArInsert w v s
  | .arRemove w id => Sys2Proof.Machine.execArRemove w id s
  | .glCommit w half => Sys2Proof.Machine.execGlCommit w half s
  | .gateListEntry half => Sys2Proof.Machine.execGateListEntry half s
  | .bucketWrite w st res burst v => Sys2Proof.Machine.execBucketWrite w st res burst v s
  | .compaction half => Sys2Proof.Machine.execCompaction half s
  | .witnessLapse absent => Sys2Proof.Machine.execWitnessLapse absent s
  | .witnessProbe answered => Sys2Proof.Machine.execWitnessProbe answered s
  | .witnessCopyDone => Sys2Proof.Machine.execWitnessCopyDone s
  | .channelFailed c why row => Sys2Proof.Machine.execChannelFailed c why row s
  | .declareFailed w c => Sys2Proof.Machine.execDeclareFailed w c s
  | .retrain w c => Sys2Proof.Machine.execRetrain w c s
  | .rebuild w c => Sys2Proof.Machine.execRebuild w c s
  | .channelRebuildDone c => Sys2Proof.Machine.execChannelRebuildDone c s
  | .stackFailed k => Sys2Proof.Machine.execStackFailed k s
  | .chainHeartbeatLoss cons => Sys2Proof.Machine.execChainHeartbeatLoss cons s
  | .halfLost h cons => Sys2Proof.Machine.execHalfLost h cons s
  | .adopt w tiles => Sys2Proof.Machine.execAdopt w tiles s
  | .errorRecorderTake half => Sys2Proof.Machine.execErrorRecorderTake half s
  | .coalesceFlush src => Sys2Proof.Machine.execCoalesceFlush src s
  | .errRead w => Sys2Proof.Machine.execErrRead w s
  | .errClear w src => Sys2Proof.Machine.execErrClear w src s
  | .ckCheckpoint w => Sys2Proof.Machine.execCkCheckpoint w s
  | .abort w => Sys2Proof.Machine.execAbort w s
  | .shardWrite half count => Sys2Proof.Machine.execShardWrite half count s
  | .manifestWrite others group => Sys2Proof.Machine.execManifestWrite others group s
  | .checkpointComplete => Sys2Proof.Machine.execCheckpointComplete s
  | .restore w found => Sys2Proof.Machine.execRestore w found s
  | .codewordFecFail port lane seq => Sys2Proof.Machine.execCodewordFecFail port lane seq s
  | .ack port seq => Sys2Proof.Machine.execAck port seq s
  | .nak port seq => Sys2Proof.Machine.execNak port seq s
  | .linkParam port lp => Sys2Proof.Machine.execLinkParam port lp s
  | .echo port rtt => Sys2Proof.Machine.execEcho port rtt s
  | .portTrainingTimeout port step began => Sys2Proof.Machine.execPortTrainingTimeout port step began s
  | .portRetrain port => Sys2Proof.Machine.execPortRetrain port s
  | .portUp port peerLatency => Sys2Proof.Machine.execPortUp port peerLatency s
  | .lossOfSignal lane => Sys2Proof.Machine.execLossOfSignal lane s
  | .laneFailed lane => Sys2Proof.Machine.execLaneFailed lane s
  | .heartbeat port rx => Sys2Proof.Machine.execHeartbeat port rx s
  | .portHeartbeatLoss port => Sys2Proof.Machine.execPortHeartbeatLoss port s
  | .sessionMsg h st m => Sys2Proof.Machine.execSessionMsg h st m s
  | .sessionReply h st c => Sys2Proof.Machine.execSessionReply h st c s
  | .ringWrite h st addr e => Sys2Proof.Machine.execRingWrite h st addr e s
  | .eventRelay h st e => Sys2Proof.Machine.execEventRelay h st e s
  | .leaseRequest h kind tiles => Sys2Proof.Machine.execLeaseRequest h kind tiles s
  | .leaseGrant h lease kind tiles => Sys2Proof.Machine.execLeaseGrant h lease kind tiles s
  | .leaseRecall h lease => Sys2Proof.Machine.execLeaseRecall h lease s
  | .leaseRelease h lease => Sys2Proof.Machine.execLeaseRelease h lease s
  | .t4Read h lease off count => Sys2Proof.Machine.execT4Read h lease off count s
  | .t4Data h lease off tiles => Sys2Proof.Machine.execT4Data h lease off tiles s
  | .t4Write h lease off tiles => Sys2Proof.Machine.execT4Write h lease off tiles s
  | .t4Done h lease status => Sys2Proof.Machine.execT4Done h lease status s
  | .witnessAppend h recs => Sys2Proof.Machine.execWitnessAppend h recs s
  | .witnessDurable h pos => Sys2Proof.Machine.execWitnessDurable h pos s
  | .witnessTrim h pos => Sys2Proof.Machine.execWitnessTrim h pos s
  | .propose w img => Sys2Proof.Machine.execPropose w img s
  | .platPropose h ballot img => Sys2Proof.Machine.execPlatPropose h ballot img s
  | .platAccept h epoch ballot prior => Sys2Proof.Machine.execPlatAccept h epoch ballot prior s
  | .platCommit h img => Sys2Proof.Machine.execPlatCommit h img s
  | .platVoteTimeout => Sys2Proof.Machine.execPlatVoteTimeout s
  | .platJoin h device majorLo majorHi minor features identity => Sys2Proof.Machine.execPlatJoin h device majorLo majorHi minor features identity s
  | .platFetch h epoch => Sys2Proof.Machine.execPlatFetch h epoch s
  | .platImage h img => Sys2Proof.Machine.execPlatImage h img s
  | .peerReport h devices => Sys2Proof.Machine.execPeerReport h devices s
  | .handover h x recs => Sys2Proof.Machine.execHandover h x recs s
  | .drain h sessions => Sys2Proof.Machine.execDrain h sessions s
  | .handoverAck h => Sys2Proof.Machine.execHandoverAck h s
  | .moved h device epoch => Sys2Proof.Machine.execMoved h device epoch s
  | .platDrainTimeout => Sys2Proof.Machine.execPlatDrainTimeout s
  | .platEpochStale => Sys2Proof.Machine.execPlatEpochStale s
  | .handoverPull => Sys2Proof.Machine.execHandoverPull s
  | .release w lease => Sys2Proof.Machine.execRelease w lease s
  | .compositionWrite w v => Sys2Proof.Machine.execCompositionWrite w v s
  | .associate f majLo majHi minor feat => Sys2Proof.Machine.execAssociate f majLo majHi minor feat s
  | .odRead f => Sys2Proof.Machine.execOdRead f s
  | .odWrite f v => Sys2Proof.Machine.execOdWrite f v s
  | .present f part => Sys2Proof.Machine.execPresent f part s
  | .odRelease f => Sys2Proof.Machine.execOdRelease f s
  | .discover f => Sys2Proof.Machine.execDiscover f s
  | .opdunIdleTimeout a => Sys2Proof.Machine.execOpdunIdleTimeout a s
  | .opdunFragmentTimeout a => Sys2Proof.Machine.execOpdunFragmentTimeout a s
  | .getId m => Sys2Proof.Machine.execGetId m s
  | .getVersion m => Sys2Proof.Machine.execGetVersion m s
  | .getTemp m => Sys2Proof.Machine.execGetTemp m s
  | .getPower m => Sys2Proof.Machine.execGetPower m s
  | .readLog m => Sys2Proof.Machine.execReadLog m s
  | .clearLog m => Sys2Proof.Machine.execClearLog m s
  | .readReg m => Sys2Proof.Machine.execReadReg m s
  | .writeReg m => Sys2Proof.Machine.execWriteReg m s
  | .fwChunk m => Sys2Proof.Machine.execFwChunk m s
  | .fwVerify m => Sys2Proof.Machine.execFwVerify m s
  | .fwCommit m => Sys2Proof.Machine.execFwCommit m s
  | .getFence m => Sys2Proof.Machine.execGetFence m s
  | .getPlat m => Sys2Proof.Machine.execGetPlat m s
  | .stnCapStage w ss part => Sys2Proof.Machine.execStnCapStage w ss part s
  | .tkCommit w k => Sys2Proof.Machine.execTkCommit w k s
  | .tkClear w k => Sys2Proof.Machine.execTkClear w k s
  | .stage w img => Sys2Proof.Machine.execStage w img s
  | .fwChunkWrite w v => Sys2Proof.Machine.execFwChunkWrite w v s
  | .fwCmdVerify w => Sys2Proof.Machine.execFwCmdVerify w s
  | .fwActivate w => Sys2Proof.Machine.execFwActivate w s
  | .confirm w => Sys2Proof.Machine.execConfirm w s
  | .erase w => Sys2Proof.Machine.execErase w s
  | .fwTrialTimeout => Sys2Proof.Machine.execFwTrialTimeout s
  | .attNonceWrite w nonce => Sys2Proof.Machine.execAttNonceWrite w nonce s
  | .attestReady => Sys2Proof.Machine.execAttestReady s
  | .calSet w v => Sys2Proof.Machine.execCalSet w v s
  | .calendarSecond => Sys2Proof.Machine.execCalendarSecond s
  | .persistProgrammed ok => Sys2Proof.Machine.execPersistProgrammed ok s
  | .objectWrite w index sub v => Sys2Proof.Machine.execObjectWrite w index sub v s
  | .fenceCore w core => Sys2Proof.Machine.execFenceCore w core s
  | .fenceCluster w core => Sys2Proof.Machine.execFenceCluster w core s
  | .clearCluster w core => Sys2Proof.Machine.execClearCluster w core s
  | .clusterSelfTestDone cluster pass => Sys2Proof.Machine.execClusterSelfTestDone cluster pass s
  | .deepSleep w => Sys2Proof.Machine.execDeepSleep w s
  | .autonomousDeepSleep => Sys2Proof.Machine.execAutonomousDeepSleep s
  | .deepSleepWake cause pin => Sys2Proof.Machine.execDeepSleepWake cause pin s
  | .warmReset w => Sys2Proof.Machine.execWarmReset w s
  | .resetHalf0 w => Sys2Proof.Machine.execResetHalf0 w s
  | .resetHalf1 w => Sys2Proof.Machine.execResetHalf1 w s
  | .wakeWindow half => Sys2Proof.Machine.execWakeWindow half s
  | .clusterWakeDone n => Sys2Proof.Machine.execClusterWakeDone n s
  | .powerGovernorTick r => Sys2Proof.Machine.execPowerGovernorTick r s
  | .thermalCheck x => Sys2Proof.Machine.execThermalCheck x s
  | .thermalTrip => Sys2Proof.Machine.execThermalTrip s
  | .hwTrip => Sys2Proof.Machine.execHwTrip s
  | .powerOn => Sys2Proof.Machine.execPowerOn s
  | .resetN => Sys2Proof.Machine.execResetN s
  | .strapSample levels => Sys2Proof.Machine.execStrapSample levels s
  | .stakeSlot => Sys2Proof.Machine.execStakeSlot s
  | .supplyFault x cons => Sys2Proof.Machine.execSupplyFault x cons s
  | .coreVoltageStep half up => Sys2Proof.Machine.execCoreVoltageStep half up s
  | .holdoverRelock err => Sys2Proof.Machine.execHoldoverRelock err s
  | .managementWatchdog => Sys2Proof.Machine.execManagementWatchdog s
  | .ucieModuleSleep m => Sys2Proof.Machine.execUcieModuleSleep m s
  | .pinGlitch resetN => Sys2Proof.Machine.execPinGlitch resetN s
  | .chainReturn => Sys2Proof.Machine.execChainReturn s
  | .neighbourDiscovery => Sys2Proof.Machine.execNeighbourDiscovery s
  | .calendarOscillatorStopped => Sys2Proof.Machine.execCalendarOscillatorStopped s
  | .intakeInService => Sys2Proof.Machine.execIntakeInService s

end Sys2Proof.Machine
end

