-- ==== Sys2Proof/Machine/Footprint.lean ====
section
/-! DEFINITION. The parts of the state, and for each command the parts that it may change: every other part stands as it stood. -/

namespace Sys2Proof.Machine

/-- The parts of the state beside the queue. -/
inductive Part
  /-- the datum counter (R12) -/
  | tick
  /-- the number of the running frame -/
  | frame
  /-- the tick at which it starts -/
  | frameStart
  /-- the object dictionary, its flash and counters -/
  | dict
  /-- management: associations, keys, firmware, calendar, logs -/
  | mgmt
  /-- the field book, the witness, channel and half losses, the error recorder -/
  | fb
  /-- stations, their intakes and streams, UCIe modules -/
  | stn
  /-- session table and handle tables -/
  | ses
  /-- tiles and move engines -/
  | tier
  /-- groups, gates and timed waits -/
  | shape
  /-- traverse slots, slot lists, holds -/
  | trv
  /-- cores, core and cluster stores -/
  | core
  /-- dictionary and model slots -/
  | text
  /-- associative engines and vector indexes -/
  | srch
  /-- synchronisation objects and waits -/
  | sync
  /-- checkpoints -/
  | ck
  /-- fabric, leases, plat and hand-over -/
  | fab
  /-- power, sleep, pins and resets -/
  | pwr
  /-- counter of free values (log entry 5) -/
  | free
deriving DecidableEq, Repr

/-- Two states agree on a part. -/
def State.agrees (s t : State) : Part → Prop
  | .tick => t.tick = s.tick
  | .frame => t.frame = s.frame
  | .frameStart => t.frameStart = s.frameStart
  | .dict => t.dict = s.dict
  | .mgmt => t.mgmt = s.mgmt
  | .fb => t.fb = s.fb
  | .stn => t.stn = s.stn
  | .ses => t.ses = s.ses
  | .tier => t.tier = s.tier
  | .shape => t.shape = s.shape
  | .trv => t.trv = s.trv
  | .core => t.core = s.core
  | .text => t.text = s.text
  | .srch => t.srch = s.srch
  | .sync => t.sync = s.sync
  | .ck => t.ck = s.ck
  | .fab => t.fab = s.fab
  | .pwr => t.pwr = s.pwr
  | .free => t.free = s.free

/-- The parts that a command may change. -/
def footprint : Instr → List Part
  | .datumTick =>
      [.tick, .dict, .fb, .pwr]
  | .frameBoundary .. | .msgTransfer .. | .readData .. | .hostReadTimeout .. | .referencedBytesArrived .. | .hello .. | .goodbye ..
    | .ringName .. | .objRead .. | .objWrite .. | .openSession .. | .close .. | .append .. | .resume .. | .cancel .. | .park ..
    | .revive .. | .prefixRegister .. | .prefixRelease .. | .checkpoint .. | .query .. | .insert .. | .delete ..
    | .deferredMessagePass .. | .deferExpiry .. | .odWrite .. | .clearLog .. | .writeReg .. | .fwChunk .. | .fwCommit ..
    | .fwTrialTimeout | .objectWrite .. | .warmReset .. | .thermalTrip | .resetN | .managementWatchdog | .intakeInService =>
      [.frame, .frameStart, .dict, .mgmt, .fb, .stn, .ses, .tier, .shape, .trv, .core, .text, .srch, .sync, .ck, .fab, .pwr, .free]
  | .parkTimer .. | .pressurePark .. | .handoverAck .. =>
      [.dict, .fb, .ses, .tier, .srch, .fab, .free]
  | .waitExpired .. =>
      [.dict, .fb, .stn, .ses]
  | .gateExpiry .. =>
      [.dict, .fb, .stn, .ses, .tier, .trv]
  | .ctrlRead .. | .ucieHeartbeat .. =>
      [.frame, .frameStart, .dict, .mgmt, .fb, .stn, .pwr]
  | .heartbeatBlockWrite .. =>
      [.dict, .stn]
  | .stationHeartbeatLoss .. | .ucieLinkDown .. =>
      [.dict, .fb, .stn, .ses, .tier, .srch, .free]
  | .ucieTrainingDone .. | .ucieTrainRetry .. | .ucieModuleSleep .. =>
      [.stn]
  | .ucieTrainFail .. =>
      [.dict, .fb, .stn]
  | .writePosted .. =>
      [.dict, .fb, .stn, .ses, .tier, .trv, .srch]
  | .acceptDurable .. | .recordDurable .. | .sessionMsg .. | .witnessDurable .. | .drain .. =>
      [.dict, .fb, .stn, .ses, .tier, .trv, .srch, .fab, .free]
  | .journalBatchClose .. =>
      [.dict, .fb, .stn, .fab]
  | .bucketTick =>
      [.dict, .shape]
  | .tokenizeRecord .. =>
      [.dict, .stn, .ses, .tier, .free]
  | .textWorkStart .. =>
      [.dict, .core, .text]
  | .reviveReady .. =>
      [.dict, .fb, .stn, .ses, .tier, .free]
  | .shadowReclaim .. =>
      [.dict, .ses, .tier]
  | .hashTableRebuild .. =>
      [.ses]
  | .moveEngineGrant .. =>
      [.tier, .shape, .fab]
  | .copy .. | .move .. | .fill .. | .verify .. | .parkBlocks .. | .reviveBlocks .. | .moveProgramIssue .. | .gatherRecord .. =>
      [.dict, .fb, .stn, .ses, .tier, .shape, .trv, .core, .srch, .free]
  | .descriptorWithdraw .. =>
      [.dict, .fb, .ses, .tier, .trv, .core, .srch, .sync]
  | .tileLanded .. =>
      [.dict, .fb, .stn, .ses, .tier, .trv, .core, .srch, .fab, .free]
  | .moveCompletion .. =>
      [.dict, .fb, .ses, .tier, .trv, .core, .srch, .sync, .fab]
  | .t3T4Timeout .. =>
      [.dict, .mgmt, .fb, .stn, .ses, .tier, .trv, .core, .srch, .sync, .ck, .free]
  | .partialUpdate .. | .copyFirst .. | .appendEntry .. =>
      [.dict, .ses, .tier, .trv, .core]
  | .snapshotCopy .. =>
      [.dict, .tier]
  | .moveCompletionLogRead .. | .unload .. | .holdLogRead .. | .errRead .. =>
      [.dict, .mgmt, .fb, .stn, .tier, .trv]
  | .stnT3ExtentWrite .. | .stopSetWrite .. | .bucketWrite .. | .persistProgrammed .. =>
      [.dict, .mgmt, .fb, .stn, .ses, .tier, .shape, .text, .free]
  | .trvLoad .. =>
      [.dict, .mgmt, .fb, .stn, .ses, .tier, .trv, .free]
  | .trvLoadDone .. =>
      [.dict, .ses, .tier, .trv]
  | .activate .. =>
      [.dict, .mgmt, .fb, .stn, .ses, .shape, .trv]
  | .slotListIssue .. =>
      [.dict, .ses, .tier, .shape, .trv]
  | .slotListReceive .. =>
      [.ses, .trv]
  | .slotListDecision .. =>
      [.dict, .ses, .shape, .trv]
  | .holdWindowEnd .. | .holdRequest .. | .faultNotice .. =>
      [.trv]
  | .holdStart =>
      [.dict, .fb, .trv, .pwr]
  | .holdEnd | .datumLocked .. | .datumHoldover .. | .holdoverRelock .. =>
      [.dict, .trv]
  | .datumLock .. =>
      [.tick, .frame, .frameStart, .dict, .trv]
  | .datumLockFail =>
      [.dict, .mgmt, .stn, .trv]
  | .holdoverTimeout =>
      [.dict, .mgmt, .stn, .tier, .trv, .srch, .ck]
  | .benchmarkTakeover .. =>
      [.dict, .mgmt, .stn, .tier, .trv, .ck]
  | .traverseSearch .. | .camSearch .. | .searchWindow .. =>
      [.dict, .trv, .core, .srch]
  | .scrub .. | .coreFaultDetect .. | .add .. | .sub .. | .and .. | .or .. | .xor .. | .shl .. | .shr .. | .sar .. | .li .. | .mov ..
    | .mul .. | .mulh .. | .eq .. | .ne .. | .lt .. | .ltu .. | .ge .. | .geu .. | .predAnd .. | .predOr .. | .predNot .. | .loop ..
    | .endloop .. | .tbl .. | .status .. | .fadd .. | .fsub .. | .fmul .. | .fma .. | .fms .. | .fmin .. | .fmax .. | .fabs .. | .fneg ..
    | .fcmp .. | .vintAdd .. | .vintSub .. | .vintAnd .. | .vintOr .. | .vintXor .. | .vintShl .. | .vintShr .. | .vintSar .. | .rotl ..
    | .mullo .. | .mulhi .. | .cvtFp32Bf16 .. | .cvtBf16Fp32 .. | .cvtFp32Int32 .. | .cvtInt32Fp32 .. | .mxpack .. | .mxunpack ..
    | .exp2 .. | .rcp .. | .rsq .. | .rsum .. | .rmax .. | .rmin .. | .laneShuffle .. | .laneBroadcast .. | .vmsel .. | .vmpop ..
    | .mma .. | .mrd .. | .mzero .. | .ld .. | .st .. | .lds .. | .sts .. | .cld .. | .cst .. | .mldA .. | .mldB .. | .mldVt .. | .put ..
    | .twalk .. | .syncAdd .. | .syncSet .. | .syncClear .. | .waitCount .. | .waitEvent .. | .waitRound .. | .arrive .. | .fenceCore ..
    | .fenceCluster .. | .clusterSelfTestDone .. =>
      [.dict, .mgmt, .fb, .stn, .trv, .core, .text, .sync, .pwr]
  | .syncWaitTimeout .. | .groupSyncUpdate .. =>
      [.dict, .fb, .core, .sync]
  | .stnSyncDefine .. | .stnSyncDelete .. =>
      [.dict, .mgmt, .fb, .stn, .sync]
  | .stnSyncAdd .. | .stnSyncSet .. | .stnSyncClear .. | .stnSyncArrive .. | .clearCluster .. =>
      [.dict, .mgmt, .fb, .stn, .core, .sync]
  | .mdlLoad .. | .mdlUnload .. =>
      [.dict, .mgmt, .fb, .stn, .tier]
  | .mdlLoadDone .. =>
      [.dict, .ses, .tier, .free]
  | .dictLoad .. | .gpLoad .. =>
      [.dict, .mgmt, .fb, .stn, .ses, .tier, .text, .free]
  | .dictUnload .. | .gpUnload .. =>
      [.dict, .mgmt, .fb, .stn, .tier, .text]
  | .camInsert .. =>
      [.dict, .ses, .srch]
  | .camRemove .. =>
      [.srch]
  | .orderedInsert .. | .throttleUpdate .. =>
      [.dict, .srch]
  | .create .. | .vxLoad .. | .channelFailed .. | .declareFailed .. =>
      [.dict, .mgmt, .fb, .stn, .ses, .tier, .srch, .free]
  | .drop .. =>
      [.dict, .mgmt, .fb, .stn, .ses, .tier, .srch]
  | .vxQueryStart .. =>
      [.dict, .stn, .srch]
  | .insertLink .. | .repairSweep .. =>
      [.dict, .ses, .tier, .srch]
  | .epochAdvance .. =>
      [.dict, .fb, .stn, .ses, .tier, .srch]
  | .arInsert .. | .arRemove .. =>
      [.dict, .mgmt, .fb, .stn, .srch]
  | .glCommit .. =>
      [.dict, .mgmt, .fb, .stn, .shape]
  | .gateListEntry .. =>
      [.shape]
  | .compaction .. =>
      [.dict, .fb, .fab]
  | .witnessLapse .. | .stackFailed .. =>
      [.dict, .mgmt, .fb, .stn, .ses, .tier, .trv, .srch, .free]
  | .witnessProbe .. | .release .. =>
      [.dict, .mgmt, .fb, .stn, .fab]
  | .witnessCopyDone =>
      [.fb, .stn, .fab]
  | .retrain .. | .rebuild .. | .errClear .. | .opdunFragmentTimeout .. | .tkCommit .. | .tkClear .. | .stage .. | .fwChunkWrite ..
    | .fwCmdVerify .. | .fwActivate .. | .confirm .. | .erase .. | .attNonceWrite .. | .calSet .. | .chainReturn =>
      [.dict, .mgmt, .fb, .stn]
  | .channelRebuildDone .. | .errorRecorderTake .. | .coalesceFlush .. =>
      [.dict, .fb]
  | .chainHeartbeatLoss .. | .halfLost .. =>
      [.dict, .mgmt, .fb, .stn, .ses, .tier, .shape, .trv, .core, .srch, .sync, .ck, .fab, .pwr, .free]
  | .adopt .. =>
      [.dict, .mgmt, .fb, .stn, .ses, .tier, .shape, .trv, .text, .srch, .ck, .fab, .pwr, .free]
  | .ckCheckpoint .. =>
      [.dict, .mgmt, .fb, .stn, .ck]
  | .abort .. =>
      [.dict, .mgmt, .fb, .stn, .tier, .ck]
  | .shardWrite .. =>
      [.dict, .tier, .ck]
  | .manifestWrite .. =>
      [.dict, .ck, .free]
  | .checkpointComplete =>
      [.dict, .mgmt, .stn, .ck]
  | .restore .. =>
      [.dict, .mgmt, .fb, .stn, .ses, .tier, .shape, .srch, .sync, .ck, .free]
  | .codewordFecFail .. | .linkParam .. | .portRetrain .. | .platVoteTimeout =>
      [.dict, .fab]
  | .ack .. | .echo .. | .platEpochStale =>
      [.fab]
  | .nak .. | .portTrainingTimeout .. | .portUp .. | .lossOfSignal .. | .laneFailed .. | .heartbeat .. | .portHeartbeatLoss ..
    | .propose .. | .platPropose .. | .platAccept .. | .platCommit .. | .platJoin .. | .platImage .. | .peerReport .. | .platDrainTimeout
    | .compositionWrite .. =>
      [.dict, .mgmt, .fb, .stn, .ses, .tier, .shape, .trv, .srch, .ck, .fab, .pwr, .free]
  | .sessionReply .. | .ringWrite .. | .eventRelay .. | .leaseGrant .. =>
      [.dict, .fb, .stn, .fab, .free]
  | .leaseRequest .. | .t4Read .. | .witnessAppend .. | .witnessTrim .. | .platFetch .. | .moved .. =>
      [.dict, .fb, .fab, .free]
  | .leaseRecall .. | .leaseRelease .. | .t4Data .. | .t4Write .. =>
      [.dict, .fb, .tier, .fab, .free]
  | .t4Done .. | .handover .. =>
      [.dict, .fb, .stn, .ses, .tier, .srch, .fab, .free]
  | .handoverPull =>
      [.dict, .ses, .tier, .fab, .free]
  | .associate .. | .present .. | .odRelease .. | .discover .. | .fwVerify .. =>
      [.frame, .frameStart, .dict, .mgmt, .fb, .stn, .pwr, .free]
  | .odRead .. | .getId .. | .getVersion .. | .getTemp .. | .getPower .. | .readLog .. | .readReg .. | .getFence .. | .getPlat .. =>
      [.frame, .frameStart, .dict, .mgmt, .fb, .stn, .tier, .trv, .pwr, .free]
  | .opdunIdleTimeout .. | .neighbourDiscovery =>
      [.mgmt]
  | .stnCapStage .. =>
      [.dict, .mgmt, .fb, .stn, .free]
  | .attestReady =>
      [.dict, .mgmt, .free]
  | .calendarSecond =>
      [.dict, .mgmt]
  | .deepSleep .. | .strapSample .. =>
      [.dict, .mgmt, .fb, .stn, .pwr]
  | .autonomousDeepSleep =>
      [.dict, .mgmt, .stn, .pwr]
  | .deepSleepWake .. =>
      [.frame, .frameStart, .dict, .mgmt, .stn, .pwr]
  | .resetHalf0 .. | .resetHalf1 .. =>
      [.dict, .mgmt, .fb, .stn, .ses, .tier, .trv, .core, .text, .srch, .sync, .pwr, .free]
  | .wakeWindow .. =>
      [.dict, .core, .sync, .pwr]
  | .clusterWakeDone .. | .hwTrip | .coreVoltageStep .. =>
      [.pwr]
  | .powerGovernorTick .. =>
      [.dict, .mgmt, .stn, .srch, .pwr]
  | .thermalCheck .. =>
      [.dict, .mgmt, .fb, .stn, .ses, .tier, .trv, .srch, .pwr, .free]
  | .powerOn | .supplyFault .. =>
      [.tick, .frame, .frameStart, .dict, .mgmt, .fb, .stn, .ses, .tier, .shape, .trv, .core, .text, .srch, .sync, .ck, .fab, .pwr, .free]
  | .stakeSlot =>
      [.dict, .stn, .core, .sync, .pwr]
  | .pinGlitch .. =>
      [.dict]
  | .calendarOscillatorStopped =>
      [.dict, .mgmt, .stn]

end Sys2Proof.Machine
end

