-- ==== Sys2Proof/WellFormed.lean ====
section
/-! DEFINITION. Well-formed commands: every operand lies in the width or the numbering that the spec gives it. A command outside them
has no word on any of the block's interfaces. -/

namespace Sys2Proof

/-! ### Numberings -/

/-- A value of so many bits. -/
def fits (bits n : Nat) : Bool := decide (n < 2 ^ bits)

/-- A field of eight bits. -/
def isByte (n : Nat) : Bool := decide (n < 256)

/-- One bit. -/
def isBit (n : Nat) : Bool := decide (n < 2)

/-- Half 0 or 1 (Table 1-1). -/
def isHalf (n : Nat) : Bool := decide (n < 2)

/-- Station 0-255. -/
def isStation (n : Nat) : Bool := decide (n < 256)

/-- A station, or none where the command names a tenant. -/
def optStation (n : Option Nat) : Bool := n.all isStation

/-- Global core number 0-4095. -/
def isCore (n : Nat) : Bool := decide (n < 4096)

/-- Cluster 0-511. -/
def isCluster (n : Nat) : Bool := decide (n < 512)

/-- UCIe module 0-7 (R482). -/
def isModule (n : Nat) : Bool := decide (n < 8)

/-- Fabric port 0-15. -/
def isPort (n : Nat) : Bool := decide (n < 16)

/-- SerDes lane 0-31. -/
def isLane (n : Nat) : Bool := decide (n < 32)

/-- DDR5 channel 0-23. -/
def isChannel (n : Nat) : Bool := decide (n < 24)

/-- Move queue 0-63 of a half (Table 3-7). -/
def isQueue (n : Nat) : Bool := decide (n < 64)

/-- Traverse slot 0-3. -/
def isTrvSlot (n : Nat) : Bool := decide (n < 4)

/-- Dictionary slot 0-3. -/
def isDictSlot (n : Nat) : Bool := decide (n < 4)

/-- Model slot 0-15. -/
def isModelSlot (n : Nat) : Bool := decide (n < 16)

/-- S or V register 0-31 (Table 5-1). -/
def isReg (n : Nat) : Bool := decide (n < 32)

/-- P register 0-7 (Table 5-1). -/
def isPred (n : Nat) : Bool := decide (n < 8)

/-- ACC register 0-3 (Table 5-1). -/
def isAcc (n : Nat) : Bool := decide (n < 4)

/-- Operand buffer 0 or 1 (Table 5-1). -/
def isBuf (n : Nat) : Bool := decide (n < 2)

/-- Synchronisation object 0-16,383 (Table 5-3). -/
def isSyncObj (n : Nat) : Bool := decide (n < 16384)

/-- Immediate count of LOOP, 1-65,536 (Table 5-4). -/
def loopCount (n : Nat) : Bool := decide (1 ≤ n ∧ n ≤ 65536)

/-- Octets that one object value or one message can carry (R515). -/
def shortOctets (v : Octets) : Bool := decide (v.length ≤ 4096)

/-- Consumer indices by session number. -/
def consFits (l : List (Nat × Nat)) : Bool := l.all (fun p => fits 32 p.1 && fits 32 p.2)

/-! ### Headers and blocks -/

/-- Where an operation issues. -/
def issueOk (a : Issue) : Bool := isCore a.core

/-- Predicate field of a vector operation. -/
def predOk (p : VPred) : Bool := isPred p.p

/-- Who wrote an object. -/
def writerOk : Writer → Bool
  | .station st seq => isStation st && fits 64 seq
  | .opdun a req index sub => fits 4 a && fits 32 req && fits 16 index && isByte sub
  | .legacy cmd seq => isByte cmd && isByte seq
  | .device => true

/-- Transfer header, Table 15-1. -/
def transferFits (t : Transfer) : Bool :=
  isModule t.ucie && isByte t.kind && isStation t.station && fits 16 t.len && fits 32 t.tag && fits 64 t.addr
    && t.descs.all (fun p => decide (p.1 < 2 ^ 24) && p.2.length == 512)

/-- Message header, Table 15-6. -/
def hdrFits (h : MsgHdr) : Bool :=
  isStation h.station && fits 16 h.len && fits 64 h.seq && fits 64 h.handle && isByte h.res1 && fits 32 h.res4

/-- A message. -/
def msgFits (m : Msg) : Bool := hdrFits m.hdr

/-- Move descriptor, Table 3-8. -/
def descFits (d : MoveDesc) : Bool :=
  isByte d.op && fits 32 d.count && fits 32 d.owner && fits 64 d.src && fits 64 d.dst && fits 32 d.newOwner && fits 16 d.eventObj
    && fits 16 d.station && fits 32 d.tag

/-- Routed-message header, Table 14-2. -/
def fabFits (h : FabHdr) : Bool :=
  isByte h.ttl && fits 32 h.len && fits 16 h.src && fits 16 h.dst && fits 64 h.epoch && fits 32 h.tag && fits 16 h.slice

/-- Opdun header, Table 16-4. -/
def opdunFits (f : OpdunHdr) : Bool :=
  isByte f.hopLimit && fits 64 f.client && fits 16 f.port && fits 7 f.res01 && fits 16 f.len && fits 32 f.assoc && fits 32 f.req
    && fits 16 f.index && isByte f.sub && isByte f.frag && fits 16 f.status && fits 16 f.res12

/-- Mailbox block, Table 16-9. -/
def mailFits (m : MailBlock) : Bool :=
  isByte m.hopLimit && isByte m.seq && fits 16 m.len && fits 32 m.arg0 && fits 32 m.arg1 && isByte m.status && decide (m.data.length ≤ 256)

/-! ### Commands -/

/-- The command is well formed. -/
def wellFormed : Instr → Bool
  | .datumTick => true
  | .frameBoundary descs cons outs => outs.all (fun r => fits 32 r.sid && fits 13 r.kept && fits 13 r.nextNew) && descs.all (fun p => decide (p.1 < 2 ^ 24) && p.2.length == 512) && consFits cons
  | .parkTimer sid => fits 32 sid
  | .waitExpired sid => fits 32 sid
  | .gateExpiry sid k => fits 32 sid && fits 4 k
  | .msgTransfer t m => transferFits t && msgFits m
  | .ctrlRead t => transferFits t
  | .readData t data => transferFits t && shortOctets data
  | .hostReadTimeout st tag => isStation st && fits 32 tag
  | .referencedBytesArrived st seq => isStation st && fits 64 seq
  | .ucieHeartbeat t => transferFits t
  | .heartbeatBlockWrite st => isStation st
  | .stationHeartbeatLoss st => isStation st
  | .ucieLinkDown m => isModule m
  | .ucieTrainingDone m rate width => isModule m && fits 6 rate && fits 7 width
  | .ucieTrainRetry m => isModule m
  | .ucieTrainFail m => isModule m
  | .writePosted st => isStation st
  | .hello t h _ => transferFits t && hdrFits h
  | .goodbye t h => transferFits t && hdrFits h
  | .ringName t h _ => transferFits t && hdrFits h
  | .objRead t h _ => transferFits t && hdrFits h
  | .objWrite t h _ => transferFits t && hdrFits h
  | .openSession t h _ => transferFits t && hdrFits h
  | .close t h => transferFits t && hdrFits h
  | .append t h _ => transferFits t && hdrFits h
  | .resume t h _ => transferFits t && hdrFits h
  | .cancel t h => transferFits t && hdrFits h
  | .park t h => transferFits t && hdrFits h
  | .revive t h => transferFits t && hdrFits h
  | .prefixRegister t h _ => transferFits t && hdrFits h
  | .prefixRelease t h => transferFits t && hdrFits h
  | .checkpoint t h _ => transferFits t && hdrFits h
  | .query t h _ => transferFits t && hdrFits h
  | .insert t h _ => transferFits t && hdrFits h
  | .delete t h _ => transferFits t && hdrFits h
  | .deferredMessagePass st seq => isStation st && fits 64 seq
  | .deferExpiry st seq => isStation st && fits 64 seq
  | .acceptDurable half pos => isHalf half && fits 64 pos
  | .journalBatchClose half => isHalf half
  | .recordDurable half flushed => isHalf half && fits 64 flushed
  | .bucketTick => true
  | .tokenizeRecord sid => fits 32 sid
  | .textWorkStart half => isHalf half
  | .reviveReady sid => fits 32 sid
  | .pressurePark half => isHalf half
  | .shadowReclaim half => isHalf half
  | .hashTableRebuild half => isHalf half
  | .moveEngineGrant half idle => isHalf half && fits 16 idle
  | .copy half queue d _ => isHalf half && isQueue queue && descFits d
  | .move half queue d _ => isHalf half && isQueue queue && descFits d
  | .fill half queue d _ => isHalf half && isQueue queue && descFits d
  | .verify half queue d _ => isHalf half && isQueue queue && descFits d
  | .parkBlocks half queue d _ => isHalf half && isQueue queue && descFits d
  | .reviveBlocks half queue d _ => isHalf half && isQueue queue && descFits d
  | .descriptorWithdraw half queue tag => isHalf half && isQueue queue && fits 32 tag
  | .tileLanded half queue _ => isHalf half && isQueue queue
  | .moveCompletion half queue => isHalf half && isQueue queue
  | .t3T4Timeout half queue => isHalf half && isQueue queue
  | .partialUpdate half row d payload _ => isHalf half && fits 32 row && fits 4 d && shortOctets payload
  | .snapshotCopy half => isHalf half
  | .copyFirst a payload => fits 64 a && shortOctets payload
  | .moveCompletionLogRead w half => writerOk w && isHalf half
  | .stnT3ExtentWrite w st e v => writerOk w && isStation st && fits 4 e && shortOctets v
  | .trvLoad w tt => writerOk w && isTrvSlot tt
  | .trvLoadDone tt _ => isTrvSlot tt
  | .activate w tt _ => writerOk w && isTrvSlot tt
  | .unload w tt => writerOk w && isTrvSlot tt
  | .slotListIssue takeover _ => fits 64 takeover
  | .slotListReceive _ => true
  | .slotListDecision takeover _ v => fits 64 takeover && v.all (fun p => fits 64 p.1 && fits 64 p.2)
  | .holdWindowEnd _ copies wake replay => fits 32 copies && fits 32 wake && fits 32 replay
  | .holdRequest e _ => fits 32 e
  | .holdStart => true
  | .holdEnd => true
  | .holdLogRead w => writerOk w
  | .faultNotice position tick len => fits 16 position && fits 64 tick && fits 32 len
  | .datumLock counter beyond => fits 64 counter && fits 32 beyond
  | .datumLocked _ => true
  | .datumLockFail => true
  | .datumHoldover _ _ => true
  | .holdoverTimeout => true
  | .benchmarkTakeover _ => true
  | .moveProgramIssue n _ => fits 32 n
  | .gatherRecord n _ => fits 32 n
  | .appendEntry cluster n => isCluster cluster && fits 32 n
  | .traverseSearch n => fits 32 n
  | .scrub _ => true
  | .coreFaultDetect core _ _ => isCore core
  | .add a sd sa sb => issueOk a && isReg sd && isReg sa && isReg sb
  | .sub a sd sa sb => issueOk a && isReg sd && isReg sa && isReg sb
  | .and a sd sa sb => issueOk a && isReg sd && isReg sa && isReg sb
  | .or a sd sa sb => issueOk a && isReg sd && isReg sa && isReg sb
  | .xor a sd sa sb => issueOk a && isReg sd && isReg sa && isReg sb
  | .shl a sd sa sb => issueOk a && isReg sd && isReg sa && isReg sb
  | .shr a sd sa sb => issueOk a && isReg sd && isReg sa && isReg sb
  | .sar a sd sa sb => issueOk a && isReg sd && isReg sa && isReg sb
  | .li a sd _ => issueOk a && isReg sd
  | .mov a sd sa => issueOk a && isReg sd && isReg sa
  | .mul a sd sa sb => issueOk a && isReg sd && isReg sa && isReg sb
  | .mulh a sd sa sb => issueOk a && isReg sd && isReg sa && isReg sb
  | .eq a pd sa sb => issueOk a && isPred pd && isReg sa && isReg sb
  | .ne a pd sa sb => issueOk a && isPred pd && isReg sa && isReg sb
  | .lt a pd sa sb => issueOk a && isPred pd && isReg sa && isReg sb
  | .ltu a pd sa sb => issueOk a && isPred pd && isReg sa && isReg sb
  | .ge a pd sa sb => issueOk a && isPred pd && isReg sa && isReg sb
  | .geu a pd sa sb => issueOk a && isPred pd && isReg sa && isReg sb
  | .predAnd a pd pa pb => issueOk a && isPred pd && isPred pa && isPred pb
  | .predOr a pd pa pb => issueOk a && isPred pd && isPred pa && isPred pb
  | .predNot a pd pa => issueOk a && isPred pd && isPred pa
  | .loop a count => issueOk a && loopCount count
  | .endloop a => issueOk a
  | .tbl a sd sa _ => issueOk a && isReg sd && isReg sa
  | .status a sd _ => issueOk a && isReg sd
  | .fadd a _ vd va vb vp => issueOk a && isReg vd && isReg va && isReg vb && predOk vp
  | .fsub a _ vd va vb vp => issueOk a && isReg vd && isReg va && isReg vb && predOk vp
  | .fmul a _ vd va vb vp => issueOk a && isReg vd && isReg va && isReg vb && predOk vp
  | .fma a _ vd va vb vc vp => issueOk a && isReg vd && isReg va && isReg vb && isReg vc && predOk vp
  | .fms a _ vd va vb vc vp => issueOk a && isReg vd && isReg va && isReg vb && isReg vc && predOk vp
  | .fmin a _ vd va vb vp => issueOk a && isReg vd && isReg va && isReg vb && predOk vp
  | .fmax a _ vd va vb vp => issueOk a && isReg vd && isReg va && isReg vb && predOk vp
  | .fabs a _ vd va vp => issueOk a && isReg vd && isReg va && predOk vp
  | .fneg a _ vd va vp => issueOk a && isReg vd && isReg va && predOk vp
  | .fcmp a _ _ pd va vb vp => issueOk a && isPred pd && isReg va && isReg vb && predOk vp
  | .vintAdd a vd va vb vp => issueOk a && isReg vd && isReg va && isReg vb && predOk vp
  | .vintSub a vd va vb vp => issueOk a && isReg vd && isReg va && isReg vb && predOk vp
  | .vintAnd a vd va vb vp => issueOk a && isReg vd && isReg va && isReg vb && predOk vp
  | .vintOr a vd va vb vp => issueOk a && isReg vd && isReg va && isReg vb && predOk vp
  | .vintXor a vd va vb vp => issueOk a && isReg vd && isReg va && isReg vb && predOk vp
  | .vintShl a vd va vb vp => issueOk a && isReg vd && isReg va && isReg vb && predOk vp
  | .vintShr a vd va vb vp => issueOk a && isReg vd && isReg va && isReg vb && predOk vp
  | .vintSar a vd va vb vp => issueOk a && isReg vd && isReg va && isReg vb && predOk vp
  | .rotl a vd va vb vp => issueOk a && isReg vd && isReg va && isReg vb && predOk vp
  | .mullo a vd va vb vp => issueOk a && isReg vd && isReg va && isReg vb && predOk vp
  | .mulhi a vd va vb vp => issueOk a && isReg vd && isReg va && isReg vb && predOk vp
  | .cvtFp32Bf16 a vd va vp => issueOk a && isReg vd && isReg va && predOk vp
  | .cvtBf16Fp32 a vd va vp => issueOk a && isReg vd && isReg va && predOk vp
  | .cvtFp32Int32 a vd va vp => issueOk a && isReg vd && isReg va && predOk vp
  | .cvtInt32Fp32 a vd va vp => issueOk a && isReg vd && isReg va && predOk vp
  | .mxpack a fmt vd va vp => issueOk a && fits 4 fmt && isReg vd && isReg va && predOk vp
  | .mxunpack a fmt vd va vp => issueOk a && fits 4 fmt && isReg vd && isReg va && predOk vp
  | .exp2 a vd va vp => issueOk a && isReg vd && isReg va && predOk vp
  | .rcp a vd va vp => issueOk a && isReg vd && isReg va && predOk vp
  | .rsq a vd va vp => issueOk a && isReg vd && isReg va && predOk vp
  | .rsum a vd va vp => issueOk a && isReg vd && isReg va && predOk vp
  | .rmax a vd va vp => issueOk a && isReg vd && isReg va && predOk vp
  | .rmin a vd va vp => issueOk a && isReg vd && isReg va && predOk vp
  | .laneShuffle a vd va vb vp => issueOk a && isReg vd && isReg va && isReg vb && predOk vp
  | .laneBroadcast a vd va lane vp => issueOk a && isReg vd && isReg va && isReg lane && predOk vp
  | .vmsel a vd va sb vp => issueOk a && isReg vd && isReg va && isReg sb && predOk vp
  | .vmpop a sd sa sb => issueOk a && isReg sd && isReg sa && isReg sb
  | .mma a fmt acc _ abuf bbuf rp => issueOk a && fits 4 fmt && isAcc acc && isBuf abuf && isBuf bbuf && isPred rp
  | .mrd a vd acc p => issueOk a && isReg vd && isAcc acc && fits 3 p
  | .mzero a acc => issueOk a && isAcc acc
  | .ld a vd base _ => issueOk a && isReg vd && isReg base
  | .st a vs base _ => issueOk a && isReg vs && isReg base
  | .lds a sd base _ => issueOk a && isReg sd && isReg base
  | .sts a ss base _ => issueOk a && isReg ss && isReg base
  | .cld a sdst base _ => issueOk a && isReg sdst && isReg base
  | .cst a ssrc base _ => issueOk a && isReg ssrc && isReg base
  | .mldA a fmt b base _ => issueOk a && fits 4 fmt && isBuf b && isReg base
  | .mldB a fmt b base _ => issueOk a && fits 4 fmt && isBuf b && isReg base
  | .mldVt a _ b base _ _ dblk => issueOk a && isBuf b && isReg base && fits 3 dblk
  | .put a sdst base _ => issueOk a && isReg sdst && isReg base
  | .twalk a sd snode sbyte => issueOk a && isReg sd && isReg snode && isReg sbyte
  | .syncAdd a obj rs => issueOk a && isSyncObj obj && isReg rs
  | .syncSet a obj => issueOk a && isSyncObj obj
  | .syncClear a obj => issueOk a && isSyncObj obj
  | .waitCount a obj rs => issueOk a && isSyncObj obj && isReg rs
  | .waitEvent a obj rs => issueOk a && isSyncObj obj && isReg rs
  | .waitRound a obj rs => issueOk a && isSyncObj obj && isReg rs
  | .arrive a obj rs => issueOk a && isSyncObj obj && isReg rs
  | .syncWaitTimeout core => isCore core
  | .groupSyncUpdate _ => true
  | .stnSyncDefine w st name type half operand => writerOk w && isStation st && fits 16 name && isByte type && fits 2 half && fits 32 operand
  | .stnSyncDelete w st name => writerOk w && isStation st && fits 16 name
  | .stnSyncAdd w st name amount => writerOk w && isStation st && fits 16 name && fits 32 amount
  | .stnSyncSet w st name => writerOk w && isStation st && fits 16 name
  | .stnSyncClear w st name => writerOk w && isStation st && fits 16 name
  | .stnSyncArrive w st name round => writerOk w && isStation st && fits 16 name && fits 32 round
  | .mdlLoad w mm vocab => writerOk w && isModelSlot mm && fits 32 vocab
  | .mdlLoadDone mm _ => isModelSlot mm
  | .mdlUnload w mm => writerOk w && isModelSlot mm
  | .dictLoad w dd _ => writerOk w && isDictSlot dd
  | .dictUnload w dd => writerOk w && isDictSlot dd
  | .gpLoad w gg _ => writerOk w && isByte gg
  | .gpUnload w gg => writerOk w && isByte gg
  | .stopSetWrite w st k v => writerOk w && isStation st && fits 4 k && shortOctets v
  | .camSearch half key _ => isHalf half && fits 128 key
  | .camInsert half table key result => isHalf half && fits 3 table && fits 128 key && fits 32 result
  | .camRemove half table key => isHalf half && fits 3 table && fits 128 key
  | .orderedInsert half _ => isHalf half
  | .searchWindow half => isHalf half
  | .throttleUpdate half _ => isHalf half
  | .create w ii => writerOk w && isByte ii
  | .vxLoad w ii _ => writerOk w && isByte ii
  | .drop w ii => writerOk w && isByte ii
  | .vxQueryStart half => isHalf half
  | .insertLink ii => isByte ii
  | .epochAdvance ii => isByte ii
  | .repairSweep ii count => isByte ii && fits 32 count
  | .arInsert w v => writerOk w && shortOctets v
  | .arRemove w id => writerOk w && fits 16 id
  | .glCommit w half => writerOk w && isHalf half
  | .gateListEntry half => isHalf half
  | .bucketWrite w st res _ v => writerOk w && optStation st && fits 2 res && fits 32 v
  | .compaction half => isHalf half
  | .witnessLapse _ => true
  | .witnessProbe _ => true
  | .witnessCopyDone => true
  | .channelFailed c why row => isChannel c && fits 3 why && fits 32 row
  | .declareFailed w c => writerOk w && isChannel c
  | .retrain w c => writerOk w && isChannel c
  | .rebuild w c => writerOk w && isChannel c
  | .channelRebuildDone c => isChannel c
  | .stackFailed k => fits 3 k
  | .chainHeartbeatLoss cons => consFits cons
  | .halfLost h cons => isHalf h && consFits cons
  | .adopt w _ => writerOk w
  | .errorRecorderTake half => isHalf half
  | .coalesceFlush src => fits 16 src
  | .errRead w => writerOk w
  | .errClear w src => writerOk w && fits 16 src
  | .ckCheckpoint w => writerOk w
  | .abort w => writerOk w
  | .shardWrite half count => isHalf half && fits 32 count
  | .manifestWrite _ _ => true
  | .checkpointComplete => true
  | .restore w _ => writerOk w
  | .codewordFecFail port lane seq => isPort port && isLane lane && fits 12 seq
  | .ack port seq => isPort port && fits 12 seq
  | .nak port seq => isPort port && fits 12 seq
  | .linkParam port _ => isPort port
  | .echo port rtt => isPort port && fits 32 rtt
  | .portTrainingTimeout port step began => isPort port && decide (1 ≤ step ∧ step ≤ 4) && fits 64 began
  | .portRetrain port => isPort port
  | .portUp port peerLatency => isPort port && fits 32 peerLatency
  | .lossOfSignal lane => isLane lane
  | .laneFailed lane => isLane lane
  | .heartbeat port _ => isPort port
  | .portHeartbeatLoss port => isPort port
  | .sessionMsg h st m => fabFits h && isStation st && msgFits m
  | .sessionReply h st _ => fabFits h && isStation st
  | .ringWrite h st addr _ => fabFits h && isStation st && fits 64 addr
  | .eventRelay h st _ => fabFits h && isStation st
  | .leaseRequest h kind tiles => fabFits h && fits 8 kind && fits 32 tiles
  | .leaseGrant h lease kind tiles => fabFits h && fits 16 lease && fits 8 kind && fits 32 tiles
  | .leaseRecall h lease => fabFits h && fits 16 lease
  | .leaseRelease h lease => fabFits h && fits 16 lease
  | .t4Read h lease off count => fabFits h && fits 16 lease && fits 32 off && fits 32 count
  | .t4Data h lease off _ => fabFits h && fits 16 lease && fits 32 off
  | .t4Write h lease off _ => fabFits h && fits 16 lease && fits 32 off
  | .t4Done h lease status => fabFits h && fits 16 lease && fits 16 status
  | .witnessAppend h _ => fabFits h
  | .witnessDurable h pos => fabFits h && fits 64 pos
  | .witnessTrim h pos => fabFits h && fits 64 pos
  | .propose w _ => writerOk w
  | .platPropose h ballot _ => fabFits h && fits 32 ballot
  | .platAccept h epoch ballot _ => fabFits h && fits 64 epoch && fits 32 ballot
  | .platCommit h _ => fabFits h
  | .platVoteTimeout => true
  | .platJoin h device majorLo majorHi minor features identity => fabFits h && fits 9 device && fits 16 majorLo && fits 16 majorHi && fits 16 minor
      && fits 64 features && fits 256 identity
  | .platFetch h epoch => fabFits h && fits 64 epoch
  | .platImage h _ => fabFits h
  | .peerReport h _ => fabFits h
  | .handover h _ _ => fabFits h
  | .drain h sessions => fabFits h && fits 32 sessions
  | .handoverAck h => fabFits h
  | .moved h device epoch => fabFits h && fits 9 device && fits 64 epoch
  | .platDrainTimeout => true
  | .platEpochStale => true
  | .handoverPull => true
  | .release w lease => writerOk w && fits 16 lease
  | .compositionWrite w v => writerOk w && isBit v
  | .associate f majLo majHi minor feat => opdunFits f && fits 16 majLo && fits 16 majHi && fits 16 minor && fits 64 feat
  | .odRead f => opdunFits f
  | .odWrite f v => opdunFits f && shortOctets v
  | .present f part => opdunFits f && shortOctets part
  | .odRelease f => opdunFits f
  | .discover f => opdunFits f
  | .opdunIdleTimeout a => fits 4 a
  | .opdunFragmentTimeout a => fits 4 a
  | .getId m => mailFits m
  | .getVersion m => mailFits m
  | .getTemp m => mailFits m
  | .getPower m => mailFits m
  | .readLog m => mailFits m
  | .clearLog m => mailFits m
  | .readReg m => mailFits m
  | .writeReg m => mailFits m
  | .fwChunk m => mailFits m
  | .fwVerify m => mailFits m
  | .fwCommit m => mailFits m
  | .getFence m => mailFits m
  | .getPlat m => mailFits m
  | .stnCapStage w ss part => writerOk w && isStation ss && shortOctets part
  | .tkCommit w k => writerOk w && fits 4 k
  | .tkClear w k => writerOk w && fits 4 k
  | .stage w _ => writerOk w
  | .fwChunkWrite w v => writerOk w && shortOctets v
  | .fwCmdVerify w => writerOk w
  | .fwActivate w => writerOk w
  | .confirm w => writerOk w
  | .erase w => writerOk w
  | .fwTrialTimeout => true
  | .attNonceWrite w nonce => writerOk w && shortOctets nonce
  | .attestReady => true
  | .calSet w v => writerOk w && fits 64 v
  | .calendarSecond => true
  | .persistProgrammed _ => true
  | .objectWrite w index sub v => writerOk w && fits 16 index && isByte sub && shortOctets v
  | .fenceCore w core => writerOk w && isCore core
  | .fenceCluster w core => writerOk w && isCore core
  | .clearCluster w core => writerOk w && isCore core
  | .clusterSelfTestDone cluster _ => isCluster cluster
  | .deepSleep w => writerOk w
  | .autonomousDeepSleep => true
  | .deepSleepWake cause pin => fits 3 cause && fits 3 pin
  | .warmReset w => writerOk w
  | .resetHalf0 w => writerOk w
  | .resetHalf1 w => writerOk w
  | .wakeWindow half => isHalf half
  | .clusterWakeDone n => isCluster n
  | .powerGovernorTick _ => true
  | .thermalCheck _ => true
  | .thermalTrip => true
  | .hwTrip => true
  | .powerOn => true
  | .resetN => true
  | .strapSample levels => isByte levels
  | .stakeSlot => true
  | .supplyFault _ cons => consFits cons
  | .coreVoltageStep half _ => isHalf half
  | .holdoverRelock _ => true
  | .managementWatchdog => true
  | .ucieModuleSleep m => isModule m
  | .pinGlitch _ => true
  | .chainReturn => true
  | .neighbourDiscovery => true
  | .calendarOscillatorStopped => true
  | .intakeInService => true

end Sys2Proof
end

