-- ==== Sys2Proof/Safety.lean ====
section
/-! DEFINITION. What counts as a safe run, and the words the statements use of a core's operations: the core in its issue cycle, and the
state in which a result has been put in flight. -/

namespace Sys2Proof

open Sys2Proof.Machine

/-- An outcome is a next state. -/
def Completes (o : Host.Outcome State Fault Refusal) : Prop := ∃ t, o = .next t

/-- The step from a state completes. -/
def SafeStep (s : State) : Prop := Completes (Machine.step s)

/-- The first n steps complete. -/
def SafeRun : Nat → State → Prop
  | 0, _ => True
  | n + 1, s => ∃ t, Machine.step s = .next t ∧ SafeRun n t

namespace Machine

/-- The state after an issue whose only effect is one result, in flight from its slot and due after its latency. -/
def State.lands (s : State) (a : Issue) (slot latency : Nat) (v : WbVal) : State := s.afterIssue a slot ((s.issued a).result slot latency v)

/-- The state after a vector issue: lane i of the destination takes f i where the predicate is 1, and the flags of those lanes are raised. -/
def State.landsLanes (s : State) (a : Issue) (vd : Nat) (vp : VPred) (latency : Nat) (f : Nat → Lane × Sticky) : State :=
  s.afterIssue a 1 ((s.issued a).lanewise vd vp latency f)

/-- The write of a command object passes every check of an object write (R496-R499): its permission, protection and range. -/
def State.accepts (s : State) (w : Writer) (o : ObjSpec) (i : Nat) (value : Octets) : Prop :=
  s.writeCheck w o (o.base + i) o.subLo value = St.OK

/-- The state t that a command left, its write recorded where the field book or the mp-log takes it and answered OK (R583). -/
def State.carriedOut (t : State) (w : Writer) (o : ObjSpec) (i : Nat) (value : Octets) : State :=
  (t.recordWrite w (o.base + i) o.subLo value false).reply w St.OK

/-- The message e waits alone in its station's intake, unserved: its sequence number is its own, no GOODBYE is under way, and its fields are in
range (R495, R499). -/
def State.waits (s : State) (st : Nat) (e : Intake) : Prop :=
  (s.station st).intake.filter (fun i => i.stage == .fresh) = [e] ∧ (s.station st).find e.msg.hdr.seq = some e ∧
    (s.station st).leaving = none ∧ s.msgRange st e.privileged e.msg = none

/-- The state in which a waiting message's turn comes: the half that "either half" means is chosen (R21). -/
def State.atTurn (s : State) (st : Nat) (e : Intake) : State := s.setIntake st e.msg.hdr.seq (fun i => { i with half := s.anyHalf })

/-- The waiting message as it is served. -/
def State.chosen (s : State) (st : Nat) (e : Intake) : Intake := { e with half := (s.atTurn st e).anyHalf }

/-- The state in which a waiting message that the rules judge has its effect: they were searched for it (R384). -/
def State.serving (s : State) (st : Nat) (e : Intake) : State := (s.atTurn st e).ruleLook st (s.chosen st e)

/-- The message passes its stages: the sequence window (R408), nothing to fetch, none of its station's before it, rules and buckets
(R374, R375), a field book with room, and no hold of the intake (R406, R411). -/
def State.passes (s : State) (st : Nat) (e : Intake) : Prop :=
  s.windowSays st e = none ∧ byRefOf e.msg.body = none ∧ (Machine.policed e.msg.body && (s.station st).blocked e.msg.hdr.seq) = false ∧
    s.trafficStage st e = .pass ∧
    ∀ h, (s.ruleLook st e).recordHalf st e = some h → (s.ruleLook st e).bookFull h = false ∧ (s.ruleLook st e).intakeHeld = false

/-- A read of index and subindex by a sender finds row i, entry j of object o, which it may read (R514-R516, R535). -/
def State.mayRead (s : State) (w : Writer) (index sub : Nat) (o : ObjSpec) (i j : Nat) : Prop :=
  sub ≠ 0 ∧ s.findObj index sub = some (o, i, j) ∧ o.access ≠ .wo ∧ s.recoveryShuts index sub = false ∧
    (match w with
      | .station st _ => s.privileged st = true ∨ ownReadable st index = true
      | _ => True)

/-- A write of index and subindex by a sender finds row i, entry j of object o, which is no command object, and passes every check (R498, R515). -/
def State.mayWrite (s : State) (w : Writer) (index sub : Nat) (o : ObjSpec) (i j : Nat) (v : Octets) : Prop :=
  sub ≠ 0 ∧ s.findObj index sub = some (o, i, j) ∧ s.recoveryShuts index sub = false ∧ s.commandOf w o i v = none ∧ index / 256 ≠ 0xC0 ∧
    s.writeCheck w o index sub v = St.OK ∧ s.moreCheck o i j v = St.OK

/-- State after a plain write that passes its checks: its value stands and is answered OK, or, for a value kept in the flash, it waits until it is
programmed (R518). -/
def State.wrote (s : State) (w : Writer) (index sub : Nat) (o : ObjSpec) (i j : Nat) (v : Octets) : State :=
  if o.persist then
    ({ s with dict := { s.dict with persistWaits := s.dict.persistWaits ++ [(⟨objKey o i j, objVal o v, s.tick, w⟩ : PersistWait)] } } : State).working w
  else (s.putWrite w o i j index sub v).reply w St.OK

/-- A datagram of the field network is served: management is up, and it comes from the link (R522). -/
def State.served (s : State) (linkLocal : Bool) (hopLimit : Nat) : Prop := s.mgmtUp = true ∧ linkLocal = true ∧ hopLimit = 255

/-- A request of an association is served: the association is its sender's, and its number is none of its last 16 nor of one under way (R523, R525). -/
def State.servedOf (s : State) (f : OpdunHdr) (x : Assoc) : Prop :=
  s.served f.linkLocal f.hopLimit ∧ mget (s.arrivalWakes 2).mgmt.assocs f.assoc = some x ∧ x.client = f.client ∧
    x.replies.find? (fun r => r.req == f.req) = none ∧ (s.arrivalWakes 2).opdunWaits f.assoc f.req = false

/-- The state in which a request of an association is served, and its association then. -/
def State.asked (s : State) (f : OpdunHdr) (x : Assoc) : State :=
  (s.arrivalWakes 2).setAssoc f.assoc { x with lastTick := (s.arrivalWakes 2).tick, port := f.port }

/-- A block of the legacy mailbox is served: the mailbox is on, its sequence is not the last one's, and its data is at most 256 bytes
(R522, R533). -/
def State.servedMail (s : State) (m : MailBlock) : Prop :=
  s.served m.linkLocal m.hopLimit ∧ s.obj Ob.mgmt_legacy 0 ≠ 0 ∧ (∀ r, (s.arrivalWakes 2).mgmt.mailLast = some r → r.seq ≠ m.seq) ∧ m.len ≤ 256 ∧
    (s.arrivalWakes 2).mailWaits m.seq = false

/-- A message of the fabric is for this device, in range, and of an epoch that it has committed (R457, R474). -/
def State.reached (s : State) (h : FabHdr) : Prop := hdrInRange h = true ∧ h.dst = s.device ∧ h.epoch ≤ s.platEpoch

/-- Every core store and every cluster store has the canonical form of memory: addresses rising, no byte listed that reads as an unlisted one. -/
def State.stores (s : State) : Prop :=
  (∀ p ∈ s.core.cores, Memory.wf p.2.store = true) ∧ ∀ p ∈ s.core.clusterStores, Memory.wf p.2 = true

/-- The invariant of the block: every waiting command is well formed, and the stores of cores and clusters have their canonical form. -/
def State.Inv (s : State) : Prop := (∀ c ∈ s.pending, wellFormed c = true) ∧ s.stores

end Machine

end Sys2Proof
end

