-- ==== Sys2Proof/Certificates/Slice0/Obligations.lean ====
section
/-! DEFINITION. The statements for the provers. -/

open Sys2Proof Sys2Proof.Machine

/-- An ADD, SUB, AND, OR, XOR or MUL of a core that issues completes; its one effect is that the value of its S sources, read in its issue
cycle, is in flight to its S destination with the latency of Table 5-3. A shift by less than 64 writes the shifted word; a shift of 64 or
more completes with a value the spec does not state (log entry 13), and MULH completes with the high half of the product under the
signedness that log entry 13 leaves open. An operation issues when its core issues and, in a traverse, the bundle of its cycle is sound and
carries an operation of its slot and class with its operand fields (R181, R182), in lockstep with the other cores (R174). A comparison writes every bit of its predicate with the outcome of its relation (EQ, NE,
signed LT and GE, unsigned LTU and GEU; that it is every bit is log entry 14); PRED_AND, PRED_OR and PRED_NOT combine predicates; LI writes
the sign-extended immediate, MOV copies an S register; LOOP below the fourth level pushes its count with the bundle after its own; ENDLOOP
takes one pass off the innermost loop and goes back to that bundle, or leaves the loop after the last pass, and outside a loop changes
nothing. TBL reads a field of the sequencer row that its source names with a latency of 2; of a row that the table does not list, and of the
places of the sticky flags that STATUS reads, the spec states no value (log entry 13). STATUS reads the core's cycle or its number too. Every other core
and every other part of the state is unchanged, but that accesses of the cluster's store due by then are made, and void slots that were passed are counted
(R179, R185). -/
def Obligations.ScalarRows : Prop :=
  (∀ (s : State) (a : Issue) (sd sa sb : Nat),
    (s.admits (uAlu.takes [fSd sd, fSa sa, fSb sb]) a = true →
      exec (.add a sd sa sb) s = .next (s.lands a 0 1 (.sreg sd ((s.issued a).sreg sa + (s.issued a).sreg sb))) ∧
      exec (.sub a sd sa sb) s = .next (s.lands a 0 1 (.sreg sd ((s.issued a).sreg sa - (s.issued a).sreg sb))) ∧
      exec (.and a sd sa sb) s = .next (s.lands a 0 1 (.sreg sd ((s.issued a).sreg sa &&& (s.issued a).sreg sb))) ∧
      exec (.or a sd sa sb) s = .next (s.lands a 0 1 (.sreg sd ((s.issued a).sreg sa ||| (s.issued a).sreg sb))) ∧
      exec (.xor a sd sa sb) s = .next (s.lands a 0 1 (.sreg sd ((s.issued a).sreg sa ^^^ (s.issued a).sreg sb))) ∧
      (∃ v, exec (.shl a sd sa sb) s = .next (s.lands a 0 1 (.sreg sd v)) ∧
        (((s.issued a).sreg sb).toNat < 64 → v = (s.issued a).sreg sa <<< ((s.issued a).sreg sb).toNat)) ∧
      (∃ v, exec (.shr a sd sa sb) s = .next (s.lands a 0 1 (.sreg sd v)) ∧
        (((s.issued a).sreg sb).toNat < 64 → v = (s.issued a).sreg sa >>> ((s.issued a).sreg sb).toNat)) ∧
      (∃ v, exec (.sar a sd sa sb) s = .next (s.lands a 0 1 (.sreg sd v)) ∧
        (((s.issued a).sreg sb).toNat < 64 → v = ((s.issued a).sreg sa).sshiftRight ((s.issued a).sreg sb).toNat))) ∧
    (s.admits (uMul.takes [fSd sd, fSa sa, fSb sb]) a = true →
      exec (.mul a sd sa sb) s = .next (s.lands a 0 3 (.sreg sd ((s.issued a).sreg sa * (s.issued a).sreg sb))) ∧
      (∃ v, exec (.mulh a sd sa sb) s = .next (s.lands a 0 3 (.sreg sd v)) ∧
        (v = BitVec.ofInt 64 (((s.issued a).sreg sa).toInt * ((s.issued a).sreg sb).toInt / 2 ^ 64) ∨
          v = BitVec.ofNat 64 (((s.issued a).sreg sa).toNat * ((s.issued a).sreg sb).toNat / 2 ^ 64))))) ∧
  (∀ (s : State) (a : Issue) (d x y : Nat) (imm : BitVec 23),
    (s.admits (uCmp.takes [fSd d, fSa x, fSb y]) a = true →
      (∀ (i : Instr) (r : SWord → SWord → Bool),
        (i, r) ∈ [((.eq a d x y : Instr), fun (u v : SWord) => u == v), (.ne a d x y, fun u v => u != v), (.lt a d x y, fun u v => u.slt v),
          (.ltu a d x y, fun u v => u.ult v), (.ge a d x y, fun u v => !u.slt v), (.geu a d x y, fun u v => !u.ult v)] →
        exec i s = .next (s.lands a 0 1 (.preg d (if r ((s.issued a).sreg x) ((s.issued a).sreg y) then BitVec.allOnes 32 else 0)
          (BitVec.allOnes 32)))) ∧
      exec (.predAnd a d x y) s = .next (s.lands a 0 1 (.preg d ((s.issued a).preg x &&& (s.issued a).preg y) (BitVec.allOnes 32))) ∧
      exec (.predOr a d x y) s = .next (s.lands a 0 1 (.preg d ((s.issued a).preg x ||| (s.issued a).preg y) (BitVec.allOnes 32)))) ∧
    (s.admits (uCmp.takes [fSd d, fSa x]) a = true →
      exec (.predNot a d x) s = .next (s.lands a 0 1 (.preg d (~~~((s.issued a).preg x)) (BitVec.allOnes 32)))) ∧
    (s.admits (uAlu.takes [fSd d, fSimm imm.toNat]) a = true →
      exec (.li a d imm) s = .next (s.lands a 0 1 (.sreg d (imm.signExtend 64)))) ∧
    (s.admits (uAlu.takes [fSd d, fSa x]) a = true →
      exec (.mov a d x) s = .next (s.lands a 0 1 (.sreg d ((s.issued a).sreg x)))) ∧
    (s.admits (uLoop.takes [fSimm x]) a = true →
      ((s.coreAt a.core).loops.length < 4 →
        exec (.loop a x) s = .next (s.afterIssue a 0 { s.issued a with loops := (x, (s.issued a).pc + 1) :: (s.issued a).loops })) ∧
      (4 ≤ (s.coreAt a.core).loops.length → exec (.loop a x) s = .next ((s.afterIssue a 0 (s.issued a)).bump Ob.cnt_slot_void 0))) ∧
    (s.admits uLoop a = true →
      (∀ n b r, (s.issued a).loops = (n, b) :: r →
        (n ≤ 1 → exec (.endloop a) s = .next (s.afterIssue a 0 { s.issued a with loops := r })) ∧
        (1 < n → exec (.endloop a) s = .next (s.afterIssue a 0 { s.issued a with loops := (n - 1, b) :: r, back := some b }))) ∧
      ((s.issued a).loops = [] → exec (.endloop a) s = .next (s.afterIssue a 0 (s.issued a)))) ∧
    (s.admits (uTable.takes [fSd d, fSa x]) a = true → ∀ w, s.rowNow ((s.issued a).sreg x).toNat = some w →
      exec (.tbl a d x .ctx) s = .next (s.lands a 0 2 (.sreg d (BitVec.ofNat 64 w.ctx))) ∧
      exec (.tbl a d x .new) s = .next (s.lands a 0 2 (.sreg d (BitVec.ofNat 64 w.nw))) ∧
      exec (.tbl a d x .bucket) s = .next (s.lands a 0 2 (.sreg d (BitVec.ofNat 64 w.entry.bucket))) ∧
      exec (.tbl a d x .live) s = .next (s.lands a 0 2 (.sreg d (if w.entry.sid != 0xFFFFFFFF && !w.masked then 1 else 0)))) ∧
    (s.admits (uTable.takes [fSd d, fSa x]) a = true → s.rowNow ((s.issued a).sreg x).toNat = none → ∀ fld,
      ∃ v, exec (.tbl a d x fld) s = .next (s.lands a 0 2 (.sreg d v))) ∧
    (s.admits (uStatus.takes [fSd d]) a = true →
      (∃ g : Bool → Bool → Bool → SWord, exec (.status a d .sticky) s =
        .next (s.lands a 0 1 (.sreg d (g (s.issued a).ovf (s.issued a).nan (s.issued a).sat)))) ∧
      exec (.status a d .cycle) s = .next (s.lands a 0 1 (.sreg d (BitVec.ofNat 64 (s.issued a).cycle))) ∧
      exec (.status a d .coreNumber) s = .next (s.lands a 0 1 (.sreg d (BitVec.ofNat 64 a.core)))))

/-- FADD, FSUB, FMUL (3 cycles), FMA, FMS (4 cycles), FMIN, FMAX, FABS and FNEG (2 cycles) of FP32 or BF16 type that issue compute lane by
lane with the arithmetic of the type, write the lanes where the predicate is 1 and raise the flags of those lanes. With INT32 type they
complete too, with lanes the spec does not state (log entry 13); with the reserved type each is a SLOT_VOID, which writes nothing and is
counted. Nothing else changes. -/
def Obligations.FloatLanes : Prop :=
  ∀ (s : State) (a : Issue) (vd va vb vc : Nat) (vp : VPred),
    let on := fun (u : OpUnit) (t : VType) (l : List (Nat × Nat × Nat)) => u.takes (l ++ fType t :: fVd vd :: fVa va :: fVp vp)
    (∀ t f, (t, f) ∈ [(VType.fp32, FFmt.f32), (VType.bf16, FFmt.bf16)] →
      (s.admits (on uFarith t [fVb vb]) a = true →
        exec (.fadd a t vd va vb vp) s =
          .next (s.landsLanes a vd vp 3 (fun i => fadd f ((s.issued a).lane va i) ((s.issued a).lane vb i))) ∧
        exec (.fsub a t vd va vb vp) s =
          .next (s.landsLanes a vd vp 3 (fun i => fsub f ((s.issued a).lane va i) ((s.issued a).lane vb i))) ∧
        exec (.fmul a t vd va vb vp) s =
          .next (s.landsLanes a vd vp 3 (fun i => fmul f ((s.issued a).lane va i) ((s.issued a).lane vb i)))) ∧
      (s.admits (on uFma t [fVb vb, fVc vc]) a = true →
        exec (.fma a t vd va vb vc vp) s =
          .next (s.landsLanes a vd vp 4 (fun i => fma f ((s.issued a).lane va i) ((s.issued a).lane vb i) ((s.issued a).lane vc i))) ∧
        exec (.fms a t vd va vb vc vp) s =
          .next (s.landsLanes a vd vp 4 (fun i => fms f ((s.issued a).lane va i) ((s.issued a).lane vb i) ((s.issued a).lane vc i)))) ∧
      (s.admits (on uFcmp t [fVb vb]) a = true →
        exec (.fmin a t vd va vb vp) s =
          .next (s.landsLanes a vd vp 2 (fun i => fmin f ((s.issued a).lane va i) ((s.issued a).lane vb i))) ∧
        exec (.fmax a t vd va vb vp) s =
          .next (s.landsLanes a vd vp 2 (fun i => fmax f ((s.issued a).lane va i) ((s.issued a).lane vb i)))) ∧
      (s.admits (on uFcmp t []) a = true →
        exec (.fabs a t vd va vp) s = .next (s.landsLanes a vd vp 2 (fun i => fabs f ((s.issued a).lane va i))) ∧
        exec (.fneg a t vd va vp) s = .next (s.landsLanes a vd vp 2 (fun i => fneg f ((s.issued a).lane va i))))) ∧
    (∀ u i n, (u, i, n) ∈ [(on uFarith .int32 [fVb vb], (.fadd a .int32 vd va vb vp : Instr), 3), (on uFarith .int32 [fVb vb], .fsub a .int32 vd va vb vp, 3),
        (on uFarith .int32 [fVb vb], .fmul a .int32 vd va vb vp, 3), (on uFma .int32 [fVb vb, fVc vc], .fma a .int32 vd va vb vc vp, 4),
        (on uFma .int32 [fVb vb, fVc vc], .fms a .int32 vd va vb vc vp, 4), (on uFcmp .int32 [fVb vb], .fmin a .int32 vd va vb vp, 2),
        (on uFcmp .int32 [fVb vb], .fmax a .int32 vd va vb vp, 2), (on uFcmp .int32 [], .fabs a .int32 vd va vp, 2),
        (on uFcmp .int32 [], .fneg a .int32 vd va vp, 2)] → s.admits u a = true →
      ∃ g : Nat → Lane, exec i s = .next (s.landsLanes a vd vp n (fun k => (g k, .none)))) ∧
    (∀ u i, (u, i) ∈ [(on uFarith .res [fVb vb], (.fadd a .res vd va vb vp : Instr)), (on uFarith .res [fVb vb], .fsub a .res vd va vb vp),
        (on uFarith .res [fVb vb], .fmul a .res vd va vb vp), (on uFma .res [fVb vb, fVc vc], .fma a .res vd va vb vc vp),
        (on uFma .res [fVb vb, fVc vc], .fms a .res vd va vb vc vp), (on uFcmp .res [fVb vb], .fmin a .res vd va vb vp),
        (on uFcmp .res [fVb vb], .fmax a .res vd va vb vp), (on uFcmp .res [], .fabs a .res vd va vp),
        (on uFcmp .res [], .fneg a .res vd va vp)] → s.admits u a = true →
      exec i s = .next ((s.afterIssue a 1 (s.issued a)).bump Ob.cnt_slot_void 0))

/-- An integer ADD, SUB, AND, OR, XOR (1 cycle) or MULLO (3 cycles) of a vector that issues computes each 32-bit lane modulo 2^32; SHL, SHR and
SAR shift by the count of the lane where it is below 32 and otherwise write a value the spec does not state (log entry 13); ROTL rotates
by the count modulo 32; MULHI writes the high word of the product under one signedness for all lanes (log entry 13). Only lanes whose
predicate bit is 1 are written, no flag is raised and nothing else changes. -/
def Obligations.IntegerLanes : Prop :=
  ∀ (s : State) (a : Issue) (vd va vb : Nat) (vp : VPred), s.admits (uInt.takes (fVd vd :: fVa va :: fVb vb :: fVp vp)) a = true →
    let x := fun i => (s.issued a).lane va i
    let y := fun i => (s.issued a).lane vb i
    exec (.vintAdd a vd va vb vp) s = .next (s.landsLanes a vd vp 1 (fun i => (x i + y i, .none))) ∧
    exec (.vintSub a vd va vb vp) s = .next (s.landsLanes a vd vp 1 (fun i => (x i - y i, .none))) ∧
    exec (.vintAnd a vd va vb vp) s = .next (s.landsLanes a vd vp 1 (fun i => (x i &&& y i, .none))) ∧
    exec (.vintOr a vd va vb vp) s = .next (s.landsLanes a vd vp 1 (fun i => (x i ||| y i, .none))) ∧
    exec (.vintXor a vd va vb vp) s = .next (s.landsLanes a vd vp 1 (fun i => (x i ^^^ y i, .none))) ∧
    exec (.mullo a vd va vb vp) s = .next (s.landsLanes a vd vp 3 (fun i => (x i * y i, .none))) ∧
    exec (.rotl a vd va vb vp) s = .next (s.landsLanes a vd vp 1 (fun i => ((x i).rotateLeft ((y i).toNat % 32), .none))) ∧
    (∃ g : Nat → Lane, exec (.vintShl a vd va vb vp) s = .next (s.landsLanes a vd vp 1 (fun i => (g i, .none))) ∧
      ∀ i, (y i).toNat < 32 → g i = x i <<< (y i).toNat) ∧
    (∃ g : Nat → Lane, exec (.vintShr a vd va vb vp) s = .next (s.landsLanes a vd vp 1 (fun i => (g i, .none))) ∧
      ∀ i, (y i).toNat < 32 → g i = x i >>> (y i).toNat) ∧
    (∃ g : Nat → Lane, exec (.vintSar a vd va vb vp) s = .next (s.landsLanes a vd vp 1 (fun i => (g i, .none))) ∧
      ∀ i, (y i).toNat < 32 → g i = (x i).sshiftRight (y i).toNat) ∧
    (∃ g : Nat → Lane, exec (.mulhi a vd va vb vp) s = .next (s.landsLanes a vd vp 3 (fun i => (g i, .none))) ∧
      ((∀ i, g i = BitVec.ofInt 32 ((x i).toInt * (y i).toInt / 2 ^ 32)) ∨
        ∀ i, g i = BitVec.ofNat 32 ((x i).toNat * (y i).toNat / 2 ^ 32)))

/-- A conversion that issues between FP32, BF16 and INT32 takes 3 cycles, EXP2 10, RCP 12, RSQ 14; MXPACK and MXUNPACK of an MX format take 6 and
of any other format are SLOT_VOID; LANE_SHUFFLE by indexes below 32, LANE_BROADCAST and VMSEL take 2; VMSEL writes minus infinity where
the bit of the allowed-token word is 0; FCMP writes into the live bits of its predicate the outcome of its relation on each lane, of INT32 lanes
an outcome that the spec does not state (log entry 13), and with the reserved type it is SLOT_VOID. Nothing else changes. -/
def Obligations.ConvertLanes : Prop :=
  ∀ (s : State) (a : Issue) (vd va vb fmt lane : Nat) (vp : VPred),
    let c := s.issued a
    let on := fun (u : OpUnit) => u.takes (fVd vd :: fVa va :: fVp vp)
    let on2 := fun (u : OpUnit) => u.takes (fVd vd :: fVa va :: fVb vb :: fVp vp)
    (s.admits (on uConv) a = true →
      exec (.cvtFp32Bf16 a vd va vp) s = .next (s.landsLanes a vd vp 3 (fun i => cvtToBf16 (c.lane va i))) ∧
      exec (.cvtBf16Fp32 a vd va vp) s = .next (s.landsLanes a vd vp 3 (fun i => cvtFromBf16 (c.lane va i))) ∧
      exec (.cvtFp32Int32 a vd va vp) s = .next (s.landsLanes a vd vp 3 (fun i => cvtToInt (c.lane va i))) ∧
      exec (.cvtInt32Fp32 a vd va vp) s = .next (s.landsLanes a vd vp 3 (fun i => cvtFromInt (c.lane va i))) ∧
      (1 ≤ fmt ∧ fmt ≤ 6 →
        exec (.mxpack a fmt vd va vp) s = .next (s.landsLanes a vd vp 6 (fun i =>
          (BitVec.ofNat 32 ((mxEncode fmt (c.vreg va)).2.getD i 0 + 256 * (mxEncode fmt (c.vreg va)).1), .none))) ∧
        exec (.mxunpack a fmt vd va vp) s = .next (s.landsLanes a vd vp 6 (fun i =>
          mxDecode fmt ((c.lane va i).toNat / 256 % 256) ((c.lane va i).toNat % 2 ^ mxBits fmt)))) ∧
      (¬ (1 ≤ fmt ∧ fmt ≤ 6) →
        exec (.mxpack a fmt vd va vp) s = .next ((s.afterIssue a 1 c).bump Ob.cnt_slot_void 0) ∧
        exec (.mxunpack a fmt vd va vp) s = .next ((s.afterIssue a 1 c).bump Ob.cnt_slot_void 0))) ∧
    (s.admits (on uSfu) a = true →
      exec (.exp2 a vd va vp) s = .next (s.landsLanes a vd vp 10 (fun i => exp2 (c.lane va i))) ∧
      exec (.rcp a vd va vp) s = .next (s.landsLanes a vd vp 12 (fun i => rcp (c.lane va i))) ∧
      exec (.rsq a vd va vp) s = .next (s.landsLanes a vd vp 14 (fun i => rsq (c.lane va i)))) ∧
    (s.admits (on2 uPerm) a = true →
      (∃ g : Nat → Lane, exec (.laneShuffle a vd va vb vp) s = .next (s.landsLanes a vd vp 2 (fun i => (g i, .none))) ∧
        ∀ i, (c.lane vb i).toNat < 32 → g i = c.lane va (c.lane vb i).toNat)) ∧
    (s.admits (on uPerm) a = true →
      (lane < 32 → exec (.laneBroadcast a vd va lane vp) s = .next (s.landsLanes a vd vp 2 (fun _ => (c.lane va lane, .none))))) ∧
    (s.admits (on2 uMask) a = true → exec (.vmsel a vd va vb vp) s =
      .next (s.landsLanes a vd vp 2 (fun i => (if (c.sreg vb).getLsbD i then c.lane va i else f32Inf true, .none)))) ∧
    (∀ r t f, (t, f) ∈ [(VType.fp32, FFmt.f32), (VType.bf16, FFmt.bf16)] →
      s.admits (uFcmp.takes (fType t :: fVd vd :: fVa va :: fVb vb :: fVp vp)) a = true →
      ∃ bits : BitVec 32, exec (.fcmp a t r vd va vb vp) s = .next (s.lands a 1 2 (.preg vd bits (c.liveMask vp))) ∧
        ∀ i, i < 32 → bits.getLsbD i = fcmp f r (c.lane va i) (c.lane vb i)) ∧
    (∀ r,
      (s.admits (uFcmp.takes (fType .int32 :: fVd vd :: fVa va :: fVb vb :: fVp vp)) a = true → ∃ bits : BitVec 32, exec (.fcmp a .int32 r vd va vb vp) s = .next (s.lands a 1 2 (.preg vd bits (c.liveMask vp)))) ∧
      (s.admits (uFcmp.takes (fType .res :: fVd vd :: fVa va :: fVb vb :: fVp vp)) a = true → exec (.fcmp a .res r vd va vb vp) s = .next ((s.afterIssue a 1 c).bump Ob.cnt_slot_void 0)))

/-- An RSUM, RMAX or RMIN that issues folds the live lanes of its source in lane order by the tree of R196 and writes lane 0 after 6 cycles; with
no live lane RSUM writes +0 and RMAX minus infinity, and what RMIN then writes is open (log entry 13). Of one live lane RSUM writes its sum with +0 and
RMAX and RMIN its maximum and minimum with itself, so that a zero sum is +0 and a NaN the canonical one (R193). VMPOP adds the population count of the
AND of two words to its S register. Nothing else changes. -/
def Obligations.ReduceLanes : Prop :=
  ∀ (s : State) (a : Issue) (vd va x y : Nat) (vp : VPred),
    let c := s.issued a
    let live := ((List.range 32).filter (fun i => (c.liveMask vp).getLsbD i)).map (fun i => c.lane va i)
    let out := fun (p : Lane × Sticky) => s.afterIssue a 1 ((c.result 1 6 (.vreg vd [p.1] 1)).flags p.2)
    (s.admits (uRed.takes (fVd vd :: fVa va :: fVp vp)) a = true →
      (live.length ≠ 1 →
        exec (.rsum a vd va vp) s = .next (out (treeFold (fadd .f32) 0 6 live)) ∧
        exec (.rmax a vd va vp) s = .next (out (treeFold (fmax .f32) (f32Inf true) 6 live)) ∧
        ∃ e, exec (.rmin a vd va vp) s = .next (out (treeFold (fmin .f32) e 6 live))) ∧
      (∀ z, live = [z] →
        exec (.rsum a vd va vp) s = .next (out (fadd .f32 z 0)) ∧
        exec (.rmax a vd va vp) s = .next (out (fmax .f32 z z)) ∧
        exec (.rmin a vd va vp) s = .next (out (fmin .f32 z z)))) ∧
    (s.admits (uMask.takes [fVd vd, fVa x, fVb y]) a = true → exec (.vmpop a vd x y) s =
      .next (s.lands a 1 2 (.sreg vd (c.sreg vd + BitVec.ofNat 64 (ones32 (c.sreg x &&& c.sreg y))))))

/-- An MMA that issues, of a format of Table 5-6 whose unit is free, with both operand buffers of that format's row, adds to every element of the
rows its predicate names the block sums of the two buffers (R189), starting from 0 where it is asked to; its result is due after 68
cycles and the unit is taken for 64. MRD puts accumulator rows 2p and 2p + 1 into the lanes of a V register, MZERO clears an accumulator,
and an operand load whose unit is free fills its buffer after 7 cycles (MLD.A, MLD.B) or 18 (MLD.VT). Nothing else changes. -/
def Obligations.MatrixOps : Prop :=
  ∀ (s : State) (a : Issue) (fmt acc b ab bb base rp vd p dblk k nb : Nat) (zero e5m2 phi : Bool) (off : BitVec 32),
    let c := s.issued a
    (s.admits (uMma.takes [fFmt fmt, fAcc acc, fZero zero, fBufA ab, fBufB bb, fRp rp]) a = true → mmaShape fmt = some (k, nb) → (s.coreAt a.core).mmaFree ≤ (s.coreAt a.core).cycle + a.delta →
      sameRow fmt (c.buf (ab % 2)).fmt = true → sameRow fmt (c.buf (2 + bb % 2)).fmt = true →
      let rs := (List.range 256).map (fun n =>
        mmaElem (c.buf (ab % 2)) (c.buf (2 + bb % 2)) k nb (if zero then 0 else (c.acc acc).getD n 0) (n / 16) (n % 16))
      let mask := (c.preg rp).setWidth 16
      exec (.mma a fmt acc zero ab bb rp) s = .next (s.afterIssue a 2 (({ c with mmaFree := c.cycle + 64 }.result 2 68
        (.acc acc (rs.map Prod.fst) mask)).flags
          (rs.zipIdx.foldl (fun f (q : (Lane × Sticky) × Nat) => if mask.getLsbD (q.2 / 16) then f.or q.1.2 else f) Sticky.none)))) ∧
    (s.admits (uMrd.takes [fAcc acc]) a = true → exec (.mrd a vd acc p) s =
      .next (s.lands a 2 3 (.vreg vd ((List.range 32).map (fun i => (c.acc acc).getD (32 * (p % 8) + i) 0)) (BitVec.allOnes 32)))) ∧
    (s.admits (uMzero.takes [fAcc acc]) a = true → exec (.mzero a acc) s = .next (s.lands a 2 1 (.acc acc (List.replicate 256 0) (BitVec.allOnes 16)))) ∧
    (s.admits (uOperand.takes [fData (b % 2), fBase base, fOff off]) a = true → (s.coreAt a.core).opFree ≤ (s.coreAt a.core).cycle + a.delta →
      exec (.mldA a fmt b base off) s = .next (s.afterIssue a 3 (({ c with opFree := c.cycle + 5 }.result 3 7
        (.buf (b % 2) ⟨fmt, c.bytes (coreAddr (c.sreg base) off 128) 512, c.bytes (coreAddr (c.sreg base) off 128 + 512) 32⟩)).flags
          Sticky.none)) ∧
      exec (.mldB a fmt b base off) s = .next (s.afterIssue a 3 (({ c with opFree := c.cycle + 5 }.result 3 7
        (.buf (2 + b % 2) ⟨fmt, c.bytes (coreAddr (c.sreg base) off 128) 512, c.bytes (coreAddr (c.sreg base) off 128 + 512) 32⟩)).flags
          Sticky.none)) ∧
      let rs := (List.range 256).map (fun n =>
        vtElem c (if e5m2 then 2 else 1) (coreAddr (c.sreg base) off 128) ((if phi then 16 else 0) + n % 16) (dblk % 8 * 16 + n / 16))
      exec (.mldVt a e5m2 b base off phi dblk) s = .next (s.afterIssue a 3 (({ c with opFree := c.cycle + 16 }.result 3 18
        (.buf (2 + b % 2) ⟨7, rs.flatMap (fun (r : Lane × Sticky) => toLE 2 (r.1.toNat / 65536)), List.replicate 32 0⟩)).flags
          (rs.foldl (fun f (r : Lane × Sticky) => f.or r.2) Sticky.none))))

/-- An LD, ST, LDS or STS that issues accesses the core store at base plus sign-extended offset, aligned and modulo 131,072 (R177, R178), and its
result is due after 2 cycles. CLD asks for a line of the cluster store in the first cycle in which the core owns its bank, to be put into the core store
at the address its S register holds; CST and PUT send a line of the core store to a cluster store; TWALK asks for one trie node for one input byte. A
read of the cluster's store takes place in its cycle, sees every write that landed before it, and its result is due 6 cycles later, a trie's child 8
(R179, R202). Only the issuing core and, for CLD, CST, PUT and TWALK, the reads and writes on their way to a cluster's store change. -/
def Obligations.CoreStoreOps : Prop :=
  ∀ (s : State) (a : Issue) (r base sd sb : Nat) (off : BitVec 32),
    let c := s.issued a
    let s' := s.afterIssue a 3 c
    let line := coreAddr (c.sreg base) off 128
    let on := fun (u : OpUnit) => u.takes [fData r, fBase base, fOff off]
    (s.admits (on uLine) a = true →
      exec (.ld a r base off) s = .next (s.lands a 3 2 (.vreg r (bytesToLanes (c.bytes line 128)) (BitVec.allOnes 32))) ∧
      exec (.st a r base off) s = .next (s.lands a 3 2 (.store line (lanesToBytes (c.vreg r))))) ∧
    (s.admits (on uWord) a = true →
      exec (.lds a r base off) s = .next (s.lands a 3 2 (.sreg r (BitVec.ofNat 64 (ofLE (c.bytes (coreAddr (c.sreg base) off 8) 8))))) ∧
      exec (.sts a r base off) s = .next (s.lands a 3 2 (.store (coreAddr (c.sreg base) off 8) (toLE 8 (c.sreg r).toNat)))) ∧
    (s.admits (on uCluster) a = true →
     let ad := clusterAddr (c.sreg base) off
     let w := csWait (a.core % 8) c.cycle ad
     exec (.cld a r base off) s = .next (s'.clusterAsk (a.core / 8) ⟨c.cycle + w, a.core, .line ad (coreAddr (c.sreg r) 0 128)⟩) ∧
     exec (.cst a r base off) s = .next (s'.clusterSend (a.core / 8)
        ⟨c.cycle + 6 + w, a.core, ad, c.bytes (coreAddr (c.sreg r) 0 128) 128⟩)) ∧
    (s.admits (on uPut) a = true →
     let d := (c.sreg r).toNat
     exec (.put a r base off) s = .next (s'.clusterSend (d / 2 ^ 32 % 512)
        ⟨c.cycle + netLatency (a.core / 8) (d / 2 ^ 32 % 512), a.core, d % 2097152 / 128 * 128, c.bytes line 128⟩)) ∧
    (s.admits (uTrie.takes [fData sd, fBase base]) a = true →
     let node := (c.sreg base).toNat % 2 ^ 32
     exec (.twalk a sd base sb) s = .next (s'.clusterAsk (a.core / 8)
        ⟨c.cycle + csWait (a.core % 8) c.cycle (node % 2097152), a.core, .child sd node ((c.sreg sb).toNat % 256)⟩)) ∧
    (∀ n q, let t := s.clusterSettle n q.cycle
      (∀ ad dst, q.fetch = .line ad dst → ((s.clusterFetch n q).coreAt q.core).flight =
        insertWb ⟨q.cycle + 6, 3, .store dst (bgets (t.clusterStore n) ad 128)⟩ (t.coreAt q.core).flight) ∧
      (∀ reg node byte, q.fetch = .child reg node byte → ((s.clusterFetch n q).coreAt q.core).flight =
        insertWb ⟨q.cycle + 8, 3, .sreg reg (BitVec.ofNat 64 (trieWord (trieEdge (t.clusterStore n) node byte)))⟩ (t.coreAt q.core).flight))

/-- A SYNC_ADD of a COUNTER, SET or CLEAR of an EVENT, or ARRIVE at a CLOSURE that issues takes effect on an object of its owner in the cycle
that follows its issue by the latency of Table 10-4, with the low 32 bits of its operand register; on an object of the group it is sent and
waits for tick t + D; on an object of another type, or a FREE one, it is counted as a SLOT_VOID and changes no object (R348: an object of
another owner is FREE to it, log entry 173). -/
def Obligations.SyncSignals : Prop :=
  ∀ (s : State) (a : Issue) (n rs : Nat),
    let s' := s.afterIssue a 4 (s.issued a)
    let v := ((s.issued a).sreg rs).toNat % 2 ^ 32
    ∀ u i op w, (u, i, op, w) ∈ [(uSignal.takes [fObj n, fOs rs], (.syncAdd a n rs : Instr), SyncOp.add, v),
        (uSignal.takes [fObj n], .syncSet a n, .set, 0), (uSignal.takes [fObj n], .syncClear a n, .clear, 0),
        (uArrive.takes [fObj n, fOs rs], .arrive a n rs, .arrive, v)] → s.admits u a = true →
      ((s.syncObj n).owner = s'.coreOwner a.core → opFits op (s.syncObj n).type = true → (s.syncObj n).group = false →
        exec i s = .next (s'.syncCycle n ((s.issued a).cycle + netLatency (a.core / 8) (n / 32)) op w a.core)) ∧
      ((s.syncObj n).owner = s'.coreOwner a.core → opFits op (s.syncObj n).type = true → (s.syncObj n).group = true →
        exec i s = .next (({ s' with sync := { s'.sync with
          updates := s'.sync.updates ++ [(⟨s'.tick + s'.obj Ob.sync_group_ticks 0, n, op, w⟩ : GroupUpdate)] } } : State).lockSend
          (.groupUpdate n op w (s'.tick + s'.obj Ob.sync_group_ticks 0)))) ∧
      (opFits op (s'.syncFor a.core n).type = false → exec i s = .next (s'.bump Ob.cnt_slot_void 0))

/-- A WAIT that issues on an object its owner may name, whose condition the object meets in its issue cycle, writes outcome 0 into bits 63 to
56 of its register one cycle later. One that is not met, in service code with a timeout of 0, writes outcome 1 and reports SYNC_TIMEOUT;
with a timeout of n ticks it waits until tick t + n. SYNC_WAIT_TIMEOUT takes a wait that was not met by the end of its deadline's tick off
the list, reports it and writes outcome 1; with no such wait of its core it changes nothing. -/
def Obligations.WaitOutcomes : Prop :=
  ∀ (s : State) (a : Issue) (n rs : Nat),
    let c := s.issued a
    let s' := s.afterIssue a 4 c
    let v := (c.sreg rs).toNat % 2 ^ 32
    let timeout := (c.sreg rs).toNat / 2 ^ 32 % 65536
    (∀ i cond, (i, cond) ∈ [((.waitCount a n rs : Instr), 0), (.waitEvent a n rs, 1), (.waitRound a n rs, 2)] →
      s.admits (uWait.takes [fObj n, fOs rs]) a = true → (s'.syncFor a.core n).type ≠ .free →
      (waitOutcome (s'.syncSeen n c.cycle) cond v = some 0 → exec i s = .next (s'.waitDone a.core rs 0)) ∧
      (waitOutcome (s'.syncSeen n c.cycle) cond v = none → s'.inTraverse a.core = false → timeout = 0 →
        exec i s = .next (((s'.syncError n syncTimeoutCause 0 a.core 0xFFFF 0xFFFFFFFF v).bump Ob.cnt_sync_timeouts
          (syncHalf n)).waitDone a.core rs 1)) ∧
      (waitOutcome (s'.syncSeen n c.cycle) cond v = none → s'.inTraverse a.core = false → timeout ≠ 0 →
        exec i s = .next { s' with sync := { s'.sync with
          waits := s'.sync.waits ++ [⟨a.core, n, cond, v, rs, s'.tick + timeout⟩] } })) ∧
    (∀ w, s.sync.waits.find? (fun w => w.core == n && decide (w.deadline < s.tick)) = some w →
      exec (.syncWaitTimeout n) s = .next (((({ s with sync := { s.sync with waits := s.sync.waits.erase w } } : State).syncError w.obj
        syncTimeoutCause 0 n 0xFFFF 0xFFFFFFFF w.operand).bump Ob.cnt_sync_timeouts (syncHalf w.obj)).putOutcome n w.reg 1)) ∧
    (s.sync.waits.find? (fun w => w.core == n && decide (w.deadline < s.tick)) = none → exec (.syncWaitTimeout n) s = .next s)

/-- An accepted TRV_LOAD on a slot that is neither LOADING nor ACTIVE frees the slot's tiles, takes RAW tiles for the image and leaves the
slot LOADING; on one that is, it is refused as busy. The end of a load writes the source's octets into those tiles and leaves the slot
LOADED with the image parsed from them and its identity when every check of Table 4-4 passes, and REFUSED with the status of the first check
that fails otherwise; a source that could not be read is TRAVERSE_CORRUPT. An accepted ACTIVATE of a LOADED slot of
a tile alone, at least 4 frames ahead, schedules the takeover, takes back any other slot's, withdraws the lists of another traverse from
that frame on and measures the identity; one with less notice is refused. An accepted UNLOAD of a slot neither LOADING nor ACTIVE leaves
it EMPTY. -/
def Obligations.TraverseSlots : Prop :=
  ∀ (s : State) (w : Writer) (tt : Nat) (agreed : Bool) (img : TrvImage) (o : Octets),
    (s.accepts w Ob.trv_command tt [1] →
      (s.trvState tt ≠ 1 → s.trvState tt ≠ 3 →
        let u := s.freeAll (s.trvSlot tt).tiles
        let p := u.allocRaw 9 (0xFFFF0000 + tt) (ofLE (slice (u.str Ob.trv_source tt) 8 4)) []
        exec (.trvLoad w tt) s = .next (((p.1.setTrvSlot tt ⟨none, none, false, p.2⟩).setObj Ob.trv_state tt 1).carriedOut w Ob.trv_command tt [1])) ∧
      (s.trvState tt = 1 ∨ s.trvState tt = 3 →
        exec (.trvLoad w tt) s = .next ((s.setObj Ob.trv_status tt St.TRAVERSE_BUSY).reply w St.TRAVERSE_BUSY))) ∧
    (s.trvState tt = 1 →
      exec (.trvLoadDone tt none) s = .next ((s.setObj Ob.trv_status tt St.TRAVERSE_CORRUPT).setObj Ob.trv_state tt 4) ∧
      let l := (s.trvSlot tt).tiles
      let b := (s.fillRaw l o).rawOctets l
      let u := (s.fillRaw l o).setObj Ob.trv_status tt ((s.fillRaw l o).trvCheck tt b)
      ((s.fillRaw l o).trvCheck tt b = St.OK →
        exec (.trvLoadDone tt (some o)) s = .next (((u.setTrvSlot tt { u.trvSlot tt with image := some (parseTrv b) }).setObj Ob.trv_state tt
          2).setStr Ob.trv_identity tt (toLE 32 (parseTrvHeader b).groupIdentity))) ∧
      ((s.fillRaw l o).trvCheck tt b ≠ St.OK → exec (.trvLoadDone tt (some o)) s = .next (u.setObj Ob.trv_state tt 4))) ∧
    (s.trvState tt ≠ 1 → exec (.trvLoadDone tt none) s = .next s) ∧
    (s.accepts w Ob.trv_command tt [2] → s.trvState tt = 2 → (s.trvSlot tt).image = some img →
      let f := s.obj Ob.trv_activate_frame tt
      (f < s.frame + 4 →
        exec (.activate w tt agreed) s = .next ((s.setObj Ob.trv_status tt St.TRAVERSE_ACTIVATE_LATE).reply w St.TRAVERSE_ACTIVATE_LATE)) ∧
      (s.frame + 4 ≤ f → searchShareOk img (s.obj Ob.search_trv_share 0) = true → s.bindsOk img = true → img.hdr.groupSize ≤ 1 →
        let u := (s.trv.slots.map Prod.fst).foldl (fun (u : State) k => u.setTrvSlot k
          { u.trvSlot k with activateAt := none, agreed := false }) s
        let v := u.setTrvSlot tt { u.trvSlot tt with activateAt := some f, agreed := true }
        let x := (v.trv.lists.filter (fun p => decide (f ≤ p.list.takeover) && p.list.trvId != trvIdOf img.hdr)).foldl State.withdraw v
        exec (.activate w tt agreed) s = .next (((x.measure St.OK 4 (writerSource w) tt (toLE 32 img.hdr.groupIdentity)).setObj
          Ob.trv_status tt St.OK).carriedOut w Ob.trv_command tt [2]))) ∧
    (s.accepts w Ob.trv_command tt [3] → s.trvState tt ≠ 1 → s.trvState tt ≠ 3 →
      let u := s.freeAll (s.trvSlot tt).tiles
      let v := { u with trv := { u.trv with active := if u.trv.active == some tt then none else u.trv.active } }
      exec (.unload w tt) s = .next (((((v.setTrvSlot tt trvEmpty).setObj Ob.trv_state tt 0).setStr Ob.trv_identity tt
        (List.replicate 32 0)).setObj Ob.trv_status tt St.OK).carriedOut w Ob.trv_command tt [3]))

/-- The device that decides, asked at or before the start of the frame four before a takeover (R155) for the list of a frame for which none is
pending, issues it (R153). A member that receives in time a list whose CRC and range are right, of the traverse it will run and for a frame
that has none, sets up its rows, holds the list as acknowledged and acknowledges it (R156); octets that are no such list, or one that comes
late, change nothing. At the decision tick of a takeover the pending list and activation of a traverse of one device are agreed on this
tile's own acknowledgement; of a group, the deciding device sends COMMIT, with V, when every member has acknowledged, and else WITHDRAW, and
does the same to its own. -/
def Obligations.SlotListRounds : Prop :=
  ∀ (s : State) (takeover : Nat) (others : List RowCand) (o : Octets) (l : SlotList) (img : TrvImage) (all : Bool) (v : Option (Nat × Nat)),
    (s.imageFor takeover = some img → s.masters img = true → s.listTimely takeover = true → s.hasList takeover = false →
      exec (.slotListIssue takeover others) s = .next (s.issueList takeover others)) ∧
    (parseSlotList o = some l → s.imageFor l.takeover = some img → imageGrouped img = true → s.masters img = false →
      s.listTimely l.takeover = true → l.trvId = trvIdOf img.hdr → listInRange l img.hdr = true → s.hasList l.takeover = false →
      let tags := (s.placedBy l).filterMap (fun q => (s.sess q.1).map (fun x => (q.1, x.vfinish)))
      let u := { s with trv := { s.trv with lists := s.trv.lists ++ [(⟨l, true, false, tags, s.shape.v0, s.shape.v1⟩ : PendingList)] } }
      exec (.slotListReceive o) s = .next (((u.claimRows (s.placedBy l)).nameAll l).lockSend (.listAck l.takeover))) ∧
    (parseSlotList o = none → exec (.slotListReceive o) s = .next s) ∧
    (parseSlotList o = some l → l.takeover < s.frame + 4 → exec (.slotListReceive o) s = .next s) ∧
    (s.imageFor takeover = some img → s.decisionDue img takeover = true →
      (imageGrouped img = false →
        exec (.slotListDecision takeover all v) s = .next ((s.decideList takeover true).decideActivation takeover true)) ∧
      (imageGrouped img = true → s.masters img = true → s.hasList takeover = true →
        (∀ p ∈ s.trv.lists, p.committed = false) →
        exec (.slotListDecision takeover all v) s =
          .next (((s.lockSend (.decision takeover all s.shape.v0 s.shape.v1)).decideList takeover all).decideActivation takeover all))) ∧
    (s.imageFor takeover = some img → s.decisionDue img takeover = false → exec (.slotListDecision takeover all v) s = .next s) ∧
    (∀ p, s.trv.lists.find? (fun p => p.list.takeover == takeover && !p.committed) = some p →
      (p.acked = true → s.decideList takeover true =
        { s with trv := { s.trv with lists := s.trv.lists.map (fun q => if q == p then { q with committed := true } else q) } }) ∧
      (p.acked = false ∨ all = false → s.decideList takeover all = (s.withdraw p).bump Ob.cnt_slot_withdrawn 0))

/-- At the end of a hold window the member keeps, under the window's schedule tick, the requests of the wait points of that window that are
unmet (of every window before it where a hold has ended since), of copies beyond the allowance, of clusters that wake late and of fabric
replays of a group, in that order, and the others send them to the deciding device. One hold is decided for a window from all requests: it
has the length, at most 25,000 ticks, and the cause of the request that names it (of equal requests of one member the first, log entry 158),
and starts hold_lead ticks after the window. At its schedule tick the hold starts and is logged and counted; after its length in datum ticks
issue resumes and the held ticks grow by it. A fault notice of another position voids the frame that its tick names and counts its length
in the group's frame length; one that tells that the position has no image left for what remains has this member stop its traverse too, at
the frame's end (R171; the notice's length that says so is log entry 191). -/
def Obligations.GroupHolds : Prop :=
  ∀ (s : State) (ests : List (Nat × Nat × Nat)) (c w r e : Nat) (others : List HoldRequest) (img : TrvImage) (h : TrvHeader) (q : HoldRequest)
      (p : HoldPlan) (rest : List HoldPlan) (t n : Nat),
    (s.activeImage = some img → s.runningHdr = some h → s.trv.held = none → s.schedTick ≠ 0 → s.schedTick % max 1 h.holdWindow = 0 →
      mget s.trv.requests s.schedTick = none →
      let unmet := img.waits.filter (fun p => decide (p.decisionTick < s.schedTick)
        && (s.trv.again || decide (s.schedTick ≤ p.decisionTick + h.holdWindow)) && !s.pointMet p)
      let all := unmet.map (fun p => (⟨s.groupPos, max 1 (((ests.find? (fun e => e.1 == p.queue && e.2.1 == p.tag)).map (fun e => e.2.2)).getD 0),
            pointCause p, if pointCause p == 1 then p.queue else 0xFF, if pointCause p == 1 then p.tag else 0⟩ : HoldRequest))
          ++ (if h.cowAllowance < s.trv.copies ∧ 0 < c then [⟨s.groupPos, c, 2, 0xFF, 0⟩] else [])
          ++ (if s.wakeLate h = true ∧ 0 < w then [⟨s.groupPos, w, 3, 0xFF, 0⟩] else [])
          ++ (if s.grouped = true ∧ 0 < r then [⟨s.groupPos, r, 4, 0xFF, 0⟩] else [])
      let u := { s with trv := { s.trv with requests := mput s.trv.requests s.schedTick all, again := false } }
      exec (.holdWindowEnd ests c w r) s =
        .next (if s.isMaster = true then u else all.foldl (fun (v : State) r => v.lockSend (.holdRequest r)) u)) ∧
    (s.runningHdr = some h → s.isMaster = true → e % max 1 h.holdWindow = 0 → e ∉ s.trv.decided → s.schedTick ≤ e + h.holdLead →
      let all := (mget s.trv.requests e).getD [] ++ others
      topRequest all = some q →
      let p : HoldPlan := ⟨e + h.holdLead, min 25000 q.ticks, q.cause, min 255 ((all.map (fun q => q.position)).eraseDups).length, q.position,
        q.queue, q.tag⟩
      let u := { s with trv := { s.trv with decided := s.trv.decided ++ [e], plans := s.trv.plans ++ [p] } }
      exec (.holdRequest e others) s = .next (if s.grouped = true then u.lockSend (.hold p) else u)) ∧
    (s.trv.plans = p :: rest → s.trv.held = none → p.sched ≤ s.schedTick → p.cause ≠ 3 →
      exec .holdStart s = .next ((({ s with trv := { s.trv with plans := rest, held := some (s.tick, p.length) } } : State).logHold
        ⟨s.frame, s.tick, s.schedTick, p.length, p.cause, p.requesters, p.position, p.queue, p.tag⟩).bump Ob.cnt_holds 0)) ∧
    (s.trv.held = some (t, n) →
      (t + n ≤ s.tick → exec .holdEnd s = .next (({ s with trv := { s.trv with
        held := none, heldTicks := s.trv.heldTicks + n, again := true } } : State).addObj Ob.cnt_held_ticks 0 n)) ∧
      (s.tick < t + n → exec .holdEnd s = .next s)) ∧
    (s.grouped = true → c ≠ s.groupPos →
      let u := s.voidFrame t
      (n ≠ noLength → exec (.faultNotice c t n) s = .next { u with trv := { u.trv with groupLen := max u.trv.groupLen n } }) ∧
      exec (.faultNotice c t noLength) s = .next { u with trv := { u.trv with stopDue := true } })

/-- A SLICE_MEMBER without a datum that runs no traverse takes the benchmark device's counter plus the fixed latency that its up-port, the port of
the shortest path, measured in cycles and that of the links beyond it, as its own, modulo 2^64, and begins locking (R148). After 10,000
consecutive ticks within 5 ns it is LOCKED; 250,000 ticks without that report DATUM_LOCK_FAIL and leave it without a datum. A LOCKED member
whose signal is lost or whose error exceeds 10 ns goes into HOLDOVER, counted, its up-port moved to the next shortest path; a relock within
750 ticks makes it LOCKED, and 750 ticks without one lose the member, which ends a checkpoint. A takeover marks the lost members, which ends a checkpoint too, and the device at the new benchmark position is named. -/
def Obligations.DatumStates : Prop :=
  ∀ (s : State) (counter beyond port bench : Nat) (err : Int) (lost : Bool) (members : List Nat),
    (s.obj Ob.composition 0 = 1 → s.datumState = 0 → s.runningHdr = none → s.joinBenchmark = some bench → s.route bench = some port →
      let t := (counter + (s.obj Ob.port_latency_cc port + beyond) / 60) % 2 ^ 64
      exec (.datumLock counter beyond) s = .next ((({ s with
        tick := t, frame := t / 25000, frameStart := t / 25000 * 25000 } : State).setDatum 1).setObj Ob.up_port 0 port)) ∧
    (s.datumState = 1 →
      (s.trv.datumSince + 10000 ≤ s.tick → -5000 ≤ err → err ≤ 5000 →
        exec (.datumLocked err) s = .next ((s.setDatum 2).setObj Ob.datum_edge_err 0 (twos 32 err))) ∧
      (err < -5000 ∨ 5000 < err → exec (.datumLocked err) s = .next s) ∧
      (s.trv.datumSince + 250000 ≤ s.tick → exec .datumLockFail s = .next ((s.setDatum 0).tileEvent Ev.DATUM_LOCK_FAIL 0 0))) ∧
    (s.datumState = 2 →
      (lost = true ∨ err < -10000 ∨ 10000 < err → exec (.datumHoldover lost err) s = .next ((((s.setDatum 3).setObj Ob.datum_edge_err 0
        (twos 32 err)).setObj Ob.up_port 0 ((s.joinBenchmark.bind (fun b => s.routeBut (s.obj Ob.up_port 0) b)).getD 0xFF)).bump
          Ob.cnt_datum_holdover 0)) ∧
      (-10000 ≤ err → err ≤ 10000 → exec (.datumHoldover false err) s = .next s)) ∧
    (s.datumState = 3 →
      (s.tick ≤ s.trv.datumSince + 750 → exec (.holdoverRelock err) s = .next ((s.setDatum 2).setObj Ob.datum_edge_err 0 (twos 32 err))) ∧
      (s.trv.datumSince + 750 ≤ s.tick →
        let u := s.setDatum 0
        let v := ({ u with trv := { u.trv with lostMembers := (u.trv.lostMembers ++ [u.groupPos]).eraseDups } } : State).ckAbort 6
        exec .holdoverTimeout s = .next (if v.grouped = true then v.stopTraverse else v))) ∧
    (s.grouped = true →
      let u := { s with trv := { s.trv with lostMembers := (s.trv.lostMembers ++ members).eraseDups } }
      let v := if members = [] then u else u.ckAbort 6
      let sl := ((v.assigns.find? (fun a => a.position == v.groupPos)).map (fun a => a.slice)).getD 0
      exec (.benchmarkTakeover members) s = .next (match v.allAssigns.find? (fun a => a.slice == sl && a.position == v.masterPos) with
        | some a => v.setObj Ob.benchmark_device 0 a.device
        | none => v))

/-- A scrub pass treats each error it meets as a detection in its core or cluster store, corrected or uncorrectable, and a detection of a core
that the device has is treated as one. A corrected error is counted and nothing else; a watchdog fault is counted, voids the frame, counts a
core fault, is reported, fences its core at once and is noticed to the group. The command FENCE_CORE or FENCE_CLUSTER voids the frame and fences with cause COMMANDED. CLEAR_CLUSTER of
a cluster that no ACTIVE traverse uses resets its cores and its store and starts its self-test when anything of it is fenced; a self-test that
passes lifts the cluster's and its cores' fences, and its cores join at the next activation; one that fails is a detection of its own, which
fences the cluster again. -/
def Obligations.FenceRows : Prop :=
  ∀ (s : State) (w : Writer) (k n : Nat) (found : List (Nat × Bool × Bool)) (inCluster : Bool) (f : CoreFault),
    exec (.scrub found) s = .next (found.foldl (fun u e => u.detect e.1 e.2.1 (if e.2.2 then .sramUe else .sramCe))
      { s with core := { s.core with scrubbed := s.schedTick } }) ∧
    (k < 4096 → exec (.coreFaultDetect k inCluster f) s = .next (s.detect k inCluster f)) ∧
    s.detect k inCluster .sramCe = s.bump Ob.cnt_sram_ce 0 ∧
    (let v := s.bump Ob.cnt_watchdog 0
     let u := ((v.voidFrame v.tick).bump Ob.cnt_core_fault 0).report (k / 8) clsUncorrected Cause.WATCHDOG
     s.detect k false .watchdog = ((u.setCore k { u.coreAt k with lastFault := some u.frame }).fenceCore k Cause.WATCHDOG).noticeFault) ∧
    (k < 4096 → s.accepts w Ob.fence_command 0 (toLE 4 (k + 0x1000)) →
      exec (.fenceCore w k) s = .next ((((((s.voidFrame s.tick).bump Ob.cnt_core_fault 0).fenceCore k Cause.COMMANDED).noticeFault).setObj
        Ob.fence_status 0 St.OK).carriedOut w Ob.fence_command 0 (toLE 4 (k + 0x1000)))) ∧
    (k < 4096 → s.accepts w Ob.fence_command 0 (toLE 4 (k + 0x2000)) →
      exec (.fenceCluster w k) s = .next ((((((s.voidFrame s.tick).bump Ob.cnt_core_fault 0).fenceCluster (k / 8)
        Cause.COMMANDED).noticeFault).setObj Ob.fence_status 0 St.OK).carriedOut w Ob.fence_command 0 (toLE 4 (k + 0x2000)))) ∧
    (k < 4096 → s.accepts w Ob.fence_command 0 (toLE 4 (k + 0x3000)) → (∀ h, s.activeRun = some h → hdrUses h (k / 8) = false) →
      s.clusterFenced (k / 8) = true ∨ 0 < s.fencedCores (k / 8) →
      let u := s.clusterCleared (k / 8)
      exec (.clearCluster w k) s = .next ((({ u with core := { u.core with
        testing := (u.core.testing ++ [k / 8]).eraseDups } } : State).setObj Ob.fence_status 0 St.OK).carriedOut w Ob.fence_command 0
          (toLE 4 (k + 0x3000)))) ∧
    (s.core.testing.contains n = true → s.asleep n = false →
      let u := { s with core := { s.core with testing := s.core.testing.erase n } }
      let v := if s.clusterFenced n then u.setObj Ob.cnt_clusters_fenced 0 (u.obj Ob.cnt_clusters_fenced 0 - 1) else u
      let x := v.setObj Ob.cnt_cores_fenced 0 (v.obj Ob.cnt_cores_fenced 0 - s.fencedCores n)
      let y := x.setStr Ob.cluster_fence_map 0 (mapSet (x.str Ob.cluster_fence_map 0) n false)
      let cores := (List.range 8).map (fun j => 8 * n + j)
      let z := cores.foldl (fun (z : State) j => z.setStr Ob.core_fence_map 0 (mapSet (z.str Ob.core_fence_map 0) j false)) y
      exec (.clusterSelfTestDone n true) s = .next { z with core := { z.core with rejoining := (z.core.rejoining ++ cores).eraseDups } } ∧
      (let d := u.detected n Cause.BIST
       exec (.clusterSelfTestDone n false) s = .next (if d.clusterFenced n = true then ((d.tileEvent Ev.CLUSTER_FENCED n Cause.BIST).report n
         clsPartFailed Cause.BIST).noticeFault else (d.fenceCluster n Cause.BIST).noticeFault)))

/-- A message that waits alone in its station's intake once the descriptors that its handles name are read (R47), passes every stage and names a session in a state that accepts it (Table 2-7) is
accepted and recorded, and then: CLOSE closes the session, at its boundary when it is ACTIVE; CANCEL cancels it, or, in the tick in which the
frame ends, waits for the frame that begins there (R77); PARK starts its move to T2; REVIVE stops its parking, makes it REVIVING and starts its blocks' way back once its record is durable; APPEND takes its input, final where it says so; RESUME, with the tag the session waits
for, ends the wait and takes the tool's result as a final input. A RESUME with another tag is refused with WAIT_TAG_MISMATCH. -/
def Obligations.SessionMessages : Prop :=
  ∀ (z : State) (t : Transfer) (e : Intake) (h : MsgHdr) (x : Session) (b : InputBody),
    let s := z.readDescs t.descs
    s.waits t.station e → (s.atTurn t.station e).passes t.station (s.chosen t.station e) →
    let e' := s.chosen t.station e
    let u := (s.serving t.station e).resolve t.station h.handle
    u.2 = some x →
    let p := u.1.accept t.station e' x.fbMode x.half x.sid 0 false 0 false
    (e.msg = ⟨h, .close⟩ → verdict x .close = .accept →
      exec (.close t h) z = .next (if x.state = .active then p.1.modSess x.index (fun y => { y with closePending := true })
        else p.1.enterClosed x.index 1)) ∧
    (e.msg = ⟨h, .cancel⟩ → verdict x .cancel = .accept → exec (.cancel t h) z =
      .next (if p.1.frameEnd ≤ p.1.tick ∧ p.1.trv.held = none then p.1.modSess x.index (fun y => { y with cancelLater := true })
        else p.1.cancelSession x.index)) ∧
    (e.msg = ⟨h, .park⟩ → verdict x .park = .accept → exec (.park t h) z = .next (p.1.startPark x.index 2)) ∧
    (e.msg = ⟨h, .revive⟩ → verdict x .revive = .accept →
      let v := (p.1.stopParking x.index).modSess x.index (fun y => { y.toReviving p.1.tick with lastActive := p.1.tick })
      exec (.revive t h) z = .next (if p.2 = 0 then v.startRevive x.index else v.waitDurable p.2 (.startRevive x.sid))) ∧
    (e.msg = ⟨h, .append b⟩ → verdict x .append = .accept →
      exec (.append t h b) z = .next (u.1.takeInput t.station e' x b b.final false)) ∧
    (e.msg = ⟨h, .resume b⟩ → verdict x .resume = .accept →
      (b.waitTag = x.waitTag →
        exec (.resume t h b) z = .next ((u.1.modSess x.index (fun y => { y with waitOpen := false, waitDeadline := 0 })).takeInput t.station e'
          { x with waitOpen := false } b true false)) ∧
      (b.waitTag ≠ x.waitTag →
        exec (.resume t h b) z = .next (u.1.finish t.station e'.msg.hdr.seq (Outcome.of St.WAIT_TAG_MISMATCH))))

/-- An OPEN that waits alone in its station's intake and passes every stage, whose handle names no session nor one closed in this tick (R32),
within the station's session limit, with a prefix of its model and half that is neither released nor FAILED (or with none), with models it may use, and with a free
index of its half: the session takes the index with its generation and the values of the message, defaults and station; a prefix gains a
reference, its parking ends, and, where it is prefilled, its partial tail is copied; the searches for the handle and the prefix are counted; the page table gets its first level; the handle goes into the half's hash table and into its
CAM; and the OPEN is accepted with the policies in force. -/
def Obligations.OpenSession : Prop :=
  ∀ (z : State) (t : Transfer) (e : Intake) (h : MsgHdr) (b : OpenBody) (i g : Nat) (a : State),
    let s := z.readDescs t.descs
    s.waits t.station e → (s.atTurn t.station e).passes t.station (s.chosen t.station e) → e.msg = ⟨h, .openSession b⟩ →
    let st := t.station
    let e' := s.chosen st e
    let half := (s.serving st e).servingHalf st e'
    let r := ((s.serving st e).resolve st h.handle).1
    let p := if b.pfx = 0 then none else r.prefixBy st b.pfx
    let u := r.prefixLook st b.pfx
    ((s.serving st e).resolve st h.handle).2 = none → u.justClosed st h.handle = false → u.stationSessions st false < u.obj Ob.stn_session_max st →
    (b.pfx = 0 ∨ ∃ q, p = some q ∧ q.prefixReleased = false ∧ q.state ≠ .failed ∧ q.model = b.model ∧ (b.half = 2 ∨ q.half = b.half)) →
    u.openModels st b = St.OK → u.takeIndex half = some (i, g, a) →
    let asked := if b.revive = 0 then a.obj Ob.stn_revive_default st else b.revive - 1
    let mode := (a.station st).fbMode
    let demoted := mode == 2 && asked == 1
    let x := a.openedSession i g st half h.handle b p mode (a.cancelPolicyOf st) (if demoted then 0 else asked) demoted
    let c := a.setSess x
    let d := match p with
      | none => c
      | some q =>
        let y := (c.setSess { q with refs := q.refs + 1 }).stopParks q
        if q.prefilled then y.copyTail i q else y
    let k := d.growPt i
    let f := (k.setHash half ((k.hash half).add st x.handle x.sid)).camAddHandle x
    exec (.openSession t h b) z = .next (f.accept st e' mode half x.sid
      (mode + 4 * x.cancelPolicy + 8 * x.revivePolicy + (if b.half == 2 && b.pfx == 0 then 16 else 0)) false 0 demoted).1

/-- A PREFIX_REGISTER that waits alone and passes every stage, within the station's prefix limit and with a free index of its half, makes a
QUEUED prefix session with its text as its one input, gives it the handle made of its session identifier and its station, enters it in
the half's CAM when it has room (counted where it has none), and answers with that handle. A PREFIX_RELEASE of a prefix of the station
that is not released marks it released, takes its CAM entry out and frees it once nothing uses it. -/
def Obligations.PrefixMessages : Prop :=
  ∀ (z : State) (t : Transfer) (e : Intake) (h : MsgHdr) (b : InputBody) (i g : Nat) (a : State) (q : Session),
    let s := z.readDescs t.descs
    s.waits t.station e → (s.atTurn t.station e).passes t.station (s.chosen t.station e) →
    let st := t.station
    let e' := s.chosen st e
    let u := s.serving st e
    let half := u.servingHalf st e'
    (e.msg = ⟨h, .prefixRegister b⟩ → u.stationSessions st true < u.obj Ob.stn_prefix_max st → u.takeIndex half = some (i, g, a) →
      let mode := (a.station st).fbMode
      let handle := (a.prefixSession i g st half mode b).sid + 2 ^ 32 * st
      let x := { a.prefixSession i g st half mode b with pfxHandle := handle }
      let c := (a.setSess x).growPt i
      let m := camInsert (c.cam half).entries (c.cam half).regions.pfxBase (c.cam half).regions.pfx (camExact 2 (handleKey st handle) x.sid)
      let d := match m with
        | some l => c.setCam half ((c.cam half).put l)
        | none => c.bump Ob.cnt_prefix_cam_full half
      let f := d.accept st e' mode half x.sid 0 false handle false
      exec (.prefixRegister t h b) z = .next ((f.1.modSess i (fun y => { y with
        inputs := [f.1.inputRec st b true false f.2], inputFinal := true, turnDue := true })).toQueued i)) ∧
    (e.msg = ⟨h, .prefixRelease⟩ → u.prefixBy st h.handle = some q → q.prefixReleased = false →
      let c := ((u.camLookBoth (2 * 2 ^ 120 + handleKey st h.handle)).accept st e' q.fbMode q.half q.sid 0 false 0 false).1
      let d := c.modSess q.index (fun y => { y with prefixReleased := true })
      exec (.prefixRelease t h) z = .next ((d.setCam q.half ((d.cam q.half).put
        (camRemove (d.cam q.half).entries (2 * 2 ^ 120 + handleKey st h.handle)))).freePrefixIfDone q.index))

/-- A HELLO that waits alone in its station's intake and whose version range holds 3 attaches the station on the module that serves it: it
takes the rings, the heartbeat and the features that both sides have, empties its ring positions and its credits are those of its intake
less what is in use; its capability is forgotten and its state NONE, a new nonce is drawn, and the completion carries the last reset cause and the boot
count. A HELLO without version 3 refuses a station that is not attached. A GOODBYE that waits at the head of its intake completes,
empties the intake and detaches the station. A RING_NAME of a session of the station that is not cancelling keeps the new ring
until the next frame boundary and completes OK. -/
def Obligations.AttachMessages : Prop :=
  ∀ (z : State) (t : Transfer) (e : Intake) (h : MsgHdr) (b : HelloBody) (b' : RingNameBody) (m : Nat) (x : Session) (rest : List Intake),
    let s := z.readDescs t.descs
    s.waits t.station e →
    let st := t.station
    let e' := s.chosen st e
    let u := s.atTurn st e
    let k := u.station st
    (e.msg = ⟨h, .hello b⟩ → b.majorLo ≤ 3 → 3 ≤ b.majorHi → u.pickModule (u.obj Ob.stn_module st) = some m →
      let kib := u.obj Ob.stn_intake_kib st * 16
      let used := ((k.intake.filter (fun i => !i.returned)).map (fun i => i.credits)).foldl (· + ·) 0
      let attached := k.state == 1
      let y : Station := { k with
        state := 1, module := m, helloStatus := St.OK, major := 3, minor := 0, features := Nat.land b.features 0xF
        hbTicks := b.hbTicks, hbAddr := b.hbAddr, hbCount := 0, hbLast := u.tick, lastArrival := u.tick, missed := 0
        cq := ⟨b.cqBase, b.cqLog2, 0, 0⟩, eq := ⟨b.eqBase, b.eqLog2, 0, 0⟩
        credits := kib - used, creditsMax := kib, cqTaken := if attached then k.intake.length else 1
        intake := if attached then k.intake else k.intake.filter (fun i => i.msg.hdr.seq == h.seq) }
      let a := (u.setStation st ((y.reissue).flushKept 64)).setStationState st 1
      let c := { a with mgmt := { a.mgmt with caps := mdel a.mgmt.caps st } }
      let n := c.freshNonce
      let d := (n.2.setStr Ob.stn_cap_nonce st n.1).setObj Ob.stn_cap_state st 0
      exec (.hello t h b) z = .next (d.finish st h.seq ⟨St.OK, 0, d.obj Ob.id_last_reset 0 + 2 ^ 32 * d.obj Ob.id_boot_count 0, 0, false⟩)) ∧
    (e.msg = ⟨h, .hello b⟩ → (3 < b.majorLo ∨ b.majorHi < 3) → k.state ≠ 1 →
      let a := u.setStation st { k with helloStatus := St.VERSION_MISMATCH }
      let y := a.station st
      exec (.hello t h b) z = .next ((a.setStation st { y with intake := y.intake.filter (fun i => i.msg.hdr.seq != h.seq) }).setStationState st 3)) ∧
    (e.msg = ⟨h, .goodbye⟩ →
      let v := u.setIntake st h.seq (fun i => { i with stage := .working })
      let a := v.setStation st { v.station st with leaving := some h.seq }
      (a.station st).leaving = some h.seq → (a.station st).intake = { e' with stage := .working } :: rest →
      exec (.goodbye t h) z = .next (((a.finishOne st h.seq (Outcome.of St.OK)).dropIntake st).setStationState st 0)) ∧
    (e.msg = ⟨h, .ringName b'⟩ → u.passes st e' →
      let r := (s.serving st e).resolve st h.handle
      r.2 = some x → x.state ≠ .cancelling → x.cancelAtBoundary = false →
      (x.fbMode ≠ 0 ∨ (2 ^ 32 + x.ringWrite - b'.cons) % 2 ^ 32 ≤ 2 ^ b'.log2) →
      exec (.ringName t h b') z = .next ((r.1.modSess x.index (fun y => { y with
        ringRename := some (b'.base, b'.log2, b'.cons) })).finish st h.seq (Outcome.of St.OK)))

/-- A read that its sender may make answers the value of the row, and takes one entry where the row is a log: OBJ_READ writes the value to
its address and completes with the value's length, OD_READ answers it in a reply, HOLD_LOG_READ, MOVE_COMPLETION_LOG_READ and ERR_READ
answer their oldest entry and remove it. -/
def Obligations.ObjectReads : Prop :=
  ∀ (z s : State) (t : Transfer) (e : Intake) (h : MsgHdr) (b : ObjBody) (f : OpdunHdr) (x : Assoc) (w : Writer) (half : Nat) (o : ObjSpec) (i j : Nat),
    (let s := z.readDescs t.descs
     s.waits t.station e → (s.atTurn t.station e).passes t.station (s.chosen t.station e) → e.msg = ⟨h, .objRead b⟩ →
      let u := s.serving t.station e
      u.mayRead (.station t.station h.seq) b.index b.sub o i j → b.index / 256 ≠ 0xC0 →
      exec (.objRead t h b) z = .next ((u.popRow o i).replyValue (.station t.station h.seq) St.OK (u.readRow o i j))) ∧
    (s.servedOf f x → (s.asked f x).mayRead (odWriter f) f.index f.sub o i j → f.index / 256 ≠ 0xC0 →
      exec (.odRead f) s = .next (((s.asked f x).popRow o i).replyValue (odWriter f) St.OK ((s.asked f x).readRow o i j))) ∧
    (s.mayRead w Ob.hold_log.base Ob.hold_log.subLo Ob.hold_log 0 0 →
      exec (.holdLogRead w) s = .next (({ s with trv := { s.trv with holdLog := s.trv.holdLog.drop 1 } } : State).replyValue w St.OK
        (s.readRow Ob.hold_log 0 0))) ∧
    (s.mayRead w (Ob.move_completion_log.base + half % 2) Ob.move_completion_log.subLo Ob.move_completion_log (half % 2) 0 →
      exec (.moveCompletionLogRead w half) s = .next ((s.setEng (half % 2) { s.eng (half % 2) with
        log := (s.eng (half % 2)).log.drop 1 }).replyValue w St.OK (s.readRow Ob.move_completion_log (half % 2) 0))) ∧
    (s.mayRead w Ob.err_read.base Ob.err_read.subLo Ob.err_read 0 0 →
      exec (.errRead w) s = .next ((s.setErr (if s.fb.err.spill = [] then { s.fb.err with ring := s.fb.err.ring.drop 1 }
        else { s.fb.err with spill := s.fb.err.spill.drop 1 })).replyValue w St.OK (s.readRow Ob.err_read 0 0)))

/-- A write of an object that is no command object and that passes every check is carried out: it is stored, recorded where the field book or
the mp-log takes it, and answered OK; a value kept in the flash waits first until it is programmed (R518). So do OBJ_WRITE from a
station, OD_WRITE from an association, and the rows that write an object, an extent of T3, a stop set or a bucket. When the record of the
oldest waiting value is programmed, the value stands in the flash and in the object, and its write is answered; when it cannot be, the
write answers CONFIG_FLASH_FAIL, and where the checks of its object no longer pass, their status (the model's choice, log entry 203). A read-only
object is refused. -/
def Obligations.ObjectWrites : Prop :=
  ∀ (z s : State) (t : Transfer) (e : Intake) (h : MsgHdr) (b : ObjBody) (f : OpdunHdr) (x : Assoc) (w : Writer) (index sub : Nat) (v : Octets)
      (o : ObjSpec) (i j st k res n : Nat) (burst : Bool) (p : PersistWait) (r : List PersistWait),
    (s.mayWrite w index sub o i j v → exec (.objectWrite w index sub v) s = .next (s.wrote w index sub o i j v)) ∧
    (let s := z.readDescs t.descs
     s.waits t.station e → (s.atTurn t.station e).passes t.station (s.chosen t.station e) → e.msg = ⟨h, .objWrite b⟩ →
      let u := s.serving t.station e
      u.mayWrite (.station t.station h.seq) b.index b.sub o i j (b.value.take b.len) →
      exec (.objWrite t h b) z = .next (u.wrote (.station t.station h.seq) b.index b.sub o i j (b.value.take b.len))) ∧
    (s.servedOf f x → v.length ≤ 1056 → (s.asked f x).mayWrite (odWriter f) f.index f.sub o i j v →
      exec (.odWrite f v) s = .next ((s.asked f x).wrote (odWriter f) f.index f.sub o i j v)) ∧
    (s.mayWrite w (Ob.stn_t3_extent.base + st % 256) (1 + k % 16) o i j v →
      exec (.stnT3ExtentWrite w st k v) s = .next (s.wrote w (Ob.stn_t3_extent.base + st % 256) (1 + k % 16) o i j v)) ∧
    (s.mayWrite w (Ob.stn_stop_set.base + st % 256) (1 + k % 16) o i j v →
      exec (.stopSetWrite w st k v) s = .next (s.wrote w (Ob.stn_stop_set.base + st % 256) (1 + k % 16) o i j v)) ∧
    (let d := (if burst then burstSpec false res else rateSpec false res).subLo
     (s.mayWrite w (Ob.stn_step_rate.base + st % 256) d o i j (toLE 4 n) →
       exec (.bucketWrite w (some st) res burst n) s = .next (s.wrote w (Ob.stn_step_rate.base + st % 256) d o i j (toLE 4 n))) ∧
     (s.mayWrite w 0x2200 d o i j (toLE 4 n) →
       exec (.bucketWrite w none res burst n) s = .next (s.wrote w 0x2200 d o i j (toLE 4 n)))) ∧
    (s.dict.persistWaits = p :: r → objFind (p.key / 256) (p.key % 256) = some (o, i, j) →
      let u := { s with dict := { s.dict with persistWaits := r } }
      let g := { u with dict := { u.dict with flash := mput s.dict.flash p.key p.value } }
      (u.moreCheck o i j (valBytes o p.value) = St.OK →
        exec (.persistProgrammed true) s = .next ((g.putWrite p.writer o i j (keyIndex p.key) (p.key % 256) (valBytes o p.value)).reply
          p.writer St.OK) ∧
        exec (.persistProgrammed false) s = .next (u.reply p.writer St.CONFIG_FLASH_FAIL)) ∧
      (∀ c, u.moreCheck o i j (valBytes o p.value) = c → c ≠ St.OK → exec (.persistProgrammed burst) s = .next (u.reply p.writer c))) ∧
    (s.findObj index sub = some (o, i, j) → sub ≠ 0 → index / 256 ≠ 0xC0 → s.recoveryShuts index sub = false → s.commandOf w o i v = none →
      o.access = .ro → exec (.objectWrite w index sub v) s = .next (s.reply w St.OBJECT_DENIED))

/-- A QUERY that waits alone, passes every stage and names an index that the station may search leaves the station's intake and waits at the end
of the queue of queries; an INSERT of one it may write leaves the intake and fetches its vector; a DELETE of one it may write, of a node
that no earlier DELETE has marked and no INSERT still holds back, marks it as deleted under the next delete sequence, lowers the live
count, and completes with that sequence once its record is durable. A QUERY, INSERT or DELETE of an index that the station may not use so
completes with the refusal's status, and a DELETE of an identifier that no live node has with VX_ID_UNKNOWN. -/
def Obligations.SearchMessages : Prop :=
  ∀ (z : State) (t : Transfer) (e : Intake) (h : MsgHdr) (b : SearchBody) (slot : Nat) (n : VxNode),
    let s := z.readDescs t.descs
    s.waits t.station e → (s.atTurn t.station e).passes t.station (s.chosen t.station e) →
    let st := t.station
    let e' := s.chosen st e
    let out (u : State) : State := (u.leaveIntake st h.seq).setIntake st h.seq (fun i => { i with stage := .working })
    let q : VxOp := ⟨st, h.seq, b.index, b, none, []⟩
    (e.msg = ⟨h, .query b⟩ →
      let u := (s.serving st e).searchDebit st b.index false
      (u.vxOpen st b.index false = St.OK →
        exec (.query t h b) z = .next { out u with srch := { (out u).srch with queries := (out u).srch.queries ++ [q] } }) ∧
      (u.vxOpen st b.index false ≠ St.OK →
        exec (.query t h b) z = .next (u.finish st h.seq (Outcome.of (u.vxOpen st b.index false))))) ∧
    (e.msg = ⟨h, .insert b⟩ →
      let u := (s.serving st e).searchDebit st b.index true
      (u.vxOpen st b.index true = St.OK →
        exec (.insert t h b) z = .next (({ out u with srch := { (out u).srch with
          running := (out u).srch.running ++ [q] } } : State).fetchVector q)) ∧
      (u.vxOpen st b.index true ≠ St.OK →
        exec (.insert t h b) z = .next (u.finish st h.seq (Outcome.of (u.vxOpen st b.index true))))) ∧
    (e.msg = ⟨h, .delete b⟩ →
      let u := (s.serving st e).searchDebit st b.index true
      (u.vxOpen st b.index true = St.OK →
        (vxFind (u.vxAt b.index) b.id = some (slot, n) → n.tomb = false → n.insEpoch ≠ vxPending →
          let r := u.searchRecord st e' b.index
          let seq := (r.1.obj Ob.vx_del_seq b.index + 1) % 2 ^ 32
          let v := (r.1.setObj Ob.vx_del_seq b.index seq).setObj Ob.vx_journal_pos b.index r.2
          let y := { v.vxAt b.index with nodes := mput (v.vxAt b.index).nodes slot { n with tomb := true, tombSeq := seq } }
          exec (.delete t h b) z = .next (((v.setVx b.index y).setObj Ob.vx_live b.index (v.obj Ob.vx_live b.index - 1)).searchDone st h.seq
            r.2 seq)) ∧
        (vxFind (u.vxAt b.index) b.id = none →
          exec (.delete t h b) z = .next (u.finish st h.seq (Outcome.of St.VX_ID_UNKNOWN)))) ∧
      (u.vxOpen st b.index true ≠ St.OK →
        exec (.delete t h b) z = .next (u.finish st h.seq (Outcome.of (u.vxOpen st b.index true)))))

/-- A search of the intake that fits the window of its half, with none waiting before it, is admitted at once (an entry that failed its parity
on the way is counted); one that does not fit waits behind the half's searches. Admitting a search takes one admission of the window, keeps
the result word, counts a search, and a hit when an entry matches. A search of the running traverse takes its key from the cluster store in
its cycle, once a frame. A new window admits the waiting searches in order up to the allowance and counts itself where the allowance is
throttled; the sensors set the allowance n of R325. A table insertion of a traverse's or a prefix's key takes the lowest invalid entry of its
region, one of a session's handle is that of its session, an insertion into the ordered region is in its order, and a removal clears the
valid bit of the entry with that key. An insertion with no room, or beyond the size that a pending write of a region gives it, answers
CAM_TABLE_FULL and changes no entry (R314, R319); where that status is kept is log entry 206. -/
def Obligations.AssociativeEngine : Prop :=
  ∀ (s : State) (half key tab res n : Nat) (parity : Bool) (quarters : Int) (h : TrvHeader) (img : TrvImage) (r : SearchRec) (m : SMap CamEntry)
      (c : CamEntry) (u : State), half < 2 →
    (let v := if parity then s.bump Ob.cnt_cam_parity half else s
     let w : CamWait := ⟨256, key % 2 ^ 128, 0, 0⟩
     (v.searchFits half 256 = true → (v.cam half).waiting = [] →
       exec (.camSearch half key parity) s = .next (v.searchAdmit half w)) ∧
     (v.searchFits half 256 = false → (v.cam half).waiting.length < 1024 →
       exec (.camSearch half key parity) s = .next (v.setCam half { v.cam half with waiting := (v.cam half).waiting ++ [w] })) ∧
     (let x := v.setCam half { v.cam half with winOther := (v.cam half).winOther + 1, lastResult := camResult (camSearch (v.cam half).entries w.key) }
      let y := x.bump Ob.cnt_cam_searches half
      v.searchAdmit half w = if (camSearch (v.cam half).entries w.key).isSome then y.bump Ob.cnt_cam_hits half else y)) ∧
    (s.runningHdr = some h → s.activeImage = some img → (s.searchesOf img)[n]? = some r → r.cluster < 512 → s.clusterFenced r.cluster = false →
      s.asleep r.cluster = false → r.cycle < 60 * (s.schedTick + 1) → n ∉ s.trv.searched →
      let v := ({ s with trv := { s.trv with searched := n :: s.trv.searched } } : State).clusterAdvance r.cluster r.cycle
      exec (.traverseSearch n) s = .next (v.searchAsk (r.cluster / 256) ⟨r.cluster % 256, ofLE (bgets (v.clusterStore r.cluster) r.key 16),
        r.dst, r.tag⟩)) ∧
    (let a := s.setCam half { s.cam half with winTrv := 0, winOther := 0, waiting := [] }
     let b := if (s.cam half).n < 64 then a.bump Ob.cnt_search_throttle_windows half else a
     exec (.searchWindow half) s = .next ((b.searchOrder (s.cam half).waiting).foldl (fun (x : State) w =>
       if x.searchFits half w.requester then x.searchAdmit half w
       else x.setCam half { x.cam half with waiting := (x.cam half).waiting ++ [w] }) b)) ∧
    (let k := if quarters ≤ 380 then 64 else if 420 ≤ quarters then 16 else 64 - 6 * (quarters - 380).toNat / 5
     exec (.throttleUpdate half quarters) s = .next ((s.setCam half { s.cam half with n := k }).setObj
       (if half = 0 then Ob.search_rate_h0 else Ob.search_rate_h1) 0 k)) ∧
    (let room := camInsert (s.cam half).entries (s.cam half).regions.trvBase (s.cam half).regions.trv (camExact 4 (key % 2 ^ 120) (res % 2 ^ 32))
     let limit := s.regionLimit Ob.cam_trv_entries (s.cam half).regions.trv
     ((s.trvEntries half).length < limit → room = some m →
       exec (.camInsert half 4 key res) s = .next ((s.setCam half ((s.cam half).put m)).setCamStatus half St.OK)) ∧
     (limit ≤ (s.trvEntries half).length ∨ room = none →
       exec (.camInsert half 4 key res) s = .next (s.setCamStatus half St.CAM_TABLE_FULL))) ∧
    (let room := camInsert (s.cam half).entries (s.cam half).regions.pfxBase (s.cam half).regions.pfx (camExact 2 (key % 2 ^ 120) (res % 2 ^ 32))
     (room = some m → exec (.camInsert half 2 key res) s = .next ((s.setCam half ((s.cam half).put m)).setCamStatus half St.OK)) ∧
     (room = none → exec (.camInsert half 2 key res) s = .next ((s.bump Ob.cnt_prefix_cam_full half).setCamStatus half St.CAM_TABLE_FULL))) ∧
    (∀ x, s.bySid res = some x → handleKey x.station x.handle = key → x.half = half →
      exec (.camInsert half 1 key res) s = .next (s.camAddHandle x)) ∧
    exec (.camRemove half tab key) s = .next ((s.setCam half ((s.cam half).put
      ((s.cam half).entries.filter (fun p => p.2.value != 2 ^ 120 * tab + key % 2 ^ 120)))).setCamStatus half St.OK) ∧
    (let e := { c with value := 3 * 2 ^ 120 + c.value % 2 ^ 120, care := 255 * 2 ^ 120 + c.care % 2 ^ 120 }
     let limit := s.regionLimit Ob.cam_rule_entries (s.cam half).regions.rule
     ((s.ruleEntries half).length < limit → s.camOrdered half e = some u →
       exec (.orderedInsert half c) s = .next (u.setCamStatus half St.OK)) ∧
     (limit ≤ (s.ruleEntries half).length ∨ s.camOrdered half e = none →
       exec (.orderedInsert half c) s = .next (s.setCamStatus half St.CAM_TABLE_FULL)))

/-- An accepted CREATE of an EMPTY index whose half has the free stripes makes it LOADED and empty, under the next generation, its tiles (header, nodes, vectors,
identifier map) in those stripes. A LOAD of an EMPTY index takes the nodes that its octets hold, and the epoch, the delete sequence and the entry that they
give (where the spec does not say: log entry 172), when every tile passes its checks and the digest agrees, and counts its live nodes; a
source that cannot be read leaves the index CORRUPT. A DROP completes the waiting queries and
inserts with VX_INDEX_UNKNOWN and lets the running queries finish. The oldest waiting query whose index is not advancing starts where a
search cluster serves, pins the epoch and the delete sequence and fetches its vector. The oldest unlinked insert is linked there when no
query waits. At a multiple of its advance
interval an index with staged work and no running query advances, and one with running queries waits. A sweep reads its next records, and
at its end retires the covered nodes. -/
def Obligations.VectorIndexes : Prop :=
  ∀ (s : State) (w : Writer) (ii half count bound pos : Nat) (img : Octets) (o : VxOp) (n : VxNode) (i : VxInsert), ii < 256 →
    let x := s.vxAt ii
    let h := s.obj Ob.vx_half ii
    let need := ceilDiv (s.vxLayout ii).count 11
    let fresh : VxIndex := { vxEmpty with generation := x.generation + 1 }
    (∀ nodes, ((s.vxMake ii nodes).vxAt ii).nodes = nodes ∧ ((s.vxMake ii nodes).vxAt ii).generation = x.generation + 1) ∧
    (s.accepts w Ob.vx_command ii [1] → s.obj Ob.vx_state ii = 0 → need ≤ s.t2Free h →
      exec (.create w ii) s = .next ((((s.vxMake ii []).setObj Ob.vx_state ii 2).setObj Ob.vx_status ii
        St.OK).carriedOut w Ob.vx_command ii [1])) ∧
    (s.accepts w Ob.vx_command ii [2] → s.obj Ob.vx_state ii = 0 → need ≤ s.t2Free h →
      exec (.vxLoad w ii none) s = .next ((((s.setVx ii fresh).setObj Ob.vx_state ii 3).setObj Ob.vx_status ii St.VX_CORRUPT).carriedOut w
        Ob.vx_command ii [2]) ∧
      ((∀ t ∈ records 4352 img, tileCrcOk t = true ∧ (parseTile t).formatOk = true) → img.length % 4352 = 0 →
        Config.shake256 img 32 = s.str Ob.vx_digest ii →
        let nodes := parseVx (s.vxGraphKind ii) (s.obj Ob.vx_dims ii) (s.obj Ob.vx_degree ii) (s.obj Ob.vx_capacity ii) img
        let given := Config.vxLoaded img
        let u := s.vxMake ii nodes
        let v := ((u.setObj Ob.vx_epoch ii (given.1 % 2 ^ 32)).setObj Ob.vx_del_seq ii (given.2.1 % 2 ^ 32)).setObj Ob.vx_entry ii
          (given.2.2 % 2 ^ 32)
        exec (.vxLoad w ii (some img)) s = .next ((((v.setObj Ob.vx_live ii (nodes.filter (fun p => vxVisible (given.1 % 2 ^ 32) p.2 &&
          !p.2.tomb)).length).setObj Ob.vx_state ii 2).setObj Ob.vx_status ii St.OK).carriedOut w Ob.vx_command ii [2]))) ∧
    (s.accepts w Ob.vx_command ii [3] → 2 ≤ s.obj Ob.vx_state ii →
      let u := { s with srch := { s.srch with queries := s.srch.queries.filter (fun (q : VxOp) => q.index != ii) } }
      let v := (s.srch.queries.filter (fun q => q.index == ii)).foldl (fun (v : State) q => v.finish q.st q.seq (Outcome.of St.VX_INDEX_UNKNOWN)) u
      let y := x.inserts.foldl (fun (v : State) j => v.finish j.st j.seq (Outcome.of St.VX_INDEX_UNKNOWN)) v
      exec (.drop w ii) s = .next (((y.setVx ii { x with dropping := true, inserts := [], edits := [] }).vxSettle ii).carriedOut w
        Ob.vx_command ii [3])) ∧
    (s.srch.queries.find? (fun q => s.obj Ob.vx_half q.index == half && (s.vxAt q.index).advancing.isNone) = some o →
      s.searchServes half = true →
      let o' : VxOp := { o with pin := some (s.obj Ob.vx_epoch o.index, s.obj Ob.vx_del_seq o.index) }
      let u := { s with srch := { s.srch with queries := s.srch.queries.erase o, running := s.srch.running ++ [o'] } }
      exec (.vxQueryStart half) s = .next ((u.bump Ob.cnt_vx_queries half).fetchVector o')) ∧
    (x.inserts.find? (fun j => !j.linked) = some i → s.srch.queries.any (fun q => s.obj Ob.vx_half q.index == h) = false →
      s.searchServes h = true → x.advancing = none → mget x.nodes i.slot = some n →
      let beam := s.obj Ob.vx_build_beam ii
      let metric := s.obj Ob.vx_metric ii
      let p := s.vxParams ii (s.obj Ob.vx_epoch ii) (s.obj Ob.vx_del_seq ii) beam beam 0 (16 * beam)
      let seen := (vxGraph p x.nodes (s.obj Ob.vx_entry ii) n.vec).seen
      let cand := seen.filter (fun a => ((mget x.nodes a).map (fun m => !vxExcluded p.s m)).getD false)
      let kept := vxSelect metric (s.obj Ob.vx_degree ii) n.vec (vxOrder metric x.nodes n.vec cand)
      exec (.insertLink ii) s = .next (s.setVx ii { x with
        inserts := x.inserts.map (fun (j : VxInsert) => if j.slot == i.slot then { j with linked := true } else j)
        edits := vxLinkEdits metric (s.obj Ob.vx_degree ii) x i.slot n.vec kept })) ∧
    (s.obj Ob.vx_state ii = 2 → s.tick % max 1 (s.obj Ob.vx_advance_ticks ii) = 0 → vxHasWork x = true → x.advancing = none → x.dropping = false →
      (s.vxRunning ii = true → exec (.epochAdvance ii) s = .next (s.setVx ii { x with advancing := some s.tick })) ∧
      (s.vxRunning ii = false → exec (.epochAdvance ii) s = .next (s.vxAdvance ii))) ∧
    (x.sweep = some (bound, pos) →
      let todo := (x.nodes.filter (fun p => decide (pos ≤ p.1))).take count
      let y := todo.foldl (fun y p => vxSweepOne (s.obj Ob.vx_metric ii) (s.obj Ob.vx_degree ii) bound y p.1 p.2) x
      let next := match todo.getLast? with
        | some p => p.1 + 1
        | none => pos
      (y.nodes.any (fun p => decide (next ≤ p.1)) = true →
        exec (.repairSweep ii count) s = .next ((s.setVx ii { y with sweep := some (bound, next) }).setObj Ob.vx_sweep_pos ii next)) ∧
      (y.nodes.any (fun p => decide (next ≤ p.1)) = false →
        let covered := (y.nodes.filter (fun p => p.2.tomb && p.2.insEpoch != vxPending && decide (p.2.tombSeq ≤ bound))).map Prod.fst
        exec (.repairSweep ii count) s = .next ((s.setVx ii { y with sweep := none, retire := y.retire ++ covered.filter (fun a =>
          !y.retire.contains a) }).setObj Ob.vx_sweep_pos ii 0xFFFFFFFF)))

/-- A module in training that reaches a rate and a width within 10 ms is UP with them; 10 ms of training without that fail it and are
reported; a module that is down trains again after 1 ms; an UP module that goes down is reported and its stations move or are lost. An UP
module with no transfer for the idle interval sleeps where its power rule lets it. -/
def Obligations.UcieModules : Prop :=
  ∀ (s : State) (m rate width : Nat), m < 8 →
    ((s.ucie m).state = 1 →
      (s.tick ≤ (s.ucie m).since + 250000 → ucieRates.contains rate = true → width = 64 ∨ width = 32 →
        exec (.ucieTrainingDone m rate width) s = .next (s.setUcie m ⟨2, rate, width, s.tick, s.tick⟩)) ∧
      ((s.ucie m).since + 250000 ≤ s.tick →
        exec (.ucieTrainFail m) s = .next ((s.setUcie m { s.ucie m with state := 0, since := s.tick }).report (ucieSource m) clsTimeout
          causeTrainFail))) ∧
    ((s.ucie m).state = 0 →
      ((s.ucie m).since + 25000 ≤ s.tick →
        exec (.ucieTrainRetry m) s = .next (s.setUcie m { s.ucie m with state := 1, since := s.tick })) ∧
      (s.tick < (s.ucie m).since + 25000 → exec (.ucieTrainRetry m) s = .next s)) ∧
    (s.ucieUp m = true → exec (.ucieLinkDown m) s = .next ((s.report (ucieSource m) clsTimeout causeLinkDown).ucieDown m)) ∧
    (s.powerMode (m / 4) = 1 → (s.ucie m).state = 2 → (s.ucie m).lastUse + 25000 ≤ s.tick → (∀ n ∈ s.attached, (s.station n).module ≠ m) →
      exec (.ucieModuleSleep m) s = .next (s.setUcie m { s.ucie m with state := 3 }))

/-- A message that arrives on an UP module for an attached station with the credits and a completion entry enters its intake, takes both and
waits to be served (one of a type that no row has is served, and so refused, at once: R21); with too few credits it is counted and completes with INTAKE_OVERFLOW. A control read answers the control area at its
offset, the rest zero. The answer to an outstanding read in time and of its length is taken; a read past its time has failed. A due
heartbeat block is written with the tick and the time and starts the next interval; more than three intervals without an arrival lose the
station. The acknowledgement of the oldest issued write takes it off the stream. -/
def Obligations.StationTransfers : Prop :=
  ∀ (s : State) (t : Transfer) (m : Msg) (st tag : Nat) (data : Octets) (r : ReadReq) (w : HostWrite) (rest : List HostWrite),
    (t.ucie < 8 → t.station < 256 → s.ucieUp t.ucie = true → transferOk t = true →
      let u := s.arrived t.station t.ucie
      let x := u.station t.station
      (t.kind = 1 → u.stn.inService = true → x.state = 1 →
        let need := ceilDiv t.len 64
        let served (v : State) : State := match m.body with
          | .unlisted _ => v.serveFresh t.station
          | _ => v
        let e : Intake := ⟨m, t.ucie, need, u.tick, u.tick, u.privileged t.station, .fresh, 0, false, false, 0, 0⟩
        (need ≤ x.credits → x.entryRoom ≠ 0 →
          exec (.msgTransfer t m) s = .next (served (u.setStation t.station { x with
            credits := x.credits - need, cqTaken := x.cqTaken + 1, intake := x.intake ++ [e] }))) ∧
        (x.credits < need →
          let v := u.bump Ob.stn_cnt_intake_drop t.station
          x.entryRoom ≠ 0 →
          exec (.msgTransfer t m) s = .next (served (v.setStation t.station (({ x with cqTaken := x.cqTaken + 1 } : Station).complete m.hdr.seq
            (msgType m.body) 0 (Outcome.of St.INTAKE_OVERFLOW)))))) ∧
      (t.kind = 6 →
        exec (.ctrlRead t) s = .next (u.setStation t.station { x with
          ctrlOut := (t.tag, (slice (u.controlArea t.station) t.addr t.len ++ List.replicate t.len 0).take t.len) :: x.ctrlOut })) ∧
      (t.kind = 4 → mget x.reads t.tag = some r → u.readLate t.station r = false → data.length = r.len →
        let v := u.setStation t.station { x with reads := mdel x.reads t.tag }
        exec (.readData t data) s = .next ((v.readTaken t.station r data).serveFresh t.station)) ∧
      (t.kind = 5 → exec (.ucieHeartbeat t) s = .next u)) ∧
    (let x := s.station st
     (mget x.reads tag = some r → s.readLate st r = true →
       exec (.hostReadTimeout st tag) s = .next ((s.setStation st { x with reads := mdel x.reads tag }).readFailed st r.use)) ∧
     (x.state = 1 → s.deep = false →
       (x.hbLast + x.hbTicks ≤ s.tick →
         let u := s.countMissed st s.tick
         let y := u.station st
         let y := { y with hbCount := y.hbCount + 1, hbLast := u.tick }
         let y := y.push y.hbAddr (.heartbeat u.tick u.timeNow y.state y.hbCount)
         let y := if y.cq.cons != y.cq.write then y.readHeader u.tick true else y
         let y := if y.eq.cons != y.eq.write then y.readHeader u.tick false else y
         exec (.heartbeatBlockWrite st) s = .next (u.setStation st y)) ∧
       (s.tick < x.hbLast + x.hbTicks → exec (.heartbeatBlockWrite st) s = .next s) ∧
       (x.lastArrival + 3 * x.hbTicks < s.tick → exec (.stationHeartbeatLoss st) s = .next ((s.countMissed st s.tick).stationLost st))) ∧
     (x.out = w :: rest → w.issued = true →
       let u := s.setStation st { x with out := rest }
       exec (.writePosted st) s = .next (match w.body with
         | .ring e => u.entryPosted e
         | _ => u)))

/-- A message whose referenced bytes have all arrived goes into the traffic stage. A deferred message whose buckets have become conformant
passes: it leaves for acceptance unless the sequence window refuses it. One that has waited its station's deferral time and is still not
conformant is refused with RATE_LIMITED, which is counted; one whose record a lapsed witness holds back all that time completes with
WITNESS_LAPSED (R406); one that is conformant is left to pass, and one whose time has not come stays. In each case the messages that waited
behind it are served. When a tile that is strapped, not held and not in recovery brings intake into service, it takes the messages back
that were held: every HELLO that arrived earlier enters intake and is served. -/
def Obligations.DeferredMessages : Prop :=
  ∀ (s : State) (st seq : Nat) (e : Intake), (s.station st).find seq = some e →
    (e.stage = .fetching → (∀ p ∈ (s.station st).reads, ∀ off, p.2.use ≠ .input seq off) →
      exec (.referencedBytesArrived st seq) s = .next ((s.intoTraffic st e).unblock st)) ∧
    (e.stage = .deferred → s.bucketsPass st e = true →
      (s.windowSays st e = none → exec (.deferredMessagePass st seq) s = .next ((s.toAccept st e).unblock st)) ∧
      (s.tick < e.tick + s.obj Ob.stn_defer_ticks st → exec (.deferExpiry st seq) s = .next s) ∧
      (e.tick + s.obj Ob.stn_defer_ticks st ≤ s.tick →
        ((s.recordHalf st e).isSome = true → s.intakeHeld = true →
          exec (.deferExpiry st seq) s = .next ((s.finish st e.msg.hdr.seq (Outcome.of St.WITNESS_LAPSED)).unblock st)) ∧
        (s.recordHalf st e = none ∨ s.intakeHeld = false → exec (.deferExpiry st seq) s = .next s))) ∧
    (e.stage = .deferred → s.bucketsPass st e = false →
      exec (.deferredMessagePass st seq) s = .next s ∧
      (e.tick + s.obj Ob.stn_defer_ticks st ≤ s.tick →
        exec (.deferExpiry st seq) s = .next ((s.refuseCounted st e (Outcome.of St.RATE_LIMITED) Ob.cnt_rate_limited).unblock st)) ∧
      (s.tick < e.tick + s.obj Ob.stn_defer_ticks st → exec (.deferExpiry st seq) s = .next s)) ∧
    (s.pwr.strapped = true → s.pwr.held = false → s.powerState ≠ 4 → s.stn.inService = false →
      let u := ({ s with stn := { s.stn with inService := true, heldHellos := [] } } : State).restoreModels
      u.pwr.again = none →
      exec .intakeInService s = .next (s.stn.heldHellos.foldl (fun u p => (u.enterIntake p.1 0 p.2.hdr.len p.2).serveFresh p.1) u))

/-- An open batch closes when 4 ticks have passed since the last one closed or when a tile of the book filled (a record of it lies below the
head tile): its records are written to the copies, to a witness that takes part as well; one that is not due stays open. When the copies of
the closed records are written they are durable, a HOST witness's flush counts as far as it covers, and whatever waited for them, but
acceptances, proceeds; an acceptance whose record is durable is returned, and the half keeps the longest acknowledgement it has given; one
whose record is not durable waits. A compaction of a durable oldest tile that is not the head keeps the live records in their order under
their positions, sets the lowest live position, is counted, and tells a PEER witness that position. -/
def Obligations.Durability : Prop :=
  ∀ (s : State) (half pos flushed : Nat) (r0 : Rec) (rest : List Rec),
    (half < 2 → (s.book half).recs.any (fun r => r.stage == 0) = true →
      let b := s.book half
      let due : Prop := (∃ r ∈ b.recs, r.stage = 0 ∧ r.tile < b.headTile) ∨ b.lastClose + 4 ≤ s.tick
      let u := s.setBook half { b with recs := b.recs.map (fun r => if r.stage == 0 then { r with stage := 1 } else r), lastClose := s.tick }
      (due → exec (.journalBatchClose half) s = .next (if u.witnessOn then u.toWitness (b.recs.filter (fun r => r.stage == 0)) else u)) ∧
      (¬ due → exec (.journalBatchClose half) s = .next s)) ∧
    (s.durable pos = true → (s.book half).waits.any (fun w => w.pos == pos && w.effect.isAccept) = true →
      let t := (((s.book half).recs.find? (fun r => r.pos == pos)).map (fun r => r.tick)).getD s.tick
      exec (.acceptDurable half pos) s = .next (((s.setObj Ob.cnt_fb_ack_max_ticks half (max (s.obj Ob.cnt_fb_ack_max_ticks half)
        (s.tick - t))).runWaits half (fun w => w.pos == pos && w.effect.isAccept)).relayOut)) ∧
    (s.durable pos = false → exec (.acceptDurable half pos) s = .next s) ∧
    (let b := s.book half
     let u := s.setBook half { b with recs := b.recs.map (fun r => if r.stage == 1 then { r with stage := 2 } else r) }
     let w := u.fb.witness
     let v := if u.obj Ob.witness_mode 0 == 2 && u.obj Ob.witness_state 0 != 3 then
         { u with fb := { u.fb with witness := if half == 0 then { w with ack0 := max w.ack0 flushed, sentAt := if flushed == 0 then w.sentAt else none }
           else { w with ack1 := max w.ack1 flushed, sentAt := if flushed == 0 then w.sentAt else none } } }
       else u
     exec (.recordDurable half flushed) s = .next ((v.runWaits half (fun w => !w.effect.isAccept)).handoverDone.relayOut)) ∧
    (let b := s.book half
     b.recs = r0 :: rest →
     let old := (b.recs.map (fun r => r.tile)).foldl min r0.tile
     half < 2 → old < b.headTile → b.recs.all (fun r => r.tile != old || r.stage == 2) = true →
     ∃ b', exec (.compaction half) s = .next (
         let u := (s.setBook half b').bump Ob.cnt_compaction_tiles half
         if u.obj Ob.witness_mode 0 == 1 then u.fabSend (u.obj Ob.witness_peer 0 % 512) 0xFFFF (.witnessTrim b'.trimmed) else u) ∧
       b'.recs.map (fun r => (r.pos, r.body)) = (b.recs.filter (fun r => !s.deadRec b.recs r)).map (fun r => (r.pos, r.body)) ∧
       b'.trimmed = (((b.recs.filter (fun r => !s.deadRec b.recs r)).map (fun r => r.pos)).head?).getD (bookPos half b.next) ∧
       b'.waits = b.waits ∧ b'.next = b.next ∧ b'.lastClose = b.lastClose)

/-- A CURRENT witness whose acknowledgement is later than its timeout, or that is gone, becomes LAPSED: the lapse is counted, the tile
reports a degraded field book, and what waited proceeds, acceptances as well only under CONTINUE. A LAPSED witness is probed every 25,000
ticks, and an answer makes it CATCHING_UP, which reports a degraded field book too, and starts the copy of the durable records written since
it lapsed; before that tick nothing changes. When the copy that establishes it or catches it up is complete, its acknowledged positions are
those copied, and what became durable meanwhile follows. -/
def Obligations.WitnessStates : Prop :=
  ∀ (s : State) (absent answered : Bool),
    let w := s.fb.witness
    (s.obj Ob.witness_state 0 = 2 → (absent = true ∨ ∃ t, w.sentAt = some t ∧ t + s.obj Ob.witness_timeout 0 < s.tick) →
      let u := s.setWitness { w with sentAt := none, lastProbe := s.tick, copyDone := false, copy0 := w.ack0, copy1 := w.ack1 }
      let v := ((u.bump Ob.cnt_witness_lapse 0).setObj Ob.witness_state 0 3).tileEvent Ev.FIELD_BOOK_DEGRADED 0 0
      exec (.witnessLapse absent) s = .next (if v.obj Ob.witness_loss_action 0 == 0 then (v.runWaits 0 (fun _ => true)).runWaits 1 (fun _ => true)
        else (v.runWaits 0 (fun w => !w.effect.isAccept)).runWaits 1 (fun w => !w.effect.isAccept))) ∧
    (s.obj Ob.witness_state 0 = 3 →
      (w.lastProbe + 25000 ≤ s.tick →
        let u := s.setWitness { w with lastProbe := s.tick }
        exec (.witnessProbe answered) s = .next (if answered then ((u.setObj Ob.witness_state 0 4).tileEvent Ev.FIELD_BOOK_DEGRADED 0 0).copyWitness
          else u)) ∧
      (s.tick < w.lastProbe + 25000 → exec (.witnessProbe answered) s = .next s)) ∧
    (s.obj Ob.witness_state 0 = 1 ∨ s.obj Ob.witness_state 0 = 4 →
      (s.witnessLeased = true → exec .witnessCopyDone s = .next (s.setWitness { w with
        copyDone := true, ack0 := max w.ack0 w.copy0, ack1 := max w.ack1 w.copy1 }).copyWitness) ∧
      (s.witnessLeased = false → exec .witnessCopyDone s = .next s)) ∧
    (let rs (h seen : Nat) : List Rec := (s.book h).recs.filter (fun r => r.stage == 2 && decide (seen < r.pos))
     s.copyWitness = (s.setWitness { w with copy0 := max w.copy0 (s.lastOwn 0), copy1 := max w.copy1 (s.lastOwn 1) }).toWitness
       (rs 0 w.copy0 ++ rs 1 w.copy1))

/-- A channel is declared failed at its third failed retrain, at once when its module signals shutdown, when the rows that cannot be read
reach their limit within the window, and by an accepted DECLARE_FAILED; what it was doing ends there (R421). An accepted RETRAIN marks
the module of a failed channel as replaced and clears its failures; an accepted REBUILD of a replaced channel, with no other channel of
its half failed and no rebuild under way, makes it REBUILDING from row 0; the end of the rebuild makes it HEALTHY. A stack that fails is FAILED:
the frame is void, it is reported, each tile leaves it, and the sessions that had tiles there and now read T2 come back to T1, an OPEN or
WAITING one through REVIVING. -/
def Obligations.FailedParts : Prop :=
  ∀ (s : State) (w : Writer) (c row k : Nat), c < 24 →
    let x := s.channel c
    (let u := s.setChannel c { x with retrainsFailed := x.retrainsFailed + 1 }
     (2 ≤ x.retrainsFailed → exec (.channelFailed c 0 row) s = .next (u.failChannel c)) ∧
     (x.retrainsFailed < 2 → exec (.channelFailed c 0 row) s = .next u)) ∧
    exec (.channelFailed c 1 row) s = .next (s.failChannel c) ∧
    (let rows := (row, s.tick) :: x.ueRows.filter (fun p => p.1 != row && decide (s.tick ≤ p.2 + s.obj Ob.ue_window 0))
     let u := s.setChannel c { x with ueRows := rows }
     exec (.channelFailed c 2 row) s = .next (if u.obj Ob.ue_rows_limit 0 ≤ rows.length then u.failChannel c else u)) ∧
    (s.accepts w Ob.t2_channel_command 0 (channelCmd c 1) → s.t2State c ≠ 1 →
      exec (.declareFailed w c) s = .next (((s.failChannel c).setObj Ob.t2_channel_status 0 St.OK).carriedOut w Ob.t2_channel_command 0 (channelCmd c 1))) ∧
    (s.accepts w Ob.t2_channel_command 0 (channelCmd c 2) → s.t2State c = 1 →
      exec (.retrain w c) s = .next (((s.setChannel c { x with replaced := true, retrainsFailed := 0, ueRows := [] }).setObj Ob.t2_channel_status 0
        St.OK).carriedOut w Ob.t2_channel_command 0 (channelCmd c 2))) ∧
    (s.accepts w Ob.t2_channel_command 0 (channelCmd c 3) → s.t2State c = 1 → x.replaced = true →
      (∀ j, j < 12 → c / 12 * 12 + j ≠ c → s.t2State (c / 12 * 12 + j) = 0) → s.obj Ob.t2_rebuild_pos 0 = 2 ^ 64 - 1 →
      exec (.rebuild w c) s = .next ((((s.setChannel c { x with rebuildPos := some 0 }).setObjAt Ob.t2_channel_state 0 c 2).setObj
        Ob.t2_rebuild_pos 0 0).carriedOut w Ob.t2_channel_command 0 (channelCmd c 3))) ∧
    (s.t2State c = 2 →
      exec (.channelRebuildDone c) s = .next ((((s.setChannel c ⟨[], 0, false, none⟩).setObjAt Ob.t2_channel_state 0 c 0).setObj
        Ob.t2_rebuild_pos 0 (2 ^ 64 - 1)).setObj Ob.t2_channel_status 0 St.OK)) ∧
    (k < 8 → s.objAt Ob.t1_stack_state 0 k ≠ 1 →
      let u := s.setObjAt Ob.t1_stack_state 0 k 1
      let v := (((u.voidFrame u.tick).report (0x220 + k) clsPartFailed Ev.STACK_FAILED).tileEvent Ev.STACK_FAILED k 0).noticeFault
      let here := (v.tier.tiles.map Prod.fst).filter (fun a => tierOf a == 1 && addrStack a == k)
      let hit := (here.filterMap (fun a => (v.tileOwner a).map Prod.fst)).eraseDups
      exec (.stackFailed k) s = .next (hit.foldl (fun (y : State) i =>
        match y.sess i with
        | none => y
        | some z => if y.kvTier ≠ 1 ∨ z.pt.entries.any (fun p => tierOf p.2.primary == 2) = false then y
          else if z.state = .opened ∨ z.state = .waiting then
            (y.setSess { z.toReviving y.tick with priorState := z.state }).startRevive i
          else if z.state = .queued ∨ z.state = .active ∨ z.state = .reviving then y.startRevive i else y) (here.foldl State.leaveStack v)))

/-- The recorder takes from a half's report queue the entry of the source that comes first at this tick (log entry 174), the oldest of that
source, into the ring under the next sequence number; beyond 3,072 unread entries the oldest 64 go to the spill log while it has room, and
stay where it has none; with 4,096 in the ring the entry is dropped and counted under its class. A coalescing slot whose window has ended
writes its summary; one whose window runs does not. An accepted ERR_CLEAR empties the first-error capture of the named source, or of every
source. -/
def Obligations.ErrorRecorder : Prop :=
  ∀ (s : State) (w : Writer) (src half : Nat) (e : ErrEntry) (c : CoalSlot),
    let r := s.fb.err
    let q := if half = 0 then r.queue0 else r.queue1
    let u := if half = 0 then s.setErr { r with queue0 := q.erase e } else s.setErr { r with queue1 := q.erase e }
    let v := u.fb.err
    let ring := r.ring ++ [{ e with seq := r.seq }]
    (nextReport s.tick q = some e →
      (4096 ≤ r.ring.length → exec (.errorRecorderTake half) s = .next (u.setObjAt Ob.err_dropped 0 e.cls (u.objAt Ob.err_dropped 0 e.cls + 1))) ∧
      (r.ring.length < 3072 ∨ r.ring.length < 4096 ∧ s.obj Ob.err_spill_tiles 0 * 64 < r.spill.length + 64 →
        exec (.errorRecorderTake half) s = .next (u.setErr { v with ring := ring, seq := (r.seq + 1) % 2 ^ 32 })) ∧
      (3072 ≤ r.ring.length → r.ring.length < 4096 → r.spill.length + 64 ≤ s.obj Ob.err_spill_tiles 0 * 64 →
        exec (.errorRecorderTake half) s =
          .next (u.setErr { v with ring := ring.drop 64, seq := (r.seq + 1) % 2 ^ 32, spill := r.spill ++ ring.take 64 }))) ∧
    ((s.errSource src).slot = some c →
      (c.start + s.obj Ob.err_coalesce_ticks 0 ≤ s.tick → exec (.coalesceFlush src) s = .next (s.flushErr src)) ∧
      (s.tick < c.start + s.obj Ob.err_coalesce_ticks 0 → exec (.coalesceFlush src) s = .next s)) ∧
    (s.accepts w Ob.err_clear 0 (toLE 2 src) →
      exec (.errClear w src) s = .next ((s.setErr { r with sources := r.sources.map (fun (p : Nat × ErrSource) =>
        if src == 0xFFFF || p.1 == src then (p.1, { p.2 with first := none }) else p) }).carriedOut w Ob.err_clear 0 (toLE 2 src)))

/-- A COPY, MOVE, FILL, VERIFY, PARK_BLOCKS or REVIVE_BLOCKS descriptor that passes its ranges, posted to a queue with room, is its newest one,
with as many tiles as its count, or, for a block operation, as its blocks have; when it is the one that the queue may start, the queue is
granted an engine (it is eligible and of the highest class that is) and neither end lies in a lease, its tiles are carried and land with what was
read for as long as the queue is granted one for the next (R15). One posted to
a queue of 256 descriptors waits for room, which is counted (R114). One out of range has no effect (R21). -/
def Obligations.MoveRows : Prop :=
  ∀ (s : State) (half queue : Nat) (d : MoveDesc) (reads : List TileRead), half < 2 → queue < 64 →
    ∀ i op, (i, op) ∈ [((.copy half queue d reads : Instr), 1), (.move half queue d reads, 2), (.fill half queue d reads, 3),
        (.verify half queue d reads, 4), (.parkBlocks half queue d reads, 5), (.reviveBlocks half queue d reads, 6)] →
      let l := s.queue half queue
      let d' := { d with op := op }
      (s.descOk half d' = false → exec i s = .next s) ∧
      (s.descOk half d' = true →
        (256 ≤ l.length → exec i s =
          .next ((s.setEng half { s.eng half with waiting := (s.eng half).waiting ++ [(queue, d', none)] }).bump Ob.cnt_queue_full half)) ∧
        (l.length < 256 →
          let keys := if op == 5 || op == 6 then s.blockOpKeys d' else []
          let total := if op == 5 || op == 6 then keys.length else d.count
          let u := s.setQueue half queue (l ++ [⟨d', total, keys, 0, 0, 0, mvOk, s.tick, s.tick, none⟩])
          let n := (u.queue half queue).length - 1
          let go : Prop := startable (u.queue half queue) true = some n ∧ u.granted half queue = true ∧ u.localEnds d' = true
          (¬ go → exec i s = .next u) ∧
          (go → exec i s = .next (u.landAll half queue n (((u.queue half queue)[n]?).elim 0 (fun x => x.total)) reads))))

/-- The idle engines of a half go, one a queue, to the eligible queues of its highest class in the order of R12, each starting a tile, which is
fetched where it lies in a lease. The next started tile of a queue lands with what was read; one of a lease waits for its data, and one that
lands in a lease is written to its lessor. The oldest descriptor of a queue whose last tile has ended completes with its tiles' worst
status; an unfinished one does not. A withdrawn descriptor ends ABORTED with the tiles it has landed, and completes at once when it is the
oldest. A timeout on a store that a checkpoint is written to aborts the checkpoint; a COPY from T3 to a tier above T4 that has run past
t3_timeout ends T3_TIMEOUT, counted, and what it had still to land is lost. A descriptor of class 0 of the running traverse, or an embedding
gather of one of its models, is issued at its issue tick, once a frame. A partial update writes the data slot under an intent entry that
keeps the stripe's parity, and the parity write that completes takes the entry away. -/
def Obligations.MoveEngines : Prop :=
  ∀ (s : State) (half idle queue tag n row d c : Nat) (r : TileRead) (x : QDesc) (rest : List QDesc) (payload : Octets)
      (h : TrvHeader) (img : TrvImage) (m : ProgMove) (b : ModelBind) (e : EmbedBind) (reads : List TileRead), half < 2 → queue < 64 →
    (s.topClass half = some c →
      exec (.moveEngineGrant half idle) s = .next ((classOrder c s.tick).foldl (fun (acc : State × Nat) q =>
        if 0 < acc.2 && acc.1.eligible half q then ((acc.1.startTile half q).fetchT4 half q, acc.2 - 1) else acc) (s, min idle 16)).1) ∧
    ((s.queue half queue).findIdx? (fun d => decide (d.landed < d.started)) = some n → (s.queue half queue)[n]? = some x →
      let src := s.sourceOf x x.landed
      let t := s.landOne half queue n r
      let there : Prop := r = .lost ∨ tierOf src ≠ 4 ∨ (mget s.tier.tiles src).isSome = true
      (¬ there → exec (.tileLanded half queue r) s = .next s) ∧
      (there → exec (.tileLanded half queue r) s = .next (
        if x.desc.op = 5 ∨ x.desc.op = 6 then t.storeT4 ((t.bySid x.desc.owner).elim noTile (fun y => (y.pt.at (x.keys.headD 0)).primary))
        else if x.desc.op = 4 then t else t.storeT4 (addrPlus x.desc.dst x.landed)))) ∧
    (s.queue half queue = x :: rest →
      (x.total = x.landed → exec (.moveCompletion half queue) s = .next ((s.completeHead half queue x.status).handoverGo)) ∧
      (x.total ≠ x.landed → exec (.moveCompletion half queue) s = .next s)) ∧
    ((s.queue half queue).findIdx? (fun d => d.desc.tag == tag && decide (d.landed < d.total)) = some n → (s.queue half queue)[n]? = some x →
      let u := s.setQueue half queue (lset (s.queue half queue) n { x with total := x.landed, started := x.landed, keys := [], status := mvAborted })
      exec (.descriptorWithdraw half queue tag) s = .next (if n = 0 then u.completeHead half queue mvAborted else u)) ∧
    (queue / 16 = 3 → s.ck.run.isSome = true → exec (.t3T4Timeout half queue) s = .next (s.ckAbort 3)) ∧
    (s.queue half queue = x :: rest → x.desc.op = 1 → s.ck.run = none → x.started ≠ 0 → x.landed < x.total →
      (∀ k, x.landed ≤ k → k < x.total → tierOf (addrPlus x.desc.src k) = 3) → tierOf x.desc.dst ≠ 4 →
      x.startTick + s.obj Ob.t3_timeout 0 < s.tick →
      let left := (List.range (x.total - x.landed)).map (· + x.landed)
      let u := left.foldl (fun (u : State) k => u.loseTile (addrPlus x.desc.src k) causeT3Lost) (s.bump Ob.cnt_t3_t4_timeout half)
      exec (.t3T4Timeout half queue) s = .next ((u.setQueue half queue (lset (u.queue half queue) 0
        { x with total := x.landed, started := x.landed, keys := [] })).completeHead half queue (max x.status mvT3Timeout))) ∧
    (d < 11 →
      let a := t2Addr half d row
      let u := s.setEng half { s.eng half with intents := mput (s.eng half).intents row (s.paritySlot half row) }
      exec (.partialUpdate half row d payload false) s = .next (u.landTile a { u.tileAt a with
        kind := if (u.tileAt a).kind == 0 then 9 else (u.tileAt a).kind, payload := bputs [] 0 (payload.take 4096) }) ∧
      exec (.partialUpdate half row d payload true) s = .next (s.setEng half { s.eng half with intents := mdel (s.eng half).intents row })) ∧
    (s.runningHdr = some h → s.activeImage = some img → n ∉ s.trv.issued → s.allAsleep = false →
      let u : State := { s with trv := { s.trv with issued := s.trv.issued ++ [n] } }
      (img.moves[n]? = some m → m.issueTick ≤ s.schedTick → m.queue < 16 →
        exec (.moveProgramIssue n reads) s = .next (u.runMove (s.descHalf m.desc) m.queue m.desc reads)) ∧
      (img.moves[n]? = none → (embeds img)[n - img.moves.length]? = some (b, e) → e.issueTick ≤ s.schedTick → e.queue < 15 →
        exec (.moveProgramIssue n reads) s = .next (u.gatherEmbed img b e reads)))

/-- An OPEN or WAITING session with tiles in T1 that may park and whose class timer had run out at the boundary that began the frame starts
parking to T2, a PARKED_WARM one that had dwelt there moves lower, and an OPEN one whose timer had not run out stays (R123). Once the session
table is in service, a wait whose deadline has passed ends: the session is OPEN where it was WAITING (a REVIVING one has OPEN to return to,
log entry 152), a STEP record with no token is written, and its station gets WAIT_EXPIRED; one whose deadline has not passed stays. A gate of
a QUEUED session that is late, or whose object's name is lost, expires: it is reported and counted, and the session is cancelled or passes
the gate, as its binding says. A REVIVING session whose blocks, and those of its prefix, are all in place writes a REVIVE record and, unless
it rebuilt, is QUEUED with work and takes its prior state without; one whose blocks are not stays. A half below its T1 low water mark parks
idle sessions to T2 in order until it reaches the high one; a half below its T2 mark reclaims shadows, where a background queue's gate is
open. A hash table with more tombstones than an eighth of its entries is rebuilt, and one with fewer stays. -/
def Obligations.SessionTimers : Prop :=
  ∀ (s : State) (sid half k : Nat) (x : Session) (b : Binding),
    (s.bySid sid = some x → s.mayPark x = true →
      (x.state = .opened → 0 < x.tilesT1 →
        (x.lastActive + s.obj Ob.pk_open_t1 x.parkClass ≤ s.frameStart → exec (.parkTimer sid) s = .next (s.startPark x.index 2)) ∧
        (s.frameStart < x.lastActive + s.obj Ob.pk_open_t1 x.parkClass → exec (.parkTimer sid) s = .next s)) ∧
      (x.state = .waiting → 0 < x.tilesT1 → x.stateSince + s.obj Ob.pk_wait_t1 x.parkClass ≤ s.frameStart →
        exec (.parkTimer sid) s = .next (s.startPark x.index 2)) ∧
      (x.state = .parkedWarm → s.obj Ob.pk_t2_dwell x.parkClass ≠ 0 → x.warmSince + s.obj Ob.pk_t2_dwell x.parkClass ≤ s.frameStart →
        exec (.parkTimer sid) s = .next (s.parkLower x))) ∧
    (s.bySid sid = some x → x.waitOpen = true → x.waitDeadline ≠ 0 →
      (x.waitDeadline < s.tick → s.stn.inService = true →
        let u := s.setSess { x with waitOpen := false, waitDeadline := 0, priorState := .opened, state := if x.state == .waiting then .opened else x.state }
        let id := (u.activeHdr.map trvIdOf).getD 0
        exec (.waitExpired sid) s = .next ((u.srec' x.index (.step u.frame id 0 0 0 32 0xFF x.grState x.pt.kvWritten
          (min x.chAccepted x.pt.kvWritten) [])).sevent x Ev.WAIT_EXPIRED 0 0)) ∧
      (s.tick ≤ x.waitDeadline → exec (.waitExpired sid) s = .next s)) ∧
    (s.bySid sid = some x → x.bindings[k]? = some b → x.state = .queued → b.flags % 4 = 1 → b.since ≠ some 0 → s.gateMet x b = false →
      (x.lastActive + s.obj Ob.stn_sync_gate_ticks x.station < s.tick ∨ s.syncName x.station b.name = none) →
      let n := (s.syncName x.station b.name).getD 0xFFFF
      let u := ((s.syncError n syncTimeoutCause 1 x.station b.name x.sid b.saved).sevent x Ev.SYNC_TIMEOUT b.name 0).bump Ob.cnt_gate_expired x.half
      exec (.gateExpiry sid k) s = .next (if b.flags / 4 % 2 = 1 then u.cancelSession x.index
        else u.modSess x.index (fun y => { y with bindings := lset y.bindings k { b with since := some 0 } }))) ∧
    (s.bySid sid = some x → exec (.reviveReady sid) s = .next ((s.reviveReady x.index).queueSharers) ∧
      (s.sess x.index = some x →
        (x.state ≠ .reviving ∨ x.allIn s.kvTier = false ∨ s.prefixReady x = false → s.reviveReady x.index = s) ∧
        (x.state = .reviving → x.allIn s.kvTier = true → s.prefixReady x = true → x.rebuildMethod ≠ 2 →
          let u := s.srec' x.index (.revive x.rebuildMethod x.reviveTiers x.pt.entries.length x.recomputed
            ((s.activeHdr.map (fun h => h.groupIdentity)).getD 0))
          let v := u.modSess x.index (fun y => { y with rebuildMethod := 0, recomputed := 0, reviveTiers := 0, lastActive := u.tick })
          s.reviveReady x.index = if x.hasWork = true ∧ x.maxPosDue = false then v.toQueued x.index
            else v.modSess x.index (fun y => { y with state := y.priorState, stateSince := v.tick })))) ∧
    (half < 2 →
      let low := s.t1Free half * 100 < 128 * Config.t1SlotsPerChannel * s.obj Ob.t1_low_water 0
      let idle (x : Session) : Bool := x.half == half && (x.state == .opened || x.state == .waiting || x.state == .grammarDead) && s.mayPark x
        && decide (0 < x.tilesT1)
      (low → exec (.pressurePark half) s = .next (State.pressureT2 ((s.parkOrder (s.sessions.filter idle)).foldl (fun (acc : State × Nat) x =>
        if acc.2 * 100 < 128 * Config.t1SlotsPerChannel * s.obj Ob.t1_high_water 0 then
          ((acc.1.startPark x.index 2).bump Ob.cnt_pressure_park half, acc.2 + x.tilesT1)
        else acc) (s, s.t1Free half)).1 half)) ∧
      (¬ low → s.t2Below half (s.obj Ob.t2_low_water 0) = false → exec (.pressurePark half) s = .next s) ∧
      (s.t2Below half (s.obj Ob.t2_low_water 0) = true → s.backgroundOpen half = true → exec (.shadowReclaim half) s = .next (s.reclaim half (s.eng half).shadows.length)) ∧
      (hashBuckets * 4 / 8 < (s.hash half).tombs → exec (.hashTableRebuild half) s = .next (s.setHash half (s.hash half).rebuild)) ∧
      ((s.hash half).tombs ≤ hashBuckets * 4 / 8 → exec (.hashTableRebuild half) s = .next s))

/-- While a snapshot runs in a half with an open background queue, its next pending tile goes to the staging pool when more than the reserve is
free and waits when it is not, and with no pending tile left the snapshot ends; without a snapshot nothing happens. A write to a pending
tile goes through the copy-first rule and then stands; a tile that is not pending is not touched. The oldest input of a session that is not
pending is tokenized by the dictionary of its model on a half with an awake text cluster at a time that text work has. On a half whose
clusters the running traverse uses, text work before the run phase ends does not start, and text work that would run into the next frame is
counted as starved; otherwise each awake text cluster of the half gets the shard that is its own, and keeps what lies above. -/
def Obligations.SnapshotsAndText : Prop :=
  ∀ (s : State) (half a sid dn k : Nat) (n : SnapNext) (payload : Octets) (x : Session) (r : InputRec) (rest : List InputRec) (d : DictImage) (h : TrvHeader),
    ((s.eng half).snapshot.isSome = true → s.backgroundOpen half = true →
      (s.nextSnap half = some n →
        ((s.eng half).snapTiles.length + s.obj Ob.ck_stage_reserve 0 < s.obj Ob.ck_stage_tiles 0 →
          exec (.snapshotCopy half) s = .next (if n.sys = true then s.snapSys half n.addr else s.snapCopy n.addr)) ∧
        (s.obj Ob.ck_stage_tiles 0 ≤ (s.eng half).snapTiles.length + s.obj Ob.ck_stage_reserve 0 → exec (.snapshotCopy half) s = .next s)) ∧
      (s.nextSnap half = none → exec (.snapshotCopy half) s = .next (s.setEng half { s.eng half with snapshot := none }))) ∧
    ((s.eng half).snapshot = none → exec (.snapshotCopy half) s = .next s) ∧
    (s.sysHalf a = some k →
      let t := (s.descChanged k a payload).foldl (fun (t : State) x => t.countCopy (s.sess x.index)) (s.snapSys k a)
      exec (.copyFirst a payload) s = .next (({ t with trv := { t.trv with copies := t.trv.copies + 1 } } : State).bump Ob.cnt_copy_first k)) ∧
    (s.sysHalf a = none → s.pendingSnap a = true →
      exec (.copyFirst a payload) s = .next (s.landTile a { s.tileAt a with payload := bputs [] 0 (payload.take 4096) })) ∧
    (s.sysHalf a = none → s.pendingSnap a = false → exec (.copyFirst a payload) s = .next s) ∧
    (s.bySid sid = some x → x.inputs = r :: rest → s.dictFor x.model = some (dn, d) → r.pending = false → x.prefixDue = false →
      x.state.live = true → (s.textClusters x.half).all s.asleep = false → s.textOpen x.half = true → s.textReady x.half = true →
      exec (.tokenizeRecord sid) s = .next (((s.setSess { x with inputs := rest }).tokenizeRec x.index d r).modSess x.index
        (fun y => { y with pendingInput := y.inputs.any (fun q => q.held) }))) ∧
    (half < 2 →
      (s.runningHdr = none ∨ (s.runningHdr = some h ∧ (hdrUsesHalf h half = false ∨ s.runEnd h ≤ s.tick ∧ s.runEnd h + 124 ≤ s.frameEnd)) →
        exec (.textWorkStart half) s = .next (((((s.textClusters half).filter (fun n => !s.asleep n)).zip s.loadedShards).foldl
          (fun (u : State) p => u.setClusterStore p.1 (bputs ((u.clusterStore p.1).filter (fun q => decide (0x180000 ≤ q.1))) 0
            (p.2.take 0x180000))) s).setReady half (some (s.tick + 64)))) ∧
      (s.runningHdr = some h → hdrUsesHalf h half = true →
        (s.tick < s.runEnd h → exec (.textWorkStart half) s = .next s) ∧
        (s.runEnd h ≤ s.tick → s.frameEnd < s.runEnd h + 124 → exec (.textWorkStart half) s = .next (s.bump Ob.cnt_text_starved half))))

/-- A bucket tick counts the deferred messages that wait and then does the tick's debits and refills. An accepted AR_INSERT
of a rule whose number is free, with room below the limit, puts the rule into the ordered region of both halves; an accepted AR_REMOVE of
a live rule takes it out of both. An accepted GL_COMMIT of a valid list at least 4 frames ahead keeps it for its takeover frame. When the entries up
to the one in force have run out of the frame's ticks, the gate goes to the next entry, and not before. -/
def Obligations.ShapingRows : Prop :=
  ∀ (s a b : State) (w : Writer) (v : Octets) (id half : Nat),
    exec .bucketTick s = .next s.countDeferred.bucketTick ∧
    (s.accepts w Ob.ar_insert 0 v → ruleRange v = true → s.ruleLive (ofLE (slice v 32 4) / 65536) = false →
      (s.ruleEntries 0).length < s.regionLimit Ob.cam_rule_entries (s.cam 0).regions.rule →
      let e : CamEntry := ⟨3 * 2 ^ 120 + ofLE (slice v 0 15), 255 * 2 ^ 120 + ofLE (slice v 16 15), ofLE (slice v 32 4), ofLE (slice v 36 4)⟩
      s.camOrdered 0 e = some a →
      (a.ruleEntries 1).length < a.regionLimit Ob.cam_rule_entries (a.cam 1).regions.rule → a.camOrdered 1 e = some b →
      exec (.arInsert w v) s = .next ((b.setObj Ob.ar_status 0 St.OK).carriedOut w Ob.ar_insert 0 v)) ∧
    (s.accepts w Ob.ar_remove 0 (toLE 2 id) → s.ruleLive (id % 65536) = true →
      let drop (c : CamHalf) : CamHalf :=
        c.put (c.entries.filter (fun p => !(decide (p.1 < c.regions.rule) && p.2.result / 65536 == id % 65536)))
      exec (.arRemove w id) s = .next ((((s.setCam 0 (drop (s.cam 0))).setCam 1 (drop (s.cam 1))).setObj Ob.ar_status 0 St.OK).carriedOut w
        Ob.ar_remove 0 (toLE 2 id))) ∧
    (half < 2 → s.accepts w Ob.gl_command half [1] → s.frame + 4 ≤ s.obj Ob.gl_takeover half → s.str Ob.gl_entries half ≠ [] →
      gateValid 65 (s.str Ob.gl_entries half) = true →
      exec (.glCommit w half) s = .next (((s.setGate half { s.gate half with
        next := some (s.obj Ob.gl_takeover half, gateEntries 64 (s.str Ob.gl_entries half)) }).setObj Ob.gl_status half St.OK).carriedOut w
          Ob.gl_command half [1])) ∧
    (half < 2 →
      let used := (((s.gate half).active.take ((s.gate half).index + 1)).map (fun e => e.ticks)).foldl (· + ·) 0
      (s.frameStart + used ≤ s.tick → exec (.gateListEntry half) s = .next (s.gateNext half)) ∧
      (s.tick < s.frameStart + used → exec (.gateListEntry half) s = .next s))

/-- An accepted definition of a free name, within the station's limit and with a free object in its half, gives the name that object with the
type and the operand of the write (R363). An accepted deletion of a name that no session binds frees its object; of a bound one it is
refused with SYNC_BUSY and changes nothing of it (R368). An accepted ADD, SET, CLEAR or ARRIVE of a station that its object takes acts on the
object its name stands for. At its tick a group's updates act together on each object, the other members' with this tile's own. -/
def Obligations.StationSync : Prop :=
  ∀ (s : State) (w : Writer) (st name type half operand n code : Nat) (others : List GroupSync),
    (let v := defineValue name type half operand
     let h := if half == 2 then (if (s.freePool 0).length < (s.freePool 1).length then 1 else 0) else half
     s.accepts w Ob.stn_sync_define st v → name < 1024 → 1 ≤ type → type ≤ 3 → half ≤ 2 → (type = 3 → 1 ≤ operand ∧ operand ≤ 32768) →
     (type = 2 → operand ≤ 1) → s.syncName st name = none → s.namesOf st < s.obj Ob.stn_sync_max st →
     (if h == 0 then s.freePool 0 else s.freePool 1).head? = some n →
     let o : SyncObj := match type with
       | 1 => ⟨.counter, false, false, st, operand, 0, 0, 0⟩
       | 2 => ⟨.event, false, false, st, operand % 2, 0, 0, 0⟩
       | _ => ⟨.closure, false, false, st, 0, operand, 0, 0⟩
     let u := ({ s with sync := { s.sync with names := mput s.sync.names (nameKey st name) n } } : State).setSync n o
     exec (.stnSyncDefine w st name type half operand) s = .next ((u.setObj Ob.stn_sync_status st St.OK).carriedOut w Ob.stn_sync_define st v)) ∧
    (let v := defineValue name 0 0 0
     s.accepts w Ob.stn_sync_define st v → name < 1024 → s.syncName st name = some n →
     (s.nameBound st name = false →
       let u := s.setSync n freeSync
       let x : State := { u with sync := { u.sync with names := mdel u.sync.names (nameKey st name), mirror := mdel u.sync.mirror n } }
       exec (.stnSyncDelete w st name) s = .next ((x.setObj Ob.stn_sync_status st St.OK).carriedOut w Ob.stn_sync_define st v)) ∧
     (s.nameBound st name = true →
       exec (.stnSyncDelete w st name) s = .next ((s.setObj Ob.stn_sync_status st St.SYNC_BUSY).reply w St.SYNC_BUSY))) ∧
    (∀ i op arg, (i, code, op, arg) ∈ [((.stnSyncAdd w st name operand : Instr), 1, SyncOp.add, operand), (.stnSyncSet w st name, 2, .set, 0),
        (.stnSyncClear w st name, 3, .clear, 0), (.stnSyncArrive w st name operand, 4, .arrive, operand)] →
      let v := toLE 2 name ++ toLE 1 code ++ toLE 1 0 ++ toLE 4 arg
      s.accepts w Ob.stn_sync_op st v → (s.syncStationOp st name op (arg % 2 ^ 32)).2 = St.OK →
      exec i s = .next (((s.syncStationOp st name op (arg % 2 ^ 32)).1.setObj Ob.stn_sync_status st St.OK).carriedOut w Ob.stn_sync_op st v)) ∧
    (let due := s.sync.updates.filter (fun u => decide (u.tick ≤ s.tick))
     let all := due.map (fun u => (u.obj, u.op, u.operand)) ++ others.map (fun g => (g.obj, syncOpOf g.op, g.operand))
     let u := { s with sync := { s.sync with updates := s.sync.updates.filter (fun u => !decide (u.tick ≤ s.tick)) } }
     exec (.groupSyncUpdate others) s = .next (((all.map (fun x => x.1)).eraseDups).foldl (fun (u : State) k =>
       u.syncBatch k ((all.filter (fun x => x.1 == k)).map (fun x => (x.2.1, x.2.2)))) u))

/-- An accepted MDL_LOAD of a slot that nothing uses, whose shape and channels fit, frees the slot's tiles, keeps the weight home of the load,
counts the load and leaves the slot LOADING. The end of a load places the tiles of its source at the slot's home one after another; when all
are there as the source's length says, checked, and their digest agrees, the slot is LOADED. The first tile that fails decides (R247): one whose CRC
fails leaves it REFUSED with MODEL_CORRUPT and no tiles, one of another format with FORMAT_VERSION; so does a source that cannot be read or is not
the one described, with MODEL_CORRUPT. An accepted MDL_UNLOAD of a slot that nothing uses frees its tiles and leaves it EMPTY. -/
def Obligations.ModelSlots : Prop :=
  ∀ (s u : State) (w : Writer) (mm vocab : Nat) (o bad : Octets) (l more : List Octets),
    (s.accepts w Ob.mdl_command mm [1] → s.modelInUse mm = false → s.obj Ob.mdl_state mm ≠ 1 → s.modelShapeOk mm vocab = true →
      s.sliceChannelsOk mm = true →
      let f := s.freeAll (s.modelSlot mm).tiles
      let a := f.setModelSlot mm ⟨[], some w, f.obj Ob.mdl_weight_home mm⟩
      let b := a.setObj Ob.mdl_state mm 1
      exec (.mdlLoad w mm vocab) s = .next ((b.setObj Ob.mdl_load_count mm ((a.obj Ob.mdl_load_count mm + 1) % 2 ^ 28)).carriedOut w
        Ob.mdl_command mm [1])) ∧
    (s.obj Ob.mdl_state mm = 1 → (s.modelSlot mm).loadWriter.isSome = true →
      let refused (u : State) (st : Nat) : State := (((u.freeAll (u.modelSlot mm).tiles).setModelSlot mm ⟨[], none, 0⟩).setObj Ob.mdl_state mm
        3).setObj Ob.mdl_status mm st
      let place (l : List Octets) : State × Bool := l.foldl (fun (acc : State × Bool) t =>
        ((acc.1.placeWeight mm (parseTile t)).1, acc.2 && (acc.1.placeWeight mm (parseTile t)).2)) (s, true)
      exec (.mdlLoadDone mm none) s = .next (refused s St.MODEL_CORRUPT) ∧
      ((∀ t ∈ l, tileCrcOk t = true ∧ (parseTile t).formatOk = true) → place l = (u, true) →
        (records 4352 o = l ++ bad :: more →
          (tileCrcOk bad = false → exec (.mdlLoadDone mm (some o)) s = .next (refused u St.MODEL_CORRUPT)) ∧
          (tileCrcOk bad = true → (parseTile bad).formatOk = false →
            exec (.mdlLoadDone mm (some o)) s = .next (refused u St.FORMAT_VERSION))) ∧
        (records 4352 o = l →
          (o.length ≠ 4352 * ofLE (slice (u.str Ob.mdl_source mm) 8 4) ∨ Config.shake256 o 32 ≠ u.str Ob.mdl_digest mm →
            exec (.mdlLoadDone mm (some o)) s = .next (refused u St.MODEL_CORRUPT)) ∧
          (o.length = 4352 * ofLE (slice (u.str Ob.mdl_source mm) 8 4) → Config.shake256 o 32 = u.str Ob.mdl_digest mm →
            exec (.mdlLoadDone mm (some o)) s = .next (((u.setModelSlot mm { u.modelSlot mm with loadWriter := none }).setObj Ob.mdl_state mm
              2).setObj Ob.mdl_status mm St.OK))))) ∧
    (s.accepts w Ob.mdl_command mm [2] → s.modelInUse mm = false → s.obj Ob.mdl_state mm ≠ 1 →
      exec (.mdlUnload w mm) s = .next (((((s.freeAll (s.modelSlot mm).tiles).setModelSlot mm ⟨[], none, 0⟩).setObj Ob.mdl_state mm 0).setObj
        Ob.mdl_status mm St.OK).carriedOut w Ob.mdl_command mm [2]))

/-- An accepted load of a dictionary slot that nothing uses empties it and leaves it LOADED, with the image parsed from its octets and these in
TEXT tiles and in the mirrors, when every check passes (R255) and text clusters remain for its shards (R256), and otherwise REFUSED with the
status of the first check that fails (where R256's is made is log entry 202); so does a load of a grammar slot, which asks as well that the
program's dictionary is the one of its model, and whose one refusal is GRAMMAR_CORRUPT (R272). A source that cannot be read is corrupt. An accepted unload of a slot that nothing uses leaves it EMPTY. A load or an unload
of a slot in use is refused as busy. -/
def Obligations.TextSlots : Prop :=
  ∀ (s : State) (w : Writer) (n k : Nat) (o : Octets) (e : DictImage),
    (s.accepts w Ob.dict_command n [1] → s.dictBusy n 0 = false →
      let u := s.dropDict n
      (dictMagicOk o = true → formatOk o = true → Config.shake256 o 32 = s.str Ob.dict_digest n → dictRulesOk o = true →
        ((s.text.dicts.filter (fun p => p.1 != n && s.obj Ob.dict_state p.1 == 2)).map (fun p => p.2.shards)).foldl (· + ·) 0
          + (parseDict o).shards ≤ s.textRoom →
        exec (.dictLoad w n (some o)) s = .next ((((u.keepDict n o).setObj Ob.dict_state n 2).setObj Ob.dict_status n St.OK).carriedOut w
          Ob.dict_command n [1])) ∧
      (s.dictCheck n o ≠ St.OK → exec (.dictLoad w n (some o)) s = .next (((u.setObj Ob.dict_state n 3).setObj Ob.dict_status n
        (s.dictCheck n o)).carriedOut w Ob.dict_command n [1])) ∧
      exec (.dictLoad w n none) s = .next (((u.setObj Ob.dict_state n 3).setObj Ob.dict_status n St.DICT_CORRUPT).carriedOut w Ob.dict_command n [1])) ∧
    (s.accepts w Ob.dict_command n [2] → s.dictBusy n 0 = false →
      exec (.dictUnload w n) s = .next ((((s.dropDict n).setObj Ob.dict_state n 0).setObj Ob.dict_status n St.OK).carriedOut w Ob.dict_command n
        [2])) ∧
    (s.dictBusy n 0 = true →
      (s.accepts w Ob.dict_command n [1] → exec (.dictLoad w n (some o)) s = .next ((s.setObj Ob.dict_status n St.DICT_BUSY).reply w St.DICT_BUSY)) ∧
      (s.accepts w Ob.dict_command n [2] → exec (.dictUnload w n) s = .next ((s.setObj Ob.dict_status n St.DICT_BUSY).reply w St.DICT_BUSY))) ∧
    (s.accepts w Ob.gp_command n [1] → s.grammarBusy n = false →
      let u := s.dropGrammar n
      (grammarMagicOk o = true → formatOk o = true → Config.shake256 o 32 = s.str Ob.gp_digest n → grammarPlacesOk o = true →
        grammarOk (parseGrammar o) = true → s.dictFor (s.obj Ob.gp_model n) = some (k, e) → e.digest = (parseGrammar o).dictDigest →
        e.vocab = (parseGrammar o).vocab →
        exec (.gpLoad w n (some o)) s = .next ((((u.keepGrammar n o).setObj Ob.gp_state n 2).setObj Ob.gp_status n St.OK).carriedOut w
          Ob.gp_command n [1])) ∧
      (s.grammarCheck n o ≠ St.OK → exec (.gpLoad w n (some o)) s = .next (((u.setObj Ob.gp_state n 3).setObj Ob.gp_status n
        St.GRAMMAR_CORRUPT).carriedOut w Ob.gp_command n [1])) ∧
      exec (.gpLoad w n none) s = .next (((u.setObj Ob.gp_state n 3).setObj Ob.gp_status n St.GRAMMAR_CORRUPT).carriedOut w Ob.gp_command n [1])) ∧
    (s.accepts w Ob.gp_command n [2] → s.grammarBusy n = false →
      exec (.gpUnload w n) s = .next ((((s.dropGrammar n).setObj Ob.gp_state n 0).setObj Ob.gp_status n St.OK).carriedOut w Ob.gp_command n [2])) ∧
    (s.grammarBusy n = true →
      (s.accepts w Ob.gp_command n [1] → exec (.gpLoad w n (some o)) s = .next ((s.setObj Ob.gp_status n St.GRAMMAR_BUSY).reply w
        St.GRAMMAR_BUSY)) ∧
      (s.accepts w Ob.gp_command n [2] → exec (.gpUnload w n) s = .next ((s.setObj Ob.gp_status n St.GRAMMAR_BUSY).reply w St.GRAMMAR_BUSY)))

/-- A gather record of the running traverse is carried out once a frame from its issue tick on: for each live row of its range and each block
of its chunk that the row loads, the K and V tiles it names go to the cluster as class 0 copies of one tile, a row that is masked on the way taking nothing more;
blocks of the chunk that are not loaded are counted (once for the record, log entry 199), and the record's wait point is met once none of its tiles has still to land. The append entries of a cluster's image of the running
traverse run in their order, at their cycle: one writes, for a live row whose session is known here (this tile's own, or what it keeps of another member's, R228), the new positions
it names from the cluster's store into the session's tiles. -/
def Obligations.ContextTiles : Prop :=
  ∀ (s : State) (n cluster : Nat) (reads : List TileRead) (h : TrvHeader) (i : TrvImage) (g : GatherRec) (e : AppendRec) (r : RowNow) (x : Session),
    s.runningHdr = some h → s.activeImage = some i →
    (i.gathers[n]? = some g → g.issueTick ≤ s.schedTick → n ∉ s.trv.gathered →
      let u := { s with trv := { s.trv with gathered := s.trv.gathered ++ [n] } }
      let kinds := (if g.k then [0] else []) ++ (if g.v then [1] else [])
      let job (r : RowNow) (x : Session) : List (Nat × Nat × Nat) :=
        ((u.chunkBlocks i r x.model g.layer g.chunk).flatMap (fun b => kinds.map (fun kv => (b, kv)))).zipIdx.map
          (fun p => (p.1.1, p.1.2, addrPlus g.dst ((r.row - g.rowFirst) * g.slots + p.2)))
      let rows := u.trv.rowTab.filter (fun r => decide (g.rowFirst ≤ r.row ∧ r.row < g.rowFirst + g.rowCount) && rowLive r)
      let one (acc : State × List TileRead) (r : RowNow) : State × List TileRead :=
        match acc.1.rowSess r.entry with
        | none => acc
        | some x =>
          let c := ((i.binds.find? (fun b => b.slot == x.model)).map (fun b => b.attnChunkBlocks)).getD 1
          let inChunk := ((List.range c).map (· + (r.entry.part * partBlocks i.hdr + g.chunk * c))).filter (fun b => blockLive i.hdr r b)
          let skipped := (inChunk.filter (fun b => !u.blockLoaded i.hdr r x.model b g.layer)).length
          (job r x).foldl (fun (acc : State × List TileRead) j =>
            match acc.1.rowNow r.row with
            | some r' =>
              if rowLive r' then
                (acc.1.gatherTile g r.row x.index j (acc.2.headD .ok), acc.2.tail)
              else (acc.1, acc.2.tail)
            | none => acc) (acc.1.addObj Ob.cnt_kv_blocks_skipped x.half skipped, acc.2)
      let t := (rows.foldl one (u, reads)).1
      exec (.gatherRecord n reads) s = .next (t.gatherMet g.queue g.tag)) ∧
    ((s.tablesOf i cluster).appends[n]? = some e → cluster < 512 → s.clusterFenced cluster = false → s.asleep cluster = false →
      e.cycle < 60 * (s.schedTick + 1) → (mget s.trv.appended cluster).getD 0 ≤ n → s.rowNow e.row = some r →
      rowLive r = true → s.rowSess r.entry = some x →
      let m : State := { s with trv := { s.trv with appended := mput s.trv.appended cluster (n + 1) } }
      exec (.appendEntry cluster n) s = .next ((List.range e.count).foldl (fun (u : State) k =>
        match u.rowSess r.entry with
        | none => u.bump Ob.cnt_owner_tag_drop 0
        | some x => if e.first + k < r.nw then u.appendOne cluster e r x (e.first + k) else u) (m.clusterAdvance cluster e.cycle)))

/-- An accepted CHECKPOINT written to ck_command, with an identifier, enough notice, none running and a store, is taken for the station that
wrote it, and so is one that a privileged station sends as a message and that passes its checks. An accepted ABORT ends the checkpoint with
cause 5. A shard write of a started checkpoint drains up to its count of a half's staging pool into the half's shard, counts the tiles, and
completes the shard with the snapshot over and the pool empty. With both shards complete in state 2 the member manifests are signed, and the
group manifest with their entries and sessions; another member than the master keeps the one that the benchmark device sent. The manifests
written, the checkpoint is complete: its entry says so, it is kept in place of one of the same identifier and step, and its requester hears
of it. An accepted RESTORE from source 0 on an idle tile tries the complete sets it holds and those found, the newest first, and one on a
busy tile is refused with RESTORE_BUSY. -/
def Obligations.CheckpointRows : Prop :=
  ∀ (z s : State) (w : Writer) (half count : Nat) (r : CkRun) (found : List CkSet) (others : List ManMember) (group : Option Manifest)
    (t : Transfer) (e : Intake) (h : MsgHdr) (b : CheckpointBody),
    (s.accepts w Ob.ck_command 0 [1] → s.obj Ob.ck_id 0 ≠ 0 → s.frame + 4 ≤ s.obj Ob.ck_frame 0 → s.ck.run = none → s.ckStoreOk = true →
      exec (.ckCheckpoint w) s = .next ((s.ckTake (match w with
        | .station st _ => some st
        | _ => none) (s.obj Ob.ck_id 0) (s.obj Ob.ck_frame 0)).carriedOut w Ob.ck_command 0 [1])) ∧
    (let s := z.readDescs t.descs
     s.waits t.station e → (s.atTurn t.station e).passes t.station (s.chosen t.station e) → e.msg = ⟨h, .checkpoint b⟩ → e.privileged = true →
      let u := s.serving t.station e
      u.ckAsk b.frame = St.OK →
      let mode := (u.station t.station).fbMode
      exec (.checkpoint t h b) z = .next (((u.accept t.station (s.chosen t.station e) mode 0 0xFFFFFFFF mode false 0 false).1).ckTake
        (some t.station) b.id b.frame)) ∧
    (s.accepts w Ob.ck_command 0 [2] →
      exec (.abort w) s = .next (((s.ckAbort 5).setObj Ob.ck_status 0 St.OK).carriedOut w Ob.ck_command 0 [2])) ∧
    (s.ck.run = some r → r.started = true → half < 2 →
      let out := (s.eng half).snapTiles.take count
      let u := s.setEng half { s.eng half with snapTiles := (s.eng half).snapTiles.drop count }
      let f := out.foldl (fun (f : State) c => if c.slot == noTile then f else f.setTile c.slot freeTile) u
      let v := (f.addObj Ob.cnt_ck_tiles_written half out.length).addObj Ob.ck_progress 0 out.length
      let set := r.set.modShard half (fun (h : CkShard) => { h with tiles := h.tiles ++ out.map (fun c => (c.source, c.tile)) })
      let done := (v.eng half).snapshot.isNone && (v.eng half).snapTiles.isEmpty
      let shard := (set.members.flatMap (fun m => m.shards)).find? (fun h => h.half == half)
      let head := if done && !(if half == 0 then r.done0 else r.done1) then (shard.map (fun h => 1 + ceilDiv h.data.length 512)).getD 0 else 0
      let y := (v.addObj Ob.cnt_ck_tiles_written half head).addObj Ob.ck_progress 0 head
      exec (.shardWrite half count) s = .next { y with ck := { y.ck with run := some { r with
        set := set
        done0 := r.done0 || (done && half == 0)
        done1 := r.done1 || (done && half == 1) } } }) ∧
    (s.ck.run = some r → r.done0 = true → r.done1 = true → s.obj Ob.ck_state 0 = 2 → s.isMaster = true ∨ group.isSome = true →
      let ms := r.set.members.map s.memberManifest
      let at' := ((s.catalogue.find? (fun (c : CatEntry) => c.id == r.id && c.state == 1)).map (fun c => c.member)).getD 0
      let own : Manifest := { r.set.group with
        sessions := (ms.map (fun m => m.manifest.sessions)).foldl (· + ·) 0, members := ms.map (fun m => memberEntry m.manifest at') ++ others }
      let g := if s.isMaster then own.close (s.free + 1) else group.getD own
      let u := { s with ck := { s.ck with run := some { r with set := ⟨g, ms⟩ } }, free := s.free + 2 }
      exec (.manifestWrite others group) s = .next (u.setObj Ob.ck_state 0 3)) ∧
    (s.ck.run = some r → s.obj Ob.ck_state 0 = 3 →
      let u := { s with ck := { s.ck with
        run := none, stored := r.set :: s.ck.stored.filter (fun x => x.group.id != r.id || x.group.frame != r.frame) } }
      exec .checkpointComplete s = .next (((u.catMark r.id 1 (fun (e : CatEntry) => { e with state := 2 })).setObj Ob.ck_state 0 4).ckTell r
        Ev.CHECKPOINT_COMPLETE r.id r.frame)) ∧
    (s.accepts w Ob.rs_command 0 [1] →
      let busy := s.sessions.any (fun x => x.state.live) || s.ck.run.any (fun r => r.started) || (List.range 256).any (fun ii => s.obj Ob.vx_state ii == 2)
      let own := s.ck.stored.filter (fun x => !found.any (fun y => y.group.id == x.group.id && y.group.frame == x.group.frame)
        && s.catalogue.any (fun e => e.id == x.group.id && e.frame == x.group.frame && e.state == 2))
      let cat := s.catalogue ++ (found.filter (fun y => !s.catalogue.any (fun e => e.id == y.group.id && e.frame == y.group.frame))).map (fun y =>
        (⟨y.group.id, y.group.frame, 2, y.group.producer, s.obj Ob.group_position 0, 0, 0, 0, 0, y.group.tai, 0⟩ : CatEntry))
      (busy = false → s.obj Ob.rs_source 0 = 0 →
        exec (.restore w found) s = .next ((s.ckTry w 0 cat (newestFirst (own ++ found))).carriedOut w Ob.rs_command 0 [1])) ∧
      (busy = true → exec (.restore w found) s = .next ((s.setObj Ob.rs_status 0 St.RESTORE_BUSY).reply w St.RESTORE_BUSY)))

/-- In training before step 4, LINK_PARAM of a partner with major 1 takes the port to its echoes with the common minor and features, and without
major 1 to MISMATCH; up to 16 echoes are kept. After 16 echoes whose latency the partner confirms within 1 cc, from a partner that fits and has
an epoch, the port is UP on its good lanes with that latency. Step 4 past its timeout, or an earlier step past its own, takes the port DOWN with
a report. On an UP port an ACK drops what it acknowledges; a NAK replays what is kept from its sequence on, and takes the port DOWN when it is
not kept; the first failed codeword asks once for replay, and each one counts against its lane, which fails after more than 16 of one interval.
A DOWN port with a role and lanes retrains after its wait. A heartbeat goes out once 250 ticks have passed, and ends the lanes' interval; in a
standalone device without a plat a heartbeat read ends the misses; missed intervals count, and more than 750 ticks without one take the port
DOWN with a report. A lane that loses its signal fails, and takes the port DOWN when it is the last one of a port in use. The UP port of a failed
lane narrows to the width that its good lanes allow, or goes DOWN. -/
def Obligations.FabricPorts : Prop :=
  ∀ (s : State) (port lane seq rtt step began : Nat) (lp : LinkParam) (hb : FabHeartbeat), port < 16 →
    let x := s.port port
    (s.obj Ob.port_state port = 1 →
      (x.step < 4 → lp.majorLo ≤ 1 → lp.majorHi ≠ 0 →
        exec (.linkParam port lp) s = .next (s.setPort port { x with
          params := some lp, step := 4, since := s.tick, minor := min lp.minor 2, features := Nat.land lp.features 0xF, echoes := []
          attempts := x.attempts + 1 })) ∧
      (x.step < 4 → 2 ≤ lp.majorLo ∨ lp.majorHi = 0 →
        exec (.linkParam port lp) s = .next ((s.setObj Ob.port_state port 4).setPort port { x with
          params := some lp, status := St.VERSION_MISMATCH, since := s.tick, step := 0 })) ∧
      (x.step = 4 → x.echoes.length < 16 →
        exec (.echo port rtt) s = .next (s.setPort port { x with echoes := x.echoes ++ [rtt] })) ∧
      (x.step = 4 → x.since + s.trainLimit 4 < s.tick →
        exec (.portTrainingTimeout port 4 x.since) s = .next ((s.portReport port clsTimeout).portDown port)) ∧
      (x.step ≠ 4 → 1 ≤ step → step ≤ 3 → x.since ≤ began → (step = 1 → began = x.since) → began + s.trainLimit step < s.tick →
        exec (.portTrainingTimeout port step began) s = .next ((s.portReport port clsTimeout).portDown port)) ∧
      (x.step = 4 → x.params = some lp → x.echoes.length = 16 → s.portFits port lp = true → lp.epoch ≠ 0 →
        let lat := medianOf x.echoes / 2
        lat ≤ rtt + 1 → rtt ≤ lat + 1 →
        let good := x.lanes.filter (fun l => s.lane l != 2)
        let a := good.foldl (fun (a : State) l => a.setLane l 1) s
        let b := ((a.setObj Ob.port_state port (if good.length == x.lanes.length then 2 else 3)).setObj Ob.port_width port good.length).setObj
          Ob.port_peer port (lp.device % 512 + lp.port % 16 * 4096)
        let c := (b.setObj Ob.port_latency_cc port lat).setPort port { x with
          step := 0, status := St.OK, lastHb := b.tick, missed := 0, lastSent := b.tick }
        exec (.portUp port rtt) s = .next c.platView.peersSeen)) ∧
    (s.portUp port = true →
      (x.txKept.contains (seq % 4096) = true →
        exec (.ack port seq) s = .next (s.setPort port { x with txKept := (x.txKept.dropWhile (fun q => q != seq % 4096)).drop 1 }) ∧
        exec (.nak port seq) s = .next ((s.setPort port { x with
          sent := ((x.txKept.dropWhile (fun q => q != seq % 4096)).map (fun q => (2, q))).reverse ++ x.sent }).bump Ob.cnt_replays port)) ∧
      (x.txKept.contains (seq % 4096) = false → exec (.nak port seq) s = .next (s.portDown port)) ∧
      (x.lanes.contains lane = true → x.discarding = false →
        let a := s.bump Ob.cnt_fec_uncorrected port
        let n := (mget a.fab.laneFails lane).getD 0 + 1
        let b := { a with fab := { a.fab with laneFails := mput a.fab.laneFails lane n } }
        let c := b.setPort port { x with discarding := true, rxNext := seq % 4096, sent := (3, seq % 4096) :: x.sent }
        exec (.codewordFecFail port lane seq) s = .next (if 16 < n then c.laneFail lane else c)) ∧
      (x.lanes.contains lane = true → x.discarding = true →
        let a := s.bump Ob.cnt_fec_uncorrected port
        let n := (mget a.fab.laneFails lane).getD 0 + 1
        let b := { a with fab := { a.fab with laneFails := mput a.fab.laneFails lane n } }
        exec (.codewordFecFail port lane seq) s = .next (if 16 < n then b.laneFail lane else b)) ∧
      (x.lastSent + 250 ≤ s.tick →
        let a := { s with fab := { s.fab with laneFails := s.fab.laneFails.filter (fun (p : Nat × Nat) => !x.lanes.contains p.1) } }
        exec (.heartbeat port none) s = .next ((a.setPort port { x with
          lastSent := s.tick, sentHb := some a.ownHeartbeat, sent := (1, x.txNext) :: (2, x.rxNext) :: x.sent
          txNext := (x.txNext + 1) % 4096, txKept := keepLast 512 (x.txKept ++ [x.txNext]) }).markLost)) ∧
      (s.obj Ob.composition 0 = 0 → s.fab.plat = none →
        exec (.heartbeat port (some hb)) s = .next (s.setPort port { x with peerHb := some hb, lastHb := s.tick, missed := 0, discarding := false })) ∧
      (let n := min 3 ((s.tick - x.lastHb) / 250)
       let a := (s.addObj Ob.cnt_hb_missed port (n - x.missed)).setPort port { x with missed := max n x.missed }
       exec (.portHeartbeatLoss port) s = .next (if x.lastHb + 750 < s.tick then (a.portReport port clsTimeout).portDown port else a))) ∧
    (s.obj Ob.port_state port = 0 → s.obj Ob.port_role port ≠ 0 → s.portLanes port ≠ [] → x.since + s.obj Ob.fab_retrain_ticks 0 ≤ s.tick →
      let a := (s.portLanes port).foldl (fun (a : State) l => a.setLane l 0) s
      exec (.portRetrain port) s = .next ((a.setObj Ob.port_state port 1).setPort port { portInit with
        lanes := s.portLanes port, step := 1, since := a.tick, params := x.params })) ∧
    (lane < 32 →
      let a := s.laneFail lane
      (a.laneOwner lane = none → exec (.lossOfSignal lane) s = .next a) ∧
      (a.laneOwner lane = some port →
        let last : Bool := a.obj Ob.port_state port != 0 && (a.port port).lanes.all (fun l => a.lane l == 2)
        exec (.lossOfSignal lane) s = .next (if last then a.portDown port else a))) ∧
    (s.laneOwner lane = some port → s.lane lane = 2 → s.portUp port = true →
      let good := (x.lanes.filter (fun l => s.lane l != 2)).length
      let width := if x.lanes.length == 4 && 2 ≤ good then 2 else min good 1
      (width = 0 ∨ x.features / 2 % 2 = 0 → exec (.laneFailed lane) s = .next (s.portDown port)) ∧
      (width ≠ 0 → x.features / 2 % 2 ≠ 0 →
        exec (.laneFailed lane) s = .next ((((s.setObj Ob.port_state port 3).setObj Ob.port_width port width).bump Ob.cnt_link_narrowed
          (portHalf port)).tileEvent Ev.LINK_NARROWED port width)))

/-- Messages that reach this device in their range, of its epoch or an older one. A relayed APPEND, RESUME, CANCEL, CLOSE, PARK, REVIVE or
RING_NAME for a session that this device holds and hands over to no one is put into the intake of its remote station and, where its sequence
is new, served as that station's own; its answers are relayed back. A relayed completion completes the station's message, and a windowed one
that is OK counts in the sequence window; a relayed ring entry goes onto the station's write stream; a relayed event is posted with the station's
sequence. A witness in the slice that has lent a WITNESS lease for them stores a batch of records that it does not hold yet and answers with the batch's
highest position; one that serves no such device, or holds no such lease, refuses with LEASE_REFUSED (R479; log entry 211). The witness's answer counts for its half and lets what waited only for the witness proceed; a
trim drops the records of a half below the lowest live position. -/
def Obligations.FabricRelays : Prop :=
  ∀ (s : State) (h : FabHdr) (st addr pos : Nat) (m : Msg) (x : Session) (c : Completion) (e : RingEntry) (v : EventEntry) (recs : List Rec),
    s.reached h →
    (s.fab.outs = [] → s.fab.ins = [] → (s.resolve st m.hdr.handle).2 = some x →
      let u := s.remoteStation st h.src
      let i : Intake := ⟨m, 0, 0, u.tick, u.tick, false, .fresh, 0, false, false, 0, 0⟩
      let w := u.setStation st { u.station st with intake := (u.station st).intake.filter (fun i => !i.undecided m.hdr.seq) ++ [i] }
      w.seqCheck st m.hdr.seq = none →
      (∀ b, m.body = .append b → exec (.sessionMsg h st m) s = .next (w.appendMsg st i b).relayOut) ∧
      (∀ b, m.body = .resume b → exec (.sessionMsg h st m) s = .next (w.resumeMsg st i b).relayOut) ∧
      (m.body = .cancel → exec (.sessionMsg h st m) s = .next (w.cancelMsg st i).relayOut) ∧
      (m.body = .close → exec (.sessionMsg h st m) s = .next (w.closeMsg st i).relayOut) ∧
      (m.body = .park → exec (.sessionMsg h st m) s = .next (w.parkMsg st i).relayOut) ∧
      (m.body = .revive → exec (.sessionMsg h st m) s = .next (w.reviveMsg st i).relayOut) ∧
      (∀ b, m.body = .ringName b → exec (.sessionMsg h st m) s = .next (w.ringNameMsg st i b).relayOut)) ∧
    (let counts : Bool := c.status == St.OK && ((s.station st).find c.seq).any (fun (i : Intake) => windowed i.msg.body)
     exec (.sessionReply h st c) s = .next ((if counts then s.seqAdd st c.seq c.pos else s).finish st c.seq
       ⟨c.status, c.offset, c.result, c.pos, c.reviveDemoted⟩)) ∧
    exec (.ringWrite h st addr e) s = .next (s.setStation st ((s.station st).pushRing addr e)) ∧
    exec (.eventRelay h st v) s = .next (s.event st v.code v.handle v.arg0 v.arg1) ∧
    (let lent := s.fab.leases.any (fun p => !p.2.lessee && p.2.peer == h.src && p.2.kind == 2)
     (s.sliced = true → s.sharesSlice h.src = true → lent = true →
      let old := (mget s.fab.witnessed h.src).getD []
      let u := { s with fab := { s.fab with
        witnessed := mput s.fab.witnessed h.src (old ++ recs.filter (fun (r : Rec) => !old.any (fun (q : Rec) => q.pos == r.pos))) } }
      exec (.witnessAppend h recs) s = .next (u.fabReply h (.witnessDurable (recs.foldl (fun m (r : Rec) => max m r.pos) 0)))) ∧
     (s.sliced = true → s.sharesSlice h.src = false ∨ lent = false →
      exec (.witnessAppend h recs) s = .next (s.fabReply h (.refused St.LEASE_REFUSED)))) ∧
    (h.src = s.obj Ob.witness_peer 0 % 512 → s.obj Ob.witness_mode 0 = 1 →
      let w := s.fb.witness
      let u := s.setWitness (if posHalf pos == 0 then { w with ack0 := max w.ack0 pos, sentAt := none } else { w with ack1 := max w.ack1 pos, sentAt := none })
      exec (.witnessDurable h pos) s = .next (u.runWaits (posHalf pos) (fun x => !x.effect.isAccept))) ∧
    (let live := ((mget s.fab.witnessed h.src).getD []).filter (fun r => posHalf r.pos != posHalf pos || decide (pos ≤ r.pos))
     exec (.witnessTrim h pos) s = .next { s with fab := { s.fab with witnessed := mput s.fab.witnessed h.src live } })

/-- A lease request of a device that may have one, within what is lent and free, is granted under the next number and counted as lent; one of a
device that may not, or beyond `t4_lend_max`, is refused. A grant counts as borrowed, and the grant of a WITNESS lease that the lessee
waits for to establish its witness starts the copy (R479; log entry 211). A recalled lease of the lessee is marked, and every session
with tiles in it moves them back; a recall or a release of an unknown lease changes nothing. A release gives the lessor the lease back. A read of a
lease within its tiles answers with them; its answer puts them at their T4 addresses and ends the transfer. A write within the tiles stores them,
at the lessor in the lease and at the lessee at their T4 addresses, and answers T4_DONE, which ends the writer's transfer. A read or write that
names an unknown lease, or tiles past its end, is refused with LEASE_UNKNOWN. RELEASE frees a kept lease. -/
def Obligations.PeerTier : Prop :=
  ∀ (s : State) (w : Writer) (h : FabHdr) (kind tiles lease off count n : Nat) (l : Lease) (ts : List Tile),
    (s.reached h →
      (let allowed := if s.sliced then s.sharesSlice h.src
         else kind == 2 && s.obj Ob.fab_witness_serve 0 / 2 ^ 31 == 1 && s.obj Ob.fab_witness_serve 0 % 512 == h.src
       let lent := s.obj Ob.t4_tiles_lent 0
       (allowed = true → lent + tiles ≤ s.obj Ob.t4_lend_max 0 → tiles ≤ 11 * s.t2Free (s.fab.nextLease % 2) →
         let u := { s with fab := { s.fab with
           leases := mput s.fab.leases (h.src * 65536 + s.fab.nextLease) ⟨false, h.src, kind, tiles, none, false⟩
           nextLease := (s.fab.nextLease + 1) % 65536 } }
         exec (.leaseRequest h kind tiles) s = .next ((u.setObj Ob.t4_tiles_lent 0 (lent + tiles)).fabReply h (.leaseGrant s.fab.nextLease kind tiles))) ∧
       (allowed = false ∨ s.obj Ob.t4_lend_max 0 < lent + tiles → exec (.leaseRequest h kind tiles) s = .next (s.fabReply h (.refused St.LEASE_REFUSED)))) ∧
      (let u := { s with fab := { s.fab with leases := mput s.fab.leases (h.src * 65536 + lease % 65536) ⟨true, h.src, kind, tiles, none, false⟩ } }
       let v := u.addObj Ob.t4_tiles_borrowed 0 tiles
       let establishes : Bool := kind == 2 && v.obj Ob.witness_state 0 == 1 && h.src == v.obj Ob.witness_peer 0 % 512
       exec (.leaseGrant h lease kind tiles) s = .next (if establishes then v.copyWitness else v)) ∧
      (let key := h.src * 65536 + lease % 65536
       (mget s.fab.leases key = none →
         exec (.leaseRecall h lease) s = .next s ∧ exec (.leaseRelease h lease) s = .next s ∧
         exec (.t4Write h lease off ts) s = .next (s.fabReply h (.refused St.LEASE_UNKNOWN))) ∧
       (mget s.fab.leases key = some l → l.tiles < off + ts.length →
         exec (.t4Write h lease off ts) s = .next (s.fabReply h (.refused St.LEASE_UNKNOWN))) ∧
       (mget s.fab.leases key = some l → l.lessee = true → off + ts.length ≤ l.tiles →
         exec (.t4Write h lease off ts) s = .next ((ts.zipIdx.foldl (fun (u : State) p =>
           u.setTile (t4Addr h.src (lease % 65536) (off + p.2)) p.1) s).fabReply h (.t4Done lease St.OK))) ∧
       (mget s.fab.leases key = some l → l.lessee = true →
         let u := { s with fab := { s.fab with leases := mput s.fab.leases key { l with recalled := some s.tick } } }
         exec (.leaseRecall h lease) s = .next (u.eachSess (fun u x =>
           if x.pt.entries.any (fun p => tierOf p.2.primary == 4 && decide (p.2.primary / 2 ^ 36 % 2 ^ 16 = lease % 65536
               ∧ p.2.primary / 2 ^ 52 % 512 = h.src)) then
             (u.postMove x.half (32 + x.station % 16) (blockDesc 6 2 x false 0 (x.pt.blocks - 1)) none).1
           else u))) ∧
       (mget s.fab.leases key = some l → l.lessee = false →
         (s.fab.outs = [] → exec (.leaseRelease h lease) s = .next (s.dropLease key)) ∧
         (off + ts.length ≤ l.tiles →
           let held := ts.zipIdx.foldl (fun (m : SMap Tile) p => mput m (2 ^ 32 * key + off + p.2) p.1) s.fab.leaseTiles
           exec (.t4Write h lease off ts) s = .next (({ s with fab := { s.fab with leaseTiles := held } } : State).fabReply h (.t4Done lease St.OK))))) ∧
      (let found := s.fab.leases.find? (fun p => !p.2.lessee && p.1 % 65536 == lease && (p.2.peer == h.src || p.2.kept))
       (found = some (n, l) → off + count ≤ l.tiles →
         exec (.t4Read h lease off count) s = .next (s.fabReply h (.t4Data lease off ((List.range count).map (fun i => s.leasedTile n (off + i) l))))) ∧
       (found = none ∨ (found = some (n, l) ∧ l.tiles < off + count) →
         exec (.t4Read h lease off count) s = .next (s.fabReply h (.refused St.LEASE_UNKNOWN)))) ∧
      (let u := ts.zipIdx.foldl (fun (u : State) p => u.setTile (t4Addr h.src (lease % 65536) (off + p.2)) p.1) s
       exec (.t4Data h lease off ts) s = .next { u with fab := { u.fab with t4In := (h.tag, St.OK) :: u.fab.t4In } }) ∧
      exec (.t4Done h lease St.OK) s = .next { s with fab := { s.fab with t4In := (h.tag, St.OK) :: s.fab.t4In } }) ∧
    (s.accepts w Ob.fab_lease_command 0 (toLE 4 (lease % 65536 + 65536)) →
      s.fab.leases.find? (fun p => !p.2.lessee && p.1 % 65536 == lease % 65536 && p.2.kept) = some (n, l) →
      let u := if l.kind == 2 then { s with fab := { s.fab with witnessed := mdel s.fab.witnessed l.peer } } else s
      exec (.release w lease) s = .next ((u.dropLease n).carriedOut w Ob.fab_lease_command 0 (toLE 4 (lease % 65536 + 65536))))

/-- An accepted PROPOSE at the coordinator opens the vote on a proposal that checks; elsewhere a valid one is forwarded; one that `plat_source`
does not give is refused with PLAT_INVALID. A member with a majority and the image's clusters that has accepted no ballot accepts a valid
proposal of the next epoch. A further member's acceptance is counted; with a majority in time and before the earliest takeover the image is
committed to every device. A valid committed or fetched image of a newer epoch is adopted, and one of no newer epoch changes nothing. A vote that
is not decided in time ends with PLAT_VOTE_TIMEOUT. A device whose majors hold the domain's and whose identity stands is proposed for the next
epoch with the others that wait to join, and what it advertises is kept; other majors are refused with PLAT_VERSION. A fetch of an epoch up to
the committed one is answered with the plat. A report at the coordinator of devices that it reaches, none late in a hand-over, leaves no report
when all that was reported is reached. COMPOSITION SLICE_MEMBER takes effect; a coordinator with no duties that writes STANDALONE proposes to
leave, and one that is assigned is refused with PLAT_BUSY. -/
def Obligations.PlatRows : Prop :=
  ∀ (s : State) (w : Writer) (h : FabHdr) (img p : PlatImage) (v : PlatVote) (device minor feat lo hi identity : Nat) (d : List Nat),
    (s.accepts w Ob.plat_command 0 [1] →
      exec (.propose w none) s = .next ((s.setObj Ob.plat_status 0 St.PLAT_INVALID).reply w St.PLAT_INVALID) ∧
      (s.isCoordinator = true → s.proposalCheck img = St.OK →
        exec (.propose w (some img)) s = .next ((s.openVote img (some w)).carriedOut w Ob.plat_command 0 [1])) ∧
      (∀ c, s.isCoordinator = false → s.platValid img = true → s.coordinator = some c →
        exec (.propose w (some img)) s = .next ((s.fabSend c 0xFFFF (.platPropose 0 img)).carriedOut w Ob.plat_command 0 [1]))) ∧
    (s.reached h →
      (∀ b, b ≠ 0 → s.fab.accepted = none → img.epoch = s.platEpoch + 1 → s.platValid img = true → s.hasMajority = true → s.keepsClusters img = true →
        exec (.platPropose h b img) s = .next (({ s with fab := { s.fab with accepted := some (b, img) } } : State).fabReply h
          (.platAccept img.epoch b none))) ∧
      (s.fab.vote = some v → s.members.contains h.src = true → v.accepted.contains h.src = false →
        let u := { s with fab := { s.fab with vote := some { v with accepted := h.src :: v.accepted } } }
        (v.accepted.length + 1 < majority s.members.length → exec (.platAccept h v.img.epoch v.ballot none) s = .next u) ∧
        (majority s.members.length ≤ v.accepted.length + 1 → (firstTakeover v.img).any (fun t => decide (t - 1 ≤ s.frame)) = false →
          s.tick ≤ v.started + s.obj Ob.plat_vote_ticks 0 →
          let all := (platMembers v.img ++ u.members).foldl (fun l d => if l.contains d || d == u.device then l else l ++ [d]) []
          let x := all.foldl (fun (x : State) d => x.fabSend d 0xFFFF (.platCommit v.img)) u
          exec (.platAccept h v.img.epoch v.ballot none) s = .next ((x.platCommitted v.img).setObj Ob.plat_status 0 St.OK))) ∧
      (s.platValid img = true → s.platEpoch < img.epoch →
        exec (.platCommit h img) s = .next (s.platCommitted img) ∧ exec (.platImage h img) s = .next (s.platCommitted img)) ∧
      (img.epoch ≤ s.platEpoch → exec (.platCommit h img) s = .next s ∧ exec (.platImage h img) s = .next s) ∧
      (s.fab.plat = some p → s.isCoordinator = true →
        (lo ≤ s.domainMajor → s.domainMajor ≤ hi → device ≤ 511 →
          p.devices.any (fun d => d.device == device && d.state == 1 && d.identity != identity) = false →
          exec (.platJoin h device lo hi minor feat identity) s = .next ({ s with fab := { s.fab with
            joins := s.fab.joins.filter (fun (j : Nat × Nat) => j.1 != device) ++ [(device, identity)]
            vers := mput s.fab.vers device (lo, hi, feat) } } : State).admitJoins) ∧
        (s.domainMajor < lo ∨ hi < s.domainMajor →
          exec (.platJoin h device lo hi minor feat identity) s = .next (s.fabReply h (.refused St.PLAT_VERSION)))) ∧
      (∀ epoch, s.fab.plat = some p → epoch ≤ p.epoch → exec (.platFetch h epoch) s = .next (s.fabReply h (.platImage p))) ∧
      (s.isCoordinator = true → (∀ x ∈ d, s.reachable x = true) → (∀ r ∈ s.fab.reports, s.reachable r.1 = true) →
        (∀ p, s.fab.plat = some p → ∀ x ∈ p.handovers, x.toDev ≠ h.src) →
        exec (.peerReport h d) s = .next { s with fab := { s.fab with reports := [] } })) ∧
    (s.fab.vote = some v → s.leaveOver = false → v.started + s.obj Ob.plat_vote_ticks 0 < s.tick →
      exec .platVoteTimeout s = .next (({ s with fab := { s.fab with vote := none } } : State).setObj Ob.plat_status 0 St.PLAT_VOTE_TIMEOUT)) ∧
    (s.accepts w Ob.composition 0 (toLE 1 1) →
      exec (.compositionWrite w 1) s = .next ((s.setObj Ob.composition 0 1).platView.carriedOut w Ob.composition 0 (toLE 1 1))) ∧
    (s.accepts w Ob.composition 0 (toLE 1 0) → s.fab.plat.isSome = true → s.assigns = [] → s.obj Ob.t4_tiles_lent 0 = 0 →
      s.obj Ob.t4_tiles_borrowed 0 = 0 → s.isCoordinator = true →
      let u := { s with fab := { s.fab with leaving := some s.tick } }
      u.isCoordinator = true →
      exec (.compositionWrite w 0) s = .next ((u.proposeDevices (fun ds => ds.map (fun (d : PlatDevice) =>
        if d.device == u.device then { d with state := 3 } else d))).carriedOut w Ob.composition 0 (toLE 1 0))) ∧
    (s.accepts w Ob.composition 0 (toLE 1 0) → s.fab.plat.isSome = true → s.assigns ≠ [] →
      exec (.compositionWrite w 0) s = .next (s.reply w St.PLAT_BUSY))

/-- A hand-over message of a transfer under way brings one session with its records into this device's half, and a DRAIN says how many there
are; with all of them here and durable the hand-over is acknowledged. The acknowledgement frees what the old owner kept of the sessions. MOVED
sends a relayed request again, to the new owner. Every transfer without its DRAIN in time is given up: the requests held for it are refused, the
old owner is reported and the timeout counted. Requests of an epoch that was not committed in time are refused. A new owner of an acknowledged
hand-over pulls a session's leased tiles into its own T2, and with none left takes its page tables' tiles over and releases the lease. -/
def Obligations.HandoverRows : Prop :=
  ∀ (s : State) (h : FabHdr) (x : Session) (recs : List Rec) (i : HandoverIn) (o : HandoverOut) (k : FabOut) (m : Msg) (st n device epoch : Nat),
    (s.reached h →
      (s.fab.ins.find? (fun i => i.slice == h.slice && i.fromDev == h.src && !i.acked) = some i →
        exec (.handover h x recs) s = .next ((if (mget s.fab.remote x.station).isNone then s.remoteStation x.station h.src else s).receiveSession i x recs)) ∧
      (let u := { s with fab := { s.fab with ins := s.fab.ins.map (fun (i : HandoverIn) =>
         if i.slice == h.slice && i.fromDev == h.src && !i.acked then { i with drained := some n } else i) } }
       exec (.drain h n) s = .next u.handoverDone) ∧
      (s.fab.outs.find? (fun o => o.slice == h.slice && o.toDev == h.src && o.gone && !o.acked) = some o →
        exec (.handoverAck h) s = .next (s.freeMoved o)) ∧
      (s.fab.sent.find? (fun o => o.tag == h.tag && o.dst == h.src && o.fwd.isNone) = some k → k.body = .sessionMsg st m →
        let sid := ((s.routeOf st m.hdr.handle).map (fun r => r.sid)).getD 0xFFFFFFFF
        exec (.moved h device epoch) s = .next ((s.setRoute ⟨m.hdr.handle, st, device, sid⟩).fabSend device k.slice (.sessionMsg st m)))) ∧
    (let late := s.fab.ins.filter (fun (i : HandoverIn) => i.drained.isNone && !i.acked && decide (i.started + s.obj Ob.plat_drain_ticks 0 < s.tick))
     exec .platDrainTimeout s = .next (late.foldl (fun (u : State) i =>
       let mine (q : HeldReq) : Bool := q.hdr.slice == i.slice && (match q.body with
         | .sessionMsg _ _ => true
         | _ => false)
       let v := (u.fab.held.filter mine).foldl (fun (v : State) q => v.refuseHeld q St.PLAT_DRAIN_TIMEOUT) u
       let w : State := { v with fab := { v.fab with
         held := v.fab.held.filter (fun (q : HeldReq) => !mine q), ins := v.fab.ins.filter (fun (j : HandoverIn) => j != i) } }
       (w.reportPeers [i.fromDev]).bump Ob.cnt_drain_timeout i.toHalf) s)) ∧
    (let stale (q : HeldReq) : Bool := decide (s.platEpoch < q.hdr.epoch) && decide (q.arrival + s.obj Ob.plat_vote_ticks 0 < s.tick)
     exec .platEpochStale s = .next ((s.fab.held.filter stale).foldl (fun (u : State) q => u.refuseHeld q St.PLAT_EPOCH_STALE)
       { s with fab := { s.fab with held := s.fab.held.filter (fun (q : HeldReq) => !stale q) } })) ∧
    (s.fab.ins.find? (fun i => i.acked) = some i →
      let inLease (x : Session) : Bool := x.pt.entries.any (fun p => tierOf p.2.primary == 4
        && decide (p.2.primary / 2 ^ 36 % 2 ^ 16 = i.lease ∧ p.2.primary / 2 ^ 52 % 512 = i.fromDev))
      ((i.got.filterMap (fun n => s.bySid n)).find? inLease = some x →
        exec .handoverPull s = .next (s.postMove x.half 48 (blockDesc 6 2 x false 0 (x.pt.blocks - 1)) none).1) ∧
      ((i.got.filterMap (fun n => s.bySid n)).find? inLease = none →
        let u : State := { s with fab := { s.fab with ins := s.fab.ins.filter (fun (j : HandoverIn) => j != i) } }
        let v := i.got.foldl (fun v n => v.pullPt (sidIndex n)) u
        exec .handoverPull s = .next ((v.fabSend i.fromDev i.slice (.leaseRelease i.lease)).dropLease (i.fromDev * 65536 + i.lease))))

/-- An ASSOCIATE whose versions meet opens the lowest free association of eight and answers with its version, the features of both and a
nonce; without one free it answers OPDUN_BUSY, and a client whose versions do not meet gets VERSION_MISMATCH. A capability that PRESENT
completes, in one part or with the last of its parts in order, is judged with the association's nonce, which is used up; one that is good
becomes the association's. OD_RELEASE answers OK and ends the association, DISCOVER answers with the device's fingerprint, part, stepping
and node. An association that is silent too long ends, and a capability whose next part does not come in time is dropped with
OPDUN_FRAGMENT. -/
def Obligations.FieldRequests : Prop :=
  ∀ (s : State) (f : OpdunHdr) (x : Assoc) (part : Octets) (lo hi minor feat a : Nat),
    (s.served f.linkLocal f.hopLimit →
      let u := s.arrivalWakes 2
      let reply (number status : Nat) (body : Octets) : OpdunReply := ⟨2, number, f.client, f.port, f.req, f.index, f.sub, status, body⟩
      (minor < 65536 → 1 ≤ min hi 2 → lo ≤ min hi 2 →
        (∀ n, mpickFree u.mgmt.assocs 1 9 = some (n + 1) →
          let feats := Nat.land feat (if min hi 2 = 2 then 7 else 1)
          let nonce := toLE 16 u.draw.1
          exec (.associate f lo hi minor feat) s = .next ((u.draw.2.setAssoc (n + 1)
            ⟨f.client, f.port, min hi 2, 0, feats, nonce, u.draw.2.tick, [], none, none⟩).opdunReply
              (reply (n + 1) St.OK (toLE 2 (min hi 2) ++ toLE 2 0 ++ toLE 8 feats ++ nonce)))) ∧
        (mpickFree u.mgmt.assocs 1 9 = none → exec (.associate f lo hi minor feat) s = .next (u.opdunReply (reply 0 St.OPDUN_BUSY [])))) ∧
      (min hi 2 < lo → exec (.associate f lo hi minor feat) s = .next (u.opdunReply (reply 0 St.VERSION_MISMATCH []))) ∧
      exec (.discover f) s = .next (u.opdunReply ⟨5, 0, f.client, f.port, f.req, f.index, f.sub, St.OK,
        idFingerprint ++ toLE 2 (u.obj Ob.id_part 0) ++ toLE 1 (u.obj Ob.id_stepping 0) ++ toLE 1 u.node⟩)) ∧
    (s.servedOf f x →
      let u := s.asked f x
      let y : Assoc := { x with lastTick := (s.arrivalWakes 2).tick, port := f.port }
      let judged (o : Octets) : State :=
        let st := u.capCheck o 1 y.client y.nonce
        let v := u.draw.2.setAssoc f.assoc { y with nonce := toLE 16 u.draw.1, frag := none, cap := if st = St.OK then some (parseCap o) else y.cap }
        (v.capLog st 1 f.assoc o).reply (odWriter f) st
      exec (.odRelease f) s = .next ((u.reply (odWriter f) St.OK).endAssoc f.assoc) ∧
      (x.features / 2 % 2 = 1 →
        (x.frag = none → f.frag = 0 → f.more = false → exec (.present f part) s = .next (judged part)) ∧
        (x.frag = none → f.frag = 0 → f.more = true →
          exec (.present f part) s = .next (u.setAssoc f.assoc { y with frag := some ⟨f.req, 1, part, u.tick⟩ })) ∧
        (∀ b, x.frag = some b → b.req = f.req → u.fragLate b = false → f.frag = b.next → f.more = false →
          exec (.present f part) s = .next (judged (b.bytes ++ part))))) ∧
    (mget s.mgmt.assocs a = some x →
      (x.lastTick + s.obj Ob.opdun_idle_ticks 0 < s.tick → exec (.opdunIdleTimeout a) s = .next (s.endAssoc a)) ∧
      (s.tick ≤ x.lastTick + s.obj Ob.opdun_idle_ticks 0 → exec (.opdunIdleTimeout a) s = .next s) ∧
      (∀ b, x.frag = some b → b.last + s.obj Ob.opdun_frag_ticks 0 < s.tick →
        exec (.opdunFragmentTimeout a) s = .next ((s.setAssoc a { x with frag := none }).reply (.opdun a b.req 0 0) St.OPDUN_FRAGMENT)))

/-- A command of the legacy mailbox that is served answers from the objects that R534 names: the identity, the versions, a temperature in
degrees, the power in milliwatts, the oldest error record, a register of the alias window, the fence map and the plat's epoch and state,
each where its reads are answered OK. CLEAR_LOG, WRITE_REG, FW_CHUNK and FW_COMMIT are writes of their objects, and FW_VERIFY is the
verify command of the firmware. -/
def Obligations.MailboxRows : Prop :=
  ∀ (s : State) (m : MailBlock) (v1 v2 v3 : Octets), s.servedMail m →
    let u := s.arrivalWakes 2
    let r (cmd a0 a1 : Nat) (d : Octets) : State := u.mailReply ⟨cmd, m.seq, a0, a1, 0, d⟩
    let reads (cmd index sub : Nat) (v : Octets) : Prop := u.readObject (.legacy cmd m.seq) index sub = (St.OK, v, u)
    (reads 1 0x1000 3 v1 → reads 1 0x1000 4 v2 → reads 1 0x1000 8 v3 →
      exec (.getId m) s = .next (r 1 (ofLE v1 + 65536 * ofLE v2) (ofLE v3) [])) ∧
    (reads 2 0x1010 1 v1 → reads 2 0x1010 2 v2 → exec (.getVersion m) s = .next (r 2 (ofLE v1) (ofLE v2) [])) ∧
    (m.arg0 < 2 → reads 3 0x5010 (0x0B + m.arg0) v1 →
      exec (.getTemp m) s = .next (r 3 (twos 32 (Int.fdiv (signed 32 (ofLE v1)) 16384)) 0 [])) ∧
    (reads 4 0x5010 0x0D v1 → exec (.getPower m) s = .next (r 4 (ofLE v1 * 1000 / 65536) 0 [])) ∧
    (∀ t, u.readObject (.legacy 5 m.seq) Ob.err_read.base Ob.err_read.subLo = (St.OK, v1, t) →
      exec (.readLog m) s = .next (t.mailReply ⟨5, m.seq, 0, 0, 0, v1.take 32⟩)) ∧
    (exec (.clearLog m) s = .next (u.writeObject (.legacy 6 m.seq) Ob.err_clear.base Ob.err_clear.subLo (toLE 2 m.arg0))) ∧
    (m.arg0 < 256 →
      (reads 7 (0xC000 + m.arg0) 1 v1 → exec (.readReg m) s = .next (r 7 (ofLE v1) 0 [])) ∧
      exec (.writeReg m) s = .next (u.writeObject (.legacy 8 m.seq) (0xC000 + m.arg0) 1 (toLE 4 m.arg1))) ∧
    exec (.fwChunk m) s = .next (u.writeObject (.legacy 9 m.seq) 0x7010 2 (toLE 8 m.arg0 ++ m.data)) ∧
    (∃ t, exec (.fwCmdVerify (.legacy 10 m.seq)) u = .next t ∧ exec (.fwVerify m) s = .next t) ∧
    exec (.fwCommit m) s = .next (u.writeObject (.legacy 11 m.seq) 0x7010 3 [3]) ∧
    (reads 12 Ob.cluster_fence_map.base Ob.cluster_fence_map.subLo v1 → exec (.getFence m) s = .next (r 12 0 0 v1)) ∧
    (reads 13 Ob.plat_epoch.base Ob.plat_epoch.subLo v1 → reads 13 Ob.plat_state.base Ob.plat_state.subLo v2 →
      exec (.getPlat m) s = .next (r 13 (ofLE v1 % 2 ^ 32) (ofLE v2) []))

/-- An accepted TK_COMMIT of a slot with both halves of its key, of slot 0 or without the owner's purpose, makes the key the slot's, shows its
fingerprint and logs the change, and in slot 0 the tile is owned; TK_CLEAR empties a slot, and that of slot 0 ends ownership where it held a key. A part of a capability is
kept until all 3,437 bytes are there; one that then checks becomes the station's, with a new nonce. The firmware commands work on the slot that
does not run: STAGE fills it; a chunk is put into it at its offset; VERIFY judges what is staged, and what is no image is FW_CORRUPT; ACTIVATE
makes a verified one a trial that boots next, and answers FW_STATE for any other; ERASE empties the slot. CONFIRM keeps a running trial and raises
the rollback floor; a trial not confirmed in time restarts the device. A nonce asks for a report, which ATTEST_READY signs. A calendar write takes
effect at the next calendar second, and a second without one moves the calendar and steps or slews the tile time; a step is logged (that this
one is too is log entry 215). -/
def Obligations.KeysAndFirmware : Prop :=
  ∀ (s : State) (w : Writer) (k n v : Nat) (part lo hi nonce : Octets) (src : Option Octets) (im : FwImage),
    (s.accepts w Ob.tk_command (k % 16) [1] → s.lateClaim w (k % 16) = false → (s.keySlot (k % 16)).lo = some lo → (s.keySlot (k % 16)).hi = some hi →
      (k % 16 = 0 ∨ s.obj Ob.tk_purpose (k % 16) % 2 = 0) →
      let fp := Config.shake256 (lo ++ hi) 32
      let u := ((s.setKeySlot (k % 16) ⟨none, none, some (lo ++ hi)⟩).setStr Ob.tk_fingerprint (k % 16) fp).setObj Ob.tk_state (k % 16) 2
      let u := (u.measure Ev.TRUSTED_KEY_CHANGED 3 (writerSource w) (k % 16) fp).tileEvent Ev.TRUSTED_KEY_CHANGED (k % 16) 0
      exec (.tkCommit w k) s = .next ((if k % 16 = 0 then ((u.setObj Ob.sec_state 0 1).measure Ev.OWNER_CHANGED 7 (writerSource w) 0 fp).tileEvent
        Ev.OWNER_CHANGED (ofLE (slice fp 0 8)) 0 else u).carriedOut w Ob.tk_command (k % 16) [1])) ∧
    (s.accepts w Ob.tk_command (k % 16) [2] →
      let zero := List.replicate 32 (0 : Byte)
      let u := ((s.setKeySlot (k % 16) ⟨none, none, none⟩).setStr Ob.tk_fingerprint (k % 16) zero).setObj Ob.tk_state (k % 16) 0
      let u := (u.measure Ev.TRUSTED_KEY_CHANGED 3 (writerSource w) (k % 16) zero).tileEvent Ev.TRUSTED_KEY_CHANGED (k % 16) 0
      exec (.tkClear w k) s = .next ((if k % 16 = 0 ∧ (s.keySlot 0).key.isSome = true then ((u.setObj Ob.sec_state 0 0).measure Ev.OWNER_CHANGED 7 (writerSource w) 0 zero).tileEvent
        Ev.OWNER_CHANGED 0 0 else u).carriedOut w Ob.tk_command (k % 16) [2])) ∧
    (s.accepts w Ob.stn_cap_stage (k % 256) part →
      let c := (mget s.mgmt.caps (k % 256)).getD ⟨[], none⟩
      let all := c.staged ++ part
      (all.length < 3437 → exec (.stnCapStage w k part) s = .next (((({ s with mgmt := { s.mgmt with
        caps := mput s.mgmt.caps (k % 256) { c with staged := all } } } : State).setObj Ob.stn_cap_state (k % 256) 1)).carriedOut w Ob.stn_cap_stage (k % 256) part)) ∧
      (3437 ≤ all.length → s.capCheck all 2 (k % 256) (s.str Ob.stn_cap_nonce (k % 256)) = St.OK →
        let u := (s.draw.2.setStr Ob.stn_cap_nonce (k % 256) (toLE 16 s.draw.1)).capLog St.OK (writerSource w) (k % 256) all
        exec (.stnCapStage w k part) s = .next (((({ u with mgmt := { u.mgmt with
          caps := mput u.mgmt.caps (k % 256) ⟨[], some (parseCap all)⟩ } } : State).setObj Ob.stn_cap_state (k % 256) 2)).carriedOut w Ob.stn_cap_stage (k % 256) part))) ∧
    (let x := s.fwSlot s.spareSlot
     let logged (t : State) (code st : Nat) : State :=
       ((t.setObj Ob.fw_status 0 st).mpLogAdd st 0xFF (writerSource w) s.spareSlot []).carriedOut w Ob.fw_command 0 [BitVec.ofNat 8 code]
     (s.accepts w Ob.fw_command 0 [1] → exec (.stage w src) s = .next (logged (s.setFwSlot s.spareSlot ⟨1, none, bputs [] 0 (src.getD [])⟩) 1 St.OK)) ∧
     (s.accepts w Ob.fw_chunk 0 part →
       exec (.fwChunkWrite w part) s = .next ((s.setFwSlot s.spareSlot ⟨1, none,
         bputs (if x.state = 1 then x.bytes else []) (ofLE (slice part 0 8)) (part.drop 8)⟩).carriedOut w Ob.fw_chunk 0 part)) ∧
     (s.accepts w Ob.fw_command 0 [2] → x.state = 1 → fwImageOf x.bytes = none →
       exec (.fwCmdVerify w) s = .next (logged (s.setFwSlot s.spareSlot { x with image := none, state := 5 }) 2 St.FW_CORRUPT)) ∧
     (s.accepts w Ob.fw_command 0 [2] → x.state = 1 → fwImageOf x.bytes = some im →
       exec (.fwCmdVerify w) s = .next (logged (s.setFwSlot s.spareSlot { x with image := some im, state := if s.fwCheck im = St.OK then 2 else 5 }) 2 (s.fwCheck im))) ∧
     (s.accepts w Ob.fw_command 0 [3] → x.state = 2 →
       let u := s.setFwSlot s.spareSlot { x with state := 3 }
       exec (.fwActivate w) s = .next (logged { u with mgmt := { u.mgmt with bootSlot := s.spareSlot, trialCount := 3 } } 3 St.OK)) ∧
     (s.accepts w Ob.fw_command 0 [5] → exec (.erase w) s = .next (logged (s.setFwSlot s.spareSlot ⟨0, none, []⟩) 5 St.OK)) ∧
     (s.accepts w Ob.fw_command 0 [3] → x.state ≠ 2 → exec (.fwActivate w) s = .next ((s.setObj Ob.fw_status 0 St.FW_STATE).reply w St.FW_STATE))) ∧
    (s.mgmt.running = some n → (s.fwSlot n).state = 3 →
      (s.accepts w Ob.fw_command 0 [4] →
        let floor := max s.floorNow (s.obj Ob.fw_svn 0)
        let u := s.setFwSlot n { s.fwSlot n with state := 4 }
        let t : State := { u with mgmt := { u.mgmt with bootFloor := floor, vbatFloor := some floor, trialCount := 0 } }
        exec (.confirm w) s = .next ((((t.setObj Ob.fw_floor 0 floor).setObj Ob.fw_status 0 St.OK).mpLogAdd St.OK 0xFF (writerSource w) n []).carriedOut w Ob.fw_command 0 [4])) ∧
      (s.mgmt.trialStart + s.obj Ob.fw_trial_ticks 0 ≤ s.tick → s.pwr.held = false → exec .fwTrialTimeout s = .next s.restartWarm) ∧
      (s.tick < s.mgmt.trialStart + s.obj Ob.fw_trial_ticks 0 → exec .fwTrialTimeout s = .next s)) ∧
    (s.accepts w Ob.att_nonce 0 nonce → s.obj Ob.att_state 0 ≠ 1 →
      exec (.attNonceWrite w nonce) s = .next ((({ s with mgmt := { s.mgmt with attNonce := nonce, attStart := s.tick } } : State).setObj
        Ob.att_state 0 1).carriedOut w Ob.att_nonce 0 nonce)) ∧
    (s.obj Ob.att_state 0 = 1 → exec .attestReady s = .next (({ s with
      mgmt := { s.mgmt with attReport := s.attestBody ++ Config.mldsaSign "DTRM-ATT-1" s.attestBody s.free }, free := s.free + 1 } : State).setObj Ob.att_state 0 2)) ∧
    (s.accepts w Ob.cal_set 0 (toLE 8 v) →
      exec (.calSet w v) s = .next (({ s with mgmt := { s.mgmt with calPending := some (v % 2 ^ 64, w) } } : State).carriedOut w Ob.cal_set 0 (toLE 8 v))) ∧
    (s.mgmt.calPending = none →
      let calendar := s.mgmt.calendar + 1000000000
      let err : Int := (calendar : Int) - timeOf s.mgmt s.tick
      (100000 < err → exec .calendarSecond s = .next (({ s with mgmt := { s.mgmt with
        calendar := calendar, calTb := s.tick, calSb := calendar, calEb := 0 } } : State).bump Ob.cnt_cal_step 0 |>.mpLogAdd St.OK 0xFF 3
          (timeOf s.mgmt s.tick) [])) ∧
      (err ≤ 100000 → exec .calendarSecond s = .next { s with mgmt := { s.mgmt with
        calendar := calendar, calTb := s.tick, calSb := timeOf s.mgmt s.tick, calEb := max (-100000) err } })) ∧
    (s.mgmt.calPending = some (v, w) →
      let u : State := { s with mgmt := { s.mgmt with calendar := v, calPending := none, calTb := s.tick, calSb := v, calEb := 0 } }
      exec .calendarSecond s = .next (((u.bump Ob.cnt_cal_step 0).setObj Ob.cal_valid 0 1).measure St.OK 7 (writerSource w) s.timeNow (toLE 8 s.timeNow ++ toLE 8 v)))

/-- An accepted DEEP_SLEEP of a device that may sleep enters deep sleep, and one that may not answers POWER_BUSY; under autonomous sleep the
device enters it after deep_sleep_ticks of quiet, and a cause of Table 17-3 ends it. In a wake window of a half that is awake, the
clusters that want to wake are admitted up to the allowance, the others deferred, and what is left of the allowance puts clusters to
sleep; an admitted cluster is awake 50 ticks later. A power reading reached by a limit pulls one lever, one below every limit's release
point lets one go. A thermal reading is recorded, and a device held for heat starts again once it has cooled; 25 trip readings of one sensor in
a row stop the device for heat (the first such sensor is named: log entry 216), and the hardware trip latches at 120 degrees. -/
def Obligations.PowerRows : Prop :=
  ∀ (s : State) (w : Writer) (cause pin half n d k : Nat) (r : PowerReading) (x : Sensors),
    (s.accepts w Ob.power_command 0 [1] →
      (s.powerState = 0 → s.deepReady w = true → exec (.deepSleep w) s = .next ((s.setObj Ob.power_status 0 St.OK).reply w St.OK).enterDeep) ∧
      (s.powerState ≠ 0 ∨ s.deepReady w = false → exec (.deepSleep w) s = .next ((s.setObj Ob.power_status 0 St.POWER_BUSY).reply w St.POWER_BUSY))) ∧
    (s.powerState = 0 → s.powerMode 0 = 1 → s.powerMode 1 = 1 → s.obj Ob.deep_sleep_ticks 0 ≠ 0 → s.deepReady .device = true →
      s.pwr.quietSince = some d →
      (d + s.obj Ob.deep_sleep_ticks 0 ≤ s.tick → exec .autonomousDeepSleep s = .next s.enterDeep) ∧
      (s.tick < d + s.obj Ob.deep_sleep_ticks 0 → exec .autonomousDeepSleep s = .next s)) ∧
    (cause = 1 ∨ cause = 2 ∨ (cause = 3 ∧ pin < 8 ∧ s.obj Ob.stake_wake_mask 0 / 2 ^ pin % 2 = 1) ∨
        (cause = 4 ∧ s.pwr.deadline = some d ∧ d ≤ s.tick + 500000) →
      exec (.deepSleepWake cause pin) s = .next (s.wakeBy cause)) ∧
    (half < 2 → s.tick % 25 = 0 → s.deep = false → s.pwr.held = false →
      let allowed := if s.obj Ob.pwr_levers 0 / 2 % 2 = 1 then 0 else s.wakeAllowance half
      let wants := s.wakeOrder half s.wakeWanted
      let go := wants.take allowed
      let stay := (wants.drop allowed).filter (fun q => (mget s.pwr.deferred q).isNone)
      let u := s.setPwr { s.pwr with
        waking := go.foldl (fun m q => mput m q (s.tick + 50)) s.pwr.waking
        deferred := stay.foldl (fun m q => mput m q ()) s.pwr.deferred }
      let u := (u.addObj Ob.cnt_cluster_wakes half go.length).addObj Ob.cnt_wake_deferred half stay.length
      let u := if stay = [] then u else u.pulse (1 + half)
      let down := (u.wakeOrder half (fun q => (mget u.pwr.sleeps q).isSome && !u.asleep q && u.clusterIdle q)).take (allowed - go.length)
      exec (.wakeWindow half) s = .next ((down.foldl State.sleepCluster u).addObj Ob.cnt_cluster_sleeps half down.length)) ∧
    (mget s.pwr.waking n = some d →
      (d ≤ s.tick → exec (.clusterWakeDone n) s = .next (s.setPwr { s.pwr with waking := mdel s.pwr.waking n, asleep := mdel s.pwr.asleep n, deferred := mdel s.pwr.deferred n, idle := mdel s.pwr.idle n })) ∧
      (s.tick < d → exec (.clusterWakeDone n) s = .next s)) ∧
    (let u := s.setObj Ob.tile_power 0 (r.now % 2 ^ 32)
     let u := u.setPwr { u.pwr with overRun := if u.sustained20 < 20 * r.mean25 then u.pwr.overRun + 1 else 0 }
     let lims := u.limits r
     let kept := u.pwr.limiting.filter (fun i => lims.any (fun y => y.1 == i && decide (97 * y.2.2 ≤ 2000 * y.2.1)))
     let limiting := (kept ++ (lims.filter (fun y => decide (y.2.2 ≤ 20 * y.2.1))).map Prod.fst).eraseDups
     let v := u.setPwr { u.pwr with limiting := limiting }
     let off : Prop := ∀ y ∈ lims, 20 * y.2.1 ≤ y.2.2
     (off → limiting = [] → exec (.powerGovernorTick r) s = .next (v.setPwr { v.pwr with told := false }).releaseLever) ∧
     (limiting ≠ [] → off ∨ u.leversOut = false → exec (.powerGovernorTick r) s = .next v.pullLever) ∧
     (limiting ≠ [] → u.leversOut = true → ∀ y, lims.find? (fun y => decide (y.2.2 < 20 * y.2.1)) = some y →
       let t := v.pullLever.bump Ob.cnt_power_limited_ticks 0
       exec (.powerGovernorTick r) s = .next (if t.pwr.told then t else (t.setPwr { t.pwr with told := true }).tileEvent Ev.POWER_LIMITED (y.2.2 / 20 / 65536) 0))) ∧
    (let top := max (hottestOf (x.junctions.take 64)) (hottestOf ((x.junctions.drop 64).take 64))
     let hot : Bool := decide (380 < top)
     let u := (x.junctions.take 128).zipIdx.foldl (fun (u : State) p => u.setObjAt Ob.tj_sensor (p.2 / 64) (p.2 % 64) (quarterQ p.1)) s
     let u := (u.setObj Ob.tj_max_h0 0 (quarterQ (hottestOf (x.junctions.take 64)))).setObj Ob.tj_max_h1 0 (quarterQ (hottestOf ((x.junctions.drop 64).take 64)))
     let u := (x.stackTemps.take 8).zipIdx.foldl (fun (u : State) p => u.setObjAt Ob.hbm_temp 0 p.2 (quarterQ p.1)) u
     let u := ((u.setObj Ob.mp_temp_h0 0 (quarterQ x.diode0)).setObj Ob.mp_temp_h1 0 (quarterQ x.diode1)).setObj Ob.vbat 0 (x.vbat % 2 ^ 32)
     let told := u.bump Ob.cnt_thermal_throttle_ticks 0
     let v := if hot then
         (if s.hottest ≤ 95 * 65536 then told.tileEvent Ev.THERMAL_THROTTLE (x.junctions.idxOf top / 64) (x.junctions.idxOf top % 64) else told)
       else u
     let v := v.setObj Ob.thermal_state 0 (if v.pwr.held then 2 else if hot then 1 else 0)
     let runs := (x.stackTemps.take 8).zipIdx.map (fun p => (p.2, if 420 ≤ p.1 then (mget v.pwr.stackRun p.2).getD 0 + 1 else 0))
     let v := v.setPwr { v.pwr with stackRun := runs, tripRun := (x.junctions.take 128).zipIdx.filterMap (fun p =>
       if 440 ≤ p.1 then some (p.2, (mget v.pwr.tripRun p.2).getD 0 + 1) else none) }
     let v := (runs.filter (fun p => p.2 == 25000)).foldl (fun (v : State) p => v.stackFail p.1) v
     exec (.thermalCheck x) s = .next (if v.pwr.held && !hot then
         ((v.setPwr { v.pwr with held := false }).setObj Ob.thermal_state 0 0).boot false v.strapRecovery
       else v)) ∧
    (s.pwr.tripRun.find? (fun p => decide (25 ≤ p.2)) = some (k, n) → s.pwr.held = false →
      let u := ((s.tileEvent Ev.THERMAL_TRIP k 0).bump Ob.cnt_thermal_trip 0).restartKeep 3
      exec .thermalTrip s = .next ((u.setPwr { u.pwr with held := true }).setObj Ob.thermal_state 0 2)) ∧
    (120 * 65536 ≤ s.hottest → exec .hwTrip s = .next (s.setPwr { s.pwr with hwTrip := true })) ∧
    ((∀ p ∈ s.pwr.tripRun, p.2 < 25) ∨ s.pwr.held = true → exec .thermalTrip s = .next s) ∧ (s.hottest < 120 * 65536 → exec .hwTrip s = .next s)

/-- RESET_N, a management watchdog and the warm reset of an accepted command restart the device as R566 to R571 say, and a reset of one half,
where nothing live is on it, restarts that half; a command that may not run answers POWER_BUSY. POWER_ON sets the datum counter to 0,
records its kind and keeps what the flash holds. The straps are sampled once, 5,000 ticks after the reset, and the device starts. Each
eighth of a slot round shows its field on the STAKE pins. A supply fault loses what it feeds; a core voltage moves 5 mV at a time, at
most once in 125 ticks, within 650 to 850 mV. A glitch of a pin, a neighbour solicitation and a stopped crystal are counted, answered and
recorded. -/
def Obligations.ResetRows : Prop :=
  ∀ (s : State) (w : Writer) (h levels : Nat) (up : Bool) (cons : List (Nat × Nat)),
    exec .resetN s = .next (s.restartKeep 2) ∧
    exec .managementWatchdog s = .next s.restartWarm ∧
    (∃ t, exec .powerOn s = .next t ∧ t.tick = 0 ∧ t.obj Ob.id_last_reset 0 = 1 ∧ t.dict.flash = s.dict.flash ∧ t.pending = s.pending) ∧
    (s.accepts w Ob.power_command 0 [2] →
      (s.pwr.held = false → exec (.warmReset w) s = .next ((s.setObj Ob.power_status 0 St.OK).reply w St.OK).restartWarm) ∧
      (s.pwr.held = true → exec (.warmReset w) s = .next ((s.setObj Ob.power_status 0 St.POWER_BUSY).reply w St.POWER_BUSY))) ∧
    (s.accepts w Ob.power_command 0 [3] →
      (s.halfBusy 0 = false → exec (.resetHalf0 w) s = .next (((s.setObj Ob.power_status 0 St.OK).reply w St.OK).restartHalf 0)) ∧
      (s.halfBusy 0 = true → exec (.resetHalf0 w) s = .next ((s.setObj Ob.power_status 0 St.POWER_BUSY).reply w St.POWER_BUSY))) ∧
    (s.accepts w Ob.power_command 0 [4] →
      (s.halfBusy 1 = false → exec (.resetHalf1 w) s = .next (((s.setObj Ob.power_status 0 St.OK).reply w St.OK).restartHalf 1)) ∧
      (s.halfBusy 1 = true → exec (.resetHalf1 w) s = .next ((s.setObj Ob.power_status 0 St.POWER_BUSY).reply w St.POWER_BUSY))) ∧
    (s.pwr.strapped = false → s.pwr.since + 5000 ≤ s.tick →
      let v := levels % 256
      let u := (s.setPwr { s.pwr with strapped := true }).setObj Ob.strap_value 0 v
      let u := if (mget u.dict.flash (objKey Ob.plat_device 0 0)).isNone then u.setObj Ob.plat_device 0 (v / 32) else u
      let u := if 2 ≤ v / 8 % 4 then u.report 0x287 clsProtocol 0x1181 else u
      exec (.strapSample levels) s = .next (u.boot true (v / 8 % 4 != 0))) ∧
    (s.tick % 125 = 0 → s.deep = false → s.pwr.since + 5250 ≤ s.tick - s.tick % 1000 →
      (∀ slot, s.tick % 1000 / 125 = slot → slot ≠ 0 → exec .stakeSlot s = .next (s.setPwr { s.pwr with pins := s.stakeField slot })) ∧
      (s.tick % 1000 / 125 = 0 → s.powerState = 1 → s.pwr.lastFrame = true → exec .stakeSlot s = .next s.deepNow) ∧
      (s.tick % 1000 / 125 = 0 → s.powerState ≠ 1 ∨ s.pwr.lastFrame = false →
        let u := s.setPwr { s.pwr with live := !s.pwr.live, lastFrame := s.powerState == 1 }
        exec .stakeSlot s = .next (u.setPwr { u.pwr with pins := u.stakeField 0 + 128 }))) ∧
    (h < 2 → s.fb.half0Lost = false → s.fb.half1Lost = false → exec (.supplyFault (.vddCore h) cons) s = .next (s.halfLost h cons)) ∧
    (exec (.supplyFault .vaux cons) s = exec .powerOn s) ∧
    (exec (.supplyFault .hbm cons) s = .next (s.forN 8 State.stackFail)) ∧
    (exec (.supplyFault .ddr5 cons) s = .next (s.forN 24 State.failChannel)) ∧
    (exec (.supplyFault .serdes cons) s = .next (s.forN 16 (fun s p => (s.portReport p clsPartFailed).portDown p))) ∧
    (exec (.supplyFault .ucie cons) s = .next (s.forN 8 (fun s m => (s.reportOpen (ucieSource m) clsPartFailed).ucieDown m))) ∧
    (let v := if up then s.pwr.core0 + 5 else s.pwr.core0 - 5
     s.pwr.step0 + 125 ≤ s.tick → 650 ≤ v → v ≤ 850 → s.wakeWindowBusy 0 = false →
      exec (.coreVoltageStep 0 up) s = .next (s.setPwr { s.pwr with core0 := v, step0 := s.tick })) ∧
    (let v := if up then s.pwr.core1 + 5 else s.pwr.core1 - 5
     s.pwr.step1 + 125 ≤ s.tick → 650 ≤ v → v ≤ 850 → s.wakeWindowBusy 1 = false →
      exec (.coreVoltageStep 1 up) s = .next (s.setPwr { s.pwr with core1 := v, step1 := s.tick })) ∧
    exec (.pinGlitch true) s = .next (s.bump Ob.cnt_glitch_reset_n 0) ∧ exec (.pinGlitch false) s = .next (s.bump Ob.cnt_glitch_stake 0) ∧
    (s.mgmtUp = true → exec .neighbourDiscovery s = .next { s with mgmt := { s.mgmt with ndAnswers := s.mgmt.ndAnswers + 1 } }) ∧
    exec .calendarOscillatorStopped s = .next ((({ s with mgmt := { s.mgmt with calendar := 0 } } : State).setObj Ob.cal_valid 0 0).tileEvent
      Ev.CALENDAR_INVALID 0 0)

/-- DATUM_TICK moves the 64-bit datum counter by one tick, and times what deep sleep and a channel's rebuild wait for. A frame boundary that is
due ends frame F, after the descriptors that it read are checked, and starts frame F + 1 where F ends, at no cost in ticks; one that is not due
changes nothing. The loss of a half of a whole device loses it once; missing heartbeats of the chain lose half 1, and a second loss of heartbeats
changes nothing. The return of the chain records the errors kept meanwhile and ends the absence of both mirrors. ADOPT of records that check takes
them up, and of others answers ADOPT_REFUSED in its status. -/
def Obligations.FramesAndLosses : Prop :=
  ∀ (s : State) (w : Writer) (h : Nat) (cons : List (Nat × Nat)) (descs : List (Nat × Octets)) (outs : List RowOutcome) (book : Option Octets)
      (recs : List Rec),
    (∃ t, exec .datumTick s = .next t ∧ t = { s with tick := (s.tick + 1) % 2 ^ 64, pwr := t.pwr, fb := t.fb, dict := t.dict }) ∧
    (s.boundaryDue = true →
      let u := descs.foldl (fun (u : State) p => u.readDesc p.1 p.2) s
      ∃ t, exec (.frameBoundary descs cons outs) s = .next t ∧ t.tick = s.tick ∧ t.frame = s.frame + 1 ∧ t.frameStart = u.frameEnd ∧
        t.pending = s.pending) ∧
    (s.boundaryDue = false → exec (.frameBoundary descs cons outs) s = .next s) ∧
    (h < 2 → s.fb.half0Lost = false → s.fb.half1Lost = false → exec (.halfLost h cons) s = .next (s.halfLost h cons)) ∧
    (s.fb.half0Lost = true ∨ s.fb.half1Lost = true → exec (.halfLost h cons) s = .next s) ∧
    (s.fb.chainDown = false → s.fb.half0Lost = false →
      let u : State := { s with fb := { s.fb with chainDown := true } }
      exec (.chainHeartbeatLoss cons) s = .next (if s.fb.half1Lost then u else u.halfLost 1 cons)) ∧
    (s.fb.chainDown = true →
      exec (.chainHeartbeatLoss cons) s = .next s ∧
      let u := (({ s with fb := { s.fb with chainDown := false } } : State).setErr { s.fb.err with kept := [] })
      let v := s.fb.err.kept.foldl State.recordErr u
      exec .chainReturn s = .next ((v.setBook 0 { v.book 0 with mirrorAbsent := false }).setBook 1
        { v.book 1 with mirrorAbsent := false }).mirrorBack) ∧
    (s.accepts w Ob.fb_adopt_command 0 [1] →
      (book.bind parseBook = some recs →
        exec (.adopt w book) s = .next (((s.adopt recs).setObj Ob.fb_adopt_status 0 St.OK).carriedOut w Ob.fb_adopt_command 0 [1])) ∧
      (book.bind parseBook = none → exec (.adopt w book) s = .next ((s.setObj Ob.fb_adopt_status 0 St.ADOPT_REFUSED).carriedOut w Ob.fb_adopt_command 0 [1])))

/-- A step of the block takes the command at the front of its queue and answers what the command does on the state with the queue's rest;
with an empty queue the block idles and nothing changes (the model's choice, log entry 1). -/
def Obligations.StepTakesTheFront : Prop :=
  ∀ (s : State) (c : Instr) (r : List Instr),
    (s.pending = c :: r → step s = exec c { s with pending := r }) ∧ (s.pending = [] → step s = .next s)

/-- At reset the datum counter, the frame and its start are 0, no command waits, no session, station, tile, lease or synchronisation object
exists, no traverse runs and no hold is planned, the invariant holds, every core's and cluster's store reads 0 and keeps the canonical
form of its memory, both halves are whole, and every object but the four of log entry 3 reads its default. -/
def Obligations.ResetState : Prop :=
  State.reset.Inv ∧ State.reset.tick = 0 ∧ State.reset.frame = 0 ∧ State.reset.frameStart = 0 ∧ State.reset.pending = [] ∧
    (∀ n, State.reset.sess n = none) ∧ (∀ n, State.reset.bySid n = none) ∧ State.reset.attached = [] ∧ (∀ a, mget State.reset.tier.tiles a = none) ∧
    State.reset.fab.leases = [] ∧ State.reset.runningHdr = none ∧ State.reset.trv.plans = [] ∧ State.reset.trv.held = none ∧
    (∀ k a, bget (State.reset.coreAt k).store a = 0 ∧ Memory.wf (State.reset.coreAt k).store = true) ∧
    (∀ n a, bget (State.reset.clusterStore n) a = 0 ∧ Memory.wf (State.reset.clusterStore n) = true) ∧
    State.reset.fb.half0Lost = false ∧ State.reset.fb.half1Lost = false ∧
    (∀ o i j, objKey o i j ∉ [0x1000 * 256 + 8, 0x1000 * 256 + 9, 0x2110 * 256 + 10, 0x7010 * 256 + 5] →
      State.reset.objAt o i j = objDefault o i) ∧
    (∀ o i j, State.reset.strAt o i j = strDefault o)

/-- An entry matches a key when every bit that it cares about is the key's. A search of a half finds the matching entry at the lowest address
of its half's entries; its result word holds the entry's result in bits 31 to 0, its address in bits 50 to 32, HIT in bit 63 and 0
elsewhere, and is 0 for a miss. An admitted CAM_SEARCH leaves that word as its half's last result. -/
def Obligations.CamPriority : Prop :=
  ∀ (s : State) (half key : Nat), half < 2 → mwf (s.cam half).entries = true → (∀ p ∈ (s.cam half).entries, p.1 < 2 ^ 19) →
    (∀ (e : CamEntry) k, camMatches e k = true ↔ ∀ b, e.care.testBit b = true → e.value.testBit b = k.testBit b) ∧
    (∀ a e, camSearch (s.cam half).entries key = some (a, e) ↔ mget (s.cam half).entries a = some e ∧ camMatches e key = true ∧
      ∀ b d, mget (s.cam half).entries b = some d → camMatches d key = true → a ≤ b) ∧
    (camSearch (s.cam half).entries key = none ↔ ∀ a e, mget (s.cam half).entries a = some e → camMatches e key = false) ∧
    (∀ a e, camSearch (s.cam half).entries key = some (a, e) →
      camResult (some (a, e)) % 2 ^ 32 = e.result % 2 ^ 32 ∧ camResult (some (a, e)) / 2 ^ 32 % 2 ^ 19 = a ∧
      camResult (some (a, e)) / 2 ^ 51 = 2 ^ 12) ∧ camResult none = 0 ∧
    (s.searchFits half 256 = true → (s.cam half).waiting = [] → key < 2 ^ 128 →
      ∃ t, exec (.camSearch half key false) s = .next t ∧ (t.cam half).lastResult = camResult (camSearch (s.cam half).entries key))

/-- An association keeps its newest 16 replies. A request of an association whose number one of them carries is not carried out again:
OD_READ, OD_WRITE, PRESENT and OD_RELEASE only send the stored reply again, to the port that the request came from. -/
def Obligations.RepeatedRequest : Prop :=
  (∀ (s : State) (r : OpdunReply) (x : Assoc), mget s.mgmt.assocs r.assoc = some x →
      ∃ y, mget (s.opdunReply r).mgmt.assocs r.assoc = some y ∧ y.replies = (r :: x.replies).take 16 ∧
        (s.opdunReply r).mgmt.opdunOut = r :: s.mgmt.opdunOut) ∧
    (∀ (s : State) (f : OpdunHdr) (x : Assoc) (r : OpdunReply) (v : Octets) (c : Instr),
      c ∈ [.odRead f, .odWrite f v, .present f v, .odRelease f] → s.served f.linkLocal f.hopLimit →
      mget (s.arrivalWakes 2).mgmt.assocs f.assoc = some x → x.client = f.client → x.replies.find? (fun q => q.req == f.req) = some r →
      let u := s.asked f x
      exec c s = .next { u with mgmt := { u.mgmt with opdunOut := { r with port := f.port } :: u.mgmt.opdunOut } })

/-- Where members request holds for one window of the running traverse and the request reaches the benchmark device in time, one hold is decided
that covers them all: it is as long as the largest request, at most 25,000 ticks, starts `hold_lead` ticks after the window's end, names the
member of the largest request, the lowest position among equals, and carries the number of requesters; what is asked of that window again
changes nothing. A hold decided first starts first, and when it starts it is recorded once. -/
def Obligations.OneHoldForAll : Prop :=
  ∀ (s : State) (e : Nat) (others : List HoldRequest) (h : TrvHeader), s.runningHdr = some h →
    (s.isMaster = true → e % max 1 h.holdWindow = 0 → e ∉ s.trv.decided → s.schedTick ≤ e + h.holdLead →
      let all := (mget s.trv.requests e).getD [] ++ others
      all ≠ [] → ((all.map (fun q => q.position)).eraseDups).length ≤ 255 →
      ∃ t p q, exec (.holdRequest e others) s = .next t ∧ t.trv.plans = s.trv.plans ++ [p] ∧ (∀ more, exec (.holdRequest e more) t = .next t) ∧
        q ∈ all ∧ (∀ r ∈ all, r.ticks ≤ q.ticks ∧ (r.ticks = q.ticks → q.position ≤ r.position)) ∧
        p.sched = e + h.holdLead ∧ p.length = min 25000 q.ticks ∧ p.position = q.position ∧ p.cause = q.cause ∧
        p.requesters = ((all.map (fun q => q.position)).eraseDups).length) ∧
    (∀ p rest, s.trv.plans = p :: rest → s.trv.held = none → p.sched ≤ s.schedTick → ∃ t, exec .holdStart s = .next t ∧ t.trv.plans = rest ∧
      t.trv.held = some (s.tick, p.length) ∧ t.trv.holdLog = keepLast 1024 (s.trv.holdLog ++
        [⟨s.frame, s.tick, s.schedTick, p.length, p.cause, p.requesters, p.position, p.queue, p.tag⟩]))

/-- Where a half gives out an index, its generation is the one that the index takes next; the following one is one more, wrapping from 0xFF
to 0x00, and from 0xFE for index 0xFFFFFF, which never takes 0xFF. No other index moves, the index is free and of the half, and the
session number is never 0xFFFFFFFF. -/
def Obligations.GenerationsAdvance : Prop :=
  ∀ (s t : State) (half i g : Nat), half < 2 → mwf s.ses.tab = true →
    (∀ j, (mget s.ses.gens j).getD 0 < 256 ∧ ((mget s.ses.gens j).getD 0 = 255 → j ≠ 0xFFFFFF)) → s.takeIndex half = some (i, g, t) →
    mget s.ses.tab i = none ∧ i / 2 ^ 23 = half ∧ g = (mget s.ses.gens i).getD 0 ∧
    mget t.ses.gens i = some (if g = 255 ∨ (i = 0xFFFFFF ∧ g = 254) then 0 else g + 1) ∧
    (∀ j, j ≠ i → mget t.ses.gens j = mget s.ses.gens j) ∧
    (∀ j, (mget t.ses.gens j).getD 0 < 256 ∧ ((mget t.ses.gens j).getD 0 = 255 → j ≠ 0xFFFFFF)) ∧ 2 ^ 24 * g + i ≠ 0xFFFFFFFF

/-- Until its latency ends, a result in flight to an S register changes no register that is read; from the cycle in which it ends on, its
register reads as the result where no other result in flight is for it, and S0 reads 0 always. -/
def Obligations.ResultsLand : Prop :=
  ∀ (c : Core) (slot latency d n : Nat) (v : SWord),
    (n < latency → ∀ r, (Core.settle (c.result slot latency (.sreg d v)) (c.cycle + n)).sreg r = (Core.settle c (c.cycle + n)).sreg r) ∧
    (latency ≤ n → d ≠ 0 → (∀ w ∈ c.flight, ∀ x, w.val ≠ .sreg d x) →
      (Core.settle (c.result slot latency (.sreg d v)) (c.cycle + n)).sreg d = v) ∧
    (Core.settle c (c.cycle + n)).sreg 0 = 0

/-- Every command completes on every state, and leaves the queue and every part of the state outside its footprint as they were: the
operations of a core change nothing but cores and clusters and the counters of Table 5-4's void slots, the datum counter moves only with
a datum tick, a lock to another datum, a power-on and the loss of VAUX, text work never touches the fabric, and so on for each of the
parts that the footprint names. -/
def Obligations.Footprint : Prop :=
  ∀ (i : Instr) (s : State), ∃ t, exec i s = .next t ∧ t.pending = s.pending ∧ ∀ p, p ∉ footprint i → s.agrees t p

/-- From every state in which the waiting commands are well formed and the stores of all cores and clusters have the canonical form of
memory, a step answers a next state in which both hold again, and in which exactly the command at the front has left the queue. -/
def Obligations.InvariantKept : Prop :=
  ∀ s : State, s.Inv → ∃ t, step s = .next t ∧ t.Inv ∧ t.pending = s.pending.drop 1
end

