-- ==== Sys2Proof/Laws/Command.lean ====
section
/-! SUPPORT. What the write of a command object does once its checks pass: started, carried out, or refused with a status. -/

namespace Sys2Proof.Machine

theorem command_ok {s t : State} {w : Writer} {o : ObjSpec} {i : Nat} {v : Octets} {so : Option ObjSpec} {body : State → State × Nat}
    (h : s.accepts w o i v) (hb : body s = (t, St.OK)) : s.command w o i v so body = t.carriedOut w o i v := by
  have h : s.writeCheck w o (o.base + i) o.subLo v = St.OK := h
  simp [State.command, h, hb, State.carriedOut]

theorem command_refused {s t : State} {w : Writer} {o : ObjSpec} {i : Nat} {v : Octets} {so : ObjSpec} {body : State → State × Nat}
    {r : Nat} (h : s.accepts w o i v) (hb : body s = (t, r)) (hr : r ≠ St.OK) :
    s.command w o i v (some so) body = (s.setObj so i r).reply w r := by
  have h : s.writeCheck w o (o.base + i) o.subLo v = St.OK := h
  simp [State.command, h, hb, hr]

theorem command_denied {s : State} {w : Writer} {o : ObjSpec} {i : Nat} {v : Octets} {so : Option ObjSpec} {body : State → State × Nat}
    (h : ¬ s.accepts w o i v) : s.command w o i v so body = s.reply w (s.writeCheck w o (o.base + i) o.subLo v) := by
  have h : ¬ s.writeCheck w o (o.base + i) o.subLo v = St.OK := h
  simp [State.command, h]

theorem commandNow_ok {s t : State} {w : Writer} {o : ObjSpec} {i : Nat} {v : Octets} {so : ObjSpec} {body : State → State × Nat}
    (h : s.accepts w o i v) (hb : body s = (t, St.OK)) : s.commandNow w o i v so body = (t.setObj so i St.OK).carriedOut w o i v := by
  unfold State.commandNow
  apply command_ok h
  simp [hb]

theorem commandNow_refused {s t : State} {w : Writer} {o : ObjSpec} {i : Nat} {v : Octets} {so : ObjSpec} {body : State → State × Nat}
    {r : Nat} (h : s.accepts w o i v) (hb : body s = (t, r)) (hr : r ≠ St.OK) :
    s.commandNow w o i v so body = (s.setObj so i r).reply w r := by
  unfold State.commandNow
  apply command_refused (t := s) h _ hr
  simp [hb, hr]

theorem commandEnds_ok {s t : State} {w : Writer} {o : ObjSpec} {i : Nat} {v : Octets} {so : ObjSpec} {si : Nat}
    {body : State → State × Nat} (h : s.accepts w o i v) (hb : body s = (t, St.OK)) :
    s.commandEnds w o i v true so si body = (t.setObj so si St.OK).carriedOut w o i v := by
  have h : s.writeCheck w o (o.base + i) o.subLo v = St.OK := h
  simp [State.commandEnds, h, hb, State.carriedOut]

theorem powerCommand_ok {s : State} {w : Writer} {code : Nat} {go : State → State} (h : s.accepts w Ob.power_command 0 [BitVec.ofNat 8 code]) :
    s.powerCommand w code true go = go ((s.setObj Ob.power_status 0 St.OK).reply w St.OK) := by
  have h : s.writeCheck w Ob.power_command Ob.power_command.base Ob.power_command.subLo [BitVec.ofNat 8 code] = St.OK := h
  simp [State.powerCommand, h]

theorem powerCommand_busy {s : State} {w : Writer} {code : Nat} {go : State → State} (h : s.accepts w Ob.power_command 0 [BitVec.ofNat 8 code]) :
    s.powerCommand w code false go = (s.setObj Ob.power_status 0 St.POWER_BUSY).reply w St.POWER_BUSY := by
  have h : s.writeCheck w Ob.power_command Ob.power_command.base Ob.power_command.subLo [BitVec.ofNat 8 code] = St.OK := h
  simp [State.powerCommand, h]

end Sys2Proof.Machine
end

