-- ==== Sys2Proof/Laws/Store.lean ====
section
/-! SUPPORT. Laws of the sparse maps, of byte stores and of the canonical form of memory: reading after writing, and what keeps the
keys rising. -/

namespace Sys2Proof.Machine

/-! ### Reading after writing -/

@[simp] theorem mget_mput_self {α : Type} (m : SMap α) (n : Nat) (x : α) : mget (mput m n x) n = some x := by
  induction m with
  | nil => simp [mput, mget]
  | cons p r ih =>
    obtain ⟨k, v⟩ := p
    unfold mput
    split
    · simp [mget]
    · split
      · simp [mget]
      · rename_i h
        simp [mget, Ne.symm h, ih]

theorem mget_mput_ne {α : Type} (m : SMap α) (n a : Nat) (x : α) (h : a ≠ n) : mget (mput m n x) a = mget m a := by
  induction m with
  | nil => simp [mput, mget, Ne.symm h]
  | cons p r ih =>
    obtain ⟨k, v⟩ := p
    unfold mput
    split
    · simp [mget, Ne.symm h]
    · split
      · rename_i hk
        subst hk
        simp [mget, Ne.symm h]
      · simp [mget, ih]

theorem mget_mput {α : Type} (m : SMap α) (n a : Nat) (x : α) : mget (mput m n x) a = if a = n then some x else mget m a := by
  split
  · rename_i h
    rw [h]
    exact mget_mput_self m n x
  · exact mget_mput_ne m n a x ‹_›

@[simp] theorem mget_mdel_self {α : Type} (m : SMap α) (n : Nat) : mget (mdel m n) n = none := by
  induction m with
  | nil => rfl
  | cons p r ih =>
    obtain ⟨k, v⟩ := p
    unfold mdel
    split
    · exact ih
    · simp [mget, *]

theorem mget_mdel_ne {α : Type} (m : SMap α) (n a : Nat) (h : a ≠ n) : mget (mdel m n) a = mget m a := by
  induction m with
  | nil => rfl
  | cons p r ih =>
    obtain ⟨k, v⟩ := p
    unfold mdel
    split
    · subst_vars
      simp [mget, Ne.symm h, ih]
    · simp [mget, ih]

theorem mget_mdel {α : Type} (m : SMap α) (n a : Nat) : mget (mdel m n) a = if a = n then none else mget m a := by
  split
  · rename_i h
    rw [h]
    exact mget_mdel_self m n
  · exact mget_mdel_ne m n a ‹_›

/-- A map whose absent keys read as d reads, after a write, the value written there and the old value elsewhere. -/
theorem getD_mputD {α : Type} [DecidableEq α] (d : α) (m : SMap α) (n a : Nat) (x : α) :
    (mget (mputD d m n x) a).getD d = if a = n then x else (mget m a).getD d := by
  unfold mputD
  split
  · rename_i h
    subst h
    rw [mget_mdel]
    split <;> rfl
  · rw [mget_mput]
    split <;> rfl

/-! ### Canonical form -/

theorem mwfFrom_mono {α : Type} (m : SMap α) (b c : Nat) (h : b ≤ c) (hm : mwfFrom c m = true) : mwfFrom b m = true := by
  cases m with
  | nil => rfl
  | cons p r =>
    obtain ⟨k, v⟩ := p
    simp only [mwfFrom, Bool.and_eq_true, decide_eq_true_eq] at hm ⊢
    exact ⟨Nat.le_trans h hm.1, hm.2⟩

theorem mwfFrom_mput {α : Type} (m : SMap α) (b n : Nat) (x : α) (hb : b ≤ n) (hm : mwfFrom b m = true) : mwfFrom b (mput m n x) = true := by
  induction m generalizing b with
  | nil => simp [mput, mwfFrom, hb]
  | cons p r ih =>
    obtain ⟨k, v⟩ := p
    simp only [mwfFrom, Bool.and_eq_true, decide_eq_true_eq] at hm
    unfold mput
    split
    · simp only [mwfFrom, Bool.and_eq_true, decide_eq_true_eq]
      exact ⟨hb, by omega, hm.2⟩
    · split
      · subst_vars
        simp only [mwfFrom, Bool.and_eq_true, decide_eq_true_eq]
        exact hm
      · simp only [mwfFrom, Bool.and_eq_true, decide_eq_true_eq]
        exact ⟨hm.1, ih (k + 1) (by omega) hm.2⟩

theorem mwfFrom_mdel {α : Type} (m : SMap α) (b n : Nat) (hm : mwfFrom b m = true) : mwfFrom b (mdel m n) = true := by
  induction m generalizing b with
  | nil => rfl
  | cons p r ih =>
    obtain ⟨k, v⟩ := p
    simp only [mwfFrom, Bool.and_eq_true, decide_eq_true_eq] at hm
    unfold mdel
    split
    · exact ih b (mwfFrom_mono r b (k + 1) (by omega) hm.2)
    · simp only [mwfFrom, Bool.and_eq_true, decide_eq_true_eq]
      exact ⟨hm.1, ih (k + 1) hm.2⟩

/-- A write keeps a map canonical. -/
theorem mwf_mput {α : Type} (m : SMap α) (n : Nat) (x : α) (h : mwf m = true) : mwf (mput m n x) = true :=
  mwfFrom_mput m 0 n x (Nat.zero_le n) h

/-- A removal keeps a map canonical. -/
theorem mwf_mdel {α : Type} (m : SMap α) (n : Nat) (h : mwf m = true) : mwf (mdel m n) = true := mwfFrom_mdel m 0 n h

theorem mwf_mputD {α : Type} [DecidableEq α] (d : α) (m : SMap α) (n : Nat) (x : α) (h : mwf m = true) : mwf (mputD d m n x) = true := by
  unfold mputD
  split
  · exact mwf_mdel m n h
  · exact mwf_mput m n x h

/-! ### Byte stores -/

/-- Reading one byte after writing one byte. -/
theorem bget_bput (b : ByteStore) (a c : Nat) (v : Byte) : bget (bput b a v) c = if c = a then v else bget b c := getD_mputD 0 b a c v

/-- Octets written from an address up leave every byte below it as it was. -/
theorem bget_bputs_below (b : ByteStore) (a c : Nat) (o : Octets) (h : c < a) : bget (bputs b a o) c = bget b c := by
  induction o generalizing b a with
  | nil => rfl
  | cons v r ih =>
    unfold bputs
    rw [ih _ (a + 1) (by omega), bget_bput, if_neg (by omega)]

/-- What a byte reads as after octets were written from an address up. -/
theorem bget_bputs (b : ByteStore) (a c : Nat) (o : Octets) :
    bget (bputs b a o) c = if a ≤ c ∧ c < a + o.length then o.getD (c - a) 0 else bget b c := by
  induction o generalizing b a with
  | nil => rw [if_neg (by simp only [List.length_nil]; omega)]; rfl
  | cons v r ih =>
    unfold bputs
    rw [ih, bget_bput]
    by_cases h : c = a
    · subst h
      rw [if_neg (by omega), if_pos rfl, if_pos (by simp only [List.length_cons]; omega), Nat.sub_self]
      rfl
    · by_cases h2 : a + 1 ≤ c ∧ c < a + 1 + r.length
      · have e : c - a = (c - (a + 1)) + 1 := by omega
        rw [if_pos h2, if_pos (by simp only [List.length_cons]; omega), e]
        rfl
      · rw [if_neg h2, if_neg h, if_neg (by simp only [List.length_cons]; omega)]

/-- No byte stored is 0. -/
theorem nonzero_mput (b : ByteStore) (a : Nat) (v : Byte) (hv : v ≠ 0) (h : b.all (fun p => p.2 != 0) = true) :
    (mput b a v).all (fun p => p.2 != 0) = true := by
  induction b with
  | nil => simpa [mput] using hv
  | cons p r ih =>
    obtain ⟨k, w⟩ := p
    simp only [List.all_cons, Bool.and_eq_true] at h
    unfold mput
    split
    · simp only [List.all_cons, Bool.and_eq_true]
      exact ⟨by simpa using hv, h⟩
    · split
      · simp only [List.all_cons, Bool.and_eq_true]
        exact ⟨by simpa using hv, h.2⟩
      · simp only [List.all_cons, Bool.and_eq_true]
        exact ⟨h.1, ih h.2⟩

theorem nonzero_mdel (b : ByteStore) (a : Nat) (h : b.all (fun p => p.2 != 0) = true) :
    (mdel b a).all (fun p => p.2 != 0) = true := by
  induction b with
  | nil => rfl
  | cons p r ih =>
    obtain ⟨k, w⟩ := p
    simp only [List.all_cons, Bool.and_eq_true] at h
    unfold mdel
    split
    · exact ih h.2
    · simp only [List.all_cons, Bool.and_eq_true]
      exact ⟨h.1, ih h.2⟩

/-- Writing one byte keeps memory canonical. -/
theorem wf_bput (b : ByteStore) (a : Nat) (v : Byte) (h : Memory.wf b = true) : Memory.wf (bput b a v) = true := by
  simp only [Memory.wf, Bool.and_eq_true] at h ⊢
  refine ⟨mwf_mputD 0 b a v h.1, ?_⟩
  unfold bput mputD
  split
  · exact nonzero_mdel b a h.2
  · exact nonzero_mput b a v ‹_› h.2

/-- Writing octets keeps memory canonical. -/
theorem wf_bputs (b : ByteStore) (a : Nat) (o : Octets) (h : Memory.wf b = true) : Memory.wf (bputs b a o) = true := by
  induction o generalizing b a with
  | nil => exact h
  | cons v r ih => exact ih _ _ (wf_bput b a v h)

/-- A part of a canonical map is canonical. -/
theorem mwfFrom_filter {α : Type} (m : SMap α) (p : Nat × α → Bool) (b : Nat) (h : mwfFrom b m = true) :
    mwfFrom b (m.filter p) = true := by
  induction m generalizing b with
  | nil => rfl
  | cons q r ih =>
    obtain ⟨k, v⟩ := q
    simp only [mwfFrom, Bool.and_eq_true, decide_eq_true_eq] at h
    simp only [List.filter_cons]
    split
    · simp only [mwfFrom, Bool.and_eq_true, decide_eq_true_eq]
      exact ⟨h.1, ih _ h.2⟩
    · exact ih b (mwfFrom_mono r b (k + 1) (by omega) h.2)

/-- Clearing bytes keeps memory canonical. -/
theorem wf_filter (b : ByteStore) (p : Nat × Byte → Bool) (h : Memory.wf b = true) : Memory.wf (b.filter p) = true := by
  simp only [Memory.wf, Bool.and_eq_true] at h ⊢
  refine ⟨mwfFrom_filter b p 0 h.1, ?_⟩
  rw [List.all_filter]
  exact List.all_eq_true.2 (fun q hq => by
    have := List.all_eq_true.1 h.2 q hq
    simp at this ⊢
    exact .inr this)

theorem wf_foldl_bput {α : Type} (l : List α) (f : α → Nat) (g : α → Byte) (b : ByteStore) (h : Memory.wf b = true) :
    Memory.wf (l.foldl (fun m p => bput m (f p) (g p)) b) = true := by
  induction l generalizing b with
  | nil => exact h
  | cons p r ih => exact ih _ (wf_bput b (f p) (g p) h)

/-- Landing a tile in a cluster store keeps the store canonical (R92). -/
theorem wf_storeTile (b : ByteStore) (granule : Nat) (t : Tile) (h : Memory.wf b = true) : Memory.wf (storeTile b granule t) = true := by
  unfold storeTile
  exact wf_foldl_bput _ _ _ _ (wf_bputs _ _ _ (wf_foldl_bput _ _ _ _ (wf_filter b _ h)))

/-- The empty store is canonical. -/
@[simp] theorem wf_nil : Memory.wf [] = true := rfl

theorem mwf_bput (b : ByteStore) (a : Nat) (v : Byte) (h : mwf b = true) : mwf (bput b a v) = true := mwf_mputD 0 b a v h

theorem mwf_bputs (b : ByteStore) (a : Nat) (o : Octets) (h : mwf b = true) : mwf (bputs b a o) = true := by
  induction o generalizing b a with
  | nil => exact h
  | cons v r ih => exact ih _ _ (mwf_bput b a v h)

/-! ### What a map with rising keys holds, and its free keys -/

theorem le_of_mem {α : Type} (m : SMap α) (b : Nat) (h : mwfFrom b m = true) : ∀ p ∈ m, b ≤ p.1 := by
  induction m generalizing b with
  | nil => simp
  | cons q r ih =>
    obtain ⟨k, v⟩ := q
    simp only [mwfFrom, Bool.and_eq_true, decide_eq_true_eq] at h
    intro p hp
    rcases List.mem_cons.1 hp with rfl | hp
    · exact h.1
    · exact Nat.le_trans (Nat.le_succ_of_le h.1) (ih _ h.2 p hp)

theorem mget_eq_some_iff {α : Type} (m : SMap α) (b : Nat) (h : mwfFrom b m = true) (a : Nat) (x : α) : mget m a = some x ↔ (a, x) ∈ m := by
  induction m generalizing b with
  | nil => simp [mget]
  | cons q r ih =>
    obtain ⟨k, v⟩ := q
    simp only [mwfFrom, Bool.and_eq_true, decide_eq_true_eq] at h
    simp only [mget, List.mem_cons, Prod.mk.injEq]
    split
    · rename_i hk
      subst hk
      constructor
      · intro hx
        exact .inl ⟨rfl, (Option.some.inj hx).symm⟩
      · rintro (⟨-, rfl⟩ | hx)
        · rfl
        · exact absurd (le_of_mem r _ h.2 _ hx) (Nat.not_succ_le_self _)
    · rename_i hk
      rw [ih _ h.2]
      constructor
      · exact .inr
      · rintro (⟨rfl, -⟩ | hx)
        · exact absurd rfl hk
        · exact hx

theorem le_mfreeFrom {α : Type} (m : SMap α) (n : Nat) : n ≤ mfreeFrom m n := by
  induction m generalizing n with
  | nil => exact Nat.le_refl n
  | cons q r ih =>
    obtain ⟨k, v⟩ := q
    unfold mfreeFrom
    split
    · exact Nat.le_of_succ_le (ih (n + 1))
    · split
      · exact Nat.le_refl n
      · exact ih n

theorem mget_below {α : Type} (m : SMap α) (b n : Nat) (h : mwfFrom b m = true) (hn : n < b) : mget m n = none := by
  induction m generalizing b with
  | nil => rfl
  | cons q r ih =>
    obtain ⟨k, v⟩ := q
    simp only [mwfFrom, Bool.and_eq_true, decide_eq_true_eq] at h
    unfold mget
    rw [if_neg (by omega), ih _ h.2 (by omega)]

theorem mget_mfreeFrom {α : Type} (m : SMap α) (b n : Nat) (h : mwfFrom b m = true) : mget m (mfreeFrom m n) = none := by
  induction m generalizing b n with
  | nil => rfl
  | cons q r ih =>
    obtain ⟨k, v⟩ := q
    simp only [mwfFrom, Bool.and_eq_true, decide_eq_true_eq] at h
    have hle := le_mfreeFrom r (n + 1)
    have hle' := le_mfreeFrom r n
    unfold mfreeFrom
    split
    · rename_i hk
      have hk : k = n := by simpa using hk
      unfold mget
      rw [if_neg (by omega), ih _ _ h.2]
    · rename_i hk
      have hk : k ≠ n := by simpa using hk
      split
      · rename_i hn
        unfold mget
        rw [if_neg (by omega), mget_below r _ _ h.2 (by omega)]
      · rename_i hn
        unfold mget
        rw [if_neg (by omega), ih _ _ h.2]

end Sys2Proof.Machine
end

