-- ==== Sys2Proof/Laws/Core.lean ====
section
/-! SUPPORT. Laws of a core: predicates built bit by bit, and what its registers read once a result has landed. -/

namespace Sys2Proof.Machine

theorem bitsUpTo_lt (p : Nat → Bool) (n : Nat) : bitsUpTo p n < 2 ^ n := by
  induction n with
  | zero => simp [bitsUpTo]
  | succ n ih =>
    unfold bitsUpTo
    split <;> rw [Nat.pow_succ] <;> omega

theorem testBit_bitsUpTo (p : Nat → Bool) (n i : Nat) : (bitsUpTo p n).testBit i = (decide (i < n) && p i) := by
  induction n with
  | zero => simp [bitsUpTo]
  | succ n ih =>
    unfold bitsUpTo
    have hl := bitsUpTo_lt p n
    split
    · rename_i hp
      by_cases h : i = n
      · subst h
        rw [Nat.testBit_two_pow_add_eq, ih]
        simp [hp]
      · by_cases h2 : i < n
        · rw [Nat.testBit_two_pow_add_gt h2, ih]
          simp [h2, Nat.lt_succ_of_lt h2]
        · have h3 : n + 1 ≤ i := by omega
          rw [Nat.testBit_lt_two_pow (Nat.lt_of_lt_of_le (by rw [Nat.pow_succ]; omega : 2 ^ n + bitsUpTo p n < 2 ^ (n + 1))
            (Nat.pow_le_pow_right (by omega) h3))]
          simp only [Bool.false_eq, Bool.and_eq_false_iff, decide_eq_false_iff_not]
          omega
    · rename_i hp
      rw [ih]
      by_cases h : i = n
      · subst h
        simp [hp]
      · have : (i < n + 1) = (i < n) := by
          apply propext
          omega
        simp only [this]

/-- Bit i of the predicate built from p is p i. -/
theorem getLsbD_maskOf (p : Nat → Bool) (i : Nat) (h : i < 32) : (maskOf p).getLsbD i = p i := by
  unfold maskOf
  rw [BitVec.getLsbD_ofNat, testBit_bitsUpTo]
  simp [h]

end Sys2Proof.Machine
end

