-- ==== Sys2Proof/Laws/State.lean ====
section
/-! SUPPORT. One lemma per part of the state and per update: the parts an update does not write keep their values. -/

namespace Sys2Proof.Machine

@[simp] theorem State.setObjAt_tick (s : State) (o : ObjSpec) (i j v : Nat) : (s.setObjAt o i j v).tick = s.tick := rfl
@[simp] theorem State.setObjAt_frameNumber (s : State) (o : ObjSpec) (i j v : Nat) : (s.setObjAt o i j v).frame = s.frame := rfl
@[simp] theorem State.setObjAt_frameStart (s : State) (o : ObjSpec) (i j v : Nat) : (s.setObjAt o i j v).frameStart = s.frameStart := rfl
@[simp] theorem State.setObjAt_mgmt (s : State) (o : ObjSpec) (i j v : Nat) : (s.setObjAt o i j v).mgmt = s.mgmt := rfl
@[simp] theorem State.setObjAt_fb (s : State) (o : ObjSpec) (i j v : Nat) : (s.setObjAt o i j v).fb = s.fb := rfl
@[simp] theorem State.setObjAt_stn (s : State) (o : ObjSpec) (i j v : Nat) : (s.setObjAt o i j v).stn = s.stn := rfl
@[simp] theorem State.setObjAt_ses (s : State) (o : ObjSpec) (i j v : Nat) : (s.setObjAt o i j v).ses = s.ses := rfl
@[simp] theorem State.setObjAt_tier (s : State) (o : ObjSpec) (i j v : Nat) : (s.setObjAt o i j v).tier = s.tier := rfl
@[simp] theorem State.setObjAt_shape (s : State) (o : ObjSpec) (i j v : Nat) : (s.setObjAt o i j v).shape = s.shape := rfl
@[simp] theorem State.setObjAt_trv (s : State) (o : ObjSpec) (i j v : Nat) : (s.setObjAt o i j v).trv = s.trv := rfl
@[simp] theorem State.setObjAt_core (s : State) (o : ObjSpec) (i j v : Nat) : (s.setObjAt o i j v).core = s.core := rfl
@[simp] theorem State.setObjAt_text (s : State) (o : ObjSpec) (i j v : Nat) : (s.setObjAt o i j v).text = s.text := rfl
@[simp] theorem State.setObjAt_srch (s : State) (o : ObjSpec) (i j v : Nat) : (s.setObjAt o i j v).srch = s.srch := rfl
@[simp] theorem State.setObjAt_sync (s : State) (o : ObjSpec) (i j v : Nat) : (s.setObjAt o i j v).sync = s.sync := rfl
@[simp] theorem State.setObjAt_ck (s : State) (o : ObjSpec) (i j v : Nat) : (s.setObjAt o i j v).ck = s.ck := rfl
@[simp] theorem State.setObjAt_fab (s : State) (o : ObjSpec) (i j v : Nat) : (s.setObjAt o i j v).fab = s.fab := rfl
@[simp] theorem State.setObjAt_pwr (s : State) (o : ObjSpec) (i j v : Nat) : (s.setObjAt o i j v).pwr = s.pwr := rfl
@[simp] theorem State.setObjAt_pending (s : State) (o : ObjSpec) (i j v : Nat) : (s.setObjAt o i j v).pending = s.pending := rfl
@[simp] theorem State.setObjAt_free (s : State) (o : ObjSpec) (i j v : Nat) : (s.setObjAt o i j v).free = s.free := rfl

@[simp] theorem State.setObj_tick (s : State) (o : ObjSpec) (i v : Nat) : (s.setObj o i v).tick = s.tick := rfl
@[simp] theorem State.setObj_frameNumber (s : State) (o : ObjSpec) (i v : Nat) : (s.setObj o i v).frame = s.frame := rfl
@[simp] theorem State.setObj_frameStart (s : State) (o : ObjSpec) (i v : Nat) : (s.setObj o i v).frameStart = s.frameStart := rfl
@[simp] theorem State.setObj_mgmt (s : State) (o : ObjSpec) (i v : Nat) : (s.setObj o i v).mgmt = s.mgmt := rfl
@[simp] theorem State.setObj_fb (s : State) (o : ObjSpec) (i v : Nat) : (s.setObj o i v).fb = s.fb := rfl
@[simp] theorem State.setObj_stn (s : State) (o : ObjSpec) (i v : Nat) : (s.setObj o i v).stn = s.stn := rfl
@[simp] theorem State.setObj_ses (s : State) (o : ObjSpec) (i v : Nat) : (s.setObj o i v).ses = s.ses := rfl
@[simp] theorem State.setObj_tier (s : State) (o : ObjSpec) (i v : Nat) : (s.setObj o i v).tier = s.tier := rfl
@[simp] theorem State.setObj_shape (s : State) (o : ObjSpec) (i v : Nat) : (s.setObj o i v).shape = s.shape := rfl
@[simp] theorem State.setObj_trv (s : State) (o : ObjSpec) (i v : Nat) : (s.setObj o i v).trv = s.trv := rfl
@[simp] theorem State.setObj_core (s : State) (o : ObjSpec) (i v : Nat) : (s.setObj o i v).core = s.core := rfl
@[simp] theorem State.setObj_text (s : State) (o : ObjSpec) (i v : Nat) : (s.setObj o i v).text = s.text := rfl
@[simp] theorem State.setObj_srch (s : State) (o : ObjSpec) (i v : Nat) : (s.setObj o i v).srch = s.srch := rfl
@[simp] theorem State.setObj_sync (s : State) (o : ObjSpec) (i v : Nat) : (s.setObj o i v).sync = s.sync := rfl
@[simp] theorem State.setObj_ck (s : State) (o : ObjSpec) (i v : Nat) : (s.setObj o i v).ck = s.ck := rfl
@[simp] theorem State.setObj_fab (s : State) (o : ObjSpec) (i v : Nat) : (s.setObj o i v).fab = s.fab := rfl
@[simp] theorem State.setObj_pwr (s : State) (o : ObjSpec) (i v : Nat) : (s.setObj o i v).pwr = s.pwr := rfl
@[simp] theorem State.setObj_pending (s : State) (o : ObjSpec) (i v : Nat) : (s.setObj o i v).pending = s.pending := rfl
@[simp] theorem State.setObj_free (s : State) (o : ObjSpec) (i v : Nat) : (s.setObj o i v).free = s.free := rfl

@[simp] theorem State.setStrAt_tick (s : State) (o : ObjSpec) (i j : Nat) (v : Octets) : (s.setStrAt o i j v).tick = s.tick := rfl
@[simp] theorem State.setStrAt_frameNumber (s : State) (o : ObjSpec) (i j : Nat) (v : Octets) : (s.setStrAt o i j v).frame = s.frame := rfl
@[simp] theorem State.setStrAt_frameStart (s : State) (o : ObjSpec) (i j : Nat) (v : Octets) : (s.setStrAt o i j v).frameStart = s.frameStart := rfl
@[simp] theorem State.setStrAt_mgmt (s : State) (o : ObjSpec) (i j : Nat) (v : Octets) : (s.setStrAt o i j v).mgmt = s.mgmt := rfl
@[simp] theorem State.setStrAt_fb (s : State) (o : ObjSpec) (i j : Nat) (v : Octets) : (s.setStrAt o i j v).fb = s.fb := rfl
@[simp] theorem State.setStrAt_stn (s : State) (o : ObjSpec) (i j : Nat) (v : Octets) : (s.setStrAt o i j v).stn = s.stn := rfl
@[simp] theorem State.setStrAt_ses (s : State) (o : ObjSpec) (i j : Nat) (v : Octets) : (s.setStrAt o i j v).ses = s.ses := rfl
@[simp] theorem State.setStrAt_tier (s : State) (o : ObjSpec) (i j : Nat) (v : Octets) : (s.setStrAt o i j v).tier = s.tier := rfl
@[simp] theorem State.setStrAt_shape (s : State) (o : ObjSpec) (i j : Nat) (v : Octets) : (s.setStrAt o i j v).shape = s.shape := rfl
@[simp] theorem State.setStrAt_trv (s : State) (o : ObjSpec) (i j : Nat) (v : Octets) : (s.setStrAt o i j v).trv = s.trv := rfl
@[simp] theorem State.setStrAt_core (s : State) (o : ObjSpec) (i j : Nat) (v : Octets) : (s.setStrAt o i j v).core = s.core := rfl
@[simp] theorem State.setStrAt_text (s : State) (o : ObjSpec) (i j : Nat) (v : Octets) : (s.setStrAt o i j v).text = s.text := rfl
@[simp] theorem State.setStrAt_srch (s : State) (o : ObjSpec) (i j : Nat) (v : Octets) : (s.setStrAt o i j v).srch = s.srch := rfl
@[simp] theorem State.setStrAt_sync (s : State) (o : ObjSpec) (i j : Nat) (v : Octets) : (s.setStrAt o i j v).sync = s.sync := rfl
@[simp] theorem State.setStrAt_ck (s : State) (o : ObjSpec) (i j : Nat) (v : Octets) : (s.setStrAt o i j v).ck = s.ck := rfl
@[simp] theorem State.setStrAt_fab (s : State) (o : ObjSpec) (i j : Nat) (v : Octets) : (s.setStrAt o i j v).fab = s.fab := rfl
@[simp] theorem State.setStrAt_pwr (s : State) (o : ObjSpec) (i j : Nat) (v : Octets) : (s.setStrAt o i j v).pwr = s.pwr := rfl
@[simp] theorem State.setStrAt_pending (s : State) (o : ObjSpec) (i j : Nat) (v : Octets) : (s.setStrAt o i j v).pending = s.pending := rfl
@[simp] theorem State.setStrAt_free (s : State) (o : ObjSpec) (i j : Nat) (v : Octets) : (s.setStrAt o i j v).free = s.free := rfl

@[simp] theorem State.setStr_tick (s : State) (o : ObjSpec) (i : Nat) (v : Octets) : (s.setStr o i v).tick = s.tick := rfl
@[simp] theorem State.setStr_frameNumber (s : State) (o : ObjSpec) (i : Nat) (v : Octets) : (s.setStr o i v).frame = s.frame := rfl
@[simp] theorem State.setStr_frameStart (s : State) (o : ObjSpec) (i : Nat) (v : Octets) : (s.setStr o i v).frameStart = s.frameStart := rfl
@[simp] theorem State.setStr_mgmt (s : State) (o : ObjSpec) (i : Nat) (v : Octets) : (s.setStr o i v).mgmt = s.mgmt := rfl
@[simp] theorem State.setStr_fb (s : State) (o : ObjSpec) (i : Nat) (v : Octets) : (s.setStr o i v).fb = s.fb := rfl
@[simp] theorem State.setStr_stn (s : State) (o : ObjSpec) (i : Nat) (v : Octets) : (s.setStr o i v).stn = s.stn := rfl
@[simp] theorem State.setStr_ses (s : State) (o : ObjSpec) (i : Nat) (v : Octets) : (s.setStr o i v).ses = s.ses := rfl
@[simp] theorem State.setStr_tier (s : State) (o : ObjSpec) (i : Nat) (v : Octets) : (s.setStr o i v).tier = s.tier := rfl
@[simp] theorem State.setStr_shape (s : State) (o : ObjSpec) (i : Nat) (v : Octets) : (s.setStr o i v).shape = s.shape := rfl
@[simp] theorem State.setStr_trv (s : State) (o : ObjSpec) (i : Nat) (v : Octets) : (s.setStr o i v).trv = s.trv := rfl
@[simp] theorem State.setStr_core (s : State) (o : ObjSpec) (i : Nat) (v : Octets) : (s.setStr o i v).core = s.core := rfl
@[simp] theorem State.setStr_text (s : State) (o : ObjSpec) (i : Nat) (v : Octets) : (s.setStr o i v).text = s.text := rfl
@[simp] theorem State.setStr_srch (s : State) (o : ObjSpec) (i : Nat) (v : Octets) : (s.setStr o i v).srch = s.srch := rfl
@[simp] theorem State.setStr_sync (s : State) (o : ObjSpec) (i : Nat) (v : Octets) : (s.setStr o i v).sync = s.sync := rfl
@[simp] theorem State.setStr_ck (s : State) (o : ObjSpec) (i : Nat) (v : Octets) : (s.setStr o i v).ck = s.ck := rfl
@[simp] theorem State.setStr_fab (s : State) (o : ObjSpec) (i : Nat) (v : Octets) : (s.setStr o i v).fab = s.fab := rfl
@[simp] theorem State.setStr_pwr (s : State) (o : ObjSpec) (i : Nat) (v : Octets) : (s.setStr o i v).pwr = s.pwr := rfl
@[simp] theorem State.setStr_pending (s : State) (o : ObjSpec) (i : Nat) (v : Octets) : (s.setStr o i v).pending = s.pending := rfl
@[simp] theorem State.setStr_free (s : State) (o : ObjSpec) (i : Nat) (v : Octets) : (s.setStr o i v).free = s.free := rfl

@[simp] theorem State.setErr_tick (s : State) (e : ErrRecorder) : (s.setErr e).tick = s.tick := rfl
@[simp] theorem State.setErr_frameNumber (s : State) (e : ErrRecorder) : (s.setErr e).frame = s.frame := rfl
@[simp] theorem State.setErr_frameStart (s : State) (e : ErrRecorder) : (s.setErr e).frameStart = s.frameStart := rfl
@[simp] theorem State.setErr_dict (s : State) (e : ErrRecorder) : (s.setErr e).dict = s.dict := rfl
@[simp] theorem State.setErr_mgmt (s : State) (e : ErrRecorder) : (s.setErr e).mgmt = s.mgmt := rfl
@[simp] theorem State.setErr_stn (s : State) (e : ErrRecorder) : (s.setErr e).stn = s.stn := rfl
@[simp] theorem State.setErr_ses (s : State) (e : ErrRecorder) : (s.setErr e).ses = s.ses := rfl
@[simp] theorem State.setErr_tier (s : State) (e : ErrRecorder) : (s.setErr e).tier = s.tier := rfl
@[simp] theorem State.setErr_shape (s : State) (e : ErrRecorder) : (s.setErr e).shape = s.shape := rfl
@[simp] theorem State.setErr_trv (s : State) (e : ErrRecorder) : (s.setErr e).trv = s.trv := rfl
@[simp] theorem State.setErr_core (s : State) (e : ErrRecorder) : (s.setErr e).core = s.core := rfl
@[simp] theorem State.setErr_text (s : State) (e : ErrRecorder) : (s.setErr e).text = s.text := rfl
@[simp] theorem State.setErr_srch (s : State) (e : ErrRecorder) : (s.setErr e).srch = s.srch := rfl
@[simp] theorem State.setErr_sync (s : State) (e : ErrRecorder) : (s.setErr e).sync = s.sync := rfl
@[simp] theorem State.setErr_ck (s : State) (e : ErrRecorder) : (s.setErr e).ck = s.ck := rfl
@[simp] theorem State.setErr_fab (s : State) (e : ErrRecorder) : (s.setErr e).fab = s.fab := rfl
@[simp] theorem State.setErr_pwr (s : State) (e : ErrRecorder) : (s.setErr e).pwr = s.pwr := rfl
@[simp] theorem State.setErr_pending (s : State) (e : ErrRecorder) : (s.setErr e).pending = s.pending := rfl
@[simp] theorem State.setErr_free (s : State) (e : ErrRecorder) : (s.setErr e).free = s.free := rfl

@[simp] theorem State.setStation_tick (s : State) (n : Nat) (x : Station) : (s.setStation n x).tick = s.tick := rfl
@[simp] theorem State.setStation_frameNumber (s : State) (n : Nat) (x : Station) : (s.setStation n x).frame = s.frame := rfl
@[simp] theorem State.setStation_frameStart (s : State) (n : Nat) (x : Station) : (s.setStation n x).frameStart = s.frameStart := rfl
@[simp] theorem State.setStation_dict (s : State) (n : Nat) (x : Station) : (s.setStation n x).dict = s.dict := rfl
@[simp] theorem State.setStation_mgmt (s : State) (n : Nat) (x : Station) : (s.setStation n x).mgmt = s.mgmt := rfl
@[simp] theorem State.setStation_fb (s : State) (n : Nat) (x : Station) : (s.setStation n x).fb = s.fb := rfl
@[simp] theorem State.setStation_ses (s : State) (n : Nat) (x : Station) : (s.setStation n x).ses = s.ses := rfl
@[simp] theorem State.setStation_tier (s : State) (n : Nat) (x : Station) : (s.setStation n x).tier = s.tier := rfl
@[simp] theorem State.setStation_shape (s : State) (n : Nat) (x : Station) : (s.setStation n x).shape = s.shape := rfl
@[simp] theorem State.setStation_trv (s : State) (n : Nat) (x : Station) : (s.setStation n x).trv = s.trv := rfl
@[simp] theorem State.setStation_core (s : State) (n : Nat) (x : Station) : (s.setStation n x).core = s.core := rfl
@[simp] theorem State.setStation_text (s : State) (n : Nat) (x : Station) : (s.setStation n x).text = s.text := rfl
@[simp] theorem State.setStation_srch (s : State) (n : Nat) (x : Station) : (s.setStation n x).srch = s.srch := rfl
@[simp] theorem State.setStation_sync (s : State) (n : Nat) (x : Station) : (s.setStation n x).sync = s.sync := rfl
@[simp] theorem State.setStation_ck (s : State) (n : Nat) (x : Station) : (s.setStation n x).ck = s.ck := rfl
@[simp] theorem State.setStation_fab (s : State) (n : Nat) (x : Station) : (s.setStation n x).fab = s.fab := rfl
@[simp] theorem State.setStation_pwr (s : State) (n : Nat) (x : Station) : (s.setStation n x).pwr = s.pwr := rfl
@[simp] theorem State.setStation_pending (s : State) (n : Nat) (x : Station) : (s.setStation n x).pending = s.pending := rfl
@[simp] theorem State.setStation_free (s : State) (n : Nat) (x : Station) : (s.setStation n x).free = s.free := rfl

@[simp] theorem State.setPwr_tick (s : State) (p : PowerSt) : (s.setPwr p).tick = s.tick := rfl
@[simp] theorem State.setPwr_frameNumber (s : State) (p : PowerSt) : (s.setPwr p).frame = s.frame := rfl
@[simp] theorem State.setPwr_frameStart (s : State) (p : PowerSt) : (s.setPwr p).frameStart = s.frameStart := rfl
@[simp] theorem State.setPwr_dict (s : State) (p : PowerSt) : (s.setPwr p).dict = s.dict := rfl
@[simp] theorem State.setPwr_mgmt (s : State) (p : PowerSt) : (s.setPwr p).mgmt = s.mgmt := rfl
@[simp] theorem State.setPwr_fb (s : State) (p : PowerSt) : (s.setPwr p).fb = s.fb := rfl
@[simp] theorem State.setPwr_stn (s : State) (p : PowerSt) : (s.setPwr p).stn = s.stn := rfl
@[simp] theorem State.setPwr_ses (s : State) (p : PowerSt) : (s.setPwr p).ses = s.ses := rfl
@[simp] theorem State.setPwr_tier (s : State) (p : PowerSt) : (s.setPwr p).tier = s.tier := rfl
@[simp] theorem State.setPwr_shape (s : State) (p : PowerSt) : (s.setPwr p).shape = s.shape := rfl
@[simp] theorem State.setPwr_trv (s : State) (p : PowerSt) : (s.setPwr p).trv = s.trv := rfl
@[simp] theorem State.setPwr_core (s : State) (p : PowerSt) : (s.setPwr p).core = s.core := rfl
@[simp] theorem State.setPwr_text (s : State) (p : PowerSt) : (s.setPwr p).text = s.text := rfl
@[simp] theorem State.setPwr_srch (s : State) (p : PowerSt) : (s.setPwr p).srch = s.srch := rfl
@[simp] theorem State.setPwr_sync (s : State) (p : PowerSt) : (s.setPwr p).sync = s.sync := rfl
@[simp] theorem State.setPwr_ck (s : State) (p : PowerSt) : (s.setPwr p).ck = s.ck := rfl
@[simp] theorem State.setPwr_fab (s : State) (p : PowerSt) : (s.setPwr p).fab = s.fab := rfl
@[simp] theorem State.setPwr_pending (s : State) (p : PowerSt) : (s.setPwr p).pending = s.pending := rfl
@[simp] theorem State.setPwr_free (s : State) (p : PowerSt) : (s.setPwr p).free = s.free := rfl

@[simp] theorem State.setBook_tick (s : State) (half : Nat) (b : Book) : (s.setBook half b).tick = s.tick := by
  unfold State.setBook
  split <;> rfl
@[simp] theorem State.setBook_frameNumber (s : State) (half : Nat) (b : Book) : (s.setBook half b).frame = s.frame := by
  unfold State.setBook
  split <;> rfl
@[simp] theorem State.setBook_frameStart (s : State) (half : Nat) (b : Book) : (s.setBook half b).frameStart = s.frameStart := by
  unfold State.setBook
  split <;> rfl
@[simp] theorem State.setBook_mgmt (s : State) (half : Nat) (b : Book) : (s.setBook half b).mgmt = s.mgmt := by
  unfold State.setBook
  split <;> rfl
@[simp] theorem State.setBook_stn (s : State) (half : Nat) (b : Book) : (s.setBook half b).stn = s.stn := by
  unfold State.setBook
  split <;> rfl
@[simp] theorem State.setBook_ses (s : State) (half : Nat) (b : Book) : (s.setBook half b).ses = s.ses := by
  unfold State.setBook
  split <;> rfl
@[simp] theorem State.setBook_tier (s : State) (half : Nat) (b : Book) : (s.setBook half b).tier = s.tier := by
  unfold State.setBook
  split <;> rfl
@[simp] theorem State.setBook_shape (s : State) (half : Nat) (b : Book) : (s.setBook half b).shape = s.shape := by
  unfold State.setBook
  split <;> rfl
@[simp] theorem State.setBook_trv (s : State) (half : Nat) (b : Book) : (s.setBook half b).trv = s.trv := by
  unfold State.setBook
  split <;> rfl
@[simp] theorem State.setBook_core (s : State) (half : Nat) (b : Book) : (s.setBook half b).core = s.core := by
  unfold State.setBook
  split <;> rfl
@[simp] theorem State.setBook_text (s : State) (half : Nat) (b : Book) : (s.setBook half b).text = s.text := by
  unfold State.setBook
  split <;> rfl
@[simp] theorem State.setBook_srch (s : State) (half : Nat) (b : Book) : (s.setBook half b).srch = s.srch := by
  unfold State.setBook
  split <;> rfl
@[simp] theorem State.setBook_sync (s : State) (half : Nat) (b : Book) : (s.setBook half b).sync = s.sync := by
  unfold State.setBook
  split <;> rfl
@[simp] theorem State.setBook_ck (s : State) (half : Nat) (b : Book) : (s.setBook half b).ck = s.ck := by
  unfold State.setBook
  split <;> rfl
@[simp] theorem State.setBook_fab (s : State) (half : Nat) (b : Book) : (s.setBook half b).fab = s.fab := by
  unfold State.setBook
  split <;> rfl
@[simp] theorem State.setBook_pwr (s : State) (half : Nat) (b : Book) : (s.setBook half b).pwr = s.pwr := by
  unfold State.setBook
  split <;> rfl
@[simp] theorem State.setBook_pending (s : State) (half : Nat) (b : Book) : (s.setBook half b).pending = s.pending := by
  unfold State.setBook
  split <;> rfl
@[simp] theorem State.setBook_free (s : State) (half : Nat) (b : Book) : (s.setBook half b).free = s.free := by
  unfold State.setBook
  split <;> rfl

@[simp] theorem State.setTile_tick (s : State) (a : Nat) (t : Tile) : (s.setTile a t).tick = s.tick := rfl
@[simp] theorem State.setTile_frameNumber (s : State) (a : Nat) (t : Tile) : (s.setTile a t).frame = s.frame := rfl
@[simp] theorem State.setTile_frameStart (s : State) (a : Nat) (t : Tile) : (s.setTile a t).frameStart = s.frameStart := rfl
@[simp] theorem State.setTile_dict (s : State) (a : Nat) (t : Tile) : (s.setTile a t).dict = s.dict := rfl
@[simp] theorem State.setTile_mgmt (s : State) (a : Nat) (t : Tile) : (s.setTile a t).mgmt = s.mgmt := rfl
@[simp] theorem State.setTile_fb (s : State) (a : Nat) (t : Tile) : (s.setTile a t).fb = s.fb := rfl
@[simp] theorem State.setTile_stn (s : State) (a : Nat) (t : Tile) : (s.setTile a t).stn = s.stn := rfl
@[simp] theorem State.setTile_ses (s : State) (a : Nat) (t : Tile) : (s.setTile a t).ses = s.ses := rfl
@[simp] theorem State.setTile_shape (s : State) (a : Nat) (t : Tile) : (s.setTile a t).shape = s.shape := rfl
@[simp] theorem State.setTile_trv (s : State) (a : Nat) (t : Tile) : (s.setTile a t).trv = s.trv := rfl
@[simp] theorem State.setTile_core (s : State) (a : Nat) (t : Tile) : (s.setTile a t).core = s.core := rfl
@[simp] theorem State.setTile_text (s : State) (a : Nat) (t : Tile) : (s.setTile a t).text = s.text := rfl
@[simp] theorem State.setTile_srch (s : State) (a : Nat) (t : Tile) : (s.setTile a t).srch = s.srch := rfl
@[simp] theorem State.setTile_sync (s : State) (a : Nat) (t : Tile) : (s.setTile a t).sync = s.sync := rfl
@[simp] theorem State.setTile_ck (s : State) (a : Nat) (t : Tile) : (s.setTile a t).ck = s.ck := rfl
@[simp] theorem State.setTile_fab (s : State) (a : Nat) (t : Tile) : (s.setTile a t).fab = s.fab := rfl
@[simp] theorem State.setTile_pwr (s : State) (a : Nat) (t : Tile) : (s.setTile a t).pwr = s.pwr := rfl
@[simp] theorem State.setTile_pending (s : State) (a : Nat) (t : Tile) : (s.setTile a t).pending = s.pending := rfl
@[simp] theorem State.setTile_free (s : State) (a : Nat) (t : Tile) : (s.setTile a t).free = s.free := rfl

@[simp] theorem State.setEng_tick (s : State) (half : Nat) (e : MoveEngines) : (s.setEng half e).tick = s.tick := by
  unfold State.setEng
  split <;> rfl
@[simp] theorem State.setEng_frameNumber (s : State) (half : Nat) (e : MoveEngines) : (s.setEng half e).frame = s.frame := by
  unfold State.setEng
  split <;> rfl
@[simp] theorem State.setEng_frameStart (s : State) (half : Nat) (e : MoveEngines) : (s.setEng half e).frameStart = s.frameStart := by
  unfold State.setEng
  split <;> rfl
@[simp] theorem State.setEng_dict (s : State) (half : Nat) (e : MoveEngines) : (s.setEng half e).dict = s.dict := by
  unfold State.setEng
  split <;> rfl
@[simp] theorem State.setEng_mgmt (s : State) (half : Nat) (e : MoveEngines) : (s.setEng half e).mgmt = s.mgmt := by
  unfold State.setEng
  split <;> rfl
@[simp] theorem State.setEng_fb (s : State) (half : Nat) (e : MoveEngines) : (s.setEng half e).fb = s.fb := by
  unfold State.setEng
  split <;> rfl
@[simp] theorem State.setEng_stn (s : State) (half : Nat) (e : MoveEngines) : (s.setEng half e).stn = s.stn := by
  unfold State.setEng
  split <;> rfl
@[simp] theorem State.setEng_ses (s : State) (half : Nat) (e : MoveEngines) : (s.setEng half e).ses = s.ses := by
  unfold State.setEng
  split <;> rfl
@[simp] theorem State.setEng_shape (s : State) (half : Nat) (e : MoveEngines) : (s.setEng half e).shape = s.shape := by
  unfold State.setEng
  split <;> rfl
@[simp] theorem State.setEng_trv (s : State) (half : Nat) (e : MoveEngines) : (s.setEng half e).trv = s.trv := by
  unfold State.setEng
  split <;> rfl
@[simp] theorem State.setEng_core (s : State) (half : Nat) (e : MoveEngines) : (s.setEng half e).core = s.core := by
  unfold State.setEng
  split <;> rfl
@[simp] theorem State.setEng_text (s : State) (half : Nat) (e : MoveEngines) : (s.setEng half e).text = s.text := by
  unfold State.setEng
  split <;> rfl
@[simp] theorem State.setEng_srch (s : State) (half : Nat) (e : MoveEngines) : (s.setEng half e).srch = s.srch := by
  unfold State.setEng
  split <;> rfl
@[simp] theorem State.setEng_sync (s : State) (half : Nat) (e : MoveEngines) : (s.setEng half e).sync = s.sync := by
  unfold State.setEng
  split <;> rfl
@[simp] theorem State.setEng_ck (s : State) (half : Nat) (e : MoveEngines) : (s.setEng half e).ck = s.ck := by
  unfold State.setEng
  split <;> rfl
@[simp] theorem State.setEng_fab (s : State) (half : Nat) (e : MoveEngines) : (s.setEng half e).fab = s.fab := by
  unfold State.setEng
  split <;> rfl
@[simp] theorem State.setEng_pwr (s : State) (half : Nat) (e : MoveEngines) : (s.setEng half e).pwr = s.pwr := by
  unfold State.setEng
  split <;> rfl
@[simp] theorem State.setEng_pending (s : State) (half : Nat) (e : MoveEngines) : (s.setEng half e).pending = s.pending := by
  unfold State.setEng
  split <;> rfl
@[simp] theorem State.setEng_free (s : State) (half : Nat) (e : MoveEngines) : (s.setEng half e).free = s.free := by
  unfold State.setEng
  split <;> rfl

@[simp] theorem State.setCam_tick (s : State) (half : Nat) (c : CamHalf) : (s.setCam half c).tick = s.tick := by
  unfold State.setCam
  split <;> rfl
@[simp] theorem State.setCam_frameNumber (s : State) (half : Nat) (c : CamHalf) : (s.setCam half c).frame = s.frame := by
  unfold State.setCam
  split <;> rfl
@[simp] theorem State.setCam_frameStart (s : State) (half : Nat) (c : CamHalf) : (s.setCam half c).frameStart = s.frameStart := by
  unfold State.setCam
  split <;> rfl
@[simp] theorem State.setCam_dict (s : State) (half : Nat) (c : CamHalf) : (s.setCam half c).dict = s.dict := by
  unfold State.setCam
  split <;> rfl
@[simp] theorem State.setCam_mgmt (s : State) (half : Nat) (c : CamHalf) : (s.setCam half c).mgmt = s.mgmt := by
  unfold State.setCam
  split <;> rfl
@[simp] theorem State.setCam_fb (s : State) (half : Nat) (c : CamHalf) : (s.setCam half c).fb = s.fb := by
  unfold State.setCam
  split <;> rfl
@[simp] theorem State.setCam_stn (s : State) (half : Nat) (c : CamHalf) : (s.setCam half c).stn = s.stn := by
  unfold State.setCam
  split <;> rfl
@[simp] theorem State.setCam_ses (s : State) (half : Nat) (c : CamHalf) : (s.setCam half c).ses = s.ses := by
  unfold State.setCam
  split <;> rfl
@[simp] theorem State.setCam_tier (s : State) (half : Nat) (c : CamHalf) : (s.setCam half c).tier = s.tier := by
  unfold State.setCam
  split <;> rfl
@[simp] theorem State.setCam_shape (s : State) (half : Nat) (c : CamHalf) : (s.setCam half c).shape = s.shape := by
  unfold State.setCam
  split <;> rfl
@[simp] theorem State.setCam_trv (s : State) (half : Nat) (c : CamHalf) : (s.setCam half c).trv = s.trv := by
  unfold State.setCam
  split <;> rfl
@[simp] theorem State.setCam_core (s : State) (half : Nat) (c : CamHalf) : (s.setCam half c).core = s.core := by
  unfold State.setCam
  split <;> rfl
@[simp] theorem State.setCam_text (s : State) (half : Nat) (c : CamHalf) : (s.setCam half c).text = s.text := by
  unfold State.setCam
  split <;> rfl
@[simp] theorem State.setCam_sync (s : State) (half : Nat) (c : CamHalf) : (s.setCam half c).sync = s.sync := by
  unfold State.setCam
  split <;> rfl
@[simp] theorem State.setCam_ck (s : State) (half : Nat) (c : CamHalf) : (s.setCam half c).ck = s.ck := by
  unfold State.setCam
  split <;> rfl
@[simp] theorem State.setCam_fab (s : State) (half : Nat) (c : CamHalf) : (s.setCam half c).fab = s.fab := by
  unfold State.setCam
  split <;> rfl
@[simp] theorem State.setCam_pwr (s : State) (half : Nat) (c : CamHalf) : (s.setCam half c).pwr = s.pwr := by
  unfold State.setCam
  split <;> rfl
@[simp] theorem State.setCam_pending (s : State) (half : Nat) (c : CamHalf) : (s.setCam half c).pending = s.pending := by
  unfold State.setCam
  split <;> rfl
@[simp] theorem State.setCam_free (s : State) (half : Nat) (c : CamHalf) : (s.setCam half c).free = s.free := by
  unfold State.setCam
  split <;> rfl

@[simp] theorem State.setSess_tick (s : State) (x : Session) : (s.setSess x).tick = s.tick := rfl
@[simp] theorem State.setSess_frameNumber (s : State) (x : Session) : (s.setSess x).frame = s.frame := rfl
@[simp] theorem State.setSess_frameStart (s : State) (x : Session) : (s.setSess x).frameStart = s.frameStart := rfl
@[simp] theorem State.setSess_dict (s : State) (x : Session) : (s.setSess x).dict = s.dict := rfl
@[simp] theorem State.setSess_mgmt (s : State) (x : Session) : (s.setSess x).mgmt = s.mgmt := rfl
@[simp] theorem State.setSess_fb (s : State) (x : Session) : (s.setSess x).fb = s.fb := rfl
@[simp] theorem State.setSess_stn (s : State) (x : Session) : (s.setSess x).stn = s.stn := rfl
@[simp] theorem State.setSess_tier (s : State) (x : Session) : (s.setSess x).tier = s.tier := rfl
@[simp] theorem State.setSess_shape (s : State) (x : Session) : (s.setSess x).shape = s.shape := rfl
@[simp] theorem State.setSess_trv (s : State) (x : Session) : (s.setSess x).trv = s.trv := rfl
@[simp] theorem State.setSess_core (s : State) (x : Session) : (s.setSess x).core = s.core := rfl
@[simp] theorem State.setSess_text (s : State) (x : Session) : (s.setSess x).text = s.text := rfl
@[simp] theorem State.setSess_srch (s : State) (x : Session) : (s.setSess x).srch = s.srch := rfl
@[simp] theorem State.setSess_sync (s : State) (x : Session) : (s.setSess x).sync = s.sync := rfl
@[simp] theorem State.setSess_ck (s : State) (x : Session) : (s.setSess x).ck = s.ck := rfl
@[simp] theorem State.setSess_fab (s : State) (x : Session) : (s.setSess x).fab = s.fab := rfl
@[simp] theorem State.setSess_pwr (s : State) (x : Session) : (s.setSess x).pwr = s.pwr := rfl
@[simp] theorem State.setSess_pending (s : State) (x : Session) : (s.setSess x).pending = s.pending := rfl
@[simp] theorem State.setSess_free (s : State) (x : Session) : (s.setSess x).free = s.free := rfl

@[simp] theorem State.setHash_tick (s : State) (half : Nat) (h : HashTable) : (s.setHash half h).tick = s.tick := by
  unfold State.setHash
  split <;> rfl
@[simp] theorem State.setHash_frameNumber (s : State) (half : Nat) (h : HashTable) : (s.setHash half h).frame = s.frame := by
  unfold State.setHash
  split <;> rfl
@[simp] theorem State.setHash_frameStart (s : State) (half : Nat) (h : HashTable) : (s.setHash half h).frameStart = s.frameStart := by
  unfold State.setHash
  split <;> rfl
@[simp] theorem State.setHash_dict (s : State) (half : Nat) (h : HashTable) : (s.setHash half h).dict = s.dict := by
  unfold State.setHash
  split <;> rfl
@[simp] theorem State.setHash_mgmt (s : State) (half : Nat) (h : HashTable) : (s.setHash half h).mgmt = s.mgmt := by
  unfold State.setHash
  split <;> rfl
@[simp] theorem State.setHash_fb (s : State) (half : Nat) (h : HashTable) : (s.setHash half h).fb = s.fb := by
  unfold State.setHash
  split <;> rfl
@[simp] theorem State.setHash_stn (s : State) (half : Nat) (h : HashTable) : (s.setHash half h).stn = s.stn := by
  unfold State.setHash
  split <;> rfl
@[simp] theorem State.setHash_tier (s : State) (half : Nat) (h : HashTable) : (s.setHash half h).tier = s.tier := by
  unfold State.setHash
  split <;> rfl
@[simp] theorem State.setHash_shape (s : State) (half : Nat) (h : HashTable) : (s.setHash half h).shape = s.shape := by
  unfold State.setHash
  split <;> rfl
@[simp] theorem State.setHash_trv (s : State) (half : Nat) (h : HashTable) : (s.setHash half h).trv = s.trv := by
  unfold State.setHash
  split <;> rfl
@[simp] theorem State.setHash_core (s : State) (half : Nat) (h : HashTable) : (s.setHash half h).core = s.core := by
  unfold State.setHash
  split <;> rfl
@[simp] theorem State.setHash_text (s : State) (half : Nat) (h : HashTable) : (s.setHash half h).text = s.text := by
  unfold State.setHash
  split <;> rfl
@[simp] theorem State.setHash_srch (s : State) (half : Nat) (h : HashTable) : (s.setHash half h).srch = s.srch := by
  unfold State.setHash
  split <;> rfl
@[simp] theorem State.setHash_sync (s : State) (half : Nat) (h : HashTable) : (s.setHash half h).sync = s.sync := by
  unfold State.setHash
  split <;> rfl
@[simp] theorem State.setHash_ck (s : State) (half : Nat) (h : HashTable) : (s.setHash half h).ck = s.ck := by
  unfold State.setHash
  split <;> rfl
@[simp] theorem State.setHash_fab (s : State) (half : Nat) (h : HashTable) : (s.setHash half h).fab = s.fab := by
  unfold State.setHash
  split <;> rfl
@[simp] theorem State.setHash_pwr (s : State) (half : Nat) (h : HashTable) : (s.setHash half h).pwr = s.pwr := by
  unfold State.setHash
  split <;> rfl
@[simp] theorem State.setHash_pending (s : State) (half : Nat) (h : HashTable) : (s.setHash half h).pending = s.pending := by
  unfold State.setHash
  split <;> rfl
@[simp] theorem State.setHash_free (s : State) (half : Nat) (h : HashTable) : (s.setHash half h).free = s.free := by
  unfold State.setHash
  split <;> rfl

@[simp] theorem State.setLevel_tick (s : State) (key : Nat) (v : Int) : (s.setLevel key v).tick = s.tick := rfl
@[simp] theorem State.setLevel_frameNumber (s : State) (key : Nat) (v : Int) : (s.setLevel key v).frame = s.frame := rfl
@[simp] theorem State.setLevel_frameStart (s : State) (key : Nat) (v : Int) : (s.setLevel key v).frameStart = s.frameStart := rfl
@[simp] theorem State.setLevel_dict (s : State) (key : Nat) (v : Int) : (s.setLevel key v).dict = s.dict := rfl
@[simp] theorem State.setLevel_mgmt (s : State) (key : Nat) (v : Int) : (s.setLevel key v).mgmt = s.mgmt := rfl
@[simp] theorem State.setLevel_fb (s : State) (key : Nat) (v : Int) : (s.setLevel key v).fb = s.fb := rfl
@[simp] theorem State.setLevel_stn (s : State) (key : Nat) (v : Int) : (s.setLevel key v).stn = s.stn := rfl
@[simp] theorem State.setLevel_ses (s : State) (key : Nat) (v : Int) : (s.setLevel key v).ses = s.ses := rfl
@[simp] theorem State.setLevel_tier (s : State) (key : Nat) (v : Int) : (s.setLevel key v).tier = s.tier := rfl
@[simp] theorem State.setLevel_trv (s : State) (key : Nat) (v : Int) : (s.setLevel key v).trv = s.trv := rfl
@[simp] theorem State.setLevel_core (s : State) (key : Nat) (v : Int) : (s.setLevel key v).core = s.core := rfl
@[simp] theorem State.setLevel_text (s : State) (key : Nat) (v : Int) : (s.setLevel key v).text = s.text := rfl
@[simp] theorem State.setLevel_srch (s : State) (key : Nat) (v : Int) : (s.setLevel key v).srch = s.srch := rfl
@[simp] theorem State.setLevel_sync (s : State) (key : Nat) (v : Int) : (s.setLevel key v).sync = s.sync := rfl
@[simp] theorem State.setLevel_ck (s : State) (key : Nat) (v : Int) : (s.setLevel key v).ck = s.ck := rfl
@[simp] theorem State.setLevel_fab (s : State) (key : Nat) (v : Int) : (s.setLevel key v).fab = s.fab := rfl
@[simp] theorem State.setLevel_pwr (s : State) (key : Nat) (v : Int) : (s.setLevel key v).pwr = s.pwr := rfl
@[simp] theorem State.setLevel_pending (s : State) (key : Nat) (v : Int) : (s.setLevel key v).pending = s.pending := rfl
@[simp] theorem State.setLevel_free (s : State) (key : Nat) (v : Int) : (s.setLevel key v).free = s.free := rfl

@[simp] theorem State.setGate_tick (s : State) (half : Nat) (g : GateSt) : (s.setGate half g).tick = s.tick := by
  unfold State.setGate
  split <;> rfl
@[simp] theorem State.setGate_frameNumber (s : State) (half : Nat) (g : GateSt) : (s.setGate half g).frame = s.frame := by
  unfold State.setGate
  split <;> rfl
@[simp] theorem State.setGate_frameStart (s : State) (half : Nat) (g : GateSt) : (s.setGate half g).frameStart = s.frameStart := by
  unfold State.setGate
  split <;> rfl
@[simp] theorem State.setGate_dict (s : State) (half : Nat) (g : GateSt) : (s.setGate half g).dict = s.dict := by
  unfold State.setGate
  split <;> rfl
@[simp] theorem State.setGate_mgmt (s : State) (half : Nat) (g : GateSt) : (s.setGate half g).mgmt = s.mgmt := by
  unfold State.setGate
  split <;> rfl
@[simp] theorem State.setGate_fb (s : State) (half : Nat) (g : GateSt) : (s.setGate half g).fb = s.fb := by
  unfold State.setGate
  split <;> rfl
@[simp] theorem State.setGate_stn (s : State) (half : Nat) (g : GateSt) : (s.setGate half g).stn = s.stn := by
  unfold State.setGate
  split <;> rfl
@[simp] theorem State.setGate_ses (s : State) (half : Nat) (g : GateSt) : (s.setGate half g).ses = s.ses := by
  unfold State.setGate
  split <;> rfl
@[simp] theorem State.setGate_tier (s : State) (half : Nat) (g : GateSt) : (s.setGate half g).tier = s.tier := by
  unfold State.setGate
  split <;> rfl
@[simp] theorem State.setGate_trv (s : State) (half : Nat) (g : GateSt) : (s.setGate half g).trv = s.trv := by
  unfold State.setGate
  split <;> rfl
@[simp] theorem State.setGate_core (s : State) (half : Nat) (g : GateSt) : (s.setGate half g).core = s.core := by
  unfold State.setGate
  split <;> rfl
@[simp] theorem State.setGate_text (s : State) (half : Nat) (g : GateSt) : (s.setGate half g).text = s.text := by
  unfold State.setGate
  split <;> rfl
@[simp] theorem State.setGate_srch (s : State) (half : Nat) (g : GateSt) : (s.setGate half g).srch = s.srch := by
  unfold State.setGate
  split <;> rfl
@[simp] theorem State.setGate_sync (s : State) (half : Nat) (g : GateSt) : (s.setGate half g).sync = s.sync := by
  unfold State.setGate
  split <;> rfl
@[simp] theorem State.setGate_ck (s : State) (half : Nat) (g : GateSt) : (s.setGate half g).ck = s.ck := by
  unfold State.setGate
  split <;> rfl
@[simp] theorem State.setGate_fab (s : State) (half : Nat) (g : GateSt) : (s.setGate half g).fab = s.fab := by
  unfold State.setGate
  split <;> rfl
@[simp] theorem State.setGate_pwr (s : State) (half : Nat) (g : GateSt) : (s.setGate half g).pwr = s.pwr := by
  unfold State.setGate
  split <;> rfl
@[simp] theorem State.setGate_pending (s : State) (half : Nat) (g : GateSt) : (s.setGate half g).pending = s.pending := by
  unfold State.setGate
  split <;> rfl
@[simp] theorem State.setGate_free (s : State) (half : Nat) (g : GateSt) : (s.setGate half g).free = s.free := by
  unfold State.setGate
  split <;> rfl

@[simp] theorem State.setClusterStore_tick (s : State) (c : Nat) (b : ByteStore) : (s.setClusterStore c b).tick = s.tick := rfl
@[simp] theorem State.setClusterStore_frameNumber (s : State) (c : Nat) (b : ByteStore) : (s.setClusterStore c b).frame = s.frame := rfl
@[simp] theorem State.setClusterStore_frameStart (s : State) (c : Nat) (b : ByteStore) : (s.setClusterStore c b).frameStart = s.frameStart := rfl
@[simp] theorem State.setClusterStore_dict (s : State) (c : Nat) (b : ByteStore) : (s.setClusterStore c b).dict = s.dict := rfl
@[simp] theorem State.setClusterStore_mgmt (s : State) (c : Nat) (b : ByteStore) : (s.setClusterStore c b).mgmt = s.mgmt := rfl
@[simp] theorem State.setClusterStore_fb (s : State) (c : Nat) (b : ByteStore) : (s.setClusterStore c b).fb = s.fb := rfl
@[simp] theorem State.setClusterStore_stn (s : State) (c : Nat) (b : ByteStore) : (s.setClusterStore c b).stn = s.stn := rfl
@[simp] theorem State.setClusterStore_ses (s : State) (c : Nat) (b : ByteStore) : (s.setClusterStore c b).ses = s.ses := rfl
@[simp] theorem State.setClusterStore_tier (s : State) (c : Nat) (b : ByteStore) : (s.setClusterStore c b).tier = s.tier := rfl
@[simp] theorem State.setClusterStore_shape (s : State) (c : Nat) (b : ByteStore) : (s.setClusterStore c b).shape = s.shape := rfl
@[simp] theorem State.setClusterStore_trv (s : State) (c : Nat) (b : ByteStore) : (s.setClusterStore c b).trv = s.trv := rfl
@[simp] theorem State.setClusterStore_text (s : State) (c : Nat) (b : ByteStore) : (s.setClusterStore c b).text = s.text := rfl
@[simp] theorem State.setClusterStore_srch (s : State) (c : Nat) (b : ByteStore) : (s.setClusterStore c b).srch = s.srch := rfl
@[simp] theorem State.setClusterStore_sync (s : State) (c : Nat) (b : ByteStore) : (s.setClusterStore c b).sync = s.sync := rfl
@[simp] theorem State.setClusterStore_ck (s : State) (c : Nat) (b : ByteStore) : (s.setClusterStore c b).ck = s.ck := rfl
@[simp] theorem State.setClusterStore_fab (s : State) (c : Nat) (b : ByteStore) : (s.setClusterStore c b).fab = s.fab := rfl
@[simp] theorem State.setClusterStore_pwr (s : State) (c : Nat) (b : ByteStore) : (s.setClusterStore c b).pwr = s.pwr := rfl
@[simp] theorem State.setClusterStore_pending (s : State) (c : Nat) (b : ByteStore) : (s.setClusterStore c b).pending = s.pending := rfl
@[simp] theorem State.setClusterStore_free (s : State) (c : Nat) (b : ByteStore) : (s.setClusterStore c b).free = s.free := rfl

@[simp] theorem State.setCore_tick (s : State) (k : Nat) (c : Core) : (s.setCore k c).tick = s.tick := rfl
@[simp] theorem State.setCore_frameNumber (s : State) (k : Nat) (c : Core) : (s.setCore k c).frame = s.frame := rfl
@[simp] theorem State.setCore_frameStart (s : State) (k : Nat) (c : Core) : (s.setCore k c).frameStart = s.frameStart := rfl
@[simp] theorem State.setCore_dict (s : State) (k : Nat) (c : Core) : (s.setCore k c).dict = s.dict := rfl
@[simp] theorem State.setCore_mgmt (s : State) (k : Nat) (c : Core) : (s.setCore k c).mgmt = s.mgmt := rfl
@[simp] theorem State.setCore_fb (s : State) (k : Nat) (c : Core) : (s.setCore k c).fb = s.fb := rfl
@[simp] theorem State.setCore_stn (s : State) (k : Nat) (c : Core) : (s.setCore k c).stn = s.stn := rfl
@[simp] theorem State.setCore_ses (s : State) (k : Nat) (c : Core) : (s.setCore k c).ses = s.ses := rfl
@[simp] theorem State.setCore_tier (s : State) (k : Nat) (c : Core) : (s.setCore k c).tier = s.tier := rfl
@[simp] theorem State.setCore_shape (s : State) (k : Nat) (c : Core) : (s.setCore k c).shape = s.shape := rfl
@[simp] theorem State.setCore_trv (s : State) (k : Nat) (c : Core) : (s.setCore k c).trv = s.trv := rfl
@[simp] theorem State.setCore_text (s : State) (k : Nat) (c : Core) : (s.setCore k c).text = s.text := rfl
@[simp] theorem State.setCore_srch (s : State) (k : Nat) (c : Core) : (s.setCore k c).srch = s.srch := rfl
@[simp] theorem State.setCore_sync (s : State) (k : Nat) (c : Core) : (s.setCore k c).sync = s.sync := rfl
@[simp] theorem State.setCore_ck (s : State) (k : Nat) (c : Core) : (s.setCore k c).ck = s.ck := rfl
@[simp] theorem State.setCore_fab (s : State) (k : Nat) (c : Core) : (s.setCore k c).fab = s.fab := rfl
@[simp] theorem State.setCore_pwr (s : State) (k : Nat) (c : Core) : (s.setCore k c).pwr = s.pwr := rfl
@[simp] theorem State.setCore_pending (s : State) (k : Nat) (c : Core) : (s.setCore k c).pending = s.pending := rfl
@[simp] theorem State.setCore_free (s : State) (k : Nat) (c : Core) : (s.setCore k c).free = s.free := rfl

@[simp] theorem State.setSync_tick (s : State) (n : Nat) (o : SyncObj) : (s.setSync n o).tick = s.tick := rfl
@[simp] theorem State.setSync_frameNumber (s : State) (n : Nat) (o : SyncObj) : (s.setSync n o).frame = s.frame := rfl
@[simp] theorem State.setSync_frameStart (s : State) (n : Nat) (o : SyncObj) : (s.setSync n o).frameStart = s.frameStart := rfl
@[simp] theorem State.setSync_dict (s : State) (n : Nat) (o : SyncObj) : (s.setSync n o).dict = s.dict := rfl
@[simp] theorem State.setSync_mgmt (s : State) (n : Nat) (o : SyncObj) : (s.setSync n o).mgmt = s.mgmt := rfl
@[simp] theorem State.setSync_fb (s : State) (n : Nat) (o : SyncObj) : (s.setSync n o).fb = s.fb := rfl
@[simp] theorem State.setSync_stn (s : State) (n : Nat) (o : SyncObj) : (s.setSync n o).stn = s.stn := rfl
@[simp] theorem State.setSync_ses (s : State) (n : Nat) (o : SyncObj) : (s.setSync n o).ses = s.ses := rfl
@[simp] theorem State.setSync_tier (s : State) (n : Nat) (o : SyncObj) : (s.setSync n o).tier = s.tier := rfl
@[simp] theorem State.setSync_shape (s : State) (n : Nat) (o : SyncObj) : (s.setSync n o).shape = s.shape := rfl
@[simp] theorem State.setSync_trv (s : State) (n : Nat) (o : SyncObj) : (s.setSync n o).trv = s.trv := rfl
@[simp] theorem State.setSync_core (s : State) (n : Nat) (o : SyncObj) : (s.setSync n o).core = s.core := rfl
@[simp] theorem State.setSync_text (s : State) (n : Nat) (o : SyncObj) : (s.setSync n o).text = s.text := rfl
@[simp] theorem State.setSync_srch (s : State) (n : Nat) (o : SyncObj) : (s.setSync n o).srch = s.srch := rfl
@[simp] theorem State.setSync_ck (s : State) (n : Nat) (o : SyncObj) : (s.setSync n o).ck = s.ck := rfl
@[simp] theorem State.setSync_fab (s : State) (n : Nat) (o : SyncObj) : (s.setSync n o).fab = s.fab := rfl
@[simp] theorem State.setSync_pwr (s : State) (n : Nat) (o : SyncObj) : (s.setSync n o).pwr = s.pwr := rfl
@[simp] theorem State.setSync_pending (s : State) (n : Nat) (o : SyncObj) : (s.setSync n o).pending = s.pending := rfl
@[simp] theorem State.setSync_free (s : State) (n : Nat) (o : SyncObj) : (s.setSync n o).free = s.free := rfl

@[simp] theorem State.setTrvSlot_tick (s : State) (t : Nat) (x : TrvSlot) : (s.setTrvSlot t x).tick = s.tick := rfl
@[simp] theorem State.setTrvSlot_frameNumber (s : State) (t : Nat) (x : TrvSlot) : (s.setTrvSlot t x).frame = s.frame := rfl
@[simp] theorem State.setTrvSlot_frameStart (s : State) (t : Nat) (x : TrvSlot) : (s.setTrvSlot t x).frameStart = s.frameStart := rfl
@[simp] theorem State.setTrvSlot_dict (s : State) (t : Nat) (x : TrvSlot) : (s.setTrvSlot t x).dict = s.dict := rfl
@[simp] theorem State.setTrvSlot_mgmt (s : State) (t : Nat) (x : TrvSlot) : (s.setTrvSlot t x).mgmt = s.mgmt := rfl
@[simp] theorem State.setTrvSlot_fb (s : State) (t : Nat) (x : TrvSlot) : (s.setTrvSlot t x).fb = s.fb := rfl
@[simp] theorem State.setTrvSlot_stn (s : State) (t : Nat) (x : TrvSlot) : (s.setTrvSlot t x).stn = s.stn := rfl
@[simp] theorem State.setTrvSlot_ses (s : State) (t : Nat) (x : TrvSlot) : (s.setTrvSlot t x).ses = s.ses := rfl
@[simp] theorem State.setTrvSlot_tier (s : State) (t : Nat) (x : TrvSlot) : (s.setTrvSlot t x).tier = s.tier := rfl
@[simp] theorem State.setTrvSlot_shape (s : State) (t : Nat) (x : TrvSlot) : (s.setTrvSlot t x).shape = s.shape := rfl
@[simp] theorem State.setTrvSlot_core (s : State) (t : Nat) (x : TrvSlot) : (s.setTrvSlot t x).core = s.core := rfl
@[simp] theorem State.setTrvSlot_text (s : State) (t : Nat) (x : TrvSlot) : (s.setTrvSlot t x).text = s.text := rfl
@[simp] theorem State.setTrvSlot_srch (s : State) (t : Nat) (x : TrvSlot) : (s.setTrvSlot t x).srch = s.srch := rfl
@[simp] theorem State.setTrvSlot_sync (s : State) (t : Nat) (x : TrvSlot) : (s.setTrvSlot t x).sync = s.sync := rfl
@[simp] theorem State.setTrvSlot_ck (s : State) (t : Nat) (x : TrvSlot) : (s.setTrvSlot t x).ck = s.ck := rfl
@[simp] theorem State.setTrvSlot_fab (s : State) (t : Nat) (x : TrvSlot) : (s.setTrvSlot t x).fab = s.fab := rfl
@[simp] theorem State.setTrvSlot_pwr (s : State) (t : Nat) (x : TrvSlot) : (s.setTrvSlot t x).pwr = s.pwr := rfl
@[simp] theorem State.setTrvSlot_pending (s : State) (t : Nat) (x : TrvSlot) : (s.setTrvSlot t x).pending = s.pending := rfl
@[simp] theorem State.setTrvSlot_free (s : State) (t : Nat) (x : TrvSlot) : (s.setTrvSlot t x).free = s.free := rfl

@[simp] theorem State.setModelSlot_tick (s : State) (m : Nat) (x : ModelSlot) : (s.setModelSlot m x).tick = s.tick := rfl
@[simp] theorem State.setModelSlot_frameNumber (s : State) (m : Nat) (x : ModelSlot) : (s.setModelSlot m x).frame = s.frame := rfl
@[simp] theorem State.setModelSlot_frameStart (s : State) (m : Nat) (x : ModelSlot) : (s.setModelSlot m x).frameStart = s.frameStart := rfl
@[simp] theorem State.setModelSlot_dict (s : State) (m : Nat) (x : ModelSlot) : (s.setModelSlot m x).dict = s.dict := rfl
@[simp] theorem State.setModelSlot_mgmt (s : State) (m : Nat) (x : ModelSlot) : (s.setModelSlot m x).mgmt = s.mgmt := rfl
@[simp] theorem State.setModelSlot_fb (s : State) (m : Nat) (x : ModelSlot) : (s.setModelSlot m x).fb = s.fb := rfl
@[simp] theorem State.setModelSlot_stn (s : State) (m : Nat) (x : ModelSlot) : (s.setModelSlot m x).stn = s.stn := rfl
@[simp] theorem State.setModelSlot_ses (s : State) (m : Nat) (x : ModelSlot) : (s.setModelSlot m x).ses = s.ses := rfl
@[simp] theorem State.setModelSlot_shape (s : State) (m : Nat) (x : ModelSlot) : (s.setModelSlot m x).shape = s.shape := rfl
@[simp] theorem State.setModelSlot_trv (s : State) (m : Nat) (x : ModelSlot) : (s.setModelSlot m x).trv = s.trv := rfl
@[simp] theorem State.setModelSlot_core (s : State) (m : Nat) (x : ModelSlot) : (s.setModelSlot m x).core = s.core := rfl
@[simp] theorem State.setModelSlot_text (s : State) (m : Nat) (x : ModelSlot) : (s.setModelSlot m x).text = s.text := rfl
@[simp] theorem State.setModelSlot_srch (s : State) (m : Nat) (x : ModelSlot) : (s.setModelSlot m x).srch = s.srch := rfl
@[simp] theorem State.setModelSlot_sync (s : State) (m : Nat) (x : ModelSlot) : (s.setModelSlot m x).sync = s.sync := rfl
@[simp] theorem State.setModelSlot_ck (s : State) (m : Nat) (x : ModelSlot) : (s.setModelSlot m x).ck = s.ck := rfl
@[simp] theorem State.setModelSlot_fab (s : State) (m : Nat) (x : ModelSlot) : (s.setModelSlot m x).fab = s.fab := rfl
@[simp] theorem State.setModelSlot_pwr (s : State) (m : Nat) (x : ModelSlot) : (s.setModelSlot m x).pwr = s.pwr := rfl
@[simp] theorem State.setModelSlot_pending (s : State) (m : Nat) (x : ModelSlot) : (s.setModelSlot m x).pending = s.pending := rfl
@[simp] theorem State.setModelSlot_free (s : State) (m : Nat) (x : ModelSlot) : (s.setModelSlot m x).free = s.free := rfl


@[simp] theorem State.setKeySlot_tick (s : State) (k : Nat) (x : KeySlot) : (s.setKeySlot k x).tick = s.tick := rfl
@[simp] theorem State.setKeySlot_frameNumber (s : State) (k : Nat) (x : KeySlot) : (s.setKeySlot k x).frame = s.frame := rfl
@[simp] theorem State.setKeySlot_frameStart (s : State) (k : Nat) (x : KeySlot) : (s.setKeySlot k x).frameStart = s.frameStart := rfl
@[simp] theorem State.setKeySlot_dict (s : State) (k : Nat) (x : KeySlot) : (s.setKeySlot k x).dict = s.dict := rfl
@[simp] theorem State.setKeySlot_fb (s : State) (k : Nat) (x : KeySlot) : (s.setKeySlot k x).fb = s.fb := rfl
@[simp] theorem State.setKeySlot_stn (s : State) (k : Nat) (x : KeySlot) : (s.setKeySlot k x).stn = s.stn := rfl
@[simp] theorem State.setKeySlot_ses (s : State) (k : Nat) (x : KeySlot) : (s.setKeySlot k x).ses = s.ses := rfl
@[simp] theorem State.setKeySlot_tier (s : State) (k : Nat) (x : KeySlot) : (s.setKeySlot k x).tier = s.tier := rfl
@[simp] theorem State.setKeySlot_shape (s : State) (k : Nat) (x : KeySlot) : (s.setKeySlot k x).shape = s.shape := rfl
@[simp] theorem State.setKeySlot_trv (s : State) (k : Nat) (x : KeySlot) : (s.setKeySlot k x).trv = s.trv := rfl
@[simp] theorem State.setKeySlot_core (s : State) (k : Nat) (x : KeySlot) : (s.setKeySlot k x).core = s.core := rfl
@[simp] theorem State.setKeySlot_text (s : State) (k : Nat) (x : KeySlot) : (s.setKeySlot k x).text = s.text := rfl
@[simp] theorem State.setKeySlot_srch (s : State) (k : Nat) (x : KeySlot) : (s.setKeySlot k x).srch = s.srch := rfl
@[simp] theorem State.setKeySlot_sync (s : State) (k : Nat) (x : KeySlot) : (s.setKeySlot k x).sync = s.sync := rfl
@[simp] theorem State.setKeySlot_ck (s : State) (k : Nat) (x : KeySlot) : (s.setKeySlot k x).ck = s.ck := rfl
@[simp] theorem State.setKeySlot_fab (s : State) (k : Nat) (x : KeySlot) : (s.setKeySlot k x).fab = s.fab := rfl
@[simp] theorem State.setKeySlot_pwr (s : State) (k : Nat) (x : KeySlot) : (s.setKeySlot k x).pwr = s.pwr := rfl
@[simp] theorem State.setKeySlot_pending (s : State) (k : Nat) (x : KeySlot) : (s.setKeySlot k x).pending = s.pending := rfl
@[simp] theorem State.setKeySlot_free (s : State) (k : Nat) (x : KeySlot) : (s.setKeySlot k x).free = s.free := rfl

@[simp] theorem State.setRoute_tick (s : State) (e : RouteEntry) : (s.setRoute e).tick = s.tick := rfl
@[simp] theorem State.setRoute_frameNumber (s : State) (e : RouteEntry) : (s.setRoute e).frame = s.frame := rfl
@[simp] theorem State.setRoute_frameStart (s : State) (e : RouteEntry) : (s.setRoute e).frameStart = s.frameStart := rfl
@[simp] theorem State.setRoute_dict (s : State) (e : RouteEntry) : (s.setRoute e).dict = s.dict := rfl
@[simp] theorem State.setRoute_mgmt (s : State) (e : RouteEntry) : (s.setRoute e).mgmt = s.mgmt := rfl
@[simp] theorem State.setRoute_fb (s : State) (e : RouteEntry) : (s.setRoute e).fb = s.fb := rfl
@[simp] theorem State.setRoute_stn (s : State) (e : RouteEntry) : (s.setRoute e).stn = s.stn := rfl
@[simp] theorem State.setRoute_ses (s : State) (e : RouteEntry) : (s.setRoute e).ses = s.ses := rfl
@[simp] theorem State.setRoute_tier (s : State) (e : RouteEntry) : (s.setRoute e).tier = s.tier := rfl
@[simp] theorem State.setRoute_shape (s : State) (e : RouteEntry) : (s.setRoute e).shape = s.shape := rfl
@[simp] theorem State.setRoute_trv (s : State) (e : RouteEntry) : (s.setRoute e).trv = s.trv := rfl
@[simp] theorem State.setRoute_core (s : State) (e : RouteEntry) : (s.setRoute e).core = s.core := rfl
@[simp] theorem State.setRoute_text (s : State) (e : RouteEntry) : (s.setRoute e).text = s.text := rfl
@[simp] theorem State.setRoute_srch (s : State) (e : RouteEntry) : (s.setRoute e).srch = s.srch := rfl
@[simp] theorem State.setRoute_sync (s : State) (e : RouteEntry) : (s.setRoute e).sync = s.sync := rfl
@[simp] theorem State.setRoute_ck (s : State) (e : RouteEntry) : (s.setRoute e).ck = s.ck := rfl
@[simp] theorem State.setRoute_pwr (s : State) (e : RouteEntry) : (s.setRoute e).pwr = s.pwr := rfl
@[simp] theorem State.setRoute_pending (s : State) (e : RouteEntry) : (s.setRoute e).pending = s.pending := rfl
@[simp] theorem State.setRoute_free (s : State) (e : RouteEntry) : (s.setRoute e).free = s.free := rfl

@[simp] theorem State.setPort_tick (s : State) (p : Nat) (x : FabPort) : (s.setPort p x).tick = s.tick := rfl
@[simp] theorem State.setPort_frameNumber (s : State) (p : Nat) (x : FabPort) : (s.setPort p x).frame = s.frame := rfl
@[simp] theorem State.setPort_frameStart (s : State) (p : Nat) (x : FabPort) : (s.setPort p x).frameStart = s.frameStart := rfl
@[simp] theorem State.setPort_dict (s : State) (p : Nat) (x : FabPort) : (s.setPort p x).dict = s.dict := rfl
@[simp] theorem State.setPort_mgmt (s : State) (p : Nat) (x : FabPort) : (s.setPort p x).mgmt = s.mgmt := rfl
@[simp] theorem State.setPort_fb (s : State) (p : Nat) (x : FabPort) : (s.setPort p x).fb = s.fb := rfl
@[simp] theorem State.setPort_stn (s : State) (p : Nat) (x : FabPort) : (s.setPort p x).stn = s.stn := rfl
@[simp] theorem State.setPort_ses (s : State) (p : Nat) (x : FabPort) : (s.setPort p x).ses = s.ses := rfl
@[simp] theorem State.setPort_tier (s : State) (p : Nat) (x : FabPort) : (s.setPort p x).tier = s.tier := rfl
@[simp] theorem State.setPort_shape (s : State) (p : Nat) (x : FabPort) : (s.setPort p x).shape = s.shape := rfl
@[simp] theorem State.setPort_trv (s : State) (p : Nat) (x : FabPort) : (s.setPort p x).trv = s.trv := rfl
@[simp] theorem State.setPort_core (s : State) (p : Nat) (x : FabPort) : (s.setPort p x).core = s.core := rfl
@[simp] theorem State.setPort_text (s : State) (p : Nat) (x : FabPort) : (s.setPort p x).text = s.text := rfl
@[simp] theorem State.setPort_srch (s : State) (p : Nat) (x : FabPort) : (s.setPort p x).srch = s.srch := rfl
@[simp] theorem State.setPort_sync (s : State) (p : Nat) (x : FabPort) : (s.setPort p x).sync = s.sync := rfl
@[simp] theorem State.setPort_ck (s : State) (p : Nat) (x : FabPort) : (s.setPort p x).ck = s.ck := rfl
@[simp] theorem State.setPort_pwr (s : State) (p : Nat) (x : FabPort) : (s.setPort p x).pwr = s.pwr := rfl
@[simp] theorem State.setPort_pending (s : State) (p : Nat) (x : FabPort) : (s.setPort p x).pending = s.pending := rfl
@[simp] theorem State.setPort_free (s : State) (p : Nat) (x : FabPort) : (s.setPort p x).free = s.free := rfl

@[simp] theorem State.setChannel_tick (s : State) (c : Nat) (x : ChannelSt) : (s.setChannel c x).tick = s.tick := rfl
@[simp] theorem State.setChannel_frameNumber (s : State) (c : Nat) (x : ChannelSt) : (s.setChannel c x).frame = s.frame := rfl
@[simp] theorem State.setChannel_frameStart (s : State) (c : Nat) (x : ChannelSt) : (s.setChannel c x).frameStart = s.frameStart := rfl
@[simp] theorem State.setChannel_dict (s : State) (c : Nat) (x : ChannelSt) : (s.setChannel c x).dict = s.dict := rfl
@[simp] theorem State.setChannel_mgmt (s : State) (c : Nat) (x : ChannelSt) : (s.setChannel c x).mgmt = s.mgmt := rfl
@[simp] theorem State.setChannel_stn (s : State) (c : Nat) (x : ChannelSt) : (s.setChannel c x).stn = s.stn := rfl
@[simp] theorem State.setChannel_ses (s : State) (c : Nat) (x : ChannelSt) : (s.setChannel c x).ses = s.ses := rfl
@[simp] theorem State.setChannel_tier (s : State) (c : Nat) (x : ChannelSt) : (s.setChannel c x).tier = s.tier := rfl
@[simp] theorem State.setChannel_shape (s : State) (c : Nat) (x : ChannelSt) : (s.setChannel c x).shape = s.shape := rfl
@[simp] theorem State.setChannel_trv (s : State) (c : Nat) (x : ChannelSt) : (s.setChannel c x).trv = s.trv := rfl
@[simp] theorem State.setChannel_core (s : State) (c : Nat) (x : ChannelSt) : (s.setChannel c x).core = s.core := rfl
@[simp] theorem State.setChannel_text (s : State) (c : Nat) (x : ChannelSt) : (s.setChannel c x).text = s.text := rfl
@[simp] theorem State.setChannel_srch (s : State) (c : Nat) (x : ChannelSt) : (s.setChannel c x).srch = s.srch := rfl
@[simp] theorem State.setChannel_sync (s : State) (c : Nat) (x : ChannelSt) : (s.setChannel c x).sync = s.sync := rfl
@[simp] theorem State.setChannel_ck (s : State) (c : Nat) (x : ChannelSt) : (s.setChannel c x).ck = s.ck := rfl
@[simp] theorem State.setChannel_fab (s : State) (c : Nat) (x : ChannelSt) : (s.setChannel c x).fab = s.fab := rfl
@[simp] theorem State.setChannel_pwr (s : State) (c : Nat) (x : ChannelSt) : (s.setChannel c x).pwr = s.pwr := rfl
@[simp] theorem State.setChannel_pending (s : State) (c : Nat) (x : ChannelSt) : (s.setChannel c x).pending = s.pending := rfl
@[simp] theorem State.setChannel_free (s : State) (c : Nat) (x : ChannelSt) : (s.setChannel c x).free = s.free := rfl

@[simp] theorem State.setWitness_tick (s : State) (w : WitnessSt) : (s.setWitness w).tick = s.tick := rfl
@[simp] theorem State.setWitness_frameNumber (s : State) (w : WitnessSt) : (s.setWitness w).frame = s.frame := rfl
@[simp] theorem State.setWitness_frameStart (s : State) (w : WitnessSt) : (s.setWitness w).frameStart = s.frameStart := rfl
@[simp] theorem State.setWitness_dict (s : State) (w : WitnessSt) : (s.setWitness w).dict = s.dict := rfl
@[simp] theorem State.setWitness_mgmt (s : State) (w : WitnessSt) : (s.setWitness w).mgmt = s.mgmt := rfl
@[simp] theorem State.setWitness_stn (s : State) (w : WitnessSt) : (s.setWitness w).stn = s.stn := rfl
@[simp] theorem State.setWitness_ses (s : State) (w : WitnessSt) : (s.setWitness w).ses = s.ses := rfl
@[simp] theorem State.setWitness_tier (s : State) (w : WitnessSt) : (s.setWitness w).tier = s.tier := rfl
@[simp] theorem State.setWitness_shape (s : State) (w : WitnessSt) : (s.setWitness w).shape = s.shape := rfl
@[simp] theorem State.setWitness_trv (s : State) (w : WitnessSt) : (s.setWitness w).trv = s.trv := rfl
@[simp] theorem State.setWitness_core (s : State) (w : WitnessSt) : (s.setWitness w).core = s.core := rfl
@[simp] theorem State.setWitness_text (s : State) (w : WitnessSt) : (s.setWitness w).text = s.text := rfl
@[simp] theorem State.setWitness_srch (s : State) (w : WitnessSt) : (s.setWitness w).srch = s.srch := rfl
@[simp] theorem State.setWitness_sync (s : State) (w : WitnessSt) : (s.setWitness w).sync = s.sync := rfl
@[simp] theorem State.setWitness_ck (s : State) (w : WitnessSt) : (s.setWitness w).ck = s.ck := rfl
@[simp] theorem State.setWitness_fab (s : State) (w : WitnessSt) : (s.setWitness w).fab = s.fab := rfl
@[simp] theorem State.setWitness_pwr (s : State) (w : WitnessSt) : (s.setWitness w).pwr = s.pwr := rfl
@[simp] theorem State.setWitness_pending (s : State) (w : WitnessSt) : (s.setWitness w).pending = s.pending := rfl
@[simp] theorem State.setWitness_free (s : State) (w : WitnessSt) : (s.setWitness w).free = s.free := rfl

@[simp] theorem State.setUcie_tick (s : State) (m : Nat) (x : UcieModule) : (s.setUcie m x).tick = s.tick := rfl
@[simp] theorem State.setUcie_frameNumber (s : State) (m : Nat) (x : UcieModule) : (s.setUcie m x).frame = s.frame := rfl
@[simp] theorem State.setUcie_frameStart (s : State) (m : Nat) (x : UcieModule) : (s.setUcie m x).frameStart = s.frameStart := rfl
@[simp] theorem State.setUcie_dict (s : State) (m : Nat) (x : UcieModule) : (s.setUcie m x).dict = s.dict := rfl
@[simp] theorem State.setUcie_mgmt (s : State) (m : Nat) (x : UcieModule) : (s.setUcie m x).mgmt = s.mgmt := rfl
@[simp] theorem State.setUcie_fb (s : State) (m : Nat) (x : UcieModule) : (s.setUcie m x).fb = s.fb := rfl
@[simp] theorem State.setUcie_ses (s : State) (m : Nat) (x : UcieModule) : (s.setUcie m x).ses = s.ses := rfl
@[simp] theorem State.setUcie_tier (s : State) (m : Nat) (x : UcieModule) : (s.setUcie m x).tier = s.tier := rfl
@[simp] theorem State.setUcie_shape (s : State) (m : Nat) (x : UcieModule) : (s.setUcie m x).shape = s.shape := rfl
@[simp] theorem State.setUcie_trv (s : State) (m : Nat) (x : UcieModule) : (s.setUcie m x).trv = s.trv := rfl
@[simp] theorem State.setUcie_core (s : State) (m : Nat) (x : UcieModule) : (s.setUcie m x).core = s.core := rfl
@[simp] theorem State.setUcie_text (s : State) (m : Nat) (x : UcieModule) : (s.setUcie m x).text = s.text := rfl
@[simp] theorem State.setUcie_srch (s : State) (m : Nat) (x : UcieModule) : (s.setUcie m x).srch = s.srch := rfl
@[simp] theorem State.setUcie_sync (s : State) (m : Nat) (x : UcieModule) : (s.setUcie m x).sync = s.sync := rfl
@[simp] theorem State.setUcie_ck (s : State) (m : Nat) (x : UcieModule) : (s.setUcie m x).ck = s.ck := rfl
@[simp] theorem State.setUcie_fab (s : State) (m : Nat) (x : UcieModule) : (s.setUcie m x).fab = s.fab := rfl
@[simp] theorem State.setUcie_pwr (s : State) (m : Nat) (x : UcieModule) : (s.setUcie m x).pwr = s.pwr := rfl
@[simp] theorem State.setUcie_pending (s : State) (m : Nat) (x : UcieModule) : (s.setUcie m x).pending = s.pending := rfl
@[simp] theorem State.setUcie_free (s : State) (m : Nat) (x : UcieModule) : (s.setUcie m x).free = s.free := rfl

@[simp] theorem State.setAssoc_tick (s : State) (a : Nat) (x : Assoc) : (s.setAssoc a x).tick = s.tick := rfl
@[simp] theorem State.setAssoc_frameNumber (s : State) (a : Nat) (x : Assoc) : (s.setAssoc a x).frame = s.frame := rfl
@[simp] theorem State.setAssoc_frameStart (s : State) (a : Nat) (x : Assoc) : (s.setAssoc a x).frameStart = s.frameStart := rfl
@[simp] theorem State.setAssoc_dict (s : State) (a : Nat) (x : Assoc) : (s.setAssoc a x).dict = s.dict := rfl
@[simp] theorem State.setAssoc_fb (s : State) (a : Nat) (x : Assoc) : (s.setAssoc a x).fb = s.fb := rfl
@[simp] theorem State.setAssoc_stn (s : State) (a : Nat) (x : Assoc) : (s.setAssoc a x).stn = s.stn := rfl
@[simp] theorem State.setAssoc_ses (s : State) (a : Nat) (x : Assoc) : (s.setAssoc a x).ses = s.ses := rfl
@[simp] theorem State.setAssoc_tier (s : State) (a : Nat) (x : Assoc) : (s.setAssoc a x).tier = s.tier := rfl
@[simp] theorem State.setAssoc_shape (s : State) (a : Nat) (x : Assoc) : (s.setAssoc a x).shape = s.shape := rfl
@[simp] theorem State.setAssoc_trv (s : State) (a : Nat) (x : Assoc) : (s.setAssoc a x).trv = s.trv := rfl
@[simp] theorem State.setAssoc_core (s : State) (a : Nat) (x : Assoc) : (s.setAssoc a x).core = s.core := rfl
@[simp] theorem State.setAssoc_text (s : State) (a : Nat) (x : Assoc) : (s.setAssoc a x).text = s.text := rfl
@[simp] theorem State.setAssoc_srch (s : State) (a : Nat) (x : Assoc) : (s.setAssoc a x).srch = s.srch := rfl
@[simp] theorem State.setAssoc_sync (s : State) (a : Nat) (x : Assoc) : (s.setAssoc a x).sync = s.sync := rfl
@[simp] theorem State.setAssoc_ck (s : State) (a : Nat) (x : Assoc) : (s.setAssoc a x).ck = s.ck := rfl
@[simp] theorem State.setAssoc_fab (s : State) (a : Nat) (x : Assoc) : (s.setAssoc a x).fab = s.fab := rfl
@[simp] theorem State.setAssoc_pwr (s : State) (a : Nat) (x : Assoc) : (s.setAssoc a x).pwr = s.pwr := rfl
@[simp] theorem State.setAssoc_pending (s : State) (a : Nat) (x : Assoc) : (s.setAssoc a x).pending = s.pending := rfl
@[simp] theorem State.setAssoc_free (s : State) (a : Nat) (x : Assoc) : (s.setAssoc a x).free = s.free := rfl

@[simp] theorem State.draw_tick (s : State) : (s.draw).2.tick = s.tick := rfl
@[simp] theorem State.draw_frameNumber (s : State) : (s.draw).2.frame = s.frame := rfl
@[simp] theorem State.draw_frameStart (s : State) : (s.draw).2.frameStart = s.frameStart := rfl
@[simp] theorem State.draw_dict (s : State) : (s.draw).2.dict = s.dict := rfl
@[simp] theorem State.draw_mgmt (s : State) : (s.draw).2.mgmt = s.mgmt := rfl
@[simp] theorem State.draw_fb (s : State) : (s.draw).2.fb = s.fb := rfl
@[simp] theorem State.draw_stn (s : State) : (s.draw).2.stn = s.stn := rfl
@[simp] theorem State.draw_ses (s : State) : (s.draw).2.ses = s.ses := rfl
@[simp] theorem State.draw_tier (s : State) : (s.draw).2.tier = s.tier := rfl
@[simp] theorem State.draw_shape (s : State) : (s.draw).2.shape = s.shape := rfl
@[simp] theorem State.draw_trv (s : State) : (s.draw).2.trv = s.trv := rfl
@[simp] theorem State.draw_core (s : State) : (s.draw).2.core = s.core := rfl
@[simp] theorem State.draw_text (s : State) : (s.draw).2.text = s.text := rfl
@[simp] theorem State.draw_srch (s : State) : (s.draw).2.srch = s.srch := rfl
@[simp] theorem State.draw_sync (s : State) : (s.draw).2.sync = s.sync := rfl
@[simp] theorem State.draw_ck (s : State) : (s.draw).2.ck = s.ck := rfl
@[simp] theorem State.draw_fab (s : State) : (s.draw).2.fab = s.fab := rfl
@[simp] theorem State.draw_pwr (s : State) : (s.draw).2.pwr = s.pwr := rfl
@[simp] theorem State.draw_pending (s : State) : (s.draw).2.pending = s.pending := rfl

end Sys2Proof.Machine
end

