-- ==== Sys2Proof/Laws/Read.lean ====
section
/-! SUPPORT. Reading a part of the state back after it was stored: the same number gives what was stored, another number what stood there. -/

namespace Sys2Proof.Machine

/-- A scalar object reads as the value it was set to. -/
@[simp] theorem State.objAt_setObjAt (s : State) (o : ObjSpec) (i j v : Nat) : (s.setObjAt o i j v).objAt o i j = v := by
  unfold State.objAt State.setObjAt
  rw [getD_mputD, if_pos rfl]

/-- Setting one object leaves every object of another key as it was. -/
theorem State.objAt_setObjAt_ne (s : State) (o p : ObjSpec) (i j k l v : Nat) (h : objKey p k l ≠ objKey o i j) :
    (s.setObjAt o i j v).objAt p k l = s.objAt p k l := by
  unfold State.objAt State.setObjAt
  unfold mputD
  split
  · rw [mget_mdel_ne _ _ _ h]
  · rw [mget_mput_ne _ _ _ _ h]

@[simp] theorem State.obj_setObj (s : State) (o : ObjSpec) (i v : Nat) : (s.setObj o i v).obj o i = v := State.objAt_setObjAt s o i 0 v

theorem State.obj_setObj_ne (s : State) (o p : ObjSpec) (i k v : Nat) (h : objKey p k 0 ≠ objKey o i 0) :
    (s.setObj o i v).obj p k = s.obj p k := State.objAt_setObjAt_ne s o p i 0 k 0 v h

/-- Setting an OCTETS object changes no scalar object. -/
@[simp] theorem State.objAt_setStrAt (s : State) (o p : ObjSpec) (i j k l : Nat) (v : Octets) :
    (s.setStrAt o i j v).objAt p k l = s.objAt p k l := rfl

@[simp] theorem State.obj_setStr (s : State) (o p : ObjSpec) (i k : Nat) (v : Octets) : (s.setStr o i v).obj p k = s.obj p k := rfl

/-- An OCTETS object reads as the string it was set to. -/
@[simp] theorem State.strAt_setStrAt (s : State) (o : ObjSpec) (i j : Nat) (v : Octets) : (s.setStrAt o i j v).strAt o i j = v := by
  unfold State.strAt State.setStrAt
  rw [getD_mputD, if_pos rfl]

@[simp] theorem State.str_setStr (s : State) (o : ObjSpec) (i : Nat) (v : Octets) : (s.setStr o i v).str o i = v :=
  State.strAt_setStrAt s o i 0 v

/-- Setting an OCTETS object changes no other. -/
theorem State.str_setStr_ne (s : State) (o p : ObjSpec) (i k : Nat) (v : Octets) (h : objKey p k 0 ≠ objKey o i 0) :
    (s.setStr o i v).str p k = s.str p k := by
  have m : mget (mputD (strDefault o) s.dict.strings (objKey o i 0) v) (objKey p k 0) = mget s.dict.strings (objKey p k 0) := by
    unfold mputD
    split
    · exact mget_mdel_ne _ _ _ h
    · exact mget_mput_ne _ _ _ _ h
  show (mget (mputD _ _ _ _) _).getD _ = _
  rw [m]
  rfl

/-- Setting a scalar object changes no OCTETS object. -/
@[simp] theorem State.strAt_setObjAt (s : State) (o p : ObjSpec) (i j k l v : Nat) : (s.setObjAt o i j v).strAt p k l = s.strAt p k l := rfl

@[simp] theorem State.str_setObj (s : State) (o p : ObjSpec) (i k v : Nat) : (s.setObj o i v).str p k = s.str p k := rfl

/-- Counting adds to the counter. -/
@[simp] theorem State.obj_addObj (s : State) (o : ObjSpec) (i n : Nat) : (s.addObj o i n).obj o i = s.obj o i + n := by
  unfold State.addObj
  exact State.obj_setObj s o i _

@[simp] theorem State.obj_bump (s : State) (o : ObjSpec) (i : Nat) : (s.bump o i).obj o i = s.obj o i + 1 := State.obj_addObj s o i 1

@[simp] theorem State.station_setStation (s : State) (n : Nat) (x : Station) : (s.setStation n x).station n = x := by
  unfold State.station State.setStation
  rw [mget_mput_self]
  rfl

theorem State.coreAt_setCore (s : State) (k j : Nat) (x : Core) : (s.setCore k x).coreAt j = if j = k then x else s.coreAt j := by
  unfold State.coreAt State.setCore
  rw [getD_mputD]

@[simp] theorem State.coreAt_setCore_self (s : State) (k : Nat) (x : Core) : (s.setCore k x).coreAt k = x := by
  rw [State.coreAt_setCore, if_pos rfl]

theorem State.port_setPort (s : State) (p j : Nat) (x : FabPort) : (s.setPort p x).port j = if j = p then x else s.port j := by
  unfold State.port State.setPort
  rw [mget_mput]
  split <;> rfl

@[simp] theorem State.port_setPort_self (s : State) (p : Nat) (x : FabPort) : (s.setPort p x).port p = x := by
  rw [State.port_setPort, if_pos rfl]

theorem State.ucie_setUcie (s : State) (m j : Nat) (x : UcieModule) : (s.setUcie m x).ucie j = if j = m then x else s.ucie j := by
  unfold State.ucie State.setUcie
  rw [mget_mput]
  split <;> rfl

@[simp] theorem State.ucie_setUcie_self (s : State) (m : Nat) (x : UcieModule) : (s.setUcie m x).ucie m = x := by
  rw [State.ucie_setUcie, if_pos rfl]

theorem State.channel_setChannel (s : State) (c j : Nat) (x : ChannelSt) : (s.setChannel c x).channel j = if j = c then x else s.channel j := by
  unfold State.channel State.setChannel
  rw [mget_mput]
  split <;> rfl

@[simp] theorem State.channel_setChannel_self (s : State) (c : Nat) (x : ChannelSt) : (s.setChannel c x).channel c = x := by
  rw [State.channel_setChannel, if_pos rfl]

theorem State.modelSlot_setModelSlot (s : State) (m j : Nat) (x : ModelSlot) : (s.setModelSlot m x).modelSlot j = if j = m then x else s.modelSlot j := by
  unfold State.modelSlot State.setModelSlot
  rw [mget_mput]
  split <;> rfl

@[simp] theorem State.modelSlot_setModelSlot_self (s : State) (m : Nat) (x : ModelSlot) : (s.setModelSlot m x).modelSlot m = x := by
  rw [State.modelSlot_setModelSlot, if_pos rfl]

/-- Storing an index that has no tiles only stores it, its map following its nodes. -/
theorem State.setVx_untiled {s : State} {ii : Nat} {x : VxIndex} (h : x.tiles = []) :
    ∃ m, s.setVx ii x = { s with srch := { s.srch with vx := mput s.srch.vx ii { x with map := m } } } := by
  unfold State.setVx
  simp only [h, List.isEmpty_nil, if_true]
  exact ⟨_, rfl⟩

theorem State.keySlot_setKeySlot (s : State) (k j : Nat) (x : KeySlot) : (s.setKeySlot k x).keySlot j = if j = k then x else s.keySlot j := by
  unfold State.keySlot State.setKeySlot
  rw [mget_mput]
  split <;> rfl

@[simp] theorem State.keySlot_setKeySlot_self (s : State) (k : Nat) (x : KeySlot) : (s.setKeySlot k x).keySlot k = x := by
  rw [State.keySlot_setKeySlot, if_pos rfl]

theorem State.syncObj_setSync (s : State) (n j : Nat) (x : SyncObj) : (s.setSync n x).syncObj j = if j = n then x else s.syncObj j := by
  unfold State.syncObj State.setSync
  rw [getD_mputD]

@[simp] theorem State.syncObj_setSync_self (s : State) (n : Nat) (x : SyncObj) : (s.setSync n x).syncObj n = x := by
  rw [State.syncObj_setSync, if_pos rfl]

theorem State.tileAt_setTile (s : State) (a j : Nat) (x : Tile) : (s.setTile a x).tileAt j = if j = a then x else s.tileAt j := by
  unfold State.tileAt State.setTile
  rw [getD_mputD]

@[simp] theorem State.tileAt_setTile_self (s : State) (a : Nat) (x : Tile) : (s.setTile a x).tileAt a = x := by
  rw [State.tileAt_setTile, if_pos rfl]

theorem State.trvSlot_setTrvSlot (s : State) (t j : Nat) (x : TrvSlot) : (s.setTrvSlot t x).trvSlot j = if j = t then x else s.trvSlot j := by
  unfold State.trvSlot State.setTrvSlot
  rw [getD_mputD]

@[simp] theorem State.trvSlot_setTrvSlot_self (s : State) (t : Nat) (x : TrvSlot) : (s.setTrvSlot t x).trvSlot t = x := by
  rw [State.trvSlot_setTrvSlot, if_pos rfl]

theorem State.clusterStore_setClusterStore (s : State) (c j : Nat) (x : ByteStore) : (s.setClusterStore c x).clusterStore j = if j = c then x else s.clusterStore j := by
  unfold State.clusterStore State.setClusterStore
  rw [getD_mputD]

@[simp] theorem State.clusterStore_setClusterStore_self (s : State) (c : Nat) (x : ByteStore) : (s.setClusterStore c x).clusterStore c = x := by
  rw [State.clusterStore_setClusterStore, if_pos rfl]

theorem State.sess_setSess (s : State) (x : Session) (j : Nat) : (s.setSess x).sess j = if j = x.index then some x else s.sess j := by
  unfold State.sess State.setSess
  by_cases h : j < farBase <;> by_cases hx : x.index < farBase <;> simp only [h, hx, if_true, if_false, mget_mput] <;> (try rfl) <;>
    rw [if_neg (by omega)]

@[simp] theorem State.sess_setSess_self (s : State) (x : Session) : (s.setSess x).sess x.index = some x := by
  rw [State.sess_setSess, if_pos rfl]

@[simp] theorem State.cam_setCam (s : State) (half : Nat) (x : CamHalf) : (s.setCam half x).cam half = x := by
  unfold State.cam State.setCam
  cases h : half == 0 <;> simp

@[simp] theorem State.hash_setHash (s : State) (half : Nat) (x : HashTable) : (s.setHash half x).hash half = x := by
  unfold State.hash State.setHash
  cases h : half == 0 <;> simp

@[simp] theorem State.gate_setGate (s : State) (half : Nat) (x : GateSt) : (s.setGate half x).gate half = x := by
  unfold State.gate State.setGate
  cases h : half == 0 <;> simp

@[simp] theorem State.eng_setEng (s : State) (half : Nat) (x : MoveEngines) : (s.setEng half x).eng half = x := by
  unfold State.eng State.setEng
  cases h : half == 0 <;> simp

@[simp] theorem State.book_setBook (s : State) (half : Nat) (b : Book) : (s.setBook half b).book half = b := by
  unfold State.book State.setBook
  cases h : half == 0 <;> simp

end Sys2Proof.Machine
end

