-- ==== Sys2Proof/Laws/Issue.lean ====
section
/-! SUPPORT. What an issue does, in the words of the statements: the core in its issue cycle, and the state in which its result is in flight. -/

namespace Sys2Proof.Machine

/-- An admitted operation acts on its core in its issue cycle, and on nothing else. -/
theorem issue_eq {s : State} {u : OpUnit} {a : Issue} (h : s.admits u a = true) (f : Core → Core) :
    s.issue u a f = s.afterIssue a u.slot (f (s.issued a)) := by
  simp [State.issue, h]

/-- An operation of a core that does not issue does nothing. -/
theorem issue_void {s : State} {u : OpUnit} {a : Issue} (h : s.issues a.core = false) (f : Core → Core) : s.issue u a f = s := by
  simp [State.issue, State.admits, State.badBundle, h]

/-- Where the cluster runs service code, every unit is admitted on a core that issues, in lockstep. -/
theorem admits_service {s : State} (u : OpUnit) {a : Issue} (h : s.inRun (a.core / 8) = false) :
    s.admits u a = (s.issues a.core && s.inStep a) := by
  simp [State.admits, h]

/-- The core of an issue in service code becomes what the operation makes of it. -/
theorem coreAt_afterIssue {s : State} {a : Issue} (h : s.inRun (a.core / 8) = false) (slot : Nat) (c : Core) :
    (s.afterIssue a slot c).coreAt a.core = c := by
  simp [State.afterIssue, h]

/-- The core of an issue in a traverse's code becomes what the operation makes of it, its slot done. -/
theorem coreAt_afterIssue_run {s : State} {a : Issue} (h : s.inRun (a.core / 8) = true) (slot : Nat) (c : Core) :
    (s.afterIssue a slot c).coreAt a.core = { c with done := slot :: c.done } := by
  simp [State.afterIssue, h]

end Sys2Proof.Machine
end

