-- ==== Sys2Proof/Laws/Keeps.lean ====
section
/-! SUPPORT. What an operation of the machine may change, said once for each of them: the parts of the state it may write.  Every lemma
of the files Keeps1 and so on has one form: given that the parts an operation writes are among P, its result keeps what its argument kept. -/

namespace Sys2Proof.Machine

/-- State t keeps of s the queue, the canonical form of all stores, and every part that is not among P. -/
def Keeps (P : Part → Prop) (s t : State) : Prop :=
  t.pending = s.pending ∧ (s.stores → t.stores) ∧ ∀ p, ¬ P p → s.agrees t p

/-- The state itself has the property. -/
def It (R : State → Prop) (s : State) : Prop := R s

/-- The first of a pair has it. -/
def Fst {α β : Type} (F : (State → Prop) → α → Prop) (R : State → Prop) (p : α × β) : Prop := F R p.1

/-- The second of a pair has it. -/
def Snd {α β : Type} (F : (State → Prop) → β → Prop) (R : State → Prop) (p : α × β) : Prop := F R p.2

/-- What is there has it. -/
def Opt {α : Type} (F : (State → Prop) → α → Prop) (R : State → Prop) (o : Option α) : Prop := ∀ x, o = some x → F R x

/-- The outcome is a next state, which has it. -/
def Nxt (R : State → Prop) (o : Host.Outcome State Fault Refusal) : Prop := ∃ t, o = .next t ∧ R t

/-- The states of a result x, found in it as F says, have the property R. -/
def At {α : Type} (R : State → Prop) (F : (State → Prop) → α → Prop) (x : α) : Prop := F R x

variable {α β : Type} {R : State → Prop} {F : (State → Prop) → α → Prop} {G : (State → Prop) → β → Prop}

theorem At.fst {p : α × β} (h : At R (Fst F) p) : At R F p.1 := h
theorem At.snd {p : α × β} (h : At R (Snd G) p) : At R G p.2 := h
theorem At.mkFst {a : α} {b : β} : At R (Fst F) (a, b) = At R F a := rfl
theorem At.mkSnd {a : α} {b : β} : At R (Snd G) (a, b) = At R G b := rfl
theorem At.none : At R (Opt F) none := fun _ h => nomatch h
theorem At.some {a : α} (h : At R F a) : At R (Opt F) (some a) := fun _ hx => by cases hx; exact h
theorem At.next {t : State} (h : At R It t) : At R Nxt (.next t) := ⟨t, rfl, h⟩
theorem At.ite {c : Prop} [Decidable c] {a b : α} (ha : At R F a) (hb : At R F b) : At R F (if c then a else b) := by
  split
  · exact ha
  · exact hb

/-- Of a state on the way only that it has the property matters from then on. -/
theorem At.cut (v : State) {x : α} (hv : At R It v) (h : At R It v → At R F x) : At R F x := h hv

theorem At.foldl {γ : Type} {f : α → γ → α} {l : List γ} {a : α} (hf : ∀ b x, At R F b → At R F (f b x)) (ha : At R F a) :
    At R F (l.foldl f a) := by
  induction l generalizing a with
  | nil => exact ha
  | cons x r ih => exact ih (hf a x ha)

theorem At.foldr {γ : Type} {f : γ → α → α} {l : List γ} {a : α} (hf : ∀ x b, At R F b → At R F (f x b)) (ha : At R F a) :
    At R F (l.foldr f a) := by
  induction l with
  | nil => exact ha
  | cons x r ih => exact hf x _ ih

theorem At.ofFst {p : α × β} {a : α} {b : β} (e : p = (a, b)) (h : At R (Fst F) p) : At R F a := by subst e; exact h
theorem At.ofSnd {p : α × β} {a : α} {b : β} (e : p = (a, b)) (h : At R (Snd G) p) : At R G b := by subst e; exact h
theorem At.ofNext {o : Host.Outcome State Fault Refusal} {t : State} (e : o = .next t) (h : At R Nxt o) : At R It t := by
  obtain ⟨u, hu, hr⟩ := h
  rw [e] at hu
  cases hu
  exact hr
theorem At.ofOpt {o : Option α} {a : α} (e : o = .some a) (h : At R (Opt F) o) : At R F a := h a e
theorem At.ofOptFst {o : Option (α × β)} {a : α} {b : β} (e : o = .some (a, b)) (h : At R (Opt (Fst F)) o) : At R F a := h _ e
theorem At.ofOptSnd {o : Option (α × β)} {a : α} {b : β} (e : o = .some (a, b)) (h : At R (Opt (Snd G)) o) : At R G b := h _ e
theorem At.ofOptSnd2 {γ : Type} {o : Option (γ × α × β)} {c : γ} {a : α} {b : β} (e : o = .some (c, a, b)) (h : At R (Opt (Snd (Snd G))) o) :
    At R G b := h _ e
theorem At.ofMkFst {a : α} {b : β} (h : At R (Fst F) (a, b)) : At R F a := h
theorem At.ofMkSnd {a : α} {b : β} (h : At R (Snd G) (a, b)) : At R G b := h
theorem At.mapAny {γ : Type} {f : γ → α} {o : Option γ} (hf : ∀ x, At R F (f x)) : At R (Opt F) (o.map f) := by
  intro x hx
  obtain ⟨y, -, rfl⟩ := Option.map_eq_some_iff.1 hx
  exact hf y
theorem At.getD {o : Option α} {d : α} (h : At R (Opt F) o) (hd : At R F d) : At R F (o.getD d) := by
  cases o with
  | none => exact hd
  | some x => exact h x rfl
theorem At.map {γ : Type} {H : (State → Prop) → γ → Prop} {f : γ → α} {o : Option γ} (hf : ∀ x, At R H x → At R F (f x)) (h : At R (Opt H) o) :
    At R (Opt F) (o.map f) := by
  intro x hx
  obtain ⟨y, hy, rfl⟩ := Option.map_eq_some_iff.1 hx
  exact hf y (h y hy)

variable {P : Part → Prop} {s₀ : State}

theorem keeps_refl (s : State) : At (Keeps P s) It s := ⟨rfl, id, fun p _ => by cases p <;> rfl⟩

/-- A write of parts among P that leaves cores and cluster stores alone. -/
theorem At.upd {u : State} {x0 x1 x2 : Nat} {x3 : Dict} {x4 : Mgmt} {x5 : FieldBookSt} {x6 : StationsSt} {x7 : SessionsSt} {x8 : TiersSt}
    {x9 : ShapingSt} {x10 : TraverseSt} {x12 : TextSt} {x13 : SearchSt} {x14 : SyncSt} {x15 : CheckpointSt} {x16 : FabricSt} {x17 : PowerSt}
    {x19 : Nat} (hu : At (Keeps P s₀) It u) (h0 : P .tick ∨ x0 = u.tick) (h1 : P .frame ∨ x1 = u.frame) (h2 : P .frameStart ∨ x2 = u.frameStart)
    (h3 : P .dict ∨ x3 = u.dict) (h4 : P .mgmt ∨ x4 = u.mgmt) (h5 : P .fb ∨ x5 = u.fb) (h6 : P .stn ∨ x6 = u.stn) (h7 : P .ses ∨ x7 = u.ses)
    (h8 : P .tier ∨ x8 = u.tier) (h9 : P .shape ∨ x9 = u.shape) (h10 : P .trv ∨ x10 = u.trv) (h12 : P .text ∨ x12 = u.text)
    (h13 : P .srch ∨ x13 = u.srch) (h14 : P .sync ∨ x14 = u.sync) (h15 : P .ck ∨ x15 = u.ck) (h16 : P .fab ∨ x16 = u.fab)
    (h17 : P .pwr ∨ x17 = u.pwr) (h19 : P .free ∨ x19 = u.free) :
    At (Keeps P s₀) It ⟨x0, x1, x2, x3, x4, x5, x6, x7, x8, x9, x10, u.core, x12, x13, x14, x15, x16, x17, u.pending, x19⟩ := by
  obtain ⟨a, b, c⟩ := hu
  refine ⟨a, b, fun p hp => ?_⟩
  have hc := c p hp
  cases p <;> first
    | exact hc
    | exact (h0.resolve_left hp).trans hc
    | exact (h1.resolve_left hp).trans hc
    | exact (h2.resolve_left hp).trans hc
    | exact (h3.resolve_left hp).trans hc
    | exact (h4.resolve_left hp).trans hc
    | exact (h5.resolve_left hp).trans hc
    | exact (h6.resolve_left hp).trans hc
    | exact (h7.resolve_left hp).trans hc
    | exact (h8.resolve_left hp).trans hc
    | exact (h9.resolve_left hp).trans hc
    | exact (h10.resolve_left hp).trans hc
    | exact (h12.resolve_left hp).trans hc
    | exact (h13.resolve_left hp).trans hc
    | exact (h14.resolve_left hp).trans hc
    | exact (h15.resolve_left hp).trans hc
    | exact (h16.resolve_left hp).trans hc
    | exact (h17.resolve_left hp).trans hc
    | exact (h19.resolve_left hp).trans hc

/-- The same where cores or cluster stores are written, in their canonical form. -/
theorem At.updCore {u : State} {x0 x1 x2 : Nat} {x3 : Dict} {x4 : Mgmt} {x5 : FieldBookSt} {x6 : StationsSt} {x7 : SessionsSt} {x8 : TiersSt}
    {x9 : ShapingSt} {x10 : TraverseSt} {x11 : CoresSt} {x12 : TextSt} {x13 : SearchSt} {x14 : SyncSt} {x15 : CheckpointSt} {x16 : FabricSt}
    {x17 : PowerSt} {x19 : Nat} (hc : P .core) (hst : u.stores → State.stores { u with core := x11 })
    (h : At (Keeps P s₀) It { u with
      tick := x0, frame := x1, frameStart := x2, dict := x3, mgmt := x4, fb := x5, stn := x6, ses := x7, tier := x8, shape := x9, trv := x10
      text := x12, srch := x13, sync := x14, ck := x15, fab := x16, pwr := x17, free := x19 }) :
    At (Keeps P s₀) It ⟨x0, x1, x2, x3, x4, x5, x6, x7, x8, x9, x10, x11, x12, x13, x14, x15, x16, x17, u.pending, x19⟩ := by
  obtain ⟨a, b, c⟩ := h
  refine ⟨a, fun hs => hst (b hs), fun p hp => ?_⟩
  have hp' := c p hp
  cases p <;> first | exact hp' | exact absurd hc hp

/-! ### Stores of cores and clusters -/

theorem mem_mput {α : Type} {m : SMap α} {n : Nat} {x : α} {p : Nat × α} (h : p ∈ mput m n x) : p ∈ m ∨ p = (n, x) := by
  induction m with
  | nil => exact .inr (by simpa [mput] using h)
  | cons q r ih =>
    obtain ⟨k, v⟩ := q
    unfold mput at h
    split at h
    · rcases List.mem_cons.1 h with h | h
      · exact .inr h
      · exact .inl h
    · split at h
      · rcases List.mem_cons.1 h with h | h
        · exact .inr h
        · exact .inl (List.mem_cons_of_mem _ h)
      · rcases List.mem_cons.1 h with h | h
        · exact .inl (h ▸ List.mem_cons_self)
        · exact (ih h).imp (List.mem_cons_of_mem _) id

theorem mem_mdel {α : Type} {m : SMap α} {n : Nat} {p : Nat × α} (h : p ∈ mdel m n) : p ∈ m := by
  induction m with
  | nil => simp [mdel] at h
  | cons q r ih =>
    obtain ⟨k, v⟩ := q
    unfold mdel at h
    split at h
    · exact List.mem_cons_of_mem _ (ih h)
    · rcases List.mem_cons.1 h with h | h
      · exact h ▸ List.mem_cons_self
      · exact List.mem_cons_of_mem _ (ih h)

theorem mem_mputD {α : Type} [DecidableEq α] {d : α} {m : SMap α} {n : Nat} {x : α} {p : Nat × α} (h : p ∈ mputD d m n x) :
    p ∈ m ∨ p = (n, x) := by
  unfold mputD at h
  split at h
  · exact .inl (mem_mdel h)
  · exact mem_mput h

theorem mem_of_mget {α : Type} {m : SMap α} {n : Nat} {x : α} (h : mget m n = some x) : (n, x) ∈ m := by
  induction m with
  | nil => simp [mget] at h
  | cons q r ih =>
    obtain ⟨k, v⟩ := q
    unfold mget at h
    split at h
    · rename_i hk
      subst hk
      cases h
      exact List.mem_cons_self
    · exact List.mem_cons_of_mem _ (ih h)

theorem Core.write_store (c : Core) (v : WbVal) (h : Memory.wf c.store = true) : Memory.wf (c.write v).store = true := by
  cases v <;> simp only [Core.write] <;> (try split) <;> first | exact h | exact wf_foldl_bput _ _ _ _ h

theorem Core.settle_store (c : Core) (n : Nat) (h : Memory.wf c.store = true) : Memory.wf (c.settle n).store = true := by
  have : ∀ (l : List WriteBack) (y : Core), Memory.wf y.store = true → Memory.wf (l.foldl (fun y w => y.write w.val) y).store = true := by
    intro l
    induction l with
    | nil => exact fun y hy => hy
    | cons w l ih => exact fun y hy => ih _ (y.write_store w.val hy)
  exact this _ _ h

theorem State.coreAt_store {s : State} (k : Nat) (h : s.stores) : Memory.wf (s.coreAt k).store = true := by
  unfold State.coreAt
  cases hm : mget s.core.cores k with
  | none => rfl
  | some c => exact h.1 _ (mem_of_mget hm)

theorem State.clusterStore_wf {s : State} (n : Nat) (h : s.stores) : Memory.wf (s.clusterStore n) = true := by
  unfold State.clusterStore
  cases hm : mget s.core.clusterStores n with
  | none => rfl
  | some c => exact h.2 _ (mem_of_mget hm)

theorem Core.result_store {c : Core} {slot latency : Nat} {v : WbVal} (h : Memory.wf c.store = true) :
    Memory.wf (c.result slot latency v).store = true := h

theorem Core.flags_store {c : Core} {f : Sticky} (h : Memory.wf c.store = true) : Memory.wf (c.flags f).store = true := h

theorem Core.moved_store {c : Core} {d : Nat} {code : Bool} (h : Memory.wf c.store = true) : Memory.wf (c.moved d code).store = true := by
  unfold Core.moved
  split <;> exact h

theorem Core.lanewise_store {c : Core} {vd : Nat} {vp : VPred} {latency : Nat} {f : Nat → Lane × Sticky} (h : Memory.wf c.store = true) :
    Memory.wf (c.lanewise vd vp latency f).store = true := h

theorem State.setCore_stores {s : State} {k : Nat} {c : Core} (h : s.stores) (hc : Memory.wf c.store = true) : (s.setCore k c).stores := by
  refine ⟨fun p hp => ?_, h.2⟩
  rcases mem_mputD hp with hp | rfl
  · exact h.1 p hp
  · exact hc

theorem wf_foldl_bputs (l : List ClusterWrite) (b : ByteStore) (h : Memory.wf b = true) :
    Memory.wf (l.foldl (fun b w => bputs b w.addr w.bytes) b) = true := by
  induction l generalizing b with
  | nil => exact h
  | cons w l ih => exact ih _ (wf_bputs b w.addr w.bytes h)

theorem State.clusterSettle_stores {s : State} {n c : Nat} (h : s.stores) : (s.clusterSettle n c).stores := by
  unfold State.clusterSettle
  simp only []
  split
  · exact h
  · refine ⟨h.1, fun p hp => ?_⟩
    rcases mem_mputD hp with hp | rfl
    · exact h.2 p hp
    · exact wf_foldl_bputs _ _ (s.clusterStore_wf n h)

theorem State.clusterFetch_stores {s : State} {n : Nat} {r : ClusterRead} (h : s.stores) : (s.clusterFetch n r).stores :=
  State.setCore_stores (State.clusterSettle_stores h) (State.coreAt_store r.core (State.clusterSettle_stores h))

theorem State.clusterAdvance_stores {s : State} {n c : Nat} (h : s.stores) : (s.clusterAdvance n c).stores := by
  unfold State.clusterAdvance
  have : ∀ (l : List ClusterRead) (t : State), t.stores → (l.foldl (fun s r => s.clusterFetch n r) t).stores := by
    intro l
    induction l with
    | nil => exact fun t ht => ht
    | cons r l ih => exact fun t ht => ih _ (State.clusterFetch_stores ht)
  refine State.clusterSettle_stores (this _ _ ?_)
  split <;> exact h

theorem State.cameTo_stores {s : State} {a : Issue} (h : s.stores) : (s.cameTo a).stores := by
  unfold State.cameTo
  exact iteInduction (motive := State.stores) (fun _ => State.clusterAdvance_stores (s := s) h) (fun _ => State.clusterAdvance_stores (s := s) h)

theorem State.issued_store {s : State} {a : Issue} (h : (s.cameTo a).stores) : Memory.wf (s.issued a).store = true := by
  unfold State.issued
  exact Core.settle_store _ _ (Core.moved_store (State.coreAt_store _ h))

theorem coreInit_store : Memory.wf coreInit.store = true := rfl

theorem id_store {c : Core} (h : Memory.wf c.store = true) : Memory.wf (id c).store = true := h

theorem stores_same {u : State} {y2 : SMap (List ClusterWrite)} {y3 : SMap (List ClusterRead)} {y4 y9 : Nat} {y5 y6 : SMap Nat} {y7 y8 : List Nat}
    (h : u.stores) : State.stores { u with core := ⟨u.core.cores, u.core.clusterStores, y2, y3, y4, y5, y6, y7, y8, y9⟩ } := h

theorem stores_nil {u : State} {y2 : SMap (List ClusterWrite)} {y3 : SMap (List ClusterRead)} {y4 y9 : Nat} {y5 y6 : SMap Nat} {y7 y8 : List Nat} :
    State.stores { u with core := ⟨[], [], y2, y3, y4, y5, y6, y7, y8, y9⟩ } := ⟨List.forall_mem_nil _, List.forall_mem_nil _⟩

theorem stores_filter {u : State} {p : Nat × Core → Bool} {q : Nat × ByteStore → Bool} {y2 : SMap (List ClusterWrite)} {y3 : SMap (List ClusterRead)}
    {y4 y9 : Nat} {y5 y6 : SMap Nat} {y7 y8 : List Nat} (h : u.stores) :
    State.stores { u with core := ⟨u.core.cores.filter p, u.core.clusterStores.filter q, y2, y3, y4, y5, y6, y7, y8, y9⟩ } :=
  ⟨fun x hx => h.1 x (List.mem_filter.1 hx).1, fun x hx => h.2 x (List.mem_filter.1 hx).1⟩

theorem reset_stores : State.reset.stores := ⟨List.forall_mem_nil _, List.forall_mem_nil _⟩

end Sys2Proof.Machine
end

