-- ==== Sys2Proof/Laws/Keeps1.lean ====
section
/-! SUPPORT. What the operations of these files may change: Ops, Writes, CamOps, TileOps, SessOps, ShapeOps, CoreBase. -/

namespace Sys2Proof.Machine

set_option linter.all false

/-! ### Machine/Ops.lean -/

theorem State.draw_keeps {P : Part → Prop} {s₀ s : State} (free_ : P .free) (hs : At (Keeps P s₀) It s) : At (Keeps P s₀) (Snd It)
    (State.draw s) := by
  unfold State.draw
  with_reducible repeat' (first
    | assumption | (intro x; refine At.cut x ?_ ?_; rotate_left; intro _; clear_value x; rotate_left; unfold x) | intro _ | lift_lets
    | apply At.ite | apply At.next | apply At.some | exact At.none | dsimp -zeta only [At.mkFst, At.mkSnd] | apply At.foldl
    | apply At.getD | apply At.fst | apply At.snd
    | ((conv => enter [3, 20]) <;> apply At.upd <;> first | exact .inl ‹_› | exact .inr rfl | skip)
    | ((conv => enter [3, 20]) <;> apply At.updCore) | split | exact At.ofMkFst ‹_› | exact At.ofMkSnd ‹_›
    | refine At.ofNext (by assumption) ?_ | refine At.ofFst (by assumption) ?_ | refine At.ofSnd (by assumption) ?_
    | refine At.ofOpt (by assumption) ?_ | refine At.ofOptSnd (by assumption) ?_ | refine At.ofOptFst (by assumption) ?_
    | refine At.ofOptSnd2 (by assumption) ?_ | apply At.mapAny | dsimp +zetaDelta only)

theorem State.freshNonce_keeps {P : Part → Prop} {s₀ s : State} (free_ : P .free) (hs : At (Keeps P s₀) It s) : At (Keeps P s₀) (Snd It)
    (State.freshNonce s) := by
  unfold State.freshNonce
  with_reducible repeat' (first
    | assumption | (intro x; refine At.cut x ?_ ?_; rotate_left; intro _; clear_value x; rotate_left; unfold x) | intro _ | lift_lets
    | apply State.draw_keeps | apply At.ite | apply At.next | apply At.some | exact At.none | dsimp -zeta only [At.mkFst, At.mkSnd]
    | apply At.foldl | apply At.getD | apply At.fst | apply At.snd
    | ((conv => enter [3, 20]) <;> apply At.upd <;> first | exact .inl ‹_› | exact .inr rfl | skip)
    | ((conv => enter [3, 20]) <;> apply At.updCore) | split | exact At.ofMkFst ‹_› | exact At.ofMkSnd ‹_›
    | refine At.ofNext (by assumption) ?_ | refine At.ofFst (by assumption) ?_ | refine At.ofSnd (by assumption) ?_
    | refine At.ofOpt (by assumption) ?_ | refine At.ofOptSnd (by assumption) ?_ | refine At.ofOptFst (by assumption) ?_
    | refine At.ofOptSnd2 (by assumption) ?_ | apply At.mapAny | dsimp +zetaDelta only)

theorem State.setObjAt_keeps {P : Part → Prop} {s₀ s : State} (dict_ : P .dict) (o : ObjSpec) (i : Nat) (j : Nat) (v : Nat) (hs : At (Keeps
    P s₀) It s) : At (Keeps P s₀) It (State.setObjAt s o i j v) := by
  unfold State.setObjAt
  with_reducible repeat' (first
    | assumption | (intro x; refine At.cut x ?_ ?_; rotate_left; intro _; clear_value x; rotate_left; unfold x) | intro _ | lift_lets
    | apply At.ite | apply At.next | apply At.some | exact At.none | dsimp -zeta only [At.mkFst, At.mkSnd] | apply At.foldl
    | apply At.getD | apply At.fst | apply At.snd
    | ((conv => enter [3, 20]) <;> apply At.upd <;> first | exact .inl ‹_› | exact .inr rfl | skip)
    | ((conv => enter [3, 20]) <;> apply At.updCore) | split | exact At.ofMkFst ‹_› | exact At.ofMkSnd ‹_›
    | refine At.ofNext (by assumption) ?_ | refine At.ofFst (by assumption) ?_ | refine At.ofSnd (by assumption) ?_
    | refine At.ofOpt (by assumption) ?_ | refine At.ofOptSnd (by assumption) ?_ | refine At.ofOptFst (by assumption) ?_
    | refine At.ofOptSnd2 (by assumption) ?_ | apply At.mapAny | dsimp +zetaDelta only)

theorem State.setObj_keeps {P : Part → Prop} {s₀ s : State} (dict_ : P .dict) (o : ObjSpec) (i : Nat) (v : Nat) (hs : At (Keeps P s₀) It s)
    : At (Keeps P s₀) It (State.setObj s o i v) := by
  unfold State.setObj
  with_reducible repeat' (first
    | assumption | (intro x; refine At.cut x ?_ ?_; rotate_left; intro _; clear_value x; rotate_left; unfold x) | intro _ | lift_lets
    | apply State.setObjAt_keeps | apply At.ite | apply At.next | apply At.some | exact At.none | dsimp -zeta only [At.mkFst, At.mkSnd]
    | apply At.foldl | apply At.getD | apply At.fst | apply At.snd
    | ((conv => enter [3, 20]) <;> apply At.upd <;> first | exact .inl ‹_› | exact .inr rfl | skip)
    | ((conv => enter [3, 20]) <;> apply At.updCore) | split | exact At.ofMkFst ‹_› | exact At.ofMkSnd ‹_›
    | refine At.ofNext (by assumption) ?_ | refine At.ofFst (by assumption) ?_ | refine At.ofSnd (by assumption) ?_
    | refine At.ofOpt (by assumption) ?_ | refine At.ofOptSnd (by assumption) ?_ | refine At.ofOptFst (by assumption) ?_
    | refine At.ofOptSnd2 (by assumption) ?_ | apply At.mapAny | dsimp +zetaDelta only)

theorem State.addObj_keeps {P : Part → Prop} {s₀ s : State} (dict_ : P .dict) (o : ObjSpec) (i : Nat) (n : Nat) (hs : At (Keeps P s₀) It s)
    : At (Keeps P s₀) It (State.addObj s o i n) := by
  unfold State.addObj
  with_reducible repeat' (first
    | assumption | (intro x; refine At.cut x ?_ ?_; rotate_left; intro _; clear_value x; rotate_left; unfold x) | intro _ | lift_lets
    | apply State.setObj_keeps | apply At.ite | apply At.next | apply At.some | exact At.none | dsimp -zeta only [At.mkFst, At.mkSnd]
    | apply At.foldl | apply At.getD | apply At.fst | apply At.snd
    | ((conv => enter [3, 20]) <;> apply At.upd <;> first | exact .inl ‹_› | exact .inr rfl | skip)
    | ((conv => enter [3, 20]) <;> apply At.updCore) | split | exact At.ofMkFst ‹_› | exact At.ofMkSnd ‹_›
    | refine At.ofNext (by assumption) ?_ | refine At.ofFst (by assumption) ?_ | refine At.ofSnd (by assumption) ?_
    | refine At.ofOpt (by assumption) ?_ | refine At.ofOptSnd (by assumption) ?_ | refine At.ofOptFst (by assumption) ?_
    | refine At.ofOptSnd2 (by assumption) ?_ | apply At.mapAny | dsimp +zetaDelta only)

theorem State.bump_keeps {P : Part → Prop} {s₀ s : State} (dict_ : P .dict) (o : ObjSpec) (i : Nat) (hs : At (Keeps P s₀) It s) : At (Keeps
    P s₀) It (State.bump s o i) := by
  unfold State.bump
  with_reducible repeat' (first
    | assumption | (intro x; refine At.cut x ?_ ?_; rotate_left; intro _; clear_value x; rotate_left; unfold x) | intro _ | lift_lets
    | apply State.addObj_keeps | apply At.ite | apply At.next | apply At.some | exact At.none | dsimp -zeta only [At.mkFst, At.mkSnd]
    | apply At.foldl | apply At.getD | apply At.fst | apply At.snd
    | ((conv => enter [3, 20]) <;> apply At.upd <;> first | exact .inl ‹_› | exact .inr rfl | skip)
    | ((conv => enter [3, 20]) <;> apply At.updCore) | split | exact At.ofMkFst ‹_› | exact At.ofMkSnd ‹_›
    | refine At.ofNext (by assumption) ?_ | refine At.ofFst (by assumption) ?_ | refine At.ofSnd (by assumption) ?_
    | refine At.ofOpt (by assumption) ?_ | refine At.ofOptSnd (by assumption) ?_ | refine At.ofOptFst (by assumption) ?_
    | refine At.ofOptSnd2 (by assumption) ?_ | apply At.mapAny | dsimp +zetaDelta only)

theorem State.setStrAt_keeps {P : Part → Prop} {s₀ s : State} (dict_ : P .dict) (o : ObjSpec) (i : Nat) (j : Nat) (v : Octets) (hs : At
    (Keeps P s₀) It s) : At (Keeps P s₀) It (State.setStrAt s o i j v) := by
  unfold State.setStrAt
  with_reducible repeat' (first
    | assumption | (intro x; refine At.cut x ?_ ?_; rotate_left; intro _; clear_value x; rotate_left; unfold x) | intro _ | lift_lets
    | apply At.ite | apply At.next | apply At.some | exact At.none | dsimp -zeta only [At.mkFst, At.mkSnd] | apply At.foldl
    | apply At.getD | apply At.fst | apply At.snd
    | ((conv => enter [3, 20]) <;> apply At.upd <;> first | exact .inl ‹_› | exact .inr rfl | skip)
    | ((conv => enter [3, 20]) <;> apply At.updCore) | split | exact At.ofMkFst ‹_› | exact At.ofMkSnd ‹_›
    | refine At.ofNext (by assumption) ?_ | refine At.ofFst (by assumption) ?_ | refine At.ofSnd (by assumption) ?_
    | refine At.ofOpt (by assumption) ?_ | refine At.ofOptSnd (by assumption) ?_ | refine At.ofOptFst (by assumption) ?_
    | refine At.ofOptSnd2 (by assumption) ?_ | apply At.mapAny | dsimp +zetaDelta only)

theorem State.setStr_keeps {P : Part → Prop} {s₀ s : State} (dict_ : P .dict) (o : ObjSpec) (i : Nat) (v : Octets) (hs : At (Keeps P s₀) It
    s) : At (Keeps P s₀) It (State.setStr s o i v) := by
  unfold State.setStr
  with_reducible repeat' (first
    | assumption | (intro x; refine At.cut x ?_ ?_; rotate_left; intro _; clear_value x; rotate_left; unfold x) | intro _ | lift_lets
    | apply State.setStrAt_keeps | apply At.ite | apply At.next | apply At.some | exact At.none | dsimp -zeta only [At.mkFst, At.mkSnd]
    | apply At.foldl | apply At.getD | apply At.fst | apply At.snd
    | ((conv => enter [3, 20]) <;> apply At.upd <;> first | exact .inl ‹_› | exact .inr rfl | skip)
    | ((conv => enter [3, 20]) <;> apply At.updCore) | split | exact At.ofMkFst ‹_› | exact At.ofMkSnd ‹_›
    | refine At.ofNext (by assumption) ?_ | refine At.ofFst (by assumption) ?_ | refine At.ofSnd (by assumption) ?_
    | refine At.ofOpt (by assumption) ?_ | refine At.ofOptSnd (by assumption) ?_ | refine At.ofOptFst (by assumption) ?_
    | refine At.ofOptSnd2 (by assumption) ?_ | apply At.mapAny | dsimp +zetaDelta only)

theorem State.setErr_keeps {P : Part → Prop} {s₀ s : State} (fb_ : P .fb) (e : ErrRecorder) (hs : At (Keeps P s₀) It s) : At (Keeps P s₀)
    It (State.setErr s e) := by
  unfold State.setErr
  with_reducible repeat' (first
    | assumption | (intro x; refine At.cut x ?_ ?_; rotate_left; intro _; clear_value x; rotate_left; unfold x) | intro _ | lift_lets
    | apply At.ite | apply At.next | apply At.some | exact At.none | dsimp -zeta only [At.mkFst, At.mkSnd] | apply At.foldl
    | apply At.getD | apply At.fst | apply At.snd
    | ((conv => enter [3, 20]) <;> apply At.upd <;> first | exact .inl ‹_› | exact .inr rfl | skip)
    | ((conv => enter [3, 20]) <;> apply At.updCore) | split | exact At.ofMkFst ‹_› | exact At.ofMkSnd ‹_›
    | refine At.ofNext (by assumption) ?_ | refine At.ofFst (by assumption) ?_ | refine At.ofSnd (by assumption) ?_
    | refine At.ofOpt (by assumption) ?_ | refine At.ofOptSnd (by assumption) ?_ | refine At.ofOptFst (by assumption) ?_
    | refine At.ofOptSnd2 (by assumption) ?_ | apply At.mapAny | dsimp +zetaDelta only)

theorem State.enqueueErr_keeps {P : Part → Prop} {s₀ s : State} (dict_ : P .dict) (fb_ : P .fb) (e : ErrEntry) (hs : At (Keeps P s₀) It s)
    : At (Keeps P s₀) It (State.enqueueErr s e) := by
  unfold State.enqueueErr
  with_reducible repeat' (first
    | assumption | (intro x; refine At.cut x ?_ ?_; rotate_left; intro _; clear_value x; rotate_left; unfold x) | intro _ | lift_lets
    | apply State.setObjAt_keeps | apply State.setErr_keeps | apply At.ite | apply At.next | apply At.some | exact At.none
    | dsimp -zeta only [At.mkFst, At.mkSnd] | apply At.foldl | apply At.getD | apply At.fst | apply At.snd
    | ((conv => enter [3, 20]) <;> apply At.upd <;> first | exact .inl ‹_› | exact .inr rfl | skip)
    | ((conv => enter [3, 20]) <;> apply At.updCore) | split | exact At.ofMkFst ‹_› | exact At.ofMkSnd ‹_›
    | refine At.ofNext (by assumption) ?_ | refine At.ofFst (by assumption) ?_ | refine At.ofSnd (by assumption) ?_
    | refine At.ofOpt (by assumption) ?_ | refine At.ofOptSnd (by assumption) ?_ | refine At.ofOptFst (by assumption) ?_
    | refine At.ofOptSnd2 (by assumption) ?_ | apply At.mapAny | dsimp +zetaDelta only)

theorem State.flushErr_keeps {P : Part → Prop} {s₀ s : State} (dict_ : P .dict) (fb_ : P .fb) (src : Nat) (hs : At (Keeps P s₀) It s) : At
    (Keeps P s₀) It (State.flushErr s src) := by
  unfold State.flushErr
  with_reducible repeat' (first
    | assumption | (intro x; refine At.cut x ?_ ?_; rotate_left; intro _; clear_value x; rotate_left; unfold x) | intro _ | lift_lets
    | apply State.setErr_keeps | apply State.enqueueErr_keeps | apply At.ite | apply At.next | apply At.some | exact At.none
    | dsimp -zeta only [At.mkFst, At.mkSnd] | apply At.foldl | apply At.getD | apply At.fst | apply At.snd
    | ((conv => enter [3, 20]) <;> apply At.upd <;> first | exact .inl ‹_› | exact .inr rfl | skip)
    | ((conv => enter [3, 20]) <;> apply At.updCore) | split | exact At.ofMkFst ‹_› | exact At.ofMkSnd ‹_›
    | refine At.ofNext (by assumption) ?_ | refine At.ofFst (by assumption) ?_ | refine At.ofSnd (by assumption) ?_
    | refine At.ofOpt (by assumption) ?_ | refine At.ofOptSnd (by assumption) ?_ | refine At.ofOptFst (by assumption) ?_
    | refine At.ofOptSnd2 (by assumption) ?_ | apply At.mapAny | dsimp +zetaDelta only)

theorem State.reportBody_keeps {P : Part → Prop} {s₀ s : State} (dict_ : P .dict) (fb_ : P .fb) (src : Nat) (cls : Nat) (cause : Nat) (body
    : Octets) (hs : At (Keeps P s₀) It s) : At (Keeps P s₀) It (State.reportBody s src cls cause body) := by
  unfold State.reportBody
  with_reducible repeat' (first
    | assumption | (intro x; refine At.cut x ?_ ?_; rotate_left; intro _; clear_value x; rotate_left; unfold x) | intro _ | lift_lets
    | apply State.setErr_keeps | apply State.enqueueErr_keeps | apply State.flushErr_keeps | apply At.ite | apply At.next | apply At.some
    | exact At.none | dsimp -zeta only [At.mkFst, At.mkSnd] | apply At.foldl | apply At.getD | apply At.fst | apply At.snd
    | ((conv => enter [3, 20]) <;> apply At.upd <;> first | exact .inl ‹_› | exact .inr rfl | skip)
    | ((conv => enter [3, 20]) <;> apply At.updCore) | split | exact At.ofMkFst ‹_› | exact At.ofMkSnd ‹_›
    | refine At.ofNext (by assumption) ?_ | refine At.ofFst (by assumption) ?_ | refine At.ofSnd (by assumption) ?_
    | refine At.ofOpt (by assumption) ?_ | refine At.ofOptSnd (by assumption) ?_ | refine At.ofOptFst (by assumption) ?_
    | refine At.ofOptSnd2 (by assumption) ?_ | apply At.mapAny | dsimp +zetaDelta only)

theorem State.report_keeps {P : Part → Prop} {s₀ s : State} (dict_ : P .dict) (fb_ : P .fb) (src : Nat) (cls : Nat) (cause : Nat) (hs : At
    (Keeps P s₀) It s) : At (Keeps P s₀) It (State.report s src cls cause) := by
  unfold State.report
  with_reducible repeat' (first
    | assumption | (intro x; refine At.cut x ?_ ?_; rotate_left; intro _; clear_value x; rotate_left; unfold x) | intro _ | lift_lets
    | apply State.reportBody_keeps | apply At.ite | apply At.next | apply At.some | exact At.none | dsimp -zeta only [At.mkFst, At.mkSnd]
    | apply At.foldl | apply At.getD | apply At.fst | apply At.snd
    | ((conv => enter [3, 20]) <;> apply At.upd <;> first | exact .inl ‹_› | exact .inr rfl | skip)
    | ((conv => enter [3, 20]) <;> apply At.updCore) | split | exact At.ofMkFst ‹_› | exact At.ofMkSnd ‹_›
    | refine At.ofNext (by assumption) ?_ | refine At.ofFst (by assumption) ?_ | refine At.ofSnd (by assumption) ?_
    | refine At.ofOpt (by assumption) ?_ | refine At.ofOptSnd (by assumption) ?_ | refine At.ofOptFst (by assumption) ?_
    | refine At.ofOptSnd2 (by assumption) ?_ | apply At.mapAny | dsimp +zetaDelta only)

theorem State.setStation_keeps {P : Part → Prop} {s₀ s : State} (stn_ : P .stn) (n : Nat) (x : Station) (hs : At (Keeps P s₀) It s) : At
    (Keeps P s₀) It (State.setStation s n x) := by
  unfold State.setStation
  with_reducible repeat' (first
    | assumption | (intro x; refine At.cut x ?_ ?_; rotate_left; intro _; clear_value x; rotate_left; unfold x) | intro _ | lift_lets
    | apply At.ite | apply At.next | apply At.some | exact At.none | dsimp -zeta only [At.mkFst, At.mkSnd] | apply At.foldl
    | apply At.getD | apply At.fst | apply At.snd
    | ((conv => enter [3, 20]) <;> apply At.upd <;> first | exact .inl ‹_› | exact .inr rfl | skip)
    | ((conv => enter [3, 20]) <;> apply At.updCore) | split | exact At.ofMkFst ‹_› | exact At.ofMkSnd ‹_›
    | refine At.ofNext (by assumption) ?_ | refine At.ofFst (by assumption) ?_ | refine At.ofSnd (by assumption) ?_
    | refine At.ofOpt (by assumption) ?_ | refine At.ofOptSnd (by assumption) ?_ | refine At.ofOptFst (by assumption) ?_
    | refine At.ofOptSnd2 (by assumption) ?_ | apply At.mapAny | dsimp +zetaDelta only)

theorem State.setStationState_keeps {P : Part → Prop} {s₀ s : State} (dict_ : P .dict) (stn_ : P .stn) (n : Nat) (code : Nat) (hs : At
    (Keeps P s₀) It s) : At (Keeps P s₀) It (State.setStationState s n code) := by
  unfold State.setStationState
  with_reducible repeat' (first
    | assumption | (intro x; refine At.cut x ?_ ?_; rotate_left; intro _; clear_value x; rotate_left; unfold x) | intro _ | lift_lets
    | apply State.setObj_keeps | apply State.setStation_keeps | apply At.ite | apply At.next | apply At.some | exact At.none
    | dsimp -zeta only [At.mkFst, At.mkSnd] | apply At.foldl | apply At.getD | apply At.fst | apply At.snd
    | ((conv => enter [3, 20]) <;> apply At.upd <;> first | exact .inl ‹_› | exact .inr rfl | skip)
    | ((conv => enter [3, 20]) <;> apply At.updCore) | split | exact At.ofMkFst ‹_› | exact At.ofMkSnd ‹_›
    | refine At.ofNext (by assumption) ?_ | refine At.ofFst (by assumption) ?_ | refine At.ofSnd (by assumption) ?_
    | refine At.ofOpt (by assumption) ?_ | refine At.ofOptSnd (by assumption) ?_ | refine At.ofOptFst (by assumption) ?_
    | refine At.ofOptSnd2 (by assumption) ?_ | apply At.mapAny | dsimp +zetaDelta only)

theorem State.event_keeps {P : Part → Prop} {s₀ s : State} (dict_ : P .dict) (stn_ : P .stn) (n : Nat) (code : Nat) (handle : Nat) (a0 :
    Nat) (a1 : Nat) (hs : At (Keeps P s₀) It s) : At (Keeps P s₀) It (State.event s n code handle a0 a1) := by
  unfold State.event
  with_reducible repeat' (first
    | assumption | (intro x; refine At.cut x ?_ ?_; rotate_left; intro _; clear_value x; rotate_left; unfold x) | intro _ | lift_lets
    | apply State.bump_keeps | apply State.setStation_keeps | apply At.ite | apply At.next | apply At.some | exact At.none
    | dsimp -zeta only [At.mkFst, At.mkSnd] | apply At.foldl | apply At.getD | apply At.fst | apply At.snd
    | ((conv => enter [3, 20]) <;> apply At.upd <;> first | exact .inl ‹_› | exact .inr rfl | skip)
    | ((conv => enter [3, 20]) <;> apply At.updCore) | split | exact At.ofMkFst ‹_› | exact At.ofMkSnd ‹_›
    | refine At.ofNext (by assumption) ?_ | refine At.ofFst (by assumption) ?_ | refine At.ofSnd (by assumption) ?_
    | refine At.ofOpt (by assumption) ?_ | refine At.ofOptSnd (by assumption) ?_ | refine At.ofOptFst (by assumption) ?_
    | refine At.ofOptSnd2 (by assumption) ?_ | apply At.mapAny | dsimp +zetaDelta only)

theorem State.announce_keeps {P : Part → Prop} {s₀ s : State} (mgmt_ : P .mgmt) (code : Nat) (a0 : Nat) (a1 : Nat) (hs : At (Keeps P s₀) It
    s) : At (Keeps P s₀) It (State.announce s code a0 a1) := by
  unfold State.announce
  with_reducible repeat' (first
    | assumption | (intro x; refine At.cut x ?_ ?_; rotate_left; intro _; clear_value x; rotate_left; unfold x) | intro _ | lift_lets
    | apply At.ite | apply At.next | apply At.some | exact At.none | dsimp -zeta only [At.mkFst, At.mkSnd] | apply At.foldl
    | apply At.getD | apply At.fst | apply At.snd
    | ((conv => enter [3, 20]) <;> apply At.upd <;> first | exact .inl ‹_› | exact .inr rfl | skip)
    | ((conv => enter [3, 20]) <;> apply At.updCore) | split | exact At.ofMkFst ‹_› | exact At.ofMkSnd ‹_›
    | refine At.ofNext (by assumption) ?_ | refine At.ofFst (by assumption) ?_ | refine At.ofSnd (by assumption) ?_
    | refine At.ofOpt (by assumption) ?_ | refine At.ofOptSnd (by assumption) ?_ | refine At.ofOptFst (by assumption) ?_
    | refine At.ofOptSnd2 (by assumption) ?_ | apply At.mapAny | dsimp +zetaDelta only)

theorem State.tileEvent_keeps {P : Part → Prop} {s₀ s : State} (dict_ : P .dict) (mgmt_ : P .mgmt) (stn_ : P .stn) (code : Nat) (a0 : Nat)
    (a1 : Nat) (hs : At (Keeps P s₀) It s) : At (Keeps P s₀) It (State.tileEvent s code a0 a1) := by
  unfold State.tileEvent
  with_reducible repeat' (first
    | assumption | (intro x; refine At.cut x ?_ ?_; rotate_left; intro _; clear_value x; rotate_left; unfold x) | intro _ | lift_lets
    | apply State.event_keeps | apply State.announce_keeps | apply At.ite | apply At.next | apply At.some | exact At.none
    | dsimp -zeta only [At.mkFst, At.mkSnd] | apply At.foldl | apply At.getD | apply At.fst | apply At.snd
    | ((conv => enter [3, 20]) <;> apply At.upd <;> first | exact .inl ‹_› | exact .inr rfl | skip)
    | ((conv => enter [3, 20]) <;> apply At.updCore) | split | exact At.ofMkFst ‹_› | exact At.ofMkSnd ‹_›
    | refine At.ofNext (by assumption) ?_ | refine At.ofFst (by assumption) ?_ | refine At.ofSnd (by assumption) ?_
    | refine At.ofOpt (by assumption) ?_ | refine At.ofOptSnd (by assumption) ?_ | refine At.ofOptFst (by assumption) ?_
    | refine At.ofOptSnd2 (by assumption) ?_ | apply At.mapAny | dsimp +zetaDelta only)

theorem State.setIntake_keeps {P : Part → Prop} {s₀ s : State} (stn_ : P .stn) (n : Nat) (seq : Nat) (f : Intake → Intake) (hs : At (Keeps
    P s₀) It s) : At (Keeps P s₀) It (State.setIntake s n seq f) := by
  unfold State.setIntake
  with_reducible repeat' (first
    | assumption | (intro x; refine At.cut x ?_ ?_; rotate_left; intro _; clear_value x; rotate_left; unfold x) | intro _ | lift_lets
    | apply State.setStation_keeps | apply At.ite | apply At.next | apply At.some | exact At.none | dsimp -zeta only [At.mkFst, At.mkSnd]
    | apply At.foldl | apply At.getD | apply At.fst | apply At.snd
    | ((conv => enter [3, 20]) <;> apply At.upd <;> first | exact .inl ‹_› | exact .inr rfl | skip)
    | ((conv => enter [3, 20]) <;> apply At.updCore) | split | exact At.ofMkFst ‹_› | exact At.ofMkSnd ‹_›
    | refine At.ofNext (by assumption) ?_ | refine At.ofFst (by assumption) ?_ | refine At.ofSnd (by assumption) ?_
    | refine At.ofOpt (by assumption) ?_ | refine At.ofOptSnd (by assumption) ?_ | refine At.ofOptFst (by assumption) ?_
    | refine At.ofOptSnd2 (by assumption) ?_ | apply At.mapAny | dsimp +zetaDelta only)

theorem State.leaveIntake_keeps {P : Part → Prop} {s₀ s : State} (stn_ : P .stn) (n : Nat) (seq : Nat) (hs : At (Keeps P s₀) It s) : At
    (Keeps P s₀) It (State.leaveIntake s n seq) := by
  unfold State.leaveIntake
  with_reducible repeat' (first
    | assumption | (intro x; refine At.cut x ?_ ?_; rotate_left; intro _; clear_value x; rotate_left; unfold x) | intro _ | lift_lets
    | apply State.setStation_keeps | apply State.setIntake_keeps | apply At.ite | apply At.next | apply At.some | exact At.none
    | dsimp -zeta only [At.mkFst, At.mkSnd] | apply At.foldl | apply At.getD | apply At.fst | apply At.snd
    | ((conv => enter [3, 20]) <;> apply At.upd <;> first | exact .inl ‹_› | exact .inr rfl | skip)
    | ((conv => enter [3, 20]) <;> apply At.updCore) | split | exact At.ofMkFst ‹_› | exact At.ofMkSnd ‹_›
    | refine At.ofNext (by assumption) ?_ | refine At.ofFst (by assumption) ?_ | refine At.ofSnd (by assumption) ?_
    | refine At.ofOpt (by assumption) ?_ | refine At.ofOptSnd (by assumption) ?_ | refine At.ofOptFst (by assumption) ?_
    | refine At.ofOptSnd2 (by assumption) ?_ | apply At.mapAny | dsimp +zetaDelta only)

theorem State.numberAccept_keeps {P : Part → Prop} {s₀ s : State} (stn_ : P .stn) (n : Nat) (seq : Nat) (hs : At (Keeps P s₀) It s) : At
    (Keeps P s₀) It (State.numberAccept s n seq) := by
  unfold State.numberAccept
  with_reducible repeat' (first
    | assumption | (intro x; refine At.cut x ?_ ?_; rotate_left; intro _; clear_value x; rotate_left; unfold x) | intro _ | lift_lets
    | apply State.setStation_keeps | apply State.setIntake_keeps | apply At.ite | apply At.next | apply At.some | exact At.none
    | dsimp -zeta only [At.mkFst, At.mkSnd] | apply At.foldl | apply At.getD | apply At.fst | apply At.snd
    | ((conv => enter [3, 20]) <;> apply At.upd <;> first | exact .inl ‹_› | exact .inr rfl | skip)
    | ((conv => enter [3, 20]) <;> apply At.updCore) | split | exact At.ofMkFst ‹_› | exact At.ofMkSnd ‹_›
    | refine At.ofNext (by assumption) ?_ | refine At.ofFst (by assumption) ?_ | refine At.ofSnd (by assumption) ?_
    | refine At.ofOpt (by assumption) ?_ | refine At.ofOptSnd (by assumption) ?_ | refine At.ofOptFst (by assumption) ?_
    | refine At.ofOptSnd2 (by assumption) ?_ | apply At.mapAny | dsimp +zetaDelta only)

theorem State.settle_keeps {P : Part → Prop} {s₀ s : State} (stn_ : P .stn) (n : Nat) (p : Intake → Bool) (o : Outcome) (hs : At (Keeps P
    s₀) It s) : At (Keeps P s₀) It (State.settle s n p o) := by
  unfold State.settle
  with_reducible repeat' (first
    | assumption | (intro x; refine At.cut x ?_ ?_; rotate_left; intro _; clear_value x; rotate_left; unfold x) | intro _ | lift_lets
    | apply State.setStation_keeps | apply At.ite | apply At.next | apply At.some | exact At.none | dsimp -zeta only [At.mkFst, At.mkSnd]
    | apply At.foldl | apply At.getD | apply At.fst | apply At.snd
    | ((conv => enter [3, 20]) <;> apply At.upd <;> first | exact .inl ‹_› | exact .inr rfl | skip)
    | ((conv => enter [3, 20]) <;> apply At.updCore) | split | exact At.ofMkFst ‹_› | exact At.ofMkSnd ‹_›
    | refine At.ofNext (by assumption) ?_ | refine At.ofFst (by assumption) ?_ | refine At.ofSnd (by assumption) ?_
    | refine At.ofOpt (by assumption) ?_ | refine At.ofOptSnd (by assumption) ?_ | refine At.ofOptFst (by assumption) ?_
    | refine At.ofOptSnd2 (by assumption) ?_ | apply At.mapAny | dsimp +zetaDelta only)

theorem State.finishOne_keeps {P : Part → Prop} {s₀ s : State} (stn_ : P .stn) (n : Nat) (seq : Nat) (o : Outcome) (hs : At (Keeps P s₀) It
    s) : At (Keeps P s₀) It (State.finishOne s n seq o) := by
  unfold State.finishOne
  with_reducible repeat' (first
    | assumption | (intro x; refine At.cut x ?_ ?_; rotate_left; intro _; clear_value x; rotate_left; unfold x) | intro _ | lift_lets
    | apply State.leaveIntake_keeps | apply State.settle_keeps | apply At.ite | apply At.next | apply At.some | exact At.none
    | dsimp -zeta only [At.mkFst, At.mkSnd] | apply At.foldl | apply At.getD | apply At.fst | apply At.snd
    | ((conv => enter [3, 20]) <;> apply At.upd <;> first | exact .inl ‹_› | exact .inr rfl | skip)
    | ((conv => enter [3, 20]) <;> apply At.updCore) | split | exact At.ofMkFst ‹_› | exact At.ofMkSnd ‹_›
    | refine At.ofNext (by assumption) ?_ | refine At.ofFst (by assumption) ?_ | refine At.ofSnd (by assumption) ?_
    | refine At.ofOpt (by assumption) ?_ | refine At.ofOptSnd (by assumption) ?_ | refine At.ofOptFst (by assumption) ?_
    | refine At.ofOptSnd2 (by assumption) ?_ | apply At.mapAny | dsimp +zetaDelta only)

theorem State.dropIntake_keeps {P : Part → Prop} {s₀ s : State} (dict_ : P .dict) (stn_ : P .stn) (n : Nat) (hs : At (Keeps P s₀) It s) :
    At (Keeps P s₀) It (State.dropIntake s n) := by
  unfold State.dropIntake
  with_reducible repeat' (first
    | assumption | (intro x; refine At.cut x ?_ ?_; rotate_left; intro _; clear_value x; rotate_left; unfold x) | intro _ | lift_lets
    | apply State.addObj_keeps | apply State.setStation_keeps | apply At.ite | apply At.next | apply At.some | exact At.none
    | dsimp -zeta only [At.mkFst, At.mkSnd] | apply At.foldl | apply At.getD | apply At.fst | apply At.snd
    | ((conv => enter [3, 20]) <;> apply At.upd <;> first | exact .inl ‹_› | exact .inr rfl | skip)
    | ((conv => enter [3, 20]) <;> apply At.updCore) | split | exact At.ofMkFst ‹_› | exact At.ofMkSnd ‹_›
    | refine At.ofNext (by assumption) ?_ | refine At.ofFst (by assumption) ?_ | refine At.ofSnd (by assumption) ?_
    | refine At.ofOpt (by assumption) ?_ | refine At.ofOptSnd (by assumption) ?_ | refine At.ofOptFst (by assumption) ?_
    | refine At.ofOptSnd2 (by assumption) ?_ | apply At.mapAny | dsimp +zetaDelta only)

theorem State.goodbyeStep_keeps {P : Part → Prop} {s₀ s : State} (dict_ : P .dict) (stn_ : P .stn) (n : Nat) (hs : At (Keeps P s₀) It s) :
    At (Keeps P s₀) It (State.goodbyeStep s n) := by
  unfold State.goodbyeStep
  with_reducible repeat' (first
    | assumption | (intro x; refine At.cut x ?_ ?_; rotate_left; intro _; clear_value x; rotate_left; unfold x) | intro _ | lift_lets
    | apply State.setStationState_keeps | apply State.finishOne_keeps | apply State.dropIntake_keeps | apply At.ite | apply At.next
    | apply At.some | exact At.none | dsimp -zeta only [At.mkFst, At.mkSnd] | apply At.foldl | apply At.getD | apply At.fst | apply At.snd
    | ((conv => enter [3, 20]) <;> apply At.upd <;> first | exact .inl ‹_› | exact .inr rfl | skip)
    | ((conv => enter [3, 20]) <;> apply At.updCore) | split | exact At.ofMkFst ‹_› | exact At.ofMkSnd ‹_›
    | refine At.ofNext (by assumption) ?_ | refine At.ofFst (by assumption) ?_ | refine At.ofSnd (by assumption) ?_
    | refine At.ofOpt (by assumption) ?_ | refine At.ofOptSnd (by assumption) ?_ | refine At.ofOptFst (by assumption) ?_
    | refine At.ofOptSnd2 (by assumption) ?_ | apply At.mapAny | dsimp +zetaDelta only)

theorem State.finish_keeps {P : Part → Prop} {s₀ s : State} (dict_ : P .dict) (stn_ : P .stn) (n : Nat) (seq : Nat) (o : Outcome) (hs : At
    (Keeps P s₀) It s) : At (Keeps P s₀) It (State.finish s n seq o) := by
  unfold State.finish
  with_reducible repeat' (first
    | assumption | (intro x; refine At.cut x ?_ ?_; rotate_left; intro _; clear_value x; rotate_left; unfold x) | intro _ | lift_lets
    | apply State.finishOne_keeps | apply State.goodbyeStep_keeps | apply At.ite | apply At.next | apply At.some | exact At.none
    | dsimp -zeta only [At.mkFst, At.mkSnd] | apply At.foldl | apply At.getD | apply At.fst | apply At.snd
    | ((conv => enter [3, 20]) <;> apply At.upd <;> first | exact .inl ‹_› | exact .inr rfl | skip)
    | ((conv => enter [3, 20]) <;> apply At.updCore) | split | exact At.ofMkFst ‹_› | exact At.ofMkSnd ‹_›
    | refine At.ofNext (by assumption) ?_ | refine At.ofFst (by assumption) ?_ | refine At.ofSnd (by assumption) ?_
    | refine At.ofOpt (by assumption) ?_ | refine At.ofOptSnd (by assumption) ?_ | refine At.ofOptFst (by assumption) ?_
    | refine At.ofOptSnd2 (by assumption) ?_ | apply At.mapAny | dsimp +zetaDelta only)

theorem State.setBook_keeps {P : Part → Prop} {s₀ s : State} (dict_ : P .dict) (fb_ : P .fb) (half : Nat) (b : Book) (hs : At (Keeps P s₀)
    It s) : At (Keeps P s₀) It (State.setBook s half b) := by
  unfold State.setBook
  with_reducible repeat' (first
    | assumption | (intro x; refine At.cut x ?_ ?_; rotate_left; intro _; clear_value x; rotate_left; unfold x) | intro _ | lift_lets
    | apply State.setObj_keeps | apply At.ite | apply At.next | apply At.some | exact At.none | dsimp -zeta only [At.mkFst, At.mkSnd]
    | apply At.foldl | apply At.getD | apply At.fst | apply At.snd
    | ((conv => enter [3, 20]) <;> apply At.upd <;> first | exact .inl ‹_› | exact .inr rfl | skip)
    | ((conv => enter [3, 20]) <;> apply At.updCore) | split | exact At.ofMkFst ‹_› | exact At.ofMkSnd ‹_›
    | refine At.ofNext (by assumption) ?_ | refine At.ofFst (by assumption) ?_ | refine At.ofSnd (by assumption) ?_
    | refine At.ofOpt (by assumption) ?_ | refine At.ofOptSnd (by assumption) ?_ | refine At.ofOptFst (by assumption) ?_
    | refine At.ofOptSnd2 (by assumption) ?_ | apply At.mapAny | dsimp +zetaDelta only)

theorem State.appendRec_keeps {P : Part → Prop} {s₀ s : State} (dict_ : P .dict) (fb_ : P .fb) (half : Nat) (sid : Nat) (station : Nat)
    (chain : Nat) (body : RecBody) (hs : At (Keeps P s₀) It s) : At (Keeps P s₀) (Fst It) (State.appendRec s half sid station chain body)
    := by
  unfold State.appendRec
  with_reducible repeat' (first
    | assumption | (intro x; refine At.cut x ?_ ?_; rotate_left; intro _; clear_value x; rotate_left; unfold x) | intro _ | lift_lets
    | apply State.addObj_keeps | apply State.bump_keeps | apply State.setBook_keeps | apply At.ite | apply At.next | apply At.some
    | exact At.none | dsimp -zeta only [At.mkFst, At.mkSnd] | apply At.foldl | apply At.getD | apply At.fst | apply At.snd
    | ((conv => enter [3, 20]) <;> apply At.upd <;> first | exact .inl ‹_› | exact .inr rfl | skip)
    | ((conv => enter [3, 20]) <;> apply At.updCore) | split | exact At.ofMkFst ‹_› | exact At.ofMkSnd ‹_›
    | refine At.ofNext (by assumption) ?_ | refine At.ofFst (by assumption) ?_ | refine At.ofSnd (by assumption) ?_
    | refine At.ofOpt (by assumption) ?_ | refine At.ofOptSnd (by assumption) ?_ | refine At.ofOptFst (by assumption) ?_
    | refine At.ofOptSnd2 (by assumption) ?_ | apply At.mapAny | dsimp +zetaDelta only)

theorem State.recAgain_keeps {P : Part → Prop} {s₀ s : State} (dict_ : P .dict) (fb_ : P .fb) (half : Nat) (sid : Nat) (stage : Nat) (r :
    Rec) (hs : At (Keeps P s₀) It s) : At (Keeps P s₀) (Fst It) (State.recAgain s half sid stage r) := by
  unfold State.recAgain
  with_reducible repeat' (first
    | assumption | (intro x; refine At.cut x ?_ ?_; rotate_left; intro _; clear_value x; rotate_left; unfold x) | intro _ | lift_lets
    | apply State.setBook_keeps | apply State.appendRec_keeps | apply At.ite | apply At.next | apply At.some | exact At.none
    | dsimp -zeta only [At.mkFst, At.mkSnd] | apply At.foldl | apply At.getD | apply At.fst | apply At.snd
    | ((conv => enter [3, 20]) <;> apply At.upd <;> first | exact .inl ‹_› | exact .inr rfl | skip)
    | ((conv => enter [3, 20]) <;> apply At.updCore) | split | exact At.ofMkFst ‹_› | exact At.ofMkSnd ‹_›
    | refine At.ofNext (by assumption) ?_ | refine At.ofFst (by assumption) ?_ | refine At.ofSnd (by assumption) ?_
    | refine At.ofOpt (by assumption) ?_ | refine At.ofOptSnd (by assumption) ?_ | refine At.ofOptFst (by assumption) ?_
    | refine At.ofOptSnd2 (by assumption) ?_ | apply At.mapAny | dsimp +zetaDelta only)

theorem State.configRec_keeps {P : Part → Prop} {s₀ s : State} (dict_ : P .dict) (fb_ : P .fb) (index : Nat) (sub : Nat) (source : Nat)
    (writer : Nat) (value : Octets) (hs : At (Keeps P s₀) It s) : At (Keeps P s₀) It (State.configRec s index sub source writer value) := by
  unfold State.configRec
  with_reducible repeat' (first
    | assumption | (intro x; refine At.cut x ?_ ?_; rotate_left; intro _; clear_value x; rotate_left; unfold x) | intro _ | lift_lets
    | apply State.appendRec_keeps | apply At.ite | apply At.next | apply At.some | exact At.none | dsimp -zeta only [At.mkFst, At.mkSnd]
    | apply At.foldl | apply At.getD | apply At.fst | apply At.snd
    | ((conv => enter [3, 20]) <;> apply At.upd <;> first | exact .inl ‹_› | exact .inr rfl | skip)
    | ((conv => enter [3, 20]) <;> apply At.updCore) | split | exact At.ofMkFst ‹_› | exact At.ofMkSnd ‹_›
    | refine At.ofNext (by assumption) ?_ | refine At.ofFst (by assumption) ?_ | refine At.ofSnd (by assumption) ?_
    | refine At.ofOpt (by assumption) ?_ | refine At.ofOptSnd (by assumption) ?_ | refine At.ofOptFst (by assumption) ?_
    | refine At.ofOptSnd2 (by assumption) ?_ | apply At.mapAny | dsimp +zetaDelta only)

theorem State.mpLogAdd_keeps {P : Part → Prop} {s₀ s : State} (dict_ : P .dict) (mgmt_ : P .mgmt) (code : Nat) (pcr : Nat) (source : Nat)
    (arg : Nat) (digest : Octets) (hs : At (Keeps P s₀) It s) : At (Keeps P s₀) It (State.mpLogAdd s code pcr source arg digest) := by
  unfold State.mpLogAdd
  with_reducible repeat' (first
    | assumption | (intro x; refine At.cut x ?_ ?_; rotate_left; intro _; clear_value x; rotate_left; unfold x) | intro _ | lift_lets
    | apply State.setObj_keeps | apply At.ite | apply At.next | apply At.some | exact At.none | dsimp -zeta only [At.mkFst, At.mkSnd]
    | apply At.foldl | apply At.getD | apply At.fst | apply At.snd
    | ((conv => enter [3, 20]) <;> apply At.upd <;> first | exact .inl ‹_› | exact .inr rfl | skip)
    | ((conv => enter [3, 20]) <;> apply At.updCore) | split | exact At.ofMkFst ‹_› | exact At.ofMkSnd ‹_›
    | refine At.ofNext (by assumption) ?_ | refine At.ofFst (by assumption) ?_ | refine At.ofSnd (by assumption) ?_
    | refine At.ofOpt (by assumption) ?_ | refine At.ofOptSnd (by assumption) ?_ | refine At.ofOptFst (by assumption) ?_
    | refine At.ofOptSnd2 (by assumption) ?_ | apply At.mapAny | dsimp +zetaDelta only)

theorem State.measure_keeps {P : Part → Prop} {s₀ s : State} (dict_ : P .dict) (mgmt_ : P .mgmt) (code : Nat) (r : Nat) (source : Nat) (arg
    : Nat) (d : Octets) (hs : At (Keeps P s₀) It s) : At (Keeps P s₀) It (State.measure s code r source arg d) := by
  unfold State.measure
  with_reducible repeat' (first
    | assumption | (intro x; refine At.cut x ?_ ?_; rotate_left; intro _; clear_value x; rotate_left; unfold x) | intro _ | lift_lets
    | apply State.mpLogAdd_keeps | apply At.ite | apply At.next | apply At.some | exact At.none | dsimp -zeta only [At.mkFst, At.mkSnd]
    | apply At.foldl | apply At.getD | apply At.fst | apply At.snd
    | ((conv => enter [3, 20]) <;> apply At.upd <;> first | exact .inl ‹_› | exact .inr rfl | skip)
    | ((conv => enter [3, 20]) <;> apply At.updCore) | split | exact At.ofMkFst ‹_› | exact At.ofMkSnd ‹_›
    | refine At.ofNext (by assumption) ?_ | refine At.ofFst (by assumption) ?_ | refine At.ofSnd (by assumption) ?_
    | refine At.ofOpt (by assumption) ?_ | refine At.ofOptSnd (by assumption) ?_ | refine At.ofOptFst (by assumption) ?_
    | refine At.ofOptSnd2 (by assumption) ?_ | apply At.mapAny | dsimp +zetaDelta only)

theorem State.setPwr_keeps {P : Part → Prop} {s₀ s : State} (pwr_ : P .pwr) (p : PowerSt) (hs : At (Keeps P s₀) It s) : At (Keeps P s₀) It
    (State.setPwr s p) := by
  unfold State.setPwr
  with_reducible repeat' (first
    | assumption | (intro x; refine At.cut x ?_ ?_; rotate_left; intro _; clear_value x; rotate_left; unfold x) | intro _ | lift_lets
    | apply At.ite | apply At.next | apply At.some | exact At.none | dsimp -zeta only [At.mkFst, At.mkSnd] | apply At.foldl
    | apply At.getD | apply At.fst | apply At.snd
    | ((conv => enter [3, 20]) <;> apply At.upd <;> first | exact .inl ‹_› | exact .inr rfl | skip)
    | ((conv => enter [3, 20]) <;> apply At.updCore) | split | exact At.ofMkFst ‹_› | exact At.ofMkSnd ‹_›
    | refine At.ofNext (by assumption) ?_ | refine At.ofFst (by assumption) ?_ | refine At.ofSnd (by assumption) ?_
    | refine At.ofOpt (by assumption) ?_ | refine At.ofOptSnd (by assumption) ?_ | refine At.ofOptFst (by assumption) ?_
    | refine At.ofOptSnd2 (by assumption) ?_ | apply At.mapAny | dsimp +zetaDelta only)

theorem State.pulse_keeps {P : Part → Prop} {s₀ s : State} (pwr_ : P .pwr) (f : Nat) (hs : At (Keeps P s₀) It s) : At (Keeps P s₀) It
    (State.pulse s f) := by
  unfold State.pulse
  with_reducible repeat' (first
    | assumption | (intro x; refine At.cut x ?_ ?_; rotate_left; intro _; clear_value x; rotate_left; unfold x) | intro _ | lift_lets
    | apply State.setPwr_keeps | apply At.ite | apply At.next | apply At.some | exact At.none | dsimp -zeta only [At.mkFst, At.mkSnd]
    | apply At.foldl | apply At.getD | apply At.fst | apply At.snd
    | ((conv => enter [3, 20]) <;> apply At.upd <;> first | exact .inl ‹_› | exact .inr rfl | skip)
    | ((conv => enter [3, 20]) <;> apply At.updCore) | split | exact At.ofMkFst ‹_› | exact At.ofMkSnd ‹_›
    | refine At.ofNext (by assumption) ?_ | refine At.ofFst (by assumption) ?_ | refine At.ofSnd (by assumption) ?_
    | refine At.ofOpt (by assumption) ?_ | refine At.ofOptSnd (by assumption) ?_ | refine At.ofOptFst (by assumption) ?_
    | refine At.ofOptSnd2 (by assumption) ?_ | apply At.mapAny | dsimp +zetaDelta only)

theorem State.forN_keeps {P : Part → Prop} {s₀ s : State} (n : Nat) (f : State → Nat → State) (hf : ∀ u x0, At (Keeps P s₀) It u → At
    (Keeps P s₀) It (f u x0)) (hs : At (Keeps P s₀) It s) : At (Keeps P s₀) It (State.forN n s f) := by
  unfold State.forN
  with_reducible repeat' (first
    | assumption | (intro x; refine At.cut x ?_ ?_; rotate_left; intro _; clear_value x; rotate_left; unfold x) | intro _ | lift_lets
    | apply hf | apply At.ite | apply At.next | apply At.some | exact At.none | dsimp -zeta only [At.mkFst, At.mkSnd] | apply At.foldl
    | apply At.getD | apply At.fst | apply At.snd
    | ((conv => enter [3, 20]) <;> apply At.upd <;> first | exact .inl ‹_› | exact .inr rfl | skip)
    | ((conv => enter [3, 20]) <;> apply At.updCore) | split | exact At.ofMkFst ‹_› | exact At.ofMkSnd ‹_›
    | refine At.ofNext (by assumption) ?_ | refine At.ofFst (by assumption) ?_ | refine At.ofSnd (by assumption) ?_
    | refine At.ofOpt (by assumption) ?_ | refine At.ofOptSnd (by assumption) ?_ | refine At.ofOptFst (by assumption) ?_
    | refine At.ofOptSnd2 (by assumption) ?_ | apply At.mapAny | dsimp +zetaDelta only)

theorem State.forgetOwed_keeps {P : Part → Prop} {s₀ s : State} (stn_ : P .stn) (half : Nat) (hs : At (Keeps P s₀) It s) : At (Keeps P s₀)
    It (State.forgetOwed s half) := by
  unfold State.forgetOwed
  with_reducible repeat' (first
    | assumption | (intro x; refine At.cut x ?_ ?_; rotate_left; intro _; clear_value x; rotate_left; unfold x) | intro _ | lift_lets
    | apply State.setStation_keeps | apply At.ite | apply At.next | apply At.some | exact At.none | dsimp -zeta only [At.mkFst, At.mkSnd]
    | apply At.foldl | apply At.getD | apply At.fst | apply At.snd
    | ((conv => enter [3, 20]) <;> apply At.upd <;> first | exact .inl ‹_› | exact .inr rfl | skip)
    | ((conv => enter [3, 20]) <;> apply At.updCore) | split | exact At.ofMkFst ‹_› | exact At.ofMkSnd ‹_›
    | refine At.ofNext (by assumption) ?_ | refine At.ofFst (by assumption) ?_ | refine At.ofSnd (by assumption) ?_
    | refine At.ofOpt (by assumption) ?_ | refine At.ofOptSnd (by assumption) ?_ | refine At.ofOptFst (by assumption) ?_
    | refine At.ofOptSnd2 (by assumption) ?_ | apply At.mapAny | dsimp +zetaDelta only)

/-! ### Machine/Writes.lean -/

theorem State.opdunReply_keeps {P : Part → Prop} {s₀ s : State} (mgmt_ : P .mgmt) (r : OpdunReply) (hs : At (Keeps P s₀) It s) : At (Keeps
    P s₀) It (State.opdunReply s r) := by
  unfold State.opdunReply
  with_reducible repeat' (first
    | assumption | (intro x; refine At.cut x ?_ ?_; rotate_left; intro _; clear_value x; rotate_left; unfold x) | intro _ | lift_lets
    | apply At.ite | apply At.next | apply At.some | exact At.none | dsimp -zeta only [At.mkFst, At.mkSnd] | apply At.foldl
    | apply At.getD | apply At.fst | apply At.snd
    | ((conv => enter [3, 20]) <;> apply At.upd <;> first | exact .inl ‹_› | exact .inr rfl | skip)
    | ((conv => enter [3, 20]) <;> apply At.updCore) | split | exact At.ofMkFst ‹_› | exact At.ofMkSnd ‹_›
    | refine At.ofNext (by assumption) ?_ | refine At.ofFst (by assumption) ?_ | refine At.ofSnd (by assumption) ?_
    | refine At.ofOpt (by assumption) ?_ | refine At.ofOptSnd (by assumption) ?_ | refine At.ofOptFst (by assumption) ?_
    | refine At.ofOptSnd2 (by assumption) ?_ | apply At.mapAny | dsimp +zetaDelta only)

theorem State.mailReply_keeps {P : Part → Prop} {s₀ s : State} (mgmt_ : P .mgmt) (r : MailReply) (hs : At (Keeps P s₀) It s) : At (Keeps P
    s₀) It (State.mailReply s r) := by
  unfold State.mailReply
  with_reducible repeat' (first
    | assumption | (intro x; refine At.cut x ?_ ?_; rotate_left; intro _; clear_value x; rotate_left; unfold x) | intro _ | lift_lets
    | apply At.ite | apply At.next | apply At.some | exact At.none | dsimp -zeta only [At.mkFst, At.mkSnd] | apply At.foldl
    | apply At.getD | apply At.fst | apply At.snd
    | ((conv => enter [3, 20]) <;> apply At.upd <;> first | exact .inl ‹_› | exact .inr rfl | skip)
    | ((conv => enter [3, 20]) <;> apply At.updCore) | split | exact At.ofMkFst ‹_› | exact At.ofMkSnd ‹_›
    | refine At.ofNext (by assumption) ?_ | refine At.ofFst (by assumption) ?_ | refine At.ofSnd (by assumption) ?_
    | refine At.ofOpt (by assumption) ?_ | refine At.ofOptSnd (by assumption) ?_ | refine At.ofOptFst (by assumption) ?_
    | refine At.ofOptSnd2 (by assumption) ?_ | apply At.mapAny | dsimp +zetaDelta only)

theorem State.seqAdd_keeps {P : Part → Prop} {s₀ s : State} (dict_ : P .dict) (fb_ : P .fb) (st : Nat) (seq : Nat) (pos : Nat) (hs : At
    (Keeps P s₀) It s) : At (Keeps P s₀) It (State.seqAdd s st seq pos) := by
  unfold State.seqAdd
  with_reducible repeat' (first
    | assumption | (intro x; refine At.cut x ?_ ?_; rotate_left; intro _; clear_value x; rotate_left; unfold x) | intro _ | lift_lets
    | apply State.setObj_keeps | apply At.ite | apply At.next | apply At.some | exact At.none | dsimp -zeta only [At.mkFst, At.mkSnd]
    | apply At.foldl | apply At.getD | apply At.fst | apply At.snd
    | ((conv => enter [3, 20]) <;> apply At.upd <;> first | exact .inl ‹_› | exact .inr rfl | skip)
    | ((conv => enter [3, 20]) <;> apply At.updCore) | split | exact At.ofMkFst ‹_› | exact At.ofMkSnd ‹_›
    | refine At.ofNext (by assumption) ?_ | refine At.ofFst (by assumption) ?_ | refine At.ofSnd (by assumption) ?_
    | refine At.ofOpt (by assumption) ?_ | refine At.ofOptSnd (by assumption) ?_ | refine At.ofOptFst (by assumption) ?_
    | refine At.ofOptSnd2 (by assumption) ?_ | apply At.mapAny | dsimp +zetaDelta only)

theorem State.waitDurable_keeps {P : Part → Prop} {s₀ s : State} (dict_ : P .dict) (fb_ : P .fb) (pos : Nat) (e : DurEffect) (hs : At
    (Keeps P s₀) It s) : At (Keeps P s₀) It (State.waitDurable s pos e) := by
  unfold State.waitDurable
  with_reducible repeat' (first
    | assumption | (intro x; refine At.cut x ?_ ?_; rotate_left; intro _; clear_value x; rotate_left; unfold x) | intro _ | lift_lets
    | apply State.setBook_keeps | apply At.ite | apply At.next | apply At.some | exact At.none | dsimp -zeta only [At.mkFst, At.mkSnd]
    | apply At.foldl | apply At.getD | apply At.fst | apply At.snd
    | ((conv => enter [3, 20]) <;> apply At.upd <;> first | exact .inl ‹_› | exact .inr rfl | skip)
    | ((conv => enter [3, 20]) <;> apply At.updCore) | split | exact At.ofMkFst ‹_› | exact At.ofMkSnd ‹_›
    | refine At.ofNext (by assumption) ?_ | refine At.ofFst (by assumption) ?_ | refine At.ofSnd (by assumption) ?_
    | refine At.ofOpt (by assumption) ?_ | refine At.ofOptSnd (by assumption) ?_ | refine At.ofOptFst (by assumption) ?_
    | refine At.ofOptSnd2 (by assumption) ?_ | apply At.mapAny | dsimp +zetaDelta only)

theorem State.acceptWrite_keeps {P : Part → Prop} {s₀ s : State} (dict_ : P .dict) (fb_ : P .fb) (stn_ : P .stn) (st : Nat) (seq : Nat) (o
    : Outcome) (hs : At (Keeps P s₀) It s) : At (Keeps P s₀) It (State.acceptWrite s st seq o) := by
  unfold State.acceptWrite
  with_reducible repeat' (first
    | assumption | (intro x; refine At.cut x ?_ ?_; rotate_left; intro _; clear_value x; rotate_left; unfold x) | intro _ | lift_lets
    | apply State.setIntake_keeps | apply State.leaveIntake_keeps | apply State.numberAccept_keeps | apply State.finish_keeps
    | apply State.appendRec_keeps | apply State.seqAdd_keeps | apply State.waitDurable_keeps | apply At.ite | apply At.next
    | apply At.some | exact At.none | dsimp -zeta only [At.mkFst, At.mkSnd] | apply At.foldl | apply At.getD | apply At.fst | apply At.snd
    | ((conv => enter [3, 20]) <;> apply At.upd <;> first | exact .inl ‹_› | exact .inr rfl | skip)
    | ((conv => enter [3, 20]) <;> apply At.updCore) | split | exact At.ofMkFst ‹_› | exact At.ofMkSnd ‹_›
    | refine At.ofNext (by assumption) ?_ | refine At.ofFst (by assumption) ?_ | refine At.ofSnd (by assumption) ?_
    | refine At.ofOpt (by assumption) ?_ | refine At.ofOptSnd (by assumption) ?_ | refine At.ofOptFst (by assumption) ?_
    | refine At.ofOptSnd2 (by assumption) ?_ | apply At.mapAny | dsimp +zetaDelta only)

theorem State.replyO_keeps {P : Part → Prop} {s₀ s : State} (dict_ : P .dict) (mgmt_ : P .mgmt) (fb_ : P .fb) (stn_ : P .stn) (w : Writer)
    (o : Outcome) (hs : At (Keeps P s₀) It s) : At (Keeps P s₀) It (State.replyO s w o) := by
  unfold State.replyO
  with_reducible repeat' (first
    | assumption | (intro x; refine At.cut x ?_ ?_; rotate_left; intro _; clear_value x; rotate_left; unfold x) | intro _ | lift_lets
    | apply State.finish_keeps | apply State.opdunReply_keeps | apply State.mailReply_keeps | apply State.acceptWrite_keeps | apply At.ite
    | apply At.next | apply At.some | exact At.none | dsimp -zeta only [At.mkFst, At.mkSnd] | apply At.foldl | apply At.getD
    | apply At.fst | apply At.snd | ((conv => enter [3, 20]) <;> apply At.upd <;> first | exact .inl ‹_› | exact .inr rfl | skip)
    | ((conv => enter [3, 20]) <;> apply At.updCore) | split | exact At.ofMkFst ‹_› | exact At.ofMkSnd ‹_›
    | refine At.ofNext (by assumption) ?_ | refine At.ofFst (by assumption) ?_ | refine At.ofSnd (by assumption) ?_
    | refine At.ofOpt (by assumption) ?_ | refine At.ofOptSnd (by assumption) ?_ | refine At.ofOptFst (by assumption) ?_
    | refine At.ofOptSnd2 (by assumption) ?_ | apply At.mapAny | dsimp +zetaDelta only)

theorem State.reply_keeps {P : Part → Prop} {s₀ s : State} (dict_ : P .dict) (mgmt_ : P .mgmt) (fb_ : P .fb) (stn_ : P .stn) (w : Writer)
    (st : Nat) (hs : At (Keeps P s₀) It s) : At (Keeps P s₀) It (State.reply s w st) := by
  unfold State.reply
  with_reducible repeat' (first
    | assumption | (intro x; refine At.cut x ?_ ?_; rotate_left; intro _; clear_value x; rotate_left; unfold x) | intro _ | lift_lets
    | apply State.replyO_keeps | apply At.ite | apply At.next | apply At.some | exact At.none | dsimp -zeta only [At.mkFst, At.mkSnd]
    | apply At.foldl | apply At.getD | apply At.fst | apply At.snd
    | ((conv => enter [3, 20]) <;> apply At.upd <;> first | exact .inl ‹_› | exact .inr rfl | skip)
    | ((conv => enter [3, 20]) <;> apply At.updCore) | split | exact At.ofMkFst ‹_› | exact At.ofMkSnd ‹_›
    | refine At.ofNext (by assumption) ?_ | refine At.ofFst (by assumption) ?_ | refine At.ofSnd (by assumption) ?_
    | refine At.ofOpt (by assumption) ?_ | refine At.ofOptSnd (by assumption) ?_ | refine At.ofOptFst (by assumption) ?_
    | refine At.ofOptSnd2 (by assumption) ?_ | apply At.mapAny | dsimp +zetaDelta only)

theorem State.putObj_keeps {P : Part → Prop} {s₀ s : State} (dict_ : P .dict) (o : ObjSpec) (i : Nat) (j : Nat) (y4 : ObjVal) (hs : At
    (Keeps P s₀) It s) : At (Keeps P s₀) It (State.putObj s o i j y4) := by
  unfold State.putObj
  with_reducible repeat' (first
    | assumption | (intro x; refine At.cut x ?_ ?_; rotate_left; intro _; clear_value x; rotate_left; unfold x) | intro _ | lift_lets
    | apply State.setObjAt_keeps | apply State.setStrAt_keeps | apply At.ite | apply At.next | apply At.some | exact At.none
    | dsimp -zeta only [At.mkFst, At.mkSnd] | apply At.foldl | apply At.getD | apply At.fst | apply At.snd
    | ((conv => enter [3, 20]) <;> apply At.upd <;> first | exact .inl ‹_› | exact .inr rfl | skip)
    | ((conv => enter [3, 20]) <;> apply At.updCore) | split | exact At.ofMkFst ‹_› | exact At.ofMkSnd ‹_›
    | refine At.ofNext (by assumption) ?_ | refine At.ofFst (by assumption) ?_ | refine At.ofSnd (by assumption) ?_
    | refine At.ofOpt (by assumption) ?_ | refine At.ofOptSnd (by assumption) ?_ | refine At.ofOptFst (by assumption) ?_
    | refine At.ofOptSnd2 (by assumption) ?_ | apply At.mapAny | dsimp +zetaDelta only)

theorem State.putKey_keeps {P : Part → Prop} {s₀ s : State} (dict_ : P .dict) (key : Nat) (v : ObjVal) (hs : At (Keeps P s₀) It s) : At
    (Keeps P s₀) It (State.putKey s key v) := by
  unfold State.putKey
  with_reducible repeat' (first
    | assumption | (intro x; refine At.cut x ?_ ?_; rotate_left; intro _; clear_value x; rotate_left; unfold x) | intro _ | lift_lets
    | apply State.putObj_keeps | apply At.ite | apply At.next | apply At.some | exact At.none | dsimp -zeta only [At.mkFst, At.mkSnd]
    | apply At.foldl | apply At.getD | apply At.fst | apply At.snd
    | ((conv => enter [3, 20]) <;> apply At.upd <;> first | exact .inl ‹_› | exact .inr rfl | skip)
    | ((conv => enter [3, 20]) <;> apply At.updCore) | split | exact At.ofMkFst ‹_› | exact At.ofMkSnd ‹_›
    | refine At.ofNext (by assumption) ?_ | refine At.ofFst (by assumption) ?_ | refine At.ofSnd (by assumption) ?_
    | refine At.ofOpt (by assumption) ?_ | refine At.ofOptSnd (by assumption) ?_ | refine At.ofOptFst (by assumption) ?_
    | refine At.ofOptSnd2 (by assumption) ?_ | apply At.mapAny | dsimp +zetaDelta only)

theorem State.recordWrite_keeps {P : Part → Prop} {s₀ s : State} (dict_ : P .dict) (mgmt_ : P .mgmt) (fb_ : P .fb) (w : Writer) (index :
    Nat) (sub : Nat) (value : Octets) (always : Bool) (hs : At (Keeps P s₀) It s) : At (Keeps P s₀) It (State.recordWrite s w index sub
    value always) := by
  unfold State.recordWrite
  with_reducible repeat' (first
    | assumption | (intro x; refine At.cut x ?_ ?_; rotate_left; intro _; clear_value x; rotate_left; unfold x) | intro _ | lift_lets
    | apply State.configRec_keeps | apply State.mpLogAdd_keeps | apply At.ite | apply At.next | apply At.some | exact At.none
    | dsimp -zeta only [At.mkFst, At.mkSnd] | apply At.foldl | apply At.getD | apply At.fst | apply At.snd
    | ((conv => enter [3, 20]) <;> apply At.upd <;> first | exact .inl ‹_› | exact .inr rfl | skip)
    | ((conv => enter [3, 20]) <;> apply At.updCore) | split | exact At.ofMkFst ‹_› | exact At.ofMkSnd ‹_›
    | refine At.ofNext (by assumption) ?_ | refine At.ofFst (by assumption) ?_ | refine At.ofSnd (by assumption) ?_
    | refine At.ofOpt (by assumption) ?_ | refine At.ofOptSnd (by assumption) ?_ | refine At.ofOptFst (by assumption) ?_
    | refine At.ofOptSnd2 (by assumption) ?_ | apply At.mapAny | dsimp +zetaDelta only)

theorem State.command_keeps {P : Part → Prop} {s₀ s : State} (dict_ : P .dict) (mgmt_ : P .mgmt) (fb_ : P .fb) (stn_ : P .stn) (w : Writer)
    (o : ObjSpec) (i : Nat) (value : Octets) (status : Option ObjSpec) (body : State → State × Nat) (hbody : ∀ u, At (Keeps P s₀) It u → At
    (Keeps P s₀) (Fst It) (body u)) (hs : At (Keeps P s₀) It s) : At (Keeps P s₀) It (State.command s w o i value status body) := by
  unfold State.command
  with_reducible repeat' (first
    | assumption | (intro x; refine At.cut x ?_ ?_; rotate_left; intro _; clear_value x; rotate_left; unfold x) | intro _ | lift_lets
    | apply State.setObj_keeps | apply State.reply_keeps | apply State.recordWrite_keeps | apply hbody | apply At.ite | apply At.next
    | apply At.some | exact At.none | dsimp -zeta only [At.mkFst, At.mkSnd] | apply At.foldl | apply At.getD | apply At.fst | apply At.snd
    | ((conv => enter [3, 20]) <;> apply At.upd <;> first | exact .inl ‹_› | exact .inr rfl | skip)
    | ((conv => enter [3, 20]) <;> apply At.updCore) | split | exact At.ofMkFst ‹_› | exact At.ofMkSnd ‹_›
    | refine At.ofNext (by assumption) ?_ | refine At.ofFst (by assumption) ?_ | refine At.ofSnd (by assumption) ?_
    | refine At.ofOpt (by assumption) ?_ | refine At.ofOptSnd (by assumption) ?_ | refine At.ofOptFst (by assumption) ?_
    | refine At.ofOptSnd2 (by assumption) ?_ | apply At.mapAny | dsimp +zetaDelta only)

theorem State.commandNow_keeps {P : Part → Prop} {s₀ s : State} (dict_ : P .dict) (mgmt_ : P .mgmt) (fb_ : P .fb) (stn_ : P .stn) (w :
    Writer) (o : ObjSpec) (i : Nat) (value : Octets) (status : ObjSpec) (body : State → State × Nat) (hbody : ∀ u, At (Keeps P s₀) It u →
    At (Keeps P s₀) (Fst It) (body u)) (hs : At (Keeps P s₀) It s) : At (Keeps P s₀) It (State.commandNow s w o i value status body) := by
  unfold State.commandNow
  with_reducible repeat' (first
    | assumption | (intro x; refine At.cut x ?_ ?_; rotate_left; intro _; clear_value x; rotate_left; unfold x) | intro _ | lift_lets
    | apply State.setObj_keeps | apply State.command_keeps | apply hbody | apply At.ite | apply At.next | apply At.some | exact At.none
    | dsimp -zeta only [At.mkFst, At.mkSnd] | apply At.foldl | apply At.getD | apply At.fst | apply At.snd
    | ((conv => enter [3, 20]) <;> apply At.upd <;> first | exact .inl ‹_› | exact .inr rfl | skip)
    | ((conv => enter [3, 20]) <;> apply At.updCore) | split | exact At.ofMkFst ‹_› | exact At.ofMkSnd ‹_›
    | refine At.ofNext (by assumption) ?_ | refine At.ofFst (by assumption) ?_ | refine At.ofSnd (by assumption) ?_
    | refine At.ofOpt (by assumption) ?_ | refine At.ofOptSnd (by assumption) ?_ | refine At.ofOptFst (by assumption) ?_
    | refine At.ofOptSnd2 (by assumption) ?_ | apply At.mapAny | dsimp +zetaDelta only)

theorem State.commandEnds_keeps {P : Part → Prop} {s₀ s : State} (dict_ : P .dict) (mgmt_ : P .mgmt) (fb_ : P .fb) (stn_ : P .stn) (w :
    Writer) (o : ObjSpec) (i : Nat) (value : Octets) (rangeGood : Bool) (status : ObjSpec) (si : Nat) (body : State → State × Nat) (hbody :
    ∀ u, At (Keeps P s₀) It u → At (Keeps P s₀) (Fst It) (body u)) (hs : At (Keeps P s₀) It s) : At (Keeps P s₀) It (State.commandEnds s w
    o i value rangeGood status si body) := by
  unfold State.commandEnds
  with_reducible repeat' (first
    | assumption | (intro x; refine At.cut x ?_ ?_; rotate_left; intro _; clear_value x; rotate_left; unfold x) | intro _ | lift_lets
    | apply State.setObj_keeps | apply State.reply_keeps | apply State.recordWrite_keeps | apply hbody | apply At.ite | apply At.next
    | apply At.some | exact At.none | dsimp -zeta only [At.mkFst, At.mkSnd] | apply At.foldl | apply At.getD | apply At.fst | apply At.snd
    | ((conv => enter [3, 20]) <;> apply At.upd <;> first | exact .inl ‹_› | exact .inr rfl | skip)
    | ((conv => enter [3, 20]) <;> apply At.updCore) | split | exact At.ofMkFst ‹_› | exact At.ofMkSnd ‹_›
    | refine At.ofNext (by assumption) ?_ | refine At.ofFst (by assumption) ?_ | refine At.ofSnd (by assumption) ?_
    | refine At.ofOpt (by assumption) ?_ | refine At.ofOptSnd (by assumption) ?_ | refine At.ofOptFst (by assumption) ?_
    | refine At.ofOptSnd2 (by assumption) ?_ | apply At.mapAny | dsimp +zetaDelta only)

/-! ### Machine/CamOps.lean -/

theorem State.setCam_keeps {P : Part → Prop} {s₀ s : State} (srch_ : P .srch) (half : Nat) (c : CamHalf) (hs : At (Keeps P s₀) It s) : At
    (Keeps P s₀) It (State.setCam s half c) := by
  unfold State.setCam
  with_reducible repeat' (first
    | assumption | (intro x; refine At.cut x ?_ ?_; rotate_left; intro _; clear_value x; rotate_left; unfold x) | intro _ | lift_lets
    | apply At.ite | apply At.next | apply At.some | exact At.none | dsimp -zeta only [At.mkFst, At.mkSnd] | apply At.foldl
    | apply At.getD | apply At.fst | apply At.snd
    | ((conv => enter [3, 20]) <;> apply At.upd <;> first | exact .inl ‹_› | exact .inr rfl | skip)
    | ((conv => enter [3, 20]) <;> apply At.updCore) | split | exact At.ofMkFst ‹_› | exact At.ofMkSnd ‹_›
    | refine At.ofNext (by assumption) ?_ | refine At.ofFst (by assumption) ?_ | refine At.ofSnd (by assumption) ?_
    | refine At.ofOpt (by assumption) ?_ | refine At.ofOptSnd (by assumption) ?_ | refine At.ofOptFst (by assumption) ?_
    | refine At.ofOptSnd2 (by assumption) ?_ | apply At.mapAny | dsimp +zetaDelta only)

theorem State.setCamStatus_keeps {P : Part → Prop} {s₀ s : State} (srch_ : P .srch) (half : Nat) (status : Nat) (hs : At (Keeps P s₀) It s)
    : At (Keeps P s₀) It (State.setCamStatus s half status) := by
  unfold State.setCamStatus
  with_reducible repeat' (first
    | assumption | (intro x; refine At.cut x ?_ ?_; rotate_left; intro _; clear_value x; rotate_left; unfold x) | intro _ | lift_lets
    | apply State.setCam_keeps | apply At.ite | apply At.next | apply At.some | exact At.none | dsimp -zeta only [At.mkFst, At.mkSnd]
    | apply At.foldl | apply At.getD | apply At.fst | apply At.snd
    | ((conv => enter [3, 20]) <;> apply At.upd <;> first | exact .inl ‹_› | exact .inr rfl | skip)
    | ((conv => enter [3, 20]) <;> apply At.updCore) | split | exact At.ofMkFst ‹_› | exact At.ofMkSnd ‹_›
    | refine At.ofNext (by assumption) ?_ | refine At.ofFst (by assumption) ?_ | refine At.ofSnd (by assumption) ?_
    | refine At.ofOpt (by assumption) ?_ | refine At.ofOptSnd (by assumption) ?_ | refine At.ofOptFst (by assumption) ?_
    | refine At.ofOptSnd2 (by assumption) ?_ | apply At.mapAny | dsimp +zetaDelta only)

theorem State.camOrdered_keeps {P : Part → Prop} {s₀ s : State} (dict_ : P .dict) (srch_ : P .srch) (half : Nat) (x : CamEntry) (hs : At
    (Keeps P s₀) It s) : At (Keeps P s₀) (Opt It) (State.camOrdered s half x) := by
  unfold State.camOrdered
  with_reducible repeat' (first
    | assumption | (intro x; refine At.cut x ?_ ?_; rotate_left; intro _; clear_value x; rotate_left; unfold x) | intro _ | lift_lets
    | apply State.addObj_keeps | apply State.bump_keeps | apply State.setCam_keeps | apply At.ite | apply At.next | apply At.some
    | exact At.none | dsimp -zeta only [At.mkFst, At.mkSnd] | apply At.foldl | apply At.getD | apply At.fst | apply At.snd
    | ((conv => enter [3, 20]) <;> apply At.upd <;> first | exact .inl ‹_› | exact .inr rfl | skip)
    | ((conv => enter [3, 20]) <;> apply At.updCore) | split | exact At.ofMkFst ‹_› | exact At.ofMkSnd ‹_›
    | refine At.ofNext (by assumption) ?_ | refine At.ofFst (by assumption) ?_ | refine At.ofSnd (by assumption) ?_
    | refine At.ofOpt (by assumption) ?_ | refine At.ofOptSnd (by assumption) ?_ | refine At.ofOptFst (by assumption) ?_
    | refine At.ofOptSnd2 (by assumption) ?_ | apply At.mapAny | dsimp +zetaDelta only)

theorem State.camDropHandle_keeps {P : Part → Prop} {s₀ s : State} (srch_ : P .srch) (half : Nat) (st : Nat) (handle : Nat) (hs : At (Keeps
    P s₀) It s) : At (Keeps P s₀) It (State.camDropHandle s half st handle) := by
  unfold State.camDropHandle
  with_reducible repeat' (first
    | assumption | (intro x; refine At.cut x ?_ ?_; rotate_left; intro _; clear_value x; rotate_left; unfold x) | intro _ | lift_lets
    | apply State.setCam_keeps | apply At.ite | apply At.next | apply At.some | exact At.none | dsimp -zeta only [At.mkFst, At.mkSnd]
    | apply At.foldl | apply At.getD | apply At.fst | apply At.snd
    | ((conv => enter [3, 20]) <;> apply At.upd <;> first | exact .inl ‹_› | exact .inr rfl | skip)
    | ((conv => enter [3, 20]) <;> apply At.updCore) | split | exact At.ofMkFst ‹_› | exact At.ofMkSnd ‹_›
    | refine At.ofNext (by assumption) ?_ | refine At.ofFst (by assumption) ?_ | refine At.ofSnd (by assumption) ?_
    | refine At.ofOpt (by assumption) ?_ | refine At.ofOptSnd (by assumption) ?_ | refine At.ofOptFst (by assumption) ?_
    | refine At.ofOptSnd2 (by assumption) ?_ | apply At.mapAny | dsimp +zetaDelta only)

theorem State.camNoTraverse_keeps {P : Part → Prop} {s₀ s : State} (srch_ : P .srch) (hs : At (Keeps P s₀) It s) : At (Keeps P s₀) It
    (State.camNoTraverse s) := by
  unfold State.camNoTraverse
  with_reducible repeat' (first
    | assumption | (intro x; refine At.cut x ?_ ?_; rotate_left; intro _; clear_value x; rotate_left; unfold x) | intro _ | lift_lets
    | apply State.setCam_keeps | apply At.ite | apply At.next | apply At.some | exact At.none | dsimp -zeta only [At.mkFst, At.mkSnd]
    | apply At.foldl | apply At.getD | apply At.fst | apply At.snd
    | ((conv => enter [3, 20]) <;> apply At.upd <;> first | exact .inl ‹_› | exact .inr rfl | skip)
    | ((conv => enter [3, 20]) <;> apply At.updCore) | split | exact At.ofMkFst ‹_› | exact At.ofMkSnd ‹_›
    | refine At.ofNext (by assumption) ?_ | refine At.ofFst (by assumption) ?_ | refine At.ofSnd (by assumption) ?_
    | refine At.ofOpt (by assumption) ?_ | refine At.ofOptSnd (by assumption) ?_ | refine At.ofOptFst (by assumption) ?_
    | refine At.ofOptSnd2 (by assumption) ?_ | apply At.mapAny | dsimp +zetaDelta only)

theorem State.camTrvInsert_keeps {P : Part → Prop} {s₀ s : State} (srch_ : P .srch) (half : Nat) (e : CamEntry) (hs : At (Keeps P s₀) It s)
    : At (Keeps P s₀) (Opt It) (State.camTrvInsert s half e) := by
  unfold State.camTrvInsert
  with_reducible repeat' (first
    | assumption | (intro x; refine At.cut x ?_ ?_; rotate_left; intro _; clear_value x; rotate_left; unfold x) | intro _ | lift_lets
    | apply State.setCam_keeps | apply At.ite | apply At.next | apply At.some | exact At.none | dsimp -zeta only [At.mkFst, At.mkSnd]
    | apply At.foldl | apply At.getD | apply At.fst | apply At.snd
    | ((conv => enter [3, 20]) <;> apply At.upd <;> first | exact .inl ‹_› | exact .inr rfl | skip)
    | ((conv => enter [3, 20]) <;> apply At.updCore) | split | exact At.ofMkFst ‹_› | exact At.ofMkSnd ‹_›
    | refine At.ofNext (by assumption) ?_ | refine At.ofFst (by assumption) ?_ | refine At.ofSnd (by assumption) ?_
    | refine At.ofOpt (by assumption) ?_ | refine At.ofOptSnd (by assumption) ?_ | refine At.ofOptFst (by assumption) ?_
    | refine At.ofOptSnd2 (by assumption) ?_ | apply At.mapAny | dsimp +zetaDelta only)

theorem State.camRuleInsert_keeps {P : Part → Prop} {s₀ s : State} (dict_ : P .dict) (srch_ : P .srch) (half : Nat) (e : CamEntry) (hs : At
    (Keeps P s₀) It s) : At (Keeps P s₀) (Opt It) (State.camRuleInsert s half e) := by
  unfold State.camRuleInsert
  with_reducible repeat' (first
    | assumption | (intro x; refine At.cut x ?_ ?_; rotate_left; intro _; clear_value x; rotate_left; unfold x) | intro _ | lift_lets
    | apply State.camOrdered_keeps | apply At.ite | apply At.next | apply At.some | exact At.none | dsimp -zeta only [At.mkFst, At.mkSnd]
    | apply At.foldl | apply At.getD | apply At.fst | apply At.snd
    | ((conv => enter [3, 20]) <;> apply At.upd <;> first | exact .inl ‹_› | exact .inr rfl | skip)
    | ((conv => enter [3, 20]) <;> apply At.updCore) | split | exact At.ofMkFst ‹_› | exact At.ofMkSnd ‹_›
    | refine At.ofNext (by assumption) ?_ | refine At.ofFst (by assumption) ?_ | refine At.ofSnd (by assumption) ?_
    | refine At.ofOpt (by assumption) ?_ | refine At.ofOptSnd (by assumption) ?_ | refine At.ofOptFst (by assumption) ?_
    | refine At.ofOptSnd2 (by assumption) ?_ | apply At.mapAny | dsimp +zetaDelta only)

theorem State.camLook_keeps {P : Part → Prop} {s₀ s : State} (dict_ : P .dict) (srch_ : P .srch) (half : Nat) (key : Nat) (hs : At (Keeps P
    s₀) It s) : At (Keeps P s₀) It (State.camLook s half key) := by
  unfold State.camLook
  with_reducible repeat' (first
    | assumption | (intro x; refine At.cut x ?_ ?_; rotate_left; intro _; clear_value x; rotate_left; unfold x) | intro _ | lift_lets
    | apply State.bump_keeps | apply State.setCam_keeps | apply At.ite | apply At.next | apply At.some | exact At.none
    | dsimp -zeta only [At.mkFst, At.mkSnd] | apply At.foldl | apply At.getD | apply At.fst | apply At.snd
    | ((conv => enter [3, 20]) <;> apply At.upd <;> first | exact .inl ‹_› | exact .inr rfl | skip)
    | ((conv => enter [3, 20]) <;> apply At.updCore) | split | exact At.ofMkFst ‹_› | exact At.ofMkSnd ‹_›
    | refine At.ofNext (by assumption) ?_ | refine At.ofFst (by assumption) ?_ | refine At.ofSnd (by assumption) ?_
    | refine At.ofOpt (by assumption) ?_ | refine At.ofOptSnd (by assumption) ?_ | refine At.ofOptFst (by assumption) ?_
    | refine At.ofOptSnd2 (by assumption) ?_ | apply At.mapAny | dsimp +zetaDelta only)

theorem State.camLookBoth_keeps {P : Part → Prop} {s₀ s : State} (dict_ : P .dict) (srch_ : P .srch) (key : Nat) (hs : At (Keeps P s₀) It
    s) : At (Keeps P s₀) It (State.camLookBoth s key) := by
  unfold State.camLookBoth
  with_reducible repeat' (first
    | assumption | (intro x; refine At.cut x ?_ ?_; rotate_left; intro _; clear_value x; rotate_left; unfold x) | intro _ | lift_lets
    | apply State.camLook_keeps | apply At.ite | apply At.next | apply At.some | exact At.none | dsimp -zeta only [At.mkFst, At.mkSnd]
    | apply At.foldl | apply At.getD | apply At.fst | apply At.snd
    | ((conv => enter [3, 20]) <;> apply At.upd <;> first | exact .inl ‹_› | exact .inr rfl | skip)
    | ((conv => enter [3, 20]) <;> apply At.updCore) | split | exact At.ofMkFst ‹_› | exact At.ofMkSnd ‹_›
    | refine At.ofNext (by assumption) ?_ | refine At.ofFst (by assumption) ?_ | refine At.ofSnd (by assumption) ?_
    | refine At.ofOpt (by assumption) ?_ | refine At.ofOptSnd (by assumption) ?_ | refine At.ofOptFst (by assumption) ?_
    | refine At.ofOptSnd2 (by assumption) ?_ | apply At.mapAny | dsimp +zetaDelta only)

/-! ### Machine/TileOps.lean -/

theorem State.setTile_keeps {P : Part → Prop} {s₀ s : State} (tier_ : P .tier) (a : Nat) (t : Tile) (hs : At (Keeps P s₀) It s) : At (Keeps
    P s₀) It (State.setTile s a t) := by
  unfold State.setTile
  with_reducible repeat' (first
    | assumption | (intro x; refine At.cut x ?_ ?_; rotate_left; intro _; clear_value x; rotate_left; unfold x) | intro _ | lift_lets
    | apply At.ite | apply At.next | apply At.some | exact At.none | dsimp -zeta only [At.mkFst, At.mkSnd] | apply At.foldl
    | apply At.getD | apply At.fst | apply At.snd
    | ((conv => enter [3, 20]) <;> apply At.upd <;> first | exact .inl ‹_› | exact .inr rfl | skip)
    | ((conv => enter [3, 20]) <;> apply At.updCore) | split | exact At.ofMkFst ‹_› | exact At.ofMkSnd ‹_›
    | refine At.ofNext (by assumption) ?_ | refine At.ofFst (by assumption) ?_ | refine At.ofSnd (by assumption) ?_
    | refine At.ofOpt (by assumption) ?_ | refine At.ofOptSnd (by assumption) ?_ | refine At.ofOptFst (by assumption) ?_
    | refine At.ofOptSnd2 (by assumption) ?_ | apply At.mapAny | dsimp +zetaDelta only)

theorem State.setEng_keeps {P : Part → Prop} {s₀ s : State} (tier_ : P .tier) (half : Nat) (e : MoveEngines) (hs : At (Keeps P s₀) It s) :
    At (Keeps P s₀) It (State.setEng s half e) := by
  unfold State.setEng
  with_reducible repeat' (first
    | assumption | (intro x; refine At.cut x ?_ ?_; rotate_left; intro _; clear_value x; rotate_left; unfold x) | intro _ | lift_lets
    | apply At.ite | apply At.next | apply At.some | exact At.none | dsimp -zeta only [At.mkFst, At.mkSnd] | apply At.foldl
    | apply At.getD | apply At.fst | apply At.snd
    | ((conv => enter [3, 20]) <;> apply At.upd <;> first | exact .inl ‹_› | exact .inr rfl | skip)
    | ((conv => enter [3, 20]) <;> apply At.updCore) | split | exact At.ofMkFst ‹_› | exact At.ofMkSnd ‹_›
    | refine At.ofNext (by assumption) ?_ | refine At.ofFst (by assumption) ?_ | refine At.ofSnd (by assumption) ?_
    | refine At.ofOpt (by assumption) ?_ | refine At.ofOptSnd (by assumption) ?_ | refine At.ofOptFst (by assumption) ?_
    | refine At.ofOptSnd2 (by assumption) ?_ | apply At.mapAny | dsimp +zetaDelta only)

theorem State.stage_keeps {P : Part → Prop} {s₀ s : State} (dict_ : P .dict) (tier_ : P .tier) (half : Nat) (a : Nat) (t : Tile) (hs : At
    (Keeps P s₀) It s) : At (Keeps P s₀) It (State.stage s half a t) := by
  unfold State.stage
  with_reducible repeat' (first
    | assumption | (intro x; refine At.cut x ?_ ?_; rotate_left; intro _; clear_value x; rotate_left; unfold x) | intro _ | lift_lets
    | apply State.bump_keeps | apply State.setTile_keeps | apply State.setEng_keeps | apply At.ite | apply At.next | apply At.some
    | exact At.none | dsimp -zeta only [At.mkFst, At.mkSnd] | apply At.foldl | apply At.getD | apply At.fst | apply At.snd
    | ((conv => enter [3, 20]) <;> apply At.upd <;> first | exact .inl ‹_› | exact .inr rfl | skip)
    | ((conv => enter [3, 20]) <;> apply At.updCore) | split | exact At.ofMkFst ‹_› | exact At.ofMkSnd ‹_›
    | refine At.ofNext (by assumption) ?_ | refine At.ofFst (by assumption) ?_ | refine At.ofSnd (by assumption) ?_
    | refine At.ofOpt (by assumption) ?_ | refine At.ofOptSnd (by assumption) ?_ | refine At.ofOptFst (by assumption) ?_
    | refine At.ofOptSnd2 (by assumption) ?_ | apply At.mapAny | dsimp +zetaDelta only)

theorem State.snapCopy_keeps {P : Part → Prop} {s₀ s : State} (dict_ : P .dict) (tier_ : P .tier) (a : Nat) (hs : At (Keeps P s₀) It s) :
    At (Keeps P s₀) It (State.snapCopy s a) := by
  unfold State.snapCopy
  with_reducible repeat' (first
    | assumption | (intro x; refine At.cut x ?_ ?_; rotate_left; intro _; clear_value x; rotate_left; unfold x) | intro _ | lift_lets
    | apply State.setTile_keeps | apply State.setEng_keeps | apply State.stage_keeps | apply At.ite | apply At.next | apply At.some
    | exact At.none | dsimp -zeta only [At.mkFst, At.mkSnd] | apply At.foldl | apply At.getD | apply At.fst | apply At.snd
    | ((conv => enter [3, 20]) <;> apply At.upd <;> first | exact .inl ‹_› | exact .inr rfl | skip)
    | ((conv => enter [3, 20]) <;> apply At.updCore) | split | exact At.ofMkFst ‹_› | exact At.ofMkSnd ‹_›
    | refine At.ofNext (by assumption) ?_ | refine At.ofFst (by assumption) ?_ | refine At.ofSnd (by assumption) ?_
    | refine At.ofOpt (by assumption) ?_ | refine At.ofOptSnd (by assumption) ?_ | refine At.ofOptFst (by assumption) ?_
    | refine At.ofOptSnd2 (by assumption) ?_ | apply At.mapAny | dsimp +zetaDelta only)

theorem State.countCopy_keeps {P : Part → Prop} {s₀ s : State} (ses_ : P .ses) (x : Option Session) (hs : At (Keeps P s₀) It s) : At (Keeps
    P s₀) It (State.countCopy s x) := by
  unfold State.countCopy
  with_reducible repeat' (first
    | assumption | (intro x; refine At.cut x ?_ ?_; rotate_left; intro _; clear_value x; rotate_left; unfold x) | intro _ | lift_lets
    | apply At.ite | apply At.next | apply At.some | exact At.none | dsimp -zeta only [At.mkFst, At.mkSnd] | apply At.foldl
    | apply At.getD | apply At.fst | apply At.snd
    | ((conv => enter [3, 20]) <;> apply At.upd <;> first | exact .inl ‹_› | exact .inr rfl | skip)
    | ((conv => enter [3, 20]) <;> apply At.updCore) | split | exact At.ofMkFst ‹_› | exact At.ofMkSnd ‹_›
    | refine At.ofNext (by assumption) ?_ | refine At.ofFst (by assumption) ?_ | refine At.ofSnd (by assumption) ?_
    | refine At.ofOpt (by assumption) ?_ | refine At.ofOptSnd (by assumption) ?_ | refine At.ofOptFst (by assumption) ?_
    | refine At.ofOptSnd2 (by assumption) ?_ | apply At.mapAny | dsimp +zetaDelta only)

theorem State.writeTile_keeps {P : Part → Prop} {s₀ s : State} (dict_ : P .dict) (ses_ : P .ses) (tier_ : P .tier) (a : Nat) (t : Tile) (hs
    : At (Keeps P s₀) It s) : At (Keeps P s₀) It (State.writeTile s a t) := by
  unfold State.writeTile
  with_reducible repeat' (first
    | assumption | (intro x; refine At.cut x ?_ ?_; rotate_left; intro _; clear_value x; rotate_left; unfold x) | intro _ | lift_lets
    | apply State.bump_keeps | apply State.setTile_keeps | apply State.snapCopy_keeps | apply State.countCopy_keeps | apply At.ite
    | apply At.next | apply At.some | exact At.none | dsimp -zeta only [At.mkFst, At.mkSnd] | apply At.foldl | apply At.getD
    | apply At.fst | apply At.snd | ((conv => enter [3, 20]) <;> apply At.upd <;> first | exact .inl ‹_› | exact .inr rfl | skip)
    | ((conv => enter [3, 20]) <;> apply At.updCore) | split | exact At.ofMkFst ‹_› | exact At.ofMkSnd ‹_›
    | refine At.ofNext (by assumption) ?_ | refine At.ofFst (by assumption) ?_ | refine At.ofSnd (by assumption) ?_
    | refine At.ofOpt (by assumption) ?_ | refine At.ofOptSnd (by assumption) ?_ | refine At.ofOptFst (by assumption) ?_
    | refine At.ofOptSnd2 (by assumption) ?_ | apply At.mapAny | dsimp +zetaDelta only)

theorem State.freeTileAt_keeps {P : Part → Prop} {s₀ s : State} (tier_ : P .tier) (a : Nat) (hs : At (Keeps P s₀) It s) : At (Keeps P s₀)
    It (State.freeTileAt s a) := by
  unfold State.freeTileAt
  with_reducible repeat' (first
    | assumption | (intro x; refine At.cut x ?_ ?_; rotate_left; intro _; clear_value x; rotate_left; unfold x) | intro _ | lift_lets
    | apply State.setTile_keeps | apply State.setEng_keeps | apply At.ite | apply At.next | apply At.some | exact At.none
    | dsimp -zeta only [At.mkFst, At.mkSnd] | apply At.foldl | apply At.getD | apply At.fst | apply At.snd
    | ((conv => enter [3, 20]) <;> apply At.upd <;> first | exact .inl ‹_› | exact .inr rfl | skip)
    | ((conv => enter [3, 20]) <;> apply At.updCore) | split | exact At.ofMkFst ‹_› | exact At.ofMkSnd ‹_›
    | refine At.ofNext (by assumption) ?_ | refine At.ofFst (by assumption) ?_ | refine At.ofSnd (by assumption) ?_
    | refine At.ofOpt (by assumption) ?_ | refine At.ofOptSnd (by assumption) ?_ | refine At.ofOptFst (by assumption) ?_
    | refine At.ofOptSnd2 (by assumption) ?_ | apply At.mapAny | dsimp +zetaDelta only)

theorem State.allocT1_keeps {P : Part → Prop} {s₀ s : State} (dict_ : P .dict) (ses_ : P .ses) (tier_ : P .tier) (free_ : P .free) (half :
    Nat) (c : Nat) (t : Tile) (hs : At (Keeps P s₀) It s) : At (Keeps P s₀) (Opt (Snd It)) (State.allocT1 s half c t) := by
  unfold State.allocT1
  with_reducible repeat' (first
    | assumption | (intro x; refine At.cut x ?_ ?_; rotate_left; intro _; clear_value x; rotate_left; unfold x) | intro _ | lift_lets
    | apply State.draw_keeps | apply State.bump_keeps | apply State.writeTile_keeps | apply At.ite | apply At.next | apply At.some
    | exact At.none | dsimp -zeta only [At.mkFst, At.mkSnd] | apply At.foldl | apply At.getD | apply At.fst | apply At.snd
    | ((conv => enter [3, 20]) <;> apply At.upd <;> first | exact .inl ‹_› | exact .inr rfl | skip)
    | ((conv => enter [3, 20]) <;> apply At.updCore) | split | exact At.ofMkFst ‹_› | exact At.ofMkSnd ‹_›
    | refine At.ofNext (by assumption) ?_ | refine At.ofFst (by assumption) ?_ | refine At.ofSnd (by assumption) ?_
    | refine At.ofOpt (by assumption) ?_ | refine At.ofOptSnd (by assumption) ?_ | refine At.ofOptFst (by assumption) ?_
    | refine At.ofOptSnd2 (by assumption) ?_ | apply At.mapAny | dsimp +zetaDelta only)

theorem State.freeRow_keeps {P : Part → Prop} {s₀ s : State} (free_ : P .free) (half : Nat) (hs : At (Keeps P s₀) It s) : At (Keeps P s₀)
    (Opt (Snd It)) (State.freeRow s half) := by
  unfold State.freeRow
  with_reducible repeat' (first
    | assumption | (intro x; refine At.cut x ?_ ?_; rotate_left; intro _; clear_value x; rotate_left; unfold x) | intro _ | lift_lets
    | apply State.draw_keeps | apply At.ite | apply At.next | apply At.some | exact At.none | dsimp -zeta only [At.mkFst, At.mkSnd]
    | apply At.foldl | apply At.getD | apply At.fst | apply At.snd
    | ((conv => enter [3, 20]) <;> apply At.upd <;> first | exact .inl ‹_› | exact .inr rfl | skip)
    | ((conv => enter [3, 20]) <;> apply At.updCore) | split | exact At.ofMkFst ‹_› | exact At.ofMkSnd ‹_›
    | refine At.ofNext (by assumption) ?_ | refine At.ofFst (by assumption) ?_ | refine At.ofSnd (by assumption) ?_
    | refine At.ofOpt (by assumption) ?_ | refine At.ofOptSnd (by assumption) ?_ | refine At.ofOptFst (by assumption) ?_
    | refine At.ofOptSnd2 (by assumption) ?_ | apply At.mapAny | dsimp +zetaDelta only)

theorem State.allocT2_keeps {P : Part → Prop} {s₀ s : State} (dict_ : P .dict) (ses_ : P .ses) (tier_ : P .tier) (free_ : P .free) (half :
    Nat) (t : Tile) (hs : At (Keeps P s₀) It s) : At (Keeps P s₀) (Opt (Snd It)) (State.allocT2 s half t) := by
  unfold State.allocT2
  with_reducible repeat' (first
    | assumption | (intro x; refine At.cut x ?_ ?_; rotate_left; intro _; clear_value x; rotate_left; unfold x) | intro _ | lift_lets
    | apply State.writeTile_keeps | apply State.freeRow_keeps | apply At.ite | apply At.next | apply At.some | exact At.none
    | dsimp -zeta only [At.mkFst, At.mkSnd] | apply At.foldl | apply At.getD | apply At.fst | apply At.snd
    | ((conv => enter [3, 20]) <;> apply At.upd <;> first | exact .inl ‹_› | exact .inr rfl | skip)
    | ((conv => enter [3, 20]) <;> apply At.updCore) | split | exact At.ofMkFst ‹_› | exact At.ofMkSnd ‹_›
    | refine At.ofNext (by assumption) ?_ | refine At.ofFst (by assumption) ?_ | refine At.ofSnd (by assumption) ?_
    | refine At.ofOpt (by assumption) ?_ | refine At.ofOptSnd (by assumption) ?_ | refine At.ofOptFst (by assumption) ?_
    | refine At.ofOptSnd2 (by assumption) ?_ | apply At.mapAny | dsimp +zetaDelta only)

theorem State.allocSys_keeps {P : Part → Prop} {s₀ s : State} (dict_ : P .dict) (ses_ : P .ses) (tier_ : P .tier) (free_ : P .free) (half :
    Nat) (t : Tile) (hs : At (Keeps P s₀) It s) : At (Keeps P s₀) (Opt (Snd It)) (State.allocSys s half t) := by
  unfold State.allocSys
  with_reducible repeat' (first
    | assumption | (intro x; refine At.cut x ?_ ?_; rotate_left; intro _; clear_value x; rotate_left; unfold x) | intro _ | lift_lets
    | apply State.writeTile_keeps | apply State.allocT2_keeps | apply At.ite | apply At.next | apply At.some | exact At.none
    | dsimp -zeta only [At.mkFst, At.mkSnd] | apply At.foldl | apply At.getD | apply At.fst | apply At.snd
    | ((conv => enter [3, 20]) <;> apply At.upd <;> first | exact .inl ‹_› | exact .inr rfl | skip)
    | ((conv => enter [3, 20]) <;> apply At.updCore) | split | exact At.ofMkFst ‹_› | exact At.ofMkSnd ‹_›
    | refine At.ofNext (by assumption) ?_ | refine At.ofFst (by assumption) ?_ | refine At.ofSnd (by assumption) ?_
    | refine At.ofOpt (by assumption) ?_ | refine At.ofOptSnd (by assumption) ?_ | refine At.ofOptFst (by assumption) ?_
    | refine At.ofOptSnd2 (by assumption) ?_ | apply At.mapAny | dsimp +zetaDelta only)

theorem State.keepSys_keeps {P : Part → Prop} {s₀ s : State} (dict_ : P .dict) (ses_ : P .ses) (tier_ : P .tier) (free_ : P .free) (half :
    Nat) (t : Tile) (y3 : Nat) (y4 : Octets) (y5 : List Nat) (hs : At (Keeps P s₀) It s) : At (Keeps P s₀) (Fst It) (State.keepSys s half t
    y3 y4 y5) := by
  induction y3 generalizing s y4 y5 with
  | zero =>
    unfold State.keepSys
    with_reducible repeat' (first
      | assumption | (intro x; refine At.cut x ?_ ?_; rotate_left; intro _; clear_value x; rotate_left; unfold x) | intro _ | lift_lets
      | apply State.allocSys_keeps | apply At.ite | apply At.next | apply At.some | exact At.none | dsimp -zeta only [At.mkFst, At.mkSnd]
      | apply At.foldl | apply At.getD | apply At.fst | apply At.snd
      | ((conv => enter [3, 20]) <;> apply At.upd <;> first | exact .inl ‹_› | exact .inr rfl | skip)
      | ((conv => enter [3, 20]) <;> apply At.updCore) | split | exact At.ofMkFst ‹_› | exact At.ofMkSnd ‹_›
      | refine At.ofNext (by assumption) ?_ | refine At.ofFst (by assumption) ?_ | refine At.ofSnd (by assumption) ?_
      | refine At.ofOpt (by assumption) ?_ | refine At.ofOptSnd (by assumption) ?_ | refine At.ofOptFst (by assumption) ?_
      | refine At.ofOptSnd2 (by assumption) ?_ | apply At.mapAny | dsimp +zetaDelta only)
  | succ n ih =>
    unfold State.keepSys
    with_reducible repeat' (first
      | assumption | (intro x; refine At.cut x ?_ ?_; rotate_left; intro _; clear_value x; rotate_left; unfold x) | intro _ | lift_lets
      | apply State.allocSys_keeps | apply ih | apply At.ite | apply At.next | apply At.some | exact At.none
      | dsimp -zeta only [At.mkFst, At.mkSnd] | apply At.foldl | apply At.getD | apply At.fst | apply At.snd
      | ((conv => enter [3, 20]) <;> apply At.upd <;> first | exact .inl ‹_› | exact .inr rfl | skip)
      | ((conv => enter [3, 20]) <;> apply At.updCore) | split | exact At.ofMkFst ‹_› | exact At.ofMkSnd ‹_›
      | refine At.ofNext (by assumption) ?_ | refine At.ofFst (by assumption) ?_ | refine At.ofSnd (by assumption) ?_
      | refine At.ofOpt (by assumption) ?_ | refine At.ofOptSnd (by assumption) ?_ | refine At.ofOptFst (by assumption) ?_
      | refine At.ofOptSnd2 (by assumption) ?_ | apply At.mapAny | dsimp +zetaDelta only)

theorem State.keepText_keeps {P : Part → Prop} {s₀ s : State} (dict_ : P .dict) (ses_ : P .ses) (tier_ : P .tier) (free_ : P .free) (owner
    : Nat) (o : Octets) (hs : At (Keeps P s₀) It s) : At (Keeps P s₀) (Fst It) (State.keepText s owner o) := by
  unfold State.keepText
  with_reducible repeat' (first
    | assumption | (intro x; refine At.cut x ?_ ?_; rotate_left; intro _; clear_value x; rotate_left; unfold x) | intro _ | lift_lets
    | apply State.keepSys_keeps | apply At.ite | apply At.next | apply At.some | exact At.none | dsimp -zeta only [At.mkFst, At.mkSnd]
    | apply At.foldl | apply At.getD | apply At.fst | apply At.snd
    | ((conv => enter [3, 20]) <;> apply At.upd <;> first | exact .inl ‹_› | exact .inr rfl | skip)
    | ((conv => enter [3, 20]) <;> apply At.updCore) | split | exact At.ofMkFst ‹_› | exact At.ofMkSnd ‹_›
    | refine At.ofNext (by assumption) ?_ | refine At.ofFst (by assumption) ?_ | refine At.ofSnd (by assumption) ?_
    | refine At.ofOpt (by assumption) ?_ | refine At.ofOptSnd (by assumption) ?_ | refine At.ofOptFst (by assumption) ?_
    | refine At.ofOptSnd2 (by assumption) ?_ | apply At.mapAny | dsimp +zetaDelta only)

theorem State.freeText_keeps {P : Part → Prop} {s₀ s : State} (tier_ : P .tier) (owner : Nat) (hs : At (Keeps P s₀) It s) : At (Keeps P s₀)
    It (State.freeText s owner) := by
  unfold State.freeText
  with_reducible repeat' (first
    | assumption | (intro x; refine At.cut x ?_ ?_; rotate_left; intro _; clear_value x; rotate_left; unfold x) | intro _ | lift_lets
    | apply State.freeTileAt_keeps | apply At.ite | apply At.next | apply At.some | exact At.none | dsimp -zeta only [At.mkFst, At.mkSnd]
    | apply At.foldl | apply At.getD | apply At.fst | apply At.snd
    | ((conv => enter [3, 20]) <;> apply At.upd <;> first | exact .inl ‹_› | exact .inr rfl | skip)
    | ((conv => enter [3, 20]) <;> apply At.updCore) | split | exact At.ofMkFst ‹_› | exact At.ofMkSnd ‹_›
    | refine At.ofNext (by assumption) ?_ | refine At.ofFst (by assumption) ?_ | refine At.ofSnd (by assumption) ?_
    | refine At.ofOpt (by assumption) ?_ | refine At.ofOptSnd (by assumption) ?_ | refine At.ofOptFst (by assumption) ?_
    | refine At.ofOptSnd2 (by assumption) ?_ | apply At.mapAny | dsimp +zetaDelta only)

theorem State.writeNew_keeps {P : Part → Prop} {s₀ s : State} (dict_ : P .dict) (ses_ : P .ses) (tier_ : P .tier) (x : Session) (a : Nat)
    (t : Tile) (hs : At (Keeps P s₀) It s) : At (Keeps P s₀) It (State.writeNew s x a t) := by
  unfold State.writeNew
  with_reducible repeat' (first
    | assumption | (intro x; refine At.cut x ?_ ?_; rotate_left; intro _; clear_value x; rotate_left; unfold x) | intro _ | lift_lets
    | apply State.writeTile_keeps | apply At.ite | apply At.next | apply At.some | exact At.none | dsimp -zeta only [At.mkFst, At.mkSnd]
    | apply At.foldl | apply At.getD | apply At.fst | apply At.snd
    | ((conv => enter [3, 20]) <;> apply At.upd <;> first | exact .inl ‹_› | exact .inr rfl | skip)
    | ((conv => enter [3, 20]) <;> apply At.updCore) | split | exact At.ofMkFst ‹_› | exact At.ofMkSnd ‹_›
    | refine At.ofNext (by assumption) ?_ | refine At.ofFst (by assumption) ?_ | refine At.ofSnd (by assumption) ?_
    | refine At.ofOpt (by assumption) ?_ | refine At.ofOptSnd (by assumption) ?_ | refine At.ofOptFst (by assumption) ?_
    | refine At.ofOptSnd2 (by assumption) ?_ | apply At.mapAny | dsimp +zetaDelta only)

theorem State.allocT3_keeps {P : Part → Prop} {s₀ s : State} (dict_ : P .dict) (ses_ : P .ses) (tier_ : P .tier) (x : Session) (t : Tile)
    (hs : At (Keeps P s₀) It s) : At (Keeps P s₀) (Opt (Snd It)) (State.allocT3 s x t) := by
  unfold State.allocT3
  with_reducible repeat' (first
    | assumption | (intro x; refine At.cut x ?_ ?_; rotate_left; intro _; clear_value x; rotate_left; unfold x) | intro _ | lift_lets
    | apply State.writeNew_keeps | apply At.ite | apply At.next | apply At.some | exact At.none | dsimp -zeta only [At.mkFst, At.mkSnd]
    | apply At.foldl | apply At.getD | apply At.fst | apply At.snd
    | ((conv => enter [3, 20]) <;> apply At.upd <;> first | exact .inl ‹_› | exact .inr rfl | skip)
    | ((conv => enter [3, 20]) <;> apply At.updCore) | split | exact At.ofMkFst ‹_› | exact At.ofMkSnd ‹_›
    | refine At.ofNext (by assumption) ?_ | refine At.ofFst (by assumption) ?_ | refine At.ofSnd (by assumption) ?_
    | refine At.ofOpt (by assumption) ?_ | refine At.ofOptSnd (by assumption) ?_ | refine At.ofOptFst (by assumption) ?_
    | refine At.ofOptSnd2 (by assumption) ?_ | apply At.mapAny | dsimp +zetaDelta only)

theorem State.allocT4_keeps {P : Part → Prop} {s₀ s : State} (dict_ : P .dict) (ses_ : P .ses) (tier_ : P .tier) (x : Session) (t : Tile)
    (hs : At (Keeps P s₀) It s) : At (Keeps P s₀) (Opt (Snd It)) (State.allocT4 s x t) := by
  unfold State.allocT4
  with_reducible repeat' (first
    | assumption | (intro x; refine At.cut x ?_ ?_; rotate_left; intro _; clear_value x; rotate_left; unfold x) | intro _ | lift_lets
    | apply State.writeNew_keeps | apply At.ite | apply At.next | apply At.some | exact At.none | dsimp -zeta only [At.mkFst, At.mkSnd]
    | apply At.foldl | apply At.getD | apply At.fst | apply At.snd
    | ((conv => enter [3, 20]) <;> apply At.upd <;> first | exact .inl ‹_› | exact .inr rfl | skip)
    | ((conv => enter [3, 20]) <;> apply At.updCore) | split | exact At.ofMkFst ‹_› | exact At.ofMkSnd ‹_›
    | refine At.ofNext (by assumption) ?_ | refine At.ofFst (by assumption) ?_ | refine At.ofSnd (by assumption) ?_
    | refine At.ofOpt (by assumption) ?_ | refine At.ofOptSnd (by assumption) ?_ | refine At.ofOptFst (by assumption) ?_
    | refine At.ofOptSnd2 (by assumption) ?_ | apply At.mapAny | dsimp +zetaDelta only)

/-! ### Machine/SessOps.lean -/

theorem State.setSess_keeps {P : Part → Prop} {s₀ s : State} (ses_ : P .ses) (x : Session) (hs : At (Keeps P s₀) It s) : At (Keeps P s₀) It
    (State.setSess s x) := by
  unfold State.setSess
  with_reducible repeat' (first
    | assumption | (intro x; refine At.cut x ?_ ?_; rotate_left; intro _; clear_value x; rotate_left; unfold x) | intro _ | lift_lets
    | apply At.ite | apply At.next | apply At.some | exact At.none | dsimp -zeta only [At.mkFst, At.mkSnd] | apply At.foldl
    | apply At.getD | apply At.fst | apply At.snd
    | ((conv => enter [3, 20]) <;> apply At.upd <;> first | exact .inl ‹_› | exact .inr rfl | skip)
    | ((conv => enter [3, 20]) <;> apply At.updCore) | split | exact At.ofMkFst ‹_› | exact At.ofMkSnd ‹_›
    | refine At.ofNext (by assumption) ?_ | refine At.ofFst (by assumption) ?_ | refine At.ofSnd (by assumption) ?_
    | refine At.ofOpt (by assumption) ?_ | refine At.ofOptSnd (by assumption) ?_ | refine At.ofOptFst (by assumption) ?_
    | refine At.ofOptSnd2 (by assumption) ?_ | apply At.mapAny | dsimp +zetaDelta only)

theorem State.modSess_keeps {P : Part → Prop} {s₀ s : State} (ses_ : P .ses) (i : Nat) (f : Session → Session) (hs : At (Keeps P s₀) It s)
    : At (Keeps P s₀) It (State.modSess s i f) := by
  unfold State.modSess
  with_reducible repeat' (first
    | assumption | (intro x; refine At.cut x ?_ ?_; rotate_left; intro _; clear_value x; rotate_left; unfold x) | intro _ | lift_lets
    | apply State.setSess_keeps | apply At.ite | apply At.next | apply At.some | exact At.none | dsimp -zeta only [At.mkFst, At.mkSnd]
    | apply At.foldl | apply At.getD | apply At.fst | apply At.snd
    | ((conv => enter [3, 20]) <;> apply At.upd <;> first | exact .inl ‹_› | exact .inr rfl | skip)
    | ((conv => enter [3, 20]) <;> apply At.updCore) | split | exact At.ofMkFst ‹_› | exact At.ofMkSnd ‹_›
    | refine At.ofNext (by assumption) ?_ | refine At.ofFst (by assumption) ?_ | refine At.ofSnd (by assumption) ?_
    | refine At.ofOpt (by assumption) ?_ | refine At.ofOptSnd (by assumption) ?_ | refine At.ofOptFst (by assumption) ?_
    | refine At.ofOptSnd2 (by assumption) ?_ | apply At.mapAny | dsimp +zetaDelta only)

theorem State.takeIndex_keeps {P : Part → Prop} {s₀ s : State} (ses_ : P .ses) (free_ : P .free) (half : Nat) (hs : At (Keeps P s₀) It s) :
    At (Keeps P s₀) (Opt (Snd (Snd It))) (State.takeIndex s half) := by
  unfold State.takeIndex
  with_reducible repeat' (first
    | assumption | (intro x; refine At.cut x ?_ ?_; rotate_left; intro _; clear_value x; rotate_left; unfold x) | intro _ | lift_lets
    | apply State.draw_keeps | apply At.ite | apply At.next | apply At.some | exact At.none | dsimp -zeta only [At.mkFst, At.mkSnd]
    | apply At.foldl | apply At.getD | apply At.fst | apply At.snd
    | ((conv => enter [3, 20]) <;> apply At.upd <;> first | exact .inl ‹_› | exact .inr rfl | skip)
    | ((conv => enter [3, 20]) <;> apply At.updCore) | split | exact At.ofMkFst ‹_› | exact At.ofMkSnd ‹_›
    | refine At.ofNext (by assumption) ?_ | refine At.ofFst (by assumption) ?_ | refine At.ofSnd (by assumption) ?_
    | refine At.ofOpt (by assumption) ?_ | refine At.ofOptSnd (by assumption) ?_ | refine At.ofOptFst (by assumption) ?_
    | refine At.ofOptSnd2 (by assumption) ?_ | apply At.mapAny | dsimp +zetaDelta only)

theorem State.setHash_keeps {P : Part → Prop} {s₀ s : State} (ses_ : P .ses) (half : Nat) (h : HashTable) (hs : At (Keeps P s₀) It s) : At
    (Keeps P s₀) It (State.setHash s half h) := by
  unfold State.setHash
  with_reducible repeat' (first
    | assumption | (intro x; refine At.cut x ?_ ?_; rotate_left; intro _; clear_value x; rotate_left; unfold x) | intro _ | lift_lets
    | apply At.ite | apply At.next | apply At.some | exact At.none | dsimp -zeta only [At.mkFst, At.mkSnd] | apply At.foldl
    | apply At.getD | apply At.fst | apply At.snd
    | ((conv => enter [3, 20]) <;> apply At.upd <;> first | exact .inl ‹_› | exact .inr rfl | skip)
    | ((conv => enter [3, 20]) <;> apply At.updCore) | split | exact At.ofMkFst ‹_› | exact At.ofMkSnd ‹_›
    | refine At.ofNext (by assumption) ?_ | refine At.ofFst (by assumption) ?_ | refine At.ofSnd (by assumption) ?_
    | refine At.ofOpt (by assumption) ?_ | refine At.ofOptSnd (by assumption) ?_ | refine At.ofOptFst (by assumption) ?_
    | refine At.ofOptSnd2 (by assumption) ?_ | apply At.mapAny | dsimp +zetaDelta only)

theorem State.resolve_keeps {P : Part → Prop} {s₀ s : State} (dict_ : P .dict) (ses_ : P .ses) (srch_ : P .srch) (st : Nat) (handle : Nat)
    (hs : At (Keeps P s₀) It s) : At (Keeps P s₀) (Fst It) (State.resolve s st handle) := by
  unfold State.resolve
  with_reducible repeat' (first
    | assumption | (intro x; refine At.cut x ?_ ?_; rotate_left; intro _; clear_value x; rotate_left; unfold x) | intro _ | lift_lets
    | apply State.camLookBoth_keeps | apply At.ite | apply At.next | apply At.some | exact At.none | dsimp -zeta only [At.mkFst, At.mkSnd]
    | apply At.foldl | apply At.getD | apply At.fst | apply At.snd
    | ((conv => enter [3, 20]) <;> apply At.upd <;> first | exact .inl ‹_› | exact .inr rfl | skip)
    | ((conv => enter [3, 20]) <;> apply At.updCore) | split | exact At.ofMkFst ‹_› | exact At.ofMkSnd ‹_›
    | refine At.ofNext (by assumption) ?_ | refine At.ofFst (by assumption) ?_ | refine At.ofSnd (by assumption) ?_
    | refine At.ofOpt (by assumption) ?_ | refine At.ofOptSnd (by assumption) ?_ | refine At.ofOptFst (by assumption) ?_
    | refine At.ofOptSnd2 (by assumption) ?_ | apply At.mapAny | dsimp +zetaDelta only)

theorem State.camAddHandle_keeps {P : Part → Prop} {s₀ s : State} (ses_ : P .ses) (srch_ : P .srch) (x : Session) (hs : At (Keeps P s₀) It
    s) : At (Keeps P s₀) It (State.camAddHandle s x) := by
  unfold State.camAddHandle
  with_reducible repeat' (first
    | assumption | (intro x; refine At.cut x ?_ ?_; rotate_left; intro _; clear_value x; rotate_left; unfold x) | intro _ | lift_lets
    | apply State.setCam_keeps | apply At.ite | apply At.next | apply At.some | exact At.none | dsimp -zeta only [At.mkFst, At.mkSnd]
    | apply At.foldl | apply At.getD | apply At.fst | apply At.snd
    | ((conv => enter [3, 20]) <;> apply At.upd <;> first | exact .inl ‹_› | exact .inr rfl | skip)
    | ((conv => enter [3, 20]) <;> apply At.updCore) | split | exact At.ofMkFst ‹_› | exact At.ofMkSnd ‹_›
    | refine At.ofNext (by assumption) ?_ | refine At.ofFst (by assumption) ?_ | refine At.ofSnd (by assumption) ?_
    | refine At.ofOpt (by assumption) ?_ | refine At.ofOptSnd (by assumption) ?_ | refine At.ofOptFst (by assumption) ?_
    | refine At.ofOptSnd2 (by assumption) ?_ | apply At.mapAny | dsimp +zetaDelta only)

theorem State.enterHandles_keeps {P : Part → Prop} {s₀ s : State} (dict_ : P .dict) (ses_ : P .ses) (srch_ : P .srch) (y : Session) (hs :
    At (Keeps P s₀) It s) : At (Keeps P s₀) It (State.enterHandles s y) := by
  unfold State.enterHandles
  with_reducible repeat' (first
    | assumption | (intro x; refine At.cut x ?_ ?_; rotate_left; intro _; clear_value x; rotate_left; unfold x) | intro _ | lift_lets
    | apply State.bump_keeps | apply State.setCam_keeps | apply State.setHash_keeps | apply State.camAddHandle_keeps | apply At.ite
    | apply At.next | apply At.some | exact At.none | dsimp -zeta only [At.mkFst, At.mkSnd] | apply At.foldl | apply At.getD
    | apply At.fst | apply At.snd | ((conv => enter [3, 20]) <;> apply At.upd <;> first | exact .inl ‹_› | exact .inr rfl | skip)
    | ((conv => enter [3, 20]) <;> apply At.updCore) | split | exact At.ofMkFst ‹_› | exact At.ofMkSnd ‹_›
    | refine At.ofNext (by assumption) ?_ | refine At.ofFst (by assumption) ?_ | refine At.ofSnd (by assumption) ?_
    | refine At.ofOpt (by assumption) ?_ | refine At.ofOptSnd (by assumption) ?_ | refine At.ofOptFst (by assumption) ?_
    | refine At.ofOptSnd2 (by assumption) ?_ | apply At.mapAny | dsimp +zetaDelta only)

theorem State.dropHandle_keeps {P : Part → Prop} {s₀ s : State} (ses_ : P .ses) (srch_ : P .srch) (x : Session) (hs : At (Keeps P s₀) It s)
    : At (Keeps P s₀) It (State.dropHandle s x) := by
  unfold State.dropHandle
  with_reducible repeat' (first
    | assumption | (intro x; refine At.cut x ?_ ?_; rotate_left; intro _; clear_value x; rotate_left; unfold x) | intro _ | lift_lets
    | apply State.camDropHandle_keeps | apply State.setHash_keeps | apply At.ite | apply At.next | apply At.some | exact At.none
    | dsimp -zeta only [At.mkFst, At.mkSnd] | apply At.foldl | apply At.getD | apply At.fst | apply At.snd
    | ((conv => enter [3, 20]) <;> apply At.upd <;> first | exact .inl ‹_› | exact .inr rfl | skip)
    | ((conv => enter [3, 20]) <;> apply At.updCore) | split | exact At.ofMkFst ‹_› | exact At.ofMkSnd ‹_›
    | refine At.ofNext (by assumption) ?_ | refine At.ofFst (by assumption) ?_ | refine At.ofSnd (by assumption) ?_
    | refine At.ofOpt (by assumption) ?_ | refine At.ofOptSnd (by assumption) ?_ | refine At.ofOptFst (by assumption) ?_
    | refine At.ofOptSnd2 (by assumption) ?_ | apply At.mapAny | dsimp +zetaDelta only)

theorem State.srec_keeps {P : Part → Prop} {s₀ s : State} (dict_ : P .dict) (fb_ : P .fb) (ses_ : P .ses) (i : Nat) (body : RecBody) (hs :
    At (Keeps P s₀) It s) : At (Keeps P s₀) (Fst It) (State.srec s i body) := by
  unfold State.srec
  with_reducible repeat' (first
    | assumption | (intro x; refine At.cut x ?_ ?_; rotate_left; intro _; clear_value x; rotate_left; unfold x) | intro _ | lift_lets
    | apply State.appendRec_keeps | apply State.setSess_keeps | apply At.ite | apply At.next | apply At.some | exact At.none
    | dsimp -zeta only [At.mkFst, At.mkSnd] | apply At.foldl | apply At.getD | apply At.fst | apply At.snd
    | ((conv => enter [3, 20]) <;> apply At.upd <;> first | exact .inl ‹_› | exact .inr rfl | skip)
    | ((conv => enter [3, 20]) <;> apply At.updCore) | split | exact At.ofMkFst ‹_› | exact At.ofMkSnd ‹_›
    | refine At.ofNext (by assumption) ?_ | refine At.ofFst (by assumption) ?_ | refine At.ofSnd (by assumption) ?_
    | refine At.ofOpt (by assumption) ?_ | refine At.ofOptSnd (by assumption) ?_ | refine At.ofOptFst (by assumption) ?_
    | refine At.ofOptSnd2 (by assumption) ?_ | apply At.mapAny | dsimp +zetaDelta only)

theorem State.srec'_keeps {P : Part → Prop} {s₀ s : State} (dict_ : P .dict) (fb_ : P .fb) (ses_ : P .ses) (i : Nat) (body : RecBody) (hs :
    At (Keeps P s₀) It s) : At (Keeps P s₀) It (State.srec' s i body) := by
  unfold State.srec'
  with_reducible repeat' (first
    | assumption | (intro x; refine At.cut x ?_ ?_; rotate_left; intro _; clear_value x; rotate_left; unfold x) | intro _ | lift_lets
    | apply State.srec_keeps | apply At.ite | apply At.next | apply At.some | exact At.none | dsimp -zeta only [At.mkFst, At.mkSnd]
    | apply At.foldl | apply At.getD | apply At.fst | apply At.snd
    | ((conv => enter [3, 20]) <;> apply At.upd <;> first | exact .inl ‹_› | exact .inr rfl | skip)
    | ((conv => enter [3, 20]) <;> apply At.updCore) | split | exact At.ofMkFst ‹_› | exact At.ofMkSnd ‹_›
    | refine At.ofNext (by assumption) ?_ | refine At.ofFst (by assumption) ?_ | refine At.ofSnd (by assumption) ?_
    | refine At.ofOpt (by assumption) ?_ | refine At.ofOptSnd (by assumption) ?_ | refine At.ofOptFst (by assumption) ?_
    | refine At.ofOptSnd2 (by assumption) ?_ | apply At.mapAny | dsimp +zetaDelta only)

theorem State.sevent_keeps {P : Part → Prop} {s₀ s : State} (dict_ : P .dict) (stn_ : P .stn) (x : Session) (code : Nat) (a0 : Nat) (a1 :
    Nat) (hs : At (Keeps P s₀) It s) : At (Keeps P s₀) It (State.sevent s x code a0 a1) := by
  unfold State.sevent
  with_reducible repeat' (first
    | assumption | (intro x; refine At.cut x ?_ ?_; rotate_left; intro _; clear_value x; rotate_left; unfold x) | intro _ | lift_lets
    | apply State.event_keeps | apply At.ite | apply At.next | apply At.some | exact At.none | dsimp -zeta only [At.mkFst, At.mkSnd]
    | apply At.foldl | apply At.getD | apply At.fst | apply At.snd
    | ((conv => enter [3, 20]) <;> apply At.upd <;> first | exact .inl ‹_› | exact .inr rfl | skip)
    | ((conv => enter [3, 20]) <;> apply At.updCore) | split | exact At.ofMkFst ‹_› | exact At.ofMkSnd ‹_›
    | refine At.ofNext (by assumption) ?_ | refine At.ofFst (by assumption) ?_ | refine At.ofSnd (by assumption) ?_
    | refine At.ofOpt (by assumption) ?_ | refine At.ofOptSnd (by assumption) ?_ | refine At.ofOptFst (by assumption) ?_
    | refine At.ofOptSnd2 (by assumption) ?_ | apply At.mapAny | dsimp +zetaDelta only)

theorem State.stopParks_keeps {P : Part → Prop} {s₀ s : State} (tier_ : P .tier) (x : Session) (hs : At (Keeps P s₀) It s) : At (Keeps P
    s₀) It (State.stopParks s x) := by
  unfold State.stopParks
  with_reducible repeat' (first
    | assumption | (intro x; refine At.cut x ?_ ?_; rotate_left; intro _; clear_value x; rotate_left; unfold x) | intro _ | lift_lets
    | apply State.setEng_keeps | apply At.ite | apply At.next | apply At.some | exact At.none | dsimp -zeta only [At.mkFst, At.mkSnd]
    | apply At.foldl | apply At.getD | apply At.fst | apply At.snd
    | ((conv => enter [3, 20]) <;> apply At.upd <;> first | exact .inl ‹_› | exact .inr rfl | skip)
    | ((conv => enter [3, 20]) <;> apply At.updCore) | split | exact At.ofMkFst ‹_› | exact At.ofMkSnd ‹_›
    | refine At.ofNext (by assumption) ?_ | refine At.ofFst (by assumption) ?_ | refine At.ofSnd (by assumption) ?_
    | refine At.ofOpt (by assumption) ?_ | refine At.ofOptSnd (by assumption) ?_ | refine At.ofOptFst (by assumption) ?_
    | refine At.ofOptSnd2 (by assumption) ?_ | apply At.mapAny | dsimp +zetaDelta only)

theorem State.stopParking_keeps {P : Part → Prop} {s₀ s : State} (tier_ : P .tier) (i : Nat) (hs : At (Keeps P s₀) It s) : At (Keeps P s₀)
    It (State.stopParking s i) := by
  unfold State.stopParking
  with_reducible repeat' (first
    | assumption | (intro x; refine At.cut x ?_ ?_; rotate_left; intro _; clear_value x; rotate_left; unfold x) | intro _ | lift_lets
    | apply State.stopParks_keeps | apply At.ite | apply At.next | apply At.some | exact At.none | dsimp -zeta only [At.mkFst, At.mkSnd]
    | apply At.foldl | apply At.getD | apply At.fst | apply At.snd
    | ((conv => enter [3, 20]) <;> apply At.upd <;> first | exact .inl ‹_› | exact .inr rfl | skip)
    | ((conv => enter [3, 20]) <;> apply At.updCore) | split | exact At.ofMkFst ‹_› | exact At.ofMkSnd ‹_›
    | refine At.ofNext (by assumption) ?_ | refine At.ofFst (by assumption) ?_ | refine At.ofSnd (by assumption) ?_
    | refine At.ofOpt (by assumption) ?_ | refine At.ofOptSnd (by assumption) ?_ | refine At.ofOptFst (by assumption) ?_
    | refine At.ofOptSnd2 (by assumption) ?_ | apply At.mapAny | dsimp +zetaDelta only)

theorem State.toQueued_keeps {P : Part → Prop} {s₀ s : State} (ses_ : P .ses) (tier_ : P .tier) (i : Nat) (hs : At (Keeps P s₀) It s) : At
    (Keeps P s₀) It (State.toQueued s i) := by
  unfold State.toQueued
  with_reducible repeat' (first
    | assumption | (intro x; refine At.cut x ?_ ?_; rotate_left; intro _; clear_value x; rotate_left; unfold x) | intro _ | lift_lets
    | apply State.modSess_keeps | apply State.stopParking_keeps | apply At.ite | apply At.next | apply At.some | exact At.none
    | dsimp -zeta only [At.mkFst, At.mkSnd] | apply At.foldl | apply At.getD | apply At.fst | apply At.snd
    | ((conv => enter [3, 20]) <;> apply At.upd <;> first | exact .inl ‹_› | exact .inr rfl | skip)
    | ((conv => enter [3, 20]) <;> apply At.updCore) | split | exact At.ofMkFst ‹_› | exact At.ofMkSnd ‹_›
    | refine At.ofNext (by assumption) ?_ | refine At.ofFst (by assumption) ?_ | refine At.ofSnd (by assumption) ?_
    | refine At.ofOpt (by assumption) ?_ | refine At.ofOptSnd (by assumption) ?_ | refine At.ofOptFst (by assumption) ?_
    | refine At.ofOptSnd2 (by assumption) ?_ | apply At.mapAny | dsimp +zetaDelta only)

theorem State.allocKvT2_keeps {P : Part → Prop} {s₀ s : State} (dict_ : P .dict) (ses_ : P .ses) (tier_ : P .tier) (free_ : P .free) (x :
    Session) (key : Nat) (t : Tile) (hs : At (Keeps P s₀) It s) : At (Keeps P s₀) (Opt (Snd It)) (State.allocKvT2 s x key t) := by
  unfold State.allocKvT2
  with_reducible repeat' (first
    | assumption | (intro x; refine At.cut x ?_ ?_; rotate_left; intro _; clear_value x; rotate_left; unfold x) | intro _ | lift_lets
    | apply State.writeTile_keeps | apply State.freeRow_keeps | refine At.map (H := Snd It) ?_ ?_ | apply At.ite | apply At.next
    | apply At.some | exact At.none | dsimp -zeta only [At.mkFst, At.mkSnd] | apply At.foldl | apply At.getD | apply At.fst | apply At.snd
    | ((conv => enter [3, 20]) <;> apply At.upd <;> first | exact .inl ‹_› | exact .inr rfl | skip)
    | ((conv => enter [3, 20]) <;> apply At.updCore) | split | exact At.ofMkFst ‹_› | exact At.ofMkSnd ‹_›
    | refine At.ofNext (by assumption) ?_ | refine At.ofFst (by assumption) ?_ | refine At.ofSnd (by assumption) ?_
    | refine At.ofOpt (by assumption) ?_ | refine At.ofOptSnd (by assumption) ?_ | refine At.ofOptFst (by assumption) ?_
    | refine At.ofOptSnd2 (by assumption) ?_ | apply At.mapAny | dsimp +zetaDelta only)

theorem State.allocKv_keeps {P : Part → Prop} {s₀ s : State} (dict_ : P .dict) (ses_ : P .ses) (tier_ : P .tier) (free_ : P .free) (x :
    Session) (y2 : Nat) (key : Nat) (t : Tile) (hs : At (Keeps P s₀) It s) : At (Keeps P s₀) (Opt (Snd It)) (State.allocKv s x y2 key t) :=
    by
  unfold State.allocKv
  with_reducible repeat' (first
    | assumption | (intro x; refine At.cut x ?_ ?_; rotate_left; intro _; clear_value x; rotate_left; unfold x) | intro _ | lift_lets
    | apply State.allocT1_keeps | apply State.allocT3_keeps | apply State.allocT4_keeps | apply State.allocKvT2_keeps | apply At.ite
    | apply At.next | apply At.some | exact At.none | dsimp -zeta only [At.mkFst, At.mkSnd] | apply At.foldl | apply At.getD
    | apply At.fst | apply At.snd | ((conv => enter [3, 20]) <;> apply At.upd <;> first | exact .inl ‹_› | exact .inr rfl | skip)
    | ((conv => enter [3, 20]) <;> apply At.updCore) | split | exact At.ofMkFst ‹_› | exact At.ofMkSnd ‹_›
    | refine At.ofNext (by assumption) ?_ | refine At.ofFst (by assumption) ?_ | refine At.ofSnd (by assumption) ?_
    | refine At.ofOpt (by assumption) ?_ | refine At.ofOptSnd (by assumption) ?_ | refine At.ofOptFst (by assumption) ?_
    | refine At.ofOptSnd2 (by assumption) ?_ | apply At.mapAny | dsimp +zetaDelta only)

theorem State.allocBlock_keeps {P : Part → Prop} {s₀ s : State} (dict_ : P .dict) (ses_ : P .ses) (tier_ : P .tier) (free_ : P .free) (i :
    Nat) (y2 : Nat) (b : Nat) (hs : At (Keeps P s₀) It s) : At (Keeps P s₀) (Fst It) (State.allocBlock s i y2 b) := by
  unfold State.allocBlock
  with_reducible repeat' (first
    | assumption | (intro x; refine At.cut x ?_ ?_; rotate_left; intro _; clear_value x; rotate_left; unfold x) | intro _ | lift_lets
    | apply State.bump_keeps | apply State.setSess_keeps | apply State.allocKv_keeps | apply At.ite | apply At.next | apply At.some
    | exact At.none | dsimp -zeta only [At.mkFst, At.mkSnd] | apply At.foldl | apply At.getD | apply At.fst | apply At.snd
    | ((conv => enter [3, 20]) <;> apply At.upd <;> first | exact .inl ‹_› | exact .inr rfl | skip)
    | ((conv => enter [3, 20]) <;> apply At.updCore) | split | exact At.ofMkFst ‹_› | exact At.ofMkSnd ‹_›
    | refine At.ofNext (by assumption) ?_ | refine At.ofFst (by assumption) ?_ | refine At.ofSnd (by assumption) ?_
    | refine At.ofOpt (by assumption) ?_ | refine At.ofOptSnd (by assumption) ?_ | refine At.ofOptFst (by assumption) ?_
    | refine At.ofOptSnd2 (by assumption) ?_ | apply At.mapAny | dsimp +zetaDelta only)

theorem State.syncPt_keeps {P : Part → Prop} {s₀ s : State} (dict_ : P .dict) (ses_ : P .ses) (tier_ : P .tier) (i : Nat) (hs : At (Keeps P
    s₀) It s) : At (Keeps P s₀) It (State.syncPt s i) := by
  unfold State.syncPt
  with_reducible repeat' (first
    | assumption | (intro x; refine At.cut x ?_ ?_; rotate_left; intro _; clear_value x; rotate_left; unfold x) | intro _ | lift_lets
    | apply State.writeTile_keeps | apply At.ite | apply At.next | apply At.some | exact At.none | dsimp -zeta only [At.mkFst, At.mkSnd]
    | apply At.foldl | apply At.getD | apply At.fst | apply At.snd
    | ((conv => enter [3, 20]) <;> apply At.upd <;> first | exact .inl ‹_› | exact .inr rfl | skip)
    | ((conv => enter [3, 20]) <;> apply At.updCore) | split | exact At.ofMkFst ‹_› | exact At.ofMkSnd ‹_›
    | refine At.ofNext (by assumption) ?_ | refine At.ofFst (by assumption) ?_ | refine At.ofSnd (by assumption) ?_
    | refine At.ofOpt (by assumption) ?_ | refine At.ofOptSnd (by assumption) ?_ | refine At.ofOptFst (by assumption) ?_
    | refine At.ofOptSnd2 (by assumption) ?_ | apply At.mapAny | dsimp +zetaDelta only)

theorem State.growPt_keeps {P : Part → Prop} {s₀ s : State} (dict_ : P .dict) (ses_ : P .ses) (tier_ : P .tier) (free_ : P .free) (i : Nat)
    (hs : At (Keeps P s₀) It s) : At (Keeps P s₀) It (State.growPt s i) := by
  unfold State.growPt
  with_reducible repeat' (first
    | assumption | (intro x; refine At.cut x ?_ ?_; rotate_left; intro _; clear_value x; rotate_left; unfold x) | intro _ | lift_lets
    | apply State.bump_keeps | apply State.allocT2_keeps | apply State.setSess_keeps | apply State.syncPt_keeps | apply At.ite
    | apply At.next | apply At.some | exact At.none | dsimp -zeta only [At.mkFst, At.mkSnd] | apply At.foldl | apply At.getD
    | apply At.fst | apply At.snd | ((conv => enter [3, 20]) <;> apply At.upd <;> first | exact .inl ‹_› | exact .inr rfl | skip)
    | ((conv => enter [3, 20]) <;> apply At.updCore) | split | exact At.ofMkFst ‹_› | exact At.ofMkSnd ‹_›
    | refine At.ofNext (by assumption) ?_ | refine At.ofFst (by assumption) ?_ | refine At.ofSnd (by assumption) ?_
    | refine At.ofOpt (by assumption) ?_ | refine At.ofOptSnd (by assumption) ?_ | refine At.ofOptFst (by assumption) ?_
    | refine At.ofOptSnd2 (by assumption) ?_ | apply At.mapAny | dsimp +zetaDelta only)

theorem State.freeKv_keeps {P : Part → Prop} {s₀ s : State} (ses_ : P .ses) (tier_ : P .tier) (i : Nat) (key : Nat) (hs : At (Keeps P s₀)
    It s) : At (Keeps P s₀) It (State.freeKv s i key) := by
  unfold State.freeKv
  with_reducible repeat' (first
    | assumption | (intro x; refine At.cut x ?_ ?_; rotate_left; intro _; clear_value x; rotate_left; unfold x) | intro _ | lift_lets
    | apply State.freeTileAt_keeps | apply State.setSess_keeps | apply At.ite | apply At.next | apply At.some | exact At.none
    | dsimp -zeta only [At.mkFst, At.mkSnd] | apply At.foldl | apply At.getD | apply At.fst | apply At.snd
    | ((conv => enter [3, 20]) <;> apply At.upd <;> first | exact .inl ‹_› | exact .inr rfl | skip)
    | ((conv => enter [3, 20]) <;> apply At.updCore) | split | exact At.ofMkFst ‹_› | exact At.ofMkSnd ‹_›
    | refine At.ofNext (by assumption) ?_ | refine At.ofFst (by assumption) ?_ | refine At.ofSnd (by assumption) ?_
    | refine At.ofOpt (by assumption) ?_ | refine At.ofOptSnd (by assumption) ?_ | refine At.ofOptFst (by assumption) ?_
    | refine At.ofOptSnd2 (by assumption) ?_ | apply At.mapAny | dsimp +zetaDelta only)

theorem State.freePages_keeps {P : Part → Prop} {s₀ s : State} (dict_ : P .dict) (ses_ : P .ses) (tier_ : P .tier) (i : Nat) (hs : At
    (Keeps P s₀) It s) : At (Keeps P s₀) It (State.freePages s i) := by
  unfold State.freePages
  with_reducible repeat' (first
    | assumption | (intro x; refine At.cut x ?_ ?_; rotate_left; intro _; clear_value x; rotate_left; unfold x) | intro _ | lift_lets
    | apply State.modSess_keeps | apply State.syncPt_keeps | apply State.freeKv_keeps | apply At.ite | apply At.next | apply At.some
    | exact At.none | dsimp -zeta only [At.mkFst, At.mkSnd] | apply At.foldl | apply At.getD | apply At.fst | apply At.snd
    | ((conv => enter [3, 20]) <;> apply At.upd <;> first | exact .inl ‹_› | exact .inr rfl | skip)
    | ((conv => enter [3, 20]) <;> apply At.updCore) | split | exact At.ofMkFst ‹_› | exact At.ofMkSnd ‹_›
    | refine At.ofNext (by assumption) ?_ | refine At.ofFst (by assumption) ?_ | refine At.ofSnd (by assumption) ?_
    | refine At.ofOpt (by assumption) ?_ | refine At.ofOptSnd (by assumption) ?_ | refine At.ofOptFst (by assumption) ?_
    | refine At.ofOptSnd2 (by assumption) ?_ | apply At.mapAny | dsimp +zetaDelta only)

theorem State.freePt_keeps {P : Part → Prop} {s₀ s : State} (dict_ : P .dict) (ses_ : P .ses) (tier_ : P .tier) (i : Nat) (hs : At (Keeps P
    s₀) It s) : At (Keeps P s₀) It (State.freePt s i) := by
  unfold State.freePt
  with_reducible repeat' (first
    | assumption | (intro x; refine At.cut x ?_ ?_; rotate_left; intro _; clear_value x; rotate_left; unfold x) | intro _ | lift_lets
    | apply State.setObj_keeps | apply State.freeTileAt_keeps | apply State.modSess_keeps | apply At.ite | apply At.next | apply At.some
    | exact At.none | dsimp -zeta only [At.mkFst, At.mkSnd] | apply At.foldl | apply At.getD | apply At.fst | apply At.snd
    | ((conv => enter [3, 20]) <;> apply At.upd <;> first | exact .inl ‹_› | exact .inr rfl | skip)
    | ((conv => enter [3, 20]) <;> apply At.updCore) | split | exact At.ofMkFst ‹_› | exact At.ofMkSnd ‹_›
    | refine At.ofNext (by assumption) ?_ | refine At.ofFst (by assumption) ?_ | refine At.ofSnd (by assumption) ?_
    | refine At.ofOpt (by assumption) ?_ | refine At.ofOptSnd (by assumption) ?_ | refine At.ofOptFst (by assumption) ?_
    | refine At.ofOptSnd2 (by assumption) ?_ | apply At.mapAny | dsimp +zetaDelta only)

theorem State.syncQueue_keeps {P : Part → Prop} {s₀ s : State} (dict_ : P .dict) (ses_ : P .ses) (tier_ : P .tier) (free_ : P .free) (i :
    Nat) (hs : At (Keeps P s₀) It s) : At (Keeps P s₀) It (State.syncQueue s i) := by
  unfold State.syncQueue
  with_reducible repeat' (first
    | assumption | (intro x; refine At.cut x ?_ ?_; rotate_left; intro _; clear_value x; rotate_left; unfold x) | intro _ | lift_lets
    | apply State.writeTile_keeps | apply State.freeTileAt_keeps | apply State.keepSys_keeps | apply State.modSess_keeps | apply At.ite
    | apply At.next | apply At.some | exact At.none | dsimp -zeta only [At.mkFst, At.mkSnd] | apply At.foldl | apply At.getD
    | apply At.fst | apply At.snd | ((conv => enter [3, 20]) <;> apply At.upd <;> first | exact .inl ‹_› | exact .inr rfl | skip)
    | ((conv => enter [3, 20]) <;> apply At.updCore) | split | exact At.ofMkFst ‹_› | exact At.ofMkSnd ‹_›
    | refine At.ofNext (by assumption) ?_ | refine At.ofFst (by assumption) ?_ | refine At.ofSnd (by assumption) ?_
    | refine At.ofOpt (by assumption) ?_ | refine At.ofOptSnd (by assumption) ?_ | refine At.ofOptFst (by assumption) ?_
    | refine At.ofOptSnd2 (by assumption) ?_ | apply At.mapAny | dsimp +zetaDelta only)

theorem State.freeQueue_keeps {P : Part → Prop} {s₀ s : State} (ses_ : P .ses) (tier_ : P .tier) (i : Nat) (hs : At (Keeps P s₀) It s) : At
    (Keeps P s₀) It (State.freeQueue s i) := by
  unfold State.freeQueue
  with_reducible repeat' (first
    | assumption | (intro x; refine At.cut x ?_ ?_; rotate_left; intro _; clear_value x; rotate_left; unfold x) | intro _ | lift_lets
    | apply State.freeTileAt_keeps | apply State.modSess_keeps | apply At.ite | apply At.next | apply At.some | exact At.none
    | dsimp -zeta only [At.mkFst, At.mkSnd] | apply At.foldl | apply At.getD | apply At.fst | apply At.snd
    | ((conv => enter [3, 20]) <;> apply At.upd <;> first | exact .inl ‹_› | exact .inr rfl | skip)
    | ((conv => enter [3, 20]) <;> apply At.updCore) | split | exact At.ofMkFst ‹_› | exact At.ofMkSnd ‹_›
    | refine At.ofNext (by assumption) ?_ | refine At.ofFst (by assumption) ?_ | refine At.ofSnd (by assumption) ?_
    | refine At.ofOpt (by assumption) ?_ | refine At.ofOptSnd (by assumption) ?_ | refine At.ofOptFst (by assumption) ?_
    | refine At.ofOptSnd2 (by assumption) ?_ | apply At.mapAny | dsimp +zetaDelta only)

theorem State.spillStack_keeps {P : Part → Prop} {s₀ s : State} (dict_ : P .dict) (ses_ : P .ses) (tier_ : P .tier) (free_ : P .free) (i :
    Nat) (hs : At (Keeps P s₀) It s) : At (Keeps P s₀) It (State.spillStack s i) := by
  unfold State.spillStack
  with_reducible repeat' (first
    | assumption | (intro x; refine At.cut x ?_ ?_; rotate_left; intro _; clear_value x; rotate_left; unfold x) | intro _ | lift_lets
    | apply State.writeTile_keeps | apply State.freeTileAt_keeps | apply State.allocSys_keeps | apply State.modSess_keeps | apply At.ite
    | apply At.next | apply At.some | exact At.none | dsimp -zeta only [At.mkFst, At.mkSnd] | apply At.foldl | apply At.getD
    | apply At.fst | apply At.snd | ((conv => enter [3, 20]) <;> apply At.upd <;> first | exact .inl ‹_› | exact .inr rfl | skip)
    | ((conv => enter [3, 20]) <;> apply At.updCore) | split | exact At.ofMkFst ‹_› | exact At.ofMkSnd ‹_›
    | refine At.ofNext (by assumption) ?_ | refine At.ofFst (by assumption) ?_ | refine At.ofSnd (by assumption) ?_
    | refine At.ofOpt (by assumption) ?_ | refine At.ofOptSnd (by assumption) ?_ | refine At.ofOptFst (by assumption) ?_
    | refine At.ofOptSnd2 (by assumption) ?_ | apply At.mapAny | dsimp +zetaDelta only)

theorem State.residency_keeps {P : Part → Prop} {s₀ s : State} (dict_ : P .dict) (fb_ : P .fb) (ses_ : P .ses) (srch_ : P .srch) (i : Nat)
    (y2 : Nat) (first : Nat) (last : Nat) (moved : Nat) (hs : At (Keeps P s₀) It s) : At (Keeps P s₀) It (State.residency s i y2 first last
    moved) := by
  unfold State.residency
  with_reducible repeat' (first
    | assumption | (intro x; refine At.cut x ?_ ?_; rotate_left; intro _; clear_value x; rotate_left; unfold x) | intro _ | lift_lets
    | apply State.camDropHandle_keeps | apply State.modSess_keeps | apply State.srec'_keeps | apply At.ite | apply At.next | apply At.some
    | exact At.none | dsimp -zeta only [At.mkFst, At.mkSnd] | apply At.foldl | apply At.getD | apply At.fst | apply At.snd
    | ((conv => enter [3, 20]) <;> apply At.upd <;> first | exact .inl ‹_› | exact .inr rfl | skip)
    | ((conv => enter [3, 20]) <;> apply At.updCore) | split | exact At.ofMkFst ‹_› | exact At.ofMkSnd ‹_›
    | refine At.ofNext (by assumption) ?_ | refine At.ofFst (by assumption) ?_ | refine At.ofSnd (by assumption) ?_
    | refine At.ofOpt (by assumption) ?_ | refine At.ofOptSnd (by assumption) ?_ | refine At.ofOptFst (by assumption) ?_
    | refine At.ofOptSnd2 (by assumption) ?_ | apply At.mapAny | dsimp +zetaDelta only)

theorem State.maskRows_keeps {P : Part → Prop} {s₀ s : State} (trv_ : P .trv) (sid : Nat) (hs : At (Keeps P s₀) It s) : At (Keeps P s₀) It
    (State.maskRows s sid) := by
  unfold State.maskRows
  with_reducible repeat' (first
    | assumption | (intro x; refine At.cut x ?_ ?_; rotate_left; intro _; clear_value x; rotate_left; unfold x) | intro _ | lift_lets
    | apply At.ite | apply At.next | apply At.some | exact At.none | dsimp -zeta only [At.mkFst, At.mkSnd] | apply At.foldl
    | apply At.getD | apply At.fst | apply At.snd
    | ((conv => enter [3, 20]) <;> apply At.upd <;> first | exact .inl ‹_› | exact .inr rfl | skip)
    | ((conv => enter [3, 20]) <;> apply At.updCore) | split | exact At.ofMkFst ‹_› | exact At.ofMkSnd ‹_›
    | refine At.ofNext (by assumption) ?_ | refine At.ofFst (by assumption) ?_ | refine At.ofSnd (by assumption) ?_
    | refine At.ofOpt (by assumption) ?_ | refine At.ofOptSnd (by assumption) ?_ | refine At.ofOptFst (by assumption) ?_
    | refine At.ofOptSnd2 (by assumption) ?_ | apply At.mapAny | dsimp +zetaDelta only)

theorem State.freePrefixIfDone_keeps {P : Part → Prop} {s₀ s : State} (dict_ : P .dict) (ses_ : P .ses) (tier_ : P .tier) (i : Nat) (hs :
    At (Keeps P s₀) It s) : At (Keeps P s₀) It (State.freePrefixIfDone s i) := by
  unfold State.freePrefixIfDone
  with_reducible repeat' (first
    | assumption | (intro x; refine At.cut x ?_ ?_; rotate_left; intro _; clear_value x; rotate_left; unfold x) | intro _ | lift_lets
    | apply State.modSess_keeps | apply State.freePages_keeps | apply State.freeQueue_keeps | apply At.ite | apply At.next | apply At.some
    | exact At.none | dsimp -zeta only [At.mkFst, At.mkSnd] | apply At.foldl | apply At.getD | apply At.fst | apply At.snd
    | ((conv => enter [3, 20]) <;> apply At.upd <;> first | exact .inl ‹_› | exact .inr rfl | skip)
    | ((conv => enter [3, 20]) <;> apply At.updCore) | split | exact At.ofMkFst ‹_› | exact At.ofMkSnd ‹_›
    | refine At.ofNext (by assumption) ?_ | refine At.ofFst (by assumption) ?_ | refine At.ofSnd (by assumption) ?_
    | refine At.ofOpt (by assumption) ?_ | refine At.ofOptSnd (by assumption) ?_ | refine At.ofOptFst (by assumption) ?_
    | refine At.ofOptSnd2 (by assumption) ?_ | apply At.mapAny | dsimp +zetaDelta only)

theorem State.dropRef_keeps {P : Part → Prop} {s₀ s : State} (dict_ : P .dict) (ses_ : P .ses) (tier_ : P .tier) (x : Session) (hs : At
    (Keeps P s₀) It s) : At (Keeps P s₀) It (State.dropRef s x) := by
  unfold State.dropRef
  with_reducible repeat' (first
    | assumption | (intro x; refine At.cut x ?_ ?_; rotate_left; intro _; clear_value x; rotate_left; unfold x) | intro _ | lift_lets
    | apply State.setSess_keeps | apply State.modSess_keeps | apply State.freePrefixIfDone_keeps | apply At.ite | apply At.next
    | apply At.some | exact At.none | dsimp -zeta only [At.mkFst, At.mkSnd] | apply At.foldl | apply At.getD | apply At.fst | apply At.snd
    | ((conv => enter [3, 20]) <;> apply At.upd <;> first | exact .inl ‹_› | exact .inr rfl | skip)
    | ((conv => enter [3, 20]) <;> apply At.updCore) | split | exact At.ofMkFst ‹_› | exact At.ofMkSnd ‹_›
    | refine At.ofNext (by assumption) ?_ | refine At.ofFst (by assumption) ?_ | refine At.ofSnd (by assumption) ?_
    | refine At.ofOpt (by assumption) ?_ | refine At.ofOptSnd (by assumption) ?_ | refine At.ofOptFst (by assumption) ?_
    | refine At.ofOptSnd2 (by assumption) ?_ | apply At.mapAny | dsimp +zetaDelta only)

theorem State.enterClosed_keeps {P : Part → Prop} {s₀ s : State} (dict_ : P .dict) (fb_ : P .fb) (stn_ : P .stn) (ses_ : P .ses) (tier_ : P
    .tier) (trv_ : P .trv) (srch_ : P .srch) (i : Nat) (reason : Nat) (hs : At (Keeps P s₀) It s) : At (Keeps P s₀) It (State.enterClosed s
    i reason) := by
  unfold State.enterClosed
  with_reducible repeat' (first
    | assumption | (intro x; refine At.cut x ?_ ?_; rotate_left; intro _; clear_value x; rotate_left; unfold x) | intro _ | lift_lets
    | apply State.modSess_keeps | apply State.dropHandle_keeps | apply State.srec'_keeps | apply State.sevent_keeps
    | apply State.freePages_keeps | apply State.freeQueue_keeps | apply State.maskRows_keeps | apply State.dropRef_keeps | apply At.ite
    | apply At.next | apply At.some | exact At.none | dsimp -zeta only [At.mkFst, At.mkSnd] | apply At.foldl | apply At.getD
    | apply At.fst | apply At.snd | ((conv => enter [3, 20]) <;> apply At.upd <;> first | exact .inl ‹_› | exact .inr rfl | skip)
    | ((conv => enter [3, 20]) <;> apply At.updCore) | split | exact At.ofMkFst ‹_› | exact At.ofMkSnd ‹_›
    | refine At.ofNext (by assumption) ?_ | refine At.ofFst (by assumption) ?_ | refine At.ofSnd (by assumption) ?_
    | refine At.ofOpt (by assumption) ?_ | refine At.ofOptSnd (by assumption) ?_ | refine At.ofOptFst (by assumption) ?_
    | refine At.ofOptSnd2 (by assumption) ?_ | apply At.mapAny | dsimp +zetaDelta only)

theorem State.failOne_keeps {P : Part → Prop} {s₀ s : State} (dict_ : P .dict) (fb_ : P .fb) (stn_ : P .stn) (ses_ : P .ses) (tier_ : P
    .tier) (srch_ : P .srch) (i : Nat) (cause : Nat) (hs : At (Keeps P s₀) It s) : At (Keeps P s₀) It (State.failOne s i cause) := by
  unfold State.failOne
  with_reducible repeat' (first
    | assumption | (intro x; refine At.cut x ?_ ?_; rotate_left; intro _; clear_value x; rotate_left; unfold x) | intro _ | lift_lets
    | apply State.camDropHandle_keeps | apply State.modSess_keeps | apply State.srec'_keeps | apply State.sevent_keeps
    | apply State.freePages_keeps | apply State.freeQueue_keeps | apply State.dropRef_keeps | apply At.ite | apply At.next | apply At.some
    | exact At.none | dsimp -zeta only [At.mkFst, At.mkSnd] | apply At.foldl | apply At.getD | apply At.fst | apply At.snd
    | ((conv => enter [3, 20]) <;> apply At.upd <;> first | exact .inl ‹_› | exact .inr rfl | skip)
    | ((conv => enter [3, 20]) <;> apply At.updCore) | split | exact At.ofMkFst ‹_› | exact At.ofMkSnd ‹_›
    | refine At.ofNext (by assumption) ?_ | refine At.ofFst (by assumption) ?_ | refine At.ofSnd (by assumption) ?_
    | refine At.ofOpt (by assumption) ?_ | refine At.ofOptSnd (by assumption) ?_ | refine At.ofOptFst (by assumption) ?_
    | refine At.ofOptSnd2 (by assumption) ?_ | apply At.mapAny | dsimp +zetaDelta only)

theorem State.enterFailed_keeps {P : Part → Prop} {s₀ s : State} (dict_ : P .dict) (fb_ : P .fb) (stn_ : P .stn) (ses_ : P .ses) (tier_ : P
    .tier) (srch_ : P .srch) (i : Nat) (cause : Nat) (hs : At (Keeps P s₀) It s) : At (Keeps P s₀) It (State.enterFailed s i cause) := by
  unfold State.enterFailed
  with_reducible repeat' (first
    | assumption | (intro x; refine At.cut x ?_ ?_; rotate_left; intro _; clear_value x; rotate_left; unfold x) | intro _ | lift_lets
    | apply State.failOne_keeps | apply At.ite | apply At.next | apply At.some | exact At.none | dsimp -zeta only [At.mkFst, At.mkSnd]
    | apply At.foldl | apply At.getD | apply At.fst | apply At.snd
    | ((conv => enter [3, 20]) <;> apply At.upd <;> first | exact .inl ‹_› | exact .inr rfl | skip)
    | ((conv => enter [3, 20]) <;> apply At.updCore) | split | exact At.ofMkFst ‹_› | exact At.ofMkSnd ‹_›
    | refine At.ofNext (by assumption) ?_ | refine At.ofFst (by assumption) ?_ | refine At.ofSnd (by assumption) ?_
    | refine At.ofOpt (by assumption) ?_ | refine At.ofOptSnd (by assumption) ?_ | refine At.ofOptFst (by assumption) ?_
    | refine At.ofOptSnd2 (by assumption) ?_ | apply At.mapAny | dsimp +zetaDelta only)

theorem State.rewind_keeps {P : Part → Prop} {s₀ s : State} (dict_ : P .dict) (ses_ : P .ses) (tier_ : P .tier) (free_ : P .free) (i : Nat)
    (hs : At (Keeps P s₀) It s) : At (Keeps P s₀) It (State.rewind s i) := by
  unfold State.rewind
  with_reducible repeat' (first
    | assumption | (intro x; refine At.cut x ?_ ?_; rotate_left; intro _; clear_value x; rotate_left; unfold x) | intro _ | lift_lets
    | apply State.modSess_keeps | apply State.freeKv_keeps | apply State.spillStack_keeps | apply At.ite | apply At.next | apply At.some
    | exact At.none | dsimp -zeta only [At.mkFst, At.mkSnd] | apply At.foldl | apply At.getD | apply At.fst | apply At.snd
    | ((conv => enter [3, 20]) <;> apply At.upd <;> first | exact .inl ‹_› | exact .inr rfl | skip)
    | ((conv => enter [3, 20]) <;> apply At.updCore) | split | exact At.ofMkFst ‹_› | exact At.ofMkSnd ‹_›
    | refine At.ofNext (by assumption) ?_ | refine At.ofFst (by assumption) ?_ | refine At.ofSnd (by assumption) ?_
    | refine At.ofOpt (by assumption) ?_ | refine At.ofOptSnd (by assumption) ?_ | refine At.ofOptFst (by assumption) ?_
    | refine At.ofOptSnd2 (by assumption) ?_ | apply At.mapAny | dsimp +zetaDelta only)

theorem State.toRebuild_keeps {P : Part → Prop} {s₀ s : State} (dict_ : P .dict) (ses_ : P .ses) (tier_ : P .tier) (free_ : P .free) (i :
    Nat) (first : Nat) (last : Nat) (method : Nat) (hs : At (Keeps P s₀) It s) : At (Keeps P s₀) It (State.toRebuild s i first last method)
    := by
  unfold State.toRebuild
  with_reducible repeat' (first
    | assumption | (intro x; refine At.cut x ?_ ?_; rotate_left; intro _; clear_value x; rotate_left; unfold x) | intro _ | lift_lets
    | apply State.setSess_keeps | apply State.rewind_keeps | apply At.ite | apply At.next | apply At.some | exact At.none
    | dsimp -zeta only [At.mkFst, At.mkSnd] | apply At.foldl | apply At.getD | apply At.fst | apply At.snd
    | ((conv => enter [3, 20]) <;> apply At.upd <;> first | exact .inl ‹_› | exact .inr rfl | skip)
    | ((conv => enter [3, 20]) <;> apply At.updCore) | split | exact At.ofMkFst ‹_› | exact At.ofMkSnd ‹_›
    | refine At.ofNext (by assumption) ?_ | refine At.ofFst (by assumption) ?_ | refine At.ofSnd (by assumption) ?_
    | refine At.ofOpt (by assumption) ?_ | refine At.ofOptSnd (by assumption) ?_ | refine At.ofOptFst (by assumption) ?_
    | refine At.ofOptSnd2 (by assumption) ?_ | apply At.mapAny | dsimp +zetaDelta only)

theorem State.lostBlocks_keeps {P : Part → Prop} {s₀ s : State} (dict_ : P .dict) (fb_ : P .fb) (stn_ : P .stn) (ses_ : P .ses) (tier_ : P
    .tier) (srch_ : P .srch) (free_ : P .free) (i : Nat) (first : Nat) (last : Nat) (cause : Nat) (hs : At (Keeps P s₀) It s) : At (Keeps P
    s₀) It (State.lostBlocks s i first last cause) := by
  unfold State.lostBlocks
  with_reducible repeat' (first
    | assumption | (intro x; refine At.cut x ?_ ?_; rotate_left; intro _; clear_value x; rotate_left; unfold x) | intro _ | lift_lets
    | apply State.camDropHandle_keeps | apply State.modSess_keeps | apply State.stopParking_keeps | apply State.enterFailed_keeps
    | apply State.toRebuild_keeps | apply At.ite | apply At.next | apply At.some | exact At.none | dsimp -zeta only [At.mkFst, At.mkSnd]
    | apply At.foldl | apply At.getD | apply At.fst | apply At.snd
    | ((conv => enter [3, 20]) <;> apply At.upd <;> first | exact .inl ‹_› | exact .inr rfl | skip)
    | ((conv => enter [3, 20]) <;> apply At.updCore) | split | exact At.ofMkFst ‹_› | exact At.ofMkSnd ‹_›
    | refine At.ofNext (by assumption) ?_ | refine At.ofFst (by assumption) ?_ | refine At.ofSnd (by assumption) ?_
    | refine At.ofOpt (by assumption) ?_ | refine At.ofOptSnd (by assumption) ?_ | refine At.ofOptFst (by assumption) ?_
    | refine At.ofOptSnd2 (by assumption) ?_ | apply At.mapAny | dsimp +zetaDelta only)

theorem State.loseKv_keeps {P : Part → Prop} {s₀ s : State} (dict_ : P .dict) (fb_ : P .fb) (stn_ : P .stn) (ses_ : P .ses) (tier_ : P
    .tier) (srch_ : P .srch) (free_ : P .free) (i : Nat) (key : Nat) (cause : Nat) (hs : At (Keeps P s₀) It s) : At (Keeps P s₀) It
    (State.loseKv s i key cause) := by
  unfold State.loseKv
  with_reducible repeat' (first
    | assumption | (intro x; refine At.cut x ?_ ?_; rotate_left; intro _; clear_value x; rotate_left; unfold x) | intro _ | lift_lets
    | apply State.bump_keeps | apply State.freeTileAt_keeps | apply State.setSess_keeps | apply State.syncPt_keeps
    | apply State.lostBlocks_keeps | apply At.ite | apply At.next | apply At.some | exact At.none | dsimp -zeta only [At.mkFst, At.mkSnd]
    | apply At.foldl | apply At.getD | apply At.fst | apply At.snd
    | ((conv => enter [3, 20]) <;> apply At.upd <;> first | exact .inl ‹_› | exact .inr rfl | skip)
    | ((conv => enter [3, 20]) <;> apply At.updCore) | split | exact At.ofMkFst ‹_› | exact At.ofMkSnd ‹_›
    | refine At.ofNext (by assumption) ?_ | refine At.ofFst (by assumption) ?_ | refine At.ofSnd (by assumption) ?_
    | refine At.ofOpt (by assumption) ?_ | refine At.ofOptSnd (by assumption) ?_ | refine At.ofOptFst (by assumption) ?_
    | refine At.ofOptSnd2 (by assumption) ?_ | apply At.mapAny | dsimp +zetaDelta only)

theorem State.reviveReady_keeps {P : Part → Prop} {s₀ s : State} (dict_ : P .dict) (fb_ : P .fb) (stn_ : P .stn) (ses_ : P .ses) (tier_ : P
    .tier) (i : Nat) (hs : At (Keeps P s₀) It s) : At (Keeps P s₀) It (State.reviveReady s i) := by
  unfold State.reviveReady
  with_reducible repeat' (first
    | assumption | (intro x; refine At.cut x ?_ ?_; rotate_left; intro _; clear_value x; rotate_left; unfold x) | intro _ | lift_lets
    | apply State.bump_keeps | apply State.modSess_keeps | apply State.srec'_keeps | apply State.sevent_keeps | apply State.toQueued_keeps
    | apply At.ite | apply At.next | apply At.some | exact At.none | dsimp -zeta only [At.mkFst, At.mkSnd] | apply At.foldl
    | apply At.getD | apply At.fst | apply At.snd
    | ((conv => enter [3, 20]) <;> apply At.upd <;> first | exact .inl ‹_› | exact .inr rfl | skip)
    | ((conv => enter [3, 20]) <;> apply At.updCore) | split | exact At.ofMkFst ‹_› | exact At.ofMkSnd ‹_›
    | refine At.ofNext (by assumption) ?_ | refine At.ofFst (by assumption) ?_ | refine At.ofSnd (by assumption) ?_
    | refine At.ofOpt (by assumption) ?_ | refine At.ofOptSnd (by assumption) ?_ | refine At.ofOptFst (by assumption) ?_
    | refine At.ofOptSnd2 (by assumption) ?_ | apply At.mapAny | dsimp +zetaDelta only)

/-! ### Machine/ShapeOps.lean -/

theorem State.setLevel_keeps {P : Part → Prop} {s₀ s : State} (shape_ : P .shape) (key : Nat) (v : Int) (hs : At (Keeps P s₀) It s) : At
    (Keeps P s₀) It (State.setLevel s key v) := by
  unfold State.setLevel
  with_reducible repeat' (first
    | assumption | (intro x; refine At.cut x ?_ ?_; rotate_left; intro _; clear_value x; rotate_left; unfold x) | intro _ | lift_lets
    | apply At.ite | apply At.next | apply At.some | exact At.none | dsimp -zeta only [At.mkFst, At.mkSnd] | apply At.foldl
    | apply At.getD | apply At.fst | apply At.snd
    | ((conv => enter [3, 20]) <;> apply At.upd <;> first | exact .inl ‹_› | exact .inr rfl | skip)
    | ((conv => enter [3, 20]) <;> apply At.updCore) | split | exact At.ofMkFst ‹_› | exact At.ofMkSnd ‹_›
    | refine At.ofNext (by assumption) ?_ | refine At.ofFst (by assumption) ?_ | refine At.ofSnd (by assumption) ?_
    | refine At.ofOpt (by assumption) ?_ | refine At.ofOptSnd (by assumption) ?_ | refine At.ofOptFst (by assumption) ?_
    | refine At.ofOptSnd2 (by assumption) ?_ | apply At.mapAny | dsimp +zetaDelta only)

theorem State.debitNow_keeps {P : Part → Prop} {s₀ s : State} (shape_ : P .shape) (tenant : Bool) (n : Nat) (res : Nat) (units : Nat) (hs :
    At (Keeps P s₀) It s) : At (Keeps P s₀) It (State.debitNow s tenant n res units) := by
  unfold State.debitNow
  with_reducible repeat' (first
    | assumption | (intro x; refine At.cut x ?_ ?_; rotate_left; intro _; clear_value x; rotate_left; unfold x) | intro _ | lift_lets
    | apply State.setLevel_keeps | apply At.ite | apply At.next | apply At.some | exact At.none | dsimp -zeta only [At.mkFst, At.mkSnd]
    | apply At.foldl | apply At.getD | apply At.fst | apply At.snd
    | ((conv => enter [3, 20]) <;> apply At.upd <;> first | exact .inl ‹_› | exact .inr rfl | skip)
    | ((conv => enter [3, 20]) <;> apply At.updCore) | split | exact At.ofMkFst ‹_› | exact At.ofMkSnd ‹_›
    | refine At.ofNext (by assumption) ?_ | refine At.ofFst (by assumption) ?_ | refine At.ofSnd (by assumption) ?_
    | refine At.ofOpt (by assumption) ?_ | refine At.ofOptSnd (by assumption) ?_ | refine At.ofOptFst (by assumption) ?_
    | refine At.ofOptSnd2 (by assumption) ?_ | apply At.mapAny | dsimp +zetaDelta only)

theorem State.debitLater_keeps {P : Part → Prop} {s₀ s : State} (shape_ : P .shape) (tenant : Bool) (n : Nat) (res : Nat) (units : Nat) (hs
    : At (Keeps P s₀) It s) : At (Keeps P s₀) It (State.debitLater s tenant n res units) := by
  unfold State.debitLater
  with_reducible repeat' (first
    | assumption | (intro x; refine At.cut x ?_ ?_; rotate_left; intro _; clear_value x; rotate_left; unfold x) | intro _ | lift_lets
    | apply At.ite | apply At.next | apply At.some | exact At.none | dsimp -zeta only [At.mkFst, At.mkSnd] | apply At.foldl
    | apply At.getD | apply At.fst | apply At.snd
    | ((conv => enter [3, 20]) <;> apply At.upd <;> first | exact .inl ‹_› | exact .inr rfl | skip)
    | ((conv => enter [3, 20]) <;> apply At.updCore) | split | exact At.ofMkFst ‹_› | exact At.ofMkSnd ‹_›
    | refine At.ofNext (by assumption) ?_ | refine At.ofFst (by assumption) ?_ | refine At.ofSnd (by assumption) ?_
    | refine At.ofOpt (by assumption) ?_ | refine At.ofOptSnd (by assumption) ?_ | refine At.ofOptFst (by assumption) ?_
    | refine At.ofOptSnd2 (by assumption) ?_ | apply At.mapAny | dsimp +zetaDelta only)

theorem State.bucketStep_keeps {P : Part → Prop} {s₀ s : State} (shape_ : P .shape) (k : Nat) (hs : At (Keeps P s₀) It s) : At (Keeps P s₀)
    It (State.bucketStep s k) := by
  unfold State.bucketStep
  with_reducible repeat' (first
    | assumption | (intro x; refine At.cut x ?_ ?_; rotate_left; intro _; clear_value x; rotate_left; unfold x) | intro _ | lift_lets
    | apply State.setLevel_keeps | apply At.ite | apply At.next | apply At.some | exact At.none | dsimp -zeta only [At.mkFst, At.mkSnd]
    | apply At.foldl | apply At.getD | apply At.fst | apply At.snd
    | ((conv => enter [3, 20]) <;> apply At.upd <;> first | exact .inl ‹_› | exact .inr rfl | skip)
    | ((conv => enter [3, 20]) <;> apply At.updCore) | split | exact At.ofMkFst ‹_› | exact At.ofMkSnd ‹_›
    | refine At.ofNext (by assumption) ?_ | refine At.ofFst (by assumption) ?_ | refine At.ofSnd (by assumption) ?_
    | refine At.ofOpt (by assumption) ?_ | refine At.ofOptSnd (by assumption) ?_ | refine At.ofOptFst (by assumption) ?_
    | refine At.ofOptSnd2 (by assumption) ?_ | apply At.mapAny | dsimp +zetaDelta only)

theorem State.bucketTick_keeps {P : Part → Prop} {s₀ s : State} (shape_ : P .shape) (hs : At (Keeps P s₀) It s) : At (Keeps P s₀) It
    (State.bucketTick s) := by
  unfold State.bucketTick
  with_reducible repeat' (first
    | assumption | (intro x; refine At.cut x ?_ ?_; rotate_left; intro _; clear_value x; rotate_left; unfold x) | intro _ | lift_lets
    | apply State.setLevel_keeps | apply State.bucketStep_keeps | apply At.ite | apply At.next | apply At.some | exact At.none
    | dsimp -zeta only [At.mkFst, At.mkSnd] | apply At.foldl | apply At.getD | apply At.fst | apply At.snd
    | ((conv => enter [3, 20]) <;> apply At.upd <;> first | exact .inl ‹_› | exact .inr rfl | skip)
    | ((conv => enter [3, 20]) <;> apply At.updCore) | split | exact At.ofMkFst ‹_› | exact At.ofMkSnd ‹_›
    | refine At.ofNext (by assumption) ?_ | refine At.ofFst (by assumption) ?_ | refine At.ofSnd (by assumption) ?_
    | refine At.ofOpt (by assumption) ?_ | refine At.ofOptSnd (by assumption) ?_ | refine At.ofOptFst (by assumption) ?_
    | refine At.ofOptSnd2 (by assumption) ?_ | apply At.mapAny | dsimp +zetaDelta only)

theorem State.rateWritten_keeps {P : Part → Prop} {s₀ s : State} (shape_ : P .shape) (tenant : Bool) (n : Nat) (res : Nat) (old : Nat) (hs
    : At (Keeps P s₀) It s) : At (Keeps P s₀) It (State.rateWritten s tenant n res old) := by
  unfold State.rateWritten
  with_reducible repeat' (first
    | assumption | (intro x; refine At.cut x ?_ ?_; rotate_left; intro _; clear_value x; rotate_left; unfold x) | intro _ | lift_lets
    | apply At.ite | apply At.next | apply At.some | exact At.none | dsimp -zeta only [At.mkFst, At.mkSnd] | apply At.foldl
    | apply At.getD | apply At.fst | apply At.snd
    | ((conv => enter [3, 20]) <;> apply At.upd <;> first | exact .inl ‹_› | exact .inr rfl | skip)
    | ((conv => enter [3, 20]) <;> apply At.updCore) | split | exact At.ofMkFst ‹_› | exact At.ofMkSnd ‹_›
    | refine At.ofNext (by assumption) ?_ | refine At.ofFst (by assumption) ?_ | refine At.ofSnd (by assumption) ?_
    | refine At.ofOpt (by assumption) ?_ | refine At.ofOptSnd (by assumption) ?_ | refine At.ofOptFst (by assumption) ?_
    | refine At.ofOptSnd2 (by assumption) ?_ | apply At.mapAny | dsimp +zetaDelta only)

theorem State.keepLevel_keeps {P : Part → Prop} {s₀ s : State} (shape_ : P .shape) (tenant : Bool) (n : Nat) (res : Nat) (hs : At (Keeps P
    s₀) It s) : At (Keeps P s₀) It (State.keepLevel s tenant n res) := by
  unfold State.keepLevel
  with_reducible repeat' (first
    | assumption | (intro x; refine At.cut x ?_ ?_; rotate_left; intro _; clear_value x; rotate_left; unfold x) | intro _ | lift_lets
    | apply State.setLevel_keeps | apply At.ite | apply At.next | apply At.some | exact At.none | dsimp -zeta only [At.mkFst, At.mkSnd]
    | apply At.foldl | apply At.getD | apply At.fst | apply At.snd
    | ((conv => enter [3, 20]) <;> apply At.upd <;> first | exact .inl ‹_› | exact .inr rfl | skip)
    | ((conv => enter [3, 20]) <;> apply At.updCore) | split | exact At.ofMkFst ‹_› | exact At.ofMkSnd ‹_›
    | refine At.ofNext (by assumption) ?_ | refine At.ofFst (by assumption) ?_ | refine At.ofSnd (by assumption) ?_
    | refine At.ofOpt (by assumption) ?_ | refine At.ofOptSnd (by assumption) ?_ | refine At.ofOptFst (by assumption) ?_
    | refine At.ofOptSnd2 (by assumption) ?_ | apply At.mapAny | dsimp +zetaDelta only)

theorem State.ruleInsert_keeps {P : Part → Prop} {s₀ s : State} (dict_ : P .dict) (srch_ : P .srch) (v : Octets) (hs : At (Keeps P s₀) It
    s) : At (Keeps P s₀) (Fst It) (State.ruleInsert s v) := by
  unfold State.ruleInsert
  with_reducible repeat' (first
    | assumption | (intro x; refine At.cut x ?_ ?_; rotate_left; intro _; clear_value x; rotate_left; unfold x) | intro _ | lift_lets
    | apply State.camRuleInsert_keeps | apply At.ite | apply At.next | apply At.some | exact At.none
    | dsimp -zeta only [At.mkFst, At.mkSnd] | apply At.foldl | apply At.getD | apply At.fst | apply At.snd
    | ((conv => enter [3, 20]) <;> apply At.upd <;> first | exact .inl ‹_› | exact .inr rfl | skip)
    | ((conv => enter [3, 20]) <;> apply At.updCore) | split | exact At.ofMkFst ‹_› | exact At.ofMkSnd ‹_›
    | refine At.ofNext (by assumption) ?_ | refine At.ofFst (by assumption) ?_ | refine At.ofSnd (by assumption) ?_
    | refine At.ofOpt (by assumption) ?_ | refine At.ofOptSnd (by assumption) ?_ | refine At.ofOptFst (by assumption) ?_
    | refine At.ofOptSnd2 (by assumption) ?_ | apply At.mapAny | dsimp +zetaDelta only)

theorem State.ruleRemove_keeps {P : Part → Prop} {s₀ s : State} (srch_ : P .srch) (id : Nat) (hs : At (Keeps P s₀) It s) : At (Keeps P s₀)
    (Fst It) (State.ruleRemove s id) := by
  unfold State.ruleRemove
  with_reducible repeat' (first
    | assumption | (intro x; refine At.cut x ?_ ?_; rotate_left; intro _; clear_value x; rotate_left; unfold x) | intro _ | lift_lets
    | apply State.setCam_keeps | apply At.ite | apply At.next | apply At.some | exact At.none | dsimp -zeta only [At.mkFst, At.mkSnd]
    | apply At.foldl | apply At.getD | apply At.fst | apply At.snd
    | ((conv => enter [3, 20]) <;> apply At.upd <;> first | exact .inl ‹_› | exact .inr rfl | skip)
    | ((conv => enter [3, 20]) <;> apply At.updCore) | split | exact At.ofMkFst ‹_› | exact At.ofMkSnd ‹_›
    | refine At.ofNext (by assumption) ?_ | refine At.ofFst (by assumption) ?_ | refine At.ofSnd (by assumption) ?_
    | refine At.ofOpt (by assumption) ?_ | refine At.ofOptSnd (by assumption) ?_ | refine At.ofOptFst (by assumption) ?_
    | refine At.ofOptSnd2 (by assumption) ?_ | apply At.mapAny | dsimp +zetaDelta only)

theorem State.setGate_keeps {P : Part → Prop} {s₀ s : State} (shape_ : P .shape) (half : Nat) (g : GateSt) (hs : At (Keeps P s₀) It s) : At
    (Keeps P s₀) It (State.setGate s half g) := by
  unfold State.setGate
  with_reducible repeat' (first
    | assumption | (intro x; refine At.cut x ?_ ?_; rotate_left; intro _; clear_value x; rotate_left; unfold x) | intro _ | lift_lets
    | apply At.ite | apply At.next | apply At.some | exact At.none | dsimp -zeta only [At.mkFst, At.mkSnd] | apply At.foldl
    | apply At.getD | apply At.fst | apply At.snd
    | ((conv => enter [3, 20]) <;> apply At.upd <;> first | exact .inl ‹_› | exact .inr rfl | skip)
    | ((conv => enter [3, 20]) <;> apply At.updCore) | split | exact At.ofMkFst ‹_› | exact At.ofMkSnd ‹_›
    | refine At.ofNext (by assumption) ?_ | refine At.ofFst (by assumption) ?_ | refine At.ofSnd (by assumption) ?_
    | refine At.ofOpt (by assumption) ?_ | refine At.ofOptSnd (by assumption) ?_ | refine At.ofOptFst (by assumption) ?_
    | refine At.ofOptSnd2 (by assumption) ?_ | apply At.mapAny | dsimp +zetaDelta only)

theorem State.gateCommit_keeps {P : Part → Prop} {s₀ s : State} (shape_ : P .shape) (half : Nat) (hs : At (Keeps P s₀) It s) : At (Keeps P
    s₀) (Fst It) (State.gateCommit s half) := by
  unfold State.gateCommit
  with_reducible repeat' (first
    | assumption | (intro x; refine At.cut x ?_ ?_; rotate_left; intro _; clear_value x; rotate_left; unfold x) | intro _ | lift_lets
    | apply State.setGate_keeps | apply At.ite | apply At.next | apply At.some | exact At.none | dsimp -zeta only [At.mkFst, At.mkSnd]
    | apply At.foldl | apply At.getD | apply At.fst | apply At.snd
    | ((conv => enter [3, 20]) <;> apply At.upd <;> first | exact .inl ‹_› | exact .inr rfl | skip)
    | ((conv => enter [3, 20]) <;> apply At.updCore) | split | exact At.ofMkFst ‹_› | exact At.ofMkSnd ‹_›
    | refine At.ofNext (by assumption) ?_ | refine At.ofFst (by assumption) ?_ | refine At.ofSnd (by assumption) ?_
    | refine At.ofOpt (by assumption) ?_ | refine At.ofOptSnd (by assumption) ?_ | refine At.ofOptFst (by assumption) ?_
    | refine At.ofOptSnd2 (by assumption) ?_ | apply At.mapAny | dsimp +zetaDelta only)

theorem State.gateFrame_keeps {P : Part → Prop} {s₀ s : State} (dict_ : P .dict) (shape_ : P .shape) (half : Nat) (hs : At (Keeps P s₀) It
    s) : At (Keeps P s₀) It (State.gateFrame s half) := by
  unfold State.gateFrame
  with_reducible repeat' (first
    | assumption | (intro x; refine At.cut x ?_ ?_; rotate_left; intro _; clear_value x; rotate_left; unfold x) | intro _ | lift_lets
    | apply State.bump_keeps | apply State.setGate_keeps | apply At.ite | apply At.next | apply At.some | exact At.none
    | dsimp -zeta only [At.mkFst, At.mkSnd] | apply At.foldl | apply At.getD | apply At.fst | apply At.snd
    | ((conv => enter [3, 20]) <;> apply At.upd <;> first | exact .inl ‹_› | exact .inr rfl | skip)
    | ((conv => enter [3, 20]) <;> apply At.updCore) | split | exact At.ofMkFst ‹_› | exact At.ofMkSnd ‹_›
    | refine At.ofNext (by assumption) ?_ | refine At.ofFst (by assumption) ?_ | refine At.ofSnd (by assumption) ?_
    | refine At.ofOpt (by assumption) ?_ | refine At.ofOptSnd (by assumption) ?_ | refine At.ofOptFst (by assumption) ?_
    | refine At.ofOptSnd2 (by assumption) ?_ | apply At.mapAny | dsimp +zetaDelta only)

theorem State.gateNext_keeps {P : Part → Prop} {s₀ s : State} (shape_ : P .shape) (half : Nat) (hs : At (Keeps P s₀) It s) : At (Keeps P
    s₀) It (State.gateNext s half) := by
  unfold State.gateNext
  with_reducible repeat' (first
    | assumption | (intro x; refine At.cut x ?_ ?_; rotate_left; intro _; clear_value x; rotate_left; unfold x) | intro _ | lift_lets
    | apply State.setGate_keeps | apply At.ite | apply At.next | apply At.some | exact At.none | dsimp -zeta only [At.mkFst, At.mkSnd]
    | apply At.foldl | apply At.getD | apply At.fst | apply At.snd
    | ((conv => enter [3, 20]) <;> apply At.upd <;> first | exact .inl ‹_› | exact .inr rfl | skip)
    | ((conv => enter [3, 20]) <;> apply At.updCore) | split | exact At.ofMkFst ‹_› | exact At.ofMkSnd ‹_›
    | refine At.ofNext (by assumption) ?_ | refine At.ofFst (by assumption) ?_ | refine At.ofSnd (by assumption) ?_
    | refine At.ofOpt (by assumption) ?_ | refine At.ofOptSnd (by assumption) ?_ | refine At.ofOptFst (by assumption) ?_
    | refine At.ofOptSnd2 (by assumption) ?_ | apply At.mapAny | dsimp +zetaDelta only)

/-! ### Machine/CoreBase.lean -/

theorem State.setCore_keeps {P : Part → Prop} {s₀ s : State} (core_ : P .core) (k : Nat) (c : Core)
    (hc : s.stores → Memory.wf c.store = true) (hs : At (Keeps P s₀) It s) : At (Keeps P s₀) It (State.setCore s k c) := by
  refine At.updCore core_ (fun h => ⟨fun p hp => ?_, h.2⟩) hs
  rcases mem_mputD hp with hp | rfl
  · exact h.1 p hp
  · exact hc h

theorem State.setClusterStore_keeps {P : Part → Prop} {s₀ s : State} (core_ : P .core) (c : Nat) (b : ByteStore)
    (hb : s.stores → Memory.wf b = true) (hs : At (Keeps P s₀) It s) : At (Keeps P s₀) It (State.setClusterStore s c b) := by
  refine At.updCore core_ (fun h => ⟨h.1, fun p hp => ?_⟩) hs
  rcases mem_mputD hp with hp | rfl
  · exact h.2 p hp
  · exact hb h

theorem State.clusterSettle_keeps {P : Part → Prop} {s₀ s : State} (core_ : P .core) (n : Nat) (c : Nat) (hs : At (Keeps P s₀) It s) : At
    (Keeps P s₀) It (State.clusterSettle s n c) := by
  unfold State.clusterSettle
  with_reducible repeat' (first
    | assumption | (intro x; refine At.cut x ?_ ?_; rotate_left; intro _; clear_value x; rotate_left; unfold x) | intro _ | lift_lets
    | apply State.setClusterStore_keeps | exact wf_nil | apply Core.settle_store | apply Core.write_store | apply wf_foldl_bputs
    | apply Core.result_store | apply Core.flags_store | apply Core.moved_store | apply Core.lanewise_store | exact coreInit_store
    | apply id_store | apply State.coreAt_store | apply State.clusterStore_wf | apply wf_bputs | apply wf_filter | apply wf_storeTile
    | apply State.issued_store | apply State.cameTo_stores | exact stores_same ‹_› | exact stores_nil | exact stores_filter ‹_›
    | apply At.ite | apply At.next | apply At.some | exact At.none | dsimp -zeta only [At.mkFst, At.mkSnd] | apply At.foldl
    | apply At.getD | apply At.fst | apply At.snd
    | ((conv => enter [3, 20]) <;> apply At.upd <;> first | exact .inl ‹_› | exact .inr rfl | skip)
    | ((conv => enter [3, 20]) <;> apply At.updCore) | split | exact At.ofMkFst ‹_› | exact At.ofMkSnd ‹_›
    | refine At.ofNext (by assumption) ?_ | refine At.ofFst (by assumption) ?_ | refine At.ofSnd (by assumption) ?_
    | refine At.ofOpt (by assumption) ?_ | refine At.ofOptSnd (by assumption) ?_ | refine At.ofOptFst (by assumption) ?_
    | refine At.ofOptSnd2 (by assumption) ?_ | apply At.mapAny | dsimp +zetaDelta only)

theorem State.clusterSend_keeps {P : Part → Prop} {s₀ s : State} (core_ : P .core) (n : Nat) (w : ClusterWrite) (hs : At (Keeps P s₀) It s)
    : At (Keeps P s₀) It (State.clusterSend s n w) := by
  unfold State.clusterSend
  with_reducible repeat' (first
    | assumption | (intro x; refine At.cut x ?_ ?_; rotate_left; intro _; clear_value x; rotate_left; unfold x) | intro _ | lift_lets
    | exact wf_nil | apply Core.settle_store | apply Core.write_store | apply wf_foldl_bputs | apply Core.result_store
    | apply Core.flags_store | apply Core.moved_store | apply Core.lanewise_store | exact coreInit_store | apply id_store
    | apply State.coreAt_store | apply State.clusterStore_wf | apply wf_bputs | apply wf_filter | apply wf_storeTile
    | apply State.issued_store | apply State.cameTo_stores | exact stores_same ‹_› | exact stores_nil | exact stores_filter ‹_›
    | apply At.ite | apply At.next | apply At.some | exact At.none | dsimp -zeta only [At.mkFst, At.mkSnd] | apply At.foldl
    | apply At.getD | apply At.fst | apply At.snd
    | ((conv => enter [3, 20]) <;> apply At.upd <;> first | exact .inl ‹_› | exact .inr rfl | skip)
    | ((conv => enter [3, 20]) <;> apply At.updCore) | split | exact At.ofMkFst ‹_› | exact At.ofMkSnd ‹_›
    | refine At.ofNext (by assumption) ?_ | refine At.ofFst (by assumption) ?_ | refine At.ofSnd (by assumption) ?_
    | refine At.ofOpt (by assumption) ?_ | refine At.ofOptSnd (by assumption) ?_ | refine At.ofOptFst (by assumption) ?_
    | refine At.ofOptSnd2 (by assumption) ?_ | apply At.mapAny | dsimp +zetaDelta only)

theorem State.clusterAsk_keeps {P : Part → Prop} {s₀ s : State} (core_ : P .core) (n : Nat) (r : ClusterRead) (hs : At (Keeps P s₀) It s) :
    At (Keeps P s₀) It (State.clusterAsk s n r) := by
  unfold State.clusterAsk
  with_reducible repeat' (first
    | assumption | (intro x; refine At.cut x ?_ ?_; rotate_left; intro _; clear_value x; rotate_left; unfold x) | intro _ | lift_lets
    | exact wf_nil | apply Core.settle_store | apply Core.write_store | apply wf_foldl_bputs | apply Core.result_store
    | apply Core.flags_store | apply Core.moved_store | apply Core.lanewise_store | exact coreInit_store | apply id_store
    | apply State.coreAt_store | apply State.clusterStore_wf | apply wf_bputs | apply wf_filter | apply wf_storeTile
    | apply State.issued_store | apply State.cameTo_stores | exact stores_same ‹_› | exact stores_nil | exact stores_filter ‹_›
    | apply At.ite | apply At.next | apply At.some | exact At.none | dsimp -zeta only [At.mkFst, At.mkSnd] | apply At.foldl
    | apply At.getD | apply At.fst | apply At.snd
    | ((conv => enter [3, 20]) <;> apply At.upd <;> first | exact .inl ‹_› | exact .inr rfl | skip)
    | ((conv => enter [3, 20]) <;> apply At.updCore) | split | exact At.ofMkFst ‹_› | exact At.ofMkSnd ‹_›
    | refine At.ofNext (by assumption) ?_ | refine At.ofFst (by assumption) ?_ | refine At.ofSnd (by assumption) ?_
    | refine At.ofOpt (by assumption) ?_ | refine At.ofOptSnd (by assumption) ?_ | refine At.ofOptFst (by assumption) ?_
    | refine At.ofOptSnd2 (by assumption) ?_ | apply At.mapAny | dsimp +zetaDelta only)

theorem State.clusterFetch_keeps {P : Part → Prop} {s₀ s : State} (core_ : P .core) (n : Nat) (r : ClusterRead) (hs : At (Keeps P s₀) It s)
    : At (Keeps P s₀) It (State.clusterFetch s n r) := by
  unfold State.clusterFetch
  with_reducible repeat' (first
    | assumption | (intro x; refine At.cut x ?_ ?_; rotate_left; intro _; clear_value x; rotate_left; unfold x) | intro _ | lift_lets
    | apply State.setCore_keeps | apply State.clusterSettle_keeps | exact wf_nil | apply Core.settle_store | apply Core.write_store
    | apply wf_foldl_bputs | apply Core.result_store | apply Core.flags_store | apply Core.moved_store | apply Core.lanewise_store
    | exact coreInit_store | apply id_store | apply State.coreAt_store | apply State.clusterStore_wf | apply wf_bputs | apply wf_filter
    | apply wf_storeTile | apply State.issued_store | apply State.cameTo_stores | apply At.ite | apply At.next | apply At.some
    | exact At.none | dsimp -zeta only [At.mkFst, At.mkSnd] | apply At.foldl | apply At.getD | apply At.fst | apply At.snd
    | ((conv => enter [3, 20]) <;> apply At.upd <;> first | exact .inl ‹_› | exact .inr rfl | skip)
    | ((conv => enter [3, 20]) <;> apply At.updCore) | split | exact At.ofMkFst ‹_› | exact At.ofMkSnd ‹_›
    | refine At.ofNext (by assumption) ?_ | refine At.ofFst (by assumption) ?_ | refine At.ofSnd (by assumption) ?_
    | refine At.ofOpt (by assumption) ?_ | refine At.ofOptSnd (by assumption) ?_ | refine At.ofOptFst (by assumption) ?_
    | refine At.ofOptSnd2 (by assumption) ?_ | apply At.mapAny | dsimp +zetaDelta only)

theorem State.clusterAdvance_keeps {P : Part → Prop} {s₀ s : State} (core_ : P .core) (n : Nat) (c : Nat) (hs : At (Keeps P s₀) It s) : At
    (Keeps P s₀) It (State.clusterAdvance s n c) := by
  unfold State.clusterAdvance
  with_reducible repeat' (first
    | assumption | (intro x; refine At.cut x ?_ ?_; rotate_left; intro _; clear_value x; rotate_left; unfold x) | intro _ | lift_lets
    | apply State.clusterSettle_keeps | apply State.clusterFetch_keeps | exact wf_nil | apply Core.settle_store | apply Core.write_store
    | apply wf_foldl_bputs | apply Core.result_store | apply Core.flags_store | apply Core.moved_store | apply Core.lanewise_store
    | exact coreInit_store | apply id_store | apply State.coreAt_store | apply State.clusterStore_wf | apply wf_bputs | apply wf_filter
    | apply wf_storeTile | apply State.issued_store | apply State.cameTo_stores | exact stores_same ‹_› | exact stores_nil
    | exact stores_filter ‹_› | apply At.ite | apply At.next | apply At.some | exact At.none | dsimp -zeta only [At.mkFst, At.mkSnd]
    | apply At.foldl | apply At.getD | apply At.fst | apply At.snd
    | ((conv => enter [3, 20]) <;> apply At.upd <;> first | exact .inl ‹_› | exact .inr rfl | skip)
    | ((conv => enter [3, 20]) <;> apply At.updCore) | split | exact At.ofMkFst ‹_› | exact At.ofMkSnd ‹_›
    | refine At.ofNext (by assumption) ?_ | refine At.ofFst (by assumption) ?_ | refine At.ofSnd (by assumption) ?_
    | refine At.ofOpt (by assumption) ?_ | refine At.ofOptSnd (by assumption) ?_ | refine At.ofOptFst (by assumption) ?_
    | refine At.ofOptSnd2 (by assumption) ?_ | apply At.mapAny | dsimp +zetaDelta only)

end Sys2Proof.Machine
end

