-- ==== Sys2Proof/Laws/Keeps2.lean ====
section
/-! SUPPORT. What the operations of these files may change: VxTiles, MoveOps, SyncOps, Security, TrvOps, Routes, Intake, Lists, Traverses. -/

namespace Sys2Proof.Machine

set_option linter.all false

/-! ### Machine/VxTiles.lean -/

theorem State.allocStripes_keeps {P : Part → Prop} {s₀ s : State} (dict_ : P .dict) (ses_ : P .ses) (tier_ : P .tier) (free_ : P .free)
    (half : Nat) (tiles : List Tile) (hs : At (Keeps P s₀) It s) : At (Keeps P s₀) (Fst It) (State.allocStripes s half tiles) := by
  unfold State.allocStripes
  with_reducible repeat' (first
    | assumption | (intro x; refine At.cut x ?_ ?_; rotate_left; intro _; clear_value x; rotate_left; unfold x) | intro _ | lift_lets
    | apply State.writeTile_keeps | apply State.freeRow_keeps | apply At.ite | apply At.next | apply At.some | exact At.none
    | dsimp -zeta only [At.mkFst, At.mkSnd] | apply At.foldl | apply At.getD | apply At.fst | apply At.snd
    | ((conv => enter [3, 20]) <;> apply At.upd <;> first | exact .inl ‹_› | exact .inr rfl | skip)
    | ((conv => enter [3, 20]) <;> apply At.updCore) | split | exact At.ofMkFst ‹_› | exact At.ofMkSnd ‹_›
    | refine At.ofNext (by assumption) ?_ | refine At.ofFst (by assumption) ?_ | refine At.ofSnd (by assumption) ?_
    | refine At.ofOpt (by assumption) ?_ | refine At.ofOptSnd (by assumption) ?_ | refine At.ofOptFst (by assumption) ?_
    | refine At.ofOptSnd2 (by assumption) ?_ | apply At.mapAny | dsimp +zetaDelta only)

theorem State.vxWrite_keeps {P : Part → Prop} {s₀ s : State} (dict_ : P .dict) (ses_ : P .ses) (tier_ : P .tier) (x : VxIndex) (l :
    VxLayout) (k : Nat) (hs : At (Keeps P s₀) It s) : At (Keeps P s₀) It (State.vxWrite s x l k) := by
  unfold State.vxWrite
  with_reducible repeat' (first
    | assumption | (intro x; refine At.cut x ?_ ?_; rotate_left; intro _; clear_value x; rotate_left; unfold x) | intro _ | lift_lets
    | apply State.writeTile_keeps | apply At.ite | apply At.next | apply At.some | exact At.none | dsimp -zeta only [At.mkFst, At.mkSnd]
    | apply At.foldl | apply At.getD | apply At.fst | apply At.snd
    | ((conv => enter [3, 20]) <;> apply At.upd <;> first | exact .inl ‹_› | exact .inr rfl | skip)
    | ((conv => enter [3, 20]) <;> apply At.updCore) | split | exact At.ofMkFst ‹_› | exact At.ofMkSnd ‹_›
    | refine At.ofNext (by assumption) ?_ | refine At.ofFst (by assumption) ?_ | refine At.ofSnd (by assumption) ?_
    | refine At.ofOpt (by assumption) ?_ | refine At.ofOptSnd (by assumption) ?_ | refine At.ofOptFst (by assumption) ?_
    | refine At.ofOptSnd2 (by assumption) ?_ | apply At.mapAny | dsimp +zetaDelta only)

theorem State.setVx_keeps {P : Part → Prop} {s₀ s : State} (dict_ : P .dict) (ses_ : P .ses) (tier_ : P .tier) (srch_ : P .srch) (ii : Nat)
    (x : VxIndex) (hs : At (Keeps P s₀) It s) : At (Keeps P s₀) It (State.setVx s ii x) := by
  unfold State.setVx
  with_reducible repeat' (first
    | assumption | (intro x; refine At.cut x ?_ ?_; rotate_left; intro _; clear_value x; rotate_left; unfold x) | intro _ | lift_lets
    | apply State.vxWrite_keeps | apply At.ite | apply At.next | apply At.some | exact At.none | dsimp -zeta only [At.mkFst, At.mkSnd]
    | apply At.foldl | apply At.getD | apply At.fst | apply At.snd
    | ((conv => enter [3, 20]) <;> apply At.upd <;> first | exact .inl ‹_› | exact .inr rfl | skip)
    | ((conv => enter [3, 20]) <;> apply At.updCore) | split | exact At.ofMkFst ‹_› | exact At.ofMkSnd ‹_›
    | refine At.ofNext (by assumption) ?_ | refine At.ofFst (by assumption) ?_ | refine At.ofSnd (by assumption) ?_
    | refine At.ofOpt (by assumption) ?_ | refine At.ofOptSnd (by assumption) ?_ | refine At.ofOptFst (by assumption) ?_
    | refine At.ofOptSnd2 (by assumption) ?_ | apply At.mapAny | dsimp +zetaDelta only)

theorem State.vxMake_keeps {P : Part → Prop} {s₀ s : State} (dict_ : P .dict) (ses_ : P .ses) (tier_ : P .tier) (srch_ : P .srch) (free_ :
    P .free) (ii : Nat) (nodes : SMap VxNode) (hs : At (Keeps P s₀) It s) : At (Keeps P s₀) It (State.vxMake s ii nodes) := by
  unfold State.vxMake
  with_reducible repeat' (first
    | assumption | (intro x; refine At.cut x ?_ ?_; rotate_left; intro _; clear_value x; rotate_left; unfold x) | intro _ | lift_lets
    | apply State.allocStripes_keeps | apply State.setVx_keeps | apply At.ite | apply At.next | apply At.some | exact At.none
    | dsimp -zeta only [At.mkFst, At.mkSnd] | apply At.foldl | apply At.getD | apply At.fst | apply At.snd
    | ((conv => enter [3, 20]) <;> apply At.upd <;> first | exact .inl ‹_› | exact .inr rfl | skip)
    | ((conv => enter [3, 20]) <;> apply At.updCore) | split | exact At.ofMkFst ‹_› | exact At.ofMkSnd ‹_›
    | refine At.ofNext (by assumption) ?_ | refine At.ofFst (by assumption) ?_ | refine At.ofSnd (by assumption) ?_
    | refine At.ofOpt (by assumption) ?_ | refine At.ofOptSnd (by assumption) ?_ | refine At.ofOptFst (by assumption) ?_
    | refine At.ofOptSnd2 (by assumption) ?_ | apply At.mapAny | dsimp +zetaDelta only)

theorem State.vxFree_keeps {P : Part → Prop} {s₀ s : State} (tier_ : P .tier) (srch_ : P .srch) (ii : Nat) (hs : At (Keeps P s₀) It s) : At
    (Keeps P s₀) It (State.vxFree s ii) := by
  unfold State.vxFree
  with_reducible repeat' (first
    | assumption | (intro x; refine At.cut x ?_ ?_; rotate_left; intro _; clear_value x; rotate_left; unfold x) | intro _ | lift_lets
    | apply State.freeTileAt_keeps | apply At.ite | apply At.next | apply At.some | exact At.none | dsimp -zeta only [At.mkFst, At.mkSnd]
    | apply At.foldl | apply At.getD | apply At.fst | apply At.snd
    | ((conv => enter [3, 20]) <;> apply At.upd <;> first | exact .inl ‹_› | exact .inr rfl | skip)
    | ((conv => enter [3, 20]) <;> apply At.updCore) | split | exact At.ofMkFst ‹_› | exact At.ofMkSnd ‹_›
    | refine At.ofNext (by assumption) ?_ | refine At.ofFst (by assumption) ?_ | refine At.ofSnd (by assumption) ?_
    | refine At.ofOpt (by assumption) ?_ | refine At.ofOptSnd (by assumption) ?_ | refine At.ofOptFst (by assumption) ?_
    | refine At.ofOptSnd2 (by assumption) ?_ | apply At.mapAny | dsimp +zetaDelta only)

theorem State.vxClear_keeps {P : Part → Prop} {s₀ s : State} (dict_ : P .dict) (stn_ : P .stn) (tier_ : P .tier) (srch_ : P .srch) (ii :
    Nat) (status : Nat) (hs : At (Keeps P s₀) It s) : At (Keeps P s₀) It (State.vxClear s ii status) := by
  unfold State.vxClear
  with_reducible repeat' (first
    | assumption | (intro x; refine At.cut x ?_ ?_; rotate_left; intro _; clear_value x; rotate_left; unfold x) | intro _ | lift_lets
    | apply State.setObj_keeps | apply State.finish_keeps | apply State.vxFree_keeps | apply At.ite | apply At.next | apply At.some
    | exact At.none | dsimp -zeta only [At.mkFst, At.mkSnd] | apply At.foldl | apply At.getD | apply At.fst | apply At.snd
    | ((conv => enter [3, 20]) <;> apply At.upd <;> first | exact .inl ‹_› | exact .inr rfl | skip)
    | ((conv => enter [3, 20]) <;> apply At.updCore) | split | exact At.ofMkFst ‹_› | exact At.ofMkSnd ‹_›
    | refine At.ofNext (by assumption) ?_ | refine At.ofFst (by assumption) ?_ | refine At.ofSnd (by assumption) ?_
    | refine At.ofOpt (by assumption) ?_ | refine At.ofOptSnd (by assumption) ?_ | refine At.ofOptFst (by assumption) ?_
    | refine At.ofOptSnd2 (by assumption) ?_ | apply At.mapAny | dsimp +zetaDelta only)

theorem State.vxLose_keeps {P : Part → Prop} {s₀ s : State} (dict_ : P .dict) (stn_ : P .stn) (tier_ : P .tier) (srch_ : P .srch) (ii :
    Nat) (hs : At (Keeps P s₀) It s) : At (Keeps P s₀) It (State.vxLose s ii) := by
  unfold State.vxLose
  with_reducible repeat' (first
    | assumption | (intro x; refine At.cut x ?_ ?_; rotate_left; intro _; clear_value x; rotate_left; unfold x) | intro _ | lift_lets
    | apply State.setObj_keeps | apply State.vxClear_keeps | apply At.ite | apply At.next | apply At.some | exact At.none
    | dsimp -zeta only [At.mkFst, At.mkSnd] | apply At.foldl | apply At.getD | apply At.fst | apply At.snd
    | ((conv => enter [3, 20]) <;> apply At.upd <;> first | exact .inl ‹_› | exact .inr rfl | skip)
    | ((conv => enter [3, 20]) <;> apply At.updCore) | split | exact At.ofMkFst ‹_› | exact At.ofMkSnd ‹_›
    | refine At.ofNext (by assumption) ?_ | refine At.ofFst (by assumption) ?_ | refine At.ofSnd (by assumption) ?_
    | refine At.ofOpt (by assumption) ?_ | refine At.ofOptSnd (by assumption) ?_ | refine At.ofOptFst (by assumption) ?_
    | refine At.ofOptSnd2 (by assumption) ?_ | apply At.mapAny | dsimp +zetaDelta only)

/-! ### Machine/MoveOps.lean -/

theorem State.dropShadow_keeps {P : Part → Prop} {s₀ s : State} (ses_ : P .ses) (tier_ : P .tier) (i : Nat) (b : Nat) (hs : At (Keeps P s₀)
    It s) : At (Keeps P s₀) It (State.dropShadow s i b) := by
  unfold State.dropShadow
  with_reducible repeat' (first
    | assumption | (intro x; refine At.cut x ?_ ?_; rotate_left; intro _; clear_value x; rotate_left; unfold x) | intro _ | lift_lets
    | apply State.setEng_keeps | apply State.freeTileAt_keeps | apply State.setSess_keeps | apply At.ite | apply At.next | apply At.some
    | exact At.none | dsimp -zeta only [At.mkFst, At.mkSnd] | apply At.foldl | apply At.getD | apply At.fst | apply At.snd
    | ((conv => enter [3, 20]) <;> apply At.upd <;> first | exact .inl ‹_› | exact .inr rfl | skip)
    | ((conv => enter [3, 20]) <;> apply At.updCore) | split | exact At.ofMkFst ‹_› | exact At.ofMkSnd ‹_›
    | refine At.ofNext (by assumption) ?_ | refine At.ofFst (by assumption) ?_ | refine At.ofSnd (by assumption) ?_
    | refine At.ofOpt (by assumption) ?_ | refine At.ofOptSnd (by assumption) ?_ | refine At.ofOptFst (by assumption) ?_
    | refine At.ofOptSnd2 (by assumption) ?_ | apply At.mapAny | dsimp +zetaDelta only)

theorem State.touchTile_keeps {P : Part → Prop} {s₀ s : State} (ses_ : P .ses) (tier_ : P .tier) (a : Nat) (hs : At (Keeps P s₀) It s) : At
    (Keeps P s₀) It (State.touchTile s a) := by
  unfold State.touchTile
  with_reducible repeat' (first
    | assumption | (intro x; refine At.cut x ?_ ?_; rotate_left; intro _; clear_value x; rotate_left; unfold x) | intro _ | lift_lets
    | apply State.dropShadow_keeps | apply At.ite | apply At.next | apply At.some | exact At.none | dsimp -zeta only [At.mkFst, At.mkSnd]
    | apply At.foldl | apply At.getD | apply At.fst | apply At.snd
    | ((conv => enter [3, 20]) <;> apply At.upd <;> first | exact .inl ‹_› | exact .inr rfl | skip)
    | ((conv => enter [3, 20]) <;> apply At.updCore) | split | exact At.ofMkFst ‹_› | exact At.ofMkSnd ‹_›
    | refine At.ofNext (by assumption) ?_ | refine At.ofFst (by assumption) ?_ | refine At.ofSnd (by assumption) ?_
    | refine At.ofOpt (by assumption) ?_ | refine At.ofOptSnd (by assumption) ?_ | refine At.ofOptFst (by assumption) ?_
    | refine At.ofOptSnd2 (by assumption) ?_ | apply At.mapAny | dsimp +zetaDelta only)

theorem State.landTile_keeps {P : Part → Prop} {s₀ s : State} (dict_ : P .dict) (ses_ : P .ses) (tier_ : P .tier) (trv_ : P .trv) (core_ :
    P .core) (dst : Nat) (t : Tile) (hs : At (Keeps P s₀) It s) : At (Keeps P s₀) It (State.landTile s dst t) := by
  unfold State.landTile
  with_reducible repeat' (first
    | assumption | (intro x; refine At.cut x ?_ ?_; rotate_left; intro _; clear_value x; rotate_left; unfold x) | intro _ | lift_lets
    | apply State.writeTile_keeps | apply State.setClusterStore_keeps | apply State.clusterAdvance_keeps | apply State.touchTile_keeps
    | exact wf_nil | apply Core.settle_store | apply Core.write_store | apply wf_foldl_bputs | apply Core.result_store
    | apply Core.flags_store | apply Core.moved_store | apply Core.lanewise_store | exact coreInit_store | apply id_store
    | apply State.coreAt_store | apply State.clusterStore_wf | apply wf_bputs | apply wf_filter | apply wf_storeTile
    | apply State.issued_store | apply State.cameTo_stores | apply At.ite | apply At.next | apply At.some | exact At.none
    | dsimp -zeta only [At.mkFst, At.mkSnd] | apply At.foldl | apply At.getD | apply At.fst | apply At.snd
    | ((conv => enter [3, 20]) <;> apply At.upd <;> first | exact .inl ‹_› | exact .inr rfl | skip)
    | ((conv => enter [3, 20]) <;> apply At.updCore) | split | exact At.ofMkFst ‹_› | exact At.ofMkSnd ‹_›
    | refine At.ofNext (by assumption) ?_ | refine At.ofFst (by assumption) ?_ | refine At.ofSnd (by assumption) ?_
    | refine At.ofOpt (by assumption) ?_ | refine At.ofOptSnd (by assumption) ?_ | refine At.ofOptFst (by assumption) ?_
    | refine At.ofOptSnd2 (by assumption) ?_ | apply At.mapAny | dsimp +zetaDelta only)

theorem State.loseTile_keeps {P : Part → Prop} {s₀ s : State} (dict_ : P .dict) (fb_ : P .fb) (stn_ : P .stn) (ses_ : P .ses) (tier_ : P
    .tier) (srch_ : P .srch) (free_ : P .free) (a : Nat) (cause : Nat) (hs : At (Keeps P s₀) It s) : At (Keeps P s₀) It (State.loseTile s a
    cause) := by
  unfold State.loseTile
  with_reducible repeat' (first
    | assumption | (intro x; refine At.cut x ?_ ?_; rotate_left; intro _; clear_value x; rotate_left; unfold x) | intro _ | lift_lets
    | apply State.bump_keeps | apply State.freeTileAt_keeps | apply State.loseKv_keeps | apply State.vxLose_keeps | apply At.ite
    | apply At.next | apply At.some | exact At.none | dsimp -zeta only [At.mkFst, At.mkSnd] | apply At.foldl | apply At.getD
    | apply At.fst | apply At.snd | ((conv => enter [3, 20]) <;> apply At.upd <;> first | exact .inl ‹_› | exact .inr rfl | skip)
    | ((conv => enter [3, 20]) <;> apply At.updCore) | split | exact At.ofMkFst ‹_› | exact At.ofMkSnd ‹_›
    | refine At.ofNext (by assumption) ?_ | refine At.ofFst (by assumption) ?_ | refine At.ofSnd (by assumption) ?_
    | refine At.ofOpt (by assumption) ?_ | refine At.ofOptSnd (by assumption) ?_ | refine At.ofOptFst (by assumption) ?_
    | refine At.ofOptSnd2 (by assumption) ?_ | apply At.mapAny | dsimp +zetaDelta only)

theorem State.countShadow_keeps {P : Part → Prop} {s₀ s : State} (dict_ : P .dict) (half : Nat) (a : Nat) (t : Tile) (hs : At (Keeps P s₀)
    It s) : At (Keeps P s₀) It (State.countShadow s half a t) := by
  unfold State.countShadow
  with_reducible repeat' (first
    | assumption | (intro x; refine At.cut x ?_ ?_; rotate_left; intro _; clear_value x; rotate_left; unfold x) | intro _ | lift_lets
    | apply State.bump_keeps | apply At.ite | apply At.next | apply At.some | exact At.none | dsimp -zeta only [At.mkFst, At.mkSnd]
    | apply At.foldl | apply At.getD | apply At.fst | apply At.snd
    | ((conv => enter [3, 20]) <;> apply At.upd <;> first | exact .inl ‹_› | exact .inr rfl | skip)
    | ((conv => enter [3, 20]) <;> apply At.updCore) | split | exact At.ofMkFst ‹_› | exact At.ofMkSnd ‹_›
    | refine At.ofNext (by assumption) ?_ | refine At.ofFst (by assumption) ?_ | refine At.ofSnd (by assumption) ?_
    | refine At.ofOpt (by assumption) ?_ | refine At.ofOptSnd (by assumption) ?_ | refine At.ofOptFst (by assumption) ?_
    | refine At.ofOptSnd2 (by assumption) ?_ | apply At.mapAny | dsimp +zetaDelta only)

theorem State.readTile_keeps {P : Part → Prop} {s₀ s : State} (dict_ : P .dict) (fb_ : P .fb) (stn_ : P .stn) (ses_ : P .ses) (tier_ : P
    .tier) (srch_ : P .srch) (free_ : P .free) (half : Nat) (src : Nat) (r : TileRead) (intoStore : Bool) (hs : At (Keeps P s₀) It s) : At
    (Keeps P s₀) (Fst It) (State.readTile s half src r intoStore) := by
  unfold State.readTile
  with_reducible repeat' (first
    | assumption | (intro x; refine At.cut x ?_ ?_; rotate_left; intro _; clear_value x; rotate_left; unfold x) | intro _ | lift_lets
    | apply State.bump_keeps | apply State.loseTile_keeps | apply State.countShadow_keeps | apply At.ite | apply At.next | apply At.some
    | exact At.none | dsimp -zeta only [At.mkFst, At.mkSnd] | apply At.foldl | apply At.getD | apply At.fst | apply At.snd
    | ((conv => enter [3, 20]) <;> apply At.upd <;> first | exact .inl ‹_› | exact .inr rfl | skip)
    | ((conv => enter [3, 20]) <;> apply At.updCore) | split | exact At.ofMkFst ‹_› | exact At.ofMkSnd ‹_›
    | refine At.ofNext (by assumption) ?_ | refine At.ofFst (by assumption) ?_ | refine At.ofSnd (by assumption) ?_
    | refine At.ofOpt (by assumption) ?_ | refine At.ofOptSnd (by assumption) ?_ | refine At.ofOptFst (by assumption) ?_
    | refine At.ofOptSnd2 (by assumption) ?_ | apply At.mapAny | dsimp +zetaDelta only)

theorem State.carryTile_keeps {P : Part → Prop} {s₀ s : State} (dict_ : P .dict) (fb_ : P .fb) (stn_ : P .stn) (ses_ : P .ses) (tier_ : P
    .tier) (trv_ : P .trv) (core_ : P .core) (srch_ : P .srch) (free_ : P .free) (half : Nat) (d : MoveDesc) (k : Nat) (r : TileRead) (hs :
    At (Keeps P s₀) It s) : At (Keeps P s₀) (Fst It) (State.carryTile s half d k r) := by
  unfold State.carryTile
  with_reducible repeat' (first
    | assumption | (intro x; refine At.cut x ?_ ?_; rotate_left; intro _; clear_value x; rotate_left; unfold x) | intro _ | lift_lets
    | apply State.bump_keeps | apply State.writeTile_keeps | apply State.freeTileAt_keeps | apply State.landTile_keeps
    | apply State.readTile_keeps | apply At.ite | apply At.next | apply At.some | exact At.none | dsimp -zeta only [At.mkFst, At.mkSnd]
    | apply At.foldl | apply At.getD | apply At.fst | apply At.snd
    | ((conv => enter [3, 20]) <;> apply At.upd <;> first | exact .inl ‹_› | exact .inr rfl | skip)
    | ((conv => enter [3, 20]) <;> apply At.updCore) | split | exact At.ofMkFst ‹_› | exact At.ofMkSnd ‹_›
    | refine At.ofNext (by assumption) ?_ | refine At.ofFst (by assumption) ?_ | refine At.ofSnd (by assumption) ?_
    | refine At.ofOpt (by assumption) ?_ | refine At.ofOptSnd (by assumption) ?_ | refine At.ofOptFst (by assumption) ?_
    | refine At.ofOptSnd2 (by assumption) ?_ | apply At.mapAny | dsimp +zetaDelta only)

theorem State.shiftKv_keeps {P : Part → Prop} {s₀ s : State} (dict_ : P .dict) (fb_ : P .fb) (stn_ : P .stn) (ses_ : P .ses) (tier_ : P
    .tier) (srch_ : P .srch) (free_ : P .free) (i : Nat) (key : Nat) (target : Nat) (d : MoveDesc) (r : TileRead) (hs : At (Keeps P s₀) It
    s) : At (Keeps P s₀) (Fst It) (State.shiftKv s i key target d r) := by
  unfold State.shiftKv
  with_reducible repeat' (first
    | assumption | (intro x; refine At.cut x ?_ ?_; rotate_left; intro _; clear_value x; rotate_left; unfold x) | intro _ | lift_lets
    | apply State.bump_keeps | apply State.setEng_keeps | apply State.freeTileAt_keeps | apply State.setSess_keeps
    | apply State.allocKv_keeps | apply State.readTile_keeps | apply At.ite | apply At.next | apply At.some | exact At.none
    | dsimp -zeta only [At.mkFst, At.mkSnd] | apply At.foldl | apply At.getD | apply At.fst | apply At.snd
    | ((conv => enter [3, 20]) <;> apply At.upd <;> first | exact .inl ‹_› | exact .inr rfl | skip)
    | ((conv => enter [3, 20]) <;> apply At.updCore) | split | exact At.ofMkFst ‹_› | exact At.ofMkSnd ‹_›
    | refine At.ofNext (by assumption) ?_ | refine At.ofFst (by assumption) ?_ | refine At.ofSnd (by assumption) ?_
    | refine At.ofOpt (by assumption) ?_ | refine At.ofOptSnd (by assumption) ?_ | refine At.ofOptFst (by assumption) ?_
    | refine At.ofOptSnd2 (by assumption) ?_ | apply At.mapAny | dsimp +zetaDelta only)

theorem State.evictBlock_keeps {P : Part → Prop} {s₀ s : State} (dict_ : P .dict) (ses_ : P .ses) (tier_ : P .tier) (i : Nat) (b : Nat) (hs
    : At (Keeps P s₀) It s) : At (Keeps P s₀) It (State.evictBlock s i b) := by
  unfold State.evictBlock
  with_reducible repeat' (first
    | assumption | (intro x; refine At.cut x ?_ ?_; rotate_left; intro _; clear_value x; rotate_left; unfold x) | intro _ | lift_lets
    | apply State.freeTileAt_keeps | apply State.setSess_keeps | apply State.syncPt_keeps | apply At.ite | apply At.next | apply At.some
    | exact At.none | dsimp -zeta only [At.mkFst, At.mkSnd] | apply At.foldl | apply At.getD | apply At.fst | apply At.snd
    | ((conv => enter [3, 20]) <;> apply At.upd <;> first | exact .inl ‹_› | exact .inr rfl | skip)
    | ((conv => enter [3, 20]) <;> apply At.updCore) | split | exact At.ofMkFst ‹_› | exact At.ofMkSnd ‹_›
    | refine At.ofNext (by assumption) ?_ | refine At.ofFst (by assumption) ?_ | refine At.ofSnd (by assumption) ?_
    | refine At.ofOpt (by assumption) ?_ | refine At.ofOptSnd (by assumption) ?_ | refine At.ofOptFst (by assumption) ?_
    | refine At.ofOptSnd2 (by assumption) ?_ | apply At.mapAny | dsimp +zetaDelta only)

theorem State.setQueue_keeps {P : Part → Prop} {s₀ s : State} (tier_ : P .tier) (half : Nat) (q : Nat) (l : List QDesc) (hs : At (Keeps P
    s₀) It s) : At (Keeps P s₀) It (State.setQueue s half q l) := by
  unfold State.setQueue
  with_reducible repeat' (first
    | assumption | (intro x; refine At.cut x ?_ ?_; rotate_left; intro _; clear_value x; rotate_left; unfold x) | intro _ | lift_lets
    | apply State.setEng_keeps | apply At.ite | apply At.next | apply At.some | exact At.none | dsimp -zeta only [At.mkFst, At.mkSnd]
    | apply At.foldl | apply At.getD | apply At.fst | apply At.snd
    | ((conv => enter [3, 20]) <;> apply At.upd <;> first | exact .inl ‹_› | exact .inr rfl | skip)
    | ((conv => enter [3, 20]) <;> apply At.updCore) | split | exact At.ofMkFst ‹_› | exact At.ofMkSnd ‹_›
    | refine At.ofNext (by assumption) ?_ | refine At.ofFst (by assumption) ?_ | refine At.ofSnd (by assumption) ?_
    | refine At.ofOpt (by assumption) ?_ | refine At.ofOptSnd (by assumption) ?_ | refine At.ofOptFst (by assumption) ?_
    | refine At.ofOptSnd2 (by assumption) ?_ | apply At.mapAny | dsimp +zetaDelta only)

theorem State.enqueue_keeps {P : Part → Prop} {s₀ s : State} (tier_ : P .tier) (half : Nat) (q : Nat) (d : MoveDesc) (g : Option Gathered)
    (hs : At (Keeps P s₀) It s) : At (Keeps P s₀) It (State.enqueue s half q d g) := by
  unfold State.enqueue
  with_reducible repeat' (first
    | assumption | (intro x; refine At.cut x ?_ ?_; rotate_left; intro _; clear_value x; rotate_left; unfold x) | intro _ | lift_lets
    | apply State.setQueue_keeps | apply At.ite | apply At.next | apply At.some | exact At.none | dsimp -zeta only [At.mkFst, At.mkSnd]
    | apply At.foldl | apply At.getD | apply At.fst | apply At.snd
    | ((conv => enter [3, 20]) <;> apply At.upd <;> first | exact .inl ‹_› | exact .inr rfl | skip)
    | ((conv => enter [3, 20]) <;> apply At.updCore) | split | exact At.ofMkFst ‹_› | exact At.ofMkSnd ‹_›
    | refine At.ofNext (by assumption) ?_ | refine At.ofFst (by assumption) ?_ | refine At.ofSnd (by assumption) ?_
    | refine At.ofOpt (by assumption) ?_ | refine At.ofOptSnd (by assumption) ?_ | refine At.ofOptFst (by assumption) ?_
    | refine At.ofOptSnd2 (by assumption) ?_ | apply At.mapAny | dsimp +zetaDelta only)

theorem State.postMove_keeps {P : Part → Prop} {s₀ s : State} (dict_ : P .dict) (tier_ : P .tier) (half : Nat) (q : Nat) (d : MoveDesc) (j
    : Option Gathered) (hs : At (Keeps P s₀) It s) : At (Keeps P s₀) (Fst It) (State.postMove s half q d j) := by
  unfold State.postMove
  with_reducible repeat' (first
    | assumption | (intro x; refine At.cut x ?_ ?_; rotate_left; intro _; clear_value x; rotate_left; unfold x) | intro _ | lift_lets
    | apply State.bump_keeps | apply State.setEng_keeps | apply State.enqueue_keeps | apply At.ite | apply At.next | apply At.some
    | exact At.none | dsimp -zeta only [At.mkFst, At.mkSnd] | apply At.foldl | apply At.getD | apply At.fst | apply At.snd
    | ((conv => enter [3, 20]) <;> apply At.upd <;> first | exact .inl ‹_› | exact .inr rfl | skip)
    | ((conv => enter [3, 20]) <;> apply At.updCore) | split | exact At.ofMkFst ‹_› | exact At.ofMkSnd ‹_›
    | refine At.ofNext (by assumption) ?_ | refine At.ofFst (by assumption) ?_ | refine At.ofSnd (by assumption) ?_
    | refine At.ofOpt (by assumption) ?_ | refine At.ofOptSnd (by assumption) ?_ | refine At.ofOptFst (by assumption) ?_
    | refine At.ofOptSnd2 (by assumption) ?_ | apply At.mapAny | dsimp +zetaDelta only)

theorem State.admitWaiting_keeps {P : Part → Prop} {s₀ s : State} (tier_ : P .tier) (half : Nat) (q : Nat) (hs : At (Keeps P s₀) It s) : At
    (Keeps P s₀) It (State.admitWaiting s half q) := by
  unfold State.admitWaiting
  with_reducible repeat' (first
    | assumption | (intro x; refine At.cut x ?_ ?_; rotate_left; intro _; clear_value x; rotate_left; unfold x) | intro _ | lift_lets
    | apply State.setEng_keeps | apply State.enqueue_keeps | apply At.ite | apply At.next | apply At.some | exact At.none
    | dsimp -zeta only [At.mkFst, At.mkSnd] | apply At.foldl | apply At.getD | apply At.fst | apply At.snd
    | ((conv => enter [3, 20]) <;> apply At.upd <;> first | exact .inl ‹_› | exact .inr rfl | skip)
    | ((conv => enter [3, 20]) <;> apply At.updCore) | split | exact At.ofMkFst ‹_› | exact At.ofMkSnd ‹_›
    | refine At.ofNext (by assumption) ?_ | refine At.ofFst (by assumption) ?_ | refine At.ofSnd (by assumption) ?_
    | refine At.ofOpt (by assumption) ?_ | refine At.ofOptSnd (by assumption) ?_ | refine At.ofOptFst (by assumption) ?_
    | refine At.ofOptSnd2 (by assumption) ?_ | apply At.mapAny | dsimp +zetaDelta only)

theorem State.produce_keeps {P : Part → Prop} {s₀ s : State} (dict_ : P .dict) (tier_ : P .tier) (half : Nat) (q : Nat) (d : MoveDesc) (hs
    : At (Keeps P s₀) It s) : At (Keeps P s₀) It (State.produce s half q d) := by
  unfold State.produce
  with_reducible repeat' (first
    | assumption | (intro x; refine At.cut x ?_ ?_; rotate_left; intro _; clear_value x; rotate_left; unfold x) | intro _ | lift_lets
    | apply State.postMove_keeps | apply At.ite | apply At.next | apply At.some | exact At.none | dsimp -zeta only [At.mkFst, At.mkSnd]
    | apply At.foldl | apply At.getD | apply At.fst | apply At.snd
    | ((conv => enter [3, 20]) <;> apply At.upd <;> first | exact .inl ‹_› | exact .inr rfl | skip)
    | ((conv => enter [3, 20]) <;> apply At.updCore) | split | exact At.ofMkFst ‹_› | exact At.ofMkSnd ‹_›
    | refine At.ofNext (by assumption) ?_ | refine At.ofFst (by assumption) ?_ | refine At.ofSnd (by assumption) ?_
    | refine At.ofOpt (by assumption) ?_ | refine At.ofOptSnd (by assumption) ?_ | refine At.ofOptFst (by assumption) ?_
    | refine At.ofOptSnd2 (by assumption) ?_ | apply At.mapAny | dsimp +zetaDelta only)

theorem State.debitGrant_keeps {P : Part → Prop} {s₀ s : State} (shape_ : P .shape) (q : Nat) (d : MoveDesc) (hs : At (Keeps P s₀) It s) :
    At (Keeps P s₀) It (State.debitGrant s q d) := by
  unfold State.debitGrant
  with_reducible repeat' (first
    | assumption | (intro x; refine At.cut x ?_ ?_; rotate_left; intro _; clear_value x; rotate_left; unfold x) | intro _ | lift_lets
    | apply State.debitNow_keeps | apply At.ite | apply At.next | apply At.some | exact At.none | dsimp -zeta only [At.mkFst, At.mkSnd]
    | apply At.foldl | apply At.getD | apply At.fst | apply At.snd
    | ((conv => enter [3, 20]) <;> apply At.upd <;> first | exact .inl ‹_› | exact .inr rfl | skip)
    | ((conv => enter [3, 20]) <;> apply At.updCore) | split | exact At.ofMkFst ‹_› | exact At.ofMkSnd ‹_›
    | refine At.ofNext (by assumption) ?_ | refine At.ofFst (by assumption) ?_ | refine At.ofSnd (by assumption) ?_
    | refine At.ofOpt (by assumption) ?_ | refine At.ofOptSnd (by assumption) ?_ | refine At.ofOptFst (by assumption) ?_
    | refine At.ofOptSnd2 (by assumption) ?_ | apply At.mapAny | dsimp +zetaDelta only)

theorem State.startTile_keeps {P : Part → Prop} {s₀ s : State} (tier_ : P .tier) (shape_ : P .shape) (half : Nat) (q : Nat) (hs : At (Keeps
    P s₀) It s) : At (Keeps P s₀) It (State.startTile s half q) := by
  unfold State.startTile
  with_reducible repeat' (first
    | assumption | (intro x; refine At.cut x ?_ ?_; rotate_left; intro _; clear_value x; rotate_left; unfold x) | intro _ | lift_lets
    | apply State.setQueue_keeps | apply State.debitGrant_keeps | apply At.ite | apply At.next | apply At.some | exact At.none
    | dsimp -zeta only [At.mkFst, At.mkSnd] | apply At.foldl | apply At.getD | apply At.fst | apply At.snd
    | ((conv => enter [3, 20]) <;> apply At.upd <;> first | exact .inl ‹_› | exact .inr rfl | skip)
    | ((conv => enter [3, 20]) <;> apply At.updCore) | split | exact At.ofMkFst ‹_› | exact At.ofMkSnd ‹_›
    | refine At.ofNext (by assumption) ?_ | refine At.ofFst (by assumption) ?_ | refine At.ofSnd (by assumption) ?_
    | refine At.ofOpt (by assumption) ?_ | refine At.ofOptSnd (by assumption) ?_ | refine At.ofOptFst (by assumption) ?_
    | refine At.ofOptSnd2 (by assumption) ?_ | apply At.mapAny | dsimp +zetaDelta only)

theorem State.landBlock_keeps {P : Part → Prop} {s₀ s : State} (dict_ : P .dict) (fb_ : P .fb) (stn_ : P .stn) (ses_ : P .ses) (tier_ : P
    .tier) (srch_ : P .srch) (free_ : P .free) (half : Nat) (d : MoveDesc) (key : Nat) (moved : Nat) (r : TileRead) (hs : At (Keeps P s₀)
    It s) : At (Keeps P s₀) (Fst It) (State.landBlock s half d key moved r) := by
  unfold State.landBlock
  with_reducible repeat' (first
    | assumption | (intro x; refine At.cut x ?_ ?_; rotate_left; intro _; clear_value x; rotate_left; unfold x) | intro _ | lift_lets
    | apply State.bump_keeps | apply State.syncPt_keeps | apply State.residency_keeps | apply State.shiftKv_keeps
    | apply State.produce_keeps | apply At.ite | apply At.next | apply At.some | exact At.none | dsimp -zeta only [At.mkFst, At.mkSnd]
    | apply At.foldl | apply At.getD | apply At.fst | apply At.snd
    | ((conv => enter [3, 20]) <;> apply At.upd <;> first | exact .inl ‹_› | exact .inr rfl | skip)
    | ((conv => enter [3, 20]) <;> apply At.updCore) | split | exact At.ofMkFst ‹_› | exact At.ofMkSnd ‹_›
    | refine At.ofNext (by assumption) ?_ | refine At.ofFst (by assumption) ?_ | refine At.ofSnd (by assumption) ?_
    | refine At.ofOpt (by assumption) ?_ | refine At.ofOptSnd (by assumption) ?_ | refine At.ofOptFst (by assumption) ?_
    | refine At.ofOptSnd2 (by assumption) ?_ | apply At.mapAny | dsimp +zetaDelta only)

theorem State.maskFar_keeps {P : Part → Prop} {s₀ s : State} (trv_ : P .trv) (i : Nat) (hs : At (Keeps P s₀) It s) : At (Keeps P s₀) It
    (State.maskFar s i) := by
  unfold State.maskFar
  with_reducible repeat' (first
    | assumption | (intro x; refine At.cut x ?_ ?_; rotate_left; intro _; clear_value x; rotate_left; unfold x) | intro _ | lift_lets
    | apply At.ite | apply At.next | apply At.some | exact At.none | dsimp -zeta only [At.mkFst, At.mkSnd] | apply At.foldl
    | apply At.getD | apply At.fst | apply At.snd
    | ((conv => enter [3, 20]) <;> apply At.upd <;> first | exact .inl ‹_› | exact .inr rfl | skip)
    | ((conv => enter [3, 20]) <;> apply At.updCore) | split | exact At.ofMkFst ‹_› | exact At.ofMkSnd ‹_›
    | refine At.ofNext (by assumption) ?_ | refine At.ofFst (by assumption) ?_ | refine At.ofSnd (by assumption) ?_
    | refine At.ofOpt (by assumption) ?_ | refine At.ofOptSnd (by assumption) ?_ | refine At.ofOptFst (by assumption) ?_
    | refine At.ofOptSnd2 (by assumption) ?_ | apply At.mapAny | dsimp +zetaDelta only)

theorem State.gatherFault_keeps {P : Part → Prop} {s₀ s : State} (dict_ : P .dict) (fb_ : P .fb) (stn_ : P .stn) (ses_ : P .ses) (tier_ : P
    .tier) (trv_ : P .trv) (srch_ : P .srch) (free_ : P .free) (x : Session) (b : Nat) (hs : At (Keeps P s₀) It s) : At (Keeps P s₀) It
    (State.gatherFault s x b) := by
  unfold State.gatherFault
  with_reducible repeat' (first
    | assumption | (intro x; refine At.cut x ?_ ?_; rotate_left; intro _; clear_value x; rotate_left; unfold x) | intro _ | lift_lets
    | apply State.bump_keeps | apply State.maskRows_keeps | apply State.lostBlocks_keeps | apply State.maskFar_keeps | apply At.ite
    | apply At.next | apply At.some | exact At.none | dsimp -zeta only [At.mkFst, At.mkSnd] | apply At.foldl | apply At.getD
    | apply At.fst | apply At.snd | ((conv => enter [3, 20]) <;> apply At.upd <;> first | exact .inl ‹_› | exact .inr rfl | skip)
    | ((conv => enter [3, 20]) <;> apply At.updCore) | split | exact At.ofMkFst ‹_› | exact At.ofMkSnd ‹_›
    | refine At.ofNext (by assumption) ?_ | refine At.ofFst (by assumption) ?_ | refine At.ofSnd (by assumption) ?_
    | refine At.ofOpt (by assumption) ?_ | refine At.ofOptSnd (by assumption) ?_ | refine At.ofOptFst (by assumption) ?_
    | refine At.ofOptSnd2 (by assumption) ?_ | apply At.mapAny | dsimp +zetaDelta only)

theorem State.landGather_keeps {P : Part → Prop} {s₀ s : State} (dict_ : P .dict) (fb_ : P .fb) (stn_ : P .stn) (ses_ : P .ses) (tier_ : P
    .tier) (trv_ : P .trv) (core_ : P .core) (srch_ : P .srch) (free_ : P .free) (d : MoveDesc) (i : Nat) (key : Nat) (row : Nat) (r :
    TileRead) (hs : At (Keeps P s₀) It s) : At (Keeps P s₀) (Fst It) (State.landGather s d i key row r) := by
  unfold State.landGather
  with_reducible repeat' (first
    | assumption | (intro x; refine At.cut x ?_ ?_; rotate_left; intro _; clear_value x; rotate_left; unfold x) | intro _ | lift_lets
    | apply State.bump_keeps | apply State.landTile_keeps | apply State.readTile_keeps | apply State.gatherFault_keeps | apply At.ite
    | apply At.next | apply At.some | exact At.none | dsimp -zeta only [At.mkFst, At.mkSnd] | apply At.foldl | apply At.getD
    | apply At.fst | apply At.snd | ((conv => enter [3, 20]) <;> apply At.upd <;> first | exact .inl ‹_› | exact .inr rfl | skip)
    | ((conv => enter [3, 20]) <;> apply At.updCore) | split | exact At.ofMkFst ‹_› | exact At.ofMkSnd ‹_›
    | refine At.ofNext (by assumption) ?_ | refine At.ofFst (by assumption) ?_ | refine At.ofSnd (by assumption) ?_
    | refine At.ofOpt (by assumption) ?_ | refine At.ofOptSnd (by assumption) ?_ | refine At.ofOptFst (by assumption) ?_
    | refine At.ofOptSnd2 (by assumption) ?_ | apply At.mapAny | dsimp +zetaDelta only)

theorem State.gatherMet_keeps {P : Part → Prop} {s₀ s : State} (trv_ : P .trv) (q : Nat) (tag : Nat) (hs : At (Keeps P s₀) It s) : At
    (Keeps P s₀) It (State.gatherMet s q tag) := by
  unfold State.gatherMet
  with_reducible repeat' (first
    | assumption | (intro x; refine At.cut x ?_ ?_; rotate_left; intro _; clear_value x; rotate_left; unfold x) | intro _ | lift_lets
    | apply At.ite | apply At.next | apply At.some | exact At.none | dsimp -zeta only [At.mkFst, At.mkSnd] | apply At.foldl
    | apply At.getD | apply At.fst | apply At.snd
    | ((conv => enter [3, 20]) <;> apply At.upd <;> first | exact .inl ‹_› | exact .inr rfl | skip)
    | ((conv => enter [3, 20]) <;> apply At.updCore) | split | exact At.ofMkFst ‹_› | exact At.ofMkSnd ‹_›
    | refine At.ofNext (by assumption) ?_ | refine At.ofFst (by assumption) ?_ | refine At.ofSnd (by assumption) ?_
    | refine At.ofOpt (by assumption) ?_ | refine At.ofOptSnd (by assumption) ?_ | refine At.ofOptFst (by assumption) ?_
    | refine At.ofOptSnd2 (by assumption) ?_ | apply At.mapAny | dsimp +zetaDelta only)

theorem State.retireGathers_keeps {P : Part → Prop} {s₀ s : State} (tier_ : P .tier) (half : Nat) (q : Nat) (y3 : Nat) (hs : At (Keeps P
    s₀) It s) : At (Keeps P s₀) It (State.retireGathers s half q y3) := by
  induction y3 generalizing s with
  | zero =>
    unfold State.retireGathers
    with_reducible repeat' (first
      | assumption | (intro x; refine At.cut x ?_ ?_; rotate_left; intro _; clear_value x; rotate_left; unfold x) | intro _ | lift_lets
      | apply State.setQueue_keeps | apply State.admitWaiting_keeps | apply At.ite | apply At.next | apply At.some | exact At.none
      | dsimp -zeta only [At.mkFst, At.mkSnd] | apply At.foldl | apply At.getD | apply At.fst | apply At.snd
      | ((conv => enter [3, 20]) <;> apply At.upd <;> first | exact .inl ‹_› | exact .inr rfl | skip)
      | ((conv => enter [3, 20]) <;> apply At.updCore) | split | exact At.ofMkFst ‹_› | exact At.ofMkSnd ‹_›
      | refine At.ofNext (by assumption) ?_ | refine At.ofFst (by assumption) ?_ | refine At.ofSnd (by assumption) ?_
      | refine At.ofOpt (by assumption) ?_ | refine At.ofOptSnd (by assumption) ?_ | refine At.ofOptFst (by assumption) ?_
      | refine At.ofOptSnd2 (by assumption) ?_ | apply At.mapAny | dsimp +zetaDelta only)
  | succ n ih =>
    unfold State.retireGathers
    with_reducible repeat' (first
      | assumption | (intro x; refine At.cut x ?_ ?_; rotate_left; intro _; clear_value x; rotate_left; unfold x) | intro _ | lift_lets
      | apply State.setQueue_keeps | apply State.admitWaiting_keeps | apply ih | apply At.ite | apply At.next | apply At.some
      | exact At.none | dsimp -zeta only [At.mkFst, At.mkSnd] | apply At.foldl | apply At.getD | apply At.fst | apply At.snd
      | ((conv => enter [3, 20]) <;> apply At.upd <;> first | exact .inl ‹_› | exact .inr rfl | skip)
      | ((conv => enter [3, 20]) <;> apply At.updCore) | split | exact At.ofMkFst ‹_› | exact At.ofMkSnd ‹_›
      | refine At.ofNext (by assumption) ?_ | refine At.ofFst (by assumption) ?_ | refine At.ofSnd (by assumption) ?_
      | refine At.ofOpt (by assumption) ?_ | refine At.ofOptSnd (by assumption) ?_ | refine At.ofOptFst (by assumption) ?_
      | refine At.ofOptSnd2 (by assumption) ?_ | apply At.mapAny | dsimp +zetaDelta only)

theorem State.landKind_keeps {P : Part → Prop} {s₀ s : State} (dict_ : P .dict) (fb_ : P .fb) (stn_ : P .stn) (ses_ : P .ses) (tier_ : P
    .tier) (trv_ : P .trv) (core_ : P .core) (srch_ : P .srch) (free_ : P .free) (half : Nat) (q : Nat) (x : QDesc) (r : TileRead) (hs : At
    (Keeps P s₀) It s) : At (Keeps P s₀) (Fst It) (State.landKind s half q x r) := by
  unfold State.landKind
  with_reducible repeat' (first
    | assumption | (intro x; refine At.cut x ?_ ?_; rotate_left; intro _; clear_value x; rotate_left; unfold x) | intro _ | lift_lets
    | apply State.carryTile_keeps | apply State.landBlock_keeps | apply State.landGather_keeps | apply At.ite | apply At.next
    | apply At.some | exact At.none | dsimp -zeta only [At.mkFst, At.mkSnd] | apply At.foldl | apply At.getD | apply At.fst | apply At.snd
    | ((conv => enter [3, 20]) <;> apply At.upd <;> first | exact .inl ‹_› | exact .inr rfl | skip)
    | ((conv => enter [3, 20]) <;> apply At.updCore) | split | exact At.ofMkFst ‹_› | exact At.ofMkSnd ‹_›
    | refine At.ofNext (by assumption) ?_ | refine At.ofFst (by assumption) ?_ | refine At.ofSnd (by assumption) ?_
    | refine At.ofOpt (by assumption) ?_ | refine At.ofOptSnd (by assumption) ?_ | refine At.ofOptFst (by assumption) ?_
    | refine At.ofOptSnd2 (by assumption) ?_ | apply At.mapAny | dsimp +zetaDelta only)

theorem State.landOne_keeps {P : Part → Prop} {s₀ s : State} (dict_ : P .dict) (fb_ : P .fb) (stn_ : P .stn) (ses_ : P .ses) (tier_ : P
    .tier) (trv_ : P .trv) (core_ : P .core) (srch_ : P .srch) (free_ : P .free) (half : Nat) (q : Nat) (n : Nat) (r : TileRead) (hs : At
    (Keeps P s₀) It s) : At (Keeps P s₀) It (State.landOne s half q n r) := by
  unfold State.landOne
  with_reducible repeat' (first
    | assumption | (intro x; refine At.cut x ?_ ?_; rotate_left; intro _; clear_value x; rotate_left; unfold x) | intro _ | lift_lets
    | apply State.setQueue_keeps | apply State.gatherMet_keeps | apply State.retireGathers_keeps | apply State.landKind_keeps
    | apply At.ite | apply At.next | apply At.some | exact At.none | dsimp -zeta only [At.mkFst, At.mkSnd] | apply At.foldl
    | apply At.getD | apply At.fst | apply At.snd
    | ((conv => enter [3, 20]) <;> apply At.upd <;> first | exact .inl ‹_› | exact .inr rfl | skip)
    | ((conv => enter [3, 20]) <;> apply At.updCore) | split | exact At.ofMkFst ‹_› | exact At.ofMkSnd ‹_›
    | refine At.ofNext (by assumption) ?_ | refine At.ofFst (by assumption) ?_ | refine At.ofSnd (by assumption) ?_
    | refine At.ofOpt (by assumption) ?_ | refine At.ofOptSnd (by assumption) ?_ | refine At.ofOptFst (by assumption) ?_
    | refine At.ofOptSnd2 (by assumption) ?_ | apply At.mapAny | dsimp +zetaDelta only)

theorem State.landAll_keeps {P : Part → Prop} {s₀ s : State} (dict_ : P .dict) (fb_ : P .fb) (stn_ : P .stn) (ses_ : P .ses) (tier_ : P
    .tier) (shape_ : P .shape) (trv_ : P .trv) (core_ : P .core) (srch_ : P .srch) (free_ : P .free) (half : Nat) (q : Nat) (n : Nat) (y4 :
    Nat) (y5 : List TileRead) (hs : At (Keeps P s₀) It s) : At (Keeps P s₀) It (State.landAll s half q n y4 y5) := by
  induction y4 generalizing s y5 with
  | zero =>
    unfold State.landAll
    with_reducible repeat' (first
      | assumption | (intro x; refine At.cut x ?_ ?_; rotate_left; intro _; clear_value x; rotate_left; unfold x) | intro _ | lift_lets
      | apply State.startTile_keeps | apply State.landOne_keeps | apply At.ite | apply At.next | apply At.some | exact At.none
      | dsimp -zeta only [At.mkFst, At.mkSnd] | apply At.foldl | apply At.getD | apply At.fst | apply At.snd
      | ((conv => enter [3, 20]) <;> apply At.upd <;> first | exact .inl ‹_› | exact .inr rfl | skip)
      | ((conv => enter [3, 20]) <;> apply At.updCore) | split | exact At.ofMkFst ‹_› | exact At.ofMkSnd ‹_›
      | refine At.ofNext (by assumption) ?_ | refine At.ofFst (by assumption) ?_ | refine At.ofSnd (by assumption) ?_
      | refine At.ofOpt (by assumption) ?_ | refine At.ofOptSnd (by assumption) ?_ | refine At.ofOptFst (by assumption) ?_
      | refine At.ofOptSnd2 (by assumption) ?_ | apply At.mapAny | dsimp +zetaDelta only)
  | succ n ih =>
    unfold State.landAll
    with_reducible repeat' (first
      | assumption | (intro x; refine At.cut x ?_ ?_; rotate_left; intro _; clear_value x; rotate_left; unfold x) | intro _ | lift_lets
      | apply State.startTile_keeps | apply State.landOne_keeps | apply ih | apply At.ite | apply At.next | apply At.some | exact At.none
      | dsimp -zeta only [At.mkFst, At.mkSnd] | apply At.foldl | apply At.getD | apply At.fst | apply At.snd
      | ((conv => enter [3, 20]) <;> apply At.upd <;> first | exact .inl ‹_› | exact .inr rfl | skip)
      | ((conv => enter [3, 20]) <;> apply At.updCore) | split | exact At.ofMkFst ‹_› | exact At.ofMkSnd ‹_›
      | refine At.ofNext (by assumption) ?_ | refine At.ofFst (by assumption) ?_ | refine At.ofSnd (by assumption) ?_
      | refine At.ofOpt (by assumption) ?_ | refine At.ofOptSnd (by assumption) ?_ | refine At.ofOptFst (by assumption) ?_
      | refine At.ofOptSnd2 (by assumption) ?_ | apply At.mapAny | dsimp +zetaDelta only)

theorem State.runJob_keeps {P : Part → Prop} {s₀ s : State} (dict_ : P .dict) (fb_ : P .fb) (stn_ : P .stn) (ses_ : P .ses) (tier_ : P
    .tier) (shape_ : P .shape) (trv_ : P .trv) (core_ : P .core) (srch_ : P .srch) (free_ : P .free) (half : Nat) (q : Nat) (d : MoveDesc)
    (g : Option Gathered) (reads : List TileRead) (hs : At (Keeps P s₀) It s) : At (Keeps P s₀) It (State.runJob s half q d g reads) := by
  unfold State.runJob
  with_reducible repeat' (first
    | assumption | (intro x; refine At.cut x ?_ ?_; rotate_left; intro _; clear_value x; rotate_left; unfold x) | intro _ | lift_lets
    | apply State.postMove_keeps | apply State.landAll_keeps | apply At.ite | apply At.next | apply At.some | exact At.none
    | dsimp -zeta only [At.mkFst, At.mkSnd] | apply At.foldl | apply At.getD | apply At.fst | apply At.snd
    | ((conv => enter [3, 20]) <;> apply At.upd <;> first | exact .inl ‹_› | exact .inr rfl | skip)
    | ((conv => enter [3, 20]) <;> apply At.updCore) | split | exact At.ofMkFst ‹_› | exact At.ofMkSnd ‹_›
    | refine At.ofNext (by assumption) ?_ | refine At.ofFst (by assumption) ?_ | refine At.ofSnd (by assumption) ?_
    | refine At.ofOpt (by assumption) ?_ | refine At.ofOptSnd (by assumption) ?_ | refine At.ofOptFst (by assumption) ?_
    | refine At.ofOptSnd2 (by assumption) ?_ | apply At.mapAny | dsimp +zetaDelta only)

theorem State.runMove_keeps {P : Part → Prop} {s₀ s : State} (dict_ : P .dict) (fb_ : P .fb) (stn_ : P .stn) (ses_ : P .ses) (tier_ : P
    .tier) (shape_ : P .shape) (trv_ : P .trv) (core_ : P .core) (srch_ : P .srch) (free_ : P .free) (half : Nat) (q : Nat) (d : MoveDesc)
    (reads : List TileRead) (hs : At (Keeps P s₀) It s) : At (Keeps P s₀) It (State.runMove s half q d reads) := by
  unfold State.runMove
  with_reducible repeat' (first
    | assumption | (intro x; refine At.cut x ?_ ?_; rotate_left; intro _; clear_value x; rotate_left; unfold x) | intro _ | lift_lets
    | apply State.runJob_keeps | apply At.ite | apply At.next | apply At.some | exact At.none | dsimp -zeta only [At.mkFst, At.mkSnd]
    | apply At.foldl | apply At.getD | apply At.fst | apply At.snd
    | ((conv => enter [3, 20]) <;> apply At.upd <;> first | exact .inl ‹_› | exact .inr rfl | skip)
    | ((conv => enter [3, 20]) <;> apply At.updCore) | split | exact At.ofMkFst ‹_› | exact At.ofMkSnd ‹_›
    | refine At.ofNext (by assumption) ?_ | refine At.ofFst (by assumption) ?_ | refine At.ofSnd (by assumption) ?_
    | refine At.ofOpt (by assumption) ?_ | refine At.ofOptSnd (by assumption) ?_ | refine At.ofOptFst (by assumption) ?_
    | refine At.ofOptSnd2 (by assumption) ?_ | apply At.mapAny | dsimp +zetaDelta only)

theorem State.dropStreams_keeps {P : Part → Prop} {s₀ s : State} (tier_ : P .tier) (hs : At (Keeps P s₀) It s) : At (Keeps P s₀) It
    (State.dropStreams s) := by
  unfold State.dropStreams
  with_reducible repeat' (first
    | assumption | (intro x; refine At.cut x ?_ ?_; rotate_left; intro _; clear_value x; rotate_left; unfold x) | intro _ | lift_lets
    | apply State.setEng_keeps | apply At.ite | apply At.next | apply At.some | exact At.none | dsimp -zeta only [At.mkFst, At.mkSnd]
    | apply At.foldl | apply At.getD | apply At.fst | apply At.snd
    | ((conv => enter [3, 20]) <;> apply At.upd <;> first | exact .inl ‹_› | exact .inr rfl | skip)
    | ((conv => enter [3, 20]) <;> apply At.updCore) | split | exact At.ofMkFst ‹_› | exact At.ofMkSnd ‹_›
    | refine At.ofNext (by assumption) ?_ | refine At.ofFst (by assumption) ?_ | refine At.ofSnd (by assumption) ?_
    | refine At.ofOpt (by assumption) ?_ | refine At.ofOptSnd (by assumption) ?_ | refine At.ofOptFst (by assumption) ?_
    | refine At.ofOptSnd2 (by assumption) ?_ | apply At.mapAny | dsimp +zetaDelta only)

theorem State.logMove_keeps {P : Part → Prop} {s₀ s : State} (dict_ : P .dict) (fb_ : P .fb) (tier_ : P .tier) (half : Nat) (m : MoveDone)
    (hs : At (Keeps P s₀) It s) : At (Keeps P s₀) It (State.logMove s half m) := by
  unfold State.logMove
  with_reducible repeat' (first
    | assumption | (intro x; refine At.cut x ?_ ?_; rotate_left; intro _; clear_value x; rotate_left; unfold x) | intro _ | lift_lets
    | apply State.report_keeps | apply State.setEng_keeps | apply At.ite | apply At.next | apply At.some | exact At.none
    | dsimp -zeta only [At.mkFst, At.mkSnd] | apply At.foldl | apply At.getD | apply At.fst | apply At.snd
    | ((conv => enter [3, 20]) <;> apply At.upd <;> first | exact .inl ‹_› | exact .inr rfl | skip)
    | ((conv => enter [3, 20]) <;> apply At.updCore) | split | exact At.ofMkFst ‹_› | exact At.ofMkSnd ‹_›
    | refine At.ofNext (by assumption) ?_ | refine At.ofFst (by assumption) ?_ | refine At.ofSnd (by assumption) ?_
    | refine At.ofOpt (by assumption) ?_ | refine At.ofOptSnd (by assumption) ?_ | refine At.ofOptFst (by assumption) ?_
    | refine At.ofOptSnd2 (by assumption) ?_ | apply At.mapAny | dsimp +zetaDelta only)

/-! ### Machine/SyncOps.lean -/

theorem State.setSync_keeps {P : Part → Prop} {s₀ s : State} (sync_ : P .sync) (n : Nat) (o : SyncObj) (hs : At (Keeps P s₀) It s) : At
    (Keeps P s₀) It (State.setSync s n o) := by
  unfold State.setSync
  with_reducible repeat' (first
    | assumption | (intro x; refine At.cut x ?_ ?_; rotate_left; intro _; clear_value x; rotate_left; unfold x) | intro _ | lift_lets
    | apply At.ite | apply At.next | apply At.some | exact At.none | dsimp -zeta only [At.mkFst, At.mkSnd] | apply At.foldl
    | apply At.getD | apply At.fst | apply At.snd
    | ((conv => enter [3, 20]) <;> apply At.upd <;> first | exact .inl ‹_› | exact .inr rfl | skip)
    | ((conv => enter [3, 20]) <;> apply At.updCore) | split | exact At.ofMkFst ‹_› | exact At.ofMkSnd ‹_›
    | refine At.ofNext (by assumption) ?_ | refine At.ofFst (by assumption) ?_ | refine At.ofSnd (by assumption) ?_
    | refine At.ofOpt (by assumption) ?_ | refine At.ofOptSnd (by assumption) ?_ | refine At.ofOptFst (by assumption) ?_
    | refine At.ofOptSnd2 (by assumption) ?_ | apply At.mapAny | dsimp +zetaDelta only)

theorem State.syncError_keeps {P : Part → Prop} {s₀ s : State} (dict_ : P .dict) (fb_ : P .fb) (n : Nat) (cause : Nat) (kind : Nat) (waiter
    : Nat) (name : Nat) (sid : Nat) (expected : Nat) (hs : At (Keeps P s₀) It s) : At (Keeps P s₀) It (State.syncError s n cause kind
    waiter name sid expected) := by
  unfold State.syncError
  with_reducible repeat' (first
    | assumption | (intro x; refine At.cut x ?_ ?_; rotate_left; intro _; clear_value x; rotate_left; unfold x) | intro _ | lift_lets
    | apply State.reportBody_keeps | apply At.ite | apply At.next | apply At.some | exact At.none | dsimp -zeta only [At.mkFst, At.mkSnd]
    | apply At.foldl | apply At.getD | apply At.fst | apply At.snd
    | ((conv => enter [3, 20]) <;> apply At.upd <;> first | exact .inl ‹_› | exact .inr rfl | skip)
    | ((conv => enter [3, 20]) <;> apply At.updCore) | split | exact At.ofMkFst ‹_› | exact At.ofMkSnd ‹_›
    | refine At.ofNext (by assumption) ?_ | refine At.ofFst (by assumption) ?_ | refine At.ofSnd (by assumption) ?_
    | refine At.ofOpt (by assumption) ?_ | refine At.ofOptSnd (by assumption) ?_ | refine At.ofOptFst (by assumption) ?_
    | refine At.ofOptSnd2 (by assumption) ?_ | apply At.mapAny | dsimp +zetaDelta only)

theorem State.putOutcome_keeps {P : Part → Prop} {s₀ s : State} (core_ : P .core) (y1 : Nat) (reg : Nat) (out : Nat) (hs : At (Keeps P s₀)
    It s) : At (Keeps P s₀) It (State.putOutcome s y1 reg out) := by
  unfold State.putOutcome
  with_reducible repeat' (first
    | assumption | (intro x; refine At.cut x ?_ ?_; rotate_left; intro _; clear_value x; rotate_left; unfold x) | intro _ | lift_lets
    | apply State.setCore_keeps | exact wf_nil | apply Core.settle_store | apply Core.write_store | apply wf_foldl_bputs
    | apply Core.result_store | apply Core.flags_store | apply Core.moved_store | apply Core.lanewise_store | exact coreInit_store
    | apply id_store | apply State.coreAt_store | apply State.clusterStore_wf | apply wf_bputs | apply wf_filter | apply wf_storeTile
    | apply State.issued_store | apply State.cameTo_stores | apply At.ite | apply At.next | apply At.some | exact At.none
    | dsimp -zeta only [At.mkFst, At.mkSnd] | apply At.foldl | apply At.getD | apply At.fst | apply At.snd
    | ((conv => enter [3, 20]) <;> apply At.upd <;> first | exact .inl ‹_› | exact .inr rfl | skip)
    | ((conv => enter [3, 20]) <;> apply At.updCore) | split | exact At.ofMkFst ‹_› | exact At.ofMkSnd ‹_›
    | refine At.ofNext (by assumption) ?_ | refine At.ofFst (by assumption) ?_ | refine At.ofSnd (by assumption) ?_
    | refine At.ofOpt (by assumption) ?_ | refine At.ofOptSnd (by assumption) ?_ | refine At.ofOptFst (by assumption) ?_
    | refine At.ofOptSnd2 (by assumption) ?_ | apply At.mapAny | dsimp +zetaDelta only)

theorem State.wakeWaits_keeps {P : Part → Prop} {s₀ s : State} (dict_ : P .dict) (fb_ : P .fb) (core_ : P .core) (sync_ : P .sync) (n :
    Nat) (hs : At (Keeps P s₀) It s) : At (Keeps P s₀) It (State.wakeWaits s n) := by
  unfold State.wakeWaits
  with_reducible repeat' (first
    | assumption | (intro x; refine At.cut x ?_ ?_; rotate_left; intro _; clear_value x; rotate_left; unfold x) | intro _ | lift_lets
    | apply State.syncError_keeps | apply State.putOutcome_keeps | apply At.ite | apply At.next | apply At.some | exact At.none
    | dsimp -zeta only [At.mkFst, At.mkSnd] | apply At.foldl | apply At.getD | apply At.fst | apply At.snd
    | ((conv => enter [3, 20]) <;> apply At.upd <;> first | exact .inl ‹_› | exact .inr rfl | skip)
    | ((conv => enter [3, 20]) <;> apply At.updCore) | split | exact At.ofMkFst ‹_› | exact At.ofMkSnd ‹_›
    | refine At.ofNext (by assumption) ?_ | refine At.ofFst (by assumption) ?_ | refine At.ofSnd (by assumption) ?_
    | refine At.ofOpt (by assumption) ?_ | refine At.ofOptSnd (by assumption) ?_ | refine At.ofOptFst (by assumption) ?_
    | refine At.ofOptSnd2 (by assumption) ?_ | apply At.mapAny | dsimp +zetaDelta only)

theorem State.syncCycleFor_keeps {P : Part → Prop} {s₀ s : State} (dict_ : P .dict) (fb_ : P .fb) (core_ : P .core) (sync_ : P .sync) (n :
    Nat) (c : Nat) (op : SyncOp) (operand : Nat) (who : Nat × Nat × Nat × Nat) (hs : At (Keeps P s₀) It s) : At (Keeps P s₀) It
    (State.syncCycleFor s n c op operand who) := by
  unfold State.syncCycleFor
  with_reducible repeat' (first
    | assumption | (intro x; refine At.cut x ?_ ?_; rotate_left; intro _; clear_value x; rotate_left; unfold x) | intro _ | lift_lets
    | apply State.addObj_keeps | apply State.bump_keeps | apply State.setSync_keeps | apply State.syncError_keeps
    | apply State.wakeWaits_keeps | apply At.ite | apply At.next | apply At.some | exact At.none | dsimp -zeta only [At.mkFst, At.mkSnd]
    | apply At.foldl | apply At.getD | apply At.fst | apply At.snd
    | ((conv => enter [3, 20]) <;> apply At.upd <;> first | exact .inl ‹_› | exact .inr rfl | skip)
    | ((conv => enter [3, 20]) <;> apply At.updCore) | split | exact At.ofMkFst ‹_› | exact At.ofMkSnd ‹_›
    | refine At.ofNext (by assumption) ?_ | refine At.ofFst (by assumption) ?_ | refine At.ofSnd (by assumption) ?_
    | refine At.ofOpt (by assumption) ?_ | refine At.ofOptSnd (by assumption) ?_ | refine At.ofOptFst (by assumption) ?_
    | refine At.ofOptSnd2 (by assumption) ?_ | apply At.mapAny | dsimp +zetaDelta only)

theorem State.syncCycle_keeps {P : Part → Prop} {s₀ s : State} (dict_ : P .dict) (fb_ : P .fb) (core_ : P .core) (sync_ : P .sync) (n :
    Nat) (c : Nat) (op : SyncOp) (operand : Nat) (who : Nat) (hs : At (Keeps P s₀) It s) : At (Keeps P s₀) It (State.syncCycle s n c op
    operand who) := by
  unfold State.syncCycle
  with_reducible repeat' (first
    | assumption | (intro x; refine At.cut x ?_ ?_; rotate_left; intro _; clear_value x; rotate_left; unfold x) | intro _ | lift_lets
    | apply State.syncCycleFor_keeps | apply At.ite | apply At.next | apply At.some | exact At.none
    | dsimp -zeta only [At.mkFst, At.mkSnd] | apply At.foldl | apply At.getD | apply At.fst | apply At.snd
    | ((conv => enter [3, 20]) <;> apply At.upd <;> first | exact .inl ‹_› | exact .inr rfl | skip)
    | ((conv => enter [3, 20]) <;> apply At.updCore) | split | exact At.ofMkFst ‹_› | exact At.ofMkSnd ‹_›
    | refine At.ofNext (by assumption) ?_ | refine At.ofFst (by assumption) ?_ | refine At.ofSnd (by assumption) ?_
    | refine At.ofOpt (by assumption) ?_ | refine At.ofOptSnd (by assumption) ?_ | refine At.ofOptFst (by assumption) ?_
    | refine At.ofOptSnd2 (by assumption) ?_ | apply At.mapAny | dsimp +zetaDelta only)

theorem State.syncSignal_keeps {P : Part → Prop} {s₀ s : State} (dict_ : P .dict) (fb_ : P .fb) (core_ : P .core) (sync_ : P .sync) (n :
    Nat) (hs : At (Keeps P s₀) It s) : At (Keeps P s₀) It (State.syncSignal s n) := by
  unfold State.syncSignal
  with_reducible repeat' (first
    | assumption | (intro x; refine At.cut x ?_ ?_; rotate_left; intro _; clear_value x; rotate_left; unfold x) | intro _ | lift_lets
    | apply State.syncCycle_keeps | apply At.ite | apply At.next | apply At.some | exact At.none | dsimp -zeta only [At.mkFst, At.mkSnd]
    | apply At.foldl | apply At.getD | apply At.fst | apply At.snd
    | ((conv => enter [3, 20]) <;> apply At.upd <;> first | exact .inl ‹_› | exact .inr rfl | skip)
    | ((conv => enter [3, 20]) <;> apply At.updCore) | split | exact At.ofMkFst ‹_› | exact At.ofMkSnd ‹_›
    | refine At.ofNext (by assumption) ?_ | refine At.ofFst (by assumption) ?_ | refine At.ofSnd (by assumption) ?_
    | refine At.ofOpt (by assumption) ?_ | refine At.ofOptSnd (by assumption) ?_ | refine At.ofOptFst (by assumption) ?_
    | refine At.ofOptSnd2 (by assumption) ?_ | apply At.mapAny | dsimp +zetaDelta only)

theorem State.syncDefine_keeps {P : Part → Prop} {s₀ s : State} (sync_ : P .sync) (st : Nat) (name : Nat) (type : Nat) (half : Nat)
    (operand : Nat) (hs : At (Keeps P s₀) It s) : At (Keeps P s₀) (Fst It) (State.syncDefine s st name type half operand) := by
  unfold State.syncDefine
  with_reducible repeat' (first
    | assumption | (intro x; refine At.cut x ?_ ?_; rotate_left; intro _; clear_value x; rotate_left; unfold x) | intro _ | lift_lets
    | apply State.setSync_keeps | apply At.ite | apply At.next | apply At.some | exact At.none | dsimp -zeta only [At.mkFst, At.mkSnd]
    | apply At.foldl | apply At.getD | apply At.fst | apply At.snd
    | ((conv => enter [3, 20]) <;> apply At.upd <;> first | exact .inl ‹_› | exact .inr rfl | skip)
    | ((conv => enter [3, 20]) <;> apply At.updCore) | split | exact At.ofMkFst ‹_› | exact At.ofMkSnd ‹_›
    | refine At.ofNext (by assumption) ?_ | refine At.ofFst (by assumption) ?_ | refine At.ofSnd (by assumption) ?_
    | refine At.ofOpt (by assumption) ?_ | refine At.ofOptSnd (by assumption) ?_ | refine At.ofOptFst (by assumption) ?_
    | refine At.ofOptSnd2 (by assumption) ?_ | apply At.mapAny | dsimp +zetaDelta only)

theorem State.syncDelete_keeps {P : Part → Prop} {s₀ s : State} (sync_ : P .sync) (st : Nat) (name : Nat) (hs : At (Keeps P s₀) It s) : At
    (Keeps P s₀) (Fst It) (State.syncDelete s st name) := by
  unfold State.syncDelete
  with_reducible repeat' (first
    | assumption | (intro x; refine At.cut x ?_ ?_; rotate_left; intro _; clear_value x; rotate_left; unfold x) | intro _ | lift_lets
    | apply State.setSync_keeps | apply At.ite | apply At.next | apply At.some | exact At.none | dsimp -zeta only [At.mkFst, At.mkSnd]
    | apply At.foldl | apply At.getD | apply At.fst | apply At.snd
    | ((conv => enter [3, 20]) <;> apply At.upd <;> first | exact .inl ‹_› | exact .inr rfl | skip)
    | ((conv => enter [3, 20]) <;> apply At.updCore) | split | exact At.ofMkFst ‹_› | exact At.ofMkSnd ‹_›
    | refine At.ofNext (by assumption) ?_ | refine At.ofFst (by assumption) ?_ | refine At.ofSnd (by assumption) ?_
    | refine At.ofOpt (by assumption) ?_ | refine At.ofOptSnd (by assumption) ?_ | refine At.ofOptFst (by assumption) ?_
    | refine At.ofOptSnd2 (by assumption) ?_ | apply At.mapAny | dsimp +zetaDelta only)

theorem State.syncStationOp_keeps {P : Part → Prop} {s₀ s : State} (dict_ : P .dict) (fb_ : P .fb) (core_ : P .core) (sync_ : P .sync) (st
    : Nat) (name : Nat) (op : SyncOp) (operand : Nat) (hs : At (Keeps P s₀) It s) : At (Keeps P s₀) (Fst It) (State.syncStationOp s st name
    op operand) := by
  unfold State.syncStationOp
  with_reducible repeat' (first
    | assumption | (intro x; refine At.cut x ?_ ?_; rotate_left; intro _; clear_value x; rotate_left; unfold x) | intro _ | lift_lets
    | apply State.syncCycleFor_keeps | apply At.ite | apply At.next | apply At.some | exact At.none
    | dsimp -zeta only [At.mkFst, At.mkSnd] | apply At.foldl | apply At.getD | apply At.fst | apply At.snd
    | ((conv => enter [3, 20]) <;> apply At.upd <;> first | exact .inl ‹_› | exact .inr rfl | skip)
    | ((conv => enter [3, 20]) <;> apply At.updCore) | split | exact At.ofMkFst ‹_› | exact At.ofMkSnd ‹_›
    | refine At.ofNext (by assumption) ?_ | refine At.ofFst (by assumption) ?_ | refine At.ofSnd (by assumption) ?_
    | refine At.ofOpt (by assumption) ?_ | refine At.ofOptSnd (by assumption) ?_ | refine At.ofOptFst (by assumption) ?_
    | refine At.ofOptSnd2 (by assumption) ?_ | apply At.mapAny | dsimp +zetaDelta only)

theorem State.notifyAll_keeps {P : Part → Prop} {s₀ s : State} (dict_ : P .dict) (fb_ : P .fb) (stn_ : P .stn) (ses_ : P .ses) (core_ : P
    .core) (sync_ : P .sync) (i : Nat) (suppressed : Bool) (hs : At (Keeps P s₀) It s) : At (Keeps P s₀) It (State.notifyAll s i
    suppressed) := by
  unfold State.notifyAll
  with_reducible repeat' (first
    | assumption | (intro x; refine At.cut x ?_ ?_; rotate_left; intro _; clear_value x; rotate_left; unfold x) | intro _ | lift_lets
    | apply State.bump_keeps | apply State.modSess_keeps | apply State.sevent_keeps | apply State.syncCycleFor_keeps | apply At.ite
    | apply At.next | apply At.some | exact At.none | dsimp -zeta only [At.mkFst, At.mkSnd] | apply At.foldl | apply At.getD
    | apply At.fst | apply At.snd | ((conv => enter [3, 20]) <;> apply At.upd <;> first | exact .inl ‹_› | exact .inr rfl | skip)
    | ((conv => enter [3, 20]) <;> apply At.updCore) | split | exact At.ofMkFst ‹_› | exact At.ofMkSnd ‹_›
    | refine At.ofNext (by assumption) ?_ | refine At.ofFst (by assumption) ?_ | refine At.ofSnd (by assumption) ?_
    | refine At.ofOpt (by assumption) ?_ | refine At.ofOptSnd (by assumption) ?_ | refine At.ofOptFst (by assumption) ?_
    | refine At.ofOptSnd2 (by assumption) ?_ | apply At.mapAny | dsimp +zetaDelta only)

/-! ### Machine/Security.lean -/

theorem State.setKeySlot_keeps {P : Part → Prop} {s₀ s : State} (mgmt_ : P .mgmt) (k : Nat) (x : KeySlot) (hs : At (Keeps P s₀) It s) : At
    (Keeps P s₀) It (State.setKeySlot s k x) := by
  unfold State.setKeySlot
  with_reducible repeat' (first
    | assumption | (intro x; refine At.cut x ?_ ?_; rotate_left; intro _; clear_value x; rotate_left; unfold x) | intro _ | lift_lets
    | apply At.ite | apply At.next | apply At.some | exact At.none | dsimp -zeta only [At.mkFst, At.mkSnd] | apply At.foldl
    | apply At.getD | apply At.fst | apply At.snd
    | ((conv => enter [3, 20]) <;> apply At.upd <;> first | exact .inl ‹_› | exact .inr rfl | skip)
    | ((conv => enter [3, 20]) <;> apply At.updCore) | split | exact At.ofMkFst ‹_› | exact At.ofMkSnd ‹_›
    | refine At.ofNext (by assumption) ?_ | refine At.ofFst (by assumption) ?_ | refine At.ofSnd (by assumption) ?_
    | refine At.ofOpt (by assumption) ?_ | refine At.ofOptSnd (by assumption) ?_ | refine At.ofOptFst (by assumption) ?_
    | refine At.ofOptSnd2 (by assumption) ?_ | apply At.mapAny | dsimp +zetaDelta only)

theorem State.capLog_keeps {P : Part → Prop} {s₀ s : State} (dict_ : P .dict) (mgmt_ : P .mgmt) (st : Nat) (source : Nat) (arg : Nat) (o :
    Octets) (hs : At (Keeps P s₀) It s) : At (Keeps P s₀) It (State.capLog s st source arg o) := by
  unfold State.capLog
  with_reducible repeat' (first
    | assumption | (intro x; refine At.cut x ?_ ?_; rotate_left; intro _; clear_value x; rotate_left; unfold x) | intro _ | lift_lets
    | apply State.mpLogAdd_keeps | apply State.measure_keeps | apply At.ite | apply At.next | apply At.some | exact At.none
    | dsimp -zeta only [At.mkFst, At.mkSnd] | apply At.foldl | apply At.getD | apply At.fst | apply At.snd
    | ((conv => enter [3, 20]) <;> apply At.upd <;> first | exact .inl ‹_› | exact .inr rfl | skip)
    | ((conv => enter [3, 20]) <;> apply At.updCore) | split | exact At.ofMkFst ‹_› | exact At.ofMkSnd ‹_›
    | refine At.ofNext (by assumption) ?_ | refine At.ofFst (by assumption) ?_ | refine At.ofSnd (by assumption) ?_
    | refine At.ofOpt (by assumption) ?_ | refine At.ofOptSnd (by assumption) ?_ | refine At.ofOptFst (by assumption) ?_
    | refine At.ofOptSnd2 (by assumption) ?_ | apply At.mapAny | dsimp +zetaDelta only)

theorem State.capStage_keeps {P : Part → Prop} {s₀ s : State} (dict_ : P .dict) (mgmt_ : P .mgmt) (free_ : P .free) (w : Writer) (ss : Nat)
    (part : Octets) (hs : At (Keeps P s₀) It s) : At (Keeps P s₀) It (State.capStage s w ss part) := by
  unfold State.capStage
  with_reducible repeat' (first
    | assumption | (intro x; refine At.cut x ?_ ?_; rotate_left; intro _; clear_value x; rotate_left; unfold x) | intro _ | lift_lets
    | apply State.freshNonce_keeps | apply State.setObj_keeps | apply State.setStr_keeps | apply State.capLog_keeps | apply At.ite
    | apply At.next | apply At.some | exact At.none | dsimp -zeta only [At.mkFst, At.mkSnd] | apply At.foldl | apply At.getD
    | apply At.fst | apply At.snd | ((conv => enter [3, 20]) <;> apply At.upd <;> first | exact .inl ‹_› | exact .inr rfl | skip)
    | ((conv => enter [3, 20]) <;> apply At.updCore) | split | exact At.ofMkFst ‹_› | exact At.ofMkSnd ‹_›
    | refine At.ofNext (by assumption) ?_ | refine At.ofFst (by assumption) ?_ | refine At.ofSnd (by assumption) ?_
    | refine At.ofOpt (by assumption) ?_ | refine At.ofOptSnd (by assumption) ?_ | refine At.ofOptFst (by assumption) ?_
    | refine At.ofOptSnd2 (by assumption) ?_ | apply At.mapAny | dsimp +zetaDelta only)

theorem State.keyCommit_keeps {P : Part → Prop} {s₀ s : State} (dict_ : P .dict) (mgmt_ : P .mgmt) (stn_ : P .stn) (w : Writer) (k : Nat)
    (hs : At (Keeps P s₀) It s) : At (Keeps P s₀) (Fst It) (State.keyCommit s w k) := by
  unfold State.keyCommit
  with_reducible repeat' (first
    | assumption | (intro x; refine At.cut x ?_ ?_; rotate_left; intro _; clear_value x; rotate_left; unfold x) | intro _ | lift_lets
    | apply State.setObj_keeps | apply State.setStr_keeps | apply State.tileEvent_keeps | apply State.measure_keeps
    | apply State.setKeySlot_keeps | apply At.ite | apply At.next | apply At.some | exact At.none | dsimp -zeta only [At.mkFst, At.mkSnd]
    | apply At.foldl | apply At.getD | apply At.fst | apply At.snd
    | ((conv => enter [3, 20]) <;> apply At.upd <;> first | exact .inl ‹_› | exact .inr rfl | skip)
    | ((conv => enter [3, 20]) <;> apply At.updCore) | split | exact At.ofMkFst ‹_› | exact At.ofMkSnd ‹_›
    | refine At.ofNext (by assumption) ?_ | refine At.ofFst (by assumption) ?_ | refine At.ofSnd (by assumption) ?_
    | refine At.ofOpt (by assumption) ?_ | refine At.ofOptSnd (by assumption) ?_ | refine At.ofOptFst (by assumption) ?_
    | refine At.ofOptSnd2 (by assumption) ?_ | apply At.mapAny | dsimp +zetaDelta only)

theorem State.keyClear_keeps {P : Part → Prop} {s₀ s : State} (dict_ : P .dict) (mgmt_ : P .mgmt) (stn_ : P .stn) (w : Writer) (k : Nat)
    (hs : At (Keeps P s₀) It s) : At (Keeps P s₀) (Fst It) (State.keyClear s w k) := by
  unfold State.keyClear
  with_reducible repeat' (first
    | assumption | (intro x; refine At.cut x ?_ ?_; rotate_left; intro _; clear_value x; rotate_left; unfold x) | intro _ | lift_lets
    | apply State.setObj_keeps | apply State.setStr_keeps | apply State.tileEvent_keeps | apply State.measure_keeps
    | apply State.setKeySlot_keeps | apply At.ite | apply At.next | apply At.some | exact At.none | dsimp -zeta only [At.mkFst, At.mkSnd]
    | apply At.foldl | apply At.getD | apply At.fst | apply At.snd
    | ((conv => enter [3, 20]) <;> apply At.upd <;> first | exact .inl ‹_› | exact .inr rfl | skip)
    | ((conv => enter [3, 20]) <;> apply At.updCore) | split | exact At.ofMkFst ‹_› | exact At.ofMkSnd ‹_›
    | refine At.ofNext (by assumption) ?_ | refine At.ofFst (by assumption) ?_ | refine At.ofSnd (by assumption) ?_
    | refine At.ofOpt (by assumption) ?_ | refine At.ofOptSnd (by assumption) ?_ | refine At.ofOptFst (by assumption) ?_
    | refine At.ofOptSnd2 (by assumption) ?_ | apply At.mapAny | dsimp +zetaDelta only)

theorem State.keyHalf_keeps {P : Part → Prop} {s₀ s : State} (dict_ : P .dict) (mgmt_ : P .mgmt) (k : Nat) (isHi : Bool) (v : Octets) (hs :
    At (Keeps P s₀) It s) : At (Keeps P s₀) It (State.keyHalf s k isHi v) := by
  unfold State.keyHalf
  with_reducible repeat' (first
    | assumption | (intro x; refine At.cut x ?_ ?_; rotate_left; intro _; clear_value x; rotate_left; unfold x) | intro _ | lift_lets
    | apply State.setObj_keeps | apply State.setKeySlot_keeps | apply At.ite | apply At.next | apply At.some | exact At.none
    | dsimp -zeta only [At.mkFst, At.mkSnd] | apply At.foldl | apply At.getD | apply At.fst | apply At.snd
    | ((conv => enter [3, 20]) <;> apply At.upd <;> first | exact .inl ‹_› | exact .inr rfl | skip)
    | ((conv => enter [3, 20]) <;> apply At.updCore) | split | exact At.ofMkFst ‹_› | exact At.ofMkSnd ‹_›
    | refine At.ofNext (by assumption) ?_ | refine At.ofFst (by assumption) ?_ | refine At.ofSnd (by assumption) ?_
    | refine At.ofOpt (by assumption) ?_ | refine At.ofOptSnd (by assumption) ?_ | refine At.ofOptFst (by assumption) ?_
    | refine At.ofOptSnd2 (by assumption) ?_ | apply At.mapAny | dsimp +zetaDelta only)

theorem State.setFwSlot_keeps {P : Part → Prop} {s₀ s : State} (dict_ : P .dict) (mgmt_ : P .mgmt) (n : Nat) (x : FwSlot) (hs : At (Keeps P
    s₀) It s) : At (Keeps P s₀) It (State.setFwSlot s n x) := by
  unfold State.setFwSlot
  with_reducible repeat' (first
    | assumption | (intro x; refine At.cut x ?_ ?_; rotate_left; intro _; clear_value x; rotate_left; unfold x) | intro _ | lift_lets
    | apply State.setObj_keeps | apply At.ite | apply At.next | apply At.some | exact At.none | dsimp -zeta only [At.mkFst, At.mkSnd]
    | apply At.foldl | apply At.getD | apply At.fst | apply At.snd
    | ((conv => enter [3, 20]) <;> apply At.upd <;> first | exact .inl ‹_› | exact .inr rfl | skip)
    | ((conv => enter [3, 20]) <;> apply At.updCore) | split | exact At.ofMkFst ‹_› | exact At.ofMkSnd ‹_›
    | refine At.ofNext (by assumption) ?_ | refine At.ofFst (by assumption) ?_ | refine At.ofSnd (by assumption) ?_
    | refine At.ofOpt (by assumption) ?_ | refine At.ofOptSnd (by assumption) ?_ | refine At.ofOptFst (by assumption) ?_
    | refine At.ofOptSnd2 (by assumption) ?_ | apply At.mapAny | dsimp +zetaDelta only)

theorem State.fwStage_keeps {P : Part → Prop} {s₀ s : State} (dict_ : P .dict) (mgmt_ : P .mgmt) (src : Nat) (o : Option Octets) (hs : At
    (Keeps P s₀) It s) : At (Keeps P s₀) (Fst It) (State.fwStage s src o) := by
  unfold State.fwStage
  with_reducible repeat' (first
    | assumption | (intro x; refine At.cut x ?_ ?_; rotate_left; intro _; clear_value x; rotate_left; unfold x) | intro _ | lift_lets
    | apply State.setObj_keeps | apply State.mpLogAdd_keeps | apply State.setFwSlot_keeps | apply At.ite | apply At.next | apply At.some
    | exact At.none | dsimp -zeta only [At.mkFst, At.mkSnd] | apply At.foldl | apply At.getD | apply At.fst | apply At.snd
    | ((conv => enter [3, 20]) <;> apply At.upd <;> first | exact .inl ‹_› | exact .inr rfl | skip)
    | ((conv => enter [3, 20]) <;> apply At.updCore) | split | exact At.ofMkFst ‹_› | exact At.ofMkSnd ‹_›
    | refine At.ofNext (by assumption) ?_ | refine At.ofFst (by assumption) ?_ | refine At.ofSnd (by assumption) ?_
    | refine At.ofOpt (by assumption) ?_ | refine At.ofOptSnd (by assumption) ?_ | refine At.ofOptFst (by assumption) ?_
    | refine At.ofOptSnd2 (by assumption) ?_ | apply At.mapAny | dsimp +zetaDelta only)

theorem State.fwChunk_keeps {P : Part → Prop} {s₀ s : State} (dict_ : P .dict) (mgmt_ : P .mgmt) (v : Octets) (hs : At (Keeps P s₀) It s) :
    At (Keeps P s₀) (Fst It) (State.fwChunk s v) := by
  unfold State.fwChunk
  with_reducible repeat' (first
    | assumption | (intro x; refine At.cut x ?_ ?_; rotate_left; intro _; clear_value x; rotate_left; unfold x) | intro _ | lift_lets
    | apply State.setFwSlot_keeps | apply At.ite | apply At.next | apply At.some | exact At.none | dsimp -zeta only [At.mkFst, At.mkSnd]
    | apply At.foldl | apply At.getD | apply At.fst | apply At.snd
    | ((conv => enter [3, 20]) <;> apply At.upd <;> first | exact .inl ‹_› | exact .inr rfl | skip)
    | ((conv => enter [3, 20]) <;> apply At.updCore) | split | exact At.ofMkFst ‹_› | exact At.ofMkSnd ‹_›
    | refine At.ofNext (by assumption) ?_ | refine At.ofFst (by assumption) ?_ | refine At.ofSnd (by assumption) ?_
    | refine At.ofOpt (by assumption) ?_ | refine At.ofOptSnd (by assumption) ?_ | refine At.ofOptFst (by assumption) ?_
    | refine At.ofOptSnd2 (by assumption) ?_ | apply At.mapAny | dsimp +zetaDelta only)

theorem State.fwVerify_keeps {P : Part → Prop} {s₀ s : State} (dict_ : P .dict) (mgmt_ : P .mgmt) (src : Nat) (hs : At (Keeps P s₀) It s) :
    At (Keeps P s₀) (Fst It) (State.fwVerify s src) := by
  unfold State.fwVerify
  with_reducible repeat' (first
    | assumption | (intro x; refine At.cut x ?_ ?_; rotate_left; intro _; clear_value x; rotate_left; unfold x) | intro _ | lift_lets
    | apply State.setObj_keeps | apply State.mpLogAdd_keeps | apply State.setFwSlot_keeps | apply At.ite | apply At.next | apply At.some
    | exact At.none | dsimp -zeta only [At.mkFst, At.mkSnd] | apply At.foldl | apply At.getD | apply At.fst | apply At.snd
    | ((conv => enter [3, 20]) <;> apply At.upd <;> first | exact .inl ‹_› | exact .inr rfl | skip)
    | ((conv => enter [3, 20]) <;> apply At.updCore) | split | exact At.ofMkFst ‹_› | exact At.ofMkSnd ‹_›
    | refine At.ofNext (by assumption) ?_ | refine At.ofFst (by assumption) ?_ | refine At.ofSnd (by assumption) ?_
    | refine At.ofOpt (by assumption) ?_ | refine At.ofOptSnd (by assumption) ?_ | refine At.ofOptFst (by assumption) ?_
    | refine At.ofOptSnd2 (by assumption) ?_ | apply At.mapAny | dsimp +zetaDelta only)

theorem State.fwActivate_keeps {P : Part → Prop} {s₀ s : State} (dict_ : P .dict) (mgmt_ : P .mgmt) (src : Nat) (hs : At (Keeps P s₀) It s)
    : At (Keeps P s₀) (Fst It) (State.fwActivate s src) := by
  unfold State.fwActivate
  with_reducible repeat' (first
    | assumption | (intro x; refine At.cut x ?_ ?_; rotate_left; intro _; clear_value x; rotate_left; unfold x) | intro _ | lift_lets
    | apply State.setObj_keeps | apply State.mpLogAdd_keeps | apply State.setFwSlot_keeps | apply At.ite | apply At.next | apply At.some
    | exact At.none | dsimp -zeta only [At.mkFst, At.mkSnd] | apply At.foldl | apply At.getD | apply At.fst | apply At.snd
    | ((conv => enter [3, 20]) <;> apply At.upd <;> first | exact .inl ‹_› | exact .inr rfl | skip)
    | ((conv => enter [3, 20]) <;> apply At.updCore) | split | exact At.ofMkFst ‹_› | exact At.ofMkSnd ‹_›
    | refine At.ofNext (by assumption) ?_ | refine At.ofFst (by assumption) ?_ | refine At.ofSnd (by assumption) ?_
    | refine At.ofOpt (by assumption) ?_ | refine At.ofOptSnd (by assumption) ?_ | refine At.ofOptFst (by assumption) ?_
    | refine At.ofOptSnd2 (by assumption) ?_ | apply At.mapAny | dsimp +zetaDelta only)

theorem State.fwConfirm_keeps {P : Part → Prop} {s₀ s : State} (dict_ : P .dict) (mgmt_ : P .mgmt) (src : Nat) (hs : At (Keeps P s₀) It s)
    : At (Keeps P s₀) (Fst It) (State.fwConfirm s src) := by
  unfold State.fwConfirm
  with_reducible repeat' (first
    | assumption | (intro x; refine At.cut x ?_ ?_; rotate_left; intro _; clear_value x; rotate_left; unfold x) | intro _ | lift_lets
    | apply State.setObj_keeps | apply State.mpLogAdd_keeps | apply State.setFwSlot_keeps | apply At.ite | apply At.next | apply At.some
    | exact At.none | dsimp -zeta only [At.mkFst, At.mkSnd] | apply At.foldl | apply At.getD | apply At.fst | apply At.snd
    | ((conv => enter [3, 20]) <;> apply At.upd <;> first | exact .inl ‹_› | exact .inr rfl | skip)
    | ((conv => enter [3, 20]) <;> apply At.updCore) | split | exact At.ofMkFst ‹_› | exact At.ofMkSnd ‹_›
    | refine At.ofNext (by assumption) ?_ | refine At.ofFst (by assumption) ?_ | refine At.ofSnd (by assumption) ?_
    | refine At.ofOpt (by assumption) ?_ | refine At.ofOptSnd (by assumption) ?_ | refine At.ofOptFst (by assumption) ?_
    | refine At.ofOptSnd2 (by assumption) ?_ | apply At.mapAny | dsimp +zetaDelta only)

theorem State.fwErase_keeps {P : Part → Prop} {s₀ s : State} (dict_ : P .dict) (mgmt_ : P .mgmt) (src : Nat) (hs : At (Keeps P s₀) It s) :
    At (Keeps P s₀) (Fst It) (State.fwErase s src) := by
  unfold State.fwErase
  with_reducible repeat' (first
    | assumption | (intro x; refine At.cut x ?_ ?_; rotate_left; intro _; clear_value x; rotate_left; unfold x) | intro _ | lift_lets
    | apply State.setObj_keeps | apply State.mpLogAdd_keeps | apply State.setFwSlot_keeps | apply At.ite | apply At.next | apply At.some
    | exact At.none | dsimp -zeta only [At.mkFst, At.mkSnd] | apply At.foldl | apply At.getD | apply At.fst | apply At.snd
    | ((conv => enter [3, 20]) <;> apply At.upd <;> first | exact .inl ‹_› | exact .inr rfl | skip)
    | ((conv => enter [3, 20]) <;> apply At.updCore) | split | exact At.ofMkFst ‹_› | exact At.ofMkSnd ‹_›
    | refine At.ofNext (by assumption) ?_ | refine At.ofFst (by assumption) ?_ | refine At.ofSnd (by assumption) ?_
    | refine At.ofOpt (by assumption) ?_ | refine At.ofOptSnd (by assumption) ?_ | refine At.ofOptFst (by assumption) ?_
    | refine At.ofOptSnd2 (by assumption) ?_ | apply At.mapAny | dsimp +zetaDelta only)

theorem State.attNonce_keeps {P : Part → Prop} {s₀ s : State} (dict_ : P .dict) (mgmt_ : P .mgmt) (v : Octets) (hs : At (Keeps P s₀) It s)
    : At (Keeps P s₀) (Fst It) (State.attNonce s v) := by
  unfold State.attNonce
  with_reducible repeat' (first
    | assumption | (intro x; refine At.cut x ?_ ?_; rotate_left; intro _; clear_value x; rotate_left; unfold x) | intro _ | lift_lets
    | apply State.setObj_keeps | apply At.ite | apply At.next | apply At.some | exact At.none | dsimp -zeta only [At.mkFst, At.mkSnd]
    | apply At.foldl | apply At.getD | apply At.fst | apply At.snd
    | ((conv => enter [3, 20]) <;> apply At.upd <;> first | exact .inl ‹_› | exact .inr rfl | skip)
    | ((conv => enter [3, 20]) <;> apply At.updCore) | split | exact At.ofMkFst ‹_› | exact At.ofMkSnd ‹_›
    | refine At.ofNext (by assumption) ?_ | refine At.ofFst (by assumption) ?_ | refine At.ofSnd (by assumption) ?_
    | refine At.ofOpt (by assumption) ?_ | refine At.ofOptSnd (by assumption) ?_ | refine At.ofOptFst (by assumption) ?_
    | refine At.ofOptSnd2 (by assumption) ?_ | apply At.mapAny | dsimp +zetaDelta only)

theorem State.attReady_keeps {P : Part → Prop} {s₀ s : State} (dict_ : P .dict) (mgmt_ : P .mgmt) (free_ : P .free) (hs : At (Keeps P s₀)
    It s) : At (Keeps P s₀) It (State.attReady s) := by
  unfold State.attReady
  with_reducible repeat' (first
    | assumption | (intro x; refine At.cut x ?_ ?_; rotate_left; intro _; clear_value x; rotate_left; unfold x) | intro _ | lift_lets
    | apply State.setObj_keeps | apply At.ite | apply At.next | apply At.some | exact At.none | dsimp -zeta only [At.mkFst, At.mkSnd]
    | apply At.foldl | apply At.getD | apply At.fst | apply At.snd
    | ((conv => enter [3, 20]) <;> apply At.upd <;> first | exact .inl ‹_› | exact .inr rfl | skip)
    | ((conv => enter [3, 20]) <;> apply At.updCore) | split | exact At.ofMkFst ‹_› | exact At.ofMkSnd ‹_›
    | refine At.ofNext (by assumption) ?_ | refine At.ofFst (by assumption) ?_ | refine At.ofSnd (by assumption) ?_
    | refine At.ofOpt (by assumption) ?_ | refine At.ofOptSnd (by assumption) ?_ | refine At.ofOptFst (by assumption) ?_
    | refine At.ofOptSnd2 (by assumption) ?_ | apply At.mapAny | dsimp +zetaDelta only)

theorem State.calendarEdge_keeps {P : Part → Prop} {s₀ s : State} (dict_ : P .dict) (mgmt_ : P .mgmt) (hs : At (Keeps P s₀) It s) : At
    (Keeps P s₀) It (State.calendarEdge s) := by
  unfold State.calendarEdge
  with_reducible repeat' (first
    | assumption | (intro x; refine At.cut x ?_ ?_; rotate_left; intro _; clear_value x; rotate_left; unfold x) | intro _ | lift_lets
    | apply State.setObj_keeps | apply State.bump_keeps | apply State.mpLogAdd_keeps | apply State.measure_keeps | apply At.ite
    | apply At.next | apply At.some | exact At.none | dsimp -zeta only [At.mkFst, At.mkSnd] | apply At.foldl | apply At.getD
    | apply At.fst | apply At.snd | ((conv => enter [3, 20]) <;> apply At.upd <;> first | exact .inl ‹_› | exact .inr rfl | skip)
    | ((conv => enter [3, 20]) <;> apply At.updCore) | split | exact At.ofMkFst ‹_› | exact At.ofMkSnd ‹_›
    | refine At.ofNext (by assumption) ?_ | refine At.ofFst (by assumption) ?_ | refine At.ofSnd (by assumption) ?_
    | refine At.ofOpt (by assumption) ?_ | refine At.ofOptSnd (by assumption) ?_ | refine At.ofOptFst (by assumption) ?_
    | refine At.ofOptSnd2 (by assumption) ?_ | apply At.mapAny | dsimp +zetaDelta only)

theorem State.calendarLost_keeps {P : Part → Prop} {s₀ s : State} (dict_ : P .dict) (mgmt_ : P .mgmt) (stn_ : P .stn) (hs : At (Keeps P s₀)
    It s) : At (Keeps P s₀) It (State.calendarLost s) := by
  unfold State.calendarLost
  with_reducible repeat' (first
    | assumption | (intro x; refine At.cut x ?_ ?_; rotate_left; intro _; clear_value x; rotate_left; unfold x) | intro _ | lift_lets
    | apply State.setObj_keeps | apply State.tileEvent_keeps | apply At.ite | apply At.next | apply At.some | exact At.none
    | dsimp -zeta only [At.mkFst, At.mkSnd] | apply At.foldl | apply At.getD | apply At.fst | apply At.snd
    | ((conv => enter [3, 20]) <;> apply At.upd <;> first | exact .inl ‹_› | exact .inr rfl | skip)
    | ((conv => enter [3, 20]) <;> apply At.updCore) | split | exact At.ofMkFst ‹_› | exact At.ofMkSnd ‹_›
    | refine At.ofNext (by assumption) ?_ | refine At.ofFst (by assumption) ?_ | refine At.ofSnd (by assumption) ?_
    | refine At.ofOpt (by assumption) ?_ | refine At.ofOptSnd (by assumption) ?_ | refine At.ofOptFst (by assumption) ?_
    | refine At.ofOptSnd2 (by assumption) ?_ | apply At.mapAny | dsimp +zetaDelta only)

/-! ### Machine/TrvOps.lean -/

theorem State.setTrvSlot_keeps {P : Part → Prop} {s₀ s : State} (trv_ : P .trv) (t : Nat) (x : TrvSlot) (hs : At (Keeps P s₀) It s) : At
    (Keeps P s₀) It (State.setTrvSlot s t x) := by
  unfold State.setTrvSlot
  with_reducible repeat' (first
    | assumption | (intro x; refine At.cut x ?_ ?_; rotate_left; intro _; clear_value x; rotate_left; unfold x) | intro _ | lift_lets
    | apply At.ite | apply At.next | apply At.some | exact At.none | dsimp -zeta only [At.mkFst, At.mkSnd] | apply At.foldl
    | apply At.getD | apply At.fst | apply At.snd
    | ((conv => enter [3, 20]) <;> apply At.upd <;> first | exact .inl ‹_› | exact .inr rfl | skip)
    | ((conv => enter [3, 20]) <;> apply At.updCore) | split | exact At.ofMkFst ‹_› | exact At.ofMkSnd ‹_›
    | refine At.ofNext (by assumption) ?_ | refine At.ofFst (by assumption) ?_ | refine At.ofSnd (by assumption) ?_
    | refine At.ofOpt (by assumption) ?_ | refine At.ofOptSnd (by assumption) ?_ | refine At.ofOptFst (by assumption) ?_
    | refine At.ofOptSnd2 (by assumption) ?_ | apply At.mapAny | dsimp +zetaDelta only)

theorem State.stopTraverse_keeps {P : Part → Prop} {s₀ s : State} (dict_ : P .dict) (trv_ : P .trv) (srch_ : P .srch) (hs : At (Keeps P s₀)
    It s) : At (Keeps P s₀) It (State.stopTraverse s) := by
  unfold State.stopTraverse
  with_reducible repeat' (first
    | assumption | (intro x; refine At.cut x ?_ ?_; rotate_left; intro _; clear_value x; rotate_left; unfold x) | intro _ | lift_lets
    | apply State.setObj_keeps | apply State.camNoTraverse_keeps | apply At.ite | apply At.next | apply At.some | exact At.none
    | dsimp -zeta only [At.mkFst, At.mkSnd] | apply At.foldl | apply At.getD | apply At.fst | apply At.snd
    | ((conv => enter [3, 20]) <;> apply At.upd <;> first | exact .inl ‹_› | exact .inr rfl | skip)
    | ((conv => enter [3, 20]) <;> apply At.updCore) | split | exact At.ofMkFst ‹_› | exact At.ofMkSnd ‹_›
    | refine At.ofNext (by assumption) ?_ | refine At.ofFst (by assumption) ?_ | refine At.ofSnd (by assumption) ?_
    | refine At.ofOpt (by assumption) ?_ | refine At.ofOptSnd (by assumption) ?_ | refine At.ofOptFst (by assumption) ?_
    | refine At.ofOptSnd2 (by assumption) ?_ | apply At.mapAny | dsimp +zetaDelta only)

theorem State.lockSend_keeps {P : Part → Prop} {s₀ s : State} (trv_ : P .trv) (m : LockMsg) (hs : At (Keeps P s₀) It s) : At (Keeps P s₀)
    It (State.lockSend s m) := by
  unfold State.lockSend
  with_reducible repeat' (first
    | assumption | (intro x; refine At.cut x ?_ ?_; rotate_left; intro _; clear_value x; rotate_left; unfold x) | intro _ | lift_lets
    | apply At.ite | apply At.next | apply At.some | exact At.none | dsimp -zeta only [At.mkFst, At.mkSnd] | apply At.foldl
    | apply At.getD | apply At.fst | apply At.snd
    | ((conv => enter [3, 20]) <;> apply At.upd <;> first | exact .inl ‹_› | exact .inr rfl | skip)
    | ((conv => enter [3, 20]) <;> apply At.updCore) | split | exact At.ofMkFst ‹_› | exact At.ofMkSnd ‹_›
    | refine At.ofNext (by assumption) ?_ | refine At.ofFst (by assumption) ?_ | refine At.ofSnd (by assumption) ?_
    | refine At.ofOpt (by assumption) ?_ | refine At.ofOptSnd (by assumption) ?_ | refine At.ofOptFst (by assumption) ?_
    | refine At.ofOptSnd2 (by assumption) ?_ | apply At.mapAny | dsimp +zetaDelta only)

theorem State.allocRaw_keeps {P : Part → Prop} {s₀ s : State} (dict_ : P .dict) (ses_ : P .ses) (tier_ : P .tier) (free_ : P .free) (kind :
    Nat) (owner : Nat) (y3 : Nat) (y4 : List Nat) (hs : At (Keeps P s₀) It s) : At (Keeps P s₀) (Fst It) (State.allocRaw s kind owner y3
    y4) := by
  induction y3 generalizing s y4 with
  | zero =>
    unfold State.allocRaw
    with_reducible repeat' (first
      | assumption | (intro x; refine At.cut x ?_ ?_; rotate_left; intro _; clear_value x; rotate_left; unfold x) | intro _ | lift_lets
      | apply State.allocT2_keeps | apply At.ite | apply At.next | apply At.some | exact At.none | dsimp -zeta only [At.mkFst, At.mkSnd]
      | apply At.foldl | apply At.getD | apply At.fst | apply At.snd
      | ((conv => enter [3, 20]) <;> apply At.upd <;> first | exact .inl ‹_› | exact .inr rfl | skip)
      | ((conv => enter [3, 20]) <;> apply At.updCore) | split | exact At.ofMkFst ‹_› | exact At.ofMkSnd ‹_›
      | refine At.ofNext (by assumption) ?_ | refine At.ofFst (by assumption) ?_ | refine At.ofSnd (by assumption) ?_
      | refine At.ofOpt (by assumption) ?_ | refine At.ofOptSnd (by assumption) ?_ | refine At.ofOptFst (by assumption) ?_
      | refine At.ofOptSnd2 (by assumption) ?_ | apply At.mapAny | dsimp +zetaDelta only)
  | succ n ih =>
    unfold State.allocRaw
    with_reducible repeat' (first
      | assumption | (intro x; refine At.cut x ?_ ?_; rotate_left; intro _; clear_value x; rotate_left; unfold x) | intro _ | lift_lets
      | apply State.allocT2_keeps | apply ih | apply At.ite | apply At.next | apply At.some | exact At.none
      | dsimp -zeta only [At.mkFst, At.mkSnd] | apply At.foldl | apply At.getD | apply At.fst | apply At.snd
      | ((conv => enter [3, 20]) <;> apply At.upd <;> first | exact .inl ‹_› | exact .inr rfl | skip)
      | ((conv => enter [3, 20]) <;> apply At.updCore) | split | exact At.ofMkFst ‹_› | exact At.ofMkSnd ‹_›
      | refine At.ofNext (by assumption) ?_ | refine At.ofFst (by assumption) ?_ | refine At.ofSnd (by assumption) ?_
      | refine At.ofOpt (by assumption) ?_ | refine At.ofOptSnd (by assumption) ?_ | refine At.ofOptFst (by assumption) ?_
      | refine At.ofOptSnd2 (by assumption) ?_ | apply At.mapAny | dsimp +zetaDelta only)

theorem State.fillRaw_keeps {P : Part → Prop} {s₀ s : State} (dict_ : P .dict) (ses_ : P .ses) (tier_ : P .tier) (y1 : List Nat) (y2 :
    Octets) (hs : At (Keeps P s₀) It s) : At (Keeps P s₀) It (State.fillRaw s y1 y2) := by
  induction y1 generalizing s y2 with
  | nil =>
    unfold State.fillRaw
    with_reducible repeat' (first
      | assumption | (intro x; refine At.cut x ?_ ?_; rotate_left; intro _; clear_value x; rotate_left; unfold x) | intro _ | lift_lets
      | apply State.writeTile_keeps | apply At.ite | apply At.next | apply At.some | exact At.none | dsimp -zeta only [At.mkFst, At.mkSnd]
      | apply At.foldl | apply At.getD | apply At.fst | apply At.snd
      | ((conv => enter [3, 20]) <;> apply At.upd <;> first | exact .inl ‹_› | exact .inr rfl | skip)
      | ((conv => enter [3, 20]) <;> apply At.updCore) | split | exact At.ofMkFst ‹_› | exact At.ofMkSnd ‹_›
      | refine At.ofNext (by assumption) ?_ | refine At.ofFst (by assumption) ?_ | refine At.ofSnd (by assumption) ?_
      | refine At.ofOpt (by assumption) ?_ | refine At.ofOptSnd (by assumption) ?_ | refine At.ofOptFst (by assumption) ?_
      | refine At.ofOptSnd2 (by assumption) ?_ | apply At.mapAny | dsimp +zetaDelta only)
  | cons a r ih =>
    unfold State.fillRaw
    with_reducible repeat' (first
      | assumption | (intro x; refine At.cut x ?_ ?_; rotate_left; intro _; clear_value x; rotate_left; unfold x) | intro _ | lift_lets
      | apply State.writeTile_keeps | apply ih | apply At.ite | apply At.next | apply At.some | exact At.none
      | dsimp -zeta only [At.mkFst, At.mkSnd] | apply At.foldl | apply At.getD | apply At.fst | apply At.snd
      | ((conv => enter [3, 20]) <;> apply At.upd <;> first | exact .inl ‹_› | exact .inr rfl | skip)
      | ((conv => enter [3, 20]) <;> apply At.updCore) | split | exact At.ofMkFst ‹_› | exact At.ofMkSnd ‹_›
      | refine At.ofNext (by assumption) ?_ | refine At.ofFst (by assumption) ?_ | refine At.ofSnd (by assumption) ?_
      | refine At.ofOpt (by assumption) ?_ | refine At.ofOptSnd (by assumption) ?_ | refine At.ofOptFst (by assumption) ?_
      | refine At.ofOptSnd2 (by assumption) ?_ | apply At.mapAny | dsimp +zetaDelta only)

theorem State.freeAll_keeps {P : Part → Prop} {s₀ s : State} (tier_ : P .tier) (l : List Nat) (hs : At (Keeps P s₀) It s) : At (Keeps P s₀)
    It (State.freeAll s l) := by
  unfold State.freeAll
  with_reducible repeat' (first
    | assumption | (intro x; refine At.cut x ?_ ?_; rotate_left; intro _; clear_value x; rotate_left; unfold x) | intro _ | lift_lets
    | apply State.freeTileAt_keeps | apply At.ite | apply At.next | apply At.some | exact At.none | dsimp -zeta only [At.mkFst, At.mkSnd]
    | apply At.foldl | apply At.getD | apply At.fst | apply At.snd
    | ((conv => enter [3, 20]) <;> apply At.upd <;> first | exact .inl ‹_› | exact .inr rfl | skip)
    | ((conv => enter [3, 20]) <;> apply At.updCore) | split | exact At.ofMkFst ‹_› | exact At.ofMkSnd ‹_›
    | refine At.ofNext (by assumption) ?_ | refine At.ofFst (by assumption) ?_ | refine At.ofSnd (by assumption) ?_
    | refine At.ofOpt (by assumption) ?_ | refine At.ofOptSnd (by assumption) ?_ | refine At.ofOptFst (by assumption) ?_
    | refine At.ofOptSnd2 (by assumption) ?_ | apply At.mapAny | dsimp +zetaDelta only)

theorem State.voidFrame_keeps {P : Part → Prop} {s₀ s : State} (trv_ : P .trv) (t : Nat) (hs : At (Keeps P s₀) It s) : At (Keeps P s₀) It
    (State.voidFrame s t) := by
  unfold State.voidFrame
  with_reducible repeat' (first
    | assumption | (intro x; refine At.cut x ?_ ?_; rotate_left; intro _; clear_value x; rotate_left; unfold x) | intro _ | lift_lets
    | apply At.ite | apply At.next | apply At.some | exact At.none | dsimp -zeta only [At.mkFst, At.mkSnd] | apply At.foldl
    | apply At.getD | apply At.fst | apply At.snd
    | ((conv => enter [3, 20]) <;> apply At.upd <;> first | exact .inl ‹_› | exact .inr rfl | skip)
    | ((conv => enter [3, 20]) <;> apply At.updCore) | split | exact At.ofMkFst ‹_› | exact At.ofMkSnd ‹_›
    | refine At.ofNext (by assumption) ?_ | refine At.ofFst (by assumption) ?_ | refine At.ofSnd (by assumption) ?_
    | refine At.ofOpt (by assumption) ?_ | refine At.ofOptSnd (by assumption) ?_ | refine At.ofOptFst (by assumption) ?_
    | refine At.ofOptSnd2 (by assumption) ?_ | apply At.mapAny | dsimp +zetaDelta only)

theorem State.rehome_keeps {P : Part → Prop} {s₀ s : State} (dict_ : P .dict) (fb_ : P .fb) (stn_ : P .stn) (sync_ : P .sync) (n : Nat) (hs
    : At (Keeps P s₀) It s) : At (Keeps P s₀) It (State.rehome s n) := by
  unfold State.rehome
  with_reducible repeat' (first
    | assumption | (intro x; refine At.cut x ?_ ?_; rotate_left; intro _; clear_value x; rotate_left; unfold x) | intro _ | lift_lets
    | apply State.bump_keeps | apply State.event_keeps | apply State.setSync_keeps | apply State.syncError_keeps | apply At.ite
    | apply At.next | apply At.some | exact At.none | dsimp -zeta only [At.mkFst, At.mkSnd] | apply At.foldl | apply At.getD
    | apply At.fst | apply At.snd | ((conv => enter [3, 20]) <;> apply At.upd <;> first | exact .inl ‹_› | exact .inr rfl | skip)
    | ((conv => enter [3, 20]) <;> apply At.updCore) | split | exact At.ofMkFst ‹_› | exact At.ofMkSnd ‹_›
    | refine At.ofNext (by assumption) ?_ | refine At.ofFst (by assumption) ?_ | refine At.ofSnd (by assumption) ?_
    | refine At.ofOpt (by assumption) ?_ | refine At.ofOptSnd (by assumption) ?_ | refine At.ofOptFst (by assumption) ?_
    | refine At.ofOptSnd2 (by assumption) ?_ | apply At.mapAny | dsimp +zetaDelta only)

theorem State.clearCore_keeps {P : Part → Prop} {s₀ s : State} (core_ : P .core) (k : Nat) (hs : At (Keeps P s₀) It s) : At (Keeps P s₀) It
    (State.clearCore s k) := by
  unfold State.clearCore
  with_reducible repeat' (first
    | assumption | (intro x; refine At.cut x ?_ ?_; rotate_left; intro _; clear_value x; rotate_left; unfold x) | intro _ | lift_lets
    | apply State.setCore_keeps | exact wf_nil | apply Core.settle_store | apply Core.write_store | apply wf_foldl_bputs
    | apply Core.result_store | apply Core.flags_store | apply Core.moved_store | apply Core.lanewise_store | exact coreInit_store
    | apply id_store | apply State.coreAt_store | apply State.clusterStore_wf | apply wf_bputs | apply wf_filter | apply wf_storeTile
    | apply State.issued_store | apply State.cameTo_stores | apply At.ite | apply At.next | apply At.some | exact At.none
    | dsimp -zeta only [At.mkFst, At.mkSnd] | apply At.foldl | apply At.getD | apply At.fst | apply At.snd
    | ((conv => enter [3, 20]) <;> apply At.upd <;> first | exact .inl ‹_› | exact .inr rfl | skip)
    | ((conv => enter [3, 20]) <;> apply At.updCore) | split | exact At.ofMkFst ‹_› | exact At.ofMkSnd ‹_›
    | refine At.ofNext (by assumption) ?_ | refine At.ofFst (by assumption) ?_ | refine At.ofSnd (by assumption) ?_
    | refine At.ofOpt (by assumption) ?_ | refine At.ofOptSnd (by assumption) ?_ | refine At.ofOptFst (by assumption) ?_
    | refine At.ofOptSnd2 (by assumption) ?_ | apply At.mapAny | dsimp +zetaDelta only)

theorem State.clusterCleared_keeps {P : Part → Prop} {s₀ s : State} (dict_ : P .dict) (fb_ : P .fb) (stn_ : P .stn) (core_ : P .core)
    (sync_ : P .sync) (n : Nat) (hs : At (Keeps P s₀) It s) : At (Keeps P s₀) It (State.clusterCleared s n) := by
  unfold State.clusterCleared
  with_reducible repeat' (first
    | assumption | (intro x; refine At.cut x ?_ ?_; rotate_left; intro _; clear_value x; rotate_left; unfold x) | intro _ | lift_lets
    | apply State.setClusterStore_keeps | apply State.rehome_keeps | apply State.clearCore_keeps | exact wf_nil | apply Core.settle_store
    | apply Core.write_store | apply wf_foldl_bputs | apply Core.result_store | apply Core.flags_store | apply Core.moved_store
    | apply Core.lanewise_store | exact coreInit_store | apply id_store | apply State.coreAt_store | apply State.clusterStore_wf
    | apply wf_bputs | apply wf_filter | apply wf_storeTile | apply State.issued_store | apply State.cameTo_stores | exact stores_same ‹_›
    | exact stores_nil | exact stores_filter ‹_› | apply At.ite | apply At.next | apply At.some | exact At.none
    | dsimp -zeta only [At.mkFst, At.mkSnd] | apply At.foldl | apply At.getD | apply At.fst | apply At.snd
    | ((conv => enter [3, 20]) <;> apply At.upd <;> first | exact .inl ‹_› | exact .inr rfl | skip)
    | ((conv => enter [3, 20]) <;> apply At.updCore) | split | exact At.ofMkFst ‹_› | exact At.ofMkSnd ‹_›
    | refine At.ofNext (by assumption) ?_ | refine At.ofFst (by assumption) ?_ | refine At.ofSnd (by assumption) ?_
    | refine At.ofOpt (by assumption) ?_ | refine At.ofOptSnd (by assumption) ?_ | refine At.ofOptFst (by assumption) ?_
    | refine At.ofOptSnd2 (by assumption) ?_ | apply At.mapAny | dsimp +zetaDelta only)

theorem State.fenceCluster_keeps {P : Part → Prop} {s₀ s : State} (dict_ : P .dict) (mgmt_ : P .mgmt) (fb_ : P .fb) (stn_ : P .stn) (core_
    : P .core) (text_ : P .text) (sync_ : P .sync) (pwr_ : P .pwr) (n : Nat) (cause : Nat) (hs : At (Keeps P s₀) It s) : At (Keeps P s₀) It
    (State.fenceCluster s n cause) := by
  unfold State.fenceCluster
  with_reducible repeat' (first
    | assumption | (intro x; refine At.cut x ?_ ?_; rotate_left; intro _; clear_value x; rotate_left; unfold x) | intro _ | lift_lets
    | apply State.bump_keeps | apply State.setStr_keeps | apply State.report_keeps | apply State.tileEvent_keeps
    | apply State.clusterCleared_keeps | apply At.ite | apply At.next | apply At.some | exact At.none
    | dsimp -zeta only [At.mkFst, At.mkSnd] | apply At.foldl | apply At.getD | apply At.fst | apply At.snd
    | ((conv => enter [3, 20]) <;> apply At.upd <;> first | exact .inl ‹_› | exact .inr rfl | skip)
    | ((conv => enter [3, 20]) <;> apply At.updCore) | split | exact At.ofMkFst ‹_› | exact At.ofMkSnd ‹_›
    | refine At.ofNext (by assumption) ?_ | refine At.ofFst (by assumption) ?_ | refine At.ofSnd (by assumption) ?_
    | refine At.ofOpt (by assumption) ?_ | refine At.ofOptSnd (by assumption) ?_ | refine At.ofOptFst (by assumption) ?_
    | refine At.ofOptSnd2 (by assumption) ?_ | apply At.mapAny | dsimp +zetaDelta only)

theorem State.fenceCore_keeps {P : Part → Prop} {s₀ s : State} (dict_ : P .dict) (mgmt_ : P .mgmt) (fb_ : P .fb) (stn_ : P .stn) (core_ : P
    .core) (text_ : P .text) (sync_ : P .sync) (pwr_ : P .pwr) (k : Nat) (cause : Nat) (hs : At (Keeps P s₀) It s) : At (Keeps P s₀) It
    (State.fenceCore s k cause) := by
  unfold State.fenceCore
  with_reducible repeat' (first
    | assumption | (intro x; refine At.cut x ?_ ?_; rotate_left; intro _; clear_value x; rotate_left; unfold x) | intro _ | lift_lets
    | apply State.bump_keeps | apply State.setStr_keeps | apply State.report_keeps | apply State.tileEvent_keeps
    | apply State.clearCore_keeps | apply State.fenceCluster_keeps | exact wf_nil | apply Core.settle_store | apply Core.write_store
    | apply wf_foldl_bputs | apply Core.result_store | apply Core.flags_store | apply Core.moved_store | apply Core.lanewise_store
    | exact coreInit_store | apply id_store | apply State.coreAt_store | apply State.clusterStore_wf | apply wf_bputs | apply wf_filter
    | apply wf_storeTile | apply State.issued_store | apply State.cameTo_stores | exact stores_same ‹_› | exact stores_nil
    | exact stores_filter ‹_› | apply At.ite | apply At.next | apply At.some | exact At.none | dsimp -zeta only [At.mkFst, At.mkSnd]
    | apply At.foldl | apply At.getD | apply At.fst | apply At.snd
    | ((conv => enter [3, 20]) <;> apply At.upd <;> first | exact .inl ‹_› | exact .inr rfl | skip)
    | ((conv => enter [3, 20]) <;> apply At.updCore) | split | exact At.ofMkFst ‹_› | exact At.ofMkSnd ‹_›
    | refine At.ofNext (by assumption) ?_ | refine At.ofFst (by assumption) ?_ | refine At.ofSnd (by assumption) ?_
    | refine At.ofOpt (by assumption) ?_ | refine At.ofOptSnd (by assumption) ?_ | refine At.ofOptFst (by assumption) ?_
    | refine At.ofOptSnd2 (by assumption) ?_ | apply At.mapAny | dsimp +zetaDelta only)

theorem State.noticeFault_keeps {P : Part → Prop} {s₀ s : State} (trv_ : P .trv) (hs : At (Keeps P s₀) It s) : At (Keeps P s₀) It
    (State.noticeFault s) := by
  unfold State.noticeFault
  with_reducible repeat' (first
    | assumption | (intro x; refine At.cut x ?_ ?_; rotate_left; intro _; clear_value x; rotate_left; unfold x) | intro _ | lift_lets
    | apply State.lockSend_keeps | apply At.ite | apply At.next | apply At.some | exact At.none | dsimp -zeta only [At.mkFst, At.mkSnd]
    | apply At.foldl | apply At.getD | apply At.fst | apply At.snd
    | ((conv => enter [3, 20]) <;> apply At.upd <;> first | exact .inl ‹_› | exact .inr rfl | skip)
    | ((conv => enter [3, 20]) <;> apply At.updCore) | split | exact At.ofMkFst ‹_› | exact At.ofMkSnd ‹_›
    | refine At.ofNext (by assumption) ?_ | refine At.ofFst (by assumption) ?_ | refine At.ofSnd (by assumption) ?_
    | refine At.ofOpt (by assumption) ?_ | refine At.ofOptSnd (by assumption) ?_ | refine At.ofOptFst (by assumption) ?_
    | refine At.ofOptSnd2 (by assumption) ?_ | apply At.mapAny | dsimp +zetaDelta only)

theorem State.detected_keeps {P : Part → Prop} {s₀ s : State} (dict_ : P .dict) (fb_ : P .fb) (trv_ : P .trv) (n : Nat) (cause : Nat) (hs :
    At (Keeps P s₀) It s) : At (Keeps P s₀) It (State.detected s n cause) := by
  unfold State.detected
  with_reducible repeat' (first
    | assumption | (intro x; refine At.cut x ?_ ?_; rotate_left; intro _; clear_value x; rotate_left; unfold x) | intro _ | lift_lets
    | apply State.bump_keeps | apply State.report_keeps | apply State.voidFrame_keeps | apply At.ite | apply At.next | apply At.some
    | exact At.none | dsimp -zeta only [At.mkFst, At.mkSnd] | apply At.foldl | apply At.getD | apply At.fst | apply At.snd
    | ((conv => enter [3, 20]) <;> apply At.upd <;> first | exact .inl ‹_› | exact .inr rfl | skip)
    | ((conv => enter [3, 20]) <;> apply At.updCore) | split | exact At.ofMkFst ‹_› | exact At.ofMkSnd ‹_›
    | refine At.ofNext (by assumption) ?_ | refine At.ofFst (by assumption) ?_ | refine At.ofSnd (by assumption) ?_
    | refine At.ofOpt (by assumption) ?_ | refine At.ofOptSnd (by assumption) ?_ | refine At.ofOptFst (by assumption) ?_
    | refine At.ofOptSnd2 (by assumption) ?_ | apply At.mapAny | dsimp +zetaDelta only)

theorem State.detect_keeps {P : Part → Prop} {s₀ s : State} (dict_ : P .dict) (mgmt_ : P .mgmt) (fb_ : P .fb) (stn_ : P .stn) (trv_ : P
    .trv) (core_ : P .core) (text_ : P .text) (sync_ : P .sync) (pwr_ : P .pwr) (k : Nat) (inCluster : Bool) (f : CoreFault) (hs : At
    (Keeps P s₀) It s) : At (Keeps P s₀) It (State.detect s k inCluster f) := by
  unfold State.detect
  with_reducible repeat' (first
    | assumption | (intro x; refine At.cut x ?_ ?_; rotate_left; intro _; clear_value x; rotate_left; unfold x) | intro _ | lift_lets
    | apply State.bump_keeps | apply State.tileEvent_keeps | apply State.setCore_keeps | apply State.fenceCluster_keeps
    | apply State.fenceCore_keeps | apply State.noticeFault_keeps | apply State.detected_keeps | exact wf_nil | apply Core.settle_store
    | apply Core.write_store | apply wf_foldl_bputs | apply Core.result_store | apply Core.flags_store | apply Core.moved_store
    | apply Core.lanewise_store | exact coreInit_store | apply id_store | apply State.coreAt_store | apply State.clusterStore_wf
    | apply wf_bputs | apply wf_filter | apply wf_storeTile | apply State.issued_store | apply State.cameTo_stores | exact stores_same ‹_›
    | exact stores_nil | exact stores_filter ‹_› | apply At.ite | apply At.next | apply At.some | exact At.none
    | dsimp -zeta only [At.mkFst, At.mkSnd] | apply At.foldl | apply At.getD | apply At.fst | apply At.snd
    | ((conv => enter [3, 20]) <;> apply At.upd <;> first | exact .inl ‹_› | exact .inr rfl | skip)
    | ((conv => enter [3, 20]) <;> apply At.updCore) | split | exact At.ofMkFst ‹_› | exact At.ofMkSnd ‹_›
    | refine At.ofNext (by assumption) ?_ | refine At.ofFst (by assumption) ?_ | refine At.ofSnd (by assumption) ?_
    | refine At.ofOpt (by assumption) ?_ | refine At.ofOptSnd (by assumption) ?_ | refine At.ofOptFst (by assumption) ?_
    | refine At.ofOptSnd2 (by assumption) ?_ | apply At.mapAny | dsimp +zetaDelta only)

/-! ### Machine/Routes.lean -/

theorem State.setPort_keeps {P : Part → Prop} {s₀ s : State} (fab_ : P .fab) (p : Nat) (x : FabPort) (hs : At (Keeps P s₀) It s) : At
    (Keeps P s₀) It (State.setPort s p x) := by
  unfold State.setPort
  with_reducible repeat' (first
    | assumption | (intro x; refine At.cut x ?_ ?_; rotate_left; intro _; clear_value x; rotate_left; unfold x) | intro _ | lift_lets
    | apply At.ite | apply At.next | apply At.some | exact At.none | dsimp -zeta only [At.mkFst, At.mkSnd] | apply At.foldl
    | apply At.getD | apply At.fst | apply At.snd
    | ((conv => enter [3, 20]) <;> apply At.upd <;> first | exact .inl ‹_› | exact .inr rfl | skip)
    | ((conv => enter [3, 20]) <;> apply At.updCore) | split | exact At.ofMkFst ‹_› | exact At.ofMkSnd ‹_›
    | refine At.ofNext (by assumption) ?_ | refine At.ofFst (by assumption) ?_ | refine At.ofSnd (by assumption) ?_
    | refine At.ofOpt (by assumption) ?_ | refine At.ofOptSnd (by assumption) ?_ | refine At.ofOptFst (by assumption) ?_
    | refine At.ofOptSnd2 (by assumption) ?_ | apply At.mapAny | dsimp +zetaDelta only)

theorem State.setLane_keeps {P : Part → Prop} {s₀ s : State} (dict_ : P .dict) (l : Nat) (v : Nat) (hs : At (Keeps P s₀) It s) : At (Keeps
    P s₀) It (State.setLane s l v) := by
  unfold State.setLane
  with_reducible repeat' (first
    | assumption | (intro x; refine At.cut x ?_ ?_; rotate_left; intro _; clear_value x; rotate_left; unfold x) | intro _ | lift_lets
    | apply State.setObjAt_keeps | apply At.ite | apply At.next | apply At.some | exact At.none | dsimp -zeta only [At.mkFst, At.mkSnd]
    | apply At.foldl | apply At.getD | apply At.fst | apply At.snd
    | ((conv => enter [3, 20]) <;> apply At.upd <;> first | exact .inl ‹_› | exact .inr rfl | skip)
    | ((conv => enter [3, 20]) <;> apply At.updCore) | split | exact At.ofMkFst ‹_› | exact At.ofMkSnd ‹_›
    | refine At.ofNext (by assumption) ?_ | refine At.ofFst (by assumption) ?_ | refine At.ofSnd (by assumption) ?_
    | refine At.ofOpt (by assumption) ?_ | refine At.ofOptSnd (by assumption) ?_ | refine At.ofOptFst (by assumption) ?_
    | refine At.ofOptSnd2 (by assumption) ?_ | apply At.mapAny | dsimp +zetaDelta only)

theorem State.reportOpen_keeps {P : Part → Prop} {s₀ s : State} (dict_ : P .dict) (fb_ : P .fb) (free_ : P .free) (src : Nat) (cls : Nat)
    (hs : At (Keeps P s₀) It s) : At (Keeps P s₀) It (State.reportOpen s src cls) := by
  unfold State.reportOpen
  with_reducible repeat' (first
    | assumption | (intro x; refine At.cut x ?_ ?_; rotate_left; intro _; clear_value x; rotate_left; unfold x) | intro _ | lift_lets
    | apply State.draw_keeps | apply State.report_keeps | apply At.ite | apply At.next | apply At.some | exact At.none
    | dsimp -zeta only [At.mkFst, At.mkSnd] | apply At.foldl | apply At.getD | apply At.fst | apply At.snd
    | ((conv => enter [3, 20]) <;> apply At.upd <;> first | exact .inl ‹_› | exact .inr rfl | skip)
    | ((conv => enter [3, 20]) <;> apply At.updCore) | split | exact At.ofMkFst ‹_› | exact At.ofMkSnd ‹_›
    | refine At.ofNext (by assumption) ?_ | refine At.ofFst (by assumption) ?_ | refine At.ofSnd (by assumption) ?_
    | refine At.ofOpt (by assumption) ?_ | refine At.ofOptSnd (by assumption) ?_ | refine At.ofOptFst (by assumption) ?_
    | refine At.ofOptSnd2 (by assumption) ?_ | apply At.mapAny | dsimp +zetaDelta only)

theorem State.portReport_keeps {P : Part → Prop} {s₀ s : State} (dict_ : P .dict) (fb_ : P .fb) (free_ : P .free) (p : Nat) (cls : Nat) (hs
    : At (Keeps P s₀) It s) : At (Keeps P s₀) It (State.portReport s p cls) := by
  unfold State.portReport
  with_reducible repeat' (first
    | assumption | (intro x; refine At.cut x ?_ ?_; rotate_left; intro _; clear_value x; rotate_left; unfold x) | intro _ | lift_lets
    | apply State.reportOpen_keeps | apply At.ite | apply At.next | apply At.some | exact At.none | dsimp -zeta only [At.mkFst, At.mkSnd]
    | apply At.foldl | apply At.getD | apply At.fst | apply At.snd
    | ((conv => enter [3, 20]) <;> apply At.upd <;> first | exact .inl ‹_› | exact .inr rfl | skip)
    | ((conv => enter [3, 20]) <;> apply At.updCore) | split | exact At.ofMkFst ‹_› | exact At.ofMkSnd ‹_›
    | refine At.ofNext (by assumption) ?_ | refine At.ofFst (by assumption) ?_ | refine At.ofSnd (by assumption) ?_
    | refine At.ofOpt (by assumption) ?_ | refine At.ofOptSnd (by assumption) ?_ | refine At.ofOptFst (by assumption) ?_
    | refine At.ofOptSnd2 (by assumption) ?_ | apply At.mapAny | dsimp +zetaDelta only)

/-! ### Machine/Intake.lean -/

theorem State.accept_keeps {P : Part → Prop} {s₀ s : State} (dict_ : P .dict) (fb_ : P .fb) (stn_ : P .stn) (ses_ : P .ses) (st : Nat) (e :
    Intake) (mode : Nat) (half : Nat) (sid : Nat) (policy : Nat) (held : Bool) (result : Nat) (demoted : Bool) (hs : At (Keeps P s₀) It s)
    : At (Keeps P s₀) (Fst It) (State.accept s st e mode half sid policy held result demoted) := by
  unfold State.accept
  with_reducible repeat' (first
    | assumption | (intro x; refine At.cut x ?_ ?_; rotate_left; intro _; clear_value x; rotate_left; unfold x) | intro _ | lift_lets
    | apply State.setIntake_keeps | apply State.leaveIntake_keeps | apply State.numberAccept_keeps | apply State.finish_keeps
    | apply State.appendRec_keeps | apply State.seqAdd_keeps | apply State.waitDurable_keeps | apply State.modSess_keeps | apply At.ite
    | apply At.next | apply At.some | exact At.none | dsimp -zeta only [At.mkFst, At.mkSnd] | apply At.foldl | apply At.getD
    | apply At.fst | apply At.snd | ((conv => enter [3, 20]) <;> apply At.upd <;> first | exact .inl ‹_› | exact .inr rfl | skip)
    | ((conv => enter [3, 20]) <;> apply At.updCore) | split | exact At.ofMkFst ‹_› | exact At.ofMkSnd ‹_›
    | refine At.ofNext (by assumption) ?_ | refine At.ofFst (by assumption) ?_ | refine At.ofSnd (by assumption) ?_
    | refine At.ofOpt (by assumption) ?_ | refine At.ofOptSnd (by assumption) ?_ | refine At.ofOptFst (by assumption) ?_
    | refine At.ofOptSnd2 (by assumption) ?_ | apply At.mapAny | dsimp +zetaDelta only)

theorem State.completeAccept_keeps {P : Part → Prop} {s₀ s : State} (dict_ : P .dict) (stn_ : P .stn) (st : Nat) (seq : Nat) (pos : Nat)
    (hs : At (Keeps P s₀) It s) : At (Keeps P s₀) It (State.completeAccept s st seq pos) := by
  unfold State.completeAccept
  with_reducible repeat' (first
    | assumption | (intro x; refine At.cut x ?_ ?_; rotate_left; intro _; clear_value x; rotate_left; unfold x) | intro _ | lift_lets
    | apply State.settle_keeps | apply State.goodbyeStep_keeps | apply At.ite | apply At.next | apply At.some | exact At.none
    | dsimp -zeta only [At.mkFst, At.mkSnd] | apply At.foldl | apply At.getD | apply At.fst | apply At.snd
    | ((conv => enter [3, 20]) <;> apply At.upd <;> first | exact .inl ‹_› | exact .inr rfl | skip)
    | ((conv => enter [3, 20]) <;> apply At.updCore) | split | exact At.ofMkFst ‹_› | exact At.ofMkSnd ‹_›
    | refine At.ofNext (by assumption) ?_ | refine At.ofFst (by assumption) ?_ | refine At.ofSnd (by assumption) ?_
    | refine At.ofOpt (by assumption) ?_ | refine At.ofOptSnd (by assumption) ?_ | refine At.ofOptFst (by assumption) ?_
    | refine At.ofOptSnd2 (by assumption) ?_ | apply At.mapAny | dsimp +zetaDelta only)

theorem State.reviveOne_keeps {P : Part → Prop} {s₀ s : State} (dict_ : P .dict) (ses_ : P .ses) (tier_ : P .tier) (free_ : P .free) (i :
    Nat) (hs : At (Keeps P s₀) It s) : At (Keeps P s₀) It (State.reviveOne s i) := by
  unfold State.reviveOne
  with_reducible repeat' (first
    | assumption | (intro x; refine At.cut x ?_ ?_; rotate_left; intro _; clear_value x; rotate_left; unfold x) | intro _ | lift_lets
    | apply State.toRebuild_keeps | apply State.produce_keeps | apply At.ite | apply At.next | apply At.some | exact At.none
    | dsimp -zeta only [At.mkFst, At.mkSnd] | apply At.foldl | apply At.getD | apply At.fst | apply At.snd
    | ((conv => enter [3, 20]) <;> apply At.upd <;> first | exact .inl ‹_› | exact .inr rfl | skip)
    | ((conv => enter [3, 20]) <;> apply At.updCore) | split | exact At.ofMkFst ‹_› | exact At.ofMkSnd ‹_›
    | refine At.ofNext (by assumption) ?_ | refine At.ofFst (by assumption) ?_ | refine At.ofSnd (by assumption) ?_
    | refine At.ofOpt (by assumption) ?_ | refine At.ofOptSnd (by assumption) ?_ | refine At.ofOptFst (by assumption) ?_
    | refine At.ofOptSnd2 (by assumption) ?_ | apply At.mapAny | dsimp +zetaDelta only)

theorem State.startRevive_keeps {P : Part → Prop} {s₀ s : State} (dict_ : P .dict) (ses_ : P .ses) (tier_ : P .tier) (free_ : P .free) (i :
    Nat) (hs : At (Keeps P s₀) It s) : At (Keeps P s₀) It (State.startRevive s i) := by
  unfold State.startRevive
  with_reducible repeat' (first
    | assumption | (intro x; refine At.cut x ?_ ?_; rotate_left; intro _; clear_value x; rotate_left; unfold x) | intro _ | lift_lets
    | apply State.modSess_keeps | apply State.stopParking_keeps | apply State.reviveOne_keeps | apply At.ite | apply At.next
    | apply At.some | exact At.none | dsimp -zeta only [At.mkFst, At.mkSnd] | apply At.foldl | apply At.getD | apply At.fst | apply At.snd
    | ((conv => enter [3, 20]) <;> apply At.upd <;> first | exact .inl ‹_› | exact .inr rfl | skip)
    | ((conv => enter [3, 20]) <;> apply At.updCore) | split | exact At.ofMkFst ‹_› | exact At.ofMkSnd ‹_›
    | refine At.ofNext (by assumption) ?_ | refine At.ofFst (by assumption) ?_ | refine At.ofSnd (by assumption) ?_
    | refine At.ofOpt (by assumption) ?_ | refine At.ofOptSnd (by assumption) ?_ | refine At.ofOptFst (by assumption) ?_
    | refine At.ofOptSnd2 (by assumption) ?_ | apply At.mapAny | dsimp +zetaDelta only)

theorem State.startPark_keeps {P : Part → Prop} {s₀ s : State} (dict_ : P .dict) (ses_ : P .ses) (tier_ : P .tier) (i : Nat) (target : Nat)
    (hs : At (Keeps P s₀) It s) : At (Keeps P s₀) It (State.startPark s i target) := by
  unfold State.startPark
  with_reducible repeat' (first
    | assumption | (intro x; refine At.cut x ?_ ?_; rotate_left; intro _; clear_value x; rotate_left; unfold x) | intro _ | lift_lets
    | apply State.setSess_keeps | apply State.produce_keeps | apply At.ite | apply At.next | apply At.some | exact At.none
    | dsimp -zeta only [At.mkFst, At.mkSnd] | apply At.foldl | apply At.getD | apply At.fst | apply At.snd
    | ((conv => enter [3, 20]) <;> apply At.upd <;> first | exact .inl ‹_› | exact .inr rfl | skip)
    | ((conv => enter [3, 20]) <;> apply At.updCore) | split | exact At.ofMkFst ‹_› | exact At.ofMkSnd ‹_›
    | refine At.ofNext (by assumption) ?_ | refine At.ofFst (by assumption) ?_ | refine At.ofSnd (by assumption) ?_
    | refine At.ofOpt (by assumption) ?_ | refine At.ofOptSnd (by assumption) ?_ | refine At.ofOptFst (by assumption) ?_
    | refine At.ofOptSnd2 (by assumption) ?_ | apply At.mapAny | dsimp +zetaDelta only)

theorem State.turnStart_keeps {P : Part → Prop} {s₀ s : State} (dict_ : P .dict) (ses_ : P .ses) (tier_ : P .tier) (free_ : P .free) (i :
    Nat) (hs : At (Keeps P s₀) It s) : At (Keeps P s₀) It (State.turnStart s i) := by
  unfold State.turnStart
  with_reducible repeat' (first
    | assumption | (intro x; refine At.cut x ?_ ?_; rotate_left; intro _; clear_value x; rotate_left; unfold x) | intro _ | lift_lets
    | apply State.modSess_keeps | apply State.spillStack_keeps | apply At.ite | apply At.next | apply At.some | exact At.none
    | dsimp -zeta only [At.mkFst, At.mkSnd] | apply At.foldl | apply At.getD | apply At.fst | apply At.snd
    | ((conv => enter [3, 20]) <;> apply At.upd <;> first | exact .inl ‹_› | exact .inr rfl | skip)
    | ((conv => enter [3, 20]) <;> apply At.updCore) | split | exact At.ofMkFst ‹_› | exact At.ofMkSnd ‹_›
    | refine At.ofNext (by assumption) ?_ | refine At.ofFst (by assumption) ?_ | refine At.ofSnd (by assumption) ?_
    | refine At.ofOpt (by assumption) ?_ | refine At.ofOptSnd (by assumption) ?_ | refine At.ofOptFst (by assumption) ?_
    | refine At.ofOptSnd2 (by assumption) ?_ | apply At.mapAny | dsimp +zetaDelta only)

theorem State.reviveAt_keeps {P : Part → Prop} {s₀ s : State} (dict_ : P .dict) (fb_ : P .fb) (ses_ : P .ses) (tier_ : P .tier) (free_ : P
    .free) (i : Nat) (sid : Nat) (pos : Nat) (hs : At (Keeps P s₀) It s) : At (Keeps P s₀) It (State.reviveAt s i sid pos) := by
  unfold State.reviveAt
  with_reducible repeat' (first
    | assumption | (intro x; refine At.cut x ?_ ?_; rotate_left; intro _; clear_value x; rotate_left; unfold x) | intro _ | lift_lets
    | apply State.waitDurable_keeps | apply State.startRevive_keeps | apply At.ite | apply At.next | apply At.some | exact At.none
    | dsimp -zeta only [At.mkFst, At.mkSnd] | apply At.foldl | apply At.getD | apply At.fst | apply At.snd
    | ((conv => enter [3, 20]) <;> apply At.upd <;> first | exact .inl ‹_› | exact .inr rfl | skip)
    | ((conv => enter [3, 20]) <;> apply At.updCore) | split | exact At.ofMkFst ‹_› | exact At.ofMkSnd ‹_›
    | refine At.ofNext (by assumption) ?_ | refine At.ofFst (by assumption) ?_ | refine At.ofSnd (by assumption) ?_
    | refine At.ofOpt (by assumption) ?_ | refine At.ofOptSnd (by assumption) ?_ | refine At.ofOptFst (by assumption) ?_
    | refine At.ofOptSnd2 (by assumption) ?_ | apply At.mapAny | dsimp +zetaDelta only)

theorem State.workArrived_keeps {P : Part → Prop} {s₀ s : State} (dict_ : P .dict) (fb_ : P .fb) (ses_ : P .ses) (tier_ : P .tier) (free_ :
    P .free) (i : Nat) (pos : Nat) (hs : At (Keeps P s₀) It s) : At (Keeps P s₀) It (State.workArrived s i pos) := by
  unfold State.workArrived
  with_reducible repeat' (first
    | assumption | (intro x; refine At.cut x ?_ ?_; rotate_left; intro _; clear_value x; rotate_left; unfold x) | intro _ | lift_lets
    | apply State.modSess_keeps | apply State.stopParking_keeps | apply State.toQueued_keeps | apply State.turnStart_keeps
    | apply State.reviveAt_keeps | apply At.ite | apply At.next | apply At.some | exact At.none | dsimp -zeta only [At.mkFst, At.mkSnd]
    | apply At.foldl | apply At.getD | apply At.fst | apply At.snd
    | ((conv => enter [3, 20]) <;> apply At.upd <;> first | exact .inl ‹_› | exact .inr rfl | skip)
    | ((conv => enter [3, 20]) <;> apply At.updCore) | split | exact At.ofMkFst ‹_› | exact At.ofMkSnd ‹_›
    | refine At.ofNext (by assumption) ?_ | refine At.ofFst (by assumption) ?_ | refine At.ofSnd (by assumption) ?_
    | refine At.ofOpt (by assumption) ?_ | refine At.ofOptSnd (by assumption) ?_ | refine At.ofOptFst (by assumption) ?_
    | refine At.ofOptSnd2 (by assumption) ?_ | apply At.mapAny | dsimp +zetaDelta only)

theorem State.takeInput_keeps {P : Part → Prop} {s₀ s : State} (dict_ : P .dict) (fb_ : P .fb) (stn_ : P .stn) (ses_ : P .ses) (tier_ : P
    .tier) (free_ : P .free) (st : Nat) (e : Intake) (x : Session) (b : InputBody) (final : Bool) (held : Bool) (hs : At (Keeps P s₀) It s)
    : At (Keeps P s₀) It (State.takeInput s st e x b final held) := by
  unfold State.takeInput
  with_reducible repeat' (first
    | assumption | (intro x; refine At.cut x ?_ ?_; rotate_left; intro _; clear_value x; rotate_left; unfold x) | intro _ | lift_lets
    | apply State.modSess_keeps | apply State.stopParking_keeps | apply State.accept_keeps | apply State.reviveAt_keeps
    | apply State.workArrived_keeps | apply At.ite | apply At.next | apply At.some | exact At.none | dsimp -zeta only [At.mkFst, At.mkSnd]
    | apply At.foldl | apply At.getD | apply At.fst | apply At.snd
    | ((conv => enter [3, 20]) <;> apply At.upd <;> first | exact .inl ‹_› | exact .inr rfl | skip)
    | ((conv => enter [3, 20]) <;> apply At.updCore) | split | exact At.ofMkFst ‹_› | exact At.ofMkSnd ‹_›
    | refine At.ofNext (by assumption) ?_ | refine At.ofFst (by assumption) ?_ | refine At.ofSnd (by assumption) ?_
    | refine At.ofOpt (by assumption) ?_ | refine At.ofOptSnd (by assumption) ?_ | refine At.ofOptFst (by assumption) ?_
    | refine At.ofOptSnd2 (by assumption) ?_ | apply At.mapAny | dsimp +zetaDelta only)

theorem State.cancelSession_keeps {P : Part → Prop} {s₀ s : State} (dict_ : P .dict) (fb_ : P .fb) (ses_ : P .ses) (tier_ : P .tier) (trv_
    : P .trv) (i : Nat) (hs : At (Keeps P s₀) It s) : At (Keeps P s₀) It (State.cancelSession s i) := by
  unfold State.cancelSession
  with_reducible repeat' (first
    | assumption | (intro x; refine At.cut x ?_ ?_; rotate_left; intro _; clear_value x; rotate_left; unfold x) | intro _ | lift_lets
    | apply State.waitDurable_keeps | apply State.modSess_keeps | apply State.srec_keeps | apply State.freePages_keeps
    | apply State.freeQueue_keeps | apply State.maskRows_keeps | apply At.ite | apply At.next | apply At.some | exact At.none
    | dsimp -zeta only [At.mkFst, At.mkSnd] | apply At.foldl | apply At.getD | apply At.fst | apply At.snd
    | ((conv => enter [3, 20]) <;> apply At.upd <;> first | exact .inl ‹_› | exact .inr rfl | skip)
    | ((conv => enter [3, 20]) <;> apply At.updCore) | split | exact At.ofMkFst ‹_› | exact At.ofMkSnd ‹_›
    | refine At.ofNext (by assumption) ?_ | refine At.ofFst (by assumption) ?_ | refine At.ofSnd (by assumption) ?_
    | refine At.ofOpt (by assumption) ?_ | refine At.ofOptSnd (by assumption) ?_ | refine At.ofOptFst (by assumption) ?_
    | refine At.ofOptSnd2 (by assumption) ?_ | apply At.mapAny | dsimp +zetaDelta only)

theorem State.fillTail_keeps {P : Part → Prop} {s₀ s : State} (dict_ : P .dict) (ses_ : P .ses) (tier_ : P .tier) (i : Nat) (p : Session)
    (hs : At (Keeps P s₀) It s) : At (Keeps P s₀) It (State.fillTail s i p) := by
  unfold State.fillTail
  with_reducible repeat' (first
    | assumption | (intro x; refine At.cut x ?_ ?_; rotate_left; intro _; clear_value x; rotate_left; unfold x) | intro _ | lift_lets
    | apply State.writeTile_keeps | apply At.ite | apply At.next | apply At.some | exact At.none | dsimp -zeta only [At.mkFst, At.mkSnd]
    | apply At.foldl | apply At.getD | apply At.fst | apply At.snd
    | ((conv => enter [3, 20]) <;> apply At.upd <;> first | exact .inl ‹_› | exact .inr rfl | skip)
    | ((conv => enter [3, 20]) <;> apply At.updCore) | split | exact At.ofMkFst ‹_› | exact At.ofMkSnd ‹_›
    | refine At.ofNext (by assumption) ?_ | refine At.ofFst (by assumption) ?_ | refine At.ofSnd (by assumption) ?_
    | refine At.ofOpt (by assumption) ?_ | refine At.ofOptSnd (by assumption) ?_ | refine At.ofOptFst (by assumption) ?_
    | refine At.ofOptSnd2 (by assumption) ?_ | apply At.mapAny | dsimp +zetaDelta only)

theorem State.copyTail_keeps {P : Part → Prop} {s₀ s : State} (dict_ : P .dict) (ses_ : P .ses) (tier_ : P .tier) (free_ : P .free) (i :
    Nat) (p : Session) (hs : At (Keeps P s₀) It s) : At (Keeps P s₀) It (State.copyTail s i p) := by
  unfold State.copyTail
  with_reducible repeat' (first
    | assumption | (intro x; refine At.cut x ?_ ?_; rotate_left; intro _; clear_value x; rotate_left; unfold x) | intro _ | lift_lets
    | apply State.modSess_keeps | apply State.allocBlock_keeps | apply State.fillTail_keeps | apply At.ite | apply At.next | apply At.some
    | exact At.none | dsimp -zeta only [At.mkFst, At.mkSnd] | apply At.foldl | apply At.getD | apply At.fst | apply At.snd
    | ((conv => enter [3, 20]) <;> apply At.upd <;> first | exact .inl ‹_› | exact .inr rfl | skip)
    | ((conv => enter [3, 20]) <;> apply At.updCore) | split | exact At.ofMkFst ‹_› | exact At.ofMkSnd ‹_›
    | refine At.ofNext (by assumption) ?_ | refine At.ofFst (by assumption) ?_ | refine At.ofSnd (by assumption) ?_
    | refine At.ofOpt (by assumption) ?_ | refine At.ofOptSnd (by assumption) ?_ | refine At.ofOptFst (by assumption) ?_
    | refine At.ofOptSnd2 (by assumption) ?_ | apply At.mapAny | dsimp +zetaDelta only)

theorem State.joinPrefix_keeps {P : Part → Prop} {s₀ s : State} (dict_ : P .dict) (ses_ : P .ses) (tier_ : P .tier) (free_ : P .free) (i :
    Nat) (p : Session) (hs : At (Keeps P s₀) It s) : At (Keeps P s₀) It (State.joinPrefix s i p) := by
  unfold State.joinPrefix
  with_reducible repeat' (first
    | assumption | (intro x; refine At.cut x ?_ ?_; rotate_left; intro _; clear_value x; rotate_left; unfold x) | intro _ | lift_lets
    | apply State.modSess_keeps | apply State.growPt_keeps | apply State.copyTail_keeps | apply At.ite | apply At.next | apply At.some
    | exact At.none | dsimp -zeta only [At.mkFst, At.mkSnd] | apply At.foldl | apply At.getD | apply At.fst | apply At.snd
    | ((conv => enter [3, 20]) <;> apply At.upd <;> first | exact .inl ‹_› | exact .inr rfl | skip)
    | ((conv => enter [3, 20]) <;> apply At.updCore) | split | exact At.ofMkFst ‹_› | exact At.ofMkSnd ‹_›
    | refine At.ofNext (by assumption) ?_ | refine At.ofFst (by assumption) ?_ | refine At.ofSnd (by assumption) ?_
    | refine At.ofOpt (by assumption) ?_ | refine At.ofOptSnd (by assumption) ?_ | refine At.ofOptFst (by assumption) ?_
    | refine At.ofOptSnd2 (by assumption) ?_ | apply At.mapAny | dsimp +zetaDelta only)

theorem State.joinSharers_keeps {P : Part → Prop} {s₀ s : State} (dict_ : P .dict) (ses_ : P .ses) (tier_ : P .tier) (free_ : P .free) (hs
    : At (Keeps P s₀) It s) : At (Keeps P s₀) It (State.joinSharers s) := by
  unfold State.joinSharers
  with_reducible repeat' (first
    | assumption | (intro x; refine At.cut x ?_ ?_; rotate_left; intro _; clear_value x; rotate_left; unfold x) | intro _ | lift_lets
    | apply State.modSess_keeps | apply State.fillTail_keeps | apply State.joinPrefix_keeps | apply At.ite | apply At.next | apply At.some
    | exact At.none | dsimp -zeta only [At.mkFst, At.mkSnd] | apply At.foldl | apply At.getD | apply At.fst | apply At.snd
    | ((conv => enter [3, 20]) <;> apply At.upd <;> first | exact .inl ‹_› | exact .inr rfl | skip)
    | ((conv => enter [3, 20]) <;> apply At.updCore) | split | exact At.ofMkFst ‹_› | exact At.ofMkSnd ‹_›
    | refine At.ofNext (by assumption) ?_ | refine At.ofFst (by assumption) ?_ | refine At.ofSnd (by assumption) ?_
    | refine At.ofOpt (by assumption) ?_ | refine At.ofOptSnd (by assumption) ?_ | refine At.ofOptFst (by assumption) ?_
    | refine At.ofOptSnd2 (by assumption) ?_ | apply At.mapAny | dsimp +zetaDelta only)

theorem State.prefixLook_keeps {P : Part → Prop} {s₀ s : State} (dict_ : P .dict) (srch_ : P .srch) (st : Nat) (pfx : Nat) (hs : At (Keeps
    P s₀) It s) : At (Keeps P s₀) It (State.prefixLook s st pfx) := by
  unfold State.prefixLook
  with_reducible repeat' (first
    | assumption | (intro x; refine At.cut x ?_ ?_; rotate_left; intro _; clear_value x; rotate_left; unfold x) | intro _ | lift_lets
    | apply State.camLookBoth_keeps | apply At.ite | apply At.next | apply At.some | exact At.none | dsimp -zeta only [At.mkFst, At.mkSnd]
    | apply At.foldl | apply At.getD | apply At.fst | apply At.snd
    | ((conv => enter [3, 20]) <;> apply At.upd <;> first | exact .inl ‹_› | exact .inr rfl | skip)
    | ((conv => enter [3, 20]) <;> apply At.updCore) | split | exact At.ofMkFst ‹_› | exact At.ofMkSnd ‹_›
    | refine At.ofNext (by assumption) ?_ | refine At.ofFst (by assumption) ?_ | refine At.ofSnd (by assumption) ?_
    | refine At.ofOpt (by assumption) ?_ | refine At.ofOptSnd (by assumption) ?_ | refine At.ofOptFst (by assumption) ?_
    | refine At.ofOptSnd2 (by assumption) ?_ | apply At.mapAny | dsimp +zetaDelta only)

theorem State.openMsg_keeps {P : Part → Prop} {s₀ s : State} (dict_ : P .dict) (fb_ : P .fb) (stn_ : P .stn) (ses_ : P .ses) (tier_ : P
    .tier) (srch_ : P .srch) (free_ : P .free) (st : Nat) (e : Intake) (b : OpenBody) (half : Nat) (hs : At (Keeps P s₀) It s) : At (Keeps
    P s₀) It (State.openMsg s st e b half) := by
  unfold State.openMsg
  with_reducible repeat' (first
    | assumption | (intro x; refine At.cut x ?_ ?_; rotate_left; intro _; clear_value x; rotate_left; unfold x) | intro _ | lift_lets
    | apply State.finish_keeps | apply State.setSess_keeps | apply State.takeIndex_keeps | apply State.setHash_keeps
    | apply State.resolve_keeps | apply State.camAddHandle_keeps | apply State.stopParks_keeps | apply State.growPt_keeps
    | apply State.accept_keeps | apply State.copyTail_keeps | apply State.prefixLook_keeps | apply At.ite | apply At.next | apply At.some
    | exact At.none | dsimp -zeta only [At.mkFst, At.mkSnd] | apply At.foldl | apply At.getD | apply At.fst | apply At.snd
    | ((conv => enter [3, 20]) <;> apply At.upd <;> first | exact .inl ‹_› | exact .inr rfl | skip)
    | ((conv => enter [3, 20]) <;> apply At.updCore) | split | exact At.ofMkFst ‹_› | exact At.ofMkSnd ‹_›
    | refine At.ofNext (by assumption) ?_ | refine At.ofFst (by assumption) ?_ | refine At.ofSnd (by assumption) ?_
    | refine At.ofOpt (by assumption) ?_ | refine At.ofOptSnd (by assumption) ?_ | refine At.ofOptFst (by assumption) ?_
    | refine At.ofOptSnd2 (by assumption) ?_ | apply At.mapAny | dsimp +zetaDelta only)

theorem State.prefixRegisterMsg_keeps {P : Part → Prop} {s₀ s : State} (dict_ : P .dict) (fb_ : P .fb) (stn_ : P .stn) (ses_ : P .ses)
    (tier_ : P .tier) (srch_ : P .srch) (free_ : P .free) (st : Nat) (e : Intake) (b : InputBody) (half : Nat) (hs : At (Keeps P s₀) It s)
    : At (Keeps P s₀) It (State.prefixRegisterMsg s st e b half) := by
  unfold State.prefixRegisterMsg
  with_reducible repeat' (first
    | assumption | (intro x; refine At.cut x ?_ ?_; rotate_left; intro _; clear_value x; rotate_left; unfold x) | intro _ | lift_lets
    | apply State.finish_keeps | apply State.setSess_keeps | apply State.modSess_keeps | apply State.takeIndex_keeps
    | apply State.enterHandles_keeps | apply State.toQueued_keeps | apply State.growPt_keeps | apply State.accept_keeps | apply At.ite
    | apply At.next | apply At.some | exact At.none | dsimp -zeta only [At.mkFst, At.mkSnd] | apply At.foldl | apply At.getD
    | apply At.fst | apply At.snd | ((conv => enter [3, 20]) <;> apply At.upd <;> first | exact .inl ‹_› | exact .inr rfl | skip)
    | ((conv => enter [3, 20]) <;> apply At.updCore) | split | exact At.ofMkFst ‹_› | exact At.ofMkSnd ‹_›
    | refine At.ofNext (by assumption) ?_ | refine At.ofFst (by assumption) ?_ | refine At.ofSnd (by assumption) ?_
    | refine At.ofOpt (by assumption) ?_ | refine At.ofOptSnd (by assumption) ?_ | refine At.ofOptFst (by assumption) ?_
    | refine At.ofOptSnd2 (by assumption) ?_ | apply At.mapAny | dsimp +zetaDelta only)

theorem State.prefixReleaseMsg_keeps {P : Part → Prop} {s₀ s : State} (dict_ : P .dict) (fb_ : P .fb) (stn_ : P .stn) (ses_ : P .ses)
    (tier_ : P .tier) (srch_ : P .srch) (st : Nat) (e : Intake) (hs : At (Keeps P s₀) It s) : At (Keeps P s₀) It (State.prefixReleaseMsg s
    st e) := by
  unfold State.prefixReleaseMsg
  with_reducible repeat' (first
    | assumption | (intro x; refine At.cut x ?_ ?_; rotate_left; intro _; clear_value x; rotate_left; unfold x) | intro _ | lift_lets
    | apply State.finish_keeps | apply State.setCam_keeps | apply State.camLookBoth_keeps | apply State.modSess_keeps
    | apply State.freePrefixIfDone_keeps | apply State.accept_keeps | apply At.ite | apply At.next | apply At.some | exact At.none
    | dsimp -zeta only [At.mkFst, At.mkSnd] | apply At.foldl | apply At.getD | apply At.fst | apply At.snd
    | ((conv => enter [3, 20]) <;> apply At.upd <;> first | exact .inl ‹_› | exact .inr rfl | skip)
    | ((conv => enter [3, 20]) <;> apply At.updCore) | split | exact At.ofMkFst ‹_› | exact At.ofMkSnd ‹_›
    | refine At.ofNext (by assumption) ?_ | refine At.ofFst (by assumption) ?_ | refine At.ofSnd (by assumption) ?_
    | refine At.ofOpt (by assumption) ?_ | refine At.ofOptSnd (by assumption) ?_ | refine At.ofOptFst (by assumption) ?_
    | refine At.ofOptSnd2 (by assumption) ?_ | apply At.mapAny | dsimp +zetaDelta only)

theorem State.sessionMsg_keeps {P : Part → Prop} {s₀ s : State} (dict_ : P .dict) (stn_ : P .stn) (ses_ : P .ses) (srch_ : P .srch) (st :
    Nat) (e : Intake) (m : SessMsg) (go : State → Session → Verdict → State) (hgo : ∀ u x0 x1, At (Keeps P s₀) It u → At (Keeps P s₀) It
    (go u x0 x1)) (hs : At (Keeps P s₀) It s) : At (Keeps P s₀) It (State.sessionMsg s st e m go) := by
  unfold State.sessionMsg
  with_reducible repeat' (first
    | assumption | (intro x; refine At.cut x ?_ ?_; rotate_left; intro _; clear_value x; rotate_left; unfold x) | intro _ | lift_lets
    | apply State.finish_keeps | apply State.resolve_keeps | apply hgo | apply At.ite | apply At.next | apply At.some | exact At.none
    | dsimp -zeta only [At.mkFst, At.mkSnd] | apply At.foldl | apply At.getD | apply At.fst | apply At.snd
    | ((conv => enter [3, 20]) <;> apply At.upd <;> first | exact .inl ‹_› | exact .inr rfl | skip)
    | ((conv => enter [3, 20]) <;> apply At.updCore) | split | exact At.ofMkFst ‹_› | exact At.ofMkSnd ‹_›
    | refine At.ofNext (by assumption) ?_ | refine At.ofFst (by assumption) ?_ | refine At.ofSnd (by assumption) ?_
    | refine At.ofOpt (by assumption) ?_ | refine At.ofOptSnd (by assumption) ?_ | refine At.ofOptFst (by assumption) ?_
    | refine At.ofOptSnd2 (by assumption) ?_ | apply At.mapAny | dsimp +zetaDelta only)

theorem State.appendMsg_keeps {P : Part → Prop} {s₀ s : State} (dict_ : P .dict) (fb_ : P .fb) (stn_ : P .stn) (ses_ : P .ses) (tier_ : P
    .tier) (srch_ : P .srch) (free_ : P .free) (st : Nat) (e : Intake) (b : InputBody) (hs : At (Keeps P s₀) It s) : At (Keeps P s₀) It
    (State.appendMsg s st e b) := by
  unfold State.appendMsg
  with_reducible repeat' (first
    | assumption | (intro x; refine At.cut x ?_ ?_; rotate_left; intro _; clear_value x; rotate_left; unfold x) | intro _ | lift_lets
    | apply State.takeInput_keeps | apply State.sessionMsg_keeps | apply At.ite | apply At.next | apply At.some | exact At.none
    | dsimp -zeta only [At.mkFst, At.mkSnd] | apply At.foldl | apply At.getD | apply At.fst | apply At.snd
    | ((conv => enter [3, 20]) <;> apply At.upd <;> first | exact .inl ‹_› | exact .inr rfl | skip)
    | ((conv => enter [3, 20]) <;> apply At.updCore) | split | exact At.ofMkFst ‹_› | exact At.ofMkSnd ‹_›
    | refine At.ofNext (by assumption) ?_ | refine At.ofFst (by assumption) ?_ | refine At.ofSnd (by assumption) ?_
    | refine At.ofOpt (by assumption) ?_ | refine At.ofOptSnd (by assumption) ?_ | refine At.ofOptFst (by assumption) ?_
    | refine At.ofOptSnd2 (by assumption) ?_ | apply At.mapAny | dsimp +zetaDelta only)

theorem State.resumeMsg_keeps {P : Part → Prop} {s₀ s : State} (dict_ : P .dict) (fb_ : P .fb) (stn_ : P .stn) (ses_ : P .ses) (tier_ : P
    .tier) (srch_ : P .srch) (free_ : P .free) (st : Nat) (e : Intake) (b : InputBody) (hs : At (Keeps P s₀) It s) : At (Keeps P s₀) It
    (State.resumeMsg s st e b) := by
  unfold State.resumeMsg
  with_reducible repeat' (first
    | assumption | (intro x; refine At.cut x ?_ ?_; rotate_left; intro _; clear_value x; rotate_left; unfold x) | intro _ | lift_lets
    | apply State.finish_keeps | apply State.modSess_keeps | apply State.takeInput_keeps | apply State.sessionMsg_keeps | apply At.ite
    | apply At.next | apply At.some | exact At.none | dsimp -zeta only [At.mkFst, At.mkSnd] | apply At.foldl | apply At.getD
    | apply At.fst | apply At.snd | ((conv => enter [3, 20]) <;> apply At.upd <;> first | exact .inl ‹_› | exact .inr rfl | skip)
    | ((conv => enter [3, 20]) <;> apply At.updCore) | split | exact At.ofMkFst ‹_› | exact At.ofMkSnd ‹_›
    | refine At.ofNext (by assumption) ?_ | refine At.ofFst (by assumption) ?_ | refine At.ofSnd (by assumption) ?_
    | refine At.ofOpt (by assumption) ?_ | refine At.ofOptSnd (by assumption) ?_ | refine At.ofOptFst (by assumption) ?_
    | refine At.ofOptSnd2 (by assumption) ?_ | apply At.mapAny | dsimp +zetaDelta only)

theorem State.cancelMsg_keeps {P : Part → Prop} {s₀ s : State} (dict_ : P .dict) (fb_ : P .fb) (stn_ : P .stn) (ses_ : P .ses) (tier_ : P
    .tier) (trv_ : P .trv) (srch_ : P .srch) (st : Nat) (e : Intake) (hs : At (Keeps P s₀) It s) : At (Keeps P s₀) It (State.cancelMsg s st
    e) := by
  unfold State.cancelMsg
  with_reducible repeat' (first
    | assumption | (intro x; refine At.cut x ?_ ?_; rotate_left; intro _; clear_value x; rotate_left; unfold x) | intro _ | lift_lets
    | apply State.modSess_keeps | apply State.accept_keeps | apply State.cancelSession_keeps | apply State.sessionMsg_keeps | apply At.ite
    | apply At.next | apply At.some | exact At.none | dsimp -zeta only [At.mkFst, At.mkSnd] | apply At.foldl | apply At.getD
    | apply At.fst | apply At.snd | ((conv => enter [3, 20]) <;> apply At.upd <;> first | exact .inl ‹_› | exact .inr rfl | skip)
    | ((conv => enter [3, 20]) <;> apply At.updCore) | split | exact At.ofMkFst ‹_› | exact At.ofMkSnd ‹_›
    | refine At.ofNext (by assumption) ?_ | refine At.ofFst (by assumption) ?_ | refine At.ofSnd (by assumption) ?_
    | refine At.ofOpt (by assumption) ?_ | refine At.ofOptSnd (by assumption) ?_ | refine At.ofOptFst (by assumption) ?_
    | refine At.ofOptSnd2 (by assumption) ?_ | apply At.mapAny | dsimp +zetaDelta only)

theorem State.closeMsg_keeps {P : Part → Prop} {s₀ s : State} (dict_ : P .dict) (fb_ : P .fb) (stn_ : P .stn) (ses_ : P .ses) (tier_ : P
    .tier) (trv_ : P .trv) (srch_ : P .srch) (st : Nat) (e : Intake) (hs : At (Keeps P s₀) It s) : At (Keeps P s₀) It (State.closeMsg s st
    e) := by
  unfold State.closeMsg
  with_reducible repeat' (first
    | assumption | (intro x; refine At.cut x ?_ ?_; rotate_left; intro _; clear_value x; rotate_left; unfold x) | intro _ | lift_lets
    | apply State.modSess_keeps | apply State.enterClosed_keeps | apply State.accept_keeps | apply State.sessionMsg_keeps | apply At.ite
    | apply At.next | apply At.some | exact At.none | dsimp -zeta only [At.mkFst, At.mkSnd] | apply At.foldl | apply At.getD
    | apply At.fst | apply At.snd | ((conv => enter [3, 20]) <;> apply At.upd <;> first | exact .inl ‹_› | exact .inr rfl | skip)
    | ((conv => enter [3, 20]) <;> apply At.updCore) | split | exact At.ofMkFst ‹_› | exact At.ofMkSnd ‹_›
    | refine At.ofNext (by assumption) ?_ | refine At.ofFst (by assumption) ?_ | refine At.ofSnd (by assumption) ?_
    | refine At.ofOpt (by assumption) ?_ | refine At.ofOptSnd (by assumption) ?_ | refine At.ofOptFst (by assumption) ?_
    | refine At.ofOptSnd2 (by assumption) ?_ | apply At.mapAny | dsimp +zetaDelta only)

theorem State.parkMsg_keeps {P : Part → Prop} {s₀ s : State} (dict_ : P .dict) (fb_ : P .fb) (stn_ : P .stn) (ses_ : P .ses) (tier_ : P
    .tier) (srch_ : P .srch) (st : Nat) (e : Intake) (hs : At (Keeps P s₀) It s) : At (Keeps P s₀) It (State.parkMsg s st e) := by
  unfold State.parkMsg
  with_reducible repeat' (first
    | assumption | (intro x; refine At.cut x ?_ ?_; rotate_left; intro _; clear_value x; rotate_left; unfold x) | intro _ | lift_lets
    | apply State.accept_keeps | apply State.startPark_keeps | apply State.sessionMsg_keeps | apply At.ite | apply At.next | apply At.some
    | exact At.none | dsimp -zeta only [At.mkFst, At.mkSnd] | apply At.foldl | apply At.getD | apply At.fst | apply At.snd
    | ((conv => enter [3, 20]) <;> apply At.upd <;> first | exact .inl ‹_› | exact .inr rfl | skip)
    | ((conv => enter [3, 20]) <;> apply At.updCore) | split | exact At.ofMkFst ‹_› | exact At.ofMkSnd ‹_›
    | refine At.ofNext (by assumption) ?_ | refine At.ofFst (by assumption) ?_ | refine At.ofSnd (by assumption) ?_
    | refine At.ofOpt (by assumption) ?_ | refine At.ofOptSnd (by assumption) ?_ | refine At.ofOptFst (by assumption) ?_
    | refine At.ofOptSnd2 (by assumption) ?_ | apply At.mapAny | dsimp +zetaDelta only)

theorem State.reviveMsg_keeps {P : Part → Prop} {s₀ s : State} (dict_ : P .dict) (fb_ : P .fb) (stn_ : P .stn) (ses_ : P .ses) (tier_ : P
    .tier) (srch_ : P .srch) (free_ : P .free) (st : Nat) (e : Intake) (hs : At (Keeps P s₀) It s) : At (Keeps P s₀) It (State.reviveMsg s
    st e) := by
  unfold State.reviveMsg
  with_reducible repeat' (first
    | assumption | (intro x; refine At.cut x ?_ ?_; rotate_left; intro _; clear_value x; rotate_left; unfold x) | intro _ | lift_lets
    | apply State.modSess_keeps | apply State.stopParking_keeps | apply State.accept_keeps | apply State.reviveAt_keeps
    | apply State.sessionMsg_keeps | apply At.ite | apply At.next | apply At.some | exact At.none | dsimp -zeta only [At.mkFst, At.mkSnd]
    | apply At.foldl | apply At.getD | apply At.fst | apply At.snd
    | ((conv => enter [3, 20]) <;> apply At.upd <;> first | exact .inl ‹_› | exact .inr rfl | skip)
    | ((conv => enter [3, 20]) <;> apply At.updCore) | split | exact At.ofMkFst ‹_› | exact At.ofMkSnd ‹_›
    | refine At.ofNext (by assumption) ?_ | refine At.ofFst (by assumption) ?_ | refine At.ofSnd (by assumption) ?_
    | refine At.ofOpt (by assumption) ?_ | refine At.ofOptSnd (by assumption) ?_ | refine At.ofOptFst (by assumption) ?_
    | refine At.ofOptSnd2 (by assumption) ?_ | apply At.mapAny | dsimp +zetaDelta only)

theorem State.helloMsg_keeps {P : Part → Prop} {s₀ s : State} (dict_ : P .dict) (mgmt_ : P .mgmt) (stn_ : P .stn) (free_ : P .free) (st :
    Nat) (e : Intake) (b : HelloBody) (hs : At (Keeps P s₀) It s) : At (Keeps P s₀) It (State.helloMsg s st e b) := by
  unfold State.helloMsg
  with_reducible repeat' (first
    | assumption | (intro x; refine At.cut x ?_ ?_; rotate_left; intro _; clear_value x; rotate_left; unfold x) | intro _ | lift_lets
    | apply State.freshNonce_keeps | apply State.setObj_keeps | apply State.setStr_keeps | apply State.setStation_keeps
    | apply State.setStationState_keeps | apply State.finish_keeps | apply At.ite | apply At.next | apply At.some | exact At.none
    | dsimp -zeta only [At.mkFst, At.mkSnd] | apply At.foldl | apply At.getD | apply At.fst | apply At.snd
    | ((conv => enter [3, 20]) <;> apply At.upd <;> first | exact .inl ‹_› | exact .inr rfl | skip)
    | ((conv => enter [3, 20]) <;> apply At.updCore) | split | exact At.ofMkFst ‹_› | exact At.ofMkSnd ‹_›
    | refine At.ofNext (by assumption) ?_ | refine At.ofFst (by assumption) ?_ | refine At.ofSnd (by assumption) ?_
    | refine At.ofOpt (by assumption) ?_ | refine At.ofOptSnd (by assumption) ?_ | refine At.ofOptFst (by assumption) ?_
    | refine At.ofOptSnd2 (by assumption) ?_ | apply At.mapAny | dsimp +zetaDelta only)

theorem State.ringNameMsg_keeps {P : Part → Prop} {s₀ s : State} (dict_ : P .dict) (stn_ : P .stn) (ses_ : P .ses) (srch_ : P .srch) (st :
    Nat) (e : Intake) (b : RingNameBody) (hs : At (Keeps P s₀) It s) : At (Keeps P s₀) It (State.ringNameMsg s st e b) := by
  unfold State.ringNameMsg
  with_reducible repeat' (first
    | assumption | (intro x; refine At.cut x ?_ ?_; rotate_left; intro _; clear_value x; rotate_left; unfold x) | intro _ | lift_lets
    | apply State.finish_keeps | apply State.modSess_keeps | apply State.resolve_keeps | apply At.ite | apply At.next | apply At.some
    | exact At.none | dsimp -zeta only [At.mkFst, At.mkSnd] | apply At.foldl | apply At.getD | apply At.fst | apply At.snd
    | ((conv => enter [3, 20]) <;> apply At.upd <;> first | exact .inl ‹_› | exact .inr rfl | skip)
    | ((conv => enter [3, 20]) <;> apply At.updCore) | split | exact At.ofMkFst ‹_› | exact At.ofMkSnd ‹_›
    | refine At.ofNext (by assumption) ?_ | refine At.ofFst (by assumption) ?_ | refine At.ofSnd (by assumption) ?_
    | refine At.ofOpt (by assumption) ?_ | refine At.ofOptSnd (by assumption) ?_ | refine At.ofOptFst (by assumption) ?_
    | refine At.ofOptSnd2 (by assumption) ?_ | apply At.mapAny | dsimp +zetaDelta only)

theorem State.ruleLook_keeps {P : Part → Prop} {s₀ s : State} (dict_ : P .dict) (srch_ : P .srch) (st : Nat) (e : Intake) (hs : At (Keeps P
    s₀) It s) : At (Keeps P s₀) It (State.ruleLook s st e) := by
  unfold State.ruleLook
  with_reducible repeat' (first
    | assumption | (intro x; refine At.cut x ?_ ?_; rotate_left; intro _; clear_value x; rotate_left; unfold x) | intro _ | lift_lets
    | apply State.camLook_keeps | apply At.ite | apply At.next | apply At.some | exact At.none | dsimp -zeta only [At.mkFst, At.mkSnd]
    | apply At.foldl | apply At.getD | apply At.fst | apply At.snd
    | ((conv => enter [3, 20]) <;> apply At.upd <;> first | exact .inl ‹_› | exact .inr rfl | skip)
    | ((conv => enter [3, 20]) <;> apply At.updCore) | split | exact At.ofMkFst ‹_› | exact At.ofMkSnd ‹_›
    | refine At.ofNext (by assumption) ?_ | refine At.ofFst (by assumption) ?_ | refine At.ofSnd (by assumption) ?_
    | refine At.ofOpt (by assumption) ?_ | refine At.ofOptSnd (by assumption) ?_ | refine At.ofOptFst (by assumption) ?_
    | refine At.ofOptSnd2 (by assumption) ?_ | apply At.mapAny | dsimp +zetaDelta only)

theorem State.countDeferred_keeps {P : Part → Prop} {s₀ s : State} (dict_ : P .dict) (hs : At (Keeps P s₀) It s) : At (Keeps P s₀) It
    (State.countDeferred s) := by
  unfold State.countDeferred
  with_reducible repeat' (first
    | assumption | (intro x; refine At.cut x ?_ ?_; rotate_left; intro _; clear_value x; rotate_left; unfold x) | intro _ | lift_lets
    | apply State.bump_keeps | apply At.ite | apply At.next | apply At.some | exact At.none | dsimp -zeta only [At.mkFst, At.mkSnd]
    | apply At.foldl | apply At.getD | apply At.fst | apply At.snd
    | ((conv => enter [3, 20]) <;> apply At.upd <;> first | exact .inl ‹_› | exact .inr rfl | skip)
    | ((conv => enter [3, 20]) <;> apply At.updCore) | split | exact At.ofMkFst ‹_› | exact At.ofMkSnd ‹_›
    | refine At.ofNext (by assumption) ?_ | refine At.ofFst (by assumption) ?_ | refine At.ofSnd (by assumption) ?_
    | refine At.ofOpt (by assumption) ?_ | refine At.ofOptSnd (by assumption) ?_ | refine At.ofOptFst (by assumption) ?_
    | refine At.ofOptSnd2 (by assumption) ?_ | apply At.mapAny | dsimp +zetaDelta only)

/-! ### Machine/Lists.lean -/

theorem State.nameAll_keeps {P : Part → Prop} {s₀ s : State} (ses_ : P .ses) (l : SlotList) (hs : At (Keeps P s₀) It s) : At (Keeps P s₀)
    It (State.nameAll s l) := by
  unfold State.nameAll
  with_reducible repeat' (first
    | assumption | (intro x; refine At.cut x ?_ ?_; rotate_left; intro _; clear_value x; rotate_left; unfold x) | intro _ | lift_lets
    | apply State.modSess_keeps | apply At.ite | apply At.next | apply At.some | exact At.none | dsimp -zeta only [At.mkFst, At.mkSnd]
    | apply At.foldl | apply At.getD | apply At.fst | apply At.snd
    | ((conv => enter [3, 20]) <;> apply At.upd <;> first | exact .inl ‹_› | exact .inr rfl | skip)
    | ((conv => enter [3, 20]) <;> apply At.updCore) | split | exact At.ofMkFst ‹_› | exact At.ofMkSnd ‹_›
    | refine At.ofNext (by assumption) ?_ | refine At.ofFst (by assumption) ?_ | refine At.ofSnd (by assumption) ?_
    | refine At.ofOpt (by assumption) ?_ | refine At.ofOptSnd (by assumption) ?_ | refine At.ofOptFst (by assumption) ?_
    | refine At.ofOptSnd2 (by assumption) ?_ | apply At.mapAny | dsimp +zetaDelta only)

theorem State.unnameAll_keeps {P : Part → Prop} {s₀ s : State} (ses_ : P .ses) (l : SlotList) (hs : At (Keeps P s₀) It s) : At (Keeps P s₀)
    It (State.unnameAll s l) := by
  unfold State.unnameAll
  with_reducible repeat' (first
    | assumption | (intro x; refine At.cut x ?_ ?_; rotate_left; intro _; clear_value x; rotate_left; unfold x) | intro _ | lift_lets
    | apply State.modSess_keeps | apply At.ite | apply At.next | apply At.some | exact At.none | dsimp -zeta only [At.mkFst, At.mkSnd]
    | apply At.foldl | apply At.getD | apply At.fst | apply At.snd
    | ((conv => enter [3, 20]) <;> apply At.upd <;> first | exact .inl ‹_› | exact .inr rfl | skip)
    | ((conv => enter [3, 20]) <;> apply At.updCore) | split | exact At.ofMkFst ‹_› | exact At.ofMkSnd ‹_›
    | refine At.ofNext (by assumption) ?_ | refine At.ofFst (by assumption) ?_ | refine At.ofSnd (by assumption) ?_
    | refine At.ofOpt (by assumption) ?_ | refine At.ofOptSnd (by assumption) ?_ | refine At.ofOptFst (by assumption) ?_
    | refine At.ofOptSnd2 (by assumption) ?_ | apply At.mapAny | dsimp +zetaDelta only)

theorem State.withdraw_keeps {P : Part → Prop} {s₀ s : State} (ses_ : P .ses) (shape_ : P .shape) (trv_ : P .trv) (p : PendingList) (hs :
    At (Keeps P s₀) It s) : At (Keeps P s₀) It (State.withdraw s p) := by
  unfold State.withdraw
  with_reducible repeat' (first
    | assumption | (intro x; refine At.cut x ?_ ?_; rotate_left; intro _; clear_value x; rotate_left; unfold x) | intro _ | lift_lets
    | apply State.modSess_keeps | apply State.unnameAll_keeps | apply At.ite | apply At.next | apply At.some | exact At.none
    | dsimp -zeta only [At.mkFst, At.mkSnd] | apply At.foldl | apply At.getD | apply At.fst | apply At.snd
    | ((conv => enter [3, 20]) <;> apply At.upd <;> first | exact .inl ‹_› | exact .inr rfl | skip)
    | ((conv => enter [3, 20]) <;> apply At.updCore) | split | exact At.ofMkFst ‹_› | exact At.ofMkSnd ‹_›
    | refine At.ofNext (by assumption) ?_ | refine At.ofFst (by assumption) ?_ | refine At.ofSnd (by assumption) ?_
    | refine At.ofOpt (by assumption) ?_ | refine At.ofOptSnd (by assumption) ?_ | refine At.ofOptFst (by assumption) ?_
    | refine At.ofOptSnd2 (by assumption) ?_ | apply At.mapAny | dsimp +zetaDelta only)

theorem State.holdRings_keeps {P : Part → Prop} {s₀ s : State} (dict_ : P .dict) (ses_ : P .ses) (h : TrvHeader) (hs : At (Keeps P s₀) It
    s) : At (Keeps P s₀) It (State.holdRings s h) := by
  unfold State.holdRings
  with_reducible repeat' (first
    | assumption | (intro x; refine At.cut x ?_ ?_; rotate_left; intro _; clear_value x; rotate_left; unfold x) | intro _ | lift_lets
    | apply State.bump_keeps | apply State.modSess_keeps | apply At.ite | apply At.next | apply At.some | exact At.none
    | dsimp -zeta only [At.mkFst, At.mkSnd] | apply At.foldl | apply At.getD | apply At.fst | apply At.snd
    | ((conv => enter [3, 20]) <;> apply At.upd <;> first | exact .inl ‹_› | exact .inr rfl | skip)
    | ((conv => enter [3, 20]) <;> apply At.updCore) | split | exact At.ofMkFst ‹_› | exact At.ofMkSnd ‹_›
    | refine At.ofNext (by assumption) ?_ | refine At.ofFst (by assumption) ?_ | refine At.ofSnd (by assumption) ?_
    | refine At.ofOpt (by assumption) ?_ | refine At.ofOptSnd (by assumption) ?_ | refine At.ofOptFst (by assumption) ?_
    | refine At.ofOptSnd2 (by assumption) ?_ | apply At.mapAny | dsimp +zetaDelta only)

theorem State.claimRows_keeps {P : Part → Prop} {s₀ s : State} (ses_ : P .ses) (placed : List (Nat × Nat)) (hs : At (Keeps P s₀) It s) : At
    (Keeps P s₀) It (State.claimRows s placed) := by
  unfold State.claimRows
  with_reducible repeat' (first
    | assumption | (intro x; refine At.cut x ?_ ?_; rotate_left; intro _; clear_value x; rotate_left; unfold x) | intro _ | lift_lets
    | apply State.modSess_keeps | apply At.ite | apply At.next | apply At.some | exact At.none | dsimp -zeta only [At.mkFst, At.mkSnd]
    | apply At.foldl | apply At.getD | apply At.fst | apply At.snd
    | ((conv => enter [3, 20]) <;> apply At.upd <;> first | exact .inl ‹_› | exact .inr rfl | skip)
    | ((conv => enter [3, 20]) <;> apply At.updCore) | split | exact At.ofMkFst ‹_› | exact At.ofMkSnd ‹_›
    | refine At.ofNext (by assumption) ?_ | refine At.ofFst (by assumption) ?_ | refine At.ofSnd (by assumption) ?_
    | refine At.ofOpt (by assumption) ?_ | refine At.ofOptSnd (by assumption) ?_ | refine At.ofOptFst (by assumption) ?_
    | refine At.ofOptSnd2 (by assumption) ?_ | apply At.mapAny | dsimp +zetaDelta only)

theorem State.issueList_keeps {P : Part → Prop} {s₀ s : State} (dict_ : P .dict) (ses_ : P .ses) (tier_ : P .tier) (shape_ : P .shape)
    (trv_ : P .trv) (takeover : Nat) (others : List RowCand) (hs : At (Keeps P s₀) It s) : At (Keeps P s₀) It (State.issueList s takeover
    others) := by
  unfold State.issueList
  with_reducible repeat' (first
    | assumption | (intro x; refine At.cut x ?_ ?_; rotate_left; intro _; clear_value x; rotate_left; unfold x) | intro _ | lift_lets
    | apply State.addObj_keeps | apply State.bump_keeps | apply State.lockSend_keeps | apply State.nameAll_keeps
    | apply State.holdRings_keeps | apply State.claimRows_keeps | apply At.ite | apply At.next | apply At.some | exact At.none
    | dsimp -zeta only [At.mkFst, At.mkSnd] | apply At.foldl | apply At.getD | apply At.fst | apply At.snd
    | ((conv => enter [3, 20]) <;> apply At.upd <;> first | exact .inl ‹_› | exact .inr rfl | skip)
    | ((conv => enter [3, 20]) <;> apply At.updCore) | split | exact At.ofMkFst ‹_› | exact At.ofMkSnd ‹_›
    | refine At.ofNext (by assumption) ?_ | refine At.ofFst (by assumption) ?_ | refine At.ofSnd (by assumption) ?_
    | refine At.ofOpt (by assumption) ?_ | refine At.ofOptSnd (by assumption) ?_ | refine At.ofOptFst (by assumption) ?_
    | refine At.ofOptSnd2 (by assumption) ?_ | apply At.mapAny | dsimp +zetaDelta only)

/-! ### Machine/Traverses.lean -/

theorem execTrvLoad_keeps {P : Part → Prop} {s₀ s : State} (dict_ : P .dict) (mgmt_ : P .mgmt) (fb_ : P .fb) (stn_ : P .stn) (ses_ : P
    .ses) (tier_ : P .tier) (trv_ : P .trv) (free_ : P .free) (w : Writer) (tt : Nat) (hs : At (Keeps P s₀) It s) : At (Keeps P s₀) Nxt
    (execTrvLoad w tt s) := by
  unfold execTrvLoad
  with_reducible repeat' (first
    | assumption | (intro x; refine At.cut x ?_ ?_; rotate_left; intro _; clear_value x; rotate_left; unfold x) | intro _ | lift_lets
    | apply State.setObj_keeps | apply State.command_keeps | apply State.setTrvSlot_keeps | apply State.allocRaw_keeps
    | apply State.freeAll_keeps | apply At.ite | apply At.next | apply At.some | exact At.none | dsimp -zeta only [At.mkFst, At.mkSnd]
    | apply At.foldl | apply At.getD | apply At.fst | apply At.snd
    | ((conv => enter [3, 20]) <;> apply At.upd <;> first | exact .inl ‹_› | exact .inr rfl | skip)
    | ((conv => enter [3, 20]) <;> apply At.updCore) | split | exact At.ofMkFst ‹_› | exact At.ofMkSnd ‹_›
    | refine At.ofNext (by assumption) ?_ | refine At.ofFst (by assumption) ?_ | refine At.ofSnd (by assumption) ?_
    | refine At.ofOpt (by assumption) ?_ | refine At.ofOptSnd (by assumption) ?_ | refine At.ofOptFst (by assumption) ?_
    | refine At.ofOptSnd2 (by assumption) ?_ | apply At.mapAny | dsimp +zetaDelta only)

theorem execTrvLoadDone_keeps {P : Part → Prop} {s₀ s : State} (dict_ : P .dict) (ses_ : P .ses) (tier_ : P .tier) (trv_ : P .trv) (tt :
    Nat) (img : Option Octets) (hs : At (Keeps P s₀) It s) : At (Keeps P s₀) Nxt (execTrvLoadDone tt img s) := by
  unfold execTrvLoadDone
  with_reducible repeat' (first
    | assumption | (intro x; refine At.cut x ?_ ?_; rotate_left; intro _; clear_value x; rotate_left; unfold x) | intro _ | lift_lets
    | apply State.setObj_keeps | apply State.setStr_keeps | apply State.setTrvSlot_keeps | apply State.fillRaw_keeps | apply At.ite
    | apply At.next | apply At.some | exact At.none | dsimp -zeta only [At.mkFst, At.mkSnd] | apply At.foldl | apply At.getD
    | apply At.fst | apply At.snd | ((conv => enter [3, 20]) <;> apply At.upd <;> first | exact .inl ‹_› | exact .inr rfl | skip)
    | ((conv => enter [3, 20]) <;> apply At.updCore) | split | exact At.ofMkFst ‹_› | exact At.ofMkSnd ‹_›
    | refine At.ofNext (by assumption) ?_ | refine At.ofFst (by assumption) ?_ | refine At.ofSnd (by assumption) ?_
    | refine At.ofOpt (by assumption) ?_ | refine At.ofOptSnd (by assumption) ?_ | refine At.ofOptFst (by assumption) ?_
    | refine At.ofOptSnd2 (by assumption) ?_ | apply At.mapAny | dsimp +zetaDelta only)

theorem execActivate_keeps {P : Part → Prop} {s₀ s : State} (dict_ : P .dict) (mgmt_ : P .mgmt) (fb_ : P .fb) (stn_ : P .stn) (ses_ : P
    .ses) (shape_ : P .shape) (trv_ : P .trv) (w : Writer) (tt : Nat) (held : Bool) (hs : At (Keeps P s₀) It s) : At (Keeps P s₀) Nxt
    (execActivate w tt held s) := by
  unfold execActivate
  with_reducible repeat' (first
    | assumption | (intro x; refine At.cut x ?_ ?_; rotate_left; intro _; clear_value x; rotate_left; unfold x) | intro _ | lift_lets
    | apply State.measure_keeps | apply State.commandNow_keeps | apply State.setTrvSlot_keeps | apply State.lockSend_keeps
    | apply State.withdraw_keeps | apply At.ite | apply At.next | apply At.some | exact At.none | dsimp -zeta only [At.mkFst, At.mkSnd]
    | apply At.foldl | apply At.getD | apply At.fst | apply At.snd
    | ((conv => enter [3, 20]) <;> apply At.upd <;> first | exact .inl ‹_› | exact .inr rfl | skip)
    | ((conv => enter [3, 20]) <;> apply At.updCore) | split | exact At.ofMkFst ‹_› | exact At.ofMkSnd ‹_›
    | refine At.ofNext (by assumption) ?_ | refine At.ofFst (by assumption) ?_ | refine At.ofSnd (by assumption) ?_
    | refine At.ofOpt (by assumption) ?_ | refine At.ofOptSnd (by assumption) ?_ | refine At.ofOptFst (by assumption) ?_
    | refine At.ofOptSnd2 (by assumption) ?_ | apply At.mapAny | dsimp +zetaDelta only)

theorem execUnload_keeps {P : Part → Prop} {s₀ s : State} (dict_ : P .dict) (mgmt_ : P .mgmt) (fb_ : P .fb) (stn_ : P .stn) (tier_ : P
    .tier) (trv_ : P .trv) (w : Writer) (tt : Nat) (hs : At (Keeps P s₀) It s) : At (Keeps P s₀) Nxt (execUnload w tt s) := by
  unfold execUnload
  with_reducible repeat' (first
    | assumption | (intro x; refine At.cut x ?_ ?_; rotate_left; intro _; clear_value x; rotate_left; unfold x) | intro _ | lift_lets
    | apply State.setObj_keeps | apply State.setStr_keeps | apply State.commandNow_keeps | apply State.setTrvSlot_keeps
    | apply State.freeAll_keeps | apply At.ite | apply At.next | apply At.some | exact At.none | dsimp -zeta only [At.mkFst, At.mkSnd]
    | apply At.foldl | apply At.getD | apply At.fst | apply At.snd
    | ((conv => enter [3, 20]) <;> apply At.upd <;> first | exact .inl ‹_› | exact .inr rfl | skip)
    | ((conv => enter [3, 20]) <;> apply At.updCore) | split | exact At.ofMkFst ‹_› | exact At.ofMkSnd ‹_›
    | refine At.ofNext (by assumption) ?_ | refine At.ofFst (by assumption) ?_ | refine At.ofSnd (by assumption) ?_
    | refine At.ofOpt (by assumption) ?_ | refine At.ofOptSnd (by assumption) ?_ | refine At.ofOptFst (by assumption) ?_
    | refine At.ofOptSnd2 (by assumption) ?_ | apply At.mapAny | dsimp +zetaDelta only)

theorem execSlotListIssue_keeps {P : Part → Prop} {s₀ s : State} (dict_ : P .dict) (ses_ : P .ses) (tier_ : P .tier) (shape_ : P .shape)
    (trv_ : P .trv) (takeover : Nat) (others : List RowCand) (hs : At (Keeps P s₀) It s) : At (Keeps P s₀) Nxt (execSlotListIssue takeover
    others s) := by
  unfold execSlotListIssue
  with_reducible repeat' (first
    | assumption | (intro x; refine At.cut x ?_ ?_; rotate_left; intro _; clear_value x; rotate_left; unfold x) | intro _ | lift_lets
    | apply State.issueList_keeps | apply At.ite | apply At.next | apply At.some | exact At.none | dsimp -zeta only [At.mkFst, At.mkSnd]
    | apply At.foldl | apply At.getD | apply At.fst | apply At.snd
    | ((conv => enter [3, 20]) <;> apply At.upd <;> first | exact .inl ‹_› | exact .inr rfl | skip)
    | ((conv => enter [3, 20]) <;> apply At.updCore) | split | exact At.ofMkFst ‹_› | exact At.ofMkSnd ‹_›
    | refine At.ofNext (by assumption) ?_ | refine At.ofFst (by assumption) ?_ | refine At.ofSnd (by assumption) ?_
    | refine At.ofOpt (by assumption) ?_ | refine At.ofOptSnd (by assumption) ?_ | refine At.ofOptFst (by assumption) ?_
    | refine At.ofOptSnd2 (by assumption) ?_ | apply At.mapAny | dsimp +zetaDelta only)

theorem execSlotListReceive_keeps {P : Part → Prop} {s₀ s : State} (ses_ : P .ses) (trv_ : P .trv) (o : Octets) (hs : At (Keeps P s₀) It s)
    : At (Keeps P s₀) Nxt (execSlotListReceive o s) := by
  unfold execSlotListReceive
  with_reducible repeat' (first
    | assumption | (intro x; refine At.cut x ?_ ?_; rotate_left; intro _; clear_value x; rotate_left; unfold x) | intro _ | lift_lets
    | apply State.lockSend_keeps | apply State.nameAll_keeps | apply State.claimRows_keeps | apply At.ite | apply At.next | apply At.some
    | exact At.none | dsimp -zeta only [At.mkFst, At.mkSnd] | apply At.foldl | apply At.getD | apply At.fst | apply At.snd
    | ((conv => enter [3, 20]) <;> apply At.upd <;> first | exact .inl ‹_› | exact .inr rfl | skip)
    | ((conv => enter [3, 20]) <;> apply At.updCore) | split | exact At.ofMkFst ‹_› | exact At.ofMkSnd ‹_›
    | refine At.ofNext (by assumption) ?_ | refine At.ofFst (by assumption) ?_ | refine At.ofSnd (by assumption) ?_
    | refine At.ofOpt (by assumption) ?_ | refine At.ofOptSnd (by assumption) ?_ | refine At.ofOptFst (by assumption) ?_
    | refine At.ofOptSnd2 (by assumption) ?_ | apply At.mapAny | dsimp +zetaDelta only)

theorem State.decideActivation_keeps {P : Part → Prop} {s₀ s : State} (trv_ : P .trv) (f : Nat) (go : Bool) (hs : At (Keeps P s₀) It s) :
    At (Keeps P s₀) It (State.decideActivation s f go) := by
  unfold State.decideActivation
  with_reducible repeat' (first
    | assumption | (intro x; refine At.cut x ?_ ?_; rotate_left; intro _; clear_value x; rotate_left; unfold x) | intro _ | lift_lets
    | apply State.setTrvSlot_keeps | apply At.ite | apply At.next | apply At.some | exact At.none | dsimp -zeta only [At.mkFst, At.mkSnd]
    | apply At.foldl | apply At.getD | apply At.fst | apply At.snd
    | ((conv => enter [3, 20]) <;> apply At.upd <;> first | exact .inl ‹_› | exact .inr rfl | skip)
    | ((conv => enter [3, 20]) <;> apply At.updCore) | split | exact At.ofMkFst ‹_› | exact At.ofMkSnd ‹_›
    | refine At.ofNext (by assumption) ?_ | refine At.ofFst (by assumption) ?_ | refine At.ofSnd (by assumption) ?_
    | refine At.ofOpt (by assumption) ?_ | refine At.ofOptSnd (by assumption) ?_ | refine At.ofOptFst (by assumption) ?_
    | refine At.ofOptSnd2 (by assumption) ?_ | apply At.mapAny | dsimp +zetaDelta only)

theorem State.decideList_keeps {P : Part → Prop} {s₀ s : State} (dict_ : P .dict) (ses_ : P .ses) (shape_ : P .shape) (trv_ : P .trv) (f :
    Nat) (go : Bool) (hs : At (Keeps P s₀) It s) : At (Keeps P s₀) It (State.decideList s f go) := by
  unfold State.decideList
  with_reducible repeat' (first
    | assumption | (intro x; refine At.cut x ?_ ?_; rotate_left; intro _; clear_value x; rotate_left; unfold x) | intro _ | lift_lets
    | apply State.bump_keeps | apply State.withdraw_keeps | apply At.ite | apply At.next | apply At.some | exact At.none
    | dsimp -zeta only [At.mkFst, At.mkSnd] | apply At.foldl | apply At.getD | apply At.fst | apply At.snd
    | ((conv => enter [3, 20]) <;> apply At.upd <;> first | exact .inl ‹_› | exact .inr rfl | skip)
    | ((conv => enter [3, 20]) <;> apply At.updCore) | split | exact At.ofMkFst ‹_› | exact At.ofMkSnd ‹_›
    | refine At.ofNext (by assumption) ?_ | refine At.ofFst (by assumption) ?_ | refine At.ofSnd (by assumption) ?_
    | refine At.ofOpt (by assumption) ?_ | refine At.ofOptSnd (by assumption) ?_ | refine At.ofOptFst (by assumption) ?_
    | refine At.ofOptSnd2 (by assumption) ?_ | apply At.mapAny | dsimp +zetaDelta only)

theorem State.takeV_keeps {P : Part → Prop} {s₀ s : State} (shape_ : P .shape) (v : Option (Nat × Nat)) (hs : At (Keeps P s₀) It s) : At
    (Keeps P s₀) It (State.takeV s v) := by
  unfold State.takeV
  with_reducible repeat' (first
    | assumption | (intro x; refine At.cut x ?_ ?_; rotate_left; intro _; clear_value x; rotate_left; unfold x) | intro _ | lift_lets
    | apply At.ite | apply At.next | apply At.some | exact At.none | dsimp -zeta only [At.mkFst, At.mkSnd] | apply At.foldl
    | apply At.getD | apply At.fst | apply At.snd
    | ((conv => enter [3, 20]) <;> apply At.upd <;> first | exact .inl ‹_› | exact .inr rfl | skip)
    | ((conv => enter [3, 20]) <;> apply At.updCore) | split | exact At.ofMkFst ‹_› | exact At.ofMkSnd ‹_›
    | refine At.ofNext (by assumption) ?_ | refine At.ofFst (by assumption) ?_ | refine At.ofSnd (by assumption) ?_
    | refine At.ofOpt (by assumption) ?_ | refine At.ofOptSnd (by assumption) ?_ | refine At.ofOptFst (by assumption) ?_
    | refine At.ofOptSnd2 (by assumption) ?_ | apply At.mapAny | dsimp +zetaDelta only)

theorem execSlotListDecision_keeps {P : Part → Prop} {s₀ s : State} (dict_ : P .dict) (ses_ : P .ses) (shape_ : P .shape) (trv_ : P .trv)
    (takeover : Nat) (others : Bool) (v : Option (Nat × Nat)) (hs : At (Keeps P s₀) It s) : At (Keeps P s₀) Nxt (execSlotListDecision
    takeover others v s) := by
  unfold execSlotListDecision
  with_reducible repeat' (first
    | assumption | (intro x; refine At.cut x ?_ ?_; rotate_left; intro _; clear_value x; rotate_left; unfold x) | intro _ | lift_lets
    | apply State.lockSend_keeps | apply State.decideActivation_keeps | apply State.decideList_keeps | apply State.takeV_keeps
    | apply At.ite | apply At.next | apply At.some | exact At.none | dsimp -zeta only [At.mkFst, At.mkSnd] | apply At.foldl
    | apply At.getD | apply At.fst | apply At.snd
    | ((conv => enter [3, 20]) <;> apply At.upd <;> first | exact .inl ‹_› | exact .inr rfl | skip)
    | ((conv => enter [3, 20]) <;> apply At.updCore) | split | exact At.ofMkFst ‹_› | exact At.ofMkSnd ‹_›
    | refine At.ofNext (by assumption) ?_ | refine At.ofFst (by assumption) ?_ | refine At.ofSnd (by assumption) ?_
    | refine At.ofOpt (by assumption) ?_ | refine At.ofOptSnd (by assumption) ?_ | refine At.ofOptFst (by assumption) ?_
    | refine At.ofOptSnd2 (by assumption) ?_ | apply At.mapAny | dsimp +zetaDelta only)

theorem execHoldWindowEnd_keeps {P : Part → Prop} {s₀ s : State} (trv_ : P .trv) (ests : List (Nat × Nat × Nat)) (copies : Nat) (wake :
    Nat) (replay : Nat) (hs : At (Keeps P s₀) It s) : At (Keeps P s₀) Nxt (execHoldWindowEnd ests copies wake replay s) := by
  unfold execHoldWindowEnd
  with_reducible repeat' (first
    | assumption | (intro x; refine At.cut x ?_ ?_; rotate_left; intro _; clear_value x; rotate_left; unfold x) | intro _ | lift_lets
    | apply State.lockSend_keeps | apply At.ite | apply At.next | apply At.some | exact At.none | dsimp -zeta only [At.mkFst, At.mkSnd]
    | apply At.foldl | apply At.getD | apply At.fst | apply At.snd
    | ((conv => enter [3, 20]) <;> apply At.upd <;> first | exact .inl ‹_› | exact .inr rfl | skip)
    | ((conv => enter [3, 20]) <;> apply At.updCore) | split | exact At.ofMkFst ‹_› | exact At.ofMkSnd ‹_›
    | refine At.ofNext (by assumption) ?_ | refine At.ofFst (by assumption) ?_ | refine At.ofSnd (by assumption) ?_
    | refine At.ofOpt (by assumption) ?_ | refine At.ofOptSnd (by assumption) ?_ | refine At.ofOptFst (by assumption) ?_
    | refine At.ofOptSnd2 (by assumption) ?_ | apply At.mapAny | dsimp +zetaDelta only)

theorem execHoldRequest_keeps {P : Part → Prop} {s₀ s : State} (trv_ : P .trv) (windowEnd : Nat) (others : List HoldRequest) (hs : At
    (Keeps P s₀) It s) : At (Keeps P s₀) Nxt (execHoldRequest windowEnd others s) := by
  unfold execHoldRequest
  with_reducible repeat' (first
    | assumption | (intro x; refine At.cut x ?_ ?_; rotate_left; intro _; clear_value x; rotate_left; unfold x) | intro _ | lift_lets
    | apply State.lockSend_keeps | apply At.ite | apply At.next | apply At.some | exact At.none | dsimp -zeta only [At.mkFst, At.mkSnd]
    | apply At.foldl | apply At.getD | apply At.fst | apply At.snd
    | ((conv => enter [3, 20]) <;> apply At.upd <;> first | exact .inl ‹_› | exact .inr rfl | skip)
    | ((conv => enter [3, 20]) <;> apply At.updCore) | split | exact At.ofMkFst ‹_› | exact At.ofMkSnd ‹_›
    | refine At.ofNext (by assumption) ?_ | refine At.ofFst (by assumption) ?_ | refine At.ofSnd (by assumption) ?_
    | refine At.ofOpt (by assumption) ?_ | refine At.ofOptSnd (by assumption) ?_ | refine At.ofOptFst (by assumption) ?_
    | refine At.ofOptSnd2 (by assumption) ?_ | apply At.mapAny | dsimp +zetaDelta only)

theorem State.logHold_keeps {P : Part → Prop} {s₀ s : State} (dict_ : P .dict) (fb_ : P .fb) (trv_ : P .trv) (e : HoldEntry) (hs : At
    (Keeps P s₀) It s) : At (Keeps P s₀) It (State.logHold s e) := by
  unfold State.logHold
  with_reducible repeat' (first
    | assumption | (intro x; refine At.cut x ?_ ?_; rotate_left; intro _; clear_value x; rotate_left; unfold x) | intro _ | lift_lets
    | apply State.report_keeps | apply At.ite | apply At.next | apply At.some | exact At.none | dsimp -zeta only [At.mkFst, At.mkSnd]
    | apply At.foldl | apply At.getD | apply At.fst | apply At.snd
    | ((conv => enter [3, 20]) <;> apply At.upd <;> first | exact .inl ‹_› | exact .inr rfl | skip)
    | ((conv => enter [3, 20]) <;> apply At.updCore) | split | exact At.ofMkFst ‹_› | exact At.ofMkSnd ‹_›
    | refine At.ofNext (by assumption) ?_ | refine At.ofFst (by assumption) ?_ | refine At.ofSnd (by assumption) ?_
    | refine At.ofOpt (by assumption) ?_ | refine At.ofOptSnd (by assumption) ?_ | refine At.ofOptFst (by assumption) ?_
    | refine At.ofOptSnd2 (by assumption) ?_ | apply At.mapAny | dsimp +zetaDelta only)

theorem execHoldStart_keeps {P : Part → Prop} {s₀ s : State} (dict_ : P .dict) (fb_ : P .fb) (trv_ : P .trv) (pwr_ : P .pwr) (hs : At
    (Keeps P s₀) It s) : At (Keeps P s₀) Nxt (execHoldStart s) := by
  unfold execHoldStart
  with_reducible repeat' (first
    | assumption | (intro x; refine At.cut x ?_ ?_; rotate_left; intro _; clear_value x; rotate_left; unfold x) | intro _ | lift_lets
    | apply State.bump_keeps | apply State.pulse_keeps | apply State.logHold_keeps | apply At.ite | apply At.next | apply At.some
    | exact At.none | dsimp -zeta only [At.mkFst, At.mkSnd] | apply At.foldl | apply At.getD | apply At.fst | apply At.snd
    | ((conv => enter [3, 20]) <;> apply At.upd <;> first | exact .inl ‹_› | exact .inr rfl | skip)
    | ((conv => enter [3, 20]) <;> apply At.updCore) | split | exact At.ofMkFst ‹_› | exact At.ofMkSnd ‹_›
    | refine At.ofNext (by assumption) ?_ | refine At.ofFst (by assumption) ?_ | refine At.ofSnd (by assumption) ?_
    | refine At.ofOpt (by assumption) ?_ | refine At.ofOptSnd (by assumption) ?_ | refine At.ofOptFst (by assumption) ?_
    | refine At.ofOptSnd2 (by assumption) ?_ | apply At.mapAny | dsimp +zetaDelta only)

theorem execHoldEnd_keeps {P : Part → Prop} {s₀ s : State} (dict_ : P .dict) (trv_ : P .trv) (hs : At (Keeps P s₀) It s) : At (Keeps P s₀)
    Nxt (execHoldEnd s) := by
  unfold execHoldEnd
  with_reducible repeat' (first
    | assumption | (intro x; refine At.cut x ?_ ?_; rotate_left; intro _; clear_value x; rotate_left; unfold x) | intro _ | lift_lets
    | apply State.addObj_keeps | apply At.ite | apply At.next | apply At.some | exact At.none | dsimp -zeta only [At.mkFst, At.mkSnd]
    | apply At.foldl | apply At.getD | apply At.fst | apply At.snd
    | ((conv => enter [3, 20]) <;> apply At.upd <;> first | exact .inl ‹_› | exact .inr rfl | skip)
    | ((conv => enter [3, 20]) <;> apply At.updCore) | split | exact At.ofMkFst ‹_› | exact At.ofMkSnd ‹_›
    | refine At.ofNext (by assumption) ?_ | refine At.ofFst (by assumption) ?_ | refine At.ofSnd (by assumption) ?_
    | refine At.ofOpt (by assumption) ?_ | refine At.ofOptSnd (by assumption) ?_ | refine At.ofOptFst (by assumption) ?_
    | refine At.ofOptSnd2 (by assumption) ?_ | apply At.mapAny | dsimp +zetaDelta only)

theorem execFaultNotice_keeps {P : Part → Prop} {s₀ s : State} (trv_ : P .trv) (position : Nat) (y1 : Nat) (len : Nat) (hs : At (Keeps P
    s₀) It s) : At (Keeps P s₀) Nxt (execFaultNotice position y1 len s) := by
  unfold execFaultNotice
  with_reducible repeat' (first
    | assumption | (intro x; refine At.cut x ?_ ?_; rotate_left; intro _; clear_value x; rotate_left; unfold x) | intro _ | lift_lets
    | apply State.voidFrame_keeps | apply At.ite | apply At.next | apply At.some | exact At.none | dsimp -zeta only [At.mkFst, At.mkSnd]
    | apply At.foldl | apply At.getD | apply At.fst | apply At.snd
    | ((conv => enter [3, 20]) <;> apply At.upd <;> first | exact .inl ‹_› | exact .inr rfl | skip)
    | ((conv => enter [3, 20]) <;> apply At.updCore) | split | exact At.ofMkFst ‹_› | exact At.ofMkSnd ‹_›
    | refine At.ofNext (by assumption) ?_ | refine At.ofFst (by assumption) ?_ | refine At.ofSnd (by assumption) ?_
    | refine At.ofOpt (by assumption) ?_ | refine At.ofOptSnd (by assumption) ?_ | refine At.ofOptFst (by assumption) ?_
    | refine At.ofOptSnd2 (by assumption) ?_ | apply At.mapAny | dsimp +zetaDelta only)

theorem State.setDatum_keeps {P : Part → Prop} {s₀ s : State} (dict_ : P .dict) (trv_ : P .trv) (v : Nat) (hs : At (Keeps P s₀) It s) : At
    (Keeps P s₀) It (State.setDatum s v) := by
  unfold State.setDatum
  with_reducible repeat' (first
    | assumption | (intro x; refine At.cut x ?_ ?_; rotate_left; intro _; clear_value x; rotate_left; unfold x) | intro _ | lift_lets
    | apply State.setObj_keeps | apply At.ite | apply At.next | apply At.some | exact At.none | dsimp -zeta only [At.mkFst, At.mkSnd]
    | apply At.foldl | apply At.getD | apply At.fst | apply At.snd
    | ((conv => enter [3, 20]) <;> apply At.upd <;> first | exact .inl ‹_› | exact .inr rfl | skip)
    | ((conv => enter [3, 20]) <;> apply At.updCore) | split | exact At.ofMkFst ‹_› | exact At.ofMkSnd ‹_›
    | refine At.ofNext (by assumption) ?_ | refine At.ofFst (by assumption) ?_ | refine At.ofSnd (by assumption) ?_
    | refine At.ofOpt (by assumption) ?_ | refine At.ofOptSnd (by assumption) ?_ | refine At.ofOptFst (by assumption) ?_
    | refine At.ofOptSnd2 (by assumption) ?_ | apply At.mapAny | dsimp +zetaDelta only)

theorem State.setDatumTick_keeps {P : Part → Prop} {s₀ s : State} (tick_ : P .tick) (frame_ : P .frame) (frameStart_ : P .frameStart) (trv_
    : P .trv) (t : Nat) (hs : At (Keeps P s₀) It s) : At (Keeps P s₀) It (State.setDatumTick s t) := by
  unfold State.setDatumTick
  with_reducible repeat' (first
    | assumption | (intro x; refine At.cut x ?_ ?_; rotate_left; intro _; clear_value x; rotate_left; unfold x) | intro _ | lift_lets
    | apply At.ite | apply At.next | apply At.some | exact At.none | dsimp -zeta only [At.mkFst, At.mkSnd] | apply At.foldl
    | apply At.getD | apply At.fst | apply At.snd
    | ((conv => enter [3, 20]) <;> apply At.upd <;> first | exact .inl ‹_› | exact .inr rfl | skip)
    | ((conv => enter [3, 20]) <;> apply At.updCore) | split | exact At.ofMkFst ‹_› | exact At.ofMkSnd ‹_›
    | refine At.ofNext (by assumption) ?_ | refine At.ofFst (by assumption) ?_ | refine At.ofSnd (by assumption) ?_
    | refine At.ofOpt (by assumption) ?_ | refine At.ofOptSnd (by assumption) ?_ | refine At.ofOptFst (by assumption) ?_
    | refine At.ofOptSnd2 (by assumption) ?_ | apply At.mapAny | dsimp +zetaDelta only)

theorem execDatumLock_keeps {P : Part → Prop} {s₀ s : State} (tick_ : P .tick) (frame_ : P .frame) (frameStart_ : P .frameStart) (dict_ : P
    .dict) (trv_ : P .trv) (counter : Nat) (beyond : Nat) (hs : At (Keeps P s₀) It s) : At (Keeps P s₀) Nxt (execDatumLock counter beyond
    s) := by
  unfold execDatumLock
  with_reducible repeat' (first
    | assumption | (intro x; refine At.cut x ?_ ?_; rotate_left; intro _; clear_value x; rotate_left; unfold x) | intro _ | lift_lets
    | apply State.setObj_keeps | apply State.setDatum_keeps | apply State.setDatumTick_keeps | apply At.ite | apply At.next
    | apply At.some | exact At.none | dsimp -zeta only [At.mkFst, At.mkSnd] | apply At.foldl | apply At.getD | apply At.fst | apply At.snd
    | ((conv => enter [3, 20]) <;> apply At.upd <;> first | exact .inl ‹_› | exact .inr rfl | skip)
    | ((conv => enter [3, 20]) <;> apply At.updCore) | split | exact At.ofMkFst ‹_› | exact At.ofMkSnd ‹_›
    | refine At.ofNext (by assumption) ?_ | refine At.ofFst (by assumption) ?_ | refine At.ofSnd (by assumption) ?_
    | refine At.ofOpt (by assumption) ?_ | refine At.ofOptSnd (by assumption) ?_ | refine At.ofOptFst (by assumption) ?_
    | refine At.ofOptSnd2 (by assumption) ?_ | apply At.mapAny | dsimp +zetaDelta only)

theorem execDatumLocked_keeps {P : Part → Prop} {s₀ s : State} (dict_ : P .dict) (trv_ : P .trv) (err : Int) (hs : At (Keeps P s₀) It s) :
    At (Keeps P s₀) Nxt (execDatumLocked err s) := by
  unfold execDatumLocked
  with_reducible repeat' (first
    | assumption | (intro x; refine At.cut x ?_ ?_; rotate_left; intro _; clear_value x; rotate_left; unfold x) | intro _ | lift_lets
    | apply State.setObj_keeps | apply State.setDatum_keeps | apply At.ite | apply At.next | apply At.some | exact At.none
    | dsimp -zeta only [At.mkFst, At.mkSnd] | apply At.foldl | apply At.getD | apply At.fst | apply At.snd
    | ((conv => enter [3, 20]) <;> apply At.upd <;> first | exact .inl ‹_› | exact .inr rfl | skip)
    | ((conv => enter [3, 20]) <;> apply At.updCore) | split | exact At.ofMkFst ‹_› | exact At.ofMkSnd ‹_›
    | refine At.ofNext (by assumption) ?_ | refine At.ofFst (by assumption) ?_ | refine At.ofSnd (by assumption) ?_
    | refine At.ofOpt (by assumption) ?_ | refine At.ofOptSnd (by assumption) ?_ | refine At.ofOptFst (by assumption) ?_
    | refine At.ofOptSnd2 (by assumption) ?_ | apply At.mapAny | dsimp +zetaDelta only)

theorem execDatumLockFail_keeps {P : Part → Prop} {s₀ s : State} (dict_ : P .dict) (mgmt_ : P .mgmt) (stn_ : P .stn) (trv_ : P .trv) (hs :
    At (Keeps P s₀) It s) : At (Keeps P s₀) Nxt (execDatumLockFail s) := by
  unfold execDatumLockFail
  with_reducible repeat' (first
    | assumption | (intro x; refine At.cut x ?_ ?_; rotate_left; intro _; clear_value x; rotate_left; unfold x) | intro _ | lift_lets
    | apply State.tileEvent_keeps | apply State.setDatum_keeps | apply At.ite | apply At.next | apply At.some | exact At.none
    | dsimp -zeta only [At.mkFst, At.mkSnd] | apply At.foldl | apply At.getD | apply At.fst | apply At.snd
    | ((conv => enter [3, 20]) <;> apply At.upd <;> first | exact .inl ‹_› | exact .inr rfl | skip)
    | ((conv => enter [3, 20]) <;> apply At.updCore) | split | exact At.ofMkFst ‹_› | exact At.ofMkSnd ‹_›
    | refine At.ofNext (by assumption) ?_ | refine At.ofFst (by assumption) ?_ | refine At.ofSnd (by assumption) ?_
    | refine At.ofOpt (by assumption) ?_ | refine At.ofOptSnd (by assumption) ?_ | refine At.ofOptFst (by assumption) ?_
    | refine At.ofOptSnd2 (by assumption) ?_ | apply At.mapAny | dsimp +zetaDelta only)

theorem execDatumHoldover_keeps {P : Part → Prop} {s₀ s : State} (dict_ : P .dict) (trv_ : P .trv) (signalLost : Bool) (err : Int) (hs : At
    (Keeps P s₀) It s) : At (Keeps P s₀) Nxt (execDatumHoldover signalLost err s) := by
  unfold execDatumHoldover
  with_reducible repeat' (first
    | assumption | (intro x; refine At.cut x ?_ ?_; rotate_left; intro _; clear_value x; rotate_left; unfold x) | intro _ | lift_lets
    | apply State.setObj_keeps | apply State.bump_keeps | apply State.setDatum_keeps | apply At.ite | apply At.next | apply At.some
    | exact At.none | dsimp -zeta only [At.mkFst, At.mkSnd] | apply At.foldl | apply At.getD | apply At.fst | apply At.snd
    | ((conv => enter [3, 20]) <;> apply At.upd <;> first | exact .inl ‹_› | exact .inr rfl | skip)
    | ((conv => enter [3, 20]) <;> apply At.updCore) | split | exact At.ofMkFst ‹_› | exact At.ofMkSnd ‹_›
    | refine At.ofNext (by assumption) ?_ | refine At.ofFst (by assumption) ?_ | refine At.ofSnd (by assumption) ?_
    | refine At.ofOpt (by assumption) ?_ | refine At.ofOptSnd (by assumption) ?_ | refine At.ofOptFst (by assumption) ?_
    | refine At.ofOptSnd2 (by assumption) ?_ | apply At.mapAny | dsimp +zetaDelta only)

theorem execHoldoverRelock_keeps {P : Part → Prop} {s₀ s : State} (dict_ : P .dict) (trv_ : P .trv) (err : Int) (hs : At (Keeps P s₀) It s)
    : At (Keeps P s₀) Nxt (execHoldoverRelock err s) := by
  unfold execHoldoverRelock
  with_reducible repeat' (first
    | assumption | (intro x; refine At.cut x ?_ ?_; rotate_left; intro _; clear_value x; rotate_left; unfold x) | intro _ | lift_lets
    | apply State.setObj_keeps | apply State.setDatum_keeps | apply At.ite | apply At.next | apply At.some | exact At.none
    | dsimp -zeta only [At.mkFst, At.mkSnd] | apply At.foldl | apply At.getD | apply At.fst | apply At.snd
    | ((conv => enter [3, 20]) <;> apply At.upd <;> first | exact .inl ‹_› | exact .inr rfl | skip)
    | ((conv => enter [3, 20]) <;> apply At.updCore) | split | exact At.ofMkFst ‹_› | exact At.ofMkSnd ‹_›
    | refine At.ofNext (by assumption) ?_ | refine At.ofFst (by assumption) ?_ | refine At.ofSnd (by assumption) ?_
    | refine At.ofOpt (by assumption) ?_ | refine At.ofOptSnd (by assumption) ?_ | refine At.ofOptFst (by assumption) ?_
    | refine At.ofOptSnd2 (by assumption) ?_ | apply At.mapAny | dsimp +zetaDelta only)

theorem execScrub_keeps {P : Part → Prop} {s₀ s : State} (dict_ : P .dict) (mgmt_ : P .mgmt) (fb_ : P .fb) (stn_ : P .stn) (trv_ : P .trv)
    (core_ : P .core) (text_ : P .text) (sync_ : P .sync) (pwr_ : P .pwr) (found : List (Nat × Bool × Bool)) (hs : At (Keeps P s₀) It s) :
    At (Keeps P s₀) Nxt (execScrub found s) := by
  unfold execScrub
  with_reducible repeat' (first
    | assumption | (intro x; refine At.cut x ?_ ?_; rotate_left; intro _; clear_value x; rotate_left; unfold x) | intro _ | lift_lets
    | apply State.detect_keeps | exact wf_nil | apply Core.settle_store | apply Core.write_store | apply wf_foldl_bputs
    | apply Core.result_store | apply Core.flags_store | apply Core.moved_store | apply Core.lanewise_store | exact coreInit_store
    | apply id_store | apply State.coreAt_store | apply State.clusterStore_wf | apply wf_bputs | apply wf_filter | apply wf_storeTile
    | apply State.issued_store | apply State.cameTo_stores | exact stores_same ‹_› | exact stores_nil | exact stores_filter ‹_›
    | apply At.ite | apply At.next | apply At.some | exact At.none | dsimp -zeta only [At.mkFst, At.mkSnd] | apply At.foldl
    | apply At.getD | apply At.fst | apply At.snd
    | ((conv => enter [3, 20]) <;> apply At.upd <;> first | exact .inl ‹_› | exact .inr rfl | skip)
    | ((conv => enter [3, 20]) <;> apply At.updCore) | split | exact At.ofMkFst ‹_› | exact At.ofMkSnd ‹_›
    | refine At.ofNext (by assumption) ?_ | refine At.ofFst (by assumption) ?_ | refine At.ofSnd (by assumption) ?_
    | refine At.ofOpt (by assumption) ?_ | refine At.ofOptSnd (by assumption) ?_ | refine At.ofOptFst (by assumption) ?_
    | refine At.ofOptSnd2 (by assumption) ?_ | apply At.mapAny | dsimp +zetaDelta only)

theorem execCoreFaultDetect_keeps {P : Part → Prop} {s₀ s : State} (dict_ : P .dict) (mgmt_ : P .mgmt) (fb_ : P .fb) (stn_ : P .stn) (trv_
    : P .trv) (core_ : P .core) (text_ : P .text) (sync_ : P .sync) (pwr_ : P .pwr) (y0 : Nat) (inCluster : Bool) (f : CoreFault) (hs : At
    (Keeps P s₀) It s) : At (Keeps P s₀) Nxt (execCoreFaultDetect y0 inCluster f s) := by
  unfold execCoreFaultDetect
  with_reducible repeat' (first
    | assumption | (intro x; refine At.cut x ?_ ?_; rotate_left; intro _; clear_value x; rotate_left; unfold x) | intro _ | lift_lets
    | apply State.detect_keeps | apply At.ite | apply At.next | apply At.some | exact At.none | dsimp -zeta only [At.mkFst, At.mkSnd]
    | apply At.foldl | apply At.getD | apply At.fst | apply At.snd
    | ((conv => enter [3, 20]) <;> apply At.upd <;> first | exact .inl ‹_› | exact .inr rfl | skip)
    | ((conv => enter [3, 20]) <;> apply At.updCore) | split | exact At.ofMkFst ‹_› | exact At.ofMkSnd ‹_›
    | refine At.ofNext (by assumption) ?_ | refine At.ofFst (by assumption) ?_ | refine At.ofSnd (by assumption) ?_
    | refine At.ofOpt (by assumption) ?_ | refine At.ofOptSnd (by assumption) ?_ | refine At.ofOptFst (by assumption) ?_
    | refine At.ofOptSnd2 (by assumption) ?_ | apply At.mapAny | dsimp +zetaDelta only)

theorem execFenceCore_keeps {P : Part → Prop} {s₀ s : State} (dict_ : P .dict) (mgmt_ : P .mgmt) (fb_ : P .fb) (stn_ : P .stn) (trv_ : P
    .trv) (core_ : P .core) (text_ : P .text) (sync_ : P .sync) (pwr_ : P .pwr) (w : Writer) (y1 : Nat) (hs : At (Keeps P s₀) It s) : At
    (Keeps P s₀) Nxt (execFenceCore w y1 s) := by
  unfold execFenceCore
  with_reducible repeat' (first
    | assumption | (intro x; refine At.cut x ?_ ?_; rotate_left; intro _; clear_value x; rotate_left; unfold x) | intro _ | lift_lets
    | apply State.bump_keeps | apply State.commandNow_keeps | apply State.voidFrame_keeps | apply State.fenceCore_keeps
    | apply State.noticeFault_keeps | apply At.ite | apply At.next | apply At.some | exact At.none | dsimp -zeta only [At.mkFst, At.mkSnd]
    | apply At.foldl | apply At.getD | apply At.fst | apply At.snd
    | ((conv => enter [3, 20]) <;> apply At.upd <;> first | exact .inl ‹_› | exact .inr rfl | skip)
    | ((conv => enter [3, 20]) <;> apply At.updCore) | split | exact At.ofMkFst ‹_› | exact At.ofMkSnd ‹_›
    | refine At.ofNext (by assumption) ?_ | refine At.ofFst (by assumption) ?_ | refine At.ofSnd (by assumption) ?_
    | refine At.ofOpt (by assumption) ?_ | refine At.ofOptSnd (by assumption) ?_ | refine At.ofOptFst (by assumption) ?_
    | refine At.ofOptSnd2 (by assumption) ?_ | apply At.mapAny | dsimp +zetaDelta only)

theorem execFenceCluster_keeps {P : Part → Prop} {s₀ s : State} (dict_ : P .dict) (mgmt_ : P .mgmt) (fb_ : P .fb) (stn_ : P .stn) (trv_ : P
    .trv) (core_ : P .core) (text_ : P .text) (sync_ : P .sync) (pwr_ : P .pwr) (w : Writer) (y1 : Nat) (hs : At (Keeps P s₀) It s) : At
    (Keeps P s₀) Nxt (execFenceCluster w y1 s) := by
  unfold execFenceCluster
  with_reducible repeat' (first
    | assumption | (intro x; refine At.cut x ?_ ?_; rotate_left; intro _; clear_value x; rotate_left; unfold x) | intro _ | lift_lets
    | apply State.bump_keeps | apply State.commandNow_keeps | apply State.voidFrame_keeps | apply State.fenceCluster_keeps
    | apply State.noticeFault_keeps | apply At.ite | apply At.next | apply At.some | exact At.none | dsimp -zeta only [At.mkFst, At.mkSnd]
    | apply At.foldl | apply At.getD | apply At.fst | apply At.snd
    | ((conv => enter [3, 20]) <;> apply At.upd <;> first | exact .inl ‹_› | exact .inr rfl | skip)
    | ((conv => enter [3, 20]) <;> apply At.updCore) | split | exact At.ofMkFst ‹_› | exact At.ofMkSnd ‹_›
    | refine At.ofNext (by assumption) ?_ | refine At.ofFst (by assumption) ?_ | refine At.ofSnd (by assumption) ?_
    | refine At.ofOpt (by assumption) ?_ | refine At.ofOptSnd (by assumption) ?_ | refine At.ofOptFst (by assumption) ?_
    | refine At.ofOptSnd2 (by assumption) ?_ | apply At.mapAny | dsimp +zetaDelta only)

theorem execClearCluster_keeps {P : Part → Prop} {s₀ s : State} (dict_ : P .dict) (mgmt_ : P .mgmt) (fb_ : P .fb) (stn_ : P .stn) (core_ :
    P .core) (sync_ : P .sync) (w : Writer) (y1 : Nat) (hs : At (Keeps P s₀) It s) : At (Keeps P s₀) Nxt (execClearCluster w y1 s) := by
  unfold execClearCluster
  with_reducible repeat' (first
    | assumption | (intro x; refine At.cut x ?_ ?_; rotate_left; intro _; clear_value x; rotate_left; unfold x) | intro _ | lift_lets
    | apply State.commandNow_keeps | apply State.clusterCleared_keeps | exact wf_nil | apply Core.settle_store | apply Core.write_store
    | apply wf_foldl_bputs | apply Core.result_store | apply Core.flags_store | apply Core.moved_store | apply Core.lanewise_store
    | exact coreInit_store | apply id_store | apply State.coreAt_store | apply State.clusterStore_wf | apply wf_bputs | apply wf_filter
    | apply wf_storeTile | apply State.issued_store | apply State.cameTo_stores | exact stores_same ‹_› | exact stores_nil
    | exact stores_filter ‹_› | apply At.ite | apply At.next | apply At.some | exact At.none | dsimp -zeta only [At.mkFst, At.mkSnd]
    | apply At.foldl | apply At.getD | apply At.fst | apply At.snd
    | ((conv => enter [3, 20]) <;> apply At.upd <;> first | exact .inl ‹_› | exact .inr rfl | skip)
    | ((conv => enter [3, 20]) <;> apply At.updCore) | split | exact At.ofMkFst ‹_› | exact At.ofMkSnd ‹_›
    | refine At.ofNext (by assumption) ?_ | refine At.ofFst (by assumption) ?_ | refine At.ofSnd (by assumption) ?_
    | refine At.ofOpt (by assumption) ?_ | refine At.ofOptSnd (by assumption) ?_ | refine At.ofOptFst (by assumption) ?_
    | refine At.ofOptSnd2 (by assumption) ?_ | apply At.mapAny | dsimp +zetaDelta only)

theorem execClusterSelfTestDone_keeps {P : Part → Prop} {s₀ s : State} (dict_ : P .dict) (mgmt_ : P .mgmt) (fb_ : P .fb) (stn_ : P .stn)
    (trv_ : P .trv) (core_ : P .core) (text_ : P .text) (sync_ : P .sync) (pwr_ : P .pwr) (cluster : Nat) (pass : Bool) (hs : At (Keeps P
    s₀) It s) : At (Keeps P s₀) Nxt (execClusterSelfTestDone cluster pass s) := by
  unfold execClusterSelfTestDone
  with_reducible repeat' (first
    | assumption | (intro x; refine At.cut x ?_ ?_; rotate_left; intro _; clear_value x; rotate_left; unfold x) | intro _ | lift_lets
    | apply State.setObj_keeps | apply State.setStr_keeps | apply State.report_keeps | apply State.tileEvent_keeps
    | apply State.fenceCluster_keeps | apply State.noticeFault_keeps | apply State.detected_keeps | exact wf_nil | apply Core.settle_store
    | apply Core.write_store | apply wf_foldl_bputs | apply Core.result_store | apply Core.flags_store | apply Core.moved_store
    | apply Core.lanewise_store | exact coreInit_store | apply id_store | apply State.coreAt_store | apply State.clusterStore_wf
    | apply wf_bputs | apply wf_filter | apply wf_storeTile | apply State.issued_store | apply State.cameTo_stores | exact stores_same ‹_›
    | exact stores_nil | exact stores_filter ‹_› | apply At.ite | apply At.next | apply At.some | exact At.none
    | dsimp -zeta only [At.mkFst, At.mkSnd] | apply At.foldl | apply At.getD | apply At.fst | apply At.snd
    | ((conv => enter [3, 20]) <;> apply At.upd <;> first | exact .inl ‹_› | exact .inr rfl | skip)
    | ((conv => enter [3, 20]) <;> apply At.updCore) | split | exact At.ofMkFst ‹_› | exact At.ofMkSnd ‹_›
    | refine At.ofNext (by assumption) ?_ | refine At.ofFst (by assumption) ?_ | refine At.ofSnd (by assumption) ?_
    | refine At.ofOpt (by assumption) ?_ | refine At.ofOptSnd (by assumption) ?_ | refine At.ofOptFst (by assumption) ?_
    | refine At.ofOptSnd2 (by assumption) ?_ | apply At.mapAny | dsimp +zetaDelta only)

end Sys2Proof.Machine
end

