-- ==== Sys2Proof/Laws/Keeps3.lean ====
section
/-! SUPPORT. What the operations of these files may change: Models, TextOps, FrameOps, SearchOps, CkOps, FabOps. -/

namespace Sys2Proof.Machine

set_option linter.all false

/-! ### Machine/Models.lean -/

theorem State.allocMissing_keeps {P : Part → Prop} {s₀ s : State} (dict_ : P .dict) (ses_ : P .ses) (tier_ : P .tier) (free_ : P .free) (i
    : Nat) (b : Nat) (fresh : Bool) (hs : At (Keeps P s₀) It s) : At (Keeps P s₀) It (State.allocMissing s i b fresh) := by
  unfold State.allocMissing
  with_reducible repeat' (first
    | assumption | (intro x; refine At.cut x ?_ ?_; rotate_left; intro _; clear_value x; rotate_left; unfold x) | intro _ | lift_lets
    | apply State.setSess_keeps | apply State.allocKv_keeps | apply At.ite | apply At.next | apply At.some | exact At.none
    | dsimp -zeta only [At.mkFst, At.mkSnd] | apply At.foldl | apply At.getD | apply At.fst | apply At.snd
    | ((conv => enter [3, 20]) <;> apply At.upd <;> first | exact .inl ‹_› | exact .inr rfl | skip)
    | ((conv => enter [3, 20]) <;> apply At.updCore) | split | exact At.ofMkFst ‹_› | exact At.ofMkSnd ‹_›
    | refine At.ofNext (by assumption) ?_ | refine At.ofFst (by assumption) ?_ | refine At.ofSnd (by assumption) ?_
    | refine At.ofOpt (by assumption) ?_ | refine At.ofOptSnd (by assumption) ?_ | refine At.ofOptFst (by assumption) ?_
    | refine At.ofOptSnd2 (by assumption) ?_ | apply At.mapAny | dsimp +zetaDelta only)

theorem State.allocTo_keeps {P : Part → Prop} {s₀ s : State} (dict_ : P .dict) (ses_ : P .ses) (tier_ : P .tier) (free_ : P .free) (i :
    Nat) (e : Nat) (hs : At (Keeps P s₀) It s) : At (Keeps P s₀) It (State.allocTo s i e) := by
  unfold State.allocTo
  with_reducible repeat' (first
    | assumption | (intro x; refine At.cut x ?_ ?_; rotate_left; intro _; clear_value x; rotate_left; unfold x) | intro _ | lift_lets
    | apply State.allocBlock_keeps | apply State.growPt_keeps | apply State.allocMissing_keeps | apply At.ite | apply At.next
    | apply At.some | exact At.none | dsimp -zeta only [At.mkFst, At.mkSnd] | apply At.foldl | apply At.getD | apply At.fst | apply At.snd
    | ((conv => enter [3, 20]) <;> apply At.upd <;> first | exact .inl ‹_› | exact .inr rfl | skip)
    | ((conv => enter [3, 20]) <;> apply At.updCore) | split | exact At.ofMkFst ‹_› | exact At.ofMkSnd ‹_›
    | refine At.ofNext (by assumption) ?_ | refine At.ofFst (by assumption) ?_ | refine At.ofSnd (by assumption) ?_
    | refine At.ofOpt (by assumption) ?_ | refine At.ofOptSnd (by assumption) ?_ | refine At.ofOptFst (by assumption) ?_
    | refine At.ofOptSnd2 (by assumption) ?_ | apply At.mapAny | dsimp +zetaDelta only)

theorem State.allocRebuild_keeps {P : Part → Prop} {s₀ s : State} (dict_ : P .dict) (ses_ : P .ses) (tier_ : P .tier) (free_ : P .free) (i
    : Nat) (lo : Nat) (hi : Nat) (hs : At (Keeps P s₀) It s) : At (Keeps P s₀) It (State.allocRebuild s i lo hi) := by
  unfold State.allocRebuild
  with_reducible repeat' (first
    | assumption | (intro x; refine At.cut x ?_ ?_; rotate_left; intro _; clear_value x; rotate_left; unfold x) | intro _ | lift_lets
    | apply State.allocMissing_keeps | apply At.ite | apply At.next | apply At.some | exact At.none
    | dsimp -zeta only [At.mkFst, At.mkSnd] | apply At.foldl | apply At.getD | apply At.fst | apply At.snd
    | ((conv => enter [3, 20]) <;> apply At.upd <;> first | exact .inl ‹_› | exact .inr rfl | skip)
    | ((conv => enter [3, 20]) <;> apply At.updCore) | split | exact At.ofMkFst ‹_› | exact At.ofMkSnd ‹_›
    | refine At.ofNext (by assumption) ?_ | refine At.ofFst (by assumption) ?_ | refine At.ofSnd (by assumption) ?_
    | refine At.ofOpt (by assumption) ?_ | refine At.ofOptSnd (by assumption) ?_ | refine At.ofOptFst (by assumption) ?_
    | refine At.ofOptSnd2 (by assumption) ?_ | apply At.mapAny | dsimp +zetaDelta only)

theorem State.freeBlock_keeps {P : Part → Prop} {s₀ s : State} (dict_ : P .dict) (ses_ : P .ses) (tier_ : P .tier) (i : Nat) (b : Nat) (hs
    : At (Keeps P s₀) It s) : At (Keeps P s₀) It (State.freeBlock s i b) := by
  unfold State.freeBlock
  with_reducible repeat' (first
    | assumption | (intro x; refine At.cut x ?_ ?_; rotate_left; intro _; clear_value x; rotate_left; unfold x) | intro _ | lift_lets
    | apply State.bump_keeps | apply State.freeKv_keeps | apply At.ite | apply At.next | apply At.some | exact At.none
    | dsimp -zeta only [At.mkFst, At.mkSnd] | apply At.foldl | apply At.getD | apply At.fst | apply At.snd
    | ((conv => enter [3, 20]) <;> apply At.upd <;> first | exact .inl ‹_› | exact .inr rfl | skip)
    | ((conv => enter [3, 20]) <;> apply At.updCore) | split | exact At.ofMkFst ‹_› | exact At.ofMkSnd ‹_›
    | refine At.ofNext (by assumption) ?_ | refine At.ofFst (by assumption) ?_ | refine At.ofSnd (by assumption) ?_
    | refine At.ofOpt (by assumption) ?_ | refine At.ofOptSnd (by assumption) ?_ | refine At.ofOptFst (by assumption) ?_
    | refine At.ofOptSnd2 (by assumption) ?_ | apply At.mapAny | dsimp +zetaDelta only)

theorem State.kvCleanup_keeps {P : Part → Prop} {s₀ s : State} (dict_ : P .dict) (ses_ : P .ses) (tier_ : P .tier) (i : Nat) (kept : Nat)
    (written : Nat) (hs : At (Keeps P s₀) It s) : At (Keeps P s₀) It (State.kvCleanup s i kept written) := by
  unfold State.kvCleanup
  with_reducible repeat' (first
    | assumption | (intro x; refine At.cut x ?_ ?_; rotate_left; intro _; clear_value x; rotate_left; unfold x) | intro _ | lift_lets
    | apply State.addObj_keeps | apply State.writeTile_keeps | apply State.modSess_keeps | apply State.syncPt_keeps
    | apply State.touchTile_keeps | apply State.freeBlock_keeps | apply At.ite | apply At.next | apply At.some | exact At.none
    | dsimp -zeta only [At.mkFst, At.mkSnd] | apply At.foldl | apply At.getD | apply At.fst | apply At.snd
    | ((conv => enter [3, 20]) <;> apply At.upd <;> first | exact .inl ‹_› | exact .inr rfl | skip)
    | ((conv => enter [3, 20]) <;> apply At.updCore) | split | exact At.ofMkFst ‹_› | exact At.ofMkSnd ‹_›
    | refine At.ofNext (by assumption) ?_ | refine At.ofFst (by assumption) ?_ | refine At.ofSnd (by assumption) ?_
    | refine At.ofOpt (by assumption) ?_ | refine At.ofOptSnd (by assumption) ?_ | refine At.ofOptFst (by assumption) ?_
    | refine At.ofOptSnd2 (by assumption) ?_ | apply At.mapAny | dsimp +zetaDelta only)

theorem State.appendOne_keeps {P : Part → Prop} {s₀ s : State} (dict_ : P .dict) (ses_ : P .ses) (tier_ : P .tier) (trv_ : P .trv) (core_ :
    P .core) (cluster : Nat) (e : AppendRec) (r : RowNow) (x : Session) (i : Nat) (hs : At (Keeps P s₀) It s) : At (Keeps P s₀) It
    (State.appendOne s cluster e r x i) := by
  unfold State.appendOne
  with_reducible repeat' (first
    | assumption | (intro x; refine At.cut x ?_ ?_; rotate_left; intro _; clear_value x; rotate_left; unfold x) | intro _ | lift_lets
    | apply State.bump_keeps | apply State.writeTile_keeps | apply State.setClusterStore_keeps | apply State.dropShadow_keeps
    | exact wf_nil | apply Core.settle_store | apply Core.write_store | apply wf_foldl_bputs | apply Core.result_store
    | apply Core.flags_store | apply Core.moved_store | apply Core.lanewise_store | exact coreInit_store | apply id_store
    | apply State.coreAt_store | apply State.clusterStore_wf | apply wf_bputs | apply wf_filter | apply wf_storeTile
    | apply State.issued_store | apply State.cameTo_stores | apply At.ite | apply At.next | apply At.some | exact At.none
    | dsimp -zeta only [At.mkFst, At.mkSnd] | apply At.foldl | apply At.getD | apply At.fst | apply At.snd
    | ((conv => enter [3, 20]) <;> apply At.upd <;> first | exact .inl ‹_› | exact .inr rfl | skip)
    | ((conv => enter [3, 20]) <;> apply At.updCore) | split | exact At.ofMkFst ‹_› | exact At.ofMkSnd ‹_›
    | refine At.ofNext (by assumption) ?_ | refine At.ofFst (by assumption) ?_ | refine At.ofSnd (by assumption) ?_
    | refine At.ofOpt (by assumption) ?_ | refine At.ofOptSnd (by assumption) ?_ | refine At.ofOptFst (by assumption) ?_
    | refine At.ofOptSnd2 (by assumption) ?_ | apply At.mapAny | dsimp +zetaDelta only)

theorem execAppendEntry_keeps {P : Part → Prop} {s₀ s : State} (dict_ : P .dict) (ses_ : P .ses) (tier_ : P .tier) (trv_ : P .trv) (core_ :
    P .core) (cluster : Nat) (n : Nat) (hs : At (Keeps P s₀) It s) : At (Keeps P s₀) Nxt (execAppendEntry cluster n s) := by
  unfold execAppendEntry
  with_reducible repeat' (first
    | assumption | (intro x; refine At.cut x ?_ ?_; rotate_left; intro _; clear_value x; rotate_left; unfold x) | intro _ | lift_lets
    | apply State.bump_keeps | apply State.clusterAdvance_keeps | apply State.appendOne_keeps | apply At.ite | apply At.next
    | apply At.some | exact At.none | dsimp -zeta only [At.mkFst, At.mkSnd] | apply At.foldl | apply At.getD | apply At.fst | apply At.snd
    | ((conv => enter [3, 20]) <;> apply At.upd <;> first | exact .inl ‹_› | exact .inr rfl | skip)
    | ((conv => enter [3, 20]) <;> apply At.updCore) | split | exact At.ofMkFst ‹_› | exact At.ofMkSnd ‹_›
    | refine At.ofNext (by assumption) ?_ | refine At.ofFst (by assumption) ?_ | refine At.ofSnd (by assumption) ?_
    | refine At.ofOpt (by assumption) ?_ | refine At.ofOptSnd (by assumption) ?_ | refine At.ofOptFst (by assumption) ?_
    | refine At.ofOptSnd2 (by assumption) ?_ | apply At.mapAny | dsimp +zetaDelta only)

theorem State.gatherTile_keeps {P : Part → Prop} {s₀ s : State} (dict_ : P .dict) (fb_ : P .fb) (stn_ : P .stn) (ses_ : P .ses) (tier_ : P
    .tier) (shape_ : P .shape) (trv_ : P .trv) (core_ : P .core) (srch_ : P .srch) (free_ : P .free) (g : GatherRec) (row : Nat) (x : Nat)
    (job : Nat × Nat × Nat) (r : TileRead) (hs : At (Keeps P s₀) It s) : At (Keeps P s₀) It (State.gatherTile s g row x job r) := by
  unfold State.gatherTile
  with_reducible repeat' (first
    | assumption | (intro x; refine At.cut x ?_ ?_; rotate_left; intro _; clear_value x; rotate_left; unfold x) | intro _ | lift_lets
    | apply State.gatherFault_keeps | apply State.runJob_keeps | apply At.ite | apply At.next | apply At.some | exact At.none
    | dsimp -zeta only [At.mkFst, At.mkSnd] | apply At.foldl | apply At.getD | apply At.fst | apply At.snd
    | ((conv => enter [3, 20]) <;> apply At.upd <;> first | exact .inl ‹_› | exact .inr rfl | skip)
    | ((conv => enter [3, 20]) <;> apply At.updCore) | split | exact At.ofMkFst ‹_› | exact At.ofMkSnd ‹_›
    | refine At.ofNext (by assumption) ?_ | refine At.ofFst (by assumption) ?_ | refine At.ofSnd (by assumption) ?_
    | refine At.ofOpt (by assumption) ?_ | refine At.ofOptSnd (by assumption) ?_ | refine At.ofOptFst (by assumption) ?_
    | refine At.ofOptSnd2 (by assumption) ?_ | apply At.mapAny | dsimp +zetaDelta only)

theorem execGatherRecord_keeps {P : Part → Prop} {s₀ s : State} (dict_ : P .dict) (fb_ : P .fb) (stn_ : P .stn) (ses_ : P .ses) (tier_ : P
    .tier) (shape_ : P .shape) (trv_ : P .trv) (core_ : P .core) (srch_ : P .srch) (free_ : P .free) (n : Nat) (reads : List TileRead) (hs
    : At (Keeps P s₀) It s) : At (Keeps P s₀) Nxt (execGatherRecord n reads s) := by
  unfold execGatherRecord
  with_reducible repeat' (first
    | assumption | (intro x; refine At.cut x ?_ ?_; rotate_left; intro _; clear_value x; rotate_left; unfold x) | intro _ | lift_lets
    | apply State.addObj_keeps | apply State.gatherMet_keeps | apply State.gatherTile_keeps | apply At.ite | apply At.next | apply At.some
    | exact At.none | dsimp -zeta only [At.mkFst, At.mkSnd] | apply At.foldl | apply At.getD | apply At.fst | apply At.snd
    | ((conv => enter [3, 20]) <;> apply At.upd <;> first | exact .inl ‹_› | exact .inr rfl | skip)
    | ((conv => enter [3, 20]) <;> apply At.updCore) | split | exact At.ofMkFst ‹_› | exact At.ofMkSnd ‹_›
    | refine At.ofNext (by assumption) ?_ | refine At.ofFst (by assumption) ?_ | refine At.ofSnd (by assumption) ?_
    | refine At.ofOpt (by assumption) ?_ | refine At.ofOptSnd (by assumption) ?_ | refine At.ofOptFst (by assumption) ?_
    | refine At.ofOptSnd2 (by assumption) ?_ | apply At.mapAny | dsimp +zetaDelta only)

theorem State.setModelSlot_keeps {P : Part → Prop} {s₀ s : State} (tier_ : P .tier) (m : Nat) (x : ModelSlot) (hs : At (Keeps P s₀) It s) :
    At (Keeps P s₀) It (State.setModelSlot s m x) := by
  unfold State.setModelSlot
  with_reducible repeat' (first
    | assumption | (intro x; refine At.cut x ?_ ?_; rotate_left; intro _; clear_value x; rotate_left; unfold x) | intro _ | lift_lets
    | apply At.ite | apply At.next | apply At.some | exact At.none | dsimp -zeta only [At.mkFst, At.mkSnd] | apply At.foldl
    | apply At.getD | apply At.fst | apply At.snd
    | ((conv => enter [3, 20]) <;> apply At.upd <;> first | exact .inl ‹_› | exact .inr rfl | skip)
    | ((conv => enter [3, 20]) <;> apply At.updCore) | split | exact At.ofMkFst ‹_› | exact At.ofMkSnd ‹_›
    | refine At.ofNext (by assumption) ?_ | refine At.ofFst (by assumption) ?_ | refine At.ofSnd (by assumption) ?_
    | refine At.ofOpt (by assumption) ?_ | refine At.ofOptSnd (by assumption) ?_ | refine At.ofOptFst (by assumption) ?_
    | refine At.ofOptSnd2 (by assumption) ?_ | apply At.mapAny | dsimp +zetaDelta only)

theorem execMdlLoad_keeps {P : Part → Prop} {s₀ s : State} (dict_ : P .dict) (mgmt_ : P .mgmt) (fb_ : P .fb) (stn_ : P .stn) (tier_ : P
    .tier) (w : Writer) (mm : Nat) (vocab : Nat) (hs : At (Keeps P s₀) It s) : At (Keeps P s₀) Nxt (execMdlLoad w mm vocab s) := by
  unfold execMdlLoad
  with_reducible repeat' (first
    | assumption | (intro x; refine At.cut x ?_ ?_; rotate_left; intro _; clear_value x; rotate_left; unfold x) | intro _ | lift_lets
    | apply State.setObj_keeps | apply State.command_keeps | apply State.freeAll_keeps | apply State.setModelSlot_keeps | apply At.ite
    | apply At.next | apply At.some | exact At.none | dsimp -zeta only [At.mkFst, At.mkSnd] | apply At.foldl | apply At.getD
    | apply At.fst | apply At.snd | ((conv => enter [3, 20]) <;> apply At.upd <;> first | exact .inl ‹_› | exact .inr rfl | skip)
    | ((conv => enter [3, 20]) <;> apply At.updCore) | split | exact At.ofMkFst ‹_› | exact At.ofMkSnd ‹_›
    | refine At.ofNext (by assumption) ?_ | refine At.ofFst (by assumption) ?_ | refine At.ofSnd (by assumption) ?_
    | refine At.ofOpt (by assumption) ?_ | refine At.ofOptSnd (by assumption) ?_ | refine At.ofOptFst (by assumption) ?_
    | refine At.ofOptSnd2 (by assumption) ?_ | apply At.mapAny | dsimp +zetaDelta only)

theorem State.weightSlot_keeps {P : Part → Prop} {s₀ s : State} (free_ : P .free) (mm : Nat) (half : Nat) (hs : At (Keeps P s₀) It s) : At
    (Keeps P s₀) (Opt (Snd It)) (State.weightSlot s mm half) := by
  unfold State.weightSlot
  with_reducible repeat' (first
    | assumption | (intro x; refine At.cut x ?_ ?_; rotate_left; intro _; clear_value x; rotate_left; unfold x) | intro _ | lift_lets
    | apply State.draw_keeps | apply At.ite | apply At.next | apply At.some | exact At.none | dsimp -zeta only [At.mkFst, At.mkSnd]
    | apply At.foldl | apply At.getD | apply At.fst | apply At.snd
    | ((conv => enter [3, 20]) <;> apply At.upd <;> first | exact .inl ‹_› | exact .inr rfl | skip)
    | ((conv => enter [3, 20]) <;> apply At.updCore) | split | exact At.ofMkFst ‹_› | exact At.ofMkSnd ‹_›
    | refine At.ofNext (by assumption) ?_ | refine At.ofFst (by assumption) ?_ | refine At.ofSnd (by assumption) ?_
    | refine At.ofOpt (by assumption) ?_ | refine At.ofOptSnd (by assumption) ?_ | refine At.ofOptFst (by assumption) ?_
    | refine At.ofOptSnd2 (by assumption) ?_ | apply At.mapAny | dsimp +zetaDelta only)

theorem State.keepWeight_keeps {P : Part → Prop} {s₀ s : State} (tier_ : P .tier) (mm : Nat) (a : Nat) (hs : At (Keeps P s₀) It s) : At
    (Keeps P s₀) It (State.keepWeight s mm a) := by
  unfold State.keepWeight
  with_reducible repeat' (first
    | assumption | (intro x; refine At.cut x ?_ ?_; rotate_left; intro _; clear_value x; rotate_left; unfold x) | intro _ | lift_lets
    | apply State.setModelSlot_keeps | apply At.ite | apply At.next | apply At.some | exact At.none
    | dsimp -zeta only [At.mkFst, At.mkSnd] | apply At.foldl | apply At.getD | apply At.fst | apply At.snd
    | ((conv => enter [3, 20]) <;> apply At.upd <;> first | exact .inl ‹_› | exact .inr rfl | skip)
    | ((conv => enter [3, 20]) <;> apply At.updCore) | split | exact At.ofMkFst ‹_› | exact At.ofMkSnd ‹_›
    | refine At.ofNext (by assumption) ?_ | refine At.ofFst (by assumption) ?_ | refine At.ofSnd (by assumption) ?_
    | refine At.ofOpt (by assumption) ?_ | refine At.ofOptSnd (by assumption) ?_ | refine At.ofOptFst (by assumption) ?_
    | refine At.ofOptSnd2 (by assumption) ?_ | apply At.mapAny | dsimp +zetaDelta only)

theorem State.placeWeight_keeps {P : Part → Prop} {s₀ s : State} (dict_ : P .dict) (ses_ : P .ses) (tier_ : P .tier) (free_ : P .free) (mm
    : Nat) (t : Tile) (hs : At (Keeps P s₀) It s) : At (Keeps P s₀) (Fst It) (State.placeWeight s mm t) := by
  unfold State.placeWeight
  with_reducible repeat' (first
    | assumption | (intro x; refine At.cut x ?_ ?_; rotate_left; intro _; clear_value x; rotate_left; unfold x) | intro _ | lift_lets
    | apply State.writeTile_keeps | apply State.allocT1_keeps | apply State.weightSlot_keeps | apply State.keepWeight_keeps | apply At.ite
    | apply At.next | apply At.some | exact At.none | dsimp -zeta only [At.mkFst, At.mkSnd] | apply At.foldl | apply At.getD
    | apply At.fst | apply At.snd | ((conv => enter [3, 20]) <;> apply At.upd <;> first | exact .inl ‹_› | exact .inr rfl | skip)
    | ((conv => enter [3, 20]) <;> apply At.updCore) | split | exact At.ofMkFst ‹_› | exact At.ofMkSnd ‹_›
    | refine At.ofNext (by assumption) ?_ | refine At.ofFst (by assumption) ?_ | refine At.ofSnd (by assumption) ?_
    | refine At.ofOpt (by assumption) ?_ | refine At.ofOptSnd (by assumption) ?_ | refine At.ofOptFst (by assumption) ?_
    | refine At.ofOptSnd2 (by assumption) ?_ | apply At.mapAny | dsimp +zetaDelta only)

theorem State.loadWeights_keeps {P : Part → Prop} {s₀ s : State} (dict_ : P .dict) (ses_ : P .ses) (tier_ : P .tier) (free_ : P .free) (mm
    : Nat) (y2 : List Octets) (hs : At (Keeps P s₀) It s) : At (Keeps P s₀) (Fst It) (State.loadWeights s mm y2) := by
  induction y2 generalizing s with
  | nil =>
    unfold State.loadWeights
    with_reducible repeat' (first
      | assumption | (intro x; refine At.cut x ?_ ?_; rotate_left; intro _; clear_value x; rotate_left; unfold x) | intro _ | lift_lets
      | apply State.placeWeight_keeps | apply At.ite | apply At.next | apply At.some | exact At.none | dsimp -zeta only [At.mkFst, At.mkSnd]
      | apply At.foldl | apply At.getD | apply At.fst | apply At.snd
      | ((conv => enter [3, 20]) <;> apply At.upd <;> first | exact .inl ‹_› | exact .inr rfl | skip)
      | ((conv => enter [3, 20]) <;> apply At.updCore) | split | exact At.ofMkFst ‹_› | exact At.ofMkSnd ‹_›
      | refine At.ofNext (by assumption) ?_ | refine At.ofFst (by assumption) ?_ | refine At.ofSnd (by assumption) ?_
      | refine At.ofOpt (by assumption) ?_ | refine At.ofOptSnd (by assumption) ?_ | refine At.ofOptFst (by assumption) ?_
      | refine At.ofOptSnd2 (by assumption) ?_ | apply At.mapAny | dsimp +zetaDelta only)
  | cons a r ih =>
    unfold State.loadWeights
    with_reducible repeat' (first
      | assumption | (intro x; refine At.cut x ?_ ?_; rotate_left; intro _; clear_value x; rotate_left; unfold x) | intro _ | lift_lets
      | apply State.placeWeight_keeps | apply ih | apply At.ite | apply At.next | apply At.some | exact At.none
      | dsimp -zeta only [At.mkFst, At.mkSnd] | apply At.foldl | apply At.getD | apply At.fst | apply At.snd
      | ((conv => enter [3, 20]) <;> apply At.upd <;> first | exact .inl ‹_› | exact .inr rfl | skip)
      | ((conv => enter [3, 20]) <;> apply At.updCore) | split | exact At.ofMkFst ‹_› | exact At.ofMkSnd ‹_›
      | refine At.ofNext (by assumption) ?_ | refine At.ofFst (by assumption) ?_ | refine At.ofSnd (by assumption) ?_
      | refine At.ofOpt (by assumption) ?_ | refine At.ofOptSnd (by assumption) ?_ | refine At.ofOptFst (by assumption) ?_
      | refine At.ofOptSnd2 (by assumption) ?_ | apply At.mapAny | dsimp +zetaDelta only)

theorem execMdlLoadDone_keeps {P : Part → Prop} {s₀ s : State} (dict_ : P .dict) (ses_ : P .ses) (tier_ : P .tier) (free_ : P .free) (mm :
    Nat) (img : Option Octets) (hs : At (Keeps P s₀) It s) : At (Keeps P s₀) Nxt (execMdlLoadDone mm img s) := by
  unfold execMdlLoadDone
  with_reducible repeat' (first
    | assumption | (intro x; refine At.cut x ?_ ?_; rotate_left; intro _; clear_value x; rotate_left; unfold x) | intro _ | lift_lets
    | apply State.setObj_keeps | apply State.freeAll_keeps | apply State.setModelSlot_keeps | apply State.loadWeights_keeps | apply At.ite
    | apply At.next | apply At.some | exact At.none | dsimp -zeta only [At.mkFst, At.mkSnd] | apply At.foldl | apply At.getD
    | apply At.fst | apply At.snd | ((conv => enter [3, 20]) <;> apply At.upd <;> first | exact .inl ‹_› | exact .inr rfl | skip)
    | ((conv => enter [3, 20]) <;> apply At.updCore) | split | exact At.ofMkFst ‹_› | exact At.ofMkSnd ‹_›
    | refine At.ofNext (by assumption) ?_ | refine At.ofFst (by assumption) ?_ | refine At.ofSnd (by assumption) ?_
    | refine At.ofOpt (by assumption) ?_ | refine At.ofOptSnd (by assumption) ?_ | refine At.ofOptFst (by assumption) ?_
    | refine At.ofOptSnd2 (by assumption) ?_ | apply At.mapAny | dsimp +zetaDelta only)

theorem execMdlUnload_keeps {P : Part → Prop} {s₀ s : State} (dict_ : P .dict) (mgmt_ : P .mgmt) (fb_ : P .fb) (stn_ : P .stn) (tier_ : P
    .tier) (w : Writer) (mm : Nat) (hs : At (Keeps P s₀) It s) : At (Keeps P s₀) Nxt (execMdlUnload w mm s) := by
  unfold execMdlUnload
  with_reducible repeat' (first
    | assumption | (intro x; refine At.cut x ?_ ?_; rotate_left; intro _; clear_value x; rotate_left; unfold x) | intro _ | lift_lets
    | apply State.setObj_keeps | apply State.commandNow_keeps | apply State.freeAll_keeps | apply State.setModelSlot_keeps | apply At.ite
    | apply At.next | apply At.some | exact At.none | dsimp -zeta only [At.mkFst, At.mkSnd] | apply At.foldl | apply At.getD
    | apply At.fst | apply At.snd | ((conv => enter [3, 20]) <;> apply At.upd <;> first | exact .inl ‹_› | exact .inr rfl | skip)
    | ((conv => enter [3, 20]) <;> apply At.updCore) | split | exact At.ofMkFst ‹_› | exact At.ofMkSnd ‹_›
    | refine At.ofNext (by assumption) ?_ | refine At.ofFst (by assumption) ?_ | refine At.ofSnd (by assumption) ?_
    | refine At.ofOpt (by assumption) ?_ | refine At.ofOptSnd (by assumption) ?_ | refine At.ofOptFst (by assumption) ?_
    | refine At.ofOptSnd2 (by assumption) ?_ | apply At.mapAny | dsimp +zetaDelta only)

/-! ### Machine/TextOps.lean -/

theorem State.emitTokens_keeps {P : Part → Prop} {s₀ s : State} (ses_ : P .ses) (i : Nat) (toks : List Nat) (hs : At (Keeps P s₀) It s) :
    At (Keeps P s₀) It (State.emitTokens s i toks) := by
  unfold State.emitTokens
  with_reducible repeat' (first
    | assumption | (intro x; refine At.cut x ?_ ?_; rotate_left; intro _; clear_value x; rotate_left; unfold x) | intro _ | lift_lets
    | apply State.modSess_keeps | apply At.ite | apply At.next | apply At.some | exact At.none | dsimp -zeta only [At.mkFst, At.mkSnd]
    | apply At.foldl | apply At.getD | apply At.fst | apply At.snd
    | ((conv => enter [3, 20]) <;> apply At.upd <;> first | exact .inl ‹_› | exact .inr rfl | skip)
    | ((conv => enter [3, 20]) <;> apply At.updCore) | split | exact At.ofMkFst ‹_› | exact At.ofMkSnd ‹_›
    | refine At.ofNext (by assumption) ?_ | refine At.ofFst (by assumption) ?_ | refine At.ofSnd (by assumption) ?_
    | refine At.ofOpt (by assumption) ?_ | refine At.ofOptSnd (by assumption) ?_ | refine At.ofOptFst (by assumption) ?_
    | refine At.ofOptSnd2 (by assumption) ?_ | apply At.mapAny | dsimp +zetaDelta only)

theorem State.countMatch_keeps {P : Part → Prop} {s₀ s : State} (dict_ : P .dict) (ses_ : P .ses) (i : Nat) (m : MatchOut) (hs : At (Keeps
    P s₀) It s) : At (Keeps P s₀) It (State.countMatch s i m) := by
  unfold State.countMatch
  with_reducible repeat' (first
    | assumption | (intro x; refine At.cut x ?_ ?_; rotate_left; intro _; clear_value x; rotate_left; unfold x) | intro _ | lift_lets
    | apply State.addObj_keeps | apply State.setSess_keeps | apply At.ite | apply At.next | apply At.some | exact At.none
    | dsimp -zeta only [At.mkFst, At.mkSnd] | apply At.foldl | apply At.getD | apply At.fst | apply At.snd
    | ((conv => enter [3, 20]) <;> apply At.upd <;> first | exact .inl ‹_› | exact .inr rfl | skip)
    | ((conv => enter [3, 20]) <;> apply At.updCore) | split | exact At.ofMkFst ‹_› | exact At.ofMkSnd ‹_›
    | refine At.ofNext (by assumption) ?_ | refine At.ofFst (by assumption) ?_ | refine At.ofSnd (by assumption) ?_
    | refine At.ofOpt (by assumption) ?_ | refine At.ofOptSnd (by assumption) ?_ | refine At.ofOptFst (by assumption) ?_
    | refine At.ofOptSnd2 (by assumption) ?_ | apply At.mapAny | dsimp +zetaDelta only)

theorem State.markInput_keeps {P : Part → Prop} {s₀ s : State} (ses_ : P .ses) (i : Nat) (first : Nat) (reset : Bool) (trunc : Bool) (hs :
    At (Keeps P s₀) It s) : At (Keeps P s₀) It (State.markInput s i first reset trunc) := by
  unfold State.markInput
  with_reducible repeat' (first
    | assumption | (intro x; refine At.cut x ?_ ?_; rotate_left; intro _; clear_value x; rotate_left; unfold x) | intro _ | lift_lets
    | apply State.modSess_keeps | apply At.ite | apply At.next | apply At.some | exact At.none | dsimp -zeta only [At.mkFst, At.mkSnd]
    | apply At.foldl | apply At.getD | apply At.fst | apply At.snd
    | ((conv => enter [3, 20]) <;> apply At.upd <;> first | exact .inl ‹_› | exact .inr rfl | skip)
    | ((conv => enter [3, 20]) <;> apply At.updCore) | split | exact At.ofMkFst ‹_› | exact At.ofMkSnd ‹_›
    | refine At.ofNext (by assumption) ?_ | refine At.ofFst (by assumption) ?_ | refine At.ofSnd (by assumption) ?_
    | refine At.ofOpt (by assumption) ?_ | refine At.ofOptSnd (by assumption) ?_ | refine At.ofOptFst (by assumption) ?_
    | refine At.ofOptSnd2 (by assumption) ?_ | apply At.mapAny | dsimp +zetaDelta only)

theorem State.tokenizeRec_keeps {P : Part → Prop} {s₀ s : State} (dict_ : P .dict) (stn_ : P .stn) (ses_ : P .ses) (tier_ : P .tier) (free_
    : P .free) (i : Nat) (d : DictImage) (r : InputRec) (hs : At (Keeps P s₀) It s) : At (Keeps P s₀) It (State.tokenizeRec s i d r) := by
  unfold State.tokenizeRec
  with_reducible repeat' (first
    | assumption | (intro x; refine At.cut x ?_ ?_; rotate_left; intro _; clear_value x; rotate_left; unfold x) | intro _ | lift_lets
    | apply State.bump_keeps | apply State.setSess_keeps | apply State.modSess_keeps | apply State.sevent_keeps
    | apply State.syncQueue_keeps | apply State.emitTokens_keeps | apply State.countMatch_keeps | apply State.markInput_keeps
    | apply At.ite | apply At.next | apply At.some | exact At.none | dsimp -zeta only [At.mkFst, At.mkSnd] | apply At.foldl
    | apply At.getD | apply At.fst | apply At.snd
    | ((conv => enter [3, 20]) <;> apply At.upd <;> first | exact .inl ‹_› | exact .inr rfl | skip)
    | ((conv => enter [3, 20]) <;> apply At.updCore) | split | exact At.ofMkFst ‹_› | exact At.ofMkSnd ‹_›
    | refine At.ofNext (by assumption) ?_ | refine At.ofFst (by assumption) ?_ | refine At.ofSnd (by assumption) ?_
    | refine At.ofOpt (by assumption) ?_ | refine At.ofOptSnd (by assumption) ?_ | refine At.ofOptFst (by assumption) ?_
    | refine At.ofOptSnd2 (by assumption) ?_ | apply At.mapAny | dsimp +zetaDelta only)

theorem State.setReady_keeps {P : Part → Prop} {s₀ s : State} (text_ : P .text) (half : Nat) (t : Option Nat) (hs : At (Keeps P s₀) It s) :
    At (Keeps P s₀) It (State.setReady s half t) := by
  unfold State.setReady
  with_reducible repeat' (first
    | assumption | (intro x; refine At.cut x ?_ ?_; rotate_left; intro _; clear_value x; rotate_left; unfold x) | intro _ | lift_lets
    | apply At.ite | apply At.next | apply At.some | exact At.none | dsimp -zeta only [At.mkFst, At.mkSnd] | apply At.foldl
    | apply At.getD | apply At.fst | apply At.snd
    | ((conv => enter [3, 20]) <;> apply At.upd <;> first | exact .inl ‹_› | exact .inr rfl | skip)
    | ((conv => enter [3, 20]) <;> apply At.updCore) | split | exact At.ofMkFst ‹_› | exact At.ofMkSnd ‹_›
    | refine At.ofNext (by assumption) ?_ | refine At.ofFst (by assumption) ?_ | refine At.ofSnd (by assumption) ?_
    | refine At.ofOpt (by assumption) ?_ | refine At.ofOptSnd (by assumption) ?_ | refine At.ofOptFst (by assumption) ?_
    | refine At.ofOptSnd2 (by assumption) ?_ | apply At.mapAny | dsimp +zetaDelta only)

theorem execTokenizeRecord_keeps {P : Part → Prop} {s₀ s : State} (dict_ : P .dict) (stn_ : P .stn) (ses_ : P .ses) (tier_ : P .tier)
    (free_ : P .free) (sid : Nat) (hs : At (Keeps P s₀) It s) : At (Keeps P s₀) Nxt (execTokenizeRecord sid s) := by
  unfold execTokenizeRecord
  with_reducible repeat' (first
    | assumption | (intro x; refine At.cut x ?_ ?_; rotate_left; intro _; clear_value x; rotate_left; unfold x) | intro _ | lift_lets
    | apply State.setSess_keeps | apply State.modSess_keeps | apply State.tokenizeRec_keeps | apply At.ite | apply At.next | apply At.some
    | exact At.none | dsimp -zeta only [At.mkFst, At.mkSnd] | apply At.foldl | apply At.getD | apply At.fst | apply At.snd
    | ((conv => enter [3, 20]) <;> apply At.upd <;> first | exact .inl ‹_› | exact .inr rfl | skip)
    | ((conv => enter [3, 20]) <;> apply At.updCore) | split | exact At.ofMkFst ‹_› | exact At.ofMkSnd ‹_›
    | refine At.ofNext (by assumption) ?_ | refine At.ofFst (by assumption) ?_ | refine At.ofSnd (by assumption) ?_
    | refine At.ofOpt (by assumption) ?_ | refine At.ofOptSnd (by assumption) ?_ | refine At.ofOptFst (by assumption) ?_
    | refine At.ofOptSnd2 (by assumption) ?_ | apply At.mapAny | dsimp +zetaDelta only)

theorem execTextWorkStart_keeps {P : Part → Prop} {s₀ s : State} (dict_ : P .dict) (core_ : P .core) (text_ : P .text) (half : Nat) (hs :
    At (Keeps P s₀) It s) : At (Keeps P s₀) Nxt (execTextWorkStart half s) := by
  unfold execTextWorkStart
  with_reducible repeat' (first
    | assumption | (intro x; refine At.cut x ?_ ?_; rotate_left; intro _; clear_value x; rotate_left; unfold x) | intro _ | lift_lets
    | apply State.bump_keeps | apply State.setClusterStore_keeps | apply State.setReady_keeps | exact wf_nil | apply Core.settle_store
    | apply Core.write_store | apply wf_foldl_bputs | apply Core.result_store | apply Core.flags_store | apply Core.moved_store
    | apply Core.lanewise_store | exact coreInit_store | apply id_store | apply State.coreAt_store | apply State.clusterStore_wf
    | apply wf_bputs | apply wf_filter | apply wf_storeTile | apply State.issued_store | apply State.cameTo_stores | apply At.ite
    | apply At.next | apply At.some | exact At.none | dsimp -zeta only [At.mkFst, At.mkSnd] | apply At.foldl | apply At.getD
    | apply At.fst | apply At.snd | ((conv => enter [3, 20]) <;> apply At.upd <;> first | exact .inl ‹_› | exact .inr rfl | skip)
    | ((conv => enter [3, 20]) <;> apply At.updCore) | split | exact At.ofMkFst ‹_› | exact At.ofMkSnd ‹_›
    | refine At.ofNext (by assumption) ?_ | refine At.ofFst (by assumption) ?_ | refine At.ofSnd (by assumption) ?_
    | refine At.ofOpt (by assumption) ?_ | refine At.ofOptSnd (by assumption) ?_ | refine At.ofOptFst (by assumption) ?_
    | refine At.ofOptSnd2 (by assumption) ?_ | apply At.mapAny | dsimp +zetaDelta only)

theorem State.mirrorShards_keeps {P : Part → Prop} {s₀ s : State} (dict_ : P .dict) (ses_ : P .ses) (tier_ : P .tier) (free_ : P .free)
    (owner : Nat) (d : DictImage) (hs : At (Keeps P s₀) It s) : At (Keeps P s₀) It (State.mirrorShards s owner d) := by
  unfold State.mirrorShards
  with_reducible repeat' (first
    | assumption | (intro x; refine At.cut x ?_ ?_; rotate_left; intro _; clear_value x; rotate_left; unfold x) | intro _ | lift_lets
    | apply State.allocT1_keeps | apply At.ite | apply At.next | apply At.some | exact At.none | dsimp -zeta only [At.mkFst, At.mkSnd]
    | apply At.foldl | apply At.getD | apply At.fst | apply At.snd
    | ((conv => enter [3, 20]) <;> apply At.upd <;> first | exact .inl ‹_› | exact .inr rfl | skip)
    | ((conv => enter [3, 20]) <;> apply At.updCore) | split | exact At.ofMkFst ‹_› | exact At.ofMkSnd ‹_›
    | refine At.ofNext (by assumption) ?_ | refine At.ofFst (by assumption) ?_ | refine At.ofSnd (by assumption) ?_
    | refine At.ofOpt (by assumption) ?_ | refine At.ofOptSnd (by assumption) ?_ | refine At.ofOptFst (by assumption) ?_
    | refine At.ofOptSnd2 (by assumption) ?_ | apply At.mapAny | dsimp +zetaDelta only)

theorem State.dropDict_keeps {P : Part → Prop} {s₀ s : State} (tier_ : P .tier) (text_ : P .text) (dd : Nat) (hs : At (Keeps P s₀) It s) :
    At (Keeps P s₀) It (State.dropDict s dd) := by
  unfold State.dropDict
  with_reducible repeat' (first
    | assumption | (intro x; refine At.cut x ?_ ?_; rotate_left; intro _; clear_value x; rotate_left; unfold x) | intro _ | lift_lets
    | apply State.freeText_keeps | apply At.ite | apply At.next | apply At.some | exact At.none | dsimp -zeta only [At.mkFst, At.mkSnd]
    | apply At.foldl | apply At.getD | apply At.fst | apply At.snd
    | ((conv => enter [3, 20]) <;> apply At.upd <;> first | exact .inl ‹_› | exact .inr rfl | skip)
    | ((conv => enter [3, 20]) <;> apply At.updCore) | split | exact At.ofMkFst ‹_› | exact At.ofMkSnd ‹_›
    | refine At.ofNext (by assumption) ?_ | refine At.ofFst (by assumption) ?_ | refine At.ofSnd (by assumption) ?_
    | refine At.ofOpt (by assumption) ?_ | refine At.ofOptSnd (by assumption) ?_ | refine At.ofOptFst (by assumption) ?_
    | refine At.ofOptSnd2 (by assumption) ?_ | apply At.mapAny | dsimp +zetaDelta only)

theorem State.keepDict_keeps {P : Part → Prop} {s₀ s : State} (dict_ : P .dict) (ses_ : P .ses) (tier_ : P .tier) (text_ : P .text) (free_
    : P .free) (dd : Nat) (o : Octets) (hs : At (Keeps P s₀) It s) : At (Keeps P s₀) It (State.keepDict s dd o) := by
  unfold State.keepDict
  with_reducible repeat' (first
    | assumption | (intro x; refine At.cut x ?_ ?_; rotate_left; intro _; clear_value x; rotate_left; unfold x) | intro _ | lift_lets
    | apply State.keepText_keeps | apply State.mirrorShards_keeps | apply At.ite | apply At.next | apply At.some | exact At.none
    | dsimp -zeta only [At.mkFst, At.mkSnd] | apply At.foldl | apply At.getD | apply At.fst | apply At.snd
    | ((conv => enter [3, 20]) <;> apply At.upd <;> first | exact .inl ‹_› | exact .inr rfl | skip)
    | ((conv => enter [3, 20]) <;> apply At.updCore) | split | exact At.ofMkFst ‹_› | exact At.ofMkSnd ‹_›
    | refine At.ofNext (by assumption) ?_ | refine At.ofFst (by assumption) ?_ | refine At.ofSnd (by assumption) ?_
    | refine At.ofOpt (by assumption) ?_ | refine At.ofOptSnd (by assumption) ?_ | refine At.ofOptFst (by assumption) ?_
    | refine At.ofOptSnd2 (by assumption) ?_ | apply At.mapAny | dsimp +zetaDelta only)

theorem execDictLoad_keeps {P : Part → Prop} {s₀ s : State} (dict_ : P .dict) (mgmt_ : P .mgmt) (fb_ : P .fb) (stn_ : P .stn) (ses_ : P
    .ses) (tier_ : P .tier) (text_ : P .text) (free_ : P .free) (w : Writer) (dd : Nat) (img : Option Octets) (hs : At (Keeps P s₀) It s) :
    At (Keeps P s₀) Nxt (execDictLoad w dd img s) := by
  unfold execDictLoad
  with_reducible repeat' (first
    | assumption | (intro x; refine At.cut x ?_ ?_; rotate_left; intro _; clear_value x; rotate_left; unfold x) | intro _ | lift_lets
    | apply State.setObj_keeps | apply State.command_keeps | apply State.dropDict_keeps | apply State.keepDict_keeps | apply At.ite
    | apply At.next | apply At.some | exact At.none | dsimp -zeta only [At.mkFst, At.mkSnd] | apply At.foldl | apply At.getD
    | apply At.fst | apply At.snd | ((conv => enter [3, 20]) <;> apply At.upd <;> first | exact .inl ‹_› | exact .inr rfl | skip)
    | ((conv => enter [3, 20]) <;> apply At.updCore) | split | exact At.ofMkFst ‹_› | exact At.ofMkSnd ‹_›
    | refine At.ofNext (by assumption) ?_ | refine At.ofFst (by assumption) ?_ | refine At.ofSnd (by assumption) ?_
    | refine At.ofOpt (by assumption) ?_ | refine At.ofOptSnd (by assumption) ?_ | refine At.ofOptFst (by assumption) ?_
    | refine At.ofOptSnd2 (by assumption) ?_ | apply At.mapAny | dsimp +zetaDelta only)

theorem execDictUnload_keeps {P : Part → Prop} {s₀ s : State} (dict_ : P .dict) (mgmt_ : P .mgmt) (fb_ : P .fb) (stn_ : P .stn) (tier_ : P
    .tier) (text_ : P .text) (w : Writer) (dd : Nat) (hs : At (Keeps P s₀) It s) : At (Keeps P s₀) Nxt (execDictUnload w dd s) := by
  unfold execDictUnload
  with_reducible repeat' (first
    | assumption | (intro x; refine At.cut x ?_ ?_; rotate_left; intro _; clear_value x; rotate_left; unfold x) | intro _ | lift_lets
    | apply State.setObj_keeps | apply State.commandNow_keeps | apply State.dropDict_keeps | apply At.ite | apply At.next | apply At.some
    | exact At.none | dsimp -zeta only [At.mkFst, At.mkSnd] | apply At.foldl | apply At.getD | apply At.fst | apply At.snd
    | ((conv => enter [3, 20]) <;> apply At.upd <;> first | exact .inl ‹_› | exact .inr rfl | skip)
    | ((conv => enter [3, 20]) <;> apply At.updCore) | split | exact At.ofMkFst ‹_› | exact At.ofMkSnd ‹_›
    | refine At.ofNext (by assumption) ?_ | refine At.ofFst (by assumption) ?_ | refine At.ofSnd (by assumption) ?_
    | refine At.ofOpt (by assumption) ?_ | refine At.ofOptSnd (by assumption) ?_ | refine At.ofOptFst (by assumption) ?_
    | refine At.ofOptSnd2 (by assumption) ?_ | apply At.mapAny | dsimp +zetaDelta only)

theorem State.setMaskCache_keeps {P : Part → Prop} {s₀ s : State} (text_ : P .text) (half : Nat) (m : SMap CachedMask) (hs : At (Keeps P
    s₀) It s) : At (Keeps P s₀) It (State.setMaskCache s half m) := by
  unfold State.setMaskCache
  with_reducible repeat' (first
    | assumption | (intro x; refine At.cut x ?_ ?_; rotate_left; intro _; clear_value x; rotate_left; unfold x) | intro _ | lift_lets
    | apply At.ite | apply At.next | apply At.some | exact At.none | dsimp -zeta only [At.mkFst, At.mkSnd] | apply At.foldl
    | apply At.getD | apply At.fst | apply At.snd
    | ((conv => enter [3, 20]) <;> apply At.upd <;> first | exact .inl ‹_› | exact .inr rfl | skip)
    | ((conv => enter [3, 20]) <;> apply At.updCore) | split | exact At.ofMkFst ‹_› | exact At.ofMkSnd ‹_›
    | refine At.ofNext (by assumption) ?_ | refine At.ofFst (by assumption) ?_ | refine At.ofSnd (by assumption) ?_
    | refine At.ofOpt (by assumption) ?_ | refine At.ofOptSnd (by assumption) ?_ | refine At.ofOptFst (by assumption) ?_
    | refine At.ofOptSnd2 (by assumption) ?_ | apply At.mapAny | dsimp +zetaDelta only)

theorem State.uncache_keeps {P : Part → Prop} {s₀ s : State} (tier_ : P .tier) (text_ : P .text) (half : Nat) (a : Nat) (hs : At (Keeps P
    s₀) It s) : At (Keeps P s₀) It (State.uncache s half a) := by
  unfold State.uncache
  with_reducible repeat' (first
    | assumption | (intro x; refine At.cut x ?_ ?_; rotate_left; intro _; clear_value x; rotate_left; unfold x) | intro _ | lift_lets
    | apply State.freeTileAt_keeps | apply State.setMaskCache_keeps | apply At.ite | apply At.next | apply At.some | exact At.none
    | dsimp -zeta only [At.mkFst, At.mkSnd] | apply At.foldl | apply At.getD | apply At.fst | apply At.snd
    | ((conv => enter [3, 20]) <;> apply At.upd <;> first | exact .inl ‹_› | exact .inr rfl | skip)
    | ((conv => enter [3, 20]) <;> apply At.updCore) | split | exact At.ofMkFst ‹_› | exact At.ofMkSnd ‹_›
    | refine At.ofNext (by assumption) ?_ | refine At.ofFst (by assumption) ?_ | refine At.ofSnd (by assumption) ?_
    | refine At.ofOpt (by assumption) ?_ | refine At.ofOptSnd (by assumption) ?_ | refine At.ofOptFst (by assumption) ?_
    | refine At.ofOptSnd2 (by assumption) ?_ | apply At.mapAny | dsimp +zetaDelta only)

theorem State.trimCache_keeps {P : Part → Prop} {s₀ s : State} (tier_ : P .tier) (text_ : P .text) (half : Nat) (n : Nat) (y3 : Nat) (hs :
    At (Keeps P s₀) It s) : At (Keeps P s₀) It (State.trimCache s half n y3) := by
  induction y3 generalizing s with
  | zero =>
    unfold State.trimCache
    with_reducible repeat' (first
      | assumption | (intro x; refine At.cut x ?_ ?_; rotate_left; intro _; clear_value x; rotate_left; unfold x) | intro _ | lift_lets
      | apply State.uncache_keeps | apply At.ite | apply At.next | apply At.some | exact At.none | dsimp -zeta only [At.mkFst, At.mkSnd]
      | apply At.foldl | apply At.getD | apply At.fst | apply At.snd
      | ((conv => enter [3, 20]) <;> apply At.upd <;> first | exact .inl ‹_› | exact .inr rfl | skip)
      | ((conv => enter [3, 20]) <;> apply At.updCore) | split | exact At.ofMkFst ‹_› | exact At.ofMkSnd ‹_›
      | refine At.ofNext (by assumption) ?_ | refine At.ofFst (by assumption) ?_ | refine At.ofSnd (by assumption) ?_
      | refine At.ofOpt (by assumption) ?_ | refine At.ofOptSnd (by assumption) ?_ | refine At.ofOptFst (by assumption) ?_
      | refine At.ofOptSnd2 (by assumption) ?_ | apply At.mapAny | dsimp +zetaDelta only)
  | succ n ih =>
    unfold State.trimCache
    with_reducible repeat' (first
      | assumption | (intro x; refine At.cut x ?_ ?_; rotate_left; intro _; clear_value x; rotate_left; unfold x) | intro _ | lift_lets
      | apply State.uncache_keeps | apply ih | apply At.ite | apply At.next | apply At.some | exact At.none
      | dsimp -zeta only [At.mkFst, At.mkSnd] | apply At.foldl | apply At.getD | apply At.fst | apply At.snd
      | ((conv => enter [3, 20]) <;> apply At.upd <;> first | exact .inl ‹_› | exact .inr rfl | skip)
      | ((conv => enter [3, 20]) <;> apply At.updCore) | split | exact At.ofMkFst ‹_› | exact At.ofMkSnd ‹_›
      | refine At.ofNext (by assumption) ?_ | refine At.ofFst (by assumption) ?_ | refine At.ofSnd (by assumption) ?_
      | refine At.ofOpt (by assumption) ?_ | refine At.ofOptSnd (by assumption) ?_ | refine At.ofOptFst (by assumption) ?_
      | refine At.ofOptSnd2 (by assumption) ?_ | apply At.mapAny | dsimp +zetaDelta only)

theorem State.cacheTile_keeps {P : Part → Prop} {s₀ s : State} (dict_ : P .dict) (ses_ : P .ses) (tier_ : P .tier) (text_ : P .text) (free_
    : P .free) (half : Nat) (a : Nat) (hs : At (Keeps P s₀) It s) : At (Keeps P s₀) (Fst It) (State.cacheTile s half a) := by
  unfold State.cacheTile
  with_reducible repeat' (first
    | assumption | (intro x; refine At.cut x ?_ ?_; rotate_left; intro _; clear_value x; rotate_left; unfold x) | intro _ | lift_lets
    | apply State.bump_keeps | apply State.allocT1_keeps | apply State.setMaskCache_keeps | apply State.trimCache_keeps | apply At.ite
    | apply At.next | apply At.some | exact At.none | dsimp -zeta only [At.mkFst, At.mkSnd] | apply At.foldl | apply At.getD
    | apply At.fst | apply At.snd | ((conv => enter [3, 20]) <;> apply At.upd <;> first | exact .inl ‹_› | exact .inr rfl | skip)
    | ((conv => enter [3, 20]) <;> apply At.updCore) | split | exact At.ofMkFst ‹_› | exact At.ofMkSnd ‹_›
    | refine At.ofNext (by assumption) ?_ | refine At.ofFst (by assumption) ?_ | refine At.ofSnd (by assumption) ?_
    | refine At.ofOpt (by assumption) ?_ | refine At.ofOptSnd (by assumption) ?_ | refine At.ofOptFst (by assumption) ?_
    | refine At.ofOptSnd2 (by assumption) ?_ | apply At.mapAny | dsimp +zetaDelta only)

theorem State.dropGrammar_keeps {P : Part → Prop} {s₀ s : State} (tier_ : P .tier) (text_ : P .text) (gg : Nat) (hs : At (Keeps P s₀) It s)
    : At (Keeps P s₀) It (State.dropGrammar s gg) := by
  unfold State.dropGrammar
  with_reducible repeat' (first
    | assumption | (intro x; refine At.cut x ?_ ?_; rotate_left; intro _; clear_value x; rotate_left; unfold x) | intro _ | lift_lets
    | apply State.freeText_keeps | apply State.uncache_keeps | apply At.ite | apply At.next | apply At.some | exact At.none
    | dsimp -zeta only [At.mkFst, At.mkSnd] | apply At.foldl | apply At.getD | apply At.fst | apply At.snd
    | ((conv => enter [3, 20]) <;> apply At.upd <;> first | exact .inl ‹_› | exact .inr rfl | skip)
    | ((conv => enter [3, 20]) <;> apply At.updCore) | split | exact At.ofMkFst ‹_› | exact At.ofMkSnd ‹_›
    | refine At.ofNext (by assumption) ?_ | refine At.ofFst (by assumption) ?_ | refine At.ofSnd (by assumption) ?_
    | refine At.ofOpt (by assumption) ?_ | refine At.ofOptSnd (by assumption) ?_ | refine At.ofOptFst (by assumption) ?_
    | refine At.ofOptSnd2 (by assumption) ?_ | apply At.mapAny | dsimp +zetaDelta only)

theorem State.keepGrammar_keeps {P : Part → Prop} {s₀ s : State} (dict_ : P .dict) (ses_ : P .ses) (tier_ : P .tier) (text_ : P .text)
    (free_ : P .free) (gg : Nat) (o : Octets) (hs : At (Keeps P s₀) It s) : At (Keeps P s₀) It (State.keepGrammar s gg o) := by
  unfold State.keepGrammar
  with_reducible repeat' (first
    | assumption | (intro x; refine At.cut x ?_ ?_; rotate_left; intro _; clear_value x; rotate_left; unfold x) | intro _ | lift_lets
    | apply State.keepText_keeps | apply At.ite | apply At.next | apply At.some | exact At.none | dsimp -zeta only [At.mkFst, At.mkSnd]
    | apply At.foldl | apply At.getD | apply At.fst | apply At.snd
    | ((conv => enter [3, 20]) <;> apply At.upd <;> first | exact .inl ‹_› | exact .inr rfl | skip)
    | ((conv => enter [3, 20]) <;> apply At.updCore) | split | exact At.ofMkFst ‹_› | exact At.ofMkSnd ‹_›
    | refine At.ofNext (by assumption) ?_ | refine At.ofFst (by assumption) ?_ | refine At.ofSnd (by assumption) ?_
    | refine At.ofOpt (by assumption) ?_ | refine At.ofOptSnd (by assumption) ?_ | refine At.ofOptFst (by assumption) ?_
    | refine At.ofOptSnd2 (by assumption) ?_ | apply At.mapAny | dsimp +zetaDelta only)

theorem execGpLoad_keeps {P : Part → Prop} {s₀ s : State} (dict_ : P .dict) (mgmt_ : P .mgmt) (fb_ : P .fb) (stn_ : P .stn) (ses_ : P .ses)
    (tier_ : P .tier) (text_ : P .text) (free_ : P .free) (w : Writer) (gg : Nat) (img : Option Octets) (hs : At (Keeps P s₀) It s) : At
    (Keeps P s₀) Nxt (execGpLoad w gg img s) := by
  unfold execGpLoad
  with_reducible repeat' (first
    | assumption | (intro x; refine At.cut x ?_ ?_; rotate_left; intro _; clear_value x; rotate_left; unfold x) | intro _ | lift_lets
    | apply State.setObj_keeps | apply State.command_keeps | apply State.dropGrammar_keeps | apply State.keepGrammar_keeps | apply At.ite
    | apply At.next | apply At.some | exact At.none | dsimp -zeta only [At.mkFst, At.mkSnd] | apply At.foldl | apply At.getD
    | apply At.fst | apply At.snd | ((conv => enter [3, 20]) <;> apply At.upd <;> first | exact .inl ‹_› | exact .inr rfl | skip)
    | ((conv => enter [3, 20]) <;> apply At.updCore) | split | exact At.ofMkFst ‹_› | exact At.ofMkSnd ‹_›
    | refine At.ofNext (by assumption) ?_ | refine At.ofFst (by assumption) ?_ | refine At.ofSnd (by assumption) ?_
    | refine At.ofOpt (by assumption) ?_ | refine At.ofOptSnd (by assumption) ?_ | refine At.ofOptFst (by assumption) ?_
    | refine At.ofOptSnd2 (by assumption) ?_ | apply At.mapAny | dsimp +zetaDelta only)

theorem execGpUnload_keeps {P : Part → Prop} {s₀ s : State} (dict_ : P .dict) (mgmt_ : P .mgmt) (fb_ : P .fb) (stn_ : P .stn) (tier_ : P
    .tier) (text_ : P .text) (w : Writer) (gg : Nat) (hs : At (Keeps P s₀) It s) : At (Keeps P s₀) Nxt (execGpUnload w gg s) := by
  unfold execGpUnload
  with_reducible repeat' (first
    | assumption | (intro x; refine At.cut x ?_ ?_; rotate_left; intro _; clear_value x; rotate_left; unfold x) | intro _ | lift_lets
    | apply State.setObj_keeps | apply State.commandNow_keeps | apply State.dropGrammar_keeps | apply At.ite | apply At.next
    | apply At.some | exact At.none | dsimp -zeta only [At.mkFst, At.mkSnd] | apply At.foldl | apply At.getD | apply At.fst | apply At.snd
    | ((conv => enter [3, 20]) <;> apply At.upd <;> first | exact .inl ‹_› | exact .inr rfl | skip)
    | ((conv => enter [3, 20]) <;> apply At.updCore) | split | exact At.ofMkFst ‹_› | exact At.ofMkSnd ‹_›
    | refine At.ofNext (by assumption) ?_ | refine At.ofFst (by assumption) ?_ | refine At.ofSnd (by assumption) ?_
    | refine At.ofOpt (by assumption) ?_ | refine At.ofOptSnd (by assumption) ?_ | refine At.ofOptFst (by assumption) ?_
    | refine At.ofOptSnd2 (by assumption) ?_ | apply At.mapAny | dsimp +zetaDelta only)

theorem State.compileStop_keeps {P : Part → Prop} {s₀ s : State} (dict_ : P .dict) (ses_ : P .ses) (tier_ : P .tier) (text_ : P .text)
    (free_ : P .free) (st : Nat) (k : Nat) (v : Octets) (hs : At (Keeps P s₀) It s) : At (Keeps P s₀) It (State.compileStop s st k v) := by
  unfold State.compileStop
  with_reducible repeat' (first
    | assumption | (intro x; refine At.cut x ?_ ?_; rotate_left; intro _; clear_value x; rotate_left; unfold x) | intro _ | lift_lets
    | apply State.freeTileAt_keeps | apply State.allocSys_keeps | apply At.ite | apply At.next | apply At.some | exact At.none
    | dsimp -zeta only [At.mkFst, At.mkSnd] | apply At.foldl | apply At.getD | apply At.fst | apply At.snd
    | ((conv => enter [3, 20]) <;> apply At.upd <;> first | exact .inl ‹_› | exact .inr rfl | skip)
    | ((conv => enter [3, 20]) <;> apply At.updCore) | split | exact At.ofMkFst ‹_› | exact At.ofMkSnd ‹_›
    | refine At.ofNext (by assumption) ?_ | refine At.ofFst (by assumption) ?_ | refine At.ofSnd (by assumption) ?_
    | refine At.ofOpt (by assumption) ?_ | refine At.ofOptSnd (by assumption) ?_ | refine At.ofOptFst (by assumption) ?_
    | refine At.ofOptSnd2 (by assumption) ?_ | apply At.mapAny | dsimp +zetaDelta only)

/-! ### Machine/FrameOps.lean -/

theorem State.postEntry_keeps {P : Part → Prop} {s₀ s : State} (dict_ : P .dict) (stn_ : P .stn) (ses_ : P .ses) (i : Nat) (e : RingEntry)
    (hs : At (Keeps P s₀) It s) : At (Keeps P s₀) It (State.postEntry s i e) := by
  unfold State.postEntry
  with_reducible repeat' (first
    | assumption | (intro x; refine At.cut x ?_ ?_; rotate_left; intro _; clear_value x; rotate_left; unfold x) | intro _ | lift_lets
    | apply State.bump_keeps | apply State.setStation_keeps | apply State.setSess_keeps | apply At.ite | apply At.next | apply At.some
    | exact At.none | dsimp -zeta only [At.mkFst, At.mkSnd] | apply At.foldl | apply At.getD | apply At.fst | apply At.snd
    | ((conv => enter [3, 20]) <;> apply At.upd <;> first | exact .inl ‹_› | exact .inr rfl | skip)
    | ((conv => enter [3, 20]) <;> apply At.updCore) | split | exact At.ofMkFst ‹_› | exact At.ofMkSnd ‹_›
    | refine At.ofNext (by assumption) ?_ | refine At.ofFst (by assumption) ?_ | refine At.ofSnd (by assumption) ?_
    | refine At.ofOpt (by assumption) ?_ | refine At.ofOptSnd (by assumption) ?_ | refine At.ofOptFst (by assumption) ?_
    | refine At.ofOptSnd2 (by assumption) ?_ | apply At.mapAny | dsimp +zetaDelta only)

theorem State.deliverRec_keeps {P : Part → Prop} {s₀ s : State} (dict_ : P .dict) (fb_ : P .fb) (ses_ : P .ses) (i : Nat) (rw : Nat) (hs :
    At (Keeps P s₀) It s) : At (Keeps P s₀) It (State.deliverRec s i rw) := by
  unfold State.deliverRec
  with_reducible repeat' (first
    | assumption | (intro x; refine At.cut x ?_ ?_; rotate_left; intro _; clear_value x; rotate_left; unfold x) | intro _ | lift_lets
    | apply State.srec'_keeps | apply At.ite | apply At.next | apply At.some | exact At.none | dsimp -zeta only [At.mkFst, At.mkSnd]
    | apply At.foldl | apply At.getD | apply At.fst | apply At.snd
    | ((conv => enter [3, 20]) <;> apply At.upd <;> first | exact .inl ‹_› | exact .inr rfl | skip)
    | ((conv => enter [3, 20]) <;> apply At.updCore) | split | exact At.ofMkFst ‹_› | exact At.ofMkSnd ‹_›
    | refine At.ofNext (by assumption) ?_ | refine At.ofFst (by assumption) ?_ | refine At.ofSnd (by assumption) ?_
    | refine At.ofOpt (by assumption) ?_ | refine At.ofOptSnd (by assumption) ?_ | refine At.ofOptFst (by assumption) ?_
    | refine At.ofOptSnd2 (by assumption) ?_ | apply At.mapAny | dsimp +zetaDelta only)

theorem State.settleRing_keeps {P : Part → Prop} {s₀ s : State} (dict_ : P .dict) (fb_ : P .fb) (stn_ : P .stn) (ses_ : P .ses) (tier_ : P
    .tier) (trv_ : P .trv) (srch_ : P .srch) (sid : Nat) (hs : At (Keeps P s₀) It s) : At (Keeps P s₀) It (State.settleRing s sid) := by
  unfold State.settleRing
  with_reducible repeat' (first
    | assumption | (intro x; refine At.cut x ?_ ?_; rotate_left; intro _; clear_value x; rotate_left; unfold x) | intro _ | lift_lets
    | apply State.setSess_keeps | apply State.enterClosed_keeps | apply State.deliverRec_keeps | apply At.ite | apply At.next
    | apply At.some | exact At.none | dsimp -zeta only [At.mkFst, At.mkSnd] | apply At.foldl | apply At.getD | apply At.fst | apply At.snd
    | ((conv => enter [3, 20]) <;> apply At.upd <;> first | exact .inl ‹_› | exact .inr rfl | skip)
    | ((conv => enter [3, 20]) <;> apply At.updCore) | split | exact At.ofMkFst ‹_› | exact At.ofMkSnd ‹_›
    | refine At.ofNext (by assumption) ?_ | refine At.ofFst (by assumption) ?_ | refine At.ofSnd (by assumption) ?_
    | refine At.ofOpt (by assumption) ?_ | refine At.ofOptSnd (by assumption) ?_ | refine At.ofOptFst (by assumption) ?_
    | refine At.ofOptSnd2 (by assumption) ?_ | apply At.mapAny | dsimp +zetaDelta only)

theorem State.entryPosted_keeps {P : Part → Prop} {s₀ s : State} (dict_ : P .dict) (fb_ : P .fb) (stn_ : P .stn) (ses_ : P .ses) (tier_ : P
    .tier) (trv_ : P .trv) (srch_ : P .srch) (e : RingEntry) (hs : At (Keeps P s₀) It s) : At (Keeps P s₀) It (State.entryPosted s e) := by
  unfold State.entryPosted
  with_reducible repeat' (first
    | assumption | (intro x; refine At.cut x ?_ ?_; rotate_left; intro _; clear_value x; rotate_left; unfold x) | intro _ | lift_lets
    | apply State.setSess_keeps | apply State.settleRing_keeps | apply At.ite | apply At.next | apply At.some | exact At.none
    | dsimp -zeta only [At.mkFst, At.mkSnd] | apply At.foldl | apply At.getD | apply At.fst | apply At.snd
    | ((conv => enter [3, 20]) <;> apply At.upd <;> first | exact .inl ‹_› | exact .inr rfl | skip)
    | ((conv => enter [3, 20]) <;> apply At.updCore) | split | exact At.ofMkFst ‹_› | exact At.ofMkSnd ‹_›
    | refine At.ofNext (by assumption) ?_ | refine At.ofFst (by assumption) ?_ | refine At.ofSnd (by assumption) ?_
    | refine At.ofOpt (by assumption) ?_ | refine At.ofOptSnd (by assumption) ?_ | refine At.ofOptFst (by assumption) ?_
    | refine At.ofOptSnd2 (by assumption) ?_ | apply At.mapAny | dsimp +zetaDelta only)

theorem State.postRing_keeps {P : Part → Prop} {s₀ s : State} (dict_ : P .dict) (fb_ : P .fb) (stn_ : P .stn) (ses_ : P .ses) (tier_ : P
    .tier) (trv_ : P .trv) (srch_ : P .srch) (sid : Nat) (lo : Nat) (hi : Nat) (hs : At (Keeps P s₀) It s) : At (Keeps P s₀) It
    (State.postRing s sid lo hi) := by
  unfold State.postRing
  with_reducible repeat' (first
    | assumption | (intro x; refine At.cut x ?_ ?_; rotate_left; intro _; clear_value x; rotate_left; unfold x) | intro _ | lift_lets
    | apply State.modSess_keeps | apply State.postEntry_keeps | apply State.settleRing_keeps | apply At.ite | apply At.next
    | apply At.some | exact At.none | dsimp -zeta only [At.mkFst, At.mkSnd] | apply At.foldl | apply At.getD | apply At.fst | apply At.snd
    | ((conv => enter [3, 20]) <;> apply At.upd <;> first | exact .inl ‹_› | exact .inr rfl | skip)
    | ((conv => enter [3, 20]) <;> apply At.updCore) | split | exact At.ofMkFst ‹_› | exact At.ofMkSnd ‹_›
    | refine At.ofNext (by assumption) ?_ | refine At.ofFst (by assumption) ?_ | refine At.ofSnd (by assumption) ?_
    | refine At.ofOpt (by assumption) ?_ | refine At.ofOptSnd (by assumption) ?_ | refine At.ofOptFst (by assumption) ?_
    | refine At.ofOptSnd2 (by assumption) ?_ | apply At.mapAny | dsimp +zetaDelta only)

theorem State.turnOver_keeps {P : Part → Prop} {s₀ s : State} (dict_ : P .dict) (ses_ : P .ses) (tier_ : P .tier) (free_ : P .free) (i :
    Nat) (hs : At (Keeps P s₀) It s) : At (Keeps P s₀) It (State.turnOver s i) := by
  unfold State.turnOver
  with_reducible repeat' (first
    | assumption | (intro x; refine At.cut x ?_ ?_; rotate_left; intro _; clear_value x; rotate_left; unfold x) | intro _ | lift_lets
    | apply State.setSess_keeps | apply State.modSess_keeps | apply State.toQueued_keeps | apply State.turnStart_keeps | apply At.ite
    | apply At.next | apply At.some | exact At.none | dsimp -zeta only [At.mkFst, At.mkSnd] | apply At.foldl | apply At.getD
    | apply At.fst | apply At.snd | ((conv => enter [3, 20]) <;> apply At.upd <;> first | exact .inl ‹_› | exact .inr rfl | skip)
    | ((conv => enter [3, 20]) <;> apply At.updCore) | split | exact At.ofMkFst ‹_› | exact At.ofMkSnd ‹_›
    | refine At.ofNext (by assumption) ?_ | refine At.ofFst (by assumption) ?_ | refine At.ofSnd (by assumption) ?_
    | refine At.ofOpt (by assumption) ?_ | refine At.ofOptSnd (by assumption) ?_ | refine At.ofOptFst (by assumption) ?_
    | refine At.ofOptSnd2 (by assumption) ?_ | apply At.mapAny | dsimp +zetaDelta only)

theorem State.turnEnd_keeps {P : Part → Prop} {s₀ s : State} (dict_ : P .dict) (stn_ : P .stn) (ses_ : P .ses) (tier_ : P .tier) (free_ : P
    .free) (i : Nat) (tool : Bool) (hs : At (Keeps P s₀) It s) : At (Keeps P s₀) It (State.turnEnd s i tool) := by
  unfold State.turnEnd
  with_reducible repeat' (first
    | assumption | (intro x; refine At.cut x ?_ ?_; rotate_left; intro _; clear_value x; rotate_left; unfold x) | intro _ | lift_lets
    | apply State.setSess_keeps | apply State.sevent_keeps | apply State.turnOver_keeps | apply At.ite | apply At.next | apply At.some
    | exact At.none | dsimp -zeta only [At.mkFst, At.mkSnd] | apply At.foldl | apply At.getD | apply At.fst | apply At.snd
    | ((conv => enter [3, 20]) <;> apply At.upd <;> first | exact .inl ‹_› | exact .inr rfl | skip)
    | ((conv => enter [3, 20]) <;> apply At.updCore) | split | exact At.ofMkFst ‹_› | exact At.ofMkSnd ‹_›
    | refine At.ofNext (by assumption) ?_ | refine At.ofFst (by assumption) ?_ | refine At.ofSnd (by assumption) ?_
    | refine At.ofOpt (by assumption) ?_ | refine At.ofOptSnd (by assumption) ?_ | refine At.ofOptFst (by assumption) ?_
    | refine At.ofOptSnd2 (by assumption) ?_ | apply At.mapAny | dsimp +zetaDelta only)

theorem State.stepAndPost_keeps {P : Part → Prop} {s₀ s : State} (dict_ : P .dict) (fb_ : P .fb) (stn_ : P .stn) (ses_ : P .ses) (tier_ : P
    .tier) (trv_ : P .trv) (srch_ : P .srch) (i : Nat) (lo : Nat) (drafts : Nat) (accepted : Nat) (flags : Nat) (stop : Nat) (codes : List
    Nat) (hs : At (Keeps P s₀) It s) : At (Keeps P s₀) It (State.stepAndPost s i lo drafts accepted flags stop codes) := by
  unfold State.stepAndPost
  with_reducible repeat' (first
    | assumption | (intro x; refine At.cut x ?_ ?_; rotate_left; intro _; clear_value x; rotate_left; unfold x) | intro _ | lift_lets
    | apply State.waitDurable_keeps | apply State.srec_keeps | apply State.postRing_keeps | apply At.ite | apply At.next | apply At.some
    | exact At.none | dsimp -zeta only [At.mkFst, At.mkSnd] | apply At.foldl | apply At.getD | apply At.fst | apply At.snd
    | ((conv => enter [3, 20]) <;> apply At.upd <;> first | exact .inl ‹_› | exact .inr rfl | skip)
    | ((conv => enter [3, 20]) <;> apply At.updCore) | split | exact At.ofMkFst ‹_› | exact At.ofMkSnd ‹_›
    | refine At.ofNext (by assumption) ?_ | refine At.ofFst (by assumption) ?_ | refine At.ofSnd (by assumption) ?_
    | refine At.ofOpt (by assumption) ?_ | refine At.ofOptSnd (by assumption) ?_ | refine At.ofOptFst (by assumption) ?_
    | refine At.ofOptSnd2 (by assumption) ?_ | apply At.mapAny | dsimp +zetaDelta only)

theorem State.endResurvey_keeps {P : Part → Prop} {s₀ s : State} (dict_ : P .dict) (fb_ : P .fb) (stn_ : P .stn) (ses_ : P .ses) (x :
    Session) (r : RowNow) (hs : At (Keeps P s₀) It s) : At (Keeps P s₀) It (State.endResurvey s x r) := by
  unfold State.endResurvey
  with_reducible repeat' (first
    | assumption | (intro x; refine At.cut x ?_ ?_; rotate_left; intro _; clear_value x; rotate_left; unfold x) | intro _ | lift_lets
    | apply State.addObj_keeps | apply State.bump_keeps | apply State.setSess_keeps | apply State.modSess_keeps | apply State.srec'_keeps
    | apply State.sevent_keeps | apply At.ite | apply At.next | apply At.some | exact At.none | dsimp -zeta only [At.mkFst, At.mkSnd]
    | apply At.foldl | apply At.getD | apply At.fst | apply At.snd
    | ((conv => enter [3, 20]) <;> apply At.upd <;> first | exact .inl ‹_› | exact .inr rfl | skip)
    | ((conv => enter [3, 20]) <;> apply At.updCore) | split | exact At.ofMkFst ‹_› | exact At.ofMkSnd ‹_›
    | refine At.ofNext (by assumption) ?_ | refine At.ofFst (by assumption) ?_ | refine At.ofSnd (by assumption) ?_
    | refine At.ofOpt (by assumption) ?_ | refine At.ofOptSnd (by assumption) ?_ | refine At.ofOptFst (by assumption) ?_
    | refine At.ofOptSnd2 (by assumption) ?_ | apply At.mapAny | dsimp +zetaDelta only)

theorem State.endDead_keeps {P : Part → Prop} {s₀ s : State} (dict_ : P .dict) (fb_ : P .fb) (stn_ : P .stn) (ses_ : P .ses) (tier_ : P
    .tier) (trv_ : P .trv) (srch_ : P .srch) (x : Session) (r : RowNow) (kept : Nat) (flags : Nat) (hs : At (Keeps P s₀) It s) : At (Keeps
    P s₀) It (State.endDead s x r kept flags) := by
  unfold State.endDead
  with_reducible repeat' (first
    | assumption | (intro x; refine At.cut x ?_ ?_; rotate_left; intro _; clear_value x; rotate_left; unfold x) | intro _ | lift_lets
    | apply State.bump_keeps | apply State.modSess_keeps | apply State.srec'_keeps | apply State.sevent_keeps
    | apply State.kvCleanup_keeps | apply State.stepAndPost_keeps | apply At.ite | apply At.next | apply At.some | exact At.none
    | dsimp -zeta only [At.mkFst, At.mkSnd] | apply At.foldl | apply At.getD | apply At.fst | apply At.snd
    | ((conv => enter [3, 20]) <;> apply At.upd <;> first | exact .inl ‹_› | exact .inr rfl | skip)
    | ((conv => enter [3, 20]) <;> apply At.updCore) | split | exact At.ofMkFst ‹_› | exact At.ofMkSnd ‹_›
    | refine At.ofNext (by assumption) ?_ | refine At.ofFst (by assumption) ?_ | refine At.ofSnd (by assumption) ?_
    | refine At.ofOpt (by assumption) ?_ | refine At.ofOptSnd (by assumption) ?_ | refine At.ofOptFst (by assumption) ?_
    | refine At.ofOptSnd2 (by assumption) ?_ | apply At.mapAny | dsimp +zetaDelta only)

theorem State.sampleCounts_keeps {P : Part → Prop} {s₀ s : State} (dict_ : P .dict) (stn_ : P .stn) (x : Session) (y : Session) (o :
    StepOut) (a : KeepAcc) (stopped : Bool) (drop : Bool) (hs : At (Keeps P s₀) It s) : At (Keeps P s₀) It (State.sampleCounts s x y o a
    stopped drop) := by
  unfold State.sampleCounts
  with_reducible repeat' (first
    | assumption | (intro x; refine At.cut x ?_ ?_; rotate_left; intro _; clear_value x; rotate_left; unfold x) | intro _ | lift_lets
    | apply State.addObj_keeps | apply State.bump_keeps | apply State.sevent_keeps | apply At.ite | apply At.next | apply At.some
    | exact At.none | dsimp -zeta only [At.mkFst, At.mkSnd] | apply At.foldl | apply At.getD | apply At.fst | apply At.snd
    | ((conv => enter [3, 20]) <;> apply At.upd <;> first | exact .inl ‹_› | exact .inr rfl | skip)
    | ((conv => enter [3, 20]) <;> apply At.updCore) | split | exact At.ofMkFst ‹_› | exact At.ofMkSnd ‹_›
    | refine At.ofNext (by assumption) ?_ | refine At.ofFst (by assumption) ?_ | refine At.ofSnd (by assumption) ?_
    | refine At.ofOpt (by assumption) ?_ | refine At.ofOptSnd (by assumption) ?_ | refine At.ofOptFst (by assumption) ?_
    | refine At.ofOptSnd2 (by assumption) ?_ | apply At.mapAny | dsimp +zetaDelta only)

theorem State.endSample_keeps {P : Part → Prop} {s₀ s : State} (dict_ : P .dict) (fb_ : P .fb) (stn_ : P .stn) (ses_ : P .ses) (tier_ : P
    .tier) (trv_ : P .trv) (core_ : P .core) (srch_ : P .srch) (sync_ : P .sync) (free_ : P .free) (x : Session) (r : RowNow) (k : Nat)
    (prefill : Bool) (flags : Nat) (hs : At (Keeps P s₀) It s) : At (Keeps P s₀) It (State.endSample s x r k prefill flags) := by
  unfold State.endSample
  with_reducible repeat' (first
    | assumption | (intro x; refine At.cut x ?_ ?_; rotate_left; intro _; clear_value x; rotate_left; unfold x) | intro _ | lift_lets
    | apply State.setSess_keeps | apply State.notifyAll_keeps | apply State.kvCleanup_keeps | apply State.turnEnd_keeps
    | apply State.stepAndPost_keeps | apply State.endDead_keeps | apply State.sampleCounts_keeps | apply At.ite | apply At.next
    | apply At.some | exact At.none | dsimp -zeta only [At.mkFst, At.mkSnd] | apply At.foldl | apply At.getD | apply At.fst | apply At.snd
    | ((conv => enter [3, 20]) <;> apply At.upd <;> first | exact .inl ‹_› | exact .inr rfl | skip)
    | ((conv => enter [3, 20]) <;> apply At.updCore) | split | exact At.ofMkFst ‹_› | exact At.ofMkSnd ‹_›
    | refine At.ofNext (by assumption) ?_ | refine At.ofFst (by assumption) ?_ | refine At.ofSnd (by assumption) ?_
    | refine At.ofOpt (by assumption) ?_ | refine At.ofOptSnd (by assumption) ?_ | refine At.ofOptFst (by assumption) ?_
    | refine At.ofOptSnd2 (by assumption) ?_ | apply At.mapAny | dsimp +zetaDelta only)

theorem State.endPrefill_keeps {P : Part → Prop} {s₀ s : State} (dict_ : P .dict) (fb_ : P .fb) (stn_ : P .stn) (ses_ : P .ses) (tier_ : P
    .tier) (trv_ : P .trv) (core_ : P .core) (srch_ : P .srch) (sync_ : P .sync) (free_ : P .free) (x : Session) (r : RowNow) (hs : At
    (Keeps P s₀) It s) : At (Keeps P s₀) It (State.endPrefill s x r) := by
  unfold State.endPrefill
  with_reducible repeat' (first
    | assumption | (intro x; refine At.cut x ?_ ?_; rotate_left; intro _; clear_value x; rotate_left; unfold x) | intro _ | lift_lets
    | apply State.setSess_keeps | apply State.modSess_keeps | apply State.sevent_keeps | apply State.kvCleanup_keeps
    | apply State.turnOver_keeps | apply State.stepAndPost_keeps | apply State.endSample_keeps | apply At.ite | apply At.next
    | apply At.some | exact At.none | dsimp -zeta only [At.mkFst, At.mkSnd] | apply At.foldl | apply At.getD | apply At.fst | apply At.snd
    | ((conv => enter [3, 20]) <;> apply At.upd <;> first | exact .inl ‹_› | exact .inr rfl | skip)
    | ((conv => enter [3, 20]) <;> apply At.updCore) | split | exact At.ofMkFst ‹_› | exact At.ofMkSnd ‹_›
    | refine At.ofNext (by assumption) ?_ | refine At.ofFst (by assumption) ?_ | refine At.ofSnd (by assumption) ?_
    | refine At.ofOpt (by assumption) ?_ | refine At.ofOptSnd (by assumption) ?_ | refine At.ofOptFst (by assumption) ?_
    | refine At.ofOptSnd2 (by assumption) ?_ | apply At.mapAny | dsimp +zetaDelta only)

theorem State.endRow_keeps {P : Part → Prop} {s₀ s : State} (dict_ : P .dict) (fb_ : P .fb) (stn_ : P .stn) (ses_ : P .ses) (tier_ : P
    .tier) (trv_ : P .trv) (core_ : P .core) (srch_ : P .srch) (sync_ : P .sync) (free_ : P .free) (h : TrvHeader) (r : RowNow) (hs : At
    (Keeps P s₀) It s) : At (Keeps P s₀) It (State.endRow s h r) := by
  unfold State.endRow
  with_reducible repeat' (first
    | assumption | (intro x; refine At.cut x ?_ ?_; rotate_left; intro _; clear_value x; rotate_left; unfold x) | intro _ | lift_lets
    | apply State.bump_keeps | apply State.setSess_keeps | apply State.syncQueue_keeps | apply State.spillStack_keeps
    | apply State.kvCleanup_keeps | apply State.endResurvey_keeps | apply State.endSample_keeps | apply State.endPrefill_keeps
    | apply At.ite | apply At.next | apply At.some | exact At.none | dsimp -zeta only [At.mkFst, At.mkSnd] | apply At.foldl
    | apply At.getD | apply At.fst | apply At.snd
    | ((conv => enter [3, 20]) <;> apply At.upd <;> first | exact .inl ‹_› | exact .inr rfl | skip)
    | ((conv => enter [3, 20]) <;> apply At.updCore) | split | exact At.ofMkFst ‹_› | exact At.ofMkSnd ‹_›
    | refine At.ofNext (by assumption) ?_ | refine At.ofFst (by assumption) ?_ | refine At.ofSnd (by assumption) ?_
    | refine At.ofOpt (by assumption) ?_ | refine At.ofOptSnd (by assumption) ?_ | refine At.ofOptFst (by assumption) ?_
    | refine At.ofOptSnd2 (by assumption) ?_ | apply At.mapAny | dsimp +zetaDelta only)

theorem State.placeCode_keeps {P : Part → Prop} {s₀ s : State} (core_ : P .core) (tiles : List Nat) (i : TrvImage) (n : Nat) (hs : At
    (Keeps P s₀) It s) : At (Keeps P s₀) It (State.placeCode s tiles i n) := by
  unfold State.placeCode
  with_reducible repeat' (first
    | assumption | (intro x; refine At.cut x ?_ ?_; rotate_left; intro _; clear_value x; rotate_left; unfold x) | intro _ | lift_lets
    | apply State.setCore_keeps | exact wf_nil | apply Core.settle_store | apply Core.write_store | apply wf_foldl_bputs
    | apply Core.result_store | apply Core.flags_store | apply Core.moved_store | apply Core.lanewise_store | exact coreInit_store
    | apply id_store | apply State.coreAt_store | apply State.clusterStore_wf | apply wf_bputs | apply wf_filter | apply wf_storeTile
    | apply State.issued_store | apply State.cameTo_stores | apply At.ite | apply At.next | apply At.some | exact At.none
    | dsimp -zeta only [At.mkFst, At.mkSnd] | apply At.foldl | apply At.getD | apply At.fst | apply At.snd
    | ((conv => enter [3, 20]) <;> apply At.upd <;> first | exact .inl ‹_› | exact .inr rfl | skip)
    | ((conv => enter [3, 20]) <;> apply At.updCore) | split | exact At.ofMkFst ‹_› | exact At.ofMkSnd ‹_›
    | refine At.ofNext (by assumption) ?_ | refine At.ofFst (by assumption) ?_ | refine At.ofSnd (by assumption) ?_
    | refine At.ofOpt (by assumption) ?_ | refine At.ofOptSnd (by assumption) ?_ | refine At.ofOptFst (by assumption) ?_
    | refine At.ofOptSnd2 (by assumption) ?_ | apply At.mapAny | dsimp +zetaDelta only)

theorem State.placeImages_keeps {P : Part → Prop} {s₀ s : State} (core_ : P .core) (i : TrvImage) (before : Option State) (hs : At (Keeps P
    s₀) It s) : At (Keeps P s₀) It (State.placeImages s i before) := by
  unfold State.placeImages
  with_reducible repeat' (first
    | assumption | (intro x; refine At.cut x ?_ ?_; rotate_left; intro _; clear_value x; rotate_left; unfold x) | intro _ | lift_lets
    | apply State.placeCode_keeps | apply At.ite | apply At.next | apply At.some | exact At.none | dsimp -zeta only [At.mkFst, At.mkSnd]
    | apply At.foldl | apply At.getD | apply At.fst | apply At.snd
    | ((conv => enter [3, 20]) <;> apply At.upd <;> first | exact .inl ‹_› | exact .inr rfl | skip)
    | ((conv => enter [3, 20]) <;> apply At.updCore) | split | exact At.ofMkFst ‹_› | exact At.ofMkSnd ‹_›
    | refine At.ofNext (by assumption) ?_ | refine At.ofFst (by assumption) ?_ | refine At.ofSnd (by assumption) ?_
    | refine At.ofOpt (by assumption) ?_ | refine At.ofOptSnd (by assumption) ?_ | refine At.ofOptFst (by assumption) ?_
    | refine At.ofOptSnd2 (by assumption) ?_ | apply At.mapAny | dsimp +zetaDelta only)

theorem State.chooseImages_keeps {P : Part → Prop} {s₀ s0 : State} (dict_ : P .dict) (mgmt_ : P .mgmt) (fb_ : P .fb) (stn_ : P .stn) (trv_
    : P .trv) (core_ : P .core) (text_ : P .text) (srch_ : P .srch) (sync_ : P .sync) (pwr_ : P .pwr) (i : TrvImage) (count : Bool) (hs :
    At (Keeps P s₀) It s0) : At (Keeps P s₀) It (State.chooseImages s0 i count) := by
  unfold State.chooseImages
  with_reducible repeat' (first
    | assumption | (intro x; refine At.cut x ?_ ?_; rotate_left; intro _; clear_value x; rotate_left; unfold x) | intro _ | lift_lets
    | apply State.setObj_keeps | apply State.bump_keeps | apply State.tileEvent_keeps | apply State.stopTraverse_keeps
    | apply State.fenceCluster_keeps | apply State.placeImages_keeps | apply At.ite | apply At.next | apply At.some | exact At.none
    | dsimp -zeta only [At.mkFst, At.mkSnd] | apply At.foldl | apply At.getD | apply At.fst | apply At.snd
    | ((conv => enter [3, 20]) <;> apply At.upd <;> first | exact .inl ‹_› | exact .inr rfl | skip)
    | ((conv => enter [3, 20]) <;> apply At.updCore) | split | exact At.ofMkFst ‹_› | exact At.ofMkSnd ‹_›
    | refine At.ofNext (by assumption) ?_ | refine At.ofFst (by assumption) ?_ | refine At.ofSnd (by assumption) ?_
    | refine At.ofOpt (by assumption) ?_ | refine At.ofOptSnd (by assumption) ?_ | refine At.ofOptFst (by assumption) ?_
    | refine At.ofOptSnd2 (by assumption) ?_ | apply At.mapAny | dsimp +zetaDelta only)

theorem State.endVoid_keeps {P : Part → Prop} {s₀ s : State} (dict_ : P .dict) (mgmt_ : P .mgmt) (fb_ : P .fb) (stn_ : P .stn) (ses_ : P
    .ses) (trv_ : P .trv) (core_ : P .core) (text_ : P .text) (srch_ : P .srch) (sync_ : P .sync) (pwr_ : P .pwr) (i : TrvImage) (hs : At
    (Keeps P s₀) It s) : At (Keeps P s₀) It (State.endVoid s i) := by
  unfold State.endVoid
  with_reducible repeat' (first
    | assumption | (intro x; refine At.cut x ?_ ?_; rotate_left; intro _; clear_value x; rotate_left; unfold x) | intro _ | lift_lets
    | apply State.bump_keeps | apply State.stopTraverse_keeps | apply State.chooseImages_keeps | apply At.ite | apply At.next
    | apply At.some | exact At.none | dsimp -zeta only [At.mkFst, At.mkSnd] | apply At.foldl | apply At.getD | apply At.fst | apply At.snd
    | ((conv => enter [3, 20]) <;> apply At.upd <;> first | exact .inl ‹_› | exact .inr rfl | skip)
    | ((conv => enter [3, 20]) <;> apply At.updCore) | split | exact At.ofMkFst ‹_› | exact At.ofMkSnd ‹_›
    | refine At.ofNext (by assumption) ?_ | refine At.ofFst (by assumption) ?_ | refine At.ofSnd (by assumption) ?_
    | refine At.ofOpt (by assumption) ?_ | refine At.ofOptSnd (by assumption) ?_ | refine At.ofOptFst (by assumption) ?_
    | refine At.ofOptSnd2 (by assumption) ?_ | apply At.mapAny | dsimp +zetaDelta only)

theorem State.endCancelling_keeps {P : Part → Prop} {s₀ s : State} (dict_ : P .dict) (fb_ : P .fb) (stn_ : P .stn) (ses_ : P .ses) (tier_ :
    P .tier) (trv_ : P .trv) (srch_ : P .srch) (x : Session) (hs : At (Keeps P s₀) It s) : At (Keeps P s₀) It (State.endCancelling s x) :=
    by
  unfold State.endCancelling
  with_reducible repeat' (first
    | assumption | (intro x; refine At.cut x ?_ ?_; rotate_left; intro _; clear_value x; rotate_left; unfold x) | intro _ | lift_lets
    | apply State.enterClosed_keeps | apply At.ite | apply At.next | apply At.some | exact At.none | dsimp -zeta only [At.mkFst, At.mkSnd]
    | apply At.foldl | apply At.getD | apply At.fst | apply At.snd
    | ((conv => enter [3, 20]) <;> apply At.upd <;> first | exact .inl ‹_› | exact .inr rfl | skip)
    | ((conv => enter [3, 20]) <;> apply At.updCore) | split | exact At.ofMkFst ‹_› | exact At.ofMkSnd ‹_›
    | refine At.ofNext (by assumption) ?_ | refine At.ofFst (by assumption) ?_ | refine At.ofSnd (by assumption) ?_
    | refine At.ofOpt (by assumption) ?_ | refine At.ofOptSnd (by assumption) ?_ | refine At.ofOptFst (by assumption) ?_
    | refine At.ofOptSnd2 (by assumption) ?_ | apply At.mapAny | dsimp +zetaDelta only)

theorem State.beginCancelling_keeps {P : Part → Prop} {s₀ s : State} (dict_ : P .dict) (fb_ : P .fb) (ses_ : P .ses) (tier_ : P .tier) (x :
    Session) (hs : At (Keeps P s₀) It s) : At (Keeps P s₀) It (State.beginCancelling s x) := by
  unfold State.beginCancelling
  with_reducible repeat' (first
    | assumption | (intro x; refine At.cut x ?_ ?_; rotate_left; intro _; clear_value x; rotate_left; unfold x) | intro _ | lift_lets
    | apply State.bump_keeps | apply State.waitDurable_keeps | apply State.modSess_keeps | apply State.freePages_keeps | apply At.ite
    | apply At.next | apply At.some | exact At.none | dsimp -zeta only [At.mkFst, At.mkSnd] | apply At.foldl | apply At.getD
    | apply At.fst | apply At.snd | ((conv => enter [3, 20]) <;> apply At.upd <;> first | exact .inl ‹_› | exact .inr rfl | skip)
    | ((conv => enter [3, 20]) <;> apply At.updCore) | split | exact At.ofMkFst ‹_› | exact At.ofMkSnd ‹_›
    | refine At.ofNext (by assumption) ?_ | refine At.ofFst (by assumption) ?_ | refine At.ofSnd (by assumption) ?_
    | refine At.ofOpt (by assumption) ?_ | refine At.ofOptSnd (by assumption) ?_ | refine At.ofOptFst (by assumption) ?_
    | refine At.ofOptSnd2 (by assumption) ?_ | apply At.mapAny | dsimp +zetaDelta only)

theorem State.maxPosStep_keeps {P : Part → Prop} {s₀ s : State} (dict_ : P .dict) (fb_ : P .fb) (stn_ : P .stn) (ses_ : P .ses) (x :
    Session) (hs : At (Keeps P s₀) It s) : At (Keeps P s₀) It (State.maxPosStep s x) := by
  unfold State.maxPosStep
  with_reducible repeat' (first
    | assumption | (intro x; refine At.cut x ?_ ?_; rotate_left; intro _; clear_value x; rotate_left; unfold x) | intro _ | lift_lets
    | apply State.modSess_keeps | apply State.srec'_keeps | apply State.sevent_keeps | apply At.ite | apply At.next | apply At.some
    | exact At.none | dsimp -zeta only [At.mkFst, At.mkSnd] | apply At.foldl | apply At.getD | apply At.fst | apply At.snd
    | ((conv => enter [3, 20]) <;> apply At.upd <;> first | exact .inl ‹_› | exact .inr rfl | skip)
    | ((conv => enter [3, 20]) <;> apply At.updCore) | split | exact At.ofMkFst ‹_› | exact At.ofMkSnd ‹_›
    | refine At.ofNext (by assumption) ?_ | refine At.ofFst (by assumption) ?_ | refine At.ofSnd (by assumption) ?_
    | refine At.ofOpt (by assumption) ?_ | refine At.ofOptSnd (by assumption) ?_ | refine At.ofOptFst (by assumption) ?_
    | refine At.ofOptSnd2 (by assumption) ?_ | apply At.mapAny | dsimp +zetaDelta only)

theorem State.renameRing_keeps {P : Part → Prop} {s₀ s : State} (dict_ : P .dict) (stn_ : P .stn) (ses_ : P .ses) (x : Session) (hs : At
    (Keeps P s₀) It s) : At (Keeps P s₀) It (State.renameRing s x) := by
  unfold State.renameRing
  with_reducible repeat' (first
    | assumption | (intro x; refine At.cut x ?_ ?_; rotate_left; intro _; clear_value x; rotate_left; unfold x) | intro _ | lift_lets
    | apply State.setSess_keeps | apply State.modSess_keeps | apply State.postEntry_keeps | apply At.ite | apply At.next | apply At.some
    | exact At.none | dsimp -zeta only [At.mkFst, At.mkSnd] | apply At.foldl | apply At.getD | apply At.fst | apply At.snd
    | ((conv => enter [3, 20]) <;> apply At.upd <;> first | exact .inl ‹_› | exact .inr rfl | skip)
    | ((conv => enter [3, 20]) <;> apply At.updCore) | split | exact At.ofMkFst ‹_› | exact At.ofMkSnd ‹_›
    | refine At.ofNext (by assumption) ?_ | refine At.ofFst (by assumption) ?_ | refine At.ofSnd (by assumption) ?_
    | refine At.ofOpt (by assumption) ?_ | refine At.ofOptSnd (by assumption) ?_ | refine At.ofOptFst (by assumption) ?_
    | refine At.ofOptSnd2 (by assumption) ?_ | apply At.mapAny | dsimp +zetaDelta only)

theorem State.freeIndex_keeps {P : Part → Prop} {s₀ s : State} (dict_ : P .dict) (ses_ : P .ses) (tier_ : P .tier) (x : Session) (hs : At
    (Keeps P s₀) It s) : At (Keeps P s₀) It (State.freeIndex s x) := by
  unfold State.freeIndex
  with_reducible repeat' (first
    | assumption | (intro x; refine At.cut x ?_ ?_; rotate_left; intro _; clear_value x; rotate_left; unfold x) | intro _ | lift_lets
    | apply State.freePt_keeps | apply At.ite | apply At.next | apply At.some | exact At.none | dsimp -zeta only [At.mkFst, At.mkSnd]
    | apply At.foldl | apply At.getD | apply At.fst | apply At.snd
    | ((conv => enter [3, 20]) <;> apply At.upd <;> first | exact .inl ‹_› | exact .inr rfl | skip)
    | ((conv => enter [3, 20]) <;> apply At.updCore) | split | exact At.ofMkFst ‹_› | exact At.ofMkSnd ‹_›
    | refine At.ofNext (by assumption) ?_ | refine At.ofFst (by assumption) ?_ | refine At.ofSnd (by assumption) ?_
    | refine At.ofOpt (by assumption) ?_ | refine At.ofOptSnd (by assumption) ?_ | refine At.ofOptFst (by assumption) ?_
    | refine At.ofOptSnd2 (by assumption) ?_ | apply At.mapAny | dsimp +zetaDelta only)

theorem State.readCons_keeps {P : Part → Prop} {s₀ s : State} (dict_ : P .dict) (fb_ : P .fb) (ses_ : P .ses) (sid : Nat) (v : Nat) (hs :
    At (Keeps P s₀) It s) : At (Keeps P s₀) It (State.readCons s sid v) := by
  unfold State.readCons
  with_reducible repeat' (first
    | assumption | (intro x; refine At.cut x ?_ ?_; rotate_left; intro _; clear_value x; rotate_left; unfold x) | intro _ | lift_lets
    | apply State.bump_keeps | apply State.report_keeps | apply State.setSess_keeps | apply At.ite | apply At.next | apply At.some
    | exact At.none | dsimp -zeta only [At.mkFst, At.mkSnd] | apply At.foldl | apply At.getD | apply At.fst | apply At.snd
    | ((conv => enter [3, 20]) <;> apply At.upd <;> first | exact .inl ‹_› | exact .inr rfl | skip)
    | ((conv => enter [3, 20]) <;> apply At.updCore) | split | exact At.ofMkFst ‹_› | exact At.ofMkSnd ‹_›
    | refine At.ofNext (by assumption) ?_ | refine At.ofFst (by assumption) ?_ | refine At.ofSnd (by assumption) ?_
    | refine At.ofOpt (by assumption) ?_ | refine At.ofOptSnd (by assumption) ?_ | refine At.ofOptFst (by assumption) ?_
    | refine At.ofOptSnd2 (by assumption) ?_ | apply At.mapAny | dsimp +zetaDelta only)

theorem State.clearHold_keeps {P : Part → Prop} {s₀ s : State} (ses_ : P .ses) (x : Session) (hs : At (Keeps P s₀) It s) : At (Keeps P s₀)
    It (State.clearHold s x) := by
  unfold State.clearHold
  with_reducible repeat' (first
    | assumption | (intro x; refine At.cut x ?_ ?_; rotate_left; intro _; clear_value x; rotate_left; unfold x) | intro _ | lift_lets
    | apply State.setSess_keeps | apply At.ite | apply At.next | apply At.some | exact At.none | dsimp -zeta only [At.mkFst, At.mkSnd]
    | apply At.foldl | apply At.getD | apply At.fst | apply At.snd
    | ((conv => enter [3, 20]) <;> apply At.upd <;> first | exact .inl ‹_› | exact .inr rfl | skip)
    | ((conv => enter [3, 20]) <;> apply At.updCore) | split | exact At.ofMkFst ‹_› | exact At.ofMkSnd ‹_›
    | refine At.ofNext (by assumption) ?_ | refine At.ofFst (by assumption) ?_ | refine At.ofSnd (by assumption) ?_
    | refine At.ofOpt (by assumption) ?_ | refine At.ofOptSnd (by assumption) ?_ | refine At.ofOptFst (by assumption) ?_
    | refine At.ofOptSnd2 (by assumption) ?_ | apply At.mapAny | dsimp +zetaDelta only)

theorem State.eachSess_keeps {P : Part → Prop} {s₀ s : State} (f : State → Session → State) (hf : ∀ u x0, At (Keeps P s₀) It u → At (Keeps
    P s₀) It (f u x0)) (hs : At (Keeps P s₀) It s) : At (Keeps P s₀) It (State.eachSess s f) := by
  unfold State.eachSess
  with_reducible repeat' (first
    | assumption | (intro x; refine At.cut x ?_ ?_; rotate_left; intro _; clear_value x; rotate_left; unfold x) | intro _ | lift_lets
    | apply hf | apply At.ite | apply At.next | apply At.some | exact At.none | dsimp -zeta only [At.mkFst, At.mkSnd] | apply At.foldl
    | apply At.getD | apply At.fst | apply At.snd
    | ((conv => enter [3, 20]) <;> apply At.upd <;> first | exact .inl ‹_› | exact .inr rfl | skip)
    | ((conv => enter [3, 20]) <;> apply At.updCore) | split | exact At.ofMkFst ‹_› | exact At.ofMkSnd ‹_›
    | refine At.ofNext (by assumption) ?_ | refine At.ofFst (by assumption) ?_ | refine At.ofSnd (by assumption) ?_
    | refine At.ofOpt (by assumption) ?_ | refine At.ofOptSnd (by assumption) ?_ | refine At.ofOptFst (by assumption) ?_
    | refine At.ofOptSnd2 (by assumption) ?_ | apply At.mapAny | dsimp +zetaDelta only)

theorem State.cancelsLater_keeps {P : Part → Prop} {s₀ s : State} (dict_ : P .dict) (fb_ : P .fb) (ses_ : P .ses) (tier_ : P .tier) (trv_ :
    P .trv) (hs : At (Keeps P s₀) It s) : At (Keeps P s₀) It (State.cancelsLater s) := by
  unfold State.cancelsLater
  with_reducible repeat' (first
    | assumption | (intro x; refine At.cut x ?_ ?_; rotate_left; intro _; clear_value x; rotate_left; unfold x) | intro _ | lift_lets
    | apply State.setSess_keeps | apply State.cancelSession_keeps | apply State.eachSess_keeps | apply At.ite | apply At.next
    | apply At.some | exact At.none | dsimp -zeta only [At.mkFst, At.mkSnd] | apply At.foldl | apply At.getD | apply At.fst | apply At.snd
    | ((conv => enter [3, 20]) <;> apply At.upd <;> first | exact .inl ‹_› | exact .inr rfl | skip)
    | ((conv => enter [3, 20]) <;> apply At.updCore) | split | exact At.ofMkFst ‹_› | exact At.ofMkSnd ‹_›
    | refine At.ofNext (by assumption) ?_ | refine At.ofFst (by assumption) ?_ | refine At.ofSnd (by assumption) ?_
    | refine At.ofOpt (by assumption) ?_ | refine At.ofOptSnd (by assumption) ?_ | refine At.ofOptFst (by assumption) ?_
    | refine At.ofOptSnd2 (by assumption) ?_ | apply At.mapAny | dsimp +zetaDelta only)

theorem State.endRows_keeps {P : Part → Prop} {s₀ s : State} (dict_ : P .dict) (mgmt_ : P .mgmt) (fb_ : P .fb) (stn_ : P .stn) (ses_ : P
    .ses) (tier_ : P .tier) (trv_ : P .trv) (core_ : P .core) (text_ : P .text) (srch_ : P .srch) (sync_ : P .sync) (pwr_ : P .pwr) (free_
    : P .free) (hs : At (Keeps P s₀) It s) : At (Keeps P s₀) It (State.endRows s) := by
  unfold State.endRows
  with_reducible repeat' (first
    | assumption | (intro x; refine At.cut x ?_ ?_; rotate_left; intro _; clear_value x; rotate_left; unfold x) | intro _ | lift_lets
    | apply State.bump_keeps | apply State.endRow_keeps | apply State.endVoid_keeps | apply At.ite | apply At.next | apply At.some
    | exact At.none | dsimp -zeta only [At.mkFst, At.mkSnd] | apply At.foldl | apply At.getD | apply At.fst | apply At.snd
    | ((conv => enter [3, 20]) <;> apply At.upd <;> first | exact .inl ‹_› | exact .inr rfl | skip)
    | ((conv => enter [3, 20]) <;> apply At.updCore) | split | exact At.ofMkFst ‹_› | exact At.ofMkSnd ‹_›
    | refine At.ofNext (by assumption) ?_ | refine At.ofFst (by assumption) ?_ | refine At.ofSnd (by assumption) ?_
    | refine At.ofOpt (by assumption) ?_ | refine At.ofOptSnd (by assumption) ?_ | refine At.ofOptFst (by assumption) ?_
    | refine At.ofOptSnd2 (by assumption) ?_ | apply At.mapAny | dsimp +zetaDelta only)

theorem State.endSessions_keeps {P : Part → Prop} {s₀ s : State} (dict_ : P .dict) (fb_ : P .fb) (stn_ : P .stn) (ses_ : P .ses) (tier_ : P
    .tier) (trv_ : P .trv) (srch_ : P .srch) (free_ : P .free) (cons : List (Nat × Nat)) (hs : At (Keeps P s₀) It s) : At (Keeps P s₀) It
    (State.endSessions s cons) := by
  unfold State.endSessions
  with_reducible repeat' (first
    | assumption | (intro x; refine At.cut x ?_ ?_; rotate_left; intro _; clear_value x; rotate_left; unfold x) | intro _ | lift_lets
    | apply State.syncPt_keeps | apply State.spillStack_keeps | apply State.enterClosed_keeps | apply State.endCancelling_keeps
    | apply State.beginCancelling_keeps | apply State.maxPosStep_keeps | apply State.renameRing_keeps | apply State.freeIndex_keeps
    | apply State.readCons_keeps | apply State.clearHold_keeps | apply State.eachSess_keeps | apply At.ite | apply At.next | apply At.some
    | exact At.none | dsimp -zeta only [At.mkFst, At.mkSnd] | apply At.foldl | apply At.getD | apply At.fst | apply At.snd
    | ((conv => enter [3, 20]) <;> apply At.upd <;> first | exact .inl ‹_› | exact .inr rfl | skip)
    | ((conv => enter [3, 20]) <;> apply At.updCore) | split | exact At.ofMkFst ‹_› | exact At.ofMkSnd ‹_›
    | refine At.ofNext (by assumption) ?_ | refine At.ofFst (by assumption) ?_ | refine At.ofSnd (by assumption) ?_
    | refine At.ofOpt (by assumption) ?_ | refine At.ofOptSnd (by assumption) ?_ | refine At.ofOptFst (by assumption) ?_
    | refine At.ofOptSnd2 (by assumption) ?_ | apply At.mapAny | dsimp +zetaDelta only)

theorem State.farOutcome_keeps {P : Part → Prop} {s₀ s : State} (dict_ : P .dict) (ses_ : P .ses) (tier_ : P .tier) (r : RowOutcome) (hs :
    At (Keeps P s₀) It s) : At (Keeps P s₀) It (State.farOutcome s r) := by
  unfold State.farOutcome
  with_reducible repeat' (first
    | assumption | (intro x; refine At.cut x ?_ ?_; rotate_left; intro _; clear_value x; rotate_left; unfold x) | intro _ | lift_lets
    | apply State.freePages_keeps | apply State.freePt_keeps | apply State.kvCleanup_keeps | apply At.ite | apply At.next | apply At.some
    | exact At.none | dsimp -zeta only [At.mkFst, At.mkSnd] | apply At.foldl | apply At.getD | apply At.fst | apply At.snd
    | ((conv => enter [3, 20]) <;> apply At.upd <;> first | exact .inl ‹_› | exact .inr rfl | skip)
    | ((conv => enter [3, 20]) <;> apply At.updCore) | split | exact At.ofMkFst ‹_› | exact At.ofMkSnd ‹_›
    | refine At.ofNext (by assumption) ?_ | refine At.ofFst (by assumption) ?_ | refine At.ofSnd (by assumption) ?_
    | refine At.ofOpt (by assumption) ?_ | refine At.ofOptSnd (by assumption) ?_ | refine At.ofOptFst (by assumption) ?_
    | refine At.ofOptSnd2 (by assumption) ?_ | apply At.mapAny | dsimp +zetaDelta only)

theorem State.takeOutcomes_keeps {P : Part → Prop} {s₀ s : State} (dict_ : P .dict) (ses_ : P .ses) (tier_ : P .tier) (trv_ : P .trv) (outs
    : List RowOutcome) (hs : At (Keeps P s₀) It s) : At (Keeps P s₀) It (State.takeOutcomes s outs) := by
  unfold State.takeOutcomes
  with_reducible repeat' (first
    | assumption | (intro x; refine At.cut x ?_ ?_; rotate_left; intro _; clear_value x; rotate_left; unfold x) | intro _ | lift_lets
    | apply State.farOutcome_keeps | apply At.ite | apply At.next | apply At.some | exact At.none | dsimp -zeta only [At.mkFst, At.mkSnd]
    | apply At.foldl | apply At.getD | apply At.fst | apply At.snd
    | ((conv => enter [3, 20]) <;> apply At.upd <;> first | exact .inl ‹_› | exact .inr rfl | skip)
    | ((conv => enter [3, 20]) <;> apply At.updCore) | split | exact At.ofMkFst ‹_› | exact At.ofMkSnd ‹_›
    | refine At.ofNext (by assumption) ?_ | refine At.ofFst (by assumption) ?_ | refine At.ofSnd (by assumption) ?_
    | refine At.ofOpt (by assumption) ?_ | refine At.ofOptSnd (by assumption) ?_ | refine At.ofOptFst (by assumption) ?_
    | refine At.ofOptSnd2 (by assumption) ?_ | apply At.mapAny | dsimp +zetaDelta only)

theorem State.endFrame_keeps {P : Part → Prop} {s₀ s : State} (dict_ : P .dict) (mgmt_ : P .mgmt) (fb_ : P .fb) (stn_ : P .stn) (ses_ : P
    .ses) (tier_ : P .tier) (trv_ : P .trv) (core_ : P .core) (text_ : P .text) (srch_ : P .srch) (sync_ : P .sync) (pwr_ : P .pwr) (free_
    : P .free) (cons : List (Nat × Nat)) (outs : List RowOutcome) (hs : At (Keeps P s₀) It s) : At (Keeps P s₀) It (State.endFrame s cons
    outs) := by
  unfold State.endFrame
  with_reducible repeat' (first
    | assumption | (intro x; refine At.cut x ?_ ?_; rotate_left; intro _; clear_value x; rotate_left; unfold x) | intro _ | lift_lets
    | apply State.endRows_keeps | apply State.endSessions_keeps | apply State.takeOutcomes_keeps | apply At.ite | apply At.next
    | apply At.some | exact At.none | dsimp -zeta only [At.mkFst, At.mkSnd] | apply At.foldl | apply At.getD | apply At.fst | apply At.snd
    | ((conv => enter [3, 20]) <;> apply At.upd <;> first | exact .inl ‹_› | exact .inr rfl | skip)
    | ((conv => enter [3, 20]) <;> apply At.updCore) | split | exact At.ofMkFst ‹_› | exact At.ofMkSnd ‹_›
    | refine At.ofNext (by assumption) ?_ | refine At.ofFst (by assumption) ?_ | refine At.ofSnd (by assumption) ?_
    | refine At.ofOpt (by assumption) ?_ | refine At.ofOptSnd (by assumption) ?_ | refine At.ofOptFst (by assumption) ?_
    | refine At.ofOptSnd2 (by assumption) ?_ | apply At.mapAny | dsimp +zetaDelta only)

theorem State.putSyncInit_keeps {P : Part → Prop} {s₀ s : State} (sync_ : P .sync) (y : SyncInit) (hs : At (Keeps P s₀) It s) : At (Keeps P
    s₀) It (State.putSyncInit s y) := by
  unfold State.putSyncInit
  with_reducible repeat' (first
    | assumption | (intro x; refine At.cut x ?_ ?_; rotate_left; intro _; clear_value x; rotate_left; unfold x) | intro _ | lift_lets
    | apply State.setSync_keeps | apply At.ite | apply At.next | apply At.some | exact At.none | dsimp -zeta only [At.mkFst, At.mkSnd]
    | apply At.foldl | apply At.getD | apply At.fst | apply At.snd
    | ((conv => enter [3, 20]) <;> apply At.upd <;> first | exact .inl ‹_› | exact .inr rfl | skip)
    | ((conv => enter [3, 20]) <;> apply At.updCore) | split | exact At.ofMkFst ‹_› | exact At.ofMkSnd ‹_›
    | refine At.ofNext (by assumption) ?_ | refine At.ofFst (by assumption) ?_ | refine At.ofSnd (by assumption) ?_
    | refine At.ofOpt (by assumption) ?_ | refine At.ofOptSnd (by assumption) ?_ | refine At.ofOptFst (by assumption) ?_
    | refine At.ofOptSnd2 (by assumption) ?_ | apply At.mapAny | dsimp +zetaDelta only)

theorem State.camTraverse_keeps {P : Part → Prop} {s₀ s : State} (srch_ : P .srch) (i : TrvImage) (hs : At (Keeps P s₀) It s) : At (Keeps P
    s₀) It (State.camTraverse s i) := by
  unfold State.camTraverse
  with_reducible repeat' (first
    | assumption | (intro x; refine At.cut x ?_ ?_; rotate_left; intro _; clear_value x; rotate_left; unfold x) | intro _ | lift_lets
    | apply State.setCamStatus_keeps | apply State.camNoTraverse_keeps | apply State.camTrvInsert_keeps | apply At.ite | apply At.next
    | apply At.some | exact At.none | dsimp -zeta only [At.mkFst, At.mkSnd] | apply At.foldl | apply At.getD | apply At.fst | apply At.snd
    | ((conv => enter [3, 20]) <;> apply At.upd <;> first | exact .inl ‹_› | exact .inr rfl | skip)
    | ((conv => enter [3, 20]) <;> apply At.updCore) | split | exact At.ofMkFst ‹_› | exact At.ofMkSnd ‹_›
    | refine At.ofNext (by assumption) ?_ | refine At.ofFst (by assumption) ?_ | refine At.ofSnd (by assumption) ?_
    | refine At.ofOpt (by assumption) ?_ | refine At.ofOptSnd (by assumption) ?_ | refine At.ofOptFst (by assumption) ?_
    | refine At.ofOptSnd2 (by assumption) ?_ | apply At.mapAny | dsimp +zetaDelta only)

theorem State.camBoundary_keeps {P : Part → Prop} {s₀ s : State} (srch_ : P .srch) (hs : At (Keeps P s₀) It s) : At (Keeps P s₀) It
    (State.camBoundary s) := by
  unfold State.camBoundary
  with_reducible repeat' (first
    | assumption | (intro x; refine At.cut x ?_ ?_; rotate_left; intro _; clear_value x; rotate_left; unfold x) | intro _ | lift_lets
    | apply State.setCam_keeps | apply At.ite | apply At.next | apply At.some | exact At.none | dsimp -zeta only [At.mkFst, At.mkSnd]
    | apply At.foldl | apply At.getD | apply At.fst | apply At.snd
    | ((conv => enter [3, 20]) <;> apply At.upd <;> first | exact .inl ‹_› | exact .inr rfl | skip)
    | ((conv => enter [3, 20]) <;> apply At.updCore) | split | exact At.ofMkFst ‹_› | exact At.ofMkSnd ‹_›
    | refine At.ofNext (by assumption) ?_ | refine At.ofFst (by assumption) ?_ | refine At.ofSnd (by assumption) ?_
    | refine At.ofOpt (by assumption) ?_ | refine At.ofOptSnd (by assumption) ?_ | refine At.ofOptFst (by assumption) ?_
    | refine At.ofOptSnd2 (by assumption) ?_ | apply At.mapAny | dsimp +zetaDelta only)

theorem State.activate_keeps {P : Part → Prop} {s₀ s : State} (dict_ : P .dict) (mgmt_ : P .mgmt) (fb_ : P .fb) (stn_ : P .stn) (trv_ : P
    .trv) (core_ : P .core) (text_ : P .text) (srch_ : P .srch) (sync_ : P .sync) (pwr_ : P .pwr) (hs : At (Keeps P s₀) It s) : At (Keeps P
    s₀) It (State.activate s) := by
  unfold State.activate
  with_reducible repeat' (first
    | assumption | (intro x; refine At.cut x ?_ ?_; rotate_left; intro _; clear_value x; rotate_left; unfold x) | intro _ | lift_lets
    | apply State.setObj_keeps | apply State.forN_keeps | apply State.setTrvSlot_keeps | apply State.chooseImages_keeps
    | apply State.putSyncInit_keeps | apply State.camTraverse_keeps | exact wf_nil | apply Core.settle_store | apply Core.write_store
    | apply wf_foldl_bputs | apply Core.result_store | apply Core.flags_store | apply Core.moved_store | apply Core.lanewise_store
    | exact coreInit_store | apply id_store | apply State.coreAt_store | apply State.clusterStore_wf | apply wf_bputs | apply wf_filter
    | apply wf_storeTile | apply State.issued_store | apply State.cameTo_stores | exact stores_same ‹_› | exact stores_nil
    | exact stores_filter ‹_› | apply At.ite | apply At.next | apply At.some | exact At.none | dsimp -zeta only [At.mkFst, At.mkSnd]
    | apply At.foldl | apply At.getD | apply At.fst | apply At.snd
    | ((conv => enter [3, 20]) <;> apply At.upd <;> first | exact .inl ‹_› | exact .inr rfl | skip)
    | ((conv => enter [3, 20]) <;> apply At.updCore) | split | exact At.ofMkFst ‹_› | exact At.ofMkSnd ‹_›
    | refine At.ofNext (by assumption) ?_ | refine At.ofFst (by assumption) ?_ | refine At.ofSnd (by assumption) ?_
    | refine At.ofOpt (by assumption) ?_ | refine At.ofOptSnd (by assumption) ?_ | refine At.ofOptFst (by assumption) ?_
    | refine At.ofOptSnd2 (by assumption) ?_ | apply At.mapAny | dsimp +zetaDelta only)

theorem State.undecided_keeps {P : Part → Prop} {s₀ s : State} (dict_ : P .dict) (ses_ : P .ses) (shape_ : P .shape) (trv_ : P .trv) (p :
    PendingList) (hs : At (Keeps P s₀) It s) : At (Keeps P s₀) It (State.undecided s p) := by
  unfold State.undecided
  with_reducible repeat' (first
    | assumption | (intro x; refine At.cut x ?_ ?_; rotate_left; intro _; clear_value x; rotate_left; unfold x) | intro _ | lift_lets
    | apply State.bump_keeps | apply State.unnameAll_keeps | apply State.withdraw_keeps | apply At.ite | apply At.next | apply At.some
    | exact At.none | dsimp -zeta only [At.mkFst, At.mkSnd] | apply At.foldl | apply At.getD | apply At.fst | apply At.snd
    | ((conv => enter [3, 20]) <;> apply At.upd <;> first | exact .inl ‹_› | exact .inr rfl | skip)
    | ((conv => enter [3, 20]) <;> apply At.updCore) | split | exact At.ofMkFst ‹_› | exact At.ofMkSnd ‹_›
    | refine At.ofNext (by assumption) ?_ | refine At.ofFst (by assumption) ?_ | refine At.ofSnd (by assumption) ?_
    | refine At.ofOpt (by assumption) ?_ | refine At.ofOptSnd (by assumption) ?_ | refine At.ofOptFst (by assumption) ?_
    | refine At.ofOptSnd2 (by assumption) ?_ | apply At.mapAny | dsimp +zetaDelta only)

theorem State.takeList_keeps {P : Part → Prop} {s₀ s : State} (dict_ : P .dict) (ses_ : P .ses) (shape_ : P .shape) (trv_ : P .trv) (hs :
    At (Keeps P s₀) It s) : At (Keeps P s₀) It (State.takeList s) := by
  unfold State.takeList
  with_reducible repeat' (first
    | assumption | (intro x; refine At.cut x ?_ ?_; rotate_left; intro _; clear_value x; rotate_left; unfold x) | intro _ | lift_lets
    | apply State.unnameAll_keeps | apply State.undecided_keeps | apply At.ite | apply At.next | apply At.some | exact At.none
    | dsimp -zeta only [At.mkFst, At.mkSnd] | apply At.foldl | apply At.getD | apply At.fst | apply At.snd
    | ((conv => enter [3, 20]) <;> apply At.upd <;> first | exact .inl ‹_› | exact .inr rfl | skip)
    | ((conv => enter [3, 20]) <;> apply At.updCore) | split | exact At.ofMkFst ‹_› | exact At.ofMkSnd ‹_›
    | refine At.ofNext (by assumption) ?_ | refine At.ofFst (by assumption) ?_ | refine At.ofSnd (by assumption) ?_
    | refine At.ofOpt (by assumption) ?_ | refine At.ofOptSnd (by assumption) ?_ | refine At.ofOptFst (by assumption) ?_
    | refine At.ofOptSnd2 (by assumption) ?_ | apply At.mapAny | dsimp +zetaDelta only)

theorem State.placeRow_keeps {P : Part → Prop} {s₀ s : State} (dict_ : P .dict) (ses_ : P .ses) (tier_ : P .tier) (shape_ : P .shape)
    (free_ : P .free) (i : TrvImage) (issued : Nat) (r : Nat) (e : RowEntry) (hs : At (Keeps P s₀) It s) : At (Keeps P s₀) (Fst It)
    (State.placeRow s i issued r e) := by
  unfold State.placeRow
  with_reducible repeat' (first
    | assumption | (intro x; refine At.cut x ?_ ?_; rotate_left; intro _; clear_value x; rotate_left; unfold x) | intro _ | lift_lets
    | apply State.bump_keeps | apply State.setSess_keeps | apply State.debitLater_keeps | apply State.allocTo_keeps
    | apply State.allocRebuild_keeps | apply At.ite | apply At.next | apply At.some | exact At.none
    | dsimp -zeta only [At.mkFst, At.mkSnd] | apply At.foldl | apply At.getD | apply At.fst | apply At.snd
    | ((conv => enter [3, 20]) <;> apply At.upd <;> first | exact .inl ‹_› | exact .inr rfl | skip)
    | ((conv => enter [3, 20]) <;> apply At.updCore) | split | exact At.ofMkFst ‹_› | exact At.ofMkSnd ‹_›
    | refine At.ofNext (by assumption) ?_ | refine At.ofFst (by assumption) ?_ | refine At.ofSnd (by assumption) ?_
    | refine At.ofOpt (by assumption) ?_ | refine At.ofOptSnd (by assumption) ?_ | refine At.ofOptFst (by assumption) ?_
    | refine At.ofOptSnd2 (by assumption) ?_ | apply At.mapAny | dsimp +zetaDelta only)

theorem State.farPages_keeps {P : Part → Prop} {s₀ s : State} (dict_ : P .dict) (ses_ : P .ses) (tier_ : P .tier) (free_ : P .free) (i :
    TrvImage) (r : RowNow) (hs : At (Keeps P s₀) It s) : At (Keeps P s₀) It (State.farPages s i r) := by
  unfold State.farPages
  with_reducible repeat' (first
    | assumption | (intro x; refine At.cut x ?_ ?_; rotate_left; intro _; clear_value x; rotate_left; unfold x) | intro _ | lift_lets
    | apply State.setSess_keeps | apply State.modSess_keeps | apply State.allocTo_keeps | apply State.farOutcome_keeps | apply At.ite
    | apply At.next | apply At.some | exact At.none | dsimp -zeta only [At.mkFst, At.mkSnd] | apply At.foldl | apply At.getD
    | apply At.fst | apply At.snd | ((conv => enter [3, 20]) <;> apply At.upd <;> first | exact .inl ‹_› | exact .inr rfl | skip)
    | ((conv => enter [3, 20]) <;> apply At.updCore) | split | exact At.ofMkFst ‹_› | exact At.ofMkSnd ‹_›
    | refine At.ofNext (by assumption) ?_ | refine At.ofFst (by assumption) ?_ | refine At.ofSnd (by assumption) ?_
    | refine At.ofOpt (by assumption) ?_ | refine At.ofOptSnd (by assumption) ?_ | refine At.ofOptFst (by assumption) ?_
    | refine At.ofOptSnd2 (by assumption) ?_ | apply At.mapAny | dsimp +zetaDelta only)

theorem State.layRows_keeps {P : Part → Prop} {s₀ s : State} (dict_ : P .dict) (ses_ : P .ses) (tier_ : P .tier) (shape_ : P .shape) (trv_
    : P .trv) (free_ : P .free) (i : TrvImage) (l : SlotList) (hs : At (Keeps P s₀) It s) : At (Keeps P s₀) It (State.layRows s i l) := by
  unfold State.layRows
  with_reducible repeat' (first
    | assumption | (intro x; refine At.cut x ?_ ?_; rotate_left; intro _; clear_value x; rotate_left; unfold x) | intro _ | lift_lets
    | apply State.placeRow_keeps | apply State.farPages_keeps | apply At.ite | apply At.next | apply At.some | exact At.none
    | dsimp -zeta only [At.mkFst, At.mkSnd] | apply At.foldl | apply At.getD | apply At.fst | apply At.snd
    | ((conv => enter [3, 20]) <;> apply At.upd <;> first | exact .inl ‹_› | exact .inr rfl | skip)
    | ((conv => enter [3, 20]) <;> apply At.updCore) | split | exact At.ofMkFst ‹_› | exact At.ofMkSnd ‹_›
    | refine At.ofNext (by assumption) ?_ | refine At.ofFst (by assumption) ?_ | refine At.ofSnd (by assumption) ?_
    | refine At.ofOpt (by assumption) ?_ | refine At.ofOptSnd (by assumption) ?_ | refine At.ofOptFst (by assumption) ?_
    | refine At.ofOptSnd2 (by assumption) ?_ | apply At.mapAny | dsimp +zetaDelta only)

theorem State.backToQueue_keeps {P : Part → Prop} {s₀ s : State} (ses_ : P .ses) (hs : At (Keeps P s₀) It s) : At (Keeps P s₀) It
    (State.backToQueue s) := by
  unfold State.backToQueue
  with_reducible repeat' (first
    | assumption | (intro x; refine At.cut x ?_ ?_; rotate_left; intro _; clear_value x; rotate_left; unfold x) | intro _ | lift_lets
    | apply State.setSess_keeps | apply State.eachSess_keeps | apply At.ite | apply At.next | apply At.some | exact At.none
    | dsimp -zeta only [At.mkFst, At.mkSnd] | apply At.foldl | apply At.getD | apply At.fst | apply At.snd
    | ((conv => enter [3, 20]) <;> apply At.upd <;> first | exact .inl ‹_› | exact .inr rfl | skip)
    | ((conv => enter [3, 20]) <;> apply At.updCore) | split | exact At.ofMkFst ‹_› | exact At.ofMkSnd ‹_›
    | refine At.ofNext (by assumption) ?_ | refine At.ofFst (by assumption) ?_ | refine At.ofSnd (by assumption) ?_
    | refine At.ofOpt (by assumption) ?_ | refine At.ofOptSnd (by assumption) ?_ | refine At.ofOptFst (by assumption) ?_
    | refine At.ofOptSnd2 (by assumption) ?_ | apply At.mapAny | dsimp +zetaDelta only)

theorem State.queueSharers_keeps {P : Part → Prop} {s₀ s : State} (dict_ : P .dict) (ses_ : P .ses) (tier_ : P .tier) (free_ : P .free) (hs
    : At (Keeps P s₀) It s) : At (Keeps P s₀) It (State.queueSharers s) := by
  unfold State.queueSharers
  with_reducible repeat' (first
    | assumption | (intro x; refine At.cut x ?_ ?_; rotate_left; intro _; clear_value x; rotate_left; unfold x) | intro _ | lift_lets
    | apply State.toQueued_keeps | apply State.joinSharers_keeps | apply State.eachSess_keeps | apply At.ite | apply At.next
    | apply At.some | exact At.none | dsimp -zeta only [At.mkFst, At.mkSnd] | apply At.foldl | apply At.getD | apply At.fst | apply At.snd
    | ((conv => enter [3, 20]) <;> apply At.upd <;> first | exact .inl ‹_› | exact .inr rfl | skip)
    | ((conv => enter [3, 20]) <;> apply At.updCore) | split | exact At.ofMkFst ‹_› | exact At.ofMkSnd ‹_›
    | refine At.ofNext (by assumption) ?_ | refine At.ofFst (by assumption) ?_ | refine At.ofSnd (by assumption) ?_
    | refine At.ofOpt (by assumption) ?_ | refine At.ofOptSnd (by assumption) ?_ | refine At.ofOptFst (by assumption) ?_
    | refine At.ofOptSnd2 (by assumption) ?_ | apply At.mapAny | dsimp +zetaDelta only)

theorem State.resetCores_keeps {P : Part → Prop} {s₀ s : State} (core_ : P .core) (hs : At (Keeps P s₀) It s) :
    At (Keeps P s₀) It (State.resetCores s) := by
  refine At.updCore core_ (fun h => ⟨fun p hp => ?_, h.2⟩) hs
  obtain ⟨q, hq, rfl⟩ := List.mem_map.1 hp
  exact Core.settle_store q.2 _ (h.1 q hq)

theorem State.clusterSettleAll_keeps {P : Part → Prop} {s₀ s : State} (core_ : P .core) (hs : At (Keeps P s₀) It s) : At (Keeps P s₀) It
    (State.clusterSettleAll s) := by
  unfold State.clusterSettleAll
  with_reducible repeat' (first
    | assumption | (intro x; refine At.cut x ?_ ?_; rotate_left; intro _; clear_value x; rotate_left; unfold x) | intro _ | lift_lets
    | apply State.clusterAdvance_keeps | apply At.ite | apply At.next | apply At.some | exact At.none
    | dsimp -zeta only [At.mkFst, At.mkSnd] | apply At.foldl | apply At.getD | apply At.fst | apply At.snd
    | ((conv => enter [3, 20]) <;> apply At.upd <;> first | exact .inl ‹_› | exact .inr rfl | skip)
    | ((conv => enter [3, 20]) <;> apply At.updCore) | split | exact At.ofMkFst ‹_› | exact At.ofMkSnd ‹_›
    | refine At.ofNext (by assumption) ?_ | refine At.ofFst (by assumption) ?_ | refine At.ofSnd (by assumption) ?_
    | refine At.ofOpt (by assumption) ?_ | refine At.ofOptSnd (by assumption) ?_ | refine At.ofOptFst (by assumption) ?_
    | refine At.ofOptSnd2 (by assumption) ?_ | apply At.mapAny | dsimp +zetaDelta only)

theorem State.bringMask_keeps {P : Part → Prop} {s₀ s : State} (dict_ : P .dict) (fb_ : P .fb) (stn_ : P .stn) (ses_ : P .ses) (tier_ : P
    .tier) (shape_ : P .shape) (trv_ : P .trv) (core_ : P .core) (text_ : P .text) (srch_ : P .srch) (free_ : P .free) (half : Nat) (gg :
    Nat) (m : MaskBind) (a : Nat) (dst : Nat) (hs : At (Keeps P s₀) It s) : At (Keeps P s₀) It (State.bringMask s half gg m a dst) := by
  unfold State.bringMask
  with_reducible repeat' (first
    | assumption | (intro x; refine At.cut x ?_ ?_; rotate_left; intro _; clear_value x; rotate_left; unfold x) | intro _ | lift_lets
    | apply State.landTile_keeps | apply State.runJob_keeps | apply State.cacheTile_keeps | apply At.ite | apply At.next | apply At.some
    | exact At.none | dsimp -zeta only [At.mkFst, At.mkSnd] | apply At.foldl | apply At.getD | apply At.fst | apply At.snd
    | ((conv => enter [3, 20]) <;> apply At.upd <;> first | exact .inl ‹_› | exact .inr rfl | skip)
    | ((conv => enter [3, 20]) <;> apply At.updCore) | split | exact At.ofMkFst ‹_› | exact At.ofMkSnd ‹_›
    | refine At.ofNext (by assumption) ?_ | refine At.ofFst (by assumption) ?_ | refine At.ofSnd (by assumption) ?_
    | refine At.ofOpt (by assumption) ?_ | refine At.ofOptSnd (by assumption) ?_ | refine At.ofOptFst (by assumption) ?_
    | refine At.ofOptSnd2 (by assumption) ?_ | apply At.mapAny | dsimp +zetaDelta only)

theorem State.rowMasks_keeps {P : Part → Prop} {s₀ s : State} (dict_ : P .dict) (fb_ : P .fb) (stn_ : P .stn) (ses_ : P .ses) (tier_ : P
    .tier) (shape_ : P .shape) (trv_ : P .trv) (core_ : P .core) (text_ : P .text) (srch_ : P .srch) (free_ : P .free) (i : TrvImage) (r :
    RowNow) (hs : At (Keeps P s₀) It s) : At (Keeps P s₀) It (State.rowMasks s i r) := by
  unfold State.rowMasks
  with_reducible repeat' (first
    | assumption | (intro x; refine At.cut x ?_ ?_; rotate_left; intro _; clear_value x; rotate_left; unfold x) | intro _ | lift_lets
    | apply State.cacheTile_keeps | apply State.bringMask_keeps | apply At.ite | apply At.next | apply At.some | exact At.none
    | dsimp -zeta only [At.mkFst, At.mkSnd] | apply At.foldl | apply At.getD | apply At.fst | apply At.snd
    | ((conv => enter [3, 20]) <;> apply At.upd <;> first | exact .inl ‹_› | exact .inr rfl | skip)
    | ((conv => enter [3, 20]) <;> apply At.updCore) | split | exact At.ofMkFst ‹_› | exact At.ofMkSnd ‹_›
    | refine At.ofNext (by assumption) ?_ | refine At.ofFst (by assumption) ?_ | refine At.ofSnd (by assumption) ?_
    | refine At.ofOpt (by assumption) ?_ | refine At.ofOptSnd (by assumption) ?_ | refine At.ofOptFst (by assumption) ?_
    | refine At.ofOptSnd2 (by assumption) ?_ | apply At.mapAny | dsimp +zetaDelta only)

theorem State.frameMasks_keeps {P : Part → Prop} {s₀ s : State} (dict_ : P .dict) (fb_ : P .fb) (stn_ : P .stn) (ses_ : P .ses) (tier_ : P
    .tier) (shape_ : P .shape) (trv_ : P .trv) (core_ : P .core) (text_ : P .text) (srch_ : P .srch) (free_ : P .free) (i : TrvImage) (hs :
    At (Keeps P s₀) It s) : At (Keeps P s₀) It (State.frameMasks s i) := by
  unfold State.frameMasks
  with_reducible repeat' (first
    | assumption | (intro x; refine At.cut x ?_ ?_; rotate_left; intro _; clear_value x; rotate_left; unfold x) | intro _ | lift_lets
    | apply State.gatherMet_keeps | apply State.trimCache_keeps | apply State.rowMasks_keeps | apply At.ite | apply At.next
    | apply At.some | exact At.none | dsimp -zeta only [At.mkFst, At.mkSnd] | apply At.foldl | apply At.getD | apply At.fst | apply At.snd
    | ((conv => enter [3, 20]) <;> apply At.upd <;> first | exact .inl ‹_› | exact .inr rfl | skip)
    | ((conv => enter [3, 20]) <;> apply At.updCore) | split | exact At.ofMkFst ‹_› | exact At.ofMkSnd ‹_›
    | refine At.ofNext (by assumption) ?_ | refine At.ofFst (by assumption) ?_ | refine At.ofSnd (by assumption) ?_
    | refine At.ofOpt (by assumption) ?_ | refine At.ofOptSnd (by assumption) ?_ | refine At.ofOptFst (by assumption) ?_
    | refine At.ofOptSnd2 (by assumption) ?_ | apply At.mapAny | dsimp +zetaDelta only)

theorem State.startFrame_keeps {P : Part → Prop} {s₀ s : State} (frame_ : P .frame) (frameStart_ : P .frameStart) (dict_ : P .dict) (mgmt_
    : P .mgmt) (fb_ : P .fb) (stn_ : P .stn) (ses_ : P .ses) (tier_ : P .tier) (shape_ : P .shape) (trv_ : P .trv) (core_ : P .core) (text_
    : P .text) (srch_ : P .srch) (sync_ : P .sync) (pwr_ : P .pwr) (free_ : P .free) (e : Nat) (hs : At (Keeps P s₀) It s) : At (Keeps P
    s₀) It (State.startFrame s e) := by
  unfold State.startFrame
  with_reducible repeat' (first
    | assumption | (intro x; refine At.cut x ?_ ?_; rotate_left; intro _; clear_value x; rotate_left; unfold x) | intro _ | lift_lets
    | apply State.gateFrame_keeps | apply State.dropStreams_keeps | apply State.setReady_keeps | apply State.putSyncInit_keeps
    | apply State.activate_keeps | apply State.takeList_keeps | apply State.layRows_keeps | apply State.backToQueue_keeps
    | apply State.queueSharers_keeps | apply State.resetCores_keeps | apply State.clusterSettleAll_keeps | apply State.frameMasks_keeps
    | apply At.ite | apply At.next | apply At.some | exact At.none | dsimp -zeta only [At.mkFst, At.mkSnd] | apply At.foldl
    | apply At.getD | apply At.fst | apply At.snd
    | ((conv => enter [3, 20]) <;> apply At.upd <;> first | exact .inl ‹_› | exact .inr rfl | skip)
    | ((conv => enter [3, 20]) <;> apply At.updCore) | split | exact At.ofMkFst ‹_› | exact At.ofMkSnd ‹_›
    | refine At.ofNext (by assumption) ?_ | refine At.ofFst (by assumption) ?_ | refine At.ofSnd (by assumption) ?_
    | refine At.ofOpt (by assumption) ?_ | refine At.ofOptSnd (by assumption) ?_ | refine At.ofOptFst (by assumption) ?_
    | refine At.ofOptSnd2 (by assumption) ?_ | apply At.mapAny | dsimp +zetaDelta only)

theorem State.markRecovered_keeps {P : Part → Prop} {s₀ s : State} (dict_ : P .dict) (fb_ : P .fb) (hs : At (Keeps P s₀) It s) : At (Keeps
    P s₀) It (State.markRecovered s) := by
  unfold State.markRecovered
  with_reducible repeat' (first
    | assumption | (intro x; refine At.cut x ?_ ?_; rotate_left; intro _; clear_value x; rotate_left; unfold x) | intro _ | lift_lets
    | apply State.setBook_keeps | apply At.ite | apply At.next | apply At.some | exact At.none | dsimp -zeta only [At.mkFst, At.mkSnd]
    | apply At.foldl | apply At.getD | apply At.fst | apply At.snd
    | ((conv => enter [3, 20]) <;> apply At.upd <;> first | exact .inl ‹_› | exact .inr rfl | skip)
    | ((conv => enter [3, 20]) <;> apply At.updCore) | split | exact At.ofMkFst ‹_› | exact At.ofMkSnd ‹_›
    | refine At.ofNext (by assumption) ?_ | refine At.ofFst (by assumption) ?_ | refine At.ofSnd (by assumption) ?_
    | refine At.ofOpt (by assumption) ?_ | refine At.ofOptSnd (by assumption) ?_ | refine At.ofOptFst (by assumption) ?_
    | refine At.ofOptSnd2 (by assumption) ?_ | apply At.mapAny | dsimp +zetaDelta only)

/-! ### Machine/SearchOps.lean -/

theorem State.fetchVector_keeps {P : Part → Prop} {s₀ s : State} (stn_ : P .stn) (o : VxOp) (hs : At (Keeps P s₀) It s) : At (Keeps P s₀)
    It (State.fetchVector s o) := by
  unfold State.fetchVector
  with_reducible repeat' (first
    | assumption | (intro x; refine At.cut x ?_ ?_; rotate_left; intro _; clear_value x; rotate_left; unfold x) | intro _ | lift_lets
    | apply State.setStation_keeps | apply At.ite | apply At.next | apply At.some | exact At.none | dsimp -zeta only [At.mkFst, At.mkSnd]
    | apply At.foldl | apply At.getD | apply At.fst | apply At.snd
    | ((conv => enter [3, 20]) <;> apply At.upd <;> first | exact .inl ‹_› | exact .inr rfl | skip)
    | ((conv => enter [3, 20]) <;> apply At.updCore) | split | exact At.ofMkFst ‹_› | exact At.ofMkSnd ‹_›
    | refine At.ofNext (by assumption) ?_ | refine At.ofFst (by assumption) ?_ | refine At.ofSnd (by assumption) ?_
    | refine At.ofOpt (by assumption) ?_ | refine At.ofOptSnd (by assumption) ?_ | refine At.ofOptFst (by assumption) ?_
    | refine At.ofOptSnd2 (by assumption) ?_ | apply At.mapAny | dsimp +zetaDelta only)

theorem State.queryMsg_keeps {P : Part → Prop} {s₀ s : State} (dict_ : P .dict) (stn_ : P .stn) (srch_ : P .srch) (st : Nat) (e : Intake)
    (b : SearchBody) (hs : At (Keeps P s₀) It s) : At (Keeps P s₀) It (State.queryMsg s st e b) := by
  unfold State.queryMsg
  with_reducible repeat' (first
    | assumption | (intro x; refine At.cut x ?_ ?_; rotate_left; intro _; clear_value x; rotate_left; unfold x) | intro _ | lift_lets
    | apply State.setIntake_keeps | apply State.leaveIntake_keeps | apply State.finish_keeps | apply At.ite | apply At.next
    | apply At.some | exact At.none | dsimp -zeta only [At.mkFst, At.mkSnd] | apply At.foldl | apply At.getD | apply At.fst | apply At.snd
    | ((conv => enter [3, 20]) <;> apply At.upd <;> first | exact .inl ‹_› | exact .inr rfl | skip)
    | ((conv => enter [3, 20]) <;> apply At.updCore) | split | exact At.ofMkFst ‹_› | exact At.ofMkSnd ‹_›
    | refine At.ofNext (by assumption) ?_ | refine At.ofFst (by assumption) ?_ | refine At.ofSnd (by assumption) ?_
    | refine At.ofOpt (by assumption) ?_ | refine At.ofOptSnd (by assumption) ?_ | refine At.ofOptFst (by assumption) ?_
    | refine At.ofOptSnd2 (by assumption) ?_ | apply At.mapAny | dsimp +zetaDelta only)

theorem State.insertMsg_keeps {P : Part → Prop} {s₀ s : State} (dict_ : P .dict) (stn_ : P .stn) (srch_ : P .srch) (st : Nat) (e : Intake)
    (b : SearchBody) (hs : At (Keeps P s₀) It s) : At (Keeps P s₀) It (State.insertMsg s st e b) := by
  unfold State.insertMsg
  with_reducible repeat' (first
    | assumption | (intro x; refine At.cut x ?_ ?_; rotate_left; intro _; clear_value x; rotate_left; unfold x) | intro _ | lift_lets
    | apply State.setIntake_keeps | apply State.leaveIntake_keeps | apply State.finish_keeps | apply State.fetchVector_keeps
    | apply At.ite | apply At.next | apply At.some | exact At.none | dsimp -zeta only [At.mkFst, At.mkSnd] | apply At.foldl
    | apply At.getD | apply At.fst | apply At.snd
    | ((conv => enter [3, 20]) <;> apply At.upd <;> first | exact .inl ‹_› | exact .inr rfl | skip)
    | ((conv => enter [3, 20]) <;> apply At.updCore) | split | exact At.ofMkFst ‹_› | exact At.ofMkSnd ‹_›
    | refine At.ofNext (by assumption) ?_ | refine At.ofFst (by assumption) ?_ | refine At.ofSnd (by assumption) ?_
    | refine At.ofOpt (by assumption) ?_ | refine At.ofOptSnd (by assumption) ?_ | refine At.ofOptFst (by assumption) ?_
    | refine At.ofOptSnd2 (by assumption) ?_ | apply At.mapAny | dsimp +zetaDelta only)

theorem State.vxStage_keeps {P : Part → Prop} {s₀ s : State} (dict_ : P .dict) (ses_ : P .ses) (tier_ : P .tier) (srch_ : P .srch) (ii :
    Nat) (st : Nat) (seq : Nat) (pos : Nat) (id : Nat) (v : List Lane) (hs : At (Keeps P s₀) It s) : At (Keeps P s₀) It (State.vxStage s ii
    st seq pos id v) := by
  unfold State.vxStage
  with_reducible repeat' (first
    | assumption | (intro x; refine At.cut x ?_ ?_; rotate_left; intro _; clear_value x; rotate_left; unfold x) | intro _ | lift_lets
    | apply State.setObj_keeps | apply State.setVx_keeps | apply At.ite | apply At.next | apply At.some | exact At.none
    | dsimp -zeta only [At.mkFst, At.mkSnd] | apply At.foldl | apply At.getD | apply At.fst | apply At.snd
    | ((conv => enter [3, 20]) <;> apply At.upd <;> first | exact .inl ‹_› | exact .inr rfl | skip)
    | ((conv => enter [3, 20]) <;> apply At.updCore) | split | exact At.ofMkFst ‹_› | exact At.ofMkSnd ‹_›
    | refine At.ofNext (by assumption) ?_ | refine At.ofFst (by assumption) ?_ | refine At.ofSnd (by assumption) ?_
    | refine At.ofOpt (by assumption) ?_ | refine At.ofOptSnd (by assumption) ?_ | refine At.ofOptFst (by assumption) ?_
    | refine At.ofOptSnd2 (by assumption) ?_ | apply At.mapAny | dsimp +zetaDelta only)

theorem State.searchRecord_keeps {P : Part → Prop} {s₀ s : State} (dict_ : P .dict) (fb_ : P .fb) (st : Nat) (e : Intake) (ii : Nat) (hs :
    At (Keeps P s₀) It s) : At (Keeps P s₀) (Fst It) (State.searchRecord s st e ii) := by
  unfold State.searchRecord
  with_reducible repeat' (first
    | assumption | (intro x; refine At.cut x ?_ ?_; rotate_left; intro _; clear_value x; rotate_left; unfold x) | intro _ | lift_lets
    | apply State.appendRec_keeps | apply State.seqAdd_keeps | apply At.ite | apply At.next | apply At.some | exact At.none
    | dsimp -zeta only [At.mkFst, At.mkSnd] | apply At.foldl | apply At.getD | apply At.fst | apply At.snd
    | ((conv => enter [3, 20]) <;> apply At.upd <;> first | exact .inl ‹_› | exact .inr rfl | skip)
    | ((conv => enter [3, 20]) <;> apply At.updCore) | split | exact At.ofMkFst ‹_› | exact At.ofMkSnd ‹_›
    | refine At.ofNext (by assumption) ?_ | refine At.ofFst (by assumption) ?_ | refine At.ofSnd (by assumption) ?_
    | refine At.ofOpt (by assumption) ?_ | refine At.ofOptSnd (by assumption) ?_ | refine At.ofOptFst (by assumption) ?_
    | refine At.ofOptSnd2 (by assumption) ?_ | apply At.mapAny | dsimp +zetaDelta only)

theorem State.searchDone_keeps {P : Part → Prop} {s₀ s : State} (dict_ : P .dict) (fb_ : P .fb) (stn_ : P .stn) (st : Nat) (seq : Nat) (pos
    : Nat) (result : Nat) (hs : At (Keeps P s₀) It s) : At (Keeps P s₀) It (State.searchDone s st seq pos result) := by
  unfold State.searchDone
  with_reducible repeat' (first
    | assumption | (intro x; refine At.cut x ?_ ?_; rotate_left; intro _; clear_value x; rotate_left; unfold x) | intro _ | lift_lets
    | apply State.setIntake_keeps | apply State.finish_keeps | apply State.waitDurable_keeps | apply At.ite | apply At.next
    | apply At.some | exact At.none | dsimp -zeta only [At.mkFst, At.mkSnd] | apply At.foldl | apply At.getD | apply At.fst | apply At.snd
    | ((conv => enter [3, 20]) <;> apply At.upd <;> first | exact .inl ‹_› | exact .inr rfl | skip)
    | ((conv => enter [3, 20]) <;> apply At.updCore) | split | exact At.ofMkFst ‹_› | exact At.ofMkSnd ‹_›
    | refine At.ofNext (by assumption) ?_ | refine At.ofFst (by assumption) ?_ | refine At.ofSnd (by assumption) ?_
    | refine At.ofOpt (by assumption) ?_ | refine At.ofOptSnd (by assumption) ?_ | refine At.ofOptFst (by assumption) ?_
    | refine At.ofOptSnd2 (by assumption) ?_ | apply At.mapAny | dsimp +zetaDelta only)

theorem State.vxInsert_keeps {P : Part → Prop} {s₀ s : State} (dict_ : P .dict) (fb_ : P .fb) (stn_ : P .stn) (ses_ : P .ses) (tier_ : P
    .tier) (srch_ : P .srch) (o : VxOp) (data : Octets) (hs : At (Keeps P s₀) It s) : At (Keeps P s₀) It (State.vxInsert s o data) := by
  unfold State.vxInsert
  with_reducible repeat' (first
    | assumption | (intro x; refine At.cut x ?_ ?_; rotate_left; intro _; clear_value x; rotate_left; unfold x) | intro _ | lift_lets
    | apply State.finish_keeps | apply State.vxStage_keeps | apply State.searchRecord_keeps | apply At.ite | apply At.next | apply At.some
    | exact At.none | dsimp -zeta only [At.mkFst, At.mkSnd] | apply At.foldl | apply At.getD | apply At.fst | apply At.snd
    | ((conv => enter [3, 20]) <;> apply At.upd <;> first | exact .inl ‹_› | exact .inr rfl | skip)
    | ((conv => enter [3, 20]) <;> apply At.updCore) | split | exact At.ofMkFst ‹_› | exact At.ofMkSnd ‹_›
    | refine At.ofNext (by assumption) ?_ | refine At.ofFst (by assumption) ?_ | refine At.ofSnd (by assumption) ?_
    | refine At.ofOpt (by assumption) ?_ | refine At.ofOptSnd (by assumption) ?_ | refine At.ofOptFst (by assumption) ?_
    | refine At.ofOptSnd2 (by assumption) ?_ | apply At.mapAny | dsimp +zetaDelta only)

theorem State.vxDelete_keeps {P : Part → Prop} {s₀ s : State} (dict_ : P .dict) (stn_ : P .stn) (ses_ : P .ses) (tier_ : P .tier) (srch_ :
    P .srch) (ii : Nat) (slot : Nat) (pos : Nat) (n : VxNode) (hs : At (Keeps P s₀) It s) : At (Keeps P s₀) (Fst It) (State.vxDelete s ii
    slot pos n) := by
  unfold State.vxDelete
  with_reducible repeat' (first
    | assumption | (intro x; refine At.cut x ?_ ?_; rotate_left; intro _; clear_value x; rotate_left; unfold x) | intro _ | lift_lets
    | apply State.setObj_keeps | apply State.finish_keeps | apply State.setVx_keeps | apply At.ite | apply At.next | apply At.some
    | exact At.none | dsimp -zeta only [At.mkFst, At.mkSnd] | apply At.foldl | apply At.getD | apply At.fst | apply At.snd
    | ((conv => enter [3, 20]) <;> apply At.upd <;> first | exact .inl ‹_› | exact .inr rfl | skip)
    | ((conv => enter [3, 20]) <;> apply At.updCore) | split | exact At.ofMkFst ‹_› | exact At.ofMkSnd ‹_›
    | refine At.ofNext (by assumption) ?_ | refine At.ofFst (by assumption) ?_ | refine At.ofSnd (by assumption) ?_
    | refine At.ofOpt (by assumption) ?_ | refine At.ofOptSnd (by assumption) ?_ | refine At.ofOptFst (by assumption) ?_
    | refine At.ofOptSnd2 (by assumption) ?_ | apply At.mapAny | dsimp +zetaDelta only)

theorem State.deleteMsg_keeps {P : Part → Prop} {s₀ s : State} (dict_ : P .dict) (fb_ : P .fb) (stn_ : P .stn) (ses_ : P .ses) (tier_ : P
    .tier) (srch_ : P .srch) (st : Nat) (e : Intake) (b : SearchBody) (hs : At (Keeps P s₀) It s) : At (Keeps P s₀) It (State.deleteMsg s
    st e b) := by
  unfold State.deleteMsg
  with_reducible repeat' (first
    | assumption | (intro x; refine At.cut x ?_ ?_; rotate_left; intro _; clear_value x; rotate_left; unfold x) | intro _ | lift_lets
    | apply State.finish_keeps | apply State.searchRecord_keeps | apply State.searchDone_keeps | apply State.vxDelete_keeps | apply At.ite
    | apply At.next | apply At.some | exact At.none | dsimp -zeta only [At.mkFst, At.mkSnd] | apply At.foldl | apply At.getD
    | apply At.fst | apply At.snd | ((conv => enter [3, 20]) <;> apply At.upd <;> first | exact .inl ‹_› | exact .inr rfl | skip)
    | ((conv => enter [3, 20]) <;> apply At.updCore) | split | exact At.ofMkFst ‹_› | exact At.ofMkSnd ‹_›
    | refine At.ofNext (by assumption) ?_ | refine At.ofFst (by assumption) ?_ | refine At.ofSnd (by assumption) ?_
    | refine At.ofOpt (by assumption) ?_ | refine At.ofOptSnd (by assumption) ?_ | refine At.ofOptFst (by assumption) ?_
    | refine At.ofOptSnd2 (by assumption) ?_ | apply At.mapAny | dsimp +zetaDelta only)

theorem State.vxAdvance_keeps {P : Part → Prop} {s₀ s : State} (dict_ : P .dict) (fb_ : P .fb) (stn_ : P .stn) (ses_ : P .ses) (tier_ : P
    .tier) (srch_ : P .srch) (ii : Nat) (hs : At (Keeps P s₀) It s) : At (Keeps P s₀) It (State.vxAdvance s ii) := by
  unfold State.vxAdvance
  with_reducible repeat' (first
    | assumption | (intro x; refine At.cut x ?_ ?_; rotate_left; intro _; clear_value x; rotate_left; unfold x) | intro _ | lift_lets
    | apply State.setObj_keeps | apply State.addObj_keeps | apply State.setVx_keeps | apply State.searchDone_keeps | apply At.ite
    | apply At.next | apply At.some | exact At.none | dsimp -zeta only [At.mkFst, At.mkSnd] | apply At.foldl | apply At.getD
    | apply At.fst | apply At.snd | ((conv => enter [3, 20]) <;> apply At.upd <;> first | exact .inl ‹_› | exact .inr rfl | skip)
    | ((conv => enter [3, 20]) <;> apply At.updCore) | split | exact At.ofMkFst ‹_› | exact At.ofMkSnd ‹_›
    | refine At.ofNext (by assumption) ?_ | refine At.ofFst (by assumption) ?_ | refine At.ofSnd (by assumption) ?_
    | refine At.ofOpt (by assumption) ?_ | refine At.ofOptSnd (by assumption) ?_ | refine At.ofOptFst (by assumption) ?_
    | refine At.ofOptSnd2 (by assumption) ?_ | apply At.mapAny | dsimp +zetaDelta only)

theorem State.vxDropNow_keeps {P : Part → Prop} {s₀ s : State} (dict_ : P .dict) (stn_ : P .stn) (tier_ : P .tier) (srch_ : P .srch) (ii :
    Nat) (hs : At (Keeps P s₀) It s) : At (Keeps P s₀) It (State.vxDropNow s ii) := by
  unfold State.vxDropNow
  with_reducible repeat' (first
    | assumption | (intro x; refine At.cut x ?_ ?_; rotate_left; intro _; clear_value x; rotate_left; unfold x) | intro _ | lift_lets
    | apply State.setObj_keeps | apply State.vxClear_keeps | apply At.ite | apply At.next | apply At.some | exact At.none
    | dsimp -zeta only [At.mkFst, At.mkSnd] | apply At.foldl | apply At.getD | apply At.fst | apply At.snd
    | ((conv => enter [3, 20]) <;> apply At.upd <;> first | exact .inl ‹_› | exact .inr rfl | skip)
    | ((conv => enter [3, 20]) <;> apply At.updCore) | split | exact At.ofMkFst ‹_› | exact At.ofMkSnd ‹_›
    | refine At.ofNext (by assumption) ?_ | refine At.ofFst (by assumption) ?_ | refine At.ofSnd (by assumption) ?_
    | refine At.ofOpt (by assumption) ?_ | refine At.ofOptSnd (by assumption) ?_ | refine At.ofOptFst (by assumption) ?_
    | refine At.ofOptSnd2 (by assumption) ?_ | apply At.mapAny | dsimp +zetaDelta only)

theorem State.vxSettle_keeps {P : Part → Prop} {s₀ s : State} (dict_ : P .dict) (fb_ : P .fb) (stn_ : P .stn) (ses_ : P .ses) (tier_ : P
    .tier) (srch_ : P .srch) (ii : Nat) (hs : At (Keeps P s₀) It s) : At (Keeps P s₀) It (State.vxSettle s ii) := by
  unfold State.vxSettle
  with_reducible repeat' (first
    | assumption | (intro x; refine At.cut x ?_ ?_; rotate_left; intro _; clear_value x; rotate_left; unfold x) | intro _ | lift_lets
    | apply State.vxAdvance_keeps | apply State.vxDropNow_keeps | apply At.ite | apply At.next | apply At.some | exact At.none
    | dsimp -zeta only [At.mkFst, At.mkSnd] | apply At.foldl | apply At.getD | apply At.fst | apply At.snd
    | ((conv => enter [3, 20]) <;> apply At.upd <;> first | exact .inl ‹_› | exact .inr rfl | skip)
    | ((conv => enter [3, 20]) <;> apply At.updCore) | split | exact At.ofMkFst ‹_› | exact At.ofMkSnd ‹_›
    | refine At.ofNext (by assumption) ?_ | refine At.ofFst (by assumption) ?_ | refine At.ofSnd (by assumption) ?_
    | refine At.ofOpt (by assumption) ?_ | refine At.ofOptSnd (by assumption) ?_ | refine At.ofOptFst (by assumption) ?_
    | refine At.ofOptSnd2 (by assumption) ?_ | apply At.mapAny | dsimp +zetaDelta only)

theorem State.vxAnswer_keeps {P : Part → Prop} {s₀ s : State} (dict_ : P .dict) (stn_ : P .stn) (shape_ : P .shape) (o : VxOp) (e : Nat) (d
    : Nat) (data : Octets) (hs : At (Keeps P s₀) It s) : At (Keeps P s₀) It (State.vxAnswer s o e d data) := by
  unfold State.vxAnswer
  with_reducible repeat' (first
    | assumption | (intro x; refine At.cut x ?_ ?_; rotate_left; intro _; clear_value x; rotate_left; unfold x) | intro _ | lift_lets
    | apply State.addObj_keeps | apply State.bump_keeps | apply State.setStation_keeps | apply State.finish_keeps
    | apply State.debitNow_keeps | apply At.ite | apply At.next | apply At.some | exact At.none | dsimp -zeta only [At.mkFst, At.mkSnd]
    | apply At.foldl | apply At.getD | apply At.fst | apply At.snd
    | ((conv => enter [3, 20]) <;> apply At.upd <;> first | exact .inl ‹_› | exact .inr rfl | skip)
    | ((conv => enter [3, 20]) <;> apply At.updCore) | split | exact At.ofMkFst ‹_› | exact At.ofMkSnd ‹_›
    | refine At.ofNext (by assumption) ?_ | refine At.ofFst (by assumption) ?_ | refine At.ofSnd (by assumption) ?_
    | refine At.ofOpt (by assumption) ?_ | refine At.ofOptSnd (by assumption) ?_ | refine At.ofOptFst (by assumption) ?_
    | refine At.ofOptSnd2 (by assumption) ?_ | apply At.mapAny | dsimp +zetaDelta only)

theorem State.vectorArrived_keeps {P : Part → Prop} {s₀ s : State} (dict_ : P .dict) (fb_ : P .fb) (stn_ : P .stn) (ses_ : P .ses) (tier_ :
    P .tier) (shape_ : P .shape) (srch_ : P .srch) (st : Nat) (seq : Nat) (off : Nat) (data : Octets) (hs : At (Keeps P s₀) It s) : At
    (Keeps P s₀) It (State.vectorArrived s st seq off data) := by
  unfold State.vectorArrived
  with_reducible repeat' (first
    | assumption | (intro x; refine At.cut x ?_ ?_; rotate_left; intro _; clear_value x; rotate_left; unfold x) | intro _ | lift_lets
    | apply State.vxInsert_keeps | apply State.vxSettle_keeps | apply State.vxAnswer_keeps | apply At.ite | apply At.next | apply At.some
    | exact At.none | dsimp -zeta only [At.mkFst, At.mkSnd] | apply At.foldl | apply At.getD | apply At.fst | apply At.snd
    | ((conv => enter [3, 20]) <;> apply At.upd <;> first | exact .inl ‹_› | exact .inr rfl | skip)
    | ((conv => enter [3, 20]) <;> apply At.updCore) | split | exact At.ofMkFst ‹_› | exact At.ofMkSnd ‹_›
    | refine At.ofNext (by assumption) ?_ | refine At.ofFst (by assumption) ?_ | refine At.ofSnd (by assumption) ?_
    | refine At.ofOpt (by assumption) ?_ | refine At.ofOptSnd (by assumption) ?_ | refine At.ofOptFst (by assumption) ?_
    | refine At.ofOptSnd2 (by assumption) ?_ | apply At.mapAny | dsimp +zetaDelta only)

theorem State.vectorFailed_keeps {P : Part → Prop} {s₀ s : State} (dict_ : P .dict) (fb_ : P .fb) (stn_ : P .stn) (ses_ : P .ses) (tier_ :
    P .tier) (srch_ : P .srch) (st : Nat) (seq : Nat) (hs : At (Keeps P s₀) It s) : At (Keeps P s₀) It (State.vectorFailed s st seq) := by
  unfold State.vectorFailed
  with_reducible repeat' (first
    | assumption | (intro x; refine At.cut x ?_ ?_; rotate_left; intro _; clear_value x; rotate_left; unfold x) | intro _ | lift_lets
    | apply State.finish_keeps | apply State.vxSettle_keeps | apply At.ite | apply At.next | apply At.some | exact At.none
    | dsimp -zeta only [At.mkFst, At.mkSnd] | apply At.foldl | apply At.getD | apply At.fst | apply At.snd
    | ((conv => enter [3, 20]) <;> apply At.upd <;> first | exact .inl ‹_› | exact .inr rfl | skip)
    | ((conv => enter [3, 20]) <;> apply At.updCore) | split | exact At.ofMkFst ‹_› | exact At.ofMkSnd ‹_›
    | refine At.ofNext (by assumption) ?_ | refine At.ofFst (by assumption) ?_ | refine At.ofSnd (by assumption) ?_
    | refine At.ofOpt (by assumption) ?_ | refine At.ofOptSnd (by assumption) ?_ | refine At.ofOptFst (by assumption) ?_
    | refine At.ofOptSnd2 (by assumption) ?_ | apply At.mapAny | dsimp +zetaDelta only)

theorem State.vxReset_keeps {P : Part → Prop} {s₀ s : State} (dict_ : P .dict) (ses_ : P .ses) (tier_ : P .tier) (srch_ : P .srch) (half :
    Nat) (hs : At (Keeps P s₀) It s) : At (Keeps P s₀) It (State.vxReset s half) := by
  unfold State.vxReset
  with_reducible repeat' (first
    | assumption | (intro x; refine At.cut x ?_ ?_; rotate_left; intro _; clear_value x; rotate_left; unfold x) | intro _ | lift_lets
    | apply State.setVx_keeps | apply At.ite | apply At.next | apply At.some | exact At.none | dsimp -zeta only [At.mkFst, At.mkSnd]
    | apply At.foldl | apply At.getD | apply At.fst | apply At.snd
    | ((conv => enter [3, 20]) <;> apply At.upd <;> first | exact .inl ‹_› | exact .inr rfl | skip)
    | ((conv => enter [3, 20]) <;> apply At.updCore) | split | exact At.ofMkFst ‹_› | exact At.ofMkSnd ‹_›
    | refine At.ofNext (by assumption) ?_ | refine At.ofFst (by assumption) ?_ | refine At.ofSnd (by assumption) ?_
    | refine At.ofOpt (by assumption) ?_ | refine At.ofOptSnd (by assumption) ?_ | refine At.ofOptFst (by assumption) ?_
    | refine At.ofOptSnd2 (by assumption) ?_ | apply At.mapAny | dsimp +zetaDelta only)

theorem State.vxReplay_keeps {P : Part → Prop} {s₀ s : State} (dict_ : P .dict) (stn_ : P .stn) (ses_ : P .ses) (tier_ : P .tier) (srch_ :
    P .srch) (r : Rec) (hs : At (Keeps P s₀) It s) : At (Keeps P s₀) It (State.vxReplay s r) := by
  unfold State.vxReplay
  with_reducible repeat' (first
    | assumption | (intro x; refine At.cut x ?_ ?_; rotate_left; intro _; clear_value x; rotate_left; unfold x) | intro _ | lift_lets
    | apply State.vxStage_keeps | apply State.vxDelete_keeps | apply At.ite | apply At.next | apply At.some | exact At.none
    | dsimp -zeta only [At.mkFst, At.mkSnd] | apply At.foldl | apply At.getD | apply At.fst | apply At.snd
    | ((conv => enter [3, 20]) <;> apply At.upd <;> first | exact .inl ‹_› | exact .inr rfl | skip)
    | ((conv => enter [3, 20]) <;> apply At.updCore) | split | exact At.ofMkFst ‹_› | exact At.ofMkSnd ‹_›
    | refine At.ofNext (by assumption) ?_ | refine At.ofFst (by assumption) ?_ | refine At.ofSnd (by assumption) ?_
    | refine At.ofOpt (by assumption) ?_ | refine At.ofOptSnd (by assumption) ?_ | refine At.ofOptFst (by assumption) ?_
    | refine At.ofOptSnd2 (by assumption) ?_ | apply At.mapAny | dsimp +zetaDelta only)

/-! ### Machine/CkOps.lean -/

theorem State.setCatalogue_keeps {P : Part → Prop} {s₀ s : State} (ck_ : P .ck) (l : List CatEntry) (hs : At (Keeps P s₀) It s) : At (Keeps
    P s₀) It (State.setCatalogue s l) := by
  unfold State.setCatalogue
  with_reducible repeat' (first
    | assumption | (intro x; refine At.cut x ?_ ?_; rotate_left; intro _; clear_value x; rotate_left; unfold x) | intro _ | lift_lets
    | apply At.ite | apply At.next | apply At.some | exact At.none | dsimp -zeta only [At.mkFst, At.mkSnd] | apply At.foldl
    | apply At.getD | apply At.fst | apply At.snd
    | ((conv => enter [3, 20]) <;> apply At.upd <;> first | exact .inl ‹_› | exact .inr rfl | skip)
    | ((conv => enter [3, 20]) <;> apply At.updCore) | split | exact At.ofMkFst ‹_› | exact At.ofMkSnd ‹_›
    | refine At.ofNext (by assumption) ?_ | refine At.ofFst (by assumption) ?_ | refine At.ofSnd (by assumption) ?_
    | refine At.ofOpt (by assumption) ?_ | refine At.ofOptSnd (by assumption) ?_ | refine At.ofOptFst (by assumption) ?_
    | refine At.ofOptSnd2 (by assumption) ?_ | apply At.mapAny | dsimp +zetaDelta only)

theorem State.catMark_keeps {P : Part → Prop} {s₀ s : State} (ck_ : P .ck) (id : Nat) (oldState : Nat) (f : CatEntry → CatEntry) (hs : At
    (Keeps P s₀) It s) : At (Keeps P s₀) It (State.catMark s id oldState f) := by
  unfold State.catMark
  with_reducible repeat' (first
    | assumption | (intro x; refine At.cut x ?_ ?_; rotate_left; intro _; clear_value x; rotate_left; unfold x) | intro _ | lift_lets
    | apply State.setCatalogue_keeps | apply At.ite | apply At.next | apply At.some | exact At.none
    | dsimp -zeta only [At.mkFst, At.mkSnd] | apply At.foldl | apply At.getD | apply At.fst | apply At.snd
    | ((conv => enter [3, 20]) <;> apply At.upd <;> first | exact .inl ‹_› | exact .inr rfl | skip)
    | ((conv => enter [3, 20]) <;> apply At.updCore) | split | exact At.ofMkFst ‹_› | exact At.ofMkSnd ‹_›
    | refine At.ofNext (by assumption) ?_ | refine At.ofFst (by assumption) ?_ | refine At.ofSnd (by assumption) ?_
    | refine At.ofOpt (by assumption) ?_ | refine At.ofOptSnd (by assumption) ?_ | refine At.ofOptFst (by assumption) ?_
    | refine At.ofOptSnd2 (by assumption) ?_ | apply At.mapAny | dsimp +zetaDelta only)

theorem State.ckTake_keeps {P : Part → Prop} {s₀ s : State} (dict_ : P .dict) (ck_ : P .ck) (requester : Option Nat) (id : Nat) (y3 : Nat)
    (hs : At (Keeps P s₀) It s) : At (Keeps P s₀) It (State.ckTake s requester id y3) := by
  unfold State.ckTake
  with_reducible repeat' (first
    | assumption | (intro x; refine At.cut x ?_ ?_; rotate_left; intro _; clear_value x; rotate_left; unfold x) | intro _ | lift_lets
    | apply State.setObj_keeps | apply At.ite | apply At.next | apply At.some | exact At.none | dsimp -zeta only [At.mkFst, At.mkSnd]
    | apply At.foldl | apply At.getD | apply At.fst | apply At.snd
    | ((conv => enter [3, 20]) <;> apply At.upd <;> first | exact .inl ‹_› | exact .inr rfl | skip)
    | ((conv => enter [3, 20]) <;> apply At.updCore) | split | exact At.ofMkFst ‹_› | exact At.ofMkSnd ‹_›
    | refine At.ofNext (by assumption) ?_ | refine At.ofFst (by assumption) ?_ | refine At.ofSnd (by assumption) ?_
    | refine At.ofOpt (by assumption) ?_ | refine At.ofOptSnd (by assumption) ?_ | refine At.ofOptFst (by assumption) ?_
    | refine At.ofOptSnd2 (by assumption) ?_ | apply At.mapAny | dsimp +zetaDelta only)

theorem State.checkpointMsg_keeps {P : Part → Prop} {s₀ s : State} (dict_ : P .dict) (fb_ : P .fb) (stn_ : P .stn) (ses_ : P .ses) (ck_ : P
    .ck) (st : Nat) (e : Intake) (b : CheckpointBody) (hs : At (Keeps P s₀) It s) : At (Keeps P s₀) It (State.checkpointMsg s st e b) := by
  unfold State.checkpointMsg
  with_reducible repeat' (first
    | assumption | (intro x; refine At.cut x ?_ ?_; rotate_left; intro _; clear_value x; rotate_left; unfold x) | intro _ | lift_lets
    | apply State.finish_keeps | apply State.accept_keeps | apply State.ckTake_keeps | apply At.ite | apply At.next | apply At.some
    | exact At.none | dsimp -zeta only [At.mkFst, At.mkSnd] | apply At.foldl | apply At.getD | apply At.fst | apply At.snd
    | ((conv => enter [3, 20]) <;> apply At.upd <;> first | exact .inl ‹_› | exact .inr rfl | skip)
    | ((conv => enter [3, 20]) <;> apply At.updCore) | split | exact At.ofMkFst ‹_› | exact At.ofMkSnd ‹_›
    | refine At.ofNext (by assumption) ?_ | refine At.ofFst (by assumption) ?_ | refine At.ofSnd (by assumption) ?_
    | refine At.ofOpt (by assumption) ?_ | refine At.ofOptSnd (by assumption) ?_ | refine At.ofOptFst (by assumption) ?_
    | refine At.ofOptSnd2 (by assumption) ?_ | apply At.mapAny | dsimp +zetaDelta only)

theorem State.ckTell_keeps {P : Part → Prop} {s₀ s : State} (dict_ : P .dict) (mgmt_ : P .mgmt) (stn_ : P .stn) (r : CkRun) (code : Nat)
    (a0 : Nat) (a1 : Nat) (hs : At (Keeps P s₀) It s) : At (Keeps P s₀) It (State.ckTell s r code a0 a1) := by
  unfold State.ckTell
  with_reducible repeat' (first
    | assumption | (intro x; refine At.cut x ?_ ?_; rotate_left; intro _; clear_value x; rotate_left; unfold x) | intro _ | lift_lets
    | apply State.event_keeps | apply State.announce_keeps | apply At.ite | apply At.next | apply At.some | exact At.none
    | dsimp -zeta only [At.mkFst, At.mkSnd] | apply At.foldl | apply At.getD | apply At.fst | apply At.snd
    | ((conv => enter [3, 20]) <;> apply At.upd <;> first | exact .inl ‹_› | exact .inr rfl | skip)
    | ((conv => enter [3, 20]) <;> apply At.updCore) | split | exact At.ofMkFst ‹_› | exact At.ofMkSnd ‹_›
    | refine At.ofNext (by assumption) ?_ | refine At.ofFst (by assumption) ?_ | refine At.ofSnd (by assumption) ?_
    | refine At.ofOpt (by assumption) ?_ | refine At.ofOptSnd (by assumption) ?_ | refine At.ofOptFst (by assumption) ?_
    | refine At.ofOptSnd2 (by assumption) ?_ | apply At.mapAny | dsimp +zetaDelta only)

theorem State.dropSnapshot_keeps {P : Part → Prop} {s₀ s : State} (tier_ : P .tier) (half : Nat) (hs : At (Keeps P s₀) It s) : At (Keeps P
    s₀) It (State.dropSnapshot s half) := by
  unfold State.dropSnapshot
  with_reducible repeat' (first
    | assumption | (intro x; refine At.cut x ?_ ?_; rotate_left; intro _; clear_value x; rotate_left; unfold x) | intro _ | lift_lets
    | apply State.setTile_keeps | apply State.setEng_keeps | apply At.ite | apply At.next | apply At.some | exact At.none
    | dsimp -zeta only [At.mkFst, At.mkSnd] | apply At.foldl | apply At.getD | apply At.fst | apply At.snd
    | ((conv => enter [3, 20]) <;> apply At.upd <;> first | exact .inl ‹_› | exact .inr rfl | skip)
    | ((conv => enter [3, 20]) <;> apply At.updCore) | split | exact At.ofMkFst ‹_› | exact At.ofMkSnd ‹_›
    | refine At.ofNext (by assumption) ?_ | refine At.ofFst (by assumption) ?_ | refine At.ofSnd (by assumption) ?_
    | refine At.ofOpt (by assumption) ?_ | refine At.ofOptSnd (by assumption) ?_ | refine At.ofOptFst (by assumption) ?_
    | refine At.ofOptSnd2 (by assumption) ?_ | apply At.mapAny | dsimp +zetaDelta only)

theorem State.dropSnapshots_keeps {P : Part → Prop} {s₀ s : State} (tier_ : P .tier) (hs : At (Keeps P s₀) It s) : At (Keeps P s₀) It
    (State.dropSnapshots s) := by
  unfold State.dropSnapshots
  with_reducible repeat' (first
    | assumption | (intro x; refine At.cut x ?_ ?_; rotate_left; intro _; clear_value x; rotate_left; unfold x) | intro _ | lift_lets
    | apply State.dropSnapshot_keeps | apply At.ite | apply At.next | apply At.some | exact At.none
    | dsimp -zeta only [At.mkFst, At.mkSnd] | apply At.foldl | apply At.getD | apply At.fst | apply At.snd
    | ((conv => enter [3, 20]) <;> apply At.upd <;> first | exact .inl ‹_› | exact .inr rfl | skip)
    | ((conv => enter [3, 20]) <;> apply At.updCore) | split | exact At.ofMkFst ‹_› | exact At.ofMkSnd ‹_›
    | refine At.ofNext (by assumption) ?_ | refine At.ofFst (by assumption) ?_ | refine At.ofSnd (by assumption) ?_
    | refine At.ofOpt (by assumption) ?_ | refine At.ofOptSnd (by assumption) ?_ | refine At.ofOptFst (by assumption) ?_
    | refine At.ofOptSnd2 (by assumption) ?_ | apply At.mapAny | dsimp +zetaDelta only)

theorem State.ckAbort_keeps {P : Part → Prop} {s₀ s : State} (dict_ : P .dict) (mgmt_ : P .mgmt) (stn_ : P .stn) (tier_ : P .tier) (ck_ : P
    .ck) (cause : Nat) (hs : At (Keeps P s₀) It s) : At (Keeps P s₀) It (State.ckAbort s cause) := by
  unfold State.ckAbort
  with_reducible repeat' (first
    | assumption | (intro x; refine At.cut x ?_ ?_; rotate_left; intro _; clear_value x; rotate_left; unfold x) | intro _ | lift_lets
    | apply State.setObj_keeps | apply State.bump_keeps | apply State.catMark_keeps | apply State.ckTell_keeps
    | apply State.dropSnapshots_keeps | apply At.ite | apply At.next | apply At.some | exact At.none
    | dsimp -zeta only [At.mkFst, At.mkSnd] | apply At.foldl | apply At.getD | apply At.fst | apply At.snd
    | ((conv => enter [3, 20]) <;> apply At.upd <;> first | exact .inl ‹_› | exact .inr rfl | skip)
    | ((conv => enter [3, 20]) <;> apply At.updCore) | split | exact At.ofMkFst ‹_› | exact At.ofMkSnd ‹_›
    | refine At.ofNext (by assumption) ?_ | refine At.ofFst (by assumption) ?_ | refine At.ofSnd (by assumption) ?_
    | refine At.ofOpt (by assumption) ?_ | refine At.ofOptSnd (by assumption) ?_ | refine At.ofOptFst (by assumption) ?_
    | refine At.ofOptSnd2 (by assumption) ?_ | apply At.mapAny | dsimp +zetaDelta only)

theorem State.snapStart_keeps {P : Part → Prop} {s₀ s : State} (dict_ : P .dict) (mgmt_ : P .mgmt) (stn_ : P .stn) (tier_ : P .tier) (ck_ :
    P .ck) (hs : At (Keeps P s₀) It s) : At (Keeps P s₀) It (State.snapStart s) := by
  unfold State.snapStart
  with_reducible repeat' (first
    | assumption | (intro x; refine At.cut x ?_ ?_; rotate_left; intro _; clear_value x; rotate_left; unfold x) | intro _ | lift_lets
    | apply State.setObj_keeps | apply State.setEng_keeps | apply State.setCatalogue_keeps | apply State.ckTell_keeps
    | apply State.ckAbort_keeps | apply At.ite | apply At.next | apply At.some | exact At.none | dsimp -zeta only [At.mkFst, At.mkSnd]
    | apply At.foldl | apply At.getD | apply At.fst | apply At.snd
    | ((conv => enter [3, 20]) <;> apply At.upd <;> first | exact .inl ‹_› | exact .inr rfl | skip)
    | ((conv => enter [3, 20]) <;> apply At.updCore) | split | exact At.ofMkFst ‹_› | exact At.ofMkSnd ‹_›
    | refine At.ofNext (by assumption) ?_ | refine At.ofFst (by assumption) ?_ | refine At.ofSnd (by assumption) ?_
    | refine At.ofOpt (by assumption) ?_ | refine At.ofOptSnd (by assumption) ?_ | refine At.ofOptFst (by assumption) ?_
    | refine At.ofOptSnd2 (by assumption) ?_ | apply At.mapAny | dsimp +zetaDelta only)

/-! ### Machine/FabOps.lean -/

theorem State.peersSeen_keeps {P : Part → Prop} {s₀ s : State} (dict_ : P .dict) (mgmt_ : P .mgmt) (stn_ : P .stn) (fab_ : P .fab) (hs : At
    (Keeps P s₀) It s) : At (Keeps P s₀) It (State.peersSeen s) := by
  unfold State.peersSeen
  with_reducible repeat' (first
    | assumption | (intro x; refine At.cut x ?_ ?_; rotate_left; intro _; clear_value x; rotate_left; unfold x) | intro _ | lift_lets
    | apply State.tileEvent_keeps | apply At.ite | apply At.next | apply At.some | exact At.none | dsimp -zeta only [At.mkFst, At.mkSnd]
    | apply At.foldl | apply At.getD | apply At.fst | apply At.snd
    | ((conv => enter [3, 20]) <;> apply At.upd <;> first | exact .inl ‹_› | exact .inr rfl | skip)
    | ((conv => enter [3, 20]) <;> apply At.updCore) | split | exact At.ofMkFst ‹_› | exact At.ofMkSnd ‹_›
    | refine At.ofNext (by assumption) ?_ | refine At.ofFst (by assumption) ?_ | refine At.ofSnd (by assumption) ?_
    | refine At.ofOpt (by assumption) ?_ | refine At.ofOptSnd (by assumption) ?_ | refine At.ofOptFst (by assumption) ?_
    | refine At.ofOptSnd2 (by assumption) ?_ | apply At.mapAny | dsimp +zetaDelta only)

theorem State.sendCodeword_keeps {P : Part → Prop} {s₀ s : State} (fab_ : P .fab) (p : Nat) (hs : At (Keeps P s₀) It s) : At (Keeps P s₀)
    It (State.sendCodeword s p) := by
  unfold State.sendCodeword
  with_reducible repeat' (first
    | assumption | (intro x; refine At.cut x ?_ ?_; rotate_left; intro _; clear_value x; rotate_left; unfold x) | intro _ | lift_lets
    | apply State.setPort_keeps | apply At.ite | apply At.next | apply At.some | exact At.none | dsimp -zeta only [At.mkFst, At.mkSnd]
    | apply At.foldl | apply At.getD | apply At.fst | apply At.snd
    | ((conv => enter [3, 20]) <;> apply At.upd <;> first | exact .inl ‹_› | exact .inr rfl | skip)
    | ((conv => enter [3, 20]) <;> apply At.updCore) | split | exact At.ofMkFst ‹_› | exact At.ofMkSnd ‹_›
    | refine At.ofNext (by assumption) ?_ | refine At.ofFst (by assumption) ?_ | refine At.ofSnd (by assumption) ?_
    | refine At.ofOpt (by assumption) ?_ | refine At.ofOptSnd (by assumption) ?_ | refine At.ofOptFst (by assumption) ?_
    | refine At.ofOptSnd2 (by assumption) ?_ | apply At.mapAny | dsimp +zetaDelta only)

theorem State.fabSendBy_keeps {P : Part → Prop} {s₀ s : State} (fab_ : P .fab) (port : Nat) (dst : Nat) (slice : Nat) (tag : Nat) (body :
    FabBody) (hs : At (Keeps P s₀) It s) : At (Keeps P s₀) It (State.fabSendBy s port dst slice tag body) := by
  unfold State.fabSendBy
  with_reducible repeat' (first
    | assumption | (intro x; refine At.cut x ?_ ?_; rotate_left; intro _; clear_value x; rotate_left; unfold x) | intro _ | lift_lets
    | apply State.sendCodeword_keeps | apply At.ite | apply At.next | apply At.some | exact At.none
    | dsimp -zeta only [At.mkFst, At.mkSnd] | apply At.foldl | apply At.getD | apply At.fst | apply At.snd
    | ((conv => enter [3, 20]) <;> apply At.upd <;> first | exact .inl ‹_› | exact .inr rfl | skip)
    | ((conv => enter [3, 20]) <;> apply At.updCore) | split | exact At.ofMkFst ‹_› | exact At.ofMkSnd ‹_›
    | refine At.ofNext (by assumption) ?_ | refine At.ofFst (by assumption) ?_ | refine At.ofSnd (by assumption) ?_
    | refine At.ofOpt (by assumption) ?_ | refine At.ofOptSnd (by assumption) ?_ | refine At.ofOptFst (by assumption) ?_
    | refine At.ofOptSnd2 (by assumption) ?_ | apply At.mapAny | dsimp +zetaDelta only)

theorem State.fabSend_keeps {P : Part → Prop} {s₀ s : State} (fab_ : P .fab) (dst : Nat) (slice : Nat) (body : FabBody) (hs : At (Keeps P
    s₀) It s) : At (Keeps P s₀) It (State.fabSend s dst slice body) := by
  unfold State.fabSend
  with_reducible repeat' (first
    | assumption | (intro x; refine At.cut x ?_ ?_; rotate_left; intro _; clear_value x; rotate_left; unfold x) | intro _ | lift_lets
    | apply State.fabSendBy_keeps | apply At.ite | apply At.next | apply At.some | exact At.none | dsimp -zeta only [At.mkFst, At.mkSnd]
    | apply At.foldl | apply At.getD | apply At.fst | apply At.snd
    | ((conv => enter [3, 20]) <;> apply At.upd <;> first | exact .inl ‹_› | exact .inr rfl | skip)
    | ((conv => enter [3, 20]) <;> apply At.updCore) | split | exact At.ofMkFst ‹_› | exact At.ofMkSnd ‹_›
    | refine At.ofNext (by assumption) ?_ | refine At.ofFst (by assumption) ?_ | refine At.ofSnd (by assumption) ?_
    | refine At.ofOpt (by assumption) ?_ | refine At.ofOptSnd (by assumption) ?_ | refine At.ofOptFst (by assumption) ?_
    | refine At.ofOptSnd2 (by assumption) ?_ | apply At.mapAny | dsimp +zetaDelta only)

theorem State.fabReply_keeps {P : Part → Prop} {s₀ s : State} (fab_ : P .fab) (h : FabHdr) (body : FabBody) (hs : At (Keeps P s₀) It s) :
    At (Keeps P s₀) It (State.fabReply s h body) := by
  unfold State.fabReply
  with_reducible repeat' (first
    | assumption | (intro x; refine At.cut x ?_ ?_; rotate_left; intro _; clear_value x; rotate_left; unfold x) | intro _ | lift_lets
    | apply State.fabSendBy_keeps | apply At.ite | apply At.next | apply At.some | exact At.none | dsimp -zeta only [At.mkFst, At.mkSnd]
    | apply At.foldl | apply At.getD | apply At.fst | apply At.snd
    | ((conv => enter [3, 20]) <;> apply At.upd <;> first | exact .inl ‹_› | exact .inr rfl | skip)
    | ((conv => enter [3, 20]) <;> apply At.updCore) | split | exact At.ofMkFst ‹_› | exact At.ofMkSnd ‹_›
    | refine At.ofNext (by assumption) ?_ | refine At.ofFst (by assumption) ?_ | refine At.ofSnd (by assumption) ?_
    | refine At.ofOpt (by assumption) ?_ | refine At.ofOptSnd (by assumption) ?_ | refine At.ofOptFst (by assumption) ?_
    | refine At.ofOptSnd2 (by assumption) ?_ | apply At.mapAny | dsimp +zetaDelta only)

theorem State.routed_keeps {P : Part → Prop} {s₀ s : State} (dict_ : P .dict) (fb_ : P .fb) (fab_ : P .fab) (free_ : P .free) (h : FabHdr)
    (body : FabBody) (replies : Bool) (follows : Bool) (go : State → State) (hgo : ∀ u, At (Keeps P s₀) It u → At (Keeps P s₀) It (go u))
    (hs : At (Keeps P s₀) It s) : At (Keeps P s₀) It (State.routed s h body replies follows go) := by
  unfold State.routed
  with_reducible repeat' (first
    | assumption | (intro x; refine At.cut x ?_ ?_; rotate_left; intro _; clear_value x; rotate_left; unfold x) | intro _ | lift_lets
    | apply State.bump_keeps | apply State.reportOpen_keeps | apply State.sendCodeword_keeps | apply State.fabReply_keeps | apply hgo
    | apply At.ite | apply At.next | apply At.some | exact At.none | dsimp -zeta only [At.mkFst, At.mkSnd] | apply At.foldl
    | apply At.getD | apply At.fst | apply At.snd
    | ((conv => enter [3, 20]) <;> apply At.upd <;> first | exact .inl ‹_› | exact .inr rfl | skip)
    | ((conv => enter [3, 20]) <;> apply At.updCore) | split | exact At.ofMkFst ‹_› | exact At.ofMkSnd ‹_›
    | refine At.ofNext (by assumption) ?_ | refine At.ofFst (by assumption) ?_ | refine At.ofSnd (by assumption) ?_
    | refine At.ofOpt (by assumption) ?_ | refine At.ofOptSnd (by assumption) ?_ | refine At.ofOptFst (by assumption) ?_
    | refine At.ofOptSnd2 (by assumption) ?_ | apply At.mapAny | dsimp +zetaDelta only)

theorem State.platView_keeps {P : Part → Prop} {s₀ s : State} (dict_ : P .dict) (hs : At (Keeps P s₀) It s) : At (Keeps P s₀) It
    (State.platView s) := by
  unfold State.platView
  with_reducible repeat' (first
    | assumption | (intro x; refine At.cut x ?_ ?_; rotate_left; intro _; clear_value x; rotate_left; unfold x) | intro _ | lift_lets
    | apply State.setObj_keeps | apply At.ite | apply At.next | apply At.some | exact At.none | dsimp -zeta only [At.mkFst, At.mkSnd]
    | apply At.foldl | apply At.getD | apply At.fst | apply At.snd
    | ((conv => enter [3, 20]) <;> apply At.upd <;> first | exact .inl ‹_› | exact .inr rfl | skip)
    | ((conv => enter [3, 20]) <;> apply At.updCore) | split | exact At.ofMkFst ‹_› | exact At.ofMkSnd ‹_›
    | refine At.ofNext (by assumption) ?_ | refine At.ofFst (by assumption) ?_ | refine At.ofSnd (by assumption) ?_
    | refine At.ofOpt (by assumption) ?_ | refine At.ofOptSnd (by assumption) ?_ | refine At.ofOptFst (by assumption) ?_
    | refine At.ofOptSnd2 (by assumption) ?_ | apply At.mapAny | dsimp +zetaDelta only)

theorem State.loseLease_keeps {P : Part → Prop} {s₀ s : State} (dict_ : P .dict) (fb_ : P .fb) (stn_ : P .stn) (ses_ : P .ses) (tier_ : P
    .tier) (srch_ : P .srch) (free_ : P .free) (key : Nat) (hs : At (Keeps P s₀) It s) : At (Keeps P s₀) It (State.loseLease s key) := by
  unfold State.loseLease
  with_reducible repeat' (first
    | assumption | (intro x; refine At.cut x ?_ ?_; rotate_left; intro _; clear_value x; rotate_left; unfold x) | intro _ | lift_lets
    | apply State.loseTile_keeps | apply At.ite | apply At.next | apply At.some | exact At.none | dsimp -zeta only [At.mkFst, At.mkSnd]
    | apply At.foldl | apply At.getD | apply At.fst | apply At.snd
    | ((conv => enter [3, 20]) <;> apply At.upd <;> first | exact .inl ‹_› | exact .inr rfl | skip)
    | ((conv => enter [3, 20]) <;> apply At.updCore) | split | exact At.ofMkFst ‹_› | exact At.ofMkSnd ‹_›
    | refine At.ofNext (by assumption) ?_ | refine At.ofFst (by assumption) ?_ | refine At.ofSnd (by assumption) ?_
    | refine At.ofOpt (by assumption) ?_ | refine At.ofOptSnd (by assumption) ?_ | refine At.ofOptFst (by assumption) ?_
    | refine At.ofOptSnd2 (by assumption) ?_ | apply At.mapAny | dsimp +zetaDelta only)

theorem State.dropLease_keeps {P : Part → Prop} {s₀ s : State} (dict_ : P .dict) (fab_ : P .fab) (key : Nat) (hs : At (Keeps P s₀) It s) :
    At (Keeps P s₀) It (State.dropLease s key) := by
  unfold State.dropLease
  with_reducible repeat' (first
    | assumption | (intro x; refine At.cut x ?_ ?_; rotate_left; intro _; clear_value x; rotate_left; unfold x) | intro _ | lift_lets
    | apply State.setObj_keeps | apply At.ite | apply At.next | apply At.some | exact At.none | dsimp -zeta only [At.mkFst, At.mkSnd]
    | apply At.foldl | apply At.getD | apply At.fst | apply At.snd
    | ((conv => enter [3, 20]) <;> apply At.upd <;> first | exact .inl ‹_› | exact .inr rfl | skip)
    | ((conv => enter [3, 20]) <;> apply At.updCore) | split | exact At.ofMkFst ‹_› | exact At.ofMkSnd ‹_›
    | refine At.ofNext (by assumption) ?_ | refine At.ofFst (by assumption) ?_ | refine At.ofSnd (by assumption) ?_
    | refine At.ofOpt (by assumption) ?_ | refine At.ofOptSnd (by assumption) ?_ | refine At.ofOptFst (by assumption) ?_
    | refine At.ofOptSnd2 (by assumption) ?_ | apply At.mapAny | dsimp +zetaDelta only)

theorem State.deviceLost_keeps {P : Part → Prop} {s₀ s : State} (dict_ : P .dict) (mgmt_ : P .mgmt) (fb_ : P .fb) (stn_ : P .stn) (ses_ : P
    .ses) (tier_ : P .tier) (trv_ : P .trv) (srch_ : P .srch) (ck_ : P .ck) (fab_ : P .fab) (free_ : P .free) (d : Nat) (hs : At (Keeps P
    s₀) It s) : At (Keeps P s₀) It (State.deviceLost s d) := by
  unfold State.deviceLost
  with_reducible repeat' (first
    | assumption | (intro x; refine At.cut x ?_ ?_; rotate_left; intro _; clear_value x; rotate_left; unfold x) | intro _ | lift_lets
    | apply State.ckAbort_keeps | apply State.loseLease_keeps | apply State.dropLease_keeps | apply At.ite | apply At.next | apply At.some
    | exact At.none | dsimp -zeta only [At.mkFst, At.mkSnd] | apply At.foldl | apply At.getD | apply At.fst | apply At.snd
    | ((conv => enter [3, 20]) <;> apply At.upd <;> first | exact .inl ‹_› | exact .inr rfl | skip)
    | ((conv => enter [3, 20]) <;> apply At.updCore) | split | exact At.ofMkFst ‹_› | exact At.ofMkSnd ‹_›
    | refine At.ofNext (by assumption) ?_ | refine At.ofFst (by assumption) ?_ | refine At.ofSnd (by assumption) ?_
    | refine At.ofOpt (by assumption) ?_ | refine At.ofOptSnd (by assumption) ?_ | refine At.ofOptFst (by assumption) ?_
    | refine At.ofOptSnd2 (by assumption) ?_ | apply At.mapAny | dsimp +zetaDelta only)

theorem State.withdrawFrom_keeps {P : Part → Prop} {s₀ s : State} (dict_ : P .dict) (ses_ : P .ses) (shape_ : P .shape) (trv_ : P .trv) (f
    : Nat) (hs : At (Keeps P s₀) It s) : At (Keeps P s₀) It (State.withdrawFrom s f) := by
  unfold State.withdrawFrom
  with_reducible repeat' (first
    | assumption | (intro x; refine At.cut x ?_ ?_; rotate_left; intro _; clear_value x; rotate_left; unfold x) | intro _ | lift_lets
    | apply State.bump_keeps | apply State.withdraw_keeps | apply At.ite | apply At.next | apply At.some | exact At.none
    | dsimp -zeta only [At.mkFst, At.mkSnd] | apply At.foldl | apply At.getD | apply At.fst | apply At.snd
    | ((conv => enter [3, 20]) <;> apply At.upd <;> first | exact .inl ‹_› | exact .inr rfl | skip)
    | ((conv => enter [3, 20]) <;> apply At.updCore) | split | exact At.ofMkFst ‹_› | exact At.ofMkSnd ‹_›
    | refine At.ofNext (by assumption) ?_ | refine At.ofFst (by assumption) ?_ | refine At.ofSnd (by assumption) ?_
    | refine At.ofOpt (by assumption) ?_ | refine At.ofOptSnd (by assumption) ?_ | refine At.ofOptFst (by assumption) ?_
    | refine At.ofOptSnd2 (by assumption) ?_ | apply At.mapAny | dsimp +zetaDelta only)

theorem State.refuseHeld_keeps {P : Part → Prop} {s₀ s : State} (fab_ : P .fab) (h : HeldReq) (status : Nat) (hs : At (Keeps P s₀) It s) :
    At (Keeps P s₀) It (State.refuseHeld s h status) := by
  unfold State.refuseHeld
  with_reducible repeat' (first
    | assumption | (intro x; refine At.cut x ?_ ?_; rotate_left; intro _; clear_value x; rotate_left; unfold x) | intro _ | lift_lets
    | apply State.fabReply_keeps | apply At.ite | apply At.next | apply At.some | exact At.none | dsimp -zeta only [At.mkFst, At.mkSnd]
    | apply At.foldl | apply At.getD | apply At.fst | apply At.snd
    | ((conv => enter [3, 20]) <;> apply At.upd <;> first | exact .inl ‹_› | exact .inr rfl | skip)
    | ((conv => enter [3, 20]) <;> apply At.updCore) | split | exact At.ofMkFst ‹_› | exact At.ofMkSnd ‹_›
    | refine At.ofNext (by assumption) ?_ | refine At.ofFst (by assumption) ?_ | refine At.ofSnd (by assumption) ?_
    | refine At.ofOpt (by assumption) ?_ | refine At.ofOptSnd (by assumption) ?_ | refine At.ofOptFst (by assumption) ?_
    | refine At.ofOptSnd2 (by assumption) ?_ | apply At.mapAny | dsimp +zetaDelta only)

theorem State.platAdopt_keeps {P : Part → Prop} {s₀ s : State} (dict_ : P .dict) (mgmt_ : P .mgmt) (fb_ : P .fb) (stn_ : P .stn) (ses_ : P
    .ses) (tier_ : P .tier) (shape_ : P .shape) (trv_ : P .trv) (srch_ : P .srch) (ck_ : P .ck) (fab_ : P .fab) (pwr_ : P .pwr) (free_ : P
    .free) (img : PlatImage) (hs : At (Keeps P s₀) It s) : At (Keeps P s₀) It (State.platAdopt s img) := by
  unfold State.platAdopt
  with_reducible repeat' (first
    | assumption | (intro x; refine At.cut x ?_ ?_; rotate_left; intro _; clear_value x; rotate_left; unfold x) | intro _ | lift_lets
    | apply State.setObj_keeps | apply State.bump_keeps | apply State.tileEvent_keeps | apply State.pulse_keeps
    | apply State.ckAbort_keeps | apply State.peersSeen_keeps | apply State.platView_keeps | apply State.deviceLost_keeps
    | apply State.withdrawFrom_keeps | apply At.ite | apply At.next | apply At.some | exact At.none
    | dsimp -zeta only [At.mkFst, At.mkSnd] | apply At.foldl | apply At.getD | apply At.fst | apply At.snd
    | ((conv => enter [3, 20]) <;> apply At.upd <;> first | exact .inl ‹_› | exact .inr rfl | skip)
    | ((conv => enter [3, 20]) <;> apply At.updCore) | split | exact At.ofMkFst ‹_› | exact At.ofMkSnd ‹_›
    | refine At.ofNext (by assumption) ?_ | refine At.ofFst (by assumption) ?_ | refine At.ofSnd (by assumption) ?_
    | refine At.ofOpt (by assumption) ?_ | refine At.ofOptSnd (by assumption) ?_ | refine At.ofOptFst (by assumption) ?_
    | refine At.ofOptSnd2 (by assumption) ?_ | apply At.mapAny | dsimp +zetaDelta only)

theorem State.openVote_keeps {P : Part → Prop} {s₀ s : State} (dict_ : P .dict) (mgmt_ : P .mgmt) (fb_ : P .fb) (stn_ : P .stn) (ses_ : P
    .ses) (tier_ : P .tier) (shape_ : P .shape) (trv_ : P .trv) (srch_ : P .srch) (ck_ : P .ck) (fab_ : P .fab) (pwr_ : P .pwr) (free_ : P
    .free) (img : PlatImage) (w : Option Writer) (hs : At (Keeps P s₀) It s) : At (Keeps P s₀) It (State.openVote s img w) := by
  unfold State.openVote
  with_reducible repeat' (first
    | assumption | (intro x; refine At.cut x ?_ ?_; rotate_left; intro _; clear_value x; rotate_left; unfold x) | intro _ | lift_lets
    | apply State.fabSend_keeps | apply State.platAdopt_keeps | apply At.ite | apply At.next | apply At.some | exact At.none
    | dsimp -zeta only [At.mkFst, At.mkSnd] | apply At.foldl | apply At.getD | apply At.fst | apply At.snd
    | ((conv => enter [3, 20]) <;> apply At.upd <;> first | exact .inl ‹_› | exact .inr rfl | skip)
    | ((conv => enter [3, 20]) <;> apply At.updCore) | split | exact At.ofMkFst ‹_› | exact At.ofMkSnd ‹_›
    | refine At.ofNext (by assumption) ?_ | refine At.ofFst (by assumption) ?_ | refine At.ofSnd (by assumption) ?_
    | refine At.ofOpt (by assumption) ?_ | refine At.ofOptSnd (by assumption) ?_ | refine At.ofOptFst (by assumption) ?_
    | refine At.ofOptSnd2 (by assumption) ?_ | apply At.mapAny | dsimp +zetaDelta only)

theorem State.proposeDevices_keeps {P : Part → Prop} {s₀ s : State} (dict_ : P .dict) (mgmt_ : P .mgmt) (fb_ : P .fb) (stn_ : P .stn) (ses_
    : P .ses) (tier_ : P .tier) (shape_ : P .shape) (trv_ : P .trv) (srch_ : P .srch) (ck_ : P .ck) (fab_ : P .fab) (pwr_ : P .pwr) (free_
    : P .free) (f : List PlatDevice → List PlatDevice) (hs : At (Keeps P s₀) It s) : At (Keeps P s₀) It (State.proposeDevices s f) := by
  unfold State.proposeDevices
  with_reducible repeat' (first
    | assumption | (intro x; refine At.cut x ?_ ?_; rotate_left; intro _; clear_value x; rotate_left; unfold x) | intro _ | lift_lets
    | apply State.openVote_keeps | apply At.ite | apply At.next | apply At.some | exact At.none | dsimp -zeta only [At.mkFst, At.mkSnd]
    | apply At.foldl | apply At.getD | apply At.fst | apply At.snd
    | ((conv => enter [3, 20]) <;> apply At.upd <;> first | exact .inl ‹_› | exact .inr rfl | skip)
    | ((conv => enter [3, 20]) <;> apply At.updCore) | split | exact At.ofMkFst ‹_› | exact At.ofMkSnd ‹_›
    | refine At.ofNext (by assumption) ?_ | refine At.ofFst (by assumption) ?_ | refine At.ofSnd (by assumption) ?_
    | refine At.ofOpt (by assumption) ?_ | refine At.ofOptSnd (by assumption) ?_ | refine At.ofOptFst (by assumption) ?_
    | refine At.ofOptSnd2 (by assumption) ?_ | apply At.mapAny | dsimp +zetaDelta only)

theorem State.admitJoins_keeps {P : Part → Prop} {s₀ s : State} (dict_ : P .dict) (mgmt_ : P .mgmt) (fb_ : P .fb) (stn_ : P .stn) (ses_ : P
    .ses) (tier_ : P .tier) (shape_ : P .shape) (trv_ : P .trv) (srch_ : P .srch) (ck_ : P .ck) (fab_ : P .fab) (pwr_ : P .pwr) (free_ : P
    .free) (hs : At (Keeps P s₀) It s) : At (Keeps P s₀) It (State.admitJoins s) := by
  unfold State.admitJoins
  with_reducible repeat' (first
    | assumption | (intro x; refine At.cut x ?_ ?_; rotate_left; intro _; clear_value x; rotate_left; unfold x) | intro _ | lift_lets
    | apply State.proposeDevices_keeps | apply At.ite | apply At.next | apply At.some | exact At.none
    | dsimp -zeta only [At.mkFst, At.mkSnd] | apply At.foldl | apply At.getD | apply At.fst | apply At.snd
    | ((conv => enter [3, 20]) <;> apply At.upd <;> first | exact .inl ‹_› | exact .inr rfl | skip)
    | ((conv => enter [3, 20]) <;> apply At.updCore) | split | exact At.ofMkFst ‹_› | exact At.ofMkSnd ‹_›
    | refine At.ofNext (by assumption) ?_ | refine At.ofFst (by assumption) ?_ | refine At.ofSnd (by assumption) ?_
    | refine At.ofOpt (by assumption) ?_ | refine At.ofOptSnd (by assumption) ?_ | refine At.ofOptFst (by assumption) ?_
    | refine At.ofOptSnd2 (by assumption) ?_ | apply At.mapAny | dsimp +zetaDelta only)

theorem State.markLost_keeps {P : Part → Prop} {s₀ s : State} (dict_ : P .dict) (mgmt_ : P .mgmt) (fb_ : P .fb) (stn_ : P .stn) (ses_ : P
    .ses) (tier_ : P .tier) (shape_ : P .shape) (trv_ : P .trv) (srch_ : P .srch) (ck_ : P .ck) (fab_ : P .fab) (pwr_ : P .pwr) (free_ : P
    .free) (hs : At (Keeps P s₀) It s) : At (Keeps P s₀) It (State.markLost s) := by
  unfold State.markLost
  with_reducible repeat' (first
    | assumption | (intro x; refine At.cut x ?_ ?_; rotate_left; intro _; clear_value x; rotate_left; unfold x) | intro _ | lift_lets
    | apply State.proposeDevices_keeps | apply At.ite | apply At.next | apply At.some | exact At.none
    | dsimp -zeta only [At.mkFst, At.mkSnd] | apply At.foldl | apply At.getD | apply At.fst | apply At.snd
    | ((conv => enter [3, 20]) <;> apply At.upd <;> first | exact .inl ‹_› | exact .inr rfl | skip)
    | ((conv => enter [3, 20]) <;> apply At.updCore) | split | exact At.ofMkFst ‹_› | exact At.ofMkSnd ‹_›
    | refine At.ofNext (by assumption) ?_ | refine At.ofFst (by assumption) ?_ | refine At.ofSnd (by assumption) ?_
    | refine At.ofOpt (by assumption) ?_ | refine At.ofOptSnd (by assumption) ?_ | refine At.ofOptFst (by assumption) ?_
    | refine At.ofOptSnd2 (by assumption) ?_ | apply At.mapAny | dsimp +zetaDelta only)

theorem State.noteReport_keeps {P : Part → Prop} {s₀ s : State} (dict_ : P .dict) (mgmt_ : P .mgmt) (fb_ : P .fb) (stn_ : P .stn) (ses_ : P
    .ses) (tier_ : P .tier) (shape_ : P .shape) (trv_ : P .trv) (srch_ : P .srch) (ck_ : P .ck) (fab_ : P .fab) (pwr_ : P .pwr) (free_ : P
    .free) (src : Nat) (devices : List Nat) (hs : At (Keeps P s₀) It s) : At (Keeps P s₀) It (State.noteReport s src devices) := by
  unfold State.noteReport
  with_reducible repeat' (first
    | assumption | (intro x; refine At.cut x ?_ ?_; rotate_left; intro _; clear_value x; rotate_left; unfold x) | intro _ | lift_lets
    | apply State.proposeDevices_keeps | apply State.markLost_keeps | apply At.ite | apply At.next | apply At.some | exact At.none
    | dsimp -zeta only [At.mkFst, At.mkSnd] | apply At.foldl | apply At.getD | apply At.fst | apply At.snd
    | ((conv => enter [3, 20]) <;> apply At.upd <;> first | exact .inl ‹_› | exact .inr rfl | skip)
    | ((conv => enter [3, 20]) <;> apply At.updCore) | split | exact At.ofMkFst ‹_› | exact At.ofMkSnd ‹_›
    | refine At.ofNext (by assumption) ?_ | refine At.ofFst (by assumption) ?_ | refine At.ofSnd (by assumption) ?_
    | refine At.ofOpt (by assumption) ?_ | refine At.ofOptSnd (by assumption) ?_ | refine At.ofOptFst (by assumption) ?_
    | refine At.ofOptSnd2 (by assumption) ?_ | apply At.mapAny | dsimp +zetaDelta only)

theorem State.reportPeers_keeps {P : Part → Prop} {s₀ s : State} (dict_ : P .dict) (mgmt_ : P .mgmt) (fb_ : P .fb) (stn_ : P .stn) (ses_ :
    P .ses) (tier_ : P .tier) (shape_ : P .shape) (trv_ : P .trv) (srch_ : P .srch) (ck_ : P .ck) (fab_ : P .fab) (pwr_ : P .pwr) (free_ :
    P .free) (devices : List Nat) (hs : At (Keeps P s₀) It s) : At (Keeps P s₀) It (State.reportPeers s devices) := by
  unfold State.reportPeers
  with_reducible repeat' (first
    | assumption | (intro x; refine At.cut x ?_ ?_; rotate_left; intro _; clear_value x; rotate_left; unfold x) | intro _ | lift_lets
    | apply State.fabSend_keeps | apply State.noteReport_keeps | apply At.ite | apply At.next | apply At.some | exact At.none
    | dsimp -zeta only [At.mkFst, At.mkSnd] | apply At.foldl | apply At.getD | apply At.fst | apply At.snd
    | ((conv => enter [3, 20]) <;> apply At.upd <;> first | exact .inl ‹_› | exact .inr rfl | skip)
    | ((conv => enter [3, 20]) <;> apply At.updCore) | split | exact At.ofMkFst ‹_› | exact At.ofMkSnd ‹_›
    | refine At.ofNext (by assumption) ?_ | refine At.ofFst (by assumption) ?_ | refine At.ofSnd (by assumption) ?_
    | refine At.ofOpt (by assumption) ?_ | refine At.ofOptSnd (by assumption) ?_ | refine At.ofOptFst (by assumption) ?_
    | refine At.ofOptSnd2 (by assumption) ?_ | apply At.mapAny | dsimp +zetaDelta only)

theorem State.setRoute_keeps {P : Part → Prop} {s₀ s : State} (fab_ : P .fab) (e : RouteEntry) (hs : At (Keeps P s₀) It s) : At (Keeps P
    s₀) It (State.setRoute s e) := by
  unfold State.setRoute
  with_reducible repeat' (first
    | assumption | (intro x; refine At.cut x ?_ ?_; rotate_left; intro _; clear_value x; rotate_left; unfold x) | intro _ | lift_lets
    | apply At.ite | apply At.next | apply At.some | exact At.none | dsimp -zeta only [At.mkFst, At.mkSnd] | apply At.foldl
    | apply At.getD | apply At.fst | apply At.snd
    | ((conv => enter [3, 20]) <;> apply At.upd <;> first | exact .inl ‹_› | exact .inr rfl | skip)
    | ((conv => enter [3, 20]) <;> apply At.updCore) | split | exact At.ofMkFst ‹_› | exact At.ofMkSnd ‹_›
    | refine At.ofNext (by assumption) ?_ | refine At.ofFst (by assumption) ?_ | refine At.ofSnd (by assumption) ?_
    | refine At.ofOpt (by assumption) ?_ | refine At.ofOptSnd (by assumption) ?_ | refine At.ofOptFst (by assumption) ?_
    | refine At.ofOptSnd2 (by assumption) ?_ | apply At.mapAny | dsimp +zetaDelta only)

theorem State.relayOut_keeps {P : Part → Prop} {s₀ s : State} (dict_ : P .dict) (fb_ : P .fb) (stn_ : P .stn) (ses_ : P .ses) (tier_ : P
    .tier) (trv_ : P .trv) (srch_ : P .srch) (fab_ : P .fab) (hs : At (Keeps P s₀) It s) : At (Keeps P s₀) It (State.relayOut s) := by
  unfold State.relayOut
  with_reducible repeat' (first
    | assumption | (intro x; refine At.cut x ?_ ?_; rotate_left; intro _; clear_value x; rotate_left; unfold x) | intro _ | lift_lets
    | apply State.setStation_keeps | apply State.entryPosted_keeps | apply State.fabSend_keeps | apply At.ite | apply At.next
    | apply At.some | exact At.none | dsimp -zeta only [At.mkFst, At.mkSnd] | apply At.foldl | apply At.getD | apply At.fst | apply At.snd
    | ((conv => enter [3, 20]) <;> apply At.upd <;> first | exact .inl ‹_› | exact .inr rfl | skip)
    | ((conv => enter [3, 20]) <;> apply At.updCore) | split | exact At.ofMkFst ‹_› | exact At.ofMkSnd ‹_›
    | refine At.ofNext (by assumption) ?_ | refine At.ofFst (by assumption) ?_ | refine At.ofSnd (by assumption) ?_
    | refine At.ofOpt (by assumption) ?_ | refine At.ofOptSnd (by assumption) ?_ | refine At.ofOptFst (by assumption) ?_
    | refine At.ofOptSnd2 (by assumption) ?_ | apply At.mapAny | dsimp +zetaDelta only)

theorem State.remoteStation_keeps {P : Part → Prop} {s₀ s : State} (stn_ : P .stn) (fab_ : P .fab) (st : Nat) (host : Nat) (hs : At (Keeps
    P s₀) It s) : At (Keeps P s₀) It (State.remoteStation s st host) := by
  unfold State.remoteStation
  with_reducible repeat' (first
    | assumption | (intro x; refine At.cut x ?_ ?_; rotate_left; intro _; clear_value x; rotate_left; unfold x) | intro _ | lift_lets
    | apply State.setStation_keeps | apply At.ite | apply At.next | apply At.some | exact At.none | dsimp -zeta only [At.mkFst, At.mkSnd]
    | apply At.foldl | apply At.getD | apply At.fst | apply At.snd
    | ((conv => enter [3, 20]) <;> apply At.upd <;> first | exact .inl ‹_› | exact .inr rfl | skip)
    | ((conv => enter [3, 20]) <;> apply At.updCore) | split | exact At.ofMkFst ‹_› | exact At.ofMkSnd ‹_›
    | refine At.ofNext (by assumption) ?_ | refine At.ofFst (by assumption) ?_ | refine At.ofSnd (by assumption) ?_
    | refine At.ofOpt (by assumption) ?_ | refine At.ofOptSnd (by assumption) ?_ | refine At.ofOptFst (by assumption) ?_
    | refine At.ofOptSnd2 (by assumption) ?_ | apply At.mapAny | dsimp +zetaDelta only)

theorem State.handoverGo_keeps {P : Part → Prop} {s₀ s : State} (dict_ : P .dict) (fab_ : P .fab) (hs : At (Keeps P s₀) It s) : At (Keeps P
    s₀) It (State.handoverGo s) := by
  unfold State.handoverGo
  with_reducible repeat' (first
    | assumption | (intro x; refine At.cut x ?_ ?_; rotate_left; intro _; clear_value x; rotate_left; unfold x) | intro _ | lift_lets
    | apply State.addObj_keeps | apply State.fabSend_keeps | apply State.setRoute_keeps | apply At.ite | apply At.next | apply At.some
    | exact At.none | dsimp -zeta only [At.mkFst, At.mkSnd] | apply At.foldl | apply At.getD | apply At.fst | apply At.snd
    | ((conv => enter [3, 20]) <;> apply At.upd <;> first | exact .inl ‹_› | exact .inr rfl | skip)
    | ((conv => enter [3, 20]) <;> apply At.updCore) | split | exact At.ofMkFst ‹_› | exact At.ofMkSnd ‹_›
    | refine At.ofNext (by assumption) ?_ | refine At.ofFst (by assumption) ?_ | refine At.ofSnd (by assumption) ?_
    | refine At.ofOpt (by assumption) ?_ | refine At.ofOptSnd (by assumption) ?_ | refine At.ofOptFst (by assumption) ?_
    | refine At.ofOptSnd2 (by assumption) ?_ | apply At.mapAny | dsimp +zetaDelta only)

theorem State.platBoundary_keeps {P : Part → Prop} {s₀ s : State} (dict_ : P .dict) (tier_ : P .tier) (fab_ : P .fab) (f : Nat) (hs : At
    (Keeps P s₀) It s) : At (Keeps P s₀) It (State.platBoundary s f) := by
  unfold State.platBoundary
  with_reducible repeat' (first
    | assumption | (intro x; refine At.cut x ?_ ?_; rotate_left; intro _; clear_value x; rotate_left; unfold x) | intro _ | lift_lets
    | apply State.setObj_keeps | apply State.produce_keeps | apply State.fabSend_keeps | apply State.handoverGo_keeps | apply At.ite
    | apply At.next | apply At.some | exact At.none | dsimp -zeta only [At.mkFst, At.mkSnd] | apply At.foldl | apply At.getD
    | apply At.fst | apply At.snd | ((conv => enter [3, 20]) <;> apply At.upd <;> first | exact .inl ‹_› | exact .inr rfl | skip)
    | ((conv => enter [3, 20]) <;> apply At.updCore) | split | exact At.ofMkFst ‹_› | exact At.ofMkSnd ‹_›
    | refine At.ofNext (by assumption) ?_ | refine At.ofFst (by assumption) ?_ | refine At.ofSnd (by assumption) ?_
    | refine At.ofOpt (by assumption) ?_ | refine At.ofOptSnd (by assumption) ?_ | refine At.ofOptFst (by assumption) ?_
    | refine At.ofOptSnd2 (by assumption) ?_ | apply At.mapAny | dsimp +zetaDelta only)

theorem State.leaseExpire_keeps {P : Part → Prop} {s₀ s : State} (dict_ : P .dict) (fb_ : P .fb) (stn_ : P .stn) (ses_ : P .ses) (tier_ : P
    .tier) (srch_ : P .srch) (fab_ : P .fab) (free_ : P .free) (hs : At (Keeps P s₀) It s) : At (Keeps P s₀) It (State.leaseExpire s) := by
  unfold State.leaseExpire
  with_reducible repeat' (first
    | assumption | (intro x; refine At.cut x ?_ ?_; rotate_left; intro _; clear_value x; rotate_left; unfold x) | intro _ | lift_lets
    | apply State.loseLease_keeps | apply State.dropLease_keeps | apply At.ite | apply At.next | apply At.some | exact At.none
    | dsimp -zeta only [At.mkFst, At.mkSnd] | apply At.foldl | apply At.getD | apply At.fst | apply At.snd
    | ((conv => enter [3, 20]) <;> apply At.upd <;> first | exact .inl ‹_› | exact .inr rfl | skip)
    | ((conv => enter [3, 20]) <;> apply At.updCore) | split | exact At.ofMkFst ‹_› | exact At.ofMkSnd ‹_›
    | refine At.ofNext (by assumption) ?_ | refine At.ofFst (by assumption) ?_ | refine At.ofSnd (by assumption) ?_
    | refine At.ofOpt (by assumption) ?_ | refine At.ofOptSnd (by assumption) ?_ | refine At.ofOptFst (by assumption) ?_
    | refine At.ofOptSnd2 (by assumption) ?_ | apply At.mapAny | dsimp +zetaDelta only)

theorem State.handoverAck_keeps {P : Part → Prop} {s₀ s : State} (fab_ : P .fab) (hs : At (Keeps P s₀) It s) : At (Keeps P s₀) (Fst It)
    (State.handoverAck s) := by
  unfold State.handoverAck
  with_reducible repeat' (first
    | assumption | (intro x; refine At.cut x ?_ ?_; rotate_left; intro _; clear_value x; rotate_left; unfold x) | intro _ | lift_lets
    | apply State.fabSend_keeps | apply At.ite | apply At.next | apply At.some | exact At.none | dsimp -zeta only [At.mkFst, At.mkSnd]
    | apply At.foldl | apply At.getD | apply At.fst | apply At.snd
    | ((conv => enter [3, 20]) <;> apply At.upd <;> first | exact .inl ‹_› | exact .inr rfl | skip)
    | ((conv => enter [3, 20]) <;> apply At.updCore) | split | exact At.ofMkFst ‹_› | exact At.ofMkSnd ‹_›
    | refine At.ofNext (by assumption) ?_ | refine At.ofFst (by assumption) ?_ | refine At.ofSnd (by assumption) ?_
    | refine At.ofOpt (by assumption) ?_ | refine At.ofOptSnd (by assumption) ?_ | refine At.ofOptFst (by assumption) ?_
    | refine At.ofOptSnd2 (by assumption) ?_ | apply At.mapAny | dsimp +zetaDelta only)

theorem State.joinShares_keeps {P : Part → Prop} {s₀ s : State} (ses_ : P .ses) (shares : List (Nat × Nat)) (olds : SMap Nat) (hs : At
    (Keeps P s₀) It s) : At (Keeps P s₀) It (State.joinShares s shares olds) := by
  unfold State.joinShares
  with_reducible repeat' (first
    | assumption | (intro x; refine At.cut x ?_ ?_; rotate_left; intro _; clear_value x; rotate_left; unfold x) | intro _ | lift_lets
    | apply State.setSess_keeps | apply At.ite | apply At.next | apply At.some | exact At.none | dsimp -zeta only [At.mkFst, At.mkSnd]
    | apply At.foldl | apply At.getD | apply At.fst | apply At.snd
    | ((conv => enter [3, 20]) <;> apply At.upd <;> first | exact .inl ‹_› | exact .inr rfl | skip)
    | ((conv => enter [3, 20]) <;> apply At.updCore) | split | exact At.ofMkFst ‹_› | exact At.ofMkSnd ‹_›
    | refine At.ofNext (by assumption) ?_ | refine At.ofFst (by assumption) ?_ | refine At.ofSnd (by assumption) ?_
    | refine At.ofOpt (by assumption) ?_ | refine At.ofOptSnd (by assumption) ?_ | refine At.ofOptFst (by assumption) ?_
    | refine At.ofOptSnd2 (by assumption) ?_ | apply At.mapAny | dsimp +zetaDelta only)

theorem State.receiveSession_keeps {P : Part → Prop} {s₀ s : State} (dict_ : P .dict) (fb_ : P .fb) (ses_ : P .ses) (tier_ : P .tier)
    (srch_ : P .srch) (fab_ : P .fab) (free_ : P .free) (i : HandoverIn) (x : Session) (recs : List Rec) (hs : At (Keeps P s₀) It s) : At
    (Keeps P s₀) It (State.receiveSession s i x recs) := by
  unfold State.receiveSession
  with_reducible repeat' (first
    | assumption | (intro x; refine At.cut x ?_ ?_; rotate_left; intro _; clear_value x; rotate_left; unfold x) | intro _ | lift_lets
    | apply State.recAgain_keeps | apply State.setSess_keeps | apply State.modSess_keeps | apply State.takeIndex_keeps
    | apply State.enterHandles_keeps | apply State.syncQueue_keeps | apply State.spillStack_keeps | apply State.joinShares_keeps
    | apply At.ite | apply At.next | apply At.some | exact At.none | dsimp -zeta only [At.mkFst, At.mkSnd] | apply At.foldl
    | apply At.getD | apply At.fst | apply At.snd
    | ((conv => enter [3, 20]) <;> apply At.upd <;> first | exact .inl ‹_› | exact .inr rfl | skip)
    | ((conv => enter [3, 20]) <;> apply At.updCore) | split | exact At.ofMkFst ‹_› | exact At.ofMkSnd ‹_›
    | refine At.ofNext (by assumption) ?_ | refine At.ofFst (by assumption) ?_ | refine At.ofSnd (by assumption) ?_
    | refine At.ofOpt (by assumption) ?_ | refine At.ofOptSnd (by assumption) ?_ | refine At.ofOptFst (by assumption) ?_
    | refine At.ofOptSnd2 (by assumption) ?_ | apply At.mapAny | dsimp +zetaDelta only)

theorem State.freeMoved_keeps {P : Part → Prop} {s₀ s : State} (dict_ : P .dict) (fb_ : P .fb) (ses_ : P .ses) (tier_ : P .tier) (srch_ : P
    .srch) (fab_ : P .fab) (o : HandoverOut) (hs : At (Keeps P s₀) It s) : At (Keeps P s₀) It (State.freeMoved s o) := by
  unfold State.freeMoved
  with_reducible repeat' (first
    | assumption | (intro x; refine At.cut x ?_ ?_; rotate_left; intro _; clear_value x; rotate_left; unfold x) | intro _ | lift_lets
    | apply State.addObj_keeps | apply State.setBook_keeps | apply State.dropHandle_keeps | apply State.freeQueue_keeps | apply At.ite
    | apply At.next | apply At.some | exact At.none | dsimp -zeta only [At.mkFst, At.mkSnd] | apply At.foldl | apply At.getD
    | apply At.fst | apply At.snd | ((conv => enter [3, 20]) <;> apply At.upd <;> first | exact .inl ‹_› | exact .inr rfl | skip)
    | ((conv => enter [3, 20]) <;> apply At.updCore) | split | exact At.ofMkFst ‹_› | exact At.ofMkSnd ‹_›
    | refine At.ofNext (by assumption) ?_ | refine At.ofFst (by assumption) ?_ | refine At.ofSnd (by assumption) ?_
    | refine At.ofOpt (by assumption) ?_ | refine At.ofOptSnd (by assumption) ?_ | refine At.ofOptFst (by assumption) ?_
    | refine At.ofOptSnd2 (by assumption) ?_ | apply At.mapAny | dsimp +zetaDelta only)

end Sys2Proof.Machine
end

