-- ==== Sys2Proof/Laws/Keeps4.lean ====
section
/-! SUPPORT. What the operations of these files may change: Search, PowerOps, HostOps, Reads, Access, Replay, Journal, Moves. -/

namespace Sys2Proof.Machine

set_option linter.all false

/-! ### Machine/Search.lean -/

theorem State.searchAdmit_keeps {P : Part → Prop} {s₀ s : State} (dict_ : P .dict) (trv_ : P .trv) (core_ : P .core) (srch_ : P .srch)
    (half : Nat) (w : CamWait) (hs : At (Keeps P s₀) It s) : At (Keeps P s₀) It (State.searchAdmit s half w) := by
  unfold State.searchAdmit
  with_reducible repeat' (first
    | assumption | (intro x; refine At.cut x ?_ ?_; rotate_left; intro _; clear_value x; rotate_left; unfold x) | intro _ | lift_lets
    | apply State.bump_keeps | apply State.setCam_keeps | apply State.setClusterStore_keeps | apply State.clusterAdvance_keeps
    | exact wf_nil | apply Core.settle_store | apply Core.write_store | apply wf_foldl_bputs | apply Core.result_store
    | apply Core.flags_store | apply Core.moved_store | apply Core.lanewise_store | exact coreInit_store | apply id_store
    | apply State.coreAt_store | apply State.clusterStore_wf | apply wf_bputs | apply wf_filter | apply wf_storeTile
    | apply State.issued_store | apply State.cameTo_stores | apply At.ite | apply At.next | apply At.some | exact At.none
    | dsimp -zeta only [At.mkFst, At.mkSnd] | apply At.foldl | apply At.getD | apply At.fst | apply At.snd
    | ((conv => enter [3, 20]) <;> apply At.upd <;> first | exact .inl ‹_› | exact .inr rfl | skip)
    | ((conv => enter [3, 20]) <;> apply At.updCore) | split | exact At.ofMkFst ‹_› | exact At.ofMkSnd ‹_›
    | refine At.ofNext (by assumption) ?_ | refine At.ofFst (by assumption) ?_ | refine At.ofSnd (by assumption) ?_
    | refine At.ofOpt (by assumption) ?_ | refine At.ofOptSnd (by assumption) ?_ | refine At.ofOptFst (by assumption) ?_
    | refine At.ofOptSnd2 (by assumption) ?_ | apply At.mapAny | dsimp +zetaDelta only)

theorem State.searchAsk_keeps {P : Part → Prop} {s₀ s : State} (dict_ : P .dict) (trv_ : P .trv) (core_ : P .core) (srch_ : P .srch) (half
    : Nat) (w : CamWait) (hs : At (Keeps P s₀) It s) : At (Keeps P s₀) It (State.searchAsk s half w) := by
  unfold State.searchAsk
  with_reducible repeat' (first
    | assumption | (intro x; refine At.cut x ?_ ?_; rotate_left; intro _; clear_value x; rotate_left; unfold x) | intro _ | lift_lets
    | apply State.bump_keeps | apply State.setCam_keeps | apply State.searchAdmit_keeps | apply At.ite | apply At.next | apply At.some
    | exact At.none | dsimp -zeta only [At.mkFst, At.mkSnd] | apply At.foldl | apply At.getD | apply At.fst | apply At.snd
    | ((conv => enter [3, 20]) <;> apply At.upd <;> first | exact .inl ‹_› | exact .inr rfl | skip)
    | ((conv => enter [3, 20]) <;> apply At.updCore) | split | exact At.ofMkFst ‹_› | exact At.ofMkSnd ‹_›
    | refine At.ofNext (by assumption) ?_ | refine At.ofFst (by assumption) ?_ | refine At.ofSnd (by assumption) ?_
    | refine At.ofOpt (by assumption) ?_ | refine At.ofOptSnd (by assumption) ?_ | refine At.ofOptFst (by assumption) ?_
    | refine At.ofOptSnd2 (by assumption) ?_ | apply At.mapAny | dsimp +zetaDelta only)

theorem execTraverseSearch_keeps {P : Part → Prop} {s₀ s : State} (dict_ : P .dict) (trv_ : P .trv) (core_ : P .core) (srch_ : P .srch) (n
    : Nat) (hs : At (Keeps P s₀) It s) : At (Keeps P s₀) Nxt (execTraverseSearch n s) := by
  unfold execTraverseSearch
  with_reducible repeat' (first
    | assumption | (intro x; refine At.cut x ?_ ?_; rotate_left; intro _; clear_value x; rotate_left; unfold x) | intro _ | lift_lets
    | apply State.clusterAdvance_keeps | apply State.searchAsk_keeps | apply At.ite | apply At.next | apply At.some | exact At.none
    | dsimp -zeta only [At.mkFst, At.mkSnd] | apply At.foldl | apply At.getD | apply At.fst | apply At.snd
    | ((conv => enter [3, 20]) <;> apply At.upd <;> first | exact .inl ‹_› | exact .inr rfl | skip)
    | ((conv => enter [3, 20]) <;> apply At.updCore) | split | exact At.ofMkFst ‹_› | exact At.ofMkSnd ‹_›
    | refine At.ofNext (by assumption) ?_ | refine At.ofFst (by assumption) ?_ | refine At.ofSnd (by assumption) ?_
    | refine At.ofOpt (by assumption) ?_ | refine At.ofOptSnd (by assumption) ?_ | refine At.ofOptFst (by assumption) ?_
    | refine At.ofOptSnd2 (by assumption) ?_ | apply At.mapAny | dsimp +zetaDelta only)

theorem execCamSearch_keeps {P : Part → Prop} {s₀ s : State} (dict_ : P .dict) (trv_ : P .trv) (core_ : P .core) (srch_ : P .srch) (half :
    Nat) (key : Nat) (parity : Bool) (hs : At (Keeps P s₀) It s) : At (Keeps P s₀) Nxt (execCamSearch half key parity s) := by
  unfold execCamSearch
  with_reducible repeat' (first
    | assumption | (intro x; refine At.cut x ?_ ?_; rotate_left; intro _; clear_value x; rotate_left; unfold x) | intro _ | lift_lets
    | apply State.bump_keeps | apply State.searchAsk_keeps | apply At.ite | apply At.next | apply At.some | exact At.none
    | dsimp -zeta only [At.mkFst, At.mkSnd] | apply At.foldl | apply At.getD | apply At.fst | apply At.snd
    | ((conv => enter [3, 20]) <;> apply At.upd <;> first | exact .inl ‹_› | exact .inr rfl | skip)
    | ((conv => enter [3, 20]) <;> apply At.updCore) | split | exact At.ofMkFst ‹_› | exact At.ofMkSnd ‹_›
    | refine At.ofNext (by assumption) ?_ | refine At.ofFst (by assumption) ?_ | refine At.ofSnd (by assumption) ?_
    | refine At.ofOpt (by assumption) ?_ | refine At.ofOptSnd (by assumption) ?_ | refine At.ofOptFst (by assumption) ?_
    | refine At.ofOptSnd2 (by assumption) ?_ | apply At.mapAny | dsimp +zetaDelta only)

theorem execSearchWindow_keeps {P : Part → Prop} {s₀ s : State} (dict_ : P .dict) (trv_ : P .trv) (core_ : P .core) (srch_ : P .srch) (half
    : Nat) (hs : At (Keeps P s₀) It s) : At (Keeps P s₀) Nxt (execSearchWindow half s) := by
  unfold execSearchWindow
  with_reducible repeat' (first
    | assumption | (intro x; refine At.cut x ?_ ?_; rotate_left; intro _; clear_value x; rotate_left; unfold x) | intro _ | lift_lets
    | apply State.bump_keeps | apply State.setCam_keeps | apply State.searchAdmit_keeps | apply At.ite | apply At.next | apply At.some
    | exact At.none | dsimp -zeta only [At.mkFst, At.mkSnd] | apply At.foldl | apply At.getD | apply At.fst | apply At.snd
    | ((conv => enter [3, 20]) <;> apply At.upd <;> first | exact .inl ‹_› | exact .inr rfl | skip)
    | ((conv => enter [3, 20]) <;> apply At.updCore) | split | exact At.ofMkFst ‹_› | exact At.ofMkSnd ‹_›
    | refine At.ofNext (by assumption) ?_ | refine At.ofFst (by assumption) ?_ | refine At.ofSnd (by assumption) ?_
    | refine At.ofOpt (by assumption) ?_ | refine At.ofOptSnd (by assumption) ?_ | refine At.ofOptFst (by assumption) ?_
    | refine At.ofOptSnd2 (by assumption) ?_ | apply At.mapAny | dsimp +zetaDelta only)

theorem execThrottleUpdate_keeps {P : Part → Prop} {s₀ s : State} (dict_ : P .dict) (srch_ : P .srch) (half : Nat) (quarters : Int) (hs :
    At (Keeps P s₀) It s) : At (Keeps P s₀) Nxt (execThrottleUpdate half quarters s) := by
  unfold execThrottleUpdate
  with_reducible repeat' (first
    | assumption | (intro x; refine At.cut x ?_ ?_; rotate_left; intro _; clear_value x; rotate_left; unfold x) | intro _ | lift_lets
    | apply State.setObj_keeps | apply State.setCam_keeps | apply At.ite | apply At.next | apply At.some | exact At.none
    | dsimp -zeta only [At.mkFst, At.mkSnd] | apply At.foldl | apply At.getD | apply At.fst | apply At.snd
    | ((conv => enter [3, 20]) <;> apply At.upd <;> first | exact .inl ‹_› | exact .inr rfl | skip)
    | ((conv => enter [3, 20]) <;> apply At.updCore) | split | exact At.ofMkFst ‹_› | exact At.ofMkSnd ‹_›
    | refine At.ofNext (by assumption) ?_ | refine At.ofFst (by assumption) ?_ | refine At.ofSnd (by assumption) ?_
    | refine At.ofOpt (by assumption) ?_ | refine At.ofOptSnd (by assumption) ?_ | refine At.ofOptFst (by assumption) ?_
    | refine At.ofOptSnd2 (by assumption) ?_ | apply At.mapAny | dsimp +zetaDelta only)

theorem execCamInsert_keeps {P : Part → Prop} {s₀ s : State} (dict_ : P .dict) (ses_ : P .ses) (srch_ : P .srch) (half : Nat) (table : Nat)
    (key : Nat) (result : Nat) (hs : At (Keeps P s₀) It s) : At (Keeps P s₀) Nxt (execCamInsert half table key result s) := by
  unfold execCamInsert
  with_reducible repeat' (first
    | assumption | (intro x; refine At.cut x ?_ ?_; rotate_left; intro _; clear_value x; rotate_left; unfold x) | intro _ | lift_lets
    | apply State.bump_keeps | apply State.setCam_keeps | apply State.setCamStatus_keeps | apply State.camTrvInsert_keeps
    | apply State.camAddHandle_keeps | apply At.ite | apply At.next | apply At.some | exact At.none
    | dsimp -zeta only [At.mkFst, At.mkSnd] | apply At.foldl | apply At.getD | apply At.fst | apply At.snd
    | ((conv => enter [3, 20]) <;> apply At.upd <;> first | exact .inl ‹_› | exact .inr rfl | skip)
    | ((conv => enter [3, 20]) <;> apply At.updCore) | split | exact At.ofMkFst ‹_› | exact At.ofMkSnd ‹_›
    | refine At.ofNext (by assumption) ?_ | refine At.ofFst (by assumption) ?_ | refine At.ofSnd (by assumption) ?_
    | refine At.ofOpt (by assumption) ?_ | refine At.ofOptSnd (by assumption) ?_ | refine At.ofOptFst (by assumption) ?_
    | refine At.ofOptSnd2 (by assumption) ?_ | apply At.mapAny | dsimp +zetaDelta only)

theorem execCamRemove_keeps {P : Part → Prop} {s₀ s : State} (srch_ : P .srch) (half : Nat) (table : Nat) (key : Nat) (hs : At (Keeps P s₀)
    It s) : At (Keeps P s₀) Nxt (execCamRemove half table key s) := by
  unfold execCamRemove
  with_reducible repeat' (first
    | assumption | (intro x; refine At.cut x ?_ ?_; rotate_left; intro _; clear_value x; rotate_left; unfold x) | intro _ | lift_lets
    | apply State.setCam_keeps | apply State.setCamStatus_keeps | apply At.ite | apply At.next | apply At.some | exact At.none
    | dsimp -zeta only [At.mkFst, At.mkSnd] | apply At.foldl | apply At.getD | apply At.fst | apply At.snd
    | ((conv => enter [3, 20]) <;> apply At.upd <;> first | exact .inl ‹_› | exact .inr rfl | skip)
    | ((conv => enter [3, 20]) <;> apply At.updCore) | split | exact At.ofMkFst ‹_› | exact At.ofMkSnd ‹_›
    | refine At.ofNext (by assumption) ?_ | refine At.ofFst (by assumption) ?_ | refine At.ofSnd (by assumption) ?_
    | refine At.ofOpt (by assumption) ?_ | refine At.ofOptSnd (by assumption) ?_ | refine At.ofOptFst (by assumption) ?_
    | refine At.ofOptSnd2 (by assumption) ?_ | apply At.mapAny | dsimp +zetaDelta only)

theorem execOrderedInsert_keeps {P : Part → Prop} {s₀ s : State} (dict_ : P .dict) (srch_ : P .srch) (half : Nat) (e : CamEntry) (hs : At
    (Keeps P s₀) It s) : At (Keeps P s₀) Nxt (execOrderedInsert half e s) := by
  unfold execOrderedInsert
  with_reducible repeat' (first
    | assumption | (intro x; refine At.cut x ?_ ?_; rotate_left; intro _; clear_value x; rotate_left; unfold x) | intro _ | lift_lets
    | apply State.setCamStatus_keeps | apply State.camRuleInsert_keeps | apply At.ite | apply At.next | apply At.some | exact At.none
    | dsimp -zeta only [At.mkFst, At.mkSnd] | apply At.foldl | apply At.getD | apply At.fst | apply At.snd
    | ((conv => enter [3, 20]) <;> apply At.upd <;> first | exact .inl ‹_› | exact .inr rfl | skip)
    | ((conv => enter [3, 20]) <;> apply At.updCore) | split | exact At.ofMkFst ‹_› | exact At.ofMkSnd ‹_›
    | refine At.ofNext (by assumption) ?_ | refine At.ofFst (by assumption) ?_ | refine At.ofSnd (by assumption) ?_
    | refine At.ofOpt (by assumption) ?_ | refine At.ofOptSnd (by assumption) ?_ | refine At.ofOptFst (by assumption) ?_
    | refine At.ofOptSnd2 (by assumption) ?_ | apply At.mapAny | dsimp +zetaDelta only)

theorem execCreate_keeps {P : Part → Prop} {s₀ s : State} (dict_ : P .dict) (mgmt_ : P .mgmt) (fb_ : P .fb) (stn_ : P .stn) (ses_ : P .ses)
    (tier_ : P .tier) (srch_ : P .srch) (free_ : P .free) (w : Writer) (ii : Nat) (hs : At (Keeps P s₀) It s) : At (Keeps P s₀) Nxt
    (execCreate w ii s) := by
  unfold execCreate
  with_reducible repeat' (first
    | assumption | (intro x; refine At.cut x ?_ ?_; rotate_left; intro _; clear_value x; rotate_left; unfold x) | intro _ | lift_lets
    | apply State.setObj_keeps | apply State.commandNow_keeps | apply State.vxMake_keeps | apply At.ite | apply At.next | apply At.some
    | exact At.none | dsimp -zeta only [At.mkFst, At.mkSnd] | apply At.foldl | apply At.getD | apply At.fst | apply At.snd
    | ((conv => enter [3, 20]) <;> apply At.upd <;> first | exact .inl ‹_› | exact .inr rfl | skip)
    | ((conv => enter [3, 20]) <;> apply At.updCore) | split | exact At.ofMkFst ‹_› | exact At.ofMkSnd ‹_›
    | refine At.ofNext (by assumption) ?_ | refine At.ofFst (by assumption) ?_ | refine At.ofSnd (by assumption) ?_
    | refine At.ofOpt (by assumption) ?_ | refine At.ofOptSnd (by assumption) ?_ | refine At.ofOptFst (by assumption) ?_
    | refine At.ofOptSnd2 (by assumption) ?_ | apply At.mapAny | dsimp +zetaDelta only)

theorem execVxLoad_keeps {P : Part → Prop} {s₀ s : State} (dict_ : P .dict) (mgmt_ : P .mgmt) (fb_ : P .fb) (stn_ : P .stn) (ses_ : P .ses)
    (tier_ : P .tier) (srch_ : P .srch) (free_ : P .free) (w : Writer) (ii : Nat) (img : Option Octets) (hs : At (Keeps P s₀) It s) : At
    (Keeps P s₀) Nxt (execVxLoad w ii img s) := by
  unfold execVxLoad
  with_reducible repeat' (first
    | assumption | (intro x; refine At.cut x ?_ ?_; rotate_left; intro _; clear_value x; rotate_left; unfold x) | intro _ | lift_lets
    | apply State.setObj_keeps | apply State.command_keeps | apply State.setVx_keeps | apply State.vxMake_keeps | apply At.ite
    | apply At.next | apply At.some | exact At.none | dsimp -zeta only [At.mkFst, At.mkSnd] | apply At.foldl | apply At.getD
    | apply At.fst | apply At.snd | ((conv => enter [3, 20]) <;> apply At.upd <;> first | exact .inl ‹_› | exact .inr rfl | skip)
    | ((conv => enter [3, 20]) <;> apply At.updCore) | split | exact At.ofMkFst ‹_› | exact At.ofMkSnd ‹_›
    | refine At.ofNext (by assumption) ?_ | refine At.ofFst (by assumption) ?_ | refine At.ofSnd (by assumption) ?_
    | refine At.ofOpt (by assumption) ?_ | refine At.ofOptSnd (by assumption) ?_ | refine At.ofOptFst (by assumption) ?_
    | refine At.ofOptSnd2 (by assumption) ?_ | apply At.mapAny | dsimp +zetaDelta only)

theorem execDrop_keeps {P : Part → Prop} {s₀ s : State} (dict_ : P .dict) (mgmt_ : P .mgmt) (fb_ : P .fb) (stn_ : P .stn) (ses_ : P .ses)
    (tier_ : P .tier) (srch_ : P .srch) (w : Writer) (ii : Nat) (hs : At (Keeps P s₀) It s) : At (Keeps P s₀) Nxt (execDrop w ii s) := by
  unfold execDrop
  with_reducible repeat' (first
    | assumption | (intro x; refine At.cut x ?_ ?_; rotate_left; intro _; clear_value x; rotate_left; unfold x) | intro _ | lift_lets
    | apply State.finish_keeps | apply State.command_keeps | apply State.setVx_keeps | apply State.vxSettle_keeps | apply At.ite
    | apply At.next | apply At.some | exact At.none | dsimp -zeta only [At.mkFst, At.mkSnd] | apply At.foldl | apply At.getD
    | apply At.fst | apply At.snd | ((conv => enter [3, 20]) <;> apply At.upd <;> first | exact .inl ‹_› | exact .inr rfl | skip)
    | ((conv => enter [3, 20]) <;> apply At.updCore) | split | exact At.ofMkFst ‹_› | exact At.ofMkSnd ‹_›
    | refine At.ofNext (by assumption) ?_ | refine At.ofFst (by assumption) ?_ | refine At.ofSnd (by assumption) ?_
    | refine At.ofOpt (by assumption) ?_ | refine At.ofOptSnd (by assumption) ?_ | refine At.ofOptFst (by assumption) ?_
    | refine At.ofOptSnd2 (by assumption) ?_ | apply At.mapAny | dsimp +zetaDelta only)

theorem execVxQueryStart_keeps {P : Part → Prop} {s₀ s : State} (dict_ : P .dict) (stn_ : P .stn) (srch_ : P .srch) (half : Nat) (hs : At
    (Keeps P s₀) It s) : At (Keeps P s₀) Nxt (execVxQueryStart half s) := by
  unfold execVxQueryStart
  with_reducible repeat' (first
    | assumption | (intro x; refine At.cut x ?_ ?_; rotate_left; intro _; clear_value x; rotate_left; unfold x) | intro _ | lift_lets
    | apply State.bump_keeps | apply State.fetchVector_keeps | apply At.ite | apply At.next | apply At.some | exact At.none
    | dsimp -zeta only [At.mkFst, At.mkSnd] | apply At.foldl | apply At.getD | apply At.fst | apply At.snd
    | ((conv => enter [3, 20]) <;> apply At.upd <;> first | exact .inl ‹_› | exact .inr rfl | skip)
    | ((conv => enter [3, 20]) <;> apply At.updCore) | split | exact At.ofMkFst ‹_› | exact At.ofMkSnd ‹_›
    | refine At.ofNext (by assumption) ?_ | refine At.ofFst (by assumption) ?_ | refine At.ofSnd (by assumption) ?_
    | refine At.ofOpt (by assumption) ?_ | refine At.ofOptSnd (by assumption) ?_ | refine At.ofOptFst (by assumption) ?_
    | refine At.ofOptSnd2 (by assumption) ?_ | apply At.mapAny | dsimp +zetaDelta only)

theorem execInsertLink_keeps {P : Part → Prop} {s₀ s : State} (dict_ : P .dict) (ses_ : P .ses) (tier_ : P .tier) (srch_ : P .srch) (ii :
    Nat) (hs : At (Keeps P s₀) It s) : At (Keeps P s₀) Nxt (execInsertLink ii s) := by
  unfold execInsertLink
  with_reducible repeat' (first
    | assumption | (intro x; refine At.cut x ?_ ?_; rotate_left; intro _; clear_value x; rotate_left; unfold x) | intro _ | lift_lets
    | apply State.setVx_keeps | apply At.ite | apply At.next | apply At.some | exact At.none | dsimp -zeta only [At.mkFst, At.mkSnd]
    | apply At.foldl | apply At.getD | apply At.fst | apply At.snd
    | ((conv => enter [3, 20]) <;> apply At.upd <;> first | exact .inl ‹_› | exact .inr rfl | skip)
    | ((conv => enter [3, 20]) <;> apply At.updCore) | split | exact At.ofMkFst ‹_› | exact At.ofMkSnd ‹_›
    | refine At.ofNext (by assumption) ?_ | refine At.ofFst (by assumption) ?_ | refine At.ofSnd (by assumption) ?_
    | refine At.ofOpt (by assumption) ?_ | refine At.ofOptSnd (by assumption) ?_ | refine At.ofOptFst (by assumption) ?_
    | refine At.ofOptSnd2 (by assumption) ?_ | apply At.mapAny | dsimp +zetaDelta only)

theorem execEpochAdvance_keeps {P : Part → Prop} {s₀ s : State} (dict_ : P .dict) (fb_ : P .fb) (stn_ : P .stn) (ses_ : P .ses) (tier_ : P
    .tier) (srch_ : P .srch) (ii : Nat) (hs : At (Keeps P s₀) It s) : At (Keeps P s₀) Nxt (execEpochAdvance ii s) := by
  unfold execEpochAdvance
  with_reducible repeat' (first
    | assumption | (intro x; refine At.cut x ?_ ?_; rotate_left; intro _; clear_value x; rotate_left; unfold x) | intro _ | lift_lets
    | apply State.setVx_keeps | apply State.vxAdvance_keeps | apply At.ite | apply At.next | apply At.some | exact At.none
    | dsimp -zeta only [At.mkFst, At.mkSnd] | apply At.foldl | apply At.getD | apply At.fst | apply At.snd
    | ((conv => enter [3, 20]) <;> apply At.upd <;> first | exact .inl ‹_› | exact .inr rfl | skip)
    | ((conv => enter [3, 20]) <;> apply At.updCore) | split | exact At.ofMkFst ‹_› | exact At.ofMkSnd ‹_›
    | refine At.ofNext (by assumption) ?_ | refine At.ofFst (by assumption) ?_ | refine At.ofSnd (by assumption) ?_
    | refine At.ofOpt (by assumption) ?_ | refine At.ofOptSnd (by assumption) ?_ | refine At.ofOptFst (by assumption) ?_
    | refine At.ofOptSnd2 (by assumption) ?_ | apply At.mapAny | dsimp +zetaDelta only)

theorem execRepairSweep_keeps {P : Part → Prop} {s₀ s : State} (dict_ : P .dict) (ses_ : P .ses) (tier_ : P .tier) (srch_ : P .srch) (ii :
    Nat) (count : Nat) (hs : At (Keeps P s₀) It s) : At (Keeps P s₀) Nxt (execRepairSweep ii count s) := by
  unfold execRepairSweep
  with_reducible repeat' (first
    | assumption | (intro x; refine At.cut x ?_ ?_; rotate_left; intro _; clear_value x; rotate_left; unfold x) | intro _ | lift_lets
    | apply State.setObj_keeps | apply State.setVx_keeps | apply At.ite | apply At.next | apply At.some | exact At.none
    | dsimp -zeta only [At.mkFst, At.mkSnd] | apply At.foldl | apply At.getD | apply At.fst | apply At.snd
    | ((conv => enter [3, 20]) <;> apply At.upd <;> first | exact .inl ‹_› | exact .inr rfl | skip)
    | ((conv => enter [3, 20]) <;> apply At.updCore) | split | exact At.ofMkFst ‹_› | exact At.ofMkSnd ‹_›
    | refine At.ofNext (by assumption) ?_ | refine At.ofFst (by assumption) ?_ | refine At.ofSnd (by assumption) ?_
    | refine At.ofOpt (by assumption) ?_ | refine At.ofOptSnd (by assumption) ?_ | refine At.ofOptFst (by assumption) ?_
    | refine At.ofOptSnd2 (by assumption) ?_ | apply At.mapAny | dsimp +zetaDelta only)

/-! ### Machine/PowerOps.lean -/

theorem State.sleepCluster_keeps {P : Part → Prop} {s₀ s : State} (core_ : P .core) (sync_ : P .sync) (pwr_ : P .pwr) (n : Nat) (hs : At
    (Keeps P s₀) It s) : At (Keeps P s₀) It (State.sleepCluster s n) := by
  unfold State.sleepCluster
  with_reducible repeat' (first
    | assumption | (intro x; refine At.cut x ?_ ?_; rotate_left; intro _; clear_value x; rotate_left; unfold x) | intro _ | lift_lets
    | apply State.setClusterStore_keeps | apply State.clearCore_keeps | exact wf_nil | apply Core.settle_store | apply Core.write_store
    | apply wf_foldl_bputs | apply Core.result_store | apply Core.flags_store | apply Core.moved_store | apply Core.lanewise_store
    | exact coreInit_store | apply id_store | apply State.coreAt_store | apply State.clusterStore_wf | apply wf_bputs | apply wf_filter
    | apply wf_storeTile | apply State.issued_store | apply State.cameTo_stores | exact stores_same ‹_› | exact stores_nil
    | exact stores_filter ‹_› | apply At.ite | apply At.next | apply At.some | exact At.none | dsimp -zeta only [At.mkFst, At.mkSnd]
    | apply At.foldl | apply At.getD | apply At.fst | apply At.snd
    | ((conv => enter [3, 20]) <;> apply At.upd <;> first | exact .inl ‹_› | exact .inr rfl | skip)
    | ((conv => enter [3, 20]) <;> apply At.updCore) | split | exact At.ofMkFst ‹_› | exact At.ofMkSnd ‹_›
    | refine At.ofNext (by assumption) ?_ | refine At.ofFst (by assumption) ?_ | refine At.ofSnd (by assumption) ?_
    | refine At.ofOpt (by assumption) ?_ | refine At.ofOptSnd (by assumption) ?_ | refine At.ofOptFst (by assumption) ?_
    | refine At.ofOptSnd2 (by assumption) ?_ | apply At.mapAny | dsimp +zetaDelta only)

theorem State.sleepBoundary_keeps {P : Part → Prop} {s₀ s : State} (pwr_ : P .pwr) (hs : At (Keeps P s₀) It s) : At (Keeps P s₀) It
    (State.sleepBoundary s) := by
  unfold State.sleepBoundary
  with_reducible repeat' (first
    | assumption | (intro x; refine At.cut x ?_ ?_; rotate_left; intro _; clear_value x; rotate_left; unfold x) | intro _ | lift_lets
    | apply State.setPwr_keeps | apply State.forN_keeps | apply At.ite | apply At.next | apply At.some | exact At.none
    | dsimp -zeta only [At.mkFst, At.mkSnd] | apply At.foldl | apply At.getD | apply At.fst | apply At.snd
    | ((conv => enter [3, 20]) <;> apply At.upd <;> first | exact .inl ‹_› | exact .inr rfl | skip)
    | ((conv => enter [3, 20]) <;> apply At.updCore) | split | exact At.ofMkFst ‹_› | exact At.ofMkSnd ‹_›
    | refine At.ofNext (by assumption) ?_ | refine At.ofFst (by assumption) ?_ | refine At.ofSnd (by assumption) ?_
    | refine At.ofOpt (by assumption) ?_ | refine At.ofOptSnd (by assumption) ?_ | refine At.ofOptFst (by assumption) ?_
    | refine At.ofOptSnd2 (by assumption) ?_ | apply At.mapAny | dsimp +zetaDelta only)

theorem State.enterDeep_keeps {P : Part → Prop} {s₀ s : State} (dict_ : P .dict) (mgmt_ : P .mgmt) (stn_ : P .stn) (pwr_ : P .pwr) (hs : At
    (Keeps P s₀) It s) : At (Keeps P s₀) It (State.enterDeep s) := by
  unfold State.enterDeep
  with_reducible repeat' (first
    | assumption | (intro x; refine At.cut x ?_ ?_; rotate_left; intro _; clear_value x; rotate_left; unfold x) | intro _ | lift_lets
    | apply State.setObj_keeps | apply State.tileEvent_keeps | apply State.setPwr_keeps | apply At.ite | apply At.next | apply At.some
    | exact At.none | dsimp -zeta only [At.mkFst, At.mkSnd] | apply At.foldl | apply At.getD | apply At.fst | apply At.snd
    | ((conv => enter [3, 20]) <;> apply At.upd <;> first | exact .inl ‹_› | exact .inr rfl | skip)
    | ((conv => enter [3, 20]) <;> apply At.updCore) | split | exact At.ofMkFst ‹_› | exact At.ofMkSnd ‹_›
    | refine At.ofNext (by assumption) ?_ | refine At.ofFst (by assumption) ?_ | refine At.ofSnd (by assumption) ?_
    | refine At.ofOpt (by assumption) ?_ | refine At.ofOptSnd (by assumption) ?_ | refine At.ofOptFst (by assumption) ?_
    | refine At.ofOptSnd2 (by assumption) ?_ | apply At.mapAny | dsimp +zetaDelta only)

theorem State.deepNow_keeps {P : Part → Prop} {s₀ s : State} (dict_ : P .dict) (stn_ : P .stn) (core_ : P .core) (sync_ : P .sync) (pwr_ :
    P .pwr) (hs : At (Keeps P s₀) It s) : At (Keeps P s₀) It (State.deepNow s) := by
  unfold State.deepNow
  with_reducible repeat' (first
    | assumption | (intro x; refine At.cut x ?_ ?_; rotate_left; intro _; clear_value x; rotate_left; unfold x) | intro _ | lift_lets
    | apply State.setObj_keeps | apply State.setPwr_keeps | apply State.sleepCluster_keeps | apply At.ite | apply At.next | apply At.some
    | exact At.none | dsimp -zeta only [At.mkFst, At.mkSnd] | apply At.foldl | apply At.getD | apply At.fst | apply At.snd
    | ((conv => enter [3, 20]) <;> apply At.upd <;> first | exact .inl ‹_› | exact .inr rfl | skip)
    | ((conv => enter [3, 20]) <;> apply At.updCore) | split | exact At.ofMkFst ‹_› | exact At.ofMkSnd ‹_›
    | refine At.ofNext (by assumption) ?_ | refine At.ofFst (by assumption) ?_ | refine At.ofSnd (by assumption) ?_
    | refine At.ofOpt (by assumption) ?_ | refine At.ofOptSnd (by assumption) ?_ | refine At.ofOptFst (by assumption) ?_
    | refine At.ofOptSnd2 (by assumption) ?_ | apply At.mapAny | dsimp +zetaDelta only)

theorem State.catchUp_keeps {P : Part → Prop} {s₀ s : State} (frame_ : P .frame) (frameStart_ : P .frameStart) (hs : At (Keeps P s₀) It s)
    : At (Keeps P s₀) It (State.catchUp s) := by
  unfold State.catchUp
  with_reducible repeat' (first
    | assumption | (intro x; refine At.cut x ?_ ?_; rotate_left; intro _; clear_value x; rotate_left; unfold x) | intro _ | lift_lets
    | apply At.ite | apply At.next | apply At.some | exact At.none | dsimp -zeta only [At.mkFst, At.mkSnd] | apply At.foldl
    | apply At.getD | apply At.fst | apply At.snd
    | ((conv => enter [3, 20]) <;> apply At.upd <;> first | exact .inl ‹_› | exact .inr rfl | skip)
    | ((conv => enter [3, 20]) <;> apply At.updCore) | split | exact At.ofMkFst ‹_› | exact At.ofMkSnd ‹_›
    | refine At.ofNext (by assumption) ?_ | refine At.ofFst (by assumption) ?_ | refine At.ofSnd (by assumption) ?_
    | refine At.ofOpt (by assumption) ?_ | refine At.ofOptSnd (by assumption) ?_ | refine At.ofOptFst (by assumption) ?_
    | refine At.ofOptSnd2 (by assumption) ?_ | apply At.mapAny | dsimp +zetaDelta only)

theorem State.wakeBy_keeps {P : Part → Prop} {s₀ s : State} (frame_ : P .frame) (frameStart_ : P .frameStart) (dict_ : P .dict) (mgmt_ : P
    .mgmt) (stn_ : P .stn) (pwr_ : P .pwr) (cause : Nat) (hs : At (Keeps P s₀) It s) : At (Keeps P s₀) It (State.wakeBy s cause) := by
  unfold State.wakeBy
  with_reducible repeat' (first
    | assumption | (intro x; refine At.cut x ?_ ?_; rotate_left; intro _; clear_value x; rotate_left; unfold x) | intro _ | lift_lets
    | apply State.setObj_keeps | apply State.bump_keeps | apply State.setStation_keeps | apply State.tileEvent_keeps
    | apply State.setPwr_keeps | apply State.catchUp_keeps | apply At.ite | apply At.next | apply At.some | exact At.none
    | dsimp -zeta only [At.mkFst, At.mkSnd] | apply At.foldl | apply At.getD | apply At.fst | apply At.snd
    | ((conv => enter [3, 20]) <;> apply At.upd <;> first | exact .inl ‹_› | exact .inr rfl | skip)
    | ((conv => enter [3, 20]) <;> apply At.updCore) | split | exact At.ofMkFst ‹_› | exact At.ofMkSnd ‹_›
    | refine At.ofNext (by assumption) ?_ | refine At.ofFst (by assumption) ?_ | refine At.ofSnd (by assumption) ?_
    | refine At.ofOpt (by assumption) ?_ | refine At.ofOptSnd (by assumption) ?_ | refine At.ofOptFst (by assumption) ?_
    | refine At.ofOptSnd2 (by assumption) ?_ | apply At.mapAny | dsimp +zetaDelta only)

theorem State.arrivalWakes_keeps {P : Part → Prop} {s₀ s : State} (frame_ : P .frame) (frameStart_ : P .frameStart) (dict_ : P .dict)
    (mgmt_ : P .mgmt) (stn_ : P .stn) (pwr_ : P .pwr) (cause : Nat) (hs : At (Keeps P s₀) It s) : At (Keeps P s₀) It (State.arrivalWakes s
    cause) := by
  unfold State.arrivalWakes
  with_reducible repeat' (first
    | assumption | (intro x; refine At.cut x ?_ ?_; rotate_left; intro _; clear_value x; rotate_left; unfold x) | intro _ | lift_lets
    | apply State.wakeBy_keeps | apply At.ite | apply At.next | apply At.some | exact At.none | dsimp -zeta only [At.mkFst, At.mkSnd]
    | apply At.foldl | apply At.getD | apply At.fst | apply At.snd
    | ((conv => enter [3, 20]) <;> apply At.upd <;> first | exact .inl ‹_› | exact .inr rfl | skip)
    | ((conv => enter [3, 20]) <;> apply At.updCore) | split | exact At.ofMkFst ‹_› | exact At.ofMkSnd ‹_›
    | refine At.ofNext (by assumption) ?_ | refine At.ofFst (by assumption) ?_ | refine At.ofSnd (by assumption) ?_
    | refine At.ofOpt (by assumption) ?_ | refine At.ofOptSnd (by assumption) ?_ | refine At.ofOptFst (by assumption) ?_
    | refine At.ofOptSnd2 (by assumption) ?_ | apply At.mapAny | dsimp +zetaDelta only)

theorem State.quietTick_keeps {P : Part → Prop} {s₀ s : State} (pwr_ : P .pwr) (hs : At (Keeps P s₀) It s) : At (Keeps P s₀) It
    (State.quietTick s) := by
  unfold State.quietTick
  with_reducible repeat' (first
    | assumption | (intro x; refine At.cut x ?_ ?_; rotate_left; intro _; clear_value x; rotate_left; unfold x) | intro _ | lift_lets
    | apply State.setPwr_keeps | apply At.ite | apply At.next | apply At.some | exact At.none | dsimp -zeta only [At.mkFst, At.mkSnd]
    | apply At.foldl | apply At.getD | apply At.fst | apply At.snd
    | ((conv => enter [3, 20]) <;> apply At.upd <;> first | exact .inl ‹_› | exact .inr rfl | skip)
    | ((conv => enter [3, 20]) <;> apply At.updCore) | split | exact At.ofMkFst ‹_› | exact At.ofMkSnd ‹_›
    | refine At.ofNext (by assumption) ?_ | refine At.ofFst (by assumption) ?_ | refine At.ofSnd (by assumption) ?_
    | refine At.ofOpt (by assumption) ?_ | refine At.ofOptSnd (by assumption) ?_ | refine At.ofOptFst (by assumption) ?_
    | refine At.ofOptSnd2 (by assumption) ?_ | apply At.mapAny | dsimp +zetaDelta only)

/-! ### Machine/HostOps.lean -/

theorem State.setUcie_keeps {P : Part → Prop} {s₀ s : State} (stn_ : P .stn) (m : Nat) (x : UcieModule) (hs : At (Keeps P s₀) It s) : At
    (Keeps P s₀) It (State.setUcie s m x) := by
  unfold State.setUcie
  with_reducible repeat' (first
    | assumption | (intro x; refine At.cut x ?_ ?_; rotate_left; intro _; clear_value x; rotate_left; unfold x) | intro _ | lift_lets
    | apply At.ite | apply At.next | apply At.some | exact At.none | dsimp -zeta only [At.mkFst, At.mkSnd] | apply At.foldl
    | apply At.getD | apply At.fst | apply At.snd
    | ((conv => enter [3, 20]) <;> apply At.upd <;> first | exact .inl ‹_› | exact .inr rfl | skip)
    | ((conv => enter [3, 20]) <;> apply At.updCore) | split | exact At.ofMkFst ‹_› | exact At.ofMkSnd ‹_›
    | refine At.ofNext (by assumption) ?_ | refine At.ofFst (by assumption) ?_ | refine At.ofSnd (by assumption) ?_
    | refine At.ofOpt (by assumption) ?_ | refine At.ofOptSnd (by assumption) ?_ | refine At.ofOptFst (by assumption) ?_
    | refine At.ofOptSnd2 (by assumption) ?_ | apply At.mapAny | dsimp +zetaDelta only)

theorem State.countMissed_keeps {P : Part → Prop} {s₀ s : State} (dict_ : P .dict) (stn_ : P .stn) (n : Nat) (y2 : Nat) (hs : At (Keeps P
    s₀) It s) : At (Keeps P s₀) It (State.countMissed s n y2) := by
  unfold State.countMissed
  with_reducible repeat' (first
    | assumption | (intro x; refine At.cut x ?_ ?_; rotate_left; intro _; clear_value x; rotate_left; unfold x) | intro _ | lift_lets
    | apply State.addObj_keeps | apply State.setStation_keeps | apply At.ite | apply At.next | apply At.some | exact At.none
    | dsimp -zeta only [At.mkFst, At.mkSnd] | apply At.foldl | apply At.getD | apply At.fst | apply At.snd
    | ((conv => enter [3, 20]) <;> apply At.upd <;> first | exact .inl ‹_› | exact .inr rfl | skip)
    | ((conv => enter [3, 20]) <;> apply At.updCore) | split | exact At.ofMkFst ‹_› | exact At.ofMkSnd ‹_›
    | refine At.ofNext (by assumption) ?_ | refine At.ofFst (by assumption) ?_ | refine At.ofSnd (by assumption) ?_
    | refine At.ofOpt (by assumption) ?_ | refine At.ofOptSnd (by assumption) ?_ | refine At.ofOptFst (by assumption) ?_
    | refine At.ofOptSnd2 (by assumption) ?_ | apply At.mapAny | dsimp +zetaDelta only)

theorem State.arrived_keeps {P : Part → Prop} {s₀ s : State} (frame_ : P .frame) (frameStart_ : P .frameStart) (dict_ : P .dict) (mgmt_ : P
    .mgmt) (stn_ : P .stn) (pwr_ : P .pwr) (n : Nat) (m : Nat) (hs : At (Keeps P s₀) It s) : At (Keeps P s₀) It (State.arrived s n m) := by
  unfold State.arrived
  with_reducible repeat' (first
    | assumption | (intro x; refine At.cut x ?_ ?_; rotate_left; intro _; clear_value x; rotate_left; unfold x) | intro _ | lift_lets
    | apply State.setStation_keeps | apply State.arrivalWakes_keeps | apply State.setUcie_keeps | apply State.countMissed_keeps
    | apply At.ite | apply At.next | apply At.some | exact At.none | dsimp -zeta only [At.mkFst, At.mkSnd] | apply At.foldl
    | apply At.getD | apply At.fst | apply At.snd
    | ((conv => enter [3, 20]) <;> apply At.upd <;> first | exact .inl ‹_› | exact .inr rfl | skip)
    | ((conv => enter [3, 20]) <;> apply At.updCore) | split | exact At.ofMkFst ‹_› | exact At.ofMkSnd ‹_›
    | refine At.ofNext (by assumption) ?_ | refine At.ofFst (by assumption) ?_ | refine At.ofSnd (by assumption) ?_
    | refine At.ofOpt (by assumption) ?_ | refine At.ofOptSnd (by assumption) ?_ | refine At.ofOptFst (by assumption) ?_
    | refine At.ofOptSnd2 (by assumption) ?_ | apply At.mapAny | dsimp +zetaDelta only)

theorem State.loseExtents_keeps {P : Part → Prop} {s₀ s : State} (dict_ : P .dict) (fb_ : P .fb) (stn_ : P .stn) (ses_ : P .ses) (tier_ : P
    .tier) (srch_ : P .srch) (free_ : P .free) (n : Nat) (hs : At (Keeps P s₀) It s) : At (Keeps P s₀) It (State.loseExtents s n) := by
  unfold State.loseExtents
  with_reducible repeat' (first
    | assumption | (intro x; refine At.cut x ?_ ?_; rotate_left; intro _; clear_value x; rotate_left; unfold x) | intro _ | lift_lets
    | apply State.loseTile_keeps | apply At.ite | apply At.next | apply At.some | exact At.none | dsimp -zeta only [At.mkFst, At.mkSnd]
    | apply At.foldl | apply At.getD | apply At.fst | apply At.snd
    | ((conv => enter [3, 20]) <;> apply At.upd <;> first | exact .inl ‹_› | exact .inr rfl | skip)
    | ((conv => enter [3, 20]) <;> apply At.updCore) | split | exact At.ofMkFst ‹_› | exact At.ofMkSnd ‹_›
    | refine At.ofNext (by assumption) ?_ | refine At.ofFst (by assumption) ?_ | refine At.ofSnd (by assumption) ?_
    | refine At.ofOpt (by assumption) ?_ | refine At.ofOptSnd (by assumption) ?_ | refine At.ofOptFst (by assumption) ?_
    | refine At.ofOptSnd2 (by assumption) ?_ | apply At.mapAny | dsimp +zetaDelta only)

theorem State.stationLost_keeps {P : Part → Prop} {s₀ s : State} (dict_ : P .dict) (fb_ : P .fb) (stn_ : P .stn) (ses_ : P .ses) (tier_ : P
    .tier) (srch_ : P .srch) (free_ : P .free) (n : Nat) (hs : At (Keeps P s₀) It s) : At (Keeps P s₀) It (State.stationLost s n) := by
  unfold State.stationLost
  with_reducible repeat' (first
    | assumption | (intro x; refine At.cut x ?_ ?_; rotate_left; intro _; clear_value x; rotate_left; unfold x) | intro _ | lift_lets
    | apply State.setStation_keeps | apply State.setStationState_keeps | apply State.dropIntake_keeps | apply State.loseExtents_keeps
    | apply At.ite | apply At.next | apply At.some | exact At.none | dsimp -zeta only [At.mkFst, At.mkSnd] | apply At.foldl
    | apply At.getD | apply At.fst | apply At.snd
    | ((conv => enter [3, 20]) <;> apply At.upd <;> first | exact .inl ‹_› | exact .inr rfl | skip)
    | ((conv => enter [3, 20]) <;> apply At.updCore) | split | exact At.ofMkFst ‹_› | exact At.ofMkSnd ‹_›
    | refine At.ofNext (by assumption) ?_ | refine At.ofFst (by assumption) ?_ | refine At.ofSnd (by assumption) ?_
    | refine At.ofOpt (by assumption) ?_ | refine At.ofOptSnd (by assumption) ?_ | refine At.ofOptFst (by assumption) ?_
    | refine At.ofOptSnd2 (by assumption) ?_ | apply At.mapAny | dsimp +zetaDelta only)

theorem State.stationMove_keeps {P : Part → Prop} {s₀ s : State} (dict_ : P .dict) (fb_ : P .fb) (stn_ : P .stn) (ses_ : P .ses) (tier_ : P
    .tier) (srch_ : P .srch) (free_ : P .free) (n : Nat) (hs : At (Keeps P s₀) It s) : At (Keeps P s₀) It (State.stationMove s n) := by
  unfold State.stationMove
  with_reducible repeat' (first
    | assumption | (intro x; refine At.cut x ?_ ?_; rotate_left; intro _; clear_value x; rotate_left; unfold x) | intro _ | lift_lets
    | apply State.setStation_keeps | apply State.stationLost_keeps | apply At.ite | apply At.next | apply At.some | exact At.none
    | dsimp -zeta only [At.mkFst, At.mkSnd] | apply At.foldl | apply At.getD | apply At.fst | apply At.snd
    | ((conv => enter [3, 20]) <;> apply At.upd <;> first | exact .inl ‹_› | exact .inr rfl | skip)
    | ((conv => enter [3, 20]) <;> apply At.updCore) | split | exact At.ofMkFst ‹_› | exact At.ofMkSnd ‹_›
    | refine At.ofNext (by assumption) ?_ | refine At.ofFst (by assumption) ?_ | refine At.ofSnd (by assumption) ?_
    | refine At.ofOpt (by assumption) ?_ | refine At.ofOptSnd (by assumption) ?_ | refine At.ofOptFst (by assumption) ?_
    | refine At.ofOptSnd2 (by assumption) ?_ | apply At.mapAny | dsimp +zetaDelta only)

theorem State.ucieDown_keeps {P : Part → Prop} {s₀ s : State} (dict_ : P .dict) (fb_ : P .fb) (stn_ : P .stn) (ses_ : P .ses) (tier_ : P
    .tier) (srch_ : P .srch) (free_ : P .free) (m : Nat) (hs : At (Keeps P s₀) It s) : At (Keeps P s₀) It (State.ucieDown s m) := by
  unfold State.ucieDown
  with_reducible repeat' (first
    | assumption | (intro x; refine At.cut x ?_ ?_; rotate_left; intro _; clear_value x; rotate_left; unfold x) | intro _ | lift_lets
    | apply State.setUcie_keeps | apply State.stationMove_keeps | apply At.ite | apply At.next | apply At.some | exact At.none
    | dsimp -zeta only [At.mkFst, At.mkSnd] | apply At.foldl | apply At.getD | apply At.fst | apply At.snd
    | ((conv => enter [3, 20]) <;> apply At.upd <;> first | exact .inl ‹_› | exact .inr rfl | skip)
    | ((conv => enter [3, 20]) <;> apply At.updCore) | split | exact At.ofMkFst ‹_› | exact At.ofMkSnd ‹_›
    | refine At.ofNext (by assumption) ?_ | refine At.ofFst (by assumption) ?_ | refine At.ofSnd (by assumption) ?_
    | refine At.ofOpt (by assumption) ?_ | refine At.ofOptSnd (by assumption) ?_ | refine At.ofOptFst (by assumption) ?_
    | refine At.ofOptSnd2 (by assumption) ?_ | apply At.mapAny | dsimp +zetaDelta only)

theorem State.transfer_keeps {P : Part → Prop} {s₀ s : State} (frame_ : P .frame) (frameStart_ : P .frameStart) (dict_ : P .dict) (mgmt_ :
    P .mgmt) (fb_ : P .fb) (stn_ : P .stn) (pwr_ : P .pwr) (t : Transfer) (kind : Nat) (go : State → State) (hgo : ∀ u, At (Keeps P s₀) It
    u → At (Keeps P s₀) It (go u)) (hs : At (Keeps P s₀) It s) : At (Keeps P s₀) It (State.transfer s t kind go) := by
  unfold State.transfer
  with_reducible repeat' (first
    | assumption | (intro x; refine At.cut x ?_ ?_; rotate_left; intro _; clear_value x; rotate_left; unfold x) | intro _ | lift_lets
    | apply State.report_keeps | apply State.arrived_keeps | apply hgo | apply At.ite | apply At.next | apply At.some | exact At.none
    | dsimp -zeta only [At.mkFst, At.mkSnd] | apply At.foldl | apply At.getD | apply At.fst | apply At.snd
    | ((conv => enter [3, 20]) <;> apply At.upd <;> first | exact .inl ‹_› | exact .inr rfl | skip)
    | ((conv => enter [3, 20]) <;> apply At.updCore) | split | exact At.ofMkFst ‹_› | exact At.ofMkSnd ‹_›
    | refine At.ofNext (by assumption) ?_ | refine At.ofFst (by assumption) ?_ | refine At.ofSnd (by assumption) ?_
    | refine At.ofOpt (by assumption) ?_ | refine At.ofOptSnd (by assumption) ?_ | refine At.ofOptFst (by assumption) ?_
    | refine At.ofOptSnd2 (by assumption) ?_ | apply At.mapAny | dsimp +zetaDelta only)

/-! ### Machine/Reads.lean -/

theorem State.popRow_keeps {P : Part → Prop} {s₀ s : State} (fb_ : P .fb) (tier_ : P .tier) (trv_ : P .trv) (o : ObjSpec) (i : Nat) (hs :
    At (Keeps P s₀) It s) : At (Keeps P s₀) It (State.popRow s o i) := by
  unfold State.popRow
  with_reducible repeat' (first
    | assumption | (intro x; refine At.cut x ?_ ?_; rotate_left; intro _; clear_value x; rotate_left; unfold x) | intro _ | lift_lets
    | apply State.setErr_keeps | apply State.setEng_keeps | apply At.ite | apply At.next | apply At.some | exact At.none
    | dsimp -zeta only [At.mkFst, At.mkSnd] | apply At.foldl | apply At.getD | apply At.fst | apply At.snd
    | ((conv => enter [3, 20]) <;> apply At.upd <;> first | exact .inl ‹_› | exact .inr rfl | skip)
    | ((conv => enter [3, 20]) <;> apply At.updCore) | split | exact At.ofMkFst ‹_› | exact At.ofMkSnd ‹_›
    | refine At.ofNext (by assumption) ?_ | refine At.ofFst (by assumption) ?_ | refine At.ofSnd (by assumption) ?_
    | refine At.ofOpt (by assumption) ?_ | refine At.ofOptSnd (by assumption) ?_ | refine At.ofOptFst (by assumption) ?_
    | refine At.ofOptSnd2 (by assumption) ?_ | apply At.mapAny | dsimp +zetaDelta only)

theorem State.readObject_keeps {P : Part → Prop} {s₀ s : State} (fb_ : P .fb) (tier_ : P .tier) (trv_ : P .trv) (w : Writer) (index : Nat)
    (sub : Nat) (hs : At (Keeps P s₀) It s) : At (Keeps P s₀) (Snd (Snd It)) (State.readObject s w index sub) := by
  unfold State.readObject
  with_reducible repeat' (first
    | assumption | (intro x; refine At.cut x ?_ ?_; rotate_left; intro _; clear_value x; rotate_left; unfold x) | intro _ | lift_lets
    | apply State.popRow_keeps | apply At.ite | apply At.next | apply At.some | exact At.none | dsimp -zeta only [At.mkFst, At.mkSnd]
    | apply At.foldl | apply At.getD | apply At.fst | apply At.snd
    | ((conv => enter [3, 20]) <;> apply At.upd <;> first | exact .inl ‹_› | exact .inr rfl | skip)
    | ((conv => enter [3, 20]) <;> apply At.updCore) | split | exact At.ofMkFst ‹_› | exact At.ofMkSnd ‹_›
    | refine At.ofNext (by assumption) ?_ | refine At.ofFst (by assumption) ?_ | refine At.ofSnd (by assumption) ?_
    | refine At.ofOpt (by assumption) ?_ | refine At.ofOptSnd (by assumption) ?_ | refine At.ofOptFst (by assumption) ?_
    | refine At.ofOptSnd2 (by assumption) ?_ | apply At.mapAny | dsimp +zetaDelta only)

theorem State.replyValue_keeps {P : Part → Prop} {s₀ s : State} (dict_ : P .dict) (mgmt_ : P .mgmt) (fb_ : P .fb) (stn_ : P .stn) (w :
    Writer) (status : Nat) (v : Octets) (hs : At (Keeps P s₀) It s) : At (Keeps P s₀) It (State.replyValue s w status v) := by
  unfold State.replyValue
  with_reducible repeat' (first
    | assumption | (intro x; refine At.cut x ?_ ?_; rotate_left; intro _; clear_value x; rotate_left; unfold x) | intro _ | lift_lets
    | apply State.setStation_keeps | apply State.finish_keeps | apply State.opdunReply_keeps | apply State.reply_keeps | apply At.ite
    | apply At.next | apply At.some | exact At.none | dsimp -zeta only [At.mkFst, At.mkSnd] | apply At.foldl | apply At.getD
    | apply At.fst | apply At.snd | ((conv => enter [3, 20]) <;> apply At.upd <;> first | exact .inl ‹_› | exact .inr rfl | skip)
    | ((conv => enter [3, 20]) <;> apply At.updCore) | split | exact At.ofMkFst ‹_› | exact At.ofMkSnd ‹_›
    | refine At.ofNext (by assumption) ?_ | refine At.ofFst (by assumption) ?_ | refine At.ofSnd (by assumption) ?_
    | refine At.ofOpt (by assumption) ?_ | refine At.ofOptSnd (by assumption) ?_ | refine At.ofOptFst (by assumption) ?_
    | refine At.ofOptSnd2 (by assumption) ?_ | apply At.mapAny | dsimp +zetaDelta only)

theorem State.serveRead_keeps {P : Part → Prop} {s₀ s : State} (dict_ : P .dict) (mgmt_ : P .mgmt) (fb_ : P .fb) (stn_ : P .stn) (tier_ : P
    .tier) (trv_ : P .trv) (w : Writer) (index : Nat) (sub : Nat) (hs : At (Keeps P s₀) It s) : At (Keeps P s₀) It (State.serveRead s w
    index sub) := by
  unfold State.serveRead
  with_reducible repeat' (first
    | assumption | (intro x; refine At.cut x ?_ ?_; rotate_left; intro _; clear_value x; rotate_left; unfold x) | intro _ | lift_lets
    | apply State.readObject_keeps | apply State.replyValue_keeps | apply At.ite | apply At.next | apply At.some | exact At.none
    | dsimp -zeta only [At.mkFst, At.mkSnd] | apply At.foldl | apply At.getD | apply At.fst | apply At.snd
    | ((conv => enter [3, 20]) <;> apply At.upd <;> first | exact .inl ‹_› | exact .inr rfl | skip)
    | ((conv => enter [3, 20]) <;> apply At.updCore) | split | exact At.ofMkFst ‹_› | exact At.ofMkSnd ‹_›
    | refine At.ofNext (by assumption) ?_ | refine At.ofFst (by assumption) ?_ | refine At.ofSnd (by assumption) ?_
    | refine At.ofOpt (by assumption) ?_ | refine At.ofOptSnd (by assumption) ?_ | refine At.ofOptFst (by assumption) ?_
    | refine At.ofOptSnd2 (by assumption) ?_ | apply At.mapAny | dsimp +zetaDelta only)

/-! ### Machine/Access.lean -/

theorem State.putValue_keeps {P : Part → Prop} {s₀ s : State} (dict_ : P .dict) (ses_ : P .ses) (tier_ : P .tier) (shape_ : P .shape)
    (text_ : P .text) (free_ : P .free) (o : ObjSpec) (i : Nat) (j : Nat) (v : ObjVal) (hs : At (Keeps P s₀) It s) : At (Keeps P s₀) It
    (State.putValue s o i j v) := by
  unfold State.putValue
  with_reducible repeat' (first
    | assumption | (intro x; refine At.cut x ?_ ?_; rotate_left; intro _; clear_value x; rotate_left; unfold x) | intro _ | lift_lets
    | apply State.putObj_keeps | apply State.rateWritten_keeps | apply State.keepLevel_keeps | apply State.compileStop_keeps
    | apply At.ite | apply At.next | apply At.some | exact At.none | dsimp -zeta only [At.mkFst, At.mkSnd] | apply At.foldl
    | apply At.getD | apply At.fst | apply At.snd
    | ((conv => enter [3, 20]) <;> apply At.upd <;> first | exact .inl ‹_› | exact .inr rfl | skip)
    | ((conv => enter [3, 20]) <;> apply At.updCore) | split | exact At.ofMkFst ‹_› | exact At.ofMkSnd ‹_›
    | refine At.ofNext (by assumption) ?_ | refine At.ofFst (by assumption) ?_ | refine At.ofSnd (by assumption) ?_
    | refine At.ofOpt (by assumption) ?_ | refine At.ofOptSnd (by assumption) ?_ | refine At.ofOptFst (by assumption) ?_
    | refine At.ofOptSnd2 (by assumption) ?_ | apply At.mapAny | dsimp +zetaDelta only)

theorem State.putWrite_keeps {P : Part → Prop} {s₀ s : State} (dict_ : P .dict) (mgmt_ : P .mgmt) (fb_ : P .fb) (ses_ : P .ses) (tier_ : P
    .tier) (shape_ : P .shape) (text_ : P .text) (free_ : P .free) (w : Writer) (o : ObjSpec) (i : Nat) (j : Nat) (index : Nat) (sub : Nat)
    (v : Octets) (hs : At (Keeps P s₀) It s) : At (Keeps P s₀) It (State.putWrite s w o i j index sub v) := by
  unfold State.putWrite
  with_reducible repeat' (first
    | assumption | (intro x; refine At.cut x ?_ ?_; rotate_left; intro _; clear_value x; rotate_left; unfold x) | intro _ | lift_lets
    | apply State.recordWrite_keeps | apply State.putValue_keeps | apply At.ite | apply At.next | apply At.some | exact At.none
    | dsimp -zeta only [At.mkFst, At.mkSnd] | apply At.foldl | apply At.getD | apply At.fst | apply At.snd
    | ((conv => enter [3, 20]) <;> apply At.upd <;> first | exact .inl ‹_› | exact .inr rfl | skip)
    | ((conv => enter [3, 20]) <;> apply At.updCore) | split | exact At.ofMkFst ‹_› | exact At.ofMkSnd ‹_›
    | refine At.ofNext (by assumption) ?_ | refine At.ofFst (by assumption) ?_ | refine At.ofSnd (by assumption) ?_
    | refine At.ofOpt (by assumption) ?_ | refine At.ofOptSnd (by assumption) ?_ | refine At.ofOptFst (by assumption) ?_
    | refine At.ofOptSnd2 (by assumption) ?_ | apply At.mapAny | dsimp +zetaDelta only)

theorem State.working_keeps {P : Part → Prop} {s₀ s : State} (stn_ : P .stn) (w : Writer) (hs : At (Keeps P s₀) It s) : At (Keeps P s₀) It
    (State.working s w) := by
  unfold State.working
  with_reducible repeat' (first
    | assumption | (intro x; refine At.cut x ?_ ?_; rotate_left; intro _; clear_value x; rotate_left; unfold x) | intro _ | lift_lets
    | apply State.setIntake_keeps | apply At.ite | apply At.next | apply At.some | exact At.none | dsimp -zeta only [At.mkFst, At.mkSnd]
    | apply At.foldl | apply At.getD | apply At.fst | apply At.snd
    | ((conv => enter [3, 20]) <;> apply At.upd <;> first | exact .inl ‹_› | exact .inr rfl | skip)
    | ((conv => enter [3, 20]) <;> apply At.updCore) | split | exact At.ofMkFst ‹_› | exact At.ofMkSnd ‹_›
    | refine At.ofNext (by assumption) ?_ | refine At.ofFst (by assumption) ?_ | refine At.ofSnd (by assumption) ?_
    | refine At.ofOpt (by assumption) ?_ | refine At.ofOptSnd (by assumption) ?_ | refine At.ofOptFst (by assumption) ?_
    | refine At.ofOptSnd2 (by assumption) ?_ | apply At.mapAny | dsimp +zetaDelta only)

theorem State.plainWrite_keeps {P : Part → Prop} {s₀ s : State} (dict_ : P .dict) (mgmt_ : P .mgmt) (fb_ : P .fb) (stn_ : P .stn) (ses_ : P
    .ses) (tier_ : P .tier) (shape_ : P .shape) (text_ : P .text) (free_ : P .free) (w : Writer) (o : ObjSpec) (i : Nat) (j : Nat) (index :
    Nat) (sub : Nat) (v : Octets) (hs : At (Keeps P s₀) It s) : At (Keeps P s₀) It (State.plainWrite s w o i j index sub v) := by
  unfold State.plainWrite
  with_reducible repeat' (first
    | assumption | (intro x; refine At.cut x ?_ ?_; rotate_left; intro _; clear_value x; rotate_left; unfold x) | intro _ | lift_lets
    | apply State.reply_keeps | apply State.putWrite_keeps | apply State.working_keeps | apply At.ite | apply At.next | apply At.some
    | exact At.none | dsimp -zeta only [At.mkFst, At.mkSnd] | apply At.foldl | apply At.getD | apply At.fst | apply At.snd
    | ((conv => enter [3, 20]) <;> apply At.upd <;> first | exact .inl ‹_› | exact .inr rfl | skip)
    | ((conv => enter [3, 20]) <;> apply At.updCore) | split | exact At.ofMkFst ‹_› | exact At.ofMkSnd ‹_›
    | refine At.ofNext (by assumption) ?_ | refine At.ofFst (by assumption) ?_ | refine At.ofSnd (by assumption) ?_
    | refine At.ofOpt (by assumption) ?_ | refine At.ofOptSnd (by assumption) ?_ | refine At.ofOptFst (by assumption) ?_
    | refine At.ofOptSnd2 (by assumption) ?_ | apply At.mapAny | dsimp +zetaDelta only)

theorem State.persistEnd_keeps {P : Part → Prop} {s₀ s : State} (dict_ : P .dict) (mgmt_ : P .mgmt) (fb_ : P .fb) (stn_ : P .stn) (ses_ : P
    .ses) (tier_ : P .tier) (shape_ : P .shape) (text_ : P .text) (free_ : P .free) (ok : Bool) (hs : At (Keeps P s₀) It s) : At (Keeps P
    s₀) It (State.persistEnd s ok) := by
  unfold State.persistEnd
  with_reducible repeat' (first
    | assumption | (intro x; refine At.cut x ?_ ?_; rotate_left; intro _; clear_value x; rotate_left; unfold x) | intro _ | lift_lets
    | apply State.reply_keeps | apply State.putWrite_keeps | apply At.ite | apply At.next | apply At.some | exact At.none
    | dsimp -zeta only [At.mkFst, At.mkSnd] | apply At.foldl | apply At.getD | apply At.fst | apply At.snd
    | ((conv => enter [3, 20]) <;> apply At.upd <;> first | exact .inl ‹_› | exact .inr rfl | skip)
    | ((conv => enter [3, 20]) <;> apply At.updCore) | split | exact At.ofMkFst ‹_› | exact At.ofMkSnd ‹_›
    | refine At.ofNext (by assumption) ?_ | refine At.ofFst (by assumption) ?_ | refine At.ofSnd (by assumption) ?_
    | refine At.ofOpt (by assumption) ?_ | refine At.ofOptSnd (by assumption) ?_ | refine At.ofOptFst (by assumption) ?_
    | refine At.ofOptSnd2 (by assumption) ?_ | apply At.mapAny | dsimp +zetaDelta only)

theorem State.writeAt_keeps {P : Part → Prop} {s₀ s : State} (dict_ : P .dict) (mgmt_ : P .mgmt) (fb_ : P .fb) (stn_ : P .stn) (ses_ : P
    .ses) (tier_ : P .tier) (shape_ : P .shape) (text_ : P .text) (free_ : P .free) (w : Writer) (index : Nat) (sub : Nat) (v : Octets) (hs
    : At (Keeps P s₀) It s) : At (Keeps P s₀) It (State.writeAt s w index sub v) := by
  unfold State.writeAt
  with_reducible repeat' (first
    | assumption | (intro x; refine At.cut x ?_ ?_; rotate_left; intro _; clear_value x; rotate_left; unfold x) | intro _ | lift_lets
    | apply State.reply_keeps | apply State.plainWrite_keeps | apply At.ite | apply At.next | apply At.some | exact At.none
    | dsimp -zeta only [At.mkFst, At.mkSnd] | apply At.foldl | apply At.getD | apply At.fst | apply At.snd
    | ((conv => enter [3, 20]) <;> apply At.upd <;> first | exact .inl ‹_› | exact .inr rfl | skip)
    | ((conv => enter [3, 20]) <;> apply At.updCore) | split | exact At.ofMkFst ‹_› | exact At.ofMkSnd ‹_›
    | refine At.ofNext (by assumption) ?_ | refine At.ofFst (by assumption) ?_ | refine At.ofSnd (by assumption) ?_
    | refine At.ofOpt (by assumption) ?_ | refine At.ofOptSnd (by assumption) ?_ | refine At.ofOptFst (by assumption) ?_
    | refine At.ofOptSnd2 (by assumption) ?_ | apply At.mapAny | dsimp +zetaDelta only)

theorem State.applyConfig_keeps {P : Part → Prop} {s₀ s : State} (dict_ : P .dict) (ses_ : P .ses) (tier_ : P .tier) (shape_ : P .shape)
    (text_ : P .text) (free_ : P .free) (index : Nat) (sub : Nat) (v : Octets) (hs : At (Keeps P s₀) It s) : At (Keeps P s₀) It
    (State.applyConfig s index sub v) := by
  unfold State.applyConfig
  with_reducible repeat' (first
    | assumption | (intro x; refine At.cut x ?_ ?_; rotate_left; intro _; clear_value x; rotate_left; unfold x) | intro _ | lift_lets
    | apply State.putValue_keeps | apply At.ite | apply At.next | apply At.some | exact At.none | dsimp -zeta only [At.mkFst, At.mkSnd]
    | apply At.foldl | apply At.getD | apply At.fst | apply At.snd
    | ((conv => enter [3, 20]) <;> apply At.upd <;> first | exact .inl ‹_› | exact .inr rfl | skip)
    | ((conv => enter [3, 20]) <;> apply At.updCore) | split | exact At.ofMkFst ‹_› | exact At.ofMkSnd ‹_›
    | refine At.ofNext (by assumption) ?_ | refine At.ofFst (by assumption) ?_ | refine At.ofSnd (by assumption) ?_
    | refine At.ofOpt (by assumption) ?_ | refine At.ofOptSnd (by assumption) ?_ | refine At.ofOptFst (by assumption) ?_
    | refine At.ofOptSnd2 (by assumption) ?_ | apply At.mapAny | dsimp +zetaDelta only)

theorem execMoveCompletionLogRead_keeps {P : Part → Prop} {s₀ s : State} (dict_ : P .dict) (mgmt_ : P .mgmt) (fb_ : P .fb) (stn_ : P .stn)
    (tier_ : P .tier) (trv_ : P .trv) (w : Writer) (half : Nat) (hs : At (Keeps P s₀) It s) : At (Keeps P s₀) Nxt
    (execMoveCompletionLogRead w half s) := by
  unfold execMoveCompletionLogRead
  with_reducible repeat' (first
    | assumption | (intro x; refine At.cut x ?_ ?_; rotate_left; intro _; clear_value x; rotate_left; unfold x) | intro _ | lift_lets
    | apply State.serveRead_keeps | apply At.ite | apply At.next | apply At.some | exact At.none | dsimp -zeta only [At.mkFst, At.mkSnd]
    | apply At.foldl | apply At.getD | apply At.fst | apply At.snd
    | ((conv => enter [3, 20]) <;> apply At.upd <;> first | exact .inl ‹_› | exact .inr rfl | skip)
    | ((conv => enter [3, 20]) <;> apply At.updCore) | split | exact At.ofMkFst ‹_› | exact At.ofMkSnd ‹_›
    | refine At.ofNext (by assumption) ?_ | refine At.ofFst (by assumption) ?_ | refine At.ofSnd (by assumption) ?_
    | refine At.ofOpt (by assumption) ?_ | refine At.ofOptSnd (by assumption) ?_ | refine At.ofOptFst (by assumption) ?_
    | refine At.ofOptSnd2 (by assumption) ?_ | apply At.mapAny | dsimp +zetaDelta only)

theorem execHoldLogRead_keeps {P : Part → Prop} {s₀ s : State} (dict_ : P .dict) (mgmt_ : P .mgmt) (fb_ : P .fb) (stn_ : P .stn) (tier_ : P
    .tier) (trv_ : P .trv) (w : Writer) (hs : At (Keeps P s₀) It s) : At (Keeps P s₀) Nxt (execHoldLogRead w s) := by
  unfold execHoldLogRead
  with_reducible repeat' (first
    | assumption | (intro x; refine At.cut x ?_ ?_; rotate_left; intro _; clear_value x; rotate_left; unfold x) | intro _ | lift_lets
    | apply State.serveRead_keeps | apply At.ite | apply At.next | apply At.some | exact At.none | dsimp -zeta only [At.mkFst, At.mkSnd]
    | apply At.foldl | apply At.getD | apply At.fst | apply At.snd
    | ((conv => enter [3, 20]) <;> apply At.upd <;> first | exact .inl ‹_› | exact .inr rfl | skip)
    | ((conv => enter [3, 20]) <;> apply At.updCore) | split | exact At.ofMkFst ‹_› | exact At.ofMkSnd ‹_›
    | refine At.ofNext (by assumption) ?_ | refine At.ofFst (by assumption) ?_ | refine At.ofSnd (by assumption) ?_
    | refine At.ofOpt (by assumption) ?_ | refine At.ofOptSnd (by assumption) ?_ | refine At.ofOptFst (by assumption) ?_
    | refine At.ofOptSnd2 (by assumption) ?_ | apply At.mapAny | dsimp +zetaDelta only)

theorem execErrRead_keeps {P : Part → Prop} {s₀ s : State} (dict_ : P .dict) (mgmt_ : P .mgmt) (fb_ : P .fb) (stn_ : P .stn) (tier_ : P
    .tier) (trv_ : P .trv) (w : Writer) (hs : At (Keeps P s₀) It s) : At (Keeps P s₀) Nxt (execErrRead w s) := by
  unfold execErrRead
  with_reducible repeat' (first
    | assumption | (intro x; refine At.cut x ?_ ?_; rotate_left; intro _; clear_value x; rotate_left; unfold x) | intro _ | lift_lets
    | apply State.serveRead_keeps | apply At.ite | apply At.next | apply At.some | exact At.none | dsimp -zeta only [At.mkFst, At.mkSnd]
    | apply At.foldl | apply At.getD | apply At.fst | apply At.snd
    | ((conv => enter [3, 20]) <;> apply At.upd <;> first | exact .inl ‹_› | exact .inr rfl | skip)
    | ((conv => enter [3, 20]) <;> apply At.updCore) | split | exact At.ofMkFst ‹_› | exact At.ofMkSnd ‹_›
    | refine At.ofNext (by assumption) ?_ | refine At.ofFst (by assumption) ?_ | refine At.ofSnd (by assumption) ?_
    | refine At.ofOpt (by assumption) ?_ | refine At.ofOptSnd (by assumption) ?_ | refine At.ofOptFst (by assumption) ?_
    | refine At.ofOptSnd2 (by assumption) ?_ | apply At.mapAny | dsimp +zetaDelta only)

theorem execStnT3ExtentWrite_keeps {P : Part → Prop} {s₀ s : State} (dict_ : P .dict) (mgmt_ : P .mgmt) (fb_ : P .fb) (stn_ : P .stn) (ses_
    : P .ses) (tier_ : P .tier) (shape_ : P .shape) (text_ : P .text) (free_ : P .free) (w : Writer) (st : Nat) (e : Nat) (v : Octets) (hs
    : At (Keeps P s₀) It s) : At (Keeps P s₀) Nxt (execStnT3ExtentWrite w st e v s) := by
  unfold execStnT3ExtentWrite
  with_reducible repeat' (first
    | assumption | (intro x; refine At.cut x ?_ ?_; rotate_left; intro _; clear_value x; rotate_left; unfold x) | intro _ | lift_lets
    | apply State.writeAt_keeps | apply At.ite | apply At.next | apply At.some | exact At.none | dsimp -zeta only [At.mkFst, At.mkSnd]
    | apply At.foldl | apply At.getD | apply At.fst | apply At.snd
    | ((conv => enter [3, 20]) <;> apply At.upd <;> first | exact .inl ‹_› | exact .inr rfl | skip)
    | ((conv => enter [3, 20]) <;> apply At.updCore) | split | exact At.ofMkFst ‹_› | exact At.ofMkSnd ‹_›
    | refine At.ofNext (by assumption) ?_ | refine At.ofFst (by assumption) ?_ | refine At.ofSnd (by assumption) ?_
    | refine At.ofOpt (by assumption) ?_ | refine At.ofOptSnd (by assumption) ?_ | refine At.ofOptFst (by assumption) ?_
    | refine At.ofOptSnd2 (by assumption) ?_ | apply At.mapAny | dsimp +zetaDelta only)

theorem execStopSetWrite_keeps {P : Part → Prop} {s₀ s : State} (dict_ : P .dict) (mgmt_ : P .mgmt) (fb_ : P .fb) (stn_ : P .stn) (ses_ : P
    .ses) (tier_ : P .tier) (shape_ : P .shape) (text_ : P .text) (free_ : P .free) (w : Writer) (st : Nat) (k : Nat) (v : Octets) (hs : At
    (Keeps P s₀) It s) : At (Keeps P s₀) Nxt (execStopSetWrite w st k v s) := by
  unfold execStopSetWrite
  with_reducible repeat' (first
    | assumption | (intro x; refine At.cut x ?_ ?_; rotate_left; intro _; clear_value x; rotate_left; unfold x) | intro _ | lift_lets
    | apply State.writeAt_keeps | apply At.ite | apply At.next | apply At.some | exact At.none | dsimp -zeta only [At.mkFst, At.mkSnd]
    | apply At.foldl | apply At.getD | apply At.fst | apply At.snd
    | ((conv => enter [3, 20]) <;> apply At.upd <;> first | exact .inl ‹_› | exact .inr rfl | skip)
    | ((conv => enter [3, 20]) <;> apply At.updCore) | split | exact At.ofMkFst ‹_› | exact At.ofMkSnd ‹_›
    | refine At.ofNext (by assumption) ?_ | refine At.ofFst (by assumption) ?_ | refine At.ofSnd (by assumption) ?_
    | refine At.ofOpt (by assumption) ?_ | refine At.ofOptSnd (by assumption) ?_ | refine At.ofOptFst (by assumption) ?_
    | refine At.ofOptSnd2 (by assumption) ?_ | apply At.mapAny | dsimp +zetaDelta only)

theorem execBucketWrite_keeps {P : Part → Prop} {s₀ s : State} (dict_ : P .dict) (mgmt_ : P .mgmt) (fb_ : P .fb) (stn_ : P .stn) (ses_ : P
    .ses) (tier_ : P .tier) (shape_ : P .shape) (text_ : P .text) (free_ : P .free) (w : Writer) (st : Option Nat) (res : Nat) (burst :
    Bool) (v : Nat) (hs : At (Keeps P s₀) It s) : At (Keeps P s₀) Nxt (execBucketWrite w st res burst v s) := by
  unfold execBucketWrite
  with_reducible repeat' (first
    | assumption | (intro x; refine At.cut x ?_ ?_; rotate_left; intro _; clear_value x; rotate_left; unfold x) | intro _ | lift_lets
    | apply State.writeAt_keeps | apply At.ite | apply At.next | apply At.some | exact At.none | dsimp -zeta only [At.mkFst, At.mkSnd]
    | apply At.foldl | apply At.getD | apply At.fst | apply At.snd
    | ((conv => enter [3, 20]) <;> apply At.upd <;> first | exact .inl ‹_› | exact .inr rfl | skip)
    | ((conv => enter [3, 20]) <;> apply At.updCore) | split | exact At.ofMkFst ‹_› | exact At.ofMkSnd ‹_›
    | refine At.ofNext (by assumption) ?_ | refine At.ofFst (by assumption) ?_ | refine At.ofSnd (by assumption) ?_
    | refine At.ofOpt (by assumption) ?_ | refine At.ofOptSnd (by assumption) ?_ | refine At.ofOptFst (by assumption) ?_
    | refine At.ofOptSnd2 (by assumption) ?_ | apply At.mapAny | dsimp +zetaDelta only)

theorem execPersistProgrammed_keeps {P : Part → Prop} {s₀ s : State} (dict_ : P .dict) (mgmt_ : P .mgmt) (fb_ : P .fb) (stn_ : P .stn)
    (ses_ : P .ses) (tier_ : P .tier) (shape_ : P .shape) (text_ : P .text) (free_ : P .free) (ok : Bool) (hs : At (Keeps P s₀) It s) : At
    (Keeps P s₀) Nxt (execPersistProgrammed ok s) := by
  unfold execPersistProgrammed
  with_reducible repeat' (first
    | assumption | (intro x; refine At.cut x ?_ ?_; rotate_left; intro _; clear_value x; rotate_left; unfold x) | intro _ | lift_lets
    | apply State.persistEnd_keeps | apply At.ite | apply At.next | apply At.some | exact At.none | dsimp -zeta only [At.mkFst, At.mkSnd]
    | apply At.foldl | apply At.getD | apply At.fst | apply At.snd
    | ((conv => enter [3, 20]) <;> apply At.upd <;> first | exact .inl ‹_› | exact .inr rfl | skip)
    | ((conv => enter [3, 20]) <;> apply At.updCore) | split | exact At.ofMkFst ‹_› | exact At.ofMkSnd ‹_›
    | refine At.ofNext (by assumption) ?_ | refine At.ofFst (by assumption) ?_ | refine At.ofSnd (by assumption) ?_
    | refine At.ofOpt (by assumption) ?_ | refine At.ofOptSnd (by assumption) ?_ | refine At.ofOptFst (by assumption) ?_
    | refine At.ofOptSnd2 (by assumption) ?_ | apply At.mapAny | dsimp +zetaDelta only)

/-! ### Machine/Replay.lean -/

theorem State.recsAgain_keeps {P : Part → Prop} {s₀ s : State} (dict_ : P .dict) (fb_ : P .fb) (half : Nat) (sid : Nat) (stage : Nat) (rs :
    List Rec) (hs : At (Keeps P s₀) It s) : At (Keeps P s₀) (Fst It) (State.recsAgain s half sid stage rs) := by
  unfold State.recsAgain
  with_reducible repeat' (first
    | assumption | (intro x; refine At.cut x ?_ ?_; rotate_left; intro _; clear_value x; rotate_left; unfold x) | intro _ | lift_lets
    | apply State.recAgain_keeps | apply State.seqAdd_keeps | apply At.ite | apply At.next | apply At.some | exact At.none
    | dsimp -zeta only [At.mkFst, At.mkSnd] | apply At.foldl | apply At.getD | apply At.fst | apply At.snd
    | ((conv => enter [3, 20]) <;> apply At.upd <;> first | exact .inl ‹_› | exact .inr rfl | skip)
    | ((conv => enter [3, 20]) <;> apply At.updCore) | split | exact At.ofMkFst ‹_› | exact At.ofMkSnd ‹_›
    | refine At.ofNext (by assumption) ?_ | refine At.ofFst (by assumption) ?_ | refine At.ofSnd (by assumption) ?_
    | refine At.ofOpt (by assumption) ?_ | refine At.ofOptSnd (by assumption) ?_ | refine At.ofOptFst (by assumption) ?_
    | refine At.ofOptSnd2 (by assumption) ?_ | apply At.mapAny | dsimp +zetaDelta only)

theorem State.renamePrefix_keeps {P : Part → Prop} {s₀ s : State} (ses_ : P .ses) (old : Nat) (new : Nat) (hs : At (Keeps P s₀) It s) : At
    (Keeps P s₀) It (State.renamePrefix s old new) := by
  unfold State.renamePrefix
  with_reducible repeat' (first
    | assumption | (intro x; refine At.cut x ?_ ?_; rotate_left; intro _; clear_value x; rotate_left; unfold x) | intro _ | lift_lets
    | apply State.setSess_keeps | apply State.eachSess_keeps | apply At.ite | apply At.next | apply At.some | exact At.none
    | dsimp -zeta only [At.mkFst, At.mkSnd] | apply At.foldl | apply At.getD | apply At.fst | apply At.snd
    | ((conv => enter [3, 20]) <;> apply At.upd <;> first | exact .inl ‹_› | exact .inr rfl | skip)
    | ((conv => enter [3, 20]) <;> apply At.updCore) | split | exact At.ofMkFst ‹_› | exact At.ofMkSnd ‹_›
    | refine At.ofNext (by assumption) ?_ | refine At.ofFst (by assumption) ?_ | refine At.ofSnd (by assumption) ?_
    | refine At.ofOpt (by assumption) ?_ | refine At.ofOptSnd (by assumption) ?_ | refine At.ofOptFst (by assumption) ?_
    | refine At.ofOptSnd2 (by assumption) ?_ | apply At.mapAny | dsimp +zetaDelta only)

theorem State.replayInput_keeps {P : Part → Prop} {s₀ s : State} (dict_ : P .dict) (stn_ : P .stn) (ses_ : P .ses) (tier_ : P .tier) (free_
    : P .free) (i : Nat) (r : InputRec) (hs : At (Keeps P s₀) It s) : At (Keeps P s₀) It (State.replayInput s i r) := by
  unfold State.replayInput
  with_reducible repeat' (first
    | assumption | (intro x; refine At.cut x ?_ ?_; rotate_left; intro _; clear_value x; rotate_left; unfold x) | intro _ | lift_lets
    | apply State.setSess_keeps | apply State.tokenizeRec_keeps | apply At.ite | apply At.next | apply At.some | exact At.none
    | dsimp -zeta only [At.mkFst, At.mkSnd] | apply At.foldl | apply At.getD | apply At.fst | apply At.snd
    | ((conv => enter [3, 20]) <;> apply At.upd <;> first | exact .inl ‹_› | exact .inr rfl | skip)
    | ((conv => enter [3, 20]) <;> apply At.updCore) | split | exact At.ofMkFst ‹_› | exact At.ofMkSnd ‹_›
    | refine At.ofNext (by assumption) ?_ | refine At.ofFst (by assumption) ?_ | refine At.ofSnd (by assumption) ?_
    | refine At.ofOpt (by assumption) ?_ | refine At.ofOptSnd (by assumption) ?_ | refine At.ofOptFst (by assumption) ?_
    | refine At.ofOptSnd2 (by assumption) ?_ | apply At.mapAny | dsimp +zetaDelta only)

theorem State.replayTurn_keeps {P : Part → Prop} {s₀ s : State} (dict_ : P .dict) (ses_ : P .ses) (tier_ : P .tier) (free_ : P .free) (i :
    Nat) (hs : At (Keeps P s₀) It s) : At (Keeps P s₀) It (State.replayTurn s i) := by
  unfold State.replayTurn
  with_reducible repeat' (first
    | assumption | (intro x; refine At.cut x ?_ ?_; rotate_left; intro _; clear_value x; rotate_left; unfold x) | intro _ | lift_lets
    | apply State.modSess_keeps | apply State.turnStart_keeps | apply At.ite | apply At.next | apply At.some | exact At.none
    | dsimp -zeta only [At.mkFst, At.mkSnd] | apply At.foldl | apply At.getD | apply At.fst | apply At.snd
    | ((conv => enter [3, 20]) <;> apply At.upd <;> first | exact .inl ‹_› | exact .inr rfl | skip)
    | ((conv => enter [3, 20]) <;> apply At.updCore) | split | exact At.ofMkFst ‹_› | exact At.ofMkSnd ‹_›
    | refine At.ofNext (by assumption) ?_ | refine At.ofFst (by assumption) ?_ | refine At.ofSnd (by assumption) ?_
    | refine At.ofOpt (by assumption) ?_ | refine At.ofOptSnd (by assumption) ?_ | refine At.ofOptFst (by assumption) ?_
    | refine At.ofOptSnd2 (by assumption) ?_ | apply At.mapAny | dsimp +zetaDelta only)

theorem State.applyRec_keeps {P : Part → Prop} {s₀ s : State} (dict_ : P .dict) (stn_ : P .stn) (ses_ : P .ses) (tier_ : P .tier) (free_ :
    P .free) (regen : Bool) (i : Nat) (r : Rec) (hs : At (Keeps P s₀) It s) : At (Keeps P s₀) It (State.applyRec s regen i r) := by
  unfold State.applyRec
  with_reducible repeat' (first
    | assumption | (intro x; refine At.cut x ?_ ?_; rotate_left; intro _; clear_value x; rotate_left; unfold x) | intro _ | lift_lets
    | apply State.addObj_keeps | apply State.setSess_keeps | apply State.modSess_keeps | apply State.replayInput_keeps
    | apply State.replayTurn_keeps | apply At.ite | apply At.next | apply At.some | exact At.none | dsimp -zeta only [At.mkFst, At.mkSnd]
    | apply At.foldl | apply At.getD | apply At.fst | apply At.snd
    | ((conv => enter [3, 20]) <;> apply At.upd <;> first | exact .inl ‹_› | exact .inr rfl | skip)
    | ((conv => enter [3, 20]) <;> apply At.updCore) | split | exact At.ofMkFst ‹_› | exact At.ofMkSnd ‹_›
    | refine At.ofNext (by assumption) ?_ | refine At.ofFst (by assumption) ?_ | refine At.ofSnd (by assumption) ?_
    | refine At.ofOpt (by assumption) ?_ | refine At.ofOptSnd (by assumption) ?_ | refine At.ofOptFst (by assumption) ?_
    | refine At.ofOptSnd2 (by assumption) ?_ | apply At.mapAny | dsimp +zetaDelta only)

theorem State.takeRef_keeps {P : Part → Prop} {s₀ s : State} (ses_ : P .ses) (i : Nat) (gone : Bool) (hs : At (Keeps P s₀) It s) : At
    (Keeps P s₀) It (State.takeRef s i gone) := by
  unfold State.takeRef
  with_reducible repeat' (first
    | assumption | (intro x; refine At.cut x ?_ ?_; rotate_left; intro _; clear_value x; rotate_left; unfold x) | intro _ | lift_lets
    | apply State.setSess_keeps | apply At.ite | apply At.next | apply At.some | exact At.none | dsimp -zeta only [At.mkFst, At.mkSnd]
    | apply At.foldl | apply At.getD | apply At.fst | apply At.snd
    | ((conv => enter [3, 20]) <;> apply At.upd <;> first | exact .inl ‹_› | exact .inr rfl | skip)
    | ((conv => enter [3, 20]) <;> apply At.updCore) | split | exact At.ofMkFst ‹_› | exact At.ofMkSnd ‹_›
    | refine At.ofNext (by assumption) ?_ | refine At.ofFst (by assumption) ?_ | refine At.ofSnd (by assumption) ?_
    | refine At.ofOpt (by assumption) ?_ | refine At.ofOptSnd (by assumption) ?_ | refine At.ofOptFst (by assumption) ?_
    | refine At.ofOptSnd2 (by assumption) ?_ | apply At.mapAny | dsimp +zetaDelta only)

theorem State.rebuildDesc_keeps {P : Part → Prop} {s₀ s : State} (dict_ : P .dict) (stn_ : P .stn) (ses_ : P .ses) (tier_ : P .tier) (free_
    : P .free) (old : Session) (i : Nat) (g : Nat) (half : Nat) (keepPages : Bool) (shared : Nat → Option Session) (rs : List Rec) (hs : At
    (Keeps P s₀) It s) : At (Keeps P s₀) It (State.rebuildDesc s old i g half keepPages shared rs) := by
  unfold State.rebuildDesc
  with_reducible repeat' (first
    | assumption | (intro x; refine At.cut x ?_ ?_; rotate_left; intro _; clear_value x; rotate_left; unfold x) | intro _ | lift_lets
    | apply State.addObj_keeps | apply State.setSess_keeps | apply State.spillStack_keeps | apply State.applyRec_keeps
    | apply State.takeRef_keeps | apply At.ite | apply At.next | apply At.some | exact At.none | dsimp -zeta only [At.mkFst, At.mkSnd]
    | apply At.foldl | apply At.getD | apply At.fst | apply At.snd
    | ((conv => enter [3, 20]) <;> apply At.upd <;> first | exact .inl ‹_› | exact .inr rfl | skip)
    | ((conv => enter [3, 20]) <;> apply At.updCore) | split | exact At.ofMkFst ‹_› | exact At.ofMkSnd ‹_›
    | refine At.ofNext (by assumption) ?_ | refine At.ofFst (by assumption) ?_ | refine At.ofSnd (by assumption) ?_
    | refine At.ofOpt (by assumption) ?_ | refine At.ofOptSnd (by assumption) ?_ | refine At.ofOptFst (by assumption) ?_
    | refine At.ofOptSnd2 (by assumption) ?_ | apply At.mapAny | dsimp +zetaDelta only)

theorem State.repost_keeps {P : Part → Prop} {s₀ s : State} (dict_ : P .dict) (fb_ : P .fb) (stn_ : P .stn) (ses_ : P .ses) (tier_ : P
    .tier) (trv_ : P .trv) (srch_ : P .srch) (i : Nat) (hs : At (Keeps P s₀) It s) : At (Keeps P s₀) It (State.repost s i) := by
  unfold State.repost
  with_reducible repeat' (first
    | assumption | (intro x; refine At.cut x ?_ ?_; rotate_left; intro _; clear_value x; rotate_left; unfold x) | intro _ | lift_lets
    | apply State.setSess_keeps | apply State.postRing_keeps | apply At.ite | apply At.next | apply At.some | exact At.none
    | dsimp -zeta only [At.mkFst, At.mkSnd] | apply At.foldl | apply At.getD | apply At.fst | apply At.snd
    | ((conv => enter [3, 20]) <;> apply At.upd <;> first | exact .inl ‹_› | exact .inr rfl | skip)
    | ((conv => enter [3, 20]) <;> apply At.updCore) | split | exact At.ofMkFst ‹_› | exact At.ofMkSnd ‹_›
    | refine At.ofNext (by assumption) ?_ | refine At.ofFst (by assumption) ?_ | refine At.ofSnd (by assumption) ?_
    | refine At.ofOpt (by assumption) ?_ | refine At.ofOptSnd (by assumption) ?_ | refine At.ofOptFst (by assumption) ?_
    | refine At.ofOptSnd2 (by assumption) ?_ | apply At.mapAny | dsimp +zetaDelta only)

theorem State.deliveredBack_keeps {P : Part → Prop} {s₀ s : State} (ses_ : P .ses) (x : Session) (hs : At (Keeps P s₀) It s) : At (Keeps P
    s₀) It (State.deliveredBack s x) := by
  unfold State.deliveredBack
  with_reducible repeat' (first
    | assumption | (intro x; refine At.cut x ?_ ?_; rotate_left; intro _; clear_value x; rotate_left; unfold x) | intro _ | lift_lets
    | apply State.setSess_keeps | apply At.ite | apply At.next | apply At.some | exact At.none | dsimp -zeta only [At.mkFst, At.mkSnd]
    | apply At.foldl | apply At.getD | apply At.fst | apply At.snd
    | ((conv => enter [3, 20]) <;> apply At.upd <;> first | exact .inl ‹_› | exact .inr rfl | skip)
    | ((conv => enter [3, 20]) <;> apply At.updCore) | split | exact At.ofMkFst ‹_› | exact At.ofMkSnd ‹_›
    | refine At.ofNext (by assumption) ?_ | refine At.ofFst (by assumption) ?_ | refine At.ofSnd (by assumption) ?_
    | refine At.ofOpt (by assumption) ?_ | refine At.ofOptSnd (by assumption) ?_ | refine At.ofOptFst (by assumption) ?_
    | refine At.ofOptSnd2 (by assumption) ?_ | apply At.mapAny | dsimp +zetaDelta only)

theorem State.rollForward_keeps {P : Part → Prop} {s₀ s : State} (dict_ : P .dict) (fb_ : P .fb) (stn_ : P .stn) (ses_ : P .ses) (tier_ : P
    .tier) (trv_ : P .trv) (srch_ : P .srch) (free_ : P .free) (half : Nat) (hs : At (Keeps P s₀) It s) : At (Keeps P s₀) It
    (State.rollForward s half) := by
  unfold State.rollForward
  with_reducible repeat' (first
    | assumption | (intro x; refine At.cut x ?_ ?_; rotate_left; intro _; clear_value x; rotate_left; unfold x) | intro _ | lift_lets
    | apply State.setBook_keeps | apply State.forgetOwed_keeps | apply State.modSess_keeps | apply State.dropHandle_keeps
    | apply State.freePages_keeps | apply State.freePt_keeps | apply State.freeQueue_keeps | apply State.dropRef_keeps
    | apply State.eachSess_keeps | apply State.vxReset_keeps | apply State.vxReplay_keeps | apply State.rebuildDesc_keeps
    | apply State.repost_keeps | apply State.deliveredBack_keeps | apply At.ite | apply At.next | apply At.some | exact At.none
    | dsimp -zeta only [At.mkFst, At.mkSnd] | apply At.foldl | apply At.getD | apply At.fst | apply At.snd
    | ((conv => enter [3, 20]) <;> apply At.upd <;> first | exact .inl ‹_› | exact .inr rfl | skip)
    | ((conv => enter [3, 20]) <;> apply At.updCore) | split | exact At.ofMkFst ‹_› | exact At.ofMkSnd ‹_›
    | refine At.ofNext (by assumption) ?_ | refine At.ofFst (by assumption) ?_ | refine At.ofSnd (by assumption) ?_
    | refine At.ofOpt (by assumption) ?_ | refine At.ofOptSnd (by assumption) ?_ | refine At.ofOptFst (by assumption) ?_
    | refine At.ofOptSnd2 (by assumption) ?_ | apply At.mapAny | dsimp +zetaDelta only)

theorem State.reviveRebuilt_keeps {P : Part → Prop} {s₀ s : State} (dict_ : P .dict) (ses_ : P .ses) (tier_ : P .tier) (free_ : P .free) (i
    : Nat) (cons : Nat) (hs : At (Keeps P s₀) It s) : At (Keeps P s₀) It (State.reviveRebuilt s i cons) := by
  unfold State.reviveRebuilt
  with_reducible repeat' (first
    | assumption | (intro x; refine At.cut x ?_ ?_; rotate_left; intro _; clear_value x; rotate_left; unfold x) | intro _ | lift_lets
    | apply State.setSess_keeps | apply State.growPt_keeps | apply At.ite | apply At.next | apply At.some | exact At.none
    | dsimp -zeta only [At.mkFst, At.mkSnd] | apply At.foldl | apply At.getD | apply At.fst | apply At.snd
    | ((conv => enter [3, 20]) <;> apply At.upd <;> first | exact .inl ‹_› | exact .inr rfl | skip)
    | ((conv => enter [3, 20]) <;> apply At.updCore) | split | exact At.ofMkFst ‹_› | exact At.ofMkSnd ‹_›
    | refine At.ofNext (by assumption) ?_ | refine At.ofFst (by assumption) ?_ | refine At.ofSnd (by assumption) ?_
    | refine At.ofOpt (by assumption) ?_ | refine At.ofOptSnd (by assumption) ?_ | refine At.ofOptFst (by assumption) ?_
    | refine At.ofOptSnd2 (by assumption) ?_ | apply At.mapAny | dsimp +zetaDelta only)

theorem State.moveRebuilt_keeps {P : Part → Prop} {s₀ s : State} (dict_ : P .dict) (fb_ : P .fb) (stn_ : P .stn) (ses_ : P .ses) (tier_ : P
    .tier) (trv_ : P .trv) (srch_ : P .srch) (free_ : P .free) (x : Session) (tgt : Nat) (rs : List Rec) (cons : Nat) (shared : Nat →
    Option Session) (hs : At (Keeps P s₀) It s) : At (Keeps P s₀) (Fst It) (State.moveRebuilt s x tgt rs cons shared) := by
  unfold State.moveRebuilt
  with_reducible repeat' (first
    | assumption | (intro x; refine At.cut x ?_ ?_; rotate_left; intro _; clear_value x; rotate_left; unfold x) | intro _ | lift_lets
    | apply State.setBook_keeps | apply State.takeIndex_keeps | apply State.enterHandles_keeps | apply State.dropHandle_keeps
    | apply State.freeQueue_keeps | apply State.enterFailed_keeps | apply State.recsAgain_keeps | apply State.renamePrefix_keeps
    | apply State.rebuildDesc_keeps | apply State.repost_keeps | apply State.reviveRebuilt_keeps | apply At.ite | apply At.next
    | apply At.some | exact At.none | dsimp -zeta only [At.mkFst, At.mkSnd] | apply At.foldl | apply At.getD | apply At.fst | apply At.snd
    | ((conv => enter [3, 20]) <;> apply At.upd <;> first | exact .inl ‹_› | exact .inr rfl | skip)
    | ((conv => enter [3, 20]) <;> apply At.updCore) | split | exact At.ofMkFst ‹_› | exact At.ofMkSnd ‹_›
    | refine At.ofNext (by assumption) ?_ | refine At.ofFst (by assumption) ?_ | refine At.ofSnd (by assumption) ?_
    | refine At.ofOpt (by assumption) ?_ | refine At.ofOptSnd (by assumption) ?_ | refine At.ofOptFst (by assumption) ?_
    | refine At.ofOptSnd2 (by assumption) ?_ | apply At.mapAny | dsimp +zetaDelta only)

theorem State.descAgain_keeps {P : Part → Prop} {s₀ s : State} (dict_ : P .dict) (fb_ : P .fb) (stn_ : P .stn) (ses_ : P .ses) (tier_ : P
    .tier) (trv_ : P .trv) (srch_ : P .srch) (free_ : P .free) (x : Session) (hs : At (Keeps P s₀) It s) : At (Keeps P s₀) It
    (State.descAgain s x) := by
  unfold State.descAgain
  with_reducible repeat' (first
    | assumption | (intro x; refine At.cut x ?_ ?_; rotate_left; intro _; clear_value x; rotate_left; unfold x) | intro _ | lift_lets
    | apply State.freePages_keeps | apply State.freeQueue_keeps | apply State.rebuildDesc_keeps | apply State.repost_keeps
    | apply State.reviveRebuilt_keeps | apply At.ite | apply At.next | apply At.some | exact At.none
    | dsimp -zeta only [At.mkFst, At.mkSnd] | apply At.foldl | apply At.getD | apply At.fst | apply At.snd
    | ((conv => enter [3, 20]) <;> apply At.upd <;> first | exact .inl ‹_› | exact .inr rfl | skip)
    | ((conv => enter [3, 20]) <;> apply At.updCore) | split | exact At.ofMkFst ‹_› | exact At.ofMkSnd ‹_›
    | refine At.ofNext (by assumption) ?_ | refine At.ofFst (by assumption) ?_ | refine At.ofSnd (by assumption) ?_
    | refine At.ofOpt (by assumption) ?_ | refine At.ofOptSnd (by assumption) ?_ | refine At.ofOptFst (by assumption) ?_
    | refine At.ofOptSnd2 (by assumption) ?_ | apply At.mapAny | dsimp +zetaDelta only)

theorem State.readDesc_keeps {P : Part → Prop} {s₀ s : State} (dict_ : P .dict) (fb_ : P .fb) (stn_ : P .stn) (ses_ : P .ses) (tier_ : P
    .tier) (trv_ : P .trv) (srch_ : P .srch) (free_ : P .free) (i : Nat) (o : Octets) (hs : At (Keeps P s₀) It s) : At (Keeps P s₀) It
    (State.readDesc s i o) := by
  unfold State.readDesc
  with_reducible repeat' (first
    | assumption | (intro x; refine At.cut x ?_ ?_; rotate_left; intro _; clear_value x; rotate_left; unfold x) | intro _ | lift_lets
    | apply State.freePt_keeps | apply State.enterFailed_keeps | apply State.descAgain_keeps | apply At.ite | apply At.next
    | apply At.some | exact At.none | dsimp -zeta only [At.mkFst, At.mkSnd] | apply At.foldl | apply At.getD | apply At.fst | apply At.snd
    | ((conv => enter [3, 20]) <;> apply At.upd <;> first | exact .inl ‹_› | exact .inr rfl | skip)
    | ((conv => enter [3, 20]) <;> apply At.updCore) | split | exact At.ofMkFst ‹_› | exact At.ofMkSnd ‹_›
    | refine At.ofNext (by assumption) ?_ | refine At.ofFst (by assumption) ?_ | refine At.ofSnd (by assumption) ?_
    | refine At.ofOpt (by assumption) ?_ | refine At.ofOptSnd (by assumption) ?_ | refine At.ofOptFst (by assumption) ?_
    | refine At.ofOptSnd2 (by assumption) ?_ | apply At.mapAny | dsimp +zetaDelta only)

theorem State.readDescs_keeps {P : Part → Prop} {s₀ s : State} (dict_ : P .dict) (fb_ : P .fb) (stn_ : P .stn) (ses_ : P .ses) (tier_ : P
    .tier) (trv_ : P .trv) (srch_ : P .srch) (free_ : P .free) (l : List (Nat × Octets)) (hs : At (Keeps P s₀) It s) : At (Keeps P s₀) It
    (State.readDescs s l) := by
  unfold State.readDescs
  with_reducible repeat' (first
    | assumption | (intro x; refine At.cut x ?_ ?_; rotate_left; intro _; clear_value x; rotate_left; unfold x) | intro _ | lift_lets
    | apply State.readDesc_keeps | apply At.ite | apply At.next | apply At.some | exact At.none | dsimp -zeta only [At.mkFst, At.mkSnd]
    | apply At.foldl | apply At.getD | apply At.fst | apply At.snd
    | ((conv => enter [3, 20]) <;> apply At.upd <;> first | exact .inl ‹_› | exact .inr rfl | skip)
    | ((conv => enter [3, 20]) <;> apply At.updCore) | split | exact At.ofMkFst ‹_› | exact At.ofMkSnd ‹_›
    | refine At.ofNext (by assumption) ?_ | refine At.ofFst (by assumption) ?_ | refine At.ofSnd (by assumption) ?_
    | refine At.ofOpt (by assumption) ?_ | refine At.ofOptSnd (by assumption) ?_ | refine At.ofOptFst (by assumption) ?_
    | refine At.ofOptSnd2 (by assumption) ?_ | apply At.mapAny | dsimp +zetaDelta only)

/-! ### Machine/Journal.lean -/

theorem State.runEffect_keeps {P : Part → Prop} {s₀ s : State} (dict_ : P .dict) (fb_ : P .fb) (stn_ : P .stn) (ses_ : P .ses) (tier_ : P
    .tier) (trv_ : P .trv) (srch_ : P .srch) (free_ : P .free) (pos : Nat) (y2 : DurEffect) (hs : At (Keeps P s₀) It s) : At (Keeps P s₀)
    It (State.runEffect s pos y2) := by
  unfold State.runEffect
  with_reducible repeat' (first
    | assumption | (intro x; refine At.cut x ?_ ?_; rotate_left; intro _; clear_value x; rotate_left; unfold x) | intro _ | lift_lets
    | apply State.freePages_keeps | apply State.completeAccept_keeps | apply State.startRevive_keeps | apply State.postRing_keeps
    | apply At.ite | apply At.next | apply At.some | exact At.none | dsimp -zeta only [At.mkFst, At.mkSnd] | apply At.foldl
    | apply At.getD | apply At.fst | apply At.snd
    | ((conv => enter [3, 20]) <;> apply At.upd <;> first | exact .inl ‹_› | exact .inr rfl | skip)
    | ((conv => enter [3, 20]) <;> apply At.updCore) | split | exact At.ofMkFst ‹_› | exact At.ofMkSnd ‹_›
    | refine At.ofNext (by assumption) ?_ | refine At.ofFst (by assumption) ?_ | refine At.ofSnd (by assumption) ?_
    | refine At.ofOpt (by assumption) ?_ | refine At.ofOptSnd (by assumption) ?_ | refine At.ofOptFst (by assumption) ?_
    | refine At.ofOptSnd2 (by assumption) ?_ | apply At.mapAny | dsimp +zetaDelta only)

theorem State.runWaits_keeps {P : Part → Prop} {s₀ s : State} (dict_ : P .dict) (fb_ : P .fb) (stn_ : P .stn) (ses_ : P .ses) (tier_ : P
    .tier) (trv_ : P .trv) (srch_ : P .srch) (free_ : P .free) (half : Nat) (p : DurWait → Bool) (hs : At (Keeps P s₀) It s) : At (Keeps P
    s₀) It (State.runWaits s half p) := by
  unfold State.runWaits
  with_reducible repeat' (first
    | assumption | (intro x; refine At.cut x ?_ ?_; rotate_left; intro _; clear_value x; rotate_left; unfold x) | intro _ | lift_lets
    | apply State.setBook_keeps | apply State.runEffect_keeps | apply At.ite | apply At.next | apply At.some | exact At.none
    | dsimp -zeta only [At.mkFst, At.mkSnd] | apply At.foldl | apply At.getD | apply At.fst | apply At.snd
    | ((conv => enter [3, 20]) <;> apply At.upd <;> first | exact .inl ‹_› | exact .inr rfl | skip)
    | ((conv => enter [3, 20]) <;> apply At.updCore) | split | exact At.ofMkFst ‹_› | exact At.ofMkSnd ‹_›
    | refine At.ofNext (by assumption) ?_ | refine At.ofFst (by assumption) ?_ | refine At.ofSnd (by assumption) ?_
    | refine At.ofOpt (by assumption) ?_ | refine At.ofOptSnd (by assumption) ?_ | refine At.ofOptFst (by assumption) ?_
    | refine At.ofOptSnd2 (by assumption) ?_ | apply At.mapAny | dsimp +zetaDelta only)

theorem State.toWitness_keeps {P : Part → Prop} {s₀ s : State} (fb_ : P .fb) (stn_ : P .stn) (fab_ : P .fab) (rs : List Rec) (hs : At
    (Keeps P s₀) It s) : At (Keeps P s₀) It (State.toWitness s rs) := by
  unfold State.toWitness
  with_reducible repeat' (first
    | assumption | (intro x; refine At.cut x ?_ ?_; rotate_left; intro _; clear_value x; rotate_left; unfold x) | intro _ | lift_lets
    | apply State.setStation_keeps | apply State.fabSend_keeps | apply At.ite | apply At.next | apply At.some | exact At.none
    | dsimp -zeta only [At.mkFst, At.mkSnd] | apply At.foldl | apply At.getD | apply At.fst | apply At.snd
    | ((conv => enter [3, 20]) <;> apply At.upd <;> first | exact .inl ‹_› | exact .inr rfl | skip)
    | ((conv => enter [3, 20]) <;> apply At.updCore) | split | exact At.ofMkFst ‹_› | exact At.ofMkSnd ‹_›
    | refine At.ofNext (by assumption) ?_ | refine At.ofFst (by assumption) ?_ | refine At.ofSnd (by assumption) ?_
    | refine At.ofOpt (by assumption) ?_ | refine At.ofOptSnd (by assumption) ?_ | refine At.ofOptFst (by assumption) ?_
    | refine At.ofOptSnd2 (by assumption) ?_ | apply At.mapAny | dsimp +zetaDelta only)

theorem execJournalBatchClose_keeps {P : Part → Prop} {s₀ s : State} (dict_ : P .dict) (fb_ : P .fb) (stn_ : P .stn) (fab_ : P .fab) (half
    : Nat) (hs : At (Keeps P s₀) It s) : At (Keeps P s₀) Nxt (execJournalBatchClose half s) := by
  unfold execJournalBatchClose
  with_reducible repeat' (first
    | assumption | (intro x; refine At.cut x ?_ ?_; rotate_left; intro _; clear_value x; rotate_left; unfold x) | intro _ | lift_lets
    | apply State.setBook_keeps | apply State.toWitness_keeps | apply At.ite | apply At.next | apply At.some | exact At.none
    | dsimp -zeta only [At.mkFst, At.mkSnd] | apply At.foldl | apply At.getD | apply At.fst | apply At.snd
    | ((conv => enter [3, 20]) <;> apply At.upd <;> first | exact .inl ‹_› | exact .inr rfl | skip)
    | ((conv => enter [3, 20]) <;> apply At.updCore) | split | exact At.ofMkFst ‹_› | exact At.ofMkSnd ‹_›
    | refine At.ofNext (by assumption) ?_ | refine At.ofFst (by assumption) ?_ | refine At.ofSnd (by assumption) ?_
    | refine At.ofOpt (by assumption) ?_ | refine At.ofOptSnd (by assumption) ?_ | refine At.ofOptFst (by assumption) ?_
    | refine At.ofOptSnd2 (by assumption) ?_ | apply At.mapAny | dsimp +zetaDelta only)

theorem execCompaction_keeps {P : Part → Prop} {s₀ s : State} (dict_ : P .dict) (fb_ : P .fb) (fab_ : P .fab) (half : Nat) (hs : At (Keeps
    P s₀) It s) : At (Keeps P s₀) Nxt (execCompaction half s) := by
  unfold execCompaction
  with_reducible repeat' (first
    | assumption | (intro x; refine At.cut x ?_ ?_; rotate_left; intro _; clear_value x; rotate_left; unfold x) | intro _ | lift_lets
    | apply State.bump_keeps | apply State.setBook_keeps | apply State.fabSend_keeps | apply At.ite | apply At.next | apply At.some
    | exact At.none | dsimp -zeta only [At.mkFst, At.mkSnd] | apply At.foldl | apply At.getD | apply At.fst | apply At.snd
    | ((conv => enter [3, 20]) <;> apply At.upd <;> first | exact .inl ‹_› | exact .inr rfl | skip)
    | ((conv => enter [3, 20]) <;> apply At.updCore) | split | exact At.ofMkFst ‹_› | exact At.ofMkSnd ‹_›
    | refine At.ofNext (by assumption) ?_ | refine At.ofFst (by assumption) ?_ | refine At.ofSnd (by assumption) ?_
    | refine At.ofOpt (by assumption) ?_ | refine At.ofOptSnd (by assumption) ?_ | refine At.ofOptFst (by assumption) ?_
    | refine At.ofOptSnd2 (by assumption) ?_ | apply At.mapAny | dsimp +zetaDelta only)

theorem State.enterWitness_keeps {P : Part → Prop} {s₀ s : State} (dict_ : P .dict) (mgmt_ : P .mgmt) (stn_ : P .stn) (n : Nat) (hs : At
    (Keeps P s₀) It s) : At (Keeps P s₀) It (State.enterWitness s n) := by
  unfold State.enterWitness
  with_reducible repeat' (first
    | assumption | (intro x; refine At.cut x ?_ ?_; rotate_left; intro _; clear_value x; rotate_left; unfold x) | intro _ | lift_lets
    | apply State.setObj_keeps | apply State.tileEvent_keeps | apply At.ite | apply At.next | apply At.some | exact At.none
    | dsimp -zeta only [At.mkFst, At.mkSnd] | apply At.foldl | apply At.getD | apply At.fst | apply At.snd
    | ((conv => enter [3, 20]) <;> apply At.upd <;> first | exact .inl ‹_› | exact .inr rfl | skip)
    | ((conv => enter [3, 20]) <;> apply At.updCore) | split | exact At.ofMkFst ‹_› | exact At.ofMkSnd ‹_›
    | refine At.ofNext (by assumption) ?_ | refine At.ofFst (by assumption) ?_ | refine At.ofSnd (by assumption) ?_
    | refine At.ofOpt (by assumption) ?_ | refine At.ofOptSnd (by assumption) ?_ | refine At.ofOptFst (by assumption) ?_
    | refine At.ofOptSnd2 (by assumption) ?_ | apply At.mapAny | dsimp +zetaDelta only)

theorem State.setWitness_keeps {P : Part → Prop} {s₀ s : State} (fb_ : P .fb) (w : WitnessSt) (hs : At (Keeps P s₀) It s) : At (Keeps P s₀)
    It (State.setWitness s w) := by
  unfold State.setWitness
  with_reducible repeat' (first
    | assumption | (intro x; refine At.cut x ?_ ?_; rotate_left; intro _; clear_value x; rotate_left; unfold x) | intro _ | lift_lets
    | apply At.ite | apply At.next | apply At.some | exact At.none | dsimp -zeta only [At.mkFst, At.mkSnd] | apply At.foldl
    | apply At.getD | apply At.fst | apply At.snd
    | ((conv => enter [3, 20]) <;> apply At.upd <;> first | exact .inl ‹_› | exact .inr rfl | skip)
    | ((conv => enter [3, 20]) <;> apply At.updCore) | split | exact At.ofMkFst ‹_› | exact At.ofMkSnd ‹_›
    | refine At.ofNext (by assumption) ?_ | refine At.ofFst (by assumption) ?_ | refine At.ofSnd (by assumption) ?_
    | refine At.ofOpt (by assumption) ?_ | refine At.ofOptSnd (by assumption) ?_ | refine At.ofOptFst (by assumption) ?_
    | refine At.ofOptSnd2 (by assumption) ?_ | apply At.mapAny | dsimp +zetaDelta only)

theorem execWitnessLapse_keeps {P : Part → Prop} {s₀ s : State} (dict_ : P .dict) (mgmt_ : P .mgmt) (fb_ : P .fb) (stn_ : P .stn) (ses_ : P
    .ses) (tier_ : P .tier) (trv_ : P .trv) (srch_ : P .srch) (free_ : P .free) (absent : Bool) (hs : At (Keeps P s₀) It s) : At (Keeps P
    s₀) Nxt (execWitnessLapse absent s) := by
  unfold execWitnessLapse
  with_reducible repeat' (first
    | assumption | (intro x; refine At.cut x ?_ ?_; rotate_left; intro _; clear_value x; rotate_left; unfold x) | intro _ | lift_lets
    | apply State.bump_keeps | apply State.runWaits_keeps | apply State.enterWitness_keeps | apply State.setWitness_keeps | apply At.ite
    | apply At.next | apply At.some | exact At.none | dsimp -zeta only [At.mkFst, At.mkSnd] | apply At.foldl | apply At.getD
    | apply At.fst | apply At.snd | ((conv => enter [3, 20]) <;> apply At.upd <;> first | exact .inl ‹_› | exact .inr rfl | skip)
    | ((conv => enter [3, 20]) <;> apply At.updCore) | split | exact At.ofMkFst ‹_› | exact At.ofMkSnd ‹_›
    | refine At.ofNext (by assumption) ?_ | refine At.ofFst (by assumption) ?_ | refine At.ofSnd (by assumption) ?_
    | refine At.ofOpt (by assumption) ?_ | refine At.ofOptSnd (by assumption) ?_ | refine At.ofOptFst (by assumption) ?_
    | refine At.ofOptSnd2 (by assumption) ?_ | apply At.mapAny | dsimp +zetaDelta only)

theorem State.copyWitness_keeps {P : Part → Prop} {s₀ s : State} (fb_ : P .fb) (stn_ : P .stn) (fab_ : P .fab) (hs : At (Keeps P s₀) It s)
    : At (Keeps P s₀) It (State.copyWitness s) := by
  unfold State.copyWitness
  with_reducible repeat' (first
    | assumption | (intro x; refine At.cut x ?_ ?_; rotate_left; intro _; clear_value x; rotate_left; unfold x) | intro _ | lift_lets
    | apply State.toWitness_keeps | apply State.setWitness_keeps | apply At.ite | apply At.next | apply At.some | exact At.none
    | dsimp -zeta only [At.mkFst, At.mkSnd] | apply At.foldl | apply At.getD | apply At.fst | apply At.snd
    | ((conv => enter [3, 20]) <;> apply At.upd <;> first | exact .inl ‹_› | exact .inr rfl | skip)
    | ((conv => enter [3, 20]) <;> apply At.updCore) | split | exact At.ofMkFst ‹_› | exact At.ofMkSnd ‹_›
    | refine At.ofNext (by assumption) ?_ | refine At.ofFst (by assumption) ?_ | refine At.ofSnd (by assumption) ?_
    | refine At.ofOpt (by assumption) ?_ | refine At.ofOptSnd (by assumption) ?_ | refine At.ofOptFst (by assumption) ?_
    | refine At.ofOptSnd2 (by assumption) ?_ | apply At.mapAny | dsimp +zetaDelta only)

theorem execWitnessProbe_keeps {P : Part → Prop} {s₀ s : State} (dict_ : P .dict) (mgmt_ : P .mgmt) (fb_ : P .fb) (stn_ : P .stn) (fab_ : P
    .fab) (answered : Bool) (hs : At (Keeps P s₀) It s) : At (Keeps P s₀) Nxt (execWitnessProbe answered s) := by
  unfold execWitnessProbe
  with_reducible repeat' (first
    | assumption | (intro x; refine At.cut x ?_ ?_; rotate_left; intro _; clear_value x; rotate_left; unfold x) | intro _ | lift_lets
    | apply State.enterWitness_keeps | apply State.setWitness_keeps | apply State.copyWitness_keeps | apply At.ite | apply At.next
    | apply At.some | exact At.none | dsimp -zeta only [At.mkFst, At.mkSnd] | apply At.foldl | apply At.getD | apply At.fst | apply At.snd
    | ((conv => enter [3, 20]) <;> apply At.upd <;> first | exact .inl ‹_› | exact .inr rfl | skip)
    | ((conv => enter [3, 20]) <;> apply At.updCore) | split | exact At.ofMkFst ‹_› | exact At.ofMkSnd ‹_›
    | refine At.ofNext (by assumption) ?_ | refine At.ofFst (by assumption) ?_ | refine At.ofSnd (by assumption) ?_
    | refine At.ofOpt (by assumption) ?_ | refine At.ofOptSnd (by assumption) ?_ | refine At.ofOptFst (by assumption) ?_
    | refine At.ofOptSnd2 (by assumption) ?_ | apply At.mapAny | dsimp +zetaDelta only)

theorem execWitnessCopyDone_keeps {P : Part → Prop} {s₀ s : State} (fb_ : P .fb) (stn_ : P .stn) (fab_ : P .fab) (hs : At (Keeps P s₀) It
    s) : At (Keeps P s₀) Nxt (execWitnessCopyDone s) := by
  unfold execWitnessCopyDone
  with_reducible repeat' (first
    | assumption | (intro x; refine At.cut x ?_ ?_; rotate_left; intro _; clear_value x; rotate_left; unfold x) | intro _ | lift_lets
    | apply State.setWitness_keeps | apply State.copyWitness_keeps | apply At.ite | apply At.next | apply At.some | exact At.none
    | dsimp -zeta only [At.mkFst, At.mkSnd] | apply At.foldl | apply At.getD | apply At.fst | apply At.snd
    | ((conv => enter [3, 20]) <;> apply At.upd <;> first | exact .inl ‹_› | exact .inr rfl | skip)
    | ((conv => enter [3, 20]) <;> apply At.updCore) | split | exact At.ofMkFst ‹_› | exact At.ofMkSnd ‹_›
    | refine At.ofNext (by assumption) ?_ | refine At.ofFst (by assumption) ?_ | refine At.ofSnd (by assumption) ?_
    | refine At.ofOpt (by assumption) ?_ | refine At.ofOptSnd (by assumption) ?_ | refine At.ofOptFst (by assumption) ?_
    | refine At.ofOptSnd2 (by assumption) ?_ | apply At.mapAny | dsimp +zetaDelta only)

theorem State.witnessBoundary_keeps {P : Part → Prop} {s₀ s : State} (dict_ : P .dict) (mgmt_ : P .mgmt) (fb_ : P .fb) (stn_ : P .stn) (hs
    : At (Keeps P s₀) It s) : At (Keeps P s₀) It (State.witnessBoundary s) := by
  unfold State.witnessBoundary
  with_reducible repeat' (first
    | assumption | (intro x; refine At.cut x ?_ ?_; rotate_left; intro _; clear_value x; rotate_left; unfold x) | intro _ | lift_lets
    | apply State.enterWitness_keeps | apply State.setWitness_keeps | apply At.ite | apply At.next | apply At.some | exact At.none
    | dsimp -zeta only [At.mkFst, At.mkSnd] | apply At.foldl | apply At.getD | apply At.fst | apply At.snd
    | ((conv => enter [3, 20]) <;> apply At.upd <;> first | exact .inl ‹_› | exact .inr rfl | skip)
    | ((conv => enter [3, 20]) <;> apply At.updCore) | split | exact At.ofMkFst ‹_› | exact At.ofMkSnd ‹_›
    | refine At.ofNext (by assumption) ?_ | refine At.ofFst (by assumption) ?_ | refine At.ofSnd (by assumption) ?_
    | refine At.ofOpt (by assumption) ?_ | refine At.ofOptSnd (by assumption) ?_ | refine At.ofOptFst (by assumption) ?_
    | refine At.ofOptSnd2 (by assumption) ?_ | apply At.mapAny | dsimp +zetaDelta only)

theorem State.releaseWitness_keeps {P : Part → Prop} {s₀ s : State} (dict_ : P .dict) (fab_ : P .fab) (hs : At (Keeps P s₀) It s) : At
    (Keeps P s₀) It (State.releaseWitness s) := by
  unfold State.releaseWitness
  with_reducible repeat' (first
    | assumption | (intro x; refine At.cut x ?_ ?_; rotate_left; intro _; clear_value x; rotate_left; unfold x) | intro _ | lift_lets
    | apply State.fabSend_keeps | apply State.dropLease_keeps | apply At.ite | apply At.next | apply At.some | exact At.none
    | dsimp -zeta only [At.mkFst, At.mkSnd] | apply At.foldl | apply At.getD | apply At.fst | apply At.snd
    | ((conv => enter [3, 20]) <;> apply At.upd <;> first | exact .inl ‹_› | exact .inr rfl | skip)
    | ((conv => enter [3, 20]) <;> apply At.updCore) | split | exact At.ofMkFst ‹_› | exact At.ofMkSnd ‹_›
    | refine At.ofNext (by assumption) ?_ | refine At.ofFst (by assumption) ?_ | refine At.ofSnd (by assumption) ?_
    | refine At.ofOpt (by assumption) ?_ | refine At.ofOptSnd (by assumption) ?_ | refine At.ofOptFst (by assumption) ?_
    | refine At.ofOptSnd2 (by assumption) ?_ | apply At.mapAny | dsimp +zetaDelta only)

theorem State.establish_keeps {P : Part → Prop} {s₀ s : State} (fb_ : P .fb) (stn_ : P .stn) (fab_ : P .fab) (hs : At (Keeps P s₀) It s) :
    At (Keeps P s₀) It (State.establish s) := by
  unfold State.establish
  with_reducible repeat' (first
    | assumption | (intro x; refine At.cut x ?_ ?_; rotate_left; intro _; clear_value x; rotate_left; unfold x) | intro _ | lift_lets
    | apply State.fabSend_keeps | apply State.copyWitness_keeps | apply At.ite | apply At.next | apply At.some | exact At.none
    | dsimp -zeta only [At.mkFst, At.mkSnd] | apply At.foldl | apply At.getD | apply At.fst | apply At.snd
    | ((conv => enter [3, 20]) <;> apply At.upd <;> first | exact .inl ‹_› | exact .inr rfl | skip)
    | ((conv => enter [3, 20]) <;> apply At.updCore) | split | exact At.ofMkFst ‹_› | exact At.ofMkSnd ‹_›
    | refine At.ofNext (by assumption) ?_ | refine At.ofFst (by assumption) ?_ | refine At.ofSnd (by assumption) ?_
    | refine At.ofOpt (by assumption) ?_ | refine At.ofOptSnd (by assumption) ?_ | refine At.ofOptFst (by assumption) ?_
    | refine At.ofOptSnd2 (by assumption) ?_ | apply At.mapAny | dsimp +zetaDelta only)

theorem State.witnessMode_keeps {P : Part → Prop} {s₀ s : State} (dict_ : P .dict) (mgmt_ : P .mgmt) (fb_ : P .fb) (stn_ : P .stn) (fab_ :
    P .fab) (old : Nat) (hs : At (Keeps P s₀) It s) : At (Keeps P s₀) It (State.witnessMode s old) := by
  unfold State.witnessMode
  with_reducible repeat' (first
    | assumption | (intro x; refine At.cut x ?_ ?_; rotate_left; intro _; clear_value x; rotate_left; unfold x) | intro _ | lift_lets
    | apply State.setObj_keeps | apply State.enterWitness_keeps | apply State.setWitness_keeps | apply State.releaseWitness_keeps
    | apply State.establish_keeps | apply At.ite | apply At.next | apply At.some | exact At.none | dsimp -zeta only [At.mkFst, At.mkSnd]
    | apply At.foldl | apply At.getD | apply At.fst | apply At.snd
    | ((conv => enter [3, 20]) <;> apply At.upd <;> first | exact .inl ‹_› | exact .inr rfl | skip)
    | ((conv => enter [3, 20]) <;> apply At.updCore) | split | exact At.ofMkFst ‹_› | exact At.ofMkSnd ‹_›
    | refine At.ofNext (by assumption) ?_ | refine At.ofFst (by assumption) ?_ | refine At.ofSnd (by assumption) ?_
    | refine At.ofOpt (by assumption) ?_ | refine At.ofOptSnd (by assumption) ?_ | refine At.ofOptFst (by assumption) ?_
    | refine At.ofOptSnd2 (by assumption) ?_ | apply At.mapAny | dsimp +zetaDelta only)

theorem State.setChannel_keeps {P : Part → Prop} {s₀ s : State} (fb_ : P .fb) (c : Nat) (x : ChannelSt) (hs : At (Keeps P s₀) It s) : At
    (Keeps P s₀) It (State.setChannel s c x) := by
  unfold State.setChannel
  with_reducible repeat' (first
    | assumption | (intro x; refine At.cut x ?_ ?_; rotate_left; intro _; clear_value x; rotate_left; unfold x) | intro _ | lift_lets
    | apply At.ite | apply At.next | apply At.some | exact At.none | dsimp -zeta only [At.mkFst, At.mkSnd] | apply At.foldl
    | apply At.getD | apply At.fst | apply At.snd
    | ((conv => enter [3, 20]) <;> apply At.upd <;> first | exact .inl ‹_› | exact .inr rfl | skip)
    | ((conv => enter [3, 20]) <;> apply At.updCore) | split | exact At.ofMkFst ‹_› | exact At.ofMkSnd ‹_›
    | refine At.ofNext (by assumption) ?_ | refine At.ofFst (by assumption) ?_ | refine At.ofSnd (by assumption) ?_
    | refine At.ofOpt (by assumption) ?_ | refine At.ofOptSnd (by assumption) ?_ | refine At.ofOptFst (by assumption) ?_
    | refine At.ofOptSnd2 (by assumption) ?_ | apply At.mapAny | dsimp +zetaDelta only)

theorem State.loseT2_keeps {P : Part → Prop} {s₀ s : State} (dict_ : P .dict) (fb_ : P .fb) (stn_ : P .stn) (ses_ : P .ses) (tier_ : P
    .tier) (srch_ : P .srch) (free_ : P .free) (a : Nat) (hs : At (Keeps P s₀) It s) : At (Keeps P s₀) It (State.loseT2 s a) := by
  unfold State.loseT2
  with_reducible repeat' (first
    | assumption | (intro x; refine At.cut x ?_ ?_; rotate_left; intro _; clear_value x; rotate_left; unfold x) | intro _ | lift_lets
    | apply State.freeTileAt_keeps | apply State.setSess_keeps | apply State.loseTile_keeps | apply At.ite | apply At.next | apply At.some
    | exact At.none | dsimp -zeta only [At.mkFst, At.mkSnd] | apply At.foldl | apply At.getD | apply At.fst | apply At.snd
    | ((conv => enter [3, 20]) <;> apply At.upd <;> first | exact .inl ‹_› | exact .inr rfl | skip)
    | ((conv => enter [3, 20]) <;> apply At.updCore) | split | exact At.ofMkFst ‹_› | exact At.ofMkSnd ‹_›
    | refine At.ofNext (by assumption) ?_ | refine At.ofFst (by assumption) ?_ | refine At.ofSnd (by assumption) ?_
    | refine At.ofOpt (by assumption) ?_ | refine At.ofOptSnd (by assumption) ?_ | refine At.ofOptFst (by assumption) ?_
    | refine At.ofOptSnd2 (by assumption) ?_ | apply At.mapAny | dsimp +zetaDelta only)

theorem State.rebuildEnds_keeps {P : Part → Prop} {s₀ s : State} (dict_ : P .dict) (fb_ : P .fb) (h : Nat) (hs : At (Keeps P s₀) It s) : At
    (Keeps P s₀) It (State.rebuildEnds s h) := by
  unfold State.rebuildEnds
  with_reducible repeat' (first
    | assumption | (intro x; refine At.cut x ?_ ?_; rotate_left; intro _; clear_value x; rotate_left; unfold x) | intro _ | lift_lets
    | apply State.setObjAt_keeps | apply State.setObj_keeps | apply State.setChannel_keeps | apply At.ite | apply At.next | apply At.some
    | exact At.none | dsimp -zeta only [At.mkFst, At.mkSnd] | apply At.foldl | apply At.getD | apply At.fst | apply At.snd
    | ((conv => enter [3, 20]) <;> apply At.upd <;> first | exact .inl ‹_› | exact .inr rfl | skip)
    | ((conv => enter [3, 20]) <;> apply At.updCore) | split | exact At.ofMkFst ‹_› | exact At.ofMkSnd ‹_›
    | refine At.ofNext (by assumption) ?_ | refine At.ofFst (by assumption) ?_ | refine At.ofSnd (by assumption) ?_
    | refine At.ofOpt (by assumption) ?_ | refine At.ofOptSnd (by assumption) ?_ | refine At.ofOptFst (by assumption) ?_
    | refine At.ofOptSnd2 (by assumption) ?_ | apply At.mapAny | dsimp +zetaDelta only)

theorem State.failChannel_keeps {P : Part → Prop} {s₀ s : State} (dict_ : P .dict) (mgmt_ : P .mgmt) (fb_ : P .fb) (stn_ : P .stn) (ses_ :
    P .ses) (tier_ : P .tier) (srch_ : P .srch) (free_ : P .free) (c : Nat) (hs : At (Keeps P s₀) It s) : At (Keeps P s₀) It
    (State.failChannel s c) := by
  unfold State.failChannel
  with_reducible repeat' (first
    | assumption | (intro x; refine At.cut x ?_ ?_; rotate_left; intro _; clear_value x; rotate_left; unfold x) | intro _ | lift_lets
    | apply State.setObjAt_keeps | apply State.bump_keeps | apply State.report_keeps | apply State.tileEvent_keeps
    | apply State.setChannel_keeps | apply State.loseT2_keeps | apply State.rebuildEnds_keeps | apply At.ite | apply At.next
    | apply At.some | exact At.none | dsimp -zeta only [At.mkFst, At.mkSnd] | apply At.foldl | apply At.getD | apply At.fst | apply At.snd
    | ((conv => enter [3, 20]) <;> apply At.upd <;> first | exact .inl ‹_› | exact .inr rfl | skip)
    | ((conv => enter [3, 20]) <;> apply At.updCore) | split | exact At.ofMkFst ‹_› | exact At.ofMkSnd ‹_›
    | refine At.ofNext (by assumption) ?_ | refine At.ofFst (by assumption) ?_ | refine At.ofSnd (by assumption) ?_
    | refine At.ofOpt (by assumption) ?_ | refine At.ofOptSnd (by assumption) ?_ | refine At.ofOptFst (by assumption) ?_
    | refine At.ofOptSnd2 (by assumption) ?_ | apply At.mapAny | dsimp +zetaDelta only)

theorem execChannelFailed_keeps {P : Part → Prop} {s₀ s : State} (dict_ : P .dict) (mgmt_ : P .mgmt) (fb_ : P .fb) (stn_ : P .stn) (ses_ :
    P .ses) (tier_ : P .tier) (srch_ : P .srch) (free_ : P .free) (c : Nat) (why : Nat) (row : Nat) (hs : At (Keeps P s₀) It s) : At (Keeps
    P s₀) Nxt (execChannelFailed c why row s) := by
  unfold execChannelFailed
  with_reducible repeat' (first
    | assumption | (intro x; refine At.cut x ?_ ?_; rotate_left; intro _; clear_value x; rotate_left; unfold x) | intro _ | lift_lets
    | apply State.setChannel_keeps | apply State.failChannel_keeps | apply At.ite | apply At.next | apply At.some | exact At.none
    | dsimp -zeta only [At.mkFst, At.mkSnd] | apply At.foldl | apply At.getD | apply At.fst | apply At.snd
    | ((conv => enter [3, 20]) <;> apply At.upd <;> first | exact .inl ‹_› | exact .inr rfl | skip)
    | ((conv => enter [3, 20]) <;> apply At.updCore) | split | exact At.ofMkFst ‹_› | exact At.ofMkSnd ‹_›
    | refine At.ofNext (by assumption) ?_ | refine At.ofFst (by assumption) ?_ | refine At.ofSnd (by assumption) ?_
    | refine At.ofOpt (by assumption) ?_ | refine At.ofOptSnd (by assumption) ?_ | refine At.ofOptFst (by assumption) ?_
    | refine At.ofOptSnd2 (by assumption) ?_ | apply At.mapAny | dsimp +zetaDelta only)

theorem execDeclareFailed_keeps {P : Part → Prop} {s₀ s : State} (dict_ : P .dict) (mgmt_ : P .mgmt) (fb_ : P .fb) (stn_ : P .stn) (ses_ :
    P .ses) (tier_ : P .tier) (srch_ : P .srch) (free_ : P .free) (w : Writer) (c : Nat) (hs : At (Keeps P s₀) It s) : At (Keeps P s₀) Nxt
    (execDeclareFailed w c s) := by
  unfold execDeclareFailed
  with_reducible repeat' (first
    | assumption | (intro x; refine At.cut x ?_ ?_; rotate_left; intro _; clear_value x; rotate_left; unfold x) | intro _ | lift_lets
    | apply State.commandNow_keeps | apply State.failChannel_keeps | apply At.ite | apply At.next | apply At.some | exact At.none
    | dsimp -zeta only [At.mkFst, At.mkSnd] | apply At.foldl | apply At.getD | apply At.fst | apply At.snd
    | ((conv => enter [3, 20]) <;> apply At.upd <;> first | exact .inl ‹_› | exact .inr rfl | skip)
    | ((conv => enter [3, 20]) <;> apply At.updCore) | split | exact At.ofMkFst ‹_› | exact At.ofMkSnd ‹_›
    | refine At.ofNext (by assumption) ?_ | refine At.ofFst (by assumption) ?_ | refine At.ofSnd (by assumption) ?_
    | refine At.ofOpt (by assumption) ?_ | refine At.ofOptSnd (by assumption) ?_ | refine At.ofOptFst (by assumption) ?_
    | refine At.ofOptSnd2 (by assumption) ?_ | apply At.mapAny | dsimp +zetaDelta only)

theorem execRetrain_keeps {P : Part → Prop} {s₀ s : State} (dict_ : P .dict) (mgmt_ : P .mgmt) (fb_ : P .fb) (stn_ : P .stn) (w : Writer)
    (c : Nat) (hs : At (Keeps P s₀) It s) : At (Keeps P s₀) Nxt (execRetrain w c s) := by
  unfold execRetrain
  with_reducible repeat' (first
    | assumption | (intro x; refine At.cut x ?_ ?_; rotate_left; intro _; clear_value x; rotate_left; unfold x) | intro _ | lift_lets
    | apply State.commandNow_keeps | apply State.setChannel_keeps | apply At.ite | apply At.next | apply At.some | exact At.none
    | dsimp -zeta only [At.mkFst, At.mkSnd] | apply At.foldl | apply At.getD | apply At.fst | apply At.snd
    | ((conv => enter [3, 20]) <;> apply At.upd <;> first | exact .inl ‹_› | exact .inr rfl | skip)
    | ((conv => enter [3, 20]) <;> apply At.updCore) | split | exact At.ofMkFst ‹_› | exact At.ofMkSnd ‹_›
    | refine At.ofNext (by assumption) ?_ | refine At.ofFst (by assumption) ?_ | refine At.ofSnd (by assumption) ?_
    | refine At.ofOpt (by assumption) ?_ | refine At.ofOptSnd (by assumption) ?_ | refine At.ofOptFst (by assumption) ?_
    | refine At.ofOptSnd2 (by assumption) ?_ | apply At.mapAny | dsimp +zetaDelta only)

theorem execRebuild_keeps {P : Part → Prop} {s₀ s : State} (dict_ : P .dict) (mgmt_ : P .mgmt) (fb_ : P .fb) (stn_ : P .stn) (w : Writer)
    (c : Nat) (hs : At (Keeps P s₀) It s) : At (Keeps P s₀) Nxt (execRebuild w c s) := by
  unfold execRebuild
  with_reducible repeat' (first
    | assumption | (intro x; refine At.cut x ?_ ?_; rotate_left; intro _; clear_value x; rotate_left; unfold x) | intro _ | lift_lets
    | apply State.setObjAt_keeps | apply State.setObj_keeps | apply State.command_keeps | apply State.setChannel_keeps | apply At.ite
    | apply At.next | apply At.some | exact At.none | dsimp -zeta only [At.mkFst, At.mkSnd] | apply At.foldl | apply At.getD
    | apply At.fst | apply At.snd | ((conv => enter [3, 20]) <;> apply At.upd <;> first | exact .inl ‹_› | exact .inr rfl | skip)
    | ((conv => enter [3, 20]) <;> apply At.updCore) | split | exact At.ofMkFst ‹_› | exact At.ofMkSnd ‹_›
    | refine At.ofNext (by assumption) ?_ | refine At.ofFst (by assumption) ?_ | refine At.ofSnd (by assumption) ?_
    | refine At.ofOpt (by assumption) ?_ | refine At.ofOptSnd (by assumption) ?_ | refine At.ofOptFst (by assumption) ?_
    | refine At.ofOptSnd2 (by assumption) ?_ | apply At.mapAny | dsimp +zetaDelta only)

theorem State.rebuildTick_keeps {P : Part → Prop} {s₀ s : State} (dict_ : P .dict) (fb_ : P .fb) (hs : At (Keeps P s₀) It s) : At (Keeps P
    s₀) It (State.rebuildTick s) := by
  unfold State.rebuildTick
  with_reducible repeat' (first
    | assumption | (intro x; refine At.cut x ?_ ?_; rotate_left; intro _; clear_value x; rotate_left; unfold x) | intro _ | lift_lets
    | apply State.setObj_keeps | apply State.setChannel_keeps | apply At.ite | apply At.next | apply At.some | exact At.none
    | dsimp -zeta only [At.mkFst, At.mkSnd] | apply At.foldl | apply At.getD | apply At.fst | apply At.snd
    | ((conv => enter [3, 20]) <;> apply At.upd <;> first | exact .inl ‹_› | exact .inr rfl | skip)
    | ((conv => enter [3, 20]) <;> apply At.updCore) | split | exact At.ofMkFst ‹_› | exact At.ofMkSnd ‹_›
    | refine At.ofNext (by assumption) ?_ | refine At.ofFst (by assumption) ?_ | refine At.ofSnd (by assumption) ?_
    | refine At.ofOpt (by assumption) ?_ | refine At.ofOptSnd (by assumption) ?_ | refine At.ofOptFst (by assumption) ?_
    | refine At.ofOptSnd2 (by assumption) ?_ | apply At.mapAny | dsimp +zetaDelta only)

theorem execChannelRebuildDone_keeps {P : Part → Prop} {s₀ s : State} (dict_ : P .dict) (fb_ : P .fb) (c : Nat) (hs : At (Keeps P s₀) It s)
    : At (Keeps P s₀) Nxt (execChannelRebuildDone c s) := by
  unfold execChannelRebuildDone
  with_reducible repeat' (first
    | assumption | (intro x; refine At.cut x ?_ ?_; rotate_left; intro _; clear_value x; rotate_left; unfold x) | intro _ | lift_lets
    | apply State.setObjAt_keeps | apply State.setObj_keeps | apply State.setChannel_keeps | apply At.ite | apply At.next | apply At.some
    | exact At.none | dsimp -zeta only [At.mkFst, At.mkSnd] | apply At.foldl | apply At.getD | apply At.fst | apply At.snd
    | ((conv => enter [3, 20]) <;> apply At.upd <;> first | exact .inl ‹_› | exact .inr rfl | skip)
    | ((conv => enter [3, 20]) <;> apply At.updCore) | split | exact At.ofMkFst ‹_› | exact At.ofMkSnd ‹_›
    | refine At.ofNext (by assumption) ?_ | refine At.ofFst (by assumption) ?_ | refine At.ofSnd (by assumption) ?_
    | refine At.ofOpt (by assumption) ?_ | refine At.ofOptSnd (by assumption) ?_ | refine At.ofOptFst (by assumption) ?_
    | refine At.ofOptSnd2 (by assumption) ?_ | apply At.mapAny | dsimp +zetaDelta only)

theorem State.weightAgain_keeps {P : Part → Prop} {s₀ s : State} (dict_ : P .dict) (ses_ : P .ses) (tier_ : P .tier) (free_ : P .free) (a :
    Nat) (hs : At (Keeps P s₀) It s) : At (Keeps P s₀) It (State.weightAgain s a) := by
  unfold State.weightAgain
  with_reducible repeat' (first
    | assumption | (intro x; refine At.cut x ?_ ?_; rotate_left; intro _; clear_value x; rotate_left; unfold x) | intro _ | lift_lets
    | apply State.freeTileAt_keeps | apply State.allocT1_keeps | apply At.ite | apply At.next | apply At.some | exact At.none
    | dsimp -zeta only [At.mkFst, At.mkSnd] | apply At.foldl | apply At.getD | apply At.fst | apply At.snd
    | ((conv => enter [3, 20]) <;> apply At.upd <;> first | exact .inl ‹_› | exact .inr rfl | skip)
    | ((conv => enter [3, 20]) <;> apply At.updCore) | split | exact At.ofMkFst ‹_› | exact At.ofMkSnd ‹_›
    | refine At.ofNext (by assumption) ?_ | refine At.ofFst (by assumption) ?_ | refine At.ofSnd (by assumption) ?_
    | refine At.ofOpt (by assumption) ?_ | refine At.ofOptSnd (by assumption) ?_ | refine At.ofOptFst (by assumption) ?_
    | refine At.ofOptSnd2 (by assumption) ?_ | apply At.mapAny | dsimp +zetaDelta only)

theorem State.leaveStack_keeps {P : Part → Prop} {s₀ s : State} (dict_ : P .dict) (fb_ : P .fb) (stn_ : P .stn) (ses_ : P .ses) (tier_ : P
    .tier) (srch_ : P .srch) (free_ : P .free) (a : Nat) (hs : At (Keeps P s₀) It s) : At (Keeps P s₀) It (State.leaveStack s a) := by
  unfold State.leaveStack
  with_reducible repeat' (first
    | assumption | (intro x; refine At.cut x ?_ ?_; rotate_left; intro _; clear_value x; rotate_left; unfold x) | intro _ | lift_lets
    | apply State.setEng_keeps | apply State.freeTileAt_keeps | apply State.setSess_keeps | apply State.loseTile_keeps
    | apply State.weightAgain_keeps | apply At.ite | apply At.next | apply At.some | exact At.none | dsimp -zeta only [At.mkFst, At.mkSnd]
    | apply At.foldl | apply At.getD | apply At.fst | apply At.snd
    | ((conv => enter [3, 20]) <;> apply At.upd <;> first | exact .inl ‹_› | exact .inr rfl | skip)
    | ((conv => enter [3, 20]) <;> apply At.updCore) | split | exact At.ofMkFst ‹_› | exact At.ofMkSnd ‹_›
    | refine At.ofNext (by assumption) ?_ | refine At.ofFst (by assumption) ?_ | refine At.ofSnd (by assumption) ?_
    | refine At.ofOpt (by assumption) ?_ | refine At.ofOptSnd (by assumption) ?_ | refine At.ofOptFst (by assumption) ?_
    | refine At.ofOptSnd2 (by assumption) ?_ | apply At.mapAny | dsimp +zetaDelta only)

theorem State.stackFail_keeps {P : Part → Prop} {s₀ s : State} (dict_ : P .dict) (mgmt_ : P .mgmt) (fb_ : P .fb) (stn_ : P .stn) (ses_ : P
    .ses) (tier_ : P .tier) (trv_ : P .trv) (srch_ : P .srch) (free_ : P .free) (k : Nat) (hs : At (Keeps P s₀) It s) : At (Keeps P s₀) It
    (State.stackFail s k) := by
  unfold State.stackFail
  with_reducible repeat' (first
    | assumption | (intro x; refine At.cut x ?_ ?_; rotate_left; intro _; clear_value x; rotate_left; unfold x) | intro _ | lift_lets
    | apply State.setObjAt_keeps | apply State.report_keeps | apply State.tileEvent_keeps | apply State.setSess_keeps
    | apply State.voidFrame_keeps | apply State.noticeFault_keeps | apply State.startRevive_keeps | apply State.leaveStack_keeps
    | apply At.ite | apply At.next | apply At.some | exact At.none | dsimp -zeta only [At.mkFst, At.mkSnd] | apply At.foldl
    | apply At.getD | apply At.fst | apply At.snd
    | ((conv => enter [3, 20]) <;> apply At.upd <;> first | exact .inl ‹_› | exact .inr rfl | skip)
    | ((conv => enter [3, 20]) <;> apply At.updCore) | split | exact At.ofMkFst ‹_› | exact At.ofMkSnd ‹_›
    | refine At.ofNext (by assumption) ?_ | refine At.ofFst (by assumption) ?_ | refine At.ofSnd (by assumption) ?_
    | refine At.ofOpt (by assumption) ?_ | refine At.ofOptSnd (by assumption) ?_ | refine At.ofOptFst (by assumption) ?_
    | refine At.ofOptSnd2 (by assumption) ?_ | apply At.mapAny | dsimp +zetaDelta only)

theorem execStackFailed_keeps {P : Part → Prop} {s₀ s : State} (dict_ : P .dict) (mgmt_ : P .mgmt) (fb_ : P .fb) (stn_ : P .stn) (ses_ : P
    .ses) (tier_ : P .tier) (trv_ : P .trv) (srch_ : P .srch) (free_ : P .free) (k : Nat) (hs : At (Keeps P s₀) It s) : At (Keeps P s₀) Nxt
    (execStackFailed k s) := by
  unfold execStackFailed
  with_reducible repeat' (first
    | assumption | (intro x; refine At.cut x ?_ ?_; rotate_left; intro _; clear_value x; rotate_left; unfold x) | intro _ | lift_lets
    | apply State.stackFail_keeps | apply At.ite | apply At.next | apply At.some | exact At.none | dsimp -zeta only [At.mkFst, At.mkSnd]
    | apply At.foldl | apply At.getD | apply At.fst | apply At.snd
    | ((conv => enter [3, 20]) <;> apply At.upd <;> first | exact .inl ‹_› | exact .inr rfl | skip)
    | ((conv => enter [3, 20]) <;> apply At.updCore) | split | exact At.ofMkFst ‹_› | exact At.ofMkSnd ‹_›
    | refine At.ofNext (by assumption) ?_ | refine At.ofFst (by assumption) ?_ | refine At.ofSnd (by assumption) ?_
    | refine At.ofOpt (by assumption) ?_ | refine At.ofOptSnd (by assumption) ?_ | refine At.ofOptFst (by assumption) ?_
    | refine At.ofOptSnd2 (by assumption) ?_ | apply At.mapAny | dsimp +zetaDelta only)

theorem State.recordErr_keeps {P : Part → Prop} {s₀ s : State} (dict_ : P .dict) (fb_ : P .fb) (e : ErrEntry) (hs : At (Keeps P s₀) It s) :
    At (Keeps P s₀) It (State.recordErr s e) := by
  unfold State.recordErr
  with_reducible repeat' (first
    | assumption | (intro x; refine At.cut x ?_ ?_; rotate_left; intro _; clear_value x; rotate_left; unfold x) | intro _ | lift_lets
    | apply State.setObjAt_keeps | apply State.setErr_keeps | apply At.ite | apply At.next | apply At.some | exact At.none
    | dsimp -zeta only [At.mkFst, At.mkSnd] | apply At.foldl | apply At.getD | apply At.fst | apply At.snd
    | ((conv => enter [3, 20]) <;> apply At.upd <;> first | exact .inl ‹_› | exact .inr rfl | skip)
    | ((conv => enter [3, 20]) <;> apply At.updCore) | split | exact At.ofMkFst ‹_› | exact At.ofMkSnd ‹_›
    | refine At.ofNext (by assumption) ?_ | refine At.ofFst (by assumption) ?_ | refine At.ofSnd (by assumption) ?_
    | refine At.ofOpt (by assumption) ?_ | refine At.ofOptSnd (by assumption) ?_ | refine At.ofOptFst (by assumption) ?_
    | refine At.ofOptSnd2 (by assumption) ?_ | apply At.mapAny | dsimp +zetaDelta only)

theorem execErrorRecorderTake_keeps {P : Part → Prop} {s₀ s : State} (dict_ : P .dict) (fb_ : P .fb) (half : Nat) (hs : At (Keeps P s₀) It
    s) : At (Keeps P s₀) Nxt (execErrorRecorderTake half s) := by
  unfold execErrorRecorderTake
  with_reducible repeat' (first
    | assumption | (intro x; refine At.cut x ?_ ?_; rotate_left; intro _; clear_value x; rotate_left; unfold x) | intro _ | lift_lets
    | apply State.setErr_keeps | apply State.recordErr_keeps | apply At.ite | apply At.next | apply At.some | exact At.none
    | dsimp -zeta only [At.mkFst, At.mkSnd] | apply At.foldl | apply At.getD | apply At.fst | apply At.snd
    | ((conv => enter [3, 20]) <;> apply At.upd <;> first | exact .inl ‹_› | exact .inr rfl | skip)
    | ((conv => enter [3, 20]) <;> apply At.updCore) | split | exact At.ofMkFst ‹_› | exact At.ofMkSnd ‹_›
    | refine At.ofNext (by assumption) ?_ | refine At.ofFst (by assumption) ?_ | refine At.ofSnd (by assumption) ?_
    | refine At.ofOpt (by assumption) ?_ | refine At.ofOptSnd (by assumption) ?_ | refine At.ofOptFst (by assumption) ?_
    | refine At.ofOptSnd2 (by assumption) ?_ | apply At.mapAny | dsimp +zetaDelta only)

theorem execCoalesceFlush_keeps {P : Part → Prop} {s₀ s : State} (dict_ : P .dict) (fb_ : P .fb) (src : Nat) (hs : At (Keeps P s₀) It s) :
    At (Keeps P s₀) Nxt (execCoalesceFlush src s) := by
  unfold execCoalesceFlush
  with_reducible repeat' (first
    | assumption | (intro x; refine At.cut x ?_ ?_; rotate_left; intro _; clear_value x; rotate_left; unfold x) | intro _ | lift_lets
    | apply State.flushErr_keeps | apply At.ite | apply At.next | apply At.some | exact At.none | dsimp -zeta only [At.mkFst, At.mkSnd]
    | apply At.foldl | apply At.getD | apply At.fst | apply At.snd
    | ((conv => enter [3, 20]) <;> apply At.upd <;> first | exact .inl ‹_› | exact .inr rfl | skip)
    | ((conv => enter [3, 20]) <;> apply At.updCore) | split | exact At.ofMkFst ‹_› | exact At.ofMkSnd ‹_›
    | refine At.ofNext (by assumption) ?_ | refine At.ofFst (by assumption) ?_ | refine At.ofSnd (by assumption) ?_
    | refine At.ofOpt (by assumption) ?_ | refine At.ofOptSnd (by assumption) ?_ | refine At.ofOptFst (by assumption) ?_
    | refine At.ofOptSnd2 (by assumption) ?_ | apply At.mapAny | dsimp +zetaDelta only)

theorem execErrClear_keeps {P : Part → Prop} {s₀ s : State} (dict_ : P .dict) (mgmt_ : P .mgmt) (fb_ : P .fb) (stn_ : P .stn) (w : Writer)
    (src : Nat) (hs : At (Keeps P s₀) It s) : At (Keeps P s₀) Nxt (execErrClear w src s) := by
  unfold execErrClear
  with_reducible repeat' (first
    | assumption | (intro x; refine At.cut x ?_ ?_; rotate_left; intro _; clear_value x; rotate_left; unfold x) | intro _ | lift_lets
    | apply State.setErr_keeps | apply State.command_keeps | apply At.ite | apply At.next | apply At.some | exact At.none
    | dsimp -zeta only [At.mkFst, At.mkSnd] | apply At.foldl | apply At.getD | apply At.fst | apply At.snd
    | ((conv => enter [3, 20]) <;> apply At.upd <;> first | exact .inl ‹_› | exact .inr rfl | skip)
    | ((conv => enter [3, 20]) <;> apply At.updCore) | split | exact At.ofMkFst ‹_› | exact At.ofMkSnd ‹_›
    | refine At.ofNext (by assumption) ?_ | refine At.ofFst (by assumption) ?_ | refine At.ofSnd (by assumption) ?_
    | refine At.ofOpt (by assumption) ?_ | refine At.ofOptSnd (by assumption) ?_ | refine At.ofOptFst (by assumption) ?_
    | refine At.ofOptSnd2 (by assumption) ?_ | apply At.mapAny | dsimp +zetaDelta only)

/-! ### Machine/Moves.lean -/

theorem State.moveRow_keeps {P : Part → Prop} {s₀ s : State} (dict_ : P .dict) (fb_ : P .fb) (stn_ : P .stn) (ses_ : P .ses) (tier_ : P
    .tier) (shape_ : P .shape) (trv_ : P .trv) (core_ : P .core) (srch_ : P .srch) (free_ : P .free) (half : Nat) (queue : Nat) (op : Nat)
    (d : MoveDesc) (reads : List TileRead) (hs : At (Keeps P s₀) It s) : At (Keeps P s₀) It (State.moveRow s half queue op d reads) := by
  unfold State.moveRow
  with_reducible repeat' (first
    | assumption | (intro x; refine At.cut x ?_ ?_; rotate_left; intro _; clear_value x; rotate_left; unfold x) | intro _ | lift_lets
    | apply State.runMove_keeps | apply At.ite | apply At.next | apply At.some | exact At.none | dsimp -zeta only [At.mkFst, At.mkSnd]
    | apply At.foldl | apply At.getD | apply At.fst | apply At.snd
    | ((conv => enter [3, 20]) <;> apply At.upd <;> first | exact .inl ‹_› | exact .inr rfl | skip)
    | ((conv => enter [3, 20]) <;> apply At.updCore) | split | exact At.ofMkFst ‹_› | exact At.ofMkSnd ‹_›
    | refine At.ofNext (by assumption) ?_ | refine At.ofFst (by assumption) ?_ | refine At.ofSnd (by assumption) ?_
    | refine At.ofOpt (by assumption) ?_ | refine At.ofOptSnd (by assumption) ?_ | refine At.ofOptFst (by assumption) ?_
    | refine At.ofOptSnd2 (by assumption) ?_ | apply At.mapAny | dsimp +zetaDelta only)

theorem execCopy_keeps {P : Part → Prop} {s₀ s : State} (dict_ : P .dict) (fb_ : P .fb) (stn_ : P .stn) (ses_ : P .ses) (tier_ : P .tier)
    (shape_ : P .shape) (trv_ : P .trv) (core_ : P .core) (srch_ : P .srch) (free_ : P .free) (half : Nat) (queue : Nat) (d : MoveDesc)
    (reads : List TileRead) (hs : At (Keeps P s₀) It s) : At (Keeps P s₀) Nxt (execCopy half queue d reads s) := by
  unfold execCopy
  with_reducible repeat' (first
    | assumption | (intro x; refine At.cut x ?_ ?_; rotate_left; intro _; clear_value x; rotate_left; unfold x) | intro _ | lift_lets
    | apply State.moveRow_keeps | apply At.ite | apply At.next | apply At.some | exact At.none | dsimp -zeta only [At.mkFst, At.mkSnd]
    | apply At.foldl | apply At.getD | apply At.fst | apply At.snd
    | ((conv => enter [3, 20]) <;> apply At.upd <;> first | exact .inl ‹_› | exact .inr rfl | skip)
    | ((conv => enter [3, 20]) <;> apply At.updCore) | split | exact At.ofMkFst ‹_› | exact At.ofMkSnd ‹_›
    | refine At.ofNext (by assumption) ?_ | refine At.ofFst (by assumption) ?_ | refine At.ofSnd (by assumption) ?_
    | refine At.ofOpt (by assumption) ?_ | refine At.ofOptSnd (by assumption) ?_ | refine At.ofOptFst (by assumption) ?_
    | refine At.ofOptSnd2 (by assumption) ?_ | apply At.mapAny | dsimp +zetaDelta only)

theorem execMove_keeps {P : Part → Prop} {s₀ s : State} (dict_ : P .dict) (fb_ : P .fb) (stn_ : P .stn) (ses_ : P .ses) (tier_ : P .tier)
    (shape_ : P .shape) (trv_ : P .trv) (core_ : P .core) (srch_ : P .srch) (free_ : P .free) (half : Nat) (queue : Nat) (d : MoveDesc)
    (reads : List TileRead) (hs : At (Keeps P s₀) It s) : At (Keeps P s₀) Nxt (execMove half queue d reads s) := by
  unfold execMove
  with_reducible repeat' (first
    | assumption | (intro x; refine At.cut x ?_ ?_; rotate_left; intro _; clear_value x; rotate_left; unfold x) | intro _ | lift_lets
    | apply State.moveRow_keeps | apply At.ite | apply At.next | apply At.some | exact At.none | dsimp -zeta only [At.mkFst, At.mkSnd]
    | apply At.foldl | apply At.getD | apply At.fst | apply At.snd
    | ((conv => enter [3, 20]) <;> apply At.upd <;> first | exact .inl ‹_› | exact .inr rfl | skip)
    | ((conv => enter [3, 20]) <;> apply At.updCore) | split | exact At.ofMkFst ‹_› | exact At.ofMkSnd ‹_›
    | refine At.ofNext (by assumption) ?_ | refine At.ofFst (by assumption) ?_ | refine At.ofSnd (by assumption) ?_
    | refine At.ofOpt (by assumption) ?_ | refine At.ofOptSnd (by assumption) ?_ | refine At.ofOptFst (by assumption) ?_
    | refine At.ofOptSnd2 (by assumption) ?_ | apply At.mapAny | dsimp +zetaDelta only)

theorem execFill_keeps {P : Part → Prop} {s₀ s : State} (dict_ : P .dict) (fb_ : P .fb) (stn_ : P .stn) (ses_ : P .ses) (tier_ : P .tier)
    (shape_ : P .shape) (trv_ : P .trv) (core_ : P .core) (srch_ : P .srch) (free_ : P .free) (half : Nat) (queue : Nat) (d : MoveDesc)
    (reads : List TileRead) (hs : At (Keeps P s₀) It s) : At (Keeps P s₀) Nxt (execFill half queue d reads s) := by
  unfold execFill
  with_reducible repeat' (first
    | assumption | (intro x; refine At.cut x ?_ ?_; rotate_left; intro _; clear_value x; rotate_left; unfold x) | intro _ | lift_lets
    | apply State.moveRow_keeps | apply At.ite | apply At.next | apply At.some | exact At.none | dsimp -zeta only [At.mkFst, At.mkSnd]
    | apply At.foldl | apply At.getD | apply At.fst | apply At.snd
    | ((conv => enter [3, 20]) <;> apply At.upd <;> first | exact .inl ‹_› | exact .inr rfl | skip)
    | ((conv => enter [3, 20]) <;> apply At.updCore) | split | exact At.ofMkFst ‹_› | exact At.ofMkSnd ‹_›
    | refine At.ofNext (by assumption) ?_ | refine At.ofFst (by assumption) ?_ | refine At.ofSnd (by assumption) ?_
    | refine At.ofOpt (by assumption) ?_ | refine At.ofOptSnd (by assumption) ?_ | refine At.ofOptFst (by assumption) ?_
    | refine At.ofOptSnd2 (by assumption) ?_ | apply At.mapAny | dsimp +zetaDelta only)

theorem execVerify_keeps {P : Part → Prop} {s₀ s : State} (dict_ : P .dict) (fb_ : P .fb) (stn_ : P .stn) (ses_ : P .ses) (tier_ : P .tier)
    (shape_ : P .shape) (trv_ : P .trv) (core_ : P .core) (srch_ : P .srch) (free_ : P .free) (half : Nat) (queue : Nat) (d : MoveDesc)
    (reads : List TileRead) (hs : At (Keeps P s₀) It s) : At (Keeps P s₀) Nxt (execVerify half queue d reads s) := by
  unfold execVerify
  with_reducible repeat' (first
    | assumption | (intro x; refine At.cut x ?_ ?_; rotate_left; intro _; clear_value x; rotate_left; unfold x) | intro _ | lift_lets
    | apply State.moveRow_keeps | apply At.ite | apply At.next | apply At.some | exact At.none | dsimp -zeta only [At.mkFst, At.mkSnd]
    | apply At.foldl | apply At.getD | apply At.fst | apply At.snd
    | ((conv => enter [3, 20]) <;> apply At.upd <;> first | exact .inl ‹_› | exact .inr rfl | skip)
    | ((conv => enter [3, 20]) <;> apply At.updCore) | split | exact At.ofMkFst ‹_› | exact At.ofMkSnd ‹_›
    | refine At.ofNext (by assumption) ?_ | refine At.ofFst (by assumption) ?_ | refine At.ofSnd (by assumption) ?_
    | refine At.ofOpt (by assumption) ?_ | refine At.ofOptSnd (by assumption) ?_ | refine At.ofOptFst (by assumption) ?_
    | refine At.ofOptSnd2 (by assumption) ?_ | apply At.mapAny | dsimp +zetaDelta only)

theorem execParkBlocks_keeps {P : Part → Prop} {s₀ s : State} (dict_ : P .dict) (fb_ : P .fb) (stn_ : P .stn) (ses_ : P .ses) (tier_ : P
    .tier) (shape_ : P .shape) (trv_ : P .trv) (core_ : P .core) (srch_ : P .srch) (free_ : P .free) (half : Nat) (queue : Nat) (d :
    MoveDesc) (reads : List TileRead) (hs : At (Keeps P s₀) It s) : At (Keeps P s₀) Nxt (execParkBlocks half queue d reads s) := by
  unfold execParkBlocks
  with_reducible repeat' (first
    | assumption | (intro x; refine At.cut x ?_ ?_; rotate_left; intro _; clear_value x; rotate_left; unfold x) | intro _ | lift_lets
    | apply State.moveRow_keeps | apply At.ite | apply At.next | apply At.some | exact At.none | dsimp -zeta only [At.mkFst, At.mkSnd]
    | apply At.foldl | apply At.getD | apply At.fst | apply At.snd
    | ((conv => enter [3, 20]) <;> apply At.upd <;> first | exact .inl ‹_› | exact .inr rfl | skip)
    | ((conv => enter [3, 20]) <;> apply At.updCore) | split | exact At.ofMkFst ‹_› | exact At.ofMkSnd ‹_›
    | refine At.ofNext (by assumption) ?_ | refine At.ofFst (by assumption) ?_ | refine At.ofSnd (by assumption) ?_
    | refine At.ofOpt (by assumption) ?_ | refine At.ofOptSnd (by assumption) ?_ | refine At.ofOptFst (by assumption) ?_
    | refine At.ofOptSnd2 (by assumption) ?_ | apply At.mapAny | dsimp +zetaDelta only)

theorem execReviveBlocks_keeps {P : Part → Prop} {s₀ s : State} (dict_ : P .dict) (fb_ : P .fb) (stn_ : P .stn) (ses_ : P .ses) (tier_ : P
    .tier) (shape_ : P .shape) (trv_ : P .trv) (core_ : P .core) (srch_ : P .srch) (free_ : P .free) (half : Nat) (queue : Nat) (d :
    MoveDesc) (reads : List TileRead) (hs : At (Keeps P s₀) It s) : At (Keeps P s₀) Nxt (execReviveBlocks half queue d reads s) := by
  unfold execReviveBlocks
  with_reducible repeat' (first
    | assumption | (intro x; refine At.cut x ?_ ?_; rotate_left; intro _; clear_value x; rotate_left; unfold x) | intro _ | lift_lets
    | apply State.moveRow_keeps | apply At.ite | apply At.next | apply At.some | exact At.none | dsimp -zeta only [At.mkFst, At.mkSnd]
    | apply At.foldl | apply At.getD | apply At.fst | apply At.snd
    | ((conv => enter [3, 20]) <;> apply At.upd <;> first | exact .inl ‹_› | exact .inr rfl | skip)
    | ((conv => enter [3, 20]) <;> apply At.updCore) | split | exact At.ofMkFst ‹_› | exact At.ofMkSnd ‹_›
    | refine At.ofNext (by assumption) ?_ | refine At.ofFst (by assumption) ?_ | refine At.ofSnd (by assumption) ?_
    | refine At.ofOpt (by assumption) ?_ | refine At.ofOptSnd (by assumption) ?_ | refine At.ofOptFst (by assumption) ?_
    | refine At.ofOptSnd2 (by assumption) ?_ | apply At.mapAny | dsimp +zetaDelta only)

theorem State.askT4_keeps {P : Part → Prop} {s₀ s : State} (fab_ : P .fab) (a : Nat) (hs : At (Keeps P s₀) It s) : At (Keeps P s₀) It
    (State.askT4 s a) := by
  unfold State.askT4
  with_reducible repeat' (first
    | assumption | (intro x; refine At.cut x ?_ ?_; rotate_left; intro _; clear_value x; rotate_left; unfold x) | intro _ | lift_lets
    | apply State.fabSend_keeps | apply At.ite | apply At.next | apply At.some | exact At.none | dsimp -zeta only [At.mkFst, At.mkSnd]
    | apply At.foldl | apply At.getD | apply At.fst | apply At.snd
    | ((conv => enter [3, 20]) <;> apply At.upd <;> first | exact .inl ‹_› | exact .inr rfl | skip)
    | ((conv => enter [3, 20]) <;> apply At.updCore) | split | exact At.ofMkFst ‹_› | exact At.ofMkSnd ‹_›
    | refine At.ofNext (by assumption) ?_ | refine At.ofFst (by assumption) ?_ | refine At.ofSnd (by assumption) ?_
    | refine At.ofOpt (by assumption) ?_ | refine At.ofOptSnd (by assumption) ?_ | refine At.ofOptFst (by assumption) ?_
    | refine At.ofOptSnd2 (by assumption) ?_ | apply At.mapAny | dsimp +zetaDelta only)

theorem State.fetchT4_keeps {P : Part → Prop} {s₀ s : State} (fab_ : P .fab) (half : Nat) (q : Nat) (hs : At (Keeps P s₀) It s) : At (Keeps
    P s₀) It (State.fetchT4 s half q) := by
  unfold State.fetchT4
  with_reducible repeat' (first
    | assumption | (intro x; refine At.cut x ?_ ?_; rotate_left; intro _; clear_value x; rotate_left; unfold x) | intro _ | lift_lets
    | apply State.askT4_keeps | apply At.ite | apply At.next | apply At.some | exact At.none | dsimp -zeta only [At.mkFst, At.mkSnd]
    | apply At.foldl | apply At.getD | apply At.fst | apply At.snd
    | ((conv => enter [3, 20]) <;> apply At.upd <;> first | exact .inl ‹_› | exact .inr rfl | skip)
    | ((conv => enter [3, 20]) <;> apply At.updCore) | split | exact At.ofMkFst ‹_› | exact At.ofMkSnd ‹_›
    | refine At.ofNext (by assumption) ?_ | refine At.ofFst (by assumption) ?_ | refine At.ofSnd (by assumption) ?_
    | refine At.ofOpt (by assumption) ?_ | refine At.ofOptSnd (by assumption) ?_ | refine At.ofOptFst (by assumption) ?_
    | refine At.ofOptSnd2 (by assumption) ?_ | apply At.mapAny | dsimp +zetaDelta only)

theorem State.storeT4_keeps {P : Part → Prop} {s₀ s : State} (fab_ : P .fab) (a : Nat) (hs : At (Keeps P s₀) It s) : At (Keeps P s₀) It
    (State.storeT4 s a) := by
  unfold State.storeT4
  with_reducible repeat' (first
    | assumption | (intro x; refine At.cut x ?_ ?_; rotate_left; intro _; clear_value x; rotate_left; unfold x) | intro _ | lift_lets
    | apply State.fabSend_keeps | apply At.ite | apply At.next | apply At.some | exact At.none | dsimp -zeta only [At.mkFst, At.mkSnd]
    | apply At.foldl | apply At.getD | apply At.fst | apply At.snd
    | ((conv => enter [3, 20]) <;> apply At.upd <;> first | exact .inl ‹_› | exact .inr rfl | skip)
    | ((conv => enter [3, 20]) <;> apply At.updCore) | split | exact At.ofMkFst ‹_› | exact At.ofMkSnd ‹_›
    | refine At.ofNext (by assumption) ?_ | refine At.ofFst (by assumption) ?_ | refine At.ofSnd (by assumption) ?_
    | refine At.ofOpt (by assumption) ?_ | refine At.ofOptSnd (by assumption) ?_ | refine At.ofOptFst (by assumption) ?_
    | refine At.ofOptSnd2 (by assumption) ?_ | apply At.mapAny | dsimp +zetaDelta only)

theorem execMoveEngineGrant_keeps {P : Part → Prop} {s₀ s : State} (tier_ : P .tier) (shape_ : P .shape) (fab_ : P .fab) (half : Nat) (idle
    : Nat) (hs : At (Keeps P s₀) It s) : At (Keeps P s₀) Nxt (execMoveEngineGrant half idle s) := by
  unfold execMoveEngineGrant
  with_reducible repeat' (first
    | assumption | (intro x; refine At.cut x ?_ ?_; rotate_left; intro _; clear_value x; rotate_left; unfold x) | intro _ | lift_lets
    | apply State.startTile_keeps | apply State.fetchT4_keeps | apply At.ite | apply At.next | apply At.some | exact At.none
    | dsimp -zeta only [At.mkFst, At.mkSnd] | apply At.foldl | apply At.getD | apply At.fst | apply At.snd
    | ((conv => enter [3, 20]) <;> apply At.upd <;> first | exact .inl ‹_› | exact .inr rfl | skip)
    | ((conv => enter [3, 20]) <;> apply At.updCore) | split | exact At.ofMkFst ‹_› | exact At.ofMkSnd ‹_›
    | refine At.ofNext (by assumption) ?_ | refine At.ofFst (by assumption) ?_ | refine At.ofSnd (by assumption) ?_
    | refine At.ofOpt (by assumption) ?_ | refine At.ofOptSnd (by assumption) ?_ | refine At.ofOptFst (by assumption) ?_
    | refine At.ofOptSnd2 (by assumption) ?_ | apply At.mapAny | dsimp +zetaDelta only)

theorem execTileLanded_keeps {P : Part → Prop} {s₀ s : State} (dict_ : P .dict) (fb_ : P .fb) (stn_ : P .stn) (ses_ : P .ses) (tier_ : P
    .tier) (trv_ : P .trv) (core_ : P .core) (srch_ : P .srch) (fab_ : P .fab) (free_ : P .free) (half : Nat) (queue : Nat) (r : TileRead)
    (hs : At (Keeps P s₀) It s) : At (Keeps P s₀) Nxt (execTileLanded half queue r s) := by
  unfold execTileLanded
  with_reducible repeat' (first
    | assumption | (intro x; refine At.cut x ?_ ?_; rotate_left; intro _; clear_value x; rotate_left; unfold x) | intro _ | lift_lets
    | apply State.landOne_keeps | apply State.storeT4_keeps | apply At.ite | apply At.next | apply At.some | exact At.none
    | dsimp -zeta only [At.mkFst, At.mkSnd] | apply At.foldl | apply At.getD | apply At.fst | apply At.snd
    | ((conv => enter [3, 20]) <;> apply At.upd <;> first | exact .inl ‹_› | exact .inr rfl | skip)
    | ((conv => enter [3, 20]) <;> apply At.updCore) | split | exact At.ofMkFst ‹_› | exact At.ofMkSnd ‹_›
    | refine At.ofNext (by assumption) ?_ | refine At.ofFst (by assumption) ?_ | refine At.ofSnd (by assumption) ?_
    | refine At.ofOpt (by assumption) ?_ | refine At.ofOptSnd (by assumption) ?_ | refine At.ofOptFst (by assumption) ?_
    | refine At.ofOptSnd2 (by assumption) ?_ | apply At.mapAny | dsimp +zetaDelta only)

theorem State.completeHead_keeps {P : Part → Prop} {s₀ s : State} (dict_ : P .dict) (fb_ : P .fb) (ses_ : P .ses) (tier_ : P .tier) (trv_ :
    P .trv) (core_ : P .core) (srch_ : P .srch) (sync_ : P .sync) (half : Nat) (queue : Nat) (status : Nat) (hs : At (Keeps P s₀) It s) :
    At (Keeps P s₀) It (State.completeHead s half queue status) := by
  unfold State.completeHead
  with_reducible repeat' (first
    | assumption | (intro x; refine At.cut x ?_ ?_; rotate_left; intro _; clear_value x; rotate_left; unfold x) | intro _ | lift_lets
    | apply State.bump_keeps | apply State.setSess_keeps | apply State.residency_keeps | apply State.setQueue_keeps
    | apply State.admitWaiting_keeps | apply State.logMove_keeps | apply State.syncSignal_keeps | apply At.ite | apply At.next
    | apply At.some | exact At.none | dsimp -zeta only [At.mkFst, At.mkSnd] | apply At.foldl | apply At.getD | apply At.fst | apply At.snd
    | ((conv => enter [3, 20]) <;> apply At.upd <;> first | exact .inl ‹_› | exact .inr rfl | skip)
    | ((conv => enter [3, 20]) <;> apply At.updCore) | split | exact At.ofMkFst ‹_› | exact At.ofMkSnd ‹_›
    | refine At.ofNext (by assumption) ?_ | refine At.ofFst (by assumption) ?_ | refine At.ofSnd (by assumption) ?_
    | refine At.ofOpt (by assumption) ?_ | refine At.ofOptSnd (by assumption) ?_ | refine At.ofOptFst (by assumption) ?_
    | refine At.ofOptSnd2 (by assumption) ?_ | apply At.mapAny | dsimp +zetaDelta only)

theorem execMoveCompletion_keeps {P : Part → Prop} {s₀ s : State} (dict_ : P .dict) (fb_ : P .fb) (ses_ : P .ses) (tier_ : P .tier) (trv_ :
    P .trv) (core_ : P .core) (srch_ : P .srch) (sync_ : P .sync) (fab_ : P .fab) (half : Nat) (queue : Nat) (hs : At (Keeps P s₀) It s) :
    At (Keeps P s₀) Nxt (execMoveCompletion half queue s) := by
  unfold execMoveCompletion
  with_reducible repeat' (first
    | assumption | (intro x; refine At.cut x ?_ ?_; rotate_left; intro _; clear_value x; rotate_left; unfold x) | intro _ | lift_lets
    | apply State.handoverGo_keeps | apply State.completeHead_keeps | apply At.ite | apply At.next | apply At.some | exact At.none
    | dsimp -zeta only [At.mkFst, At.mkSnd] | apply At.foldl | apply At.getD | apply At.fst | apply At.snd
    | ((conv => enter [3, 20]) <;> apply At.upd <;> first | exact .inl ‹_› | exact .inr rfl | skip)
    | ((conv => enter [3, 20]) <;> apply At.updCore) | split | exact At.ofMkFst ‹_› | exact At.ofMkSnd ‹_›
    | refine At.ofNext (by assumption) ?_ | refine At.ofFst (by assumption) ?_ | refine At.ofSnd (by assumption) ?_
    | refine At.ofOpt (by assumption) ?_ | refine At.ofOptSnd (by assumption) ?_ | refine At.ofOptFst (by assumption) ?_
    | refine At.ofOptSnd2 (by assumption) ?_ | apply At.mapAny | dsimp +zetaDelta only)

theorem execDescriptorWithdraw_keeps {P : Part → Prop} {s₀ s : State} (dict_ : P .dict) (fb_ : P .fb) (ses_ : P .ses) (tier_ : P .tier)
    (trv_ : P .trv) (core_ : P .core) (srch_ : P .srch) (sync_ : P .sync) (half : Nat) (queue : Nat) (tag : Nat) (hs : At (Keeps P s₀) It
    s) : At (Keeps P s₀) Nxt (execDescriptorWithdraw half queue tag s) := by
  unfold execDescriptorWithdraw
  with_reducible repeat' (first
    | assumption | (intro x; refine At.cut x ?_ ?_; rotate_left; intro _; clear_value x; rotate_left; unfold x) | intro _ | lift_lets
    | apply State.setQueue_keeps | apply State.completeHead_keeps | apply At.ite | apply At.next | apply At.some | exact At.none
    | dsimp -zeta only [At.mkFst, At.mkSnd] | apply At.foldl | apply At.getD | apply At.fst | apply At.snd
    | ((conv => enter [3, 20]) <;> apply At.upd <;> first | exact .inl ‹_› | exact .inr rfl | skip)
    | ((conv => enter [3, 20]) <;> apply At.updCore) | split | exact At.ofMkFst ‹_› | exact At.ofMkSnd ‹_›
    | refine At.ofNext (by assumption) ?_ | refine At.ofFst (by assumption) ?_ | refine At.ofSnd (by assumption) ?_
    | refine At.ofOpt (by assumption) ?_ | refine At.ofOptSnd (by assumption) ?_ | refine At.ofOptFst (by assumption) ?_
    | refine At.ofOptSnd2 (by assumption) ?_ | apply At.mapAny | dsimp +zetaDelta only)

theorem execT3T4Timeout_keeps {P : Part → Prop} {s₀ s : State} (dict_ : P .dict) (mgmt_ : P .mgmt) (fb_ : P .fb) (stn_ : P .stn) (ses_ : P
    .ses) (tier_ : P .tier) (trv_ : P .trv) (core_ : P .core) (srch_ : P .srch) (sync_ : P .sync) (ck_ : P .ck) (free_ : P .free) (half :
    Nat) (queue : Nat) (hs : At (Keeps P s₀) It s) : At (Keeps P s₀) Nxt (execT3T4Timeout half queue s) := by
  unfold execT3T4Timeout
  with_reducible repeat' (first
    | assumption | (intro x; refine At.cut x ?_ ?_; rotate_left; intro _; clear_value x; rotate_left; unfold x) | intro _ | lift_lets
    | apply State.bump_keeps | apply State.loseTile_keeps | apply State.setQueue_keeps | apply State.ckAbort_keeps
    | apply State.completeHead_keeps | apply At.ite | apply At.next | apply At.some | exact At.none
    | dsimp -zeta only [At.mkFst, At.mkSnd] | apply At.foldl | apply At.getD | apply At.fst | apply At.snd
    | ((conv => enter [3, 20]) <;> apply At.upd <;> first | exact .inl ‹_› | exact .inr rfl | skip)
    | ((conv => enter [3, 20]) <;> apply At.updCore) | split | exact At.ofMkFst ‹_› | exact At.ofMkSnd ‹_›
    | refine At.ofNext (by assumption) ?_ | refine At.ofFst (by assumption) ?_ | refine At.ofSnd (by assumption) ?_
    | refine At.ofOpt (by assumption) ?_ | refine At.ofOptSnd (by assumption) ?_ | refine At.ofOptFst (by assumption) ?_
    | refine At.ofOptSnd2 (by assumption) ?_ | apply At.mapAny | dsimp +zetaDelta only)

theorem execPartialUpdate_keeps {P : Part → Prop} {s₀ s : State} (dict_ : P .dict) (ses_ : P .ses) (tier_ : P .tier) (trv_ : P .trv) (core_
    : P .core) (half : Nat) (row : Nat) (d : Nat) (payload : Octets) (parity : Bool) (hs : At (Keeps P s₀) It s) : At (Keeps P s₀) Nxt
    (execPartialUpdate half row d payload parity s) := by
  unfold execPartialUpdate
  with_reducible repeat' (first
    | assumption | (intro x; refine At.cut x ?_ ?_; rotate_left; intro _; clear_value x; rotate_left; unfold x) | intro _ | lift_lets
    | apply State.setEng_keeps | apply State.landTile_keeps | apply At.ite | apply At.next | apply At.some | exact At.none
    | dsimp -zeta only [At.mkFst, At.mkSnd] | apply At.foldl | apply At.getD | apply At.fst | apply At.snd
    | ((conv => enter [3, 20]) <;> apply At.upd <;> first | exact .inl ‹_› | exact .inr rfl | skip)
    | ((conv => enter [3, 20]) <;> apply At.updCore) | split | exact At.ofMkFst ‹_› | exact At.ofMkSnd ‹_›
    | refine At.ofNext (by assumption) ?_ | refine At.ofFst (by assumption) ?_ | refine At.ofSnd (by assumption) ?_
    | refine At.ofOpt (by assumption) ?_ | refine At.ofOptSnd (by assumption) ?_ | refine At.ofOptFst (by assumption) ?_
    | refine At.ofOptSnd2 (by assumption) ?_ | apply At.mapAny | dsimp +zetaDelta only)

theorem State.reclaim_keeps {P : Part → Prop} {s₀ s : State} (dict_ : P .dict) (ses_ : P .ses) (tier_ : P .tier) (half : Nat) (y2 : Nat)
    (hs : At (Keeps P s₀) It s) : At (Keeps P s₀) It (State.reclaim s half y2) := by
  induction y2 generalizing s with
  | zero =>
    unfold State.reclaim
    with_reducible repeat' (first
      | assumption | (intro x; refine At.cut x ?_ ?_; rotate_left; intro _; clear_value x; rotate_left; unfold x) | intro _ | lift_lets
      | apply State.addObj_keeps | apply State.setEng_keeps | apply State.dropShadow_keeps | apply At.ite | apply At.next | apply At.some
      | exact At.none | dsimp -zeta only [At.mkFst, At.mkSnd] | apply At.foldl | apply At.getD | apply At.fst | apply At.snd
      | ((conv => enter [3, 20]) <;> apply At.upd <;> first | exact .inl ‹_› | exact .inr rfl | skip)
      | ((conv => enter [3, 20]) <;> apply At.updCore) | split | exact At.ofMkFst ‹_› | exact At.ofMkSnd ‹_›
      | refine At.ofNext (by assumption) ?_ | refine At.ofFst (by assumption) ?_ | refine At.ofSnd (by assumption) ?_
      | refine At.ofOpt (by assumption) ?_ | refine At.ofOptSnd (by assumption) ?_ | refine At.ofOptFst (by assumption) ?_
      | refine At.ofOptSnd2 (by assumption) ?_ | apply At.mapAny | dsimp +zetaDelta only)
  | succ n ih =>
    unfold State.reclaim
    with_reducible repeat' (first
      | assumption | (intro x; refine At.cut x ?_ ?_; rotate_left; intro _; clear_value x; rotate_left; unfold x) | intro _ | lift_lets
      | apply State.addObj_keeps | apply State.setEng_keeps | apply State.dropShadow_keeps | apply ih | apply At.ite | apply At.next
      | apply At.some | exact At.none | dsimp -zeta only [At.mkFst, At.mkSnd] | apply At.foldl | apply At.getD | apply At.fst | apply At.snd
      | ((conv => enter [3, 20]) <;> apply At.upd <;> first | exact .inl ‹_› | exact .inr rfl | skip)
      | ((conv => enter [3, 20]) <;> apply At.updCore) | split | exact At.ofMkFst ‹_› | exact At.ofMkSnd ‹_›
      | refine At.ofNext (by assumption) ?_ | refine At.ofFst (by assumption) ?_ | refine At.ofSnd (by assumption) ?_
      | refine At.ofOpt (by assumption) ?_ | refine At.ofOptSnd (by assumption) ?_ | refine At.ofOptFst (by assumption) ?_
      | refine At.ofOptSnd2 (by assumption) ?_ | apply At.mapAny | dsimp +zetaDelta only)

theorem execShadowReclaim_keeps {P : Part → Prop} {s₀ s : State} (dict_ : P .dict) (ses_ : P .ses) (tier_ : P .tier) (half : Nat) (hs : At
    (Keeps P s₀) It s) : At (Keeps P s₀) Nxt (execShadowReclaim half s) := by
  unfold execShadowReclaim
  with_reducible repeat' (first
    | assumption | (intro x; refine At.cut x ?_ ?_; rotate_left; intro _; clear_value x; rotate_left; unfold x) | intro _ | lift_lets
    | apply State.reclaim_keeps | apply At.ite | apply At.next | apply At.some | exact At.none | dsimp -zeta only [At.mkFst, At.mkSnd]
    | apply At.foldl | apply At.getD | apply At.fst | apply At.snd
    | ((conv => enter [3, 20]) <;> apply At.upd <;> first | exact .inl ‹_› | exact .inr rfl | skip)
    | ((conv => enter [3, 20]) <;> apply At.updCore) | split | exact At.ofMkFst ‹_› | exact At.ofMkSnd ‹_›
    | refine At.ofNext (by assumption) ?_ | refine At.ofFst (by assumption) ?_ | refine At.ofSnd (by assumption) ?_
    | refine At.ofOpt (by assumption) ?_ | refine At.ofOptSnd (by assumption) ?_ | refine At.ofOptFst (by assumption) ?_
    | refine At.ofOptSnd2 (by assumption) ?_ | apply At.mapAny | dsimp +zetaDelta only)

theorem State.evictAll_keeps {P : Part → Prop} {s₀ s : State} (dict_ : P .dict) (fb_ : P .fb) (ses_ : P .ses) (tier_ : P .tier) (srch_ : P
    .srch) (x : Session) (hs : At (Keeps P s₀) It s) : At (Keeps P s₀) It (State.evictAll s x) := by
  unfold State.evictAll
  with_reducible repeat' (first
    | assumption | (intro x; refine At.cut x ?_ ?_; rotate_left; intro _; clear_value x; rotate_left; unfold x) | intro _ | lift_lets
    | apply State.residency_keeps | apply State.evictBlock_keeps | apply At.ite | apply At.next | apply At.some | exact At.none
    | dsimp -zeta only [At.mkFst, At.mkSnd] | apply At.foldl | apply At.getD | apply At.fst | apply At.snd
    | ((conv => enter [3, 20]) <;> apply At.upd <;> first | exact .inl ‹_› | exact .inr rfl | skip)
    | ((conv => enter [3, 20]) <;> apply At.updCore) | split | exact At.ofMkFst ‹_› | exact At.ofMkSnd ‹_›
    | refine At.ofNext (by assumption) ?_ | refine At.ofFst (by assumption) ?_ | refine At.ofSnd (by assumption) ?_
    | refine At.ofOpt (by assumption) ?_ | refine At.ofOptSnd (by assumption) ?_ | refine At.ofOptFst (by assumption) ?_
    | refine At.ofOptSnd2 (by assumption) ?_ | apply At.mapAny | dsimp +zetaDelta only)

theorem State.leaseRoom_keeps {P : Part → Prop} {s₀ s : State} (fab_ : P .fab) (free_ : P .free) (n : Nat) (hs : At (Keeps P s₀) It s) : At
    (Keeps P s₀) It (State.leaseRoom s n) := by
  unfold State.leaseRoom
  with_reducible repeat' (first
    | assumption | (intro x; refine At.cut x ?_ ?_; rotate_left; intro _; clear_value x; rotate_left; unfold x) | intro _ | lift_lets
    | apply State.draw_keeps | apply State.fabSend_keeps | apply At.ite | apply At.next | apply At.some | exact At.none
    | dsimp -zeta only [At.mkFst, At.mkSnd] | apply At.foldl | apply At.getD | apply At.fst | apply At.snd
    | ((conv => enter [3, 20]) <;> apply At.upd <;> first | exact .inl ‹_› | exact .inr rfl | skip)
    | ((conv => enter [3, 20]) <;> apply At.updCore) | split | exact At.ofMkFst ‹_› | exact At.ofMkSnd ‹_›
    | refine At.ofNext (by assumption) ?_ | refine At.ofFst (by assumption) ?_ | refine At.ofSnd (by assumption) ?_
    | refine At.ofOpt (by assumption) ?_ | refine At.ofOptSnd (by assumption) ?_ | refine At.ofOptFst (by assumption) ?_
    | refine At.ofOptSnd2 (by assumption) ?_ | apply At.mapAny | dsimp +zetaDelta only)

theorem State.parkLower_keeps {P : Part → Prop} {s₀ s : State} (dict_ : P .dict) (fb_ : P .fb) (ses_ : P .ses) (tier_ : P .tier) (srch_ : P
    .srch) (fab_ : P .fab) (free_ : P .free) (x : Session) (hs : At (Keeps P s₀) It s) : At (Keeps P s₀) It (State.parkLower s x) := by
  unfold State.parkLower
  with_reducible repeat' (first
    | assumption | (intro x; refine At.cut x ?_ ?_; rotate_left; intro _; clear_value x; rotate_left; unfold x) | intro _ | lift_lets
    | apply State.startPark_keeps | apply State.evictAll_keeps | apply State.leaseRoom_keeps | apply At.ite | apply At.next
    | apply At.some | exact At.none | dsimp -zeta only [At.mkFst, At.mkSnd] | apply At.foldl | apply At.getD | apply At.fst | apply At.snd
    | ((conv => enter [3, 20]) <;> apply At.upd <;> first | exact .inl ‹_› | exact .inr rfl | skip)
    | ((conv => enter [3, 20]) <;> apply At.updCore) | split | exact At.ofMkFst ‹_› | exact At.ofMkSnd ‹_›
    | refine At.ofNext (by assumption) ?_ | refine At.ofFst (by assumption) ?_ | refine At.ofSnd (by assumption) ?_
    | refine At.ofOpt (by assumption) ?_ | refine At.ofOptSnd (by assumption) ?_ | refine At.ofOptFst (by assumption) ?_
    | refine At.ofOptSnd2 (by assumption) ?_ | apply At.mapAny | dsimp +zetaDelta only)

theorem execParkTimer_keeps {P : Part → Prop} {s₀ s : State} (dict_ : P .dict) (fb_ : P .fb) (ses_ : P .ses) (tier_ : P .tier) (srch_ : P
    .srch) (fab_ : P .fab) (free_ : P .free) (sid : Nat) (hs : At (Keeps P s₀) It s) : At (Keeps P s₀) Nxt (execParkTimer sid s) := by
  unfold execParkTimer
  with_reducible repeat' (first
    | assumption | (intro x; refine At.cut x ?_ ?_; rotate_left; intro _; clear_value x; rotate_left; unfold x) | intro _ | lift_lets
    | apply State.startPark_keeps | apply State.parkLower_keeps | apply At.ite | apply At.next | apply At.some | exact At.none
    | dsimp -zeta only [At.mkFst, At.mkSnd] | apply At.foldl | apply At.getD | apply At.fst | apply At.snd
    | ((conv => enter [3, 20]) <;> apply At.upd <;> first | exact .inl ‹_› | exact .inr rfl | skip)
    | ((conv => enter [3, 20]) <;> apply At.updCore) | split | exact At.ofMkFst ‹_› | exact At.ofMkSnd ‹_›
    | refine At.ofNext (by assumption) ?_ | refine At.ofFst (by assumption) ?_ | refine At.ofSnd (by assumption) ?_
    | refine At.ofOpt (by assumption) ?_ | refine At.ofOptSnd (by assumption) ?_ | refine At.ofOptFst (by assumption) ?_
    | refine At.ofOptSnd2 (by assumption) ?_ | apply At.mapAny | dsimp +zetaDelta only)

theorem State.pressureT1_keeps {P : Part → Prop} {s₀ s : State} (dict_ : P .dict) (ses_ : P .ses) (tier_ : P .tier) (half : Nat) (hs : At
    (Keeps P s₀) It s) : At (Keeps P s₀) It (State.pressureT1 s half) := by
  unfold State.pressureT1
  with_reducible repeat' (first
    | assumption | (intro x; refine At.cut x ?_ ?_; rotate_left; intro _; clear_value x; rotate_left; unfold x) | intro _ | lift_lets
    | apply State.bump_keeps | apply State.startPark_keeps | apply At.ite | apply At.next | apply At.some | exact At.none
    | dsimp -zeta only [At.mkFst, At.mkSnd] | apply At.foldl | apply At.getD | apply At.fst | apply At.snd
    | ((conv => enter [3, 20]) <;> apply At.upd <;> first | exact .inl ‹_› | exact .inr rfl | skip)
    | ((conv => enter [3, 20]) <;> apply At.updCore) | split | exact At.ofMkFst ‹_› | exact At.ofMkSnd ‹_›
    | refine At.ofNext (by assumption) ?_ | refine At.ofFst (by assumption) ?_ | refine At.ofSnd (by assumption) ?_
    | refine At.ofOpt (by assumption) ?_ | refine At.ofOptSnd (by assumption) ?_ | refine At.ofOptFst (by assumption) ?_
    | refine At.ofOptSnd2 (by assumption) ?_ | apply At.mapAny | dsimp +zetaDelta only)

theorem State.pressureT2_keeps {P : Part → Prop} {s₀ s : State} (dict_ : P .dict) (fb_ : P .fb) (ses_ : P .ses) (tier_ : P .tier) (srch_ :
    P .srch) (fab_ : P .fab) (free_ : P .free) (half : Nat) (hs : At (Keeps P s₀) It s) : At (Keeps P s₀) It (State.pressureT2 s half) := by
  unfold State.pressureT2
  with_reducible repeat' (first
    | assumption | (intro x; refine At.cut x ?_ ?_; rotate_left; intro _; clear_value x; rotate_left; unfold x) | intro _ | lift_lets
    | apply State.bump_keeps | apply State.parkLower_keeps | apply At.ite | apply At.next | apply At.some | exact At.none
    | dsimp -zeta only [At.mkFst, At.mkSnd] | apply At.foldl | apply At.getD | apply At.fst | apply At.snd
    | ((conv => enter [3, 20]) <;> apply At.upd <;> first | exact .inl ‹_› | exact .inr rfl | skip)
    | ((conv => enter [3, 20]) <;> apply At.updCore) | split | exact At.ofMkFst ‹_› | exact At.ofMkSnd ‹_›
    | refine At.ofNext (by assumption) ?_ | refine At.ofFst (by assumption) ?_ | refine At.ofSnd (by assumption) ?_
    | refine At.ofOpt (by assumption) ?_ | refine At.ofOptSnd (by assumption) ?_ | refine At.ofOptFst (by assumption) ?_
    | refine At.ofOptSnd2 (by assumption) ?_ | apply At.mapAny | dsimp +zetaDelta only)

theorem execPressurePark_keeps {P : Part → Prop} {s₀ s : State} (dict_ : P .dict) (fb_ : P .fb) (ses_ : P .ses) (tier_ : P .tier) (srch_ :
    P .srch) (fab_ : P .fab) (free_ : P .free) (half : Nat) (hs : At (Keeps P s₀) It s) : At (Keeps P s₀) Nxt (execPressurePark half s) :=
    by
  unfold execPressurePark
  with_reducible repeat' (first
    | assumption | (intro x; refine At.cut x ?_ ?_; rotate_left; intro _; clear_value x; rotate_left; unfold x) | intro _ | lift_lets
    | apply State.pressureT1_keeps | apply State.pressureT2_keeps | apply At.ite | apply At.next | apply At.some | exact At.none
    | dsimp -zeta only [At.mkFst, At.mkSnd] | apply At.foldl | apply At.getD | apply At.fst | apply At.snd
    | ((conv => enter [3, 20]) <;> apply At.upd <;> first | exact .inl ‹_› | exact .inr rfl | skip)
    | ((conv => enter [3, 20]) <;> apply At.updCore) | split | exact At.ofMkFst ‹_› | exact At.ofMkSnd ‹_›
    | refine At.ofNext (by assumption) ?_ | refine At.ofFst (by assumption) ?_ | refine At.ofSnd (by assumption) ?_
    | refine At.ofOpt (by assumption) ?_ | refine At.ofOptSnd (by assumption) ?_ | refine At.ofOptFst (by assumption) ?_
    | refine At.ofOptSnd2 (by assumption) ?_ | apply At.mapAny | dsimp +zetaDelta only)

theorem execReviveReady_keeps {P : Part → Prop} {s₀ s : State} (dict_ : P .dict) (fb_ : P .fb) (stn_ : P .stn) (ses_ : P .ses) (tier_ : P
    .tier) (free_ : P .free) (sid : Nat) (hs : At (Keeps P s₀) It s) : At (Keeps P s₀) Nxt (execReviveReady sid s) := by
  unfold execReviveReady
  with_reducible repeat' (first
    | assumption | (intro x; refine At.cut x ?_ ?_; rotate_left; intro _; clear_value x; rotate_left; unfold x) | intro _ | lift_lets
    | apply State.reviveReady_keeps | apply State.queueSharers_keeps | apply At.ite | apply At.next | apply At.some | exact At.none
    | dsimp -zeta only [At.mkFst, At.mkSnd] | apply At.foldl | apply At.getD | apply At.fst | apply At.snd
    | ((conv => enter [3, 20]) <;> apply At.upd <;> first | exact .inl ‹_› | exact .inr rfl | skip)
    | ((conv => enter [3, 20]) <;> apply At.updCore) | split | exact At.ofMkFst ‹_› | exact At.ofMkSnd ‹_›
    | refine At.ofNext (by assumption) ?_ | refine At.ofFst (by assumption) ?_ | refine At.ofSnd (by assumption) ?_
    | refine At.ofOpt (by assumption) ?_ | refine At.ofOptSnd (by assumption) ?_ | refine At.ofOptFst (by assumption) ?_
    | refine At.ofOptSnd2 (by assumption) ?_ | apply At.mapAny | dsimp +zetaDelta only)

theorem execHashTableRebuild_keeps {P : Part → Prop} {s₀ s : State} (ses_ : P .ses) (half : Nat) (hs : At (Keeps P s₀) It s) : At (Keeps P
    s₀) Nxt (execHashTableRebuild half s) := by
  unfold execHashTableRebuild
  with_reducible repeat' (first
    | assumption | (intro x; refine At.cut x ?_ ?_; rotate_left; intro _; clear_value x; rotate_left; unfold x) | intro _ | lift_lets
    | apply State.setHash_keeps | apply At.ite | apply At.next | apply At.some | exact At.none | dsimp -zeta only [At.mkFst, At.mkSnd]
    | apply At.foldl | apply At.getD | apply At.fst | apply At.snd
    | ((conv => enter [3, 20]) <;> apply At.upd <;> first | exact .inl ‹_› | exact .inr rfl | skip)
    | ((conv => enter [3, 20]) <;> apply At.updCore) | split | exact At.ofMkFst ‹_› | exact At.ofMkSnd ‹_›
    | refine At.ofNext (by assumption) ?_ | refine At.ofFst (by assumption) ?_ | refine At.ofSnd (by assumption) ?_
    | refine At.ofOpt (by assumption) ?_ | refine At.ofOptSnd (by assumption) ?_ | refine At.ofOptFst (by assumption) ?_
    | refine At.ofOptSnd2 (by assumption) ?_ | apply At.mapAny | dsimp +zetaDelta only)

theorem execWaitExpired_keeps {P : Part → Prop} {s₀ s : State} (dict_ : P .dict) (fb_ : P .fb) (stn_ : P .stn) (ses_ : P .ses) (sid : Nat)
    (hs : At (Keeps P s₀) It s) : At (Keeps P s₀) Nxt (execWaitExpired sid s) := by
  unfold execWaitExpired
  with_reducible repeat' (first
    | assumption | (intro x; refine At.cut x ?_ ?_; rotate_left; intro _; clear_value x; rotate_left; unfold x) | intro _ | lift_lets
    | apply State.setSess_keeps | apply State.srec'_keeps | apply State.sevent_keeps | apply At.ite | apply At.next | apply At.some
    | exact At.none | dsimp -zeta only [At.mkFst, At.mkSnd] | apply At.foldl | apply At.getD | apply At.fst | apply At.snd
    | ((conv => enter [3, 20]) <;> apply At.upd <;> first | exact .inl ‹_› | exact .inr rfl | skip)
    | ((conv => enter [3, 20]) <;> apply At.updCore) | split | exact At.ofMkFst ‹_› | exact At.ofMkSnd ‹_›
    | refine At.ofNext (by assumption) ?_ | refine At.ofFst (by assumption) ?_ | refine At.ofSnd (by assumption) ?_
    | refine At.ofOpt (by assumption) ?_ | refine At.ofOptSnd (by assumption) ?_ | refine At.ofOptFst (by assumption) ?_
    | refine At.ofOptSnd2 (by assumption) ?_ | apply At.mapAny | dsimp +zetaDelta only)

theorem State.snapSys_keeps {P : Part → Prop} {s₀ s : State} (dict_ : P .dict) (tier_ : P .tier) (half : Nat) (a : Nat) (hs : At (Keeps P
    s₀) It s) : At (Keeps P s₀) It (State.snapSys s half a) := by
  unfold State.snapSys
  with_reducible repeat' (first
    | assumption | (intro x; refine At.cut x ?_ ?_; rotate_left; intro _; clear_value x; rotate_left; unfold x) | intro _ | lift_lets
    | apply State.setEng_keeps | apply State.stage_keeps | apply At.ite | apply At.next | apply At.some | exact At.none
    | dsimp -zeta only [At.mkFst, At.mkSnd] | apply At.foldl | apply At.getD | apply At.fst | apply At.snd
    | ((conv => enter [3, 20]) <;> apply At.upd <;> first | exact .inl ‹_› | exact .inr rfl | skip)
    | ((conv => enter [3, 20]) <;> apply At.updCore) | split | exact At.ofMkFst ‹_› | exact At.ofMkSnd ‹_›
    | refine At.ofNext (by assumption) ?_ | refine At.ofFst (by assumption) ?_ | refine At.ofSnd (by assumption) ?_
    | refine At.ofOpt (by assumption) ?_ | refine At.ofOptSnd (by assumption) ?_ | refine At.ofOptFst (by assumption) ?_
    | refine At.ofOptSnd2 (by assumption) ?_ | apply At.mapAny | dsimp +zetaDelta only)

theorem State.copyNext_keeps {P : Part → Prop} {s₀ s : State} (dict_ : P .dict) (tier_ : P .tier) (half : Nat) (n : SnapNext) (hs : At
    (Keeps P s₀) It s) : At (Keeps P s₀) It (State.copyNext s half n) := by
  unfold State.copyNext
  with_reducible repeat' (first
    | assumption | (intro x; refine At.cut x ?_ ?_; rotate_left; intro _; clear_value x; rotate_left; unfold x) | intro _ | lift_lets
    | apply State.snapCopy_keeps | apply State.snapSys_keeps | apply At.ite | apply At.next | apply At.some | exact At.none
    | dsimp -zeta only [At.mkFst, At.mkSnd] | apply At.foldl | apply At.getD | apply At.fst | apply At.snd
    | ((conv => enter [3, 20]) <;> apply At.upd <;> first | exact .inl ‹_› | exact .inr rfl | skip)
    | ((conv => enter [3, 20]) <;> apply At.updCore) | split | exact At.ofMkFst ‹_› | exact At.ofMkSnd ‹_›
    | refine At.ofNext (by assumption) ?_ | refine At.ofFst (by assumption) ?_ | refine At.ofSnd (by assumption) ?_
    | refine At.ofOpt (by assumption) ?_ | refine At.ofOptSnd (by assumption) ?_ | refine At.ofOptFst (by assumption) ?_
    | refine At.ofOptSnd2 (by assumption) ?_ | apply At.mapAny | dsimp +zetaDelta only)

theorem execSnapshotCopy_keeps {P : Part → Prop} {s₀ s : State} (dict_ : P .dict) (tier_ : P .tier) (half : Nat) (hs : At (Keeps P s₀) It
    s) : At (Keeps P s₀) Nxt (execSnapshotCopy half s) := by
  unfold execSnapshotCopy
  with_reducible repeat' (first
    | assumption | (intro x; refine At.cut x ?_ ?_; rotate_left; intro _; clear_value x; rotate_left; unfold x) | intro _ | lift_lets
    | apply State.setEng_keeps | apply State.copyNext_keeps | apply At.ite | apply At.next | apply At.some | exact At.none
    | dsimp -zeta only [At.mkFst, At.mkSnd] | apply At.foldl | apply At.getD | apply At.fst | apply At.snd
    | ((conv => enter [3, 20]) <;> apply At.upd <;> first | exact .inl ‹_› | exact .inr rfl | skip)
    | ((conv => enter [3, 20]) <;> apply At.updCore) | split | exact At.ofMkFst ‹_› | exact At.ofMkSnd ‹_›
    | refine At.ofNext (by assumption) ?_ | refine At.ofFst (by assumption) ?_ | refine At.ofSnd (by assumption) ?_
    | refine At.ofOpt (by assumption) ?_ | refine At.ofOptSnd (by assumption) ?_ | refine At.ofOptFst (by assumption) ?_
    | refine At.ofOptSnd2 (by assumption) ?_ | apply At.mapAny | dsimp +zetaDelta only)

theorem execCopyFirst_keeps {P : Part → Prop} {s₀ s : State} (dict_ : P .dict) (ses_ : P .ses) (tier_ : P .tier) (trv_ : P .trv) (core_ : P
    .core) (a : Nat) (payload : Octets) (hs : At (Keeps P s₀) It s) : At (Keeps P s₀) Nxt (execCopyFirst a payload s) := by
  unfold execCopyFirst
  with_reducible repeat' (first
    | assumption | (intro x; refine At.cut x ?_ ?_; rotate_left; intro _; clear_value x; rotate_left; unfold x) | intro _ | lift_lets
    | apply State.bump_keeps | apply State.countCopy_keeps | apply State.landTile_keeps | apply State.snapSys_keeps | apply At.ite
    | apply At.next | apply At.some | exact At.none | dsimp -zeta only [At.mkFst, At.mkSnd] | apply At.foldl | apply At.getD
    | apply At.fst | apply At.snd | ((conv => enter [3, 20]) <;> apply At.upd <;> first | exact .inl ‹_› | exact .inr rfl | skip)
    | ((conv => enter [3, 20]) <;> apply At.updCore) | split | exact At.ofMkFst ‹_› | exact At.ofMkSnd ‹_›
    | refine At.ofNext (by assumption) ?_ | refine At.ofFst (by assumption) ?_ | refine At.ofSnd (by assumption) ?_
    | refine At.ofOpt (by assumption) ?_ | refine At.ofOptSnd (by assumption) ?_ | refine At.ofOptFst (by assumption) ?_
    | refine At.ofOptSnd2 (by assumption) ?_ | apply At.mapAny | dsimp +zetaDelta only)

theorem execBucketTick_keeps {P : Part → Prop} {s₀ s : State} (dict_ : P .dict) (shape_ : P .shape) (hs : At (Keeps P s₀) It s) : At (Keeps
    P s₀) Nxt (execBucketTick s) := by
  unfold execBucketTick
  with_reducible repeat' (first
    | assumption | (intro x; refine At.cut x ?_ ?_; rotate_left; intro _; clear_value x; rotate_left; unfold x) | intro _ | lift_lets
    | apply State.bucketTick_keeps | apply State.countDeferred_keeps | apply At.ite | apply At.next | apply At.some | exact At.none
    | dsimp -zeta only [At.mkFst, At.mkSnd] | apply At.foldl | apply At.getD | apply At.fst | apply At.snd
    | ((conv => enter [3, 20]) <;> apply At.upd <;> first | exact .inl ‹_› | exact .inr rfl | skip)
    | ((conv => enter [3, 20]) <;> apply At.updCore) | split | exact At.ofMkFst ‹_› | exact At.ofMkSnd ‹_›
    | refine At.ofNext (by assumption) ?_ | refine At.ofFst (by assumption) ?_ | refine At.ofSnd (by assumption) ?_
    | refine At.ofOpt (by assumption) ?_ | refine At.ofOptSnd (by assumption) ?_ | refine At.ofOptFst (by assumption) ?_
    | refine At.ofOptSnd2 (by assumption) ?_ | apply At.mapAny | dsimp +zetaDelta only)

theorem execArInsert_keeps {P : Part → Prop} {s₀ s : State} (dict_ : P .dict) (mgmt_ : P .mgmt) (fb_ : P .fb) (stn_ : P .stn) (srch_ : P
    .srch) (w : Writer) (v : Octets) (hs : At (Keeps P s₀) It s) : At (Keeps P s₀) Nxt (execArInsert w v s) := by
  unfold execArInsert
  with_reducible repeat' (first
    | assumption | (intro x; refine At.cut x ?_ ?_; rotate_left; intro _; clear_value x; rotate_left; unfold x) | intro _ | lift_lets
    | apply State.commandEnds_keeps | apply State.ruleInsert_keeps | apply At.ite | apply At.next | apply At.some | exact At.none
    | dsimp -zeta only [At.mkFst, At.mkSnd] | apply At.foldl | apply At.getD | apply At.fst | apply At.snd
    | ((conv => enter [3, 20]) <;> apply At.upd <;> first | exact .inl ‹_› | exact .inr rfl | skip)
    | ((conv => enter [3, 20]) <;> apply At.updCore) | split | exact At.ofMkFst ‹_› | exact At.ofMkSnd ‹_›
    | refine At.ofNext (by assumption) ?_ | refine At.ofFst (by assumption) ?_ | refine At.ofSnd (by assumption) ?_
    | refine At.ofOpt (by assumption) ?_ | refine At.ofOptSnd (by assumption) ?_ | refine At.ofOptFst (by assumption) ?_
    | refine At.ofOptSnd2 (by assumption) ?_ | apply At.mapAny | dsimp +zetaDelta only)

theorem execArRemove_keeps {P : Part → Prop} {s₀ s : State} (dict_ : P .dict) (mgmt_ : P .mgmt) (fb_ : P .fb) (stn_ : P .stn) (srch_ : P
    .srch) (w : Writer) (id : Nat) (hs : At (Keeps P s₀) It s) : At (Keeps P s₀) Nxt (execArRemove w id s) := by
  unfold execArRemove
  with_reducible repeat' (first
    | assumption | (intro x; refine At.cut x ?_ ?_; rotate_left; intro _; clear_value x; rotate_left; unfold x) | intro _ | lift_lets
    | apply State.commandEnds_keeps | apply State.ruleRemove_keeps | apply At.ite | apply At.next | apply At.some | exact At.none
    | dsimp -zeta only [At.mkFst, At.mkSnd] | apply At.foldl | apply At.getD | apply At.fst | apply At.snd
    | ((conv => enter [3, 20]) <;> apply At.upd <;> first | exact .inl ‹_› | exact .inr rfl | skip)
    | ((conv => enter [3, 20]) <;> apply At.updCore) | split | exact At.ofMkFst ‹_› | exact At.ofMkSnd ‹_›
    | refine At.ofNext (by assumption) ?_ | refine At.ofFst (by assumption) ?_ | refine At.ofSnd (by assumption) ?_
    | refine At.ofOpt (by assumption) ?_ | refine At.ofOptSnd (by assumption) ?_ | refine At.ofOptFst (by assumption) ?_
    | refine At.ofOptSnd2 (by assumption) ?_ | apply At.mapAny | dsimp +zetaDelta only)

theorem execGlCommit_keeps {P : Part → Prop} {s₀ s : State} (dict_ : P .dict) (mgmt_ : P .mgmt) (fb_ : P .fb) (stn_ : P .stn) (shape_ : P
    .shape) (w : Writer) (half : Nat) (hs : At (Keeps P s₀) It s) : At (Keeps P s₀) Nxt (execGlCommit w half s) := by
  unfold execGlCommit
  with_reducible repeat' (first
    | assumption | (intro x; refine At.cut x ?_ ?_; rotate_left; intro _; clear_value x; rotate_left; unfold x) | intro _ | lift_lets
    | apply State.commandNow_keeps | apply State.gateCommit_keeps | apply At.ite | apply At.next | apply At.some | exact At.none
    | dsimp -zeta only [At.mkFst, At.mkSnd] | apply At.foldl | apply At.getD | apply At.fst | apply At.snd
    | ((conv => enter [3, 20]) <;> apply At.upd <;> first | exact .inl ‹_› | exact .inr rfl | skip)
    | ((conv => enter [3, 20]) <;> apply At.updCore) | split | exact At.ofMkFst ‹_› | exact At.ofMkSnd ‹_›
    | refine At.ofNext (by assumption) ?_ | refine At.ofFst (by assumption) ?_ | refine At.ofSnd (by assumption) ?_
    | refine At.ofOpt (by assumption) ?_ | refine At.ofOptSnd (by assumption) ?_ | refine At.ofOptFst (by assumption) ?_
    | refine At.ofOptSnd2 (by assumption) ?_ | apply At.mapAny | dsimp +zetaDelta only)

theorem execGateListEntry_keeps {P : Part → Prop} {s₀ s : State} (shape_ : P .shape) (half : Nat) (hs : At (Keeps P s₀) It s) : At (Keeps P
    s₀) Nxt (execGateListEntry half s) := by
  unfold execGateListEntry
  with_reducible repeat' (first
    | assumption | (intro x; refine At.cut x ?_ ?_; rotate_left; intro _; clear_value x; rotate_left; unfold x) | intro _ | lift_lets
    | apply State.gateNext_keeps | apply At.ite | apply At.next | apply At.some | exact At.none | dsimp -zeta only [At.mkFst, At.mkSnd]
    | apply At.foldl | apply At.getD | apply At.fst | apply At.snd
    | ((conv => enter [3, 20]) <;> apply At.upd <;> first | exact .inl ‹_› | exact .inr rfl | skip)
    | ((conv => enter [3, 20]) <;> apply At.updCore) | split | exact At.ofMkFst ‹_› | exact At.ofMkSnd ‹_›
    | refine At.ofNext (by assumption) ?_ | refine At.ofFst (by assumption) ?_ | refine At.ofSnd (by assumption) ?_
    | refine At.ofOpt (by assumption) ?_ | refine At.ofOptSnd (by assumption) ?_ | refine At.ofOptFst (by assumption) ?_
    | refine At.ofOptSnd2 (by assumption) ?_ | apply At.mapAny | dsimp +zetaDelta only)

end Sys2Proof.Machine
end

