-- ==== Sys2Proof/Laws/Keeps5.lean ====
section
/-! SUPPORT. What the operations of these files may change: Checkpoint, Fabric, Durable, Resets, Recovery, Power. -/

namespace Sys2Proof.Machine

set_option linter.all false

/-! ### Machine/Checkpoint.lean -/

theorem execCkCheckpoint_keeps {P : Part → Prop} {s₀ s : State} (dict_ : P .dict) (mgmt_ : P .mgmt) (fb_ : P .fb) (stn_ : P .stn) (ck_ : P
    .ck) (w : Writer) (hs : At (Keeps P s₀) It s) : At (Keeps P s₀) Nxt (execCkCheckpoint w s) := by
  unfold execCkCheckpoint
  with_reducible repeat' (first
    | assumption | (intro x; refine At.cut x ?_ ?_; rotate_left; intro _; clear_value x; rotate_left; unfold x) | intro _ | lift_lets
    | apply State.command_keeps | apply State.ckTake_keeps | apply At.ite | apply At.next | apply At.some | exact At.none
    | dsimp -zeta only [At.mkFst, At.mkSnd] | apply At.foldl | apply At.getD | apply At.fst | apply At.snd
    | ((conv => enter [3, 20]) <;> apply At.upd <;> first | exact .inl ‹_› | exact .inr rfl | skip)
    | ((conv => enter [3, 20]) <;> apply At.updCore) | split | exact At.ofMkFst ‹_› | exact At.ofMkSnd ‹_›
    | refine At.ofNext (by assumption) ?_ | refine At.ofFst (by assumption) ?_ | refine At.ofSnd (by assumption) ?_
    | refine At.ofOpt (by assumption) ?_ | refine At.ofOptSnd (by assumption) ?_ | refine At.ofOptFst (by assumption) ?_
    | refine At.ofOptSnd2 (by assumption) ?_ | apply At.mapAny | dsimp +zetaDelta only)

theorem execAbort_keeps {P : Part → Prop} {s₀ s : State} (dict_ : P .dict) (mgmt_ : P .mgmt) (fb_ : P .fb) (stn_ : P .stn) (tier_ : P
    .tier) (ck_ : P .ck) (w : Writer) (hs : At (Keeps P s₀) It s) : At (Keeps P s₀) Nxt (execAbort w s) := by
  unfold execAbort
  with_reducible repeat' (first
    | assumption | (intro x; refine At.cut x ?_ ?_; rotate_left; intro _; clear_value x; rotate_left; unfold x) | intro _ | lift_lets
    | apply State.commandNow_keeps | apply State.ckAbort_keeps | apply At.ite | apply At.next | apply At.some | exact At.none
    | dsimp -zeta only [At.mkFst, At.mkSnd] | apply At.foldl | apply At.getD | apply At.fst | apply At.snd
    | ((conv => enter [3, 20]) <;> apply At.upd <;> first | exact .inl ‹_› | exact .inr rfl | skip)
    | ((conv => enter [3, 20]) <;> apply At.updCore) | split | exact At.ofMkFst ‹_› | exact At.ofMkSnd ‹_›
    | refine At.ofNext (by assumption) ?_ | refine At.ofFst (by assumption) ?_ | refine At.ofSnd (by assumption) ?_
    | refine At.ofOpt (by assumption) ?_ | refine At.ofOptSnd (by assumption) ?_ | refine At.ofOptFst (by assumption) ?_
    | refine At.ofOptSnd2 (by assumption) ?_ | apply At.mapAny | dsimp +zetaDelta only)

theorem execShardWrite_keeps {P : Part → Prop} {s₀ s : State} (dict_ : P .dict) (tier_ : P .tier) (ck_ : P .ck) (half : Nat) (count : Nat)
    (hs : At (Keeps P s₀) It s) : At (Keeps P s₀) Nxt (execShardWrite half count s) := by
  unfold execShardWrite
  with_reducible repeat' (first
    | assumption | (intro x; refine At.cut x ?_ ?_; rotate_left; intro _; clear_value x; rotate_left; unfold x) | intro _ | lift_lets
    | apply State.addObj_keeps | apply State.setTile_keeps | apply State.setEng_keeps | apply At.ite | apply At.next | apply At.some
    | exact At.none | dsimp -zeta only [At.mkFst, At.mkSnd] | apply At.foldl | apply At.getD | apply At.fst | apply At.snd
    | ((conv => enter [3, 20]) <;> apply At.upd <;> first | exact .inl ‹_› | exact .inr rfl | skip)
    | ((conv => enter [3, 20]) <;> apply At.updCore) | split | exact At.ofMkFst ‹_› | exact At.ofMkSnd ‹_›
    | refine At.ofNext (by assumption) ?_ | refine At.ofFst (by assumption) ?_ | refine At.ofSnd (by assumption) ?_
    | refine At.ofOpt (by assumption) ?_ | refine At.ofOptSnd (by assumption) ?_ | refine At.ofOptFst (by assumption) ?_
    | refine At.ofOptSnd2 (by assumption) ?_ | apply At.mapAny | dsimp +zetaDelta only)

theorem execManifestWrite_keeps {P : Part → Prop} {s₀ s : State} (dict_ : P .dict) (ck_ : P .ck) (free_ : P .free) (others : List
    ManMember) (group : Option Manifest) (hs : At (Keeps P s₀) It s) : At (Keeps P s₀) Nxt (execManifestWrite others group s) := by
  unfold execManifestWrite
  with_reducible repeat' (first
    | assumption | (intro x; refine At.cut x ?_ ?_; rotate_left; intro _; clear_value x; rotate_left; unfold x) | intro _ | lift_lets
    | apply State.setObj_keeps | apply At.ite | apply At.next | apply At.some | exact At.none | dsimp -zeta only [At.mkFst, At.mkSnd]
    | apply At.foldl | apply At.getD | apply At.fst | apply At.snd
    | ((conv => enter [3, 20]) <;> apply At.upd <;> first | exact .inl ‹_› | exact .inr rfl | skip)
    | ((conv => enter [3, 20]) <;> apply At.updCore) | split | exact At.ofMkFst ‹_› | exact At.ofMkSnd ‹_›
    | refine At.ofNext (by assumption) ?_ | refine At.ofFst (by assumption) ?_ | refine At.ofSnd (by assumption) ?_
    | refine At.ofOpt (by assumption) ?_ | refine At.ofOptSnd (by assumption) ?_ | refine At.ofOptFst (by assumption) ?_
    | refine At.ofOptSnd2 (by assumption) ?_ | apply At.mapAny | dsimp +zetaDelta only)

theorem execCheckpointComplete_keeps {P : Part → Prop} {s₀ s : State} (dict_ : P .dict) (mgmt_ : P .mgmt) (stn_ : P .stn) (ck_ : P .ck) (hs
    : At (Keeps P s₀) It s) : At (Keeps P s₀) Nxt (execCheckpointComplete s) := by
  unfold execCheckpointComplete
  with_reducible repeat' (first
    | assumption | (intro x; refine At.cut x ?_ ?_; rotate_left; intro _; clear_value x; rotate_left; unfold x) | intro _ | lift_lets
    | apply State.setObj_keeps | apply State.catMark_keeps | apply State.ckTell_keeps | apply At.ite | apply At.next | apply At.some
    | exact At.none | dsimp -zeta only [At.mkFst, At.mkSnd] | apply At.foldl | apply At.getD | apply At.fst | apply At.snd
    | ((conv => enter [3, 20]) <;> apply At.upd <;> first | exact .inl ‹_› | exact .inr rfl | skip)
    | ((conv => enter [3, 20]) <;> apply At.updCore) | split | exact At.ofMkFst ‹_› | exact At.ofMkSnd ‹_›
    | refine At.ofNext (by assumption) ?_ | refine At.ofFst (by assumption) ?_ | refine At.ofSnd (by assumption) ?_
    | refine At.ofOpt (by assumption) ?_ | refine At.ofOptSnd (by assumption) ?_ | refine At.ofOptFst (by assumption) ?_
    | refine At.ofOptSnd2 (by assumption) ?_ | apply At.mapAny | dsimp +zetaDelta only)

theorem State.ckRefused_keeps {P : Part → Prop} {s₀ s : State} (dict_ : P .dict) (id : Nat) (f : CkFail) (hs : At (Keeps P s₀) It s) : At
    (Keeps P s₀) It (State.ckRefused s id f) := by
  unfold State.ckRefused
  with_reducible repeat' (first
    | assumption | (intro x; refine At.cut x ?_ ?_; rotate_left; intro _; clear_value x; rotate_left; unfold x) | intro _ | lift_lets
    | apply State.setStr_keeps | apply At.ite | apply At.next | apply At.some | exact At.none | dsimp -zeta only [At.mkFst, At.mkSnd]
    | apply At.foldl | apply At.getD | apply At.fst | apply At.snd
    | ((conv => enter [3, 20]) <;> apply At.upd <;> first | exact .inl ‹_› | exact .inr rfl | skip)
    | ((conv => enter [3, 20]) <;> apply At.updCore) | split | exact At.ofMkFst ‹_› | exact At.ofMkSnd ‹_›
    | refine At.ofNext (by assumption) ?_ | refine At.ofFst (by assumption) ?_ | refine At.ofSnd (by assumption) ?_
    | refine At.ofOpt (by assumption) ?_ | refine At.ofOptSnd (by assumption) ?_ | refine At.ofOptFst (by assumption) ?_
    | refine At.ofOptSnd2 (by assumption) ?_ | apply At.mapAny | dsimp +zetaDelta only)

theorem State.ckPlace_keeps {P : Part → Prop} {s₀ s : State} (dict_ : P .dict) (ses_ : P .ses) (tier_ : P .tier) (free_ : P .free) (i :
    Nat) (tiles : SMap Tile) (hs : At (Keeps P s₀) It s) : At (Keeps P s₀) It (State.ckPlace s i tiles) := by
  unfold State.ckPlace
  with_reducible repeat' (first
    | assumption | (intro x; refine At.cut x ?_ ?_; rotate_left; intro _; clear_value x; rotate_left; unfold x) | intro _ | lift_lets
    | apply State.setSess_keeps | apply State.modSess_keeps | apply State.allocKvT2_keeps | apply State.growPt_keeps | apply At.ite
    | apply At.next | apply At.some | exact At.none | dsimp -zeta only [At.mkFst, At.mkSnd] | apply At.foldl | apply At.getD
    | apply At.fst | apply At.snd | ((conv => enter [3, 20]) <;> apply At.upd <;> first | exact .inl ‹_› | exact .inr rfl | skip)
    | ((conv => enter [3, 20]) <;> apply At.updCore) | split | exact At.ofMkFst ‹_› | exact At.ofMkSnd ‹_›
    | refine At.ofNext (by assumption) ?_ | refine At.ofFst (by assumption) ?_ | refine At.ofSnd (by assumption) ?_
    | refine At.ofOpt (by assumption) ?_ | refine At.ofOptSnd (by assumption) ?_ | refine At.ofOptFst (by assumption) ?_
    | refine At.ofOptSnd2 (by assumption) ?_ | apply At.mapAny | dsimp +zetaDelta only)

theorem State.ckEnter_keeps {P : Part → Prop} {s₀ s : State} (dict_ : P .dict) (stn_ : P .stn) (ses_ : P .ses) (tier_ : P .tier) (free_ : P
    .free) (i : Nat) (hs : At (Keeps P s₀) It s) : At (Keeps P s₀) It (State.ckEnter s i) := by
  unfold State.ckEnter
  with_reducible repeat' (first
    | assumption | (intro x; refine At.cut x ?_ ?_; rotate_left; intro _; clear_value x; rotate_left; unfold x) | intro _ | lift_lets
    | apply State.modSess_keeps | apply State.sevent_keeps | apply State.freePages_keeps | apply State.startRevive_keeps | apply At.ite
    | apply At.next | apply At.some | exact At.none | dsimp -zeta only [At.mkFst, At.mkSnd] | apply At.foldl | apply At.getD
    | apply At.fst | apply At.snd | ((conv => enter [3, 20]) <;> apply At.upd <;> first | exact .inl ‹_› | exact .inr rfl | skip)
    | ((conv => enter [3, 20]) <;> apply At.updCore) | split | exact At.ofMkFst ‹_› | exact At.ofMkSnd ‹_›
    | refine At.ofNext (by assumption) ?_ | refine At.ofFst (by assumption) ?_ | refine At.ofSnd (by assumption) ?_
    | refine At.ofOpt (by assumption) ?_ | refine At.ofOptSnd (by assumption) ?_ | refine At.ofOptFst (by assumption) ?_
    | refine At.ofOptSnd2 (by assumption) ?_ | apply At.mapAny | dsimp +zetaDelta only)

theorem State.ckSession_keeps {P : Part → Prop} {s₀ s : State} (dict_ : P .dict) (ses_ : P .ses) (tier_ : P .tier) (srch_ : P .srch) (free_
    : P .free) (was : Nat) (tiles : SMap Tile) (x : Session) (hs : At (Keeps P s₀) It s) : At (Keeps P s₀) It (State.ckSession s was tiles
    x) := by
  unfold State.ckSession
  with_reducible repeat' (first
    | assumption | (intro x; refine At.cut x ?_ ?_; rotate_left; intro _; clear_value x; rotate_left; unfold x) | intro _ | lift_lets
    | apply State.setSess_keeps | apply State.enterHandles_keeps | apply State.syncQueue_keeps | apply State.spillStack_keeps
    | apply State.ckPlace_keeps | apply At.ite | apply At.next | apply At.some | exact At.none | dsimp -zeta only [At.mkFst, At.mkSnd]
    | apply At.foldl | apply At.getD | apply At.fst | apply At.snd
    | ((conv => enter [3, 20]) <;> apply At.upd <;> first | exact .inl ‹_› | exact .inr rfl | skip)
    | ((conv => enter [3, 20]) <;> apply At.updCore) | split | exact At.ofMkFst ‹_› | exact At.ofMkSnd ‹_›
    | refine At.ofNext (by assumption) ?_ | refine At.ofFst (by assumption) ?_ | refine At.ofSnd (by assumption) ?_
    | refine At.ofOpt (by assumption) ?_ | refine At.ofOptSnd (by assumption) ?_ | refine At.ofOptFst (by assumption) ?_
    | refine At.ofOptSnd2 (by assumption) ?_ | apply At.mapAny | dsimp +zetaDelta only)

theorem State.ckRecords_keeps {P : Part → Prop} {s₀ s : State} (dict_ : P .dict) (fb_ : P .fb) (ses_ : P .ses) (h : CkShard) (hs : At
    (Keeps P s₀) It s) : At (Keeps P s₀) It (State.ckRecords s h) := by
  unfold State.ckRecords
  with_reducible repeat' (first
    | assumption | (intro x; refine At.cut x ?_ ?_; rotate_left; intro _; clear_value x; rotate_left; unfold x) | intro _ | lift_lets
    | apply State.setObj_keeps | apply State.setBook_keeps | apply State.modSess_keeps | apply State.recsAgain_keeps | apply At.ite
    | apply At.next | apply At.some | exact At.none | dsimp -zeta only [At.mkFst, At.mkSnd] | apply At.foldl | apply At.getD
    | apply At.fst | apply At.snd | ((conv => enter [3, 20]) <;> apply At.upd <;> first | exact .inl ‹_› | exact .inr rfl | skip)
    | ((conv => enter [3, 20]) <;> apply At.updCore) | split | exact At.ofMkFst ‹_› | exact At.ofMkSnd ‹_›
    | refine At.ofNext (by assumption) ?_ | refine At.ofFst (by assumption) ?_ | refine At.ofSnd (by assumption) ?_
    | refine At.ofOpt (by assumption) ?_ | refine At.ofOptSnd (by assumption) ?_ | refine At.ofOptFst (by assumption) ?_
    | refine At.ofOptSnd2 (by assumption) ?_ | apply At.mapAny | dsimp +zetaDelta only)

theorem State.ckVx_keeps {P : Part → Prop} {s₀ s : State} (dict_ : P .dict) (ses_ : P .ses) (tier_ : P .tier) (srch_ : P .srch) (free_ : P
    .free) (v : CkIndex) (hs : At (Keeps P s₀) It s) : At (Keeps P s₀) It (State.ckVx s v) := by
  unfold State.ckVx
  with_reducible repeat' (first
    | assumption | (intro x; refine At.cut x ?_ ?_; rotate_left; intro _; clear_value x; rotate_left; unfold x) | intro _ | lift_lets
    | apply State.setObj_keeps | apply State.setVx_keeps | apply State.vxMake_keeps | apply At.ite | apply At.next | apply At.some
    | exact At.none | dsimp -zeta only [At.mkFst, At.mkSnd] | apply At.foldl | apply At.getD | apply At.fst | apply At.snd
    | ((conv => enter [3, 20]) <;> apply At.upd <;> first | exact .inl ‹_› | exact .inr rfl | skip)
    | ((conv => enter [3, 20]) <;> apply At.updCore) | split | exact At.ofMkFst ‹_› | exact At.ofMkSnd ‹_›
    | refine At.ofNext (by assumption) ?_ | refine At.ofFst (by assumption) ?_ | refine At.ofSnd (by assumption) ?_
    | refine At.ofOpt (by assumption) ?_ | refine At.ofOptSnd (by assumption) ?_ | refine At.ofOptFst (by assumption) ?_
    | refine At.ofOptSnd2 (by assumption) ?_ | apply At.mapAny | dsimp +zetaDelta only)

theorem State.ckApply_keeps {P : Part → Prop} {s₀ s : State} (dict_ : P .dict) (fb_ : P .fb) (stn_ : P .stn) (ses_ : P .ses) (tier_ : P
    .tier) (shape_ : P .shape) (srch_ : P .srch) (sync_ : P .sync) (free_ : P .free) (x : CkSet) (h : CkShard) (hs : At (Keeps P s₀) It s)
    : At (Keeps P s₀) It (State.ckApply s x h) := by
  unfold State.ckApply
  with_reducible repeat' (first
    | assumption | (intro x; refine At.cut x ?_ ?_; rotate_left; intro _; clear_value x; rotate_left; unfold x) | intro _ | lift_lets
    | apply State.setSync_keeps | apply State.ckEnter_keeps | apply State.ckSession_keeps | apply State.ckRecords_keeps
    | apply State.ckVx_keeps | apply At.ite | apply At.next | apply At.some | exact At.none | dsimp -zeta only [At.mkFst, At.mkSnd]
    | apply At.foldl | apply At.getD | apply At.fst | apply At.snd
    | ((conv => enter [3, 20]) <;> apply At.upd <;> first | exact .inl ‹_› | exact .inr rfl | skip)
    | ((conv => enter [3, 20]) <;> apply At.updCore) | split | exact At.ofMkFst ‹_› | exact At.ofMkSnd ‹_›
    | refine At.ofNext (by assumption) ?_ | refine At.ofFst (by assumption) ?_ | refine At.ofSnd (by assumption) ?_
    | refine At.ofOpt (by assumption) ?_ | refine At.ofOptSnd (by assumption) ?_ | refine At.ofOptFst (by assumption) ?_
    | refine At.ofOptSnd2 (by assumption) ?_ | apply At.mapAny | dsimp +zetaDelta only)

theorem State.ckRestore_keeps {P : Part → Prop} {s₀ s : State} (dict_ : P .dict) (fb_ : P .fb) (stn_ : P .stn) (ses_ : P .ses) (tier_ : P
    .tier) (shape_ : P .shape) (srch_ : P .srch) (sync_ : P .sync) (ck_ : P .ck) (free_ : P .free) (w : Writer) (x : CkSet) (hs : At (Keeps
    P s₀) It s) : At (Keeps P s₀) It (State.ckRestore s w x) := by
  unfold State.ckRestore
  with_reducible repeat' (first
    | assumption | (intro x; refine At.cut x ?_ ?_; rotate_left; intro _; clear_value x; rotate_left; unfold x) | intro _ | lift_lets
    | apply State.setObj_keeps | apply State.configRec_keeps | apply State.ckApply_keeps | apply At.ite | apply At.next | apply At.some
    | exact At.none | dsimp -zeta only [At.mkFst, At.mkSnd] | apply At.foldl | apply At.getD | apply At.fst | apply At.snd
    | ((conv => enter [3, 20]) <;> apply At.upd <;> first | exact .inl ‹_› | exact .inr rfl | skip)
    | ((conv => enter [3, 20]) <;> apply At.updCore) | split | exact At.ofMkFst ‹_› | exact At.ofMkSnd ‹_›
    | refine At.ofNext (by assumption) ?_ | refine At.ofFst (by assumption) ?_ | refine At.ofSnd (by assumption) ?_
    | refine At.ofOpt (by assumption) ?_ | refine At.ofOptSnd (by assumption) ?_ | refine At.ofOptFst (by assumption) ?_
    | refine At.ofOptSnd2 (by assumption) ?_ | apply At.mapAny | dsimp +zetaDelta only)

theorem State.ckTry_keeps {P : Part → Prop} {s₀ s : State} (dict_ : P .dict) (mgmt_ : P .mgmt) (fb_ : P .fb) (stn_ : P .stn) (ses_ : P
    .ses) (tier_ : P .tier) (shape_ : P .shape) (srch_ : P .srch) (sync_ : P .sync) (ck_ : P .ck) (free_ : P .free) (w : Writer) (source :
    Nat) (cat : List CatEntry) (y4 : List CkSet) (hs : At (Keeps P s₀) It s) : At (Keeps P s₀) It (State.ckTry s w source cat y4) := by
  induction y4 generalizing s with
  | nil =>
    unfold State.ckTry
    with_reducible repeat' (first
      | assumption | (intro x; refine At.cut x ?_ ?_; rotate_left; intro _; clear_value x; rotate_left; unfold x) | intro _ | lift_lets
      | apply State.setObj_keeps | apply State.bump_keeps | apply State.tileEvent_keeps | apply State.ckRefused_keeps
      | apply State.ckRestore_keeps | apply At.ite | apply At.next | apply At.some | exact At.none | dsimp -zeta only [At.mkFst, At.mkSnd]
      | apply At.foldl | apply At.getD | apply At.fst | apply At.snd
      | ((conv => enter [3, 20]) <;> apply At.upd <;> first | exact .inl ‹_› | exact .inr rfl | skip)
      | ((conv => enter [3, 20]) <;> apply At.updCore) | split | exact At.ofMkFst ‹_› | exact At.ofMkSnd ‹_›
      | refine At.ofNext (by assumption) ?_ | refine At.ofFst (by assumption) ?_ | refine At.ofSnd (by assumption) ?_
      | refine At.ofOpt (by assumption) ?_ | refine At.ofOptSnd (by assumption) ?_ | refine At.ofOptFst (by assumption) ?_
      | refine At.ofOptSnd2 (by assumption) ?_ | apply At.mapAny | dsimp +zetaDelta only)
  | cons a r ih =>
    unfold State.ckTry
    with_reducible repeat' (first
      | assumption | (intro x; refine At.cut x ?_ ?_; rotate_left; intro _; clear_value x; rotate_left; unfold x) | intro _ | lift_lets
      | apply State.setObj_keeps | apply State.bump_keeps | apply State.tileEvent_keeps | apply State.ckRefused_keeps
      | apply State.ckRestore_keeps | apply ih | apply At.ite | apply At.next | apply At.some | exact At.none
      | dsimp -zeta only [At.mkFst, At.mkSnd] | apply At.foldl | apply At.getD | apply At.fst | apply At.snd
      | ((conv => enter [3, 20]) <;> apply At.upd <;> first | exact .inl ‹_› | exact .inr rfl | skip)
      | ((conv => enter [3, 20]) <;> apply At.updCore) | split | exact At.ofMkFst ‹_› | exact At.ofMkSnd ‹_›
      | refine At.ofNext (by assumption) ?_ | refine At.ofFst (by assumption) ?_ | refine At.ofSnd (by assumption) ?_
      | refine At.ofOpt (by assumption) ?_ | refine At.ofOptSnd (by assumption) ?_ | refine At.ofOptFst (by assumption) ?_
      | refine At.ofOptSnd2 (by assumption) ?_ | apply At.mapAny | dsimp +zetaDelta only)

theorem execRestore_keeps {P : Part → Prop} {s₀ s : State} (dict_ : P .dict) (mgmt_ : P .mgmt) (fb_ : P .fb) (stn_ : P .stn) (ses_ : P
    .ses) (tier_ : P .tier) (shape_ : P .shape) (srch_ : P .srch) (sync_ : P .sync) (ck_ : P .ck) (free_ : P .free) (w : Writer) (found :
    List CkSet) (hs : At (Keeps P s₀) It s) : At (Keeps P s₀) Nxt (execRestore w found s) := by
  unfold execRestore
  with_reducible repeat' (first
    | assumption | (intro x; refine At.cut x ?_ ?_; rotate_left; intro _; clear_value x; rotate_left; unfold x) | intro _ | lift_lets
    | apply State.setObj_keeps | apply State.command_keeps | apply State.ckRefused_keeps | apply State.ckTry_keeps | apply At.ite
    | apply At.next | apply At.some | exact At.none | dsimp -zeta only [At.mkFst, At.mkSnd] | apply At.foldl | apply At.getD
    | apply At.fst | apply At.snd | ((conv => enter [3, 20]) <;> apply At.upd <;> first | exact .inl ‹_› | exact .inr rfl | skip)
    | ((conv => enter [3, 20]) <;> apply At.updCore) | split | exact At.ofMkFst ‹_› | exact At.ofMkSnd ‹_›
    | refine At.ofNext (by assumption) ?_ | refine At.ofFst (by assumption) ?_ | refine At.ofSnd (by assumption) ?_
    | refine At.ofOpt (by assumption) ?_ | refine At.ofOptSnd (by assumption) ?_ | refine At.ofOptFst (by assumption) ?_
    | refine At.ofOptSnd2 (by assumption) ?_ | apply At.mapAny | dsimp +zetaDelta only)

/-! ### Machine/Fabric.lean -/

theorem State.portDown_keeps {P : Part → Prop} {s₀ s : State} (dict_ : P .dict) (mgmt_ : P .mgmt) (fb_ : P .fb) (stn_ : P .stn) (ses_ : P
    .ses) (tier_ : P .tier) (shape_ : P .shape) (trv_ : P .trv) (srch_ : P .srch) (ck_ : P .ck) (fab_ : P .fab) (pwr_ : P .pwr) (free_ : P
    .free) (p : Nat) (hs : At (Keeps P s₀) It s) : At (Keeps P s₀) It (State.portDown s p) := by
  unfold State.portDown
  with_reducible repeat' (first
    | assumption | (intro x; refine At.cut x ?_ ?_; rotate_left; intro _; clear_value x; rotate_left; unfold x) | intro _ | lift_lets
    | apply State.setObj_keeps | apply State.bump_keeps | apply State.setPort_keeps | apply State.setLane_keeps
    | apply State.peersSeen_keeps | apply State.platView_keeps | apply State.reportPeers_keeps | apply At.ite | apply At.next
    | apply At.some | exact At.none | dsimp -zeta only [At.mkFst, At.mkSnd] | apply At.foldl | apply At.getD | apply At.fst | apply At.snd
    | ((conv => enter [3, 20]) <;> apply At.upd <;> first | exact .inl ‹_› | exact .inr rfl | skip)
    | ((conv => enter [3, 20]) <;> apply At.updCore) | split | exact At.ofMkFst ‹_› | exact At.ofMkSnd ‹_›
    | refine At.ofNext (by assumption) ?_ | refine At.ofFst (by assumption) ?_ | refine At.ofSnd (by assumption) ?_
    | refine At.ofOpt (by assumption) ?_ | refine At.ofOptSnd (by assumption) ?_ | refine At.ofOptFst (by assumption) ?_
    | refine At.ofOptSnd2 (by assumption) ?_ | apply At.mapAny | dsimp +zetaDelta only)

theorem State.laneFail_keeps {P : Part → Prop} {s₀ s : State} (dict_ : P .dict) (l : Nat) (hs : At (Keeps P s₀) It s) : At (Keeps P s₀) It
    (State.laneFail s l) := by
  unfold State.laneFail
  with_reducible repeat' (first
    | assumption | (intro x; refine At.cut x ?_ ?_; rotate_left; intro _; clear_value x; rotate_left; unfold x) | intro _ | lift_lets
    | apply State.bump_keeps | apply State.setLane_keeps | apply At.ite | apply At.next | apply At.some | exact At.none
    | dsimp -zeta only [At.mkFst, At.mkSnd] | apply At.foldl | apply At.getD | apply At.fst | apply At.snd
    | ((conv => enter [3, 20]) <;> apply At.upd <;> first | exact .inl ‹_› | exact .inr rfl | skip)
    | ((conv => enter [3, 20]) <;> apply At.updCore) | split | exact At.ofMkFst ‹_› | exact At.ofMkSnd ‹_›
    | refine At.ofNext (by assumption) ?_ | refine At.ofFst (by assumption) ?_ | refine At.ofSnd (by assumption) ?_
    | refine At.ofOpt (by assumption) ?_ | refine At.ofOptSnd (by assumption) ?_ | refine At.ofOptFst (by assumption) ?_
    | refine At.ofOptSnd2 (by assumption) ?_ | apply At.mapAny | dsimp +zetaDelta only)

theorem execCodewordFecFail_keeps {P : Part → Prop} {s₀ s : State} (dict_ : P .dict) (fab_ : P .fab) (port : Nat) (lane : Nat) (seq : Nat)
    (hs : At (Keeps P s₀) It s) : At (Keeps P s₀) Nxt (execCodewordFecFail port lane seq s) := by
  unfold execCodewordFecFail
  with_reducible repeat' (first
    | assumption | (intro x; refine At.cut x ?_ ?_; rotate_left; intro _; clear_value x; rotate_left; unfold x) | intro _ | lift_lets
    | apply State.bump_keeps | apply State.setPort_keeps | apply State.laneFail_keeps | apply At.ite | apply At.next | apply At.some
    | exact At.none | dsimp -zeta only [At.mkFst, At.mkSnd] | apply At.foldl | apply At.getD | apply At.fst | apply At.snd
    | ((conv => enter [3, 20]) <;> apply At.upd <;> first | exact .inl ‹_› | exact .inr rfl | skip)
    | ((conv => enter [3, 20]) <;> apply At.updCore) | split | exact At.ofMkFst ‹_› | exact At.ofMkSnd ‹_›
    | refine At.ofNext (by assumption) ?_ | refine At.ofFst (by assumption) ?_ | refine At.ofSnd (by assumption) ?_
    | refine At.ofOpt (by assumption) ?_ | refine At.ofOptSnd (by assumption) ?_ | refine At.ofOptFst (by assumption) ?_
    | refine At.ofOptSnd2 (by assumption) ?_ | apply At.mapAny | dsimp +zetaDelta only)

theorem execAck_keeps {P : Part → Prop} {s₀ s : State} (fab_ : P .fab) (port : Nat) (seq : Nat) (hs : At (Keeps P s₀) It s) : At (Keeps P
    s₀) Nxt (execAck port seq s) := by
  unfold execAck
  with_reducible repeat' (first
    | assumption | (intro x; refine At.cut x ?_ ?_; rotate_left; intro _; clear_value x; rotate_left; unfold x) | intro _ | lift_lets
    | apply State.setPort_keeps | apply At.ite | apply At.next | apply At.some | exact At.none | dsimp -zeta only [At.mkFst, At.mkSnd]
    | apply At.foldl | apply At.getD | apply At.fst | apply At.snd
    | ((conv => enter [3, 20]) <;> apply At.upd <;> first | exact .inl ‹_› | exact .inr rfl | skip)
    | ((conv => enter [3, 20]) <;> apply At.updCore) | split | exact At.ofMkFst ‹_› | exact At.ofMkSnd ‹_›
    | refine At.ofNext (by assumption) ?_ | refine At.ofFst (by assumption) ?_ | refine At.ofSnd (by assumption) ?_
    | refine At.ofOpt (by assumption) ?_ | refine At.ofOptSnd (by assumption) ?_ | refine At.ofOptFst (by assumption) ?_
    | refine At.ofOptSnd2 (by assumption) ?_ | apply At.mapAny | dsimp +zetaDelta only)

theorem execNak_keeps {P : Part → Prop} {s₀ s : State} (dict_ : P .dict) (mgmt_ : P .mgmt) (fb_ : P .fb) (stn_ : P .stn) (ses_ : P .ses)
    (tier_ : P .tier) (shape_ : P .shape) (trv_ : P .trv) (srch_ : P .srch) (ck_ : P .ck) (fab_ : P .fab) (pwr_ : P .pwr) (free_ : P .free)
    (port : Nat) (seq : Nat) (hs : At (Keeps P s₀) It s) : At (Keeps P s₀) Nxt (execNak port seq s) := by
  unfold execNak
  with_reducible repeat' (first
    | assumption | (intro x; refine At.cut x ?_ ?_; rotate_left; intro _; clear_value x; rotate_left; unfold x) | intro _ | lift_lets
    | apply State.bump_keeps | apply State.setPort_keeps | apply State.portDown_keeps | apply At.ite | apply At.next | apply At.some
    | exact At.none | dsimp -zeta only [At.mkFst, At.mkSnd] | apply At.foldl | apply At.getD | apply At.fst | apply At.snd
    | ((conv => enter [3, 20]) <;> apply At.upd <;> first | exact .inl ‹_› | exact .inr rfl | skip)
    | ((conv => enter [3, 20]) <;> apply At.updCore) | split | exact At.ofMkFst ‹_› | exact At.ofMkSnd ‹_›
    | refine At.ofNext (by assumption) ?_ | refine At.ofFst (by assumption) ?_ | refine At.ofSnd (by assumption) ?_
    | refine At.ofOpt (by assumption) ?_ | refine At.ofOptSnd (by assumption) ?_ | refine At.ofOptFst (by assumption) ?_
    | refine At.ofOptSnd2 (by assumption) ?_ | apply At.mapAny | dsimp +zetaDelta only)

theorem execLinkParam_keeps {P : Part → Prop} {s₀ s : State} (dict_ : P .dict) (fab_ : P .fab) (port : Nat) (lp : LinkParam) (hs : At
    (Keeps P s₀) It s) : At (Keeps P s₀) Nxt (execLinkParam port lp s) := by
  unfold execLinkParam
  with_reducible repeat' (first
    | assumption | (intro x; refine At.cut x ?_ ?_; rotate_left; intro _; clear_value x; rotate_left; unfold x) | intro _ | lift_lets
    | apply State.setObj_keeps | apply State.setPort_keeps | apply At.ite | apply At.next | apply At.some | exact At.none
    | dsimp -zeta only [At.mkFst, At.mkSnd] | apply At.foldl | apply At.getD | apply At.fst | apply At.snd
    | ((conv => enter [3, 20]) <;> apply At.upd <;> first | exact .inl ‹_› | exact .inr rfl | skip)
    | ((conv => enter [3, 20]) <;> apply At.updCore) | split | exact At.ofMkFst ‹_› | exact At.ofMkSnd ‹_›
    | refine At.ofNext (by assumption) ?_ | refine At.ofFst (by assumption) ?_ | refine At.ofSnd (by assumption) ?_
    | refine At.ofOpt (by assumption) ?_ | refine At.ofOptSnd (by assumption) ?_ | refine At.ofOptFst (by assumption) ?_
    | refine At.ofOptSnd2 (by assumption) ?_ | apply At.mapAny | dsimp +zetaDelta only)

theorem execEcho_keeps {P : Part → Prop} {s₀ s : State} (fab_ : P .fab) (port : Nat) (rtt : Nat) (hs : At (Keeps P s₀) It s) : At (Keeps P
    s₀) Nxt (execEcho port rtt s) := by
  unfold execEcho
  with_reducible repeat' (first
    | assumption | (intro x; refine At.cut x ?_ ?_; rotate_left; intro _; clear_value x; rotate_left; unfold x) | intro _ | lift_lets
    | apply State.setPort_keeps | apply At.ite | apply At.next | apply At.some | exact At.none | dsimp -zeta only [At.mkFst, At.mkSnd]
    | apply At.foldl | apply At.getD | apply At.fst | apply At.snd
    | ((conv => enter [3, 20]) <;> apply At.upd <;> first | exact .inl ‹_› | exact .inr rfl | skip)
    | ((conv => enter [3, 20]) <;> apply At.updCore) | split | exact At.ofMkFst ‹_› | exact At.ofMkSnd ‹_›
    | refine At.ofNext (by assumption) ?_ | refine At.ofFst (by assumption) ?_ | refine At.ofSnd (by assumption) ?_
    | refine At.ofOpt (by assumption) ?_ | refine At.ofOptSnd (by assumption) ?_ | refine At.ofOptFst (by assumption) ?_
    | refine At.ofOptSnd2 (by assumption) ?_ | apply At.mapAny | dsimp +zetaDelta only)

theorem execPortTrainingTimeout_keeps {P : Part → Prop} {s₀ s : State} (dict_ : P .dict) (mgmt_ : P .mgmt) (fb_ : P .fb) (stn_ : P .stn)
    (ses_ : P .ses) (tier_ : P .tier) (shape_ : P .shape) (trv_ : P .trv) (srch_ : P .srch) (ck_ : P .ck) (fab_ : P .fab) (pwr_ : P .pwr)
    (free_ : P .free) (port : Nat) (step : Nat) (began : Nat) (hs : At (Keeps P s₀) It s) : At (Keeps P s₀) Nxt (execPortTrainingTimeout
    port step began s) := by
  unfold execPortTrainingTimeout
  with_reducible repeat' (first
    | assumption | (intro x; refine At.cut x ?_ ?_; rotate_left; intro _; clear_value x; rotate_left; unfold x) | intro _ | lift_lets
    | apply State.portReport_keeps | apply State.portDown_keeps | apply At.ite | apply At.next | apply At.some | exact At.none
    | dsimp -zeta only [At.mkFst, At.mkSnd] | apply At.foldl | apply At.getD | apply At.fst | apply At.snd
    | ((conv => enter [3, 20]) <;> apply At.upd <;> first | exact .inl ‹_› | exact .inr rfl | skip)
    | ((conv => enter [3, 20]) <;> apply At.updCore) | split | exact At.ofMkFst ‹_› | exact At.ofMkSnd ‹_›
    | refine At.ofNext (by assumption) ?_ | refine At.ofFst (by assumption) ?_ | refine At.ofSnd (by assumption) ?_
    | refine At.ofOpt (by assumption) ?_ | refine At.ofOptSnd (by assumption) ?_ | refine At.ofOptFst (by assumption) ?_
    | refine At.ofOptSnd2 (by assumption) ?_ | apply At.mapAny | dsimp +zetaDelta only)

theorem execPortRetrain_keeps {P : Part → Prop} {s₀ s : State} (dict_ : P .dict) (fab_ : P .fab) (port : Nat) (hs : At (Keeps P s₀) It s) :
    At (Keeps P s₀) Nxt (execPortRetrain port s) := by
  unfold execPortRetrain
  with_reducible repeat' (first
    | assumption | (intro x; refine At.cut x ?_ ?_; rotate_left; intro _; clear_value x; rotate_left; unfold x) | intro _ | lift_lets
    | apply State.setObj_keeps | apply State.setPort_keeps | apply State.setLane_keeps | apply At.ite | apply At.next | apply At.some
    | exact At.none | dsimp -zeta only [At.mkFst, At.mkSnd] | apply At.foldl | apply At.getD | apply At.fst | apply At.snd
    | ((conv => enter [3, 20]) <;> apply At.upd <;> first | exact .inl ‹_› | exact .inr rfl | skip)
    | ((conv => enter [3, 20]) <;> apply At.updCore) | split | exact At.ofMkFst ‹_› | exact At.ofMkSnd ‹_›
    | refine At.ofNext (by assumption) ?_ | refine At.ofFst (by assumption) ?_ | refine At.ofSnd (by assumption) ?_
    | refine At.ofOpt (by assumption) ?_ | refine At.ofOptSnd (by assumption) ?_ | refine At.ofOptFst (by assumption) ?_
    | refine At.ofOptSnd2 (by assumption) ?_ | apply At.mapAny | dsimp +zetaDelta only)

theorem execPortUp_keeps {P : Part → Prop} {s₀ s : State} (dict_ : P .dict) (mgmt_ : P .mgmt) (fb_ : P .fb) (stn_ : P .stn) (ses_ : P .ses)
    (tier_ : P .tier) (shape_ : P .shape) (trv_ : P .trv) (srch_ : P .srch) (ck_ : P .ck) (fab_ : P .fab) (pwr_ : P .pwr) (free_ : P .free)
    (port : Nat) (peerLatency : Nat) (hs : At (Keeps P s₀) It s) : At (Keeps P s₀) Nxt (execPortUp port peerLatency s) := by
  unfold execPortUp
  with_reducible repeat' (first
    | assumption | (intro x; refine At.cut x ?_ ?_; rotate_left; intro _; clear_value x; rotate_left; unfold x) | intro _ | lift_lets
    | apply State.setObj_keeps | apply State.setPort_keeps | apply State.setLane_keeps | apply State.portReport_keeps
    | apply State.peersSeen_keeps | apply State.platView_keeps | apply State.loseLease_keeps | apply State.dropLease_keeps
    | apply State.portDown_keeps | apply At.ite | apply At.next | apply At.some | exact At.none | dsimp -zeta only [At.mkFst, At.mkSnd]
    | apply At.foldl | apply At.getD | apply At.fst | apply At.snd
    | ((conv => enter [3, 20]) <;> apply At.upd <;> first | exact .inl ‹_› | exact .inr rfl | skip)
    | ((conv => enter [3, 20]) <;> apply At.updCore) | split | exact At.ofMkFst ‹_› | exact At.ofMkSnd ‹_›
    | refine At.ofNext (by assumption) ?_ | refine At.ofFst (by assumption) ?_ | refine At.ofSnd (by assumption) ?_
    | refine At.ofOpt (by assumption) ?_ | refine At.ofOptSnd (by assumption) ?_ | refine At.ofOptFst (by assumption) ?_
    | refine At.ofOptSnd2 (by assumption) ?_ | apply At.mapAny | dsimp +zetaDelta only)

theorem execLossOfSignal_keeps {P : Part → Prop} {s₀ s : State} (dict_ : P .dict) (mgmt_ : P .mgmt) (fb_ : P .fb) (stn_ : P .stn) (ses_ : P
    .ses) (tier_ : P .tier) (shape_ : P .shape) (trv_ : P .trv) (srch_ : P .srch) (ck_ : P .ck) (fab_ : P .fab) (pwr_ : P .pwr) (free_ : P
    .free) (lane : Nat) (hs : At (Keeps P s₀) It s) : At (Keeps P s₀) Nxt (execLossOfSignal lane s) := by
  unfold execLossOfSignal
  with_reducible repeat' (first
    | assumption | (intro x; refine At.cut x ?_ ?_; rotate_left; intro _; clear_value x; rotate_left; unfold x) | intro _ | lift_lets
    | apply State.portDown_keeps | apply State.laneFail_keeps | apply At.ite | apply At.next | apply At.some | exact At.none
    | dsimp -zeta only [At.mkFst, At.mkSnd] | apply At.foldl | apply At.getD | apply At.fst | apply At.snd
    | ((conv => enter [3, 20]) <;> apply At.upd <;> first | exact .inl ‹_› | exact .inr rfl | skip)
    | ((conv => enter [3, 20]) <;> apply At.updCore) | split | exact At.ofMkFst ‹_› | exact At.ofMkSnd ‹_›
    | refine At.ofNext (by assumption) ?_ | refine At.ofFst (by assumption) ?_ | refine At.ofSnd (by assumption) ?_
    | refine At.ofOpt (by assumption) ?_ | refine At.ofOptSnd (by assumption) ?_ | refine At.ofOptFst (by assumption) ?_
    | refine At.ofOptSnd2 (by assumption) ?_ | apply At.mapAny | dsimp +zetaDelta only)

theorem execLaneFailed_keeps {P : Part → Prop} {s₀ s : State} (dict_ : P .dict) (mgmt_ : P .mgmt) (fb_ : P .fb) (stn_ : P .stn) (ses_ : P
    .ses) (tier_ : P .tier) (shape_ : P .shape) (trv_ : P .trv) (srch_ : P .srch) (ck_ : P .ck) (fab_ : P .fab) (pwr_ : P .pwr) (free_ : P
    .free) (lane : Nat) (hs : At (Keeps P s₀) It s) : At (Keeps P s₀) Nxt (execLaneFailed lane s) := by
  unfold execLaneFailed
  with_reducible repeat' (first
    | assumption | (intro x; refine At.cut x ?_ ?_; rotate_left; intro _; clear_value x; rotate_left; unfold x) | intro _ | lift_lets
    | apply State.setObj_keeps | apply State.bump_keeps | apply State.tileEvent_keeps | apply State.portDown_keeps | apply At.ite
    | apply At.next | apply At.some | exact At.none | dsimp -zeta only [At.mkFst, At.mkSnd] | apply At.foldl | apply At.getD
    | apply At.fst | apply At.snd | ((conv => enter [3, 20]) <;> apply At.upd <;> first | exact .inl ‹_› | exact .inr rfl | skip)
    | ((conv => enter [3, 20]) <;> apply At.updCore) | split | exact At.ofMkFst ‹_› | exact At.ofMkSnd ‹_›
    | refine At.ofNext (by assumption) ?_ | refine At.ofFst (by assumption) ?_ | refine At.ofSnd (by assumption) ?_
    | refine At.ofOpt (by assumption) ?_ | refine At.ofOptSnd (by assumption) ?_ | refine At.ofOptFst (by assumption) ?_
    | refine At.ofOptSnd2 (by assumption) ?_ | apply At.mapAny | dsimp +zetaDelta only)

theorem execHeartbeat_keeps {P : Part → Prop} {s₀ s : State} (dict_ : P .dict) (mgmt_ : P .mgmt) (fb_ : P .fb) (stn_ : P .stn) (ses_ : P
    .ses) (tier_ : P .tier) (shape_ : P .shape) (trv_ : P .trv) (srch_ : P .srch) (ck_ : P .ck) (fab_ : P .fab) (pwr_ : P .pwr) (free_ : P
    .free) (port : Nat) (rx : Option FabHeartbeat) (hs : At (Keeps P s₀) It s) : At (Keeps P s₀) Nxt (execHeartbeat port rx s) := by
  unfold execHeartbeat
  with_reducible repeat' (first
    | assumption | (intro x; refine At.cut x ?_ ?_; rotate_left; intro _; clear_value x; rotate_left; unfold x) | intro _ | lift_lets
    | apply State.setPort_keeps | apply State.fabSendBy_keeps | apply State.fabSend_keeps | apply State.markLost_keeps | apply At.ite
    | apply At.next | apply At.some | exact At.none | dsimp -zeta only [At.mkFst, At.mkSnd] | apply At.foldl | apply At.getD
    | apply At.fst | apply At.snd | ((conv => enter [3, 20]) <;> apply At.upd <;> first | exact .inl ‹_› | exact .inr rfl | skip)
    | ((conv => enter [3, 20]) <;> apply At.updCore) | split | exact At.ofMkFst ‹_› | exact At.ofMkSnd ‹_›
    | refine At.ofNext (by assumption) ?_ | refine At.ofFst (by assumption) ?_ | refine At.ofSnd (by assumption) ?_
    | refine At.ofOpt (by assumption) ?_ | refine At.ofOptSnd (by assumption) ?_ | refine At.ofOptFst (by assumption) ?_
    | refine At.ofOptSnd2 (by assumption) ?_ | apply At.mapAny | dsimp +zetaDelta only)

theorem execPortHeartbeatLoss_keeps {P : Part → Prop} {s₀ s : State} (dict_ : P .dict) (mgmt_ : P .mgmt) (fb_ : P .fb) (stn_ : P .stn)
    (ses_ : P .ses) (tier_ : P .tier) (shape_ : P .shape) (trv_ : P .trv) (srch_ : P .srch) (ck_ : P .ck) (fab_ : P .fab) (pwr_ : P .pwr)
    (free_ : P .free) (port : Nat) (hs : At (Keeps P s₀) It s) : At (Keeps P s₀) Nxt (execPortHeartbeatLoss port s) := by
  unfold execPortHeartbeatLoss
  with_reducible repeat' (first
    | assumption | (intro x; refine At.cut x ?_ ?_; rotate_left; intro _; clear_value x; rotate_left; unfold x) | intro _ | lift_lets
    | apply State.addObj_keeps | apply State.setPort_keeps | apply State.portReport_keeps | apply State.portDown_keeps | apply At.ite
    | apply At.next | apply At.some | exact At.none | dsimp -zeta only [At.mkFst, At.mkSnd] | apply At.foldl | apply At.getD
    | apply At.fst | apply At.snd | ((conv => enter [3, 20]) <;> apply At.upd <;> first | exact .inl ‹_› | exact .inr rfl | skip)
    | ((conv => enter [3, 20]) <;> apply At.updCore) | split | exact At.ofMkFst ‹_› | exact At.ofMkSnd ‹_›
    | refine At.ofNext (by assumption) ?_ | refine At.ofFst (by assumption) ?_ | refine At.ofSnd (by assumption) ?_
    | refine At.ofOpt (by assumption) ?_ | refine At.ofOptSnd (by assumption) ?_ | refine At.ofOptFst (by assumption) ?_
    | refine At.ofOptSnd2 (by assumption) ?_ | apply At.mapAny | dsimp +zetaDelta only)

theorem State.fabSession_keeps {P : Part → Prop} {s₀ s : State} (dict_ : P .dict) (fb_ : P .fb) (stn_ : P .stn) (ses_ : P .ses) (tier_ : P
    .tier) (trv_ : P .trv) (srch_ : P .srch) (fab_ : P .fab) (free_ : P .free) (h : FabHdr) (st : Nat) (m : Msg) (hs : At (Keeps P s₀) It
    s) : At (Keeps P s₀) It (State.fabSession s h st m) := by
  unfold State.fabSession
  with_reducible repeat' (first
    | assumption | (intro x; refine At.cut x ?_ ?_; rotate_left; intro _; clear_value x; rotate_left; unfold x) | intro _ | lift_lets
    | apply State.bump_keeps | apply State.setStation_keeps | apply State.finish_keeps | apply State.resolve_keeps
    | apply State.appendMsg_keeps | apply State.resumeMsg_keeps | apply State.cancelMsg_keeps | apply State.closeMsg_keeps
    | apply State.parkMsg_keeps | apply State.reviveMsg_keeps | apply State.ringNameMsg_keeps | apply State.fabReply_keeps
    | apply State.relayOut_keeps | apply State.remoteStation_keeps | apply At.ite | apply At.next | apply At.some | exact At.none
    | dsimp -zeta only [At.mkFst, At.mkSnd] | apply At.foldl | apply At.getD | apply At.fst | apply At.snd
    | ((conv => enter [3, 20]) <;> apply At.upd <;> first | exact .inl ‹_› | exact .inr rfl | skip)
    | ((conv => enter [3, 20]) <;> apply At.updCore) | split | exact At.ofMkFst ‹_› | exact At.ofMkSnd ‹_›
    | refine At.ofNext (by assumption) ?_ | refine At.ofFst (by assumption) ?_ | refine At.ofSnd (by assumption) ?_
    | refine At.ofOpt (by assumption) ?_ | refine At.ofOptSnd (by assumption) ?_ | refine At.ofOptFst (by assumption) ?_
    | refine At.ofOptSnd2 (by assumption) ?_ | apply At.mapAny | dsimp +zetaDelta only)

theorem execSessionMsg_keeps {P : Part → Prop} {s₀ s : State} (dict_ : P .dict) (fb_ : P .fb) (stn_ : P .stn) (ses_ : P .ses) (tier_ : P
    .tier) (trv_ : P .trv) (srch_ : P .srch) (fab_ : P .fab) (free_ : P .free) (h : FabHdr) (st : Nat) (m : Msg) (hs : At (Keeps P s₀) It
    s) : At (Keeps P s₀) Nxt (execSessionMsg h st m s) := by
  unfold execSessionMsg
  with_reducible repeat' (first
    | assumption | (intro x; refine At.cut x ?_ ?_; rotate_left; intro _; clear_value x; rotate_left; unfold x) | intro _ | lift_lets
    | apply State.routed_keeps | apply State.fabSession_keeps | apply At.ite | apply At.next | apply At.some | exact At.none
    | dsimp -zeta only [At.mkFst, At.mkSnd] | apply At.foldl | apply At.getD | apply At.fst | apply At.snd
    | ((conv => enter [3, 20]) <;> apply At.upd <;> first | exact .inl ‹_› | exact .inr rfl | skip)
    | ((conv => enter [3, 20]) <;> apply At.updCore) | split | exact At.ofMkFst ‹_› | exact At.ofMkSnd ‹_›
    | refine At.ofNext (by assumption) ?_ | refine At.ofFst (by assumption) ?_ | refine At.ofSnd (by assumption) ?_
    | refine At.ofOpt (by assumption) ?_ | refine At.ofOptSnd (by assumption) ?_ | refine At.ofOptFst (by assumption) ?_
    | refine At.ofOptSnd2 (by assumption) ?_ | apply At.mapAny | dsimp +zetaDelta only)

theorem execSessionReply_keeps {P : Part → Prop} {s₀ s : State} (dict_ : P .dict) (fb_ : P .fb) (stn_ : P .stn) (fab_ : P .fab) (free_ : P
    .free) (h : FabHdr) (st : Nat) (c : Completion) (hs : At (Keeps P s₀) It s) : At (Keeps P s₀) Nxt (execSessionReply h st c s) := by
  unfold execSessionReply
  with_reducible repeat' (first
    | assumption | (intro x; refine At.cut x ?_ ?_; rotate_left; intro _; clear_value x; rotate_left; unfold x) | intro _ | lift_lets
    | apply State.finish_keeps | apply State.seqAdd_keeps | apply State.routed_keeps | apply At.ite | apply At.next | apply At.some
    | exact At.none | dsimp -zeta only [At.mkFst, At.mkSnd] | apply At.foldl | apply At.getD | apply At.fst | apply At.snd
    | ((conv => enter [3, 20]) <;> apply At.upd <;> first | exact .inl ‹_› | exact .inr rfl | skip)
    | ((conv => enter [3, 20]) <;> apply At.updCore) | split | exact At.ofMkFst ‹_› | exact At.ofMkSnd ‹_›
    | refine At.ofNext (by assumption) ?_ | refine At.ofFst (by assumption) ?_ | refine At.ofSnd (by assumption) ?_
    | refine At.ofOpt (by assumption) ?_ | refine At.ofOptSnd (by assumption) ?_ | refine At.ofOptFst (by assumption) ?_
    | refine At.ofOptSnd2 (by assumption) ?_ | apply At.mapAny | dsimp +zetaDelta only)

theorem execRingWrite_keeps {P : Part → Prop} {s₀ s : State} (dict_ : P .dict) (fb_ : P .fb) (stn_ : P .stn) (fab_ : P .fab) (free_ : P
    .free) (h : FabHdr) (st : Nat) (addr : Nat) (e : RingEntry) (hs : At (Keeps P s₀) It s) : At (Keeps P s₀) Nxt (execRingWrite h st addr
    e s) := by
  unfold execRingWrite
  with_reducible repeat' (first
    | assumption | (intro x; refine At.cut x ?_ ?_; rotate_left; intro _; clear_value x; rotate_left; unfold x) | intro _ | lift_lets
    | apply State.setStation_keeps | apply State.routed_keeps | apply At.ite | apply At.next | apply At.some | exact At.none
    | dsimp -zeta only [At.mkFst, At.mkSnd] | apply At.foldl | apply At.getD | apply At.fst | apply At.snd
    | ((conv => enter [3, 20]) <;> apply At.upd <;> first | exact .inl ‹_› | exact .inr rfl | skip)
    | ((conv => enter [3, 20]) <;> apply At.updCore) | split | exact At.ofMkFst ‹_› | exact At.ofMkSnd ‹_›
    | refine At.ofNext (by assumption) ?_ | refine At.ofFst (by assumption) ?_ | refine At.ofSnd (by assumption) ?_
    | refine At.ofOpt (by assumption) ?_ | refine At.ofOptSnd (by assumption) ?_ | refine At.ofOptFst (by assumption) ?_
    | refine At.ofOptSnd2 (by assumption) ?_ | apply At.mapAny | dsimp +zetaDelta only)

theorem execEventRelay_keeps {P : Part → Prop} {s₀ s : State} (dict_ : P .dict) (fb_ : P .fb) (stn_ : P .stn) (fab_ : P .fab) (free_ : P
    .free) (h : FabHdr) (st : Nat) (e : EventEntry) (hs : At (Keeps P s₀) It s) : At (Keeps P s₀) Nxt (execEventRelay h st e s) := by
  unfold execEventRelay
  with_reducible repeat' (first
    | assumption | (intro x; refine At.cut x ?_ ?_; rotate_left; intro _; clear_value x; rotate_left; unfold x) | intro _ | lift_lets
    | apply State.event_keeps | apply State.routed_keeps | apply At.ite | apply At.next | apply At.some | exact At.none
    | dsimp -zeta only [At.mkFst, At.mkSnd] | apply At.foldl | apply At.getD | apply At.fst | apply At.snd
    | ((conv => enter [3, 20]) <;> apply At.upd <;> first | exact .inl ‹_› | exact .inr rfl | skip)
    | ((conv => enter [3, 20]) <;> apply At.updCore) | split | exact At.ofMkFst ‹_› | exact At.ofMkSnd ‹_›
    | refine At.ofNext (by assumption) ?_ | refine At.ofFst (by assumption) ?_ | refine At.ofSnd (by assumption) ?_
    | refine At.ofOpt (by assumption) ?_ | refine At.ofOptSnd (by assumption) ?_ | refine At.ofOptFst (by assumption) ?_
    | refine At.ofOptSnd2 (by assumption) ?_ | apply At.mapAny | dsimp +zetaDelta only)

theorem execLeaseRequest_keeps {P : Part → Prop} {s₀ s : State} (dict_ : P .dict) (fb_ : P .fb) (fab_ : P .fab) (free_ : P .free) (h :
    FabHdr) (kind : Nat) (tiles : Nat) (hs : At (Keeps P s₀) It s) : At (Keeps P s₀) Nxt (execLeaseRequest h kind tiles s) := by
  unfold execLeaseRequest
  with_reducible repeat' (first
    | assumption | (intro x; refine At.cut x ?_ ?_; rotate_left; intro _; clear_value x; rotate_left; unfold x) | intro _ | lift_lets
    | apply State.setObj_keeps | apply State.fabReply_keeps | apply State.routed_keeps | apply At.ite | apply At.next | apply At.some
    | exact At.none | dsimp -zeta only [At.mkFst, At.mkSnd] | apply At.foldl | apply At.getD | apply At.fst | apply At.snd
    | ((conv => enter [3, 20]) <;> apply At.upd <;> first | exact .inl ‹_› | exact .inr rfl | skip)
    | ((conv => enter [3, 20]) <;> apply At.updCore) | split | exact At.ofMkFst ‹_› | exact At.ofMkSnd ‹_›
    | refine At.ofNext (by assumption) ?_ | refine At.ofFst (by assumption) ?_ | refine At.ofSnd (by assumption) ?_
    | refine At.ofOpt (by assumption) ?_ | refine At.ofOptSnd (by assumption) ?_ | refine At.ofOptFst (by assumption) ?_
    | refine At.ofOptSnd2 (by assumption) ?_ | apply At.mapAny | dsimp +zetaDelta only)

theorem execLeaseGrant_keeps {P : Part → Prop} {s₀ s : State} (dict_ : P .dict) (fb_ : P .fb) (stn_ : P .stn) (fab_ : P .fab) (free_ : P
    .free) (h : FabHdr) (lease : Nat) (kind : Nat) (tiles : Nat) (hs : At (Keeps P s₀) It s) : At (Keeps P s₀) Nxt (execLeaseGrant h lease
    kind tiles s) := by
  unfold execLeaseGrant
  with_reducible repeat' (first
    | assumption | (intro x; refine At.cut x ?_ ?_; rotate_left; intro _; clear_value x; rotate_left; unfold x) | intro _ | lift_lets
    | apply State.addObj_keeps | apply State.routed_keeps | apply State.copyWitness_keeps | apply At.ite | apply At.next | apply At.some
    | exact At.none | dsimp -zeta only [At.mkFst, At.mkSnd] | apply At.foldl | apply At.getD | apply At.fst | apply At.snd
    | ((conv => enter [3, 20]) <;> apply At.upd <;> first | exact .inl ‹_› | exact .inr rfl | skip)
    | ((conv => enter [3, 20]) <;> apply At.updCore) | split | exact At.ofMkFst ‹_› | exact At.ofMkSnd ‹_›
    | refine At.ofNext (by assumption) ?_ | refine At.ofFst (by assumption) ?_ | refine At.ofSnd (by assumption) ?_
    | refine At.ofOpt (by assumption) ?_ | refine At.ofOptSnd (by assumption) ?_ | refine At.ofOptFst (by assumption) ?_
    | refine At.ofOptSnd2 (by assumption) ?_ | apply At.mapAny | dsimp +zetaDelta only)

theorem execLeaseRecall_keeps {P : Part → Prop} {s₀ s : State} (dict_ : P .dict) (fb_ : P .fb) (tier_ : P .tier) (fab_ : P .fab) (free_ : P
    .free) (h : FabHdr) (lease : Nat) (hs : At (Keeps P s₀) It s) : At (Keeps P s₀) Nxt (execLeaseRecall h lease s) := by
  unfold execLeaseRecall
  with_reducible repeat' (first
    | assumption | (intro x; refine At.cut x ?_ ?_; rotate_left; intro _; clear_value x; rotate_left; unfold x) | intro _ | lift_lets
    | apply State.postMove_keeps | apply State.eachSess_keeps | apply State.routed_keeps | apply At.ite | apply At.next | apply At.some
    | exact At.none | dsimp -zeta only [At.mkFst, At.mkSnd] | apply At.foldl | apply At.getD | apply At.fst | apply At.snd
    | ((conv => enter [3, 20]) <;> apply At.upd <;> first | exact .inl ‹_› | exact .inr rfl | skip)
    | ((conv => enter [3, 20]) <;> apply At.updCore) | split | exact At.ofMkFst ‹_› | exact At.ofMkSnd ‹_›
    | refine At.ofNext (by assumption) ?_ | refine At.ofFst (by assumption) ?_ | refine At.ofSnd (by assumption) ?_
    | refine At.ofOpt (by assumption) ?_ | refine At.ofOptSnd (by assumption) ?_ | refine At.ofOptFst (by assumption) ?_
    | refine At.ofOptSnd2 (by assumption) ?_ | apply At.mapAny | dsimp +zetaDelta only)

theorem execLeaseRelease_keeps {P : Part → Prop} {s₀ s : State} (dict_ : P .dict) (fb_ : P .fb) (tier_ : P .tier) (fab_ : P .fab) (free_ :
    P .free) (h : FabHdr) (lease : Nat) (hs : At (Keeps P s₀) It s) : At (Keeps P s₀) Nxt (execLeaseRelease h lease s) := by
  unfold execLeaseRelease
  with_reducible repeat' (first
    | assumption | (intro x; refine At.cut x ?_ ?_; rotate_left; intro _; clear_value x; rotate_left; unfold x) | intro _ | lift_lets
    | apply State.setObj_keeps | apply State.freeTileAt_keeps | apply State.routed_keeps | apply State.dropLease_keeps | apply At.ite
    | apply At.next | apply At.some | exact At.none | dsimp -zeta only [At.mkFst, At.mkSnd] | apply At.foldl | apply At.getD
    | apply At.fst | apply At.snd | ((conv => enter [3, 20]) <;> apply At.upd <;> first | exact .inl ‹_› | exact .inr rfl | skip)
    | ((conv => enter [3, 20]) <;> apply At.updCore) | split | exact At.ofMkFst ‹_› | exact At.ofMkSnd ‹_›
    | refine At.ofNext (by assumption) ?_ | refine At.ofFst (by assumption) ?_ | refine At.ofSnd (by assumption) ?_
    | refine At.ofOpt (by assumption) ?_ | refine At.ofOptSnd (by assumption) ?_ | refine At.ofOptFst (by assumption) ?_
    | refine At.ofOptSnd2 (by assumption) ?_ | apply At.mapAny | dsimp +zetaDelta only)

theorem execT4Read_keeps {P : Part → Prop} {s₀ s : State} (dict_ : P .dict) (fb_ : P .fb) (fab_ : P .fab) (free_ : P .free) (h : FabHdr)
    (lease : Nat) (off : Nat) (count : Nat) (hs : At (Keeps P s₀) It s) : At (Keeps P s₀) Nxt (execT4Read h lease off count s) := by
  unfold execT4Read
  with_reducible repeat' (first
    | assumption | (intro x; refine At.cut x ?_ ?_; rotate_left; intro _; clear_value x; rotate_left; unfold x) | intro _ | lift_lets
    | apply State.fabReply_keeps | apply State.routed_keeps | apply At.ite | apply At.next | apply At.some | exact At.none
    | dsimp -zeta only [At.mkFst, At.mkSnd] | apply At.foldl | apply At.getD | apply At.fst | apply At.snd
    | ((conv => enter [3, 20]) <;> apply At.upd <;> first | exact .inl ‹_› | exact .inr rfl | skip)
    | ((conv => enter [3, 20]) <;> apply At.updCore) | split | exact At.ofMkFst ‹_› | exact At.ofMkSnd ‹_›
    | refine At.ofNext (by assumption) ?_ | refine At.ofFst (by assumption) ?_ | refine At.ofSnd (by assumption) ?_
    | refine At.ofOpt (by assumption) ?_ | refine At.ofOptSnd (by assumption) ?_ | refine At.ofOptFst (by assumption) ?_
    | refine At.ofOptSnd2 (by assumption) ?_ | apply At.mapAny | dsimp +zetaDelta only)

theorem execT4Data_keeps {P : Part → Prop} {s₀ s : State} (dict_ : P .dict) (fb_ : P .fb) (tier_ : P .tier) (fab_ : P .fab) (free_ : P
    .free) (h : FabHdr) (lease : Nat) (off : Nat) (tiles : List Tile) (hs : At (Keeps P s₀) It s) : At (Keeps P s₀) Nxt (execT4Data h lease
    off tiles s) := by
  unfold execT4Data
  with_reducible repeat' (first
    | assumption | (intro x; refine At.cut x ?_ ?_; rotate_left; intro _; clear_value x; rotate_left; unfold x) | intro _ | lift_lets
    | apply State.setTile_keeps | apply State.routed_keeps | apply At.ite | apply At.next | apply At.some | exact At.none
    | dsimp -zeta only [At.mkFst, At.mkSnd] | apply At.foldl | apply At.getD | apply At.fst | apply At.snd
    | ((conv => enter [3, 20]) <;> apply At.upd <;> first | exact .inl ‹_› | exact .inr rfl | skip)
    | ((conv => enter [3, 20]) <;> apply At.updCore) | split | exact At.ofMkFst ‹_› | exact At.ofMkSnd ‹_›
    | refine At.ofNext (by assumption) ?_ | refine At.ofFst (by assumption) ?_ | refine At.ofSnd (by assumption) ?_
    | refine At.ofOpt (by assumption) ?_ | refine At.ofOptSnd (by assumption) ?_ | refine At.ofOptFst (by assumption) ?_
    | refine At.ofOptSnd2 (by assumption) ?_ | apply At.mapAny | dsimp +zetaDelta only)

theorem execT4Write_keeps {P : Part → Prop} {s₀ s : State} (dict_ : P .dict) (fb_ : P .fb) (tier_ : P .tier) (fab_ : P .fab) (free_ : P
    .free) (h : FabHdr) (lease : Nat) (off : Nat) (tiles : List Tile) (hs : At (Keeps P s₀) It s) : At (Keeps P s₀) Nxt (execT4Write h
    lease off tiles s) := by
  unfold execT4Write
  with_reducible repeat' (first
    | assumption | (intro x; refine At.cut x ?_ ?_; rotate_left; intro _; clear_value x; rotate_left; unfold x) | intro _ | lift_lets
    | apply State.setTile_keeps | apply State.fabReply_keeps | apply State.routed_keeps | apply At.ite | apply At.next | apply At.some
    | exact At.none | dsimp -zeta only [At.mkFst, At.mkSnd] | apply At.foldl | apply At.getD | apply At.fst | apply At.snd
    | ((conv => enter [3, 20]) <;> apply At.upd <;> first | exact .inl ‹_› | exact .inr rfl | skip)
    | ((conv => enter [3, 20]) <;> apply At.updCore) | split | exact At.ofMkFst ‹_› | exact At.ofMkSnd ‹_›
    | refine At.ofNext (by assumption) ?_ | refine At.ofFst (by assumption) ?_ | refine At.ofSnd (by assumption) ?_
    | refine At.ofOpt (by assumption) ?_ | refine At.ofOptSnd (by assumption) ?_ | refine At.ofOptFst (by assumption) ?_
    | refine At.ofOptSnd2 (by assumption) ?_ | apply At.mapAny | dsimp +zetaDelta only)

theorem execT4Done_keeps {P : Part → Prop} {s₀ s : State} (dict_ : P .dict) (fb_ : P .fb) (stn_ : P .stn) (ses_ : P .ses) (tier_ : P .tier)
    (srch_ : P .srch) (fab_ : P .fab) (free_ : P .free) (h : FabHdr) (lease : Nat) (status : Nat) (hs : At (Keeps P s₀) It s) : At (Keeps P
    s₀) Nxt (execT4Done h lease status s) := by
  unfold execT4Done
  with_reducible repeat' (first
    | assumption | (intro x; refine At.cut x ?_ ?_; rotate_left; intro _; clear_value x; rotate_left; unfold x) | intro _ | lift_lets
    | apply State.loseTile_keeps | apply State.routed_keeps | apply At.ite | apply At.next | apply At.some | exact At.none
    | dsimp -zeta only [At.mkFst, At.mkSnd] | apply At.foldl | apply At.getD | apply At.fst | apply At.snd
    | ((conv => enter [3, 20]) <;> apply At.upd <;> first | exact .inl ‹_› | exact .inr rfl | skip)
    | ((conv => enter [3, 20]) <;> apply At.updCore) | split | exact At.ofMkFst ‹_› | exact At.ofMkSnd ‹_›
    | refine At.ofNext (by assumption) ?_ | refine At.ofFst (by assumption) ?_ | refine At.ofSnd (by assumption) ?_
    | refine At.ofOpt (by assumption) ?_ | refine At.ofOptSnd (by assumption) ?_ | refine At.ofOptFst (by assumption) ?_
    | refine At.ofOptSnd2 (by assumption) ?_ | apply At.mapAny | dsimp +zetaDelta only)

theorem execWitnessAppend_keeps {P : Part → Prop} {s₀ s : State} (dict_ : P .dict) (fb_ : P .fb) (fab_ : P .fab) (free_ : P .free) (h :
    FabHdr) (recs : List Rec) (hs : At (Keeps P s₀) It s) : At (Keeps P s₀) Nxt (execWitnessAppend h recs s) := by
  unfold execWitnessAppend
  with_reducible repeat' (first
    | assumption | (intro x; refine At.cut x ?_ ?_; rotate_left; intro _; clear_value x; rotate_left; unfold x) | intro _ | lift_lets
    | apply State.fabReply_keeps | apply State.routed_keeps | apply At.ite | apply At.next | apply At.some | exact At.none
    | dsimp -zeta only [At.mkFst, At.mkSnd] | apply At.foldl | apply At.getD | apply At.fst | apply At.snd
    | ((conv => enter [3, 20]) <;> apply At.upd <;> first | exact .inl ‹_› | exact .inr rfl | skip)
    | ((conv => enter [3, 20]) <;> apply At.updCore) | split | exact At.ofMkFst ‹_› | exact At.ofMkSnd ‹_›
    | refine At.ofNext (by assumption) ?_ | refine At.ofFst (by assumption) ?_ | refine At.ofSnd (by assumption) ?_
    | refine At.ofOpt (by assumption) ?_ | refine At.ofOptSnd (by assumption) ?_ | refine At.ofOptFst (by assumption) ?_
    | refine At.ofOptSnd2 (by assumption) ?_ | apply At.mapAny | dsimp +zetaDelta only)

theorem execWitnessDurable_keeps {P : Part → Prop} {s₀ s : State} (dict_ : P .dict) (fb_ : P .fb) (stn_ : P .stn) (ses_ : P .ses) (tier_ :
    P .tier) (trv_ : P .trv) (srch_ : P .srch) (fab_ : P .fab) (free_ : P .free) (h : FabHdr) (pos : Nat) (hs : At (Keeps P s₀) It s) : At
    (Keeps P s₀) Nxt (execWitnessDurable h pos s) := by
  unfold execWitnessDurable
  with_reducible repeat' (first
    | assumption | (intro x; refine At.cut x ?_ ?_; rotate_left; intro _; clear_value x; rotate_left; unfold x) | intro _ | lift_lets
    | apply State.routed_keeps | apply State.runWaits_keeps | apply State.setWitness_keeps | apply At.ite | apply At.next | apply At.some
    | exact At.none | dsimp -zeta only [At.mkFst, At.mkSnd] | apply At.foldl | apply At.getD | apply At.fst | apply At.snd
    | ((conv => enter [3, 20]) <;> apply At.upd <;> first | exact .inl ‹_› | exact .inr rfl | skip)
    | ((conv => enter [3, 20]) <;> apply At.updCore) | split | exact At.ofMkFst ‹_› | exact At.ofMkSnd ‹_›
    | refine At.ofNext (by assumption) ?_ | refine At.ofFst (by assumption) ?_ | refine At.ofSnd (by assumption) ?_
    | refine At.ofOpt (by assumption) ?_ | refine At.ofOptSnd (by assumption) ?_ | refine At.ofOptFst (by assumption) ?_
    | refine At.ofOptSnd2 (by assumption) ?_ | apply At.mapAny | dsimp +zetaDelta only)

theorem execWitnessTrim_keeps {P : Part → Prop} {s₀ s : State} (dict_ : P .dict) (fb_ : P .fb) (fab_ : P .fab) (free_ : P .free) (h :
    FabHdr) (pos : Nat) (hs : At (Keeps P s₀) It s) : At (Keeps P s₀) Nxt (execWitnessTrim h pos s) := by
  unfold execWitnessTrim
  with_reducible repeat' (first
    | assumption | (intro x; refine At.cut x ?_ ?_; rotate_left; intro _; clear_value x; rotate_left; unfold x) | intro _ | lift_lets
    | apply State.routed_keeps | apply At.ite | apply At.next | apply At.some | exact At.none | dsimp -zeta only [At.mkFst, At.mkSnd]
    | apply At.foldl | apply At.getD | apply At.fst | apply At.snd
    | ((conv => enter [3, 20]) <;> apply At.upd <;> first | exact .inl ‹_› | exact .inr rfl | skip)
    | ((conv => enter [3, 20]) <;> apply At.updCore) | split | exact At.ofMkFst ‹_› | exact At.ofMkSnd ‹_›
    | refine At.ofNext (by assumption) ?_ | refine At.ofFst (by assumption) ?_ | refine At.ofSnd (by assumption) ?_
    | refine At.ofOpt (by assumption) ?_ | refine At.ofOptSnd (by assumption) ?_ | refine At.ofOptFst (by assumption) ?_
    | refine At.ofOptSnd2 (by assumption) ?_ | apply At.mapAny | dsimp +zetaDelta only)

theorem State.applyHeld_keeps {P : Part → Prop} {s₀ s : State} (dict_ : P .dict) (fb_ : P .fb) (stn_ : P .stn) (ses_ : P .ses) (tier_ : P
    .tier) (trv_ : P .trv) (srch_ : P .srch) (fab_ : P .fab) (free_ : P .free) (ready : HeldReq → Bool) (hs : At (Keeps P s₀) It s) : At
    (Keeps P s₀) It (State.applyHeld s ready) := by
  unfold State.applyHeld
  with_reducible repeat' (first
    | assumption | (intro x; refine At.cut x ?_ ?_; rotate_left; intro _; clear_value x; rotate_left; unfold x) | intro _ | lift_lets
    | apply execSessionMsg_keeps | apply execLeaseRequest_keeps | apply execLeaseGrant_keeps | apply execLeaseRecall_keeps
    | apply execLeaseRelease_keeps | apply execT4Read_keeps | apply execT4Write_keeps | apply execWitnessAppend_keeps
    | apply execWitnessTrim_keeps | apply At.ite | apply At.next | apply At.some | exact At.none | dsimp -zeta only [At.mkFst, At.mkSnd]
    | apply At.foldl | apply At.getD | apply At.fst | apply At.snd
    | ((conv => enter [3, 20]) <;> apply At.upd <;> first | exact .inl ‹_› | exact .inr rfl | skip)
    | ((conv => enter [3, 20]) <;> apply At.updCore) | split | exact At.ofMkFst ‹_› | exact At.ofMkSnd ‹_›
    | refine At.ofNext (by assumption) ?_ | refine At.ofFst (by assumption) ?_ | refine At.ofSnd (by assumption) ?_
    | refine At.ofOpt (by assumption) ?_ | refine At.ofOptSnd (by assumption) ?_ | refine At.ofOptFst (by assumption) ?_
    | refine At.ofOptSnd2 (by assumption) ?_ | apply At.mapAny | dsimp +zetaDelta only)

theorem State.platCommitted_keeps {P : Part → Prop} {s₀ s : State} (dict_ : P .dict) (mgmt_ : P .mgmt) (fb_ : P .fb) (stn_ : P .stn) (ses_
    : P .ses) (tier_ : P .tier) (shape_ : P .shape) (trv_ : P .trv) (srch_ : P .srch) (ck_ : P .ck) (fab_ : P .fab) (pwr_ : P .pwr) (free_
    : P .free) (img : PlatImage) (hs : At (Keeps P s₀) It s) : At (Keeps P s₀) It (State.platCommitted s img) := by
  unfold State.platCommitted
  with_reducible repeat' (first
    | assumption | (intro x; refine At.cut x ?_ ?_; rotate_left; intro _; clear_value x; rotate_left; unfold x) | intro _ | lift_lets
    | apply State.platAdopt_keeps | apply State.proposeDevices_keeps | apply State.admitJoins_keeps | apply State.applyHeld_keeps
    | apply At.ite | apply At.next | apply At.some | exact At.none | dsimp -zeta only [At.mkFst, At.mkSnd] | apply At.foldl
    | apply At.getD | apply At.fst | apply At.snd
    | ((conv => enter [3, 20]) <;> apply At.upd <;> first | exact .inl ‹_› | exact .inr rfl | skip)
    | ((conv => enter [3, 20]) <;> apply At.updCore) | split | exact At.ofMkFst ‹_› | exact At.ofMkSnd ‹_›
    | refine At.ofNext (by assumption) ?_ | refine At.ofFst (by assumption) ?_ | refine At.ofSnd (by assumption) ?_
    | refine At.ofOpt (by assumption) ?_ | refine At.ofOptSnd (by assumption) ?_ | refine At.ofOptFst (by assumption) ?_
    | refine At.ofOptSnd2 (by assumption) ?_ | apply At.mapAny | dsimp +zetaDelta only)

theorem execPropose_keeps {P : Part → Prop} {s₀ s : State} (dict_ : P .dict) (mgmt_ : P .mgmt) (fb_ : P .fb) (stn_ : P .stn) (ses_ : P
    .ses) (tier_ : P .tier) (shape_ : P .shape) (trv_ : P .trv) (srch_ : P .srch) (ck_ : P .ck) (fab_ : P .fab) (pwr_ : P .pwr) (free_ : P
    .free) (w : Writer) (img : Option PlatImage) (hs : At (Keeps P s₀) It s) : At (Keeps P s₀) Nxt (execPropose w img s) := by
  unfold execPropose
  with_reducible repeat' (first
    | assumption | (intro x; refine At.cut x ?_ ?_; rotate_left; intro _; clear_value x; rotate_left; unfold x) | intro _ | lift_lets
    | apply State.command_keeps | apply State.fabSend_keeps | apply State.openVote_keeps | apply At.ite | apply At.next | apply At.some
    | exact At.none | dsimp -zeta only [At.mkFst, At.mkSnd] | apply At.foldl | apply At.getD | apply At.fst | apply At.snd
    | ((conv => enter [3, 20]) <;> apply At.upd <;> first | exact .inl ‹_› | exact .inr rfl | skip)
    | ((conv => enter [3, 20]) <;> apply At.updCore) | split | exact At.ofMkFst ‹_› | exact At.ofMkSnd ‹_›
    | refine At.ofNext (by assumption) ?_ | refine At.ofFst (by assumption) ?_ | refine At.ofSnd (by assumption) ?_
    | refine At.ofOpt (by assumption) ?_ | refine At.ofOptSnd (by assumption) ?_ | refine At.ofOptFst (by assumption) ?_
    | refine At.ofOptSnd2 (by assumption) ?_ | apply At.mapAny | dsimp +zetaDelta only)

theorem execPlatPropose_keeps {P : Part → Prop} {s₀ s : State} (dict_ : P .dict) (mgmt_ : P .mgmt) (fb_ : P .fb) (stn_ : P .stn) (ses_ : P
    .ses) (tier_ : P .tier) (shape_ : P .shape) (trv_ : P .trv) (srch_ : P .srch) (ck_ : P .ck) (fab_ : P .fab) (pwr_ : P .pwr) (free_ : P
    .free) (h : FabHdr) (ballot : Nat) (img : PlatImage) (hs : At (Keeps P s₀) It s) : At (Keeps P s₀) Nxt (execPlatPropose h ballot img s)
    := by
  unfold execPlatPropose
  with_reducible repeat' (first
    | assumption | (intro x; refine At.cut x ?_ ?_; rotate_left; intro _; clear_value x; rotate_left; unfold x) | intro _ | lift_lets
    | apply State.fabReply_keeps | apply State.routed_keeps | apply State.openVote_keeps | apply At.ite | apply At.next | apply At.some
    | exact At.none | dsimp -zeta only [At.mkFst, At.mkSnd] | apply At.foldl | apply At.getD | apply At.fst | apply At.snd
    | ((conv => enter [3, 20]) <;> apply At.upd <;> first | exact .inl ‹_› | exact .inr rfl | skip)
    | ((conv => enter [3, 20]) <;> apply At.updCore) | split | exact At.ofMkFst ‹_› | exact At.ofMkSnd ‹_›
    | refine At.ofNext (by assumption) ?_ | refine At.ofFst (by assumption) ?_ | refine At.ofSnd (by assumption) ?_
    | refine At.ofOpt (by assumption) ?_ | refine At.ofOptSnd (by assumption) ?_ | refine At.ofOptFst (by assumption) ?_
    | refine At.ofOptSnd2 (by assumption) ?_ | apply At.mapAny | dsimp +zetaDelta only)

theorem execPlatAccept_keeps {P : Part → Prop} {s₀ s : State} (dict_ : P .dict) (mgmt_ : P .mgmt) (fb_ : P .fb) (stn_ : P .stn) (ses_ : P
    .ses) (tier_ : P .tier) (shape_ : P .shape) (trv_ : P .trv) (srch_ : P .srch) (ck_ : P .ck) (fab_ : P .fab) (pwr_ : P .pwr) (free_ : P
    .free) (h : FabHdr) (epoch : Nat) (ballot : Nat) (prior : Option PlatImage) (hs : At (Keeps P s₀) It s) : At (Keeps P s₀) Nxt
    (execPlatAccept h epoch ballot prior s) := by
  unfold execPlatAccept
  with_reducible repeat' (first
    | assumption | (intro x; refine At.cut x ?_ ?_; rotate_left; intro _; clear_value x; rotate_left; unfold x) | intro _ | lift_lets
    | apply State.setObj_keeps | apply State.fabSend_keeps | apply State.routed_keeps | apply State.openVote_keeps
    | apply State.platCommitted_keeps | apply At.ite | apply At.next | apply At.some | exact At.none
    | dsimp -zeta only [At.mkFst, At.mkSnd] | apply At.foldl | apply At.getD | apply At.fst | apply At.snd
    | ((conv => enter [3, 20]) <;> apply At.upd <;> first | exact .inl ‹_› | exact .inr rfl | skip)
    | ((conv => enter [3, 20]) <;> apply At.updCore) | split | exact At.ofMkFst ‹_› | exact At.ofMkSnd ‹_›
    | refine At.ofNext (by assumption) ?_ | refine At.ofFst (by assumption) ?_ | refine At.ofSnd (by assumption) ?_
    | refine At.ofOpt (by assumption) ?_ | refine At.ofOptSnd (by assumption) ?_ | refine At.ofOptFst (by assumption) ?_
    | refine At.ofOptSnd2 (by assumption) ?_ | apply At.mapAny | dsimp +zetaDelta only)

theorem execPlatCommit_keeps {P : Part → Prop} {s₀ s : State} (dict_ : P .dict) (mgmt_ : P .mgmt) (fb_ : P .fb) (stn_ : P .stn) (ses_ : P
    .ses) (tier_ : P .tier) (shape_ : P .shape) (trv_ : P .trv) (srch_ : P .srch) (ck_ : P .ck) (fab_ : P .fab) (pwr_ : P .pwr) (free_ : P
    .free) (h : FabHdr) (img : PlatImage) (hs : At (Keeps P s₀) It s) : At (Keeps P s₀) Nxt (execPlatCommit h img s) := by
  unfold execPlatCommit
  with_reducible repeat' (first
    | assumption | (intro x; refine At.cut x ?_ ?_; rotate_left; intro _; clear_value x; rotate_left; unfold x) | intro _ | lift_lets
    | apply State.routed_keeps | apply State.platCommitted_keeps | apply At.ite | apply At.next | apply At.some | exact At.none
    | dsimp -zeta only [At.mkFst, At.mkSnd] | apply At.foldl | apply At.getD | apply At.fst | apply At.snd
    | ((conv => enter [3, 20]) <;> apply At.upd <;> first | exact .inl ‹_› | exact .inr rfl | skip)
    | ((conv => enter [3, 20]) <;> apply At.updCore) | split | exact At.ofMkFst ‹_› | exact At.ofMkSnd ‹_›
    | refine At.ofNext (by assumption) ?_ | refine At.ofFst (by assumption) ?_ | refine At.ofSnd (by assumption) ?_
    | refine At.ofOpt (by assumption) ?_ | refine At.ofOptSnd (by assumption) ?_ | refine At.ofOptFst (by assumption) ?_
    | refine At.ofOptSnd2 (by assumption) ?_ | apply At.mapAny | dsimp +zetaDelta only)

theorem execPlatVoteTimeout_keeps {P : Part → Prop} {s₀ s : State} (dict_ : P .dict) (fab_ : P .fab) (hs : At (Keeps P s₀) It s) : At
    (Keeps P s₀) Nxt (execPlatVoteTimeout s) := by
  unfold execPlatVoteTimeout
  with_reducible repeat' (first
    | assumption | (intro x; refine At.cut x ?_ ?_; rotate_left; intro _; clear_value x; rotate_left; unfold x) | intro _ | lift_lets
    | apply State.setObj_keeps | apply At.ite | apply At.next | apply At.some | exact At.none | dsimp -zeta only [At.mkFst, At.mkSnd]
    | apply At.foldl | apply At.getD | apply At.fst | apply At.snd
    | ((conv => enter [3, 20]) <;> apply At.upd <;> first | exact .inl ‹_› | exact .inr rfl | skip)
    | ((conv => enter [3, 20]) <;> apply At.updCore) | split | exact At.ofMkFst ‹_› | exact At.ofMkSnd ‹_›
    | refine At.ofNext (by assumption) ?_ | refine At.ofFst (by assumption) ?_ | refine At.ofSnd (by assumption) ?_
    | refine At.ofOpt (by assumption) ?_ | refine At.ofOptSnd (by assumption) ?_ | refine At.ofOptFst (by assumption) ?_
    | refine At.ofOptSnd2 (by assumption) ?_ | apply At.mapAny | dsimp +zetaDelta only)

theorem execPlatJoin_keeps {P : Part → Prop} {s₀ s : State} (dict_ : P .dict) (mgmt_ : P .mgmt) (fb_ : P .fb) (stn_ : P .stn) (ses_ : P
    .ses) (tier_ : P .tier) (shape_ : P .shape) (trv_ : P .trv) (srch_ : P .srch) (ck_ : P .ck) (fab_ : P .fab) (pwr_ : P .pwr) (free_ : P
    .free) (h : FabHdr) (device : Nat) (majorLo : Nat) (majorHi : Nat) (minor : Nat) (features : Nat) (identity : Nat) (hs : At (Keeps P
    s₀) It s) : At (Keeps P s₀) Nxt (execPlatJoin h device majorLo majorHi minor features identity s) := by
  unfold execPlatJoin
  with_reducible repeat' (first
    | assumption | (intro x; refine At.cut x ?_ ?_; rotate_left; intro _; clear_value x; rotate_left; unfold x) | intro _ | lift_lets
    | apply State.fabReply_keeps | apply State.routed_keeps | apply State.admitJoins_keeps | apply At.ite | apply At.next | apply At.some
    | exact At.none | dsimp -zeta only [At.mkFst, At.mkSnd] | apply At.foldl | apply At.getD | apply At.fst | apply At.snd
    | ((conv => enter [3, 20]) <;> apply At.upd <;> first | exact .inl ‹_› | exact .inr rfl | skip)
    | ((conv => enter [3, 20]) <;> apply At.updCore) | split | exact At.ofMkFst ‹_› | exact At.ofMkSnd ‹_›
    | refine At.ofNext (by assumption) ?_ | refine At.ofFst (by assumption) ?_ | refine At.ofSnd (by assumption) ?_
    | refine At.ofOpt (by assumption) ?_ | refine At.ofOptSnd (by assumption) ?_ | refine At.ofOptFst (by assumption) ?_
    | refine At.ofOptSnd2 (by assumption) ?_ | apply At.mapAny | dsimp +zetaDelta only)

theorem execPlatFetch_keeps {P : Part → Prop} {s₀ s : State} (dict_ : P .dict) (fb_ : P .fb) (fab_ : P .fab) (free_ : P .free) (h : FabHdr)
    (epoch : Nat) (hs : At (Keeps P s₀) It s) : At (Keeps P s₀) Nxt (execPlatFetch h epoch s) := by
  unfold execPlatFetch
  with_reducible repeat' (first
    | assumption | (intro x; refine At.cut x ?_ ?_; rotate_left; intro _; clear_value x; rotate_left; unfold x) | intro _ | lift_lets
    | apply State.fabReply_keeps | apply State.routed_keeps | apply At.ite | apply At.next | apply At.some | exact At.none
    | dsimp -zeta only [At.mkFst, At.mkSnd] | apply At.foldl | apply At.getD | apply At.fst | apply At.snd
    | ((conv => enter [3, 20]) <;> apply At.upd <;> first | exact .inl ‹_› | exact .inr rfl | skip)
    | ((conv => enter [3, 20]) <;> apply At.updCore) | split | exact At.ofMkFst ‹_› | exact At.ofMkSnd ‹_›
    | refine At.ofNext (by assumption) ?_ | refine At.ofFst (by assumption) ?_ | refine At.ofSnd (by assumption) ?_
    | refine At.ofOpt (by assumption) ?_ | refine At.ofOptSnd (by assumption) ?_ | refine At.ofOptFst (by assumption) ?_
    | refine At.ofOptSnd2 (by assumption) ?_ | apply At.mapAny | dsimp +zetaDelta only)

theorem execPlatImage_keeps {P : Part → Prop} {s₀ s : State} (dict_ : P .dict) (mgmt_ : P .mgmt) (fb_ : P .fb) (stn_ : P .stn) (ses_ : P
    .ses) (tier_ : P .tier) (shape_ : P .shape) (trv_ : P .trv) (srch_ : P .srch) (ck_ : P .ck) (fab_ : P .fab) (pwr_ : P .pwr) (free_ : P
    .free) (h : FabHdr) (img : PlatImage) (hs : At (Keeps P s₀) It s) : At (Keeps P s₀) Nxt (execPlatImage h img s) := by
  unfold execPlatImage
  with_reducible repeat' (first
    | assumption | (intro x; refine At.cut x ?_ ?_; rotate_left; intro _; clear_value x; rotate_left; unfold x) | intro _ | lift_lets
    | apply State.routed_keeps | apply State.platCommitted_keeps | apply At.ite | apply At.next | apply At.some | exact At.none
    | dsimp -zeta only [At.mkFst, At.mkSnd] | apply At.foldl | apply At.getD | apply At.fst | apply At.snd
    | ((conv => enter [3, 20]) <;> apply At.upd <;> first | exact .inl ‹_› | exact .inr rfl | skip)
    | ((conv => enter [3, 20]) <;> apply At.updCore) | split | exact At.ofMkFst ‹_› | exact At.ofMkSnd ‹_›
    | refine At.ofNext (by assumption) ?_ | refine At.ofFst (by assumption) ?_ | refine At.ofSnd (by assumption) ?_
    | refine At.ofOpt (by assumption) ?_ | refine At.ofOptSnd (by assumption) ?_ | refine At.ofOptFst (by assumption) ?_
    | refine At.ofOptSnd2 (by assumption) ?_ | apply At.mapAny | dsimp +zetaDelta only)

theorem execPeerReport_keeps {P : Part → Prop} {s₀ s : State} (dict_ : P .dict) (mgmt_ : P .mgmt) (fb_ : P .fb) (stn_ : P .stn) (ses_ : P
    .ses) (tier_ : P .tier) (shape_ : P .shape) (trv_ : P .trv) (srch_ : P .srch) (ck_ : P .ck) (fab_ : P .fab) (pwr_ : P .pwr) (free_ : P
    .free) (h : FabHdr) (devices : List Nat) (hs : At (Keeps P s₀) It s) : At (Keeps P s₀) Nxt (execPeerReport h devices s) := by
  unfold execPeerReport
  with_reducible repeat' (first
    | assumption | (intro x; refine At.cut x ?_ ?_; rotate_left; intro _; clear_value x; rotate_left; unfold x) | intro _ | lift_lets
    | apply State.routed_keeps | apply State.noteReport_keeps | apply At.ite | apply At.next | apply At.some | exact At.none
    | dsimp -zeta only [At.mkFst, At.mkSnd] | apply At.foldl | apply At.getD | apply At.fst | apply At.snd
    | ((conv => enter [3, 20]) <;> apply At.upd <;> first | exact .inl ‹_› | exact .inr rfl | skip)
    | ((conv => enter [3, 20]) <;> apply At.updCore) | split | exact At.ofMkFst ‹_› | exact At.ofMkSnd ‹_›
    | refine At.ofNext (by assumption) ?_ | refine At.ofFst (by assumption) ?_ | refine At.ofSnd (by assumption) ?_
    | refine At.ofOpt (by assumption) ?_ | refine At.ofOptSnd (by assumption) ?_ | refine At.ofOptFst (by assumption) ?_
    | refine At.ofOptSnd2 (by assumption) ?_ | apply At.mapAny | dsimp +zetaDelta only)

theorem State.handoverDone_keeps {P : Part → Prop} {s₀ s : State} (dict_ : P .dict) (fb_ : P .fb) (stn_ : P .stn) (ses_ : P .ses) (tier_ :
    P .tier) (trv_ : P .trv) (srch_ : P .srch) (fab_ : P .fab) (free_ : P .free) (hs : At (Keeps P s₀) It s) : At (Keeps P s₀) It
    (State.handoverDone s) := by
  unfold State.handoverDone
  with_reducible repeat' (first
    | assumption | (intro x; refine At.cut x ?_ ?_; rotate_left; intro _; clear_value x; rotate_left; unfold x) | intro _ | lift_lets
    | apply State.startRevive_keeps | apply State.handoverAck_keeps | apply State.applyHeld_keeps | apply At.ite | apply At.next
    | apply At.some | exact At.none | dsimp -zeta only [At.mkFst, At.mkSnd] | apply At.foldl | apply At.getD | apply At.fst | apply At.snd
    | ((conv => enter [3, 20]) <;> apply At.upd <;> first | exact .inl ‹_› | exact .inr rfl | skip)
    | ((conv => enter [3, 20]) <;> apply At.updCore) | split | exact At.ofMkFst ‹_› | exact At.ofMkSnd ‹_›
    | refine At.ofNext (by assumption) ?_ | refine At.ofFst (by assumption) ?_ | refine At.ofSnd (by assumption) ?_
    | refine At.ofOpt (by assumption) ?_ | refine At.ofOptSnd (by assumption) ?_ | refine At.ofOptFst (by assumption) ?_
    | refine At.ofOptSnd2 (by assumption) ?_ | apply At.mapAny | dsimp +zetaDelta only)

theorem execHandover_keeps {P : Part → Prop} {s₀ s : State} (dict_ : P .dict) (fb_ : P .fb) (stn_ : P .stn) (ses_ : P .ses) (tier_ : P
    .tier) (srch_ : P .srch) (fab_ : P .fab) (free_ : P .free) (h : FabHdr) (x : Session) (recs : List Rec) (hs : At (Keeps P s₀) It s) :
    At (Keeps P s₀) Nxt (execHandover h x recs s) := by
  unfold execHandover
  with_reducible repeat' (first
    | assumption | (intro x; refine At.cut x ?_ ?_; rotate_left; intro _; clear_value x; rotate_left; unfold x) | intro _ | lift_lets
    | apply State.routed_keeps | apply State.remoteStation_keeps | apply State.receiveSession_keeps | apply At.ite | apply At.next
    | apply At.some | exact At.none | dsimp -zeta only [At.mkFst, At.mkSnd] | apply At.foldl | apply At.getD | apply At.fst | apply At.snd
    | ((conv => enter [3, 20]) <;> apply At.upd <;> first | exact .inl ‹_› | exact .inr rfl | skip)
    | ((conv => enter [3, 20]) <;> apply At.updCore) | split | exact At.ofMkFst ‹_› | exact At.ofMkSnd ‹_›
    | refine At.ofNext (by assumption) ?_ | refine At.ofFst (by assumption) ?_ | refine At.ofSnd (by assumption) ?_
    | refine At.ofOpt (by assumption) ?_ | refine At.ofOptSnd (by assumption) ?_ | refine At.ofOptFst (by assumption) ?_
    | refine At.ofOptSnd2 (by assumption) ?_ | apply At.mapAny | dsimp +zetaDelta only)

theorem execDrain_keeps {P : Part → Prop} {s₀ s : State} (dict_ : P .dict) (fb_ : P .fb) (stn_ : P .stn) (ses_ : P .ses) (tier_ : P .tier)
    (trv_ : P .trv) (srch_ : P .srch) (fab_ : P .fab) (free_ : P .free) (h : FabHdr) (sessions : Nat) (hs : At (Keeps P s₀) It s) : At
    (Keeps P s₀) Nxt (execDrain h sessions s) := by
  unfold execDrain
  with_reducible repeat' (first
    | assumption | (intro x; refine At.cut x ?_ ?_; rotate_left; intro _; clear_value x; rotate_left; unfold x) | intro _ | lift_lets
    | apply State.routed_keeps | apply State.handoverDone_keeps | apply At.ite | apply At.next | apply At.some | exact At.none
    | dsimp -zeta only [At.mkFst, At.mkSnd] | apply At.foldl | apply At.getD | apply At.fst | apply At.snd
    | ((conv => enter [3, 20]) <;> apply At.upd <;> first | exact .inl ‹_› | exact .inr rfl | skip)
    | ((conv => enter [3, 20]) <;> apply At.updCore) | split | exact At.ofMkFst ‹_› | exact At.ofMkSnd ‹_›
    | refine At.ofNext (by assumption) ?_ | refine At.ofFst (by assumption) ?_ | refine At.ofSnd (by assumption) ?_
    | refine At.ofOpt (by assumption) ?_ | refine At.ofOptSnd (by assumption) ?_ | refine At.ofOptFst (by assumption) ?_
    | refine At.ofOptSnd2 (by assumption) ?_ | apply At.mapAny | dsimp +zetaDelta only)

theorem execHandoverAck_keeps {P : Part → Prop} {s₀ s : State} (dict_ : P .dict) (fb_ : P .fb) (ses_ : P .ses) (tier_ : P .tier) (srch_ : P
    .srch) (fab_ : P .fab) (free_ : P .free) (h : FabHdr) (hs : At (Keeps P s₀) It s) : At (Keeps P s₀) Nxt (execHandoverAck h s) := by
  unfold execHandoverAck
  with_reducible repeat' (first
    | assumption | (intro x; refine At.cut x ?_ ?_; rotate_left; intro _; clear_value x; rotate_left; unfold x) | intro _ | lift_lets
    | apply State.routed_keeps | apply State.freeMoved_keeps | apply At.ite | apply At.next | apply At.some | exact At.none
    | dsimp -zeta only [At.mkFst, At.mkSnd] | apply At.foldl | apply At.getD | apply At.fst | apply At.snd
    | ((conv => enter [3, 20]) <;> apply At.upd <;> first | exact .inl ‹_› | exact .inr rfl | skip)
    | ((conv => enter [3, 20]) <;> apply At.updCore) | split | exact At.ofMkFst ‹_› | exact At.ofMkSnd ‹_›
    | refine At.ofNext (by assumption) ?_ | refine At.ofFst (by assumption) ?_ | refine At.ofSnd (by assumption) ?_
    | refine At.ofOpt (by assumption) ?_ | refine At.ofOptSnd (by assumption) ?_ | refine At.ofOptFst (by assumption) ?_
    | refine At.ofOptSnd2 (by assumption) ?_ | apply At.mapAny | dsimp +zetaDelta only)

theorem execMoved_keeps {P : Part → Prop} {s₀ s : State} (dict_ : P .dict) (fb_ : P .fb) (fab_ : P .fab) (free_ : P .free) (h : FabHdr)
    (device : Nat) (epoch : Nat) (hs : At (Keeps P s₀) It s) : At (Keeps P s₀) Nxt (execMoved h device epoch s) := by
  unfold execMoved
  with_reducible repeat' (first
    | assumption | (intro x; refine At.cut x ?_ ?_; rotate_left; intro _; clear_value x; rotate_left; unfold x) | intro _ | lift_lets
    | apply State.fabSend_keeps | apply State.routed_keeps | apply State.setRoute_keeps | apply At.ite | apply At.next | apply At.some
    | exact At.none | dsimp -zeta only [At.mkFst, At.mkSnd] | apply At.foldl | apply At.getD | apply At.fst | apply At.snd
    | ((conv => enter [3, 20]) <;> apply At.upd <;> first | exact .inl ‹_› | exact .inr rfl | skip)
    | ((conv => enter [3, 20]) <;> apply At.updCore) | split | exact At.ofMkFst ‹_› | exact At.ofMkSnd ‹_›
    | refine At.ofNext (by assumption) ?_ | refine At.ofFst (by assumption) ?_ | refine At.ofSnd (by assumption) ?_
    | refine At.ofOpt (by assumption) ?_ | refine At.ofOptSnd (by assumption) ?_ | refine At.ofOptFst (by assumption) ?_
    | refine At.ofOptSnd2 (by assumption) ?_ | apply At.mapAny | dsimp +zetaDelta only)

theorem execPlatDrainTimeout_keeps {P : Part → Prop} {s₀ s : State} (dict_ : P .dict) (mgmt_ : P .mgmt) (fb_ : P .fb) (stn_ : P .stn) (ses_
    : P .ses) (tier_ : P .tier) (shape_ : P .shape) (trv_ : P .trv) (srch_ : P .srch) (ck_ : P .ck) (fab_ : P .fab) (pwr_ : P .pwr) (free_
    : P .free) (hs : At (Keeps P s₀) It s) : At (Keeps P s₀) Nxt (execPlatDrainTimeout s) := by
  unfold execPlatDrainTimeout
  with_reducible repeat' (first
    | assumption | (intro x; refine At.cut x ?_ ?_; rotate_left; intro _; clear_value x; rotate_left; unfold x) | intro _ | lift_lets
    | apply State.bump_keeps | apply State.refuseHeld_keeps | apply State.reportPeers_keeps | apply At.ite | apply At.next | apply At.some
    | exact At.none | dsimp -zeta only [At.mkFst, At.mkSnd] | apply At.foldl | apply At.getD | apply At.fst | apply At.snd
    | ((conv => enter [3, 20]) <;> apply At.upd <;> first | exact .inl ‹_› | exact .inr rfl | skip)
    | ((conv => enter [3, 20]) <;> apply At.updCore) | split | exact At.ofMkFst ‹_› | exact At.ofMkSnd ‹_›
    | refine At.ofNext (by assumption) ?_ | refine At.ofFst (by assumption) ?_ | refine At.ofSnd (by assumption) ?_
    | refine At.ofOpt (by assumption) ?_ | refine At.ofOptSnd (by assumption) ?_ | refine At.ofOptFst (by assumption) ?_
    | refine At.ofOptSnd2 (by assumption) ?_ | apply At.mapAny | dsimp +zetaDelta only)

theorem execPlatEpochStale_keeps {P : Part → Prop} {s₀ s : State} (fab_ : P .fab) (hs : At (Keeps P s₀) It s) : At (Keeps P s₀) Nxt
    (execPlatEpochStale s) := by
  unfold execPlatEpochStale
  with_reducible repeat' (first
    | assumption | (intro x; refine At.cut x ?_ ?_; rotate_left; intro _; clear_value x; rotate_left; unfold x) | intro _ | lift_lets
    | apply State.refuseHeld_keeps | apply At.ite | apply At.next | apply At.some | exact At.none | dsimp -zeta only [At.mkFst, At.mkSnd]
    | apply At.foldl | apply At.getD | apply At.fst | apply At.snd
    | ((conv => enter [3, 20]) <;> apply At.upd <;> first | exact .inl ‹_› | exact .inr rfl | skip)
    | ((conv => enter [3, 20]) <;> apply At.updCore) | split | exact At.ofMkFst ‹_› | exact At.ofMkSnd ‹_›
    | refine At.ofNext (by assumption) ?_ | refine At.ofFst (by assumption) ?_ | refine At.ofSnd (by assumption) ?_
    | refine At.ofOpt (by assumption) ?_ | refine At.ofOptSnd (by assumption) ?_ | refine At.ofOptFst (by assumption) ?_
    | refine At.ofOptSnd2 (by assumption) ?_ | apply At.mapAny | dsimp +zetaDelta only)

theorem State.pullPt_keeps {P : Part → Prop} {s₀ s : State} (dict_ : P .dict) (ses_ : P .ses) (tier_ : P .tier) (free_ : P .free) (i : Nat)
    (hs : At (Keeps P s₀) It s) : At (Keeps P s₀) It (State.pullPt s i) := by
  unfold State.pullPt
  with_reducible repeat' (first
    | assumption | (intro x; refine At.cut x ?_ ?_; rotate_left; intro _; clear_value x; rotate_left; unfold x) | intro _ | lift_lets
    | apply State.modSess_keeps | apply State.growPt_keeps | apply At.ite | apply At.next | apply At.some | exact At.none
    | dsimp -zeta only [At.mkFst, At.mkSnd] | apply At.foldl | apply At.getD | apply At.fst | apply At.snd
    | ((conv => enter [3, 20]) <;> apply At.upd <;> first | exact .inl ‹_› | exact .inr rfl | skip)
    | ((conv => enter [3, 20]) <;> apply At.updCore) | split | exact At.ofMkFst ‹_› | exact At.ofMkSnd ‹_›
    | refine At.ofNext (by assumption) ?_ | refine At.ofFst (by assumption) ?_ | refine At.ofSnd (by assumption) ?_
    | refine At.ofOpt (by assumption) ?_ | refine At.ofOptSnd (by assumption) ?_ | refine At.ofOptFst (by assumption) ?_
    | refine At.ofOptSnd2 (by assumption) ?_ | apply At.mapAny | dsimp +zetaDelta only)

theorem execHandoverPull_keeps {P : Part → Prop} {s₀ s : State} (dict_ : P .dict) (ses_ : P .ses) (tier_ : P .tier) (fab_ : P .fab) (free_
    : P .free) (hs : At (Keeps P s₀) It s) : At (Keeps P s₀) Nxt (execHandoverPull s) := by
  unfold execHandoverPull
  with_reducible repeat' (first
    | assumption | (intro x; refine At.cut x ?_ ?_; rotate_left; intro _; clear_value x; rotate_left; unfold x) | intro _ | lift_lets
    | apply State.postMove_keeps | apply State.fabSend_keeps | apply State.dropLease_keeps | apply State.pullPt_keeps | apply At.ite
    | apply At.next | apply At.some | exact At.none | dsimp -zeta only [At.mkFst, At.mkSnd] | apply At.foldl | apply At.getD
    | apply At.fst | apply At.snd | ((conv => enter [3, 20]) <;> apply At.upd <;> first | exact .inl ‹_› | exact .inr rfl | skip)
    | ((conv => enter [3, 20]) <;> apply At.updCore) | split | exact At.ofMkFst ‹_› | exact At.ofMkSnd ‹_›
    | refine At.ofNext (by assumption) ?_ | refine At.ofFst (by assumption) ?_ | refine At.ofSnd (by assumption) ?_
    | refine At.ofOpt (by assumption) ?_ | refine At.ofOptSnd (by assumption) ?_ | refine At.ofOptFst (by assumption) ?_
    | refine At.ofOptSnd2 (by assumption) ?_ | apply At.mapAny | dsimp +zetaDelta only)

theorem execRelease_keeps {P : Part → Prop} {s₀ s : State} (dict_ : P .dict) (mgmt_ : P .mgmt) (fb_ : P .fb) (stn_ : P .stn) (fab_ : P
    .fab) (w : Writer) (lease : Nat) (hs : At (Keeps P s₀) It s) : At (Keeps P s₀) Nxt (execRelease w lease s) := by
  unfold execRelease
  with_reducible repeat' (first
    | assumption | (intro x; refine At.cut x ?_ ?_; rotate_left; intro _; clear_value x; rotate_left; unfold x) | intro _ | lift_lets
    | apply State.command_keeps | apply State.dropLease_keeps | apply At.ite | apply At.next | apply At.some | exact At.none
    | dsimp -zeta only [At.mkFst, At.mkSnd] | apply At.foldl | apply At.getD | apply At.fst | apply At.snd
    | ((conv => enter [3, 20]) <;> apply At.upd <;> first | exact .inl ‹_› | exact .inr rfl | skip)
    | ((conv => enter [3, 20]) <;> apply At.updCore) | split | exact At.ofMkFst ‹_› | exact At.ofMkSnd ‹_›
    | refine At.ofNext (by assumption) ?_ | refine At.ofFst (by assumption) ?_ | refine At.ofSnd (by assumption) ?_
    | refine At.ofOpt (by assumption) ?_ | refine At.ofOptSnd (by assumption) ?_ | refine At.ofOptFst (by assumption) ?_
    | refine At.ofOptSnd2 (by assumption) ?_ | apply At.mapAny | dsimp +zetaDelta only)

theorem State.clearLeases_keeps {P : Part → Prop} {s₀ s : State} (dict_ : P .dict) (tier_ : P .tier) (fab_ : P .fab) (hs : At (Keeps P s₀)
    It s) : At (Keeps P s₀) It (State.clearLeases s) := by
  unfold State.clearLeases
  with_reducible repeat' (first
    | assumption | (intro x; refine At.cut x ?_ ?_; rotate_left; intro _; clear_value x; rotate_left; unfold x) | intro _ | lift_lets
    | apply State.produce_keeps | apply State.eachSess_keeps | apply State.fabSend_keeps | apply At.ite | apply At.next | apply At.some
    | exact At.none | dsimp -zeta only [At.mkFst, At.mkSnd] | apply At.foldl | apply At.getD | apply At.fst | apply At.snd
    | ((conv => enter [3, 20]) <;> apply At.upd <;> first | exact .inl ‹_› | exact .inr rfl | skip)
    | ((conv => enter [3, 20]) <;> apply At.updCore) | split | exact At.ofMkFst ‹_› | exact At.ofMkSnd ‹_›
    | refine At.ofNext (by assumption) ?_ | refine At.ofFst (by assumption) ?_ | refine At.ofSnd (by assumption) ?_
    | refine At.ofOpt (by assumption) ?_ | refine At.ofOptSnd (by assumption) ?_ | refine At.ofOptFst (by assumption) ?_
    | refine At.ofOptSnd2 (by assumption) ?_ | apply At.mapAny | dsimp +zetaDelta only)

theorem execCompositionWrite_keeps {P : Part → Prop} {s₀ s : State} (dict_ : P .dict) (mgmt_ : P .mgmt) (fb_ : P .fb) (stn_ : P .stn) (ses_
    : P .ses) (tier_ : P .tier) (shape_ : P .shape) (trv_ : P .trv) (srch_ : P .srch) (ck_ : P .ck) (fab_ : P .fab) (pwr_ : P .pwr) (free_
    : P .free) (w : Writer) (v : Nat) (hs : At (Keeps P s₀) It s) : At (Keeps P s₀) Nxt (execCompositionWrite w v s) := by
  unfold execCompositionWrite
  with_reducible repeat' (first
    | assumption | (intro x; refine At.cut x ?_ ?_; rotate_left; intro _; clear_value x; rotate_left; unfold x) | intro _ | lift_lets
    | apply State.setObj_keeps | apply State.command_keeps | apply State.fabSend_keeps | apply State.platView_keeps
    | apply State.proposeDevices_keeps | apply State.clearLeases_keeps | apply At.ite | apply At.next | apply At.some | exact At.none
    | dsimp -zeta only [At.mkFst, At.mkSnd] | apply At.foldl | apply At.getD | apply At.fst | apply At.snd
    | ((conv => enter [3, 20]) <;> apply At.upd <;> first | exact .inl ‹_› | exact .inr rfl | skip)
    | ((conv => enter [3, 20]) <;> apply At.updCore) | split | exact At.ofMkFst ‹_› | exact At.ofMkSnd ‹_›
    | refine At.ofNext (by assumption) ?_ | refine At.ofFst (by assumption) ?_ | refine At.ofSnd (by assumption) ?_
    | refine At.ofOpt (by assumption) ?_ | refine At.ofOptSnd (by assumption) ?_ | refine At.ofOptFst (by assumption) ?_
    | refine At.ofOptSnd2 (by assumption) ?_ | apply At.mapAny | dsimp +zetaDelta only)

theorem execHoldoverTimeout_keeps {P : Part → Prop} {s₀ s : State} (dict_ : P .dict) (mgmt_ : P .mgmt) (stn_ : P .stn) (tier_ : P .tier)
    (trv_ : P .trv) (srch_ : P .srch) (ck_ : P .ck) (hs : At (Keeps P s₀) It s) : At (Keeps P s₀) Nxt (execHoldoverTimeout s) := by
  unfold execHoldoverTimeout
  with_reducible repeat' (first
    | assumption | (intro x; refine At.cut x ?_ ?_; rotate_left; intro _; clear_value x; rotate_left; unfold x) | intro _ | lift_lets
    | apply State.stopTraverse_keeps | apply State.setDatum_keeps | apply State.ckAbort_keeps | apply At.ite | apply At.next
    | apply At.some | exact At.none | dsimp -zeta only [At.mkFst, At.mkSnd] | apply At.foldl | apply At.getD | apply At.fst | apply At.snd
    | ((conv => enter [3, 20]) <;> apply At.upd <;> first | exact .inl ‹_› | exact .inr rfl | skip)
    | ((conv => enter [3, 20]) <;> apply At.updCore) | split | exact At.ofMkFst ‹_› | exact At.ofMkSnd ‹_›
    | refine At.ofNext (by assumption) ?_ | refine At.ofFst (by assumption) ?_ | refine At.ofSnd (by assumption) ?_
    | refine At.ofOpt (by assumption) ?_ | refine At.ofOptSnd (by assumption) ?_ | refine At.ofOptFst (by assumption) ?_
    | refine At.ofOptSnd2 (by assumption) ?_ | apply At.mapAny | dsimp +zetaDelta only)

theorem execBenchmarkTakeover_keeps {P : Part → Prop} {s₀ s : State} (dict_ : P .dict) (mgmt_ : P .mgmt) (stn_ : P .stn) (tier_ : P .tier)
    (trv_ : P .trv) (ck_ : P .ck) (lost : List Nat) (hs : At (Keeps P s₀) It s) : At (Keeps P s₀) Nxt (execBenchmarkTakeover lost s) := by
  unfold execBenchmarkTakeover
  with_reducible repeat' (first
    | assumption | (intro x; refine At.cut x ?_ ?_; rotate_left; intro _; clear_value x; rotate_left; unfold x) | intro _ | lift_lets
    | apply State.setObj_keeps | apply State.ckAbort_keeps | apply At.ite | apply At.next | apply At.some | exact At.none
    | dsimp -zeta only [At.mkFst, At.mkSnd] | apply At.foldl | apply At.getD | apply At.fst | apply At.snd
    | ((conv => enter [3, 20]) <;> apply At.upd <;> first | exact .inl ‹_› | exact .inr rfl | skip)
    | ((conv => enter [3, 20]) <;> apply At.updCore) | split | exact At.ofMkFst ‹_› | exact At.ofMkSnd ‹_›
    | refine At.ofNext (by assumption) ?_ | refine At.ofFst (by assumption) ?_ | refine At.ofSnd (by assumption) ?_
    | refine At.ofOpt (by assumption) ?_ | refine At.ofOptSnd (by assumption) ?_ | refine At.ofOptFst (by assumption) ?_
    | refine At.ofOptSnd2 (by assumption) ?_ | apply At.mapAny | dsimp +zetaDelta only)

/-! ### Machine/Durable.lean -/

theorem execAcceptDurable_keeps {P : Part → Prop} {s₀ s : State} (dict_ : P .dict) (fb_ : P .fb) (stn_ : P .stn) (ses_ : P .ses) (tier_ : P
    .tier) (trv_ : P .trv) (srch_ : P .srch) (fab_ : P .fab) (free_ : P .free) (half : Nat) (pos : Nat) (hs : At (Keeps P s₀) It s) : At
    (Keeps P s₀) Nxt (execAcceptDurable half pos s) := by
  unfold execAcceptDurable
  with_reducible repeat' (first
    | assumption | (intro x; refine At.cut x ?_ ?_; rotate_left; intro _; clear_value x; rotate_left; unfold x) | intro _ | lift_lets
    | apply State.setObj_keeps | apply State.relayOut_keeps | apply State.runWaits_keeps | apply At.ite | apply At.next | apply At.some
    | exact At.none | dsimp -zeta only [At.mkFst, At.mkSnd] | apply At.foldl | apply At.getD | apply At.fst | apply At.snd
    | ((conv => enter [3, 20]) <;> apply At.upd <;> first | exact .inl ‹_› | exact .inr rfl | skip)
    | ((conv => enter [3, 20]) <;> apply At.updCore) | split | exact At.ofMkFst ‹_› | exact At.ofMkSnd ‹_›
    | refine At.ofNext (by assumption) ?_ | refine At.ofFst (by assumption) ?_ | refine At.ofSnd (by assumption) ?_
    | refine At.ofOpt (by assumption) ?_ | refine At.ofOptSnd (by assumption) ?_ | refine At.ofOptFst (by assumption) ?_
    | refine At.ofOptSnd2 (by assumption) ?_ | apply At.mapAny | dsimp +zetaDelta only)

theorem execRecordDurable_keeps {P : Part → Prop} {s₀ s : State} (dict_ : P .dict) (fb_ : P .fb) (stn_ : P .stn) (ses_ : P .ses) (tier_ : P
    .tier) (trv_ : P .trv) (srch_ : P .srch) (fab_ : P .fab) (free_ : P .free) (half : Nat) (flushed : Nat) (hs : At (Keeps P s₀) It s) :
    At (Keeps P s₀) Nxt (execRecordDurable half flushed s) := by
  unfold execRecordDurable
  with_reducible repeat' (first
    | assumption | (intro x; refine At.cut x ?_ ?_; rotate_left; intro _; clear_value x; rotate_left; unfold x) | intro _ | lift_lets
    | apply State.setBook_keeps | apply State.relayOut_keeps | apply State.runWaits_keeps | apply State.handoverDone_keeps | apply At.ite
    | apply At.next | apply At.some | exact At.none | dsimp -zeta only [At.mkFst, At.mkSnd] | apply At.foldl | apply At.getD
    | apply At.fst | apply At.snd | ((conv => enter [3, 20]) <;> apply At.upd <;> first | exact .inl ‹_› | exact .inr rfl | skip)
    | ((conv => enter [3, 20]) <;> apply At.updCore) | split | exact At.ofMkFst ‹_› | exact At.ofMkSnd ‹_›
    | refine At.ofNext (by assumption) ?_ | refine At.ofFst (by assumption) ?_ | refine At.ofSnd (by assumption) ?_
    | refine At.ofOpt (by assumption) ?_ | refine At.ofOptSnd (by assumption) ?_ | refine At.ofOptFst (by assumption) ?_
    | refine At.ofOptSnd2 (by assumption) ?_ | apply At.mapAny | dsimp +zetaDelta only)

/-! ### Machine/Resets.lean -/

theorem State.resetObjects_keeps {P : Part → Prop} {s₀ s : State} (dict_ : P .dict) (kept : List ObjSpec) (hs : At (Keeps P s₀) It s) : At
    (Keeps P s₀) It (State.resetObjects s kept) := by
  unfold State.resetObjects
  with_reducible repeat' (first
    | assumption | (intro x; refine At.cut x ?_ ?_; rotate_left; intro _; clear_value x; rotate_left; unfold x) | intro _ | lift_lets
    | apply State.putKey_keeps | apply At.ite | apply At.next | apply At.some | exact At.none | dsimp -zeta only [At.mkFst, At.mkSnd]
    | apply At.foldl | apply At.getD | apply At.fst | apply At.snd
    | ((conv => enter [3, 20]) <;> apply At.upd <;> first | exact .inl ‹_› | exact .inr rfl | skip)
    | ((conv => enter [3, 20]) <;> apply At.updCore) | split | exact At.ofMkFst ‹_› | exact At.ofMkSnd ‹_›
    | refine At.ofNext (by assumption) ?_ | refine At.ofFst (by assumption) ?_ | refine At.ofSnd (by assumption) ?_
    | refine At.ofOpt (by assumption) ?_ | refine At.ofOptSnd (by assumption) ?_ | refine At.ofOptFst (by assumption) ?_
    | refine At.ofOptSnd2 (by assumption) ?_ | apply At.mapAny | dsimp +zetaDelta only)

theorem State.recompileStops_keeps {P : Part → Prop} {s₀ s : State} (dict_ : P .dict) (ses_ : P .ses) (tier_ : P .tier) (text_ : P .text)
    (free_ : P .free) (hs : At (Keeps P s₀) It s) : At (Keeps P s₀) It (State.recompileStops s) := by
  unfold State.recompileStops
  with_reducible repeat' (first
    | assumption | (intro x; refine At.cut x ?_ ?_; rotate_left; intro _; clear_value x; rotate_left; unfold x) | intro _ | lift_lets
    | apply State.compileStop_keeps | apply At.ite | apply At.next | apply At.some | exact At.none | dsimp -zeta only [At.mkFst, At.mkSnd]
    | apply At.foldl | apply At.getD | apply At.fst | apply At.snd
    | ((conv => enter [3, 20]) <;> apply At.upd <;> first | exact .inl ‹_› | exact .inr rfl | skip)
    | ((conv => enter [3, 20]) <;> apply At.updCore) | split | exact At.ofMkFst ‹_› | exact At.ofMkSnd ‹_›
    | refine At.ofNext (by assumption) ?_ | refine At.ofFst (by assumption) ?_ | refine At.ofSnd (by assumption) ?_
    | refine At.ofOpt (by assumption) ?_ | refine At.ofOptSnd (by assumption) ?_ | refine At.ofOptFst (by assumption) ?_
    | refine At.ofOptSnd2 (by assumption) ?_ | apply At.mapAny | dsimp +zetaDelta only)

theorem State.fwFallback_keeps {P : Part → Prop} {s₀ s : State} (dict_ : P .dict) (mgmt_ : P .mgmt) (stn_ : P .stn) (n : Nat) (hs : At
    (Keeps P s₀) It s) : At (Keeps P s₀) It (State.fwFallback s n) := by
  unfold State.fwFallback
  with_reducible repeat' (first
    | assumption | (intro x; refine At.cut x ?_ ?_; rotate_left; intro _; clear_value x; rotate_left; unfold x) | intro _ | lift_lets
    | apply State.tileEvent_keeps | apply State.mpLogAdd_keeps | apply At.ite | apply At.next | apply At.some | exact At.none
    | dsimp -zeta only [At.mkFst, At.mkSnd] | apply At.foldl | apply At.getD | apply At.fst | apply At.snd
    | ((conv => enter [3, 20]) <;> apply At.upd <;> first | exact .inl ‹_› | exact .inr rfl | skip)
    | ((conv => enter [3, 20]) <;> apply At.updCore) | split | exact At.ofMkFst ‹_› | exact At.ofMkSnd ‹_›
    | refine At.ofNext (by assumption) ?_ | refine At.ofFst (by assumption) ?_ | refine At.ofSnd (by assumption) ?_
    | refine At.ofOpt (by assumption) ?_ | refine At.ofOptSnd (by assumption) ?_ | refine At.ofOptFst (by assumption) ?_
    | refine At.ofOptSnd2 (by assumption) ?_ | apply At.mapAny | dsimp +zetaDelta only)

theorem State.runSlot_keeps {P : Part → Prop} {s₀ s : State} (dict_ : P .dict) (mgmt_ : P .mgmt) (n : Nat) (hs : At (Keeps P s₀) It s) : At
    (Keeps P s₀) It (State.runSlot s n) := by
  unfold State.runSlot
  with_reducible repeat' (first
    | assumption | (intro x; refine At.cut x ?_ ?_; rotate_left; intro _; clear_value x; rotate_left; unfold x) | intro _ | lift_lets
    | apply State.setObj_keeps | apply State.measure_keeps | apply At.ite | apply At.next | apply At.some | exact At.none
    | dsimp -zeta only [At.mkFst, At.mkSnd] | apply At.foldl | apply At.getD | apply At.fst | apply At.snd
    | ((conv => enter [3, 20]) <;> apply At.upd <;> first | exact .inl ‹_› | exact .inr rfl | skip)
    | ((conv => enter [3, 20]) <;> apply At.updCore) | split | exact At.ofMkFst ‹_› | exact At.ofMkSnd ‹_›
    | refine At.ofNext (by assumption) ?_ | refine At.ofFst (by assumption) ?_ | refine At.ofSnd (by assumption) ?_
    | refine At.ofOpt (by assumption) ?_ | refine At.ofOptSnd (by assumption) ?_ | refine At.ofOptFst (by assumption) ?_
    | refine At.ofOptSnd2 (by assumption) ?_ | apply At.mapAny | dsimp +zetaDelta only)

theorem State.recovery_keeps {P : Part → Prop} {s₀ s : State} (dict_ : P .dict) (mgmt_ : P .mgmt) (hs : At (Keeps P s₀) It s) : At (Keeps P
    s₀) It (State.recovery s) := by
  unfold State.recovery
  with_reducible repeat' (first
    | assumption | (intro x; refine At.cut x ?_ ?_; rotate_left; intro _; clear_value x; rotate_left; unfold x) | intro _ | lift_lets
    | apply State.setObj_keeps | apply State.mpLogAdd_keeps | apply At.ite | apply At.next | apply At.some | exact At.none
    | dsimp -zeta only [At.mkFst, At.mkSnd] | apply At.foldl | apply At.getD | apply At.fst | apply At.snd
    | ((conv => enter [3, 20]) <;> apply At.upd <;> first | exact .inl ‹_› | exact .inr rfl | skip)
    | ((conv => enter [3, 20]) <;> apply At.updCore) | split | exact At.ofMkFst ‹_› | exact At.ofMkSnd ‹_›
    | refine At.ofNext (by assumption) ?_ | refine At.ofFst (by assumption) ?_ | refine At.ofSnd (by assumption) ?_
    | refine At.ofOpt (by assumption) ?_ | refine At.ofOptSnd (by assumption) ?_ | refine At.ofOptFst (by assumption) ?_
    | refine At.ofOptSnd2 (by assumption) ?_ | apply At.mapAny | dsimp +zetaDelta only)

theorem State.boot_keeps {P : Part → Prop} {s₀ s : State} (dict_ : P .dict) (mgmt_ : P .mgmt) (stn_ : P .stn) (cold : Bool) (recover :
    Bool) (hs : At (Keeps P s₀) It s) : At (Keeps P s₀) It (State.boot s cold recover) := by
  unfold State.boot
  with_reducible repeat' (first
    | assumption | (intro x; refine At.cut x ?_ ?_; rotate_left; intro _; clear_value x; rotate_left; unfold x) | intro _ | lift_lets
    | apply State.setObj_keeps | apply State.measure_keeps | apply State.setFwSlot_keeps | apply State.fwFallback_keeps
    | apply State.runSlot_keeps | apply State.recovery_keeps | apply At.ite | apply At.next | apply At.some | exact At.none
    | dsimp -zeta only [At.mkFst, At.mkSnd] | apply At.foldl | apply At.getD | apply At.fst | apply At.snd
    | ((conv => enter [3, 20]) <;> apply At.upd <;> first | exact .inl ‹_› | exact .inr rfl | skip)
    | ((conv => enter [3, 20]) <;> apply At.updCore) | split | exact At.ofMkFst ‹_› | exact At.ofMkSnd ‹_›
    | refine At.ofNext (by assumption) ?_ | refine At.ofFst (by assumption) ?_ | refine At.ofSnd (by assumption) ?_
    | refine At.ofOpt (by assumption) ?_ | refine At.ofOptSnd (by assumption) ?_ | refine At.ofOptFst (by assumption) ?_
    | refine At.ofOptSnd2 (by assumption) ?_ | apply At.mapAny | dsimp +zetaDelta only)

theorem State.loseTier_keeps {P : Part → Prop} {s₀ s : State} (dict_ : P .dict) (fb_ : P .fb) (stn_ : P .stn) (ses_ : P .ses) (tier_ : P
    .tier) (srch_ : P .srch) (free_ : P .free) (y1 : Nat) (hs : At (Keeps P s₀) It s) : At (Keeps P s₀) It (State.loseTier s y1) := by
  unfold State.loseTier
  with_reducible repeat' (first
    | assumption | (intro x; refine At.cut x ?_ ?_; rotate_left; intro _; clear_value x; rotate_left; unfold x) | intro _ | lift_lets
    | apply State.loseTile_keeps | apply State.leaveStack_keeps | apply At.ite | apply At.next | apply At.some | exact At.none
    | dsimp -zeta only [At.mkFst, At.mkSnd] | apply At.foldl | apply At.getD | apply At.fst | apply At.snd
    | ((conv => enter [3, 20]) <;> apply At.upd <;> first | exact .inl ‹_› | exact .inr rfl | skip)
    | ((conv => enter [3, 20]) <;> apply At.updCore) | split | exact At.ofMkFst ‹_› | exact At.ofMkSnd ‹_›
    | refine At.ofNext (by assumption) ?_ | refine At.ofFst (by assumption) ?_ | refine At.ofSnd (by assumption) ?_
    | refine At.ofOpt (by assumption) ?_ | refine At.ofOptSnd (by assumption) ?_ | refine At.ofOptFst (by assumption) ?_
    | refine At.ofOptSnd2 (by assumption) ?_ | apply At.mapAny | dsimp +zetaDelta only)

theorem State.slotBack_keeps {P : Part → Prop} {s₀ s : State} (dict_ : P .dict) (o : ObjSpec) (n : Nat) (ok : Nat) (hs : At (Keeps P s₀) It
    s) : At (Keeps P s₀) It (State.slotBack s o n ok) := by
  unfold State.slotBack
  with_reducible repeat' (first
    | assumption | (intro x; refine At.cut x ?_ ?_; rotate_left; intro _; clear_value x; rotate_left; unfold x) | intro _ | lift_lets
    | apply State.setObj_keeps | apply At.ite | apply At.next | apply At.some | exact At.none | dsimp -zeta only [At.mkFst, At.mkSnd]
    | apply At.foldl | apply At.getD | apply At.fst | apply At.snd
    | ((conv => enter [3, 20]) <;> apply At.upd <;> first | exact .inl ‹_› | exact .inr rfl | skip)
    | ((conv => enter [3, 20]) <;> apply At.updCore) | split | exact At.ofMkFst ‹_› | exact At.ofMkSnd ‹_›
    | refine At.ofNext (by assumption) ?_ | refine At.ofFst (by assumption) ?_ | refine At.ofSnd (by assumption) ?_
    | refine At.ofOpt (by assumption) ?_ | refine At.ofOptSnd (by assumption) ?_ | refine At.ofOptFst (by assumption) ?_
    | refine At.ofOptSnd2 (by assumption) ?_ | apply At.mapAny | dsimp +zetaDelta only)

theorem State.traverseBack_keeps {P : Part → Prop} {s₀ s : State} (dict_ : P .dict) (tier_ : P .tier) (trv_ : P .trv) (t : Nat) (hs : At
    (Keeps P s₀) It s) : At (Keeps P s₀) It (State.traverseBack s t) := by
  unfold State.traverseBack
  with_reducible repeat' (first
    | assumption | (intro x; refine At.cut x ?_ ?_; rotate_left; intro _; clear_value x; rotate_left; unfold x) | intro _ | lift_lets
    | apply State.setObj_keeps | apply State.setTrvSlot_keeps | apply State.freeAll_keeps | apply At.ite | apply At.next | apply At.some
    | exact At.none | dsimp -zeta only [At.mkFst, At.mkSnd] | apply At.foldl | apply At.getD | apply At.fst | apply At.snd
    | ((conv => enter [3, 20]) <;> apply At.upd <;> first | exact .inl ‹_› | exact .inr rfl | skip)
    | ((conv => enter [3, 20]) <;> apply At.updCore) | split | exact At.ofMkFst ‹_› | exact At.ofMkSnd ‹_›
    | refine At.ofNext (by assumption) ?_ | refine At.ofFst (by assumption) ?_ | refine At.ofSnd (by assumption) ?_
    | refine At.ofOpt (by assumption) ?_ | refine At.ofOptSnd (by assumption) ?_ | refine At.ofOptFst (by assumption) ?_
    | refine At.ofOptSnd2 (by assumption) ?_ | apply At.mapAny | dsimp +zetaDelta only)

theorem State.modelBack_keeps {P : Part → Prop} {s₀ s : State} (dict_ : P .dict) (tier_ : P .tier) (m : Nat) (hs : At (Keeps P s₀) It s) :
    At (Keeps P s₀) It (State.modelBack s m) := by
  unfold State.modelBack
  with_reducible repeat' (first
    | assumption | (intro x; refine At.cut x ?_ ?_; rotate_left; intro _; clear_value x; rotate_left; unfold x) | intro _ | lift_lets
    | apply State.setObj_keeps | apply State.freeAll_keeps | apply State.setModelSlot_keeps | apply At.ite | apply At.next | apply At.some
    | exact At.none | dsimp -zeta only [At.mkFst, At.mkSnd] | apply At.foldl | apply At.getD | apply At.fst | apply At.snd
    | ((conv => enter [3, 20]) <;> apply At.upd <;> first | exact .inl ‹_› | exact .inr rfl | skip)
    | ((conv => enter [3, 20]) <;> apply At.updCore) | split | exact At.ofMkFst ‹_› | exact At.ofMkSnd ‹_›
    | refine At.ofNext (by assumption) ?_ | refine At.ofFst (by assumption) ?_ | refine At.ofSnd (by assumption) ?_
    | refine At.ofOpt (by assumption) ?_ | refine At.ofOptSnd (by assumption) ?_ | refine At.ofOptFst (by assumption) ?_
    | refine At.ofOptSnd2 (by assumption) ?_ | apply At.mapAny | dsimp +zetaDelta only)

theorem State.indexBack_keeps {P : Part → Prop} {s₀ s : State} (dict_ : P .dict) (srch_ : P .srch) (v : Nat) (hs : At (Keeps P s₀) It s) :
    At (Keeps P s₀) It (State.indexBack s v) := by
  unfold State.indexBack
  with_reducible repeat' (first
    | assumption | (intro x; refine At.cut x ?_ ?_; rotate_left; intro _; clear_value x; rotate_left; unfold x) | intro _ | lift_lets
    | apply State.setObj_keeps | apply At.ite | apply At.next | apply At.some | exact At.none | dsimp -zeta only [At.mkFst, At.mkSnd]
    | apply At.foldl | apply At.getD | apply At.fst | apply At.snd
    | ((conv => enter [3, 20]) <;> apply At.upd <;> first | exact .inl ‹_› | exact .inr rfl | skip)
    | ((conv => enter [3, 20]) <;> apply At.updCore) | split | exact At.ofMkFst ‹_› | exact At.ofMkSnd ‹_›
    | refine At.ofNext (by assumption) ?_ | refine At.ofFst (by assumption) ?_ | refine At.ofSnd (by assumption) ?_
    | refine At.ofOpt (by assumption) ?_ | refine At.ofOptSnd (by assumption) ?_ | refine At.ofOptFst (by assumption) ?_
    | refine At.ofOptSnd2 (by assumption) ?_ | apply At.mapAny | dsimp +zetaDelta only)

theorem State.textBack_keeps {P : Part → Prop} {s₀ s : State} (text_ : P .text) (hs : At (Keeps P s₀) It s) : At (Keeps P s₀) It
    (State.textBack s) := by
  unfold State.textBack
  with_reducible repeat' (first
    | assumption | (intro x; refine At.cut x ?_ ?_; rotate_left; intro _; clear_value x; rotate_left; unfold x) | intro _ | lift_lets
    | apply At.ite | apply At.next | apply At.some | exact At.none | dsimp -zeta only [At.mkFst, At.mkSnd] | apply At.foldl
    | apply At.getD | apply At.fst | apply At.snd
    | ((conv => enter [3, 20]) <;> apply At.upd <;> first | exact .inl ‹_› | exact .inr rfl | skip)
    | ((conv => enter [3, 20]) <;> apply At.updCore) | split | exact At.ofMkFst ‹_› | exact At.ofMkSnd ‹_›
    | refine At.ofNext (by assumption) ?_ | refine At.ofFst (by assumption) ?_ | refine At.ofSnd (by assumption) ?_
    | refine At.ofOpt (by assumption) ?_ | refine At.ofOptSnd (by assumption) ?_ | refine At.ofOptFst (by assumption) ?_
    | refine At.ofOptSnd2 (by assumption) ?_ | apply At.mapAny | dsimp +zetaDelta only)

theorem State.slotsBack_keeps {P : Part → Prop} {s₀ s : State} (dict_ : P .dict) (tier_ : P .tier) (trv_ : P .trv) (text_ : P .text) (srch_
    : P .srch) (hs : At (Keeps P s₀) It s) : At (Keeps P s₀) It (State.slotsBack s) := by
  unfold State.slotsBack
  with_reducible repeat' (first
    | assumption | (intro x; refine At.cut x ?_ ?_; rotate_left; intro _; clear_value x; rotate_left; unfold x) | intro _ | lift_lets
    | apply State.forN_keeps | apply State.slotBack_keeps | apply State.traverseBack_keeps | apply State.modelBack_keeps
    | apply State.indexBack_keeps | apply State.textBack_keeps | apply At.ite | apply At.next | apply At.some | exact At.none
    | dsimp -zeta only [At.mkFst, At.mkSnd] | apply At.foldl | apply At.getD | apply At.fst | apply At.snd
    | ((conv => enter [3, 20]) <;> apply At.upd <;> first | exact .inl ‹_› | exact .inr rfl | skip)
    | ((conv => enter [3, 20]) <;> apply At.updCore) | split | exact At.ofMkFst ‹_› | exact At.ofMkSnd ‹_›
    | refine At.ofNext (by assumption) ?_ | refine At.ofFst (by assumption) ?_ | refine At.ofSnd (by assumption) ?_
    | refine At.ofOpt (by assumption) ?_ | refine At.ofOptSnd (by assumption) ?_ | refine At.ofOptFst (by assumption) ?_
    | refine At.ofOptSnd2 (by assumption) ?_ | apply At.mapAny | dsimp +zetaDelta only)

theorem State.restoreModels_keeps {P : Part → Prop} {s₀ s : State} (dict_ : P .dict) (ses_ : P .ses) (tier_ : P .tier) (free_ : P .free)
    (hs : At (Keeps P s₀) It s) : At (Keeps P s₀) It (State.restoreModels s) := by
  unfold State.restoreModels
  with_reducible repeat' (first
    | assumption | (intro x; refine At.cut x ?_ ?_; rotate_left; intro _; clear_value x; rotate_left; unfold x) | intro _ | lift_lets
    | apply State.setObj_keeps | apply State.forN_keeps | apply State.allocT1_keeps | apply State.setModelSlot_keeps | apply At.ite
    | apply At.next | apply At.some | exact At.none | dsimp -zeta only [At.mkFst, At.mkSnd] | apply At.foldl | apply At.getD
    | apply At.fst | apply At.snd | ((conv => enter [3, 20]) <;> apply At.upd <;> first | exact .inl ‹_› | exact .inr rfl | skip)
    | ((conv => enter [3, 20]) <;> apply At.updCore) | split | exact At.ofMkFst ‹_› | exact At.ofMkSnd ‹_›
    | refine At.ofNext (by assumption) ?_ | refine At.ofFst (by assumption) ?_ | refine At.ofSnd (by assumption) ?_
    | refine At.ofOpt (by assumption) ?_ | refine At.ofOptSnd (by assumption) ?_ | refine At.ofOptFst (by assumption) ?_
    | refine At.ofOptSnd2 (by assumption) ?_ | apply At.mapAny | dsimp +zetaDelta only)

theorem State.sessionsBack_keeps {P : Part → Prop} {s₀ s : State} (dict_ : P .dict) (fb_ : P .fb) (ses_ : P .ses) (tier_ : P .tier) (srch_
    : P .srch) (free_ : P .free) (hs : At (Keeps P s₀) It s) : At (Keeps P s₀) It (State.sessionsBack s) := by
  unfold State.sessionsBack
  with_reducible repeat' (first
    | assumption | (intro x; refine At.cut x ?_ ?_; rotate_left; intro _; clear_value x; rotate_left; unfold x) | intro _ | lift_lets
    | apply State.setSess_keeps | apply State.residency_keeps | apply State.startRevive_keeps | apply State.startPark_keeps
    | apply State.eachSess_keeps | apply At.ite | apply At.next | apply At.some | exact At.none | dsimp -zeta only [At.mkFst, At.mkSnd]
    | apply At.foldl | apply At.getD | apply At.fst | apply At.snd
    | ((conv => enter [3, 20]) <;> apply At.upd <;> first | exact .inl ‹_› | exact .inr rfl | skip)
    | ((conv => enter [3, 20]) <;> apply At.updCore) | split | exact At.ofMkFst ‹_› | exact At.ofMkSnd ‹_›
    | refine At.ofNext (by assumption) ?_ | refine At.ofFst (by assumption) ?_ | refine At.ofSnd (by assumption) ?_
    | refine At.ofOpt (by assumption) ?_ | refine At.ofOptSnd (by assumption) ?_ | refine At.ofOptFst (by assumption) ?_
    | refine At.ofOptSnd2 (by assumption) ?_ | apply At.mapAny | dsimp +zetaDelta only)

theorem State.windowsBack_keeps {P : Part → Prop} {s₀ s : State} (fb_ : P .fb) (hs : At (Keeps P s₀) It s) : At (Keeps P s₀) It
    (State.windowsBack s) := by
  unfold State.windowsBack
  with_reducible repeat' (first
    | assumption | (intro x; refine At.cut x ?_ ?_; rotate_left; intro _; clear_value x; rotate_left; unfold x) | intro _ | lift_lets
    | apply At.ite | apply At.next | apply At.some | exact At.none | dsimp -zeta only [At.mkFst, At.mkSnd] | apply At.foldl
    | apply At.getD | apply At.fst | apply At.snd
    | ((conv => enter [3, 20]) <;> apply At.upd <;> first | exact .inl ‹_› | exact .inr rfl | skip)
    | ((conv => enter [3, 20]) <;> apply At.updCore) | split | exact At.ofMkFst ‹_› | exact At.ofMkSnd ‹_›
    | refine At.ofNext (by assumption) ?_ | refine At.ofFst (by assumption) ?_ | refine At.ofSnd (by assumption) ?_
    | refine At.ofOpt (by assumption) ?_ | refine At.ofOptSnd (by assumption) ?_ | refine At.ofOptFst (by assumption) ?_
    | refine At.ofOptSnd2 (by assumption) ?_ | apply At.mapAny | dsimp +zetaDelta only)

theorem State.syncBack_keeps {P : Part → Prop} {s₀ s : State} (sync_ : P .sync) (hs : At (Keeps P s₀) It s) : At (Keeps P s₀) It
    (State.syncBack s) := by
  unfold State.syncBack
  with_reducible repeat' (first
    | assumption | (intro x; refine At.cut x ?_ ?_; rotate_left; intro _; clear_value x; rotate_left; unfold x) | intro _ | lift_lets
    | apply At.ite | apply At.next | apply At.some | exact At.none | dsimp -zeta only [At.mkFst, At.mkSnd] | apply At.foldl
    | apply At.getD | apply At.fst | apply At.snd
    | ((conv => enter [3, 20]) <;> apply At.upd <;> first | exact .inl ‹_› | exact .inr rfl | skip)
    | ((conv => enter [3, 20]) <;> apply At.updCore) | split | exact At.ofMkFst ‹_› | exact At.ofMkSnd ‹_›
    | refine At.ofNext (by assumption) ?_ | refine At.ofFst (by assumption) ?_ | refine At.ofSnd (by assumption) ?_
    | refine At.ofOpt (by assumption) ?_ | refine At.ofOptSnd (by assumption) ?_ | refine At.ofOptFst (by assumption) ?_
    | refine At.ofOptSnd2 (by assumption) ?_ | apply At.mapAny | dsimp +zetaDelta only)

theorem State.framesBack_keeps {P : Part → Prop} {s₀ s : State} (frame_ : P .frame) (frameStart_ : P .frameStart) (trv_ : P .trv) (keepLog
    : Bool) (hs : At (Keeps P s₀) It s) : At (Keeps P s₀) It (State.framesBack s keepLog) := by
  unfold State.framesBack
  with_reducible repeat' (first
    | assumption | (intro x; refine At.cut x ?_ ?_; rotate_left; intro _; clear_value x; rotate_left; unfold x) | intro _ | lift_lets
    | apply At.ite | apply At.next | apply At.some | exact At.none | dsimp -zeta only [At.mkFst, At.mkSnd] | apply At.foldl
    | apply At.getD | apply At.fst | apply At.snd
    | ((conv => enter [3, 20]) <;> apply At.upd <;> first | exact .inl ‹_› | exact .inr rfl | skip)
    | ((conv => enter [3, 20]) <;> apply At.updCore) | split | exact At.ofMkFst ‹_› | exact At.ofMkSnd ‹_›
    | refine At.ofNext (by assumption) ?_ | refine At.ofFst (by assumption) ?_ | refine At.ofSnd (by assumption) ?_
    | refine At.ofOpt (by assumption) ?_ | refine At.ofOptSnd (by assumption) ?_ | refine At.ofOptFst (by assumption) ?_
    | refine At.ofOptSnd2 (by assumption) ?_ | apply At.mapAny | dsimp +zetaDelta only)

theorem State.restartKeep_keeps {P : Part → Prop} {s₀ s : State} (frame_ : P .frame) (frameStart_ : P .frameStart) (dict_ : P .dict) (mgmt_
    : P .mgmt) (fb_ : P .fb) (stn_ : P .stn) (ses_ : P .ses) (tier_ : P .tier) (shape_ : P .shape) (trv_ : P .trv) (core_ : P .core) (text_
    : P .text) (srch_ : P .srch) (sync_ : P .sync) (ck_ : P .ck) (fab_ : P .fab) (pwr_ : P .pwr) (free_ : P .free) (kind : Nat) (hs : At
    (Keeps P s₀) It s) : At (Keeps P s₀) It (State.restartKeep s kind) := by
  unfold State.restartKeep
  with_reducible repeat' (first
    | assumption | (intro x; refine At.cut x ?_ ?_; rotate_left; intro _; clear_value x; rotate_left; unfold x) | intro _ | lift_lets
    | apply State.setObj_keeps | apply State.setCam_keeps | apply State.setEng_keeps | apply State.withdraw_keeps
    | apply State.ckAbort_keeps | apply State.rollForward_keeps | apply State.resetObjects_keeps | apply State.loseTier_keeps
    | apply State.slotsBack_keeps | apply State.sessionsBack_keeps | apply State.windowsBack_keeps | apply State.syncBack_keeps
    | apply State.framesBack_keeps | exact wf_nil | apply Core.settle_store | apply Core.write_store | apply wf_foldl_bputs
    | apply Core.result_store | apply Core.flags_store | apply Core.moved_store | apply Core.lanewise_store | exact coreInit_store
    | apply id_store | apply State.coreAt_store | apply State.clusterStore_wf | apply wf_bputs | apply wf_filter | apply wf_storeTile
    | apply State.issued_store | apply State.cameTo_stores | exact stores_same ‹_› | exact stores_nil | exact stores_filter ‹_›
    | apply At.ite | apply At.next | apply At.some | exact At.none | dsimp -zeta only [At.mkFst, At.mkSnd] | apply At.foldl
    | apply At.getD | apply At.fst | apply At.snd
    | ((conv => enter [3, 20]) <;> apply At.upd <;> first | exact .inl ‹_› | exact .inr rfl | skip)
    | ((conv => enter [3, 20]) <;> apply At.updCore) | split | exact At.ofMkFst ‹_› | exact At.ofMkSnd ‹_›
    | refine At.ofNext (by assumption) ?_ | refine At.ofFst (by assumption) ?_ | refine At.ofSnd (by assumption) ?_
    | refine At.ofOpt (by assumption) ?_ | refine At.ofOptSnd (by assumption) ?_ | refine At.ofOptFst (by assumption) ?_
    | refine At.ofOptSnd2 (by assumption) ?_ | apply At.mapAny | dsimp +zetaDelta only)

theorem State.restartWarm_keeps {P : Part → Prop} {s₀ s : State} (frame_ : P .frame) (frameStart_ : P .frameStart) (dict_ : P .dict) (mgmt_
    : P .mgmt) (fb_ : P .fb) (stn_ : P .stn) (ses_ : P .ses) (tier_ : P .tier) (shape_ : P .shape) (trv_ : P .trv) (core_ : P .core) (text_
    : P .text) (srch_ : P .srch) (sync_ : P .sync) (ck_ : P .ck) (fab_ : P .fab) (pwr_ : P .pwr) (free_ : P .free) (hs : At (Keeps P s₀) It
    s) : At (Keeps P s₀) It (State.restartWarm s) := by
  unfold State.restartWarm
  with_reducible repeat' (first
    | assumption | (intro x; refine At.cut x ?_ ?_; rotate_left; intro _; clear_value x; rotate_left; unfold x) | intro _ | lift_lets
    | apply State.boot_keeps | apply State.restartKeep_keeps | apply At.ite | apply At.next | apply At.some | exact At.none
    | dsimp -zeta only [At.mkFst, At.mkSnd] | apply At.foldl | apply At.getD | apply At.fst | apply At.snd
    | ((conv => enter [3, 20]) <;> apply At.upd <;> first | exact .inl ‹_› | exact .inr rfl | skip)
    | ((conv => enter [3, 20]) <;> apply At.updCore) | split | exact At.ofMkFst ‹_› | exact At.ofMkSnd ‹_›
    | refine At.ofNext (by assumption) ?_ | refine At.ofFst (by assumption) ?_ | refine At.ofSnd (by assumption) ?_
    | refine At.ofOpt (by assumption) ?_ | refine At.ofOptSnd (by assumption) ?_ | refine At.ofOptFst (by assumption) ?_
    | refine At.ofOptSnd2 (by assumption) ?_ | apply At.mapAny | dsimp +zetaDelta only)

theorem State.restartPowerOn_keeps {P : Part → Prop} {s₀ s : State} (tick_ : P .tick) (frame_ : P .frame) (frameStart_ : P .frameStart)
    (dict_ : P .dict) (mgmt_ : P .mgmt) (fb_ : P .fb) (stn_ : P .stn) (ses_ : P .ses) (tier_ : P .tier) (shape_ : P .shape) (trv_ : P .trv)
    (core_ : P .core) (text_ : P .text) (srch_ : P .srch) (sync_ : P .sync) (ck_ : P .ck) (fab_ : P .fab) (pwr_ : P .pwr) (free_ : P .free)
    (hs : At (Keeps P s₀) It s) : At (Keeps P s₀) It (State.restartPowerOn s) := by
  have hall : ∀ p, P p := by intro p; cases p <;> assumption
  have base : ∀ t : State, t.pending = s.pending → t.core = State.reset.core → At (Keeps P s₀) It t := fun t h1 h2 =>
    ⟨h1.trans hs.1, fun _ => by unfold State.stores; rw [h2]; exact reset_stores, fun p hp => absurd (hall p) hp⟩
  unfold State.restartPowerOn
  exact State.setObj_keeps dict_ _ _ _ (State.setObj_keeps dict_ _ _ _ (State.setObj_keeps dict_ _ _ _ (State.recompileStops_keeps dict_ ses_ tier_ text_ free_ (State.setObj_keeps dict_ _ _ _
    (At.upd (u := State.resetObjects _ _) (State.resetObjects_keeps dict_ _ (base _ rfl rfl)) (.inl tick_) (.inl frame_) (.inl frameStart_) (.inl dict_)
      (.inl mgmt_) (.inl fb_) (.inl stn_) (.inl ses_) (.inl tier_) (.inl shape_) (.inl trv_) (.inl text_) (.inl srch_) (.inl sync_) (.inl ck_)
      (.inl fab_) (.inl pwr_) (.inl free_))))))

theorem State.clearHalfCounters_keeps {P : Part → Prop} {s₀ s : State} (dict_ : P .dict) (h : Nat) (hs : At (Keeps P s₀) It s) : At (Keeps
    P s₀) It (State.clearHalfCounters s h) := by
  unfold State.clearHalfCounters
  with_reducible repeat' (first
    | assumption | (intro x; refine At.cut x ?_ ?_; rotate_left; intro _; clear_value x; rotate_left; unfold x) | intro _ | lift_lets
    | apply State.setObj_keeps | apply At.ite | apply At.next | apply At.some | exact At.none | dsimp -zeta only [At.mkFst, At.mkSnd]
    | apply At.foldl | apply At.getD | apply At.fst | apply At.snd
    | ((conv => enter [3, 20]) <;> apply At.upd <;> first | exact .inl ‹_› | exact .inr rfl | skip)
    | ((conv => enter [3, 20]) <;> apply At.updCore) | split | exact At.ofMkFst ‹_› | exact At.ofMkSnd ‹_›
    | refine At.ofNext (by assumption) ?_ | refine At.ofFst (by assumption) ?_ | refine At.ofSnd (by assumption) ?_
    | refine At.ofOpt (by assumption) ?_ | refine At.ofOptSnd (by assumption) ?_ | refine At.ofOptFst (by assumption) ?_
    | refine At.ofOptSnd2 (by assumption) ?_ | apply At.mapAny | dsimp +zetaDelta only)

theorem State.halfTiles_keeps {P : Part → Prop} {s₀ s : State} (dict_ : P .dict) (fb_ : P .fb) (stn_ : P .stn) (ses_ : P .ses) (tier_ : P
    .tier) (srch_ : P .srch) (free_ : P .free) (h : Nat) (hs : At (Keeps P s₀) It s) : At (Keeps P s₀) It (State.halfTiles s h) := by
  unfold State.halfTiles
  with_reducible repeat' (first
    | assumption | (intro x; refine At.cut x ?_ ?_; rotate_left; intro _; clear_value x; rotate_left; unfold x) | intro _ | lift_lets
    | apply State.loseTile_keeps | apply At.ite | apply At.next | apply At.some | exact At.none | dsimp -zeta only [At.mkFst, At.mkSnd]
    | apply At.foldl | apply At.getD | apply At.fst | apply At.snd
    | ((conv => enter [3, 20]) <;> apply At.upd <;> first | exact .inl ‹_› | exact .inr rfl | skip)
    | ((conv => enter [3, 20]) <;> apply At.updCore) | split | exact At.ofMkFst ‹_› | exact At.ofMkSnd ‹_›
    | refine At.ofNext (by assumption) ?_ | refine At.ofFst (by assumption) ?_ | refine At.ofSnd (by assumption) ?_
    | refine At.ofOpt (by assumption) ?_ | refine At.ofOptSnd (by assumption) ?_ | refine At.ofOptFst (by assumption) ?_
    | refine At.ofOptSnd2 (by assumption) ?_ | apply At.mapAny | dsimp +zetaDelta only)

theorem State.recountFences_keeps {P : Part → Prop} {s₀ s : State} (dict_ : P .dict) (hs : At (Keeps P s₀) It s) : At (Keeps P s₀) It
    (State.recountFences s) := by
  unfold State.recountFences
  with_reducible repeat' (first
    | assumption | (intro x; refine At.cut x ?_ ?_; rotate_left; intro _; clear_value x; rotate_left; unfold x) | intro _ | lift_lets
    | apply State.setObj_keeps | apply At.ite | apply At.next | apply At.some | exact At.none | dsimp -zeta only [At.mkFst, At.mkSnd]
    | apply At.foldl | apply At.getD | apply At.fst | apply At.snd
    | ((conv => enter [3, 20]) <;> apply At.upd <;> first | exact .inl ‹_› | exact .inr rfl | skip)
    | ((conv => enter [3, 20]) <;> apply At.updCore) | split | exact At.ofMkFst ‹_› | exact At.ofMkSnd ‹_›
    | refine At.ofNext (by assumption) ?_ | refine At.ofFst (by assumption) ?_ | refine At.ofSnd (by assumption) ?_
    | refine At.ofOpt (by assumption) ?_ | refine At.ofOptSnd (by assumption) ?_ | refine At.ofOptFst (by assumption) ?_
    | refine At.ofOptSnd2 (by assumption) ?_ | apply At.mapAny | dsimp +zetaDelta only)

theorem State.halfForgets_keeps {P : Part → Prop} {s₀ s : State} (dict_ : P .dict) (mgmt_ : P .mgmt) (fb_ : P .fb) (stn_ : P .stn) (ses_ :
    P .ses) (tier_ : P .tier) (srch_ : P .srch) (free_ : P .free) (h : Nat) (hs : At (Keeps P s₀) It s) : At (Keeps P s₀) It
    (State.halfForgets s h) := by
  unfold State.halfForgets
  with_reducible repeat' (first
    | assumption | (intro x; refine At.cut x ?_ ?_; rotate_left; intro _; clear_value x; rotate_left; unfold x) | intro _ | lift_lets
    | apply State.setObj_keeps | apply State.tileEvent_keeps | apply State.setBook_keeps | apply State.forN_keeps
    | apply State.forgetOwed_keeps | apply State.setEng_keeps | apply State.setHash_keeps | apply State.vxLose_keeps
    | apply State.setModelSlot_keeps | apply State.halfTiles_keeps | apply At.ite | apply At.next | apply At.some | exact At.none
    | dsimp -zeta only [At.mkFst, At.mkSnd] | apply At.foldl | apply At.getD | apply At.fst | apply At.snd
    | ((conv => enter [3, 20]) <;> apply At.upd <;> first | exact .inl ‹_› | exact .inr rfl | skip)
    | ((conv => enter [3, 20]) <;> apply At.updCore) | split | exact At.ofMkFst ‹_› | exact At.ofMkSnd ‹_›
    | refine At.ofNext (by assumption) ?_ | refine At.ofFst (by assumption) ?_ | refine At.ofSnd (by assumption) ?_
    | refine At.ofOpt (by assumption) ?_ | refine At.ofOptSnd (by assumption) ?_ | refine At.ofOptFst (by assumption) ?_
    | refine At.ofOptSnd2 (by assumption) ?_ | apply At.mapAny | dsimp +zetaDelta only)

theorem State.halfParts_keeps {P : Part → Prop} {s₀ s : State} (dict_ : P .dict) (fb_ : P .fb) (srch_ : P .srch) (h : Nat) (hs : At (Keeps
    P s₀) It s) : At (Keeps P s₀) It (State.halfParts s h) := by
  unfold State.halfParts
  with_reducible repeat' (first
    | assumption | (intro x; refine At.cut x ?_ ?_; rotate_left; intro _; clear_value x; rotate_left; unfold x) | intro _ | lift_lets
    | apply State.setObjAt_keeps | apply State.setErr_keeps | apply State.forN_keeps | apply State.setCam_keeps
    | apply State.setChannel_keeps | apply State.clearHalfCounters_keeps | apply At.ite | apply At.next | apply At.some | exact At.none
    | dsimp -zeta only [At.mkFst, At.mkSnd] | apply At.foldl | apply At.getD | apply At.fst | apply At.snd
    | ((conv => enter [3, 20]) <;> apply At.upd <;> first | exact .inl ‹_› | exact .inr rfl | skip)
    | ((conv => enter [3, 20]) <;> apply At.updCore) | split | exact At.ofMkFst ‹_› | exact At.ofMkSnd ‹_›
    | refine At.ofNext (by assumption) ?_ | refine At.ofFst (by assumption) ?_ | refine At.ofSnd (by assumption) ?_
    | refine At.ofOpt (by assumption) ?_ | refine At.ofOptSnd (by assumption) ?_ | refine At.ofOptFst (by assumption) ?_
    | refine At.ofOptSnd2 (by assumption) ?_ | apply At.mapAny | dsimp +zetaDelta only)

theorem State.halfClusters_keeps {P : Part → Prop} {s₀ s : State} (fb_ : P .fb) (trv_ : P .trv) (core_ : P .core) (text_ : P .text) (sync_
    : P .sync) (pwr_ : P .pwr) (h : Nat) (hs : At (Keeps P s₀) It s) : At (Keeps P s₀) It (State.halfClusters s h) := by
  unfold State.halfClusters
  with_reducible repeat' (first
    | assumption | (intro x; refine At.cut x ?_ ?_; rotate_left; intro _; clear_value x; rotate_left; unfold x) | intro _ | lift_lets
    | exact wf_nil | apply Core.settle_store | apply Core.write_store | apply wf_foldl_bputs | apply Core.result_store
    | apply Core.flags_store | apply Core.moved_store | apply Core.lanewise_store | exact coreInit_store | apply id_store
    | apply State.coreAt_store | apply State.clusterStore_wf | apply wf_bputs | apply wf_filter | apply wf_storeTile
    | apply State.issued_store | apply State.cameTo_stores | exact stores_same ‹_› | exact stores_nil | exact stores_filter ‹_›
    | apply At.ite | apply At.next | apply At.some | exact At.none | dsimp -zeta only [At.mkFst, At.mkSnd] | apply At.foldl
    | apply At.getD | apply At.fst | apply At.snd
    | ((conv => enter [3, 20]) <;> apply At.upd <;> first | exact .inl ‹_› | exact .inr rfl | skip)
    | ((conv => enter [3, 20]) <;> apply At.updCore) | split | exact At.ofMkFst ‹_› | exact At.ofMkSnd ‹_›
    | refine At.ofNext (by assumption) ?_ | refine At.ofFst (by assumption) ?_ | refine At.ofSnd (by assumption) ?_
    | refine At.ofOpt (by assumption) ?_ | refine At.ofOptSnd (by assumption) ?_ | refine At.ofOptFst (by assumption) ?_
    | refine At.ofOptSnd2 (by assumption) ?_ | apply At.mapAny | dsimp +zetaDelta only)

theorem State.halfFences_keeps {P : Part → Prop} {s₀ s : State} (dict_ : P .dict) (sync_ : P .sync) (h : Nat) (hs : At (Keeps P s₀) It s) :
    At (Keeps P s₀) It (State.halfFences s h) := by
  unfold State.halfFences
  with_reducible repeat' (first
    | assumption | (intro x; refine At.cut x ?_ ?_; rotate_left; intro _; clear_value x; rotate_left; unfold x) | intro _ | lift_lets
    | apply State.setObj_keeps | apply State.setStr_keeps | apply State.setSync_keeps | apply State.recountFences_keeps | apply At.ite
    | apply At.next | apply At.some | exact At.none | dsimp -zeta only [At.mkFst, At.mkSnd] | apply At.foldl | apply At.getD
    | apply At.fst | apply At.snd | ((conv => enter [3, 20]) <;> apply At.upd <;> first | exact .inl ‹_› | exact .inr rfl | skip)
    | ((conv => enter [3, 20]) <;> apply At.updCore) | split | exact At.ofMkFst ‹_› | exact At.ofMkSnd ‹_›
    | refine At.ofNext (by assumption) ?_ | refine At.ofFst (by assumption) ?_ | refine At.ofSnd (by assumption) ?_
    | refine At.ofOpt (by assumption) ?_ | refine At.ofOptSnd (by assumption) ?_ | refine At.ofOptFst (by assumption) ?_
    | refine At.ofOptSnd2 (by assumption) ?_ | apply At.mapAny | dsimp +zetaDelta only)

theorem State.managementAgain_keeps {P : Part → Prop} {s₀ s : State} (dict_ : P .dict) (mgmt_ : P .mgmt) (fb_ : P .fb) (stn_ : P .stn)
    (ses_ : P .ses) (tier_ : P .tier) (text_ : P .text) (srch_ : P .srch) (free_ : P .free) (hs : At (Keeps P s₀) It s) : At (Keeps P s₀)
    It (State.managementAgain s) := by
  unfold State.managementAgain
  with_reducible repeat' (first
    | assumption | (intro x; refine At.cut x ?_ ?_; rotate_left; intro _; clear_value x; rotate_left; unfold x) | intro _ | lift_lets
    | apply State.putKey_keeps | apply State.recompileStops_keeps | apply State.loseTier_keeps | apply At.ite | apply At.next
    | apply At.some | exact At.none | dsimp -zeta only [At.mkFst, At.mkSnd] | apply At.foldl | apply At.getD | apply At.fst | apply At.snd
    | ((conv => enter [3, 20]) <;> apply At.upd <;> first | exact .inl ‹_› | exact .inr rfl | skip)
    | ((conv => enter [3, 20]) <;> apply At.updCore) | split | exact At.ofMkFst ‹_› | exact At.ofMkSnd ‹_›
    | refine At.ofNext (by assumption) ?_ | refine At.ofFst (by assumption) ?_ | refine At.ofSnd (by assumption) ?_
    | refine At.ofOpt (by assumption) ?_ | refine At.ofOptSnd (by assumption) ?_ | refine At.ofOptFst (by assumption) ?_
    | refine At.ofOptSnd2 (by assumption) ?_ | apply At.mapAny | dsimp +zetaDelta only)

theorem State.restartHalf_keeps {P : Part → Prop} {s₀ s : State} (dict_ : P .dict) (mgmt_ : P .mgmt) (fb_ : P .fb) (stn_ : P .stn) (ses_ :
    P .ses) (tier_ : P .tier) (trv_ : P .trv) (core_ : P .core) (text_ : P .text) (srch_ : P .srch) (sync_ : P .sync) (pwr_ : P .pwr)
    (free_ : P .free) (h : Nat) (hs : At (Keeps P s₀) It s) : At (Keeps P s₀) It (State.restartHalf s h) := by
  unfold State.restartHalf
  with_reducible repeat' (first
    | assumption | (intro x; refine At.cut x ?_ ?_; rotate_left; intro _; clear_value x; rotate_left; unfold x) | intro _ | lift_lets
    | apply State.setStation_keeps | apply State.setStationState_keeps | apply State.dropIntake_keeps | apply State.boot_keeps
    | apply State.halfForgets_keeps | apply State.halfParts_keeps | apply State.halfClusters_keeps | apply State.halfFences_keeps
    | apply State.managementAgain_keeps | apply At.ite | apply At.next | apply At.some | exact At.none
    | dsimp -zeta only [At.mkFst, At.mkSnd] | apply At.foldl | apply At.getD | apply At.fst | apply At.snd
    | ((conv => enter [3, 20]) <;> apply At.upd <;> first | exact .inl ‹_› | exact .inr rfl | skip)
    | ((conv => enter [3, 20]) <;> apply At.updCore) | split | exact At.ofMkFst ‹_› | exact At.ofMkSnd ‹_›
    | refine At.ofNext (by assumption) ?_ | refine At.ofFst (by assumption) ?_ | refine At.ofSnd (by assumption) ?_
    | refine At.ofOpt (by assumption) ?_ | refine At.ofOptSnd (by assumption) ?_ | refine At.ofOptFst (by assumption) ?_
    | refine At.ofOptSnd2 (by assumption) ?_ | apply At.mapAny | dsimp +zetaDelta only)

theorem State.mirrorBack_keeps {P : Part → Prop} {s₀ s : State} (dict_ : P .dict) (mgmt_ : P .mgmt) (stn_ : P .stn) (hs : At (Keeps P s₀)
    It s) : At (Keeps P s₀) It (State.mirrorBack s) := by
  unfold State.mirrorBack
  with_reducible repeat' (first
    | assumption | (intro x; refine At.cut x ?_ ?_; rotate_left; intro _; clear_value x; rotate_left; unfold x) | intro _ | lift_lets
    | apply State.tileEvent_keeps | apply At.ite | apply At.next | apply At.some | exact At.none | dsimp -zeta only [At.mkFst, At.mkSnd]
    | apply At.foldl | apply At.getD | apply At.fst | apply At.snd
    | ((conv => enter [3, 20]) <;> apply At.upd <;> first | exact .inl ‹_› | exact .inr rfl | skip)
    | ((conv => enter [3, 20]) <;> apply At.updCore) | split | exact At.ofMkFst ‹_› | exact At.ofMkSnd ‹_›
    | refine At.ofNext (by assumption) ?_ | refine At.ofFst (by assumption) ?_ | refine At.ofSnd (by assumption) ?_
    | refine At.ofOpt (by assumption) ?_ | refine At.ofOptSnd (by assumption) ?_ | refine At.ofOptFst (by assumption) ?_
    | refine At.ofOptSnd2 (by assumption) ?_ | apply At.mapAny | dsimp +zetaDelta only)

theorem State.copiesDone_keeps {P : Part → Prop} {s₀ s : State} (dict_ : P .dict) (mgmt_ : P .mgmt) (fb_ : P .fb) (stn_ : P .stn) (ses_ : P
    .ses) (tier_ : P .tier) (pwr_ : P .pwr) (free_ : P .free) (hs : At (Keeps P s₀) It s) : At (Keeps P s₀) It (State.copiesDone s) := by
  unfold State.copiesDone
  with_reducible repeat' (first
    | assumption | (intro x; refine At.cut x ?_ ?_; rotate_left; intro _; clear_value x; rotate_left; unfold x) | intro _ | lift_lets
    | apply State.setBook_keeps | apply State.setPwr_keeps | apply State.restoreModels_keeps | apply State.mirrorBack_keeps | apply At.ite
    | apply At.next | apply At.some | exact At.none | dsimp -zeta only [At.mkFst, At.mkSnd] | apply At.foldl | apply At.getD
    | apply At.fst | apply At.snd | ((conv => enter [3, 20]) <;> apply At.upd <;> first | exact .inl ‹_› | exact .inr rfl | skip)
    | ((conv => enter [3, 20]) <;> apply At.updCore) | split | exact At.ofMkFst ‹_› | exact At.ofMkSnd ‹_›
    | refine At.ofNext (by assumption) ?_ | refine At.ofFst (by assumption) ?_ | refine At.ofSnd (by assumption) ?_
    | refine At.ofOpt (by assumption) ?_ | refine At.ofOptSnd (by assumption) ?_ | refine At.ofOptFst (by assumption) ?_
    | refine At.ofOptSnd2 (by assumption) ?_ | apply At.mapAny | dsimp +zetaDelta only)

/-! ### Machine/Recovery.lean -/

theorem State.fenceHalf_keeps {P : Part → Prop} {s₀ s : State} (dict_ : P .dict) (fb_ : P .fb) (stn_ : P .stn) (core_ : P .core) (sync_ : P
    .sync) (pwr_ : P .pwr) (h : Nat) (hs : At (Keeps P s₀) It s) : At (Keeps P s₀) It (State.fenceHalf s h) := by
  unfold State.fenceHalf
  with_reducible repeat' (first
    | assumption | (intro x; refine At.cut x ?_ ?_; rotate_left; intro _; clear_value x; rotate_left; unfold x) | intro _ | lift_lets
    | apply State.setStr_keeps | apply State.rehome_keeps | apply State.recountFences_keeps | exact wf_nil | apply Core.settle_store
    | apply Core.write_store | apply wf_foldl_bputs | apply Core.result_store | apply Core.flags_store | apply Core.moved_store
    | apply Core.lanewise_store | exact coreInit_store | apply id_store | apply State.coreAt_store | apply State.clusterStore_wf
    | apply wf_bputs | apply wf_filter | apply wf_storeTile | apply State.issued_store | apply State.cameTo_stores | exact stores_same ‹_›
    | exact stores_nil | exact stores_filter ‹_› | apply At.ite | apply At.next | apply At.some | exact At.none
    | dsimp -zeta only [At.mkFst, At.mkSnd] | apply At.foldl | apply At.getD | apply At.fst | apply At.snd
    | ((conv => enter [3, 20]) <;> apply At.upd <;> first | exact .inl ‹_› | exact .inr rfl | skip)
    | ((conv => enter [3, 20]) <;> apply At.updCore) | split | exact At.ofMkFst ‹_› | exact At.ofMkSnd ‹_›
    | refine At.ofNext (by assumption) ?_ | refine At.ofFst (by assumption) ?_ | refine At.ofSnd (by assumption) ?_
    | refine At.ofOpt (by assumption) ?_ | refine At.ofOptSnd (by assumption) ?_ | refine At.ofOptFst (by assumption) ?_
    | refine At.ofOptSnd2 (by assumption) ?_ | apply At.mapAny | dsimp +zetaDelta only)

theorem State.cutHalf_keeps {P : Part → Prop} {s₀ s : State} (dict_ : P .dict) (mgmt_ : P .mgmt) (fb_ : P .fb) (stn_ : P .stn) (ses_ : P
    .ses) (tier_ : P .tier) (shape_ : P .shape) (trv_ : P .trv) (srch_ : P .srch) (ck_ : P .ck) (fab_ : P .fab) (pwr_ : P .pwr) (free_ : P
    .free) (h : Nat) (hs : At (Keeps P s₀) It s) : At (Keeps P s₀) It (State.cutHalf s h) := by
  unfold State.cutHalf
  with_reducible repeat' (first
    | assumption | (intro x; refine At.cut x ?_ ?_; rotate_left; intro _; clear_value x; rotate_left; unfold x) | intro _ | lift_lets
    | apply State.setObjAt_keeps | apply State.forN_keeps | apply State.ucieDown_keeps | apply State.portDown_keeps | apply At.ite
    | apply At.next | apply At.some | exact At.none | dsimp -zeta only [At.mkFst, At.mkSnd] | apply At.foldl | apply At.getD
    | apply At.fst | apply At.snd | ((conv => enter [3, 20]) <;> apply At.upd <;> first | exact .inl ‹_› | exact .inr rfl | skip)
    | ((conv => enter [3, 20]) <;> apply At.updCore) | split | exact At.ofMkFst ‹_› | exact At.ofMkSnd ‹_›
    | refine At.ofNext (by assumption) ?_ | refine At.ofFst (by assumption) ?_ | refine At.ofSnd (by assumption) ?_
    | refine At.ofOpt (by assumption) ?_ | refine At.ofOptSnd (by assumption) ?_ | refine At.ofOptFst (by assumption) ?_
    | refine At.ofOptSnd2 (by assumption) ?_ | apply At.mapAny | dsimp +zetaDelta only)

theorem State.dropHalfTiles_keeps {P : Part → Prop} {s₀ s : State} (tier_ : P .tier) (h : Nat) (hs : At (Keeps P s₀) It s) : At (Keeps P
    s₀) It (State.dropHalfTiles s h) := by
  unfold State.dropHalfTiles
  with_reducible repeat' (first
    | assumption | (intro x; refine At.cut x ?_ ?_; rotate_left; intro _; clear_value x; rotate_left; unfold x) | intro _ | lift_lets
    | apply At.ite | apply At.next | apply At.some | exact At.none | dsimp -zeta only [At.mkFst, At.mkSnd] | apply At.foldl
    | apply At.getD | apply At.fst | apply At.snd
    | ((conv => enter [3, 20]) <;> apply At.upd <;> first | exact .inl ‹_› | exact .inr rfl | skip)
    | ((conv => enter [3, 20]) <;> apply At.updCore) | split | exact At.ofMkFst ‹_› | exact At.ofMkSnd ‹_›
    | refine At.ofNext (by assumption) ?_ | refine At.ofFst (by assumption) ?_ | refine At.ofSnd (by assumption) ?_
    | refine At.ofOpt (by assumption) ?_ | refine At.ofOptSnd (by assumption) ?_ | refine At.ofOptFst (by assumption) ?_
    | refine At.ofOptSnd2 (by assumption) ?_ | apply At.mapAny | dsimp +zetaDelta only)

theorem State.rebuildAway_keeps {P : Part → Prop} {s₀ s : State} (dict_ : P .dict) (fb_ : P .fb) (stn_ : P .stn) (ses_ : P .ses) (tier_ : P
    .tier) (trv_ : P .trv) (srch_ : P .srch) (free_ : P .free) (h : Nat) (cons : List (Nat × Nat)) (hs : At (Keeps P s₀) It s) : At (Keeps
    P s₀) It (State.rebuildAway s h cons) := by
  unfold State.rebuildAway
  with_reducible repeat' (first
    | assumption | (intro x; refine At.cut x ?_ ?_; rotate_left; intro _; clear_value x; rotate_left; unfold x) | intro _ | lift_lets
    | apply State.moveRebuilt_keeps | apply At.ite | apply At.next | apply At.some | exact At.none | dsimp -zeta only [At.mkFst, At.mkSnd]
    | apply At.foldl | apply At.getD | apply At.fst | apply At.snd
    | ((conv => enter [3, 20]) <;> apply At.upd <;> first | exact .inl ‹_› | exact .inr rfl | skip)
    | ((conv => enter [3, 20]) <;> apply At.updCore) | split | exact At.ofMkFst ‹_› | exact At.ofMkSnd ‹_›
    | refine At.ofNext (by assumption) ?_ | refine At.ofFst (by assumption) ?_ | refine At.ofSnd (by assumption) ?_
    | refine At.ofOpt (by assumption) ?_ | refine At.ofOptSnd (by assumption) ?_ | refine At.ofOptFst (by assumption) ?_
    | refine At.ofOptSnd2 (by assumption) ?_ | apply At.mapAny | dsimp +zetaDelta only)

theorem State.halfLost_keeps {P : Part → Prop} {s₀ s : State} (dict_ : P .dict) (mgmt_ : P .mgmt) (fb_ : P .fb) (stn_ : P .stn) (ses_ : P
    .ses) (tier_ : P .tier) (shape_ : P .shape) (trv_ : P .trv) (core_ : P .core) (srch_ : P .srch) (sync_ : P .sync) (ck_ : P .ck) (fab_ :
    P .fab) (pwr_ : P .pwr) (free_ : P .free) (h : Nat) (cons : List (Nat × Nat)) (hs : At (Keeps P s₀) It s) : At (Keeps P s₀) It
    (State.halfLost s h cons) := by
  unfold State.halfLost
  with_reducible repeat' (first
    | assumption | (intro x; refine At.cut x ?_ ?_; rotate_left; intro _; clear_value x; rotate_left; unfold x) | intro _ | lift_lets
    | apply State.tileEvent_keeps | apply State.setBook_keeps | apply State.forgetOwed_keeps | apply State.setCam_keeps
    | apply State.setEng_keeps | apply State.vxLose_keeps | apply State.setTrvSlot_keeps | apply State.stopTraverse_keeps
    | apply State.voidFrame_keeps | apply State.noticeFault_keeps | apply State.reportOpen_keeps | apply State.withdraw_keeps
    | apply State.ckAbort_keeps | apply State.fenceHalf_keeps | apply State.cutHalf_keeps | apply State.dropHalfTiles_keeps
    | apply State.rebuildAway_keeps | apply At.ite | apply At.next | apply At.some | exact At.none | dsimp -zeta only [At.mkFst, At.mkSnd]
    | apply At.foldl | apply At.getD | apply At.fst | apply At.snd
    | ((conv => enter [3, 20]) <;> apply At.upd <;> first | exact .inl ‹_› | exact .inr rfl | skip)
    | ((conv => enter [3, 20]) <;> apply At.updCore) | split | exact At.ofMkFst ‹_› | exact At.ofMkSnd ‹_›
    | refine At.ofNext (by assumption) ?_ | refine At.ofFst (by assumption) ?_ | refine At.ofSnd (by assumption) ?_
    | refine At.ofOpt (by assumption) ?_ | refine At.ofOptSnd (by assumption) ?_ | refine At.ofOptFst (by assumption) ?_
    | refine At.ofOptSnd2 (by assumption) ?_ | apply At.mapAny | dsimp +zetaDelta only)

theorem execHalfLost_keeps {P : Part → Prop} {s₀ s : State} (dict_ : P .dict) (mgmt_ : P .mgmt) (fb_ : P .fb) (stn_ : P .stn) (ses_ : P
    .ses) (tier_ : P .tier) (shape_ : P .shape) (trv_ : P .trv) (core_ : P .core) (srch_ : P .srch) (sync_ : P .sync) (ck_ : P .ck) (fab_ :
    P .fab) (pwr_ : P .pwr) (free_ : P .free) (h : Nat) (cons : List (Nat × Nat)) (hs : At (Keeps P s₀) It s) : At (Keeps P s₀) Nxt
    (execHalfLost h cons s) := by
  unfold execHalfLost
  with_reducible repeat' (first
    | assumption | (intro x; refine At.cut x ?_ ?_; rotate_left; intro _; clear_value x; rotate_left; unfold x) | intro _ | lift_lets
    | apply State.halfLost_keeps | apply At.ite | apply At.next | apply At.some | exact At.none | dsimp -zeta only [At.mkFst, At.mkSnd]
    | apply At.foldl | apply At.getD | apply At.fst | apply At.snd
    | ((conv => enter [3, 20]) <;> apply At.upd <;> first | exact .inl ‹_› | exact .inr rfl | skip)
    | ((conv => enter [3, 20]) <;> apply At.updCore) | split | exact At.ofMkFst ‹_› | exact At.ofMkSnd ‹_›
    | refine At.ofNext (by assumption) ?_ | refine At.ofFst (by assumption) ?_ | refine At.ofSnd (by assumption) ?_
    | refine At.ofOpt (by assumption) ?_ | refine At.ofOptSnd (by assumption) ?_ | refine At.ofOptFst (by assumption) ?_
    | refine At.ofOptSnd2 (by assumption) ?_ | apply At.mapAny | dsimp +zetaDelta only)

theorem execChainHeartbeatLoss_keeps {P : Part → Prop} {s₀ s : State} (dict_ : P .dict) (mgmt_ : P .mgmt) (fb_ : P .fb) (stn_ : P .stn)
    (ses_ : P .ses) (tier_ : P .tier) (shape_ : P .shape) (trv_ : P .trv) (core_ : P .core) (srch_ : P .srch) (sync_ : P .sync) (ck_ : P
    .ck) (fab_ : P .fab) (pwr_ : P .pwr) (free_ : P .free) (cons : List (Nat × Nat)) (hs : At (Keeps P s₀) It s) : At (Keeps P s₀) Nxt
    (execChainHeartbeatLoss cons s) := by
  unfold execChainHeartbeatLoss
  with_reducible repeat' (first
    | assumption | (intro x; refine At.cut x ?_ ?_; rotate_left; intro _; clear_value x; rotate_left; unfold x) | intro _ | lift_lets
    | apply State.halfLost_keeps | apply At.ite | apply At.next | apply At.some | exact At.none | dsimp -zeta only [At.mkFst, At.mkSnd]
    | apply At.foldl | apply At.getD | apply At.fst | apply At.snd
    | ((conv => enter [3, 20]) <;> apply At.upd <;> first | exact .inl ‹_› | exact .inr rfl | skip)
    | ((conv => enter [3, 20]) <;> apply At.updCore) | split | exact At.ofMkFst ‹_› | exact At.ofMkSnd ‹_›
    | refine At.ofNext (by assumption) ?_ | refine At.ofFst (by assumption) ?_ | refine At.ofSnd (by assumption) ?_
    | refine At.ofOpt (by assumption) ?_ | refine At.ofOptSnd (by assumption) ?_ | refine At.ofOptFst (by assumption) ?_
    | refine At.ofOptSnd2 (by assumption) ?_ | apply At.mapAny | dsimp +zetaDelta only)

theorem execChainReturn_keeps {P : Part → Prop} {s₀ s : State} (dict_ : P .dict) (mgmt_ : P .mgmt) (fb_ : P .fb) (stn_ : P .stn) (hs : At
    (Keeps P s₀) It s) : At (Keeps P s₀) Nxt (execChainReturn s) := by
  unfold execChainReturn
  with_reducible repeat' (first
    | assumption | (intro x; refine At.cut x ?_ ?_; rotate_left; intro _; clear_value x; rotate_left; unfold x) | intro _ | lift_lets
    | apply State.setErr_keeps | apply State.setBook_keeps | apply State.recordErr_keeps | apply State.mirrorBack_keeps | apply At.ite
    | apply At.next | apply At.some | exact At.none | dsimp -zeta only [At.mkFst, At.mkSnd] | apply At.foldl | apply At.getD
    | apply At.fst | apply At.snd | ((conv => enter [3, 20]) <;> apply At.upd <;> first | exact .inl ‹_› | exact .inr rfl | skip)
    | ((conv => enter [3, 20]) <;> apply At.updCore) | split | exact At.ofMkFst ‹_› | exact At.ofMkSnd ‹_›
    | refine At.ofNext (by assumption) ?_ | refine At.ofFst (by assumption) ?_ | refine At.ofSnd (by assumption) ?_
    | refine At.ofOpt (by assumption) ?_ | refine At.ofOptSnd (by assumption) ?_ | refine At.ofOptFst (by assumption) ?_
    | refine At.ofOptSnd2 (by assumption) ?_ | apply At.mapAny | dsimp +zetaDelta only)

theorem State.adoptSession_keeps {P : Part → Prop} {s₀ s : State} (dict_ : P .dict) (fb_ : P .fb) (stn_ : P .stn) (ses_ : P .ses) (tier_ :
    P .tier) (srch_ : P .srch) (free_ : P .free) (rs : List Rec) (hs : At (Keeps P s₀) It s) : At (Keeps P s₀) It (State.adoptSession s rs)
    := by
  unfold State.adoptSession
  with_reducible repeat' (first
    | assumption | (intro x; refine At.cut x ?_ ?_; rotate_left; intro _; clear_value x; rotate_left; unfold x) | intro _ | lift_lets
    | apply State.modSess_keeps | apply State.takeIndex_keeps | apply State.enterHandles_keeps | apply State.recsAgain_keeps
    | apply State.rebuildDesc_keeps | apply State.reviveRebuilt_keeps | apply At.ite | apply At.next | apply At.some | exact At.none
    | dsimp -zeta only [At.mkFst, At.mkSnd] | apply At.foldl | apply At.getD | apply At.fst | apply At.snd
    | ((conv => enter [3, 20]) <;> apply At.upd <;> first | exact .inl ‹_› | exact .inr rfl | skip)
    | ((conv => enter [3, 20]) <;> apply At.updCore) | split | exact At.ofMkFst ‹_› | exact At.ofMkSnd ‹_›
    | refine At.ofNext (by assumption) ?_ | refine At.ofFst (by assumption) ?_ | refine At.ofSnd (by assumption) ?_
    | refine At.ofOpt (by assumption) ?_ | refine At.ofOptSnd (by assumption) ?_ | refine At.ofOptFst (by assumption) ?_
    | refine At.ofOptSnd2 (by assumption) ?_ | apply At.mapAny | dsimp +zetaDelta only)

theorem State.adoptSlices_keeps {P : Part → Prop} {s₀ s : State} (dict_ : P .dict) (mgmt_ : P .mgmt) (fb_ : P .fb) (stn_ : P .stn) (ses_ :
    P .ses) (tier_ : P .tier) (shape_ : P .shape) (trv_ : P .trv) (srch_ : P .srch) (ck_ : P .ck) (fab_ : P .fab) (pwr_ : P .pwr) (free_ :
    P .free) (hs : At (Keeps P s₀) It s) : At (Keeps P s₀) It (State.adoptSlices s) := by
  unfold State.adoptSlices
  with_reducible repeat' (first
    | assumption | (intro x; refine At.cut x ?_ ?_; rotate_left; intro _; clear_value x; rotate_left; unfold x) | intro _ | lift_lets
    | apply State.fabSend_keeps | apply State.openVote_keeps | apply At.ite | apply At.next | apply At.some | exact At.none
    | dsimp -zeta only [At.mkFst, At.mkSnd] | apply At.foldl | apply At.getD | apply At.fst | apply At.snd
    | ((conv => enter [3, 20]) <;> apply At.upd <;> first | exact .inl ‹_› | exact .inr rfl | skip)
    | ((conv => enter [3, 20]) <;> apply At.updCore) | split | exact At.ofMkFst ‹_› | exact At.ofMkSnd ‹_›
    | refine At.ofNext (by assumption) ?_ | refine At.ofFst (by assumption) ?_ | refine At.ofSnd (by assumption) ?_
    | refine At.ofOpt (by assumption) ?_ | refine At.ofOptSnd (by assumption) ?_ | refine At.ofOptFst (by assumption) ?_
    | refine At.ofOptSnd2 (by assumption) ?_ | apply At.mapAny | dsimp +zetaDelta only)

theorem State.adoptLeases_keeps {P : Part → Prop} {s₀ s : State} (dict_ : P .dict) (fab_ : P .fab) (hs : At (Keeps P s₀) It s) : At (Keeps
    P s₀) It (State.adoptLeases s) := by
  unfold State.adoptLeases
  with_reducible repeat' (first
    | assumption | (intro x; refine At.cut x ?_ ?_; rotate_left; intro _; clear_value x; rotate_left; unfold x) | intro _ | lift_lets
    | apply State.dropLease_keeps | apply At.ite | apply At.next | apply At.some | exact At.none | dsimp -zeta only [At.mkFst, At.mkSnd]
    | apply At.foldl | apply At.getD | apply At.fst | apply At.snd
    | ((conv => enter [3, 20]) <;> apply At.upd <;> first | exact .inl ‹_› | exact .inr rfl | skip)
    | ((conv => enter [3, 20]) <;> apply At.updCore) | split | exact At.ofMkFst ‹_› | exact At.ofMkSnd ‹_›
    | refine At.ofNext (by assumption) ?_ | refine At.ofFst (by assumption) ?_ | refine At.ofSnd (by assumption) ?_
    | refine At.ofOpt (by assumption) ?_ | refine At.ofOptSnd (by assumption) ?_ | refine At.ofOptFst (by assumption) ?_
    | refine At.ofOptSnd2 (by assumption) ?_ | apply At.mapAny | dsimp +zetaDelta only)

theorem State.adopt_keeps {P : Part → Prop} {s₀ s : State} (dict_ : P .dict) (mgmt_ : P .mgmt) (fb_ : P .fb) (stn_ : P .stn) (ses_ : P
    .ses) (tier_ : P .tier) (shape_ : P .shape) (trv_ : P .trv) (text_ : P .text) (srch_ : P .srch) (ck_ : P .ck) (fab_ : P .fab) (pwr_ : P
    .pwr) (free_ : P .free) (recs : List Rec) (hs : At (Keeps P s₀) It s) : At (Keeps P s₀) It (State.adopt s recs) := by
  unfold State.adopt
  with_reducible repeat' (first
    | assumption | (intro x; refine At.cut x ?_ ?_; rotate_left; intro _; clear_value x; rotate_left; unfold x) | intro _ | lift_lets
    | apply State.applyConfig_keeps | apply State.recsAgain_keeps | apply State.adoptSession_keeps | apply State.adoptSlices_keeps
    | apply State.adoptLeases_keeps | apply At.ite | apply At.next | apply At.some | exact At.none | dsimp -zeta only [At.mkFst, At.mkSnd]
    | apply At.foldl | apply At.getD | apply At.fst | apply At.snd
    | ((conv => enter [3, 20]) <;> apply At.upd <;> first | exact .inl ‹_› | exact .inr rfl | skip)
    | ((conv => enter [3, 20]) <;> apply At.updCore) | split | exact At.ofMkFst ‹_› | exact At.ofMkSnd ‹_›
    | refine At.ofNext (by assumption) ?_ | refine At.ofFst (by assumption) ?_ | refine At.ofSnd (by assumption) ?_
    | refine At.ofOpt (by assumption) ?_ | refine At.ofOptSnd (by assumption) ?_ | refine At.ofOptFst (by assumption) ?_
    | refine At.ofOptSnd2 (by assumption) ?_ | apply At.mapAny | dsimp +zetaDelta only)

theorem execAdopt_keeps {P : Part → Prop} {s₀ s : State} (dict_ : P .dict) (mgmt_ : P .mgmt) (fb_ : P .fb) (stn_ : P .stn) (ses_ : P .ses)
    (tier_ : P .tier) (shape_ : P .shape) (trv_ : P .trv) (text_ : P .text) (srch_ : P .srch) (ck_ : P .ck) (fab_ : P .fab) (pwr_ : P .pwr)
    (free_ : P .free) (w : Writer) (o : Option Octets) (hs : At (Keeps P s₀) It s) : At (Keeps P s₀) Nxt (execAdopt w o s) := by
  unfold execAdopt
  with_reducible repeat' (first
    | assumption | (intro x; refine At.cut x ?_ ?_; rotate_left; intro _; clear_value x; rotate_left; unfold x) | intro _ | lift_lets
    | apply State.setObj_keeps | apply State.command_keeps | apply State.adopt_keeps | apply At.ite | apply At.next | apply At.some
    | exact At.none | dsimp -zeta only [At.mkFst, At.mkSnd] | apply At.foldl | apply At.getD | apply At.fst | apply At.snd
    | ((conv => enter [3, 20]) <;> apply At.upd <;> first | exact .inl ‹_› | exact .inr rfl | skip)
    | ((conv => enter [3, 20]) <;> apply At.updCore) | split | exact At.ofMkFst ‹_› | exact At.ofMkSnd ‹_›
    | refine At.ofNext (by assumption) ?_ | refine At.ofFst (by assumption) ?_ | refine At.ofSnd (by assumption) ?_
    | refine At.ofOpt (by assumption) ?_ | refine At.ofOptSnd (by assumption) ?_ | refine At.ofOptFst (by assumption) ?_
    | refine At.ofOptSnd2 (by assumption) ?_ | apply At.mapAny | dsimp +zetaDelta only)

/-! ### Machine/Power.lean -/

theorem execDatumTick_keeps {P : Part → Prop} {s₀ s : State} (tick_ : P .tick) (dict_ : P .dict) (fb_ : P .fb) (pwr_ : P .pwr) (hs : At
    (Keeps P s₀) It s) : At (Keeps P s₀) Nxt (execDatumTick s) := by
  unfold execDatumTick
  with_reducible repeat' (first
    | assumption | (intro x; refine At.cut x ?_ ?_; rotate_left; intro _; clear_value x; rotate_left; unfold x) | intro _ | lift_lets
    | apply State.quietTick_keeps | apply State.rebuildTick_keeps | apply At.ite | apply At.next | apply At.some | exact At.none
    | dsimp -zeta only [At.mkFst, At.mkSnd] | apply At.foldl | apply At.getD | apply At.fst | apply At.snd
    | ((conv => enter [3, 20]) <;> apply At.upd <;> first | exact .inl ‹_› | exact .inr rfl | skip)
    | ((conv => enter [3, 20]) <;> apply At.updCore) | split | exact At.ofMkFst ‹_› | exact At.ofMkSnd ‹_›
    | refine At.ofNext (by assumption) ?_ | refine At.ofFst (by assumption) ?_ | refine At.ofSnd (by assumption) ?_
    | refine At.ofOpt (by assumption) ?_ | refine At.ofOptSnd (by assumption) ?_ | refine At.ofOptFst (by assumption) ?_
    | refine At.ofOptSnd2 (by assumption) ?_ | apply At.mapAny | dsimp +zetaDelta only)

theorem State.powerCommand_keeps {P : Part → Prop} {s₀ s : State} (dict_ : P .dict) (mgmt_ : P .mgmt) (fb_ : P .fb) (stn_ : P .stn) (w :
    Writer) (code : Nat) (fits : Bool) (go : State → State) (hgo : ∀ u, At (Keeps P s₀) It u → At (Keeps P s₀) It (go u)) (hs : At (Keeps P
    s₀) It s) : At (Keeps P s₀) It (State.powerCommand s w code fits go) := by
  unfold State.powerCommand
  with_reducible repeat' (first
    | assumption | (intro x; refine At.cut x ?_ ?_; rotate_left; intro _; clear_value x; rotate_left; unfold x) | intro _ | lift_lets
    | apply State.setObj_keeps | apply State.reply_keeps | apply hgo | apply At.ite | apply At.next | apply At.some | exact At.none
    | dsimp -zeta only [At.mkFst, At.mkSnd] | apply At.foldl | apply At.getD | apply At.fst | apply At.snd
    | ((conv => enter [3, 20]) <;> apply At.upd <;> first | exact .inl ‹_› | exact .inr rfl | skip)
    | ((conv => enter [3, 20]) <;> apply At.updCore) | split | exact At.ofMkFst ‹_› | exact At.ofMkSnd ‹_›
    | refine At.ofNext (by assumption) ?_ | refine At.ofFst (by assumption) ?_ | refine At.ofSnd (by assumption) ?_
    | refine At.ofOpt (by assumption) ?_ | refine At.ofOptSnd (by assumption) ?_ | refine At.ofOptFst (by assumption) ?_
    | refine At.ofOptSnd2 (by assumption) ?_ | apply At.mapAny | dsimp +zetaDelta only)

theorem execDeepSleep_keeps {P : Part → Prop} {s₀ s : State} (dict_ : P .dict) (mgmt_ : P .mgmt) (fb_ : P .fb) (stn_ : P .stn) (pwr_ : P
    .pwr) (w : Writer) (hs : At (Keeps P s₀) It s) : At (Keeps P s₀) Nxt (execDeepSleep w s) := by
  unfold execDeepSleep
  with_reducible repeat' (first
    | assumption | (intro x; refine At.cut x ?_ ?_; rotate_left; intro _; clear_value x; rotate_left; unfold x) | intro _ | lift_lets
    | apply State.enterDeep_keeps | apply State.powerCommand_keeps | apply At.ite | apply At.next | apply At.some | exact At.none
    | dsimp -zeta only [At.mkFst, At.mkSnd] | apply At.foldl | apply At.getD | apply At.fst | apply At.snd
    | ((conv => enter [3, 20]) <;> apply At.upd <;> first | exact .inl ‹_› | exact .inr rfl | skip)
    | ((conv => enter [3, 20]) <;> apply At.updCore) | split | exact At.ofMkFst ‹_› | exact At.ofMkSnd ‹_›
    | refine At.ofNext (by assumption) ?_ | refine At.ofFst (by assumption) ?_ | refine At.ofSnd (by assumption) ?_
    | refine At.ofOpt (by assumption) ?_ | refine At.ofOptSnd (by assumption) ?_ | refine At.ofOptFst (by assumption) ?_
    | refine At.ofOptSnd2 (by assumption) ?_ | apply At.mapAny | dsimp +zetaDelta only)

theorem execAutonomousDeepSleep_keeps {P : Part → Prop} {s₀ s : State} (dict_ : P .dict) (mgmt_ : P .mgmt) (stn_ : P .stn) (pwr_ : P .pwr)
    (hs : At (Keeps P s₀) It s) : At (Keeps P s₀) Nxt (execAutonomousDeepSleep s) := by
  unfold execAutonomousDeepSleep
  with_reducible repeat' (first
    | assumption | (intro x; refine At.cut x ?_ ?_; rotate_left; intro _; clear_value x; rotate_left; unfold x) | intro _ | lift_lets
    | apply State.enterDeep_keeps | apply At.ite | apply At.next | apply At.some | exact At.none | dsimp -zeta only [At.mkFst, At.mkSnd]
    | apply At.foldl | apply At.getD | apply At.fst | apply At.snd
    | ((conv => enter [3, 20]) <;> apply At.upd <;> first | exact .inl ‹_› | exact .inr rfl | skip)
    | ((conv => enter [3, 20]) <;> apply At.updCore) | split | exact At.ofMkFst ‹_› | exact At.ofMkSnd ‹_›
    | refine At.ofNext (by assumption) ?_ | refine At.ofFst (by assumption) ?_ | refine At.ofSnd (by assumption) ?_
    | refine At.ofOpt (by assumption) ?_ | refine At.ofOptSnd (by assumption) ?_ | refine At.ofOptFst (by assumption) ?_
    | refine At.ofOptSnd2 (by assumption) ?_ | apply At.mapAny | dsimp +zetaDelta only)

theorem execDeepSleepWake_keeps {P : Part → Prop} {s₀ s : State} (frame_ : P .frame) (frameStart_ : P .frameStart) (dict_ : P .dict) (mgmt_
    : P .mgmt) (stn_ : P .stn) (pwr_ : P .pwr) (cause : Nat) (pin : Nat) (hs : At (Keeps P s₀) It s) : At (Keeps P s₀) Nxt
    (execDeepSleepWake cause pin s) := by
  unfold execDeepSleepWake
  with_reducible repeat' (first
    | assumption | (intro x; refine At.cut x ?_ ?_; rotate_left; intro _; clear_value x; rotate_left; unfold x) | intro _ | lift_lets
    | apply State.wakeBy_keeps | apply At.ite | apply At.next | apply At.some | exact At.none | dsimp -zeta only [At.mkFst, At.mkSnd]
    | apply At.foldl | apply At.getD | apply At.fst | apply At.snd
    | ((conv => enter [3, 20]) <;> apply At.upd <;> first | exact .inl ‹_› | exact .inr rfl | skip)
    | ((conv => enter [3, 20]) <;> apply At.updCore) | split | exact At.ofMkFst ‹_› | exact At.ofMkSnd ‹_›
    | refine At.ofNext (by assumption) ?_ | refine At.ofFst (by assumption) ?_ | refine At.ofSnd (by assumption) ?_
    | refine At.ofOpt (by assumption) ?_ | refine At.ofOptSnd (by assumption) ?_ | refine At.ofOptFst (by assumption) ?_
    | refine At.ofOptSnd2 (by assumption) ?_ | apply At.mapAny | dsimp +zetaDelta only)

theorem execWakeWindow_keeps {P : Part → Prop} {s₀ s : State} (dict_ : P .dict) (core_ : P .core) (sync_ : P .sync) (pwr_ : P .pwr) (half :
    Nat) (hs : At (Keeps P s₀) It s) : At (Keeps P s₀) Nxt (execWakeWindow half s) := by
  unfold execWakeWindow
  with_reducible repeat' (first
    | assumption | (intro x; refine At.cut x ?_ ?_; rotate_left; intro _; clear_value x; rotate_left; unfold x) | intro _ | lift_lets
    | apply State.addObj_keeps | apply State.setPwr_keeps | apply State.pulse_keeps | apply State.sleepCluster_keeps | apply At.ite
    | apply At.next | apply At.some | exact At.none | dsimp -zeta only [At.mkFst, At.mkSnd] | apply At.foldl | apply At.getD
    | apply At.fst | apply At.snd | ((conv => enter [3, 20]) <;> apply At.upd <;> first | exact .inl ‹_› | exact .inr rfl | skip)
    | ((conv => enter [3, 20]) <;> apply At.updCore) | split | exact At.ofMkFst ‹_› | exact At.ofMkSnd ‹_›
    | refine At.ofNext (by assumption) ?_ | refine At.ofFst (by assumption) ?_ | refine At.ofSnd (by assumption) ?_
    | refine At.ofOpt (by assumption) ?_ | refine At.ofOptSnd (by assumption) ?_ | refine At.ofOptFst (by assumption) ?_
    | refine At.ofOptSnd2 (by assumption) ?_ | apply At.mapAny | dsimp +zetaDelta only)

theorem execClusterWakeDone_keeps {P : Part → Prop} {s₀ s : State} (pwr_ : P .pwr) (n : Nat) (hs : At (Keeps P s₀) It s) : At (Keeps P s₀)
    Nxt (execClusterWakeDone n s) := by
  unfold execClusterWakeDone
  with_reducible repeat' (first
    | assumption | (intro x; refine At.cut x ?_ ?_; rotate_left; intro _; clear_value x; rotate_left; unfold x) | intro _ | lift_lets
    | apply State.setPwr_keeps | apply At.ite | apply At.next | apply At.some | exact At.none | dsimp -zeta only [At.mkFst, At.mkSnd]
    | apply At.foldl | apply At.getD | apply At.fst | apply At.snd
    | ((conv => enter [3, 20]) <;> apply At.upd <;> first | exact .inl ‹_› | exact .inr rfl | skip)
    | ((conv => enter [3, 20]) <;> apply At.updCore) | split | exact At.ofMkFst ‹_› | exact At.ofMkSnd ‹_›
    | refine At.ofNext (by assumption) ?_ | refine At.ofFst (by assumption) ?_ | refine At.ofSnd (by assumption) ?_
    | refine At.ofOpt (by assumption) ?_ | refine At.ofOptSnd (by assumption) ?_ | refine At.ofOptFst (by assumption) ?_
    | refine At.ofOptSnd2 (by assumption) ?_ | apply At.mapAny | dsimp +zetaDelta only)

theorem State.pullLever_keeps {P : Part → Prop} {s₀ s : State} (dict_ : P .dict) (srch_ : P .srch) (hs : At (Keeps P s₀) It s) : At (Keeps
    P s₀) It (State.pullLever s) := by
  unfold State.pullLever
  with_reducible repeat' (first
    | assumption | (intro x; refine At.cut x ?_ ?_; rotate_left; intro _; clear_value x; rotate_left; unfold x) | intro _ | lift_lets
    | apply State.setObj_keeps | apply State.setCam_keeps | apply At.ite | apply At.next | apply At.some | exact At.none
    | dsimp -zeta only [At.mkFst, At.mkSnd] | apply At.foldl | apply At.getD | apply At.fst | apply At.snd
    | ((conv => enter [3, 20]) <;> apply At.upd <;> first | exact .inl ‹_› | exact .inr rfl | skip)
    | ((conv => enter [3, 20]) <;> apply At.updCore) | split | exact At.ofMkFst ‹_› | exact At.ofMkSnd ‹_›
    | refine At.ofNext (by assumption) ?_ | refine At.ofFst (by assumption) ?_ | refine At.ofSnd (by assumption) ?_
    | refine At.ofOpt (by assumption) ?_ | refine At.ofOptSnd (by assumption) ?_ | refine At.ofOptFst (by assumption) ?_
    | refine At.ofOptSnd2 (by assumption) ?_ | apply At.mapAny | dsimp +zetaDelta only)

theorem State.releaseLever_keeps {P : Part → Prop} {s₀ s : State} (dict_ : P .dict) (srch_ : P .srch) (hs : At (Keeps P s₀) It s) : At
    (Keeps P s₀) It (State.releaseLever s) := by
  unfold State.releaseLever
  with_reducible repeat' (first
    | assumption | (intro x; refine At.cut x ?_ ?_; rotate_left; intro _; clear_value x; rotate_left; unfold x) | intro _ | lift_lets
    | apply State.setObj_keeps | apply State.setCam_keeps | apply At.ite | apply At.next | apply At.some | exact At.none
    | dsimp -zeta only [At.mkFst, At.mkSnd] | apply At.foldl | apply At.getD | apply At.fst | apply At.snd
    | ((conv => enter [3, 20]) <;> apply At.upd <;> first | exact .inl ‹_› | exact .inr rfl | skip)
    | ((conv => enter [3, 20]) <;> apply At.updCore) | split | exact At.ofMkFst ‹_› | exact At.ofMkSnd ‹_›
    | refine At.ofNext (by assumption) ?_ | refine At.ofFst (by assumption) ?_ | refine At.ofSnd (by assumption) ?_
    | refine At.ofOpt (by assumption) ?_ | refine At.ofOptSnd (by assumption) ?_ | refine At.ofOptFst (by assumption) ?_
    | refine At.ofOptSnd2 (by assumption) ?_ | apply At.mapAny | dsimp +zetaDelta only)

theorem execPowerGovernorTick_keeps {P : Part → Prop} {s₀ s : State} (dict_ : P .dict) (mgmt_ : P .mgmt) (stn_ : P .stn) (srch_ : P .srch)
    (pwr_ : P .pwr) (r : PowerReading) (hs : At (Keeps P s₀) It s) : At (Keeps P s₀) Nxt (execPowerGovernorTick r s) := by
  unfold execPowerGovernorTick
  with_reducible repeat' (first
    | assumption | (intro x; refine At.cut x ?_ ?_; rotate_left; intro _; clear_value x; rotate_left; unfold x) | intro _ | lift_lets
    | apply State.setObj_keeps | apply State.bump_keeps | apply State.tileEvent_keeps | apply State.setPwr_keeps
    | apply State.pullLever_keeps | apply State.releaseLever_keeps | apply At.ite | apply At.next | apply At.some | exact At.none
    | dsimp -zeta only [At.mkFst, At.mkSnd] | apply At.foldl | apply At.getD | apply At.fst | apply At.snd
    | ((conv => enter [3, 20]) <;> apply At.upd <;> first | exact .inl ‹_› | exact .inr rfl | skip)
    | ((conv => enter [3, 20]) <;> apply At.updCore) | split | exact At.ofMkFst ‹_› | exact At.ofMkSnd ‹_›
    | refine At.ofNext (by assumption) ?_ | refine At.ofFst (by assumption) ?_ | refine At.ofSnd (by assumption) ?_
    | refine At.ofOpt (by assumption) ?_ | refine At.ofOptSnd (by assumption) ?_ | refine At.ofOptFst (by assumption) ?_
    | refine At.ofOptSnd2 (by assumption) ?_ | apply At.mapAny | dsimp +zetaDelta only)

theorem execThermalCheck_keeps {P : Part → Prop} {s₀ s : State} (dict_ : P .dict) (mgmt_ : P .mgmt) (fb_ : P .fb) (stn_ : P .stn) (ses_ : P
    .ses) (tier_ : P .tier) (trv_ : P .trv) (srch_ : P .srch) (pwr_ : P .pwr) (free_ : P .free) (x : Sensors) (hs : At (Keeps P s₀) It s) :
    At (Keeps P s₀) Nxt (execThermalCheck x s) := by
  unfold execThermalCheck
  with_reducible repeat' (first
    | assumption | (intro x; refine At.cut x ?_ ?_; rotate_left; intro _; clear_value x; rotate_left; unfold x) | intro _ | lift_lets
    | apply State.setObjAt_keeps | apply State.setObj_keeps | apply State.bump_keeps | apply State.tileEvent_keeps
    | apply State.setPwr_keeps | apply State.stackFail_keeps | apply State.boot_keeps | apply At.ite | apply At.next | apply At.some
    | exact At.none | dsimp -zeta only [At.mkFst, At.mkSnd] | apply At.foldl | apply At.getD | apply At.fst | apply At.snd
    | ((conv => enter [3, 20]) <;> apply At.upd <;> first | exact .inl ‹_› | exact .inr rfl | skip)
    | ((conv => enter [3, 20]) <;> apply At.updCore) | split | exact At.ofMkFst ‹_› | exact At.ofMkSnd ‹_›
    | refine At.ofNext (by assumption) ?_ | refine At.ofFst (by assumption) ?_ | refine At.ofSnd (by assumption) ?_
    | refine At.ofOpt (by assumption) ?_ | refine At.ofOptSnd (by assumption) ?_ | refine At.ofOptFst (by assumption) ?_
    | refine At.ofOptSnd2 (by assumption) ?_ | apply At.mapAny | dsimp +zetaDelta only)

theorem execThermalTrip_keeps {P : Part → Prop} {s₀ s : State} (frame_ : P .frame) (frameStart_ : P .frameStart) (dict_ : P .dict) (mgmt_ :
    P .mgmt) (fb_ : P .fb) (stn_ : P .stn) (ses_ : P .ses) (tier_ : P .tier) (shape_ : P .shape) (trv_ : P .trv) (core_ : P .core) (text_ :
    P .text) (srch_ : P .srch) (sync_ : P .sync) (ck_ : P .ck) (fab_ : P .fab) (pwr_ : P .pwr) (free_ : P .free) (hs : At (Keeps P s₀) It
    s) : At (Keeps P s₀) Nxt (execThermalTrip s) := by
  unfold execThermalTrip
  with_reducible repeat' (first
    | assumption | (intro x; refine At.cut x ?_ ?_; rotate_left; intro _; clear_value x; rotate_left; unfold x) | intro _ | lift_lets
    | apply State.setObj_keeps | apply State.bump_keeps | apply State.tileEvent_keeps | apply State.setPwr_keeps
    | apply State.restartKeep_keeps | apply At.ite | apply At.next | apply At.some | exact At.none | dsimp -zeta only [At.mkFst, At.mkSnd]
    | apply At.foldl | apply At.getD | apply At.fst | apply At.snd
    | ((conv => enter [3, 20]) <;> apply At.upd <;> first | exact .inl ‹_› | exact .inr rfl | skip)
    | ((conv => enter [3, 20]) <;> apply At.updCore) | split | exact At.ofMkFst ‹_› | exact At.ofMkSnd ‹_›
    | refine At.ofNext (by assumption) ?_ | refine At.ofFst (by assumption) ?_ | refine At.ofSnd (by assumption) ?_
    | refine At.ofOpt (by assumption) ?_ | refine At.ofOptSnd (by assumption) ?_ | refine At.ofOptFst (by assumption) ?_
    | refine At.ofOptSnd2 (by assumption) ?_ | apply At.mapAny | dsimp +zetaDelta only)

theorem execHwTrip_keeps {P : Part → Prop} {s₀ s : State} (pwr_ : P .pwr) (hs : At (Keeps P s₀) It s) : At (Keeps P s₀) Nxt (execHwTrip s)
    := by
  unfold execHwTrip
  with_reducible repeat' (first
    | assumption | (intro x; refine At.cut x ?_ ?_; rotate_left; intro _; clear_value x; rotate_left; unfold x) | intro _ | lift_lets
    | apply State.setPwr_keeps | apply At.ite | apply At.next | apply At.some | exact At.none | dsimp -zeta only [At.mkFst, At.mkSnd]
    | apply At.foldl | apply At.getD | apply At.fst | apply At.snd
    | ((conv => enter [3, 20]) <;> apply At.upd <;> first | exact .inl ‹_› | exact .inr rfl | skip)
    | ((conv => enter [3, 20]) <;> apply At.updCore) | split | exact At.ofMkFst ‹_› | exact At.ofMkSnd ‹_›
    | refine At.ofNext (by assumption) ?_ | refine At.ofFst (by assumption) ?_ | refine At.ofSnd (by assumption) ?_
    | refine At.ofOpt (by assumption) ?_ | refine At.ofOptSnd (by assumption) ?_ | refine At.ofOptFst (by assumption) ?_
    | refine At.ofOptSnd2 (by assumption) ?_ | apply At.mapAny | dsimp +zetaDelta only)

theorem execPowerOn_keeps {P : Part → Prop} {s₀ s : State} (tick_ : P .tick) (frame_ : P .frame) (frameStart_ : P .frameStart) (dict_ : P
    .dict) (mgmt_ : P .mgmt) (fb_ : P .fb) (stn_ : P .stn) (ses_ : P .ses) (tier_ : P .tier) (shape_ : P .shape) (trv_ : P .trv) (core_ : P
    .core) (text_ : P .text) (srch_ : P .srch) (sync_ : P .sync) (ck_ : P .ck) (fab_ : P .fab) (pwr_ : P .pwr) (free_ : P .free) (hs : At
    (Keeps P s₀) It s) : At (Keeps P s₀) Nxt (execPowerOn s) := by
  unfold execPowerOn
  with_reducible repeat' (first
    | assumption | (intro x; refine At.cut x ?_ ?_; rotate_left; intro _; clear_value x; rotate_left; unfold x) | intro _ | lift_lets
    | apply State.restartPowerOn_keeps | apply At.ite | apply At.next | apply At.some | exact At.none
    | dsimp -zeta only [At.mkFst, At.mkSnd] | apply At.foldl | apply At.getD | apply At.fst | apply At.snd
    | ((conv => enter [3, 20]) <;> apply At.upd <;> first | exact .inl ‹_› | exact .inr rfl | skip)
    | ((conv => enter [3, 20]) <;> apply At.updCore) | split | exact At.ofMkFst ‹_› | exact At.ofMkSnd ‹_›
    | refine At.ofNext (by assumption) ?_ | refine At.ofFst (by assumption) ?_ | refine At.ofSnd (by assumption) ?_
    | refine At.ofOpt (by assumption) ?_ | refine At.ofOptSnd (by assumption) ?_ | refine At.ofOptFst (by assumption) ?_
    | refine At.ofOptSnd2 (by assumption) ?_ | apply At.mapAny | dsimp +zetaDelta only)

theorem execResetN_keeps {P : Part → Prop} {s₀ s : State} (frame_ : P .frame) (frameStart_ : P .frameStart) (dict_ : P .dict) (mgmt_ : P
    .mgmt) (fb_ : P .fb) (stn_ : P .stn) (ses_ : P .ses) (tier_ : P .tier) (shape_ : P .shape) (trv_ : P .trv) (core_ : P .core) (text_ : P
    .text) (srch_ : P .srch) (sync_ : P .sync) (ck_ : P .ck) (fab_ : P .fab) (pwr_ : P .pwr) (free_ : P .free) (hs : At (Keeps P s₀) It s)
    : At (Keeps P s₀) Nxt (execResetN s) := by
  unfold execResetN
  with_reducible repeat' (first
    | assumption | (intro x; refine At.cut x ?_ ?_; rotate_left; intro _; clear_value x; rotate_left; unfold x) | intro _ | lift_lets
    | apply State.restartKeep_keeps | apply At.ite | apply At.next | apply At.some | exact At.none | dsimp -zeta only [At.mkFst, At.mkSnd]
    | apply At.foldl | apply At.getD | apply At.fst | apply At.snd
    | ((conv => enter [3, 20]) <;> apply At.upd <;> first | exact .inl ‹_› | exact .inr rfl | skip)
    | ((conv => enter [3, 20]) <;> apply At.updCore) | split | exact At.ofMkFst ‹_› | exact At.ofMkSnd ‹_›
    | refine At.ofNext (by assumption) ?_ | refine At.ofFst (by assumption) ?_ | refine At.ofSnd (by assumption) ?_
    | refine At.ofOpt (by assumption) ?_ | refine At.ofOptSnd (by assumption) ?_ | refine At.ofOptFst (by assumption) ?_
    | refine At.ofOptSnd2 (by assumption) ?_ | apply At.mapAny | dsimp +zetaDelta only)

theorem execWarmReset_keeps {P : Part → Prop} {s₀ s : State} (frame_ : P .frame) (frameStart_ : P .frameStart) (dict_ : P .dict) (mgmt_ : P
    .mgmt) (fb_ : P .fb) (stn_ : P .stn) (ses_ : P .ses) (tier_ : P .tier) (shape_ : P .shape) (trv_ : P .trv) (core_ : P .core) (text_ : P
    .text) (srch_ : P .srch) (sync_ : P .sync) (ck_ : P .ck) (fab_ : P .fab) (pwr_ : P .pwr) (free_ : P .free) (w : Writer) (hs : At (Keeps
    P s₀) It s) : At (Keeps P s₀) Nxt (execWarmReset w s) := by
  unfold execWarmReset
  with_reducible repeat' (first
    | assumption | (intro x; refine At.cut x ?_ ?_; rotate_left; intro _; clear_value x; rotate_left; unfold x) | intro _ | lift_lets
    | apply State.restartWarm_keeps | apply State.powerCommand_keeps | apply At.ite | apply At.next | apply At.some | exact At.none
    | dsimp -zeta only [At.mkFst, At.mkSnd] | apply At.foldl | apply At.getD | apply At.fst | apply At.snd
    | ((conv => enter [3, 20]) <;> apply At.upd <;> first | exact .inl ‹_› | exact .inr rfl | skip)
    | ((conv => enter [3, 20]) <;> apply At.updCore) | split | exact At.ofMkFst ‹_› | exact At.ofMkSnd ‹_›
    | refine At.ofNext (by assumption) ?_ | refine At.ofFst (by assumption) ?_ | refine At.ofSnd (by assumption) ?_
    | refine At.ofOpt (by assumption) ?_ | refine At.ofOptSnd (by assumption) ?_ | refine At.ofOptFst (by assumption) ?_
    | refine At.ofOptSnd2 (by assumption) ?_ | apply At.mapAny | dsimp +zetaDelta only)

theorem execResetHalf0_keeps {P : Part → Prop} {s₀ s : State} (dict_ : P .dict) (mgmt_ : P .mgmt) (fb_ : P .fb) (stn_ : P .stn) (ses_ : P
    .ses) (tier_ : P .tier) (trv_ : P .trv) (core_ : P .core) (text_ : P .text) (srch_ : P .srch) (sync_ : P .sync) (pwr_ : P .pwr) (free_
    : P .free) (w : Writer) (hs : At (Keeps P s₀) It s) : At (Keeps P s₀) Nxt (execResetHalf0 w s) := by
  unfold execResetHalf0
  with_reducible repeat' (first
    | assumption | (intro x; refine At.cut x ?_ ?_; rotate_left; intro _; clear_value x; rotate_left; unfold x) | intro _ | lift_lets
    | apply State.restartHalf_keeps | apply State.powerCommand_keeps | apply At.ite | apply At.next | apply At.some | exact At.none
    | dsimp -zeta only [At.mkFst, At.mkSnd] | apply At.foldl | apply At.getD | apply At.fst | apply At.snd
    | ((conv => enter [3, 20]) <;> apply At.upd <;> first | exact .inl ‹_› | exact .inr rfl | skip)
    | ((conv => enter [3, 20]) <;> apply At.updCore) | split | exact At.ofMkFst ‹_› | exact At.ofMkSnd ‹_›
    | refine At.ofNext (by assumption) ?_ | refine At.ofFst (by assumption) ?_ | refine At.ofSnd (by assumption) ?_
    | refine At.ofOpt (by assumption) ?_ | refine At.ofOptSnd (by assumption) ?_ | refine At.ofOptFst (by assumption) ?_
    | refine At.ofOptSnd2 (by assumption) ?_ | apply At.mapAny | dsimp +zetaDelta only)

theorem execResetHalf1_keeps {P : Part → Prop} {s₀ s : State} (dict_ : P .dict) (mgmt_ : P .mgmt) (fb_ : P .fb) (stn_ : P .stn) (ses_ : P
    .ses) (tier_ : P .tier) (trv_ : P .trv) (core_ : P .core) (text_ : P .text) (srch_ : P .srch) (sync_ : P .sync) (pwr_ : P .pwr) (free_
    : P .free) (w : Writer) (hs : At (Keeps P s₀) It s) : At (Keeps P s₀) Nxt (execResetHalf1 w s) := by
  unfold execResetHalf1
  with_reducible repeat' (first
    | assumption | (intro x; refine At.cut x ?_ ?_; rotate_left; intro _; clear_value x; rotate_left; unfold x) | intro _ | lift_lets
    | apply State.restartHalf_keeps | apply State.powerCommand_keeps | apply At.ite | apply At.next | apply At.some | exact At.none
    | dsimp -zeta only [At.mkFst, At.mkSnd] | apply At.foldl | apply At.getD | apply At.fst | apply At.snd
    | ((conv => enter [3, 20]) <;> apply At.upd <;> first | exact .inl ‹_› | exact .inr rfl | skip)
    | ((conv => enter [3, 20]) <;> apply At.updCore) | split | exact At.ofMkFst ‹_› | exact At.ofMkSnd ‹_›
    | refine At.ofNext (by assumption) ?_ | refine At.ofFst (by assumption) ?_ | refine At.ofSnd (by assumption) ?_
    | refine At.ofOpt (by assumption) ?_ | refine At.ofOptSnd (by assumption) ?_ | refine At.ofOptFst (by assumption) ?_
    | refine At.ofOptSnd2 (by assumption) ?_ | apply At.mapAny | dsimp +zetaDelta only)

theorem execManagementWatchdog_keeps {P : Part → Prop} {s₀ s : State} (frame_ : P .frame) (frameStart_ : P .frameStart) (dict_ : P .dict)
    (mgmt_ : P .mgmt) (fb_ : P .fb) (stn_ : P .stn) (ses_ : P .ses) (tier_ : P .tier) (shape_ : P .shape) (trv_ : P .trv) (core_ : P .core)
    (text_ : P .text) (srch_ : P .srch) (sync_ : P .sync) (ck_ : P .ck) (fab_ : P .fab) (pwr_ : P .pwr) (free_ : P .free) (hs : At (Keeps P
    s₀) It s) : At (Keeps P s₀) Nxt (execManagementWatchdog s) := by
  unfold execManagementWatchdog
  with_reducible repeat' (first
    | assumption | (intro x; refine At.cut x ?_ ?_; rotate_left; intro _; clear_value x; rotate_left; unfold x) | intro _ | lift_lets
    | apply State.restartWarm_keeps | apply At.ite | apply At.next | apply At.some | exact At.none | dsimp -zeta only [At.mkFst, At.mkSnd]
    | apply At.foldl | apply At.getD | apply At.fst | apply At.snd
    | ((conv => enter [3, 20]) <;> apply At.upd <;> first | exact .inl ‹_› | exact .inr rfl | skip)
    | ((conv => enter [3, 20]) <;> apply At.updCore) | split | exact At.ofMkFst ‹_› | exact At.ofMkSnd ‹_›
    | refine At.ofNext (by assumption) ?_ | refine At.ofFst (by assumption) ?_ | refine At.ofSnd (by assumption) ?_
    | refine At.ofOpt (by assumption) ?_ | refine At.ofOptSnd (by assumption) ?_ | refine At.ofOptFst (by assumption) ?_
    | refine At.ofOptSnd2 (by assumption) ?_ | apply At.mapAny | dsimp +zetaDelta only)

theorem execStrapSample_keeps {P : Part → Prop} {s₀ s : State} (dict_ : P .dict) (mgmt_ : P .mgmt) (fb_ : P .fb) (stn_ : P .stn) (pwr_ : P
    .pwr) (levels : Nat) (hs : At (Keeps P s₀) It s) : At (Keeps P s₀) Nxt (execStrapSample levels s) := by
  unfold execStrapSample
  with_reducible repeat' (first
    | assumption | (intro x; refine At.cut x ?_ ?_; rotate_left; intro _; clear_value x; rotate_left; unfold x) | intro _ | lift_lets
    | apply State.setObj_keeps | apply State.report_keeps | apply State.setPwr_keeps | apply State.boot_keeps | apply At.ite
    | apply At.next | apply At.some | exact At.none | dsimp -zeta only [At.mkFst, At.mkSnd] | apply At.foldl | apply At.getD
    | apply At.fst | apply At.snd | ((conv => enter [3, 20]) <;> apply At.upd <;> first | exact .inl ‹_› | exact .inr rfl | skip)
    | ((conv => enter [3, 20]) <;> apply At.updCore) | split | exact At.ofMkFst ‹_› | exact At.ofMkSnd ‹_›
    | refine At.ofNext (by assumption) ?_ | refine At.ofFst (by assumption) ?_ | refine At.ofSnd (by assumption) ?_
    | refine At.ofOpt (by assumption) ?_ | refine At.ofOptSnd (by assumption) ?_ | refine At.ofOptFst (by assumption) ?_
    | refine At.ofOptSnd2 (by assumption) ?_ | apply At.mapAny | dsimp +zetaDelta only)

theorem execPinGlitch_keeps {P : Part → Prop} {s₀ s : State} (dict_ : P .dict) (resetN : Bool) (hs : At (Keeps P s₀) It s) : At (Keeps P
    s₀) Nxt (execPinGlitch resetN s) := by
  unfold execPinGlitch
  with_reducible repeat' (first
    | assumption | (intro x; refine At.cut x ?_ ?_; rotate_left; intro _; clear_value x; rotate_left; unfold x) | intro _ | lift_lets
    | apply State.bump_keeps | apply At.ite | apply At.next | apply At.some | exact At.none | dsimp -zeta only [At.mkFst, At.mkSnd]
    | apply At.foldl | apply At.getD | apply At.fst | apply At.snd
    | ((conv => enter [3, 20]) <;> apply At.upd <;> first | exact .inl ‹_› | exact .inr rfl | skip)
    | ((conv => enter [3, 20]) <;> apply At.updCore) | split | exact At.ofMkFst ‹_› | exact At.ofMkSnd ‹_›
    | refine At.ofNext (by assumption) ?_ | refine At.ofFst (by assumption) ?_ | refine At.ofSnd (by assumption) ?_
    | refine At.ofOpt (by assumption) ?_ | refine At.ofOptSnd (by assumption) ?_ | refine At.ofOptFst (by assumption) ?_
    | refine At.ofOptSnd2 (by assumption) ?_ | apply At.mapAny | dsimp +zetaDelta only)

theorem execStakeSlot_keeps {P : Part → Prop} {s₀ s : State} (dict_ : P .dict) (stn_ : P .stn) (core_ : P .core) (sync_ : P .sync) (pwr_ :
    P .pwr) (hs : At (Keeps P s₀) It s) : At (Keeps P s₀) Nxt (execStakeSlot s) := by
  unfold execStakeSlot
  with_reducible repeat' (first
    | assumption | (intro x; refine At.cut x ?_ ?_; rotate_left; intro _; clear_value x; rotate_left; unfold x) | intro _ | lift_lets
    | apply State.setPwr_keeps | apply State.deepNow_keeps | apply At.ite | apply At.next | apply At.some | exact At.none
    | dsimp -zeta only [At.mkFst, At.mkSnd] | apply At.foldl | apply At.getD | apply At.fst | apply At.snd
    | ((conv => enter [3, 20]) <;> apply At.upd <;> first | exact .inl ‹_› | exact .inr rfl | skip)
    | ((conv => enter [3, 20]) <;> apply At.updCore) | split | exact At.ofMkFst ‹_› | exact At.ofMkSnd ‹_›
    | refine At.ofNext (by assumption) ?_ | refine At.ofFst (by assumption) ?_ | refine At.ofSnd (by assumption) ?_
    | refine At.ofOpt (by assumption) ?_ | refine At.ofOptSnd (by assumption) ?_ | refine At.ofOptFst (by assumption) ?_
    | refine At.ofOptSnd2 (by assumption) ?_ | apply At.mapAny | dsimp +zetaDelta only)

theorem execSupplyFault_keeps {P : Part → Prop} {s₀ s : State} (tick_ : P .tick) (frame_ : P .frame) (frameStart_ : P .frameStart) (dict_ :
    P .dict) (mgmt_ : P .mgmt) (fb_ : P .fb) (stn_ : P .stn) (ses_ : P .ses) (tier_ : P .tier) (shape_ : P .shape) (trv_ : P .trv) (core_ :
    P .core) (text_ : P .text) (srch_ : P .srch) (sync_ : P .sync) (ck_ : P .ck) (fab_ : P .fab) (pwr_ : P .pwr) (free_ : P .free) (x :
    Supply) (cons : List (Nat × Nat)) (hs : At (Keeps P s₀) It s) : At (Keeps P s₀) Nxt (execSupplyFault x cons s) := by
  unfold execSupplyFault
  with_reducible repeat' (first
    | assumption | (intro x; refine At.cut x ?_ ?_; rotate_left; intro _; clear_value x; rotate_left; unfold x) | intro _ | lift_lets
    | apply State.forN_keeps | apply State.reportOpen_keeps | apply State.portReport_keeps | apply State.ucieDown_keeps
    | apply State.failChannel_keeps | apply State.stackFail_keeps | apply State.portDown_keeps | apply State.restartPowerOn_keeps
    | apply State.halfLost_keeps | apply At.ite | apply At.next | apply At.some | exact At.none | dsimp -zeta only [At.mkFst, At.mkSnd]
    | apply At.foldl | apply At.getD | apply At.fst | apply At.snd
    | ((conv => enter [3, 20]) <;> apply At.upd <;> first | exact .inl ‹_› | exact .inr rfl | skip)
    | ((conv => enter [3, 20]) <;> apply At.updCore) | split | exact At.ofMkFst ‹_› | exact At.ofMkSnd ‹_›
    | refine At.ofNext (by assumption) ?_ | refine At.ofFst (by assumption) ?_ | refine At.ofSnd (by assumption) ?_
    | refine At.ofOpt (by assumption) ?_ | refine At.ofOptSnd (by assumption) ?_ | refine At.ofOptFst (by assumption) ?_
    | refine At.ofOptSnd2 (by assumption) ?_ | apply At.mapAny | dsimp +zetaDelta only)

theorem execCoreVoltageStep_keeps {P : Part → Prop} {s₀ s : State} (pwr_ : P .pwr) (half : Nat) (up : Bool) (hs : At (Keeps P s₀) It s) :
    At (Keeps P s₀) Nxt (execCoreVoltageStep half up s) := by
  unfold execCoreVoltageStep
  with_reducible repeat' (first
    | assumption | (intro x; refine At.cut x ?_ ?_; rotate_left; intro _; clear_value x; rotate_left; unfold x) | intro _ | lift_lets
    | apply State.setPwr_keeps | apply At.ite | apply At.next | apply At.some | exact At.none | dsimp -zeta only [At.mkFst, At.mkSnd]
    | apply At.foldl | apply At.getD | apply At.fst | apply At.snd
    | ((conv => enter [3, 20]) <;> apply At.upd <;> first | exact .inl ‹_› | exact .inr rfl | skip)
    | ((conv => enter [3, 20]) <;> apply At.updCore) | split | exact At.ofMkFst ‹_› | exact At.ofMkSnd ‹_›
    | refine At.ofNext (by assumption) ?_ | refine At.ofFst (by assumption) ?_ | refine At.ofSnd (by assumption) ?_
    | refine At.ofOpt (by assumption) ?_ | refine At.ofOptSnd (by assumption) ?_ | refine At.ofOptFst (by assumption) ?_
    | refine At.ofOptSnd2 (by assumption) ?_ | apply At.mapAny | dsimp +zetaDelta only)

theorem execUcieModuleSleep_keeps {P : Part → Prop} {s₀ s : State} (stn_ : P .stn) (m : Nat) (hs : At (Keeps P s₀) It s) : At (Keeps P s₀)
    Nxt (execUcieModuleSleep m s) := by
  unfold execUcieModuleSleep
  with_reducible repeat' (first
    | assumption | (intro x; refine At.cut x ?_ ?_; rotate_left; intro _; clear_value x; rotate_left; unfold x) | intro _ | lift_lets
    | apply State.setUcie_keeps | apply At.ite | apply At.next | apply At.some | exact At.none | dsimp -zeta only [At.mkFst, At.mkSnd]
    | apply At.foldl | apply At.getD | apply At.fst | apply At.snd
    | ((conv => enter [3, 20]) <;> apply At.upd <;> first | exact .inl ‹_› | exact .inr rfl | skip)
    | ((conv => enter [3, 20]) <;> apply At.updCore) | split | exact At.ofMkFst ‹_› | exact At.ofMkSnd ‹_›
    | refine At.ofNext (by assumption) ?_ | refine At.ofFst (by assumption) ?_ | refine At.ofSnd (by assumption) ?_
    | refine At.ofOpt (by assumption) ?_ | refine At.ofOptSnd (by assumption) ?_ | refine At.ofOptFst (by assumption) ?_
    | refine At.ofOptSnd2 (by assumption) ?_ | apply At.mapAny | dsimp +zetaDelta only)

theorem execNeighbourDiscovery_keeps {P : Part → Prop} {s₀ s : State} (mgmt_ : P .mgmt) (hs : At (Keeps P s₀) It s) : At (Keeps P s₀) Nxt
    (execNeighbourDiscovery s) := by
  unfold execNeighbourDiscovery
  with_reducible repeat' (first
    | assumption | (intro x; refine At.cut x ?_ ?_; rotate_left; intro _; clear_value x; rotate_left; unfold x) | intro _ | lift_lets
    | apply At.ite | apply At.next | apply At.some | exact At.none | dsimp -zeta only [At.mkFst, At.mkSnd] | apply At.foldl
    | apply At.getD | apply At.fst | apply At.snd
    | ((conv => enter [3, 20]) <;> apply At.upd <;> first | exact .inl ‹_› | exact .inr rfl | skip)
    | ((conv => enter [3, 20]) <;> apply At.updCore) | split | exact At.ofMkFst ‹_› | exact At.ofMkSnd ‹_›
    | refine At.ofNext (by assumption) ?_ | refine At.ofFst (by assumption) ?_ | refine At.ofSnd (by assumption) ?_
    | refine At.ofOpt (by assumption) ?_ | refine At.ofOptSnd (by assumption) ?_ | refine At.ofOptFst (by assumption) ?_
    | refine At.ofOptSnd2 (by assumption) ?_ | apply At.mapAny | dsimp +zetaDelta only)

theorem execCalendarOscillatorStopped_keeps {P : Part → Prop} {s₀ s : State} (dict_ : P .dict) (mgmt_ : P .mgmt) (stn_ : P .stn) (hs : At
    (Keeps P s₀) It s) : At (Keeps P s₀) Nxt (execCalendarOscillatorStopped s) := by
  unfold execCalendarOscillatorStopped
  with_reducible repeat' (first
    | assumption | (intro x; refine At.cut x ?_ ?_; rotate_left; intro _; clear_value x; rotate_left; unfold x) | intro _ | lift_lets
    | apply State.calendarLost_keeps | apply At.ite | apply At.next | apply At.some | exact At.none
    | dsimp -zeta only [At.mkFst, At.mkSnd] | apply At.foldl | apply At.getD | apply At.fst | apply At.snd
    | ((conv => enter [3, 20]) <;> apply At.upd <;> first | exact .inl ‹_› | exact .inr rfl | skip)
    | ((conv => enter [3, 20]) <;> apply At.updCore) | split | exact At.ofMkFst ‹_› | exact At.ofMkSnd ‹_›
    | refine At.ofNext (by assumption) ?_ | refine At.ofFst (by assumption) ?_ | refine At.ofSnd (by assumption) ?_
    | refine At.ofOpt (by assumption) ?_ | refine At.ofOptSnd (by assumption) ?_ | refine At.ofOptFst (by assumption) ?_
    | refine At.ofOptSnd2 (by assumption) ?_ | apply At.mapAny | dsimp +zetaDelta only)

end Sys2Proof.Machine
end

