-- ==== Sys2Proof/Laws/Keeps6.lean ====
section
/-! SUPPORT. What the operations of these files may change: Frame, Keys, Issue, SyncCmds, ObjWrites, Opdun, HostMsgs, LoadStore. -/

namespace Sys2Proof.Machine

set_option linter.all false

/-! ### Machine/Frame.lean -/

theorem State.takeRwf_keeps {P : Part → Prop} {s₀ s : State} (dict_ : P .dict) (mgmt_ : P .mgmt) (fb_ : P .fb) (stn_ : P .stn) (ses_ : P
    .ses) (tier_ : P .tier) (shape_ : P .shape) (text_ : P .text) (ck_ : P .ck) (fab_ : P .fab) (free_ : P .free) (hs : At (Keeps P s₀) It
    s) : At (Keeps P s₀) It (State.takeRwf s) := by
  unfold State.takeRwf
  with_reducible repeat' (first
    | assumption | (intro x; refine At.cut x ?_ ?_; rotate_left; intro _; clear_value x; rotate_left; unfold x) | intro _ | lift_lets
    | apply State.putValue_keeps | apply State.witnessMode_keeps | apply At.ite | apply At.next | apply At.some | exact At.none
    | dsimp -zeta only [At.mkFst, At.mkSnd] | apply At.foldl | apply At.getD | apply At.fst | apply At.snd
    | ((conv => enter [3, 20]) <;> apply At.upd <;> first | exact .inl ‹_› | exact .inr rfl | skip)
    | ((conv => enter [3, 20]) <;> apply At.updCore) | split | exact At.ofMkFst ‹_› | exact At.ofMkSnd ‹_›
    | refine At.ofNext (by assumption) ?_ | refine At.ofFst (by assumption) ?_ | refine At.ofSnd (by assumption) ?_
    | refine At.ofOpt (by assumption) ?_ | refine At.ofOptSnd (by assumption) ?_ | refine At.ofOptFst (by assumption) ?_
    | refine At.ofOptSnd2 (by assumption) ?_ | apply At.mapAny | dsimp +zetaDelta only)

theorem State.boundaryState_keeps {P : Part → Prop} {s₀ s : State} (dict_ : P .dict) (mgmt_ : P .mgmt) (fb_ : P .fb) (stn_ : P .stn) (tier_
    : P .tier) (srch_ : P .srch) (ck_ : P .ck) (fab_ : P .fab) (hs : At (Keeps P s₀) It s) : At (Keeps P s₀) It (State.boundaryState s) :=
    by
  unfold State.boundaryState
  with_reducible repeat' (first
    | assumption | (intro x; refine At.cut x ?_ ?_; rotate_left; intro _; clear_value x; rotate_left; unfold x) | intro _ | lift_lets
    | apply State.camBoundary_keeps | apply State.snapStart_keeps | apply State.platBoundary_keeps | apply State.witnessBoundary_keeps
    | apply At.ite | apply At.next | apply At.some | exact At.none | dsimp -zeta only [At.mkFst, At.mkSnd] | apply At.foldl
    | apply At.getD | apply At.fst | apply At.snd
    | ((conv => enter [3, 20]) <;> apply At.upd <;> first | exact .inl ‹_› | exact .inr rfl | skip)
    | ((conv => enter [3, 20]) <;> apply At.updCore) | split | exact At.ofMkFst ‹_› | exact At.ofMkSnd ‹_›
    | refine At.ofNext (by assumption) ?_ | refine At.ofFst (by assumption) ?_ | refine At.ofSnd (by assumption) ?_
    | refine At.ofOpt (by assumption) ?_ | refine At.ofOptSnd (by assumption) ?_ | refine At.ofOptFst (by assumption) ?_
    | refine At.ofOptSnd2 (by assumption) ?_ | apply At.mapAny | dsimp +zetaDelta only)

theorem State.boundaryTail_keeps {P : Part → Prop} {s₀ s : State} (dict_ : P .dict) (mgmt_ : P .mgmt) (fb_ : P .fb) (stn_ : P .stn) (ses_ :
    P .ses) (tier_ : P .tier) (trv_ : P .trv) (srch_ : P .srch) (fab_ : P .fab) (pwr_ : P .pwr) (free_ : P .free) (hs : At (Keeps P s₀) It
    s) : At (Keeps P s₀) It (State.boundaryTail s) := by
  unfold State.boundaryTail
  with_reducible repeat' (first
    | assumption | (intro x; refine At.cut x ?_ ?_; rotate_left; intro _; clear_value x; rotate_left; unfold x) | intro _ | lift_lets
    | apply State.cancelsLater_keeps | apply State.markRecovered_keeps | apply State.relayOut_keeps | apply State.leaseExpire_keeps
    | apply State.sleepBoundary_keeps | apply State.handoverDone_keeps | apply State.copiesDone_keeps | apply At.ite | apply At.next
    | apply At.some | exact At.none | dsimp -zeta only [At.mkFst, At.mkSnd] | apply At.foldl | apply At.getD | apply At.fst | apply At.snd
    | ((conv => enter [3, 20]) <;> apply At.upd <;> first | exact .inl ‹_› | exact .inr rfl | skip)
    | ((conv => enter [3, 20]) <;> apply At.updCore) | split | exact At.ofMkFst ‹_› | exact At.ofMkSnd ‹_›
    | refine At.ofNext (by assumption) ?_ | refine At.ofFst (by assumption) ?_ | refine At.ofSnd (by assumption) ?_
    | refine At.ofOpt (by assumption) ?_ | refine At.ofOptSnd (by assumption) ?_ | refine At.ofOptFst (by assumption) ?_
    | refine At.ofOptSnd2 (by assumption) ?_ | apply At.mapAny | dsimp +zetaDelta only)

theorem State.boundary_keeps {P : Part → Prop} {s₀ s : State} (frame_ : P .frame) (frameStart_ : P .frameStart) (dict_ : P .dict) (mgmt_ :
    P .mgmt) (fb_ : P .fb) (stn_ : P .stn) (ses_ : P .ses) (tier_ : P .tier) (shape_ : P .shape) (trv_ : P .trv) (core_ : P .core) (text_ :
    P .text) (srch_ : P .srch) (sync_ : P .sync) (ck_ : P .ck) (fab_ : P .fab) (pwr_ : P .pwr) (free_ : P .free) (cons : List (Nat × Nat))
    (outs : List RowOutcome) (hs : At (Keeps P s₀) It s) : At (Keeps P s₀) It (State.boundary s cons outs) := by
  unfold State.boundary
  with_reducible repeat' (first
    | assumption | (intro x; refine At.cut x ?_ ?_; rotate_left; intro _; clear_value x; rotate_left; unfold x) | intro _ | lift_lets
    | apply State.lockSend_keeps | apply State.endFrame_keeps | apply State.startFrame_keeps | apply State.takeRwf_keeps
    | apply State.boundaryState_keeps | apply State.boundaryTail_keeps | apply At.ite | apply At.next | apply At.some | exact At.none
    | dsimp -zeta only [At.mkFst, At.mkSnd] | apply At.foldl | apply At.getD | apply At.fst | apply At.snd
    | ((conv => enter [3, 20]) <;> apply At.upd <;> first | exact .inl ‹_› | exact .inr rfl | skip)
    | ((conv => enter [3, 20]) <;> apply At.updCore) | split | exact At.ofMkFst ‹_› | exact At.ofMkSnd ‹_›
    | refine At.ofNext (by assumption) ?_ | refine At.ofFst (by assumption) ?_ | refine At.ofSnd (by assumption) ?_
    | refine At.ofOpt (by assumption) ?_ | refine At.ofOptSnd (by assumption) ?_ | refine At.ofOptFst (by assumption) ?_
    | refine At.ofOptSnd2 (by assumption) ?_ | apply At.mapAny | dsimp +zetaDelta only)

theorem execFrameBoundary_keeps {P : Part → Prop} {s₀ s : State} (frame_ : P .frame) (frameStart_ : P .frameStart) (dict_ : P .dict) (mgmt_
    : P .mgmt) (fb_ : P .fb) (stn_ : P .stn) (ses_ : P .ses) (tier_ : P .tier) (shape_ : P .shape) (trv_ : P .trv) (core_ : P .core) (text_
    : P .text) (srch_ : P .srch) (sync_ : P .sync) (ck_ : P .ck) (fab_ : P .fab) (pwr_ : P .pwr) (free_ : P .free) (descs : List (Nat ×
    Octets)) (cons : List (Nat × Nat)) (outs : List RowOutcome) (hs : At (Keeps P s₀) It s) : At (Keeps P s₀) Nxt (execFrameBoundary descs
    cons outs s) := by
  unfold execFrameBoundary
  with_reducible repeat' (first
    | assumption | (intro x; refine At.cut x ?_ ?_; rotate_left; intro _; clear_value x; rotate_left; unfold x) | intro _ | lift_lets
    | apply State.readDescs_keeps | apply State.boundary_keeps | apply At.ite | apply At.next | apply At.some | exact At.none
    | dsimp -zeta only [At.mkFst, At.mkSnd] | apply At.foldl | apply At.getD | apply At.fst | apply At.snd
    | ((conv => enter [3, 20]) <;> apply At.upd <;> first | exact .inl ‹_› | exact .inr rfl | skip)
    | ((conv => enter [3, 20]) <;> apply At.updCore) | split | exact At.ofMkFst ‹_› | exact At.ofMkSnd ‹_›
    | refine At.ofNext (by assumption) ?_ | refine At.ofFst (by assumption) ?_ | refine At.ofSnd (by assumption) ?_
    | refine At.ofOpt (by assumption) ?_ | refine At.ofOptSnd (by assumption) ?_ | refine At.ofOptFst (by assumption) ?_
    | refine At.ofOptSnd2 (by assumption) ?_ | apply At.mapAny | dsimp +zetaDelta only)

/-! ### Machine/Keys.lean -/

theorem State.actingWrite_keeps {P : Part → Prop} {s₀ s : State} (dict_ : P .dict) (mgmt_ : P .mgmt) (fb_ : P .fb) (stn_ : P .stn) (w :
    Writer) (o : ObjSpec) (i : Nat) (v : Octets) (go : State → State × Nat) (hgo : ∀ u, At (Keeps P s₀) It u → At (Keeps P s₀) (Fst It) (go
    u)) (hs : At (Keeps P s₀) It s) : At (Keeps P s₀) It (State.actingWrite s w o i v go) := by
  unfold State.actingWrite
  with_reducible repeat' (first
    | assumption | (intro x; refine At.cut x ?_ ?_; rotate_left; intro _; clear_value x; rotate_left; unfold x) | intro _ | lift_lets
    | apply State.command_keeps | apply hgo | apply At.ite | apply At.next | apply At.some | exact At.none
    | dsimp -zeta only [At.mkFst, At.mkSnd] | apply At.foldl | apply At.getD | apply At.fst | apply At.snd
    | ((conv => enter [3, 20]) <;> apply At.upd <;> first | exact .inl ‹_› | exact .inr rfl | skip)
    | ((conv => enter [3, 20]) <;> apply At.updCore) | split | exact At.ofMkFst ‹_› | exact At.ofMkSnd ‹_›
    | refine At.ofNext (by assumption) ?_ | refine At.ofFst (by assumption) ?_ | refine At.ofSnd (by assumption) ?_
    | refine At.ofOpt (by assumption) ?_ | refine At.ofOptSnd (by assumption) ?_ | refine At.ofOptFst (by assumption) ?_
    | refine At.ofOptSnd2 (by assumption) ?_ | apply At.mapAny | dsimp +zetaDelta only)

theorem execStnCapStage_keeps {P : Part → Prop} {s₀ s : State} (dict_ : P .dict) (mgmt_ : P .mgmt) (fb_ : P .fb) (stn_ : P .stn) (free_ : P
    .free) (w : Writer) (ss : Nat) (part : Octets) (hs : At (Keeps P s₀) It s) : At (Keeps P s₀) Nxt (execStnCapStage w ss part s) := by
  unfold execStnCapStage
  with_reducible repeat' (first
    | assumption | (intro x; refine At.cut x ?_ ?_; rotate_left; intro _; clear_value x; rotate_left; unfold x) | intro _ | lift_lets
    | apply State.capStage_keeps | apply State.actingWrite_keeps | apply At.ite | apply At.next | apply At.some | exact At.none
    | dsimp -zeta only [At.mkFst, At.mkSnd] | apply At.foldl | apply At.getD | apply At.fst | apply At.snd
    | ((conv => enter [3, 20]) <;> apply At.upd <;> first | exact .inl ‹_› | exact .inr rfl | skip)
    | ((conv => enter [3, 20]) <;> apply At.updCore) | split | exact At.ofMkFst ‹_› | exact At.ofMkSnd ‹_›
    | refine At.ofNext (by assumption) ?_ | refine At.ofFst (by assumption) ?_ | refine At.ofSnd (by assumption) ?_
    | refine At.ofOpt (by assumption) ?_ | refine At.ofOptSnd (by assumption) ?_ | refine At.ofOptFst (by assumption) ?_
    | refine At.ofOptSnd2 (by assumption) ?_ | apply At.mapAny | dsimp +zetaDelta only)

theorem execTkCommit_keeps {P : Part → Prop} {s₀ s : State} (dict_ : P .dict) (mgmt_ : P .mgmt) (fb_ : P .fb) (stn_ : P .stn) (w : Writer)
    (k : Nat) (hs : At (Keeps P s₀) It s) : At (Keeps P s₀) Nxt (execTkCommit w k s) := by
  unfold execTkCommit
  with_reducible repeat' (first
    | assumption | (intro x; refine At.cut x ?_ ?_; rotate_left; intro _; clear_value x; rotate_left; unfold x) | intro _ | lift_lets
    | apply State.reply_keeps | apply State.command_keeps | apply State.keyCommit_keeps | apply At.ite | apply At.next | apply At.some
    | exact At.none | dsimp -zeta only [At.mkFst, At.mkSnd] | apply At.foldl | apply At.getD | apply At.fst | apply At.snd
    | ((conv => enter [3, 20]) <;> apply At.upd <;> first | exact .inl ‹_› | exact .inr rfl | skip)
    | ((conv => enter [3, 20]) <;> apply At.updCore) | split | exact At.ofMkFst ‹_› | exact At.ofMkSnd ‹_›
    | refine At.ofNext (by assumption) ?_ | refine At.ofFst (by assumption) ?_ | refine At.ofSnd (by assumption) ?_
    | refine At.ofOpt (by assumption) ?_ | refine At.ofOptSnd (by assumption) ?_ | refine At.ofOptFst (by assumption) ?_
    | refine At.ofOptSnd2 (by assumption) ?_ | apply At.mapAny | dsimp +zetaDelta only)

theorem execTkClear_keeps {P : Part → Prop} {s₀ s : State} (dict_ : P .dict) (mgmt_ : P .mgmt) (fb_ : P .fb) (stn_ : P .stn) (w : Writer)
    (k : Nat) (hs : At (Keeps P s₀) It s) : At (Keeps P s₀) Nxt (execTkClear w k s) := by
  unfold execTkClear
  with_reducible repeat' (first
    | assumption | (intro x; refine At.cut x ?_ ?_; rotate_left; intro _; clear_value x; rotate_left; unfold x) | intro _ | lift_lets
    | apply State.command_keeps | apply State.keyClear_keeps | apply At.ite | apply At.next | apply At.some | exact At.none
    | dsimp -zeta only [At.mkFst, At.mkSnd] | apply At.foldl | apply At.getD | apply At.fst | apply At.snd
    | ((conv => enter [3, 20]) <;> apply At.upd <;> first | exact .inl ‹_› | exact .inr rfl | skip)
    | ((conv => enter [3, 20]) <;> apply At.updCore) | split | exact At.ofMkFst ‹_› | exact At.ofMkSnd ‹_›
    | refine At.ofNext (by assumption) ?_ | refine At.ofFst (by assumption) ?_ | refine At.ofSnd (by assumption) ?_
    | refine At.ofOpt (by assumption) ?_ | refine At.ofOptSnd (by assumption) ?_ | refine At.ofOptFst (by assumption) ?_
    | refine At.ofOptSnd2 (by assumption) ?_ | apply At.mapAny | dsimp +zetaDelta only)

theorem State.fwCommand_keeps {P : Part → Prop} {s₀ s : State} (dict_ : P .dict) (mgmt_ : P .mgmt) (fb_ : P .fb) (stn_ : P .stn) (w :
    Writer) (code : Nat) (go : State → State × Nat) (hgo : ∀ u, At (Keeps P s₀) It u → At (Keeps P s₀) (Fst It) (go u)) (hs : At (Keeps P
    s₀) It s) : At (Keeps P s₀) It (State.fwCommand s w code go) := by
  unfold State.fwCommand
  with_reducible repeat' (first
    | assumption | (intro x; refine At.cut x ?_ ?_; rotate_left; intro _; clear_value x; rotate_left; unfold x) | intro _ | lift_lets
    | apply State.command_keeps | apply hgo | apply At.ite | apply At.next | apply At.some | exact At.none
    | dsimp -zeta only [At.mkFst, At.mkSnd] | apply At.foldl | apply At.getD | apply At.fst | apply At.snd
    | ((conv => enter [3, 20]) <;> apply At.upd <;> first | exact .inl ‹_› | exact .inr rfl | skip)
    | ((conv => enter [3, 20]) <;> apply At.updCore) | split | exact At.ofMkFst ‹_› | exact At.ofMkSnd ‹_›
    | refine At.ofNext (by assumption) ?_ | refine At.ofFst (by assumption) ?_ | refine At.ofSnd (by assumption) ?_
    | refine At.ofOpt (by assumption) ?_ | refine At.ofOptSnd (by assumption) ?_ | refine At.ofOptFst (by assumption) ?_
    | refine At.ofOptSnd2 (by assumption) ?_ | apply At.mapAny | dsimp +zetaDelta only)

theorem execStage_keeps {P : Part → Prop} {s₀ s : State} (dict_ : P .dict) (mgmt_ : P .mgmt) (fb_ : P .fb) (stn_ : P .stn) (w : Writer) (o
    : Option Octets) (hs : At (Keeps P s₀) It s) : At (Keeps P s₀) Nxt (execStage w o s) := by
  unfold execStage
  with_reducible repeat' (first
    | assumption | (intro x; refine At.cut x ?_ ?_; rotate_left; intro _; clear_value x; rotate_left; unfold x) | intro _ | lift_lets
    | apply State.fwStage_keeps | apply State.fwCommand_keeps | apply At.ite | apply At.next | apply At.some | exact At.none
    | dsimp -zeta only [At.mkFst, At.mkSnd] | apply At.foldl | apply At.getD | apply At.fst | apply At.snd
    | ((conv => enter [3, 20]) <;> apply At.upd <;> first | exact .inl ‹_› | exact .inr rfl | skip)
    | ((conv => enter [3, 20]) <;> apply At.updCore) | split | exact At.ofMkFst ‹_› | exact At.ofMkSnd ‹_›
    | refine At.ofNext (by assumption) ?_ | refine At.ofFst (by assumption) ?_ | refine At.ofSnd (by assumption) ?_
    | refine At.ofOpt (by assumption) ?_ | refine At.ofOptSnd (by assumption) ?_ | refine At.ofOptFst (by assumption) ?_
    | refine At.ofOptSnd2 (by assumption) ?_ | apply At.mapAny | dsimp +zetaDelta only)

theorem execFwChunkWrite_keeps {P : Part → Prop} {s₀ s : State} (dict_ : P .dict) (mgmt_ : P .mgmt) (fb_ : P .fb) (stn_ : P .stn) (w :
    Writer) (v : Octets) (hs : At (Keeps P s₀) It s) : At (Keeps P s₀) Nxt (execFwChunkWrite w v s) := by
  unfold execFwChunkWrite
  with_reducible repeat' (first
    | assumption | (intro x; refine At.cut x ?_ ?_; rotate_left; intro _; clear_value x; rotate_left; unfold x) | intro _ | lift_lets
    | apply State.fwChunk_keeps | apply State.actingWrite_keeps | apply At.ite | apply At.next | apply At.some | exact At.none
    | dsimp -zeta only [At.mkFst, At.mkSnd] | apply At.foldl | apply At.getD | apply At.fst | apply At.snd
    | ((conv => enter [3, 20]) <;> apply At.upd <;> first | exact .inl ‹_› | exact .inr rfl | skip)
    | ((conv => enter [3, 20]) <;> apply At.updCore) | split | exact At.ofMkFst ‹_› | exact At.ofMkSnd ‹_›
    | refine At.ofNext (by assumption) ?_ | refine At.ofFst (by assumption) ?_ | refine At.ofSnd (by assumption) ?_
    | refine At.ofOpt (by assumption) ?_ | refine At.ofOptSnd (by assumption) ?_ | refine At.ofOptFst (by assumption) ?_
    | refine At.ofOptSnd2 (by assumption) ?_ | apply At.mapAny | dsimp +zetaDelta only)

theorem execFwCmdVerify_keeps {P : Part → Prop} {s₀ s : State} (dict_ : P .dict) (mgmt_ : P .mgmt) (fb_ : P .fb) (stn_ : P .stn) (w :
    Writer) (hs : At (Keeps P s₀) It s) : At (Keeps P s₀) Nxt (execFwCmdVerify w s) := by
  unfold execFwCmdVerify
  with_reducible repeat' (first
    | assumption | (intro x; refine At.cut x ?_ ?_; rotate_left; intro _; clear_value x; rotate_left; unfold x) | intro _ | lift_lets
    | apply State.fwVerify_keeps | apply State.fwCommand_keeps | apply At.ite | apply At.next | apply At.some | exact At.none
    | dsimp -zeta only [At.mkFst, At.mkSnd] | apply At.foldl | apply At.getD | apply At.fst | apply At.snd
    | ((conv => enter [3, 20]) <;> apply At.upd <;> first | exact .inl ‹_› | exact .inr rfl | skip)
    | ((conv => enter [3, 20]) <;> apply At.updCore) | split | exact At.ofMkFst ‹_› | exact At.ofMkSnd ‹_›
    | refine At.ofNext (by assumption) ?_ | refine At.ofFst (by assumption) ?_ | refine At.ofSnd (by assumption) ?_
    | refine At.ofOpt (by assumption) ?_ | refine At.ofOptSnd (by assumption) ?_ | refine At.ofOptFst (by assumption) ?_
    | refine At.ofOptSnd2 (by assumption) ?_ | apply At.mapAny | dsimp +zetaDelta only)

theorem execFwActivate_keeps {P : Part → Prop} {s₀ s : State} (dict_ : P .dict) (mgmt_ : P .mgmt) (fb_ : P .fb) (stn_ : P .stn) (w :
    Writer) (hs : At (Keeps P s₀) It s) : At (Keeps P s₀) Nxt (execFwActivate w s) := by
  unfold execFwActivate
  with_reducible repeat' (first
    | assumption | (intro x; refine At.cut x ?_ ?_; rotate_left; intro _; clear_value x; rotate_left; unfold x) | intro _ | lift_lets
    | apply State.fwActivate_keeps | apply State.fwCommand_keeps | apply At.ite | apply At.next | apply At.some | exact At.none
    | dsimp -zeta only [At.mkFst, At.mkSnd] | apply At.foldl | apply At.getD | apply At.fst | apply At.snd
    | ((conv => enter [3, 20]) <;> apply At.upd <;> first | exact .inl ‹_› | exact .inr rfl | skip)
    | ((conv => enter [3, 20]) <;> apply At.updCore) | split | exact At.ofMkFst ‹_› | exact At.ofMkSnd ‹_›
    | refine At.ofNext (by assumption) ?_ | refine At.ofFst (by assumption) ?_ | refine At.ofSnd (by assumption) ?_
    | refine At.ofOpt (by assumption) ?_ | refine At.ofOptSnd (by assumption) ?_ | refine At.ofOptFst (by assumption) ?_
    | refine At.ofOptSnd2 (by assumption) ?_ | apply At.mapAny | dsimp +zetaDelta only)

theorem execConfirm_keeps {P : Part → Prop} {s₀ s : State} (dict_ : P .dict) (mgmt_ : P .mgmt) (fb_ : P .fb) (stn_ : P .stn) (w : Writer)
    (hs : At (Keeps P s₀) It s) : At (Keeps P s₀) Nxt (execConfirm w s) := by
  unfold execConfirm
  with_reducible repeat' (first
    | assumption | (intro x; refine At.cut x ?_ ?_; rotate_left; intro _; clear_value x; rotate_left; unfold x) | intro _ | lift_lets
    | apply State.fwConfirm_keeps | apply State.fwCommand_keeps | apply At.ite | apply At.next | apply At.some | exact At.none
    | dsimp -zeta only [At.mkFst, At.mkSnd] | apply At.foldl | apply At.getD | apply At.fst | apply At.snd
    | ((conv => enter [3, 20]) <;> apply At.upd <;> first | exact .inl ‹_› | exact .inr rfl | skip)
    | ((conv => enter [3, 20]) <;> apply At.updCore) | split | exact At.ofMkFst ‹_› | exact At.ofMkSnd ‹_›
    | refine At.ofNext (by assumption) ?_ | refine At.ofFst (by assumption) ?_ | refine At.ofSnd (by assumption) ?_
    | refine At.ofOpt (by assumption) ?_ | refine At.ofOptSnd (by assumption) ?_ | refine At.ofOptFst (by assumption) ?_
    | refine At.ofOptSnd2 (by assumption) ?_ | apply At.mapAny | dsimp +zetaDelta only)

theorem execErase_keeps {P : Part → Prop} {s₀ s : State} (dict_ : P .dict) (mgmt_ : P .mgmt) (fb_ : P .fb) (stn_ : P .stn) (w : Writer) (hs
    : At (Keeps P s₀) It s) : At (Keeps P s₀) Nxt (execErase w s) := by
  unfold execErase
  with_reducible repeat' (first
    | assumption | (intro x; refine At.cut x ?_ ?_; rotate_left; intro _; clear_value x; rotate_left; unfold x) | intro _ | lift_lets
    | apply State.fwErase_keeps | apply State.fwCommand_keeps | apply At.ite | apply At.next | apply At.some | exact At.none
    | dsimp -zeta only [At.mkFst, At.mkSnd] | apply At.foldl | apply At.getD | apply At.fst | apply At.snd
    | ((conv => enter [3, 20]) <;> apply At.upd <;> first | exact .inl ‹_› | exact .inr rfl | skip)
    | ((conv => enter [3, 20]) <;> apply At.updCore) | split | exact At.ofMkFst ‹_› | exact At.ofMkSnd ‹_›
    | refine At.ofNext (by assumption) ?_ | refine At.ofFst (by assumption) ?_ | refine At.ofSnd (by assumption) ?_
    | refine At.ofOpt (by assumption) ?_ | refine At.ofOptSnd (by assumption) ?_ | refine At.ofOptFst (by assumption) ?_
    | refine At.ofOptSnd2 (by assumption) ?_ | apply At.mapAny | dsimp +zetaDelta only)

theorem execFwTrialTimeout_keeps {P : Part → Prop} {s₀ s : State} (frame_ : P .frame) (frameStart_ : P .frameStart) (dict_ : P .dict)
    (mgmt_ : P .mgmt) (fb_ : P .fb) (stn_ : P .stn) (ses_ : P .ses) (tier_ : P .tier) (shape_ : P .shape) (trv_ : P .trv) (core_ : P .core)
    (text_ : P .text) (srch_ : P .srch) (sync_ : P .sync) (ck_ : P .ck) (fab_ : P .fab) (pwr_ : P .pwr) (free_ : P .free) (hs : At (Keeps P
    s₀) It s) : At (Keeps P s₀) Nxt (execFwTrialTimeout s) := by
  unfold execFwTrialTimeout
  with_reducible repeat' (first
    | assumption | (intro x; refine At.cut x ?_ ?_; rotate_left; intro _; clear_value x; rotate_left; unfold x) | intro _ | lift_lets
    | apply State.restartWarm_keeps | apply At.ite | apply At.next | apply At.some | exact At.none | dsimp -zeta only [At.mkFst, At.mkSnd]
    | apply At.foldl | apply At.getD | apply At.fst | apply At.snd
    | ((conv => enter [3, 20]) <;> apply At.upd <;> first | exact .inl ‹_› | exact .inr rfl | skip)
    | ((conv => enter [3, 20]) <;> apply At.updCore) | split | exact At.ofMkFst ‹_› | exact At.ofMkSnd ‹_›
    | refine At.ofNext (by assumption) ?_ | refine At.ofFst (by assumption) ?_ | refine At.ofSnd (by assumption) ?_
    | refine At.ofOpt (by assumption) ?_ | refine At.ofOptSnd (by assumption) ?_ | refine At.ofOptFst (by assumption) ?_
    | refine At.ofOptSnd2 (by assumption) ?_ | apply At.mapAny | dsimp +zetaDelta only)

theorem execAttNonceWrite_keeps {P : Part → Prop} {s₀ s : State} (dict_ : P .dict) (mgmt_ : P .mgmt) (fb_ : P .fb) (stn_ : P .stn) (w :
    Writer) (nonce : Octets) (hs : At (Keeps P s₀) It s) : At (Keeps P s₀) Nxt (execAttNonceWrite w nonce s) := by
  unfold execAttNonceWrite
  with_reducible repeat' (first
    | assumption | (intro x; refine At.cut x ?_ ?_; rotate_left; intro _; clear_value x; rotate_left; unfold x) | intro _ | lift_lets
    | apply State.attNonce_keeps | apply State.actingWrite_keeps | apply At.ite | apply At.next | apply At.some | exact At.none
    | dsimp -zeta only [At.mkFst, At.mkSnd] | apply At.foldl | apply At.getD | apply At.fst | apply At.snd
    | ((conv => enter [3, 20]) <;> apply At.upd <;> first | exact .inl ‹_› | exact .inr rfl | skip)
    | ((conv => enter [3, 20]) <;> apply At.updCore) | split | exact At.ofMkFst ‹_› | exact At.ofMkSnd ‹_›
    | refine At.ofNext (by assumption) ?_ | refine At.ofFst (by assumption) ?_ | refine At.ofSnd (by assumption) ?_
    | refine At.ofOpt (by assumption) ?_ | refine At.ofOptSnd (by assumption) ?_ | refine At.ofOptFst (by assumption) ?_
    | refine At.ofOptSnd2 (by assumption) ?_ | apply At.mapAny | dsimp +zetaDelta only)

theorem execAttestReady_keeps {P : Part → Prop} {s₀ s : State} (dict_ : P .dict) (mgmt_ : P .mgmt) (free_ : P .free) (hs : At (Keeps P s₀)
    It s) : At (Keeps P s₀) Nxt (execAttestReady s) := by
  unfold execAttestReady
  with_reducible repeat' (first
    | assumption | (intro x; refine At.cut x ?_ ?_; rotate_left; intro _; clear_value x; rotate_left; unfold x) | intro _ | lift_lets
    | apply State.attReady_keeps | apply At.ite | apply At.next | apply At.some | exact At.none | dsimp -zeta only [At.mkFst, At.mkSnd]
    | apply At.foldl | apply At.getD | apply At.fst | apply At.snd
    | ((conv => enter [3, 20]) <;> apply At.upd <;> first | exact .inl ‹_› | exact .inr rfl | skip)
    | ((conv => enter [3, 20]) <;> apply At.updCore) | split | exact At.ofMkFst ‹_› | exact At.ofMkSnd ‹_›
    | refine At.ofNext (by assumption) ?_ | refine At.ofFst (by assumption) ?_ | refine At.ofSnd (by assumption) ?_
    | refine At.ofOpt (by assumption) ?_ | refine At.ofOptSnd (by assumption) ?_ | refine At.ofOptFst (by assumption) ?_
    | refine At.ofOptSnd2 (by assumption) ?_ | apply At.mapAny | dsimp +zetaDelta only)

theorem execCalSet_keeps {P : Part → Prop} {s₀ s : State} (dict_ : P .dict) (mgmt_ : P .mgmt) (fb_ : P .fb) (stn_ : P .stn) (w : Writer) (v
    : Nat) (hs : At (Keeps P s₀) It s) : At (Keeps P s₀) Nxt (execCalSet w v s) := by
  unfold execCalSet
  with_reducible repeat' (first
    | assumption | (intro x; refine At.cut x ?_ ?_; rotate_left; intro _; clear_value x; rotate_left; unfold x) | intro _ | lift_lets
    | apply State.actingWrite_keeps | apply At.ite | apply At.next | apply At.some | exact At.none | dsimp -zeta only [At.mkFst, At.mkSnd]
    | apply At.foldl | apply At.getD | apply At.fst | apply At.snd
    | ((conv => enter [3, 20]) <;> apply At.upd <;> first | exact .inl ‹_› | exact .inr rfl | skip)
    | ((conv => enter [3, 20]) <;> apply At.updCore) | split | exact At.ofMkFst ‹_› | exact At.ofMkSnd ‹_›
    | refine At.ofNext (by assumption) ?_ | refine At.ofFst (by assumption) ?_ | refine At.ofSnd (by assumption) ?_
    | refine At.ofOpt (by assumption) ?_ | refine At.ofOptSnd (by assumption) ?_ | refine At.ofOptFst (by assumption) ?_
    | refine At.ofOptSnd2 (by assumption) ?_ | apply At.mapAny | dsimp +zetaDelta only)

theorem execCalendarSecond_keeps {P : Part → Prop} {s₀ s : State} (dict_ : P .dict) (mgmt_ : P .mgmt) (hs : At (Keeps P s₀) It s) : At
    (Keeps P s₀) Nxt (execCalendarSecond s) := by
  unfold execCalendarSecond
  with_reducible repeat' (first
    | assumption | (intro x; refine At.cut x ?_ ?_; rotate_left; intro _; clear_value x; rotate_left; unfold x) | intro _ | lift_lets
    | apply State.calendarEdge_keeps | apply At.ite | apply At.next | apply At.some | exact At.none
    | dsimp -zeta only [At.mkFst, At.mkSnd] | apply At.foldl | apply At.getD | apply At.fst | apply At.snd
    | ((conv => enter [3, 20]) <;> apply At.upd <;> first | exact .inl ‹_› | exact .inr rfl | skip)
    | ((conv => enter [3, 20]) <;> apply At.updCore) | split | exact At.ofMkFst ‹_› | exact At.ofMkSnd ‹_›
    | refine At.ofNext (by assumption) ?_ | refine At.ofFst (by assumption) ?_ | refine At.ofSnd (by assumption) ?_
    | refine At.ofOpt (by assumption) ?_ | refine At.ofOptSnd (by assumption) ?_ | refine At.ofOptFst (by assumption) ?_
    | refine At.ofOptSnd2 (by assumption) ?_ | apply At.mapAny | dsimp +zetaDelta only)

/-! ### Machine/Issue.lean -/

theorem State.cameTo_keeps {P : Part → Prop} {s₀ s : State} (dict_ : P .dict) (core_ : P .core) (a : Issue) (hs : At (Keeps P s₀) It s) :
    At (Keeps P s₀) It (State.cameTo s a) := by
  unfold State.cameTo
  with_reducible repeat' (first
    | assumption | (intro x; refine At.cut x ?_ ?_; rotate_left; intro _; clear_value x; rotate_left; unfold x) | intro _ | lift_lets
    | apply State.addObj_keeps | apply State.clusterAdvance_keeps | exact wf_nil | apply Core.settle_store | apply Core.write_store
    | apply wf_foldl_bputs | apply Core.result_store | apply Core.flags_store | apply Core.moved_store | apply Core.lanewise_store
    | exact coreInit_store | apply id_store | apply State.coreAt_store | apply State.clusterStore_wf | apply wf_bputs | apply wf_filter
    | apply wf_storeTile | apply State.issued_store | apply State.cameTo_stores | exact stores_same ‹_› | exact stores_nil
    | exact stores_filter ‹_› | apply At.ite | apply At.next | apply At.some | exact At.none | dsimp -zeta only [At.mkFst, At.mkSnd]
    | apply At.foldl | apply At.getD | apply At.fst | apply At.snd
    | ((conv => enter [3, 20]) <;> apply At.upd <;> first | exact .inl ‹_› | exact .inr rfl | skip)
    | ((conv => enter [3, 20]) <;> apply At.updCore) | split | exact At.ofMkFst ‹_› | exact At.ofMkSnd ‹_›
    | refine At.ofNext (by assumption) ?_ | refine At.ofFst (by assumption) ?_ | refine At.ofSnd (by assumption) ?_
    | refine At.ofOpt (by assumption) ?_ | refine At.ofOptSnd (by assumption) ?_ | refine At.ofOptFst (by assumption) ?_
    | refine At.ofOptSnd2 (by assumption) ?_ | apply At.mapAny | dsimp +zetaDelta only)

theorem State.afterIssue_keeps {P : Part → Prop} {s₀ s : State} (dict_ : P .dict) (core_ : P .core) (a : Issue) (slot : Nat) (c : Core) (hf
    : (s.cameTo a).stores → Memory.wf c.store = true) (hs : At (Keeps P s₀) It s) : At (Keeps P s₀) It (State.afterIssue s a slot c) := by
  unfold State.afterIssue
  with_reducible repeat' (first
    | assumption | (intro x; refine At.cut x ?_ ?_; rotate_left; intro _; clear_value x; rotate_left; unfold x) | intro _ | lift_lets
    | apply State.setCore_keeps | apply State.cameTo_keeps | apply hf | exact wf_nil | apply Core.settle_store | apply Core.write_store
    | apply wf_foldl_bputs | apply Core.result_store | apply Core.flags_store | apply Core.moved_store | apply Core.lanewise_store
    | exact coreInit_store | apply id_store | apply State.coreAt_store | apply State.clusterStore_wf | apply wf_bputs | apply wf_filter
    | apply wf_storeTile | apply State.issued_store | apply State.cameTo_stores | apply hf | apply At.ite | apply At.next | apply At.some
    | exact At.none | dsimp -zeta only [At.mkFst, At.mkSnd] | apply At.foldl | apply At.getD | apply At.fst | apply At.snd
    | ((conv => enter [3, 20]) <;> apply At.upd <;> first | exact .inl ‹_› | exact .inr rfl | skip)
    | ((conv => enter [3, 20]) <;> apply At.updCore) | split | exact At.ofMkFst ‹_› | exact At.ofMkSnd ‹_›
    | refine At.ofNext (by assumption) ?_ | refine At.ofFst (by assumption) ?_ | refine At.ofSnd (by assumption) ?_
    | refine At.ofOpt (by assumption) ?_ | refine At.ofOptSnd (by assumption) ?_ | refine At.ofOptFst (by assumption) ?_
    | refine At.ofOptSnd2 (by assumption) ?_ | apply At.mapAny | dsimp +zetaDelta only)

theorem State.issue_keeps {P : Part → Prop} {s₀ s : State} (dict_ : P .dict) (mgmt_ : P .mgmt) (fb_ : P .fb) (stn_ : P .stn) (trv_ : P
    .trv) (core_ : P .core) (text_ : P .text) (sync_ : P .sync) (pwr_ : P .pwr) (u : OpUnit) (a : Issue) (f : Core → Core) (hf : ∀ c :
    Core, Memory.wf c.store = true → Memory.wf (f c).store = true) (hs : At (Keeps P s₀) It s) : At (Keeps P s₀) It (State.issue s u a f)
    := by
  unfold State.issue
  with_reducible repeat' (first
    | assumption | (intro x; refine At.cut x ?_ ?_; rotate_left; intro _; clear_value x; rotate_left; unfold x) | intro _ | lift_lets
    | apply State.setCore_keeps | apply State.detect_keeps | apply State.cameTo_keeps | apply State.afterIssue_keeps | apply hf
    | exact wf_nil | apply Core.settle_store | apply Core.write_store | apply wf_foldl_bputs | apply Core.result_store
    | apply Core.flags_store | apply Core.moved_store | apply Core.lanewise_store | exact coreInit_store | apply id_store
    | apply State.coreAt_store | apply State.clusterStore_wf | apply wf_bputs | apply wf_filter | apply wf_storeTile
    | apply State.issued_store | apply State.cameTo_stores | apply hf | apply At.ite | apply At.next | apply At.some | exact At.none
    | dsimp -zeta only [At.mkFst, At.mkSnd] | apply At.foldl | apply At.getD | apply At.fst | apply At.snd
    | ((conv => enter [3, 20]) <;> apply At.upd <;> first | exact .inl ‹_› | exact .inr rfl | skip)
    | ((conv => enter [3, 20]) <;> apply At.updCore) | split | exact At.ofMkFst ‹_› | exact At.ofMkSnd ‹_›
    | refine At.ofNext (by assumption) ?_ | refine At.ofFst (by assumption) ?_ | refine At.ofSnd (by assumption) ?_
    | refine At.ofOpt (by assumption) ?_ | refine At.ofOptSnd (by assumption) ?_ | refine At.ofOptFst (by assumption) ?_
    | refine At.ofOptSnd2 (by assumption) ?_ | apply At.mapAny | dsimp +zetaDelta only)

theorem State.slotVoid_keeps {P : Part → Prop} {s₀ s : State} (dict_ : P .dict) (mgmt_ : P .mgmt) (fb_ : P .fb) (stn_ : P .stn) (trv_ : P
    .trv) (core_ : P .core) (text_ : P .text) (sync_ : P .sync) (pwr_ : P .pwr) (u : OpUnit) (a : Issue) (hs : At (Keeps P s₀) It s) : At
    (Keeps P s₀) It (State.slotVoid s u a) := by
  unfold State.slotVoid
  with_reducible repeat' (first
    | assumption | (intro x; refine At.cut x ?_ ?_; rotate_left; intro _; clear_value x; rotate_left; unfold x) | intro _ | lift_lets
    | apply State.bump_keeps | apply State.issue_keeps | exact wf_nil | apply Core.settle_store | apply Core.write_store
    | apply wf_foldl_bputs | apply Core.result_store | apply Core.flags_store | apply Core.moved_store | apply Core.lanewise_store
    | exact coreInit_store | apply id_store | apply State.coreAt_store | apply State.clusterStore_wf | apply wf_bputs | apply wf_filter
    | apply wf_storeTile | apply State.issued_store | apply State.cameTo_stores | apply At.ite | apply At.next | apply At.some
    | exact At.none | dsimp -zeta only [At.mkFst, At.mkSnd] | apply At.foldl | apply At.getD | apply At.fst | apply At.snd
    | ((conv => enter [3, 20]) <;> apply At.upd <;> first | exact .inl ‹_› | exact .inr rfl | skip)
    | ((conv => enter [3, 20]) <;> apply At.updCore) | split | exact At.ofMkFst ‹_› | exact At.ofMkSnd ‹_›
    | refine At.ofNext (by assumption) ?_ | refine At.ofFst (by assumption) ?_ | refine At.ofSnd (by assumption) ?_
    | refine At.ofOpt (by assumption) ?_ | refine At.ofOptSnd (by assumption) ?_ | refine At.ofOptFst (by assumption) ?_
    | refine At.ofOptSnd2 (by assumption) ?_ | apply At.mapAny | dsimp +zetaDelta only)

theorem State.floatOp_keeps {P : Part → Prop} {s₀ s : State} (dict_ : P .dict) (mgmt_ : P .mgmt) (fb_ : P .fb) (stn_ : P .stn) (trv_ : P
    .trv) (core_ : P .core) (text_ : P .text) (sync_ : P .sync) (pwr_ : P .pwr) (u : OpUnit) (a : Issue) (code : Nat) (latency : Nat) (t :
    VType) (vd : Nat) (va : Nat) (vb : Nat) (vc : Nat) (vp : VPred) (f : FFmt → Lane → Lane → Lane → Lane × Sticky) (hs : At (Keeps P s₀)
    It s) : At (Keeps P s₀) It (State.floatOp s u a code latency t vd va vb vc vp f) := by
  unfold State.floatOp
  with_reducible repeat' (first
    | assumption | (intro x; refine At.cut x ?_ ?_; rotate_left; intro _; clear_value x; rotate_left; unfold x) | intro _ | lift_lets
    | apply State.issue_keeps | apply State.slotVoid_keeps | exact wf_nil | apply Core.settle_store | apply Core.write_store
    | apply wf_foldl_bputs | apply Core.result_store | apply Core.flags_store | apply Core.moved_store | apply Core.lanewise_store
    | exact coreInit_store | apply id_store | apply State.coreAt_store | apply State.clusterStore_wf | apply wf_bputs | apply wf_filter
    | apply wf_storeTile | apply State.issued_store | apply State.cameTo_stores | apply At.ite | apply At.next | apply At.some
    | exact At.none | dsimp -zeta only [At.mkFst, At.mkSnd] | apply At.foldl | apply At.getD | apply At.fst | apply At.snd
    | ((conv => enter [3, 20]) <;> apply At.upd <;> first | exact .inl ‹_› | exact .inr rfl | skip)
    | ((conv => enter [3, 20]) <;> apply At.updCore) | split | exact At.ofMkFst ‹_› | exact At.ofMkSnd ‹_›
    | refine At.ofNext (by assumption) ?_ | refine At.ofFst (by assumption) ?_ | refine At.ofSnd (by assumption) ?_
    | refine At.ofOpt (by assumption) ?_ | refine At.ofOptSnd (by assumption) ?_ | refine At.ofOptFst (by assumption) ?_
    | refine At.ofOptSnd2 (by assumption) ?_ | apply At.mapAny | dsimp +zetaDelta only)

theorem State.intOp_keeps {P : Part → Prop} {s₀ s : State} (dict_ : P .dict) (mgmt_ : P .mgmt) (fb_ : P .fb) (stn_ : P .stn) (trv_ : P
    .trv) (core_ : P .core) (text_ : P .text) (sync_ : P .sync) (pwr_ : P .pwr) (a : Issue) (latency : Nat) (vd : Nat) (va : Nat) (vb :
    Nat) (vp : VPred) (f : Lane → Lane → Lane) (hs : At (Keeps P s₀) It s) : At (Keeps P s₀) It (State.intOp s a latency vd va vb vp f) :=
    by
  unfold State.intOp
  with_reducible repeat' (first
    | assumption | (intro x; refine At.cut x ?_ ?_; rotate_left; intro _; clear_value x; rotate_left; unfold x) | intro _ | lift_lets
    | apply State.issue_keeps | exact wf_nil | apply Core.settle_store | apply Core.write_store | apply wf_foldl_bputs
    | apply Core.result_store | apply Core.flags_store | apply Core.moved_store | apply Core.lanewise_store | exact coreInit_store
    | apply id_store | apply State.coreAt_store | apply State.clusterStore_wf | apply wf_bputs | apply wf_filter | apply wf_storeTile
    | apply State.issued_store | apply State.cameTo_stores | apply At.ite | apply At.next | apply At.some | exact At.none
    | dsimp -zeta only [At.mkFst, At.mkSnd] | apply At.foldl | apply At.getD | apply At.fst | apply At.snd
    | ((conv => enter [3, 20]) <;> apply At.upd <;> first | exact .inl ‹_› | exact .inr rfl | skip)
    | ((conv => enter [3, 20]) <;> apply At.updCore) | split | exact At.ofMkFst ‹_› | exact At.ofMkSnd ‹_›
    | refine At.ofNext (by assumption) ?_ | refine At.ofFst (by assumption) ?_ | refine At.ofSnd (by assumption) ?_
    | refine At.ofOpt (by assumption) ?_ | refine At.ofOptSnd (by assumption) ?_ | refine At.ofOptFst (by assumption) ?_
    | refine At.ofOptSnd2 (by assumption) ?_ | apply At.mapAny | dsimp +zetaDelta only)

theorem State.scalarOp_keeps {P : Part → Prop} {s₀ s : State} (dict_ : P .dict) (mgmt_ : P .mgmt) (fb_ : P .fb) (stn_ : P .stn) (trv_ : P
    .trv) (core_ : P .core) (text_ : P .text) (sync_ : P .sync) (pwr_ : P .pwr) (u : OpUnit) (a : Issue) (latency : Nat) (sd : Nat) (sa :
    Nat) (sb : Nat) (f : SWord → SWord → SWord) (hs : At (Keeps P s₀) It s) : At (Keeps P s₀) It (State.scalarOp s u a latency sd sa sb f)
    := by
  unfold State.scalarOp
  with_reducible repeat' (first
    | assumption | (intro x; refine At.cut x ?_ ?_; rotate_left; intro _; clear_value x; rotate_left; unfold x) | intro _ | lift_lets
    | apply State.issue_keeps | exact wf_nil | apply Core.settle_store | apply Core.write_store | apply wf_foldl_bputs
    | apply Core.result_store | apply Core.flags_store | apply Core.moved_store | apply Core.lanewise_store | exact coreInit_store
    | apply id_store | apply State.coreAt_store | apply State.clusterStore_wf | apply wf_bputs | apply wf_filter | apply wf_storeTile
    | apply State.issued_store | apply State.cameTo_stores | apply At.ite | apply At.next | apply At.some | exact At.none
    | dsimp -zeta only [At.mkFst, At.mkSnd] | apply At.foldl | apply At.getD | apply At.fst | apply At.snd
    | ((conv => enter [3, 20]) <;> apply At.upd <;> first | exact .inl ‹_› | exact .inr rfl | skip)
    | ((conv => enter [3, 20]) <;> apply At.updCore) | split | exact At.ofMkFst ‹_› | exact At.ofMkSnd ‹_›
    | refine At.ofNext (by assumption) ?_ | refine At.ofFst (by assumption) ?_ | refine At.ofSnd (by assumption) ?_
    | refine At.ofOpt (by assumption) ?_ | refine At.ofOptSnd (by assumption) ?_ | refine At.ofOptFst (by assumption) ?_
    | refine At.ofOptSnd2 (by assumption) ?_ | apply At.mapAny | dsimp +zetaDelta only)

theorem State.scalarCmp_keeps {P : Part → Prop} {s₀ s : State} (dict_ : P .dict) (mgmt_ : P .mgmt) (fb_ : P .fb) (stn_ : P .stn) (trv_ : P
    .trv) (core_ : P .core) (text_ : P .text) (sync_ : P .sync) (pwr_ : P .pwr) (a : Issue) (pd : Nat) (sa : Nat) (sb : Nat) (f : SWord →
    SWord → Bool) (hs : At (Keeps P s₀) It s) : At (Keeps P s₀) It (State.scalarCmp s a pd sa sb f) := by
  unfold State.scalarCmp
  with_reducible repeat' (first
    | assumption | (intro x; refine At.cut x ?_ ?_; rotate_left; intro _; clear_value x; rotate_left; unfold x) | intro _ | lift_lets
    | apply State.issue_keeps | exact wf_nil | apply Core.settle_store | apply Core.write_store | apply wf_foldl_bputs
    | apply Core.result_store | apply Core.flags_store | apply Core.moved_store | apply Core.lanewise_store | exact coreInit_store
    | apply id_store | apply State.coreAt_store | apply State.clusterStore_wf | apply wf_bputs | apply wf_filter | apply wf_storeTile
    | apply State.issued_store | apply State.cameTo_stores | apply At.ite | apply At.next | apply At.some | exact At.none
    | dsimp -zeta only [At.mkFst, At.mkSnd] | apply At.foldl | apply At.getD | apply At.fst | apply At.snd
    | ((conv => enter [3, 20]) <;> apply At.upd <;> first | exact .inl ‹_› | exact .inr rfl | skip)
    | ((conv => enter [3, 20]) <;> apply At.updCore) | split | exact At.ofMkFst ‹_› | exact At.ofMkSnd ‹_›
    | refine At.ofNext (by assumption) ?_ | refine At.ofFst (by assumption) ?_ | refine At.ofSnd (by assumption) ?_
    | refine At.ofOpt (by assumption) ?_ | refine At.ofOptSnd (by assumption) ?_ | refine At.ofOptFst (by assumption) ?_
    | refine At.ofOptSnd2 (by assumption) ?_ | apply At.mapAny | dsimp +zetaDelta only)

theorem State.predOp_keeps {P : Part → Prop} {s₀ s : State} (dict_ : P .dict) (mgmt_ : P .mgmt) (fb_ : P .fb) (stn_ : P .stn) (trv_ : P
    .trv) (core_ : P .core) (text_ : P .text) (sync_ : P .sync) (pwr_ : P .pwr) (a : Issue) (pd : Nat) (pa : Nat) (pb : Nat) (f : BitVec 32
    → BitVec 32 → BitVec 32) (hs : At (Keeps P s₀) It s) : At (Keeps P s₀) It (State.predOp s a pd pa pb f) := by
  unfold State.predOp
  with_reducible repeat' (first
    | assumption | (intro x; refine At.cut x ?_ ?_; rotate_left; intro _; clear_value x; rotate_left; unfold x) | intro _ | lift_lets
    | apply State.issue_keeps | exact wf_nil | apply Core.settle_store | apply Core.write_store | apply wf_foldl_bputs
    | apply Core.result_store | apply Core.flags_store | apply Core.moved_store | apply Core.lanewise_store | exact coreInit_store
    | apply id_store | apply State.coreAt_store | apply State.clusterStore_wf | apply wf_bputs | apply wf_filter | apply wf_storeTile
    | apply State.issued_store | apply State.cameTo_stores | apply At.ite | apply At.next | apply At.some | exact At.none
    | dsimp -zeta only [At.mkFst, At.mkSnd] | apply At.foldl | apply At.getD | apply At.fst | apply At.snd
    | ((conv => enter [3, 20]) <;> apply At.upd <;> first | exact .inl ‹_› | exact .inr rfl | skip)
    | ((conv => enter [3, 20]) <;> apply At.updCore) | split | exact At.ofMkFst ‹_› | exact At.ofMkSnd ‹_›
    | refine At.ofNext (by assumption) ?_ | refine At.ofFst (by assumption) ?_ | refine At.ofSnd (by assumption) ?_
    | refine At.ofOpt (by assumption) ?_ | refine At.ofOptSnd (by assumption) ?_ | refine At.ofOptFst (by assumption) ?_
    | refine At.ofOptSnd2 (by assumption) ?_ | apply At.mapAny | dsimp +zetaDelta only)

/-! ### Machine/SyncCmds.lean -/

theorem State.signalOp_keeps {P : Part → Prop} {s₀ s : State} (dict_ : P .dict) (mgmt_ : P .mgmt) (fb_ : P .fb) (stn_ : P .stn) (trv_ : P
    .trv) (core_ : P .core) (text_ : P .text) (sync_ : P .sync) (pwr_ : P .pwr) (u : OpUnit) (a : Issue) (n : Nat) (op : SyncOp) (operand :
    Core → Nat) (hs : At (Keeps P s₀) It s) : At (Keeps P s₀) It (State.signalOp s u a n op operand) := by
  unfold State.signalOp
  with_reducible repeat' (first
    | assumption | (intro x; refine At.cut x ?_ ?_; rotate_left; intro _; clear_value x; rotate_left; unfold x) | intro _ | lift_lets
    | apply State.bump_keeps | apply State.syncCycle_keeps | apply State.lockSend_keeps | apply State.issue_keeps | exact wf_nil
    | apply Core.settle_store | apply Core.write_store | apply wf_foldl_bputs | apply Core.result_store | apply Core.flags_store
    | apply Core.moved_store | apply Core.lanewise_store | exact coreInit_store | apply id_store | apply State.coreAt_store
    | apply State.clusterStore_wf | apply wf_bputs | apply wf_filter | apply wf_storeTile | apply State.issued_store
    | apply State.cameTo_stores | apply At.ite | apply At.next | apply At.some | exact At.none | dsimp -zeta only [At.mkFst, At.mkSnd]
    | apply At.foldl | apply At.getD | apply At.fst | apply At.snd
    | ((conv => enter [3, 20]) <;> apply At.upd <;> first | exact .inl ‹_› | exact .inr rfl | skip)
    | ((conv => enter [3, 20]) <;> apply At.updCore) | split | exact At.ofMkFst ‹_› | exact At.ofMkSnd ‹_›
    | refine At.ofNext (by assumption) ?_ | refine At.ofFst (by assumption) ?_ | refine At.ofSnd (by assumption) ?_
    | refine At.ofOpt (by assumption) ?_ | refine At.ofOptSnd (by assumption) ?_ | refine At.ofOptFst (by assumption) ?_
    | refine At.ofOptSnd2 (by assumption) ?_ | apply At.mapAny | dsimp +zetaDelta only)

theorem execSyncAdd_keeps {P : Part → Prop} {s₀ s : State} (dict_ : P .dict) (mgmt_ : P .mgmt) (fb_ : P .fb) (stn_ : P .stn) (trv_ : P
    .trv) (core_ : P .core) (text_ : P .text) (sync_ : P .sync) (pwr_ : P .pwr) (a : Issue) (obj : Nat) (rs : Nat) (hs : At (Keeps P s₀) It
    s) : At (Keeps P s₀) Nxt (execSyncAdd a obj rs s) := by
  unfold execSyncAdd
  with_reducible repeat' (first
    | assumption | (intro x; refine At.cut x ?_ ?_; rotate_left; intro _; clear_value x; rotate_left; unfold x) | intro _ | lift_lets
    | apply State.signalOp_keeps | apply At.ite | apply At.next | apply At.some | exact At.none | dsimp -zeta only [At.mkFst, At.mkSnd]
    | apply At.foldl | apply At.getD | apply At.fst | apply At.snd
    | ((conv => enter [3, 20]) <;> apply At.upd <;> first | exact .inl ‹_› | exact .inr rfl | skip)
    | ((conv => enter [3, 20]) <;> apply At.updCore) | split | exact At.ofMkFst ‹_› | exact At.ofMkSnd ‹_›
    | refine At.ofNext (by assumption) ?_ | refine At.ofFst (by assumption) ?_ | refine At.ofSnd (by assumption) ?_
    | refine At.ofOpt (by assumption) ?_ | refine At.ofOptSnd (by assumption) ?_ | refine At.ofOptFst (by assumption) ?_
    | refine At.ofOptSnd2 (by assumption) ?_ | apply At.mapAny | dsimp +zetaDelta only)

theorem execSyncSet_keeps {P : Part → Prop} {s₀ s : State} (dict_ : P .dict) (mgmt_ : P .mgmt) (fb_ : P .fb) (stn_ : P .stn) (trv_ : P
    .trv) (core_ : P .core) (text_ : P .text) (sync_ : P .sync) (pwr_ : P .pwr) (a : Issue) (obj : Nat) (hs : At (Keeps P s₀) It s) : At
    (Keeps P s₀) Nxt (execSyncSet a obj s) := by
  unfold execSyncSet
  with_reducible repeat' (first
    | assumption | (intro x; refine At.cut x ?_ ?_; rotate_left; intro _; clear_value x; rotate_left; unfold x) | intro _ | lift_lets
    | apply State.signalOp_keeps | apply At.ite | apply At.next | apply At.some | exact At.none | dsimp -zeta only [At.mkFst, At.mkSnd]
    | apply At.foldl | apply At.getD | apply At.fst | apply At.snd
    | ((conv => enter [3, 20]) <;> apply At.upd <;> first | exact .inl ‹_› | exact .inr rfl | skip)
    | ((conv => enter [3, 20]) <;> apply At.updCore) | split | exact At.ofMkFst ‹_› | exact At.ofMkSnd ‹_›
    | refine At.ofNext (by assumption) ?_ | refine At.ofFst (by assumption) ?_ | refine At.ofSnd (by assumption) ?_
    | refine At.ofOpt (by assumption) ?_ | refine At.ofOptSnd (by assumption) ?_ | refine At.ofOptFst (by assumption) ?_
    | refine At.ofOptSnd2 (by assumption) ?_ | apply At.mapAny | dsimp +zetaDelta only)

theorem execSyncClear_keeps {P : Part → Prop} {s₀ s : State} (dict_ : P .dict) (mgmt_ : P .mgmt) (fb_ : P .fb) (stn_ : P .stn) (trv_ : P
    .trv) (core_ : P .core) (text_ : P .text) (sync_ : P .sync) (pwr_ : P .pwr) (a : Issue) (obj : Nat) (hs : At (Keeps P s₀) It s) : At
    (Keeps P s₀) Nxt (execSyncClear a obj s) := by
  unfold execSyncClear
  with_reducible repeat' (first
    | assumption | (intro x; refine At.cut x ?_ ?_; rotate_left; intro _; clear_value x; rotate_left; unfold x) | intro _ | lift_lets
    | apply State.signalOp_keeps | apply At.ite | apply At.next | apply At.some | exact At.none | dsimp -zeta only [At.mkFst, At.mkSnd]
    | apply At.foldl | apply At.getD | apply At.fst | apply At.snd
    | ((conv => enter [3, 20]) <;> apply At.upd <;> first | exact .inl ‹_› | exact .inr rfl | skip)
    | ((conv => enter [3, 20]) <;> apply At.updCore) | split | exact At.ofMkFst ‹_› | exact At.ofMkSnd ‹_›
    | refine At.ofNext (by assumption) ?_ | refine At.ofFst (by assumption) ?_ | refine At.ofSnd (by assumption) ?_
    | refine At.ofOpt (by assumption) ?_ | refine At.ofOptSnd (by assumption) ?_ | refine At.ofOptFst (by assumption) ?_
    | refine At.ofOptSnd2 (by assumption) ?_ | apply At.mapAny | dsimp +zetaDelta only)

theorem execArrive_keeps {P : Part → Prop} {s₀ s : State} (dict_ : P .dict) (mgmt_ : P .mgmt) (fb_ : P .fb) (stn_ : P .stn) (trv_ : P .trv)
    (core_ : P .core) (text_ : P .text) (sync_ : P .sync) (pwr_ : P .pwr) (a : Issue) (obj : Nat) (rs : Nat) (hs : At (Keeps P s₀) It s) :
    At (Keeps P s₀) Nxt (execArrive a obj rs s) := by
  unfold execArrive
  with_reducible repeat' (first
    | assumption | (intro x; refine At.cut x ?_ ?_; rotate_left; intro _; clear_value x; rotate_left; unfold x) | intro _ | lift_lets
    | apply State.signalOp_keeps | apply At.ite | apply At.next | apply At.some | exact At.none | dsimp -zeta only [At.mkFst, At.mkSnd]
    | apply At.foldl | apply At.getD | apply At.fst | apply At.snd
    | ((conv => enter [3, 20]) <;> apply At.upd <;> first | exact .inl ‹_› | exact .inr rfl | skip)
    | ((conv => enter [3, 20]) <;> apply At.updCore) | split | exact At.ofMkFst ‹_› | exact At.ofMkSnd ‹_›
    | refine At.ofNext (by assumption) ?_ | refine At.ofFst (by assumption) ?_ | refine At.ofSnd (by assumption) ?_
    | refine At.ofOpt (by assumption) ?_ | refine At.ofOptSnd (by assumption) ?_ | refine At.ofOptFst (by assumption) ?_
    | refine At.ofOptSnd2 (by assumption) ?_ | apply At.mapAny | dsimp +zetaDelta only)

theorem State.waitDone_keeps {P : Part → Prop} {s₀ s : State} (core_ : P .core) (k : Nat) (reg : Nat) (out : Nat) (hs : At (Keeps P s₀) It
    s) : At (Keeps P s₀) It (State.waitDone s k reg out) := by
  unfold State.waitDone
  with_reducible repeat' (first
    | assumption | (intro x; refine At.cut x ?_ ?_; rotate_left; intro _; clear_value x; rotate_left; unfold x) | intro _ | lift_lets
    | apply State.setCore_keeps | exact wf_nil | apply Core.settle_store | apply Core.write_store | apply wf_foldl_bputs
    | apply Core.result_store | apply Core.flags_store | apply Core.moved_store | apply Core.lanewise_store | exact coreInit_store
    | apply id_store | apply State.coreAt_store | apply State.clusterStore_wf | apply wf_bputs | apply wf_filter | apply wf_storeTile
    | apply State.issued_store | apply State.cameTo_stores | apply At.ite | apply At.next | apply At.some | exact At.none
    | dsimp -zeta only [At.mkFst, At.mkSnd] | apply At.foldl | apply At.getD | apply At.fst | apply At.snd
    | ((conv => enter [3, 20]) <;> apply At.upd <;> first | exact .inl ‹_› | exact .inr rfl | skip)
    | ((conv => enter [3, 20]) <;> apply At.updCore) | split | exact At.ofMkFst ‹_› | exact At.ofMkSnd ‹_›
    | refine At.ofNext (by assumption) ?_ | refine At.ofFst (by assumption) ?_ | refine At.ofSnd (by assumption) ?_
    | refine At.ofOpt (by assumption) ?_ | refine At.ofOptSnd (by assumption) ?_ | refine At.ofOptFst (by assumption) ?_
    | refine At.ofOptSnd2 (by assumption) ?_ | apply At.mapAny | dsimp +zetaDelta only)

theorem State.waitOp_keeps {P : Part → Prop} {s₀ s : State} (dict_ : P .dict) (mgmt_ : P .mgmt) (fb_ : P .fb) (stn_ : P .stn) (trv_ : P
    .trv) (core_ : P .core) (text_ : P .text) (sync_ : P .sync) (pwr_ : P .pwr) (a : Issue) (n : Nat) (cond : Nat) (rs : Nat) (hs : At
    (Keeps P s₀) It s) : At (Keeps P s₀) It (State.waitOp s a n cond rs) := by
  unfold State.waitOp
  with_reducible repeat' (first
    | assumption | (intro x; refine At.cut x ?_ ?_; rotate_left; intro _; clear_value x; rotate_left; unfold x) | intro _ | lift_lets
    | apply State.bump_keeps | apply State.syncError_keeps | apply State.detect_keeps | apply State.issue_keeps
    | apply State.waitDone_keeps | exact wf_nil | apply Core.settle_store | apply Core.write_store | apply wf_foldl_bputs
    | apply Core.result_store | apply Core.flags_store | apply Core.moved_store | apply Core.lanewise_store | exact coreInit_store
    | apply id_store | apply State.coreAt_store | apply State.clusterStore_wf | apply wf_bputs | apply wf_filter | apply wf_storeTile
    | apply State.issued_store | apply State.cameTo_stores | apply At.ite | apply At.next | apply At.some | exact At.none
    | dsimp -zeta only [At.mkFst, At.mkSnd] | apply At.foldl | apply At.getD | apply At.fst | apply At.snd
    | ((conv => enter [3, 20]) <;> apply At.upd <;> first | exact .inl ‹_› | exact .inr rfl | skip)
    | ((conv => enter [3, 20]) <;> apply At.updCore) | split | exact At.ofMkFst ‹_› | exact At.ofMkSnd ‹_›
    | refine At.ofNext (by assumption) ?_ | refine At.ofFst (by assumption) ?_ | refine At.ofSnd (by assumption) ?_
    | refine At.ofOpt (by assumption) ?_ | refine At.ofOptSnd (by assumption) ?_ | refine At.ofOptFst (by assumption) ?_
    | refine At.ofOptSnd2 (by assumption) ?_ | apply At.mapAny | dsimp +zetaDelta only)

theorem execWaitCount_keeps {P : Part → Prop} {s₀ s : State} (dict_ : P .dict) (mgmt_ : P .mgmt) (fb_ : P .fb) (stn_ : P .stn) (trv_ : P
    .trv) (core_ : P .core) (text_ : P .text) (sync_ : P .sync) (pwr_ : P .pwr) (a : Issue) (obj : Nat) (rs : Nat) (hs : At (Keeps P s₀) It
    s) : At (Keeps P s₀) Nxt (execWaitCount a obj rs s) := by
  unfold execWaitCount
  with_reducible repeat' (first
    | assumption | (intro x; refine At.cut x ?_ ?_; rotate_left; intro _; clear_value x; rotate_left; unfold x) | intro _ | lift_lets
    | apply State.waitOp_keeps | apply At.ite | apply At.next | apply At.some | exact At.none | dsimp -zeta only [At.mkFst, At.mkSnd]
    | apply At.foldl | apply At.getD | apply At.fst | apply At.snd
    | ((conv => enter [3, 20]) <;> apply At.upd <;> first | exact .inl ‹_› | exact .inr rfl | skip)
    | ((conv => enter [3, 20]) <;> apply At.updCore) | split | exact At.ofMkFst ‹_› | exact At.ofMkSnd ‹_›
    | refine At.ofNext (by assumption) ?_ | refine At.ofFst (by assumption) ?_ | refine At.ofSnd (by assumption) ?_
    | refine At.ofOpt (by assumption) ?_ | refine At.ofOptSnd (by assumption) ?_ | refine At.ofOptFst (by assumption) ?_
    | refine At.ofOptSnd2 (by assumption) ?_ | apply At.mapAny | dsimp +zetaDelta only)

theorem execWaitEvent_keeps {P : Part → Prop} {s₀ s : State} (dict_ : P .dict) (mgmt_ : P .mgmt) (fb_ : P .fb) (stn_ : P .stn) (trv_ : P
    .trv) (core_ : P .core) (text_ : P .text) (sync_ : P .sync) (pwr_ : P .pwr) (a : Issue) (obj : Nat) (rs : Nat) (hs : At (Keeps P s₀) It
    s) : At (Keeps P s₀) Nxt (execWaitEvent a obj rs s) := by
  unfold execWaitEvent
  with_reducible repeat' (first
    | assumption | (intro x; refine At.cut x ?_ ?_; rotate_left; intro _; clear_value x; rotate_left; unfold x) | intro _ | lift_lets
    | apply State.waitOp_keeps | apply At.ite | apply At.next | apply At.some | exact At.none | dsimp -zeta only [At.mkFst, At.mkSnd]
    | apply At.foldl | apply At.getD | apply At.fst | apply At.snd
    | ((conv => enter [3, 20]) <;> apply At.upd <;> first | exact .inl ‹_› | exact .inr rfl | skip)
    | ((conv => enter [3, 20]) <;> apply At.updCore) | split | exact At.ofMkFst ‹_› | exact At.ofMkSnd ‹_›
    | refine At.ofNext (by assumption) ?_ | refine At.ofFst (by assumption) ?_ | refine At.ofSnd (by assumption) ?_
    | refine At.ofOpt (by assumption) ?_ | refine At.ofOptSnd (by assumption) ?_ | refine At.ofOptFst (by assumption) ?_
    | refine At.ofOptSnd2 (by assumption) ?_ | apply At.mapAny | dsimp +zetaDelta only)

theorem execWaitRound_keeps {P : Part → Prop} {s₀ s : State} (dict_ : P .dict) (mgmt_ : P .mgmt) (fb_ : P .fb) (stn_ : P .stn) (trv_ : P
    .trv) (core_ : P .core) (text_ : P .text) (sync_ : P .sync) (pwr_ : P .pwr) (a : Issue) (obj : Nat) (rs : Nat) (hs : At (Keeps P s₀) It
    s) : At (Keeps P s₀) Nxt (execWaitRound a obj rs s) := by
  unfold execWaitRound
  with_reducible repeat' (first
    | assumption | (intro x; refine At.cut x ?_ ?_; rotate_left; intro _; clear_value x; rotate_left; unfold x) | intro _ | lift_lets
    | apply State.waitOp_keeps | apply At.ite | apply At.next | apply At.some | exact At.none | dsimp -zeta only [At.mkFst, At.mkSnd]
    | apply At.foldl | apply At.getD | apply At.fst | apply At.snd
    | ((conv => enter [3, 20]) <;> apply At.upd <;> first | exact .inl ‹_› | exact .inr rfl | skip)
    | ((conv => enter [3, 20]) <;> apply At.updCore) | split | exact At.ofMkFst ‹_› | exact At.ofMkSnd ‹_›
    | refine At.ofNext (by assumption) ?_ | refine At.ofFst (by assumption) ?_ | refine At.ofSnd (by assumption) ?_
    | refine At.ofOpt (by assumption) ?_ | refine At.ofOptSnd (by assumption) ?_ | refine At.ofOptFst (by assumption) ?_
    | refine At.ofOptSnd2 (by assumption) ?_ | apply At.mapAny | dsimp +zetaDelta only)

theorem execSyncWaitTimeout_keeps {P : Part → Prop} {s₀ s : State} (dict_ : P .dict) (fb_ : P .fb) (core_ : P .core) (sync_ : P .sync) (y0
    : Nat) (hs : At (Keeps P s₀) It s) : At (Keeps P s₀) Nxt (execSyncWaitTimeout y0 s) := by
  unfold execSyncWaitTimeout
  with_reducible repeat' (first
    | assumption | (intro x; refine At.cut x ?_ ?_; rotate_left; intro _; clear_value x; rotate_left; unfold x) | intro _ | lift_lets
    | apply State.bump_keeps | apply State.syncError_keeps | apply State.putOutcome_keeps | apply At.ite | apply At.next | apply At.some
    | exact At.none | dsimp -zeta only [At.mkFst, At.mkSnd] | apply At.foldl | apply At.getD | apply At.fst | apply At.snd
    | ((conv => enter [3, 20]) <;> apply At.upd <;> first | exact .inl ‹_› | exact .inr rfl | skip)
    | ((conv => enter [3, 20]) <;> apply At.updCore) | split | exact At.ofMkFst ‹_› | exact At.ofMkSnd ‹_›
    | refine At.ofNext (by assumption) ?_ | refine At.ofFst (by assumption) ?_ | refine At.ofSnd (by assumption) ?_
    | refine At.ofOpt (by assumption) ?_ | refine At.ofOptSnd (by assumption) ?_ | refine At.ofOptFst (by assumption) ?_
    | refine At.ofOptSnd2 (by assumption) ?_ | apply At.mapAny | dsimp +zetaDelta only)

theorem State.syncBatch_keeps {P : Part → Prop} {s₀ s : State} (dict_ : P .dict) (fb_ : P .fb) (core_ : P .core) (sync_ : P .sync) (n :
    Nat) (ops : List (SyncOp × Nat)) (hs : At (Keeps P s₀) It s) : At (Keeps P s₀) It (State.syncBatch s n ops) := by
  unfold State.syncBatch
  with_reducible repeat' (first
    | assumption | (intro x; refine At.cut x ?_ ?_; rotate_left; intro _; clear_value x; rotate_left; unfold x) | intro _ | lift_lets
    | apply State.syncCycle_keeps | apply At.ite | apply At.next | apply At.some | exact At.none | dsimp -zeta only [At.mkFst, At.mkSnd]
    | apply At.foldl | apply At.getD | apply At.fst | apply At.snd
    | ((conv => enter [3, 20]) <;> apply At.upd <;> first | exact .inl ‹_› | exact .inr rfl | skip)
    | ((conv => enter [3, 20]) <;> apply At.updCore) | split | exact At.ofMkFst ‹_› | exact At.ofMkSnd ‹_›
    | refine At.ofNext (by assumption) ?_ | refine At.ofFst (by assumption) ?_ | refine At.ofSnd (by assumption) ?_
    | refine At.ofOpt (by assumption) ?_ | refine At.ofOptSnd (by assumption) ?_ | refine At.ofOptFst (by assumption) ?_
    | refine At.ofOptSnd2 (by assumption) ?_ | apply At.mapAny | dsimp +zetaDelta only)

theorem execGroupSyncUpdate_keeps {P : Part → Prop} {s₀ s : State} (dict_ : P .dict) (fb_ : P .fb) (core_ : P .core) (sync_ : P .sync)
    (others : List GroupSync) (hs : At (Keeps P s₀) It s) : At (Keeps P s₀) Nxt (execGroupSyncUpdate others s) := by
  unfold execGroupSyncUpdate
  with_reducible repeat' (first
    | assumption | (intro x; refine At.cut x ?_ ?_; rotate_left; intro _; clear_value x; rotate_left; unfold x) | intro _ | lift_lets
    | apply State.syncBatch_keeps | apply At.ite | apply At.next | apply At.some | exact At.none | dsimp -zeta only [At.mkFst, At.mkSnd]
    | apply At.foldl | apply At.getD | apply At.fst | apply At.snd
    | ((conv => enter [3, 20]) <;> apply At.upd <;> first | exact .inl ‹_› | exact .inr rfl | skip)
    | ((conv => enter [3, 20]) <;> apply At.updCore) | split | exact At.ofMkFst ‹_› | exact At.ofMkSnd ‹_›
    | refine At.ofNext (by assumption) ?_ | refine At.ofFst (by assumption) ?_ | refine At.ofSnd (by assumption) ?_
    | refine At.ofOpt (by assumption) ?_ | refine At.ofOptSnd (by assumption) ?_ | refine At.ofOptFst (by assumption) ?_
    | refine At.ofOptSnd2 (by assumption) ?_ | apply At.mapAny | dsimp +zetaDelta only)

theorem execStnSyncDefine_keeps {P : Part → Prop} {s₀ s : State} (dict_ : P .dict) (mgmt_ : P .mgmt) (fb_ : P .fb) (stn_ : P .stn) (sync_ :
    P .sync) (w : Writer) (st : Nat) (name : Nat) (type : Nat) (half : Nat) (operand : Nat) (hs : At (Keeps P s₀) It s) : At (Keeps P s₀)
    Nxt (execStnSyncDefine w st name type half operand s) := by
  unfold execStnSyncDefine
  with_reducible repeat' (first
    | assumption | (intro x; refine At.cut x ?_ ?_; rotate_left; intro _; clear_value x; rotate_left; unfold x) | intro _ | lift_lets
    | apply State.commandEnds_keeps | apply State.syncDefine_keeps | apply At.ite | apply At.next | apply At.some | exact At.none
    | dsimp -zeta only [At.mkFst, At.mkSnd] | apply At.foldl | apply At.getD | apply At.fst | apply At.snd
    | ((conv => enter [3, 20]) <;> apply At.upd <;> first | exact .inl ‹_› | exact .inr rfl | skip)
    | ((conv => enter [3, 20]) <;> apply At.updCore) | split | exact At.ofMkFst ‹_› | exact At.ofMkSnd ‹_›
    | refine At.ofNext (by assumption) ?_ | refine At.ofFst (by assumption) ?_ | refine At.ofSnd (by assumption) ?_
    | refine At.ofOpt (by assumption) ?_ | refine At.ofOptSnd (by assumption) ?_ | refine At.ofOptFst (by assumption) ?_
    | refine At.ofOptSnd2 (by assumption) ?_ | apply At.mapAny | dsimp +zetaDelta only)

theorem execStnSyncDelete_keeps {P : Part → Prop} {s₀ s : State} (dict_ : P .dict) (mgmt_ : P .mgmt) (fb_ : P .fb) (stn_ : P .stn) (sync_ :
    P .sync) (w : Writer) (st : Nat) (name : Nat) (hs : At (Keeps P s₀) It s) : At (Keeps P s₀) Nxt (execStnSyncDelete w st name s) := by
  unfold execStnSyncDelete
  with_reducible repeat' (first
    | assumption | (intro x; refine At.cut x ?_ ?_; rotate_left; intro _; clear_value x; rotate_left; unfold x) | intro _ | lift_lets
    | apply State.commandEnds_keeps | apply State.syncDelete_keeps | apply At.ite | apply At.next | apply At.some | exact At.none
    | dsimp -zeta only [At.mkFst, At.mkSnd] | apply At.foldl | apply At.getD | apply At.fst | apply At.snd
    | ((conv => enter [3, 20]) <;> apply At.upd <;> first | exact .inl ‹_› | exact .inr rfl | skip)
    | ((conv => enter [3, 20]) <;> apply At.updCore) | split | exact At.ofMkFst ‹_› | exact At.ofMkSnd ‹_›
    | refine At.ofNext (by assumption) ?_ | refine At.ofFst (by assumption) ?_ | refine At.ofSnd (by assumption) ?_
    | refine At.ofOpt (by assumption) ?_ | refine At.ofOptSnd (by assumption) ?_ | refine At.ofOptFst (by assumption) ?_
    | refine At.ofOptSnd2 (by assumption) ?_ | apply At.mapAny | dsimp +zetaDelta only)

theorem State.stationSync_keeps {P : Part → Prop} {s₀ s : State} (dict_ : P .dict) (mgmt_ : P .mgmt) (fb_ : P .fb) (stn_ : P .stn) (core_ :
    P .core) (sync_ : P .sync) (w : Writer) (st : Nat) (name : Nat) (code : Nat) (op : SyncOp) (operand : Nat) (hs : At (Keeps P s₀) It s)
    : At (Keeps P s₀) It (State.stationSync s w st name code op operand) := by
  unfold State.stationSync
  with_reducible repeat' (first
    | assumption | (intro x; refine At.cut x ?_ ?_; rotate_left; intro _; clear_value x; rotate_left; unfold x) | intro _ | lift_lets
    | apply State.commandEnds_keeps | apply State.syncStationOp_keeps | apply At.ite | apply At.next | apply At.some | exact At.none
    | dsimp -zeta only [At.mkFst, At.mkSnd] | apply At.foldl | apply At.getD | apply At.fst | apply At.snd
    | ((conv => enter [3, 20]) <;> apply At.upd <;> first | exact .inl ‹_› | exact .inr rfl | skip)
    | ((conv => enter [3, 20]) <;> apply At.updCore) | split | exact At.ofMkFst ‹_› | exact At.ofMkSnd ‹_›
    | refine At.ofNext (by assumption) ?_ | refine At.ofFst (by assumption) ?_ | refine At.ofSnd (by assumption) ?_
    | refine At.ofOpt (by assumption) ?_ | refine At.ofOptSnd (by assumption) ?_ | refine At.ofOptFst (by assumption) ?_
    | refine At.ofOptSnd2 (by assumption) ?_ | apply At.mapAny | dsimp +zetaDelta only)

theorem execStnSyncAdd_keeps {P : Part → Prop} {s₀ s : State} (dict_ : P .dict) (mgmt_ : P .mgmt) (fb_ : P .fb) (stn_ : P .stn) (core_ : P
    .core) (sync_ : P .sync) (w : Writer) (st : Nat) (name : Nat) (amount : Nat) (hs : At (Keeps P s₀) It s) : At (Keeps P s₀) Nxt
    (execStnSyncAdd w st name amount s) := by
  unfold execStnSyncAdd
  with_reducible repeat' (first
    | assumption | (intro x; refine At.cut x ?_ ?_; rotate_left; intro _; clear_value x; rotate_left; unfold x) | intro _ | lift_lets
    | apply State.stationSync_keeps | apply At.ite | apply At.next | apply At.some | exact At.none | dsimp -zeta only [At.mkFst, At.mkSnd]
    | apply At.foldl | apply At.getD | apply At.fst | apply At.snd
    | ((conv => enter [3, 20]) <;> apply At.upd <;> first | exact .inl ‹_› | exact .inr rfl | skip)
    | ((conv => enter [3, 20]) <;> apply At.updCore) | split | exact At.ofMkFst ‹_› | exact At.ofMkSnd ‹_›
    | refine At.ofNext (by assumption) ?_ | refine At.ofFst (by assumption) ?_ | refine At.ofSnd (by assumption) ?_
    | refine At.ofOpt (by assumption) ?_ | refine At.ofOptSnd (by assumption) ?_ | refine At.ofOptFst (by assumption) ?_
    | refine At.ofOptSnd2 (by assumption) ?_ | apply At.mapAny | dsimp +zetaDelta only)

theorem execStnSyncSet_keeps {P : Part → Prop} {s₀ s : State} (dict_ : P .dict) (mgmt_ : P .mgmt) (fb_ : P .fb) (stn_ : P .stn) (core_ : P
    .core) (sync_ : P .sync) (w : Writer) (st : Nat) (name : Nat) (hs : At (Keeps P s₀) It s) : At (Keeps P s₀) Nxt (execStnSyncSet w st
    name s) := by
  unfold execStnSyncSet
  with_reducible repeat' (first
    | assumption | (intro x; refine At.cut x ?_ ?_; rotate_left; intro _; clear_value x; rotate_left; unfold x) | intro _ | lift_lets
    | apply State.stationSync_keeps | apply At.ite | apply At.next | apply At.some | exact At.none | dsimp -zeta only [At.mkFst, At.mkSnd]
    | apply At.foldl | apply At.getD | apply At.fst | apply At.snd
    | ((conv => enter [3, 20]) <;> apply At.upd <;> first | exact .inl ‹_› | exact .inr rfl | skip)
    | ((conv => enter [3, 20]) <;> apply At.updCore) | split | exact At.ofMkFst ‹_› | exact At.ofMkSnd ‹_›
    | refine At.ofNext (by assumption) ?_ | refine At.ofFst (by assumption) ?_ | refine At.ofSnd (by assumption) ?_
    | refine At.ofOpt (by assumption) ?_ | refine At.ofOptSnd (by assumption) ?_ | refine At.ofOptFst (by assumption) ?_
    | refine At.ofOptSnd2 (by assumption) ?_ | apply At.mapAny | dsimp +zetaDelta only)

theorem execStnSyncClear_keeps {P : Part → Prop} {s₀ s : State} (dict_ : P .dict) (mgmt_ : P .mgmt) (fb_ : P .fb) (stn_ : P .stn) (core_ :
    P .core) (sync_ : P .sync) (w : Writer) (st : Nat) (name : Nat) (hs : At (Keeps P s₀) It s) : At (Keeps P s₀) Nxt (execStnSyncClear w
    st name s) := by
  unfold execStnSyncClear
  with_reducible repeat' (first
    | assumption | (intro x; refine At.cut x ?_ ?_; rotate_left; intro _; clear_value x; rotate_left; unfold x) | intro _ | lift_lets
    | apply State.stationSync_keeps | apply At.ite | apply At.next | apply At.some | exact At.none | dsimp -zeta only [At.mkFst, At.mkSnd]
    | apply At.foldl | apply At.getD | apply At.fst | apply At.snd
    | ((conv => enter [3, 20]) <;> apply At.upd <;> first | exact .inl ‹_› | exact .inr rfl | skip)
    | ((conv => enter [3, 20]) <;> apply At.updCore) | split | exact At.ofMkFst ‹_› | exact At.ofMkSnd ‹_›
    | refine At.ofNext (by assumption) ?_ | refine At.ofFst (by assumption) ?_ | refine At.ofSnd (by assumption) ?_
    | refine At.ofOpt (by assumption) ?_ | refine At.ofOptSnd (by assumption) ?_ | refine At.ofOptFst (by assumption) ?_
    | refine At.ofOptSnd2 (by assumption) ?_ | apply At.mapAny | dsimp +zetaDelta only)

theorem execStnSyncArrive_keeps {P : Part → Prop} {s₀ s : State} (dict_ : P .dict) (mgmt_ : P .mgmt) (fb_ : P .fb) (stn_ : P .stn) (core_ :
    P .core) (sync_ : P .sync) (w : Writer) (st : Nat) (name : Nat) (round : Nat) (hs : At (Keeps P s₀) It s) : At (Keeps P s₀) Nxt
    (execStnSyncArrive w st name round s) := by
  unfold execStnSyncArrive
  with_reducible repeat' (first
    | assumption | (intro x; refine At.cut x ?_ ?_; rotate_left; intro _; clear_value x; rotate_left; unfold x) | intro _ | lift_lets
    | apply State.stationSync_keeps | apply At.ite | apply At.next | apply At.some | exact At.none | dsimp -zeta only [At.mkFst, At.mkSnd]
    | apply At.foldl | apply At.getD | apply At.fst | apply At.snd
    | ((conv => enter [3, 20]) <;> apply At.upd <;> first | exact .inl ‹_› | exact .inr rfl | skip)
    | ((conv => enter [3, 20]) <;> apply At.updCore) | split | exact At.ofMkFst ‹_› | exact At.ofMkSnd ‹_›
    | refine At.ofNext (by assumption) ?_ | refine At.ofFst (by assumption) ?_ | refine At.ofSnd (by assumption) ?_
    | refine At.ofOpt (by assumption) ?_ | refine At.ofOptSnd (by assumption) ?_ | refine At.ofOptFst (by assumption) ?_
    | refine At.ofOptSnd2 (by assumption) ?_ | apply At.mapAny | dsimp +zetaDelta only)

theorem execGateExpiry_keeps {P : Part → Prop} {s₀ s : State} (dict_ : P .dict) (fb_ : P .fb) (stn_ : P .stn) (ses_ : P .ses) (tier_ : P
    .tier) (trv_ : P .trv) (sid : Nat) (k : Nat) (hs : At (Keeps P s₀) It s) : At (Keeps P s₀) Nxt (execGateExpiry sid k s) := by
  unfold execGateExpiry
  with_reducible repeat' (first
    | assumption | (intro x; refine At.cut x ?_ ?_; rotate_left; intro _; clear_value x; rotate_left; unfold x) | intro _ | lift_lets
    | apply State.bump_keeps | apply State.modSess_keeps | apply State.sevent_keeps | apply State.syncError_keeps
    | apply State.cancelSession_keeps | apply At.ite | apply At.next | apply At.some | exact At.none
    | dsimp -zeta only [At.mkFst, At.mkSnd] | apply At.foldl | apply At.getD | apply At.fst | apply At.snd
    | ((conv => enter [3, 20]) <;> apply At.upd <;> first | exact .inl ‹_› | exact .inr rfl | skip)
    | ((conv => enter [3, 20]) <;> apply At.updCore) | split | exact At.ofMkFst ‹_› | exact At.ofMkSnd ‹_›
    | refine At.ofNext (by assumption) ?_ | refine At.ofFst (by assumption) ?_ | refine At.ofSnd (by assumption) ?_
    | refine At.ofOpt (by assumption) ?_ | refine At.ofOptSnd (by assumption) ?_ | refine At.ofOptFst (by assumption) ?_
    | refine At.ofOptSnd2 (by assumption) ?_ | apply At.mapAny | dsimp +zetaDelta only)

/-! ### Machine/ObjWrites.lean -/

theorem after_keeps {P : Part → Prop} {s₀ s : State} (o : Out) (ho : At (Keeps P s₀) Nxt o) (hs : At (Keeps P s₀) It s) :
    At (Keeps P s₀) It (after s o) := by
  obtain ⟨t, rfl, ht⟩ := ho
  exact ht

theorem stationOp_keeps {P : Part → Prop} {s₀ s : State} (dict_ : P .dict) (mgmt_ : P .mgmt) (fb_ : P .fb) (stn_ : P .stn) (core_ : P
    .core) (sync_ : P .sync) (w : Writer) (st : Nat) (name : Nat) (code : Nat) (operand : Nat) (hs : At (Keeps P s₀) It s) : At (Keeps P
    s₀) Nxt (stationOp w st name code operand s) := by
  unfold stationOp
  with_reducible repeat' (first
    | assumption | (intro x; refine At.cut x ?_ ?_; rotate_left; intro _; clear_value x; rotate_left; unfold x) | intro _ | lift_lets
    | apply execStnSyncAdd_keeps | apply execStnSyncSet_keeps | apply execStnSyncClear_keeps | apply execStnSyncArrive_keeps
    | apply At.ite | apply At.next | apply At.some | exact At.none | dsimp -zeta only [At.mkFst, At.mkSnd] | apply At.foldl
    | apply At.getD | apply At.fst | apply At.snd
    | ((conv => enter [3, 20]) <;> apply At.upd <;> first | exact .inl ‹_› | exact .inr rfl | skip)
    | ((conv => enter [3, 20]) <;> apply At.updCore) | split | exact At.ofMkFst ‹_› | exact At.ofMkSnd ‹_›
    | refine At.ofNext (by assumption) ?_ | refine At.ofFst (by assumption) ?_ | refine At.ofSnd (by assumption) ?_
    | refine At.ofOpt (by assumption) ?_ | refine At.ofOptSnd (by assumption) ?_ | refine At.ofOptFst (by assumption) ?_
    | refine At.ofOptSnd2 (by assumption) ?_ | apply At.mapAny | dsimp +zetaDelta only)

theorem State.commandOf_keeps {P : Part → Prop} {s₀ s u : State} (frame_ : P .frame) (frameStart_ : P .frameStart) (dict_ : P .dict) (mgmt_
    : P .mgmt) (fb_ : P .fb) (stn_ : P .stn) (ses_ : P .ses) (tier_ : P .tier) (shape_ : P .shape) (trv_ : P .trv) (core_ : P .core) (text_
    : P .text) (srch_ : P .srch) (sync_ : P .sync) (ck_ : P .ck) (fab_ : P .fab) (pwr_ : P .pwr) (free_ : P .free) {w : Writer} {o :
    ObjSpec} {i : Nat} {v : Octets} {go : State → Out} (h : s.commandOf w o i v = some go) (hs : At (Keeps P s₀) It u) : At (Keeps P s₀)
    Nxt (go u) := by
  have pick : ∀ (l : List (State → Out)) (d : State → Out) (k : Nat), (∀ g ∈ l, At (Keeps P s₀) Nxt (g u)) → At (Keeps P s₀) Nxt (d u) →
      At (Keeps P s₀) Nxt ((l.getD k d) u) := by
    intro l
    induction l with
    | nil => exact fun d k _ hd => hd
    | cons a r ih =>
      intro d k hl hd
      cases k with
      | zero => exact hl a List.mem_cons_self
      | succ k => exact ih d k (fun g hg => hl g (List.mem_cons_of_mem _ hg)) hd
  unfold State.commandOf at h
  obtain ⟨p, hp, he⟩ := List.exists_of_findSome?_eq_some h
  suffices hall : At (Keeps P s₀) Nxt (p.2 u) by
    split at he
    · cases he
      exact hall
    · cases he
  clear he h
  revert p
  simp only [List.cons_append, List.nil_append, List.forall_mem_cons, List.not_mem_nil, false_imp_iff, implies_true, and_true]
  all_goals with_reducible repeat' (first
    | assumption | simp only [List.forall_mem_cons, List.not_mem_nil, false_imp_iff, implies_true, and_true] | apply pick
    | apply And.intro | apply At.next | split | apply State.working_keeps | intro _ | dsimp only [At.mkFst]
    | apply State.keyHalf_keeps | apply execTrvLoad_keeps | apply execActivate_keeps | apply execUnload_keeps | apply execFenceCore_keeps
    | apply execFenceCluster_keeps | apply execClearCluster_keeps | apply execMdlUnload_keeps | apply execDictUnload_keeps
    | apply execGpUnload_keeps | apply execCreate_keeps | apply execDrop_keeps | apply State.working_keeps | apply execDeclareFailed_keeps
    | apply execRetrain_keeps | apply execRebuild_keeps | apply execErrClear_keeps | apply execArInsert_keeps | apply execArRemove_keeps
    | apply execGlCommit_keeps | apply execCkCheckpoint_keeps | apply execAbort_keeps | apply execRelease_keeps
    | apply execCompositionWrite_keeps | apply execDeepSleep_keeps | apply execWarmReset_keeps | apply execResetHalf0_keeps
    | apply execResetHalf1_keeps | apply State.actingWrite_keeps | apply execStnCapStage_keeps | apply execTkCommit_keeps
    | apply execTkClear_keeps | apply execFwChunkWrite_keeps | apply execFwCmdVerify_keeps | apply execFwActivate_keeps
    | apply execConfirm_keeps | apply execErase_keeps | apply execAttNonceWrite_keeps | apply execCalSet_keeps
    | apply execStnSyncDefine_keeps | apply execStnSyncDelete_keeps | apply stationOp_keeps)

theorem State.writeObject_keeps {P : Part → Prop} {s₀ s : State} (frame_ : P .frame) (frameStart_ : P .frameStart) (dict_ : P .dict) (mgmt_
    : P .mgmt) (fb_ : P .fb) (stn_ : P .stn) (ses_ : P .ses) (tier_ : P .tier) (shape_ : P .shape) (trv_ : P .trv) (core_ : P .core) (text_
    : P .text) (srch_ : P .srch) (sync_ : P .sync) (ck_ : P .ck) (fab_ : P .fab) (pwr_ : P .pwr) (free_ : P .free) (w : Writer) (index :
    Nat) (sub : Nat) (v : Octets) (hs : At (Keeps P s₀) It s) : At (Keeps P s₀) It (State.writeObject s w index sub v) := by
  unfold State.writeObject
  with_reducible repeat' (first
    | assumption | (intro x; refine At.cut x ?_ ?_; rotate_left; intro _; clear_value x; rotate_left; unfold x) | intro _ | lift_lets
    | apply State.reply_keeps | apply State.keyHalf_keeps | apply execTrvLoad_keeps | apply execActivate_keeps | apply execUnload_keeps
    | apply execFenceCore_keeps | apply execFenceCluster_keeps | apply execClearCluster_keeps | apply execMdlUnload_keeps
    | apply execDictUnload_keeps | apply execGpUnload_keeps | apply execCreate_keeps | apply execDrop_keeps | apply State.working_keeps
    | apply State.writeAt_keeps | apply execDeclareFailed_keeps | apply execRetrain_keeps | apply execRebuild_keeps
    | apply execErrClear_keeps | apply execArInsert_keeps | apply execArRemove_keeps | apply execGlCommit_keeps
    | apply execCkCheckpoint_keeps | apply execAbort_keeps | apply execRelease_keeps | apply execCompositionWrite_keeps
    | apply execDeepSleep_keeps | apply execWarmReset_keeps | apply execResetHalf0_keeps | apply execResetHalf1_keeps
    | apply State.actingWrite_keeps | apply execStnCapStage_keeps | apply execTkCommit_keeps | apply execTkClear_keeps
    | apply execFwChunkWrite_keeps | apply execFwCmdVerify_keeps | apply execFwActivate_keeps | apply execConfirm_keeps
    | apply execErase_keeps | apply execAttNonceWrite_keeps | apply execCalSet_keeps | apply execStnSyncDefine_keeps
    | apply execStnSyncDelete_keeps | apply after_keeps | apply stationOp_keeps | (apply State.commandOf_keeps <;> assumption)
    | apply At.ite | apply At.next | apply At.some | exact At.none | dsimp -zeta only [At.mkFst, At.mkSnd] | apply At.foldl
    | apply At.getD | apply At.fst | apply At.snd
    | ((conv => enter [3, 20]) <;> apply At.upd <;> first | exact .inl ‹_› | exact .inr rfl | skip)
    | ((conv => enter [3, 20]) <;> apply At.updCore) | split | exact At.ofMkFst ‹_› | exact At.ofMkSnd ‹_›
    | refine At.ofNext (by assumption) ?_ | refine At.ofFst (by assumption) ?_ | refine At.ofSnd (by assumption) ?_
    | refine At.ofOpt (by assumption) ?_ | refine At.ofOptSnd (by assumption) ?_ | refine At.ofOptFst (by assumption) ?_
    | refine At.ofOptSnd2 (by assumption) ?_ | apply At.mapAny | dsimp +zetaDelta only)

theorem execObjectWrite_keeps {P : Part → Prop} {s₀ s : State} (frame_ : P .frame) (frameStart_ : P .frameStart) (dict_ : P .dict) (mgmt_ :
    P .mgmt) (fb_ : P .fb) (stn_ : P .stn) (ses_ : P .ses) (tier_ : P .tier) (shape_ : P .shape) (trv_ : P .trv) (core_ : P .core) (text_ :
    P .text) (srch_ : P .srch) (sync_ : P .sync) (ck_ : P .ck) (fab_ : P .fab) (pwr_ : P .pwr) (free_ : P .free) (w : Writer) (index : Nat)
    (sub : Nat) (v : Octets) (hs : At (Keeps P s₀) It s) : At (Keeps P s₀) Nxt (execObjectWrite w index sub v s) := by
  unfold execObjectWrite
  with_reducible repeat' (first
    | assumption | (intro x; refine At.cut x ?_ ?_; rotate_left; intro _; clear_value x; rotate_left; unfold x) | intro _ | lift_lets
    | apply State.writeObject_keeps | apply At.ite | apply At.next | apply At.some | exact At.none | dsimp -zeta only [At.mkFst, At.mkSnd]
    | apply At.foldl | apply At.getD | apply At.fst | apply At.snd
    | ((conv => enter [3, 20]) <;> apply At.upd <;> first | exact .inl ‹_› | exact .inr rfl | skip)
    | ((conv => enter [3, 20]) <;> apply At.updCore) | split | exact At.ofMkFst ‹_› | exact At.ofMkSnd ‹_›
    | refine At.ofNext (by assumption) ?_ | refine At.ofFst (by assumption) ?_ | refine At.ofSnd (by assumption) ?_
    | refine At.ofOpt (by assumption) ?_ | refine At.ofOptSnd (by assumption) ?_ | refine At.ofOptFst (by assumption) ?_
    | refine At.ofOptSnd2 (by assumption) ?_ | apply At.mapAny | dsimp +zetaDelta only)

/-! ### Machine/Opdun.lean -/

theorem State.datagram_keeps {P : Part → Prop} {s₀ s : State} (frame_ : P .frame) (frameStart_ : P .frameStart) (dict_ : P .dict) (mgmt_ :
    P .mgmt) (fb_ : P .fb) (stn_ : P .stn) (pwr_ : P .pwr) (free_ : P .free) (linkLocal : Bool) (hopLimit : Nat) (go : State → State) (hgo
    : ∀ u, At (Keeps P s₀) It u → At (Keeps P s₀) It (go u)) (hs : At (Keeps P s₀) It s) : At (Keeps P s₀) It (State.datagram s linkLocal
    hopLimit go) := by
  unfold State.datagram
  with_reducible repeat' (first
    | assumption | (intro x; refine At.cut x ?_ ?_; rotate_left; intro _; clear_value x; rotate_left; unfold x) | intro _ | lift_lets
    | apply State.reportOpen_keeps | apply State.arrivalWakes_keeps | apply hgo | apply At.ite | apply At.next | apply At.some
    | exact At.none | dsimp -zeta only [At.mkFst, At.mkSnd] | apply At.foldl | apply At.getD | apply At.fst | apply At.snd
    | ((conv => enter [3, 20]) <;> apply At.upd <;> first | exact .inl ‹_› | exact .inr rfl | skip)
    | ((conv => enter [3, 20]) <;> apply At.updCore) | split | exact At.ofMkFst ‹_› | exact At.ofMkSnd ‹_›
    | refine At.ofNext (by assumption) ?_ | refine At.ofFst (by assumption) ?_ | refine At.ofSnd (by assumption) ?_
    | refine At.ofOpt (by assumption) ?_ | refine At.ofOptSnd (by assumption) ?_ | refine At.ofOptFst (by assumption) ?_
    | refine At.ofOptSnd2 (by assumption) ?_ | apply At.mapAny | dsimp +zetaDelta only)

theorem State.setAssoc_keeps {P : Part → Prop} {s₀ s : State} (mgmt_ : P .mgmt) (a : Nat) (x : Assoc) (hs : At (Keeps P s₀) It s) : At
    (Keeps P s₀) It (State.setAssoc s a x) := by
  unfold State.setAssoc
  with_reducible repeat' (first
    | assumption | (intro x; refine At.cut x ?_ ?_; rotate_left; intro _; clear_value x; rotate_left; unfold x) | intro _ | lift_lets
    | apply At.ite | apply At.next | apply At.some | exact At.none | dsimp -zeta only [At.mkFst, At.mkSnd] | apply At.foldl
    | apply At.getD | apply At.fst | apply At.snd
    | ((conv => enter [3, 20]) <;> apply At.upd <;> first | exact .inl ‹_› | exact .inr rfl | skip)
    | ((conv => enter [3, 20]) <;> apply At.updCore) | split | exact At.ofMkFst ‹_› | exact At.ofMkSnd ‹_›
    | refine At.ofNext (by assumption) ?_ | refine At.ofFst (by assumption) ?_ | refine At.ofSnd (by assumption) ?_
    | refine At.ofOpt (by assumption) ?_ | refine At.ofOptSnd (by assumption) ?_ | refine At.ofOptFst (by assumption) ?_
    | refine At.ofOptSnd2 (by assumption) ?_ | apply At.mapAny | dsimp +zetaDelta only)

theorem State.endAssoc_keeps {P : Part → Prop} {s₀ s : State} (mgmt_ : P .mgmt) (a : Nat) (hs : At (Keeps P s₀) It s) : At (Keeps P s₀) It
    (State.endAssoc s a) := by
  unfold State.endAssoc
  with_reducible repeat' (first
    | assumption | (intro x; refine At.cut x ?_ ?_; rotate_left; intro _; clear_value x; rotate_left; unfold x) | intro _ | lift_lets
    | apply At.ite | apply At.next | apply At.some | exact At.none | dsimp -zeta only [At.mkFst, At.mkSnd] | apply At.foldl
    | apply At.getD | apply At.fst | apply At.snd
    | ((conv => enter [3, 20]) <;> apply At.upd <;> first | exact .inl ‹_› | exact .inr rfl | skip)
    | ((conv => enter [3, 20]) <;> apply At.updCore) | split | exact At.ofMkFst ‹_› | exact At.ofMkSnd ‹_›
    | refine At.ofNext (by assumption) ?_ | refine At.ofFst (by assumption) ?_ | refine At.ofSnd (by assumption) ?_
    | refine At.ofOpt (by assumption) ?_ | refine At.ofOptSnd (by assumption) ?_ | refine At.ofOptFst (by assumption) ?_
    | refine At.ofOptSnd2 (by assumption) ?_ | apply At.mapAny | dsimp +zetaDelta only)

theorem State.request_keeps {P : Part → Prop} {s₀ s : State} (frame_ : P .frame) (frameStart_ : P .frameStart) (dict_ : P .dict) (mgmt_ : P
    .mgmt) (fb_ : P .fb) (stn_ : P .stn) (pwr_ : P .pwr) (free_ : P .free) (f : OpdunHdr) (go : State → Assoc → State) (hgo : ∀ u x0, At
    (Keeps P s₀) It u → At (Keeps P s₀) It (go u x0)) (hs : At (Keeps P s₀) It s) : At (Keeps P s₀) It (State.request s f go) := by
  unfold State.request
  with_reducible repeat' (first
    | assumption | (intro x; refine At.cut x ?_ ?_; rotate_left; intro _; clear_value x; rotate_left; unfold x) | intro _ | lift_lets
    | apply State.datagram_keeps | apply State.setAssoc_keeps | apply hgo | apply At.ite | apply At.next | apply At.some | exact At.none
    | dsimp -zeta only [At.mkFst, At.mkSnd] | apply At.foldl | apply At.getD | apply At.fst | apply At.snd
    | ((conv => enter [3, 20]) <;> apply At.upd <;> first | exact .inl ‹_› | exact .inr rfl | skip)
    | ((conv => enter [3, 20]) <;> apply At.updCore) | split | exact At.ofMkFst ‹_› | exact At.ofMkSnd ‹_›
    | refine At.ofNext (by assumption) ?_ | refine At.ofFst (by assumption) ?_ | refine At.ofSnd (by assumption) ?_
    | refine At.ofOpt (by assumption) ?_ | refine At.ofOptSnd (by assumption) ?_ | refine At.ofOptFst (by assumption) ?_
    | refine At.ofOptSnd2 (by assumption) ?_ | apply At.mapAny | dsimp +zetaDelta only)

theorem execAssociate_keeps {P : Part → Prop} {s₀ s : State} (frame_ : P .frame) (frameStart_ : P .frameStart) (dict_ : P .dict) (mgmt_ : P
    .mgmt) (fb_ : P .fb) (stn_ : P .stn) (pwr_ : P .pwr) (free_ : P .free) (f : OpdunHdr) (majLo : Nat) (majHi : Nat) (minor : Nat) (feat :
    Nat) (hs : At (Keeps P s₀) It s) : At (Keeps P s₀) Nxt (execAssociate f majLo majHi minor feat s) := by
  unfold execAssociate
  with_reducible repeat' (first
    | assumption | (intro x; refine At.cut x ?_ ?_; rotate_left; intro _; clear_value x; rotate_left; unfold x) | intro _ | lift_lets
    | apply State.freshNonce_keeps | apply State.opdunReply_keeps | apply State.datagram_keeps | apply State.setAssoc_keeps | apply At.ite
    | apply At.next | apply At.some | exact At.none | dsimp -zeta only [At.mkFst, At.mkSnd] | apply At.foldl | apply At.getD
    | apply At.fst | apply At.snd | ((conv => enter [3, 20]) <;> apply At.upd <;> first | exact .inl ‹_› | exact .inr rfl | skip)
    | ((conv => enter [3, 20]) <;> apply At.updCore) | split | exact At.ofMkFst ‹_› | exact At.ofMkSnd ‹_›
    | refine At.ofNext (by assumption) ?_ | refine At.ofFst (by assumption) ?_ | refine At.ofSnd (by assumption) ?_
    | refine At.ofOpt (by assumption) ?_ | refine At.ofOptSnd (by assumption) ?_ | refine At.ofOptFst (by assumption) ?_
    | refine At.ofOptSnd2 (by assumption) ?_ | apply At.mapAny | dsimp +zetaDelta only)

theorem execOdRead_keeps {P : Part → Prop} {s₀ s : State} (frame_ : P .frame) (frameStart_ : P .frameStart) (dict_ : P .dict) (mgmt_ : P
    .mgmt) (fb_ : P .fb) (stn_ : P .stn) (tier_ : P .tier) (trv_ : P .trv) (pwr_ : P .pwr) (free_ : P .free) (f : OpdunHdr) (hs : At (Keeps
    P s₀) It s) : At (Keeps P s₀) Nxt (execOdRead f s) := by
  unfold execOdRead
  with_reducible repeat' (first
    | assumption | (intro x; refine At.cut x ?_ ?_; rotate_left; intro _; clear_value x; rotate_left; unfold x) | intro _ | lift_lets
    | apply State.serveRead_keeps | apply State.request_keeps | apply At.ite | apply At.next | apply At.some | exact At.none
    | dsimp -zeta only [At.mkFst, At.mkSnd] | apply At.foldl | apply At.getD | apply At.fst | apply At.snd
    | ((conv => enter [3, 20]) <;> apply At.upd <;> first | exact .inl ‹_› | exact .inr rfl | skip)
    | ((conv => enter [3, 20]) <;> apply At.updCore) | split | exact At.ofMkFst ‹_› | exact At.ofMkSnd ‹_›
    | refine At.ofNext (by assumption) ?_ | refine At.ofFst (by assumption) ?_ | refine At.ofSnd (by assumption) ?_
    | refine At.ofOpt (by assumption) ?_ | refine At.ofOptSnd (by assumption) ?_ | refine At.ofOptFst (by assumption) ?_
    | refine At.ofOptSnd2 (by assumption) ?_ | apply At.mapAny | dsimp +zetaDelta only)

theorem execOdWrite_keeps {P : Part → Prop} {s₀ s : State} (frame_ : P .frame) (frameStart_ : P .frameStart) (dict_ : P .dict) (mgmt_ : P
    .mgmt) (fb_ : P .fb) (stn_ : P .stn) (ses_ : P .ses) (tier_ : P .tier) (shape_ : P .shape) (trv_ : P .trv) (core_ : P .core) (text_ : P
    .text) (srch_ : P .srch) (sync_ : P .sync) (ck_ : P .ck) (fab_ : P .fab) (pwr_ : P .pwr) (free_ : P .free) (f : OpdunHdr) (v : Octets)
    (hs : At (Keeps P s₀) It s) : At (Keeps P s₀) Nxt (execOdWrite f v s) := by
  unfold execOdWrite
  with_reducible repeat' (first
    | assumption | (intro x; refine At.cut x ?_ ?_; rotate_left; intro _; clear_value x; rotate_left; unfold x) | intro _ | lift_lets
    | apply State.reply_keeps | apply State.writeObject_keeps | apply State.request_keeps | apply At.ite | apply At.next | apply At.some
    | exact At.none | dsimp -zeta only [At.mkFst, At.mkSnd] | apply At.foldl | apply At.getD | apply At.fst | apply At.snd
    | ((conv => enter [3, 20]) <;> apply At.upd <;> first | exact .inl ‹_› | exact .inr rfl | skip)
    | ((conv => enter [3, 20]) <;> apply At.updCore) | split | exact At.ofMkFst ‹_› | exact At.ofMkSnd ‹_›
    | refine At.ofNext (by assumption) ?_ | refine At.ofFst (by assumption) ?_ | refine At.ofSnd (by assumption) ?_
    | refine At.ofOpt (by assumption) ?_ | refine At.ofOptSnd (by assumption) ?_ | refine At.ofOptFst (by assumption) ?_
    | refine At.ofOptSnd2 (by assumption) ?_ | apply At.mapAny | dsimp +zetaDelta only)

theorem State.presented_keeps {P : Part → Prop} {s₀ s : State} (dict_ : P .dict) (mgmt_ : P .mgmt) (fb_ : P .fb) (stn_ : P .stn) (free_ : P
    .free) (f : OpdunHdr) (x : Assoc) (o : Octets) (hs : At (Keeps P s₀) It s) : At (Keeps P s₀) It (State.presented s f x o) := by
  unfold State.presented
  with_reducible repeat' (first
    | assumption | (intro x; refine At.cut x ?_ ?_; rotate_left; intro _; clear_value x; rotate_left; unfold x) | intro _ | lift_lets
    | apply State.freshNonce_keeps | apply State.reply_keeps | apply State.capLog_keeps | apply State.setAssoc_keeps | apply At.ite
    | apply At.next | apply At.some | exact At.none | dsimp -zeta only [At.mkFst, At.mkSnd] | apply At.foldl | apply At.getD
    | apply At.fst | apply At.snd | ((conv => enter [3, 20]) <;> apply At.upd <;> first | exact .inl ‹_› | exact .inr rfl | skip)
    | ((conv => enter [3, 20]) <;> apply At.updCore) | split | exact At.ofMkFst ‹_› | exact At.ofMkSnd ‹_›
    | refine At.ofNext (by assumption) ?_ | refine At.ofFst (by assumption) ?_ | refine At.ofSnd (by assumption) ?_
    | refine At.ofOpt (by assumption) ?_ | refine At.ofOptSnd (by assumption) ?_ | refine At.ofOptFst (by assumption) ?_
    | refine At.ofOptSnd2 (by assumption) ?_ | apply At.mapAny | dsimp +zetaDelta only)

theorem State.fragDrop_keeps {P : Part → Prop} {s₀ s : State} (dict_ : P .dict) (mgmt_ : P .mgmt) (fb_ : P .fb) (stn_ : P .stn) (a : Nat)
    (x : Assoc) (b : FragBuf) (hs : At (Keeps P s₀) It s) : At (Keeps P s₀) It (State.fragDrop s a x b) := by
  unfold State.fragDrop
  with_reducible repeat' (first
    | assumption | (intro x; refine At.cut x ?_ ?_; rotate_left; intro _; clear_value x; rotate_left; unfold x) | intro _ | lift_lets
    | apply State.reply_keeps | apply State.setAssoc_keeps | apply At.ite | apply At.next | apply At.some | exact At.none
    | dsimp -zeta only [At.mkFst, At.mkSnd] | apply At.foldl | apply At.getD | apply At.fst | apply At.snd
    | ((conv => enter [3, 20]) <;> apply At.upd <;> first | exact .inl ‹_› | exact .inr rfl | skip)
    | ((conv => enter [3, 20]) <;> apply At.updCore) | split | exact At.ofMkFst ‹_› | exact At.ofMkSnd ‹_›
    | refine At.ofNext (by assumption) ?_ | refine At.ofFst (by assumption) ?_ | refine At.ofSnd (by assumption) ?_
    | refine At.ofOpt (by assumption) ?_ | refine At.ofOptSnd (by assumption) ?_ | refine At.ofOptFst (by assumption) ?_
    | refine At.ofOptSnd2 (by assumption) ?_ | apply At.mapAny | dsimp +zetaDelta only)

theorem execPresent_keeps {P : Part → Prop} {s₀ s : State} (frame_ : P .frame) (frameStart_ : P .frameStart) (dict_ : P .dict) (mgmt_ : P
    .mgmt) (fb_ : P .fb) (stn_ : P .stn) (pwr_ : P .pwr) (free_ : P .free) (f : OpdunHdr) (part : Octets) (hs : At (Keeps P s₀) It s) : At
    (Keeps P s₀) Nxt (execPresent f part s) := by
  unfold execPresent
  with_reducible repeat' (first
    | assumption | (intro x; refine At.cut x ?_ ?_; rotate_left; intro _; clear_value x; rotate_left; unfold x) | intro _ | lift_lets
    | apply State.draw_keeps | apply State.reply_keeps | apply State.setAssoc_keeps | apply State.request_keeps
    | apply State.presented_keeps | apply State.fragDrop_keeps | apply At.ite | apply At.next | apply At.some | exact At.none
    | dsimp -zeta only [At.mkFst, At.mkSnd] | apply At.foldl | apply At.getD | apply At.fst | apply At.snd
    | ((conv => enter [3, 20]) <;> apply At.upd <;> first | exact .inl ‹_› | exact .inr rfl | skip)
    | ((conv => enter [3, 20]) <;> apply At.updCore) | split | exact At.ofMkFst ‹_› | exact At.ofMkSnd ‹_›
    | refine At.ofNext (by assumption) ?_ | refine At.ofFst (by assumption) ?_ | refine At.ofSnd (by assumption) ?_
    | refine At.ofOpt (by assumption) ?_ | refine At.ofOptSnd (by assumption) ?_ | refine At.ofOptFst (by assumption) ?_
    | refine At.ofOptSnd2 (by assumption) ?_ | apply At.mapAny | dsimp +zetaDelta only)

theorem execOdRelease_keeps {P : Part → Prop} {s₀ s : State} (frame_ : P .frame) (frameStart_ : P .frameStart) (dict_ : P .dict) (mgmt_ : P
    .mgmt) (fb_ : P .fb) (stn_ : P .stn) (pwr_ : P .pwr) (free_ : P .free) (f : OpdunHdr) (hs : At (Keeps P s₀) It s) : At (Keeps P s₀) Nxt
    (execOdRelease f s) := by
  unfold execOdRelease
  with_reducible repeat' (first
    | assumption | (intro x; refine At.cut x ?_ ?_; rotate_left; intro _; clear_value x; rotate_left; unfold x) | intro _ | lift_lets
    | apply State.reply_keeps | apply State.endAssoc_keeps | apply State.request_keeps | apply At.ite | apply At.next | apply At.some
    | exact At.none | dsimp -zeta only [At.mkFst, At.mkSnd] | apply At.foldl | apply At.getD | apply At.fst | apply At.snd
    | ((conv => enter [3, 20]) <;> apply At.upd <;> first | exact .inl ‹_› | exact .inr rfl | skip)
    | ((conv => enter [3, 20]) <;> apply At.updCore) | split | exact At.ofMkFst ‹_› | exact At.ofMkSnd ‹_›
    | refine At.ofNext (by assumption) ?_ | refine At.ofFst (by assumption) ?_ | refine At.ofSnd (by assumption) ?_
    | refine At.ofOpt (by assumption) ?_ | refine At.ofOptSnd (by assumption) ?_ | refine At.ofOptFst (by assumption) ?_
    | refine At.ofOptSnd2 (by assumption) ?_ | apply At.mapAny | dsimp +zetaDelta only)

theorem execDiscover_keeps {P : Part → Prop} {s₀ s : State} (frame_ : P .frame) (frameStart_ : P .frameStart) (dict_ : P .dict) (mgmt_ : P
    .mgmt) (fb_ : P .fb) (stn_ : P .stn) (pwr_ : P .pwr) (free_ : P .free) (f : OpdunHdr) (hs : At (Keeps P s₀) It s) : At (Keeps P s₀) Nxt
    (execDiscover f s) := by
  unfold execDiscover
  with_reducible repeat' (first
    | assumption | (intro x; refine At.cut x ?_ ?_; rotate_left; intro _; clear_value x; rotate_left; unfold x) | intro _ | lift_lets
    | apply State.opdunReply_keeps | apply State.datagram_keeps | apply At.ite | apply At.next | apply At.some | exact At.none
    | dsimp -zeta only [At.mkFst, At.mkSnd] | apply At.foldl | apply At.getD | apply At.fst | apply At.snd
    | ((conv => enter [3, 20]) <;> apply At.upd <;> first | exact .inl ‹_› | exact .inr rfl | skip)
    | ((conv => enter [3, 20]) <;> apply At.updCore) | split | exact At.ofMkFst ‹_› | exact At.ofMkSnd ‹_›
    | refine At.ofNext (by assumption) ?_ | refine At.ofFst (by assumption) ?_ | refine At.ofSnd (by assumption) ?_
    | refine At.ofOpt (by assumption) ?_ | refine At.ofOptSnd (by assumption) ?_ | refine At.ofOptFst (by assumption) ?_
    | refine At.ofOptSnd2 (by assumption) ?_ | apply At.mapAny | dsimp +zetaDelta only)

theorem execOpdunIdleTimeout_keeps {P : Part → Prop} {s₀ s : State} (mgmt_ : P .mgmt) (a : Nat) (hs : At (Keeps P s₀) It s) : At (Keeps P
    s₀) Nxt (execOpdunIdleTimeout a s) := by
  unfold execOpdunIdleTimeout
  with_reducible repeat' (first
    | assumption | (intro x; refine At.cut x ?_ ?_; rotate_left; intro _; clear_value x; rotate_left; unfold x) | intro _ | lift_lets
    | apply State.endAssoc_keeps | apply At.ite | apply At.next | apply At.some | exact At.none | dsimp -zeta only [At.mkFst, At.mkSnd]
    | apply At.foldl | apply At.getD | apply At.fst | apply At.snd
    | ((conv => enter [3, 20]) <;> apply At.upd <;> first | exact .inl ‹_› | exact .inr rfl | skip)
    | ((conv => enter [3, 20]) <;> apply At.updCore) | split | exact At.ofMkFst ‹_› | exact At.ofMkSnd ‹_›
    | refine At.ofNext (by assumption) ?_ | refine At.ofFst (by assumption) ?_ | refine At.ofSnd (by assumption) ?_
    | refine At.ofOpt (by assumption) ?_ | refine At.ofOptSnd (by assumption) ?_ | refine At.ofOptFst (by assumption) ?_
    | refine At.ofOptSnd2 (by assumption) ?_ | apply At.mapAny | dsimp +zetaDelta only)

theorem execOpdunFragmentTimeout_keeps {P : Part → Prop} {s₀ s : State} (dict_ : P .dict) (mgmt_ : P .mgmt) (fb_ : P .fb) (stn_ : P .stn)
    (a : Nat) (hs : At (Keeps P s₀) It s) : At (Keeps P s₀) Nxt (execOpdunFragmentTimeout a s) := by
  unfold execOpdunFragmentTimeout
  with_reducible repeat' (first
    | assumption | (intro x; refine At.cut x ?_ ?_; rotate_left; intro _; clear_value x; rotate_left; unfold x) | intro _ | lift_lets
    | apply State.fragDrop_keeps | apply At.ite | apply At.next | apply At.some | exact At.none | dsimp -zeta only [At.mkFst, At.mkSnd]
    | apply At.foldl | apply At.getD | apply At.fst | apply At.snd
    | ((conv => enter [3, 20]) <;> apply At.upd <;> first | exact .inl ‹_› | exact .inr rfl | skip)
    | ((conv => enter [3, 20]) <;> apply At.updCore) | split | exact At.ofMkFst ‹_› | exact At.ofMkSnd ‹_›
    | refine At.ofNext (by assumption) ?_ | refine At.ofFst (by assumption) ?_ | refine At.ofSnd (by assumption) ?_
    | refine At.ofOpt (by assumption) ?_ | refine At.ofOptSnd (by assumption) ?_ | refine At.ofOptFst (by assumption) ?_
    | refine At.ofOptSnd2 (by assumption) ?_ | apply At.mapAny | dsimp +zetaDelta only)

theorem State.mailbox_keeps {P : Part → Prop} {s₀ s : State} (frame_ : P .frame) (frameStart_ : P .frameStart) (dict_ : P .dict) (mgmt_ : P
    .mgmt) (fb_ : P .fb) (stn_ : P .stn) (pwr_ : P .pwr) (free_ : P .free) (m : MailBlock) (cmd : Nat) (go : State → State) (hgo : ∀ u, At
    (Keeps P s₀) It u → At (Keeps P s₀) It (go u)) (hs : At (Keeps P s₀) It s) : At (Keeps P s₀) It (State.mailbox s m cmd go) := by
  unfold State.mailbox
  with_reducible repeat' (first
    | assumption | (intro x; refine At.cut x ?_ ?_; rotate_left; intro _; clear_value x; rotate_left; unfold x) | intro _ | lift_lets
    | apply State.bump_keeps | apply State.reply_keeps | apply State.datagram_keeps | apply hgo | apply At.ite | apply At.next
    | apply At.some | exact At.none | dsimp -zeta only [At.mkFst, At.mkSnd] | apply At.foldl | apply At.getD | apply At.fst | apply At.snd
    | ((conv => enter [3, 20]) <;> apply At.upd <;> first | exact .inl ‹_› | exact .inr rfl | skip)
    | ((conv => enter [3, 20]) <;> apply At.updCore) | split | exact At.ofMkFst ‹_› | exact At.ofMkSnd ‹_›
    | refine At.ofNext (by assumption) ?_ | refine At.ofFst (by assumption) ?_ | refine At.ofSnd (by assumption) ?_
    | refine At.ofOpt (by assumption) ?_ | refine At.ofOptSnd (by assumption) ?_ | refine At.ofOptFst (by assumption) ?_
    | refine At.ofOptSnd2 (by assumption) ?_ | apply At.mapAny | dsimp +zetaDelta only)

theorem State.mailRead_keeps {P : Part → Prop} {s₀ s : State} (dict_ : P .dict) (mgmt_ : P .mgmt) (fb_ : P .fb) (stn_ : P .stn) (tier_ : P
    .tier) (trv_ : P .trv) (cmd : Nat) (seq : Nat) (objs : List (Nat × Nat)) (form : List Octets → Nat × Nat × Octets) (hs : At (Keeps P
    s₀) It s) : At (Keeps P s₀) It (State.mailRead s cmd seq objs form) := by
  unfold State.mailRead
  with_reducible repeat' (first
    | assumption | (intro x; refine At.cut x ?_ ?_; rotate_left; intro _; clear_value x; rotate_left; unfold x) | intro _ | lift_lets
    | apply State.mailReply_keeps | apply State.reply_keeps | apply State.readObject_keeps | apply At.ite | apply At.next | apply At.some
    | exact At.none | dsimp -zeta only [At.mkFst, At.mkSnd] | apply At.foldl | apply At.getD | apply At.fst | apply At.snd
    | ((conv => enter [3, 20]) <;> apply At.upd <;> first | exact .inl ‹_› | exact .inr rfl | skip)
    | ((conv => enter [3, 20]) <;> apply At.updCore) | split | exact At.ofMkFst ‹_› | exact At.ofMkSnd ‹_›
    | refine At.ofNext (by assumption) ?_ | refine At.ofFst (by assumption) ?_ | refine At.ofSnd (by assumption) ?_
    | refine At.ofOpt (by assumption) ?_ | refine At.ofOptSnd (by assumption) ?_ | refine At.ofOptFst (by assumption) ?_
    | refine At.ofOptSnd2 (by assumption) ?_ | apply At.mapAny | dsimp +zetaDelta only)

theorem execGetId_keeps {P : Part → Prop} {s₀ s : State} (frame_ : P .frame) (frameStart_ : P .frameStart) (dict_ : P .dict) (mgmt_ : P
    .mgmt) (fb_ : P .fb) (stn_ : P .stn) (tier_ : P .tier) (trv_ : P .trv) (pwr_ : P .pwr) (free_ : P .free) (m : MailBlock) (hs : At
    (Keeps P s₀) It s) : At (Keeps P s₀) Nxt (execGetId m s) := by
  unfold execGetId
  with_reducible repeat' (first
    | assumption | (intro x; refine At.cut x ?_ ?_; rotate_left; intro _; clear_value x; rotate_left; unfold x) | intro _ | lift_lets
    | apply State.mailbox_keeps | apply State.mailRead_keeps | apply At.ite | apply At.next | apply At.some | exact At.none
    | dsimp -zeta only [At.mkFst, At.mkSnd] | apply At.foldl | apply At.getD | apply At.fst | apply At.snd
    | ((conv => enter [3, 20]) <;> apply At.upd <;> first | exact .inl ‹_› | exact .inr rfl | skip)
    | ((conv => enter [3, 20]) <;> apply At.updCore) | split | exact At.ofMkFst ‹_› | exact At.ofMkSnd ‹_›
    | refine At.ofNext (by assumption) ?_ | refine At.ofFst (by assumption) ?_ | refine At.ofSnd (by assumption) ?_
    | refine At.ofOpt (by assumption) ?_ | refine At.ofOptSnd (by assumption) ?_ | refine At.ofOptFst (by assumption) ?_
    | refine At.ofOptSnd2 (by assumption) ?_ | apply At.mapAny | dsimp +zetaDelta only)

theorem execGetVersion_keeps {P : Part → Prop} {s₀ s : State} (frame_ : P .frame) (frameStart_ : P .frameStart) (dict_ : P .dict) (mgmt_ :
    P .mgmt) (fb_ : P .fb) (stn_ : P .stn) (tier_ : P .tier) (trv_ : P .trv) (pwr_ : P .pwr) (free_ : P .free) (m : MailBlock) (hs : At
    (Keeps P s₀) It s) : At (Keeps P s₀) Nxt (execGetVersion m s) := by
  unfold execGetVersion
  with_reducible repeat' (first
    | assumption | (intro x; refine At.cut x ?_ ?_; rotate_left; intro _; clear_value x; rotate_left; unfold x) | intro _ | lift_lets
    | apply State.mailbox_keeps | apply State.mailRead_keeps | apply At.ite | apply At.next | apply At.some | exact At.none
    | dsimp -zeta only [At.mkFst, At.mkSnd] | apply At.foldl | apply At.getD | apply At.fst | apply At.snd
    | ((conv => enter [3, 20]) <;> apply At.upd <;> first | exact .inl ‹_› | exact .inr rfl | skip)
    | ((conv => enter [3, 20]) <;> apply At.updCore) | split | exact At.ofMkFst ‹_› | exact At.ofMkSnd ‹_›
    | refine At.ofNext (by assumption) ?_ | refine At.ofFst (by assumption) ?_ | refine At.ofSnd (by assumption) ?_
    | refine At.ofOpt (by assumption) ?_ | refine At.ofOptSnd (by assumption) ?_ | refine At.ofOptFst (by assumption) ?_
    | refine At.ofOptSnd2 (by assumption) ?_ | apply At.mapAny | dsimp +zetaDelta only)

theorem execGetTemp_keeps {P : Part → Prop} {s₀ s : State} (frame_ : P .frame) (frameStart_ : P .frameStart) (dict_ : P .dict) (mgmt_ : P
    .mgmt) (fb_ : P .fb) (stn_ : P .stn) (tier_ : P .tier) (trv_ : P .trv) (pwr_ : P .pwr) (free_ : P .free) (m : MailBlock) (hs : At
    (Keeps P s₀) It s) : At (Keeps P s₀) Nxt (execGetTemp m s) := by
  unfold execGetTemp
  with_reducible repeat' (first
    | assumption | (intro x; refine At.cut x ?_ ?_; rotate_left; intro _; clear_value x; rotate_left; unfold x) | intro _ | lift_lets
    | apply State.reply_keeps | apply State.mailbox_keeps | apply State.mailRead_keeps | apply At.ite | apply At.next | apply At.some
    | exact At.none | dsimp -zeta only [At.mkFst, At.mkSnd] | apply At.foldl | apply At.getD | apply At.fst | apply At.snd
    | ((conv => enter [3, 20]) <;> apply At.upd <;> first | exact .inl ‹_› | exact .inr rfl | skip)
    | ((conv => enter [3, 20]) <;> apply At.updCore) | split | exact At.ofMkFst ‹_› | exact At.ofMkSnd ‹_›
    | refine At.ofNext (by assumption) ?_ | refine At.ofFst (by assumption) ?_ | refine At.ofSnd (by assumption) ?_
    | refine At.ofOpt (by assumption) ?_ | refine At.ofOptSnd (by assumption) ?_ | refine At.ofOptFst (by assumption) ?_
    | refine At.ofOptSnd2 (by assumption) ?_ | apply At.mapAny | dsimp +zetaDelta only)

theorem execGetPower_keeps {P : Part → Prop} {s₀ s : State} (frame_ : P .frame) (frameStart_ : P .frameStart) (dict_ : P .dict) (mgmt_ : P
    .mgmt) (fb_ : P .fb) (stn_ : P .stn) (tier_ : P .tier) (trv_ : P .trv) (pwr_ : P .pwr) (free_ : P .free) (m : MailBlock) (hs : At
    (Keeps P s₀) It s) : At (Keeps P s₀) Nxt (execGetPower m s) := by
  unfold execGetPower
  with_reducible repeat' (first
    | assumption | (intro x; refine At.cut x ?_ ?_; rotate_left; intro _; clear_value x; rotate_left; unfold x) | intro _ | lift_lets
    | apply State.mailbox_keeps | apply State.mailRead_keeps | apply At.ite | apply At.next | apply At.some | exact At.none
    | dsimp -zeta only [At.mkFst, At.mkSnd] | apply At.foldl | apply At.getD | apply At.fst | apply At.snd
    | ((conv => enter [3, 20]) <;> apply At.upd <;> first | exact .inl ‹_› | exact .inr rfl | skip)
    | ((conv => enter [3, 20]) <;> apply At.updCore) | split | exact At.ofMkFst ‹_› | exact At.ofMkSnd ‹_›
    | refine At.ofNext (by assumption) ?_ | refine At.ofFst (by assumption) ?_ | refine At.ofSnd (by assumption) ?_
    | refine At.ofOpt (by assumption) ?_ | refine At.ofOptSnd (by assumption) ?_ | refine At.ofOptFst (by assumption) ?_
    | refine At.ofOptSnd2 (by assumption) ?_ | apply At.mapAny | dsimp +zetaDelta only)

theorem execReadLog_keeps {P : Part → Prop} {s₀ s : State} (frame_ : P .frame) (frameStart_ : P .frameStart) (dict_ : P .dict) (mgmt_ : P
    .mgmt) (fb_ : P .fb) (stn_ : P .stn) (tier_ : P .tier) (trv_ : P .trv) (pwr_ : P .pwr) (free_ : P .free) (m : MailBlock) (hs : At
    (Keeps P s₀) It s) : At (Keeps P s₀) Nxt (execReadLog m s) := by
  unfold execReadLog
  with_reducible repeat' (first
    | assumption | (intro x; refine At.cut x ?_ ?_; rotate_left; intro _; clear_value x; rotate_left; unfold x) | intro _ | lift_lets
    | apply State.mailbox_keeps | apply State.mailRead_keeps | apply At.ite | apply At.next | apply At.some | exact At.none
    | dsimp -zeta only [At.mkFst, At.mkSnd] | apply At.foldl | apply At.getD | apply At.fst | apply At.snd
    | ((conv => enter [3, 20]) <;> apply At.upd <;> first | exact .inl ‹_› | exact .inr rfl | skip)
    | ((conv => enter [3, 20]) <;> apply At.updCore) | split | exact At.ofMkFst ‹_› | exact At.ofMkSnd ‹_›
    | refine At.ofNext (by assumption) ?_ | refine At.ofFst (by assumption) ?_ | refine At.ofSnd (by assumption) ?_
    | refine At.ofOpt (by assumption) ?_ | refine At.ofOptSnd (by assumption) ?_ | refine At.ofOptFst (by assumption) ?_
    | refine At.ofOptSnd2 (by assumption) ?_ | apply At.mapAny | dsimp +zetaDelta only)

theorem execClearLog_keeps {P : Part → Prop} {s₀ s : State} (frame_ : P .frame) (frameStart_ : P .frameStart) (dict_ : P .dict) (mgmt_ : P
    .mgmt) (fb_ : P .fb) (stn_ : P .stn) (ses_ : P .ses) (tier_ : P .tier) (shape_ : P .shape) (trv_ : P .trv) (core_ : P .core) (text_ : P
    .text) (srch_ : P .srch) (sync_ : P .sync) (ck_ : P .ck) (fab_ : P .fab) (pwr_ : P .pwr) (free_ : P .free) (m : MailBlock) (hs : At
    (Keeps P s₀) It s) : At (Keeps P s₀) Nxt (execClearLog m s) := by
  unfold execClearLog
  with_reducible repeat' (first
    | assumption | (intro x; refine At.cut x ?_ ?_; rotate_left; intro _; clear_value x; rotate_left; unfold x) | intro _ | lift_lets
    | apply State.writeObject_keeps | apply State.mailbox_keeps | apply At.ite | apply At.next | apply At.some | exact At.none
    | dsimp -zeta only [At.mkFst, At.mkSnd] | apply At.foldl | apply At.getD | apply At.fst | apply At.snd
    | ((conv => enter [3, 20]) <;> apply At.upd <;> first | exact .inl ‹_› | exact .inr rfl | skip)
    | ((conv => enter [3, 20]) <;> apply At.updCore) | split | exact At.ofMkFst ‹_› | exact At.ofMkSnd ‹_›
    | refine At.ofNext (by assumption) ?_ | refine At.ofFst (by assumption) ?_ | refine At.ofSnd (by assumption) ?_
    | refine At.ofOpt (by assumption) ?_ | refine At.ofOptSnd (by assumption) ?_ | refine At.ofOptFst (by assumption) ?_
    | refine At.ofOptSnd2 (by assumption) ?_ | apply At.mapAny | dsimp +zetaDelta only)

theorem execReadReg_keeps {P : Part → Prop} {s₀ s : State} (frame_ : P .frame) (frameStart_ : P .frameStart) (dict_ : P .dict) (mgmt_ : P
    .mgmt) (fb_ : P .fb) (stn_ : P .stn) (tier_ : P .tier) (trv_ : P .trv) (pwr_ : P .pwr) (free_ : P .free) (m : MailBlock) (hs : At
    (Keeps P s₀) It s) : At (Keeps P s₀) Nxt (execReadReg m s) := by
  unfold execReadReg
  with_reducible repeat' (first
    | assumption | (intro x; refine At.cut x ?_ ?_; rotate_left; intro _; clear_value x; rotate_left; unfold x) | intro _ | lift_lets
    | apply State.reply_keeps | apply State.mailbox_keeps | apply State.mailRead_keeps | apply At.ite | apply At.next | apply At.some
    | exact At.none | dsimp -zeta only [At.mkFst, At.mkSnd] | apply At.foldl | apply At.getD | apply At.fst | apply At.snd
    | ((conv => enter [3, 20]) <;> apply At.upd <;> first | exact .inl ‹_› | exact .inr rfl | skip)
    | ((conv => enter [3, 20]) <;> apply At.updCore) | split | exact At.ofMkFst ‹_› | exact At.ofMkSnd ‹_›
    | refine At.ofNext (by assumption) ?_ | refine At.ofFst (by assumption) ?_ | refine At.ofSnd (by assumption) ?_
    | refine At.ofOpt (by assumption) ?_ | refine At.ofOptSnd (by assumption) ?_ | refine At.ofOptFst (by assumption) ?_
    | refine At.ofOptSnd2 (by assumption) ?_ | apply At.mapAny | dsimp +zetaDelta only)

theorem execWriteReg_keeps {P : Part → Prop} {s₀ s : State} (frame_ : P .frame) (frameStart_ : P .frameStart) (dict_ : P .dict) (mgmt_ : P
    .mgmt) (fb_ : P .fb) (stn_ : P .stn) (ses_ : P .ses) (tier_ : P .tier) (shape_ : P .shape) (trv_ : P .trv) (core_ : P .core) (text_ : P
    .text) (srch_ : P .srch) (sync_ : P .sync) (ck_ : P .ck) (fab_ : P .fab) (pwr_ : P .pwr) (free_ : P .free) (m : MailBlock) (hs : At
    (Keeps P s₀) It s) : At (Keeps P s₀) Nxt (execWriteReg m s) := by
  unfold execWriteReg
  with_reducible repeat' (first
    | assumption | (intro x; refine At.cut x ?_ ?_; rotate_left; intro _; clear_value x; rotate_left; unfold x) | intro _ | lift_lets
    | apply State.reply_keeps | apply State.writeObject_keeps | apply State.mailbox_keeps | apply At.ite | apply At.next | apply At.some
    | exact At.none | dsimp -zeta only [At.mkFst, At.mkSnd] | apply At.foldl | apply At.getD | apply At.fst | apply At.snd
    | ((conv => enter [3, 20]) <;> apply At.upd <;> first | exact .inl ‹_› | exact .inr rfl | skip)
    | ((conv => enter [3, 20]) <;> apply At.updCore) | split | exact At.ofMkFst ‹_› | exact At.ofMkSnd ‹_›
    | refine At.ofNext (by assumption) ?_ | refine At.ofFst (by assumption) ?_ | refine At.ofSnd (by assumption) ?_
    | refine At.ofOpt (by assumption) ?_ | refine At.ofOptSnd (by assumption) ?_ | refine At.ofOptFst (by assumption) ?_
    | refine At.ofOptSnd2 (by assumption) ?_ | apply At.mapAny | dsimp +zetaDelta only)

theorem execFwChunk_keeps {P : Part → Prop} {s₀ s : State} (frame_ : P .frame) (frameStart_ : P .frameStart) (dict_ : P .dict) (mgmt_ : P
    .mgmt) (fb_ : P .fb) (stn_ : P .stn) (ses_ : P .ses) (tier_ : P .tier) (shape_ : P .shape) (trv_ : P .trv) (core_ : P .core) (text_ : P
    .text) (srch_ : P .srch) (sync_ : P .sync) (ck_ : P .ck) (fab_ : P .fab) (pwr_ : P .pwr) (free_ : P .free) (m : MailBlock) (hs : At
    (Keeps P s₀) It s) : At (Keeps P s₀) Nxt (execFwChunk m s) := by
  unfold execFwChunk
  with_reducible repeat' (first
    | assumption | (intro x; refine At.cut x ?_ ?_; rotate_left; intro _; clear_value x; rotate_left; unfold x) | intro _ | lift_lets
    | apply State.writeObject_keeps | apply State.mailbox_keeps | apply At.ite | apply At.next | apply At.some | exact At.none
    | dsimp -zeta only [At.mkFst, At.mkSnd] | apply At.foldl | apply At.getD | apply At.fst | apply At.snd
    | ((conv => enter [3, 20]) <;> apply At.upd <;> first | exact .inl ‹_› | exact .inr rfl | skip)
    | ((conv => enter [3, 20]) <;> apply At.updCore) | split | exact At.ofMkFst ‹_› | exact At.ofMkSnd ‹_›
    | refine At.ofNext (by assumption) ?_ | refine At.ofFst (by assumption) ?_ | refine At.ofSnd (by assumption) ?_
    | refine At.ofOpt (by assumption) ?_ | refine At.ofOptSnd (by assumption) ?_ | refine At.ofOptFst (by assumption) ?_
    | refine At.ofOptSnd2 (by assumption) ?_ | apply At.mapAny | dsimp +zetaDelta only)

theorem execFwVerify_keeps {P : Part → Prop} {s₀ s : State} (frame_ : P .frame) (frameStart_ : P .frameStart) (dict_ : P .dict) (mgmt_ : P
    .mgmt) (fb_ : P .fb) (stn_ : P .stn) (pwr_ : P .pwr) (free_ : P .free) (m : MailBlock) (hs : At (Keeps P s₀) It s) : At (Keeps P s₀)
    Nxt (execFwVerify m s) := by
  unfold execFwVerify
  with_reducible repeat' (first
    | assumption | (intro x; refine At.cut x ?_ ?_; rotate_left; intro _; clear_value x; rotate_left; unfold x) | intro _ | lift_lets
    | apply execFwCmdVerify_keeps | apply after_keeps | apply State.mailbox_keeps | apply At.ite | apply At.next | apply At.some
    | exact At.none | dsimp -zeta only [At.mkFst, At.mkSnd] | apply At.foldl | apply At.getD | apply At.fst | apply At.snd
    | ((conv => enter [3, 20]) <;> apply At.upd <;> first | exact .inl ‹_› | exact .inr rfl | skip)
    | ((conv => enter [3, 20]) <;> apply At.updCore) | split | exact At.ofMkFst ‹_› | exact At.ofMkSnd ‹_›
    | refine At.ofNext (by assumption) ?_ | refine At.ofFst (by assumption) ?_ | refine At.ofSnd (by assumption) ?_
    | refine At.ofOpt (by assumption) ?_ | refine At.ofOptSnd (by assumption) ?_ | refine At.ofOptFst (by assumption) ?_
    | refine At.ofOptSnd2 (by assumption) ?_ | apply At.mapAny | dsimp +zetaDelta only)

theorem execFwCommit_keeps {P : Part → Prop} {s₀ s : State} (frame_ : P .frame) (frameStart_ : P .frameStart) (dict_ : P .dict) (mgmt_ : P
    .mgmt) (fb_ : P .fb) (stn_ : P .stn) (ses_ : P .ses) (tier_ : P .tier) (shape_ : P .shape) (trv_ : P .trv) (core_ : P .core) (text_ : P
    .text) (srch_ : P .srch) (sync_ : P .sync) (ck_ : P .ck) (fab_ : P .fab) (pwr_ : P .pwr) (free_ : P .free) (m : MailBlock) (hs : At
    (Keeps P s₀) It s) : At (Keeps P s₀) Nxt (execFwCommit m s) := by
  unfold execFwCommit
  with_reducible repeat' (first
    | assumption | (intro x; refine At.cut x ?_ ?_; rotate_left; intro _; clear_value x; rotate_left; unfold x) | intro _ | lift_lets
    | apply State.writeObject_keeps | apply State.mailbox_keeps | apply At.ite | apply At.next | apply At.some | exact At.none
    | dsimp -zeta only [At.mkFst, At.mkSnd] | apply At.foldl | apply At.getD | apply At.fst | apply At.snd
    | ((conv => enter [3, 20]) <;> apply At.upd <;> first | exact .inl ‹_› | exact .inr rfl | skip)
    | ((conv => enter [3, 20]) <;> apply At.updCore) | split | exact At.ofMkFst ‹_› | exact At.ofMkSnd ‹_›
    | refine At.ofNext (by assumption) ?_ | refine At.ofFst (by assumption) ?_ | refine At.ofSnd (by assumption) ?_
    | refine At.ofOpt (by assumption) ?_ | refine At.ofOptSnd (by assumption) ?_ | refine At.ofOptFst (by assumption) ?_
    | refine At.ofOptSnd2 (by assumption) ?_ | apply At.mapAny | dsimp +zetaDelta only)

theorem execGetFence_keeps {P : Part → Prop} {s₀ s : State} (frame_ : P .frame) (frameStart_ : P .frameStart) (dict_ : P .dict) (mgmt_ : P
    .mgmt) (fb_ : P .fb) (stn_ : P .stn) (tier_ : P .tier) (trv_ : P .trv) (pwr_ : P .pwr) (free_ : P .free) (m : MailBlock) (hs : At
    (Keeps P s₀) It s) : At (Keeps P s₀) Nxt (execGetFence m s) := by
  unfold execGetFence
  with_reducible repeat' (first
    | assumption | (intro x; refine At.cut x ?_ ?_; rotate_left; intro _; clear_value x; rotate_left; unfold x) | intro _ | lift_lets
    | apply State.mailbox_keeps | apply State.mailRead_keeps | apply At.ite | apply At.next | apply At.some | exact At.none
    | dsimp -zeta only [At.mkFst, At.mkSnd] | apply At.foldl | apply At.getD | apply At.fst | apply At.snd
    | ((conv => enter [3, 20]) <;> apply At.upd <;> first | exact .inl ‹_› | exact .inr rfl | skip)
    | ((conv => enter [3, 20]) <;> apply At.updCore) | split | exact At.ofMkFst ‹_› | exact At.ofMkSnd ‹_›
    | refine At.ofNext (by assumption) ?_ | refine At.ofFst (by assumption) ?_ | refine At.ofSnd (by assumption) ?_
    | refine At.ofOpt (by assumption) ?_ | refine At.ofOptSnd (by assumption) ?_ | refine At.ofOptFst (by assumption) ?_
    | refine At.ofOptSnd2 (by assumption) ?_ | apply At.mapAny | dsimp +zetaDelta only)

theorem execGetPlat_keeps {P : Part → Prop} {s₀ s : State} (frame_ : P .frame) (frameStart_ : P .frameStart) (dict_ : P .dict) (mgmt_ : P
    .mgmt) (fb_ : P .fb) (stn_ : P .stn) (tier_ : P .tier) (trv_ : P .trv) (pwr_ : P .pwr) (free_ : P .free) (m : MailBlock) (hs : At
    (Keeps P s₀) It s) : At (Keeps P s₀) Nxt (execGetPlat m s) := by
  unfold execGetPlat
  with_reducible repeat' (first
    | assumption | (intro x; refine At.cut x ?_ ?_; rotate_left; intro _; clear_value x; rotate_left; unfold x) | intro _ | lift_lets
    | apply State.mailbox_keeps | apply State.mailRead_keeps | apply At.ite | apply At.next | apply At.some | exact At.none
    | dsimp -zeta only [At.mkFst, At.mkSnd] | apply At.foldl | apply At.getD | apply At.fst | apply At.snd
    | ((conv => enter [3, 20]) <;> apply At.upd <;> first | exact .inl ‹_› | exact .inr rfl | skip)
    | ((conv => enter [3, 20]) <;> apply At.updCore) | split | exact At.ofMkFst ‹_› | exact At.ofMkSnd ‹_›
    | refine At.ofNext (by assumption) ?_ | refine At.ofFst (by assumption) ?_ | refine At.ofSnd (by assumption) ?_
    | refine At.ofOpt (by assumption) ?_ | refine At.ofOptSnd (by assumption) ?_ | refine At.ofOptFst (by assumption) ?_
    | refine At.ofOptSnd2 (by assumption) ?_ | apply At.mapAny | dsimp +zetaDelta only)

/-! ### Machine/HostMsgs.lean -/

theorem State.enterIntake_keeps {P : Part → Prop} {s₀ s : State} (dict_ : P .dict) (stn_ : P .stn) (st : Nat) (module : Nat) (len : Nat) (m
    : Msg) (hs : At (Keeps P s₀) It s) : At (Keeps P s₀) It (State.enterIntake s st module len m) := by
  unfold State.enterIntake
  with_reducible repeat' (first
    | assumption | (intro x; refine At.cut x ?_ ?_; rotate_left; intro _; clear_value x; rotate_left; unfold x) | intro _ | lift_lets
    | apply State.bump_keeps | apply State.setStation_keeps | apply At.ite | apply At.next | apply At.some | exact At.none
    | dsimp -zeta only [At.mkFst, At.mkSnd] | apply At.foldl | apply At.getD | apply At.fst | apply At.snd
    | ((conv => enter [3, 20]) <;> apply At.upd <;> first | exact .inl ‹_› | exact .inr rfl | skip)
    | ((conv => enter [3, 20]) <;> apply At.updCore) | split | exact At.ofMkFst ‹_› | exact At.ofMkSnd ‹_›
    | refine At.ofNext (by assumption) ?_ | refine At.ofFst (by assumption) ?_ | refine At.ofSnd (by assumption) ?_
    | refine At.ofOpt (by assumption) ?_ | refine At.ofOptSnd (by assumption) ?_ | refine At.ofOptFst (by assumption) ?_
    | refine At.ofOptSnd2 (by assumption) ?_ | apply At.mapAny | dsimp +zetaDelta only)

theorem State.takeEntry_keeps {P : Part → Prop} {s₀ s : State} (dict_ : P .dict) (stn_ : P .stn) (st : Nat) (e : Intake) (hs : At (Keeps P
    s₀) It s) : At (Keeps P s₀) It (State.takeEntry s st e) := by
  unfold State.takeEntry
  with_reducible repeat' (first
    | assumption | (intro x; refine At.cut x ?_ ?_; rotate_left; intro _; clear_value x; rotate_left; unfold x) | intro _ | lift_lets
    | apply State.bump_keeps | apply State.setStation_keeps | apply At.ite | apply At.next | apply At.some | exact At.none
    | dsimp -zeta only [At.mkFst, At.mkSnd] | apply At.foldl | apply At.getD | apply At.fst | apply At.snd
    | ((conv => enter [3, 20]) <;> apply At.upd <;> first | exact .inl ‹_› | exact .inr rfl | skip)
    | ((conv => enter [3, 20]) <;> apply At.updCore) | split | exact At.ofMkFst ‹_› | exact At.ofMkSnd ‹_›
    | refine At.ofNext (by assumption) ?_ | refine At.ofFst (by assumption) ?_ | refine At.ofSnd (by assumption) ?_
    | refine At.ofOpt (by assumption) ?_ | refine At.ofOptSnd (by assumption) ?_ | refine At.ofOptFst (by assumption) ?_
    | refine At.ofOptSnd2 (by assumption) ?_ | apply At.mapAny | dsimp +zetaDelta only)

theorem State.entriesRead_keeps {P : Part → Prop} {s₀ s : State} (dict_ : P .dict) (stn_ : P .stn) (st : Nat) (hs : At (Keeps P s₀) It s) :
    At (Keeps P s₀) It (State.entriesRead s st) := by
  unfold State.entriesRead
  with_reducible repeat' (first
    | assumption | (intro x; refine At.cut x ?_ ?_; rotate_left; intro _; clear_value x; rotate_left; unfold x) | intro _ | lift_lets
    | apply State.takeEntry_keeps | apply At.ite | apply At.next | apply At.some | exact At.none | dsimp -zeta only [At.mkFst, At.mkSnd]
    | apply At.foldl | apply At.getD | apply At.fst | apply At.snd
    | ((conv => enter [3, 20]) <;> apply At.upd <;> first | exact .inl ‹_› | exact .inr rfl | skip)
    | ((conv => enter [3, 20]) <;> apply At.updCore) | split | exact At.ofMkFst ‹_› | exact At.ofMkSnd ‹_›
    | refine At.ofNext (by assumption) ?_ | refine At.ofFst (by assumption) ?_ | refine At.ofSnd (by assumption) ?_
    | refine At.ofOpt (by assumption) ?_ | refine At.ofOptSnd (by assumption) ?_ | refine At.ofOptFst (by assumption) ?_
    | refine At.ofOptSnd2 (by assumption) ?_ | apply At.mapAny | dsimp +zetaDelta only)

theorem State.orRelay_keeps {P : Part → Prop} {s₀ s : State} (dict_ : P .dict) (stn_ : P .stn) (ses_ : P .ses) (srch_ : P .srch) (fab_ : P
    .fab) (st : Nat) (e : Intake) (go : State → State) (hgo : ∀ u, At (Keeps P s₀) It u → At (Keeps P s₀) It (go u)) (hs : At (Keeps P s₀)
    It s) : At (Keeps P s₀) It (State.orRelay s st e go) := by
  unfold State.orRelay
  with_reducible repeat' (first
    | assumption | (intro x; refine At.cut x ?_ ?_; rotate_left; intro _; clear_value x; rotate_left; unfold x) | intro _ | lift_lets
    | apply State.setIntake_keeps | apply State.resolve_keeps | apply State.fabSend_keeps | apply hgo | apply At.ite | apply At.next
    | apply At.some | exact At.none | dsimp -zeta only [At.mkFst, At.mkSnd] | apply At.foldl | apply At.getD | apply At.fst | apply At.snd
    | ((conv => enter [3, 20]) <;> apply At.upd <;> first | exact .inl ‹_› | exact .inr rfl | skip)
    | ((conv => enter [3, 20]) <;> apply At.updCore) | split | exact At.ofMkFst ‹_› | exact At.ofMkSnd ‹_›
    | refine At.ofNext (by assumption) ?_ | refine At.ofFst (by assumption) ?_ | refine At.ofSnd (by assumption) ?_
    | refine At.ofOpt (by assumption) ?_ | refine At.ofOptSnd (by assumption) ?_ | refine At.ofOptFst (by assumption) ?_
    | refine At.ofOptSnd2 (by assumption) ?_ | apply At.mapAny | dsimp +zetaDelta only)

theorem State.searchDebit_keeps {P : Part → Prop} {s₀ s : State} (shape_ : P .shape) (st : Nat) (ii : Nat) (write : Bool) (hs : At (Keeps P
    s₀) It s) : At (Keeps P s₀) It (State.searchDebit s st ii write) := by
  unfold State.searchDebit
  with_reducible repeat' (first
    | assumption | (intro x; refine At.cut x ?_ ?_; rotate_left; intro _; clear_value x; rotate_left; unfold x) | intro _ | lift_lets
    | apply State.debitLater_keeps | apply At.ite | apply At.next | apply At.some | exact At.none | dsimp -zeta only [At.mkFst, At.mkSnd]
    | apply At.foldl | apply At.getD | apply At.fst | apply At.snd
    | ((conv => enter [3, 20]) <;> apply At.upd <;> first | exact .inl ‹_› | exact .inr rfl | skip)
    | ((conv => enter [3, 20]) <;> apply At.updCore) | split | exact At.ofMkFst ‹_› | exact At.ofMkSnd ‹_›
    | refine At.ofNext (by assumption) ?_ | refine At.ofFst (by assumption) ?_ | refine At.ofSnd (by assumption) ?_
    | refine At.ofOpt (by assumption) ?_ | refine At.ofOptSnd (by assumption) ?_ | refine At.ofOptFst (by assumption) ?_
    | refine At.ofOptSnd2 (by assumption) ?_ | apply At.mapAny | dsimp +zetaDelta only)

theorem State.effect_keeps {P : Part → Prop} {s₀ s : State} (frame_ : P .frame) (frameStart_ : P .frameStart) (dict_ : P .dict) (mgmt_ : P
    .mgmt) (fb_ : P .fb) (stn_ : P .stn) (ses_ : P .ses) (tier_ : P .tier) (shape_ : P .shape) (trv_ : P .trv) (core_ : P .core) (text_ : P
    .text) (srch_ : P .srch) (sync_ : P .sync) (ck_ : P .ck) (fab_ : P .fab) (pwr_ : P .pwr) (free_ : P .free) (st : Nat) (e : Intake) (hs
    : At (Keeps P s₀) It s) : At (Keeps P s₀) It (State.effect s st e) := by
  unfold State.effect
  generalize e.msg.body = m
  cases m
  all_goals dsimp only
  all_goals with_reducible repeat' (first
    | assumption | apply State.helloMsg_keeps | apply State.serveRead_keeps | apply State.writeObject_keeps | apply State.openMsg_keeps
    | apply State.prefixRegisterMsg_keeps | apply State.prefixReleaseMsg_keeps | apply State.checkpointMsg_keeps | apply State.queryMsg_keeps
    | apply State.insertMsg_keeps | apply State.deleteMsg_keeps | apply State.searchDebit_keeps | apply State.orRelay_keeps
    | apply State.ringNameMsg_keeps | apply State.closeMsg_keeps | apply State.appendMsg_keeps | apply State.resumeMsg_keeps
    | apply State.cancelMsg_keeps | apply State.parkMsg_keeps | apply State.reviveMsg_keeps | intro _)

theorem State.refuseCounted_keeps {P : Part → Prop} {s₀ s : State} (dict_ : P .dict) (stn_ : P .stn) (st : Nat) (e : Intake) (o : Outcome)
    (c : ObjSpec) (hs : At (Keeps P s₀) It s) : At (Keeps P s₀) It (State.refuseCounted s st e o c) := by
  unfold State.refuseCounted
  with_reducible repeat' (first
    | assumption | (intro x; refine At.cut x ?_ ?_; rotate_left; intro _; clear_value x; rotate_left; unfold x) | intro _ | lift_lets
    | apply State.bump_keeps | apply State.finish_keeps | apply At.ite | apply At.next | apply At.some | exact At.none
    | dsimp -zeta only [At.mkFst, At.mkSnd] | apply At.foldl | apply At.getD | apply At.fst | apply At.snd
    | ((conv => enter [3, 20]) <;> apply At.upd <;> first | exact .inl ‹_› | exact .inr rfl | skip)
    | ((conv => enter [3, 20]) <;> apply At.updCore) | split | exact At.ofMkFst ‹_› | exact At.ofMkSnd ‹_›
    | refine At.ofNext (by assumption) ?_ | refine At.ofFst (by assumption) ?_ | refine At.ofSnd (by assumption) ?_
    | refine At.ofOpt (by assumption) ?_ | refine At.ofOptSnd (by assumption) ?_ | refine At.ofOptFst (by assumption) ?_
    | refine At.ofOptSnd2 (by assumption) ?_ | apply At.mapAny | dsimp +zetaDelta only)

theorem State.toAccept_keeps {P : Part → Prop} {s₀ s : State} (frame_ : P .frame) (frameStart_ : P .frameStart) (dict_ : P .dict) (mgmt_ :
    P .mgmt) (fb_ : P .fb) (stn_ : P .stn) (ses_ : P .ses) (tier_ : P .tier) (shape_ : P .shape) (trv_ : P .trv) (core_ : P .core) (text_ :
    P .text) (srch_ : P .srch) (sync_ : P .sync) (ck_ : P .ck) (fab_ : P .fab) (pwr_ : P .pwr) (free_ : P .free) (st : Nat) (e : Intake)
    (hs : At (Keeps P s₀) It s) : At (Keeps P s₀) It (State.toAccept s st e) := by
  unfold State.toAccept
  with_reducible repeat' (first
    | assumption | (intro x; refine At.cut x ?_ ?_; rotate_left; intro _; clear_value x; rotate_left; unfold x) | intro _ | lift_lets
    | apply State.bump_keeps | apply State.setIntake_keeps | apply State.finish_keeps | apply State.effect_keeps | apply At.ite
    | apply At.next | apply At.some | exact At.none | dsimp -zeta only [At.mkFst, At.mkSnd] | apply At.foldl | apply At.getD
    | apply At.fst | apply At.snd | ((conv => enter [3, 20]) <;> apply At.upd <;> first | exact .inl ‹_› | exact .inr rfl | skip)
    | ((conv => enter [3, 20]) <;> apply At.updCore) | split | exact At.ofMkFst ‹_› | exact At.ofMkSnd ‹_›
    | refine At.ofNext (by assumption) ?_ | refine At.ofFst (by assumption) ?_ | refine At.ofSnd (by assumption) ?_
    | refine At.ofOpt (by assumption) ?_ | refine At.ofOptSnd (by assumption) ?_ | refine At.ofOptFst (by assumption) ?_
    | refine At.ofOptSnd2 (by assumption) ?_ | apply At.mapAny | dsimp +zetaDelta only)

theorem State.refuseSeq_keeps {P : Part → Prop} {s₀ s : State} (dict_ : P .dict) (stn_ : P .stn) (st : Nat) (e : Intake) (o : Outcome) (hs
    : At (Keeps P s₀) It s) : At (Keeps P s₀) It (State.refuseSeq s st e o) := by
  unfold State.refuseSeq
  with_reducible repeat' (first
    | assumption | (intro x; refine At.cut x ?_ ?_; rotate_left; intro _; clear_value x; rotate_left; unfold x) | intro _ | lift_lets
    | apply State.finish_keeps | apply State.refuseCounted_keeps | apply At.ite | apply At.next | apply At.some | exact At.none
    | dsimp -zeta only [At.mkFst, At.mkSnd] | apply At.foldl | apply At.getD | apply At.fst | apply At.snd
    | ((conv => enter [3, 20]) <;> apply At.upd <;> first | exact .inl ‹_› | exact .inr rfl | skip)
    | ((conv => enter [3, 20]) <;> apply At.updCore) | split | exact At.ofMkFst ‹_› | exact At.ofMkSnd ‹_›
    | refine At.ofNext (by assumption) ?_ | refine At.ofFst (by assumption) ?_ | refine At.ofSnd (by assumption) ?_
    | refine At.ofOpt (by assumption) ?_ | refine At.ofOptSnd (by assumption) ?_ | refine At.ofOptFst (by assumption) ?_
    | refine At.ofOptSnd2 (by assumption) ?_ | apply At.mapAny | dsimp +zetaDelta only)

theorem State.admitEntry_keeps {P : Part → Prop} {s₀ s : State} (frame_ : P .frame) (frameStart_ : P .frameStart) (dict_ : P .dict) (mgmt_
    : P .mgmt) (fb_ : P .fb) (stn_ : P .stn) (ses_ : P .ses) (tier_ : P .tier) (shape_ : P .shape) (trv_ : P .trv) (core_ : P .core) (text_
    : P .text) (srch_ : P .srch) (sync_ : P .sync) (ck_ : P .ck) (fab_ : P .fab) (pwr_ : P .pwr) (free_ : P .free) (st : Nat) (e : Intake)
    (hs : At (Keeps P s₀) It s) : At (Keeps P s₀) It (State.admitEntry s st e) := by
  unfold State.admitEntry
  with_reducible repeat' (first
    | assumption | (intro x; refine At.cut x ?_ ?_; rotate_left; intro _; clear_value x; rotate_left; unfold x) | intro _ | lift_lets
    | apply State.setIntake_keeps | apply State.ruleLook_keeps | apply State.refuseCounted_keeps | apply State.toAccept_keeps
    | apply State.refuseSeq_keeps | apply At.ite | apply At.next | apply At.some | exact At.none | dsimp -zeta only [At.mkFst, At.mkSnd]
    | apply At.foldl | apply At.getD | apply At.fst | apply At.snd
    | ((conv => enter [3, 20]) <;> apply At.upd <;> first | exact .inl ‹_› | exact .inr rfl | skip)
    | ((conv => enter [3, 20]) <;> apply At.updCore) | split | exact At.ofMkFst ‹_› | exact At.ofMkSnd ‹_›
    | refine At.ofNext (by assumption) ?_ | refine At.ofFst (by assumption) ?_ | refine At.ofSnd (by assumption) ?_
    | refine At.ofOpt (by assumption) ?_ | refine At.ofOptSnd (by assumption) ?_ | refine At.ofOptFst (by assumption) ?_
    | refine At.ofOptSnd2 (by assumption) ?_ | apply At.mapAny | dsimp +zetaDelta only)

theorem State.intoTraffic_keeps {P : Part → Prop} {s₀ s : State} (frame_ : P .frame) (frameStart_ : P .frameStart) (dict_ : P .dict) (mgmt_
    : P .mgmt) (fb_ : P .fb) (stn_ : P .stn) (ses_ : P .ses) (tier_ : P .tier) (shape_ : P .shape) (trv_ : P .trv) (core_ : P .core) (text_
    : P .text) (srch_ : P .srch) (sync_ : P .sync) (ck_ : P .ck) (fab_ : P .fab) (pwr_ : P .pwr) (free_ : P .free) (st : Nat) (e : Intake)
    (hs : At (Keeps P s₀) It s) : At (Keeps P s₀) It (State.intoTraffic s st e) := by
  unfold State.intoTraffic
  with_reducible repeat' (first
    | assumption | (intro x; refine At.cut x ?_ ?_; rotate_left; intro _; clear_value x; rotate_left; unfold x) | intro _ | lift_lets
    | apply State.setIntake_keeps | apply State.admitEntry_keeps | apply At.ite | apply At.next | apply At.some | exact At.none
    | dsimp -zeta only [At.mkFst, At.mkSnd] | apply At.foldl | apply At.getD | apply At.fst | apply At.snd
    | ((conv => enter [3, 20]) <;> apply At.upd <;> first | exact .inl ‹_› | exact .inr rfl | skip)
    | ((conv => enter [3, 20]) <;> apply At.updCore) | split | exact At.ofMkFst ‹_› | exact At.ofMkSnd ‹_›
    | refine At.ofNext (by assumption) ?_ | refine At.ofFst (by assumption) ?_ | refine At.ofSnd (by assumption) ?_
    | refine At.ofOpt (by assumption) ?_ | refine At.ofOptSnd (by assumption) ?_ | refine At.ofOptFst (by assumption) ?_
    | refine At.ofOptSnd2 (by assumption) ?_ | apply At.mapAny | dsimp +zetaDelta only)

theorem State.serveOne_keeps {P : Part → Prop} {s₀ s : State} (frame_ : P .frame) (frameStart_ : P .frameStart) (dict_ : P .dict) (mgmt_ :
    P .mgmt) (fb_ : P .fb) (stn_ : P .stn) (ses_ : P .ses) (tier_ : P .tier) (shape_ : P .shape) (trv_ : P .trv) (core_ : P .core) (text_ :
    P .text) (srch_ : P .srch) (sync_ : P .sync) (ck_ : P .ck) (fab_ : P .fab) (pwr_ : P .pwr) (free_ : P .free) (st : Nat) (seq : Nat) (hs
    : At (Keeps P s₀) It s) : At (Keeps P s₀) It (State.serveOne s st seq) := by
  unfold State.serveOne
  with_reducible repeat' (first
    | assumption | (intro x; refine At.cut x ?_ ?_; rotate_left; intro _; clear_value x; rotate_left; unfold x) | intro _ | lift_lets
    | apply State.setStation_keeps | apply State.setIntake_keeps | apply State.goodbyeStep_keeps | apply State.finish_keeps
    | apply State.effect_keeps | apply State.refuseSeq_keeps | apply State.intoTraffic_keeps | apply At.ite | apply At.next
    | apply At.some | exact At.none | dsimp -zeta only [At.mkFst, At.mkSnd] | apply At.foldl | apply At.getD | apply At.fst | apply At.snd
    | ((conv => enter [3, 20]) <;> apply At.upd <;> first | exact .inl ‹_› | exact .inr rfl | skip)
    | ((conv => enter [3, 20]) <;> apply At.updCore) | split | exact At.ofMkFst ‹_› | exact At.ofMkSnd ‹_›
    | refine At.ofNext (by assumption) ?_ | refine At.ofFst (by assumption) ?_ | refine At.ofSnd (by assumption) ?_
    | refine At.ofOpt (by assumption) ?_ | refine At.ofOptSnd (by assumption) ?_ | refine At.ofOptFst (by assumption) ?_
    | refine At.ofOptSnd2 (by assumption) ?_ | apply At.mapAny | dsimp +zetaDelta only)

theorem State.serveFresh_keeps {P : Part → Prop} {s₀ s : State} (frame_ : P .frame) (frameStart_ : P .frameStart) (dict_ : P .dict) (mgmt_
    : P .mgmt) (fb_ : P .fb) (stn_ : P .stn) (ses_ : P .ses) (tier_ : P .tier) (shape_ : P .shape) (trv_ : P .trv) (core_ : P .core) (text_
    : P .text) (srch_ : P .srch) (sync_ : P .sync) (ck_ : P .ck) (fab_ : P .fab) (pwr_ : P .pwr) (free_ : P .free) (st : Nat) (hs : At
    (Keeps P s₀) It s) : At (Keeps P s₀) It (State.serveFresh s st) := by
  unfold State.serveFresh
  with_reducible repeat' (first
    | assumption | (intro x; refine At.cut x ?_ ?_; rotate_left; intro _; clear_value x; rotate_left; unfold x) | intro _ | lift_lets
    | apply State.serveOne_keeps | apply At.ite | apply At.next | apply At.some | exact At.none | dsimp -zeta only [At.mkFst, At.mkSnd]
    | apply At.foldl | apply At.getD | apply At.fst | apply At.snd
    | ((conv => enter [3, 20]) <;> apply At.upd <;> first | exact .inl ‹_› | exact .inr rfl | skip)
    | ((conv => enter [3, 20]) <;> apply At.updCore) | split | exact At.ofMkFst ‹_› | exact At.ofMkSnd ‹_›
    | refine At.ofNext (by assumption) ?_ | refine At.ofFst (by assumption) ?_ | refine At.ofSnd (by assumption) ?_
    | refine At.ofOpt (by assumption) ?_ | refine At.ofOptSnd (by assumption) ?_ | refine At.ofOptFst (by assumption) ?_
    | refine At.ofOptSnd2 (by assumption) ?_ | apply At.mapAny | dsimp +zetaDelta only)

theorem State.unblock_keeps {P : Part → Prop} {s₀ s : State} (frame_ : P .frame) (frameStart_ : P .frameStart) (dict_ : P .dict) (mgmt_ : P
    .mgmt) (fb_ : P .fb) (stn_ : P .stn) (ses_ : P .ses) (tier_ : P .tier) (shape_ : P .shape) (trv_ : P .trv) (core_ : P .core) (text_ : P
    .text) (srch_ : P .srch) (sync_ : P .sync) (ck_ : P .ck) (fab_ : P .fab) (pwr_ : P .pwr) (free_ : P .free) (st : Nat) (hs : At (Keeps P
    s₀) It s) : At (Keeps P s₀) It (State.unblock s st) := by
  unfold State.unblock
  with_reducible repeat' (first
    | assumption | (intro x; refine At.cut x ?_ ?_; rotate_left; intro _; clear_value x; rotate_left; unfold x) | intro _ | lift_lets
    | apply State.admitEntry_keeps | apply State.serveFresh_keeps | apply At.ite | apply At.next | apply At.some | exact At.none
    | dsimp -zeta only [At.mkFst, At.mkSnd] | apply At.foldl | apply At.getD | apply At.fst | apply At.snd
    | ((conv => enter [3, 20]) <;> apply At.upd <;> first | exact .inl ‹_› | exact .inr rfl | skip)
    | ((conv => enter [3, 20]) <;> apply At.updCore) | split | exact At.ofMkFst ‹_› | exact At.ofMkSnd ‹_›
    | refine At.ofNext (by assumption) ?_ | refine At.ofFst (by assumption) ?_ | refine At.ofSnd (by assumption) ?_
    | refine At.ofOpt (by assumption) ?_ | refine At.ofOptSnd (by assumption) ?_ | refine At.ofOptFst (by assumption) ?_
    | refine At.ofOptSnd2 (by assumption) ?_ | apply At.mapAny | dsimp +zetaDelta only)

theorem State.hostMsg_keeps {P : Part → Prop} {s₀ s : State} (frame_ : P .frame) (frameStart_ : P .frameStart) (dict_ : P .dict) (mgmt_ : P
    .mgmt) (fb_ : P .fb) (stn_ : P .stn) (ses_ : P .ses) (tier_ : P .tier) (shape_ : P .shape) (trv_ : P .trv) (core_ : P .core) (text_ : P
    .text) (srch_ : P .srch) (sync_ : P .sync) (ck_ : P .ck) (fab_ : P .fab) (pwr_ : P .pwr) (free_ : P .free) (t : Transfer) (h : MsgHdr)
    (b : MsgBody) (hs : At (Keeps P s₀) It s) : At (Keeps P s₀) It (State.hostMsg s t h b) := by
  unfold State.hostMsg
  with_reducible repeat' (first
    | assumption | (intro x; refine At.cut x ?_ ?_; rotate_left; intro _; clear_value x; rotate_left; unfold x) | intro _ | lift_lets
    | apply State.transfer_keeps | apply State.readDescs_keeps | apply State.enterIntake_keeps | apply State.serveFresh_keeps
    | apply At.ite | apply At.next | apply At.some | exact At.none | dsimp -zeta only [At.mkFst, At.mkSnd] | apply At.foldl
    | apply At.getD | apply At.fst | apply At.snd
    | ((conv => enter [3, 20]) <;> apply At.upd <;> first | exact .inl ‹_› | exact .inr rfl | skip)
    | ((conv => enter [3, 20]) <;> apply At.updCore) | split | exact At.ofMkFst ‹_› | exact At.ofMkSnd ‹_›
    | refine At.ofNext (by assumption) ?_ | refine At.ofFst (by assumption) ?_ | refine At.ofSnd (by assumption) ?_
    | refine At.ofOpt (by assumption) ?_ | refine At.ofOptSnd (by assumption) ?_ | refine At.ofOptFst (by assumption) ?_
    | refine At.ofOptSnd2 (by assumption) ?_ | apply At.mapAny | dsimp +zetaDelta only)

theorem State.readFailed_keeps {P : Part → Prop} {s₀ s : State} (frame_ : P .frame) (frameStart_ : P .frameStart) (dict_ : P .dict) (mgmt_
    : P .mgmt) (fb_ : P .fb) (stn_ : P .stn) (ses_ : P .ses) (tier_ : P .tier) (shape_ : P .shape) (trv_ : P .trv) (core_ : P .core) (text_
    : P .text) (srch_ : P .srch) (sync_ : P .sync) (ck_ : P .ck) (fab_ : P .fab) (pwr_ : P .pwr) (free_ : P .free) (st : Nat) (u : ReadUse)
    (hs : At (Keeps P s₀) It s) : At (Keeps P s₀) It (State.readFailed s st u) := by
  unfold State.readFailed
  with_reducible repeat' (first
    | assumption | (intro x; refine At.cut x ?_ ?_; rotate_left; intro _; clear_value x; rotate_left; unfold x) | intro _ | lift_lets
    | apply State.setStation_keeps | apply State.finish_keeps | apply State.vectorFailed_keeps | apply State.entriesRead_keeps
    | apply State.unblock_keeps | apply At.ite | apply At.next | apply At.some | exact At.none | dsimp -zeta only [At.mkFst, At.mkSnd]
    | apply At.foldl | apply At.getD | apply At.fst | apply At.snd
    | ((conv => enter [3, 20]) <;> apply At.upd <;> first | exact .inl ‹_› | exact .inr rfl | skip)
    | ((conv => enter [3, 20]) <;> apply At.updCore) | split | exact At.ofMkFst ‹_› | exact At.ofMkSnd ‹_›
    | refine At.ofNext (by assumption) ?_ | refine At.ofFst (by assumption) ?_ | refine At.ofSnd (by assumption) ?_
    | refine At.ofOpt (by assumption) ?_ | refine At.ofOptSnd (by assumption) ?_ | refine At.ofOptFst (by assumption) ?_
    | refine At.ofOptSnd2 (by assumption) ?_ | apply At.mapAny | dsimp +zetaDelta only)

theorem State.inputBytes_keeps {P : Part → Prop} {s₀ s : State} (stn_ : P .stn) (st : Nat) (seq : Nat) (off : Nat) (data : Octets) (hs : At
    (Keeps P s₀) It s) : At (Keeps P s₀) It (State.inputBytes s st seq off data) := by
  unfold State.inputBytes
  with_reducible repeat' (first
    | assumption | (intro x; refine At.cut x ?_ ?_; rotate_left; intro _; clear_value x; rotate_left; unfold x) | intro _ | lift_lets
    | apply State.setIntake_keeps | apply At.ite | apply At.next | apply At.some | exact At.none | dsimp -zeta only [At.mkFst, At.mkSnd]
    | apply At.foldl | apply At.getD | apply At.fst | apply At.snd
    | ((conv => enter [3, 20]) <;> apply At.upd <;> first | exact .inl ‹_› | exact .inr rfl | skip)
    | ((conv => enter [3, 20]) <;> apply At.updCore) | split | exact At.ofMkFst ‹_› | exact At.ofMkSnd ‹_›
    | refine At.ofNext (by assumption) ?_ | refine At.ofFst (by assumption) ?_ | refine At.ofSnd (by assumption) ?_
    | refine At.ofOpt (by assumption) ?_ | refine At.ofOptSnd (by assumption) ?_ | refine At.ofOptFst (by assumption) ?_
    | refine At.ofOptSnd2 (by assumption) ?_ | apply At.mapAny | dsimp +zetaDelta only)

theorem State.headerRead_keeps {P : Part → Prop} {s₀ s : State} (dict_ : P .dict) (fb_ : P .fb) (stn_ : P .stn) (st : Nat) (completion :
    Bool) (v : Nat) (hs : At (Keeps P s₀) It s) : At (Keeps P s₀) It (State.headerRead s st completion v) := by
  unfold State.headerRead
  with_reducible repeat' (first
    | assumption | (intro x; refine At.cut x ?_ ?_; rotate_left; intro _; clear_value x; rotate_left; unfold x) | intro _ | lift_lets
    | apply State.report_keeps | apply State.setStation_keeps | apply At.ite | apply At.next | apply At.some | exact At.none
    | dsimp -zeta only [At.mkFst, At.mkSnd] | apply At.foldl | apply At.getD | apply At.fst | apply At.snd
    | ((conv => enter [3, 20]) <;> apply At.upd <;> first | exact .inl ‹_› | exact .inr rfl | skip)
    | ((conv => enter [3, 20]) <;> apply At.updCore) | split | exact At.ofMkFst ‹_› | exact At.ofMkSnd ‹_›
    | refine At.ofNext (by assumption) ?_ | refine At.ofFst (by assumption) ?_ | refine At.ofSnd (by assumption) ?_
    | refine At.ofOpt (by assumption) ?_ | refine At.ofOptSnd (by assumption) ?_ | refine At.ofOptFst (by assumption) ?_
    | refine At.ofOptSnd2 (by assumption) ?_ | apply At.mapAny | dsimp +zetaDelta only)

theorem State.readTaken_keeps {P : Part → Prop} {s₀ s : State} (dict_ : P .dict) (fb_ : P .fb) (stn_ : P .stn) (ses_ : P .ses) (tier_ : P
    .tier) (shape_ : P .shape) (srch_ : P .srch) (st : Nat) (r : ReadReq) (data : Octets) (hs : At (Keeps P s₀) It s) : At (Keeps P s₀) It
    (State.readTaken s st r data) := by
  unfold State.readTaken
  with_reducible repeat' (first
    | assumption | (intro x; refine At.cut x ?_ ?_; rotate_left; intro _; clear_value x; rotate_left; unfold x) | intro _ | lift_lets
    | apply State.vectorArrived_keeps | apply State.entriesRead_keeps | apply State.inputBytes_keeps | apply State.headerRead_keeps
    | apply At.ite | apply At.next | apply At.some | exact At.none | dsimp -zeta only [At.mkFst, At.mkSnd] | apply At.foldl
    | apply At.getD | apply At.fst | apply At.snd
    | ((conv => enter [3, 20]) <;> apply At.upd <;> first | exact .inl ‹_› | exact .inr rfl | skip)
    | ((conv => enter [3, 20]) <;> apply At.updCore) | split | exact At.ofMkFst ‹_› | exact At.ofMkSnd ‹_›
    | refine At.ofNext (by assumption) ?_ | refine At.ofFst (by assumption) ?_ | refine At.ofSnd (by assumption) ?_
    | refine At.ofOpt (by assumption) ?_ | refine At.ofOptSnd (by assumption) ?_ | refine At.ofOptFst (by assumption) ?_
    | refine At.ofOptSnd2 (by assumption) ?_ | apply At.mapAny | dsimp +zetaDelta only)

theorem execReadData_keeps {P : Part → Prop} {s₀ s : State} (frame_ : P .frame) (frameStart_ : P .frameStart) (dict_ : P .dict) (mgmt_ : P
    .mgmt) (fb_ : P .fb) (stn_ : P .stn) (ses_ : P .ses) (tier_ : P .tier) (shape_ : P .shape) (trv_ : P .trv) (core_ : P .core) (text_ : P
    .text) (srch_ : P .srch) (sync_ : P .sync) (ck_ : P .ck) (fab_ : P .fab) (pwr_ : P .pwr) (free_ : P .free) (t : Transfer) (data :
    Octets) (hs : At (Keeps P s₀) It s) : At (Keeps P s₀) Nxt (execReadData t data s) := by
  unfold execReadData
  with_reducible repeat' (first
    | assumption | (intro x; refine At.cut x ?_ ?_; rotate_left; intro _; clear_value x; rotate_left; unfold x) | intro _ | lift_lets
    | apply State.setStation_keeps | apply State.transfer_keeps | apply State.serveFresh_keeps | apply State.readFailed_keeps
    | apply State.readTaken_keeps | apply At.ite | apply At.next | apply At.some | exact At.none | dsimp -zeta only [At.mkFst, At.mkSnd]
    | apply At.foldl | apply At.getD | apply At.fst | apply At.snd
    | ((conv => enter [3, 20]) <;> apply At.upd <;> first | exact .inl ‹_› | exact .inr rfl | skip)
    | ((conv => enter [3, 20]) <;> apply At.updCore) | split | exact At.ofMkFst ‹_› | exact At.ofMkSnd ‹_›
    | refine At.ofNext (by assumption) ?_ | refine At.ofFst (by assumption) ?_ | refine At.ofSnd (by assumption) ?_
    | refine At.ofOpt (by assumption) ?_ | refine At.ofOptSnd (by assumption) ?_ | refine At.ofOptFst (by assumption) ?_
    | refine At.ofOptSnd2 (by assumption) ?_ | apply At.mapAny | dsimp +zetaDelta only)

theorem execHostReadTimeout_keeps {P : Part → Prop} {s₀ s : State} (frame_ : P .frame) (frameStart_ : P .frameStart) (dict_ : P .dict)
    (mgmt_ : P .mgmt) (fb_ : P .fb) (stn_ : P .stn) (ses_ : P .ses) (tier_ : P .tier) (shape_ : P .shape) (trv_ : P .trv) (core_ : P .core)
    (text_ : P .text) (srch_ : P .srch) (sync_ : P .sync) (ck_ : P .ck) (fab_ : P .fab) (pwr_ : P .pwr) (free_ : P .free) (st : Nat) (tag :
    Nat) (hs : At (Keeps P s₀) It s) : At (Keeps P s₀) Nxt (execHostReadTimeout st tag s) := by
  unfold execHostReadTimeout
  with_reducible repeat' (first
    | assumption | (intro x; refine At.cut x ?_ ?_; rotate_left; intro _; clear_value x; rotate_left; unfold x) | intro _ | lift_lets
    | apply State.setStation_keeps | apply State.readFailed_keeps | apply At.ite | apply At.next | apply At.some | exact At.none
    | dsimp -zeta only [At.mkFst, At.mkSnd] | apply At.foldl | apply At.getD | apply At.fst | apply At.snd
    | ((conv => enter [3, 20]) <;> apply At.upd <;> first | exact .inl ‹_› | exact .inr rfl | skip)
    | ((conv => enter [3, 20]) <;> apply At.updCore) | split | exact At.ofMkFst ‹_› | exact At.ofMkSnd ‹_›
    | refine At.ofNext (by assumption) ?_ | refine At.ofFst (by assumption) ?_ | refine At.ofSnd (by assumption) ?_
    | refine At.ofOpt (by assumption) ?_ | refine At.ofOptSnd (by assumption) ?_ | refine At.ofOptFst (by assumption) ?_
    | refine At.ofOptSnd2 (by assumption) ?_ | apply At.mapAny | dsimp +zetaDelta only)

theorem execReferencedBytesArrived_keeps {P : Part → Prop} {s₀ s : State} (frame_ : P .frame) (frameStart_ : P .frameStart) (dict_ : P
    .dict) (mgmt_ : P .mgmt) (fb_ : P .fb) (stn_ : P .stn) (ses_ : P .ses) (tier_ : P .tier) (shape_ : P .shape) (trv_ : P .trv) (core_ : P
    .core) (text_ : P .text) (srch_ : P .srch) (sync_ : P .sync) (ck_ : P .ck) (fab_ : P .fab) (pwr_ : P .pwr) (free_ : P .free) (st : Nat)
    (seq : Nat) (hs : At (Keeps P s₀) It s) : At (Keeps P s₀) Nxt (execReferencedBytesArrived st seq s) := by
  unfold execReferencedBytesArrived
  with_reducible repeat' (first
    | assumption | (intro x; refine At.cut x ?_ ?_; rotate_left; intro _; clear_value x; rotate_left; unfold x) | intro _ | lift_lets
    | apply State.intoTraffic_keeps | apply State.unblock_keeps | apply At.ite | apply At.next | apply At.some | exact At.none
    | dsimp -zeta only [At.mkFst, At.mkSnd] | apply At.foldl | apply At.getD | apply At.fst | apply At.snd
    | ((conv => enter [3, 20]) <;> apply At.upd <;> first | exact .inl ‹_› | exact .inr rfl | skip)
    | ((conv => enter [3, 20]) <;> apply At.updCore) | split | exact At.ofMkFst ‹_› | exact At.ofMkSnd ‹_›
    | refine At.ofNext (by assumption) ?_ | refine At.ofFst (by assumption) ?_ | refine At.ofSnd (by assumption) ?_
    | refine At.ofOpt (by assumption) ?_ | refine At.ofOptSnd (by assumption) ?_ | refine At.ofOptFst (by assumption) ?_
    | refine At.ofOptSnd2 (by assumption) ?_ | apply At.mapAny | dsimp +zetaDelta only)

theorem execDeferredMessagePass_keeps {P : Part → Prop} {s₀ s : State} (frame_ : P .frame) (frameStart_ : P .frameStart) (dict_ : P .dict)
    (mgmt_ : P .mgmt) (fb_ : P .fb) (stn_ : P .stn) (ses_ : P .ses) (tier_ : P .tier) (shape_ : P .shape) (trv_ : P .trv) (core_ : P .core)
    (text_ : P .text) (srch_ : P .srch) (sync_ : P .sync) (ck_ : P .ck) (fab_ : P .fab) (pwr_ : P .pwr) (free_ : P .free) (st : Nat) (seq :
    Nat) (hs : At (Keeps P s₀) It s) : At (Keeps P s₀) Nxt (execDeferredMessagePass st seq s) := by
  unfold execDeferredMessagePass
  with_reducible repeat' (first
    | assumption | (intro x; refine At.cut x ?_ ?_; rotate_left; intro _; clear_value x; rotate_left; unfold x) | intro _ | lift_lets
    | apply State.toAccept_keeps | apply State.refuseSeq_keeps | apply State.unblock_keeps | apply At.ite | apply At.next | apply At.some
    | exact At.none | dsimp -zeta only [At.mkFst, At.mkSnd] | apply At.foldl | apply At.getD | apply At.fst | apply At.snd
    | ((conv => enter [3, 20]) <;> apply At.upd <;> first | exact .inl ‹_› | exact .inr rfl | skip)
    | ((conv => enter [3, 20]) <;> apply At.updCore) | split | exact At.ofMkFst ‹_› | exact At.ofMkSnd ‹_›
    | refine At.ofNext (by assumption) ?_ | refine At.ofFst (by assumption) ?_ | refine At.ofSnd (by assumption) ?_
    | refine At.ofOpt (by assumption) ?_ | refine At.ofOptSnd (by assumption) ?_ | refine At.ofOptFst (by assumption) ?_
    | refine At.ofOptSnd2 (by assumption) ?_ | apply At.mapAny | dsimp +zetaDelta only)

theorem execDeferExpiry_keeps {P : Part → Prop} {s₀ s : State} (frame_ : P .frame) (frameStart_ : P .frameStart) (dict_ : P .dict) (mgmt_ :
    P .mgmt) (fb_ : P .fb) (stn_ : P .stn) (ses_ : P .ses) (tier_ : P .tier) (shape_ : P .shape) (trv_ : P .trv) (core_ : P .core) (text_ :
    P .text) (srch_ : P .srch) (sync_ : P .sync) (ck_ : P .ck) (fab_ : P .fab) (pwr_ : P .pwr) (free_ : P .free) (st : Nat) (seq : Nat) (hs
    : At (Keeps P s₀) It s) : At (Keeps P s₀) Nxt (execDeferExpiry st seq s) := by
  unfold execDeferExpiry
  with_reducible repeat' (first
    | assumption | (intro x; refine At.cut x ?_ ?_; rotate_left; intro _; clear_value x; rotate_left; unfold x) | intro _ | lift_lets
    | apply State.finish_keeps | apply State.refuseCounted_keeps | apply State.unblock_keeps | apply At.ite | apply At.next
    | apply At.some | exact At.none | dsimp -zeta only [At.mkFst, At.mkSnd] | apply At.foldl | apply At.getD | apply At.fst | apply At.snd
    | ((conv => enter [3, 20]) <;> apply At.upd <;> first | exact .inl ‹_› | exact .inr rfl | skip)
    | ((conv => enter [3, 20]) <;> apply At.updCore) | split | exact At.ofMkFst ‹_› | exact At.ofMkSnd ‹_›
    | refine At.ofNext (by assumption) ?_ | refine At.ofFst (by assumption) ?_ | refine At.ofSnd (by assumption) ?_
    | refine At.ofOpt (by assumption) ?_ | refine At.ofOptSnd (by assumption) ?_ | refine At.ofOptFst (by assumption) ?_
    | refine At.ofOptSnd2 (by assumption) ?_ | apply At.mapAny | dsimp +zetaDelta only)

theorem execMsgTransfer_keeps {P : Part → Prop} {s₀ s : State} (frame_ : P .frame) (frameStart_ : P .frameStart) (dict_ : P .dict) (mgmt_ :
    P .mgmt) (fb_ : P .fb) (stn_ : P .stn) (ses_ : P .ses) (tier_ : P .tier) (shape_ : P .shape) (trv_ : P .trv) (core_ : P .core) (text_ :
    P .text) (srch_ : P .srch) (sync_ : P .sync) (ck_ : P .ck) (fab_ : P .fab) (pwr_ : P .pwr) (free_ : P .free) (t : Transfer) (m : Msg)
    (hs : At (Keeps P s₀) It s) : At (Keeps P s₀) Nxt (execMsgTransfer t m s) := by
  unfold execMsgTransfer
  with_reducible repeat' (first
    | assumption | (intro x; refine At.cut x ?_ ?_; rotate_left; intro _; clear_value x; rotate_left; unfold x) | intro _ | lift_lets
    | apply State.transfer_keeps | apply State.enterIntake_keeps | apply State.serveFresh_keeps | apply At.ite | apply At.next
    | apply At.some | exact At.none | dsimp -zeta only [At.mkFst, At.mkSnd] | apply At.foldl | apply At.getD | apply At.fst | apply At.snd
    | ((conv => enter [3, 20]) <;> apply At.upd <;> first | exact .inl ‹_› | exact .inr rfl | skip)
    | ((conv => enter [3, 20]) <;> apply At.updCore) | split | exact At.ofMkFst ‹_› | exact At.ofMkSnd ‹_›
    | refine At.ofNext (by assumption) ?_ | refine At.ofFst (by assumption) ?_ | refine At.ofSnd (by assumption) ?_
    | refine At.ofOpt (by assumption) ?_ | refine At.ofOptSnd (by assumption) ?_ | refine At.ofOptFst (by assumption) ?_
    | refine At.ofOptSnd2 (by assumption) ?_ | apply At.mapAny | dsimp +zetaDelta only)

theorem execCtrlRead_keeps {P : Part → Prop} {s₀ s : State} (frame_ : P .frame) (frameStart_ : P .frameStart) (dict_ : P .dict) (mgmt_ : P
    .mgmt) (fb_ : P .fb) (stn_ : P .stn) (pwr_ : P .pwr) (t : Transfer) (hs : At (Keeps P s₀) It s) : At (Keeps P s₀) Nxt (execCtrlRead t
    s) := by
  unfold execCtrlRead
  with_reducible repeat' (first
    | assumption | (intro x; refine At.cut x ?_ ?_; rotate_left; intro _; clear_value x; rotate_left; unfold x) | intro _ | lift_lets
    | apply State.setStation_keeps | apply State.transfer_keeps | apply At.ite | apply At.next | apply At.some | exact At.none
    | dsimp -zeta only [At.mkFst, At.mkSnd] | apply At.foldl | apply At.getD | apply At.fst | apply At.snd
    | ((conv => enter [3, 20]) <;> apply At.upd <;> first | exact .inl ‹_› | exact .inr rfl | skip)
    | ((conv => enter [3, 20]) <;> apply At.updCore) | split | exact At.ofMkFst ‹_› | exact At.ofMkSnd ‹_›
    | refine At.ofNext (by assumption) ?_ | refine At.ofFst (by assumption) ?_ | refine At.ofSnd (by assumption) ?_
    | refine At.ofOpt (by assumption) ?_ | refine At.ofOptSnd (by assumption) ?_ | refine At.ofOptFst (by assumption) ?_
    | refine At.ofOptSnd2 (by assumption) ?_ | apply At.mapAny | dsimp +zetaDelta only)

theorem execIntakeInService_keeps {P : Part → Prop} {s₀ s : State} (frame_ : P .frame) (frameStart_ : P .frameStart) (dict_ : P .dict)
    (mgmt_ : P .mgmt) (fb_ : P .fb) (stn_ : P .stn) (ses_ : P .ses) (tier_ : P .tier) (shape_ : P .shape) (trv_ : P .trv) (core_ : P .core)
    (text_ : P .text) (srch_ : P .srch) (sync_ : P .sync) (ck_ : P .ck) (fab_ : P .fab) (pwr_ : P .pwr) (free_ : P .free) (hs : At (Keeps P
    s₀) It s) : At (Keeps P s₀) Nxt (execIntakeInService s) := by
  unfold execIntakeInService
  with_reducible repeat' (first
    | assumption | (intro x; refine At.cut x ?_ ?_; rotate_left; intro _; clear_value x; rotate_left; unfold x) | intro _ | lift_lets
    | apply State.setPwr_keeps | apply State.setTrvSlot_keeps | apply State.restoreModels_keeps | apply State.enterIntake_keeps
    | apply State.serveFresh_keeps | apply At.ite | apply At.next | apply At.some | exact At.none | dsimp -zeta only [At.mkFst, At.mkSnd]
    | apply At.foldl | apply At.getD | apply At.fst | apply At.snd
    | ((conv => enter [3, 20]) <;> apply At.upd <;> first | exact .inl ‹_› | exact .inr rfl | skip)
    | ((conv => enter [3, 20]) <;> apply At.updCore) | split | exact At.ofMkFst ‹_› | exact At.ofMkSnd ‹_›
    | refine At.ofNext (by assumption) ?_ | refine At.ofFst (by assumption) ?_ | refine At.ofSnd (by assumption) ?_
    | refine At.ofOpt (by assumption) ?_ | refine At.ofOptSnd (by assumption) ?_ | refine At.ofOptFst (by assumption) ?_
    | refine At.ofOptSnd2 (by assumption) ?_ | apply At.mapAny | dsimp +zetaDelta only)

theorem execHello_keeps {P : Part → Prop} {s₀ s : State} (frame_ : P .frame) (frameStart_ : P .frameStart) (dict_ : P .dict) (mgmt_ : P
    .mgmt) (fb_ : P .fb) (stn_ : P .stn) (ses_ : P .ses) (tier_ : P .tier) (shape_ : P .shape) (trv_ : P .trv) (core_ : P .core) (text_ : P
    .text) (srch_ : P .srch) (sync_ : P .sync) (ck_ : P .ck) (fab_ : P .fab) (pwr_ : P .pwr) (free_ : P .free) (t : Transfer) (h : MsgHdr)
    (b : HelloBody) (hs : At (Keeps P s₀) It s) : At (Keeps P s₀) Nxt (execHello t h b s) := by
  unfold execHello
  with_reducible repeat' (first
    | assumption | (intro x; refine At.cut x ?_ ?_; rotate_left; intro _; clear_value x; rotate_left; unfold x) | intro _ | lift_lets
    | apply State.hostMsg_keeps | apply At.ite | apply At.next | apply At.some | exact At.none | dsimp -zeta only [At.mkFst, At.mkSnd]
    | apply At.foldl | apply At.getD | apply At.fst | apply At.snd
    | ((conv => enter [3, 20]) <;> apply At.upd <;> first | exact .inl ‹_› | exact .inr rfl | skip)
    | ((conv => enter [3, 20]) <;> apply At.updCore) | split | exact At.ofMkFst ‹_› | exact At.ofMkSnd ‹_›
    | refine At.ofNext (by assumption) ?_ | refine At.ofFst (by assumption) ?_ | refine At.ofSnd (by assumption) ?_
    | refine At.ofOpt (by assumption) ?_ | refine At.ofOptSnd (by assumption) ?_ | refine At.ofOptFst (by assumption) ?_
    | refine At.ofOptSnd2 (by assumption) ?_ | apply At.mapAny | dsimp +zetaDelta only)

theorem execGoodbye_keeps {P : Part → Prop} {s₀ s : State} (frame_ : P .frame) (frameStart_ : P .frameStart) (dict_ : P .dict) (mgmt_ : P
    .mgmt) (fb_ : P .fb) (stn_ : P .stn) (ses_ : P .ses) (tier_ : P .tier) (shape_ : P .shape) (trv_ : P .trv) (core_ : P .core) (text_ : P
    .text) (srch_ : P .srch) (sync_ : P .sync) (ck_ : P .ck) (fab_ : P .fab) (pwr_ : P .pwr) (free_ : P .free) (t : Transfer) (h : MsgHdr)
    (hs : At (Keeps P s₀) It s) : At (Keeps P s₀) Nxt (execGoodbye t h s) := by
  unfold execGoodbye
  with_reducible repeat' (first
    | assumption | (intro x; refine At.cut x ?_ ?_; rotate_left; intro _; clear_value x; rotate_left; unfold x) | intro _ | lift_lets
    | apply State.hostMsg_keeps | apply At.ite | apply At.next | apply At.some | exact At.none | dsimp -zeta only [At.mkFst, At.mkSnd]
    | apply At.foldl | apply At.getD | apply At.fst | apply At.snd
    | ((conv => enter [3, 20]) <;> apply At.upd <;> first | exact .inl ‹_› | exact .inr rfl | skip)
    | ((conv => enter [3, 20]) <;> apply At.updCore) | split | exact At.ofMkFst ‹_› | exact At.ofMkSnd ‹_›
    | refine At.ofNext (by assumption) ?_ | refine At.ofFst (by assumption) ?_ | refine At.ofSnd (by assumption) ?_
    | refine At.ofOpt (by assumption) ?_ | refine At.ofOptSnd (by assumption) ?_ | refine At.ofOptFst (by assumption) ?_
    | refine At.ofOptSnd2 (by assumption) ?_ | apply At.mapAny | dsimp +zetaDelta only)

theorem execRingName_keeps {P : Part → Prop} {s₀ s : State} (frame_ : P .frame) (frameStart_ : P .frameStart) (dict_ : P .dict) (mgmt_ : P
    .mgmt) (fb_ : P .fb) (stn_ : P .stn) (ses_ : P .ses) (tier_ : P .tier) (shape_ : P .shape) (trv_ : P .trv) (core_ : P .core) (text_ : P
    .text) (srch_ : P .srch) (sync_ : P .sync) (ck_ : P .ck) (fab_ : P .fab) (pwr_ : P .pwr) (free_ : P .free) (t : Transfer) (h : MsgHdr)
    (b : RingNameBody) (hs : At (Keeps P s₀) It s) : At (Keeps P s₀) Nxt (execRingName t h b s) := by
  unfold execRingName
  with_reducible repeat' (first
    | assumption | (intro x; refine At.cut x ?_ ?_; rotate_left; intro _; clear_value x; rotate_left; unfold x) | intro _ | lift_lets
    | apply State.hostMsg_keeps | apply At.ite | apply At.next | apply At.some | exact At.none | dsimp -zeta only [At.mkFst, At.mkSnd]
    | apply At.foldl | apply At.getD | apply At.fst | apply At.snd
    | ((conv => enter [3, 20]) <;> apply At.upd <;> first | exact .inl ‹_› | exact .inr rfl | skip)
    | ((conv => enter [3, 20]) <;> apply At.updCore) | split | exact At.ofMkFst ‹_› | exact At.ofMkSnd ‹_›
    | refine At.ofNext (by assumption) ?_ | refine At.ofFst (by assumption) ?_ | refine At.ofSnd (by assumption) ?_
    | refine At.ofOpt (by assumption) ?_ | refine At.ofOptSnd (by assumption) ?_ | refine At.ofOptFst (by assumption) ?_
    | refine At.ofOptSnd2 (by assumption) ?_ | apply At.mapAny | dsimp +zetaDelta only)

theorem execObjRead_keeps {P : Part → Prop} {s₀ s : State} (frame_ : P .frame) (frameStart_ : P .frameStart) (dict_ : P .dict) (mgmt_ : P
    .mgmt) (fb_ : P .fb) (stn_ : P .stn) (ses_ : P .ses) (tier_ : P .tier) (shape_ : P .shape) (trv_ : P .trv) (core_ : P .core) (text_ : P
    .text) (srch_ : P .srch) (sync_ : P .sync) (ck_ : P .ck) (fab_ : P .fab) (pwr_ : P .pwr) (free_ : P .free) (t : Transfer) (h : MsgHdr)
    (b : ObjBody) (hs : At (Keeps P s₀) It s) : At (Keeps P s₀) Nxt (execObjRead t h b s) := by
  unfold execObjRead
  with_reducible repeat' (first
    | assumption | (intro x; refine At.cut x ?_ ?_; rotate_left; intro _; clear_value x; rotate_left; unfold x) | intro _ | lift_lets
    | apply State.hostMsg_keeps | apply At.ite | apply At.next | apply At.some | exact At.none | dsimp -zeta only [At.mkFst, At.mkSnd]
    | apply At.foldl | apply At.getD | apply At.fst | apply At.snd
    | ((conv => enter [3, 20]) <;> apply At.upd <;> first | exact .inl ‹_› | exact .inr rfl | skip)
    | ((conv => enter [3, 20]) <;> apply At.updCore) | split | exact At.ofMkFst ‹_› | exact At.ofMkSnd ‹_›
    | refine At.ofNext (by assumption) ?_ | refine At.ofFst (by assumption) ?_ | refine At.ofSnd (by assumption) ?_
    | refine At.ofOpt (by assumption) ?_ | refine At.ofOptSnd (by assumption) ?_ | refine At.ofOptFst (by assumption) ?_
    | refine At.ofOptSnd2 (by assumption) ?_ | apply At.mapAny | dsimp +zetaDelta only)

theorem execObjWrite_keeps {P : Part → Prop} {s₀ s : State} (frame_ : P .frame) (frameStart_ : P .frameStart) (dict_ : P .dict) (mgmt_ : P
    .mgmt) (fb_ : P .fb) (stn_ : P .stn) (ses_ : P .ses) (tier_ : P .tier) (shape_ : P .shape) (trv_ : P .trv) (core_ : P .core) (text_ : P
    .text) (srch_ : P .srch) (sync_ : P .sync) (ck_ : P .ck) (fab_ : P .fab) (pwr_ : P .pwr) (free_ : P .free) (t : Transfer) (h : MsgHdr)
    (b : ObjBody) (hs : At (Keeps P s₀) It s) : At (Keeps P s₀) Nxt (execObjWrite t h b s) := by
  unfold execObjWrite
  with_reducible repeat' (first
    | assumption | (intro x; refine At.cut x ?_ ?_; rotate_left; intro _; clear_value x; rotate_left; unfold x) | intro _ | lift_lets
    | apply State.hostMsg_keeps | apply At.ite | apply At.next | apply At.some | exact At.none | dsimp -zeta only [At.mkFst, At.mkSnd]
    | apply At.foldl | apply At.getD | apply At.fst | apply At.snd
    | ((conv => enter [3, 20]) <;> apply At.upd <;> first | exact .inl ‹_› | exact .inr rfl | skip)
    | ((conv => enter [3, 20]) <;> apply At.updCore) | split | exact At.ofMkFst ‹_› | exact At.ofMkSnd ‹_›
    | refine At.ofNext (by assumption) ?_ | refine At.ofFst (by assumption) ?_ | refine At.ofSnd (by assumption) ?_
    | refine At.ofOpt (by assumption) ?_ | refine At.ofOptSnd (by assumption) ?_ | refine At.ofOptFst (by assumption) ?_
    | refine At.ofOptSnd2 (by assumption) ?_ | apply At.mapAny | dsimp +zetaDelta only)

theorem execOpenSession_keeps {P : Part → Prop} {s₀ s : State} (frame_ : P .frame) (frameStart_ : P .frameStart) (dict_ : P .dict) (mgmt_ :
    P .mgmt) (fb_ : P .fb) (stn_ : P .stn) (ses_ : P .ses) (tier_ : P .tier) (shape_ : P .shape) (trv_ : P .trv) (core_ : P .core) (text_ :
    P .text) (srch_ : P .srch) (sync_ : P .sync) (ck_ : P .ck) (fab_ : P .fab) (pwr_ : P .pwr) (free_ : P .free) (t : Transfer) (h :
    MsgHdr) (b : OpenBody) (hs : At (Keeps P s₀) It s) : At (Keeps P s₀) Nxt (execOpenSession t h b s) := by
  unfold execOpenSession
  with_reducible repeat' (first
    | assumption | (intro x; refine At.cut x ?_ ?_; rotate_left; intro _; clear_value x; rotate_left; unfold x) | intro _ | lift_lets
    | apply State.hostMsg_keeps | apply At.ite | apply At.next | apply At.some | exact At.none | dsimp -zeta only [At.mkFst, At.mkSnd]
    | apply At.foldl | apply At.getD | apply At.fst | apply At.snd
    | ((conv => enter [3, 20]) <;> apply At.upd <;> first | exact .inl ‹_› | exact .inr rfl | skip)
    | ((conv => enter [3, 20]) <;> apply At.updCore) | split | exact At.ofMkFst ‹_› | exact At.ofMkSnd ‹_›
    | refine At.ofNext (by assumption) ?_ | refine At.ofFst (by assumption) ?_ | refine At.ofSnd (by assumption) ?_
    | refine At.ofOpt (by assumption) ?_ | refine At.ofOptSnd (by assumption) ?_ | refine At.ofOptFst (by assumption) ?_
    | refine At.ofOptSnd2 (by assumption) ?_ | apply At.mapAny | dsimp +zetaDelta only)

theorem execClose_keeps {P : Part → Prop} {s₀ s : State} (frame_ : P .frame) (frameStart_ : P .frameStart) (dict_ : P .dict) (mgmt_ : P
    .mgmt) (fb_ : P .fb) (stn_ : P .stn) (ses_ : P .ses) (tier_ : P .tier) (shape_ : P .shape) (trv_ : P .trv) (core_ : P .core) (text_ : P
    .text) (srch_ : P .srch) (sync_ : P .sync) (ck_ : P .ck) (fab_ : P .fab) (pwr_ : P .pwr) (free_ : P .free) (t : Transfer) (h : MsgHdr)
    (hs : At (Keeps P s₀) It s) : At (Keeps P s₀) Nxt (execClose t h s) := by
  unfold execClose
  with_reducible repeat' (first
    | assumption | (intro x; refine At.cut x ?_ ?_; rotate_left; intro _; clear_value x; rotate_left; unfold x) | intro _ | lift_lets
    | apply State.hostMsg_keeps | apply At.ite | apply At.next | apply At.some | exact At.none | dsimp -zeta only [At.mkFst, At.mkSnd]
    | apply At.foldl | apply At.getD | apply At.fst | apply At.snd
    | ((conv => enter [3, 20]) <;> apply At.upd <;> first | exact .inl ‹_› | exact .inr rfl | skip)
    | ((conv => enter [3, 20]) <;> apply At.updCore) | split | exact At.ofMkFst ‹_› | exact At.ofMkSnd ‹_›
    | refine At.ofNext (by assumption) ?_ | refine At.ofFst (by assumption) ?_ | refine At.ofSnd (by assumption) ?_
    | refine At.ofOpt (by assumption) ?_ | refine At.ofOptSnd (by assumption) ?_ | refine At.ofOptFst (by assumption) ?_
    | refine At.ofOptSnd2 (by assumption) ?_ | apply At.mapAny | dsimp +zetaDelta only)

theorem execAppend_keeps {P : Part → Prop} {s₀ s : State} (frame_ : P .frame) (frameStart_ : P .frameStart) (dict_ : P .dict) (mgmt_ : P
    .mgmt) (fb_ : P .fb) (stn_ : P .stn) (ses_ : P .ses) (tier_ : P .tier) (shape_ : P .shape) (trv_ : P .trv) (core_ : P .core) (text_ : P
    .text) (srch_ : P .srch) (sync_ : P .sync) (ck_ : P .ck) (fab_ : P .fab) (pwr_ : P .pwr) (free_ : P .free) (t : Transfer) (h : MsgHdr)
    (b : InputBody) (hs : At (Keeps P s₀) It s) : At (Keeps P s₀) Nxt (execAppend t h b s) := by
  unfold execAppend
  with_reducible repeat' (first
    | assumption | (intro x; refine At.cut x ?_ ?_; rotate_left; intro _; clear_value x; rotate_left; unfold x) | intro _ | lift_lets
    | apply State.hostMsg_keeps | apply At.ite | apply At.next | apply At.some | exact At.none | dsimp -zeta only [At.mkFst, At.mkSnd]
    | apply At.foldl | apply At.getD | apply At.fst | apply At.snd
    | ((conv => enter [3, 20]) <;> apply At.upd <;> first | exact .inl ‹_› | exact .inr rfl | skip)
    | ((conv => enter [3, 20]) <;> apply At.updCore) | split | exact At.ofMkFst ‹_› | exact At.ofMkSnd ‹_›
    | refine At.ofNext (by assumption) ?_ | refine At.ofFst (by assumption) ?_ | refine At.ofSnd (by assumption) ?_
    | refine At.ofOpt (by assumption) ?_ | refine At.ofOptSnd (by assumption) ?_ | refine At.ofOptFst (by assumption) ?_
    | refine At.ofOptSnd2 (by assumption) ?_ | apply At.mapAny | dsimp +zetaDelta only)

theorem execResume_keeps {P : Part → Prop} {s₀ s : State} (frame_ : P .frame) (frameStart_ : P .frameStart) (dict_ : P .dict) (mgmt_ : P
    .mgmt) (fb_ : P .fb) (stn_ : P .stn) (ses_ : P .ses) (tier_ : P .tier) (shape_ : P .shape) (trv_ : P .trv) (core_ : P .core) (text_ : P
    .text) (srch_ : P .srch) (sync_ : P .sync) (ck_ : P .ck) (fab_ : P .fab) (pwr_ : P .pwr) (free_ : P .free) (t : Transfer) (h : MsgHdr)
    (b : InputBody) (hs : At (Keeps P s₀) It s) : At (Keeps P s₀) Nxt (execResume t h b s) := by
  unfold execResume
  with_reducible repeat' (first
    | assumption | (intro x; refine At.cut x ?_ ?_; rotate_left; intro _; clear_value x; rotate_left; unfold x) | intro _ | lift_lets
    | apply State.hostMsg_keeps | apply At.ite | apply At.next | apply At.some | exact At.none | dsimp -zeta only [At.mkFst, At.mkSnd]
    | apply At.foldl | apply At.getD | apply At.fst | apply At.snd
    | ((conv => enter [3, 20]) <;> apply At.upd <;> first | exact .inl ‹_› | exact .inr rfl | skip)
    | ((conv => enter [3, 20]) <;> apply At.updCore) | split | exact At.ofMkFst ‹_› | exact At.ofMkSnd ‹_›
    | refine At.ofNext (by assumption) ?_ | refine At.ofFst (by assumption) ?_ | refine At.ofSnd (by assumption) ?_
    | refine At.ofOpt (by assumption) ?_ | refine At.ofOptSnd (by assumption) ?_ | refine At.ofOptFst (by assumption) ?_
    | refine At.ofOptSnd2 (by assumption) ?_ | apply At.mapAny | dsimp +zetaDelta only)

theorem execCancel_keeps {P : Part → Prop} {s₀ s : State} (frame_ : P .frame) (frameStart_ : P .frameStart) (dict_ : P .dict) (mgmt_ : P
    .mgmt) (fb_ : P .fb) (stn_ : P .stn) (ses_ : P .ses) (tier_ : P .tier) (shape_ : P .shape) (trv_ : P .trv) (core_ : P .core) (text_ : P
    .text) (srch_ : P .srch) (sync_ : P .sync) (ck_ : P .ck) (fab_ : P .fab) (pwr_ : P .pwr) (free_ : P .free) (t : Transfer) (h : MsgHdr)
    (hs : At (Keeps P s₀) It s) : At (Keeps P s₀) Nxt (execCancel t h s) := by
  unfold execCancel
  with_reducible repeat' (first
    | assumption | (intro x; refine At.cut x ?_ ?_; rotate_left; intro _; clear_value x; rotate_left; unfold x) | intro _ | lift_lets
    | apply State.hostMsg_keeps | apply At.ite | apply At.next | apply At.some | exact At.none | dsimp -zeta only [At.mkFst, At.mkSnd]
    | apply At.foldl | apply At.getD | apply At.fst | apply At.snd
    | ((conv => enter [3, 20]) <;> apply At.upd <;> first | exact .inl ‹_› | exact .inr rfl | skip)
    | ((conv => enter [3, 20]) <;> apply At.updCore) | split | exact At.ofMkFst ‹_› | exact At.ofMkSnd ‹_›
    | refine At.ofNext (by assumption) ?_ | refine At.ofFst (by assumption) ?_ | refine At.ofSnd (by assumption) ?_
    | refine At.ofOpt (by assumption) ?_ | refine At.ofOptSnd (by assumption) ?_ | refine At.ofOptFst (by assumption) ?_
    | refine At.ofOptSnd2 (by assumption) ?_ | apply At.mapAny | dsimp +zetaDelta only)

theorem execPark_keeps {P : Part → Prop} {s₀ s : State} (frame_ : P .frame) (frameStart_ : P .frameStart) (dict_ : P .dict) (mgmt_ : P
    .mgmt) (fb_ : P .fb) (stn_ : P .stn) (ses_ : P .ses) (tier_ : P .tier) (shape_ : P .shape) (trv_ : P .trv) (core_ : P .core) (text_ : P
    .text) (srch_ : P .srch) (sync_ : P .sync) (ck_ : P .ck) (fab_ : P .fab) (pwr_ : P .pwr) (free_ : P .free) (t : Transfer) (h : MsgHdr)
    (hs : At (Keeps P s₀) It s) : At (Keeps P s₀) Nxt (execPark t h s) := by
  unfold execPark
  with_reducible repeat' (first
    | assumption | (intro x; refine At.cut x ?_ ?_; rotate_left; intro _; clear_value x; rotate_left; unfold x) | intro _ | lift_lets
    | apply State.hostMsg_keeps | apply At.ite | apply At.next | apply At.some | exact At.none | dsimp -zeta only [At.mkFst, At.mkSnd]
    | apply At.foldl | apply At.getD | apply At.fst | apply At.snd
    | ((conv => enter [3, 20]) <;> apply At.upd <;> first | exact .inl ‹_› | exact .inr rfl | skip)
    | ((conv => enter [3, 20]) <;> apply At.updCore) | split | exact At.ofMkFst ‹_› | exact At.ofMkSnd ‹_›
    | refine At.ofNext (by assumption) ?_ | refine At.ofFst (by assumption) ?_ | refine At.ofSnd (by assumption) ?_
    | refine At.ofOpt (by assumption) ?_ | refine At.ofOptSnd (by assumption) ?_ | refine At.ofOptFst (by assumption) ?_
    | refine At.ofOptSnd2 (by assumption) ?_ | apply At.mapAny | dsimp +zetaDelta only)

theorem execRevive_keeps {P : Part → Prop} {s₀ s : State} (frame_ : P .frame) (frameStart_ : P .frameStart) (dict_ : P .dict) (mgmt_ : P
    .mgmt) (fb_ : P .fb) (stn_ : P .stn) (ses_ : P .ses) (tier_ : P .tier) (shape_ : P .shape) (trv_ : P .trv) (core_ : P .core) (text_ : P
    .text) (srch_ : P .srch) (sync_ : P .sync) (ck_ : P .ck) (fab_ : P .fab) (pwr_ : P .pwr) (free_ : P .free) (t : Transfer) (h : MsgHdr)
    (hs : At (Keeps P s₀) It s) : At (Keeps P s₀) Nxt (execRevive t h s) := by
  unfold execRevive
  with_reducible repeat' (first
    | assumption | (intro x; refine At.cut x ?_ ?_; rotate_left; intro _; clear_value x; rotate_left; unfold x) | intro _ | lift_lets
    | apply State.hostMsg_keeps | apply At.ite | apply At.next | apply At.some | exact At.none | dsimp -zeta only [At.mkFst, At.mkSnd]
    | apply At.foldl | apply At.getD | apply At.fst | apply At.snd
    | ((conv => enter [3, 20]) <;> apply At.upd <;> first | exact .inl ‹_› | exact .inr rfl | skip)
    | ((conv => enter [3, 20]) <;> apply At.updCore) | split | exact At.ofMkFst ‹_› | exact At.ofMkSnd ‹_›
    | refine At.ofNext (by assumption) ?_ | refine At.ofFst (by assumption) ?_ | refine At.ofSnd (by assumption) ?_
    | refine At.ofOpt (by assumption) ?_ | refine At.ofOptSnd (by assumption) ?_ | refine At.ofOptFst (by assumption) ?_
    | refine At.ofOptSnd2 (by assumption) ?_ | apply At.mapAny | dsimp +zetaDelta only)

theorem execPrefixRegister_keeps {P : Part → Prop} {s₀ s : State} (frame_ : P .frame) (frameStart_ : P .frameStart) (dict_ : P .dict)
    (mgmt_ : P .mgmt) (fb_ : P .fb) (stn_ : P .stn) (ses_ : P .ses) (tier_ : P .tier) (shape_ : P .shape) (trv_ : P .trv) (core_ : P .core)
    (text_ : P .text) (srch_ : P .srch) (sync_ : P .sync) (ck_ : P .ck) (fab_ : P .fab) (pwr_ : P .pwr) (free_ : P .free) (t : Transfer) (h
    : MsgHdr) (b : InputBody) (hs : At (Keeps P s₀) It s) : At (Keeps P s₀) Nxt (execPrefixRegister t h b s) := by
  unfold execPrefixRegister
  with_reducible repeat' (first
    | assumption | (intro x; refine At.cut x ?_ ?_; rotate_left; intro _; clear_value x; rotate_left; unfold x) | intro _ | lift_lets
    | apply State.hostMsg_keeps | apply At.ite | apply At.next | apply At.some | exact At.none | dsimp -zeta only [At.mkFst, At.mkSnd]
    | apply At.foldl | apply At.getD | apply At.fst | apply At.snd
    | ((conv => enter [3, 20]) <;> apply At.upd <;> first | exact .inl ‹_› | exact .inr rfl | skip)
    | ((conv => enter [3, 20]) <;> apply At.updCore) | split | exact At.ofMkFst ‹_› | exact At.ofMkSnd ‹_›
    | refine At.ofNext (by assumption) ?_ | refine At.ofFst (by assumption) ?_ | refine At.ofSnd (by assumption) ?_
    | refine At.ofOpt (by assumption) ?_ | refine At.ofOptSnd (by assumption) ?_ | refine At.ofOptFst (by assumption) ?_
    | refine At.ofOptSnd2 (by assumption) ?_ | apply At.mapAny | dsimp +zetaDelta only)

theorem execPrefixRelease_keeps {P : Part → Prop} {s₀ s : State} (frame_ : P .frame) (frameStart_ : P .frameStart) (dict_ : P .dict) (mgmt_
    : P .mgmt) (fb_ : P .fb) (stn_ : P .stn) (ses_ : P .ses) (tier_ : P .tier) (shape_ : P .shape) (trv_ : P .trv) (core_ : P .core) (text_
    : P .text) (srch_ : P .srch) (sync_ : P .sync) (ck_ : P .ck) (fab_ : P .fab) (pwr_ : P .pwr) (free_ : P .free) (t : Transfer) (h :
    MsgHdr) (hs : At (Keeps P s₀) It s) : At (Keeps P s₀) Nxt (execPrefixRelease t h s) := by
  unfold execPrefixRelease
  with_reducible repeat' (first
    | assumption | (intro x; refine At.cut x ?_ ?_; rotate_left; intro _; clear_value x; rotate_left; unfold x) | intro _ | lift_lets
    | apply State.hostMsg_keeps | apply At.ite | apply At.next | apply At.some | exact At.none | dsimp -zeta only [At.mkFst, At.mkSnd]
    | apply At.foldl | apply At.getD | apply At.fst | apply At.snd
    | ((conv => enter [3, 20]) <;> apply At.upd <;> first | exact .inl ‹_› | exact .inr rfl | skip)
    | ((conv => enter [3, 20]) <;> apply At.updCore) | split | exact At.ofMkFst ‹_› | exact At.ofMkSnd ‹_›
    | refine At.ofNext (by assumption) ?_ | refine At.ofFst (by assumption) ?_ | refine At.ofSnd (by assumption) ?_
    | refine At.ofOpt (by assumption) ?_ | refine At.ofOptSnd (by assumption) ?_ | refine At.ofOptFst (by assumption) ?_
    | refine At.ofOptSnd2 (by assumption) ?_ | apply At.mapAny | dsimp +zetaDelta only)

theorem execCheckpoint_keeps {P : Part → Prop} {s₀ s : State} (frame_ : P .frame) (frameStart_ : P .frameStart) (dict_ : P .dict) (mgmt_ :
    P .mgmt) (fb_ : P .fb) (stn_ : P .stn) (ses_ : P .ses) (tier_ : P .tier) (shape_ : P .shape) (trv_ : P .trv) (core_ : P .core) (text_ :
    P .text) (srch_ : P .srch) (sync_ : P .sync) (ck_ : P .ck) (fab_ : P .fab) (pwr_ : P .pwr) (free_ : P .free) (t : Transfer) (h :
    MsgHdr) (b : CheckpointBody) (hs : At (Keeps P s₀) It s) : At (Keeps P s₀) Nxt (execCheckpoint t h b s) := by
  unfold execCheckpoint
  with_reducible repeat' (first
    | assumption | (intro x; refine At.cut x ?_ ?_; rotate_left; intro _; clear_value x; rotate_left; unfold x) | intro _ | lift_lets
    | apply State.hostMsg_keeps | apply At.ite | apply At.next | apply At.some | exact At.none | dsimp -zeta only [At.mkFst, At.mkSnd]
    | apply At.foldl | apply At.getD | apply At.fst | apply At.snd
    | ((conv => enter [3, 20]) <;> apply At.upd <;> first | exact .inl ‹_› | exact .inr rfl | skip)
    | ((conv => enter [3, 20]) <;> apply At.updCore) | split | exact At.ofMkFst ‹_› | exact At.ofMkSnd ‹_›
    | refine At.ofNext (by assumption) ?_ | refine At.ofFst (by assumption) ?_ | refine At.ofSnd (by assumption) ?_
    | refine At.ofOpt (by assumption) ?_ | refine At.ofOptSnd (by assumption) ?_ | refine At.ofOptFst (by assumption) ?_
    | refine At.ofOptSnd2 (by assumption) ?_ | apply At.mapAny | dsimp +zetaDelta only)

theorem execQuery_keeps {P : Part → Prop} {s₀ s : State} (frame_ : P .frame) (frameStart_ : P .frameStart) (dict_ : P .dict) (mgmt_ : P
    .mgmt) (fb_ : P .fb) (stn_ : P .stn) (ses_ : P .ses) (tier_ : P .tier) (shape_ : P .shape) (trv_ : P .trv) (core_ : P .core) (text_ : P
    .text) (srch_ : P .srch) (sync_ : P .sync) (ck_ : P .ck) (fab_ : P .fab) (pwr_ : P .pwr) (free_ : P .free) (t : Transfer) (h : MsgHdr)
    (b : SearchBody) (hs : At (Keeps P s₀) It s) : At (Keeps P s₀) Nxt (execQuery t h b s) := by
  unfold execQuery
  with_reducible repeat' (first
    | assumption | (intro x; refine At.cut x ?_ ?_; rotate_left; intro _; clear_value x; rotate_left; unfold x) | intro _ | lift_lets
    | apply State.hostMsg_keeps | apply At.ite | apply At.next | apply At.some | exact At.none | dsimp -zeta only [At.mkFst, At.mkSnd]
    | apply At.foldl | apply At.getD | apply At.fst | apply At.snd
    | ((conv => enter [3, 20]) <;> apply At.upd <;> first | exact .inl ‹_› | exact .inr rfl | skip)
    | ((conv => enter [3, 20]) <;> apply At.updCore) | split | exact At.ofMkFst ‹_› | exact At.ofMkSnd ‹_›
    | refine At.ofNext (by assumption) ?_ | refine At.ofFst (by assumption) ?_ | refine At.ofSnd (by assumption) ?_
    | refine At.ofOpt (by assumption) ?_ | refine At.ofOptSnd (by assumption) ?_ | refine At.ofOptFst (by assumption) ?_
    | refine At.ofOptSnd2 (by assumption) ?_ | apply At.mapAny | dsimp +zetaDelta only)

theorem execInsert_keeps {P : Part → Prop} {s₀ s : State} (frame_ : P .frame) (frameStart_ : P .frameStart) (dict_ : P .dict) (mgmt_ : P
    .mgmt) (fb_ : P .fb) (stn_ : P .stn) (ses_ : P .ses) (tier_ : P .tier) (shape_ : P .shape) (trv_ : P .trv) (core_ : P .core) (text_ : P
    .text) (srch_ : P .srch) (sync_ : P .sync) (ck_ : P .ck) (fab_ : P .fab) (pwr_ : P .pwr) (free_ : P .free) (t : Transfer) (h : MsgHdr)
    (b : SearchBody) (hs : At (Keeps P s₀) It s) : At (Keeps P s₀) Nxt (execInsert t h b s) := by
  unfold execInsert
  with_reducible repeat' (first
    | assumption | (intro x; refine At.cut x ?_ ?_; rotate_left; intro _; clear_value x; rotate_left; unfold x) | intro _ | lift_lets
    | apply State.hostMsg_keeps | apply At.ite | apply At.next | apply At.some | exact At.none | dsimp -zeta only [At.mkFst, At.mkSnd]
    | apply At.foldl | apply At.getD | apply At.fst | apply At.snd
    | ((conv => enter [3, 20]) <;> apply At.upd <;> first | exact .inl ‹_› | exact .inr rfl | skip)
    | ((conv => enter [3, 20]) <;> apply At.updCore) | split | exact At.ofMkFst ‹_› | exact At.ofMkSnd ‹_›
    | refine At.ofNext (by assumption) ?_ | refine At.ofFst (by assumption) ?_ | refine At.ofSnd (by assumption) ?_
    | refine At.ofOpt (by assumption) ?_ | refine At.ofOptSnd (by assumption) ?_ | refine At.ofOptFst (by assumption) ?_
    | refine At.ofOptSnd2 (by assumption) ?_ | apply At.mapAny | dsimp +zetaDelta only)

theorem execDelete_keeps {P : Part → Prop} {s₀ s : State} (frame_ : P .frame) (frameStart_ : P .frameStart) (dict_ : P .dict) (mgmt_ : P
    .mgmt) (fb_ : P .fb) (stn_ : P .stn) (ses_ : P .ses) (tier_ : P .tier) (shape_ : P .shape) (trv_ : P .trv) (core_ : P .core) (text_ : P
    .text) (srch_ : P .srch) (sync_ : P .sync) (ck_ : P .ck) (fab_ : P .fab) (pwr_ : P .pwr) (free_ : P .free) (t : Transfer) (h : MsgHdr)
    (b : SearchBody) (hs : At (Keeps P s₀) It s) : At (Keeps P s₀) Nxt (execDelete t h b s) := by
  unfold execDelete
  with_reducible repeat' (first
    | assumption | (intro x; refine At.cut x ?_ ?_; rotate_left; intro _; clear_value x; rotate_left; unfold x) | intro _ | lift_lets
    | apply State.hostMsg_keeps | apply At.ite | apply At.next | apply At.some | exact At.none | dsimp -zeta only [At.mkFst, At.mkSnd]
    | apply At.foldl | apply At.getD | apply At.fst | apply At.snd
    | ((conv => enter [3, 20]) <;> apply At.upd <;> first | exact .inl ‹_› | exact .inr rfl | skip)
    | ((conv => enter [3, 20]) <;> apply At.updCore) | split | exact At.ofMkFst ‹_› | exact At.ofMkSnd ‹_›
    | refine At.ofNext (by assumption) ?_ | refine At.ofFst (by assumption) ?_ | refine At.ofSnd (by assumption) ?_
    | refine At.ofOpt (by assumption) ?_ | refine At.ofOptSnd (by assumption) ?_ | refine At.ofOptFst (by assumption) ?_
    | refine At.ofOptSnd2 (by assumption) ?_ | apply At.mapAny | dsimp +zetaDelta only)

/-! ### Machine/LoadStore.lean -/

theorem execLd_keeps {P : Part → Prop} {s₀ s : State} (dict_ : P .dict) (mgmt_ : P .mgmt) (fb_ : P .fb) (stn_ : P .stn) (trv_ : P .trv)
    (core_ : P .core) (text_ : P .text) (sync_ : P .sync) (pwr_ : P .pwr) (a : Issue) (vd : Nat) (base : Nat) (off : BitVec 32) (hs : At
    (Keeps P s₀) It s) : At (Keeps P s₀) Nxt (execLd a vd base off s) := by
  unfold execLd
  with_reducible repeat' (first
    | assumption | (intro x; refine At.cut x ?_ ?_; rotate_left; intro _; clear_value x; rotate_left; unfold x) | intro _ | lift_lets
    | apply State.issue_keeps | exact wf_nil | apply Core.settle_store | apply Core.write_store | apply wf_foldl_bputs
    | apply Core.result_store | apply Core.flags_store | apply Core.moved_store | apply Core.lanewise_store | exact coreInit_store
    | apply id_store | apply State.coreAt_store | apply State.clusterStore_wf | apply wf_bputs | apply wf_filter | apply wf_storeTile
    | apply State.issued_store | apply State.cameTo_stores | apply At.ite | apply At.next | apply At.some | exact At.none
    | dsimp -zeta only [At.mkFst, At.mkSnd] | apply At.foldl | apply At.getD | apply At.fst | apply At.snd
    | ((conv => enter [3, 20]) <;> apply At.upd <;> first | exact .inl ‹_› | exact .inr rfl | skip)
    | ((conv => enter [3, 20]) <;> apply At.updCore) | split | exact At.ofMkFst ‹_› | exact At.ofMkSnd ‹_›
    | refine At.ofNext (by assumption) ?_ | refine At.ofFst (by assumption) ?_ | refine At.ofSnd (by assumption) ?_
    | refine At.ofOpt (by assumption) ?_ | refine At.ofOptSnd (by assumption) ?_ | refine At.ofOptFst (by assumption) ?_
    | refine At.ofOptSnd2 (by assumption) ?_ | apply At.mapAny | dsimp +zetaDelta only)

theorem execSt_keeps {P : Part → Prop} {s₀ s : State} (dict_ : P .dict) (mgmt_ : P .mgmt) (fb_ : P .fb) (stn_ : P .stn) (trv_ : P .trv)
    (core_ : P .core) (text_ : P .text) (sync_ : P .sync) (pwr_ : P .pwr) (a : Issue) (vs : Nat) (base : Nat) (off : BitVec 32) (hs : At
    (Keeps P s₀) It s) : At (Keeps P s₀) Nxt (execSt a vs base off s) := by
  unfold execSt
  with_reducible repeat' (first
    | assumption | (intro x; refine At.cut x ?_ ?_; rotate_left; intro _; clear_value x; rotate_left; unfold x) | intro _ | lift_lets
    | apply State.issue_keeps | exact wf_nil | apply Core.settle_store | apply Core.write_store | apply wf_foldl_bputs
    | apply Core.result_store | apply Core.flags_store | apply Core.moved_store | apply Core.lanewise_store | exact coreInit_store
    | apply id_store | apply State.coreAt_store | apply State.clusterStore_wf | apply wf_bputs | apply wf_filter | apply wf_storeTile
    | apply State.issued_store | apply State.cameTo_stores | apply At.ite | apply At.next | apply At.some | exact At.none
    | dsimp -zeta only [At.mkFst, At.mkSnd] | apply At.foldl | apply At.getD | apply At.fst | apply At.snd
    | ((conv => enter [3, 20]) <;> apply At.upd <;> first | exact .inl ‹_› | exact .inr rfl | skip)
    | ((conv => enter [3, 20]) <;> apply At.updCore) | split | exact At.ofMkFst ‹_› | exact At.ofMkSnd ‹_›
    | refine At.ofNext (by assumption) ?_ | refine At.ofFst (by assumption) ?_ | refine At.ofSnd (by assumption) ?_
    | refine At.ofOpt (by assumption) ?_ | refine At.ofOptSnd (by assumption) ?_ | refine At.ofOptFst (by assumption) ?_
    | refine At.ofOptSnd2 (by assumption) ?_ | apply At.mapAny | dsimp +zetaDelta only)

theorem execLds_keeps {P : Part → Prop} {s₀ s : State} (dict_ : P .dict) (mgmt_ : P .mgmt) (fb_ : P .fb) (stn_ : P .stn) (trv_ : P .trv)
    (core_ : P .core) (text_ : P .text) (sync_ : P .sync) (pwr_ : P .pwr) (a : Issue) (sd : Nat) (base : Nat) (off : BitVec 32) (hs : At
    (Keeps P s₀) It s) : At (Keeps P s₀) Nxt (execLds a sd base off s) := by
  unfold execLds
  with_reducible repeat' (first
    | assumption | (intro x; refine At.cut x ?_ ?_; rotate_left; intro _; clear_value x; rotate_left; unfold x) | intro _ | lift_lets
    | apply State.issue_keeps | exact wf_nil | apply Core.settle_store | apply Core.write_store | apply wf_foldl_bputs
    | apply Core.result_store | apply Core.flags_store | apply Core.moved_store | apply Core.lanewise_store | exact coreInit_store
    | apply id_store | apply State.coreAt_store | apply State.clusterStore_wf | apply wf_bputs | apply wf_filter | apply wf_storeTile
    | apply State.issued_store | apply State.cameTo_stores | apply At.ite | apply At.next | apply At.some | exact At.none
    | dsimp -zeta only [At.mkFst, At.mkSnd] | apply At.foldl | apply At.getD | apply At.fst | apply At.snd
    | ((conv => enter [3, 20]) <;> apply At.upd <;> first | exact .inl ‹_› | exact .inr rfl | skip)
    | ((conv => enter [3, 20]) <;> apply At.updCore) | split | exact At.ofMkFst ‹_› | exact At.ofMkSnd ‹_›
    | refine At.ofNext (by assumption) ?_ | refine At.ofFst (by assumption) ?_ | refine At.ofSnd (by assumption) ?_
    | refine At.ofOpt (by assumption) ?_ | refine At.ofOptSnd (by assumption) ?_ | refine At.ofOptFst (by assumption) ?_
    | refine At.ofOptSnd2 (by assumption) ?_ | apply At.mapAny | dsimp +zetaDelta only)

theorem execSts_keeps {P : Part → Prop} {s₀ s : State} (dict_ : P .dict) (mgmt_ : P .mgmt) (fb_ : P .fb) (stn_ : P .stn) (trv_ : P .trv)
    (core_ : P .core) (text_ : P .text) (sync_ : P .sync) (pwr_ : P .pwr) (a : Issue) (ss : Nat) (base : Nat) (off : BitVec 32) (hs : At
    (Keeps P s₀) It s) : At (Keeps P s₀) Nxt (execSts a ss base off s) := by
  unfold execSts
  with_reducible repeat' (first
    | assumption | (intro x; refine At.cut x ?_ ?_; rotate_left; intro _; clear_value x; rotate_left; unfold x) | intro _ | lift_lets
    | apply State.issue_keeps | exact wf_nil | apply Core.settle_store | apply Core.write_store | apply wf_foldl_bputs
    | apply Core.result_store | apply Core.flags_store | apply Core.moved_store | apply Core.lanewise_store | exact coreInit_store
    | apply id_store | apply State.coreAt_store | apply State.clusterStore_wf | apply wf_bputs | apply wf_filter | apply wf_storeTile
    | apply State.issued_store | apply State.cameTo_stores | apply At.ite | apply At.next | apply At.some | exact At.none
    | dsimp -zeta only [At.mkFst, At.mkSnd] | apply At.foldl | apply At.getD | apply At.fst | apply At.snd
    | ((conv => enter [3, 20]) <;> apply At.upd <;> first | exact .inl ‹_› | exact .inr rfl | skip)
    | ((conv => enter [3, 20]) <;> apply At.updCore) | split | exact At.ofMkFst ‹_› | exact At.ofMkSnd ‹_›
    | refine At.ofNext (by assumption) ?_ | refine At.ofFst (by assumption) ?_ | refine At.ofSnd (by assumption) ?_
    | refine At.ofOpt (by assumption) ?_ | refine At.ofOptSnd (by assumption) ?_ | refine At.ofOptFst (by assumption) ?_
    | refine At.ofOptSnd2 (by assumption) ?_ | apply At.mapAny | dsimp +zetaDelta only)

theorem execCld_keeps {P : Part → Prop} {s₀ s : State} (dict_ : P .dict) (mgmt_ : P .mgmt) (fb_ : P .fb) (stn_ : P .stn) (trv_ : P .trv)
    (core_ : P .core) (text_ : P .text) (sync_ : P .sync) (pwr_ : P .pwr) (a : Issue) (sdst : Nat) (base : Nat) (off : BitVec 32) (hs : At
    (Keeps P s₀) It s) : At (Keeps P s₀) Nxt (execCld a sdst base off s) := by
  unfold execCld
  with_reducible repeat' (first
    | assumption | (intro x; refine At.cut x ?_ ?_; rotate_left; intro _; clear_value x; rotate_left; unfold x) | intro _ | lift_lets
    | apply State.clusterAsk_keeps | apply State.issue_keeps | exact wf_nil | apply Core.settle_store | apply Core.write_store
    | apply wf_foldl_bputs | apply Core.result_store | apply Core.flags_store | apply Core.moved_store | apply Core.lanewise_store
    | exact coreInit_store | apply id_store | apply State.coreAt_store | apply State.clusterStore_wf | apply wf_bputs | apply wf_filter
    | apply wf_storeTile | apply State.issued_store | apply State.cameTo_stores | apply At.ite | apply At.next | apply At.some
    | exact At.none | dsimp -zeta only [At.mkFst, At.mkSnd] | apply At.foldl | apply At.getD | apply At.fst | apply At.snd
    | ((conv => enter [3, 20]) <;> apply At.upd <;> first | exact .inl ‹_› | exact .inr rfl | skip)
    | ((conv => enter [3, 20]) <;> apply At.updCore) | split | exact At.ofMkFst ‹_› | exact At.ofMkSnd ‹_›
    | refine At.ofNext (by assumption) ?_ | refine At.ofFst (by assumption) ?_ | refine At.ofSnd (by assumption) ?_
    | refine At.ofOpt (by assumption) ?_ | refine At.ofOptSnd (by assumption) ?_ | refine At.ofOptFst (by assumption) ?_
    | refine At.ofOptSnd2 (by assumption) ?_ | apply At.mapAny | dsimp +zetaDelta only)

theorem execCst_keeps {P : Part → Prop} {s₀ s : State} (dict_ : P .dict) (mgmt_ : P .mgmt) (fb_ : P .fb) (stn_ : P .stn) (trv_ : P .trv)
    (core_ : P .core) (text_ : P .text) (sync_ : P .sync) (pwr_ : P .pwr) (a : Issue) (ssrc : Nat) (base : Nat) (off : BitVec 32) (hs : At
    (Keeps P s₀) It s) : At (Keeps P s₀) Nxt (execCst a ssrc base off s) := by
  unfold execCst
  with_reducible repeat' (first
    | assumption | (intro x; refine At.cut x ?_ ?_; rotate_left; intro _; clear_value x; rotate_left; unfold x) | intro _ | lift_lets
    | apply State.clusterSend_keeps | apply State.issue_keeps | exact wf_nil | apply Core.settle_store | apply Core.write_store
    | apply wf_foldl_bputs | apply Core.result_store | apply Core.flags_store | apply Core.moved_store | apply Core.lanewise_store
    | exact coreInit_store | apply id_store | apply State.coreAt_store | apply State.clusterStore_wf | apply wf_bputs | apply wf_filter
    | apply wf_storeTile | apply State.issued_store | apply State.cameTo_stores | apply At.ite | apply At.next | apply At.some
    | exact At.none | dsimp -zeta only [At.mkFst, At.mkSnd] | apply At.foldl | apply At.getD | apply At.fst | apply At.snd
    | ((conv => enter [3, 20]) <;> apply At.upd <;> first | exact .inl ‹_› | exact .inr rfl | skip)
    | ((conv => enter [3, 20]) <;> apply At.updCore) | split | exact At.ofMkFst ‹_› | exact At.ofMkSnd ‹_›
    | refine At.ofNext (by assumption) ?_ | refine At.ofFst (by assumption) ?_ | refine At.ofSnd (by assumption) ?_
    | refine At.ofOpt (by assumption) ?_ | refine At.ofOptSnd (by assumption) ?_ | refine At.ofOptFst (by assumption) ?_
    | refine At.ofOptSnd2 (by assumption) ?_ | apply At.mapAny | dsimp +zetaDelta only)

theorem execPut_keeps {P : Part → Prop} {s₀ s : State} (dict_ : P .dict) (mgmt_ : P .mgmt) (fb_ : P .fb) (stn_ : P .stn) (trv_ : P .trv)
    (core_ : P .core) (text_ : P .text) (sync_ : P .sync) (pwr_ : P .pwr) (a : Issue) (sdst : Nat) (base : Nat) (off : BitVec 32) (hs : At
    (Keeps P s₀) It s) : At (Keeps P s₀) Nxt (execPut a sdst base off s) := by
  unfold execPut
  with_reducible repeat' (first
    | assumption | (intro x; refine At.cut x ?_ ?_; rotate_left; intro _; clear_value x; rotate_left; unfold x) | intro _ | lift_lets
    | apply State.clusterSend_keeps | apply State.issue_keeps | exact wf_nil | apply Core.settle_store | apply Core.write_store
    | apply wf_foldl_bputs | apply Core.result_store | apply Core.flags_store | apply Core.moved_store | apply Core.lanewise_store
    | exact coreInit_store | apply id_store | apply State.coreAt_store | apply State.clusterStore_wf | apply wf_bputs | apply wf_filter
    | apply wf_storeTile | apply State.issued_store | apply State.cameTo_stores | apply At.ite | apply At.next | apply At.some
    | exact At.none | dsimp -zeta only [At.mkFst, At.mkSnd] | apply At.foldl | apply At.getD | apply At.fst | apply At.snd
    | ((conv => enter [3, 20]) <;> apply At.upd <;> first | exact .inl ‹_› | exact .inr rfl | skip)
    | ((conv => enter [3, 20]) <;> apply At.updCore) | split | exact At.ofMkFst ‹_› | exact At.ofMkSnd ‹_›
    | refine At.ofNext (by assumption) ?_ | refine At.ofFst (by assumption) ?_ | refine At.ofSnd (by assumption) ?_
    | refine At.ofOpt (by assumption) ?_ | refine At.ofOptSnd (by assumption) ?_ | refine At.ofOptFst (by assumption) ?_
    | refine At.ofOptSnd2 (by assumption) ?_ | apply At.mapAny | dsimp +zetaDelta only)

theorem execTwalk_keeps {P : Part → Prop} {s₀ s : State} (dict_ : P .dict) (mgmt_ : P .mgmt) (fb_ : P .fb) (stn_ : P .stn) (trv_ : P .trv)
    (core_ : P .core) (text_ : P .text) (sync_ : P .sync) (pwr_ : P .pwr) (a : Issue) (sd : Nat) (snode : Nat) (sbyte : Nat) (hs : At
    (Keeps P s₀) It s) : At (Keeps P s₀) Nxt (execTwalk a sd snode sbyte s) := by
  unfold execTwalk
  with_reducible repeat' (first
    | assumption | (intro x; refine At.cut x ?_ ?_; rotate_left; intro _; clear_value x; rotate_left; unfold x) | intro _ | lift_lets
    | apply State.clusterAsk_keeps | apply State.issue_keeps | exact wf_nil | apply Core.settle_store | apply Core.write_store
    | apply wf_foldl_bputs | apply Core.result_store | apply Core.flags_store | apply Core.moved_store | apply Core.lanewise_store
    | exact coreInit_store | apply id_store | apply State.coreAt_store | apply State.clusterStore_wf | apply wf_bputs | apply wf_filter
    | apply wf_storeTile | apply State.issued_store | apply State.cameTo_stores | apply At.ite | apply At.next | apply At.some
    | exact At.none | dsimp -zeta only [At.mkFst, At.mkSnd] | apply At.foldl | apply At.getD | apply At.fst | apply At.snd
    | ((conv => enter [3, 20]) <;> apply At.upd <;> first | exact .inl ‹_› | exact .inr rfl | skip)
    | ((conv => enter [3, 20]) <;> apply At.updCore) | split | exact At.ofMkFst ‹_› | exact At.ofMkSnd ‹_›
    | refine At.ofNext (by assumption) ?_ | refine At.ofFst (by assumption) ?_ | refine At.ofSnd (by assumption) ?_
    | refine At.ofOpt (by assumption) ?_ | refine At.ofOptSnd (by assumption) ?_ | refine At.ofOptFst (by assumption) ?_
    | refine At.ofOptSnd2 (by assumption) ?_ | apply At.mapAny | dsimp +zetaDelta only)

end Sys2Proof.Machine
end

