-- ==== Sys2Proof/Laws/Reads.lean ====
section
/-! SUPPORT. Reads and writes of the object dictionary that pass their checks, requests of the field network
that are served, and messages of the fabric that reach this device. -/

namespace Sys2Proof.Machine

theorem serveRead_ok {s : State} {w : Writer} {index sub : Nat} {o : ObjSpec} {i j : Nat} (h : s.mayRead w index sub o i j) :
    s.serveRead w index sub = (s.popRow o i).replyValue w St.OK
      (if index / 256 == 0xC0 then aliasValue index (s.readRow o i j) else s.readRow o i j) := by
  obtain ⟨h1, h2, h3, h4, h5⟩ := h
  have h3' : (o.access == .wo) = false := by simpa using h3
  unfold State.serveRead State.readObject
  cases w with
  | station st q =>
    have h5' : (!s.privileged st && !ownReadable st index) = false := by
      rcases h5 with h5 | h5 <;> simp [h5]
    simp [h1, h2, h3', h4, h5']
  | _ => simp [h1, h2, h3', h4]

theorem writeObject_ok {s : State} {w : Writer} {index sub : Nat} {o : ObjSpec} {i j : Nat} {v : Octets} (h : s.mayWrite w index sub o i j v) :
    s.writeObject w index sub v = s.wrote w index sub o i j v := by
  obtain ⟨h1, h2, h3, h4, h5, h6, h7⟩ := h
  simp [State.writeObject, h2, h3, h4, State.writeAt, h1, h5, State.plainWrite, h6, h7, State.wrote]

theorem writeAt_ok {s : State} {w : Writer} {index sub : Nat} {o : ObjSpec} {i j : Nat} {v : Octets} (h : s.mayWrite w index sub o i j v) :
    s.writeAt w index sub v = s.wrote w index sub o i j v := by
  obtain ⟨h1, h2, h3, h4, h5, h6, h7⟩ := h
  simp [h2, h3, State.writeAt, h1, h5, State.plainWrite, h6, h7, State.wrote]

theorem datagram_ok {s : State} {l : Bool} {n : Nat} (h : s.served l n) (go : State → State) : s.datagram l n go = go (s.arrivalWakes 2) := by
  obtain ⟨h1, h2, h3⟩ := h
  simp [State.datagram, h1, h2, h3]

theorem request_ok {s : State} {f : OpdunHdr} {x : Assoc} (h : s.servedOf f x) (go : State → Assoc → State) :
    s.request f go = go (s.asked f x) { x with lastTick := (s.arrivalWakes 2).tick, port := f.port } := by
  obtain ⟨h1, h2, h3, h4, h5⟩ := h
  have h5' : (s.asked f x).opdunWaits f.assoc f.req = false := h5
  have h3' : (x.client != f.client) = false := by simp [h3]
  simp only [State.request, datagram_ok h1, h2, h3', h4, Bool.false_eq_true, if_false]
  exact if_neg (by simpa [State.asked] using h5')

theorem mailbox_ok {s : State} {m : MailBlock} (h : s.servedMail m) (cmd : Nat) (go : State → State) :
    s.mailbox m cmd go = go (s.arrivalWakes 2) := by
  obtain ⟨h1, h2, h3, h4, h6⟩ := h
  have h5 : ¬ 256 < m.len := by omega
  simp only [State.mailbox, datagram_ok h1]
  cases hr : (s.arrivalWakes 2).mgmt.mailLast with
  | none => simp [h2, h5, h6]
  | some r => simp [h2, h5, h6, h3 r hr]

theorem routed_ok {s : State} {h : FabHdr} (hr : s.reached h) (body : FabBody) (r f : Bool) (go : State → State) :
    s.routed h body r f go = go s := by
  obtain ⟨h1, h2, h3⟩ := hr
  have h3' : ¬ s.platEpoch < h.epoch := Nat.not_lt.2 h3
  simp [State.routed, h1, h2, h3']

end Sys2Proof.Machine
end

