-- ==== Sys2Proof/Laws/Served.lean ====
section
/-! SUPPORT. A message that waits alone in its station's intake and passes every stage has its effect. -/

namespace Sys2Proof.Machine

theorem toAccept_eq {s : State} {st : Nat} {e : Intake} (h : ∀ n, s.recordHalf st e = some n → s.bookFull n = false ∧ s.intakeHeld = false) :
    s.toAccept st e = s.effect st e := by
  unfold State.toAccept
  split
  · rfl
  · next n hn => simp [h n hn]

theorem intoTraffic_eq {s : State} {st : Nat} {e : Intake} (h : s.passes st e) : s.intoTraffic st e = (s.ruleLook st e).effect st e := by
  obtain ⟨h1, -, h3, h4, h5⟩ := h
  simp [State.intoTraffic, State.admitEntry, h1, h3, h4, toAccept_eq h5]

theorem serveOne_eq {s : State} {st : Nat} {e : Intake} (h : s.waits st e) (he : e.stage = .fresh) (hh : isHello e.msg.body = false)
    (hg : e.msg.body ≠ .goodbye) (hp : (s.atTurn st e).passes st (s.chosen st e)) :
    s.serveOne st e.msg.hdr.seq = (s.serving st e).effect st (s.chosen st e) := by
  obtain ⟨-, h2, h3, h4⟩ := h
  have hw := hp.1
  have hb : byRefOf e.msg.body = none := hp.2.1
  have hg' : (e.msg.body == MsgBody.goodbye) = false := by simpa using hg
  have ht := intoTraffic_eq hp
  have he' : (e.stage != .fresh) = false := by rw [he]; rfl
  simp only [State.serving, State.chosen, State.atTurn] at ht hw ⊢
  simp only [State.serveOne, h2, he', h3, h4, hh, hg', hw, hb, ht, Option.isSome_none, Bool.or_self, Bool.false_eq_true,
    if_false]

theorem fresh_of_waits {s : State} {st : Nat} {e : Intake} (h : s.waits st e) : e.stage = .fresh ∧ e ∈ (s.station st).intake := by
  have : e ∈ (s.station st).intake.filter (fun i => i.stage == .fresh) := by rw [h.1]; simp
  simpa [and_comm] using this

/-- What a message row does when its message waits alone in the intake of its station. -/
theorem hostMsg_waits {s : State} {t : Transfer} {h : MsgHdr} {b : MsgBody} {e : Intake} (hw : (s.readDescs t.descs).waits t.station e)
    (hm : e.msg = ⟨h, b⟩) : s.hostMsg t h b = (s.readDescs t.descs).serveOne t.station e.msg.hdr.seq := by
  unfold State.hostMsg
  generalize s.readDescs t.descs = s at hw ⊢
  obtain ⟨hf, hi⟩ := fresh_of_waits hw
  have ha : (s.station t.station).intake.any (fun x => x.msg == (⟨h, b⟩ : Msg) && x.stage == .fresh) = true := by
    simp only [List.any_eq_true]
    exact ⟨e, hi, by simp [hm, hf]⟩
  have h1 := hw.1
  simp [ha, State.serveFresh, h1]

/-- What a message row does when its message waits alone in the intake of its station and passes every stage. -/
theorem hostMsg_served {s : State} {t : Transfer} {h : MsgHdr} {b : MsgBody} {e : Intake} (hw : (s.readDescs t.descs).waits t.station e)
    (hm : e.msg = ⟨h, b⟩) (hh : isHello b = false) (hg : b ≠ .goodbye)
    (hp : ((s.readDescs t.descs).atTurn t.station e).passes t.station ((s.readDescs t.descs).chosen t.station e)) :
    s.hostMsg t h b = ((s.readDescs t.descs).serving t.station e).effect t.station ((s.readDescs t.descs).chosen t.station e) := by
  rw [hostMsg_waits hw hm]
  exact serveOne_eq hw (fresh_of_waits hw).1 (by rw [hm]; exact hh) (by rw [hm]; exact hg) hp

/-- An OPEN whose handle is free, within the limits, with a prefix of its model and half or none, is carried out (R36-R41). -/
theorem openMsg_ok {s u a : State} {st half i g : Nat} {e : Intake} {b : OpenBody}
    (hr : s.resolve st e.msg.hdr.handle = (u, none)) (hj : (u.prefixLook st b.pfx).justClosed st e.msg.hdr.handle = false)
    (hl : (u.prefixLook st b.pfx).stationSessions st false < (u.prefixLook st b.pfx).obj Ob.stn_session_max st)
    (hp : b.pfx ≠ 0 → ∃ q, u.prefixBy st b.pfx = some q ∧ q.prefixReleased = false ∧ q.state ≠ .failed ∧ q.model = b.model ∧
      (b.half ≠ 2 → q.half = b.half))
    (ho : (u.prefixLook st b.pfx).openModels st b = St.OK) (ht : (u.prefixLook st b.pfx).takeIndex half = some (i, g, a)) :
    let p := if b.pfx = 0 then none else u.prefixBy st b.pfx
    let asked := if b.revive == 0 then a.obj Ob.stn_revive_default st else b.revive - 1
    let mode := (a.station st).fbMode
    let demoted := mode == 2 && asked == 1
    let x := a.openedSession i g st half e.msg.hdr.handle b p mode (a.cancelPolicyOf st) (if demoted then 0 else asked) demoted
    let c := a.setSess x
    let d := match p with
      | none => c
      | some q =>
        let y := (c.setSess { q with refs := q.refs + 1 }).stopParks q
        if q.prefilled then y.copyTail i q else y
    let k := d.growPt i
    let f := (k.setHash half ((k.hash half).add st x.handle x.sid)).camAddHandle x
    s.openMsg st e b half = (f.accept st e mode half x.sid
      (mode + 4 * x.cancelPolicy + 8 * x.revivePolicy + (if b.half == 2 && b.pfx == 0 then 16 else 0)) false 0 demoted).1 := by
  have hl' : ¬ (u.prefixLook st b.pfx).obj Ob.stn_session_max st ≤ (u.prefixLook st b.pfx).stationSessions st false := by omega
  have ho' : ((u.prefixLook st b.pfx).openModels st b != St.OK) = false := by simp [ho]
  unfold State.openMsg
  rw [hr]
  obtain ⟨v, hv⟩ : ∃ v, u.prefixLook st b.pfx = v := ⟨_, rfl⟩
  rw [hv] at hj hl' ho' ht
  by_cases hz : b.pfx = 0
  · rw [hz] at hv
    simp only [hz, hv, hj, hl', ho', ht, Option.isSome_none, Bool.or_self, Bool.false_and, bne_self_eq_false, beq_self_eq_true, if_true,
      Bool.false_eq_true, if_false]
  · obtain ⟨q, hq, h1, h2, h3, h4⟩ := hp hz
    have hs : (q.state == SState.failed) = false := by simpa using h2
    have hh : (b.half != 2 && (some q.half != some b.half)) = false := by
      by_cases h : b.half = 2
      · simp [h]
      · simp [h4 h]
    have hz' : (b.pfx != 0) = true := by simpa using hz
    have hz2 : (b.pfx == 0) = false := by simpa using hz
    simp only [hz, hz', hz2, hv, hq, hj, hl', ho', ht, h1, h3, hs, hh, Option.isSome_none, Option.all_some, Option.map_some, Bool.or_self, Bool.true_and,
      bne_self_eq_false, if_false, Bool.false_eq_true]

end Sys2Proof.Machine
end

