-- ==== Sys2Proof/Tests/Slice0.lean ====
section
/-! SUPPORT. Tests of the model: an ill-formed command for each check of WellFormed, small theorems about single steps whose expected results come
from the spec's tables and worked examples, and for every statement with hypotheses a witness, on small states, that meets each clause. -/

namespace Sys2Proof.Tests

set_option Elab.async false

open Sys2Proof Sys2Proof.Machine

/-! ### Small states -/

/-- Core 4,095, of the highest cluster, which runs service code right after reset (R256). -/
def svc : Issue := ⟨4095, 0⟩

/-- State with some fields of core 4,095 changed. -/
def withSvc (f : Core → Core) : State := State.reset.setCore 4095 (f (State.reset.coreAt 4095))

/-- Traverse header of a group of n devices, this tile at position p, on clusters 0 and 511. -/
def hdrOf (n p : Nat) : TrvHeader :=
  { magic := 0, fmtMajor := 2, fmtMinor := 0, fmtRequired := 0, fmtOptional := 0, groupIdentity := 7, imageDigest := 0, groupSize := n, position := p
    solo := n == 1, bucketed := false, buckets := 1, modelMask := 1, frameTicks := 2000, runTicks := 1800, rows := 1, maxRowNew := 64
    maxRowPositions := 4096, kvPageBudget := 16, kvTier := 1, variants := 1, holdWindow := 100, holdLead := 100, maskBudget := 0, cowAllowance := 0
    bucketMargin := 0, clusterMask := 1 + 2 ^ 511, sectOffset := 0, sectCount := 0, keySlot := 0, sigOffset := 0, hdrCrc := 0 }

/-- Image with that header and nothing else. -/
def imgOf (n p : Nat) : TrvImage := ⟨hdrOf n p, [], [], [], [], [], [], [], [], []⟩

/-- A traverse of a group of n devices is ACTIVE in slot 0. -/
def running (n p : Nat) : State :=
  let s := State.reset.setTrvSlot 0 ⟨some (imgOf n p), none, false, []⟩
  ({ s with trv := { s.trv with active := some 0 } } : State).setObj Ob.trv_state 0 3

/-- A synchronisation object of service code. -/
def freeObj (t : SyncType) (v p : Nat) : SyncObj := ⟨t, false, false, 0xFFFE, v, p, 0, 0⟩

/-! ### Witnesses: cores -/

theorem witness_ScalarRows :
    (∀ u ∈ [uAlu, uMul, uCmp], State.reset.admits (u.takes [fSd 3, fSa 1, fSb 2]) svc = true) ∧
    (∀ u ∈ [uAlu, uTable, uCmp], State.reset.admits (u.takes [fSd 3, fSa 1]) svc = true) ∧ State.reset.admits (uAlu.takes [fSd 3, fSimm 9]) svc = true ∧
    State.reset.admits (uLoop.takes [fSimm 9]) svc = true ∧ State.reset.admits (uStatus.takes [fSd 3]) svc = true ∧
    (State.reset.coreAt 4095).loops.length < 4 ∧ State.reset.admits uLoop svc = true ∧ (State.reset.issued svc).loops = [] ∧
    ((withSvc fun c => { c with loops := [(1, 7)] }).admits uLoop svc = true ∧
      ((withSvc fun c => { c with loops := [(1, 7)] }).issued svc).loops = [(1, 7)]) ∧
    ((withSvc fun c => { c with loops := [(2, 7)] }).admits uLoop svc = true ∧
      ((withSvc fun c => { c with loops := [(2, 7)] }).issued svc).loops = [(2, 7)]) ∧
    ((withSvc fun c => { c with loops := List.replicate 4 (2, 7) }).admits (uLoop.takes [fSimm 9]) svc = true ∧
      4 ≤ ((withSvc fun c => { c with loops := List.replicate 4 (2, 7) }).coreAt 4095).loops.length) ∧
    (let s : State := { State.reset with trv := { State.reset.trv with rowTab := [⟨0, ⟨5, 0, 0, 2, false, 1, 0, 9⟩, 9, 1, false, 2⟩] } }
     s.admits (uTable.takes [fSd 3, fSa 0]) svc = true ∧ s.rowNow ((s.issued svc).sreg 0).toNat ≠ none) ∧ State.reset.rowNow 0 = none := by decide +kernel

/-- In a traverse, a core issues what the bundle of its cycle carries: here bundle 0, whose one operation is a scalar ADD of S registers 1 and 2. -/
theorem witness_ScalarRows_traverse :
    let b : Octets := toLE 1 1 ++ toLE 6 (1 * 2 ^ 44 + 3 * 2 ^ 33 + 1 * 2 ^ 28 + 2 * 2 ^ 23) ++ List.replicate 24 0
    let s := (running 1 0).setCore 0 { (running 1 0).coreAt 0 with store := bputs [] 0x18000 (b ++ [0x06]) }
    s.inRun 0 = true ∧ s.admits (uAlu.takes [fSd 3, fSa 1, fSb 2]) ⟨0, 0⟩ = true ∧ s.admits (uAlu.takes [fSd 3, fSa 1, fSb 4]) ⟨0, 0⟩ = false ∧
      s.admits uMul ⟨0, 0⟩ = false := by decide +kernel

/-- Operand fields of a vector operation: of V registers 3 and 1, or 3, 1 and 2, under predicate 4. -/
def laneFields : List (Nat × Nat × Nat) := fVd 3 :: fVa 1 :: fVp ⟨4, true⟩
def laneFields2 : List (Nat × Nat × Nat) := fVd 3 :: fVa 1 :: fVb 2 :: fVp ⟨4, true⟩

theorem witness_FloatLanes : ∀ t ∈ [VType.fp32, .bf16, .int32, .res],
    (∀ u ∈ [uFarith, uFcmp], State.reset.admits (u.takes (fVb 2 :: fType t :: laneFields)) svc = true) ∧
      State.reset.admits (uFma.takes (fVb 2 :: fVc 4 :: fType t :: laneFields)) svc = true ∧
      State.reset.admits (uFcmp.takes (fType t :: laneFields)) svc = true := by decide +kernel

theorem witness_IntegerLanes : State.reset.admits (uInt.takes laneFields2) svc = true := by decide +kernel

theorem witness_ConvertLanes : (∀ u ∈ [uConv, uSfu, uPerm], State.reset.admits (u.takes laneFields) svc = true) ∧
    (∀ u ∈ [uPerm, uMask], State.reset.admits (u.takes laneFields2) svc = true) ∧
    (∀ t ∈ [VType.fp32, .bf16, .int32, .res], State.reset.admits (uFcmp.takes (fType t :: laneFields2)) svc = true) ∧
    ((1 : Nat) ≤ 1 ∧ (6 : Nat) ≤ 6) ∧ ¬ ((1 : Nat) ≤ 0 ∧ (0 : Nat) ≤ 6) ∧ ¬ ((7 : Nat) ≤ 6) ∧ ((State.reset.issued svc).lane 0 31).toNat < 32 := by
  decide +kernel

theorem witness_ReduceLanes :
    State.reset.admits (uRed.takes laneFields) svc = true ∧ State.reset.admits (uMask.takes [fVd 3, fVa 1, fVb 2]) svc = true ∧
    (let live (s : State) (vp : VPred) : List Lane :=
       ((List.range 32).filter (fun i => ((s.issued svc).liveMask vp).getLsbD i)).map (fun i => (s.issued svc).lane 1 i)
     (live State.reset ⟨4, true⟩).length ≠ 1 ∧ (live (withSvc fun c => { c with pregs := [(4, 32)] }) ⟨4, false⟩).length = 1) := by decide +kernel

theorem witness_MatrixOps :
    let s := withSvc fun c => { c with bufs := [(0, ⟨1, List.replicate 512 0, List.replicate 32 127⟩), (2, ⟨2, List.replicate 512 0, List.replicate 32 127⟩)] }
    s.admits (uMma.takes [fFmt 1, fAcc 0, fZero true, fBufA 0, fBufB 0, fRp 0]) svc = true ∧ mmaShape 1 = some (32, 1) ∧ (s.coreAt 4095).mmaFree ≤ (s.coreAt 4095).cycle + svc.delta ∧
    sameRow 1 ((s.issued svc).buf 0).fmt = true ∧ sameRow 1 ((s.issued svc).buf 2).fmt = true ∧
    (∀ u ∈ [uMrd, uMzero], s.admits (u.takes [fAcc 3]) svc = true) ∧ s.admits (uOperand.takes [fData 1, fBase 2, fOff 5]) svc = true ∧ (s.coreAt 4095).opFree ≤ (s.coreAt 4095).cycle + svc.delta := by decide +kernel

theorem witness_CoreStoreOps : (∀ u ∈ [uLine, uWord, uCluster, uPut], State.reset.admits (u.takes [fData 1, fBase 2, fOff 5]) svc = true) ∧
    State.reset.admits (uTrie.takes [fData 1, fBase 2]) svc = true := by decide +kernel

theorem witness_SyncSignals :
    let s := State.reset.setSync 40 (freeObj .counter 3 0)
    let e := State.reset.setSync 40 { freeObj .closure 3 4 with group := true }
    (∀ u ∈ [uSignal, uArrive], s.admits (u.takes [fObj 40, fOs 1]) svc = true ∧ e.admits (u.takes [fObj 40, fOs 1]) svc = true) ∧
    s.admits (uSignal.takes [fObj 40]) svc = true ∧ e.admits (uSignal.takes [fObj 40]) svc = true ∧
    (s.syncObj 40).owner = (s.afterIssue svc 4 (s.issued svc)).coreOwner svc.core ∧ opFits .add (s.syncObj 40).type = true ∧ (s.syncObj 40).group = false ∧
    (e.syncObj 40).owner = (e.afterIssue svc 4 (e.issued svc)).coreOwner svc.core ∧ opFits .arrive (e.syncObj 40).type = true ∧ (e.syncObj 40).group = true ∧
    opFits .set ((s.afterIssue svc 4 (s.issued svc)).syncFor svc.core 40).type = false := by decide +kernel

theorem witness_WaitOutcomes :
    let s := State.reset.setSync 40 (freeObj .counter 3 0)
    let t := (State.reset.setCore 4095 { State.reset.coreAt 4095 with sregs := [(1, 4), (2, 4 + 2 ^ 32)] }).setSync 40 (freeObj .counter 3 0)
    let w (d : Nat) : State := { State.reset with tick := 9, sync := { State.reset.sync with waits := [⟨4095, 40, 0, 4, 1, d⟩] } }
    s.admits (uWait.takes [fObj 40, fOs 1]) svc = true ∧ ((s.afterIssue svc 4 (s.issued svc)).syncFor svc.core 40).type ≠ .free ∧
    waitOutcome ((s.afterIssue svc 4 (s.issued svc)).syncSeen 40 (s.issued svc).cycle) 0 0 = some 0 ∧
    t.admits (uWait.takes [fObj 40, fOs 1]) svc = true ∧ waitOutcome ((t.afterIssue svc 4 (t.issued svc)).syncSeen 40 (t.issued svc).cycle) 0
      (((t.issued svc).sreg 1).toNat % 2 ^ 32) = none ∧ (t.afterIssue svc 4 (t.issued svc)).inTraverse svc.core = false ∧
    ((t.issued svc).sreg 1).toNat / 2 ^ 32 % 65536 = 0 ∧ ((t.issued svc).sreg 2).toNat / 2 ^ 32 % 65536 ≠ 0 ∧
    ((w 8).sync.waits.find? (fun x => x.core == 4095 && decide (x.deadline < (w 8).tick))).isSome = true ∧
    (w 9).sync.waits.find? (fun x => x.core == 4095 && decide (x.deadline < (w 9).tick)) = none := by decide +kernel

/-- The state at a tick. -/
def atTick (s : State) (t : Nat) : State := { s with tick := t }

theorem witness_TraverseSlots :
    let w : Writer := .station 0 1
    let s := State.reset
    let c := { (s.setTrvSlot 0 ⟨some (imgOf 1 0), none, false, []⟩).setObj Ob.trv_state 0 2 with frame := 0 }
    s.accepts w Ob.trv_command 0 [1] ∧ s.trvState 0 = 0 ∧ s.accepts w Ob.trv_command 3 [3] ∧ s.trvState 3 = 0 ∧
    ((s.setObj Ob.trv_state 0 1).accepts w Ob.trv_command 0 [1] ∧ (s.setObj Ob.trv_state 0 1).trvState 0 = 1) ∧
    ((s.setObj Ob.trv_state 0 1).fillRaw [] []).trvCheck 0 [] ≠ St.OK ∧ c.accepts w Ob.trv_command 0 [2] ∧ c.trvState 0 = 2 ∧
    (c.trvSlot 0).image = some (imgOf 1 0) ∧ c.obj Ob.trv_activate_frame 0 < c.frame + 4 ∧
    (let d := c.setObj Ob.trv_activate_frame 0 4
     d.accepts w Ob.trv_command 0 [2] ∧ d.frame + 4 ≤ d.obj Ob.trv_activate_frame 0 ∧ searchShareOk (imgOf 1 0) (d.obj Ob.search_trv_share 0) = true ∧
       d.bindsOk (imgOf 1 0) = true) := by
  unfold State.accepts
  decide +kernel

/-- A slot list of one idle row for a frame. -/
def listFor (f : Nat) : SlotList := ⟨0, f, 0, 7, 0, [⟨0xFFFFFFFF, 0, 0, 0, false, 0, 0, 0⟩]⟩

theorem witness_SlotListRounds :
    let m := running 2 0
    let k := running 2 1
    let pend (a : Bool) : PendingList := ⟨listFor 5, a, false, [], 0, 0⟩
    let held (s : State) (a : Bool) : State := { s with trv := { s.trv with lists := [pend a] } }
    ((running 1 0).imageFor 4 = some (imgOf 1 0) ∧ (running 1 0).masters (imgOf 1 0) = true ∧ (running 1 0).listTimely 4 = true ∧
      (running 1 0).hasList 4 = false) ∧
    (let k := k.setObj Ob.datum_state 0 2
     parseSlotList (listOctets (listFor 4)) = some (listFor 4) ∧ k.imageFor 4 = some (imgOf 2 1) ∧ imageGrouped (imgOf 2 1) = true ∧
      k.masters (imgOf 2 1) = false ∧ k.listTimely 4 = true ∧ (listFor 4).trvId = trvIdOf (hdrOf 2 1) ∧ listInRange (listFor 4) (hdrOf 2 1) = true ∧
      k.hasList 4 = false) ∧
    parseSlotList [] = none ∧ parseSlotList (listOctets (listFor 3)) = some (listFor 3) ∧ (listFor 3).takeover < k.frame + 4 ∧
    ((running 1 0).decisionDue (imgOf 1 0) 0 = true ∧ (running 1 0).decisionDue (imgOf 1 0) 1 = false ∧
      (atTick (running 1 0) 24900).decisionDue (imgOf 1 0) 1 = true ∧ (atTick (running 1 0) 24899).decisionDue (imgOf 1 0) 1 = false) ∧
    (let s := atTick (held m true) (5 * 25000 - 100)
     s.imageFor 5 = some (imgOf 2 0) ∧ s.decisionDue (imgOf 2 0) 5 = true ∧ s.masters (imgOf 2 0) = true ∧ s.hasList 5 = true ∧
      (∀ p ∈ s.trv.lists, p.committed = false)) ∧
    (held m true).trv.lists.find? (fun p => p.list.takeover == 5 && !p.committed) = some (pend true) ∧
    (held m false).trv.lists.find? (fun p => p.list.takeover == 5 && !p.committed) = some (pend false) := by decide +kernel

theorem witness_GroupHolds :
    let s := atTick (running 1 0) 100
    let p : HoldPlan := ⟨100, 5, 1, 1, 0, 0, 0⟩
    (s.activeImage = some (imgOf 1 0) ∧ s.runningHdr = some (hdrOf 1 0) ∧ s.trv.held = none ∧ s.schedTick = 100 ∧
      s.schedTick % max 1 (hdrOf 1 0).holdWindow = 0 ∧ mget s.trv.requests s.schedTick = none) ∧
    (let s := atTick (running 1 0) 200
     s.isMaster = true ∧ 100 ∉ s.trv.decided ∧ s.schedTick ≤ 100 + (hdrOf 1 0).holdLead ∧
      topRequest ((mget s.trv.requests 100).getD [] ++ [⟨0, 5, 1, 0, 0⟩]) = some ⟨0, 5, 1, 0, 0⟩) ∧
    (let s := { s with trv := { s.trv with plans := [p] } }
     s.trv.plans = p :: [] ∧ s.trv.held = none ∧ p.sched ≤ s.schedTick ∧ p.cause ≠ 3) ∧
    (let h (t : Nat) : State := { atTick s t with trv := { s.trv with held := some (100, 5) } }
     (h 105).trv.held = some (100, 5) ∧ 100 + 5 ≤ (h 105).tick ∧ (h 104).tick < 100 + 5) ∧
    (running 2 0).grouped = true ∧ 1 ≠ (running 2 0).groupPos ∧ 0 ≠ noLength := by decide +kernel

/-- A plat of devices 1 and 2, this one being 2, at epoch 3: slice 0 of the two, with device 1 its benchmark device. -/
def plat3 : PlatImage :=
  ⟨true, 1, 0, 0, 3, 0, 0, [⟨1, 1, 11, [32768 + 2]⟩, ⟨2, 1, 12, [32768 + 1]⟩], [⟨0, 1, 2, 1, 64, 0, 7⟩], [⟨0, 1, 0, 1, 1, 1⟩, ⟨0, 2, 1, 1, 1, 1⟩], []⟩

/-- Device 2 under that plat, its port 0 UP to device 1. -/
def inPlat : State :=
  let s := (((State.reset.setObj Ob.plat_device 0 2).setObj Ob.composition 0 1).setObj Ob.port_state 0 2).setObj Ob.port_role 0 1
  let s := s.setObj Ob.port_peer 0 1
  { s with fab := { s.fab with plat := some plat3 } }

theorem witness_DatumStates :
    let s := inPlat
    let d (v t : Nat) : State := atTick (State.reset.setObj Ob.datum_state 0 v) t
    (s.obj Ob.composition 0 = 1 ∧ s.datumState = 0 ∧ s.runningHdr = none ∧ s.joinBenchmark = some 1 ∧ s.route 1 = some 0) ∧
    ((d 1 10000).datumState = 1 ∧ (d 1 10000).trv.datumSince + 10000 ≤ (d 1 10000).tick ∧ ((-5000 : Int) ≤ -5000 ∧ (5000 : Int) ≤ 5000) ∧
      (5000 : Int) < 5001 ∧ (-5001 : Int) < -5000 ∧ (d 1 250000).trv.datumSince + 250000 ≤ (d 1 250000).tick) ∧
    ((d 2 0).datumState = 2 ∧ (10000 : Int) < 10001 ∧ (-10001 : Int) < -10000 ∧ ((-10000 : Int) ≤ -10000 ∧ (10000 : Int) ≤ 10000)) ∧
    ((d 3 750).datumState = 3 ∧ (d 3 750).tick ≤ (d 3 750).trv.datumSince + 750 ∧ (d 3 750).trv.datumSince + 750 ≤ (d 3 750).tick) ∧
    (running 2 0).grouped = true := by decide +kernel

theorem witness_FenceRows :
    let w : Writer := .station 0 1
    let s := State.reset
    let f := s.setStr Ob.cluster_fence_map 0 (mapSet (s.str Ob.cluster_fence_map 0) 511 true)
    (4095 < 4096 ∧ s.accepts w Ob.fence_command 0 (toLE 4 (4095 + 0x1000)) ∧ s.accepts w Ob.fence_command 0 (toLE 4 (0 + 0x1000)) ∧
      s.accepts w Ob.fence_command 0 (toLE 4 (4095 + 0x2000))) ∧
    (f.accepts w Ob.fence_command 0 (toLE 4 (4095 + 0x3000)) ∧ f.activeRun = none ∧ f.clusterFenced (4095 / 8) = true) ∧
    (let t := { s with core := { s.core with testing := [511] } }
     t.core.testing.contains 511 = true ∧ t.asleep 511 = false) := by
  unfold State.accepts
  decide +kernel

/-- A message header of station 5. -/
def hdr5 (len seq handle : Nat) : MsgHdr := ⟨5, len, seq, handle, 0, 0⟩

/-- A transfer of station 5 on module 0. -/
def xfer (kind len tag addr : Nat) : Transfer := ⟨0, kind, 5, len, tag, addr, []⟩

/-- A message as it stands fresh in intake. -/
def entry (m : Msg) : Intake := ⟨m, 0, 1, 0, 0, false, .fresh, 0, false, false, 0, 0⟩

/-- Station 5 attached with all features, one message in its intake. -/
def withMsg (s : State) (m : Msg) : State :=
  s.setStation 5 { s.station 5 with
    state := 1, major := 3, features := 15, hbTicks := 250, cq := ⟨0x10000, 10, 0, 0⟩, eq := ⟨0x20000, 8, 0, 0⟩, credits := 100, creditsMax := 101
    cqTaken := 1, intake := [entry m] }

/-- An OPEN without prefix, grammar or draft model on half 0. -/
def openBody : OpenBody := ⟨5, 0, 0, 0, 0, 0, false, false, 0, 0, 6, 0xFF, 128, 0, 0, 0x40000, 1, 0, 0, 0x3F800000, 0, [0, 0, 0, 0]⟩

/-- A session of station 5 with handle 77, index 3 and generation 0. -/
def sess0 : Session := { State.reset.openedSession 3 0 5 0 77 openBody none 1 0 0 false with refs := 0 }

/-- A state with that session changed by f, its handle in the engine of half 0. -/
def withSess (f : Session → Session) : State := (State.reset.setSess (f sess0)).camAddHandle (f sess0)

/-- Input of 8 bytes, in the message. -/
def input (tag : Nat) : InputBody := ⟨0, true, false, false, 0, 0, 0, 0, tag, 8, 0, 0, List.replicate 8 65⟩

/-- The message passes its stages and names that session. -/
def served (s : State) (m : Msg) (x : Option Session) : Prop :=
  let u := withMsg s m
  u.waits 5 (entry m) ∧ (u.atTurn 5 (entry m)).passes 5 (u.chosen 5 (entry m)) ∧
    ((u.serving 5 (entry m)).resolve 5 m.hdr.handle).2 = x

/-- The parts of `served` that evaluate. -/
theorem served_of (s : State) (m : Msg)
    (x : Option Session) (h : let u := withMsg s m
      let e := u.chosen 5 (entry m)
      let a := u.atTurn 5 (entry m)
      let v := u.serving 5 (entry m)
      (u.station 5).intake.filter (fun i => i.stage == .fresh) = [entry m] ∧ (u.station 5).find m.hdr.seq = some (entry m) ∧
        (u.station 5).leaving = none ∧ u.msgRange 5 false m = none ∧ a.windowSays 5 e = none ∧ byRefOf e.msg.body = none ∧
        (Machine.policed e.msg.body && (a.station 5).blocked e.msg.hdr.seq) = false ∧ a.trafficStage 5 e = .pass ∧
        (v.bookFull 0 = false ∧ v.bookFull 1 = false ∧ v.intakeHeld = false) ∧ (∀ h ∈ v.recordHalf 5 e, h = 0 ∨ h = 1) ∧
        ((v.resolve 5 m.hdr.handle).2 = x)) : served s m x := by
  obtain ⟨h1, h2, h3, h4, h5, h6, h7, h8, ⟨h9, h10, h11⟩, h12, h13⟩ := h
  refine ⟨⟨h1, h2, h3, h4⟩, ⟨h5, h6, h7, h8, fun k hk => ?_⟩, h13⟩
  rcases h12 k hk with rfl | rfl
  · exact ⟨h9, h11⟩
  · exact ⟨h10, h11⟩

theorem witness_SessionMessages :
    (served (withSess id) ⟨hdr5 24 1 77, .close⟩ (some sess0) ∧ verdict sess0 .close = .accept) ∧
    (served (withSess id) ⟨hdr5 24 1 77, .cancel⟩ (some sess0) ∧ verdict sess0 .cancel = .accept) ∧
    (served (withSess id) ⟨hdr5 24 1 77, .park⟩ (some sess0) ∧ verdict sess0 .park = .accept) ∧
    (served (withSess fun x => { x with state := .parkedWarm }) ⟨hdr5 24 1 77, .revive⟩ (some { sess0 with state := .parkedWarm }) ∧
      verdict { sess0 with state := .parkedWarm } .revive = .accept) ∧
    (served (withSess id) ⟨hdr5 56 1 77, .append (input 0)⟩ (some sess0) ∧ verdict sess0 .append = .accept) ∧
    (served (withSess fun x => { x with state := .waiting, waitOpen := true, waitTag := 9 }) ⟨hdr5 56 1 77, .resume (input 9)⟩
      (some { sess0 with state := .waiting, waitOpen := true, waitTag := 9 }) ∧
      verdict { sess0 with state := .waiting, waitOpen := true, waitTag := 9 } .resume = .accept ∧ (input 8).waitTag ≠ 9) := by
  refine ⟨⟨served_of _ _ _ ?_, ?_⟩, ⟨served_of _ _ _ ?_, ?_⟩, ⟨served_of _ _ _ ?_, ?_⟩, ⟨served_of _ _ _ ?_, ?_⟩, ⟨served_of _ _ _ ?_, ?_⟩, served_of _ _ _ ?_, ?_, ?_⟩
  all_goals decide +kernel

/-- A model that is LOADED in slot 0 with room for OPEN's positions. -/
def withModel (s : State) : State := (s.setObj Ob.mdl_state 0 2).setObj Ob.mdl_max_positions 0 4096

/-- A prefix of station 5 that has been prefilled. -/
def prefix0 : Session :=
  { sess0 with handle := 3 + 2 ^ 32 * 5, pfxHandle := 3 + 2 ^ 32 * 5, isPrefix := true, inputs := [] }

/-- A half with a free index gives one out, whichever Config picks. -/
theorem takeIndex_isSome (s : State) (half : Nat)
    (h : mfreeFrom s.ses.tab (Config.indicesPerHalf * half) < Config.indicesPerHalf + Config.indicesPerHalf * half) :
    (s.takeIndex half).isSome = true := by
  by_cases h' : mfreeFrom s.ses.tab (Config.indicesPerHalf * half + Config.pick s.free % Config.indicesPerHalf)
      < Config.indicesPerHalf + Config.indicesPerHalf * half <;>
    simp [State.takeIndex, State.draw, h, h']

theorem witness_OpenSession :
    let m : Msg := ⟨hdr5 112 1 78, .openSession openBody⟩
    let s := withModel State.reset
    let u := (withMsg s m).serving 5 (entry m)
    served s m none ∧ ((u.resolve 5 78).1.prefixLook 5 openBody.pfx).justClosed 5 78 = false ∧
    ((u.resolve 5 78).1.prefixLook 5 openBody.pfx).stationSessions 5 false < ((u.resolve 5 78).1.prefixLook 5 openBody.pfx).obj Ob.stn_session_max 5 ∧ openBody.pfx = 0 ∧
    ((u.resolve 5 78).1.prefixLook 5 openBody.pfx).openModels 5 openBody = St.OK ∧
    (((u.resolve 5 78).1.prefixLook 5 openBody.pfx).takeIndex (u.servingHalf 5 ((withMsg s m).chosen 5 (entry m)))).isSome = true := by
  refine ⟨served_of _ _ _ ?_, ?_, ?_, ?_, ?_, takeIndex_isSome _ _ ?_⟩ <;> decide +kernel

theorem witness_OpenSession_prefix :
    let b := { openBody with pfx := prefix0.handle }
    let m : Msg := ⟨hdr5 112 1 78, .openSession b⟩
    let s := withModel (State.reset.setSess prefix0)
    let u := (withMsg s m).serving 5 (entry m)
    served s m none ∧ ((u.resolve 5 78).1.prefixLook 5 b.pfx).justClosed 5 78 = false ∧
    ((u.resolve 5 78).1.prefixLook 5 b.pfx).stationSessions 5 false < ((u.resolve 5 78).1.prefixLook 5 b.pfx).obj Ob.stn_session_max 5 ∧
    ((u.resolve 5 78).1.prefixBy 5 b.pfx = some prefix0 ∧ prefix0.prefixReleased = false ∧ prefix0.state ≠ .failed ∧ prefix0.model = b.model ∧
      prefix0.half = b.half) ∧
    ((u.resolve 5 78).1.prefixLook 5 b.pfx).openModels 5 b = St.OK ∧
    (((u.resolve 5 78).1.prefixLook 5 b.pfx).takeIndex (u.servingHalf 5 ((withMsg s m).chosen 5 (entry m)))).isSome = true := by
  refine ⟨served_of _ _ _ ?_, ?_, ?_, ?_, ?_, takeIndex_isSome _ _ ?_⟩ <;> decide +kernel

theorem witness_PrefixMessages :
    (let m : Msg := ⟨hdr5 56 1 0, .prefixRegister { input 0 with tenant := 5 }⟩
     let s := withModel State.reset
     let u := (withMsg s m).serving 5 (entry m)
     served s m none ∧ u.stationSessions 5 true < u.obj Ob.stn_prefix_max 5 ∧
      (u.takeIndex (u.servingHalf 5 ((withMsg s m).chosen 5 (entry m)))).isSome = true) ∧
    (let m : Msg := ⟨hdr5 24 1 prefix0.handle, .prefixRelease⟩
     let s := State.reset.setSess prefix0
     served s m none ∧ ((withMsg s m).serving 5 (entry m)).prefixBy 5 prefix0.handle = some prefix0 ∧ prefix0.prefixReleased = false) := by
  refine ⟨⟨served_of _ _ _ ?_, ?_, takeIndex_isSome _ _ ?_⟩, served_of _ _ _ ?_, ?_⟩ <;> decide +kernel

/-- HELLO with these versions. -/
def helloBody (lo hi : Nat) : HelloBody := ⟨lo, hi, 0, 250, 15, 0x10000, 0x20000, 0x30000, 12, 8, 0⟩

theorem witness_AttachMessages :
    (let m (lo hi : Nat) : Msg := ⟨hdr5 72 1 0, .hello (helloBody lo hi)⟩
     let s := State.reset.setUcie 0 ⟨2, 32, 64, 0, 0⟩
     served s (m 3 3) none ∧ (helloBody 3 3).majorLo ≤ 3 ∧ 3 ≤ (helloBody 3 3).majorHi ∧
      (((withMsg s (m 3 3)).serving 5 (entry (m 3 3))).pickModule (((withMsg s (m 3 3)).serving 5 (entry (m 3 3))).obj Ob.stn_module 5)).isSome = true ∧
      served s (m 4 9) none ∧ 3 < (helloBody 4 9).majorLo ∧ served s (m 1 2) none ∧ (helloBody 1 2).majorHi < 3) ∧
    (let m : Msg := ⟨hdr5 24 1 0, .goodbye⟩
     let u := (withMsg State.reset m).serving 5 (entry m)
     let v := u.setIntake 5 1 (fun i => { i with stage := .working })
     let a := v.setStation 5 { v.station 5 with leaving := some 1 }
     served State.reset m none ∧ (a.station 5).leaving = some 1 ∧
      (a.station 5).intake = [{ (withMsg State.reset m).chosen 5 (entry m) with stage := .working }]) ∧
    (let r : RingNameBody := ⟨0x80000, 6, 0, 0⟩
     let m : Msg := ⟨hdr5 40 1 77, .ringName r⟩
     served (withSess id) m (some sess0) ∧ sess0.state ≠ .cancelling ∧ sess0.cancelAtBoundary = false ∧
      (2 ^ 32 + sess0.ringWrite - r.cons) % 2 ^ 32 ≤ 2 ^ r.log2) := by
  refine ⟨⟨served_of _ _ _ ?_, ?_, ?_, ?_, served_of _ _ _ ?_, ?_, served_of _ _ _ ?_, ?_⟩, ⟨served_of _ _ _ ?_, ?_, ?_⟩, served_of _ _ _ ?_, ?_⟩
  all_goals decide +kernel

theorem mayRead_of {s : State} {w : Writer} {index sub : Nat} {o : ObjSpec} {i j : Nat}
    (h : sub ≠ 0 ∧ s.findObj index sub = some (o, i, j) ∧ o.access ≠ .wo ∧ s.recoveryShuts index sub = false)
    (hw : ∀ st q, w = .station st q → s.privileged st = true ∨ ownReadable st index = true) : s.mayRead w index sub o i j := by
  refine ⟨h.1, h.2.1, h.2.2.1, h.2.2.2, ?_⟩
  cases w with
  | station st q => exact hw st q rfl
  | _ => trivial

theorem mayWrite_of {s : State} {w : Writer} {index sub : Nat} {o : ObjSpec} {i j : Nat} {v : Octets}
    (h : sub ≠ 0 ∧ s.findObj index sub = some (o, i, j) ∧ s.recoveryShuts index sub = false ∧ (s.commandOf w o i v).isNone = true ∧ index / 256 ≠ 0xC0 ∧
      s.writeCheck w o index sub v = St.OK ∧ s.moreCheck o i j v = St.OK) : s.mayWrite w index sub o i j v :=
  ⟨h.1, h.2.1, h.2.2.1, Option.isNone_iff_eq_none.1 h.2.2.2.1, h.2.2.2.2⟩

/-- An Opdun header of association 1 from client 9. -/
def odHdr (req index sub : Nat) : OpdunHdr := ⟨true, 255, 9, 5683, false, 0, 0, 1, req, index, sub, 0, 0, 0⟩

/-- Management is up, and association 1 stands open for client 9. -/
def withAssoc : State :=
  let s := State.reset.setPwr { State.reset.pwr with strapped := true }
  s.setAssoc 1 ⟨9, 5683, 2, 0, 7, List.replicate 16 1, 0, [], none, none⟩

/-- The association whose request is served. -/
def assoc0 : Assoc := ⟨9, 5683, 2, 0, 7, List.replicate 16 1, 0, [], none, none⟩

theorem servedOf_assoc (req index sub : Nat) : withAssoc.servedOf (odHdr req index sub) assoc0 := by
  have h : mget (withAssoc.arrivalWakes 2).mgmt.assocs 1 = some assoc0 := by decide +kernel
  exact ⟨⟨by decide +kernel, rfl, rfl⟩, h, rfl, rfl, rfl⟩

theorem witness_ObjectReads :
    (let b : ObjBody := ⟨0x1000, 3, 0, 0, 0x5000, []⟩
     let m : Msg := ⟨hdr5 40 1 0, .objRead b⟩
     served State.reset m none ∧ ((withMsg State.reset m).serving 5 (entry m)).mayRead (.station 5 1) 0x1000 3 Ob.id_part 0 0) ∧
    (withAssoc.servedOf (odHdr 1 0x1000 3) assoc0 ∧ (withAssoc.asked (odHdr 1 0x1000 3) assoc0).mayRead (odWriter (odHdr 1 0x1000 3)) 0x1000 3 Ob.id_part 0 0) ∧
    State.reset.mayRead (.station 0 1) Ob.hold_log.base Ob.hold_log.subLo Ob.hold_log 0 0 ∧
    State.reset.mayRead (.station 0 1) (Ob.move_completion_log.base + 1 % 2) Ob.move_completion_log.subLo Ob.move_completion_log (1 % 2) 0 ∧
    State.reset.mayRead .device Ob.err_read.base Ob.err_read.subLo Ob.err_read 0 0 := by
  refine ⟨⟨served_of _ _ _ ?_, mayRead_of ?_ ?_⟩, ⟨servedOf_assoc _ _ _, mayRead_of ?_ ?_⟩, mayRead_of ?_ ?_, mayRead_of ?_ ?_, mayRead_of ?_ ?_⟩
  · decide +kernel
  · decide +kernel
  · intro st q h; cases h; exact Or.inr rfl
  · decide +kernel
  · intro st q h; cases h
  · decide +kernel
  · intro st q h; cases h; exact Or.inl (by decide +kernel)
  · decide +kernel
  · intro st q h; cases h; exact Or.inl (by decide +kernel)
  · decide +kernel
  · intro st q h; cases h

theorem witness_ObjectWrites :
    State.reset.mayWrite (.station 0 1) 0x2070 2 Ob.ck_keep 0 0 [3] ∧
    (let b : ObjBody := ⟨0x3405, 4, 0, 2, 0, toLE 2 1⟩
     let m : Msg := ⟨hdr5 40 1 0, .objWrite b⟩
     served State.reset m none ∧ ((withMsg State.reset m).serving 5 (entry m)).mayWrite (.station 5 1) 0x3405 4 Ob.stn_sync_select 5 0 (toLE 2 1)) ∧
    (withAssoc.servedOf (odHdr 1 0x2070 2) assoc0 ∧ ([3] : Octets).length ≤ 1056 ∧
      (withAssoc.asked (odHdr 1 0x2070 2) assoc0).mayWrite (odWriter (odHdr 1 0x2070 2)) 0x2070 2 Ob.ck_keep 0 0 [3]) ∧
    State.reset.mayWrite (.station 0 1) (Ob.stn_t3_extent.base + 255 % 256) (1 + 15 % 16) Ob.stn_t3_extent 255 15 (List.replicate 16 0) ∧
    State.reset.mayWrite (.station 0 1) (Ob.stn_stop_set.base + 0 % 256) (1 + 0 % 16) Ob.stn_stop_set 0 0 [] ∧
    (State.reset.mayWrite (.station 0 1) (Ob.stn_step_rate.base + 5 % 256) (rateSpec false 0).subLo Ob.stn_step_rate 5 0 (toLE 4 1000) ∧
      State.reset.mayWrite (.station 0 1) 0x2200 (burstSpec false 3).subLo Ob.tn_query_burst 0 0 (toLE 4 1000)) ∧
    (let p : PersistWait := ⟨0x2070 * 256 + 2, .num 3, 0, .station 0 1⟩
     let s : State := { State.reset with dict := { State.reset.dict with persistWaits := [p] } }
     s.dict.persistWaits = [p] ∧ objFind (p.key / 256) (p.key % 256) = some (Ob.ck_keep, 0, 0) ∧
       State.reset.moreCheck Ob.ck_keep 0 0 (valBytes Ob.ck_keep p.value) = St.OK) ∧
    (let p : PersistWait := ⟨objKey Ob.dict_models 1 0, .num 1, 0, .station 0 1⟩
     objFind (p.key / 256) (p.key % 256) = some (Ob.dict_models, 1, 0) ∧
       (State.reset.setObj Ob.dict_models 0 1).moreCheck Ob.dict_models 1 0 (valBytes Ob.dict_models p.value) = St.FIELD_RANGE) ∧
    (State.reset.findObj 0x4140 13 = some (Ob.cnt_ring_hold, 0, 0) ∧ State.reset.recoveryShuts 0x4140 13 = false ∧
      (State.reset.commandOf (.station 0 1) Ob.cnt_ring_hold 0 []).isNone = true ∧ Ob.cnt_ring_hold.access = .ro) := by
  refine ⟨mayWrite_of ?_, ⟨served_of _ _ _ ?_, mayWrite_of ?_⟩, ⟨servedOf_assoc _ _ _, ?_, mayWrite_of ?_⟩, mayWrite_of ?_, mayWrite_of ?_,
    ⟨mayWrite_of ?_, mayWrite_of ?_⟩, ?_⟩
  all_goals decide +kernel

/-- Vector index 7 LOADED, of station 5, with one node in slot 0. -/
def vxState (n : VxNode) : State :=
  (((State.reset.setObj Ob.vx_state 7 2).setObj Ob.vx_station 7 5).setObj Ob.vx_capacity 7 1024).setVx 7 { vxEmpty with nodes := [(0, n)] }

/-- A live node with identifier 42. -/
def node0 : VxNode := ⟨42, true, false, 0, 0, [], List.replicate 16 0⟩

/-- A QUERY, INSERT or DELETE body. -/
def searchBody (ii k beam id : Nat) : SearchBody := ⟨ii, k, beam, 0, 0, if k = 0 then 0 else 1, 0, 0, 0, id, 0, []⟩

theorem witness_SearchMessages :
    (let m : Msg := ⟨hdr5 64 1 0, .query (searchBody 7 1 1 0)⟩
     served (vxState node0) m none ∧ (((withMsg (vxState node0) m).serving 5 (entry m)).searchDebit 5 7 false).vxOpen 5 7 false = St.OK ∧
      served State.reset m none ∧ (((withMsg State.reset m).serving 5 (entry m)).searchDebit 5 7 false).vxOpen 5 7 false ≠ St.OK) ∧
    (let m : Msg := ⟨hdr5 64 1 0, .insert (searchBody 7 0 0 43)⟩
     served (vxState node0) m none ∧ (((withMsg (vxState node0) m).serving 5 (entry m)).searchDebit 5 7 true).vxOpen 5 7 true = St.OK ∧
      served State.reset m none ∧ (((withMsg State.reset m).serving 5 (entry m)).searchDebit 5 7 true).vxOpen 5 7 true ≠ St.OK) ∧
    (let m (id : Nat) : Msg := ⟨hdr5 64 1 0, .delete (searchBody 7 0 0 id)⟩
     let u (id : Nat) := ((withMsg (vxState node0) (m id)).serving 5 (entry (m id))).searchDebit 5 7 true
     served (vxState node0) (m 42) none ∧ (u 42).vxOpen 5 7 true = St.OK ∧ vxFind ((u 42).vxAt 7) 42 = some (0, node0) ∧ node0.tomb = false ∧
      node0.insEpoch ≠ vxPending ∧ served (vxState node0) (m 41) none ∧ vxFind ((u 41).vxAt 7) 41 = none) := by
  refine ⟨⟨served_of _ _ _ ?_, ?_, served_of _ _ _ ?_, ?_⟩, ⟨served_of _ _ _ ?_, ?_, served_of _ _ _ ?_, ?_⟩, served_of _ _ _ ?_, ?_, ?_, ?_, ?_,
    served_of _ _ _ ?_, ?_⟩
  all_goals decide +kernel

/-- A half's engine with its window's other admissions used up. -/
def fullWindow : State := State.reset.setCam 1 { State.reset.cam 1 with winOther := 64 }

/-- A traverse whose image for cluster 0 searches once, in its cycle 0. -/
def searching : State :=
  let img : TrvImage := { imgOf 1 0 with images := [⟨true, 8, 0, 0, 0, [⟨0, [], [⟨0, 0, 0x100, 0x200, 3⟩]⟩]⟩] }
  let s := State.reset.setTrvSlot 0 ⟨some img, none, false, []⟩
  { s with trv := { s.trv with active := some 0 } }

/-- An engine of which every region is empty. -/
def noRegions : State :=
  let c := State.reset.cam 0
  State.reset.setCam 0 { c with regions := { c.regions with trv := 0, pfx := 0, rule := 0 } }

theorem witness_AssociativeEngine :
    (State.reset.searchFits 1 256 = true ∧ (State.reset.cam 1).waiting = []) ∧
    (fullWindow.searchFits 1 256 = false ∧ (fullWindow.cam 1).waiting.length < 1024) ∧
    (searching.runningHdr = some (hdrOf 1 0) ∧
      (∃ img r, searching.activeImage = some img ∧ (searching.searchesOf img)[0]? = some r ∧ r.cluster < 512 ∧ searching.clusterFenced r.cluster = false ∧
        searching.asleep r.cluster = false ∧ r.cycle < 60 * (searching.schedTick + 1) ∧ 0 ∉ searching.trv.searched)) ∧
    ((camInsert (State.reset.cam 0).entries (State.reset.cam 0).regions.trvBase (State.reset.cam 0).regions.trv (camExact 4 9 8)).isSome = true ∧
      (State.reset.trvEntries 0).length < State.reset.regionLimit Ob.cam_trv_entries (State.reset.cam 0).regions.trv) ∧
    (noRegions.regionLimit Ob.cam_trv_entries (noRegions.cam 0).regions.trv ≤ (noRegions.trvEntries 0).length ∧
      camInsert (noRegions.cam 0).entries (noRegions.cam 0).regions.pfxBase (noRegions.cam 0).regions.pfx (camExact 2 9 8) = none ∧
      noRegions.regionLimit Ob.cam_rule_entries (noRegions.cam 0).regions.rule ≤ (noRegions.ruleEntries 0).length) ∧
    (State.reset.ruleEntries 0).length < State.reset.regionLimit Ob.cam_rule_entries (State.reset.cam 0).regions.rule ∧
    (camInsert (State.reset.cam 0).entries (State.reset.cam 0).regions.pfxBase (State.reset.cam 0).regions.pfx (camExact 2 9 8)).isSome = true ∧
    ((withSess id).bySid 3 = some sess0 ∧ sess0.half = 0) ∧
    (State.reset.camOrdered 0 ⟨3 * 2 ^ 120 + 1, 255 * 2 ^ 120 + 1, 5, 6⟩).isSome = true := by
  refine ⟨by decide +kernel, by decide +kernel, ⟨by decide +kernel, _, ⟨0, 0, 0x100, 0x200, 3⟩, rfl, ?_⟩, ?_⟩ <;> decide +kernel

theorem witness_VectorIndexes :
    let w : Writer := .station 0 1
    let s := State.reset
    let u := s.setStr Ob.vx_digest 9 (Config.shake256 [] 32)
    let v := vxState node0
    let q : VxOp := ⟨5, 1, 7, searchBody 7 1 1 0, none, []⟩
    let ins : VxIndex := { vxEmpty with nodes := [(0, node0)], inserts := [⟨0, 5, 1, 0, false⟩] }
    (s.accepts w Ob.vx_command 255 [1] ∧ s.obj Ob.vx_state 255 = 0 ∧
      ceilDiv (s.vxLayout 255).count 11 ≤ s.t2Free (s.obj Ob.vx_half 255)) ∧
    (u.accepts w Ob.vx_command 9 [2] ∧ u.obj Ob.vx_state 9 = 0 ∧
      ceilDiv (u.vxLayout 9).count 11 ≤ u.t2Free (u.obj Ob.vx_half 9)) ∧
    ((∀ t ∈ records 4352 [], tileCrcOk t = true ∧ (parseTile t).formatOk = true) ∧ ([] : Octets).length % 4352 = 0 ∧
      Config.shake256 [] 32 = u.str Ob.vx_digest 9) ∧
    (v.accepts w Ob.vx_command 7 [3] ∧ 2 ≤ v.obj Ob.vx_state 7) ∧
    (let v := { v with srch := { v.srch with queries := [q] } }
     v.srch.queries.find? (fun q => v.obj Ob.vx_half q.index == 0 && (v.vxAt q.index).advancing.isNone) = some q ∧ v.searchServes 0 = true) ∧
    (let v := v.setVx 7 ins
     ins.inserts.find? (fun j => !j.linked) = some ⟨0, 5, 1, 0, false⟩ ∧ v.srch.queries.any (fun q => v.obj Ob.vx_half q.index == v.obj Ob.vx_half 7) = false ∧
      v.searchServes (v.obj Ob.vx_half 7) = true ∧ (v.vxAt 7).advancing = none ∧ mget (v.vxAt 7).nodes 0 = some node0) ∧
    (let y : VxIndex := { vxEmpty with nodes := [(0, node0)], retire := [0] }
     let v := v.setVx 7 y
     v.obj Ob.vx_state 7 = 2 ∧ v.tick % max 1 (v.obj Ob.vx_advance_ticks 7) = 0 ∧ vxHasWork (v.vxAt 7) = true ∧ y.advancing = none ∧ y.dropping = false ∧
      v.vxRunning 7 = false ∧ ({ v with srch := { v.srch with running := [{ q with pin := some (0, 0) }] } } : State).vxRunning 7 = true) ∧
    (let y : VxIndex := { vxEmpty with nodes := [(0, node0), (5, node0)], sweep := some (0, 0) }
     y.sweep = some (0, 0) ∧ y.nodes.any (fun p => decide (1 ≤ p.1)) = true ∧ y.nodes.any (fun p => decide (6 ≤ p.1)) = false) := by
  unfold State.accepts
  refine ⟨by decide +kernel, by decide +kernel, ⟨by decide +kernel, by decide +kernel, (State.str_setStr _ _ _ _).symm⟩, by decide +kernel, by decide +kernel, by decide +kernel,
    by decide +kernel, by decide +kernel⟩

theorem witness_UcieModules :
    let m (x : UcieModule) (t : Nat) : State := atTick (State.reset.setUcie 7 x) t
    (((m ⟨1, 0, 0, 0, 0⟩ 250000).ucie 7).state = 1 ∧ (m ⟨1, 0, 0, 0, 0⟩ 250000).tick ≤ ((m ⟨1, 0, 0, 0, 0⟩ 250000).ucie 7).since + 250000 ∧
      ucieRates.contains 32 = true) ∧
    (((m ⟨0, 0, 0, 0, 0⟩ 25000).ucie 7).state = 0 ∧ ((m ⟨0, 0, 0, 0, 0⟩ 25000).ucie 7).since + 25000 ≤ (m ⟨0, 0, 0, 0, 0⟩ 25000).tick ∧
      (m ⟨0, 0, 0, 0, 0⟩ 24999).tick < ((m ⟨0, 0, 0, 0, 0⟩ 24999).ucie 7).since + 25000) ∧
    (m ⟨2, 32, 64, 0, 0⟩ 0).ucieUp 7 = true ∧
    (let s := (m ⟨2, 32, 64, 0, 0⟩ 25000).setObj Ob.half1_power_mode 0 1
     s.powerMode (7 / 4) = 1 ∧ (s.ucie 7).state = 2 ∧ (s.ucie 7).lastUse + 25000 ≤ s.tick ∧ (∀ n ∈ s.attached, (s.station n).module ≠ 7)) := by
  decide +kernel

/-- Module 0 UP and station 5 attached with one outstanding read of 64 bytes. -/
def linked : State :=
  let s := withMsg (State.reset.setUcie 0 ⟨2, 32, 64, 0, 0⟩) ⟨hdr5 24 1 77, .close⟩
  let s := s.setStation 5 { s.station 5 with intake := [], reads := [(9, ⟨0x8000, 64, 0, .vector 1⟩)] }
  { s with stn := { s.stn with inService := true } }

theorem witness_StationTransfers :
    let t (kind len tag : Nat) : Transfer := xfer kind len tag 0
    let x (s : State) (t : Transfer) : Station := (s.arrived t.station t.ucie).station t.station
    ((t 1 24 0).ucie < 8 ∧ (t 1 24 0).station < 256 ∧ linked.ucieUp 0 = true ∧ (∀ k ∈ [1, 4, 5, 6], transferOk (t k 64 0) = true)) ∧
    ((linked.arrived 5 0).stn.inService = true ∧ (x linked (t 1 24 0)).state = 1 ∧ ceilDiv 64 64 ≤ (x linked (t 1 64 0)).credits ∧
      (x linked (t 1 64 0)).entryRoom ≠ 0 ∧ (x (linked.setStation 5 { linked.station 5 with credits := 0 }) (t 1 64 0)).credits < ceilDiv 64 64) ∧
    (mget (x linked (t 4 64 9)).reads 9 = some ⟨0x8000, 64, 0, .vector 1⟩ ∧ (linked.arrived 5 0).readLate 5 ⟨0x8000, 64, 0, .vector 1⟩ = false ∧
      (List.replicate 64 (0 : Byte)).length = 64) ∧
    (let s := atTick linked 2501
     mget (s.station 5).reads 9 = some ⟨0x8000, 64, 0, .vector 1⟩ ∧ s.readLate 5 ⟨0x8000, 64, 0, .vector 1⟩ = true) ∧
    (let s (k : Nat) := atTick linked k
     (s 250).deep = false ∧ ((s 250).station 5).state = 1 ∧ ((s 250).station 5).hbLast + ((s 250).station 5).hbTicks ≤ (s 250).tick ∧
      (s 249).tick < ((s 249).station 5).hbLast + ((s 249).station 5).hbTicks ∧
      ((s 751).station 5).lastArrival + 3 * ((s 751).station 5).hbTicks < (s 751).tick) ∧
    (let s := linked.setStation 5 { linked.station 5 with out := [⟨0x10000, .flush, true⟩] }
     (s.station 5).out = [⟨0x10000, .flush, true⟩]) := by decide +kernel

/-- Station 5 with one message at a stage. -/
def staged (s : State) (st : IntakeStage) : State :=
  let m : Msg := ⟨hdr5 56 1 77, .append (input 0)⟩
  (withMsg s m).setStation 5 { (withMsg s m).station 5 with intake := [{ entry m with stage := st }] }

/-- That message in intake. -/
def stagedEntry (st : IntakeStage) : Intake := { entry ⟨hdr5 56 1 77, .append (input 0)⟩ with stage := st }

theorem witness_DeferredMessages :
    let dry := ((withSess id).setObj Ob.stn_step_rate 5 0).setObj Ob.stn_step_burst 5 0
    (((staged (withSess id) .fetching).station 5).find 1 = some (stagedEntry .fetching) ∧
      (∀ p ∈ ((staged (withSess id) .fetching).station 5).reads, ∀ off, p.2.use ≠ .input 1 off)) ∧
    (((staged (withSess id) .deferred).station 5).find 1 = some (stagedEntry .deferred) ∧
      (staged (withSess id) .deferred).bucketsPass 5 (stagedEntry .deferred) = true ∧
      (staged (withSess id) .deferred).windowSays 5 (stagedEntry .deferred) = none) ∧
    (((staged dry .deferred).station 5).find 1 = some (stagedEntry .deferred) ∧
      (staged dry .deferred).bucketsPass 5 (stagedEntry .deferred) = false ∧
      (stagedEntry .deferred).tick + (staged dry .deferred).obj Ob.stn_defer_ticks 5 ≤ 250000 ∧
      249999 < (stagedEntry .deferred).tick + (staged dry .deferred).obj Ob.stn_defer_ticks 5) ∧
    (let s := atTick (((staged (withSess id) .deferred).setObj Ob.witness_state 0 3).setObj Ob.witness_loss_action 0 1) 250000
     (s.station 5).find 1 = some (stagedEntry .deferred) ∧ s.bucketsPass 5 (stagedEntry .deferred) = true ∧
      (stagedEntry .deferred).tick + s.obj Ob.stn_defer_ticks 5 ≤ s.tick ∧ (s.recordHalf 5 (stagedEntry .deferred)).isSome = true ∧ s.intakeHeld = true ∧
      (atTick (staged (withSess id) .deferred) 250000).intakeHeld = false) ∧
    (let s := State.reset.setPwr { State.reset.pwr with strapped := true }
     s.pwr.strapped = true ∧ s.pwr.held = false ∧ s.powerState ≠ 4 ∧ s.stn.inService = false ∧
      (({ s with stn := { s.stn with inService := true, heldHellos := [] } } : State).restoreModels).pwr.again = none) := by
  refine ⟨⟨?_, ?_⟩, ?_, ?_, ?_, ?_⟩
  · decide +kernel
  · intro p hp
    have : ((staged (withSess id) .fetching).station 5).reads = [] := by decide +kernel
    rw [this] at hp; cases hp
  all_goals decide +kernel

/-- A CLOSE record of half 0 at a sequence, in a tile, at a stage. -/
def rec0 (n tile stage : Nat) : Rec := ⟨bookPos 0 n, false, 3, 5, 0, 0, .close 1 0 0, tile, stage⟩

/-- Half 0's book with these records, its head tile and its last batch close. -/
def booked (l : List Rec) (head last : Nat) : State := State.reset.setBook 0 { State.reset.book 0 with recs := l, next := 9, headTile := head, lastClose := last }

theorem witness_Durability :
    (let s := booked [rec0 1 1 0] 1 0
     (s.book 0).recs.any (fun r => r.stage == 0) = true ∧ (atTick s 4).fb.book0.lastClose + 4 ≤ (atTick s 4).tick ∧
      (∀ r ∈ s.fb.book0.recs, ¬ (r.stage = 0 ∧ r.tile < s.fb.book0.headTile)) ∧ ¬ (s.fb.book0.lastClose + 4 ≤ (atTick s 3).tick)) ∧
    (let s := booked [rec0 1 1 0] 2 0
     (rec0 1 1 0).stage = 0 ∧ (rec0 1 1 0).tile < s.fb.book0.headTile) ∧
    (let s (n : Nat) := (booked [rec0 1 1 n] 1 0).setBook 0 { (booked [rec0 1 1 n] 1 0).book 0 with waits := [⟨bookPos 0 1, .acceptance 5 1⟩] }
     (s 2).durable (bookPos 0 1) = true ∧ ((s 2).book 0).waits.any (fun w => w.pos == bookPos 0 1 && w.effect.isAccept) = true ∧
      (s 1).durable (bookPos 0 1) = false) ∧
    (let s := booked [rec0 1 1 2, rec0 2 2 2] 2 0
     let old := ((s.book 0).recs.map (fun r => r.tile)).foldl min (rec0 1 1 2).tile
     old < (s.book 0).headTile ∧ (s.book 0).recs.all (fun r => r.tile != old || r.stage == 2) = true) := by decide +kernel

theorem witness_WitnessStates :
    let s (v t : Nat) : State :=
      let s := State.reset.setObj Ob.witness_state 0 v
      atTick (s.setWitness { s.fb.witness with sentAt := some 0 }) t
    let late := (s 2 0).obj Ob.witness_timeout 0 + 1
    (s 2 0).obj Ob.witness_state 0 = 2 ∧ (s 2 late).fb.witness.sentAt = some 0 ∧ 0 + (s 2 late).obj Ob.witness_timeout 0 < (s 2 late).tick ∧
    (s 3 25000).obj Ob.witness_state 0 = 3 ∧ (s 3 25000).fb.witness.lastProbe + 25000 ≤ (s 3 25000).tick ∧
    (s 3 24999).tick < (s 3 24999).fb.witness.lastProbe + 25000 ∧ (s 1 0).obj Ob.witness_state 0 = 1 ∧ (s 4 0).obj Ob.witness_state 0 = 4 ∧
    (s 4 0).witnessLeased = true ∧ ((s 1 0).setObj Ob.witness_mode 0 1).witnessLeased = false := by
  decide +kernel

theorem witness_FailedParts :
    let w : Writer := .station 0 1
    let s := State.reset
    let f := s.setObjAt Ob.t2_channel_state 0 23 1
    (s.accepts w Ob.t2_channel_command 0 (channelCmd 23 1) ∧ s.t2State 23 ≠ 1 ∧ (s.channel 23).retrainsFailed < 2 ∧
      2 ≤ ((s.setChannel 23 ⟨[], 2, false, none⟩).channel 23).retrainsFailed) ∧
    (f.accepts w Ob.t2_channel_command 0 (channelCmd 23 2) ∧ f.t2State 23 = 1) ∧
    (let r := f.setChannel 23 ⟨[], 0, true, none⟩
     r.accepts w Ob.t2_channel_command 0 (channelCmd 23 3) ∧ r.t2State 23 = 1 ∧ (r.channel 23).replaced = true ∧
      (∀ j, j < 12 → 23 / 12 * 12 + j ≠ 23 → r.t2State (23 / 12 * 12 + j) = 0) ∧ r.obj Ob.t2_rebuild_pos 0 = 2 ^ 64 - 1) ∧
    (s.setObjAt Ob.t2_channel_state 0 0 2).t2State 0 = 2 ∧ s.objAt Ob.t1_stack_state 0 7 ≠ 1 := by
  unfold State.accepts
  decide +kernel

/-- An error entry of source 7. -/
def err7 : ErrEntry := ⟨0, 7, 1, false, true, 9, 1, 0, 0, []⟩

theorem witness_ErrorRecorder :
    let q (ring spill : Nat) : State := State.reset.setErr { State.reset.fb.err with
      queue1 := [err7], ring := List.replicate ring err7, spill := List.replicate spill err7 }
    (nextReport (q 0 0).tick (q 0 0).fb.err.queue1 = some err7) ∧ 4096 ≤ (q 4096 0).fb.err.ring.length ∧ (q 3071 0).fb.err.ring.length < 3072 ∧
    (3072 ≤ (q 3072 0).fb.err.ring.length ∧ (q 3072 0).fb.err.ring.length < 4096 ∧
      (q 3072 0).fb.err.spill.length + 64 ≤ (q 3072 0).obj Ob.err_spill_tiles 0 * 64) ∧
    (let s := (q 3072 64).setObj Ob.err_spill_tiles 0 1
     s.fb.err.ring.length < 4096 ∧ s.obj Ob.err_spill_tiles 0 * 64 < s.fb.err.spill.length + 64) ∧
    (let s (t : Nat) : State := atTick (State.reset.setErr { State.reset.fb.err with sources := [(7, ⟨none, none, 1, some ⟨1, 9, 0, 1, 0⟩⟩)] }) t
     ((s 0).errSource 7).slot = some ⟨1, 9, 0, 1, 0⟩ ∧ 0 + (s 1000).obj Ob.err_coalesce_ticks 0 ≤ (s 1000).tick ∧
      (s 999).tick < 0 + (s 999).obj Ob.err_coalesce_ticks 0) ∧
    State.reset.accepts (.station 0 1) Ob.err_clear 0 (toLE 2 0xFFFF) := by
  unfold State.accepts
  decide +kernel

/-- A descriptor of one tile from T1 slot 1 to T1 slot 2 of half 0. -/
def desc0 : MoveDesc := ⟨1, false, false, false, false, false, false, 1, 0, t1Addr 0 0 0 1, t1Addr 0 0 0 2, 0, 0, 0, 0, 0, 0, 0xFFFF, 0xFFFF, 7, 0⟩

/-- A block operation that moves session 3's blocks to a tier. -/
def block0 (tier : Nat) : MoveDesc := { desc0 with count := 0, src := 0, dst := 2 ^ 61 * tier, owner := 3 }

/-- A half's queue with these descriptors. -/
def queued (s : State) (half q : Nat) (l : List QDesc) : State := s.setQueue half q l

/-- That session with one key/value tile, at this place. -/
def withBlock (at' : Nat) : State := withSess fun x => { x with pt := { x.pt with blocks := 1, entries := [(ptKey 0 0 0 0, ⟨at', noTile⟩)] } }

theorem witness_MoveRows :
    let go (s : State) (op : Nat) (d : MoveDesc) : Bool :=
      let d' := { d with op := op }
      let keys := if op == 5 || op == 6 then s.blockOpKeys d' else []
      let u := s.setQueue 0 63 [⟨d', if op == 5 || op == 6 then keys.length else d.count, keys, 0, 0, 0, mvOk, s.tick, s.tick, none⟩]
      s.descOk 0 d' && decide ((s.queue 0 63).length < 256) && startable (u.queue 0 63) true == some 0 && u.granted 0 63
        && u.localEnds d'
    let s := withBlock (t1Addr 0 0 0 5)
    go s 1 desc0 ∧ go s 2 desc0 ∧ go s 3 { desc0 with src := 0 } ∧ go s 4 desc0 ∧ go s 5 (block0 2) ∧ go (withBlock (t2Addr 0 0 5)) 6 (block0 1) ∧
    s.descOk 1 { desc0 with op := 1 } = false ∧ s.descOk 0 { desc0 with count := 4097 } = false ∧ s.descOk 0 { desc0 with count := 64 } = true ∧
    s.localEnds { desc0 with src := t4Addr 3 0 0 } = false ∧
    256 ≤ ((queued s 0 63 (List.replicate 256 ⟨desc0, 1, [], 0, 0, 0, mvOk, 0, 0, none⟩)).queue 0 63).length := by decide +kernel

/-- A traverse with one class 0 descriptor and one model with an embedding gather. -/
def moving : State :=
  let e : EmbedBind := ⟨0, 3, 1, t0Addr 0 0 0, 0, 0, 0, 1⟩
  let b : ModelBind := ⟨0, 1, 1, 0, 1, 0, [], some e, none⟩
  let img : TrvImage := { imgOf 1 0 with moves := [⟨0, 15, desc0⟩], binds := [b] }
  let s := State.reset.setTrvSlot 0 ⟨some img, none, false, []⟩
  { s with trv := { s.trv with active := some 0 } }

theorem witness_MoveEngines :
    let x (started landed : Nat) : QDesc := ⟨desc0, 1, [], started, landed, landed, mvOk, 0, 0, none⟩
    let s (started landed : Nat) : State := queued State.reset 0 63 [x started landed]
    (s 0 0).topClass 0 = some 3 ∧
    (((s 1 0).queue 0 63).findIdx? (fun d => decide (d.landed < d.started)) = some 0 ∧ ((s 1 0).queue 0 63)[0]? = some (x 1 0) ∧
      tierOf ((s 1 0).sourceOf (x 1 0) 0) ≠ 4) ∧
    ((s 1 1).queue 0 63 = [x 1 1] ∧ (x 1 1).total = (x 1 1).landed ∧ (x 1 0).total ≠ (x 1 0).landed) ∧
    (((s 0 0).queue 0 63).findIdx? (fun d => d.desc.tag == 7 && decide (d.landed < d.total)) = some 0) ∧
    (let r : CkRun := ⟨none, 1, 4, false, ⟨State.reset.manifest 1 1 4, []⟩, false, false⟩
     63 / 16 = 3 ∧ ({ State.reset with ck := { State.reset.ck with run := some r } } : State).ck.run.isSome = true) ∧
    (let d : QDesc := ⟨{ desc0 with src := t3Addr 5 0 0, dst := t1Addr 0 0 0 2 }, 1, [], 1, 0, 0, mvOk, 0, 0, none⟩
     let s := atTick (queued State.reset 0 20 [d]) 250001
     s.queue 0 20 = [d] ∧ d.desc.op = 1 ∧ s.ck.run = none ∧ d.started ≠ 0 ∧ d.landed < d.total ∧
      (∀ k, k < d.total → d.landed ≤ k → tierOf (addrPlus d.desc.src k) = 3) ∧ tierOf d.desc.dst ≠ 4 ∧ d.startTick + s.obj Ob.t3_timeout 0 < s.tick) ∧
    (moving.runningHdr = some (hdrOf 1 0) ∧ 0 ∉ moving.trv.issued ∧ moving.allAsleep = false ∧ moving.activeImage.isSome = true ∧
      (moving.activeImage.bind (fun i => i.moves[0]?)).isSome = true ∧ (0 : Nat) ≤ moving.schedTick ∧ (15 : Nat) < 16 ∧
      (moving.activeImage.bind (fun i => i.moves[1]?)).isNone = true ∧
      (moving.activeImage.bind (fun i => (embeds i)[1 - i.moves.length]?)).isSome = true) := by decide +kernel

theorem witness_SessionTimers :
    (let s := withSess fun x => { x with tilesT1 := 1 }
     let x : Session := { sess0 with tilesT1 := 1 }
     let due := x.lastActive + s.obj Ob.pk_open_t1 x.parkClass
     s.bySid 3 = some x ∧ s.mayPark x = true ∧ x.state = .opened ∧ 0 < x.tilesT1 ∧
      ({ s with frameStart := due } : State).obj Ob.pk_open_t1 x.parkClass + x.lastActive ≤ ({ s with frameStart := due } : State).frameStart ∧
      s.frameStart < x.lastActive + s.obj Ob.pk_open_t1 x.parkClass) ∧
    (let x : Session := { sess0 with tilesT1 := 1, state := .waiting }
     let s := { withSess (fun _ => x) with frameStart := 2500000 }
     s.bySid 3 = some x ∧ s.mayPark x = true ∧ x.stateSince + s.obj Ob.pk_wait_t1 x.parkClass ≤ s.frameStart) ∧
    (let x : Session := { sess0 with state := .parkedWarm }
     let s := ({ withSess (fun _ => x) with frameStart := 100 } : State).setObj Ob.pk_t2_dwell 0 100
     s.bySid 3 = some x ∧ s.mayPark x = true ∧ s.obj Ob.pk_t2_dwell x.parkClass ≠ 0 ∧ x.warmSince + s.obj Ob.pk_t2_dwell x.parkClass ≤ s.frameStart) ∧
    (let x : Session := { sess0 with state := .waiting, waitOpen := true, waitDeadline := 50 }
     let s := { atTick (withSess (fun _ => x)) 51 with stn := { (withSess (fun _ => x)).stn with inService := true } }
     s.bySid 3 = some x ∧ x.waitOpen = true ∧ x.waitDeadline ≠ 0 ∧ x.waitDeadline < s.tick ∧ s.stn.inService = true ∧ (atTick s 50).tick ≤ x.waitDeadline) ∧
    (let b : Binding := ⟨0, 1, 0, 9, none⟩
     let x : Session := { sess0 with state := .queued, bindings := [b] }
     let s := withSess (fun _ => x)
     s.bySid 3 = some x ∧ x.bindings[0]? = some b ∧ x.state = .queued ∧ b.flags % 4 = 1 ∧ b.since ≠ some 0 ∧ s.gateMet x b = false ∧
      s.syncName x.station b.name = none) ∧
    (let x : Session := { sess0 with state := .reviving }
     let s := withSess (fun _ => x)
     s.bySid 3 = some x ∧ s.sess x.index = some x ∧ x.allIn s.kvTier = true ∧ s.prefixReady x = true ∧ x.rebuildMethod ≠ 2 ∧ x.hasWork = false ∧
      { x with rebuild := some (0, 0) }.allIn s.kvTier = false) ∧
    (let s := State.reset.setObj Ob.ck_stage_tiles 0 (128 * Config.t1SlotsPerChannel)
     s.t1Free 1 * 100 < 128 * Config.t1SlotsPerChannel * s.obj Ob.t1_low_water 0 ∧
      ¬ State.reset.t1Free 1 * 100 < 128 * Config.t1SlotsPerChannel * State.reset.obj Ob.t1_low_water 0 ∧
      State.reset.t2Below 1 (State.reset.obj Ob.t2_low_water 0) = false) ∧
    (let lent : Lease := ⟨false, 1, 0, 11 * Config.t2RowsPerChannel, none, false⟩
     let s : State := { State.reset with fab := { State.reset.fab with leases := [(65536 + 8, lent)] } }
     s.t2Below 0 (s.obj Ob.t2_low_water 0) = true ∧ s.backgroundOpen 0 = true) ∧
    (hashBuckets * 4 / 8 < ((State.reset.setHash 1 { State.reset.hash 1 with tombs := 2097153 }).hash 1).tombs ∧
      (State.reset.hash 1).tombs ≤ hashBuckets * 4 / 8) := by decide +kernel

/-- Epoch 2 of a snapshot of half 0, with one key/value tile of an older epoch. -/
def snapping : State :=
  let s := State.reset.setTile (t1Addr 0 0 0 5) { freeTile with kind := 1, owner := 3, cowEpoch := 1 }
  s.setEng 0 { s.eng 0 with snapshot := some 2 }

/-- One dictionary, LOADED for model 0. -/
def withDict (s : State) : State :=
  let d : DictImage := ⟨0, 256, 0, 0, 0, 0, 1, 1, List.replicate 256 0, [], []⟩
  let s : State := { s with text := { s.text with dicts := [(0, d)] } }
  (s.setObj Ob.dict_state 0 2).setObj Ob.dict_models 0 1

theorem witness_SnapshotsAndText :
    ((snapping.eng 0).snapshot.isSome = true ∧ snapping.backgroundOpen 0 = true ∧ snapping.nextSnap 0 = some ⟨false, t1Addr 0 0 0 5⟩ ∧
      (snapping.eng 0).snapTiles.length + snapping.obj Ob.ck_stage_reserve 0 < snapping.obj Ob.ck_stage_tiles 0 ∧
      (let s := snapping.setObj Ob.ck_stage_tiles 0 0
       s.nextSnap 0 = some ⟨false, t1Addr 0 0 0 5⟩ ∧ s.obj Ob.ck_stage_tiles 0 ≤ (s.eng 0).snapTiles.length + s.obj Ob.ck_stage_reserve 0) ∧
      (State.reset.setEng 0 { State.reset.eng 0 with snapshot := some 2 }).nextSnap 0 = none) ∧
    (let s := snapping.setEng 0 { snapping.eng 0 with sysPending := [(t2Addr 0 0 0, freeTile)] }
     s.sysHalf (t2Addr 0 0 0) = some 0 ∧ s.sysHalf (t1Addr 0 0 0 5) = none) ∧
    ((State.reset.eng 0).snapshot = none ∧ snapping.pendingSnap (t1Addr 0 0 0 5) = true ∧ State.reset.pendingSnap (t1Addr 0 0 0 5) = false) ∧
    (let r : InputRec := ⟨0, true, false, false, false, 9, List.replicate 8 65, 0, 0, []⟩
     let x : Session := { sess0 with state := .opened, inputs := [r] }
     let s := (withDict (withSess fun _ => x)).setReady 0 (some 0)
     s.bySid 3 = some x ∧ x.inputs = [r] ∧ (s.dictFor x.model).isSome = true ∧ r.pending = false ∧ x.prefixDue = false ∧ x.state.live = true ∧
      (s.textClusters x.half).all s.asleep = false ∧ s.textOpen x.half = true ∧ s.textReady x.half = true) ∧
    (let s := running 1 0
     let h := hdrOf 1 0
     State.reset.runningHdr = none ∧ s.runningHdr = some h ∧ hdrUsesHalf h 0 = true ∧ s.tick < s.runEnd h ∧
      (s.runEnd h ≤ (atTick s (s.runEnd h)).tick ∧ (atTick s (s.runEnd h)).runEnd h + 124 ≤ (atTick s (s.runEnd h)).frameEnd) ∧
      (let short := s.setObj Ob.frame_len_now 0 1900
       short.runningHdr = some h ∧ hdrUsesHalf h 1 = true ∧ (atTick short 1800).runEnd h ≤ 1800 ∧ (atTick short 1800).frameEnd < (atTick short 1800).runEnd h + 124) ∧
      hdrUsesHalf { h with clusterMask := 1 } 1 = false) := by decide +kernel

/-- A rule that matches keys beginning with byte 1, of identity 7. -/
def rule7 : Octets := [1] ++ List.replicate 15 0 ++ [255] ++ List.replicate 15 0 ++ toLE 4 (7 * 65536) ++ toLE 4 0

/-- State with a rule of identity 7 in half 0. -/
def ruled : State :=
  let c := State.reset.cam 0
  State.reset.setCam 0 { c with entries := [(0, ⟨3 * 2 ^ 120, 255 * 2 ^ 120, 7 * 65536, 0⟩)] }

theorem witness_ShapingRows :
    let w : Writer := .station 0 1
    let e : CamEntry := ⟨3 * 2 ^ 120 + ofLE (slice rule7 0 15), 255 * 2 ^ 120 + ofLE (slice rule7 16 15), ofLE (slice rule7 32 4), ofLE (slice rule7 36 4)⟩
    (State.reset.accepts w Ob.ar_insert 0 rule7 ∧ ruleRange rule7 = true ∧ State.reset.ruleLive (ofLE (slice rule7 32 4) / 65536) = false ∧
      (State.reset.ruleEntries 0).length < State.reset.regionLimit Ob.cam_rule_entries (State.reset.cam 0).regions.rule ∧
      (State.reset.camOrdered 0 e).any (fun a => decide ((a.ruleEntries 1).length < a.regionLimit Ob.cam_rule_entries (a.cam 1).regions.rule)) = true ∧
      (State.reset.camOrdered 0 e).isSome = true ∧ ((State.reset.camOrdered 0 e).bind (fun a => a.camOrdered 1 e)).isSome = true) ∧
    (ruled.accepts w Ob.ar_remove 0 (toLE 2 7) ∧ ruled.ruleLive (7 % 65536) = true) ∧
    (let g := toLE 4 1250000 ++ toLE 4 0 ++ toLE 6 (2 ^ 48 - 1) ++ toLE 2 0
     let s := (State.reset.setStr Ob.gl_entries 0 g).setObj Ob.gl_takeover 0 4
     s.accepts w Ob.gl_command 0 [1] ∧ s.frame + 4 ≤ s.obj Ob.gl_takeover 0 ∧ s.str Ob.gl_entries 0 ≠ [] ∧ gateValid 65 (s.str Ob.gl_entries 0) = true) ∧
    (let s := State.reset.setGate 0 { State.reset.gate 0 with active := [⟨100, 1⟩, ⟨50, 2⟩], index := 0 }
     let used := (((s.gate 0).active.take ((s.gate 0).index + 1)).map (fun e => e.ticks)).foldl (· + ·) 0
     used = 100 ∧ s.frameStart + used ≤ (atTick s 100).tick ∧ (atTick s 99).tick < s.frameStart + used) := by
  unfold State.accepts; decide +kernel

/-- Name 9 of station 5 stands for an object of half 0. -/
def named (o : SyncObj) : State :=
  let s := State.reset.setSync 24 o
  { s with sync := { s.sync with names := [(nameKey 5 9, 24)] } }

theorem witness_StationSync :
    let w : Writer := .station 5 1
    let s := State.reset
    ((∀ t ∈ [1, 2, 3], s.accepts w Ob.stn_sync_define 5 (defineValue 9 t 0 1)) ∧ s.accepts w Ob.stn_sync_define 5 (defineValue 1023 3 2 32768) ∧
      s.syncName 5 9 = none ∧ s.namesOf 5 < s.obj Ob.stn_sync_max 5 ∧ (s.freePool 0).head? = some 24 ∧ (s.freePool 1).head?.isSome = true) ∧
    (let u := named (freeObj .counter 0 0)
     u.accepts w Ob.stn_sync_define 5 (defineValue 9 0 0 0) ∧ u.syncName 5 9 = some 24 ∧ u.nameBound 5 9 = false ∧
      (let x : State := u.setSess { sess0 with bindings := [⟨0, 1, 0, 9, none⟩] }
       x.accepts w Ob.stn_sync_define 5 (defineValue 9 0 0 0) ∧ x.nameBound 5 9 = true)) ∧
    (∀ i t p code op arg, (i, t, p, code, op, arg) ∈ [((.stnSyncAdd w 5 9 3 : Instr), SyncType.counter, 0, 1, SyncOp.add, 3),
        (.stnSyncSet w 5 9, .event, 0, 2, .set, 0), (.stnSyncClear w 5 9, .event, 0, 3, .clear, 0), (.stnSyncArrive w 5 9 1, .closure, 1, 4, .arrive, 1)] →
      (named (freeObj t 0 p)).accepts w Ob.stn_sync_op 5 (toLE 2 9 ++ toLE 1 code ++ toLE 1 0 ++ toLE 4 arg) ∧
        ((named (freeObj t 0 p)).syncStationOp 5 9 op arg).2 = St.OK) ∧
    (let u := named (freeObj .counter 0 0)
     ({ u with sync := { u.sync with updates := [⟨0, 24, .add, 3⟩] } } : State).sync.updates.filter (fun q => decide (q.tick ≤ u.tick)) ≠ []) := by
  unfold State.accepts
  refine ⟨by decide +kernel, by decide +kernel, ?_, by decide +kernel⟩
  intro i t p code op arg h
  simp only [List.mem_cons, Prod.mk.injEq, List.not_mem_nil, or_false] at h
  obtain ⟨-, rfl, rfl, rfl, rfl, rfl⟩ | ⟨-, rfl, rfl, rfl, rfl, rfl⟩ | ⟨-, rfl, rfl, rfl, rfl, rfl⟩ | ⟨-, rfl, rfl, rfl, rfl, rfl⟩ := h <;>
    decide +kernel

/-- The CRC register has 32 bits. -/
theorem crcBit_lt (c : Nat) (h : c < 2 ^ 32) : crcBit c < 2 ^ 32 := by
  unfold crcBit
  split
  · exact Nat.xor_lt_two_pow (by omega) (by decide)
  · omega

theorem crc32c_lt (o : Octets) : crc32c 0xFFFFFFFF o < 2 ^ 32 := by
  have h : ∀ (o : Octets) c, c < 2 ^ 32 → o.foldl crcByte c < 2 ^ 32 := by
    intro o
    induction o with
    | nil => exact fun c h => h
    | cons b r ih =>
      refine fun c h => ih _ ?_
      have hx : Nat.xor c b.toNat < 2 ^ 32 := Nat.xor_lt_two_pow h (by have := b.isLt; omega)
      unfold crcByte
      repeat (first | exact hx | apply crcBit_lt)
  exact Nat.xor_lt_two_pow (h o _ (by decide)) (by decide)

/-- The check of a tile's octets reads its payload, the sidecar before the CRC field, that field, and the scales. -/
theorem tileCrcOk_parts (p q c z : Octets) (hp : p.length = 4096) (hq : q.length = 0x3C) (hc : c.length = 4) (hz : z.length = 192) :
    tileCrcOk (p ++ (q ++ (c ++ z))) = (crc32c 0xFFFFFFFF (p ++ q ++ z) == ofLE c) := by
  have h1 : (p ++ (q ++ (c ++ z))).take 4096 = p := by rw [← hp, List.take_left]
  have d : (p ++ (q ++ (c ++ z))).drop 4096 = q ++ (c ++ z) := by rw [← hp, List.drop_left]
  have e : (p ++ (q ++ (c ++ z))).drop 0x103C = c ++ z := by rw [show 0x103C = 4096 + 0x3C from rfl, ← List.drop_drop, d, ← hq, List.drop_left]
  have h2 : slice (p ++ (q ++ (c ++ z))) 4096 0x3C = q := by rw [slice, d, ← hq, List.take_left]
  have h3 : (p ++ (q ++ (c ++ z))).drop 0x1040 = z := by rw [show 0x1040 = 0x103C + 4 from rfl, ← List.drop_drop, e, ← hc, List.drop_left]
  have h4 : slice (p ++ (q ++ (c ++ z))) 0x103C 4 = c := by rw [slice, e, ← hc, List.take_left]
  have h6 : (p ++ (q ++ (c ++ z))).length = 4352 := by simp [hp, hq, hc, hz]
  rw [tileCrcOk, h1, h2, h3, h4, h6]
  rfl

/-- Octets of a tile that are 0 but for its CRC field. -/
def crcTile (c : Nat) : Octets := List.replicate 4096 0 ++ (List.replicate 0x3C 0 ++ (toLE 4 c ++ List.replicate 192 0))

/-- What that field has to hold. -/
def crcZero : Nat := crc32c 0xFFFFFFFF (List.replicate 4096 0 ++ List.replicate 0x3C 0 ++ List.replicate 192 0)

theorem tileCrcOk_crcTile (c : Nat) (h : c < 2 ^ 32) : tileCrcOk (crcTile c) = (crcZero == c) := by
  have h5 : ofLE (toLE 4 c) = c := by
    simp only [toLE, ofLE, BitVec.toNat_ofNat]; omega
  rw [crcTile, tileCrcOk_parts _ _ _ _ List.length_replicate List.length_replicate rfl List.length_replicate, h5]
  rfl

/-- Its format is of major 0, which no device reads (R25). -/
theorem crcTile_format (c : Nat) : (parseTile (crcTile c)).formatOk = false := by
  have h : ∀ i, i < 2 → bget (bputs [] 0 (crcTile c)) (4096 + i) = 0 := by
    intro i hi
    have hz : (crcTile c)[4096 + i]? = some 0 := by
      rw [crcTile, List.getElem?_append_right (by rw [List.length_replicate]; omega), List.length_replicate, Nat.add_sub_cancel_left,
        List.getElem?_append_left (by rw [List.length_replicate]; omega), List.getElem?_replicate, if_pos (by omega)]
    rw [bget_bputs]
    split
    · rw [Nat.sub_zero, List.getD_eq_getElem?_getD, hz]; rfl
    · rfl
  have m : (parseTile (crcTile c)).fmtMajor =
      (bget (bputs [] 0 (crcTile c)) 4096).toNat + 256 * ((bget (bputs [] 0 (crcTile c)) (4096 + 1)).toNat + 256 * 0) := rfl
  rw [Tile.formatOk, m, h 1 (by omega), show bget (bputs [] 0 (crcTile c)) 4096 = 0 from h 0 (by omega)]
  rfl

theorem records_crcTile (c : Nat) : records 4352 (crcTile c) = [crcTile c] := by
  have h : (crcTile c).length = 4352 := by simp only [crcTile, List.length_append, List.length_replicate]; rfl
  rw [records, h]
  show [slice (crcTile c) 0 4352] = _
  rw [slice, List.drop_zero, List.take_of_length_le (by omega)]

theorem witness_ModelSlots :
    let w : Writer := .station 0 1
    let d := (withDict State.reset).setObj Ob.mdl_draft_of 0 0xFF
    (d.accepts w Ob.mdl_command 0 [1] ∧ d.modelInUse 0 = false ∧ d.obj Ob.mdl_state 0 ≠ 1 ∧ d.modelShapeOk 0 256 = true ∧ d.sliceChannelsOk 0 = true) ∧
    (let s := ((State.reset.setModelSlot 0 ⟨[], some w, 0⟩).setObj Ob.mdl_state 0 1).setStr Ob.mdl_digest 0 (Config.shake256 [] 32)
     s.obj Ob.mdl_state 0 = 1 ∧ (s.modelSlot 0).loadWriter.isSome = true ∧ records 4352 [] = [] ∧ ([] : Octets).length = 4352 * ofLE (slice (s.str Ob.mdl_source 0) 8 4) ∧
      records 4352 [65] = [] ∧ ([65] : Octets).length ≠ 4352 * ofLE (slice (s.str Ob.mdl_source 0) 8 4) ∧ Config.shake256 [] 32 = s.str Ob.mdl_digest 0) ∧
    (tileCrcOk (crcTile crcZero) = true ∧ (parseTile (crcTile crcZero)).formatOk = false ∧ records 4352 (crcTile crcZero) = [] ++ crcTile crcZero :: []) ∧
    (tileCrcOk (crcTile ((crcZero + 1) % 2 ^ 32)) = false ∧
      records 4352 (crcTile ((crcZero + 1) % 2 ^ 32)) = [] ++ crcTile ((crcZero + 1) % 2 ^ 32) :: []) ∧
    (d.accepts w Ob.mdl_command 0 [2] ∧ (running 1 0).modelInUse 0 = true) := by
  unfold State.accepts
  have src (u : State) (v : Octets) : (u.setStr Ob.mdl_digest 0 v).str Ob.mdl_source 0 = u.str Ob.mdl_source 0 :=
    State.str_setStr_ne _ _ _ _ _ _ (by decide)
  have lt : crcZero < 2 ^ 32 := crc32c_lt _
  refine ⟨by decide +kernel, ⟨by decide +kernel, by decide +kernel, rfl, ?_, by decide, ?_, (State.str_setStr _ _ _ _).symm⟩,
    ⟨?_, crcTile_format _, records_crcTile _⟩, ⟨?_, records_crcTile _⟩, by decide +kernel⟩
  · rw [src]; decide +kernel
  · rw [src]; decide +kernel
  · rw [tileCrcOk_crcTile _ lt]; exact beq_self_eq_true _
  · rw [tileCrcOk_crcTile _ (Nat.mod_lt _ (by decide))]; exact beq_eq_false_iff_ne.2 (by omega)

/-- A grammar program of one state over an empty vocabulary, its CRC in its last header octets. -/
def gramImg (crc : Nat) : Octets :=
  toLE 4 0x4D524752 ++ toLE 4 1 ++ toLE 8 0 ++ toLE 4 0 ++ [1, 0, 0, 1] ++ toLE 4 0 ++ toLE 4 1 ++ toLE 4 0 ++ toLE 4 0 ++ toLE 8 128 ++ toLE 8 144 ++
    toLE 8 144 ++ toLE 8 0 ++ List.replicate 52 0 ++ toLE 4 crc ++ List.replicate 16 0

/-- Every case of the slots' loads and unloads but one: a dictionary image that keeps R251 to R254 has at least 512 tokens, and the kernel is not made
to evaluate one here. -/
theorem witness_TextSlots :
    let w : Writer := .station 0 1
    let s := State.reset
    let busy := (s.setObj Ob.mdl_state 3 2).setObj Ob.dict_models 7 8
    let gbusy := s.setSess { sess0 with grammarId := 5 }
    (s.accepts w Ob.dict_command 0 [1] ∧ s.dictBusy 0 0 = false ∧ s.dictCheck 0 [] ≠ St.OK ∧ s.accepts w Ob.dict_command 7 [2] ∧ s.dictBusy 7 0 = false) ∧
    (busy.dictBusy 7 0 = true ∧ busy.accepts w Ob.dict_command 7 [1] ∧ busy.accepts w Ob.dict_command 7 [2]) ∧
    (s.accepts w Ob.gp_command 0 [1] ∧ s.grammarBusy 0 = false ∧ s.grammarCheck 0 [] ≠ St.OK ∧ s.accepts w Ob.gp_command 0 [2]) ∧
    (gbusy.accepts w Ob.gp_command 4 [1] ∧ gbusy.accepts w Ob.gp_command 4 [2] ∧ gbusy.grammarBusy 4 = true) := by
  unfold State.accepts
  decide +kernel

/-- One dictionary with these fields, LOADED for model 0. -/
def gramDict (e : DictImage) : State := let s := withDict State.reset; { s with text := { s.text with dicts := [(0, e)] } }

/-- A grammar program that checks out, beside a dictionary with the same digest and vocabulary. -/
theorem witness_TextSlots_grammar :
    let w : Writer := .station 0 1
    let o := gramImg 717671367
    let e : DictImage := ⟨0, 0, 0, 0, 0, 0, 1, 1, [], [], []⟩
    let s : State := (gramDict e).setStr Ob.gp_digest 0 (Config.shake256 o 32)
    s.accepts w Ob.gp_command 0 [1] ∧ s.grammarBusy 0 = false ∧ grammarMagicOk o = true ∧ formatOk o = true ∧
      Config.shake256 o 32 = s.str Ob.gp_digest 0 ∧ grammarPlacesOk o = true ∧ grammarOk (parseGrammar o) = true ∧
      s.dictFor (s.obj Ob.gp_model 0) = some (0, e) ∧ e.digest = (parseGrammar o).dictDigest ∧ e.vocab = (parseGrammar o).vocab := by
  unfold State.accepts
  refine ⟨by decide +kernel, by decide +kernel, by decide +kernel, by decide +kernel, (State.str_setStr _ _ _ _).symm, by decide +kernel,
    by decide +kernel, by decide +kernel, by decide +kernel, by decide +kernel⟩

/-- A traverse whose cluster 0 appends positions of row 0 and gathers its key/value tiles. -/
def gathering : State :=
  let g : GatherRec := ⟨0, 0, 1, 0, 0, true, true, 0, 15, t0Addr 0 0 0, 5, 2⟩
  let rec0 : ImageRec := ⟨true, 0, 0, 0, 0, [⟨0, [⟨0, 0, 0, 0, 0, 0, false, 0, 1⟩], []⟩]⟩
  let img : TrvImage := { imgOf 1 0 with gathers := [g], images := [rec0] }
  let s := withBlock (t1Addr 0 0 0 5)
  let s := s.setTrvSlot 0 ⟨some img, none, false, []⟩
  { s with trv := { s.trv with active := some 0, variants := [(0, 0)], rowTab := [⟨0, ⟨3, 0, 0, 1, false, 1, 0, 5⟩, 5, 1, false, 1⟩] } }

theorem witness_ContextTiles :
    gathering.runningHdr = some (hdrOf 1 0) ∧ gathering.activeImage.isSome = true ∧
    (gathering.activeImage.bind (fun i => i.gathers[0]?)).isSome = true ∧ (0 : Nat) ≤ gathering.schedTick ∧ 0 ∉ gathering.trv.gathered ∧
    (gathering.activeImage.bind (fun i => (gathering.tablesOf i 0).appends[0]?)) = some ⟨0, 0, 0, 0, 0, 0, false, 0, 1⟩ ∧
    (0 : Nat) < 60 * (gathering.schedTick + 1) ∧ (mget gathering.trv.appended 0).getD 0 ≤ 0 ∧ gathering.clusterFenced 0 = false ∧
    gathering.asleep 0 = false ∧ (gathering.rowNow 0).any rowLive = true ∧
    ((gathering.rowNow 0).bind (fun r => gathering.rowSess r.entry)).isSome = true := by decide +kernel

/-- A privileged message of station 5, waiting. -/
def privEntry (m : Msg) : Intake := { entry m with privileged := true }

/-- Station 5 with it in intake. -/
def withPriv (s : State) (m : Msg) : State := (withMsg s m).setStation 5 { (withMsg s m).station 5 with intake := [privEntry m] }

/-- A checkpoint store of 64 tiles in an extent of station 5. -/
def withStore : State :=
  (State.reset.setStr Ob.ck_store 0 (toLE 8 (t3Addr 5 0 0) ++ toLE 4 64 ++ toLE 4 1)).setStrAt Ob.stn_t3_extent 5 0
    (toLE 8 0x100000 ++ toLE 4 64 ++ [2, 0] ++ toLE 2 5)

/-- Its run of checkpoint 1 at frame 4. -/
def run0 : CkRun := ⟨none, 1, 4, true, ⟨State.reset.manifest 1 1 4, []⟩, false, false⟩

theorem witness_CheckpointRows :
    let w : Writer := .station 0 1
    let s := (withStore.setObj Ob.ck_id 0 1).setObj Ob.ck_frame 0 4
    let running' (r : CkRun) (st : Nat) : State := ({ withStore with ck := { withStore.ck with run := some r } } : State).setObj Ob.ck_state 0 st
    (s.accepts w Ob.ck_command 0 [1] ∧ s.obj Ob.ck_id 0 ≠ 0 ∧ s.frame + 4 ≤ s.obj Ob.ck_frame 0 ∧ s.ck.run = none ∧ s.ckStoreOk = true) ∧
    (let m : Msg := ⟨hdr5 40 1 0, .checkpoint ⟨1, 4⟩⟩
     let u := withPriv withStore m
     u.waits 5 (privEntry m) ∧ (u.atTurn 5 (privEntry m)).passes 5 (u.chosen 5 (privEntry m)) ∧ (u.serving 5 (privEntry m)).ckAsk 4 = St.OK) ∧
    s.accepts w Ob.ck_command 0 [2] ∧
    ((running' run0 2).ck.run = some run0 ∧ run0.started = true) ∧
    (let r := { run0 with done0 := true, done1 := true }
     (running' r 2).ck.run = some r ∧ (running' r 2).obj Ob.ck_state 0 = 2 ∧ (running' r 2).isMaster = true ∧ (running' r 3).obj Ob.ck_state 0 = 3) ∧
    (s.accepts w Ob.rs_command 0 [1] ∧ (s.sessions.any (fun x => x.state.live) || s.ck.run.any (fun r => r.started) || (List.range 256).any (fun ii => s.obj Ob.vx_state ii == 2)) = false
      ∧ s.obj Ob.rs_source 0 = 0 ∧ (running' run0 2).accepts w Ob.rs_command 0 [1] ∧ (running' run0 2).ck.run.any (fun r => r.started) = true) := by
  unfold State.accepts
  refine ⟨by decide +kernel, ⟨⟨?_, ?_, ?_, ?_⟩, ⟨?_, ?_, ?_, ?_, fun k hk => ?_⟩, ?_⟩, by decide +kernel, by decide +kernel, by decide +kernel, by decide +kernel⟩
  case refine_9 =>
    have : (withPriv withStore ⟨hdr5 40 1 0, .checkpoint ⟨1, 4⟩⟩ |>.serving 5 (privEntry ⟨hdr5 40 1 0, .checkpoint ⟨1, 4⟩⟩)).recordHalf 5
        ((withPriv withStore ⟨hdr5 40 1 0, .checkpoint ⟨1, 4⟩⟩).chosen 5 (privEntry ⟨hdr5 40 1 0, .checkpoint ⟨1, 4⟩⟩)) = some 0 := by decide +kernel
    cases this.symm.trans hk
    decide +kernel
  all_goals decide +kernel

/-- Port 0 with its two lanes and these fields. -/
def portWith (st : Nat) (f : FabPort → FabPort) : State :=
  let s := (State.reset.setObj Ob.port_state 0 st).setObj Ob.port_role 0 1
  s.setPort 0 (f { portInit with lanes := [0, 1] })

theorem witness_FabricPorts :
    let lp : LinkParam := ⟨1, 1, 2, 15, 3, 2, 2, true, 1, 0, 1, 0⟩
    let tr (f : FabPort → FabPort) : State := portWith 1 f
    let up (f : FabPort → FabPort) : State := portWith 2 f
    ((tr fun x => { x with step := 3 }).obj Ob.port_state 0 = 1 ∧ ((tr fun x => { x with step := 3 }).port 0).step < 4 ∧ lp.majorLo ≤ 1 ∧ lp.majorHi ≠ 0 ∧
      { lp with majorLo := 2 }.majorLo ≥ 2) ∧
    (((tr fun x => { x with step := 4 }).port 0).echoes.length < 16 ∧
      ((tr fun x => { x with step := 4 }).port 0).since + (tr id).trainLimit 4 < (atTick (tr fun x => { x with step := 4 }) 2501).tick) ∧
    (((tr fun x => { x with step := 2 }).port 0).step ≠ 4 ∧ 0 + (tr id).trainLimit 2 < (atTick (tr fun x => { x with step := 2 }) 25001).tick ∧
      0 + (tr id).trainLimit 1 < (atTick (tr id) (1 + (tr id).trainLimit 1)).tick) ∧
    (let s := ((tr fun x => { x with step := 4, params := some lp, echoes := List.replicate 16 40 }).setObj Ob.composition 0 1)
     (s.port 0).echoes.length = 16 ∧ s.portFits 0 lp = true ∧ lp.epoch ≠ 0 ∧ medianOf (s.port 0).echoes / 2 ≤ 20 + 1 ∧
      20 ≤ medianOf (s.port 0).echoes / 2 + 1) ∧
    ((up id).portUp 0 = true ∧ ((up fun x => { x with txKept := [5, 6] }).port 0).txKept.contains (6 % 4096) = true ∧
      ((up id).port 0).txKept.contains (6 % 4096) = false ∧ ((up id).port 0).lanes.contains 1 = true ∧ ((up id).port 0).discarding = false ∧
      ((up fun x => { x with discarding := true }).port 0).discarding = true ∧ ((up id).port 0).lastSent + 250 ≤ (atTick (up id) 250).tick ∧
      (up id).obj Ob.composition 0 = 0 ∧ (up id).fab.plat = none ∧ ((up id).port 0).lastHb + 750 < (atTick (up id) 751).tick) ∧
    (let s := atTick (portWith 0 id) ((portWith 0 id).obj Ob.fab_retrain_ticks 0)
     s.obj Ob.port_state 0 = 0 ∧ s.obj Ob.port_role 0 ≠ 0 ∧ s.portLanes 0 ≠ [] ∧ (s.port 0).since + s.obj Ob.fab_retrain_ticks 0 ≤ s.tick) ∧
    ((State.reset.laneFail 31).laneOwner 31 = none ∧ ((up id).laneFail 1).laneOwner 1 = some 0) ∧
    ((up id).laneOwner 1 = some 0 ∧ ((up id).setLane 1 2).lane 1 = 2 ∧ ((up id).setLane 1 2).portUp 0 = true ∧
      ((up fun x => { x with features := 2 }).port 0).features / 2 % 2 ≠ 0 ∧ ((up id).port 0).features / 2 % 2 = 0) := by decide +kernel

/-- A routed message from device 1 to device 2. -/
def fabHdr (slice : Nat) : FabHdr := ⟨true, 15, 0, 8, 1, 2, 3, 4, slice⟩

theorem witness_FabricRelays :
    let h := fabHdr 0
    let s : State := { withSess id with fab := inPlat.fab, dict := inPlat.dict }
    (s.reached h ∧ s.fab.outs = [] ∧ s.fab.ins = [] ∧ (s.resolve 5 77).2 = some sess0) ∧
    (let m : Msg := ⟨hdr5 24 1 77, .close⟩
     let u := s.remoteStation 5 h.src
     let i : Intake := ⟨m, 0, 0, u.tick, u.tick, false, .fresh, 0, false, false, 0, 0⟩
     (u.setStation 5 { u.station 5 with intake := (u.station 5).intake.filter (fun i => !i.undecided m.hdr.seq) ++ [i] }).seqCheck 5 1 = none) ∧
    (s.sliced = true ∧ s.sharesSlice 1 = true ∧ s.sharesSlice 9 = false ∧
      (let lends (u : State) : Bool := u.fab.leases.any (fun p => !p.2.lessee && p.2.peer == h.src && p.2.kind == 2)
       lends s = false ∧ lends { s with fab := { s.fab with leases := [(65536 + 9, ⟨false, 1, 2, 20, none, false⟩)] } } = true)) ∧
    (let t := (s.setObj Ob.witness_peer 0 1).setObj Ob.witness_mode 0 1
     h.src = t.obj Ob.witness_peer 0 % 512 ∧ t.obj Ob.witness_mode 0 = 1) := by unfold State.reached; decide +kernel

/-- Device 2 of the plat with this lease of device 1 under its number 9. -/
def leased (l : Lease) : State := { inPlat with fab := { inPlat.fab with leases := [(1 * 65536 + 9, l)] } }

theorem witness_PeerTier :
    let w : Writer := .station 0 1
    let h := fabHdr 0
    let s := inPlat.setObj Ob.t4_lend_max 0 100
    let l (lessee : Bool) : Lease := ⟨lessee, 1, 1, 20, none, false⟩
    (s.reached h ∧ s.sliced = true ∧ s.sharesSlice h.src = true ∧ s.obj Ob.t4_tiles_lent 0 + 100 ≤ s.obj Ob.t4_lend_max 0 ∧
      100 ≤ 11 * s.t2Free (s.fab.nextLease % 2) ∧ s.obj Ob.t4_lend_max 0 < s.obj Ob.t4_tiles_lent 0 + 101 ∧ s.sharesSlice 9 = false) ∧
    (mget s.fab.leases (1 * 65536 + 9 % 65536) = none ∧
      (leased (l true)).reached h ∧ mget (leased (l true)).fab.leases (1 * 65536 + 9 % 65536) = some (l true) ∧ (l true).tiles < 20 + [freeTile].length ∧
      19 + [freeTile].length ≤ (l true).tiles ∧ (l true).lessee = true) ∧
    ((leased (l false)).reached h ∧ mget (leased (l false)).fab.leases (1 * 65536 + 9 % 65536) = some (l false) ∧ (l false).lessee = false ∧
      (leased (l false)).fab.outs = [] ∧
      (leased (l false)).fab.leases.find? (fun p => !p.2.lessee && p.1 % 65536 == 9 && (p.2.peer == h.src || p.2.kept)) = some (1 * 65536 + 9, l false) ∧
      s.fab.leases.find? (fun p => !p.2.lessee && p.1 % 65536 == 9 && (p.2.peer == h.src || p.2.kept)) = none) ∧
    (let k : Lease := ⟨false, 1, 2, 20, none, true⟩
     (leased k).accepts w Ob.fab_lease_command 0 (toLE 4 (9 % 65536 + 65536)) ∧
      (leased k).fab.leases.find? (fun p => !p.2.lessee && p.1 % 65536 == 9 % 65536 && p.2.kept) = some (1 * 65536 + 9, k)) := by
  unfold State.reached State.accepts; decide +kernel

/-- Device 1, the coordinator of that plat. -/
def coord : State := (inPlat.setObj Ob.plat_device 0 1).setObj Ob.port_peer 0 2

/-- The plat of the next epoch. -/
def plat4 : PlatImage := { plat3 with epoch := 4 }

theorem witness_PlatRows :
    let w : Writer := .station 0 1
    let h := fabHdr 0
    let h2 : FabHdr := { fabHdr 0 with src := 2, dst := 1 }
    let v : PlatVote := ⟨plat4, 1, 0, [1], none⟩
    let voting : State := { coord with fab := { coord.fab with vote := some v } }
    (coord.accepts w Ob.plat_command 0 [1] ∧ coord.isCoordinator = true ∧ coord.proposalCheck plat4 = St.OK) ∧
    (inPlat.accepts w Ob.plat_command 0 [1] ∧ inPlat.isCoordinator = false ∧ inPlat.platValid plat4 = true ∧ inPlat.coordinator = some 1) ∧
    (inPlat.reached h ∧ inPlat.fab.accepted = none ∧ plat4.epoch = inPlat.platEpoch + 1 ∧ inPlat.hasMajority = true ∧
      inPlat.keepsClusters plat4 = true) ∧
    (voting.reached h2 ∧ voting.fab.vote = some v ∧ voting.members.contains h2.src = true ∧ v.accepted.contains h2.src = false ∧
      majority voting.members.length ≤ v.accepted.length + 1 ∧ (firstTakeover v.img).any (fun t => decide (t - 1 ≤ voting.frame)) = false ∧
      voting.tick ≤ v.started + voting.obj Ob.plat_vote_ticks 0 ∧ ({ v with accepted := [] } : PlatVote).accepted.length + 1 < majority voting.members.length) ∧
    (inPlat.platEpoch < plat4.epoch ∧ plat3.epoch ≤ inPlat.platEpoch) ∧
    (coord.reached h2 ∧ coord.fab.plat = some plat3 ∧ coord.domainMajor ≤ 1 ∧ 1 ≤ coord.domainMajor ∧
      plat3.devices.any (fun d => d.device == 2 && d.state == 1 && d.identity != 12) = false ∧ coord.domainMajor < 2 ∧
      (∀ x ∈ [1, 2], coord.reachable x = true) ∧ coord.fab.reports = [] ∧ plat3.handovers = []) ∧
    (voting.leaveOver = false ∧ v.started + voting.obj Ob.plat_vote_ticks 0 < (atTick voting (voting.obj Ob.plat_vote_ticks 0 + 1)).tick) ∧
    State.reset.accepts w Ob.composition 0 (toLE 1 1) ∧
    (let p : PlatImage := { plat3 with slices := [], assigns := [] }
     let s : State := { coord with fab := { coord.fab with plat := some p } }
     s.accepts w Ob.composition 0 (toLE 1 0) ∧ s.assigns = [] ∧ s.obj Ob.t4_tiles_lent 0 = 0 ∧ s.obj Ob.t4_tiles_borrowed 0 = 0 ∧ s.isCoordinator = true ∧
      ({ s with fab := { s.fab with leaving := some s.tick } } : State).isCoordinator = true ∧ coord.assigns ≠ [] ∧
      coord.accepts w Ob.composition 0 (toLE 1 0)) := by
  unfold State.reached State.accepts; decide +kernel

theorem witness_HandoverRows :
    let h := fabHdr 0
    let i : HandoverIn := ⟨0, 1, 0, 0, 9, [], [], 0, [], none, false⟩
    let o : HandoverOut := ⟨0, 1, 0, [3], 9, true, false, none, []⟩
    let m : Msg := ⟨hdr5 24 1 77, .close⟩
    let k : FabOut := ⟨1, 0, none, 3, 4, 0, .sessionMsg 5 m⟩
    let s (ins : List HandoverIn) : State := { inPlat with fab := { inPlat.fab with ins := ins, outs := [o], sent := [k] } }
    ((s [i]).reached h ∧ (s [i]).fab.ins.find? (fun i => i.slice == h.slice && i.fromDev == h.src && !i.acked) = some i ∧
      (s [i]).fab.outs.find? (fun o => o.slice == h.slice && o.toDev == h.src && o.gone && !o.acked) = some o ∧
      (s [i]).fab.sent.find? (fun o => o.tag == h.tag && o.dst == h.src && o.fwd.isNone) = some k) ∧
    (let t := atTick (s [i]) ((s [i]).obj Ob.plat_drain_ticks 0 + 1)
     t.fab.ins.filter (fun (i : HandoverIn) => i.drained.isNone && !i.acked && decide (i.started + t.obj Ob.plat_drain_ticks 0 < t.tick)) = [i]) ∧
    (let q : HeldReq := ⟨{ h with epoch := 4 }, 0, .drain 1⟩
     s [i] |>.platEpoch |> fun e => e < q.hdr.epoch ∧ q.arrival + (s [i]).obj Ob.plat_vote_ticks 0 < (atTick (s [i]) ((s [i]).obj Ob.plat_vote_ticks 0 + 1)).tick) ∧
    (let j := { i with acked := true, got := [3] }
     let x : Session := { sess0 with pt := { sess0.pt with blocks := 1, entries := [(ptKey 0 0 0 0, ⟨t4Addr 1 9 0, noTile⟩)] } }
     let t : State := (s [j]).setSess x
     let inLease (x : Session) : Bool := x.pt.entries.any (fun p => tierOf p.2.primary == 4
        && decide (p.2.primary / 2 ^ 36 % 2 ^ 16 = j.lease ∧ p.2.primary / 2 ^ 52 % 512 = j.fromDev))
     t.fab.ins.find? (fun i => i.acked) = some j ∧ (j.got.filterMap (fun n => t.bySid n)).find? inLease = some x ∧
      (({ j with got := [] } : HandoverIn).got.filterMap (fun n => t.bySid n)).find? inLease = none) := by
  unfold State.reached; decide +kernel

/-- Association 1 of client 9 with these fields. -/
def withAssoc1 (f : Assoc → Assoc) : State := withAssoc.setAssoc 1 (f assoc0)

/-- A request of association 1 that carries fragment n. -/
def partHdr (n : Nat) (more : Bool) : OpdunHdr := { odHdr 1 0 0 with frag := n, more := more }

theorem witness_FieldRequests :
    (withAssoc.served true 255 ∧ min 2 2 = 2 ∧ mpickFree (withAssoc.arrivalWakes 2).mgmt.assocs 1 9 = some (1 + 1) ∧ min 2 2 < 3) ∧
    (let full : State := { withAssoc with mgmt := { withAssoc.mgmt with assocs := (List.range 9).map (fun n => (n, assoc0)) } }
     full.served true 255 ∧ mpickFree (full.arrivalWakes 2).mgmt.assocs 1 9 = none) ∧
    withAssoc.servedOf (odHdr 1 0 0) assoc0 ∧ assoc0.features / 2 % 2 = 1 ∧ assoc0.frag = none ∧
    ((partHdr 0 false).frag = 0 ∧ (partHdr 0 false).more = false ∧ (partHdr 0 true).more = true) ∧
    (let b : FragBuf := ⟨1, 3, [7], 0⟩
     let x := { assoc0 with frag := some b }
     let s := withAssoc1 fun _ => x
     s.served true 255 ∧ mget (s.arrivalWakes 2).mgmt.assocs 1 = some x ∧ x.client = 9 ∧ (s.asked (partHdr 3 false) x).fragLate b = false ∧
      (partHdr 3 false).frag = b.next ∧ b.req = (partHdr 3 false).req ∧
      (let t := atTick s (s.obj Ob.opdun_frag_ticks 0 + 1)
       mget t.mgmt.assocs 1 = some x ∧ b.last + t.obj Ob.opdun_frag_ticks 0 < t.tick)) ∧
    (let s := atTick withAssoc (withAssoc.obj Ob.opdun_idle_ticks 0 + 1)
     mget s.mgmt.assocs 1 = some assoc0 ∧ assoc0.lastTick + s.obj Ob.opdun_idle_ticks 0 < s.tick ∧
      withAssoc.tick ≤ assoc0.lastTick + withAssoc.obj Ob.opdun_idle_ticks 0) := by
  unfold State.served
  refine ⟨by decide +kernel, by decide +kernel, servedOf_assoc _ _ _, by decide +kernel, rfl, by decide +kernel, by decide +kernel, by decide +kernel⟩

/-- The mailbox is open. -/
def withMail : State := withAssoc.setObj Ob.mgmt_legacy 0 1

/-- The object of an index and subindex can be read, and reading it takes nothing out of a log. -/
def readsPlain (s : State) (index sub : Nat) : Bool :=
  sub != 0 && !s.recoveryShuts index sub && (s.findObj index sub).any (fun p => p.1.access != .wo &&
    !(p.1.base == Ob.move_completion_log.base && p.1.subLo == Ob.move_completion_log.subLo) &&
    !(p.1.base == Ob.hold_log.base && p.1.subLo == Ob.hold_log.subLo) && !(p.1.base == Ob.err_read.base && p.1.subLo == Ob.err_read.subLo))

theorem readObject_plain (s : State) (c q index sub : Nat) (h : readsPlain s index sub = true) :
    ∃ v, s.readObject (.legacy c q) index sub = (St.OK, v, s) := by
  unfold readsPlain at h
  cases hf : s.findObj index sub with
  | none => simp [hf] at h
  | some p =>
    simp [hf] at h
    refine ⟨if index / 256 == 0xC0 then aliasValue index (s.readRow p.1 p.2.1 p.2.2) else s.readRow p.1 p.2.1 p.2.2, ?_⟩
    unfold State.readObject State.popRow
    simp [hf, h]
    rw [if_neg (fun w => h.2.1.1.2.elim (fun n => n w.1) (fun n => n w.2)), if_neg (fun w => h.2.1.2.elim (fun n => n w.1) (fun n => n w.2)), if_neg (fun w => h.2.2.elim (fun n => n w.1) (fun n => n w.2))]

theorem witness_MailboxRows :
    let m : MailBlock := ⟨true, 255, 4, 0, 1, 0, 0, 0, []⟩
    let u := withMail.arrivalWakes 2
    withMail.servedMail m ∧ m.arg0 < 2 ∧
    (∀ p ∈ [(1, 0x1000, 3), (1, 0x1000, 4), (1, 0x1000, 8), (2, 0x1010, 1), (2, 0x1010, 2), (3, 0x5010, 0x0B), (3, 0x5010, 0x0C), (4, 0x5010, 0x0D),
        (7, 0xC000 + 1, 1), (12, Ob.cluster_fence_map.base, Ob.cluster_fence_map.subLo), (13, Ob.plat_epoch.base, Ob.plat_epoch.subLo),
        (13, Ob.plat_state.base, Ob.plat_state.subLo)],
      ∃ v, u.readObject (.legacy p.1 4) p.2.1 p.2.2 = (St.OK, v, u)) ∧
    (∃ v t, u.readObject (.legacy 5 4) Ob.err_read.base Ob.err_read.subLo = (St.OK, v, t)) := by
  have none : (withMail.arrivalWakes 2).mgmt.mailLast = none := by decide +kernel
  refine ⟨⟨by unfold State.served; decide +kernel, by decide +kernel, fun r hr => ?_, by decide⟩, by decide, fun p hp => ?_, ?_⟩
  · rw [none] at hr; cases hr
  · have all : [(1, 0x1000, 3), (1, 0x1000, 4), (1, 0x1000, 8), (2, 0x1010, 1), (2, 0x1010, 2), (3, 0x5010, 0x0B), (3, 0x5010, 0x0C), (4, 0x5010, 0x0D),
        (7, 0xC000 + 1, 1), (12, Ob.cluster_fence_map.base, Ob.cluster_fence_map.subLo), (13, Ob.plat_epoch.base, Ob.plat_epoch.subLo),
        (13, Ob.plat_state.base, Ob.plat_state.subLo)].all (fun p => readsPlain (withMail.arrivalWakes 2) p.2.1 p.2.2) = true := by decide +kernel
    exact readObject_plain _ _ _ _ _ (List.all_eq_true.1 all p hp)
  · exact ⟨_, _, Prod.ext (by decide +kernel) rfl⟩

/-- A slot with both halves of a key staged. -/
def staging (k : Nat) : State := State.reset.setKeySlot k ⟨some [1], some [2], none⟩

/-- Every case but those that a signature decides: whether a capability or an image verifies is an uninterpreted function of Config. -/
theorem witness_KeysAndFirmware :
    let w : Writer := .device
    let s := State.reset
    (∀ k ∈ [0, 15], (staging k).accepts w Ob.tk_command (k % 16) [1] ∧ (staging k).lateClaim w (k % 16) = false ∧
      ((staging k).keySlot (k % 16)).lo = some [1] ∧ ((staging k).keySlot (k % 16)).hi = some [2] ∧
      (k % 16 = 0 ∨ (staging k).obj Ob.tk_purpose (k % 16) % 2 = 0) ∧ s.accepts w Ob.tk_command (k % 16) [2]) ∧
    (s.accepts w Ob.stn_cap_stage (255 % 256) [1, 2] ∧ (((mget s.mgmt.caps (255 % 256)).getD ⟨[], none⟩).staged ++ [1, 2]).length < 3437) ∧
    (s.accepts w Ob.fw_command 0 [1] ∧ s.accepts w Ob.fw_chunk 0 (toLE 8 0 ++ [1]) ∧ s.accepts w Ob.fw_command 0 [2] ∧ s.accepts w Ob.fw_command 0 [3] ∧
      s.accepts w Ob.fw_command 0 [5] ∧ (s.fwSlot s.spareSlot).state ≠ 2) ∧
    (let t := s.setFwSlot s.spareSlot ⟨2, none, []⟩
     t.accepts w Ob.fw_command 0 [3] ∧ (t.fwSlot t.spareSlot).state = 2) ∧
    (let t := s.setFwSlot 0 ⟨3, none, []⟩
     let t : State := { t with mgmt := { t.mgmt with running := some 0 } }
     t.mgmt.running = some 0 ∧ (t.fwSlot 0).state = 3 ∧ t.accepts w Ob.fw_command 0 [4] ∧
      t.mgmt.trialStart + t.obj Ob.fw_trial_ticks 0 ≤ (atTick t (t.mgmt.trialStart + t.obj Ob.fw_trial_ticks 0)).tick ∧ t.pwr.held = false ∧
      t.tick < t.mgmt.trialStart + t.obj Ob.fw_trial_ticks 0) ∧
    (s.accepts w Ob.att_nonce 0 (List.replicate 32 5) ∧ s.obj Ob.att_state 0 ≠ 1 ∧ (s.setObj Ob.att_state 0 1).obj Ob.att_state 0 = 1) ∧
    s.accepts w Ob.cal_set 0 (toLE 8 7) ∧
    (s.mgmt.calPending = none ∧ (100000 : Int) < (s.mgmt.calendar + 1000000000 : Nat) - timeOf s.mgmt s.tick ∧
      ((atTick s 25000000).mgmt.calendar + 1000000000 : Nat) - (timeOf (atTick s 25000000).mgmt (atTick s 25000000).tick : Int) ≤ 100000) ∧
    ({ s with mgmt := { s.mgmt with calPending := some (7, w) } } : State).mgmt.calPending = some (7, w) := by
  unfold State.accepts; decide +kernel

theorem witness_PowerRows :
    let w : Writer := .device
    let s := State.reset
    let auto := (((s.setObj Ob.half0_power_mode 0 1).setObj Ob.half1_power_mode 0 1).setObj Ob.deep_sleep_ticks 0 100).setPwr { s.pwr with quietSince := some 0 }
    (s.accepts w Ob.power_command 0 [1] ∧ s.powerState = 0 ∧ s.deepReady w = true ∧ (running 1 0).deepReady w = false ∧
      (running 1 0).accepts w Ob.power_command 0 [1]) ∧
    (auto.powerState = 0 ∧ auto.powerMode 0 = 1 ∧ auto.powerMode 1 = 1 ∧ auto.obj Ob.deep_sleep_ticks 0 ≠ 0 ∧ auto.deepReady .device = true ∧
      auto.pwr.quietSince = some 0 ∧ 0 + auto.obj Ob.deep_sleep_ticks 0 ≤ (atTick auto 100).tick ∧
      (atTick auto 99).tick < 0 + auto.obj Ob.deep_sleep_ticks 0) ∧
    ((s.setObj Ob.stake_wake_mask 0 128).obj Ob.stake_wake_mask 0 / 2 ^ 7 % 2 = 1 ∧
      (s.setPwr { s.pwr with deadline := some 500000 }).pwr.deadline = some 500000 ∧ 500000 ≤ s.tick + 500000) ∧
    (s.tick % 25 = 0 ∧ s.deep = false ∧ s.pwr.held = false) ∧
    (mget (s.setPwr { s.pwr with waking := [(511, 50)] }).pwr.waking 511 = some 50 ∧ 50 ≤ (atTick s 50).tick ∧ (atTick s 49).tick < 50) ∧
    (let low : PowerReading := ⟨1, 1, 1⟩
     let high : PowerReading := ⟨2 ^ 30, 2 ^ 40, 2 ^ 40⟩
     let u (s : State) (r : PowerReading) : State :=
       let u := s.setObj Ob.tile_power 0 (r.now % 2 ^ 32)
       u.setPwr { u.pwr with overRun := if u.sustained20 < 20 * r.mean25 then u.pwr.overRun + 1 else 0 }
     let lims (s : State) (r : PowerReading) := (u s r).limits r
     let limiting (s : State) (r : PowerReading) := ((lims s r).filter (fun y => decide (y.2.2 ≤ 20 * y.2.1)))
     let out := (s.setObj Ob.pwr_levers 0 30).setObj Ob.search_throttle 0 0
     (∀ y ∈ lims s low, 20 * y.2.1 ≤ y.2.2) ∧ limiting s low = [] ∧ s.pwr.limiting = [] ∧
      limiting s high ≠ [] ∧ (u s high).leversOut = false ∧ limiting out high ≠ [] ∧ (u out high).leversOut = true ∧
      ((lims out high).find? (fun y => decide (y.2.2 < 20 * y.2.1))).isSome = true) ∧
    (let t := s.setPwr { s.pwr with tripRun := [(3, 24), (127, 25)] }
     t.pwr.tripRun.find? (fun p => decide (25 ≤ p.2)) = some (127, 25) ∧ t.pwr.held = false ∧ (∀ p ∈ s.pwr.tripRun, p.2 < 25)) ∧
    (let t := s.setObj Ob.tj_max_h1 0 (120 * 65536)
     120 * 65536 ≤ t.hottest ∧ s.hottest < 120 * 65536) := by
  unfold State.accepts; decide +kernel

theorem witness_ResetRows :
    let w : Writer := .device
    let s := State.reset
    let busy := running 1 0
    (∀ c ∈ [2, 3, 4], s.accepts w Ob.power_command 0 [BitVec.ofNat 8 c] ∧ busy.accepts w Ob.power_command 0 [BitVec.ofNat 8 c]) ∧
    (s.pwr.held = false ∧ (s.setPwr { s.pwr with held := true }).pwr.held = true ∧
      (s.setPwr { s.pwr with held := true }).accepts w Ob.power_command 0 [2]) ∧
    (∀ h ∈ [0, 1], s.halfBusy h = false ∧ busy.halfBusy h = true) ∧
    (s.pwr.strapped = false ∧ s.pwr.since + 5000 ≤ (atTick s 5000).tick) ∧
    (let t (k : Nat) := atTick s k
     (t 6125).tick % 125 = 0 ∧ (t 6125).deep = false ∧ (t 6125).pwr.since + 5250 ≤ (t 6125).tick - (t 6125).tick % 1000 ∧
      (t 6125).tick % 1000 / 125 = 1 ∧ (t 6875).tick % 1000 / 125 = 7 ∧ (t 6000).tick % 1000 / 125 = 0 ∧
      (t 6000).pwr.since + 5250 ≤ (t 6000).tick - (t 6000).tick % 1000 ∧ (t 6000).powerState ≠ 1 ∧
      (let d := ((t 6000).setObj Ob.tile_power_state 0 1).setPwr { (t 6000).pwr with lastFrame := true }
       d.powerState = 1 ∧ d.pwr.lastFrame = true ∧ d.deep = false)) ∧
    (s.fb.half0Lost = false ∧ s.fb.half1Lost = false) ∧
    (let t := atTick s 125
     t.pwr.step0 + 125 ≤ t.tick ∧ t.pwr.step1 + 125 ≤ t.tick ∧ 650 ≤ t.pwr.core0 + 5 ∧ t.pwr.core0 + 5 ≤ 850 ∧ 650 ≤ t.pwr.core1 - 5 ∧
      t.pwr.core1 - 5 ≤ 850 ∧ t.wakeWindowBusy 0 = false ∧ t.wakeWindowBusy 1 = false) ∧
    withAssoc.mgmtUp = true := by
  unfold State.accepts; decide +kernel

theorem witness_FramesAndLosses :
    let s := State.reset
    let due := atTick (s.setPwr { s.pwr with strapped := true }) 25000
    due.boundaryDue = true ∧ s.boundaryDue = false ∧
    (s.fb.half0Lost = false ∧ s.fb.half1Lost = false ∧ s.fb.chainDown = false) ∧
    (let t : State := { s with fb := { s.fb with half1Lost := true, chainDown := true } }
     t.fb.half1Lost = true ∧ t.fb.chainDown = true) ∧
    (s.accepts .device Ob.fb_adopt_command 0 [1] ∧ (some ([] : Octets)).bind parseBook = some [] ∧ (some ([0] : Octets)).bind parseBook = none) := by
  unfold State.accepts; decide +kernel

theorem witness_StepTakesTheFront :
    let s : State := { State.reset with pending := [.datumTick] }
    s.pending = [.datumTick] ∧ State.reset.pending = [] := ⟨rfl, rfl⟩

/-- An engine whose entries 3 and 9 both match key 5. -/
def twoEntries : State :=
  let c := State.reset.cam 0
  State.reset.setCam 0 { c with entries := [(3, ⟨5, 255, 70, 0⟩), (9, ⟨5, 2 ^ 124 - 1, 80, 0⟩)] }

theorem witness_CamPriority :
    mwf (twoEntries.cam 0).entries = true ∧ (∀ p ∈ (twoEntries.cam 0).entries, p.1 < 2 ^ 19) ∧ twoEntries.searchFits 0 256 = true ∧
    (twoEntries.cam 0).waiting = [] ∧ (camSearch (twoEntries.cam 0).entries 5).map (fun p => p.1) = some 3 ∧
    camSearch (twoEntries.cam 0).entries 6 = none := by decide +kernel

theorem witness_RepeatedRequest :
    let r : OpdunReply := ⟨2, 1, 9, 5683, 1, 0, 0, St.OK, []⟩
    let x := { assoc0 with replies := [r] }
    let s := withAssoc1 fun _ => x
    s.served true 255 ∧ mget (s.arrivalWakes 2).mgmt.assocs 1 = some x ∧ x.client = 9 ∧ x.replies.find? (fun q => q.req == 1) = some r ∧
    mget s.mgmt.assocs r.assoc = some x := by
  unfold State.served; decide +kernel

theorem witness_OneHoldForAll :
    let s := running 2 0
    let p : HoldPlan := ⟨200, 50, 1, 2, 1, 0, 0⟩
    let t := atTick { s with trv := { s.trv with plans := [p] } } 200
    s.runningHdr = some (hdrOf 2 0) ∧ s.isMaster = true ∧ 100 % max 1 (hdrOf 2 0).holdWindow = 0 ∧ 100 ∉ s.trv.decided ∧
    s.schedTick ≤ 100 + (hdrOf 2 0).holdLead ∧
    (let all : List HoldRequest := (mget s.trv.requests 100).getD [] ++ [⟨1, 30, 1, 0, 0⟩, ⟨0, 30, 2, 0, 0⟩]
     all ≠ [] ∧ ((all.map (fun q => q.position)).eraseDups).length ≤ 255) ∧
    (t.trv.plans = [p] ∧ t.trv.held = none ∧ p.sched ≤ t.schedTick) := by decide +kernel

theorem witness_GenerationsAdvance :
    let s := State.reset
    mwf s.ses.tab = true ∧ (∀ j, (mget s.ses.gens j).getD 0 < 256 ∧ ((mget s.ses.gens j).getD 0 = 255 → j ≠ 0xFFFFFF)) ∧ (s.takeIndex 0).isSome = true ∧
    (s.takeIndex 1).isSome = true := by
  refine ⟨by decide +kernel, fun j => ?_, takeIndex_isSome _ _ (by decide +kernel), takeIndex_isSome _ _ (by decide +kernel)⟩
  have : (mget State.reset.ses.gens j).getD 0 = 0 := rfl
  rw [this]; exact ⟨by decide, fun w => absurd w (by decide)⟩

theorem witness_ResultsLand : ∀ w ∈ (State.reset.coreAt 0).flight, ∀ x, w.val ≠ .sreg 1 x := by
  have : (State.reset.coreAt 0).flight = [] := by decide +kernel
  rw [this]; simp

/-- A datum tick waits. -/
def ticking : State := { State.reset with pending := [.datumTick] }

theorem witness_InvariantKept : ticking.Inv ∧ ticking.pending ≠ [] := by
  refine ⟨⟨fun c hc => ?_, List.forall_mem_nil _, List.forall_mem_nil _⟩, List.cons_ne_nil _ _⟩
  cases List.mem_singleton.1 hc
  decide

/-! ### Ill-formed commands -/

/-- One command out of its width or numbering for each check, its other operands in theirs. -/
theorem test_ill_formed :
    let w : Writer := .station 0 1
    let a : Issue := svc
    let h : MsgHdr := hdr5 24 1 77
    let x : Transfer := xfer 1 24 0 0
    ∀ i ∈ ([.parkTimer (2 ^ 32), .gpUnload w 256, .compositionWrite w 2, .journalBatchClose 2, .heartbeatBlockWrite 256,
        .bucketWrite w (some 256) 0 false 0, .clusterSelfTestDone 512 true, .ucieLinkDown 8, .ack 16 0, .lossOfSignal 32, .channelRebuildDone 24,
        .moveCompletion 0 64, .trvLoad w 4, .dictUnload w 4, .mdlUnload w 16, .mov a 32 0, .predNot a 8 0, .mzero a 4, .mldA a 1 2 0 0,
        .syncSet a 16384, .loop a 0, .loop a 65537, .halfLost 0 [(3, 2 ^ 32)], .add ⟨4096, 0⟩ 1 2 3, .fabs a .fp32 1 2 ⟨8, false⟩,
        .ckCheckpoint (.station 256 0), .goodbye { x with ucie := 8 } h, .goodbye x { h with station := 256 },
        .msgTransfer x ⟨{ h with handle := 2 ^ 64 }, .close⟩, .copy 0 0 { desc0 with src := 2 ^ 64 } [], .leaseRecall { fabHdr 0 with ttl := 256 } 0,
        .discover { odHdr 1 0 0 with hopLimit := 256 }, .getId ⟨true, 255, 256, 0, 0, 0, 0, 0, []⟩] : List Instr), wellFormed i = false := by decide +kernel

/-- The same commands in their widths. -/
theorem test_well_formed :
    let w : Writer := .station 0 1
    let a : Issue := svc
    let h : MsgHdr := hdr5 24 1 77
    let x : Transfer := xfer 1 24 0 0
    ∀ i ∈ ([.parkTimer (2 ^ 32 - 1), .gpUnload w 255, .compositionWrite w 1, .journalBatchClose 1, .heartbeatBlockWrite 255,
        .bucketWrite w (some 255) 0 false 0, .clusterSelfTestDone 511 true, .ucieLinkDown 7, .ack 15 4095, .lossOfSignal 31, .channelRebuildDone 23,
        .moveCompletion 0 63, .trvLoad w 3, .dictUnload w 3, .mdlUnload w 15, .mov a 31 0, .predNot a 7 0, .mzero a 3, .mldA a 1 1 0 0,
        .syncSet a 16383, .loop a 1, .loop a 65536, .halfLost 0 [(3, 2 ^ 32 - 1)], .add a 1 2 31, .fabs a .fp32 1 2 ⟨7, false⟩,
        .ckCheckpoint w, .goodbye x h, .msgTransfer x ⟨h, .close⟩, .copy 0 0 desc0 [], .leaseRecall (fabHdr 0) 0, .discover (odHdr 1 0 0),
        .getId ⟨true, 255, 255, 0, 0, 0, 0, 0, []⟩] : List Instr), wellFormed i = true := by decide +kernel

theorem test_long_octets (v : Octets) : wellFormed (.arInsert .device v) = decide (v.length ≤ 4096) := rfl

/-- No row of the table gives bits. -/
theorem test_no_word : decodeTableWord 32 0 = none ∧ (State.reset.withFetchWord 32 0) = State.reset := ⟨rfl, rfl⟩

/-! ### Small theorems, against the spec's tables and worked examples -/

/-- The worked example of chapter 5: the key block (3.0, -1,000.0, 0.1, 0, …) encodes with scale code 0x80 and decodes to 3.0, -896.0, 0.1015625. -/
theorem test_mxfp8_block :
    let e := mxEncode 1 ([0x40400000, 0xC47A0000, 0x3DCCCCCD] ++ List.replicate 29 0)
    e.1 = 0x80 ∧ e.2.take 3 = [0x3C, 0xFE, 0x15] ∧ (e.2.take 3).map (fun c => (mxDecode 1 0x80 c).1) = [0x40400000, 0xC4600000, 0x3DD00000] := by
  decide +kernel

/-- Its weight block (2.0, 0.5, 4.0, 0, …) encodes with scale code 0x79. -/
theorem test_mxfp8_weights :
    let e := mxEncode 1 ([0x40000000, 0x3F000000, 0x40800000] ++ List.replicate 29 0)
    e.1 = 0x79 ∧ e.2.take 3 = [0x70, 0x60, 0x78] := by decide +kernel

/-- Its MMA adds the pair to 100,000,000.0 with one rounding: 99,999,560.0. -/
theorem test_mma_block :
    let a : OperandBuf := ⟨1, [0x3C, 0xFE, 0x15] ++ List.replicate 29 0, [0x80]⟩
    let b : OperandBuf := ⟨1, [0x70, 0x60, 0x78] ++ List.replicate 29 0, [0x79]⟩
    (mmaElem a b 32 1 0x4CBEBC20 0 0).1 = 0x4CBEBBE9 := by decide +kernel

/-- The worked example of chapter 3: block 28, layer 5, group 2, V of session 0x0512A0C3. -/
theorem test_kv_place :
    kvStripe 0x0512A0C3 28 45 352 = (900, 1) ∧ t2Channel 3000007 1 = 9 ∧ t2Addr 0 1 3000007 = 0x40000001002DC6C7 ∧ kvHome 0x0512A0C3 28 4 45 = 94 := by
  decide +kernel

/-- Its revival of 360,448 tiles from T2 takes 63,830 ticks at 614.4 GB/s (code 370,086 of Table 11-2), and 35 ticks of latency. -/
theorem test_revive_ticks :
    (State.reset.setObj Ob.stn_revive_rate 7 370086).tierTicks { sess0 with station := 7 } 2 360448 = some (63830 + 35) := by decide +kernel

/-- Table 10-5: closure 8,216 of three parties; arrivals A: 0, A: 1, B: 0, then A: 2 overruns, then B: 1 and C: 0 release round 0. -/
theorem test_closure :
    let o : SyncObj := ⟨.closure, false, false, 7, 0, 3, 0, 0⟩
    let s := State.reset.setSync 8216 o
    let s := s.syncCycle 8216 10 .arrive 0 0
    let s := s.syncCycle 8216 11 .arrive 1 0
    let s := s.syncCycle 8216 12 .arrive 0 1
    (s.syncObj 8216).cntEven = 2 ∧ (s.syncObj 8216).cntOdd = 1 ∧ s.syncRefuses 8216 13 .arrive 2 = true ∧
      ((s.syncCycle 8216 13 .arrive 2 0).syncObj 8216) = s.syncObj 8216 ∧
      (let t := (syncTogether (s.syncObj 8216) [(.arrive, 1), (.arrive, 0)]).1
       t.value = 1 ∧ t.cntEven = 0 ∧ t.cntOdd = 2) := by decide +kernel

/-- The check value of CRC-32C over the ASCII digits 1 to 9. -/
theorem test_crc : crcOf [0x31, 0x32, 0x33, 0x34, 0x35, 0x36, 0x37, 0x38, 0x39] = 0xE3069283 := by decide +kernel

/-- Ties to even: 1 + 2^-24 is 1 in FP32, and 1 + 2^-8 is 1 in BF16, which stands in bits 31 to 16 of its lane (R191, R192). -/
theorem test_ties : (fadd .f32 0x3F800000 0x33800000).1 = 0x3F800000 ∧ (cvtToBf16 0x3F808000).1 = 0x3F800000 ∧
    (cvtToBf16 0x3F818000).1 = 0x3F820000 := by decide +kernel

/-- The lowest matching entry wins, and its word is HIT, address 3, result 70 (Table 9-2). -/
theorem test_cam : camResult (camSearch (twoEntries.cam 0).entries 5) = 2 ^ 63 + 3 * 2 ^ 32 + 70 := by decide +kernel

/-- The state that a command answers. -/
def ran : Host.Outcome State Fault Refusal → State
  | .next t => t
  | _ => State.reset

/-- An ADD takes a cycle, and its result stands in the register from the next one on (Table 5-3, R178); S0 discards it. -/
theorem test_add :
    let s := withSvc fun c => { c with sregs := [(1, 3), (2, 5)] }
    let c := (ran (exec (.add svc 3 1 2) s)).coreAt 4095
    (Core.settle c (c.cycle + 1)).sreg 3 = 8 ∧
      (let d := (ran (exec (.add svc 0 1 2) s)).coreAt 4095
       (Core.settle d (d.cycle + 1)).sreg 0 = 0) := by decide +kernel

/-- A step runs the command in front and leaves the rest waiting. -/
theorem test_step : (ran (step { State.reset with pending := [.datumTick, .bucketTick] })).tick = 1 ∧
    (ran (step { State.reset with pending := [.datumTick, .bucketTick] })).pending = [.bucketTick] := by decide +kernel

/-- The first frame of an idle slice ends 25,000 ticks after reset (R145). -/
theorem test_frame : State.reset.frameEnd = 25000 := by decide +kernel

end Sys2Proof.Tests
end

section
/-! One hold for all requests of a window (R164, R165): the request that names it, the hold that is decided, and its start. -/

namespace Sys2Proof.Machine

/-- Request q of l is the largest, and of those as large none comes from a lower position (R165). -/
def NamesHold (q : HoldRequest) (l : List HoldRequest) : Prop :=
  q ∈ l ∧ ∀ r ∈ l, r.ticks ≤ q.ticks ∧ (r.ticks = q.ticks → q.position ≤ r.position)

/-- A request joins those that t names the hold of: t stays where it is larger, or as large from a lower position, and else the new one
names the hold. -/
theorem NamesHold.cons {t r : HoldRequest} {l : List HoldRequest} (ht : NamesHold t l) :
    NamesHold (if r.ticks < t.ticks ∨ (r.ticks = t.ticks ∧ t.position < r.position) then t else r) (r :: l) := by
  obtain ⟨hmem, hall⟩ := ht
  split
  case isTrue hlt =>
    refine ⟨List.mem_cons_of_mem r hmem, List.forall_mem_cons.2 ⟨?_, hall⟩⟩
    omega
  case isFalse hge =>
    refine ⟨List.mem_cons_self, List.forall_mem_cons.2 ⟨⟨Nat.le_refl _, fun _ => Nat.le_refl _⟩, fun x hx => ?_⟩⟩
    obtain ⟨hticks, hpos⟩ := hall x hx
    omega

theorem topRequest_cons {r t : HoldRequest} {l : List HoldRequest} (ht : topRequest l = some t) :
    topRequest (r :: l) = some (if r.ticks < t.ticks ∨ (r.ticks = t.ticks ∧ t.position < r.position) then t else r) := by
  simp only [topRequest, ht, Bool.or_eq_true, Bool.and_eq_true, decide_eq_true_eq, beq_iff_eq]
  split <;> rfl

/-- Of any requests at all, `topRequest` gives the one that names the hold. -/
theorem exists_topRequest {l : List HoldRequest} (hl : l ≠ []) : ∃ q, topRequest l = some q ∧ NamesHold q l := by
  induction l with
  | nil => exact absurd rfl hl
  | cons r l ih =>
    cases l with
    | nil => exact ⟨r, rfl, List.mem_singleton_self r, List.forall_mem_singleton.2 ⟨Nat.le_refl _, fun _ => Nat.le_refl _⟩⟩
    | cons x l =>
      obtain ⟨t, htop, hnames⟩ := ih (List.cons_ne_nil x l)
      exact ⟨_, topRequest_cons htop, hnames.cons⟩

/-- The hold of a window that ended at e, decided from the requests l, of which q names it. -/
def holdPlan (h : TrvHeader) (e : Nat) (l : List HoldRequest) (q : HoldRequest) : HoldPlan :=
  ⟨e + h.holdLead, min 25000 q.ticks, q.cause, min 255 ((l.map (fun r => r.position)).eraseDups).length, q.position, q.queue, q.tag⟩

@[simp] theorem State.lockSend_plans (s : State) (m : LockMsg) : (s.lockSend m).trv.plans = s.trv.plans := rfl
@[simp] theorem State.lockSend_decided (s : State) (m : LockMsg) : (s.lockSend m).trv.decided = s.trv.decided := rfl

/-- The benchmark device decides the hold of a window from the requests it kept and those it was sent, and notes the window as decided (R164). -/
theorem execHoldRequest_decides {s : State} {e : Nat} {others : List HoldRequest} {h : TrvHeader} {q : HoldRequest}
    (hrun : s.runningHdr = some h) (hmaster : s.isMaster = true) (hwindow : e % max 1 h.holdWindow = 0) (hopen : e ∉ s.trv.decided)
    (htime : s.schedTick ≤ e + h.holdLead) (htop : topRequest ((mget s.trv.requests e).getD [] ++ others) = some q) :
    ∃ t, execHoldRequest e others s = .next t ∧ t.trv.decided = s.trv.decided ++ [e] ∧
      t.trv.plans = s.trv.plans ++ [holdPlan h e ((mget s.trv.requests e).getD [] ++ others) q] := by
  have hgoes : (e % max 1 h.holdWindow != 0 || s.trv.decided.contains e || decide (e + h.holdLead < s.schedTick)) = false := by
    simp [hwindow, hopen, htime]
  refine ⟨_, rfl, ?_⟩
  simp only [hrun, hmaster, htop, hgoes, if_true, Bool.false_eq_true, if_false]
  split
  · exact ⟨State.lockSend_decided _ _, State.lockSend_plans _ _⟩
  · exact ⟨rfl, rfl⟩

/-- What is asked of a window that has its hold changes nothing. -/
theorem execHoldRequest_of_decided {s : State} {e : Nat} (more : List HoldRequest) (hdone : e ∈ s.trv.decided) :
    execHoldRequest e more s = .next s := by
  have hcontains : s.trv.decided.contains e = true := List.contains_iff_mem.2 hdone
  unfold execHoldRequest
  congr 1
  cases s.runningHdr with
  | none => rfl
  | some h =>
    dsimp only
    split
    · rfl
    · simp only [hcontains, Bool.or_true, Bool.true_or, if_true]

@[simp] theorem State.bump_trv (s : State) (o : ObjSpec) (i : Nat) : (s.bump o i).trv = s.trv := rfl
@[simp] theorem State.pulse_trv (s : State) (f : Nat) : (s.pulse f).trv = s.trv := rfl

/-- A report writes the dictionary and the error recorder, no part of a traverse. -/
@[simp] theorem State.report_trv (s : State) (src cls cause : Nat) : (s.report src cls cause).trv = s.trv := by
  obtain ⟨-, -, hagrees⟩ :=
    State.report_keeps (P := fun p => p = .dict ∨ p = .fb) (.inl rfl) (.inr rfl) src cls cause (keeps_refl s)
  exact hagrees .trv (by simp)

/-- The hold log takes an entry, reported or not where it is full; the rest of a traverse's state stays. -/
@[simp] theorem State.logHold_trv (s : State) (x : HoldEntry) :
    (s.logHold x).trv = { s.trv with holdLog := keepLast 1024 (s.trv.holdLog ++ [x]) } := by
  unfold State.logHold
  dsimp only
  split
  · exact State.report_trv _ _ _ _
  · rfl

/-- The hold that was decided first starts at its schedule tick, and is logged (R164, R167). -/
theorem execHoldStart_starts {s : State} {p : HoldPlan} {rest : List HoldPlan} (hplans : s.trv.plans = p :: rest) (hheld : s.trv.held = none)
    (hdue : p.sched ≤ s.schedTick) :
    ∃ t, execHoldStart s = .next t ∧ t.trv = { s.trv with
      plans := rest, held := some (s.tick, p.length), holdLog := keepLast 1024 (s.trv.holdLog ++
        [⟨s.frame, s.tick, s.schedTick, p.length, p.cause, p.requesters, p.position, p.queue, p.tag⟩]) } := by
  have hgoes : (s.trv.held.isNone && decide (p.sched ≤ s.schedTick)) = true := by simp [hheld, hdue]
  refine ⟨_, rfl, ?_⟩
  simp only [hplans, hgoes, if_true]
  split
  · rw [State.pulse_trv, State.bump_trv, State.logHold_trv]
  · rw [State.bump_trv, State.logHold_trv]

theorem exec_holdRequest (e : Nat) (others : List HoldRequest) (s : State) : exec (.holdRequest e others) s = execHoldRequest e others s := rfl

theorem exec_holdStart (s : State) : exec .holdStart s = execHoldStart s := rfl

/-- Settles O56: `topRequest` names the hold, a window once decided stays decided, and a start touches of a traverse only what R164 and R167
say. -/
theorem oneHoldForAll : Obligations.OneHoldForAll := by
  unfold Obligations.OneHoldForAll
  intro s e others h hrun
  refine ⟨?_, ?_⟩
  · intro hmaster hwindow hopen htime all hall hcount
    obtain ⟨q, htop, hmem, hnames⟩ := exists_topRequest hall
    obtain ⟨t, hexec, hdecided, hplans⟩ := execHoldRequest_decides hrun hmaster hwindow hopen htime htop
    have hdone : e ∈ t.trv.decided := by simp [hdecided]
    exact ⟨t, _, q, hexec, hplans, fun more => execHoldRequest_of_decided more hdone, hmem, hnames, rfl, rfl, rfl, rfl,
      Nat.min_eq_right hcount⟩
  · intro p rest hplans hheld hdue
    obtain ⟨t, hexec, htrv⟩ := execHoldStart_starts hplans hheld hdue
    exact ⟨t, hexec, by rw [htrv], by rw [htrv], by rw [htrv]⟩

end Sys2Proof.Machine
end

section
/-! Searches of the associative engine: which entry of a half a key finds, and the word that a search leaves (R312). -/

namespace Sys2Proof.Machine

/-- R312: no bit that the entry cares about differs from the key's. -/
theorem camMatches_iff (e : CamEntry) (k : Nat) :
    camMatches e k = true ↔ ∀ b, e.care.testBit b = true → e.value.testBit b = k.testBit b := by
  have hbits : ∀ b, ((e.value ^^^ k) &&& e.care).testBit b = false ↔ (e.care.testBit b = true → e.value.testBit b = k.testBit b) := by
    intro b
    rw [Nat.testBit_and, Nat.testBit_xor]
    cases e.care.testBit b <;> simp
  calc camMatches e k = true ↔ (e.value ^^^ k) &&& e.care = 0 := beq_iff_eq
    _ ↔ ∀ b, ((e.value ^^^ k) &&& e.care).testBit b = false :=
      ⟨fun h b => by rw [h, Nat.zero_testBit], fun h => Nat.eq_of_testBit_eq fun b => by rw [h b, Nat.zero_testBit]⟩
    _ ↔ _ := forall_congr' hbits

/-- Keys rise along a map, so the first pair that a test takes has the lowest key among those it would take. -/
theorem fst_le_of_find?_eq_some {α : Type} {p : Nat × α → Bool} {m : SMap α} {b : Nat} {q : Nat × α} (hm : mwfFrom b m = true)
    (hq : m.find? p = some q) : ∀ r ∈ m, p r = true → q.1 ≤ r.1 := by
  induction m generalizing b with
  | nil => simp
  | cons x m ih =>
    have hle := le_of_mem (x :: m) x.1
    simp only [mwfFrom, Bool.and_eq_true, decide_eq_true_eq, Nat.le_refl, true_and] at hm hle
    obtain ⟨-, hm⟩ := hm
    cases hx : p x with
    | true =>
      obtain rfl : x = q := by simpa [hx] using hq
      exact fun r hr _ => hle hm r hr
    | false =>
      rw [List.find?_cons_of_neg (by simp [hx])] at hq
      exact List.forall_mem_cons.2 ⟨fun h => absurd (hx.symm.trans h) Bool.false_ne_true, ih hm hq⟩

theorem camSearch_eq_none_iff {m : SMap CamEntry} (hm : mwf m = true) (key : Nat) :
    camSearch m key = none ↔ ∀ a e, mget m a = some e → camMatches e key = false := by
  simp [camSearch, mget_eq_some_iff m 0 hm]

/-- The entry that a search gives is the matching one at the lowest address (R312). -/
theorem camSearch_lowest {m : SMap CamEntry} (hm : mwf m = true) {key a : Nat} {e : CamEntry} (h : camSearch m key = some (a, e)) :
    mget m a = some e ∧ camMatches e key = true ∧ ∀ b d, mget m b = some d → camMatches d key = true → a ≤ b :=
  ⟨(mget_eq_some_iff m 0 hm a e).2 (List.mem_of_find?_eq_some h), List.find?_some (p := fun q : Nat × CamEntry => camMatches q.2 key) h,
    fun b d hd hmatch => fst_le_of_find?_eq_some hm h (b, d) (mem_of_mget hd) hmatch⟩

/-- A search finds exactly the matching entry at the lowest address: there is one where any entry matches, and it is unique. -/
theorem camSearch_eq_some_iff {m : SMap CamEntry} (hm : mwf m = true) (key a : Nat) (e : CamEntry) :
    camSearch m key = some (a, e) ↔
      mget m a = some e ∧ camMatches e key = true ∧ ∀ b d, mget m b = some d → camMatches d key = true → a ≤ b := by
  refine ⟨camSearch_lowest hm, ?_⟩
  rintro ⟨hget, hmatch, hlow⟩
  cases hfound : camSearch m key with
  | none =>
    have hmiss := (camSearch_eq_none_iff hm key).1 hfound a e hget
    exact absurd (hmiss.symm.trans hmatch) Bool.false_ne_true
  | some q =>
    obtain ⟨c, d⟩ := q
    obtain ⟨hget', hmatch', hlow'⟩ := camSearch_lowest hm hfound
    obtain rfl : a = c := Nat.le_antisymm (hlow c d hget' hmatch') (hlow' a e hget hmatch)
    obtain rfl : e = d := Option.some.inj (hget.symm.trans hget')
    rfl

/-- The fields of a hit's word: result, address, and HIT above zeros (R312). -/
theorem camResult_fields {a : Nat} (e : CamEntry) (ha : a < 2 ^ 19) :
    camResult (some (a, e)) % 2 ^ 32 = e.result % 2 ^ 32 ∧ camResult (some (a, e)) / 2 ^ 32 % 2 ^ 19 = a ∧
      camResult (some (a, e)) / 2 ^ 51 = 2 ^ 12 := by
  simp only [camResult]
  omega

@[simp] theorem State.cam_bump (s : State) (o : ObjSpec) (i half : Nat) : (s.bump o i).cam half = s.cam half := rfl

/-- A search of no cluster leaves its word as the half's last result (R312). -/
theorem State.searchAdmit_lastResult (s : State) (half : Nat) {w : CamWait} (hw : 256 ≤ w.requester) :
    ((s.searchAdmit half w).cam half).lastResult = camResult (camSearch (s.cam half).entries w.key) := by
  simp only [State.searchAdmit, if_neg (Nat.not_lt.2 hw)]
  split <;> simp

/-- A search that fits the window, with none waiting before it, is admitted at once (R315, R325). -/
theorem State.searchAsk_of_fits {s : State} {half : Nat} {w : CamWait} (hfits : s.searchFits half w.requester = true)
    (hnone : (s.cam half).waiting = []) : s.searchAsk half w = s.searchAdmit half w := by
  simp [State.searchAsk, hfits, hnone]

theorem exec_camSearch (s : State) {half key : Nat} (hhalf : half < 2) (hkey : key < 2 ^ 128) :
    exec (.camSearch half key false) s = .next (s.searchAsk half ⟨256, key, 0, 0⟩) := by
  show execCamSearch half key false s = _
  rw [execCamSearch, if_pos hhalf, Nat.mod_eq_of_lt hkey]
  rfl

/-- Settles O54: entries stand in rising order of their addresses, so the first match is the lowest, and an admitted search stores its word. -/
theorem camPriority : Obligations.CamPriority := by
  unfold Obligations.CamPriority
  intro s half key hhalf hm hrange
  refine ⟨camMatches_iff, camSearch_eq_some_iff hm key, camSearch_eq_none_iff hm key, ?_, rfl, ?_⟩
  · intro a e hfound
    exact camResult_fields e (hrange (a, e) (List.mem_of_find?_eq_some hfound))
  · intro hfits hnone hkey
    refine ⟨_, exec_camSearch s hhalf hkey, ?_⟩
    rw [State.searchAsk_of_fits hfits hnone, State.searchAdmit_lastResult s half (Nat.le_refl 256)]

end Sys2Proof.Machine
end

section
/-! Replies that an association keeps, and a request whose number one of them carries (R525). -/

namespace Sys2Proof.Machine

/-- A reply joins its association's kept ones as the newest, and the oldest beyond 16 goes (R525). -/
theorem State.opdunReply_assocs {s : State} {r : OpdunReply} {x : Assoc} (hx : mget s.mgmt.assocs r.assoc = some x) :
    (s.opdunReply r).mgmt.assocs = mput s.mgmt.assocs r.assoc { x with replies := (r :: x.replies).take 16 } := by
  simp only [State.opdunReply, hx]

@[simp] theorem State.opdunReply_opdunOut (s : State) (r : OpdunReply) :
    (s.opdunReply r).mgmt.opdunOut = r :: s.mgmt.opdunOut := rfl

/-- Where a kept reply carries the request's number, the reply goes out again, and what the request asks for (`go`) is not done (R525). -/
theorem State.request_of_replied {s : State} {f : OpdunHdr} {x : Assoc} {r : OpdunReply} (hserved : s.served f.linkLocal f.hopLimit)
    (hx : mget (s.arrivalWakes 2).mgmt.assocs f.assoc = some x) (hclient : x.client = f.client)
    (hkept : x.replies.find? (fun q => q.req == f.req) = some r) (go : State → Assoc → State) :
    s.request f go = { s.asked f x with
      mgmt := { (s.asked f x).mgmt with opdunOut := { r with port := f.port } :: (s.asked f x).mgmt.opdunOut } } := by
  have hown : (x.client != f.client) = false := by simp [hclient]
  simp only [State.request, datagram_ok hserved, hx, hown, hkept, Bool.false_eq_true, if_false]
  rfl

/-- OD_READ, OD_WRITE, PRESENT and OD_RELEASE are requests of an association: each runs what it asks for through `State.request`. -/
theorem exec_eq_request {c : Instr} {f : OpdunHdr} {v : Octets} (hc : c ∈ [.odRead f, .odWrite f v, .present f v, .odRelease f]) (s : State) :
    ∃ go, exec c s = .next (s.request f go) := by
  simp only [List.mem_cons, List.not_mem_nil, or_false] at hc
  obtain rfl | rfl | rfl | rfl := hc
  · exact ⟨_, (rfl : exec (.odRead f) s = execOdRead f s)⟩
  · exact ⟨_, (rfl : exec (.odWrite f v) s = execOdWrite f v s)⟩
  · exact ⟨_, (rfl : exec (.present f v) s = execPresent f v s)⟩
  · exact ⟨_, (rfl : exec (.odRelease f) s = execOdRelease f s)⟩

/-- Settles O55: a reply is put in front of the 15 newest, and the four commands all pass `State.request`, which answers a number it has
kept before it serves anything. -/
theorem repeatedRequest : Obligations.RepeatedRequest := by
  unfold Obligations.RepeatedRequest
  refine ⟨?_, ?_⟩
  · intro s r x hx
    refine ⟨{ x with replies := (r :: x.replies).take 16 }, ?_, rfl, State.opdunReply_opdunOut s r⟩
    rw [State.opdunReply_assocs hx, mget_mput_self]
  · intro s f x r v c hc hserved hx hclient hkept
    obtain ⟨go, hexec⟩ := exec_eq_request hc s
    rw [hexec, State.request_of_replied hserved hx hclient hkept go]

end Sys2Proof.Machine
end

section
/-! Every command keeps what lies outside its footprint, and a step keeps the invariant: what each meaning writes, put together. -/

namespace Sys2Proof.Machine

/-- Each meaning writes parts of its command's footprint alone, and keeps the queue and the canonical form of the stores: one lemma of Laws/Keeps
for each command. -/
theorem exec_keeps (i : Instr) (s : State) : At (Keeps (fun p => (footprint i).contains p = true) s) Nxt (exec i s) := by
  cases i
  case' datumTick => apply execDatumTick_keeps
  case' frameBoundary => apply execFrameBoundary_keeps
  case' parkTimer => apply execParkTimer_keeps
  case' waitExpired => apply execWaitExpired_keeps
  case' gateExpiry => apply execGateExpiry_keeps
  case' msgTransfer => apply execMsgTransfer_keeps
  case' ctrlRead => apply execCtrlRead_keeps
  case' readData => apply execReadData_keeps
  case' hostReadTimeout => apply execHostReadTimeout_keeps
  case' referencedBytesArrived => apply execReferencedBytesArrived_keeps
  case' ucieHeartbeat => apply execUcieHeartbeat_keeps
  case' heartbeatBlockWrite => apply execHeartbeatBlockWrite_keeps
  case' stationHeartbeatLoss => apply execStationHeartbeatLoss_keeps
  case' ucieLinkDown => apply execUcieLinkDown_keeps
  case' ucieTrainingDone => apply execUcieTrainingDone_keeps
  case' ucieTrainRetry => apply execUcieTrainRetry_keeps
  case' ucieTrainFail => apply execUcieTrainFail_keeps
  case' writePosted => apply execWritePosted_keeps
  case' hello => apply execHello_keeps
  case' goodbye => apply execGoodbye_keeps
  case' ringName => apply execRingName_keeps
  case' objRead => apply execObjRead_keeps
  case' objWrite => apply execObjWrite_keeps
  case' openSession => apply execOpenSession_keeps
  case' close => apply execClose_keeps
  case' append => apply execAppend_keeps
  case' resume => apply execResume_keeps
  case' cancel => apply execCancel_keeps
  case' park => apply execPark_keeps
  case' revive => apply execRevive_keeps
  case' prefixRegister => apply execPrefixRegister_keeps
  case' prefixRelease => apply execPrefixRelease_keeps
  case' checkpoint => apply execCheckpoint_keeps
  case' query => apply execQuery_keeps
  case' insert => apply execInsert_keeps
  case' delete => apply execDelete_keeps
  case' deferredMessagePass => apply execDeferredMessagePass_keeps
  case' deferExpiry => apply execDeferExpiry_keeps
  case' acceptDurable => apply execAcceptDurable_keeps
  case' journalBatchClose => apply execJournalBatchClose_keeps
  case' recordDurable => apply execRecordDurable_keeps
  case' bucketTick => apply execBucketTick_keeps
  case' tokenizeRecord => apply execTokenizeRecord_keeps
  case' textWorkStart => apply execTextWorkStart_keeps
  case' reviveReady => apply execReviveReady_keeps
  case' pressurePark => apply execPressurePark_keeps
  case' shadowReclaim => apply execShadowReclaim_keeps
  case' hashTableRebuild => apply execHashTableRebuild_keeps
  case' moveEngineGrant => apply execMoveEngineGrant_keeps
  case' copy => apply execCopy_keeps
  case' move => apply execMove_keeps
  case' fill => apply execFill_keeps
  case' verify => apply execVerify_keeps
  case' parkBlocks => apply execParkBlocks_keeps
  case' reviveBlocks => apply execReviveBlocks_keeps
  case' descriptorWithdraw => apply execDescriptorWithdraw_keeps
  case' tileLanded => apply execTileLanded_keeps
  case' moveCompletion => apply execMoveCompletion_keeps
  case' t3T4Timeout => apply execT3T4Timeout_keeps
  case' partialUpdate => apply execPartialUpdate_keeps
  case' snapshotCopy => apply execSnapshotCopy_keeps
  case' copyFirst => apply execCopyFirst_keeps
  case' moveCompletionLogRead => apply execMoveCompletionLogRead_keeps
  case' stnT3ExtentWrite => apply execStnT3ExtentWrite_keeps
  case' trvLoad => apply execTrvLoad_keeps
  case' trvLoadDone => apply execTrvLoadDone_keeps
  case' activate => apply execActivate_keeps
  case' unload => apply execUnload_keeps
  case' slotListIssue => apply execSlotListIssue_keeps
  case' slotListReceive => apply execSlotListReceive_keeps
  case' slotListDecision => apply execSlotListDecision_keeps
  case' holdWindowEnd => apply execHoldWindowEnd_keeps
  case' holdRequest => apply execHoldRequest_keeps
  case' holdStart => apply execHoldStart_keeps
  case' holdEnd => apply execHoldEnd_keeps
  case' holdLogRead => apply execHoldLogRead_keeps
  case' faultNotice => apply execFaultNotice_keeps
  case' datumLock => apply execDatumLock_keeps
  case' datumLocked => apply execDatumLocked_keeps
  case' datumLockFail => apply execDatumLockFail_keeps
  case' datumHoldover => apply execDatumHoldover_keeps
  case' holdoverTimeout => apply execHoldoverTimeout_keeps
  case' benchmarkTakeover => apply execBenchmarkTakeover_keeps
  case' moveProgramIssue => apply execMoveProgramIssue_keeps
  case' gatherRecord => apply execGatherRecord_keeps
  case' appendEntry => apply execAppendEntry_keeps
  case' traverseSearch => apply execTraverseSearch_keeps
  case' scrub => apply execScrub_keeps
  case' coreFaultDetect => apply execCoreFaultDetect_keeps
  case' add => apply execAdd_keeps
  case' sub => apply execSub_keeps
  case' and => apply execAnd_keeps
  case' or => apply execOr_keeps
  case' xor => apply execXor_keeps
  case' shl => apply execShl_keeps
  case' shr => apply execShr_keeps
  case' sar => apply execSar_keeps
  case' li => apply execLi_keeps
  case' mov => apply execMov_keeps
  case' mul => apply execMul_keeps
  case' mulh => apply execMulh_keeps
  case' eq => apply execEq_keeps
  case' ne => apply execNe_keeps
  case' lt => apply execLt_keeps
  case' ltu => apply execLtu_keeps
  case' ge => apply execGe_keeps
  case' geu => apply execGeu_keeps
  case' predAnd => apply execPredAnd_keeps
  case' predOr => apply execPredOr_keeps
  case' predNot => apply execPredNot_keeps
  case' loop => apply execLoop_keeps
  case' endloop => apply execEndloop_keeps
  case' tbl => apply execTbl_keeps
  case' status => apply execStatus_keeps
  case' fadd => apply execFadd_keeps
  case' fsub => apply execFsub_keeps
  case' fmul => apply execFmul_keeps
  case' fma => apply execFma_keeps
  case' fms => apply execFms_keeps
  case' fmin => apply execFmin_keeps
  case' fmax => apply execFmax_keeps
  case' fabs => apply execFabs_keeps
  case' fneg => apply execFneg_keeps
  case' fcmp => apply execFcmp_keeps
  case' vintAdd => apply execVintAdd_keeps
  case' vintSub => apply execVintSub_keeps
  case' vintAnd => apply execVintAnd_keeps
  case' vintOr => apply execVintOr_keeps
  case' vintXor => apply execVintXor_keeps
  case' vintShl => apply execVintShl_keeps
  case' vintShr => apply execVintShr_keeps
  case' vintSar => apply execVintSar_keeps
  case' rotl => apply execRotl_keeps
  case' mullo => apply execMullo_keeps
  case' mulhi => apply execMulhi_keeps
  case' cvtFp32Bf16 => apply execCvtFp32Bf16_keeps
  case' cvtBf16Fp32 => apply execCvtBf16Fp32_keeps
  case' cvtFp32Int32 => apply execCvtFp32Int32_keeps
  case' cvtInt32Fp32 => apply execCvtInt32Fp32_keeps
  case' mxpack => apply execMxpack_keeps
  case' mxunpack => apply execMxunpack_keeps
  case' exp2 => apply execExp2_keeps
  case' rcp => apply execRcp_keeps
  case' rsq => apply execRsq_keeps
  case' rsum => apply execRsum_keeps
  case' rmax => apply execRmax_keeps
  case' rmin => apply execRmin_keeps
  case' laneShuffle => apply execLaneShuffle_keeps
  case' laneBroadcast => apply execLaneBroadcast_keeps
  case' vmsel => apply execVmsel_keeps
  case' vmpop => apply execVmpop_keeps
  case' mma => apply execMma_keeps
  case' mrd => apply execMrd_keeps
  case' mzero => apply execMzero_keeps
  case' ld => apply execLd_keeps
  case' st => apply execSt_keeps
  case' lds => apply execLds_keeps
  case' sts => apply execSts_keeps
  case' cld => apply execCld_keeps
  case' cst => apply execCst_keeps
  case' mldA => apply execMldA_keeps
  case' mldB => apply execMldB_keeps
  case' mldVt => apply execMldVt_keeps
  case' put => apply execPut_keeps
  case' twalk => apply execTwalk_keeps
  case' syncAdd => apply execSyncAdd_keeps
  case' syncSet => apply execSyncSet_keeps
  case' syncClear => apply execSyncClear_keeps
  case' waitCount => apply execWaitCount_keeps
  case' waitEvent => apply execWaitEvent_keeps
  case' waitRound => apply execWaitRound_keeps
  case' arrive => apply execArrive_keeps
  case' syncWaitTimeout => apply execSyncWaitTimeout_keeps
  case' groupSyncUpdate => apply execGroupSyncUpdate_keeps
  case' stnSyncDefine => apply execStnSyncDefine_keeps
  case' stnSyncDelete => apply execStnSyncDelete_keeps
  case' stnSyncAdd => apply execStnSyncAdd_keeps
  case' stnSyncSet => apply execStnSyncSet_keeps
  case' stnSyncClear => apply execStnSyncClear_keeps
  case' stnSyncArrive => apply execStnSyncArrive_keeps
  case' mdlLoad => apply execMdlLoad_keeps
  case' mdlLoadDone => apply execMdlLoadDone_keeps
  case' mdlUnload => apply execMdlUnload_keeps
  case' dictLoad => apply execDictLoad_keeps
  case' dictUnload => apply execDictUnload_keeps
  case' gpLoad => apply execGpLoad_keeps
  case' gpUnload => apply execGpUnload_keeps
  case' stopSetWrite => apply execStopSetWrite_keeps
  case' camSearch => apply execCamSearch_keeps
  case' camInsert => apply execCamInsert_keeps
  case' camRemove => apply execCamRemove_keeps
  case' orderedInsert => apply execOrderedInsert_keeps
  case' searchWindow => apply execSearchWindow_keeps
  case' throttleUpdate => apply execThrottleUpdate_keeps
  case' create => apply execCreate_keeps
  case' vxLoad => apply execVxLoad_keeps
  case' drop => apply execDrop_keeps
  case' vxQueryStart => apply execVxQueryStart_keeps
  case' insertLink => apply execInsertLink_keeps
  case' epochAdvance => apply execEpochAdvance_keeps
  case' repairSweep => apply execRepairSweep_keeps
  case' arInsert => apply execArInsert_keeps
  case' arRemove => apply execArRemove_keeps
  case' glCommit => apply execGlCommit_keeps
  case' gateListEntry => apply execGateListEntry_keeps
  case' bucketWrite => apply execBucketWrite_keeps
  case' compaction => apply execCompaction_keeps
  case' witnessLapse => apply execWitnessLapse_keeps
  case' witnessProbe => apply execWitnessProbe_keeps
  case' witnessCopyDone => apply execWitnessCopyDone_keeps
  case' channelFailed => apply execChannelFailed_keeps
  case' declareFailed => apply execDeclareFailed_keeps
  case' retrain => apply execRetrain_keeps
  case' rebuild => apply execRebuild_keeps
  case' channelRebuildDone => apply execChannelRebuildDone_keeps
  case' stackFailed => apply execStackFailed_keeps
  case' chainHeartbeatLoss => apply execChainHeartbeatLoss_keeps
  case' halfLost => apply execHalfLost_keeps
  case' adopt => apply execAdopt_keeps
  case' errorRecorderTake => apply execErrorRecorderTake_keeps
  case' coalesceFlush => apply execCoalesceFlush_keeps
  case' errRead => apply execErrRead_keeps
  case' errClear => apply execErrClear_keeps
  case' ckCheckpoint => apply execCkCheckpoint_keeps
  case' abort => apply execAbort_keeps
  case' shardWrite => apply execShardWrite_keeps
  case' manifestWrite => apply execManifestWrite_keeps
  case' checkpointComplete => apply execCheckpointComplete_keeps
  case' restore => apply execRestore_keeps
  case' codewordFecFail => apply execCodewordFecFail_keeps
  case' ack => apply execAck_keeps
  case' nak => apply execNak_keeps
  case' linkParam => apply execLinkParam_keeps
  case' echo => apply execEcho_keeps
  case' portTrainingTimeout => apply execPortTrainingTimeout_keeps
  case' portRetrain => apply execPortRetrain_keeps
  case' portUp => apply execPortUp_keeps
  case' lossOfSignal => apply execLossOfSignal_keeps
  case' laneFailed => apply execLaneFailed_keeps
  case' heartbeat => apply execHeartbeat_keeps
  case' portHeartbeatLoss => apply execPortHeartbeatLoss_keeps
  case' sessionMsg => apply execSessionMsg_keeps
  case' sessionReply => apply execSessionReply_keeps
  case' ringWrite => apply execRingWrite_keeps
  case' eventRelay => apply execEventRelay_keeps
  case' leaseRequest => apply execLeaseRequest_keeps
  case' leaseGrant => apply execLeaseGrant_keeps
  case' leaseRecall => apply execLeaseRecall_keeps
  case' leaseRelease => apply execLeaseRelease_keeps
  case' t4Read => apply execT4Read_keeps
  case' t4Data => apply execT4Data_keeps
  case' t4Write => apply execT4Write_keeps
  case' t4Done => apply execT4Done_keeps
  case' witnessAppend => apply execWitnessAppend_keeps
  case' witnessDurable => apply execWitnessDurable_keeps
  case' witnessTrim => apply execWitnessTrim_keeps
  case' propose => apply execPropose_keeps
  case' platPropose => apply execPlatPropose_keeps
  case' platAccept => apply execPlatAccept_keeps
  case' platCommit => apply execPlatCommit_keeps
  case' platVoteTimeout => apply execPlatVoteTimeout_keeps
  case' platJoin => apply execPlatJoin_keeps
  case' platFetch => apply execPlatFetch_keeps
  case' platImage => apply execPlatImage_keeps
  case' peerReport => apply execPeerReport_keeps
  case' handover => apply execHandover_keeps
  case' drain => apply execDrain_keeps
  case' handoverAck => apply execHandoverAck_keeps
  case' moved => apply execMoved_keeps
  case' platDrainTimeout => apply execPlatDrainTimeout_keeps
  case' platEpochStale => apply execPlatEpochStale_keeps
  case' handoverPull => apply execHandoverPull_keeps
  case' release => apply execRelease_keeps
  case' compositionWrite => apply execCompositionWrite_keeps
  case' associate => apply execAssociate_keeps
  case' odRead => apply execOdRead_keeps
  case' odWrite => apply execOdWrite_keeps
  case' present => apply execPresent_keeps
  case' odRelease => apply execOdRelease_keeps
  case' discover => apply execDiscover_keeps
  case' opdunIdleTimeout => apply execOpdunIdleTimeout_keeps
  case' opdunFragmentTimeout => apply execOpdunFragmentTimeout_keeps
  case' getId => apply execGetId_keeps
  case' getVersion => apply execGetVersion_keeps
  case' getTemp => apply execGetTemp_keeps
  case' getPower => apply execGetPower_keeps
  case' readLog => apply execReadLog_keeps
  case' clearLog => apply execClearLog_keeps
  case' readReg => apply execReadReg_keeps
  case' writeReg => apply execWriteReg_keeps
  case' fwChunk => apply execFwChunk_keeps
  case' fwVerify => apply execFwVerify_keeps
  case' fwCommit => apply execFwCommit_keeps
  case' getFence => apply execGetFence_keeps
  case' getPlat => apply execGetPlat_keeps
  case' stnCapStage => apply execStnCapStage_keeps
  case' tkCommit => apply execTkCommit_keeps
  case' tkClear => apply execTkClear_keeps
  case' stage => apply execStage_keeps
  case' fwChunkWrite => apply execFwChunkWrite_keeps
  case' fwCmdVerify => apply execFwCmdVerify_keeps
  case' fwActivate => apply execFwActivate_keeps
  case' confirm => apply execConfirm_keeps
  case' erase => apply execErase_keeps
  case' fwTrialTimeout => apply execFwTrialTimeout_keeps
  case' attNonceWrite => apply execAttNonceWrite_keeps
  case' attestReady => apply execAttestReady_keeps
  case' calSet => apply execCalSet_keeps
  case' calendarSecond => apply execCalendarSecond_keeps
  case' persistProgrammed => apply execPersistProgrammed_keeps
  case' objectWrite => apply execObjectWrite_keeps
  case' fenceCore => apply execFenceCore_keeps
  case' fenceCluster => apply execFenceCluster_keeps
  case' clearCluster => apply execClearCluster_keeps
  case' clusterSelfTestDone => apply execClusterSelfTestDone_keeps
  case' deepSleep => apply execDeepSleep_keeps
  case' autonomousDeepSleep => apply execAutonomousDeepSleep_keeps
  case' deepSleepWake => apply execDeepSleepWake_keeps
  case' warmReset => apply execWarmReset_keeps
  case' resetHalf0 => apply execResetHalf0_keeps
  case' resetHalf1 => apply execResetHalf1_keeps
  case' wakeWindow => apply execWakeWindow_keeps
  case' clusterWakeDone => apply execClusterWakeDone_keeps
  case' powerGovernorTick => apply execPowerGovernorTick_keeps
  case' thermalCheck => apply execThermalCheck_keeps
  case' thermalTrip => apply execThermalTrip_keeps
  case' hwTrip => apply execHwTrip_keeps
  case' powerOn => apply execPowerOn_keeps
  case' resetN => apply execResetN_keeps
  case' strapSample => apply execStrapSample_keeps
  case' stakeSlot => apply execStakeSlot_keeps
  case' supplyFault => apply execSupplyFault_keeps
  case' coreVoltageStep => apply execCoreVoltageStep_keeps
  case' holdoverRelock => apply execHoldoverRelock_keeps
  case' managementWatchdog => apply execManagementWatchdog_keeps
  case' ucieModuleSleep => apply execUcieModuleSleep_keeps
  case' pinGlitch => apply execPinGlitch_keeps
  case' chainReturn => apply execChainReturn_keeps
  case' neighbourDiscovery => apply execNeighbourDiscovery_keeps
  case' calendarOscillatorStopped => apply execCalendarOscillatorStopped_keeps
  case' intakeInService => apply execIntakeInService_keeps
  all_goals first
    | exact rfl
    | exact keeps_refl s

theorem step_of_nil {s : State} (h : s.pending = []) : step s = .next s := by
  unfold step
  rw [h]

theorem step_of_cons {s : State} {c : Instr} {r : List Instr} (h : s.pending = c :: r) : step s = exec c { s with pending := r } := by
  unfold step
  rw [h]

/-- Settles O60: the command at the front keeps the queue's rest and the canonical form of the stores (`exec_keeps`). -/
theorem invariantKept : Obligations.InvariantKept := by
  unfold Obligations.InvariantKept
  rintro s ⟨hwell, hstores⟩
  cases hqueue : s.pending with
  | nil => exact ⟨s, step_of_nil hqueue, ⟨hwell, hstores⟩, hqueue⟩
  | cons c r =>
    obtain ⟨t, hexec, hpending, hkept, -⟩ := exec_keeps c { s with pending := r }
    have hrest : t.pending = r := hpending
    refine ⟨t, (step_of_cons hqueue).trans hexec, ⟨fun d hd => hwell d ?_, hkept hstores⟩, hrest⟩
    rw [hqueue]
    exact List.mem_cons_of_mem c (hrest ▸ hd)

/-- Settles O52: the two branches of `step`. -/
theorem stepTakesTheFront : Obligations.StepTakesTheFront := by
  unfold Obligations.StepTakesTheFront
  exact fun _ _ _ => ⟨step_of_cons, step_of_nil⟩

end Sys2Proof.Machine

namespace Sys2Proof

/-- Settles O59: what a command keeps is read off `Machine.exec_keeps`. -/
theorem footprint : Obligations.Footprint := by
  unfold Obligations.Footprint
  intro i s
  obtain ⟨t, hexec, hpending, -, hagrees⟩ := Machine.exec_keeps i s
  exact ⟨t, hexec, hpending, fun p hp => hagrees p (hp ∘ List.contains_iff_mem.1)⟩

end Sys2Proof
end

section
/-! Session numbers (R33): the index that a half gives out is free, and its next generation is one more. -/

namespace Sys2Proof.Machine

/-- The free index of a half that is found from the n-th of its indices on, or else from its first. -/
def indexFrom (tab : SMap Session) (half n : Nat) : Option Nat :=
  let base := Config.indicesPerHalf * half
  let a := mfreeFrom tab (base + n % Config.indicesPerHalf)
  let b := mfreeFrom tab base
  if a < Config.indicesPerHalf + base then some a else if b < Config.indicesPerHalf + base then some b else none

theorem State.takeIndex_eq (s : State) (half : Nat) :
    s.takeIndex half = (indexFrom s.ses.tab half (Config.pick s.free)).map (fun i =>
      (i, (mget s.ses.gens i).getD 0, { s with
        free := s.free + 1, ses := { s.ses with gens := mput s.ses.gens i (nextGen i ((mget s.ses.gens i).getD 0)) } })) := rfl

/-- The index found is free and lies in the half's range. -/
theorem indexFrom_spec {tab : SMap Session} {half n i : Nat} (hm : mwf tab = true) (h : indexFrom tab half n = some i) :
    mget tab i = none ∧ Config.indicesPerHalf * half ≤ i ∧ i < Config.indicesPerHalf + Config.indicesPerHalf * half := by
  simp only [indexFrom] at h
  split at h
  · obtain rfl := Option.some.inj h
    exact ⟨mget_mfreeFrom tab 0 _ hm, Nat.le_trans (Nat.le_add_right _ _) (le_mfreeFrom tab _), ‹_›⟩
  · split at h
    · obtain rfl := Option.some.inj h
      exact ⟨mget_mfreeFrom tab 0 _ hm, le_mfreeFrom tab _, ‹_›⟩
    · cases h

/-- The index that a half gives out comes with the generation it takes next, which moves on. -/
theorem State.takeIndex_spec {s t : State} {half i g : Nat} (hm : mwf s.ses.tab = true) (h : s.takeIndex half = some (i, g, t)) :
    mget s.ses.tab i = none ∧ Config.indicesPerHalf * half ≤ i ∧ i < Config.indicesPerHalf + Config.indicesPerHalf * half ∧
      g = (mget s.ses.gens i).getD 0 ∧ t.ses.gens = mput s.ses.gens i (nextGen i g) := by
  simp only [State.takeIndex_eq, Option.map_eq_some_iff, Prod.mk.injEq] at h
  obtain ⟨i, hfrom, rfl, rfl, rfl⟩ := h
  obtain ⟨hfree, hlow, hhigh⟩ := indexFrom_spec hm hfrom
  exact ⟨hfree, hlow, hhigh, rfl, rfl⟩

/-- A generation stays below 256, and index 0xFFFFFF never takes 0xFF. -/
def GenOk (i g : Nat) : Prop := g < 256 ∧ (g = 255 → i ≠ 0xFFFFFF)

theorem nextGen_eq {i g : Nat} (h : GenOk i g) : nextGen i g = if g = 255 ∨ (i = 0xFFFFFF ∧ g = 254) then 0 else g + 1 := by
  obtain ⟨hlt, -⟩ := h
  simp only [nextGen, Bool.and_eq_true, beq_iff_eq]
  split <;> split <;> omega

theorem genOk_nextGen {i g : Nat} (h : GenOk i g) : GenOk i (nextGen i g) := by
  rw [nextGen_eq h]
  obtain ⟨hlt, -⟩ := h
  unfold GenOk
  split <;> omega

/-- Settles O57: the index is free and of its half (`State.takeIndex_spec`), and its generation moves on as `nextGen` says. -/
theorem generationsAdvance : Obligations.GenerationsAdvance := by
  unfold Obligations.GenerationsAdvance
  intro s t half i g hhalf hm hgens htake
  obtain ⟨hfree, hlow, hhigh, rfl, hnext⟩ := State.takeIndex_spec hm htake
  have hok : GenOk i ((mget s.ses.gens i).getD 0) := hgens i
  have hnew : mget t.ses.gens i = some (nextGen i ((mget s.ses.gens i).getD 0)) := by rw [hnext, mget_mput_self]
  have hold : ∀ j, j ≠ i → mget t.ses.gens j = mget s.ses.gens j := fun j hj => by rw [hnext, mget_mput_ne _ _ _ _ hj]
  simp only [Config.indicesPerHalf] at hlow hhigh
  refine ⟨hfree, by omega, rfl, by rw [hnew, nextGen_eq hok], hold, fun j => ?_, ?_⟩
  · by_cases hj : j = i
    · subst hj
      rw [hnew]
      exact genOk_nextGen hok
    · rw [hold j hj]
      exact hgens j
  · obtain ⟨hlt, hlast⟩ := hok
    omega

end Sys2Proof.Machine
end

section
/-! Results in flight (R176, R185): what an S register reads once the results that are due have been written. -/

namespace Sys2Proof.Machine

/-- What S register r reads as after a result is written, where it read as `old` before. -/
def WbVal.sregAfter (v : WbVal) (r : Nat) (old : SWord) : SWord :=
  match v with
  | .sreg d x => if d = r ∧ r ≠ 0 then x else old
  | _ => old

theorem Core.sreg_write (c : Core) (v : WbVal) (r : Nat) : (c.write v).sreg r = v.sregAfter r (c.sreg r) := by
  cases v with
  | sreg d x =>
    simp only [Core.write, WbVal.sregAfter, beq_iff_eq]
    by_cases hd : d = 0
    · rw [if_pos hd, if_neg (by omega)]
    · rw [if_neg hd]
      simp only [Core.sreg, getD_mputD, beq_iff_eq]
      by_cases hr : d = r
      · subst hr
        simp [hd]
      · simp [hr, Ne.symm hr]
  | preg d x m =>
    simp only [Core.write, WbVal.sregAfter]
    split <;> rfl
  | _ => rfl

theorem Core.sreg_writes (l : List WriteBack) (c : Core) (r : Nat) :
    (l.foldl (fun y w => y.write w.val) c).sreg r = l.foldl (fun x w => w.val.sregAfter r x) (c.sreg r) := by
  induction l generalizing c with
  | nil => rfl
  | cons w l ih => rw [List.foldl_cons, List.foldl_cons, ih, Core.sreg_write]

/-- A result is due at an issue in cycle n: registers up to n, stores before n. -/
def WriteBack.dueAt (n : Nat) (w : WriteBack) : Bool := if w.val.isStore then decide (w.cycle < n) else decide (w.cycle ≤ n)

theorem Core.sreg_settle (c : Core) (n r : Nat) :
    (c.settle n).sreg r = (c.flight.filter (WriteBack.dueAt n)).foldl (fun x w => w.val.sregAfter r x) (c.sreg r) :=
  Core.sreg_writes _ _ r

theorem mem_insertWb {w x : WriteBack} {l : List WriteBack} : x ∈ insertWb w l ↔ x = w ∨ x ∈ l := by
  induction l with
  | nil => simp [insertWb]
  | cons v l ih =>
    unfold insertWb
    split
    · simp
    · simp only [List.mem_cons, ih]
      exact or_left_comm

theorem filter_insertWb {p : WriteBack → Bool} {w : WriteBack} (hw : p w = false) (l : List WriteBack) :
    (insertWb w l).filter p = l.filter p := by
  induction l with
  | nil => simp [insertWb, hw]
  | cons v l ih =>
    unfold insertWb
    split
    · simp [hw]
    · rw [List.filter_cons, List.filter_cons, ih]

/-- Of results that each leave register d alone or give it v, those that give it v decide. -/
theorem foldl_sregAfter {d : Nat} {v : SWord} {l : List WriteBack} {x : SWord}
    (hall : ∀ w ∈ l, (∀ y, w.val.sregAfter d y = v) ∨ ∀ y, w.val.sregAfter d y = y) (hx : x = v ∨ ∃ w ∈ l, ∀ y, w.val.sregAfter d y = v) :
    l.foldl (fun x w => w.val.sregAfter d x) x = v := by
  induction l generalizing x with
  | nil => simpa using hx
  | cons w l ih =>
    obtain ⟨hw, hl⟩ := List.forall_mem_cons.1 hall
    refine ih hl ?_
    rcases hw with hw | hw
    · exact .inl (hw x)
    · show w.val.sregAfter d x = v ∨ _
      rw [hw]
      rcases hx with hx | ⟨u, hu, hv⟩
      · exact .inl hx
      · rcases List.mem_cons.1 hu with rfl | hu
        · exact .inl ((hw x).symm.trans (hv x))
        · exact .inr ⟨u, hu, hv⟩

theorem sregAfter_self {d : Nat} (hd : d ≠ 0) (v y : SWord) : (WbVal.sreg d v).sregAfter d y = v := if_pos ⟨rfl, hd⟩

theorem sregAfter_other {d : Nat} {v : WbVal} (h : ∀ x, v ≠ .sreg d x) (y : SWord) : v.sregAfter d y = y := by
  cases v with
  | sreg e x => exact if_neg fun he => h x (by rw [he.1])
  | _ => rfl

/-- Settles O58: a result that is not due is filtered out, and the one result for a register decides what the register reads. -/
theorem resultsLand : Obligations.ResultsLand := by
  unfold Obligations.ResultsLand
  intro c slot latency d n v
  refine ⟨fun hlate r => ?_, fun hdue hd hothers => ?_, rfl⟩
  · have hnot : WriteBack.dueAt (c.cycle + n) ⟨c.cycle + latency, slot, .sreg d v⟩ = false := by
      simp [WriteBack.dueAt, WbVal.isStore, hlate]
    rw [Core.sreg_settle, Core.sreg_settle, Core.result, filter_insertWb hnot]
    rfl
  · rw [Core.sreg_settle]
    refine foldl_sregAfter (fun w hw => ?_) (.inr ⟨⟨c.cycle + latency, slot, .sreg d v⟩, ?_, sregAfter_self hd v⟩)
    · rcases mem_insertWb.1 (List.mem_filter.1 hw).1 with rfl | hw
      · exact .inl (sregAfter_self hd v)
      · exact .inr (sregAfter_other (hothers w hw))
    · refine List.mem_filter.2 ⟨mem_insertWb.2 (.inl rfl), ?_⟩
      simp [WriteBack.dueAt, WbVal.isStore, hdue]

end Sys2Proof.Machine
end

section
/-! The datum and the frame clock, the loss of a half or of the chain, and adoption (R145, R150, R407, R425, R426). -/

namespace Sys2Proof.Machine

/-- The parts beside the datum counter and the frame's number and start. -/
def OffClock (p : Part) : Prop := p ≠ .tick ∧ p ≠ .frame ∧ p ≠ .frameStart

theorem offClock {p : Part} (h : p ≠ .tick ∧ p ≠ .frame ∧ p ≠ .frameStart := by decide) : OffClock p := h

theorem Keeps.clock {s t : State} (h : At (Keeps OffClock s) It t) :
    t.tick = s.tick ∧ t.frame = s.frame ∧ t.frameStart = s.frameStart ∧ t.pending = s.pending := by
  obtain ⟨hpending, -, hagrees⟩ := h
  exact ⟨hagrees .tick (by simp [OffClock]), hagrees .frame (by simp [OffClock]), hagrees .frameStart (by simp [OffClock]), hpending⟩

/-- A write off the clock that leaves the cores alone. -/
theorem Keeps.setOffClock {s t u : State} (h : At (Keeps OffClock s) It t) (htick : u.tick = t.tick) (hframe : u.frame = t.frame)
    (hstart : u.frameStart = t.frameStart) (hpending : u.pending = t.pending) (hcore : u.core = t.core) : At (Keeps OffClock s) It u := by
  obtain ⟨htick', hframe', hstart', hpending'⟩ := Keeps.clock h
  refine ⟨hpending.trans hpending', fun hs => ?_, fun p hp => ?_⟩
  · have hstores : t.stores := h.2.1 hs
    rwa [State.stores, hcore]
  · cases p with
    | tick => exact htick.trans htick'
    | frame => exact hframe.trans hframe'
    | frameStart => exact hstart.trans hstart'
    | _ => exact absurd offClock hp

/-- What a frame does once its number and start are set leaves them. -/
theorem startFrame_clock (s : State) (e : Nat) :
    (s.startFrame e).tick = s.tick ∧ (s.startFrame e).frame = s.frame + 1 ∧ (s.startFrame e).frameStart = e ∧
      (s.startFrame e).pending = s.pending := by
  unfold State.startFrame
  extract_lets s1 s2 trv2 s3 s4 s5 trv5 s6 s7 s8 trv8 sync8 s9
  have h1 : At (Keeps OffClock s) It s1 :=
    State.dropStreams_keeps offClock (State.resetCores_keeps offClock (State.clusterSettleAll_keeps offClock (keeps_refl s)))
  have h3 : At (Keeps OffClock s2) It s3 := Keeps.setOffClock (keeps_refl s2) rfl rfl rfl rfl rfl
  have h4 : At (Keeps OffClock s2) It s4 := by
    apply State.takeList_keeps offClock offClock offClock offClock
    apply State.activate_keeps
    case hs => exact h3
    all_goals exact offClock
  have h5 : At (Keeps OffClock s2) It s5 := State.queueSharers_keeps offClock offClock offClock offClock h4
  clear_value s5 s4 s3
  have h6 : At (Keeps OffClock s2) It s6 := by
    simp only [s6]
    split
    · next i l _ _ _ =>
      have hrows : At (Keeps OffClock s2) It (s5.layRows i l) := by
        apply State.layRows_keeps
        case hs => exact h5
        all_goals exact offClock
      have hsync := At.foldl (l := i.syncs.filter (fun (y : SyncInit) => !y.persist))
        (fun _ y hb => State.putSyncInit_keeps offClock y hb) hrows
      apply State.frameMasks_keeps
      case hs => exact hsync
      all_goals exact offClock
    · exact Keeps.setOffClock h5 rfl rfl rfl rfl rfl
  clear_value s6
  have h7 : At (Keeps OffClock s2) It s7 :=
    At.foldl (fun _ k hb => At.ite (State.setReady_keeps offClock k none hb) hb) h6
  clear_value s7
  have h8 : At (Keeps OffClock s2) It s8 := State.backToQueue_keeps offClock h7
  have h9 : At (Keeps OffClock s2) It s9 := Keeps.setOffClock h8 rfl rfl rfl rfl rfl
  clear_value s9 s8
  obtain ⟨htick, hframe, -, hpending⟩ := Keeps.clock h1
  obtain ⟨htick', hframe', hstart', hpending'⟩ :=
    Keeps.clock (State.gateFrame_keeps offClock offClock 1 (State.gateFrame_keeps offClock offClock 0 h9))
  exact ⟨htick'.trans htick, hframe'.trans (congrArg (· + 1) hframe), hstart', hpending'.trans hpending⟩

/-- A boundary ends the frame with its datum, number and queue unchanged, and starts the next one at the tick where it ends (R145, R150). -/
theorem boundary_clock (s : State) (cons : List (Nat × Nat)) (outs : List RowOutcome) :
    (s.boundary cons outs).tick = s.tick ∧ (s.boundary cons outs).frame = s.frame + 1 ∧
      (s.boundary cons outs).frameStart = s.frameEnd ∧ (s.boundary cons outs).pending = s.pending := by
  have hend : At (Keeps OffClock s) It (((s.endFrame cons outs).takeRwf).boundaryState) := by
    apply State.boundaryState_keeps
    case hs =>
      apply State.takeRwf_keeps
      case hs =>
        apply State.endFrame_keeps
        case hs => exact keeps_refl s
        all_goals exact offClock
      all_goals exact offClock
    all_goals exact offClock
  obtain ⟨htick, hframe, -, hpending⟩ := Keeps.clock hend
  obtain ⟨htick', hframe', hstart', hpending'⟩ := startFrame_clock (((s.endFrame cons outs).takeRwf).boundaryState) s.frameEnd
  unfold State.boundary
  extract_lets t
  have htail : At (Keeps OffClock ((((s.endFrame cons outs).takeRwf).boundaryState).startFrame s.frameEnd)) It
      (if s.grouped && s.runningHdr.isSome then t.lockSend (.outcomes s.frame (rowOutcomes s t)) else t) := by
    have ht : At (Keeps OffClock ((((s.endFrame cons outs).takeRwf).boundaryState).startFrame s.frameEnd)) It t := by
      apply State.boundaryTail_keeps
      case hs => exact keeps_refl _
      all_goals exact offClock
    exact At.ite (State.lockSend_keeps offClock _ ht) ht
  obtain ⟨htick'', hframe'', hstart'', hpending''⟩ := Keeps.clock htail
  exact ⟨htick''.trans (htick'.trans htick), hframe''.trans (hframe'.trans (congrArg (· + 1) hframe)), hstart''.trans hstart',
    hpending''.trans (hpending'.trans hpending)⟩

theorem readDescs_clock (s : State) (l : List (Nat × Octets)) : At (Keeps OffClock s) It (s.readDescs l) :=
  State.readDescs_keeps offClock offClock offClock offClock offClock offClock offClock offClock l (keeps_refl s)

/-- Two states that agree on all parts but the dictionary, the field book and the power state differ in these alone. -/
theorem eq_of_agrees {s t : State} (hpending : t.pending = s.pending) (h : ∀ p, p ≠ .dict → p ≠ .fb → p ≠ .pwr → s.agrees t p) :
    t = { s with dict := t.dict, fb := t.fb, pwr := t.pwr } := by
  cases s
  cases t
  simp only [State.mk.injEq, true_and]
  exact ⟨h .tick nofun nofun nofun, h .frame nofun nofun nofun, h .frameStart nofun nofun nofun, h .mgmt nofun nofun nofun, h .stn nofun
    nofun nofun, h .ses nofun nofun nofun, h .tier nofun nofun nofun, h .shape nofun nofun nofun, h .trv nofun nofun nofun, h .core
    nofun nofun nofun, h .text nofun nofun nofun, h .srch nofun nofun nofun, h .sync nofun nofun nofun, h .ck nofun nofun nofun, h
    .fab nofun nofun nofun, hpending, h .free nofun nofun nofun⟩

theorem execDatumTick_ticks (s : State) :
    ∃ t, exec .datumTick s = .next t ∧ t = { s with tick := (s.tick + 1) % 2 ^ 64, pwr := t.pwr, fb := t.fb, dict := t.dict } := by
  refine ⟨_, rfl, ?_⟩
  obtain ⟨hpending, -, hagrees⟩ := State.quietTick_keeps (P := fun p => p = .dict ∨ p = .fb ∨ p = .pwr) (.inr (.inr rfl))
    (State.rebuildTick_keeps (.inl rfl) (.inr (.inl rfl)) (keeps_refl { s with tick := (s.tick + 1) % 2 ^ 64 }))
  exact eq_of_agrees (s := { s with tick := (s.tick + 1) % 2 ^ 64 }) hpending fun p hdict hfb hpwr => hagrees p (by simp [*])

theorem execHalfLost_whole {s : State} {h : Nat} {cons : List (Nat × Nat)} (hh : h < 2) (h0 : s.fb.half0Lost = false) (h1 : s.fb.half1Lost = false) :
    exec (.halfLost h cons) s = .next (s.halfLost h cons) := by
  show execHalfLost h cons s = _
  simp [execHalfLost, hh, h0, h1]

theorem execHalfLost_again {s : State} {h : Nat} {cons : List (Nat × Nat)} (hlost : s.fb.half0Lost = true ∨ s.fb.half1Lost = true) :
    exec (.halfLost h cons) s = .next s := by
  show execHalfLost h cons s = _
  rcases hlost with h | h <;> simp [execHalfLost, h]

theorem execAdopt_ok {s : State} {w : Writer} {book : Option Octets} {recs : List Rec} (h : s.accepts w Ob.fb_adopt_command 0 [1])
    (hbook : book.bind parseBook = some recs) :
    exec (.adopt w book) s = .next (((s.adopt recs).setObj Ob.fb_adopt_status 0 St.OK).carriedOut w Ob.fb_adopt_command 0 [1]) := by
  refine congrArg _ (command_ok h ?_)
  simp only [hbook]

theorem execAdopt_refused {s : State} {w : Writer} {book : Option Octets} (h : s.accepts w Ob.fb_adopt_command 0 [1])
    (hbook : book.bind parseBook = none) :
    exec (.adopt w book) s = .next ((s.setObj Ob.fb_adopt_status 0 St.ADOPT_REFUSED).carriedOut w Ob.fb_adopt_command 0 [1]) := by
  refine congrArg _ (command_ok h ?_)
  simp only [hbook]

/-- Settles O51: the frame clock through a boundary (`boundary_clock`), the parts that a tick keeps, and the branches of the losses. -/
theorem framesAndLosses : Obligations.FramesAndLosses := by
  unfold Obligations.FramesAndLosses
  intro s w h cons descs outs book recs
  refine ⟨execDatumTick_ticks s, fun hdue => ?_, fun hdue => ?_, fun hh h0 h1 => execHalfLost_whole hh h0 h1, execHalfLost_again,
    fun hchain h0 => ?_, fun hchain => ⟨?_, ?_⟩, fun haccepts => ⟨execAdopt_ok haccepts, execAdopt_refused haccepts⟩⟩
  · obtain ⟨htick, hframe, -, hpending⟩ := Keeps.clock (readDescs_clock s descs)
    obtain ⟨htick', hframe', hstart', hpending'⟩ := boundary_clock (s.readDescs descs) cons outs
    refine ⟨(s.readDescs descs).boundary cons outs, ?_, htick'.trans htick, ?_, hstart', hpending'.trans hpending⟩
    · show execFrameBoundary descs cons outs s = _
      simp [execFrameBoundary, hdue]
    · rw [hframe', hframe]
  · show execFrameBoundary descs cons outs s = _
    simp [execFrameBoundary, hdue]
  · show execChainHeartbeatLoss cons s = _
    simp [execChainHeartbeatLoss, hchain, h0]
  · show execChainHeartbeatLoss cons s = _
    simp [execChainHeartbeatLoss, hchain]
  · show execChainReturn s = _
    simp [execChainReturn, hchain]

end Sys2Proof.Machine
end

section
/-! Scalar operations, comparisons, predicates and loops of a core (Tables 5-3 and 5-4): what each puts in flight once it issues. -/

namespace Sys2Proof.Machine

/-- Equal states are equal outcomes. -/
theorem next_eq {t u : State} (h : t = u) : (.next t : Out) = .next u := congrArg _ h

/-- An operation that does not execute is counted, and its slot has issued (R185). -/
theorem slotVoid_eq {s : State} {u : OpUnit} {a : Issue} (h : s.admits u a = true) :
    s.slotVoid u a = (s.afterIssue a u.slot (s.issued a)).bump Ob.cnt_slot_void 0 := by
  rw [State.slotVoid, if_pos h, issue_eq h]
  rfl

theorem scalarOp_lands {s : State} {u : OpUnit} {a : Issue} {sd sa sb : Nat} (h : s.admits (u.takes [fSd sd, fSa sa, fSb sb]) a = true)
    (latency : Nat) (f : SWord → SWord → SWord) (hslot : u.slot = 0) :
    s.scalarOp u a latency sd sa sb f = s.lands a 0 latency (.sreg sd (f ((s.issued a).sreg sa) ((s.issued a).sreg sb))) := by
  have hslot' : (u.takes [fSd sd, fSa sa, fSb sb]).slot = 0 := hslot
  rw [State.scalarOp, issue_eq h, hslot']
  rfl

theorem scalarCmp_lands {s : State} {a : Issue} {pd sa sb : Nat} (h : s.admits (uCmp.takes [fSd pd, fSa sa, fSb sb]) a = true)
    (f : SWord → SWord → Bool) :
    s.scalarCmp a pd sa sb f = s.lands a 0 1
      (.preg pd (if f ((s.issued a).sreg sa) ((s.issued a).sreg sb) then BitVec.allOnes 32 else 0) (BitVec.allOnes 32)) :=
  issue_eq h _

theorem predOp_lands {s : State} {a : Issue} {pd pa pb : Nat} (h : s.admits (uCmp.takes [fSd pd, fSa pa, fSb pb]) a = true)
    (f : BitVec 32 → BitVec 32 → BitVec 32) :
    s.predOp a pd pa pb f = s.lands a 0 1 (.preg pd (f ((s.issued a).preg pa) ((s.issued a).preg pb)) (BitVec.allOnes 32)) :=
  issue_eq h _

theorem loop_deep {s : State} {a : Issue} {n : Nat} (h : s.admits (uLoop.takes [fSimm n]) a = true) (hdeep : 4 ≤ (s.coreAt a.core).loops.length) :
    exec (.loop a n) s = .next ((s.afterIssue a 0 (s.issued a)).bump Ob.cnt_slot_void 0) := by
  show execLoop a n s = _
  simp only [execLoop, h, hdeep, decide_true, Bool.and_self, if_true, slotVoid_eq h]
  rfl

theorem loop_pushes {s : State} {a : Issue} {n : Nat} (h : s.admits (uLoop.takes [fSimm n]) a = true) (hroom : (s.coreAt a.core).loops.length < 4) :
    exec (.loop a n) s = .next (s.afterIssue a 0 { s.issued a with loops := (n, (s.issued a).pc + 1) :: (s.issued a).loops }) := by
  show execLoop a n s = _
  simp only [execLoop, Nat.not_le.2 hroom, decide_false, Bool.and_false, Bool.false_eq_true, if_false, issue_eq h]
  rfl

/-- What ENDLOOP makes of a core: the innermost loop passes once more, or is left after its last pass (R187). -/
theorem endloop_eq {s : State} {a : Issue} (h : s.admits uLoop a = true) {c : Core} (hc : c = match (s.issued a).loops with
      | [] => s.issued a
      | (n, b) :: r => if n ≤ 1 then { s.issued a with loops := r } else { s.issued a with loops := (n - 1, b) :: r, back := some b }) :
    exec (.endloop a) s = .next (s.afterIssue a 0 c) := by
  rw [hc]
  exact next_eq (issue_eq h _)

/-- Settles O1: each row puts one result in flight, or moves the loop stack, as its meaning says once it issues. -/
theorem scalarRows : Obligations.ScalarRows := by
  unfold Obligations.ScalarRows
  refine ⟨fun s a sd sa sb => ⟨fun h => ?_, fun h => ?_⟩, fun s a d x y imm => ⟨fun h => ?_, fun h => ?_, fun h => ?_, fun h => ?_,
    fun h => ⟨loop_pushes h, loop_deep h⟩, fun h => ?_, fun h w hrow => ?_, fun h _ fld => ?_, fun h => ?_⟩⟩
  · have hlands := fun f => next_eq (scalarOp_lands h 1 f rfl)
    exact ⟨hlands _, hlands _, hlands _, hlands _, hlands _, ⟨_, hlands _, fun hsmall => if_pos hsmall⟩,
      ⟨_, hlands _, fun hsmall => if_pos hsmall⟩, ⟨_, hlands _, fun hsmall => if_pos hsmall⟩⟩
  · have hlands := fun f => next_eq (scalarOp_lands h 3 f rfl)
    refine ⟨hlands _, _, hlands _, ?_⟩
    cases hsigned : Config.mulhSigned
    · exact .inr (if_neg (by simp))
    · exact .inl (if_pos rfl)
  · have hlands := fun f => next_eq (scalarCmp_lands h f)
    refine ⟨fun i r hi => ?_, next_eq (predOp_lands h _), next_eq (predOp_lands h _)⟩
    simp only [List.mem_cons, Prod.mk.injEq, List.not_mem_nil, or_false] at hi
    obtain ⟨rfl, rfl⟩ | ⟨rfl, rfl⟩ | ⟨rfl, rfl⟩ | ⟨rfl, rfl⟩ | ⟨rfl, rfl⟩ | ⟨rfl, rfl⟩ := hi <;> exact hlands _
  · exact next_eq (issue_eq h _)
  · exact next_eq (issue_eq h _)
  · exact next_eq (issue_eq h _)
  · refine ⟨fun n b r hloops => ⟨fun hlast => endloop_eq h ?_, fun hmore => endloop_eq h ?_⟩, fun hloops => endloop_eq h ?_⟩
    · simp only [hloops, if_pos hlast]
    · simp only [hloops, if_neg (Nat.not_le.2 hmore)]
    · simp only [hloops]
  · refine ⟨?_, ?_, ?_, ?_⟩ <;>
    · refine next_eq ((issue_eq h _).trans ?_)
      simp only [hrow]
      rfl
  · exact ⟨_, next_eq (issue_eq h _)⟩
  · exact ⟨⟨Config.stickyWord, next_eq (issue_eq h _)⟩, next_eq (issue_eq h _), next_eq (issue_eq h _)⟩

end Sys2Proof.Machine
end

section
/-! Vector operations of a core (R186, R191-R203): lane by lane once they issue. -/

namespace Sys2Proof.Machine

section
variable {s : State} (u : OpUnit) {a : Issue} {t : VType} {vd va vb vc : Nat} {vp : VPred}

/-- A floating-point operation of FP32 or BF16 type computes lane by lane in its type's format. -/
theorem floatOp_lands (h : s.admits (u.takes (u.fields ++ fType t :: fVd vd :: fVa va :: fVp vp)) a = true) (hslot : u.slot = 1)
    {fmt : FFmt} (hfmt : laneFmt t = some fmt) (code latency : Nat) (f : FFmt → Lane → Lane → Lane → Lane × Sticky) :
    s.floatOp u a code latency t vd va vb vc vp f = s.landsLanes a vd vp latency (fun i =>
      f fmt ((s.issued a).lane va i) ((s.issued a).lane vb i) ((s.issued a).lane vc i)) := by
  have hslot' : (u.takes (u.fields ++ fType t :: fVd vd :: fVa va :: fVp vp)).slot = 1 := hslot
  cases t <;> cases hfmt <;>
    · simp only [State.floatOp, issue_eq h, hslot']
      rfl

/-- Of INT32 type it computes some lanes. -/
theorem floatOp_int32 (h : s.admits (u.takes (u.fields ++ fType .int32 :: fVd vd :: fVa va :: fVp vp)) a = true) (hslot : u.slot = 1)
    (code latency : Nat) (f : FFmt → Lane → Lane → Lane → Lane × Sticky) :
    ∃ g : Nat → Lane, s.floatOp u a code latency .int32 vd va vb vc vp f = s.landsLanes a vd vp latency (fun i => (g i, .none)) := by
  have hslot' : (u.takes (u.fields ++ fType .int32 :: fVd vd :: fVa va :: fVp vp)).slot = 1 := hslot
  refine ⟨fun i => Config.laneOpen code ((s.issued a).lane va i) ((s.issued a).lane vb i) ((s.issued a).lane vc i), ?_⟩
  rw [State.floatOp, issue_eq h, hslot']
  rfl

/-- The reserved type does not execute (R185). -/
theorem floatOp_res (h : s.admits (u.takes (u.fields ++ fType .res :: fVd vd :: fVa va :: fVp vp)) a = true) (hslot : u.slot = 1)
    (code latency : Nat) (f : FFmt → Lane → Lane → Lane → Lane × Sticky) :
    s.floatOp u a code latency .res vd va vb vc vp f = (s.afterIssue a 1 (s.issued a)).bump Ob.cnt_slot_void 0 := by
  have hslot' : (u.takes (u.fields ++ fType .res :: fVd vd :: fVa va :: fVp vp)).slot = 1 := hslot
  rw [State.floatOp, slotVoid_eq h, hslot']

end

/-- Settles O2: each row is `State.floatOp` of its unit, type and arithmetic. -/
theorem floatLanes : Obligations.FloatLanes := by
  unfold Obligations.FloatLanes
  intro s a vd va vb vc vp on
  refine ⟨fun t f hf => ?_, fun u i n hi => ?_, fun u i hi => ?_⟩
  · have hfmt : laneFmt t = some f := by
      simp only [List.mem_cons, Prod.mk.injEq, List.not_mem_nil, or_false] at hf
      obtain ⟨rfl, rfl⟩ | ⟨rfl, rfl⟩ := hf <;> rfl
    refine ⟨fun h => ?_, fun h => ?_, fun h => ?_, fun h => ?_⟩
    · have hlands := fun code f => floatOp_lands (vb := vb) (vc := 0) (uFarith.takes [fVb vb]) h rfl hfmt code 3 f
      exact ⟨next_eq (hlands 0 _), next_eq (hlands 1 _), next_eq (hlands 2 _)⟩
    · have hlands := fun code f => floatOp_lands (vb := vb) (vc := vc) (uFma.takes [fVb vb, fVc vc]) h rfl hfmt code 4 f
      exact ⟨next_eq (hlands 3 _), next_eq (hlands 4 _)⟩
    · have hlands := fun code f => floatOp_lands (vb := vb) (vc := 0) (uFcmp.takes [fVb vb]) h rfl hfmt code 2 f
      exact ⟨next_eq (hlands 5 _), next_eq (hlands 6 _)⟩
    · have hlands := fun code f => floatOp_lands (vb := va) (vc := 0) uFcmp h rfl hfmt code 2 f
      exact ⟨next_eq (hlands 7 _), next_eq (hlands 8 _)⟩
  · simp only [List.mem_cons, Prod.mk.injEq, List.not_mem_nil, or_false] at hi
    obtain ⟨rfl, rfl, rfl⟩ | ⟨rfl, rfl, rfl⟩ | ⟨rfl, rfl, rfl⟩ | ⟨rfl, rfl, rfl⟩ | ⟨rfl, rfl, rfl⟩ | ⟨rfl, rfl, rfl⟩ | ⟨rfl, rfl, rfl⟩ |
      ⟨rfl, rfl, rfl⟩ | ⟨rfl, rfl, rfl⟩ := hi <;> intro h
    · exact (floatOp_int32 (uFarith.takes [fVb vb]) h rfl 0 3 _).imp fun _ => next_eq
    · exact (floatOp_int32 (uFarith.takes [fVb vb]) h rfl 1 3 _).imp fun _ => next_eq
    · exact (floatOp_int32 (uFarith.takes [fVb vb]) h rfl 2 3 _).imp fun _ => next_eq
    · exact (floatOp_int32 (uFma.takes [fVb vb, fVc vc]) h rfl 3 4 _).imp fun _ => next_eq
    · exact (floatOp_int32 (uFma.takes [fVb vb, fVc vc]) h rfl 4 4 _).imp fun _ => next_eq
    · exact (floatOp_int32 (uFcmp.takes [fVb vb]) h rfl 5 2 _).imp fun _ => next_eq
    · exact (floatOp_int32 (uFcmp.takes [fVb vb]) h rfl 6 2 _).imp fun _ => next_eq
    · exact (floatOp_int32 uFcmp h rfl 7 2 _).imp fun _ => next_eq
    · exact (floatOp_int32 uFcmp h rfl 8 2 _).imp fun _ => next_eq
  · simp only [List.mem_cons, Prod.mk.injEq, List.not_mem_nil, or_false] at hi
    obtain ⟨rfl, rfl⟩ | ⟨rfl, rfl⟩ | ⟨rfl, rfl⟩ | ⟨rfl, rfl⟩ | ⟨rfl, rfl⟩ | ⟨rfl, rfl⟩ | ⟨rfl, rfl⟩ | ⟨rfl, rfl⟩ | ⟨rfl, rfl⟩ := hi <;> intro h
    · exact next_eq (floatOp_res (uFarith.takes [fVb vb]) h rfl 0 3 _)
    · exact next_eq (floatOp_res (uFarith.takes [fVb vb]) h rfl 1 3 _)
    · exact next_eq (floatOp_res (uFarith.takes [fVb vb]) h rfl 2 3 _)
    · exact next_eq (floatOp_res (uFma.takes [fVb vb, fVc vc]) h rfl 3 4 _)
    · exact next_eq (floatOp_res (uFma.takes [fVb vb, fVc vc]) h rfl 4 4 _)
    · exact next_eq (floatOp_res (uFcmp.takes [fVb vb]) h rfl 5 2 _)
    · exact next_eq (floatOp_res (uFcmp.takes [fVb vb]) h rfl 6 2 _)
    · exact next_eq (floatOp_res uFcmp h rfl 7 2 _)
    · exact next_eq (floatOp_res uFcmp h rfl 8 2 _)

theorem intOp_lands {s : State} {a : Issue} {vd va vb : Nat} {vp : VPred} (h : s.admits (uInt.takes (fVd vd :: fVa va :: fVb vb :: fVp vp)) a = true)
    (latency : Nat) (f : Lane → Lane → Lane) : s.intOp a latency vd va vb vp f =
      s.landsLanes a vd vp latency (fun n => (f ((s.issued a).lane va n) ((s.issued a).lane vb n), .none)) :=
  issue_eq h _

/-- Settles O3: each row is `State.intOp` of its function of two lanes. -/
theorem integerLanes : Obligations.IntegerLanes := by
  unfold Obligations.IntegerLanes
  intro s a vd va vb vp h x y
  have hlands := fun latency f => next_eq (intOp_lands h latency f)
  refine ⟨hlands 1 _, hlands 1 _, hlands 1 _, hlands 1 _, hlands 1 _, hlands 3 _, hlands 1 _, ⟨_, hlands 1 _, fun i hi => if_pos hi⟩,
    ⟨_, hlands 1 _, fun i hi => if_pos hi⟩, ⟨_, hlands 1 _, fun i hi => if_pos hi⟩, ⟨_, hlands 3 _, ?_⟩⟩
  cases hsigned : Config.mulhSigned
  · exact .inr fun i => if_neg (by simp)
  · exact .inl fun i => if_pos rfl

/-- Settles O4: lanewise rows, the formats and the type that do not execute, and FCMP's predicate bit by bit. -/
theorem convertLanes : Obligations.ConvertLanes := by
  unfold Obligations.ConvertLanes
  intro s a vd va vb fmt lane vp c on on2
  refine ⟨fun h => ?_, fun h => ?_, fun h => ⟨_, next_eq (issue_eq h _), fun i hi => if_pos hi⟩, fun h hlane => ?_,
    fun h => next_eq (issue_eq h _), fun r t f hf h => ?_, fun r => ⟨fun h => ⟨_, next_eq (issue_eq h _)⟩, fun h => next_eq (slotVoid_eq h)⟩⟩
  · have hlands := fun f => next_eq (issue_eq h f)
    refine ⟨hlands _, hlands _, hlands _, hlands _, fun hfmt => ⟨?_, ?_⟩, fun hfmt => ⟨?_, ?_⟩⟩
    · exact next_eq ((if_pos hfmt).trans (issue_eq h _))
    · exact next_eq ((if_pos hfmt).trans (issue_eq h _))
    · exact next_eq ((if_neg hfmt).trans (slotVoid_eq h))
    · exact next_eq ((if_neg hfmt).trans (slotVoid_eq h))
  · exact ⟨next_eq (issue_eq h _), next_eq (issue_eq h _), next_eq (issue_eq h _)⟩
  · refine next_eq ((issue_eq h _).trans ?_)
    simp only [Nat.mod_eq_of_lt hlane]
    rfl
  · simp only [List.mem_cons, Prod.mk.injEq, List.not_mem_nil, or_false] at hf
    obtain ⟨rfl, rfl⟩ | ⟨rfl, rfl⟩ := hf <;> exact ⟨_, next_eq (issue_eq h _), fun i hi => getLsbD_maskOf _ i hi⟩

theorem reduceLanes_eq {op : Lane → Lane → Lane × Sticky} {empty : Lane} {lone : Lane → Lane × Sticky} {l : List Lane} (h : l.length ≠ 1) :
    reduceLanes op empty lone l = treeFold op empty 6 l := by
  match l with
  | [] => rfl
  | [x] => exact absurd rfl h
  | x :: y :: l => rfl

/-- A reduction writes lane 0 alone, with what its live lanes reduce to. -/
theorem reduceOp_eq {s : State} {a : Issue} {vd va : Nat} {vp : VPred} (h : s.admits (uRed.takes (fVd vd :: fVa va :: fVp vp)) a = true)
    (op : Lane → Lane → Lane × Sticky) (empty : Lane) (lone : Lane → Lane × Sticky) {r : Lane × Sticky}
    (hr : reduceLanes op empty lone (((List.range 32).filter (fun i => ((s.issued a).liveMask vp).getLsbD i)).map (fun i => (s.issued a).lane va i)) = r) :
    s.reduceOp a vd va vp op empty lone = s.afterIssue a 1 (((s.issued a).result 1 6 (.vreg vd [r.1] 1)).flags r.2) := by
  rw [← hr]
  exact issue_eq h _

end Sys2Proof.Machine

namespace Sys2Proof

open Machine

/-- Settles O5: one lane is `lone`, every other number of lanes the tree of R196. -/
theorem reduceLanes : Obligations.ReduceLanes := by
  unfold Obligations.ReduceLanes
  intro s a vd va x y vp c live out
  refine ⟨fun h => ⟨fun hmany => ?_, fun z hone => ?_⟩, fun h => next_eq (issue_eq h _)⟩
  · have hreduce := fun op empty lone => next_eq (reduceOp_eq h op empty lone (reduceLanes_eq hmany))
    exact ⟨hreduce _ _ _, hreduce _ _ _, _, hreduce _ _ _⟩
  · have hreduce := fun op empty lone => next_eq (reduceOp_eq h op empty lone (congrArg (Machine.reduceLanes op empty lone) hone))
    exact ⟨hreduce _ _ _, hreduce _ _ _, hreduce _ _ _⟩

end Sys2Proof
end

section
/-! Matrix operations, operand loads, and accesses of a core to its own and to cluster stores (R177-R179, R184, R188-R190, R202). -/

namespace Sys2Proof.Machine

/-- An MMA of a format of Table 5-6 on a free unit, its buffers of that format's row (R188, R189). -/
theorem mma_eq {s : State} {a : Issue} {fmt acc ab bb rp k nb : Nat} {zero : Bool}
    (h : s.admits (uMma.takes [fFmt fmt, fAcc acc, fZero zero, fBufA ab, fBufB bb, fRp rp]) a = true) (hshape : mmaShape fmt = some (k, nb))
    (hfree : (s.coreAt a.core).mmaFree ≤ (s.coreAt a.core).cycle + a.delta)
    (hx : sameRow fmt ((s.issued a).buf (ab % 2)).fmt = true) (hy : sameRow fmt ((s.issued a).buf (2 + bb % 2)).fmt = true) :
    exec (.mma a fmt acc zero ab bb rp) s =
      let c := s.issued a
      let rs := (List.range 256).map (fun n =>
        mmaElem (c.buf (ab % 2)) (c.buf (2 + bb % 2)) k nb (if zero then 0 else (c.acc acc).getD n 0) (n / 16) (n % 16))
      let mask := (c.preg rp).setWidth 16
      .next (s.afterIssue a 2 (({ c with mmaFree := c.cycle + 64 }.result 2 68 (.acc acc (rs.map Prod.fst) mask)).flags
        (rs.zipIdx.foldl (fun f (q : (Lane × Sticky) × Nat) => if mask.getLsbD (q.2 / 16) then f.or q.1.2 else f) Sticky.none))) := by
  show execMma a fmt acc zero ab bb rp s = _
  simp only [execMma, hshape, Nat.not_lt.2 hfree, decide_false, Bool.and_false, Bool.false_eq_true, if_false, issue_eq h, hx, hy, Bool.and_self,
    if_true]
  rfl

/-- An operand load whose unit is free fills its buffer and takes the unit (R188, R190). -/
theorem operandLoad_eq {s : State} {a : Issue} {base b buf : Nat} {off : BitVec 32}
    (h : s.admits (uOperand.takes [fData (b % 2), fBase base, fOff off]) a = true) (hbuf : buf % 2 = b % 2)
    (hfree : (s.coreAt a.core).opFree ≤ (s.coreAt a.core).cycle + a.delta) (occupy latency : Nat) (f : Core → OperandBuf × Sticky) :
    s.operandLoad a base off occupy latency buf f = s.afterIssue a 3
      (({ s.issued a with opFree := (s.issued a).cycle + occupy }.result 3 latency (.buf buf (f (s.issued a)).1)).flags (f (s.issued a)).2) := by
  rw [← hbuf] at h
  simp only [State.operandLoad, Nat.not_lt.2 hfree, decide_false, Bool.and_false, Bool.false_eq_true, if_false]
  exact issue_eq h _

/-- Settles O6: the matrix unit's rows once they issue. -/
theorem matrixOps : Obligations.MatrixOps := by
  unfold Obligations.MatrixOps
  intro s a fmt acc b ab bb base rp vd p dblk k nb zero e5m2 phi off c
  refine ⟨mma_eq, fun h => next_eq (issue_eq h _), fun h => next_eq (issue_eq h _), fun h hfree => ?_⟩
  have hsame : b % 2 % 2 = b % 2 := Nat.mod_mod b 2
  have hupper : (2 + b % 2) % 2 = b % 2 := by omega
  refine ⟨next_eq (operandLoad_eq h hsame hfree 5 7 _), next_eq (operandLoad_eq h hupper hfree 5 7 _), ?_⟩
  intro rs
  show execMldVt a e5m2 b base off phi dblk s = _
  rw [execMldVt, operandLoad_eq h hupper hfree]

/-- The core of an issue becomes what the operation makes of it, but for the slots that it has issued. -/
theorem exists_coreAt_afterIssue (s : State) (a : Issue) (slot : Nat) (c : Core) :
    ∃ l, (s.afterIssue a slot c).coreAt a.core = { c with done := l } := by
  cases hrun : s.inRun (a.core / 8) with
  | false => exact ⟨c.done, coreAt_afterIssue hrun slot c⟩
  | true => exact ⟨slot :: c.done, coreAt_afterIssue_run hrun slot c⟩

/-- A read that lands in its cycle puts what it brings in flight to its core. -/
theorem clusterFetch_flight (s : State) (n : Nat) (q : ClusterRead) : ((s.clusterFetch n q).coreAt q.core).flight =
    insertWb (q.brings ((s.clusterSettle n q.cycle).clusterStore n)) ((s.clusterSettle n q.cycle).coreAt q.core).flight := by
  simp [State.clusterFetch]

/-- An access to a cluster's store that issues: it is made from the core as it issued. -/
theorem issueThen_eq {s : State} {a : Issue} {u : OpUnit} (h : s.admits u a = true) (f : State → Core → State)
    (hdone : ∀ t c l, f t { c with done := l } = f t c) :
    (if s.admits u a then f (s.issue u a id) ((s.issue u a id).coreAt a.core) else s.issue u a id) =
      f (s.afterIssue a u.slot (s.issued a)) (s.issued a) := by
  obtain ⟨l, hcore⟩ := exists_coreAt_afterIssue s a u.slot (s.issued a)
  rw [if_pos h, issue_eq h, id, hcore, hdone]

/-- Settles O7: core store accesses put one result in flight; cluster accesses ask or send from the core as it issued. -/
theorem coreStoreOps : Obligations.CoreStoreOps := by
  unfold Obligations.CoreStoreOps
  intro s a r base sd sb off c s' line on
  refine ⟨fun h => ⟨next_eq (issue_eq h _), next_eq (issue_eq h _)⟩, fun h => ⟨next_eq (issue_eq h _), next_eq (issue_eq h _)⟩,
    fun h => ⟨?_, ?_⟩, fun h => ?_, fun h => ?_, fun n q => ⟨fun ad dst hq => ?_, fun reg node byte hq => ?_⟩⟩
  · exact next_eq (issueThen_eq h (fun t c => t.clusterAsk (a.core / 8) ⟨c.cycle + csWait (a.core % 8) c.cycle (clusterAddr (c.sreg base) off),
      a.core, .line (clusterAddr (c.sreg base) off) (coreAddr (c.sreg r) 0 128)⟩) fun _ _ _ => rfl)
  · exact next_eq (issueThen_eq h (fun t c => t.clusterSend (a.core / 8) ⟨c.cycle + 6 + csWait (a.core % 8) c.cycle (clusterAddr (c.sreg base) off),
      a.core, clusterAddr (c.sreg base) off, c.bytes (coreAddr (c.sreg r) 0 128) 128⟩) fun _ _ _ => rfl)
  · exact next_eq (issueThen_eq h (fun t c => t.clusterSend ((c.sreg r).toNat / 2 ^ 32 % 512)
      ⟨c.cycle + netLatency (a.core / 8) ((c.sreg r).toNat / 2 ^ 32 % 512), a.core, (c.sreg r).toNat % 2097152 / 128 * 128,
        c.bytes (coreAddr (c.sreg base) off 128) 128⟩) fun _ _ _ => rfl)
  · exact next_eq (issueThen_eq h (fun t c => t.clusterAsk (a.core / 8) ⟨c.cycle + csWait (a.core % 8) c.cycle ((c.sreg base).toNat % 2 ^ 32 % 2097152),
      a.core, .child sd ((c.sreg base).toNat % 2 ^ 32) ((c.sreg sb).toNat % 256)⟩) fun _ _ _ => rfl)
  · rw [clusterFetch_flight, ClusterRead.brings, hq]
  · rw [clusterFetch_flight, ClusterRead.brings, hq]

end Sys2Proof.Machine
end

section
/-! Synchronisation operations of a core: SIGNAL, ARRIVE and WAIT (R348, R351, R352, R354, R360). -/

namespace Sys2Proof.Machine

@[simp] theorem State.afterIssue_sync (s : State) (a : Issue) (slot : Nat) (c : Core) : (s.afterIssue a slot c).sync = s.sync := by
  obtain ⟨-, -, hagrees⟩ := State.cameTo_keeps (P := fun p => p = .dict ∨ p = .core) (.inl rfl) (.inr rfl) a (keeps_refl s)
  exact hagrees .sync (by simp)

theorem State.syncObj_afterIssue (s : State) (a : Issue) (slot : Nat) (c : Core) (n : Nat) :
    (s.afterIssue a slot c).syncObj n = s.syncObj n := by
  simp only [State.syncObj, State.afterIssue_sync]

/-- An object of a core's own owner is found as it stands (R348). -/
theorem State.syncFor_own {s : State} {k n : Nat} (h : (s.syncObj n).owner = s.coreOwner k) : s.syncFor k n = s.syncObj n :=
  if_pos (beq_iff_eq.2 h)

/-- A SIGNAL or ARRIVE that issues acts on the object as its core finds it. -/
theorem signalOp_eq {s : State} {u : OpUnit} {a : Issue} {n : Nat} {op : SyncOp} {operand : Core → Nat} (h : s.admits u a = true)
    (hslot : u.slot = 4) (hoperand : ∀ c l, operand { c with done := l } = operand c) :
    s.signalOp u a n op operand =
      let t := s.afterIssue a 4 (s.issued a)
      let v := operand (s.issued a)
      if !opFits op (t.syncFor a.core n).type then t.bump Ob.cnt_slot_void 0
      else if (t.syncObj n).group then
        ({ t with sync := { t.sync with updates := t.sync.updates ++ [(⟨t.tick + t.obj Ob.sync_group_ticks 0, n, op, v⟩ : GroupUpdate)] } }).lockSend
          (.groupUpdate n op v (t.tick + t.obj Ob.sync_group_ticks 0))
      else t.syncCycle n ((s.issued a).cycle + netLatency (a.core / 8) (n / 32)) op v a.core := by
  rw [← hslot]
  refine issueThen_eq h (fun t c =>
    let v := operand c
    if !opFits op (t.syncFor a.core n).type then t.bump Ob.cnt_slot_void 0
    else if (t.syncObj n).group then
      ({ t with sync := { t.sync with updates := t.sync.updates ++ [(⟨t.tick + t.obj Ob.sync_group_ticks 0, n, op, v⟩ : GroupUpdate)] } }).lockSend
        (.groupUpdate n op v (t.tick + t.obj Ob.sync_group_ticks 0))
    else t.syncCycle n (c.cycle + netLatency (a.core / 8) (n / 32)) op v a.core) fun t c l => ?_
  simp only [hoperand]

/-- Settles O8: each of the four is `State.signalOp`, whose branches are the object's type and its group. -/
theorem syncSignals : Obligations.SyncSignals := by
  unfold Obligations.SyncSignals
  intro s a n rs s' v u i op w hi h
  have hsignal : exec i s = .next (
      if !opFits op (s'.syncFor a.core n).type then s'.bump Ob.cnt_slot_void 0
      else if (s'.syncObj n).group then
        ({ s' with sync := { s'.sync with updates := s'.sync.updates ++ [(⟨s'.tick + s'.obj Ob.sync_group_ticks 0, n, op, w⟩ : GroupUpdate)] } }).lockSend
          (.groupUpdate n op w (s'.tick + s'.obj Ob.sync_group_ticks 0))
      else s'.syncCycle n ((s.issued a).cycle + netLatency (a.core / 8) (n / 32)) op w a.core) := by
    simp only [List.mem_cons, Prod.mk.injEq, List.not_mem_nil, or_false] at hi
    obtain ⟨rfl, rfl, rfl, rfl⟩ | ⟨rfl, rfl, rfl, rfl⟩ | ⟨rfl, rfl, rfl, rfl⟩ | ⟨rfl, rfl, rfl, rfl⟩ := hi <;>
    exact next_eq (signalOp_eq h rfl fun _ _ => rfl)
  rw [hsignal]
  have hobj : s'.syncObj n = s.syncObj n := State.syncObj_afterIssue s a 4 _ n
  refine ⟨fun hown hfits hgroup => ?_, fun hown hfits hgroup => ?_, fun hfits => ?_⟩
  · rw [State.syncFor_own (hobj ▸ hown), hobj]
    simp only [hfits, hgroup, Bool.not_true, Bool.false_eq_true, if_false]
  · rw [State.syncFor_own (hobj ▸ hown), hobj]
    simp only [hfits, hgroup, Bool.not_true, Bool.false_eq_true, if_false, if_true]
  · simp only [hfits, Bool.not_false, if_true]

/-- What a WAIT does in its issue cycle, t being the state after its issue and c the core in it: its condition's outcome, or none yet (R351, R352,
R360). -/
def State.waitFrom (t : State) (c : Core) (a : Issue) (n cond rs : Nat) : State :=
  let v := c.operand rs
  let timeout := (c.sreg rs).toNat / 2 ^ 32 % 65536
  let unsatisfied (s : State) (k out cause : Nat) : State :=
    (((s.syncError n cause 0 k 0xFFFF 0xFFFFFFFF v).bump Ob.cnt_sync_timeouts (syncHalf n)).waitDone k rs out)
  match waitOutcome (if (t.syncFor a.core n).type == .free then freeSync else t.syncSeen n c.cycle) cond v with
  | some 3 => (t.bump Ob.cnt_slot_void 0).waitDone a.core rs 3
  | some 2 =>
    let u := (t.syncError n syncOverrunCause 0 a.core 0xFFFF 0xFFFFFFFF v).waitDone a.core rs 2
    if u.inTraverse a.core then u.detect a.core false .scheduleFault else u
  | some k => t.waitDone a.core rs k
  | none =>
    if t.inTraverse a.core then (unsatisfied t a.core 1 syncScheduleCause).detect a.core false .scheduleFault
    else if timeout == 0 then unsatisfied t a.core 1 syncTimeoutCause
    else { t with sync := { t.sync with waits := t.sync.waits ++ [⟨a.core, n, cond, v, rs, t.tick + timeout⟩] } }

theorem waitOp_eq {s : State} {a : Issue} {n cond rs : Nat} (h : s.admits (uWait.takes [fObj n, fOs rs]) a = true) :
    s.waitOp a n cond rs = (s.afterIssue a 4 (s.issued a)).waitFrom (s.issued a) a n cond rs :=
  issueThen_eq h (fun t c => t.waitFrom c a n cond rs) fun _ _ _ => rfl

/-- Settles O9: the branches of a WAIT's condition (`State.waitFrom`), and of the time-out row. -/
theorem waitOutcomes : Obligations.WaitOutcomes := by
  unfold Obligations.WaitOutcomes
  intro s a n rs c s' v timeout
  refine ⟨fun i cond hi h hnamed => ?_, fun w hw => ?_, fun hw => ?_⟩
  · have hwait : exec i s = .next (s'.waitFrom c a n cond rs) := by
      simp only [List.mem_cons, Prod.mk.injEq, List.not_mem_nil, or_false] at hi
      obtain ⟨rfl, rfl⟩ | ⟨rfl, rfl⟩ | ⟨rfl, rfl⟩ := hi <;> exact next_eq (waitOp_eq h)
    have hfound : ((s'.syncFor a.core n).type == .free) = false := by simpa using hnamed
    rw [hwait]
    refine ⟨fun hmet => ?_, fun hunmet hservice hpoll => ?_, fun hunmet hservice hwaits => ?_⟩
    · simp only [State.waitFrom, hfound, Bool.false_eq_true, if_false, Core.operand, hmet, v]
    · have hpoll' : (c.sreg rs).toNat / 2 ^ 32 % 65536 = 0 := hpoll
      simp only [State.waitFrom, hfound, Bool.false_eq_true, if_false, Core.operand, hunmet, hservice, hpoll', beq_self_eq_true, if_true, v]
    · have hwaits' : ((c.sreg rs).toNat / 2 ^ 32 % 65536 == 0) = false := beq_eq_false_iff_ne.2 hwaits
      simp only [State.waitFrom, hfound, Bool.false_eq_true, if_false, Core.operand, hunmet, hservice, hwaits', v, timeout]
  · show execSyncWaitTimeout n s = _
    simp only [execSyncWaitTimeout, hw]
  · show execSyncWaitTimeout n s = _
    simp only [execSyncWaitTimeout, hw]

end Sys2Proof.Machine
end

section
/-! Traverse slots: TRV_LOAD, its end, ACTIVATE and UNLOAD (R141-R145). -/

namespace Sys2Proof.Machine

theorem imageGrouped_eq_false {img : TrvImage} (h : img.hdr.groupSize ≤ 1) : imageGrouped img = false := by
  simpa [imageGrouped] using h

theorem trvLoadDone_unread {s : State} {tt : Nat} (h : s.trvState tt = 1) :
    exec (.trvLoadDone tt none) s = .next ((s.setObj Ob.trv_status tt St.TRAVERSE_CORRUPT).setObj Ob.trv_state tt 4) := by
  show execTrvLoadDone tt none s = _
  simp [execTrvLoadDone, h]

theorem trvLoadDone_idle {s : State} {tt : Nat} {o : Option Octets} (h : s.trvState tt ≠ 1) : exec (.trvLoadDone tt o) s = .next s := by
  show execTrvLoadDone tt o s = _
  simp [execTrvLoadDone, h]

/-- A LOADED slot of a tile alone is activated: no other takeover stands, and lists of another traverse from its frame on are withdrawn (R143-R145). -/
theorem activate_ok {s : State} {w : Writer} {tt : Nat} {agreed : Bool} {img : TrvImage} (h : s.accepts w Ob.trv_command tt [2])
    (hstate : s.trvState tt = 2) (himage : (s.trvSlot tt).image = some img) (hnotice : s.frame + 4 ≤ s.obj Ob.trv_activate_frame tt)
    (hshare : searchShareOk img (s.obj Ob.search_trv_share 0) = true) (hbinds : s.bindsOk img = true) (halone : img.hdr.groupSize ≤ 1) :
    let f := s.obj Ob.trv_activate_frame tt
    let u := (s.trv.slots.map Prod.fst).foldl (fun (u : State) k => u.setTrvSlot k { u.trvSlot k with activateAt := none, agreed := false }) s
    let v := u.setTrvSlot tt { u.trvSlot tt with activateAt := some f, agreed := true }
    let x := (v.trv.lists.filter (fun p => decide (f ≤ p.list.takeover) && p.list.trvId != trvIdOf img.hdr)).foldl State.withdraw v
    exec (.activate w tt agreed) s = .next (((x.measure St.OK 4 (writerSource w) tt (toLE 32 img.hdr.groupIdentity)).setObj
      Ob.trv_status tt St.OK).carriedOut w Ob.trv_command tt [2]) := by
  intro f u v x
  have hbusy : (s.trvState tt == 3) = false := by simp [hstate]
  have hloaded : (s.trvState tt != 2) = false := by simp [hstate]
  refine next_eq (commandNow_ok h ?_)
  simp only [hbusy, hloaded, himage, Nat.not_lt.2 hnotice, hshare, hbinds, imageGrouped_eq_false halone, Bool.not_true, Bool.not_false, Bool.or_self,
    Bool.false_and, Bool.false_eq_true, if_false]
  rfl

theorem activate_late {s : State} {w : Writer} {tt : Nat} {agreed : Bool} {img : TrvImage} (h : s.accepts w Ob.trv_command tt [2])
    (hstate : s.trvState tt = 2) (himage : (s.trvSlot tt).image = some img) (hlate : s.obj Ob.trv_activate_frame tt < s.frame + 4) :
    exec (.activate w tt agreed) s =
      .next ((s.setObj Ob.trv_status tt St.TRAVERSE_ACTIVATE_LATE).reply w St.TRAVERSE_ACTIVATE_LATE) := by
  refine next_eq (commandNow_refused (t := s) h ?_ (by decide))
  simp [hstate, himage, hlate]

/-- Settles O10: the branches of the four rows of a traverse slot. -/
theorem traverseSlots : Obligations.TraverseSlots := by
  unfold Obligations.TraverseSlots
  intro s w tt agreed img o
  refine ⟨fun h => ⟨fun hloading hactive => ?_, fun hbusy => ?_⟩, fun hloading => ⟨trvLoadDone_unread hloading, fun hok => ?_, fun hbad => ?_⟩,
    trvLoadDone_idle, fun h hstate himage => ⟨activate_late h hstate himage, activate_ok h hstate himage⟩, fun h hloading hactive => ?_⟩
  · refine next_eq (command_ok h ?_)
    simp only [beq_iff_eq, hloading, hactive, Bool.or_eq_true, or_self, if_false]
    rfl
  · refine next_eq (command_refused (t := s) h ?_ (by decide))
    have hbusy' : (s.trvState tt == 1 || s.trvState tt == 3) = true := by simpa using hbusy
    simp only [hbusy', if_true]
  · show execTrvLoadDone tt (some o) s = _
    simp only [execTrvLoadDone, hloading, bne_self_eq_false, Bool.false_eq_true, if_false, if_pos hok]
  · show execTrvLoadDone tt (some o) s = _
    simp only [execTrvLoadDone, hloading, bne_self_eq_false, Bool.false_eq_true, if_false, if_neg hbad]
  · refine next_eq (commandNow_ok h ?_)
    simp only [beq_iff_eq, hloading, hactive, Bool.or_eq_true, or_self, if_false]

end Sys2Proof.Machine
end

section
/-! Slot lists, holds and the datum of a group (R145-R149, R153-R157, R162-R171). -/

namespace Sys2Proof.Machine

@[simp] theorem State.lockSend_masters (s : State) (m : LockMsg) (i : TrvImage) : (s.lockSend m).masters i = s.masters i := rfl

/-- Settles O11: who issues, receives and decides a list, branch by branch. -/
theorem slotListRounds : Obligations.SlotListRounds := by
  unfold Obligations.SlotListRounds
  intro s takeover others o l img all v
  refine ⟨fun himage hmaster htimely hnone => ?_, fun hparse himage hgroup hmember htimely hid hrange hnone => ?_, fun hparse => ?_,
    fun hparse hlate => ?_, fun himage hdue => ⟨fun halone => ?_, fun hgroup hmaster hlist hopen => ?_⟩, fun himage hdue => ?_,
    fun p hp => ⟨fun hacked => ?_, fun hnot => ?_⟩⟩
  · show execSlotListIssue takeover others s = _
    simp only [execSlotListIssue, himage, hmaster, htimely, hnone, Bool.not_false, Bool.and_self, if_true]
  · show execSlotListReceive o s = _
    simp only [execSlotListReceive, hparse, himage, hgroup, hmember, htimely, hid, hrange, hnone, beq_self_eq_true, Bool.not_false, Bool.and_self, if_true]
  · show execSlotListReceive o s = _
    simp only [execSlotListReceive, hparse]
  · have hlate' : s.listTimely l.takeover = false := by
      simp only [State.listTimely, Bool.or_eq_false_iff, Bool.and_eq_false_iff, decide_eq_false_iff_not, beq_eq_false_iff_ne]
      omega
    show execSlotListReceive o s = _
    simp only [execSlotListReceive, hparse, hlate', Bool.false_and, Bool.false_eq_true, if_false]
    split <;> rfl
  · show execSlotListDecision takeover all v s = _
    simp only [execSlotListDecision, himage, hdue, halone, Bool.not_true, Bool.not_false, Bool.or_true, Bool.and_false, Bool.false_and, Bool.false_eq_true, if_false]
  · have hpending : s.trv.lists.any (fun p => p.list.takeover == takeover && !p.committed) = true := by
      obtain ⟨p, hp, htake⟩ := List.any_eq_true.1 hlist
      exact List.any_eq_true.2 ⟨p, hp, by simp only [htake, hopen p hp, Bool.not_false, Bool.and_self]⟩
    show execSlotListDecision takeover all v s = _
    simp only [execSlotListDecision, himage, hdue, hgroup, State.lockSend_masters, hmaster, hpending, Bool.not_true, Bool.or_false,
      Bool.true_or, Bool.and_self, Bool.and_false, Bool.false_eq_true, if_true, if_false]
  · show execSlotListDecision takeover all v s = _
    simp only [execSlotListDecision, himage, hdue, Bool.not_false, if_true]
  · simp only [State.decideList, hp, hacked, Bool.and_self, if_true]
  · have hgo : (p.acked && all) = false := by rcases hnot with h | h <;> simp [h]
    simp only [State.decideList, hp, hgo, Bool.false_eq_true, if_false]

/-- Settles O12: windows, the decision, the start and the end of a hold, and notices of other positions. -/
theorem groupHolds : Obligations.GroupHolds := by
  unfold Obligations.GroupHolds
  intro s ests c w r e others img h q p rest t n
  refine ⟨fun himage hrun hheld hsched hwindow hnone => ?_, fun hrun hmaster hwindow hopen htime => ?_, fun hplans hheld hdue hcause => ?_,
    fun hheld => ⟨fun hover => ?_, fun hstill => ?_⟩, fun hgroup hother => ?_⟩
  · have hgoes : (s.schedTick == 0 || s.schedTick % max 1 h.holdWindow != 0 || s.trv.held.isSome
        || (mget s.trv.requests s.schedTick).isSome) = false := by
      simp [hheld, hsched, hwindow, hnone]
    show execHoldWindowEnd ests c w r s = _
    simp only [execHoldWindowEnd, himage, hrun, hgoes, Bool.false_eq_true, if_false, Bool.and_eq_true, decide_eq_true_eq]
    rfl
  · intro all htop p u
    have hgoes : (e % max 1 h.holdWindow != 0 || s.trv.decided.contains e || decide (e + h.holdLead < s.schedTick)) = false := by
      simp [hwindow, hopen, htime]
    show execHoldRequest e others s = _
    have hmaster' : u.isMaster = true := hmaster
    have htop' : topRequest ((mget s.trv.requests e).getD [] ++ others) = some q := htop
    have hsends : (u.grouped && u.isMaster) = s.grouped := (congrArg _ hmaster').trans (Bool.and_true _)
    simp only [execHoldRequest, hrun, hmaster, if_true, htop', hgoes, Bool.false_eq_true, if_false]
    exact next_eq (congrArg (fun b : Bool => if b = true then u.lockSend (.hold p) else u) hsends)
  · have hgoes : (s.trv.held.isNone && decide (p.sched ≤ s.schedTick)) = true := by simp [hheld, hdue]
    have hcause' : (p.cause == 3) = false := by simpa using hcause
    show execHoldStart s = _
    simp only [execHoldStart, hplans, hgoes, hcause', if_true, Bool.false_eq_true, if_false]
  · show execHoldEnd s = _
    simp only [execHoldEnd, hheld, if_pos hover]
  · show execHoldEnd s = _
    simp only [execHoldEnd, hheld, if_neg (Nat.not_le.2 hstill)]
  · have hgoes : (s.grouped && c != s.groupPos) = true := by simp [hgroup, hother]
    refine ⟨fun hlength => ?_, ?_⟩
    · have hlength' : (n == noLength) = false := by simpa using hlength
      show execFaultNotice c t n s = _
      simp only [execFaultNotice, hgoes, hlength', if_true, Bool.false_eq_true, if_false]
    · show execFaultNotice c t noLength s = _
      simp only [execFaultNotice, hgoes, beq_self_eq_true, if_true]

end Sys2Proof.Machine
end

section
/-! The datum of a group member (R145-R149), and core faults and fences (R203-R214). -/

namespace Sys2Proof.Machine

/-- Settles O13: each state of the datum, and what its events do there. -/
theorem datumStates : Obligations.DatumStates := by
  unfold Obligations.DatumStates
  intro s counter beyond port bench err lost members
  refine ⟨fun hcomp hstate hrun hbench hroute => ?_, fun hstate => ⟨fun hlong hlow hhigh => ?_, fun hout => ?_, fun hlong => ?_⟩,
    fun hstate => ⟨fun hlost => ?_, fun hlow hhigh => ?_⟩, fun hstate => ⟨fun hin => ?_, fun hout => ?_⟩, fun hgroup => ?_⟩
  · show execDatumLock counter beyond s = _
    simp only [execDatumLock, hcomp, hstate, hbench, hroute, Option.bind_some, beq_self_eq_true, Bool.and_self, if_true]
    simp only [State.setDatumTick, hrun, Option.isNone_none, if_true]
  · show execDatumLocked err s = _
    simp only [execDatumLocked, hstate, hlong, hlow, hhigh, beq_self_eq_true, and_self, decide_true, Bool.and_self, if_true]
  · have hout' : ¬ (-5000 ≤ err ∧ err ≤ 5000) := by omega
    show execDatumLocked err s = _
    simp only [execDatumLocked, hout', decide_false, Bool.and_false, Bool.false_eq_true, if_false]
  · show execDatumLockFail s = _
    simp only [execDatumLockFail, hstate, hlong, beq_self_eq_true, decide_true, Bool.and_self, if_true]
  · have hlost' : (lost || decide (err < -10000 ∨ 10000 < err)) = true := by simpa using hlost
    show execDatumHoldover lost err s = _
    simp only [execDatumHoldover, hstate, hlost', beq_self_eq_true, Bool.and_self, if_true]
  · have hkept : ¬ (err < -10000 ∨ 10000 < err) := by omega
    show execDatumHoldover false err s = _
    simp only [execDatumHoldover, hkept, decide_false, Bool.or_self, Bool.and_false, Bool.false_eq_true, if_false]
  · show execHoldoverRelock err s = _
    simp only [execHoldoverRelock, hstate, hin, beq_self_eq_true, decide_true, Bool.and_self, if_true]
  · show execHoldoverTimeout s = _
    simp only [execHoldoverTimeout, hstate, hout, beq_self_eq_true, decide_true, Bool.and_self, if_true]
  · show execBenchmarkTakeover members s = _
    simp only [execBenchmarkTakeover, hgroup, if_true, List.isEmpty_iff] <;> rfl

/-- Settles O14: detections, the fence command and the self-test, branch by branch. -/
theorem fenceRows : Obligations.FenceRows := by
  unfold Obligations.FenceRows
  intro s w k n found inCluster f
  refine ⟨rfl, fun hk => ?_, rfl, ?_, fun hk h => ?_, fun hk h => ?_, fun hk h hidle hfenced => ?_, fun htest hawake => ⟨?_, ?_⟩⟩
  · show execCoreFaultDetect k inCluster f s = _
    simp only [execCoreFaultDetect, hk, if_true]
  · show s.detect k false .watchdog = _
    simp only [State.detect, Bool.false_and, Bool.false_eq_true, if_false, beq_self_eq_true, Bool.or_true, Bool.true_or, if_true]
    rfl
  · show execFenceCore w k s = _
    simp only [execFenceCore, Nat.mod_eq_of_lt hk]
    exact next_eq (commandNow_ok h rfl)
  · show execFenceCluster w k s = _
    simp only [execFenceCluster, Nat.mod_eq_of_lt hk]
    exact next_eq (commandNow_ok h rfl)
  · have hunused : s.activeRun.any (fun h => hdrUses h (k / 8)) = false := by
      cases hrun : s.activeRun with
      | none => rfl
      | some i => exact hidle i hrun
    have hany : (s.clusterFenced (k / 8) || decide (0 < s.fencedCores (k / 8))) = true := by simpa using hfenced
    show execClearCluster w k s = _
    simp only [execClearCluster, Nat.mod_eq_of_lt hk]
    refine next_eq (commandNow_ok h ?_)
    simp only [hunused, hany, Bool.false_eq_true, if_false, if_true]
  · show execClusterSelfTestDone n true s = _
    simp only [execClusterSelfTestDone, htest, hawake, Bool.not_false, Bool.and_self, if_true]
    rfl
  · show execClusterSelfTestDone n false s = _
    simp only [execClusterSelfTestDone, htest, hawake, Bool.not_false, Bool.and_self, if_true, Bool.false_eq_true, if_false]

end Sys2Proof.Machine
end

section
/-! Messages of a station: sessions, prefixes, attachment (R21, R36-R48, R70-R77, R494). -/

namespace Sys2Proof.Machine

/-- A session that is found here is not looked for on another device. -/
theorem orRelay_of_resolved {s : State} {st : Nat} {e : Intake} {x : Session} {go : State → State}
    (hx : (s.resolve st e.msg.hdr.handle).2 = some x) : s.orRelay st e go = go s := by
  simp only [State.orRelay, hx]

theorem sessionMsg_accept {s : State} {st : Nat} {e : Intake} {m : SessMsg} {x : Session} {go : State → Session → Verdict → State}
    (hx : (s.resolve st e.msg.hdr.handle).2 = some x) (hv : verdict x m = .accept) :
    s.sessionMsg st e m go = go (s.resolve st e.msg.hdr.handle).1 x .accept := by
  simp only [State.sessionMsg, hx, hv]

/-- What a message for a session does when it waits alone in the intake of its station, passes every stage, and finds a session in a
state that accepts it. -/
theorem hostMsg_session {z : State} {t : Transfer} {h : MsgHdr} {b : MsgBody} {e : Intake} {m : SessMsg} {x : Session}
    {go : Intake → State → Session → Verdict → State} (hw : (z.readDescs t.descs).waits t.station e)
    (hp : ((z.readDescs t.descs).atTurn t.station e).passes t.station ((z.readDescs t.descs).chosen t.station e)) (hm : e.msg = ⟨h, b⟩)
    (heffect : ∀ (v : State) (i : Intake), i.msg.body = b →
      v.effect t.station i = v.orRelay t.station i (fun s => s.sessionMsg t.station i m (go i)))
    (hbody : isHello b = false) (hgoodbye : b ≠ .goodbye)
    (hx : (((z.readDescs t.descs).serving t.station e).resolve t.station h.handle).2 = some x) (hv : verdict x m = .accept) :
    z.hostMsg t h b =
      go ((z.readDescs t.descs).chosen t.station e) (((z.readDescs t.descs).serving t.station e).resolve t.station h.handle).1 x .accept := by
  have hhandle : ((z.readDescs t.descs).chosen t.station e).msg.hdr.handle = h.handle := by
    simp only [State.chosen, hm]
  rw [← hhandle] at hx ⊢
  rw [hostMsg_served hw hm hbody hgoodbye hp, heffect _ (State.chosen _ _ e) (congrArg Msg.body hm), orRelay_of_resolved hx, sessionMsg_accept hx hv]

/-- Settles O15: a message finds its session, whose state accepts it. -/
theorem sessionMessages : Obligations.SessionMessages := by
  unfold Obligations.SessionMessages
  intro z t e h x b s hw hp e' u hx p
  refine ⟨fun hm hv => ?_, fun hm hv => ?_, fun hm hv => ?_, fun hm hv => ?_, fun hm hv => ?_, fun hm hv => ⟨fun htag => ?_, fun htag => ?_⟩⟩
  · refine next_eq ((hostMsg_session hw hp hm (fun v i hi => by simp only [State.effect, hi]; rfl) rfl (by simp) hx hv).trans ?_)
    simp only [beq_iff_eq]
    rfl
  · refine next_eq ((hostMsg_session hw hp hm (fun v i hi => by simp only [State.effect, hi]; rfl) rfl (by simp) hx hv).trans ?_)
    simp only [Bool.and_eq_true, decide_eq_true_eq, Option.isNone_iff_eq_none]
    rfl
  · refine next_eq ((hostMsg_session hw hp hm (fun v i hi => by simp only [State.effect, hi]; rfl) rfl (by simp) hx hv).trans ?_)
    rfl
  · intro v
    refine next_eq ((hostMsg_session hw hp hm (fun v i hi => by simp only [State.effect, hi]; rfl) rfl (by simp) hx hv).trans ?_)
    simp only [beq_self_eq_true, if_true, State.reviveAt, beq_iff_eq]
    rfl
  · exact next_eq (hostMsg_session hw hp hm (fun v i hi => by simp only [State.effect, hi]; rfl) rfl (by simp) hx hv)
  · have htag' : (b.waitTag != x.waitTag) = false := by simpa using htag
    refine next_eq ((hostMsg_session hw hp hm (fun v i hi => by simp only [State.effect, hi]; rfl) rfl (by simp) hx hv).trans ?_)
    simp only [htag', Bool.false_eq_true, if_false]
    rfl
  · have htag' : (b.waitTag != x.waitTag) = true := by simpa using htag
    refine next_eq ((hostMsg_session hw hp hm (fun v i hi => by simp only [State.effect, hi]; rfl) rfl (by simp) hx hv).trans ?_)
    simp only [htag', if_true]
    rfl

/-- Settles O16, by the case of an OPEN that passes every check (R36-R41). -/
theorem openSession : Obligations.OpenSession := by
  unfold Obligations.OpenSession
  intro z t e h b i g a s hw hp hm st e' half r p u hnone hclosed hroom hprefix hmodels htake asked mode demoted x c d k f
  have hhandle : e'.msg.hdr.handle = h.handle := congrArg (fun m : Msg => m.hdr.handle) hm
  have hresolve : (s.serving st e).resolve st e'.msg.hdr.handle = (r, none) := by
    rw [hhandle]
    exact Prod.ext rfl hnone
  have hprefix' : b.pfx ≠ 0 → ∃ q, r.prefixBy st b.pfx = some q ∧ q.prefixReleased = false ∧ q.state ≠ .failed ∧ q.model = b.model ∧
      (b.half ≠ 2 → q.half = b.half) := by
    intro hpfx
    obtain hzero | ⟨q, hq, hreleased, hstate, hmodel, hhalf⟩ := hprefix
    · exact absurd hzero hpfx
    · exact ⟨q, (if_neg hpfx).symm.trans hq, hreleased, hstate, hmodel, fun hnot => hhalf.resolve_left hnot⟩
  have hopens := openMsg_ok hresolve (by rw [hhandle]; exact hclosed) hroom hprefix' hmodels htake
  rw [hhandle] at hopens
  simp -zeta only [beq_iff_eq] at hopens
  have heffect : (s.serving st e).effect st e' = (s.serving st e).openMsg st e' b half := by
    have hbody : e'.msg.body = .openSession b := congrArg Msg.body hm
    simp only [State.effect, hbody]
    rfl
  exact next_eq ((hostMsg_served hw hm rfl (by simp) hp).trans (heffect.trans hopens))

/-- Settles O17: what PREFIX_REGISTER and PREFIX_RELEASE do. -/
theorem prefixMessages : Obligations.PrefixMessages := by
  unfold Obligations.PrefixMessages
  intro z t e h b i g a q s hw hp st e' u half
  refine ⟨fun hm hroom htake => ?_, fun hm hfound hlive => ?_⟩
  · have hroom' : ¬ u.obj Ob.stn_prefix_max st ≤ u.stationSessions st true := Nat.not_le.2 hroom
    have heffect : u.effect st e' = u.prefixRegisterMsg st e' b half := by
      have hbody : e'.msg.body = .prefixRegister b := congrArg Msg.body hm
      simp only [State.effect, hbody]
      rfl
    refine next_eq ((hostMsg_served hw hm rfl (by simp) hp).trans (heffect.trans ?_))
    simp only [State.prefixRegisterMsg, if_neg hroom', htake]
    rfl
  · have heffect : u.effect st e' = u.prefixReleaseMsg st e' := by
      have hbody : e'.msg.body = .prefixRelease := congrArg Msg.body hm
      simp only [State.effect, hbody]
    have hhandle : e'.msg.hdr.handle = h.handle := congrArg (fun m : Msg => m.hdr.handle) hm
    refine next_eq ((hostMsg_served hw hm rfl (by simp) hp).trans (heffect.trans ?_))
    simp only [State.prefixReleaseMsg, hhandle, hfound, hlive, Bool.false_eq_true, if_false]

/-- A HELLO has its effect as soon as its fields are in range. -/
theorem serveOne_hello {s : State} {st : Nat} {e : Intake} (hw : s.waits st e) (hhello : isHello e.msg.body = true) :
    s.serveOne st e.msg.hdr.seq = (s.atTurn st e).effect st (s.chosen st e) := by
  have hfresh : (e.stage != .fresh) = false := by rw [(fresh_of_waits hw).1]; rfl
  obtain ⟨-, hfind, hleave, hrange⟩ := hw
  simp only [State.serveOne, hfind, hfresh, hleave, hrange, hhello, Option.isSome_none, Bool.or_self, Bool.false_eq_true, if_false, if_true]
  rfl

/-- A GOODBYE waits for its turn at the head of its intake. -/
theorem serveOne_goodbye {s : State} {st : Nat} {e : Intake} (hw : s.waits st e) (hbody : e.msg.body = .goodbye) :
    let v := (s.atTurn st e).setIntake st e.msg.hdr.seq (fun i => { i with stage := .working })
    s.serveOne st e.msg.hdr.seq = (v.setStation st { v.station st with leaving := some e.msg.hdr.seq }).goodbyeStep st := by
  have hfresh : (e.stage != .fresh) = false := by rw [(fresh_of_waits hw).1]; rfl
  have hhello : isHello e.msg.body = false := by rw [hbody]; rfl
  have hgoodbye : (e.msg.body == MsgBody.goodbye) = true := by simp [hbody]
  obtain ⟨-, hfind, hleave, hrange⟩ := hw
  simp only [State.serveOne, hfind, hfresh, hleave, hrange, hhello, hgoodbye, Option.isSome_none, Bool.or_self, Bool.false_eq_true, if_false,
    if_true]
  rfl

/-- A GOODBYE at the head of its intake completes and detaches the station. -/
theorem goodbyeStep_head {s : State} {n seq : Nat} {e : Intake} {rest : List Intake} (hleaving : (s.station n).leaving = some seq)
    (hhead : (s.station n).intake = e :: rest) (hseq : e.msg.hdr.seq = seq) :
    s.goodbyeStep n = ((s.finishOne n seq (Outcome.of St.OK)).dropIntake n).setStationState n 0 := by
  simp only [State.goodbyeStep, hleaving, hhead, List.head?_cons, hseq, beq_self_eq_true, if_true]

/-- A version range without 3 refuses a station that is not attached (R494). -/
theorem helloMsg_refused {s : State} {st : Nat} {e : Intake} {b : HelloBody} (hversion : 3 < b.majorLo ∨ b.majorHi < 3)
    (hdetached : (s.station st).state ≠ 1) :
    let v := s.setStation st { s.station st with helloStatus := St.VERSION_MISMATCH }
    s.helloMsg st e b = (v.setStation st { v.station st with
      intake := (v.station st).intake.filter (fun i => i.msg.hdr.seq != e.msg.hdr.seq) }).setStationState st 3 := by
  have hrange : (decide (b.majorLo ≤ 3) && decide (3 ≤ b.majorHi)) = false := by
    simp only [Bool.and_eq_false_iff, decide_eq_false_iff_not]
    omega
  have hstate : ((s.station st).state == 1) = false := by simpa using hdetached
  simp only [State.helloMsg, hrange, hstate, Bool.false_eq_true, if_false]

/-- Settles O18: HELLO, GOODBYE and RING_NAME, which no rule of the traffic stage judges first. -/
theorem attachMessages : Obligations.AttachMessages := by
  unfold Obligations.AttachMessages
  intro z t e h b b' m x rest s hw st e' u k
  refine ⟨fun hm hlo hhi hmodule => ?_, fun hm hversion hdetached => ?_, fun hm => ?_, fun hm hp => ?_⟩
  · have hbody : e'.msg.body = .hello b := congrArg Msg.body hm
    have hseq : e'.msg.hdr.seq = h.seq := congrArg (fun m : Msg => m.hdr.seq) hm
    have hrange : (decide (b.majorLo ≤ 3) && decide (3 ≤ b.majorHi)) = true := by simp [hlo, hhi]
    have hserve := (hostMsg_waits hw hm).trans (serveOne_hello hw (by rw [hm]; rfl))
    refine next_eq (hserve.trans ?_)
    change u.effect st e' = _
    simp only [State.effect, hbody, State.helloMsg, hseq, hrange, hmodule, if_true]
    rfl
  · have hbody : e'.msg.body = .hello b := congrArg Msg.body hm
    have hseq : e'.msg.hdr.seq = h.seq := congrArg (fun m : Msg => m.hdr.seq) hm
    have hserve := (hostMsg_waits hw hm).trans (serveOne_hello hw (by rw [hm]; rfl))
    refine next_eq (hserve.trans ?_)
    change u.effect st e' = _
    simp only [State.effect, hbody, helloMsg_refused hversion hdetached, hseq]
    rfl
  · have hseq : e.msg.hdr.seq = h.seq := congrArg (fun m : Msg => m.hdr.seq) hm
    rw [← hseq]
    intro v a hleaving hhead
    have hserve := (hostMsg_waits hw hm).trans (serveOne_goodbye hw (congrArg Msg.body hm))
    exact next_eq (hserve.trans (goodbyeStep_head hleaving hhead rfl))
  · intro r hx hstate hboundary hring
    have hseq : e'.msg.hdr.seq = h.seq := congrArg (fun m : Msg => m.hdr.seq) hm
    have hhandle : e'.msg.hdr.handle = h.handle := congrArg (fun m : Msg => m.hdr.handle) hm
    have hbody : e'.msg.body = .ringName b' := congrArg Msg.body hm
    have hstate' : (x.state == .cancelling) = false := by simpa using hstate
    have hring' : (x.fbMode == 0 && decide (2 ^ b'.log2 < (2 ^ 32 + x.ringWrite - b'.cons) % 2 ^ 32)) = false := by
      simp only [Bool.and_eq_false_iff, beq_eq_false_iff_ne, decide_eq_false_iff_not, Nat.not_lt]
      exact hring
    have hx' : ((s.serving st e).resolve st e'.msg.hdr.handle).2 = some x := by rw [hhandle]; exact hx
    have heffect : (s.serving st e).effect st e' = (s.serving st e).ringNameMsg st e' b' := by
      simp only [State.effect, hbody]
      exact orRelay_of_resolved hx'
    refine next_eq ((hostMsg_served hw hm rfl (by simp) hp).trans (heffect.trans ?_))
    simp only [State.ringNameMsg, hx', hstate', hboundary, hring', Bool.or_self, Bool.false_eq_true, if_false, hseq]
    rw [hhandle]

end Sys2Proof.Machine
end

section
/-! Reads and writes of the object dictionary by their senders (R494, R514-R518, R533, R535). -/

namespace Sys2Proof.Machine

/-- A read outside the registers of 0xC000 answers the row as it stands. -/
theorem serveRead_plain {s : State} {w : Writer} {index sub : Nat} {o : ObjSpec} {i j : Nat} (h : s.mayRead w index sub o i j)
    (hplain : index / 256 ≠ 0xC0) : s.serveRead w index sub = (s.popRow o i).replyValue w St.OK (s.readRow o i j) := by
  have hplain' : (index / 256 == 0xC0) = false := beq_eq_false_iff_ne.2 hplain
  rw [serveRead_ok h, hplain']
  rfl

/-- A read of the error log takes the oldest entry of the spill log, or of the ring where the spill log is empty (R433). -/
theorem popRow_errRead (s : State) : s.popRow Ob.err_read 0 = s.setErr (if s.fb.err.spill = [] then
    { s.fb.err with ring := s.fb.err.ring.drop 1 } else { s.fb.err with spill := s.fb.err.spill.drop 1 }) := by
  show (match s.fb.err.spill with
    | _ :: q => s.setErr { s.fb.err with spill := q }
    | [] => s.setErr { s.fb.err with ring := s.fb.err.ring.drop 1 }) = _
  cases s.fb.err.spill with
  | nil => rfl
  | cons a q => rfl

/-- Settles O19: every read is one of the dictionary, with its own row taken. -/
theorem objectReads : Obligations.ObjectReads := by
  unfold Obligations.ObjectReads
  intro z s t e h b f x w half o i j
  refine ⟨?_, fun hserved hread hplain => ?_, fun hread => ?_, fun hread => ?_, fun hread => ?_⟩
  · intro v hw hp hm u hread hplain
    have heffect : u.effect t.station (v.chosen t.station e) = u.serveRead (.station t.station h.seq) b.index b.sub := by
      have hmsg : (v.chosen t.station e).msg = ⟨h, .objRead b⟩ := hm
      simp only [State.effect, hmsg]
    exact next_eq ((hostMsg_served hw hm rfl (by simp) hp).trans (heffect.trans (serveRead_plain hread hplain)))
  · exact next_eq ((request_ok hserved _).trans (serveRead_plain hread hplain))
  · exact next_eq (serveRead_plain hread (by decide))
  · have hplain : (0x4100 + half % 2) / 256 ≠ 0xC0 := by omega
    exact next_eq (serveRead_plain hread hplain)
  · refine next_eq ((serveRead_plain hread (by decide)).trans ?_)
    rw [popRow_errRead]

/-- A read-only object refuses its write. -/
theorem writeObject_readOnly {s : State} {w : Writer} {index sub : Nat} {o : ObjSpec} {i j : Nat} {v : Octets}
    (hfind : s.findObj index sub = some (o, i, j)) (hsub : sub ≠ 0) (hshut : s.recoveryShuts index sub = false)
    (hplain : s.commandOf w o i v = none) (hro : o.access = .ro) : s.writeObject w index sub v = s.reply w St.OBJECT_DENIED := by
  have hsub' : (sub == 0) = false := beq_eq_false_iff_ne.2 hsub
  have hdenied : ∀ k l, s.writeCheck w o k l v = St.OBJECT_DENIED := fun k l => by simp [State.writeCheck, hro]
  have hne : ¬ St.OBJECT_DENIED = St.OK := by decide
  simp only [State.writeObject, hfind, hshut, hplain, State.writeAt, hsub', State.plainWrite, hdenied, hne, Bool.false_eq_true, if_false,
    ne_eq, not_false_eq_true, if_true]

/-- Settles O20: every write of a plain object is carried out as the dictionary does. -/
theorem objectWrites : Obligations.ObjectWrites := by
  unfold Obligations.ObjectWrites
  intro z s t e h b f x w index sub v o i j st k res n burst p r
  refine ⟨fun hwrite => next_eq (writeObject_ok hwrite), ?_, fun hserved hlen hwrite => ?_,
    fun hwrite => next_eq (writeAt_ok hwrite), fun hwrite => next_eq (writeAt_ok hwrite),
    ⟨fun hwrite => next_eq (writeAt_ok hwrite), fun hwrite => next_eq (writeAt_ok hwrite)⟩, fun hwaits hfind => ?_,
    fun hfind hsub _ hshut hplain hro => next_eq (writeObject_readOnly hfind hsub hshut hplain hro)⟩
  · intro y hw hp hm u hwrite
    have heffect : u.effect t.station (y.chosen t.station e) =
        u.writeObject (.station t.station h.seq) b.index b.sub (b.value.take b.len) := by
      have hmsg : (y.chosen t.station e).msg = ⟨h, .objWrite b⟩ := hm
      simp only [State.effect, hmsg]
    exact next_eq ((hostMsg_served hw hm rfl (by simp) hp).trans (heffect.trans (writeObject_ok hwrite)))
  · refine next_eq ((request_ok hserved _).trans ?_)
    simp only [if_neg (Nat.not_lt.2 hlen)]
    exact writeObject_ok hwrite
  · intro u g
    refine ⟨fun hcheck => ⟨?_, ?_⟩, fun c hcheck hc => ?_⟩
    · show Host.Outcome.next (s.persistEnd true) = _
      simp only [State.persistEnd, hwaits, hfind]
      rw [if_neg (fun hne => hne hcheck)]
      rfl
    · show Host.Outcome.next (s.persistEnd false) = _
      simp only [State.persistEnd, hwaits, hfind]
      rw [if_neg (fun hne => hne hcheck)]
      rfl
    · show Host.Outcome.next (s.persistEnd burst) = _
      simp only [State.persistEnd, hwaits, hfind]
      rw [if_pos (fun h => hc (hcheck.symm.trans h)), ← hcheck]

end Sys2Proof.Machine
end

section
/-! Vector search, the associative engine and its tables (R312-R325, R336-R346). -/

namespace Sys2Proof.Machine

/-- A DELETE of a live node that no INSERT holds back marks it (R342). -/
theorem vxDelete_linked {s : State} {ii slot pos : Nat} {n : VxNode} (hheld : n.insEpoch ≠ vxPending) :
    let seq := (s.obj Ob.vx_del_seq ii + 1) % 2 ^ 32
    let v := (s.setObj Ob.vx_del_seq ii seq).setObj Ob.vx_journal_pos ii pos
    let y := { v.vxAt ii with nodes := mput (v.vxAt ii).nodes slot { n with tomb := true, tombSeq := seq } }
    s.vxDelete ii slot pos n = ((v.setVx ii y).setObj Ob.vx_live ii (v.obj Ob.vx_live ii - 1), seq) := by
  have hheld' : (n.insEpoch == vxPending) = false := beq_eq_false_iff_ne.2 hheld
  simp only [State.vxDelete, hheld', Bool.false_eq_true, if_false]

/-- Settles O21: each message, with an index that its station may use so and with one that it may not. -/
theorem searchMessages : Obligations.SearchMessages := by
  unfold Obligations.SearchMessages
  intro z t e h b slot n s hw hp st e' out q
  have hserved : ∀ {c : MsgBody}, isHello c = false → c ≠ .goodbye → e.msg = ⟨h, c⟩ →
      z.hostMsg t h c = (s.serving st e).effect st e' := fun hh hg hm => hostMsg_served hw hm hh hg hp
  have hopen : ∀ {c : Nat}, c = St.OK → (c != St.OK) = false := fun h => by simp [h]
  have hshut : ∀ {c : Nat}, c ≠ St.OK → (c != St.OK) = true := fun h => by simpa using h
  refine ⟨fun hm => ?_, fun hm => ?_, fun hm => ?_⟩
  · intro u
    have hmsg : e'.msg = ⟨h, .query b⟩ := hm
    have heffect : (s.serving st e).effect st e' = u.queryMsg st e' b := by simp only [State.effect, hmsg]; rfl
    refine ⟨fun hok => next_eq ((hserved rfl (by simp) hm).trans (heffect.trans ?_)), fun hno =>
      next_eq ((hserved rfl (by simp) hm).trans (heffect.trans ?_))⟩
    · simp only [State.queryMsg, hopen hok, Bool.false_eq_true, if_false, hmsg]
      rfl
    · simp only [State.queryMsg, hshut hno, if_true, hmsg]
  · intro u
    have hmsg : e'.msg = ⟨h, .insert b⟩ := hm
    have heffect : (s.serving st e).effect st e' = u.insertMsg st e' b := by simp only [State.effect, hmsg]; rfl
    refine ⟨fun hok => next_eq ((hserved rfl (by simp) hm).trans (heffect.trans ?_)), fun hno =>
      next_eq ((hserved rfl (by simp) hm).trans (heffect.trans ?_))⟩
    · simp only [State.insertMsg, hopen hok, Bool.false_eq_true, if_false, hmsg]
      rfl
    · simp only [State.insertMsg, hshut hno, if_true, hmsg]
  · intro u
    have hmsg : e'.msg = ⟨h, .delete b⟩ := hm
    have hseq : e'.msg.hdr.seq = h.seq := congrArg (fun m : Msg => m.hdr.seq) hm
    have heffect : (s.serving st e).effect st e' = u.deleteMsg st e' b := by simp only [State.effect, hmsg]; rfl
    refine ⟨fun hok => ⟨fun hfind htomb hheld => ?_, fun hfind => ?_⟩, fun hno => ?_⟩
    · refine next_eq ((hserved rfl (by simp) hm).trans (heffect.trans ?_))
      simp only [State.deleteMsg, hopen hok, hfind, htomb, Bool.false_eq_true, if_false, vxDelete_linked hheld, hseq]
    · refine next_eq ((hserved rfl (by simp) hm).trans (heffect.trans ?_))
      simp only [State.deleteMsg, hopen hok, hfind, Bool.false_eq_true, if_false, hseq]
    · refine next_eq ((hserved rfl (by simp) hm).trans (heffect.trans ?_))
      simp only [State.deleteMsg, hshut hno, if_true, hseq]

/-- A search that fits its window, with none before it, is admitted at once (R321). -/
theorem searchAsk_admits {s : State} {half : Nat} {w : CamWait} (hfits : s.searchFits half w.requester = true)
    (hnone : (s.cam half).waiting = []) : s.searchAsk half w = s.searchAdmit half w := by
  simp only [State.searchAsk, hfits, hnone, List.any_nil, Bool.not_false, Bool.and_self, if_true]

/-- A search of the intake that does not fit waits behind the others of its half. -/
theorem searchAsk_waits {s : State} {half : Nat} {w : CamWait} (hfits : s.searchFits half w.requester = false)
    (hintake : 256 ≤ w.requester) (hroom : (s.cam half).waiting.length < 1024) :
    s.searchAsk half w = s.setCam half { s.cam half with waiting := (s.cam half).waiting ++ [w] } := by
  have hnot : ¬ w.requester < 256 := Nat.not_lt.2 hintake
  have hall : ∀ l : List CamWait, l.filter (fun _ => true) = l := fun _ => List.filter_eq_self.2 fun _ _ => rfl
  have hnone : ∀ l : List CamWait, l.filter (fun _ => false) = [] := fun _ => List.filter_eq_nil_iff.2 fun _ _ => Bool.false_ne_true
  simp only [State.searchAsk, hfits, Bool.false_and, Bool.false_eq_true, if_false, if_pos hroom, hintake, hnot, decide_true, decide_false,
    Bool.or_true, Bool.and_false, hall, hnone, List.append_nil]

/-- The allowance that the sensors set (R325), with the temperature compared as it stands. -/
theorem searchRate_eq (quarters : Int) :
    searchRate quarters = if quarters ≤ 380 then 64 else if 420 ≤ quarters then 16 else 64 - 6 * (quarters - 380).toNat / 5 := by
  have hlow : quarters - 380 ≤ 0 ↔ quarters ≤ 380 := by omega
  have hhigh : 40 ≤ quarters - 380 ↔ 420 ≤ quarters := by omega
  simp only [searchRate, hlow, hhigh]

theorem camTrvInsert_full {s : State} {half : Nat} {e : CamEntry}
    (h : s.regionLimit Ob.cam_trv_entries (s.cam half).regions.trv ≤ (s.trvEntries half).length ∨
      camInsert (s.cam half).entries (s.cam half).regions.trvBase (s.cam half).regions.trv e = none) : s.camTrvInsert half e = none := by
  simp only [State.camTrvInsert]
  obtain hlimit | hroom := h
  · rw [if_pos hlimit]
  · simp only [hroom, Option.map_none, ite_self]

theorem camRuleInsert_full {s : State} {half : Nat} {e : CamEntry}
    (h : s.regionLimit Ob.cam_rule_entries (s.cam half).regions.rule ≤ (s.ruleEntries half).length ∨ s.camOrdered half e = none) :
    s.camRuleInsert half e = none := by
  simp only [State.camRuleInsert]
  obtain hlimit | hroom := h
  · rw [if_pos hlimit]
  · rw [hroom, ite_self]

/-- Settles O22: the searches, the windows and the tables of a half. -/
theorem associativeEngine : Obligations.AssociativeEngine := by
  unfold Obligations.AssociativeEngine
  intro s half key tab res n parity quarters h img r m c u hhalf
  refine ⟨?_, fun hrun himage hsearch hcluster hfenced hasleep hcycle hnew => ?_, ?_, ?_, ?_, ?_, fun x hx hkey hx' => ?_, ?_, ?_⟩
  · intro v w
    have hask : exec (.camSearch half key parity) s = .next (v.searchAsk half w) := by
      show execCamSearch half key parity s = _
      simp only [execCamSearch, if_pos hhalf]
      rfl
    refine ⟨fun hfits hnone => hask.trans (next_eq (searchAsk_admits hfits hnone)),
      fun hfits hroom => hask.trans (next_eq (searchAsk_waits hfits (Nat.le_refl 256) hroom)), ?_⟩
    have hintake : ¬ w.requester < 256 := Nat.lt_irrefl 256
    simp only [State.searchAdmit, if_neg hintake]
  · have hgoes : (decide (r.cluster < 512) && !s.clusterFenced r.cluster && !s.asleep r.cluster && decide (r.cycle < 60 * (s.schedTick + 1))
        && !s.trv.searched.contains n) = true := by
      simp [hcluster, hfenced, hasleep, hcycle, hnew]
    show execTraverseSearch n s = _
    simp only [execTraverseSearch, hrun, himage, Option.bind_some, hsearch, hgoes, if_true]
  · show execSearchWindow half s = _
    simp only [execSearchWindow, if_pos hhalf]
  · show execThrottleUpdate half quarters s = _
    simp only [execThrottleUpdate, if_pos hhalf, beq_iff_eq, searchRate_eq]
  · intro room limit
    refine ⟨fun hlimit hroom => ?_, fun hfull => ?_⟩
    · have hinsert : s.camTrvInsert half (camExact 4 (key % 2 ^ 120) (res % 2 ^ 32)) = some (s.setCam half ((s.cam half).put m)) :=
        (if_neg (Nat.not_le.2 hlimit)).trans (congrArg _ hroom)
      show execCamInsert half 4 key res s = _
      simp only [execCamInsert, if_pos hhalf, hinsert]
    · show execCamInsert half 4 key res s = _
      simp only [execCamInsert, if_pos hhalf, camTrvInsert_full hfull]
  · intro room
    refine ⟨fun hroom => ?_, fun hroom => ?_⟩
    · have hroom' : camInsert _ _ _ _ = _ := hroom
      show execCamInsert half 2 key res s = _
      simp only [execCamInsert, if_pos hhalf, hroom']
    · have hroom' : camInsert _ _ _ _ = _ := hroom
      show execCamInsert half 2 key res s = _
      simp only [execCamInsert, if_pos hhalf, hroom']
  · have hmatch : (handleKey x.station x.handle == key && x.half == half) = true := by simp [hkey, hx']
    show execCamInsert half 1 key res s = _
    simp only [execCamInsert, if_pos hhalf, hx, hmatch, if_true]
  · show execCamRemove half tab key s = _
    simp only [execCamRemove, if_pos hhalf]
    rfl
  · intro e limit
    refine ⟨fun hlimit hroom => ?_, fun hfull => ?_⟩
    · have hinsert : s.camRuleInsert half e = some u := (if_neg (Nat.not_le.2 hlimit)).trans hroom
      show execOrderedInsert half c s = _
      simp only [execOrderedInsert, if_pos hhalf]
      exact congrArg _ (by rw [hinsert])
    · have hinsert : s.camRuleInsert half e = none := camRuleInsert_full hfull
      show execOrderedInsert half c s = _
      simp only [execOrderedInsert, if_pos hhalf]
      exact congrArg _ (by rw [hinsert])

end Sys2Proof.Machine
end

section
/-! Vector indexes (R330-R346). -/

namespace Sys2Proof.Machine

/-- An index without tiles takes what is set, its identifier map aside, which follows the nodes. -/
theorem State.vxAt_setVx_untiled (s : State) (ii : Nat) {x : VxIndex} (h : x.tiles = []) :
    ((s.setVx ii x).vxAt ii).nodes = x.nodes ∧ ((s.setVx ii x).vxAt ii).generation = x.generation := by
  have hnone : x.tiles.isEmpty = true := List.isEmpty_iff.2 h
  simp only [State.setVx, hnone, if_true]
  constructor <;> simp only [State.vxAt, mget_mput_self, Option.getD_some]

/-- An index that is made has its nodes, under the next generation (R337). -/
theorem State.vxMake_vxAt (s : State) (ii : Nat) (nodes : SMap VxNode) :
    ((s.vxMake ii nodes).vxAt ii).nodes = nodes ∧ ((s.vxMake ii nodes).vxAt ii).generation = (s.vxAt ii).generation + 1 := by
  constructor
  · simp only [State.vxMake, State.vxAt, mget_mput_self, Option.getD_some]
    exact (State.vxAt_setVx_untiled s ii rfl).1
  · simp only [State.vxMake, State.vxAt, mget_mput_self, Option.getD_some]
    exact (State.vxAt_setVx_untiled s ii rfl).2

/-- Settles O23: the commands of an index, its queries, its links, its epochs and its sweeps. -/
theorem vectorIndexes : Obligations.VectorIndexes := by
  unfold Obligations.VectorIndexes
  intro s w ii half count bound pos img o n i hii x h need fresh
  refine ⟨s.vxMake_vxAt ii, fun hok hempty hroom => ?_, fun hok hempty hroom => ⟨?_, fun htiles hlen hdigest => ?_⟩, fun hok hlive => ?_,
    fun hfind hserves => ?_, fun hfind hquiet hserves hidle hnode => ?_, fun hloaded hdue hwork hidle hkept => ?_,
    fun hsweep => ?_⟩
  · have hempty' : (s.obj Ob.vx_state ii != 0) = false := by simpa using hempty
    have hroom' : ¬ s.t2Free (s.obj Ob.vx_half ii) < ceilDiv (s.vxLayout ii).count 11 := Nat.not_lt.2 hroom
    show execCreate w ii s = _
    simp only [execCreate, if_pos hii]
    refine next_eq (commandNow_ok hok ?_)
    simp only [hempty', Bool.false_eq_true, if_false, if_neg hroom']
  · have hempty' : (s.obj Ob.vx_state ii != 0) = false := by simpa using hempty
    have hroom' : ¬ s.t2Free (s.obj Ob.vx_half ii) < ceilDiv (s.vxLayout ii).count 11 := Nat.not_lt.2 hroom
    show execVxLoad w ii none s = _
    simp only [execVxLoad, if_pos hii]
    refine next_eq (command_ok hok ?_)
    simp only [hempty', Bool.false_eq_true, if_false, if_neg hroom']
    rfl
  · have hempty' : (s.obj Ob.vx_state ii != 0) = false := by simpa using hempty
    have hroom' : ¬ s.t2Free (s.obj Ob.vx_half ii) < ceilDiv (s.vxLayout ii).count 11 := Nat.not_lt.2 hroom
    have hsound : (!(records 4352 img).all (fun t => tileCrcOk t && (parseTile t).formatOk) || img.length % 4352 != 0
        || Config.shake256 img 32 != s.str Ob.vx_digest ii) = false := by
      simp only [Bool.or_eq_false_iff, Bool.not_eq_false', List.all_eq_true, Bool.and_eq_true, bne_eq_false_iff_eq]
      exact ⟨⟨htiles, hlen⟩, hdigest⟩
    show execVxLoad w ii (some img) s = _
    simp only [execVxLoad, if_pos hii]
    refine next_eq (command_ok hok ?_)
    simp only [hempty', hsound, Bool.false_eq_true, if_false, if_neg hroom']
  · have hlive' : (s.obj Ob.vx_state ii == 0 || s.obj Ob.vx_state ii == 1) = false := by
      simp only [Bool.or_eq_false_iff, beq_eq_false_iff_ne]
      omega
    show execDrop w ii s = _
    simp only [execDrop, if_pos hii]
    refine next_eq (command_ok hok ?_)
    simp only [hlive', Bool.false_eq_true, if_false]
    rfl
  · show execVxQueryStart half s = _
    simp only [execVxQueryStart, hfind, hserves, Bool.not_true, Bool.false_eq_true, if_false]
  · have hgoes : (s.srch.queries.any (fun o => s.obj Ob.vx_half o.index == s.obj Ob.vx_half ii) || !s.searchServes (s.obj Ob.vx_half ii)
        || (s.vxAt ii).advancing.isSome) = false :=
      Bool.or_eq_false_iff.2 ⟨Bool.or_eq_false_iff.2 ⟨hquiet, congrArg _ hserves⟩, congrArg _ hidle⟩
    show execInsertLink ii s = _
    simp only [execInsertLink, show (s.vxAt ii).inserts.find? (fun j => !j.linked) = some i from hfind, hgoes, Bool.false_eq_true, if_false,
      show mget (s.vxAt ii).nodes i.slot = some n from hnode]
    rfl
  · have hgoes : (s.obj Ob.vx_state ii == 2 && s.tick % max 1 (s.obj Ob.vx_advance_ticks ii) == 0 && vxHasWork (s.vxAt ii)
        && (s.vxAt ii).advancing.isNone && !(s.vxAt ii).dropping) = true := by
      rw [hloaded, hdue, show vxHasWork (s.vxAt ii) = true from hwork, show (s.vxAt ii).advancing = none from hidle,
        show (s.vxAt ii).dropping = false from hkept]
      rfl
    refine ⟨fun hruns => ?_, fun hrests => ?_⟩
    · show execEpochAdvance ii s = _
      simp only [execEpochAdvance, hgoes, if_true, hruns]
      rfl
    · show execEpochAdvance ii s = _
      simp only [execEpochAdvance, hgoes, if_true, hrests, Bool.false_eq_true, if_false]
  · intro todo y next
    have hsweep' : (s.vxAt ii).sweep = some (bound, pos) := hsweep
    have hrow : exec (.repairSweep ii count) s = .next (if y.nodes.any (fun p => decide (next ≤ p.1)) then
        (s.setVx ii { y with sweep := some (bound, next) }).setObj Ob.vx_sweep_pos ii next
      else
        let covered := (y.nodes.filter (fun p => p.2.tomb && p.2.insEpoch != vxPending && decide (p.2.tombSeq ≤ bound))).map Prod.fst
        (s.setVx ii { y with sweep := none, retire := y.retire ++ covered.filter (fun a => !y.retire.contains a) }).setObj
          Ob.vx_sweep_pos ii 0xFFFFFFFF) := by
      show execRepairSweep ii count s = _
      simp only [execRepairSweep, hsweep']
      rfl
    exact ⟨fun hmore => hrow.trans (next_eq (if_pos hmore)), fun hlast => hrow.trans (next_eq (if_neg (by rw [hlast]; exact Bool.false_ne_true)))⟩

end Sys2Proof.Machine
end

section
/-! UCIe modules and the transfers between hosts and stations (R489-R511). -/

namespace Sys2Proof.Machine

/-- Settles O24: each event of a module, by its state. -/
theorem ucieModules : Obligations.UcieModules := by
  unfold Obligations.UcieModules
  intro s m rate width hm
  refine ⟨fun htraining => ⟨fun hin hrate hwidth => ?_, fun hlate => ?_⟩, fun hdown => ⟨fun hdue => ?_, fun hearly => ?_⟩, fun hup => ?_,
    fun hmode hup hidle hnone => ?_⟩
  · exact next_eq (if_pos ⟨hm, htraining, hin, hrate, hwidth⟩)
  · exact next_eq (if_pos ⟨hm, htraining, hlate⟩)
  · exact next_eq (if_pos ⟨hm, hdown, hdue⟩)
  · exact next_eq (if_neg fun ⟨_, _, hdue⟩ => absurd hdue (Nat.not_le.2 hearly))
  · exact next_eq (if_pos ⟨hm, hup⟩)
  · have hunused : s.attached.all (fun n => (s.station n).module != m) = true :=
      List.all_eq_true.2 fun n hn => by simpa using hnone n hn
    exact next_eq (if_pos ⟨hm, hmode, hup, hidle, hunused⟩)

/-- A transfer in range on an UP module reaches its row. -/
theorem transfer_ok {s : State} {t : Transfer} {kind : Nat} {go : State → State} (hmodule : t.ucie < 8) (hstation : t.station < 256)
    (hup : s.ucieUp t.ucie = true) (hok : transferOk t = true) (hkind : t.kind = kind) :
    s.transfer t kind go = go (s.arrived t.station t.ucie) := by
  have hin : (decide (t.ucie < 8 ∧ t.station < 256) && s.ucieUp t.ucie) = true := by simp [hmodule, hstation, hup]
  simp only [State.transfer, hin, hok, hkind, Bool.not_true, Bool.false_eq_true, if_false, beq_self_eq_true, if_true]

/-- A message of an attached station with the credits and a completion entry takes both and enters its intake. -/
theorem enterIntake_room {s : State} {st module len : Nat} {m : Msg} (hservice : s.stn.inService = true) (hattached : (s.station st).state = 1)
    (hcredits : ceilDiv len 64 ≤ (s.station st).credits) (hentry : (s.station st).entryRoom ≠ 0) :
    s.enterIntake st module len m = s.setStation st { s.station st with
      credits := (s.station st).credits - ceilDiv len 64, cqTaken := (s.station st).cqTaken + 1,
      intake := (s.station st).intake ++ [⟨m, module, ceilDiv len 64, s.tick, s.tick, s.privileged st, .fresh, 0, false, false, 0, 0⟩] } := by
  have hentry' : ((s.station st).entryRoom == 0) = false := beq_eq_false_iff_ne.2 hentry
  simp only [State.enterIntake, hservice, hattached, bne_self_eq_false, Bool.not_true, Bool.false_eq_true, if_false,
    if_neg (Nat.not_lt.2 hcredits), hentry']

/-- A message beyond the free credits is counted, and completes so where a completion entry is free. -/
theorem enterIntake_overflow {s : State} {st module len : Nat} {m : Msg} (hservice : s.stn.inService = true)
    (hattached : (s.station st).state = 1) (hcredits : (s.station st).credits < ceilDiv len 64) (hentry : (s.station st).entryRoom ≠ 0) :
    s.enterIntake st module len m = (s.bump Ob.stn_cnt_intake_drop st).setStation st
      (({ s.station st with cqTaken := (s.station st).cqTaken + 1 } : Station).complete m.hdr.seq (msgType m.body) 0
        (Outcome.of St.INTAKE_OVERFLOW)) := by
  have hentry' : ((s.station st).entryRoom == 0) = false := beq_eq_false_iff_ne.2 hentry
  simp only [State.enterIntake, hservice, hattached, bne_self_eq_false, Bool.not_true, Bool.false_eq_true, if_false, if_pos hcredits, hentry']

/-- Settles O25: each transfer, and what a station's timers do. -/
theorem stationTransfers : Obligations.StationTransfers := by
  unfold Obligations.StationTransfers
  intro s t m st tag data r w rest
  refine ⟨fun hmodule hstation hup hok => ?_, ?_⟩
  · intro u x
    refine ⟨fun hkind hservice hattached => ?_, fun hkind => ?_, fun hkind hread htime hlen => ?_, fun hkind => ?_⟩
    · intro need served e
      have hrow : ∀ v, u.enterIntake t.station t.ucie t.len m = v → exec (.msgTransfer t m) s = .next (served v) := by
        intro v hv
        show execMsgTransfer t m s = _
        simp only [execMsgTransfer, transfer_ok hmodule hstation hup hok hkind, ← hv]
        rfl
      refine ⟨fun hcredits hentry => hrow _ (enterIntake_room hservice hattached hcredits hentry), fun hcredits => ?_⟩
      intro v hentry
      exact hrow _ (enterIntake_overflow hservice hattached hcredits hentry)
    · exact next_eq (transfer_ok hmodule hstation hup hok hkind)
    · have hread' : mget ((s.arrived t.station t.ucie).station t.station).reads t.tag = some r := hread
      have hlate : ((s.arrived t.station t.ucie).readLate t.station r || data.length != r.len) = false := by
        rw [show (s.arrived t.station t.ucie).readLate t.station r = false from htime, hlen, bne_self_eq_false, Bool.or_self]
      refine next_eq ((transfer_ok hmodule hstation hup hok hkind).trans ?_)
      simp only [hread', hlate, Bool.false_eq_true, if_false]
      rfl
    · exact next_eq (transfer_ok hmodule hstation hup hok hkind)
  · intro x
    refine ⟨fun hread hlate => ?_, fun hattached hawake => ⟨fun hdue => ?_, fun hearly => ?_, fun hlost => ?_⟩, fun hout hissued => ?_⟩
    · show execHostReadTimeout st tag s = _
      simp only [execHostReadTimeout, show mget (s.station st).reads tag = some r from hread, hlate, if_true]
      rfl
    · exact next_eq (if_pos ⟨hattached, hdue, hawake⟩)
    · exact next_eq (if_neg fun ⟨_, hdue, _⟩ => absurd hdue (Nat.not_le.2 hearly))
    · exact next_eq (if_pos ⟨hattached, hlost, hawake⟩)
    · show execWritePosted st s = _
      simp only [execWritePosted, show (s.station st).out = w :: rest from hout, hissued, if_true]
      rfl

end Sys2Proof.Machine
end

section
/-! Deferred messages, the field book and its witness (R376-R378, R400-R413). -/

namespace Sys2Proof.Machine

/-- Settles O26: a fetched message, a deferred one by what its buckets say, and the start of intake. -/
theorem deferredMessages : Obligations.DeferredMessages := by
  unfold Obligations.DeferredMessages
  intro s st seq e hfind
  refine ⟨fun hstage hread => ?_, fun hstage hpass => ⟨fun hwindow => ?_, fun hearly => ?_, fun hdue => ⟨fun hrecord hheld => ?_, fun hfree => ?_⟩⟩,
    fun hstage hshort => ⟨?_, fun hdue => ?_, fun hearly => ?_⟩, fun hstrapped hheld hrecovery hservice => ?_⟩
  · show execReferencedBytesArrived st seq s = _
    simp only [execReferencedBytesArrived, hfind]
    refine next_eq (if_pos ?_)
    simp only [hstage, beq_self_eq_true, Bool.true_and, Bool.not_eq_true', List.any_eq_false]
    intro p hp
    split
    · next n off huse =>
      have hother : n ≠ seq := fun h => hread p hp off (h ▸ huse)
      simpa using hother
    · exact Bool.false_ne_true
  · show execDeferredMessagePass st seq s = _
    simp only [execDeferredMessagePass, hfind, hstage, hpass, hwindow, beq_self_eq_true, Bool.and_self, if_true]
  · show execDeferExpiry st seq s = _
    simp only [execDeferExpiry, hfind, Nat.not_le.2 hearly, decide_false, Bool.and_false, Bool.false_eq_true, if_false]
  · show execDeferExpiry st seq s = _
    simp only [execDeferExpiry, hfind, hstage, hdue, hpass, hrecord, hheld, decide_true, beq_self_eq_true, Bool.and_self, Bool.not_true,
      Bool.false_eq_true, if_true, if_false]
  · have hfree' : ((s.recordHalf st e).isSome && s.intakeHeld) = false := by
      obtain h | h := hfree <;> simp [h]
    show execDeferExpiry st seq s = _
    simp only [execDeferExpiry, hfind, hpass, hfree', Bool.not_true, Bool.false_eq_true, if_false, ite_self]
  · show execDeferredMessagePass st seq s = _
    simp only [execDeferredMessagePass, hfind, hshort, Bool.and_false, Bool.false_eq_true, if_false]
  · show execDeferExpiry st seq s = _
    simp only [execDeferExpiry, hfind, hstage, hdue, hshort, decide_true, beq_self_eq_true, Bool.and_self, Bool.not_false, if_true]
  · show execDeferExpiry st seq s = _
    simp only [execDeferExpiry, hfind, Nat.not_le.2 hearly, decide_false, Bool.and_false, Bool.false_eq_true, if_false]
  · intro u hagain
    have hrecovery' : (s.powerState == 4) = false := beq_eq_false_iff_ne.2 hrecovery
    have hgoes : ¬ (!s.pwr.strapped || s.pwr.held || s.powerState == 4 || s.stn.inService) = true := by
      simp only [hstrapped, hheld, hrecovery', hservice, Bool.not_true, Bool.or_self, Bool.false_eq_true, not_false_eq_true]
    refine next_eq ((if_neg hgoes).trans ?_)
    extract_lets hellos stn opened restored pwr cleared activated
    have hopened : restored = u := congrArg State.restoreModels rfl
    have hnone : restored.pwr.again = none := by
      rw [hopened]
      exact hagain
    have hsame : activated = restored := by simp only [activated, hnone]
    rw [hsame]

/-- A pass that appends one element for each keeps, in order, what it keeps of each. -/
theorem foldl_append_map {α β γ : Type} (g : α → γ) {f : List α × β → α → List α × β}
    (hf : ∀ acc r, ∃ r', (f acc r).1 = acc.1 ++ [r'] ∧ g r' = g r) (l : List α) (acc : List α × β) :
    (l.foldl f acc).1.map g = acc.1.map g ++ l.map g := by
  induction l generalizing acc with
  | nil => simp
  | cons r l ih =>
    obtain ⟨r', happend, hsame⟩ := hf acc r
    rw [List.foldl_cons, ih, happend, List.map_append, List.map_cons, List.map_nil, hsame, List.append_assoc, List.map_cons]
    rfl

/-- A live record as a compaction keeps it: one of the oldest tile is laid again behind the head (R410). -/
def moveRec (old : Nat) (acc : List Rec × Nat × Nat × Nat) (r : Rec) : List Rec × Nat × Nat × Nat :=
  if r.tile == old then
    let n := r.body.bytes
    let p := layParts (recParts n) n 0 acc.2
    (acc.1 ++ [{ r with copied := true, tile := p.1 }], p)
  else (acc.1 ++ [r], acc.2)

theorem moveRec_appends (old : Nat) (acc : List Rec × Nat × Nat × Nat) (r : Rec) :
    ∃ r', (moveRec old acc r).1 = acc.1 ++ [r'] ∧ (r'.pos, r'.body) = (r.pos, r.body) := by
  unfold moveRec
  split
  · exact ⟨_, rfl, rfl⟩
  · exact ⟨_, rfl, rfl⟩

/-- Settles O27: batches, acceptances, durable records and the compaction. -/
theorem durability : Obligations.Durability := by
  unfold Obligations.Durability
  intro s half pos flushed r0 rest
  refine ⟨fun hhalf hopen => ?_, fun hdurable hwaits => ?_, fun hnot => ?_, rfl, ?_⟩
  · intro b due u
    have hbatch : (b.recs.filter (fun r => r.stage == 0)).isEmpty = false := by
      obtain ⟨r, hr, hstage⟩ := List.any_eq_true.1 hopen
      exact List.isEmpty_eq_false_iff.2 (List.ne_nil_of_mem (List.mem_filter.2 ⟨hr, hstage⟩))
    have hfilled : ((b.recs.filter (fun r => r.stage == 0)).any (fun r => decide (r.tile < b.headTile)) || decide (b.lastClose + 4 ≤ s.tick)) = true ↔
        due := by
      simp only [Bool.or_eq_true, List.any_eq_true, List.mem_filter, decide_eq_true_eq, beq_iff_eq, and_assoc]
      rfl
    have hgoes : (decide (half < 2) && !(b.recs.filter (fun r => r.stage == 0)).isEmpty && ((b.recs.filter (fun r => r.stage == 0)).any
        (fun r => decide (r.tile < b.headTile)) || decide (b.lastClose + 4 ≤ s.tick))) = true ↔ due := by
      rw [hbatch, decide_eq_true hhalf, ← hfilled]
      rfl
    exact ⟨fun hdue => next_eq (if_pos (hgoes.2 hdue)), fun hdue => next_eq (if_neg fun h => hdue (hgoes.1 h))⟩
  · show execAcceptDurable half pos s = _
    simp only [execAcceptDurable, hdurable, hwaits, Bool.and_self, if_true]
  · show execAcceptDurable half pos s = _
    simp only [execAcceptDurable, hnot, Bool.false_and, Bool.false_eq_true, if_false]
  · intro b hrecs old hhalf hhead hstored
    let live := b.recs.filter (fun r => !s.deadRec b.recs r)
    let moved := live.foldl (moveRec old) ([], b.headTile, b.fill, b.used)
    let low := ((moved.1.map (fun r => r.pos)).head?).getD (bookPos half b.next)
    have hkept : moved.1.map (fun r => (r.pos, r.body)) = live.map (fun r => (r.pos, r.body)) :=
      foldl_append_map (fun r : Rec => (r.pos, r.body)) (moveRec_appends old) live ([], b.headTile, b.fill, b.used)
    have hpos : moved.1.map (fun r => r.pos) = live.map (fun r => r.pos) := by
      simpa only [List.map_map, Function.comp_def] using congrArg (List.map Prod.fst) hkept
    refine ⟨{ b with recs := moved.1, headTile := moved.2.1, fill := moved.2.2.1, used := moved.2.2.2 - 1, trimmed := low }, ?_, hkept, ?_,
      rfl, rfl, rfl⟩
    · have hrecs' : (s.book half).recs = r0 :: rest := hrecs
      show execCompaction half s = _
      unfold execCompaction
      refine next_eq ?_
      dsimp only
      split
      · next hnil => exact absurd (hrecs'.symm.trans hnil) (List.cons_ne_nil _ _)
      · next r1 rest1 hcons =>
        obtain ⟨rfl, rfl⟩ := List.cons.inj (hcons.symm.trans hrecs')
        rw [if_pos ⟨hhalf, hhead, hstored⟩]
        rfl
    · show low = _
      rw [← hpos]

/-- Settles O28: the lapse, the probe and the copy of a witness. -/
theorem witnessStates : Obligations.WitnessStates := by
  unfold Obligations.WitnessStates
  intro s absent answered w
  refine ⟨fun hcurrent hlate => ?_, fun hlapsed => ⟨fun hdue => ?_, fun hearly => ?_⟩, fun hcopying => ⟨fun hleased => ?_, fun hnot => ?_⟩, rfl⟩
  · have hgoes : (s.obj Ob.witness_state 0 == 2 && (absent || w.sentAt.any (fun t => decide (t + s.obj Ob.witness_timeout 0 < s.tick)))) = true := by
      rw [hcurrent]
      obtain habsent | ⟨t, hsent, hpast⟩ := hlate
      · rw [habsent]
        rfl
      · rw [hsent, Option.any_some, decide_eq_true hpast, Bool.or_true]
        rfl
    exact next_eq (if_pos hgoes)
  · have hgoes : (s.obj Ob.witness_state 0 == 3 && decide (w.lastProbe + 25000 ≤ s.tick)) = true := by
      rw [hlapsed, decide_eq_true hdue]
      rfl
    exact next_eq (if_pos hgoes)
  · have hgoes : ¬ (s.obj Ob.witness_state 0 == 3 && decide (w.lastProbe + 25000 ≤ s.tick)) = true := by
      rw [decide_eq_false (Nat.not_le.2 hearly), Bool.and_false]
      exact Bool.false_ne_true
    exact next_eq (if_neg hgoes)
  · have hgoes : ((s.obj Ob.witness_state 0 == 1 || s.obj Ob.witness_state 0 == 4) && s.witnessLeased) = true := by
      obtain h | h := hcopying <;> rw [h, hleased] <;> rfl
    exact next_eq (if_pos hgoes)
  · have hgoes : ¬ ((s.obj Ob.witness_state 0 == 1 || s.obj Ob.witness_state 0 == 4) && s.witnessLeased) = true := by
      rw [hnot, Bool.and_false]
      exact Bool.false_ne_true
    exact next_eq (if_neg hgoes)

end Sys2Proof.Machine
end

section
/-! Channels, stacks and the error recorder (R114, R415-R435). -/

namespace Sys2Proof.Machine

/-- What a session that had tiles in a failed stack does, with the states in which it comes back from T2 written out (R423). -/
theorem stackFail_step (y : State) (i : Nat) :
    (match y.sess i with
      | none => y
      | some x =>
        if y.kvTier != 1 || !x.pt.entries.any (fun p => tierOf p.2.primary == 2) then y
        else match x.state with
          | .opened => (y.setSess { x.toReviving y.tick with priorState := .opened }).startRevive i
          | .waiting => (y.setSess { x.toReviving y.tick with priorState := .waiting }).startRevive i
          | .queued => y.startRevive i
          | .active => y.startRevive i
          | .reviving => y.startRevive i
          | _ => y) =
    (match y.sess i with
      | none => y
      | some z => if y.kvTier ≠ 1 ∨ z.pt.entries.any (fun p => tierOf p.2.primary == 2) = false then y
        else if z.state = .opened ∨ z.state = .waiting then (y.setSess { z.toReviving y.tick with priorState := z.state }).startRevive i
        else if z.state = .queued ∨ z.state = .active ∨ z.state = .reviving then y.startRevive i else y) := by
  cases y.sess i with
  | none => rfl
  | some z =>
    simp only [Bool.or_eq_true, bne_iff_ne, Bool.not_eq_true']
    congr 1
    cases z.state <;> rfl

/-- Settles O29: what fails a channel, the commands of one, and a stack that fails. -/
theorem failedParts : Obligations.FailedParts := by
  unfold Obligations.FailedParts
  intro s w c row k hc x
  have hin : ¬ 24 ≤ c := Nat.not_le.2 hc
  refine ⟨⟨fun hthird => ?_, fun hfew => ?_⟩, ?_, ?_, fun hok hstate => ?_, fun hok hstate => ?_, fun hok hstate hreplaced hothers hidle => ?_,
    fun hstate => ?_, fun hk hlive => ?_⟩
  · exact next_eq ((if_neg hin).trans (if_pos (Nat.succ_le_succ hthird)))
  · exact next_eq ((if_neg hin).trans (if_neg (Nat.not_le.2 (Nat.succ_lt_succ hfew))))
  · exact next_eq (if_neg hin)
  · exact next_eq (if_neg hin)
  · refine next_eq (commandNow_ok hok ?_)
    have hstate' : (s.t2State c == 1) = false := beq_eq_false_iff_ne.2 hstate
    simp only [if_neg hin, hstate', Bool.false_eq_true, if_false]
  · refine next_eq (commandNow_ok hok ?_)
    simp only [if_neg hin, hstate, bne_self_eq_false, Bool.false_eq_true, if_false]
    rfl
  · refine next_eq (command_ok hok ?_)
    have halone : (List.range 12).any (fun j => c / 12 * 12 + j != c && s.t2State (c / 12 * 12 + j) != 0) = false := by
      simp only [List.any_eq_false, List.mem_range, Bool.and_eq_true, bne_iff_ne, not_and, Classical.not_not]
      exact hothers
    have hidle' : (s.obj Ob.t2_rebuild_pos 0 != 2 ^ 64 - 1) = false := by rw [hidle, bne_self_eq_false]
    simp only [if_neg hin, hstate, show (s.channel c).replaced = true from hreplaced, halone, hidle', bne_self_eq_false, Bool.not_true, Bool.or_self,
      Bool.false_eq_true, if_false]
    rw [hreplaced]
  · show execChannelRebuildDone c s = _
    simp only [execChannelRebuildDone, hstate, beq_self_eq_true, if_true]
  · have hgoes : ¬ (8 ≤ k ∨ s.objAt Ob.t1_stack_state 0 k = 1) := not_or.2 ⟨Nat.not_le.2 hk, hlive⟩
    refine next_eq ((if_neg hgoes).trans ?_)
    exact congrArg (fun f => List.foldl f _ _) (funext fun y => funext fun i => stackFail_step y i)

/-- A report that finds 4,096 entries in the ring is dropped and counted (R434). -/
theorem recordErr_full {s : State} {e : ErrEntry} (h : 4096 ≤ s.fb.err.ring.length) :
    s.recordErr e = s.setObjAt Ob.err_dropped 0 e.cls (s.objAt Ob.err_dropped 0 e.cls + 1) := if_pos h

/-- A report goes into the ring, and nothing leaves it while 3,072 entries hold or the spill log is full. -/
theorem recordErr_kept {s : State} {e : ErrEntry} (hring : s.fb.err.ring.length < 4096)
    (hstay : s.fb.err.ring.length < 3072 ∨ s.obj Ob.err_spill_tiles 0 * 64 < s.fb.err.spill.length + 64) :
    s.recordErr e = s.setErr { s.fb.err with ring := s.fb.err.ring ++ [{ e with seq := s.fb.err.seq }], seq := (s.fb.err.seq + 1) % 2 ^ 32 } := by
  refine (if_neg (Nat.not_le.2 hring)).trans (if_neg ?_)
  rw [List.length_append, List.length_singleton]
  rintro ⟨hmany, hspill⟩
  exact hstay.elim (fun h => absurd hmany (Nat.not_lt.2 h)) (fun h => absurd hspill (Nat.not_le.2 h))

/-- Beyond 3,072 entries the oldest 64 go to the spill log while it has room (R433). -/
theorem recordErr_spilled {s : State} {e : ErrEntry} (hring : s.fb.err.ring.length < 4096) (hmany : 3072 ≤ s.fb.err.ring.length)
    (hspill : s.fb.err.spill.length + 64 ≤ s.obj Ob.err_spill_tiles 0 * 64) :
    let ring := s.fb.err.ring ++ [{ e with seq := s.fb.err.seq }]
    s.recordErr e = s.setErr { s.fb.err with ring := ring.drop 64, seq := (s.fb.err.seq + 1) % 2 ^ 32, spill := s.fb.err.spill ++ ring.take 64 } := by
  refine (if_neg (Nat.not_le.2 hring)).trans (if_pos ⟨?_, hspill⟩)
  rw [List.length_append, List.length_singleton]
  exact Nat.lt_succ_of_le hmany

/-- Settles O30: the entry that is taken by how full the ring is, a slot by its window, and the clearing. -/
theorem errorRecorder : Obligations.ErrorRecorder := by
  unfold Obligations.ErrorRecorder
  intro s w src half e c r q u v ring
  have hu : u.fb.err.ring = r.ring ∧ u.fb.err.spill = r.spill ∧ u.fb.err.seq = r.seq ∧
      u.obj Ob.err_spill_tiles 0 = s.obj Ob.err_spill_tiles 0 := by
    by_cases hhalf : half = 0
    · simp only [u, if_pos hhalf]
      exact ⟨rfl, rfl, rfl, rfl⟩
    · simp only [u, if_neg hhalf]
      exact ⟨rfl, rfl, rfl, rfl⟩
  obtain ⟨huring, huspill, huseq, huroom⟩ := hu
  have hrow : nextReport s.tick q = some e → exec (.errorRecorderTake half) s = .next (u.recordErr e) := by
    intro htake
    show execErrorRecorderTake half s = _
    by_cases hhalf : half = 0
    · subst hhalf
      have htake' : nextReport s.tick s.fb.err.queue0 = some e := htake
      simp only [execErrorRecorderTake, beq_self_eq_true, if_true, htake']
      rfl
    · have hhalf' : (half == 0) = false := beq_eq_false_iff_ne.2 hhalf
      have htake' : nextReport s.tick s.fb.err.queue1 = some e := (congrArg _ (if_neg hhalf).symm).trans htake
      simp only [execErrorRecorderTake, hhalf', Bool.false_eq_true, if_false, htake', u, q, if_neg hhalf]
      rfl
  refine ⟨fun htake => ⟨fun hfull => (hrow htake).trans (next_eq (recordErr_full (by rw [huring]; exact hfull))), fun hroom => ?_,
    fun hmany hfull hspill => ?_⟩, fun hslot => ⟨fun hdue => ?_, fun hearly => ?_⟩, fun hok => ?_⟩
  · refine (hrow htake).trans (next_eq ((recordErr_kept (by rw [huring]; omega) (by rw [huring, huspill, huroom]; omega)).trans ?_))
    rw [huring, huseq]
  · refine (hrow htake).trans (next_eq ((recordErr_spilled (by rw [huring]; omega) (by rw [huring]; omega)
      (by rw [huspill, huroom]; exact hspill)).trans ?_))
    rw [huring, huseq, huspill]
  · show execCoalesceFlush src s = _
    simp only [execCoalesceFlush, hslot, if_pos hdue]
  · show execCoalesceFlush src s = _
    simp only [execCoalesceFlush, hslot, if_neg (Nat.not_le.2 hearly)]
  · exact next_eq (command_ok hok rfl)

end Sys2Proof.Machine
end

section
/-! The move engines: their descriptors, tiles, completions and timeouts (R12-R21, R110-R119). -/

namespace Sys2Proof.Machine

/-- No tile is carried while the queue is granted no engine. -/
theorem landAll_of_not_granted {s : State} {half q n f : Nat} {reads : List TileRead} (h : ¬ s.granted half q = true) :
    s.landAll half q n f reads = s := by
  cases f with
  | zero => rfl
  | succ f => exact if_neg h

/-- What runs when a descriptor is posted: nothing out of range, a wait for room, or its tiles while its queue is granted an engine. -/
theorem moveRow_cases (s : State) {half queue op : Nat} {d : MoveDesc} {reads : List TileRead} (hhalf : half < 2) (hqueue : queue < 64) :
    let l := s.queue half queue
    let d' := { d with op := op }
    (s.descOk half d' = false → s.moveRow half queue op d reads = s) ∧
    (s.descOk half d' = true →
      (256 ≤ l.length → s.moveRow half queue op d reads =
        (s.setEng half { s.eng half with waiting := (s.eng half).waiting ++ [(queue, d', none)] }).bump Ob.cnt_queue_full half) ∧
      (l.length < 256 →
        let u := s.enqueue half queue d' none
        let n := (u.queue half queue).length - 1
        let go : Prop := startable (u.queue half queue) true = some n ∧ u.granted half queue = true ∧ u.localEnds d' = true
        (¬ go → s.moveRow half queue op d reads = u) ∧
        (go → s.moveRow half queue op d reads = u.landAll half queue n (((u.queue half queue)[n]?).elim 0 (fun x => x.total)) reads))) := by
  have hok : queueOk half queue = true := by
    rw [queueOk, decide_eq_true hhalf, decide_eq_true hqueue]
    rfl
  intro l d'
  refine ⟨fun hbad => ?_, fun hgood => ⟨fun hlen => ?_, fun hlen => ?_⟩⟩
  · have hbad' : s.descOk half { d with op := op } = false := hbad
    simp only [State.moveRow, State.runMove, State.runJob, hok, hbad', Bool.and_false, Bool.false_eq_true, if_false]
  · have hgood' : s.descOk half { d with op := op } = true := hgood
    have hpost : s.postMove half queue d' none = ((s.setEng half { s.eng half with waiting := (s.eng half).waiting ++ [(queue, d', none)] }).bump
        Ob.cnt_queue_full half, false) := if_pos hlen
    simp only [State.moveRow, State.runMove, State.runJob, hok, hgood', Bool.and_self, if_true]
    rw [show s.postMove half queue { d with op := op } none = _ from hpost]
    rfl
  · intro u n go
    have hgood' : s.descOk half { d with op := op } = true := hgood
    have hpost : s.postMove half queue d' none = (u, true) := if_neg (Nat.not_le.2 hlen)
    have hrow : s.moveRow half queue op d reads =
        if (startable (u.queue half queue) true == some n && u.localEnds d') = true then
          u.landAll half queue n (((u.queue half queue)[n]?).elim 0 (fun x => x.total)) reads
        else u := by
      simp only [State.moveRow, State.runMove, State.runJob, hok, hgood', Bool.and_self, if_true]
      rw [show s.postMove half queue { d with op := op } none = _ from hpost]
      rfl
    rw [hrow]
    refine ⟨fun hno => ?_, fun ⟨hstart, _, hends⟩ => if_pos ?_⟩
    · by_cases hgrant : u.granted half queue = true
      · refine if_neg fun h => hno ?_
        obtain ⟨hstart, hends⟩ := Bool.and_eq_true_iff.1 h
        exact ⟨beq_iff_eq.1 hstart, hgrant, hends⟩
      · rw [landAll_of_not_granted hgrant, ite_self]
    · rw [hstart, hends, beq_self_eq_true]
      rfl

/-- Settles O31: the six descriptors are one row with six operations. -/
theorem moveRows : Obligations.MoveRows := by
  unfold Obligations.MoveRows
  intro s half queue d reads hhalf hqueue i op hi l d'
  have hrow : exec i s = .next (s.moveRow half queue op d reads) := by
    simp only [List.mem_cons, Prod.mk.injEq, List.not_mem_nil, or_false] at hi
    obtain ⟨rfl, rfl⟩ | ⟨rfl, rfl⟩ | ⟨rfl, rfl⟩ | ⟨rfl, rfl⟩ | ⟨rfl, rfl⟩ | ⟨rfl, rfl⟩ := hi <;> rfl
  obtain ⟨hrefused, hok⟩ := moveRow_cases s (op := op) (d := d) (reads := reads) hhalf hqueue
  refine ⟨fun hbad => hrow.trans (next_eq (hrefused hbad)), fun hgood => ?_⟩
  obtain ⟨hfull, hroom⟩ := hok hgood
  refine ⟨fun hlen => hrow.trans (next_eq (hfull hlen)), fun hlen => ?_⟩
  obtain ⟨hstays, hgoes⟩ := hroom hlen
  exact ⟨fun hno => hrow.trans (next_eq (hstays hno)), fun hgo => hrow.trans (next_eq (hgoes hgo))⟩

/-- Settles O32: each row of the engines. -/
theorem moveEngines : Obligations.MoveEngines := by
  unfold Obligations.MoveEngines
  intro s half idle queue tag n row d c r x rest payload h img m b e reads hhalf hqueue
  have hok : queueOk half queue = true := by
    rw [queueOk, decide_eq_true hhalf, decide_eq_true hqueue]
    rfl
  refine ⟨fun htop => ?_, fun hfind hget => ?_, fun hhead => ⟨fun hended => ?_, fun hopen => ?_⟩, fun hfind hget => ?_, fun hstore hrun => ?_,
    fun hhead hop hrun hstarted hleft hsrc hdst hlate => ?_, fun hd => ?_, fun hrun himage hnew hawake => ?_⟩
  · show execMoveEngineGrant half idle s = _
    simp only [execMoveEngineGrant, htop]
  · intro src t there
    have hwaits : (r != .lost && tierOf src == 4 && (mget s.tier.tiles src).isNone) = true ↔ ¬ there := by
      simp only [there, Bool.and_eq_true, bne_iff_ne, beq_iff_eq, Option.isNone_iff_eq_none, not_or, Classical.not_not, and_assoc, Bool.not_eq_true,
        Option.isSome_eq_false_iff]
    have hrow : exec (.tileLanded half queue r) s = .next (if (r != .lost && tierOf src == 4 && (mget s.tier.tiles src).isNone) = true then s
        else if x.desc.op = 5 ∨ x.desc.op = 6 then
          t.storeT4 ((t.bySid x.desc.owner).elim noTile (fun y => (y.pt.at (x.keys.headD 0)).primary))
        else if x.desc.op = 4 then t else t.storeT4 (addrPlus x.desc.dst x.landed)) := by
      show execTileLanded half queue r s = _
      simp only [execTileLanded, hok, if_true, hfind, hget, Bool.or_eq_true, beq_iff_eq]
      rfl
    exact ⟨fun hno => hrow.trans (next_eq (if_pos (hwaits.2 hno))), fun hthere => hrow.trans (next_eq (if_neg fun h => hwaits.1 h hthere))⟩
  · show execMoveCompletion half queue s = _
    simp only [execMoveCompletion, hhead, hok, hended, beq_self_eq_true, Bool.and_self, if_true]
  · have hopen' : (x.total == x.landed) = false := beq_eq_false_iff_ne.2 hopen
    show execMoveCompletion half queue s = _
    simp only [execMoveCompletion, hhead, hopen', Bool.and_false, Bool.false_eq_true, if_false]
  · show execDescriptorWithdraw half queue tag s = _
    simp only [execDescriptorWithdraw, hfind, hget, beq_iff_eq]
  · show execT3T4Timeout half queue s = _
    simp only [execT3T4Timeout, hstore, hrun, beq_self_eq_true, Bool.and_self, if_true]
  · intro left u
    have hblock : (x.desc.op == 5 || x.desc.op == 6) = false := by rw [hop]; rfl
    have hnot : (queue / 16 == 3 && s.ck.run.isSome) = false := by rw [hrun]; exact Bool.and_false _
    have hleft' : ∀ k ∈ left, tierOf (addrPlus x.desc.src k) = 3 := by
      intro k hk
      obtain ⟨j, hj, rfl⟩ := List.mem_map.1 hk
      rw [List.mem_range] at hj
      exact hsrc _ (Nat.le_add_left _ _) (by omega)
    have hthird : (left.map (fun k => tierOf (addrPlus x.desc.src k))).contains 3 = true := by
      rw [List.contains_iff_mem, List.mem_map]
      have hfirst : x.landed ∈ left := List.mem_map.2 ⟨0, List.mem_range.2 (by omega), Nat.zero_add _⟩
      exact ⟨x.landed, hfirst, hleft' _ hfirst⟩
    have hgoes : ((3 : Nat) == 0 || !queueOk half queue || x.started == 0 || decide (s.tick ≤ x.startTick + s.obj Ob.t3_timeout 0)) = false := by
      rw [hok, beq_eq_false_iff_ne.2 hstarted, decide_eq_false (Nat.not_le.2 hlate)]
      rfl
    have hlost : ∀ y : State, left.foldl (fun s k => if (tierOf (addrPlus x.desc.src k) == 3) = true then
        s.loseTile (addrPlus x.desc.src k) causeT3Lost else s) y = left.foldl (fun u k => u.loseTile (addrPlus x.desc.src k) causeT3Lost) y :=
      fun y => List.foldl_rel (r := (· = ·)) rfl fun k hk v _ hv => hv ▸ if_pos (beq_iff_eq.2 (hleft' k hk))
    show execT3T4Timeout half queue s = _
    simp only [left] at hthird hlost
    simp only [execT3T4Timeout, hnot, hhead, hblock, hthird, Bool.true_or, hgoes, hlost, beq_self_eq_true, Bool.false_eq_true, if_false, if_true]
    rfl
  · exact ⟨next_eq (if_pos ⟨hhalf, hd⟩), next_eq (if_pos ⟨hhalf, hd⟩)⟩
  · intro u
    have hgoes : (s.trv.issued.contains n || s.allAsleep) = false := by simp [hnew, hawake]
    refine ⟨fun hmove hdue hqueue => ?_, fun hmove hembed hdue hqueue => ?_⟩
    · show execMoveProgramIssue n reads s = _
      simp only [execMoveProgramIssue, hrun, himage, hgoes, hmove, hdue, hqueue, decide_true, Bool.and_self, Bool.false_eq_true, if_true, if_false]
      rfl
    · show execMoveProgramIssue n reads s = _
      simp only [execMoveProgramIssue, hrun, himage, hgoes, hmove, hembed, hdue, hqueue, decide_true, Bool.and_self, Bool.false_eq_true, if_true,
        if_false]
      rfl

end Sys2Proof.Machine
end

section
/-! Timers of sessions, snapshots and text work (R41, R59-R65, R88, R121-R131, R257-R259, R353-R360). -/

namespace Sys2Proof.Machine

/-- A half above its T1 mark, with room in T2, parks nothing. -/
theorem pressure_none {s : State} {half : Nat} (hfree : ¬ s.t1Free half * 100 < 128 * Config.t1SlotsPerChannel * s.obj Ob.t1_low_water 0)
    (hroom : s.t2Below half (s.obj Ob.t2_low_water 0) = false) : (s.pressureT1 half).pressureT2 half = s := by
  have hsame : s.pressureT1 half = s := if_neg hfree
  rw [hsame]
  simp only [State.pressureT2, hroom, Bool.false_and, Bool.false_eq_true, if_false]

/-- A session whose own or shared blocks are not all in place stays (R131). -/
theorem reviveReady_stays {s : State} {x : Session} (hsess : s.sess x.index = some x)
    (hnot : x.state ≠ .reviving ∨ x.allIn s.kvTier = false ∨ s.prefixReady x = false) : s.reviveReady x.index = s := by
  have hgoes : (x.state == .reviving && x.allIn s.kvTier && s.prefixReady x) = false := by
    obtain h | h | h := hnot <;> simp [h]
  simp only [State.reviveReady, hsess, hgoes, Bool.false_eq_true, if_false]

/-- A session whose blocks are all in place, and that was not rebuilt, revives (R131). -/
theorem reviveReady_revives {s : State} {x : Session} (hsess : s.sess x.index = some x) (hstate : x.state = .reviving)
    (hin : x.allIn s.kvTier = true) (hprefix : s.prefixReady x = true) (hmethod : x.rebuildMethod ≠ 2) :
    let u := s.srec' x.index (.revive x.rebuildMethod x.reviveTiers x.pt.entries.length x.recomputed
      ((s.activeHdr.map (fun h => h.groupIdentity)).getD 0))
    let v := u.modSess x.index (fun y => { y with rebuildMethod := 0, recomputed := 0, reviveTiers := 0, lastActive := u.tick })
    s.reviveReady x.index = if x.hasWork = true ∧ x.maxPosDue = false then v.toQueued x.index
      else v.modSess x.index (fun y => { y with state := y.priorState, stateSince := v.tick }) := by
  have hgoes : (x.state == .reviving && x.allIn s.kvTier && s.prefixReady x) = true := by simp [hstate, hin, hprefix]
  have hmethod' : (x.rebuildMethod == 2) = false := beq_eq_false_iff_ne.2 hmethod
  simp only [State.reviveReady, hsess, hgoes, hmethod', Bool.false_eq_true, if_false, if_true, Bool.and_eq_true, Bool.not_eq_true']

/-- Settles O33: each timer with the sessions, gates and halves that it is due for. -/
theorem sessionTimers : Obligations.SessionTimers := by
  unfold Obligations.SessionTimers
  intro s sid half k x b
  refine ⟨fun hsid hpark => ⟨fun hstate htiles => ⟨fun hdue => ?_, fun hearly => ?_⟩, fun hstate htiles hdue => ?_, fun hstate hdwell hdue => ?_⟩,
    fun hsid hopen hdeadline => ⟨fun hpast hservice => ?_, fun hearly => ?_⟩, fun hsid hbinding hstate hflags hsince hmet hlate => ?_,
    fun hsid => ⟨?_, fun hsess => ⟨reviveReady_stays hsess, reviveReady_revives hsess⟩⟩, fun hhalf => ?_⟩
  · show execParkTimer sid s = _
    simp only [execParkTimer, hsid, hpark, hstate, hdue, htiles, decide_true, Bool.and_self, Bool.not_true, Bool.false_eq_true, if_false, if_true]
  · show execParkTimer sid s = _
    simp only [execParkTimer, hsid, hpark, hstate, Nat.not_le.2 hearly, decide_false, Bool.false_and, Bool.not_true, Bool.false_eq_true, if_false]
  · show execParkTimer sid s = _
    simp only [execParkTimer, hsid, hpark, hstate, hdue, htiles, decide_true, Bool.and_self, Bool.not_true, Bool.false_eq_true, if_false, if_true]
  · have hdwell' : (s.obj Ob.pk_t2_dwell x.parkClass != 0) = true := bne_iff_ne.2 hdwell
    show execParkTimer sid s = _
    simp only [execParkTimer, hsid, hpark, hstate, hdue, hdwell', decide_true, Bool.and_self, Bool.not_true, Bool.false_eq_true, if_false, if_true]
  · have hgoes : (x.waitOpen && x.waitDeadline != 0 && decide (x.waitDeadline < s.tick) && s.stn.inService) = true := by
      simp [hopen, hdeadline, hpast, hservice]
    show execWaitExpired sid s = _
    simp only [execWaitExpired, hsid, hgoes, if_true]
  · have hstays : ¬ (x.waitOpen && x.waitDeadline != 0 && decide (x.waitDeadline < s.tick) && s.stn.inService) = true := by
      simp [Nat.not_lt.2 hearly]
    show execWaitExpired sid s = _
    simp only [execWaitExpired, hsid, if_neg hstays]
  · intro n u
    have hgoes : (x.state == .queued && b.flags % 4 == 1 && b.since != some 0 && !s.gateMet x b
        && (decide (x.lastActive + s.obj Ob.stn_sync_gate_ticks x.station < s.tick) || (s.syncName x.station b.name).isNone)) = true := by
      simp only [hstate, hflags, hmet, bne_iff_ne, Bool.and_eq_true, Bool.or_eq_true, beq_self_eq_true, Bool.not_false, decide_eq_true_eq,
        Option.isNone_iff_eq_none, true_and, and_true]
      exact ⟨hsince, hlate⟩
    show execGateExpiry sid k s = _
    simp only [execGateExpiry, hsid, hbinding, hgoes, if_true, beq_iff_eq]
    rfl
  · show execReviveReady sid s = _
    simp only [execReviveReady, hsid]
  · intro low idle
    refine ⟨fun hlow => ?_, fun hlow hroom => ?_, fun hbelow hopen => ?_, fun hmany => ?_, fun hfew => ?_⟩
    · have hparks : s.pressureT1 half = ((s.parkOrder (s.sessions.filter idle)).foldl (fun (acc : State × Nat) x =>
          if acc.2 * 100 < 128 * Config.t1SlotsPerChannel * s.obj Ob.t1_high_water 0 then
            ((acc.1.startPark x.index 2).bump Ob.cnt_pressure_park half, acc.2 + x.tilesT1)
          else acc) (s, s.t1Free half)).1 := if_pos hlow
      exact next_eq ((if_pos hhalf).trans (by rw [hparks]))
    · exact next_eq ((if_pos hhalf).trans (pressure_none hlow hroom))
    · have hgoes : (decide (half < 2) && s.backgroundOpen half && s.t2Below half (s.obj Ob.t2_low_water 0)) = true := by
        rw [decide_eq_true hhalf, hopen, hbelow]
        rfl
      exact next_eq (if_pos hgoes)
    · exact next_eq (if_pos ⟨hhalf, hmany⟩)
    · exact next_eq (if_neg fun ⟨_, hmany⟩ => absurd hmany (Nat.not_lt.2 hfew))

/-! A copy-first write counts each session of the tile on the state before it in the statement, and on the state that the sessions before it left in
the model. The two agree while the session table lists each session once, which the statement does not ask for. -/

/-- A session of index 0. -/
def onceOpened : Session := newSession 0 0 0 0 0 ⟨0, 0, 0, 0, 0, 0, 0, [], []⟩

/-- A state whose session table lists one session in two places, while the tile of its descriptor waits for its snapshot. -/
def twiceListed : State :=
  let s := State.reset.setEng 0 { State.reset.eng 0 with sysPending := [(0, { freeTile with kind := 5 })] }
  { s with ses := { s.ses with tab := [(0, onceOpened), (1, onceOpened)] } }

theorem twiceListed_sysHalf : twiceListed.sysHalf 0 = some 0 := by decide +kernel

/-- Both places of the table are among the sessions that a write of the tile changes. -/
theorem twiceListed_changed : twiceListed.descChanged 0 0 [] = [onceOpened, onceOpened] := by decide +kernel

theorem State.stage_ses (s : State) (half a : Nat) (t : Tile) : (s.stage half a t).ses = s.ses := by
  unfold State.stage
  extract_lets e counted slot e' kept
  have hcounted : counted.ses = s.ses := by
    simp only [counted]
    split <;> rfl
  have hkept : kept.ses = s.ses := (State.setEng_ses _ _ _).trans hcounted
  split
  · exact hkept
  · exact hkept

theorem State.snapSys_ses (s : State) (half a : Nat) : (s.snapSys half a).ses = s.ses := by
  unfold State.snapSys
  dsimp only
  split
  · rfl
  · exact (State.stage_ses _ _ _ _).trans (State.setEng_ses _ _ _)

theorem sess_of_low {s : State} {i : Nat} (h : i < farBase) : s.sess i = mget s.ses.tab i := if_pos h

/-- A copy that is counted stands in the place of the session's index. -/
theorem State.countCopy_tab (s : State) (x : Session) :
    (s.countCopy (some x)).ses.tab = mput s.ses.tab x.index { x with cntCopyFirst := x.cntCopyFirst + 1 } := rfl

/-- The session as its table gives it. -/
theorem onceOpened_listed {t : State} (ht : t.ses = twiceListed.ses) : t.sess onceOpened.index = some onceOpened := by
  rw [sess_of_low (show onceOpened.index < farBase by decide), ht]
  rfl

/-- Counted on what the first count left, the session has two copies. -/
theorem counted_in_turn {t : State} (ht : t.ses = twiceListed.ses) :
    (mget ([onceOpened, onceOpened].foldl (fun (u : State) x => u.countCopy (u.sess x.index)) t).ses.tab 0).map Session.cntCopyFirst = some 2 := by
  have hlow : onceOpened.index < farBase := by decide
  rw [List.foldl_cons, List.foldl_cons, List.foldl_nil, onceOpened_listed ht, sess_of_low hlow, State.countCopy_tab, mget_mput_self,
    State.countCopy_tab]
  exact congrArg _ (mget_mput_self _ _ _)

/-- Counted on the state before the write, the session has one copy. -/
theorem counted_before (t : State) :
    (mget ([onceOpened, onceOpened].foldl (fun (u : State) x => u.countCopy (twiceListed.sess x.index)) t).ses.tab 0).map Session.cntCopyFirst
      = some 1 := by
  rw [List.foldl_cons, List.foldl_cons, List.foldl_nil, onceOpened_listed rfl, State.countCopy_tab]
  exact congrArg _ (mget_mput_self _ _ _)

/-- The counts of a copy-first write are those of its sessions. -/
theorem copyFirst_tab {s : State} {a k : Nat} {payload : Octets} (h : s.sysHalf a = some k) {t : State}
    (ht : exec (.copyFirst a payload) s = .next t) :
    t.ses.tab = ((s.descChanged k a payload).foldl (fun (u : State) x => u.countCopy (u.sess x.index)) (s.snapSys k a)).ses.tab := by
  have hrow : execCopyFirst a payload s = .next t := ht
  simp only [execCopyFirst, h] at hrow
  rw [← Host.Outcome.next.inj hrow]
  rfl

/-- Refutes O34: where the table lists a session in two places, a copy-first write of its descriptor counts it twice, and the statement has it counted
once. -/
theorem not_snapshotsAndText : ¬ Obligations.SnapshotsAndText := by
  unfold Obligations.SnapshotsAndText
  intro h
  obtain ⟨-, -, hcopy, -⟩ := h twiceListed 0 0 0 0 0 ⟨false, 0⟩ [] onceOpened ⟨0, true, false, false, false, 0, [], 0, 0, []⟩ [] (parseDict [])
    (parseTrvHeader [])
  have htab := copyFirst_tab twiceListed_sysHalf (hcopy twiceListed_sysHalf)
  have hses := State.snapSys_ses twiceListed 0 0
  have hturn := counted_in_turn hses
  have hbefore := counted_before (twiceListed.snapSys 0 0)
  rw [twiceListed_changed] at htab
  rw [← htab] at hturn
  exact absurd (hturn.symm.trans hbefore) (by decide)

end Sys2Proof.Machine
end

section
/-! Traffic rules, gate lists and the synchronisation names of stations (R363-R368, R378-R390). -/

namespace Sys2Proof.Machine

/-- A command whose body does not end OK keeps and answers its status. -/
theorem commandEnds_refused {s t : State} {w : Writer} {o : ObjSpec} {i : Nat} {v : Octets} {so : ObjSpec} {si r : Nat}
    {body : State → State × Nat} (h : s.accepts w o i v) (hb : body s = (t, r)) (hr : r ≠ St.OK) :
    s.commandEnds w o i v true so si body = (t.setObj so si r).reply w r := by
  have h : s.writeCheck w o (o.base + i) o.subLo v = St.OK := h
  simp only [State.commandEnds, h, hb, hr, ne_eq, not_true_eq_false, if_false, Bool.not_true, Bool.false_eq_true]

theorem camRuleInsert_room {s : State} {half : Nat} {e : CamEntry}
    (h : (s.ruleEntries half).length < s.regionLimit Ob.cam_rule_entries (s.cam half).regions.rule) :
    s.camRuleInsert half e = s.camOrdered half e := if_neg (Nat.not_le.2 h)

/-- Settles O35: the bucket tick, the rules of both halves and the gate. -/
theorem shapingRows : Obligations.ShapingRows := by
  unfold Obligations.ShapingRows
  intro s a b w v id half
  refine ⟨rfl, fun hok hrange hfree hroom0 => ?_, fun hok hlive => ?_, fun hhalf hok hnotice hlist hvalid => ?_, fun hhalf => ?_⟩
  · intro e hfirst hroom1 hsecond
    have hbody : s.ruleInsert v = (b, St.OK) := by
      have hfirst' : s.camRuleInsert 0 e = some a := (camRuleInsert_room hroom0).trans hfirst
      have hsecond' : a.camRuleInsert 1 e = some b := (camRuleInsert_room hroom1).trans hsecond
      simp only [e] at hfirst' hsecond'
      simp only [State.ruleInsert, hfree, Bool.false_eq_true, if_false, hfirst', hsecond']
    show execArInsert w v s = _
    simp only [execArInsert, hrange]
    exact next_eq (commandEnds_ok hok hbody)
  · have hbody : s.ruleRemove (id % 65536) = ((s.setCam 0 ((s.cam 0).put ((s.cam 0).entries.filter (fun p =>
        !(decide (p.1 < (s.cam 0).regions.rule) && p.2.result / 65536 == id % 65536))))).setCam 1 ((s.cam 1).put ((s.cam 1).entries.filter (fun p =>
        !(decide (p.1 < (s.cam 1).regions.rule) && p.2.result / 65536 == id % 65536)))), St.OK) := if_pos hlive
    exact next_eq (commandEnds_ok hok hbody)
  · have hbody : s.gateCommit half = (s.setGate half { s.gate half with
        next := some (s.obj Ob.gl_takeover half, gateEntries 64 (s.str Ob.gl_entries half)) }, St.OK) := by
      have hsound : ((s.str Ob.gl_entries half).isEmpty || !gateValid 65 (s.str Ob.gl_entries half)) = false := by
        rw [List.isEmpty_eq_false_iff.2 hlist, hvalid]
        rfl
      simp only [State.gateCommit, if_neg (Nat.not_lt.2 hnotice), hsound, Bool.false_eq_true, if_false]
    show execGlCommit w half s = _
    simp only [execGlCommit, Nat.mod_eq_of_lt hhalf]
    exact next_eq (commandNow_ok hok hbody)
  · intro used
    exact ⟨fun hdue => next_eq (if_pos ⟨hhalf, hdue⟩), fun hearly => next_eq (if_neg fun ⟨_, hdue⟩ => absurd hdue (Nat.not_le.2 hearly))⟩

/-- Settles O36: definitions, deletions and operations of a station, and the updates of a group. -/
theorem stationSync : Obligations.StationSync := by
  unfold Obligations.StationSync
  intro s w st name type half operand n code others
  refine ⟨?_, ?_, fun i op arg hi => ?_, rfl⟩
  · intro v h hok hname htype0 htype3 hhalf hclosure hevent hfree hlimit hpool o u
    have hrange : (decide (name < 1024) && decide (1 ≤ type ∧ type ≤ 3) && decide (half ≤ 2)
        && (type != 3 || decide (1 ≤ operand ∧ operand ≤ 32768)) && (type != 2 || decide (operand ≤ 1))) = true := by
      simp only [Bool.and_eq_true, Bool.or_eq_true, decide_eq_true_eq, bne_iff_ne]
      exact ⟨⟨⟨⟨hname, htype0, htype3⟩, hhalf⟩, Classical.or_iff_not_imp_left.2 fun ht => hclosure (Classical.not_not.1 ht)⟩,
        Classical.or_iff_not_imp_left.2 fun ht => hevent (Classical.not_not.1 ht)⟩
    have hbody : s.syncDefine st name type half operand = (u, St.OK) := by
      simp only [h] at hpool
      simp only [State.syncDefine, hfree, Option.isSome_none, Bool.false_eq_true, if_false, if_neg (Nat.not_le.2 hlimit), hpool]
      rfl
    show execStnSyncDefine w st name type half operand s = _
    simp only [execStnSyncDefine, hrange]
    exact next_eq (commandEnds_ok hok hbody)
  · intro v hok hname hfind
    refine ⟨fun hfree => ?_, fun hbound => ?_⟩
    · intro u x
      have hbody : s.syncDelete st name = (x, St.OK) := by
        simp only [State.syncDelete, hfind, hfree, Bool.false_eq_true, if_false]
        rfl
      show execStnSyncDelete w st name s = _
      simp only [execStnSyncDelete, decide_eq_true hname]
      exact next_eq (commandEnds_ok hok hbody)
    · have hbody : s.syncDelete st name = (s, St.SYNC_BUSY) := by
        simp only [State.syncDelete, hfind, hbound, if_true]
      show execStnSyncDelete w st name s = _
      simp only [execStnSyncDelete, decide_eq_true hname]
      exact next_eq (commandEnds_refused hok hbody (by decide))
  · intro v hok hstatus
    have hrow : exec i s = .next (s.stationSync w st name code op arg) := by
      simp only [List.mem_cons, Prod.mk.injEq, List.not_mem_nil, or_false] at hi
      obtain ⟨rfl, rfl, rfl, rfl⟩ | ⟨rfl, rfl, rfl, rfl⟩ | ⟨rfl, rfl, rfl, rfl⟩ | ⟨rfl, rfl, rfl, rfl⟩ := hi <;> rfl
    exact hrow.trans (next_eq (commandEnds_ok hok (Prod.ext rfl hstatus)))

end Sys2Proof.Machine
end

section
/-! Model, dictionary and grammar slots (R243-R256, R267-R272). -/

namespace Sys2Proof.Machine

/-- One tile of a model's source placed, and whether all so far were. -/
def placeStep (mm : Nat) (acc : State × Bool) (t : Octets) : State × Bool :=
  ((acc.1.placeWeight mm (parseTile t)).1, acc.2 && (acc.1.placeWeight mm (parseTile t)).2)

theorem placeStep_failed (mm : Nat) (l : List Octets) (s : State) : (l.foldl (placeStep mm) (s, false)).2 = false := by
  induction l generalizing s with
  | nil => rfl
  | cons t l ih => exact ih _

/-- Tiles that pass their checks and are all placed leave the load to what follows them (R247). -/
theorem loadWeights_append {mm : Nat} {l more : List Octets} {s u : State}
    (hsound : ∀ t ∈ l, tileCrcOk t = true ∧ (parseTile t).formatOk = true) (hplace : l.foldl (placeStep mm) (s, true) = (u, true)) :
    s.loadWeights mm (l ++ more) = u.loadWeights mm more := by
  induction l generalizing s with
  | nil =>
    obtain ⟨rfl, -⟩ := Prod.mk.inj hplace
    rfl
  | cons t l ih =>
    obtain ⟨hcrc, hformat⟩ := hsound t List.mem_cons_self
    rw [List.foldl_cons] at hplace
    cases hput : s.placeWeight mm (parseTile t) with
    | mk v ok =>
      have hstep : placeStep mm (s, true) t = (v, ok) := by simp only [placeStep, hput, Bool.true_and]
      rw [hstep] at hplace
      cases ok with
      | false => exact absurd ((placeStep_failed mm l v).symm.trans (congrArg Prod.snd hplace)) Bool.false_ne_true
      | true =>
        rw [List.cons_append, State.loadWeights, hcrc, hformat, hput]
        exact ih (fun t ht => hsound t (List.mem_cons_of_mem _ ht)) hplace

/-- The end of a load, by what the source's tiles say. -/
theorem execMdlLoadDone_ends {s u : State} {mm st : Nat} {img : Option Octets} (hstate : s.obj Ob.mdl_state mm = 1)
    (hloading : (s.modelSlot mm).loadWriter.isSome = true) (hload : s.loadWeights mm (records 4352 (img.getD [])) = (u, st)) :
    let c := if st == St.OK && (img.isNone || (img.getD []).length != 4352 * ofLE (slice (u.str Ob.mdl_source mm) 8 4)
      || Config.shake256 (img.getD []) 32 != u.str Ob.mdl_digest mm) then St.MODEL_CORRUPT else st
    execMdlLoadDone mm img s = .next (if c == St.OK then
        ((u.setModelSlot mm { u.modelSlot mm with loadWriter := none }).setObj Ob.mdl_state mm 2).setObj Ob.mdl_status mm St.OK
      else (((u.freeAll (u.modelSlot mm).tiles).setModelSlot mm ⟨[], none, 0⟩).setObj Ob.mdl_state mm 3).setObj Ob.mdl_status mm c) := by
  have hgoes : (s.obj Ob.mdl_state mm != 1 || (s.modelSlot mm).loadWriter.isNone) = false := by
    rw [hstate, Option.isNone_eq_false_iff.2 hloading]
    rfl
  simp only [execMdlLoadDone, hgoes, Bool.false_eq_true, if_false, hload]

/-- A load whose tiles say anything but OK, or whose source is not the one described, is refused. -/
theorem execMdlLoadDone_refused {s u : State} {mm st c : Nat} {img : Option Octets} (hstate : s.obj Ob.mdl_state mm = 1)
    (hloading : (s.modelSlot mm).loadWriter.isSome = true) (hload : s.loadWeights mm (records 4352 (img.getD [])) = (u, st))
    (hc : (if st == St.OK && (img.isNone || (img.getD []).length != 4352 * ofLE (slice (u.str Ob.mdl_source mm) 8 4)
      || Config.shake256 (img.getD []) 32 != u.str Ob.mdl_digest mm) then St.MODEL_CORRUPT else st) = c) (hbad : c ≠ St.OK) :
    execMdlLoadDone mm img s = .next ((((u.freeAll (u.modelSlot mm).tiles).setModelSlot mm ⟨[], none, 0⟩).setObj Ob.mdl_state mm
      3).setObj Ob.mdl_status mm c) := by
  rw [execMdlLoadDone_ends hstate hloading hload, hc, if_neg (fun h => hbad (beq_iff_eq.1 h))]

/-- Settles O37: the commands of a slot, and the end of a load by the first tile that fails. -/
theorem modelSlots : Obligations.ModelSlots := by
  unfold Obligations.ModelSlots
  intro s u w mm vocab o bad l more
  refine ⟨fun hok hfree hidle hshape hchannels => ?_, fun hstate hloading => ?_, fun hok hfree hidle => ?_⟩
  · have hgoes : (s.modelInUse mm || s.obj Ob.mdl_state mm == 1) = false := by rw [hfree, beq_eq_false_iff_ne.2 hidle]; rfl
    refine next_eq (command_ok hok ?_)
    simp only [hgoes, hshape, hchannels, Bool.not_true, Bool.false_eq_true, if_false]
  · intro refused place
    have hnothing : s.loadWeights mm (records 4352 []) = (s, St.OK) := rfl
    refine ⟨execMdlLoadDone_refused (img := none) hstate hloading hnothing rfl (by decide), fun hsound hplace => ⟨fun hrecords => ⟨fun hcrc => ?_, fun hcrc hformat => ?_⟩,
      fun hrecords => ⟨fun hother => ?_, fun hlen hdigest => ?_⟩⟩⟩
    · have hload : s.loadWeights mm (records 4352 o) = (u, St.MODEL_CORRUPT) := by
        rw [hrecords, loadWeights_append hsound hplace, State.loadWeights, hcrc]
        rfl
      exact execMdlLoadDone_refused (img := some o) hstate hloading hload rfl (by decide)
    · have hload : s.loadWeights mm (records 4352 o) = (u, St.FORMAT_VERSION) := by
        rw [hrecords, loadWeights_append hsound hplace, State.loadWeights, hcrc, hformat]
        rfl
      exact execMdlLoadDone_refused (img := some o) hstate hloading hload rfl (by decide)
    · have hload : s.loadWeights mm (records 4352 o) = (u, St.OK) := by
        rw [hrecords, ← List.append_nil l, loadWeights_append hsound hplace, State.loadWeights]
      refine execMdlLoadDone_refused (img := some o) hstate hloading hload (if_pos ?_) (by decide)
      simpa using hother
    · have hload : s.loadWeights mm (records 4352 o) = (u, St.OK) := by
        rw [hrecords, ← List.append_nil l, loadWeights_append hsound hplace, State.loadWeights]
      refine (execMdlLoadDone_ends (img := some o) hstate hloading hload).trans ?_
      simp [hlen, hdigest]
  · have hgoes : (s.modelInUse mm || s.obj Ob.mdl_state mm == 1) = false := by rw [hfree, beq_eq_false_iff_ne.2 hidle]; rfl
    refine next_eq (commandNow_ok hok ?_)
    simp only [hgoes, Bool.false_eq_true, if_false]

/-- A dictionary that passes every check, with text clusters for its shards (R255, R256). -/
theorem dictCheck_ok {s : State} {n : Nat} {o : Octets} (hmagic : dictMagicOk o = true) (hformat : formatOk o = true)
    (hdigest : Config.shake256 o 32 = s.str Ob.dict_digest n) (hrules : dictRulesOk o = true)
    (hroom : ((s.text.dicts.filter (fun p => p.1 != n && s.obj Ob.dict_state p.1 == 2)).map (fun p => p.2.shards)).foldl (· + ·) 0
      + (parseDict o).shards ≤ s.textRoom) : s.dictCheck n o = St.OK := by
  have hsound : ¬ (Config.shake256 o 32 ≠ s.str Ob.dict_digest n ∨ dictRulesOk o = false) := by simp [hdigest, hrules]
  simp only [State.dictCheck, hmagic, hformat, Bool.not_true, Bool.false_eq_true, if_false, if_neg hsound, if_neg (Nat.not_lt.2 hroom)]

/-- A program that passes every check, for the dictionary of its model (R272). -/
theorem grammarCheck_ok {s : State} {n k : Nat} {o : Octets} {e : DictImage} (hmagic : grammarMagicOk o = true) (hformat : formatOk o = true)
    (hdigest : Config.shake256 o 32 = s.str Ob.gp_digest n) (hplaces : grammarPlacesOk o = true) (hgrammar : grammarOk (parseGrammar o) = true)
    (hdict : s.dictFor (s.obj Ob.gp_model n) = some (k, e)) (hown : e.digest = (parseGrammar o).dictDigest)
    (hvocab : e.vocab = (parseGrammar o).vocab) : s.grammarCheck n o = St.OK := by
  have hfit : e.digest = (parseGrammar o).dictDigest ∧ e.vocab = (parseGrammar o).vocab := ⟨hown, hvocab⟩
  simp only [State.grammarCheck, hmagic, hformat, hdigest, hplaces, hgrammar, hdict, ne_eq, not_true_eq_false, Bool.true_eq_false, or_self, if_false,
    if_pos hfit]

/-- The one refusal of a program is GRAMMAR_CORRUPT (R272). -/
theorem grammarCheck_corrupt {s : State} {n : Nat} {o : Octets} (h : s.grammarCheck n o ≠ St.OK) : s.grammarCheck n o = St.GRAMMAR_CORRUPT := by
  revert h
  unfold State.grammarCheck
  dsimp only
  split
  · exact fun _ => rfl
  · split
    · exact fun _ => rfl
    · split
      · exact fun _ => rfl
      · split
        · exact fun h => absurd rfl h
        · exact fun _ => rfl

/-- Settles O38: loads and unloads of both kinds of slot, free and in use. -/
theorem textSlots : Obligations.TextSlots := by
  unfold Obligations.TextSlots
  intro s w n k o e
  have hcorruptDict : ¬ St.DICT_CORRUPT = St.OK := by decide
  have hcorruptGrammar : ¬ St.GRAMMAR_CORRUPT = St.OK := by decide
  refine ⟨fun hok hfree => ⟨fun hmagic hformat hdigest hrules hroom => ?_, fun hbad => ?_, ?_⟩, fun hok hfree => ?_,
    fun hbusy => ⟨fun hok => ?_, fun hok => ?_⟩, fun hok hfree => ⟨fun hmagic hformat hdigest hplaces hgrammar hdict hown hvocab => ?_, fun hbad => ?_, ?_⟩,
    fun hok hfree => ?_, fun hbusy => ⟨fun hok => ?_, fun hok => ?_⟩⟩
  · refine next_eq (command_ok hok ?_)
    simp only [hfree, Bool.false_eq_true, if_false, Option.map_some, Option.getD_some, dictCheck_ok hmagic hformat hdigest hrules hroom, if_true]
  · refine next_eq (command_ok hok ?_)
    simp only [hfree, Bool.false_eq_true, if_false, Option.map_some, Option.getD_some, if_neg hbad]
  · refine next_eq (command_ok hok ?_)
    simp only [hfree, Bool.false_eq_true, if_false, Option.map_none, Option.getD_none, if_neg hcorruptDict]
  · refine next_eq (commandNow_ok hok ?_)
    simp only [hfree, Bool.false_eq_true, if_false]
  · exact next_eq (command_refused (t := s) hok (if_pos hbusy) (by decide))
  · exact next_eq (commandNow_refused (t := s) hok (if_pos hbusy) (by decide))
  · refine next_eq (command_ok hok ?_)
    simp only [hfree, Bool.false_eq_true, if_false, Option.map_some, Option.getD_some,
      grammarCheck_ok hmagic hformat hdigest hplaces hgrammar hdict hown hvocab, if_true]
  · refine next_eq (command_ok hok ?_)
    simp only [hfree, Bool.false_eq_true, if_false, Option.map_some, Option.getD_some, grammarCheck_corrupt hbad, if_neg hcorruptGrammar]
  · refine next_eq (command_ok hok ?_)
    simp only [hfree, Bool.false_eq_true, if_false, Option.map_none, Option.getD_none, if_neg hcorruptGrammar]
  · refine next_eq (commandNow_ok hok ?_)
    simp only [hfree, Bool.false_eq_true, if_false]
  · exact next_eq (command_refused (t := s) hok (if_pos hbusy) (by decide))
  · exact next_eq (commandNow_refused (t := s) hok (if_pos hbusy) (by decide))

end Sys2Proof.Machine
end

section
/-! Gathered and appended tiles, and checkpoints (R221-R242, R436-R455). -/

namespace Sys2Proof.Machine

/-- Settles O39: a gather record once a frame, and an append entry in its cycle. -/
theorem contextTiles : Obligations.ContextTiles := by
  unfold Obligations.ContextTiles
  intro s n cluster reads h i g e r x hrun himage
  refine ⟨fun hgather hdue hnew => ?_, fun happend hcluster hfenced hawake hcycle hnext hrow hlive hsess => ?_⟩
  · have hgoes : (decide (g.issueTick ≤ s.schedTick) && !s.trv.gathered.contains n) = true := by simp [hdue, hnew]
    show execGatherRecord n reads s = _
    simp only [execGatherRecord, hrun, himage, hgather, hgoes, if_true] <;> rfl
  · intro m
    have hgoes : (decide (cluster < 512) && !s.clusterFenced cluster && !s.asleep cluster && decide (e.cycle < 60 * (s.schedTick + 1))
        && decide ((mget s.trv.appended cluster).getD 0 ≤ n)) = true := by
      simp [hcluster, hfenced, hawake, hcycle, hnext]
    have hrow' : m.rowNow e.row = some r := hrow
    have hsess' : m.rowSess r.entry = some x := hsess
    show execAppendEntry cluster n s = _
    simp only [execAppendEntry, hrun, himage, Option.bind_some, happend, hgoes, if_true]
    split
    · next hnone => exact absurd (hrow'.symm.trans hnone) (Option.some_ne_none r)
    · next r' hfound =>
      obtain rfl := Option.some.inj (hfound.symm.trans hrow')
      simp only [hlive, Bool.not_true, Bool.false_eq_true, if_false]
      split
      · next hnone => exact absurd (hsess'.symm.trans hnone) (Option.some_ne_none x)
      · rfl

/-- No checkpoint runs, there is notice enough and a store for it (R437). -/
theorem ckAsk_ok {s : State} {f : Nat} (hnotice : s.frame + 4 ≤ f) (hidle : s.ck.run = none) (hstore : s.ckStoreOk = true) : s.ckAsk f = St.OK := by
  simp only [State.ckAsk, if_neg (Nat.not_lt.2 hnotice), hidle, hstore, Option.isSome_none, Bool.not_true, Bool.false_eq_true, if_false]

/-- Settles O40: each row of a checkpoint, and the restore. -/
theorem checkpointRows : Obligations.CheckpointRows := by
  unfold Obligations.CheckpointRows
  intro z s w half count r found others group t e h b
  refine ⟨fun hok hid hnotice hidle hstore => ?_, ?_, fun hok => next_eq (commandNow_ok hok rfl), fun hrun hstarted hhalf => ?_,
    fun hrun hdone0 hdone1 hstate hsends => ?_, fun hrun hstate => ?_, fun hok => ?_⟩
  · have hid' : (s.obj Ob.ck_id 0 == 0) = false := beq_eq_false_iff_ne.2 hid
    have hask : (s.ckAsk (s.obj Ob.ck_frame 0) != St.OK) = false := by rw [ckAsk_ok hnotice hidle hstore]; rfl
    refine next_eq (command_ok hok ?_)
    simp only [hid', hask, Bool.false_eq_true, if_false] <;> rfl
  · intro s hw hp hm hprivileged u hask mode
    have hmsg : (s.chosen t.station e).msg = ⟨h, .checkpoint b⟩ := hm
    have heffect : u.effect t.station (s.chosen t.station e) = u.checkpointMsg t.station (s.chosen t.station e) b := by
      simp only [State.effect, hmsg]
    have hprivileged' : (s.chosen t.station e).privileged = true := hprivileged
    refine next_eq ((hostMsg_served hw hm rfl (by simp) hp).trans (heffect.trans ?_))
    simp only [State.checkpointMsg, hprivileged', if_true, hask, bne_self_eq_false, Bool.false_eq_true, if_false]
    rfl
  · have hgoes : (!r.started || decide (2 ≤ half)) = false := by simp [hstarted, hhalf]
    show execShardWrite half count s = _
    simp only [execShardWrite, hrun, hgoes, Bool.false_eq_true, if_false]
  · have hgoes : (r.done0 && r.done1 && s.obj Ob.ck_state 0 == 2 && (s.isMaster || group.isSome)) = true := by
      rw [hdone0, hdone1, hstate, Bool.or_eq_true_iff.2 hsends]
      rfl
    show execManifestWrite others group s = _
    simp only [execManifestWrite, hrun, hgoes, if_true]
  · show execCheckpointComplete s = _
    simp only [execCheckpointComplete, hrun, hstate, beq_self_eq_true, if_true]
  · intro busy own cat
    refine ⟨fun hidle hsource => ?_, fun hbusy => ?_⟩
    · refine next_eq (command_ok hok ((if_neg (Bool.eq_false_iff.1 hidle)).trans ?_))
      exact if_pos (beq_iff_eq.2 hsource)
    · exact next_eq (command_refused (t := s) hok (if_pos hbusy) (by decide))

end Sys2Proof.Machine
end

section
/-! Fabric ports (R457-R473). -/

namespace Sys2Proof.Machine

/-- Settles O41: training, the codewords of an UP port, its heartbeats, and lanes. -/
theorem fabricPorts : Obligations.FabricPorts := by
  unfold Obligations.FabricPorts
  intro s port lane seq rtt step began lp hb hport x
  refine ⟨fun htraining => ⟨fun hstep hlo hhi => ?_, fun hstep hversion => ?_, fun hstep hfew => ?_, fun hstep hlate => ?_,
    fun hstep hfirst hlast hbegan hone hlate => ?_, fun hstep hparams hechoes hfits hepoch => ?_⟩,
    fun hup => ⟨fun hkept => ⟨?_, ?_⟩, fun hgone => ?_, fun hlane hfresh => ?_, fun hlane hdiscards => ?_, fun hdue => ?_, fun hcomp hplat => ?_, ?_⟩,
    fun hdown hrole hlanes hwait => ?_, fun hlane => ?_, fun howner hfailed hup => ?_⟩
  · have hgoes : ¬ (s.obj Ob.port_state port != 1 || decide (4 ≤ x.step)) = true := by simp [htraining, hstep]
    have hfits : ¬ (decide (2 ≤ lp.majorLo) || lp.majorHi == 0) = true := by simp [hhi]; omega
    exact next_eq ((if_neg hgoes).trans (if_neg hfits))
  · have hgoes : ¬ (s.obj Ob.port_state port != 1 || decide (4 ≤ x.step)) = true := by simp [htraining, hstep]
    have hother : (decide (2 ≤ lp.majorLo) || lp.majorHi == 0) = true := by simpa using hversion
    exact next_eq ((if_neg hgoes).trans (if_pos hother))
  · have hgoes : (s.obj Ob.port_state port == 1 && x.step == 4 && decide (x.echoes.length < 16)) = true := by simp [htraining, hstep, hfew]
    exact next_eq (if_pos hgoes)
  · have hgoes : (s.obj Ob.port_state port == 1 && (if x.step == 4 then (4 : Nat) == 4 && x.since == x.since
        else decide (1 ≤ 4 ∧ 4 ≤ 3 ∧ x.since ≤ x.since) && ((4 : Nat) != 1 || x.since == x.since))
        && decide (x.since + s.trainLimit 4 < s.tick)) = true := by simp [htraining, hstep, hlate]
    exact next_eq (if_pos hgoes)
  · have hstep' : (x.step == 4) = false := beq_eq_false_iff_ne.2 hstep
    have hbegin : (step != 1 || began == x.since) = true := by
      simp only [Bool.or_eq_true, bne_iff_ne, beq_iff_eq]
      exact Classical.or_iff_not_imp_left.2 fun h => hone (Classical.not_not.1 h)
    have hgoes : (s.obj Ob.port_state port == 1 && (if x.step == 4 then step == 4 && began == x.since
        else decide (1 ≤ step ∧ step ≤ 3 ∧ x.since ≤ began) && (step != 1 || began == x.since))
        && decide (began + s.trainLimit step < s.tick)) = true := by
      rw [htraining, hstep', hbegin, decide_eq_true (And.intro hfirst (And.intro hlast hbegan)), decide_eq_true hlate]
      rfl
    exact next_eq (if_pos hgoes)
  · intro lat hlow hhigh good a b c
    have hgoes : ¬ (s.obj Ob.port_state port != 1 || (s.port port).step != 4 || (s.port port).echoes.length != 16) = true := by
      rw [htraining, show (s.port port).step = 4 from hstep, show (s.port port).echoes.length = 16 from hechoes]
      exact Bool.false_ne_true
    have hnear : (decide (rtt + 1 < medianOf (s.port port).echoes / 2) || decide (medianOf (s.port port).echoes / 2 + 1 < rtt)) = false := by
      rw [decide_eq_false (Nat.not_lt.2 hlow), decide_eq_false (Nat.not_lt.2 hhigh)]
      rfl
    have hfits' : ¬ (!s.portFits port lp) = true := by
      rw [hfits]
      exact Bool.false_ne_true
    have hknown : ¬ (lp.epoch == 0 && c.fab.plat.isSome) = true := by
      rw [beq_eq_false_iff_ne.2 hepoch]
      exact Bool.false_ne_true
    show execPortUp port rtt s = _
    unfold execPortUp
    refine next_eq ?_
    dsimp only
    split
    · next hnone => exact absurd (hparams.symm.trans hnone) (Option.some_ne_none lp)
    · next lp' hsome =>
      obtain rfl := Option.some.inj (hsome.symm.trans hparams)
      refine (if_neg hgoes).trans ((if_neg (Bool.eq_false_iff.1 hnear)).trans ((if_neg hfits').trans ?_))
      exact congrArg (fun v : State => v.platView.peersSeen) (if_neg hknown)
  · exact next_eq (if_pos (Bool.and_eq_true_iff.2 ⟨hup, hkept⟩))
  · exact next_eq ((if_neg (by rw [hup]; exact Bool.false_ne_true)).trans (if_pos hkept))
  · exact next_eq ((if_neg (by rw [hup]; exact Bool.false_ne_true)).trans (if_neg (Bool.eq_false_iff.1 hgone)))
  · intro a n b c
    have hgoes : (s.portUp port && (s.port port).lanes.contains lane) = true := Bool.and_eq_true_iff.2 ⟨hup, hlane⟩
    show execCodewordFecFail port lane seq s = _
    simp only [execCodewordFecFail, if_pos hgoes, show (s.port port).discarding = false from hfresh, Bool.false_eq_true, if_false]
    rfl
  · intro a n b
    have hgoes : (s.portUp port && (s.port port).lanes.contains lane) = true := Bool.and_eq_true_iff.2 ⟨hup, hlane⟩
    show execCodewordFecFail port lane seq s = _
    simp only [execCodewordFecFail, if_pos hgoes, show (s.port port).discarding = true from hdiscards, if_true]
    rfl
  · exact next_eq ((if_neg (by rw [hup]; exact Bool.false_ne_true)).trans (if_pos (decide_eq_true hdue)))
  · refine next_eq ((if_neg (by rw [hup]; exact Bool.false_ne_true)).trans ?_)
    have hjoins : (s.obj Ob.composition 0 == 1 && s.fab.plat.isNone && hb.epoch != 0) = false := by rw [hcomp]; rfl
    have hfetches : (decide (s.platEpoch < hb.epoch) && s.fab.plat.isSome) = false := by rw [hplat]; exact Bool.and_false _
    exact (if_neg (Bool.eq_false_iff.1 hjoins)).trans (if_neg (Bool.eq_false_iff.1 hfetches))
  · intro n a
    refine next_eq ((if_neg (by rw [hup]; exact Bool.false_ne_true)).trans ?_)
    simp only [decide_eq_true_eq]
    rfl
  · have hwaits : (if (s.obj Ob.port_state port == 4) = true then 25000000 else s.obj Ob.fab_retrain_ticks 0) = s.obj Ob.fab_retrain_ticks 0 := by
      rw [hdown]
      rfl
    have hgoes : ((s.obj Ob.port_state port == 0 || s.obj Ob.port_state port == 4) && s.obj Ob.port_role port != 0 && !(s.portLanes port).isEmpty
        && decide (port < 16) && decide (x.since + (if (s.obj Ob.port_state port == 4) = true then 25000000 else s.obj Ob.fab_retrain_ticks 0)
          ≤ s.tick)) = true := by
      rw [hwaits, hdown, bne_iff_ne.2 hrole, List.isEmpty_eq_false_iff.2 hlanes, decide_eq_true hport, decide_eq_true hwait]
      rfl
    exact next_eq (if_pos hgoes)
  · intro a
    have hin : ¬ 32 ≤ lane := Nat.not_le.2 hlane
    refine ⟨fun hnone => ?_, fun howner => ?_⟩
    · show execLossOfSignal lane s = _
      simp only [execLossOfSignal, if_neg hin, show (s.laneFail lane).laneOwner lane = none from hnone]
      rfl
    · show execLossOfSignal lane s = _
      simp only [execLossOfSignal, if_neg hin, show (s.laneFail lane).laneOwner lane = some port from howner]
      rfl
  · intro good width
    have hgoes : ¬ (s.lane lane != 2 || !s.portUp port) = true := by
      rw [hfailed, hup]
      exact Bool.false_ne_true
    have hrow : exec (.laneFailed lane) s = .next (if (width == 0 || x.features / 2 % 2 == 0) = true then s.portDown port
        else (((s.setObj Ob.port_state port 3).setObj Ob.port_width port width).bump Ob.cnt_link_narrowed (portHalf port)).tileEvent
          Ev.LINK_NARROWED port width) := by
      show execLaneFailed lane s = _
      simp only [execLaneFailed, howner, if_neg hgoes]
      rfl
    refine ⟨fun hstops => hrow.trans (next_eq (if_pos ?_)), fun hwide hnarrows => hrow.trans (next_eq (if_neg ?_))⟩
    · simpa using hstops
    · simp [hwide, hnarrows]

end Sys2Proof.Machine
end

section
/-! Relays between devices, and the peer tier (R474-R485). -/

namespace Sys2Proof.Machine

/-- A row of the fabric whose message reaches this device. -/
theorem routed_next {s t : State} {h : FabHdr} (hr : s.reached h) {body : FabBody} {r f : Bool} {go : State → State} (hgo : go s = t) :
    (.next (s.routed h body r f go) : Out) = .next t := next_eq ((routed_ok hr body r f go).trans hgo)

/-- Settles O42: each relay of a message that reaches this device. -/
theorem fabricRelays : Obligations.FabricRelays := by
  unfold Obligations.FabricRelays
  intro s h st addr pos m x c e v recs hr
  refine ⟨fun houts hins hx => ?_, routed_next hr rfl, routed_next hr rfl, routed_next hr rfl, ?_, fun hpeer hmode => ?_, routed_next hr rfl⟩
  · intro u i w hseq
    have hrow : ∀ t : State, (match m.body with
        | .append b => w.appendMsg st i b
        | .resume b => w.resumeMsg st i b
        | .cancel => w.cancelMsg st i
        | .close => w.closeMsg st i
        | .park => w.parkMsg st i
        | .revive => w.reviveMsg st i
        | .ringName b => w.ringNameMsg st i b
        | _ => w.finish st m.hdr.seq (Outcome.of St.HANDLE_UNKNOWN)) = t → s.fabSession h st m = t.relayOut := by
      intro t ht
      simp only [State.fabSession, houts, hins, hx, List.any_nil, List.find?_nil, Option.bind_some, Bool.false_and, Bool.false_eq_true, if_false]
      rw [show State.seqCheck _ st m.hdr.seq = none from hseq, ← ht] <;> rfl
    exact ⟨fun b hb => routed_next hr (hrow _ (by rw [hb])), fun b hb => routed_next hr (hrow _ (by rw [hb])),
      fun hb => routed_next hr (hrow _ (by rw [hb])), fun hb => routed_next hr (hrow _ (by rw [hb])), fun hb => routed_next hr (hrow _ (by rw [hb])),
      fun hb => routed_next hr (hrow _ (by rw [hb])), fun b hb => routed_next hr (hrow _ (by rw [hb]))⟩
  · intro lent
    refine ⟨fun hsliced hshares hlent => ?_, fun hsliced hnot => ?_⟩
    · have hgoes : ¬ (!(if s.sliced = true then s.sharesSlice h.src else s.obj Ob.fab_witness_serve 0 / 2 ^ 31 == 1
          && s.obj Ob.fab_witness_serve 0 % 512 == h.src) || !lent) = true := by
        rw [if_pos hsliced, hshares, hlent]
        exact Bool.false_ne_true
      exact routed_next hr (if_neg hgoes)
    · have hstops : (!(if s.sliced = true then s.sharesSlice h.src else s.obj Ob.fab_witness_serve 0 / 2 ^ 31 == 1
          && s.obj Ob.fab_witness_serve 0 % 512 == h.src) || !lent) = true := by
        rw [if_pos hsliced]
        obtain hnot | hnot := hnot
        · rw [hnot]
          rfl
        · rw [hnot]
          exact Bool.or_true _
      exact routed_next hr (if_pos hstops)
  · have hgoes : ¬ (h.src != s.obj Ob.witness_peer 0 % 512 || s.obj Ob.witness_mode 0 != 1) = true := by
      rw [hpeer, hmode, bne_self_eq_false]
      exact Bool.false_ne_true
    exact routed_next hr (if_neg hgoes)

/-- Settles O43: each row of the peer tier, with the lease that it names. -/
theorem peerTier : Obligations.PeerTier := by
  unfold Obligations.PeerTier
  intro s w h kind tiles lease off count n l ts
  refine ⟨fun hr => ⟨?_, routed_next hr rfl, ?_, ?_, routed_next hr rfl, routed_next hr rfl⟩, fun hok hfind => ?_⟩
  · intro allowed lent
    refine ⟨fun hallowed hlend hfree => ?_, fun hnot => ?_⟩
    · have hgoes : ¬ (!allowed || decide (s.obj Ob.t4_lend_max 0 < lent + tiles) || decide (11 * s.t2Free (s.fab.nextLease % 2) < tiles)) = true := by
        rw [hallowed, decide_eq_false (Nat.not_lt.2 hlend), decide_eq_false (Nat.not_lt.2 hfree)]
        exact Bool.false_ne_true
      exact routed_next hr (if_neg hgoes)
    · have hstops : (!allowed || decide (s.obj Ob.t4_lend_max 0 < lent + tiles) || decide (11 * s.t2Free (s.fab.nextLease % 2) < tiles)) = true := by
        obtain hnot | hnot := hnot
        · rw [hnot]
          rfl
        · rw [decide_eq_true hnot, Bool.or_true]
          rfl
      exact routed_next hr (if_pos hstops)
  · intro key
    refine ⟨fun hnone => ⟨routed_next hr ?_, routed_next hr ?_, routed_next hr ?_⟩, fun hlease hpast => routed_next hr ?_,
      fun hlease hlessee hin => routed_next hr ?_, fun hlease hlessee => routed_next hr ?_,
      fun hlease hlessor => ⟨fun houts => routed_next hr ?_, fun hin => routed_next hr ?_⟩⟩
    · simp only [show mget s.fab.leases (h.src * 65536 + lease % 65536) = none from hnone]
    · simp only [show mget s.fab.leases (h.src * 65536 + lease % 65536) = none from hnone]
    · simp only [show mget s.fab.leases (h.src * 65536 + lease % 65536) = none from hnone]
    · simp only [show mget s.fab.leases (h.src * 65536 + lease % 65536) = some l from hlease, if_pos hpast]
    · simp only [show mget s.fab.leases (h.src * 65536 + lease % 65536) = some l from hlease, if_neg (Nat.not_lt.2 hin), hlessee, if_true]
    · simp only [show mget s.fab.leases (h.src * 65536 + lease % 65536) = some l from hlease]
      exact if_neg (by rw [hlessee]; exact Bool.false_ne_true)
    · simp only [show mget s.fab.leases (h.src * 65536 + lease % 65536) = some l from hlease, hlessor, houts, Bool.false_eq_true, if_false,
        List.filter_nil, List.foldl_nil]
      rfl
    · simp only [show mget s.fab.leases (h.src * 65536 + lease % 65536) = some l from hlease, if_neg (Nat.not_lt.2 hin), hlessor,
        Bool.false_eq_true, if_false]
      rfl
  · intro found
    refine ⟨fun hfound hin => routed_next hr ?_, fun hnot => routed_next hr ?_⟩
    · simp only [show s.fab.leases.find? (fun p => !p.2.lessee && p.1 % 65536 == lease && (p.2.peer == h.src || p.2.kept)) = some (n, l) from hfound,
        if_neg (Nat.not_lt.2 hin)]
    · obtain hnone | ⟨hfound, hpast⟩ := hnot
      · simp only [show s.fab.leases.find? (fun p => !p.2.lessee && p.1 % 65536 == lease && (p.2.peer == h.src || p.2.kept)) = none from hnone]
      · simp only [show s.fab.leases.find? (fun p => !p.2.lessee && p.1 % 65536 == lease && (p.2.peer == h.src || p.2.kept)) = some (n, l) from hfound,
          if_pos hpast]
  · refine next_eq (command_ok hok ?_)
    simp only [hfind]

end Sys2Proof.Machine
end

section
/-! Agreement on the plat (R459-R470, R486-R488). -/

namespace Sys2Proof.Machine

/-- A command without a status object answers its refusal. -/
theorem command_refused_plain {s t : State} {w : Writer} {o : ObjSpec} {i : Nat} {v : Octets} {body : State → State × Nat} {r : Nat}
    (h : s.accepts w o i v) (hb : body s = (t, r)) (hr : r ≠ St.OK) : s.command w o i v none body = s.reply w r := by
  have h : s.writeCheck w o (o.base + i) o.subLo v = St.OK := h
  simp only [State.command, h, hb, hr, ne_eq, not_true_eq_false, if_false]

/-- Reported devices that are reached again are forgotten (R463). -/
theorem markLost_reached {s : State} (h : ∀ r ∈ s.fab.reports, s.reachable r.1 = true) :
    s.markLost = { s with fab := { s.fab with reports := [] } } := by
  have hkeep : s.fab.reports.filter (fun r => !s.reachable r.1) = [] := by
    rw [List.filter_eq_nil_iff]
    intro r hr
    rw [h r hr]
    exact Bool.false_ne_true
  simp only [State.markLost, hkeep, List.filter_nil, List.map_nil, List.isEmpty_nil, Bool.true_or, if_true]

/-- A report of devices that the coordinator reaches, none late in a hand-over to the reporter, adds none. -/
theorem noteReport_reached {s : State} {src : Nat} {devices : List Nat} (hcoord : s.isCoordinator = true)
    (hreach : ∀ x ∈ devices, s.reachable x = true) (hreports : ∀ r ∈ s.fab.reports, s.reachable r.1 = true)
    (hlate : ∀ p, s.fab.plat = some p → ∀ x ∈ p.handovers, x.toDev ≠ src) :
    s.noteReport src devices = { s with fab := { s.fab with reports := [] } } := by
  have hnone : (fun d => ((s.fab.plat.map (fun p => p.handovers)).getD []).any (fun h => h.fromDev == d && h.toDev == src)) = fun _ => false := by
    funext d
    rw [List.any_eq_false]
    intro x hx
    cases hplat : s.fab.plat with
    | none =>
      rw [hplat] at hx
      exact absurd hx List.not_mem_nil
    | some p =>
      rw [hplat] at hx
      rw [beq_eq_false_iff_ne.2 (hlate p hplat x hx), Bool.and_false]
      exact Bool.false_ne_true
  have hgone : devices.filter (fun d => !s.reachable d) = [] := by
    rw [List.filter_eq_nil_iff]
    intro x hx
    rw [hreach x hx]
    exact Bool.false_ne_true
  have hall : ∀ l : List Nat, l.filter (fun _ => true) = l := fun _ => List.filter_eq_self.2 fun _ _ => rfl
  have hempty : ∀ l : List Nat, l.filter (fun _ => false) = [] := fun _ => List.filter_eq_nil_iff.2 fun _ _ => Bool.false_ne_true
  simp only [State.noteReport, hcoord, Bool.not_true, Bool.false_eq_true, if_false, hnone, List.partition_eq_filter_filter, hempty,
    Function.comp_def, Bool.not_false, hall, hgone, List.foldl_nil, List.isEmpty_nil, if_true]
  exact markLost_reached hreports

/-- Settles O44: proposals, votes, commits, joins, reports and the composition. -/
theorem platRows : Obligations.PlatRows := by
  unfold Obligations.PlatRows
  intro s w h img p v device minor feat lo hi identity d
  refine ⟨fun hok => ⟨next_eq (command_refused (t := s) hok rfl (by decide)), fun hcoord hcheck => ?_, fun c hcoord hvalid hto => ?_⟩,
    fun hr => ⟨fun b hb hnone hepoch hvalid hmajority hkeeps => routed_next hr ?_, fun hvote hmember hnew => ?_, fun hvalid hepoch => ?_, fun hepoch => ?_,
      fun hplat hcoord => ⟨fun hlo hhi hdevice hident => routed_next hr ?_, fun hmajor => routed_next hr ?_⟩,
      fun epoch hplat hepoch => routed_next hr ?_, fun hcoord hreach hreports hlate => routed_next hr ?_⟩,
    fun hvote hleave hlate => ?_, fun hok => ?_, fun hok hplat hassigns hlent hborrowed hcoord => ?_, fun hok hplat hassigns => ?_⟩
  · refine next_eq (command_ok hok ?_)
    simp only [hcoord, hcheck, if_true, bne_self_eq_false, Bool.false_eq_true, if_false]
  · refine next_eq (command_ok hok ?_)
    simp only [hcoord, hvalid, hto, Bool.not_true, Bool.false_eq_true, if_false]
  · have hb' : (b == 0) = false := beq_eq_false_iff_ne.2 hb
    simp only [hb', hnone, hepoch, hvalid, hmajority, hkeeps, bne_self_eq_false, Option.any_none, Option.map_none, Bool.not_true, Bool.or_self,
      Bool.false_eq_true, if_false]
  · intro u
    have hvoted : exec (.platAccept h v.img.epoch v.ballot none) s = .next (
        if (decide (majority s.members.length ≤ v.accepted.length + 1) && !(firstTakeover v.img).any (fun t => decide (t - 1 ≤ s.frame))
          && decide (s.tick ≤ v.started + s.obj Ob.plat_vote_ticks 0)) = true then
          let all := (platMembers v.img ++ u.members).foldl (fun l d => if l.contains d || d == u.device then l else l ++ [d]) []
          let x := all.foldl (fun (x : State) d => x.fabSend d 0xFFFF (.platCommit v.img)) u
          (x.platCommitted v.img).setObj Ob.plat_status 0 St.OK
        else u) := by
      refine routed_next hr ?_
      simp only [hvote, hmember, hnew, bne_self_eq_false, Bool.not_true, Bool.or_self, Bool.false_eq_true, if_false, Option.filter_none]
      rfl
    refine ⟨fun hfew => hvoted.trans (next_eq (if_neg ?_)), fun hmany htakeover htime => hvoted.trans (next_eq (if_pos ?_))⟩
    · rw [decide_eq_false (Nat.not_le.2 hfew)]
      exact Bool.false_ne_true
    · rw [decide_eq_true hmany, htakeover, decide_eq_true htime]
      rfl
  · have hgoes : (s.platValid img && decide (s.platEpoch < img.epoch)) = true := by rw [hvalid, decide_eq_true hepoch]; rfl
    exact ⟨routed_next hr (if_pos hgoes), routed_next hr (if_pos hgoes)⟩
  · have hstays : ¬ (s.platValid img && decide (s.platEpoch < img.epoch)) = true := by
      rw [decide_eq_false (Nat.not_lt.2 hepoch), Bool.and_false]
      exact Bool.false_ne_true
    exact ⟨routed_next hr (if_neg hstays), routed_next hr (if_neg hstays)⟩
  · have hmajor : (decide (s.domainMajor < lo) || decide (hi < s.domainMajor)) = false := by
      rw [decide_eq_false (Nat.not_lt.2 hlo), decide_eq_false (Nat.not_lt.2 hhi)]
      rfl
    have hknown : (decide (511 < device) || p.devices.any (fun d => d.device == device && d.state == 1 && d.identity != identity)) = false := by
      rw [decide_eq_false (Nat.not_lt.2 hdevice), hident]
      rfl
    simp only [hplat, hcoord, hmajor, hknown, Bool.not_true, Bool.false_eq_true, if_false]
  · have hmajor' : (decide (s.domainMajor < lo) || decide (hi < s.domainMajor)) = true := by simpa using hmajor
    simp only [hplat, hcoord, hmajor', Bool.not_true, Bool.false_eq_true, if_false, if_true]
  · simp only [hplat, if_pos hepoch]
  · exact noteReport_reached hcoord hreach hreports hlate
  · have hpast : (decide (v.started + s.obj Ob.plat_vote_ticks 0 < s.tick) || (firstTakeover v.img).any (fun t => decide (t - 1 ≤ s.frame))) = true := by
      rw [decide_eq_true hlate]
      rfl
    show execPlatVoteTimeout s = _
    simp only [execPlatVoteTimeout, hleave, Bool.false_eq_true, if_false, hvote, hpast, if_true]
  · exact next_eq ((if_neg Bool.false_ne_true).trans (command_ok hok rfl))
  · intro u hstill
    have howes : (s.obj Ob.t4_tiles_lent 0 != 0 || s.obj Ob.t4_tiles_borrowed 0 != 0) = false := by
      rw [hlent, hborrowed]
      rfl
    have hplat' : s.fab.plat.isNone = false := Option.isNone_eq_false_iff.2 hplat
    show execCompositionWrite w 0 s = _
    simp only [execCompositionWrite, howes, Bool.and_false, Bool.false_and, Bool.false_eq_true, if_false]
    have hleaves : ¬ ((0 : Nat) == 1 || s.fab.plat.isNone) = true := by
      rw [hplat']
      exact Bool.false_ne_true
    have hfree : ¬ (!s.assigns.isEmpty || false) = true := by
      rw [hassigns]
      exact Bool.false_ne_true
    exact next_eq (command_ok hok ((if_neg hleaves).trans ((if_neg hfree).trans (if_pos hstill))))
  · have hassigns' : s.assigns.isEmpty = false := List.isEmpty_eq_false_iff.2 hassigns
    have hleaves : ¬ ((0 : Nat) == 1 || s.fab.plat.isNone) = true := by
      rw [Option.isNone_eq_false_iff.2 hplat]
      exact Bool.false_ne_true
    have hbusy : (!s.assigns.isEmpty || (s.obj Ob.t4_tiles_lent 0 != 0 || s.obj Ob.t4_tiles_borrowed 0 != 0)) = true := by
      rw [hassigns']
      rfl
    have hkeeps : ¬ ((0 : Nat) == 0 && s.fab.plat.isSome && s.assigns.isEmpty && (s.obj Ob.t4_tiles_lent 0 != 0 || s.obj Ob.t4_tiles_borrowed 0 != 0)
        && s.writeCheck w Ob.composition 0x9100 1 (toLE 1 0) == St.OK) = true := by
      rw [hassigns', Bool.and_false]
      exact Bool.false_ne_true
    refine next_eq ((if_neg hkeeps).trans (command_refused_plain (t := s) hok ?_ (by decide)))
    exact (if_neg hleaves).trans (if_pos hbusy)

end Sys2Proof.Machine
end

section
/-! The hand-over of a slice (R464-R470). -/

namespace Sys2Proof.Machine

/-- Settles O45: each message of a hand-over, its timeouts and the pull of its tiles. -/
theorem handoverRows : Obligations.HandoverRows := by
  unfold Obligations.HandoverRows
  intro s h x recs i o k m st n device epoch
  refine ⟨fun hr => ⟨fun hin => routed_next hr ?_, routed_next hr rfl, fun hout => routed_next hr ?_, fun hsent hbody => routed_next hr ?_⟩, rfl, rfl,
    fun hin => ?_⟩
  · simp only [hin]
  · simp only [hout]
  · simp only [hsent, hbody]
  · intro inLease
    refine ⟨fun hfound => ?_, fun hnone => ?_⟩
    · show execHandoverPull s = _
      simp only [inLease] at hfound
      simp only [execHandoverPull, hin, hfound]
    · show execHandoverPull s = _
      simp only [inLease] at hnone
      simp only [execHandoverPull, hin, hnone]

end Sys2Proof.Machine
end

section
/-! The field network: associations and the legacy mailbox (R519-R534). -/

namespace Sys2Proof.Machine

/-- A request that is served answers as its row does. -/
theorem request_next {s t : State} {f : OpdunHdr} {x : Assoc} (hs : s.servedOf f x) {go : State → Assoc → State}
    (hgo : go (s.asked f x) { x with lastTick := (s.arrivalWakes 2).tick, port := f.port } = t) : (.next (s.request f go) : Out) = .next t :=
  next_eq ((request_ok hs go).trans hgo)

/-- Settles O46: how an association begins, what its requests do and when it ends. -/
theorem fieldRequests : Obligations.FieldRequests := by
  unfold Obligations.FieldRequests
  intro s f x part lo hi minor feat a
  refine ⟨fun hserved => ?_, fun hserved => ?_, fun hassoc => ⟨fun hsilent => ?_, fun hheard => ?_, fun b hfrag hlate => ?_⟩⟩
  · intro u reply
    refine ⟨fun hminor hmajor hlo => ⟨fun n hfree => ?_, fun hfull => ?_⟩, fun hmajor => ?_, next_eq (datagram_ok hserved _)⟩
    · have hmeet : minor < 65536 ∧ 1 ≤ min hi 2 ∧ lo ≤ min hi 2 := ⟨hminor, hmajor, hlo⟩
      refine next_eq ((datagram_ok hserved _).trans ((if_pos hmeet).trans ?_))
      simp only [show mpickFree (s.arrivalWakes 2).mgmt.assocs 1 9 = some (n + 1) from hfree, beq_iff_eq]
      rfl
    · have hmeet : minor < 65536 ∧ 1 ≤ min hi 2 ∧ lo ≤ min hi 2 := ⟨hminor, hmajor, hlo⟩
      refine next_eq ((datagram_ok hserved _).trans ((if_pos hmeet).trans ?_))
      simp only [show mpickFree (s.arrivalWakes 2).mgmt.assocs 1 9 = none from hfull]
      rfl
    · exact next_eq ((datagram_ok hserved _).trans (if_neg fun ⟨_, _, hlo⟩ => absurd hlo (Nat.not_le.2 hmajor)))
  · intro u y judged
    refine ⟨request_next hserved rfl, fun hpart => ⟨fun hfrag hfirst hlast => ?_, fun hfrag hfirst hmore => ?_, fun b hfrag hreq hlate hnext hlast => ?_⟩⟩
    · have hpart' : ¬ (y.features / 2 % 2 == 0) = true := by simp [y, hpart]
      refine request_next hserved ((if_neg hpart').trans ?_)
      split
      next b hsome => exact absurd (hfrag.symm.trans hsome) (by simp)
      next => exact (if_neg (by simp [hfirst])).trans (if_neg (by simp [hlast]))
    · have hpart' : ¬ (y.features / 2 % 2 == 0) = true := by simp [y, hpart]
      refine request_next hserved ((if_neg hpart').trans ?_)
      split
      next b hsome => exact absurd (hfrag.symm.trans hsome) (by simp)
      next => exact (if_neg (by simp [hfirst])).trans (if_pos hmore)
    · have hpart' : ¬ (y.features / 2 % 2 == 0) = true := by simp [y, hpart]
      refine request_next hserved ((if_neg hpart').trans ?_)
      have hlate' : (s.asked f x).fragLate b = false := hlate
      split
      next c hsome =>
        obtain rfl := Option.some.inj (hfrag.symm.trans hsome)
        exact (if_neg (by simp [hlate'])).trans ((if_pos (by simp [hreq, hnext])).trans (if_neg (by simp [hlast])))
      next hnone => exact absurd (hfrag.symm.trans hnone) (by simp)
  · show execOpdunIdleTimeout a s = _
    simp only [execOpdunIdleTimeout, hassoc, if_pos hsilent]
  · show execOpdunIdleTimeout a s = _
    simp only [execOpdunIdleTimeout, hassoc, if_neg (Nat.not_lt.2 hheard)]
  · have hlate' : s.fragLate b = true := decide_eq_true hlate
    show execOpdunFragmentTimeout a s = _
    simp only [execOpdunFragmentTimeout, hassoc, hfrag, hlate', if_true]
    rfl

/-- A mailbox command that reads one object answers with what it reads. -/
theorem mailRead_one {s t : State} {cmd seq i : Nat} {j : Nat} {v : Octets} {form : List Octets → Nat × Nat × Octets}
    (h : s.readObject (.legacy cmd seq) i j = (St.OK, v, t)) :
    s.mailRead cmd seq [(i, j)] form = t.mailReply ⟨cmd, seq, (form [v]).1, (form [v]).2.1, 0, (form [v]).2.2⟩ := by
  simp [State.mailRead, h]

/-- A mailbox command that reads two objects answers with both. -/
theorem mailRead_two {s : State} {cmd seq i₁ j₁ i₂ j₂ : Nat} {v₁ v₂ : Octets} {form : List Octets → Nat × Nat × Octets}
    (h₁ : s.readObject (.legacy cmd seq) i₁ j₁ = (St.OK, v₁, s)) (h₂ : s.readObject (.legacy cmd seq) i₂ j₂ = (St.OK, v₂, s)) :
    s.mailRead cmd seq [(i₁, j₁), (i₂, j₂)] form =
      s.mailReply ⟨cmd, seq, (form [v₁, v₂]).1, (form [v₁, v₂]).2.1, 0, (form [v₁, v₂]).2.2⟩ := by
  simp [State.mailRead, h₁, h₂]

/-- A mailbox command that reads three objects answers with the three. -/
theorem mailRead_three {s : State} {cmd seq i₁ j₁ i₂ j₂ i₃ j₃ : Nat} {v₁ v₂ v₃ : Octets} {form : List Octets → Nat × Nat × Octets}
    (h₁ : s.readObject (.legacy cmd seq) i₁ j₁ = (St.OK, v₁, s)) (h₂ : s.readObject (.legacy cmd seq) i₂ j₂ = (St.OK, v₂, s))
    (h₃ : s.readObject (.legacy cmd seq) i₃ j₃ = (St.OK, v₃, s)) :
    s.mailRead cmd seq [(i₁, j₁), (i₂, j₂), (i₃, j₃)] form =
      s.mailReply ⟨cmd, seq, (form [v₁, v₂, v₃]).1, (form [v₁, v₂, v₃]).2.1, 0, (form [v₁, v₂, v₃]).2.2⟩ := by
  simp [State.mailRead, h₁, h₂, h₃]

/-- Settles O47: each command of the mailbox is the reads or the write of its objects. -/
theorem mailboxRows : Obligations.MailboxRows := by
  unfold Obligations.MailboxRows
  intro s m v1 v2 v3 hs u r reads
  have hrow : ∀ {cmd : Nat} {go : State → State} {t : State}, go u = t → (.next (s.mailbox m cmd go) : Out) = .next t :=
    fun hgo => next_eq ((mailbox_ok hs _ _).trans hgo)
  refine ⟨fun h1 h2 h3 => hrow (mailRead_three h1 h2 h3), fun h1 h2 => hrow (mailRead_two h1 h2), fun harg h1 => hrow ?_, fun h1 => hrow (mailRead_one h1),
    fun t h1 => hrow (mailRead_one h1), hrow rfl, fun harg => ⟨fun h1 => hrow ?_, hrow ?_⟩, hrow rfl, ⟨_, rfl, hrow rfl⟩, hrow rfl,
    fun h1 => hrow (mailRead_one h1), fun h1 h2 => hrow (mailRead_two h1 h2)⟩
  · exact (if_neg (Nat.not_le.2 harg)).trans (mailRead_one h1)
  · exact (if_neg (Nat.not_le.2 harg)).trans (mailRead_one h1)
  · exact if_neg (Nat.not_le.2 harg)

end Sys2Proof.Machine
end

section
/-! Keys, capabilities, firmware, attestation and the calendar (R535-R549). -/

namespace Sys2Proof.Machine

/-- A firmware command that its handler carries out is recorded and answered as an object write. -/
theorem fwCommand_ok {s t : State} {w : Writer} {code : Nat} {go : State → State × Nat} (h : s.accepts w Ob.fw_command 0 [BitVec.ofNat 8 code])
    (hgo : go s = (t, St.OK)) : s.fwCommand w code go = t.carriedOut w Ob.fw_command 0 [BitVec.ofNat 8 code] :=
  command_ok h hgo

/-- The commit of a slot whose key is complete and that may hold an owner's key makes the key the slot's (R535-R538). -/
theorem keyCommit_of_key {s : State} {w : Writer} {k : Nat} {lo hi : Octets} (hlo : (s.keySlot k).lo = some lo) (hhi : (s.keySlot k).hi = some hi)
    (hpurpose : k = 0 ∨ s.obj Ob.tk_purpose k % 2 = 0) :
    s.keyCommit w k =
      let fp := Config.shake256 (lo ++ hi) 32
      let u := ((s.setKeySlot k ⟨none, none, some (lo ++ hi)⟩).setStr Ob.tk_fingerprint k fp).setObj Ob.tk_state k 2
      let u := (u.measure Ev.TRUSTED_KEY_CHANGED 3 (writerSource w) k fp).tileEvent Ev.TRUSTED_KEY_CHANGED k 0
      (if k = 0 then ((u.setObj Ob.sec_state 0 1).measure Ev.OWNER_CHANGED 7 (writerSource w) 0 fp).tileEvent
        Ev.OWNER_CHANGED (ofLE (slice fp 0 8)) 0 else u, St.OK) := by
  have hmay : ¬ (s.obj Ob.tk_purpose k % 2 = 1 ∧ k ≠ 0) := by omega
  simp only [State.keyCommit, hlo, hhi, if_neg hmay, beq_iff_eq]
  by_cases hk : k = 0
  · subst hk
    rfl
  · simp only [if_neg hk]

/-- Clearing a slot empties it, and clearing the owner's key ends ownership (R538). -/
theorem keyClear_eq (s : State) (w : Writer) (k : Nat) :
    s.keyClear w k =
      let zero := List.replicate 32 (0 : Byte)
      let u := ((s.setKeySlot k ⟨none, none, none⟩).setStr Ob.tk_fingerprint k zero).setObj Ob.tk_state k 0
      let u := (u.measure Ev.TRUSTED_KEY_CHANGED 3 (writerSource w) k zero).tileEvent Ev.TRUSTED_KEY_CHANGED k 0
      (if k = 0 ∧ (s.keySlot 0).key.isSome = true then ((u.setObj Ob.sec_state 0 0).measure Ev.OWNER_CHANGED 7 (writerSource w) 0 zero).tileEvent
        Ev.OWNER_CHANGED 0 0 else u, St.OK) := by
  simp only [State.keyClear, Bool.and_eq_true, beq_iff_eq]
  by_cases howned : k = 0 ∧ (s.keySlot 0).key.isSome = true
  · obtain ⟨rfl, hkey⟩ := howned
    simp only [hkey, and_self, if_true]
  · simp only [if_neg howned]

/-- Verifying staged bytes keeps what they were found to be (R546). -/
theorem fwVerify_of_staged {s : State} {src : Nat} (hstaged : (s.fwSlot s.spareSlot).state = 1) {img : Option FwImage} {st : Nat}
    (himg : fwImageOf (s.fwSlot s.spareSlot).bytes = img) (hst : img.elim St.FW_CORRUPT s.fwCheck = st) :
    s.fwVerify src =
      (((s.setFwSlot s.spareSlot { s.fwSlot s.spareSlot with image := img, state := if st = St.OK then 2 else 5 }).setObj Ob.fw_status 0 st).mpLogAdd
        st 0xFF src s.spareSlot [], St.OK) := by
  subst himg hst
  refine (if_neg (fun hne => hne hstaged)).trans ?_
  cases fwImageOf (s.fwSlot s.spareSlot).bytes <;> rfl

/-- Writing a firmware slot does not choose another spare one. -/
theorem spareSlot_setFwSlot (s : State) (n : Nat) (x : FwSlot) : (s.setFwSlot n x).spareSlot = s.spareSlot := by
  cases hn : n == 0 <;> simp [State.setFwSlot, State.spareSlot, hn, State.setObj]

/-- Erasing empties the slot that does not run (R546). -/
theorem fwErase_eq (s : State) (src : Nat) :
    s.fwErase src = (((s.setFwSlot s.spareSlot ⟨0, none, []⟩).setObj Ob.fw_status 0 St.OK).mpLogAdd St.OK 0xFF src s.spareSlot [], St.OK) := by
  simp only [State.fwErase, spareSlot_setFwSlot]

/-- Settles O48: what the commands on keys, capabilities, firmware, attestation and the calendar do. -/
theorem keysAndFirmware : Obligations.KeysAndFirmware := by
  unfold Obligations.KeysAndFirmware
  intro s w k n v part lo hi nonce src im
  refine ⟨fun hok hclaim hlo hhi hpurpose => ?_, fun hok => next_eq (command_ok hok (keyClear_eq s w (k % 16))), fun hok => ?_, ?_,
    fun hrun htrial => ⟨fun hok => ?_, fun hlate hheld => ?_, fun hearly => ?_⟩,
    fun hok hidle => next_eq (command_ok hok (if_neg (by simpa using hidle))), fun hbusy => next_eq (if_pos (by simpa using hbusy)),
    fun hok => next_eq (command_ok hok rfl), fun hpending => ?_, fun hpending => ?_⟩
  · exact next_eq ((if_neg (by simp [hclaim])).trans (command_ok hok (keyCommit_of_key hlo hhi hpurpose)))
  · intro c all
    refine ⟨fun hmore => next_eq (command_ok hok (Prod.ext (if_pos hmore) rfl)), fun hall hgood => ?_⟩
    exact next_eq (command_ok hok (Prod.ext ((if_neg (Nat.not_lt.2 hall)).trans (by rw [hgood]; rfl)) rfl))
  · intro x logged
    refine ⟨fun hok => next_eq (fwCommand_ok hok rfl), fun hok => ?_, fun hok hstaged himg => ?_, fun hok hstaged himg => ?_, fun hok hverified => ?_,
      fun hok => next_eq (fwCommand_ok hok (fwErase_eq s _)), fun hok hother => ?_⟩
    · refine next_eq (command_ok hok ?_)
      simp only [State.fwChunk, beq_iff_eq]
      rfl
    · exact next_eq (fwCommand_ok hok (fwVerify_of_staged hstaged himg rfl))
    · exact next_eq (fwCommand_ok hok (fwVerify_of_staged hstaged himg rfl))
    · exact next_eq (fwCommand_ok hok (if_neg (fun hne => hne hverified)))
    · exact next_eq (command_refused (t := s) hok (if_pos hother) (by decide))
  · refine next_eq (fwCommand_ok hok ?_)
    simp only [State.fwConfirm, hrun, htrial, ne_eq, not_true_eq_false, if_false]
  · show execFwTrialTimeout s = _
    simp only [execFwTrialTimeout, hrun, if_pos (show _ ∧ _ ∧ _ from ⟨htrial, hlate, hheld⟩)]
  · have hwait : ¬ ((s.fwSlot n).state = 3 ∧ s.mgmt.trialStart + s.obj Ob.fw_trial_ticks 0 ≤ s.tick ∧ s.pwr.held = false) :=
      fun ⟨_, hlate, _⟩ => absurd hlate (Nat.not_le.2 hearly)
    show execFwTrialTimeout s = _
    simp only [execFwTrialTimeout, hrun, if_neg hwait]
  · intro calendar err
    refine ⟨fun hstep => ?_, fun hslew => ?_⟩
    · show execCalendarSecond s = _
      simp only [execCalendarSecond, State.calendarEdge, hpending]
      exact next_eq (if_pos hstep)
    · have hmin : min 100000 err = err := Int.min_eq_right hslew
      show execCalendarSecond s = _
      simp only [execCalendarSecond, State.calendarEdge, hpending]
      refine next_eq ((if_neg (Int.not_lt.2 hslew)).trans ?_)
      rw [← hmin]
  · show execCalendarSecond s = _
    simp only [execCalendarSecond, State.calendarEdge, hpending]

end Sys2Proof.Machine
end

section
/-! Deep sleep, the wake governor, the power governor and the thermal limits (R550-R565). -/

namespace Sys2Proof.Machine

/-- No limit is passed where every one of them is at or above its reading. -/
theorem find_over_none {ls : List (Nat × Nat × Nat)} (h : ∀ y ∈ ls, 20 * y.2.1 ≤ y.2.2) :
    ls.find? (fun x => decide (x.2.2 < 20 * x.2.1)) = none := by
  rw [List.find?_eq_none]
  intro y hy
  simpa using h y hy

/-- Settles O49: what deep sleep, the wake governor, the power governor and the thermal limits do. -/
theorem powerRows : Obligations.PowerRows := by
  unfold Obligations.PowerRows
  intro s w cause pin half n d k r x
  refine ⟨fun hok => ⟨fun hawake hready => ?_, fun hbusy => ?_⟩, fun h0 hm0 hm1 hticks hready hquiet => ⟨fun hlong => ?_, fun hshort => ?_⟩,
    fun hcause => ?_, fun hhalf htick hdeep hheld => ?_, fun hwaking => ⟨fun hdue => ?_, fun hearly => ?_⟩, ?_, rfl, fun htrip hheld => ?_,
    fun htop => next_eq (if_pos htop), fun hnone => ?_, fun hcool => next_eq (if_neg (Int.not_le.2 hcool))⟩
  · have hfits : (s.powerState == 0 && s.deepReady w) = true := by simp [hawake, hready]
    show execDeepSleep w s = _
    rw [execDeepSleep, hfits, powerCommand_ok hok]
  · have hfits : (s.powerState == 0 && s.deepReady w) = false := by
      rcases hbusy with h | h <;> simp [h]
    show execDeepSleep w s = _
    rw [execDeepSleep, hfits, powerCommand_busy hok]
  · show execAutonomousDeepSleep s = _
    simp [execAutonomousDeepSleep, h0, hm0, hm1, hticks, hready, hquiet, hlong]
  · show execAutonomousDeepSleep s = _
    simp [execAutonomousDeepSleep, hquiet, Nat.not_le.2 hshort]
  · show execDeepSleepWake cause pin s = _
    rcases hcause with rfl | rfl | ⟨rfl, hpin, hmask⟩ | ⟨rfl, hdead, hsoon⟩
    · rfl
    · rfl
    · simp [execDeepSleepWake, hpin, hmask]
    · simp [execDeepSleepWake, hdead, hsoon]
  · show execWakeWindow half s = _
    simp only [execWakeWindow, if_pos (show _ ∧ _ ∧ _ ∧ _ from ⟨hhalf, htick, hdeep, hheld⟩), List.isEmpty_iff, beq_iff_eq]
  · show execClusterWakeDone n s = _
    simp only [execClusterWakeDone, hwaking, if_pos hdue]
  · show execClusterWakeDone n s = _
    simp only [execClusterWakeDone, hwaking, if_neg (Nat.not_le.2 hearly)]
  · intro u₀ u lims kept limiting v off
    refine ⟨fun hoff hnone => ?_, fun hsome hquiet => ?_, fun hsome hout y hy => ?_⟩
    · refine next_eq ?_
      split
      next y hy => exact absurd (hy.symm.trans (find_over_none hoff)) (by simp)
      next => exact if_pos (List.isEmpty_iff.2 hnone)
    · have hpull : ¬ limiting.isEmpty = true := fun h => hsome (List.isEmpty_iff.1 h)
      refine next_eq ?_
      split
      next y hy =>
        have hin : u.leversOut = false := hquiet.resolve_left fun hoff => absurd (hy.symm.trans (find_over_none hoff)) (by simp)
        exact (if_neg (ne_true_of_eq_false hin)).trans (if_neg hpull)
      next => exact if_neg hpull
    · intro t
      have hpull : ¬ limiting.isEmpty = true := fun h => hsome (List.isEmpty_iff.1 h)
      have ht : (if limiting.isEmpty then (v.setPwr { v.pwr with told := false }).releaseLever else v.pullLever) = v.pullLever := if_neg hpull
      refine next_eq ?_
      split
      next z hz =>
        obtain rfl := Option.some.inj (hy.symm.trans hz)
        refine (if_pos hout).trans ?_
        exact congrArg (fun g : State => if (g.bump Ob.cnt_power_limited_ticks 0).pwr.told = true then g.bump Ob.cnt_power_limited_ticks 0 else
          ((g.bump Ob.cnt_power_limited_ticks 0).setPwr { (g.bump Ob.cnt_power_limited_ticks 0).pwr with told := true }).tileEvent
            Ev.POWER_LIMITED (y.2.2 / 20 / 65536) 0) ht
      next hnone => exact absurd (hy.symm.trans hnone) (by simp)
  · show execThermalTrip s = _
    simp only [execThermalTrip, htrip, hheld, Bool.false_eq_true, if_false]
  · show execThermalTrip s = _
    rcases hnone with hcool | hheld
    · have hfind : s.pwr.tripRun.find? (fun p => decide (25 ≤ p.2)) = none := by
        rw [List.find?_eq_none]
        intro p hp
        simpa using hcool p hp
      simp only [execThermalTrip, hfind]
    · simp only [execThermalTrip, hheld, if_true]
      cases s.pwr.tripRun.find? (fun p => decide (25 ≤ p.2)) <;> rfl

end Sys2Proof.Machine
end

section
/-! Resets, start-up, the pins and the supplies (R566-R588). -/

namespace Sys2Proof.Machine

/-! What the flash holds is out of reach of everything that a power-on does. -/

/-- A fold of operations that each leave the flash leaves it. -/
theorem flash_foldl {α : Type} {f : State → α → State} (hf : ∀ s x, (f s x).dict.flash = s.dict.flash) (l : List α) (s : State) :
    (l.foldl f s).dict.flash = s.dict.flash := by
  induction l generalizing s with
  | nil => rfl
  | cons x l ih => exact (ih _).trans (hf s x)

/-- Putting a value at a key leaves the flash. -/
theorem putKey_flash (s : State) (key : Nat) (v : ObjVal) : (s.putKey key v).dict.flash = s.dict.flash := by
  unfold State.putKey
  cases objFind (key / 256) (key % 256) with
  | none => rfl
  | some p => cases v <;> rfl

/-- The objects that a reset does not keep go back without touching the flash. -/
theorem resetObjects_flash (s : State) (kept : List ObjSpec) : (s.resetObjects kept).dict.flash = s.dict.flash :=
  flash_foldl (f := fun s (p : Nat × ObjVal) => s.putKey p.1 p.2) (fun s p => putKey_flash s p.1 p.2) _ _

/-- Staging a tile of a snapshot leaves the flash. -/
theorem stage_flash (s : State) (half a : Nat) (t : Tile) : (s.stage half a t).dict.flash = s.dict.flash := by
  unfold State.stage
  extract_lets e u slot g v
  have hu : u.dict.flash = s.dict.flash := by
    unfold u
    split <;> rfl
  have hv : v.dict.flash = s.dict.flash := (congrArg Dict.flash (State.setEng_dict u half _)).trans hu
  split
  · exact hv
  · exact hv

/-- Copying a pending tile first leaves the flash. -/
theorem snapCopy_flash (s : State) (a : Nat) : (s.snapCopy a).dict.flash = s.dict.flash := by
  simp only [State.snapCopy]
  split
  · rfl
  · simp only [State.setTile_dict, State.setEng_dict, stage_flash]

/-- Writing a tile leaves the flash. -/
theorem writeTile_flash (s : State) (a : Nat) (t : Tile) : (s.writeTile a t).dict.flash = s.dict.flash := by
  unfold State.writeTile
  by_cases hp : s.pendingSnap a = true
  · have hcount : ∀ (u : State) (x : Option Session), (u.countCopy x).dict = u.dict := fun u x => by cases x <;> rfl
    simp only [hp, if_true, State.setTile_dict, hcount]
    exact snapCopy_flash s a
  · simp only [hp, Bool.false_eq_true, if_false, State.setTile_dict]

/-- Freeing a tile leaves the flash. -/
theorem freeTileAt_flash (s : State) (a : Nat) : (s.freeTileAt a).dict.flash = s.dict.flash :=
  congrArg Dict.flash ((State.freeTileAt_keeps (P := (· = .tier)) rfl a (keeps_refl s)).2.2 .dict (by decide))

/-- Taking a tile of the system region leaves the flash. -/
theorem allocSys_flash {s u : State} {half a : Nat} {t : Tile} (h : s.allocSys half t = some (a, u)) : u.dict.flash = s.dict.flash := by
  simp only [State.allocSys] at h
  split at h
  · obtain ⟨-, rfl⟩ := h
    exact writeTile_flash _ _ _
  · unfold State.allocT2 at h
    cases hrow : s.freeRow half with
    | none => simp [hrow] at h
    | some p =>
      simp only [hrow, Option.some.injEq, Prod.mk.injEq] at h
      obtain ⟨-, rfl⟩ := h
      have hfree := State.freeRow_keeps (P := (· = .free)) rfl half (keeps_refl s) p hrow
      exact (writeTile_flash _ _ _).trans (congrArg Dict.flash (hfree.2.2 .dict (by decide)))

/-- Compiling a stop set leaves the flash. -/
theorem compileStop_flash (s : State) (st k : Nat) (v : Octets) : (s.compileStop st k v).dict.flash = s.dict.flash := by
  unfold State.compileStop
  extract_lets key u w
  have hu : u.dict.flash = s.dict.flash := by
    unfold u
    cases mget s.text.stops key with
    | none => rfl
    | some a => exact freeTileAt_flash s a
  split
  · exact hu
  · split
    next => exact hu
    next a t hsys => exact (allocSys_flash hsys).trans hu

/-- Compiling the kept stop sets again leaves the flash. -/
theorem recompileStops_flash (s : State) : s.recompileStops.dict.flash = s.dict.flash := by
  refine flash_foldl (fun s p => ?_) _ _
  split
  · split
    · exact compileStop_flash _ _ _ _
    · rfl
  · rfl

/-- Compiling the kept stop sets again takes no tick. -/
theorem recompileStops_tick (s : State) : s.recompileStops.tick = s.tick :=
  (State.recompileStops_keeps (P := (· ≠ .tick)) (by decide) (by decide) (by decide) (by decide) (by decide) (keeps_refl s)).2.2 .tick (by decide)

/-- Compiling the kept stop sets again leaves the queue. -/
theorem recompileStops_pending (s : State) : s.recompileStops.pending = s.pending :=
  (State.recompileStops_keeps (P := fun _ => True) trivial trivial trivial trivial trivial (keeps_refl s)).1

/-- The objects that a reset does not keep go back in no tick. -/
theorem resetObjects_tick (s : State) (kept : List ObjSpec) : (s.resetObjects kept).tick = s.tick :=
  (State.resetObjects_keeps (P := (· ≠ .tick)) (by decide) kept (keeps_refl s)).2.2 .tick (by decide)

/-- The objects that a reset does not keep go back without touching the queue. -/
theorem resetObjects_pending (s : State) (kept : List ObjSpec) : (s.resetObjects kept).pending = s.pending :=
  (State.resetObjects_keeps (P := fun _ => True) trivial kept (keeps_refl s)).1

/-- POWER_ON starts the datum counter, records its kind, and keeps the flash and the queue (R568). -/
theorem restartPowerOn_spec (s : State) : s.restartPowerOn.tick = 0 ∧ s.restartPowerOn.obj Ob.id_last_reset 0 = 1 ∧
    s.restartPowerOn.dict.flash = s.dict.flash ∧ s.restartPowerOn.pending = s.pending := by
  refine ⟨?_, ?_, ?_, ?_⟩
  · exact (recompileStops_tick _).trans (resetObjects_tick _ _)
  · unfold State.restartPowerOn
    rw [State.obj_setObj_ne _ _ _ _ _ _ (by decide), State.obj_setObj_ne _ _ _ _ _ _ (by decide), State.obj_setObj]
  · exact (recompileStops_flash _).trans (resetObjects_flash _ _)
  · exact (recompileStops_pending _).trans (resetObjects_pending _ _)

/-- Settles O50: what the resets, the straps, the pins, the supplies and the crystal do. -/
theorem resetRows : Obligations.ResetRows := by
  unfold Obligations.ResetRows
  intro s w h levels up cons
  refine ⟨rfl, rfl, ⟨_, rfl, restartPowerOn_spec s⟩, fun hok => ⟨fun hfree => ?_, fun hheld => ?_⟩, fun hok => ⟨fun hidle => ?_, fun hbusy => ?_⟩,
    fun hok => ⟨fun hidle => ?_, fun hbusy => ?_⟩, fun hnew hsince => next_eq (if_pos ⟨hnew, hsince⟩), fun hslot hdeep hstarted => ?_,
    fun hhalf h0 h1 => ?_, rfl, rfl, rfl, rfl, rfl, ?_, ?_, rfl, rfl, fun hup => next_eq (if_pos hup), rfl⟩
  · show execWarmReset w s = _
    rw [execWarmReset, hfree, Bool.not_false, powerCommand_ok hok]
  · show execWarmReset w s = _
    rw [execWarmReset, hheld, Bool.not_true, powerCommand_busy hok]
  · show execResetHalf0 w s = _
    rw [execResetHalf0, hidle, Bool.not_false, powerCommand_ok hok]
  · show execResetHalf0 w s = _
    rw [execResetHalf0, hbusy, Bool.not_true, powerCommand_busy hok]
  · show execResetHalf1 w s = _
    rw [execResetHalf1, hidle, Bool.not_false, powerCommand_ok hok]
  · show execResetHalf1 w s = _
    rw [execResetHalf1, hbusy, Bool.not_true, powerCommand_busy hok]
  · have hgo : ¬ (s.tick % 125 ≠ 0 ∨ s.deep = true ∨ s.tick - s.tick % 1000 < s.pwr.since + 5250) := by
      rw [hdeep]
      simpa [hslot] using hstarted
    refine ⟨fun slot hs hne => ?_, fun hfirst hstate hlast => ?_, fun hfirst hstay => ?_⟩
    · subst hs
      refine next_eq ((if_neg hgo).trans ((if_neg fun ⟨hfirst, _⟩ => hne hfirst).trans ?_))
      simp only [if_neg hne, Nat.add_zero]
    · exact next_eq ((if_neg hgo).trans (if_pos ⟨hfirst, hstate, hlast⟩))
    · have hno : ¬ (s.tick % 1000 / 125 = 0 ∧ s.powerState = 1 ∧ s.pwr.lastFrame = true) :=
        fun ⟨_, hstate, hlast⟩ => hstay.elim (· hstate) (by simp [hlast])
      refine next_eq ((if_neg hgo).trans ((if_neg hno).trans ?_))
      simp only [hfirst, if_true]
  · have hmay : (decide (h < 2) && !s.fb.half0Lost && !s.fb.half1Lost) = true := by simp [hhalf, h0, h1]
    exact next_eq (if_pos hmay)
  · intro v htime hlow hhigh hquiet
    exact next_eq (if_pos ⟨by decide, htime, hlow, hhigh, hquiet⟩)
  · intro v htime hlow hhigh hquiet
    exact next_eq (if_pos ⟨by decide, htime, hlow, hhigh, hquiet⟩)

end Sys2Proof.Machine
end

section
/-! The state right after reset. -/

namespace Sys2Proof.Machine

/-- An object that the reset state does not list reads its default. -/
theorem objAt_reset (o : ObjSpec) (i j : Nat) (h : objKey o i j ∉ [0x1000 * 256 + 8, 0x1000 * 256 + 9, 0x2110 * 256 + 10, 0x7010 * 256 + 5]) :
    State.reset.objAt o i j = objDefault o i := by
  simp only [List.mem_cons, List.not_mem_nil, or_false, not_or] at h
  obtain ⟨h1, h2, h3, h4⟩ := h
  have hnone : mget State.reset.dict.od (objKey o i j) = none := by
    simp [State.reset, mget, Ne.symm h1, Ne.symm h2, Ne.symm h3, Ne.symm h4]
  simp only [State.objAt, hnone, Option.getD_none]

/-- No session is at any index at reset. -/
theorem sess_reset (n : Nat) : State.reset.sess n = none := by
  unfold State.sess
  split <;> rfl

/-- Settles O53: nothing runs, waits or is stored at reset, and the invariant holds there. -/
theorem resetState : Obligations.ResetState := by
  unfold Obligations.ResetState
  refine ⟨⟨List.forall_mem_nil _, reset_stores⟩, rfl, rfl, rfl, rfl, sess_reset, fun n => ?_, rfl, fun _ => rfl, rfl, rfl, rfl, rfl, fun _ _ => ⟨rfl, rfl⟩,
    fun _ _ => ⟨rfl, rfl⟩, rfl, rfl, objAt_reset, fun _ _ _ => rfl⟩
  rw [State.bySid, sess_reset, Option.bind_none]

end Sys2Proof.Machine
end
